-- ==== Sys2Proof/Word.lean ====
section
/-!
DEFINITION. The number types of the block. The spec's registers, fields and table elements have many widths
(1 bit to 64 KiB), so a stored value is a natural number below 2 to its width; the width stands beside it in the
dictionary (Machine/Dict.lean) or in the field map that a meaning cites.
-/
namespace Sys2Proof

/-- The value of a register, a table element or a field: a natural number below 2 to its width. -/
abbrev Word := Nat

/-- One octet of a frame or of a block of data, 0 to 255. -/
abbrev Byte := Nat

/-- Octets in the order in which they stand on the wire or in memory. -/
abbrev Bytes := List Byte

end Sys2Proof
end

