-- ==== Sys2Proof/Syntax.lean ====
section
/-!
DEFINITION. The commands: one constructor for every row of spec/opcode_table.json, in the table's order. The table
gives no operands, so the operands are the model's own (assumption log entry 3): an instance number where the
row acts on one of several instances, what a request carries, or what the outside world supplies at the event.
-/
namespace Sys2Proof

/-- A lane: 0 to 511 fabric, 512 + h host lane Hh (R14, R165). -/
abbrev LaneNo := Fin 520
/-- A port number (R12). -/
abbrev PortNo := Fin 643
/-- A fabric port number (R12). -/
abbrev FabricNo := Fin 512
/-- A host port, 0 for HP0, 1 for HP1. -/
abbrev HostNo := Fin 2
/-- A session number (R67). -/
abbrev SessionNo := Fin 16
/-- A queue of a port (R13). -/
abbrev QueueNo := Fin 16
/-- A bench (R2). -/
abbrev BenchNo := Fin 128
/-- A reservation (R323). -/
abbrev ResvNo := Fin 65536
/-- A cycle group (R372). -/
abbrev GroupNo := Fin 64
/-- A scalar, vector or tile register number, a microword operand. -/
abbrev SReg := Fin 64
abbrev VReg := Fin 32
abbrev TReg := Fin 16

/-- A ZDP request as it reaches the ZDP engine (R55 to R61): where it came from and its header fields. The
operation code is the command's row. -/
structure Request where
  /-- Port number of arrival (R57). -/
  port : PortNo
  /-- 0 Ethernet, 1 UDP over IPv4, 2 UDP over IPv6 (R92). -/
  addrKind : Nat
  /-- The host address as HOST_ADDR of R92 holds it, 18 octets. -/
  addr : Nat
  /-- The source MAC address of the frame (R57). -/
  mac : Nat
  /-- The frame's VLAN tags, outermost first, TPID and TCI of each in 32 bits (R57). -/
  vlans : List Nat
  /-- The EtherType, or the UDP destination port, of the frame (R55). -/
  service : Nat
  /-- The IP destination address of a UDP frame (R55). -/
  device : Nat
  /-- The checks of R58 on a UDP frame hold. -/
  carriageOk : Bool
  verFlags : Nat
  tag : Nat
  seq : Nat
  session : Nat
  index : Nat
  sub : Nat
  reserved : Nat
  length : Nat
  arg : Nat
  data : Bytes
  /-- Octets from the first header octet to the end of the payload (R62). -/
  payload : Nat
  /-- The management controller meets an internal fault on the request (R80). -/
  internal : Bool
deriving DecidableEq, Repr

/-- How a frame ends at the MAC (R171, R259, R143, R149). -/
inductive TailEnd where
  /-- A correct FCS. -/
  | good
  /-- A bad FCS. -/
  | badFcs
  /-- An FCS equal to the inverted CRC-32 (R259). -/
  | stomped
  /-- An error block (R143, R157). -/
  | codeError
  /-- An elastic buffer reached empty or full (R149). -/
  | elastic
deriving DecidableEq, Repr

/-- A condition with a level, as a regulator, sensor or monitor reports it. -/
inductive SenseLevel where
  | low | high
deriving DecidableEq, Repr

/-- What a pass of the tally's sweep found beside the units that the block's own state shows (R345, R347): units of a term that were not
there, or more than there should be, as a fault of the hardware leaves them. -/
structure SweepFinding where
  /-- Quantity code of R343. -/
  quantity : Nat
  /-- Partition 0 to 15; 16 the terms that belong to none; 255 a term of the device. -/
  partition : Nat
  /-- The term: its place in PARTITION_LEDGER, or in DEVICE_LEDGER; of a Dalzan credit ledger 3 (16 port + queue), plus 0 credits, 1 in
  flight, 2 held by the partner. -/
  term : Nat
  /-- Units of the term that the pass did not find, and units that it found beyond it. -/
  missing : Nat
  extra : Nat
  /-- The units found in no term (R347). -/
  orphans : List Nat
  /-- Holder kind and instance (R348), where the recount locates one. -/
  holder : Nat
deriving DecidableEq, Repr

/-- What a rail's regulator answers when the island samples it (R527, R529): whether its transactions succeeded with a VOUT_MODE
of ULINEAR16, READ_VOUT in mV, READ_IOUT in mA and READ_TEMPERATURE_1 in degrees, as a 32-bit word. -/
structure RailRead where
  rail : Fin 8
  ok : Bool
  voutMv : Nat
  ioutMa : Nat
  tempC : Nat
deriving DecidableEq, Repr

/-- The fields of a bench's scalar slot beside its operation (R426). -/
structure ScalarSlot where
  dst : SReg
  a : SReg
  b : SReg
  c : SReg
  immB : Bool
  setF : Bool
deriving DecidableEq, Repr

/-- The fields of a bench's vector slot beside its operation (R427). -/
structure VectorSlot where
  vd : VReg
  va : VReg
  vb : VReg
  vc : VReg
  mask : Fin 256
  sreg : SReg
deriving DecidableEq, Repr

/-- The fields of a bench's memory slot beside its operation (R428). -/
structure MemSlot where
  ra : SReg
  rb : SReg
  rc : SReg
  rd : SReg
  size : Fin 5
  signed : Bool
  immO : Bool
  offset : Fin 262144
deriving DecidableEq, Repr

/-- What the memories answer to the microword that a bench issues. -/
structure BenchEnv where
  /-- Error checking of the fetch (R454, R455): 0 clean, 1 a microword corrected, 2 a microword lost, 3 a nanoword corrected, 4 a
  nanoword lost. -/
  fetch : Fin 5
  /-- Slots to which port A writes in the core clock of a write of the bench (R360, R469). -/
  lost : List Nat
  /-- Retries of a pool write that was answered BUSY (R391, R468). -/
  busy : Nat
  /-- Single-bit errors that the pool corrected on the access (R460). -/
  corrected : Nat
  /-- The pool byte address of a word found uncorrectable, plus 1 (R467). -/
  poolBad : Nat
  /-- The access met an uncorrectable error in scratch (R408). -/
  scratchBad : Bool
deriving DecidableEq, Repr

/-- An error that the jig finds (R477, R483): element of the march, byte offset, expected and actual data. -/
structure JigError where
  element : Nat
  offset : Nat
  expected : Nat
  actual : Nat
deriving DecidableEq, Repr

/-- A fault that the start-up run of the jig finds (R478): `array` 0 pool, 1 bench scratch, 2 the signal image; bank or bench;
byte offset. -/
structure StartFault where
  array : Fin 3
  number : Nat
  offset : Nat
deriving DecidableEq, Repr

/-- What a start-up or a wake meets: the faults of the memories, and whether the register image of a wake fails its SECDED check
(R557). -/
structure StartEnv where
  bad : List StartFault
  imageBad : Bool
deriving DecidableEq, Repr

/-- Who asks for an address of the device (R58): its MAC address, and its own IP address, 0 where a solicitation has none. -/
structure AddressAsker where
  mac : Nat
  sender : Nat
deriving DecidableEq, Repr

/-- A lane that has finished training: what the far end has requested of its transmitter, PRE3 first (R150), and whether precoding is
negotiated (R142). -/
structure TrainedLane where
  lane : LaneNo
  taps : List Int
  precode : Bool
deriving DecidableEq, Repr

/-- What a lane has counted in an island millisecond (R165): corrected symbols, blocks with an invalid sync header, and, of the port, the
codewords with k corrected symbols, k from 0. -/
structure LaneErrors where
  symbols : Nat
  blocks : Nat
  codewords : List Nat
deriving DecidableEq, Repr

/-- The end of a sweep pass: of the island's slice, over the ZDP tags (R346), or of the core; and what it finds. -/
structure SweepReport where
  island : Bool
  findings : List SweepFinding
deriving DecidableEq, Repr

/-- What the outside world supplies of a received or internal frame: its octets from the destination address to the
last octet before the FCS. -/
abbrev FrameOctets := Bytes

/-- The commands. -/
inductive Instr where
  -- Zilmor Dictionary Protocol
  | read (q : Request)
  | write (q : Request)
  | blockRead (q : Request)
  | blockWrite (q : Request)
  /-- `posts`: counter events of the core clock of the commit (R508), number and amount; `lost`: slots of a commit of 0x7010
  to which a port-A write is made in the same core clock (R360). -/
  | windowCommit (q : Request) (posts : List (Nat × Nat)) (lost : List Nat)
  | parkedWatch (q : Request)
  | release (q : Request)
  | ping (q : Request)
  | openSession (q : Request)
  | close (q : Request)
  | sessionCloseComplete (n : SessionNo)
  | sessionIdleTimeout (n : SessionNo)
  | watchTimeout (n : SessionNo) (tag : Nat)
  | forceClose (w : SessionNo) (n : SessionNo)
  /-- `v6`: a neighbour solicitation, else an ARP request; `target`: the address asked for. -/
  | zdpArpRequest (h : HostNo) (v6 : Bool) (target : Nat) (who : AddressAsker)
  /-- `w`: the host's session, or none for the runtime of the management controller (R299, R308); `sets`: flags of a W1C
  sub-index that hardware sets in the same clock (R101). -/
  | registerWrite (w : Option SessionNo) (index sub value : Nat) (sets : Nat)
  -- Configuration store and windows
  | save (w : SessionNo)
  | saveDone (verified : Bool)
  | restore (w : SessionNo)
  | restoreDone
  | clearSaved (w : SessionNo)
  | clearSavedDone
  | applyDefaults (w : SessionNo)
  | acceptImport (w : SessionNo)
  | importCheckDone
  | importBlock (w : SessionNo) (offset : Nat) (data : Bytes)
  | stage (w : SessionNo) (window : Nat) (offset : Nat) (data : Bytes)
  /-- `which`: 1 TARGET, 2 BASE, 3 COUNT. -/
  | windowRangeWrite (w : SessionNo) (window : Nat) (which : Nat) (value : Nat)
  | abort (w : SessionNo) (window : Nat)
  -- Presence, seal, life cycle
  | keyAsserted
  | keyReleased
  | presenceWindowExpiry
  | presenceClose (w : SessionNo)
  | sealOpened
  | sealClosed
  | wipeStart
  /-- `bad`: addresses of the sealed bank that do not read back 0 (R134). -/
  | wipeDone (bad : List Nat)
  | enrol (w : SessionNo)
  | rearm (w : SessionNo)
  | decommission (w : SessionNo)
  | returnToFactory (w : SessionNo)
  | publicKey (w : SessionNo) (slot : Fin 4) (key : Nat)
  | revoke (w : SessionNo) (slot : Fin 4)
  -- Lanes
  | signalDetected (n : LaneNo)
  | cdrLocked (n : LaneNo)
  | trainingComplete (trained : TrainedLane)
  /-- The values converged to: CTLE code, FFE and DFE taps, frequency difference (R165). -/
  | adaptationConverged (n : LaneNo) (ctle ffe dfe ppm : Nat)
  | dataEntered (n : LaneNo)
  | trainingFailed (n : LaneNo)
  | bringupSignalLost (n : LaneNo)
  | signalLost (n : LaneNo)
  | cdrUnlock (n : LaneNo)
  | lockLost (n : LaneNo)
  | ucwRetrain (n : LaneNo)
  | retrain (w : SessionNo) (n : LaneNo)
  | farEndTraining (n : LaneNo)
  | fastRetrainTimeout (n : LaneNo)
  | serAlarm (n : LaneNo) (errors : LaneErrors)
  | uncorrectedCw (n : LaneNo)
  /-- `tx`: the transmit buffer, else the receive buffer; `fill`: its fill when the gap arrives; `gap`: its octets. -/
  | shimDelete (n : LaneNo) (tx : Bool) (fill : Fin 65) (gap : Nat)
  | shimInsert (n : LaneNo) (tx : Bool) (fill : Fin 65)
  | elasticFault (n : LaneNo) (tx : Bool)
  /-- `tap`: 0 PRE3, 1 PRE2, 2 PRE1, 3 MAIN, 4 POST1. -/
  | txTapWrite (w : SessionNo) (n : LaneNo) (tap : Fin 5) (value : Nat)
  | loopback (w : SessionNo) (n : LaneNo) (value : Nat)
  | prbsTx (w : SessionNo) (n : LaneNo) (value : Nat)
  | prbsRx (w : SessionNo) (n : LaneNo) (value : Nat)
  | prbsLock (n : LaneNo)
  /-- `counted`, `errors`: bits compared and in error since the last command on the checker (R161). -/
  | prbsLockLost (n : LaneNo) (counted errors : Nat)
  | prbsClear (w : SessionNo) (n : LaneNo)
  | eyeStart (w : SessionNo) (n : LaneNo) (eye : Nat)
  /-- `map`: the mismatch counts measured (R162). -/
  | eyeScanDone (n : LaneNo) (map : Bytes)
  -- Ports and Dalzan links
  | apply (w : SessionNo) (octet : Fin 64)
  | linkUp (p : Fin 514)
  | localFault (p : Fin 514)
  | remoteFault (p : Fin 514)
  | pause (p : Fin 514) (quanta : Nat)
  /-- `enable`: the class-enable vector; `times`: the eight time fields, class 0 first. -/
  | pfc (p : Fin 514) (enable : Nat) (times : List Nat)
  | pfcPauseExpiry (p : FabricNo) (cls : Fin 8)
  | pauseRepeat (h : HostNo)
  | bypassFrameStart (h : HostNo)
  | dcbInitSend (p : FabricNo)
  /-- `octets`: the 31 octets of the DCB (R180). -/
  | dcbInitReceived (p : FabricNo) (octets : Bytes)
  | dcbCreditSend (p : FabricNo)
  | dcbCreditReceived (p : FabricNo) (octets : Bytes)
  | creditTimeout (p : FabricNo) (group : Fin 4)
  | linkReset (w : SessionNo) (p : FabricNo)
  -- Pipeline and buffer
  /-- `queue`: the credit queue of a Dalzan frame; `octets`: those received by now. -/
  | frameStart (p : Fin 514) (queue : QueueNo) (octets : FrameOctets)
  /-- `frame`: the frame; `octets`: further octets received by now. -/
  | parserStart (frame : Nat) (octets : FrameOctets)
  | bufferAdmission (frame : Nat)
  | frameTail (frame : Nat) (octets : FrameOctets) (tail : TailEnd)
  | injectPresent (p : PortNo)
  | schedulerSelection (p : PortNo)
  | copyTxStart (p : PortNo)
  | copyTxEnd (p : PortNo)
  | aged (copy : Nat)
  | bankSwitch
  | applyStages (w : SessionNo)
  -- Queues
  | refillTick
  | portSchedWrite (w : SessionNo) (p : PortNo) (sub value : Nat)
  | unblock (w : SessionNo) (policer : Nat)
  | pfcRefresh (p : FabricNo) (cls : Fin 8)
  | watchdogFired (p : FabricNo) (q : QueueNo)
  | watchdogRecovered (p : FabricNo) (q : QueueNo)
  | pauseFault (p : FabricNo) (q : QueueNo)
  | hwmClear (w : SessionNo) (p : PortNo) (mask : Nat)
  -- Time and gates
  /-- `runtime`: the servo of the vendor runtime writes, else the host. -/
  | measuredOffset (runtime : Bool) (w : SessionNo) (offset : Nat)
  | reportTimeout
  | holdoverTimeout
  | offsetAdj (runtime : Bool) (w : SessionNo) (amount : Nat)
  | setTime (runtime : Bool) (w : SessionNo) (time : Nat)
  | servoMode (w : SessionNo) (mode : Nat)
  | gateListResume (p : PortNo)
  | gateEdge (p : PortNo)
  | listSwapped (p : PortNo)
  | cancelPending (w : SessionNo) (p : PortNo)
  | removeList (w : SessionNo) (p : PortNo)
  -- Reservations and dovetail
  | resvCommitApply
  | resvReturnActive (n : ResvNo)
  | boundQuery (w : SessionNo) (n : ResvNo)
  | heartbeat (w : SessionNo)
  | heartbeatTimeout
  | peerHealthyChange (level : SenseLevel)
  | lossHoldExpiry
  | partnerWaitExpiry
  | revert (w : SessionNo)
  | role (w : SessionNo) (value : Nat)
  | mirrorPeriod (m : Fin 16)
  | cbHistoryReset (stream : Fin 4096)
  -- Tally
  | sweepPassEnd (report : SweepReport) (env : StartEnv)
  | fence (w : SessionNo) (holder : Nat)
  | reclaimStart
  | reclaimDone
  | unfence (w : SessionNo) (holder : Nat)
  | leaseExpired (holder : Nat)
  | epochStart (w : SessionNo)
  | snapshot (w : SessionNo)
  -- Signal image
  /-- `other`: a pipeline whose oldest handoff is decoded from the same core clock on (R360). -/
  | signalEngineWrite (pipe : Fin 64) (others : List (Fin 64))
  | staleCheck
  /-- `lost`: a write is lost in the same core clock (R360). -/
  | clearWriteLost (w : SessionNo) (slot : Nat) (lost : Bool)
  | cycleGroupEnable (w : SessionNo) (g : GroupNo)
  | applyTiming (w : SessionNo) (g : GroupNo)
  | cycleStart (g : GroupNo)
  | benchTrigger (g : GroupNo)
  | publicationRun (l : Fin 4096)
  | signalSnapshot (w : SessionNo)
  -- Benches
  | submit (w : SessionNo) (descriptor : Bytes)
  | cancelClass (w : SessionNo) (c : Nat)
  | jobDispatch
  | benchIntStart (b : BenchNo)
  | run (w : SessionNo) (b : BenchNo)
  | halt (w : SessionNo) (b : BenchNo)
  | benchReset (w : SessionNo) (b : BenchNo)
  | benchResetClear (w : SessionNo) (b : BenchNo)
  | runLimit (b : BenchNo)
  | barrierTimeout (k : Fin 32)
  | tileStartAdmitted
  /-- `lost`: as in R360, where the write is of CLEAR_WRITE_LOST. -/
  | dictDone (b : BenchNo) (lost : Bool)
  | benchFramePresent (b : BenchNo)
  -- Microcode execution: the microwords that a bench fetches at its program counter
  | execMicroword (b : BenchNo) (e : BenchEnv)
  | branch (b : BenchNo) (e : BenchEnv)
  | nop (b : BenchNo) (e : BenchEnv)
  | jump (b : BenchNo) (e : BenchEnv)
  | call (b : BenchNo) (e : BenchEnv)
  | ret (b : BenchNo) (e : BenchEnv)
  | loop (b : BenchNo) (e : BenchEnv)
  | sync (b : BenchNo) (e : BenchEnv)
  | trap (b : BenchNo) (e : BenchEnv)
  | loadimmSet (b : BenchNo) (e : BenchEnv)
  | loadimmShift (b : BenchNo) (e : BenchEnv)
  -- The operations of a nanoword, each as its unit performs it: `x` its slot, `imm` the IMM of its microword
  | add (b : BenchNo) (x : ScalarSlot) (imm : Fin 262144)
  | sub (b : BenchNo) (x : ScalarSlot) (imm : Fin 262144)
  | and (b : BenchNo) (x : ScalarSlot) (imm : Fin 262144)
  | or (b : BenchNo) (x : ScalarSlot) (imm : Fin 262144)
  | xor (b : BenchNo) (x : ScalarSlot) (imm : Fin 262144)
  | shl (b : BenchNo) (x : ScalarSlot) (imm : Fin 262144)
  | shr (b : BenchNo) (x : ScalarSlot) (imm : Fin 262144)
  | sar (b : BenchNo) (x : ScalarSlot) (imm : Fin 262144)
  | cmp (b : BenchNo) (x : ScalarSlot) (imm : Fin 262144)
  | mov (b : BenchNo) (x : ScalarSlot) (imm : Fin 262144)
  | mul (b : BenchNo) (x : ScalarSlot) (imm : Fin 262144)
  | divu (b : BenchNo) (x : ScalarSlot) (imm : Fin 262144)
  | divs (b : BenchNo) (x : ScalarSlot) (imm : Fin 262144)
  | remu (b : BenchNo) (x : ScalarSlot) (imm : Fin 262144)
  | rems (b : BenchNo) (x : ScalarSlot) (imm : Fin 262144)
  | mins (b : BenchNo) (x : ScalarSlot) (imm : Fin 262144)
  | maxs (b : BenchNo) (x : ScalarSlot) (imm : Fin 262144)
  | fadd (b : BenchNo) (x : ScalarSlot) (imm : Fin 262144)
  | fsub (b : BenchNo) (x : ScalarSlot) (imm : Fin 262144)
  | fmul (b : BenchNo) (x : ScalarSlot) (imm : Fin 262144)
  | fma (b : BenchNo) (x : ScalarSlot) (imm : Fin 262144)
  | fdiv (b : BenchNo) (x : ScalarSlot) (imm : Fin 262144)
  | fsqrt (b : BenchNo) (x : ScalarSlot) (imm : Fin 262144)
  | fcmp (b : BenchNo) (x : ScalarSlot) (imm : Fin 262144)
  | itof (b : BenchNo) (x : ScalarSlot) (imm : Fin 262144)
  | ftoi (b : BenchNo) (x : ScalarSlot) (imm : Fin 262144)
  | vget (b : BenchNo) (x : ScalarSlot) (imm : Fin 262144)
  | vadd (b : BenchNo) (x : VectorSlot)
  | vsub (b : BenchNo) (x : VectorSlot)
  | vmul (b : BenchNo) (x : VectorSlot)
  | vfma (b : BenchNo) (x : VectorSlot)
  | vmin (b : BenchNo) (x : VectorSlot)
  | vmax (b : BenchNo) (x : VectorSlot)
  | vcmplt (b : BenchNo) (x : VectorSlot)
  | vsel (b : BenchNo) (x : VectorSlot)
  | vdiv (b : BenchNo) (x : VectorSlot)
  | vsqrt (b : BenchNo) (x : VectorSlot)
  | vhsum (b : BenchNo) (x : VectorSlot)
  | vbcast (b : BenchNo) (x : VectorSlot)
  | vshuf (b : BenchNo) (x : VectorSlot)
  | vcvti (b : BenchNo) (x : VectorSlot)
  | vcvtf (b : BenchNo) (x : VectorSlot)
  | ld (b : BenchNo) (x : MemSlot) (imm : Fin 262144) (e : BenchEnv)
  | st (b : BenchNo) (x : MemSlot) (imm : Fin 262144) (e : BenchEnv)
  | pld (b : BenchNo) (x : MemSlot) (imm : Fin 262144) (e : BenchEnv)
  | pst (b : BenchNo) (x : MemSlot) (imm : Fin 262144) (e : BenchEnv)
  | pmoveIn (b : BenchNo) (x : MemSlot) (imm : Fin 262144) (e : BenchEnv)
  | pmoveOut (b : BenchNo) (x : MemSlot) (imm : Fin 262144) (e : BenchEnv)
  | sread (b : BenchNo) (x : MemSlot) (imm : Fin 262144) (e : BenchEnv)
  | sgather (b : BenchNo) (x : MemSlot) (imm : Fin 262144) (e : BenchEnv)
  | swrite (b : BenchNo) (x : MemSlot) (imm : Fin 262144) (e : BenchEnv)
  | sscatter (b : BenchNo) (x : MemSlot) (imm : Fin 262144) (e : BenchEnv)
  | fsend (b : BenchNo) (x : MemSlot) (imm : Fin 262144) (e : BenchEnv)
  | tzero (b : BenchNo) (t : TReg)
  | touter (b : BenchNo) (t : TReg) (va vb : VReg)
  | tmma (b : BenchNo) (t : TReg) (ra rb rk : SReg) (e : BenchEnv)
  | tread (b : BenchNo) (t : TReg) (row : Fin 8) (vd : VReg)
  | tstore (b : BenchNo) (t : TReg) (ra : SReg) (e : BenchEnv)
  /-- `cw`: the control word; `reg`: the register that receives it. -/
  | cwordRead (b : BenchNo) (cw : Fin 32) (reg : SReg)
  /-- `value`, here and below: the 64 bits written. -/
  | cwordWrite (b : BenchNo) (cw : Fin 32) (value : Nat)
  | complete (b : BenchNo) (value : Nat)
  | barrier (b : BenchNo) (value : Nat)
  | raise (b : BenchNo)
  | intClaim (b : BenchNo) (reg : SReg)
  | intComplete (b : BenchNo) (value : Nat)
  | dictValue (b : BenchNo) (value : Nat)
  | rxRing (b : BenchNo) (value : Nat)
  | rxHead (b : BenchNo) (value : Nat)
  -- Loader
  | package (w : SessionNo) (pipe : Bool) (offset : Nat) (data : Bytes)
  | load (w : SessionNo) (pipe : Bool)
  | loadAbort (w : SessionNo) (pipe : Bool)
  | loadVerified (pipe : Bool)
  | persistDone (pipe : Bool)
  /-- `pipe`: 0 to 63 ingress, 64 to 127 egress; `nano`: a nanoword, at `addr`; `clean`: another pipeline holds a clean copy. -/
  | pipeWordRepair (pipe : Fin 128) (nano : Bool) (addr : Fin 16384) (clean : Bool)
  -- Memory and jig
  | handover (w : SessionNo) (bank : Fin 512) (owner : Nat)
  | bankCleared (bank : Fin 512)
  | service (w : SessionNo) (bank : Fin 512) (value : Nat)
  | wipe (w : SessionNo)
  | jigStart (w : SessionNo)
  | jigStop (w : SessionNo)
  /-- `errors`: those found in the segment, in order. -/
  | jigSegmentDone (errors : List JigError)
  -- Interrupts
  | mgmtClaim
  | testRaise (w : SessionNo) (source : Nat)
  | attnBatch (c : Fin 8)
  -- Counters and telemetry
  | snap (w : SessionNo) (g : Fin 16)
  | chainMap (w : SessionNo) (value : Nat)
  | clear (w : SessionNo) (window : Nat) (element : Nat)
  | histSnapshot (w : SessionNo) (window : Nat)
  | energyInterval
  | telemetryBuild (t : Fin 4)
  | flushTimeout (t : Fin 4)
  | watchPeriodEnd (w : Fin 64)
  -- Power
  /-- The 1 ms check: `ppm`, the difference in 0.01 ppm as a 32-bit word; `lost`; `settled`: within range for 1 s. -/
  | refOutOfRange (ppm : Nat) (lost settled : Bool)
  | rootHold
  | rootUnlock (env : StartEnv)
  | crystalLost
  /-- `failed`: rails whose transaction fails its retries. -/
  | avsStep (failed : List (Fin 8))
  /-- `ok`: the read succeeds; `status`: the STATUS_WORD read. -/
  | pmbAlert (rail : Fin 8) (ok : Bool) (status : Nat)
  | railSample (reads : List RailRead)
  | prepare (w : SessionNo) (value : Nat)
  | prepared
  | prepareFailed
  | prepareLapsed
  | commit (w : SessionNo) (value : Nat)
  | lockstepAbort (w : SessionNo) (txn : Nat)
  | applied
  | raiseWindowEnd
  /-- `mv`: the lowest detector reading; `edges`: the edges removed in the episode. -/
  | reverted (mv : Nat)
  | clockStretch (mv : Nat)
  | stretchEnd (mv edges : Nat)
  | undervolt (mv : Nat)
  /-- `temps`: the sensors in 0.01 degrees as 32-bit words, or, with the core rails off, the island's own; `calm`: every sensor
  within the operating range for 1 s; `cool`: every sensor at most RELEASE_C for 1 s; `lost`: bench clocks lost since the
  last sample. -/
  | thermalSample (temps : List Nat) (calm cool : Bool) (lost : Nat)
  | throttleStep
  /-- The sensor and its reading in 0.01 degrees, a 32-bit word. -/
  | thermtrip (sensor : Fin 24) (reading : Nat)
  | thermtripClear (w : SessionNo)
  /-- `supply`: every rail of that supply has come to its setting. -/
  | railArrived (supply : Fin 6) (env : StartEnv)
  | railTimeout (supply : Fin 6)
  -- Start-up
  /-- `byPin`: ISLAND_RST_N was released, else VAUX has risen; `straps`: STRAPS as sampled (R546); `keyHeld`: PRESENCE_N is
  asserted (R123); `firmwareOk`: the island firmware passes its check (R549). -/
  | islandStart (byPin : Bool) (straps : Fin 8) (keyHeld firmwareOk : Bool)
  /-- `pc`: the island firmware's program counter. -/
  | islandWatchdog (pc : Nat)
  | start (w : SessionNo)
  | wake (w : SessionNo)
  | warmReset (w : SessionNo)
  | standby (w : SessionNo)
  | retain (w : SessionNo)
  | coldReset (w : SessionNo) (env : StartEnv)
  | islandReset (w : SessionNo)
  | clearBreach (w : SessionNo)
  | clearPersisted (w : SessionNo)
  | firmwareImport (w : SessionNo) (offset : Nat) (data : Bytes)
  | accept (w : SessionNo)
  /-- The outcome of the check of Broddar's image layout: 0 valid, 1 SIGNATURE_FAIL, 2 LENGTH, 3 RANGE; and its version. -/
  | firmwareCheckDone (result : Fin 4) (version : Nat)
  | timeClockTick
  | txPllUnlock (n : LaneNo)
  | linkFaultCleared (p : Fin 514)
  | pauseTimerExpiry (h : HostNo)
  /-- `supply`: its bit of RATINGS. -/
  | supplyOutOfRange (supply : Fin 6)
  | supplyBackInRange (supply : Fin 6)
  | vauxLost
  | coreSupplyLost
  /-- The quantity code and the unit (R347). -/
  | orphanConfirmed (quantity unit : Nat) (env : StartEnv)
  | benchResetDone (b : BenchNo)
  /-- Words corrected: `pipes` in the pipelines' stores, `bays` the bay of each in the benches' stores. -/
  | storeScrub (pipes : Nat) (bays : List (Fin 16))
  /-- `level`: the level sampled on SEAL_B. -/
  | sealSample (level : Bool)
  /-- `octets`: the frame that the runtime originates; none: the oldest ZDP reply that waits to go through port 642 (R57). -/
  | mgmtFrameSend (octets : FrameOctets)
deriving DecidableEq, Repr

end Sys2Proof
end

