-- ==== Sys2Proof/Config.lean ====
section
/-!
DEFINITION. The free values: constants without a body, so that nothing in Lean can evaluate them and a statement
that mentions one holds whatever it is (assumption log entry 1). Each is applied to what it depends on, or to the
state's free-value counter for a fresh value each time.
-/
namespace Sys2Proof

/-- The `n`-th fresh free value: what the spec leaves open and gives no operand for. -/
opaque Config.freeValue : Nat → Nat

/-- What a read of a Broddar diagnostic object 0xF000 to 0xFFFF answers (R5): result, detail and value. -/
opaque Config.diagnostic : Nat → Nat × Nat × Nat

/-- The word that a vendor region of a microcode store holds: store, bank or bench, address (R440 to R443). -/
opaque Config.vendorWord : Nat → Nat → Nat → Nat

/-- The 64 octets that node `n` of the standard parse graph reads as: its encoding is not given (R194). -/
opaque Config.stdGraph : Nat → Nat

/-- An octet that an extraction takes from beyond PARSE_DEPTH or the end of the frame (R191): frame, octet. -/
opaque Config.beyondParse : Nat → Nat → Nat

/-- Test access port (R586): the lengths of its instruction register and of the boundary register, and the instruction that a code which is
not all ones names, 0 BYPASS, 1 IDCODE, 2 SAMPLE, 3 EXTEST, 4 AC EXTEST. -/
opaque Config.tapIrLength : Nat
opaque Config.boundaryLength : Nat
opaque Config.tapCode : Nat → Nat

/-- Broddar's own ECDSA P-384 public key, x then y (R448, R566). -/
opaque Config.broddarKey : Nat

end Sys2Proof
end

