-- ==== Sys2Proof/Machine/Bits.lean ====
section
/-!
DEFINITION. Bit fields, signed values and byte order (R9, R10, R97): the helpers that every chapter's field maps
are read with.
-/
namespace Sys2Proof.Machine

/-- The field `[msb:lsb]` of `v`, both ends included (R10). -/
def bits (v msb lsb : Nat) : Nat := (v >>> lsb) % 2 ^ (msb + 1 - lsb)

/-- Bit `i` of `v` (R10). -/
def bit (v i : Nat) : Bool := v.testBit i

/-- `v` with its field `[msb:lsb]` replaced by `x`. -/
def setBits (v msb lsb x : Nat) : Nat :=
  v - (bits v msb lsb) * 2 ^ lsb + (x % 2 ^ (msb + 1 - lsb)) * 2 ^ lsb

/-- `v` with bit `i` set to `b`. -/
def setBit (v i : Nat) (b : Bool) : Nat := setBits v i i (if b then 1 else 0)

/-- 1 for true, 0 for false: the BOOL of R97. -/
def ofBool (b : Bool) : Nat := if b then 1 else 0

/-- The bits of `v` that `m` does not select (a W1C write of `m`, R8). -/
def clearBits (v m : Nat) : Nat := v - (v &&& m)

/-- The integer that `v` encodes in two's complement of `w` bits (R97). -/
def toInt (w v : Nat) : Int := if v % 2 ^ w < 2 ^ (w - 1) then (v % 2 ^ w : Nat) else (v % 2 ^ w : Nat) - (2 : Int) ^ w

/-- The two's complement encoding of `i` in `w` bits (R97). -/
def ofInt (w : Nat) (i : Int) : Nat := (i % ((2 : Int) ^ w)).toNat

/-- `v` of `w` bits sign-extended to `w'` bits. -/
def signExtend (w w' v : Nat) : Nat := ofInt w' (toInt w v)

/-- The difference `a - b` modulo 2 to the `w`. -/
def subMod (w a b : Nat) : Nat := (a % 2 ^ w + 2 ^ w - b % 2 ^ w) % 2 ^ w

/-- `n` octets of `v`, most significant first (network order, R9). -/
def toBE : Nat → Nat → Bytes
  | 0, _ => []
  | n + 1, v => (v >>> (8 * n)) % 256 :: toBE n v

/-- The number that octets spell most significant first (R9). -/
def ofBE (b : Bytes) : Nat := b.foldl (fun a x => a * 256 + x % 256) 0

/-- Two octets of `b` from octet `off`, as a number. -/
def octets16 (b : Bytes) (off : Nat) : Nat := b.getD off 0 * 256 + b.getD (off + 1) 0

/-- `n` octets of `v`, least significant first (bench memory, R9). -/
def toLE : Nat → Nat → Bytes
  | 0, _ => []
  | n + 1, v => v % 256 :: toLE n (v / 256)

/-- The number that octets spell least significant first (R9). -/
def ofLE : Bytes → Nat
  | [] => 0
  | b :: bs => b % 256 + 256 * ofLE bs

/-- Octets `off` to `off + len - 1` of an `n`-octet value held most significant octet first. -/
def octetsAt (n v off len : Nat) : Nat := (v >>> (8 * (n - off - len))) % 2 ^ (8 * len)

/-- An `n`-octet value with octets `off` to `off + len - 1` replaced by `x`. -/
def setOctets (n v off len x : Nat) : Nat :=
  v - octetsAt n v off len * 2 ^ (8 * (n - off - len)) + (x % 2 ^ (8 * len)) * 2 ^ (8 * (n - off - len))

/-- Entry `i` of an octet string of `n` entries of `w` octets each, entry 0 first. -/
def entryAt (n w v i : Nat) : Nat := octetsAt (n * w) v (i * w) w

/-- That octet string with entry `i` replaced by `x`. -/
def setEntry (n w v i x : Nat) : Nat := setOctets (n * w) v (i * w) w x

/-- Bit `i` of an octet string of `n` octets in the bitmap numbering of R10: bit i mod 8 of octet i / 8. -/
def bitmapAt (n v i : Nat) : Bool := (octetsAt n v (i / 8) 1).testBit (i % 8)

/-- That bitmap with bit `i` set to `b`. -/
def setBitmap (n v i : Nat) (b : Bool) : Nat := setOctets n v (i / 8) 1 (setBit (octetsAt n v (i / 8) 1) (i % 8) b)

/-- The number of bits of `v` below bit `n` that are 1. -/
def popCount (n v : Nat) : Nat := ((List.range n).filter (v.testBit ·)).length

/-- The lowest bit below `n` that is 1 in `v`. -/
def lowestBit (n v : Nat) : Option Nat := (List.range n).find? (v.testBit ·)

/-- `a` divided by `b`, rounded up. -/
def ceilDiv (a b : Nat) : Nat := (a + b - 1) / b

end Sys2Proof.Machine
end

