-- ==== Sys2Proof/Machine/DictTypes.lean ====
section
/-!
DEFINITION. What an object table of the spec says of a sub-index (R7, R8, R97, R103, R110): its type, access class,
default, range and whether it is part of the saved configuration.
-/
namespace Sys2Proof.Machine

/-- The types of R97; a RECORD is reached only through a window. -/
inductive Ty where
  | bool | u8 | u16 | u32 | u64 | i32 | i64 | time80
  | octets (n : Nat)
deriving DecidableEq, Repr

/-- Octets of a value of the type (R97). -/
def Ty.size : Ty → Nat
  | .bool => 1 | .u8 => 1 | .u16 => 2 | .u32 => 4 | .u64 => 8 | .i32 => 4 | .i64 => 8 | .time80 => 10
  | .octets n => n

/-- The access classes of R8. -/
inductive Access where
  | ro | rw | wo | w1c | wp | rwp
deriving DecidableEq, Repr

/-- The range that a Meaning column states. -/
inductive Range where
  /-- Every encoding of the type. -/
  | any
  /-- `lo` to `hi`. -/
  | le (lo hi : Nat)
  /-- `lo` to `hi`, or the one further value `x`. -/
  | leOr (lo hi x : Nat)
  /-- One of the listed values. -/
  | oneOf (l : List Nat)
  /-- `lo` to `hi` in steps of `m`, counted from 0. -/
  | step (lo hi m : Nat)
  /-- Two's complement `lo` to `hi`. -/
  | int (lo hi : Int)
  /-- Every `w`-octet entry is `lo` to `hi`. -/
  | wordsIn (w lo hi : Nat)
  /-- Every `w`-octet entry is `lo` to `hi`, a multiple of `m`. -/
  | wordsStep (w lo hi m : Nat)
  /-- Every `w`-octet entry is `lo` to `hi`, or `x`. -/
  | wordsLeOr (w lo hi x : Nat)
deriving DecidableEq, Repr

/-- One row of an object table. -/
structure Sub where
  sub : Nat
  ty : Ty
  acc : Access
  dflt : Nat
  rng : Range
  saved : Bool
deriving DecidableEq, Repr

/-- The access class of a window's STAGE: RW, RWP, or every write answered RANGE (R110, R112). -/
inductive StageAccess where
  | rw | rwp | range
deriving DecidableEq, Repr

/-- A window's size, element size, STAGE class and PERSIST (R110). -/
structure WinDef where
  elems : Nat
  elemBytes : Nat
  stage : StageAccess
  persist : Bool
deriving DecidableEq, Repr

/-- One object: its first index, its instances (R94), its window properties and its rows. -/
structure Obj where
  idx : Nat
  count : Nat
  win : Option WinDef
  subs : List Sub
deriving DecidableEq, Repr

/-- Entries of `w` octets of a value of `n` octets, all of which satisfy `p`. -/
def allEntries (n w v : Nat) (p : Nat → Bool) : Bool :=
  (List.range (n / w)).all (fun i => p (octetsAt n v (i * w) w))

/-- `v` lies in the range, for a value of the type (R97). -/
def Range.holds (r : Range) (t : Ty) (v : Nat) : Bool :=
  match r with
  | .any => true
  | .le lo hi => lo ≤ v && v ≤ hi
  | .leOr lo hi x => (lo ≤ v && v ≤ hi) || v == x
  | .oneOf l => l.contains v
  | .step lo hi m => lo ≤ v && v ≤ hi && v % m == 0
  | .int lo hi => lo ≤ toInt (8 * t.size) v && toInt (8 * t.size) v ≤ hi
  | .wordsIn w lo hi => allEntries t.size w v (fun x => lo ≤ x && x ≤ hi)
  | .wordsStep w lo hi m => allEntries t.size w v (fun x => lo ≤ x && x ≤ hi && x % m == 0)
  | .wordsLeOr w lo hi x0 => allEntries t.size w v (fun x => (lo ≤ x && x ≤ hi) || x == x0)

/-- `v` is a valid encoding of the type (R97). -/
def Ty.valid (t : Ty) (v : Nat) : Bool :=
  v < 2 ^ (8 * t.size) &&
    (match t with
     | .bool => v ≤ 1
     | .time80 => v % 2 ^ 32 < 1000000000
     | _ => true)

end Sys2Proof.Machine
end

