-- ==== Sys2Proof/Machine/Dict.lean ====
section
/-!
DEFINITION. The object dictionary as data: one row for every object of spec/03 to spec/22, with the type,
access class, default and range of every sub-index that its table lists (R3, R7, R8, R93 to R97, R110).
A range is taken from the sub-index's Meaning column; a rule that a range cannot say is checked in
Machine/WriteChecks.lean.
-/
namespace Sys2Proof.Machine.Dict

/-- `0x0000 IDENTITY`: 04_object_dictionary.md R116. -/
def obj0000 : Obj := ⟨0x0000, 1, none, [
    ⟨0x01, .u16, .ro, 45277, .any, false⟩,
    ⟨0x02, .u16, .ro, 20768, .any, false⟩,
    ⟨0x03, .u8, .ro, 176, .any, false⟩,
    ⟨0x04, (.octets 16), .ro, 0x464A353132302D423000000000000000, .any, false⟩,
    ⟨0x05, (.octets 16), .ro, 0, .any, false⟩,
    ⟨0x06, (.octets 6), .ro, 0, .any, false⟩,
    ⟨0x07, .u16, .ro, 256, .any, false⟩,
    ⟨0x08, .u32, .ro, 0, .any, false⟩,
    ⟨0x09, .u32, .ro, 0, .any, false⟩]⟩

/-- `0x0010 DEVICE_STATUS`: 04_object_dictionary.md R118. -/
def obj0010 : Obj := ⟨0x0010, 1, none, [
    ⟨0x01, .u32, .ro, 0, .any, false⟩,
    ⟨0x02, .u8, .ro, 0, .any, false⟩,
    ⟨0x03, .u32, .ro, 0, .any, false⟩,
    ⟨0x04, .time80, .ro, 0, .any, false⟩,
    ⟨0x05, .u8, .ro, 0, .any, false⟩,
    ⟨0x06, .u64, .ro, 0, .any, false⟩,
    ⟨0x07, .u64, .ro, 0, .any, false⟩]⟩

/-- `0x0011 ATTENTION`: 04_object_dictionary.md R119. -/
def obj0011 : Obj := ⟨0x0011, 1, none, [
    ⟨0x01, .u16, .ro, 0, .any, false⟩,
    ⟨0x02, .u32, .w1c, 0, .any, false⟩,
    ⟨0x03, .u32, .ro, 0, .any, false⟩,
    ⟨0x04, .u32, .ro, 0, .any, false⟩,
    ⟨0x05, .u32, .ro, 0, .any, false⟩,
    ⟨0x06, .u32, .ro, 0, .any, false⟩,
    ⟨0x07, .u32, .ro, 0, .any, false⟩,
    ⟨0x08, .u32, .ro, 0, .any, false⟩,
    ⟨0x09, .u32, .ro, 0, .any, false⟩,
    ⟨0x0A, .u32, .ro, 0, .any, false⟩]⟩

/-- `0x0012 ATTN_LOG`: 04_object_dictionary.md R120. -/
def obj0012 : Obj := ⟨0x0012, 1, none, [
    ⟨0x01, (.octets 1024), .ro, 0, .any, false⟩,
    ⟨0x02, .u16, .ro, 0, .any, false⟩]⟩

/-- `0x0020 CONFIG_STORE`: 04_object_dictionary.md R109. -/
def obj0020 : Obj := ⟨0x0020, 1, none, [
    ⟨0x01, .u8, .wp, 0, .le 1 5, false⟩,
    ⟨0x02, .u8, .ro, 0, .any, false⟩,
    ⟨0x03, .u8, .ro, 0, .any, false⟩,
    ⟨0x04, .u16, .ro, 0, .any, false⟩,
    ⟨0x05, .u8, .ro, 0, .any, false⟩,
    ⟨0x06, .u32, .ro, 0, .any, false⟩,
    ⟨0x07, .u32, .ro, 0, .any, false⟩,
    ⟨0x08, .u32, .ro, 0, .any, false⟩,
    ⟨0x09, .u32, .ro, 0, .any, false⟩,
    ⟨0x0A, .u32, .ro, 0, .any, false⟩,
    ⟨0x0B, .bool, .rwp, 1, .any, false⟩,
    ⟨0x0C, (.octets 67108864), .ro, 0, .any, false⟩,
    ⟨0x0D, (.octets 67108864), .wp, 0, .any, false⟩]⟩

/-- `0x0100 ZDP_CONFIG`: 03_zilmor_protocol.md R92. -/
def obj0100 : Obj := ⟨0x0100, 1, none, [
    ⟨0x01, .u16, .rwp, 34997, .any, true⟩,
    ⟨0x02, .bool, .rwp, 0, .any, true⟩,
    ⟨0x03, .u16, .rwp, 49871, .any, true⟩,
    ⟨0x04, .u32, .rwp, 0, .any, true⟩,
    ⟨0x05, (.octets 16), .rwp, 0, .any, true⟩,
    ⟨0x06, .bool, .rwp, 0, .any, true⟩,
    ⟨0x07, .u16, .rw, 8192, .step 256 8192 4, true⟩,
    ⟨0x08, .u32, .rw, 60000, .le 1000 3600000, true⟩,
    ⟨0x09, (.octets 6), .ro, 0, .any, false⟩,
    ⟨0x0A, (.octets 6), .ro, 1, .any, false⟩]⟩

/-- `0x0101 ZDP_STATISTICS`: 03_zilmor_protocol.md R92. -/
def obj0101 : Obj := ⟨0x0101, 1, none, [
    ⟨0x01, .u8, .ro, 0, .any, false⟩,
    ⟨0x02, .u16, .ro, 0, .any, false⟩,
    ⟨0x03, .u16, .ro, 0, .any, false⟩,
    ⟨0x04, .u8, .ro, 0, .any, false⟩,
    ⟨0x05, .u64, .ro, 0, .any, false⟩,
    ⟨0x06, .u64, .ro, 0, .any, false⟩,
    ⟨0x07, .u64, .ro, 0, .any, false⟩,
    ⟨0x08, .u64, .ro, 0, .any, false⟩,
    ⟨0x09, .u64, .ro, 0, .any, false⟩,
    ⟨0x0A, .u64, .ro, 0, .any, false⟩,
    ⟨0x0B, .u64, .ro, 0, .any, false⟩,
    ⟨0x0C, .u64, .ro, 0, .any, false⟩]⟩

/-- `0x0102 ZDP_CONTROL`: 03_zilmor_protocol.md R92. -/
def obj0102 : Obj := ⟨0x0102, 1, none, [
    ⟨0x01, .u8, .wp, 0, .le 0 15, false⟩]⟩

/-- `0x0110 SESSION`: 03_zilmor_protocol.md R92. -/
def obj0110 : Obj := ⟨0x0110, 16, none, [
    ⟨0x01, .u8, .ro, 0, .any, false⟩,
    ⟨0x02, .u16, .ro, 0, .any, false⟩,
    ⟨0x03, .u8, .ro, 0, .any, false⟩,
    ⟨0x04, (.octets 18), .ro, 0, .any, false⟩,
    ⟨0x05, .u16, .ro, 0, .any, false⟩,
    ⟨0x06, .u16, .ro, 0, .any, false⟩,
    ⟨0x07, .u32, .ro, 0, .any, false⟩,
    ⟨0x08, .u32, .ro, 0, .any, false⟩]⟩

/-- `0x0200 PRESENCE`: 05_presence_lifecycle.md R125. -/
def obj0200 : Obj := ⟨0x0200, 1, none, [
    ⟨0x01, .bool, .ro, 0, .any, false⟩,
    ⟨0x02, .bool, .ro, 0, .any, false⟩,
    ⟨0x03, .u32, .ro, 0, .any, false⟩,
    ⟨0x04, .u32, .ro, 0, .any, false⟩,
    ⟨0x05, .u16, .rwp, 300, .le 30 3600, true⟩,
    ⟨0x06, .u8, .rwp, 20, .le 5 100, true⟩,
    ⟨0x07, .u8, .rwp, 0, .le 0 1, true⟩,
    ⟨0x08, .bool, .wo, 0, .any, false⟩,
    ⟨0x09, .bool, .rw, 0, .any, false⟩]⟩

/-- `0x0201 SEAL`: 05_presence_lifecycle.md R134. -/
def obj0201 : Obj := ⟨0x0201, 1, none, [
    ⟨0x01, .bool, .ro, 1, .any, false⟩,
    ⟨0x02, .u8, .ro, 0, .any, false⟩,
    ⟨0x03, .u32, .ro, 0, .any, false⟩,
    ⟨0x04, .time80, .ro, 0, .any, false⟩,
    ⟨0x05, .time80, .ro, 0, .any, false⟩,
    ⟨0x06, .u8, .ro, 0, .any, false⟩,
    ⟨0x07, .u32, .ro, 0, .any, false⟩]⟩

/-- `0x0202 SECURITY_EVENTS`: 05_presence_lifecycle.md R134. -/
def obj0202 : Obj := ⟨0x0202, 1, none, [
    ⟨0x01, .u32, .w1c, 0, .any, false⟩,
    ⟨0x02, .u32, .ro, 0, .any, false⟩,
    ⟨0x03, .u32, .ro, 0, .any, false⟩,
    ⟨0x04, .u32, .ro, 0, .any, false⟩,
    ⟨0x05, .u32, .ro, 0, .any, false⟩,
    ⟨0x06, .u32, .ro, 0, .any, false⟩,
    ⟨0x07, .u32, .ro, 0, .any, false⟩,
    ⟨0x08, .u32, .ro, 0, .any, false⟩,
    ⟨0x09, .u32, .ro, 0, .any, false⟩]⟩

/-- `0x0210 LIFECYCLE`: 05_presence_lifecycle.md R136. -/
def obj0210 : Obj := ⟨0x0210, 1, none, [
    ⟨0x01, .u8, .ro, 0, .any, false⟩,
    ⟨0x02, .u8, .wp, 0, .any, false⟩,
    ⟨0x03, .u32, .ro, 0, .any, false⟩,
    ⟨0x04, .time80, .ro, 0, .any, false⟩]⟩

/-- `0x0220 KEY_SLOT`: 05_presence_lifecycle.md R137. -/
def obj0220 : Obj := ⟨0x0220, 4, none, [
    ⟨0x01, .u8, .ro, 0, .any, false⟩,
    ⟨0x02, .u8, .ro, 0, .any, false⟩,
    ⟨0x03, (.octets 96), .wp, 0, .any, false⟩,
    ⟨0x04, (.octets 48), .ro, 0, .any, false⟩,
    ⟨0x05, .bool, .wp, 0, .any, false⟩,
    ⟨0x06, .time80, .ro, 0, .any, false⟩]⟩

/-- `0x0230 ALLOW_CONTROL`: 05_presence_lifecycle.md R140. -/
def obj0230 : Obj := ⟨0x0230, 1, none, [
    ⟨0x01, .bool, .rwp, 0, .any, true⟩,
    ⟨0x02, .u64, .ro, 0, .any, false⟩,
    ⟨0x03, .u16, .ro, 0, .any, false⟩,
    ⟨0x04, .u16, .ro, 0, .any, false⟩]⟩

/-- `0x0240 ALLOW_WINDOW`: 05_presence_lifecycle.md R139. -/
def obj0240 : Obj := ⟨0x0240, 1, some ⟨64, 32, .rwp, true⟩, []⟩

/-- `0x0400 CLOCKS`: 21_power_clocks_thermal.md R545. -/
def obj0400 : Obj := ⟨0x0400, 1, none, [
    ⟨0x01, .u8, .ro, 0, .any, false⟩,
    ⟨0x02, .i32, .ro, 0, .any, false⟩,
    ⟨0x03, .u8, .ro, 4, .any, false⟩,
    ⟨0x04, .u8, .rwp, 4, .oneOf [4, 5, 6, 8], true⟩,
    ⟨0x05, .u8, .ro, 0, .any, false⟩,
    ⟨0x06, .u32, .w1c, 0, .any, false⟩,
    ⟨0x07, .u32, .ro, 0, .any, false⟩,
    ⟨0x08, .u32, .ro, 0, .any, false⟩,
    ⟨0x09, .u32, .ro, 0, .any, false⟩]⟩

/-- `0x0410 VOLTAGE`: 21_power_clocks_thermal.md R545. -/
def obj0410 : Obj := ⟨0x0410, 1, none, [
    ⟨0x01, (.octets 32), .ro, 0, .any, false⟩,
    ⟨0x02, (.octets 8), .ro, 0, .any, false⟩,
    ⟨0x03, .bool, .rwp, 1, .any, true⟩,
    ⟨0x04, .u8, .rwp, 0, .le 0 25, true⟩,
    ⟨0x05, .u16, .ro, 0, .any, false⟩,
    ⟨0x06, .u16, .ro, 0, .any, false⟩,
    ⟨0x07, .u8, .ro, 0, .any, false⟩,
    ⟨0x08, .u8, .rw, 30, .le 15 60, true⟩,
    ⟨0x09, .u64, .ro, 0, .any, false⟩,
    ⟨0x0A, .u64, .ro, 0, .any, false⟩,
    ⟨0x0B, .u32, .w1c, 0, .any, false⟩,
    ⟨0x0C, .u32, .ro, 0, .any, false⟩,
    ⟨0x0D, .u32, .ro, 0, .any, false⟩]⟩

/-- `0x0418 PMBUS_CONTROL`: 21_power_clocks_thermal.md R545. -/
def obj0418 : Obj := ⟨0x0418, 1, none, [
    ⟨0x01, .u16, .rwp, 400, .oneOf [100, 400, 1000], true⟩,
    ⟨0x02, .u32, .rw, 0, .any, true⟩]⟩

/-- `0x0420 PMBUS_RAIL`: 21_power_clocks_thermal.md R545. -/
def obj0420 : Obj := ⟨0x0420, 8, none, [
    ⟨0x01, .bool, .rwp, 0, .any, true⟩,
    ⟨0x02, .u8, .rwp, 0, .le 8 119, true⟩,
    ⟨0x03, .u8, .rwp, 255, .any, true⟩,
    ⟨0x04, .u8, .rwp, 0, .le 0 5, true⟩,
    ⟨0x05, .u16, .ro, 0, .any, false⟩,
    ⟨0x06, .u32, .ro, 0, .any, false⟩,
    ⟨0x07, .u32, .ro, 0, .any, false⟩,
    ⟨0x08, .i32, .ro, 0, .any, false⟩,
    ⟨0x09, .u16, .ro, 0, .any, false⟩,
    ⟨0x0A, .u64, .ro, 0, .any, false⟩,
    ⟨0x0C, .u32, .w1c, 0, .any, false⟩,
    ⟨0x0D, .u32, .ro, 0, .any, false⟩,
    ⟨0x0E, .u32, .ro, 0, .any, false⟩]⟩

/-- `0x0440 LOCKSTEP`: 21_power_clocks_thermal.md R545. -/
def obj0440 : Obj := ⟨0x0440, 1, none, [
    ⟨0x01, .u8, .ro, 0, .any, false⟩,
    ⟨0x02, .u32, .wo, 0, .any, false⟩,
    ⟨0x03, (.octets 12), .wo, 0, .any, false⟩,
    ⟨0x04, .u16, .wo, 0, .any, false⟩,
    ⟨0x05, .u16, .ro, 0, .any, false⟩,
    ⟨0x06, .u8, .ro, 0, .any, false⟩,
    ⟨0x07, .time80, .ro, 0, .any, false⟩,
    ⟨0x08, .time80, .ro, 0, .any, false⟩,
    ⟨0x09, .bool, .ro, 1, .any, false⟩,
    ⟨0x0A, .u32, .rw, 1000, .le 10 60000, true⟩,
    ⟨0x0B, .u8, .rw, 0, .le 0 1, true⟩,
    ⟨0x0C, .u16, .rw, 0, .any, true⟩,
    ⟨0x0D, .u32, .w1c, 0, .any, false⟩,
    ⟨0x0E, .u32, .ro, 0, .any, false⟩,
    ⟨0x0F, .u32, .ro, 0, .any, false⟩,
    ⟨0x10, .u32, .ro, 0, .any, false⟩,
    ⟨0x11, .u32, .ro, 0, .any, false⟩,
    ⟨0x12, .u32, .ro, 0, .any, false⟩]⟩

/-- `0x0450 THERMAL`: 21_power_clocks_thermal.md R545. -/
def obj0450 : Obj := ⟨0x0450, 1, none, [
    ⟨0x01, (.octets 96), .ro, 0, .any, false⟩,
    ⟨0x02, .i32, .ro, 0, .any, false⟩,
    ⟨0x03, .u8, .ro, 0, .any, false⟩,
    ⟨0x04, .u8, .ro, 0, .any, false⟩,
    ⟨0x05, .u8, .rw, 100, .le 90 103, true⟩,
    ⟨0x06, .u64, .ro, 0, .any, false⟩,
    ⟨0x07, .bool, .ro, 0, .any, false⟩,
    ⟨0x08, .bool, .wp, 0, .any, false⟩,
    ⟨0x09, .u32, .w1c, 0, .any, false⟩,
    ⟨0x0A, .u32, .ro, 0, .any, false⟩,
    ⟨0x0B, .u32, .ro, 0, .any, false⟩,
    ⟨0x0C, .u32, .ro, 0, .any, false⟩,
    ⟨0x0D, .u32, .ro, 0, .any, false⟩,
    ⟨0x0E, .u32, .ro, 0, .any, false⟩]⟩

/-- `0x0460 POWER_STATE`: 21_power_clocks_thermal.md R545. -/
def obj0460 : Obj := ⟨0x0460, 1, none, [
    ⟨0x01, .u8, .ro, 0, .any, false⟩,
    ⟨0x02, .u16, .rw, 20, .le 1 1000, true⟩,
    ⟨0x03, .u16, .ro, 0, .any, false⟩]⟩

/-- `0x0500 STARTUP`: 22_startup_faults.md R568. -/
def obj0500 : Obj := ⟨0x0500, 1, none, [
    ⟨0x01, .u8, .wo, 0, .any, false⟩,
    ⟨0x02, .u8, .wp, 0, .any, false⟩,
    ⟨0x03, .u8, .ro, 0, .any, false⟩,
    ⟨0x04, .u8, .ro, 0, .any, false⟩,
    ⟨0x05, .u8, .ro, 1, .any, false⟩,
    ⟨0x06, .u8, .ro, 0, .any, false⟩,
    ⟨0x07, .u32, .ro, 0, .any, false⟩,
    ⟨0x08, .u8, .rwp, 1, .le 0 2, true⟩,
    ⟨0x09, .u8, .rw, 3, .le 1 10, true⟩,
    ⟨0x0A, .u16, .rw, 60, .le 10 3600, true⟩,
    ⟨0x0B, .u32, .ro, 0, .any, false⟩,
    ⟨0x0C, .u32, .rwp, 4095, .any, true⟩,
    ⟨0x0D, .bool, .wo, 0, .any, false⟩,
    ⟨0x0E, .u32, .ro, 0, .any, false⟩,
    ⟨0x0F, .u32, .w1c, 0, .any, false⟩,
    ⟨0x10, .u32, .ro, 0, .any, false⟩,
    ⟨0x11, .u32, .ro, 0, .any, false⟩,
    ⟨0x12, .u32, .ro, 0, .any, false⟩]⟩

/-- `0x0510 FAULT_LOG`: 22_startup_faults.md R568. -/
def obj0510 : Obj := ⟨0x0510, 1, none, [
    ⟨0x01, (.octets 4096), .ro, 0, .any, false⟩,
    ⟨0x02, .u16, .ro, 0, .any, false⟩,
    ⟨0x03, (.octets 1024), .ro, 0, .any, false⟩,
    ⟨0x04, .u32, .ro, 0, .any, false⟩,
    ⟨0x05, .bool, .wp, 0, .any, false⟩]⟩

/-- `0x0520 FIRMWARE`: 22_startup_faults.md R568. -/
def obj0520 : Obj := ⟨0x0520, 1, none, [
    ⟨0x01, .u32, .ro, 0, .any, false⟩,
    ⟨0x02, .u32, .ro, 0, .any, false⟩,
    ⟨0x03, .u8, .ro, 0, .any, false⟩,
    ⟨0x04, (.octets 16777216), .wp, 0, .any, false⟩,
    ⟨0x05, .u8, .wp, 0, .oneOf [1], false⟩,
    ⟨0x06, .u8, .ro, 0, .any, false⟩,
    ⟨0x07, .u8, .ro, 0, .any, false⟩,
    ⟨0x08, .bool, .ro, 0, .any, false⟩]⟩

/-- `0x0800 INT_CONTROL`: 19_interrupts_attention.md R498. -/
def obj0800 : Obj := ⟨0x0800, 1, none, [
    ⟨0x01, .u16, .ro, 8192, .any, false⟩,
    ⟨0x02, .u16, .wp, 0, .any, false⟩,
    ⟨0x03, .u64, .ro, 0, .any, false⟩,
    ⟨0x04, .u64, .ro, 0, .any, false⟩]⟩

/-- `0x0810 INT_TARGET`: 19_interrupts_attention.md R499. -/
def obj0810 : Obj := ⟨0x0810, 130, none, [
    ⟨0x01, .u16, .ro, 0, .any, false⟩,
    ⟨0x02, .u16, .ro, 0, .any, false⟩,
    ⟨0x03, .u64, .ro, 0, .any, false⟩,
    ⟨0x04, .u64, .ro, 0, .any, false⟩]⟩

/-- `0x08A0 ATTN_MODERATION`: 19_interrupts_attention.md R500. -/
def obj08A0 : Obj := ⟨0x08A0, 1, none, [
    ⟨0x01, .u32, .rw, 20, .le 0 100000, true⟩,
    ⟨0x02, .u32, .rw, 0, .le 0 100000, true⟩,
    ⟨0x03, .u32, .rw, 0, .le 0 100000, true⟩,
    ⟨0x04, .u32, .rw, 0, .le 0 100000, true⟩,
    ⟨0x05, .u32, .rw, 0, .le 0 100000, true⟩,
    ⟨0x06, .u32, .rw, 0, .le 0 100000, true⟩,
    ⟨0x07, .u32, .ro, 0, .le 0 100000, false⟩,
    ⟨0x08, .u32, .ro, 0, .le 0 100000, false⟩,
    ⟨0x09, .u8, .ro, 0, .any, false⟩,
    ⟨0x0A, .u64, .ro, 0, .any, false⟩]⟩

/-- `0x0900 INT_CONFIG_WINDOW`: 19_interrupts_attention.md R487. -/
def obj0900 : Obj := ⟨0x0900, 1, some ⟨8192, 4, .rw, true⟩, []⟩

/-- `0x0901 INT_STATE_WINDOW`: 19_interrupts_attention.md R501. -/
def obj0901 : Obj := ⟨0x0901, 1, some ⟨8192, 4, .range, false⟩, []⟩

/-- `0x1000 LANE`: 06_lanes.md R165. -/
def obj1000 : Obj := ⟨0x1000, 512, none, [
    ⟨0x01, .u8, .ro, 0, .any, false⟩,
    ⟨0x02, .u8, .ro, 0, .any, false⟩,
    ⟨0x03, .u8, .ro, 0, .any, false⟩,
    ⟨0x04, .bool, .rw, 1, .any, true⟩,
    ⟨0x05, .bool, .rw, 0, .any, true⟩,
    ⟨0x06, .bool, .rw, 0, .any, true⟩,
    ⟨0x07, .u8, .rw, 0, .le 0 1, true⟩,
    ⟨0x08, .bool, .rw, 1, .any, true⟩,
    ⟨0x09, .i32, .rw, 0, .any, true⟩,
    ⟨0x0A, .i32, .rw, 0, .any, true⟩,
    ⟨0x0B, .i32, .rw, 4294967288, .any, true⟩,
    ⟨0x0C, .i32, .rw, 56, .any, true⟩,
    ⟨0x0D, .i32, .rw, 0, .any, true⟩,
    ⟨0x0E, .u16, .rw, 800, .step 400 1200 50, true⟩,
    ⟨0x0F, .u8, .rw, 1, .le 0 1, true⟩,
    ⟨0x10, .u8, .ro, 0, .any, false⟩,
    ⟨0x11, (.octets 64), .ro, 0, .any, false⟩,
    ⟨0x12, (.octets 32), .ro, 0, .any, false⟩,
    ⟨0x13, .bool, .ro, 0, .any, false⟩,
    ⟨0x14, .i32, .ro, 0, .any, false⟩,
    ⟨0x15, .u8, .ro, 0, .any, false⟩,
    ⟨0x16, .bool, .rw, 1, .any, true⟩,
    ⟨0x17, .u16, .rw, 16, .le 1 65535, true⟩,
    ⟨0x18, .u32, .rw, 20000, .any, true⟩,
    ⟨0x19, .bool, .wo, 0, .any, false⟩,
    ⟨0x1A, .u32, .ro, 0, .any, false⟩,
    ⟨0x1B, .u8, .ro, 0, .any, false⟩,
    ⟨0x1C, .u8, .rwp, 0, .le 0 3, false⟩,
    ⟨0x1D, .u8, .rwp, 0, .any, false⟩,
    ⟨0x1E, .u8, .rwp, 0, .any, false⟩,
    ⟨0x1F, .bool, .ro, 0, .any, false⟩,
    ⟨0x20, .u64, .ro, 0, .any, false⟩,
    ⟨0x21, .u64, .ro, 0, .any, false⟩,
    ⟨0x22, .bool, .wo, 0, .any, false⟩,
    ⟨0x23, .u8, .wo, 0, .le 0 2, false⟩,
    ⟨0x24, .u8, .ro, 0, .any, false⟩,
    ⟨0x25, .u16, .ro, 0, .any, false⟩,
    ⟨0x26, .u16, .ro, 0, .any, false⟩,
    ⟨0x27, (.octets 2048), .ro, 0, .any, false⟩,
    ⟨0x28, .u64, .ro, 0, .any, false⟩,
    ⟨0x29, .u64, .ro, 0, .any, false⟩,
    ⟨0x2A, .u64, .ro, 0, .any, false⟩,
    ⟨0x2B, .u64, .ro, 0, .any, false⟩,
    ⟨0x2C, .u64, .ro, 0, .any, false⟩,
    ⟨0x2D, .u64, .ro, 0, .any, false⟩,
    ⟨0x2E, (.octets 128), .ro, 0, .any, false⟩,
    ⟨0x2F, .u32, .w1c, 0, .any, false⟩,
    ⟨0x30, .u32, .ro, 0, .any, false⟩,
    ⟨0x31, .u32, .ro, 0, .any, false⟩,
    ⟨0x32, .u32, .ro, 0, .any, false⟩,
    ⟨0x33, .u32, .ro, 0, .any, false⟩,
    ⟨0x34, .u32, .ro, 0, .any, false⟩,
    ⟨0x35, .u32, .ro, 0, .any, false⟩,
    ⟨0x36, .u32, .ro, 0, .any, false⟩,
    ⟨0x37, .u32, .ro, 0, .any, false⟩,
    ⟨0x38, .u32, .ro, 0, .any, false⟩]⟩

/-- `0x1200 HOST_LANE`: 06_lanes.md R165. -/
def obj1200 : Obj := ⟨0x1200, 8, none, [
    ⟨0x01, .u8, .ro, 0, .any, false⟩,
    ⟨0x02, .u8, .ro, 0, .any, false⟩,
    ⟨0x03, .u8, .ro, 0, .any, false⟩,
    ⟨0x04, .bool, .rw, 1, .any, true⟩,
    ⟨0x05, .bool, .rw, 0, .any, true⟩,
    ⟨0x06, .bool, .rw, 0, .any, true⟩,
    ⟨0x07, .u8, .rw, 0, .le 0 1, true⟩,
    ⟨0x08, .bool, .rw, 1, .any, true⟩,
    ⟨0x09, .i32, .rw, 0, .any, true⟩,
    ⟨0x0A, .i32, .rw, 0, .any, true⟩,
    ⟨0x0B, .i32, .rw, 4294967288, .any, true⟩,
    ⟨0x0C, .i32, .rw, 56, .any, true⟩,
    ⟨0x0D, .i32, .rw, 0, .any, true⟩,
    ⟨0x0E, .u16, .rw, 800, .step 400 1200 50, true⟩,
    ⟨0x0F, .u8, .rw, 1, .le 0 1, true⟩,
    ⟨0x10, .u8, .ro, 0, .any, false⟩,
    ⟨0x11, (.octets 64), .ro, 0, .any, false⟩,
    ⟨0x12, (.octets 32), .ro, 0, .any, false⟩,
    ⟨0x13, .bool, .ro, 0, .any, false⟩,
    ⟨0x14, .i32, .ro, 0, .any, false⟩,
    ⟨0x15, .u8, .ro, 0, .any, false⟩,
    ⟨0x16, .bool, .rw, 1, .any, true⟩,
    ⟨0x17, .u16, .rw, 16, .le 1 65535, true⟩,
    ⟨0x18, .u32, .rw, 20000, .any, true⟩,
    ⟨0x19, .bool, .wo, 0, .any, false⟩,
    ⟨0x1A, .u32, .ro, 0, .any, false⟩,
    ⟨0x1B, .u8, .ro, 0, .any, false⟩,
    ⟨0x1C, .u8, .rwp, 0, .le 0 3, false⟩,
    ⟨0x1D, .u8, .rwp, 0, .any, false⟩,
    ⟨0x1E, .u8, .rwp, 0, .any, false⟩,
    ⟨0x1F, .bool, .ro, 0, .any, false⟩,
    ⟨0x20, .u64, .ro, 0, .any, false⟩,
    ⟨0x21, .u64, .ro, 0, .any, false⟩,
    ⟨0x22, .bool, .wo, 0, .any, false⟩,
    ⟨0x23, .u8, .wo, 0, .le 0 2, false⟩,
    ⟨0x24, .u8, .ro, 0, .any, false⟩,
    ⟨0x25, .u16, .ro, 0, .any, false⟩,
    ⟨0x26, .u16, .ro, 0, .any, false⟩,
    ⟨0x27, (.octets 2048), .ro, 0, .any, false⟩,
    ⟨0x28, .u64, .ro, 0, .any, false⟩,
    ⟨0x29, .u64, .ro, 0, .any, false⟩,
    ⟨0x2A, .u64, .ro, 0, .any, false⟩,
    ⟨0x2B, .u64, .ro, 0, .any, false⟩,
    ⟨0x2C, .u64, .ro, 0, .any, false⟩,
    ⟨0x2D, .u64, .ro, 0, .any, false⟩,
    ⟨0x2E, (.octets 128), .ro, 0, .any, false⟩,
    ⟨0x2F, .u32, .w1c, 0, .any, false⟩,
    ⟨0x30, .u32, .ro, 0, .any, false⟩,
    ⟨0x31, .u32, .ro, 0, .any, false⟩,
    ⟨0x32, .u32, .ro, 0, .any, false⟩,
    ⟨0x33, .u32, .ro, 0, .any, false⟩,
    ⟨0x34, .u32, .ro, 0, .any, false⟩,
    ⟨0x35, .u32, .ro, 0, .any, false⟩,
    ⟨0x36, .u32, .ro, 0, .any, false⟩,
    ⟨0x37, .u32, .ro, 0, .any, false⟩,
    ⟨0x38, .u32, .ro, 0, .any, false⟩]⟩

/-- `0x1400 PORT`: 07_ports.md R185. -/
def obj1400 : Obj := ⟨0x1400, 643, none, [
    ⟨0x01, .u8, .ro, 0, .any, false⟩,
    ⟨0x02, .u8, .ro, 0, .any, false⟩,
    ⟨0x03, .u8, .ro, 0, .any, false⟩,
    ⟨0x04, .u8, .ro, 0, .any, false⟩,
    ⟨0x05, .u8, .ro, 0, .any, false⟩,
    ⟨0x06, .u8, .rw, 0, .le 0 15, true⟩,
    ⟨0x07, .bool, .rw, 1, .any, true⟩,
    ⟨0x08, .u16, .rw, 1522, .le 128 10240, true⟩,
    ⟨0x09, .u16, .rw, 10, .le 0 10000, true⟩,
    ⟨0x0A, .u32, .ro, 0, .any, false⟩,
    ⟨0x0B, .time80, .ro, 0, .any, false⟩,
    ⟨0x0C, .bool, .rw, 0, .any, true⟩,
    ⟨0x0D, .bool, .rw, 1, .any, true⟩,
    ⟨0x0E, .u32, .ro, 0, .any, false⟩,
    ⟨0x0F, .u8, .ro, 0, .any, false⟩,
    ⟨0x10, (.octets 32), .rw, 0, .wordsStep 2 0 65520 16, true⟩,
    ⟨0x11, (.octets 32), .ro, 0, .any, false⟩,
    ⟨0x12, (.octets 64), .ro, 0, .any, false⟩,
    ⟨0x13, .u32, .rw, 1000, .le 400 100000, true⟩,
    ⟨0x14, .bool, .wo, 0, .any, false⟩,
    ⟨0x15, .u64, .ro, 0, .any, false⟩,
    ⟨0x16, .u64, .ro, 0, .any, false⟩,
    ⟨0x18, .u64, .ro, 0, .any, false⟩,
    ⟨0x19, .u64, .ro, 0, .any, false⟩,
    ⟨0x1A, .u64, .ro, 0, .any, false⟩,
    ⟨0x1B, .u64, .ro, 0, .any, false⟩,
    ⟨0x1C, .u64, .ro, 0, .any, false⟩,
    ⟨0x1D, .u64, .ro, 0, .any, false⟩,
    ⟨0x1E, .u64, .ro, 0, .any, false⟩,
    ⟨0x1F, .u64, .ro, 0, .any, false⟩,
    ⟨0x20, .u32, .w1c, 0, .any, false⟩,
    ⟨0x21, .u32, .ro, 0, .any, false⟩,
    ⟨0x22, .u32, .ro, 0, .any, false⟩,
    ⟨0x23, .u32, .ro, 0, .any, false⟩,
    ⟨0x24, .u32, .ro, 0, .any, false⟩,
    ⟨0x25, .u32, .ro, 0, .any, false⟩,
    ⟨0x26, .u32, .ro, 0, .any, false⟩,
    ⟨0x27, .u32, .ro, 0, .any, false⟩]⟩

/-- `0x1800 OCTET`: 07_ports.md R184. -/
def obj1800 : Obj := ⟨0x1800, 64, none, [
    ⟨0x01, .u8, .rw, 0, .any, true⟩,
    ⟨0x02, .u8, .rw, 0, .any, true⟩,
    ⟨0x03, .u8, .rw, 0, .any, true⟩,
    ⟨0x04, .u8, .rw, 0, .any, true⟩,
    ⟨0x05, .u8, .rw, 0, .any, true⟩,
    ⟨0x06, .u8, .rw, 0, .any, true⟩,
    ⟨0x07, .u8, .rw, 0, .any, true⟩,
    ⟨0x08, .u8, .rw, 0, .any, true⟩,
    ⟨0x09, .u8, .rw, 0, .any, true⟩,
    ⟨0x0A, .u8, .rw, 0, .any, true⟩,
    ⟨0x0B, .bool, .wo, 0, .any, false⟩,
    ⟨0x0C, .bool, .ro, 0, .any, false⟩,
    ⟨0x0D, .u32, .ro, 0, .any, false⟩]⟩

/-- `0x2000 PIPELINE_CONFIG`: 08_pipeline.md R211. -/
def obj2000 : Obj := ⟨0x2000, 1, none, [
    ⟨0x01, .u8, .ro, 0, .any, false⟩,
    ⟨0x02, .u32, .ro, 0, .any, false⟩,
    ⟨0x03, .time80, .ro, 0, .any, false⟩,
    ⟨0x04, .bool, .wo, 0, .any, false⟩,
    ⟨0x05, .bool, .ro, 0, .any, false⟩]⟩

/-- `0x2010 INGRESS_PIPE`: 08_pipeline.md R212. -/
def obj2010 : Obj := ⟨0x2010, 64, none, [
    ⟨0x01, .u64, .ro, 0, .any, false⟩,
    ⟨0x02, .u64, .ro, 0, .any, false⟩,
    ⟨0x03, .u64, .ro, 0, .any, false⟩,
    ⟨0x04, .u64, .ro, 0, .any, false⟩,
    ⟨0x05, .u64, .ro, 0, .any, false⟩,
    ⟨0x06, .u64, .ro, 0, .any, false⟩,
    ⟨0x07, .u64, .ro, 0, .any, false⟩,
    ⟨0x08, .u64, .ro, 0, .any, false⟩,
    ⟨0x09, .u64, .ro, 0, .any, false⟩,
    ⟨0x0A, .u64, .ro, 0, .any, false⟩,
    ⟨0x0B, .u64, .ro, 0, .any, false⟩]⟩

/-- `0x2050 EGRESS_PIPE`: 08_pipeline.md R212. -/
def obj2050 : Obj := ⟨0x2050, 64, none, [
    ⟨0x01, .u64, .ro, 0, .any, false⟩,
    ⟨0x02, .u64, .ro, 0, .any, false⟩,
    ⟨0x03, .u64, .ro, 0, .any, false⟩,
    ⟨0x04, .u64, .ro, 0, .any, false⟩,
    ⟨0x05, .u64, .ro, 0, .any, false⟩,
    ⟨0x06, .u64, .ro, 0, .any, false⟩]⟩

/-- `0x2100 PORT_PARSE`: 08_pipeline.md R213. -/
def obj2100 : Obj := ⟨0x2100, 643, none, [
    ⟨0x01, .u16, .rw, 128, .oneOf [64, 128, 192, 256], true⟩,
    ⟨0x02, .u8, .rw, 0, .le 0 254, true⟩,
    ⟨0x03, .u16, .rw, 1, .le 0 4094, true⟩,
    ⟨0x04, .u8, .rw, 0, .le 0 7, true⟩,
    ⟨0x05, .u8, .rw, 0, .le 0 16, true⟩]⟩

/-- `0x2400 PARSE_GRAPH_WINDOW`: 08_pipeline.md R214. -/
def obj2400 : Obj := ⟨0x2400, 1, some ⟨256, 64, .rw, true⟩, []⟩

/-- `0x2401 STAGE_TABLE_WINDOW`: 08_pipeline.md R214. -/
def obj2401 : Obj := ⟨0x2401, 1, some ⟨256, 32, .rw, true⟩, []⟩

/-- `0x2410 INGRESS_STAGE`: 08_pipeline.md R215. -/
def obj2410 : Obj := ⟨0x2410, 12, none, [
    ⟨0x01, .u32, .rw, 0, .any, true⟩,
    ⟨0x02, .u32, .rw, 0, .any, true⟩,
    ⟨0x03, .u32, .rw, 0, .any, true⟩,
    ⟨0x04, .u32, .rw, 0, .any, true⟩,
    ⟨0x05, .u16, .rw, 0, .le 0 16383, true⟩,
    ⟨0x06, .u32, .rw, 0, .any, true⟩]⟩

/-- `0x2420 EGRESS_STAGE`: 08_pipeline.md R215. -/
def obj2420 : Obj := ⟨0x2420, 6, none, [
    ⟨0x01, .u32, .rw, 0, .any, true⟩,
    ⟨0x02, .u32, .rw, 0, .any, true⟩,
    ⟨0x03, .u32, .rw, 0, .any, true⟩,
    ⟨0x04, .u32, .rw, 0, .any, true⟩,
    ⟨0x05, .u16, .rw, 0, .le 0 16383, true⟩,
    ⟨0x06, .u32, .rw, 0, .any, true⟩]⟩

/-- `0x2E00 PIPE_UCODE`: 17_microcode.md R457. -/
def obj2E00 : Obj := ⟨0x2E00, 1, none, [
    ⟨0x01, (.octets 262144), .wp, 0, .any, false⟩,
    ⟨0x02, .u8, .wp, 0, .le 1 2, false⟩,
    ⟨0x03, .u8, .rw, 0, .le 0 1, true⟩,
    ⟨0x04, .bool, .rwp, 1, .any, true⟩,
    ⟨0x05, .u8, .ro, 0, .any, false⟩,
    ⟨0x06, .u32, .ro, 0, .any, false⟩,
    ⟨0x07, .u8, .ro, 0, .any, false⟩,
    ⟨0x08, .u8, .ro, 0, .any, false⟩,
    ⟨0x09, .u16, .ro, 0, .any, false⟩,
    ⟨0x0A, .u32, .ro, 0, .any, false⟩,
    ⟨0x0B, .u32, .ro, 0, .any, false⟩,
    ⟨0x0C, (.octets 48), .ro, 0, .any, false⟩,
    ⟨0x0D, .u8, .ro, 255, .any, false⟩,
    ⟨0x0E, .u64, .ro, 0, .any, false⟩,
    ⟨0x0F, .u64, .ro, 0, .any, false⟩,
    ⟨0x10, .u64, .ro, 0, .any, false⟩,
    ⟨0x11, .u32, .w1c, 0, .any, false⟩,
    ⟨0x12, .u32, .ro, 0, .any, false⟩,
    ⟨0x13, .u32, .ro, 0, .any, false⟩,
    ⟨0x14, .u32, .ro, 0, .any, false⟩]⟩

/-- `0x2E10 PIPE_MICROWORD_WINDOW`: 17_microcode.md R459. -/
def obj2E10 : Obj := ⟨0x2E10, 1, some ⟨16384, 4, .range, false⟩, []⟩

/-- `0x2E11 PIPE_NANOWORD_WINDOW`: 17_microcode.md R459. -/
def obj2E11 : Obj := ⟨0x2E11, 1, some ⟨4096, 64, .range, false⟩, []⟩

/-- `0x3000 LOOKUP_CONTROL`: 09_classification.md R238. -/
def obj3000 : Obj := ⟨0x3000, 1, none, [
    ⟨0x01, .u32, .ro, 0, .any, false⟩,
    ⟨0x02, .u32, .ro, 0, .any, false⟩,
    ⟨0x03, .u64, .ro, 0, .any, false⟩,
    ⟨0x04, .u64, .ro, 0, .any, false⟩,
    ⟨0x05, .u64, .ro, 0, .any, false⟩,
    ⟨0x06, .u64, .ro, 0, .any, false⟩]⟩

/-- `0x3011 EM_WINDOW`: 09_classification.md R239. -/
def obj3011 : Obj := ⟨0x3011, 1, some ⟨524288, 32, .rw, true⟩, [⟨0x20, .u32, .ro, 0, .any, false⟩, ⟨0x21, .u8, .ro, 0, .any, false⟩, ⟨0x22, .u32, .ro, 0, .any, false⟩, ⟨0x23, .u32, .ro, 0, .any, false⟩, ⟨0x24, .u64, .ro, 0, .any, false⟩]⟩

/-- `0x3020 CLS_NODE_WINDOW`: 09_classification.md R239. -/
def obj3020 : Obj := ⟨0x3020, 1, some ⟨131072, 64, .rw, true⟩, [⟨0x20, .u32, .ro, 0, .any, false⟩, ⟨0x21, .u8, .ro, 0, .any, false⟩, ⟨0x22, .u32, .rw, 0, .any, false⟩, ⟨0x23, (.octets 32768), .ro, 0, .any, false⟩, ⟨0x24, .u32, .ro, 131072, .any, false⟩, ⟨0x25, .u32, .ro, 0, .any, false⟩]⟩

/-- `0x3021 CLS_RULE_WINDOW`: 09_classification.md R239. -/
def obj3021 : Obj := ⟨0x3021, 1, some ⟨65536, 96, .rw, true⟩, [⟨0x20, .u32, .ro, 0, .any, false⟩, ⟨0x21, .u8, .ro, 0, .any, false⟩, ⟨0x22, .u32, .ro, 0, .any, false⟩, ⟨0x23, .u32, .ro, 0, .any, false⟩, ⟨0x24, (.octets 16384), .ro, 0, .any, false⟩]⟩

/-- `0x3030 SPREAD_WINDOW`: 09_classification.md R239. -/
def obj3030 : Obj := ⟨0x3030, 1, some ⟨4096, 4, .rw, true⟩, [⟨0x20, .u32, .ro, 0, .any, false⟩, ⟨0x21, .u8, .ro, 0, .any, false⟩]⟩

/-- `0x3040 HASH_PROFILE`: 09_classification.md R241. -/
def obj3040 : Obj := ⟨0x3040, 16, none, [
    ⟨0x01, .u8, .rw, 0, .le 0 1, true⟩,
    ⟨0x02, .u32, .rw, 4294967295, .any, true⟩,
    ⟨0x03, .bool, .rw, 0, .any, true⟩,
    ⟨0x04, (.octets 64), .rw, 0, .any, true⟩,
    ⟨0x05, (.octets 68), .rw, 0, .any, true⟩]⟩

/-- `0x3060 EM_PROFILE`: 09_classification.md R241. -/
def obj3060 : Obj := ⟨0x3060, 16, none, [
    ⟨0x01, (.octets 32), .rw, 0, .any, true⟩]⟩

/-- `0x3070 CLS_TREE`: 09_classification.md R241. -/
def obj3070 : Obj := ⟨0x3070, 16, none, [
    ⟨0x01, .u32, .ro, 4294967295, .any, false⟩,
    ⟨0x02, (.octets 32), .rw, 0, .any, true⟩,
    ⟨0x03, .u8, .rw, 0, .any, true⟩]⟩

/-- `0x3080 SPREAD_TABLE`: 09_classification.md R242. -/
def obj3080 : Obj := ⟨0x3080, 64, none, [
    ⟨0x01, .u32, .ro, 0, .any, false⟩]⟩

/-- `0x3100 PORT_LOOKUP`: 09_classification.md R242. -/
def obj3100 : Obj := ⟨0x3100, 643, none, [
    ⟨0x01, .bool, .rw, 1, .any, true⟩,
    ⟨0x02, .u8, .rw, 0, .le 0 15, true⟩,
    ⟨0x03, .u8, .rw, 255, .leOr 0 15 255, true⟩,
    ⟨0x04, .u8, .rw, 0, .le 0 15, true⟩]⟩

/-- `0x4000 BUFFER_CONFIG`: 10_switch_core_buffer.md R267. -/
def obj4000 : Obj := ⟨0x4000, 1, none, [
    ⟨0x01, .u32, .ro, 786432, .any, false⟩,
    ⟨0x02, .u32, .ro, 2048, .any, false⟩,
    ⟨0x03, .u32, .ro, 4096, .any, false⟩,
    ⟨0x04, .u32, .rw, 65536, .any, true⟩,
    ⟨0x05, .u32, .ro, 0, .any, false⟩,
    ⟨0x06, .u32, .ro, 714752, .any, false⟩,
    ⟨0x07, .u32, .ro, 714752, .any, false⟩,
    ⟨0x08, .u32, .ro, 1048576, .any, false⟩,
    ⟨0x09, .u32, .ro, 1024, .any, false⟩,
    ⟨0x0A, .u32, .rw, 65536, .le 1024 524288, true⟩,
    ⟨0x0B, .u32, .ro, 1048576, .any, false⟩,
    ⟨0x0C, .u32, .ro, 0, .any, false⟩]⟩

/-- `0x4010 DROP_TOTALS`: 10_switch_core_buffer.md R268. -/
def obj4010 : Obj := ⟨0x4010, 1, none, [
    ⟨0x01, (.octets 2048), .ro, 0, .any, false⟩,
    ⟨0x02, (.octets 2048), .ro, 0, .any, false⟩,
    ⟨0x03, (.octets 2048), .ro, 0, .any, false⟩]⟩

/-- `0x4020 PARTITION_BUFFER`: 10_switch_core_buffer.md R269. -/
def obj4020 : Obj := ⟨0x4020, 16, none, [
    ⟨0x01, .u32, .rw, 0, .any, true⟩,
    ⟨0x02, .i32, .rw, 0, .int (-4) 4, true⟩,
    ⟨0x03, .u32, .ro, 0, .any, false⟩,
    ⟨0x04, .u32, .ro, 0, .any, false⟩,
    ⟨0x05, .u32, .ro, 0, .any, false⟩]⟩

/-- `0x4100 MC_GROUP_WINDOW`: 10_switch_core_buffer.md R270. -/
def obj4100 : Obj := ⟨0x4100, 1, some ⟨16384, 96, .rw, true⟩, []⟩

/-- `0x4200 PORT_BUFFER`: 10_switch_core_buffer.md R271. -/
def obj4200 : Obj := ⟨0x4200, 643, none, [
    ⟨0x01, .bool, .rw, 1, .any, true⟩,
    ⟨0x02, .u16, .rw, 65535, .any, true⟩,
    ⟨0x03, .u8, .rw, 0, .le 0 1, true⟩,
    ⟨0x04, .u32, .rw, 0, .leOr 10 10000000 0, true⟩,
    ⟨0x05, .u32, .rw, 131072, .le 0 786432, true⟩,
    ⟨0x06, (.octets 64), .rw, 0x8000000080000000800000008000000080000000800000008000000080000000800000008000000080000000800000008000000080000000800000008000, .any, true⟩,
    ⟨0x07, .u16, .rw, 0, .any, true⟩,
    ⟨0x08, (.octets 64), .rw, 0x1000000010000000100000001000000010000000100000001000000010000000100000001000000010000000100000001000000010000000100000001000, .any, true⟩,
    ⟨0x09, .u32, .ro, 0, .any, false⟩,
    ⟨0x0A, (.octets 64), .ro, 0, .any, false⟩,
    ⟨0x0B, .u64, .ro, 0, .any, false⟩,
    ⟨0x0C, .u64, .ro, 0, .any, false⟩]⟩

/-- `0x4800 TALLY_CONTROL`: 14_tally.md R356. -/
def obj4800 : Obj := ⟨0x4800, 1, none, [
    ⟨0x01, .u64, .ro, 0, .any, false⟩,
    ⟨0x02, .u32, .ro, 1048576, .any, false⟩,
    ⟨0x03, .bool, .wo, 0, .any, false⟩,
    ⟨0x04, .bool, .wo, 0, .any, false⟩,
    ⟨0x05, .time80, .ro, 0, .any, false⟩,
    ⟨0x06, .time80, .ro, 0, .any, false⟩,
    ⟨0x07, .u64, .ro, 0, .any, false⟩,
    ⟨0x08, .u64, .ro, 0, .any, false⟩,
    ⟨0x09, .u64, .ro, 0, .any, false⟩,
    ⟨0x0A, .u8, .rw, 0, .le 0 1, true⟩,
    ⟨0x0B, .u32, .w1c, 0, .any, false⟩,
    ⟨0x0C, .u32, .ro, 0, .any, false⟩,
    ⟨0x0D, .u32, .ro, 0, .any, false⟩,
    ⟨0x0E, .u32, .ro, 0, .any, false⟩,
    ⟨0x0F, .u32, .ro, 0, .any, false⟩,
    ⟨0x10, .u32, .ro, 0, .any, false⟩]⟩

/-- `0x4810 PARTITION_LEDGER`: 14_tally.md R356. -/
def obj4810 : Obj := ⟨0x4810, 16, none, [
    ⟨0x01, .u32, .ro, 0, .any, false⟩,
    ⟨0x02, .u32, .ro, 0, .any, false⟩,
    ⟨0x03, .u32, .ro, 0, .any, false⟩,
    ⟨0x04, .u32, .ro, 0, .any, false⟩,
    ⟨0x05, .u64, .ro, 0, .any, false⟩,
    ⟨0x06, .u64, .ro, 0, .any, false⟩,
    ⟨0x07, .u64, .ro, 0, .any, false⟩,
    ⟨0x08, .u32, .ro, 0, .any, false⟩,
    ⟨0x09, .u64, .ro, 0, .any, false⟩,
    ⟨0x0A, .u64, .ro, 0, .any, false⟩,
    ⟨0x0B, .u64, .ro, 0, .any, false⟩,
    ⟨0x0C, .u32, .ro, 0, .any, false⟩,
    ⟨0x0D, .u64, .ro, 0, .any, false⟩,
    ⟨0x0E, .u8, .ro, 0, .any, false⟩,
    ⟨0x0F, .u32, .ro, 0, .any, false⟩]⟩

/-- `0x4820 DEVICE_LEDGER`: 14_tally.md R356. -/
def obj4820 : Obj := ⟨0x4820, 1, none, [
    ⟨0x01, .u32, .ro, 0, .any, false⟩,
    ⟨0x02, .u32, .ro, 0, .any, false⟩,
    ⟨0x03, .u32, .ro, 0, .any, false⟩,
    ⟨0x04, .u32, .ro, 0, .any, false⟩,
    ⟨0x05, .u32, .ro, 0, .any, false⟩,
    ⟨0x06, .u32, .ro, 0, .any, false⟩,
    ⟨0x07, .u32, .ro, 0, .any, false⟩,
    ⟨0x08, .u32, .ro, 0, .any, false⟩,
    ⟨0x09, .u32, .ro, 0, .any, false⟩,
    ⟨0x0A, .u32, .ro, 0, .any, false⟩,
    ⟨0x0B, .u32, .ro, 0, .any, false⟩,
    ⟨0x0C, .u32, .ro, 0, .any, false⟩,
    ⟨0x0D, .u32, .ro, 0, .any, false⟩,
    ⟨0x0E, .u32, .ro, 0, .any, false⟩]⟩

/-- `0x4840 FENCE_CONTROL`: 14_tally.md R356. -/
def obj4840 : Obj := ⟨0x4840, 1, none, [
    ⟨0x01, .u32, .wp, 0, .any, false⟩,
    ⟨0x02, .u32, .wo, 0, .any, false⟩,
    ⟨0x03, .u32, .rw, 0, .any, false⟩,
    ⟨0x04, .u8, .ro, 0, .any, false⟩,
    ⟨0x05, .u16, .ro, 0, .any, false⟩]⟩

/-- `0x4850 LEASES`: 14_tally.md R356. -/
def obj4850 : Obj := ⟨0x4850, 1, none, [
    ⟨0x01, .u16, .rw, 0, .leOr 10 60000 0, true⟩,
    ⟨0x02, .u8, .rw, 0, .le 0 1, true⟩,
    ⟨0x03, .u16, .rw, 10, .leOr 10 60000 0, true⟩,
    ⟨0x04, .u8, .rw, 1, .le 0 1, true⟩,
    ⟨0x05, .u16, .rw, 0, .leOr 10 60000 0, true⟩,
    ⟨0x06, .u8, .rw, 0, .le 0 1, true⟩]⟩

/-- `0x4880 TALLY_LOG`: 14_tally.md R356. -/
def obj4880 : Obj := ⟨0x4880, 1, none, [
    ⟨0x01, (.octets 512), .ro, 0, .any, false⟩,
    ⟨0x02, .u16, .ro, 0, .any, false⟩]⟩

/-- `0x5000 PORT_SCHED`: 11_queues_shaping_policing.md R293. -/
def obj5000 : Obj := ⟨0x5000, 643, none, [
    ⟨0x01, .u16, .rw, 49152, .any, true⟩,
    ⟨0x02, (.octets 64), .rw, 0x600000006000000060000000600000006000000060000000600000006000000060000000600000006000000060000000600000006000000060000000600, .wordsIn 4 64 16777215, true⟩,
    ⟨0x03, .u16, .rw, 0, .any, true⟩,
    ⟨0x04, (.octets 64), .rw, 0xF4240000F4240000F4240000F4240000F4240000F4240000F4240000F4240000F4240000F4240000F4240000F4240000F4240000F4240000F4240000F4240, .wordsIn 4 0 800000000, true⟩,
    ⟨0x05, (.octets 64), .rw, 0x4000000040000000400000004000000040000000400000004000000040000000400000004000000040000000400000004000000040000000400000004000, .wordsIn 4 64 16777215, true⟩,
    ⟨0x06, .bool, .rw, 0, .any, true⟩,
    ⟨0x07, .u32, .rw, 800000000, .le 0 800000000, true⟩,
    ⟨0x08, .u32, .rw, 65536, .le 64 16777215, true⟩,
    ⟨0x09, .u8, .rw, 20, .le 0 63, true⟩]⟩

/-- `0x5300 PORT_QSTATE`: 11_queues_shaping_policing.md R294. -/
def obj5300 : Obj := ⟨0x5300, 643, none, [
    ⟨0x01, (.octets 64), .ro, 0, .any, false⟩,
    ⟨0x02, (.octets 128), .ro, 0, .any, false⟩,
    ⟨0x03, .i64, .ro, 0, .any, false⟩,
    ⟨0x04, .u16, .ro, 0, .any, false⟩,
    ⟨0x05, (.octets 64), .ro, 0, .any, false⟩,
    ⟨0x06, (.octets 64), .ro, 0, .any, false⟩,
    ⟨0x07, .u16, .wo, 0, .any, false⟩]⟩

/-- `0x5600 POLICER_WINDOW`: 11_queues_shaping_policing.md R286. -/
def obj5600 : Obj := ⟨0x5600, 1, some ⟨131072, 32, .rw, true⟩, []⟩

/-- `0x5601 POLICER_STATE_WINDOW`: 11_queues_shaping_policing.md R287. -/
def obj5601 : Obj := ⟨0x5601, 1, some ⟨131072, 32, .range, false⟩, []⟩

/-- `0x5602 POLICER_CONTROL`: 11_queues_shaping_policing.md R296. -/
def obj5602 : Obj := ⟨0x5602, 1, none, [
    ⟨0x01, .u32, .wo, 0, .le 0 131071, false⟩,
    ⟨0x02, .u32, .ro, 0, .any, false⟩,
    ⟨0x03, .u64, .ro, 0, .any, false⟩,
    ⟨0x04, .u64, .ro, 0, .any, false⟩]⟩

/-- `0x5800 PORT_PFC`: 11_queues_shaping_policing.md R295. -/
def obj5800 : Obj := ⟨0x5800, 512, none, [
    ⟨0x01, .u8, .rw, 0, .any, true⟩,
    ⟨0x02, .u8, .rw, 0, .any, true⟩,
    ⟨0x03, (.octets 16), .rw, 0x3000C003000C003000C003000C000, .any, true⟩,
    ⟨0x04, .u32, .rw, 2048, .any, true⟩,
    ⟨0x05, .u32, .rw, 1024, .any, true⟩,
    ⟨0x06, .u16, .rw, 100, .le 10 10000, true⟩,
    ⟨0x07, .u8, .rw, 2, .le 0 2, true⟩,
    ⟨0x08, .u16, .rw, 1000, .le 10 60000, true⟩,
    ⟨0x09, (.octets 32), .ro, 0, .any, false⟩,
    ⟨0x0A, .u8, .ro, 0, .any, false⟩,
    ⟨0x0B, .u64, .ro, 0, .any, false⟩,
    ⟨0x0C, .u64, .ro, 0, .any, false⟩,
    ⟨0x0D, .u16, .ro, 0, .any, false⟩,
    ⟨0x0E, .u32, .w1c, 0, .any, false⟩,
    ⟨0x0F, .u32, .ro, 0, .any, false⟩,
    ⟨0x10, .u32, .ro, 0, .any, false⟩,
    ⟨0x11, .u32, .ro, 0, .any, false⟩]⟩

/-- `0x5C00 GATE_PORT`: 12_time_and_gates.md R320. -/
def obj5C00 : Obj := ⟨0x5C00, 643, none, [
    ⟨0x01, .bool, .ro, 0, .any, false⟩,
    ⟨0x02, .time80, .ro, 0, .any, false⟩,
    ⟨0x03, .u32, .ro, 0, .any, false⟩,
    ⟨0x04, .u16, .ro, 0, .any, false⟩,
    ⟨0x05, .bool, .ro, 0, .any, false⟩,
    ⟨0x06, .time80, .ro, 0, .any, false⟩,
    ⟨0x07, .bool, .wo, 0, .any, false⟩,
    ⟨0x08, .bool, .wo, 0, .any, false⟩,
    ⟨0x09, .u32, .ro, 0, .any, false⟩,
    ⟨0x0A, .u16, .ro, 65535, .any, false⟩,
    ⟨0x0B, .u16, .rw, 65535, .any, true⟩,
    ⟨0x0C, .bool, .ro, 0, .any, false⟩,
    ⟨0x0D, .u32, .ro, 0, .any, false⟩,
    ⟨0x0E, .u16, .ro, 0, .any, false⟩,
    ⟨0x0F, (.octets 64), .ro, 0xFFFFFFFFFFFFFFFFFFFFFFFFFFFFFFFFFFFFFFFFFFFFFFFFFFFFFFFFFFFFFFFFFFFFFFFFFFFFFFFFFFFFFFFFFFFFFFFFFFFFFFFFFFFFFFFFFFFFFFFFFFFFFFFF, .any, false⟩,
    ⟨0x10, .u8, .ro, 0, .any, false⟩,
    ⟨0x11, .time80, .ro, 0, .any, false⟩,
    ⟨0x12, .u32, .w1c, 0, .any, false⟩,
    ⟨0x13, .u32, .ro, 0, .any, false⟩]⟩

/-- `0x5F00 GATE_LIST_WINDOW`: 12_time_and_gates.md R319. -/
def obj5F00 : Obj := ⟨0x5F00, 1, some ⟨256, 8, .rw, true⟩, [⟨0x20, .time80, .rw, 0, .any, false⟩, ⟨0x21, .u32, .rw, 0, .any, false⟩, ⟨0x22, .u16, .rw, 0, .le 1 256, false⟩]⟩

/-- `0x5F01 STREAM_GATE_WINDOW`: 12_time_and_gates.md R318. -/
def obj5F01 : Obj := ⟨0x5F01, 1, some ⟨1024, 4, .rw, true⟩, []⟩

/-- `0x6000 TIME_UNIT`: 12_time_and_gates.md R321. -/
def obj6000 : Obj := ⟨0x6000, 1, none, [
    ⟨0x01, .time80, .ro, 0, .any, false⟩,
    ⟨0x02, .u16, .ro, 0, .any, false⟩,
    ⟨0x03, .u8, .ro, 0, .any, false⟩,
    ⟨0x04, .u8, .rw, 0, .le 0 1, true⟩,
    ⟨0x05, .u8, .rw, 0, .le 0 1, true⟩,
    ⟨0x06, .u8, .rw, 0, .any, true⟩,
    ⟨0x07, .u16, .rw, 65535, .leOr 0 513 65535, true⟩,
    ⟨0x08, .i64, .wo, 0, .any, false⟩,
    ⟨0x09, .i32, .rw, 0, .int (-500000000) 500000000, false⟩,
    ⟨0x0A, .i64, .wo, 0, .any, false⟩,
    ⟨0x0B, .time80, .wo, 0, .any, false⟩,
    ⟨0x0C, .u32, .rw, 1000, .le 100 1000000000, true⟩,
    ⟨0x0D, .u32, .rw, 10000, .le 1000 100000, true⟩,
    ⟨0x0E, .u32, .rw, 100, .le 10 100000, true⟩,
    ⟨0x0F, .u16, .rw, 1000, .le 10 60000, true⟩,
    ⟨0x10, .u32, .rw, 2000, .le 0 3600000, true⟩,
    ⟨0x11, .u32, .rw, 1000, .le 10 600000, true⟩,
    ⟨0x12, .i64, .ro, 0, .any, false⟩,
    ⟨0x13, .i64, .ro, 0, .any, false⟩,
    ⟨0x14, .u32, .ro, 0, .any, false⟩,
    ⟨0x15, .u32, .w1c, 0, .any, false⟩,
    ⟨0x16, .u32, .ro, 0, .any, false⟩,
    ⟨0x17, .u32, .ro, 0, .any, false⟩,
    ⟨0x18, .u32, .ro, 0, .any, false⟩,
    ⟨0x19, .u32, .ro, 0, .any, false⟩,
    ⟨0x1A, .u32, .ro, 0, .any, false⟩,
    ⟨0x1B, .u8, .ro, 0, .any, false⟩]⟩

/-- `0x6100 PORT_TIME`: 12_time_and_gates.md R322. -/
def obj6100 : Obj := ⟨0x6100, 514, none, [
    ⟨0x01, .bool, .rw, 1, .any, true⟩,
    ⟨0x02, .bool, .rw, 1, .any, true⟩,
    ⟨0x03, .u32, .ro, 0, .any, false⟩,
    ⟨0x04, .u16, .ro, 0, .any, false⟩,
    ⟨0x05, .u64, .ro, 0, .any, false⟩,
    ⟨0x06, .u64, .ro, 0, .any, false⟩,
    ⟨0x07, (.octets 1024), .ro, 0, .any, false⟩]⟩

/-- `0x6800 ADMISSION_CONTROL`: 13_admission_redundancy.md R342. -/
def obj6800 : Obj := ⟨0x6800, 1, none, [
    ⟨0x01, .u32, .ro, 0, .any, false⟩,
    ⟨0x02, .u32, .ro, 0, .any, false⟩,
    ⟨0x03, .u32, .ro, 0, .any, false⟩,
    ⟨0x04, .u8, .ro, 0, .any, false⟩,
    ⟨0x05, .u16, .ro, 0, .any, false⟩,
    ⟨0x06, .u64, .ro, 0, .any, false⟩,
    ⟨0x07, .u64, .ro, 0, .any, false⟩,
    ⟨0x08, .u64, .ro, 0, .any, false⟩]⟩

/-- `0x6801 BOUND_QUERY`: 13_admission_redundancy.md R342. -/
def obj6801 : Obj := ⟨0x6801, 1, none, [
    ⟨0x01, .u16, .rw, 0, .any, false⟩,
    ⟨0x02, (.octets 2572), .ro, 0, .any, false⟩,
    ⟨0x03, (.octets 2572), .ro, 0, .any, false⟩]⟩

/-- `0x6810 RESV_WINDOW`: 13_admission_redundancy.md R323. -/
def obj6810 : Obj := ⟨0x6810, 1, some ⟨65536, 32, .rw, true⟩, [⟨0x20, .time80, .rw, 0, .any, false⟩]⟩

/-- `0x6811 RESV_STATE_WINDOW`: 13_admission_redundancy.md R342. -/
def obj6811 : Obj := ⟨0x6811, 1, some ⟨65536, 16, .range, false⟩, []⟩

/-- `0x6900 RESV_PORT`: 13_admission_redundancy.md R342. -/
def obj6900 : Obj := ⟨0x6900, 643, none, [
    ⟨0x01, .u8, .ro, 0, .any, false⟩,
    ⟨0x02, .u8, .ro, 0, .any, false⟩,
    ⟨0x03, .u32, .ro, 0, .any, false⟩,
    ⟨0x04, (.octets 64), .ro, 0, .any, false⟩]⟩

/-- `0x6C00 CB_WINDOW`: 13_admission_redundancy.md R338. -/
def obj6C00 : Obj := ⟨0x6C00, 1, some ⟨4096, 8, .rw, true⟩, []⟩

/-- `0x6C01 CB_STATE_WINDOW`: 13_admission_redundancy.md R338. -/
def obj6C01 : Obj := ⟨0x6C01, 1, some ⟨4096, 32, .range, false⟩, []⟩

/-- `0x6E00 DOVETAIL`: 13_admission_redundancy.md R342. -/
def obj6E00 : Obj := ⟨0x6E00, 1, none, [
    ⟨0x01, .u8, .rw, 0, .le 0 1, true⟩,
    ⟨0x02, (.octets 16), .rw, 0xFFFFFFFFFFFFFFFFFFFFFFFFFFFFFFFF, .any, true⟩,
    ⟨0x03, .u16, .rw, 0, .leOr 10 60000 0, true⟩,
    ⟨0x04, .bool, .wo, 0, .any, false⟩,
    ⟨0x05, .u32, .rw, 100, .le 1 1000000, true⟩,
    ⟨0x06, .u8, .ro, 2, .any, false⟩,
    ⟨0x07, .bool, .ro, 1, .any, false⟩,
    ⟨0x08, .bool, .wo, 0, .any, false⟩,
    ⟨0x09, .bool, .ro, 0, .any, false⟩,
    ⟨0x0A, .u32, .w1c, 0, .any, false⟩,
    ⟨0x0B, .u32, .ro, 0, .any, false⟩,
    ⟨0x0C, .u32, .rw, 10000, .le 0 600000, true⟩]⟩

/-- `0x6E10 MIRROR_RANGE`: 13_admission_redundancy.md R342. -/
def obj6E10 : Obj := ⟨0x6E10, 16, none, [
    ⟨0x01, .bool, .rw, 0, .any, true⟩,
    ⟨0x02, .u32, .rw, 0, .le 0 131071, true⟩,
    ⟨0x03, .u32, .rw, 0, .any, true⟩,
    ⟨0x04, .u16, .rw, 0, .any, true⟩,
    ⟨0x05, .u8, .rw, 0, .le 0 15, true⟩,
    ⟨0x06, .u8, .rw, 0, .le 0 15, true⟩,
    ⟨0x07, .u32, .rw, 0, .le 0 131071, true⟩,
    ⟨0x08, .u32, .rw, 1000, .step 250 1000000 250, true⟩,
    ⟨0x09, .u64, .ro, 0, .any, false⟩,
    ⟨0x0A, .u16, .rw, 514, .le 514 641, true⟩,
    ⟨0x0B, .u16, .rw, 0, .le 0 32767, true⟩,
    ⟨0x0C, .u8, .rw, 4, .le 1 64, true⟩]⟩

/-- `0x7000 SIGNAL_CONTROL`: 15_signal_image.md R381. -/
def obj7000 : Obj := ⟨0x7000, 1, none, [
    ⟨0x01, .u64, .ro, 0, .any, false⟩,
    ⟨0x02, .u64, .ro, 0, .any, false⟩,
    ⟨0x03, .u64, .ro, 0, .any, false⟩,
    ⟨0x04, .u64, .ro, 0, .any, false⟩,
    ⟨0x05, .u64, .ro, 0, .any, false⟩,
    ⟨0x06, .u64, .ro, 0, .any, false⟩,
    ⟨0x07, .u32, .ro, 0, .any, false⟩,
    ⟨0x08, .u32, .wo, 0, .le 0 131071, false⟩,
    ⟨0x09, .u64, .ro, 0, .any, false⟩,
    ⟨0x0A, .u64, .ro, 0, .any, false⟩,
    ⟨0x0B, .u64, .ro, 0, .any, false⟩,
    ⟨0x0C, .u64, .ro, 0, .any, false⟩,
    ⟨0x0D, .u64, .ro, 0, .any, false⟩,
    ⟨0x0E, .u32, .w1c, 0, .any, false⟩,
    ⟨0x0F, .u32, .ro, 0, .any, false⟩,
    ⟨0x10, .u32, .ro, 0, .any, false⟩]⟩

/-- `0x7010 SIGNAL_WINDOW`: 15_signal_image.md R380. -/
def obj7010 : Obj := ⟨0x7010, 1, some ⟨131072, 32, .rw, false⟩, [⟨0x20, .bool, .wo, 0, .any, false⟩]⟩

/-- `0x7011 SLOT_ATTR_WINDOW`: 15_signal_image.md R380. -/
def obj7011 : Obj := ⟨0x7011, 1, some ⟨131072, 16, .rwp, true⟩, []⟩

/-- `0x7020 EXTRACT_MAP_WINDOW`: 15_signal_image.md R380. -/
def obj7020 : Obj := ⟨0x7020, 1, some ⟨4096, 16, .rw, true⟩, []⟩

/-- `0x7021 EXTRACT_ENTRY_WINDOW`: 15_signal_image.md R380. -/
def obj7021 : Obj := ⟨0x7021, 1, some ⟨65536, 16, .rw, true⟩, []⟩

/-- `0x7030 PUB_LIST_WINDOW`: 15_signal_image.md R380. -/
def obj7030 : Obj := ⟨0x7030, 1, some ⟨4096, 32, .rw, true⟩, []⟩

/-- `0x7031 PUB_TEMPLATE_WINDOW`: 15_signal_image.md R380. -/
def obj7031 : Obj := ⟨0x7031, 1, some ⟨4096, 128, .rw, true⟩, []⟩

/-- `0x7032 PUB_ENTRY_WINDOW`: 15_signal_image.md R380. -/
def obj7032 : Obj := ⟨0x7032, 1, some ⟨262144, 8, .rw, true⟩, []⟩

/-- `0x7033 PUB_STATE_WINDOW`: 15_signal_image.md R380. -/
def obj7033 : Obj := ⟨0x7033, 1, some ⟨4096, 32, .range, false⟩, []⟩

/-- `0x7100 CYCLE_GROUP`: 15_signal_image.md R382. -/
def obj7100 : Obj := ⟨0x7100, 64, none, [
    ⟨0x01, .bool, .rw, 0, .any, true⟩,
    ⟨0x02, .time80, .rw, 0, .any, true⟩,
    ⟨0x03, .u32, .rw, 1000000, .step 31250 1000000000 250, true⟩,
    ⟨0x04, .u32, .rw, 0, .any, true⟩,
    ⟨0x05, .bool, .wo, 0, .any, false⟩,
    ⟨0x06, .u8, .rw, 0, .le 0 15, true⟩,
    ⟨0x07, .u8, .rw, 0, .le 0 2, true⟩,
    ⟨0x08, .u64, .ro, 0, .any, false⟩,
    ⟨0x09, .time80, .ro, 0, .any, false⟩,
    ⟨0x0A, .bool, .ro, 0, .any, false⟩,
    ⟨0x0B, .u64, .ro, 0, .any, false⟩,
    ⟨0x0C, .u32, .w1c, 0, .any, false⟩,
    ⟨0x0D, .u32, .ro, 0, .any, false⟩,
    ⟨0x0E, .u32, .ro, 0, .any, false⟩]⟩

/-- `0x8000 BENCH_DEVICE`: 16_benches.md R412. -/
def obj8000 : Obj := ⟨0x8000, 1, none, [
    ⟨0x01, (.octets 64), .wo, 0, .any, false⟩,
    ⟨0x02, .u64, .ro, 0, .any, false⟩,
    ⟨0x03, (.octets 32768), .ro, 0, .any, false⟩,
    ⟨0x04, .u32, .ro, 0, .any, false⟩,
    ⟨0x05, .u16, .ro, 0, .any, false⟩,
    ⟨0x06, .u8, .ro, 4, .any, false⟩,
    ⟨0x07, .u8, .wo, 0, .le 0 15, false⟩,
    ⟨0x08, .u64, .ro, 0, .any, false⟩,
    ⟨0x09, .u8, .ro, 0, .any, false⟩]⟩

/-- `0x8010 BARRIER`: 16_benches.md R413. -/
def obj8010 : Obj := ⟨0x8010, 32, none, [
    ⟨0x01, .u8, .rw, 0, .le 0 128, true⟩,
    ⟨0x02, .u32, .rw, 0, .le 0 1000000, true⟩,
    ⟨0x03, .u8, .ro, 0, .any, false⟩,
    ⟨0x04, .u32, .ro, 0, .any, false⟩,
    ⟨0x05, .u32, .ro, 0, .any, false⟩,
    ⟨0x06, .time80, .ro, 0, .any, false⟩]⟩

/-- `0x8100 BENCH`: 16_benches.md R414. -/
def obj8100 : Obj := ⟨0x8100, 128, none, [
    ⟨0x01, .u8, .ro, 0, .any, false⟩,
    ⟨0x02, .u8, .wo, 0, .le 1 4, false⟩,
    ⟨0x03, .u16, .rw, 0, .any, true⟩,
    ⟨0x04, .u8, .rw, 255, .leOr 0 63 255, true⟩,
    ⟨0x05, .u16, .rw, 0, .any, true⟩,
    ⟨0x06, .u16, .rw, 0, .any, true⟩,
    ⟨0x07, .u16, .rw, 65535, .any, true⟩,
    ⟨0x08, .u32, .rw, 0, .leOr 1000 4294967295 0, true⟩,
    ⟨0x09, .u16, .ro, 0, .any, false⟩,
    ⟨0x0A, .u8, .ro, 0, .any, false⟩,
    ⟨0x0B, .u16, .ro, 0, .any, false⟩,
    ⟨0x0C, .u32, .ro, 0, .any, false⟩,
    ⟨0x0D, .u64, .ro, 0, .any, false⟩,
    ⟨0x0E, .u64, .ro, 0, .any, false⟩,
    ⟨0x0F, .u64, .ro, 0, .any, false⟩,
    ⟨0x10, .u64, .rw, 0, .any, false⟩,
    ⟨0x11, .u64, .ro, 0, .any, false⟩,
    ⟨0x12, .u64, .ro, 0, .any, false⟩,
    ⟨0x13, .u64, .ro, 0, .any, false⟩,
    ⟨0x14, .u32, .w1c, 0, .any, false⟩,
    ⟨0x15, .u32, .ro, 0, .any, false⟩,
    ⟨0x16, .u32, .ro, 0, .any, false⟩,
    ⟨0x17, .u32, .ro, 0, .any, false⟩,
    ⟨0x18, .u32, .ro, 0, .any, false⟩,
    ⟨0x19, .u32, .ro, 0, .any, false⟩]⟩

/-- `0x8300 SCRATCH_WINDOW`: 16_benches.md R415. -/
def obj8300 : Obj := ⟨0x8300, 1, some ⟨65536, 4, .rw, false⟩, []⟩

/-- `0x8301 REGISTER_WINDOW`: 16_benches.md R415. -/
def obj8301 : Obj := ⟨0x8301, 1, some ⟨704, 8, .range, false⟩, []⟩

/-- `0x8C00 JOB_RESULT`: 16_benches.md R416. -/
def obj8C00 : Obj := ⟨0x8C00, 256, none, [
    ⟨0x01, (.octets 256), .ro, 0, .any, false⟩,
    ⟨0x02, (.octets 256), .ro, 0, .any, false⟩,
    ⟨0x03, (.octets 256), .ro, 0, .any, false⟩,
    ⟨0x04, (.octets 256), .ro, 0, .any, false⟩,
    ⟨0x05, (.octets 256), .ro, 0, .any, false⟩,
    ⟨0x06, (.octets 256), .ro, 0, .any, false⟩,
    ⟨0x07, (.octets 256), .ro, 0, .any, false⟩,
    ⟨0x08, (.octets 256), .ro, 0, .any, false⟩,
    ⟨0x09, (.octets 256), .ro, 0, .any, false⟩,
    ⟨0x0A, (.octets 256), .ro, 0, .any, false⟩,
    ⟨0x0B, (.octets 256), .ro, 0, .any, false⟩,
    ⟨0x0C, (.octets 256), .ro, 0, .any, false⟩,
    ⟨0x0D, (.octets 256), .ro, 0, .any, false⟩,
    ⟨0x0E, (.octets 256), .ro, 0, .any, false⟩,
    ⟨0x0F, (.octets 256), .ro, 0, .any, false⟩,
    ⟨0x10, (.octets 256), .ro, 0, .any, false⟩]⟩

/-- `0x8E00 BENCH_UCODE`: 17_microcode.md R457. -/
def obj8E00 : Obj := ⟨0x8E00, 1, none, [
    ⟨0x01, (.octets 262144), .wp, 0, .any, false⟩,
    ⟨0x02, .u8, .wp, 0, .le 1 2, false⟩,
    ⟨0x03, .u8, .rw, 0, .le 0 1, true⟩,
    ⟨0x04, .bool, .rwp, 1, .any, true⟩,
    ⟨0x05, .u8, .ro, 0, .any, false⟩,
    ⟨0x06, .u32, .ro, 0, .any, false⟩,
    ⟨0x07, .u8, .ro, 0, .any, false⟩,
    ⟨0x08, .u8, .ro, 0, .any, false⟩,
    ⟨0x09, .u16, .ro, 0, .any, false⟩,
    ⟨0x0A, .u32, .ro, 0, .any, false⟩,
    ⟨0x0B, .u32, .ro, 0, .any, false⟩,
    ⟨0x0C, (.octets 48), .ro, 0, .any, false⟩,
    ⟨0x0D, .u8, .ro, 255, .any, false⟩,
    ⟨0x0E, .u64, .ro, 0, .any, false⟩,
    ⟨0x0F, .u64, .ro, 0, .any, false⟩,
    ⟨0x10, .u64, .ro, 0, .any, false⟩,
    ⟨0x11, .u32, .w1c, 0, .any, false⟩,
    ⟨0x12, .u32, .ro, 0, .any, false⟩,
    ⟨0x13, .u32, .ro, 0, .any, false⟩,
    ⟨0x14, .u32, .ro, 0, .any, false⟩]⟩

/-- `0x8E10 BAY_STORE`: 17_microcode.md R458. -/
def obj8E10 : Obj := ⟨0x8E10, 16, none, [
    ⟨0x01, .u32, .ro, 0, .any, false⟩,
    ⟨0x02, (.octets 48), .ro, 0, .any, false⟩,
    ⟨0x03, .u8, .ro, 255, .any, false⟩,
    ⟨0x04, .time80, .ro, 0, .any, false⟩,
    ⟨0x05, .bool, .ro, 0, .any, false⟩,
    ⟨0x06, .u64, .ro, 0, .any, false⟩,
    ⟨0x07, .u64, .ro, 0, .any, false⟩]⟩

/-- `0x8E20 BENCH_MICROWORD_WINDOW`: 17_microcode.md R459. -/
def obj8E20 : Obj := ⟨0x8E20, 1, some ⟨16384, 4, .range, false⟩, []⟩

/-- `0x8E21 BAY_NANOWORD_WINDOW`: 17_microcode.md R459. -/
def obj8E21 : Obj := ⟨0x8E21, 1, some ⟨4096, 64, .range, false⟩, []⟩

/-- `0x9000 POOL_CONTROL`: 18_memory_banks.md R479. -/
def obj9000 : Obj := ⟨0x9000, 1, none, [
    ⟨0x01, .u16, .ro, 510, .any, false⟩,
    ⟨0x02, .u16, .ro, 0, .any, false⟩,
    ⟨0x03, .u16, .ro, 0, .any, false⟩,
    ⟨0x04, (.octets 512), .ro, 0, .any, false⟩,
    ⟨0x05, (.octets 512), .ro, 0, .any, false⟩]⟩

/-- `0x9100 POOL_WINDOW`: 18_memory_banks.md R481. -/
def obj9100 : Obj := ⟨0x9100, 16, some ⟨32768, 4, .rw, false⟩, []⟩

/-- `0x9200 POOL_BANK`: 18_memory_banks.md R480. -/
def obj9200 : Obj := ⟨0x9200, 512, none, [
    ⟨0x01, .u8, .ro, 0, .any, false⟩,
    ⟨0x02, .u8, .ro, 255, .any, false⟩,
    ⟨0x03, .u16, .wo, 0, .any, false⟩,
    ⟨0x04, .u8, .rw, 0, .le 0 15, true⟩,
    ⟨0x05, .bool, .rw, 0, .any, false⟩,
    ⟨0x06, .bool, .rw, 1, .any, true⟩,
    ⟨0x07, .u8, .rw, 0, .le 0 1, false⟩,
    ⟨0x08, .u64, .ro, 0, .any, false⟩,
    ⟨0x09, .u64, .ro, 0, .any, false⟩,
    ⟨0x0A, .u64, .ro, 0, .any, false⟩,
    ⟨0x0B, .bool, .ro, 0, .any, false⟩,
    ⟨0x0C, .u32, .ro, 0, .any, false⟩,
    ⟨0x0D, .u32, .w1c, 0, .any, false⟩,
    ⟨0x0E, .u32, .ro, 0, .any, false⟩,
    ⟨0x0F, .u32, .ro, 0, .any, false⟩]⟩

/-- `0x9400 SEALED_BANK`: 18_memory_banks.md R482. -/
def obj9400 : Obj := ⟨0x9400, 1, none, [
    ⟨0x01, .u8, .ro, 0, .any, false⟩,
    ⟨0x02, .bool, .wp, 0, .any, false⟩,
    ⟨0x03, (.octets 16), .rwp, 0, .any, false⟩,
    ⟨0x04, .u8, .rw, 0, .le 0 15, false⟩,
    ⟨0x05, (.octets 48), .ro, 0, .any, false⟩,
    ⟨0x06, .u32, .ro, 0, .any, false⟩]⟩

/-- `0x9401 SEALED_WINDOW`: 18_memory_banks.md R470. -/
def obj9401 : Obj := ⟨0x9401, 1, some ⟨16384, 4, .rwp, false⟩, []⟩

/-- `0x9500 JIG`: 18_memory_banks.md R483. -/
def obj9500 : Obj := ⟨0x9500, 1, none, [
    ⟨0x01, .u8, .wo, 0, .le 1 2, false⟩,
    ⟨0x02, .u8, .rw, 0, .le 0 1, true⟩,
    ⟨0x03, .u8, .rw, 2, .le 1 3, true⟩,
    ⟨0x04, .u8, .rw, 1, .le 1 15, true⟩,
    ⟨0x05, .u16, .rw, 0, .le 0 509, true⟩,
    ⟨0x06, .u16, .rw, 1, .le 1 510, true⟩,
    ⟨0x07, .u16, .rw, 0, .le 0 1000, true⟩,
    ⟨0x08, .u8, .ro, 0, .any, false⟩,
    ⟨0x09, .u8, .ro, 0, .any, false⟩,
    ⟨0x0A, .u32, .ro, 0, .any, false⟩,
    ⟨0x0B, .u32, .ro, 0, .any, false⟩,
    ⟨0x0C, .u32, .ro, 0, .any, false⟩,
    ⟨0x0D, (.octets 40), .ro, 0, .any, false⟩,
    ⟨0x0E, (.octets 2048), .ro, 0, .any, false⟩,
    ⟨0x0F, .bool, .rwp, 1, .any, true⟩,
    ⟨0x10, .u8, .ro, 0, .any, false⟩,
    ⟨0x11, .u32, .w1c, 0, .any, false⟩,
    ⟨0x12, .u32, .ro, 0, .any, false⟩,
    ⟨0x13, .u32, .ro, 0, .any, false⟩,
    ⟨0x14, .u32, .ro, 0, .any, false⟩]⟩

/-- `0xA000 COUNTER_CONTROL`: 20_counters_telemetry.md R520. -/
def objA000 : Obj := ⟨0xA000, 1, none, [
    ⟨0x01, .u32, .ro, 262144, .any, false⟩,
    ⟨0x02, (.octets 16384), .rw, 0, .any, true⟩,
    ⟨0x03, .u64, .ro, 0, .any, false⟩,
    ⟨0x04, .u64, .ro, 0, .any, false⟩,
    ⟨0x05, .u32, .w1c, 0, .any, false⟩,
    ⟨0x06, .u32, .ro, 0, .any, false⟩,
    ⟨0x07, .u32, .ro, 0, .any, false⟩,
    ⟨0x08, .u32, .ro, 0, .any, false⟩]⟩

/-- `0xA100 COUNTER_WINDOW`: 20_counters_telemetry.md R507. -/
def objA100 : Obj := ⟨0xA100, 1, some ⟨262144, 8, .rw, false⟩, []⟩

/-- `0xA200 SNAPSHOT_GROUP`: 20_counters_telemetry.md R520. -/
def objA200 : Obj := ⟨0xA200, 16, none, [
    ⟨0x01, .u32, .rw, 0, .step 0 262142 2, true⟩,
    ⟨0x02, .u16, .rw, 2, .step 2 8192 2, true⟩,
    ⟨0x03, .u8, .rw, 0, .le 0 1, true⟩,
    ⟨0x04, .u8, .rw, 0, .le 0 63, true⟩,
    ⟨0x05, .bool, .wo, 0, .any, false⟩,
    ⟨0x06, .time80, .ro, 0, .any, false⟩,
    ⟨0x07, .u32, .ro, 0, .any, false⟩,
    ⟨0x08, .u8, .rw, 255, .leOr 0 3 255, true⟩,
    ⟨0x09, .u32, .ro, 0, .any, false⟩,
    ⟨0x0A, .u32, .w1c, 0, .any, false⟩,
    ⟨0x0B, .u32, .ro, 0, .any, false⟩]⟩

/-- `0xA300 QUEUE_HIST_WINDOW`: 20_counters_telemetry.md R512. -/
def objA300 : Obj := ⟨0xA300, 1, some ⟨10288, 128, .range, false⟩, [⟨0x20, .bool, .wo, 0, .any, false⟩, ⟨0x21, .u32, .wo, 0, .any, false⟩]⟩

/-- `0xA310 RESV_HIST_WINDOW`: 20_counters_telemetry.md R512. -/
def objA310 : Obj := ⟨0xA310, 1, some ⟨65536, 160, .range, false⟩, [⟨0x20, .bool, .wo, 0, .any, false⟩, ⟨0x21, .u32, .wo, 0, .any, false⟩]⟩

/-- `0xA400 ENERGY_CONTROL`: 20_counters_telemetry.md R513. -/
def objA400 : Obj := ⟨0xA400, 1, none, [
    ⟨0x01, .u32, .rw, 1, .any, true⟩,
    ⟨0x02, .u32, .rw, 40, .any, true⟩,
    ⟨0x03, .u32, .rw, 25, .any, true⟩,
    ⟨0x04, .u16, .rw, 350, .le 0 1000, true⟩,
    ⟨0x05, .u64, .ro, 0, .any, false⟩,
    ⟨0x06, .u32, .ro, 0, .any, false⟩]⟩

/-- `0xA500 TELEMETRY_STREAM`: 20_counters_telemetry.md R520. -/
def objA500 : Obj := ⟨0xA500, 4, none, [
    ⟨0x01, .bool, .rw, 0, .any, true⟩,
    ⟨0x02, .u16, .rw, 514, .le 514 641, true⟩,
    ⟨0x03, .u8, .rw, 0, .le 0 15, true⟩,
    ⟨0x04, .u16, .rw, 0, .any, true⟩,
    ⟨0x05, (.octets 128), .rw, 0, .any, true⟩,
    ⟨0x06, .u8, .rw, 14, .le 14 128, true⟩,
    ⟨0x07, .u8, .rw, 0, .any, true⟩,
    ⟨0x08, .u8, .rw, 30, .le 1 200, true⟩,
    ⟨0x09, .u16, .rw, 100, .le 1 10000, true⟩,
    ⟨0x0A, .u64, .ro, 0, .any, false⟩,
    ⟨0x0B, .u64, .ro, 0, .any, false⟩,
    ⟨0x0C, .u64, .ro, 0, .any, false⟩]⟩

/-- `0xA580 STREAM_MAP`: 20_counters_telemetry.md R515. -/
def objA580 : Obj := ⟨0xA580, 1, none, [
    ⟨0x01, (.octets 128), .rw, 0xFFFFFFFFFFFFFFFFFFFFFFFFFFFFFFFFFFFFFFFFFFFFFFFFFFFFFFFFFFFFFFFFFFFFFFFFFFFFFFFFFFFFFFFFFFFFFFFFFFFFFFFFFFFFFFFFFFFFFFFFFFFFFFFFFFFFFFFFFFFFFFFFFFFFFFFFFFFFFFFFFFFFFFFFFFFFFFFFFFFFFFFFFFFFFFFFFFFFFFFFFFFFFFFFFFFFFFFFFFFFFFFFFFFFFFFFFFFFFFFFFFFFFFFFFFFFFFFF, .wordsLeOr 1 0 3 255, true⟩]⟩

/-- `0xA600 COUNTER_WATCH`: 20_counters_telemetry.md R520. -/
def objA600 : Obj := ⟨0xA600, 64, none, [
    ⟨0x01, .u32, .rw, 0, .le 0 262143, true⟩,
    ⟨0x02, .u32, .rw, 1000, .le 10 10000000, true⟩,
    ⟨0x03, .u64, .rw, 18446744073709551615, .any, true⟩,
    ⟨0x04, .u64, .ro, 0, .any, false⟩]⟩

def objects0 : List Obj := [obj0000, obj0010, obj0011, obj0012, obj0020, obj0100, obj0101, obj0102, obj0110, obj0200, obj0201, obj0202, obj0210, obj0220, obj0230, obj0240, obj0400, obj0410, obj0418, obj0420]

def objects1 : List Obj := [obj0440, obj0450, obj0460, obj0500, obj0510, obj0520, obj0800, obj0810, obj08A0, obj0900, obj0901, obj1000, obj1200, obj1400, obj1800, obj2000, obj2010, obj2050, obj2100, obj2400]

def objects2 : List Obj := [obj2401, obj2410, obj2420, obj2E00, obj2E10, obj2E11, obj3000, obj3011, obj3020, obj3021, obj3030, obj3040, obj3060, obj3070, obj3080, obj3100, obj4000, obj4010, obj4020, obj4100]

def objects3 : List Obj := [obj4200, obj4800, obj4810, obj4820, obj4840, obj4850, obj4880, obj5000, obj5300, obj5600, obj5601, obj5602, obj5800, obj5C00, obj5F00, obj5F01, obj6000, obj6100, obj6800, obj6801]

def objects4 : List Obj := [obj6810, obj6811, obj6900, obj6C00, obj6C01, obj6E00, obj6E10, obj7000, obj7010, obj7011, obj7020, obj7021, obj7030, obj7031, obj7032, obj7033, obj7100, obj8000, obj8010, obj8100]

def objects5 : List Obj := [obj8300, obj8301, obj8C00, obj8E00, obj8E10, obj8E20, obj8E21, obj9000, obj9100, obj9200, obj9400, obj9401, obj9500, objA000, objA100, objA200, objA300, objA310, objA400, objA500]

def objects6 : List Obj := [objA580, objA600]

/-- Every object, in index order. -/
def objects : List Obj :=
  objects0 ++ objects1 ++ objects2 ++ objects3 ++ objects4 ++ objects5 ++ objects6

end Sys2Proof.Machine.Dict
end

