-- ==== Sys2Proof/Machine/Regs.lean ====
section
/-!
DEFINITION. The names of the dictionary registers, one for every sub-index that the object tables of
spec/03 to spec/22 list: a register's key is its index times 256 plus its sub-index (R6).
-/
namespace Sys2Proof.Machine

/-- The key of sub-index `sub` of index `idx` (R6). -/
abbrev regKey (idx sub : Nat) : Nat := idx * 256 + sub

namespace Reg

-- `0x0000 IDENTITY`: 04_object_dictionary.md R116
abbrev IDENTITY.VENDOR_ID : Nat := 0x000001
abbrev IDENTITY.DEVICE_ID : Nat := 0x000002
abbrev IDENTITY.REVISION : Nat := 0x000003
abbrev IDENTITY.PART_NUMBER : Nat := 0x000004
abbrev IDENTITY.SERIAL : Nat := 0x000005
abbrev IDENTITY.BASE_MAC : Nat := 0x000006
abbrev IDENTITY.DICT_VERSION : Nat := 0x000007
abbrev IDENTITY.ISLAND_FW_VERSION : Nat := 0x000008
abbrev IDENTITY.VENDOR_UCODE_VERSION : Nat := 0x000009
-- `0x0010 DEVICE_STATUS`: 04_object_dictionary.md R118
abbrev DEVICE_STATUS.STATUS_WORD : Nat := 0x001001
abbrev DEVICE_STATUS.MODE : Nat := 0x001002
abbrev DEVICE_STATUS.MODE_CHANGES : Nat := 0x001003
abbrev DEVICE_STATUS.LAST_MODE_CHANGE : Nat := 0x001004
abbrev DEVICE_STATUS.LAST_TIME_KIND : Nat := 0x001005
abbrev DEVICE_STATUS.ISLAND_UPTIME : Nat := 0x001006
abbrev DEVICE_STATUS.CORE_UPTIME : Nat := 0x001007
-- `0x0011 ATTENTION`: 04_object_dictionary.md R119
abbrev ATTENTION.ATTN_SEQ : Nat := 0x001101
abbrev ATTENTION.ATTN_FLAGS : Nat := 0x001102
abbrev ATTENTION.COMPLETION_EVENTS : Nat := 0x001103
abbrev ATTENTION.SECURITY_EVENTS : Nat := 0x001104
abbrev ATTENTION.POWER_THERMAL_EVENTS : Nat := 0x001105
abbrev ATTENTION.BENCH_EVENTS : Nat := 0x001106
abbrev ATTENTION.ADMISSION_EVENTS : Nat := 0x001107
abbrev ATTENTION.LINK_EVENTS : Nat := 0x001108
abbrev ATTENTION.TALLY_EVENTS : Nat := 0x001109
abbrev ATTENTION.FATAL_EVENTS : Nat := 0x00110A
-- `0x0012 ATTN_LOG`: 04_object_dictionary.md R120
abbrev ATTN_LOG.LOG : Nat := 0x001201
abbrev ATTN_LOG.LOG_HEAD : Nat := 0x001202
-- `0x0020 CONFIG_STORE`: 04_object_dictionary.md R109
abbrev CONFIG_STORE.COMMAND : Nat := 0x002001
abbrev CONFIG_STORE.STATE : Nat := 0x002002
abbrev CONFIG_STORE.LAST_RESULT : Nat := 0x002003
abbrev CONFIG_STORE.LAST_DETAIL : Nat := 0x002004
abbrev CONFIG_STORE.PROGRESS : Nat := 0x002005
abbrev CONFIG_STORE.CONFIG_GEN : Nat := 0x002006
abbrev CONFIG_STORE.SAVED_GEN : Nat := 0x002007
abbrev CONFIG_STORE.SLOT_A_GEN : Nat := 0x002008
abbrev CONFIG_STORE.SLOT_B_GEN : Nat := 0x002009
abbrev CONFIG_STORE.IMAGE_BYTES : Nat := 0x00200A
abbrev CONFIG_STORE.AUTO_RESTORE : Nat := 0x00200B
abbrev CONFIG_STORE.EXPORT : Nat := 0x00200C
abbrev CONFIG_STORE.IMPORT : Nat := 0x00200D
-- `0x0100 ZDP_CONFIG`: 03_zilmor_protocol.md R92
abbrev ZDP_CONFIG.ETHERTYPE : Nat := 0x010001
abbrev ZDP_CONFIG.UDP_ENABLE : Nat := 0x010002
abbrev ZDP_CONFIG.UDP_PORT : Nat := 0x010003
abbrev ZDP_CONFIG.IPV4_ADDR : Nat := 0x010004
abbrev ZDP_CONFIG.IPV6_ADDR : Nat := 0x010005
abbrev ZDP_CONFIG.FABRIC_ENABLE : Nat := 0x010006
abbrev ZDP_CONFIG.MAX_DATA : Nat := 0x010007
abbrev ZDP_CONFIG.SESSION_IDLE_TIMEOUT : Nat := 0x010008
abbrev ZDP_CONFIG.HP0_MAC : Nat := 0x010009
abbrev ZDP_CONFIG.HP1_MAC : Nat := 0x01000A
-- `0x0101 ZDP_STATISTICS`: 03_zilmor_protocol.md R92
abbrev ZDP_STATISTICS.SESSIONS_OPEN : Nat := 0x010101
abbrev ZDP_STATISTICS.TAGS_IN_FLIGHT : Nat := 0x010102
abbrev ZDP_STATISTICS.TAGS_GRANTED : Nat := 0x010103
abbrev ZDP_STATISTICS.WATCHES_PARKED : Nat := 0x010104
abbrev ZDP_STATISTICS.RX_ACCEPTED : Nat := 0x010105
abbrev ZDP_STATISTICS.RX_MALFORMED : Nat := 0x010106
abbrev ZDP_STATISTICS.RX_DUPLICATE : Nat := 0x010107
abbrev ZDP_STATISTICS.RX_STALE : Nat := 0x010108
abbrev ZDP_STATISTICS.REPLAYED : Nat := 0x010109
abbrev ZDP_STATISTICS.BUSY_REPLIES : Nat := 0x01010A
abbrev ZDP_STATISTICS.FABRIC_DISCARDED : Nat := 0x01010B
abbrev ZDP_STATISTICS.RETRY_FLAGGED : Nat := 0x01010C
-- `0x0102 ZDP_CONTROL`: 03_zilmor_protocol.md R92
abbrev ZDP_CONTROL.FORCE_CLOSE : Nat := 0x010201
-- `0x0110+s SESSION`: 03_zilmor_protocol.md R92
abbrev SESSION.STATE (i : Nat) : Nat := (0x0110 + i) * 256 + 0x01
abbrev SESSION.PORT (i : Nat) : Nat := (0x0110 + i) * 256 + 0x02
abbrev SESSION.ADDR_KIND (i : Nat) : Nat := (0x0110 + i) * 256 + 0x03
abbrev SESSION.HOST_ADDR (i : Nat) : Nat := (0x0110 + i) * 256 + 0x04
abbrev SESSION.TAG_BASE (i : Nat) : Nat := (0x0110 + i) * 256 + 0x05
abbrev SESSION.TAG_COUNT (i : Nat) : Nat := (0x0110 + i) * 256 + 0x06
abbrev SESSION.OPEN_SEQ (i : Nat) : Nat := (0x0110 + i) * 256 + 0x07
abbrev SESSION.IDLE_MS (i : Nat) : Nat := (0x0110 + i) * 256 + 0x08
-- `0x0200 PRESENCE`: 05_presence_lifecycle.md R125
abbrev PRESENCE.WINDOW_OPEN : Nat := 0x020001
abbrev PRESENCE.KEY_ASSERTED : Nat := 0x020002
abbrev PRESENCE.REMAINING_MS : Nat := 0x020003
abbrev PRESENCE.WINDOW_SEQ : Nat := 0x020004
abbrev PRESENCE.DURATION_S : Nat := 0x020005
abbrev PRESENCE.DEBOUNCE_MS : Nat := 0x020006
abbrev PRESENCE.KEY_MODE : Nat := 0x020007
abbrev PRESENCE.CLOSE : Nat := 0x020008
abbrev PRESENCE.LAMP_IDENTIFY : Nat := 0x020009
-- `0x0201 SEAL`: 05_presence_lifecycle.md R134
abbrev SEAL.INTACT : Nat := 0x020101
abbrev SEAL.LOOP_STATE : Nat := 0x020102
abbrev SEAL.MISMATCH_SAMPLES : Nat := 0x020103
abbrev SEAL.LAST_OPEN : Nat := 0x020104
abbrev SEAL.LAST_CLOSE : Nat := 0x020105
abbrev SEAL.WIPE_STATE : Nat := 0x020106
abbrev SEAL.WIPES : Nat := 0x020107
-- `0x0202 SECURITY_EVENTS`: 05_presence_lifecycle.md R134
abbrev SECURITY_EVENTS.FLAGS : Nat := 0x020201
abbrev SECURITY_EVENTS.BIT0_EVENTS : Nat := 0x020202
abbrev SECURITY_EVENTS.BIT1_EVENTS : Nat := 0x020203
abbrev SECURITY_EVENTS.BIT2_EVENTS : Nat := 0x020204
abbrev SECURITY_EVENTS.BIT3_EVENTS : Nat := 0x020205
abbrev SECURITY_EVENTS.BIT4_EVENTS : Nat := 0x020206
abbrev SECURITY_EVENTS.BIT5_EVENTS : Nat := 0x020207
abbrev SECURITY_EVENTS.BIT6_EVENTS : Nat := 0x020208
abbrev SECURITY_EVENTS.BIT7_EVENTS : Nat := 0x020209
-- `0x0210 LIFECYCLE`: 05_presence_lifecycle.md R136
abbrev LIFECYCLE.STATE : Nat := 0x021001
abbrev LIFECYCLE.COMMAND : Nat := 0x021002
abbrev LIFECYCLE.TRANSITIONS : Nat := 0x021003
abbrev LIFECYCLE.LAST_TRANSITION : Nat := 0x021004
-- `0x0220+k KEY_SLOT`: 05_presence_lifecycle.md R137
abbrev KEY_SLOT.ROLE (i : Nat) : Nat := (0x0220 + i) * 256 + 0x01
abbrev KEY_SLOT.STATE (i : Nat) : Nat := (0x0220 + i) * 256 + 0x02
abbrev KEY_SLOT.PUBLIC (i : Nat) : Nat := (0x0220 + i) * 256 + 0x03
abbrev KEY_SLOT.KEY_DIGEST (i : Nat) : Nat := (0x0220 + i) * 256 + 0x04
abbrev KEY_SLOT.REVOKE (i : Nat) : Nat := (0x0220 + i) * 256 + 0x05
abbrev KEY_SLOT.ENROLLED_AT (i : Nat) : Nat := (0x0220 + i) * 256 + 0x06
-- `0x0230 ALLOW_CONTROL`: 05_presence_lifecycle.md R140
abbrev ALLOW_CONTROL.ENABLE : Nat := 0x023001
abbrev ALLOW_CONTROL.DENIED : Nat := 0x023002
abbrev ALLOW_CONTROL.LAST_DENIED_PORT : Nat := 0x023003
abbrev ALLOW_CONTROL.LAST_DENIED_INDEX : Nat := 0x023004
/-- `0x0240 ALLOW_WINDOW`, a window (05_presence_lifecycle.md R139). -/
abbrev ALLOW_WINDOW.INDEX : Nat := 0x0240
-- `0x0400 CLOCKS`: 21_power_clocks_thermal.md R545
abbrev CLOCKS.ROOT_STATE : Nat := 0x040001
abbrev CLOCKS.REF_PPM : Nat := 0x040002
abbrev CLOCKS.BENCH_DIVIDER : Nat := 0x040003
abbrev CLOCKS.BASE_DIVIDER : Nat := 0x040004
abbrev CLOCKS.ISLAND_SOURCE : Nat := 0x040005
abbrev CLOCKS.EVENTS : Nat := 0x040006
abbrev CLOCKS.EVT0_EVENTS : Nat := 0x040007
abbrev CLOCKS.EVT1_EVENTS : Nat := 0x040008
abbrev CLOCKS.EVT2_EVENTS : Nat := 0x040009
-- `0x0410 VOLTAGE`: 21_power_clocks_thermal.md R545
abbrev VOLTAGE.TABLE : Nat := 0x041001
abbrev VOLTAGE.VMIN : Nat := 0x041002
abbrev VOLTAGE.AVS_ENABLE : Nat := 0x041003
abbrev VOLTAGE.MARGIN_MV : Nat := 0x041004
abbrev VOLTAGE.TARGET_MV : Nat := 0x041005
abbrev VOLTAGE.DIE_MV : Nat := 0x041006
abbrev VOLTAGE.BAND : Nat := 0x041007
abbrev VOLTAGE.DROOP_MV : Nat := 0x041008
abbrev VOLTAGE.STRETCH_EVENTS : Nat := 0x041009
abbrev VOLTAGE.STRETCHED_BC : Nat := 0x04100A
abbrev VOLTAGE.EVENTS : Nat := 0x04100B
abbrev VOLTAGE.EVT0_EVENTS : Nat := 0x04100C
abbrev VOLTAGE.EVT1_EVENTS : Nat := 0x04100D
-- `0x0418 PMBUS_CONTROL`: 21_power_clocks_thermal.md R545
abbrev PMBUS_CONTROL.CLOCK_KHZ : Nat := 0x041801
abbrev PMBUS_CONTROL.FIXED_MW : Nat := 0x041802
-- `0x0420+r PMBUS_RAIL`: 21_power_clocks_thermal.md R545
abbrev PMBUS_RAIL.ENABLE (i : Nat) : Nat := (0x0420 + i) * 256 + 0x01
abbrev PMBUS_RAIL.ADDRESS (i : Nat) : Nat := (0x0420 + i) * 256 + 0x02
abbrev PMBUS_RAIL.PAGE (i : Nat) : Nat := (0x0420 + i) * 256 + 0x03
abbrev PMBUS_RAIL.SUPPLY (i : Nat) : Nat := (0x0420 + i) * 256 + 0x04
abbrev PMBUS_RAIL.VOUT_MV (i : Nat) : Nat := (0x0420 + i) * 256 + 0x05
abbrev PMBUS_RAIL.IOUT_MA (i : Nat) : Nat := (0x0420 + i) * 256 + 0x06
abbrev PMBUS_RAIL.POWER_MW (i : Nat) : Nat := (0x0420 + i) * 256 + 0x07
abbrev PMBUS_RAIL.TEMP_C (i : Nat) : Nat := (0x0420 + i) * 256 + 0x08
abbrev PMBUS_RAIL.STATUS_WORD (i : Nat) : Nat := (0x0420 + i) * 256 + 0x09
abbrev PMBUS_RAIL.COMM_ERRORS (i : Nat) : Nat := (0x0420 + i) * 256 + 0x0A
abbrev PMBUS_RAIL.EVENTS (i : Nat) : Nat := (0x0420 + i) * 256 + 0x0C
abbrev PMBUS_RAIL.EVT0_EVENTS (i : Nat) : Nat := (0x0420 + i) * 256 + 0x0D
abbrev PMBUS_RAIL.EVT1_EVENTS (i : Nat) : Nat := (0x0420 + i) * 256 + 0x0E
-- `0x0440 LOCKSTEP`: 21_power_clocks_thermal.md R545
abbrev LOCKSTEP.STATE : Nat := 0x044001
abbrev LOCKSTEP.PREPARE : Nat := 0x044002
abbrev LOCKSTEP.COMMIT : Nat := 0x044003
abbrev LOCKSTEP.ABORT : Nat := 0x044004
abbrev LOCKSTEP.TXN : Nat := 0x044005
abbrev LOCKSTEP.TARGET_DIVIDER : Nat := 0x044006
abbrev LOCKSTEP.COMMIT_TIME : Nat := 0x044007
abbrev LOCKSTEP.LAST_APPLIED : Nat := 0x044008
abbrev LOCKSTEP.IN_STEP : Nat := 0x044009
abbrev LOCKSTEP.PREPARE_HOLD_MS : Nat := 0x04400A
abbrev LOCKSTEP.THROTTLE_MODE : Nat := 0x04400B
abbrev LOCKSTEP.GROUP_ID : Nat := 0x04400C
abbrev LOCKSTEP.EVENTS : Nat := 0x04400D
abbrev LOCKSTEP.EVT0_EVENTS : Nat := 0x04400E
abbrev LOCKSTEP.EVT1_EVENTS : Nat := 0x04400F
abbrev LOCKSTEP.EVT2_EVENTS : Nat := 0x044010
abbrev LOCKSTEP.EVT3_EVENTS : Nat := 0x044011
abbrev LOCKSTEP.EVT4_EVENTS : Nat := 0x044012
-- `0x0450 THERMAL`: 21_power_clocks_thermal.md R545
abbrev THERMAL.SENSORS : Nat := 0x045001
abbrev THERMAL.HOTTEST : Nat := 0x045002
abbrev THERMAL.HOTTEST_SENSOR : Nat := 0x045003
abbrev THERMAL.THROTTLE_STATE : Nat := 0x045004
abbrev THERMAL.RELEASE_C : Nat := 0x045005
abbrev THERMAL.ISSUE_STALL_BC : Nat := 0x045006
abbrev THERMAL.THERMTRIP : Nat := 0x045007
abbrev THERMAL.THERMTRIP_CLEAR : Nat := 0x045008
abbrev THERMAL.EVENTS : Nat := 0x045009
abbrev THERMAL.EVT0_EVENTS : Nat := 0x04500A
abbrev THERMAL.EVT1_EVENTS : Nat := 0x04500B
abbrev THERMAL.EVT2_EVENTS : Nat := 0x04500C
abbrev THERMAL.EVT3_EVENTS : Nat := 0x04500D
abbrev THERMAL.EVT4_EVENTS : Nat := 0x04500E
-- `0x0460 POWER_STATE`: 21_power_clocks_thermal.md R545
abbrev POWER_STATE.STATE : Nat := 0x046001
abbrev POWER_STATE.RAIL_TIMEOUT_MS : Nat := 0x046002
abbrev POWER_STATE.RATINGS : Nat := 0x046003
-- `0x0500 STARTUP`: 22_startup_faults.md R568
abbrev STARTUP.COMMAND : Nat := 0x050001
abbrev STARTUP.PROTECTED_COMMAND : Nat := 0x050002
abbrev STARTUP.STEP : Nat := 0x050003
abbrev STARTUP.STRAPS : Nat := 0x050004
abbrev STARTUP.LAST_RESET : Nat := 0x050005
abbrev STARTUP.LAST_RESET_CAUSE : Nat := 0x050006
abbrev STARTUP.RESETS : Nat := 0x050007
abbrev STARTUP.FATAL_ACTION : Nat := 0x050008
abbrev STARTUP.RESET_LIMIT_COUNT : Nat := 0x050009
abbrev STARTUP.RESET_LIMIT_S : Nat := 0x05000A
abbrev STARTUP.DEGRADED_CAUSES : Nat := 0x05000B
abbrev STARTUP.DEGRADED_MASK : Nat := 0x05000C
abbrev STARTUP.CLEAR_BREACH : Nat := 0x05000D
abbrev STARTUP.STARTUP_MS : Nat := 0x05000E
abbrev STARTUP.EVENTS : Nat := 0x05000F
abbrev STARTUP.EVT0_EVENTS : Nat := 0x050010
abbrev STARTUP.EVT1_EVENTS : Nat := 0x050011
abbrev STARTUP.EVT2_EVENTS : Nat := 0x050012
-- `0x0510 FAULT_LOG`: 22_startup_faults.md R568
abbrev FAULT_LOG.LOG : Nat := 0x051001
abbrev FAULT_LOG.LOG_HEAD : Nat := 0x051002
abbrev FAULT_LOG.PERSISTED : Nat := 0x051003
abbrev FAULT_LOG.PERSISTED_HEAD : Nat := 0x051004
abbrev FAULT_LOG.CLEAR_PERSISTED : Nat := 0x051005
-- `0x0520 FIRMWARE`: 22_startup_faults.md R568
abbrev FIRMWARE.SLOT_A_VERSION : Nat := 0x052001
abbrev FIRMWARE.SLOT_B_VERSION : Nat := 0x052002
abbrev FIRMWARE.RUNNING_SLOT : Nat := 0x052003
abbrev FIRMWARE.IMPORT : Nat := 0x052004
abbrev FIRMWARE.COMMAND : Nat := 0x052005
abbrev FIRMWARE.STATE : Nat := 0x052006
abbrev FIRMWARE.LAST_RESULT : Nat := 0x052007
abbrev FIRMWARE.ISLAND_PENDING : Nat := 0x052008
-- `0x0800 INT_CONTROL`: 19_interrupts_attention.md R498
abbrev INT_CONTROL.SOURCES : Nat := 0x080001
abbrev INT_CONTROL.TEST_RAISE : Nat := 0x080002
abbrev INT_CONTROL.TRIGGERS : Nat := 0x080003
abbrev INT_CONTROL.MERGED : Nat := 0x080004
-- `0x0810+t INT_TARGET`: 19_interrupts_attention.md R499
abbrev INT_TARGET.PENDING (i : Nat) : Nat := (0x0810 + i) * 256 + 0x01
abbrev INT_TARGET.ACTIVE (i : Nat) : Nat := (0x0810 + i) * 256 + 0x02
abbrev INT_TARGET.CLAIMS (i : Nat) : Nat := (0x0810 + i) * 256 + 0x03
abbrev INT_TARGET.COMPLETE_ERRORS (i : Nat) : Nat := (0x0810 + i) * 256 + 0x04
-- `0x08A0 ATTN_MODERATION`: 19_interrupts_attention.md R500
abbrev ATTN_MODERATION.MOD_US_0 : Nat := 0x08A001
abbrev ATTN_MODERATION.MOD_US_1 : Nat := 0x08A002
abbrev ATTN_MODERATION.MOD_US_2 : Nat := 0x08A003
abbrev ATTN_MODERATION.MOD_US_3 : Nat := 0x08A004
abbrev ATTN_MODERATION.MOD_US_4 : Nat := 0x08A005
abbrev ATTN_MODERATION.MOD_US_5 : Nat := 0x08A006
abbrev ATTN_MODERATION.MOD_US_6 : Nat := 0x08A007
abbrev ATTN_MODERATION.MOD_US_7 : Nat := 0x08A008
abbrev ATTN_MODERATION.TIMERS_RUNNING : Nat := 0x08A009
abbrev ATTN_MODERATION.BATCHES : Nat := 0x08A00A
/-- `0x0900 INT_CONFIG_WINDOW`, a window (19_interrupts_attention.md R487). -/
abbrev INT_CONFIG_WINDOW.INDEX : Nat := 0x0900
/-- `0x0901 INT_STATE_WINDOW`, a window (19_interrupts_attention.md R501). -/
abbrev INT_STATE_WINDOW.INDEX : Nat := 0x0901
-- `0x1000+n LANE`: 06_lanes.md R165
abbrev LANE.STATE (i : Nat) : Nat := (0x1000 + i) * 256 + 0x01
abbrev LANE.MODE (i : Nat) : Nat := (0x1000 + i) * 256 + 0x02
abbrev LANE.FEC_MODE (i : Nat) : Nat := (0x1000 + i) * 256 + 0x03
abbrev LANE.TX_ENABLE (i : Nat) : Nat := (0x1000 + i) * 256 + 0x04
abbrev LANE.TX_POLARITY (i : Nat) : Nat := (0x1000 + i) * 256 + 0x05
abbrev LANE.RX_POLARITY (i : Nat) : Nat := (0x1000 + i) * 256 + 0x06
abbrev LANE.TX_CLOCK_SOURCE (i : Nat) : Nat := (0x1000 + i) * 256 + 0x07
abbrev LANE.TRAINING (i : Nat) : Nat := (0x1000 + i) * 256 + 0x08
abbrev LANE.TX_PRE3 (i : Nat) : Nat := (0x1000 + i) * 256 + 0x09
abbrev LANE.TX_PRE2 (i : Nat) : Nat := (0x1000 + i) * 256 + 0x0A
abbrev LANE.TX_PRE1 (i : Nat) : Nat := (0x1000 + i) * 256 + 0x0B
abbrev LANE.TX_MAIN (i : Nat) : Nat := (0x1000 + i) * 256 + 0x0C
abbrev LANE.TX_POST1 (i : Nat) : Nat := (0x1000 + i) * 256 + 0x0D
abbrev LANE.TX_SWING_MV (i : Nat) : Nat := (0x1000 + i) * 256 + 0x0E
abbrev LANE.ADAPT_MODE (i : Nat) : Nat := (0x1000 + i) * 256 + 0x0F
abbrev LANE.RX_CTLE (i : Nat) : Nat := (0x1000 + i) * 256 + 0x10
abbrev LANE.RX_FFE (i : Nat) : Nat := (0x1000 + i) * 256 + 0x11
abbrev LANE.RX_DFE (i : Nat) : Nat := (0x1000 + i) * 256 + 0x12
abbrev LANE.SIGNAL_DETECT (i : Nat) : Nat := (0x1000 + i) * 256 + 0x13
abbrev LANE.RX_PPM (i : Nat) : Nat := (0x1000 + i) * 256 + 0x14
abbrev LANE.ELASTIC_FILL (i : Nat) : Nat := (0x1000 + i) * 256 + 0x15
abbrev LANE.AUTO_RETRAIN (i : Nat) : Nat := (0x1000 + i) * 256 + 0x16
abbrev LANE.UCW_RETRAIN_LIMIT (i : Nat) : Nat := (0x1000 + i) * 256 + 0x17
abbrev LANE.SER_ALARM_LIMIT (i : Nat) : Nat := (0x1000 + i) * 256 + 0x18
abbrev LANE.RETRAIN (i : Nat) : Nat := (0x1000 + i) * 256 + 0x19
abbrev LANE.RETRAINS (i : Nat) : Nat := (0x1000 + i) * 256 + 0x1A
abbrev LANE.LAST_RETRAIN_CAUSE (i : Nat) : Nat := (0x1000 + i) * 256 + 0x1B
abbrev LANE.LOOPBACK (i : Nat) : Nat := (0x1000 + i) * 256 + 0x1C
abbrev LANE.PRBS_TX (i : Nat) : Nat := (0x1000 + i) * 256 + 0x1D
abbrev LANE.PRBS_RX (i : Nat) : Nat := (0x1000 + i) * 256 + 0x1E
abbrev LANE.PRBS_LOCK (i : Nat) : Nat := (0x1000 + i) * 256 + 0x1F
abbrev LANE.PRBS_BITS (i : Nat) : Nat := (0x1000 + i) * 256 + 0x20
abbrev LANE.PRBS_ERRORS (i : Nat) : Nat := (0x1000 + i) * 256 + 0x21
abbrev LANE.PRBS_CLEAR (i : Nat) : Nat := (0x1000 + i) * 256 + 0x22
abbrev LANE.EYE_START (i : Nat) : Nat := (0x1000 + i) * 256 + 0x23
abbrev LANE.EYE_STATE (i : Nat) : Nat := (0x1000 + i) * 256 + 0x24
abbrev LANE.EYE_HEIGHT (i : Nat) : Nat := (0x1000 + i) * 256 + 0x25
abbrev LANE.EYE_WIDTH (i : Nat) : Nat := (0x1000 + i) * 256 + 0x26
abbrev LANE.EYE_MAP (i : Nat) : Nat := (0x1000 + i) * 256 + 0x27
abbrev LANE.SHIMS_INSERTED (i : Nat) : Nat := (0x1000 + i) * 256 + 0x28
abbrev LANE.SHIMS_DELETED (i : Nat) : Nat := (0x1000 + i) * 256 + 0x29
abbrev LANE.FEC_SYMBOL_ERRORS (i : Nat) : Nat := (0x1000 + i) * 256 + 0x2A
abbrev LANE.BLOCK_ERRORS (i : Nat) : Nat := (0x1000 + i) * 256 + 0x2B
abbrev LANE.CW_CORRECTED (i : Nat) : Nat := (0x1000 + i) * 256 + 0x2C
abbrev LANE.CW_UNCORRECTED (i : Nat) : Nat := (0x1000 + i) * 256 + 0x2D
abbrev LANE.FEC_HIST (i : Nat) : Nat := (0x1000 + i) * 256 + 0x2E
abbrev LANE.EVENTS (i : Nat) : Nat := (0x1000 + i) * 256 + 0x2F
abbrev LANE.EVT0_EVENTS (i : Nat) : Nat := (0x1000 + i) * 256 + 0x30
abbrev LANE.EVT1_EVENTS (i : Nat) : Nat := (0x1000 + i) * 256 + 0x31
abbrev LANE.EVT2_EVENTS (i : Nat) : Nat := (0x1000 + i) * 256 + 0x32
abbrev LANE.EVT3_EVENTS (i : Nat) : Nat := (0x1000 + i) * 256 + 0x33
abbrev LANE.EVT4_EVENTS (i : Nat) : Nat := (0x1000 + i) * 256 + 0x34
abbrev LANE.EVT5_EVENTS (i : Nat) : Nat := (0x1000 + i) * 256 + 0x35
abbrev LANE.EVT6_EVENTS (i : Nat) : Nat := (0x1000 + i) * 256 + 0x36
abbrev LANE.EVT7_EVENTS (i : Nat) : Nat := (0x1000 + i) * 256 + 0x37
abbrev LANE.EVT8_EVENTS (i : Nat) : Nat := (0x1000 + i) * 256 + 0x38
-- `0x1200+h HOST_LANE`: 06_lanes.md R165
abbrev HOST_LANE.STATE (i : Nat) : Nat := (0x1200 + i) * 256 + 0x01
abbrev HOST_LANE.MODE (i : Nat) : Nat := (0x1200 + i) * 256 + 0x02
abbrev HOST_LANE.FEC_MODE (i : Nat) : Nat := (0x1200 + i) * 256 + 0x03
abbrev HOST_LANE.TX_ENABLE (i : Nat) : Nat := (0x1200 + i) * 256 + 0x04
abbrev HOST_LANE.TX_POLARITY (i : Nat) : Nat := (0x1200 + i) * 256 + 0x05
abbrev HOST_LANE.RX_POLARITY (i : Nat) : Nat := (0x1200 + i) * 256 + 0x06
abbrev HOST_LANE.TX_CLOCK_SOURCE (i : Nat) : Nat := (0x1200 + i) * 256 + 0x07
abbrev HOST_LANE.TRAINING (i : Nat) : Nat := (0x1200 + i) * 256 + 0x08
abbrev HOST_LANE.TX_PRE3 (i : Nat) : Nat := (0x1200 + i) * 256 + 0x09
abbrev HOST_LANE.TX_PRE2 (i : Nat) : Nat := (0x1200 + i) * 256 + 0x0A
abbrev HOST_LANE.TX_PRE1 (i : Nat) : Nat := (0x1200 + i) * 256 + 0x0B
abbrev HOST_LANE.TX_MAIN (i : Nat) : Nat := (0x1200 + i) * 256 + 0x0C
abbrev HOST_LANE.TX_POST1 (i : Nat) : Nat := (0x1200 + i) * 256 + 0x0D
abbrev HOST_LANE.TX_SWING_MV (i : Nat) : Nat := (0x1200 + i) * 256 + 0x0E
abbrev HOST_LANE.ADAPT_MODE (i : Nat) : Nat := (0x1200 + i) * 256 + 0x0F
abbrev HOST_LANE.RX_CTLE (i : Nat) : Nat := (0x1200 + i) * 256 + 0x10
abbrev HOST_LANE.RX_FFE (i : Nat) : Nat := (0x1200 + i) * 256 + 0x11
abbrev HOST_LANE.RX_DFE (i : Nat) : Nat := (0x1200 + i) * 256 + 0x12
abbrev HOST_LANE.SIGNAL_DETECT (i : Nat) : Nat := (0x1200 + i) * 256 + 0x13
abbrev HOST_LANE.RX_PPM (i : Nat) : Nat := (0x1200 + i) * 256 + 0x14
abbrev HOST_LANE.ELASTIC_FILL (i : Nat) : Nat := (0x1200 + i) * 256 + 0x15
abbrev HOST_LANE.AUTO_RETRAIN (i : Nat) : Nat := (0x1200 + i) * 256 + 0x16
abbrev HOST_LANE.UCW_RETRAIN_LIMIT (i : Nat) : Nat := (0x1200 + i) * 256 + 0x17
abbrev HOST_LANE.SER_ALARM_LIMIT (i : Nat) : Nat := (0x1200 + i) * 256 + 0x18
abbrev HOST_LANE.RETRAIN (i : Nat) : Nat := (0x1200 + i) * 256 + 0x19
abbrev HOST_LANE.RETRAINS (i : Nat) : Nat := (0x1200 + i) * 256 + 0x1A
abbrev HOST_LANE.LAST_RETRAIN_CAUSE (i : Nat) : Nat := (0x1200 + i) * 256 + 0x1B
abbrev HOST_LANE.LOOPBACK (i : Nat) : Nat := (0x1200 + i) * 256 + 0x1C
abbrev HOST_LANE.PRBS_TX (i : Nat) : Nat := (0x1200 + i) * 256 + 0x1D
abbrev HOST_LANE.PRBS_RX (i : Nat) : Nat := (0x1200 + i) * 256 + 0x1E
abbrev HOST_LANE.PRBS_LOCK (i : Nat) : Nat := (0x1200 + i) * 256 + 0x1F
abbrev HOST_LANE.PRBS_BITS (i : Nat) : Nat := (0x1200 + i) * 256 + 0x20
abbrev HOST_LANE.PRBS_ERRORS (i : Nat) : Nat := (0x1200 + i) * 256 + 0x21
abbrev HOST_LANE.PRBS_CLEAR (i : Nat) : Nat := (0x1200 + i) * 256 + 0x22
abbrev HOST_LANE.EYE_START (i : Nat) : Nat := (0x1200 + i) * 256 + 0x23
abbrev HOST_LANE.EYE_STATE (i : Nat) : Nat := (0x1200 + i) * 256 + 0x24
abbrev HOST_LANE.EYE_HEIGHT (i : Nat) : Nat := (0x1200 + i) * 256 + 0x25
abbrev HOST_LANE.EYE_WIDTH (i : Nat) : Nat := (0x1200 + i) * 256 + 0x26
abbrev HOST_LANE.EYE_MAP (i : Nat) : Nat := (0x1200 + i) * 256 + 0x27
abbrev HOST_LANE.SHIMS_INSERTED (i : Nat) : Nat := (0x1200 + i) * 256 + 0x28
abbrev HOST_LANE.SHIMS_DELETED (i : Nat) : Nat := (0x1200 + i) * 256 + 0x29
abbrev HOST_LANE.FEC_SYMBOL_ERRORS (i : Nat) : Nat := (0x1200 + i) * 256 + 0x2A
abbrev HOST_LANE.BLOCK_ERRORS (i : Nat) : Nat := (0x1200 + i) * 256 + 0x2B
abbrev HOST_LANE.CW_CORRECTED (i : Nat) : Nat := (0x1200 + i) * 256 + 0x2C
abbrev HOST_LANE.CW_UNCORRECTED (i : Nat) : Nat := (0x1200 + i) * 256 + 0x2D
abbrev HOST_LANE.FEC_HIST (i : Nat) : Nat := (0x1200 + i) * 256 + 0x2E
abbrev HOST_LANE.EVENTS (i : Nat) : Nat := (0x1200 + i) * 256 + 0x2F
abbrev HOST_LANE.EVT0_EVENTS (i : Nat) : Nat := (0x1200 + i) * 256 + 0x30
abbrev HOST_LANE.EVT1_EVENTS (i : Nat) : Nat := (0x1200 + i) * 256 + 0x31
abbrev HOST_LANE.EVT2_EVENTS (i : Nat) : Nat := (0x1200 + i) * 256 + 0x32
abbrev HOST_LANE.EVT3_EVENTS (i : Nat) : Nat := (0x1200 + i) * 256 + 0x33
abbrev HOST_LANE.EVT4_EVENTS (i : Nat) : Nat := (0x1200 + i) * 256 + 0x34
abbrev HOST_LANE.EVT5_EVENTS (i : Nat) : Nat := (0x1200 + i) * 256 + 0x35
abbrev HOST_LANE.EVT6_EVENTS (i : Nat) : Nat := (0x1200 + i) * 256 + 0x36
abbrev HOST_LANE.EVT7_EVENTS (i : Nat) : Nat := (0x1200 + i) * 256 + 0x37
abbrev HOST_LANE.EVT8_EVENTS (i : Nat) : Nat := (0x1200 + i) * 256 + 0x38
-- `0x1400+p PORT`: 07_ports.md R185
abbrev PORT.KIND (i : Nat) : Nat := (0x1400 + i) * 256 + 0x01
abbrev PORT.WIDTH (i : Nat) : Nat := (0x1400 + i) * 256 + 0x02
abbrev PORT.PORT_SPEED (i : Nat) : Nat := (0x1400 + i) * 256 + 0x03
abbrev PORT.FEC_MODE (i : Nat) : Nat := (0x1400 + i) * 256 + 0x04
abbrev PORT.LINK_STATE (i : Nat) : Nat := (0x1400 + i) * 256 + 0x05
abbrev PORT.PARTITION (i : Nat) : Nat := (0x1400 + i) * 256 + 0x06
abbrev PORT.ADMIN_ENABLE (i : Nat) : Nat := (0x1400 + i) * 256 + 0x07
abbrev PORT.MAX_FRAME (i : Nat) : Nat := (0x1400 + i) * 256 + 0x08
abbrev PORT.LINK_UP_DELAY_MS (i : Nat) : Nat := (0x1400 + i) * 256 + 0x09
abbrev PORT.LINK_CHANGES (i : Nat) : Nat := (0x1400 + i) * 256 + 0x0A
abbrev PORT.LAST_CHANGE (i : Nat) : Nat := (0x1400 + i) * 256 + 0x0B
abbrev PORT.PAUSE_RX_ENABLE (i : Nat) : Nat := (0x1400 + i) * 256 + 0x0C
abbrev PORT.PAUSE_TX_ENABLE (i : Nat) : Nat := (0x1400 + i) * 256 + 0x0D
abbrev PORT.HOST_FIFO_FILL (i : Nat) : Nat := (0x1400 + i) * 256 + 0x0E
abbrev PORT.DALZAN_STATE (i : Nat) : Nat := (0x1400 + i) * 256 + 0x0F
abbrev PORT.RX_RESERVE (i : Nat) : Nat := (0x1400 + i) * 256 + 0x10
abbrev PORT.PARTNER_GRANT (i : Nat) : Nat := (0x1400 + i) * 256 + 0x11
abbrev PORT.CREDITS (i : Nat) : Nat := (0x1400 + i) * 256 + 0x12
abbrev PORT.CREDIT_RETURN_BOUND_NS (i : Nat) : Nat := (0x1400 + i) * 256 + 0x13
abbrev PORT.LINK_RESET (i : Nat) : Nat := (0x1400 + i) * 256 + 0x14
abbrev PORT.CELLS_LOST (i : Nat) : Nat := (0x1400 + i) * 256 + 0x15
abbrev PORT.DCB_ERRORS (i : Nat) : Nat := (0x1400 + i) * 256 + 0x16
abbrev PORT.RX_FRAMES (i : Nat) : Nat := (0x1400 + i) * 256 + 0x18
abbrev PORT.RX_OCTETS (i : Nat) : Nat := (0x1400 + i) * 256 + 0x19
abbrev PORT.TX_FRAMES (i : Nat) : Nat := (0x1400 + i) * 256 + 0x1A
abbrev PORT.TX_OCTETS (i : Nat) : Nat := (0x1400 + i) * 256 + 0x1B
abbrev PORT.RX_FCS_ERRORS (i : Nat) : Nat := (0x1400 + i) * 256 + 0x1C
abbrev PORT.RX_UNDERSIZE (i : Nat) : Nat := (0x1400 + i) * 256 + 0x1D
abbrev PORT.RX_OVERSIZE (i : Nat) : Nat := (0x1400 + i) * 256 + 0x1E
abbrev PORT.PAUSE_RX (i : Nat) : Nat := (0x1400 + i) * 256 + 0x1F
abbrev PORT.EVENTS (i : Nat) : Nat := (0x1400 + i) * 256 + 0x20
abbrev PORT.EVT0_EVENTS (i : Nat) : Nat := (0x1400 + i) * 256 + 0x21
abbrev PORT.EVT1_EVENTS (i : Nat) : Nat := (0x1400 + i) * 256 + 0x22
abbrev PORT.EVT2_EVENTS (i : Nat) : Nat := (0x1400 + i) * 256 + 0x23
abbrev PORT.EVT3_EVENTS (i : Nat) : Nat := (0x1400 + i) * 256 + 0x24
abbrev PORT.EVT4_EVENTS (i : Nat) : Nat := (0x1400 + i) * 256 + 0x25
abbrev PORT.EVT5_EVENTS (i : Nat) : Nat := (0x1400 + i) * 256 + 0x26
abbrev PORT.EVT6_EVENTS (i : Nat) : Nat := (0x1400 + i) * 256 + 0x27
-- `0x1800+p OCTET`: 07_ports.md R184
abbrev OCTET.LAYOUT (i : Nat) : Nat := (0x1800 + i) * 256 + 0x01
abbrev OCTET.POS0_SPEED (i : Nat) : Nat := (0x1800 + i) * 256 + 0x02
abbrev OCTET.POS1_SPEED (i : Nat) : Nat := (0x1800 + i) * 256 + 0x03
abbrev OCTET.POS2_SPEED (i : Nat) : Nat := (0x1800 + i) * 256 + 0x04
abbrev OCTET.POS3_SPEED (i : Nat) : Nat := (0x1800 + i) * 256 + 0x05
abbrev OCTET.POS4_SPEED (i : Nat) : Nat := (0x1800 + i) * 256 + 0x06
abbrev OCTET.POS5_SPEED (i : Nat) : Nat := (0x1800 + i) * 256 + 0x07
abbrev OCTET.POS6_SPEED (i : Nat) : Nat := (0x1800 + i) * 256 + 0x08
abbrev OCTET.POS7_SPEED (i : Nat) : Nat := (0x1800 + i) * 256 + 0x09
abbrev OCTET.FEC25_MASK (i : Nat) : Nat := (0x1800 + i) * 256 + 0x0A
abbrev OCTET.APPLY (i : Nat) : Nat := (0x1800 + i) * 256 + 0x0B
abbrev OCTET.PENDING (i : Nat) : Nat := (0x1800 + i) * 256 + 0x0C
abbrev OCTET.APPLIES (i : Nat) : Nat := (0x1800 + i) * 256 + 0x0D
-- `0x2000 PIPELINE_CONFIG`: 08_pipeline.md R211
abbrev PIPELINE_CONFIG.ACTIVE_BANK : Nat := 0x200001
abbrev PIPELINE_CONFIG.BANK_SWITCHES : Nat := 0x200002
abbrev PIPELINE_CONFIG.LAST_SWITCH : Nat := 0x200003
abbrev PIPELINE_CONFIG.APPLY_STAGES : Nat := 0x200004
abbrev PIPELINE_CONFIG.STAGES_PENDING : Nat := 0x200005
-- `0x2010+i INGRESS_PIPE`: 08_pipeline.md R212
abbrev INGRESS_PIPE.FRAMES (i : Nat) : Nat := (0x2010 + i) * 256 + 0x01
abbrev INGRESS_PIPE.DEPTH_EXCEEDED (i : Nat) : Nat := (0x2010 + i) * 256 + 0x02
abbrev INGRESS_PIPE.FRAME_SHORT (i : Nat) : Nat := (0x2010 + i) * 256 + 0x03
abbrev INGRESS_PIPE.NODE_LIMIT (i : Nat) : Nat := (0x2010 + i) * 256 + 0x04
abbrev INGRESS_PIPE.BAD_NODE (i : Nat) : Nat := (0x2010 + i) * 256 + 0x05
abbrev INGRESS_PIPE.FRAGMENTS (i : Nat) : Nat := (0x2010 + i) * 256 + 0x06
abbrev INGRESS_PIPE.POSTCARDS (i : Nat) : Nat := (0x2010 + i) * 256 + 0x07
abbrev INGRESS_PIPE.POSTCARDS_LOST (i : Nat) : Nat := (0x2010 + i) * 256 + 0x08
abbrev INGRESS_PIPE.SIGNAL_HANDOFFS (i : Nat) : Nat := (0x2010 + i) * 256 + 0x09
abbrev INGRESS_PIPE.SIGNAL_CANCELLED (i : Nat) : Nat := (0x2010 + i) * 256 + 0x0A
abbrev INGRESS_PIPE.IGNORED_WRITES (i : Nat) : Nat := (0x2010 + i) * 256 + 0x0B
-- `0x2050+e EGRESS_PIPE`: 08_pipeline.md R212
abbrev EGRESS_PIPE.FRAMES (i : Nat) : Nat := (0x2050 + i) * 256 + 0x01
abbrev EGRESS_PIPE.ECN_MARKED (i : Nat) : Nat := (0x2050 + i) * 256 + 0x02
abbrev EGRESS_PIPE.GROWN (i : Nat) : Nat := (0x2050 + i) * 256 + 0x03
abbrev EGRESS_PIPE.POSTCARDS (i : Nat) : Nat := (0x2050 + i) * 256 + 0x04
abbrev EGRESS_PIPE.POSTCARDS_LOST (i : Nat) : Nat := (0x2050 + i) * 256 + 0x05
abbrev EGRESS_PIPE.IGNORED_WRITES (i : Nat) : Nat := (0x2050 + i) * 256 + 0x06
-- `0x2100+p PORT_PARSE`: 08_pipeline.md R213
abbrev PORT_PARSE.PARSE_DEPTH (i : Nat) : Nat := (0x2100 + i) * 256 + 0x01
abbrev PORT_PARSE.START_NODE (i : Nat) : Nat := (0x2100 + i) * 256 + 0x02
abbrev PORT_PARSE.DEFAULT_VID (i : Nat) : Nat := (0x2100 + i) * 256 + 0x03
abbrev PORT_PARSE.DEFAULT_PCP (i : Nat) : Nat := (0x2100 + i) * 256 + 0x04
abbrev PORT_PARSE.POSTCARD_SAMPLE (i : Nat) : Nat := (0x2100 + i) * 256 + 0x05
/-- `0x2400 PARSE_GRAPH_WINDOW`, a window (08_pipeline.md R214). -/
abbrev PARSE_GRAPH_WINDOW.INDEX : Nat := 0x2400
/-- `0x2401 STAGE_TABLE_WINDOW`, a window (08_pipeline.md R214). -/
abbrev STAGE_TABLE_WINDOW.INDEX : Nat := 0x2401
-- `0x2410+s INGRESS_STAGE`: 08_pipeline.md R215
abbrev INGRESS_STAGE.KEY_SEL0 (i : Nat) : Nat := (0x2410 + i) * 256 + 0x01
abbrev INGRESS_STAGE.KEY_SEL1 (i : Nat) : Nat := (0x2410 + i) * 256 + 0x02
abbrev INGRESS_STAGE.KEY_SEL2 (i : Nat) : Nat := (0x2410 + i) * 256 + 0x03
abbrev INGRESS_STAGE.KEY_SEL3 (i : Nat) : Nat := (0x2410 + i) * 256 + 0x04
abbrev INGRESS_STAGE.DEFAULT_ACTION (i : Nat) : Nat := (0x2410 + i) * 256 + 0x05
abbrev INGRESS_STAGE.DEFAULT_PARAM (i : Nat) : Nat := (0x2410 + i) * 256 + 0x06
-- `0x2420+s EGRESS_STAGE`: 08_pipeline.md R215
abbrev EGRESS_STAGE.KEY_SEL0 (i : Nat) : Nat := (0x2420 + i) * 256 + 0x01
abbrev EGRESS_STAGE.KEY_SEL1 (i : Nat) : Nat := (0x2420 + i) * 256 + 0x02
abbrev EGRESS_STAGE.KEY_SEL2 (i : Nat) : Nat := (0x2420 + i) * 256 + 0x03
abbrev EGRESS_STAGE.KEY_SEL3 (i : Nat) : Nat := (0x2420 + i) * 256 + 0x04
abbrev EGRESS_STAGE.DEFAULT_ACTION (i : Nat) : Nat := (0x2420 + i) * 256 + 0x05
abbrev EGRESS_STAGE.DEFAULT_PARAM (i : Nat) : Nat := (0x2420 + i) * 256 + 0x06
-- `0x2E00 PIPE_UCODE`: 17_microcode.md R457
abbrev PIPE_UCODE.PACKAGE : Nat := 0x2E0001
abbrev PIPE_UCODE.COMMAND : Nat := 0x2E0002
abbrev PIPE_UCODE.LOAD_MODE : Nat := 0x2E0003
abbrev PIPE_UCODE.PERSIST : Nat := 0x2E0004
abbrev PIPE_UCODE.STATE : Nat := 0x2E0005
abbrev PIPE_UCODE.RECEIVED : Nat := 0x2E0006
abbrev PIPE_UCODE.PROGRESS : Nat := 0x2E0007
abbrev PIPE_UCODE.LAST_RESULT : Nat := 0x2E0008
abbrev PIPE_UCODE.LAST_DETAIL : Nat := 0x2E0009
abbrev PIPE_UCODE.LOADS : Nat := 0x2E000A
abbrev PIPE_UCODE.VERSION : Nat := 0x2E000B
abbrev PIPE_UCODE.DIGEST : Nat := 0x2E000C
abbrev PIPE_UCODE.KEY_SLOT : Nat := 0x2E000D
abbrev PIPE_UCODE.CORRECTED : Nat := 0x2E000E
abbrev PIPE_UCODE.UNCORRECTED : Nat := 0x2E000F
abbrev PIPE_UCODE.UNLOADED_HITS : Nat := 0x2E0010
abbrev PIPE_UCODE.EVENTS : Nat := 0x2E0011
abbrev PIPE_UCODE.EVT0_EVENTS : Nat := 0x2E0012
abbrev PIPE_UCODE.EVT1_EVENTS : Nat := 0x2E0013
abbrev PIPE_UCODE.EVT2_EVENTS : Nat := 0x2E0014
/-- `0x2E10 PIPE_MICROWORD_WINDOW`, a window (17_microcode.md R459). -/
abbrev PIPE_MICROWORD_WINDOW.INDEX : Nat := 0x2E10
/-- `0x2E11 PIPE_NANOWORD_WINDOW`, a window (17_microcode.md R459). -/
abbrev PIPE_NANOWORD_WINDOW.INDEX : Nat := 0x2E11
-- `0x3000 LOOKUP_CONTROL`: 09_classification.md R238
abbrev LOOKUP_CONTROL.LOOKUP_EPOCH : Nat := 0x300001
abbrev LOOKUP_CONTROL.DRAINED_EPOCH : Nat := 0x300002
abbrev LOOKUP_CONTROL.RECLAIMED : Nat := 0x300003
abbrev LOOKUP_CONTROL.EPOCHS_FULL : Nat := 0x300004
abbrev LOOKUP_CONTROL.CLS_DEPTH_ERRORS : Nat := 0x300005
abbrev LOOKUP_CONTROL.CLS_BAD_NODES : Nat := 0x300006
/-- `0x3011 EM_WINDOW`, a window (09_classification.md R239). -/
abbrev EM_WINDOW.INDEX : Nat := 0x3011
abbrev EM_WINDOW.FAIL_ELEMENT : Nat := 0x301120
abbrev EM_WINDOW.FAIL_CAUSE : Nat := 0x301121
abbrev EM_WINDOW.ENTRIES_LIVE : Nat := 0x301122
abbrev EM_WINDOW.ENTRIES_RETIRING : Nat := 0x301123
abbrev EM_WINDOW.MOVES : Nat := 0x301124
/-- `0x3020 CLS_NODE_WINDOW`, a window (09_classification.md R239). -/
abbrev CLS_NODE_WINDOW.INDEX : Nat := 0x3020
abbrev CLS_NODE_WINDOW.FAIL_ELEMENT : Nat := 0x302020
abbrev CLS_NODE_WINDOW.FAIL_CAUSE : Nat := 0x302021
abbrev CLS_NODE_WINDOW.ROOT_SWITCH : Nat := 0x302022
abbrev CLS_NODE_WINDOW.STATE_MAP : Nat := 0x302023
abbrev CLS_NODE_WINDOW.NODES_FREE : Nat := 0x302024
abbrev CLS_NODE_WINDOW.NODES_RETIRING : Nat := 0x302025
/-- `0x3021 CLS_RULE_WINDOW`, a window (09_classification.md R239). -/
abbrev CLS_RULE_WINDOW.INDEX : Nat := 0x3021
abbrev CLS_RULE_WINDOW.FAIL_ELEMENT : Nat := 0x302120
abbrev CLS_RULE_WINDOW.FAIL_CAUSE : Nat := 0x302121
abbrev CLS_RULE_WINDOW.RULES_LIVE : Nat := 0x302122
abbrev CLS_RULE_WINDOW.RULES_RETIRING : Nat := 0x302123
abbrev CLS_RULE_WINDOW.STATE_MAP : Nat := 0x302124
/-- `0x3030 SPREAD_WINDOW`, a window (09_classification.md R239). -/
abbrev SPREAD_WINDOW.INDEX : Nat := 0x3030
abbrev SPREAD_WINDOW.FAIL_ELEMENT : Nat := 0x303020
abbrev SPREAD_WINDOW.FAIL_CAUSE : Nat := 0x303021
-- `0x3040+h HASH_PROFILE`: 09_classification.md R241
abbrev HASH_PROFILE.ALGORITHM (i : Nat) : Nat := (0x3040 + i) * 256 + 0x01
abbrev HASH_PROFILE.SEED (i : Nat) : Nat := (0x3040 + i) * 256 + 0x02
abbrev HASH_PROFILE.SYMMETRIC (i : Nat) : Nat := (0x3040 + i) * 256 + 0x03
abbrev HASH_PROFILE.SELECTORS (i : Nat) : Nat := (0x3040 + i) * 256 + 0x04
abbrev HASH_PROFILE.TOEPLITZ_KEY (i : Nat) : Nat := (0x3040 + i) * 256 + 0x05
-- `0x3060+k EM_PROFILE`: 09_classification.md R241
abbrev EM_PROFILE.SELECTORS (i : Nat) : Nat := (0x3060 + i) * 256 + 0x01
-- `0x3070+t CLS_TREE`: 09_classification.md R241
abbrev CLS_TREE.ROOT (i : Nat) : Nat := (0x3070 + i) * 256 + 0x01
abbrev CLS_TREE.SELECTORS (i : Nat) : Nat := (0x3070 + i) * 256 + 0x02
abbrev CLS_TREE.FIELD_MODES (i : Nat) : Nat := (0x3070 + i) * 256 + 0x03
-- `0x3080+t SPREAD_TABLE`: 09_classification.md R242
abbrev SPREAD_TABLE.REMOVAL_EPOCH (i : Nat) : Nat := (0x3080 + i) * 256 + 0x01
-- `0x3100+p PORT_LOOKUP`: 09_classification.md R242
abbrev PORT_LOOKUP.EM_ENABLE (i : Nat) : Nat := (0x3100 + i) * 256 + 0x01
abbrev PORT_LOOKUP.EM_PROFILE (i : Nat) : Nat := (0x3100 + i) * 256 + 0x02
abbrev PORT_LOOKUP.CLS_TREE (i : Nat) : Nat := (0x3100 + i) * 256 + 0x03
abbrev PORT_LOOKUP.HASH_PROFILE (i : Nat) : Nat := (0x3100 + i) * 256 + 0x04
-- `0x4000 BUFFER_CONFIG`: 10_switch_core_buffer.md R267
abbrev BUFFER_CONFIG.TOTAL_CELLS : Nat := 0x400001
abbrev BUFFER_CONFIG.MGMT_RESERVE_CELLS : Nat := 0x400002
abbrev BUFFER_CONFIG.LANDING_CELLS : Nat := 0x400003
abbrev BUFFER_CONFIG.RESV_POOL_CELLS : Nat := 0x400004
abbrev BUFFER_CONFIG.DALZAN_RESERVE_CELLS : Nat := 0x400005
abbrev BUFFER_CONFIG.SHARED_CELLS : Nat := 0x400006
abbrev BUFFER_CONFIG.SHARED_FREE : Nat := 0x400007
abbrev BUFFER_CONFIG.TOTAL_DESC : Nat := 0x400008
abbrev BUFFER_CONFIG.MGMT_RESERVE_DESC : Nat := 0x400009
abbrev BUFFER_CONFIG.RESV_POOL_DESC : Nat := 0x40000A
abbrev BUFFER_CONFIG.DESC_FREE : Nat := 0x40000B
abbrev BUFFER_CONFIG.RESV_POOL_USED : Nat := 0x40000C
-- `0x4010 DROP_TOTALS`: 10_switch_core_buffer.md R268
abbrev DROP_TOTALS.WHOLE : Nat := 0x401001
abbrev DROP_TOTALS.REFUSED : Nat := 0x401002
abbrev DROP_TOTALS.LATE : Nat := 0x401003
-- `0x4020+P PARTITION_BUFFER`: 10_switch_core_buffer.md R269
abbrev PARTITION_BUFFER.RESERVE_CELLS (i : Nat) : Nat := (0x4020 + i) * 256 + 0x01
abbrev PARTITION_BUFFER.ALPHA (i : Nat) : Nat := (0x4020 + i) * 256 + 0x02
abbrev PARTITION_BUFFER.RESERVE_USED (i : Nat) : Nat := (0x4020 + i) * 256 + 0x03
abbrev PARTITION_BUFFER.SHARED_USED (i : Nat) : Nat := (0x4020 + i) * 256 + 0x04
abbrev PARTITION_BUFFER.FRAMES_RESIDENT (i : Nat) : Nat := (0x4020 + i) * 256 + 0x05
/-- `0x4100 MC_GROUP_WINDOW`, a window (10_switch_core_buffer.md R270). -/
abbrev MC_GROUP_WINDOW.INDEX : Nat := 0x4100
-- `0x4200+e PORT_BUFFER`: 10_switch_core_buffer.md R271
abbrev PORT_BUFFER.CT_INGRESS (i : Nat) : Nat := (0x4200 + i) * 256 + 0x01
abbrev PORT_BUFFER.CT_QUEUES (i : Nat) : Nat := (0x4200 + i) * 256 + 0x02
abbrev PORT_BUFFER.DOWN_ACTION (i : Nat) : Nat := (0x4200 + i) * 256 + 0x03
abbrev PORT_BUFFER.AGE_LIMIT_US (i : Nat) : Nat := (0x4200 + i) * 256 + 0x04
abbrev PORT_BUFFER.PORT_MAX_CELLS (i : Nat) : Nat := (0x4200 + i) * 256 + 0x05
abbrev PORT_BUFFER.QUEUE_MAX_CELLS (i : Nat) : Nat := (0x4200 + i) * 256 + 0x06
abbrev PORT_BUFFER.ECN_ENABLE (i : Nat) : Nat := (0x4200 + i) * 256 + 0x07
abbrev PORT_BUFFER.ECN_THRESHOLD (i : Nat) : Nat := (0x4200 + i) * 256 + 0x08
abbrev PORT_BUFFER.PORT_DEPTH (i : Nat) : Nat := (0x4200 + i) * 256 + 0x09
abbrev PORT_BUFFER.QUEUE_DEPTH (i : Nat) : Nat := (0x4200 + i) * 256 + 0x0A
abbrev PORT_BUFFER.CT_FALLBACKS (i : Nat) : Nat := (0x4200 + i) * 256 + 0x0B
abbrev PORT_BUFFER.STOMPED (i : Nat) : Nat := (0x4200 + i) * 256 + 0x0C
-- `0x4800 TALLY_CONTROL`: 14_tally.md R356
abbrev TALLY_CONTROL.SWEEP_PASSES : Nat := 0x480001
abbrev TALLY_CONTROL.PASS_CC : Nat := 0x480002
abbrev TALLY_CONTROL.EPOCH_START : Nat := 0x480003
abbrev TALLY_CONTROL.SNAPSHOT : Nat := 0x480004
abbrev TALLY_CONTROL.SNAP_TIME : Nat := 0x480005
abbrev TALLY_CONTROL.EPOCH_TIME : Nat := 0x480006
abbrev TALLY_CONTROL.DISCREPANCIES : Nat := 0x480007
abbrev TALLY_CONTROL.ORPHANS_RECLAIMED : Nat := 0x480008
abbrev TALLY_CONTROL.UNITS_RECLAIMED : Nat := 0x480009
abbrev TALLY_CONTROL.ESCALATION : Nat := 0x48000A
abbrev TALLY_CONTROL.EVENTS : Nat := 0x48000B
abbrev TALLY_CONTROL.EVT0_EVENTS : Nat := 0x48000C
abbrev TALLY_CONTROL.EVT1_EVENTS : Nat := 0x48000D
abbrev TALLY_CONTROL.EVT2_EVENTS : Nat := 0x48000E
abbrev TALLY_CONTROL.EVT3_EVENTS : Nat := 0x48000F
abbrev TALLY_CONTROL.EVT4_EVENTS : Nat := 0x480010
-- `0x4810+P PARTITION_LEDGER`: 14_tally.md R356
abbrev PARTITION_LEDGER.CELLS_HELD (i : Nat) : Nat := (0x4810 + i) * 256 + 0x01
abbrev PARTITION_LEDGER.DESC_QUEUED (i : Nat) : Nat := (0x4810 + i) * 256 + 0x02
abbrev PARTITION_LEDGER.DESC_IN_TX (i : Nat) : Nat := (0x4810 + i) * 256 + 0x03
abbrev PARTITION_LEDGER.MC_REFS (i : Nat) : Nat := (0x4810 + i) * 256 + 0x04
abbrev PARTITION_LEDGER.ACCEPTED (i : Nat) : Nat := (0x4810 + i) * 256 + 0x05
abbrev PARTITION_LEDGER.WHOLE_DROPS (i : Nat) : Nat := (0x4810 + i) * 256 + 0x06
abbrev PARTITION_LEDGER.ADMITTED_FRAMES (i : Nat) : Nat := (0x4810 + i) * 256 + 0x07
abbrev PARTITION_LEDGER.IN_PIPELINE (i : Nat) : Nat := (0x4810 + i) * 256 + 0x08
abbrev PARTITION_LEDGER.ADMITTED_COPIES (i : Nat) : Nat := (0x4810 + i) * 256 + 0x09
abbrev PARTITION_LEDGER.TRANSMITTED (i : Nat) : Nat := (0x4810 + i) * 256 + 0x0A
abbrev PARTITION_LEDGER.LATE_DROPS (i : Nat) : Nat := (0x4810 + i) * 256 + 0x0B
abbrev PARTITION_LEDGER.RESIDENT_COPIES (i : Nat) : Nat := (0x4810 + i) * 256 + 0x0C
abbrev PARTITION_LEDGER.REFUSED (i : Nat) : Nat := (0x4810 + i) * 256 + 0x0D
abbrev PARTITION_LEDGER.FENCE_STATE (i : Nat) : Nat := (0x4810 + i) * 256 + 0x0E
abbrev PARTITION_LEDGER.DISCREPANCIES (i : Nat) : Nat := (0x4810 + i) * 256 + 0x0F
-- `0x4820 DEVICE_LEDGER`: 14_tally.md R356
abbrev DEVICE_LEDGER.CELLS_FREE : Nat := 0x482001
abbrev DEVICE_LEDGER.CELLS_HELD : Nat := 0x482002
abbrev DEVICE_LEDGER.CELLS_IN_RESERVES : Nat := 0x482003
abbrev DEVICE_LEDGER.DESC_FREE : Nat := 0x482004
abbrev DEVICE_LEDGER.DESC_QUEUED : Nat := 0x482005
abbrev DEVICE_LEDGER.DESC_IN_TX : Nat := 0x482006
abbrev DEVICE_LEDGER.ZDP_TAGS_FREE : Nat := 0x482007
abbrev DEVICE_LEDGER.ZDP_TAGS_IN_FLIGHT : Nat := 0x482008
abbrev DEVICE_LEDGER.MGMT_TAGS_FREE : Nat := 0x482009
abbrev DEVICE_LEDGER.MGMT_TAGS_IN_FLIGHT : Nat := 0x48200A
abbrev DEVICE_LEDGER.JOBS_FREE : Nat := 0x48200B
abbrev DEVICE_LEDGER.JOBS_QUEUED : Nat := 0x48200C
abbrev DEVICE_LEDGER.JOBS_RUNNING : Nat := 0x48200D
abbrev DEVICE_LEDGER.JOBS_COMPLETED : Nat := 0x48200E
-- `0x4840 FENCE_CONTROL`: 14_tally.md R356
abbrev FENCE_CONTROL.FENCE : Nat := 0x484001
abbrev FENCE_CONTROL.UNFENCE : Nat := 0x484002
abbrev FENCE_CONTROL.QUERY : Nat := 0x484003
abbrev FENCE_CONTROL.QUERY_STATE : Nat := 0x484004
abbrev FENCE_CONTROL.FENCES_ACTIVE : Nat := 0x484005
-- `0x4850 LEASES`: 14_tally.md R356
abbrev LEASES.QUEUE_LEASE_MS : Nat := 0x485001
abbrev LEASES.QUEUE_ACTION : Nat := 0x485002
abbrev LEASES.DALZAN_LEASE_MS : Nat := 0x485003
abbrev LEASES.DALZAN_ACTION : Nat := 0x485004
abbrev LEASES.BENCH_LEASE_MS : Nat := 0x485005
abbrev LEASES.BENCH_ACTION : Nat := 0x485006
-- `0x4880 TALLY_LOG`: 14_tally.md R356
abbrev TALLY_LOG.LOG : Nat := 0x488001
abbrev TALLY_LOG.LOG_HEAD : Nat := 0x488002
-- `0x5000+p PORT_SCHED`: 11_queues_shaping_policing.md R293
abbrev PORT_SCHED.STRICT_MASK (i : Nat) : Nat := (0x5000 + i) * 256 + 0x01
abbrev PORT_SCHED.QUANTUM (i : Nat) : Nat := (0x5000 + i) * 256 + 0x02
abbrev PORT_SCHED.QSHAPE_ENABLE (i : Nat) : Nat := (0x5000 + i) * 256 + 0x03
abbrev PORT_SCHED.QSHAPE_RATE (i : Nat) : Nat := (0x5000 + i) * 256 + 0x04
abbrev PORT_SCHED.QSHAPE_BURST (i : Nat) : Nat := (0x5000 + i) * 256 + 0x05
abbrev PORT_SCHED.PSHAPE_ENABLE (i : Nat) : Nat := (0x5000 + i) * 256 + 0x06
abbrev PORT_SCHED.PSHAPE_RATE (i : Nat) : Nat := (0x5000 + i) * 256 + 0x07
abbrev PORT_SCHED.PSHAPE_BURST (i : Nat) : Nat := (0x5000 + i) * 256 + 0x08
abbrev PORT_SCHED.OVERHEAD (i : Nat) : Nat := (0x5000 + i) * 256 + 0x09
-- `0x5300+p PORT_QSTATE`: 11_queues_shaping_policing.md R294
abbrev PORT_QSTATE.DEFICIT (i : Nat) : Nat := (0x5300 + i) * 256 + 0x01
abbrev PORT_QSTATE.QSHAPE_LEVEL (i : Nat) : Nat := (0x5300 + i) * 256 + 0x02
abbrev PORT_QSTATE.PSHAPE_LEVEL (i : Nat) : Nat := (0x5300 + i) * 256 + 0x03
abbrev PORT_QSTATE.PAUSED (i : Nat) : Nat := (0x5300 + i) * 256 + 0x04
abbrev PORT_QSTATE.DEPTH_HWM (i : Nat) : Nat := (0x5300 + i) * 256 + 0x05
abbrev PORT_QSTATE.RESIDENCE_HWM (i : Nat) : Nat := (0x5300 + i) * 256 + 0x06
abbrev PORT_QSTATE.HWM_CLEAR (i : Nat) : Nat := (0x5300 + i) * 256 + 0x07
/-- `0x5600 POLICER_WINDOW`, a window (11_queues_shaping_policing.md R286). -/
abbrev POLICER_WINDOW.INDEX : Nat := 0x5600
/-- `0x5601 POLICER_STATE_WINDOW`, a window (11_queues_shaping_policing.md R287). -/
abbrev POLICER_STATE_WINDOW.INDEX : Nat := 0x5601
-- `0x5602 POLICER_CONTROL`: 11_queues_shaping_policing.md R296
abbrev POLICER_CONTROL.UNBLOCK : Nat := 0x560201
abbrev POLICER_CONTROL.POLICERS_VALID : Nat := 0x560202
abbrev POLICER_CONTROL.INVALID_HITS : Nat := 0x560203
abbrev POLICER_CONTROL.OVERSIZE_BLOCKS : Nat := 0x560204
-- `0x5800+p PORT_PFC`: 11_queues_shaping_policing.md R295
abbrev PORT_PFC.RX_ENABLE (i : Nat) : Nat := (0x5800 + i) * 256 + 0x01
abbrev PORT_PFC.TX_ENABLE (i : Nat) : Nat := (0x5800 + i) * 256 + 0x02
abbrev PORT_PFC.PAUSE_MAP (i : Nat) : Nat := (0x5800 + i) * 256 + 0x03
abbrev PORT_PFC.XOFF_CELLS (i : Nat) : Nat := (0x5800 + i) * 256 + 0x04
abbrev PORT_PFC.XON_CELLS (i : Nat) : Nat := (0x5800 + i) * 256 + 0x05
abbrev PORT_PFC.WATCHDOG_MS (i : Nat) : Nat := (0x5800 + i) * 256 + 0x06
abbrev PORT_PFC.WATCHDOG_ACTION (i : Nat) : Nat := (0x5800 + i) * 256 + 0x07
abbrev PORT_PFC.RECOVERY_MS (i : Nat) : Nat := (0x5800 + i) * 256 + 0x08
abbrev PORT_PFC.INGRESS_USAGE (i : Nat) : Nat := (0x5800 + i) * 256 + 0x09
abbrev PORT_PFC.XOFF_STATE (i : Nat) : Nat := (0x5800 + i) * 256 + 0x0A
abbrev PORT_PFC.PFC_RX_FRAMES (i : Nat) : Nat := (0x5800 + i) * 256 + 0x0B
abbrev PORT_PFC.PFC_TX_FRAMES (i : Nat) : Nat := (0x5800 + i) * 256 + 0x0C
abbrev PORT_PFC.IN_RECOVERY (i : Nat) : Nat := (0x5800 + i) * 256 + 0x0D
abbrev PORT_PFC.EVENTS (i : Nat) : Nat := (0x5800 + i) * 256 + 0x0E
abbrev PORT_PFC.EVT0_EVENTS (i : Nat) : Nat := (0x5800 + i) * 256 + 0x0F
abbrev PORT_PFC.EVT1_EVENTS (i : Nat) : Nat := (0x5800 + i) * 256 + 0x10
abbrev PORT_PFC.EVT2_EVENTS (i : Nat) : Nat := (0x5800 + i) * 256 + 0x11
-- `0x5C00+p GATE_PORT`: 12_time_and_gates.md R320
abbrev GATE_PORT.LIST_ACTIVE (i : Nat) : Nat := (0x5C00 + i) * 256 + 0x01
abbrev GATE_PORT.ACTIVE_BASE_TIME (i : Nat) : Nat := (0x5C00 + i) * 256 + 0x02
abbrev GATE_PORT.ACTIVE_CYCLE_NS (i : Nat) : Nat := (0x5C00 + i) * 256 + 0x03
abbrev GATE_PORT.ACTIVE_COUNT (i : Nat) : Nat := (0x5C00 + i) * 256 + 0x04
abbrev GATE_PORT.PENDING (i : Nat) : Nat := (0x5C00 + i) * 256 + 0x05
abbrev GATE_PORT.SWAP_TIME (i : Nat) : Nat := (0x5C00 + i) * 256 + 0x06
abbrev GATE_PORT.CANCEL_PENDING (i : Nat) : Nat := (0x5C00 + i) * 256 + 0x07
abbrev GATE_PORT.REMOVE_LIST (i : Nat) : Nat := (0x5C00 + i) * 256 + 0x08
abbrev GATE_PORT.SWAPS (i : Nat) : Nat := (0x5C00 + i) * 256 + 0x09
abbrev GATE_PORT.GATE_STATE (i : Nat) : Nat := (0x5C00 + i) * 256 + 0x0A
abbrev GATE_PORT.SAFE_GATES (i : Nat) : Nat := (0x5C00 + i) * 256 + 0x0B
abbrev GATE_PORT.IN_SAFE_STATE (i : Nat) : Nat := (0x5C00 + i) * 256 + 0x0C
abbrev GATE_PORT.KERF_PS (i : Nat) : Nat := (0x5C00 + i) * 256 + 0x0D
abbrev GATE_PORT.TX_LATENCY_NS (i : Nat) : Nat := (0x5C00 + i) * 256 + 0x0E
abbrev GATE_PORT.LONGEST_WINDOW (i : Nat) : Nat := (0x5C00 + i) * 256 + 0x0F
abbrev GATE_PORT.COMMIT_CAUSE (i : Nat) : Nat := (0x5C00 + i) * 256 + 0x10
abbrev GATE_PORT.NEXT_BOUNDARY (i : Nat) : Nat := (0x5C00 + i) * 256 + 0x11
abbrev GATE_PORT.EVENTS (i : Nat) : Nat := (0x5C00 + i) * 256 + 0x12
abbrev GATE_PORT.EVT0_EVENTS (i : Nat) : Nat := (0x5C00 + i) * 256 + 0x13
/-- `0x5F00 GATE_LIST_WINDOW`, a window (12_time_and_gates.md R319). -/
abbrev GATE_LIST_WINDOW.INDEX : Nat := 0x5F00
abbrev GATE_LIST_WINDOW.BASE_TIME : Nat := 0x5F0020
abbrev GATE_LIST_WINDOW.CYCLE_NS : Nat := 0x5F0021
abbrev GATE_LIST_WINDOW.ENTRY_COUNT : Nat := 0x5F0022
/-- `0x5F01 STREAM_GATE_WINDOW`, a window (12_time_and_gates.md R318). -/
abbrev STREAM_GATE_WINDOW.INDEX : Nat := 0x5F01
-- `0x6000 TIME_UNIT`: 12_time_and_gates.md R321
abbrev TIME_UNIT.TIME_NOW : Nat := 0x600001
abbrev TIME_UNIT.TIME_FRAC : Nat := 0x600002
abbrev TIME_UNIT.STATE : Nat := 0x600003
abbrev TIME_UNIT.SERVO_MODE : Nat := 0x600004
abbrev TIME_UNIT.PROFILE : Nat := 0x600005
abbrev TIME_UNIT.DOMAIN : Nat := 0x600006
abbrev TIME_UNIT.SYNC_PORT : Nat := 0x600007
abbrev TIME_UNIT.MEASURED_OFFSET : Nat := 0x600008
abbrev TIME_UNIT.FREQ_ADJ : Nat := 0x600009
abbrev TIME_UNIT.OFFSET_ADJ : Nat := 0x60000A
abbrev TIME_UNIT.SET_TIME : Nat := 0x60000B
abbrev TIME_UNIT.STEP_THRESHOLD_NS : Nat := 0x60000C
abbrev TIME_UNIT.SLEW_MAX_PPB : Nat := 0x60000D
abbrev TIME_UNIT.LOCK_THRESHOLD_NS : Nat := 0x60000E
abbrev TIME_UNIT.REPORT_TIMEOUT_MS : Nat := 0x60000F
abbrev TIME_UNIT.HOLDOVER_MS : Nat := 0x600010
abbrev TIME_UNIT.SETTLE_MS : Nat := 0x600011
abbrev TIME_UNIT.SLEW_REMAINING : Nat := 0x600012
abbrev TIME_UNIT.LAST_STEP : Nat := 0x600013
abbrev TIME_UNIT.STEPS : Nat := 0x600014
abbrev TIME_UNIT.EVENTS : Nat := 0x600015
abbrev TIME_UNIT.EVT0_EVENTS : Nat := 0x600016
abbrev TIME_UNIT.EVT1_EVENTS : Nat := 0x600017
abbrev TIME_UNIT.EVT2_EVENTS : Nat := 0x600018
abbrev TIME_UNIT.EVT3_EVENTS : Nat := 0x600019
abbrev TIME_UNIT.EVT4_EVENTS : Nat := 0x60001A
abbrev TIME_UNIT.GOOD_REPORTS : Nat := 0x60001B
-- `0x6100+p PORT_TIME`: 12_time_and_gates.md R322
abbrev PORT_TIME.TC_ENABLE (i : Nat) : Nat := (0x6100 + i) * 256 + 0x01
abbrev PORT_TIME.ONE_STEP_TX (i : Nat) : Nat := (0x6100 + i) * 256 + 0x02
abbrev PORT_TIME.PEER_DELAY_PS (i : Nat) : Nat := (0x6100 + i) * 256 + 0x03
abbrev PORT_TIME.TX_TS_HEAD (i : Nat) : Nat := (0x6100 + i) * 256 + 0x04
abbrev PORT_TIME.PTP_EVENTS_RX (i : Nat) : Nat := (0x6100 + i) * 256 + 0x05
abbrev PORT_TIME.PTP_EVENTS_TX (i : Nat) : Nat := (0x6100 + i) * 256 + 0x06
abbrev PORT_TIME.TX_TS_LOG (i : Nat) : Nat := (0x6100 + i) * 256 + 0x07
-- `0x6800 ADMISSION_CONTROL`: 13_admission_redundancy.md R342
abbrev ADMISSION_CONTROL.RESV_ADMITTED : Nat := 0x680001
abbrev ADMISSION_CONTROL.CELLS_HELD : Nat := 0x680002
abbrev ADMISSION_CONTROL.DESC_HELD : Nat := 0x680003
abbrev ADMISSION_CONTROL.REJECT_CAUSE : Nat := 0x680004
abbrev ADMISSION_CONTROL.REJECT_PORT : Nat := 0x680005
abbrev ADMISSION_CONTROL.INACTIVE_HITS : Nat := 0x680006
abbrev ADMISSION_CONTROL.CB_IGNORED : Nat := 0x680007
abbrev ADMISSION_CONTROL.EVALUATIONS : Nat := 0x680008
-- `0x6801 BOUND_QUERY`: 13_admission_redundancy.md R342
abbrev BOUND_QUERY.RESV : Nat := 0x680101
abbrev BOUND_QUERY.D_BY_PORT : Nat := 0x680102
abbrev BOUND_QUERY.DMIN_BY_PORT : Nat := 0x680103
/-- `0x6810 RESV_WINDOW`, a window (13_admission_redundancy.md R323). -/
abbrev RESV_WINDOW.INDEX : Nat := 0x6810
abbrev RESV_WINDOW.COMMIT_TIME : Nat := 0x681020
/-- `0x6811 RESV_STATE_WINDOW`, a window (13_admission_redundancy.md R342). -/
abbrev RESV_STATE_WINDOW.INDEX : Nat := 0x6811
-- `0x6900+p RESV_PORT`: 13_admission_redundancy.md R342
abbrev RESV_PORT.ADMITTED_SPEED (i : Nat) : Nat := (0x6900 + i) * 256 + 0x01
abbrev RESV_PORT.ADMITTED_FEC (i : Nat) : Nat := (0x6900 + i) * 256 + 0x02
abbrev RESV_PORT.RESV_COUNT (i : Nat) : Nat := (0x6900 + i) * 256 + 0x03
abbrev RESV_PORT.WORST_Q_NS (i : Nat) : Nat := (0x6900 + i) * 256 + 0x04
/-- `0x6C00 CB_WINDOW`, a window (13_admission_redundancy.md R338). -/
abbrev CB_WINDOW.INDEX : Nat := 0x6C00
/-- `0x6C01 CB_STATE_WINDOW`, a window (13_admission_redundancy.md R338). -/
abbrev CB_STATE_WINDOW.INDEX : Nat := 0x6C01
-- `0x6E00 DOVETAIL`: 13_admission_redundancy.md R342
abbrev DOVETAIL.ROLE : Nat := 0x6E0001
abbrev DOVETAIL.DOVETAIL_PORTS : Nat := 0x6E0002
abbrev DOVETAIL.HEARTBEAT_MS : Nat := 0x6E0003
abbrev DOVETAIL.HEARTBEAT : Nat := 0x6E0004
abbrev DOVETAIL.LOSS_HOLD_US : Nat := 0x6E0005
abbrev DOVETAIL.PARTNER_STATE : Nat := 0x6E0006
abbrev DOVETAIL.ACTIVE : Nat := 0x6E0007
abbrev DOVETAIL.REVERT : Nat := 0x6E0008
abbrev DOVETAIL.HEALTHY : Nat := 0x6E0009
abbrev DOVETAIL.EVENTS : Nat := 0x6E000A
abbrev DOVETAIL.EVT0_EVENTS : Nat := 0x6E000B
abbrev DOVETAIL.PARTNER_WAIT_MS : Nat := 0x6E000C
-- `0x6E10+m MIRROR_RANGE`: 13_admission_redundancy.md R342
abbrev MIRROR_RANGE.ENABLE (i : Nat) : Nat := (0x6E10 + i) * 256 + 0x01
abbrev MIRROR_RANGE.BASE (i : Nat) : Nat := (0x6E10 + i) * 256 + 0x02
abbrev MIRROR_RANGE.COUNT (i : Nat) : Nat := (0x6E10 + i) * 256 + 0x03
abbrev MIRROR_RANGE.PORT (i : Nat) : Nat := (0x6E10 + i) * 256 + 0x04
abbrev MIRROR_RANGE.QUEUE (i : Nat) : Nat := (0x6E10 + i) * 256 + 0x05
abbrev MIRROR_RANGE.PARTITION (i : Nat) : Nat := (0x6E10 + i) * 256 + 0x06
abbrev MIRROR_RANGE.RESV (i : Nat) : Nat := (0x6E10 + i) * 256 + 0x07
abbrev MIRROR_RANGE.PERIOD_NS (i : Nat) : Nat := (0x6E10 + i) * 256 + 0x08
abbrev MIRROR_RANGE.OVERRUNS (i : Nat) : Nat := (0x6E10 + i) * 256 + 0x09
abbrev MIRROR_RANGE.INJECT_PORT (i : Nat) : Nat := (0x6E10 + i) * 256 + 0x0A
abbrev MIRROR_RANGE.PRODUCER_ID (i : Nat) : Nat := (0x6E10 + i) * 256 + 0x0B
abbrev MIRROR_RANGE.FRAMES_MAX (i : Nat) : Nat := (0x6E10 + i) * 256 + 0x0C
-- `0x7000 SIGNAL_CONTROL`: 15_signal_image.md R381
abbrev SIGNAL_CONTROL.RECORDS_WRITTEN : Nat := 0x700001
abbrev SIGNAL_CONTROL.RECORDS_REJECTED : Nat := 0x700002
abbrev SIGNAL_CONTROL.OUT_OF_ORDER : Nat := 0x700003
abbrev SIGNAL_CONTROL.SUPERSEDED : Nat := 0x700004
abbrev SIGNAL_CONTROL.FORCE_DISCARDS : Nat := 0x700005
abbrev SIGNAL_CONTROL.WRITE_LOST_COUNT : Nat := 0x700006
abbrev SIGNAL_CONTROL.LAST_WRITE_LOST_SLOT : Nat := 0x700007
abbrev SIGNAL_CONTROL.CLEAR_WRITE_LOST : Nat := 0x700008
abbrev SIGNAL_CONTROL.STALE_TRANSITIONS : Nat := 0x700009
abbrev SIGNAL_CONTROL.SHORT_ENTRIES : Nat := 0x70000A
abbrev SIGNAL_CONTROL.MALFORMED_USF : Nat := 0x70000B
abbrev SIGNAL_CONTROL.ENGINE_OVERFLOW : Nat := 0x70000C
abbrev SIGNAL_CONTROL.CE_RECEIVED : Nat := 0x70000D
abbrev SIGNAL_CONTROL.EVENTS : Nat := 0x70000E
abbrev SIGNAL_CONTROL.EVT0_EVENTS : Nat := 0x70000F
abbrev SIGNAL_CONTROL.EVT1_EVENTS : Nat := 0x700010
/-- `0x7010 SIGNAL_WINDOW`, a window (15_signal_image.md R380). -/
abbrev SIGNAL_WINDOW.INDEX : Nat := 0x7010
abbrev SIGNAL_WINDOW.SNAPSHOT : Nat := 0x701020
/-- `0x7011 SLOT_ATTR_WINDOW`, a window (15_signal_image.md R380). -/
abbrev SLOT_ATTR_WINDOW.INDEX : Nat := 0x7011
/-- `0x7020 EXTRACT_MAP_WINDOW`, a window (15_signal_image.md R380). -/
abbrev EXTRACT_MAP_WINDOW.INDEX : Nat := 0x7020
/-- `0x7021 EXTRACT_ENTRY_WINDOW`, a window (15_signal_image.md R380). -/
abbrev EXTRACT_ENTRY_WINDOW.INDEX : Nat := 0x7021
/-- `0x7030 PUB_LIST_WINDOW`, a window (15_signal_image.md R380). -/
abbrev PUB_LIST_WINDOW.INDEX : Nat := 0x7030
/-- `0x7031 PUB_TEMPLATE_WINDOW`, a window (15_signal_image.md R380). -/
abbrev PUB_TEMPLATE_WINDOW.INDEX : Nat := 0x7031
/-- `0x7032 PUB_ENTRY_WINDOW`, a window (15_signal_image.md R380). -/
abbrev PUB_ENTRY_WINDOW.INDEX : Nat := 0x7032
/-- `0x7033 PUB_STATE_WINDOW`, a window (15_signal_image.md R380). -/
abbrev PUB_STATE_WINDOW.INDEX : Nat := 0x7033
-- `0x7100+g CYCLE_GROUP`: 15_signal_image.md R382
abbrev CYCLE_GROUP.ENABLE (i : Nat) : Nat := (0x7100 + i) * 256 + 0x01
abbrev CYCLE_GROUP.BASE_TIME (i : Nat) : Nat := (0x7100 + i) * 256 + 0x02
abbrev CYCLE_GROUP.PERIOD_NS (i : Nat) : Nat := (0x7100 + i) * 256 + 0x03
abbrev CYCLE_GROUP.TRIGGER_OFFSET (i : Nat) : Nat := (0x7100 + i) * 256 + 0x04
abbrev CYCLE_GROUP.APPLY_TIMING (i : Nat) : Nat := (0x7100 + i) * 256 + 0x05
abbrev CYCLE_GROUP.PARTITION (i : Nat) : Nat := (0x7100 + i) * 256 + 0x06
abbrev CYCLE_GROUP.DOVETAIL (i : Nat) : Nat := (0x7100 + i) * 256 + 0x07
abbrev CYCLE_GROUP.CYCLE_NUMBER (i : Nat) : Nat := (0x7100 + i) * 256 + 0x08
abbrev CYCLE_GROUP.NEXT_START (i : Nat) : Nat := (0x7100 + i) * 256 + 0x09
abbrev CYCLE_GROUP.TIMING_PENDING (i : Nat) : Nat := (0x7100 + i) * 256 + 0x0A
abbrev CYCLE_GROUP.CYCLES_SKIPPED (i : Nat) : Nat := (0x7100 + i) * 256 + 0x0B
abbrev CYCLE_GROUP.EVENTS (i : Nat) : Nat := (0x7100 + i) * 256 + 0x0C
abbrev CYCLE_GROUP.EVT0_EVENTS (i : Nat) : Nat := (0x7100 + i) * 256 + 0x0D
abbrev CYCLE_GROUP.EVT1_EVENTS (i : Nat) : Nat := (0x7100 + i) * 256 + 0x0E
-- `0x8000 BENCH_DEVICE`: 16_benches.md R412
abbrev BENCH_DEVICE.SUBMIT : Nat := 0x800001
abbrev BENCH_DEVICE.SUBMITTED : Nat := 0x800002
abbrev BENCH_DEVICE.RING : Nat := 0x800003
abbrev BENCH_DEVICE.RING_HEAD : Nat := 0x800004
abbrev BENCH_DEVICE.JOBS_QUEUED : Nat := 0x800005
abbrev BENCH_DEVICE.DIVIDER : Nat := 0x800006
abbrev BENCH_DEVICE.CANCEL_CLASS : Nat := 0x800007
abbrev BENCH_DEVICE.TILE_DELAYS : Nat := 0x800008
abbrev BENCH_DEVICE.RAMP_ROTATION : Nat := 0x800009
-- `0x8010+k BARRIER`: 16_benches.md R413
abbrev BARRIER.PARTICIPANTS (i : Nat) : Nat := (0x8010 + i) * 256 + 0x01
abbrev BARRIER.TIMEOUT_US (i : Nat) : Nat := (0x8010 + i) * 256 + 0x02
abbrev BARRIER.ARRIVED (i : Nat) : Nat := (0x8010 + i) * 256 + 0x03
abbrev BARRIER.GENERATION (i : Nat) : Nat := (0x8010 + i) * 256 + 0x04
abbrev BARRIER.TIMEOUTS (i : Nat) : Nat := (0x8010 + i) * 256 + 0x05
abbrev BARRIER.LAST_RELEASE (i : Nat) : Nat := (0x8010 + i) * 256 + 0x06
-- `0x8100+b BENCH`: 16_benches.md R414
abbrev BENCH.STATE (i : Nat) : Nat := (0x8100 + i) * 256 + 0x01
abbrev BENCH.COMMAND (i : Nat) : Nat := (0x8100 + i) * 256 + 0x02
abbrev BENCH.START_ENTRY (i : Nat) : Nat := (0x8100 + i) * 256 + 0x03
abbrev BENCH.TRIGGER_GROUP (i : Nat) : Nat := (0x8100 + i) * 256 + 0x04
abbrev BENCH.TRIGGER_ENTRY (i : Nat) : Nat := (0x8100 + i) * 256 + 0x05
abbrev BENCH.JOB_CLASSES (i : Nat) : Nat := (0x8100 + i) * 256 + 0x06
abbrev BENCH.INT_ENTRY (i : Nat) : Nat := (0x8100 + i) * 256 + 0x07
abbrev BENCH.RUN_LIMIT_BC (i : Nat) : Nat := (0x8100 + i) * 256 + 0x08
abbrev BENCH.PC (i : Nat) : Nat := (0x8100 + i) * 256 + 0x09
abbrev BENCH.TRAP_CAUSE (i : Nat) : Nat := (0x8100 + i) * 256 + 0x0A
abbrev BENCH.TRAP_PC (i : Nat) : Nat := (0x8100 + i) * 256 + 0x0B
abbrev BENCH.CURRENT_JOB (i : Nat) : Nat := (0x8100 + i) * 256 + 0x0C
abbrev BENCH.TRIGGERS (i : Nat) : Nat := (0x8100 + i) * 256 + 0x0D
abbrev BENCH.TRIGGERS_MISSED (i : Nat) : Nat := (0x8100 + i) * 256 + 0x0E
abbrev BENCH.JOBS_DONE (i : Nat) : Nat := (0x8100 + i) * 256 + 0x0F
abbrev BENCH.USER_STATUS (i : Nat) : Nat := (0x8100 + i) * 256 + 0x10
abbrev BENCH.BC_RUN (i : Nat) : Nat := (0x8100 + i) * 256 + 0x11
abbrev BENCH.POOL_BUSY (i : Nat) : Nat := (0x8100 + i) * 256 + 0x12
abbrev BENCH.SIGNAL_DISCARDS (i : Nat) : Nat := (0x8100 + i) * 256 + 0x13
abbrev BENCH.EVENTS (i : Nat) : Nat := (0x8100 + i) * 256 + 0x14
abbrev BENCH.EVT0_EVENTS (i : Nat) : Nat := (0x8100 + i) * 256 + 0x15
abbrev BENCH.EVT1_EVENTS (i : Nat) : Nat := (0x8100 + i) * 256 + 0x16
abbrev BENCH.EVT2_EVENTS (i : Nat) : Nat := (0x8100 + i) * 256 + 0x17
abbrev BENCH.EVT3_EVENTS (i : Nat) : Nat := (0x8100 + i) * 256 + 0x18
abbrev BENCH.EVT4_EVENTS (i : Nat) : Nat := (0x8100 + i) * 256 + 0x19
/-- `0x8300 SCRATCH_WINDOW`, a window (16_benches.md R415). -/
abbrev SCRATCH_WINDOW.INDEX : Nat := 0x8300
/-- `0x8301 REGISTER_WINDOW`, a window (16_benches.md R415). -/
abbrev REGISTER_WINDOW.INDEX : Nat := 0x8301
-- `0x8C00+i JOB_RESULT`: 16_benches.md R416
abbrev JOB_RESULT.RESULT0 (i : Nat) : Nat := (0x8C00 + i) * 256 + 0x01
abbrev JOB_RESULT.RESULT1 (i : Nat) : Nat := (0x8C00 + i) * 256 + 0x02
abbrev JOB_RESULT.RESULT2 (i : Nat) : Nat := (0x8C00 + i) * 256 + 0x03
abbrev JOB_RESULT.RESULT3 (i : Nat) : Nat := (0x8C00 + i) * 256 + 0x04
abbrev JOB_RESULT.RESULT4 (i : Nat) : Nat := (0x8C00 + i) * 256 + 0x05
abbrev JOB_RESULT.RESULT5 (i : Nat) : Nat := (0x8C00 + i) * 256 + 0x06
abbrev JOB_RESULT.RESULT6 (i : Nat) : Nat := (0x8C00 + i) * 256 + 0x07
abbrev JOB_RESULT.RESULT7 (i : Nat) : Nat := (0x8C00 + i) * 256 + 0x08
abbrev JOB_RESULT.RESULT8 (i : Nat) : Nat := (0x8C00 + i) * 256 + 0x09
abbrev JOB_RESULT.RESULT9 (i : Nat) : Nat := (0x8C00 + i) * 256 + 0x0A
abbrev JOB_RESULT.RESULT10 (i : Nat) : Nat := (0x8C00 + i) * 256 + 0x0B
abbrev JOB_RESULT.RESULT11 (i : Nat) : Nat := (0x8C00 + i) * 256 + 0x0C
abbrev JOB_RESULT.RESULT12 (i : Nat) : Nat := (0x8C00 + i) * 256 + 0x0D
abbrev JOB_RESULT.RESULT13 (i : Nat) : Nat := (0x8C00 + i) * 256 + 0x0E
abbrev JOB_RESULT.RESULT14 (i : Nat) : Nat := (0x8C00 + i) * 256 + 0x0F
abbrev JOB_RESULT.RESULT15 (i : Nat) : Nat := (0x8C00 + i) * 256 + 0x10
-- `0x8E00 BENCH_UCODE`: 17_microcode.md R457
abbrev BENCH_UCODE.PACKAGE : Nat := 0x8E0001
abbrev BENCH_UCODE.COMMAND : Nat := 0x8E0002
abbrev BENCH_UCODE.LOAD_MODE : Nat := 0x8E0003
abbrev BENCH_UCODE.PERSIST : Nat := 0x8E0004
abbrev BENCH_UCODE.STATE : Nat := 0x8E0005
abbrev BENCH_UCODE.RECEIVED : Nat := 0x8E0006
abbrev BENCH_UCODE.PROGRESS : Nat := 0x8E0007
abbrev BENCH_UCODE.LAST_RESULT : Nat := 0x8E0008
abbrev BENCH_UCODE.LAST_DETAIL : Nat := 0x8E0009
abbrev BENCH_UCODE.LOADS : Nat := 0x8E000A
abbrev BENCH_UCODE.VERSION : Nat := 0x8E000B
abbrev BENCH_UCODE.DIGEST : Nat := 0x8E000C
abbrev BENCH_UCODE.KEY_SLOT : Nat := 0x8E000D
abbrev BENCH_UCODE.CORRECTED : Nat := 0x8E000E
abbrev BENCH_UCODE.UNCORRECTED : Nat := 0x8E000F
abbrev BENCH_UCODE.UNLOADED_HITS : Nat := 0x8E0010
abbrev BENCH_UCODE.EVENTS : Nat := 0x8E0011
abbrev BENCH_UCODE.EVT0_EVENTS : Nat := 0x8E0012
abbrev BENCH_UCODE.EVT1_EVENTS : Nat := 0x8E0013
abbrev BENCH_UCODE.EVT2_EVENTS : Nat := 0x8E0014
-- `0x8E10+y BAY_STORE`: 17_microcode.md R458
abbrev BAY_STORE.VERSION (i : Nat) : Nat := (0x8E10 + i) * 256 + 0x01
abbrev BAY_STORE.DIGEST (i : Nat) : Nat := (0x8E10 + i) * 256 + 0x02
abbrev BAY_STORE.KEY_SLOT (i : Nat) : Nat := (0x8E10 + i) * 256 + 0x03
abbrev BAY_STORE.LOADED_AT (i : Nat) : Nat := (0x8E10 + i) * 256 + 0x04
abbrev BAY_STORE.PERSISTED (i : Nat) : Nat := (0x8E10 + i) * 256 + 0x05
abbrev BAY_STORE.CORRECTED (i : Nat) : Nat := (0x8E10 + i) * 256 + 0x06
abbrev BAY_STORE.UNCORRECTED (i : Nat) : Nat := (0x8E10 + i) * 256 + 0x07
/-- `0x8E20 BENCH_MICROWORD_WINDOW`, a window (17_microcode.md R459). -/
abbrev BENCH_MICROWORD_WINDOW.INDEX : Nat := 0x8E20
/-- `0x8E21 BAY_NANOWORD_WINDOW`, a window (17_microcode.md R459). -/
abbrev BAY_NANOWORD_WINDOW.INDEX : Nat := 0x8E21
-- `0x9000 POOL_CONTROL`: 18_memory_banks.md R479
abbrev POOL_CONTROL.BANKS_FREE : Nat := 0x900001
abbrev POOL_CONTROL.BANKS_OWNED : Nat := 0x900002
abbrev POOL_CONTROL.BANKS_FAULTY : Nat := 0x900003
abbrev POOL_CONTROL.STATE_MAP : Nat := 0x900004
abbrev POOL_CONTROL.OWNER_MAP : Nat := 0x900005
/-- `0x9100 POOL_WINDOW`, a window (18_memory_banks.md R481). -/
abbrev POOL_WINDOW.INDEX : Nat := 0x9100
-- `0x9200+k POOL_BANK`: 18_memory_banks.md R480
abbrev POOL_BANK.STATE (i : Nat) : Nat := (0x9200 + i) * 256 + 0x01
abbrev POOL_BANK.OWNER (i : Nat) : Nat := (0x9200 + i) * 256 + 0x02
abbrev POOL_BANK.HANDOVER (i : Nat) : Nat := (0x9200 + i) * 256 + 0x03
abbrev POOL_BANK.PARTITION (i : Nat) : Nat := (0x9200 + i) * 256 + 0x04
abbrev POOL_BANK.RETURN_ON_END (i : Nat) : Nat := (0x9200 + i) * 256 + 0x05
abbrev POOL_BANK.RETAIN (i : Nat) : Nat := (0x9200 + i) * 256 + 0x06
abbrev POOL_BANK.SERVICE (i : Nat) : Nat := (0x9200 + i) * 256 + 0x07
abbrev POOL_BANK.CORRECTED (i : Nat) : Nat := (0x9200 + i) * 256 + 0x08
abbrev POOL_BANK.UNCORRECTED (i : Nat) : Nat := (0x9200 + i) * 256 + 0x09
abbrev POOL_BANK.PORT_B_BUSY (i : Nat) : Nat := (0x9200 + i) * 256 + 0x0A
abbrev POOL_BANK.SUSPECT (i : Nat) : Nat := (0x9200 + i) * 256 + 0x0B
abbrev POOL_BANK.HANDOVERS (i : Nat) : Nat := (0x9200 + i) * 256 + 0x0C
abbrev POOL_BANK.EVENTS (i : Nat) : Nat := (0x9200 + i) * 256 + 0x0D
abbrev POOL_BANK.EVT0_EVENTS (i : Nat) : Nat := (0x9200 + i) * 256 + 0x0E
abbrev POOL_BANK.EVT1_EVENTS (i : Nat) : Nat := (0x9200 + i) * 256 + 0x0F
-- `0x9400 SEALED_BANK`: 18_memory_banks.md R482
abbrev SEALED_BANK.STATE : Nat := 0x940001
abbrev SEALED_BANK.WIPE : Nat := 0x940002
abbrev SEALED_BANK.POLICY : Nat := 0x940003
abbrev SEALED_BANK.DIGEST_SELECT : Nat := 0x940004
abbrev SEALED_BANK.DIGEST : Nat := 0x940005
abbrev SEALED_BANK.COMMITS : Nat := 0x940006
/-- `0x9401 SEALED_WINDOW`, a window (18_memory_banks.md R470). -/
abbrev SEALED_WINDOW.INDEX : Nat := 0x9401
-- `0x9500 JIG`: 18_memory_banks.md R483
abbrev JIG.COMMAND : Nat := 0x950001
abbrev JIG.MODE : Nat := 0x950002
abbrev JIG.ALGORITHM : Nat := 0x950003
abbrev JIG.BACKGROUNDS : Nat := 0x950004
abbrev JIG.BANK_FIRST : Nat := 0x950005
abbrev JIG.BANK_COUNT : Nat := 0x950006
abbrev JIG.PACE_US : Nat := 0x950007
abbrev JIG.STATE : Nat := 0x950008
abbrev JIG.PROGRESS : Nat := 0x950009
abbrev JIG.SEGMENTS_TESTED : Nat := 0x95000A
abbrev JIG.SEGMENTS_INCOMPLETE : Nat := 0x95000B
abbrev JIG.ERRORS : Nat := 0x95000C
abbrev JIG.FIRST_ERROR : Nat := 0x95000D
abbrev JIG.INCOMPLETE_MAP : Nat := 0x95000E
abbrev JIG.STARTUP_ENABLE : Nat := 0x95000F
abbrev JIG.STARTUP_RESULT : Nat := 0x950010
abbrev JIG.EVENTS : Nat := 0x950011
abbrev JIG.EVT0_EVENTS : Nat := 0x950012
abbrev JIG.EVT1_EVENTS : Nat := 0x950013
abbrev JIG.EVT2_EVENTS : Nat := 0x950014
-- `0xA000 COUNTER_CONTROL`: 20_counters_telemetry.md R520
abbrev COUNTER_CONTROL.CATALOGUE_SIZE : Nat := 0xA00001
abbrev COUNTER_CONTROL.CHAIN_MAP : Nat := 0xA00002
abbrev COUNTER_CONTROL.OVERFLOWS : Nat := 0xA00003
abbrev COUNTER_CONTROL.CARRIES_DURING_WRITE : Nat := 0xA00004
abbrev COUNTER_CONTROL.EVENTS : Nat := 0xA00005
abbrev COUNTER_CONTROL.EVT0_EVENTS : Nat := 0xA00006
abbrev COUNTER_CONTROL.EVT1_EVENTS : Nat := 0xA00007
abbrev COUNTER_CONTROL.EVT2_EVENTS : Nat := 0xA00008
/-- `0xA100 COUNTER_WINDOW`, a window (20_counters_telemetry.md R507). -/
abbrev COUNTER_WINDOW.INDEX : Nat := 0xA100
-- `0xA200+g SNAPSHOT_GROUP`: 20_counters_telemetry.md R520
abbrev SNAPSHOT_GROUP.BASE (i : Nat) : Nat := (0xA200 + i) * 256 + 0x01
abbrev SNAPSHOT_GROUP.COUNT (i : Nat) : Nat := (0xA200 + i) * 256 + 0x02
abbrev SNAPSHOT_GROUP.TRIGGER (i : Nat) : Nat := (0xA200 + i) * 256 + 0x03
abbrev SNAPSHOT_GROUP.CYCLE_GROUP (i : Nat) : Nat := (0xA200 + i) * 256 + 0x04
abbrev SNAPSHOT_GROUP.SNAP (i : Nat) : Nat := (0xA200 + i) * 256 + 0x05
abbrev SNAPSHOT_GROUP.SNAP_TIME (i : Nat) : Nat := (0xA200 + i) * 256 + 0x06
abbrev SNAPSHOT_GROUP.SNAPS (i : Nat) : Nat := (0xA200 + i) * 256 + 0x07
abbrev SNAPSHOT_GROUP.EXPORT_STREAM (i : Nat) : Nat := (0xA200 + i) * 256 + 0x08
abbrev SNAPSHOT_GROUP.EXPORT_SKIPPED (i : Nat) : Nat := (0xA200 + i) * 256 + 0x09
abbrev SNAPSHOT_GROUP.EVENTS (i : Nat) : Nat := (0xA200 + i) * 256 + 0x0A
abbrev SNAPSHOT_GROUP.EVT0_EVENTS (i : Nat) : Nat := (0xA200 + i) * 256 + 0x0B
/-- `0xA300 QUEUE_HIST_WINDOW`, a window (20_counters_telemetry.md R512). -/
abbrev QUEUE_HIST_WINDOW.INDEX : Nat := 0xA300
abbrev QUEUE_HIST_WINDOW.SNAPSHOT : Nat := 0xA30020
abbrev QUEUE_HIST_WINDOW.CLEAR : Nat := 0xA30021
/-- `0xA310 RESV_HIST_WINDOW`, a window (20_counters_telemetry.md R512). -/
abbrev RESV_HIST_WINDOW.INDEX : Nat := 0xA310
abbrev RESV_HIST_WINDOW.SNAPSHOT : Nat := 0xA31020
abbrev RESV_HIST_WINDOW.CLEAR : Nat := 0xA31021
-- `0xA400 ENERGY_CONTROL`: 20_counters_telemetry.md R513
abbrev ENERGY_CONTROL.W_OCTET : Nat := 0xA40001
abbrev ENERGY_CONTROL.W_BENCH_BC : Nat := 0xA40002
abbrev ENERGY_CONTROL.W_TILE_BC : Nat := 0xA40003
abbrev ENERGY_CONTROL.IDLE_PERMILLE : Nat := 0xA40004
abbrev ENERGY_CONTROL.INTERVALS : Nat := 0xA40005
abbrev ENERGY_CONTROL.LAST_DE_UJ : Nat := 0xA40006
-- `0xA500+s TELEMETRY_STREAM`: 20_counters_telemetry.md R520
abbrev TELEMETRY_STREAM.ENABLE (i : Nat) : Nat := (0xA500 + i) * 256 + 0x01
abbrev TELEMETRY_STREAM.INJECT_PORT (i : Nat) : Nat := (0xA500 + i) * 256 + 0x02
abbrev TELEMETRY_STREAM.PARTITION (i : Nat) : Nat := (0xA500 + i) * 256 + 0x03
abbrev TELEMETRY_STREAM.SOURCE_ID (i : Nat) : Nat := (0xA500 + i) * 256 + 0x04
abbrev TELEMETRY_STREAM.TEMPLATE (i : Nat) : Nat := (0xA500 + i) * 256 + 0x05
abbrev TELEMETRY_STREAM.TEMPLATE_LEN (i : Nat) : Nat := (0xA500 + i) * 256 + 0x06
abbrev TELEMETRY_STREAM.TEMPLATE_L3 (i : Nat) : Nat := (0xA500 + i) * 256 + 0x07
abbrev TELEMETRY_STREAM.MAX_RECORDS (i : Nat) : Nat := (0xA500 + i) * 256 + 0x08
abbrev TELEMETRY_STREAM.FLUSH_US (i : Nat) : Nat := (0xA500 + i) * 256 + 0x09
abbrev TELEMETRY_STREAM.FRAMES (i : Nat) : Nat := (0xA500 + i) * 256 + 0x0A
abbrev TELEMETRY_STREAM.RECORDS (i : Nat) : Nat := (0xA500 + i) * 256 + 0x0B
abbrev TELEMETRY_STREAM.LOST (i : Nat) : Nat := (0xA500 + i) * 256 + 0x0C
-- `0xA580 STREAM_MAP`: 20_counters_telemetry.md R515
abbrev STREAM_MAP.STREAM_MAP : Nat := 0xA58001
-- `0xA600+w COUNTER_WATCH`: 20_counters_telemetry.md R520
abbrev COUNTER_WATCH.COUNTER (i : Nat) : Nat := (0xA600 + i) * 256 + 0x01
abbrev COUNTER_WATCH.PERIOD_US (i : Nat) : Nat := (0xA600 + i) * 256 + 0x02
abbrev COUNTER_WATCH.LIMIT (i : Nat) : Nat := (0xA600 + i) * 256 + 0x03
abbrev COUNTER_WATCH.LAST_INCREASE (i : Nat) : Nat := (0xA600 + i) * 256 + 0x04

end Reg

end Sys2Proof.Machine
end

