-- ==== Sys2Proof/Machine/Store.lean ====
section
/-!
DEFINITION. The sparse map that holds registers, table elements and memories: a list of keys and values in ONE
canonical form (keys strictly rising, no entry equal to what an unlisted key reads as), so that equal contents
are equal data. What an unlisted key reads as is given to each operation as `d`.
-/
namespace Sys2Proof.Machine

/-- A sparse map from keys to values. -/
abbrev SMap (α : Type) := List (Nat × α)

/-- The value at key `k`; an unlisted key reads as `d k`. -/
def SMap.get {α : Type} (d : Nat → α) : SMap α → Nat → α
  | [], k => d k
  | (k', v) :: t, k => if k = k' then v else SMap.get d t k

/-- The map with key `k` unlisted. -/
def SMap.unlist {α : Type} (m : SMap α) (k : Nat) : SMap α := m.filter (fun e => e.1 != k)

/-- The map with key `k`, which it does not list, listed with `v` before the first higher key. -/
def SMap.list {α : Type} (k : Nat) (v : α) : SMap α → SMap α
  | [] => [(k, v)]
  | e :: t => if k < e.1 then (k, v) :: e :: t else e :: SMap.list k v t

/-- The map with key `k` holding `v`, in canonical form when the map was. -/
def SMap.set {α : Type} [DecidableEq α] (d : Nat → α) (m : SMap α) (k : Nat) (v : α) : SMap α :=
  if v = d k then m.unlist k else SMap.list k v (m.unlist k)

/-- Every key of the map lies above `n`. -/
def SMap.above {α : Type} (n : Nat) : SMap α → Bool
  | [] => true
  | (k, _) :: _ => decide (n < k)

/-- The canonical form: keys strictly rising, no entry equal to what its key reads as unlisted. -/
def SMap.wf {α : Type} [DecidableEq α] (d : Nat → α) : SMap α → Bool
  | [] => true
  | (k, v) :: t => decide (v ≠ d k) && SMap.above k t && SMap.wf d t

/-- The listed keys and values from key `lo` up to, not including, `hi`. -/
def SMap.between {α : Type} (lo hi : Nat) (m : SMap α) : SMap α := m.filter (fun e => lo ≤ e.1 && e.1 < hi)

/-- The map without the keys from `lo` up to, not including, `hi`: they read as unlisted again. -/
def SMap.clearRange {α : Type} (lo hi : Nat) (m : SMap α) : SMap α := m.filter (fun e => e.1 < lo || hi ≤ e.1)

end Sys2Proof.Machine
end

