-- ==== Sys2Proof/Machine/IntCatalog.lean ====
section
/-!
DEFINITION. The interrupt source catalogue (R484, R485, R487, R518, R544, R567): which source numbers exist, and
the configuration element each has after a reset that clears configuration.
-/
namespace Sys2Proof.Machine.IntCat

/-- A run of sources: first number, how many, default target, default class, fixed, condition. -/
structure Group where
  lo : Nat
  count : Nat
  target : Nat
  cls : Nat
  fixed : Bool
  cond : Bool
deriving DecidableEq, Repr

/-- The tables of R484, R518, R544 and R567. -/
def groups : List Group := [
  ⟨0x0000, 512, 128, 5, false, false⟩, ⟨0x0200, 8, 128, 5, false, false⟩,
  ⟨0x0400, 514, 129, 5, false, false⟩, ⟨0x0800, 514, 128, 5, false, false⟩, ⟨0x0C00, 512, 128, 5, false, false⟩,
  ⟨0x1000, 643, 128, 5, false, false⟩, ⟨0x1300, 1, 128, 2, false, false⟩, ⟨0x1301, 1, 129, 5, false, false⟩,
  ⟨0x1400, 512, 128, 3, false, false⟩, ⟨0x1600, 1, 128, 3, false, false⟩,
  ⟨0x1800, 128, 129, 3, false, false⟩, ⟨0x1880, 128, 128, 3, false, false⟩, ⟨0x1900, 128, 0, 3, false, false⟩,
  ⟨0x1980, 1, 129, 0, false, false⟩, ⟨0x1981, 1, 128, 3, false, false⟩,
  ⟨0x1A00, 1, 128, 5, false, false⟩, ⟨0x1A40, 64, 128, 5, false, false⟩, ⟨0x1B00, 1, 128, 3, false, false⟩,
  ⟨0x1C00, 1, 129, 6, true, false⟩, ⟨0x1C01, 1, 128, 6, false, false⟩,
  ⟨0x1C40, 3, 129, 4, true, false⟩, ⟨0x1C43, 1, 129, 5, true, false⟩, ⟨0x1C44, 1, 129, 2, true, false⟩,
  ⟨0x1C80, 8, 129, 1, false, false⟩,
  ⟨0x1D00, 3, 129, 2, false, false⟩, ⟨0x1D03, 1, 128, 2, false, false⟩, ⟨0x1D04, 1, 129, 2, false, false⟩,
  ⟨0x1D08, 8, 129, 2, false, false⟩, ⟨0x1D10, 2, 128, 2, false, true⟩,
  ⟨0x1D80, 1, 129, 2, false, false⟩, ⟨0x1D81, 1, 129, 7, true, false⟩, ⟨0x1D82, 1, 128, 2, false, false⟩,
  ⟨0x1E00, 3, 128, 5, false, false⟩, ⟨0x1E10, 16, 128, 5, false, false⟩, ⟨0x1E40, 64, 128, 5, false, true⟩]

/-- The group of source `n`; none for a reserved source (R484, R485). -/
def groupOf (n : Nat) : Option Group := groups.find? (fun g => g.lo ≤ n && n < g.lo + g.count)

/-- Source `n` is reserved (R485). -/
def reserved (n : Nat) : Bool := (groupOf n).isNone

/-- Source `n` is a condition, not a pulse (R485). -/
def isCondition (n : Nat) : Bool := match groupOf n with | some g => g.cond | none => false

/-- Target, SENSE and ATTN_CLASS of source `n` are fixed (R484, R488). -/
def isFixed (n : Nat) : Bool := match groupOf n with | some g => g.fixed | none => false

/-- The configuration element of source `n` at reset (R487): ENABLE 1, SENSE RISING, PRIORITY 8 (FATAL 0); bench
software sources 0x1900 + b aim at bench b. A reserved source reads as 0 (R485). -/
def resetElement (n : Nat) : Nat :=
  match groupOf n with
  | none => 0
  | some g =>
    2 ^ 31 + (if g.fixed then 2 ^ 30 else 0) + 1 * 2 ^ 28 + (if g.cls = 7 then 0 else 8) * 2 ^ 24
      + g.cls * 2 ^ 21 + (if g.cond then 2 ^ 20 else 0)
      + (if g.lo = 0x1900 then n - 0x1900 else g.target)

/-- Sources of the island slice, which runs on VAUX in every mode (R486); those of H0, H4, HP0 and HP1 while in
STANDBY are added where the mode is known. -/
def islandSlice (n : Nat) : Bool :=
  (0x1C80 ≤ n && n < 0x1C88) || n == 0x1301 || n == 0x1B00 || n == 0x1981 || (0x1D00 ≤ n && n < 0x1E00)

end Sys2Proof.Machine.IntCat
end

