-- ==== Sys2Proof/Machine/Tables.lean ====
section
/-!
DEFINITION. The tables of State.tabs: everything the spec gives the machine that is numbered by an element and not
a sub-index of the dictionary, each with the rule that names it and what an element reads as when nothing has
written it. Element `i` of table `t` has key `t * 2^40 + i`.
-/
namespace Sys2Proof.Machine

/-- The key of element `i` of table `t`. -/
abbrev tabKey (t i : Nat) : Nat := t * 2 ^ 40 + i

namespace Tab

/-- Attention log entries, 16 octets each, entry q mod 64 (R120). -/
abbrev attnLog : Nat := 1
/-- Interrupt source configuration elements (R487). -/
abbrev intConf : Nat := 2
/-- Interrupt source state elements (R501). -/
abbrev intState : Nat := 3
/-- The counter catalogue: VALUE in bits 47:0, OVERFLOWED bit 62, CARRY_DURING_WRITE bit 61 (R502, R507). -/
abbrev counter : Nat := 4
/-- Pair j is chained (R505): CHAIN_MAP, one element a pair. -/
abbrev chained : Nat := 5
/-- Latched counter elements of snapshot group g, element g * 8192 + i (R509). -/
abbrev snapLatch : Nat := 6
/-- Window ranges of sessions (R112), element session * 65536 + window index: TARGET, BASE, COUNT. -/
abbrev winTarget : Nat := 7
abbrev winBase : Nat := 8
abbrev winCount : Nat := 9

/-- Fault log entries, 64 octets each, entry n mod 64 (R561); persisted entries m mod 16 (R562). -/
abbrev faultLog : Nat := 10
abbrev faultPersisted : Nat := 11

/-- Ledger terms (R343), element holder * 32 + term: holder 0 to 15 a partition, 16 the management reserve; term k is
sub-index k + 1 of PARTITION_LEDGER. -/
abbrev ledger : Nat := 12
/-- The ledgers latched by the last SNAPSHOT (R356), same elements; 17 * 32 + k for DEVICE_LEDGER. -/
abbrev ledgerSnap : Nat := 13
/-- Tally log entries, 32 octets each, entry s mod 16 (R356). -/
abbrev tallyLog : Nat := 14
/-- Reservation state, cause, D_MAX, DMIN, CELLS, DESC (R342); the return instant (R41). -/
abbrev resvState : Nat := 15
abbrev resvCause : Nat := 16
abbrev resvDmax : Nat := 17
abbrev resvDmin : Nat := 18
abbrev resvCells : Nat := 19
abbrev resvDesc : Nat := 20
abbrev resvReturn : Nat := 21
/-- The instant of the boundary at which a port resumed its active list (R41, R304), in 2^-48 ns. -/
abbrev gateResume : Nat := 22
/-- Bound and Dmin of a reservation by port, element n * 1024 + port (R342). -/
abbrev resvD : Nat := 23
abbrev resvDminPort : Nat := 24
/-- The instant at which the last copy from before the clearing of the causes left a reservation's queue on a port, element n * 1024 + port
(R41), in 2^-48 ns. -/
abbrev resvDrained : Nat := 25
/-- Policer buckets c and e in micro-octets, element i (R283), and the counts and BLOCKED of R287. -/
abbrev polC : Nat := 27
abbrev polE : Nat := 28
abbrev polGreen : Nat := 29
abbrev polYellow : Nat := 30
abbrev polRed : Nat := 31
abbrev polSdu : Nat := 32
abbrev polGate : Nat := 33
abbrev polBlocked : Nat := 34
/-- DRR visited mark of queue 16 p + q, and the queue that `cur` names, element p (R275). -/
abbrev drrVisited : Nat := 35
abbrev drrCur : Nat := 36
/-- PFC pause timer of class 8 p + i in quanta (R288). -/
abbrev pfcTimer : Nat := 37
/-- A drop total of an outcome and reason, element outcome * 256 + reason (R268). -/
abbrev dropTotal : Nat := 38
/-- Histogram bins, saturating, element (16 p + q) * 32 + k for queues (R510), n * 32 + k for reservations; the
counts of R511, element n * 4 + k. -/
abbrev queueHist : Nat := 39
abbrev resvHist : Nat := 40
abbrev resvCount : Nat := 41
/-- PTP_STEP holds until settled (R301, R41): element 0; WARM_RESET likewise: element 1; 3 reports outside the threshold in a row
while LOCKED, 4 the island tick of the entry to SETTLING or of the last step in it (R300), 5 PEER_HEALTHY_N reads low, 6 it has
been evaluated, 7 a SECONDARY waits for PARTNER_WAIT_MS, 8 a heartbeat is live (R339, R340), 9 the entry to LOCKED since the last
SETTLING, in ns, plus 1 (R304), 10 ROLE when the core last stopped or a RESTORE began (R340). -/
abbrev sticky : Nat := 42
/-- A queue whose reservations a fence holds under PFC_FAULT, element 16 p + q (R350). -/
abbrev queueFault : Nat := 43
/-- Dalzan credit group timed out, element 4 p + g (R183). -/
abbrev creditFault : Nat := 44
/-- PTP time at which the last cause of a reservation cleared (R41). -/
abbrev resvClear : Nat := 45
/-- The form of port `p` is recorded (R328). -/
abbrev resvPortNamed : Nat := 46
/-- Retire epoch + 1 of a RETIRING lookup element (R236): element kind * 2^24 + number. -/
abbrev retire : Nat := 47
/-- Dalzan cell counts of queue 16 p + q modulo 2^24 (R180, R182): SENT, the partner's RECEIVED and RETURNED as last
reported, this end's RECEIVED and RETURNED. -/
abbrev dzSent : Nat := 48
abbrev dzPartnerReceived : Nat := 49
abbrev dzPartnerReturned : Nat := 50
abbrev dzReceived : Nat := 51
abbrev dzReturned : Nat := 52
/-- Wire octets of queue 16 p + q in the energy interval (R513). -/
abbrev wireOctets : Nat := 53
/-- LOST of telemetry stream t since its last frame (R516), and the FIFO that its round robin takes next. -/
abbrev streamLost : Nat := 54
abbrev streamNext : Nat := 55
/-- 802.1CB recovery history of stream i (R336): bit k stands for RECOV_SEQ - k; bit 63 clear: reset, any number passes. -/
abbrev cbHistory : Nat := 56
/-- A CREDIT DCB of group g has arrived since the link start, element 4 p + g (R182). -/
abbrev dzArrived : Nat := 57
/-- PAUSE timer of host port h in quanta (R173). -/
abbrev hostPause : Nat := 58
/-- Microcode stores (R417, R418): word + 1, 0 UNLOADED. Pipelines: address; benches: bay * 2^14 or bay * 2^12 + address.
Vendor regions are loaded as one: element 0 for the pipelines, 1 + bay for a bay. -/
abbrev pipeMicro : Nat := 59
abbrev pipeNano : Nat := 60
abbrev bayMicro : Nat := 61
abbrev bayNano : Nat := 62
abbrev vendorLoaded : Nat := 63
/-- A word that error correction has lost in one store only, UNLOADED there (R455, R456): element of its store. -/
abbrev ucodeLost : Nat := 64
/-- A node 0 to 31 of the parse graph has been written, so that the standard node there is gone (R194). -/
abbrev nodeWritten : Nat := 65
/-- Pending stage-object writes, value + 1, by register key (R215). -/
abbrev stagePending : Nat := 66
/-- Postcard sampler of port p (R207). -/
abbrev sampler : Nat := 67
/-- RELEASE_SEQ of queue 16 p + q (R18). -/
abbrev releaseSeq : Nat := 68

/-- XOFF has been sent and not yet XON, host port h (R177). -/
abbrev hostXoff : Nat := 69
/-- Own grant in effect of Dalzan queue 16 p + q, set at a link start (R181, R183). -/
abbrev dzGrant : Nat := 70
/-- Bank switches that APPLY_STAGES has requested and that have not occurred (R209): element 0. -/
abbrev bankRequests : Nat := 71

/-- Island tick of the last accepted write of slot i (R362), and the mirror ranges that hold it dirty, one bit each (R341). -/
abbrev slotWritten : Nat := 72
abbrev mirrorDirty : Nat := 73
/-- Timing in effect of cycle group g (R372): BASE_TIME in ns, PERIOD_NS, TRIGGER_OFFSET in ticks. -/
abbrev cycBase : Nat := 74
abbrev cycPeriod : Nat := 75
abbrev cycTrigger : Nat := 76
/-- Next cycle start of group g and the start of the cycle in progress, in ns, plus 1; 0 none. -/
abbrev cycNext : Nat := 77
abbrev cycStart : Nat := 78
/-- S of a scheduled timing, in ns plus 1, and that timing, 4 g + k in the order above; and writes not yet applied (R373). -/
abbrev cycSwitch : Nat := 79
abbrev cycPending : Nat := 80
abbrev cycWritten : Nat := 81
/-- CYCLE_NUMBER plus 1 of the last cycle in which group g raised its trigger, or passed it, and list l ran, or was passed. -/
abbrev cycTriggered : Nat := 82
abbrev listRan : Nat := 83
/-- Frames built by list l and by mirror range m (R377, R341). -/
abbrev listSeq : Nat := 84
abbrev mirrorSeq : Nat := 85
/-- Latched slots of a session's SNAPSHOT, element session * 2^17 + slot, and that the session holds a latch (R380). -/
abbrev signalLatch : Nat := 86
abbrev signalLatched : Nat := 87
/-- Values in effect of mirror range m, plus 1, element 16 m + sub-index; 0 the default (R342). -/
abbrev mirrorRange : Nat := 88

/-- Fault signalling received on port p (R174): bit 0 local fault, bit 1 remote fault. -/
abbrev portFault : Nat := 89
/-- Own INIT_SEQ of Dalzan port p (R180); bits of its present link start: 0 the partner's INIT received, 1 the partner's ACK
received, 2 an INIT with ACK sent; and the GROUP of its next CREDIT DCB (R183). -/
abbrev dzSeq : Nat := 90
abbrev dzFlags : Nat := 91
abbrev dzGroup : Nat := 92
/-- Sub-index 1 to 10 of octet o in effect (R169), element 16 o + sub-index. -/
abbrev octetEffect : Nat := 93
/-- Lane n brings up with training, whatever TRAINING says (R157). -/
abbrev laneForce : Nat := 94
/-- Lockstep and power beyond their objects: 0 the divider before a raise (R537), 1 a self-run in progress (R539), 2 TXN and T of
the last COMMIT applied, plus 1 (R532), 3 the clamp is stretching (R536), 4 every sensor at most RELEASE_C for 1 s, 5 a throttle
request in force, 6 EMERGENCY_STALL (R540), 7 slowed by a self-run, 8 the energy of the samples of this interval in 0.1 nJ
(R529), 9 the root reference is lost (R522), 10 the power sequence under way (R543): 1 start-up, 2 wake, 3 to STANDBY, 4 to
RETENTION, and 11 its step. -/
abbrev power : Nat := 95
/-- VOUT_COMMAND of rail r in mV (R526), and that the rail is in COMM_FAULT (R527). -/
abbrev railCommand : Nat := 96
abbrev railFault : Nat := 97

/-- Bench registers (R385): s of bench b at 64 b + i; v at 32 b + i, lane j in bits 32 j + 31 to 32 j; t at 16 b + i, element
[r][c] in bits 32 (8 r + c) up; flags Z, N, C, V in bits 0 to 3 (R421). -/
abbrev benchS : Nat := 98
abbrev benchV : Nat := 99
abbrev benchT : Nat := 100
abbrev benchFlags : Nat := 101
/-- Control words that hold a value (R397), element 32 b + cw. -/
abbrev benchCw : Nat := 102
/-- Return stack, 16 entries a bench, and loop stack, 4 entries a bench (R423), and the send queue, 16 entries (R395): value
+ 1, bottom or oldest first, 0 empty. -/
abbrev benchRet : Nat := 103
abbrev benchLoop : Nat := 104
abbrev benchSend : Nat := 105
/-- A pending trigger of bench b (R400): CYCLE_NUMBER and instant in ns, plus 1. -/
abbrev benchTrigger : Nat := 106
/-- More of bench b, element 16 b + k: 0 RUN_LIMIT_BC of the program, 1 the dictionary write in progress plus 1 (R398), 2 the
reset in progress clears scratch (R410), 3 held by a load (R449), 4 job slot in RUNNING plus 1, 5 its tile starts are admitted
(R388), 6 barrier arrived at plus 1, 7 PLL cycles of a bench clock not yet complete (R386). -/
abbrev benchMisc : Nat := 107
/-- Tile start of tile 16 b + t that waits: the 4 ns step in which it asked, plus 1 (R388). -/
abbrev tileWait : Nat := 108
/-- The clamp: element 0 its present 4 ns step plus 1, element 1 the starts admitted in it. -/
abbrev clamp : Nat := 109
/-- Job slot s (R401 to R405): state 0 FREE, 1 QUEUED, 2 RUNNING, 3 COMPLETED; descriptor; its place in the order of
submission; result record of 256 octets. -/
abbrev jobState : Nat := 110
abbrev jobDesc : Nat := 111
abbrev jobOrder : Nat := 112
abbrev jobRecord : Nat := 113
/-- Completion ring, 8 octets an entry (R404). -/
abbrev jobRing : Nat := 114
/-- The jig's run (R475, R476): 0 the segment borrowed plus 1, 1 the next segment of the run, 2 the end of the run, 3 the order
number of the next yield, 4 a STOP is in force, 5 an error in the bank under destructive test, 6 MODE of the run, 7 the first
segment of the run; the segments that have yielded, with their order number plus 1, and their yields in a row. -/
abbrev jig : Nat := 115
abbrev jigYielded : Nat := 116
abbrev jigYields : Nat := 117
/-- The words that package loads and reloads have failed to restore (R453): element 0 the pipelines, 1 + y bay y. -/
abbrev reloadFailed : Nat := 118

/-- The loaders (R447 to R450), element 16 l + k, l 0 pipelines, 1 benches: 0 the life-cycle state at LOAD plus 1; 2, 3 the public
keys of slots 2 and 3 then, plus 1; 4 its place in the order of LOADs; 5 bank switches already started when it became PENDING; 6
the slot that verified it; and element 64 the number of LOADs so far. -/
abbrev loader : Nat := 119
/-- Microcode records in flash (R452): element 0 the pipelines, 1 + y bay y: package slot plus 1, 0 no valid record. -/
abbrev ucodeRecord : Nat := 120
/-- Fatal faults (R559, R560): 0 the action that waits, 1 WARM, 2 COLD, 3 RAILS_OFF; 1 HOLD after MGMT_DISCREPANCY; 2 the resets that
faults have caused since island reset, reset n at island time n mod 16 + 16, in ns. -/
abbrev fatal : Nat := 121
/-- The energy interval (R513): b the bench clocks of bench b in RUNNING or WAITING, 128 + b its tile clocks busy; 256 + k the value
in effect of sub-index k of ENERGY_CONTROL, plus 1, 0 the default; 300 the thousandths of idle energy carried. -/
abbrev interval : Nat := 122
/-- Histogram elements that a session's SNAPSHOT has latched (R512), element (2 session + window) * 2^16 + element, window 0 0xA300,
1 0xA310; and that it holds a latch, element 2 session + window. -/
abbrev histLatch : Nat := 123
abbrev histLatched : Nat := 124
/-- The unfinished export of snapshot group g (R517), element 8 g + k: 0 counters sent plus 1, 1 COUNT, 2 BASE, 3 the stream, 4 its
place in the order of latches; element 128 the exports so far; and the latched elements, g * 8192 + i. -/
abbrev exporting : Nat := 125
abbrev exportData : Nat := 126
/-- The value of the counter of watch w at the start of its period (R519). -/
abbrev watchStart : Nat := 127

/-- Marks in island ticks: element n the last request of session n (R92), 16 the last cold reset of the core (R118), 17 the start of
a start-up (R568). -/
abbrev marks : Nat := 128

/-- Pool banks that the last start-up run of the jig found FAULTY (R461). -/
abbrev startupBad : Nat := 129
/-- The configuration store and firmware imports beyond their objects (R106, R109, R566): 0 octets received of a configuration image, 1
of a firmware image; 2 the slot, plus 1, of the image that ACCEPT_IMPORT has made the newest; 3 LENGTH of the images in slots A and B,
3 and 4; 5 the CONFIG_GEN that a running SAVE captured, 6 the slot that the running command works on; 7 the island-firmware version that
a flash slot has pending; 8 the life-cycle state, 9 and 10 the keys of slots 0 and 1, plus 1, where ENROLLED, when ACCEPT_IMPORT started
(R133); 11 the slot, plus 1, of a firmware image imported since the island started (R546); 12 the recovery
loader runs (R549). -/
abbrev store : Nat := 130
/-- Seal and wipe (R129 to R133, R136): 0 a pair of the start has mismatched, 1 the LFSR, 2 mismatched pairs in a row, 3 matched pairs in a
row, 4 pairs of the start still to come, 5 the last four levels sampled, oldest highest, 6 the second half of the pair comes next, 7 a
wipe has been asked for, 8 by WIPE or DECOMMISSION, 9 the declaration due, 1 open, 2 closed, 10 the pair under way has mismatched, 11 the
seal has been declared closed since the presence window opened. -/
abbrev presence : Nat := 131
/-- Outcomes that wait for a sweep pass (R351, R352): element n mod 16 the discrepancy n plus 1 that awaits one; and the orphans held for
confirmation (R347), element quantity * 2^32 + unit: partition plus 1 in bits 15:0, the term's place in 47:16, its ledger in 79:48, what
was found above. -/
abbrev sweepWait : Nat := 132
abbrev orphanHeld : Nat := 133

/-- Sub-index i of ZDP_CONFIG as it was, plus 1, while a change waits for its reply to be sent (R92); 0 none waits. -/
abbrev zdpHeld : Nat := 134
/-- MODEL: element 0: the attention classes whose batch is due at the end of the command, digits of base 16, class + 1, the first
that became due highest (R490, R495). -/
abbrev attnDue : Nat := 135
/-- 0: the tag code + 1 of the reply to an ISLAND_RESET that waits; 1: that reply has been sent (R550). -/
abbrev islandReset : Nat := 136
/-- The island-clock instant at which the bypass frame on the wire of each host port ends, with its gap (R593). -/
abbrev bypassEnd : Nat := 137
/-- Ports whose pending list reached S while the time unit was SETTLING (R304). -/
abbrev gateWaits : Nat := 138
/-- Uncorrected codewords of the port of lowest lane n in an island millisecond (R155): the millisecond, plus 1, times 2^32, and the count. -/
abbrev uncorrected : Nat := 139
/-- Fill of the transmit elastic buffer of the port of lowest lane n, in shim units (R148). -/
abbrev elasticTx : Nat := 140
/-- What the far end's requests have made of tap i of lane n, in 32 bits, plus 1; 0 the written value; element 8 n + i (R150). -/
abbrev driverTap : Nat := 141
/-- Precoding negotiated on lane n (R142). -/
abbrev precoded : Nat := 142

/-- Live elements of the window at index `idx` (R110), element target * 2^24 + element. -/
abbrev win (idx : Nat) : Nat := 0x10000 + idx

/-- Pair `j` is an energy pair, chained and fixed (R502, R505). -/
def energyPair (j : Nat) : Bool :=
  (0x1A000 ≤ j && j < 0x1A040 && j % 4 < 3) || (0x1A040 ≤ j && j < 0x1A042) || (0x1A400 ≤ j && j < 0x1CC30)

/-- Reset fields of window elements that are not 0: PARTITION and PORT of an allow-list entry (R139), MIN_FRAME of a reservation
(R323), the attributes of a slot (R361), QUALITY and MIN_LEN of an extraction map (R368), INJECT_PORT of a list (R376). -/
def winDflt (idx _e : Nat) : Nat :=
  if idx = 0x0240 then 0xFF * 2 ^ 224 + 0xFFFF * 2 ^ 208
  else if idx = 0x6810 then 64 * 2 ^ 144
  else if idx = 0x7011 then 0xF * 2 ^ 124 + 0xFFFF * 2 ^ 96
  else if idx = 0x7020 then 0xC000 * 2 ^ 65 + 64 * 2 ^ 51
  else if idx = 0x7030 then 514 * 2 ^ 176
  else 0

end Tab

/-- What an unlisted element reads as. -/
def Tab.dflt (k : Nat) : Nat :=
  let t := k / 2 ^ 40
  let i := k % 2 ^ 40
  if t = Tab.intConf then IntCat.resetElement i
  else if t = Tab.intState then 0x0FF00000
  else if t = Tab.cycPeriod then 1000000
  else if t = Tab.chained then ofBool (Tab.energyPair i)
  else if 0x10000 ≤ t then Tab.winDflt (t - 0x10000) i
  else 0

end Sys2Proof.Machine
end

