-- ==== Sys2Proof/Machine/State.lean ====
section
/-!
DEFINITION. The state of the block: plain data, holding every piece of state that the spec names. Sub-indices of
the dictionary are in `regs`, numbered hardware tables in `tabs`, byte-addressed memories in `mem`; what is
neither has a field or a structure of its own.
-/
namespace Sys2Proof.Machine

/-- The reasons for which the block stops. None: every command the spec gives an effect goes on. -/
inductive Fault where
  /-- Raised by no meaning: the spec gives every command an effect or none, and never a stop of the block. Safe. -/
  | none
deriving DecidableEq, Repr

/-- The reasons for which a command has no meaning. -/
inductive Refusal where
  /-- A command whose meaning is not written, by its mnemonic: raised by its arm of Dispatch. Safe. -/
  | notModelled (mnemonic : String)
deriving DecidableEq, Repr

/-- The attention sequence, flags [31:24], the eight event counts, bit 24 first (R119); its log is Tab.attnLog. -/
structure Attention where
  seq : Nat
  flags : Nat
  counts : List Nat
deriving DecidableEq, Repr

/-- An entry of the replay cache (R73); a tag without one is EMPTY. -/
structure CacheEntry where
  session : Nat
  tag : Nat
  done : Bool
  seq : Nat
  op : Nat
  index : Nat
  sub : Nat
  result : Nat
  detail : Nat
  /-- DETAIL names a reservation (R81). -/
  resv : Bool
deriving DecidableEq, Repr

/-- A reply that has been formed (R61), with the carriage it goes back in (R57). -/
structure Reply where
  port : Nat
  addrKind : Nat
  addr : Nat
  mac : Nat
  vlans : List Nat
  service : Nat
  device : Nat
  op : Nat
  tag : Nat
  seq : Nat
  session : Nat
  result : Nat
  rflags : Nat
  status : Nat
  index : Nat
  sub : Nat
  detail : Nat
  data : Bytes
  /-- The tag is freed when the reply is handed to the MAC or the buffer (R70): it was in flight. -/
  frees : Bool
deriving DecidableEq, Repr

/-- A frame waiting in a bypass queue (R19): a ZDP reply, or an answer to ARP or neighbour solicitation (R58). -/
inductive BypassFrame where
  | zdp (r : Reply)
  | arp (v6 : Bool) (target mac sender : Nat)
deriving DecidableEq, Repr

/-- A parked watch (R87), its request kept for the reply. -/
structure Watch where
  q : Request
  seen : Nat
  timeoutMs : Nat
deriving DecidableEq, Repr

/-- The ZDP engine beyond its dictionary objects (R67 to R87). -/
structure Zdp where
  cache : List CacheEntry
  watches : List Watch
  /-- Bypass queues of HP0 and HP1, oldest first. -/
  bypass0 : List BypassFrame
  bypass1 : List BypassFrame
  /-- Replies waiting to be admitted through port 642 (R20, R57). -/
  mgmt : List Reply
  /-- CLOSE requests to be answered last (R71). -/
  closes : List Request
  /-- Sessionless requests in hand (R70). -/
  sessionless : Nat
  /-- ZDP requests that have reached the management controller through port 642, with their operation codes (R19, R55, R59). -/
  arrived : List (Nat × Request)
deriving DecidableEq, Repr

/-- A window that is not IDLE (R112): state 1 STAGING, 3 SCHEDULED. -/
structure Staging where
  window : Nat
  state : Nat
  owner : Nat
  target : Nat
  base : Nat
  count : Nat
  /-- Staged elements, rising. -/
  elems : SMap Nat
  /-- Staged values of the window's own sub-indices. -/
  own : SMap Nat
  /-- The staging lapsed with the presence window it was made in (R126 to R128). -/
  lapsed : Bool
  /-- WINDOW_SEQ of the presence window a protected staging is bound to. -/
  boundSeq : Nat
  /-- The instant a scheduled change waits for, in 2^-48 ns of PTP time. -/
  instant : Nat
deriving DecidableEq, Repr

/-- The clocks (R297, R118): PTP time in 2^-48 ns, the slew still to apply, and the island clock in 2.5 ns. -/
structure Clock where
  ptp : Nat
  slew : Int
  island : Nat
deriving DecidableEq, Repr

/-- What has left the block. -/
inductive Out where
  /-- The octets of a ZDP reply or an address answer at a host MAC, FCS excluded. -/
  | bypass (port : Nat) (octets : Bytes)
  /-- Octets of a frame on a port, FCS inverted (stomped) or not. -/
  | frame (port : Nat) (octets : Bytes) (stomped : Bool)
  /-- A MAC control frame or Dalzan control block. -/
  | control (port : Nat) (octets : Bytes)
deriving DecidableEq, Repr

/-- Where stage 6 sends a frame of a mirror range: PORT, QUEUE and RESV in effect when it was built (R341). -/
structure Mirror where
  port : Nat
  queue : Nat
  resv : Nat
deriving DecidableEq, Repr

/-- A frame in the device, from its first octet at a MAC or its presentation until its last cell is freed. -/
structure Frame where
  id : Nat
  srcPort : Nat
  /-- Ingress pipeline (R14, R17). -/
  pipe : Nat
  /-- Octets written so far, destination address first, FCS excluded (R244). -/
  octets : Bytes
  /-- 0 arriving, 1 parsed and decided, 2 admitted (R246, R250), 3 ended, with only its tail to come. -/
  stage : Nat
  /-- The tail has arrived. -/
  tailed : Bool
  /-- Drop reason of the tail, 0 for a correct FCS (R171, R266). -/
  tailReason : Nat
  /-- L, destination address to FCS, once the tail has arrived (R243). -/
  len : Nat
  /-- LEN_KNOWN at the parser's end (R196). -/
  lenKnown : Bool
  /-- Ingress timestamp in 2^-48 ns of PTP time (R305). -/
  ts : Nat
  /-- Header vector, 128 words (R192). -/
  hv : SMap Nat
  /-- Extractions performed, in order: frame octet, size, word, byte (R191, R204). -/
  extracts : List (Nat × Nat × Nat × Nat)
  /-- Octet + 1 at which the USF and the PTP header began (R367, R307), 0 none. -/
  usfAt : Nat
  ptpAt : Nat
  /-- The IP headers that the parse found, in order: the octet of each, and whether it is IPv6 (R194, R204). -/
  ips : List (Nat × Bool)
  /-- RTAG_OP as stage 9 set it (R336): in the vector from egress on (R195). -/
  rtagOp : Nat
  /-- Gates of ports with a gate engine at the ingress timestamp, which a stream gate follows (R318). -/
  gateAt : SMap Nat
  /-- The multicast group that stage 10 found (R260). -/
  group : Option Nat
  /-- The port's sampler chose the frame (R207). -/
  sampled : Bool
  /-- Destination ports in ascending order, after pruning (R262). -/
  dests : List Nat
  queue : Nat
  /-- Drop reason + 1 decided by the pipeline, 0 when it sets no DROP (R199). -/
  drop : Nat
  /-- Partition charged; 16 for port 642 (R29, R247). -/
  part : Nat
  /-- Pool: 0 none, 1 management, 2 Dalzan, 3 reservation, 4 partition (R247). -/
  pool : Nat
  /-- The charge n of R245, which depths count. -/
  charge : Nat
  /-- Cells charged to the pool's own reserve, and to the shared pool (R245). -/
  resCells : Nat
  shCells : Nat
  /-- Admitted copies that have not left or been dropped (R261). -/
  refs : Nat
  /-- Admission is final (R246). -/
  final : Bool
  /-- Refused copies, port and reason, counted at finality (R246). -/
  refused : List (Nat × Nat)
  /-- Reservation covered by, after stage 6, with the record version of its lookup (R325, R335). -/
  resv : Option (Nat × Nat)
  /-- Metered green: conforms (R283); carries what R37 asks at ingress. -/
  green : Bool
  /-- What R284 gives back at the tail: policer, bucket (0 none, 1 committed, 2 excess), M. -/
  paid : Nat × Nat × Nat
  /-- MAX_SDU of its policer when it was metered at unknown length, 0 none (R284). -/
  maxSdu : Nat
  /-- PFC class of the ingress port (R289). -/
  pfcClass : Nat
  /-- Dalzan credit queue of the sender (R180). -/
  creditQueue : Nat
  /-- Lookup epoch (R235, R237). -/
  epoch : Nat
  /-- A signal handoff was requested: kind and extraction map (R201). -/
  handoff : Nat × Nat
  /-- The sequence number stage 9 passed provisionally: stream + 1, number (R337). -/
  cbSeq : Nat × Nat
  /-- Postcard requested at ingress (R206, R207). -/
  postcard : Bool
  /-- Sent by the management controller: holds a management tag (R354). -/
  mgmtTag : Bool
  /-- Built by the mirror engine: where it goes (R341). -/
  mirror : Option Mirror
  /-- The tag that the ZDP reply it carries frees (R70): 0 none, 1 a sessionless request, else session * 4096 + tag + 2. -/
  reply : Nat
deriving DecidableEq, Repr

/-- A copy: a descriptor in an egress queue, or in transmission (R243). -/
structure Copy where
  id : Nat
  frame : Nat
  port : Nat
  queue : Nat
  /-- Pool of its frame (R247). -/
  pool : Nat
  /-- The copy is in the reserved list of its queue (R326). -/
  reserved : Bool
  ecn : Bool
  cutThrough : Bool
  /-- 0 queued, 1 selected, 2 in transmission. -/
  phase : Nat
  /-- Queue depth in cells before it was admitted (R265, R514). -/
  depth : Nat
  /-- What its selection charged: DRR deficit, queue shaper and port shaper, in octets (R274 to R278). -/
  drrCharge : Nat
  /-- The deficit that its queue lost because the selection emptied it (R274, R275). -/
  drrLeft : Nat
  qCharge : Nat
  pCharge : Nat
  /-- Length was known at its selection (R256, R315). -/
  lenKnown : Bool
  /-- The start instant that its selection fixed, its egress timestamp, in 2^-48 ns (R274, R305, R314). -/
  start : Nat
  /-- The octets that the egress stages made of the frame's first `used` octets. -/
  sent : Bytes
  used : Nat
  /-- The conditions of R37 held when it started, integrity aside. -/
  covered : Bool
  postcard : Bool
  /-- Its queue has emptied since its selection (R276). -/
  emptied : Bool
deriving DecidableEq, Repr

/-- A signal handoff whose frame ended with a correct FCS, waiting for the signal engine (R201, R371). -/
structure Handoff where
  pipe : Nat
  usf : Bool
  map : Nat
  srcPort : Nat
  ts : Nat
  octets : Bytes
  usfAt : Nat
deriving DecidableEq, Repr

/-- A frame that an internal source has built, waiting to be presented on its port (R379, R395, R516). -/
structure Built where
  port : Nat
  part : Nat
  /-- 0 bench, 1 publication list, 2 mirror range, 3 telemetry stream; and its number. -/
  kind : Nat
  num : Nat
  octets : Bytes
  /-- Where a mirror frame goes (R341). -/
  mirror : Option Mirror
deriving DecidableEq, Repr

/-- A fence (R350, R351): state 1 FENCING, 2 RECLAIMING, 3 HELD, 4 WAITING; `log` the discrepancy it answers. -/
structure Fence where
  holder : Nat
  state : Nat
  log : Option Nat
  /-- Units its reclaim has released. -/
  units : Nat
deriving DecidableEq, Repr

/-- An earlier version of a changed or withdrawn reservation, kept until it has drained (R43, R335): at an epoch,
or, with none, when no frame carries it. -/
structure OldResv where
  n : Nat
  record : Nat
  cells : Nat
  desc : Nat
  epoch : Option Nat
deriving DecidableEq, Repr

/-- A bound that a committed change replaced (R42): what frames with an ingress timestamp before `until'`, in 2^-48 ns, are held to. -/
structure OldBound where
  n : Nat
  port : Nat
  d : Nat
  until' : Nat
deriving DecidableEq, Repr

/-- A gate control list (R309): BASE_TIME in ns, CYCLE_NS and its entries (GATES, INTERVAL_NS). -/
structure GateList where
  base : Nat
  cycle : Nat
  entries : List (Nat × Nat)
deriving DecidableEq, Repr

/-- What a port's gate engine holds (R309 to R312): the active list, and a pending change to a list or to none
with its swap instant S in ns. -/
structure GatePort where
  active : Option GateList
  pending : Option (Option GateList × Nat)
deriving DecidableEq, Repr

/-- The states of the test access port's controller (R586, IEEE 1149.1). -/
inductive TapState where
  | testLogicReset | runTestIdle | selectDr | captureDr | shiftDr | exit1Dr | pauseDr | exit2Dr | updateDr
  | selectIr | captureIr | shiftIr | exit1Ir | pauseIr | exit2Ir | updateIr
deriving DecidableEq, Repr

/-- The instructions of the test access port (R586). -/
inductive TapInstr where
  | bypass | idcode | sample | extest | acExtest
deriving DecidableEq, Repr

/-- The test access port (R586): its controller, the instruction in force, the two shift registers, least significant bit out first, and
the latches of the boundary register. -/
structure Tap where
  ctl : TapState
  instr : TapInstr
  ir : Nat
  dr : Nat
  boundary : Nat
deriving DecidableEq, Repr

/-- The test access port in reset: IDCODE is the instruction in force. -/
def Tap.idle : Tap := ⟨.testLogicReset, .idcode, 0, 0, 0⟩

/-- The state of the block. -/
structure State where
  /-- Dictionary sub-indices by key (R6). -/
  regs : SMap Nat
  /-- Hardware tables by key. -/
  tabs : SMap Nat
  /-- Byte-addressed memories. -/
  mem : SMap (BitVec 8)
  attn : Attention
  zdp : Zdp
  stagings : List Staging
  clock : Clock
  frames : List Frame
  copies : List Copy
  /-- Numbers of the next frame and the next copy. -/
  nextFrame : Nat
  nextCopy : Nat
  /-- Active DRR queues of each port, in the order in which they became non-empty (R275). -/
  drr : SMap (List Nat)
  fences : List Fence
  oldResv : List OldResv
  /-- Bounds that were in force before a change, in the order of the changes, while frames from before it are in the device. -/
  oldBounds : List OldBound
  /-- Gate engines of the ports. -/
  gates : SMap GatePort
  /-- Signal-engine queues, oldest first. -/
  handoffs : List Handoff
  /-- Built frames waiting for their port, oldest first. -/
  built : List Built
  /-- The inactive configuration bank (R209): the listed registers and table elements of the stage objects, the parse graph
  and the stage tables, by key. -/
  inactive : SMap Nat
  /-- Postcard FIFOs of ingress pipelines 0 to 63 and egress pipelines, 64 + e (R208), and the record buffers of the
  telemetry streams, 128 + t (R515): records of 48 octets, oldest first. -/
  postcards : SMap (List Nat)
  out : List Out
  /-- The test access port (R586). -/
  tap : Tap
  /-- MODEL: how many fresh free values have been drawn. -/
  freeCtr : Nat
  /-- The commands that wait, first in first out. -/
  pending : List Instr
deriving DecidableEq, Repr

/-- The machine right after an island reset (R1, R551): MODE STANDBY, every register, table element and byte at what
it reads as unlisted, which is the Default column of its table (log entry 2), nothing in hand anywhere. -/
def State.reset : State :=
  { regs := [], tabs := [], mem := [],
    attn := { seq := 0, flags := 0, counts := [0, 0, 0, 0, 0, 0, 0, 0] },
    zdp := { cache := [], watches := [], bypass0 := [], bypass1 := [], mgmt := [], closes := [], sessionless := 0, arrived := [] },
    stagings := [], clock := { ptp := 0, slew := 0, island := 0 }, frames := [], copies := [], nextFrame := 0,
    nextCopy := 0, drr := [], fences := [], oldResv := [], oldBounds := [], gates := [],
    handoffs := [], built := [], inactive := [], postcards := [], out := [], tap := Tap.idle, freeCtr := 0, pending := [] }

end Sys2Proof.Machine
end

