-- ==== Sys2Proof/Machine/Ops.lean ====
section
/-!
DEFINITION. The named operations over registers, tables and memory, and those that every chapter shares: time
stamps, flags and event counts, counters, interrupt triggers, host attention, ZDP replies and the fault log.
-/
namespace Sys2Proof.Machine

/-! ### Registers, tables, memory -/

/-- The object at index `idx`, which may be any of its instances (R93, R94). -/
def Dict.lookup (idx : Nat) : Option Obj := Dict.objects.find? (fun o => o.idx ≤ idx && idx < o.idx + o.count)

/-- The row of sub-index `sub` of an object. -/
def Obj.row (o : Obj) (sub : Nat) : Option Sub := o.subs.find? (fun r => r.sub == sub)

/-- Defaults that differ between instances of one object, or that its table gives in words (R443, R241); and those that depend on the
device: flash slot A holds firmware 1.0.0, which the island runs (log entry 2). -/
def Dict.special (k : Nat) : Option Nat :=
  let i := k / 256
  if k = Reg.ZDP_CONFIG.HP1_MAC then some 1
  else if k = Reg.IDENTITY.ISLAND_FW_VERSION ∨ k = Reg.FIRMWARE.SLOT_A_VERSION then some 0x01000000
  else if 0x1400 + 512 ≤ i ∧ i ≤ 0x1400 + 642 then
    let p := i - 0x1400
    if k % 256 = 0x01 then some (if p ≤ 513 then 3 else if p ≤ 641 then 4 else 5)
    else if k % 256 = 0x02 then some (if p ≤ 513 then 1 else 0)
    else if k % 256 = 0x03 then some (if p ≤ 513 then 1 else 9)
    else if k % 256 = 0x05 then some (if p ≤ 513 then 1 else 3)
    else if k % 256 = 0x08 then some (if p ≤ 513 then 9216 else 1522)
    else none
  else if 0x9200 ≤ i ∧ i < 0x9400 then
    if 0x9200 + 510 ≤ i then
      (if k % 256 = 0x01 then some 6 else if k % 256 = 0x02 then some 0x81 else if k % 256 = 0x04 then some 0xFF else none)
    else none
  else if ((0x2410 ≤ i ∧ i < 0x241C) ∨ (0x2420 ≤ i ∧ i < 0x2426)) ∧ k % 256 = 5 then some 0x3800
  else if k = Reg.HASH_PROFILE.SELECTORS 0 then
    some (ofBE (([29, 30] ++ (List.range 8).map (31 + ·)).flatMap (fun w => toBE 4 (w * 2 ^ 16 + 32))
      ++ toBE 4 (39 * 2 ^ 16 + 8) ++ toBE 4 (40 * 2 ^ 16 + 32) ++ toBE 4 (28 * 2 ^ 16 + 16) ++ toBE 4 (8 * 2 ^ 16 + 12)
      ++ toBE 4 (9 * 2 ^ 16 + 12) ++ toBE 4 0))
  else if k = Reg.EM_PROFILE.SELECTORS 0 then
    some (ofBE (toBE 4 (8 * 2 ^ 16 + 12) ++ toBE 4 (24 * 2 ^ 16 + 16) ++ toBE 4 (25 * 2 ^ 16 + 32) ++ toBE 20 0))
  else if k = Reg.VOLTAGE.TABLE then some ((List.range 16).foldl (fun v _ => v * 2 ^ 16 + 800) 0)
  else if k = Reg.VOLTAGE.VMIN then some ((List.range 4).foldl (fun v _ => v * 2 ^ 16 + 640) 0)
  else if 0x0220 ≤ i ∧ i < 0x0224 ∧ k % 256 = 1 then some (if i < 0x0222 then 0 else 1)
  else none

/-- What a register reads as when nothing has written it: the Default column of its object's table. -/
def Dict.dflt (k : Nat) : Nat :=
  match Dict.special k with
  | some v => v
  | none =>
    match Dict.lookup (k / 256) with
    | none => 0
    | some o => match o.row (k % 256) with | none => 0 | some r => r.dflt

/-- The value of the register with key `k`. -/
def State.reg (s : State) (k : Nat) : Nat := s.regs.get Dict.dflt k

/-- The state with the register of key `k` holding `v`. -/
def State.setReg (s : State) (k v : Nat) : State := { s with regs := s.regs.set Dict.dflt k v }

/-- A register back at its default. -/
def State.resetReg (s : State) (k : Nat) : State := s.setReg k (Dict.dflt k)

/-- Element `i` of table `t`. -/
def State.tab (s : State) (t i : Nat) : Nat := s.tabs.get Tab.dflt (tabKey t i)

/-- The state with element `i` of table `t` holding `v`. -/
def State.setTab (s : State) (t i v : Nat) : State := { s with tabs := s.tabs.set Tab.dflt (tabKey t i) v }

/-- Every element of table `t` back at what it reads as unlisted. -/
def State.clearTab (s : State) (t : Nat) : State :=
  { s with tabs := SMap.clearRange (tabKey t 0) (tabKey (t + 1) 0) s.tabs }

/-- Elements `lo` to `hi - 1` of table `t`, as far as a table goes, back at what they read as unlisted. -/
def State.clearTabRange (s : State) (t lo hi : Nat) : State :=
  { s with tabs := SMap.clearRange (tabKey t (min lo (2 ^ 40))) (tabKey t (min hi (2 ^ 40))) s.tabs }

/-- The listed elements of table `t`, rising. -/
def State.tabList (s : State) (t : Nat) : List (Nat × Nat) :=
  (SMap.between (tabKey t 0) (tabKey (t + 1) 0) s.tabs).map (fun e => (e.1 - tabKey t 0, e.2))

/-- What a byte that nothing has written reads as: the memories are written with 0 at start-up (R551 step 3). -/
def memDflt (_ : Nat) : BitVec 8 := 0

/-- One byte of memory. -/
def State.byte (s : State) (a : Nat) : Nat := (s.mem.get memDflt a).toNat

/-- The state with one byte of memory written. -/
def State.setByte (s : State) (a v : Nat) : State := { s with mem := s.mem.set memDflt a (BitVec.ofNat 8 v) }

/-- `n` bytes from address `a`. -/
def State.bytesFrom (s : State) (a : Nat) : Nat → Bytes
  | 0 => []
  | n + 1 => s.byte a :: s.bytesFrom (a + 1) n

/-- The state with bytes written from address `a` on. -/
def State.setBytes (s : State) (a : Nat) : Bytes → State
  | [] => s
  | b :: bs => (s.setByte a b).setBytes (a + 1) bs

/-- Every byte from `lo` up to, not including, `hi` back at 0. -/
def State.zeroBytes (s : State) (lo hi : Nat) : State := { s with mem := SMap.clearRange lo hi s.mem }

/-- A register of `w` bits increased by `n`, modulo 2 to the `w`. -/
def State.bump (s : State) (k w : Nat) (n : Nat := 1) : State := s.setReg k ((s.reg k + n) % 2 ^ w)

/-- A saturating register of `w` bits increased by `n`. -/
def State.bumpSat (s : State) (k w : Nat) (n : Nat := 1) : State := s.setReg k (min (s.reg k + n) (2 ^ w - 1))

/-- A register decreased by `n`, not below 0. -/
def State.drop (s : State) (k : Nat) (n : Nat := 1) : State := s.setReg k (s.reg k - n)

/-- A state changed by `f` for every element of a list, in order. -/
def State.forAll {α : Type} (s : State) (l : List α) (f : State → α → State) : State := l.foldl f s

/-- A state changed by `f` where `c` holds. -/
def State.when (s : State) (c : Bool) (f : State → State) : State := if c then f s else s

/-- What leaves the block is appended to what has left. -/
def State.emit (s : State) (o : Out) : State := { s with out := s.out ++ [o] }

/-- A fresh free value below `n`: what the spec leaves open (assumption log entry 1). -/
def State.freeBelow (s : State) (n : Nat) : Nat := Config.freeValue s.freeCtr % n

/-- The state after a fresh free value has been drawn. -/
def State.drew (s : State) : State := { s with freeCtr := s.freeCtr + 1 }

/-! ### Mode and time -/

/-- MODE of the status word (R84): 0 STANDBY, 1 STARTING, 2 OPERATIONAL, 3 DEGRADED, 4 WARM_RESET. -/
def State.mode (s : State) : Nat := s.reg Reg.DEVICE_STATUS.MODE

/-- VDD_CORE is up and the core runs: POWER_STATE is ON (R542), from the arrival of the rails until they are stepped down. -/
def State.coreOn (s : State) : Bool := s.reg Reg.POWER_STATE.STATE == 3

/-- The device forwards: OPERATIONAL or DEGRADED (R564), and the core has not been stopped for a step of the rails (R555). -/
def State.running (s : State) : Bool := (s.mode == 2 || s.mode == 3) && s.coreOn

/-- The time unit is in its locked state: LOCKED or HOLDOVER (R300). -/
def State.timeLocked (s : State) : Bool := s.reg Reg.TIME_UNIT.STATE == 2 || s.reg Reg.TIME_UNIT.STATE == 3

/-- 2^-48 ns in one nanosecond (R297). -/
abbrev nsUnit : Nat := 2 ^ 48

/-- PTP time in whole nanoseconds. -/
def State.ptpNs (s : State) : Nat := s.clock.ptp / nsUnit

/-- A TIME80 (R97) of nanoseconds: seconds above 32 bits of nanoseconds. -/
def time80 (ns : Nat) : Nat := (ns / 1000000000) * 2 ^ 32 + ns % 1000000000

/-- The nanoseconds of a TIME80. -/
def time80Ns (t : Nat) : Nat := (t / 2 ^ 32) * 1000000000 + t % 2 ^ 32

/-- Island time in ns since island reset. -/
def State.islandNs (s : State) : Nat := s.clock.island * 5 / 2

/-- The TIME80 that the device records for an event now (R98): PTP time where the time unit is locked, else island
time with bit 47 of the seconds set. -/
def State.stamp (s : State) : Nat :=
  if s.timeLocked then time80 s.ptpNs else 2 ^ 79 + time80 s.islandNs

/-- The TIME80 of PTP time, whatever the state of the time unit. -/
def State.ptpStamp (s : State) : Nat := time80 s.ptpNs

/-! ### Flags (R101, R102) -/

/-- Hardware sets flag `i` of the W1C sub-index with key `k`: the flag is 1 and its event count, which follows the
flags in ascending bit order, goes up by one. -/
def State.flag (s : State) (k i : Nat) : State := (s.setReg k (setBit (s.reg k) i true)).bump (k + 1 + i) 32

/-! ### ZDP replies (R57, R61, R84) -/

/-- The status word (R84). -/
def State.statusWord (s : State) : Nat :=
  bits s.attn.flags 31 24 * 2 ^ 24 + bits (s.reg Reg.LIFECYCLE.STATE) 1 0 * 2 ^ 22
    + bits (s.reg Reg.PRESENCE.WINDOW_OPEN) 0 0 * 2 ^ 21 + bits (s.reg Reg.SEAL.INTACT) 0 0 * 2 ^ 20
    + bits s.mode 3 0 * 2 ^ 16 + s.attn.seq % 2 ^ 16

/-- A reply that has been formed waits where its request came in: a host port's bypass queue, or port 642. -/
def State.enqueueReply (s : State) (r : Reply) : State :=
  if r.port = 512 then { s with zdp := { s.zdp with bypass0 := s.zdp.bypass0 ++ [.zdp r] } }
  else if r.port = 513 then { s with zdp := { s.zdp with bypass1 := s.zdp.bypass1 ++ [.zdp r] } }
  else { s with zdp := { s.zdp with mgmt := s.zdp.mgmt ++ [r] } }

/-- A reply to request `q` with the operation code `op` (R61); the status word is sampled now (R85). -/
def State.formReply (s : State) (q : Request) (op result rflags detail : Nat) (data : Bytes) (session : Nat)
    (frees : Bool) : Reply :=
  { port := q.port, addrKind := q.addrKind, addr := q.addr, mac := q.mac, vlans := q.vlans, service := q.service, device := q.device, op := op + 128,
    tag := q.tag, seq := q.seq, session := session, result := result, rflags := rflags, status := s.statusWord,
    index := q.index, sub := q.sub, detail := detail, data := data, frees := frees }

/-- The reply is formed and queued. A BUSY_RETRY counts in BUSY_REPLIES (R92). -/
def State.reply (s : State) (q : Request) (op result rflags detail : Nat) (data : Bytes) (session : Nat)
    (frees : Bool) : State :=
  let s := s.when (result == 0x02) (·.bump Reg.ZDP_STATISTICS.BUSY_REPLIES 64)
  s.enqueueReply (s.formReply q op result rflags detail data session frees)

/-- The tag that a reply frees when it has been handed over (R70), as a frame carries it. -/
def Reply.tagCode (r : Reply) : Nat :=
  if !r.frees then 0 else if r.op = 0x89 ∨ r.session = 0xFFFF then 1 else r.session * 4096 + r.tag + 2

/-- The entry of the replay cache is no longer in flight. -/
def CacheEntry.release (code : Nat) (e : CacheEntry) : CacheEntry :=
  if e.session * 4096 + e.tag + 2 = code then { e with done := true } else e

/-- A reply has been handed to the MAC or the buffer: its tag is in flight no more (R70). -/
def State.freeTag (s : State) (code : Nat) : State :=
  if code = 0 then s
  else if code = 1 then { s with zdp := { s.zdp with sessionless := s.zdp.sessionless - 1 } }
  else ({ s with zdp := { s.zdp with cache := s.zdp.cache.map (CacheEntry.release code) } } : State).when
    (s.tab Tab.islandReset 0 == code + 1) (·.setTab Tab.islandReset 1 1)

/-- The setting of ZDP_CONFIG in effect: a change waits until the reply to the write that makes it has been sent (R92). -/
def State.zdpSetting (s : State) (sub : Nat) : Nat :=
  match s.tab Tab.zdpHeld sub with
  | 0 => s.reg (regKey 0x0100 sub)
  | v + 1 => v

/-- The reply is to a write of ZDP_CONFIG whose effect waits for it. -/
def Reply.holds (r : Reply) (sub : Nat) : Bool := (r.op == 0x82 || r.op == 0x84) && r.index == 0x0100 && r.sub == sub

/-- Replies that have been formed and not sent. -/
def State.waitingReplies (s : State) : List Reply :=
  (s.zdp.bypass0 ++ s.zdp.bypass1).filterMap (fun f => match f with | .zdp r => some r | .arp .. => none) ++ s.zdp.mgmt

/-- A reply has been sent, and has left its queue: the setting that waited for it takes effect. -/
def State.replySent (s : State) (r : Reply) : State :=
  s.when (r.holds r.sub && !s.waitingReplies.any (fun x => x.holds r.sub)) (·.setTab Tab.zdpHeld (r.sub % 256) 0)

/-- A parked watch is answered OK with the given flags (R71, R87) and leaves the list. -/
def State.answerWatch (s : State) (w : Watch) (rflags : Nat) : State :=
  let s := { s with zdp := { s.zdp with watches := s.zdp.watches.erase w } }
  let s := s.drop Reg.ZDP_STATISTICS.WATCHES_PARKED
  s.reply w.q 0x06 0x00 rflags 0 [] w.q.session true

/-- The oldest parked watch of session `n`. -/
def State.oldestWatch (s : State) (n : Nat) : Option Watch := s.zdp.watches.find? (fun w => w.q.session == n)

/-- At an advance of ATTN_SEQ the oldest parked watch of every session that has one is answered (R87). -/
def State.answerWatches (s : State) : State :=
  s.forAll (List.range 16) (fun s n => match s.oldestWatch n with | none => s | some w => s.answerWatch w 0)

/-! ### Attention (R86, R119, R120) -/

/-- The event counts with that of bit 24 + `c` one higher, modulo 2^32. -/
def bumpCount (l : List Nat) (c : Nat) : List Nat := l.set c ((l.getD c 0 + 1) % 2 ^ 32)

/-- Attention bit 24 + `c` is set and ATTN_SEQ, the class's event count and the log advance in one step. -/
def State.attend (s : State) (c source : Nat) : State :=
  let seq := (s.attn.seq + 1) % 2 ^ 16
  let s := { s with attn :=
    { seq := seq, flags := setBit s.attn.flags (24 + c) true, counts := bumpCount s.attn.counts c } }
  let s := s.setTab Tab.attnLog (seq % 64)
    (seq * 2 ^ 112 + (24 + c) * 2 ^ 104 + source * 2 ^ 80 + s.stamp)
  s.answerWatches

/-! ### Counters (R502 to R508) -/

/-- Offsets of the catalogue's blocks (R502). -/
def Ctr.lane (n k : Nat) : Nat := if n < 512 then 32 * n + k else 0x4000 + 32 * (n - 512) + k
def Ctr.port (p k : Nat) : Nat := 0x8000 + 16 * p + k
def Ctr.drop (p slot : Nat) : Nat := 0x10000 + 64 * p + slot
def Ctr.queue (p q k : Nat) : Nat := 0x20000 + 4 * (16 * p + q) + k
def Ctr.ingressPipe (i k : Nat) : Nat := 0x30000 + 16 * i + k
def Ctr.egressPipe (e k : Nat) : Nat := 0x30400 + 16 * e + k
def Ctr.pipeLoader (k : Nat) : Nat := 0x30800 + k
def Ctr.benchLoader (k : Nat) : Nat := 0x30808 + k
def Ctr.bay (y k : Nat) : Nat := 0x30880 + 8 * y + k
def Ctr.poolBank (n k : Nat) : Nat := 0x31000 + 4 * n + k
def Ctr.bench (b k : Nat) : Nat := 0x31800 + 8 * b + k
def Ctr.intTarget (t k : Nat) : Nat := 0x31C00 + 2 * t + k
def Ctr.partEnergy (p k : Nat) : Nat := 0x34000 + 8 * p + k
def Ctr.devEnergy (k : Nat) : Nat := 0x34080 + k
def Ctr.queueEnergy (p q k : Nat) : Nat := 0x34800 + 2 * (16 * p + q) + k

/-- Pair of counter `n` is chained (R505). -/
def State.isChained (s : State) (n : Nat) : Bool := s.tab Tab.chained (n / 2) == 1

/-- VALUE of counter `n`. -/
def State.counter (s : State) (n : Nat) : Nat := bits (s.tab Tab.counter n) 47 0

/-- VALUE of counter `n` written, its flags kept. -/
def State.setCounter (s : State) (n v : Nat) : State :=
  s.setTab Tab.counter n (setBits (s.tab Tab.counter n) 47 0 v)

/-! ### Interrupts (R487 to R497) -/

/-- Configuration element of source `n` (R487). -/
def State.intConf (s : State) (n : Nat) : Nat := s.tab Tab.intConf n
/-- State element of source `n` (R501). -/
def State.intElem (s : State) (n : Nat) : Nat := s.tab Tab.intState n
/-- STATE of source `n`: 0 INACTIVE, 1 PENDING, 2 ACTIVE, 3 ACTIVE_PENDING. -/
def State.srcState (s : State) (n : Nat) : Nat := bits (s.intElem n) 31 30
/-- ENABLE, TARGET, PRIORITY, ATTN_CLASS and SENSE of source `n`. -/
def State.srcEnabled (s : State) (n : Nat) : Bool := bit (s.intConf n) 31
def State.srcTarget (s : State) (n : Nat) : Nat := bits (s.intConf n) 7 0
def State.srcPriority (s : State) (n : Nat) : Nat := bits (s.intConf n) 27 24
def State.srcClass (s : State) (n : Nat) : Nat := bits (s.intConf n) 23 21
def State.srcSense (s : State) (n : Nat) : Nat := bits (s.intConf n) 29 28

/-- Source `n` put into a state, its other fields kept. -/
def State.setSrcState (s : State) (n st : Nat) : State := s.setTab Tab.intState n (setBits (s.intElem n) 31 30 st)
/-- CLAIMED_BY of source `n` written. -/
def State.setClaimedBy (s : State) (n t : Nat) : State := s.setTab Tab.intState n (setBits (s.intElem n) 27 20 t)

/-- The enabled PENDING sources of target `t` that satisfy `p`, in the claim order of R491: lowest PRIORITY value
first, then lowest number. -/
def State.claimable (s : State) (t : Nat) (p : Nat → Bool) : List Nat :=
  let l := ((s.tabList Tab.intState).filter
    (fun e => bits e.2 31 30 == 1 && s.srcEnabled e.1 && s.srcTarget e.1 == t && p e.1)).map (·.1)
  (List.range 16).flatMap (fun pr => l.filter (fun n => s.srcPriority n == pr))

/-- Hardware counter `n` of an interrupt target: counted by the plain rule (R499). -/
def State.countPlain (s : State) (n : Nat) : State :=
  s.when s.coreOn (fun s => s.setCounter n ((s.counter n + 1) % 2 ^ 48))

/-- Target `t` claims source `n` (R489, R491). -/
def State.claimSrc (s : State) (n t : Nat) : State :=
  ((s.setSrcState n 2).setClaimedBy n t).countPlain (Ctr.intTarget t 0)

/-- The timer of class `c` is started (R495, R496). -/
def State.startTimer (s : State) (c : Nat) : State :=
  s.setReg Reg.ATTN_MODERATION.TIMERS_RUNNING (setBit (s.reg Reg.ATTN_MODERATION.TIMERS_RUNNING) c true)

/-- A source delivered to the host is completed at once (R495): a LEVEL source whose input is still high becomes
PENDING again and its class timer runs before it is delivered again (R496). -/
def State.completeAtHost (s : State) (n : Nat) : State :=
  let again := s.srcSense n == 0 && bit (s.intElem n) 29
  ((s.setSrcState n (if again then 1 else 0)).setClaimedBy n 0xFF).when again (·.startTimer (s.srcClass n))

/-- One source delivered to host attention (R495): claimed, attended, completed. -/
def State.deliver (s : State) (n : Nat) : State :=
  ((s.claimSrc n 129).attend (s.srcClass n) n).completeAtHost n

/-- The batch of class `c` (R495): the timer is idle, and every enabled source of the class pending at target 129
is delivered in claim order. -/
def State.takeBatch (s : State) (c : Nat) : State :=
  let l := s.claimable 129 (fun n => s.srcClass n == c)
  let s := s.setReg Reg.ATTN_MODERATION.TIMERS_RUNNING
    (setBit (s.reg Reg.ATTN_MODERATION.TIMERS_RUNNING) c false)
  let s := s.bump Reg.ATTN_MODERATION.BATCHES 64
  s.forAll l State.deliver

/-- The classes whose batch is due in this clock, in the order in which they became due. -/
def dueClasses (v : Nat) : List Nat := ([7, 6, 5, 4, 3, 2, 1, 0].map (fun i => v / 16 ^ i % 16)).filter (· != 0)

/-- The batch of class `c` is due at the end of this clock. -/
def State.makeDue (s : State) (c : Nat) : State :=
  let v := s.tab Tab.attnDue 0
  s.when (!(dueClasses v).contains (c + 1)) (·.setTab Tab.attnDue 0 (v * 16 + (c + 1)))

/-- The batches due in this clock are taken, after its triggers and completes (R490, R495): a class none of whose
sources is still offered takes none. -/
def State.deliverDue (s : State) : State :=
  let l := dueClasses (s.tab Tab.attnDue 0)
  if l.isEmpty then s
  else (s.setTab Tab.attnDue 0 0).forAll l (fun s c =>
    s.when (!(s.claimable 129 (fun n => s.srcClass n == c - 1)).isEmpty) (·.takeBatch (c - 1)))

/-- A command ends: what it made due is delivered. -/
def State.done (s : State) : Host.Outcome State Fault Refusal := .next s.deliverDue

/-- A source that is PENDING is offered to target 129 (R495): while its class timer is idle the batch of its class is due at
once where MOD_US is 0, else the timer starts; with the timer running it joins the batch. At other targets it waits for
its claim. -/
def State.offer (s : State) (n : Nat) : State :=
  let c := s.srcClass n
  if s.srcEnabled n && s.srcTarget n == 129 && s.srcState n == 1 && !bit (s.reg Reg.ATTN_MODERATION.TIMERS_RUNNING) c then
    if s.reg (Reg.ATTN_MODERATION.MOD_US_0 + c) = 0 then s.makeDue c
    else s.startTimer c
  else s

/-- A claimed source is completed (R489, R491): ACTIVE_PENDING becomes PENDING and is offered again; a LEVEL source
whose input is high becomes PENDING again, at target 129 behind its class timer (R496). -/
def State.completeSrc (s : State) (n : Nat) : State :=
  let e := s.intElem n
  if bits e 31 30 = 3 then ((s.setSrcState n 1).setClaimedBy n 0xFF).offer n
  else if s.srcSense n == 0 && bit e 29 then
    ((s.setSrcState n 1).setClaimedBy n 0xFF).when (s.srcEnabled n && s.srcTarget n == 129) (·.startTimer (s.srcClass n))
  else (s.setSrcState n 0).setClaimedBy n 0xFF

/-- Every source claimed by target `t` is completed in the same clock (R493). -/
def State.completeAllOf (s : State) (t : Nat) : State :=
  s.forAll (((s.tabList Tab.intState).filter (fun e => bits e.2 27 20 == t && 2 ≤ bits e.2 31 30)).map (·.1)) State.completeSrc

/-- MERGED of source `n`, and of the controller, goes up by one (R489, R498). -/
def State.mergeSrc (s : State) (n : Nat) : State :=
  (s.setTab Tab.intState n (setBits (s.intElem n) 15 0 (bits (s.intElem n) 15 0 + 1))).bump
    Reg.INT_CONTROL.MERGED 64

/-- A trigger of source `n` (R489). A reserved source never becomes pending (R485). -/
def State.trigger (s : State) (n : Nat) : State :=
  if IntCat.reserved n then s
  else
    let s := s.bump Reg.INT_CONTROL.TRIGGERS 64
    if s.srcState n = 0 then (s.setSrcState n 1).offer n
    else if s.srcState n = 2 then s.setSrcState n 3
    else s.mergeSrc n

/-- The input of condition source `n` takes a level (R489): an edge that SENSE selects triggers it; with SENSE
LEVEL it triggers while INACTIVE and high, and PENDING is left when the input falls. -/
def State.setInput (s : State) (n : Nat) (high : Bool) : State :=
  let old := bit (s.intElem n) 29
  let s := s.setTab Tab.intState n (setBit (s.intElem n) 29 high)
  let sense := s.srcSense n
  if sense = 0 then
    if high && s.srcState n == 0 then s.trigger n
    else if !high && s.srcState n == 1 then s.setSrcState n 0
    else s
  else if (!old && high && (sense == 1 || sense == 3)) || (old && !high && (sense == 2 || sense == 3)) then s.trigger n
  else s

/-- Hardware sets flag `i` of the sub-index with key `k`, which is an input of source `n`. -/
def State.event (s : State) (k i n : Nat) : State := (s.flag k i).trigger n

/-! ### Counting (R504, R505) -/

/-- OVERFLOWED is set on counter `n`: counted, and the OVERFLOW flag raised (R505, R520). -/
def State.overflowed (s : State) (n : Nat) : State :=
  let s := s.setTab Tab.counter n (setBit (s.tab Tab.counter n) 62 true)
  (s.bump Reg.COUNTER_CONTROL.OVERFLOWS 64).event Reg.COUNTER_CONTROL.EVENTS 0 0x1E00

/-- `amt` is posted to counter `n` (R504, R505); nothing counts while VDD_CORE is off. A chained pair counts in its
96 bits whichever number is posted to. -/
def State.count (s : State) (n : Nat) (amt : Nat := 1) : State :=
  if !s.coreOn then s
  else if s.isChained n then
    let e := n / 2 * 2
    let v := s.counter (e + 1) * 2 ^ 48 + s.counter e + amt
    let s := (s.setCounter e (v % 2 ^ 48)).setCounter (e + 1) (v / 2 ^ 48 % 2 ^ 48)
    s.when (2 ^ 96 ≤ v) (·.overflowed e)
  else
    let v := s.counter n + amt
    (s.setCounter n (v % 2 ^ 48)).when (2 ^ 48 ≤ v) (·.overflowed n)

/-! ### Mode changes, degraded causes and the fault log (R118, R558 to R564) -/

/-- MODE takes a value: counted, stamped, and MODE_CHANGED raised (R118, R568). -/
def State.setMode (s : State) (m : Nat) : State :=
  if s.mode = m then s
  else
    let t := s.stamp
    let kind := ofBool s.timeLocked
    let s := (s.setReg Reg.DEVICE_STATUS.MODE m).bump Reg.DEVICE_STATUS.MODE_CHANGES 32
    let s := (s.setReg Reg.DEVICE_STATUS.LAST_MODE_CHANGE t).setReg Reg.DEVICE_STATUS.LAST_TIME_KIND kind
    s.event Reg.STARTUP.EVENTS 0 0x1D80

/-- The mode that the causes and the mask give while the core runs (R564). -/
def State.runMode (s : State) : Nat :=
  if s.reg Reg.STARTUP.DEGRADED_CAUSES &&& s.reg Reg.STARTUP.DEGRADED_MASK = 0 then 2 else 3

/-- MODE follows the causes while it is OPERATIONAL or DEGRADED (R564). -/
def State.refreshMode (s : State) : State := if s.running then s.setMode s.runMode else s

/-- Cause `i` of DEGRADED_CAUSES set or cleared (R563), and MODE follows (R564). -/
def State.setCause (s : State) (i : Nat) (b : Bool) : State :=
  (s.setReg Reg.STARTUP.DEGRADED_CAUSES (setBit (s.reg Reg.STARTUP.DEGRADED_CAUSES) i b)).refreshMode

/-- A fault is logged (R558, R561, R562): `cls` 0 NOTE, 1 DEGRADING, 2 FATAL; `action` as byte 19; `data` the 40
octets of R559. A FATAL entry is persisted too, and sets FATAL through source 0x1D81; others raise 0x1D82. -/
def State.logFault (s : State) (code cls action source partition data : Nat) : State :=
  let n := s.reg Reg.FAULT_LOG.LOG_HEAD
  let e := n * 2 ^ 496 + cls * 2 ^ 488 + code * 2 ^ 480 + source * 2 ^ 464 + s.mode * 2 ^ 456
    + partition * 2 ^ 448 + s.stamp * 2 ^ 368 + ofBool s.timeLocked * 2 ^ 360 + action * 2 ^ 352
    + s.reg Reg.STARTUP.RESETS * 2 ^ 320 + data % 2 ^ 320
  let s := (s.setTab Tab.faultLog (n % 64) e).setReg Reg.FAULT_LOG.LOG_HEAD ((n + 1) % 2 ^ 16)
  if cls = 2 then
    let m := s.reg Reg.FAULT_LOG.PERSISTED_HEAD
    ((s.setTab Tab.faultPersisted (m % 16) e).setReg Reg.FAULT_LOG.PERSISTED_HEAD ((m + 1) % 2 ^ 32)).trigger 0x1D81
  else s.trigger 0x1D82

/-- One more fault-caused reset now would exceed RESET_LIMIT_COUNT within RESET_LIMIT_S (R560). -/
def State.resetWithheld (s : State) : Bool :=
  let n := s.tab Tab.fatal 2
  let recent := (List.range (min n 16)).filter (fun k => s.islandNs < s.tab Tab.fatal (16 + (n - 1 - k) % 16) + s.reg Reg.STARTUP.RESET_LIMIT_S * 1000000000)
  s.reg Reg.STARTUP.RESET_LIMIT_COUNT ≤ recent.length

/-- The 40 octets of DATA of a fault entry: `v` in `n` octets, then zeros (R559). -/
def faultData (n v : Nat) : Nat := v * 2 ^ (8 * (40 - n))

/-- A FATAL fault whose action is HOLD (`kind` 0), WARM (1) or COLD (2) under R559 and R560: logged; a reset is counted and waits to
be carried out, or is withheld: RESET_LIMIT is logged, a WARM becomes HOLD with FAULT_HELD, a COLD becomes RAILS_OFF. -/
def State.fatalFault (s : State) (kind code source partition data : Nat) : State :=
  if kind = 0 then (s.logFault code 2 2 source partition data).setCause 0 true
  else if s.resetWithheld then
    let s := s.logFault code 2 6 source partition data
    let s := s.logFault 0x12 2 (if kind = 1 then 2 else 5) 0xFFFF 0xFF (faultData 1 code)
    if kind = 1 then s.setCause 0 true else s.setTab Tab.fatal 0 3
  else
    let s := s.logFault code 2 (2 + kind) source partition data
    let n := s.tab Tab.fatal 2
    ((s.setTab Tab.fatal (16 + n % 16) s.islandNs).setTab Tab.fatal 2 (n + 1)).setTab Tab.fatal 0 kind

end Sys2Proof.Machine
end

