-- ==== Sys2Proof/Machine/Access.lean ====
section
/-!
DEFINITION. The checks that every access to the dictionary passes (R4, R8, R64, R66, R79 to R83, R91, R97, R99,
R100, R107, R131, R134, R135, R138 to R140), and the result of an access. What an object does with a write is
its own chapter's operation; this file decides whether the write reaches it.
-/
namespace Sys2Proof.Machine

-- Result codes (R80).
namespace Code
abbrev ok : Nat := 0x00
abbrev notReady : Nat := 0x01
abbrev busyRetry : Nat := 0x02
abbrev noObject : Nat := 0x10
abbrev noSubindex : Nat := 0x11
abbrev typeMismatch : Nat := 0x12
abbrev length : Nat := 0x13
abbrev range : Nat := 0x14
abbrev readOnly : Nat := 0x15
abbrev writeOnly : Nat := 0x16
abbrev presenceRequired : Nat := 0x20
abbrev lifecycleForbids : Nat := 0x21
abbrev hostNotAllowed : Nat := 0x22
abbrev tampered : Nat := 0x23
abbrev standbyUnavailable : Nat := 0x30
abbrev resourceOwned : Nat := 0x31
abbrev admissionRejected : Nat := 0x32
abbrev gateCommitConflict : Nat := 0x33
abbrev notPrepared : Nat := 0x34
abbrev signatureFail : Nat := 0x40
abbrev internal : Nat := 0xFF
end Code

-- DETAIL values (R81).
namespace Detail
abbrev alreadyReleased : Nat := 0x0001
abbrev noSession : Nat := 0x0002
abbrev tagOutOfRange : Nat := 0x0003
abbrev tagInFlight : Nat := 0x0004
abbrev blockInReset : Nat := 0x0005
abbrev watchesFull : Nat := 0x0006
abbrev noTags : Nat := 0x0007
abbrev sessionsFull : Nat := 0x0008
abbrev overMaxData : Nat := 0x0009
abbrev offsetOverEnd : Nat := 0x000A
abbrev seqReused : Nat := 0x000B
abbrev badField : Nat := 0x000C
end Detail

/-- What an access answers: the state after it, RESULT, DETAIL, the DETAIL_RESV flag, and reply data. -/
structure Res where
  st : State
  code : Nat
  detail : Nat
  resv : Bool
  data : Bytes
deriving DecidableEq, Repr

/-- OK, with the state after the effect. -/
def Res.done (s : State) : Res := ⟨s, Code.ok, 0, false, []⟩
/-- A refusal. -/
def Res.fail (s : State) (code : Nat) (detail : Nat := 0) : Res := ⟨s, code, detail, false, []⟩
/-- A refusal that names a reservation (R81). -/
def Res.failResv (s : State) (code n : Nat) : Res := ⟨s, code, n, true, []⟩

-- Operation codes (R63).
namespace Zop
abbrev read : Nat := 0x01
abbrev write : Nat := 0x02
abbrev blockRead : Nat := 0x03
abbrev blockWrite : Nat := 0x04
abbrev windowCommit : Nat := 0x05
abbrev parkedWatch : Nat := 0x06
abbrev release : Nat := 0x07
abbrev ping : Nat := 0x08
abbrev openOp : Nat := 0x09
abbrev close : Nat := 0x0A
end Zop

/-- The operation writes: WRITE, BLOCK_WRITE or WINDOW_COMMIT. -/
def isWriteOp (op : Nat) : Bool := op == Zop.write || op == Zop.blockWrite || op == Zop.windowCommit

/-- Who asks: port of arrival, carriage kind, host address (R67), session. -/
structure Asker where
  session : Nat
  port : Nat
  addrKind : Nat
  addr : Nat
deriving DecidableEq, Repr

/-- The host behind session `n`, as its objects hold it (R92). -/
def State.asker (s : State) (n : Nat) : Asker :=
  ⟨n, s.reg (Reg.SESSION.PORT n), s.reg (Reg.SESSION.ADDR_KIND n), s.reg (Reg.SESSION.HOST_ADDR n)⟩

/-! ### Existence (R3, R4, R93, R95, R110) -/

/-- The index lies in a range of R3 or in 0xF000 to 0xFFFF. -/
def inRanges (idx : Nat) : Bool :=
  [(0x0000, 0x05FF), (0x0800, 0x0AFF), (0x1000, 0x11FF), (0x1200, 0x1207), (0x1400, 0x1682), (0x1800, 0x183F),
   (0x2000, 0x3FFF), (0x4000, 0x5FFF), (0x6000, 0xAFFF), (0xF000, 0xFFFF)].any
    (fun r => r.1 ≤ idx && idx ≤ r.2) &&
  !(0x0300 ≤ idx && idx ≤ 0x03FF)

/-- The sub-indices that every window has (R110), STAGE in the class of its owning chapter. -/
def windowRow (w : WinDef) (sub : Nat) : Option Sub :=
  match sub with
  | 0x01 => some ⟨0x01, .u32, .rw, 0, .any, false⟩
  | 0x02 => some ⟨0x02, .u32, .rw, 0, .any, false⟩
  | 0x03 => some ⟨0x03, .u32, .rw, 0, .any, false⟩
  | 0x04 => some ⟨0x04, .u16, .ro, w.elemBytes, .any, false⟩
  | 0x05 => some ⟨0x05, .u8, .ro, 0, .any, false⟩
  | 0x06 => some ⟨0x06, .u8, .ro, 0xFF, .any, false⟩
  | 0x07 => some ⟨0x07, .u32, .ro, 0, .any, false⟩
  | 0x08 => some ⟨0x08, .octets 65536, .ro, 0, .any, false⟩
  | 0x09 => some ⟨0x09, .octets 65536, (if w.stage = .rwp then .rwp else .rw), 0, .any, false⟩
  | 0x0A => some ⟨0x0A, .bool, .wo, 0, .any, false⟩
  | 0x0B => some ⟨0x0B, .u8, .ro, 0, .any, false⟩
  | 0x0C => some ⟨0x0C, .u16, .ro, 0, .any, false⟩
  | 0x0D => some ⟨0x0D, .u32, .ro, 0, .any, false⟩
  | 0x0E => some ⟨0x0E, .bool, .ro, ofBool w.persist, .any, false⟩
  | _ => none

/-- The highest sub-index defined for an object: the value of its sub-index 0 (R95). -/
def Obj.highest (o : Obj) : Nat :=
  o.subs.foldl (fun m r => max m r.sub) (if o.win.isSome then 0x0E else 0)

/-- The row of a sub-index of an object, sub-index 0 and the common window sub-indices included (R95, R110). -/
def Obj.anyRow (o : Obj) (sub : Nat) : Option Sub :=
  if sub = 0 then some ⟨0, .u8, .ro, o.highest, .any, false⟩
  else
    match o.win with
    | some w => match windowRow w sub with | some r => some r | none => o.row sub
    | none => o.row sub

/-! ### Standby (R91) -/

/-- The objects of the sealed bank (R482, R470). -/
def isSealed (idx : Nat) : Bool := idx == 0x9400 || idx == 0x9401

/-- Hardware-counter sub-indices of the host lanes and host ports, which lie outside the standby subset (R504). -/
def standbyCounter (idx sub : Nat) : Bool :=
  ((idx == 0x1200 || idx == 0x1204) && 0x28 ≤ sub && sub ≤ 0x2E) ||
  ((idx == 0x1600 || idx == 0x1601) && 0x18 ≤ sub && sub ≤ 0x1F)

/-- The operation on the index is served in STANDBY (R91). -/
def inStandbySubset (op idx sub : Nat) : Bool :=
  if op = Zop.read ∨ op = Zop.blockRead then
    idx ≤ 0x02FF || (0x0400 ≤ idx && idx ≤ 0x05FF)
      || ((idx == 0x1200 || idx == 0x1204 || idx == 0x1600 || idx == 0x1601) && !standbyCounter idx sub)
      || isSealed idx
  else if isWriteOp op then
    idx == 0x0011 || (0x0100 ≤ idx && idx ≤ 0x02FF) || (0x0400 ≤ idx && idx ≤ 0x05FF) || isSealed idx
  else op != Zop.release

/-- During a start-up the objects at `idx` are not yet served (R551): the step in progress is the one that ends with them, or an earlier. -/
def State.notStarted (s : State) (idx : Nat) : Bool :=
  let n := s.reg Reg.STARTUP.STEP
  !(decide (7 ≤ n) || (decide (3 ≤ n) && 0x0400 ≤ idx && idx < 0x0600) || (decide (4 ≤ n) && 0x9000 ≤ idx && idx < 0xA000)
    || (decide (5 ≤ n) && ((0x2E00 ≤ idx && idx < 0x3000) || (0x8E00 ≤ idx && idx < 0x9000))))

/-- In a reset that keeps the core's supplies, in a start-up until their step has ended, and while the core is stopped outside STANDBY, the
objects of a block are not served (R83, R551). -/
def State.blockInReset (s : State) (op idx sub : Nat) : Bool :=
  !inStandbySubset op idx sub &&
    (if s.mode = 4 then !(0x0400 ≤ idx && idx < 0x0600)
     else if s.mode = 1 then s.notStarted idx
     else s.mode != 0 && !s.coreOn)

/-- The recovery loader runs, and does not serve the operation (R549). -/
def State.recoveryRefuses (s : State) (op idx : Nat) : Bool :=
  s.tab Tab.store 12 == 1 && !(op == Zop.ping || op == Zop.openOp || op == Zop.close || idx == 0x0520
    || (op == Zop.read && (idx == 0x0000 || idx == 0x0010 || idx == 0x0510)))

/-- Step 6 (R91): the operation is not available in the present mode. -/
def State.modeRefuses (s : State) (op idx sub : Nat) : Bool :=
  s.recoveryRefuses op idx || (s.mode == 0 && !inStandbySubset op idx sub)

/-! ### Allow-lists (R138 to R140) -/

/-- The partition of the object instance at `idx`, where the object carries a partition field (R28, R140). -/
def State.partitionOfIndex (s : State) (idx : Nat) : Option Nat :=
  if 0x1400 ≤ idx ∧ idx ≤ 0x1400 + 641 then some (s.reg (regKey idx 0x06))
  else if 0x9200 ≤ idx ∧ idx ≤ 0x9200 + 509 then some (s.reg (regKey idx 0x04))
  else if 0x7100 ≤ idx ∧ idx < 0x7100 + 64 then some (s.reg (regKey idx 0x06))
  else if 0x9100 ≤ idx ∧ idx < 0x9110 then some (idx - 0x9100)
  else none

/-- The OPS bit of an operation (R139). -/
def opsBit (op : Nat) : Nat :=
  if op = Zop.read ∨ op = Zop.blockRead then 0
  else if op = Zop.write ∨ op = Zop.blockWrite then 1
  else if op = Zop.windowCommit then 2 else 3

/-- An allow-list element matches a request (R140). -/
def State.allowMatches (s : State) (e : Nat) (a : Asker) (op idx : Nat) : Bool :=
  bit e 255
    && (bits e 223 208 == 0xFFFF || bits e 223 208 == a.port)
    && (bits e 247 240 == 0xFF || (bits e 247 240 == a.addrKind
        && (let n := min (bits e 239 232) 128
            ((a.addr >>> 16) % 2 ^ 128) >>> (128 - n) == bits e 127 0 >>> (128 - n))))
    && bit (bits e 251 248) (opsBit op)
    && (op == Zop.release || (bits e 207 192 ≤ idx && idx ≤ bits e 191 176))
    && (bits e 231 224 == 0xFF || s.partitionOfIndex idx == some (bits e 231 224))

/-- Step 7 of R79 permits the request (R138). -/
def State.allowed (s : State) (a : Asker) (op idx : Nat) : Bool :=
  s.reg Reg.ALLOW_CONTROL.ENABLE == 0
    || op == Zop.ping || op == Zop.openOp || op == Zop.close || op == Zop.parkedWatch
    || (s.reg Reg.PRESENCE.WINDOW_OPEN == 1 && 0x0200 ≤ idx && idx ≤ 0x02FF)
    || (s.tabList (Tab.win 0x0240)).any (fun e => s.allowMatches e.2 a op idx)

/-- A request refused at step 7 counts in DENIED and leaves its port and index (R138). -/
def State.denied (s : State) (a : Asker) (idx : Nat) : State :=
  ((s.bump Reg.ALLOW_CONTROL.DENIED 64).setReg Reg.ALLOW_CONTROL.LAST_DENIED_PORT a.port).setReg
    Reg.ALLOW_CONTROL.LAST_DENIED_INDEX idx

/-! ### Life cycle, seal and presence (steps 10 and 11) -/

/-- The sealed bank refuses host access: TAMPERED, or after a wipe failure (R131, R134, R470). -/
def State.sealedRefuses (s : State) : Bool :=
  s.reg Reg.LIFECYCLE.STATE == 2 || s.reg Reg.SEALED_BANK.STATE == 2

/-- Step 10 (R135, R470): what a protected write, or an access to the sealed bank, is answered. -/
def State.lifecycleRefuses (s : State) (isProtected : Bool) (idx sub : Nat) : Option Nat :=
  if s.sealedRefuses && (idx == 0x9401 || (idx == 0x9400 && 0x02 ≤ sub)) then some Code.tampered
  else if isProtected && idx != 0x0200 && idx != 0x0210 then
    (if s.reg Reg.LIFECYCLE.STATE = 2 then some Code.tampered
     else if s.reg Reg.LIFECYCLE.STATE = 3 then some Code.lifecycleForbids else none)
  else none

/-- The access is refused by its class (R8). -/
def accessRefuses (acc : Access) (op : Nat) : Option Nat :=
  if isWriteOp op then (if acc = .ro then some Code.readOnly else none)
  else if acc = .wo ∨ acc = .wp then some Code.writeOnly else none

/-- The class is one whose writes need the presence window (R8). -/
def isProtectedClass (acc : Access) : Bool := acc == .wp || acc == .rwp

/-! ### Steps 5 to 11 of R79 for an operation that names an object -/

/-- The outcome of the checks: the row of the sub-index, or the refusal with the state it leaves (step 7 counts). -/
inductive Checked where
  | pass (o : Obj) (r : Sub)
  | refuse (res : Res)
deriving Repr

/-- Steps 10 and 11 for a write of the class `acc`, or a read. -/
def State.protects (s : State) (writes : Bool) (acc : Access) (idx sub : Nat) : Option Nat :=
  match s.lifecycleRefuses (writes && isProtectedClass acc) idx sub with
  | some c => some c
  | none =>
    if writes && isProtectedClass acc && s.reg Reg.PRESENCE.WINDOW_OPEN == 0 then some Code.presenceRequired else none

/-- Steps 5 to 11 for READ, WRITE, BLOCK_READ, BLOCK_WRITE and WINDOW_COMMIT. Of a WINDOW_COMMIT the object is all that must exist:
it is judged as a write of the window's STAGE at steps 10 and 11 (R126, R135), and refused at step 12 where it names no window or a
sub-index (R66). -/
def State.checkObject (s : State) (a : Asker) (op idx sub : Nat) : Checked :=
  if !inRanges idx then .refuse (Res.fail s Code.noObject)
  else if s.modeRefuses op idx sub then .refuse (Res.fail s Code.standbyUnavailable)
  else if !s.allowed a op idx then .refuse (Res.fail (s.denied a idx) Code.hostNotAllowed)
  else
    match Dict.lookup idx with
    | none => .refuse (Res.fail s Code.noObject)
    | some o =>
      if op = Zop.windowCommit then
        let acc := match o.win with | some w => if w.stage = .rwp then Access.rwp else .rw | none => .rw
        match s.protects true acc idx 0x09 with
        | some c => .refuse (Res.fail s c)
        | none => .pass o ⟨0, .u8, acc, 0, .any, false⟩
      else
        match o.anyRow sub with
        | none => .refuse (Res.fail s Code.noSubindex)
        | some r =>
          match accessRefuses r.acc op with
          | some c => .refuse (Res.fail s c)
          | none =>
            match s.protects (isWriteOp op) r.acc idx sub with
            | some c => .refuse (Res.fail s c)
            | none => .pass o r

/-! ### Step 12 and the common part of step 13 -/

/-- The value is a valid encoding and in the sub-index's range (R97, R100). In a W1C write a 1 in a reserved bit
is ignored, so every value passes. -/
def valueRefuses (r : Sub) (v : Nat) : Bool :=
  !(r.ty.valid v) || (r.acc != .w1c && !(r.rng.holds r.ty v))

/-- SAVE is running: writes of saved sub-indices and PERSIST windows wait (R107). -/
def State.saving (s : State) : Bool := s.reg Reg.CONFIG_STORE.STATE == 1

/-- CONFIG_GEN goes up by one (R104). -/
def State.configChanged (s : State) : State := s.bump Reg.CONFIG_STORE.CONFIG_GEN 32

/-- A write that has passed the checks of its value (R79): its chapter's refusals of the value come first, then BLOCK_IN_RESET
(R83) and SAVE (R107), then the effect. A success on a saved sub-index advances CONFIG_GEN (R104). -/
def State.performWrite (s : State) (op idx sub : Nat) (r : Sub) (eff : State → Res) : Res :=
  let res := eff s
  if res.code = Code.range then res
  else if s.blockInReset op idx sub then Res.fail s Code.busyRetry Detail.blockInReset
  else if s.saving && r.saved then Res.fail s Code.resourceOwned
  else if res.code = Code.ok ∧ r.saved then { res with st := res.st.configChanged } else res

/-- A WRITE of one sub-index, given as a number, by the host of session `w`: session, steps 5 to 13 of R79, with `eff` the effect
of the owning chapter. -/
def State.hostWrite (s : State) (w idx sub v : Nat) (eff : State → Res) : Res :=
  if s.reg (Reg.SESSION.STATE w) ≠ 1 then Res.fail s Code.hostNotAllowed Detail.noSession
  else
    match s.checkObject (s.asker w) Zop.write idx sub with
    | .refuse res => res
    | .pass _ r => if valueRefuses r v then Res.fail s Code.range else s.performWrite Zop.write idx sub r eff

/-- Step 12 for a block operation of `len` octets at offset `off` (R64, R66). -/
def State.blockRefuses (s : State) (r : Sub) (off len : Nat) : Option (Nat × Nat) :=
  match r.ty with
  | .octets n =>
    if off % 4 ≠ 0 then some (Code.range, 0)
    else if len % 4 ≠ 0 then some (Code.length, 0)
    else if s.reg Reg.ZDP_CONFIG.MAX_DATA < len then some (Code.length, Detail.overMaxData)
    else if n < off + len then some (Code.range, Detail.offsetOverEnd)
    else none
  | _ => some (Code.typeMismatch, 0)

/-- A BLOCK_WRITE of `data` at byte offset `off` of an OCTETS sub-index by the host of session `w` (R64, R79). -/
def State.hostBlockWrite (s : State) (w idx sub off : Nat) (data : Bytes) (eff : State → Res) : Res :=
  if s.reg (Reg.SESSION.STATE w) ≠ 1 then Res.fail s Code.hostNotAllowed Detail.noSession
  else
    match s.checkObject (s.asker w) Zop.blockWrite idx sub with
    | .refuse res => res
    | .pass _ r =>
      match s.blockRefuses r off data.length with
      | some (c, d) => Res.fail s c d
      | none => s.performWrite Zop.blockWrite idx sub r eff

/-- A value stored in an RW or RWP register that has no further effect. -/
def State.store (s : State) (k v : Nat) : Res := Res.done (s.setReg k v)

/-- The outcome of a command: the next state. -/
abbrev Next := Host.Outcome State Fault Refusal

/-- The next state that a write leaves, whatever it answers. -/
def Res.next (r : Res) : Next := State.done r.st

end Sys2Proof.Machine
end

