-- ==== Sys2Proof/Machine/BenchRegs.lean ====
section
/-!
DEFINITION. What a bench holds (R385, R395 to R397, R423): its registers, stacks, control words and scratch, and its
receive ring (R396).
-/
namespace Sys2Proof.Machine

/-! ### Registers and control words -/

def State.sReg (s : State) (b i : Nat) : Nat := s.tab Tab.benchS (64 * b + i)
def State.setS (s : State) (b i v : Nat) : State := s.setTab Tab.benchS (64 * b + i) (v % 2 ^ 64)
def State.vReg (s : State) (b i : Nat) : Nat := s.tab Tab.benchV (32 * b + i)
def State.setV (s : State) (b i v : Nat) : State := s.setTab Tab.benchV (32 * b + i) (v % 2 ^ 256)
def State.tReg (s : State) (b i : Nat) : Nat := s.tab Tab.benchT (16 * b + i)
def State.setT (s : State) (b i v : Nat) : State := s.setTab Tab.benchT (16 * b + i) (v % 2 ^ 2048)
def State.cw (s : State) (b k : Nat) : Nat := s.tab Tab.benchCw (32 * b + k)
def State.setCw (s : State) (b k v : Nat) : State := s.setTab Tab.benchCw (32 * b + k) v
def State.misc (s : State) (b k : Nat) : Nat := s.tab Tab.benchMisc (16 * b + k)
def State.setMisc (s : State) (b k v : Nat) : State := s.setTab Tab.benchMisc (16 * b + k) v

-- Control word numbers (R397).
namespace Cw
abbrev benchId : Nat := 0
abbrev cause : Nat := 1
abbrev jobSeq : Nat := 2
abbrev jobSlot : Nat := 3
abbrev cycleNo : Nat := 4
abbrev startTime : Nat := 5
abbrev timeNow : Nat := 6
abbrev divider : Nat := 7
abbrev status : Nat := 8
abbrev complete : Nat := 9
abbrev userCode : Nat := 10
abbrev barrier : Nat := 11
abbrev raise : Nat := 12
abbrev intClaim : Nat := 13
abbrev intComplete : Nat := 14
abbrev dictTarget : Nat := 15
abbrev dictValue : Nat := 16
abbrev dictResult : Nat := 17
abbrev rxRing : Nat := 18
abbrev rxTail : Nat := 19
abbrev rxHead : Nat := 20
end Cw

/-- STATE of bench `b` (R399): 0 IDLE, 1 RUNNING, 2 WAITING, 3 HALTED, 4 FENCED, 5 RESETTING. -/
def State.benchState (s : State) (b : Nat) : Nat := s.reg (Reg.BENCH.STATE b)

/-- The bench issues microwords: RUNNING, with the core running. -/
def State.benchRuns (s : State) (b : Nat) : Bool := s.coreOn && s.benchState b == 1

/-- RUNNING or WAITING. -/
def State.benchActive (s : State) (b : Nat) : Bool := s.benchState b == 1 || s.benchState b == 2

/-- Bits of STATUS set (R397). -/
def State.setStatus (s : State) (b i : Nat) : State := s.setCw b Cw.status (setBit (s.cw b Cw.status) i true)

/-! ### Stacks and queues of a bench -/

/-- The entries of a stack of `n` places from element `base` of table `t`. -/
def State.entries (s : State) (t base n : Nat) : List Nat :=
  ((List.range n).map (fun i => s.tab t (base + i))).filterMap (fun v => match v with | 0 => none | k + 1 => some k)

/-- Those entries replaced. -/
def State.setEntries (s : State) (t base n : Nat) (l : List Nat) : State :=
  s.forAll (List.range n) (fun s i => s.setTab t (base + i) (match l[i]? with | none => 0 | some v => v + 1))

def State.retStack (s : State) (b : Nat) : List Nat := s.entries Tab.benchRet (16 * b) 16
def State.setRetStack (s : State) (b : Nat) (l : List Nat) : State := s.setEntries Tab.benchRet (16 * b) 16 l
def State.loopStack (s : State) (b : Nat) : List Nat := s.entries Tab.benchLoop (4 * b) 4
def State.setLoopStack (s : State) (b : Nat) (l : List Nat) : State := s.setEntries Tab.benchLoop (4 * b) 4 l

/-- The send queue, oldest first: address above 32 bits of length. -/
def State.sendQueue (s : State) (b : Nat) : List Nat := s.entries Tab.benchSend (16 * b) 16
def State.setSendQueue (s : State) (b : Nat) (l : List Nat) : State := s.setEntries Tab.benchSend (16 * b) 16 l

/-! ### Scratch (R385, R390) -/

/-- Octets of scratch. -/
abbrev scratchSize : Nat := 262144

/-- Where scratch address `a` of bench `b` lies in State.mem. -/
def scratchAddr (b a : Nat) : Nat := 2 ^ 32 + b * scratchSize + a

def State.scratch (s : State) (b a n : Nat) : Bytes := s.bytesFrom (scratchAddr b a) n
def State.setScratch (s : State) (b a : Nat) (x : Bytes) : State := s.setBytes (scratchAddr b a) x

/-- `n` octets from scratch address `a` lie in scratch. -/
def inScratch (a n : Nat) : Bool := a + n ≤ scratchSize

/-! ### The receive ring (R396) -/

/-- Base and size of the ring of bench `b`. -/
def State.ringBase (s : State) (b : Nat) : Nat := bits (s.cw b Cw.rxRing) 17 0
def State.ringSize (s : State) (b : Nat) : Nat := bits (s.cw b Cw.rxRing) 35 18

/-- Octets of the entry of a frame of `n` octets without FCS. -/
def ringEntry (n : Nat) : Nat := ceilDiv (16 + n) 32 * 32

/-- The ring has room for a frame of `n` octets without FCS: a full ring keeps its offsets apart. -/
def State.ringRoom (s : State) (b n : Nat) : Bool :=
  let size := s.ringSize b
  size != 0 && decide (subMod 64 (s.cw b Cw.rxTail) (s.cw b Cw.rxHead) % size + ringEntry n < size)

/-- Octets written at ring offset `off`, round the ring's end; beyond scratch nothing is written. -/
def State.ringWrite (s : State) (b off : Nat) : Bytes → State
  | [] => s
  | x :: t =>
    let a := s.ringBase b + off % s.ringSize b
    (s.when (decide (a < scratchSize)) (·.setByte (scratchAddr b a) x)).ringWrite b (off + 1) t

/-- A frame written into the ring with its header, and RX_TAIL advanced. What pads it is open. -/
def State.ringReceive (s : State) (b : Nat) (srcPort ts : Nat) (x : Bytes) : State :=
  let ns := ts / nsUnit
  let pad := ringEntry x.length - 16 - x.length
  let hdr := toLE 2 x.length ++ toLE 2 srcPort ++ toLE 4 0 ++ toLE 4 (ns / 1000000000) ++ toLE 4 (ns % 1000000000)
  let tail := s.cw b Cw.rxTail
  let s' := s.drew.ringWrite b tail (hdr ++ x ++ toLE pad (s.freeBelow (2 ^ (8 * pad))))
  s'.setCw b Cw.rxTail ((tail + ringEntry x.length) % s.ringSize b)

end Sys2Proof.Machine
end

