-- ==== Sys2Proof/Machine/Float.lean ====
section
/-!
DEFINITION. IEEE 754 binary32 and binary64 as R370, R387, R426 and R427 use them: exact arithmetic on significands, one
rounding to nearest with ties to even, subnormal numbers in full, and one quiet NaN.
-/
namespace Sys2Proof.Machine

/-- A binary format: significand bits with the hidden one, and exponent bits. -/
structure Fmt where
  p : Nat
  ew : Nat
deriving DecidableEq, Repr

/-- binary32 and binary64. -/
def f32 : Fmt := ⟨24, 8⟩
def f64 : Fmt := ⟨53, 11⟩

/-- The exponent bias. -/
def Fmt.bias (f : Fmt) : Int := 2 ^ (f.ew - 1) - 1

/-- The quiet NaN that operations return (R387), and infinity. -/
def Fmt.infBits (f : Fmt) (neg : Bool) : Nat := ofBool neg * 2 ^ (f.p + f.ew - 1) + (2 ^ f.ew - 1) * 2 ^ (f.p - 1)
def Fmt.nanBits (f : Fmt) : Nat := f.infBits false + 2 ^ (f.p - 2)

/-- What an encoding stands for: a sign and m times 2 to the e, or an infinity, or not a number. -/
inductive FVal where
  | nan
  | inf (neg : Bool)
  | fin (neg : Bool) (m : Nat) (e : Int)
deriving DecidableEq, Repr

/-- The value of an encoding. -/
def Fmt.decode (f : Fmt) (v : Nat) : FVal :=
  let neg := bit v (f.p + f.ew - 1)
  let x := bits v (f.p + f.ew - 2) (f.p - 1)
  let frac := bits v (f.p - 2) 0
  if x = 2 ^ f.ew - 1 then (if frac = 0 then .inf neg else .nan)
  else if x = 0 then .fin neg frac (1 - f.bias - (f.p - 1))
  else .fin neg (frac + 2 ^ (f.p - 1)) (x - f.bias - (f.p - 1))

/-- A number of bits of a significand. -/
def bitLen (m : Nat) : Nat := if m = 0 then 0 else Nat.log2 m + 1

/-- m times 2 to the e, and with `sticky` something more that is less than one unit of m's last place, rounded to
nearest with ties to even. -/
def Fmt.round (f : Fmt) (neg : Bool) (m : Nat) (e : Int) (sticky : Bool) : Nat :=
  let s := ofBool neg * 2 ^ (f.p + f.ew - 1)
  if m = 0 then s
  else
    let low := 1 - f.bias - ((f.p : Int) - 1)
    let q := max (e + bitLen m - f.p) low
    let k := (q - e).toNat
    let r := if q ≤ e then m * 2 ^ (e - q).toNat else m / 2 ^ k
    let rem := if q ≤ e then 0 else m % 2 ^ k
    let half := if q ≤ e then 1 else 2 ^ (k - 1)
    let up := half < rem || (rem == half && (sticky || r % 2 == 1))
    let r := r + ofBool up
    let (r, q) := if r = 2 ^ f.p then (2 ^ (f.p - 1), q + 1) else (r, q)
    if r < 2 ^ (f.p - 1) then s + r
    else
      let x := q + (f.p - 1) + f.bias
      if 2 ^ f.ew - 1 ≤ x then f.infBits neg else s + x.toNat * 2 ^ (f.p - 1) + (r - 2 ^ (f.p - 1))

/-- A signed significand. -/
def signed (neg : Bool) (m : Nat) : Int := if neg then -(m : Int) else m

/-- The exact sum of two finite values, rounded once. -/
def Fmt.sum (f : Fmt) (n1 : Bool) (m1 : Nat) (e1 : Int) (n2 : Bool) (m2 : Nat) (e2 : Int) : Nat :=
  let e := min e1 e2
  let v := signed n1 (m1 * 2 ^ (e1 - e).toNat) + signed n2 (m2 * 2 ^ (e2 - e).toNat)
  if v = 0 then f.round (n1 && n2) 0 0 false else f.round (decide (v < 0)) v.natAbs e false

def Fmt.add (f : Fmt) (a b : Nat) : Nat :=
  match f.decode a, f.decode b with
  | .nan, _ => f.nanBits
  | _, .nan => f.nanBits
  | .inf x, .inf y => if x = y then f.infBits x else f.nanBits
  | .inf x, _ => f.infBits x
  | _, .inf y => f.infBits y
  | .fin n1 m1 e1, .fin n2 m2 e2 => f.sum n1 m1 e1 n2 m2 e2

/-- The sign bit turned over. -/
def Fmt.neg (f : Fmt) (a : Nat) : Nat := a ^^^ 2 ^ (f.p + f.ew - 1)

def Fmt.sub (f : Fmt) (a b : Nat) : Nat :=
  match f.decode b with | .nan => f.nanBits | _ => f.add a (f.neg b)

def Fmt.mul (f : Fmt) (a b : Nat) : Nat :=
  match f.decode a, f.decode b with
  | .nan, _ => f.nanBits
  | _, .nan => f.nanBits
  | .inf x, .inf y => f.infBits (x != y)
  | .inf x, .fin y m _ => if m = 0 then f.nanBits else f.infBits (x != y)
  | .fin x m _, .inf y => if m = 0 then f.nanBits else f.infBits (x != y)
  | .fin n1 m1 e1, .fin n2 m2 e2 => f.round (n1 != n2) (m1 * m2) (e1 + e2) false

/-- a times b plus c, rounded once. -/
def Fmt.fma (f : Fmt) (a b c : Nat) : Nat :=
  match f.decode a, f.decode b, f.decode c with
  | .nan, _, _ => f.nanBits
  | _, .nan, _ => f.nanBits
  | _, _, .nan => f.nanBits
  | .fin n1 m1 e1, .fin n2 m2 e2, .fin n3 m3 e3 => f.sum (n1 != n2) (m1 * m2) (e1 + e2) n3 m3 e3
  | .fin _ _ _, .fin _ _ _, .inf z => f.infBits z
  | _, _, z =>
    match f.decode (f.mul a b), z with
    | .nan, _ => f.nanBits
    | .inf s, .inf t => if s = t then f.infBits s else f.nanBits
    | .inf s, _ => f.infBits s
    | _, _ => f.nanBits

def Fmt.div (f : Fmt) (a b : Nat) : Nat :=
  match f.decode a, f.decode b with
  | .nan, _ => f.nanBits
  | _, .nan => f.nanBits
  | .inf _, .inf _ => f.nanBits
  | .inf x, .fin y _ _ => f.infBits (x != y)
  | .fin x _ _, .inf y => f.round (x != y) 0 0 false
  | .fin n1 m1 e1, .fin n2 m2 e2 =>
    if m2 = 0 then (if m1 = 0 then f.nanBits else f.infBits (n1 != n2))
    else
      let k := f.p + 3 + bitLen m2
      f.round (n1 != n2) (m1 * 2 ^ k / m2) (e1 - e2 - k) (m1 * 2 ^ k % m2 != 0)

/-- The integer square root, bit by bit from `n` down. -/
def isqrt (v : Nat) : Nat → Nat → Nat
  | 0, r => if (r + 1) * (r + 1) ≤ v then r + 1 else r
  | n + 1, r => isqrt v n (if (r + 2 ^ (n + 1)) * (r + 2 ^ (n + 1)) ≤ v then r + 2 ^ (n + 1) else r)

def Fmt.sqrt (f : Fmt) (a : Nat) : Nat :=
  match f.decode a with
  | .nan => f.nanBits
  | .inf x => if x then f.nanBits else f.infBits false
  | .fin neg m e =>
    if m = 0 then f.round neg 0 0 false
    else if neg then f.nanBits
    else
      let k : Nat := 2 * f.p + 6
      let k := if (e - k) % 2 = 0 then k else k + 1
      let v := m * 2 ^ k
      let r := isqrt v (bitLen v / 2 + 1) 0
      f.round false r ((e - k) / 2) (r * r != v)

/-- The exact difference's sign where both are numbers: a below b, and a equal to b. -/
def Fmt.less (f : Fmt) (a b : Nat) : Bool :=
  match f.decode a, f.decode b with
  | .nan, _ => false
  | _, .nan => false
  | .inf x, .inf y => x && !y
  | .inf x, _ => x
  | _, .inf y => !y
  | .fin n1 m1 e1, .fin n2 m2 e2 =>
    let e := min e1 e2
    signed n1 (m1 * 2 ^ (e1 - e).toNat) < signed n2 (m2 * 2 ^ (e2 - e).toNat)

def Fmt.isNan (f : Fmt) (a : Nat) : Bool := f.decode a == .nan

def Fmt.equal (f : Fmt) (a b : Nat) : Bool := !f.isNan a && !f.isNan b && !f.less a b && !f.less b a

/-- The encoding of an integer. -/
def Fmt.ofInteger (f : Fmt) (i : Int) : Nat := f.round (decide (i < 0)) i.natAbs 0 false

/-- One format's value in another. -/
def Fmt.convert (f g : Fmt) (a : Nat) : Nat :=
  match f.decode a with
  | .nan => g.nanBits
  | .inf x => g.infBits x
  | .fin n m e => g.round n m e false

/-- The value rounded to an integer, ties to even, and saturated to `lo` to `hi`; NaN gives 0. -/
def Fmt.toInteger (f : Fmt) (lo hi : Int) (a : Nat) : Int :=
  match f.decode a with
  | .nan => 0
  | .inf x => if x then lo else hi
  | .fin n m e =>
    let r := if 0 ≤ e then m * 2 ^ (min e 2000).toNat
      else
        let k := (-e).toNat
        let r := m / 2 ^ k
        let rem := m % 2 ^ k
        r + ofBool (decide (2 ^ k < 2 * rem) || (2 * rem == 2 ^ k && r % 2 == 1))
    max lo (min hi (signed n r))

/-- The value is not zero. -/
def Fmt.nonzero (f : Fmt) (a : Nat) : Bool := match f.decode a with | .fin _ m _ => m != 0 | _ => true

/-- A subnormal number flushed to zero of its sign, as the tiles do (R387). -/
def Fmt.flush (f : Fmt) (a : Nat) : Nat :=
  if bits a (f.p + f.ew - 2) (f.p - 1) = 0 then ofBool (bit a (f.p + f.ew - 1)) * 2 ^ (f.p + f.ew - 1) else a

end Sys2Proof.Machine
end

