-- ==== Sys2Proof/Machine/Flags.lean ====
section
/-!
DEFINITION. The flags of a bench (R421): how operations write Z, N, C and V, and the conditions of a BRANCH. Bit 0 is Z, bit 1
N, bit 2 C, bit 3 V.
-/
namespace Sys2Proof.Machine

/-- Flags packed. -/
def packFlags (z n c v : Bool) : Nat := ofBool z + 2 * ofBool n + 4 * ofBool c + 8 * ofBool v

/-- An integer does not fit in 64 signed bits. -/
def overflows64 (i : Int) : Bool := i < -(2 ^ 63) || 2 ^ 63 ≤ i

/-- Flags of a 64-bit result: Z and N from it, C an unsigned borrow, V where the exact value overflows. -/
def resultFlags (r : Nat) (borrow : Bool) (exact : Int) : Nat := packFlags (r == 0) (bit r 63) borrow (overflows64 exact)

/-- Flags of A - B. -/
def subFlags (a b : Nat) : Nat := resultFlags (subMod 64 a b) (decide (a < b)) (toInt 64 a - toInt 64 b)

/-- Flags of FCMP. -/
def fcmpFlags (a b : Nat) : Nat := packFlags (f64.equal a b) (f64.less a b) (f64.isNan a || f64.isNan b) false

/-- The flags of bench `b`. -/
def State.flagsOf (s : State) (b : Nat) : Nat := s.tab Tab.benchFlags b

/-- COND holds for bench `b` as it stands (R421). -/
def State.condHolds (s : State) (b cond : Nat) : Bool :=
  let f := s.flagsOf b
  let z := bit f 0
  let n := bit f 1
  let c := bit f 2
  let v := bit f 3
  match cond with
  | 0 => z
  | 1 => !z
  | 2 => n != v
  | 3 => n == v
  | 4 => c
  | 5 => !c
  | 6 => z || n != v
  | 7 => !z && n == v
  | 8 => true
  | 9 => bit (s.cw b Cw.dictResult) 8
  | 10 => (s.sendQueue b).length == 16
  | 11 => s.cw b Cw.rxTail != s.cw b Cw.rxHead
  | _ => s.tab Tab.benchTrigger b != 0

end Sys2Proof.Machine
end

