-- ==== Sys2Proof/Machine/Nano.lean ====
section
/-!
DEFINITION. The microwords and nanowords of the benches (R420 to R431): their forms and slots, decoding, which refuses every
undefined encoding, and encoding.
-/
namespace Sys2Proof.Machine

/-! ### Microwords (R420 to R422, R424) -/

/-- A defined microword. -/
inductive Micro where
  | exec (nano imm : Nat)
  | branch (nano cond target : Nat)
  | nop
  | jump (target : Nat)
  | call (target : Nat)
  | ret
  | loop (target reg : Nat)
  | sync
  | trap
  | set (dst imm : Nat)
  | shift (dst imm : Nat)
deriving DecidableEq, Repr

/-- The microword that 32 bits spell; none where they are not a defined encoding. -/
def decodeMicro (w : Nat) : Option Micro :=
  let target := bits w 13 0
  let arg := bits w 25 14
  match bits w 31 30 with
  | 0 => some (.exec (bits w 29 18) (bits w 17 0))
  | 1 => if 13 ≤ bits w 17 14 then none else some (.branch (bits w 29 18) (bits w 17 14) target)
  | 2 =>
    let bare := fun (m : Micro) => if arg = 0 ∧ target = 0 then some m else none
    let mk := fun (m : Micro) => if arg = 0 then some m else none
    (match bits w 29 26 with
     | 0 => bare .nop
     | 1 => mk (.jump target)
     | 2 => mk (.call target)
     | 3 => bare .ret
     | 4 => if arg < 64 then some (.loop target arg) else none
     | 5 => bare .sync
     | 6 => bare .trap
     | _ => none)
  | _ =>
    match bits w 23 22 with
    | 0 => some (.set (bits w 29 24) (bits w 21 0))
    | 1 => some (.shift (bits w 29 24) (bits w 21 0))
    | _ => none

/-- The 32 bits of a microword. -/
def encodeMicro : Micro → Nat
  | .exec nano imm => nano * 2 ^ 18 + imm
  | .branch nano cond target => 2 ^ 30 + nano * 2 ^ 18 + cond * 2 ^ 14 + target
  | .nop => 2 * 2 ^ 30
  | .jump target => 2 * 2 ^ 30 + 1 * 2 ^ 26 + target
  | .call target => 2 * 2 ^ 30 + 2 * 2 ^ 26 + target
  | .ret => 2 * 2 ^ 30 + 3 * 2 ^ 26
  | .loop target reg => 2 * 2 ^ 30 + 4 * 2 ^ 26 + reg * 2 ^ 14 + target
  | .sync => 2 * 2 ^ 30 + 5 * 2 ^ 26
  | .trap => 2 * 2 ^ 30 + 6 * 2 ^ 26
  | .set dst imm => 3 * 2 ^ 30 + dst * 2 ^ 24 + imm
  | .shift dst imm => 3 * 2 ^ 30 + dst * 2 ^ 24 + 2 ^ 22 + imm

/-- The fields of a microword lie within their widths. -/
def Micro.ok : Micro → Bool
  | .exec nano imm => nano < 2 ^ 12 && imm < 2 ^ 18
  | .branch nano cond target => nano < 2 ^ 12 && cond < 13 && target < 2 ^ 14
  | .jump target => target < 2 ^ 14
  | .call target => target < 2 ^ 14
  | .loop target reg => target < 2 ^ 14 && reg < 64
  | .set dst imm => dst < 64 && imm < 2 ^ 22
  | .shift dst imm => dst < 64 && imm < 2 ^ 22
  | _ => true

/-! ### Slots of a nanoword (R425 to R430) -/

/-- Scalar operations (R426). -/
inductive ScalarOp where
  | add | sub | and | or | xor | shl | shr | sar | cmp | mov | mul | divu | divs | remu | rems | mins | maxs
  | fadd | fsub | fmul | fma | fdiv | fsqrt | fcmp | itof | ftoi | vget
deriving DecidableEq, Repr

/-- OP of a scalar operation. -/
def ScalarOp.code : ScalarOp → Nat
  | .add => 0x01 | .sub => 0x02 | .and => 0x03 | .or => 0x04 | .xor => 0x05 | .shl => 0x06 | .shr => 0x07 | .sar => 0x08
  | .cmp => 0x09 | .mov => 0x0A | .mul => 0x0B | .divu => 0x0C | .divs => 0x0D | .remu => 0x0E | .rems => 0x0F
  | .mins => 0x10 | .maxs => 0x11 | .fadd => 0x20 | .fsub => 0x21 | .fmul => 0x22 | .fma => 0x23 | .fdiv => 0x24
  | .fsqrt => 0x25 | .fcmp => 0x26 | .itof => 0x27 | .ftoi => 0x28 | .vget => 0x30

/-- Every scalar operation. -/
def ScalarOp.all : List ScalarOp :=
  [.add, .sub, .and, .or, .xor, .shl, .shr, .sar, .cmp, .mov, .mul, .divu, .divs, .remu, .rems, .mins, .maxs, .fadd, .fsub, .fmul,
   .fma, .fdiv, .fsqrt, .fcmp, .itof, .ftoi, .vget]

/-- An integer operation, which may write flags. -/
def ScalarOp.isInt (o : ScalarOp) : Bool := o.code ≤ 0x11
/-- The operation writes flags alone. -/
def ScalarOp.isCmp (o : ScalarOp) : Bool := o == .cmp || o == .fcmp
/-- The operation uses source A, source B, source C. -/
def ScalarOp.usesA (o : ScalarOp) : Bool := o != .mov
def ScalarOp.usesB (o : ScalarOp) : Bool := o != .fsqrt && o != .itof && o != .ftoi
def ScalarOp.usesC (o : ScalarOp) : Bool := o == .fma

/-- Every field that the operation does not use is 0 (R426, R431). -/
def scalarOk (o : ScalarOp) (x : ScalarSlot) : Bool :=
  (o.usesA || x.a.val == 0) && (o.usesB || (x.b.val == 0 && !x.immB)) && (o.usesC || x.c.val == 0) && (!x.immB || x.b.val == 0)
    && (!o.isCmp || (x.dst.val == 0 && x.setF)) && (o.isInt || o.isCmp || !x.setF) && (o != .vget || decide (x.a.val < 32))

/-- Vector operations (R427). -/
inductive VectorOp where
  | vadd | vsub | vmul | vfma | vmin | vmax | vcmplt | vsel | vdiv | vsqrt | vhsum | vbcast | vshuf | vcvti | vcvtf
deriving DecidableEq, Repr

/-- OP of a vector operation. -/
def VectorOp.code : VectorOp → Nat
  | .vadd => 0x01 | .vsub => 0x02 | .vmul => 0x03 | .vfma => 0x04 | .vmin => 0x05 | .vmax => 0x06 | .vcmplt => 0x07 | .vsel => 0x08
  | .vdiv => 0x09 | .vsqrt => 0x0A | .vhsum => 0x0B | .vbcast => 0x0C | .vshuf => 0x0D | .vcvti => 0x0E | .vcvtf => 0x0F

/-- Every vector operation. -/
def VectorOp.all : List VectorOp :=
  [.vadd, .vsub, .vmul, .vfma, .vmin, .vmax, .vcmplt, .vsel, .vdiv, .vsqrt, .vhsum, .vbcast, .vshuf, .vcvti, .vcvtf]

/-- The operation writes lanes of VD; uses VA, VB, VC; uses SREG. -/
def VectorOp.lanes (o : VectorOp) : Bool := o != .vhsum
def VectorOp.usesA (o : VectorOp) : Bool := o != .vbcast
def VectorOp.usesB (o : VectorOp) : Bool := o.code ≤ 0x09
def VectorOp.usesC (o : VectorOp) : Bool := o == .vfma || o == .vsel
def VectorOp.usesS (o : VectorOp) : Bool := o == .vhsum || o == .vbcast || o == .vshuf

/-- Every field that the operation does not use is 0. -/
def vectorOk (o : VectorOp) (x : VectorSlot) : Bool :=
  (o.lanes || (x.vd.val == 0 && x.mask.val == 0)) && (o.usesA || x.va.val == 0) && (o.usesB || x.vb.val == 0)
    && (o.usesC || x.vc.val == 0) && (o.usesS || x.sreg.val == 0)

/-- Memory operations (R428). -/
inductive MemOp where
  | ld | st | pld | pst | pmoveIn | pmoveOut | sread | sgather | swrite | sscatter | fsend
deriving DecidableEq, Repr

/-- OP of a memory operation. -/
def MemOp.code : MemOp → Nat
  | .ld => 0x01 | .st => 0x02 | .pld => 0x10 | .pst => 0x11 | .pmoveIn => 0x12 | .pmoveOut => 0x13 | .sread => 0x20
  | .sgather => 0x21 | .swrite => 0x22 | .sscatter => 0x23 | .fsend => 0x30

/-- Every memory operation. -/
def MemOp.all : List MemOp := [.ld, .st, .pld, .pst, .pmoveIn, .pmoveOut, .sread, .sgather, .swrite, .sscatter, .fsend]

/-- A load or store of one register. -/
def MemOp.isAccess (o : MemOp) : Bool := o == .ld || o == .st || o == .pld || o == .pst
/-- The operation uses RB, RC, RD. -/
def MemOp.usesB (o : MemOp) : Bool := !o.isAccess && o != .sread
def MemOp.usesC (o : MemOp) : Bool := o == .pmoveIn || o == .pmoveOut || o == .sgather || o == .swrite
def MemOp.usesD (o : MemOp) : Bool := o.isAccess || o == .sread || o == .sgather || o == .swrite

/-- SIZE is one that the operation has. -/
def MemOp.sizeOk (o : MemOp) (z : Nat) : Bool :=
  o.isAccess || (if o = .sread then z == 3 || z == 4 else if o = .sgather ∨ o = .swrite then z == 2 || z == 3 else z == 0)

/-- Every field that the operation does not use is 0, and RD names what it may. -/
def memOk (o : MemOp) (x : MemSlot) : Bool :=
  (o.usesB || x.rb.val == 0) && (o.usesC || x.rc.val == 0) && (o.usesD || x.rd.val == 0) && o.sizeOk x.size
    && (!x.signed || ((o == .ld || o == .pld) && decide (x.size.val ≤ 2)))
    && (o.isAccess || (!x.immO && x.offset.val == 0)) && (!x.immO || x.offset.val == 0)
    && (!(o.isAccess && x.size.val == 4) || decide (x.rd.val < 32)) && (!(o == .sread && x.size.val == 4) || decide (x.rd.val ≤ 60))

/-- Control-word operations (R429). -/
inductive CwOp where
  | read (cw : Fin 32) (reg : SReg)
  | write (cw : Fin 32) (reg : SReg)
  | writeImm (cw : Fin 32)
deriving DecidableEq, Repr

/-- Tile operations (R430). -/
inductive TileOp where
  | tzero
  | touter (va vb : VReg)
  | tmma (ra rb rk : SReg)
  | tread (row : Fin 8) (vd : VReg)
  | tstore (ra : SReg)
deriving DecidableEq, Repr

/-- A nanoword. -/
structure Nano where
  scalar : Option (ScalarOp × ScalarSlot)
  vector : Option (VectorOp × VectorSlot)
  memory : Option (MemOp × MemSlot)
  cword : Option CwOp
  /-- Tiles and their operations, ascending. -/
  tiles : List (TReg × TileOp)
deriving DecidableEq, Repr

/-! ### Encoding -/

/-- The 48 bits of a scalar slot. -/
def encodeScalar (o : ScalarOp) (x : ScalarSlot) : Nat :=
  o.code * 2 ^ 40 + x.dst * 2 ^ 34 + x.a * 2 ^ 28 + x.b * 2 ^ 22 + x.c * 2 ^ 16 + ofBool x.immB * 2 ^ 15 + ofBool x.setF * 2 ^ 14

/-- The 48 bits of a vector slot. -/
def encodeVector (o : VectorOp) (x : VectorSlot) : Nat :=
  o.code * 2 ^ 40 + x.vd * 2 ^ 35 + x.va * 2 ^ 30 + x.vb * 2 ^ 25 + x.vc * 2 ^ 20 + x.mask * 2 ^ 12 + x.sreg * 2 ^ 6

/-- The 64 bits of a memory slot. -/
def encodeMem (o : MemOp) (x : MemSlot) : Nat :=
  o.code * 2 ^ 56 + x.ra * 2 ^ 50 + x.rb * 2 ^ 44 + x.rc * 2 ^ 38 + x.rd * 2 ^ 32 + x.size * 2 ^ 29 + ofBool x.signed * 2 ^ 28
    + ofBool x.immO * 2 ^ 27 + x.offset * 2 ^ 9

/-- The 16 bits of a control-word slot. -/
def encodeCw : CwOp → Nat
  | .read cw reg => 1 * 2 ^ 14 + cw * 2 ^ 9 + reg * 2 ^ 3
  | .write cw reg => 2 * 2 ^ 14 + cw * 2 ^ 9 + reg * 2 ^ 3
  | .writeImm cw => 3 * 2 ^ 14 + cw * 2 ^ 9

/-- The 21 bits of a tile slot. -/
def encodeTile : TileOp → Nat
  | .tzero => 1 * 2 ^ 18
  | .touter va vb => 2 * 2 ^ 18 + va * 2 ^ 12 + vb * 2 ^ 6
  | .tmma ra rb rk => 3 * 2 ^ 18 + ra * 2 ^ 12 + rb * 2 ^ 6 + rk
  | .tread row vd => 4 * 2 ^ 18 + row * 2 ^ 12 + vd * 2 ^ 6
  | .tstore ra => 5 * 2 ^ 18 + ra * 2 ^ 12

/-- The 512 bits of a nanoword. -/
def encodeNano (n : Nano) : Nat :=
  (match n.scalar with | none => 0 | some (o, x) => encodeScalar o x) * 2 ^ 464
    + (match n.vector with | none => 0 | some (o, x) => encodeVector o x) * 2 ^ 416
    + (match n.memory with | none => 0 | some (o, x) => encodeMem o x) * 2 ^ 352
    + (match n.cword with | none => 0 | some o => encodeCw o) * 2 ^ 336
    + (n.tiles.map (fun t => encodeTile t.2 * 2 ^ (315 - 21 * t.1.val))).sum

/-! ### Decoding: an empty slot, an operation, or no defined encoding -/

/-- A field as a number below `n`. -/
def fieldFin (n v : Nat) (h : 0 < n) : Fin n := ⟨v % n, Nat.mod_lt v h⟩

abbrev field64 (v : Nat) : Fin 64 := fieldFin 64 v (by decide)
abbrev field32 (v : Nat) : Fin 32 := fieldFin 32 v (by decide)

/-- A scalar slot. -/
def decodeScalar (v : Nat) : Option (Option (ScalarOp × ScalarSlot)) :=
  if v = 0 then some none
  else
    match ScalarOp.all.find? (fun o => o.code == bits v 47 40) with
    | none => none
    | some o =>
      let x : ScalarSlot := ⟨field64 (bits v 39 34), field64 (bits v 33 28), field64 (bits v 27 22), field64 (bits v 21 16), bit v 15, bit v 14⟩
      if bits v 13 0 = 0 ∧ scalarOk o x = true then some (some (o, x)) else none

/-- A vector slot. -/
def decodeVector (v : Nat) : Option (Option (VectorOp × VectorSlot)) :=
  if v = 0 then some none
  else
    match VectorOp.all.find? (fun o => o.code == bits v 47 40) with
    | none => none
    | some o =>
      let x : VectorSlot := ⟨field32 (bits v 39 35), field32 (bits v 34 30), field32 (bits v 29 25), field32 (bits v 24 20),
        fieldFin 256 (bits v 19 12) (by decide), field64 (bits v 11 6)⟩
      if bits v 5 0 = 0 ∧ vectorOk o x = true then some (some (o, x)) else none

/-- A memory slot. -/
def decodeMem (v : Nat) : Option (Option (MemOp × MemSlot)) :=
  if v = 0 then some none
  else
    match MemOp.all.find? (fun o => o.code == bits v 63 56) with
    | none => none
    | some o =>
      if 4 < bits v 31 29 then none
      else
        let x : MemSlot := ⟨field64 (bits v 55 50), field64 (bits v 49 44), field64 (bits v 43 38), field64 (bits v 37 32),
          fieldFin 5 (bits v 31 29) (by decide), bit v 28, bit v 27, fieldFin 262144 (bits v 26 9) (by decide)⟩
        if bits v 8 0 = 0 ∧ memOk o x = true then some (some (o, x)) else none

/-- A control-word slot. -/
def decodeCw (v : Nat) : Option (Option CwOp) :=
  if v = 0 then some none
  else
    let cw := field32 (bits v 13 9)
    if bits v 2 0 ≠ 0 then none
    else match bits v 15 14 with
      | 1 => some (some (.read cw (field64 (bits v 8 3))))
      | 2 => some (some (.write cw (field64 (bits v 8 3))))
      | 3 => if bits v 8 3 = 0 then some (some (.writeImm cw)) else none
      | _ => none

/-- A tile slot. -/
def decodeTile (v : Nat) : Option (Option TileOp) :=
  if v = 0 then some none
  else
    let f1 := bits v 17 12
    let f2 := bits v 11 6
    let f3 := bits v 5 0
    match bits v 20 18 with
    | 1 => if f1 = 0 ∧ f2 = 0 ∧ f3 = 0 then some (some .tzero) else none
    | 2 => if f1 < 32 ∧ f2 < 32 ∧ f3 = 0 then some (some (.touter (field32 f1) (field32 f2))) else none
    | 3 => some (some (.tmma (field64 f1) (field64 f2) (field64 f3)))
    | 4 => if f1 < 8 ∧ f2 < 32 ∧ f3 = 0 then some (some (.tread (fieldFin 8 f1 (by decide)) (field32 f2))) else none
    | 5 => if f2 = 0 ∧ f3 = 0 then some (some (.tstore (field64 f1))) else none
    | _ => none

/-- The tile slots of a nanoword. -/
def decodeTiles (w : Nat) : List TReg → Option (List (TReg × TileOp))
  | [] => some []
  | t :: rest =>
    match decodeTile (bits w (335 - 21 * t) (315 - 21 * t)), decodeTiles w rest with
    | some none, some l => some l
    | some (some o), some l => some ((t, o) :: l)
    | _, _ => none

/-- Scalar registers that a nanoword writes. -/
def Nano.writesS (n : Nano) : List Nat :=
  (match n.scalar with | some (o, x) => if o.isCmp then [] else [x.dst.val] | none => [])
    ++ (match n.vector with | some (.vhsum, x) => [x.sreg.val] | _ => [])
    ++ (match n.memory with
        | some (.ld, x) => if x.size.val = 4 then [] else [x.rd.val]
        | some (.pld, x) => if x.size.val = 4 then [] else [x.rd.val]
        | some (.sread, x) => if x.size.val = 4 then [x.rd.val, x.rd.val + 1, x.rd.val + 2, x.rd.val + 3] else [x.rd.val]
        | _ => [])
    ++ (match n.cword with | some (.read _ r) => [r.val] | _ => [])

/-- Vector registers that a nanoword writes. -/
def Nano.writesV (n : Nano) : List Nat :=
  (match n.vector with | some (o, x) => if o.lanes then [x.vd.val] else [] | none => [])
    ++ (match n.memory with
        | some (.ld, x) => if x.size.val = 4 then [x.rd.val] else []
        | some (.pld, x) => if x.size.val = 4 then [x.rd.val] else []
        | _ => [])
    ++ n.tiles.filterMap (fun t => match t.2 with | .tread _ vd => some vd.val | _ => none)

/-- No value occurs twice. -/
def distinct : List Nat → Bool
  | [] => true
  | x :: t => !t.contains x && distinct t

/-- The nanoword that 512 bits spell; none where they are not a defined encoding (R431). -/
def decodeNano (w : Nat) : Option Nano :=
  match decodeScalar (bits w 511 464), decodeVector (bits w 463 416), decodeMem (bits w 415 352), decodeCw (bits w 351 336),
    decodeTiles w (List.finRange 16) with
  | some sc, some ve, some me, some cw, some ti =>
    let n : Nano := ⟨sc, ve, me, cw, ti⟩
    if distinct n.writesS && distinct n.writesV then some n else none
  | _, _, _, _, _ => none

end Sys2Proof.Machine
end

