-- ==== Sys2Proof/Machine/Operands.lean ====
section
/-!
DEFINITION. The operand forms of a bench's operations (R426 to R428): sources, immediates, lanes and addresses.
-/
namespace Sys2Proof.Machine

/-- Source A and source C of a scalar slot. -/
def State.srcA (s : State) (b : Nat) (x : ScalarSlot) : Nat := s.sReg b x.a
def State.srcC (s : State) (b : Nat) (x : ScalarSlot) : Nat := s.sReg b x.c

/-- Source B: a register, or IMM sign-extended. -/
def State.srcB (s : State) (b : Nat) (x : ScalarSlot) (imm : Nat) : Nat := if x.immB then signExtend 18 64 imm else s.sReg b x.b

/-- Lane `i` of a vector. -/
def lane32 (v i : Nat) : Nat := bits v (32 * i + 31) (32 * i)

/-- A vector of eight lanes. -/
def lanes32 (f : Nat → Nat) : Nat := ((List.range 8).map (fun i => f i % 2 ^ 32 * 2 ^ (32 * i))).sum

/-- Lanes of `new` where the mask has a 1, of `old` elsewhere. -/
def maskLanes (mask old new : Nat) : Nat := lanes32 (fun i => if bit mask i then lane32 new i else lane32 old i)

/-- The address of a load or a store: s[RA] + OFFSET, or + IMM, modulo 2^64. -/
def State.memAddr (s : State) (b : Nat) (x : MemSlot) (imm : Nat) : Nat :=
  (s.sReg b x.ra + (if x.immO then imm else x.offset.val)) % 2 ^ 64

/-- Octets of a SIZE. -/
def sizeOctets (z : Nat) : Nat := if z = 4 then 32 else 2 ^ z

/-- What a load puts into its register: sign-extended where SIGNED. -/
def loadValue (x : MemSlot) (d : Bytes) : Nat := if x.signed then signExtend (8 * d.length) 64 (ofLE d) else ofLE d

/-- The register RD of a load written, a vector for SIZE 4. -/
def State.putLoad (s : State) (b : Nat) (x : MemSlot) (d : Bytes) : State :=
  if x.size.val = 4 then s.setV b x.rd (ofLE d) else s.setS b x.rd (loadValue x d)

/-- The octets that a store takes from its register RD. -/
def State.storeOctets (s : State) (b : Nat) (x : MemSlot) : Bytes :=
  toLE (sizeOctets x.size) (if x.size.val = 4 then s.vReg b x.rd else s.sReg b x.rd)

end Sys2Proof.Machine
end

