-- ==== Sys2Proof/Machine/Arith.lean ====
section
/-!
DEFINITION. The scalar and the vector unit of a bench (R386, R387, R426, R427). Each operation reads its sources from the
state at issue, `s0`, and writes into `s`.
-/
namespace Sys2Proof.Machine

/-! ### Scalar operations (R426) -/

/-- Integers of 64 bits. -/
abbrev i64 (v : Nat) : Int := toInt 64 v

/-- A signed quotient truncated, 0 for a divisor of 0. -/
def quotS (a b : Nat) : Int := if b = 0 then 0 else Int.tdiv (i64 a) (i64 b)
/-- A signed remainder, 0 for a divisor of 0. -/
def remS (a b : Nat) : Int := if b = 0 then 0 else Int.tmod (i64 a) (i64 b)

/-- The result of an operation on sources A, B and C; `v` is source vector A of VGET. -/
def scalarResult (o : ScalarOp) (a b c v : Nat) : Nat :=
  match o with
  | .add => (a + b) % 2 ^ 64
  | .sub => subMod 64 a b
  | .and => a &&& b
  | .or => a ||| b
  | .xor => a ^^^ b
  | .shl => a <<< (b % 64) % 2 ^ 64
  | .shr => a >>> (b % 64)
  | .sar => ofInt 64 (i64 a / (2 : Int) ^ (b % 64))
  | .cmp => subMod 64 a b
  | .mov => b
  | .mul => a * b % 2 ^ 64
  | .divu => if b = 0 then 0 else a / b
  | .divs => ofInt 64 (quotS a b)
  | .remu => if b = 0 then 0 else a % b
  | .rems => ofInt 64 (remS a b)
  | .mins => if i64 a ≤ i64 b then a else b
  | .maxs => if i64 a ≤ i64 b then b else a
  | .fadd => f64.add a b
  | .fsub => f64.sub a b
  | .fmul => f64.mul a b
  | .fma => f64.fma a b c
  | .fdiv => f64.div a b
  | .fsqrt => f64.sqrt a
  | .fcmp => 0
  | .itof => f64.ofInteger (i64 a)
  | .ftoi => ofInt 64 (f64.toInteger (-(2 ^ 63)) (2 ^ 63 - 1) a)
  | .vget => f32.convert f64 (lane32 v (b % 8))

/-- The exact integer whose overflow V shows. -/
def scalarExact (o : ScalarOp) (a b : Nat) : Int :=
  match o with
  | .add => i64 a + i64 b
  | .sub => i64 a - i64 b
  | .mul => i64 a * i64 b
  | .divs => quotS a b
  | _ => 0

/-- A signed quotient that 64 bits do not hold: its value is open. -/
def divOverflows (o : ScalarOp) (a b : Nat) : Bool := o == .divs && overflows64 (quotS a b)

/-- The flags that an operation with SETF writes for result `r`. -/
def scalarFlags (o : ScalarOp) (a b r : Nat) : Nat :=
  match o with
  | .cmp => subFlags a b
  | .sub => subFlags a b
  | .fcmp => fcmpFlags a b
  | _ => resultFlags r false (scalarExact o a b)

/-- A scalar operation of bench `b`. -/
def State.runScalar (s0 s : State) (b : Nat) (o : ScalarOp) (x : ScalarSlot) (imm : Nat) : State :=
  let a := s0.srcA b x
  let y := s0.srcB b x imm
  let open' := divOverflows o a y
  let r := if open' then s.freeBelow (2 ^ 64) else scalarResult o a y (s0.srcC b x) (s0.vReg b x.a)
  let s := s.when open' State.drew
  let s := s.when (!o.isCmp) (·.setS b x.dst r)
  s.when x.setF (·.setTab Tab.benchFlags b (scalarFlags o a y r))

/-- A scalar operation that the scalar unit of a running bench performs by itself. -/
def State.unitScalar (s : State) (b : Nat) (o : ScalarOp) (x : ScalarSlot) (imm : Nat) : State :=
  if s.benchRuns b && scalarOk o x then s.runScalar s b o x imm else s

/-- ADD (R426). -/
def execAdd (b : BenchNo) (x : ScalarSlot) (imm : Fin 262144) (s : State) : Next := State.done (s.unitScalar b .add x imm)
/-- SUB (R426). -/
def execSub (b : BenchNo) (x : ScalarSlot) (imm : Fin 262144) (s : State) : Next := State.done (s.unitScalar b .sub x imm)
/-- AND (R426). -/
def execAnd (b : BenchNo) (x : ScalarSlot) (imm : Fin 262144) (s : State) : Next := State.done (s.unitScalar b .and x imm)
/-- OR (R426). -/
def execOr (b : BenchNo) (x : ScalarSlot) (imm : Fin 262144) (s : State) : Next := State.done (s.unitScalar b .or x imm)
/-- XOR (R426). -/
def execXor (b : BenchNo) (x : ScalarSlot) (imm : Fin 262144) (s : State) : Next := State.done (s.unitScalar b .xor x imm)
/-- SHL (R426): by B[5:0]. -/
def execShl (b : BenchNo) (x : ScalarSlot) (imm : Fin 262144) (s : State) : Next := State.done (s.unitScalar b .shl x imm)
/-- SHR (R426): logical, by B[5:0]. -/
def execShr (b : BenchNo) (x : ScalarSlot) (imm : Fin 262144) (s : State) : Next := State.done (s.unitScalar b .shr x imm)
/-- SAR (R426): arithmetic, by B[5:0]. -/
def execSar (b : BenchNo) (x : ScalarSlot) (imm : Fin 262144) (s : State) : Next := State.done (s.unitScalar b .sar x imm)
/-- CMP (R426): flags of A - B. -/
def execCmp (b : BenchNo) (x : ScalarSlot) (imm : Fin 262144) (s : State) : Next := State.done (s.unitScalar b .cmp x imm)
/-- MOV (R426): B. -/
def execMov (b : BenchNo) (x : ScalarSlot) (imm : Fin 262144) (s : State) : Next := State.done (s.unitScalar b .mov x imm)
/-- MUL (R426): low 64 bits. -/
def execMul (b : BenchNo) (x : ScalarSlot) (imm : Fin 262144) (s : State) : Next := State.done (s.unitScalar b .mul x imm)
/-- DIVU (R386, R426): by 0 gives 0. -/
def execDivu (b : BenchNo) (x : ScalarSlot) (imm : Fin 262144) (s : State) : Next := State.done (s.unitScalar b .divu x imm)
/-- DIVS (R386, R426). -/
def execDivs (b : BenchNo) (x : ScalarSlot) (imm : Fin 262144) (s : State) : Next := State.done (s.unitScalar b .divs x imm)
/-- REMU (R386, R426). -/
def execRemu (b : BenchNo) (x : ScalarSlot) (imm : Fin 262144) (s : State) : Next := State.done (s.unitScalar b .remu x imm)
/-- REMS (R386, R426). -/
def execRems (b : BenchNo) (x : ScalarSlot) (imm : Fin 262144) (s : State) : Next := State.done (s.unitScalar b .rems x imm)
/-- MINS (R426). -/
def execMins (b : BenchNo) (x : ScalarSlot) (imm : Fin 262144) (s : State) : Next := State.done (s.unitScalar b .mins x imm)
/-- MAXS (R426). -/
def execMaxs (b : BenchNo) (x : ScalarSlot) (imm : Fin 262144) (s : State) : Next := State.done (s.unitScalar b .maxs x imm)
/-- FADD (R387, R426). -/
def execFadd (b : BenchNo) (x : ScalarSlot) (imm : Fin 262144) (s : State) : Next := State.done (s.unitScalar b .fadd x imm)
/-- FSUB (R387, R426). -/
def execFsub (b : BenchNo) (x : ScalarSlot) (imm : Fin 262144) (s : State) : Next := State.done (s.unitScalar b .fsub x imm)
/-- FMUL (R387, R426). -/
def execFmul (b : BenchNo) (x : ScalarSlot) (imm : Fin 262144) (s : State) : Next := State.done (s.unitScalar b .fmul x imm)
/-- FMA (R387, R426): rounded once. -/
def execFma (b : BenchNo) (x : ScalarSlot) (imm : Fin 262144) (s : State) : Next := State.done (s.unitScalar b .fma x imm)
/-- FDIV (R387, R426). -/
def execFdiv (b : BenchNo) (x : ScalarSlot) (imm : Fin 262144) (s : State) : Next := State.done (s.unitScalar b .fdiv x imm)
/-- FSQRT (R387, R426). -/
def execFsqrt (b : BenchNo) (x : ScalarSlot) (imm : Fin 262144) (s : State) : Next := State.done (s.unitScalar b .fsqrt x imm)
/-- FCMP (R421, R426). -/
def execFcmp (b : BenchNo) (x : ScalarSlot) (imm : Fin 262144) (s : State) : Next := State.done (s.unitScalar b .fcmp x imm)
/-- ITOF (R426). -/
def execItof (b : BenchNo) (x : ScalarSlot) (imm : Fin 262144) (s : State) : Next := State.done (s.unitScalar b .itof x imm)
/-- FTOI (R426): ties to even, saturated, NaN gives 0. -/
def execFtoi (b : BenchNo) (x : ScalarSlot) (imm : Fin 262144) (s : State) : Next := State.done (s.unitScalar b .ftoi x imm)
/-- VGET (R426): a lane, widened. -/
def execVget (b : BenchNo) (x : ScalarSlot) (imm : Fin 262144) (s : State) : Next := State.done (s.unitScalar b .vget x imm)

/-! ### Vector operations (R427) -/

/-- The lesser of two FP32 values by the given order; where the order and the bits do not decide, it is open. -/
def minLane (less : Nat → Nat → Bool) (a b free : Nat) : Nat :=
  if less a b then a else if less b a then b else if f32.isNan a && f32.isNan b then f32.nanBits else if a = b then a else free

/-- Lane `i` of the result of a lane-wise operation; `sv` is s[SREG], `free` an open value. -/
def vectorLane (o : VectorOp) (va vb vc sv i free : Nat) : Nat :=
  let a := lane32 va i
  let b := lane32 vb i
  let c := lane32 vc i
  match o with
  | .vadd => f32.add a b
  | .vsub => f32.sub a b
  | .vmul => f32.mul a b
  | .vfma => f32.fma a b c
  | .vmin => minLane f32.less a b free
  | .vmax => minLane (fun x y => f32.less y x) a b free
  | .vcmplt => if f32.less a b then 0xFFFFFFFF else 0
  | .vsel => if c ≠ 0 then a else b
  | .vdiv => f32.div a b
  | .vsqrt => f32.sqrt a
  | .vhsum => 0
  | .vbcast => f64.convert f32 sv
  | .vshuf => lane32 va (bits sv (3 * i + 2) (3 * i))
  | .vcvti => ofInt 32 (f32.toInteger (-(2 ^ 31)) (2 ^ 31 - 1) a)
  | .vcvtf => f32.ofInteger (toInt 32 a)

/-- The horizontal sum of eight lanes, widened. -/
def horizontalSum (v : Nat) : Nat :=
  let l := lane32 v
  f32.convert f64 (f32.add (f32.add (f32.add (l 0) (l 1)) (f32.add (l 2) (l 3))) (f32.add (f32.add (l 4) (l 5)) (f32.add (l 6) (l 7))))

/-- A vector operation of bench `b`. -/
def State.runVector (s0 s : State) (b : Nat) (o : VectorOp) (x : VectorSlot) : State :=
  if o = .vhsum then s.setS b x.sreg (horizontalSum (s0.vReg b x.va))
  else
    let free := o == .vmin || o == .vmax
    let r := lanes32 (fun i => vectorLane o (s0.vReg b x.va) (s0.vReg b x.vb) (s0.vReg b x.vc) (s0.sReg b x.sreg) i
      (if free then Config.freeValue (s.freeCtr + i) else 0))
    let s := s.when free (fun s => { s with freeCtr := s.freeCtr + 8 })
    s.setV b x.vd (maskLanes x.mask (s0.vReg b x.vd) r)

/-- A vector operation that the vector unit of a running bench performs by itself. -/
def State.unitVector (s : State) (b : Nat) (o : VectorOp) (x : VectorSlot) : State :=
  if s.benchRuns b && vectorOk o x then s.runVector s b o x else s

/-- VADD (R427). -/
def execVadd (b : BenchNo) (x : VectorSlot) (s : State) : Next := State.done (s.unitVector b .vadd x)
/-- VSUB (R427). -/
def execVsub (b : BenchNo) (x : VectorSlot) (s : State) : Next := State.done (s.unitVector b .vsub x)
/-- VMUL (R427). -/
def execVmul (b : BenchNo) (x : VectorSlot) (s : State) : Next := State.done (s.unitVector b .vmul x)
/-- VFMA (R427). -/
def execVfma (b : BenchNo) (x : VectorSlot) (s : State) : Next := State.done (s.unitVector b .vfma x)
/-- VMIN (R427). -/
def execVmin (b : BenchNo) (x : VectorSlot) (s : State) : Next := State.done (s.unitVector b .vmin x)
/-- VMAX (R427). -/
def execVmax (b : BenchNo) (x : VectorSlot) (s : State) : Next := State.done (s.unitVector b .vmax x)
/-- VCMPLT (R427). -/
def execVcmplt (b : BenchNo) (x : VectorSlot) (s : State) : Next := State.done (s.unitVector b .vcmplt x)
/-- VSEL (R427). -/
def execVsel (b : BenchNo) (x : VectorSlot) (s : State) : Next := State.done (s.unitVector b .vsel x)
/-- VDIV (R427). -/
def execVdiv (b : BenchNo) (x : VectorSlot) (s : State) : Next := State.done (s.unitVector b .vdiv x)
/-- VSQRT (R427). -/
def execVsqrt (b : BenchNo) (x : VectorSlot) (s : State) : Next := State.done (s.unitVector b .vsqrt x)
/-- VHSUM (R427). -/
def execVhsum (b : BenchNo) (x : VectorSlot) (s : State) : Next := State.done (s.unitVector b .vhsum x)
/-- VBCAST (R427). -/
def execVbcast (b : BenchNo) (x : VectorSlot) (s : State) : Next := State.done (s.unitVector b .vbcast x)
/-- VSHUF (R427). -/
def execVshuf (b : BenchNo) (x : VectorSlot) (s : State) : Next := State.done (s.unitVector b .vshuf x)
/-- VCVTI (R427). -/
def execVcvti (b : BenchNo) (x : VectorSlot) (s : State) : Next := State.done (s.unitVector b .vcvti x)
/-- VCVTF (R427). -/
def execVcvtf (b : BenchNo) (x : VectorSlot) (s : State) : Next := State.done (s.unitVector b .vcvtf x)

end Sys2Proof.Machine
end

