-- ==== Sys2Proof/Machine/Crypto.lean ====
section
/-!
DEFINITION. The published functions that the spec names without restating them: CRC-32 (IEEE 802.3), CRC-32C, CRC-24
(RFC 4880's generator), SHA-384 (FIPS 180-4) and ECDSA over P-384 (FIPS 186-4) (R105, R137, R17, R180). PRESUMED:
taken from those standards (assumption log entry 6).
-/
namespace Sys2Proof.Machine

/-! ### CRCs -/

/-- One bit of a reflected CRC with polynomial `poly`. -/
def crcBit (poly c : Nat) : Nat := if c % 2 = 1 then (c / 2) ^^^ poly else c / 2

/-- One octet of a reflected CRC. -/
def crcByte (poly c b : Nat) : Nat :=
  crcBit poly (crcBit poly (crcBit poly (crcBit poly (crcBit poly (crcBit poly (crcBit poly (crcBit poly (c ^^^ b))))))))

/-- A reflected CRC-32 of octets, preset and complemented. -/
def crcReflected (poly : Nat) (b : Bytes) : Nat := (b.foldl (crcByte poly) 0xFFFFFFFF) ^^^ 0xFFFFFFFF

/-- CRC-32 of IEEE 802.3. -/
def crc32 (b : Bytes) : Nat := crcReflected 0xEDB88320 b

/-- CRC-32C. -/
def crc32c (b : Bytes) : Nat := crcReflected 0x82F63B78 b

/-! ### SHA-384 -/

/-- Rotation of a 64-bit word to the right. -/
def rotr64 (x n : Nat) : Nat := (x >>> n) ||| ((x <<< (64 - n)) % 2 ^ 64)

/-- The round constants. -/
def sha512K : List Nat :=
  [0x428A2F98D728AE22, 0x7137449123EF65CD, 0xB5C0FBCFEC4D3B2F, 0xE9B5DBA58189DBBC, 0x3956C25BF348B538, 0x59F111F1B605D019, 0x923F82A4AF194F9B, 0xAB1C5ED5DA6D8118, 0xD807AA98A3030242, 0x12835B0145706FBE, 0x243185BE4EE4B28C, 0x550C7DC3D5FFB4E2, 0x72BE5D74F27B896F, 0x80DEB1FE3B1696B1, 0x9BDC06A725C71235, 0xC19BF174CF692694] ++
  [0xE49B69C19EF14AD2, 0xEFBE4786384F25E3, 0x0FC19DC68B8CD5B5, 0x240CA1CC77AC9C65, 0x2DE92C6F592B0275, 0x4A7484AA6EA6E483, 0x5CB0A9DCBD41FBD4, 0x76F988DA831153B5, 0x983E5152EE66DFAB, 0xA831C66D2DB43210, 0xB00327C898FB213F, 0xBF597FC7BEEF0EE4, 0xC6E00BF33DA88FC2, 0xD5A79147930AA725, 0x06CA6351E003826F, 0x142929670A0E6E70] ++
  [0x27B70A8546D22FFC, 0x2E1B21385C26C926, 0x4D2C6DFC5AC42AED, 0x53380D139D95B3DF, 0x650A73548BAF63DE, 0x766A0ABB3C77B2A8, 0x81C2C92E47EDAEE6, 0x92722C851482353B, 0xA2BFE8A14CF10364, 0xA81A664BBC423001, 0xC24B8B70D0F89791, 0xC76C51A30654BE30, 0xD192E819D6EF5218, 0xD69906245565A910, 0xF40E35855771202A, 0x106AA07032BBD1B8] ++
  [0x19A4C116B8D2D0C8, 0x1E376C085141AB53, 0x2748774CDF8EEB99, 0x34B0BCB5E19B48A8, 0x391C0CB3C5C95A63, 0x4ED8AA4AE3418ACB, 0x5B9CCA4F7763E373, 0x682E6FF3D6B2B8A3, 0x748F82EE5DEFB2FC, 0x78A5636F43172F60, 0x84C87814A1F0AB72, 0x8CC702081A6439EC, 0x90BEFFFA23631E28, 0xA4506CEBDE82BDE9, 0xBEF9A3F7B2C67915, 0xC67178F2E372532B] ++
  [0xCA273ECEEA26619C, 0xD186B8C721C0C207, 0xEADA7DD6CDE0EB1E, 0xF57D4F7FEE6ED178, 0x06F067AA72176FBA, 0x0A637DC5A2C898A6, 0x113F9804BEF90DAE, 0x1B710B35131C471B, 0x28DB77F523047D84, 0x32CAAB7B40C72493, 0x3C9EBE0A15C9BEBC, 0x431D67C49C100D4C, 0x4CC5D4BECB3E42B6, 0x597F299CFC657E2A, 0x5FCB6FAB3AD6FAEC, 0x6C44198C4A475817]

/-- The initial value of SHA-384. -/
def sha384H : List Nat :=
  [0xCBBB9D5DC1059ED8, 0x629A292A367CD507, 0x9159015A3070DD17, 0x152FECD8F70E5939, 0x67332667FFC00B31, 0x8EB44A8768581511, 0xDB0C2E0D64F98FA7, 0x47B5481DBEFA4FA4]

/-- The next word of the message schedule; `w` holds the words so far, newest first. -/
def shaNextW (w : List Nat) : Nat :=
  let a := w.getD 1 0
  let b := w.getD 14 0
  let s1 := rotr64 a 19 ^^^ rotr64 a 61 ^^^ (a >>> 6)
  let s0 := rotr64 b 1 ^^^ rotr64 b 8 ^^^ (b >>> 7)
  (s1 + w.getD 6 0 + s0 + w.getD 15 0) % 2 ^ 64

/-- `n` more words of the schedule. -/
def shaExtend : Nat → List Nat → List Nat
  | 0, w => w
  | n + 1, w => shaExtend n (shaNextW w :: w)

/-- The working variables of a round. -/
structure ShaVars where
  a : Nat
  b : Nat
  c : Nat
  d : Nat
  e : Nat
  f : Nat
  g : Nat
  h : Nat
deriving DecidableEq, Repr

/-- One round. -/
def shaRound (v : ShaVars) (kw : Nat × Nat) : ShaVars :=
  let s1 := rotr64 v.e 14 ^^^ rotr64 v.e 18 ^^^ rotr64 v.e 41
  let ch := (v.e &&& v.f) ^^^ ((v.e ^^^ (2 ^ 64 - 1)) &&& v.g)
  let t1 := (v.h + s1 + ch + kw.1 + kw.2) % 2 ^ 64
  let s0 := rotr64 v.a 28 ^^^ rotr64 v.a 34 ^^^ rotr64 v.a 39
  let maj := (v.a &&& v.b) ^^^ (v.a &&& v.c) ^^^ (v.b &&& v.c)
  let t2 := (s0 + maj) % 2 ^ 64
  ⟨(t1 + t2) % 2 ^ 64, v.a, v.b, v.c, (v.d + t1) % 2 ^ 64, v.e, v.f, v.g⟩

/-- One block of 16 words. -/
def shaBlock (h : List Nat) (m : List Nat) : List Nat :=
  let w := (shaExtend 64 m.reverse).reverse
  let v0 : ShaVars := ⟨h.getD 0 0, h.getD 1 0, h.getD 2 0, h.getD 3 0, h.getD 4 0, h.getD 5 0, h.getD 6 0, h.getD 7 0⟩
  let v := (sha512K.zip w).foldl shaRound v0
  List.zipWith (fun x y => (x + y) % 2 ^ 64) h [v.a, v.b, v.c, v.d, v.e, v.f, v.g, v.h]

/-- A list cut into pieces of `n`, `k` of them. -/
def cut {α : Type} (n : Nat) : Nat → List α → List (List α)
  | 0, _ => []
  | k + 1, l => l.take n :: cut n k (l.drop n)

/-- The padded message. -/
def shaPad (m : Bytes) : Bytes :=
  let z := (128 - (m.length + 17) % 128) % 128
  m ++ [0x80] ++ List.replicate z 0 ++ toBE 16 (8 * m.length)

/-- SHA-384 of octets, as a 48-octet number. -/
def sha384 (m : Bytes) : Nat :=
  let p := shaPad m
  let words := (cut 8 (p.length / 8) p).map ofBE
  let h := (cut 16 (words.length / 16) words).foldl shaBlock sha384H
  (h.take 6).foldl (fun a x => a * 2 ^ 64 + x) 0

/-! ### ECDSA P-384 -/

namespace P384

/-- The field prime. -/
def p : Nat := 2 ^ 384 - 2 ^ 128 - 2 ^ 96 + 2 ^ 32 - 1
/-- The order of the base point. -/
def n : Nat := 0xFFFFFFFFFFFFFFFFFFFFFFFFFFFFFFFFFFFFFFFFFFFFFFFFC7634D81F4372DDF581A0DB248B0A77AECEC196ACCC52973
/-- The coefficient b; a is -3. -/
def b : Nat := 0xB3312FA7E23EE7E4988E056BE3F82D19181D9C6EFE8141120314088F5013875AC656398D8A2ED19D2A85C8EDD3EC2AEF
/-- The base point. -/
def gx : Nat := 0xAA87CA22BE8B05378EB1C71EF320AD746E1D3B628BA79B9859F741E082542A385502F25DBF55296C3A545E3872760AB7
def gy : Nat := 0x3617DE4A96262C6F5D9E98BF9292DC29F8F41DBD289A147CE9DA3113B5F0B8C00A60B1CE1D7E819D7A431D7C90EA0E5F

/-- The affine point lies on the curve. -/
def onCurve (x y : Nat) : Bool :=
  x < p && y < p && (y * y) % p == (x * x * x + (p - 3) * x + b) % p

/-- `a` to the power `e` modulo `m`, over the low `k` bits of `e`. -/
def powMod (m a e : Nat) : Nat → Nat
  | 0 => 1
  | k + 1 =>
    let h := powMod m (a * a % m) (e / 2) k
    if e % 2 = 1 then h * a % m else h

/-- The inverse modulo a prime. -/
def inv (m a : Nat) : Nat := powMod m a (m - 2) 384

/-- A point in Jacobian coordinates; z = 0 is the identity. -/
structure Pt where
  x : Nat
  y : Nat
  z : Nat
deriving DecidableEq, Repr

def sub (a c : Nat) : Nat := (a + p - c % p) % p

/-- Doubling. -/
def dbl (q : Pt) : Pt :=
  if q.z = 0 ∨ q.y = 0 then ⟨1, 1, 0⟩
  else
    let y2 := q.y * q.y % p
    let s := 4 * q.x * y2 % p
    let z2 := q.z * q.z % p
    let m := 3 * sub q.x z2 * (q.x + z2) % p
    let x := sub (m * m) (2 * s)
    let y := sub (m * sub s x) (8 * y2 * y2)
    ⟨x, y, 2 * q.y * q.z % p⟩

/-- Addition. -/
def add (q r : Pt) : Pt :=
  if q.z = 0 then r else if r.z = 0 then q
  else
    let z1 := q.z * q.z % p
    let z2 := r.z * r.z % p
    let u1 := q.x * z2 % p
    let u2 := r.x * z1 % p
    let s1 := q.y * r.z * z2 % p
    let s2 := r.y * q.z * z1 % p
    if u1 = u2 then (if s1 = s2 then dbl q else ⟨1, 1, 0⟩)
    else
      let h := sub u2 u1
      let w := sub s2 s1
      let h2 := h * h % p
      let h3 := h * h2 % p
      let v := u1 * h2 % p
      let x := sub (w * w) (h3 + 2 * v)
      let y := sub (w * sub v x) (s1 * h3)
      ⟨x, y, q.z * r.z * h % p⟩

/-- `k` times a point, over the low `n` bits of `k`. -/
def mul (q : Pt) (k : Nat) : Nat → Pt
  | 0 => ⟨1, 1, 0⟩
  | n + 1 =>
    let h := mul (dbl q) (k / 2) n
    if k % 2 = 1 then add h q else h

/-- The signature (r, s) of the 384-bit digest `e` verifies under the key (x, y). -/
def verify (x y e r s : Nat) : Bool :=
  onCurve x y && 1 ≤ r && r < n && 1 ≤ s && s < n &&
    (let w := inv n s
     let pt := add (mul ⟨gx, gy, 1⟩ (e * w % n) 384) (mul ⟨x, y, 1⟩ (r * w % n) 384)
     pt.z != 0 && (let zi := inv p pt.z; (pt.x * (zi * zi % p) % p) % n == r % n))

end P384

end Sys2Proof.Machine
end

