-- ==== Sys2Proof/Machine/Ledger.lean ====
section
/-!
DEFINITION. The tally's ledgers (R47 to R51, R343, R344, R348, R349, R356) and the counting of drops (R266, R268, R503):
the reports that every block makes, and the declaration of a discrepancy.
-/
namespace Sys2Proof.Machine

-- Ledger terms in the order of PARTITION_LEDGER (R356).
namespace Term
abbrev cellsHeld : Nat := 0
abbrev descQueued : Nat := 1
abbrev descInTx : Nat := 2
abbrev mcRefs : Nat := 3
abbrev accepted : Nat := 4
abbrev wholeDrops : Nat := 5
abbrev admittedFrames : Nat := 6
abbrev inPipeline : Nat := 7
abbrev admittedCopies : Nat := 8
abbrev transmitted : Nat := 9
abbrev lateDrops : Nat := 10
abbrev residentCopies : Nat := 11
abbrev refused : Nat := 12
abbrev discrepancies : Nat := 14
end Term

/-- The ledger that belongs to no partition: port 642 and the management reserve (R29, R343). -/
abbrev noPart : Nat := 16

/-- Holder codes (R348). A FRAME's INSTANCE is the frame's number (log entry 67). -/
def holder (kind inst : Nat) : Nat := kind * 2 ^ 28 + inst % 2 ^ 28

/-- KIND and INSTANCE of a holder code (R348). -/
def holderKind (h : Nat) : Nat := bits h 31 28
def holderInst (h : Nat) : Nat := bits h 27 0

/-- A ledger term of a partition, or of no partition (R343). -/
def State.term (s : State) (p k : Nat) : Nat := s.tab Tab.ledger (p * 32 + k)

/-- A holder is already fenced (R351). -/
def State.isFenced (s : State) (h : Nat) : Bool := s.fences.any (fun f => f.holder == h)

/-- An entry of the tally log (R356), counted; its partition counts it too. -/
def State.logTally (s : State) (quantity part h ledger found by_ outcome : Nat) : State :=
  let n := s.reg Reg.TALLY_CONTROL.DISCREPANCIES
  let e := (n % 2 ^ 16) * 2 ^ 240 + quantity * 2 ^ 232 + part * 2 ^ 224 + h * 2 ^ 192 + (ledger % 2 ^ 32) * 2 ^ 160
    + (found % 2 ^ 32) * 2 ^ 128 + s.stamp * 2 ^ 48 + by_ * 2 ^ 40 + outcome * 2 ^ 32
  let s := (s.setTab Tab.tallyLog (n % 16) e).setReg Reg.TALLY_CONTROL.DISCREPANCIES ((n + 1) % 2 ^ 64)
  let s := s.setReg Reg.TALLY_LOG.LOG_HEAD ((n + 1) % 2 ^ 16)
  s.when (part < 16) (fun s => s.setTab Tab.ledger (part * 32 + Term.discrepancies) (s.term part Term.discrepancies + 1))

/-- The log entry of discrepancy `n` waits for the re-check at the end of the next pass (R351). -/
def State.awaitSweep (s : State) (n : Nat) : State := s.setTab Tab.sweepWait (n % 16) (n + 1)

/-- Fence-then-reclaim is asked for on a holder (R351): no second fence where it is fenced already, none where nothing of the holder can be
fenced, or under HOLD after MGMT_DISCREPANCY (R559). `log`: the discrepancy that it answers. -/
def State.queueFence (s : State) (h : Nat) (log : Option Nat) : State :=
  if holderKind h = 0 ∨ s.tab Tab.fatal 1 = 1 then s
  else if s.isFenced h then (match log with | none => s | some n => s.awaitSweep n)
  else { s with fences := s.fences ++ [{ holder := h, state := 1, log := log, units := 0 }] }

/-- A discrepancy is declared (R51, R349, R356): logged, counted, DISCREPANCY raised, a fault log entry written, and fence-then-reclaim
asked for; one that names MANAGEMENT is fatal and fences nothing. -/
def State.discrepancy (s : State) (quantity part h ledger found by_ : Nat) : State :=
  let n := s.reg Reg.TALLY_CONTROL.DISCREPANCIES
  let mgmt := holderKind h == 15
  let s := s.logTally quantity part h ledger found by_ (if mgmt then 3 else 0)
  let e := s.tab Tab.tallyLog (n % 16)
  let s := s.event Reg.TALLY_CONTROL.EVENTS 0 0x1C00
  if mgmt then
    let s := s.fatalFault (s.reg Reg.STARTUP.FATAL_ACTION) 0x03 0x1C00 part (faultData 32 e)
    s.when (s.tab Tab.fatal 0 == 0) (·.setTab Tab.fatal 1 1)
  else (s.logFault 0x02 0 0 0x1C00 part (faultData 32 e)).queueFence h (some n)

/-- A report that adds `n` units to a term (R343). -/
def State.report (s : State) (p k n : Nat) : State := s.setTab Tab.ledger (p * 32 + k) (s.term p k + n)

/-- The sum of a ledger term over the partitions: the device's term (R343). -/
def State.termSum (s : State) (k : Nat) : Nat := ((List.range 16).map (fun p => s.term p k)).sum

/-- Units of the free cells or descriptors that a ledger term of `k` is taken from: all of them, less what the terms hold. -/
def State.ledgerFree (s : State) (k : Nat) : Nat :=
  if k = Term.cellsHeld then 786432 - s.termSum k - s.term noPart k
  else 1048576 - s.termSum Term.descQueued - s.term noPart Term.descQueued - s.termSum Term.descInTx - s.term noPart Term.descInTx

/-- A report that allocates `n` cells or descriptors to a term on behalf of a holder: from a free term that is too small it is impossible,
and a discrepancy of the quantity (R344). -/
def State.allocate (s : State) (p k n h : Nat) : State :=
  if s.ledgerFree k < n then
    s.discrepancy (if k = Term.cellsHeld then 1 else 2) (if p < 16 then p else 0xFF) h (s.ledgerFree k) n 0
  else s.report p k n

/-- A report that takes `n` units from a term on behalf of a holder; taking from a term that is too small is
impossible, and a discrepancy of the quantity (R344). -/
def State.unreport (s : State) (p k n h quantity : Nat) : State :=
  if s.term p k < n then s.discrepancy quantity (if p < 16 then p else 0xFF) h (s.term p k) n 0
  else s.setTab Tab.ledger (p * 32 + k) (s.term p k - n)

-- Outcomes of a drop (R266): 0 W whole, 1 C refused copy, 2 L late drop.
namespace Outcome
abbrev whole : Nat := 0
abbrev refused : Nat := 1
abbrev late : Nat := 2
end Outcome

/-- The drop slot of an outcome and reason (R503). -/
def dropSlot (outcome reason : Nat) : Option Nat :=
  let at' (l : List Nat) (base : Nat) : Option Nat := (l.findIdx? (· == reason)).map (base + ·)
  match outcome with
  | 0 =>
    if 1 ≤ reason ∧ reason ≤ 14 then some (reason - 1)
    else if 19 ≤ reason ∧ reason ≤ 27 then some (reason - 5)
    else if 34 ≤ reason ∧ reason ≤ 36 then some (reason - 11)
    else if 128 ≤ reason ∧ reason ≤ 255 then some 26
    else if reason = 30 then some 39
    else if reason = 31 then some 57
    else if reason = 33 then some 58
    else at' [15, 16, 18, 28, 29] 27
  | 1 => at' [11, 15, 16, 18, 28, 29, 30] 32
  | _ =>
    if 128 ≤ reason ∧ reason ≤ 255 then some 54
    else if reason = 16 then some 55
    else if reason = 18 then some 56
    else at' [1, 2, 3, 5, 6, 11, 15, 17, 27, 31, 32, 33, 34, 35] 40

/-- A drop is counted under its reason (R48, R266, R268, R503); codes 0 and 37 to 127 are never counted. -/
def State.countDrop (s : State) (outcome port reason : Nat) : State :=
  if reason = 0 ∨ (37 ≤ reason ∧ reason ≤ 127) then s else
  let i := outcome * 256 + reason
  let s := s.setTab Tab.dropTotal i ((s.tab Tab.dropTotal i + 1) % 2 ^ 64)
  match dropSlot outcome reason with
  | none => s
  | some k => s.count (Ctr.drop port k)

/-- A copy's drop counts in DROPS of its queue too (R502). -/
def State.countCopyDrop (s : State) (outcome port q reason : Nat) : State :=
  (s.countDrop outcome port reason).count (Ctr.queue port q 3)

end Sys2Proof.Machine
end

