-- ==== Sys2Proof/Machine/Ports.lean ====
section
/-!
DEFINITION. Port forms and rates (R12, R14, R32, R144, R168, R174, R185), transmission times (R314), and the gate
engines' lists (R309 to R317): what a list opens at an instant, when it closes, and its longest windows.
-/
namespace Sys2Proof.Machine

/-! ### Forms -/

/-- KIND of a port: 0 unused, 1 Ethernet fabric, 2 Dalzan, 3 host, 4 bench, 5 management (R185). -/
def State.portKind (s : State) (p : Nat) : Nat := s.reg (Reg.PORT.KIND p)

/-- Rate in Gbit/s of a speed code (R168). -/
def speedRate (code : Nat) : Nat :=
  match code with
  | 1 => 10 | 2 => 25 | 3 => 50 | 4 => 100 | 5 => 200 | 6 => 400 | 7 => 800 | 8 => 400 | _ => 0

/-- Rate of a port in Gbit/s: 100 for a bench port, 10 for port 642 (R32, R168). -/
def State.portRate (s : State) (p : Nat) : Nat :=
  if p = 642 then 10 else if 514 ≤ p then 100 else speedRate (s.reg (Reg.PORT.PORT_SPEED p))

/-- LINK_STATE is UP (R174). -/
def State.portUp (s : State) (p : Nat) : Bool := s.reg (Reg.PORT.LINK_STATE p) == 3

/-- MAX_FRAME of a port. -/
def State.maxFrame (s : State) (p : Nat) : Nat := s.reg (Reg.PORT.MAX_FRAME p)

/-- The partition of a port; port 642 has none (R28, R29). -/
def State.portPart (s : State) (p : Nat) : Nat := if p = 642 then noPart else s.reg (Reg.PORT.PARTITION p)

/-- T_cw in ps of a form (R144). -/
def tcwPs (speed fec : Nat) : Nat :=
  if fec = 1 then 204800
  else if fec = 2 then (if speed = 3 then 102400 else if speed ≤ 5 then 51200 else 25600)
  else 0

/-- The receive bound of R144 in ps; 0 for an internal port. -/
def rxLatencyPs (speed fec : Nat) : Nat :=
  if speed = 1 then 24000
  else if speed = 2 then (if fec = 1 then 40000 + tcwPs speed fec else 20000)
  else if speed = 8 then 12000
  else if 3 ≤ speed ∧ speed ≤ 7 then 86400 + tcwPs speed fec
  else 0

/-- The transmit bound of R144 in ps; 0 for an internal port. -/
def txLatencyPs (speed fec : Nat) : Nat :=
  if speed = 1 then 16000
  else if speed = 2 then (if fec = 1 then 20000 else 14000)
  else if speed = 8 then 8000
  else if 3 ≤ speed ∧ speed ≤ 7 then 24000
  else 0

/-- The egress or ingress pipeline of a port, host ports by hash (R14). -/
def pipeOf (p : Nat) (hash : Nat) : Nat :=
  if p < 512 then p / 8
  else if p = 512 then hash % 32
  else if p = 513 then 32 + hash % 32
  else if p = 642 then 63
  else (p - 514) / 2

/-! ### Transmission times (R314) -/

/-- The time in ps that `n` octets of frame take at `rate` Gbit/s, preamble, or the blocks of a Dalzan link, included. -/
def wireTime (dalzan : Bool) (rate n : Nat) : Nat :=
  let t0 := ((if dalzan then 0 else 8) + n) * 8000 / rate
  if dalzan then t0 + 2400 * (ceilDiv t0 40000 + 1) else t0

/-- The time in ps that `n` octets of frame take on port `p`. -/
def State.wirePs (s : State) (p n : Nat) : Nat := wireTime (s.portKind p == 2) (s.portRate p) n

/-- The octets that T counts of a frame of length `len` on port `p` (R314). -/
def State.grown (s : State) (p len : Nat) : Nat := min (max (len + 14) 64) (s.maxFrame p)

/-- T(L) in ps (R314). -/
def State.txTimePs (s : State) (p len : Nat) : Nat := s.wirePs p (s.grown p len)

/-- The kerf K in ps (R314). -/
def State.kerfPs (s : State) (p : Nat) : Nat := s.wirePs p (s.maxFrame p)

/-- Nanoseconds of an instant in 2^-48 ns, rounded up. -/
def nsCeil (t : Nat) : Nat := ceilDiv t nsUnit

/-! ### Gate lists (R309, R314) -/

/-- A gate engine with no list. -/
def GatePort.none : GatePort := ⟨Option.none, Option.none⟩

/-- The gate engine of port `p`. -/
def State.gate (s : State) (p : Nat) : GatePort := s.gates.get (fun _ => GatePort.none) p

/-- The state with the gate engine of port `p` replaced. -/
def State.setGate (s : State) (p : Nat) (g : GatePort) : State :=
  { s with gates := s.gates.set (fun _ => GatePort.none) p g }

/-- Phase of instant `t` (2^-48 ns) in the list's cycle, in 2^-48 ns: boundaries are BASE_TIME + n CYCLE_NS for every
integer n. -/
def GateList.phase (l : GateList) (t : Nat) : Nat :=
  (((t : Int) - (l.base * nsUnit : Nat)) % ((l.cycle * nsUnit : Nat) : Int)).toNat

/-- The entries from the one that holds phase `ph` on, once round, with what is left of it first: masks and lengths in
2^-48 ns. `seen` are the entries before, latest first. -/
def GateList.from (ph : Nat) : List (Nat × Nat) → List (Nat × Nat) → List (Nat × Nat)
  | seen, [] => seen.reverse.map (fun e => (e.1, e.2 * nsUnit))
  | seen, e :: t =>
    if ph < e.2 * nsUnit then
      (e.1, e.2 * nsUnit - ph) :: (t ++ seen.reverse ++ [e]).map (fun e => (e.1, e.2 * nsUnit))
    else GateList.from (ph - e.2 * nsUnit) (e :: seen) t

/-- The entries in force from instant `t`, once round. -/
def GateList.ahead (l : GateList) (t : Nat) : List (Nat × Nat) := GateList.from (l.phase t) [] l.entries

/-- The mask in force at instant `t`. -/
def GateList.maskAt (l : GateList) (t : Nat) : Nat := match l.ahead t with | [] => 0 | e :: _ => e.1

/-- How long queue `q`'s gate stays open along entries; none when it is open throughout. -/
def openRun (q : Nat) : List (Nat × Nat) → Option Nat
  | [] => none
  | e :: t => if bit e.1 q then (openRun q t).map (e.2 + ·) else some 0

/-- The instant at which queue `q`'s gate, seen from `t`, next closes; none when it never does. -/
def GateList.closeAt (l : GateList) (q t : Nat) : Option Nat := (openRun q (l.ahead t)).map (t + ·)

/-- The first boundary at or after instant `t`, in ns. -/
def GateList.boundary (l : GateList) (tNs : Nat) : Nat :=
  let ph := (((tNs : Int) - l.base) % (l.cycle : Int)).toNat
  if ph = 0 then tNs else tNs + (l.cycle - ph)

/-- The longest run of open entries of queue `q` in a sequence, in ns. -/
def longestRun (q : Nat) (l : List (Nat × Nat)) : Nat :=
  (l.foldl (fun (a : Nat × Nat) e => if bit e.1 q then (a.1 + e.2, max a.2 (a.1 + e.2)) else (0, a.2)) (0, 0)).2

/-- W_q in ns (R317), the list treated as circular; 0xFFFFFFFF without limit. -/
def GateList.longest (l : GateList) (q : Nat) : Nat :=
  if l.entries.all (fun e => bit e.1 q) then 0xFFFFFFFF else longestRun q (l.entries ++ l.entries)

/-- W_q of port `p` under its active list (R317). -/
def State.longestWindow (s : State) (p q : Nat) : Nat :=
  match (s.gate p).active with | none => 0xFFFFFFFF | some l => l.longest q

/-- The gates of port `p` at instant `t` (R304, R309, R311): the safe gates, the list, or all open. -/
def State.gateMask (s : State) (p t : Nat) : Nat :=
  if s.reg (Reg.GATE_PORT.IN_SAFE_STATE p) = 1 then s.reg (Reg.GATE_PORT.SAFE_GATES p)
  else match (s.gate p).active with | none => 0xFFFF | some l => l.maskAt t

/-- The instant in ns at which a pending list of port `p` swaps (R304, R311): S, or the first boundary after the entry to LOCKED where that
lay later; none while a list that reached S while SETTLING still waits for that entry. -/
def State.swapInstant (s : State) (p : Nat) : Option Nat :=
  let g := s.gate p
  match g.pending with
  | none => none
  | some (nl, swap) =>
    let e := s.tab Tab.sticky 9 - 1
    if s.tab Tab.gateWaits p = 1 ∧ s.tab Tab.sticky 9 = 0 then none
    else if e ≤ swap then some swap
    else match g.active, nl with
      | some l, _ => some (l.boundary e)
      | none, some l => some (l.boundary e)
      | none, none => some e

/-- The instant at which queue `q`'s gate, open at `t`, next closes (R312, R314): across a pending swap a window goes
on only if the new list holds the gate open from the swap. Safe gates never close. -/
def State.gateClose (s : State) (p q t : Nat) : Option Nat :=
  if s.reg (Reg.GATE_PORT.IN_SAFE_STATE p) = 1 then none
  else
    let own := match (s.gate p).active with | none => none | some l => l.closeAt q t
    match (s.gate p).pending, s.swapInstant p with
    | none, _ => own
    | _, none => own
    | some (nl, _), some swap =>
      let sw := swap * nsUnit
      if t < sw && (match own with | none => true | some c => decide (sw ≤ c)) then
        match nl with
        | none => none
        | some l => if bit (l.maskAt sw) q then l.closeAt q sw else some sw
      else own

/-- A copy that takes `ps` picoseconds may start at instant `t` (R315): its gate is open, as GATE_STATE and the list say, and it
ends by the close. -/
def State.gateAllows (s : State) (p q t ps : Nat) : Bool :=
  bit (s.reg (Reg.GATE_PORT.GATE_STATE p)) q && bit (s.gateMask p t) q &&
    (match s.gateClose p q t with | none => true | some c => decide (t * 1000 + ps * nsUnit ≤ c * 1000))

end Sys2Proof.Machine
end

