-- ==== Sys2Proof/Machine/Resv.lean ====
section
/-!
DEFINITION. Reservations (R37 to R46, R323 to R328, R334, R335, R342): the record, the conditions and causes of
suspension, the changes of state, and the totals that the objects show.
-/
namespace Sys2Proof.Machine

/-! ### The record (R323) -/

def resvValid (v : Nat) : Bool := bit v 255
def resvPostcard (v : Nat) : Bool := bit v 254
def resvMulti (v : Nat) : Bool := bit v 253
def resvCbValid (v : Nat) : Bool := bit v 252
def resvIngress (v : Nat) : Nat := bits v 247 232
def resvEgress (v : Nat) : Nat := bits v 231 216
def resvQueue (v : Nat) : Nat := bits v 215 212
def resvPart (v : Nat) : Nat := bits v 211 208
def resvPolicer (v : Nat) : Nat := bits v 207 191
def resvMaxFrame (v : Nat) : Nat := bits v 175 160
def resvMinFrame (v : Nat) : Nat := bits v 159 144
def resvLimitNs (v : Nat) : Nat := bits v 143 112
def resvStream (v : Nat) : Nat := bits v 111 100
/-- A reserved bit of the record is set. -/
def resvReservedSet (v : Nat) : Bool := bits v 251 248 != 0 || bits v 190 176 != 0 || bits v 99 0 != 0

/-- The live element of reservation `n`. -/
def State.resvRecord (s : State) (n : Nat) : Nat := s.tab (Tab.win 0x6810) n

/-- The ports of a group element, rising; `skip` is pruned under R262. -/
def groupPorts (g skip : Nat) : List Nat :=
  (List.range 643).filter (fun p => bit g p && !(bit g 766 && p == skip))

/-- The group element `g` (R270). -/
def State.group (s : State) (g : Nat) : Nat := s.tab (Tab.win 0x4100) g

/-- The egress ports of a record: the port, or the ports of its group after pruning. -/
def State.resvPorts (s : State) (v : Nat) : List Nat :=
  if resvMulti v then groupPorts (s.group (resvEgress v)) (resvIngress v) else [resvEgress v]

/-- The state of reservation `n` (R327). -/
def State.resvSt (s : State) (n : Nat) : Nat := s.tab Tab.resvState n

/-- The reservations that are not FREE, rising. -/
def State.resvList (s : State) : List Nat := (s.tabList Tab.resvState).map (·.1)

/-- A reservation ACTIVE or SUSPENDED: admitted, with a record in force. -/
def State.resvLive (s : State) (n : Nat) : Bool := s.resvSt n == 2 || s.resvSt n == 3

/-! ### Fenced holders (R348, R350) -/

/-- The partition of a queue, port or bench, as the holder that a partition fence names; another kind has none. -/
def State.partHolder (s : State) (kind inst : Nat) : Option Nat :=
  if kind = 2 then some (holder 8 (s.portPart (inst / 16)))
  else if kind = 3 then some (holder 8 (s.portPart inst))
  else if kind = 5 then some (holder 8 (s.portPart (514 + inst)))
  else none

/-- A holder of the given kind and number is fenced: itself, or with its partition. -/
def State.fenced (s : State) (kind inst : Nat) : Bool :=
  s.isFenced (holder kind inst) || (match s.partHolder kind inst with | none => false | some h => s.isFenced h)

/-- The pipelines of a port (R14): a host port has 32. -/
def pipesOf (p : Nat) : List Nat :=
  if p = 512 then List.range 32 else if p = 513 then (List.range 32).map (32 + ·) else [pipeOf p 0]

/-- The port takes no frames because of a fence: its own, its bench's or its pipeline's. -/
def State.ingressFenced (s : State) (p : Nat) : Bool :=
  s.fenced 3 p || (514 ≤ p && p ≤ 641 && s.fenced 5 (p - 514)) || (pipesOf p).any (s.fenced 1 ·)

/-- A frame of port `p` for pipeline `i` is refused because of a fence (R350): of the port, of its bench, or of that pipeline. -/
def State.frameFenced (s : State) (p i : Nat) : Bool :=
  s.fenced 3 p || (514 ≤ p && p ≤ 641 && s.fenced 5 (p - 514)) || s.fenced 1 i

/-! ### Causes (R39, R328) -/

/-- The port's form differs from the one recorded at admission. -/
def State.formDiffers (s : State) (p : Nat) : Bool :=
  p < 514 && (s.reg (Reg.PORT.PORT_SPEED p) != s.reg (Reg.RESV_PORT.ADMITTED_SPEED p)
    || s.reg (Reg.PORT.FEC_MODE p) != s.reg (Reg.RESV_PORT.ADMITTED_FEC p))

/-- A supply, a reference clock or the junction is outside operating conditions (R39 bit 5): a bit of RATINGS is set. -/
def State.outsideRatings (s : State) : Bool := s.reg Reg.POWER_STATE.RATINGS != 0

/-- The causes of R39 that hold for a record now. -/
def State.resvCauses (s : State) (v : Nat) : Nat :=
  let i := resvIngress v
  let q := resvQueue v
  let es := s.resvPorts v
  ofBool (!s.portUp i || s.formDiffers i || s.ingressFenced i)
    + 2 * ofBool (es.any (fun e => !s.portUp e || s.fenced 3 e))
    + 4 * ofBool (es.any s.formDiffers)
    + 8 * ofBool (!s.timeLocked)
    + 16 * ofBool (s.tab Tab.sticky 0 != 0)
    + 32 * ofBool s.outsideRatings
    + 64 * ofBool (es.any (fun e => s.portKind e == 2 && (s.tab Tab.creditFault (4 * e + q / 4) != 0 || s.fenced 4 e)))
    + 128 * ofBool (es.any (fun e => s.tab Tab.queueFault (16 * e + q) != 0))
    + 256 * ofBool (s.tab Tab.sticky 1 != 0)

/-- The causes of reservation `n`, whose new causes `c` have just been found: bits that arise set LINK or
POWER_THERMAL, the transition into SUSPENDED sets ADMISSION (R45), and the instant of the last clearing is kept. -/
def State.setCauses (s : State) (n c : Nat) : State :=
  let arisen := c - (c &&& s.tab Tab.resvCause n)
  let s := s.when (c == 0 && s.tab Tab.resvCause n != 0) (fun s =>
    (s.setTab Tab.resvClear n s.clock.ptp).clearTabRange Tab.resvDrained (n * 1024) ((n + 1) * 1024))
  let s := s.setTab Tab.resvCause n c
  let s := s.when (s.resvSt n == 2 && c != 0) (fun s => (s.setTab Tab.resvState n 3).trigger 0x1C40)
  let s := s.when (arisen % 8 != 0) (·.trigger 0x1C43)
  s.when (bit arisen 5) (·.trigger 0x1C44)

/-- The causes of every reservation that is ACTIVE or SUSPENDED follow the conditions (R39). -/
def State.refreshResvs (s : State) : State :=
  s.forAll (s.resvList.filter s.resvLive) (fun s n => s.setCauses n (s.resvCauses (s.resvRecord n)))

/-- A cause that arises and ends within one command: every live reservation is suspended under `c` (a set of bits of
R39) and its causes are then those that hold. -/
def State.suspendAll (s : State) (c : Nat) : State :=
  (s.forAll (s.resvList.filter s.resvLive) (fun s n => s.setCauses n (s.tab Tab.resvCause n ||| c))).refreshResvs

/-! ### Totals and port records (R328, R342) -/

/-- The staged elements of an accepted commit of 0x6810 that waits for its instant. -/
def State.scheduledResvs (s : State) : List (Nat × Nat) :=
  match s.stagings.find? (fun g => g.window == 0x6810 && g.state == 3) with
  | none => []
  | some g => g.elems

/-- The records that name ports: live ones, accepted ones that wait, and earlier versions not yet drained. -/
def State.namingRecords (s : State) : List (Nat × Nat) :=
  (s.resvList.filter s.resvLive).map (fun n => (n, s.resvRecord n)) ++ s.scheduledResvs.filter (fun e => resvValid e.2)
    ++ s.oldResv.map (fun o => (o.n, o.record))

/-- The port is named by a record, as ingress or as egress. -/
def State.namesPort (s : State) (p v : Nat) : Bool := resvIngress v == p || (s.resvPorts v).contains p

/-- Port `p`'s recorded form (R328) and count of reservations: the form is recorded when the first reservation names
the port and cleared when none does. -/
def State.refreshResvPort (s : State) (p : Nat) : State :=
  let named := s.namingRecords.any (fun r => s.namesPort p r.2)
  let had := s.tab Tab.resvPortNamed p == 1
  let s := s.when (named && !had) (fun s => (s.setReg (Reg.RESV_PORT.ADMITTED_SPEED p) (s.reg (Reg.PORT.PORT_SPEED p))).setReg
    (Reg.RESV_PORT.ADMITTED_FEC p) (s.reg (Reg.PORT.FEC_MODE p)))
  let s := s.when (!named && had) (fun s => ((s.resetReg (Reg.RESV_PORT.ADMITTED_SPEED p)).resetReg
    (Reg.RESV_PORT.ADMITTED_FEC p)).resetReg (Reg.RESV_PORT.WORST_Q_NS p))
  let s := s.setTab Tab.resvPortNamed p (ofBool named)
  s.setReg (Reg.RESV_PORT.RESV_COUNT p)
    (((s.namingRecords.filter (fun r => (s.resvPorts r.2).contains p)).map (·.1)).eraseDups.length)

/-- Totals of 0x6800 and the port records follow the reservations. -/
def State.refreshResvTotals (s : State) : State :=
  let l := s.resvList
  let s := s.setReg Reg.ADMISSION_CONTROL.RESV_ADMITTED l.length
  let s := s.setReg Reg.ADMISSION_CONTROL.CELLS_HELD
    ((l.map (s.tab Tab.resvCells ·)).sum + (s.oldResv.map (·.cells)).sum)
  let s := s.setReg Reg.ADMISSION_CONTROL.DESC_HELD
    ((l.map (s.tab Tab.resvDesc ·)).sum + (s.oldResv.map (·.desc)).sum)
  let ports := s.namingRecords.flatMap (fun r => resvIngress r.2 :: s.resvPorts r.2)
  let had := (s.tabList Tab.resvPortNamed).map (·.1)
  s.forAll (ports ++ had).eraseDups State.refreshResvPort

/-! ### Withdrawal and drain (R43, R335) -/

/-- Everything that reservation `n` holds goes: it is FREE (R327). -/
def State.freeResv (s : State) (n : Nat) : State :=
  let s := s.forAll [Tab.resvState, Tab.resvCause, Tab.resvDmax, Tab.resvDmin, Tab.resvCells, Tab.resvDesc, Tab.resvReturn,
    Tab.resvClear] (fun s t => s.setTab t n 0)
  let s := s.forAll [Tab.resvD, Tab.resvDminPort, Tab.resvDrained] (fun s t => s.clearTabRange t (n * 1024) ((n + 1) * 1024))
  { s with oldBounds := s.oldBounds.filter (fun b => b.n != n) }

/-- The version `v` of reservation `n` is kept until it has drained: at epoch `e`, or where `e` is none until no
frame carries it (R43, R335). -/
def State.keepOld (s : State) (n v cells desc : Nat) (e : Option Nat) : State :=
  { s with oldResv := s.oldResv ++ [{ n := n, record := v, cells := cells, desc := desc, epoch := e }] }

/-- Reservation `n` is WITHDRAWN (R43), its version kept until it drains; its record is no longer VALID. `byHost`: a deletion by
the host (R45). -/
def State.withdraw (s : State) (n : Nat) (e : Option Nat) (byHost : Bool) : State :=
  if s.resvLive n || s.resvSt n == 1 then
    let s := s.when (s.resvLive n) (fun s => s.keepOld n (s.resvRecord n) (s.tab Tab.resvCells n) (s.tab Tab.resvDesc n) e)
    let s := (s.setTab Tab.resvCells n 0).setTab Tab.resvDesc n 0
    let s := s.setTab (Tab.win 0x6810) n (setBit (s.resvRecord n) 255 false)
    let s := s.setTab Tab.resvState n 4
    s.when (!byHost) (·.trigger 0x1C41)
  else s

/-- Epochs that still have frames resident, counted back from LOOKUP_EPOCH: how far DRAINED_EPOCH is behind (R236). A frame whose lookups
are still to come, or that has reached its last outcome, is resident in none. -/
def State.epochLag (s : State) : Nat :=
  (s.frames.map (fun f => if f.stage = 0 ∨ f.stage = 3 then 0 else subMod 32 (s.reg Reg.LOOKUP_CONTROL.LOOKUP_EPOCH) f.epoch)).foldl max 0

/-- DRAINED_EPOCH (R236). -/
def State.drainedEpoch (s : State) : Nat := subMod 32 (s.reg Reg.LOOKUP_CONTROL.LOOKUP_EPOCH) s.epochLag

/-- DRAINED_EPOCH has reached epoch `e`. -/
def State.epochReached (s : State) (e : Nat) : Bool :=
  s.epochLag ≤ subMod 32 (s.reg Reg.LOOKUP_CONTROL.LOOKUP_EPOCH) e

/-- A kept version has drained. -/
def State.oldDrained (s : State) (o : OldResv) : Bool :=
  match o.epoch with
  | some e => s.epochReached e
  | none => !s.frames.any (fun f => f.resv == some (o.n, o.record))

/-- The old version of a policer's number is still held (R335). -/
def State.policerHeld (s : State) (i : Nat) : Bool := s.oldResv.any (fun o => resvPolicer o.record == i)

/-! ### 802.1CB history (R337, R338) -/

/-- The history of stream `i` is reset, and that is counted in RESETS (R337, R338). -/
def State.resetHistory (s : State) (i : Nat) : State :=
  let e := s.tab (Tab.win 0x6C01) i
  (s.setTab Tab.cbHistory i 0).setTab (Tab.win 0x6C01) i (setBits e 95 64 (bits e 95 64 + 1))

/-! ### Coverage (R37, R41, R42, R44) -/

/-- The bound that a frame with ingress timestamp `ts` is held to on port `e`, in ns (R42): that of the first change after it, or the one
in force. -/
def State.boundFor (s : State) (n e ts : Nat) : Nat :=
  match s.oldBounds.find? (fun b => b.n == n && b.port == e && decide (ts < b.until')) with
  | some b => b.d
  | none => s.tab Tab.resvD (n * 1024 + e)

/-- A copy of queue `q` has left port `e`; its frame came at `ts`. Where it came before the causes of a reservation of the queue cleared,
the queue is not drained before now (R41). -/
def State.copyLeft (s : State) (e q ts : Nat) : State :=
  s.forAll (s.resvList.filter (fun n => s.resvSt n == 3 && s.tab Tab.resvCause n == 0 && resvQueue (s.resvRecord n) == q
      && (s.resvPorts (s.resvRecord n)).contains e && decide (ts < s.tab Tab.resvClear n)))
    (fun s n => s.setTab Tab.resvDrained (n * 1024 + e) s.clock.ptp)

end Sys2Proof.Machine
end

