-- ==== Sys2Proof/Machine/Calculator.lean ====
section
/-!
DEFINITION. The admission calculator (R329 to R333): windows of a queue, the service they give, the bound D of a
reservation on an egress port, what it holds, and the verdict on a configuration. Times are rational picoseconds,
rates bits a picosecond.
-/
namespace Sys2Proof.Machine

/-! ### Windows of a queue on a time line (R314, R330) -/

/-- A window of a queue: when it opens and closes, and whether no other gate is open at any instant of it. -/
structure QWindow where
  opens : Rat
  closes : Rat
  exclusive : Bool
deriving DecidableEq, Repr

/-- An entry of a time line: start, end, gates. -/
structure GateSpan where
  start : Rat
  stop : Rat
  gates : Nat
deriving DecidableEq, Repr

/-- The windows of queue `q`, in order: runs of entries whose gate is open. -/
def queueWindows (q : Nat) : List GateSpan → List QWindow
  | [] => []
  | e :: t =>
    if bit e.gates q then
      let own := e.gates == 2 ^ q
      match queueWindows q t with
      | w :: ws => if w.opens = e.stop then ⟨e.start, w.closes, own && w.exclusive⟩ :: ws else ⟨e.start, e.stop, own⟩ :: w :: ws
      | [] => [⟨e.start, e.stop, own⟩]
    else queueWindows q t

/-- Entries laid out from instant `t`. -/
def layOut (t : Rat) : List (Nat × Nat) → List GateSpan
  | [] => []
  | (m, ns) :: l => let u := t + (ns : Rat) * 1000; ⟨t, u, m⟩ :: layOut u l

/-- `n` cycles of a list from a boundary at instant `t`. -/
def GateList.cycles (l : GateList) (t : Rat) (n : Nat) : List GateSpan :=
  layOut t ((List.replicate n l.entries).flatten)

/-- The parts of windows in which a copy that takes `f` may start (R330), from instant `from'` on. -/
def effectiveParts (f from' : Rat) (ws : List QWindow) : List (Rat × Rat) :=
  ws.filterMap (fun w =>
    let a := max w.opens from'
    let b := w.closes - f
    if a < b then some (a, b) else none)

/-- The parts less the first `b` of their time. -/
def dropFirst (b : Rat) : List (Rat × Rat) → List (Rat × Rat)
  | [] => []
  | (x, y) :: t => if y - x ≤ b then dropFirst (b - (y - x)) t else (x + b, y) :: t

/-! ### Service and demand (R330) -/

/-- The curves of one queue: the rate B', α_H = `hBurst` + `hRate` t, α_q = `burst` + `rate` t, the queue shaper's
rate where it is enabled. -/
structure Curves where
  serve : Rat
  hBurst : Rat
  hRate : Rat
  burst : Rat
  rate : Rat
  shaper : Option Rat
deriving DecidableEq, Repr

/-- beta at a time `u` by which `served` picoseconds of service have been given. -/
def Curves.beta (c : Curves) (served u : Rat) : Rat :=
  let b := max 0 (c.serve * served - c.hBurst - c.hRate * u)
  match c.shaper with | none => b | some r => min b (r * u)

/-- The earliest time at which the shaper lets `y` bits pass. -/
def Curves.shaperTime (c : Curves) (y : Rat) : Rat := match c.shaper with | none => 0 | some r => y / r

/-- What serv - α_H is at time `u` when `served` picoseconds of service have been given. -/
def Curves.rest (c : Curves) (served u : Rat) : Rat := c.serve * served - c.hBurst - c.hRate * u

/-- The parts, each with the time at which the next begins, where there is one. -/
def withNext : List (Rat × Rat) → List (Rat × Rat × Option Rat)
  | [] => []
  | (a, b) :: t => (a, b, t.head?.map (·.1)) :: withNext t

/-- Time `u` lies in the gap that follows a part. -/
def inGap (b : Rat) (next : Option Rat) (u : Rat) : Bool :=
  decide (b < u) && (match next with | none => true | some n => decide (u < n))

/-- The first time at which beta reaches `y` (with `strict`, exceeds it); the parts lie after time 0. In the gap after a part the service
stands still, and beta grows only as the shaper lets it. -/
def Curves.reach (c : Curves) (strict : Bool) (y : Rat) : Rat → List (Rat × Rat × Option Rat) → Option Rat
  | _, [] => none
  | served, (a, b, next) :: t =>
    let u := max a (max (a + (y - c.rest served a) / (c.serve - c.hRate)) (c.shaperTime y))
    let w := c.shaperTime y
    let served' := served + (b - a)
    if u < b || (u == b && !strict) then some u
    else if inGap b next w && (y < c.rest served' w || (y == c.rest served' w && !strict)) then some w
    else c.reach strict y served' t

/-- The first time at which beta catches up with α_q: the end of the longest backlog. -/
def Curves.catchUp (c : Curves) : Rat → List (Rat × Rat × Option Rat) → Option Rat
  | _, [] => none
  | served, (a, b, next) :: t =>
    let slope := c.serve - c.hRate - c.rate
    let w := match c.shaper with | none => 0 | some r => c.burst / (r - c.rate)
    let u := max a (max ((c.burst - c.rest served a + (c.serve - c.hRate) * a) / slope) w)
    let served' := served + (b - a)
    if u ≤ b then some u
    else if inGap b next w && decide (c.burst + c.rate * w ≤ c.rest served' w) then some w
    else c.catchUp served' t

/-- The largest value that beta has had by the end of each part and of the gap behind it, in which a shaper can still let it grow. -/
def Curves.peaks (c : Curves) : Rat → Rat → List (Rat × Rat × Option Rat) → List Rat
  | _, _, [] => []
  | best, served, (a, b, next) :: t =>
    let s := served + (b - a)
    let gap := match c.shaper with
      | none => 0
      | some r =>
        let u := (c.serve * s - c.hBurst) / (r + c.hRate)
        match next with
        | none => if b < u then r * u else 0
        | some n => if b < u then r * min u n else 0
    let m := max best (max (c.beta s b) gap)
    m :: c.peaks m s t

/-- dev of R330 for one start: the largest wait of a bit of α_q, at time 0 and at every later time whose bit just
misses a part; none when no finite time serves it (DEDUCED, log entry 12). -/
def Curves.dev (c : Curves) (raw : List (Rat × Rat)) : Option Rat :=
  let parts := withNext raw
  match c.reach false c.burst 0 parts, c.catchUp 0 parts with
  | some u0, some tEnd =>
    let later := if c.rate = 0 then [] else
      (c.peaks 0 0 parts).filterMap (fun m =>
        if c.burst ≤ m ∧ (m - c.burst) / c.rate < tEnd then
          (c.reach true m 0 parts).map (fun u => u - (m - c.burst) / c.rate)
        else none)
    some (later.foldl max u0)
  | _, _ => none

/-! ### The members of a queue (R330, R332, R335) -/

/-- A version of a reservation that the calculator counts: its number, its record, and whether it is an earlier one
that only keeps its share until it has drained. -/
structure ResvVersion where
  n : Nat
  record : Nat
  old : Bool
deriving DecidableEq, Repr

/-- Every version that counts: live records, accepted records that wait, earlier versions not yet drained. -/
def State.resvVersions (s : State) : List ResvVersion :=
  (s.resvList.filter s.resvLive).map (fun n => ⟨n, s.resvRecord n, false⟩)
    ++ (s.scheduledResvs.filter (fun e => resvValid e.2)).map (fun e => ⟨e.1, e.2, false⟩)
    ++ s.oldResv.map (fun o => ⟨o.n, o.record, true⟩)

/-- CIR in kbit/s and CBS in octets of a record's policer (R286). -/
def State.policerElem (s : State) (i : Nat) : Nat := s.tab (Tab.win 0x5600) i
def State.resvCir (s : State) (v : Nat) : Nat := bits (s.policerElem (resvPolicer v)) 215 184
def State.resvCbs (s : State) (v : Nat) : Nat := bits (s.policerElem (resvPolicer v)) 183 160

/-- A in ps (R329): 41 + ⌊(c − 1) ÷ 16⌋ core clocks for `c` copies. -/
def State.waitA (s : State) (v : Nat) : Nat := 625 * (41 + ((s.resvPorts v).length - 1) / 16)

/-- σ′ in octets (R330). -/
def State.sigma (s : State) (v : Nat) : Nat :=
  s.resvCbs v + ceilDiv (s.resvCir v * 125 * (s.waitA v + 40000)) (10 ^ 12)

/-- A record uses queue `q` of port `e`. -/
def State.usesQueue (s : State) (v e q : Nat) : Bool := resvQueue v == q && (s.resvPorts v).contains e

/-- The share of one reservation in α_q, octets and kbit/s, from its versions on the queue: during a change the
larger σ′ with the smaller burst added, and the larger CIR (R332). -/
def State.share (s : State) (vs : List Nat) : Nat × Nat :=
  match vs with
  | [] => (0, 0)
  | [v] => (s.sigma v, s.resvCir v)
  | _ => ((vs.map s.sigma).foldl max 0 + (vs.map s.resvCbs).foldl min (s.resvCbs (vs.headD 0)), (vs.map s.resvCir).foldl max 0)

/-- σ′ and CIR summed over the reservations on queue `q` of port `e`. -/
def State.demand (s : State) (e q : Nat) : Nat × Nat :=
  let on := s.resvVersions.filter (fun r => s.usesQueue r.record e q)
  ((on.map (·.n)).eraseDups.map (fun n => s.share ((on.filter (·.n == n)).map (·.record)))).foldl
    (fun a b => (a.1 + b.1, a.2 + b.2)) (0, 0)

/-! ### The form that the calculator computes in (R328) -/

/-- Speed and FEC codes of port `p`: the recorded ones, or the configured ones. -/
def State.calcForm (s : State) (p : Nat) : Nat × Nat :=
  if s.tab Tab.resvPortNamed p = 1 then (s.reg (Reg.RESV_PORT.ADMITTED_SPEED p), s.reg (Reg.RESV_PORT.ADMITTED_FEC p))
  else (s.reg (Reg.PORT.PORT_SPEED p), s.reg (Reg.PORT.FEC_MODE p))

/-- The rate of port `p` in that form; internal ports have one rate. -/
def State.calcRate (s : State) (p : Nat) : Nat := if 514 ≤ p then s.portRate p else speedRate (s.calcForm p).1

/-- The time in ps that `n` octets take on port `p` in that form. -/
def State.calcWirePs (s : State) (p n : Nat) : Nat := wireTime (s.portKind p == 2) (s.calcRate p) n

/-! ### Queue parameters -/

/-- Entry `q` of a 16 × U32 sub-index. -/
def State.u32At (s : State) (k q : Nat) : Nat := entryAt 16 4 (s.reg k) q

/-- Queue `q` of port `e` is strict (R272). -/
def State.isStrict (s : State) (e q : Nat) : Bool := bit (s.reg (Reg.PORT_SCHED.STRICT_MASK e)) q

/-- kbit/s as bits a picosecond. -/
def perPs (kbps : Nat) : Rat := (kbps : Rat) / 10 ^ 9

/-- B′ in bits a picosecond (R330). -/
def State.servePs (s : State) (e : Nat) : Rat :=
  let b : Rat := (s.calcRate e : Rat) / 1000
  if s.reg (Reg.PORT_SCHED.PSHAPE_ENABLE e) = 1 then min b (perPs (s.reg (Reg.PORT_SCHED.PSHAPE_RATE e))) else b

/-- Cut-through is asked for from port `i` to queue `q` of port `e` (R256). -/
def State.wantsCut (s : State) (i e q : Nat) : Bool :=
  s.reg (Reg.PORT_BUFFER.CT_INGRESS i) == 1 && bit (s.reg (Reg.PORT_BUFFER.CT_QUEUES e)) q

/-- A frame from port `i` to queue `q` of port `e` is cut-through (R256). -/
def State.cutThrough (s : State) (i e q : Nat) : Bool := s.wantsCut i e q && decide (s.portRate e ≤ s.portRate i)

/-- It is in the form of the calculator (R328). -/
def State.calcCut (s : State) (i e q : Nat) : Bool := s.wantsCut i e q && decide (s.calcRate e ≤ s.calcRate i)

/-- Copies of a record may be of unknown length on queue `q` of port `e` (R330). -/
def State.mayBeUnknown (s : State) (v e q : Nat) : Bool :=
  s.calcCut (resvIngress v) e q && s.reg (Reg.PORT_PARSE.PARSE_DEPTH (resvIngress v)) < resvMaxFrame v

/-- f_q in ps (R330). -/
def State.frameTime (s : State) (e q : Nat) : Nat :=
  let on := s.resvVersions.filter (fun r => s.usesQueue r.record e q)
  if on.any (fun r => s.mayBeUnknown r.record e q) then s.calcWirePs e (s.maxFrame e)
  else s.calcWirePs e (s.grown e ((on.map (fun r => resvMaxFrame r.record)).foldl max 0))

/-- The strict queues above `q` whose gate is open together with q's in one of the lists (R330). -/
def State.rivals (s : State) (e q : Nat) (lists : List (Option GateList)) : List Nat :=
  (List.range 16).filter (fun h => q < h && s.isStrict e h &&
    lists.any (fun l => match l with | none => true | some l => l.entries.any (fun x => bit x.1 q && bit x.1 h)))

/-- The curves of queue `q` of port `e` under the lists of one evaluation; none when a rival is unshaped (R330). -/
def State.curves (s : State) (e q : Nat) (lists : List (Option GateList)) : Option Curves :=
  let hs := s.rivals e q lists
  if hs.any (fun h => !bit (s.reg (Reg.PORT_SCHED.QSHAPE_ENABLE e)) h) then none
  else
    let d := s.demand e q
    let per := s.maxFrame e + s.reg (Reg.PORT_SCHED.OVERHEAD e)
    some { serve := s.servePs e
           hBurst := ((hs.map (fun h => 8 * (s.u32At (Reg.PORT_SCHED.QSHAPE_BURST e) h + per))).sum : Nat)
           hRate := perPs (hs.map (fun h => s.u32At (Reg.PORT_SCHED.QSHAPE_RATE e) h)).sum
           burst := (8 * d.1 : Nat)
           rate := perPs d.2
           shaper := if bit (s.reg (Reg.PORT_SCHED.QSHAPE_ENABLE e)) q then
             some (perPs (s.u32At (Reg.PORT_SCHED.QSHAPE_RATE e) q)) else none }

/-! ### One evaluation (R330, R332) -/

/-- What an evaluation runs over: one list for ever, or one list up to the swap instant and another from it. -/
inductive GateRun where
  | steady (l : Option GateList)
  | swap (l l' : Option GateList) (at' : Nat)
deriving DecidableEq, Repr

/-- The lists that take part. -/
def GateRun.lists : GateRun → List (Option GateList)
  | .steady l => [l]
  | .swap l l' _ => [l, l']

/-- The effective open time of queue `q` in one cycle of a list, and the cycle, in ps; a port without a list counts
its whole time. -/
def openShare (f : Rat) (q : Nat) : Option GateList → Rat × Rat
  | none => (1, 1)
  | some l =>
    let c : Rat := (l.cycle : Rat) * 1000
    let parts := effectiveParts f c (queueWindows q (l.cycles 0 4))
    ((parts.map (fun p => max 0 (min p.2 (2 * c) - p.1))).sum, c)

/-- The curves leave no room for the queue under one of the lists (R330); a queue shaper that is not faster than the
demand leaves none either (log entry 12). -/
def Curves.overloaded (c : Curves) (f : Rat) (q : Nat) (lists : List (Option GateList)) : Bool :=
  lists.any (fun l => let w := openShare f q l; c.serve * (w.1 / w.2) ≤ c.rate + c.hRate)
    || (match c.shaper with | none => false | some r => r ≤ c.rate)

/-- A time by which beta has caught up with α_q, from any start, under one of the lists. -/
def Curves.horizon (c : Curves) (f k : Rat) (q : Nat) (lists : List (Option GateList)) : Rat :=
  let one := fun l =>
    let w := openShare f q l
    let cy := match l with | none => 0 | some _ => w.2
    (c.burst + c.hBurst + c.serve * (2 * cy + k + f)) / (c.serve * (w.1 / w.2) - c.hRate - c.rate) + 2 * cy
  (lists.map one).foldl max 0 + (match c.shaper with | none => 0 | some r => c.burst / (r - c.rate))

/-- Cycles of `c` ps that cover a time. -/
def cyclesFor (h c : Rat) : Nat := (h / c).ceil.toNat + 2

/-- The time line of an evaluation, from `back` cycles before time 0 on: time 0 is a boundary, or the swap
instant. -/
def GateRun.line (r : GateRun) (h : Rat) : List GateSpan :=
  match r with
  | .steady none => [⟨-h, 2 * h, 0xFFFF⟩]
  | .steady (some l) => l.cycles (-((l.cycle : Rat) * 1000)) (cyclesFor h ((l.cycle : Rat) * 1000) + 3)
  | .swap l l' at' =>
    let before := match l with
      | none => [⟨-h, 0, 0xFFFF⟩]
      | some l => l.cycles (-(3 * (l.cycle : Rat) * 1000)) 3
    let after := match l' with
      | none => [⟨0, 2 * h, 0xFFFF⟩]
      | some l' =>
        let ahead := (l'.ahead (at' * nsUnit)).map (fun e => (e.1, e.2 / nsUnit))
        layOut 0 (ahead ++ (List.replicate (cyclesFor h ((l'.cycle : Rat) * 1000) + 2) ahead).flatten)
    before ++ after

/-- The starts τ of an evaluation lie in this interval (R330, R332). -/
def GateRun.starts (r : GateRun) : Rat × Rat :=
  match r with
  | .steady none => (0, 0)
  | .steady (some l) => (0, (l.cycle : Rat) * 1000)
  | .swap (some l) _ _ => (-((l.cycle : Rat) * 1000), 0)
  | .swap none (some l') _ => (-((l'.cycle : Rat) * 1000), 0)
  | .swap none none _ => (0, 0)

/-- The largest dev of queue `q` over the starts of an evaluation; none without a finite bound. -/
def Curves.worstDev (c : Curves) (f k : Rat) (q : Nat) (r : GateRun) : Option Rat :=
  if c.overloaded f q r.lists then none
  else
    let h := c.horizon f k q r.lists
    let ws := queueWindows q (r.line h)
    let (lo, hi) := r.starts
    let edges := ws.flatMap (fun w => [w.opens, w.closes, w.closes - f])
    let taus := (lo :: hi :: edges.flatMap (fun x => [x, x - k, x + k])).filter (fun t => lo ≤ t && t ≤ hi)
    taus.eraseDups.foldl (fun acc tau =>
      match acc with
      | none => none
      | some m =>
        let inside := ws.any (fun w => w.opens ≤ tau && tau < w.closes)
        let next := ws.find? (fun w => tau < w.opens)
        let b := if !inside && (match next with | none => false | some w => w.exclusive) then 0 else k
        let parts := (dropFirst b (effectiveParts f tau ws)).map (fun p => (p.1 - tau, p.2 - tau))
        (c.dev parts).map (max m ·)) (some 0)

/-! ### The bound (R329, R331, R333) -/

/-- The evaluations of a port: its list, and with a change pending the new list and the swap (R332). -/
def State.gateRuns (s : State) (e : Nat) : List GateRun :=
  let g := s.gate e
  match g.pending with
  | none => [.steady g.active]
  | some (l', at') => [.steady g.active, .steady l', .swap g.active l' at']

/-- w_s in core clocks for a frame of `len` octets (R329). -/
def State.parseWait (s : State) (i len : Nat) : Nat :=
  ceilDiv (8000 * min (s.reg (Reg.PORT_PARSE.PARSE_DEPTH i)) len) (625 * s.calcRate i)

/-- The bounds of a record on one egress port: D and Dmin in ns, Q in ps rounded up. -/
structure Bound where
  d : Nat
  dmin : Nat
  q : Nat
deriving DecidableEq, Repr

/-- Q of a record on port `e` in ps (R330). -/
def State.queueDelay (s : State) (v e : Nat) : Option Rat :=
  let q := resvQueue v
  let f : Rat := (s.frameTime e q : Nat)
  let k : Rat := (s.calcWirePs e (s.maxFrame e) : Nat)
  let devs := (s.gateRuns e).map (fun r => match s.curves e q r.lists with | none => none | some c => c.worstDev f k q r)
  let worst := devs.foldl (fun a d => match a, d with | some a, some d => some (max a d) | _, _ => none) (some (0 : Rat))
  worst.map (fun w =>
    (w - 8 * (resvMinFrame v : Rat) / s.servePs e + 625) * (1 + (s.reg Reg.TIME_UNIT.SLEW_MAX_PPB : Rat) / 10 ^ 9))

/-- The bound of a record on egress port `e` (R329, R331); none without a finite one. -/
def State.bound (s : State) (v e : Nat) : Option Bound :=
  (s.queueDelay v e).map (fun q =>
    let i := resvIngress v
    let fi := s.calcForm i
    let fe := s.calcForm e
    let rx := if 514 ≤ i then 0 else rxLatencyPs fi.1 fi.2
    let rxMin := if 514 ≤ i ∨ tcwPs fi.1 fi.2 = 0 then 0 else rx - tcwPs fi.1 fi.2
    let w := s.parseWait i (resvMaxFrame v)
    let wait := if s.calcCut i e (resvQueue v) then 0
      else 625 * (ceilDiv (8000 * resvMaxFrame v) (625 * s.calcRate i)) - 625 * w
    let rest : Nat := rx + 625 * (w + 46) + s.waitA v + wait + txLatencyPs fe.1 fe.2
    { d := (((rest : Rat) + q) / 1000).ceil.toNat
      dmin := (rxMin + 625 * (s.parseWait i (resvMinFrame v) + 46)) / 1000
      q := (q / 1000).ceil.toNat })

/-- The bounds of a record on all its egress ports; the port at which there is none. -/
def State.boundsOf (s : State) (v : Nat) : Except Nat (List (Nat × Bound)) :=
  (s.resvPorts v).foldl (fun acc e =>
    match acc with
    | .error x => .error x
    | .ok l => match s.bound v e with | none => .error e | some b => .ok (l ++ [(e, b)])) (.ok [])

/-- Frames that can be in the device at once (R333). -/
def State.framesHeld (s : State) (v dMax : Nat) : Nat :=
  ceilDiv (s.sigma v * 10 ^ 9 + s.resvCir v * 125 * dMax) (10 ^ 9 * resvMinFrame v)

/-- CELLS_r and DESC_r (R333). -/
def State.cellsOf (s : State) (v dMax : Nat) : Nat := s.framesHeld v dMax * ceilDiv (resvMaxFrame v) 256
def State.descOf (s : State) (v dMax : Nat) : Nat := s.framesHeld v dMax * (s.resvPorts v).length

/-! ### The verdict (R329) -/

/-- A refusal: cause, egress port and reservation, each where one is concerned. -/
structure Reject where
  cause : Nat
  port : Option Nat
  resv : Option Nat
deriving DecidableEq, Repr

/-- What the calculator found for one version. -/
structure Finding where
  version : ResvVersion
  bounds : List (Nat × Bound)
  cells : Nat
  desc : Nat
deriving DecidableEq, Repr

def Finding.dMax (f : Finding) : Nat := (f.bounds.map (·.2.d)).foldl max 0
def Finding.dMin (f : Finding) : Nat := match f.bounds with | [] => 0 | b :: _ => b.2.dmin

/-- PFC or PAUSE reception would pause queue `q` of port `e` (R38, R178, R288). -/
def State.pausable (s : State) (e q : Nat) : Bool :=
  (e < 512 && (List.range 8).any (fun i => bit (s.reg (Reg.PORT_PFC.RX_ENABLE e)) i
      && bit (entryAt 8 2 (s.reg (Reg.PORT_PFC.PAUSE_MAP e)) i) q))
    || (e < 514 && s.reg (Reg.PORT.PAUSE_RX_ENABLE e) == 1)

/-- A record fails on its own account, or finds a bound it may not have. -/
def State.judge (s : State) (r : ResvVersion) : Except Reject Finding :=
  let v := r.record
  let no : Nat → Nat → Except Reject Finding := fun c p => .error ⟨c, some p, some r.n⟩
  match (s.resvPorts v).find? (fun e => !s.isStrict e (resvQueue v)) with
  | some e => no 3 e
  | none =>
    match (s.resvPorts v).find? (fun e => s.pausable e (resvQueue v)) with
    | some e => no 6 e
    | none =>
      match s.boundsOf v with
      | .error e => no 2 e
      | .ok l =>
        match l.find? (fun b => resvLimitNs v != 0 && resvLimitNs v < b.2.d) with
        | some b => no 1 b.1
        | none =>
          let d := (l.map (·.2.d)).foldl max 0
          .ok ⟨r, l, s.cellsOf v d, s.descOf v d⟩

/-- A version put in its place among versions in ascending number. -/
def insertVersion (r : ResvVersion) : List ResvVersion → List ResvVersion
  | [] => [r]
  | x :: l => if r.n < x.n then r :: x :: l else x :: insertVersion r l

/-- Every version that holds a promise judged in ascending number, up to the first refusal: earlier ones too while their reservation is
admitted, of which nothing is found anew (R335). -/
def State.judgeAll (s : State) : Except Reject (List Finding) :=
  let vs := s.resvVersions.filter (fun r => !r.old || s.resvLive r.n)
  (vs.foldl (fun l r => insertVersion r l) []).foldl (fun acc r =>
    match acc with
    | .error x => .error x
    | .ok l => match s.judge r with | .error x => .error x | .ok f => .ok (if r.old then l else l ++ [f])) (.ok [])

/-- The lowest-numbered element of `own`, the VALID elements that a commit stages, whose holding as `held` gives it the commit adds or
increases; where it increases none, the versions it adds are held beside the old ones, and it is the lowest of these (R329). -/
def State.blame (s : State) (own : List Nat) (fs : List Finding) (p : Finding → Bool) (held : Finding → Bool) : Option Nat :=
  let mine := fs.filter (fun f => own.contains f.version.n && f.version.record != s.resvRecord f.version.n && p f)
  match mine.find? held with | some f => some f.version.n | none => mine.head?.map (·.version.n)

/-- The element holds more than its reservation does now. -/
def State.holdsMore (s : State) (f : Finding) : Bool :=
  decide (s.tab Tab.resvCells f.version.n < f.cells) || decide (s.tab Tab.resvDesc f.version.n < f.desc)

/-- The element holds more cells on queue `q` of port `e` than its reservation does now. -/
def State.holdsMoreOn (s : State) (e q : Nat) (f : Finding) : Bool :=
  let n := f.version.n
  !(s.resvLive n && s.usesQueue (s.resvRecord n) e q) || decide (s.tab Tab.resvCells n < f.cells)

/-- The Dalzan queue whose partner's grant is too small for the cells of the reservations on it (R333). -/
def State.shortGrant (s : State) (fs : List Finding) : Option (Nat × Nat) :=
  (fs.flatMap (fun f => (s.resvPorts f.version.record).map (fun e => (e, resvQueue f.version.record)))).find? (fun eq =>
    s.portKind eq.1 == 2 &&
      entryAt 16 2 (s.reg (Reg.PORT.PARTNER_GRANT eq.1)) eq.2
        < ((fs.filter (fun f => s.usesQueue f.version.record eq.1 eq.2)).map (·.cells)).sum
          + ((s.oldResv.filter (fun o => s.usesQueue o.record eq.1 eq.2)).map (·.cells)).sum)

/-- The verdict of the calculator on the configuration of a state (R329 to R333); `own` are the VALID elements of the commit of 0x6810 that
is judged, if it is one. -/
def State.evaluate (s : State) (own : List Nat) : Except Reject (List Finding) :=
  match s.judgeAll with
  | .error x => .error x
  | .ok fs =>
    if s.reg Reg.BUFFER_CONFIG.RESV_POOL_CELLS < (fs.map (·.cells)).sum + (s.oldResv.map (·.cells)).sum
        ∨ s.reg Reg.BUFFER_CONFIG.RESV_POOL_DESC < (fs.map (·.desc)).sum + (s.oldResv.map (·.desc)).sum then
      .error ⟨4, none, s.blame own fs (fun _ => true) s.holdsMore⟩
    else
      match s.shortGrant fs with
      | some (e, q) => .error ⟨7, some e, s.blame own fs (fun f => s.usesQueue f.version.record e q) (s.holdsMoreOn e q)⟩
      | none => .ok fs

/-! ### Acting on a verdict -/

/-- The cells and descriptors of one finding held (R333, R342). -/
def State.storeHeld (s : State) (f : Finding) : State :=
  (s.setTab Tab.resvCells f.version.n f.cells).setTab Tab.resvDesc f.version.n f.desc

/-- The bounds of reservation `n` by port. -/
def State.boundsHeld (s : State) (n : Nat) : List (Nat × Nat) :=
  (SMap.between (tabKey Tab.resvD (n * 1024)) (tabKey Tab.resvD ((n + 1) * 1024)) s.tabs).map (fun e => (e.1 - tabKey Tab.resvD (n * 1024), e.2))

/-- The bounds of one finding come into force at instant `from'` (R42, R342): those that they replace are kept for frames that came before
it. -/
def State.storeBounds (s : State) (from' : Nat) (f : Finding) : State :=
  let n := f.version.n
  let had := s.boundsHeld n
  let s := (s.setTab Tab.resvDmax n f.dMax).setTab Tab.resvDmin n f.dMin
  let s := s.when (had != f.bounds.map (fun b => (b.1, b.2.d))) (fun s =>
    let s : State := { s with oldBounds := s.oldBounds.filter (fun b => s.frames.any (fun g => decide (g.ts < b.until')))
                        ++ had.map (fun b => ⟨n, b.1, b.2, from'⟩) }
    let s := s.forAll [Tab.resvD, Tab.resvDminPort] (fun s t => s.clearTabRange t (n * 1024) ((n + 1) * 1024))
    s.forAll f.bounds (fun s b => s.setTab Tab.resvD (n * 1024 + b.1) b.2.d))
  s.forAll f.bounds (fun s b => s.setTab Tab.resvDminPort (n * 1024 + b.1) b.2.dmin)

/-- WORST_Q_NS of the ports of a list of findings, and of every port that is named (R342). -/
def State.storeWorstQ (s : State) (fs : List Finding) : State :=
  let all := fs.flatMap (fun f => f.bounds.map (fun b => (b.1, resvQueue f.version.record, b.2.q)))
  s.forAll ((s.tabList Tab.resvPortNamed).map (·.1) ++ all.map (·.1)).eraseDups (fun s e =>
    s.setReg (Reg.RESV_PORT.WORST_Q_NS e)
      ((List.range 16).foldl (fun v q => setEntry 16 4 v q
        (((all.filter (fun x => x.1 == e && x.2.1 == q)).map (·.2.2)).foldl max 0)) 0))

/-- What the calculator finds now, of the versions that are in force or wait to be: nothing where it has no reservation, or finds one
unbounded. -/
def State.findings (s : State) : Option (List Finding) :=
  if s.resvList.isEmpty then none
  else match s.evaluate [] with
    | .error _ => none
    | .ok fs => some (fs.filter (fun f => s.resvSt f.version.n == 1 || f.version.record == s.resvRecord f.version.n))

/-- The bounds in force are computed again, after a change that came into force at instant `from'`. -/
def State.refreshBounds (s : State) (from' : Nat) : State :=
  match s.findings with
  | none => s.when (!s.resvList.isEmpty) State.refreshResvTotals
  | some fs => ((s.forAll fs (fun s f => (s.storeHeld f).storeBounds from' f)).storeWorstQ fs).refreshResvTotals

/-- What is held follows a change that waits for its instant (R42, R333): bounds in force stay, and those of new reservations show. -/
def State.refreshHeld (s : State) : State :=
  match s.findings with
  | none => s.when (!s.resvList.isEmpty) State.refreshResvTotals
  | some fs =>
    (s.forAll fs (fun s f => (s.storeHeld f).when (s.resvSt f.version.n == 1) (fun s => s.storeBounds s.clock.ptp f))).refreshResvTotals

/-- Drained versions go, and a WITHDRAWN reservation with none left returns to FREE (R335); their shares leave the calculator, and
the bounds in force are computed again. -/
def State.drainResvs (s : State) : State :=
  if s.oldResv.any s.oldDrained || s.resvList.any (fun n => s.resvSt n == 4 && !s.oldResv.any (·.n == n)) then
    let s := { s with oldResv := s.oldResv.filter (fun o => !s.oldDrained o) }
    let s := s.forAll (s.resvList.filter (fun n => s.resvSt n == 4 && !s.oldResv.any (·.n == n))) State.freeResv
    (s.refreshBounds s.clock.ptp).refreshResvTotals
  else s

/-- A refusal of the calculator recorded and answered (R329, R81). REJECT_PORT is free where no egress port is concerned. -/
def State.rejected (s : State) (code : Nat) (x : Reject) : Res :=
  let s := s.setReg Reg.ADMISSION_CONTROL.REJECT_CAUSE x.cause
  let s := match x.port with
    | some p => s.setReg Reg.ADMISSION_CONTROL.REJECT_PORT p
    | none => (s.setReg Reg.ADMISSION_CONTROL.REJECT_PORT (s.freeBelow 65536)).drew
  match x.resv with
  | some n => Res.failResv s code n
  | none => Res.fail s code 0

/-- A change evaluated (R329): `s'` is the configuration with the change; where it passes, the change is applied, and bounds come into
force at once, or with `waits` when the change does (R42). `own` as in `evaluate`. -/
def State.evaluated (s s' : State) (code : Nat) (own : List Nat) (waits : Bool) (apply : State → State) : Res :=
  let s := s.bump Reg.ADMISSION_CONTROL.EVALUATIONS 64
  match s'.evaluate own with
  | .error x => s.rejected code x
  | .ok _ => let t := apply s; Res.done (if waits then t.refreshHeld else t.refreshBounds t.clock.ptp)

/-- A version that has lost its group or every port of it (cause 9), or that a MAX_FRAME no longer fits (cause 8). -/
def State.fitReject (s : State) : Option Reject :=
  s.resvVersions.findSome? (fun r =>
    let v := r.record
    let ports := s.resvPorts v
    if resvMulti v && (!bit (s.group (resvEgress v)) 767 || ports.isEmpty) then some ⟨9, ports.head?, some r.n⟩
    else match ports.find? (fun e => s.maxFrame e < resvMaxFrame v) with
      | some e => some ⟨8, some e, some r.n⟩
      | none => if s.maxFrame (resvIngress v) < resvMaxFrame v then some ⟨8, ports.head?, some r.n⟩ else none)

/-- A change of MAX_FRAME or of a group evaluated: its fit first, then the bounds. -/
def State.evaluatedFit (s s' : State) (apply : State → State) : Res :=
  match s'.fitReject with
  | some x => (s.bump Reg.ADMISSION_CONTROL.EVALUATIONS 64).rejected Code.admissionRejected x
  | none => s.evaluated s' Code.admissionRejected [] false apply

/-- Port `p` carries a reservation, as egress. -/
def State.carriesResv (s : State) (p : Nat) : Bool :=
  s.resvVersions.any (fun r => (s.resvPorts r.record).contains p)

/-- Port `p` is named by a reservation, as ingress or egress. -/
def State.namedByResv (s : State) (p : Nat) : Bool := s.resvVersions.any (fun r => s.namesPort p r.record)

end Sys2Proof.Machine
end

