-- ==== Sys2Proof/Machine/ZdpFrame.lean ====
section
/-!
DEFINITION. The octets of ZDP (R55 to R62): the carriages that a frame is recognised by, the request in its octets, and the frames of
replies and of address answers.
-/
namespace Sys2Proof.Machine

/-! ### Checksums (R58) -/

/-- The Internet checksum of octets (RFC 1071). -/
def inetSum (b : Bytes) : Nat :=
  let fold := fun (x : Nat) => x % 65536 + x / 65536
  65535 - fold (fold (fold ((List.range ((b.length + 1) / 2)).map (fun i => octets16 b (2 * i))).sum))

/-- The pseudo-header of an IPv4 datagram, and of an IPv6 one, with `n` octets of protocol `proto`. -/
def pseudoV4 (src dst proto n : Nat) : Bytes := toBE 4 src ++ toBE 4 dst ++ [0, proto] ++ toBE 2 n
def pseudoV6 (src dst proto n : Nat) : Bytes := toBE 16 src ++ toBE 16 dst ++ toBE 4 n ++ [0, 0, 0, proto]

/-- A UDP datagram with its checksum, over the pseudo-header `pseudo`. -/
def udpDatagram (src dst : Nat) (pseudo msg : Bytes) : Bytes :=
  let head := toBE 2 src ++ toBE 2 dst ++ toBE 2 (8 + msg.length)
  let sum := inetSum (pseudo ++ head ++ [0, 0] ++ msg)
  head ++ toBE 2 (if sum = 0 then 65535 else sum) ++ msg

/-! ### Carriages (R55, R56, R58) -/

/-- Where a ZDP message stands in a frame, and what its carriage says of its sender. -/
structure Carriage where
  /-- 0 Ethernet, 1 UDP over IPv4, 2 UDP over IPv6. -/
  addrKind : Nat
  /-- The sender as HOST_ADDR holds it (R92). -/
  addr : Nat
  vlans : List Nat
  /-- The EtherType, or the UDP destination port. -/
  service : Nat
  /-- The IP destination address. -/
  device : Nat
  /-- Octet of the frame at which the message begins, and octets of the payload from there on. -/
  start : Nat
  payload : Nat
  /-- The checks of R58 hold. -/
  ok : Bool
deriving DecidableEq, Repr

/-- The VLAN tags of a frame, up to two (R55), TPID and TCI of each in 32 bits, and the octet of its EtherType. -/
def frameTags (b : Bytes) : List Nat × Nat :=
  let tag := fun (i : Nat) => octets16 b i * 65536 + octets16 b (i + 2)
  if octets16 b 12 = 0x8100 ∨ octets16 b 12 = 0x88A8 then
    (if octets16 b 16 = 0x8100 then ([tag 12, tag 16], 20) else ([tag 12], 16))
  else ([], 12)

/-- The UDP datagram at octet `u` of a frame, its length field held to the octets there are. -/
def udpAt (b : Bytes) (u : Nat) : Bytes := (b.drop u).take (octets16 b (u + 4))

/-- A UDP datagram's checksum is right: none, where that is permitted, or one over the pseudo-header. -/
def udpSumOk (b : Bytes) (u : Nat) (mayLack : Bool) (pseudo : Bytes) : Bool :=
  if octets16 b (u + 6) = 0 then mayLack else inetSum (pseudo ++ udpAt b u) == 0

/-- The carriage in IPv4 at octet `i`: a later fragment shows no port. -/
def State.carriageV4 (s : State) (b : Bytes) (vlans : List Nat) (i : Nat) : Option Carriage :=
  let u := i + b.getD i 0 % 16 * 4
  let src := ofBE ((b.drop (i + 12)).take 4)
  let dst := ofBE ((b.drop (i + 16)).take 4)
  let frag := octets16 b (i + 6)
  if s.zdpSetting 0x02 = 1 ∧ s.zdpSetting 0x04 ≠ 0 ∧ dst = s.zdpSetting 0x04 ∧ b.getD (i + 9) 0 = 17 ∧ frag % 8192 = 0
      ∧ octets16 b (u + 2) = s.zdpSetting 0x03 then
    some { addrKind := 1, addr := src * 2 ^ 112 + octets16 b u, vlans := vlans, service := octets16 b (u + 2), device := dst, start := u + 8,
           payload := (udpAt b u).length - 8,
           ok := frag % 16384 == 0 && udpSumOk b u true (pseudoV4 src dst 17 (octets16 b (u + 4))) }
  else none

/-- The upper-layer header behind IPv6 extension headers from octet `i` on, `next` its kind; a later fragment has none (R194). -/
def upperV6 (b : Bytes) (next i : Nat) : Nat → Option (Nat × Nat)
  | 0 => none
  | k + 1 =>
    if next = 0 ∨ next = 43 ∨ next = 60 then upperV6 b (b.getD i 0) (i + 8 * (b.getD (i + 1) 0 + 1)) k
    else if next = 44 then (if octets16 b (i + 2) / 8 = 0 then upperV6 b (b.getD i 0) (i + 8) k else none)
    else some (next, i)

/-- The carriage in IPv6 at octet `i`. -/
def State.carriageV6 (s : State) (b : Bytes) (vlans : List Nat) (i : Nat) : Option Carriage :=
  let src := ofBE ((b.drop (i + 8)).take 16)
  let dst := ofBE ((b.drop (i + 24)).take 16)
  match upperV6 b (b.getD (i + 6) 0) (i + 40) 12 with
  | none => none
  | some (proto, u) =>
    if s.zdpSetting 0x02 = 1 ∧ s.zdpSetting 0x05 ≠ 0 ∧ dst = s.zdpSetting 0x05 ∧ proto = 17 ∧ octets16 b (u + 2) = s.zdpSetting 0x03 then
      some { addrKind := 2, addr := src * 65536 + octets16 b u, vlans := vlans, service := octets16 b (u + 2), device := dst,
             start := u + 8, payload := (udpAt b u).length - 8,
             ok := u == i + 40 && udpSumOk b u false (pseudoV6 src dst 17 (octets16 b (u + 4))) }
    else none

/-- The carriage of a frame, where it is a ZDP frame (R55). -/
def State.carriage (s : State) (b : Bytes) : Option Carriage :=
  let (vlans, i) := frameTags b
  if b.length < i + 2 then none
  else if octets16 b i = s.zdpSetting 0x01 then
    some { addrKind := 0, addr := ofBE ((b.drop 6).take 6) * 2 ^ 96, vlans := vlans, service := octets16 b i, device := 0, start := i + 2,
           payload := b.length - (i + 2), ok := true }
  else if octets16 b i = 0x0800 then s.carriageV4 b vlans (i + 2)
  else if octets16 b i = 0x86DD then s.carriageV6 b vlans (i + 2)
  else none

/-- The frame is a ZDP frame: a host MAC steers it to the ZDP engine (R19, R55). -/
def State.isZdpFrame (s : State) (b : Bytes) : Bool := (s.carriage b).isSome

/-- The frame asks for an address of the device, and the host port consumes it (R47, R58): an ARP request or a neighbour solicitation. -/
def State.isAddressRequest (s : State) (b : Bytes) : Bool :=
  let i := (frameTags b).2
  let own4 := s.zdpSetting 0x04
  let own6 := s.zdpSetting 0x05
  s.zdpSetting 0x02 == 1
    && ((octets16 b i == 0x0806 && octets16 b (i + 8) == 1 && own4 != 0 && ofBE ((b.drop (i + 26)).take 4) == own4)
      || (octets16 b i == 0x86DD && b.getD (i + 8) 0 == 58 && b.getD (i + 42) 0 == 135 && own6 != 0 && ofBE ((b.drop (i + 50)).take 16) == own6))

/-! ### The request in a frame (R56, R60) -/

/-- A port number. -/
def portNo (p : Nat) : PortNo := ⟨p % 643, Nat.mod_lt _ (by decide)⟩

/-- OPCODE and the header fields of the message of frame `b` (R60), which came in on port `p`. -/
def Carriage.request (c : Carriage) (p : Nat) (b : Bytes) : Nat × Request :=
  let h := (b.drop c.start).take c.payload
  let field := fun (off n : Nat) => ofBE ((h.drop off).take n)
  (h.getD 1 0,
   { port := portNo p, addrKind := c.addrKind, addr := c.addr, mac := ofBE ((b.drop 6).take 6), vlans := c.vlans, service := c.service,
     device := c.device, carriageOk := c.ok, verFlags := field 0 1, tag := field 2 2, seq := field 4 4, session := field 8 2,
     index := field 10 2, sub := field 12 1, reserved := field 13 1, length := field 14 2, arg := field 16 4,
     data := if h.getD 1 0 = 0x03 then [] else (h.drop 20).take (field 14 2), payload := c.payload, internal := false })

/-- OPCODE is in the operation table (R62, R63). -/
def knownOp (op : Nat) : Bool := 1 ≤ op && op ≤ 10

/-- The header is valid (R60, R62). LENGTH of a BLOCK_READ is the bytes wanted: it carries no DATA (R63). -/
def validRequest (q : Request) (op : Nat) : Bool :=
  q.carriageOk && bits q.verFlags 7 4 == 1 && bits q.verFlags 3 2 == 0 && q.tag < 4096 && q.reserved == 0 && 20 ≤ q.payload
    && (op == 0x03 || (20 + q.length ≤ q.payload && q.data.length == q.length))

/-- The octets, from destination address to FCS, of the frame that brought a request: its carriage's headers, without options, and its
payload. -/
def requestLen (q : Request) : Nat :=
  max 64 (14 + 4 * q.vlans.length + (match q.addrKind with | 0 => 0 | 1 => 28 | _ => 48) + q.payload + 4)

/-- A MAC has delimited a good frame of `n` octets that is not accepted (R185). -/
def State.macReceived (s : State) (p n : Nat) : State := (s.count (Ctr.port p 0)).count (Ctr.port p 1) n

/-- A frame of the port's MAC, or of its bypass queue, has been sent (R185). -/
def State.macSent (s : State) (p n : Nat) : State := (s.count (Ctr.port p 2)).count (Ctr.port p 3) n

/-! ### The frame of a reply (R56, R57, R58, R61) -/

/-- The source MAC address of what the device itself sends on a port. -/
def State.ownMac (s : State) (p : Nat) : Nat := s.reg (if p = 513 then Reg.ZDP_CONFIG.HP1_MAC else Reg.ZDP_CONFIG.HP0_MAC)

/-- The header and the data of a reply. -/
def Reply.message (r : Reply) : Bytes :=
  [0x10, r.op] ++ toBE 2 r.tag ++ toBE 4 r.seq ++ toBE 2 r.session ++ [r.result, r.rflags] ++ toBE 4 r.status ++ toBE 2 r.index
    ++ [r.sub, 0] ++ toBE 2 r.data.length ++ toBE 2 r.detail ++ r.data

/-- A frame padded with zero octets to 60, its FCS apart. -/
def padded (b : Bytes) : Bytes := b ++ List.replicate (60 - b.length) 0

/-- The frame of a reply up to its FCS. Of its IP header the spec fixes addresses, protocol, lengths and checksums; `free` gives the
rest: type of service, identification and Don't Fragment, or traffic class and flow label, and the hop limit. -/
def State.replyFrame (s : State) (r : Reply) (free : Nat) : Bytes :=
  let msg := r.message
  let n := 8 + msg.length
  let body :=
    if r.addrKind = 0 then toBE 2 r.service ++ msg
    else if r.addrKind = 1 then
      let dst := r.addr / 2 ^ 112
      let udp := udpDatagram r.service (r.addr % 65536) (pseudoV4 r.device dst 17 n) msg
      let head := fun (sum : Nat) => [0x45, free % 256] ++ toBE 2 (20 + n) ++ toBE 2 (free / 256) ++ [free / 2 ^ 24 % 2 * 64, 0]
        ++ [free / 2 ^ 32 % 256, 17] ++ toBE 2 sum ++ toBE 4 r.device ++ toBE 4 dst
      toBE 2 0x0800 ++ head (inetSum (head 0)) ++ udp
    else
      let dst := r.addr / 65536
      let udp := udpDatagram r.service (r.addr % 65536) (pseudoV6 r.device dst 17 n) msg
      toBE 2 0x86DD ++ toBE 4 (6 * 2 ^ 28 + free % 2 ^ 28) ++ toBE 2 n ++ [17, free / 2 ^ 32 % 256] ++ toBE 16 r.device ++ toBE 16 dst ++ udp
  padded (toBE 6 r.mac ++ toBE 6 (s.ownMac r.port) ++ r.vlans.flatMap (toBE 4) ++ body)

/-! ### Address answers (R58) -/

/-- An ARP reply (RFC 826) to the sender that asked for `target`. -/
def arpReply (own target mac sender : Nat) : Bytes :=
  toBE 6 mac ++ toBE 6 own ++ toBE 2 0x0806 ++ toBE 2 1 ++ toBE 2 0x0800 ++ [6, 4] ++ toBE 2 2 ++ toBE 6 own ++ toBE 4 target ++ toBE 6 mac
    ++ toBE 4 sender

/-- A neighbour advertisement (RFC 4861): Override set, Solicited where the solicitation had a source address; without one it goes to
all nodes. -/
def advertisement (own target mac sender : Nat) : Bytes :=
  let dst := if sender = 0 then 0xFF02 * 2 ^ 112 + 1 else sender
  let msg := fun (sum : Nat) => [136, 0] ++ toBE 2 sum ++ toBE 4 (if sender = 0 then 0x20000000 else 0x60000000) ++ toBE 16 target ++ [2, 1]
    ++ toBE 6 own
  toBE 6 (if sender = 0 then 0x333300000001 else mac) ++ toBE 6 own ++ toBE 2 0x86DD ++ toBE 4 0x60000000 ++ toBE 2 32 ++ [58, 255]
    ++ toBE 16 target ++ toBE 16 dst ++ msg (inetSum (pseudoV6 target dst 58 32 ++ msg 0))

/-- The octets of a bypass frame on host port `p`, up to its FCS. -/
def State.bypassOctets (s : State) (p : Nat) (f : BypassFrame) (free : Nat) : Bytes :=
  match f with
  | .zdp r => s.replyFrame r free
  | .arp v6 target mac sender =>
    padded (if v6 then advertisement (s.ownMac p) target mac sender else arpReply (s.ownMac p) target mac sender)

end Sys2Proof.Machine
end

