-- ==== Sys2Proof/Machine/Buffer.lean ====
section
/-!
DEFINITION. The shared buffer (R243 to R266): frames and copies, cells and descriptors by pool, admission checks,
the ends that a frame and a copy can come to, with their ledger reports (R49), their reservation counts (R44, R511)
and their postcards (R206, R514).
-/
namespace Sys2Proof.Machine

-- Pools (R247).
namespace Pool
abbrev mgmt : Nat := 1
abbrev dalzan : Nat := 2
abbrev resv : Nat := 3
abbrev part : Nat := 4
end Pool

-- Drop reasons (R266).
namespace Drop
abbrev rxFcsError : Nat := 1
abbrev rxStomped : Nat := 2
abbrev rxCodeError : Nat := 3
abbrev rxUndersize : Nat := 4
abbrev rxOversize : Nat := 5
abbrev rxElastic : Nat := 6
abbrev macControl : Nat := 7
abbrev hostFifoFull : Nat := 8
abbrev noDestination : Nat := 9
abbrev signalConsumed : Nat := 10
abbrev unusedDest : Nat := 11
abbrev spreadEmpty : Nat := 12
abbrev mcGroupInvalid : Nat := 13
abbrev mcOverload : Nat := 14
abbrev egressDown : Nat := 15
abbrev egressMaxFrame : Nat := 16
abbrev grownMaxFrame : Nat := 17
abbrev gateNeverFits : Nat := 18
abbrev streamFilterSdu : Nat := 19
abbrev streamGateClosed : Nat := 20
abbrev policerExcess : Nat := 21
abbrev cbDuplicate : Nat := 22
abbrev bufferFull : Nat := 23
abbrev partitionLimit : Nat := 24
abbrev resvPoolFull : Nat := 25
abbrev mgmtReserveFull : Nat := 26
abbrev dalzanOverrun : Nat := 27
abbrev descriptorsFull : Nat := 28
abbrev queueLimit : Nat := 29
abbrev portLimit : Nat := 30
abbrev aged : Nat := 31
abbrev txAbort : Nat := 32
abbrev pfcWatchdog : Nat := 33
abbrev fenced : Nat := 34
abbrev reset : Nat := 35
abbrev internalSourceError : Nat := 36
end Drop

/-! ### Frames, copies, cells -/

/-- The frame with number `i`. -/
def State.frame? (s : State) (i : Nat) : Option Frame := s.frames.find? (fun f => f.id == i)
/-- The frame of the same number replaced. -/
def State.putFrame (s : State) (f : Frame) : State :=
  { s with frames := s.frames.map (fun g => if g.id = f.id then f else g) }
/-- The copy of the same number replaced. -/
def State.putCopy (s : State) (c : Copy) : State :=
  { s with copies := s.copies.map (fun d => if d.id = c.id then c else d) }
/-- A copy's descriptor is free again; what its leaving means for the drain of its queue is noted (R41). -/
def State.removeCopy (s : State) (c : Copy) : State :=
  let s := match s.frame? c.frame with | none => s | some f => s.copyLeft c.port c.queue f.ts
  { s with copies := s.copies.filter (fun d => d.id != c.id) }
/-- Copies of a frame. -/
def State.copiesOf (s : State) (i : Nat) : List Copy := s.copies.filter (fun c => c.frame == i)
/-- Copies queued on queue `q` of port `p`, in order: the reserved list, then the other (R326). -/
def State.queued (s : State) (p q : Nat) : List Copy :=
  let l := s.copies.filter (fun c => c.port == p && c.queue == q && c.phase == 0)
  l.filter (fun c => c.reserved) ++ l.filter (fun c => !c.reserved)

/-- Octets of a frame that have arrived so far, its FCS with the tail. -/
def Frame.written (f : Frame) : Nat := if f.tailed then f.len else f.octets.length
/-- Cells that a frame's octets occupy (R243). -/
def Frame.occupied (f : Frame) : Nat := ceilDiv f.written 256
/-- The frame waits in a host port's FIFO (R177): it has no cells until its parser starts. -/
def Frame.inFifo (f : Frame) : Bool := (f.srcPort == 512 || f.srcPort == 513) && f.stage == 0
/-- Cells that count as held by the frame (R244, R249): landing cells of a MAC's frame, then its charge; a Dalzan
frame is charged cell by cell (R251). -/
def Frame.cells (f : Frame) : Nat :=
  if f.stage = 3 ∨ f.inFifo = true then 0
  else if f.pool = Pool.dalzan then f.occupied
  else if f.stage = 2 then f.resCells + f.shCells
  else if f.srcPort < 514 then f.occupied else 0
/-- The holder that a difference in the frame's cells names (R349): its pipeline while they are landing cells. -/
def Frame.cellHolder (f : Frame) : Nat := if f.stage = 2 then holder 7 f.id else holder 1 f.pipe

/-- Sum of what a frame contributes over the frames that satisfy `p`. -/
def State.sumFrames (s : State) (p : Frame → Bool) (v : Frame → Nat) : Nat := ((s.frames.filter p).map v).sum

/-- Cells of partition `n`'s reserve in use, and of the shared pool by its frames (R251, R269). -/
def State.reserveUsed (s : State) (n : Nat) : Nat := s.sumFrames (fun f => f.pool == Pool.part && f.part == n) (·.resCells)
def State.sharedUsed (s : State) (n : Nat) : Nat := s.sumFrames (fun f => f.part == n) (·.shCells)
/-- Cells of the management reserve and of the reservation pool in use. -/
def State.mgmtUsed (s : State) : Nat := s.sumFrames (fun f => f.pool == Pool.mgmt) (·.resCells)
def State.resvPoolUsed (s : State) : Nat := s.sumFrames (fun f => f.pool == Pool.resv) (·.resCells)
/-- Cells charged to credit queue `q` of Dalzan port `p`. -/
def State.dalzanUsed (s : State) (p q : Nat) : Nat :=
  s.sumFrames (fun f => f.pool == Pool.dalzan && f.srcPort == p && f.creditQueue == q) Frame.cells
/-- Landing cells of pipeline `i` in use (R244). -/
def State.landingUsed (s : State) (i : Nat) : Nat :=
  s.sumFrames (fun f => f.pipe == i && f.stage < 2 && f.pool != Pool.dalzan) Frame.cells

/-- RX_RESERVE of queue `q` of port `p` (R180, R185). -/
def State.rxReserve (s : State) (p q : Nat) : Nat := entryAt 16 2 (s.reg (Reg.PORT.RX_RESERVE p)) q
/-- DALZAN_RESERVE_CELLS: the sum of RX_RESERVE over Dalzan ports (R267). -/
def State.dalzanReserve (s : State) : Nat :=
  (((List.range 512).filter (fun p => s.portKind p == 2)).map
    (fun p => ((List.range 16).map (s.rxReserve p)).sum)).sum
/-- SHARED_CELLS (R248). -/
def State.sharedCells (s : State) : Nat :=
  786432 - 2048 - 4096 - s.reg Reg.BUFFER_CONFIG.RESV_POOL_CELLS - s.dalzanReserve
    - ((List.range 16).map (fun n => s.reg (Reg.PARTITION_BUFFER.RESERVE_CELLS n))).sum
/-- The credit queues of Dalzan links that hold frames: port and queue. -/
def State.dalzanQueues (s : State) : List (Nat × Nat) :=
  ((s.frames.filter (fun f => f.pool == Pool.dalzan && f.stage != 3)).map (fun f => (f.srcPort, f.creditQueue))).eraseDups
/-- Cells that Dalzan frames hold above RX_RESERVE of their credit queue, where that has been lowered (R248). -/
def State.dalzanExcess (s : State) : Nat := (s.dalzanQueues.map (fun x => s.dalzanUsed x.1 x.2 - s.rxReserve x.1 x.2)).sum
/-- Cells that a shrunk pool still holds above its size, which count as shared use (R248). -/
def State.poolExcess (s : State) : Nat :=
  (s.resvPoolUsed - s.reg Reg.BUFFER_CONFIG.RESV_POOL_CELLS)
    + ((List.range 16).map (fun n => s.reserveUsed n - s.reg (Reg.PARTITION_BUFFER.RESERVE_CELLS n))).sum + s.dalzanExcess
/-- SHARED_FREE (R248). -/
def State.sharedFree (s : State) : Nat := s.sharedCells - s.sumFrames (fun _ => true) (·.shCells) - s.poolExcess
/-- DESC_FREE (R267). -/
def State.descFree (s : State) : Nat := 1048576 - s.copies.length
/-- FRAMES_RESIDENT of partition `n` (R269). -/
def State.framesResident (s : State) (n : Nat) : Nat := (s.frames.filter (fun f => f.part == n && f.stage == 2)).length

/-- Charge of a copy's frame, for depths (R253). -/
def State.copyCells (s : State) (c : Copy) : Nat := match s.frame? c.frame with | none => 0 | some f => f.charge
/-- QUEUE_DEPTH and PORT_DEPTH (R253, R271). -/
def State.queueDepth (s : State) (p q : Nat) : Nat :=
  ((s.copies.filter (fun c => c.port == p && c.queue == q)).map s.copyCells).sum
def State.portDepth (s : State) (p : Nat) : Nat := ((s.copies.filter (fun c => c.port == p)).map s.copyCells).sum

/-! ### The active list of the DRR group (R275) -/

/-- Active DRR queues of port `p`. -/
def State.drrActive (s : State) (p : Nat) : List Nat := s.drr.get (fun _ => []) p
def State.setDrrActive (s : State) (p : Nat) (l : List Nat) : State := { s with drr := s.drr.set (fun _ => []) p l }
/-- DEFICIT of queue `q`. -/
def State.deficit (s : State) (p q : Nat) : Nat := entryAt 16 4 (s.reg (Reg.PORT_QSTATE.DEFICIT p)) q
def State.setDeficit (s : State) (p q v : Nat) : State :=
  s.setReg (Reg.PORT_QSTATE.DEFICIT p) (setEntry 16 4 (s.reg (Reg.PORT_QSTATE.DEFICIT p)) q v)

/-- The queue after `q` in a list, round to the first. -/
def nextAfter (q : Nat) (l : List Nat) : Nat :=
  match l.dropWhile (· != q) with
  | _ :: n :: _ => n
  | _ => l.headD 0

/-- Queue `q` of port `p` has emptied: what its copies in hand were charged beyond their length is not owed to it any more (R276). -/
def Copy.markEmptied (p q : Nat) (c : Copy) : Copy := if c.port = p ∧ c.queue = q then { c with emptied := true } else c

/-- A queue that has become empty, or strict, leaves the active list: no deficit, not visited (R272, R275). -/
def State.leaveDrr (s : State) (p q : Nat) : State :=
  if (s.drrActive p).contains q then
    let s : State := { s with copies := s.copies.map (Copy.markEmptied p q) }
    let s := s.when (s.tab Tab.drrCur p == q) (fun s => s.setTab Tab.drrCur p (nextAfter q (s.drrActive p)))
    ((s.setDrrActive p ((s.drrActive p).filter (· != q))).setDeficit p q 0).setTab Tab.drrVisited (16 * p + q) 0
  else s

/-- A queue that holds copies enters the active list at the last place where it is a DRR queue (R272, R275). -/
def State.enterDrr (s : State) (p q : Nat) : State :=
  if bit (s.reg (Reg.PORT_SCHED.STRICT_MASK p)) q || (s.drrActive p).contains q || (s.queued p q).isEmpty then s
  else
    let s := s.when (s.drrActive p).isEmpty (·.setTab Tab.drrCur p q)
    s.setDrrActive p (s.drrActive p ++ [q])

/-- After copies have left a queue. -/
def State.settleQueue (s : State) (p q : Nat) : State :=
  if (s.queued p q).isEmpty then s.leaveDrr p q else s

/-! ### Postcards (R206, R208, R514, R515) -/

def State.fifo (s : State) (i : Nat) : List Nat := s.postcards.get (fun _ => []) i
def State.setFifo (s : State) (i : Nat) (l : List Nat) : State := { s with postcards := s.postcards.set (fun _ => []) i l }

/-- Stream of pipeline FIFO `i` (R515): 0xFF none. -/
def State.streamOf (s : State) (i : Nat) : Nat := octetsAt 128 (s.reg Reg.STREAM_MAP.STREAM_MAP) i 1

/-- Stream `t` takes records from its FIFOs while its buffer of 1,024 has room; `n` bounds the turns. -/
def State.pullStream (s : State) (t : Nat) : Nat → State
  | 0 => s
  | n + 1 =>
    if 1024 ≤ (s.fifo (128 + t)).length then s
    else
      let start := s.tab Tab.streamNext t
      let turn := (List.range 128).map (fun k => (start + k) % 128)
      match turn.find? (fun i => s.streamOf i == t && !(s.fifo i).isEmpty) with
      | none => s
      | some i =>
        let s := (s.setFifo (128 + t) (s.fifo (128 + t) ++ (s.fifo i).take 1)).setFifo i ((s.fifo i).drop 1)
        (s.setTab Tab.streamNext t ((i + 1) % 128)).pullStream t n

/-- A postcard is queued in FIFO `i`, or lost where the FIFO is full or has no stream (R208, R515, R520). -/
def State.pushPostcard (s : State) (i rec : Nat) : State :=
  let queuedCtr := if i < 64 then Ctr.ingressPipe i 6 else Ctr.egressPipe (i - 64) 3
  let lostCtr := if i < 64 then Ctr.ingressPipe i 7 else Ctr.egressPipe (i - 64) 4
  let t := s.streamOf i
  if 4 ≤ t then s.count lostCtr
  else if 64 ≤ (s.fifo i).length then
    let s := (s.count lostCtr).setTab Tab.streamLost t (s.tab Tab.streamLost t + 1)
    (s.bump (Reg.TELEMETRY_STREAM.LOST t) 64).event Reg.COUNTER_CONTROL.EVENTS 2 0x1E02
  else ((s.setFifo i (s.fifo i ++ [rec])).count queuedCtr).pullStream t 1

/-- Twelve octets of a timestamp: TIME80, then its fraction in 2^-16 ns (R514). -/
def timeFrac (ts : Nat) : Nat := time80 (ts / nsUnit) * 2 ^ 16 + ts % nsUnit / 2 ^ 32

/-- The record of an outcome (R514). -/
def postcardRecord (f : Frame) (port outcome reason flags egressTs depth pipe : Nat) : Nat :=
  let w12 := SMap.get (fun _ => 0) f.hv 12
  f.srcPort * 2 ^ 368 + port * 2 ^ 352 + (bits w12 16 16 * 128 + f.queue) * 2 ^ 344 + outcome * 2 ^ 336 + reason * 2 ^ 328
    + (flags + ofBool f.lenKnown) * 2 ^ 320 + bits w12 15 0 * 2 ^ 304 + f.len * 2 ^ 288
    + SMap.get (fun _ => 0) f.hv 10 * 2 ^ 256 + timeFrac f.ts * 2 ^ 160 + timeFrac egressTs * 2 ^ 64
    + depth * 2 ^ 32 + f.pipe * 2 ^ 24 + pipe * 2 ^ 16

/-- The postcard of a frame dropped whole or of a refused copy, from its ingress pipeline. -/
def State.framePostcard (s : State) (f : Frame) (port outcome reason : Nat) : State :=
  s.when f.postcard (fun s => s.pushPostcard f.pipe
    (postcardRecord f port outcome reason 0 s.clock.ptp 0 0xFF))

/-- The postcard of an admitted copy, from its egress pipeline. -/
def State.copyPostcard (s : State) (f : Frame) (c : Copy) (outcome reason ts : Nat) (stomped covered : Bool) : State :=
  let e := pipeOf c.port (SMap.get (fun _ => 0) f.hv 10)
  s.when c.postcard (fun s => s.pushPostcard (64 + e)
    (postcardRecord f c.port outcome reason (2 * ofBool c.cutThrough + 4 * ofBool c.ecn + 8 * ofBool stomped + 16 * ofBool covered)
      ts c.depth e))

/-! ### Reservation counts (R44, R46, R255, R511) -/

/-- Count `k` of reservation `n` (0 COVERED, 1 UNCOVERED, 2 UNCOVERED_LATE, 3 BREACHES) goes up. -/
def State.resvCounted (s : State) (n k amt : Nat) : State :=
  s.setTab Tab.resvCount (4 * n + k) ((s.tab Tab.resvCount (4 * n + k) + amt) % 2 ^ 64)

/-- Copies of a frame's reservation that ended in no covered transmission (R511). -/
def State.uncovered (s : State) (f : Frame) (copies : Nat) : State :=
  match f.resv with | none => s | some (n, _) => s.resvCounted n 1 copies

/-- Copies that a frame was intended to have. -/
def State.intended (s : State) (f : Frame) : Nat :=
  if f.dests.isEmpty then (match f.resv with | none => 0 | some (_, v) => (s.resvPorts v).length) else f.dests.length

/-- A covered copy exceeded its bound (R46, R559): counted, logged, ADMISSION set. -/
def State.breach (s : State) (f : Frame) (n port ts d : Nat) : State :=
  let s := s.resvCounted n 3 1
  let data := n * 2 ^ 208 + port * 2 ^ 192 + time80 (f.ts / nsUnit) * 2 ^ 112 + time80 (ts / nsUnit) * 2 ^ 32 + d
  ((s.logFault 0x01 1 1 0x1C42 f.part (faultData 28 data)).setCause 10 true).trigger 0x1C42

/-- The conditions of R37 hold for a frame now, integrity and egress aside. -/
def State.frameCovered (s : State) (f : Frame) : Bool :=
  match f.resv with
  | none => false
  | some (n, v) => f.green && s.resvSt n == 2 && s.tab Tab.resvReturn n ≤ f.ts && f.srcPort == resvIngress v

/-- A copy for port `e` goes where record `v` of its reservation sends it: port and queue (R37, R325). -/
def State.classified (s : State) (f : Frame) (v e : Nat) : Bool := (s.resvPorts v).contains e && resvQueue v == f.queue

/-- A whole drop in the counts of the frame's reservation: a covered frame refused by the reservation pool is a
breach (R255), and everything else is uncovered (R511). -/
def State.dropInResv (s : State) (f : Frame) (reason : Nat) : State :=
  match f.resv with
  | none => s
  | some (n, v) =>
    if reason = Drop.resvPoolFull ∧ s.frameCovered f = true then
      s.forAll f.dests (fun s e =>
        if s.classified f v e then (s.resvCounted n 0 1).breach f n e s.clock.ptp (s.boundFor n e f.ts) else s.resvCounted n 1 1)
    else s.uncovered f (s.intended f)

/-! ### PFC transmission (R289) -/

/-- INGRESS_USAGE of class `i` of port `p`: cells charged to its resident frames. -/
def State.ingressUsage (s : State) (p i : Nat) : Nat :=
  s.sumFrames (fun f => f.srcPort == p && f.pfcClass == i && f.stage != 0) Frame.cells

/-- A MAC control frame (IEEE 802.3 Annex 31): destination 01-80-C2-00-00-01, source `sa`, opcode and parameters,
padded to 60 octets (PRESUMED, log entry 6). -/
def macControl (sa opcode : Nat) (params : Bytes) : Bytes :=
  let b := toBE 6 0x0180C2000001 ++ toBE 6 sa ++ toBE 2 0x8808 ++ toBE 2 opcode ++ params
  b ++ List.replicate (60 - b.length) 0

/-- A PFC frame for class `i` with a time field. -/
def State.sendPfc (s : State) (p i time : Nat) : State :=
  let params := toBE 2 (2 ^ i) ++ (List.range 8).flatMap (fun k => toBE 2 (if k = i then time else 0))
  ((s.emit (.control p (macControl (s.reg Reg.IDENTITY.BASE_MAC) 0x0101 params))).count (Ctr.port p 11)).macSent p 64

/-- XOFF at XOFF_CELLS, XON at XON_CELLS, for every class of port `p`, an Ethernet fabric port that is UP (R174, R289). -/
def State.pfcCheck (s : State) (p : Nat) : State :=
  if 512 ≤ p ∨ s.portKind p ≠ 1 ∨ s.portUp p = false then s
  else s.forAll (List.range 8) (fun s i =>
    let u := s.ingressUsage p i
    let off := s.reg (Reg.PORT_PFC.XOFF_STATE p)
    if !bit off i && bit (s.reg (Reg.PORT_PFC.TX_ENABLE p)) i && s.reg (Reg.PORT_PFC.XOFF_CELLS p) ≤ u then
      (s.sendPfc p i 0xFFFF).setReg (Reg.PORT_PFC.XOFF_STATE p) (setBit off i true)
    else if bit off i && u ≤ s.reg (Reg.PORT_PFC.XON_CELLS p) then
      (s.sendPfc p i 0).setReg (Reg.PORT_PFC.XOFF_STATE p) (setBit off i false)
    else s)

/-! ### Release and whole drop (R245, R246, R250, R261) -/

/-- Elements whose retire epoch has been reached are FREE (R236), and drained reservations go (R335). -/
def State.drained (s : State) : State :=
  let done := (s.tabList Tab.retire).filter (fun e => s.epochReached (e.2 - 1))
  let s := s.forAll done (fun s e =>
    let s := (s.setTab Tab.retire e.1 0).bump Reg.LOOKUP_CONTROL.RECLAIMED 64
    let i := e.1 % 2 ^ 24
    if e.1 / 2 ^ 24 = 1 then s.setTab (Tab.win 0x3020) i (setBit (s.tab (Tab.win 0x3020) i) 511 false)
    else if e.1 / 2 ^ 24 = 2 then s.setTab (Tab.win 0x3021) i (setBit (s.tab (Tab.win 0x3021) i) 767 false)
    else s)
  s.drainResvs

/-- RECEIVED or RETURNED of a Dalzan frame's credit queue goes up (R180). -/
def State.dzCount (s : State) (t : Nat) (f : Frame) (n : Nat) : State :=
  s.setTab t (16 * f.srcPort + f.creditQueue) ((s.tab t (16 * f.srcPort + f.creditQueue) + n) % 2 ^ 24)

/-- A frame's last outcome is reached: its cells are free, Dalzan cells count as RETURNED, a management tag returns;
what is kept, where its tail is still to come, holds no cells. -/
def State.closeFrame (s : State) (f : Frame) : State :=
  let s := s.unreport f.part Term.cellsHeld f.cells f.cellHolder 1
  let s := s.when (f.pool == Pool.dalzan) (·.dzCount Tab.dzReturned f f.occupied)
  let s := if f.tailed then { s with frames := s.frames.filter (fun g => g.id != f.id) }
    else s.putFrame { f with stage := 3, pool := if f.pool = Pool.dalzan then f.pool else 0, resCells := 0, shCells := 0, charge := 0, refs := 0 }
  (s.pfcCheck f.srcPort).drained

/-- 802.1CB: the number that a frame passed provisionally is withdrawn from its stream's history (R337): the history
word of stream `st` is element `st` of its table, bit k standing for RECOV_SEQ - k. -/
def State.withdrawCbSeq (s : State) (f : Frame) : State :=
  match f.cbSeq with
  | (0, _) => s
  | (st + 1, n) =>
    let d := subMod 16 (bits (s.tab (Tab.win 0x6C01) st) 239 224) n
    s.when (decide (d < 32)) (fun s => s.setTab Tab.cbHistory st (setBit (s.tab Tab.cbHistory st) d false))

/-- A frame is dropped whole under a reason (R246, R250, R266): its provisional copies go uncounted, its handoff is
cancelled where the frame ended in error (R201). -/
def State.dropWhole (s : State) (f : Frame) (reason : Nat) : State :=
  let s := s.freeTag f.reply
  let cs := s.copiesOf f.id
  let s := s.countDrop Outcome.whole f.srcPort reason
  let s := s.forAll cs (fun s c => s.unreport f.part Term.descQueued 1 (holder 2 (16 * c.port + c.queue)) 2)
  let s := s.unreport f.part Term.mcRefs f.refs (holder 7 f.id) 3
  let s := (s.unreport f.part Term.inPipeline 1 (holder 1 f.pipe) 8).report f.part Term.wholeDrops 1
  let s := (s.dropInResv f reason).framePostcard f 0xFFFF 1 reason
  let s := s.withdrawCbSeq f
  let s := s.forAll cs (fun s c => s.copyLeft c.port c.queue f.ts)
  let s := { s with copies := s.copies.filter (fun c => c.frame != f.id) }
  let s := s.forAll cs (fun s c => s.settleQueue c.port c.queue)
  s.closeFrame { f with refs := 0, cbSeq := (0, 0) }

/-! ### Finality (R246) -/

/-- The frame's admission becomes final: it leaves in_pipeline for admitted_frames, its copies enter
admitted_copies, and its refusals are counted. -/
def State.finalize (s : State) (f : Frame) : State :=
  if f.final then s
  else
    let s := (s.unreport f.part Term.inPipeline 1 (holder 1 f.pipe) 8).report f.part Term.admittedFrames 1
    let s := (s.report f.part Term.admittedCopies f.refs).report f.part Term.residentCopies f.refs
    let s := s.report f.part Term.refused f.refused.length
    let s := s.forAll f.refused (fun s r =>
      (s.countCopyDrop Outcome.refused r.1 f.queue r.2).framePostcard f r.1 2 r.2)
    let s := s.uncovered f f.refused.length
    s.putFrame { f with final := true, refused := [] }

/-! ### Ends of a copy (R246, R258, R261) -/

/-- One reference of an admitted frame ends; with the last its cells are free. -/
def State.dropRef (s : State) (f : Frame) : State :=
  let s := s.unreport f.part Term.mcRefs 1 (holder 7 f.id) 3
  let g := { f with refs := f.refs - 1 }
  if g.refs = 0 then s.closeFrame g else s.putFrame g

/-- A queued copy is removed under a reason: a late drop once its frame is final, else a refused copy, and with the
last of these a whole drop (R246). -/
def State.dropCopy (s : State) (c : Copy) (reason : Nat) : State :=
  match s.frame? c.frame with
  | none => s.removeCopy c
  | some f =>
    let s := (s.removeCopy c).settleQueue c.port c.queue
    let s := s.unreport f.part Term.descQueued 1 (holder 2 (16 * c.port + c.queue)) 2
    if f.final then
      let s := s.countCopyDrop Outcome.late c.port c.queue reason
      let s := (s.unreport f.part Term.residentCopies 1 (holder 2 (16 * c.port + c.queue)) 8).report f.part Term.lateDrops 1
      let s := (s.uncovered f 1).copyPostcard f c 3 reason s.clock.ptp false false
      s.dropRef f
    else
      let s := s.unreport f.part Term.mcRefs 1 (holder 7 f.id) 3
      let g := { f with refs := f.refs - 1, refused := f.refused ++ [(c.port, reason)] }
      if g.refs = 0 then s.dropWhole g reason else s.putFrame g

/-- A copy in transmission ends before its last octet (R157, R258): with a stomped FCS where the transmitter keeps
running; never beyond MAX_FRAME (R172). The cells sent on a Dalzan link count in SENT (R182). -/
def State.abortTx (s : State) (c : Copy) (reason : Nat) (stomp : Bool) : State :=
  match s.frame? c.frame with
  | none => s.removeCopy c
  | some f =>
    let s := s.removeCopy c
    let held := (c.sent ++ f.octets.drop c.used).take (s.maxFrame c.port - 4)
    let gone := if stomp then (padded held).length + 4 else held.length
    let s := s.when (s.portKind c.port == 2) (fun s =>
      s.setTab Tab.dzSent (16 * c.port + c.queue) ((s.tab Tab.dzSent (16 * c.port + c.queue) + ceilDiv gone 256) % 2 ^ 24))
    let s := s.when stomp (fun s => (s.emit (.frame c.port (padded held) true)).count (Ctr.port c.port 9))
    let s := s.countCopyDrop Outcome.late c.port c.queue reason
    let s := s.unreport f.part Term.descInTx 1 (holder 3 c.port) 2
    let s := (s.unreport f.part Term.residentCopies 1 (holder 2 (16 * c.port + c.queue)) 8).report f.part Term.lateDrops 1
    let s := (s.uncovered f 1).copyPostcard f c 3 reason s.clock.ptp stomp false
    s.dropRef f

/-- A copy ends under a reason, wherever it is; a selected copy has not started. -/
def State.endCopy (s : State) (c : Copy) (reason : Nat) (stomp : Bool) : State :=
  if c.phase = 2 then s.abortTx c reason stomp else s.dropCopy c reason

/-- The copies that satisfy `p` end under a reason, one by one. -/
def State.endCopies (s : State) (p : Copy → Bool) (reason : Nat) (stomp : Bool) : State :=
  s.forAll (s.copies.filter p) (fun s c => if s.copies.contains c then s.endCopy c reason stomp else s)

/-- Every frame that satisfies `p` ends: its copies under the reason, and where it is not final the whole frame. -/
def State.endFrames (s : State) (p : Frame → Bool) (reason : Nat) (stomp : Bool) : State :=
  s.forAll (s.frames.filter (fun f => p f && f.stage != 3)) (fun s f =>
    match s.frame? f.id with
    | none => s
    | some f => if f.final then s.endCopies (fun c => c.frame == f.id) reason stomp else s.dropWhole f reason)

/-! ### A port leaves UP (R157, R264) -/

/-- The copies of port `p` when it leaves UP: the one in transmission ends under TX_ABORT, stomped where the
transmitter keeps running; queued copies are dropped under EGRESS_DOWN where DOWN_ACTION is DROP, and a selected copy
goes back to the head of its queue where it is HOLD. -/
def State.downCopies (s : State) (p : Nat) (stomp : Bool) : State :=
  let s := s.endCopies (fun c => c.port == p && c.phase == 2) Drop.txAbort stomp
  if s.reg (Reg.PORT_BUFFER.DOWN_ACTION p) = 0 then s.endCopies (fun c => c.port == p) Drop.egressDown stomp else s

/-! ### Admission checks (R251, R252) -/

/-- cells_check of a frame with charge `n`: the cells its own pool gives and those of the shared pool, or the reason
(R247, R251). -/
def State.cellsCheck (s : State) (f : Frame) (n : Nat) : Except Nat (Nat × Nat) :=
  if f.pool = Pool.mgmt then (if s.mgmtUsed + n ≤ 2048 then .ok (n, 0) else .error Drop.mgmtReserveFull)
  else if f.pool = Pool.dalzan then .ok (0, 0)
  else if f.pool = Pool.resv then
    (if s.resvPoolUsed + n ≤ s.reg Reg.BUFFER_CONFIG.RESV_POOL_CELLS then .ok (n, 0) else .error Drop.resvPoolFull)
  else
    let rf := s.reg (Reg.PARTITION_BUFFER.RESERVE_CELLS f.part) - s.reserveUsed f.part
    let m := n - rf
    let alpha := toInt 32 (s.reg (Reg.PARTITION_BUFFER.ALPHA f.part))
    if m = 0 then .ok (n, 0)
    else if s.sharedFree < m then .error Drop.bufferFull
    else if 0 ≤ alpha ∧ s.sharedFree * 2 ^ alpha.toNat < s.sharedUsed f.part + m then .error Drop.partitionLimit
    else if alpha < 0 ∧ s.sharedFree < (s.sharedUsed f.part + m) * 2 ^ (-alpha).toNat then .error Drop.partitionLimit
    else .ok (min n rf, m)

/-- The frame's descriptor pool has one free (R247, R252). -/
def State.descAvailable (s : State) (pool : Nat) : Bool :=
  let used := fun (p : Copy → Bool) => (s.copies.filter p).length
  let resv := s.reg Reg.BUFFER_CONFIG.RESV_POOL_DESC
  if pool = Pool.mgmt then used (fun c => c.pool == Pool.mgmt) < 1024
  else if pool = Pool.resv then used (fun c => c.pool == Pool.resv) < resv
  else used (fun c => c.pool != Pool.mgmt && c.pool != Pool.resv) < 1048576 - 1024 - resv

/-- A copy of known length `len` never fits a window of queue `q` of port `e` (R317). -/
def State.neverFits (s : State) (e q len : Nat) : Bool :=
  let w := s.longestWindow e q
  w != 0xFFFFFFFF && w * 1000 < s.txTimePs e len

/-- copy_check of a frame with charge `n` for port `e`: the reason of the first check that fails (R252). -/
def State.copyCheck (s : State) (f : Frame) (n e : Nat) : Option Nat :=
  if 642 < e ∨ s.portKind e = 0 then some Drop.unusedDest
  else if !s.portUp e && s.reg (Reg.PORT_BUFFER.DOWN_ACTION e) == 0 then some Drop.egressDown
  else if f.lenKnown && s.maxFrame e < f.len then some Drop.egressMaxFrame
  else if f.lenKnown && s.neverFits e f.queue f.len then some Drop.gateNeverFits
  else if !s.descAvailable f.pool then some Drop.descriptorsFull
  else if f.pool != Pool.resv && s.reg (Reg.PORT_BUFFER.PORT_MAX_CELLS e) < s.portDepth e + n then some Drop.portLimit
  else if f.pool != Pool.resv
      && entryAt 16 4 (s.reg (Reg.PORT_BUFFER.QUEUE_MAX_CELLS e)) f.queue < s.queueDepth e f.queue + n then some Drop.queueLimit
  else none

end Sys2Proof.Machine
end

