-- ==== Sys2Proof/Machine/Queues.lean ====
section
/-!
DEFINITION. Queues, shaping and policing (R272 to R295): eligibility, strict priority and deficit round robin, the
shapers' and policers' buckets, priority flow control and its watchdog, and the commands of the chapter.
-/
namespace Sys2Proof.Machine

/-! ### Shapers (R277 to R280) -/

/-- Level of queue `q`'s shaper and of the port's, in micro-octets. -/
def State.qLevel (s : State) (p q : Nat) : Int := toInt 64 (entryAt 16 8 (s.reg (Reg.PORT_QSTATE.QSHAPE_LEVEL p)) q)
def State.setQLevel (s : State) (p q : Nat) (v : Int) : State :=
  s.setReg (Reg.PORT_QSTATE.QSHAPE_LEVEL p) (setEntry 16 8 (s.reg (Reg.PORT_QSTATE.QSHAPE_LEVEL p)) q (ofInt 64 v))
def State.pLevel (s : State) (p : Nat) : Int := toInt 64 (s.reg (Reg.PORT_QSTATE.PSHAPE_LEVEL p))
def State.setPLevel (s : State) (p : Nat) (v : Int) : State := s.setReg (Reg.PORT_QSTATE.PSHAPE_LEVEL p) (ofInt 64 v)

/-- The queue's, and the port's, shaper is enabled. -/
def State.qShaped (s : State) (p q : Nat) : Bool := bit (s.reg (Reg.PORT_SCHED.QSHAPE_ENABLE p)) q
def State.pShaped (s : State) (p : Nat) : Bool := s.reg (Reg.PORT_SCHED.PSHAPE_ENABLE p) == 1

def State.qBurst (s : State) (p q : Nat) : Nat := s.u32At (Reg.PORT_SCHED.QSHAPE_BURST p) q
def State.qRate (s : State) (p q : Nat) : Nat := s.u32At (Reg.PORT_SCHED.QSHAPE_RATE p) q

/-- A level raised by an amount and capped at a burst of octets (R277, R278). -/
def refilled (level : Int) (add burst : Nat) : Int := min (burst * 10 ^ 6 : Nat) (level + add)

/-- The enabled shapers of port `p` take one refill tick (R277). -/
def State.refillPort (s : State) (p : Nat) : State :=
  let s := if s.reg (Reg.PORT_SCHED.QSHAPE_ENABLE p) = 0 then s
    else s.forAll ((List.range 16).filter (s.qShaped p)) (fun s q =>
      s.setQLevel p q (refilled (s.qLevel p q) (s.qRate p q * 5) (s.qBurst p q)))
  s.when (s.pShaped p) (fun s => s.setPLevel p
    (refilled (s.pLevel p) (s.reg (Reg.PORT_SCHED.PSHAPE_RATE p) * 5) (s.reg (Reg.PORT_SCHED.PSHAPE_BURST p))))

/-! ### Policers (R283 to R287) -/

def polValid (e : Nat) : Bool := bit e 255
def polBlockOversize (e : Nat) : Bool := bit e 254
def polDropYellow (e : Nat) : Bool := bit e 253
def polGateValid (e : Nat) : Bool := bit e 252
def polGate (e : Nat) : Nat := bits e 251 242
def polMaxSdu (e : Nat) : Nat := bits e 231 216
def polCir (e : Nat) : Nat := bits e 215 184
def polCbs (e : Nat) : Nat := bits e 183 160
def polEir (e : Nat) : Nat := bits e 159 128
def polEbs (e : Nat) : Nat := bits e 127 104

/-- Policer `i` takes one refill tick (R283). -/
def State.refillPolicer (s : State) (i : Nat) : State :=
  let e := s.policerElem i
  if polValid e then
    (s.setTab Tab.polC i (min (polCbs e * 10 ^ 6) (s.tab Tab.polC i + polCir e * 5))).setTab Tab.polE i
      (min (polEbs e * 10 ^ 6) (s.tab Tab.polE i + polEir e * 5))
  else s

/-- An amount of octets goes back to the bucket that paid (R284): 1 committed, 2 excess. -/
def State.repayPolicer (s : State) (i bucket octets : Nat) : State :=
  let e := s.policerElem i
  if bucket = 1 then s.setTab Tab.polC i (min (polCbs e * 10 ^ 6) (s.tab Tab.polC i + octets * 10 ^ 6))
  else if bucket = 2 then s.setTab Tab.polE i (min (polEbs e * 10 ^ 6) (s.tab Tab.polE i + octets * 10 ^ 6))
  else s

/-- BLOCKED of policer `i` is set by an oversize frame (R282). -/
def State.blockPolicer (s : State) (i : Nat) : State :=
  (s.setTab Tab.polBlocked i 1).when (s.tab Tab.polBlocked i == 0) (·.bump Reg.POLICER_CONTROL.OVERSIZE_BLOCKS 64)

/-- Stage 7's verdict on a frame: passed, or dropped under a reason; whether it conforms; and what R284 gives back:
bucket and octets charged. -/
structure Verdict where
  drop : Nat
  green : Bool
  bucket : Nat
  octets : Nat
deriving DecidableEq, Repr

/-- A count of policer `i` goes up modulo 2^32 (R287). -/
def State.polCount (s : State) (t i : Nat) : State := s.setTab t i ((s.tab t i + 1) % 2 ^ 32)

/-- The meter of policer `i` for a charge of `octets` (R283). -/
def State.meter (s : State) (i octets : Nat) : State × Verdict :=
  let e := s.policerElem i
  let x := octets * 10 ^ 6
  if x ≤ s.tab Tab.polC i then
    ((s.setTab Tab.polC i (s.tab Tab.polC i - x)).polCount Tab.polGreen i, ⟨0, true, 1, octets⟩)
  else if x ≤ s.tab Tab.polE i then
    ((s.setTab Tab.polE i (s.tab Tab.polE i - x)).polCount Tab.polYellow i,
      ⟨if polDropYellow e then Drop.policerExcess else 0, false, 2, octets⟩)
  else (s.polCount Tab.polRed i, ⟨Drop.policerExcess, false, 0, 0⟩)

/-- Stage 7 for policer `i` (R282 to R284): `len` the length where it is known, `maxFrame` MAX_FRAME of SRC_PORT,
`gateOpen` whether stream gate STREAM_GATE is open. -/
def State.police (s : State) (i : Nat) (lenKnown : Bool) (len maxFrame : Nat) (gateOpen : Nat → Bool) : State × Verdict :=
  let e := s.policerElem i
  if !polValid e then (s.bump Reg.POLICER_CONTROL.INVALID_HITS 64, ⟨0, false, 0, 0⟩)
  else if s.tab Tab.polBlocked i = 1 then (s.polCount Tab.polSdu i, ⟨Drop.streamFilterSdu, false, 0, 0⟩)
  else if polMaxSdu e != 0 && lenKnown && polMaxSdu e < len then
    ((s.polCount Tab.polSdu i).when (polBlockOversize e) (·.blockPolicer i), ⟨Drop.streamFilterSdu, false, 0, 0⟩)
  else if polGateValid e && !gateOpen (polGate e) then (s.polCount Tab.polGate i, ⟨Drop.streamGateClosed, false, 0, 0⟩)
  else s.meter i (if lenKnown then len else if polMaxSdu e ≠ 0 then polMaxSdu e else maxFrame)

/-! ### Eligibility (R273) -/

/-- Priority flow control pauses queue `q` of port `p` (R288); recovery may ignore it (R290). -/
def State.pfcPaused (s : State) (p q : Nat) : Bool :=
  p < 512 && (List.range 8).any (fun i => bit (s.reg (Reg.PORT_PFC.RX_ENABLE p)) i && s.tab Tab.pfcTimer (8 * p + i) != 0
    && bit (entryAt 8 2 (s.reg (Reg.PORT_PFC.PAUSE_MAP p)) i) q)

/-- PAUSED of port `p` (R294); a PAUSE holds every queue of a host port (R173). -/
def State.pausedMask (s : State) (p : Nat) : Nat :=
  if (p = 512 ∨ p = 513) ∧ s.tab Tab.hostPause (p - 512) ≠ 0 then 0xFFFF
  else ((List.range 16).filter (s.pfcPaused p)).foldl (fun m q => m + 2 ^ q) 0

/-- Queue `q` of port `p` is in watchdog recovery. -/
def State.inRecovery (s : State) (p q : Nat) : Bool := p < 512 && bit (s.reg (Reg.PORT_PFC.IN_RECOVERY p)) q

/-- Cells that a copy needs of its Dalzan queue (R182). -/
def State.creditNeed (s : State) (c : Copy) : Nat :=
  match s.frame? c.frame with
  | none => 0
  | some f => if f.tailed || f.lenKnown then ceilDiv f.len 256 else ceilDiv (s.maxFrame c.port) 256

/-- GRANT of queue `q`: PARTNER_GRANT. -/
def State.grant (s : State) (p q : Nat) : Nat := entryAt 16 2 (s.reg (Reg.PORT.PARTNER_GRANT p)) q

/-- Cells of a copy in transmission whose first octet has been sent (R180, R182): by the time since its start at the port's rate, as far
as its frame has octets. -/
def State.cellsStarted (s : State) (c : Copy) : Nat :=
  match s.frame? c.frame with
  | none => 0
  | some f =>
    let n := c.sent.length + (f.octets.length - c.used) + (if f.tailed then 4 else 0)
    if s.clock.ptp < c.start then 0 else min (ceilDiv n 256) (1 + (s.clock.ptp - c.start) * s.portRate c.port / (nsUnit * 2048))

/-- SENT_q now: the cells of frames that have gone, and those of the copy in transmission (R182). -/
def State.sentNow (s : State) (p q : Nat) : Nat :=
  (s.tab Tab.dzSent (16 * p + q) + ((s.copies.filter (fun c => c.port == p && c.queue == q && c.phase == 2)).map s.cellsStarted).sum)
    % 2 ^ 24

/-- A term of the credit ledger of a link's queue (R47, R182): 0 credits_q, 1 in flight, 2 held by the partner. They sum to GRANT_q. -/
def State.creditTerm (s : State) (p q k : Nat) : Int :=
  let received := s.tab Tab.dzPartnerReceived (16 * p + q)
  let returned := s.tab Tab.dzPartnerReturned (16 * p + q)
  if k = 0 then (s.grant p q : Int) - subMod 24 (s.sentNow p q) returned
  else if k = 1 then subMod 24 (s.sentNow p q) received
  else subMod 24 received returned

/-- credits_q of a Dalzan port (R182), less what selected copies and the copy in transmission will take. -/
def State.creditsLeft (s : State) (p q : Nat) : Int :=
  (s.grant p q : Int) - subMod 24 (s.tab Tab.dzSent (16 * p + q)) (s.tab Tab.dzPartnerReturned (16 * p + q))
    - (((s.copies.filter (fun c => c.port == p && c.queue == q && c.phase != 0)).map s.creditNeed).sum : Nat)

/-- The frame's admission allows the copy to start (R256): cut-through, or final with a correct FCS. -/
def State.mayStart (s : State) (c : Copy) : Bool :=
  match s.frame? c.frame with
  | none => false
  | some f => c.cutThrough || (f.final && f.tailed && f.tailReason == 0)

/-- The time that the copy takes for its gate (R314, R315): T(L) of a known length, else the kerf. -/
def State.copyPs (s : State) (c : Copy) : Nat :=
  match s.frame? c.frame with
  | none => 0
  | some f => if f.tailed || f.lenKnown then s.txTimePs c.port f.len else s.kerfPs c.port

/-- A bench port's receive ring has room for the copy (R396): of a length not yet known, for the longest frame. -/
def State.benchRoom (s : State) (c : Copy) : Bool :=
  c.port < 514 || 641 < c.port || (match s.frame? c.frame with
    | none => false
    | some f => s.ringRoom (c.port - 514) ((if f.tailed || f.lenKnown then f.len else s.maxFrame c.port) - 4))

/-- A bypass frame is on the wire of a host port, or the gap behind it (R593). -/
def State.bypassOnWire (s : State) (p : Nat) : Bool :=
  (p == 512 || p == 513) && decide (s.clock.island < s.tab Tab.bypassEnd (p - 512))

/-- A bypass frame of `n` octets, with preamble and gap, takes the wire of host port `h`: until so many ticks of 2.5 ns have passed. -/
def State.occupyWire (s : State) (h n : Nat) : State :=
  s.setTab Tab.bypassEnd h (s.clock.island + ceilDiv (n * 8000 / s.portRate (512 + h)) 2500)

/-- The head copy of queue `q` of port `p`, where the queue is eligible now (R273). -/
def State.eligibleHead (s : State) (p q : Nat) : Option Copy :=
  match s.queued p q with
  | [] => none
  | c :: _ =>
    if s.mayStart c && s.gateAllows p q s.clock.ptp (s.copyPs c) && (!s.qShaped p q || 0 ≤ s.qLevel p q)
        && (!s.pShaped p || 0 ≤ s.pLevel p) && (!s.pfcPaused p q || (s.inRecovery p q && s.reg (Reg.PORT_PFC.WATCHDOG_ACTION p) != 0))
        && (p < 512 || 514 ≤ p || s.tab Tab.hostPause (p - 512) == 0)
        && (s.portKind p != 2 || (s.tab Tab.dzArrived (4 * p + q / 4) == 1 && (s.creditNeed c : Int) ≤ s.creditsLeft p q))
        && s.benchRoom c && s.portUp p then some c
    else none

/-! ### Selection (R272, R274 to R276) -/

/-- The frame length that a copy is charged: L, or MAX_FRAME of the egress port (R276, R278). -/
def State.chargeOf (s : State) (c : Copy) : Nat :=
  match s.frame? c.frame with
  | none => 0
  | some f => if f.tailed || f.lenKnown then f.len else s.maxFrame c.port

/-- One pass of the DRR group over `order` (R275): the state and the copy selected. -/
def State.drrPass (s : State) (p : Nat) : List Nat → State × Option Copy
  | [] => (s, none)
  | q :: t =>
    match s.eligibleHead p q with
    | none => s.drrPass p t
    | some c =>
      let i := 16 * p + q
      let s := if s.tab Tab.drrVisited i = 1 then s
        else (s.setDeficit p q (s.deficit p q + s.u32At (Reg.PORT_SCHED.QUANTUM p) q)).setTab Tab.drrVisited i 1
      if s.chargeOf c ≤ s.deficit p q then
        ((s.setDeficit p q (s.deficit p q - s.chargeOf c)).setTab Tab.drrCur p q, some c)
      else ((s.setTab Tab.drrVisited i 0).setTab Tab.drrCur p (nextAfter q (s.drrActive p))).drrPass p t

/-- The active list from `cur` on, once round. -/
def State.drrOrder (s : State) (p : Nat) : List Nat :=
  let l := s.drrActive p
  let cur := s.tab Tab.drrCur p
  if l.contains cur then l.dropWhile (· != cur) ++ l.takeWhile (· != cur) else l

/-- As many passes as the selection needs (R276); a quantum is at least 64 octets, so `n` passes suffice. -/
def State.drrSelect (s : State) (p : Nat) : Nat → State × Option Copy
  | 0 => (s, none)
  | n + 1 =>
    match s.drrPass p (s.drrOrder p) with
    | (s, some c) => (s, some c)
    | (s, none) => s.drrSelect p n

/-- The selected copy leaves its queue and its charges are taken (R274, R277). -/
def State.select (s : State) (c : Copy) (drrCharge : Nat) : State :=
  let p := c.port
  let q := c.queue
  let x := s.chargeOf c + s.reg (Reg.PORT_SCHED.OVERHEAD p)
  let known := match s.frame? c.frame with | none => false | some f => f.tailed || f.lenKnown
  let qc := if s.qShaped p q then x else 0
  let pc := if s.pShaped p then x else 0
  let s := s.when (s.qShaped p q) (fun s => s.setQLevel p q (s.qLevel p q - (x * 10 ^ 6 : Nat)))
  let s := s.when (s.pShaped p) (fun s => s.setPLevel p (s.pLevel p - (x * 10 ^ 6 : Nat)))
  let rest := s.deficit p q
  let s := (s.putCopy { c with phase := 1, drrCharge := drrCharge, qCharge := qc, pCharge := pc, lenKnown := known, start := s.clock.ptp }).settleQueue p q
  s.when (drrCharge != 0 && (s.queued p q).isEmpty) (fun s =>
    { s with copies := s.copies.map (fun d => if d.id = c.id then { d with drrLeft := rest } else d) })

/-- The highest-numbered eligible strict queue's head (R272). -/
def State.strictHead (s : State) (p : Nat) : Option Copy :=
  ((List.range 16).reverse.filter (fun q => s.isStrict p q)).findSome? (fun q => s.eligibleHead p q)

/-- A selection of port `p`: one at a time (R274), and none whose start would fall into a bypass frame (R593). The command stands at the
start instant that it fixes (log entry 65). -/
def State.selection (s : State) (p : Nat) : State :=
  if s.copies.any (fun c => c.port == p && c.phase == 1) || s.bypassOnWire p then s
  else
    match s.strictHead p with
    | some c => s.select c 0
    | none =>
      if (s.drrActive p).any (fun q => (s.eligibleHead p q).isSome) then
        match s.drrSelect p 200 with
        | (s, some c) => s.select c (s.chargeOf c)
        | (s, none) => s
      else s

/-- A selection taken back because the port left UP (R274): the copy is at the head of its queue again and its charges
are restored. -/
def State.recall (s : State) (c : Copy) : State :=
  let p := c.port
  let q := c.queue
  let s := s.when (c.qCharge != 0) (fun s => s.setQLevel p q (s.qLevel p q + (c.qCharge * 10 ^ 6 : Nat)))
  let s := s.when (c.pCharge != 0) (fun s => s.setPLevel p (s.pLevel p + (c.pCharge * 10 ^ 6 : Nat)))
  let s := { s with copies := { c with phase := 0, emptied := false, drrLeft := 0 } :: s.copies.filter (fun d => d.id != c.id) }
  let s := s.enterDrr p q
  s.when (c.drrCharge != 0) (fun s => s.setDeficit p q (s.deficit p q + c.drrCharge + c.drrLeft))

/-- What was charged beyond L goes back when the tail of a copy of unknown length arrives (R276, R278). -/
def State.refund (s : State) (c : Copy) (len : Nat) : State :=
  let p := c.port
  let q := c.queue
  let excess := s.maxFrame p - len
  let s := s.when (c.drrCharge != 0 && !c.emptied) (fun s => s.setDeficit p q (s.deficit p q + excess))
  let s := s.when (c.qCharge != 0) (fun s => s.setQLevel p q (refilled (s.qLevel p q) (excess * 10 ^ 6) (s.qBurst p q)))
  let s := s.when (c.pCharge != 0) (fun s => s.setPLevel p
    (refilled (s.pLevel p) (excess * 10 ^ 6) (s.reg (Reg.PORT_SCHED.PSHAPE_BURST p))))
  s.putCopy { c with lenKnown := true, drrCharge := c.drrCharge - excess, qCharge := c.qCharge - excess, pCharge := c.pCharge - excess }

/-- Port `p` leaves UP as far as its copies go (R157, R264, R274). -/
def State.portLeavesUp (s : State) (p : Nat) (stomp : Bool) : State :=
  let s := s.when (s.reg (Reg.PORT_BUFFER.DOWN_ACTION p) == 1) (fun s =>
    s.forAll (s.copies.filter (fun c => c.port == p && c.phase == 1)) State.recall)
  s.downCopies p stomp

/-! ### High-water marks (R292) -/

/-- A mark of queue `q` raised to a value. -/
def State.raiseMark (s : State) (k q v : Nat) : State :=
  s.when (entryAt 16 4 (s.reg k) q < v) (fun s => s.setReg k (setEntry 16 4 (s.reg k) q (min v (2 ^ 32 - 1))))

/-! ### The PFC watchdog (R290, R291) -/

/-- The watchdog fires on queue `q` of fabric port `p` (R290). -/
def State.watchdogFire (s : State) (p q : Nat) : State :=
  let s := s.event (Reg.PORT_PFC.EVENTS p) 0 (0x0C00 + p)
  let s := s.logFault 0x04 0 0 (0x0C00 + p) (s.portPart p) (faultData 3 (p * 256 + q))
  let s := s.setReg (Reg.PORT_PFC.IN_RECOVERY p) (setBit (s.reg (Reg.PORT_PFC.IN_RECOVERY p)) q true)
  let s := s.setTab Tab.queueFault (16 * p + q) (setBit (s.tab Tab.queueFault (16 * p + q)) 0 true)
  let s := s.when (s.reg (Reg.PORT_PFC.WATCHDOG_ACTION p) == 2) (fun s =>
    s.endCopies (fun c => c.port == p && c.queue == q && c.phase == 0) Drop.pfcWatchdog false)
  s.refreshResvs

/-! ### The commands -/

/-- SCHEDULER_SELECTION (R272 to R276). -/
def execSchedulerSelection (p : PortNo) (s : State) : Next := State.done (s.selection p)

/-- Listed policer records. -/
def State.policerList (s : State) : List Nat := (s.tabList (Tab.win 0x5600)).map (·.1)

/-- REFILL_TICK: every enabled shaper and every valid policer (R277, R283). -/
def execRefillTick (s : State) : Next :=
  State.done ((s.forAll (List.range 643) State.refillPort).forAll s.policerList State.refillPolicer)

/-- Levels clipped to a new burst (R280). -/
def clipLevel (level : Int) (burst : Nat) : Int := min level (burst * 10 ^ 6 : Nat)

/-- A write of STRICT_MASK (R272). -/
def State.writeStrictMask (s : State) (p v : Nat) : State :=
  let old := s.reg (Reg.PORT_SCHED.STRICT_MASK p)
  let s := s.setReg (Reg.PORT_SCHED.STRICT_MASK p) v
  s.forAll (List.range 16) (fun s q =>
    if bit v q && !bit old q then s.leaveDrr p q else if !bit v q && bit old q then s.enterDrr p q else s)

/-- The value breaks R280: a shaper would be enabled with rate 0. -/
def State.zeroRate (s : State) (p sub v : Nat) : Bool :=
  if sub = 0x03 then (List.range 16).any (fun q => bit v q && s.qRate p q == 0)
  else if sub = 0x04 then (List.range 16).any (fun q => s.qShaped p q && entryAt 16 4 v q == 0)
  else if sub = 0x06 then v == 1 && s.reg (Reg.PORT_SCHED.PSHAPE_RATE p) == 0
  else if sub = 0x07 then s.pShaped p && v == 0
  else false

/-- A write of PORT_SCHED applied (R272, R280). -/
def State.applySched (s : State) (p sub v : Nat) : State :=
  if sub = 0x01 then s.writeStrictMask p v
  else if sub = 0x05 then
    (s.setReg (Reg.PORT_SCHED.QSHAPE_BURST p) v).forAll (List.range 16) (fun s q =>
      s.setQLevel p q (clipLevel (s.qLevel p q) (entryAt 16 4 v q)))
  else if sub = 0x08 then (s.setReg (Reg.PORT_SCHED.PSHAPE_BURST p) v).setPLevel p (clipLevel (s.pLevel p) v)
  else s.setReg (regKey (0x5000 + p) sub) v

/-- The effect of a write to PORT_SCHED (R280, R281). -/
def schedEffect (p sub v : Nat) (s : State) : Res :=
  if s.zeroRate p sub v then Res.fail s Code.range
  else if s.carriesResv p then
    s.evaluated (s.applySched p sub v) Code.admissionRejected [] false (fun s => s.applySched p sub v)
  else Res.done (s.applySched p sub v)

/-- PORT_SCHED_WRITE (R281). -/
def execPortSchedWrite (w : SessionNo) (p : PortNo) (sub value : Nat) (s : State) : Next :=
  (s.hostWrite w (0x5000 + p) sub value (schedEffect p sub value)).next

/-- The effect of a write to UNBLOCK (R287). -/
def unblockEffect (i : Nat) (s : State) : Res := Res.done (s.setTab Tab.polBlocked i 0)

/-- UNBLOCK (R287, R296). -/
def execUnblock (w : SessionNo) (policer : Nat) (s : State) : Next :=
  (s.hostWrite w 0x5602 0x01 policer (unblockEffect policer)).next

/-- PFC_REFRESH: a class in XOFF whose usage is still at XON_CELLS or above repeats its frame, while the port is UP (R174, R289). -/
def execPfcRefresh (p : FabricNo) (cls : Fin 8) (s : State) : Next :=
  if s.portKind p == 1 && s.portUp p && bit (s.reg (Reg.PORT_PFC.XOFF_STATE p)) cls
      && s.reg (Reg.PORT_PFC.XON_CELLS p) ≤ s.ingressUsage p cls then
    State.done (s.sendPfc p cls 0xFFFF)
  else .next s

/-- WATCHDOG_FIRED: on a paused queue that holds a copy (R290). -/
def execWatchdogFired (p : FabricNo) (q : QueueNo) (s : State) : Next :=
  if s.pfcPaused p q && !s.inRecovery p q && !(s.queued p q).isEmpty then State.done (s.watchdogFire p q) else .next s

/-- WATCHDOG_RECOVERED (R290). -/
def execWatchdogRecovered (p : FabricNo) (q : QueueNo) (s : State) : Next :=
  if s.inRecovery p q then
    let s := s.setReg (Reg.PORT_PFC.IN_RECOVERY p) (setBit (s.reg (Reg.PORT_PFC.IN_RECOVERY p)) q false)
    let s := s.setTab Tab.queueFault (16 * p + q) (setBit (s.tab Tab.queueFault (16 * p + q)) 0 false)
    State.done (s.event (Reg.PORT_PFC.EVENTS p) 1 (0x0C00 + p)).refreshResvs
  else .next s

/-- An enabled class maps to queue `q` of port `p`. -/
def State.classMaps (s : State) (p q : Nat) : Bool :=
  (List.range 8).any (fun i => bit (s.reg (Reg.PORT_PFC.RX_ENABLE p)) i && bit (entryAt 8 2 (s.reg (Reg.PORT_PFC.PAUSE_MAP p)) i) q)

/-- PAUSE_FAULT: a pause found set on a queue that no enabled class maps to (R291); its reservations are suspended
under PFC_FAULT, which has gone again when the pause has been cleared. -/
def execPauseFault (p : FabricNo) (q : QueueNo) (s : State) : Next :=
  if s.classMaps p q then .next s
  else
    let s := s.event (Reg.PORT_PFC.EVENTS p) 2 (0x0C00 + p)
    let s := s.logFault 0x05 0 0 (0x0C00 + p) (s.portPart p) (faultData 3 (p * 256 + (q : Nat)))
    let hit := s.resvList.filter (fun n => s.resvLive n && s.usesQueue (s.resvRecord n) p q)
    State.done (s.forAll hit (fun s n => s.setCauses n (setBit (s.tab Tab.resvCause n) 7 true))).refreshResvs

/-- The effect of a write to HWM_CLEAR (R292). -/
def hwmEffect (p mask : Nat) (s : State) : Res :=
  Res.done (s.forAll ((List.range 16).filter (bit mask)) (fun s q =>
    (s.setReg (Reg.PORT_QSTATE.DEPTH_HWM p) (setEntry 16 4 (s.reg (Reg.PORT_QSTATE.DEPTH_HWM p)) q 0)).setReg
      (Reg.PORT_QSTATE.RESIDENCE_HWM p) (setEntry 16 4 (s.reg (Reg.PORT_QSTATE.RESIDENCE_HWM p)) q 0)))

/-- HWM_CLEAR (R292). -/
def execHwmClear (w : SessionNo) (p : PortNo) (mask : Nat) (s : State) : Next :=
  (s.hostWrite w (0x5300 + p) 0x07 mask (hwmEffect p mask)).next

end Sys2Proof.Machine
end

