-- ==== Sys2Proof/Machine/Catalogue.lean ====
section
/-!
DEFINITION. The counter catalogue (R502): which counter numbers are assigned, which are reserved offsets of an
assigned block, and which are free.
-/
namespace Sys2Proof.Machine

/-- What a counter number is (R502). -/
inductive CtrClass where
  | assigned | reserved | free
deriving DecidableEq, Repr

/-- A block of the catalogue: base, instances, distance, and the offsets that count. -/
structure CtrBlock where
  base : Nat
  count : Nat
  span : Nat
  offsets : List Nat
deriving DecidableEq, Repr

/-- The blocks of R502; the queues' four offsets and the energy pairs included. -/
def ctrBlocks : List CtrBlock := [
  ⟨0x00000, 512, 32, List.range 22⟩, ⟨0x04000, 8, 32, List.range 22⟩, ⟨0x08000, 643, 16, List.range 14⟩,
  ⟨0x10000, 643, 64, List.range 59⟩, ⟨0x20000, 10288, 4, List.range 4⟩, ⟨0x30000, 64, 16, List.range 11⟩,
  ⟨0x30400, 64, 16, List.range 6⟩, ⟨0x30800, 1, 8, [0, 1, 2]⟩, ⟨0x30808, 1, 8, [0, 1]⟩, ⟨0x30880, 16, 8, [0, 1]⟩,
  ⟨0x31000, 512, 4, [0, 1, 2]⟩, ⟨0x31800, 128, 8, [0, 1, 2, 4, 5, 6]⟩, ⟨0x31C00, 130, 2, [0, 1]⟩,
  ⟨0x34000, 16, 8, List.range 6⟩, ⟨0x34080, 1, 8, List.range 4⟩, ⟨0x34800, 10288, 2, [0, 1]⟩]

/-- The class of counter number `n` (R502). -/
def ctrClass (n : Nat) : CtrClass :=
  match ctrBlocks.find? (fun b => b.base ≤ n && n < b.base + b.count * b.span) with
  | none => .free
  | some b => if b.offsets.contains ((n - b.base) % b.span) then .assigned else .reserved

/-- A frame event posted to counter `n` by a table action or META COUNT (R217, R438, R502): only a free counter counts
it. -/
def State.postCount (s : State) (n : Nat) : State := s.when (ctrClass n == .free) (·.count n)

end Sys2Proof.Machine
end

