-- ==== Sys2Proof/Machine/Ucode.lean ====
section
/-!
DEFINITION. The microcode stores as a fetch sees them (R417, R418, R440, R441, R443): the word at an address of a
pipeline's or a bench's store, or none where it is UNLOADED.
-/
namespace Sys2Proof.Machine

/-! ### The pipeline library (R433 to R438, R443) -/

/-- A source selector of R434. -/
def srcSel (kind word lsb width : Nat) : Nat := kind * 2 ^ 18 + word * 2 ^ 11 + lsb * 2 ^ 6 + width

/-- ALU slot bits: operation, predicate, sources, whether it writes, and the destination field (R434). -/
def aluSlot (op pred a b dstKind word lsb width : Nat) : Nat :=
  op * 2 ^ 63 + pred * 2 ^ 59 + a * 2 ^ 39 + b * 2 ^ 19 + dstKind * 2 ^ 18 + word * 2 ^ 11 + lsb * 2 ^ 6 + width

/-- META slot bits (R438). -/
def metaSlot (pred op arg8 src : Nat) : Nat := pred * 2 ^ 32 + op * 2 ^ 28 + arg8 * 2 ^ 20 + src

/-- The library nanowords 0x000 to 0x00E, written from the effects of R443 (log entry 7): DEC_TTL takes its 1 from a
comparison, since its microword offers IMM16 0. -/
def pipeLibrary (n : Nat) : Option Nat :=
  let param := fun w => srcSel 1 0 0 w
  let alu0 := fun x => x * 2 ^ 443
  let alu1 := fun x => x * 2 ^ 374
  let meta' := fun x => x * 2 ^ 178
  match n with
  | 0x000 => some 0
  | 0x001 => some (meta' (metaSlot 0 1 0 (param 8)))
  | 0x002 => some (meta' (metaSlot 0 2 0 (param 4)))
  | 0x003 => some (meta' (metaSlot 0 3 1 (param 16)))
  | 0x004 => some (meta' (metaSlot 0 3 2 (param 16)))
  | 0x005 => some (meta' (metaSlot 0 3 3 (param 16)))
  | 0x006 => some (meta' (metaSlot 0 5 1 (srcSel 2 0 0 12)))
  | 0x007 => some (meta' (metaSlot 0 5 0 (param 12)))
  | 0x008 => some (meta' (metaSlot 0 4 1 0))
  | 0x009 => some (meta' (metaSlot 0 8 0 (param 18)))
  | 0x00A => some (alu0 (aluSlot 1 0 (param 32) 0 0 23 0 32))
  | 0x00B => some (alu0 (aluSlot 1 0 (param 16) 0 0 8 0 16) + meta' (metaSlot 0 9 1 0))
  | 0x00C => some (meta' (metaSlot 0 9 2 0))
  | 0x00D => some (alu0 (aluSlot 1 0 (param 3) 0 0 8 13 3) + meta' (metaSlot 0 9 3 0))
  | 0x00E => some (alu0 (aluSlot 0x09 0 (srcSel 2 0 0 1) (srcSel 2 0 0 1) 1 0 0 0)
      + alu1 (aluSlot 0x10 0 (srcSel 0 39 8 8) (srcSel 3 0 0 32) 0 39 8 8) + meta' (metaSlot 5 1 0 (param 8)))
  | _ => none

/-- Vendor microword at 0x3800 + `n` (R432, R443): nanoword `n` with IMM16 0, and nanoword 0 from 0x3C00 on. -/
def pipeVendorMicro (addr : Nat) : Nat := if addr < 0x3C00 then (addr - 0x3800) * 2 ^ 20 else 0

/-! ### What a fetch reads -/

-- Elements of Tab.ucodeLost: a word that error correction has lost in one store (R455, R456).
/-- Microword or nanoword `a` of pipeline `pipe` (0 to 63 ingress, 64 to 127 egress). -/
def lostPipeWord (pipe : Nat) (nano : Bool) (a : Nat) : Nat := pipe * 2 ^ 16 + ofBool nano * 2 ^ 15 + a
/-- Microword `a` of bench `b`. -/
def lostBenchWord (b a : Nat) : Nat := 2 ^ 24 + b * 2 ^ 16 + a
/-- Nanoword `a` of bay `y`. -/
def lostBayWord (y a : Nat) : Nat := 2 ^ 25 + y * 2 ^ 16 + a

/-- The word that a table of words + 1 holds at an element; 0 is UNLOADED (R418). -/
def loadedWord (v : Nat) : Option Nat := if v = 0 then none else some (v - 1)

/-- Microword `a` of the pipelines' active bank (R417, R418, R443). -/
def State.pipeWord (s : State) (a : Nat) : Option Nat :=
  if 0x3800 ≤ a then (if s.tab Tab.vendorLoaded 0 = 1 then some (pipeVendorMicro a) else none)
  else loadedWord (s.tab Tab.pipeMicro a)

/-- Nanoword `a` of the pipelines' active bank; the library's 0x00F to 0x3FF hold what the manual does not give. -/
def State.pipeNano (s : State) (a : Nat) : Option Nat :=
  if a < 0x400 then
    (if s.tab Tab.vendorLoaded 0 = 1 then
      (match pipeLibrary a with | some w => some w | none => some (Config.vendorWord 2 0 a)) else none)
  else loadedWord (s.tab Tab.pipeNano a)

/-- What pipeline `pipe` fetches for microword `a`: the immediate and the nanoword, or none where either is UNLOADED
or lost there (R440, R456). -/
def State.pipeFetch (s : State) (pipe a : Nat) : Option (Nat × Nat) :=
  if s.tab Tab.ucodeLost (lostPipeWord pipe false a) = 1 then none
  else
    match s.pipeWord a with
    | none => none
    | some m =>
      let n := bits m 31 20
      if s.tab Tab.ucodeLost (lostPipeWord pipe true n) = 1 then none
      else match s.pipeNano n with | none => none | some w => some (bits m 19 4, w)

/-! ### The bench library (R429, R430, R441, R442) -/

/-- Tile slot bits of an operation on the tiles that satisfy `p` (R425, R430). -/
def tileSlots (p : Nat → Bool) (op : Nat) (f1 : Nat → Nat) (f2 f3 : Nat) : Nat :=
  (((List.range 16).filter p).map (fun t =>
    (op * 2 ^ 18 + f1 t * 2 ^ 12 + f2 * 2 ^ 6 + f3) * 2 ^ (315 - 21 * t))).sum

/-- The memory slot of an operation on four registers (R428). -/
def memSlot (op a b c d size : Nat) : Nat :=
  (op * 2 ^ 56 + a * 2 ^ 50 + b * 2 ^ 44 + c * 2 ^ 38 + d * 2 ^ 32 + size * 2 ^ 29) * 2 ^ 352

/-- A control-word write of a register (R429). -/
def cwWriteSlot (cw reg : Nat) : Nat := (2 * 2 ^ 14 + cw * 2 ^ 9 + reg * 2 ^ 3) * 2 ^ 336

/-- The library nanowords of every bay (R441). -/
def bayLibrary (n : Nat) : Option Nat :=
  let zero := fun p => tileSlots p 1 (fun _ => 0) 0 0
  let mma := fun p => tileSlots p 3 (fun t => 40 + t) 56 57
  let stores := fun p => tileSlots p 5 (fun t => 40 + t) 0 0
  match n with
  | 0x000 => some 0
  | 0x001 => some (zero (fun _ => true))
  | 0x002 => some (zero (· < 8))
  | 0x003 => some (zero (8 ≤ ·))
  | 0x004 => some (mma (· < 4))
  | 0x005 => some (mma (· < 8))
  | 0x006 => some (mma (fun _ => true))
  | 0x007 => some (stores (· < 4))
  | 0x008 => some (stores (· < 8))
  | 0x009 => some (stores (fun _ => true))
  | 0x010 => some (memSlot 0x21 32 33 34 35 2)
  | 0x011 => some (memSlot 0x21 32 33 34 35 3)
  | 0x012 => some (memSlot 0x23 36 37 0 0 0)
  | 0x013 => some (memSlot 0x30 38 39 0 0 0)
  | 0x014 => some (cwWriteSlot 9 31)
  | 0x015 => some (cwWriteSlot 11 30)
  | _ => none

/-- Microword `a` of bench `b` (R417, R418, R442): what the vendor region holds beyond its entries is not given. -/
def State.benchWord (s : State) (b a : Nat) : Option Nat :=
  if 0x3800 ≤ a then (if s.tab Tab.vendorLoaded (1 + b / 8) = 1 then some (Config.vendorWord 0 (b / 8) a % 2 ^ 32) else none)
  else loadedWord (s.tab Tab.bayMicro (b / 8 * 2 ^ 14 + a))

/-- Nanoword `a` of bay `y` (R417, R418, R441). -/
def State.bayWord (s : State) (y a : Nat) : Option Nat :=
  if a < 0x400 then
    (if s.tab Tab.vendorLoaded (1 + y) = 1 then
      (match bayLibrary a with | some w => some w | none => some (Config.vendorWord 1 y a % 2 ^ 512)) else none)
  else loadedWord (s.tab Tab.bayNano (y * 2 ^ 12 + a))

end Sys2Proof.Machine
end

