-- ==== Sys2Proof/Machine/Parse.lean ====
section
/-!
DEFINITION. The parser (R188 to R196, R213): the walk through the parse graph, the standard headers with their built-in
actions, and what it leaves in the header vector.
-/
namespace Sys2Proof.Machine

/-! ### The header vector (R195) -/

/-- Word `w` of a header vector. -/
def hvGet (hv : SMap Nat) (w : Nat) : Nat := hv.get (fun _ => 0) w
/-- Word `w` written. -/
def hvSet (hv : SMap Nat) (w v : Nat) : SMap Nat := hv.set (fun _ => 0) w v
/-- Field `[msb:lsb]` of word `w`. -/
def hvBits (hv : SMap Nat) (w msb lsb : Nat) : Nat := bits (hvGet hv w) msb lsb
/-- That field written. -/
def hvSetBits (hv : SMap Nat) (w msb lsb v : Nat) : SMap Nat := hvSet hv w (setBits (hvGet hv w) msb lsb v)
/-- Bit `i` of word `w`. -/
def hvBit (hv : SMap Nat) (w i : Nat) : Bool := bit (hvGet hv w) i

/-! ### Nodes (R190, R191) -/

/-- What the walk uses of a node: extractions as source offset, octets, word and lowest byte. -/
structure NodeView where
  valid : Bool
  terminal : Bool
  hid : Nat
  len : Nat
  next : Nat
  exts : List (Nat × Nat × Nat × Nat)
  /-- An earlier extraction into the same bytes is superseded (log entry 13). -/
  supersedes : Bool
deriving DecidableEq, Repr

/-- Transition `t` of a node: VALUE and NEXT (R190). -/
def nodeTrans (n t : Nat) : Nat × Nat := (bits n (436 - 24 * t) (421 - 24 * t), bits n (420 - 24 * t) (413 - 24 * t))

/-- Extraction `e` of a node, where it is VALID (R191). -/
def nodeExt (n e : Nat) : Option (Nat × Nat × Nat × Nat) :=
  let x := bits n (244 - 20 * e) (225 - 20 * e)
  if bit x 19 then some (bits x 18 11, bits x 10 9 + 1, bits x 8 2, bits x 1 0) else none

/-- A node of 64 octets where it stands at octet `off`; `o` gives the octets, 0 beyond what can be read (R190, R192). -/
def nodeView (n : Nat) (o : Nat → Nat) (off : Nat) : NodeView :=
  let sel := (o (off + bits n 468 461) * 256 + o (off + bits n 468 461 + 1)) &&& bits n 460 445
  let hits := (List.range (bits n 504 501)).filter (fun t => (nodeTrans n t).1 == sel)
  { valid := bit n 511, terminal := bit n 510, hid := bits n 509 505,
    len := bits n 499 492 + ((o (off + bits n 491 484) >>> bits n 483 481) &&& bits n 476 469) * bits n 480 477,
    next := match hits with | [] => bits n 444 437 | t :: _ => (nodeTrans n t).2,
    exts := (List.range 8).filterMap (nodeExt n), supersedes := false }

/-- Where an EtherType leads in the standard graph (R194), VLAN tags and R-tag apart. -/
def stdEther (t : Nat) : Nat :=
  if t = 0x0800 then 4 else if t = 0x86DD then 5 else if t = 0x0806 then 12 else if t = 0x88F7 then 13
  else if t = 0x88B6 then 14 else if t = 0x88CC then 15 else 255

/-- Where a protocol or next header leads (R194): ICMP after IPv4, ICMPv6 and the extensions after IPv6. -/
def stdProto (v6 : Bool) (p : Nat) : Nat :=
  if p = 6 then 8 else if p = 17 then 9
  else if v6 then (if p = 58 then 11 else if p = 0 ∨ p = 43 ∨ p = 60 then 6 else if p = 44 then 7 else 255)
  else if p = 1 then 10 else 255

/-- The standard graph (R194, R196): the node of header `h` where it stands at octet `off`; node `h` is HEADER_ID `h`
(log entry 13). -/
def stdNode (h : Nat) (o : Nat → Nat) (off : Nat) : NodeView :=
  let be16 := fun a => o (off + a) * 256 + o (off + a + 1)
  let mk := fun (terminal : Bool) len next exts => NodeView.mk true terminal h len next exts true
  match h with
  | 0 =>
    let t := be16 12
    mk false 14 (if t = 0x8100 ∨ t = 0x88A8 then 1 else if t = 0xF1C1 then 3 else stdEther t)
      [(0, 2, 24, 0), (2, 4, 25, 0), (6, 2, 26, 0), (8, 4, 27, 0), (12, 2, 28, 0)]
  | 1 =>
    let t := be16 2
    mk false 4 (if t = 0x8100 then 2 else if t = 0xF1C1 then 3 else stdEther t) [(2, 2, 28, 0)]
  | 2 => mk false 4 (if be16 2 = 0xF1C1 then 3 else stdEther (be16 2)) [(2, 2, 28, 0)]
  | 3 => mk false 6 (stdEther (be16 4)) [(4, 2, 28, 0)]
  | 4 => mk false (o off % 16 * 4) (stdProto false (o (off + 9))) [(12, 4, 29, 0), (16, 4, 30, 0), (8, 2, 39, 0)]
  | 5 =>
    mk false 40 (stdProto true (o (off + 6)))
      [(8, 4, 31, 0), (12, 4, 32, 0), (16, 4, 33, 0), (20, 4, 34, 0), (24, 4, 35, 0), (28, 4, 36, 0), (32, 4, 37, 0),
       (36, 4, 38, 0), (6, 1, 39, 0), (7, 1, 39, 1)]
  | 6 => mk false ((o (off + 1) + 1) * 8) (stdProto true (o off)) [(0, 1, 39, 0)]
  | 7 => mk false 8 (stdProto true (o off)) [(0, 1, 39, 0)]
  | 8 => mk true (o (off + 12) / 16 * 4) 255 [(0, 4, 40, 0), (13, 1, 41, 0)]
  | 9 => mk false 8 (if be16 2 = 319 ∨ be16 2 = 320 then 13 else 255) [(0, 4, 40, 0)]
  | 10 => mk true 8 255 []
  | 11 => mk true 8 255 []
  | 12 => mk true 28 255 []
  | 13 => mk true 34 255 [(0, 1, 46, 0), (4, 1, 46, 1), (30, 2, 46, 2)]
  | 14 => mk true 16 255 [(0, 4, 42, 0), (4, 4, 43, 0), (8, 4, 44, 0), (12, 4, 45, 0)]
  | _ => mk true 0 255 []

/-! ### The walk (R192) -/

/-- What the walk has found so far. -/
structure Walk where
  hv : SMap Nat
  exts : List (Nat × Nat × Nat × Nat)
  off : Nat
  count : Nat
  status : Nat
  /-- Octet + 1 at which the USF header began. -/
  usfAt : Nat
  /-- Octet + 1 at which the PTP header began. -/
  ptpAt : Nat
  /-- The IP headers found, in order: octet, and whether it is IPv6. -/
  ips : List (Nat × Bool)
  ended : Bool
deriving DecidableEq, Repr

/-- What the walk is given: the octets, how many are received, PARSE_DEPTH, L where the frame has ended, the frame's
number, and the graph. -/
structure ParseIn where
  octets : Bytes
  depth : Nat
  ended : Option Nat
  frame : Nat
  node : Nat → (Nat → Nat) → Nat → NodeView

/-- An octet as a length or select field reads it (R192). -/
def ParseIn.octet (p : ParseIn) (i : Nat) : Nat := if i < p.depth then p.octets.getD i 0 else 0

/-- An octet as an extraction reads it: one beyond PARSE_DEPTH or the frame is free (log entry 1). -/
def ParseIn.extOctet (p : ParseIn) (i : Nat) : Nat :=
  if i < p.depth ∧ i < p.octets.length then p.octets.getD i 0 else Config.beyondParse p.frame i % 256

/-- One extraction into the header vector (R191). -/
def ParseIn.extract (p : ParseIn) (hv : SMap Nat) (off : Nat) (x : Nat × Nat × Nat × Nat) : SMap Nat :=
  let v := ofBE ((List.range x.2.1).map (fun i => p.extOctet (off + x.1 + i)))
  hvSetBits hv x.2.2.1 (8 * (x.2.2.2 + x.2.1) - 1) (8 * x.2.2.2) v

/-- Two extractions write a common byte. -/
def extOverlap (a b : Nat × Nat × Nat × Nat) : Bool :=
  a.2.2.1 == b.2.2.1 && a.2.2.2 < b.2.2.2 + b.2.1 && b.2.2.2 < a.2.2.2 + a.2.1

/-- A VLAN tag's control information with PRESENT, as words 8 and 9 hold it. -/
def tagWord (tci : Nat) : Nat := 2 ^ 16 + bits tci 15 0

/-- The built-in action of a header that begins at octet `off` (R194): the walk, and whether the parse ends here. -/
def ParseIn.builtin (p : ParseIn) (w : Walk) (h off : Nat) : Walk × Bool :=
  let be16 := fun a => p.octet (off + a) * 256 + p.octet (off + a + 1)
  let firstIp := !(hvBit w.hv 5 4 || hvBit w.hv 5 5)
  let ip := fun (v6 : Bool) (ecn : Nat) =>
    let w := { w with ips := w.ips ++ [(off, v6)] }
    if firstIp then { w with hv := hvSetBits (hvSetBits w.hv 7 7 0 off) 22 1 0 ecn } else w
  let frag := fun (w : Walk) (proto : Nat) (first : Bool) =>
    ({ w with hv := hvSetBits (hvSetBits (hvSetBits w.hv 6 3 3 1) 6 4 4 (ofBool first)) 39 7 0 proto }, true)
  match h with
  | 1 => ({ w with hv := hvSetBits w.hv 8 16 0 (tagWord (be16 0)) }, false)
  | 2 => ({ w with hv := hvSetBits w.hv 9 16 0 (tagWord (be16 0)) }, false)
  | 3 => ({ w with hv := hvSetBits w.hv 19 16 0 (2 ^ 16 + be16 2) }, false)
  | 4 =>
    let w' := ip false (p.octet (off + 1) % 4)
    if be16 6 &&& 0x3FFF ≠ 0 then frag w' (p.octet (off + 9)) (be16 6 &&& 0x1FFF == 0) else (w', false)
  | 5 => (ip true (p.octet (off + 1) / 16 % 4), false)
  | 7 => if be16 2 &&& 0xFFF9 ≠ 0 then frag w (p.octet off) (be16 2 &&& 0xFFF8 == 0) else (w, false)
  | 8 => ({ w with hv := hvSetBits w.hv 7 15 8 off }, false)
  | 9 => ({ w with hv := hvSetBits w.hv 7 15 8 off }, false)
  | 10 => ({ w with hv := hvSetBits w.hv 7 15 8 off }, false)
  | 11 => ({ w with hv := hvSetBits w.hv 7 15 8 off }, false)
  | 13 => ({ w with ptpAt := if w.ptpAt = 0 then off + 1 else w.ptpAt }, false)
  | 14 => ({ w with usfAt := if w.usfAt = 0 then off + 1 else w.usfAt }, false)
  | _ => (w, false)

/-- A node that stands has been read: its extractions, its presence, its built-in action. -/
def ParseIn.take (p : ParseIn) (w : Walk) (n : NodeView) : Walk :=
  let off := w.off
  let hv := n.exts.foldl (fun hv x => p.extract hv off x) w.hv
  let own := n.exts.map (fun x => (off + x.1, x.2))
  let kept := if n.supersedes then w.exts.filter (fun e => !own.any (fun x => extOverlap e x)) else w.exts
  let (w', stop) := p.builtin { w with hv := hv, exts := kept ++ own } n.hid off
  let w' := if n.hid = 31 then w' else { w' with hv := hvSetBits w'.hv 5 n.hid n.hid 1 }
  { w' with off := off + n.len, count := w.count + 1, ended := stop || n.terminal }

/-- The walk from a node; `k` bounds the turns (R192). -/
def ParseIn.walk (p : ParseIn) (w : Walk) (node : Nat) : Nat → Walk
  | 0 => w
  | k + 1 =>
    if node = 255 then w
    else if w.count = 12 then { w with status := 3 }
    else
      let n := p.node node p.octet w.off
      if !n.valid then { w with status := 4 }
      else if (match p.ended with | none => false | some l => decide (l < w.off + n.len)) then { w with status := 2 }
      else if p.depth < w.off + n.len then { w with status := 1 }
      else
        let w' := p.take w n
        if w'.ended then w' else p.walk w' n.next k

/-- The whole parse from `start`: words 5, 6 and 7 and what the headers give (R195). -/
def ParseIn.run (p : ParseIn) (start : Nat) : Walk :=
  let w := p.walk ⟨[], [], 0, 0, 0, 0, 0, [], false⟩ start 14
  let hv := hvSetBits w.hv 6 2 0 w.status
  { w with hv := hvSetBits (hvSetBits hv 6 12 8 w.count) 6 24 16 w.off }

/-- The node at number `n` of the active parse graph (R190, R194). -/
def State.parseNode (s : State) (n : Nat) (o : Nat → Nat) (off : Nat) : NodeView :=
  if n < 16 ∧ s.tab Tab.nodeWritten n = 0 then stdNode n o off
  else if n < 32 ∧ s.tab Tab.nodeWritten n = 0 then nodeView (Config.stdGraph n) o off
  else nodeView (s.tab (Tab.win 0x2400) n) o off

/-- The parse of frame `f` now (R192, R193). -/
def State.parse (s : State) (f : Frame) (ended : Option Nat) : Walk :=
  ParseIn.run ⟨f.octets, s.reg (Reg.PORT_PARSE.PARSE_DEPTH f.srcPort), ended, f.id, s.parseNode⟩
    (s.reg (Reg.PORT_PARSE.START_NODE f.srcPort))

/-- The parse of octets by the standard graph, as a host port reads its frames (R17, R19). -/
def hostWalk (octets : Bytes) : Walk := ParseIn.run ⟨octets, 256, none, 0, stdNode⟩ 0

end Sys2Proof.Machine
end

