-- ==== Sys2Proof/Machine/Stages.lean ====
section
/-!
DEFINITION. One pipeline stage (R197 to R199, R432 to R440): the search of its table, the microword it names, and the
arithmetic, move and metadata units.
-/
namespace Sys2Proof.Machine

/-! ### Which bits microcode may write (R195, R198) -/

/-- Bits of word `w` that R195 marks M. Words 24 to 127 hold parsed fields (R196). -/
def hvWritable (w : Nat) : Nat :=
  match w with
  | 5 => 0xFFFF0000 | 8 => 0x1FFFF | 9 => 0x1FFFF | 11 => 0x3FFFFF | 12 => 0x1FFFF | 13 => 0x3FFFF | 14 => 0xFFF01
  | 18 => 0x1FFF | 20 => 0x3F0000 | 23 => 0xFFFFFFFF
  | _ => if 24 ≤ w then 0xFFFFFFFF else 0

/-- Bits of word `w` that R195 lists and does not mark M. -/
def hvFixed (w : Nat) : Nat :=
  match w with
  | 0 => 0x3FFFFF | 1 => 0xFFFF | 2 => 0xFFFFFFFF | 3 => 0xFFFFFFFF | 4 => 0xFFFFFFFF | 5 => 0xFFFF | 6 => 0x1FF1F1F
  | 7 => 0xFFFF | 10 => 0xFFFFFFFF | 15 => 0xFFFFF | 16 => 0x1FFFF | 17 => 0x7FFFF | 19 => 0x1FFFF
  | 20 => 0xFFFF | 21 => 0xFFFFFFFF | 22 => 7
  | _ => 0

/-- What a stage leaves: the vector, ignored writes, and counter numbers posted to. -/
structure StageOut where
  hv : SMap Nat
  ignored : Nat
  posts : List Nat
deriving DecidableEq, Repr

/-- A microword's write of the bits `m` of word `w` (R198): ignored and counted where one of them is not marked M;
reserved bits stay 0. Egress metadata is not written at ingress. -/
def StageOut.write (t : StageOut) (egress : Bool) (w m v : Nat) : StageOut :=
  if hvFixed w &&& m ≠ 0 ∨ (w = 20 ∧ egress = false) then { t with ignored := t.ignored + 1 }
  else
    let m := m &&& hvWritable w
    let old := hvGet t.hv w
    { t with hv := hvSet t.hv w (clearBits old m + (v &&& m)) }

/-! ### The units (R434 to R438) -/

/-- What a nanoword is given: the vector as it stood at entry, PARAM, IMM16, and whether this is an egress stage. -/
structure StageIn where
  hv : SMap Nat
  param : Nat
  imm : Nat
  egress : Bool
deriving DecidableEq, Repr

/-- A source selector's value (R434); `res` are the results of the units before. -/
def StageIn.source (i : StageIn) (res : List Nat) (sel : Nat) : Nat :=
  let w := bits sel 17 11
  let v := match bits sel 19 18 with
    | 0 => hvGet i.hv w
    | 1 => i.param
    | 2 => i.imm
    | _ => res.getD (w % 4) 0
  (v >>> bits sel 10 6) % 2 ^ bits sel 5 0 % 2 ^ 32

/-- An ALU operation on 32-bit values (R435). -/
def aluOp (op a b : Nat) : Nat :=
  match op with
  | 0x01 => a
  | 0x02 => (a + b) % 2 ^ 32
  | 0x03 => subMod 32 a b
  | 0x04 => a &&& b
  | 0x05 => a ||| b
  | 0x06 => a ^^^ b
  | 0x07 => (a <<< (b % 32)) % 2 ^ 32
  | 0x08 => a >>> (b % 32)
  | 0x09 => ofBool (a == b)
  | 0x0A => ofBool (a != b)
  | 0x0B => ofBool (decide (a < b))
  | 0x0C => ofBool (decide (a ≤ b))
  | 0x0D => min a b
  | 0x0E => max a b
  | 0x0F => min (a + b) (2 ^ 32 - 1)
  | 0x10 => a - b
  | 0x11 => ofBool (a &&& b != 0)
  | _ => 0

/-- A predicate holds (R436). -/
def predHolds (res : List Nat) (pred : Nat) : Bool :=
  match pred with
  | 0 => true
  | 1 => false
  | n + 2 => n < 8 && (if n % 2 = 0 then res.getD (n / 2) 0 != 0 else res.getD (n / 2) 0 == 0)

/-- ALU slot `x` (69 bits) after the results `res`: what is left, and its own result (R434 to R436). -/
def StageIn.alu (i : StageIn) (t : StageOut) (res : List Nat) (x : Nat) : StageOut × Nat :=
  let op := bits x 68 63
  if op = 0 ∨ predHolds res (bits x 62 59) = false then (t, 0)
  else
    let r := aluOp op (i.source res (bits x 58 39)) (i.source res (bits x 38 19))
    if bit x 18 then (t, r)
    else
      let lsb := bits x 10 6
      let wd := bits x 5 0
      (t.write i.egress (bits x 17 11) ((2 ^ wd - 1) * 2 ^ lsb) (r % 2 ^ wd * 2 ^ lsb), r)

/-- The move unit (R437). -/
def StageIn.move (i : StageIn) (t : StageOut) (res : List Nat) (x : Nat) : StageOut :=
  if bits x 17 16 = 1 ∧ predHolds res (bits x 21 18) = true then
    (List.range (bits x 1 0 + 1)).foldl (fun t k =>
      t.write i.egress (bits x 8 2 + k) 0xFFFFFFFF (hvGet i.hv (bits x 15 9 + k))) t
  else t

/-- A metadata field set by META or by a fixed unit. -/
def StageOut.put (t : StageOut) (w msb lsb v : Nat) : StageOut := { t with hv := hvSetBits t.hv w msb lsb v }

/-- The metadata unit (R438). -/
def StageIn.metaUnit (i : StageIn) (t : StageOut) (res : List Nat) (x : Nat) : StageOut :=
  if predHolds res (bits x 35 32) = false then t
  else
    let arg := bits x 27 20
    let v := i.source res (bits x 19 0)
    match bits x 31 28 with
    | 1 => (t.put 14 0 0 1).put 14 15 8 v
    | 2 => t.put 11 21 18 v
    | 3 => (t.put 11 15 0 v).put 11 17 16 arg
    | 4 => { t with hv := hvSet t.hv 14 (hvGet t.hv 14 ||| (arg % 16 * 2 ^ 16)) }
    | 5 => ((t.put 14 17 17 1).put 18 12 12 arg).put 18 11 0 v
    | 6 => (t.put 12 15 0 v).put 12 16 16 1
    | 7 => (t.put 13 16 0 v).put 13 17 17 1
    | 8 => { t with posts := t.posts ++ [v % 2 ^ 18] }
    | 9 =>
      if i.egress then t.put 20 21 16 arg else { t with ignored := t.ignored + 1 }
    | _ => t

/-- A nanoword (R433, R439): the units in order, over the vector `hv`. -/
def StageIn.nano (i : StageIn) (hv : SMap Nat) (w : Nat) : StageOut :=
  let t : StageOut := ⟨hv, 0, []⟩
  let (t, r0) := i.alu t [] (bits w 511 443)
  let (t, r1) := i.alu t [r0] (bits w 442 374)
  let (t, r2) := i.alu t [r0, r1] (bits w 373 305)
  let (t, r3) := i.alu t [r0, r1, r2] (bits w 304 236)
  let res := [r0, r1, r2, r3]
  i.metaUnit (i.move t res (bits w 235 214)) res (bits w 213 178)

/-! ### The stage table (R197, R215) -/

/-- The search key of four selectors. -/
def searchKey (hv : SMap Nat) (sels : List Nat) : Nat :=
  sels.foldl (fun k sel =>
    let w := bits sel 5 0
    k * 2 ^ w + (hvGet hv (bits sel 22 16) >>> bits sel 12 8) % 2 ^ w) 0

/-- Objects' index of stage `st`: 0 to 11 ingress, 16 to 21 egress E0 to E5 (R214, R215). -/
def stageIndex (st : Nat) : Nat := if st < 16 then 0x2410 + st else 0x2420 + (st - 16)

/-- The listed elements of a window's target. -/
def State.winElems (s : State) (idx target : Nat) : List (Nat × Nat) :=
  (SMap.between (tabKey (Tab.win idx) (target * 2 ^ 24)) (tabKey (Tab.win idx) ((target + 1) * 2 ^ 24)) s.tabs).map
    (fun e => (e.1 - tabKey (Tab.win idx) (target * 2 ^ 24), e.2))

/-- The microword and PARAM that stage `st` uses for a vector (R197). -/
def State.stageAction (s : State) (st : Nat) (hv : SMap Nat) : Nat × Nat :=
  let i := stageIndex st
  let key := searchKey hv ((List.range 4).map (fun k => s.reg (regKey i (k + 1))))
  match (s.winElems 0x2401 st).find? (fun e => bit e.2 255 && (bits e.2 127 64 ^^^ key) &&& bits e.2 63 0 == 0) with
  | some e => (bits e.2 237 224, bits e.2 223 192)
  | none => (s.reg (regKey i 5), s.reg (regKey i 6))

/-- The microword of stage `st` in pipeline `pipe` (R198, R199, R440): `entry` is the vector as it entered the stage,
`hv` as its fixed unit has left it. Once DROP is set no later stage clears it or changes REASON. -/
def State.runMicro (s : State) (pipe st : Nat) (entry hv : SMap Nat) : State × SMap Nat :=
  let egress := decide (16 ≤ st)
  let a := s.stageAction st entry
  match s.pipeFetch (if egress then 64 + pipe else pipe) a.1 with
  | none => (s.count (Ctr.pipeLoader 2), hv)
  | some (imm, w) =>
    let t := StageIn.nano ⟨entry, a.2, imm, egress⟩ hv w
    let out := if hvBit hv 14 0 then hvSetBits (hvSetBits t.hv 14 0 0 1) 14 15 8 (hvBits hv 14 15 8) else t.hv
    let s := s.forAll t.posts State.postCount
    let s := s.when (t.ignored != 0) (fun s => s.count (if egress then Ctr.egressPipe pipe 5 else Ctr.ingressPipe pipe 10) t.ignored)
    (s, out)

end Sys2Proof.Machine
end

