-- ==== Sys2Proof/Machine/Lookup.lean ====
section
/-!
DEFINITION. The three lookups of stage 2 (R216 to R237): the exact-match table, the decision-tree classifier and load
spreading; the action record, and what stage 6 makes of it.
-/
namespace Sys2Proof.Machine

/-! ### Keys and hashes -/

/-- Entry `k` of a sub-index that holds `n` selectors. -/
def selectorOf (n v k : Nat) : Nat := entryAt n 4 v k

/-- The value that a selector takes from a vector (R215). -/
def selValue (hv : SMap Nat) (sel : Nat) : Nat :=
  (hvGet hv (bits sel 22 16) >>> bits sel 12 8) % 2 ^ bits sel 5 0

/-- Values of given widths concatenated, the first most significant: the number and its width. -/
def concatFields (l : List (Nat × Nat)) : Nat × Nat := l.foldl (fun a x => (a.1 * 2 ^ x.2 + x.1, a.2 + x.2)) (0, 0)

/-- CRC-32C from a given register, most significant octet of the number first (R233). -/
def crcSeeded (seed : Nat) (b : Bytes) : Nat := b.foldl (crcByte 0x82F63B78) seed ^^^ 0xFFFFFFFF

/-- The Toeplitz hash of `w` input bits under a 544-bit key (R233). -/
def toeplitz (key v w : Nat) : Nat :=
  (List.range w).foldl (fun h i => if bit v (w - 1 - i) then h ^^^ bits key (543 - i) (512 - i) else h) 0

/-- Neighbouring values exchanged where the first is the greater (R232). -/
def orderPair (x y : Nat × Nat) : List (Nat × Nat) := if y.1 < x.1 then [y, x] else [x, y]

/-- FLOW_HASH under hash profile `h` (R232, R233). -/
def State.flowHash (s : State) (h : Nat) (hv : SMap Nat) : Nat :=
  let sels := (List.range 16).map (selectorOf 16 (s.reg (Reg.HASH_PROFILE.SELECTORS h)))
  let l := sels.map (fun sel => (selValue hv sel, bits sel 5 0))
  let l := if s.reg (Reg.HASH_PROFILE.SYMMETRIC h) = 1 then
      (match l with | a :: b :: c :: d :: t => orderPair a b ++ orderPair c d ++ t | _ => l)
    else l
  let (v, w) := concatFields l
  let n := ceilDiv w 8
  let v8 := v * 2 ^ (8 * n - w)
  if s.reg (Reg.HASH_PROFILE.ALGORITHM h) = 0 then crcSeeded (s.reg (Reg.HASH_PROFILE.SEED h)) (toBE n v8)
  else toeplitz (s.reg (Reg.HASH_PROFILE.TOEPLITZ_KEY h)) v8 (8 * n)

/-! ### The exact-match table (R219 to R222) -/

/-- The constants of the ways (R220). -/
def wayConst (w : Nat) : Nat :=
  match w with | 0 => 0xFFFFFFFF | 1 => 0x1B873593 | 2 => 0x85EBCA6B | _ => 0xC2B2AE35

/-- The candidate slots of a key, in index order (R220). -/
def emCandidates (profile key : Nat) : List Nat :=
  (List.range 4).flatMap (fun w =>
    let b := crcSeeded (wayConst w) (profile % 16 :: toBE 16 key) % 2 ^ 15
    (List.range 4).map (fun k => w * 131072 + b * 4 + k))

/-- Slot `i` of the table (R222). -/
def State.emSlot (s : State) (i : Nat) : Nat := s.tab (Tab.win 0x3011) (2 ^ 24 + i)

/-- A VALID slot holds the key under the profile (R221). -/
def emMatches (slot profile key : Nat) : Bool := bit slot 255 && bits slot 251 248 == profile && bits slot 247 120 == key

/-- The slot that a lookup hits: the lower index of two (R221). -/
def State.emFind (s : State) (profile key : Nat) : Option Nat :=
  (emCandidates profile key).find? (fun i => emMatches (s.emSlot i) profile key)

/-- The key of EM profile `k` (R219). -/
def State.emKey (s : State) (k : Nat) (hv : SMap Nat) : Nat :=
  (concatFields ((List.range 8).map (fun i =>
    let sel := selectorOf 8 (s.reg (Reg.EM_PROFILE.SELECTORS k)) i
    (selValue hv sel, bits sel 5 0)))).1

/-! ### The classifier (R226 to R231) -/

-- Kinds of lookup elements (R236), for Tab.retire.
namespace LookupKind
abbrev em : Nat := 0
abbrev node : Nat := 1
abbrev rule : Nat := 2
end LookupKind

/-- The retire epoch of a RETIRING element, plus 1; 0 when it is not RETIRING. -/
def State.retireEpoch (s : State) (kind i : Nat) : Nat := s.tab Tab.retire (kind * 2 ^ 24 + i)

/-- Node and rule as their windows hold them. -/
def State.clsNode (s : State) (i : Nat) : Nat := s.tab (Tab.win 0x3020) i
def State.clsRule (s : State) (i : Nat) : Nat := s.tab (Tab.win 0x3021) i

/-- The walk may use rule `r` at epoch `e`: valid, or retiring with a later retire epoch (R229). -/
def State.usable (s : State) (r e : Nat) : Bool :=
  bit (s.clsRule r) 767 &&
    (s.retireEpoch LookupKind.rule r == 0 || decide (e < s.retireEpoch LookupKind.rule r - 1))

/-- Rule `v` matches eight key fields under FIELD_MODES (R227). -/
def ruleMatches (v modes : Nat) (key : List Nat) : Bool :=
  (List.range 8).all (fun f =>
    let a := bits v (511 - 64 * f) (480 - 64 * f)
    let b := bits v (479 - 64 * f) (448 - 64 * f)
    let k := key.getD f 0
    if bit modes f then (k ^^^ a) &&& b == 0 else a ≤ k && k ≤ b)

/-- PRIORITY and ACTION of a rule. -/
def rulePriority (v : Nat) : Nat := bits v 751 736
def ruleAction (v : Nat) : Nat := bits v 735 616

/-- The better of the best rule so far and rule `r` (R227). -/
def State.betterRule (s : State) (best : Option Nat) (r : Nat) : Option Nat :=
  match best with
  | none => some r
  | some b =>
    let pb := rulePriority (s.clsRule b)
    let pr := rulePriority (s.clsRule r)
    if pr < pb ∨ (pr = pb ∧ r < b) then some r else some b

/-- The rules that a node holds (R228). -/
def nodeRules (n : Nat) : List Nat :=
  if bits n 510 509 = 1 then (List.range (bits n 479 476)).map (fun i => bits n (475 - 16 * i) (460 - 16 * i))
  else (List.range (bits n 508 505)).map (fun i => bits n (479 - 16 * i) (464 - 16 * i))

/-- How a walk ended: the best rule, and 0 normally, 1 at the 12-node limit, 2 at an invalid node (R229). -/
def State.clsWalk (s : State) (modes epoch : Nat) (key : List Nat) (best : Option Nat) (node : Nat) : Nat → Option Nat × Nat
  | 0 => (best, 1)
  | k + 1 =>
    let n := s.clsNode node
    if !bit n 511 then (best, 2)
    else
      let hits := (nodeRules n).filter (fun r => s.usable r epoch && ruleMatches (s.clsRule r) modes key)
      let best := hits.foldl s.betterRule best
      if bits n 510 509 = 1 then
        s.clsWalk modes epoch key best
          (bits n 496 480 + (key.getD (bits n 508 506) 0 >>> bits n 505 501) % 2 ^ bits n 500 497) k
      else if bit n 487 then s.clsWalk modes epoch key best (bits n 504 488) k
      else (best, 0)

/-- The classifier lookup in tree `t` (R226, R229). -/
def State.classify (s : State) (t : Nat) (hv : SMap Nat) : State × Option Nat :=
  let root := s.reg (Reg.CLS_TREE.ROOT t)
  if 16 ≤ t ∨ root = 0xFFFFFFFF then (s, none)
  else
    let key := (List.range 8).map (fun f => selValue hv (selectorOf 8 (s.reg (Reg.CLS_TREE.SELECTORS t)) f))
    let (best, e) := s.clsWalk (s.reg (Reg.CLS_TREE.FIELD_MODES t)) (s.reg Reg.LOOKUP_CONTROL.LOOKUP_EPOCH) key none root 12
    let s := s.when (e == 1) (·.bump Reg.LOOKUP_CONTROL.CLS_DEPTH_ERRORS 64)
    (s.when (e == 2) (·.bump Reg.LOOKUP_CONTROL.CLS_BAD_NODES 64), best)

/-! ### The action record (R217, R218) -/

/-- DROP and REASON set under R199: the first reason stands. -/
def dropHv (hv : SMap Nat) (reason : Nat) : SMap Nat :=
  if hvBit hv 14 0 then hv else hvSetBits (hvSetBits hv 14 0 0 1) 14 15 8 reason

/-- What stage 6 makes of an action record (R218). -/
def applyAction (hv : SMap Nat) (a : Nat) : SMap Nat :=
  let hv := if bits a 103 102 ≠ 0 then hvSetBits (hvSetBits hv 11 15 0 (bits a 119 104)) 11 17 16 (bits a 103 102) else hv
  let hv := if bit a 101 then hvSetBits hv 11 21 18 (bits a 100 97) else hv
  let hv := if bit a 96 then hvSetBits hv 12 16 0 (2 ^ 16 + bits a 95 80) else hv
  let hv := if bit a 79 then hvSetBits hv 13 17 0 (2 ^ 17 + bits a 78 62) else hv
  let hv := if bit a 61 then dropHv hv (bits a 60 53) else hv
  let hv := if bit a 52 then hvSetBits (hvSetBits hv 14 17 17 1) 18 12 0 (bits a 51 39) else hv
  hvSet hv 14 (hvGet hv 14 ||| (ofBool (bit a 38) * 2 ^ 16 + ofBool (bit a 37) * 2 ^ 18 + ofBool (bit a 36) * 2 ^ 19))

/-- The counter that an action posts to (R217). -/
def actionCounter (a : Nat) : Option Nat := if bit a 35 then some (bits a 34 17) else none

/-- An action record is valid as far as its own fields go (R217). -/
def actionValid (a : Nat) : Bool :=
  let reason := bits a 60 53
  let w := [1, 2, 3, 4, 5, 6, 7, 8, 9, 10, 11, 12, 13, 14, 15, 16, 18, 19, 20, 21, 22, 23, 24, 25, 26, 27, 28, 29, 30, 31, 33,
    34, 35, 36]
  !(bits a 103 102 == 1 && 642 < bits a 119 104) && !(bits a 103 102 == 2 && 16383 < bits a 119 104)
    && !(bits a 103 102 == 3 && 63 < bits a 119 104)
    && (!bit a 61 || w.contains reason || (128 ≤ reason && reason ≤ 255))

/-! ### Load spreading (R234) -/

/-- Entry `e` of indirection table `t`. -/
def State.spreadMember (s : State) (t e : Nat) : Nat := bits (s.tab (Tab.win 0x3030) (t * 2 ^ 24 + e)) 15 0

end Sys2Proof.Machine
end

