-- ==== Sys2Proof/Machine/Ingress.lean ====
section
/-!
DEFINITION. The twelve ingress stages (R193, R199 to R201, R205, R207, R218, R282, R325, R336, R337, R341): what their
fixed units do to a frame and its header vector, in order.
-/
namespace Sys2Proof.Machine

/-- A frame on its way through the stages, with the results of its lookups. -/
structure Pass where
  st : State
  f : Frame
  hv : SMap Nat
  em : Option Nat
  rule : Option Nat
  walk : Walk
  /-- RTAG_OP, which enters the vector at egress (R195). -/
  rtag : Nat
deriving Repr

/-- A fixed unit's change of the vector. -/
def Pass.put (p : Pass) (w msb lsb v : Nat) : Pass := { p with hv := hvSetBits p.hv w msb lsb v }

/-- A drop decided by a fixed unit (R199). -/
def Pass.drop (p : Pass) (reason : Nat) : Pass := { p with hv := dropHv p.hv reason }

/-- One stage: its fixed unit, then its microword, whose key and sources read the vector as it entered (R439). -/
def Pass.stage (p : Pass) (st : Nat) (fixed : Pass → Pass) : Pass :=
  let q := fixed p
  let (s, hv) := q.st.runMicro q.f.pipe st p.hv q.hv
  { q with st := s, hv := hv }

/-! ### Stages 0 to 2 -/

/-- Stage 0: words 0 to 4, the untagged defaults, and the reason of a frame ended in error (R193, R195). -/
def Pass.stage0 (p : Pass) : Pass :=
  let f := p.f
  let sec := f.ts / nsUnit / 1000000000
  let ns := f.ts / nsUnit % 1000000000
  let known := decide (f.lenKnown = true)
  let p := p.put 0 15 0 f.srcPort
  let p := (p.put 0 19 16 (if f.part < 16 then f.part else 0)).put 0 20 20 (ofBool known)
  let p := (p.put 0 21 21 (p.st.reg Reg.PIPELINE_CONFIG.ACTIVE_BANK)).put 1 15 0 (if known then f.len else 0)
  let p := ((p.put 2 31 0 (sec / 2 ^ 16)).put 3 31 16 sec).put 3 15 0 (ns / 2 ^ 16)
  let p := (p.put 4 31 16 ns).put 4 15 0 (f.ts % nsUnit / 2 ^ 32)
  let p := if hvBit p.hv 8 16 then p
    else (p.put 8 11 0 (p.st.reg (Reg.PORT_PARSE.DEFAULT_VID f.srcPort))).put 8 15 13
      (p.st.reg (Reg.PORT_PARSE.DEFAULT_PCP f.srcPort))
  if f.tailed ∧ f.tailReason ≠ 0 then p.drop f.tailReason else p

/-- Stage 1: FLOW_HASH under the port's hash profile; the lookup keys are taken from the same vector (R200, R232). -/
def Pass.stage1 (p : Pass) : Pass :=
  p.put 10 31 0 (p.st.flowHash (p.st.reg (Reg.PORT_LOOKUP.HASH_PROFILE p.f.srcPort)) p.hv)

/-- The lookups with the keys that stage 1 built from `entry`, issued in stage 2 (R200, R216, R221). -/
def Pass.lookups (p : Pass) (entry : SMap Nat) : Pass :=
  let port := p.f.srcPort
  let k := p.st.reg (Reg.PORT_LOOKUP.EM_PROFILE port)
  let em := if p.st.reg (Reg.PORT_LOOKUP.EM_ENABLE port) = 1 then p.st.emFind k (p.st.emKey k entry) else none
  let (s, rule) := p.st.classify (p.st.reg (Reg.PORT_LOOKUP.CLS_TREE port)) entry
  { p with st := s, em := em, rule := rule, f := { p.f with epoch := s.reg Reg.LOOKUP_CONTROL.LOOKUP_EPOCH } }

/-! ### Stage 6 (R200, R218, R325, R341) -/

/-- The action of a record applied, and its count posted. -/
def Pass.action (p : Pass) (a : Nat) : Pass :=
  let p := { p with hv := applyAction p.hv a }
  match actionCounter a with | none => p | some n => { p with st := p.st.postCount n }

/-- The destination of a mirror frame, in place of any lookup action (R341). -/
def Pass.mirrorAction (p : Pass) (m : Mirror) : Pass :=
  let p := (p.put 11 15 0 m.port).put 11 17 16 1
  let p := p.put 11 21 18 m.queue
  p.put 12 16 0 m.resv

/-- The reservation rule (R325): a reservation that is not ACTIVE or SUSPENDED is cleared; else its policer and its
postcard attribute apply. -/
def Pass.resvRule (p : Pass) : Pass :=
  if !hvBit p.hv 12 16 then p
  else
    let n := hvBits p.hv 12 15 0
    if p.st.resvLive n then
      let v := p.st.resvRecord n
      let p := p.put 13 17 0 (2 ^ 17 + resvPolicer v)
      let p := if resvPostcard v then p.put 14 16 16 1 else p
      { p with f := { p.f with resv := some (n, v) } }
    else { (p.put 12 16 16 0) with st := p.st.bump Reg.ADMISSION_CONTROL.INACTIVE_HITS 64 }

/-- Stage 6: the results of the lookups and their actions. -/
def Pass.stage6 (p : Pass) : Pass :=
  let p := match p.em with | none => p | some i => p.put 15 19 0 (2 ^ 19 + i)
  let p := match p.rule with | none => p | some r => p.put 16 16 0 (2 ^ 16 + r)
  let p := match p.f.mirror with
    | some m => p.mirrorAction m
    | none =>
      let p := match p.em with | none => p | some i => p.action (bits (p.st.emSlot i) 119 0)
      match p.rule with | none => p | some r => p.action (ruleAction (p.st.clsRule r))
  p.resvRule

/-! ### Stages 7 to 9 -/

/-- Stream gate `g` is open for frame `f`: in follow mode by the list or safe state in force at its ingress timestamp (R318). -/
def State.streamGateOpen (s : State) (f : Frame) (g : Nat) : Bool :=
  let e := s.tab (Tab.win 0x5F01) g
  if bit e 30 then bit (f.gateAt.get (fun _ => 0xFFFF) (bits e 25 16)) (bits e 15 12) else bit e 29

/-- Stage 7: the per-stream filter and policer of POLICER (R282 to R284). -/
def Pass.stage7 (p : Pass) : Pass :=
  if hvBit p.hv 14 0 || !hvBit p.hv 13 17 then p
  else
    let i := hvBits p.hv 13 16 0
    let (s, v) := p.st.police i p.f.lenKnown p.f.len (p.st.maxFrame p.f.srcPort) (p.st.streamGateOpen p.f)
    let owns := match p.f.resv with | none => false | some (_, r) => resvPolicer r == i
    let known := p.f.lenKnown
    let f := { p.f with green := v.green && owns, paid := if known then (i, 0, 0) else (i, v.bucket, v.octets),
                        maxSdu := if known then 0 else polMaxSdu (p.st.policerElem i) }
    let p := { p with st := s, f := f }
    if v.drop = 0 then p else p.drop v.drop

/-- Stage 8: the signal handoff (R201). -/
def Pass.stage8 (p : Pass) : Pass :=
  if hvBit p.hv 14 17 && !hvBit p.hv 14 0 && !hvBit p.hv 6 3 && hvBits p.hv 6 2 0 == 0 then
    { p with st := p.st.count (Ctr.ingressPipe p.f.pipe 8),
             f := { p.f with handoff := (if hvBit p.hv 18 12 then 2 else 1, hvBits p.hv 18 11 0) } }
  else p

/-- A field of a stream's element of 0x6C01 raised modulo 2 to its width (R338). -/
def State.cbAdd (s : State) (i msb lsb : Nat) : State :=
  let e := s.tab (Tab.win 0x6C01) i
  s.setTab (Tab.win 0x6C01) i (setBits e msb lsb (bits e msb lsb + 1))

/-- Sequence generation of stream `i` (R336). -/
def Pass.replicate (p : Pass) (i : Nat) : Pass :=
  if hvBit p.hv 19 16 then p
  else
    let p := p.put 19 16 0 (2 ^ 16 + bits (p.st.tab (Tab.win 0x6C01) i) 255 240)
    { p with rtag := 1, st := p.st.cbAdd i 255 240 }

/-- Sequence recovery of stream `i` by the vector recovery algorithm (R336, R337; IEEE 802.1CB 7.4.3.4, log entry 6); `tagged`: the frame
came with an R-tag. -/
def Pass.eliminate (p : Pass) (i : Nat) (tagged : Bool) : Pass :=
  if !tagged then { p with st := p.st.cbAdd i 127 96 }
  else
    let s := p.st
    let seq := hvBits p.hv 19 15 0
    let len := bits (s.tab (Tab.win 0x6C00) i) 61 56
    let hist := s.tab Tab.cbHistory i
    let top := bits (s.tab (Tab.win 0x6C01) i) 239 224
    let ahead := subMod 16 seq top
    let behind := subMod 16 top seq
    let pass := fun (s : State) (h : Nat) (newTop : Nat) =>
      let s := s.setTab Tab.cbHistory i (2 ^ 63 + h % 2 ^ len)
      let s := s.setTab (Tab.win 0x6C01) i (setBits (s.tab (Tab.win 0x6C01) i) 239 224 newTop)
      let s := s.cbAdd i 223 192
      { p with rtag := 2, st := s, f := { p.f with cbSeq := (i + 1, seq) } }
    if !bit hist 63 then pass s 1 seq
    else if ahead < 2 ^ 15 ∧ ahead ≠ 0 then
      (if ahead < len then pass s ((hist % 2 ^ 63) * 2 ^ ahead + 1) seq
       else { (p.drop Drop.cbDuplicate) with st := s.cbAdd i 159 128 })
    else if len ≤ behind then { (p.drop Drop.cbDuplicate) with st := s.cbAdd i 159 128 }
    else if bit hist behind then { (p.drop Drop.cbDuplicate) with st := s.cbAdd i 191 160 }
    else pass s (hist % 2 ^ 63 + 2 ^ behind) top

/-- The record of the reservation that the vector names now: the version of the lookup, where microcode has not named another (R325). -/
def Pass.resvNow (p : Pass) : Option Nat :=
  let n := hvBits p.hv 12 15 0
  if !hvBit p.hv 12 16 then none
  else match p.f.resv with
    | some (m, v) => if m = n then some v else some (p.st.resvRecord n)
    | none => some (p.st.resvRecord n)

/-- Stage 9: replication and elimination, for a frame whose reservation has CB_VALID set and a stream in use (R336;
log entry 14). -/
def Pass.stage9 (p : Pass) : Pass :=
  let rep := hvBit p.hv 14 18
  let elim' := hvBit p.hv 14 19
  let tagged := hvBit p.hv 19 16
  match p.resvNow.filter resvCbValid with
  | none => if rep || elim' then { p with st := p.st.bump Reg.ADMISSION_CONTROL.CB_IGNORED 64 } else p
  | some v =>
    let i := resvStream v
    if !bit (p.st.tab (Tab.win 0x6C00) i) 63 then p
    else
      let p := if rep then p.replicate i else p
      if elim' then p.eliminate i tagged else p

/-! ### Stages 10 and 11 -/

/-- Stage 10: the destination list and QUEUE (R200, R234, R260, R262). What a multicast group holds is taken anew when admission starts
(R260). -/
def Pass.stage10 (p : Pass) : Pass :=
  let dest := hvBits p.hv 11 15 0
  let p := { p with f := { p.f with queue := hvBits p.hv 11 21 18 } }
  match hvBits p.hv 11 17 16 with
  | 0 => { p with f := { p.f with dests := [] } }
  | 1 => { p with f := { p.f with dests := [dest] } }
  | 2 =>
    let g := if dest < 16384 then p.st.group dest else 0
    { p with f := { p.f with dests := if bit g 767 then groupPorts g p.f.srcPort else [], group := some dest } }
  | _ =>
    let t := dest % 64
    let e := hvBits p.hv 10 11 0
    let p := p.put 17 18 0 (2 ^ 18 + e * 2 ^ 6 + t)
    let m := p.st.spreadMember t e
    if m = 0xFFFF then ({ p with f := { p.f with dests := [] } }).drop Drop.spreadEmpty
    else { p with f := { p.f with dests := [m] } }

/-- Stage 11: postcards, and the counter events of the pipeline (R200, R207, R212). -/
def Pass.stage11 (p : Pass) : Pass :=
  let attr := p.resvNow.any resvPostcard
  let i := p.f.pipe
  let status := hvBits p.hv 6 2 0
  let s := p.st.count (Ctr.ingressPipe i 0)
  let s := s.when (status != 0) (·.count (Ctr.ingressPipe i status))
  let s := s.when (hvBit p.hv 6 3) (·.count (Ctr.ingressPipe i 5))
  { p with st := s, f := { p.f with postcard := hvBit p.hv 14 16 || attr || p.f.sampled } }

/-! ### The whole ingress pipeline -/

/-- The octets of a frame's PTP header: its messageType where it is an event message (R306). -/
def ptpEventType (octets : Bytes) (ptpAt : Nat) : Option Nat :=
  if ptpAt = 0 then none
  else (let t := octets.getD (ptpAt - 1) 0 % 16; if t ≤ 3 then some t else none)

/-- The parse and the twelve stages of frame `f` (R187 to R201): the state, and the frame decided. -/
def State.ingress (s : State) (f : Frame) : State × Frame :=
  let f := { f with lenKnown := f.tailed }
  let w := s.parse f (if f.tailed then some f.len else none)
  let s := s.when (decide (f.srcPort < 514) && (ptpEventType f.octets w.ptpAt).isSome) (·.count (Ctr.port f.srcPort 12))
  let p : Pass := ⟨s, f, w.hv, none, none, w, 0⟩
  let p := p.stage 0 Pass.stage0
  let keys := p.hv
  let p := p.stage 1 Pass.stage1
  let p := p.stage 2 (·.lookups keys)
  let p := ((p.stage 3 id).stage 4 id).stage 5 id
  let p := (p.stage 6 Pass.stage6).stage 7 Pass.stage7
  let p := (p.stage 8 Pass.stage8).stage 9 Pass.stage9
  let p := (p.stage 10 Pass.stage10).stage 11 Pass.stage11
  let green := p.f.green && (match p.f.resv with
    | none => false
    | some (n, v) => hvBits p.hv 13 16 0 == resvPolicer v && hvBits p.hv 12 16 0 == 2 ^ 16 + n)
  (p.st, { p.f with hv := p.hv, extracts := w.exts, usfAt := w.usfAt, ptpAt := w.ptpAt, ips := w.ips, rtagOp := p.rtag, stage := 1, green := green,
                    drop := if hvBit p.hv 14 0 then hvBits p.hv 14 15 8 + 1 else 0,
                    pfcClass := hvBits p.hv 8 15 13 })

end Sys2Proof.Machine
end

