-- ==== Sys2Proof/Machine/Egress.lean ====
section
/-!
DEFINITION. The egress stages, the deparser and the transmitted octets of a copy (R202 to R205, R265, R306, R307).
-/
namespace Sys2Proof.Machine

/-! ### Octets of a frame -/

/-- Octets from `off` replaced. -/
def patch (b : Bytes) (off : Nat) (x : Bytes) : Bytes :=
  b.take off ++ (x.take (b.length - off)) ++ b.drop (off + x.length)

/-- One octet replaced by a function of its value. -/
def patch1 (b : Bytes) (off : Nat) (g : Nat → Nat) : Bytes := patch b off [g (b.getD off 0) % 256]

/-! ### Checksums (R204, R307; RFC 791, RFC 1624) -/

/-- Ones' complement addition of 16-bit words. -/
def onesAdd (a b : Nat) : Nat := let s := a + b; if s < 2 ^ 16 then s else s % 2 ^ 16 + 1

/-- The IPv4 header checksum of a header of `len` octets at `off`, its field taken as 0. -/
def ipv4Checksum (b : Bytes) (off len : Nat) : Nat :=
  0xFFFF - (List.range (len / 2)).foldl (fun a i => if i = 5 then a else onesAdd a (octets16 b (off + 2 * i))) 0

/-- A checksum updated under RFC 1624 for the 16-bit words at the given offsets, as they were and as they are. -/
def updateChecksum (was now : Bytes) (words : List Nat) (hc : Nat) : Nat :=
  0xFFFF - words.foldl (fun a i =>
    if octets16 was i = octets16 now i then a else onesAdd (onesAdd a (0xFFFF - octets16 was i)) (octets16 now i)) (0xFFFF - hc)

/-- Where the parse found the headers that checksums cover: the IP headers in order, each with whether it is IPv6; the transport header,
and whether it is TCP or UDP. -/
structure Layers where
  ips : List (Nat × Bool)
  l4 : Nat
  tcp : Bool
  udp : Bool
deriving DecidableEq, Repr

/-- The layers of a frame. -/
def Frame.layers (f : Frame) : Layers := ⟨f.ips, hvBits f.hv 7 15 8, hvBit f.hv 5 8, hvBit f.hv 5 9⟩

/-- Layers before which `grown` octets have been put in and `cut` taken out. -/
def Layers.shift (l : Layers) (grown cut : Nat) : Layers :=
  { l with ips := l.ips.map (fun x => (x.1 + grown - cut, x.2)), l4 := l.l4 + grown - cut }

/-- Offset of the transport checksum. -/
def Layers.sumAt (l : Layers) : Nat := if l.tcp then l.l4 + 16 else l.l4 + 6

/-- The pseudo-header that octets `b` give (R204): the addresses and the protocol of the last IP header. -/
def Layers.pseudo (l : Layers) (b : Bytes) : Bytes :=
  match l.ips.getLast? with
  | none => []
  | some (i, false) => (b.drop (i + 12)).take 8 ++ [0, b.getD (i + 9) 0]
  | some (i, true) => (b.drop (i + 8)).take 32 ++ [0, b.getD (i + 6) 0]

/-- The octets of the transport header. -/
def Layers.headLen (l : Layers) (b : Bytes) : Nat := if l.tcp then b.getD (l.l4 + 12) 0 / 16 * 4 else 8

/-- The transport checksum after a change from `was` to `now` of the pseudo-header and of the first `n` octets of the transport header and
what follows it, its own field apart (R204, RFC 1624); a UDP checksum that comes to 0 is sent as ones. -/
def fixTransport (l : Layers) (n : Nat) (was now : Bytes) : Bytes :=
  let hc := octets16 was l.sumAt
  let part := fun (b : Bytes) => l.pseudo b ++ (patch b l.sumAt [0, 0] |>.drop l.l4).take n
  let a := part was
  let b := part now
  let hc' := updateChecksum a b ((List.range ((a.length + 1) / 2)).map (2 * ·)) hc
  if hc' = hc then now else patch now l.sumAt (toBE 2 (if l.udp && hc' == 0 then 0xFFFF else hc'))

/-- Checksums after a change from `was` to `now` (R204): that of an IPv4 header of which an octet has changed, and TCP's or UDP's for the
pseudo-header and the transport header; a zero UDP checksum over IPv4 stays zero. -/
def fixChecksums (l : Layers) (was now : Bytes) : Bytes :=
  let now := (l.ips.filter (fun x => !x.2)).foldl (fun now x =>
    let ihl := was.getD x.1 0 % 16 * 4
    if (was.drop x.1).take ihl ≠ (now.drop x.1).take ihl then patch now (x.1 + 10) (toBE 2 (ipv4Checksum now x.1 ihl)) else now) now
  if !(l.tcp || l.udp) || (l.udp && octets16 was l.sumAt == 0 && l.ips.getLast?.any (fun x => !x.2)) then now
  else fixTransport l (l.headLen was) was now

/-! ### Tag operations (R204) -/

/-- The frame cut at its tags: addresses, tags as TPID and TCI, an R-tag's reserved octets and its number, and the rest from the EtherType
on. -/
structure TagView where
  addrs : Bytes
  tags : List (Nat × Nat)
  rtag : Option (Nat × Nat)
  rest : Bytes
deriving DecidableEq, Repr

/-- The tags that the parser marked present (R194). -/
def tagView (hv : SMap Nat) (b : Bytes) : TagView :=
  let n := ofBool (hvBit hv 5 1) + ofBool (hvBit hv 5 1 && hvBit hv 5 2)
  let tags := (List.range n).map (fun i => (octets16 b (12 + 4 * i), octets16 b (14 + 4 * i)))
  let at' := 12 + 4 * n
  if hvBit hv 5 3 then ⟨b.take 12, tags, some (octets16 b (at' + 2), octets16 b (at' + 4)), b.drop (at' + 6)⟩
  else ⟨b.take 12, tags, none, b.drop at'⟩

/-- The octets of a tag view. -/
def TagView.octets (t : TagView) : Bytes :=
  t.addrs ++ t.tags.flatMap (fun x => toBE 2 x.1 ++ toBE 2 x.2)
    ++ (match t.rtag with | none => [] | some x => toBE 2 0xF1C1 ++ toBE 2 x.1 ++ toBE 2 x.2) ++ t.rest

/-- A tag operation on the tag at one place: 0 keep, 1 push, 2 pop, 3 replace; pushed tags have TPID 0 until placed. -/
def tagOp (op tci : Nat) (t : Option (Nat × Nat)) : List (Nat × Nat) :=
  match op with
  | 1 => (0, tci) :: t.toList
  | 2 => []
  | 3 => t.toList.map (fun x => (x.1, tci))
  | _ => t.toList

/-- OUTER_OP, INNER_OP and RTAG_OP of `ops`, with the tags of words 8 and 9 and CB_SEQ from the vector (R204). -/
def TagView.apply (t : TagView) (ops : Nat) (hv : SMap Nat) : TagView :=
  let l := tagOp (bits ops 1 0) (hvBits hv 8 15 0) t.tags.head? ++ tagOp (bits ops 3 2) (hvBits hv 9 15 0) t.tags.tail.head?
  let placed := l.mapIdx (fun i x => if x.1 = 0 then (if i = 0 ∧ l.length ≠ 1 then 0x88A8 else 0x8100, x.2) else x)
  let rtag := match bits ops 5 4 with
    | 1 => some (0, hvBits hv 19 15 0)
    | 2 => none
    | _ => t.rtag
  { t with tags := placed, rtag := rtag }

/-! ### The deparser -/

/-- Extractions with a word up to 63 written back in order, from the words' present values (R204). -/
def writeBack (hv : SMap Nat) (exts : List (Nat × Nat × Nat × Nat)) (b : Bytes) : Bytes :=
  (exts.filter (fun x => x.2.2.1 ≤ 63)).foldl (fun b x =>
    patch b x.1 (toBE x.2.1 (hvBits hv x.2.2.1 (8 * (x.2.2.2 + x.2.1) - 1) (8 * x.2.2.2)))) b

/-- The marks of stage E3 (R202, R265): CE in the IP header, and the congestion bit of a USF header. -/
def applyMarks (f : Frame) (hv : SMap Nat) (b : Bytes) : Bytes :=
  let ecn := hvBits hv 22 1 0
  let b := if ecn = 1 ∨ ecn = 2 then
      (match f.ips.head? with
       | none => b
       | some (i, v6) => patch1 b (i + 1) (fun x => x ||| (if v6 then 0x30 else 3)))
    else b
  if f.usfAt ≠ 0 ∧ hvBit hv 5 14 = true then patch1 b f.usfAt (fun x => x ||| 0x80) else b

/-- The octets that the deparser makes of a frame's octets (R204): `hv` the vector after the egress stages, `ops` the
tag operations of E4. -/
def deparse (f : Frame) (hv : SMap Nat) (ops : Nat) (b : Bytes) : Bytes :=
  let was := b
  let b := writeBack hv f.extracts b
  let b := if hvBit hv 22 2 then applyMarks f hv b else b
  let b := fixChecksums f.layers was b
  if ops = 0 then b else ((tagView hv b).apply ops hv).octets

/-! ### PTP messages (R306, R307) -/

/-- Correction of a PTP message in octets `b`, the header at `at'` (0-based): correctionField, signed, raised by `d`, in
2^-16 ns. -/
def addCorrection (b : Bytes) (at' : Nat) (d : Int) : Bytes :=
  patch b (at' + 8) (toBE 8 (ofInt 64 ((ofBE ((b.drop (at' + 8)).take 8) : Int) + d)))

/-- The copy's PTP event message, where stage E4 marks it for the MAC: its header's octet and messageType (R306). -/
def State.ptpMessage (s : State) (f : Frame) : Option (Nat × Nat) :=
  match ptpEventType f.octets f.ptpAt with
  | none => none
  | some t => if f.octets.getD (f.ptpAt - 1 + 4) 0 = s.reg Reg.TIME_UNIT.DOMAIN then some (f.ptpAt - 1, t) else none

/-- What the egress MAC of port `e` writes into a marked message that leaves at `ts` (R307): `b` the octets to be sent,
`grown` and `cut` what the deparser put in and took out before the headers. -/
def State.ptpWrite (s : State) (f : Frame) (e ts grown cut : Nat) (b : Bytes) : Bytes :=
  match s.ptpMessage f with
  | none => b
  | some (h, _) =>
    if 514 ≤ e then b
    else
      let at' := h + grown - cut
      let out :=
        if f.srcPort = 642 then
          (if s.reg (Reg.PORT_TIME.ONE_STEP_TX e) = 1 then patch b (at' + 34) (toBE 10 (time80 (ts / nsUnit))) else b)
        else if s.reg (Reg.PORT_TIME.TC_ENABLE e) = 1 then addCorrection b at' ((ts / 2 ^ 32 : Nat) - (f.ts / 2 ^ 32 : Nat) : Int)
        else b
      let l := f.layers.shift grown cut
      if l.udp && octets16 b l.sumAt != 0 then fixTransport l b.length b out else out

/-- Two-step: the record of an event message that the device sends with ONE_STEP_TX false (R306, R307). -/
def State.logTxTs (s : State) (f : Frame) (e ts : Nat) : State :=
  match s.ptpMessage f with
  | none => s
  | some (at', t) =>
    if 514 ≤ e ∨ f.srcPort ≠ 642 ∨ s.reg (Reg.PORT_TIME.ONE_STEP_TX e) = 1 then s
    else
      let k := s.reg (Reg.PORT_TIME.TX_TS_HEAD e)
      let rec' := octets16 f.octets (at' + 30) * 2 ^ 112 + t * 2 ^ 104 + f.octets.getD (at' + 4) 0 * 2 ^ 96 + timeFrac ts
      (s.setReg (Reg.PORT_TIME.TX_TS_LOG e) (setEntry 64 16 (s.reg (Reg.PORT_TIME.TX_TS_LOG e)) (k % 64) rec')).setReg
        (Reg.PORT_TIME.TX_TS_HEAD e) ((k + 1) % 2 ^ 16)

/-! ### The egress stages (R202, R203) -/

/-- What the egress pipeline makes of a copy. -/
structure EgressOut where
  st : State
  octets : Bytes
  hv : SMap Nat
  /-- DROP set by an egress stage: reason + 1. -/
  drop : Nat
deriving Repr

/-- The release number of a copy on a host port (R18): the next of its queue. -/
def State.releaseSeq (s : State) (c : Copy) : Nat :=
  if c.port = 512 ∨ c.port = 513 then s.tab Tab.releaseSeq (16 * c.port + c.queue) else 0

/-- The vector that the copy carries to E0 (R202): words 0 to 63, and RTAG_OP as stage 9 set it (R195, R336). -/
def egressVector (f : Frame) (c : Copy) : SMap Nat :=
  hvSetBits (hvSetBits (f.hv.filter (fun e => e.1 < 64)) 20 21 20 f.rtagOp) 22 2 2 (ofBool c.ecn)

/-- Stage E0: EGRESS_PORT, QUEUE, RELEASE_SEQ and BANK (R202). -/
def State.stageE0 (s : State) (c : Copy) (hv : SMap Nat) : SMap Nat :=
  let hv := hvSetBits (hvSetBits hv 20 15 0 c.port) 11 21 18 c.queue
  hvSet (hvSetBits hv 0 21 21 (s.reg Reg.PIPELINE_CONFIG.ACTIVE_BANK)) 21 (s.releaseSeq c)

/-- One egress stage: a fixed unit's change, then the microword (R439). -/
def egressStage (x : State × SMap Nat) (e st : Nat) (fixed : SMap Nat → SMap Nat) : State × SMap Nat :=
  x.1.runMicro e st x.2 (fixed x.2)

/-- Stages E0 to E5 and the deparser for copy `c` of frame `f`, in egress pipeline `e` (R202 to R204). -/
def State.egress (s : State) (f : Frame) (c : Copy) (e : Nat) : EgressOut :=
  let hv0 := egressVector f c
  let x := egressStage (s, hv0) e 16 (s.stageE0 c)
  let x := egressStage x e 17 id
  let x := egressStage x e 18 id
  let x := egressStage x e 19 id
  let ops := hvBits x.2 20 21 16
  let x := egressStage x e 20 id
  let hv4 := x.2
  let out := deparse f x.2 ops f.octets
  let grown := c.lenKnown && decide (s.maxFrame c.port < out.length + 4)
  let x := egressStage x e 21 (fun hv => if grown then dropHv hv Drop.grownMaxFrame else hv)
  let out := deparse f x.2 ops f.octets
  let s := (x.1.count (Ctr.egressPipe e 0)).when (c.ecn && (hvBits hv4 22 1 0 == 1 || hvBits hv4 22 1 0 == 2 || f.usfAt != 0))
    (·.count (Ctr.egressPipe e 1))
  let s := s.when (decide (f.octets.length < out.length)) (·.count (Ctr.egressPipe e 2))
  ⟨s, out, x.2, if hvBit x.2 14 0 then hvBits x.2 14 15 8 + 1 else 0⟩

end Sys2Proof.Machine
end

