-- ==== Sys2Proof/Machine/FramePath.lean ====
section
/-!
DEFINITION. The path of a frame (R171, R173, R177, R188, R244 to R264, R284, R315, R317, R594): arrival, parse, admission,
tail, presentation of internal frames, transmission, ageing, and the commands of each.
-/
namespace Sys2Proof.Machine

/-! ### Cells of a frame that changes (R23, R245, R343) -/

/-- Frame `f` becomes `g`; the difference in cells held is reported. -/
def State.updateFrame (s : State) (f g : Frame) : State :=
  let s := s.putFrame g
  if f.cells ≤ g.cells then s.allocate f.part Term.cellsHeld (g.cells - f.cells) g.cellHolder
  else s.unreport f.part Term.cellsHeld (f.cells - g.cells) f.cellHolder 1

/-! ### Acceptance (R47, R49, R594) -/

/-- A frame with nothing in it yet. -/
def Frame.blank (id port part : Nat) : Frame :=
  { id := id, srcPort := port, pipe := pipeOf port 0, octets := [], stage := 0, tailed := false, tailReason := 0, len := 0,
    lenKnown := false, ts := 0, hv := [], extracts := [], usfAt := 0, ptpAt := 0, ips := [], rtagOp := 0, gateAt := [], group := none,
    sampled := false, dests := [], queue := 0,
    drop := 0, part := part, pool := 0, charge := 0, resCells := 0, shCells := 0, refs := 0, final := false, refused := [],
    resv := none, green := false, paid := (0, 0, 0), maxSdu := 0, pfcClass := 0, creditQueue := 0, epoch := 0, handoff := (0, 0),
    cbSeq := (0, 0), postcard := false, mgmtTag := false, mirror := none, reply := 0 }

/-- The port's sampler counts an accepted frame: whether it is the one selected (R207). -/
def State.sample (s : State) (p : Nat) : State × Bool :=
  let k := s.reg (Reg.PORT_PARSE.POSTCARD_SAMPLE p)
  if k = 0 then (s, false)
  else
    let n := s.tab Tab.sampler p + 1
    if 2 ^ k ≤ n then (s.setTab Tab.sampler p 0, true) else (s.setTab Tab.sampler p n, false)

/-- The gates of the ports that have a gate engine, as they stand now (R309, R318). -/
def State.gatesNow (s : State) : SMap Nat := s.gates.map (fun e => (e.1, s.gateMask e.1 s.clock.ptp))

/-- A new frame of port `p` is accepted, with its timestamp (R47, R49, R205, R305): the command stands at the instant at which the frame's
first bit crosses the reference plane (log entry 65). -/
def State.accept (s : State) (p part : Nat) : State × Frame :=
  let (s, hit) := s.sample p
  let f := { Frame.blank s.nextFrame p part with ts := s.clock.ptp, sampled := hit, gateAt := s.gatesNow }
  let s := { s with frames := s.frames ++ [f], nextFrame := s.nextFrame + 1 }
  ((s.report part Term.accepted 1).report part Term.inPipeline 1, f)

/-! ### The host ingress FIFO (R177) -/

/-- Fill of host port `h`'s FIFO in octets: frames whose parser has not started. -/
def State.hostFill (s : State) (h : Nat) : Nat := s.sumFrames (fun f => f.srcPort == 512 + h && f.stage == 0) (·.written)

/-- A PAUSE frame of host port `h` (R177); a port that is not UP sends none (R174). -/
def State.sendPause (s : State) (h quanta : Nat) : State :=
  s.when (s.portUp (512 + h)) (fun s =>
    (s.emit (.control (512 + h) (macControl (s.ownMac (512 + h)) 1 (toBE 2 quanta)))).macSent (512 + h) 64)

/-- XOFF at 192 KiB, XON at 128 KiB. -/
def State.hostFifoCheck (s : State) (h : Nat) : State :=
  let fill := s.hostFill h
  let off := s.tab Tab.hostXoff h == 1
  if !off && s.reg (Reg.PORT.PAUSE_TX_ENABLE (512 + h)) == 1 && 196608 ≤ fill then
    ((s.setTab Tab.hostXoff h 1).sendPause h 0xFFFF).event (Reg.PORT.EVENTS (512 + h)) 6 (0x0800 + 512 + h)
  else if off && fill ≤ 131072 then (s.setTab Tab.hostXoff h 0).sendPause h 0
  else s

/-- The FIFO check where the port is a host port. -/
def State.fifoCheckOf (s : State) (p : Nat) : State := s.when (p == 512 || p == 513) (·.hostFifoCheck (p - 512))

/-! ### Signal handoffs at the tail (R201, R371) -/

/-- Records or entries of a handoff: COUNT of a USF header, ENTRY_COUNT of a map. -/
def State.handoffLen (s : State) (f : Frame) : Nat :=
  if f.handoff.1 = 2 then (if f.usfAt = 0 then 0 else octets16 f.octets (f.usfAt - 1 + 6))
  else bits (s.tab (Tab.win 0x7020) f.handoff.2) 109 99

/-- Length of a waiting handoff. -/
def State.waitingLen (s : State) (h : Handoff) : Nat :=
  if h.usf then (if h.usfAt = 0 then 0 else octets16 h.octets (h.usfAt - 1 + 6)) else bits (s.tab (Tab.win 0x7020) h.map) 109 99

/-- A frame with a handoff has ended: the request joins its pipeline's engine queue of 4,096 records and entries, or is
cancelled (R201, R371). -/
def State.handoffTail (s : State) (f : Frame) (good : Bool) : State :=
  if f.handoff.1 = 0 then s
  else if !good then s.count (Ctr.ingressPipe f.pipe 9)
  else if 4096 < ((s.handoffs.filter (·.pipe == f.pipe)).map s.waitingLen).sum + s.handoffLen f then
    s.bump Reg.SIGNAL_CONTROL.ENGINE_OVERFLOW 64
  else { s with handoffs := s.handoffs ++ [{ pipe := f.pipe, usf := f.handoff.1 == 2, map := f.handoff.2, srcPort := f.srcPort,
                                             ts := f.ts, octets := f.octets, usfAt := f.usfAt }] }

/-! ### The tail (R245, R246, R258, R276, R278, R284, R317) -/

/-- R284 at the tail: what was charged beyond L goes back; a frame above a MAX_SDU that is not 0 sets BLOCKED and ends under
STREAM_FILTER_SDU. The state, and that reason or 0. -/
def State.repayTail (s : State) (f : Frame) : State × Nat :=
  let (i, bucket, m) := f.paid
  if bucket = 0 then (s, 0)
  else
    let s := s.repayPolicer i bucket (m - f.len)
    if f.maxSdu ≠ 0 ∧ f.maxSdu < f.len then
      ((s.polCount Tab.polSdu i).when (polBlockOversize (s.policerElem i)) (·.blockPolicer i), Drop.streamFilterSdu)
    else (s, 0)

/-- The cells beyond a frame's length go back to the pool that supplied them, shared cells first (R245). -/
def Frame.returnExcess (f : Frame) : Frame :=
  let n := ceilDiv f.len 256
  let excess := f.charge - n
  let sh := min excess f.shCells
  if f.pool = Pool.dalzan then { f with charge := n }
  else { f with charge := n, shCells := f.shCells - sh, resCells := f.resCells - (excess - sh) }

/-- Copies in transmission whose frame has reached their port's MAX_FRAME without ending there (R172). -/
def State.stopLong (s : State) (f : Frame) : State :=
  s.endCopies (fun c => c.frame == f.id && c.phase == 2
    && decide (s.maxFrame c.port < c.sent.length + (f.octets.length - c.used) + (if f.tailed then 4 else 1)))
    Drop.egressMaxFrame true

/-- The copies of a frame that were charged at unknown length get back what they were charged beyond it (R276, R278). -/
def State.refundAll (s : State) (f : Frame) : State :=
  s.forAll (s.copies.filter (fun c => c.frame == f.id && c.phase != 0 && !c.lenKnown)) (fun s c => s.refund c f.len)

/-- The tail of an admitted frame is written (R245, R246, R317); `f` is the frame with its tail. -/
def State.tailAdmitted (s : State) (f : Frame) (reason : Nat) : State :=
  if reason ≠ 0 then
    (if f.final then (s.refundAll f).endCopies (fun c => c.frame == f.id) reason true else (s.refundAll f).dropWhole f reason)
  else
    let g := f.returnExcess
    let s := (s.updateFrame f g).pfcCheck f.srcPort
    let s := if f.lenKnown then s
      else s.endCopies (fun c => c.frame == f.id && c.phase == 0 && s.neverFits c.port c.queue f.len) Drop.gateNeverFits false
    let s := s.stopLong g
    match s.frame? f.id with
    | none => s
    | some g =>
      if g.stage = 3 then s
      else
        (s.finalize g).refundAll f

/-- Frame `f` of the list ends at the MAC with `len` octets under `reason`, 0 for a correct FCS. -/
def State.endArrival (s : State) (f : Frame) (reason len : Nat) : State :=
  let g := { f with tailed := true, len := len }
  let (s, owed) := if f.stage = 0 then (s, 0) else s.repayTail g
  let reason := if f.stage = 3 ∧ f.tailReason ≠ 0 then f.tailReason else if reason = 0 then owed else reason
  let g := { g with tailReason := reason }
  let s := s.handoffTail g (reason == 0)
  if f.stage = 3 then { s with frames := s.frames.filter (fun h => h.id != f.id) }.drained
  else
    let s := s.updateFrame f g
    if f.stage = 0 then s
    else if f.stage = 1 then (if reason = 0 then s else s.dropWhole g reason)
    else s.tailAdmitted g reason

/-- Counting of a frame that a MAC has delimited (R171, R185). -/
def State.countRx (s : State) (p len reason : Nat) : State :=
  let s := (s.count (Ctr.port p 0)).count (Ctr.port p 1) len
  let s := s.when (reason == Drop.rxFcsError || reason == Drop.rxStomped) (·.count (Ctr.port p 4))
  let s := s.when (reason == Drop.rxUndersize) (·.count (Ctr.port p 5))
  s.when (reason == Drop.rxOversize) (·.count (Ctr.port p 6))

/-! ### Arrival of octets (R171, R244, R251) -/

/-- A frame that is arriving ends under DALZAN_OVERRUN, whole or with stomped copies (R251): only its tail is to come. -/
def State.overrun (s : State) (f : Frame) : State :=
  let f := { f with tailReason := Drop.dalzanOverrun }
  let s := s.putFrame f
  if f.final then s.endCopies (fun c => c.frame == f.id) Drop.dalzanOverrun true else s.dropWhole f Drop.dalzanOverrun

/-- Octets of a frame that a MAC hands over with its start: what steering and the MAC read of it (log entry 65). -/
def startOctets (p : Nat) : Nat := if p < 512 then 64 else 256

/-- Further octets of a frame that is arriving, and with them `fcs` octets of its FCS: the state, and the frame where it is still to be
ended. It ends at MAX_FRAME + 1 octets; with the first Dalzan cell beyond the grant of its queue it is dropped, and only its tail is to
come. A frame that its start did not fill has no more octets. -/
def State.arrive (s : State) (f : Frame) (more : Bytes) (fcs : Nat) : State × Option Frame :=
  let max := s.maxFrame f.srcPort
  let more := if f.octets.length ≠ 0 ∧ f.octets.length < startOctets f.srcPort then [] else more
  let all := (f.octets ++ more).take (max + 1)
  let g := { f with octets := all }
  let dz := f.pool == Pool.dalzan
  let fresh := ceilDiv (all.length + fcs) 256 - f.occupied
  let s := s.when dz (·.dzCount Tab.dzReceived f fresh)
  if dz && f.stage == 3 then ((s.dzCount Tab.dzReturned f fresh).putFrame g, some g)
  else if dz && decide (s.tab Tab.dzGrant (16 * f.srcPort + f.creditQueue) < s.dalzanUsed f.srcPort f.creditQueue + fresh) then
    let s := (s.overrun f).dzCount Tab.dzReturned f fresh
    match s.frame? f.id with
    | none => (s, none)
    | some h => let h := { h with octets := all }; (s.putFrame h, some h)
  else
    let s := s.updateFrame f g
    if max < all.length then
      ((s.countRx f.srcPort all.length Drop.rxOversize).endArrival g Drop.rxOversize all.length, none)
    else
      let s := (s.when (f.stage == 2) (·.stopLong g)).when (f.stage != 0) (·.pfcCheck f.srcPort)
      match s.frame? f.id with | none => (s, none) | some g => (s, some g)

/-- The EtherType of a frame is that of a MAC control frame (R173). -/
def isMacControl (b : Bytes) : Bool := 14 ≤ b.length && octets16 b 12 == 0x8808

/-- A MAC control frame that is consumed and never accepted: PAUSE and PFC (R47, R173). -/
def isPauseOrPfc (b : Bytes) : Bool := isMacControl b && (octets16 b 14 == 1 || octets16 b 14 == 0x0101)

/-- The ingress pipeline of a frame of host port `h` (R17): a CRC-32C of its fields, modulo 32. -/
def hostPipe (h : Nat) (b : Bytes) : Nat :=
  let hv := (hostWalk b).hv
  let vlan := fun (w : Nat) => if hvBit hv w 16 then toBE 2 (hvBits hv w 11 0) else []
  let ip := if hvBit hv 5 4 then (toBE 4 (hvGet hv 29) ++ toBE 4 (hvGet hv 30) ++ [hvBits hv 39 7 0])
    else if hvBit hv 5 5 then (List.range 8).flatMap (fun k => toBE 4 (hvGet hv (31 + k))) ++ [hvBits hv 39 7 0] else []
  let ports := if hvBit hv 5 8 || hvBit hv 5 9 then toBE 4 (hvGet hv 40) else []
  pipeOf (512 + h) (crc32c (b.take 12 ++ vlan 8 ++ vlan 9 ++ toBE 2 (hvBits hv 28 15 0) ++ ip ++ ports))

/-- A ZDP frame at a host port (R19, R62, R185): its request is a command of its own, but for one whose OPCODE is in no row: that is
discarded and counted. -/
def State.zdpFrameIn (s : State) (p : Nat) (b : Bytes) : State :=
  match s.carriage b with
  | none => s
  | some c =>
    s.when (s.portUp p && !knownOp (c.request p b).1) (fun s =>
      (s.macReceived p (b.length + 4)).bump Reg.ZDP_STATISTICS.RX_MALFORMED 64)

/-- A PAUSE or PFC frame whose FCS may still be bad (R171, R173): it is not accepted; of good ones PAUSE and PFC are commands. -/
def State.controlFrameIn (s : State) (p : Nat) (b : Bytes) : State :=
  { s with frames := s.frames ++ [{ Frame.blank s.nextFrame p (s.portPart p) with stage := 3, octets := b }], nextFrame := s.nextFrame + 1 }

/-- A frame is dropped whole as it begins; its octets still arrive (R171). -/
def State.dropArriving (s : State) (f : Frame) (b : Bytes) (reason : Nat) : State :=
  let s := s.dropWhole f reason
  match s.frame? f.id with | none => s | some f => (s.arrive f b 0).1

/-- FRAME_START (R244): on a port whose MAC delimits frames. ZDP frames of a host port and what else its MAC consumes are not
accepted; what a fence or a full FIFO refuses is accepted and dropped whole. -/
def execFrameStart (p : Fin 514) (queue : QueueNo) (octets : FrameOctets) (s : State) : Next :=
  let host := decide (512 ≤ (p : Nat))
  if host && s.isZdpFrame octets then State.done (s.zdpFrameIn p octets)
  else if !s.coreOn || s.reg (Reg.PORT.LINK_STATE p) < 2 || octets.isEmpty || (host && s.isAddressRequest octets) then .next s
  else if isPauseOrPfc octets then State.done (s.controlFrameIn p octets)
  else
    let (s, f) := s.accept p (s.portPart p)
    let dz := s.portKind p == 2
    let g := { f with pool := if dz then Pool.dalzan else 0, creditQueue := if dz then queue else 0,
                      pipe := if host then hostPipe (p - 512) octets else f.pipe }
    let full := host && decide (262144 - s.hostFill (p - 512) < s.maxFrame p)
    let s := s.putFrame g
    if s.mode = 4 then State.done (s.dropArriving g octets Drop.reset)
    else if s.frameFenced p g.pipe then State.done (s.dropArriving g octets Drop.fenced)
    else if full then State.done (s.dropArriving g octets Drop.hostFifoFull)
    else State.done ((s.arrive g octets 0).1.fifoCheckOf p)

/-- The frame's end is delimited: an FCS of four octets has arrived. -/
def delimited (tail : TailEnd) : Bool := !(tail == .codeError || tail == .elastic)

/-- The reason with which a frame of `b` octets ends (R143, R149, R157, R171, R259). -/
def tailReason (b : Bytes) (tail : TailEnd) : Nat :=
  match tail with
  | .codeError => Drop.rxCodeError
  | .elastic => Drop.rxElastic
  | .stomped => if b.length + 4 < 64 then Drop.rxUndersize else Drop.rxStomped
  | .badFcs => if b.length + 4 < 64 then Drop.rxUndersize else Drop.rxFcsError
  | .good => if b.length + 4 < 64 then Drop.rxUndersize else 0

/-- FRAME_TAIL (R246): the last octets and the end of a frame that is arriving. -/
def execFrameTail (frame : Nat) (octets : FrameOctets) (tail : TailEnd) (s : State) : Next :=
  match s.frame? frame with
  | none => .next s
  | some f =>
    if f.tailed then .next s
    else
      let fcs := if delimited tail then 4 else 0
      match s.arrive f octets fcs with
      | (s, none) => State.done s
      | (s, some g) =>
        let len := g.octets.length + fcs
        let reason := if s.maxFrame g.srcPort < len then Drop.rxOversize else tailReason g.octets tail
        if g.stage = 3 ∧ isPauseOrPfc g.octets = true ∧ reason = 0 then
          State.done { s with frames := s.frames.filter (fun h => h.id != g.id) }.drained
        else
          let s := s.countRx g.srcPort len reason
          if g.stage = 0 ∧ isMacControl g.octets = true then
            let h := { g with tailed := true, len := len }
            State.done (((s.updateFrame g h).dropWhole h (if reason = 0 then Drop.macControl else reason)).fifoCheckOf g.srcPort)
          else State.done ((s.endArrival g reason len).fifoCheckOf g.srcPort)

/-! ### The parser and the ingress stages (R188) -/

/-- Frames of pipeline `i` that wait for admission (R263). -/
def State.waiting (s : State) (i : Nat) : List Frame := s.frames.filter (fun f => f.pipe == i && f.stage == 1)

/-- A frame whose stages have run takes its place behind those decided before it; its octets are landing cells now. -/
def State.decided (s : State) (f g : Frame) : State :=
  let s := s.updateFrame f g
  ({ s with frames := s.frames.filter (fun h => h.id != g.id) ++ [g] } : State).pfcCheck g.srcPort

/-- The frame is the oldest of its port and pipeline that waits for the parser (R17): the frames of one flow keep their order. -/
def State.parsesNext (s : State) (f : Frame) : Bool :=
  match s.frames.find? (fun g => g.srcPort == f.srcPort && g.pipe == f.pipe && g.stage == 0 && !isMacControl g.octets) with
  | none => false
  | some g => g.id == f.id

/-- PARSER_START (R188): PARSE_DEPTH octets or the end have arrived. A frame whose handoff is requested after its good
tail is handed over at once (R201); one that reaches a full admission queue is dropped (R263). -/
def execParserStart (frame : Nat) (octets : FrameOctets) (s : State) : Next :=
  match s.frame? frame with
  | none => .next s
  | some f =>
    if f.stage ≠ 0 ∨ s.parsesNext f = false then .next s
    else
      match (if f.tailed then (s, some f) else s.arrive f octets 0) with
      | (s, none) => State.done s
      | (s, some f) =>
        if f.stage ≠ 0 then State.done s
        else if isMacControl f.octets || (!f.tailed && f.octets.length < s.reg (Reg.PORT_PARSE.PARSE_DEPTH f.srcPort)) then State.done s
        else
          let (s, g) := s.ingress f
          let full := 64 ≤ (s.waiting g.pipe).length
          let s := s.decided f g
          let s := if g.tailed then s.handoffTail g (g.tailReason == 0) else s
          let s := if full then s.dropWhole g Drop.mcOverload else s
          State.done (s.fifoCheckOf f.srcPort)

/-! ### Buffer admission (R245 to R265) -/

/-- Pool of a decided frame (R247). -/
def State.poolOf (s : State) (f : Frame) : Nat :=
  if f.srcPort = 642 then Pool.mgmt
  else if f.pool = Pool.dalzan then Pool.dalzan
  else if hvBit f.hv 12 16 ∧ s.resvLive (hvBits f.hv 12 15 0) = true then Pool.resv
  else Pool.part

/-- One copy made for port `e` of a frame with charge `n` (R250, R256, R265, R292). -/
def State.makeCopy (s : State) (f : Frame) (e : Nat) : State :=
  let q := f.queue
  let depth := s.queueDepth e q
  let ecn := bit (s.reg (Reg.PORT_BUFFER.ECN_ENABLE e)) q && entryAt 16 4 (s.reg (Reg.PORT_BUFFER.ECN_THRESHOLD e)) q ≤ depth
  let ct := s.cutThrough f.srcPort e q
  let wants := s.reg (Reg.PORT_BUFFER.CT_INGRESS f.srcPort) == 1 && bit (s.reg (Reg.PORT_BUFFER.CT_QUEUES e)) q
  let c : Copy := { id := s.nextCopy, frame := f.id, port := e, queue := q, pool := f.pool, reserved := hvBit f.hv 12 16, ecn := ecn, cutThrough := ct,
                    phase := 0, depth := depth, drrCharge := 0, drrLeft := 0, qCharge := 0, pCharge := 0, lenKnown := false, start := 0,
                    sent := [], used := 0, covered := false, postcard := f.postcard, emptied := false }
  let s := { s with copies := s.copies ++ [c], nextCopy := s.nextCopy + 1 }
  let s := (s.allocate f.part Term.descQueued 1 (holder 2 (16 * e + q))).report f.part Term.mcRefs 1
  let s := s.when (wants && !ct) (·.count (Ctr.port e 8))
  let s := s.when ecn (·.count (Ctr.queue e q 2))
  (s.enterDrr e q).raiseMark (Reg.PORT_QSTATE.DEPTH_HWM e) q (depth + f.charge)

/-- The copy may not stay in its queue: a fence on its queue, its port or its bench (R350), or watchdog recovery with
action DROP (R290). -/
def State.turnedAway (s : State) (c : Copy) : Option Nat :=
  if s.fenced 2 (16 * c.port + c.queue) || s.fenced 3 c.port || (514 ≤ c.port && c.port ≤ 641 && s.fenced 5 (c.port - 514)) then
    some Drop.fenced
  else if s.inRecovery c.port c.queue && s.reg (Reg.PORT_PFC.WATCHDOG_ACTION c.port) == 2 then some Drop.pfcWatchdog
  else none

/-- Every destination checked in ascending order, a copy made for each that passes (R250). -/
def State.admitCopies (s : State) (f : Frame) (n : Nat) : List Nat → State × Frame
  | [] => (s, f)
  | e :: t =>
    match s.copyCheck f n e with
    | some r => s.admitCopies { f with refused := f.refused ++ [(e, r)] } n t
    | none => (s.makeCopy f e).admitCopies { f with refs := f.refs + 1 } n t

/-- The frame is charged and its copies stand (R250); a tail that has arrived takes effect at once. -/
def State.admitted (s : State) (f g : Frame) : State :=
  let s := ((s.freeTag g.reply).updateFrame f { g with reply := 0 }).pfcCheck g.srcPort
  let s := s.forAll (s.copies.filter (fun c => c.frame == g.id)) (fun s c =>
    match s.turnedAway c with | none => s | some r => s.endCopy c r false)
  match s.frame? g.id with
  | none => s
  | some g => if g.tailed ∧ g.stage = 2 then s.tailAdmitted g g.tailReason else s

/-- The destination list as it is when admission starts: a multicast group's ports by its contents now (R260); none where the group is
not valid. -/
def State.destsNow (s : State) (f : Frame) : Option (List Nat) :=
  match f.group with
  | none => some f.dests
  | some n => let g := if n < 16384 then s.group n else 0; if bit g 767 then some (groupPorts g f.srcPort) else none

/-- Admission of frame `f` (R250). -/
def State.takeAdmission (s : State) (f : Frame) : State :=
  if f.drop ≠ 0 then s.dropWhole f (f.drop - 1)
  else match s.destsNow f with
  | none => s.dropWhole { f with dests := [] } Drop.mcGroupInvalid
  | some dests =>
    let f := { f with dests := dests }
    match dests with
    | [] => s.dropWhole f (if f.handoff.1 ≠ 0 then Drop.signalConsumed else Drop.noDestination)
    | first :: _ =>
      let n := ceilDiv (if f.lenKnown then f.len else s.maxFrame f.srcPort) 256
      let f' := { f with pool := s.poolOf f }
      match s.cellsCheck f' n with
      | .error r => s.dropWhole f r
      | .ok (own, shared) =>
        let g := { f' with charge := n, resCells := own, shCells := shared, stage := 2 }
        let (s', h) := (s.putFrame { f with charge := n, pool := f.pool }).admitCopies g n dests
        if h.refs = 0 then s.dropWhole f (match h.refused with | r :: _ => r.2 | [] => if 642 < first then Drop.unusedDest else 0)
        else s'.admitted f h

/-- BUFFER_ADMISSION (R250, R254, R263): of the frames of a pipeline that wait, those of the reservation pool first,
each kind in order. -/
def execBufferAdmission (frame : Nat) (s : State) : Next :=
  match s.frame? frame with
  | none => .next s
  | some f =>
    if f.stage ≠ 1 then .next s
    else
      let resv := fun (g : Frame) => s.poolOf g == Pool.resv
      let w := s.waiting f.pipe
      match (w.filter resv ++ w.filter (fun g => !resv g)).head? with
      | none => .next s
      | some g => if g.id = f.id then State.done (s.takeAdmission f) else .next s

/-! ### Internal sources (R245, R305, R594) -/

/-- A complete frame is presented on internal port `p` for a partition: accepted, or dropped whole where its size
breaks R594 or the port is fenced. -/
def State.present (s : State) (p part : Nat) (octets : Bytes) (mirror : Option Mirror) (mgmtTag : Bool) (reply : Nat) : State :=
  let (s, f) := s.accept p part
  let len := octets.length + 4
  let g := { f with octets := octets, tailed := true, len := len, mirror := mirror, mgmtTag := mgmtTag, reply := reply }
  let s := (s.putFrame g).countRx p len 0
  if s.mode = 4 then s.dropWhole g Drop.reset
  else if octets.length < 60 ∨ s.maxFrame p < len then s.dropWhole g Drop.internalSourceError
  else if s.frameFenced p g.pipe then s.dropWhole g Drop.fenced
  else s

/-- INJECT_PRESENT (R378, R395): the oldest frame built for the port by a publication list, a mirror range or a telemetry
stream. -/
def execInjectPresent (p : PortNo) (s : State) : Next :=
  if !s.coreOn then .next s
  else
    match s.built.find? (fun b => b.port == p.val && b.kind != 0) with
    | none => .next s
    | some b =>
      let s := { s with built := s.built.erase b }
      let s := s.when (b.kind == 1) (fun s =>
        let v := s.tab (Tab.win 0x7033) b.num
        s.setTab (Tab.win 0x7033) b.num (setBits v 255 224 (bits v 255 224 + 1)))
      State.done (s.present p b.part b.octets b.mirror false 0)

/-! ### Transmission (R202 to R207, R246, R261, R274, R292, R307, R510 to R514) -/

/-- The conditions of R37 hold for a copy that starts now, integrity and length apart. -/
def State.copyCovered (s : State) (f : Frame) (c : Copy) : Bool :=
  s.frameCovered f && (match f.resv with
    | none => false
    | some (_, v) => (s.resvPorts v).contains c.port && resvQueue v == c.queue)

/-- COPY_TX_START (R246, R315): the selected copy of the port starts, at the start instant that its selection fixed. Its start makes the
frame's admission final, and so a drop by an egress stage is one after admission (R203, R266; log entry 66). -/
def execCopyTxStart (p : PortNo) (s : State) : Next :=
  match s.copies.find? (fun c => c.port == p.val && c.phase == 1) with
  | none => .next s
  | some c =>
    match s.frame? c.frame with
    | none => .next s
    | some f =>
      if s.copies.any (fun d => d.port == p && d.phase == 2) || !s.portUp p then .next s
      else
        let e := pipeOf p (hvGet f.hv 10)
        let o := s.egress f c e
        let s := o.st.finalize f
        if o.drop ≠ 0 then State.done (s.dropCopy c (o.drop - 1))
        else
          let s := s.when (p == 512 || p == 513) (fun s => s.setTab Tab.releaseSeq (16 * p + c.queue) ((s.releaseSeq c + 1) % 2 ^ 32))
          let s := (s.unreport f.part Term.descQueued 1 (holder 2 (16 * p + c.queue)) 2).report f.part Term.descInTx 1
          let covered := s.copyCovered f c
          let sent := s.ptpWrite f p c.start o.octets.length f.octets.length o.octets
          State.done (s.putCopy { c with phase := 2, sent := sent, used := f.octets.length, covered := covered })

/-- Histogram bin of a residence in ns (R510). -/
def histBin (ns : Nat) : Nat := if ns < 2 then 0 else min (Nat.log2 ns) 31

/-- A saturating bin of a histogram goes up. -/
def State.histAdd (s : State) (t element ns : Nat) : State :=
  let i := element * 32 + histBin ns
  s.setTab t i (min (s.tab t i + 1) (2 ^ 32 - 1))

/-- The reservation counts of a transmitted copy with residence `r` in 2^-48 ns (R44, R46, R511). -/
def State.countSent (s : State) (f : Frame) (c : Copy) (covered : Bool) (r : Nat) : State :=
  match f.resv with
  | none => s
  | some (n, _) =>
    let d := s.boundFor n c.port f.ts
    let late := decide (d * nsUnit < r)
    if covered then
      let s := (s.resvCounted n 0 1).histAdd Tab.resvHist n (r / nsUnit)
      s.when late (fun s => s.breach f n c.port c.start d)
    else s.resvCounted n (if late then 2 else 1) 1

/-- The octets that leave for a copy: what the egress stages and the MAC made of those it had at its start, those that came later, and
padding (R172, R307). -/
def Copy.octets (c : Copy) (f : Frame) : Bytes := padded (c.sent ++ f.octets.drop c.used)

/-- A frame that has come to the management controller through port 642 (R19, R55, R59, R62): a ZDP request of a fabric or bench port
waits for its operation; while FABRIC_ENABLE is false, ZDP frames are discarded. -/
def State.zdpArrived (s : State) (p : Nat) (b : Bytes) : State :=
  match s.carriage b with
  | none => s
  | some c =>
    let (op, q) := c.request p b
    if s.zdpSetting 0x06 = 0 then s.bump Reg.ZDP_STATISTICS.FABRIC_DISCARDED 64
    else if p = 512 ∨ p = 513 ∨ p = 642 then s
    else if !knownOp op || !validRequest q op then s.bump Reg.ZDP_STATISTICS.RX_MALFORMED 64
    else { s with zdp := { s.zdp with arrived := s.zdp.arrived ++ [(op, q)] } }

/-- The copy in transmission on a port ends with a correct FCS. -/
def State.copySent (s : State) (f : Frame) (c : Copy) : State :=
  let p := c.port
  let q := c.queue
  let b := c.octets f
  let len := b.length + 4
  let r := c.start - f.ts
  let covered := c.covered && (match f.resv with | none => false | some (_, v) => decide (f.len ≤ resvMaxFrame v))
  let s := (s.removeCopy c).emit (.frame p b false)
  let s := s.when (decide (514 ≤ p) && decide (p ≤ 641)) (·.ringReceive (p - 514) f.srcPort f.ts b)
  let s := s.when (p == 642) (·.zdpArrived f.srcPort b)
  let s := (s.count (Ctr.port p 2)).count (Ctr.port p 3) len
  let s := (s.count (Ctr.queue p q 0)).count (Ctr.queue p q 1) len
  let s := s.when (decide (p < 514) && (s.ptpMessage f).isSome) (·.count (Ctr.port p 13))
  let s := s.logTxTs f p c.start
  let s := (s.histAdd Tab.queueHist (16 * p + q) (r / nsUnit)).raiseMark (Reg.PORT_QSTATE.RESIDENCE_HWM p) q (r / nsUnit)
  let s := s.setTab Tab.wireOctets (16 * p + q) (s.tab Tab.wireOctets (16 * p + q) + f.len + 20)
  let s := s.when (s.portKind p == 2) (fun s =>
    s.setTab Tab.dzSent (16 * p + q) ((s.tab Tab.dzSent (16 * p + q) + ceilDiv len 256) % 2 ^ 24))
  let s := s.unreport f.part Term.descInTx 1 (holder 3 p) 2
  let s := (s.unreport f.part Term.residentCopies 1 (holder 2 (16 * p + q)) 8).report f.part Term.transmitted 1
  let s := (s.countSent f c covered r).copyPostcard f c 0 0 c.start false covered
  s.dropRef f

/-- COPY_TX_END (R261): the frame has arrived whole. -/
def execCopyTxEnd (p : PortNo) (s : State) : Next :=
  match s.copies.find? (fun c => c.port == p.val && c.phase == 2) with
  | none => .next s
  | some c =>
    match s.frame? c.frame with
    | none => .next s
    | some f =>
      if f.tailed && (c.port < 514 || 641 < c.port || s.ringRoom (c.port - 514) (c.octets f).length) then State.done (s.copySent f c)
      else .next s

/-- AGED (R264): a queued copy on a port with an age limit. -/
def execAged (copy : Nat) (s : State) : Next :=
  match s.copies.find? (fun c => c.id == copy && c.phase == 0) with
  | none => .next s
  | some c =>
    let limit := s.reg (Reg.PORT_BUFFER.AGE_LIMIT_US c.port)
    let ts := match s.frame? c.frame with | none => 0 | some f => f.ts
    if limit ≠ 0 ∧ ts + limit * 1000 * nsUnit < s.clock.ptp then State.done (s.dropCopy c Drop.aged) else .next s

end Sys2Proof.Machine
end

