-- ==== Sys2Proof/Machine/Package.lean ====
section
/-!
DEFINITION. Microcode packages (R444 to R453): their layout, the checks that a load makes, the stores that an applied package
writes, and the boot flash (R547).
-/
namespace Sys2Proof.Machine

/-! ### Where packages are held -/

/-- The byte address of octet `a` of the boot flash (R547). -/
abbrev flashAddr (a : Nat) : Nat := 2 ^ 36 + a

/-- The byte address of package slot `k` of the microcode area, behind the two copies of its directory (R547). -/
abbrev packageSlot (k : Nat) : Nat := flashAddr (0x03020000 + k * 0x40000)

/-- The byte address of the package that loader `l` receives: 0 the pipelines', 1 the benches'. -/
abbrev packageAddr (l : Nat) : Nat := 2 ^ 37 + l * 0x40000

/-- A sub-index of loader `l`: its register is in `0x2E00` or in `0x8E00` (R457). -/
abbrev loaderKey (l sub : Nat) : Nat := regKey (if l = 0 then 0x2E00 else 0x8E00) sub

namespace LoaderSub
abbrev loadMode : Nat := 0x03
abbrev persist : Nat := 0x04
abbrev state : Nat := 0x05
abbrev received : Nat := 0x06
abbrev lastResult : Nat := 0x08
abbrev lastDetail : Nat := 0x09
abbrev loads : Nat := 0x0A
abbrev version : Nat := 0x0B
abbrev digest : Nat := 0x0C
abbrev keySlot : Nat := 0x0D
abbrev events : Nat := 0x11
end LoaderSub

/-- STATE of loader `l` (R457): 0 IDLE, 1 RECEIVING, 2 VERIFYING, 3 WRITING, 4 PENDING, 5 PERSISTING. -/
def State.loaderState (s : State) (l : Nat) : Nat := s.reg (loaderKey l LoaderSub.state)
def State.setLoaderState (s : State) (l st : Nat) : State := s.setReg (loaderKey l LoaderSub.state) st

/-- A flag of EVENTS of loader `l` (R457, R484). -/
def State.loaderEvent (s : State) (l i : Nat) : State := s.event (loaderKey l LoaderSub.events) i (if l = 0 then 0x1B00 else 0x1981)

def State.loaderTab (s : State) (l k : Nat) : Nat := s.tab Tab.loader (16 * l + k)
def State.setLoaderTab (s : State) (l k v : Nat) : State := s.setTab Tab.loader (16 * l + k) v

/-- The bytes that loader `l` has received. -/
def State.packageOf (s : State) (l : Nat) : Bytes := s.bytesFrom (packageAddr l) (s.reg (loaderKey l LoaderSub.received))

/-- The package of loader `l` is discarded; it is IDLE. -/
def State.discardPackage (s : State) (l : Nat) : State :=
  let s := s.zeroBytes (packageAddr l) (packageAddr (l + 1))
  (s.setReg (loaderKey l LoaderSub.received) 0).setLoaderState l 0

/-! ### The layout (R444, R445) -/

/-- Field of `n` octets at offset `off` of octets, most significant first. -/
def fieldBE (b : Bytes) (off n : Nat) : Nat := ofBE ((b.drop off).take n)

namespace Pack
def kind (b : Bytes) : Nat := fieldBE b 6 1
def signed (b : Bytes) : Bool := bit (fieldBE b 7 1) 0
def len (b : Bytes) : Nat := fieldBE b 8 4
def version (b : Bytes) : Nat := fieldBE b 12 4
def bayMask (b : Bytes) : Nat := fieldBE b 16 2
def sections (b : Bytes) : Nat := fieldBE b 18 2
def digest (b : Bytes) : Nat := fieldBE b 48 48
def sigR (b : Bytes) : Nat := fieldBE b (len b - 96) 48
def sigS (b : Bytes) : Nat := fieldBE b (len b - 48) 48
/-- The octets that DIGEST covers. -/
def covered (b : Bytes) : Bytes := b.take 48 ++ (b.take (len b - 96)).drop 96
/-- The bays that a package targets. -/
def bays (b : Bytes) : List Nat := (List.range 16).filter (bit (bayMask b))
end Pack

/-- A section (R445). -/
structure PackSection where
  store : Nat
  start : Nat
  count : Nat
  offset : Nat
deriving DecidableEq, Repr

/-- Octets of a word of a store: 1 microwords, 2 nanowords. -/
def storeOctets (store : Nat) : Nat := if store = 1 then 4 else 64

/-- Section `i` of a package. -/
def Pack.entry (b : Bytes) (i : Nat) : PackSection :=
  let a := 96 + 16 * i
  ⟨fieldBE b a 1, fieldBE b (a + 2) 2, fieldBE b (a + 4) 2, fieldBE b (a + 8) 4⟩

def Pack.list (b : Bytes) : List PackSection := (List.range (Pack.sections b)).map (Pack.entry b)

/-- The words of a section, with their addresses. -/
def Pack.words (b : Bytes) (x : PackSection) : List (Nat × Nat) :=
  let w := storeOctets x.store
  ((cut w x.count (b.drop x.offset)).map ofBE).zipIdx.map (fun p => (x.start + p.2, p.1))

/-- The header is valid for loader `l`: its own KIND, every reserved field 0. -/
def Pack.headerOk (b : Bytes) (l : Nat) : Bool :=
  fieldBE b 0 4 == 0x464A5543 && fieldBE b 4 2 == 1 && kind b == l + 1 && fieldBE b 7 1 ≤ 1
    && len b % 4 == 0 && len b ≤ 262144 && (if l = 0 then bayMask b == 0 else bayMask b != 0)
    && 1 ≤ sections b && sections b ≤ 64 && fieldBE b 20 28 == 0 && 192 + 16 * sections b ≤ len b
    && (signed b || (sigR b == 0 && sigS b == 0))

/-- Section `i` is valid: its addresses in the customer region of its store and in no earlier section of it, its data between
the section table and the signature. -/
def Pack.sectionOk (b : Bytes) (i : Nat) : Bool :=
  let a := 96 + 16 * i
  let x := entry b i
  let last := x.start + x.count
  (x.store == 1 || x.store == 2) && fieldBE b (a + 1) 1 == 0 && fieldBE b (a + 6) 2 == 0 && fieldBE b (a + 12) 4 == 0
    && 1 ≤ x.count && (if x.store = 1 then decide (last ≤ 0x3800) else decide (0x400 ≤ x.start && last ≤ 0x1000))
    && x.offset % 4 == 0 && 96 + 16 * sections b ≤ x.offset && x.offset + x.count * storeOctets x.store ≤ len b - 96
    && (List.range i).all (fun j =>
      let y := entry b j
      y.store != x.store || decide (last ≤ y.start) || decide (y.start + y.count ≤ x.start))

/-! ### Defined encodings of a pipeline word (R432 to R439) -/

/-- A source selector in use by a unit that may name the ALUs below `n`. -/
def sourceOk (n sel : Nat) : Bool :=
  let w := bits sel 17 11
  1 ≤ bits sel 5 0 && bits sel 10 6 + bits sel 5 0 ≤ 32 &&
    (match bits sel 19 18 with | 0 => true | 1 => true | 2 => w == 0 | _ => w < 4 && w < n)

/-- A predicate that may name the ALUs below `n`. -/
def predOk (n pred : Nat) : Bool := pred < 2 || (pred < 10 && (pred - 2) / 2 < n)

/-- The sources that ALU slot `x` uses. -/
def aluSources (x : Nat) : List Nat :=
  if bits x 68 63 = 0 then [] else if bits x 68 63 = 1 then [bits x 58 39] else [bits x 58 39, bits x 38 19]

/-- ALU slot `x` of ALU `n` is a defined encoding. -/
def aluOk (n x : Nat) : Bool :=
  bits x 68 63 ≤ 0x11 && predOk n (bits x 62 59) && (aluSources x).all (sourceOk n)
    && (bits x 68 63 == 0 || bit x 18 || (1 ≤ bits x 5 0 && bits x 10 6 + bits x 5 0 ≤ 32))

/-- The bits of ARG8 that a META operation uses (R438). -/
def metaArgMask (op : Nat) : Nat := match op with | 3 => 3 | 4 => 15 | 5 => 1 | 9 => 63 | _ => 0

/-- META operations that use SRC (R438). -/
def metaUsesSrc (op : Nat) : Bool := [1, 2, 3, 5, 6, 7, 8].contains op

/-- The header-vector words that hold the fields a META operation sets (R195, R438, R439). -/
def metaWrites (op : Nat) : List Nat := match op with
  | 1 => [14] | 2 => [11] | 3 => [11] | 4 => [14] | 5 => [14, 18] | 6 => [12] | 7 => [13] | 9 => [20] | _ => []

/-- A list without its repeats. -/
def withoutRepeats (l : List Nat) : List Nat := l.foldl (fun a x => if a.contains x then a else a ++ [x]) []

/-- A pipeline nanoword is a defined encoding. -/
def pipeNanoOk (w : Nat) : Bool :=
  let alus := [bits w 511 443, bits w 442 374, bits w 373 305, bits w 304 236]
  let mv := bits w 235 214
  let md := bits w 213 178
  let moved := if bits mv 17 16 = 1 then List.range (bits mv 1 0 + 1) else []
  let op := bits md 31 28
  let srcs := alus.flatMap aluSources ++ (if metaUsesSrc op then [bits md 19 0] else [])
  let reads := ((srcs.filter (fun x => bits x 19 18 == 0)).map (fun x => bits x 17 11)) ++ moved.map (bits mv 15 9 + ·)
  let writes := ((alus.filter (fun x => bits x 68 63 != 0 && !bit x 18)).map (fun x => bits x 17 11)) ++ moved.map (bits mv 8 2 + ·)
    ++ metaWrites op
  bits w 177 0 == 0 && alus.zipIdx.all (fun p => aluOk p.2 p.1)
    && predOk 4 (bits mv 21 18) && bits mv 17 16 ≤ 1
    && (bits mv 17 16 == 0 || (bits mv 15 9 + bits mv 1 0 ≤ 127 && bits mv 8 2 + bits mv 1 0 ≤ 127))
    && predOk 4 (bits md 35 32) && op ≤ 9 && bits md 27 20 &&& metaArgMask op == bits md 27 20
    && (!metaUsesSrc op || sourceOk 4 (bits md 19 0))
    && (withoutRepeats reads).length ≤ 8 && (withoutRepeats writes).length ≤ 4

/-- A word of a pipeline store is a defined encoding. -/
def pipeWordOk (store w : Nat) : Bool := if store = 1 then bits w 3 0 == 0 else pipeNanoOk w

/-! ### The checks of a load (R447, R448) -/

/-- What a load is judged by: the life-cycle state and the keys of slots 2 and 3 (x, then y) as its LOAD found them (R448). -/
structure LoadTerms where
  lifecycle : Nat
  keys : List (Nat × Nat)
deriving DecidableEq, Repr

/-- The UCODE slots that are ENROLLED now, with their keys (R137). -/
def State.ucodeKeys (s : State) : List (Nat × Nat) :=
  ([2, 3].filter (fun k => s.reg (Reg.KEY_SLOT.STATE k) == 1)).map (fun k => (k, s.reg (Reg.KEY_SLOT.PUBLIC k)))

/-- The signature of a package verifies under a key. -/
def Pack.verifies (b : Bytes) (key : Nat) : Bool :=
  P384.verify (key / 2 ^ 384) (key % 2 ^ 384) (digest b) (sigR b) (sigS b)

/-- The outcome of step 5: the slot that verified the package, 0xFF for an unsigned one; none where it fails. -/
def Pack.judge (b : Bytes) (t : LoadTerms) : Option Nat :=
  if signed b then (t.keys.find? (fun k => verifies b k.2)).map (·.1)
  else if t.lifecycle = 0 then some 0xFF else none

/-- What the checks answer: a refusal with LAST_RESULT and LAST_DETAIL, or the slot that verified the package. -/
inductive LoadOutcome where
  | refused (code detail : Nat)
  | passed (slot : Nat)
deriving DecidableEq, Repr

/-- The bench of the targeted bays that is not IDLE, HALTED or FENCED, lowest first (R447). -/
def State.busyBench (s : State) (b : Bytes) : Option Nat :=
  ((Pack.bays b).flatMap (fun y => (List.range 8).map (8 * y + ·))).find? (fun n => !(([0, 3, 4] : List Nat).contains (s.reg (Reg.BENCH.STATE n))))

/-- Steps 1 to 6 of R447 for loader `l`. -/
def Pack.check (b : Bytes) (l : Nat) (t : LoadTerms) : LoadOutcome :=
  if b.length < 12 ∨ b.length ≠ len b then .refused 0x13 0
  else if headerOk b l = false then .refused 0x14 0xFFFF
  else
    match (List.range (sections b)).find? (fun i => !sectionOk b i) with
    | some i => .refused 0x14 i
    | none =>
      if t.lifecycle = 2 then .refused 0x23 0
      else if t.lifecycle = 3 then .refused 0x21 0
      else if sha384 (covered b) ≠ digest b then .refused 0x40 0
      else
        match judge b t with
        | none => .refused 0x40 1
        | some slot =>
          if l = 0 then
            match ((list b).flatMap (fun x => (words b x).map (fun w => (x.store, w)))).find? (fun x => !pipeWordOk x.1 x.2.2) with
            | some x => .refused 0x14 (x.2.1 + (if x.1 = 2 then 0x8000 else 0))
            | none => .passed slot
          else .passed slot

/-- Steps 1 to 7 of R447. -/
def State.checkPackage (s : State) (b : Bytes) (l : Nat) (t : LoadTerms) : LoadOutcome :=
  match Pack.check b l t with
  | .passed slot =>
    if l = 0 then .passed slot
    else match s.busyBench b with | some n => .refused 0x31 n | none => .passed slot
  | r => r

/-! ### Applying a package (R449 to R452) -/

/-- The words of a package go into the table of its store, at addresses from `base`. -/
def State.writeWords (s : State) (b : Bytes) (store t base : Nat) : State :=
  s.forAll (((Pack.list b).filter (fun x => x.store == store)).flatMap (Pack.words b)) (fun s w => s.setTab t (base + w.1) (w.2 + 1))

/-- The customer regions of the pipelines' stores take a package; every other word of them is UNLOADED, and none is lost. -/
def State.writePipeStores (s : State) (b : Bytes) : State :=
  let s := (s.clearTab Tab.pipeMicro).clearTab Tab.pipeNano
  let s := { s with tabs := s.tabs.filter (fun e => !(decide (tabKey Tab.ucodeLost 0 ≤ e.1 && e.1 < tabKey Tab.ucodeLost (2 ^ 23))
    && (let i := (e.1 - tabKey Tab.ucodeLost 0) % 2 ^ 16
        if bit i 15 then decide (0x400 ≤ i % 2 ^ 15) else decide (i < 0x3800)))) }
  (s.writeWords b 1 Tab.pipeMicro 0).writeWords b 2 Tab.pipeNano 0

/-- The customer regions of the stores of bay `y` take a package. -/
def State.writeBayStores (s : State) (b : Bytes) (y : Nat) : State :=
  let s := (s.clearTabRange Tab.bayMicro (y * 2 ^ 14) ((y + 1) * 2 ^ 14)).clearTabRange Tab.bayNano (y * 2 ^ 12) ((y + 1) * 2 ^ 12)
  let s := s.forAll (List.range 8) (fun s k => s.clearTabRange Tab.ucodeLost (lostBenchWord (8 * y + k) 0) (lostBenchWord (8 * y + k) 0x3800))
  let s := s.clearTabRange Tab.ucodeLost (lostBayWord y 0x400) (lostBayWord y 0x1000)
  (s.writeWords b 1 Tab.bayMicro (y * 2 ^ 14)).writeWords b 2 Tab.bayNano (y * 2 ^ 12)

/-- The stores take a package, and what is in effect is recorded (R451, R457, R458). -/
def State.installPackage (s : State) (b : Bytes) (l slot : Nat) : State :=
  if l = 0 then
    let s := (s.writePipeStores b).setTab Tab.reloadFailed 0 0
    ((s.setReg Reg.PIPE_UCODE.VERSION (Pack.version b)).setReg Reg.PIPE_UCODE.DIGEST (Pack.digest b)).setReg Reg.PIPE_UCODE.KEY_SLOT slot
  else
    s.forAll (Pack.bays b) (fun s y =>
      let s := (s.writeBayStores b y).setTab Tab.reloadFailed (1 + y) 0
      let s := (s.setReg (Reg.BAY_STORE.VERSION y) (Pack.version b)).setReg (Reg.BAY_STORE.DIGEST y) (Pack.digest b)
      (s.setReg (Reg.BAY_STORE.KEY_SLOT y) slot).setReg (Reg.BAY_STORE.LOADED_AT y) s.stamp)

/-- The elements of Tab.ucodeRecord that a package of loader `l` concerns. -/
def Pack.records (b : Bytes) (l : Nat) : List Nat := if l = 0 then [0] else (bays b).map (1 + ·)

/-- MICROCODE of DEGRADED_CAUSES follows (R563). -/
def State.refreshMicrocode (s : State) : State :=
  s.setCause 4 (!(s.tabList Tab.ucodeLost).isEmpty || !(s.tabList Tab.reloadFailed).isEmpty)

/-- The record `i` is in force from package slot `v - 1`, or, with 0, invalid; PERSISTED of a bay follows. -/
def State.setRecord (s : State) (i v : Nat) : State :=
  (s.setTab Tab.ucodeRecord i v).when (i != 0) (·.setReg (Reg.BAY_STORE.PERSISTED (i - 1)) (if v = 0 then 0 else 1))

/-- A verified package of loader `l` applies (R451, R452): the stores take it, LOADS and LOAD_DONE; it is persisted next, or, with
PERSIST false, the records of its targets are invalid. -/
def State.applyPackage (s : State) (l : Nat) : State :=
  let b := s.packageOf l
  let s := s.installPackage b l (s.loaderTab l 6)
  let s := (s.bump (loaderKey l LoaderSub.loads) 32).refreshMicrocode
  let s := s.loaderEvent l 0
  let s := s.forAll ((Pack.records b l).filter (0 < ·)) (fun s i => s.setReg (Reg.BAY_STORE.PERSISTED (i - 1)) 0)
  if s.reg (loaderKey l LoaderSub.persist) = 1 then s.setLoaderState l 5
  else (s.forAll (Pack.records b l) (fun s i => s.setRecord i 0)).discardPackage l

/-- A load fails (R447): LAST_RESULT and LAST_DETAIL, the package discarded, LOAD_FAILED; and SIGNATURE_FAILED after step 4 or 5. -/
def State.failPackage (s : State) (l code detail : Nat) : State :=
  let s := (s.setReg (loaderKey l LoaderSub.lastResult) code).setReg (loaderKey l LoaderSub.lastDetail) detail
  let s := (s.discardPackage l).loaderEvent l 1
  s.when (code == 0x40) (·.event Reg.SECURITY_EVENTS.FLAGS 7 0x1C87)

/-- At a bank switch a PENDING package joins, unless the switch had started before it was PENDING (R450). -/
def State.joinPending (s : State) : State :=
  if s.loaderState 0 ≠ 4 then s
  else if 0 < s.loaderTab 0 5 then s.setLoaderTab 0 5 (s.loaderTab 0 5 - 1)
  else s.applyPackage 0

/-- The lowest package slot of the flash that no record uses. -/
def State.freePackageSlot (s : State) : Nat :=
  ((List.range 62).find? (fun k => (s.tabList Tab.ucodeRecord).all (fun e => e.2 != k + 1))).getD 0

/-- PERSISTING ends (R452): the package has been written to flash and read back, and is the record of its targets. -/
def State.persistPackage (s : State) (l : Nat) : State :=
  let b := s.packageOf l
  let k := s.freePackageSlot
  let s := (s.zeroBytes (packageSlot k) (packageSlot (k + 1))).setBytes (packageSlot k) b
  (s.forAll (Pack.records b l) (fun s i => s.setRecord i (k + 1))).discardPackage l

end Sys2Proof.Machine
end

