-- ==== Sys2Proof/Machine/Banks.lean ====
section
/-!
DEFINITION. The two configuration banks of the pipeline (R190, R191, R197, R209, R210, R214, R215): pending writes of the
stage objects, the checks of a node and of an entry, and the bank switch.
-/
namespace Sys2Proof.Machine

/-! ### What a bank holds -/

/-- The register keys of the stage objects 0x2410 to 0x2425. -/
def isStageKey (k : Nat) : Bool := regKey 0x2410 0 ≤ k && k < regKey 0x2426 0

/-- The table keys of the parse graph, its written marks, the stage tables and the pipelines' microcode (R417). -/
def isBankTab (k : Nat) : Bool :=
  [Tab.win 0x2400, Tab.win 0x2401, Tab.nodeWritten, Tab.pipeMicro, Tab.pipeNano].contains (k / 2 ^ 40)

/-- The contents of the active bank. -/
def State.activeBank (s : State) : SMap Nat := s.regs.filter (fun e => isStageKey e.1) ++ s.tabs.filter (fun e => isBankTab e.1)

/-! ### Writes of a stage object (R215) -/

/-- The value that a stage register holds or has pending. -/
def State.stageValue (s : State) (k : Nat) : Nat :=
  match s.tab Tab.stagePending k with | 0 => s.reg k | v + 1 => v

/-- A selector has no reserved bit and lies within its word. -/
def selectorOk (v : Nat) : Bool :=
  bits v 31 23 == 0 && bits v 15 13 == 0 && bits v 7 6 == 0 && bits v 12 8 + bits v 5 0 ≤ 32

/-- The effect of a write to a sub-index of the stage object at `idx` (R215). -/
def stageObjectEffect (idx sub v : Nat) (s : State) : Res :=
  let width := ((List.range 4).map (fun i =>
    bits (if sub = i + 1 then v else s.stageValue (regKey idx (i + 1))) 5 0)).sum
  if sub ≤ 4 ∧ (selectorOk v = false ∨ 64 < width) then Res.fail s Code.range
  else Res.done ((s.setTab Tab.stagePending (regKey idx sub) (v + 1)).setReg Reg.PIPELINE_CONFIG.STAGES_PENDING 1)

/-! ### The checks of a commit (R191, R197) -/

/-- Node `n` is VALID with the staged elements in place. -/
def State.nodeValidAfter (s : State) (elems : SMap Nat) (n : Nat) : Bool :=
  match elems.find? (fun e => e.1 == n) with
  | some e => bit e.2 511
  | none => (s.parseNode n (fun _ => 0) 0).valid

/-- A VALID node that may be committed. -/
def State.nodeOk (s : State) (elems : SMap Nat) (v : Nat) : Bool :=
  let tc := bits v 504 501
  let extracts := (List.range 8).map (fun e => bits v (244 - 20 * e) (225 - 20 * e))
  let nexts := bits v 444 437 :: (List.range tc).map (fun t => bits v (420 - 24 * t) (413 - 24 * t))
  !bit v 511 ||
    (!bit v 500 && bits v 84 0 == 0 && tc ≤ 8
      && extracts.all (fun x => !bit x 19 || (24 ≤ bits x 8 2 && bits x 1 0 + bits x 10 9 ≤ 3))
      && nexts.all (fun n => n == 255 || s.nodeValidAfter elems n))

/-- An entry without a reserved bit set. -/
def stageEntryOk (v : Nat) : Bool := bits v 254 238 == 0 && bits v 191 128 == 0

/-- The staged elements of 0x2400 or 0x2401 may be committed. -/
def State.bankElemsOk (s : State) (window : Nat) (elems : SMap Nat) : Bool :=
  if window = 0x2400 then elems.all (fun e => s.nodeOk elems e.2) else elems.all (fun e => stageEntryOk e.2)

/-! ### The switch (R209 to R211) -/

/-- A bank switch: the active bank is copied, the staged elements of a window, every pending stage-object write and a PENDING
microcode package (R450) go into the copy, and the copy becomes the active bank; the bank used until now is the inactive one. -/
def State.switchBank (s : State) (window target : Nat) (elems : SMap Nat) : State :=
  let s := { s with inactive := s.activeBank }
  let s := s.forAll elems (fun s e =>
    (s.setTab (Tab.win window) (target * 2 ^ 24 + e.1) e.2).when (window == 0x2400 && decide (e.1 < 32))
      (·.setTab Tab.nodeWritten e.1 1))
  let s := s.forAll ((s.tabList Tab.stagePending).filter (fun e => isStageKey e.1)) (fun s e => s.setReg e.1 (e.2 - 1))
  let s := (s.clearTab Tab.stagePending).setReg Reg.PIPELINE_CONFIG.STAGES_PENDING 0
  let s := s.setReg Reg.PIPELINE_CONFIG.ACTIVE_BANK (1 - s.reg Reg.PIPELINE_CONFIG.ACTIVE_BANK)
  ((s.bump Reg.PIPELINE_CONFIG.BANK_SWITCHES 32).setReg Reg.PIPELINE_CONFIG.LAST_SWITCH s.stamp).joinPending

/-- The switches that APPLY_STAGES has requested, performed one at a time in order (R210). -/
def State.requestedSwitches (s : State) : State :=
  (s.forAll (List.range (s.tab Tab.bankRequests 0)) (fun s _ => s.switchBank 0 0 [])).setTab Tab.bankRequests 0 0

/-- The effect of a write of true to APPLY_STAGES: a switch is requested (R209). -/
def applyStagesEffect (v : Nat) (s : State) : Res :=
  if v = 0 then Res.done s else Res.done (s.setTab Tab.bankRequests 0 (s.tab Tab.bankRequests 0 + 1))

/-- APPLY_STAGES (R209). -/
def execApplyStages (w : SessionNo) (s : State) : Next := (s.hostWrite w 0x2000 0x04 1 (applyStagesEffect 1)).next

/-- BANK_SWITCH (R209, R210): the next requested switch occurs; a window's commit performs its own. -/
def execBankSwitch (s : State) : Next :=
  if s.tab Tab.bankRequests 0 = 0 ∨ s.coreOn = false then .next s
  else State.done ((s.setTab Tab.bankRequests 0 (s.tab Tab.bankRequests 0 - 1)).switchBank 0 0 [])

end Sys2Proof.Machine
end

