-- ==== Sys2Proof/Machine/Staging.lean ====
section
/-!
DEFINITION. Windows (R110 to R114): a session's range, the staging of a window, and the ends that a staging can come to. The
checks and the application of a commit are the owning chapters'.
-/
namespace Sys2Proof.Machine

/-! ### A session's range (R112) -/

def State.rangeTarget (s : State) (session idx : Nat) : Nat := s.tab Tab.winTarget (session * 65536 + idx)
def State.rangeBase (s : State) (session idx : Nat) : Nat := s.tab Tab.winBase (session * 65536 + idx)
def State.rangeCount (s : State) (session idx : Nat) : Nat := s.tab Tab.winCount (session * 65536 + idx)

/-- Every range of a session is 0 when it opens. -/
def State.clearRanges (s : State) (session : Nat) : State :=
  s.forAll [Tab.winTarget, Tab.winBase, Tab.winCount] (fun s t => s.clearTabRange t (session * 65536) ((session + 1) * 65536))

/-! ### The staging of a window -/

/-- The staging of the window at `idx`; none while it is IDLE. -/
def State.staging? (s : State) (idx : Nat) : Option Staging := s.stagings.find? (fun g => g.window == idx)

/-- The staging of its window replaced or added. -/
def State.putStaging (s : State) (g : Staging) : State :=
  { s with stagings := s.stagings.filter (fun h => h.window != g.window) ++ [g] }

/-- The window is IDLE again; its staging is gone. -/
def State.dropStaging (s : State) (idx : Nat) : State := { s with stagings := s.stagings.filter (fun h => h.window != idx) }

/-- Elements and own values staged: STAGED counts the elements (R110, R112). -/
def Staging.some (g : Staging) : Bool := !g.elems.isEmpty || !g.own.isEmpty

/-- A value staged for one of the window's own sub-indices, or its default (R112). -/
def Staging.ownValue (g : Staging) (k : Nat) : Nat := g.own.get Dict.dflt k

/-- The window at `idx` is part of the saved configuration (R110). -/
def windowPersists (idx : Nat) : Bool := match Dict.lookup idx with
  | none => false
  | some o => match o.win with | none => false | some w => w.persist

/-- A commit of the window at `idx` has been applied: COMMIT_EPOCH and CONFIG_GEN advance (R104, R112). -/
def State.commitApplied (s : State) (idx : Nat) : State :=
  (s.bump (regKey idx 0x0D) 32).when (windowPersists idx) State.configChanged

/-- Live element `e` of target `t` of the window at `idx` written. -/
def State.setElem (s : State) (idx t e v : Nat) : State := s.setTab (Tab.win idx) (t * 2 ^ 24 + e) v
/-- Live element `e` of target `t` of the window at `idx`. -/
def State.elem (s : State) (idx t e : Nat) : Nat := s.tab (Tab.win idx) (t * 2 ^ 24 + e)

/-- The staged elements of a plain window become live. -/
def State.applyElems (s : State) (idx t : Nat) (elems : SMap Nat) : State :=
  s.forAll elems (fun s e => s.setElem idx t e.1 e.2)

end Sys2Proof.Machine
end

