-- ==== Sys2Proof/Machine/Signal.lean ====
section
/-!
DEFINITION. The signal image (R357 to R371): slots and their attributes, the writes of ports A and B, Uttael signal frames,
extraction maps, staleness, forcing and snapshots.
-/
namespace Sys2Proof.Machine

/-! ### Slots (R357, R361) -/

/-- Field of `len` bytes at byte `off` of a slot, little-endian. -/
def leAt (v off len : Nat) : Nat := ofLE (toBE len (octetsAt 32 v off len))
/-- A slot with that field replaced. -/
def setLe (v off len x : Nat) : Nat := setOctets 32 v off len (ofBE (toLE len x))

/-- Slot `n`, byte 0 most significant. -/
def State.slot (s : State) (n : Nat) : Nat := s.elem 0x7010 0 n
def State.setSlot (s : State) (n v : Nat) : State := s.setElem 0x7010 0 n v
/-- Attribute element of slot `n` (R361). -/
def State.slotAttr (s : State) (n : Nat) : Nat := s.elem 0x7011 0 n

def slotValue (v : Nat) : Nat := leAt v 0 8
def slotQuality (v : Nat) : Nat := leAt v 20 2
def slotType (v : Nat) : Nat := leAt v 26 1
def slotFlags (v : Nat) : Nat := leAt v 27 1
def slotSeq (v : Nat) : Nat := leAt v 28 2
/-- A slot's timestamp in 2^-16 ns: seconds times 2^48, nanoseconds times 2^16, fraction. -/
def slotStamp (v : Nat) : Nat := leAt v 12 6 * 2 ^ 48 + leAt v 8 4 * 2 ^ 16 + leAt v 18 2
/-- A slot with that timestamp. -/
def setSlotStamp (v t : Nat) : Nat := setLe (setLe (setLe v 8 4 (bits t 47 16)) 12 6 (bits t 95 48)) 18 2 (bits t 15 0)

def attrType (a : Nat) : Nat := bits a 123 120
def attrForce (a : Nat) : Bool := bit a 119
def attrOrder (a : Nat) : Bool := bit a 118
def attrPort (a : Nat) : Nat := bits a 111 96
def attrStale (a : Nat) : Nat := bits a 95 64
def attrForceValue (a : Nat) : Nat := bits a 63 0

/-- The slot timestamp of an instant in 2^-48 ns. -/
def stampOf (t : Nat) : Nat := (t / nsUnit / 1000000000) * 2 ^ 48 + (t / nsUnit % 1000000000) * 2 ^ 16 + t % nsUnit / 2 ^ 32

/-- BOOL, I32, U32 and F32 are types of 32 bits. -/
def is32 (type : Nat) : Bool := type == 1 || type == 2 || type == 3 || type == 4

/-- A value as a slot of a type stores it: 32-bit types in 32 bits; a BOOL is 0 or 1, free where the value is neither. -/
def State.storedValue (s : State) (type v : Nat) : State × Nat :=
  if type = 1 then (if v ≤ 1 then (s, v) else (s.drew, s.freeBelow 2))
  else if is32 type then (s, v % 2 ^ 32)
  else (s, v % 2 ^ 64)

/-! ### Mirror marks (R341) -/

/-- The value in effect of a sub-index of mirror range `m`. -/
def State.mirrorValue (s : State) (m sub : Nat) : Nat :=
  match s.tab Tab.mirrorRange (16 * m + sub) with | 0 => Dict.dflt (regKey (0x6E10 + m) sub) | v + 1 => v

/-- The enabled ranges that a write of slot `n` marks; a handoff from the range's own PORT marks none. -/
def State.mirrorMask (s : State) (n : Nat) (port : Option Nat) : Nat :=
  ((List.range 16).filter (fun m => s.mirrorValue m 0x01 == 1 && s.mirrorValue m 0x02 ≤ n
    && decide (n < s.mirrorValue m 0x02 + s.mirrorValue m 0x03) && port != some (s.mirrorValue m 0x04))).foldl (fun a m => a + 2 ^ m) 0

/-- Slot `n` is marked dirty for its ranges. -/
def State.markDirty (s : State) (n : Nat) (port : Option Nat) : State :=
  let m := s.mirrorMask n port
  if m = 0 then s
  else (s.setTab Tab.mirrorDirty n (s.tab Tab.mirrorDirty n ||| m)).setSlot n (setLe (s.slot n) 27 1 (setBit (slotFlags (s.slot n)) 3 true))

/-! ### An accepted write (R358) -/

/-- The fields that a writer supplies. -/
structure SlotWrite where
  slot : Nat
  value : Nat
  quality : Nat
  srcSeq : Nat
  stamp : Nat
  producer : Nat
deriving DecidableEq, Repr

/-- A write that has been accepted; `port` the arrival port of a handoff. -/
def State.putSlot (s : State) (w : SlotWrite) (port : Option Nat) : State :=
  let type := attrType (s.slotAttr w.slot)
  let (s, value) := s.storedValue type w.value
  let v := s.slot w.slot
  let v := setSlotStamp (setLe v 0 8 value) w.stamp
  let v := setLe (setLe (setLe (setLe v 20 2 w.quality) 22 2 w.srcSeq) 24 2 w.producer) 26 1 type
  let v := setLe (setLe v 27 1 (setBit (slotFlags v) 2 false)) 28 2 ((slotSeq v + 1) % 65536)
  ((s.setSlot w.slot v).setTab Tab.slotWritten w.slot s.clock.island).markDirty w.slot port

/-! ### Port A (R359, R360) -/

/-- A port-A write: its record's TYPE, 0 for none, the attribute bit that it needs, and the core clock of its handoff in
which it is made. -/
structure PortAWrite where
  w : SlotWrite
  type : Nat
  need : Nat
  clock : Nat
deriving DecidableEq, Repr

/-- The checks of R359, and the write. -/
def State.writeA (s : State) (port : Nat) (x : PortAWrite) : State :=
  let a := s.slotAttr x.w.slot
  let type := attrType a
  if !bit a x.need || (attrPort a != 0xFFFF && attrPort a != port) || (x.type != 0 && type != 0 && x.type != type) then
    s.bump Reg.SIGNAL_CONTROL.RECORDS_REJECTED 64
  else if attrForce a then s.bump Reg.SIGNAL_CONTROL.FORCE_DISCARDS 64
  else if attrOrder a && decide (x.w.stamp < slotStamp (s.slot x.w.slot)) then s.bump Reg.SIGNAL_CONTROL.OUT_OF_ORDER 64
  else (s.putSlot x.w (some port)).bump Reg.SIGNAL_CONTROL.RECORDS_WRITTEN 64

/-! ### Port B (R359, R360) -/

/-- A port-B write to slot `n` is lost to a port-A write of the same core clock. -/
def State.loseWrite (s : State) (n : Nat) : State :=
  let s := s.setSlot n (setLe (s.slot n) 27 1 (setBit (slotFlags (s.slot n)) 0 true))
  let s := (s.bump Reg.SIGNAL_CONTROL.WRITE_LOST_COUNT 64).setReg Reg.SIGNAL_CONTROL.LAST_WRITE_LOST_SLOT n
  s.event Reg.SIGNAL_CONTROL.EVENTS 0 0x1A00

/-- A write by bench `b`: whether it was accepted or lost in its clock, and not discarded under R359. -/
def State.writeBench (s : State) (b : Nat) (n value quality srcSeq : Nat) (lost : Bool) : State × Bool :=
  let a := s.slotAttr n
  if !bit a 125 then (s.bump Reg.SIGNAL_CONTROL.RECORDS_REJECTED 64, false)
  else if attrForce a then (s.bump Reg.SIGNAL_CONTROL.FORCE_DISCARDS 64, false)
  else if lost then (s.loseWrite n, true)
  else (s.putSlot ⟨n, value, quality, srcSeq, stampOf s.clock.ptp, 0x8000 + b⟩ none, true)

/-- A host commit of 0x7010 is refused: a slot without the HOST bit, or forced. -/
def State.hostSlotsRefused (s : State) (elems : SMap Nat) : Bool :=
  elems.any (fun e => !bit (s.slotAttr e.1) 126 || attrForce (s.slotAttr e.1))

/-- The staged slots written at T; those in `lost` lose to port A. -/
def State.commitSlots (s : State) (elems : SMap Nat) (lost : List Nat) : State :=
  s.forAll elems (fun s e =>
    if lost.contains e.1 then s.loseWrite e.1
    else s.putSlot ⟨e.1, slotValue e.2, slotQuality e.2, leAt e.2 22 2, stampOf s.clock.ptp, 0xFFFE⟩ none)

/-- CLEAR_WRITE_LOST of slot `n` (R360): a loss in the same core clock leaves the flag set. -/
def State.clearLost (s : State) (n : Nat) (lost : Bool) : State :=
  let s := s.setSlot n (setLe (s.slot n) 27 1 (setBit (slotFlags (s.slot n)) 0 false))
  s.when lost (·.loseWrite n)

/-! ### Attributes and forcing (R361, R363) -/

/-- A staged attribute element is out of range. -/
def attrRange (a : Nat) : Bool := bits a 117 112 != 0 || 8 ≤ attrType a || 4000000000 < attrStale a

/-- Slot `n` takes its FORCE_VALUE at T. -/
def State.forceSlot (s : State) (n value : Nat) : State :=
  let (s, value) := s.storedValue (attrType (s.slotAttr n)) value
  let v := setSlotStamp (setLe (s.slot n) 0 8 value) (stampOf s.clock.ptp)
  let v := setLe (setLe v 24 2 0xFFFD) 27 1 (setBit (slotFlags v) 1 true)
  (s.setSlot n v).markDirty n none

/-- A staged attribute applied at T. -/
def State.commitAttr (s : State) (n a : Nat) : State :=
  let old := s.slotAttr n
  let s := s.setElem 0x7011 0 n a
  if attrForce a then
    (if !attrForce old || attrForceValue old != attrForceValue a then s.forceSlot n (attrForceValue a) else s)
  else if attrForce old then s.setSlot n (setLe (s.slot n) 27 1 (setBit (slotFlags (s.slot n)) 1 false))
  else s

/-! ### Uttael signal frames (R365 to R367) -/

/-- A record of a USF frame: the write it asks for, or none where a reserved bit of SLOT_WORD is set. -/
def usfRecord (full : Bool) (b : Bytes) (stamp producer clock : Nat) : Option PortAWrite :=
  let at' := fun (o n : Nat) => ofBE ((b.drop o).take n)
  let sw := at' 0 4
  if bits sw 31 28 != 0 || bits sw 23 17 != 0 then none
  else if full then
    some ⟨⟨bits sw 16 0, at' 4 8, at' 24 2, at' 26 2, at' 12 6 * 2 ^ 48 + at' 18 4 * 2 ^ 16 + at' 22 2, at' 28 2⟩,
      bits sw 27 24, 127, clock⟩
  else some ⟨⟨bits sw 16 0, at' 4 8, at' 12 2, at' 14 2, stamp, producer⟩, bits sw 27 24, 124, clock⟩

/-- The USF header is malformed (R367): `b` are the octets from the header to the last before the FCS. -/
def usfMalformed (b : Bytes) : Bool :=
  let kind := b.getD 0 0 % 16
  let size := if kind = 1 then 32 else 16
  b.length < 16 || b.getD 0 0 / 16 != 1 || 2 ≤ kind || b.getD 1 0 % 128 != 0 || 128 ≤ b.getD 2 0
    || ofBE ((b.drop 12).take 4) != 0 || b.length < 16 + octets16 b 6 * size

/-- What the engine does with a handoff before any slot is written: counts, and the writes in order. -/
structure Decoded where
  st : State
  writes : List PortAWrite

/-- A USF handoff. -/
def State.decodeUsf (s : State) (h : Handoff) : Decoded :=
  let b := h.octets.drop (h.usfAt - 1)
  if h.usfAt = 0 ∨ usfMalformed b = true then ⟨s.bump Reg.SIGNAL_CONTROL.MALFORMED_USF 64, []⟩
  else
    let full := b.getD 0 0 % 16 == 1
    let size := if full then 32 else 16
    let s := s.when (decide (128 ≤ b.getD 1 0)) (·.bump Reg.SIGNAL_CONTROL.CE_RECEIVED 64)
    let recs := (List.range (octets16 b 6)).map (fun k =>
      usfRecord full ((b.drop (16 + k * size)).take size) (stampOf h.ts) (octets16 b 2) (k / 4))
    ⟨s.bump Reg.SIGNAL_CONTROL.RECORDS_REJECTED 64 (recs.filter (·.isNone)).length, recs.filterMap id⟩

/-! ### Extraction maps (R368 to R370) -/

def State.mapElem (s : State) (m : Nat) : Nat := s.elem 0x7020 0 m
def State.entryElem (s : State) (e : Nat) : Nat := s.elem 0x7021 0 e

/-- Octets of an entry's field. -/
def entrySize (e : Nat) : Nat := 2 ^ bits e 96 95

/-- The number that an entry takes from a frame: an integer, or a binary64 encoding (R370). -/
inductive Extracted where
  | int (i : Int)
  | real (f : Nat)
deriving DecidableEq, Repr

/-- The field of an entry. -/
def extractField (e : Nat) (b : Bytes) : Extracted :=
  let size := entrySize e
  let field := (b.drop (bits e 110 97)).take size
  let raw := if bit e 94 then ofBE field else ofLE field
  let width := bits e 85 80
  let raw := if width = 0 then raw else (raw >>> bits e 91 86) % 2 ^ width
  match bits e 93 92 with
  | 1 => .int (toInt (if width = 0 then 8 * size else width) raw)
  | 2 => .real (if size = 4 then f32.convert f64 raw else raw)
  | _ => .int raw

/-- SCALE and OFFSET applied where SCALE_EN is set. -/
def scaled (e : Nat) (x : Extracted) : Extracted :=
  if bit e 79 then
    let v := match x with | .int i => f64.ofInteger i | .real f => f
    .real (f64.add (f64.mul v (f32.convert f64 (bits e 63 32))) (f32.convert f64 (bits e 31 0)))
  else x

/-- The value stored for a slot type (R370). -/
def typedValue (type : Nat) (x : Extracted) : Nat :=
  let asInt := fun (lo hi : Int) => match x with | .int i => max lo (min hi i) | .real f => f64.toInteger lo hi f
  match type with
  | 1 => match x with | .int i => ofBool (i != 0) | .real f => ofBool (f64.nonzero f && !f64.isNan f)
  | 2 => ofInt 32 (asInt (-(2 ^ 31)) (2 ^ 31 - 1))
  | 3 => ofInt 32 (asInt 0 (2 ^ 32 - 1))
  | 4 => match x with | .int i => f32.ofInteger i | .real f => f64.convert f32 f
  | 5 => ofInt 64 (asInt (-(2 ^ 63)) (2 ^ 63 - 1))
  | 6 => ofInt 64 (asInt 0 (2 ^ 64 - 1))
  | 7 => match x with | .int i => f64.ofInteger i | .real f => f
  | _ => match x with | .int i => ofInt 64 i | .real f => f

/-- A handoff under an extraction map (R369). -/
def State.decodeMap (s : State) (h : Handoff) : Decoded :=
  let m := s.mapElem h.map
  if !bit m 127 then ⟨s, []⟩
  else if h.octets.length + 4 < bits m 64 51 then ⟨s.bump Reg.SIGNAL_CONTROL.SHORT_ENTRIES 64, []⟩
  else
    let es := (List.range (bits m 109 99)).map (fun k => (k, s.entryElem (bits m 125 110 + k)))
    let fits := fun (e : Nat) => bits e 110 97 + entrySize e ≤ h.octets.length
    let ws := (es.filter (fun e => fits e.2)).map (fun e =>
      ({ w := ⟨bits e.2 127 111, typedValue (attrType (s.slotAttr (bits e.2 127 111))) (scaled e.2 (extractField e.2 h.octets)),
               bits m 80 65, 0, stampOf h.ts, bits m 96 81⟩, type := 0, need := 124, clock := e.1 / 4 } : PortAWrite))
    ⟨s.bump Reg.SIGNAL_CONTROL.SHORT_ENTRIES 64 (es.filter (fun e => !fits e.2)).length, ws⟩

/-- A handoff decoded. -/
def State.decodeHandoff (s : State) (h : Handoff) : Decoded := if h.usf then s.decodeUsf h else s.decodeMap h

/-! ### The commits of this chapter (R361, R368, R376) -/

/-- A finite binary32. -/
def finite32 (v : Nat) : Bool := bits v 30 23 != 255

/-- A staged extraction map, or entry, is out of range (R368). -/
def mapRange (v : Nat) : Bool :=
  bit v 126 || bits v 98 97 != 0 || bits v 46 0 != 0 || bit v 96
    || (bit v 127 && (65536 < bits v 125 110 + bits v 109 99 || bits v 109 99 == 0 || 1024 < bits v 109 99 || bits v 64 51 < 64))
def entryRange (v : Nat) : Bool :=
  bits v 78 64 != 0 || bits v 93 92 == 3 || (bits v 93 92 == 2 && (bits v 96 95 < 2 || bits v 85 80 != 0))
    || 8 * entrySize v < bits v 91 86 + bits v 85 80 || 10239 < bits v 110 97 || !finite32 (bits v 63 32) || !finite32 (bits v 31 0)

/-! ### The commands -/

/-- The oldest handoff of a pipeline taken from its queue. -/
def State.takeHandoff (s : State) (pipe : Nat) : State × Option Handoff :=
  match s.handoffs.find? (·.pipe == pipe) with
  | none => (s, none)
  | some h => ({ s with handoffs := s.handoffs.erase h }, some h)

/-- `x` from pipeline `p` is not kept against `y` from pipeline `o` (R360): the same slot and core clock, and `y` has a later
timestamp, or an equal one and the higher pipeline. -/
def supersededBy (p o : Nat) (x y : PortAWrite) : Bool :=
  x.w.slot == y.w.slot && x.clock == y.clock && (x.w.stamp < y.w.stamp || (x.w.stamp == y.w.stamp && decide (p < o)))

/-- The oldest handoffs of pipelines that are written beside one another. -/
def State.takeHandoffs (s : State) : List Nat → State × List Handoff
  | [] => (s, [])
  | p :: t =>
    let (s, h) := s.takeHandoff p
    let (s, l) := s.takeHandoffs t
    (s, h.toList ++ l)

/-- Handoffs decoded one after another, each write with the handoff that makes it. -/
def State.decodeHandoffs (s : State) : List Handoff → State × List (Handoff × PortAWrite)
  | [] => (s, [])
  | h :: t =>
    let d := s.decodeHandoff h
    let (s, l) := d.st.decodeHandoffs t
    (s, d.writes.map (fun x => (h, x)) ++ l)

/-- A write that another handoff's supersedes (R360). -/
def superseded (all : List (Handoff × PortAWrite)) (x : Handoff × PortAWrite) : Bool :=
  all.any (fun y => y.1.pipe != x.1.pipe && supersededBy x.1.pipe y.1.pipe x.2 y.2)

/-- Writes of port A in order of the core clock that stores them; writes of one clock keep their order. -/
def insertClock (x : Handoff × PortAWrite) : List (Handoff × PortAWrite) → List (Handoff × PortAWrite)
  | [] => [x]
  | y :: t => if x.2.clock < y.2.clock then x :: y :: t else y :: insertClock x t
def byClock (l : List (Handoff × PortAWrite)) : List (Handoff × PortAWrite) := l.foldl (fun acc x => insertClock x acc) []

/-- SIGNAL_ENGINE_WRITE (R359, R360, R367 to R371): the oldest handoff of a pipeline, alone or beside those of other pipelines, four
records or entries a core clock. -/
def execSignalEngineWrite (pipe : Fin 64) (others : List (Fin 64)) (s : State) : Next :=
  let pipes := ((others.map (·.val)).eraseDups).filter (· != pipe.val)
  match s.takeHandoff pipe with
  | (s, none) => .next s
  | (s, some h) =>
    let (s, hs) := s.takeHandoffs pipes
    let (s, all) := s.decodeHandoffs (h :: hs)
    let keep := all.filter (fun x => !superseded all x)
    let s := s.bump Reg.SIGNAL_CONTROL.SUPERSEDED 64 (all.length - keep.length)
    State.done (s.forAll (byClock keep) (fun s x => s.writeA x.1.srcPort x.2))

/-- Slot `n` has accepted no write for STALE_US of island time. -/
def State.staleNow (s : State) (n a : Nat) : Bool :=
  attrStale a != 0 && !attrForce a && decide (attrStale a * 1000 * 2 ≤ (s.clock.island - s.tab Tab.slotWritten n) * 5)
    && !bit (slotFlags (s.slot n)) 2

/-- STALE_CHECK (R362). -/
def execStaleCheck (s : State) : Next :=
  if !s.coreOn then .next s
  else State.done (s.forAll (s.tabList (Tab.win 0x7011)) (fun s e =>
    if s.staleNow e.1 e.2 then
      ((s.setSlot e.1 (setLe (s.slot e.1) 27 1 (setBit (slotFlags (s.slot e.1)) 2 true))).bump
        Reg.SIGNAL_CONTROL.STALE_TRANSITIONS 64).event Reg.SIGNAL_CONTROL.EVENTS 1 0x1A00
    else s))

/-- The effect of a write to CLEAR_WRITE_LOST (R360, R381). -/
def clearLostEffect (n : Nat) (lost : Bool) (s : State) : Res :=
  if 131071 < n then Res.fail s Code.range else Res.done (s.clearLost n lost)

/-- CLEAR_WRITE_LOST (R360). -/
def execClearWriteLost (w : SessionNo) (slot : Nat) (lost : Bool) (s : State) : Next :=
  (s.hostWrite w 0x7000 0x08 slot (clearLostEffect slot lost)).next

/-- A session's signal latch is gone (R380). -/
def State.dropLatch (s : State) (session : Nat) : State :=
  (s.setTab Tab.signalLatched session 0).clearTabRange Tab.signalLatch (session * 2 ^ 17) ((session + 1) * 2 ^ 17)

/-- The effect of a write to SNAPSHOT of 0x7010 (R380): the writing session's range is latched. -/
def signalSnapshotEffect (session v : Nat) (s : State) : Res :=
  let s := s.dropLatch session
  if v = 0 then Res.done s
  else
    let base := s.rangeBase session 0x7010
    let l := (List.range (s.rangeCount session 0x7010)).map (base + ·)
    Res.done ((s.forAll l (fun s n => s.setTab Tab.signalLatch (session * 2 ^ 17 + n) (s.slot n))).setTab Tab.signalLatched session 1)

/-- SIGNAL_SNAPSHOT (R380). -/
def execSignalSnapshot (w : SessionNo) (s : State) : Next :=
  (s.hostWrite w 0x7010 0x20 1 (signalSnapshotEffect w 1)).next

end Sys2Proof.Machine
end

