-- ==== Sys2Proof/Machine/Cycles.lean ====
section
/-!
DEFINITION. Cycle groups, publication lists and signal-image mirroring (R341, R372 to R379).
-/
namespace Sys2Proof.Machine

/-! ### Timing of a group (R372, R373) -/

def State.groupBase (s : State) (g : Nat) : Nat := s.tab Tab.cycBase g
def State.groupPeriod (s : State) (g : Nat) : Nat := s.tab Tab.cycPeriod g
def State.groupTrigger (s : State) (g : Nat) : Nat := s.tab Tab.cycTrigger g

/-- 2^-48 ns in a 1.25 ns tick. -/
abbrev tickUnit : Nat := 5 * 2 ^ 46

/-- The first instant base + k × period at or after `t` ns, for an integer k. -/
def firstStart (base period t : Nat) : Nat := t + (((base : Int) - t) % (period : Int)).toNat

/-- Next cycle start of a group that runs, in ns; with a scheduled timing, no later than its S. -/
def State.nextStart (s : State) (g : Nat) : Option Nat :=
  match s.tab Tab.cycNext g with
  | 0 => none
  | n + 1 => match s.tab Tab.cycSwitch g with | 0 => some n | k + 1 => some (min n k)

/-- NEXT_START follows. -/
def State.showNext (s : State) (g : Nat) : State :=
  s.setReg (Reg.CYCLE_GROUP.NEXT_START g) (match s.nextStart g with | none => 0 | some n => time80 n)

/-- TIMING_PENDING follows: writes await APPLY_TIMING, or a timing awaits S. -/
def State.showPending (s : State) (g : Nat) : State :=
  s.setReg (Reg.CYCLE_GROUP.TIMING_PENDING g) (ofBool (s.tab Tab.cycWritten g != 0 || s.tab Tab.cycSwitch g != 0))

/-- The scheduled timing of a group takes effect. -/
def State.adoptTiming (s : State) (g : Nat) : State :=
  let s := (s.setTab Tab.cycBase g (s.tab Tab.cycPending (4 * g))).setTab Tab.cycPeriod g (s.tab Tab.cycPending (4 * g + 1))
  let s := (s.setTab Tab.cycTrigger g (s.tab Tab.cycPending (4 * g + 2))).setTab Tab.cycSwitch g 0
  s.showPending g

/-- What marks a list as run: its group and the cycle. -/
def State.runMark (s : State) (g : Nat) : Nat := (s.reg (Reg.CYCLE_GROUP.CYCLE_NUMBER g) + 1) * 64 + g

/-- No list of group `g` has run. -/
def State.forgetRuns (s : State) (g : Nat) : State :=
  s.forAll ((s.tabList Tab.listRan).filter (fun e => e.2 % 64 == g)) (fun s e => s.setTab Tab.listRan e.1 0)

/-- ENABLE of a group written (R373): it starts at its first cycle start at or after 100 µs from now. -/
def enableGroupEffect (g v : Nat) (s : State) : Res :=
  if v = s.reg (Reg.CYCLE_GROUP.ENABLE g) then Res.done s
  else
    let s := s.setReg (Reg.CYCLE_GROUP.ENABLE g) v
    if v = 1 then
      let s := s.setReg (Reg.CYCLE_GROUP.CYCLE_NUMBER g) 0
      let s := ((s.setTab Tab.cycTriggered g 0).setTab Tab.cycStart g 0).forgetRuns g
      let s := s.setTab Tab.cycNext g (firstStart (s.groupBase g) (s.groupPeriod g) (nsCeil s.clock.ptp + 100000) + 1)
      Res.done (s.showNext g)
    else Res.done (((s.setTab Tab.cycNext g 0).setTab Tab.cycStart g 0).showNext g)

/-- A write of BASE_TIME, PERIOD_NS or TRIGGER_OFFSET (R373). -/
def groupTimingEffect (g sub v : Nat) (s : State) : Res :=
  Res.done (((s.setReg (regKey (0x7100 + g) sub) v).setTab Tab.cycWritten g 1).showPending g)

/-- GROUP, OFFSET and VALID of a list. -/
def listValid (v : Nat) : Bool := bit v 255
def listGroup (v : Nat) : Nat := bits v 251 246
def listOffset (v : Nat) : Nat := bits v 239 210

/-- VALID lists of a group: number and element. -/
def State.listsOf (s : State) (g : Nat) : List (Nat × Nat) :=
  (s.tabList (Tab.win 0x7030)).filter (fun e => listValid e.2 && listGroup e.2 == g)

/-- The effect of a write of true to APPLY_TIMING (R373). -/
def applyTimingEffect (g v : Nat) (s : State) : Res :=
  let period := s.reg (Reg.CYCLE_GROUP.PERIOD_NS g)
  let trig := s.reg (Reg.CYCLE_GROUP.TRIGGER_OFFSET g)
  if v = 0 then Res.done s
  else if period * 4 ≤ trig * 5 ∨ (s.listsOf g).any (fun e => period * 4 ≤ listOffset e.2 * 5) = true then Res.fail s Code.range
  else
    let base := time80Ns (s.reg (Reg.CYCLE_GROUP.BASE_TIME g))
    let from' := max (match s.tab Tab.cycNext g with | 0 => 0 | n + 1 => n) (nsCeil s.clock.ptp + 100000)
    let s := (s.setTab Tab.cycPending (4 * g) base).setTab Tab.cycPending (4 * g + 1) period
    let s := (s.setTab Tab.cycPending (4 * g + 2) trig).setTab Tab.cycSwitch g (firstStart base period from' + 1)
    Res.done (((s.setTab Tab.cycWritten g 0).showPending g).showNext g)

/-- CYCLE_GROUP_ENABLE (R373). -/
def execCycleGroupEnable (w : SessionNo) (g : GroupNo) (s : State) : Next :=
  (s.hostWrite w (0x7100 + g) 0x01 1 (enableGroupEffect g 1)).next

/-- APPLY_TIMING (R373). -/
def execApplyTiming (w : SessionNo) (g : GroupNo) (s : State) : Next :=
  (s.hostWrite w (0x7100 + g) 0x05 1 (applyTimingEffect g 1)).next

/-- The cycle start at `n` ns runs: CYCLE_NUMBER advances and the next start follows. -/
def State.runCycle (s : State) (g n : Nat) : State :=
  let s := s.when (s.tab Tab.cycSwitch g != 0 && decide (s.tab Tab.cycSwitch g ≤ n + 1)) (·.adoptTiming g)
  let s := s.bump (Reg.CYCLE_GROUP.CYCLE_NUMBER g) 64
  ((s.setTab Tab.cycStart g (n + 1)).setTab Tab.cycNext g (n + s.groupPeriod g + 1)).showNext g

/-! ### A step of time (R374) -/

/-- Instants base + k × period from `a` up to, not including, `b`, where `a` is one of them. -/
def startsBetween (a b period : Nat) : Nat := if b ≤ a then 0 else ceilDiv (b - a) period

/-- The instants of the cycle in progress that a forward step passes over are not run any more: `old` and `new` in 2^-48
ns. -/
def State.passOver (s : State) (g old new : Nat) : State :=
  match s.tab Tab.cycStart g with
  | 0 => s
  | c + 1 =>
    let c := c * nsUnit
    let passed := fun (off : Nat) => decide (old < c + off * tickUnit) && decide (c + off * tickUnit < new)
    let s := s.when (passed (s.groupTrigger g)) (·.setTab Tab.cycTriggered g (s.reg (Reg.CYCLE_GROUP.CYCLE_NUMBER g) + 1))
    s.forAll ((s.listsOf g).filter (fun e => passed (listOffset e.2))) (fun s e => s.setTab Tab.listRan e.1 (s.runMark g))

/-- The starts of group `g` before `t` ns that it has not run are passed over: how many, and the group with its next start at or after
`t`. -/
def State.skipStarts (s : State) (g t : Nat) : State × Nat :=
  match s.nextStart g with
  | none => (s, 0)
  | some n =>
    if t ≤ n then (s, 0)
    else
      let k := s.tab Tab.cycSwitch g
      let switched := k != 0 && decide (k - 1 < t)
      let early := if switched then startsBetween n (k - 1) (s.groupPeriod g) else startsBetween n t (s.groupPeriod g)
      let late := if switched then startsBetween (k - 1) t (s.tab Tab.cycPending (4 * g + 1)) else 0
      let s := s.when switched (·.adoptTiming g)
      let s := s.bump (Reg.CYCLE_GROUP.CYCLES_SKIPPED g) 64 (early + late)
      ((s.setTab Tab.cycNext g (firstStart (s.groupBase g) (s.groupPeriod g) t + 1)).showNext g, early + late)

/-- A forward step to `new` for group `g`: starts passed over are counted, one flag for the step. -/
def State.stepForward (s : State) (g old new : Nat) : State :=
  let (s, skipped) := (s.passOver g old new).skipStarts g (nsCeil new)
  s.when (skipped != 0) (·.event (Reg.CYCLE_GROUP.EVENTS g) 0 (0x1A40 + g))

/-- Cycle groups stop acting: what is left of the cycle in progress does not run (R554). -/
def State.stopGroups (s : State) : State := s.forAll (List.range 64) (fun s g => s.setTab Tab.cycStart g 0)

/-- Cycle groups resume at their first cycle start from now, the starts passed counted (R554). -/
def State.resumeGroups (s : State) : State := s.forAll (List.range 64) (fun s g => (s.skipStarts g (nsCeil s.clock.ptp)).1)

/-- A backward step to `new` for group `g`: the first start at or after it and later than the last one run. -/
def State.stepBack (s : State) (g new : Nat) : State :=
  if s.tab Tab.cycNext g = 0 then s
  else
    let from' := max (nsCeil new) (s.tab Tab.cycStart g)
    (s.setTab Tab.cycNext g (firstStart (s.groupBase g) (s.groupPeriod g) from' + 1)).showNext g

/-- Every group follows a step of time from `old` to `new`. -/
def State.stepGroups (s : State) (old new : Nat) : State :=
  s.forAll (List.range 64) (fun s g => if old ≤ new then s.stepForward g old new else s.stepBack g new)

/-! ### Building USF frames (R341, R365, R366, R377) -/

/-- A USF header (R365). -/
def usfHeader (ver : Nat) (flags producer seq count cycle : Nat) (tail : Bytes) : Bytes :=
  [ver, flags] ++ toBE 2 producer ++ toBE 2 seq ++ toBE 2 count ++ toBE 4 cycle ++ tail

/-- A FULL record of slot value `v` sent as slot `wire`. -/
def fullRecord (v wire : Nat) : Bytes :=
  toBE 4 (slotType v % 16 * 2 ^ 24 + wire) ++ toBE 8 (slotValue v) ++ toBE 6 (leAt v 12 6) ++ toBE 4 (leAt v 8 4) ++ toBE 2 (leAt v 18 2)
    ++ toBE 2 (slotQuality v) ++ toBE 2 (leAt v 22 2) ++ toBE 2 (leAt v 24 2) ++ [slotType v, 0]

/-- A COMPACT record: the slot's SEQ, and GOOD lowered to UNCERTAIN for a stale slot. -/
def compactRecord (v wire : Nat) : Bytes :=
  let q := slotQuality v
  let q := if bit (slotFlags v) 2 ∧ bits q 15 14 = 3 then setBits q 15 14 1 else q
  toBE 4 (slotType v % 16 * 2 ^ 24 + wire) ++ toBE 8 (slotValue v) ++ toBE 2 q ++ toBE 2 (slotSeq v)

/-! ### Publication lists (R375 to R379) -/

def State.listElem (s : State) (l : Nat) : Nat := s.elem 0x7030 0 l
def listFormat (v : Nat) : Nat := bits v 254 252
def listPart (v : Nat) : Nat := bits v 245 242
def listTemplateLen (v : Nat) : Nat := bits v 207 200
def listL3 (v : Nat) : Nat := bits v 199 192
def listPort (v : Nat) : Nat := bits v 191 176
def listFirst (v : Nat) : Nat := bits v 175 158
def listCount (v : Nat) : Nat := bits v 157 147
def listRawLen (v : Nat) : Nat := bits v 146 133
def listProducer (v : Nat) : Nat := bits v 127 112

/-- Slot and WIRE of the entries of a list. -/
def State.listEntries (s : State) (v : Nat) : List (Nat × Nat) :=
  (List.range (listCount v)).map (fun k => let e := s.elem 0x7032 0 (listFirst v + k); (bits e 63 47, bits e 46 30))

/-- The built length, FCS included (R376). -/
def builtLen (v : Nat) : Nat :=
  if listFormat v = 2 then listRawLen v
  else max 64 (listTemplateLen v + listCount v * (if listFormat v = 1 then 32 else 16) + 4)

/-- A staged VALID list is out of range (R376). -/
def State.listRange (s : State) (v : Nat) : Bool :=
  bits v 241 240 != 0 || bits v 209 208 != 0 || bits v 132 128 != 0 || bits v 111 0 != 0 || 2 < listFormat v
    || listPort v < 514 || 641 < listPort v || 262144 < listFirst v + listCount v || listCount v == 0 || 1024 < listCount v
    || listTemplateLen v < 14 || 128 < listTemplateLen v || (listFormat v != 2 && decide (listTemplateLen v < 30))
    || (listL3 v != 0 && decide (listTemplateLen v ≤ listL3 v)) || 10240 < builtLen v || (listFormat v == 2 && decide (listRawLen v < 64))
    || 0x8000 ≤ listProducer v
    || (listFormat v == 2 && (s.listEntries v).any (fun e => decide (listRawLen v < 4 + bits e.2 16 3 + 2 ^ bits e.2 2 1)))
    || s.groupPeriod (listGroup v) * 4 ≤ listOffset v * 5 || s.maxFrame (listPort v) < builtLen v

/-- Lengths and checksums of an IP header at `l3` and of a UDP header that follows it (R377); `b` is not yet padded. -/
def ipCarriage (l3 : Nat) (b : Bytes) : Bytes :=
  let n := b.length
  if l3 = 0 then b
  else if b.getD l3 0 / 16 = 4 then
    let ihl := b.getD l3 0 % 16 * 4
    let b := patch b (l3 + 2) (toBE 2 (n - l3))
    let b := patch b (l3 + 10) (toBE 2 (ipv4Checksum b l3 ihl))
    if b.getD (l3 + 9) 0 = 17 then patch (patch b (l3 + ihl + 4) (toBE 2 (n - l3 - ihl))) (l3 + ihl + 6) [0, 0] else b
  else if b.getD l3 0 / 16 = 6 then
    let b := patch b (l3 + 4) (toBE 2 (n - l3 - 40))
    if b.getD (l3 + 6) 0 = 17 then
      let b := patch (patch b (l3 + 44) (toBE 2 (n - l3 - 40))) (l3 + 46) [0, 0]
      let words := (List.range 16).map (fun i => l3 + 8 + 2 * i) ++ (List.range ((n - l3 - 39) / 2)).map (fun i => l3 + 40 + 2 * i)
      let sum := words.foldl (fun a i => onesAdd a (octets16 b i)) (onesAdd (n - l3 - 40) 17)
      patch b (l3 + 46) (toBE 2 (if sum = 0xFFFF then 0xFFFF else 0xFFFF - sum))
    else b
  else b

/-- The octets that list `l` builds now, FCS excluded (R377). -/
def State.buildList (s : State) (l v : Nat) : Bytes :=
  let t := (toBE 128 (s.elem 0x7031 0 l)).take (listTemplateLen v)
  let es := s.listEntries v
  if listFormat v = 2 then
    let b := t ++ List.replicate (listRawLen v - 4 - t.length) 0
    let b := es.foldl (fun b e =>
      let size := 2 ^ bits e.2 2 1
      let low := slotValue (s.slot e.1) % 2 ^ (8 * size)
      patch b (bits e.2 16 3) (if bit e.2 0 then toBE size low else toLE size low)) (b.take (listRawLen v - 4))
    ipCarriage (listL3 v) b
  else
    let full := listFormat v == 1
    let h := t.drop (listTemplateLen v - 16)
    let hdr := usfHeader (h.getD 0 0 / 16 * 16 + ofBool full) (h.getD 1 0 % 128) (listProducer v) (s.tab Tab.listSeq l) (listCount v)
      (s.reg (Reg.CYCLE_GROUP.CYCLE_NUMBER (listGroup v)) % 2 ^ 32) (h.drop 12)
    let recs := es.flatMap (fun e => if full then fullRecord (s.slot e.1) e.2 else compactRecord (s.slot e.1) e.2)
    let b := ipCarriage (listL3 v) (t.take (listTemplateLen v - 16) ++ hdr ++ recs)
    b ++ List.replicate (60 - b.length) 0

/-- The queue of built frames of an inject port is full (R379). -/
def State.injectFull (s : State) (p : Nat) : Bool := 64 ≤ (s.built.filter (fun b => b.port == p && (b.kind == 1 || b.kind == 2))).length

/-- A count of list `l` in its state element goes up (R380): PUBLISHED at 224, OVERRUNS at 192, SUPPRESSED at 160. -/
def State.listCountUp (s : State) (l lsb : Nat) : State :=
  let v := s.elem 0x7033 0 l
  s.setElem 0x7033 0 l (setBits v (lsb + 31) lsb (bits v (lsb + 31) lsb + 1))

/-- ACTIVE of the dovetail (R340). -/
def State.dovetailActive (s : State) : Bool := s.reg Reg.DOVETAIL.ACTIVE == 1

/-- List `l` runs at its instant (R375, R377 to R379). -/
def State.runList (s : State) (l v : Nat) : State :=
  let g := listGroup v
  let s := s.setTab Tab.listRan l (s.runMark g)
  if 1 ≤ s.reg (Reg.CYCLE_GROUP.DOVETAIL g) ∧ s.dovetailActive = false then s.listCountUp l 160
  else if s.injectFull (listPort v) then
    (s.listCountUp l 192).event (Reg.CYCLE_GROUP.EVENTS g) 1 (0x1A40 + g)
  else
    let b := s.buildList l v
    let s := s.setElem 0x7033 0 l (setBits (s.elem 0x7033 0 l) 159 80 (time80 s.ptpNs))
    let s := s.setTab Tab.listSeq l ((s.tab Tab.listSeq l + 1) % 65536)
    { s with built := s.built ++ [{ port := listPort v, part := listPart v, kind := 1, num := l, octets := b, mirror := none }] }

/-- An offset in ticks of the cycle in progress of group `g` has been reached. -/
def State.offsetReached (s : State) (g off : Nat) : Bool :=
  match s.tab Tab.cycStart g with | 0 => false | c + 1 => c * nsUnit + off * tickUnit ≤ s.clock.ptp

/-- The instant of list `l` in the cycle in progress of its group has been reached, and the list has not run in it. -/
def State.listDue (s : State) (l v : Nat) : Bool :=
  listValid v && s.reg (Reg.CYCLE_GROUP.ENABLE (listGroup v)) == 1 && s.offsetReached (listGroup v) (listOffset v)
    && s.tab Tab.listRan l != s.runMark (listGroup v)

/-- Cycle groups act: the core runs, and is in no warm reset (R554). -/
def State.groupsAct (s : State) : Bool := s.coreOn && s.mode != 4

/-- PUBLICATION_RUN (R378): once in the cycle in progress of its group. DEDUCED (log entry 71): a list that is committed after its
instant in that cycle has passed runs in it at once (R378, R591). -/
def execPublicationRun (l : Fin 4096) (s : State) : Next :=
  let v := s.listElem l
  if s.groupsAct && s.listDue l v then State.done (s.runList l v) else .next s

/-! ### Mirroring (R341) -/

/-- Slot `n` lies in the range that `m` has in effect. -/
def State.inMirror (s : State) (m n : Nat) : Bool :=
  decide (s.mirrorValue m 0x02 ≤ n) && decide (n < s.mirrorValue m 0x02 + s.mirrorValue m 0x03)

/-- The slots marked dirty for range `m`, rising. -/
def State.dirtySlots (s : State) (m : Nat) : List Nat :=
  ((s.tabList Tab.mirrorDirty).filter (fun e => bit e.2 m)).map (·.1)

/-- The mark of slot `n` for range `m` is cleared as the slot is read. -/
def State.unmark (s : State) (m n : Nat) : State :=
  let k := setBit (s.tab Tab.mirrorDirty n) m false
  let s := s.setTab Tab.mirrorDirty n k
  s.when (k == 0) (fun s => s.setSlot n (setLe (s.slot n) 27 1 (setBit (slotFlags (s.slot n)) 3 false)))

/-- A mirror frame of range `m` with the given slots. -/
def State.mirrorFrame (s : State) (m : Nat) (slots : List Nat) : Bytes :=
  let mac := toBE 6 (s.reg Reg.IDENTITY.BASE_MAC)
  let b := mac ++ mac ++ toBE 2 0x88B6
    ++ usfHeader 0x11 0 (s.mirrorValue m 0x0B) (s.tab Tab.mirrorSeq m) slots.length 0 [0, 0, 0, 0]
    ++ slots.flatMap (fun n => fullRecord (s.slot n) n)
  b ++ List.replicate (60 - b.length) 0

/-- At most `n` frames of range `m` are built; what does not fit counts the period in OVERRUNS. -/
def State.mirrorBuild (s : State) (m : Nat) : Nat → State
  | 0 => if (s.dirtySlots m).isEmpty then s else s.bump (Reg.MIRROR_RANGE.OVERRUNS m) 64
  | n + 1 =>
    match (s.dirtySlots m).take 32 with
    | [] => s
    | l =>
      if s.injectFull (s.mirrorValue m 0x0A) then s.bump (Reg.MIRROR_RANGE.OVERRUNS m) 64
      else
        let b := s.mirrorFrame m l
        let s := (s.forAll l (fun s k => s.unmark m k)).setTab Tab.mirrorSeq m ((s.tab Tab.mirrorSeq m + 1) % 65536)
        let dest : Mirror := ⟨s.mirrorValue m 0x04, s.mirrorValue m 0x05, s.mirrorValue m 0x07⟩
        let f : Built := ⟨s.mirrorValue m 0x0A, s.mirrorValue m 0x06, 2, m, b, some dest⟩
        ({ s with built := s.built ++ [f] } : State).mirrorBuild m n

/-- The values written to range `m` take effect at the next period (R342). A slot that the range no longer covers, or that a range
no longer enabled had marked, is marked for it no more. -/
def State.adoptMirror (s : State) (m : Nat) : State :=
  let s := s.forAll [0x01, 0x02, 0x03, 0x04, 0x05, 0x06, 0x07, 0x08, 0x0A, 0x0B, 0x0C] (fun s sub =>
    s.setTab Tab.mirrorRange (16 * m + sub) (s.reg (regKey (0x6E10 + m) sub) + 1))
  s.forAll ((s.dirtySlots m).filter (fun n => s.mirrorValue m 0x01 == 0 || !s.inMirror m n)) (fun s n => s.unmark m n)

/-- MIRROR_PERIOD (R341): the period of range `m` begins. -/
def execMirrorPeriod (m : Fin 16) (s : State) : Next :=
  if !s.coreOn then .next s
  else
    let s := s.adoptMirror m
    State.done (s.when (s.mirrorValue m 0x01 == 1) (fun s => s.mirrorBuild m (s.mirrorValue m 0x0C)))

end Sys2Proof.Machine
end

