-- ==== Sys2Proof/Machine/Dovetail.lean ====
section
/-!
DEFINITION. Dovetail pairs (R339, R340): HEALTHY_N, PARTNER_STATE, ACTIVE and the roles; and the reset of a stream's
recovery history (R336).
-/
namespace Sys2Proof.Machine

/-! ### HEALTHY_N (R339) -/

/-- The block holds HEALTHY_N low: OPERATIONAL, FATAL clear, and with HEARTBEAT_MS set a heartbeat within its time. -/
def State.healthy (s : State) : Bool :=
  s.mode == 2 && !bit s.attn.flags 31 && (s.reg Reg.DOVETAIL.HEARTBEAT_MS == 0 || s.tab Tab.sticky 8 == 1)

/-- The effect of a write to HEARTBEAT. -/
def heartbeatEffect (v : Nat) (s : State) : Res := Res.done (if v = 0 then s else s.setTab Tab.sticky 8 1)

/-- HEARTBEAT (R339). -/
def execHeartbeat (w : SessionNo) (s : State) : Next := (s.hostWrite w 0x6E00 0x04 1 (heartbeatEffect 1)).next

/-- HEARTBEAT_TIMEOUT (R339): HEARTBEAT_MS have passed since the last heartbeat. -/
def execHeartbeatTimeout (s : State) : Next :=
  if s.reg Reg.DOVETAIL.HEARTBEAT_MS = 0 then .next s else State.done (s.setTab Tab.sticky 8 0)

/-! ### PARTNER_STATE and ACTIVE (R340) -/

/-- A port listed in DOVETAIL_PORTS has its Dalzan link RUNNING. -/
def State.partnerLink (s : State) : Bool :=
  (List.range 8).any (fun i =>
    let p := entryAt 8 2 (s.reg Reg.DOVETAIL.DOVETAIL_PORTS) i
    p < 512 && s.portKind p == 2 && s.reg (Reg.PORT.DALZAN_STATE p) == 2)

/-- The role in effect is SECONDARY. The island keeps it while the core's registers are lost. -/
def State.secondary (s : State) : Bool := (if s.coreOn then s.reg Reg.DOVETAIL.ROLE else s.tab Tab.sticky 10) == 1

/-- PARTNER_STATE takes a value: a change is an event; an entry to LOST from OK or ISOLATED makes a SECONDARY active; leaving
LOST ends the wait of the first evaluation. -/
def State.setPartner (s : State) (v : Nat) : State :=
  let old := s.reg Reg.DOVETAIL.PARTNER_STATE
  if old = v then s
  else
    let s := (s.setReg Reg.DOVETAIL.PARTNER_STATE v).when (v != 2) (·.setTab Tab.sticky 7 0)
    let s := s.when (v == 2 && s.secondary) (·.setReg Reg.DOVETAIL.ACTIVE 1)
    s.event Reg.DOVETAIL.EVENTS 0 0x1301

/-- PEER_HEALTHY_N reads low. -/
def State.peerLow (s : State) : Bool := s.tab Tab.sticky 5 == 1

/-- PARTNER_STATE follows the debounced level and the listed links, once PEER_HEALTHY_N has been evaluated; the way to ISOLATED
is LOSS_HOLD_EXPIRY. -/
def State.refreshPartner (s : State) : State :=
  if s.tab Tab.sticky 6 = 0 then s
  else if !s.peerLow then s.setPartner 2
  else if s.partnerLink then s.setPartner 0
  else s

/-- The first evaluation, at the end of step 7 of the first start-up: a SECONDARY that finds LOST begins to wait. PARTNER_STATE reads LOST
from the island's start, so with PEER_HEALTHY_N low and no link yet the wait stands interrupted: LOST does not hold. -/
def State.firstPartner (s : State) : State :=
  if s.tab Tab.sticky 6 = 1 then s
  else
    let s := (s.setTab Tab.sticky 6 1).refreshPartner
    s.when (s.reg Reg.DOVETAIL.PARTNER_STATE == 2 && s.secondary) (·.setTab Tab.sticky 7 (if s.peerLow then 2 else 1))

/-- The wait of the first evaluation follows the level: low interrupts it, and high begins it anew. -/
def State.peerWait (s : State) : State :=
  s.when (s.tab Tab.sticky 7 != 0) (·.setTab Tab.sticky 7 (if s.peerLow then 2 else 1))

/-- PEER_HEALTHY_CHANGE (R340): a level of PEER_HEALTHY_N that has lasted 1 µs. -/
def execPeerHealthyChange (level : SenseLevel) (s : State) : Next :=
  State.done (s.setTab Tab.sticky 5 (match level with | .low => 1 | .high => 0)).peerWait.refreshPartner

/-- LOSS_HOLD_EXPIRY (R340): no listed link has been RUNNING for LOSS_HOLD_US. -/
def execLossHoldExpiry (s : State) : Next :=
  if s.tab Tab.sticky 6 = 1 ∧ s.peerLow = true ∧ s.partnerLink = false then State.done (s.setPartner 1) else .next s

/-- PARTNER_WAIT_EXPIRY (R340): LOST has lasted PARTNER_WAIT_MS without a break since the first evaluation. -/
def execPartnerWaitExpiry (s : State) : Next :=
  if s.tab Tab.sticky 7 = 1 ∧ s.secondary = true then
    State.done ((s.setTab Tab.sticky 7 0).setReg Reg.DOVETAIL.ACTIVE 1)
  else .next s

/-- The effect of a write to REVERT. -/
def revertEffect (v : Nat) (s : State) : Res :=
  Res.done (if v = 1 ∧ s.reg Reg.DOVETAIL.ROLE = 1 ∧ s.reg Reg.DOVETAIL.PARTNER_STATE = 0
    then s.setReg Reg.DOVETAIL.ACTIVE 0 else s)

/-- REVERT (R340). -/
def execRevert (w : SessionNo) (s : State) : Next := (s.hostWrite w 0x6E00 0x08 1 (revertEffect 1)).next

/-- The effect of a write to ROLE: ACTIVE is true while PRIMARY, and false from every write that sets SECONDARY. -/
def roleEffect (v : Nat) (s : State) : Res :=
  let s := (s.setReg Reg.DOVETAIL.ROLE v).setReg Reg.DOVETAIL.ACTIVE (if v = 0 then 1 else 0)
  Res.done (s.when (v == 0) (·.setTab Tab.sticky 7 0))

/-- ROLE (R340). -/
def execRole (w : SessionNo) (value : Nat) (s : State) : Next := (s.hostWrite w 0x6E00 0x01 value (roleEffect value)).next

/-- The effect of a write to DOVETAIL_PORTS: the listed links are others. -/
def dovetailPortsEffect (v : Nat) (s : State) : Res := Res.done (s.setReg Reg.DOVETAIL.DOVETAIL_PORTS v).refreshPartner

/-! ### Recovery history (R336) -/

/-- CB_HISTORY_RESET (R336): no frame of the stream has passed for RESET_MS. -/
def execCbHistoryReset (stream : Fin 4096) (s : State) : Next :=
  if bit (s.tab (Tab.win 0x6C00) stream) 63 && bit (s.tab Tab.cbHistory stream) 63 then
    State.done (s.resetHistory stream)
  else .next s

end Sys2Proof.Machine
end

