-- ==== Sys2Proof/Machine/Lockstep.lean ====
section
/-!
DEFINITION. Lockstep frequency changes (R524 to R528, R530 to R537, R539): the target voltage, the two-phase change of the
bench divider, and its commands.
-/
namespace Sys2Proof.Machine

/-! ### The target voltage (R525, R526) -/

/-- Index of a divider: ÷4, ÷5, ÷6, ÷8. -/
def dividerIndex (d : Nat) : Nat := if d = 8 then 3 else d - 4
/-- The divider of an index. -/
def indexDivider (i : Nat) : Nat := if i = 3 then 8 else i + 4

/-- The divider in effect. -/
def State.divider (s : State) : Nat := s.reg Reg.CLOCKS.BENCH_DIVIDER

/-- STATE of the lockstep (R530). -/
def State.lockState (s : State) : Nat := s.reg Reg.LOCKSTEP.STATE

/-- A change to the prepared divider is under way that raises the frequency. -/
def State.raising (s : State) : Bool :=
  1 ≤ s.lockState && s.lockState ≤ 3 && s.reg Reg.LOCKSTEP.TARGET_DIVIDER < s.divider

/-- The target of a divider. -/
def State.targetOf (s : State) (d : Nat) : Nat :=
  if s.reg Reg.VOLTAGE.AVS_ENABLE = 0 then 800
  else min 800 (entryAt 16 2 (s.reg Reg.VOLTAGE.TABLE) (4 * dividerIndex d + s.reg Reg.VOLTAGE.BAND) + s.reg Reg.VOLTAGE.MARGIN_MV)

/-- TARGET_MV: of the divider in effect, or of the prepared one under R533. -/
def State.targetMv (s : State) : Nat := s.targetOf (if s.raising then s.reg Reg.LOCKSTEP.TARGET_DIVIDER else s.divider)

/-- VMIN of the divider in effect (R525). -/
def State.vmin (s : State) : Nat := entryAt 4 2 (s.reg Reg.VOLTAGE.VMIN) (dividerIndex s.divider)

/-- The enabled rails of a supply. -/
def State.railsOf (s : State) (supply : Nat) : List Nat :=
  (List.range 8).filter (fun r => s.reg (Reg.PMBUS_RAIL.ENABLE r) == 1 && s.reg (Reg.PMBUS_RAIL.SUPPLY r) == supply)

/-- A rail of VDD_CORE is in COMM_FAULT (R528). -/
def State.avsHeld (s : State) : Bool := (s.railsOf 0).any (fun r => s.tab Tab.railFault r == 1)

/-- The fault bits of STATUS_WORD, PRESUMED from PMBus 1.3: all but POWER_GOOD (11), BUSY (7) and OFF (6). -/
def statusFaults (v : Nat) : Bool := v % 2 ^ 16 &&& 0xF73F != 0

/-- Cause VOLTAGE (R563) follows: an enabled rail is in COMM_FAULT, or its last STATUS_WORD holds a fault. -/
def State.refreshVoltage (s : State) : State :=
  s.setCause 7 ((List.range 8).any (fun r => s.reg (Reg.PMBUS_RAIL.ENABLE r) == 1
    && (s.tab Tab.railFault r == 1 || statusFaults (s.reg (Reg.PMBUS_RAIL.STATUS_WORD r)))))

/-- A transaction with rail `r` has failed its retries (R527): counted, COMM_FAULT set, and AVS_HELD where VDD_CORE is held by
it from now on (R528). -/
def State.commFailed (s : State) (r : Nat) : State :=
  let held := s.avsHeld
  let s := (s.bump (Reg.PMBUS_RAIL.COMM_ERRORS r) 64).setTab Tab.railFault r 1
  let s := s.event (Reg.PMBUS_RAIL.EVENTS r) 0 (0x1D08 + r)
  (s.when (!held && s.avsHeld) (·.event Reg.VOLTAGE.EVENTS 1 0x1D01)).refreshVoltage

/-- A transaction with rail `r` has succeeded: its fault clears (R528). -/
def State.commOk (s : State) (r : Nat) : State := (s.setTab Tab.railFault r 0).refreshVoltage

/-- One step of at most 5 mV of rail `r` towards target `t` (R526), downwards only while the lockstep is IDLE. -/
def State.avsMove (s : State) (t r : Nat) : State :=
  let v := s.tab Tab.railCommand r
  if v < t then (s.setTab Tab.railCommand r (min t (v + 5))).commOk r
  else if t < v ∧ s.lockState = 0 then (s.setTab Tab.railCommand r (max t (v - 5))).commOk r
  else s

/-- AVS_STEP (R526): every rail of VDD_CORE moves one step; a rail whose transaction fails is left where it was. -/
def execAvsStep (failed : List (Fin 8)) (s : State) : Next :=
  if s.avsHeld || !s.coreOn then .next s
  else
    let t := s.targetMv
    let moving := (s.railsOf 0).filter (fun r => s.tab Tab.railCommand r < t || (t < s.tab Tab.railCommand r && s.lockState == 0))
    State.done (s.forAll moving (fun s r => if failed.any (·.val == r) then s.commFailed r else s.avsMove t r))

/-! ### The states (R530 to R534) -/

/-- Source of the flags of LOCKSTEP (R544). -/
def lockSource (i : Nat) : Nat := if i = 0 ∨ i = 2 then 0x1D03 else 0x1D02

/-- A flag of LOCKSTEP is set by hardware. -/
def State.lockEvent (s : State) (i : Nat) : State := s.event Reg.LOCKSTEP.EVENTS i (lockSource i)

/-- A self-run is in progress (R539). -/
def State.selfRun (s : State) : Bool := s.tab Tab.power 1 == 1

/-- Back to IDLE, with any self-run over. -/
def State.lockIdle (s : State) : State := (s.setReg Reg.LOCKSTEP.STATE 0).setTab Tab.power 1 0

/-- The preparation fails (R533). -/
def State.prepareFails (s : State) : State := s.lockIdle.lockEvent 1

/-- COMMITTED for instant `t`, a TIME80. -/
def State.lockCommit (s : State) (t : Nat) : State := (s.setReg Reg.LOCKSTEP.COMMIT_TIME t).setReg Reg.LOCKSTEP.STATE 3

/-- The first whole millisecond at least 1 ms ahead (R539). -/
def State.selfInstant (s : State) : Nat := time80 (ceilDiv (s.ptpNs + 1000000) 1000000 * 1000000)

/-- PREPARED is entered; a self-run commits itself. -/
def State.enterPrepared (s : State) : State :=
  let s := (s.setReg Reg.LOCKSTEP.STATE 2).lockEvent 0
  if s.selfRun then s.lockCommit s.selfInstant else s

/-- A preparation for divider `d` under `txn` begins (R531, R533). -/
def State.lockPrepare (s : State) (txn d : Nat) : State :=
  let s := ((s.setReg Reg.LOCKSTEP.TXN txn).setReg Reg.LOCKSTEP.TARGET_DIVIDER d).setReg Reg.LOCKSTEP.STATE 1
  if d < s.divider then (if s.avsHeld then s.prepareFails else s) else s.enterPrepared

/-- The effect of a write to PREPARE (R531). -/
def prepareEffect (v : Nat) (s : State) : Res :=
  let txn := bits v 31 16
  let d := bits v 3 0
  let st := s.lockState
  if txn = 0 ∨ bits v 15 4 ≠ 0 ∨ !(([4, 5, 6, 8] : List Nat).contains d) then Res.fail s Code.range
  else if s.selfRun ∨ 3 ≤ st then Res.fail s Code.resourceOwned
  else if st ≠ 0 ∧ s.reg Reg.LOCKSTEP.TXN = txn ∧ s.reg Reg.LOCKSTEP.TARGET_DIVIDER = d then Res.done s
  else Res.done (s.lockPrepare txn d)

/-- PREPARE (R531). -/
def execPrepare (w : SessionNo) (value : Nat) (s : State) : Next := (s.hostWrite w 0x0440 0x02 value (prepareEffect value)).next

/-- PREPARED (R533): every rail of VDD_CORE reads back at least the target. -/
def execPrepared (s : State) : Next :=
  if s.lockState = 1 ∧ (s.railsOf 0).all (fun r => s.targetMv ≤ s.reg (Reg.PMBUS_RAIL.VOUT_MV r)) = true then State.done s.enterPrepared
  else .next s

/-- PREPARE_FAILED (R533): 5 ms have passed. -/
def execPrepareFailed (s : State) : Next := if s.lockState = 1 then State.done s.prepareFails else .next s

/-- PREPARE_LAPSED (R530). -/
def execPrepareLapsed (s : State) : Next := if s.lockState = 2 then State.done (s.lockIdle.lockEvent 4) else .next s

/-- The effect of a write of 12 octets to COMMIT (R532). -/
def commitEffect (v : Nat) (s : State) : Res :=
  let txn := v / 2 ^ 80
  let t := v % 2 ^ 80
  let ns := time80Ns t
  if s.tab Tab.power 2 = v + 1 then Res.done s
  else if 1000000000 ≤ t % 2 ^ 32 ∨ ns % 1000 ≠ 0 ∨ ns * nsUnit < s.clock.ptp + 500000 * nsUnit
      ∨ s.clock.ptp + s.reg Reg.LOCKSTEP.PREPARE_HOLD_MS * 1000000 * nsUnit < ns * nsUnit then Res.fail s Code.range
  else if s.selfRun then Res.fail s Code.resourceOwned
  else if s.lockState ≠ 2 ∨ s.reg Reg.LOCKSTEP.TXN ≠ txn then Res.fail s Code.notPrepared
  else if !s.timeLocked then Res.fail s Code.busyRetry
  else Res.done (s.lockCommit t)

/-- COMMIT (R532). -/
def execCommit (w : SessionNo) (value : Nat) (s : State) : Next := (s.hostWrite w 0x0440 0x03 value (commitEffect value)).next

/-- The effect of a write to ABORT (R532). -/
def lockAbortEffect (txn : Nat) (s : State) : Res :=
  let st := s.lockState
  if st = 0 ∨ st = 4 ∨ txn = 0 ∨ s.reg Reg.LOCKSTEP.TXN ≠ txn then Res.fail s Code.notPrepared
  else if st = 3 ∧ time80Ns (s.reg Reg.LOCKSTEP.COMMIT_TIME) * nsUnit ≤ s.clock.ptp + 100000 * nsUnit then Res.fail s Code.busyRetry
  else Res.done s.lockIdle

/-- LOCKSTEP_ABORT (R532). -/
def execLockstepAbort (w : SessionNo) (txn : Nat) (s : State) : Next :=
  (s.hostWrite w 0x0440 0x04 txn (lockAbortEffect txn)).next

/-! ### The switch (R534, R537) -/

/-- THROTTLE_STATE follows (R539, R540). -/
def State.refreshThrottle (s : State) : State :=
  s.setReg Reg.THERMAL.THROTTLE_STATE
    (if s.tab Tab.power 6 = 1 then 3 else if s.tab Tab.power 7 = 1 then 2 else if s.tab Tab.power 5 = 1 then 1 else 0)

/-- Cause LOCKSTEP (R563) follows IN_STEP, which reads true while GROUP_ID is 0 (R545). -/
def State.refreshInStep (s : State) : State :=
  s.setCause 8 (s.reg Reg.LOCKSTEP.IN_STEP == 0 && s.reg Reg.LOCKSTEP.GROUP_ID != 0)

/-- The effect of a write to GROUP_ID. -/
def groupIdEffect (v : Nat) (s : State) : Res := Res.done (s.setReg Reg.LOCKSTEP.GROUP_ID v).refreshInStep

/-- The bench divider switches at T. -/
def State.lockSwitch (s : State) : State :=
  let d := s.reg Reg.LOCKSTEP.TARGET_DIVIDER
  let t := s.reg Reg.LOCKSTEP.COMMIT_TIME
  let raise := d < s.divider
  let own := s.selfRun
  let s := (s.setTab Tab.power 0 (if raise then s.divider else 0)).setTab Tab.power 2 (s.reg Reg.LOCKSTEP.TXN * 2 ^ 80 + t + 1)
  let s := (s.setReg Reg.CLOCKS.BENCH_DIVIDER d).setReg Reg.LOCKSTEP.LAST_APPLIED t
  let s := s.setTab Tab.power 7 (if own ∧ s.reg Reg.CLOCKS.BASE_DIVIDER < d then 1 else 0)
  let s := if raise then s.setReg Reg.LOCKSTEP.STATE 4 else s.lockIdle
  ((s.setReg Reg.LOCKSTEP.IN_STEP 1).lockEvent 2).refreshInStep.refreshThrottle

/-- A committed switch whose T the counter has reached is made. -/
def State.lockDue (s : State) : State :=
  if s.lockState = 3 ∧ time80Ns (s.reg Reg.LOCKSTEP.COMMIT_TIME) * nsUnit ≤ s.clock.ptp then s.lockSwitch else s

/-- APPLIED (R534). -/
def execApplied (s : State) : Next := State.done s.lockDue

/-- RAISE_WINDOW_END (R530). -/
def execRaiseWindowEnd (s : State) : Next :=
  if s.lockState = 4 then State.done (s.lockIdle.setTab Tab.power 0 0) else .next s

/-- REVERTED (R537): the die voltage has been below VMIN for more than 1 µs in RAISE_WINDOW. -/
def execReverted (mv : Nat) (s : State) : Next :=
  let s := s.setReg Reg.VOLTAGE.DIE_MV (mv % 2 ^ 16)
  if s.lockState = 4 ∧ s.tab Tab.power 0 ≠ 0 ∧ mv < s.vmin then
    let s := (s.setReg Reg.CLOCKS.BENCH_DIVIDER (s.tab Tab.power 0)).setTab Tab.power 0 0
    State.done ((s.setReg Reg.LOCKSTEP.IN_STEP 0).lockEvent 3).refreshInStep
  else .next s

end Sys2Proof.Machine
end

