-- ==== Sys2Proof/Machine/Memory.lean ====
section
/-!
DEFINITION. The pool banks and the jig (R460 to R468, R474 to R477): ownership and handover, the accesses of benches, and
the march test with its borrowed segments.
-/
namespace Sys2Proof.Machine

/-! ### Banks and their owners (R460 to R462) -/

def State.bankState (s : State) (k : Nat) : Nat := s.reg (Reg.POOL_BANK.STATE k)
def State.bankOwner (s : State) (k : Nat) : Nat := s.reg (Reg.POOL_BANK.OWNER k)
def State.bankPart (s : State) (k : Nat) : Nat := s.reg (Reg.POOL_BANK.PARTITION k)

/-- Owner codes other than a bench's. -/
abbrev ownerHost : Nat := 0x80
abbrev ownerMgmt : Nat := 0x81
abbrev ownerNone : Nat := 0xFF

/-- Where pool byte address `p` lies in State.mem. -/
def poolAddr (p : Nat) : Nat := 2 ^ 28 + p

/-- Octets of a bank, and of the pool (R428, R460). -/
abbrev bankSize : Nat := 131072
abbrev poolSize : Nat := 67108864

/-- Banks whose object's sub-index `sub` is listed with value `v`. -/
def State.banksWith (s : State) (sub v : Nat) : List Nat :=
  ((SMap.between (regKey 0x9200 0) (regKey 0x9400 0) s.regs).filter (fun e => e.1 % 256 == sub && e.2 == v)).map (fun e => e.1 / 256 - 0x9200)

/-- POOL_FAULTY of DEGRADED_CAUSES follows (R563). -/
def State.refreshFaulty (s : State) : State := s.setCause 3 (!(s.banksWith 0x01 5).isEmpty)

/-- Bank `k` takes a state and an owner; a change of owner counts (R480). -/
def State.setBank (s : State) (k st owner : Nat) : State :=
  let s := s.when (s.bankOwner k != owner) (·.bump (Reg.POOL_BANK.HANDOVERS k) 32)
  ((s.setReg (Reg.POOL_BANK.STATE k) st).setReg (Reg.POOL_BANK.OWNER k) owner).refreshFaulty

/-- A flag of bank `k`. -/
def State.bankEvent (s : State) (k i : Nat) : State := s.event (Reg.POOL_BANK.EVENTS k) i (0x1400 + k)

/-- An uncorrectable error, or a failed destructive run (R467): `word` its 8-byte word in the bank. -/
def State.faultBank (s : State) (k word : Nat) : State :=
  let s := (s.setBank k 5 ownerNone).count (Ctr.poolBank k 1)
  (s.bankEvent k 0).logFault 0x0A 1 1 (0x1400 + k) 0xFF (faultData 6 (k * 2 ^ 32 + word))

/-- A bank passes from bench `b` to HOST with its contents (R465, R466). -/
def State.returnBank (s : State) (k : Nat) : State := (s.setBank k 1 ownerHost).bankEvent k 1

/-- Banks that bench `b` owns. -/
def State.banksOf (s : State) (b : Nat) : List Nat := (s.banksWith 0x02 b).filter (fun k => s.bankState k == 1)

/-- A program of bench `b` ends (R465). -/
def State.returnAtEnd (s : State) (b : Nat) : State :=
  s.forAll ((s.banksOf b).filter (fun k => s.reg (Reg.POOL_BANK.RETURN_ON_END k) == 1)) State.returnBank

/-- A fence halts bench `b` (R466). -/
def State.returnAtFence (s : State) (b : Nat) : State := s.forAll (s.banksOf b) State.returnBank

/-! ### The jig (R474 to R477) -/

-- Elements of Tab.jig.
namespace JigTab
abbrev current : Nat := 0
abbrev next : Nat := 1
abbrev last : Nat := 2
abbrev order : Nat := 3
abbrev stopping : Nat := 4
abbrev failed : Nat := 5
abbrev destructive : Nat := 6
abbrev first : Nat := 7
end JigTab

def State.jig (s : State) (k : Nat) : Nat := s.tab Tab.jig k
def State.setJig (s : State) (k v : Nat) : State := s.setTab Tab.jig k v

/-- The segment under test, which a preserving run has borrowed: segment `g` is 4 KiB segment g mod 32 of bank g / 32. -/
def State.jigSegment (s : State) : Option Nat :=
  if s.reg Reg.JIG.STATE ≠ 1 then none else match s.jig JigTab.current with | 0 => none | g + 1 => some g

/-- The bank of segment `g` is one that the run tests (R475). -/
def State.jigTests (s : State) (g : Nat) : Bool :=
  let st := s.bankState (g / 32)
  if s.jig JigTab.destructive = 1 then st == 3 || st == 4 else st == 0 || st == 1 || st == 3

/-- The first segment at or after `g` that the run tests. -/
def State.jigFresh (s : State) (g : Nat) : Option Nat :=
  ((List.range (s.jig JigTab.last - g)).map (g + ·)).find? s.jigTests

/-- The segment that has waited longest since it yielded. -/
def State.jigRetry (s : State) : Option Nat :=
  ((s.tabList Tab.jigYielded).foldl (fun a e => match a with
    | none => some e
    | some x => if e.2 < x.2 then some e else some x) (none : Option (Nat × Nat))).map (·.1)

/-- The run is over: 2 DONE, 3 STOPPED. -/
def State.jigEnd (s : State) (st : Nat) : State :=
  let s := ((s.setReg Reg.JIG.STATE st).setJig JigTab.current 0).clearTab Tab.jigYielded
  (s.clearTab Tab.jigYields).event Reg.JIG.EVENTS 0 0x1600

/-- Segment `g` is under test; in destructive mode its bank is TESTING. -/
def State.jigTake (s : State) (g : Nat) : State :=
  let s := (s.setJig JigTab.current (g + 1)).setTab Tab.jigYielded g 0
  s.when (s.jig JigTab.destructive == 1 && s.bankState (g / 32) == 3) (fun s =>
    (s.setReg (Reg.POOL_BANK.STATE (g / 32)) 4).setJig JigTab.failed 0)

/-- The next segment of the run, then one that has yielded; with neither left the run is DONE. -/
def State.jigAdvance (s : State) : State :=
  match s.jigFresh (s.jig JigTab.next) with
  | some g => (s.setJig JigTab.next (g + 1)).jigTake g
  | none => match s.jigRetry with | some g => s.jigTake g | none => s.jigEnd 2

/-- After a segment: one that has yielded is tried again, unless it has just been tried. -/
def State.jigContinue (s : State) (retried : Bool) : State :=
  match s.jigRetry with
  | some g => if retried then s.jigAdvance else s.jigTake g
  | none => s.jigAdvance

/-- The jig is not trying a segment for the first time. -/
def State.jigRetrying (s : State) (g : Nat) : Bool := g + 1 != s.jig JigTab.next

/-- PROGRESS: segments passed or under test before this one, in the range of the run. -/
def State.jigProgress (s : State) : State :=
  let n := s.jig JigTab.last - s.jig JigTab.first
  let done := s.reg Reg.JIG.SEGMENTS_TESTED + s.reg Reg.JIG.SEGMENTS_INCOMPLETE
  s.setReg Reg.JIG.PROGRESS (if s.reg Reg.JIG.STATE = 2 then 100 else if n = 0 then 0 else min 100 (done * 100 / n))

/-- An owner access to the borrowed segment (R476): it is restored and yielded, and after eight yields in a row skipped. -/
def State.jigYield (s : State) (g : Nat) : State :=
  let retried := s.jigRetrying g
  let n := s.tab Tab.jigYields g + 1
  let s := if n = 8 then
      let s := (s.setTab Tab.jigYields g 0).bump Reg.JIG.SEGMENTS_INCOMPLETE 32
      let s := s.setReg Reg.JIG.INCOMPLETE_MAP (setBitmap 2048 (s.reg Reg.JIG.INCOMPLETE_MAP) g true)
      s.event Reg.JIG.EVENTS 2 0x1600
    else
      let k := s.jig JigTab.order
      ((s.setTab Tab.jigYields g n).setTab Tab.jigYielded g (k + 1)).setJig JigTab.order (k + 1)
  let s := s.setJig JigTab.current 0
  let stop := s.jig JigTab.stopping == 1
  (if stop then s.jigEnd 3 else if retried then s.jigContinue true else if n = 8 then s.jigContinue false else s.jigAdvance).jigProgress

/-- An access by an owner to `n` octets from pool byte address `p`: the jig yields a borrowed segment that it reaches. -/
def State.ownerAccess (s : State) (p n : Nat) : State :=
  match s.jigSegment with
  | none => s
  | some g => if s.jig JigTab.destructive = 0 ∧ p < (g + 1) * 4096 ∧ g * 4096 < p + n then s.jigYield g else s

/-! ### Handover (R463, R464) -/

/-- The outcome of a passing HANDOVER: the bank's new state and owner. -/
def State.handoverTo (s : State) (k new : Nat) : Except Nat (Nat × Nat) :=
  let st := s.bankState k
  let owner := s.bankOwner k
  let busy := owner < 0x80 && s.benchActive owner
  let part := fun (b : Nat) => s.portPart (514 + b) == s.bankPart k
  if st = 0 then
    (if new < 0x80 then (if part new then .ok (1, new) else .error Code.range)
     else if new = ownerHost then .ok (1, ownerHost) else .error Code.resourceOwned)
  else if st = 1 then
    if owner < 0x80 then
      (if new = owner then .error Code.resourceOwned
       else if busy then .error Code.resourceOwned
       else if new = ownerHost then .ok (1, ownerHost)
       else if new < 0x80 then (if part new then .ok (1, new) else .error Code.resourceOwned)
       else .ok (2, ownerNone))
    else if new < 0x80 then (if part new then .ok (1, new) else .error Code.resourceOwned)
    else if new = ownerNone then .ok (2, ownerNone)
    else .error Code.resourceOwned
  else if st = 3 ∧ new = ownerNone then .ok (2, ownerNone)
  else if st = 5 ∧ new = ownerHost then .ok (3, ownerHost)
  else .error Code.resourceOwned

/-- The effect of a write to HANDOVER. -/
def handoverEffect (k v : Nat) (s : State) : Res :=
  let expected := bits v 15 8
  let new := bits v 7 0
  if 510 ≤ k ∨ new = ownerMgmt ∨ (ownerMgmt < new ∧ new ≠ ownerNone) ∨ (ownerMgmt < expected ∧ expected ≠ ownerNone) then
    Res.fail s Code.range
  else if s.bankOwner k ≠ expected then Res.fail s Code.resourceOwned
  else match s.handoverTo k new with
    | .error c => Res.fail s c
    | .ok (st, owner) =>
      let s := s.setBank k st owner
      Res.done (s.when (st == 2) (·.ownerAccess (k * bankSize) bankSize))

/-- HANDOVER (R463). -/
def execHandover (w : SessionNo) (bank : Fin 512) (owner : Nat) (s : State) : Next :=
  (s.hostWrite w (0x9200 + bank) 0x03 owner (handoverEffect bank owner)).next

/-- BANK_CLEARED (R464): every octet is 0 and the bank FREE. -/
def execBankCleared (bank : Fin 512) (s : State) : Next :=
  if s.bankState bank = 2 then
    State.done ((s.zeroBytes (poolAddr (bank * bankSize)) (poolAddr ((bank + 1) * bankSize))).setBank bank 0 ownerNone)
  else .next s

/-- The effect of a write to SERVICE (R464). -/
def serviceEffect (k v : Nat) (s : State) : Res :=
  if 510 ≤ k then Res.fail s Code.range
  else if v = 1 ∧ s.bankState k = 1 ∧ s.bankOwner k = ownerHost then Res.done (s.setBank k 3 ownerHost)
  else if v = 0 ∧ s.bankState k = 3 then Res.done (s.setBank k 1 ownerHost)
  else Res.fail s Code.resourceOwned

/-- SERVICE (R464). -/
def execService (w : SessionNo) (bank : Fin 512) (value : Nat) (s : State) : Next :=
  (s.hostWrite w (0x9200 + bank) 0x07 value (serviceEffect bank value)).next

/-- The effect of a write to PARTITION of a bank (R464, R480). -/
def bankPartEffect (k v : Nat) (s : State) : Res :=
  if 510 ≤ k then Res.fail s Code.range
  else if s.bankState k ≠ 0 then Res.fail s Code.resourceOwned
  else s.store (Reg.POOL_BANK.PARTITION k) v

/-! ### Accesses of a bench (R391, R462, R467, R468) -/

/-- The banks that `n` octets from pool byte address `p` reach. -/
def banksAt (p n : Nat) : List Nat :=
  if n = 0 then [] else (List.range ((p + n - 1) / bankSize - p / bankSize + 1)).map (p / bankSize + ·)

/-- Bench `b` may access `n` octets from pool byte address `p`. -/
def State.mayAccess (s : State) (b p n : Nat) : Bool :=
  p + n ≤ poolSize && (banksAt p n).all (fun k => s.bankState k == 1 && s.bankOwner k == b)

/-- What an access of bench `b` meets: an error takes the bank, and refuses the access. -/
def State.poolError (s : State) (b p n bad : Nat) : Option State :=
  if bad = 0 ∨ bad - 1 < p / 8 * 8 ∨ p + n ≤ bad - 1 ∨ !s.mayAccess b p n then none
  else some (s.faultBank ((bad - 1) / bankSize) ((bad - 1) % bankSize / 8))

/-- The counts of an access that is performed: words corrected, and the retries of a write; a borrowed segment is yielded. -/
def State.poolCounts (s : State) (b p n corrected busy : Nat) : State :=
  let k := p / bankSize
  let s := s.ownerAccess p n
  let s := s.when (corrected != 0) (·.count (Ctr.poolBank k 0) corrected)
  s.when (busy != 0) (fun s =>
    ((s.count (Ctr.poolBank k 2) busy).count (Ctr.bench b 5) busy).setStatus b 1)

/-! ### The jig's commands (R475 to R477) -/

/-- The effect of a write to COMMAND of the jig. -/
def jigEffect (v : Nat) (s : State) : Res :=
  let first := s.reg Reg.JIG.BANK_FIRST
  let n := s.reg Reg.JIG.BANK_COUNT
  let running := s.reg Reg.JIG.STATE == 1
  if v = 2 then Res.done (s.when running (·.setJig JigTab.stopping 1))
  else if running then Res.fail s Code.resourceOwned
  else if 510 < first + n then Res.fail s Code.range
  else if s.reg Reg.JIG.MODE = 1 ∧ (List.range n).any (fun k => s.bankState (first + k) != 3) = true then Res.fail s Code.resourceOwned
  else
    let s := s.forAll [Reg.JIG.SEGMENTS_TESTED, Reg.JIG.SEGMENTS_INCOMPLETE, Reg.JIG.ERRORS, Reg.JIG.FIRST_ERROR, Reg.JIG.INCOMPLETE_MAP]
      State.resetReg
    let s := ((s.clearTab Tab.jig).clearTab Tab.jigYielded).clearTab Tab.jigYields
    let s := ((s.setJig JigTab.next (32 * first)).setJig JigTab.first (32 * first)).setJig JigTab.last (32 * (first + n))
    let s := (s.setJig JigTab.destructive (s.reg Reg.JIG.MODE)).setReg Reg.JIG.STATE 1
    Res.done s.jigAdvance.jigProgress

/-- JIG_START (R475). -/
def execJigStart (w : SessionNo) (s : State) : Next := (s.hostWrite w 0x9500 0x01 1 (jigEffect 1)).next
/-- JIG_STOP (R475). -/
def execJigStop (w : SessionNo) (s : State) : Next := (s.hostWrite w 0x9500 0x01 2 (jigEffect 2)).next

/-- An error found in segment `g` (R477): counted, and recorded if it is the run's first. -/
def State.jigError (s : State) (g : Nat) (e : JigError) : State :=
  let rec' := (g / 32) * 2 ^ 304 + (g % 32) * 2 ^ 296 + (e.element % 256) * 2 ^ 288 + (e.offset % 2 ^ 32) * 2 ^ 256
    + (e.expected % 2 ^ 64) * 2 ^ 192 + (e.actual % 2 ^ 64) * 2 ^ 128 + s.stamp * 2 ^ 48
  let s := s.when (s.reg Reg.JIG.ERRORS == 0) (·.setReg Reg.JIG.FIRST_ERROR rec')
  let s := (s.bump Reg.JIG.ERRORS 32).event Reg.JIG.EVENTS 1 0x1600
  if s.jig JigTab.destructive = 1 then s.setJig JigTab.failed (e.offset / 8 + 1)
  else s.setReg (Reg.POOL_BANK.SUSPECT (g / 32)) 1

/-- The destructive test of bank `k` ends: OUT_OF_SERVICE and zeroed, or FAULTY. -/
def State.jigBankDone (s : State) (k : Nat) : State :=
  match s.jig JigTab.failed with
  | 0 =>
    let s := (s.zeroBytes (poolAddr (k * bankSize)) (poolAddr ((k + 1) * bankSize))).setReg (Reg.POOL_BANK.STATE k) 3
    s.setReg (Reg.POOL_BANK.SUSPECT k) 0
  | word + 1 => (s.faultBank k word).setJig JigTab.failed 0

/-- JIG_SEGMENT_DONE (R474 to R477). -/
def execJigSegmentDone (errors : List JigError) (s : State) : Next :=
  match s.jigSegment with
  | none => .next s
  | some g =>
    let retried := s.jigRetrying g
    let s := (s.forAll errors (fun s e => s.jigError g e)).bump Reg.JIG.SEGMENTS_TESTED 32
    let s := (s.setTab Tab.jigYields g 0).setJig JigTab.current 0
    let stop := s.jig JigTab.stopping == 1
    let s := s.when (s.jig JigTab.destructive == 1 && (stop || g % 32 == 31)) (·.jigBankDone (g / 32))
    State.done (if stop then s.jigEnd 3 else s.jigContinue retried).jigProgress

end Sys2Proof.Machine
end

