-- ==== Sys2Proof/Machine/Benches.lean ====
section
/-!
DEFINITION. The life of a bench (R388, R398 to R411): starts, jobs, barriers, ends of programs, traps, halts, resets and
fences, the clamp of tile starts, and the commands of each.
-/
namespace Sys2Proof.Machine

/-- A flag of EVENTS of bench `b` (R414, R484): TRAP, HALTED and FENCED at one source, TRIGGER_MISSED and BARRIER_TIMEOUT at
another. -/
def State.benchEvent (s : State) (b i : Nat) : State :=
  s.event (Reg.BENCH.EVENTS b) i ((if i = 2 ∨ i = 3 then 0x1880 else 0x1800) + b)

/-- BENCHES_FENCED of DEGRADED_CAUSES follows (R563). -/
def State.refreshFenced (s : State) : State :=
  s.setCause 2 ((SMap.between (regKey 0x8100 0) (regKey 0x8180 0) s.regs).any (fun e => e.1 % 256 == 0x01 && e.2 == 4))

/-- Bench `b` takes a state. -/
def State.setBench (s : State) (b st : Nat) : State := (s.setReg (Reg.BENCH.STATE b) st).refreshFenced

/-- A TIME80 instant as a control word packs it (R397). -/
def packTime (ns : Nat) : Nat := (ns / 1000000000) % 2 ^ 32 * 2 ^ 32 + ns % 1000000000

/-! ### Starts (R400) -/

/-- Bench `b` is held by a load (R449). -/
def State.benchHeld (s : State) (b : Nat) : Bool := s.misc b 3 == 1

/-- A program may start on bench `b`. -/
def State.mayStartProgram (s : State) (b : Nat) : Bool := s.coreOn && s.benchState b == 0 && !s.benchHeld b

/-- A program of bench `b` starts at microword `entry` with CAUSE `cause`; `ns` its START_TIME. -/
def State.startProgram (s : State) (b cause entry ns : Nat) : State :=
  let s := (s.setRetStack b []).setLoopStack b []
  let s := (s.setReg (Reg.BENCH.PC b) entry).setMisc b 0 (s.reg (Reg.BENCH.RUN_LIMIT_BC b))
  let s := (s.setCw b Cw.cause cause).setCw b Cw.startTime (packTime ns)
  let s := (s.setCw b Cw.jobSeq 0).setReg (Reg.BENCH.CURRENT_JOB b) 0
  s.setBench b 1

/-- A trigger starts bench `b`: CYCLE_NUMBER and the trigger's instant in ns. -/
def State.startTrigger (s : State) (b cycle ns : Nat) : State :=
  ((s.startProgram b 1 (s.reg (Reg.BENCH.TRIGGER_ENTRY b)) ns).setCw b Cw.cycleNo cycle).count (Ctr.bench b 0)

/-- A trigger is missed. -/
def State.missTrigger (s : State) (b : Nat) : State := (s.count (Ctr.bench b 1)).benchEvent b 2

/-- A trigger reaches bench `b`. -/
def State.triggerBench (s : State) (b cycle ns : Nat) : State :=
  if s.benchHeld b then s.missTrigger b
  else if s.benchState b = 0 then s.startTrigger b cycle ns
  else if s.benchActive b ∧ s.tab Tab.benchTrigger b = 0 then s.setTab Tab.benchTrigger b (cycle * 2 ^ 80 + ns + 1)
  else s.missTrigger b

/-- Bench `b` is IDLE: a pending trigger starts at once. -/
def State.becomeIdle (s : State) (b : Nat) : State :=
  let s := (s.setBench b 0).setReg (Reg.BENCH.CURRENT_JOB b) 0
  match s.tab Tab.benchTrigger b with
  | 0 => s
  | v + 1 => (s.setTab Tab.benchTrigger b 0).startTrigger b (v / 2 ^ 80) (v % 2 ^ 80)

/-- Benches whose TRIGGER_GROUP is `g`. -/
def State.benchesOf (s : State) (g : Nat) : List Nat :=
  ((SMap.between (regKey 0x8100 0) (regKey 0x8180 0) s.regs).filter (fun e => e.1 % 256 == 0x04 && e.2 == g)).map (fun e => e.1 / 256 - 0x8100)

/-- TRIGGER_OFFSET of the cycle in progress of group `g` has been reached, and the trigger has not been raised in it. -/
def State.triggerDue (s : State) (g : Nat) : Bool :=
  s.reg (Reg.CYCLE_GROUP.ENABLE g) == 1 && s.offsetReached g (s.groupTrigger g)
    && s.tab Tab.cycTriggered g != s.reg (Reg.CYCLE_GROUP.CYCLE_NUMBER g) + 1

/-- Group `g` raises its bench trigger, but for DOVETAIL 2 while ACTIVE is false (R375). -/
def State.raiseTrigger (s : State) (g : Nat) : State :=
  let k := s.reg (Reg.CYCLE_GROUP.CYCLE_NUMBER g)
  let ns := (s.tab Tab.cycStart g - 1) + s.groupTrigger g * 5 / 4
  (s.setTab Tab.cycTriggered g (k + 1)).when (s.reg (Reg.CYCLE_GROUP.DOVETAIL g) != 2 || s.dovetailActive)
    (·.forAll (s.benchesOf g) (fun s b => s.triggerBench b k ns))

/-- BENCH_TRIGGER (R372, R400): once in the cycle in progress, when TRIGGER_OFFSET is reached. -/
def execBenchTrigger (g : GroupNo) (s : State) : Next :=
  if s.groupsAct && s.triggerDue g then State.done (s.raiseTrigger g) else .next s

/-! ### Cycle starts (R372, R374, R591) -/

/-- An action of a cycle at its place among others: by offset, and lists of one offset by number (R379). -/
def insertAct (a : Nat × Option (Nat × Nat)) : List (Nat × Option (Nat × Nat)) → List (Nat × Option (Nat × Nat))
  | [] => [a]
  | b :: l => if a.1 < b.1 then a :: b :: l else b :: insertAct a l

/-- Instants of the cycle in progress of group `g` that have been reached and not acted on: they are taken before the next cycle starts,
none is skipped (R591). -/
def State.finishCycle (s : State) (g : Nat) : State :=
  let lists := ((s.listsOf g).filter (fun e => s.listDue e.1 e.2)).map (fun e => (listOffset e.2, some e))
  let acts := ((if s.triggerDue g then [(s.groupTrigger g, none)] else []) ++ lists).foldl (fun l a => insertAct a l) []
  s.forAll acts (fun s a => match a.2 with | none => s.raiseTrigger g | some e => s.runList e.1 e.2)

/-- CYCLE_START of the signal chapter (R372, R374): a group that runs reaches its next start; S of one that does not run adopts its
timing. -/
def State.cycleStart (s : State) (g : Nat) : State :=
  match s.nextStart g with
  | some n => if n * nsUnit ≤ s.clock.ptp then (s.finishCycle g).runCycle g n else s
  | none =>
    if s.tab Tab.cycSwitch g ≠ 0 ∧ (s.tab Tab.cycSwitch g - 1) * nsUnit ≤ s.clock.ptp then s.adoptTiming g else s

/-- An interrupt is pending for bench `b` under R400. -/
def State.interruptReady (s : State) (b : Nat) : Bool :=
  s.reg (Reg.BENCH.INT_ENTRY b) != 0xFFFF && !(s.claimable b (fun _ => true)).isEmpty

/-- BENCH_INT_START (R400). -/
def execBenchIntStart (b : BenchNo) (s : State) : Next :=
  if s.mayStartProgram b && s.tab Tab.benchTrigger b == 0 && s.interruptReady b then
    State.done (s.startProgram b 3 (s.reg (Reg.BENCH.INT_ENTRY b)) s.ptpNs)
  else .next s

/-! ### Jobs (R401 to R405) -/

def State.jobSt (s : State) (slot : Nat) : Nat := s.tab Tab.jobState slot
def jobSeq (d : Nat) : Nat := bits d 511 480
def jobClass (d : Nat) : Nat := bits d 479 476
def jobEntry (d : Nat) : Nat := bits d 469 456

/-- Field of `len` octets at octet `off` of a result record. -/
def recordWith (r off len x : Nat) : Nat := setOctets 256 r off len x

/-- The effect of a write of a descriptor to SUBMIT. -/
def submitEffect (d : Nat) (s : State) : Res :=
  let slot := jobSeq d % 4096
  if bits d 475 470 ≠ 0 ∨ bits d 455 384 ≠ 0 then Res.fail s Code.range
  else if s.jobSt slot ≠ 0 ∧ jobSeq (s.tab Tab.jobDesc slot) = jobSeq d then Res.fail s Code.range
  else if s.jobSt slot ≠ 0 ∨ s.isFenced (holder 9 0) = true then Res.fail s Code.busyRetry
  else
    let s := (s.setTab Tab.jobState slot 1).setTab Tab.jobDesc slot d
    let s := s.setTab Tab.jobOrder slot (s.reg Reg.BENCH_DEVICE.SUBMITTED)
    Res.done ((s.setTab Tab.jobRecord slot 0).bump Reg.BENCH_DEVICE.SUBMITTED 64)

/-- SUBMIT (R401): a descriptor of 64 octets. -/
def execSubmit (w : SessionNo) (descriptor : Bytes) (s : State) : Next :=
  if descriptor.length = 64 then (s.hostWrite w 0x8000 0x01 (ofBE descriptor) (submitEffect (ofBE descriptor))).next else .next s

/-- A slot put into its place in a list in order of submission. -/
def State.insertJob (s : State) (k : Nat) : List Nat → List Nat
  | [] => [k]
  | h :: t => if s.tab Tab.jobOrder k < s.tab Tab.jobOrder h then k :: h :: t else h :: s.insertJob k t

/-- Queued slots in order of submission. -/
def State.queuedJobs (s : State) : List Nat :=
  (((s.tabList Tab.jobState).filter (fun e => e.2 == 1)).map (·.1)).foldr s.insertJob []

/-- The job in a slot ends (R403, R404): its record, COMPLETED, the ring entry and the interrupt source. -/
def State.completeJob (s : State) (slot status bench userCode : Nat) (data : Bytes) : State :=
  let d := s.tab Tab.jobDesc slot
  let r := recordWith (recordWith (s.tab Tab.jobRecord slot) 0 4 (jobSeq d)) 4 1 status
  let r := recordWith (recordWith r 5 1 bench) 6 2 data.length
  let r := recordWith (recordWith r 18 10 s.stamp) 28 4 userCode
  let r := recordWith r 32 data.length (ofBE data)
  let s := (s.setTab Tab.jobRecord slot r).setTab Tab.jobState slot 3
  let n := s.reg Reg.BENCH_DEVICE.RING_HEAD
  let s := s.setTab Tab.jobRing (n % 4096) (jobSeq d * 2 ^ 32 + slot * 2 ^ 16 + status * 2 ^ 8 + bench)
  (s.bump Reg.BENCH_DEVICE.RING_HEAD 32).trigger 0x1980

/-- The effect of a write to CANCEL_CLASS (R402). -/
def cancelEffect (c : Nat) (s : State) : Res :=
  if 15 < c then Res.fail s Code.range
  else Res.done (s.forAll (s.queuedJobs.filter (fun k => jobClass (s.tab Tab.jobDesc k) == c)) (fun s k => s.completeJob k 4 0xFF 0 []))

/-- CANCEL_CLASS (R402). -/
def execCancelClass (w : SessionNo) (c : Nat) (s : State) : Next := (s.hostWrite w 0x8000 0x07 c (cancelEffect c)).next

/-- Bench `b` is eligible for a job of class `c` (R402). -/
def State.eligible (s : State) (b c : Nat) : Bool :=
  s.mayStartProgram b && bit (s.reg (Reg.BENCH.JOB_CLASSES b)) c && s.tab Tab.benchTrigger b == 0 && !s.interruptReady b

/-- The oldest queued job for which some bench is eligible, and the lowest such bench. -/
def State.nextDispatch (s : State) : Option (Nat × Nat) :=
  s.queuedJobs.findSome? (fun k =>
    ((List.range 128).find? (fun b => s.eligible b (jobClass (s.tab Tab.jobDesc k)))).map (fun b => (k, b)))

/-- JOB_DISPATCH (R402): ARG0 to ARG5 are loaded into s0 to s5. -/
def execJobDispatch (s : State) : Next :=
  match s.nextDispatch with
  | none => .next s
  | some (slot, b) =>
    let d := s.tab Tab.jobDesc slot
    let s := s.startProgram b 2 (jobEntry d) s.ptpNs
    let s := s.forAll (List.range 6) (fun s i => s.setS b i (bits d (383 - 64 * i) (320 - 64 * i)))
    let s := ((s.setCw b Cw.jobSeq (jobSeq d)).setCw b Cw.jobSlot slot).setReg (Reg.BENCH.CURRENT_JOB b) (jobSeq d)
    let s := (s.setMisc b 4 (slot + 1)).setTab Tab.jobState slot 2
    State.done (s.setTab Tab.jobRecord slot (recordWith 0 8 10 s.stamp))

/-- The job of bench `b`, if it runs one, is completed. -/
def State.endJob (s : State) (b status userCode : Nat) (data : Bytes) : State :=
  match s.misc b 4 with
  | 0 => s
  | slot + 1 => ((s.setMisc b 4 0).completeJob slot status b userCode data).count (Ctr.bench b 2)

/-! ### Barriers (R406, R407) -/

/-- Benches that have arrived at barrier `k`. -/
def State.arrivedAt (s : State) (k : Nat) : List Nat :=
  ((s.tabList Tab.benchMisc).filter (fun e => e.1 % 16 == 6 && e.2 == k + 1)).map (·.1 / 16)

/-- The waiting benches of barrier `k` are released; each is changed by `f`. -/
def State.releaseBarrier (s : State) (k : Nat) (f : Nat → State → State) : State :=
  let s := s.forAll (s.arrivedAt k) (fun s b => f b ((s.setMisc b 6 0).setBench b 1))
  let s := (s.setReg (Reg.BARRIER.ARRIVED k) 0).bump (Reg.BARRIER.GENERATION k) 32
  let s := s.setReg (Reg.BARRIER.LAST_RELEASE k) s.stamp
  s.setReg Reg.BENCH_DEVICE.RAMP_ROTATION ((s.reg Reg.BENCH_DEVICE.RAMP_ROTATION + 1) % 16)

/-- Bench `b` arrives at barrier `k`, which is enabled. -/
def State.arriveBarrier (s : State) (b k : Nat) : State :=
  let s := ((s.setMisc b 6 (k + 1)).setBench b 2).bump (Reg.BARRIER.ARRIVED k) 8
  if s.reg (Reg.BARRIER.PARTICIPANTS k) ≤ s.reg (Reg.BARRIER.ARRIVED k) then s.releaseBarrier k (fun _ s => s) else s

/-- An arrival of bench `b` is withdrawn. -/
def State.withdrawArrival (s : State) (b : Nat) : State :=
  match s.misc b 6 with
  | 0 => s
  | k + 1 => (s.setMisc b 6 0).drop (Reg.BARRIER.ARRIVED k)

/-- The effect of a write to PARTICIPANTS (R406). -/
def participantsEffect (k v : Nat) (s : State) : Res :=
  if s.reg (Reg.BARRIER.ARRIVED k) ≠ 0 then Res.fail s Code.resourceOwned else s.store (Reg.BARRIER.PARTICIPANTS k) v

/-- BARRIER_TIMEOUT (R407). -/
def execBarrierTimeout (k : Fin 32) (s : State) : Next :=
  if s.reg (Reg.BARRIER.TIMEOUT_US k) = 0 ∨ s.reg (Reg.BARRIER.ARRIVED k) = 0 then .next s
  else State.done ((s.releaseBarrier k (fun b s => (s.setStatus b 2).benchEvent b 3)).bump (Reg.BARRIER.TIMEOUTS k) 32)

/-! ### Departures (R408 to R411, R493) -/

/-- Tile starts of bench `b` that wait are withdrawn. -/
def State.clearTileWaits (s : State) (b : Nat) : State :=
  (s.clearTabRange Tab.tileWait (16 * b) (16 * b + 16)).setMisc b 5 0

/-- Bench `b` leaves RUNNING or WAITING other than by COMPLETE, its banks apart (R409, R493). -/
def State.depart (s : State) (b status userCode : Nat) : State :=
  let s := ((s.clearTileWaits b).setSendQueue b []).withdrawArrival b
  (s.endJob b status userCode []).completeAllOf b

/-- A trap of bench `b` at its program counter (R408). -/
def State.trapBench (s : State) (b cause : Nat) : State :=
  let s := ((s.returnAtEnd b).depart b 1 cause).setBench b 3
  let s := (s.setReg (Reg.BENCH.TRAP_CAUSE b) cause).setReg (Reg.BENCH.TRAP_PC b) (s.reg (Reg.BENCH.PC b))
  (s.setReg (Reg.BENCH.CURRENT_JOB b) 0).benchEvent b 0

-- Trap causes (R408).
namespace Trap
abbrev illegalMicroword : Nat := 1
abbrev scratchRange : Nat := 2
abbrev poolNotOwned : Nat := 3
abbrev slotRange : Nat := 4
abbrev runLimit : Nat := 5
abbrev explicit : Nat := 6
abbrev cwInvalid : Nat := 7
abbrev memoryError : Nat := 8
end Trap

/-- RUN_LIMIT (R408): of a program whose limit is on. -/
def execRunLimit (b : BenchNo) (s : State) : Next :=
  if s.coreOn && s.benchActive b && s.misc b 0 != 0 then State.done (s.trapBench b Trap.runLimit) else .next s

/-- A HALT (R409): no effect on a bench without a program. -/
def State.haltBench (s : State) (b : Nat) : State :=
  if s.benchActive b then
    (((s.returnAtEnd b).depart b 2 0).setBench b 3 |>.setReg (Reg.BENCH.CURRENT_JOB b) 0).benchEvent b 1
  else s

/-- A reset of bench `b` begins (R410, R493): the state of R385 other than scratch, a pending trigger, RX_RING and the send
queue are cleared. -/
def State.resetBench (s : State) (b : Nat) (clear : Bool) : State :=
  let s := s.when (s.benchActive b) (·.returnAtEnd b)
  let s := s.depart b 2 0
  let s := (s.clearTabRange Tab.benchS (64 * b) (64 * b + 64)).clearTabRange Tab.benchV (32 * b) (32 * b + 32)
  let s := (s.clearTabRange Tab.benchT (16 * b) (16 * b + 16)).setReg (Reg.BENCH.PC b) 0
  let s := ((s.setTab Tab.benchTrigger b 0).setCw b Cw.rxRing 0).setReg (Reg.BENCH.CURRENT_JOB b) 0
  (s.setMisc b 2 (ofBool (clear || s.misc b 2 == 1))).setBench b 5

/-- BENCH_RESET_DONE (R410). -/
def execBenchResetDone (b : BenchNo) (s : State) : Next :=
  if s.benchState b = 5 then
    let s := s.when (s.misc b 2 == 1) (·.zeroBytes (scratchAddr b 0) (scratchAddr b scratchSize))
    State.done ((s.setMisc b 2 0).becomeIdle b)
  else .next s

/-- A fence of bench `b` takes effect (R350, R411, R466). -/
def State.fenceBench (s : State) (b : Nat) : State :=
  let s := ((s.returnAtFence b).depart b 3 0).setBench b 4
  let s := s.endCopies (fun c => c.port == 514 + b && c.phase == 0) Drop.fenced false
  ((s.setReg (Reg.BENCH.CURRENT_JOB b) 0).setTab Tab.benchTrigger b 0).benchEvent b 4

/-- UNFENCE performs RESET and leaves the bench IDLE (R411). -/
def State.unfenceBench (s : State) (b : Nat) : State := ((s.resetBench b false).setMisc b 2 0).becomeIdle b

/-- The effect of a write to COMMAND of bench `b` (R400, R409, R410); a FENCED bench stays with its fence. -/
def benchCommandEffect (b v : Nat) (s : State) : Res :=
  if v = 1 then
    (if s.mayStartProgram b then Res.done (s.startProgram b 0 (s.reg (Reg.BENCH.START_ENTRY b)) s.ptpNs)
     else Res.fail s Code.resourceOwned)
  else if v = 2 then Res.done (s.haltBench b)
  else if s.benchState b = 4 then Res.fail s Code.resourceOwned
  else Res.done (s.resetBench b (v == 4))

/-- RUN (R400). -/
def execRun (w : SessionNo) (b : BenchNo) (s : State) : Next := (s.hostWrite w (0x8100 + b) 0x02 1 (benchCommandEffect b 1)).next
/-- HALT (R409). -/
def execHalt (w : SessionNo) (b : BenchNo) (s : State) : Next := (s.hostWrite w (0x8100 + b) 0x02 2 (benchCommandEffect b 2)).next
/-- RESET (R410). -/
def execBenchReset (w : SessionNo) (b : BenchNo) (s : State) : Next :=
  (s.hostWrite w (0x8100 + b) 0x02 3 (benchCommandEffect b 3)).next
/-- RESET_CLEAR (R410). -/
def execBenchResetClear (w : SessionNo) (b : BenchNo) (s : State) : Next :=
  (s.hostWrite w (0x8100 + b) 0x02 4 (benchCommandEffect b 4)).next

/-! ### The clamp (R388) -/

/-- The present 4 ns step, counted in the island clock. -/
def State.clampStep (s : State) : Nat := s.islandNs / 4

/-- Starts admitted in the present step. -/
def State.clampUsed (s : State) : Nat := if s.tab Tab.clamp 0 = s.clampStep + 1 then s.tab Tab.clamp 1 else 0

/-- One start more is admitted in the present step. -/
def State.clampAdmit (s : State) : State := (s.setTab Tab.clamp 1 (s.clampUsed + 1)).setTab Tab.clamp 0 (s.clampStep + 1)

/-- Tile `i` (16 b + t) asks to start: admitted now, or it waits. -/
def State.askTile (s : State) (i : Nat) : State :=
  if (s.tabList Tab.tileWait).isEmpty && decide (s.clampUsed < 128) then s.clampAdmit
  else (s.setTab Tab.tileWait i (s.clampStep + 1)).bump Reg.BENCH_DEVICE.TILE_DELAYS 64

/-- Bench `b` has a tile start that waits. -/
def State.tilesWait (s : State) (b : Nat) : Bool := (List.range 16).any (fun t => s.tab Tab.tileWait (16 * b + t) != 0)

/-- The tiles of a microword of bench `b` ask to start; whether they are all admitted. -/
def State.askTiles (s : State) (b : Nat) (tiles : List Nat) : State × Bool :=
  if s.misc b 5 = 1 then (s.setMisc b 5 0, true)
  else if s.tilesWait b then (s, false)
  else
    let s := s.forAll tiles (fun s t => s.askTile (16 * b + t))
    (s, !s.tilesWait b)

/-- `x` is admitted before `y`: tile and step in which it asked. -/
def State.clampFirst (s : State) (x y : Nat × Nat) : Bool :=
  let bay := fun (i : Nat) => (i / 128 + 16 - s.reg Reg.BENCH_DEVICE.RAMP_ROTATION) % 16
  if x.2 ≠ y.2 then decide (x.2 < y.2)
  else if bay x.1 ≠ bay y.1 then decide (bay x.1 < bay y.1)
  else decide (x.1 ≤ y.1)

/-- The waiting tile start that is admitted next. -/
def State.clampNext (s : State) : Option Nat :=
  ((s.tabList Tab.tileWait).foldl (fun a e => match a with
    | none => some e
    | some x => if s.clampFirst x e then some x else some e) (none : Option (Nat × Nat))).map (·.1)

/-- TILE_START_ADMITTED (R388): of those that wait the next; with its last the bench may issue. -/
def execTileStartAdmitted (s : State) : Next :=
  match s.clampNext with
  | none => .next s
  | some i =>
    if 128 ≤ s.clampUsed then .next s
    else
      let s := (s.setTab Tab.tileWait i 0).clampAdmit
      State.done (s.when (!s.tilesWait (i / 16)) (·.setMisc (i / 16) 5 1))

/-! ### Dictionary writes and frames of a bench (R395, R398) -/

/-- A write of `v` by bench `b` to sub-index `sub` of the object at `idx`. -/
def State.benchDictWrite (s : State) (b idx sub v : Nat) (lost : Bool) : Res :=
  if idx = 0x8100 + b ∧ sub = 0x10 then s.store (Reg.BENCH.USER_STATUS b) v
  else if idx = 0x7000 ∧ sub = 0x08 then
    (if 131071 < v then Res.fail s Code.range
     else if bit (s.slotAttr v) 125 then Res.done (s.clearLost v lost)
     else Res.fail s Code.hostNotAllowed)
  else if idx = 0x6E00 ∧ sub = 0x04 then (if 1 < v then Res.fail s Code.range else heartbeatEffect v s)
  else Res.fail s Code.hostNotAllowed

/-- DICT_DONE (R398): the dictionary write of bench `b` completes. -/
def execDictDone (b : BenchNo) (lost : Bool) (s : State) : Next :=
  match s.misc b 1 with
  | 0 => .next s
  | p + 1 =>
    let r := s.benchDictWrite b (bits p 95 80) (bits p 79 72) (bits p 63 0) lost
    State.done (((r.st.setMisc b 1 0).setCw b Cw.dictResult r.code).setStatus b 3)

/-- BENCH_FRAME_PRESENT (R395, R594): the oldest frame of the send queue, read from scratch now. -/
def execBenchFramePresent (b : BenchNo) (s : State) : Next :=
  match s.sendQueue b with
  | [] => .next s
  | x :: rest =>
    if !s.coreOn then .next s
    else
      let st := s.cw b Cw.status
      let s := (s.setSendQueue b rest).setCw b Cw.status (setBits st 31 16 (bits st 31 16 + 1))
      State.done (s.present (514 + b) (s.portPart (514 + b)) (s.scratch b (x / 2 ^ 32) (x % 2 ^ 32)) none false 0)

end Sys2Proof.Machine
end

