-- ==== Sys2Proof/Machine/Carriage.lean ====
section
/-!
DEFINITION. The carriages of ZDP (R55 to R58, R61): which requests are for the device, address answers, and the frames that go through port 642 (R57, R70, R354).
-/
namespace Sys2Proof.Machine

/-! ### Recognition (R55, R58, R59, R62) -/

/-- The request came through the forwarding tables to port 642. -/
def fabricRequest (q : Request) : Bool := q.port.val != 512 && q.port.val != 513

/-- The request is one in a carriage that the device accepts. -/
def State.isZdp (s : State) (q : Request) : Bool :=
  if 2 < q.vlans.length then false
  else if q.addrKind = 0 then q.service == s.zdpSetting 0x01
  else if q.addrKind = 1 ∨ q.addrKind = 2 then
    let own := s.zdpSetting (if q.addrKind = 1 then 0x04 else 0x05)
    s.zdpSetting 0x02 == 1 && q.service == s.zdpSetting 0x03 && q.device == own && own != 0
  else false

/-! ### Address answers (R58) -/

/-- ZDP_ARP_REQUEST: answered for the device's own address of the UDP carriage. The host port consumes the frame: 64 octets of ARP, or a
solicitation, with its source's address where it has one (log entry 6). -/
def execZdpArpRequest (h : HostNo) (v6 : Bool) (target : Nat) (who : AddressAsker) (s : State) : Next :=
  if s.portUp (512 + h) = true ∧ s.zdpSetting 0x02 = 1 ∧ target ≠ 0 ∧ target = s.zdpSetting (if v6 then 0x05 else 0x04) then
    let f := BypassFrame.arp v6 target who.mac who.sender
    let s := s.macReceived (512 + h) (if !v6 then 64 else if who.sender = 0 then 82 else 90)
    if h.val = 0 then State.done { s with zdp := { s.zdp with bypass0 := s.zdp.bypass0 ++ [f] } }
    else State.done { s with zdp := { s.zdp with bypass1 := s.zdp.bypass1 ++ [f] } }
  else .next s

/-! ### Frames through port 642 (R20, R57, R70, R354) -/

/-- Management tags in flight. -/
def State.mgmtTags (s : State) : Nat := (s.frames.filter (fun f => f.mgmtTag && f.stage != 3)).length

/-- MGMT_FRAME_SEND: a frame of the runtime, or the oldest reply that waits; each holds one of the 256 management tags. -/
def execMgmtFrameSend (octets : FrameOctets) (s : State) : Next :=
  if s.coreOn = false ∨ 256 ≤ s.mgmtTags then .next s
  else if !octets.isEmpty then State.done (s.present 642 noPart octets none true 0)
  else
    match s.zdp.mgmt with
    | [] => .next s
    | r :: rest =>
      let b := s.replyFrame r (s.freeBelow (2 ^ 40))
      let s : State := { s.drew with zdp := { s.zdp with mgmt := rest } }
      State.done ((s.replySent r).present 642 noPart b none true r.tagCode)

end Sys2Proof.Machine
end

