-- ==== Sys2Proof/Machine/Links.lean ====
section
/-!
DEFINITION. Link states (R157, R174, R175), Dalzan links (R179 to R183), flow control frames (R173, R177, R288) and the bypass
frames of the host ports (R593), with the commands of each.
-/
namespace Sys2Proof.Machine

/-! ### Lanes of a port (R12, R165, R176) -/

/-- The key of a lane's sub-index: fabric lanes 0 to 511, host lanes from 512. -/
def laneKey (n sub : Nat) : Nat := if n < 512 then regKey (0x1000 + n) sub else regKey (0x1200 + (n - 512)) sub

/-- STATE of a lane (R153). -/
def State.laneState (s : State) (n : Nat) : Nat := s.reg (laneKey n 0x01)

/-- The lanes of a fabric or host port, its own number's first. -/
def State.lanesOf (s : State) (p : Nat) : List Nat :=
  (List.range (s.reg (Reg.PORT.WIDTH p))).map ((if p = 513 then 516 else p) + ·)

/-- The port that lane `n` belongs to. -/
def State.portOfLane (s : State) (n : Nat) : Option Nat :=
  if 516 ≤ n then (if (s.lanesOf 513).contains n then some 513 else none)
  else if 512 ≤ n then (if (s.lanesOf 512).contains n then some 512 else none)
  else ((List.range 8).map (n / 8 * 8 + ·)).find? (fun p => s.portKind p != 0 && (s.lanesOf p).contains n)

/-- Every lane of the port is in DATA. -/
def State.lanesUp (s : State) (p : Nat) : Bool := s.portKind p != 0 && (s.lanesOf p).all (fun n => s.laneState n == 6)

/-! ### Frames being received (R157) -/

/-- The receive PCS ends every frame that is arriving on port `p` with an error block. -/
def State.cutArrivals (s : State) (p : Nat) : State :=
  s.forAll (s.frames.filter (fun f => f.srcPort == p && !f.tailed)) (fun s f =>
    match s.frame? f.id with
    | none => s
    | some f =>
      let len := f.octets.length
      let s := s.countRx p len Drop.rxCodeError
      if f.stage = 0 ∧ isMacControl f.octets = true then s.dropWhole { f with tailed := true, len := len } Drop.rxCodeError
      else s.endArrival f Drop.rxCodeError len)

/-! ### LINK_STATE (R174, R175) -/

/-- LINK_STATE takes a value; `stomp`: the transmitter keeps running when the port leaves UP (R157). -/
def State.setLink (s : State) (p v : Nat) (stomp : Bool) : State :=
  let old := s.reg (Reg.PORT.LINK_STATE p)
  if old = v then s
  else
    let s := ((s.setReg (Reg.PORT.LINK_STATE p) v).bump (Reg.PORT.LINK_CHANGES p) 32).setReg (Reg.PORT.LAST_CHANGE p) s.stamp
    if v = 3 then (s.event (Reg.PORT.EVENTS p) 0 (0x0400 + p)).refreshResvs
    else if old = 3 then
      ((s.event (Reg.PORT.EVENTS p) 1 (0x0400 + p)).portLeavesUp p stomp).refreshResvs
    else s

/-- The port is DISABLED: unused, disabled by the host, or fenced (R174, R350). -/
def State.linkDisabled (s : State) (p : Nat) : Bool :=
  s.portKind p == 0 || s.reg (Reg.PORT.ADMIN_ENABLE p) == 0 || s.fenced 3 p

/-- A cause of DOWN holds. -/
def State.linkDown (s : State) (p : Nat) : Bool :=
  !s.lanesUp p || s.tab Tab.portFault p != 0 || (s.portKind p == 2 && s.reg (Reg.PORT.DALZAN_STATE p) != 2)

/-- LINK_STATE follows its causes; only LINK_UP makes a port UP. -/
def State.refreshLink (s : State) (p : Nat) (stomp : Bool := true) : State :=
  if s.linkDisabled p then s.setLink p 0 stomp
  else if s.linkDown p then s.setLink p 1 stomp
  else if 2 ≤ s.reg (Reg.PORT.LINK_STATE p) then s
  else s.setLink p 2 stomp

/-- What the transmitter of a port that is not UP sends (R174): 0 idle, 1 remote fault, 2 INIT blocks. The PCS of a port whose lanes are
not in DATA reports local fault too (IEEE 802.3, log entry 6). -/
def State.downSignal (s : State) (p : Nat) : Nat :=
  if s.portKind p = 2 then 2 else if bit (s.tab Tab.portFault p) 0 || !s.lanesUp p then 1 else 0

/-- LINK_UP (R174): COMING_UP has lasted LINK_UP_DELAY_MS. -/
def execLinkUp (p : Fin 514) (s : State) : Next :=
  if s.reg (Reg.PORT.LINK_STATE p) = 2 then State.done (s.setLink p 3 true) else .next s

/-- Fault signalling of one kind begins; what the partner sends is heard while the lanes are in DATA. -/
def State.faultSignal (s : State) (p i : Nat) : State :=
  let b := s.tab Tab.portFault p
  if bit b i || (i == 1 && !s.lanesUp p) || s.portKind p == 0 || s.portKind p == 2 then s
  else ((s.setTab Tab.portFault p (setBit b i true)).event (Reg.PORT.EVENTS p) (2 + i) (0x0800 + p)).refreshLink p

/-- LOCAL_FAULT (R174). -/
def execLocalFault (p : Fin 514) (s : State) : Next := State.done (s.faultSignal p 0)

/-- REMOTE_FAULT (R174). -/
def execRemoteFault (p : Fin 514) (s : State) : Next := State.done (s.faultSignal p 1)

/-- LINK_FAULT_CLEARED (R174). -/
def execLinkFaultCleared (p : Fin 514) (s : State) : Next := State.done ((s.setTab Tab.portFault p 0).refreshLink p)

/-! ### Dalzan links (R179 to R183) -/

/-- CRC-24 of R180: polynomial 0x864CFB, initial value 0xB704CE, most significant bit first. -/
def crc24Bit (c : Nat) : Nat := if bit c 23 then (c * 2 % 2 ^ 24) ^^^ 0x864CFB else c * 2 % 2 ^ 24
def crc24 (b : Bytes) : Nat :=
  b.foldl (fun c x => (List.range 8).foldl (fun c _ => crc24Bit c) (c ^^^ (x % 256) * 2 ^ 16)) 0xB704CE

/-- A DCB: 28 octets and their CRC. -/
def dcb (b : Bytes) : Bytes := b ++ toBE 3 (crc24 b)

/-- A received DCB of a kind is valid: its CRC, VERSION, KIND and the fields that are 0. -/
def dcbValid (kind : Nat) (b : Bytes) : Bool :=
  b.length == 31 && b.all (· < 256) && ofBE (b.drop 28) == crc24 (b.take 28) && b.headD 0 == 0x10 + kind
    && (if kind = 0 then b.getD 1 0 ≤ 3 && ofBE ((b.drop 26).take 2) == 0 else ofBE ((b.drop 26).take 2) ≤ 1)

/-- A DCB is discarded. -/
def State.dcbError (s : State) (p : Nat) : State := s.bump (Reg.PORT.DCB_ERRORS p) 64

/-- The link of port `p` starts: its lanes are in DATA and deskewed. RX_RESERVE takes effect; no group has been heard. -/
def State.dzStart (s : State) (p : Nat) : State :=
  let s := (s.setReg (Reg.PORT.DALZAN_STATE p) 1).setTab Tab.dzSeq p ((s.tab Tab.dzSeq p + 1) % 256)
  let s := (s.setTab Tab.dzFlags p 0).setTab Tab.dzGroup p 0
  let s := s.forAll (List.range 4) (fun s g => s.setTab Tab.dzArrived (4 * p + g) 0)
  s.forAll (List.range 16) (fun s q => s.setTab Tab.dzGrant (16 * p + q) (entryAt 16 2 (s.reg (Reg.PORT.RX_RESERVE p)) q))

/-- The link of port `p` stops, and leaves UP; where its lanes are still in DATA it starts again at once (R183), but under a fence, which
holds it until the reclaim is done (R350). -/
def State.dzReset (s : State) (p : Nat) (stomp : Bool) : State :=
  let s := ((s.setReg (Reg.PORT.DALZAN_STATE p) 0).refreshLink p stomp).refreshPartner
  s.when (s.lanesUp p && !s.fenced 4 p) (·.dzStart p)

/-- The lanes of a port have changed: a Dalzan link starts or stops with them, and LINK_STATE follows. -/
def State.lanesChanged (s : State) (p : Nat) (stomp : Bool) : State :=
  let s := if s.portKind p ≠ 2 then s
    else if s.lanesUp p then s.when (s.reg (Reg.PORT.DALZAN_STATE p) == 0 && !s.fenced 4 p) (·.dzStart p)
    else s.when (s.reg (Reg.PORT.DALZAN_STATE p) != 0) (·.dzReset p stomp)
  s.refreshLink p stomp

/-- DCB_INIT_SEND (R181): an end sends INIT until its link runs, and until it has acknowledged its partner's. -/
def execDcbInitSend (p : FabricNo) (s : State) : Next :=
  let fl := s.tab Tab.dzFlags p
  let st := s.reg (Reg.PORT.DALZAN_STATE p)
  if s.portKind p ≠ 2 ∨ st = 0 ∨ (st = 2 ∧ bit fl 2 = true) then .next s
  else
    let grants := (List.range 16).foldl (fun v q => v * 2 ^ 12 + s.tab Tab.dzGrant (16 * p + q) / 16) 0
    let b := [0x11, s.tab Tab.dzSeq p] ++ toBE 24 grants ++ toBE 2 (fl % 2)
    State.done ((s.emit (.control p (dcb b))).setTab Tab.dzFlags p (setBit fl 2 (bit fl 0)))

/-- A valid INIT is taken: grants, and the partner's acknowledgement; with both the link is RUNNING. -/
def State.takeInit (s : State) (p : Nat) (b : Bytes) : State :=
  let grants := ofBE ((b.drop 2).take 24)
  let v := (List.range 16).foldl (fun v q => v * 2 ^ 16 + (grants >>> (12 * (15 - q))) % 4096 * 16) 0
  let fl := setBit (s.tab Tab.dzFlags p) 0 true
  let fl := if ofBE ((b.drop 26).take 2) = 1 then setBit fl 1 true else fl
  let s := (s.setReg (Reg.PORT.PARTNER_GRANT p) v).setTab Tab.dzFlags p fl
  if bit fl 1 then ((s.setReg (Reg.PORT.DALZAN_STATE p) 2).refreshLink p).refreshPartner else s

/-- DCB_INIT_RECEIVED (R180, R181, R183): an INIT while RUNNING stops the link first. -/
def execDcbInitReceived (p : FabricNo) (octets : Bytes) (s : State) : Next :=
  if s.portKind p ≠ 2 ∨ s.reg (Reg.PORT.DALZAN_STATE p) = 0 then .next s
  else if !dcbValid 1 octets then State.done (s.dcbError p)
  else
    let s := s.when (s.reg (Reg.PORT.DALZAN_STATE p) == 2) (·.dzReset p true)
    State.done (s.takeInit p octets)

/-- DCB_CREDIT_SEND (R183). -/
def execDcbCreditSend (p : FabricNo) (s : State) : Next :=
  if s.portKind p ≠ 2 ∨ s.reg (Reg.PORT.DALZAN_STATE p) ≠ 2 then .next s
  else
    let g := s.tab Tab.dzGroup p
    let q := (List.range 4).flatMap (fun i =>
      toBE 3 (s.tab Tab.dzReceived (16 * p + 4 * g + i)) ++ toBE 3 (s.tab Tab.dzReturned (16 * p + 4 * g + i)))
    State.done ((s.emit (.control p (dcb ([0x10, g] ++ q ++ [0, 0])))).setTab Tab.dzGroup p ((g + 1) % 4))

/-- Cells sent and never received, which the first CREDIT of a group shows, are reclaimed and reported to the tally: they leave the
in-flight term of the link's credit ledger for its credits (R183, R343). -/
def State.reclaimLost (s : State) (p q : Nat) : State :=
  let i := 16 * p + q
  let lost := subMod 24 (s.tab Tab.dzSent i) (s.tab Tab.dzPartnerReceived i)
  if lost = 0 then s
  else
    let s := (s.setTab Tab.dzSent i (s.tab Tab.dzPartnerReceived i)).bump (Reg.PORT.CELLS_LOST p) 64 lost
    (s.bump Reg.TALLY_CONTROL.UNITS_RECLAIMED 64 lost).event (Reg.PORT.EVENTS p) 5 (0x0800 + p)

/-- RECEIVED and RETURNED of queue `q` as the partner reports them; `first`: the first CREDIT of the group since the link started. A report
that takes credits_q below 0 or above GRANT_q is impossible, and a discrepancy that names the link (R344). -/
def State.creditReport (s : State) (p q received returned : Nat) (first : Bool) : State :=
  let i := 16 * p + q
  let used := subMod 24 (if first then received else s.sentNow p q) returned
  if s.grant p q < used then s.discrepancy 4 0xFF (holder 4 p) ((s.creditTerm p q 0).toNat) used 0
  else
    ((s.setTab Tab.dzPartnerReceived i received).setTab Tab.dzPartnerReturned i returned).when first (·.reclaimLost p q)

/-- A valid CREDIT of group `g` is taken (R182, R183). -/
def State.takeCredit (s : State) (p g : Nat) (b : Bytes) : State :=
  let first := s.tab Tab.dzArrived (4 * p + g) == 0
  let s := s.forAll (List.range 4) (fun s i =>
    let v := (b.drop (2 + 6 * i)).take 6
    s.creditReport p (4 * g + i) (ofBE (v.take 3)) (ofBE (v.drop 3)) first)
  let s := s.setTab Tab.dzArrived (4 * p + g) 1
  if s.tab Tab.creditFault (4 * p + g) = 0 then s else (s.setTab Tab.creditFault (4 * p + g) 0).refreshResvs

/-- DCB_CREDIT_RECEIVED (R180, R182, R183). -/
def execDcbCreditReceived (p : FabricNo) (octets : Bytes) (s : State) : Next :=
  if s.portKind p ≠ 2 ∨ s.reg (Reg.PORT.DALZAN_STATE p) = 0 then .next s
  else if !dcbValid 0 octets then State.done (s.dcbError p)
  else if s.reg (Reg.PORT.DALZAN_STATE p) ≠ 2 then .next s
  else State.done (s.takeCredit p (octets.getD 1 0) octets)

/-- CREDIT_TIMEOUT (R183): CREDIT_RETURN_BOUND_NS have passed without a valid CREDIT of the group. -/
def execCreditTimeout (p : FabricNo) (group : Fin 4) (s : State) : Next :=
  if s.portKind p ≠ 2 ∨ s.reg (Reg.PORT.DALZAN_STATE p) ≠ 2 then .next s
  else State.done ((s.setTab Tab.creditFault (4 * p + group) 1).event (Reg.PORT.EVENTS p) 4 (0x0800 + p)).refreshResvs

/-- The effect of a write to LINK_RESET (R183, R185). -/
def linkResetEffect (p v : Nat) (s : State) : Res :=
  if s.portKind p ≠ 2 then Res.fail s Code.range
  else Res.done (s.when (v == 1 && s.reg (Reg.PORT.DALZAN_STATE p) != 0) (·.dzReset p true))

/-- LINK_RESET (R183). -/
def execLinkReset (w : SessionNo) (p : FabricNo) (s : State) : Next :=
  (s.hostWrite w (0x1400 + p) 0x14 1 (linkResetEffect p 1)).next

/-! ### Flow control frames (R173, R177, R288) -/

/-- PAUSE (R173): honoured on a host port with PAUSE_RX_ENABLE. The frame has 64 octets (log entry 6). -/
def execPause (p : Fin 514) (quanta : Nat) (s : State) : Next :=
  if s.reg (Reg.PORT.LINK_STATE p) < 2 then .next s
  else
    let s := (s.macReceived p 64).count (Ctr.port p 7)
    State.done (s.when (decide (512 ≤ p.val) && s.reg (Reg.PORT.PAUSE_RX_ENABLE p) == 1)
      (·.setTab Tab.hostPause (p - 512) (quanta % 65536)))

/-- PAUSE_TIMER_EXPIRY (R173). -/
def execPauseTimerExpiry (h : HostNo) (s : State) : Next := State.done (s.setTab Tab.hostPause h 0)

/-- PFC (R173, R288): the timers of the enabled classes that RX_ENABLE admits. -/
def execPfc (p : Fin 514) (enable : Nat) (times : List Nat) (s : State) : Next :=
  if s.reg (Reg.PORT.LINK_STATE p) < 2 then .next s
  else
    let s := s.macReceived p 64
    if s.portKind p ≠ 1 then State.done (s.count (Ctr.port p 7))
    else State.done ((s.count (Ctr.port p 10)).forAll ((List.range 8).filter (fun i => bit enable i && bit (s.reg (Reg.PORT_PFC.RX_ENABLE p)) i))
      (fun s i => s.setTab Tab.pfcTimer (8 * p + i) (times.getD i 0 % 65536)))

/-- PFC_PAUSE_EXPIRY (R288). -/
def execPfcPauseExpiry (p : FabricNo) (cls : Fin 8) (s : State) : Next := State.done (s.setTab Tab.pfcTimer (8 * p + cls) 0)

/-- PAUSE_REPEAT (R177). -/
def execPauseRepeat (h : HostNo) (s : State) : Next :=
  if s.tab Tab.hostXoff h = 1 ∧ 131072 ≤ s.hostFill h then State.done (s.sendPause h 0xFFFF) else .next s

/-! ### Bypass frames (R593) -/

/-- The frame and its gap, `n` octets with preamble, end by the next edge of the port's active list. -/
def State.endsByEdge (s : State) (p n : Nat) : Bool :=
  if s.reg (Reg.GATE_PORT.IN_SAFE_STATE p) = 1 then true
  else
    let ps := n * 8000 / s.portRate p
    let fits := fun (t : Nat) => decide (s.clock.ptp * 1000 + ps * nsUnit ≤ t * 1000)
    (match (s.gate p).active with
      | none => true
      | some l => match l.ahead s.clock.ptp with | [] => true | e :: _ => fits (s.clock.ptp + e.2))
    && (match s.swapInstant p with
      | none => true
      | some swap => swap * nsUnit ≤ s.clock.ptp || fits (swap * nsUnit))

/-- The scheduler of port `p` has selected no copy and would select none now. -/
def State.noCopy (s : State) (p : Nat) : Bool :=
  !s.copies.any (fun c => c.port == p && c.phase != 0) && (s.strictHead p).isNone
    && !(s.drrActive p).any (fun q => (s.eligibleHead p q).isSome)

/-- A bypass frame of `n` octets may start on host port `h` (R173, R593): the port is UP and not paused, no frame is on the wire or
selected, not exactly one gate is open, and the frame and its gap end by the next gate edge. -/
def State.bypassMayStart (s : State) (h n : Nat) : Bool :=
  let p := 512 + h
  s.portUp p && s.tab Tab.hostPause h == 0 && !s.bypassOnWire p && s.noCopy p && popCount 16 (s.gateMask p s.clock.ptp) != 1
    && s.endsByEdge p (n + 24)

/-- BYPASS_FRAME_START (R593): the oldest bypass frame of host port `h`. -/
def execBypassFrameStart (h : HostNo) (s : State) : Next :=
  let p := 512 + h.val
  let queue := if h = 0 then s.zdp.bypass0 else s.zdp.bypass1
  match queue with
  | [] => .next s
  | f :: rest =>
    let b := s.bypassOctets p f (s.freeBelow (2 ^ 40))
    if s.bypassMayStart h b.length then
      let z := if h = 0 then { s.zdp with bypass0 := rest } else { s.zdp with bypass1 := rest }
      let s := ((({ s.drew with zdp := z } : State).emit (.bypass p b)).macSent p (b.length + 4)).occupyWire h (b.length + 24)
      State.done (match f with | .zdp r => (s.freeTag r.tagCode).replySent r | .arp .. => s)
    else .next s

end Sys2Proof.Machine
end

