-- ==== Sys2Proof/Machine/ResvCommit.lean ====
section
/-!
DEFINITION. The commit of a reservation window (R324, R334, R335): its checks, its acceptance and its instant T; the return
of a suspended reservation (R41) and the bound query (R342).
-/
namespace Sys2Proof.Machine

/-! ### The checks (R324) -/

/-- The port can carry reservations as egress: Ethernet fabric, Dalzan or host. -/
def State.egressKind (s : State) (e : Nat) : Bool := e ≤ 642 && 1 ≤ s.portKind e && s.portKind e ≤ 3

/-- A staged VALID element has a field out of range. -/
def State.resvRange (s : State) (v : Nat) : Bool :=
  let i := resvIngress v
  let badEgress := if resvMulti v then 16383 < resvEgress v || !bit (s.group (resvEgress v)) 767
    else !s.egressKind (resvEgress v)
  resvReservedSet v || 641 < i || s.portKind i == 0 || badEgress || resvMinFrame v < 64 || resvMaxFrame v < resvMinFrame v
    || s.maxFrame i < resvMaxFrame v || (s.resvPorts v).any (fun e => s.maxFrame e < resvMaxFrame v || !s.egressKind e)

/-- The named policer cannot carry the contract of staged element `n`: cause POLICER. An earlier version that has not
drained keeps its policer (R335). -/
def State.policerUnfit (s : State) (staged : SMap Nat) (n v : Nat) : Bool :=
  let i := resvPolicer v
  let e := s.policerElem i
  let others := (s.resvList.filter s.resvLive).filter (fun m => m != n && !(staged.map (·.1)).contains m)
  !polValid e || polEir e != 0 || polCbs e < resvMaxFrame v || polMaxSdu e == 0 || resvMaxFrame v < polMaxSdu e
    || others.any (fun m => resvPolicer (s.resvRecord m) == i)
    || staged.any (fun x => x.1 < n && resvValid x.2 && resvPolicer x.2 == i)
    || s.oldResv.any (fun o => o.n != n && resvPolicer o.record == i)
    || staged.any (fun x => x.1 != n && s.resvLive x.1 && resvPolicer (s.resvRecord x.1) == i)

/-! ### The instant (R334) -/

/-- The next whole microsecond of PTP time at or after `ns`. -/
def wholeMicro (ns : Nat) : Nat := ceilDiv ns 1000 * 1000

/-- T in 2^-48 ns: the later of COMMIT_TIME and 100 µs from now, rounded up. -/
def State.resvInstant (s : State) (g : Staging) : Nat :=
  max (time80Ns (g.ownValue (regKey 0x6810 0x20))) (wholeMicro (nsCeil s.clock.ptp + 100000)) * nsUnit

/-- Fifteen epochs have not drained yet (R235): the commit is answered BUSY_RETRY. -/
def State.epochsFull (s : State) : Bool := 15 ≤ s.epochLag

/-! ### The commit -/

/-- New reservations of an accepted commit are ADMITTED-PENDING until T (R327). -/
def State.admitPending (s : State) (elems : SMap Nat) : State :=
  s.forAll (elems.filter (fun e => resvValid e.2 && !s.resvLive e.1)) (fun s e => s.setTab Tab.resvState e.1 1)

/-- A commit of 0x6810 (R329, R334): refused, or accepted and SCHEDULED for T. -/
def State.commitResv (s : State) (g : Staging) : Res :=
  let vs := g.elems.filter (fun e => resvValid e.2)
  if vs.any (fun e => s.resvRange e.2) then Res.fail s Code.range
  else if s.epochsFull then Res.fail (s.bump Reg.LOOKUP_CONTROL.EPOCHS_FULL 64) Code.busyRetry
  else
    match vs.find? (fun e => s.policerUnfit g.elems e.1 e.2) with
    | some e => (s.bump Reg.ADMISSION_CONTROL.EVALUATIONS 64).rejected Code.admissionRejected
        ⟨5, (s.resvPorts e.2).head?, some e.1⟩
    | none =>
      let accept := fun (s : State) =>
        (s.putStaging { g with state := 3, instant := s.resvInstant g }).admitPending g.elems
      s.evaluated (accept s) Code.admissionRejected (vs.map (·.1)) true accept

/-- One staged element applied at T, `e` being the epoch that T sets (R334, R335); a reservation withdrawn since the commit stays so
(R43). -/
def State.applyResv (s : State) (e : Nat) (x : Nat × Nat) : State :=
  let (n, v) := x
  if resvValid v && s.resvSt n != 1 && !s.resvLive n then s.setElem 0x6810 0 n (setBit v 255 false)
  else if resvValid v then
    let fresh := s.resvSt n == 1
    let s := s.when (s.resvLive n) (fun s => s.keepOld n (s.resvRecord n) (s.tab Tab.resvCells n) (s.tab Tab.resvDesc n) (some e))
    let s := s.setElem 0x6810 0 n v
    let s := s.when fresh (·.setTab Tab.resvState n 2)
    s.when (s.resvLive n) (fun s => s.setCauses n (s.resvCauses v))
  else (s.withdraw n (some e) true).setElem 0x6810 0 n v

/-- The commit instant of a scheduled reservation commit (R334): every staged element applies, LOOKUP_EPOCH advances, and
each new reservation becomes ACTIVE or SUSPENDED. -/
def State.resvCommitNow (s : State) (g : Staging) : State :=
  let s := (s.dropStaging 0x6810).bump Reg.LOOKUP_CONTROL.LOOKUP_EPOCH 32
  let s := s.forAll g.elems (fun s x => s.applyResv (s.reg Reg.LOOKUP_CONTROL.LOOKUP_EPOCH) x)
  (((s.commitApplied 0x6810).refreshBounds g.instant).refreshResvTotals).drained

/-- A scheduled commit whose T has passed is applied, unless the time unit is SETTLING (R335). -/
def State.resvCommitDue (s : State) : State :=
  match s.stagings.find? (fun g => g.window == 0x6810 && g.state == 3) with
  | none => s
  | some g => if s.reg Reg.TIME_UNIT.STATE = 4 ∨ s.clock.ptp < g.instant then s else s.resvCommitNow g

/-- RESV_COMMIT_APPLY (R334, R335). -/
def execResvCommitApply (s : State) : Next := if s.coreOn then State.done s.resvCommitDue else .next s

/-! ### The return of a suspended reservation (R41) -/

/-- The largest bound of the reservations whose egress port `e` is, in ns. -/
def State.largestBound (s : State) (e : Nat) : Nat :=
  ((s.resvList.filter (fun m => s.resvLive m && (s.resvPorts (s.resvRecord m)).contains e)).map (fun m => s.tab Tab.resvD (m * 1024 + e))).foldl max 0

/-- Copies of reservation `n`'s queue on port `e` that came in before its causes cleared. -/
def State.oldCopies (s : State) (n e q : Nat) : Bool :=
  s.copies.any (fun c => c.port == e && c.queue == q
    && (match s.frame? c.frame with | none => false | some f => decide (f.ts < s.tab Tab.resvClear n)))

/-- The end of the drain interval of reservation `n` on port `e`, and the return instant of that port that follows instant `t` (R41), in
2^-48 ns; none while the port holds its safe gates, or its queue copies from before. -/
def State.drainEnd (s : State) (n e : Nat) : Option Nat :=
  let clear := s.tab Tab.resvClear n
  if s.reg (Reg.GATE_PORT.IN_SAFE_STATE e) = 1 then none
  else match (s.gate e).active with
    | some l => some (max clear (s.tab Tab.gateResume e) + l.cycle * nsUnit)
    | none =>
      if s.oldCopies n e (resvQueue (s.resvRecord n)) then none
      else some (max (clear + s.largestBound e * nsUnit) (s.tab Tab.resvDrained (n * 1024 + e)))

/-- The return instant of port `e` at or after instant `t`: a boundary of its active list, or a whole microsecond. -/
def State.returnAt (s : State) (e t : Nat) : Nat :=
  (match (s.gate e).active with | some l => l.boundary (nsCeil t) | none => wholeMicro (nsCeil t)) * nsUnit

/-- The return instant of reservation `n`: it follows the last of its drain intervals (R41); where several end last, the latest of theirs
(log entry 69). -/
def State.returnInstant (s : State) (n : Nat) : Option Nat :=
  let es := s.resvPorts (s.resvRecord n)
  let ends := es.map (fun e => (e, s.drainEnd n e))
  if ends.any (fun x => x.2.isNone) then none
  else
    let last := (ends.map (fun x => x.2.getD 0)).foldl max 0
    some (((ends.filter (fun x => x.2 == some last)).map (fun x => s.returnAt x.1 last)).foldl max last)

/-- RESV_RETURN_ACTIVE (R41): the return instant of reservation `n`, whose causes are all clear, has come; one that lies behind is taken
at once (R591). -/
def execResvReturnActive (n : ResvNo) (s : State) : Next :=
  match s.returnInstant n with
  | none => .next s
  | some r =>
    if s.resvSt n = 3 ∧ s.tab Tab.resvCause n = 0 ∧ r ≤ s.clock.ptp then
      State.done ((s.setTab Tab.resvState n 2).setTab Tab.resvReturn n s.clock.ptp)
    else .next s

/-! ### The bound query (R342) -/

/-- The effect of a write to RESV of BOUND_QUERY. -/
def boundQueryEffect (n : Nat) (s : State) : Res :=
  let by' := fun t => (List.range 643).foldl (fun v p => setEntry 643 4 v p (s.tab t (n * 1024 + p))) 0
  Res.done (((s.setReg Reg.BOUND_QUERY.RESV n).setReg Reg.BOUND_QUERY.D_BY_PORT (by' Tab.resvD)).setReg
    Reg.BOUND_QUERY.DMIN_BY_PORT (by' Tab.resvDminPort))

/-- BOUND_QUERY (R342). -/
def execBoundQuery (w : SessionNo) (n : ResvNo) (s : State) : Next :=
  (s.hostWrite w 0x6801 0x01 n (boundQueryEffect n)).next

end Sys2Proof.Machine
end

