-- ==== Sys2Proof/Machine/Lanes.lean ====
section
/-!
DEFINITION. Lanes (R147 to R166): bring-up, retraining, elastic buffers, taps, tests and the eye monitor; and the octets
that make ports of them (R167 to R170).
-/
namespace Sys2Proof.Machine

/-! ### States of a lane (R153, R157, R159, R162) -/

def State.lane (s : State) (n sub : Nat) : Nat := s.reg (laneKey n sub)
def State.setLane (s : State) (n sub v : Nat) : State := s.setReg (laneKey n sub) v

/-- Hardware sets flag `i` of a lane's EVENTS (R166). -/
def State.laneEvent (s : State) (n i : Nat) : State := s.event (laneKey n 0x2F) i n

/-- A running eye scan stops (R162): the points not yet scanned read 0xFF, the others keep their counts. Which had been scanned is free:
the spec gives the scan no order (log entry 29). -/
def State.stopEye (s : State) (n : Nat) : State :=
  if s.lane n 0x24 ≠ 1 then s
  else
    let scanned := s.freeBelow (2 ^ 2048)
    let map := ofBE ((List.range 2048).map (fun i => if bit scanned i then octetsAt 2048 (s.lane n 0x27) i 1 else 0xFF))
    ((((s.drew.setLane n 0x27 map).setLane n 0x25 0).setLane n 0x26 0).setLane n 0x24 3)

/-- The checker of lane `n` stops: what it has compared while locked is added, bits and bits in error. Where no command says how much that
is, it is free (R161, log entry 29). -/
def State.endCheck (s : State) (n : Nat) : State :=
  if s.lane n 0x1F = 0 then s
  else
    let counted := s.freeBelow (2 ^ 64)
    let s := s.drew
    let errors := s.freeBelow (counted + 1)
    (((s.drew.bump (laneKey n 0x20) 64 counted).bump (laneKey n 0x21) 64 errors).setLane n 0x1F 0)

/-- The port of lane `n` follows its lanes: frames being received end where the lane left DATA. -/
def State.portFollows (s : State) (n : Nat) (left stomp : Bool) : State :=
  match s.portOfLane n with
  | none => s
  | some p => (s.when left (·.cutArrivals p)).lanesChanged p stomp

/-- A lane enters a state; `stomp`: its transmitter keeps running. -/
def State.laneTo (s : State) (n st : Nat) (stomp : Bool) : State :=
  let old := s.laneState n
  if old = st then s
  else
    let s := s.when (old == 6 || old == 8) (·.stopEye n)
    let s := (s.when (old == 8) (·.endCheck n)).when (old == 6) (·.laneEvent n 3)
    let s := s.setLane n 0x01 st
    let s := s.when (st != 2) (·.setTab Tab.laneForce n 0)
    let s := s.when (st == 0) (·.setLane n 0x13 0)
    s.when (old == 6 || st == 6) (·.portFollows n (old == 6) stomp)

/-- A lane starts bring-up at WAIT_SIGNAL, where it belongs to a port and may transmit. -/
def State.laneRestart (s : State) (n : Nat) (stomp : Bool) : State :=
  s.laneTo n (if s.lane n 0x02 = 0 ∨ s.lane n 0x04 = 0 then 0 else 1) stomp

/-- H0 or H4 runs on its standby slice (R163): the one form in which it is in mode 1. -/
def State.standbySlice (s : State) (n : Nat) : Bool := (n == 512 || n == 516) && s.lane n 0x02 == 1

/-- The lane exchanges training frames in its bring-up (R154, R157, R163). -/
def State.trains (s : State) (n : Nat) : Bool :=
  s.lane n 0x02 != 5 && !s.standbySlice n && (s.lane n 0x08 == 1 || s.tab Tab.laneForce n == 1)

/-! ### The taps at the driver (R150, R154, R163) -/

/-- The five taps at the driver of lane `n`, PRE3 first: as written, or as the far end has asked since; fixed on a standby slice. Modes 1
and 2 use only PRE1, MAIN and POST1. -/
def State.driverTaps (s : State) (n : Nat) : List Int :=
  if s.standbySlice n then [0, 0, -4, 56, -4]
  else (List.range 5).map (fun i =>
    if i < 2 ∧ s.lane n 0x02 ≤ 2 then 0
    else match s.tab Tab.driverTap (8 * n + i) with | 0 => toInt 32 (s.lane n (0x09 + i)) | v + 1 => toInt 32 v)

/-- The driver of lane `n` takes the taps that the far end has requested. -/
def State.requestTaps (s : State) (n : Nat) (taps : List Int) : State :=
  s.forAll (List.range 5) (fun s i => s.setTab Tab.driverTap (8 * n + i) ((taps.getD i 0 % 2 ^ 32).toNat + 1))

/-- The driver of lane `n` uses the written taps. -/
def State.writtenTaps (s : State) (n : Nat) : State := s.forAll (List.range 5) (fun s i => s.setTab Tab.driverTap (8 * n + i) 0)

/-! ### Bring-up (R154) -/

/-- SIGNAL_DETECTED. -/
def execSignalDetected (n : LaneNo) (s : State) : Next :=
  if s.laneState n = 0 then .next s
  else
    let s := s.setLane n 0x13 1
    State.done (if s.laneState n = 1 then s.laneTo n 2 true else s)

/-- CDR_LOCKED: TRAINING, or ADAPTING where the lane skips it and starts from the written taps. -/
def execCdrLocked (n : LaneNo) (s : State) : Next :=
  if s.laneState n ≠ 2 then .next s
  else if s.trains n then State.done (s.laneTo n 3 true)
  else State.done (((s.writtenTaps n).setTab Tab.precoded n 0).laneTo n 4 true)

/-- TRAINING_COMPLETE: the far end's requests supersede the written taps (R150), and mode 4 precodes where that was negotiated (R142). -/
def execTrainingComplete (trained : TrainedLane) (s : State) : Next :=
  let n := trained.lane
  if s.laneState n ≠ 3 then .next s
  else
    State.done (((s.requestTaps n trained.taps).setTab Tab.precoded n (ofBool (trained.precode && s.lane n 0x02 == 4))).laneTo n 4 true)

/-- The receiver's values, those that the mode does not use 0 (R151, R163, R165). -/
def State.adapted (s : State) (n ctle ffe dfe ppm : Nat) : State :=
  let m := s.lane n 0x02
  let ffe := ffe % 2 ^ 512
  let dfe := dfe % 2 ^ 256
  let standby := s.standbySlice n
  let ffe := if standby then 0 else if m ≤ 2 then ffe / 2 ^ 384 * 2 ^ 384 else ffe
  let dfe := if 3 ≤ m then dfe / 2 ^ 224 * 2 ^ 224 else if standby then dfe / 2 ^ 96 * 2 ^ 96 else dfe
  (((s.setLane n 0x10 (ctle % 32)).setLane n 0x11 ffe).setLane n 0x12 dfe).setLane n 0x14 (ppm % 2 ^ 32)

/-- ADAPTATION_CONVERGED: in ADAPTING the lane goes on to ALIGNING; the receiver adapts in RETRAIN too, and in DATA while
ADAPT_MODE is 1, or on a standby slice (R152, R157, R163). -/
def execAdaptationConverged (n : LaneNo) (ctle ffe dfe ppm : Nat) (s : State) : Next :=
  let st := s.laneState n
  if st = 4 then State.done ((s.adapted n ctle ffe dfe ppm).laneTo n 5 true)
  else if st = 7 ∨ (st = 6 ∧ (s.lane n 0x0F = 1 ∨ s.standbySlice n = true)) then State.done (s.adapted n ctle ffe dfe ppm)
  else .next s

/-- DATA_ENTERED: from ALIGNING, or back from RETRAIN. -/
def execDataEntered (n : LaneNo) (s : State) : Next :=
  if s.laneState n = 5 ∨ s.laneState n = 7 then State.done ((s.laneEvent n 4).laneTo n 6 true) else .next s

/-- TRAINING_FAILED. -/
def execTrainingFailed (n : LaneNo) (s : State) : Next :=
  if s.laneState n = 3 then State.done ((s.laneEvent n 8).laneTo n 1 true) else .next s

/-- BRINGUP_SIGNAL_LOST. -/
def execBringupSignalLost (n : LaneNo) (s : State) : Next :=
  if 2 ≤ s.laneState n ∧ s.laneState n ≤ 5 then State.done ((s.setLane n 0x13 0).laneTo n 1 true) else .next s

/-! ### Departures from DATA (R155 to R157) -/

/-- A lane in DATA leaves it under a cause: fast retrain, or bring-up at CDR_LOCK with training for cause 6. -/
def State.leaveData (s : State) (n cause : Nat) : State :=
  if s.laneState n ≠ 6 then s
  else
    let s := (s.setLane n 0x1B cause).bump (laneKey n 0x1A) 32
    let s := s.when (decide (cause ≤ 3)) (·.laneEvent n (cause - 1))
    if cause = 6 then (s.setTab Tab.laneForce n 1).laneTo n 2 true else s.laneTo n 7 true

/-- SIGNAL_LOST (R155): SIGNAL_DETECT has been false for 1 µs. -/
def execSignalLost (n : LaneNo) (s : State) : Next :=
  if 6 ≤ s.laneState n then State.done ((s.setLane n 0x13 0).leaveData n 1) else .next s

/-- CDR_UNLOCK (R155). -/
def execCdrUnlock (n : LaneNo) (s : State) : Next := State.done (s.leaveData n 2)

/-- LOCK_LOST (R155). -/
def execLockLost (n : LaneNo) (s : State) : Next := State.done (s.leaveData n 3)

/-- The lowest lane of lane `n`'s port, which holds what belongs to the port. -/
def State.lowLane (s : State) (n : Nat) : Nat := match s.portOfLane n with | none => n | some p => (s.lanesOf p).headD n

/-- Uncorrected codewords of lane `n`'s port in this island millisecond (R155). -/
def State.uncorrectedNow (s : State) (n : Nat) : Nat :=
  let v := s.tab Tab.uncorrected (s.lowLane n)
  if v / 2 ^ 32 = s.clock.island / 400000 + 1 then v % 2 ^ 32 else 0

/-- UCW_RETRAIN (R155): the uncorrected codewords of the port have reached the lane's limit within the millisecond. -/
def execUcwRetrain (n : LaneNo) (s : State) : Next :=
  if s.lane n 0x16 = 1 ∧ s.lane n 0x17 ≤ s.uncorrectedNow n then State.done (s.leaveData n 4) else .next s

/-- The effect of a write to RETRAIN (R157). -/
def retrainEffect (n v : Nat) (s : State) : Res := Res.done (if v = 1 then s.leaveData n 5 else s)

/-- The object index of a lane. -/
def laneIdx (n : Nat) : Nat := if n < 512 then 0x1000 + n else 0x1200 + (n - 512)

/-- RETRAIN (R157). -/
def execRetrain (w : SessionNo) (n : LaneNo) (s : State) : Next :=
  (s.hostWrite w (laneIdx n) 0x19 1 (retrainEffect n 1)).next

/-- FAR_END_TRAINING (R155, R157). -/
def execFarEndTraining (n : LaneNo) (s : State) : Next := State.done (s.leaveData n 6)

/-- FAST_RETRAIN_TIMEOUT (R157). -/
def execFastRetrainTimeout (n : LaneNo) (s : State) : Next :=
  if s.laneState n = 7 then State.done (s.laneTo n 1 true) else .next s

/-- TX_PLL_UNLOCK (R157): the transmit side stops; the lane brings up again from WAIT_SIGNAL. -/
def execTxPllUnlock (n : LaneNo) (s : State) : Next :=
  if s.laneState n = 0 ∨ s.laneState n = 8 then .next s else State.done (s.laneTo n 1 false)

/-! ### Errors (R143, R156) -/

/-- SER_ALARM (R143, R156, R165): the end of an island millisecond, with what the lane has counted in it: corrected symbols and, on the
port's lowest lane, the port's codewords by their corrected symbols; without FEC, blocks with an invalid sync header. -/
def execSerAlarm (n : LaneNo) (errors : LaneErrors) (s : State) : Next :=
  if s.laneState n ≠ 6 then .next s
  else if s.lane n 0x03 = 0 then
    State.done (s.when ([1, 2, 5].contains (s.lane n 0x02)) (·.count (Ctr.lane n 3) errors.blocks))
  else
    let most := if s.lane n 0x03 = 1 then 7 else 15
    let bins := if s.lowLane n = n then (errors.codewords.take (most + 1)).zipIdx else []
    let s := s.forAll bins (fun s b => s.count (Ctr.lane n (6 + b.2)) b.1)
    let s := s.count (Ctr.lane n 4) ((bins.drop 1).map (·.1)).sum
    let s := s.count (Ctr.lane n 2) errors.symbols
    State.done (s.when (decide (s.lane n 0x18 < errors.symbols)) (·.laneEvent n 5))

/-- UNCORRECTED_CW (R143): every frame that overlaps the codeword ends in error. -/
def execUncorrectedCw (n : LaneNo) (s : State) : Next :=
  match s.portOfLane n with
  | none => .next s
  | some p =>
    if s.lane n 0x03 = 0 ∨ s.laneState n ≠ 6 then .next s
    else
      let l := s.lowLane n
      let seen := min (s.uncorrectedNow n + 1) (2 ^ 32 - 1)
      let s := s.setTab Tab.uncorrected l ((s.clock.island / 400000 + 1) * 2 ^ 32 + seen)
      State.done (((s.laneEvent n 6).count (Ctr.lane l 5)).cutArrivals p)

/-! ### Elastic buffers (R148, R149) -/

/-- The fill of an elastic buffer of the port of lowest lane `l`. -/
def State.setFill (s : State) (l : Nat) (tx : Bool) (fill : Nat) : State :=
  if tx then s.setTab Tab.elasticTx l fill else s.setLane l 0x15 fill

/-- A gap arrives at an elastic buffer, which the two clocks have brought to `fill` units and which is left with `fill'`; counter `k` of
shims. -/
def State.shim (s : State) (n : Nat) (tx act : Bool) (fill fill' k : Nat) : State :=
  let l := s.lowLane n
  (s.setFill l tx (if act then fill' else fill)).when act (·.count (Ctr.lane l k))

/-- SHIM_DELETE (R148): at 40 units or more, from a gap of at least 12 octets. -/
def execShimDelete (n : LaneNo) (tx : Bool) (fill : Fin 65) (gap : Nat) (s : State) : Next :=
  if s.laneState n ≠ 6 then .next s
  else State.done (s.shim n tx (decide (40 ≤ fill.val) && decide (12 ≤ gap)) fill (fill - 1) 1)

/-- SHIM_INSERT (R148): at 24 units or fewer. -/
def execShimInsert (n : LaneNo) (tx : Bool) (fill : Fin 65) (s : State) : Next :=
  if s.laneState n ≠ 6 then .next s
  else State.done (s.shim n tx (decide (fill.val ≤ 24)) fill (fill.val + 1) 0)

/-- Frames being received on port `p` end under RX_ELASTIC. -/
def State.elasticRx (s : State) (p : Nat) : State :=
  s.forAll (s.frames.filter (fun f => f.srcPort == p && !f.tailed)) (fun s f =>
    match s.frame? f.id with
    | none => s
    | some f =>
      let len := f.octets.length
      let s := s.countRx p len Drop.rxElastic
      if f.stage = 0 ∧ isMacControl f.octets = true then s.dropWhole { f with tailed := true, len := len } Drop.rxElastic
      else s.endArrival f Drop.rxElastic len)

/-- ELASTIC_FAULT (R149): the frame in progress in that direction ends in error and the buffer is re-centred. -/
def execElasticFault (n : LaneNo) (tx : Bool) (s : State) : Next :=
  match s.portOfLane n with
  | none => .next s
  | some p =>
    if s.laneState n ≠ 6 then .next s
    else
      let l := s.lowLane n
      let s := if tx then s.endCopies (fun c => c.port == p && c.phase == 2) Drop.rxElastic true
        else s.elasticRx p
      State.done ((s.setFill l tx 32).laneEvent l 7)

/-! ### Transmit taps (R150) -/

/-- The limits of R150 hold for the five taps, PRE3 first. -/
def tapsOk (t : List Int) : Bool :=
  let x := fun i => t.getD i 0
  0 ≤ x 0 && x 0 ≤ 4 && 0 ≤ x 1 && x 1 ≤ 8 && -22 ≤ x 2 && x 2 ≤ 0 && -13 ≤ x 4 && x 4 ≤ 0 && 32 ≤ x 3
    && (t.map Int.natAbs).sum ≤ 64

/-- The effect of a write to tap `i` of a lane. -/
def tapEffect (n i v : Nat) (s : State) : Res :=
  let taps := (List.range 5).map (fun k => toInt 32 (if k = i then v else s.lane n (0x09 + k)))
  if !tapsOk taps then Res.fail s Code.range
  else if s.laneState n = 3 then Res.fail s Code.resourceOwned
  else Res.done ((s.setLane n (0x09 + i) v).setTab Tab.driverTap (8 * n + i) 0)

/-- TX_TAP_WRITE (R150). -/
def execTxTapWrite (w : SessionNo) (n : LaneNo) (tap : Fin 5) (value : Nat) (s : State) : Next :=
  (s.hostWrite w (laneIdx n) (0x09 + tap) value (tapEffect n tap value)).next

/-! ### Loopbacks and patterns (R158 to R161) -/

/-- The pattern may be written in the lane's mode (R160). -/
def patternOk (mode v : Nat) (rx : Bool) : Bool :=
  if v ≤ 6 then true
  else if v = 7 ∨ v = 8 then 3 ≤ mode && mode ≤ 5
  else if v = 9 then mode == 4
  else v == 10 && !rx

/-- LOOPBACK, PRBS_TX or PRBS_RX is non-zero. -/
def State.testing (s : State) (n : Nat) : Bool := s.lane n 0x1C != 0 || s.lane n 0x1D != 0 || s.lane n 0x1E != 0

/-- The lane enters TEST, or leaves it when all three are 0 (R159). -/
def State.followTest (s : State) (n : Nat) : State :=
  if s.testing n then s.laneTo n 8 false
  else if s.laneState n = 8 then s.laneRestart n false
  else s

/-- What the line transmitter of a lane sends (R153, R158, R160). -/
inductive LineTx where
  /-- Nothing: electrical idle. -/
  | idle
  /-- The PCS's data, in normal operation and in a near-end parallel loopback. -/
  | data
  /-- The pattern that PRBS_TX selects. -/
  | pattern (n : Nat)
  /-- The received symbols, retimed on the recovered clock. -/
  | received
deriving DecidableEq, Repr

/-- Where the receiver of a lane, or its receive PCS, takes its input from (R158). -/
inductive LineRx where
  /-- The line. -/
  | line
  /-- The lane's own serialiser output. -/
  | serialiser
  /-- The transmit PCS's data, before the serialiser. -/
  | pcs
  /-- The line, and nothing is delivered to the PCS. -/
  | none
deriving DecidableEq, Repr

/-- The line transmitter of lane `n`. A pattern takes the place of the PCS's data (R160). -/
def State.lineTx (s : State) (n : Nat) : LineTx :=
  if s.laneState n = 0 then .idle
  else match s.lane n 0x1C with
    | 1 => .idle
    | 3 => .received
    | _ => if s.lane n 0x1D = 0 then .data else .pattern (s.lane n 0x1D)

/-- The receive path of lane `n`. -/
def State.lineRx (s : State) (n : Nat) : LineRx :=
  match s.lane n 0x1C with | 1 => .serialiser | 2 => .pcs | 3 => .none | _ => .line

/-- The effect of a write to LOOPBACK. -/
def loopbackEffect (n v : Nat) (s : State) : Res := Res.done ((s.setLane n 0x1C v).followTest n)

/-- The effect of a write to PRBS_TX. -/
def prbsTxEffect (n v : Nat) (s : State) : Res :=
  if patternOk (s.lane n 0x02) v false then Res.done ((s.setLane n 0x1D v).followTest n) else Res.fail s Code.range

/-- The effect of a write to PRBS_RX: the checker seeks lock anew. -/
def prbsRxEffect (n v : Nat) (s : State) : Res :=
  if patternOk (s.lane n 0x02) v true then Res.done (((s.endCheck n).setLane n 0x1E v).followTest n)
  else Res.fail s Code.range

/-- LOOPBACK (R158, R159). -/
def execLoopback (w : SessionNo) (n : LaneNo) (value : Nat) (s : State) : Next :=
  (s.hostWrite w (laneIdx n) 0x1C value (loopbackEffect n value)).next

/-- PRBS_TX (R159, R160). -/
def execPrbsTx (w : SessionNo) (n : LaneNo) (value : Nat) (s : State) : Next :=
  (s.hostWrite w (laneIdx n) 0x1D value (prbsTxEffect n value)).next

/-- PRBS_RX (R159, R160). -/
def execPrbsRx (w : SessionNo) (n : LaneNo) (value : Nat) (s : State) : Next :=
  (s.hostWrite w (laneIdx n) 0x1E value (prbsRxEffect n value)).next

/-- PRBS_LOCK (R161): 128 matching bits. -/
def execPrbsLock (n : LaneNo) (s : State) : Next :=
  if s.laneState n = 8 ∧ s.lane n 0x1E ≠ 0 then State.done (s.setLane n 0x1F 1) else .next s

/-- PRBS_LOCK_LOST (R161): what was compared while locked is added. -/
def execPrbsLockLost (n : LaneNo) (counted errors : Nat) (s : State) : Next :=
  if s.lane n 0x1F = 0 then .next s
  else State.done (((s.bump (laneKey n 0x20) 64 counted).bump (laneKey n 0x21) 64 errors).setLane n 0x1F 0)

/-- The effect of a write to PRBS_CLEAR. -/
def prbsClearEffect (n v : Nat) (s : State) : Res :=
  Res.done (if v = 1 then (s.setLane n 0x20 0).setLane n 0x21 0 else s)

/-- PRBS_CLEAR (R161). -/
def execPrbsClear (w : SessionNo) (n : LaneNo) (s : State) : Next :=
  (s.hostWrite w (laneIdx n) 0x22 1 (prbsClearEffect n 1)).next

/-! ### The eye monitor (R162) -/

/-- The effect of a write to EYE_START; while the scan runs, EYE_MAP is being written. -/
def eyeStartEffect (n v : Nat) (s : State) : Res :=
  if (s.lane n 0x02 = 1 ∨ s.lane n 0x02 = 2) ∧ v ≠ 1 then Res.fail s Code.range
  else if s.lane n 0x24 = 1 then Res.fail s Code.busyRetry
  else Res.done ((s.drew.setLane n 0x27 (s.freeBelow (256 ^ 2048))).setLane n 0x24 1)

/-- EYE_START (R162). -/
def execEyeStart (w : SessionNo) (n : LaneNo) (eye : Nat) (s : State) : Next :=
  (s.hostWrite w (laneIdx n) 0x23 eye (eyeStartEffect n eye)).next

/-- The run of zeros through position `c` of a list; 0 where it is not zero there. -/
def zeroRun (l : List Nat) (c : Nat) : Nat :=
  if l.getD c 1 ≠ 0 then 0
  else ((l.take c).reverse.takeWhile (· == 0)).length + ((l.drop c).takeWhile (· == 0)).length

/-- EYE_SCAN_DONE (R162): the map, phase by phase, and what it gives; the centre is phase 16, offset 32. A width that is no whole
number of mUI is rounded either way (R162 gives no rounding). -/
def execEyeScanDone (n : LaneNo) (map : Bytes) (s : State) : Next :=
  if s.lane n 0x24 ≠ 1 then .next s
  else
    let m := (map ++ List.replicate (2048 - map.length) 0xFF).take 2048
    let height := 4 * zeroRun ((m.drop 1024).take 64) 32
    let run := zeroRun ((List.range 32).map (fun ph => m.getD (64 * ph + 32) 1)) 16
    let exact := 125 * run % 4 == 0
    let width := 125 * run / 4 + (if exact then 0 else s.freeBelow 2)
    let s := s.when (!exact) State.drew
    State.done ((((s.setLane n 0x27 (ofBE m)).setLane n 0x25 height).setLane n 0x26 width).setLane n 0x24 2)

/-! ### Writes of other lane registers -/

/-- The effect of a write to TX_ENABLE (R153, R157). -/
def txEnableEffect (n v : Nat) (s : State) : Res :=
  let s := s.setLane n 0x04 v
  Res.done (if v = 0 then s.laneTo n 0 false
    else if s.laneState n = 0 then (if s.testing n then s.laneTo n 8 false else s.laneRestart n false) else s)

/-! ### Octets (R167 to R170, R184) -/

/-- Sub-index `i` of octet `o` as written, and as in effect. -/
def State.octetWritten (s : State) (o i : Nat) : Nat := s.reg (regKey (0x1800 + o) i)
def State.octetInEffect (s : State) (o i : Nat) : Nat := s.tab Tab.octetEffect (16 * o + i)

/-- PENDING of octet `o`. -/
def State.octetPending (s : State) (o : Nat) : Bool :=
  (List.range 10).any (fun i => s.octetWritten o (i + 1) != s.octetInEffect o (i + 1))

/-- Positions and widths that a LAYOUT gives (R167). -/
def layoutPorts (l : Nat) : List (Nat × Nat) :=
  let quad := fun (c base : Nat) => match c with
    | 1 => (List.range 4).map (fun k => (base + k, 1))
    | 2 => [(base, 2), (base + 2, 2)]
    | 3 => [(base, 4)]
    | _ => []
  if bit l 4 then [(0, 8)] else quad (bits l 1 0) 0 ++ quad (bits l 3 2) 4

/-- The lane mode of a form (R168); none where the width does not permit the code, 0 for code 0. -/
def formMode (code width : Nat) : Option Nat :=
  match code, width with
  | 0, _ => some 0 | 1, 1 => some 1 | 2, 1 => some 2 | 3, 1 => some 3 | 4, 1 => some 4 | 4, 2 => some 3 | 5, 2 => some 4
  | 5, 4 => some 3 | 6, 4 => some 4 | 6, 8 => some 3 | 7, 8 => some 4 | 8, 8 => some 5 | _, _ => none

/-- The FEC of a form (R168). -/
def formFec (code : Nat) (fec25 : Bool) : Nat :=
  if code = 2 then ofBool fec25 else if 3 ≤ code ∧ code ≤ 7 then 2 else 0

/-- The written values pass R169. -/
def State.octetOk (s : State) (o : Nat) : Bool :=
  let l := s.octetWritten o 1
  let code := fun k => s.octetWritten o (2 + k)
  let ports := layoutPorts l
  bits l 7 5 == 0 && (!bit l 4 || bits l 3 0 == 0)
    && ports.all (fun x => (formMode (code x.1) x.2).isSome)
    && (List.range 8).all (fun k => ports.any (fun x => x.1 == k) || code k == 0)
    && (List.range 8).all (fun k => !bit (s.octetWritten o 10) k || (ports.any (fun x => x.1 == k) && code k == 2))

/-- The reservations whose record, live or accepted, satisfies `f` are WITHDRAWN (R43). -/
def State.withdrawWhere (s : State) (f : Nat → Bool) : State :=
  let ns := ((s.resvList.filter s.resvLive).filter (fun n => f (s.resvRecord n))
    ++ (s.scheduledResvs.filter (fun e => resvValid e.2 && f e.2)).map (·.1)).eraseDups
  if ns.isEmpty then s
  else ((s.forAll ns (fun s n => s.withdraw n none false)).refreshResvTotals).drained

/-- The form that octet `o`'s values, given by `val`, assign to position `k`: width and code; none where no port starts. -/
def formAt (val : Nat → Nat) (k : Nat) : Option (Nat × Nat) :=
  match (layoutPorts (val 1)).find? (fun x => x.1 == k) with
  | none => none
  | some x => if val (2 + k) = 0 then none else some (x.2, val (2 + k))

/-- Port `p` takes a form, or becomes unused. -/
def State.setForm (s : State) (p : Nat) (form : Option (Nat × Nat)) (fec25 : Bool) : State :=
  let (kind, width, code) := match form with | none => (0, 0, 0) | some (w, c) => (if c = 8 then 2 else 1, w, c)
  let s := ((s.setReg (Reg.PORT.KIND p) kind).setReg (Reg.PORT.WIDTH p) width).setReg (Reg.PORT.PORT_SPEED p) code
  ((s.setReg (Reg.PORT.FEC_MODE p) (formFec code fec25)).setReg (Reg.PORT.DALZAN_STATE p) 0).setTab Tab.portFault p 0

/-- The mode of lane `k` of an octet, and its FEC. -/
def laneForm (val : Nat → Nat) (k : Nat) : Nat × Nat :=
  match (layoutPorts (val 1)).find? (fun x => x.1 ≤ k && k < x.1 + x.2) with
  | none => (0, 0)
  | some x => ((formMode (val (2 + x.1)) x.2).getD 0, formFec (val (2 + x.1)) (bit (val 10) x.1))

/-- The octet is reconfigured to the values `val` of its sub-indices 1 to 10 (R170). -/
def State.reconfigure (s : State) (o : Nat) (val : Nat → Nat) : State :=
  let ports := (List.range 8).map (8 * o + ·)
  let s := s.forAll ports (fun s p => (s.cutArrivals p).setLink p (if s.portKind p = 0 then 0 else 1) false)
  let s := s.withdrawWhere (fun v => ports.any (fun p => s.namesPort p v))
  let s := s.forAll (ports.filter (fun p => s.portKind p == 2)) (fun s p => s.forAll (List.range 16) (fun s q => s.reclaimLost p q))
  let s := s.forAll (List.range 8) (fun s k => s.setForm (8 * o + k) (formAt val k) (bit (val 10) k))
  let s := s.forAll (ports.filter (fun p => s.portKind p == 0)) (fun s p =>
    s.endCopies (fun c => c.port == p) Drop.unusedDest false)
  let s := s.forAll (List.range 10) (fun s i => s.setTab Tab.octetEffect (16 * o + i + 1) (val (i + 1)))
  let s := s.forAll (List.range 8) (fun s k =>
    let n := 8 * o + k
    let (m, fec) := laneForm val k
    let s := ((s.setLane n 0x1C 0).setLane n 0x1D 0).setLane n 0x1E 0
    let s := (s.laneTo n 0 false).setLane n 0x02 m
    (s.setLane n 0x03 fec).laneRestart n false)
  let s := s.forAll ports (fun s p => s.refreshLink p false)
  s.refreshPartner

/-- The effect of a write to APPLY (R169, R170). -/
def octetApplyEffect (o v : Nat) (s : State) : Res :=
  if v = 0 then Res.done s
  else if !s.octetOk o then Res.fail s Code.range
  else if !s.octetPending o then Res.done s
  else Res.done ((s.reconfigure o (s.octetWritten o)).bump (regKey (0x1800 + o) 0x0D) 32)

/-- APPLY (R169, R170). -/
def execApply (w : SessionNo) (octet : Fin 64) (s : State) : Next :=
  (s.hostWrite w (0x1800 + octet) 0x0B 1 (octetApplyEffect octet 1)).next

end Sys2Proof.Machine
end

