-- ==== Sys2Proof/Machine/Counters.lean ====
section
/-!
DEFINITION. Counters, histograms, energy and telemetry (R372, R505 to R520): snapshot groups and their export, chaining, commits of
counters, histogram commands, the energy interval, telemetry streams, and counter watches.
-/
namespace Sys2Proof.Machine

/-! ### Elements (R507) -/

/-- The LIVE element of counter `n`. -/
def State.counterElem (s : State) (n : Nat) : Nat := ofBool (s.isChained n) * 2 ^ 63 + bits (s.tab Tab.counter n) 62 0

/-- What counter `n` counts, over both halves where it is chained. -/
def State.fullCount (s : State) (n : Nat) : Nat :=
  if s.isChained n then s.counter (n / 2 * 2 + 1) * 2 ^ 48 + s.counter (n / 2 * 2) else s.counter n

/-- Bits of what counter `n` counts. -/
def State.countWidth (s : State) (n : Nat) : Nat := if s.isChained n then 96 else 48

/-! ### Snapshot groups (R509, R517) -/

/-- The latch of group `g` is exported on stream `t`, unless its previous export is unfinished. -/
def State.startExport (s : State) (g t : Nat) : State :=
  if s.tab Tab.exporting (8 * g) ≠ 0 then s.bump (Reg.SNAPSHOT_GROUP.EXPORT_SKIPPED g) 32
  else
    let n := s.reg (Reg.SNAPSHOT_GROUP.COUNT g)
    let s := s.forAll (List.range n) (fun s i => s.setTab Tab.exportData (g * 8192 + i) (s.tab Tab.snapLatch (g * 8192 + i)))
    let order := s.tab Tab.exporting 128
    let s := ((s.setTab Tab.exporting (8 * g) 1).setTab Tab.exporting (8 * g + 1) n).setTab Tab.exporting (8 * g + 2) (s.reg (Reg.SNAPSHOT_GROUP.BASE g))
    ((s.setTab Tab.exporting (8 * g + 3) t).setTab Tab.exporting (8 * g + 4) order).setTab Tab.exporting 128 (order + 1)

/-- Snapshot group `g` latches its counters (R509). -/
def State.latchGroup (s : State) (g : Nat) : State :=
  let base := s.reg (Reg.SNAPSHOT_GROUP.BASE g)
  let s := s.clearTabRange Tab.snapLatch (g * 8192) ((g + 1) * 8192)
  let s := s.forAll (List.range (s.reg (Reg.SNAPSHOT_GROUP.COUNT g))) (fun s i => s.setTab Tab.snapLatch (g * 8192 + i) (s.counterElem (base + i)))
  let s := (s.setReg (Reg.SNAPSHOT_GROUP.SNAP_TIME g) s.stamp).bump (Reg.SNAPSHOT_GROUP.SNAPS g) 32
  let s := s.event (Reg.SNAPSHOT_GROUP.EVENTS g) 0 (0x1E10 + g)
  let t := s.reg (Reg.SNAPSHOT_GROUP.EXPORT_STREAM g)
  s.when (decide (t < 4)) (·.startExport g t)

/-- The effect of a write to SNAP of group `g`. -/
def snapEffect (g v : Nat) (s : State) : Res := Res.done (s.when (v == 1) (·.latchGroup g))

/-- SNAP (R509). -/
def execSnap (w : SessionNo) (g : Fin 16) (s : State) : Next := (s.hostWrite w (0xA200 + g) 0x05 1 (snapEffect g 1)).next

/-- CYCLE_START (R372, R509): the cycle of group `g` starts, and the snapshot groups that it triggers latch. -/
def execCycleStart (g : GroupNo) (s : State) : Next :=
  if s.groupsAct = false then .next s
  else
    let t := s.cycleStart g
    let started := t.reg (Reg.CYCLE_GROUP.CYCLE_NUMBER g) != s.reg (Reg.CYCLE_GROUP.CYCLE_NUMBER g)
    let groups := (List.range 16).filter (fun k => t.reg (Reg.SNAPSHOT_GROUP.TRIGGER k) == 1 && t.reg (Reg.SNAPSHOT_GROUP.CYCLE_GROUP k) == g)
    State.done (t.when started (·.forAll groups State.latchGroup))

/-! ### Chaining (R505, R506) -/

/-- The effect of a write of `data` at octet `off` of CHAIN_MAP: a bit may change only for a pair of free counters. -/
def chainMapEffect (off : Nat) (data : Bytes) (s : State) : Res :=
  let changes := data.zipIdx.flatMap (fun p => ((List.range 8).map (fun k => (8 * (off + p.2) + k, bit p.1 k))).filter
    (fun c => c.2 != s.isChained (2 * c.1)))
  if changes.all (fun c => ctrClass (2 * c.1) == .free && ctrClass (2 * c.1 + 1) == .free) then
    Res.done (s.forAll changes (fun s c => s.setTab Tab.chained c.1 (ofBool c.2)))
  else Res.fail s Code.range

/-- CHAIN_MAP (R505, R506): a write of the whole map. -/
def execChainMap (w : SessionNo) (value : Nat) (s : State) : Next :=
  (s.hostWrite w 0xA000 0x02 value (chainMapEffect 0 (toBE 16384 value))).next

/-! ### Commits of 0xA100 (R507, R508) -/

/-- An element may be staged for counter `n`. -/
def counterElemOk (n v : Nat) : Bool := bits v 63 63 == 0 && bits v 59 48 == 0 && ctrClass n != .reserved

/-- The staged value of counter `n`, where the commit writes it. -/
def writtenValue (elems : SMap Nat) (n : Nat) : Option Nat :=
  match elems.find? (fun e => e.1 == n) with
  | none => none
  | some e => if bit e.2 60 then some (bits e.2 47 0) else none

/-- CARRY_DURING_WRITE is set on counter `e`. -/
def State.carryDuringWrite (s : State) (e : Nat) : State :=
  let s := s.setTab Tab.counter e (setBit (s.tab Tab.counter e) 61 true)
  (s.bump Reg.COUNTER_CONTROL.CARRIES_DURING_WRITE 64).event Reg.COUNTER_CONTROL.EVENTS 1 0x1E01

/-- The clock of a write for the unchained counter `n`, with `amt` posted to it. -/
def State.writeCounter (s : State) (n amt : Nat) (w : Option Nat) : State :=
  match w with
  | none => s.when (amt != 0) (·.count n amt)
  | some v =>
    let wraps := decide (2 ^ 48 ≤ s.counter n + amt)
    (s.setCounter n v).when wraps (·.overflowed n)

/-- The clock of a write for the chained pair at even counter `e`, with `amt` posted to either half: `w0`, `w1` the values
written. -/
def State.writePair (s : State) (e amt : Nat) (w0 w1 : Option Nat) : State :=
  let sum := s.counter e + amt
  let carry := sum / 2 ^ 48
  let high := w1.getD (s.counter (e + 1)) + carry
  let written := w0.isSome || w1.isSome
  let s := (s.setCounter e (w0.getD (sum % 2 ^ 48))).setCounter (e + 1) (high % 2 ^ 48)
  let s := s.when (written && carry != 0) (·.carryDuringWrite e)
  s.when (decide (2 ^ 48 ≤ high)) (·.overflowed e)

/-- The core clock T of a commit of the catalogue: flags cleared, values written, and the events posted in T (R508). -/
def State.applyCounters (s : State) (elems : SMap Nat) (posts : List (Nat × Nat)) : State :=
  let s := s.forAll elems (fun s e =>
    let v := s.tab Tab.counter e.1
    let v := if bit e.2 62 then setBit v 62 false else v
    s.setTab Tab.counter e.1 (if bit e.2 61 then setBit v 61 false else v))
  let posts := posts.filter (fun p => p.1 < 262144 && ctrClass p.1 != .reserved)
  let units := ((elems.map (·.1) ++ posts.map (·.1)).map (fun n => if s.isChained n then n / 2 * 2 else n)).eraseDups
  s.forAll units (fun s n =>
    let posted := fun k => ((posts.filter (fun p => p.1 == k)).map (·.2)).sum
    if s.isChained n then s.writePair n (posted n + posted (n + 1)) (writtenValue elems n) (writtenValue elems (n + 1))
    else s.writeCounter n (posted n) (writtenValue elems n))

/-- The checks and the application of a commit of 0xA100. -/
def commitCounters (elems : SMap Nat) (posts : List (Nat × Nat)) (s : State) : Res :=
  if elems.all (fun e => counterElemOk e.1 e.2) then Res.done (s.applyCounters elems posts) else Res.fail s Code.range

/-! ### Histograms (R510 to R512) -/

/-- Elements and octets of an element of a histogram window. -/
def histElems (window : Nat) : Nat := if window = 0xA300 then 10288 else 65536
def histBytes (window : Nat) : Nat := if window = 0xA300 then 128 else 160

/-- LIVE element `x` of a histogram window. -/
def State.histElem (s : State) (window x : Nat) : Nat :=
  let bins := fun t => (List.range 32).foldl (fun v k => v * 2 ^ 32 + s.tab t (x * 32 + k)) 0
  if window = 0xA300 then bins Tab.queueHist
  else (List.range 4).foldl (fun v k => v * 2 ^ 64 + s.tab Tab.resvCount (4 * x + k)) (bins Tab.resvHist)

/-- The effect of a write of `x` to CLEAR of a histogram window. -/
def clearHistEffect (window x : Nat) (s : State) : Res :=
  if histElems window ≤ x then Res.fail s Code.range
  else if window = 0xA300 then Res.done (s.clearTabRange Tab.queueHist (x * 32) (x * 32 + 32))
  else Res.done ((s.clearTabRange Tab.resvHist (x * 32) (x * 32 + 32)).clearTabRange Tab.resvCount (4 * x) (4 * x + 4))

/-- CLEAR (R512). -/
def execClear (w : SessionNo) (window : Nat) (element : Nat) (s : State) : Next :=
  if window = 0xA300 ∨ window = 0xA310 then (s.hostWrite w window 0x21 element (clearHistEffect window element)).next else .next s

/-- Number of a histogram window in its latch tables. -/
def histNo (session window : Nat) : Nat := 2 * session + (if window = 0xA300 then 0 else 1)

/-- A session's latch of a histogram window is gone. -/
def State.dropHistLatch (s : State) (session window : Nat) : State :=
  let i := histNo session window
  (s.setTab Tab.histLatched i 0).clearTabRange Tab.histLatch (i * 2 ^ 16) ((i + 1) * 2 ^ 16)

/-- The effect of a write to SNAPSHOT of a histogram window: the writing session's range is latched. -/
def histSnapshotEffect (session window v : Nat) (s : State) : Res :=
  let s := s.dropHistLatch session window
  if v = 0 then Res.done s
  else
    let i := histNo session window
    let l := (List.range (s.rangeCount session window)).map (s.rangeBase session window + ·)
    Res.done ((s.forAll l (fun s x => s.setTab Tab.histLatch (i * 2 ^ 16 + x) (s.histElem window x))).setTab Tab.histLatched i 1)

/-- HIST_SNAPSHOT (R512). -/
def execHistSnapshot (w : SessionNo) (window : Nat) (s : State) : Next :=
  if window = 0xA300 ∨ window = 0xA310 then (s.hostWrite w window 0x20 1 (histSnapshotEffect w window 1)).next else .next s

/-! ### Energy (R513) -/

/-- The value in effect of sub-index `k` of ENERGY_CONTROL. -/
def State.energyWeight (s : State) (k : Nat) : Nat :=
  match s.tab Tab.interval (256 + k) with | 0 => Dict.dflt (regKey 0xA400 k) | v + 1 => v

/-- Weight of a queue and of a bench in the interval. -/
def State.queueWeight (s : State) (i : Nat) : Nat := s.energyWeight 1 * s.tab Tab.wireOctets i
def State.benchWeight (s : State) (b : Nat) : Nat :=
  s.energyWeight 2 * s.tab Tab.interval b + s.energyWeight 3 * s.tab Tab.interval (128 + b)

/-- The energy of `e` uJ of queue `q` of port `p`: its own counter and, where the port has a partition, that partition's. -/
def State.addQueueEnergy (s : State) (p q e : Nat) : State :=
  let s := s.count (Ctr.queueEnergy p q 0) e
  let n := s.portPart p
  s.when (decide (n < 16)) (fun s => (s.count (Ctr.partEnergy n 2) e).count (Ctr.partEnergy n 0) e)

/-- The energy of `e` uJ of bench `b`, in its port's partition. -/
def State.addBenchEnergy (s : State) (b e : Nat) : State :=
  let n := s.portPart (514 + b)
  (s.count (Ctr.partEnergy n 4) e).count (Ctr.partEnergy n 0) e

/-- Device energy of the interval in whole uJ is attributed, its weights those in effect since the interval began. -/
def State.attribute (s : State) (de : Nat) : State :=
  let permille := de * s.energyWeight 4 + s.tab Tab.interval 300
  let idle := min de (permille / 1000)
  let queues := (s.tabList Tab.wireOctets).filter (fun e => decide (e.1 < 10288) && s.queueWeight e.1 != 0)
  let benches := (List.range 128).filter (fun b => s.benchWeight b != 0)
  let w := (queues.map (fun e => s.queueWeight e.1)).sum + (benches.map s.benchWeight).sum
  let share := fun x => (de - idle) * x / w
  let qs := queues.map (fun e => (e.1, share (s.queueWeight e.1)))
  let bs := benches.map (fun b => (b, share (s.benchWeight b)))
  let t := s.forAll qs (fun s e => s.addQueueEnergy (e.1 / 16) (e.1 % 16) e.2)
  let t := t.forAll bs (fun s e => s.addBenchEnergy e.1 e.2)
  let toParts := ((qs.filter (fun e => e.1 / 16 != 642)).map (·.2)).sum + (bs.map (·.2)).sum
  ((t.count (Ctr.devEnergy 0) de).count (Ctr.devEnergy 2) (de - toParts)).setTab Tab.interval 300 (permille % 1000)

/-- ENERGY_INTERVAL (R513): the interval ends, its energy is attributed, and the weights written meanwhile take effect. -/
def execEnergyInterval (s : State) : Next :=
  if s.coreOn = false then .next s
  else
    let de := s.tab Tab.power 8 / 10000 + s.reg Reg.PMBUS_CONTROL.FIXED_MW
    let s := s.setTab Tab.power 8 (s.tab Tab.power 8 % 10000)
    let s := s.attribute de
    let s := (s.clearTab Tab.wireOctets).clearTabRange Tab.interval 0 256
    let s := (s.bump Reg.ENERGY_CONTROL.INTERVALS 64).setReg Reg.ENERGY_CONTROL.LAST_DE_UJ (de % 2 ^ 32)
    State.done (s.forAll [1, 2, 3, 4] (fun s k => s.setTab Tab.interval (256 + k) (s.reg (regKey 0xA400 k) + 1)))

/-! ### Telemetry streams (R515 to R517) -/

/-- The telemetry header. -/
def State.telemetryHeader (s : State) (t kind count base : Nat) : Bytes :=
  let lost := s.tab Tab.streamLost t
  [16 + kind, ofBool (lost != 0)] ++ toBE 2 (s.reg (Reg.TELEMETRY_STREAM.SOURCE_ID t)) ++ toBE 4 (s.reg (Reg.TELEMETRY_STREAM.FRAMES t))
    ++ toBE 2 count ++ toBE 2 (if kind = 0 then 48 else 8) ++ toBE 4 lost ++ toBE 10 s.stamp ++ toBE 4 base ++ [0, 0]

/-- Records of `bytes` octets that a frame of stream `t` takes at most. -/
def State.recordsFit (s : State) (t bytes : Nat) : Nat :=
  min (s.reg (Reg.TELEMETRY_STREAM.MAX_RECORDS t))
    ((s.maxFrame (s.reg (Reg.TELEMETRY_STREAM.INJECT_PORT t)) - s.reg (Reg.TELEMETRY_STREAM.TEMPLATE_LEN t) - 36) / bytes)

/-- Stream `t` builds a frame. -/
def State.buildStream (s : State) (t kind base : Nat) (records : List Nat) : State :=
  let bytes := if kind = 0 then 48 else 8
  let template := (toBE 128 (s.reg (Reg.TELEMETRY_STREAM.TEMPLATE t))).take (s.reg (Reg.TELEMETRY_STREAM.TEMPLATE_LEN t))
  let b := ipCarriage (s.reg (Reg.TELEMETRY_STREAM.TEMPLATE_L3 t))
    (template ++ s.telemetryHeader t kind records.length base ++ records.flatMap (toBE bytes))
  let f : Built := { port := s.reg (Reg.TELEMETRY_STREAM.INJECT_PORT t), part := s.reg (Reg.TELEMETRY_STREAM.PARTITION t), kind := 3, num := t,
                     octets := b ++ List.replicate (60 - b.length) 0, mirror := none }
  let s := { s with built := s.built ++ [f] }
  ((s.setTab Tab.streamLost t 0).bump (Reg.TELEMETRY_STREAM.FRAMES t) 64).bump (Reg.TELEMETRY_STREAM.RECORDS t) 64 records.length

/-- Stream `t` may build: it is enabled, and fewer than 16 of its frames wait. -/
def State.streamBuilds (s : State) (t : Nat) : Bool :=
  s.coreOn && s.reg (Reg.TELEMETRY_STREAM.ENABLE t) == 1 && decide ((s.built.filter (fun b => b.kind == 3 && b.num == t)).length < 16)

/-- The snapshot group whose export stream `t` carries next. -/
def State.nextExport (s : State) (t : Nat) : Option Nat :=
  ((List.range 16).filter (fun g => s.tab Tab.exporting (8 * g) != 0 && s.tab Tab.exporting (8 * g + 3) == t)).foldl
    (fun best g => match best with
      | none => some g
      | some h => if s.tab Tab.exporting (8 * g + 4) < s.tab Tab.exporting (8 * h + 4) then some g else some h) none

/-- Stream `t` builds the next frame of an export. -/
def State.buildExport (s : State) (t g : Nat) : State :=
  let done := s.tab Tab.exporting (8 * g) - 1
  let n := min (s.recordsFit t 8) (s.tab Tab.exporting (8 * g + 1) - done)
  let recs := (List.range n).map (fun i => s.tab Tab.exportData (g * 8192 + done + i))
  let s := s.buildStream t 1 (s.tab Tab.exporting (8 * g + 2) + done) recs
  if s.tab Tab.exporting (8 * g + 1) ≤ done + n then
    (s.clearTabRange Tab.exporting (8 * g) (8 * g + 8)).clearTabRange Tab.exportData (g * 8192) ((g + 1) * 8192)
  else s.setTab Tab.exporting (8 * g) (done + n + 1)

/-- Stream `t` builds a frame of `n` waiting postcards. -/
def State.buildPostcards (s : State) (t n : Nat) : State :=
  let l := s.fifo (128 + t)
  ((s.buildStream t 0 0 (l.take n)).setFifo (128 + t) (l.drop n)).pullStream t n

/-- TELEMETRY_BUILD (R516, R517): an export first; else a frame's worth of postcards waits. -/
def execTelemetryBuild (t : Fin 4) (s : State) : Next :=
  if s.streamBuilds t = false then .next s
  else
    match s.nextExport t with
    | some g => if s.recordsFit t 8 = 0 then .next s else State.done (s.buildExport t g)
    | none =>
      let n := s.recordsFit t 48
      if n ≠ 0 ∧ n ≤ (s.fifo (128 + t)).length then State.done (s.buildPostcards t n) else .next s

/-- FLUSH_TIMEOUT (R516): FLUSH_US has passed since the oldest waiting record arrived. -/
def execFlushTimeout (t : Fin 4) (s : State) : Next :=
  let n := min (s.recordsFit t 48) (s.fifo (128 + t)).length
  if s.streamBuilds t = false ∨ n = 0 ∨ (s.nextExport t).isSome then .next s else State.done (s.buildPostcards t n)

/-- The effect of a write to ENABLE of stream `t` (R520). -/
def streamEnableEffect (t v : Nat) (s : State) : Res :=
  if v = 1 ∧ s.maxFrame (s.reg (Reg.TELEMETRY_STREAM.INJECT_PORT t)) < s.reg (Reg.TELEMETRY_STREAM.TEMPLATE_LEN t) + 84 then Res.fail s Code.range
  else s.store (Reg.TELEMETRY_STREAM.ENABLE t) v

/-- STREAM_MAP has changed: the streams take what their FIFOs hold, and postcards of an unassigned pipeline are discarded (R515). -/
def streamMapEffect (v : Nat) (s : State) : Res :=
  let s := s.setReg Reg.STREAM_MAP.STREAM_MAP v
  let s := s.forAll ((List.range 128).filter (fun i => decide (4 ≤ s.streamOf i))) (fun s i =>
    (s.count (if i < 64 then Ctr.ingressPipe i 7 else Ctr.egressPipe (i - 64) 4) (s.fifo i).length).setFifo i [])
  Res.done (s.forAll (List.range 4) (fun s t => s.pullStream t 1024))

/-! ### Watches (R519) -/

/-- The period of watch `w` starts. -/
def State.restartWatch (s : State) (w : Nat) : State := s.setTab Tab.watchStart w (s.fullCount (s.reg (Reg.COUNTER_WATCH.COUNTER w)))

/-- The effect of a write to a sub-index of watch `w`. -/
def watchEffect (w sub v : Nat) (s : State) : Res := Res.done ((s.setReg (regKey (0xA600 + w) sub) v).restartWatch w)

/-- WATCH_PERIOD_END (R519). -/
def execWatchPeriodEnd (w : Fin 64) (s : State) : Next :=
  if s.coreOn = false then .next s
  else
    let c := s.reg (Reg.COUNTER_WATCH.COUNTER w)
    let inc := subMod (s.countWidth c) (s.fullCount c) (s.tab Tab.watchStart w)
    let s := (s.setReg (Reg.COUNTER_WATCH.LAST_INCREASE w) (inc % 2 ^ 64)).restartWatch w
    State.done (s.setInput (0x1E40 + w) (decide (s.reg (Reg.COUNTER_WATCH.LIMIT w) ≤ inc)))

end Sys2Proof.Machine
end

