-- ==== Sys2Proof/Machine/Interrupts.lean ====
section
/-!
DEFINITION. The interrupt controller's commands (R485 to R497): the claims of the management controller, test triggers, batches of
host attention, and commits of the source configuration.
-/
namespace Sys2Proof.Machine

/-- The slice of source `n` runs (R486): the island slice always, the core slice with the core; the sources of H0, H4, HP0 and HP1
belong to the island slice while the device is in STANDBY. -/
def State.sliceRuns (s : State) (n : Nat) : Bool :=
  s.coreOn || IntCat.islandSlice n || [0x0200, 0x0204, 0x0600, 0x0601, 0x0A00, 0x0A01].contains n

/-- MGMT_CLAIM (R492): every enabled source pending at target 128 is claimed in claim order and completed. -/
def execMgmtClaim (s : State) : Next :=
  State.done (s.forAll (s.claimable 128 s.sliceRuns) (fun s n => (s.claimSrc n 128).completeSrc n))

/-- The effect of a write to TEST_RAISE (R494). -/
def testRaiseEffect (n : Nat) (s : State) : Res :=
  if IntCat.reserved n then Res.fail s Code.range else Res.done (s.trigger n)

/-- TEST_RAISE (R494). -/
def execTestRaise (w : SessionNo) (source : Nat) (s : State) : Next :=
  (s.hostWrite w 0x0800 0x02 source (testRaiseEffect source)).next

/-- ATTN_BATCH (R495): the timer of class `c` expires. -/
def execAttnBatch (c : Fin 8) (s : State) : Next :=
  if bit (s.reg Reg.ATTN_MODERATION.TIMERS_RUNNING) c then State.done (s.takeBatch c) else .next s

/-! ### Commits of 0x0900 (R485, R487, R488) -/

/-- Element `v` may be committed for source `n`. -/
def intConfOk (n v : Nat) : Bool :=
  let d := IntCat.resetElement n
  if IntCat.reserved n then !bit v 31
  else
    bits v 19 8 == 0 && bits v 7 0 ≤ 129 && (IntCat.isCondition n || bits v 29 28 == 1)
      && (!IntCat.isFixed n || (bits v 7 0 == bits d 7 0 && bits v 29 28 == bits d 29 28 && bits v 23 21 == bits d 23 21))
      && (IntCat.isFixed n || bits v 23 21 != 7)

/-- The configuration of source `n` takes effect: FIXED and KIND keep the catalogue's values, and pending state is offered. -/
def State.applyIntConf (s : State) (n v : Nat) : State :=
  if IntCat.reserved n then s
  else
    let v := setBit (setBit v 30 (IntCat.isFixed n)) 20 (IntCat.isCondition n)
    let s := s.setTab Tab.intConf n v
    if bits v 29 28 = 0 ∧ bit (s.intElem n) 29 = true ∧ s.srcState n = 0 then s.trigger n else s.offer n

/-- The checks and the application of a commit of 0x0900. -/
def commitIntConfig (elems : SMap Nat) (s : State) : Res :=
  if elems.all (fun e => intConfOk e.1 e.2) then Res.done (s.forAll elems (fun s e => s.applyIntConf e.1 e.2))
  else Res.fail s Code.range

end Sys2Proof.Machine
end

