-- ==== Sys2Proof/Machine/LookupCommit.lean ====
section
/-!
DEFINITION. The commits of the lookup windows 0x3011, 0x3020, 0x3021 and 0x3030 (R217, R223 to R225, R227, R228, R230, R231,
R234, R235), each applied at one instant that advances LOOKUP_EPOCH.
-/
namespace Sys2Proof.Machine

-- Fail causes (R225).
namespace Fail
abbrev reservedBit : Nat := 1
abbrev badValue : Nat := 2
abbrev keyExists : Nat := 3
abbrev keyAbsent : Nat := 4
abbrev tableFull : Nat := 5
abbrev duplicateKey : Nat := 6
abbrev secondLink : Nat := 7
abbrev notFree : Nat := 8
abbrev dangling : Nat := 9
abbrev epochsFull : Nat := 10
end Fail

/-- FAIL_ELEMENT and FAIL_CAUSE of a lookup window written; with no element concerned FAIL_ELEMENT is free. -/
def State.setFail (s : State) (window : Nat) (element : Option Nat) (cause : Nat) : State :=
  let s := match element with
    | some e => s.setReg (regKey window 0x20) e
    | none => (s.setReg (regKey window 0x20) (s.freeBelow (2 ^ 32))).drew
  s.setReg (regKey window 0x21) cause

/-- A refused commit: RANGE, with its first failing element. -/
def State.lookupRefused (s : State) (window : Nat) (element : Option Nat) (cause : Nat) : Res :=
  Res.fail (s.setFail window element cause) Code.range

/-- A commit whose checks have passed: answered BUSY_RETRY while fifteen epochs have not drained (R235), else applied at T, LOOKUP_EPOCH
having advanced. -/
def State.lookupCommit (s : State) (window : Nat) (apply : State → State) : Res :=
  if s.epochsFull then
    Res.fail ((s.bump Reg.LOOKUP_CONTROL.EPOCHS_FULL 64).setFail window none Fail.epochsFull) Code.busyRetry
  else Res.done ((apply (s.bump Reg.LOOKUP_CONTROL.LOOKUP_EPOCH 32)).setReg (regKey window 0x21) 0).drained

/-- An element retires with the epoch that T has set. -/
def State.retireAt (s : State) (kind i : Nat) : State :=
  s.setTab Tab.retire (kind * 2 ^ 24 + i) (s.reg Reg.LOOKUP_CONTROL.LOOKUP_EPOCH + 1)

/-! ### Placement in the exact-match table (R220, R224) -/

/-- The operations placed so far: the table with the moves made, the entries held back with their slots, the slots whose VALID bit
clears at T, and the keys seen. -/
structure EmPlan where
  st : State
  held : List (Nat × Nat)
  doomed : List Nat
  keys : List Nat

/-- PROFILE and KEY of an operation or a slot, and its candidates. -/
def emKeyOf (v : Nat) : Nat := bits v 251 120
def emSlotsOf (v : Nat) : List Nat := emCandidates (bits v 251 248) (bits v 247 120)

/-- Slot `i` is FREE: not VALID, not RETIRING, not taken by the list. -/
def EmPlan.free (w : EmPlan) (i : Nat) : Bool :=
  !bit (w.st.emSlot i) 255 && w.st.retireEpoch LookupKind.em i == 0 && !w.held.any (fun h => h.1 == i)

/-- The entry of slot `i` may be moved. -/
def EmPlan.movable (w : EmPlan) (i : Nat) : Bool := bit (w.st.emSlot i) 255 && !w.doomed.contains i

/-- The paths of exactly `n` moves from one of the slots to a FREE slot. -/
def EmPlan.paths (w : EmPlan) : Nat → List Nat → List (List Nat)
  | 0, slots => (slots.filter w.free).map (fun i => [i])
  | n + 1, slots => (slots.filter w.movable).flatMap (fun i =>
      ((w.paths n ((emSlotsOf (w.st.emSlot i)).filter (fun j => j != i))).filter (fun l => !l.contains i)).map (fun l => i :: l))

/-- The first non-empty choice of paths, breadth first, up to three moves. -/
def EmPlan.choices (w : EmPlan) (slots : List Nat) : List (List Nat) :=
  ((List.range 4).findSome? (fun n => let l := w.paths n slots; if l.isEmpty then none else some l)).getD []

/-- The moves of a path made, from its end: each entry into the slot after its own. -/
def State.emMove (s : State) : List Nat → State
  | i :: j :: t =>
    let s := s.emMove (j :: t)
    let v := s.emSlot i
    let s := (s.setElem 0x3011 1 j v).setElem 0x3011 1 i (setBit v 255 false)
    s.bump (regKey 0x3011 0x24) 64
  | _ => s

/-- A new or replacing entry placed: a path is chosen among the shortest, and the entry held back in the slot it frees. -/
def EmPlan.place (w : EmPlan) (v : Nat) : Option EmPlan :=
  let l := w.choices (emSlotsOf v)
  match l[w.st.freeBelow l.length]? with
  | none => none
  | some path =>
    let s := w.st.drew.emMove path
    some { w with st := s.setElem 0x3011 1 (path.headD 0) (v % 2 ^ 252), held := w.held ++ [(path.headD 0, v % 2 ^ 252)] }

/-- One operation of the list (R223, R224): its fail cause, or the plan with it. -/
def EmPlan.op (w : EmPlan) (v : Nat) : Except Nat EmPlan :=
  let op := bits v 255 254
  let action := bits v 119 0
  let here := w.st.emFind (bits v 251 248) (bits v 247 120)
  let w' := { w with keys := w.keys ++ [emKeyOf v] }
  if bits v 253 252 ≠ 0 ∨ ((op = 1 ∨ op = 2) ∧ bits action 16 0 ≠ 0) then .error Fail.reservedBit
  else if op = 0 then .ok w
  else if (op = 3 ∧ action ≠ 0) ∨ (op ≠ 3 ∧ actionValid action = false) then .error Fail.badValue
  else if w.keys.contains (emKeyOf v) then .error Fail.duplicateKey
  else
    match here with
    | none =>
      if op = 1 then (match w'.place v with | none => .error Fail.tableFull | some x => .ok x) else .error Fail.keyAbsent
    | some i =>
      if op = 1 then .error Fail.keyExists
      else if op = 3 then .ok { w' with doomed := w'.doomed ++ [i] }
      else match ({ w' with doomed := w'.doomed ++ [i] } : EmPlan).place v with | none => .error Fail.tableFull | some x => .ok x

/-- The whole list planned in element order, or its first failing element and cause. -/
def EmPlan.run (w : EmPlan) : SMap Nat → Except (Nat × Nat) EmPlan
  | [] => .ok w
  | e :: t => match w.op e.2 with | .error c => .error (e.1, c) | .ok w => w.run t

/-- The clock T of an operation list: held entries VALID, doomed ones RETIRING. -/
def EmPlan.apply (w : EmPlan) (s : State) : State :=
  let s := s.forAll w.held (fun s h => s.setElem 0x3011 1 h.1 (setBit h.2 255 true))
  s.forAll w.doomed (fun s i => (s.setElem 0x3011 1 i (setBit (s.emSlot i) 255 false)).retireAt LookupKind.em i)

/-- A commit of 0x3011. -/
def State.commitEm (s : State) (elems : SMap Nat) : Res :=
  match (⟨s, [], [], []⟩ : EmPlan).run elems with
  | .error (e, c) => s.lookupRefused 0x3011 (some e) c
  | .ok w =>
    if s.epochsFull then s.lookupCommit 0x3011 id else w.st.lookupCommit 0x3011 w.apply

/-! ### Nodes (R228, R230) -/

/-- Node `i` is LIVE: VALID and not RETIRING. -/
def State.nodeLive (s : State) (i : Nat) : Bool := bit (s.clsNode i) 511 && s.retireEpoch LookupKind.node i == 0

/-- Node `i` will be VALID after the commit. -/
def State.nodeAfter (s : State) (elems : SMap Nat) (i : Nat) : Bool :=
  match elems.find? (fun e => e.1 == i) with | some e => bit e.2 511 | none => s.nodeLive i

/-- A reserved bit of a node is set, by its form. -/
def nodeReserved (v : Nat) : Bool :=
  if bits v 510 509 = 1 then bits v 347 0 != 0 else if bits v 510 509 = 2 then bits v 486 480 != 0 || bits v 239 0 != 0 else false

/-- A VALID node has a field out of range. -/
def nodeBad (v : Nat) : Bool :=
  let b := bits v 500 497
  !(bits v 510 509 == 2) && (!(bits v 510 509 == 1) || b == 0 || 8 < b || 8 < bits v 479 476 || 131072 < bits v 496 480 + 2 ^ b)

/-- The nodes that a node refers to: its children, or its continuation. -/
def nodeRefs (v : Nat) : List Nat :=
  if bits v 510 509 = 1 then (List.range (2 ^ bits v 500 497)).map (bits v 496 480 + ·)
  else if bit v 487 then [bits v 504 488] else []

/-- The fail cause of staged element `n`; `links` counts the links before it. -/
def State.nodeFail (s : State) (elems : SMap Nat) (links n v : Nat) : Option Nat :=
  if nodeReserved v then some Fail.reservedBit
  else if !bit v 511 then none
  else if nodeBad v then some Fail.badValue
  else if s.retireEpoch LookupKind.node n ≠ 0 then some Fail.notFree
  else if s.nodeLive n ∧ 1 ≤ links then some Fail.secondLink
  else if (nodeRefs v).all (s.nodeAfter elems) then none else some Fail.dangling

/-- The first failing element of a node commit and its cause. -/
def State.nodesFail (s : State) (all : SMap Nat) (links : Nat) : SMap Nat → Option (Nat × Nat)
  | [] => none
  | e :: t => match s.nodeFail all links e.1 e.2 with
    | some c => some (e.1, c)
    | none => s.nodesFail all (links + ofBool (bit e.2 511 && s.nodeLive e.1)) t

/-- ROOT_SWITCH fails (R230, R240): a second link, or a root that will not be VALID. -/
def State.rootFail (s : State) (elems : SMap Nat) (root : Nat) : Option Nat :=
  if root = 0 then none
  else if elems.any (fun e => bit e.2 511 && s.nodeLive e.1) then some Fail.secondLink
  else if bit root 31 && !bit root 30 && !s.nodeAfter elems (bits root 16 0) then some Fail.dangling
  else none

/-- One staged node at T. -/
def State.applyNode (s : State) (n v : Nat) : State :=
  if bit v 511 then s.setElem 0x3020 0 n v
  else if s.retireEpoch LookupKind.node n ≠ 0 then s
  else if s.nodeLive n then s.retireAt LookupKind.node n
  else s.setElem 0x3020 0 n v

/-- The root that a ROOT_SWITCH gives its tree. -/
def State.switchRoot (s : State) (root : Nat) : State :=
  if bit root 31 then
    s.setReg (Reg.CLS_TREE.ROOT (bits root 27 24)) (if bit root 30 then 0xFFFFFFFF else bits root 16 0)
  else s

/-- A commit of 0x3020. -/
def State.commitNodes (s : State) (elems : SMap Nat) (root : Nat) : Res :=
  match s.nodesFail elems 0 elems, s.rootFail elems root with
  | some (e, c), _ => s.lookupRefused 0x3020 (some e) c
  | none, some c => s.lookupRefused 0x3020 none c
  | none, none => s.lookupCommit 0x3020 (fun s => (s.forAll elems (fun s e => s.applyNode e.1 e.2)).switchRoot root)

/-! ### Rules (R227, R231) -/

/-- The fail cause of a staged rule. -/
def State.ruleFail (s : State) (n v : Nat) : Option Nat :=
  if bits v 766 752 ≠ 0 ∨ bits v 615 512 ≠ 0 ∨ bits (ruleAction v) 16 0 ≠ 0 then some Fail.reservedBit
  else if !bit v 767 then none
  else if !actionValid (ruleAction v) then some Fail.badValue
  else if s.retireEpoch LookupKind.rule n ≠ 0 then some Fail.notFree else none

/-- One staged rule at T. -/
def State.applyRule (s : State) (n v : Nat) : State :=
  if bit v 767 then s.setElem 0x3021 0 n v
  else if s.retireEpoch LookupKind.rule n ≠ 0 then s
  else if bit (s.clsRule n) 767 then s.retireAt LookupKind.rule n
  else s.setElem 0x3021 0 n v

/-- The first staged element that fails, and its cause. -/
def firstFail (f : Nat → Nat → Option Nat) (elems : SMap Nat) : Option (Nat × Nat) :=
  elems.findSome? (fun e => (f e.1 e.2).map (fun c => (e.1, c)))

/-- A commit of 0x3021. -/
def State.commitRules (s : State) (elems : SMap Nat) : Res :=
  match firstFail s.ruleFail elems with
  | some (e, c) => s.lookupRefused 0x3021 (some e) c
  | none => s.lookupCommit 0x3021 (fun s => s.forAll elems (fun s e => s.applyRule e.1 e.2))

/-! ### Spreading tables (R234) -/

/-- The fail cause of a staged entry. -/
def memberFail (_ v : Nat) : Option Nat :=
  if bits v 31 16 ≠ 0 then some Fail.reservedBit
  else if bits v 15 0 ≤ 642 ∨ bits v 15 0 = 0xFFFF then none else some Fail.badValue

/-- The commit took a port out of every entry of table `t` (R242): `old` the members it replaced. -/
def State.portRemoved (s : State) (t : Nat) (old : List Nat) : Bool :=
  (old.filter (· ≤ 642)).eraseDups.any (fun p => (List.range 4096).all (fun e => s.spreadMember t e != p))

/-- A commit of 0x3030 for table `t`. -/
def State.commitSpread (s : State) (t : Nat) (elems : SMap Nat) : Res :=
  match firstFail memberFail elems with
  | some (e, c) => s.lookupRefused 0x3030 (some e) c
  | none => s.lookupCommit 0x3030 (fun s' =>
      let s' := s'.applyElems 0x3030 t elems
      s'.when (s'.portRemoved t (elems.map (fun e => s.spreadMember t e.1)))
        (fun s' => s'.setReg (Reg.SPREAD_TABLE.REMOVAL_EPOCH t) (s'.reg Reg.LOOKUP_CONTROL.LOOKUP_EPOCH)))

end Sys2Proof.Machine
end

