-- ==== Sys2Proof/Machine/Time.lean ====
section
/-!
DEFINITION. The time unit (R297 to R304, R592) and the gate lists (R309 to R313, R319, R320): the counter, its servo, slew
and steps, the safe gates, and how a list comes into force.
-/
namespace Sys2Proof.Machine

/-! ### The counter (R297, R302) -/

/-- 1.25 ns in 2^-48 ns. -/
abbrev tickUnits : Nat := 351843720888320

/-- A quotient rounded either way where it is not exact: the resolution of the counter is not given. -/
def State.freeRound (s : State) (a b : Nat) : State × Nat :=
  if a % b = 0 then (s, a / b) else (s.drew, a / b + s.freeBelow 2)

/-- The slew applied in one tick: one adjustment, or the remainder where that is smaller; what is left. -/
def slewSlice (slew : Int) (unit : Nat) : Int :=
  if slew.natAbs < unit then slew else if 0 ≤ slew then (unit : Int) else -(unit : Int)

/-- One tick of the time clock. -/
def State.timeTick (s : State) : State :=
  let f := toInt 32 (s.reg Reg.TIME_UNIT.FREQ_ADJ)
  let (s, inc) := s.freeRound (tickUnits * (10 ^ 12 + f).toNat) (10 ^ 12)
  if s.clock.slew = 0 then { s with clock := { s.clock with ptp := s.clock.ptp + inc } }
  else
    let (s, unit) := s.freeRound (tickUnits * s.reg Reg.TIME_UNIT.SLEW_MAX_PPB) (10 ^ 9)
    let d := slewSlice s.clock.slew unit
    { s with clock := { s.clock with ptp := ((s.clock.ptp + inc : Nat) + d).toNat, slew := s.clock.slew - d } }

/-- TIME_CLOCK_TICK (R297, R302). -/
def execTimeClockTick (s : State) : Next := if s.coreOn then State.done s.timeTick else .next s

/-! ### States of the time unit (R300, R301, R304) -/

/-- STATE of the time unit. -/
def State.timeState (s : State) : Nat := s.reg Reg.TIME_UNIT.STATE

/-- A flag of TIME_UNIT is set by hardware. -/
def State.timeEvent (s : State) (i : Nat) : State := s.event Reg.TIME_UNIT.EVENTS i 0x1300

/-- The locked state is left: LOCK_LOST, and PTP_UNLOCKED on every reservation. -/
def State.timeLost (s s' : State) : State := if s.timeLocked && !s'.timeLocked then (s'.timeEvent 1).refreshResvs else s'

/-- Lists that have reached S while the time unit is SETTLING wait for LOCKED, whatever state comes first (R304). -/
def State.holdSwaps (s : State) : State :=
  s.forAll (s.gates.filter (fun e => match e.2.pending with | none => false | some (_, swap) => decide (swap * nsUnit ≤ s.clock.ptp)))
    (fun s e => s.setTab Tab.gateWaits e.1 1)

/-- FREE_RUN is entered. -/
def State.enterFreeRun (s : State) : State :=
  let s := s.when (s.timeState == 4) State.holdSwaps
  s.timeLost ((s.setReg Reg.TIME_UNIT.STATE 0).setReg Reg.TIME_UNIT.GOOD_REPORTS 0)

/-- Every port with an active list takes its safe gates (R304). -/
def State.takeSafeGates (s : State) : State :=
  s.forAll (s.gates.filter (fun e => e.2.active.isSome)) (fun s e =>
    (s.setReg (Reg.GATE_PORT.IN_SAFE_STATE e.1) 1).setReg (Reg.GATE_PORT.GATE_STATE e.1) (s.reg (Reg.GATE_PORT.SAFE_GATES e.1)))

/-- SETTLING is entered, or begins anew. -/
def State.enterSettling (s : State) : State :=
  let t := (s.setReg Reg.TIME_UNIT.STATE 4).setReg Reg.TIME_UNIT.GOOD_REPORTS 0
  let t := ((t.setTab Tab.sticky 4 s.clock.island).setTab Tab.sticky 9 0).takeSafeGates
  (s.timeLost t).refreshResvs

/-- LOCKED is entered. From SETTLING, time has settled: PTP_STEP and WARM_RESET clear, and a commit that waited applies. -/
def State.enterLocked (s : State) : State :=
  let settled := s.timeState == 4
  let s := (s.setReg Reg.TIME_UNIT.STATE 2).setTab Tab.sticky 3 0
  let s := s.when (s.tab Tab.sticky 9 == 0) (·.setTab Tab.sticky 9 (nsCeil s.clock.ptp + 1))
  let s := s.when settled (fun s => (s.setTab Tab.sticky 0 0).setTab Tab.sticky 1 0)
  let s := (s.timeEvent 0).when settled (·.timeEvent 4)
  s.refreshResvs.when settled (·.resvCommitDue)

/-- SETTLE_MS has passed since SETTLING was entered or last stepped. -/
def State.settled (s : State) : Bool := s.reg Reg.TIME_UNIT.SETTLE_MS * 400000 ≤ s.clock.island - s.tab Tab.sticky 4

/-- A report of offset `off` in 2^-16 ns (R300, R592). -/
def State.report16 (s : State) (off : Int) : State :=
  let good := decide (off.natAbs ≤ s.reg Reg.TIME_UNIT.LOCK_THRESHOLD_NS * 2 ^ 16)
  let n := if good then min 255 (s.reg Reg.TIME_UNIT.GOOD_REPORTS + 1) else 0
  let s := s.setReg Reg.TIME_UNIT.GOOD_REPORTS n
  match s.timeState with
  | 0 => s.setReg Reg.TIME_UNIT.STATE 1
  | 1 => if good && decide (16 ≤ n) then s.enterLocked else s
  | 2 =>
    let bad := if good then 0 else s.tab Tab.sticky 3 + 1
    let s := s.setTab Tab.sticky 3 bad
    if 4 ≤ bad then s.timeLost (s.setReg Reg.TIME_UNIT.STATE 1) else s
  | 3 => if good then s.enterLocked else s.timeLost (s.setReg Reg.TIME_UNIT.STATE 1)
  | _ => if good && decide (16 ≤ n) && s.settled then s.enterLocked else s

/-- A write to an object of the servo (R299): the runtime's in SERVO_MODE 0, the host's in SERVO_MODE 1. -/
def State.servoWrite (s : State) (runtime : Bool) (w sub v : Nat) (eff : State → Res) : Next :=
  if runtime then (if s.coreOn && s.reg Reg.TIME_UNIT.SERVO_MODE == 0 then (eff s).next else .next s)
  else (s.hostWrite w 0x6000 sub v (fun s =>
    if s.reg Reg.TIME_UNIT.SERVO_MODE = 0 then Res.fail s Code.resourceOwned else eff s)).next

/-- The effect of a report. -/
def measuredOffsetEffect (v : Nat) (s : State) : Res := Res.done (s.report16 (toInt 64 v))

/-- MEASURED_OFFSET (R300). -/
def execMeasuredOffset (runtime : Bool) (w : SessionNo) (offset : Nat) (s : State) : Next :=
  s.servoWrite runtime w 0x08 offset (measuredOffsetEffect offset)

/-- REPORT_TIMEOUT (R300). -/
def execReportTimeout (s : State) : Next :=
  if s.timeState = 2 then State.done ((s.setReg Reg.TIME_UNIT.STATE 3).timeEvent 3) else .next s

/-- HOLDOVER_TIMEOUT (R300). -/
def execHoldoverTimeout (s : State) : Next := if s.timeState = 3 then State.done s.enterFreeRun else .next s

/-- The effect of a write to SERVO_MODE (R299). -/
def servoModeEffect (v : Nat) (s : State) : Res := Res.done (s.setReg Reg.TIME_UNIT.SERVO_MODE v).enterFreeRun

/-- SERVO_MODE (R299). -/
def execServoMode (w : SessionNo) (mode : Nat) (s : State) : Next := (s.hostWrite w 0x6000 0x04 mode (servoModeEffect mode)).next

/-! ### Steps (R303, R335, R374, R534) -/

/-- LAST_STEP of an amount in 2^-48 ns: a rest below 2^-16 ns is rounded either way, and what does not fit is free. -/
def State.recordStep (s : State) (d : Int) : State :=
  let q := d / (2 : Int) ^ 32
  if q < -(2 : Int) ^ 63 ∨ (2 : Int) ^ 63 ≤ q + (if d % (2 : Int) ^ 32 = 0 then 0 else 1) then s.drew.setReg Reg.TIME_UNIT.LAST_STEP (s.freeBelow (2 ^ 64))
  else if d % (2 : Int) ^ 32 = 0 then s.setReg Reg.TIME_UNIT.LAST_STEP (ofInt 64 q)
  else s.drew.setReg Reg.TIME_UNIT.LAST_STEP (ofInt 64 (q + (s.freeBelow 2 : Nat)))

/-- The counter steps to `new` (R303): no slew is left; what a forward step passes over happens in its tick; SETTLING. -/
def State.stepTime (s : State) (new : Nat) : State :=
  let old := s.clock.ptp
  let s := ({ s with clock := { s.clock with ptp := new, slew := 0 } } : State).recordStep ((new : Int) - old)
  let s := s.bump Reg.TIME_UNIT.STEPS 32
  let s := s.when (decide (old < new)) (fun s => s.lockDue.resvCommitDue)
  ((s.stepGroups old new).setTab Tab.sticky 0 1).enterSettling.timeEvent 2

/-- PTP time never reaches 2^47 s. -/
abbrev ptpEnd : Nat := 2 ^ 47 * 1000000000 * nsUnit

/-- The effect of a write to OFFSET_ADJ (R302, R303). -/
def offsetAdjEffect (v : Nat) (s : State) : Res :=
  let sum := s.clock.slew + toInt 64 v * (2 : Int) ^ 32
  if sum.natAbs ≤ s.reg Reg.TIME_UNIT.STEP_THRESHOLD_NS * nsUnit then
    Res.done { s with clock := { s.clock with slew := sum } }
  else
    let new := (s.clock.ptp : Int) + sum
    if new < 0 ∨ (ptpEnd : Int) ≤ new then Res.fail s Code.range else Res.done (s.stepTime new.toNat)

/-- OFFSET_ADJ (R302, R303). -/
def execOffsetAdj (runtime : Bool) (w : SessionNo) (amount : Nat) (s : State) : Next :=
  s.servoWrite runtime w 0x0A amount (offsetAdjEffect amount)

/-- The effect of a write to SET_TIME (R303). -/
def setTimeEffect (v : Nat) (s : State) : Res :=
  if 1000000000 ≤ v % 2 ^ 32 ∨ 2 ^ 47 ≤ v / 2 ^ 32 then Res.fail s Code.range else Res.done (s.stepTime (time80Ns v * nsUnit))

/-- SET_TIME (R303). -/
def execSetTime (runtime : Bool) (w : SessionNo) (time : Nat) (s : State) : Next :=
  s.servoWrite runtime w 0x0B time (setTimeEffect time)

/-! ### Gate lists in force (R304, R309, R311, R312) -/

/-- GATE_STATE of port `p` shows the gates at this instant. -/
def State.showGates (s : State) (p : Nat) : State := s.setReg (Reg.GATE_PORT.GATE_STATE p) (s.gateMask p s.clock.ptp)

/-- GATE_EDGE (R309): an entry of the active list begins. -/
def execGateEdge (p : PortNo) (s : State) : Next := State.done (s.showGates p)

/-- The pending list of port `p` becomes active (R311), and with its swap instant, in ns, the bounds found under it (R42). -/
def State.swapList (s : State) (p : Nat) (nl : Option GateList) (swap : Nat) : State :=
  let s := ((s.setGate p { active := nl, pending := none }).setTab Tab.gateWaits p 0).showGates p
  let s := s.bump (Reg.GATE_PORT.SWAPS p) 32
  ((s.commitApplied 0x5F00).event (Reg.GATE_PORT.EVENTS p) 0 (0x1000 + p)).refreshBounds (swap * nsUnit)

/-- LIST_SWAPPED (R304, R311): never in the safe state, nor while SETTLING. -/
def execListSwapped (p : PortNo) (s : State) : Next :=
  match (s.gate p).pending, s.swapInstant p with
  | some (nl, _), some t =>
    if s.timeState ≠ 4 ∧ s.reg (Reg.GATE_PORT.IN_SAFE_STATE p) = 0 ∧ t * nsUnit ≤ s.clock.ptp then State.done (s.swapList p nl t)
    else .next s
  | _, _ => .next s

/-- GATE_LIST_RESUME (R304): the first boundary of the active list at or after the entry to LOCKED. -/
def execGateListResume (p : PortNo) (s : State) : Next :=
  match (s.gate p).active, s.tab Tab.sticky 9 with
  | some l, e + 1 =>
    if s.reg (Reg.GATE_PORT.IN_SAFE_STATE p) = 1 ∧ l.boundary e * nsUnit ≤ s.clock.ptp then
      State.done (((s.setReg (Reg.GATE_PORT.IN_SAFE_STATE p) 0).setTab Tab.gateResume p (l.boundary e * nsUnit)).showGates p)
    else .next s
  | _, _ => .next s

/-- The effect of a write to CANCEL_PENDING (R312). -/
def cancelPendingEffect (p v : Nat) (s : State) : Res :=
  match (s.gate p).pending with
  | none => Res.done s
  | some (_, swap) =>
    let soon := fun (x : Nat) => decide (x * nsUnit < s.clock.ptp + 100000 * nsUnit)
    let safe := s.timeState == 4 || s.reg (Reg.GATE_PORT.IN_SAFE_STATE p) == 1
    let fixed := if safe then none else s.swapInstant p
    if v = 0 then Res.done s
    else if (s.clock.ptp < swap * nsUnit && soon swap)
        || (decide (swap * nsUnit ≤ s.clock.ptp) && (match fixed with | none => false | some t => soon t)) then
      Res.fail s Code.busyRetry
    else Res.done ((s.setGate p { s.gate p with pending := none }).setTab Tab.gateWaits p 0)

/-- CANCEL_PENDING (R312). -/
def execCancelPending (w : SessionNo) (p : PortNo) (s : State) : Next :=
  (s.hostWrite w (0x5C00 + p) 0x07 1 (cancelPendingEffect p 1)).next

/-- A pending change of port `p` is judged and taken (R310): `nl` at `swap`. -/
def State.pendList (s : State) (p : Nat) (nl : Option GateList) (swap : Nat) (done : State → State) : Res :=
  let g := s.gate p
  let cause := fun (s : State) (c : Nat) => s.setReg (Reg.GATE_PORT.COMMIT_CAUSE p) c
  let hold := fun (s : State) => (s.setGate p { g with pending := some (nl, swap) }).setReg (Reg.GATE_PORT.SWAP_TIME p) (time80 swap)
  if g.pending.isSome then Res.fail (cause s 1) Code.gateCommitConflict
  else
    let r := s.evaluated (hold s) Code.gateCommitConflict [] true (fun s => cause (done (hold s)) 0)
    if r.code = Code.ok then r else { r with st := cause r.st 2 }

/-- The effect of a write to REMOVE_LIST (R107, R312). -/
def removeListEffect (p v : Nat) (s : State) : Res :=
  match (s.gate p).active with
  | none => Res.done s
  | some l => if v = 0 then Res.done s else if s.saving then Res.fail s Code.resourceOwned else s.pendList p none (l.boundary (nsCeil s.clock.ptp + 100000)) id

/-- REMOVE_LIST (R312). -/
def execRemoveList (w : SessionNo) (p : PortNo) (s : State) : Next :=
  (s.hostWrite w (0x5C00 + p) 0x08 1 (removeListEffect p 1)).next

/-! ### Commits of 0x5F00 (R309 to R311, R319) -/

/-- The staged list is well formed (R309). -/
def gateListOk (cycle count : Nat) (elems : SMap Nat) : Bool :=
  let e := fun (i : Nat) => elems.find? (fun x => x.1 == i)
  1 ≤ count && count ≤ 256 && 1000 ≤ cycle && cycle ≤ 1000000000 && elems.all (fun x => decide (x.1 < count) && bits x.2 47 32 == 0)
    && (List.range count).all (fun i => (e i).isSome)
    && elems.all (fun x => 50 ≤ bits x.2 31 0 && bits x.2 31 0 ≤ 1000000000) && (elems.map (fun x => bits x.2 31 0)).sum == cycle

/-- A commit of 0x5F00 for the port that TARGET names. -/
def State.commitGateList (s : State) (g : Staging) : Res :=
  let p := g.target % 65536
  let cycle := g.ownValue (regKey 0x5F00 0x21)
  let count := g.ownValue (regKey 0x5F00 0x22)
  if 642 < p ∨ bit g.target 16 = true ∨ gateListOk cycle count g.elems = false then Res.fail s Code.range
  else
    let l : GateList := { base := time80Ns (g.ownValue (regKey 0x5F00 0x20)), cycle := cycle,
                          entries := (g.elems.take count).map (fun x => (bits x.2 63 48, bits x.2 31 0)) }
    let from' := max l.base (nsCeil s.clock.ptp + 100000)
    let swap := match (s.gate p).active with | some a => a.boundary from' | none => l.boundary from'
    s.pendList p (some l) swap (·.dropStaging 0x5F00)

/-- The effect of a write to SAFE_GATES (R320): it applies to a port that holds them. -/
def safeGatesEffect (p v : Nat) (s : State) : Res :=
  let s := s.setReg (Reg.GATE_PORT.SAFE_GATES p) v
  Res.done (s.when (s.reg (Reg.GATE_PORT.IN_SAFE_STATE p) == 1) (·.setReg (Reg.GATE_PORT.GATE_STATE p) v))

end Sys2Proof.Machine
end

