-- ==== Sys2Proof/Machine/WindowCommit.lean ====
section
/-!
DEFINITION. A WINDOW_COMMIT (R112): the checks and the application of every window's commit, by its owning chapter, and the result
that the window keeps.
-/
namespace Sys2Proof.Machine

/-! ### The allow-list (R139) -/

/-- A staged VALID element of the allow-list is out of range. -/
def allowBad (v : Nat) : Bool :=
  let kind := bits v 247 240
  let len := bits v 239 232
  bits v 254 252 != 0 || bits v 175 128 != 0 || bits v 191 176 < bits v 207 192
    || (15 < bits v 231 224 && bits v 231 224 != 0xFF)
    || !(kind == 0 && len ≤ 48 || kind == 1 && len ≤ 32 || kind == 2 && len ≤ 128
      || kind == 0xFF && len == 0 && bits v 127 0 == 0)

/-! ### Multicast groups (R270, R329) -/

/-- A commit of 0x4100: evaluated where it changes a group that a reservation names. -/
def State.commitGroups (s : State) (elems : SMap Nat) : Res :=
  let apply := fun (s : State) => (s.applyElems 0x4100 0 elems).refreshResvs
  if elems.any (fun e => bits e.2 765 643 != 0) then Res.fail s Code.range
  else if s.resvVersions.any (fun r => resvMulti r.record
      && elems.any (fun e => e.1 == resvEgress r.record && e.2 != s.group e.1)) then
    s.evaluatedFit (s.applyElems 0x4100 0 elems) apply
  else Res.done (apply s)

/-! ### Policers and stream gates (R283, R286, R318) -/

/-- The element of stream gate `g`. -/
def State.streamGateElem (s : State) (g : Nat) : Nat := s.elem 0x5F01 0 g

/-- A staged VALID policer is out of range. -/
def State.policerBad (s : State) (v : Nat) : Bool :=
  polValid v && (bits v 241 232 != 0 || bits v 103 0 != 0 || (polGateValid v && !bit (s.streamGateElem (polGate v)) 31)
    || (polCir v != 0 && polCbs v < 64))

/-- The reservation that names policer `i`. -/
def State.policerUser (s : State) (i : Nat) : Option ResvVersion := s.resvVersions.find? (fun r => resvPolicer r.record == i)

/-- A staged policer at T: levels are clipped, or full where the record was not VALID. -/
def State.applyPolicer (s : State) (i v : Nat) : State :=
  let was := polValid (s.policerElem i)
  let s := s.setElem 0x5600 0 i v
  if !polValid v then s
  else
    let c := polCbs v * 10 ^ 6
    let e := polEbs v * 10 ^ 6
    (s.setTab Tab.polC i (if was then min c (s.tab Tab.polC i) else c)).setTab Tab.polE i
      (if was then min e (s.tab Tab.polE i) else e)

/-- A commit of 0x5600. -/
def State.commitPolicers (s : State) (elems : SMap Nat) : Res :=
  if elems.any (fun e => s.policerBad e.2) then Res.fail s Code.range
  else match elems.findSome? (fun e => if e.2 = s.policerElem e.1 then none else s.policerUser e.1) with
    | some r => (s.bump Reg.ADMISSION_CONTROL.EVALUATIONS 64).rejected Code.admissionRejected
        ⟨5, (s.resvPorts r.record).head?, some r.n⟩
    | none => Res.done (s.forAll elems (fun s e => s.applyPolicer e.1 e.2))

/-- A VALID policer names stream gate `g`. -/
def State.gateNamed (s : State) (g : Nat) : Bool :=
  s.policerList.any (fun i => polValid (s.policerElem i) && polGateValid (s.policerElem i) && polGate (s.policerElem i) == g)

/-- A commit of 0x5F01 may not be made. -/
def State.streamGatesBad (s : State) (elems : SMap Nat) : Bool :=
  elems.any (fun e => bits e.2 28 26 != 0 || bits e.2 11 0 != 0 || 642 < bits e.2 25 16 || (!bit e.2 31 && s.gateNamed e.1))

/-! ### IEEE 802.1CB streams (R338) -/

/-- A staged stream is out of range. -/
def cbBad (v : Nat) : Bool :=
  bits v 23 0 != 0 || (bit v 63 && (bits v 61 56 < 2 || 32 < bits v 61 56 || bits v 55 40 == 0))

/-- A staged stream applied: a VALID element resets the history, and loads GEN_SEQ where SET_GEN asks for it. -/
def State.applyCb (s : State) (i v : Nat) : State :=
  let s := s.setElem 0x6C00 0 i v
  if !bit v 63 then s
  else
    (s.resetHistory i).when (bit v 62)
      (fun s => s.setElem 0x6C01 0 i (setBits (s.elem 0x6C01 0 i) 255 240 (bits v 39 24)))

/-! ### Memories (R390, R468, R470, R481) -/

/-- The octets of staged 4-octet elements written from memory address `base`. -/
def State.writeWords4 (s : State) (base : Nat) (elems : SMap Nat) : State :=
  s.forAll elems (fun s e => s.setBytes (base + 4 * e.1) (toBE 4 e.2))

/-- The host may reach bank `k` through POOL_WINDOW of partition `p` (R481): none, or why not. -/
def State.poolRefuses (s : State) (p k : Nat) : Option Nat :=
  if 510 ≤ k ∨ s.bankPart k ≠ p then some Code.range
  else if (s.bankState k = 1 ∧ s.bankOwner k = ownerHost) ∨ s.bankState k = 3 then none else some Code.resourceOwned

/-- A commit of POOL_WINDOW through port B: `lost` are the 8-octet words of the bank to which port A writes other data in the same core
clock (R468). -/
def State.commitPool (s : State) (p k : Nat) (elems : SMap Nat) (lost : List Nat) : Res :=
  match s.poolRefuses p k with
  | some c => Res.fail s c
  | none =>
    let own := fun (s : State) => s.forAll elems (fun s e => s.ownerAccess (k * bankSize + 4 * e.1) 4)
    if elems.any (fun e => lost.contains (e.1 / 2)) then Res.fail (s.count (Ctr.poolBank k 2)) Code.busyRetry
    else Res.done ((own s).writeWords4 (poolAddr (k * bankSize)) elems)

/-! ### Every window -/

/-- A commit whose elements are only checked and stored. -/
def State.commitPlain (s : State) (g : Staging) (bad : Nat → Bool) : Res :=
  if g.elems.any (fun e => bad e.2) then Res.fail s Code.range else Res.done (s.applyElems g.window g.target g.elems)

/-- The checks of the owning chapter and, where the change applies at once, its application. -/
def State.commitChapter (s : State) (g : Staging) (posts : List (Nat × Nat)) (lost : List Nat) : Res :=
  let w := g.window
  let e := g.elems
  if w = 0x0240 then s.commitPlain g (fun v => bit v 255 && allowBad v)
  else if w = 0x0900 then commitIntConfig e s
  else if w = 0x2400 ∨ w = 0x2401 then
    (if s.bankElemsOk w e then Res.done (s.requestedSwitches.switchBank w g.target e) else Res.fail s Code.range)
  else if w = 0x3011 then s.commitEm e
  else if w = 0x3020 then s.commitNodes e (g.ownValue (regKey 0x3020 0x22))
  else if w = 0x3021 then s.commitRules e
  else if w = 0x3030 then s.commitSpread g.target e
  else if w = 0x4100 then s.commitGroups e
  else if w = 0x5600 then s.commitPolicers e
  else if w = 0x5F00 then s.commitGateList g
  else if w = 0x5F01 then (if s.streamGatesBad e then Res.fail s Code.range else Res.done (s.applyElems w 0 e))
  else if w = 0x6810 then s.commitResv g
  else if w = 0x6C00 then
    (if e.any (fun x => cbBad x.2) then Res.fail s Code.range else Res.done (s.forAll e (fun s x => s.applyCb x.1 x.2)))
  else if w = 0x7010 then (if s.hostSlotsRefused e then Res.fail s Code.range else Res.done (s.commitSlots e lost))
  else if w = 0x7011 then
    (if e.any (fun x => attrRange x.2) then Res.fail s Code.range else Res.done (s.forAll e (fun s x => s.commitAttr x.1 x.2)))
  else if w = 0x7020 then s.commitPlain g mapRange
  else if w = 0x7021 then s.commitPlain g entryRange
  else if w = 0x7030 then s.commitPlain g (fun v => listValid v && s.listRange v)
  else if w = 0x8300 then Res.done (s.writeWords4 (2 ^ 32 + g.target * 262144) e)
  else if 0x9100 ≤ w ∧ w < 0x9110 then s.commitPool (w - 0x9100) g.target e lost
  else if w = 0x9401 then Res.done ((s.writeWords4 0 e).bump Reg.SEALED_BANK.COMMITS 32)
  else if w = 0xA100 then commitCounters e posts s
  else s.commitPlain g (fun _ => false)

/-- The window's change waits for an instant of its own: a gate list (R311), a reservation commit (R334). -/
def commitWaits (window : Nat) : Bool := window == 0x5F00 || window == 0x6810

/-- A WINDOW_COMMIT of a staging that holds something (R112): a refusal keeps the staging; a change that applies at once leaves
the window IDLE. LAST_RESULT and LAST_DETAIL follow. -/
def State.commitStaging (s : State) (g : Staging) (posts : List (Nat × Nat)) (lost : List Nat) : Res :=
  let r := s.commitChapter g posts lost
  let st := if r.code = Code.ok ∧ commitWaits g.window = false then (r.st.dropStaging g.window).commitApplied g.window else r.st
  { r with st := (st.setReg (regKey g.window 0x0B) r.code).setReg (regKey g.window 0x0C) r.detail }

end Sys2Proof.Machine
end

