-- ==== Sys2Proof/Machine/Windows.lean ====
section
/-!
DEFINITION. The host's operations on a window (R110 to R113, R126, R127): a session's range, writes to STAGE and to the
window's own staging sub-indices, ABORT, and the WINDOW_COMMIT itself.
-/
namespace Sys2Proof.Machine

/-! ### Targets and ranges (R111) -/

/-- The elements of target `t` of the window at `idx`; none where the target does not exist. -/
def State.windowSize (s : State) (idx t : Nat) : Option Nat :=
  let size := match Dict.lookup idx with
    | none => 0
    | some o => match o.win with | none => 0 | some w => w.elems
  let upTo := fun (n : Nat) => if t < n then some size else none
  if idx = 0x2401 then (if t < 12 ∨ (16 ≤ t ∧ t < 22) then some size else none)
  else if idx = 0x2E10 ∨ idx = 0x2E11 then (if t < 128 ∨ (256 ≤ t ∧ t < 384) then some size else none)
  else if idx = 0x3011 then (if t = 0 then some 2048 else if t = 1 then some size else none)
  else if idx = 0x3030 then upTo 64
  else if idx = 0x5F00 then (if t < 131072 ∧ t % 65536 ≤ 642 then some size else none)
  else if idx = 0x8300 ∨ idx = 0x8301 ∨ idx = 0x8E20 then upTo 128
  else if idx = 0x8E21 then upTo 16
  else if 0x9100 ≤ idx ∧ idx < 0x9110 then (if t < 510 ∧ s.bankPart t = idx - 0x9100 then some size else none)
  else if idx = 0xA100 then (if t = 0 then some size else if t ≤ 16 then some 8192 else none)
  else upTo 1

/-- ELEM_BYTES of the window at `idx`. -/
def elemBytes (idx : Nat) : Nat :=
  match Dict.lookup idx with
  | none => 4
  | some o => match o.win with | none => 4 | some w => w.elemBytes

/-- The table of a range sub-index: 1 TARGET, 2 BASE, 3 COUNT. -/
def rangeTab (which : Nat) : Nat := if which = 1 then Tab.winTarget else if which = 2 then Tab.winBase else Tab.winCount

/-- A new staging of a session over its range. -/
def State.newStaging (s : State) (session idx : Nat) : Staging :=
  { window := idx, state := 1, owner := session, target := s.rangeTarget session idx, base := s.rangeBase session idx,
    count := s.rangeCount session idx, elems := [], own := [], lapsed := false, boundSeq := s.reg Reg.PRESENCE.WINDOW_SEQ,
    instant := 0 }

/-- A latch of the session over the window's range ends (R380, R512). -/
def State.endLatch (s : State) (session idx : Nat) : State :=
  if idx = 0x7010 then s.dropLatch session
  else if idx = 0xA300 ∨ idx = 0xA310 then s.dropHistLatch session idx else s

/-- The effect of a write to TARGET, BASE or COUNT (R111, R112). -/
def rangeEffect (session idx which v : Nat) (s : State) : Res :=
  let s' := s.setTab (rangeTab which) (session * 65536 + idx) v
  let fits := match s'.windowSize idx (s'.rangeTarget session idx) with
    | none => false
    | some n => s'.rangeBase session idx + s'.rangeCount session idx ≤ n && s'.rangeCount session idx * elemBytes idx ≤ 65536
  if !fits then Res.fail s Code.range
  else
    let s' := s'.endLatch session idx
    match s.staging? idx with
    | some g => if g.state = 1 ∧ g.owner = session then Res.done (s'.putStaging (s'.newStaging session idx)) else Res.done s'
    | none => Res.done s'

/-! ### Staging (R112, R113, R127) -/

/-- A staging operation of a session is refused: SCHEDULED, another's, or lapsed with its presence window. -/
def State.stagingRefuses (s : State) (session idx : Nat) : Option Nat :=
  match s.staging? idx with
  | none => none
  | some g =>
    if g.state = 3 then some Code.busyRetry
    else if g.owner ≠ session then some Code.resourceOwned
    else if g.lapsed then some Code.presenceRequired else none

/-- The staging that a STAGE write of a session works on. -/
def State.stagingFor (s : State) (session idx : Nat) : Staging := (s.staging? idx).getD (s.newStaging session idx)

/-- An entry put into a rising list of staged values. -/
def stageInsert (l : SMap Nat) (k v : Nat) : SMap Nat :=
  match l with
  | [] => [(k, v)]
  | (j, x) :: t => if k < j then (k, v) :: (j, x) :: t else if k = j then (k, v) :: t else (j, x) :: stageInsert t k v

/-- STAGE of target `t` of the window is never written (R223, R319, R507). -/
def stageClosed (idx t : Nat) : Bool :=
  let closed := match Dict.lookup idx with
    | none => true
    | some o => match o.win with | none => true | some w => w.stage == .range
  closed || ((idx == 0x3011 || idx == 0xA100) && t != 0) || (idx == 0x5F00 && bit t 16)

/-- The bank that a pool window's STAGE would write is not the host's to reach (R481). -/
def State.stageTargetRefuses (s : State) (idx t : Nat) : Option Nat :=
  if 0x9100 ≤ idx ∧ idx < 0x9110 then s.poolRefuses (idx - 0x9100) t else none

/-- The effect of a BLOCK_WRITE of `data` at offset `off` of STAGE (R111 to R113): the checks of the offset come before those of the state
(R79). -/
def stageEffect (session idx off : Nat) (data : Bytes) (s : State) : Res :=
  let g := s.stagingFor session idx
  let eb := elemBytes idx
  if stageClosed idx g.target || off % eb != 0 || data.length % eb != 0 then Res.fail s Code.range
  else if g.count * eb < off + data.length then Res.fail s Code.range Detail.offsetOverEnd
  else
    match s.stageTargetRefuses idx g.target with
    | some c => Res.fail s c
    | none =>
      match s.stagingRefuses session idx with
      | some c => Res.fail s c
      | none =>
        let put := fun (l : SMap Nat) (i : Nat) =>
          stageInsert l (g.base + off / eb + i) (ofBE ((data.drop (i * eb)).take eb))
        Res.done (s.putStaging { g with elems := (List.range (data.length / eb)).foldl put g.elems })

/-- The effect of a write to a window's own staging sub-index: a STAGE write of that value (R112). -/
def stageOwnEffect (session idx sub v : Nat) (s : State) : Res :=
  let g := s.stagingFor session idx
  if stageClosed idx g.target then Res.fail s Code.range
  else
    match s.stagingRefuses session idx with
    | some c => Res.fail s c
    | none => Res.done (s.putStaging { g with own := stageInsert g.own (regKey idx sub) v })

/-- The effect of a write to ABORT (R112, R113). -/
def abortEffect (session idx v : Nat) (s : State) : Res :=
  match s.staging? idx with
  | none => Res.done s
  | some g =>
    if g.state = 3 then Res.fail s Code.busyRetry
    else if g.owner ≠ session then Res.fail s Code.resourceOwned
    else Res.done (s.when (v == 1) (·.dropStaging idx))

/-- WINDOW_COMMIT of a session (R107, R112, R113, R127). -/
def windowCommitEffect (session idx : Nat) (posts : List (Nat × Nat)) (lost : List Nat) (s : State) : Res :=
  match s.staging? idx with
  | none => Res.done s
  | some g =>
    match s.stagingRefuses session idx with
    | some c => Res.fail s c
    | none =>
      if !g.some then Res.done (((s.dropStaging idx).setReg (regKey idx 0x0B) Code.ok).setReg (regKey idx 0x0C) 0)
      else if s.saving && windowPersists idx then Res.fail s Code.resourceOwned
      else s.commitStaging g posts lost

/-- STAGE (R112). -/
def execStage (w : SessionNo) (window : Nat) (offset : Nat) (data : Bytes) (s : State) : Next :=
  match Dict.lookup window with
  | none => .next s
  | some o => if o.win.isNone then .next s
    else (s.hostBlockWrite w window 0x09 offset data (stageEffect w window offset data)).next

/-- WINDOW_RANGE_WRITE (R111, R112). -/
def execWindowRangeWrite (w : SessionNo) (window : Nat) (which : Nat) (value : Nat) (s : State) : Next :=
  match Dict.lookup window with
  | none => .next s
  | some o => if o.win.isNone ∨ which = 0 ∨ 3 < which then .next s
    else (s.hostWrite w window which value (rangeEffect w window which value)).next

/-- ABORT (R112, R113). -/
def execAbort (w : SessionNo) (window : Nat) (s : State) : Next :=
  match Dict.lookup window with
  | none => .next s
  | some o => if o.win.isNone then .next s else (s.hostWrite w window 0x0A 1 (abortEffect w window 1)).next

end Sys2Proof.Machine
end

