-- ==== Sys2Proof/Machine/Reads.lean ====
section
/-!
DEFINITION. What a read of the dictionary returns. Most sub-indices are registers; the ones here show other state: counters,
logs, ledgers, depths, gate lists, windows.
-/
namespace Sys2Proof.Machine

/-! ### Hardware counters (R502, R504) -/

/-- The counter that a sub-index is a window onto. -/
def hwCounter (idx sub : Nat) : Option Nat :=
  let within := fun (lo n : Nat) => decide (lo ≤ idx ∧ idx < lo + n)
  if within 0x1000 520 && 0x28 ≤ sub && sub ≤ 0x2D then some (Ctr.lane (idx - 0x1000) (sub - 0x28))
  else if within 0x1400 643 && 0x18 ≤ sub && sub ≤ 0x1F then some (Ctr.port (idx - 0x1400) (sub - 0x18))
  else if within 0x2010 64 && sub ≤ 0x0B then some (Ctr.ingressPipe (idx - 0x2010) (sub - 1))
  else if within 0x2050 64 && sub ≤ 0x06 then some (Ctr.egressPipe (idx - 0x2050) (sub - 1))
  else if idx = 0x2E00 ∧ 0x0E ≤ sub ∧ sub ≤ 0x10 then some (Ctr.pipeLoader (sub - 0x0E))
  else if within 0x4200 643 && (sub == 0x0B || sub == 0x0C) then some (Ctr.port (idx - 0x4200) (sub - 0x0B + 8))
  else if within 0x5800 512 && (sub == 0x0B || sub == 0x0C) then some (Ctr.port (idx - 0x5800) (sub - 0x0B + 10))
  else if within 0x6100 643 && (sub == 0x05 || sub == 0x06) then some (Ctr.port (idx - 0x6100) (sub - 0x05 + 12))
  else if within 0x8100 128 && (0x0D ≤ sub && sub ≤ 0x0F || 0x11 ≤ sub && sub ≤ 0x13) then some (Ctr.bench (idx - 0x8100) (sub - 0x0D))
  else if idx = 0x8E00 ∧ (sub = 0x0E ∨ sub = 0x0F) then some (Ctr.benchLoader (sub - 0x0E))
  else if within 0x8E10 16 && (sub == 0x06 || sub == 0x07) then some (Ctr.bay (idx - 0x8E10) (sub - 0x06))
  else if within 0x9200 512 && 0x08 ≤ sub && sub ≤ 0x0A then some (Ctr.poolBank (idx - 0x9200) (sub - 0x08))
  else if within 0x0810 130 && (sub == 0x03 || sub == 0x04) then some (Ctr.intTarget (idx - 0x0810) (sub - 0x03))
  else none

/-- Entries of `w` octets, entry 0 first. -/
def packed (n w : Nat) (f : Nat → Nat) : Nat := (List.range n).foldl (fun v i => v * 2 ^ (8 * w) + f i % 2 ^ (8 * w)) 0

/-! ### Windows (R110, R113) -/

/-- The pipelines' stores as the inactive bank holds them (R209, R417). -/
def State.inactiveView (s : State) : State := { s with tabs := s.tabs.filter (fun e => !isBankTab e.1) ++ s.inactive }

/-- A word of a store as its window shows it: UNLOADED reads as ones (R459). -/
def shownWord (octets : Nat) : Option Nat → Nat
  | none => 2 ^ (8 * octets) - 1
  | some w => w

/-- Word `e` of a pipeline's store: bits 6:0 the pipeline, bit 8 the inactive bank; a word lost there is UNLOADED. -/
def State.shownPipe (s : State) (nano : Bool) (t e : Nat) : Nat :=
  let view := if bit t 8 then s.inactiveView else s
  if s.tab Tab.ucodeLost (lostPipeWord (t % 128) nano e) = 1 then shownWord (if nano then 64 else 4) none
  else if nano then shownWord 64 ((view.pipeNano e).map (· % 2 ^ 512)) else shownWord 4 (view.pipeWord e)

/-- Element `e` of a bench's registers as they were latched at HALTED or FENCED (R415). -/
def State.shownRegs (s : State) (b e : Nat) : Nat :=
  if s.benchState b ≠ 3 ∧ s.benchState b ≠ 4 then 0
  else if e < 64 then s.sReg b e
  else if e < 192 then bits (s.vReg b ((e - 64) / 4)) (64 * (e % 4) + 63) (64 * (e % 4))
  else bits (s.tReg b ((e - 192) / 32)) (64 * (e % 32) + 63) (64 * (e % 32))

/-- Element `i` of the list of a gate bank (R319); what the bank holds beyond a list is free. -/
def State.shownGate (s : State) (t i : Nat) : Nat :=
  let g := s.gate (t % 65536)
  let l := if bit t 16 then g.pending.bind (·.1) else g.active
  match (l.map (·.entries)).getD [] |>.drop i with
  | e :: _ => e.1 * 2 ^ 48 + e.2
  | [] => Config.freeValue (s.freeCtr + i) % 2 ^ 64

/-- CELLS_r and DESC_r of reservation `n`: while it is WITHDRAWN, those that its last version keeps until it has drained (R335). -/
def State.shownShare (s : State) (n : Nat) : Nat × Nat :=
  match (s.oldResv.filter (·.n == n)).getLast? with
  | some o => if s.resvSt n = 4 then (o.cells, o.desc) else (s.tab Tab.resvCells n, s.tab Tab.resvDesc n)
  | none => (s.tab Tab.resvCells n, s.tab Tab.resvDesc n)

/-- Element `n` of RESV_STATE_WINDOW (R342). -/
def State.shownResv (s : State) (n : Nat) : Nat :=
  let share := s.shownShare n
  s.resvSt n * 2 ^ 120 + s.tab Tab.resvCause n * 2 ^ 104 + s.tab Tab.resvDmax n % 2 ^ 32 * 2 ^ 64
    + s.tab Tab.resvDmin n % 2 ^ 32 * 2 ^ 32 + share.1 % 2 ^ 16 * 2 ^ 16 + min share.2 65535

/-- Element `i` of POLICER_STATE_WINDOW (R287). -/
def State.shownPolicer (s : State) (i : Nat) : Nat :=
  s.tab Tab.polGreen i * 2 ^ 224 + s.tab Tab.polYellow i * 2 ^ 192 + s.tab Tab.polRed i * 2 ^ 160 + s.tab Tab.polSdu i * 2 ^ 128
    + s.tab Tab.polGate i * 2 ^ 96 + s.tab Tab.polC i / 10 ^ 6 * 2 ^ 64 + s.tab Tab.polE i / 10 ^ 6 * 2 ^ 32
    + s.tab Tab.polBlocked i * 2 ^ 31

/-- Element `e` of a sealed-bank read (R470): 0 in a compartment with NO_READ. -/
def State.sealedPolicy (s : State) (e : Nat) : Nat := octetsAt 16 (s.reg Reg.SEALED_BANK.POLICY) (e / 1024) 1

/-- LIVE element `e` of target `t` of the window at `idx`, as `session` reads it. -/
def State.liveElem (s : State) (session idx t e : Nat) : Nat :=
  if idx = 0x0900 then s.intConf e
  else if idx = 0x0901 then s.intElem e
  else if idx = 0x2400 then
    (if e < 32 ∧ s.tab Tab.nodeWritten e = 0 then Config.stdGraph e % 2 ^ 512 else s.elem idx 0 e)
  else if idx = 0x2E10 then s.shownPipe false t e
  else if idx = 0x2E11 then s.shownPipe true t e
  else if idx = 0x3011 then (if t = 0 then 0 else s.emSlot e)
  else if idx = 0x3020 then (if s.nodeLive e then s.clsNode e else setBit (s.clsNode e) 511 false)
  else if idx = 0x3021 then
    (if s.retireEpoch LookupKind.rule e = 0 then s.clsRule e else setBit (s.clsRule e) 767 false)
  else if idx = 0x5601 then s.shownPolicer e
  else if idx = 0x5F00 then s.shownGate t e
  else if idx = 0x6811 then s.shownResv e
  else if idx = 0x7010 then
    (if s.tab Tab.signalLatched session = 1 then s.tab Tab.signalLatch (session * 2 ^ 17 + e) else s.slot e)
  else if idx = 0x8300 then ofBE (s.scratch t (4 * e) 4)
  else if idx = 0x8301 then s.shownRegs t e
  else if idx = 0x8E20 then
    (if s.tab Tab.ucodeLost (lostBenchWord t e) = 1 then shownWord 4 none else shownWord 4 (s.benchWord t e))
  else if idx = 0x8E21 then
    (if s.tab Tab.ucodeLost (lostBayWord t e) = 1 then shownWord 64 none else shownWord 64 (s.bayWord t e))
  else if 0x9100 ≤ idx ∧ idx < 0x9110 then ofBE (s.bytesFrom (poolAddr (t * bankSize + 4 * e)) 4)
  else if idx = 0x9401 then (if bit (s.sealedPolicy e) 0 then 0 else ofBE (s.bytesFrom (4 * e) 4))
  else if idx = 0xA100 then (if t = 0 then s.counterElem e else s.tab Tab.snapLatch ((t - 1) * 8192 + e))
  else if idx = 0xA300 ∨ idx = 0xA310 then
    (if s.tab Tab.histLatched (histNo session idx) = 1 then s.tab Tab.histLatch (histNo session idx * 2 ^ 16 + e)
     else s.histElem idx e)
  else s.elem idx t e

/-- A read of LIVE is refused by the owning chapter (R470, R481). -/
def State.liveRefuses (s : State) (idx t : Nat) (elems : List Nat) : Option Nat :=
  if 0x9100 ≤ idx ∧ idx < 0x9110 then s.poolRefuses (idx - 0x9100) t
  else if idx = 0x9401 ∧ s.reg Reg.PRESENCE.WINDOW_OPEN = 0 ∧ elems.any (fun e => bit (s.sealedPolicy e) 1) = true then
    some Code.presenceRequired
  else none

/-- What reading LIVE does besides: the jig yields a segment that the host reaches (R476), and free elements are drawn. -/
def State.liveTouched (s : State) (idx t : Nat) (elems : List Nat) : State :=
  if 0x9100 ≤ idx ∧ idx < 0x9110 then s.forAll elems (fun s e => s.ownerAccess (t * bankSize + 4 * e) 4)
  else if idx = 0x5F00 then s.forAll (List.range 256) (fun s _ => s.drew)
  else s

/-- A BLOCK_READ of LIVE (`live`) or STAGE over the session's own range (R111 to R113). -/
def windowReadEffect (session idx off len : Nat) (live : Bool) (s : State) : Res :=
  let eb := elemBytes idx
  let t := s.rangeTarget session idx
  if off % eb ≠ 0 ∨ len % eb ≠ 0 then Res.fail s Code.range
  else if s.rangeCount session idx * eb < off + len then Res.fail s Code.range Detail.offsetOverEnd
  else
    let elems := (List.range (len / eb)).map (fun i => s.rangeBase session idx + off / eb + i)
    if live then
      match s.liveRefuses idx t elems with
      | some c => Res.fail s c
      | none => { Res.done (s.liveTouched idx t elems) with data := elems.flatMap (fun e => toBE eb (s.liveElem session idx t e)) }
    else
      let staged := fun (e : Nat) => match s.staging? idx with
        | none => 0
        | some g => if g.target = t then g.elems.get (fun _ => 0) e else 0
      { Res.done s with data := elems.flatMap (fun e => toBE eb (staged e)) }

/-! ### Computed sub-indices -/

/-- Where the port's KIND is not one that the sub-index names, it reads 0 (R185). -/
def State.portReadsZero (s : State) (p sub : Nat) : Bool :=
  ((sub == 0x07 || sub == 0x09) && 514 ≤ p) || ((sub == 0x0C || sub == 0x0D || sub == 0x0E) && p != 512 && p != 513)
    || (0x0F ≤ sub && sub ≤ 0x16 && s.portKind p != 2)

/-- Sub-indices of the island's objects. -/
def State.islandValue (s : State) (idx sub : Nat) : Option Nat :=
  if idx = 0x0010 then
    (if sub = 1 then some s.statusWord else if sub = 6 then some (s.clock.island / 400000)
     else if sub = 7 then some (if s.mode = 0 then 0 else (s.clock.island - s.tab Tab.marks 16) / 400000) else none)
  else if idx = 0x0011 then
    (if sub = 1 then some s.attn.seq else if sub = 2 then some s.attn.flags
     else if 3 ≤ sub ∧ sub ≤ 0x0A then some (s.attn.counts.getD (sub - 3) 0) else none)
  else if idx = 0x0012 then
    (if sub = 1 then some (packed 64 16 (s.tab Tab.attnLog)) else if sub = 2 then some s.attn.seq else none)
  else if idx = 0x0101 then
    (if sub = 1 then some ((List.range 16).filter (fun n => s.reg (Reg.SESSION.STATE n) == 1)).length
     else if sub = 2 then some (s.zdp.cache.filter (fun c => !c.done)).length
     else if sub = 3 then some ((List.range 16).map (fun n => s.reg (Reg.SESSION.TAG_COUNT n))).sum else none)
  else if 0x0110 ≤ idx ∧ idx < 0x0120 ∧ sub = 8 then
    (if s.reg (Reg.SESSION.STATE (idx - 0x0110)) = 0 then none
     else some ((s.clock.island - s.tab Tab.marks (idx - 0x0110)) / 400000))
  else if idx = 0x0410 ∧ sub = 5 then some s.targetMv
  else if idx = 0x0440 ∧ sub = 9 ∧ s.reg Reg.LOCKSTEP.GROUP_ID = 0 then some 1
  else if idx = 0x0510 ∧ sub = 1 then some (packed 64 64 (s.tab Tab.faultLog))
  else if idx = 0x0510 ∧ sub = 3 then some (packed 16 64 (s.tab Tab.faultPersisted))
  else if 0x0810 ≤ idx ∧ idx < 0x0810 + 130 then
    (if sub = 1 then some (s.claimable (idx - 0x0810) (fun _ => true)).length
     else if sub = 2 then some ((s.tabList Tab.intState).filter
       (fun e => bits e.2 27 20 == idx - 0x0810 && 2 ≤ bits e.2 31 30)).length else none)
  else if idx = 0x9400 ∧ sub = 1 then
    some (if s.reg Reg.SEALED_BANK.STATE = 2 then 2 else ofBool (s.reg Reg.LIFECYCLE.STATE == 2))
  else if idx = 0x9400 ∧ sub = 5 then
    some (sha384 (s.bytesFrom (4096 * s.reg Reg.SEALED_BANK.DIGEST_SELECT) 4096))
  else none

/-- Sub-indices of lanes, ports and octets. -/
def State.lineValue (s : State) (idx sub : Nat) : Option Nat :=
  if 0x1000 ≤ idx ∧ idx < 0x1208 then
    (if sub = 0x2E then some (packed 16 8 (fun k => s.counter (Ctr.lane (idx - 0x1000) (6 + k))))
     else if (sub = 0x20 ∨ sub = 0x21) ∧ s.reg (regKey idx 0x1F) = 1 then
       some ((s.reg (regKey idx sub) + Config.freeValue (s.freeCtr + sub)) % 2 ^ 64)
     else none)
  else if 0x1400 ≤ idx ∧ idx < 0x1400 + 643 then
    let p := idx - 0x1400
    (if s.portReadsZero p sub then some 0
     else if p = 642 ∧ sub = 0x06 then some 0xFF
     else if sub = 0x0E then some (s.hostFill (p - 512))
     else if sub = 0x12 then some (packed 16 4 (fun q =>
       ((s.creditTerm p q 0) % 2 ^ 24).toNat))
     else none)
  else if 0x1800 ≤ idx ∧ idx < 0x1840 ∧ sub = 0x0C then some (ofBool (s.octetPending (idx - 0x1800)))
  else none

/-- Elements VALID and RETIRING of a lookup array whose VALID is bit `b`, of kind `kind` and `n` elements. -/
def State.lookupState (s : State) (idx kind b i : Nat) : Nat :=
  if s.retireEpoch kind i ≠ 0 then 2 else ofBool (bit (s.elem idx 0 i) b)
def State.lookupLive (s : State) (idx kind b : Nat) : Nat :=
  ((s.tabList (Tab.win idx)).filter (fun e => bit e.2 b && s.retireEpoch kind e.1 == 0)).length
def State.lookupRetiring (s : State) (kind : Nat) : Nat :=
  ((s.tabList Tab.retire).filter (fun e => e.1 / 2 ^ 24 == kind)).length
/-- A STATE_MAP of `n` elements, two bits each (R240). -/
def stateMap (n : Nat) (f : Nat → Nat) : Nat :=
  packed (n / 4) 1 (fun j => f (4 * j) + 4 * f (4 * j + 1) + 16 * f (4 * j + 2) + 64 * f (4 * j + 3))

/-- Sub-indices of the lookup tables. -/
def State.lookupValue (s : State) (idx sub : Nat) : Option Nat :=
  if idx = 0x3000 ∧ sub = 2 then some s.drainedEpoch
  else if idx = 0x3011 ∧ sub = 0x22 then
    some ((s.tabList (Tab.win 0x3011)).filter (fun e => bit e.2 255 && 2 ^ 24 ≤ e.1)).length
  else if idx = 0x3011 ∧ sub = 0x23 then some (s.lookupRetiring LookupKind.em)
  else if idx = 0x3020 ∧ sub = 0x23 then some (stateMap 131072 (s.lookupState 0x3020 LookupKind.node 511))
  else if idx = 0x3020 ∧ sub = 0x24 then
    some (131072 - s.lookupLive 0x3020 LookupKind.node 511 - s.lookupRetiring LookupKind.node)
  else if idx = 0x3020 ∧ sub = 0x25 then some (s.lookupRetiring LookupKind.node)
  else if idx = 0x3021 ∧ sub = 0x22 then some (s.lookupLive 0x3021 LookupKind.rule 767)
  else if idx = 0x3021 ∧ sub = 0x23 then some (s.lookupRetiring LookupKind.rule)
  else if idx = 0x3021 ∧ sub = 0x24 then some (stateMap 65536 (s.lookupState 0x3021 LookupKind.rule 767))
  else none

/-- Sub-indices of the buffer, the tally and the queues. -/
def State.bufferValue (s : State) (idx sub : Nat) : Option Nat :=
  if idx = 0x4000 then
    (match sub with
     | 0x05 => some s.dalzanReserve | 0x06 => some s.sharedCells | 0x07 => some s.sharedFree | 0x0B => some s.descFree
     | 0x0C => some s.resvPoolUsed | _ => none)
  else if idx = 0x4010 ∧ 1 ≤ sub ∧ sub ≤ 3 then some (packed 256 8 (fun r => s.tab Tab.dropTotal ((sub - 1) * 256 + r)))
  else if 0x4020 ≤ idx ∧ idx < 0x4030 then
    (match sub with
     | 0x03 => some (s.reserveUsed (idx - 0x4020)) | 0x04 => some (s.sharedUsed (idx - 0x4020))
     | 0x05 => some (s.framesResident (idx - 0x4020)) | _ => none)
  else if 0x4200 ≤ idx ∧ idx < 0x4200 + 643 then
    (match sub with
     | 0x09 => some (s.portDepth (idx - 0x4200)) | 0x0A => some (packed 16 4 (s.queueDepth (idx - 0x4200))) | _ => none)
  else if 0x4810 ≤ idx ∧ idx < 0x4820 ∧ 1 ≤ sub ∧ sub ≤ 0x0F then some (s.tab Tab.ledgerSnap ((idx - 0x4810) * 32 + sub - 1))
  else if idx = 0x4820 ∧ 1 ≤ sub ∧ sub ≤ 0x0E then some (s.tab Tab.ledgerSnap (17 * 32 + sub - 1))
  else if idx = 0x4840 ∧ sub = 4 then
    some (match s.fences.find? (fun f => f.holder == s.reg Reg.FENCE_CONTROL.QUERY) with | none => 0 | some f => f.state)
  else if idx = 0x4840 ∧ sub = 5 then some s.fences.length
  else if idx = 0x4880 ∧ sub = 1 then some (packed 16 32 (s.tab Tab.tallyLog))
  else if 0x5300 ≤ idx ∧ idx < 0x5300 + 643 ∧ sub = 4 then some (s.pausedMask (idx - 0x5300))
  else if idx = 0x5602 ∧ sub = 2 then some (s.policerList.filter (fun i => polValid (s.policerElem i))).length
  else if 0x5800 ≤ idx ∧ idx < 0x5A00 ∧ s.portKind (idx - 0x5800) ≠ 1 then some 0
  else if 0x5800 ≤ idx ∧ idx < 0x5A00 ∧ sub = 9 then some (packed 8 4 (s.ingressUsage (idx - 0x5800)))
  else none

/-- Sub-indices of GATE_PORT `p` (R319). -/
def State.gateValue (s : State) (p sub : Nat) : Option Nat :=
  let g := s.gate p
  let free := Config.freeValue (s.freeCtr + sub)
  let none' := if s.reg (Reg.GATE_PORT.SWAPS p) = 0 then 0 else free
  match sub with
  | 0x01 => some (ofBool g.active.isSome)
  | 0x02 => some (match g.active with | some l => time80 l.base | none => none' % 2 ^ 80)
  | 0x03 => some (match g.active with | some l => l.cycle | none => none' % 2 ^ 32)
  | 0x04 => some (match g.active with | some l => l.entries.length | none => none' % 2 ^ 16)
  | 0x05 => some (ofBool g.pending.isSome)
  | 0x06 => some (match g.pending with | some x => time80 x.2 | none => if s.reg (Reg.GATE_PORT.SWAP_TIME p) = 0 then 0 else free % 2 ^ 80)
  | 0x0D => some (s.kerfPs p)
  | 0x0E => some (txLatencyPs (s.reg (Reg.PORT.PORT_SPEED p)) (s.reg (Reg.PORT.FEC_MODE p)) / 1000)
  | 0x0F => some (packed 16 4 (s.longestWindow p))
  | 0x11 => some (match g.active with | some l => time80 (l.boundary (s.ptpNs + 1)) | none => none' % 2 ^ 80)
  | _ => none

/-- Sub-indices of time, benches and memories. -/
def State.unitValue (s : State) (idx sub : Nat) : Option Nat :=
  if 0x5C00 ≤ idx ∧ idx < 0x5C00 + 643 then s.gateValue (idx - 0x5C00) sub
  else if idx = 0x6000 then
    (match sub with
     | 0x01 => some s.ptpStamp
     | 0x02 => some (s.clock.ptp % nsUnit / 2 ^ 32)
     | 0x12 => some (ofInt 64 (s.clock.slew / 2 ^ 32 + (if s.clock.slew % 2 ^ 32 = 0 then 0 else (s.freeBelow 2 : Int))))
     | _ => none)
  else if idx = 0x6E00 ∧ sub = 9 then some (ofBool s.healthy)
  else if idx = 0x8000 then
    (match sub with
     | 0x03 => some (packed 4096 8 (s.tab Tab.jobRing))
     | 0x05 => some ((s.tabList Tab.jobState).filter (fun e => e.2 == 1)).length
     | 0x06 => some s.divider
     | _ => none)
  else if 0x8C00 ≤ idx ∧ idx < 0x8D00 ∧ 1 ≤ sub ∧ sub ≤ 0x10 then some (s.tab Tab.jobRecord ((idx - 0x8C00) * 16 + sub - 1))
  else if idx = 0x9000 then
    (match sub with
     | 0x01 => some ((List.range 510).filter (fun k => s.bankState k == 0)).length
     | 0x02 => some ((List.range 510).filter (fun k => s.bankState k == 1)).length
     | 0x03 => some ((List.range 510).filter (fun k => s.bankState k == 5)).length
     | 0x04 => some (packed 512 1 s.bankState)
     | 0x05 => some (packed 512 1 s.bankOwner)
     | _ => none)
  else if 0x9200 ≤ idx ∧ idx < 0x9400 ∧ sub = 0x07 then some (ofBool (s.bankState (idx - 0x9200) == 3 || s.bankState (idx - 0x9200) == 4))
  else if idx = 0xA000 ∧ sub = 2 then some (packed 16384 1 (fun j => (List.range 8).foldl (fun v i => v + s.tab Tab.chained (8 * j + i) * 2 ^ i) 0))
  else none

/-- Sub-indices that every window has (R110), as a session reads them, and the window's own staged values. -/
def State.windowValue (s : State) (session idx sub : Nat) : Option Nat :=
  match Dict.lookup idx with
  | none => none
  | some o =>
    if o.win.isNone then none
    else
      let g := s.staging? idx
      match sub with
      | 0x01 => some (s.rangeTarget session idx)
      | 0x02 => some (s.rangeBase session idx)
      | 0x03 => some (s.rangeCount session idx)
      | 0x05 => some (match g with | none => 0 | some g => g.state)
      | 0x06 => some (match g with | none => 0xFF | some g => g.owner)
      | 0x07 => some (match g with | none => 0 | some g => g.elems.length)
      | 0x04 => some (elemBytes idx)
      | 0x0E => some (ofBool (windowPersists idx))
      | _ =>
        if (idx = 0x5F00 ∨ idx = 0x6810 ∨ (idx = 0x3020 ∧ sub = 0x22)) ∧ 0x20 ≤ sub then
          some (match g with | none => Dict.dflt (regKey idx sub) | some g => g.ownValue (regKey idx sub))
        else none

/-- The PROGRESS of a running load is free up to 100 (R458); of a SAVE or its like too (R106). -/
def State.progressFree (s : State) (idx sub : Nat) : Bool :=
  ((idx == 0x2E00 || idx == 0x8E00) && sub == 0x07 && [2, 3, 5].contains (s.reg (regKey idx 0x05)))
    || (idx == 0x0020 && sub == 0x05 && s.reg Reg.CONFIG_STORE.STATE != 0)

/-- The value of a sub-index as a session reads it. -/
def State.value (s : State) (session idx sub : Nat) : Nat :=
  match s.windowValue session idx sub with
  | some v => v
  | none =>
    match hwCounter idx sub with
    | some n => if 0x5800 ≤ idx ∧ idx < 0x5A00 ∧ s.portKind (idx - 0x5800) ≠ 1 then 0 else s.counter n
    | none =>
      if s.progressFree idx sub then s.freeBelow 101
      else
        ((((((s.islandValue idx sub).or (s.lineValue idx sub)).or (s.lookupValue idx sub)).or (s.bufferValue idx sub)).or
          (s.unitValue idx sub)).getD (s.reg (regKey idx sub)))

/-- A read of the sub-index draws free values. -/
def State.valueDrawn (s : State) (idx sub : Nat) : State :=
  if s.progressFree idx sub || (0x1000 ≤ idx && idx < 0x1208 && (sub == 0x20 || sub == 0x21))
      || (0x5C00 ≤ idx && idx < 0x5F00) || (idx == 0x6000 && sub == 0x12) then
    s.forAll (List.range 64) (fun s _ => s.drew)
  else s

end Sys2Proof.Machine
end

