-- ==== Sys2Proof/Machine/Cwords.lean ====
section
/-!
DEFINITION. The control words of a bench (R396 to R398, R403, R406, R491).
-/
namespace Sys2Proof.Machine

/-- Control words that may be read, and written (R397). -/
def cwReadable (k : Nat) : Bool := k ≤ 8 || k == Cw.intClaim || k == Cw.dictResult || k == Cw.rxTail
def cwWritable (k : Nat) : Bool :=
  (Cw.status ≤ k && k ≤ Cw.raise) || k == Cw.intComplete || k == Cw.dictTarget || k == Cw.dictValue || k == Cw.rxRing || k == Cw.rxHead

/-- The trap of a write of `v` to control word `k` by bench `b`: COMPLETE states 0 to 224 octets of scratch, BARRIER an enabled
barrier. -/
def State.cwWriteTrap (s : State) (_b k v : Nat) : Option Nat :=
  if !cwWritable k then some Trap.cwInvalid
  else if k = Cw.complete then
    (if 224 < bits v 33 26 then some Trap.cwInvalid
     else if !inScratch (bits v 17 0) (bits v 33 26) then some Trap.scratchRange else none)
  else if k = Cw.barrier then
    (if 31 < v ∨ s.reg (Reg.BARRIER.PARTICIPANTS v) = 0 then some Trap.cwInvalid else none)
  else none

/-- A second dictionary write stalls while the first is in progress (R398). -/
def State.cwStalls (s : State) (b k : Nat) : Bool := k == Cw.dictValue && s.misc b 1 != 0

/-- COMPLETE (R403, R465): banks are returned, a job is completed with its data, and the bench is IDLE. -/
def State.completeProgram (s : State) (b v : Nat) : State :=
  let s := s.returnAtEnd b
  let s := s.endJob b 0 (s.cw b Cw.userCode) (s.scratch b (bits v 17 0) (bits v 33 26))
  s.becomeIdle b

/-- A claim of bench `b` (R491): the value that INT_CLAIM reads. -/
def State.claimBench (s : State) (b : Nat) : State × Nat :=
  match s.claimable b (fun _ => true) with
  | [] => (s, 2 ^ 63)
  | n :: _ => (s.claimSrc n b, s.srcPriority n * 2 ^ 24 + n)

/-- A completion by target `t` of the source in bits 12:0 (R491). -/
def State.completeBy (s : State) (t v : Nat) : State :=
  let n := bits v 12 0
  if 2 ≤ s.srcState n ∧ bits (s.intElem n) 27 20 = t then s.completeSrc n else s.countPlain (Ctr.intTarget t 1)

/-- Control word `k` read by bench `b`: a claim changes the state. -/
def State.cwValue (s0 s : State) (b k : Nat) : State × Nat :=
  if k = Cw.benchId then (s, b)
  else if k = Cw.timeNow then (s, packTime s0.ptpNs)
  else if k = Cw.divider then (s, s0.divider)
  else if k = Cw.intClaim then s.claimBench b
  else (s, s0.cw b k)

/-- Control word `k` read into register `reg`. -/
def State.runCwRead (s0 s : State) (b k reg : Nat) : State :=
  let (s, v) := s0.cwValue s b k
  s.setS b reg v

/-- Control word `k` written with `v`, which neither traps nor stalls. -/
def State.runCwWrite (s : State) (b k v : Nat) : State :=
  match k with
  | 8 => s.setCw b Cw.status (clearBits (s.cw b Cw.status) (v % 16))
  | 9 => s.completeProgram b v
  | 10 => s.setCw b Cw.userCode (v % 2 ^ 32)
  | 11 => s.arriveBarrier b v
  | 12 => s.trigger (0x1900 + b)
  | 14 => s.completeBy b v
  | 15 => s.setCw b Cw.dictTarget (bits v 31 8)
  | 16 => (s.setMisc b 1 (s.cw b Cw.dictTarget * 2 ^ 72 + v % 2 ^ 64 + 1)).setCw b Cw.dictResult 0x100
  | 18 => s.setCw b Cw.rxRing (v % 2 ^ 36)
  | _ => s.setCw b k v

/-- A write of `v` to control word `k` by the control-word unit of a running bench: it may stall, or trap. -/
def State.unitCwWrite (s : State) (b k v : Nat) : State :=
  if !s.benchRuns b || s.cwStalls b k then s
  else match s.cwWriteTrap b k v with | some c => s.trapBench b c | none => s.runCwWrite b k v

/-- A read of control word `k` by the control-word unit of a running bench. -/
def State.unitCwRead (s : State) (b k reg : Nat) : State :=
  if !s.benchRuns b then s else if cwReadable k then s.runCwRead s b k reg else s.trapBench b Trap.cwInvalid

/-- CWORD_READ (R397, R429). -/
def execCwordRead (b : BenchNo) (cw : Fin 32) (reg : SReg) (s : State) : Next := State.done (s.unitCwRead b cw reg)
/-- CWORD_WRITE (R397, R429). -/
def execCwordWrite (b : BenchNo) (cw : Fin 32) (value : Nat) (s : State) : Next := State.done (s.unitCwWrite b cw (value % 2 ^ 64))
/-- COMPLETE (R403). -/
def execComplete (b : BenchNo) (value : Nat) (s : State) : Next := State.done (s.unitCwWrite b Cw.complete (value % 2 ^ 64))
/-- BARRIER (R406). -/
def execBarrier (b : BenchNo) (value : Nat) (s : State) : Next := State.done (s.unitCwWrite b Cw.barrier (value % 2 ^ 64))
/-- RAISE (R397). -/
def execRaise (b : BenchNo) (s : State) : Next := State.done (s.unitCwWrite b Cw.raise 0)
/-- INT_CLAIM (R491). -/
def execIntClaim (b : BenchNo) (reg : SReg) (s : State) : Next := State.done (s.unitCwRead b Cw.intClaim reg)
/-- INT_COMPLETE (R491). -/
def execIntComplete (b : BenchNo) (value : Nat) (s : State) : Next := State.done (s.unitCwWrite b Cw.intComplete (value % 2 ^ 64))
/-- DICT_VALUE (R398). -/
def execDictValue (b : BenchNo) (value : Nat) (s : State) : Next := State.done (s.unitCwWrite b Cw.dictValue (value % 2 ^ 64))
/-- RX_RING (R396). -/
def execRxRing (b : BenchNo) (value : Nat) (s : State) : Next := State.done (s.unitCwWrite b Cw.rxRing (value % 2 ^ 64))
/-- RX_HEAD (R396). -/
def execRxHead (b : BenchNo) (value : Nat) (s : State) : Next := State.done (s.unitCwWrite b Cw.rxHead (value % 2 ^ 64))

end Sys2Proof.Machine
end

