-- ==== Sys2Proof/Machine/MemUnit.lean ====
section
/-!
DEFINITION. The memory unit and the tiles of a bench (R386 to R395, R428, R430): what traps, and what each operation does. An
operation reads from the state at issue, `s0`, and writes into `s`.
-/
namespace Sys2Proof.Machine

/-! ### Traps and stalls -/

/-- FSEND stalls its bench while the send queue is full (R395). -/
def State.memStalls (s : State) (b : Nat) (o : MemOp) : Bool := o == .fsend && 16 ≤ (s.sendQueue b).length

/-- A refused pool access: of a bank not owned, or one that an error takes now (R391, R467). -/
def State.poolTrap (s : State) (b p n : Nat) (e : BenchEnv) : Option (State × Nat) :=
  if !s.mayAccess b p n then some (s, Trap.poolNotOwned)
  else match s.poolError b p n e.poolBad with | some s => some (s, Trap.poolNotOwned) | none => none

/-- An access to scratch that leaves it, or, where it reads, meets an error. -/
def scratchTrap (a n : Nat) (reads : Bool) (e : BenchEnv) : Option Nat :=
  if !inScratch a n then some Trap.scratchRange else if reads && e.scratchBad then some Trap.memoryError else none

/-- The first trap of a list of checks. -/
def firstTrap (l : List (Option Nat)) : Option Nat := l.findSome? id

/-- Slot numbers of a list of `n` U32 entries of `w` octets each at scratch address `a`. -/
def State.slotList (s : State) (b a n w : Nat) : List Nat := (List.range n).map (fun k => ofLE (s.scratch b (a + w * k) 4))

/-- A slot number above 131,071 traps (R392). -/
def slotTrap (l : List Nat) : Option Nat := if l.any (131071 < ·) then some Trap.slotRange else none

/-- The trap of a memory operation of bench `b`, with the state that it leaves; none where it is performed. -/
def State.memTrap (s : State) (b : Nat) (o : MemOp) (x : MemSlot) (imm : Nat) (e : BenchEnv) : Option (State × Nat) :=
  let here := fun (c : Option Nat) => c.map (fun c => (s, c))
  let a := s.sReg b x.ra
  let y := s.sReg b x.rb
  let z := s.sReg b x.rc
  let n := sizeOctets x.size
  let addr := s.memAddr b x imm
  match o with
  | .ld => here (scratchTrap addr n true e)
  | .st => here (scratchTrap addr n false e)
  | .pld => s.poolTrap b addr n e
  | .pst => s.poolTrap b addr n e
  | .pmoveIn => match scratchTrap a z false e with | some c => some (s, c) | none => s.poolTrap b y z e
  | .pmoveOut => match scratchTrap a z true e with | some c => some (s, c) | none => s.poolTrap b y z e
  | .sread => here (slotTrap [a])
  | .sgather =>
    let q := s.sReg b x.rd
    (match firstTrap [scratchTrap a (z * n) false e, scratchTrap y (4 * z) true e,
        if q = 0xFFFFFFFF then none else scratchTrap q (2 * z) false e] with
     | some c => some (s, c)
     | none => here (slotTrap (s.slotList b y z 4)))
  | .swrite => here (slotTrap [a])
  | .sscatter =>
    (match scratchTrap a (16 * y) true e with
     | some c => some (s, c)
     | none => here (slotTrap (s.slotList b a y 16)))
  | .fsend => here (scratchTrap a y false e)

/-! ### Effects -/

/-- A write of a slot by bench `b` (R359, R394): one that R359 discards is shown in STATUS and counted. -/
def State.benchSlotWrite (s : State) (b n value quality srcSeq : Nat) (e : BenchEnv) : State :=
  let (s, ok) := s.writeBench b n value quality srcSeq (e.lost.contains n)
  if ok then s else (s.setStatus b 0).count (Ctr.bench b 6)

/-- Entry `k` of an SGATHER: the low `w` octets of VALUE, and the QUALITY. -/
def State.gatherEntry (s0 s : State) (b dst qdst w k slot : Nat) : State :=
  let v := s0.slot slot
  let s := s.setScratch b (dst + k * w) (toLE w (slotValue v))
  if qdst = 0xFFFFFFFF then s else s.setScratch b (qdst + 2 * k) (toLE 2 (slotQuality v))

/-- A memory operation of bench `b` that does not trap. -/
def State.runMem (s0 s : State) (b : Nat) (o : MemOp) (x : MemSlot) (imm : Nat) (e : BenchEnv) : State :=
  let a := s0.sReg b x.ra
  let y := s0.sReg b x.rb
  let z := s0.sReg b x.rc
  let n := sizeOctets x.size
  let addr := s0.memAddr b x imm
  match o with
  | .ld => s.putLoad b x (s0.scratch b addr n)
  | .st => s.setScratch b addr (s0.storeOctets b x)
  | .pld => (s.poolCounts b addr n e.corrected 0).putLoad b x (s0.bytesFrom (poolAddr addr) n)
  | .pst => (s.poolCounts b addr n e.corrected e.busy).setBytes (poolAddr addr) (s0.storeOctets b x)
  | .pmoveIn => (s.poolCounts b y z e.corrected 0).setScratch b a (s0.bytesFrom (poolAddr y) z)
  | .pmoveOut => (s.poolCounts b y z e.corrected e.busy).setBytes (poolAddr y) (s0.scratch b a z)
  | .sread =>
    let v := s0.slot a
    if x.size.val = 4 then s.forAll (List.range 4) (fun s i => s.setS b (x.rd + i) (leAt v (8 * i) 8)) else s.setS b x.rd (slotValue v)
  | .sgather => s.forAll (s0.slotList b y z 4).zipIdx (fun s t => s0.gatherEntry s b a (s0.sReg b x.rd) n t.2 t.1)
  | .swrite =>
    s.benchSlotWrite b a (if x.size.val = 2 then y % 2 ^ 32 else y) (z % 65536) (s0.sReg b x.rd % 65536) e
  | .sscatter => s.forAll (List.range y) (fun s k =>
      let r := s0.scratch b (a + 16 * k) 16
      s.benchSlotWrite b (ofLE (r.take 4)) (ofLE (r.drop 8)) (ofLE ((r.drop 4).take 2)) (ofLE ((r.drop 6).take 2)) e)
  | .fsend => s.setSendQueue b (s.sendQueue b ++ [a * 2 ^ 32 + y])

/-- A memory operation that the memory unit of a running bench performs by itself: it may stall, or trap. -/
def State.unitMem (s : State) (b : Nat) (o : MemOp) (x : MemSlot) (imm : Nat) (e : BenchEnv) : State :=
  if !s.benchRuns b || !memOk o x || s.memStalls b o then s
  else match s.memTrap b o x imm e with
    | some (s, c) => s.trapBench b c
    | none => s.runMem s b o x imm e

/-- LD (R390, R428). -/
def execLd (b : BenchNo) (x : MemSlot) (imm : Fin 262144) (e : BenchEnv) (s : State) : Next := State.done (s.unitMem b .ld x imm e)
/-- ST (R390, R428). -/
def execSt (b : BenchNo) (x : MemSlot) (imm : Fin 262144) (e : BenchEnv) (s : State) : Next := State.done (s.unitMem b .st x imm e)
/-- PLD (R391, R428). -/
def execPld (b : BenchNo) (x : MemSlot) (imm : Fin 262144) (e : BenchEnv) (s : State) : Next := State.done (s.unitMem b .pld x imm e)
/-- PST (R391, R428). -/
def execPst (b : BenchNo) (x : MemSlot) (imm : Fin 262144) (e : BenchEnv) (s : State) : Next := State.done (s.unitMem b .pst x imm e)
/-- PMOVE_IN (R391, R428). -/
def execPmoveIn (b : BenchNo) (x : MemSlot) (imm : Fin 262144) (e : BenchEnv) (s : State) : Next :=
  State.done (s.unitMem b .pmoveIn x imm e)
/-- PMOVE_OUT (R391, R428). -/
def execPmoveOut (b : BenchNo) (x : MemSlot) (imm : Fin 262144) (e : BenchEnv) (s : State) : Next :=
  State.done (s.unitMem b .pmoveOut x imm e)
/-- SREAD (R392, R428). -/
def execSread (b : BenchNo) (x : MemSlot) (imm : Fin 262144) (e : BenchEnv) (s : State) : Next := State.done (s.unitMem b .sread x imm e)
/-- SGATHER (R392, R428). -/
def execSgather (b : BenchNo) (x : MemSlot) (imm : Fin 262144) (e : BenchEnv) (s : State) : Next :=
  State.done (s.unitMem b .sgather x imm e)
/-- SWRITE (R394, R428). -/
def execSwrite (b : BenchNo) (x : MemSlot) (imm : Fin 262144) (e : BenchEnv) (s : State) : Next :=
  State.done (s.unitMem b .swrite x imm e)
/-- SSCATTER (R394, R428). -/
def execSscatter (b : BenchNo) (x : MemSlot) (imm : Fin 262144) (e : BenchEnv) (s : State) : Next :=
  State.done (s.unitMem b .sscatter x imm e)
/-- FSEND (R395, R428). -/
def execFsend (b : BenchNo) (x : MemSlot) (imm : Fin 262144) (e : BenchEnv) (s : State) : Next := State.done (s.unitMem b .fsend x imm e)

/-! ### Tiles (R386, R387, R430) -/

/-- Element [r][c] of an accumulator. -/
def tileAt (v r c : Nat) : Nat := bits v (32 * (8 * r + c) + 31) (32 * (8 * r + c))

/-- An accumulator of 64 elements. -/
def tileOf (f : Nat → Nat → Nat) : Nat :=
  ((List.range 64).map (fun i => f (i / 8) (i % 8) % 2 ^ 32 * 2 ^ (32 * i))).sum

/-- acc + x × y as a tile does it: subnormal inputs and results are zero. -/
def tileFma (x y acc : Nat) : Nat := f32.flush (f32.fma (f32.flush x) (f32.flush y) (f32.flush acc))

/-- The outer product of two vectors added. -/
def outerTile (va vb acc : Nat) : Nat := tileOf (fun i j => tileFma (lane32 va i) (lane32 vb j) (tileAt acc i j))

/-- FP32 element `i` of scratch from address `a`. -/
def State.scratch32 (s : State) (b a i : Nat) : Nat := ofLE (s.scratch b (a + 4 * i) 4)

/-- A × B added, A 8 × k and B k × 8, row-major. -/
def State.mmaTile (s : State) (b aAddr bAddr k acc : Nat) : Nat :=
  (List.range k).foldl (fun acc l =>
    tileOf (fun i j => tileFma (s.scratch32 b aAddr (i * k + l)) (s.scratch32 b bAddr (l * 8 + j)) (tileAt acc i j))) acc

/-- The trap of a tile operation. -/
def State.tileTrap (s : State) (b : Nat) (o : TileOp) (e : BenchEnv) : Option Nat :=
  match o with
  | .tmma ra rb rk => firstTrap [scratchTrap (s.sReg b ra) (32 * s.sReg b rk) true e, scratchTrap (s.sReg b rb) (32 * s.sReg b rk) true e]
  | .tstore ra => scratchTrap (s.sReg b ra) 256 false e
  | _ => none

/-- Bench clocks for which a tile operation occupies its tile (R386). -/
def State.tileClocks (s : State) (b : Nat) (o : TileOp) : Nat :=
  match o with | .touter _ _ => 8 | .tmma _ _ rk => 8 * s.sReg b rk | .tstore _ => 2 | _ => 1

/-- A tile operation of tile `t` of bench `b` that does not trap; its occupancy counts in the energy interval (R513). -/
def State.runTile (s0 s : State) (b t : Nat) (o : TileOp) : State :=
  let acc := s0.tReg b t
  let s := s.setTab Tab.interval (128 + b) (s.tab Tab.interval (128 + b) + s0.tileClocks b o)
  match o with
  | .tzero => s.setT b t 0
  | .touter va vb => s.setT b t (outerTile (s0.vReg b va) (s0.vReg b vb) acc)
  | .tmma ra rb rk => s.setT b t (s0.mmaTile b (s0.sReg b ra) (s0.sReg b rb) (s0.sReg b rk) acc)
  | .tread row vd => s.setV b vd (lanes32 (fun c => tileAt acc row c))
  | .tstore ra => s.setScratch b (s0.sReg b ra) (toLE 256 acc)

/-- A tile operation that a tile of a running bench performs by itself. -/
def State.unitTile (s : State) (b t : Nat) (o : TileOp) (e : BenchEnv) : State :=
  if !s.benchRuns b then s
  else match s.tileTrap b o e with | some c => s.trapBench b c | none => s.runTile s b t o

/-- What a clean access meets. -/
def BenchEnv.clean : BenchEnv := ⟨0, [], 0, 0, 0, false⟩

/-- TZERO (R386). -/
def execTzero (b : BenchNo) (t : TReg) (s : State) : Next := State.done (s.unitTile b t .tzero BenchEnv.clean)
/-- TOUTER (R386). -/
def execTouter (b : BenchNo) (t : TReg) (va vb : VReg) (s : State) : Next := State.done (s.unitTile b t (.touter va vb) BenchEnv.clean)
/-- TMMA (R386, R390). -/
def execTmma (b : BenchNo) (t : TReg) (ra rb rk : SReg) (e : BenchEnv) (s : State) : Next :=
  State.done (s.unitTile b t (.tmma ra rb rk) e)
/-- TREAD (R386). -/
def execTread (b : BenchNo) (t : TReg) (row : Fin 8) (vd : VReg) (s : State) : Next :=
  State.done (s.unitTile b t (.tread row vd) BenchEnv.clean)
/-- TSTORE (R386, R390). -/
def execTstore (b : BenchNo) (t : TReg) (ra : SReg) (e : BenchEnv) (s : State) : Next := State.done (s.unitTile b t (.tstore ra) e)

end Sys2Proof.Machine
end

