-- ==== Sys2Proof/Machine/Micro.lean ====
section
/-!
DEFINITION. Execution of bench microcode (R384, R420 to R424, R431, R442, R454, R455): the fetch, the issue of a nanoword,
sequencing, and the vendor routines.
-/
namespace Sys2Proof.Machine

/-! ### Errors in the stores (R454, R455, R563) -/

/-- A single-bit error of a bench word is corrected. -/
def State.correctBench (s : State) (b : Nat) : State := (s.count (Ctr.benchLoader 0)).count (Ctr.bay (b / 8) 0)

/-- An uncorrectable word of element `i` of Tab.ucodeLost is met by bench `b`. -/
def State.loseBenchWord (s : State) (b i : Nat) : State :=
  let s := ((s.setTab Tab.ucodeLost i 1).count (Ctr.benchLoader 1)).count (Ctr.bay (b / 8) 1)
  (s.event Reg.BENCH_UCODE.EVENTS 2 0x1981).refreshMicrocode

/-! ### The fetch (R420, R424, R455) -/

/-- What bench `b` finds at its program counter: a microword, or a trap; with the state after the fetch. -/
def State.fetchMicro (s : State) (b : Nat) (e : BenchEnv) : State × Except Nat Micro :=
  let pc := s.reg (Reg.BENCH.PC b)
  let lost := lostBenchWord b pc
  if 16384 ≤ pc then (s, .error Trap.illegalMicroword)
  else if s.tab Tab.ucodeLost lost = 1 ∨ e.fetch = 2 then (s.loseBenchWord b lost, .error Trap.memoryError)
  else
    let s := s.when (e.fetch == 1) (·.correctBench b)
    match s.benchWord b pc with
    | none => (s, .error Trap.illegalMicroword)
    | some w => match decodeMicro w with | none => (s, .error Trap.illegalMicroword) | some m => (s, .ok m)

/-- The nanoword at address `a` of the bay of bench `b`. -/
def State.fetchNano (s : State) (b a : Nat) (e : BenchEnv) : State × Except Nat Nano :=
  let lost := lostBayWord (b / 8) a
  if s.tab Tab.ucodeLost lost = 1 ∨ e.fetch = 4 then (s.loseBenchWord b lost, .error Trap.memoryError)
  else
    let s := s.when (e.fetch == 3) (·.correctBench b)
    match s.bayWord (b / 8) a with
    | none => (s, .error Trap.illegalMicroword)
    | some w => match decodeNano w with | none => (s, .error Trap.illegalMicroword) | some n => (s, .ok n)

/-! ### Sequencing (R421 to R424) -/

/-- A loop: iterations left, first address and TARGET. -/
def packLoop (left first target : Nat) : Nat := left * 2 ^ 30 + first * 2 ^ 15 + target
def loopLeft (l : Nat) : Nat := l / 2 ^ 30
def loopFirst (l : Nat) : Nat := bits l 29 15
def loopTarget (l : Nat) : Nat := bits l 14 0

/-- After a microword at `pc` that goes to its next address: the loops, innermost first, and the address. -/
def loopNext (pc : Nat) : List Nat → List Nat × Nat
  | [] => ([], pc + 1)
  | l :: rest =>
    if loopTarget l = pc then
      (if 1 < loopLeft l then (packLoop (loopLeft l - 1) (loopFirst l) pc :: rest, loopFirst l) else loopNext pc rest)
    else (l :: rest, pc + 1)

/-- The program counter of bench `b` moves on. -/
def State.advance (s : State) (b : Nat) : State :=
  let r := loopNext (s.reg (Reg.BENCH.PC b)) (s.loopStack b).reverse
  (s.setLoopStack b r.1.reverse).setReg (Reg.BENCH.PC b) r.2

/-- A taken BRANCH or JUMP: out of the innermost loop's body it ends that loop. -/
def State.jumpTo (s : State) (b target : Nat) : State :=
  let l := s.loopStack b
  let s := match l.getLast? with
    | none => s
    | some k => if loopFirst k ≤ target ∧ target ≤ loopTarget k then s else s.setLoopStack b l.dropLast
  s.setReg (Reg.BENCH.PC b) target

/-! ### Issue (R384, R431) -/

/-- The control-word slot's trap, before anything is performed. -/
def State.cwTrap (s : State) (b : Nat) (imm : Nat) (o : CwOp) : Option Nat :=
  match o with
  | .read k _ => if cwReadable k then none else some Trap.cwInvalid
  | .write k r => s.cwWriteTrap b k (s.sReg b r)
  | .writeImm k => s.cwWriteTrap b k imm

/-- The nanoword stalls (R395, R398). -/
def State.nanoStalls (s : State) (b : Nat) (n : Nano) : Bool :=
  (match n.memory with | some (o, _) => s.memStalls b o | none => false)
    || (match n.cword with | some (.write k _) => s.cwStalls b k | some (.writeImm k) => s.cwStalls b k | _ => false)

/-- The first trap of a nanoword, with the state that it leaves. -/
def State.nanoTrap (s : State) (b : Nat) (n : Nano) (imm : Nat) (e : BenchEnv) : Option (State × Nat) :=
  match (match n.memory with | some (o, x) => s.memTrap b o x imm e | none => none) with
  | some t => some t
  | none =>
    match n.tiles.findSome? (fun t => s.tileTrap b t.2 e) with
    | some c => some (s, c)
    | none => (match n.cword with | some o => (s.cwTrap b imm o).map (fun c => (s, c)) | none => none)

/-- Every operation of a nanoword of bench `b`, from the state at issue `s0` into `s`; the control word last. -/
def State.runNano (s0 s : State) (b : Nat) (n : Nano) (imm : Nat) (e : BenchEnv) : State :=
  let s := match n.scalar with | some (o, x) => s0.runScalar s b o x imm | none => s
  let s := match n.vector with | some (o, x) => s0.runVector s b o x | none => s
  let s := match n.memory with | some (o, x) => s0.runMem s b o x imm e | none => s
  let s := s.forAll n.tiles (fun s t => s0.runTile s b t.1 t.2)
  match n.cword with
  | some (.read k r) => s0.runCwRead s b k r
  | some (.write k r) => s.runCwWrite b k (s0.sReg b r)
  | some (.writeImm k) => s.runCwWrite b k imm
  | none => s

/-- Bench `b` issues nanoword `nano`; `next` is what its microword does to the program counter. -/
def State.issue (s : State) (b nano imm : Nat) (e : BenchEnv) (next : State → State) : State :=
  match s.fetchNano b nano e with
  | (s, .error c) => s.trapBench b c
  | (s, .ok n) =>
    if s.nanoStalls b n then s
    else match s.nanoTrap b n imm e with
      | some (s, c) => s.trapBench b c
      | none =>
        match s.askTiles b (n.tiles.map (·.1.val)) with
        | (s, false) => s
        | (s, true) => s.runNano (next s) b n imm e

/-! ### The vendor routines (R442) -/

/-- Registers that a routine may change take open values: s32 to s63, v24 to v31, t12 to t15 and the flags. -/
def State.scrubRegs (s : State) (b : Nat) : State :=
  let s := s.forAll (List.range 32) (fun s i => s.drew.setS b (32 + i) (s.freeBelow (2 ^ 64)))
  let s := s.forAll (List.range 8) (fun s i => s.drew.setV b (24 + i) (s.freeBelow (2 ^ 256)))
  let s := s.forAll (List.range 4) (fun s i => s.drew.setT b (12 + i) (s.freeBelow (2 ^ 2048)))
  s.drew.setTab Tab.benchFlags b (s.freeBelow 16)

/-- Entry addresses of the routines. -/
def isRoutine (pc : Nat) : Bool := pc == 0x3800 || pc == 0x3840 || pc == 0x3880 || pc == 0x38C0

/-- The scratch that a routine of bench `b` reads and writes, and its octets; for CRC32C the result. -/
def State.routineTrap (s : State) (b pc : Nat) : Option Nat :=
  let r := s.sReg b
  if pc = 0x3800 then firstTrap [scratchTrap (r 32) (r 34) false BenchEnv.clean, scratchTrap (r 33) (r 34) false BenchEnv.clean]
  else if pc = 0x3840 then scratchTrap (r 32) (r 34) false BenchEnv.clean
  else if pc = 0x3880 then
    firstTrap [scratchTrap (r 32) (4 * r 34 * r 35) false BenchEnv.clean, scratchTrap (r 36) (4 * r 35) false BenchEnv.clean,
      scratchTrap (r 33) (4 * r 34) false BenchEnv.clean]
  else scratchTrap (r 32) (r 34) false BenchEnv.clean

/-- What a routine does: the order of GEMV's sums is not given, so what rounds is open. -/
def State.routineEffect (s0 s : State) (b pc : Nat) : State :=
  let r := s0.sReg b
  if pc = 0x3800 then s.setScratch b (r 33) (s0.scratch b (r 32) (r 34))
  else if pc = 0x3840 then s.setScratch b (r 32) (List.replicate (r 34) (r 35 % 256))
  else if pc = 0x3880 then s.drew.setScratch b (r 33) (toLE (4 * r 34) (s.freeBelow (2 ^ (32 * r 34))))
  else s.setS b 63 (crc32c (s0.scratch b (r 32) (r 34)))

/-- Bench `b` runs the vendor routine at its program counter, as one, and returns from it. -/
def State.runRoutine (s : State) (b : Nat) : State :=
  let pc := s.reg (Reg.BENCH.PC b)
  match s.routineTrap b pc with
  | some c => s.trapBench b c
  | none =>
    match (s.retStack b).getLast? with
    | none => s.trapBench b Trap.illegalMicroword
    | some a => ((s.routineEffect (s.scrubRegs b) b pc).setRetStack b (s.retStack b).dropLast).setReg (Reg.BENCH.PC b) a

/-- The program counter of bench `b` stands at a routine of a loaded vendor region. -/
def State.atRoutine (s : State) (b : Nat) : Bool :=
  isRoutine (s.reg (Reg.BENCH.PC b)) && s.tab Tab.vendorLoaded (1 + b / 8) == 1
    && s.tab Tab.ucodeLost (lostBenchWord b (s.reg (Reg.BENCH.PC b))) == 0

/-! ### The commands (R420 to R424) -/

/-- A running bench fetches: `f` acts on a microword that it matches, `other` on what the fetch answers beside it. -/
def State.onMicro (s : State) (b : Nat) (e : BenchEnv) (f : State → Micro → Option State) : Next :=
  if !s.benchRuns b || s.atRoutine b then .next s
  else match s.fetchMicro b e with
    | (_, .error _) => .next s
    | (s', .ok m) => match f s' m with | none => .next s | some t => State.done t

/-- EXEC (R420, R424, R442, R455): an EXEC microword, a microword that traps at its fetch, or a vendor routine. -/
def execExecMicroword (b : BenchNo) (e : BenchEnv) (s : State) : Next :=
  if !s.benchRuns b then .next s
  else if s.atRoutine b then State.done (s.runRoutine b)
  else match s.fetchMicro b e with
    | (s, .error c) => State.done (s.trapBench b c)
    | (s', .ok (.exec nano imm)) => State.done (s'.issue b nano imm e (·.advance b))
    | (_, .ok _) => .next s

/-- BRANCH (R421): IMM is 0. -/
def execBranch (b : BenchNo) (e : BenchEnv) (s : State) : Next :=
  s.onMicro b e (fun s m => match m with
    | .branch nano cond target => some (s.issue b nano 0 e (if s.condHolds b cond then (·.jumpTo b target) else (·.advance b)))
    | _ => none)

/-- NOP (R422). -/
def execNop (b : BenchNo) (e : BenchEnv) (s : State) : Next :=
  s.onMicro b e (fun s m => match m with | .nop => some (s.advance b) | _ => none)

/-- JUMP (R422, R423). -/
def execJump (b : BenchNo) (e : BenchEnv) (s : State) : Next :=
  s.onMicro b e (fun s m => match m with | .jump target => some (s.jumpTo b target) | _ => none)

/-- CALL (R422, R424): a seventeenth return address traps. -/
def execCall (b : BenchNo) (e : BenchEnv) (s : State) : Next :=
  s.onMicro b e (fun s m => match m with
    | .call target =>
      let l := s.retStack b
      if 16 ≤ l.length then some (s.trapBench b Trap.illegalMicroword)
      else some ((s.setRetStack b (l ++ [s.reg (Reg.BENCH.PC b) + 1])).setReg (Reg.BENCH.PC b) target)
    | _ => none)

/-- RETURN (R422, R424): an empty stack traps. -/
def execRet (b : BenchNo) (e : BenchEnv) (s : State) : Next :=
  s.onMicro b e (fun s m => match m with
    | .ret =>
      let l := s.retStack b
      (match l.getLast? with
       | none => some (s.trapBench b Trap.illegalMicroword)
       | some a => some ((s.setRetStack b l.dropLast).setReg (Reg.BENCH.PC b) a))
    | _ => none)

/-- LOOP (R422 to R424): a fifth loop traps. -/
def execLoop (b : BenchNo) (e : BenchEnv) (s : State) : Next :=
  s.onMicro b e (fun s m => match m with
    | .loop target reg =>
      let pc := s.reg (Reg.BENCH.PC b)
      let n := s.sReg b reg
      let l := s.loopStack b
      if n = 0 then some (s.setReg (Reg.BENCH.PC b) (target + 1))
      else if 4 ≤ l.length then some (s.trapBench b Trap.illegalMicroword)
      else some ((s.setLoopStack b (l ++ [packLoop n (pc + 1) target])).setReg (Reg.BENCH.PC b) (pc + 1))
    | _ => none)

/-- SYNC (R422): what was issued earlier has been performed, so it stalls no longer. -/
def execSync (b : BenchNo) (e : BenchEnv) (s : State) : Next :=
  s.onMicro b e (fun s m => match m with | .sync => some (s.advance b) | _ => none)

/-- TRAP (R422). -/
def execTrap (b : BenchNo) (e : BenchEnv) (s : State) : Next :=
  s.onMicro b e (fun s m => match m with | .trap => some (s.trapBench b Trap.explicit) | _ => none)

/-- LOADIMM SET (R420). -/
def execLoadimmSet (b : BenchNo) (e : BenchEnv) (s : State) : Next :=
  s.onMicro b e (fun s m => match m with | .set dst imm => some ((s.setS b dst (signExtend 22 64 imm)).advance b) | _ => none)

/-- LOADIMM SHIFT (R420). -/
def execLoadimmShift (b : BenchNo) (e : BenchEnv) (s : State) : Next :=
  s.onMicro b e (fun s m => match m with
    | .shift dst imm => some ((s.setS b dst (s.sReg b dst <<< 22 % 2 ^ 64 ||| imm)).advance b)
    | _ => none)

end Sys2Proof.Machine
end

