-- ==== Sys2Proof/Machine/Loader.lean ====
section
/-!
DEFINITION. The microcode loaders' commands (R446 to R456): upload, LOAD, ABORT, the end of a verification, persistence, and
errors in the pipelines' stores.
-/
namespace Sys2Proof.Machine

/-- The loader of a command: 0 the pipelines, 1 the benches. -/
def loaderOf (pipe : Bool) : Nat := if pipe then 0 else 1

/-- The index of the loader object. -/
def loaderIndex (pipe : Bool) : Nat := if pipe then 0x2E00 else 0x8E00

/-- The effect of a BLOCK_WRITE to PACKAGE of loader `l` (R446). -/
def packageEffect (l off : Nat) (data : Bytes) (s : State) : Res :=
  if 2 ≤ s.loaderState l then Res.fail s Code.resourceOwned
  else if off ≠ s.reg (loaderKey l LoaderSub.received) then Res.fail s Code.range
  else
    Res.done (((s.setBytes (packageAddr l + off) data).setReg (loaderKey l LoaderSub.received) (off + data.length)).setLoaderState l 1)

/-- PACKAGE (R446). -/
def execPackage (w : SessionNo) (pipe : Bool) (offset : Nat) (data : Bytes) (s : State) : Next :=
  (s.hostBlockWrite w (loaderIndex pipe) 0x01 offset data (packageEffect (loaderOf pipe) offset data)).next

/-- The effect of a write to COMMAND of loader `l` (R446, R447, R450). -/
def loaderCommandEffect (l v : Nat) (s : State) : Res :=
  let st := s.loaderState l
  if v = 1 then
    if 2 ≤ st then Res.fail s Code.resourceOwned
    else
      let key := fun (s : State) k => if s.reg (Reg.KEY_SLOT.STATE k) = 1 then s.reg (Reg.KEY_SLOT.PUBLIC k) + 1 else 0
      let n := s.tab Tab.loader 64
      let s := (s.setLoaderState l 2).setTab Tab.loader 64 (n + 1)
      let s := (s.setLoaderTab l 0 (s.reg Reg.LIFECYCLE.STATE + 1)).setLoaderTab l 4 n
      Res.done ((s.setLoaderTab l 2 (key s 2)).setLoaderTab l 3 (key s 3))
  else if v = 2 then
    if st = 2 ∨ st = 3 then Res.fail s Code.busyRetry
    else if st = 5 then Res.fail s Code.resourceOwned
    else Res.done (s.discardPackage l)
  else Res.fail s Code.range

/-- LOAD (R447). -/
def execLoad (w : SessionNo) (pipe : Bool) (s : State) : Next :=
  (s.hostWrite w (loaderIndex pipe) 0x02 1 (loaderCommandEffect (loaderOf pipe) 1)).next

/-- LOAD_ABORT (R450). -/
def execLoadAbort (w : SessionNo) (pipe : Bool) (s : State) : Next :=
  (s.hostWrite w (loaderIndex pipe) 0x02 2 (loaderCommandEffect (loaderOf pipe) 2)).next

/-- What the LOAD in hand of loader `l` is judged by (R133, R448). -/
def State.loadTerms (s : State) (l : Nat) : LoadTerms :=
  ⟨s.loaderTab l 0 - 1, ([2, 3].filter (fun k => s.loaderTab l k != 0)).map (fun k => (k, s.loaderTab l k - 1))⟩

/-- The verification of loader `l` is the next to end: verifications run one at a time in the order of their LOADs (R451). -/
def State.verifiesNext (s : State) (l : Nat) : Bool :=
  s.loaderState l == 2 && (s.loaderState (1 - l) != 2 || decide (s.loaderTab l 4 < s.loaderTab (1 - l) 4))

/-- The benches of the targeted bays are held while `f` writes their stores (R449). -/
def State.holding (s : State) (b : Bytes) (f : State → State) : State :=
  let benches := (Pack.bays b).flatMap (fun y => (List.range 8).map (8 * y + ·))
  (f (s.forAll benches (fun s n => s.setMisc n 3 1))).forAll benches (fun s n => s.setMisc n 3 0)

/-- LOAD_VERIFIED (R447 to R452): the checks, in order; then the package writes, or waits PENDING, or is discarded. -/
def execLoadVerified (pipe : Bool) (s : State) : Next :=
  let l := loaderOf pipe
  if s.verifiesNext l = false ∨ s.coreOn = false then .next s
  else
    let b := s.packageOf l
    match s.checkPackage b l (s.loadTerms l) with
    | .refused code detail => State.done (s.failPackage l code detail)
    | .passed slot =>
      let s := s.setLoaderTab l 6 slot
      if l = 1 then State.done ((s.setLoaderState 1 3).holding b (·.applyPackage 1))
      else if s.reg Reg.PIPE_UCODE.LOAD_MODE = 1 then
        State.done ((s.setLoaderState 0 4).setLoaderTab 0 5 (s.tab Tab.bankRequests 0))
      else State.done (((s.setLoaderState 0 3).requestedSwitches.switchBank 0 0 []).applyPackage 0)

/-- PERSIST_DONE (R452). -/
def execPersistDone (pipe : Bool) (s : State) : Next :=
  if s.loaderState (loaderOf pipe) ≠ 5 then .next s else State.done (s.persistPackage (loaderOf pipe))

/-! ### Errors in the pipelines' stores (R454, R456) -/

/-- STORE_SCRUB (R454): a pass of the scrubber, each correction counted. -/
def execStoreScrub (pipes : Nat) (bays : List (Fin 16)) (s : State) : Next :=
  if s.coreOn = false then .next s
  else State.done ((s.count (Ctr.pipeLoader 0) pipes).forAll bays (fun s y => (s.count (Ctr.benchLoader 0)).count (Ctr.bay y 0)))

/-- PIPE_WORD_REPAIR (R456, R559): pipeline `pipe` has met an uncorrectable word. With a clean copy elsewhere the word is rewritten
and the fault is a note; with none the word is UNLOADED in every pipeline, and MICROCODE makes the mode DEGRADED. -/
def execPipeWordRepair (pipe : Fin 128) (nano : Bool) (addr : Fin 16384) (clean : Bool) (s : State) : Next :=
  if s.coreOn = false ∨ (nano = true ∧ 4096 ≤ addr.val) then .next s
  else
    let s := (s.count (Ctr.pipeLoader 1)).loaderEvent 0 2
    let data := faultData 4 (pipe.val * 2 ^ 24 + (if nano then 2 else 1) * 2 ^ 16 + addr.val)
    if clean then
      State.done ((s.setTab Tab.ucodeLost (lostPipeWord pipe nano addr) 0).refreshMicrocode.logFault 0x0B 0 0 0x1B00 0xFF data)
    else
      let s := s.forAll (List.range 128) (fun s p => s.setTab Tab.ucodeLost (lostPipeWord p nano addr) 1)
      State.done (s.refreshMicrocode.logFault 0x0C 1 1 0x1B00 0xFF data)

end Sys2Proof.Machine
end

