-- ==== Sys2Proof/Machine/Power.lean ====
section
/-!
DEFINITION. Clocks, regulators, droop and heat (R522, R523, R527 to R529, R536 to R540, R545): what the island's monitors do.
The fatal ones (R522, R541, R543) are in Startup.
-/
namespace Sys2Proof.Machine

/-! ### Monitors (R39, R522, R538, R545) -/

/-- Bit `i` of RATINGS set or cleared: the RATINGS suspension cause (R39) and source 0x1D11 follow. -/
def State.setRating (s : State) (i : Nat) (b : Bool) : State :=
  let s := (s.setReg Reg.POWER_STATE.RATINGS (setBit (s.reg Reg.POWER_STATE.RATINGS) i b)).refreshResvs
  s.setInput 0x1D11 (s.reg Reg.POWER_STATE.RATINGS != 0)

/-- SUPPLY_OUT_OF_RANGE (R545). -/
def execSupplyOutOfRange (supply : Fin 6) (s : State) : Next := State.done (s.setRating supply true)

/-- SUPPLY_BACK_IN_RANGE (R545). -/
def execSupplyBackInRange (supply : Fin 6) (s : State) : Next := State.done (s.setRating supply false)

/-- Cause CLOCK (R563) follows. -/
def State.refreshClock (s : State) : State :=
  s.setCause 6 (s.reg Reg.CLOCKS.ROOT_STATE == 3 || s.reg Reg.CLOCKS.ISLAND_SOURCE == 1)

/-- The check of the root reference over 1 ms (R522): beyond 200 ppm or lost, or settled within it. A root PLL in HOLD locks
again when its reference is back. -/
def State.refCheck (s : State) (ppm : Nat) (lost settled : Bool) : State :=
  let s := (s.setReg Reg.CLOCKS.REF_PPM (ppm % 2 ^ 32)).setTab Tab.power 9 (ofBool lost)
  let s := if !lost && s.reg Reg.CLOCKS.ROOT_STATE == 3 then (s.setReg Reg.CLOCKS.ROOT_STATE 2).refreshClock else s
  if lost || 20000 < (toInt 32 ppm).natAbs then (s.event Reg.CLOCKS.EVENTS 0 0x1D00).setRating 6 true
  else if settled then s.setRating 6 false
  else s

/-- ROOT_HOLD (R522): the reference of a locked root PLL is lost. -/
def execRootHold (s : State) : Next :=
  if s.reg Reg.CLOCKS.ROOT_STATE = 2 then
    let s := (s.setReg Reg.CLOCKS.ROOT_STATE 3).setTab Tab.power 9 1
    State.done (s.event Reg.CLOCKS.EVENTS 1 0x1D00).refreshClock
  else .next s

/-- CRYSTAL_LOST (R523). -/
def execCrystalLost (s : State) : Next :=
  if s.reg Reg.CLOCKS.ISLAND_SOURCE = 0 then
    State.done ((s.setReg Reg.CLOCKS.ISLAND_SOURCE 1).event Reg.CLOCKS.EVENTS 2 0x1D00).refreshClock
  else .next s

/-! ### Regulators (R527 to R529) -/

/-- The PMBus is active: the rails are up or being stepped (R565). -/
def State.pmbusActive (s : State) : Bool := 2 ≤ s.reg Reg.POWER_STATE.STATE || s.tab Tab.power 10 != 0

/-- Rail `r` is driven and read. -/
def State.railLive (s : State) (r : Nat) : Bool := s.pmbusActive && s.reg (Reg.PMBUS_RAIL.ENABLE r) == 1

/-- PMB_ALERT (R527): STATUS_WORD is read. -/
def execPmbAlert (rail : Fin 8) (ok : Bool) (status : Nat) (s : State) : Next :=
  if !s.railLive rail then .next s
  else if !ok then State.done (s.commFailed rail)
  else
    let s := (s.setReg (Reg.PMBUS_RAIL.STATUS_WORD rail) (status % 2 ^ 16)).commOk rail
    State.done (s.when (statusFaults status) (·.event (Reg.PMBUS_RAIL.EVENTS rail) 1 (0x1D08 + rail)))

/-- One rail's sample (R529): its readings, their product, and its part of the interval's energy in 0.1 nJ. -/
def State.sampleRail (s : State) (x : RailRead) : State :=
  let r := x.rail.val
  if !s.railLive r then s
  else if !x.ok then s.commFailed r
  else
    let v := x.voutMv % 2 ^ 16
    let i := x.ioutMa % 2 ^ 32
    let s := (s.setReg (Reg.PMBUS_RAIL.VOUT_MV r) v).setReg (Reg.PMBUS_RAIL.IOUT_MA r) i
    let s := (s.setReg (Reg.PMBUS_RAIL.POWER_MW r) (v * i / 1000 % 2 ^ 32)).setReg (Reg.PMBUS_RAIL.TEMP_C r) (x.tempC % 2 ^ 32)
    (s.setTab Tab.power 8 (s.tab Tab.power 8 + v * i)).commOk r

/-- RAIL_SAMPLE (R529). -/
def execRailSample (reads : List RailRead) (s : State) : Next := State.done (s.forAll reads State.sampleRail)

/-! ### Droop (R536, R537) -/

/-- The lowest detector reading (R545). -/
def State.setDie (s : State) (mv : Nat) : State := s.setReg Reg.VOLTAGE.DIE_MV (mv % 2 ^ 16)

/-- CLOCK_STRETCH (R536): a detector reads below TARGET_MV - DROOP_MV. -/
def execClockStretch (mv : Nat) (s : State) : Next :=
  if !s.coreOn then .next s
  else
    let s := s.setDie mv
    if mv + s.reg Reg.VOLTAGE.DROOP_MV < s.targetMv ∧ s.tab Tab.power 3 = 0 then
      State.done ((s.setTab Tab.power 3 1).bump Reg.VOLTAGE.STRETCH_EVENTS 64)
    else .next s

/-- STRETCH_END (R536): every detector has read at least 10 mV above that for 16 cc. -/
def execStretchEnd (mv edges : Nat) (s : State) : Next :=
  if !s.coreOn then .next s
  else
    let s := s.setDie mv
    if s.targetMv + 10 ≤ mv + s.reg Reg.VOLTAGE.DROOP_MV ∧ s.tab Tab.power 3 = 1 then
      State.done ((s.setTab Tab.power 3 0).bump Reg.VOLTAGE.STRETCHED_BC 64 edges)
    else .next s

/-- UNDERVOLT (R537): the die voltage has stayed below VMIN outside RAISE_WINDOW. -/
def execUndervolt (mv : Nat) (s : State) : Next :=
  if !s.coreOn then .next s
  else
    let s := s.setDie mv
    if mv < s.vmin ∧ s.lockState ≠ 4 then State.done (s.event Reg.VOLTAGE.EVENTS 0 0x1D01) else .next s

/-! ### Heat (R525, R538 to R540) -/

/-- The mode in force is GROUP (R539). -/
def State.throttleGroup (s : State) : Bool := s.reg Reg.LOCKSTEP.GROUP_ID != 0 || s.reg Reg.LOCKSTEP.THROTTLE_MODE == 1

/-- HOTTEST in 0.01 degrees. -/
def State.hottest (s : State) : Int := toInt 32 (s.reg Reg.THERMAL.HOTTEST)

/-- The temperatures at which a band is entered rising and left falling (R525). -/
def bandRise (b : Nat) : Int := if b = 1 then 2500 else if b = 2 then 6500 else 9500
def bandFall (b : Nat) : Int := if b = 1 then 2200 else if b = 2 then 6200 else 9200

/-- The band after band `b` at temperature `t`: the highest whose rise is reached, else the lowest not left. -/
def nextBand (b : Nat) (t : Int) : Nat :=
  let up := ([1, 2, 3].filter (fun k => bandRise k ≤ t)).foldl max 0
  let down := ([1, 2, 3].filter (fun k => k ≤ b && decide (bandFall k < t))).foldl max 0
  max up down

/-- A self-run to divider `d` begins (R539). -/
def State.selfPrepare (s : State) (d : Nat) : State := (s.setTab Tab.power 1 1).lockPrepare 0 d

/-- The self-run may start. -/
def State.mayThrottle (s : State) : Bool := s.coreOn && !s.throttleGroup && s.lockState == 0

/-- One divider slower, at 105 degrees or above. -/
def State.throttleDown (s : State) : State :=
  if s.mayThrottle && decide (s.divider < 8) then s.selfPrepare (indexDivider (dividerIndex s.divider + 1)) else s

/-- One divider faster, up to BASE_DIVIDER, after a release. -/
def State.throttleUp (s : State) : State :=
  if s.mayThrottle && s.tab Tab.power 7 == 1 && decide (s.reg Reg.CLOCKS.BASE_DIVIDER < s.divider) then
    s.selfPrepare (indexDivider (dividerIndex s.divider - 1))
  else s

/-- SENSORS, HOTTEST and HOTTEST_SENSOR of a sample; with the core rails off HOTTEST is the island's own sensor (R538), which has no
number: HOTTEST_SENSOR is then a free value. -/
def State.readSensors (s : State) (temps : List Nat) : State :=
  if s.coreOn then
    let l := (List.range 24).map (fun i => temps.getD i 0 % 2 ^ 32)
    let best := (List.range 24).foldl (fun b i => if toInt 32 (l.getD b 0) < toInt 32 (l.getD i 0) then i else b) 0
    let s := s.setReg Reg.THERMAL.SENSORS (ofBE (l.flatMap (toBE 4)))
    (s.setReg Reg.THERMAL.HOTTEST (l.getD best 0)).setReg Reg.THERMAL.HOTTEST_SENSOR best
  else
    let s := (s.setReg Reg.THERMAL.SENSORS 0).setReg Reg.THERMAL.HOTTEST (temps.getD 0 0 % 2 ^ 32)
    (s.setReg Reg.THERMAL.HOTTEST_SENSOR (s.freeBelow 24)).drew

/-- The readings of a sample. -/
def State.readings (s : State) (temps : List Nat) : List Int :=
  (if s.coreOn then (List.range 24).map (fun i => toInt 32 (temps.getD i 0)) else [toInt 32 (temps.getD 0 0)])

/-- EMERGENCY_STALL is entered at 110 degrees and left when every sensor reads below 107 (R540). -/
def State.judgeStall (s : State) : State :=
  if s.tab Tab.power 6 = 0 ∧ 11000 ≤ s.hottest then (s.setTab Tab.power 6 1).event Reg.THERMAL.EVENTS 2 0x1D04
  else if s.tab Tab.power 6 = 1 ∧ s.hottest < 10700 then s.setTab Tab.power 6 0
  else s

/-- THROTTLE_REQUEST when HOTTEST reaches 105 degrees, and the first step of SELF; RELEASE_READY in GROUP (R539). -/
def State.judgeThrottle (s : State) (before : Int) (cool : Bool) : State :=
  let s := s.setTab Tab.power 4 (ofBool cool)
  if 10500 ≤ s.hottest then
    if before < 10500 then ((s.setTab Tab.power 5 1).event Reg.THERMAL.EVENTS 0 0x1D04).throttleDown else s
  else if cool && s.tab Tab.power 5 == 1 then
    (s.setTab Tab.power 5 0).when s.throttleGroup (·.event Reg.THERMAL.EVENTS 1 0x1D04)
  else s

/-- THERMAL_SAMPLE (R538 to R540). -/
def execThermalSample (temps : List Nat) (calm cool : Bool) (lost : Nat) (s : State) : Next :=
  let before := s.hottest
  let s := s.when (s.tab Tab.power 6 == 1) (·.bump Reg.THERMAL.ISSUE_STALL_BC 64 lost)
  let out := (s.readings temps).any (fun t => decide (11000 < t) || decide (t < -4000))
  let s := s.readSensors temps
  let s := s.setReg Reg.VOLTAGE.BAND (nextBand (s.reg Reg.VOLTAGE.BAND) s.hottest)
  let s := if out then (s.event Reg.THERMAL.EVENTS 4 0x1D04).setRating 7 true else s.when calm (·.setRating 7 false)
  let s := s.judgeStall.judgeThrottle before cool
  State.done ((s.setInput 0x1D10 (decide (10500 ≤ s.hottest))).refreshThrottle)

/-- THROTTLE_STEP (R539): a second has passed in SELF mode. -/
def execThrottleStep (s : State) : Next :=
  if 10500 ≤ s.hottest then State.done s.throttleDown.refreshThrottle
  else if s.tab Tab.power 4 = 1 then State.done s.throttleUp.refreshThrottle
  else .next s

end Sys2Proof.Machine
end

