-- ==== Sys2Proof/Machine/Sessions.lean ====
section
/-!
DEFINITION. The ends of ZDP sessions and of parked watches (R71, R72, R87).
-/
namespace Sys2Proof.Machine

/-- Session `n` starts closing: from now on it counts as not open (R71). -/
def State.beginClose (s : State) (n : Nat) : State :=
  if s.reg (Reg.SESSION.STATE n) = 1 then s.setReg (Reg.SESSION.STATE n) 2 else s

/-- The effect of a write to FORCE_CLOSE. -/
def forceCloseEffect (v : Nat) (s : State) : Res := Res.done (s.beginClose v)

/-- FORCE_CLOSE (R71). -/
def execForceClose (w : SessionNo) (n : SessionNo) (s : State) : Next := (s.hostWrite w 0x0102 0x01 n (forceCloseEffect n)).next

/-- SESSION_IDLE_TIMEOUT (R71). -/
def execSessionIdleTimeout (n : SessionNo) (s : State) : Next := State.done (s.beginClose n)

/-- The operations of session `n` have completed and their replies are sent: what is in flight are parked watches and the CLOSE
itself. -/
def State.sessionQuiet (s : State) (n : Nat) : Bool :=
  s.zdp.cache.all (fun e => e.session != n || e.done || s.zdp.watches.any (fun w => w.q.session == n && w.q.tag == e.tag)
    || s.zdp.closes.any (fun q => q.session == n && q.tag == e.tag))

/-- The windows that session `n` has staged are discarded (R112). -/
def State.dropStagingsOf (s : State) (n : Nat) : State :=
  { s with stagings := s.stagings.filter (fun g => g.owner != n || g.state != 1) }

/-- Session `n` is closed: its tags, its replay cache and what it staged are freed. -/
def State.freeSession (s : State) (n : Nat) : State :=
  let s := { s with zdp := { s.zdp with cache := s.zdp.cache.filter (fun e => e.session != n) } }
  let s := s.forAll (List.range 8) (fun s k => s.resetReg (regKey (0x0110 + n) (k + 1)))
  s.dropStagingsOf n

/-- SESSION_CLOSE_COMPLETE (R71): the parked watches are answered with SESSION_ENDING, the tags and the replay cache are freed, and
a CLOSE is answered last. -/
def execSessionCloseComplete (n : SessionNo) (s : State) : Next :=
  if s.reg (Reg.SESSION.STATE n) ≠ 2 ∨ s.sessionQuiet n = false then .next s
  else
    let s := s.forAll (s.zdp.watches.filter (fun w => w.q.session == n.val)) (fun s w => s.answerWatch w 4)
    let s := s.freeSession n
    let mine := s.zdp.closes.filter (fun q => q.session == n.val)
    let s := { s with zdp := { s.zdp with closes := s.zdp.closes.filter (fun q => q.session != n.val) } }
    State.done (s.forAll mine (fun s q => s.reply q 0x0A 0x00 0 0 [] q.session false))

/-- WATCH_TIMEOUT (R87). -/
def execWatchTimeout (n : SessionNo) (tag : Nat) (s : State) : Next :=
  match s.zdp.watches.find? (fun w => w.q.session == n.val && w.q.tag == tag && w.timeoutMs != 0) with
  | none => .next s
  | some w => State.done (s.answerWatch w 2)

end Sys2Proof.Machine
end

