-- ==== Sys2Proof/Machine/Writes.lean ====
section
/-!
DEFINITION. What a write of each register does (R8, R100, R101): the flags of W1C sub-indices, the rules of ports, buffer, lookup
profiles and the rest, and the one function `regEffect` that sends a write to the operation of its chapter. The sub-indices of the
configuration store, of start-up, of the presence window, the life cycle and the tally are in the files of those chapters.
-/
namespace Sys2Proof.Machine

/-! ### W1C sub-indices (R8, R101, R102, R484) -/

/-- The interrupt source that flag `i` of the W1C sub-index of the object at `idx` is an input of; none for a reserved bit. -/
def flagSource (idx i : Nat) : Option Nat :=
  let if' := fun (c : Bool) (n : Nat) => if c then some n else none
  if idx = 0x0202 then if' (i < 8) (0x1C80 + i)
  else if idx = 0x0400 then if' (i < 3) 0x1D00
  else if idx = 0x0410 then if' (i < 2) 0x1D01
  else if 0x0420 ≤ idx ∧ idx < 0x0428 then if' (i < 2) (0x1D08 + (idx - 0x0420))
  else if idx = 0x0440 then if' (i < 5) (lockSource i)
  else if idx = 0x0450 then if' (i < 5) 0x1D04
  else if idx = 0x0500 then if' (i < 3) 0x1D80
  else if 0x1000 ≤ idx ∧ idx < 0x1200 then if' (i < 9) (idx - 0x1000)
  else if 0x1200 ≤ idx ∧ idx < 0x1208 then if' (i < 9) (0x0200 + (idx - 0x1200))
  else if 0x1400 ≤ idx ∧ idx < 0x1400 + 514 then if' (i < 7) ((if i < 2 then 0x0400 else 0x0800) + (idx - 0x1400))
  else if idx = 0x2E00 then if' (i < 3) 0x1B00
  else if idx = 0x8E00 then if' (i < 3) 0x1981
  else if idx = 0x4800 then if' (i < 5) (if i = 0 then 0x1C00 else 0x1C01)
  else if 0x5800 ≤ idx ∧ idx < 0x5A00 then if' (i < 3) (0x0C00 + (idx - 0x5800))
  else if 0x5C00 ≤ idx ∧ idx < 0x5C00 + 643 then if' (i < 1) (0x1000 + (idx - 0x5C00))
  else if idx = 0x6000 then if' (i < 5) 0x1300
  else if idx = 0x6E00 then if' (i < 1) 0x1301
  else if idx = 0x7000 then if' (i < 2) 0x1A00
  else if 0x7100 ≤ idx ∧ idx < 0x7140 then if' (i < 2) (0x1A40 + (idx - 0x7100))
  else if 0x8100 ≤ idx ∧ idx < 0x8180 then if' (i < 5) ((if i = 2 ∨ i = 3 then 0x1880 else 0x1800) + (idx - 0x8100))
  else if 0x9200 ≤ idx ∧ idx < 0x9400 then if' (i < 2) (0x1400 + (idx - 0x9200))
  else if idx = 0x9500 then if' (i < 3) 0x1600
  else if idx = 0xA000 then if' (i < 3) (0x1E00 + i)
  else if 0xA200 ≤ idx ∧ idx < 0xA210 then if' (i < 1) (0x1E10 + (idx - 0xA200))
  else none

/-- A W1C write (R8): the flags written as 1 are cleared; a flag that hardware sets in the same clock is set, and counts (R101). -/
def State.clearFlags (s : State) (idx sub v sets : Nat) : State :=
  let k := regKey idx sub
  let s := s.setReg k (clearBits (s.reg k) v)
  s.forAll ((List.range 32).filter (bit sets)) (fun s i => match flagSource idx i with | none => s | some n => s.event k i n)

/-- A write of ATTN_FLAGS (R119): a delivery in the same clock is that delivery's own command. -/
def State.clearAttention (s : State) (v : Nat) : State :=
  { s with attn := { s.attn with flags := clearBits s.attn.flags (v / 2 ^ 24 * 2 ^ 24) } }

/-! ### Ports (R185, R248) -/

/-- A set-aside pool takes a new size (R248): `s'` has it. -/
def State.resized (s s' : State) : Res :=
  let others := 2048 + 4096 + s'.reg Reg.BUFFER_CONFIG.RESV_POOL_CELLS + s'.dalzanReserve
    + ((List.range 16).map (fun n => s'.reg (Reg.PARTITION_BUFFER.RESERVE_CELLS n))).sum
  if 786432 < others + 65536 then Res.fail s Code.range
  else if s.sharedFree < s.sharedCells - s'.sharedCells then Res.fail s Code.busyRetry
  else Res.done s'

/-- A write of RESV_POOL_CELLS (R248, R255). -/
def resvPoolEffect (v : Nat) (s : State) : Res :=
  let s' := s.setReg Reg.BUFFER_CONFIG.RESV_POOL_CELLS v
  let r := s.resized s'
  if r.code ≠ Code.ok then r
  else s.evaluated s' Code.admissionRejected [] false (·.setReg Reg.BUFFER_CONFIG.RESV_POOL_CELLS v)

/-- A register whose write the calculator evaluates first, where `c` holds (R329). -/
def State.judged (s : State) (c : Bool) (k v : Nat) : Res :=
  if c then s.evaluated (s.setReg k v) Code.admissionRejected [] false (·.setReg k v) else s.store k v

/-- The effect of a write to a sub-index of PORT. -/
def portEffect (p sub v : Nat) (s : State) : Res :=
  let k := regKey (0x1400 + p) sub
  let dalzan := s.portKind p == 2
  if sub = 0x06 then (if p = 642 then Res.fail s Code.range else s.store k v)
  else if sub = 0x07 then (if 514 ≤ p then Res.fail s Code.range else Res.done ((s.setReg k v).refreshLink p))
  else if sub = 0x08 then
    if (p = 512 ∨ p = 513) ∧ v < 8320 then Res.fail s Code.range
    else if s.namedByResv p then s.evaluatedFit (s.setReg k v) (·.setReg k v) else s.store k v
  else if sub = 0x09 then (if 514 ≤ p then Res.fail s Code.range else s.store k v)
  else if sub = 0x0C then
    if p = 512 ∨ p = 513 then s.judged (v == 1 && s.carriesResv p) k v else Res.fail s Code.range
  else if sub = 0x0D then (if p = 512 ∨ p = 513 then s.store k v else Res.fail s Code.range)
  else if sub = 0x10 then (if dalzan then s.resized (s.setReg k v) else Res.fail s Code.range)
  else if sub = 0x13 then (if dalzan then s.store k v else Res.fail s Code.range)
  else if sub = 0x14 then linkResetEffect p v s
  else s.store k v

/-- The effect of a write to a sub-index of PORT_BUFFER (R254, R264, R329). -/
def portBufferEffect (p sub v : Nat) (s : State) : Res :=
  let k := regKey (0x4200 + p) sub
  if sub = 0x01 then s.judged (s.namedByResv p) k v
  else if sub = 0x02 then s.judged (s.carriesResv p) k v
  else if sub = 0x03 then
    let s := s.setReg k v
    Res.done (s.when (v == 0 && !s.portUp p) (·.downCopies p true))
  else s.store k v

/-- The effect of a write to a sub-index of PORT_PFC (R288, R289, R295). -/
def pfcEffect (p sub v : Nat) (s : State) : Res :=
  let k := regKey (0x5800 + p) sub
  let xoff := if sub = 0x04 then v else s.reg (Reg.PORT_PFC.XOFF_CELLS p)
  let xon := if sub = 0x05 then v else s.reg (Reg.PORT_PFC.XON_CELLS p)
  if s.portKind p ≠ 1 then Res.fail s Code.range
  else if (sub = 0x04 ∨ sub = 0x05) ∧ xoff ≤ xon then Res.fail s Code.range
  else if sub = 0x01 ∨ sub = 0x03 then s.judged (s.carriesResv p) k v
  else s.store k v

/-! ### Lookup profiles (R219, R226, R232) -/

/-- Selector `i` of an octet string of `n` selectors, and the width it takes. -/
def selectorAt (n v i : Nat) : Nat := entryAt n 4 v i
def selectorWidth (n v i : Nat) : Nat := bits (selectorAt n v i) 5 0

/-- The selectors are well formed and their widths add up to no more than `limit`. -/
def selectorsOk (n v limit : Nat) : Bool :=
  (List.range n).all (fun i => selectorOk (selectorAt n v i))
    && decide (((List.range n).map (selectorWidth n v)).sum ≤ limit)

/-- Selectors 0 and 1 have one width, and selectors 2 and 3. -/
def pairsMatch (v : Nat) : Bool :=
  selectorWidth 16 v 0 == selectorWidth 16 v 1 && selectorWidth 16 v 2 == selectorWidth 16 v 3

/-- The effect of a write to a sub-index of HASH_PROFILE. -/
def hashEffect (h sub v : Nat) (s : State) : Res :=
  let sym := if sub = 0x03 then v else s.reg (Reg.HASH_PROFILE.SYMMETRIC h)
  let sel := if sub = 0x04 then v else s.reg (Reg.HASH_PROFILE.SELECTORS h)
  if (sub = 0x04 ∧ selectorsOk 16 v 512 = false) ∨ ((sub = 0x03 ∨ sub = 0x04) ∧ sym = 1 ∧ pairsMatch sel = false) then
    Res.fail s Code.range
  else s.store (regKey (0x3040 + h) sub) v

/-- The effect of a write to a sub-index of CLS_TREE. -/
def treeEffect (t sub v : Nat) (s : State) : Res :=
  if s.reg (Reg.CLS_TREE.ROOT t) ≠ 0xFFFFFFFF then Res.fail s Code.resourceOwned
  else if sub = 0x02 ∧ selectorsOk 8 v 256 = false then Res.fail s Code.range
  else s.store (regKey (0x3070 + t) sub) v

/-! ### Other registers with rules of their own -/

/-- The effect of a write to a sub-index of TIME_UNIT (R299 to R304); `runtime`: by the servo of the management controller. -/
def timeEffect (runtime : Bool) (sub v : Nat) (s : State) : Res :=
  let servo := fun (eff : State → Res) =>
    if s.reg Reg.TIME_UNIT.SERVO_MODE = (if runtime then 0 else 1) then eff s else Res.fail s Code.resourceOwned
  if sub = 0x04 then servoModeEffect v s
  else if sub = 0x08 then servo (measuredOffsetEffect v)
  else if sub = 0x09 then servo (·.store Reg.TIME_UNIT.FREQ_ADJ v)
  else if sub = 0x0A then servo (offsetAdjEffect v)
  else if sub = 0x0B then servo (setTimeEffect v)
  else if sub = 0x0D then s.judged true Reg.TIME_UNIT.SLEW_MAX_PPB v
  else s.store (regKey 0x6000 sub) v

/-- The effect of a write to a sub-index of a lane, fabric or host (R150 to R162). -/
def laneEffect (n sub v : Nat) (s : State) : Res :=
  if sub = 0x04 then txEnableEffect n v s
  else if 0x09 ≤ sub ∧ sub ≤ 0x0D then tapEffect n (sub - 0x09) v s
  else if sub = 0x19 then retrainEffect n v s
  else if sub = 0x1C then loopbackEffect n v s
  else if sub = 0x1D then prbsTxEffect n v s
  else if sub = 0x1E then prbsRxEffect n v s
  else if sub = 0x22 then prbsClearEffect n v s
  else if sub = 0x23 then eyeStartEffect n v s
  else Res.done (s.setLane n sub v)

/-- The effect of a write to a sub-index of MIRROR_RANGE: BASE + COUNT stays within the slots (R342). -/
def mirrorEffect (m sub v : Nat) (s : State) : Res :=
  let base := if sub = 0x02 then v else s.reg (Reg.MIRROR_RANGE.BASE m)
  let count := if sub = 0x03 then v else s.reg (Reg.MIRROR_RANGE.COUNT m)
  if (sub = 0x02 ∨ sub = 0x03) ∧ 131072 < base + count then Res.fail s Code.range
  else s.store (regKey (0x6E10 + m) sub) v

/-- The effect of a write to a sub-index of POOL_BANK (R463 to R465, R473, R480). -/
def bankEffect (k sub v : Nat) (s : State) : Res :=
  if 510 ≤ k then Res.fail s Code.range
  else if sub = 0x03 then handoverEffect k v s
  else if sub = 0x04 then bankPartEffect k v s
  else if sub = 0x07 then serviceEffect k v s
  else s.store (regKey (0x9200 + k) sub) v

/-- The effect of a write to a sub-index of a loader (R446, R447, R450, R457). -/
def loaderEffect (l sub v : Nat) (s : State) : Res :=
  if sub = 0x02 then loaderCommandEffect l v s
  else if sub = 0x03 ∧ l = 1 ∧ v ≠ 0 then Res.fail s Code.range
  else s.store (loaderKey l sub) v

/-- The effect of a write to a sub-index of DOVETAIL (R339, R340). -/
def dovetailEffect (sub v : Nat) (s : State) : Res :=
  if sub = 0x01 then roleEffect v s
  else if sub = 0x02 then dovetailPortsEffect v s
  else if sub = 0x04 then heartbeatEffect v s
  else if sub = 0x08 then revertEffect v s
  else s.store (regKey 0x6E00 sub) v

/-- The effect of a write to a sub-index of LOCKSTEP (R531, R532, R539). -/
def lockstepEffect (sub v : Nat) (s : State) : Res :=
  if sub = 0x02 then prepareEffect v s
  else if sub = 0x03 then commitEffect v s
  else if sub = 0x04 then lockAbortEffect v s
  else if sub = 0x0C then groupIdEffect v s
  else s.store (regKey 0x0440 sub) v

/-- The effect of a write to a sub-index of CYCLE_GROUP (R372, R373). -/
def cycleEffect (g sub v : Nat) (s : State) : Res :=
  if sub = 0x01 then enableGroupEffect g v s
  else if 0x02 ≤ sub ∧ sub ≤ 0x04 then groupTimingEffect g sub v s
  else if sub = 0x05 then applyTimingEffect g v s
  else s.store (regKey (0x7100 + g) sub) v

/-- The effect of a write to a sub-index of GATE_PORT (R304, R312). -/
def gatePortEffect (p sub v : Nat) (s : State) : Res :=
  if sub = 0x07 then cancelPendingEffect p v s
  else if sub = 0x08 then removeListEffect p v s
  else if sub = 0x0B then safeGatesEffect p v s
  else s.store (regKey (0x5C00 + p) sub) v

/-- ROOT_SWITCH with a reserved bit set is refused (R100, R240). -/
def rootSwitchOk (v : Nat) : Bool := bits v 29 28 == 0 && bits v 23 17 == 0

/-- The effect of a write to a sub-index of a window, and of STAGE as a BLOCK_WRITE (R110 to R113, R380, R512). -/
def windowEffect (session idx sub v : Nat) (s : State) : Res :=
  if 1 ≤ sub ∧ sub ≤ 3 then rangeEffect session idx sub v s
  else if sub = 0x0A then abortEffect session idx v s
  else if idx = 0x7010 then signalSnapshotEffect session v s
  else if idx = 0xA300 ∨ idx = 0xA310 then (if sub = 0x20 then histSnapshotEffect session idx v s else clearHistEffect idx v s)
  else if idx = 0x3020 ∧ rootSwitchOk v = false then Res.fail s Code.range
  else stageOwnEffect session idx sub v s

/-- The sub-index is of class W1C. -/
def Obj.isW1C (o : Obj) (sub : Nat) : Bool := match o.row sub with | some r => r.acc == .w1c | none => false

/-- The effect of a write of `v` to (`idx`, `sub`), once it has passed the checks of R79. `runtime`: by the management controller.
`sets`: flags that hardware sets in the same clock. -/
def regEffect (runtime : Bool) (session idx sub v sets : Nat) (s : State) : Res :=
  match Dict.lookup idx with
  | none => Res.done s
  | some o =>
    if idx = 0x0011 then Res.done (s.clearAttention v)
    else if o.isW1C sub then
      if 0x5800 ≤ idx ∧ idx < 0x5A00 ∧ s.portKind (idx - 0x5800) ≠ 1 then Res.fail s Code.range
      else if 0x9200 + 510 ≤ idx ∧ idx < 0x9400 then Res.fail s Code.range
      else Res.done (s.clearFlags idx sub v sets)
    else if o.win.isSome then windowEffect session idx sub v s
    else
      let n := idx - o.idx
      let k := regKey idx sub
      match o.idx with
      | 0x0102 => forceCloseEffect v s
      | 0x0420 => if sub = 0x01 ∨ sub = 0x04 then Res.done (s.setReg k v).refreshVoltage else s.store k v
      | 0x0440 => lockstepEffect sub v s
      | 0x0500 => if sub = 0x0C then Res.done (s.setReg k v).refreshMode else s.store k v
      | 0x0800 => testRaiseEffect v s
      | 0x1000 => laneEffect n sub v s
      | 0x1200 => laneEffect (512 + n) sub v s
      | 0x1400 => portEffect n sub v s
      | 0x1800 => if sub = 0x0B then octetApplyEffect n v s else s.store k v
      | 0x2000 => applyStagesEffect v s
      | 0x2100 => if sub = 0x01 then s.judged (s.namedByResv n) k v else s.store k v
      | 0x2410 => stageObjectEffect idx sub v s
      | 0x2420 => stageObjectEffect idx sub v s
      | 0x2E00 => loaderEffect 0 sub v s
      | 0x8E00 => loaderEffect 1 sub v s
      | 0x3040 => hashEffect n sub v s
      | 0x3060 => if selectorsOk 8 v 128 then s.store k v else Res.fail s Code.range
      | 0x3070 => treeEffect n sub v s
      | 0x4000 => if sub = 0x04 then resvPoolEffect v s else s.judged true k v
      | 0x4020 => if sub = 0x01 then s.resized (s.setReg k v) else s.store k v
      | 0x4200 => portBufferEffect n sub v s
      | 0x5000 => schedEffect n sub v s
      | 0x5300 => hwmEffect n v s
      | 0x5602 => unblockEffect v s
      | 0x5800 => pfcEffect n sub v s
      | 0x5C00 => gatePortEffect n sub v s
      | 0x6000 => timeEffect runtime sub v s
      | 0x6801 => boundQueryEffect v s
      | 0x6E00 => dovetailEffect sub v s
      | 0x6E10 => mirrorEffect n sub v s
      | 0x7000 => clearLostEffect v (bit sets 0) s
      | 0x7100 => cycleEffect n sub v s
      | 0x8000 => if sub = 0x01 then submitEffect v s else cancelEffect v s
      | 0x8010 => if sub = 0x01 then participantsEffect n v s else s.store k v
      | 0x8100 => if sub = 0x02 then benchCommandEffect n v s else s.store k v
      | 0x9200 => bankEffect n sub v s
      | 0x9400 => if sub = 0x03 && (List.range 16).any (fun c => 4 ≤ octetsAt 16 v c 1) then Res.fail s Code.range else s.store k v
      | 0x9500 => if sub = 0x01 then jigEffect v s else s.store k v
      | 0xA200 => if sub = 0x05 then snapEffect n v s else s.store k v
      | 0xA500 => if sub = 0x01 then streamEnableEffect n v s else s.store k v
      | 0xA580 => streamMapEffect v s
      | 0xA600 => watchEffect n sub v s
      | _ => s.store k v

/-! ### BLOCK_WRITE (R64) -/

/-- A present value of `n` octets with `data` in place from octet `off` on. -/
def mergeOctets (n v off : Nat) (data : Bytes) : Nat := setOctets n v off data.length (ofBE data)

/-- The effect of a BLOCK_WRITE of `data` at octet `off` of (`idx`, `sub`), of row `r`, where `whole` is the effect of a write of the
whole value. The octets that it does not write keep their values; those of a trigger, which holds none, are free. -/
def mergeEffect (r : Sub) (k off : Nat) (data : Bytes) (whole : Nat → State → Res) (s : State) : Res :=
  let n := r.ty.size
  let trigger := r.acc == .wo || r.acc == .wp
  if data.isEmpty then Res.done s
  else if trigger ∧ data.length < n then
    let v := mergeOctets n (s.freeBelow (2 ^ (8 * n))) off data
    if valueRefuses r v then Res.fail s Code.range else whole v s.drew
  else
    let v := mergeOctets n (s.reg k) off data
    if valueRefuses r v then Res.fail s Code.range else whole v s

/-- The effect of a BLOCK_WRITE to a sub-index of row `r`, once it has passed the checks of R79, where `whole` is the effect of a write
of the whole value. -/
def blockEffect (session idx sub off : Nat) (data : Bytes) (r : Sub) (whole : Nat → State → Res) (s : State) : Res :=
  let stage := match Dict.lookup idx with | some o => o.win.isSome && sub == 0x09 | none => false
  if stage then stageEffect session idx off data s
  else if idx = 0x2E00 ∧ sub = 0x01 then packageEffect 0 off data s
  else if idx = 0x8E00 ∧ sub = 0x01 then packageEffect 1 off data s
  else if idx = 0xA000 ∧ sub = 0x02 then chainMapEffect off data s
  else mergeEffect r (regKey idx sub) off data whole s

end Sys2Proof.Machine
end

