-- ==== Sys2Proof/Machine/Resets.lean ====
section
/-!
DEFINITION. What the resets of the core do to its state (R39, R50, R461, R497, R552 to R557): the warm reset, the reset that clears
configuration, the stop of the core, and what a cold reset and a wake leave. When each happens is Startup's.
-/
namespace Sys2Proof.Machine

/-! ### Parts of a warm reset (R554) -/

/-- The reset is counted and shown (R552, R568). -/
def State.resetTaken (s : State) (code cause : Nat) : State :=
  ((s.setReg Reg.STARTUP.LAST_RESET code).setReg Reg.STARTUP.LAST_RESET_CAUSE cause).bump Reg.STARTUP.RESETS 32

/-- A SAVE that runs is abandoned: its slot is never marked valid. -/
def State.abandonSave (s : State) : State :=
  s.when s.saving (fun s => ((s.setReg Reg.CONFIG_STORE.STATE 0).setReg Reg.CONFIG_STORE.LAST_RESULT Code.busyRetry).setReg
    Reg.CONFIG_STORE.LAST_DETAIL 0)

/-- The core slice at a reset (R497): what is pending at target 129 is delivered, and every core source is INACTIVE. A LEVEL source whose
input is still high is triggered anew. -/
def State.flushCore (s : State) : State :=
  let core := fun n => !IntCat.islandSlice n
  let s := s.forAll (s.claimable 129 core) State.deliver
  let l := ((s.tabList Tab.intState).map (·.1)).filter core
  let s := s.forAll l (fun s n => (s.setSrcState n 0).setClaimedBy n 0xFF)
  let s := s.forAll ((List.range 8).filter (fun c => (s.claimable 129 (fun n => s.srcClass n == c)).isEmpty)) (fun s c =>
    s.setReg Reg.ATTN_MODERATION.TIMERS_RUNNING (setBit (s.reg Reg.ATTN_MODERATION.TIMERS_RUNNING) c false))
  s.forAll (l.filter (fun n => s.srcSense n == 0 && bit (s.intElem n) 29)) State.trigger

/-- Every resident frame and copy ends under RESET (R50), and what internal sources have built is gone. -/
def State.endResident (s : State) : State :=
  let s := s.endFrames (fun _ => true) Drop.reset true
  { s with built := [], handoffs := [] }

/-- Queues restart: no queue is in PFC recovery, and the samplers and the count of bank switches begin anew. -/
def State.restartQueues (s : State) : State :=
  let ports := ((SMap.between (regKey 0x5800 0) (regKey 0x5A00 0) s.regs).filter
    (fun e => e.1 == Reg.PORT_PFC.IN_RECOVERY (e.1 / 256 - 0x5800))).map (fun e => e.1)
  let s := s.forAll ports State.resetReg
  let s := s.forAll (s.tabList Tab.queueFault) (fun s e => s.setTab Tab.queueFault e.1 (setBit e.2 0 false))
  (s.clearTab Tab.sampler).resetReg Reg.PIPELINE_CONFIG.BANK_SWITCHES

/-- A reset of the core resets bench `b` and leaves it IDLE, but for a fenced one; a RESET_CLEAR in progress ends. -/
def State.restartBench (s : State) (b : Nat) : State :=
  if s.benchState b = 4 then s
  else
    let s := s.when (s.benchState b == 5 && s.misc b 2 == 1) (·.zeroBytes (scratchAddr b 0) (scratchAddr b scratchSize))
    s.unfenceBench b

/-- LOOPBACK, PRBS_TX and PRBS_RX read 0 after every reset of the core (R159). -/
def State.endTests (s : State) : State :=
  s.forAll ((List.range 520).filter s.testing) (fun s n => (((s.setLane n 0x1C 0).setLane n 0x1D 0).setLane n 0x1E 0).followTest n)

/-- What a warm reset and a reset that clears configuration do alike (R553, R554), with MODE left at WARM_RESET. -/
def State.restartCore (s : State) (code cause : Nat) : State :=
  let s := ((s.resetTaken code cause).setMode 4).abandonSave
  let s := ((s.setTab Tab.sticky 1 1).refreshResvs).flushCore
  let s := (s.forAll (List.range 128) State.haltBench).endResident
  let s := s.enterSettling.restartQueues.stopGroups
  let s := (s.forAll (List.range 128) State.restartBench).endTests
  s.setTab Tab.fatal 1 0

/-- A warm reset (R554): MODE is WARM_RESET until the next tick of the island clock (log entry 52). -/
def State.warmReset (s : State) (code cause : Nat) : State := s.restartCore code cause

/-! ### Defaults (R103, R364, R461, R553) -/

/-- The row of a register key. -/
def rowOf (k : Nat) : Option Sub := match Dict.lookup (k / 256) with | none => none | some o => o.row (k % 256)

/-- The register is configuration: of class RW or RWP. -/
def isConfigKey (k : Nat) : Bool := match rowOf k with | none => false | some r => r.acc == .rw || r.acc == .rwp

/-- The register is part of the saved configuration (R103). -/
def isSavedKey (k : Nat) : Bool := match rowOf k with | none => false | some r => r.saved

/-- The register takes its default at a reset that clears configuration: every RW and RWP sub-index but those of the sealed bank, which
only a wipe clears (R471). -/
def clearedByConfig (k : Nat) : Bool := isConfigKey k && k / 256 != 0x9400

/-- The windows whose contents are saved (R103). -/
def persistWindows : List Nat := (Dict.objects.filter (fun o => windowPersists o.idx)).map (·.idx)

/-- The tables that hold configuration beside registers: windows, the chained pairs, the standard graph, pending stage objects, and what
the octets, the mirror ranges and the cycle groups have in effect. -/
def configTabs : List Nat :=
  persistWindows.map Tab.win ++ [Tab.intConf, Tab.chained, Tab.nodeWritten, Tab.stagePending, Tab.bankRequests, Tab.mirrorRange, Tab.mirrorDirty,
    Tab.cycBase, Tab.cycPeriod, Tab.cycTrigger, Tab.cycNext, Tab.cycStart, Tab.cycSwitch, Tab.cycPending, Tab.cycWritten,
    Tab.cycTriggered, Tab.listRan, Tab.retire, Tab.cbHistory, Tab.polC, Tab.polE, Tab.polBlocked]

/-- Every reservation is WITHDRAWN and, no frame being left, FREE (R43). -/
def State.withdrawAll (s : State) : State :=
  ((s.forAll s.resvList (fun s n => s.withdraw n none false)).refreshResvTotals).drained

/-- Banks 0 to 509 are FREE and zeroed, but for those that the start-up run found FAULTY; a run of the jig is over. -/
def State.freeBanks (s : State) : State :=
  let s := s.when (s.reg Reg.JIG.STATE == 1) (·.jigEnd 3)
  let s := s.zeroBytes (poolAddr 0) (poolAddr (510 * bankSize))
  s.forAll ((List.range 510).filter (fun k => s.bankState k != 0 && s.tab Tab.startupBad k == 0)) (fun s k => s.setBank k 0 ownerNone)

/-- The signal image at its reset values (R364). -/
def State.resetImage (s : State) : State := ((s.clearTab (Tab.win 0x7010)).clearTab Tab.slotWritten).clearTab Tab.mirrorDirty

/-- The octets that have a layout in effect. -/
def State.octetsInUse (s : State) : List Nat := (List.range 64).filter (fun o => (List.range 10).any (fun i => s.octetInEffect o (i + 1) != 0))

/-- The reset that clears configuration (R553): what a warm reset does, and every configuration register, table and window at its
default; MODE is WARM_RESET until the next tick of the island clock (log entry 52). -/
def State.configReset (s : State) : State :=
  let s := s.restartCore 4 5
  let s := { s with stagings := [] }
  let s := s.withdrawAll
  let s := s.forAll s.octetsInUse (fun s o => s.reconfigure o (fun _ => 0))
  let s := s.forAll ((List.range 4).filter (fun t => s.reg (Reg.TELEMETRY_STREAM.ENABLE t) == 1)) (fun s t => (streamEnableEffect t 0 s).st)
  let s := (streamMapEffect (Dict.dflt Reg.STREAM_MAP.STREAM_MAP) s).st
  let s := s.when (s.reg Reg.DOVETAIL.ROLE != Dict.dflt Reg.DOVETAIL.ROLE) (fun s => (roleEffect (Dict.dflt Reg.DOVETAIL.ROLE) s).st)
  let s := { s with regs := s.regs.filter (fun e => !clearedByConfig e.1), gates := [], inactive := [] }
  let s := s.forAll configTabs State.clearTab
  let s := (s.resetReg Reg.CONFIG_STORE.AUTO_RESTORE).resetReg Reg.PIPELINE_CONFIG.STAGES_PENDING
  let s := s.forAll (List.range 16) (fun s t => s.resetReg (Reg.CLS_TREE.ROOT t))
  let s := s.forAll (List.range 64) (fun s g => (s.resetReg (Reg.CYCLE_GROUP.TIMING_PENDING g)).resetReg (Reg.CYCLE_GROUP.NEXT_START g))
  let s := s.forAll (List.range 643) (fun s p => s.resetReg (Reg.GATE_PORT.IN_SAFE_STATE p))
  let s := s.forAll (List.range 643) (fun s p => s.resetReg (Reg.GATE_PORT.GATE_STATE p))
  let s := s.freeBanks.resetImage
  let s := s.forAll (List.range 64) State.restartWatch
  let s := s.forAll (List.range 514) (fun s p => s.refreshLink p)
  let s := s.refreshPartner.refreshVoltage.refreshInStep
  s.setCause 5 false

/-- The defaults of a reset that clears configuration while the core does not run (R136): what VDD_SRAM holds in retention, and what the
island holds, take their defaults; there is nothing to halt or to end. -/
def State.configResetOff (s : State) : State :=
  let s := s.resetTaken 4 5
  let s := { s with stagings := [] }
  let s := s.withdrawAll
  let s := s.forAll (List.range 512) (fun s p => s.forAll [1, 2, 3, 4] (fun s i => s.resetReg (regKey (0x1400 + p) i)))
  let s := { s with regs := s.regs.filter (fun e => !clearedByConfig e.1), gates := [], inactive := [] }
  let s := s.forAll (Tab.octetEffect :: configTabs) State.clearTab
  let s := (s.resetReg Reg.CONFIG_STORE.AUTO_RESTORE).resetReg Reg.PIPELINE_CONFIG.STAGES_PENDING
  let s := s.forAll (List.range 16) (fun s t => s.resetReg (Reg.CLS_TREE.ROOT t))
  (s.freeBanks.resetImage).setCause 5 false

/-- The reset that clears configuration, whatever the state of the core. -/
def State.clearConfig (s : State) : State := if s.coreOn then s.configReset else s.configResetOff

/-! ### The core stops (R555) -/

/-- HP0 and HP1 take the form of STANDBY, or that of operation (R163, R164, R176): their lanes pass through OFF. -/
def State.hostForm (s : State) (h : Nat) (standby : Bool) : State :=
  let p := 512 + h
  let lanes := (List.range 4).map (512 + 4 * h + ·)
  let s := s.forAll lanes (fun s n => s.laneTo n 0 false)
  let s := s.forAll lanes (fun s n =>
    let on := !standby || n == 512 + 4 * h
    (s.setLane n 0x02 (if !on then 0 else if standby then 1 else 4)).setLane n 0x03 (if standby then 0 else 2))
  let s := ((s.setReg (Reg.PORT.WIDTH p) (if standby then 1 else 4)).setReg (Reg.PORT.PORT_SPEED p) (if standby then 1 else 6)).setReg
    (Reg.PORT.FEC_MODE p) (if standby then 0 else 2)
  (s.forAll lanes (fun s n => s.laneRestart n false)).refreshLink p

/-- The core stops: benches halt, every frame ends under RESET, ports are DISABLED and lanes OFF, so that every reservation is
SUSPENDED; the core slice of the interrupt controller delivers what is pending (R497). -/
def State.stopCore (s : State) : State :=
  let s := s.setTab Tab.sticky 10 (s.reg Reg.DOVETAIL.ROLE)
  let s := ((s.abandonSave.forAll (List.range 128) State.haltBench).endResident).endTests
  let s := s.forAll ((List.range 514).filter (fun p => s.reg (Reg.PORT.LINK_STATE p) != 0)) (fun s p => s.setLink p 0 false)
  let s := s.forAll ((List.range 520).filter (fun n => s.laneState n != 0)) (fun s n => (s.laneTo n 0 false))
  let s := s.forAll ((List.range 514).filter (fun p => s.reg (Reg.PORT.LINK_STATE p) != 0)) (fun s p => s.setLink p 0 false)
  (s.setTab Tab.fatal 1 0).flushCore

/-! ### What a cold reset and a wake keep (R118, R472, R504, R551, R553, R557) -/

/-- Registers of H0, H4, HP0 and HP1 lie on VAUX too (R26): their standby slices. -/
def onStandbySlice (i : Nat) : Bool := i == 0x1200 || i == 0x1204 || i == 0x1600 || i == 0x1601

/-- Registers that outlive the core because the island holds them: those below 0x0600, the standby slices, PARTNER_STATE, ACTIVE and the
flags of DOVETAIL (R340), the flags of the loaders (R457), the sealed bank, and STARTUP_ENABLE, which the next start-up reads (R478). -/
def islandKey (k : Nat) : Bool :=
  let i := k / 256
  i < 0x0600 || (onStandbySlice i && !(i < 0x1600 && 0x1C ≤ k % 256 && k % 256 ≤ 0x1F)) || i == 0x9400 || k == Reg.JIG.STARTUP_ENABLE || (i == 0x6E00 && (k == Reg.DOVETAIL.PARTNER_STATE || k == Reg.DOVETAIL.ACTIVE
    || k == Reg.DOVETAIL.EVENTS || k == Reg.DOVETAIL.EVT0_EVENTS)) || ((i == 0x2E00 || i == 0x8E00) && LoaderSub.events ≤ k % 256)

/-- Tables that the island holds. -/
def islandTabs : List Nat :=
  [Tab.attnLog, Tab.winTarget, Tab.winBase, Tab.winCount, Tab.faultLog, Tab.faultPersisted, Tab.power, Tab.railCommand, Tab.railFault,
   Tab.ucodeRecord, Tab.fatal, Tab.startupBad, Tab.store, Tab.marks, Tab.presence, Tab.zdpHeld, Tab.attnDue,
   Tab.islandReset, Tab.bypassEnd]

/-- Elements of other tables that the island holds: its slice of the interrupt controller, and what it knows of the partner. -/
def islandElem (k : Nat) : Bool :=
  (k / 2 ^ 40 == Tab.intState && IntCat.islandSlice (k % 2 ^ 40))
    || (k / 2 ^ 40 == Tab.sticky && [5, 6, 7, 8, 10].contains (k % 2 ^ 40))

/-- Memory that the island or the flash holds: the sealed bank and the boot flash. -/
def islandByte (a : Nat) : Bool := a < 65536 || (2 ^ 36 ≤ a && a < 2 ^ 37)

/-- Configuration registers of the core, and what they have in effect, that a wake brings back (R556, R557): every saved sub-index, the
forms of ports and lanes, the forms recorded at admission, the roots of the trees, the loaders, and the banks with RETAIN. -/
def State.wokenKey (s : State) (k : Nat) : Bool :=
  let i := k / 256
  let b := k % 256
  isSavedKey k || (0x1400 ≤ i && i < 0x1683 && b ≤ 4) || (((0x1000 ≤ i && i < 0x1200) || (0x1200 ≤ i && i < 0x1208)) && (b == 2 || b == 3))
    || (0x6900 ≤ i && i < 0x6B83) || (0x3070 ≤ i && i < 0x3080) || i == 0x2E00 || i == 0x8E00 || (0x8E10 ≤ i && i < 0x8E20)
    || (0x9200 ≤ i && i < 0x9400 && s.reg (Reg.POOL_BANK.RETAIN (i - 0x9200)) == 1)

/-- Tables whose contents a wake keeps: configuration windows, reservations, the signal image and the stores. -/
def wokenTabs : List Nat :=
  persistWindows.map Tab.win ++ [Tab.win 0x7010, Tab.slotWritten, Tab.intConf, Tab.chained, Tab.nodeWritten, Tab.mirrorRange, Tab.octetEffect,
    Tab.resvState, Tab.resvCause, Tab.resvDmax, Tab.resvDmin, Tab.resvCells, Tab.resvDesc, Tab.resvD, Tab.resvDminPort, Tab.resvPortNamed,
    Tab.cycBase, Tab.cycPeriod, Tab.cycTrigger, Tab.pipeMicro, Tab.pipeNano, Tab.bayMicro, Tab.bayNano, Tab.vendorLoaded, Tab.ucodeLost,
    Tab.reloadFailed, Tab.dropTotal]

/-- Memory that a wake keeps beside: scratch, and the banks with RETAIN. -/
def State.wokenByte (s : State) (a : Nat) : Bool :=
  (2 ^ 32 ≤ a && a < 2 ^ 36) || (2 ^ 28 ≤ a && a < 2 ^ 28 + poolSize && s.reg (Reg.POOL_BANK.RETAIN ((a - 2 ^ 28) / bankSize)) == 1)

/-- The core's state is lost but for what `keepReg`, `keepTab` and `keepByte` say. PTP time stands at 0. A reply that goes with its frame
frees its tag (R70). -/
def State.loseCore (s : State) (keepReg keepTab keepByte : Nat → Bool) : State :=
  let s := s.forAll (s.frames.filter (fun f => f.reply != 0)) (fun s f => s.freeTag f.reply)
  { s with
    regs := s.regs.filter (fun e => keepReg e.1), tabs := s.tabs.filter (fun e => keepTab e.1), mem := s.mem.filter (fun e => keepByte e.1),
    stagings := [], clock := { s.clock with ptp := 0, slew := 0 }, frames := [], copies := [], drr := [], fences := [], oldResv := [],
    oldBounds := [], gates := [], handoffs := [], built := [], inactive := [], postcards := [], tap := Tap.idle }

/-- The causes of DEGRADED_CAUSES in `mask` end (R563), and the lockstep is IDLE. -/
def State.endCauses (s : State) (mask : Nat) : State :=
  (s.setReg Reg.STARTUP.DEGRADED_CAUSES (clearBits (s.reg Reg.STARTUP.DEGRADED_CAUSES) mask)).lockIdle

/-- A cold reset of the core's state (R553): configuration at its defaults, the island's too, and nothing else left that the island does
not hold. Tests of lanes end (R159). The causes end that follow what is gone, and those sticky until COLD: FAULT_HELD, STARTUP_MEMORY and SEALED. -/
def State.coldClear (s : State) : State :=
  let s := s.endTests.loseCore (fun k => islandKey k && !(isSavedKey k)) (fun k => islandTabs.contains (k / 2 ^ 40) || islandElem k) islandByte
  let s := (s.endCauses 0xA1F).resetReg Reg.SEALED_BANK.STATE
  (s.setTab Tab.fatal 1 0).setTab Tab.marks 16 s.clock.island

/-- What is left where VDD_CORE and VDD_SRAM are off: what the island holds, its configuration with it. -/
def State.coreLost (s : State) : State :=
  (s.loseCore islandKey (fun k => islandTabs.contains (k / 2 ^ 40) || islandElem k) islandByte).endCauses 0x21C

/-- A wake (R553, R557): the register image is written back; what the island holds stays as it is. Gate lists stay active, changes that
were pending are gone; policers are full, groups that run start anew. -/
def State.wakeClear (s : State) : State :=
  let g := (s.gates.map (fun e => (e.1, { e.2 with pending := none }))).filter (fun e => decide (e.2 ≠ GatePort.none))
  let t := s.loseCore (fun k => islandKey k || s.wokenKey k)
    (fun k => islandTabs.contains (k / 2 ^ 40) || islandElem k || wokenTabs.contains (k / 2 ^ 40)) (fun a => islandByte a || s.wokenByte a)
  let t := { t with gates := g }
  let t := t.forAll t.policerList (fun s i =>
    (s.setTab Tab.polC i (polCbs (s.policerElem i) * 10 ^ 6)).setTab Tab.polE i (polEbs (s.policerElem i) * 10 ^ 6))
  let t := (t.endCauses 0x20C).refreshFaulty
  let t := t.forAll (t.resvList.filter (fun n => t.resvSt n == 1)) State.freeResv
  (t.setTab Tab.fatal 1 0).refreshResvTotals.drained

end Sys2Proof.Machine
end

