-- ==== Sys2Proof/Machine/Image.lean ====
section
/-!
DEFINITION. The configuration image (R103, R105, R117, R239, R313, R548): its capture, its checks, and its application by RESTORE
and at step 6 of a start-up (R551).
-/
namespace Sys2Proof.Machine

/-! ### Octets of memory at once -/

/-- The listed cells of octets from address `a` on. -/
def byteCells (a : Nat) : Bytes → SMap (BitVec 8)
  | [] => []
  | b :: bs => if BitVec.ofNat 8 b = 0 then byteCells (a + 1) bs else (a, BitVec.ofNat 8 b) :: byteCells (a + 1) bs

/-- The map with every key from `lo` up to, not including, `hi` replaced by `new`. -/
def SMap.splice {α : Type} (lo hi : Nat) (new m : SMap α) : SMap α :=
  m.filter (fun e => e.1 < lo) ++ new ++ m.filter (fun e => hi ≤ e.1)

/-- Octets written from address `a` on, all at once. -/
def State.putBytes (s : State) (a : Nat) (b : Bytes) : State :=
  { s with mem := SMap.splice a (a + b.length) (byteCells a b) s.mem }

/-- `n` octets from address `a`, of the cells listed there. -/
def fillBytes : Nat → Nat → SMap (BitVec 8) → Bytes
  | 0, _, _ => []
  | n + 1, a, [] => 0 :: fillBytes n (a + 1) []
  | n + 1, a, (k, v) :: t => if k = a then v.toNat :: fillBytes n (a + 1) t else 0 :: fillBytes n (a + 1) ((k, v) :: t)

/-- `n` octets from address `a`. -/
def State.dump (s : State) (a n : Nat) : Bytes := fillBytes n a (SMap.between a (a + n) s.mem)

/-! ### The layout (R105, R548) -/

/-- The byte address of configuration slot `k`: 0 A, 1 B (R547). -/
abbrev configSlot (k : Nat) : Nat := flashAddr (0x04000000 * (k + 1))

/-- Octets of a configuration slot (R105). -/
abbrev configSlotSize : Nat := 67108864

namespace Img
abbrev magic : Nat := 0x464A4346
def version (b : Bytes) : Nat := fieldBE b 4 2
def flags (b : Bytes) : Nat := fieldBE b 6 2
def signed (b : Bytes) : Bool := bit (flags b) 0
def gen (b : Bytes) : Nat := fieldBE b 8 4
def len (b : Bytes) : Nat := fieldBE b 12 4
def digest (b : Bytes) : Nat := fieldBE b 16 48
/-- Bytes 64 to LENGTH - 97. -/
def body (b : Bytes) : Bytes := (b.take (len b - 96)).drop 64
def sigR (b : Bytes) : Nat := fieldBE b (len b - 96) 48
def sigS (b : Bytes) : Nat := fieldBE b (len b - 48) 48

/-- A record of the body, padded to a multiple of 4 octets. -/
def record (idx sub kind : Nat) (data : Bytes) : Bytes :=
  toBE 2 idx ++ toBE 1 sub ++ toBE 1 kind ++ toBE 4 data.length ++ data ++ List.replicate ((4 - data.length % 4) % 4) 0

/-- The image of a body: unsigned, as the device saves it. -/
def make (dictVersion gen : Nat) (body : Bytes) : Bytes :=
  toBE 4 magic ++ toBE 2 dictVersion ++ toBE 2 0 ++ toBE 4 gen ++ toBE 4 (body.length + 160) ++ toBE 48 (sha384 body) ++ body
    ++ List.replicate 96 0
end Img

/-! ### Capture (R103, R106, R107) -/

/-- The value of a saved sub-index. -/
def State.savedValue (s : State) (idx sub : Nat) : Nat :=
  if idx = 0xA000 then s.value 0 idx sub else s.reg (regKey idx sub)

/-- The records of the saved sub-indices of the object at `idx`. -/
def State.captureRegs (s : State) (o : Obj) (idx : Nat) : Bytes :=
  (o.subs.filter (·.saved)).flatMap (fun r => Img.record idx r.sub 0 (toBE r.ty.size (s.savedValue idx r.sub)))

/-- Runs of consecutive elements of one target: the first element's key and the elements. -/
def elemRuns : SMap Nat → List (Nat × List Nat)
  | [] => []
  | (k, v) :: t =>
    match elemRuns t with
    | (j, vs) :: r => if j = k + 1 ∧ j % 2 ^ 24 ≠ 0 then (k, v :: vs) :: r else (k, [v]) :: (j, vs) :: r
    | [] => [(k, [v])]

/-- An active gate list as elements of the image: its entries from BASE 0, and BASE_TIME, CYCLE_NS and COUNT from BASE 256. -/
def gateElems (l : GateList) : List (Nat × List Nat) :=
  let header := time80 l.base * 2 ^ 48 + l.cycle % 2 ^ 32 * 2 ^ 16 + l.entries.length
  [(0, l.entries.map (fun e => e.1 * 2 ^ 48 + e.2)), (256, [header / 2 ^ 64, header % 2 ^ 64])]

/-- What the image holds of the window at `w`: key `target * 2^24 + element` and consecutive elements from there. Of the exact-match
table, its entries (target 1); of the nodes, the states that outlive a reset, and the roots of the 16 trees as target 1 (R239); of gate
lists, each port's active list with its header (R313). Elements not listed are at their defaults. -/
def State.savedRuns (s : State) (w : Nat) : List (Nat × List Nat) :=
  if w = 0x0900 then elemRuns (s.tabList Tab.intConf)
  else if w = 0x2400 then
    elemRuns (((List.range 32).filter (fun e => s.tab Tab.nodeWritten e == 1)).map (fun e => (e, s.elem w 0 e))
      ++ (s.tabList (Tab.win w)).filter (fun e => 32 ≤ e.1))
  else if w = 0x3011 then elemRuns ((s.tabList (Tab.win w)).filter (fun e => bit e.2 255))
  else if w = 0x3020 then
    elemRuns ((s.tabList (Tab.win w)).map (fun e => (e.1, s.liveElem 0 w 0 e.1)))
      ++ [(2 ^ 24, (List.range 16).map (fun t => s.reg (Reg.CLS_TREE.ROOT t)))]
  else if w = 0x3021 then elemRuns ((s.tabList (Tab.win w)).map (fun e => (e.1, s.liveElem 0 w 0 e.1)))
  else if w = 0x5F00 then
    (List.range 643).flatMap (fun p => match (s.gate p).active with
      | none => []
      | some l => (gateElems l).map (fun r => (p * 2 ^ 24 + r.1, r.2)))
  else elemRuns (s.tabList (Tab.win w))

/-- The records of the window at `w`; one without elements where nothing is listed. -/
def State.captureWindow (s : State) (w : Nat) : Bytes :=
  let rec' := fun (r : Nat × List Nat) =>
    Img.record w 0 1 (toBE 4 (r.1 / 2 ^ 24) ++ toBE 4 (r.1 % 2 ^ 24) ++ r.2.flatMap (toBE (elemBytes w)))
  match s.savedRuns w with
  | [] => rec' (0, [])
  | l => l.flatMap rec'

/-- The body: records in ascending index, sub-index values before window contents. -/
def State.captureBody (s : State) : Bytes :=
  Dict.objects.flatMap (fun o => (List.range o.count).flatMap (fun i =>
    s.captureRegs o (o.idx + i) ++ (if windowPersists (o.idx + i) then s.captureWindow (o.idx + i) else [])))

/-- The image that a SAVE captures now; GEN 0 is stored as 1. -/
def State.capture (s : State) : Bytes :=
  Img.make (s.reg Reg.IDENTITY.DICT_VERSION) (max 1 (s.reg Reg.CONFIG_STORE.CONFIG_GEN)) s.captureBody

/-! ### Reading an image -/

/-- A record. -/
structure ImgRecord where
  idx : Nat
  sub : Nat
  kind : Nat
  data : Bytes
deriving DecidableEq, Repr

/-- The records of a body, and whether it ends with the last of them. -/
def imgRecords : Nat → Bytes → List ImgRecord × Bool
  | 0, b => ([], b.isEmpty)
  | n + 1, b =>
    let len := fieldBE b 4 4
    if b.isEmpty then ([], true)
    else if b.length < 8 + len then ([], false)
    else
      let (l, ok) := imgRecords n (b.drop (8 + (len + 3) / 4 * 4))
      (⟨fieldBE b 0 2, fieldBE b 2 1, fieldBE b 3 1, (b.drop 8).take len⟩ :: l, ok)

/-- TARGET and elements of a window record, by key; none where its data is not whole elements. -/
def ImgRecord.elems (r : ImgRecord) : Option (SMap Nat) :=
  let eb := elemBytes r.idx
  if r.data.length < 8 ∨ (r.data.length - 8) % eb ≠ 0 then none
  else
    let k := fieldBE r.data 0 4 * 2 ^ 24 + fieldBE r.data 4 4
    some (((cut eb ((r.data.length - 8) / eb) (r.data.drop 8)).map ofBE).zipIdx.map (fun p => (k + p.2, p.1)))

/-! ### Applying sub-index values -/

/-- What has been restored so far: the state, and the first refusal's result and detail. -/
structure Restoring where
  st : State
  bad : Option (Nat × Nat)
deriving DecidableEq, Repr

/-- A part of the image is refused (R551, R559): logged, and cause CONFIG set. -/
def State.configRefused (s : State) (code detail idx : Nat) : State :=
  (s.logFault 0x0E 1 1 0xFFFF 0xFF (faultData 5 (code % 256 * 2 ^ 32 + detail % 2 ^ 16 * 2 ^ 16 + idx % 2 ^ 16))).setCause 5 true

/-- The outcome of a part. -/
def Restoring.note (r : Restoring) (idx : Nat) (x : Res) : Restoring :=
  if x.code = Code.ok then { r with st := x.st } else ⟨x.st.configRefused x.code x.detail idx, r.bad.or (some (x.code, x.detail))⟩

/-- A sub-index value of the image: it must name a saved sub-index, fit its type and lie in its range. It is in force as written: a
stage object in the active bank, a bank's partition while the bank is FREE (R473). -/
def State.restoreReg (s : State) (r : ImgRecord) : Res :=
  let k := regKey r.idx r.sub
  match Dict.lookup r.idx with
  | none => Res.fail s Code.noObject
  | some o =>
    match o.row r.sub with
    | none => Res.fail s Code.noSubindex
    | some row =>
      let v := ofBE r.data
      if !row.saved then Res.fail s Code.range
      else if r.data.length ≠ row.ty.size then Res.fail s Code.length
      else if valueRefuses row v then Res.fail s Code.range
      else if r.idx = 0xA000 ∧ r.sub = 2 then chainMapEffect 0 r.data s
      else if 0x9200 ≤ r.idx ∧ r.idx < 0x9400 ∧ r.sub = 4 then
        (if 510 ≤ r.idx - 0x9200 ∨ s.reg k = v then Res.done s else bankPartEffect (r.idx - 0x9200) v s)
      else if isStageKey k then Res.done ((s.setTab Tab.stagePending k 0).setReg k v)
      else s.store k v

/-- The octets take their saved layouts, checked as R184 states; one whose values fail keeps the default layout. -/
def Restoring.octet (r : Restoring) (o : Nat) : Restoring :=
  let s := r.st
  if !s.octetPending o then r
  else if s.octetOk o then { r with st := s.reconfigure o (s.octetWritten o) }
  else r.note (0x1800 + o) (Res.fail (s.reconfigure o (fun _ => 0)) Code.range)

/-! ### Applying windows -/

/-- The elements of `m` put into the rising list `l`, those of `m` in place of equal keys. -/
def overlay (l m : SMap Nat) : SMap Nat := m.foldl (fun l e => stageInsert l e.1 e.2) l

/-- The image's elements of a window of one target, and those that are listed now and not in the image, at their defaults. -/
def wholeElems (live : SMap Nat) (dflt : Nat → Nat) (l : SMap Nat) : SMap Nat := overlay (live.map (fun e => (e.1, dflt e.1))) l

/-- A staging that no session owns. -/
def bareStaging (w target : Nat) (elems own : SMap Nat) : Staging :=
  { window := w, state := 1, owner := 0xFF, target := target, base := 0, count := elems.length, elems := elems, own := own,
    lapsed := false, boundSeq := 0, instant := 0 }

/-- The fail cause of an entry of the exact-match table read from the image (R239): reserved bits, an entry that is not VALID or lies in no
slot that its key may have, a key that an earlier entry has. -/
def emImageFail (keys : List Nat) (e v : Nat) : Option Nat :=
  if bits v 254 252 ≠ 0 ∨ bits v 16 0 ≠ 0 then some Fail.reservedBit
  else if e / 2 ^ 24 ≠ 1 ∨ bit v 255 = false ∨ actionValid (bits v 119 0) = false ∨ (emSlotsOf v).contains (e % 2 ^ 24) = false then
    some Fail.badValue
  else if keys.contains (emKeyOf v) then some Fail.duplicateKey else none

/-- The first failing entry of the image's exact-match table, and its cause. -/
def emImageFirst (keys : List Nat) : SMap Nat → Option (Nat × Nat)
  | [] => none
  | e :: t => match emImageFail keys e.1 e.2 with | some c => some (e.1 % 2 ^ 24, c) | none => emImageFirst (emKeyOf e.2 :: keys) t

/-- Entries of the exact-match table, as one commit: what the table holds and the image does not retires. -/
def State.restoreEm (s : State) (l : SMap Nat) : Res :=
  match emImageFirst [] l with
  | some (e, c) => s.lookupRefused 0x3011 (some e) c
  | none =>
    s.lookupCommit 0x3011 (fun s =>
      let gone := (s.tabList (Tab.win 0x3011)).filter (fun e => bit e.2 255 && !l.any (fun x => x.1 == e.1 && x.2 == e.2))
      let s := s.forAll gone (fun s e => (s.setTab (Tab.win 0x3011) e.1 (setBit e.2 255 false)).retireAt LookupKind.em (e.1 % 2 ^ 24))
      s.forAll l (fun s e => s.setElem 0x3011 1 (e.1 % 2 ^ 24) e.2))

/-- Nodes and the roots of the 16 trees, as one commit: a LIVE node that the image does not hold VALID retires. A reset has ended every
frame, so nodes that were RETIRING are FREE before it is checked. -/
def State.restoreNodes (s : State) (l : SMap Nat) : Res :=
  let s := s.drained
  let nodes := l.filter (fun e => e.1 < 131072)
  let roots := (l.filter (fun e => 2 ^ 24 ≤ e.1 && e.1 < 2 ^ 24 + 16)).map (fun e => (e.1 - 2 ^ 24, e.2 % 2 ^ 32))
  let free := s.clearTab (Tab.win 0x3020)
  match free.nodesFail nodes 0 nodes with
  | some (e, c) => s.lookupRefused 0x3020 (some e) c
  | none =>
    if roots.any (fun r => r.2 != 0xFFFFFFFF && !(decide (r.2 < 131072) && free.nodeAfter nodes r.2)) then s.lookupRefused 0x3020 none Fail.dangling
    else s.lookupCommit 0x3020 (fun s =>
      let gone := (s.tabList (Tab.win 0x3020)).filter (fun e => s.nodeLive e.1 && !nodes.any (fun x => x.1 == e.1 && bit x.2 511))
      let s := s.forAll gone (fun s e => s.retireAt LookupKind.node e.1)
      let s := s.forAll (nodes.filter (fun e => bit e.2 511 || s.retireEpoch LookupKind.node e.1 == 0)) (fun s e => s.setElem 0x3020 0 e.1 e.2)
      let s := s.forAll (List.range 16) (fun s t => s.setReg (Reg.CLS_TREE.ROOT t) 0xFFFFFFFF)
      s.forAll roots (fun s r => s.setReg (Reg.CLS_TREE.ROOT r.1) r.2))

/-- The parse graph or the stage tables, through one bank switch; node 0 to 31 not in the image is the standard node again. -/
def State.restoreBank (s : State) (w : Nat) (l : SMap Nat) : Res :=
  let t := (s.clearTab (Tab.win w)).when (w == 0x2400) (·.clearTab Tab.nodeWritten)
  if t.bankElemsOk w l then Res.done { t.switchBank w 0 l with inactive := s.activeBank } else Res.fail t Code.range

/-- The spreading tables. -/
def State.restoreSpread (s : State) (l : SMap Nat) : Res :=
  let all := wholeElems (s.tabList (Tab.win 0x3030)) (fun _ => 0) l
  match firstFail memberFail all with
  | some (e, c) => s.lookupRefused 0x3030 (some e) c
  | none => s.lookupCommit 0x3030 (fun s' =>
      let s' := s'.forAll all (fun s' e => s'.setTab (Tab.win 0x3030) e.1 e.2)
      let removed := (List.range 64).filter (fun t =>
        s'.portRemoved t ((all.filter (fun e => e.1 / 2 ^ 24 == t)).map (fun e => s.spreadMember t (e.1 % 2 ^ 24))))
      s'.forAll removed (fun s' t => s'.setReg (Reg.SPREAD_TABLE.REMOVAL_EPOCH t) (s'.reg Reg.LOOKUP_CONTROL.LOOKUP_EPOCH)))

/-- The gate list of port `p` in the image (R313): a pending list, swapped under R311. -/
def State.restoreGate (s : State) (p : Nat) (l : SMap Nat) : Res :=
  let at' := fun (e : Nat) => (l.find? (fun x => x.1 == e)).map (·.2)
  let header := (at' 256).getD 0 * 2 ^ 64 + (at' 257).getD 0
  let own := [(regKey 0x5F00 0x20, bits header 127 48), (regKey 0x5F00 0x21, bits header 47 16), (regKey 0x5F00 0x22, bits header 15 0)]
  if 1000000000 ≤ bits header 79 48 then Res.fail s Code.range
  else
    let r := s.commitGateList (bareStaging 0x5F00 p (l.filter (fun x => x.1 < 256)) own)
    { r with st := { r.st with stagings := s.stagings } }

/-- Gate lists: every port's; a port without one in the image loses its own. -/
def Restoring.gates (r : Restoring) (l : SMap Nat) : Restoring :=
  let ports := (l.map (fun e => e.1 / 2 ^ 24)).eraseDups
  let gone := (List.range 643).filter (fun p => (r.st.gate p).active.isSome && !ports.contains p)
  let r := gone.foldl (fun r p => r.note 0x5F00 (removeListEffect p 1 r.st)) r
  ports.foldl (fun r p => r.note 0x5F00 (if 642 < p then Res.fail r.st Code.range
    else r.st.restoreGate p ((l.filter (fun e => e.1 / 2 ^ 24 == p)).map (fun e => (e.1 % 2 ^ 24, e.2))))) r

/-- Reservations (R334): one commit, from which reservations that the image does not hold are withdrawn. -/
def State.restoreResv (s : State) (l : SMap Nat) : Res :=
  let live := ((s.resvList.filter s.resvLive).map (fun n => (n, 0)))
  let all := wholeElems live (Tab.winDflt 0x6810) l
  if all.isEmpty then Res.done s else (s.dropStaging 0x6810).commitResv (bareStaging 0x6810 0 all [])

/-- The default contents of a window whose part of the image is refused. -/
def State.defaultWindow (s : State) (w : Nat) : State :=
  if w = 0x0900 then s.clearTab Tab.intConf
  else if w = 0x6810 then s.withdrawAll
  else if w = 0x3011 then (s.clearTab (Tab.win w)).clearTabRange Tab.retire 0 (2 ^ 24)
  else if w = 0x3020 then
    ((s.clearTab (Tab.win w)).clearTabRange Tab.retire (LookupKind.node * 2 ^ 24) ((LookupKind.node + 1) * 2 ^ 24)).forAll (List.range 16)
      (fun s t => s.setReg (Reg.CLS_TREE.ROOT t) 0xFFFFFFFF)
  else if w = 0x3021 then
    (s.clearTab (Tab.win w)).clearTabRange Tab.retire (LookupKind.rule * 2 ^ 24) ((LookupKind.rule + 1) * 2 ^ 24)
  else s.clearTab (Tab.win w)

/-- The contents of one window, as one commit under its own chapter's checks; refused, they stay at their defaults. -/
def Restoring.window (r : Restoring) (w : Nat) (l : SMap Nat) : Restoring :=
  let s := r.st
  let size := match Dict.lookup w with | none => 0 | some o => match o.win with | none => 0 | some d => d.elems
  let apply : Res :=
    if w = 0x2400 ∨ w = 0x2401 then s.restoreBank w l
    else if w = 0x3011 then s.restoreEm l
    else if w = 0x3020 then s.restoreNodes l
    else if w = 0x3030 then s.restoreSpread l
    else if l.any (fun e => size ≤ e.1) then Res.fail s Code.range
    else if w = 0x6810 then s.restoreResv l
    else if w = 0x0900 then s.commitChapter (bareStaging w 0 (wholeElems (s.tabList Tab.intConf) IntCat.resetElement l) []) [] []
    else s.commitChapter (bareStaging w 0 (wholeElems (s.tabList (Tab.win w)) (Tab.winDflt w) l) []) [] []
  if w = 0x5F00 then r.gates l
  else if apply.code = Code.ok then { r with st := if commitWaits w then apply.st else apply.st.commitApplied w }
  else r.note w { apply with st := apply.st.defaultWindow w }

/-! ### The whole image (R548, R551) -/

/-- The window records that follow one another for the window at `w` are one commit: the elements of them all, and the records after
them. -/
def windowElems (w : Nat) : List ImgRecord → Option (SMap Nat) × List ImgRecord
  | [] => (some [], [])
  | r :: t =>
    if r.idx = w ∧ r.kind = 1 then
      let (m, rest) := windowElems w t
      (match r.elems, m with | some a, some b => some (overlay a b) | _, _ => none, rest)
    else (some [], r :: t)

/-- The records in stored order. -/
def Restoring.records : Nat → Restoring → List ImgRecord → Restoring
  | 0, r, _ => r
  | _, r, [] => r
  | n + 1, r, x :: t =>
    if x.kind = 0 then Restoring.records n (r.note x.idx (r.st.restoreReg x)) t
    else if x.kind = 1 ∧ windowPersists x.idx then
      let (m, rest) := windowElems x.idx (x :: t)
      Restoring.records n (match m with | none => r.note x.idx (Res.fail r.st Code.length) | some l => r.window x.idx l) rest
    else Restoring.records n (r.note x.idx (Res.fail r.st Code.range)) t

/-- The index is an octet's. -/
def isOctetIndex (i : Nat) : Bool := 0x1800 ≤ i && i < 0x1840

/-- A cycle group after the image: its timing is in effect, and it runs as ENABLE says (R373). -/
def State.restoreGroup (s : State) (g : Nat) : State :=
  let base := time80Ns (s.reg (Reg.CYCLE_GROUP.BASE_TIME g))
  let period := s.reg (Reg.CYCLE_GROUP.PERIOD_NS g)
  let trig := s.reg (Reg.CYCLE_GROUP.TRIGGER_OFFSET g)
  let same := s.groupBase g == base && s.groupPeriod g == period && s.groupTrigger g == trig
  let s := ((s.setTab Tab.cycBase g base).setTab Tab.cycPeriod g period).setTab Tab.cycTrigger g trig
  let s := ((s.setTab Tab.cycWritten g 0).setTab Tab.cycSwitch g 0).showPending g
  if s.reg (Reg.CYCLE_GROUP.ENABLE g) = 0 then ((s.setTab Tab.cycNext g 0).setTab Tab.cycStart g 0).showNext g
  else if same ∧ s.tab Tab.cycNext g ≠ 0 then s
  else (enableGroupEffect g 1 (s.setReg (Reg.CYCLE_GROUP.ENABLE g) 0)).st

/-- A lane after the image follows its TX_ENABLE (R153). -/
def State.restoreLane (s : State) (n : Nat) : State :=
  if s.lane n 0x04 = 0 then s.when (s.laneState n != 0) (·.laneTo n 0 false)
  else s.when (s.laneState n == 0 && s.lane n 0x02 != 0) (·.laneRestart n false)

/-- ACTIVE after the image (R340): true while PRIMARY; false where SECONDARY has been set. -/
def State.restoreRole (s : State) : State :=
  if s.reg Reg.DOVETAIL.ROLE = 0 then (s.setReg Reg.DOVETAIL.ACTIVE 1).setTab Tab.sticky 7 0
  else s.when (s.tab Tab.sticky 10 == 0) (·.setReg Reg.DOVETAIL.ACTIVE 0)

/-- What follows the configuration once all of it is in place. -/
def State.configInPlace (s : State) : State :=
  let s := s.forAll (List.range 64) State.restoreGroup
  let s := s.forAll (List.range 520) State.restoreLane
  let s := s.forAll (List.range 514) (fun s p => s.refreshLink p)
  let s := (s.forAll (List.range 64) State.restartWatch).forAll
    ((List.range 643).filter (fun p => s.reg (Reg.GATE_PORT.IN_SAFE_STATE p) == 1 || (s.gate p).active.isSome))
    (fun s p => s.setReg (Reg.GATE_PORT.GATE_STATE p) (s.gateMask p s.clock.ptp))
  let s := (streamMapEffect (s.reg Reg.STREAM_MAP.STREAM_MAP) s).st
  s.restoreRole.refreshPartner.refreshVoltage.refreshInStep.refreshResvs.refreshResvTotals

/-- An image applied (R548): the records of 0x1800 to 0x183F first, then all others in stored order. A version of another major number
is refused whole (R117). -/
def State.applyImage (s : State) (b : Bytes) : Restoring :=
  if Img.version b / 256 ≠ s.reg Reg.IDENTITY.DICT_VERSION / 256 then (⟨s, none⟩ : Restoring).note 0x0020 (Res.fail s Code.range)
  else
    let (l, whole) := imgRecords (Img.body b).length (Img.body b)
    let r := Restoring.records l.length ⟨s, none⟩ (l.filter (fun x => isOctetIndex x.idx))
    let r := (List.range 64).foldl Restoring.octet r
    let r := Restoring.records l.length r (l.filter (fun x => !isOctetIndex x.idx))
    if whole then r else r.note 0x0020 (Res.fail r.st Code.length)

end Sys2Proof.Machine
end

