-- ==== Sys2Proof/Machine/ConfigStore.lean ====
section
/-!
DEFINITION. The configuration store (R104 to R109, R117, R135): the two flash slots, COMMAND, IMPORT and EXPORT.
-/
namespace Sys2Proof.Machine

/-! ### Slots (R105, R108) -/

/-- GEN of slot `k`, 0 while it holds no valid image. -/
def slotGenKey (k : Nat) : Nat := if k = 0 then Reg.CONFIG_STORE.SLOT_A_GEN else Reg.CONFIG_STORE.SLOT_B_GEN
def State.slotGen (s : State) (k : Nat) : Nat := s.reg (slotGenKey k)

/-- GEN `b` is newer than `a`, modulo 2^32. -/
def genNewer (a b : Nat) : Bool := let d := subMod 32 b a; 1 ≤ d && d < 2 ^ 31

/-- The slot of the newest valid image: the one that ACCEPT_IMPORT made the newest, else the greater GEN, A where they are equal. -/
def State.newestSlot (s : State) : Option Nat :=
  let a := s.slotGen 0
  let b := s.slotGen 1
  let accepted := s.tab Tab.store 2
  if a = 0 ∧ b = 0 then none
  else if a = 0 then some 1
  else if b = 0 then some 0
  else if accepted = 1 ∨ accepted = 2 then some (accepted - 1)
  else if genNewer a b then some 1 else some 0

/-- The slot that a SAVE or an import writes. -/
def State.otherSlot (s : State) : Nat := if s.newestSlot = some 0 then 1 else 0

/-- The newest valid image. -/
def State.newestImage (s : State) : Option Bytes := s.newestSlot.map (fun k => s.dump (configSlot k) (s.tab Tab.store (3 + k)))

/-- SAVED_GEN and IMAGE_BYTES follow. -/
def State.refreshNewest (s : State) : State :=
  match s.newestSlot with
  | none => (s.setReg Reg.CONFIG_STORE.SAVED_GEN 0).setReg Reg.CONFIG_STORE.IMAGE_BYTES 0
  | some k => (s.setReg Reg.CONFIG_STORE.SAVED_GEN (s.slotGen k)).setReg Reg.CONFIG_STORE.IMAGE_BYTES (s.tab Tab.store (3 + k))

/-- Slot `k` is invalid from now on. -/
def State.invalidateSlot (s : State) (k : Nat) : State :=
  ((s.setReg (slotGenKey k) 0).when (s.tab Tab.store 2 == k + 1) (·.setTab Tab.store 2 0)).refreshNewest

/-- Slot `k` is valid: its image has been written and verified in full. -/
def State.validateSlot (s : State) (k len gen : Nat) : State :=
  ((s.setReg (slotGenKey k) (max 1 gen)).setTab Tab.store (3 + k) len).refreshNewest

/-! ### Commands (R106) -/

/-- STATE of the store. -/
def State.storeState (s : State) : Nat := s.reg Reg.CONFIG_STORE.STATE

/-- The running command ends. -/
def State.storeDone (s : State) (code detail : Nat) : State :=
  (((s.setReg Reg.CONFIG_STORE.STATE 0).setReg Reg.CONFIG_STORE.LAST_RESULT code).setReg Reg.CONFIG_STORE.LAST_DETAIL detail)

/-- A partial import is discarded (R109, R127): the next expected offset is 0. One whose check has started goes on (R124, R133). -/
def State.discardImport (s : State) : State :=
  s.when (s.storeState == 4) (fun s => (s.setTab Tab.store 0 0).setReg Reg.CONFIG_STORE.STATE 0)

/-- SAVE starts: the image is captured now (R107). -/
def State.saveStart (s : State) : State :=
  let s := s.discardImport
  let k := s.otherSlot
  let b := s.capture
  let s := (s.invalidateSlot k).putBytes (configSlot k) b
  let s := ((s.setTab Tab.store 5 (Img.gen b)).setTab Tab.store 6 k).setTab Tab.store (3 + k) b.length
  s.setReg Reg.CONFIG_STORE.STATE 1

/-- RESTORE starts with a warm reset. -/
def State.restoreStart (s : State) : State :=
  (s.discardImport.warmReset 3 5).setReg Reg.CONFIG_STORE.STATE 2

/-- CLEAR_SAVED starts, whatever was under way where DECOMMISSION starts it (R136). -/
def State.clearSavedStart (s : State) : State := (s.setTab Tab.store 0 0).setReg Reg.CONFIG_STORE.STATE 3

/-- The check of an import starts, under the life-cycle state and the keys of slots 0 and 1 as they are now (R133). -/
def State.acceptStart (s : State) : State :=
  let key := fun k => if s.reg (Reg.KEY_SLOT.STATE k) = 1 then s.reg (Reg.KEY_SLOT.PUBLIC k) + 1 else 0
  let s := ((s.setTab Tab.store 6 s.otherSlot).setTab Tab.store 8 (s.reg Reg.LIFECYCLE.STATE)).setReg Reg.CONFIG_STORE.STATE 5
  (s.setTab Tab.store 9 (key 0)).setTab Tab.store 10 (key 1)

/-- The effect of a write to COMMAND (R106, R109). While a partial import waits, STATE is IMPORTING: SAVE and RESTORE discard it. -/
def configCommandEffect (v : Nat) (s : State) : Res :=
  let st := s.storeState
  if v = 0 ∨ 5 < v then Res.fail s Code.range
  else if st = 4 ∧ (v = 3 ∨ v = 4) then Res.fail s Code.resourceOwned
  else if st ≠ 0 ∧ st ≠ 4 then Res.fail s Code.resourceOwned
  else if v = 1 then Res.done s.saveStart
  else if v = 2 then Res.done s.restoreStart
  else if v = 3 then Res.done s.clearSavedStart
  else if v = 4 then Res.done (s.clearConfig.storeDone Code.ok 0)
  else Res.done s.acceptStart

/-- Flash programming is behind the data received (R109): the spec does not say how fast it goes, so whether it has caught up with what has
been received is free (log entry 70). -/
def State.flashBehind (s : State) (received : Nat) : Bool := received != 0 && s.freeBelow 2 == 1

/-- The effect of a BLOCK_WRITE to IMPORT (R109). -/
def importEffect (off : Nat) (data : Bytes) (s : State) : Res :=
  if off ≠ s.tab Tab.store 0 then Res.fail s Code.range
  else if s.storeState ≠ 0 ∧ s.storeState ≠ 4 then Res.fail s Code.resourceOwned
  else if data.isEmpty then Res.done s
  else if s.flashBehind off then Res.fail s.drew Code.busyRetry
  else
    let k := s.otherSlot
    let s := (s.drew.invalidateSlot k).putBytes (configSlot k + off) data
    Res.done ((s.setTab Tab.store 0 (off + data.length)).setReg Reg.CONFIG_STORE.STATE 4)

/-- The signature of an image verifies under a key that was ENROLLED in slot 0 or 1 when its check started (R133, R137). -/
def State.configVerifies (s : State) (b : Bytes) : Bool :=
  [9, 10].any (fun i => match s.tab Tab.store i with
    | 0 => false
    | key + 1 => P384.verify (key / 2 ^ 384) (key % 2 ^ 384) (Img.digest b) (Img.sigR b) (Img.sigS b))

/-- The verdict on an imported image (R105, R106, R117, R133, R135). -/
def State.importVerdict (s : State) (b : Bytes) : Nat :=
  let life := s.tab Tab.store 8
  if life = 2 then Code.tampered
  else if life = 3 then Code.lifecycleForbids
  else if b.length < 160 ∨ Img.len b ≠ b.length ∨ configSlotSize < Img.len b then Code.length
  else if fieldBE b 0 4 ≠ Img.magic ∨ Img.version b / 256 ≠ s.reg Reg.IDENTITY.DICT_VERSION / 256 ∨ 1 < Img.flags b then Code.range
  else if Img.digest b ≠ sha384 (Img.body b) then Code.signatureFail
  else if !Img.signed b then (if life = 1 ∨ Img.sigR b ≠ 0 ∨ Img.sigS b ≠ 0 then Code.signatureFail else Code.ok)
  else if s.configVerifies b then Code.ok else Code.signatureFail

/-- The check of an imported image completes. -/
def State.importChecked (s : State) : State :=
  let k := s.tab Tab.store 6
  let b := s.dump (configSlot k) (s.tab Tab.store 0)
  let c := s.importVerdict b
  let s := s.setTab Tab.store 0 0
  if c = Code.ok then
    let s := (s.validateSlot k b.length (Img.gen b)).setTab Tab.store 2 (k + 1)
    s.refreshNewest.storeDone Code.ok 0
  else
    let s := s.when (c == Code.signatureFail) (·.event Reg.SECURITY_EVENTS.FLAGS 7 0x1C87)
    (s.invalidateSlot k).storeDone c 0

/-- RESTORE applies the newest valid image. With none LAST_RESULT is a free value: the spec gives none. -/
def State.restored (s : State) : State :=
  match s.newestImage with
  | none => ((s.storeDone (s.freeBelow 256) 0).drew).when (s.freeBelow 256 == 0) (·.setCause 5 false)
  | some b =>
    let r := (s.setTab Tab.sticky 10 (s.reg Reg.DOVETAIL.ROLE)).applyImage b
    let s := r.st.configInPlace
    match r.bad with
    | none => (s.storeDone Code.ok 0).setCause 5 false
    | some (c, d) => s.storeDone c d

/-- SAVE (R106, R107). -/
def execSave (w : SessionNo) (s : State) : Next := (s.hostWrite w 0x0020 0x01 1 (configCommandEffect 1)).next

/-- SAVE_DONE (R108): the slot has been written, and read back as `verified` says. -/
def execSaveDone (verified : Bool) (s : State) : Next :=
  if !s.saving then .next s
  else if verified then
    let k := s.tab Tab.store 6
    let s := (s.setTab Tab.store 2 0).validateSlot k (s.tab Tab.store (3 + k)) (s.tab Tab.store 5)
    State.done ((s.storeDone Code.ok 0).setCause 5 false)
  else State.done (s.storeDone Code.internal 0)

/-- RESTORE (R106). -/
def execRestore (w : SessionNo) (s : State) : Next := (s.hostWrite w 0x0020 0x01 2 (configCommandEffect 2)).next

/-- RESTORE_DONE (R106, R548). -/
def execRestoreDone (s : State) : Next := if s.storeState = 2 then State.done s.restored else .next s

/-- CLEAR_SAVED (R106). -/
def execClearSaved (w : SessionNo) (s : State) : Next := (s.hostWrite w 0x0020 0x01 3 (configCommandEffect 3)).next

/-- CLEAR_SAVED_DONE (R106). -/
def execClearSavedDone (s : State) : Next :=
  if s.storeState = 3 then State.done (((s.invalidateSlot 0).invalidateSlot 1).storeDone Code.ok 0) else .next s

/-- APPLY_DEFAULTS (R106, R553). -/
def execApplyDefaults (w : SessionNo) (s : State) : Next := (s.hostWrite w 0x0020 0x01 4 (configCommandEffect 4)).next

/-- ACCEPT_IMPORT (R106). -/
def execAcceptImport (w : SessionNo) (s : State) : Next := (s.hostWrite w 0x0020 0x01 5 (configCommandEffect 5)).next

/-- IMPORT_CHECK_DONE (R106, R135). -/
def execImportCheckDone (s : State) : Next := if s.storeState = 5 then State.done s.importChecked else .next s

/-- IMPORT (R109). -/
def execImportBlock (w : SessionNo) (offset : Nat) (data : Bytes) (s : State) : Next :=
  (s.hostBlockWrite w 0x0020 0x0D offset data (importEffect offset data)).next

end Sys2Proof.Machine
end

