-- ==== Sys2Proof/Machine/Startup.lean ====
section
/-!
DEFINITION. Start-up, power sequences, resets and fatal faults (R522, R541 to R568): the rails stepped, the steps of R551 and R557, and
the commands of R550. A sequence lasts while rails are awaited; everything else of it happens in one step.
-/
namespace Sys2Proof.Machine

/-! ### Rails (R542, R543) -/

-- Supplies of R545.
namespace Supply
abbrev core : Nat := 0
abbrev sram : Nat := 1
abbrev lane : Nat := 2
abbrev vdda : Nat := 3
abbrev io : Nat := 4
end Supply

-- Power sequences, Tab.power 10.
namespace Seq
abbrev none : Nat := 0
abbrev start : Nat := 1
abbrev wake : Nat := 2
abbrev standby : Nat := 3
abbrev retain : Nat := 4
end Seq

/-- The sequence under way. -/
def State.sequence (s : State) : Nat := s.tab Tab.power 10

/-- The supplies awaited, one bit each. -/
def State.awaited (s : State) : Nat := s.tab Tab.power 11

/-- The rails of the supplies `l` are commanded, each to what `mv` gives its supply, and awaited. -/
def State.commandSupplies (s : State) (l : List Nat) (mv : Nat → Nat) : State :=
  let s := s.forAll l (fun s x => s.forAll (s.railsOf x) (fun s r => s.setTab Tab.railCommand r (mv x)))
  s.setTab Tab.power 11 ((l.map (2 ^ ·)).sum)

/-- The settings of a core that runs: VDD_SRAM 0.80 V, VDD_CORE the target of BASE_DIVIDER, VDD_LANE, VDDA_LANE and VDD_IO their
nominal voltages (R542, R543). -/
def State.setting (s : State) (x : Nat) : Nat :=
  if x = Supply.sram then 800
  else if x = Supply.core then s.targetOf (s.reg Reg.CLOCKS.BASE_DIVIDER)
  else if x = Supply.io then 1800
  else if x = Supply.lane then 900 else 1200

/-- Every rail of a supply has come within 3 % of its setting; one that is commanded off has nothing to reach. -/
def State.supplyThere (s : State) (x : Nat) : Bool :=
  (s.railsOf x).all (fun r =>
    let c := s.tab Tab.railCommand r
    let v := s.reg (Reg.PMBUS_RAIL.VOUT_MV r)
    c == 0 || (decide (100 * v ≤ 103 * c) && decide (97 * c ≤ 100 * v)))

/-- The supply after `x` on the way up: VDD_SRAM, VDD_CORE, VDD_IO, VDD_LANE, VDDA_LANE. -/
def nextSupply (x : Nat) : Option Nat :=
  if x = Supply.sram then some Supply.core else if x = Supply.core then some Supply.io
  else if x = Supply.io then some Supply.lane else if x = Supply.lane then some Supply.vdda else none

/-- The lanes of both host ports take the form of STANDBY or of operation. -/
def State.hostForms (s : State) (standby : Bool) : State := (s.hostForm 0 standby).hostForm 1 standby

/-- The sequence is over. -/
def State.endSequence (s : State) : State := ((s.setTab Tab.power 10 Seq.none).setTab Tab.power 11 0).setReg Reg.STARTUP.STEP 0

/-- MODE STANDBY, with the core's state gone (R543, R555). -/
def State.enterStandby (s : State) : State :=
  ((((s.endSequence.setReg Reg.POWER_STATE.STATE 0).setReg Reg.CLOCKS.ROOT_STATE 0).coreLost).setMode 0).hostForms true

/-- RAILS_OFF (R559): every rail is sent off at once, and what the core holds is lost. -/
def State.railsOff (s : State) : State :=
  let s := s.when s.coreOn (·.setTab Tab.sticky 10 (s.reg Reg.DOVETAIL.ROLE))
  let s := s.forAll (List.range 8) (fun s r => s.setTab Tab.railCommand r 0)
  ((s.abandonSave).setTab Tab.fatal 0 0).enterStandby

/-! ### Start-up (R551) -/

/-- START, or AUTOSTART (R550, R551 step 1). -/
def State.startBegin (s : State) (cause : Nat) : State :=
  let s := ((s.resetTaken 2 cause).setMode 1).setTab Tab.marks 17 s.clock.island
  let s := ((s.setReg Reg.STARTUP.STEP 1).setReg Reg.POWER_STATE.STATE 2).setTab Tab.power 10 Seq.start
  s.commandSupplies [Supply.sram] s.setting

/-- A start-up stops because of a fault that has been logged (R551). -/
def State.startFailed (s : State) (startup : Bool) : State :=
  let s := s.railsOff
  s.when startup (·.event Reg.STARTUP.EVENTS 2 0x1D80)

/-- The root PLL does not lock: its reference is lost (R521, R551). -/
def State.rootFails (s : State) (startup : Bool) : State :=
  (s.logFault 0x10 2 5 0x1D00 0xFF (faultData 4 (s.reg Reg.CLOCKS.REF_PPM))).startFailed startup

/-- One fault that the start-up run of the jig has found (R478, R559). -/
def State.startupFault (s : State) (f : StartFault) : State :=
  if f.array.val = 0 ∧ f.number < 510 then ((s.setBank f.number 5 ownerNone).bankEvent f.number 0).setTab Tab.startupBad f.number 1
  else if f.array.val = 1 then
    if 128 ≤ f.number then s
    else
      let s := s.fenceBench f.number
      let s : State := { s with fences := s.fences ++ [⟨holder 5 f.number, 3, none, 0⟩] }
      s.logFault 0x09 1 1 0xFFFF 0xFF (faultData 5 (f.number * 2 ^ 32 + f.offset % 2 ^ 32))
  else
    let bank := if f.array.val = 0 then f.number else 0
    let data := (if f.array.val = 0 then 0 else 1) * 2 ^ 48 + bank % 2 ^ 16 * 2 ^ 32 + f.offset % 2 ^ 32
    (s.logFault 0x08 2 2 0xFFFF 0xFF (faultData 7 data)).setCause 1 true

/-- Step 3: the start-up run of the jig, when STARTUP_ENABLE was true; the memories hold 0 either way. -/
def State.startMemories (s : State) (enabled : Bool) (bad : List StartFault) : State :=
  let s := s.clearTab Tab.startupBad
  if enabled then (s.forAll bad State.startupFault).setReg Reg.JIG.STARTUP_RESULT (if bad.isEmpty then 1 else 2) else s

/-- The firmware slot to start from, with its version (R546, R547): the valid one of the greater version; with BOOTSRC 10, what a host
has imported since the island started. -/
def State.bootSlot (s : State) : Option (Nat × Nat) :=
  let a := s.reg Reg.FIRMWARE.SLOT_A_VERSION
  let b := s.reg Reg.FIRMWARE.SLOT_B_VERSION
  if bits (s.reg Reg.STARTUP.STRAPS) 1 0 = 2 then
    match s.tab Tab.store 11 with
    | 1 => if a = 0 then none else some (0, a)
    | 2 => if b = 0 then none else some (1, b)
    | _ => none
  else if a = 0 ∧ b = 0 then none
  else if a < b then some (1, b) else some (0, a)

/-- The loss of a store's words at start-up (R453, R559): `target` 0 the pipelines, 1 + y bay y. -/
def State.reloadFails (s : State) (target code detail : Nat) : State :=
  let s := (s.setTab Tab.reloadFailed target 1).refreshMicrocode
  s.logFault 0x0D 1 1 0xFFFF 0xFF (faultData 4 ((if target = 0 then 0xFF else target - 1) * 2 ^ 24 + code % 256 * 2 ^ 16 + detail % 2 ^ 16))

/-- Step 4: the vendor packages (R448), and a newer island firmware (R549). With no valid firmware image the vendor regions stay
UNLOADED. -/
def State.loadVendor (s : State) : State :=
  match s.bootSlot with
  | none => s.reloadFails 0 Code.signatureFail 0
  | some (k, v) =>
    let s := s.setReg Reg.FIRMWARE.RUNNING_SLOT (if bits (s.reg Reg.STARTUP.STRAPS) 1 0 = 2 then 0xFF else k)
    let s := s.forAll (List.range 17) (fun s i => s.setTab Tab.vendorLoaded i 1)
    if s.reg Reg.IDENTITY.ISLAND_FW_VERSION < v then (s.setReg Reg.FIRMWARE.ISLAND_PENDING 1).setTab Tab.store 7 v else s

/-- The package that microcode record `i` holds. -/
def State.recordPackage (s : State) (i : Nat) : Option Bytes :=
  match s.tab Tab.ucodeRecord i with
  | 0 => none
  | k + 1 => some (s.dump (packageSlot k) (min 0x40000 (ofBE (s.dump (packageSlot k + 8) 4))))

/-- Record `i` reloaded (R453): a load under steps 1 to 6 of R447, judged by the life cycle and keys of now. -/
def State.reloadRecord (s : State) (i : Nat) : State :=
  let l := if i = 0 then 0 else 1
  match s.recordPackage i with
  | none => s
  | some b =>
    match Pack.check b l ⟨s.reg Reg.LIFECYCLE.STATE, s.ucodeKeys⟩ with
    | .refused code detail =>
      let s := (s.setReg (loaderKey l LoaderSub.lastResult) code).setReg (loaderKey l LoaderSub.lastDetail) detail
      let s := (s.loaderEvent l 1).when (code == 0x40) (·.event Reg.SECURITY_EVENTS.FLAGS 7 0x1C87)
      s.reloadFails i code detail
    | .passed slot =>
      if i = 0 then s.installPackage b 0 slot
      else
        let y := i - 1
        let s := (s.writeBayStores b y).setReg (Reg.BAY_STORE.PERSISTED y) 1
        let s := (s.setReg (Reg.BAY_STORE.VERSION y) (Pack.version b)).setReg (Reg.BAY_STORE.DIGEST y) (Pack.digest b)
        (s.setReg (Reg.BAY_STORE.KEY_SLOT y) slot).setReg (Reg.BAY_STORE.LOADED_AT y) s.stamp

/-- Step 5: the pipeline record, then the bay records in ascending order; LOADS counts a package shared by bays once. -/
def State.reloadMicrocode (s : State) : State :=
  let slots := ((List.range 16).map (fun y => s.tab Tab.ucodeRecord (1 + y))).filter (0 < ·)
  let s := s.forAll (List.range 17) State.reloadRecord
  let loaded := fun (i : Nat) => s.tab Tab.ucodeRecord i != 0 && s.tab Tab.reloadFailed i == 0
  let s := s.when (loaded 0) (fun s => (s.bump Reg.PIPE_UCODE.LOADS 32).loaderEvent 0 0)
  let n := (slots.eraseDups.filter (fun k => (List.range 16).any (fun y => s.tab Tab.ucodeRecord (1 + y) == k && loaded (1 + y)))).length
  s.forAll (List.range n) (fun s _ => (s.bump Reg.BENCH_UCODE.LOADS 32).loaderEvent 1 0)

/-- Step 6: the newest valid image, when AUTO_RESTORE is true; otherwise the defaults stand. -/
def State.startConfig (s : State) : State :=
  if s.reg Reg.CONFIG_STORE.AUTO_RESTORE = 0 then s.configInPlace
  else
    match s.newestImage with
    | none => s.configInPlace
    | some b =>
      let r := s.applyImage b
      let s := r.st.configInPlace
      match r.bad with
      | none => s
      | some (c, d) => (s.setReg Reg.CONFIG_STORE.LAST_RESULT c).setReg Reg.CONFIG_STORE.LAST_DETAIL d

/-- The end of a wake: MODE OPERATIONAL or DEGRADED, and the host ports leave standby form. -/
def State.enterOperation (s : State) : State := ((s.setMode s.runMode).firstPartner).hostForms false

/-- Steps 2 and 3 of a start-up whose rails are on (R551): step 3 ends with the next tick of the island clock. -/
def State.coldSteps (s : State) (startup : Bool) (env : StartEnv) : State :=
  if s.tab Tab.power 9 = 1 then s.rootFails startup
  else
    let enabled := s.reg Reg.JIG.STARTUP_ENABLE == 1
    let s := (s.coldClear.endSequence.setReg Reg.POWER_STATE.STATE 3).setReg Reg.CLOCKS.ROOT_STATE 2
    let s := (((s.setTab Tab.power 1 0).setTab Tab.power 3 0).setTab Tab.power 7 0).refreshThrottle.refreshClock
    ((s.startMemories enabled env.bad).setTab Tab.power 10 Seq.start).setReg Reg.STARTUP.STEP 3

/-- The start-up's step in progress ends, and the next begins (R551): the effects of a step, from 4 on, come with its end. -/
def State.startStep (s : State) : State :=
  let n := s.reg Reg.STARTUP.STEP
  let s := s.setReg Reg.STARTUP.STEP (n + 1)
  if n = 3 then s
  else if n = 4 then s.loadVendor
  else if n = 5 then s.reloadMicrocode
  else if n = 6 then
    let s := s.startConfig
    s.setReg Reg.CLOCKS.BENCH_DIVIDER (s.reg Reg.CLOCKS.BASE_DIVIDER)
  else if n = 7 then (s.setMode s.runMode).firstPartner
  else
    let s := s.endSequence.hostForms false
    (s.setReg Reg.STARTUP.STARTUP_MS ((s.clock.island - s.tab Tab.marks 17) / 400000)).event Reg.STARTUP.EVENTS 1 0x1D80

/-- What goes on by itself: a start-up whose core is on takes its next step, and a reset that keeps the core's supplies ends (R551, R554). -/
def State.resume (s : State) : State :=
  if s.sequence = Seq.start ∧ 3 ≤ s.reg Reg.STARTUP.STEP then s.startStep
  else s.when (s.mode == 4) (fun s => (s.setMode s.runMode).resumeGroups)

/-- A cold reset with the rails kept on (R550, R553): the core stops, and start-up begins at step 2. -/
def State.coldReset (s : State) (cause : Nat) (env : StartEnv) : State :=
  let s := (s.stopCore.resetTaken 2 cause).setMode 1
  ((s.setTab Tab.marks 17 s.clock.island).hostForms true).coldSteps true env

/-- The end of a wake (R557): the register image is written back, or, where its SECDED check fails, the wake becomes a cold reset. The
DATA of that fault is free: the spec states none for it. -/
def State.wakeSteps (s : State) (env : StartEnv) : State :=
  if s.tab Tab.power 9 = 1 then s.rootFails false
  else if env.imageBad then
    let s := ((s.logFault 0x0E 1 1 0xFFFF 0xFF (faultData 5 (s.freeBelow (2 ^ 40)))).drew).setCause 5 true
    (s.resetTaken 2 4).coldSteps true env
  else
    let s := (s.wakeClear.endSequence.setReg Reg.POWER_STATE.STATE 3).setReg Reg.CLOCKS.ROOT_STATE 2
    s.refreshClock.configInPlace.refreshMicrocode.enterOperation

/-! ### The power sequences (R543, R550, R555 to R557) -/

/-- WAKE begins. -/
def State.wakeBegin (s : State) : State :=
  let s := ((s.resetTaken 5 3).setMode 1).setTab Tab.marks 17 s.clock.island
  let s := ((s.setReg Reg.STARTUP.STEP 1).setReg Reg.POWER_STATE.STATE 2).setTab Tab.power 10 Seq.wake
  s.commandSupplies [Supply.sram] s.setting

/-- STANDBY and RETAIN stop the core and step the rails down; MODE follows when they have arrived (R555). -/
def State.stepDown (s : State) (seq : Nat) : State :=
  let s := ((s.stopCore.hostForms true).setReg Reg.POWER_STATE.STATE 2).setTab Tab.power 10 seq
  s.commandSupplies [Supply.core, Supply.lane, Supply.vdda, Supply.io] (fun _ => 0)

/-- The supplies awaited have all arrived: the next step of the sequence, after supply `x`. -/
def State.nextRail (s : State) (x : Nat) (env : StartEnv) : State :=
  let seq := s.sequence
  if seq = Seq.start ∨ seq = Seq.wake then
    match nextSupply x with
    | some y => s.commandSupplies [y] s.setting
    | none => if seq = Seq.start then s.coldSteps true env else s.wakeSteps env
  else if x = Supply.sram then
    (if seq = Seq.standby then s.enterStandby
     else (((s.endSequence.setReg Reg.POWER_STATE.STATE 1).setReg Reg.CLOCKS.ROOT_STATE 0).setMode 0))
  else s.commandSupplies [Supply.sram] (fun _ => if seq = Seq.standby then 0 else 550)

/-- RAIL_ARRIVED (R543): every rail of an awaited supply has come to its setting. -/
def execRailArrived (supply : Fin 6) (env : StartEnv) (s : State) : Next :=
  if bit s.awaited supply && s.supplyThere supply then
    let s := s.setTab Tab.power 11 (setBit s.awaited supply false)
    if s.awaited = 0 then State.done (s.nextRail supply env) else .next s
  else .next s

/-- RAIL_TIMEOUT (R543, R551, R559): an awaited supply has not arrived within RAIL_TIMEOUT_MS. DATA names its lowest rail. -/
def execRailTimeout (supply : Fin 6) (s : State) : Next :=
  if bit s.awaited supply && !(s.supplyThere supply && (s.railsOf supply).any (fun r => s.tab Tab.railCommand r != 0)) then
    let r := (s.railsOf supply).head?
    let v := match r with | none => 0 | some r => s.reg (Reg.PMBUS_RAIL.VOUT_MV r)
    let startup := s.sequence == Seq.start
    State.done ((s.logFault 0x11 2 5 0xFFFF 0xFF (faultData 4 (supply * 2 ^ 24 + r.getD 0xFF * 2 ^ 16 + v % 2 ^ 16))).startFailed startup)
  else .next s

/-! ### Fatal faults (R559, R560) -/

/-- The action of a fatal fault that waits is carried out. -/
def State.settleFatal (s : State) (env : StartEnv) : State :=
  let a := s.tab Tab.fatal 0
  let s := s.setTab Tab.fatal 0 0
  if a = 0 then s
  else if a = 3 then s.railsOff
  else if !s.coreOn then s
  else if a = 1 then s.warmReset 3 4 else s.coldReset 4 env

/-- REF_OUT_OF_RANGE (R522). -/
def execRefOutOfRange (ppm : Nat) (lost settled : Bool) (s : State) : Next := State.done (s.refCheck ppm lost settled)

/-- ROOT_UNLOCK (R522, R559): the lock of the root PLL is lost while its reference is present. -/
def execRootUnlock (env : StartEnv) (s : State) : Next :=
  if s.reg Reg.CLOCKS.ROOT_STATE = 2 ∧ s.tab Tab.power 9 = 0 ∧ s.coreOn then
    State.done ((s.fatalFault 2 0x10 0x1D00 0xFF (faultData 4 (s.reg Reg.CLOCKS.REF_PPM))).settleFatal env)
  else .next s

/-- THERMTRIP (R541, R559): a sensor has reached 115 degrees. -/
def execThermtrip (sensor : Fin 24) (reading : Nat) (s : State) : Next :=
  if toInt 32 reading < 11500 ∨ s.reg Reg.THERMAL.THERMTRIP = 1 then .next s
  else
    let s := (s.setReg Reg.THERMAL.THERMTRIP 1).event Reg.THERMAL.EVENTS 3 0x1D04
    State.done (s.logFault 0x0F 2 5 0x1D04 0xFF (faultData 5 (sensor * 2 ^ 32 + reading % 2 ^ 32))).railsOff

/-- The effect of a write to THERMTRIP_CLEAR (R541): every powered sensor must read below 100 degrees. -/
def thermtripClearEffect (v : Nat) (s : State) : Res :=
  let hot := if s.coreOn then !(allEntries 96 4 (s.reg Reg.THERMAL.SENSORS) (fun x => decide (toInt 32 x < 10000)))
    else decide (10000 ≤ s.hottest)
  if v = 0 then Res.done s else if hot then Res.fail s Code.range else Res.done (s.setReg Reg.THERMAL.THERMTRIP 0)

/-- THERMTRIP_CLEAR (R541). -/
def execThermtripClear (w : SessionNo) (s : State) : Next := (s.hostWrite w 0x0450 0x08 1 (thermtripClearEffect 1)).next

/-- CORE_SUPPLY_LOST (R50): VDD_CORE or VDD_SRAM is lost unbidden while it is on. -/
def execCoreSupplyLost (s : State) : Next := if s.reg Reg.POWER_STATE.STATE = 0 then .next s else State.done s.railsOff

/-! ### The island (R546, R549, R552, R553) -/

/-- Registers that outlive every reset of the island: what its own non-volatile stores and the flash hold. -/
def everlastingKey (k : Nat) : Bool :=
  let i := k / 256
  i == 0x0000 || i == 0x0210 || (0x0220 ≤ i && i < 0x0224) || k == Reg.SEAL.WIPES || k == Reg.FAULT_LOG.PERSISTED_HEAD
    || k == Reg.CONFIG_STORE.SLOT_A_GEN || k == Reg.CONFIG_STORE.SLOT_B_GEN || k == Reg.FIRMWARE.SLOT_A_VERSION
    || k == Reg.FIRMWARE.SLOT_B_VERSION || k == Reg.STARTUP.STRAPS

/-- Tables that outlive every reset of the island. -/
def everlastingTab (k : Nat) : Bool :=
  let t := k / 2 ^ 40
  t == Tab.faultPersisted || t == Tab.ucodeRecord || (t == Tab.store && [2, 3, 4, 7, 12].contains (k % 2 ^ 40))

/-- What is left after an island reset, or after the loss of VAUX: the flash, the island's non-volatile stores, and what has left the
block. The sealed bank reads 0 (R471); the model's own queue and counter go on. -/
def State.islandCleared (s : State) : State :=
  { State.reset with
    regs := s.regs.filter (fun e => everlastingKey e.1), tabs := s.tabs.filter (fun e => everlastingTab e.1),
    mem := s.mem.filter (fun e => 2 ^ 36 ≤ e.1 && e.1 < 2 ^ 37), nextFrame := s.nextFrame, nextCopy := s.nextCopy, out := s.out,
    freeCtr := s.freeCtr, pending := s.pending }

/-- START is permitted, and does not wait for an import of firmware (R546). -/
def State.mayAutostart (s : State) : Bool :=
  s.tab Tab.store 12 == 0 && bit (s.reg Reg.STARTUP.STRAPS) 2 && (s.bootSlot.isSome || [0, 3].contains (bits (s.reg Reg.STARTUP.STRAPS) 1 0))

/-- The island starts (R549): a pending island firmware runs, the seal loop begins with a seed that is not 0, a key that is held
must be released first (R123), and H0 and H4 begin standby bring-up. -/
def State.islandBegin (s : State) (cause : Nat) (keyHeld : Bool) : State :=
  let s := (s.setReg Reg.STARTUP.LAST_RESET 1).setReg Reg.STARTUP.LAST_RESET_CAUSE cause
  let s := s.when (s.tab Tab.store 7 != 0) (fun s => (s.setReg Reg.IDENTITY.ISLAND_FW_VERSION (s.tab Tab.store 7)).setTab Tab.store 7 0)
  let s := s.setReg Reg.SEAL.WIPE_STATE (if s.reg Reg.LIFECYCLE.STATE = 2 then 3 else 0)
  let s := ((s.setTab Tab.presence 1 (s.freeBelow (2 ^ 31 - 1) + 1)).setTab Tab.presence 4 8).drew
  let s := s.setReg Reg.PRESENCE.KEY_ASSERTED (ofBool keyHeld)
  let s := s.refreshNewest.hostForms true
  s.when s.mayAutostart (·.startBegin cause)

/-- An island reset closed the presence window where it was open before, in state `old` (R122): PRESENCE_CLOSED is set. DEDUCED (log entry
72): the flag is set once the registers are at their reset values, so that it can be read. -/
def State.windowClosed (s old : State) : State := s.when (old.reg Reg.PRESENCE.WINDOW_OPEN == 1) (·.event Reg.SECURITY_EVENTS.FLAGS 1 0x1C81)

/-- A reset of the island other than by its power or its pin (R550, R552): the straps are not sampled again. -/
def State.islandReset (s : State) (cause : Nat) : State :=
  (s.islandCleared.islandBegin cause (s.reg Reg.PRESENCE.KEY_ASSERTED == 1)).windowClosed s

/-- ISLAND_START (R546, R549). Where the island firmware fails its check the recovery loader runs, and starts nothing. -/
def execIslandStart (byPin : Bool) (straps : Fin 8) (keyHeld firmwareOk : Bool) (s : State) : Next :=
  let t := s.islandCleared.setReg Reg.STARTUP.STRAPS straps
  State.done (((t.setTab Tab.store 12 (ofBool (!firmwareOk))).islandBegin (if byPin then 1 else 0) keyHeld).windowClosed s)

/-- ISLAND_WATCHDOG (R552, R559, R562): logged at the restart. -/
def execIslandWatchdog (pc : Nat) (s : State) : Next :=
  State.done ((s.islandReset 2).logFault 0x13 2 0 0xFFFF 0xFF (faultData 4 (pc % 2 ^ 32)))

/-- VAUX_LOST (R72): what the loss of VAUX leaves, until the island starts again. -/
def execVauxLost (s : State) : Next := State.done s.islandCleared

/-! ### Commands (R550, R560, R562, R563) -/

/-- Another command or an automatic reset is in progress (R550): a sequence of the rails or of a start-up, or a reset that has not ended. -/
def State.resetting (s : State) : Bool :=
  s.sequence != Seq.none || s.mode == 4 || s.tab Tab.islandReset 0 != 0 || s.tab Tab.islandReset 1 != 0

/-- MODE is OPERATIONAL or DEGRADED. -/
def State.operating (s : State) : Bool := s.mode == 2 || s.mode == 3

/-- The effect of a write to COMMAND. -/
def startupCommandEffect (v : Nat) (s : State) : Res :=
  if v = 0 ∨ 3 < v then Res.fail s Code.range
  else if s.resetting then Res.fail s Code.busyRetry
  else if v = 1 then
    if s.operating then Res.done s
    else if s.mode = 0 ∧ s.reg Reg.POWER_STATE.STATE = 0 ∧ s.reg Reg.THERMAL.THERMTRIP = 0 then Res.done (s.startBegin 3)
    else Res.fail s Code.resourceOwned
  else if v = 2 then
    if s.operating then Res.done s
    else if s.reg Reg.POWER_STATE.STATE = 1 then Res.done s.wakeBegin else Res.fail s Code.resourceOwned
  else if s.operating then Res.done (s.warmReset 3 3) else Res.fail s Code.resourceOwned

/-- The effect of a write to PROTECTED_COMMAND. -/
def protectedCommandEffect (v : Nat) (env : StartEnv) (s : State) : Res :=
  if v = 0 ∨ 4 < v then Res.fail s Code.range
  else if v = 4 then Res.done (s.islandReset 3)
  else if s.resetting then Res.fail s Code.busyRetry
  else if v = 1 then
    if s.operating then Res.done (s.stepDown Seq.standby)
    else if s.mode = 0 ∧ s.reg Reg.POWER_STATE.STATE = 0 then Res.done s else Res.fail s Code.resourceOwned
  else if v = 2 then
    if s.operating then Res.done (s.stepDown Seq.retain)
    else if s.reg Reg.POWER_STATE.STATE = 1 then Res.done s else Res.fail s Code.resourceOwned
  else if s.operating then Res.done (s.coldReset 3 env) else Res.fail s Code.resourceOwned

/-- The effect of a write to PROTECTED_COMMAND by a host: the island resets at the next tick of its clock, or, where a reply is formed, at
the next after that has been handed over (R550). -/
def protectedWriteEffect (v : Nat) (s : State) : Res :=
  if v = 4 then Res.done (s.setTab Tab.islandReset 1 1) else protectedCommandEffect v ⟨[], false⟩ s

/-- START (R550, R551). -/
def execStart (w : SessionNo) (s : State) : Next := (s.hostWrite w 0x0500 0x01 1 (startupCommandEffect 1)).next

/-- WAKE (R550, R557). -/
def execWake (w : SessionNo) (s : State) : Next := (s.hostWrite w 0x0500 0x01 2 (startupCommandEffect 2)).next

/-- WARM_RESET (R550, R554). -/
def execWarmReset (w : SessionNo) (s : State) : Next := (s.hostWrite w 0x0500 0x01 3 (startupCommandEffect 3)).next

/-- STANDBY (R550, R555). -/
def execStandby (w : SessionNo) (s : State) : Next := (s.hostWrite w 0x0500 0x02 1 (protectedCommandEffect 1 ⟨[], false⟩)).next

/-- RETAIN (R550, R556). -/
def execRetain (w : SessionNo) (s : State) : Next := (s.hostWrite w 0x0500 0x02 2 (protectedCommandEffect 2 ⟨[], false⟩)).next

/-- COLD_RESET (R550, R553). -/
def execColdReset (w : SessionNo) (env : StartEnv) (s : State) : Next :=
  (s.hostWrite w 0x0500 0x02 3 (protectedCommandEffect 3 env)).next

/-- ISLAND_RESET (R550). -/
def execIslandReset (w : SessionNo) (s : State) : Next := (s.hostWrite w 0x0500 0x02 4 (protectedCommandEffect 4 ⟨[], false⟩)).next

/-- The effect of a write to CLEAR_BREACH (R563). -/
def clearBreachEffect (v : Nat) (s : State) : Res := Res.done (s.when (v == 1) (·.setCause 10 false))

/-- CLEAR_BREACH (R563). -/
def execClearBreach (w : SessionNo) (s : State) : Next := (s.hostWrite w 0x0500 0x0D 1 (clearBreachEffect 1)).next

/-- The effect of a write to CLEAR_PERSISTED (R562). -/
def clearPersistedEffect (v : Nat) (s : State) : Res :=
  Res.done (s.when (v == 1) (fun s => (s.clearTab Tab.faultPersisted).setReg Reg.FAULT_LOG.PERSISTED_HEAD 0))

/-- CLEAR_PERSISTED (R562). -/
def execClearPersisted (w : SessionNo) (s : State) : Next := (s.hostWrite w 0x0510 0x05 1 (clearPersistedEffect 1)).next

/-! ### Firmware (R566) -/

/-- The slot that an import writes: the one that is not running. -/
def State.firmwareSlot (s : State) : Nat := if s.reg Reg.FIRMWARE.RUNNING_SLOT = 0 then 1 else 0

/-- The byte address of firmware slot `k` (R547). -/
abbrev firmwareAddr (k : Nat) : Nat := flashAddr (0x01000000 * (k + 1))

/-- The version of slot `k`; 0, it is invalid. -/
def State.setFirmware (s : State) (k v : Nat) : State :=
  s.setReg (if k = 0 then Reg.FIRMWARE.SLOT_A_VERSION else Reg.FIRMWARE.SLOT_B_VERSION) v

/-- A partial firmware import is discarded (R127); one whose check has started goes on (R124). -/
def State.discardFirmware (s : State) : State :=
  s.when (s.reg Reg.FIRMWARE.STATE == 4) (fun s => (s.setTab Tab.store 1 0).setReg Reg.FIRMWARE.STATE 0)

/-- The effect of a BLOCK_WRITE to the firmware IMPORT. -/
def firmwareImportEffect (off : Nat) (data : Bytes) (s : State) : Res :=
  if off ≠ s.tab Tab.store 1 then Res.fail s Code.range
  else if s.reg Reg.FIRMWARE.STATE = 5 then Res.fail s Code.resourceOwned
  else if data.isEmpty then Res.done s
  else if s.flashBehind off then Res.fail s.drew Code.busyRetry
  else
    let k := s.firmwareSlot
    let s := (s.drew.setFirmware k 0).putBytes (firmwareAddr k + off) data
    Res.done ((s.setTab Tab.store 1 (off + data.length)).setReg Reg.FIRMWARE.STATE 4)

/-- FIRMWARE_IMPORT (R566). -/
def execFirmwareImport (w : SessionNo) (offset : Nat) (data : Bytes) (s : State) : Next :=
  (s.hostBlockWrite w 0x0520 0x04 offset data (firmwareImportEffect offset data)).next

/-- The effect of a write to COMMAND of FIRMWARE. -/
def firmwareCommandEffect (v : Nat) (s : State) : Res :=
  if v ≠ 1 then Res.fail s Code.range
  else if s.reg Reg.FIRMWARE.STATE = 5 then Res.fail s Code.resourceOwned
  else Res.done (s.setReg Reg.FIRMWARE.STATE 5)

/-- ACCEPT (R566). -/
def execAccept (w : SessionNo) (s : State) : Next := (s.hostWrite w 0x0520 0x05 1 (firmwareCommandEffect 1)).next

/-- FIRMWARE_CHECK_DONE (R566): the image's inner layout is Broddar's, so the outcome comes with the command; without octets received
the result is LENGTH. -/
def execFirmwareCheckDone (result : Fin 4) (version : Nat) (s : State) : Next :=
  if s.reg Reg.FIRMWARE.STATE ≠ 5 then .next s
  else
    let k := s.firmwareSlot
    let code := if s.tab Tab.store 1 = 0 then Code.length
      else match result.val with | 0 => Code.ok | 1 => Code.signatureFail | 2 => Code.length | _ => Code.range
    let s := ((s.setTab Tab.store 1 0).setReg Reg.FIRMWARE.STATE 0).setReg Reg.FIRMWARE.LAST_RESULT code
    if code = Code.ok then State.done ((s.setFirmware k (max 1 (version % 2 ^ 32))).setTab Tab.store 11 (k + 1))
    else State.done ((s.setFirmware k 0).when (code == Code.signatureFail) (·.event Reg.SECURITY_EVENTS.FLAGS 7 0x1C87))

end Sys2Proof.Machine
end

