-- ==== Sys2Proof/Machine/Presence.lean ====
section
/-!
DEFINITION. Physical presence, the seal, the wipe of the sealed bank, the life cycle and the key slots (R121 to R137, R471).
-/
namespace Sys2Proof.Machine

/-- A flag of SECURITY_EVENTS. -/
def State.securityEvent (s : State) (i : Nat) : State := s.event Reg.SECURITY_EVENTS.FLAGS i (0x1C80 + i)

/-! ### The presence window (R121 to R127) -/

/-- REMAINING_MS is loaded. -/
def State.loadRemaining (s : State) : State := s.setReg Reg.PRESENCE.REMAINING_MS (s.reg Reg.PRESENCE.DURATION_S * 1000)

/-- The window opens (R121). -/
def State.openPresence (s : State) : State :=
  let s := ((s.setReg Reg.PRESENCE.WINDOW_OPEN 1).bump Reg.PRESENCE.WINDOW_SEQ 32).loadRemaining
  (s.setTab Tab.presence 11 0).securityEvent 0

/-- The window's STAGE is of class RWP. -/
def protectedWindow (idx : Nat) : Bool := match Dict.lookup idx with
  | none => false
  | some o => match o.win with | none => false | some w => w.stage == .rwp

/-- A protected staging lapses. -/
def Staging.lapse (g : Staging) : Staging := if g.state = 1 ∧ protectedWindow g.window = true then { g with lapsed := true } else g

/-- Protected sequences bound to the window lapse (R127): stagings, packages being received, and partial imports. -/
def State.lapse (s : State) : State :=
  let s := { s with stagings := s.stagings.map Staging.lapse }
  let s := s.forAll [0, 1] (fun s l => s.when (s.loaderState l == 1) (·.discardPackage l))
  s.discardImport.discardFirmware

/-- The window closes (R122). -/
def State.closePresence (s : State) : State :=
  if s.reg Reg.PRESENCE.WINDOW_OPEN = 0 then s
  else (((s.setReg Reg.PRESENCE.WINDOW_OPEN 0).setReg Reg.PRESENCE.REMAINING_MS 0).lapse).securityEvent 1

/-- KEY_ASSERTED (R121, R123): a debounced assertion of PRESENCE_N. -/
def execKeyAsserted (s : State) : Next :=
  if s.reg Reg.PRESENCE.KEY_ASSERTED = 1 then .next s
  else
    let s := s.setReg Reg.PRESENCE.KEY_ASSERTED 1
    if s.reg Reg.PRESENCE.WINDOW_OPEN = 0 then State.done s.openPresence
    else State.done (s.when (s.reg Reg.PRESENCE.KEY_MODE == 1) (·.loadRemaining))

/-- KEY_RELEASED (R122): a debounced de-assertion. -/
def execKeyReleased (s : State) : Next :=
  if s.reg Reg.PRESENCE.KEY_ASSERTED = 0 then .next s
  else
    let s := s.setReg Reg.PRESENCE.KEY_ASSERTED 0
    State.done (s.when (s.reg Reg.PRESENCE.KEY_MODE == 0) (·.closePresence))

/-- PRESENCE_WINDOW_EXPIRY (R122): REMAINING_MS reaches 0 with the end of its last millisecond. -/
def execPresenceWindowExpiry (s : State) : Next :=
  if s.reg Reg.PRESENCE.REMAINING_MS ≤ 1 then State.done s.closePresence else .next s

/-- The effect of a write to CLOSE of PRESENCE. -/
def presenceCloseEffect (v : Nat) (s : State) : Res := Res.done (s.when (v == 1) (·.closePresence))

/-- PRESENCE_CLOSE (R122). -/
def execPresenceClose (w : SessionNo) (s : State) : Next := (s.hostWrite w 0x0200 0x08 1 (presenceCloseEffect 1)).next

/-- PRESENCE_LAMP_N (R125): the frequency in Hz, 0 a steady lamp, and the share of the period in percent in which it is lit. -/
def State.presenceLamp (s : State) : Nat × Nat :=
  let window := s.reg Reg.PRESENCE.WINDOW_OPEN == 1
  if s.reg Reg.LIFECYCLE.STATE = 2 ∧ window = false then (4, 50)
  else if window then (if s.reg Reg.PRESENCE.REMAINING_MS ≤ 30000 then (1, 50) else (0, 100))
  else if s.reg Reg.PRESENCE.LAMP_IDENTIFY = 1 then (2, 25) else (0, 0)

/-! ### The life cycle (R135, R136) -/

-- Life-cycle states.
namespace Life
abbrev factory : Nat := 0
abbrev enrolled : Nat := 1
abbrev tampered : Nat := 2
abbrev decommissioned : Nat := 3
end Life

/-- LIFECYCLE takes a value. -/
def State.setLife (s : State) (v : Nat) : State :=
  let s := (s.setReg Reg.LIFECYCLE.STATE v).bump Reg.LIFECYCLE.TRANSITIONS 32
  (s.setReg Reg.LIFECYCLE.LAST_TRANSITION s.stamp).securityEvent 6

/-- A key slot is ENROLLED. -/
def State.keyEnrolled (s : State) (k : Nat) : Bool := s.reg (Reg.KEY_SLOT.STATE k) == 1

/-- Slot `k` is emptied. -/
def State.emptyKey (s : State) (k : Nat) : State :=
  s.forAll [Reg.KEY_SLOT.STATE k, Reg.KEY_SLOT.PUBLIC k, Reg.KEY_SLOT.KEY_DIGEST k, Reg.KEY_SLOT.ENROLLED_AT k] State.resetReg

/-- A wipe of the sealed bank is asked for; `commanded`: not by a seal opening. -/
def State.askWipe (s : State) (commanded : Bool) : State :=
  (s.setTab Tab.presence 7 1).when commanded (·.setTab Tab.presence 8 1)

/-- DECOMMISSION: the wipe, the keys, the allow-list with the rest of the configuration, and both slots of the store. -/
def State.decommission (s : State) : State :=
  let s := ((s.setLife Life.decommissioned).askWipe true).forAll (List.range 4) State.emptyKey
  s.clearConfig.clearSavedStart

/-- The effect of a write to COMMAND of LIFECYCLE. -/
def lifecycleEffect (v : Nat) (s : State) : Res :=
  let st := s.reg Reg.LIFECYCLE.STATE
  let intact := s.reg Reg.SEAL.INTACT == 1
  let rearmed := s.reg Reg.PRESENCE.WINDOW_OPEN == 1 && s.tab Tab.presence 11 == 0 && s.reg Reg.SEAL.WIPE_STATE == 3
  if v = 0 ∨ 4 < v then Res.fail s Code.range
  else if v = 1 ∧ st = Life.factory ∧ intact = true ∧ (s.keyEnrolled 0 || s.keyEnrolled 1) = true
      ∧ (s.keyEnrolled 2 || s.keyEnrolled 3) = true then Res.done (s.setLife Life.enrolled)
  else if v = 2 ∧ st = Life.tampered ∧ intact = true ∧ rearmed = true then Res.done (s.setLife Life.enrolled)
  else if v = 3 ∧ (st = Life.enrolled ∨ st = Life.tampered) then Res.done s.decommission
  else if v = 4 ∧ st = Life.decommissioned ∧ ((List.range 4).all (fun k => !s.keyEnrolled k)) = true then Res.done (s.setLife Life.factory)
  else Res.fail s Code.lifecycleForbids

/-- ENROL (R136). -/
def execEnrol (w : SessionNo) (s : State) : Next := (s.hostWrite w 0x0210 0x02 1 (lifecycleEffect 1)).next

/-- REARM (R136). -/
def execRearm (w : SessionNo) (s : State) : Next := (s.hostWrite w 0x0210 0x02 2 (lifecycleEffect 2)).next

/-- DECOMMISSION (R136). -/
def execDecommission (w : SessionNo) (s : State) : Next := (s.hostWrite w 0x0210 0x02 3 (lifecycleEffect 3)).next

/-- RETURN_TO_FACTORY (R136). -/
def execReturnToFactory (w : SessionNo) (s : State) : Next := (s.hostWrite w 0x0210 0x02 4 (lifecycleEffect 4)).next

/-! ### Key slots (R137) -/

/-- The effect of a write of 96 octets, X and Y, to PUBLIC of slot `k`. -/
def publicEffect (k key : Nat) (s : State) : Res :=
  if s.keyEnrolled k then Res.fail s Code.resourceOwned
  else if !P384.onCurve (key / 2 ^ 384) (key % 2 ^ 384) then Res.fail s Code.range
  else
    let s := ((s.setReg (Reg.KEY_SLOT.PUBLIC k) key).setReg (Reg.KEY_SLOT.STATE k) 1).setReg (Reg.KEY_SLOT.KEY_DIGEST k) (sha384 (toBE 96 key))
    Res.done (s.setReg (Reg.KEY_SLOT.ENROLLED_AT k) s.stamp)

/-- PUBLIC (R137). -/
def execPublicKey (w : SessionNo) (slot : Fin 4) (key : Nat) (s : State) : Next :=
  (s.hostWrite w (0x0220 + slot) 0x03 key (publicEffect slot key)).next

/-- The other slot of the role of slot `k`. -/
def otherKey (k : Nat) : Nat := if k % 2 = 0 then k + 1 else k - 1

/-- The effect of a write to REVOKE of slot `k`. -/
def revokeEffect (k v : Nat) (s : State) : Res :=
  if v = 0 then Res.done s
  else if s.reg Reg.LIFECYCLE.STATE = Life.enrolled ∧ s.keyEnrolled (otherKey k) = false then Res.fail s Code.lifecycleForbids
  else Res.done (s.emptyKey k)

/-- REVOKE (R137). -/
def execRevoke (w : SessionNo) (slot : Fin 4) (s : State) : Next := (s.hostWrite w (0x0220 + slot) 0x05 1 (revokeEffect slot 1)).next

/-! ### The seal loop (R129, R130) -/

-- Elements of Tab.presence.
namespace Seal
abbrev startBad : Nat := 0
abbrev lfsr : Nat := 1
abbrev bad : Nat := 2
abbrev good : Nat := 3
abbrev start : Nat := 4
abbrev levels : Nat := 5
abbrev second : Nat := 6
abbrev asked : Nat := 7
abbrev commanded : Nat := 8
abbrev due : Nat := 9
abbrev pairBad : Nat := 10
abbrev closedSince : Nat := 11
end Seal

/-- An element of Tab.presence, and the state with it written. -/
def State.seal (s : State) (k : Nat) : Nat := s.tab Tab.presence k
def State.setSeal (s : State) (k v : Nat) : State := s.setTab Tab.presence k v

/-- The next state of the LFSR. -/
def lfsrNext (r : Nat) : Nat := (r * 2 + ofBool (bit r 30 != bit r 27)) % 2 ^ 31

/-- LOOP_STATE of an opening declared after `n` samples: SEAL_B constant in them, or changing. -/
def loopState (levels n : Nat) : Nat := if levels % 2 ^ n = 0 ∨ levels % 2 ^ n = 2 ^ n - 1 then 1 else 2

/-- The pair under way has its first mismatched sample. -/
def State.pairMismatch (s : State) : State :=
  let s := (((s.setSeal Seal.pairBad 1).setSeal Seal.bad (s.seal Seal.bad + 1)).setSeal Seal.good 0).when (s.seal Seal.start != 0)
    (·.setSeal Seal.startBad 1)
  if 2 ≤ s.seal Seal.bad ∧ (s.reg Reg.SEAL.INTACT = 1 ∨ s.seal Seal.start ≠ 0) then
    (s.setSeal Seal.due 1).setSeal Seal.start 0
  else s

/-- A pair is complete. -/
def State.pairDone (s : State) : State :=
  let matched := s.seal Seal.pairBad == 0
  let s := s.when matched (fun s => (s.setSeal Seal.bad 0).setSeal Seal.good (s.seal Seal.good + 1))
  let s := (s.setSeal Seal.pairBad 0).setSeal Seal.lfsr (lfsrNext (s.seal Seal.lfsr))
  if s.seal Seal.start ≠ 0 then
    let s := s.setSeal Seal.start (s.seal Seal.start - 1)
    s.when (s.seal Seal.start == 0) (·.setSeal Seal.due (if s.seal Seal.startBad = 0 then 2 else 1))
  else s.when (s.reg Reg.SEAL.INTACT == 0 && s.seal Seal.due == 0 && 2000 ≤ s.seal Seal.good) (·.setSeal Seal.due 2)

/-- SEAL_SAMPLE (R129, R130). What the sample completes is declared by SEAL_OPENED or SEAL_CLOSED. -/
def execSealSample (level : Bool) (s : State) : Next :=
  let second := s.seal Seal.second == 1
  let driven := bit (s.seal Seal.lfsr) 30 != second
  let s := s.setSeal Seal.levels ((s.seal Seal.levels * 2 + ofBool level) % 16)
  let s := s.when (level != driven) (·.bump Reg.SEAL.MISMATCH_SAMPLES 32)
  let s := if level != driven && s.seal Seal.pairBad == 0 then s.pairMismatch else s
  State.done (if second then (s.setSeal Seal.second 0).pairDone else s.setSeal Seal.second 1)

/-- A microcode load, or the check of an import, is under way (R133). -/
def State.wipeDeferred (s : State) : Bool :=
  [0, 1].any (fun l => 2 ≤ s.loaderState l && s.loaderState l ≤ 4) || s.storeState == 5

/-- The seal is declared open (R130, R131): in this order, the seal's own state, the presence window, the life cycle, the wipe. -/
def State.declareOpen (s : State) : State :=
  let n := if s.seal Seal.second = 1 then 3 else 4
  let s := ((s.setSeal Seal.due 0).setSeal Seal.good 0).setReg Reg.SEAL.INTACT 0
  let s := (s.setReg Reg.SEAL.LOOP_STATE (loopState (s.seal Seal.levels) n)).setReg Reg.SEAL.LAST_OPEN s.stamp
  let s := (s.securityEvent 2).closePresence
  let s := s.when (s.reg Reg.LIFECYCLE.STATE == Life.enrolled) (·.setLife Life.tampered)
  let tampered := s.reg Reg.LIFECYCLE.STATE == Life.tampered
  (s.when tampered (·.askWipe false)).when (tampered && s.wipeDeferred && s.reg Reg.SEAL.WIPE_STATE != 2) (·.setReg Reg.SEAL.WIPE_STATE 1)

/-- The seal is declared closed (R130). -/
def State.declareClosed (s : State) : State :=
  let s := ((s.setSeal Seal.due 0).setReg Reg.SEAL.INTACT 1).setReg Reg.SEAL.LOOP_STATE 0
  ((s.setReg Reg.SEAL.LAST_CLOSE s.stamp).setSeal Seal.closedSince 1).securityEvent 3

/-- SEAL_OPENED (R130, R131): the samples have completed an opening. -/
def execSealOpened (s : State) : Next := if s.seal Seal.due = 1 then State.done s.declareOpen else .next s

/-- SEAL_CLOSED (R130): the samples have completed a closing. -/
def execSealClosed (s : State) : Next := if s.seal Seal.due = 2 then State.done s.declareClosed else .next s

/-! ### The wipe (R131, R133, R134, R471) -/

/-- WIPE_START: a wipe that a seal opening asked for waits for what it must not disturb; a staging of the sealed window is discarded. -/
def execWipeStart (s : State) : Next :=
  if s.seal Seal.asked = 0 ∨ s.reg Reg.SEAL.WIPE_STATE = 2 then .next s
  else if s.seal Seal.commanded = 0 ∧ s.wipeDeferred = true then State.done (s.setReg Reg.SEAL.WIPE_STATE 1)
  else State.done ((((s.setSeal Seal.asked 0).setSeal Seal.commanded 0).dropStaging 0x9401).setReg Reg.SEAL.WIPE_STATE 2)

/-- The wipe has failed at the byte addresses `bad`: what they hold is free, and not 0. -/
def State.wipeFailed (s : State) (bad : List Nat) : State :=
  let s := s.forAll bad (fun s a => (s.setByte a (s.freeBelow 255 + 1)).drew)
  let s := ((s.setReg Reg.SEAL.WIPE_STATE 4).setReg Reg.SEALED_BANK.STATE 2).securityEvent 5
  (s.logFault 0x06 2 2 0x1C85 0xFF (faultData 2 (bad.foldl min 65535))).setCause 11 true

/-- WIPE_DONE: all 64 KiB are written with 0 and read back, POLICY is 0 and no commit has been made since. -/
def execWipeDone (bad : List Nat) (s : State) : Next :=
  if s.reg Reg.SEAL.WIPE_STATE ≠ 2 then .next s
  else
    let s := ((s.zeroBytes 0 65536).setReg Reg.SEALED_BANK.POLICY 0).setReg Reg.SEALED_BANK.COMMITS 0
    match bad.filter (· < 65536) with
    | [] => State.done (((s.setReg Reg.SEAL.WIPE_STATE 3).bump Reg.SEAL.WIPES 32).securityEvent 4)
    | bad => State.done (s.wipeFailed bad)

/-- The effect of a write to WIPE of the sealed bank (R471). -/
def wipeEffect (v : Nat) (s : State) : Res := Res.done (s.when (v == 1) (·.askWipe true))

/-- WIPE (R471). -/
def execWipe (w : SessionNo) (s : State) : Next := (s.hostWrite w 0x9400 0x02 1 (wipeEffect 1)).next

end Sys2Proof.Machine
end

