-- ==== Sys2Proof/Machine/Tally.lean ====
section
/-!
DEFINITION. The tally beyond its ledgers (R345 to R356): fences and their ends, reclaim, the ends of sweep passes, leases, ledger epochs
and snapshots.
-/
namespace Sys2Proof.Machine

/-! ### The tally log (R356) -/

/-- The OUTCOME of the log entry of discrepancy `n`. -/
def State.setOutcome (s : State) (n v : Nat) : State :=
  s.setTab Tab.tallyLog (n % 16) (setBits (s.tab Tab.tallyLog (n % 16)) 39 32 v)

/-- UNITS of the log entry of discrepancy `n`, which then waits for the re-check at the end of the next pass. -/
def State.setUnits (s : State) (n units : Nat) : State :=
  (s.setTab Tab.tallyLog (n % 16) (setBits (s.tab Tab.tallyLog (n % 16)) 31 0 (min units (2 ^ 32 - 1)))).awaitSweep n

/-! ### Fences (R350) -/

/-- Units that a fence or a reclaim can release: cells held, descriptors, and job slots queued or running. -/
def State.heldUnits (s : State) : Nat :=
  (s.frames.map Frame.cells).sum + s.copies.length + ((s.tabList Tab.jobState).filter (fun e => e.2 == 1 || e.2 == 2)).length

/-- A fence of a queue: its copies are dropped under FENCED, one in transmission with a stomped FCS (R258); the watchdog fires on a fabric
port's, and its reservations lose it. -/
def State.fenceQueue (s : State) (p q : Nat) : State :=
  let s := s.endCopies (fun c => c.port == p && c.queue == q) Drop.fenced true
  let s := s.when (p < 512) (·.watchdogFire p q)
  (s.setTab Tab.queueFault (16 * p + q) (setBit (s.tab Tab.queueFault (16 * p + q)) 1 true)).refreshResvs

/-- The queue is fenced no longer. -/
def State.freeQueue (s : State) (p q : Nat) : State :=
  (s.setTab Tab.queueFault (16 * p + q) (setBit (s.tab Tab.queueFault (16 * p + q)) 1 false)).refreshResvs

/-- A fence of a port. -/
def State.fencePort (s : State) (p : Nat) : State :=
  let s := s.endCopies (fun c => c.port == p && c.phase != 2) Drop.fenced false
  (s.refreshLink p).refreshResvs

/-- The frames of pipeline or partition, as `f` says, that are not final are dropped whole. -/
def State.fenceArrivals (s : State) (f : Frame → Bool) : State := s.endFrames (fun g => f g && !g.final) Drop.fenced false

/-- The ports of partition `p`. -/
def State.portsOfPart (s : State) (p : Nat) : List Nat := (List.range 642).filter (fun n => s.portPart n == p)

/-- A fence of a partition: its ports, benches and queues, and its frames wherever they are; its reservations are WITHDRAWN. Of the
pipelines, which serve other partitions too, only what is the partition's is fenced (R52). -/
def State.fencePartition (s : State) (p : Nat) : State :=
  let ports := s.portsOfPart p
  let s := s.fenceArrivals (fun f => f.part == p)
  let s := s.forAll (ports.filter (· < 514)) State.fencePort
  let s := s.forAll (ports.filter (fun n => 514 ≤ n && s.benchState (n - 514) != 4)) (fun s n => s.fenceBench (n - 514))
  let s := s.forAll ports (fun s n => s.forAll (List.range 16) (fun s q => s.fenceQueue n q))
  (s.withdrawWhere (fun v => resvPart v == p)).refreshResvs

/-- What a fence does to its holder when it takes effect. -/
def State.applyFence (s : State) (h : Nat) : State :=
  let i := holderInst h
  match holderKind h with
  | 1 => (s.fenceArrivals (fun f => f.pipe == i)).refreshResvs
  | 2 => s.fenceQueue (i / 16) (i % 16)
  | 3 => s.fencePort i
  | 4 => ((s.when (s.portKind i == 2) (·.dzReset i true))).refreshResvs
  | 5 => ((s.when (s.benchState i != 4) (·.fenceBench i))).refreshResvs
  | 6 => s.beginClose i
  | 7 => s.endFrames (fun f => f.id == i) Drop.fenced true
  | 8 => s.fencePartition i
  | 9 => s.forAll s.queuedJobs (fun s k => s.completeJob k 3 0xFF 0 [])
  | _ => s

/-- The fence of a holder takes new values. -/
def State.putFence (s : State) (f : Fence) : State :=
  { s with fences := s.fences.map (fun g => if g.holder = f.holder then f else g) }

/-- A fence that was asked for takes effect: FENCE_APPLIED, and its reclaim is queued. That of a session ends at once, its tags being
freed as it closes. -/
def State.startFence (s : State) (f : Fence) : State :=
  let before := s.heldUnits
  let s := s.applyFence f.holder
  let s := s.event Reg.TALLY_CONTROL.EVENTS 1 0x1C01
  if holderKind f.holder = 6 then
    let s := { s with fences := s.fences.filter (fun g => g.holder != f.holder) }
    let s := s.event Reg.TALLY_CONTROL.EVENTS 2 0x1C01
    match f.log with | none => s | some n => s.setUnits n 0
  else
    s.putFence { f with state := 4, units := before - s.heldUnits }

/-- Every fence that has been asked for takes effect (R351: at once, whatever their number). -/
def State.applyFences (s : State) : State := s.forAll (s.fences.filter (fun f => f.state == 1)) State.startFence

/-- The fence of a port or bench is over, or of its partition. -/
def State.freeHolder (s : State) (h : Nat) : State :=
  let i := holderInst h
  let s := { s with fences := s.fences.filter (fun f => f.holder != h) }
  match holderKind h with
  | 2 => s.freeQueue (i / 16) (i % 16)
  | 3 => (s.refreshLink i).refreshResvs
  | 4 => (s.lanesChanged i true).refreshResvs
  | 5 => (s.when (!s.fenced 5 i) (·.unfenceBench i)).refreshResvs
  | 8 =>
    let ports := s.portsOfPart i
    let s := s.forAll (ports.filter (· < 514)) (fun s n => s.refreshLink n)
    let s := s.forAll (ports.filter (fun n => 514 ≤ n && !s.fenced 5 (n - 514))) (fun s n => s.unfenceBench (n - 514))
    let s := s.forAll ports (fun s n => s.forAll ((List.range 16).filter (fun q => !s.fenced 2 (16 * n + q))) (fun s q => s.freeQueue n q))
    s.setCause 9 (s.fences.any (fun f => holderKind f.holder == 8 && f.state == 3))
  | _ => s.refreshResvs

/-- The holder codes that the host may write (R348, R356). -/
def holderOk (h : Nat) : Bool :=
  let i := holderInst h
  match holderKind h with
  | 1 => i < 64
  | 2 => i < 643 * 16
  | 3 => i < 514
  | 4 => i < 512
  | 5 => i < 128
  | 6 => i < 16
  | 8 => i < 16
  | 9 => i == 0
  | _ => false

/-- The effect of a write to FENCE. -/
def fenceEffect (h : Nat) (s : State) : Res :=
  if holderOk h then Res.done (s.queueFence h none).applyFences else Res.fail s Code.range

/-- FENCE (R350, R351). -/
def execFence (w : SessionNo) (holder : Nat) (s : State) : Next := (s.hostWrite w 0x4840 0x01 holder (fenceEffect holder)).next

/-- The effect of a write to UNFENCE. -/
def unfenceEffect (h : Nat) (s : State) : Res :=
  if !holderOk h then Res.fail s Code.range
  else Res.done (s.when (s.fences.any (fun f => f.holder == h && f.state == 3)) (·.freeHolder h))

/-- UNFENCE (R350). -/
def execUnfence (w : SessionNo) (holder : Nat) (s : State) : Next := (s.hostWrite w 0x4840 0x02 holder (unfenceEffect holder)).next

/-- The effect of a write to QUERY. -/
def queryEffect (h : Nat) (s : State) : Res := if holderOk h then s.store Reg.FENCE_CONTROL.QUERY h else Res.fail s Code.range

/-! ### Reclaim (R351) -/

/-- RECLAIM_START: the first fence in the order of detection whose reclaim waits, one at a time; none while HOLD after MGMT_DISCREPANCY
lasts (R559). What the holder still holds is released. -/
def execReclaimStart (s : State) : Next :=
  let s := s.applyFences
  if s.tab Tab.fatal 1 = 1 ∨ s.fences.any (fun f => f.state == 2) = true then State.done s
  else
    match s.fences.find? (fun f => f.state == 4) with
    | none => State.done s
    | some f =>
      let before := s.heldUnits
      let s := match holderKind f.holder with
        | 1 => s.fenceArrivals (fun g => g.pipe == holderInst f.holder)
        | 7 => s.endFrames (fun g => g.id == holderInst f.holder) Drop.fenced true
        | 8 => s.fenceArrivals (fun g => g.part == holderInst f.holder)
        | _ => s
      let units := f.units + (before - s.heldUnits)
      State.done (s.putFence { f with state := 2, units := units })

/-- RECLAIM_DONE: the reclaim that runs is complete. The fence of a port, a bench or a partition is HELD; any other ends. -/
def execReclaimDone (s : State) : Next :=
  match s.fences.find? (fun f => f.state == 2) with
  | none => .next s
  | some f =>
    let s := (s.event Reg.TALLY_CONTROL.EVENTS 2 0x1C01).bump Reg.TALLY_CONTROL.UNITS_RECLAIMED 64 f.units
    let s := match f.log with | none => s | some n => s.setUnits n f.units
    if [3, 5, 8].contains (holderKind f.holder) then
      let s := s.putFence { f with state := 3 }
      State.done (s.when (holderKind f.holder == 8) (·.setCause 9 true))
    else State.done (s.freeHolder f.holder)

/-! ### The end of a sweep pass (R345 to R349, R351, R352) -/

/-- The holder that a discrepancy found by the sweep names (R349): the one that the recount locates, where it is of a kind that the
quantity can name; otherwise the partition, or MANAGEMENT. -/
def namedHolder (quantity part h : Nat) : Nat :=
  let kinds : List Nat := match quantity with
    | 1 => [7, 1] | 2 => [2, 3] | 3 => [7] | 4 => [4] | 5 => [6] | 7 => [9, 5] | 8 => [1, 2] | _ => []
  if kinds.contains (holderKind h) then h else if part < 16 then holder 8 part else holder 15 0

/-- What the end of a pass holds of one term: its ledger, what was found, the holder that the recount locates and the orphans. -/
structure SweepResult where
  quantity : Nat
  partition : Nat
  term : Nat
  ledger : Nat
  found : Nat
  holder : Nat
  orphans : List Nat
deriving DecidableEq, Repr

/-- The terms kept by reports for a partition `p`, or for what belongs to none: quantity and place (R343). -/
def keptTerms : List (Nat × Nat) :=
  [(1, Term.cellsHeld), (2, Term.descQueued), (2, Term.descInTx), (3, Term.mcRefs), (8, Term.inPipeline), (8, Term.residentCopies)]

/-- Job slots in state `v`; `0`, those FREE. -/
def State.jobsIn (s : State) (v : Nat) : Nat :=
  if v = 0 then 4096 - (s.tabList Tab.jobState).length else ((s.tabList Tab.jobState).filter (fun e => e.2 == v)).length

/-- The unused part of every set-aside pool: management, landing, Dalzan, reservation and partition reserves (R249). -/
def State.reservesFree (s : State) : Nat :=
  let dalzan := (((List.range 512).filter (fun p => s.portKind p == 2)).map (fun p =>
    ((List.range 16).map (fun q => s.rxReserve p q - s.dalzanUsed p q)).sum)).sum
  (2048 - s.mgmtUsed) + (4096 - ((List.range 64).map s.landingUsed).sum) + dalzan
    + (s.reg Reg.BUFFER_CONFIG.RESV_POOL_CELLS - s.resvPoolUsed)
    + ((List.range 16).map (fun n => s.reg (Reg.PARTITION_BUFFER.RESERVE_CELLS n) - s.reserveUsed n)).sum

/-- The device's ledgers in the order of DEVICE_LEDGER. -/
def State.deviceLedger (s : State) : List Nat :=
  let tags := (s.zdp.cache.filter (fun e => !e.done)).length
  let mgmt := s.mgmtTags
  [s.sharedFree, s.termSum Term.cellsHeld, s.reservesFree, s.descFree, s.termSum Term.descQueued, s.termSum Term.descInTx, 4096 - tags,
   tags, 256 - mgmt, mgmt, s.jobsIn 0, s.jobsIn 1, s.jobsIn 2, s.jobsIn 3]

/-- The ledger of a term. -/
def State.ledgerOf (s : State) (quantity part k : Nat) : Nat :=
  if part ≤ noPart then s.term part k
  else if quantity = 4 then (s.creditTerm (k / 48) (k / 3 % 16) (k % 3)).toNat
  else s.deviceLedger.getD k 0

/-- The pass's total of a term, counted from the frames and copies themselves (R345). The terms of quantities 4 to 7, and the free and
reserved ones, are the units' own state and are kept nowhere beside it. -/
def State.recount (s : State) (quantity part k : Nat) : Nat :=
  let mine := fun (c : Copy) => match s.frame? c.frame with | none => false | some f => f.part == part
  if part ≤ noPart then
    (if k = Term.cellsHeld then s.sumFrames (fun f => f.part == part) Frame.cells
     else if k = Term.descQueued then (s.copies.filter (fun c => mine c && c.phase != 2)).length
     else if k = Term.descInTx then (s.copies.filter (fun c => mine c && c.phase == 2)).length
     else if k = Term.mcRefs then s.sumFrames (fun f => f.part == part) (·.refs)
     else if k = Term.inPipeline then (s.frames.filter (fun f => f.part == part && !f.final && f.stage != 3)).length
     else if k = Term.residentCopies then s.sumFrames (fun f => f.part == part && f.final) (·.refs)
     else s.term part k)
  else s.ledgerOf quantity part k

/-- The term is one that the pass visits (R343, R345, R346): the ZDP tags those of the island's slice, everything else those of the core. -/
def visited (island : Bool) (quantity part k : Nat) : Bool :=
  (quantity == 5) == island
    && (if part ≤ noPart then keptTerms.contains (quantity, k)
        else part == 255 && (match quantity with
          | 1 => k == 0 || k == 2 | 2 => k == 3 | 4 => k < 512 * 48 | 5 => k == 6 || k == 7 | 6 => k == 8 || k == 9
          | 7 => 10 ≤ k && k ≤ 13 | _ => false))

/-- The terms that differ at the end of a pass: what the units' own state shows, and what the operand adds. -/
def State.sweep (s : State) (island : Bool) (findings : List SweepFinding) : List SweepResult :=
  let own := if island then [] else
    ((List.range 17).flatMap (fun p => keptTerms.map (fun x => (x.1, p, x.2)))).filter (fun x => s.recount x.1 x.2.1 x.2.2 != s.ledgerOf x.1 x.2.1 x.2.2)
  let named := (findings.map (fun f => (f.quantity, f.partition, f.term))).filter (fun x => visited island x.1 x.2.1 x.2.2)
  let all := (own ++ named).eraseDups.map (fun x =>
    let fs := findings.filter (fun f => f.quantity == x.1 && f.partition == x.2.1 && f.term == x.2.2)
    { quantity := x.1, partition := x.2.1, term := x.2.2, ledger := s.ledgerOf x.1 x.2.1 x.2.2,
      found := s.recount x.1 x.2.1 x.2.2 + (fs.map (·.extra)).sum - (fs.map (·.missing)).sum,
      holder := (fs.map (·.holder)).headD 0, orphans := fs.flatMap (·.orphans) : SweepResult })
  all.filter (fun r => r.found != r.ledger)

/-- The PARTITION that a discrepancy of a term shows. -/
def shownPart (part : Nat) : Nat := if part < 16 then part else 255

/-- A difference that equals the orphans found for its term is held for confirmation (R347). -/
def SweepResult.held (r : SweepResult) : Bool :=
  [1, 2, 7].contains r.quantity && (r.ledger - r.found) + (r.found - r.ledger) == r.orphans.length

/-- A log entry whose reclaim is complete, of a quantity that the pass visits, is re-checked: RECLAIMED, or, where there is still a
discrepancy of the quantity and partition, ESCALATED. -/
def State.recheck (s : State) (island : Bool) (results : List SweepResult) (k : Nat) : State :=
  let e := s.tab Tab.tallyLog k
  match s.tab Tab.sweepWait k with
  | 0 => s
  | n + 1 =>
    if (bits e 239 232 == 5) != island then s
    else
      let s := s.setTab Tab.sweepWait k 0
      if bits e 255 240 ≠ n % 2 ^ 16 then s
      else if results.any (fun r => !r.held && r.quantity == bits e 239 232 && shownPart r.partition == bits e 231 224) then
        let s := (s.setOutcome n 2).event Reg.TALLY_CONTROL.EVENTS 4 0x1C01
        s.when (s.reg Reg.TALLY_CONTROL.ESCALATION == 1 && bits e 231 224 < 16) (·.queueFence (holder 8 (bits e 231 224)) none)
      else s.setOutcome n 1

/-- One difference at the end of the pass: held for confirmation, or a discrepancy. -/
def State.takeResult (s : State) (r : SweepResult) : State :=
  if r.held then
    s.forAll r.orphans (fun s u => s.setTab Tab.orphanHeld (r.quantity * 2 ^ 32 + u % 2 ^ 32)
      (r.partition + 1 + r.term % 2 ^ 32 * 2 ^ 16 + r.ledger % 2 ^ 32 * 2 ^ 48 + r.found % 2 ^ 32 * 2 ^ 80))
  else s.discrepancy r.quantity (shownPart r.partition) (namedHolder r.quantity (shownPart r.partition) r.holder) r.ledger r.found 1

/-- SWEEP_PASS_END: a pass of the core's sweep, which runs with VDD_CORE and is counted, or of the island's slice. What the last pass held
and this one has not confirmed is held no more. -/
def execSweepPassEnd (report : SweepReport) (env : StartEnv) (s : State) : Next :=
  let island := report.island
  if !island && !s.coreOn then .next s
  else
    let results := s.sweep island report.findings
    let s := s.when (!island) (fun s => (s.bump Reg.TALLY_CONTROL.SWEEP_PASSES 64).clearTab Tab.orphanHeld)
    let s := s.forAll (List.range 16) (fun s k => s.recheck island results k)
    State.done ((s.forAll results State.takeResult).applyFences.settleFatal env)

/-- An orphan is made free, and the reclaim reported: a term that had counted the unit counts it no more; where the ledger already counted
it free, no term changes (R351). -/
def State.reclaimOrphan (s : State) (quantity part k unit : Nat) : State :=
  if part ≤ noPart then s.setTab Tab.ledger (part * 32 + k) (s.term part k - 1)
  else if quantity = 7 ∧ k ≠ 10 then s.setTab Tab.jobState unit 0
  else s

/-- ORPHAN_CONFIRMED (R347, R351): the pass after the one that held the unit finds it still in no term, and no report has touched it. A
discrepancy with holder NONE, whose fence ends at once. -/
def execOrphanConfirmed (quantity unit : Nat) (env : StartEnv) (s : State) : Next :=
  let e := s.tab Tab.orphanHeld (quantity * 2 ^ 32 + unit)
  if e = 0 ∨ 2 ^ 28 ≤ unit then .next s
  else
    let n := s.reg Reg.TALLY_CONTROL.DISCREPANCIES
    let part := e % 2 ^ 16 - 1
    let s := s.setTab Tab.orphanHeld (quantity * 2 ^ 32 + unit) 0
    let s := s.discrepancy quantity (shownPart part) (holder 0 unit) (bits e 79 48) (bits e 111 80) 1
    if s.tab Tab.fatal 1 = 1 then State.done (s.settleFatal env)
    else
      let s := (s.event Reg.TALLY_CONTROL.EVENTS 1 0x1C01).event Reg.TALLY_CONTROL.EVENTS 2 0x1C01
      let s := (s.bump Reg.TALLY_CONTROL.ORPHANS_RECLAIMED 64).bump Reg.TALLY_CONTROL.UNITS_RECLAIMED 64
      State.done (((s.reclaimOrphan quantity part (bits e 47 16) unit).setUnits n 1).settleFatal env)

/-! ### Leases (R353) -/

/-- The lease time and action of a holder, and that it holds what the lease watches; none for a holder without a lease. -/
def State.leaseOf (s : State) (h : Nat) : Option (Nat × Nat) :=
  let i := holderInst h
  if !holderOk h then none
  else if holderKind h = 2 ∧ (s.copies.any (fun c => c.port == i / 16 && c.queue == i % 16 && c.phase != 2)) = true then
    some (s.reg Reg.LEASES.QUEUE_LEASE_MS, s.reg Reg.LEASES.QUEUE_ACTION)
  else if holderKind h = 4 ∧ s.portKind i = 2 ∧ s.reg (Reg.PORT.DALZAN_STATE i) = 2 then
    some (s.reg Reg.LEASES.DALZAN_LEASE_MS, s.reg Reg.LEASES.DALZAN_ACTION)
  else if holderKind h = 5 ∧ s.misc i 4 ≠ 0 then some (s.reg Reg.LEASES.BENCH_LEASE_MS, s.reg Reg.LEASES.BENCH_ACTION)
  else none

/-- The partition that a holder's log entry names. -/
def State.holderPart (s : State) (h : Nat) : Nat :=
  let i := holderInst h
  let p := s.portPart (if holderKind h = 2 then i / 16 else if holderKind h = 5 then 514 + i else i)
  if p < 16 then p else 255

/-- LEASE_EXPIRED: the holder has made no progress for its lease time. The spec states no LEDGER and FOUND of such an entry: they are
free. -/
def execLeaseExpired (holder : Nat) (s : State) : Next :=
  match s.leaseOf holder with
  | none => .next s
  | some (0, _) => .next s
  | some (_, action) =>
    let n := s.reg Reg.TALLY_CONTROL.DISCREPANCIES
    let ledger := s.freeBelow (2 ^ 32)
    let s := s.drew
    let found := s.freeBelow (2 ^ 32)
    let s := (s.drew.logTally 0 (s.holderPart holder) holder ledger found 2 0).event Reg.TALLY_CONTROL.EVENTS 3 0x1C01
    State.done (s.when (action == 1) (fun s => (s.queueFence holder (some n)).applyFences))

/-! ### Epochs and snapshots (R355, R356) -/

/-- A ledger epoch begins (R49, R355): opening balances, and every other frame-count term of R49 at 0. -/
def State.beginEpoch (s : State) : State :=
  let s := s.forAll (List.range 17) (fun s p =>
    let s := (s.setTab Tab.ledger (p * 32 + Term.accepted) (s.term p Term.inPipeline)).setTab Tab.ledger (p * 32 + Term.admittedCopies)
      (s.term p Term.residentCopies)
    s.forAll [Term.wholeDrops, Term.admittedFrames, Term.transmitted, Term.lateDrops] (fun s k => s.setTab Tab.ledger (p * 32 + k) 0))
  s.setReg Reg.TALLY_CONTROL.EPOCH_TIME s.stamp

/-- The effect of a write to EPOCH_START. -/
def epochEffect (v : Nat) (s : State) : Res := Res.done (s.when (v == 1) (·.beginEpoch))

/-- EPOCH_START (R355). -/
def execEpochStart (w : SessionNo) (s : State) : Next := (s.hostWrite w 0x4800 0x03 1 (epochEffect 1)).next

/-- FENCE_STATE of a partition (R356). -/
def State.fenceState (s : State) (h : Nat) : Nat := match s.fences.find? (fun f => f.holder == h) with | none => 0 | some f => f.state

/-- Every ledger is latched. -/
def State.latchLedgers (s : State) : State :=
  let t := s.forAll (List.range 16) (fun t p =>
    let t := t.forAll (List.range 13) (fun t k => t.setTab Tab.ledgerSnap (p * 32 + k) (s.term p k))
    (t.setTab Tab.ledgerSnap (p * 32 + 13) (s.fenceState (holder 8 p))).setTab Tab.ledgerSnap (p * 32 + 14) (s.term p Term.discrepancies))
  let t := t.forAll (s.deviceLedger.zipIdx) (fun t x => t.setTab Tab.ledgerSnap (17 * 32 + x.2) x.1)
  t.setReg Reg.TALLY_CONTROL.SNAP_TIME s.stamp

/-- The effect of a write to SNAPSHOT. -/
def snapshotEffect (v : Nat) (s : State) : Res := Res.done (s.when (v == 1) (·.latchLedgers))

/-- SNAPSHOT (R356). -/
def execSnapshot (w : SessionNo) (s : State) : Next := (s.hostWrite w 0x4800 0x04 1 (snapshotEffect 1)).next

end Sys2Proof.Machine
end

