-- ==== Sys2Proof/Machine/Zdp.lean ====
section
/-!
DEFINITION. The Zilmor Dictionary Protocol (R55 to R92): the checks of a request in the order of R79, sessions and tags, the replay
cache, the ten operations and their replies, and a write of a register by itself.
-/
namespace Sys2Proof.Machine

/-! ### The effect of a write -/

/-- The effect of a write of `v` to (`idx`, `sub`) by a host's session, once it has passed the checks of R79. -/
def fullEffect (session idx sub v sets : Nat) (s : State) : Res :=
  if idx = 0x0020 ∧ sub = 0x01 then configCommandEffect v s
  else if idx = 0x0200 ∧ sub = 0x08 then presenceCloseEffect v s
  else if idx = 0x0210 ∧ sub = 0x02 then lifecycleEffect v s
  else if 0x0220 ≤ idx ∧ idx < 0x0224 ∧ sub = 0x03 then publicEffect (idx - 0x0220) v s
  else if 0x0220 ≤ idx ∧ idx < 0x0224 ∧ sub = 0x05 then revokeEffect (idx - 0x0220) v s
  else if idx = 0x0450 ∧ sub = 0x08 then thermtripClearEffect v s
  else if idx = 0x0500 ∧ sub = 0x01 then startupCommandEffect v s
  else if idx = 0x0500 ∧ sub = 0x02 then protectedWriteEffect v s
  else if idx = 0x0500 ∧ sub = 0x0D then clearBreachEffect v s
  else if idx = 0x0510 ∧ sub = 0x05 then clearPersistedEffect v s
  else if idx = 0x0520 ∧ sub = 0x05 then firmwareCommandEffect v s
  else if idx = 0x4800 ∧ sub = 0x03 then epochEffect v s
  else if idx = 0x4800 ∧ sub = 0x04 then snapshotEffect v s
  else if idx = 0x4840 ∧ sub = 0x01 then fenceEffect v s
  else if idx = 0x4840 ∧ sub = 0x02 then unfenceEffect v s
  else if idx = 0x4840 ∧ sub = 0x03 then queryEffect v s
  else if idx = 0x9400 ∧ sub = 0x02 then wipeEffect v s
  else regEffect false session idx sub v sets s

/-- The effect of a BLOCK_WRITE to a sub-index of row `r`. -/
def fullBlockEffect (session idx sub off : Nat) (data : Bytes) (r : Sub) (s : State) : Res :=
  if idx = 0x0020 ∧ sub = 0x0D then importEffect off data s
  else if idx = 0x0520 ∧ sub = 0x04 then firmwareImportEffect off data s
  else blockEffect session idx sub off data r (fun v => fullEffect session idx sub v 0) s

/-! ### Operations on an object: steps 5 to 13 of R79 -/

/-- A Broddar diagnostic object (R5): in the ranges of step 5, of contents that the spec does not describe. -/
def isDiagnostic (idx : Nat) : Bool := 0xF000 ≤ idx && idx < 0x10000

/-- What an operation on a diagnostic object answers: free, from steps 8 to 13; no other object changes. -/
def State.diagnosticAnswer (s : State) (a : Asker) (op idx sub : Nat) : Res :=
  if s.modeRefuses op idx sub then Res.fail s Code.standbyUnavailable
  else if !s.allowed a op idx then Res.fail (s.denied a idx) Code.hostNotAllowed
  else
    let (code, detail, v) := Config.diagnostic s.freeCtr
    let data := if isWriteOp op || code % 256 != 0 then [] else toBE (v % 8193) (v / 8193)
    { Res.fail s.drew (code % 256) (detail % 65536) with data := data }

/-- The checks of steps 5 to 11, and then `f` of the object and the row. -/
def State.onObject (s : State) (a : Asker) (op idx sub : Nat) (f : Obj → Sub → Res) : Res :=
  if isDiagnostic idx then s.diagnosticAnswer a op idx sub
  else match s.checkObject a op idx sub with | .refuse res => res | .pass o r => f o r

/-- The DETAIL of a field that R63 requires to be 0. -/
def State.badField (s : State) : Res := Res.fail s Code.range Detail.badField

/-- A job's result record that is not there, or not complete (R88, R405). -/
def State.jobRefuses (s : State) (idx sub : Nat) : Option Nat :=
  if 0x8C00 ≤ idx ∧ idx < 0x8D00 ∧ 1 ≤ sub ∧ sub ≤ 16 then
    match s.tab Tab.jobState ((idx - 0x8C00) * 16 + sub - 1) with
    | 0 => some Code.noObject
    | 1 => some Code.notReady
    | 2 => some Code.notReady
    | _ => none
  else none

/-- The value of a sub-index as an operation reads it. -/
def State.readValue (s : State) (session idx sub : Nat) (r : Sub) : Nat := if sub = 0 then r.dflt else s.value session idx sub

/-- Steps 12 and 13 of a read: the answer `f`, unless the block is in reset or the job's record is not there. -/
def State.performRead (s : State) (op idx sub : Nat) (f : Res) : Res :=
  if f.code = Code.range then f
  else if s.blockInReset op idx sub then Res.fail s Code.busyRetry Detail.blockInReset
  else match s.jobRefuses idx sub with | some c => Res.fail s c | none => f

/-- READ of a sub-index (R63, R66, R99). -/
def State.readObject (s : State) (a : Asker) (q : Request) : Res :=
  s.onObject a Zop.read q.index q.sub (fun _ r =>
    if q.length ≠ 0 ∨ q.arg ≠ 0 then s.badField
    else if s.reg Reg.ZDP_CONFIG.MAX_DATA < r.ty.size then Res.fail s Code.length Detail.overMaxData
    else s.performRead Zop.read q.index q.sub
      { Res.done (s.valueDrawn q.index q.sub) with data := toBE r.ty.size (s.readValue a.session q.index q.sub r) })

/-- `n` bytes of an OCTETS sub-index from byte `off` on. -/
def State.readBlock (s : State) (session idx sub off n : Nat) (r : Sub) : Bytes :=
  if idx = 0x0020 ∧ sub = 0x0C then
    let b := (((s.newestImage).getD []).drop off).take n
    b ++ List.replicate (n - b.length) 0
  else toBE n (octetsAt r.ty.size (s.readValue session idx sub r) off n)

/-- BLOCK_READ (R63, R64, R66); LIVE and STAGE of a window are read over the session's range (R111). -/
def State.blockReadObject (s : State) (a : Asker) (q : Request) : Res :=
  s.onObject a Zop.blockRead q.index q.sub (fun o r =>
    match s.blockRefuses r q.arg q.length with
    | some (c, d) => Res.fail s c d
    | none =>
      s.performRead Zop.blockRead q.index q.sub
        (if o.win.isSome ∧ (q.sub = 0x08 ∨ q.sub = 0x09) then windowReadEffect a.session q.index q.arg q.length (q.sub == 0x08) s
         else { Res.done (s.valueDrawn q.index q.sub) with data := s.readBlock a.session q.index q.sub q.arg q.length r }))

/-- A write of `v` whose class, type and length have passed (R97, R99, R100). -/
def State.writeValue (s : State) (session idx sub v sets : Nat) (r : Sub) : Res :=
  if valueRefuses r v then Res.fail s Code.range
  else s.performWrite Zop.write idx sub r (fullEffect session idx sub v sets)

/-- WRITE of a sub-index (R63, R66, R99). -/
def State.writeObject (s : State) (a : Asker) (q : Request) : Res :=
  s.onObject a Zop.write q.index q.sub (fun _ r =>
    if q.arg ≠ 0 then s.badField
    else if s.reg Reg.ZDP_CONFIG.MAX_DATA < r.ty.size then Res.fail s Code.length Detail.overMaxData
    else if q.length ≠ r.ty.size then Res.fail s Code.length
    else s.writeValue a.session q.index q.sub (ofBE q.data) 0 r)

/-- BLOCK_WRITE (R63, R64, R66). -/
def State.blockWriteObject (s : State) (a : Asker) (q : Request) : Res :=
  s.onObject a Zop.blockWrite q.index q.sub (fun _ r =>
    match s.blockRefuses r q.arg q.length with
    | some (c, d) => Res.fail s c d
    | none => s.performWrite Zop.blockWrite q.index q.sub r (fullBlockEffect a.session q.index q.sub q.arg q.data r))

/-- WINDOW_COMMIT (R65, R66, R112). -/
def State.commitObject (s : State) (a : Asker) (q : Request) (posts : List (Nat × Nat)) (lost : List Nat) : Res :=
  s.onObject a Zop.windowCommit q.index q.sub (fun o _ =>
    if o.win.isNone then Res.fail s Code.typeMismatch
    else if q.sub ≠ 0 ∨ q.length ≠ 0 ∨ q.arg ≠ 0 then s.badField
    else
      let res := windowCommitEffect a.session q.index posts lost s
      if s.blockInReset Zop.windowCommit q.index q.sub then Res.fail s Code.busyRetry Detail.blockInReset else res)

/-! ### Operations that name no object (R63, R87, R89) -/

/-- Steps 5 to 7 and the zero fields of step 12 for an operation that names no object, and then `f`. -/
def State.onNone (s : State) (a : Asker) (op : Nat) (q : Request) (f : Res) : Res :=
  if !inRanges q.index then Res.fail s Code.noObject
  else if s.modeRefuses op q.index q.sub then Res.fail s Code.standbyUnavailable
  else if !s.allowed a op q.index then Res.fail (s.denied a q.index) Code.hostNotAllowed
  else if q.index ≠ 0 ∨ q.sub ≠ 0 ∨ q.length ≠ 0 then s.badField
  else f

/-- RELEASE (R89, R405). -/
def State.releaseJob (s : State) (a : Asker) (q : Request) : Res :=
  s.onNone a Zop.release q (
    let k := q.arg % 4096
    if s.blockInReset Zop.release 0 0 then Res.fail s Code.busyRetry Detail.blockInReset
    else if jobSeq (s.tab Tab.jobDesc k) ≠ q.arg ∨ s.tab Tab.jobState k = 0 then Res.fail s Code.ok Detail.alreadyReleased
    else if s.tab Tab.jobState k = 3 then
      Res.done (s.forAll [Tab.jobState, Tab.jobDesc, Tab.jobOrder, Tab.jobRecord] (fun s t => s.setTab t k 0))
    else Res.fail s Code.notReady)

/-- PING (R63). -/
def State.ping (s : State) (a : Asker) (q : Request) : Res :=
  s.onNone a Zop.ping q (if q.arg ≠ 0 then s.badField else Res.done s)

/-! ### Sessions, tags and the replay cache: steps 1 to 4 (R62, R67 to R73) -/

/-- The host of a request. -/
def askerOf (q : Request) : Asker := ⟨q.session, q.port.val, q.addrKind, q.addr⟩

/-- The request names an open session that is bound to its sender (R69). -/
def State.sessionOf (s : State) (q : Request) : Bool :=
  q.session < 16 && s.reg (Reg.SESSION.STATE q.session) == 1 && s.reg (Reg.SESSION.PORT q.session) == q.port.val
    && s.reg (Reg.SESSION.ADDR_KIND q.session) == q.addrKind && s.reg (Reg.SESSION.HOST_ADDR q.session) == q.addr

/-- The operation is read-type (R63). -/
def readType (op : Nat) : Bool := op == Zop.read || op == Zop.blockRead || op == Zop.parkedWatch || op == Zop.ping

/-- SEQ `a` is newer than `b` (R73). -/
def seqNewer (a b : Nat) : Bool := let d := subMod 32 a b; 1 ≤ d && d < 2 ^ 31

/-- The replay-cache entry of a tag; none, it is EMPTY. -/
def State.cacheEntry (s : State) (session tag : Nat) : Option CacheEntry :=
  s.zdp.cache.find? (fun e => e.session == session && e.tag == tag)

/-- The entry of its tag replaced or made. -/
def State.putEntry (s : State) (e : CacheEntry) : State :=
  { s with zdp := { s.zdp with cache := s.zdp.cache.filter (fun x => x.session != e.session || x.tag != e.tag) ++ [e] } }

/-- The outcome of steps 1 to 4: the request goes no further, or is in flight on its tag. -/
inductive Entry where
  | stop (s : State)
  | go (s : State)

/-- What waits of a request of the fabric carriage: all but the fault that it may meet. -/
def waitingRequest (op : Nat) (q : Request) : Nat × Request := (op, { q with internal := false })

/-- A request is received: its frame is counted at a host port; one that came through port 642 waits there no longer. -/
def State.received (s : State) (op : Nat) (q : Request) : State :=
  if fabricRequest q then { s with zdp := { s.zdp with arrived := s.zdp.arrived.erase (waitingRequest op q) } }
  else s.macReceived q.port (requestLen q)

/-- A request is received and its header is valid: counted (R60, R92). RETRY counts only in a request that passes step 1 (log entry 68). -/
def State.accepted (s : State) (op : Nat) (q : Request) : State :=
  ((s.received op q).bump Reg.ZDP_STATISTICS.RX_ACCEPTED 64).when (bit q.verFlags 0) (·.bump Reg.ZDP_STATISTICS.RETRY_FLAGGED 64)

/-- A request can come in: at a host port that is UP, in a carriage that the device accepts (R26, R55), or through port 642, where it has
been checked as it arrived (R59). -/
def State.hears (s : State) (op : Nat) (q : Request) : Bool :=
  if fabricRequest q then s.zdp.arrived.contains (waitingRequest op q) else s.portUp q.port && s.isZdp q

/-- Step 1 (R55, R58, R59, R62). -/
def State.stepOne (s : State) (op : Nat) (q : Request) : Entry :=
  if !s.hears op q then .stop s
  else if !validRequest q op then .stop ((s.received op q).bump Reg.ZDP_STATISTICS.RX_MALFORMED 64)
  else .go (s.accepted op q)

/-- The entry of a request that is in flight. -/
def newEntry (op : Nat) (q : Request) : CacheEntry :=
  { session := q.session, tag := q.tag, done := false, seq := q.seq, op := op, index := q.index, sub := q.sub, result := 0,
    detail := 0, resv := false }

/-- Steps 2 to 4 (R69, R73). A tag whose operation is not done again is in flight too until the reply has been handed over (R70): its entry
keeps the result. -/
def State.takeTag (s : State) (op : Nat) (q : Request) : Entry :=
  if !s.sessionOf q then .stop (s.reply q op Code.hostNotAllowed 0 Detail.noSession [] q.session false)
  else
    let s := s.setTab Tab.marks q.session s.clock.island
    let base := s.reg (Reg.SESSION.TAG_BASE q.session)
    if q.tag < base ∨ base + s.reg (Reg.SESSION.TAG_COUNT q.session) ≤ q.tag then
      .stop (s.reply q op Code.range 0 Detail.tagOutOfRange [] q.session false)
    else
      match s.cacheEntry q.session q.tag with
      | none => .go (s.putEntry (newEntry op q))
      | some e =>
        if !e.done then
          (if q.seq = e.seq then .stop (s.bump Reg.ZDP_STATISTICS.RX_DUPLICATE 64)
           else .stop (s.reply q op Code.busyRetry 0 Detail.tagInFlight [] q.session false))
        else if q.seq = e.seq then
          (if op ≠ e.op ∨ q.index ≠ e.index ∨ q.sub ≠ e.sub then
             .stop ((s.putEntry { e with done := false }).reply q op Code.range 0 Detail.seqReused [] q.session true)
           else if readType op then .go (s.putEntry (newEntry op q))
           else .stop (((s.putEntry { e with done := false }).bump Reg.ZDP_STATISTICS.REPLAYED 64).reply q op e.result (1 + 8 * ofBool e.resv)
             e.detail [] q.session true))
        else if seqNewer q.seq e.seq then .go (s.putEntry (newEntry op q))
        else .stop (s.bump Reg.ZDP_STATISTICS.RX_STALE 64)

/-- The operation is complete: its entry keeps the result, and the reply is formed; the tag stays in flight until the reply has been
handed over (R70). -/
def State.finish (op : Nat) (q : Request) (r : Res) : State :=
  let e := { newEntry op q with result := r.code, detail := r.detail, resv := r.resv }
  (r.st.putEntry e).reply q op r.code (8 * ofBool r.resv) r.detail r.data q.session true

/-- The management controller meets an internal fault on a request (R80): logged as ZDP_INTERNAL (R559), and nothing is performed. -/
def State.internalFault (s : State) (op : Nat) (q : Request) : Res :=
  Res.fail (s.logFault 0x07 0 0 0xFFFF 0xFF (faultData 8 (q.session * 2 ^ 48 + q.tag * 2 ^ 32 + op * 2 ^ 24 + q.index * 2 ^ 8 + q.sub)))
    Code.internal

/-- What an operation answers: `r`, unless the management controller meets an internal fault on it. -/
def State.unlessInternal (s : State) (op : Nat) (q : Request) (r : Res) : Res := if q.internal then s.internalFault op q else r

/-- Steps 1 to 4, and then the operation `run`. -/
def State.request (s : State) (op : Nat) (q : Request) (run : State → State) : Next :=
  match s.stepOne op q with
  | .stop s => State.done s
  | .go s =>
    match s.takeTag op q with
    | .stop s => State.done s
    | .go s => State.done (if q.internal then State.finish op q (s.internalFault op q) else run s)

/-- A request without a session (R70, R79): at most 16 are handled at once. -/
def State.sessionlessRequest (s : State) (op : Nat) (q : Request) (run : State → State) : Next :=
  match s.stepOne op q with
  | .stop s => State.done s
  | .go s =>
    if 16 ≤ s.zdp.sessionless then State.done (s.bump Reg.ZDP_STATISTICS.BUSY_REPLIES 64)
    else State.done (run ({ s with zdp := { s.zdp with sessionless := s.zdp.sessionless + 1 } } : State))

/-! ### The ten operations -/

/-- READ (R63). -/
def execRead (q : Request) (s : State) : Next :=
  s.request Zop.read q (fun s => State.finish Zop.read q (s.readObject (askerOf q) q))

/-- A setting of ZDP_CONFIG that a write is about to change stays in effect until the reply has been sent (R92). -/
def State.holdSetting (s : State) (idx sub : Nat) : State :=
  s.when (idx == 0x0100 && 1 ≤ sub && sub ≤ 6 && s.tab Tab.zdpHeld sub == 0) (·.setTab Tab.zdpHeld sub (s.reg (regKey idx sub) + 1))

/-- The write has made an ISLAND_RESET due: it waits until the reply has been handed over (R550). -/
def State.afterReply (s : State) (q : Request) : State :=
  s.when (q.index == 0x0500 && q.sub == 0x02 && s.tab Tab.islandReset 1 == 1) (fun s =>
    (s.setTab Tab.islandReset 1 0).setTab Tab.islandReset 0 (q.session * 4096 + q.tag + 3))

/-- WRITE (R63). -/
def execWrite (q : Request) (s : State) : Next :=
  s.request Zop.write q (fun s => (State.finish Zop.write q ((s.holdSetting q.index q.sub).writeObject (askerOf q) q)).afterReply q)

/-- BLOCK_READ (R63). -/
def execBlockRead (q : Request) (s : State) : Next :=
  s.request Zop.blockRead q (fun s => State.finish Zop.blockRead q (s.blockReadObject (askerOf q) q))

/-- BLOCK_WRITE (R63). -/
def execBlockWrite (q : Request) (s : State) : Next :=
  s.request Zop.blockWrite q (fun s => State.finish Zop.blockWrite q ((s.holdSetting q.index q.sub).blockWriteObject (askerOf q) q))

/-- WINDOW_COMMIT (R65). -/
def execWindowCommit (q : Request) (posts : List (Nat × Nat)) (lost : List Nat) (s : State) : Next :=
  s.request Zop.windowCommit q (fun s => State.finish Zop.windowCommit q (s.commitObject (askerOf q) q posts lost))

/-- A watch parks (R87). -/
def State.park (s : State) (q : Request) : State :=
  let s : State := { s with zdp := { s.zdp with watches := s.zdp.watches ++ [{ q := q, seen := q.arg % 65536, timeoutMs := q.arg / 65536 }] } }
  s.bump Reg.ZDP_STATISTICS.WATCHES_PARKED 8

/-- PARKED_WATCH (R87). -/
def execParkedWatch (q : Request) (s : State) : Next :=
  s.request Zop.parkedWatch q (fun s =>
    let r := s.onNone (askerOf q) Zop.parkedWatch q (Res.done s)
    if r.code = Code.ok ∧ q.arg % 65536 = s.attn.seq then
      (if 64 ≤ s.zdp.watches.length then State.finish Zop.parkedWatch q (Res.fail s Code.busyRetry Detail.watchesFull)
       else s.park q)
    else State.finish Zop.parkedWatch q r)

/-- RELEASE (R89). -/
def execRelease (q : Request) (s : State) : Next :=
  s.request Zop.release q (fun s => State.finish Zop.release q (s.releaseJob (askerOf q) q))

/-- PING (R63): without a session, or as an operation of one. -/
def execPing (q : Request) (s : State) : Next :=
  if q.session = 0xFFFF then
    s.sessionlessRequest Zop.ping q (fun s =>
      let r := s.unlessInternal Zop.ping q (s.ping (askerOf q) q)
      r.st.reply q Zop.ping r.code 0 r.detail [] q.session true)
  else s.request Zop.ping q (fun s => State.finish Zop.ping q (s.ping (askerOf q) q))

/-- Block `b` of 64 tags belongs to no session. -/
def State.blockFree (s : State) (b : Nat) : Bool :=
  (List.range 16).all (fun n => s.reg (Reg.SESSION.STATE n) == 0
    || decide (64 * b + 64 ≤ s.reg (Reg.SESSION.TAG_BASE n)) || decide (s.reg (Reg.SESSION.TAG_BASE n) + s.reg (Reg.SESSION.TAG_COUNT n) ≤ 64 * b))

/-- The first run of `k` free blocks. -/
def State.freeRun (s : State) (k : Nat) : Option Nat :=
  (List.range (65 - k)).find? (fun b => (List.range k).all (fun i => s.blockFree (b + i)))

/-- The longest run of free blocks of at most `k` blocks, the lowest such: its first block and its length (R67). -/
def State.grantRun (s : State) : Nat → Option (Nat × Nat)
  | 0 => none
  | k + 1 => match s.freeRun (k + 1) with | some b => some (b, k + 1) | none => s.grantRun k

/-- Sessions that are closed. -/
def State.closedSessions (s : State) : List Nat := (List.range 16).filter (fun n => s.reg (Reg.SESSION.STATE n) == 0)

/-- The open session of the host whose OPEN carried the same SEQ (R68). -/
def State.sameOpen (s : State) (q : Request) : Option Nat :=
  (List.range 16).find? (fun n => s.sessionOf { q with session := n } && s.reg (Reg.SESSION.OPEN_SEQ n) == q.seq)

/-- Session `n` opens with a grant (R67): no windows ranges and no latches are its own yet. -/
def State.openAs (s : State) (q : Request) (n first count : Nat) : State :=
  let s := (s.setReg (Reg.SESSION.STATE n) 1).setReg (Reg.SESSION.PORT n) q.port.val
  let s := (s.setReg (Reg.SESSION.ADDR_KIND n) q.addrKind).setReg (Reg.SESSION.HOST_ADDR n) q.addr
  let s := (s.setReg (Reg.SESSION.TAG_BASE n) (64 * first)).setReg (Reg.SESSION.TAG_COUNT n) (64 * count)
  let s := ((s.setReg (Reg.SESSION.OPEN_SEQ n) q.seq).setTab Tab.marks n s.clock.island).clearRanges n
  ((s.dropLatch n).dropHistLatch n 0xA300).dropHistLatch n 0xA310

/-- The data of an OPEN reply. -/
def State.grantData (s : State) (n : Nat) : Bytes :=
  toBE 2 n ++ toBE 2 (s.reg (Reg.SESSION.TAG_BASE n)) ++ toBE 2 (s.reg (Reg.SESSION.TAG_COUNT n)) ++ [0, 0]

/-- What OPEN answers: the state, result, flags, detail and the granted session. Which of the closed sessions is granted is free. -/
def State.openResult (s : State) (q : Request) : Res × Nat × Nat :=
  if q.arg % 64 ≠ 0 ∨ q.arg = 0 ∨ 4096 < q.arg then (Res.fail s Code.range, 0, q.session)
  else
    match s.sameOpen q with
    | some n => ({ Res.done s with data := s.grantData n }, 1, n)
    | none =>
      match s.grantRun (q.arg / 64) with
      | none => (Res.fail s Code.busyRetry Detail.noTags, 0, q.session)
      | some (first, count) =>
        let free := s.closedSessions
        if free.isEmpty then (Res.fail s Code.busyRetry Detail.sessionsFull, 0, q.session)
        else
          let n := free.getD (s.freeBelow free.length) 0
          let s := s.drew.openAs q n first count
          ({ Res.done s with data := s.grantData n }, 0, n)

/-- OPEN (R63, R67, R68). -/
def execOpenSession (q : Request) (s : State) : Next :=
  if q.session ≠ 0xFFFF then
    match s.stepOne Zop.openOp q with
    | .stop s => State.done s
    | .go s => State.done (s.reply q Zop.openOp Code.range 0 Detail.badField [] q.session false)
  else
    s.sessionlessRequest Zop.openOp q (fun s =>
      let c := s.unlessInternal Zop.openOp q (s.onNone (askerOf q) Zop.openOp q (Res.done s))
      if c.code = Code.ok then
        let (r, flags, n) := s.openResult q
        r.st.reply q Zop.openOp r.code flags r.detail r.data n true
      else c.st.reply q Zop.openOp c.code 0 c.detail [] q.session true)

/-- CLOSE (R71): the session starts closing; SESSION_CLOSE_COMPLETE answers it. -/
def execClose (q : Request) (s : State) : Next :=
  s.request Zop.close q (fun s =>
    let r := s.onNone (askerOf q) Zop.close q (if q.arg ≠ 0 then s.badField else Res.done s)
    if r.code = Code.ok then
      let s : State := { s with zdp := { s.zdp with closes := s.zdp.closes ++ [q] } }
      s.beginClose q.session
    else State.finish Zop.close q r)

/-! ### A write of a register by itself -/

/-- What the runtime of the management controller writes (R299, R308): the servo's registers of the time unit, and the peer delays. -/
def State.runtimeWrite (s : State) (idx sub v : Nat) : State :=
  match Dict.lookup idx with
  | none => s
  | some o =>
    match o.row sub with
    | none => s
    | some r =>
      if valueRefuses r v then s
      else if idx = 0x6000 ∧ (sub = 0x08 ∨ sub = 0x09 ∨ sub = 0x0A ∨ sub = 0x0B) then (regEffect true 0xFF idx sub v 0 s).st
      else if o.idx = 0x6100 ∧ sub = 0x03 then s.setReg (regKey idx sub) v
      else s

/-- REGISTER_WRITE: a write of one sub-index by the host of session `w`, from step 5 of R79 on, or by the runtime. -/
def execRegisterWrite (w : Option SessionNo) (index sub value : Nat) (sets : Nat) (s : State) : Next :=
  match w with
  | none => State.done (s.runtimeWrite index sub value)
  | some w =>
    if s.reg (Reg.SESSION.STATE w) ≠ 1 then .next s
    else
      (s.onObject (s.asker w) Zop.write index sub (fun _ r =>
        if s.reg Reg.ZDP_CONFIG.MAX_DATA < r.ty.size then Res.fail s Code.length Detail.overMaxData
        else s.writeValue w index sub value sets r)).next

end Sys2Proof.Machine
end

