-- ==== Sys2Proof/Machine/Dispatch.lean ====
section
/-! DEFINITION. One arm for every command: a direct call of its meaning. -/

namespace Sys2Proof.Machine

def exec (i : Instr) (s : State) : Host.Outcome State Fault Refusal :=
  match i with
  | .read q => Sys2Proof.Machine.execRead q s
  | .write q => Sys2Proof.Machine.execWrite q s
  | .blockRead q => Sys2Proof.Machine.execBlockRead q s
  | .blockWrite q => Sys2Proof.Machine.execBlockWrite q s
  | .windowCommit q posts lost => Sys2Proof.Machine.execWindowCommit q posts lost s
  | .parkedWatch q => Sys2Proof.Machine.execParkedWatch q s
  | .release q => Sys2Proof.Machine.execRelease q s
  | .ping q => Sys2Proof.Machine.execPing q s
  | .openSession q => Sys2Proof.Machine.execOpenSession q s
  | .close q => Sys2Proof.Machine.execClose q s
  | .sessionCloseComplete n => Sys2Proof.Machine.execSessionCloseComplete n s
  | .sessionIdleTimeout n => Sys2Proof.Machine.execSessionIdleTimeout n s
  | .watchTimeout n tag => Sys2Proof.Machine.execWatchTimeout n tag s
  | .forceClose w n => Sys2Proof.Machine.execForceClose w n s
  | .zdpArpRequest h v6 target who => Sys2Proof.Machine.execZdpArpRequest h v6 target who s
  | .registerWrite w index sub value sets => Sys2Proof.Machine.execRegisterWrite w index sub value sets s
  | .save w => Sys2Proof.Machine.execSave w s
  | .saveDone verified => Sys2Proof.Machine.execSaveDone verified s
  | .restore w => Sys2Proof.Machine.execRestore w s
  | .restoreDone => Sys2Proof.Machine.execRestoreDone s
  | .clearSaved w => Sys2Proof.Machine.execClearSaved w s
  | .clearSavedDone => Sys2Proof.Machine.execClearSavedDone s
  | .applyDefaults w => Sys2Proof.Machine.execApplyDefaults w s
  | .acceptImport w => Sys2Proof.Machine.execAcceptImport w s
  | .importCheckDone => Sys2Proof.Machine.execImportCheckDone s
  | .importBlock w offset data => Sys2Proof.Machine.execImportBlock w offset data s
  | .stage w window offset data => Sys2Proof.Machine.execStage w window offset data s
  | .windowRangeWrite w window which value => Sys2Proof.Machine.execWindowRangeWrite w window which value s
  | .abort w window => Sys2Proof.Machine.execAbort w window s
  | .keyAsserted => Sys2Proof.Machine.execKeyAsserted s
  | .keyReleased => Sys2Proof.Machine.execKeyReleased s
  | .presenceWindowExpiry => Sys2Proof.Machine.execPresenceWindowExpiry s
  | .presenceClose w => Sys2Proof.Machine.execPresenceClose w s
  | .sealOpened => Sys2Proof.Machine.execSealOpened s
  | .sealClosed => Sys2Proof.Machine.execSealClosed s
  | .wipeStart => Sys2Proof.Machine.execWipeStart s
  | .wipeDone bad => Sys2Proof.Machine.execWipeDone bad s
  | .enrol w => Sys2Proof.Machine.execEnrol w s
  | .rearm w => Sys2Proof.Machine.execRearm w s
  | .decommission w => Sys2Proof.Machine.execDecommission w s
  | .returnToFactory w => Sys2Proof.Machine.execReturnToFactory w s
  | .publicKey w slot key => Sys2Proof.Machine.execPublicKey w slot key s
  | .revoke w slot => Sys2Proof.Machine.execRevoke w slot s
  | .signalDetected n => Sys2Proof.Machine.execSignalDetected n s
  | .cdrLocked n => Sys2Proof.Machine.execCdrLocked n s
  | .trainingComplete trained => Sys2Proof.Machine.execTrainingComplete trained s
  | .adaptationConverged n ctle ffe dfe ppm => Sys2Proof.Machine.execAdaptationConverged n ctle ffe dfe ppm s
  | .dataEntered n => Sys2Proof.Machine.execDataEntered n s
  | .trainingFailed n => Sys2Proof.Machine.execTrainingFailed n s
  | .bringupSignalLost n => Sys2Proof.Machine.execBringupSignalLost n s
  | .signalLost n => Sys2Proof.Machine.execSignalLost n s
  | .cdrUnlock n => Sys2Proof.Machine.execCdrUnlock n s
  | .lockLost n => Sys2Proof.Machine.execLockLost n s
  | .ucwRetrain n => Sys2Proof.Machine.execUcwRetrain n s
  | .retrain w n => Sys2Proof.Machine.execRetrain w n s
  | .farEndTraining n => Sys2Proof.Machine.execFarEndTraining n s
  | .fastRetrainTimeout n => Sys2Proof.Machine.execFastRetrainTimeout n s
  | .serAlarm n errors => Sys2Proof.Machine.execSerAlarm n errors s
  | .uncorrectedCw n => Sys2Proof.Machine.execUncorrectedCw n s
  | .shimDelete n tx fill gap => Sys2Proof.Machine.execShimDelete n tx fill gap s
  | .shimInsert n tx fill => Sys2Proof.Machine.execShimInsert n tx fill s
  | .elasticFault n tx => Sys2Proof.Machine.execElasticFault n tx s
  | .txTapWrite w n tap value => Sys2Proof.Machine.execTxTapWrite w n tap value s
  | .loopback w n value => Sys2Proof.Machine.execLoopback w n value s
  | .prbsTx w n value => Sys2Proof.Machine.execPrbsTx w n value s
  | .prbsRx w n value => Sys2Proof.Machine.execPrbsRx w n value s
  | .prbsLock n => Sys2Proof.Machine.execPrbsLock n s
  | .prbsLockLost n counted errors => Sys2Proof.Machine.execPrbsLockLost n counted errors s
  | .prbsClear w n => Sys2Proof.Machine.execPrbsClear w n s
  | .eyeStart w n eye => Sys2Proof.Machine.execEyeStart w n eye s
  | .eyeScanDone n map => Sys2Proof.Machine.execEyeScanDone n map s
  | .apply w octet => Sys2Proof.Machine.execApply w octet s
  | .linkUp p => Sys2Proof.Machine.execLinkUp p s
  | .localFault p => Sys2Proof.Machine.execLocalFault p s
  | .remoteFault p => Sys2Proof.Machine.execRemoteFault p s
  | .pause p quanta => Sys2Proof.Machine.execPause p quanta s
  | .pfc p enable times => Sys2Proof.Machine.execPfc p enable times s
  | .pfcPauseExpiry p cls => Sys2Proof.Machine.execPfcPauseExpiry p cls s
  | .pauseRepeat h => Sys2Proof.Machine.execPauseRepeat h s
  | .bypassFrameStart h => Sys2Proof.Machine.execBypassFrameStart h s
  | .dcbInitSend p => Sys2Proof.Machine.execDcbInitSend p s
  | .dcbInitReceived p octets => Sys2Proof.Machine.execDcbInitReceived p octets s
  | .dcbCreditSend p => Sys2Proof.Machine.execDcbCreditSend p s
  | .dcbCreditReceived p octets => Sys2Proof.Machine.execDcbCreditReceived p octets s
  | .creditTimeout p group => Sys2Proof.Machine.execCreditTimeout p group s
  | .linkReset w p => Sys2Proof.Machine.execLinkReset w p s
  | .frameStart p queue octets => Sys2Proof.Machine.execFrameStart p queue octets s
  | .parserStart frame octets => Sys2Proof.Machine.execParserStart frame octets s
  | .bufferAdmission frame => Sys2Proof.Machine.execBufferAdmission frame s
  | .frameTail frame octets tail => Sys2Proof.Machine.execFrameTail frame octets tail s
  | .injectPresent p => Sys2Proof.Machine.execInjectPresent p s
  | .schedulerSelection p => Sys2Proof.Machine.execSchedulerSelection p s
  | .copyTxStart p => Sys2Proof.Machine.execCopyTxStart p s
  | .copyTxEnd p => Sys2Proof.Machine.execCopyTxEnd p s
  | .aged copy => Sys2Proof.Machine.execAged copy s
  | .bankSwitch => Sys2Proof.Machine.execBankSwitch s
  | .applyStages w => Sys2Proof.Machine.execApplyStages w s
  | .refillTick => Sys2Proof.Machine.execRefillTick s
  | .portSchedWrite w p sub value => Sys2Proof.Machine.execPortSchedWrite w p sub value s
  | .unblock w policer => Sys2Proof.Machine.execUnblock w policer s
  | .pfcRefresh p cls => Sys2Proof.Machine.execPfcRefresh p cls s
  | .watchdogFired p q => Sys2Proof.Machine.execWatchdogFired p q s
  | .watchdogRecovered p q => Sys2Proof.Machine.execWatchdogRecovered p q s
  | .pauseFault p q => Sys2Proof.Machine.execPauseFault p q s
  | .hwmClear w p mask => Sys2Proof.Machine.execHwmClear w p mask s
  | .measuredOffset runtime w offset => Sys2Proof.Machine.execMeasuredOffset runtime w offset s
  | .reportTimeout => Sys2Proof.Machine.execReportTimeout s
  | .holdoverTimeout => Sys2Proof.Machine.execHoldoverTimeout s
  | .offsetAdj runtime w amount => Sys2Proof.Machine.execOffsetAdj runtime w amount s
  | .setTime runtime w time => Sys2Proof.Machine.execSetTime runtime w time s
  | .servoMode w mode => Sys2Proof.Machine.execServoMode w mode s
  | .gateListResume p => Sys2Proof.Machine.execGateListResume p s
  | .gateEdge p => Sys2Proof.Machine.execGateEdge p s
  | .listSwapped p => Sys2Proof.Machine.execListSwapped p s
  | .cancelPending w p => Sys2Proof.Machine.execCancelPending w p s
  | .removeList w p => Sys2Proof.Machine.execRemoveList w p s
  | .resvCommitApply => Sys2Proof.Machine.execResvCommitApply s
  | .resvReturnActive n => Sys2Proof.Machine.execResvReturnActive n s
  | .boundQuery w n => Sys2Proof.Machine.execBoundQuery w n s
  | .heartbeat w => Sys2Proof.Machine.execHeartbeat w s
  | .heartbeatTimeout => Sys2Proof.Machine.execHeartbeatTimeout s
  | .peerHealthyChange level => Sys2Proof.Machine.execPeerHealthyChange level s
  | .lossHoldExpiry => Sys2Proof.Machine.execLossHoldExpiry s
  | .partnerWaitExpiry => Sys2Proof.Machine.execPartnerWaitExpiry s
  | .revert w => Sys2Proof.Machine.execRevert w s
  | .role w value => Sys2Proof.Machine.execRole w value s
  | .mirrorPeriod m => Sys2Proof.Machine.execMirrorPeriod m s
  | .cbHistoryReset stream => Sys2Proof.Machine.execCbHistoryReset stream s
  | .sweepPassEnd report env => Sys2Proof.Machine.execSweepPassEnd report env s
  | .fence w holder => Sys2Proof.Machine.execFence w holder s
  | .reclaimStart => Sys2Proof.Machine.execReclaimStart s
  | .reclaimDone => Sys2Proof.Machine.execReclaimDone s
  | .unfence w holder => Sys2Proof.Machine.execUnfence w holder s
  | .leaseExpired holder => Sys2Proof.Machine.execLeaseExpired holder s
  | .epochStart w => Sys2Proof.Machine.execEpochStart w s
  | .snapshot w => Sys2Proof.Machine.execSnapshot w s
  | .signalEngineWrite pipe others => Sys2Proof.Machine.execSignalEngineWrite pipe others s
  | .staleCheck => Sys2Proof.Machine.execStaleCheck s
  | .clearWriteLost w slot lost => Sys2Proof.Machine.execClearWriteLost w slot lost s
  | .cycleGroupEnable w g => Sys2Proof.Machine.execCycleGroupEnable w g s
  | .applyTiming w g => Sys2Proof.Machine.execApplyTiming w g s
  | .cycleStart g => Sys2Proof.Machine.execCycleStart g s
  | .benchTrigger g => Sys2Proof.Machine.execBenchTrigger g s
  | .publicationRun l => Sys2Proof.Machine.execPublicationRun l s
  | .signalSnapshot w => Sys2Proof.Machine.execSignalSnapshot w s
  | .submit w descriptor => Sys2Proof.Machine.execSubmit w descriptor s
  | .cancelClass w c => Sys2Proof.Machine.execCancelClass w c s
  | .jobDispatch => Sys2Proof.Machine.execJobDispatch s
  | .benchIntStart b => Sys2Proof.Machine.execBenchIntStart b s
  | .run w b => Sys2Proof.Machine.execRun w b s
  | .halt w b => Sys2Proof.Machine.execHalt w b s
  | .benchReset w b => Sys2Proof.Machine.execBenchReset w b s
  | .benchResetClear w b => Sys2Proof.Machine.execBenchResetClear w b s
  | .runLimit b => Sys2Proof.Machine.execRunLimit b s
  | .barrierTimeout k => Sys2Proof.Machine.execBarrierTimeout k s
  | .tileStartAdmitted => Sys2Proof.Machine.execTileStartAdmitted s
  | .dictDone b lost => Sys2Proof.Machine.execDictDone b lost s
  | .benchFramePresent b => Sys2Proof.Machine.execBenchFramePresent b s
  | .execMicroword b e => Sys2Proof.Machine.execExecMicroword b e s
  | .branch b e => Sys2Proof.Machine.execBranch b e s
  | .nop b e => Sys2Proof.Machine.execNop b e s
  | .jump b e => Sys2Proof.Machine.execJump b e s
  | .call b e => Sys2Proof.Machine.execCall b e s
  | .ret b e => Sys2Proof.Machine.execRet b e s
  | .loop b e => Sys2Proof.Machine.execLoop b e s
  | .sync b e => Sys2Proof.Machine.execSync b e s
  | .trap b e => Sys2Proof.Machine.execTrap b e s
  | .loadimmSet b e => Sys2Proof.Machine.execLoadimmSet b e s
  | .loadimmShift b e => Sys2Proof.Machine.execLoadimmShift b e s
  | .add b x imm => Sys2Proof.Machine.execAdd b x imm s
  | .sub b x imm => Sys2Proof.Machine.execSub b x imm s
  | .and b x imm => Sys2Proof.Machine.execAnd b x imm s
  | .or b x imm => Sys2Proof.Machine.execOr b x imm s
  | .xor b x imm => Sys2Proof.Machine.execXor b x imm s
  | .shl b x imm => Sys2Proof.Machine.execShl b x imm s
  | .shr b x imm => Sys2Proof.Machine.execShr b x imm s
  | .sar b x imm => Sys2Proof.Machine.execSar b x imm s
  | .cmp b x imm => Sys2Proof.Machine.execCmp b x imm s
  | .mov b x imm => Sys2Proof.Machine.execMov b x imm s
  | .mul b x imm => Sys2Proof.Machine.execMul b x imm s
  | .divu b x imm => Sys2Proof.Machine.execDivu b x imm s
  | .divs b x imm => Sys2Proof.Machine.execDivs b x imm s
  | .remu b x imm => Sys2Proof.Machine.execRemu b x imm s
  | .rems b x imm => Sys2Proof.Machine.execRems b x imm s
  | .mins b x imm => Sys2Proof.Machine.execMins b x imm s
  | .maxs b x imm => Sys2Proof.Machine.execMaxs b x imm s
  | .fadd b x imm => Sys2Proof.Machine.execFadd b x imm s
  | .fsub b x imm => Sys2Proof.Machine.execFsub b x imm s
  | .fmul b x imm => Sys2Proof.Machine.execFmul b x imm s
  | .fma b x imm => Sys2Proof.Machine.execFma b x imm s
  | .fdiv b x imm => Sys2Proof.Machine.execFdiv b x imm s
  | .fsqrt b x imm => Sys2Proof.Machine.execFsqrt b x imm s
  | .fcmp b x imm => Sys2Proof.Machine.execFcmp b x imm s
  | .itof b x imm => Sys2Proof.Machine.execItof b x imm s
  | .ftoi b x imm => Sys2Proof.Machine.execFtoi b x imm s
  | .vget b x imm => Sys2Proof.Machine.execVget b x imm s
  | .vadd b x => Sys2Proof.Machine.execVadd b x s
  | .vsub b x => Sys2Proof.Machine.execVsub b x s
  | .vmul b x => Sys2Proof.Machine.execVmul b x s
  | .vfma b x => Sys2Proof.Machine.execVfma b x s
  | .vmin b x => Sys2Proof.Machine.execVmin b x s
  | .vmax b x => Sys2Proof.Machine.execVmax b x s
  | .vcmplt b x => Sys2Proof.Machine.execVcmplt b x s
  | .vsel b x => Sys2Proof.Machine.execVsel b x s
  | .vdiv b x => Sys2Proof.Machine.execVdiv b x s
  | .vsqrt b x => Sys2Proof.Machine.execVsqrt b x s
  | .vhsum b x => Sys2Proof.Machine.execVhsum b x s
  | .vbcast b x => Sys2Proof.Machine.execVbcast b x s
  | .vshuf b x => Sys2Proof.Machine.execVshuf b x s
  | .vcvti b x => Sys2Proof.Machine.execVcvti b x s
  | .vcvtf b x => Sys2Proof.Machine.execVcvtf b x s
  | .ld b x imm e => Sys2Proof.Machine.execLd b x imm e s
  | .st b x imm e => Sys2Proof.Machine.execSt b x imm e s
  | .pld b x imm e => Sys2Proof.Machine.execPld b x imm e s
  | .pst b x imm e => Sys2Proof.Machine.execPst b x imm e s
  | .pmoveIn b x imm e => Sys2Proof.Machine.execPmoveIn b x imm e s
  | .pmoveOut b x imm e => Sys2Proof.Machine.execPmoveOut b x imm e s
  | .sread b x imm e => Sys2Proof.Machine.execSread b x imm e s
  | .sgather b x imm e => Sys2Proof.Machine.execSgather b x imm e s
  | .swrite b x imm e => Sys2Proof.Machine.execSwrite b x imm e s
  | .sscatter b x imm e => Sys2Proof.Machine.execSscatter b x imm e s
  | .fsend b x imm e => Sys2Proof.Machine.execFsend b x imm e s
  | .tzero b t => Sys2Proof.Machine.execTzero b t s
  | .touter b t va vb => Sys2Proof.Machine.execTouter b t va vb s
  | .tmma b t ra rb rk e => Sys2Proof.Machine.execTmma b t ra rb rk e s
  | .tread b t row vd => Sys2Proof.Machine.execTread b t row vd s
  | .tstore b t ra e => Sys2Proof.Machine.execTstore b t ra e s
  | .cwordRead b cw reg => Sys2Proof.Machine.execCwordRead b cw reg s
  | .cwordWrite b cw value => Sys2Proof.Machine.execCwordWrite b cw value s
  | .complete b value => Sys2Proof.Machine.execComplete b value s
  | .barrier b value => Sys2Proof.Machine.execBarrier b value s
  | .raise b => Sys2Proof.Machine.execRaise b s
  | .intClaim b reg => Sys2Proof.Machine.execIntClaim b reg s
  | .intComplete b value => Sys2Proof.Machine.execIntComplete b value s
  | .dictValue b value => Sys2Proof.Machine.execDictValue b value s
  | .rxRing b value => Sys2Proof.Machine.execRxRing b value s
  | .rxHead b value => Sys2Proof.Machine.execRxHead b value s
  | .package w pipe offset data => Sys2Proof.Machine.execPackage w pipe offset data s
  | .load w pipe => Sys2Proof.Machine.execLoad w pipe s
  | .loadAbort w pipe => Sys2Proof.Machine.execLoadAbort w pipe s
  | .loadVerified pipe => Sys2Proof.Machine.execLoadVerified pipe s
  | .persistDone pipe => Sys2Proof.Machine.execPersistDone pipe s
  | .pipeWordRepair pipe nano addr clean => Sys2Proof.Machine.execPipeWordRepair pipe nano addr clean s
  | .handover w bank owner => Sys2Proof.Machine.execHandover w bank owner s
  | .bankCleared bank => Sys2Proof.Machine.execBankCleared bank s
  | .service w bank value => Sys2Proof.Machine.execService w bank value s
  | .wipe w => Sys2Proof.Machine.execWipe w s
  | .jigStart w => Sys2Proof.Machine.execJigStart w s
  | .jigStop w => Sys2Proof.Machine.execJigStop w s
  | .jigSegmentDone errors => Sys2Proof.Machine.execJigSegmentDone errors s
  | .mgmtClaim => Sys2Proof.Machine.execMgmtClaim s
  | .testRaise w source => Sys2Proof.Machine.execTestRaise w source s
  | .attnBatch c => Sys2Proof.Machine.execAttnBatch c s
  | .snap w g => Sys2Proof.Machine.execSnap w g s
  | .chainMap w value => Sys2Proof.Machine.execChainMap w value s
  | .clear w window element => Sys2Proof.Machine.execClear w window element s
  | .histSnapshot w window => Sys2Proof.Machine.execHistSnapshot w window s
  | .energyInterval => Sys2Proof.Machine.execEnergyInterval s
  | .telemetryBuild t => Sys2Proof.Machine.execTelemetryBuild t s
  | .flushTimeout t => Sys2Proof.Machine.execFlushTimeout t s
  | .watchPeriodEnd w => Sys2Proof.Machine.execWatchPeriodEnd w s
  | .refOutOfRange ppm lost settled => Sys2Proof.Machine.execRefOutOfRange ppm lost settled s
  | .rootHold => Sys2Proof.Machine.execRootHold s
  | .rootUnlock env => Sys2Proof.Machine.execRootUnlock env s
  | .crystalLost => Sys2Proof.Machine.execCrystalLost s
  | .avsStep failed => Sys2Proof.Machine.execAvsStep failed s
  | .pmbAlert rail ok status => Sys2Proof.Machine.execPmbAlert rail ok status s
  | .railSample reads => Sys2Proof.Machine.execRailSample reads s
  | .prepare w value => Sys2Proof.Machine.execPrepare w value s
  | .prepared => Sys2Proof.Machine.execPrepared s
  | .prepareFailed => Sys2Proof.Machine.execPrepareFailed s
  | .prepareLapsed => Sys2Proof.Machine.execPrepareLapsed s
  | .commit w value => Sys2Proof.Machine.execCommit w value s
  | .lockstepAbort w txn => Sys2Proof.Machine.execLockstepAbort w txn s
  | .applied => Sys2Proof.Machine.execApplied s
  | .raiseWindowEnd => Sys2Proof.Machine.execRaiseWindowEnd s
  | .reverted mv => Sys2Proof.Machine.execReverted mv s
  | .clockStretch mv => Sys2Proof.Machine.execClockStretch mv s
  | .stretchEnd mv edges => Sys2Proof.Machine.execStretchEnd mv edges s
  | .undervolt mv => Sys2Proof.Machine.execUndervolt mv s
  | .thermalSample temps calm cool lost => Sys2Proof.Machine.execThermalSample temps calm cool lost s
  | .throttleStep => Sys2Proof.Machine.execThrottleStep s
  | .thermtrip sensor reading => Sys2Proof.Machine.execThermtrip sensor reading s
  | .thermtripClear w => Sys2Proof.Machine.execThermtripClear w s
  | .railArrived supply env => Sys2Proof.Machine.execRailArrived supply env s
  | .railTimeout supply => Sys2Proof.Machine.execRailTimeout supply s
  | .islandStart byPin straps keyHeld firmwareOk => Sys2Proof.Machine.execIslandStart byPin straps keyHeld firmwareOk s
  | .islandWatchdog pc => Sys2Proof.Machine.execIslandWatchdog pc s
  | .start w => Sys2Proof.Machine.execStart w s
  | .wake w => Sys2Proof.Machine.execWake w s
  | .warmReset w => Sys2Proof.Machine.execWarmReset w s
  | .standby w => Sys2Proof.Machine.execStandby w s
  | .retain w => Sys2Proof.Machine.execRetain w s
  | .coldReset w env => Sys2Proof.Machine.execColdReset w env s
  | .islandReset w => Sys2Proof.Machine.execIslandReset w s
  | .clearBreach w => Sys2Proof.Machine.execClearBreach w s
  | .clearPersisted w => Sys2Proof.Machine.execClearPersisted w s
  | .firmwareImport w offset data => Sys2Proof.Machine.execFirmwareImport w offset data s
  | .accept w => Sys2Proof.Machine.execAccept w s
  | .firmwareCheckDone result version => Sys2Proof.Machine.execFirmwareCheckDone result version s
  | .timeClockTick => Sys2Proof.Machine.execTimeClockTick s
  | .txPllUnlock n => Sys2Proof.Machine.execTxPllUnlock n s
  | .linkFaultCleared p => Sys2Proof.Machine.execLinkFaultCleared p s
  | .pauseTimerExpiry h => Sys2Proof.Machine.execPauseTimerExpiry h s
  | .supplyOutOfRange supply => Sys2Proof.Machine.execSupplyOutOfRange supply s
  | .supplyBackInRange supply => Sys2Proof.Machine.execSupplyBackInRange supply s
  | .vauxLost => Sys2Proof.Machine.execVauxLost s
  | .coreSupplyLost => Sys2Proof.Machine.execCoreSupplyLost s
  | .orphanConfirmed quantity unit env => Sys2Proof.Machine.execOrphanConfirmed quantity unit env s
  | .benchResetDone b => Sys2Proof.Machine.execBenchResetDone b s
  | .storeScrub pipes bays => Sys2Proof.Machine.execStoreScrub pipes bays s
  | .sealSample level => Sys2Proof.Machine.execSealSample level s
  | .mgmtFrameSend octets => Sys2Proof.Machine.execMgmtFrameSend octets s

end Sys2Proof.Machine
end

