-- ==== Sys2Proof/Machine/Tick.lean ====
section
/-!
DEFINITION. A tick of the island clock, 2.5 ns (R101, R523): what happens on an empty queue (log entry 4). Every other event that time
brings is a command of its own.
-/
namespace Sys2Proof.Machine

/-- A millisecond of the presence window (R122). -/
def State.presenceMs (s : State) : State :=
  if s.reg Reg.PRESENCE.WINDOW_OPEN = 0 then s
  else
    let n := s.reg Reg.PRESENCE.REMAINING_MS - 1
    if n = 0 then s.closePresence else s.setReg Reg.PRESENCE.REMAINING_MS n

/-- The 16 cycles of the root PLL in 2.5 ns, for a bench in RUNNING or WAITING: BC_RUN and the energy interval count its whole clocks
(R399, R513, R521). -/
def State.benchTick (s : State) (b : Nat) : State :=
  let c := s.misc b 7 + 16
  let n := c / s.divider
  ((s.setMisc b 7 (c % s.divider)).count (Ctr.bench b 4) n).setTab Tab.interval b (s.tab Tab.interval b + n)

/-- The benches that count. -/
def State.tickBenches (s : State) : List Nat := if s.coreOn then (List.range 128).filter s.benchActive else []

/-- The island's own actions that wait: the next step of a start-up or the end of a reset, the action of a fatal fault, a fence that was asked for, a declared seal. -/
def State.settle (s : State) : State :=
  let s := s.resume
  let s := (s.settleFatal ⟨[], false⟩).applyFences
  if s.seal Seal.due = 1 then s.declareOpen else if s.seal Seal.due = 2 then s.declareClosed else s

/-- A tick of the island clock. An island reset that is due comes in place of all else (R550). -/
def State.tick (s : State) : State :=
  let s : State := { s with clock := { s.clock with island := s.clock.island + 1 } }
  if s.tab Tab.islandReset 1 = 1 then s.islandReset 3
  else
    let s := s.when (s.clock.island % 400000 == 0) State.presenceMs
    (s.forAll s.tickBenches State.benchTick).settle

end Sys2Proof.Machine
end

