-- ==== Sys2Proof/Safety.lean ====
section
/-!
DEFINITION. What the model's invariants say of a state: the sparse stores are in canonical form, the attention
counts agree with the attention sequence; and how statements say what a command leaves as it was.
-/
namespace Sys2Proof.Machine

/-- The three stores are in canonical form, so that equal contents are equal data. -/
def State.wf (s : State) : Bool :=
  SMap.wf Dict.dflt s.regs && SMap.wf Tab.dflt s.tabs && SMap.wf memDflt s.mem

/-- The eight event counts sum to the attention sequence modulo 2^16 (R119). -/
def State.attnAgrees (s : State) : Bool :=
  s.attn.counts.length == 8 && s.attn.counts.sum % 2 ^ 16 == s.attn.seq

/-- A register that raising and delivering interrupts, and counting in the counters of R502, never write. -/
def quietReg (k : Nat) : Bool :=
  k != Reg.INT_CONTROL.TRIGGERS && k != Reg.INT_CONTROL.MERGED && k != Reg.ATTN_MODERATION.TIMERS_RUNNING
    && k != Reg.ATTN_MODERATION.BATCHES && k != Reg.ZDP_STATISTICS.WATCHES_PARKED
    && k != Reg.ZDP_STATISTICS.BUSY_REPLIES && k != Reg.COUNTER_CONTROL.OVERFLOWS && k != Reg.COUNTER_CONTROL.EVENTS
    && k != Reg.COUNTER_CONTROL.EVENTS + 1

/-- A table that they never write. -/
def quietTab (t : Nat) : Bool :=
  t != Tab.attnLog && t != Tab.intState && t != Tab.counter && t != Tab.attnDue

/-- `t` differs from `s` in the registers `R` and the tables `T` only, interrupts, attention, replies and hardware counters apart: every
other register, table element and byte of memory, and every other part of the state, is as it was; of the ZDP engine,
replies have been queued behind those that waited, and parked watches answered. -/
structure Only (R T : List Nat) (s t : State) : Prop where
  regs : ∀ k, k ∉ R → quietReg k = true → t.reg k = s.reg k
  tabs : ∀ n i, i < 2 ^ 40 → n ∉ T → quietTab n = true → t.tab n i = s.tab n i
  mem : t.mem = s.mem
  stagings : t.stagings = s.stagings
  clock : t.clock = s.clock
  frames : t.frames = s.frames
  copies : t.copies = s.copies
  nextFrame : t.nextFrame = s.nextFrame
  nextCopy : t.nextCopy = s.nextCopy
  drr : t.drr = s.drr
  fences : t.fences = s.fences
  oldResv : t.oldResv = s.oldResv
  oldBounds : t.oldBounds = s.oldBounds
  gates : t.gates = s.gates
  handoffs : t.handoffs = s.handoffs
  built : t.built = s.built
  inactive : t.inactive = s.inactive
  postcards : t.postcards = s.postcards
  out : t.out = s.out
  tap : t.tap = s.tap
  freeCtr : t.freeCtr = s.freeCtr
  pending : t.pending = s.pending
  cache : t.zdp.cache = s.zdp.cache
  closes : t.zdp.closes = s.zdp.closes
  sessionless : t.zdp.sessionless = s.zdp.sessionless
  arrived : t.zdp.arrived = s.zdp.arrived
  watches : List.Sublist t.zdp.watches s.zdp.watches
  bypass0 : List.IsPrefix s.zdp.bypass0 t.zdp.bypass0
  bypass1 : List.IsPrefix s.zdp.bypass1 t.zdp.bypass1
  mgmt : List.IsPrefix s.zdp.mgmt t.zdp.mgmt

/-- `t` differs from `s` likewise, and in the bytes of memory from `lo` up to, not including, `hi`. -/
def OnlyMem (R T : List Nat) (lo hi : Nat) (s t : State) : Prop :=
  (∀ a, a < lo ∨ hi ≤ a → t.byte a = s.byte a) ∧ Only R T { s with mem := t.mem } t

/-- A register that a fault raised on the way writes, with the causes and the mode that follow it (R558, R563, R564). -/
def faultReg (k : Nat) : Bool :=
  k == Reg.STARTUP.DEGRADED_CAUSES || k == Reg.DEVICE_STATUS.MODE || k == Reg.DEVICE_STATUS.MODE_CHANGES
    || k == Reg.DEVICE_STATUS.LAST_MODE_CHANGE || k == Reg.DEVICE_STATUS.LAST_TIME_KIND || k == Reg.STARTUP.EVENTS
    || k == Reg.STARTUP.EVENTS + 1 || k == Reg.FAULT_LOG.LOG_HEAD || k == Reg.FAULT_LOG.PERSISTED_HEAD

/-- What forwarding leaves as it was: every register with a key below `T`, apart from those of interrupts, hardware counters and faults,
every byte of memory, what is staged, the time, and the gate lists; what has left the device stays sent. -/
structure Fwd (T : Nat) (s t : State) : Prop where
  regs : ∀ k, k < T → quietReg k = true → faultReg k = false → t.reg k = s.reg k
  mem : t.mem = s.mem
  stagings : t.stagings = s.stagings
  clock : t.clock = s.clock
  gates : t.gates = s.gates
  inactive : t.inactive = s.inactive
  pending : t.pending = s.pending
  out : List.IsPrefix s.out t.out

/-- The registers of DEGRADED_CAUSES and of the mode that follows it (R118, R563, R564). -/
abbrev modeRegs : List Nat := [Reg.STARTUP.DEGRADED_CAUSES, Reg.DEVICE_STATUS.MODE, Reg.DEVICE_STATUS.MODE_CHANGES,
  Reg.DEVICE_STATUS.LAST_MODE_CHANGE, Reg.DEVICE_STATUS.LAST_TIME_KIND, Reg.STARTUP.EVENTS, Reg.STARTUP.EVENTS + 1]

/-- Nothing waits to be delivered to the host: so between any two commands (R490, R495). -/
def State.nothingDue (s : State) : Bool := (dueClasses (s.tab Tab.attnDue 0)).isEmpty

/-! ### Writes of a host -/

/-- The sub-index is part of the saved configuration (R103). -/
def savedSub (idx sub : Nat) : Bool :=
  match Dict.lookup idx with
  | none => false
  | some o => match o.anyRow sub with | none => false | some r => r.saved

/-- A WRITE of `v` to (`idx`, `sub`) by the host of session `w` passes every check of R79 that is not the object's own: the session is
open, steps 5 to 11 pass, the value is in range, the block is not in reset, and no SAVE runs over it. -/
def State.permits (s : State) (w idx sub v : Nat) : Bool :=
  s.reg (Reg.SESSION.STATE w) == 1 && !s.blockInReset Zop.write idx sub
    && match s.checkObject (s.asker w) Zop.write idx sub with
      | .refuse _ => false
      | .pass _ r => !valueRefuses r v && !(s.saving && r.saved)

/-- A BLOCK_WRITE of `n` octets at offset `off` of (`idx`, `sub`) by the host of session `w` passes them likewise. -/
def State.permitsBlock (s : State) (w idx sub off n : Nat) : Bool :=
  s.reg (Reg.SESSION.STATE w) == 1 && !s.blockInReset Zop.blockWrite idx sub
    && match s.checkObject (s.asker w) Zop.blockWrite idx sub with
      | .refuse _ => false
      | .pass _ r => (s.blockRefuses r off n).isNone && !(s.saving && r.saved)

/-- The presence window has closed since `s`: nothing remains of it, and stagings of protected windows have lapsed (R122, R127). -/
def State.presenceClosedFrom (t s : State) : Prop :=
  t.reg Reg.PRESENCE.WINDOW_OPEN = 0 ∧ t.reg Reg.PRESENCE.REMAINING_MS = 0 ∧ t.stagings = s.stagings.map Staging.lapse

/-! ### Requests -/

/-- A request can come in and passes steps 1 to 4 of R79, on a tag whose replay-cache entry is EMPTY; the management controller meets
no internal fault on it. -/
def State.admits (s : State) (op : Nat) (q : Request) : Bool :=
  s.hears op q && validRequest q op && !q.internal && s.sessionOf q
    && decide (s.reg (Reg.SESSION.TAG_BASE q.session) ≤ q.tag)
    && decide (q.tag < s.reg (Reg.SESSION.TAG_BASE q.session) + s.reg (Reg.SESSION.TAG_COUNT q.session))
    && (s.cacheEntry q.session q.tag).isNone

/-- A request without a session can come in and passes step 1, fewer than 16 such requests are in hand (R70), and the management
controller meets no internal fault on it. -/
def State.admitsBare (s : State) (op : Nat) (q : Request) : Bool :=
  s.hears op q && validRequest q op && !q.internal && decide (s.zdp.sessionless < 16)

/-- An operation that names no object passes steps 5 to 7, with INDEX, SUB and LENGTH 0 (R63). -/
def State.serves (s : State) (op : Nat) (q : Request) : Bool :=
  q.index == 0 && q.sub == 0 && q.length == 0 && !s.modeRefuses op 0 0 && s.allowed (askerOf q) op 0

/-- The state in which an admitted request is performed: it has been counted, and its tag is in flight. -/
def State.taken (s : State) (op : Nat) (q : Request) : State :=
  ((s.accepted op q).setTab Tab.marks q.session s.clock.island).putEntry (newEntry op q)

/-- A reply to `q` waits: its operation code with bit 7 set, TAG and SEQ of the request, and RESULT, session and data. -/
def State.answers (t : State) (q : Request) (op session result : Nat) (data : Bytes) : Prop :=
  ∃ r ∈ t.waitingReplies, r.op = op + 128 ∧ r.tag = q.tag ∧ r.seq = q.seq ∧ r.session = session ∧ r.result = result
    ∧ r.data = data

/-! ### Benches -/

/-- The command in which the scalar unit of bench `b` performs `o`. -/
def ScalarOp.command (o : ScalarOp) (b : BenchNo) (x : ScalarSlot) (imm : Fin 262144) : Instr :=
  match o with
  | .add => .add b x imm | .sub => .sub b x imm | .and => .and b x imm | .or => .or b x imm | .xor => .xor b x imm
  | .shl => .shl b x imm | .shr => .shr b x imm | .sar => .sar b x imm | .cmp => .cmp b x imm | .mov => .mov b x imm
  | .mul => .mul b x imm | .divu => .divu b x imm | .divs => .divs b x imm | .remu => .remu b x imm | .rems => .rems b x imm
  | .mins => .mins b x imm | .maxs => .maxs b x imm | .fadd => .fadd b x imm | .fsub => .fsub b x imm
  | .fmul => .fmul b x imm | .fma => .fma b x imm | .fdiv => .fdiv b x imm | .fsqrt => .fsqrt b x imm
  | .fcmp => .fcmp b x imm | .itof => .itof b x imm | .ftoi => .ftoi b x imm | .vget => .vget b x imm

/-- What a scalar operation on A `a`, B `y`, C `c` and source vector `v` gives: `r`, of 64 bits (R386, R387, R426). -/
def ScalarOp.means (o : ScalarOp) (a y c v r : Nat) : Prop :=
  match o with
  | .add => r = (a + y) % 2 ^ 64
  | .sub => (r + y) % 2 ^ 64 = a
  | .and => ∀ i, i < 64 → bit r i = (bit a i && bit y i)
  | .or => ∀ i, i < 64 → bit r i = (bit a i || bit y i)
  | .xor => ∀ i, i < 64 → bit r i = (bit a i != bit y i)
  | .shl => r = a * 2 ^ (y % 64) % 2 ^ 64
  | .shr => r = a / 2 ^ (y % 64)
  | .sar => i64 r = i64 a / (2 : Int) ^ (y % 64)
  | .mov => r = y
  | .mul => r = a * y % 2 ^ 64
  | .divu => (y = 0 → r = 0) ∧ (y ≠ 0 → y * r ≤ a ∧ a < y * (r + 1))
  | .divs => (y = 0 → r = 0)
      ∧ (y ≠ 0 → ¬(i64 a = -(2 ^ 63) ∧ i64 y = -1) → (i64 a - i64 y * i64 r).natAbs < (i64 y).natAbs
          ∧ (i64 y * i64 r).natAbs ≤ (i64 a).natAbs)
  | .remu => (y = 0 → r = 0) ∧ (y ≠ 0 → r < y ∧ ∃ k, a = k * y + r)
  | .rems => (y = 0 → r = 0)
      ∧ (y ≠ 0 → (i64 r).natAbs < (i64 y).natAbs ∧ (∃ k, i64 a = k * i64 y + i64 r) ∧ (0 ≤ i64 a → 0 ≤ i64 r) ∧ (i64 a ≤ 0 → i64 r ≤ 0))
  | .mins => i64 r = min (i64 a) (i64 y)
  | .maxs => i64 r = max (i64 a) (i64 y)
  | .fadd => r = f64.add a y % 2 ^ 64
  | .fsub => r = f64.sub a y % 2 ^ 64
  | .fmul => r = f64.mul a y % 2 ^ 64
  | .fma => r = f64.fma a y c % 2 ^ 64
  | .fdiv => r = f64.div a y % 2 ^ 64
  | .fsqrt => r = f64.sqrt a % 2 ^ 64
  | .itof => r = f64.ofInteger (i64 a) % 2 ^ 64
  | .ftoi => i64 r = f64.toInteger (-(2 ^ 63)) (2 ^ 63 - 1) a
  | .vget => r = f32.convert f64 (lane32 v (y % 8)) % 2 ^ 64
  | .cmp => True
  | .fcmp => True

/-- The command in which the vector unit of bench `b` performs `o`. -/
def VectorOp.command (o : VectorOp) (b : BenchNo) (x : VectorSlot) : Instr :=
  match o with
  | .vadd => .vadd b x | .vsub => .vsub b x | .vmul => .vmul b x | .vfma => .vfma b x | .vmin => .vmin b x
  | .vmax => .vmax b x | .vcmplt => .vcmplt b x | .vsel => .vsel b x | .vdiv => .vdiv b x | .vsqrt => .vsqrt b x
  | .vhsum => .vhsum b x | .vbcast => .vbcast b x | .vshuf => .vshuf b x | .vcvti => .vcvti b x | .vcvtf => .vcvtf b x

/-- What a vector operation gives in lane `i`, where the lanes of its sources are `a`, `y` and `c`, the first source is `va` and
s[SREG] is `sv`: `r`, of 32 bits (R387, R427). Which of two operands VMIN and VMAX give where neither is less is open,
but for two equal ones and two that are not numbers. -/
def VectorOp.means (o : VectorOp) (a y c va sv i r : Nat) : Prop :=
  match o with
  | .vadd => r = f32.add a y % 2 ^ 32
  | .vsub => r = f32.sub a y % 2 ^ 32
  | .vmul => r = f32.mul a y % 2 ^ 32
  | .vfma => r = f32.fma a y c % 2 ^ 32
  | .vmin => (f32.less a y = true → r = a) ∧ (f32.less y a = true → r = y) ∧ (a = y → f32.isNan a = false → r = a)
      ∧ (f32.isNan a = true → f32.isNan y = true → r = 0x7FC00000)
  | .vmax => (f32.less a y = true → r = y) ∧ (f32.less y a = true → r = a) ∧ (a = y → f32.isNan a = false → r = a)
      ∧ (f32.isNan a = true → f32.isNan y = true → r = 0x7FC00000)
  | .vcmplt => r = if f32.less a y then 0xFFFFFFFF else 0
  | .vsel => r = if c = 0 then y else a
  | .vdiv => r = f32.div a y % 2 ^ 32
  | .vsqrt => r = f32.sqrt a % 2 ^ 32
  | .vhsum => True
  | .vbcast => r = f64.convert f32 sv % 2 ^ 32
  | .vshuf => r = lane32 va (sv / 8 ^ i % 8)
  | .vcvti => toInt 32 r = f32.toInteger (-(2 ^ 31)) (2 ^ 31 - 1) a
  | .vcvtf => r = f32.ofInteger (toInt 32 a) % 2 ^ 32

/-- The command in which bench `b` executes microword `m`. -/
def Micro.command (m : Micro) (b : BenchNo) (e : BenchEnv) : Instr :=
  match m with
  | .exec _ _ => .execMicroword b e | .branch _ _ _ => .branch b e | .nop => .nop b e | .jump _ => .jump b e | .call _ => .call b e
  | .ret => .ret b e | .loop _ _ => .loop b e | .sync => .sync b e | .trap => .trap b e | .set _ _ => .loadimmSet b e
  | .shift _ _ => .loadimmShift b e

/-- Bench `b` runs and finds the defined microword `m`, error correction included, at its program counter, which is at no routine. -/
def State.fetches (s : State) (b : Nat) (e : BenchEnv) (m : Micro) : Prop :=
  s.benchRuns b = true ∧ s.atRoutine b = false ∧ s.reg (Reg.BENCH.PC b) < 16384 ∧ e.fetch.val ≠ 2
    ∧ s.tab Tab.ucodeLost (lostBenchWord b (s.reg (Reg.BENCH.PC b))) ≠ 1
    ∧ ∃ w, s.benchWord b (s.reg (Reg.BENCH.PC b)) = some w ∧ decodeMicro w = some m

/-- The nanoword at `a` of the bay of bench `b` is the defined nanoword `n`, error correction included. -/
def State.fetchesNano (s : State) (b a : Nat) (e : BenchEnv) (n : Nano) : Prop :=
  e.fetch.val ≠ 4 ∧ s.tab Tab.ucodeLost (lostBayWord (b / 8) a) ≠ 1 ∧ ∃ w, s.bayWord (b / 8) a = some w ∧ decodeNano w = some n

/-- Bench `b` has trapped with `cause` at its program counter, which stays: its registers and memory are as they were, and no other
bench has changed (R408). -/
def State.trapped (t s : State) (b cause : Nat) : Prop :=
  t.benchState b = 3 ∧ t.reg (Reg.BENCH.TRAP_CAUSE b) = cause ∧ t.reg (Reg.BENCH.TRAP_PC b) = s.reg (Reg.BENCH.PC b)
    ∧ t.reg (Reg.BENCH.PC b) = s.reg (Reg.BENCH.PC b) ∧ t.reg (Reg.BENCH.CURRENT_JOB b) = 0 ∧ bit (t.reg (Reg.BENCH.EVENTS b)) 0 = true
    ∧ t.sendQueue b = [] ∧ t.mem = s.mem
    ∧ (∀ c i, c < 128 → (i < 64 → t.sReg c i = s.sReg c i) ∧ (i < 32 → t.vReg c i = s.vReg c i) ∧ (i < 16 → t.tReg c i = s.tReg c i))
    ∧ ∀ c, c < 128 → c ≠ b → t.benchState c = s.benchState c ∧ t.reg (Reg.BENCH.PC c) = s.reg (Reg.BENCH.PC c)

/-- After a microword at `pc` that goes to its next address, the loop stack `l`, innermost last, is `l'` and the program counter
`pc'`: loops that end at `pc` without a further iteration leave, and the next one inward of them goes round or goes on (R423). -/
def loopsMove (pc : Nat) (l l' : List Nat) (pc' : Nat) : Prop :=
  ∃ keep ended, l = keep ++ ended ∧ (∀ k, k ∈ ended → loopTarget k = pc ∧ loopLeft k ≤ 1)
    ∧ (((∀ k, keep.getLast? = some k → loopTarget k ≠ pc) ∧ l' = keep ∧ pc' = pc + 1)
      ∨ ∃ outer k, keep = outer ++ [k] ∧ loopTarget k = pc ∧ 1 < loopLeft k
        ∧ l' = outer ++ [packLoop (loopLeft k - 1) (loopFirst k) pc] ∧ pc' = loopFirst k)

/-- After a jump to `target` the loop stack `l` is `l'`: a jump out of the innermost loop's body ends that loop (R423). -/
def loopsJump (target : Nat) (l l' : List Nat) : Prop :=
  match l.getLast? with
  | none => l' = l
  | some k => l' = if loopFirst k ≤ target ∧ target ≤ loopTarget k then l else l.dropLast

/-- The command in which the memory unit of bench `b` performs `o`. -/
def MemOp.command (o : MemOp) (b : BenchNo) (x : MemSlot) (imm : Fin 262144) (e : BenchEnv) : Instr :=
  match o with
  | .ld => .ld b x imm e | .st => .st b x imm e | .pld => .pld b x imm e | .pst => .pst b x imm e | .pmoveIn => .pmoveIn b x imm e
  | .pmoveOut => .pmoveOut b x imm e | .sread => .sread b x imm e | .sgather => .sgather b x imm e | .swrite => .swrite b x imm e
  | .sscatter => .sscatter b x imm e | .fsend => .fsend b x imm e

/-- A running bench `b` is given operation `o` in a slot that names no unused field. -/
def State.issues (s : State) (b : Nat) (o : MemOp) (x : MemSlot) : Prop := s.benchRuns b = true ∧ memOk o x = true

/-- Slot `n` holds in `t` what bench `b` writes in state `s`: the value in the type of the slot's attribute (open where a BOOL is neither
0 nor 1), quality, source sequence, producer and time, and its SEQ has gone up by one (R358, R394). -/
def State.slotTakes (t s : State) (b n value quality seq : Nat) : Prop :=
  let type := attrType (s.slotAttr n)
  (type ≠ 1 → slotValue (t.slot n) = value % 2 ^ (if is32 type then 32 else 64))
    ∧ (type = 1 → slotValue (t.slot n) ≤ 1 ∧ (value ≤ 1 → slotValue (t.slot n) = value))
    ∧ slotQuality (t.slot n) = quality ∧ leAt (t.slot n) 22 2 = seq ∧ leAt (t.slot n) 24 2 = 0x8000 + b ∧ slotType (t.slot n) = type
    ∧ slotStamp (t.slot n) = stampOf s.clock.ptp % 2 ^ 96 ∧ slotSeq (t.slot n) = (slotSeq (s.slot n) + 1) % 2 ^ 16
    ∧ bit (slotFlags (t.slot n)) 2 = false ∧ ∀ i, i < 2 → bit (slotFlags (t.slot n)) i = bit (slotFlags (s.slot n)) i

/-- No segment that the jig has borrowed lies in the `n` octets from pool byte address `p` (R476). -/
def State.jigKeepsOff (s : State) (p n : Nat) : Prop :=
  ∀ g, s.jigSegment = some g → s.jig JigTab.destructive ≠ 0 ∨ (g + 1) * 4096 ≤ p ∨ p + n ≤ g * 4096

/-- The registers of every bench other than those named are as they were: scalar registers but `sr` of `b`, vector registers but
`vr` of `b`. -/
def State.keepsRegs (t s : State) (b : Nat) (sr vr : List Nat) : Prop :=
  ∀ c i, c < 128 → (i < 64 → c ≠ b ∨ i ∉ sr → t.sReg c i = s.sReg c i) ∧ (i < 32 → c ≠ b ∨ i ∉ vr → t.vReg c i = s.vReg c i)

end Sys2Proof.Machine
end

