-- ==== Sys2Proof/Certificates/Slice0/Obligations.lean ====
section
/-!
DEFINITION. The statements for the provers: what commands and the block do, by the rules of the spec.
-/
open Sys2Proof Sys2Proof.Machine

/-- For every command and state, a step of the state with the command at the front of its queue is exec of the command on the state
with the queue's rest (the queue is the model's own, log entry 4). (R1) -/
def Obligations.StepRunsFront : Prop :=
  ∀ (c : Instr) (s : State) (rest : List Instr), step { s with pending := c :: rest } = exec c { s with pending := rest }

/-- exec never ends in a fault or a refusal: the spec gives every command an effect, or none, and never a stop of the block. The next
state has the same waiting commands as the state before it (the queue is the model's own, log entry 4). (R1) -/
def Obligations.EveryCommandAnswers : Prop := ∀ (c : Instr) (s : State), ∃ t, exec c s = .next t ∧ t.pending = s.pending

/-- For every state whose three stores (registers, table elements, bytes of memory) are in canonical form, the next state of a step
has them in canonical form: equal contents stay equal data (the form is the model's own, log entry 2). (R6) -/
def Obligations.StoresStayCanonical : Prop := ∀ s t : State, s.wf = true → step s = .next t → t.wf = true

/-- For every state in which the eight event counts of the attention flags sum to ATTN_SEQ modulo 2^16, so they do in the next state
of a step: ATTN_SEQ never advances without exactly one class event, and no class event is counted without it. (R119, R120) -/
def Obligations.AttentionCountsAgree : Prop := ∀ s t : State, s.attnAgrees = true → step s = .next t → t.attnAgrees = true

/-- State.reset has its three stores in canonical form; ATTN_SEQ and the attention flags are 0, the eight event counts agree with
ATTN_SEQ, and nothing is due. (R119, R1) -/
def Obligations.InvariantsAtReset : Prop :=
  State.reset.wf = true ∧ State.reset.attn.seq = 0 ∧ State.reset.attn.flags = 0 ∧ State.reset.attnAgrees = true
    ∧ State.reset.nothingDue = true

/-- For every state in which no attention batch is due, none is due in the next state of a step: what a command makes due (a class
whose moderation time is 0) is delivered before the command ends. (R490, R495) -/
def Obligations.NothingDueBetweenCommands : Prop :=
  ∀ s t : State, s.nothingDue = true → step s = .next t → t.nothingDue = true

/-- READ of a sub-index that passes the checks of R79 completes with a reply of RESULT OK that carries TAG and SEQ of the request and
the value, most significant octet first, at its type's size. A BLOCK_READ that passes them is answered with what its object
answers: the stretch of the OCTETS sub-index, or of a window's LIVE or STAGE over the session's range. READ leaves memory, the
stagings and what has left the block as they were, and every register but the counts of requests and what interrupts write;
BLOCK_READ leaves what the read of its object leaves. (R63, R64, R66, R79, R99, R111) -/
def Obligations.ReadsAnswered : Prop :=
  (∀ (s : State) (q : Request) (o : Obj) (r : Sub), s.admits Zop.read q = true → isDiagnostic q.index = false →
    (s.taken Zop.read q).checkObject (askerOf q) Zop.read q.index q.sub = .pass o r → q.length = 0 → q.arg = 0 →
    r.ty.size ≤ s.reg Reg.ZDP_CONFIG.MAX_DATA → (s.taken Zop.read q).blockInReset Zop.read q.index q.sub = false →
    (s.taken Zop.read q).jobRefuses q.index q.sub = none →
    ∃ t, exec (.read q) s = .next t
      ∧ t.answers q Zop.read q.session Code.ok (toBE r.ty.size ((s.taken Zop.read q).readValue q.session q.index q.sub r))
      ∧ t.mem = s.mem ∧ t.out = s.out ∧ t.stagings = s.stagings
      ∧ ∀ k, quietReg k = true → k ≠ Reg.ZDP_STATISTICS.RX_ACCEPTED → k ≠ Reg.ZDP_STATISTICS.RETRY_FLAGGED → t.reg k = s.reg k)
  ∧ (∀ (s : State) (q : Request) (o : Obj) (r : Sub), s.admits Zop.blockRead q = true → isDiagnostic q.index = false →
    (s.taken Zop.blockRead q).checkObject (askerOf q) Zop.blockRead q.index q.sub = .pass o r →
    (s.taken Zop.blockRead q).blockRefuses r q.arg q.length = none →
    (s.taken Zop.blockRead q).blockInReset Zop.blockRead q.index q.sub = false →
    (s.taken Zop.blockRead q).jobRefuses q.index q.sub = none →
    let live := q.sub == 0x08
    let w := windowReadEffect q.session q.index q.arg q.length live (s.taken Zop.blockRead q)
    let v := if o.win.isSome = true ∧ (q.sub = 0x08 ∨ q.sub = 0x09) then w
      else { Res.done ((s.taken Zop.blockRead q).valueDrawn q.index q.sub) with
        data := (s.taken Zop.blockRead q).readBlock q.session q.index q.sub q.arg q.length r }
    ∃ t, exec (.blockRead q) s = .next t ∧ t.answers q Zop.blockRead q.session v.code v.data
      ∧ t.mem = v.st.mem ∧ t.out = v.st.out ∧ t.stagings = v.st.stagings ∧ ∀ k, quietReg k = true → t.reg k = v.st.reg k)

/-- A WRITE or BLOCK_WRITE that passes the checks of R79 up to its object's own has the effect of its object, advances CONFIG_GEN
where it succeeds on a saved sub-index, and is answered with TAG and SEQ of the request, the object's RESULT; an accepted
ISLAND_RESET waits until its reply has been handed over. A WINDOW_COMMIT that passes them has the commit's effect, and is answered
with its RESULT. Registers and table elements, interrupts apart, are as the effect leaves them. (R63, R64, R65, R66, R79, R104) -/
def Obligations.WritesAnswered : Prop :=
  (∀ (s : State) (q : Request) (o : Obj) (r : Sub), s.admits Zop.write q = true → isDiagnostic q.index = false →
    let u := (s.taken Zop.write q).holdSetting q.index q.sub
    u.checkObject (askerOf q) Zop.write q.index q.sub = .pass o r → q.arg = 0 → r.ty.size ≤ u.reg Reg.ZDP_CONFIG.MAX_DATA →
    q.length = r.ty.size → valueRefuses r (ofBE q.data) = false → u.blockInReset Zop.write q.index q.sub = false →
    (u.saving && r.saved) = false →
    let e := fullEffect q.session q.index q.sub (ofBE q.data) 0 u
    let v := if e.code = Code.ok ∧ r.saved = true then e.st.configChanged else e.st
    ∃ t, exec (.write q) s = .next t
      ∧ (∀ k, quietReg k = true → t.reg k = v.reg k)
      ∧ (∀ n i, i < 2 ^ 40 → quietTab n = true → (q.index = 0x0500 → q.sub = 0x02 → n ≠ Tab.islandReset) → t.tab n i = v.tab n i)
      ∧ (q.index = 0x0500 → q.sub = 0x02 → v.tab Tab.islandReset 1 = 1 →
          t.tab Tab.islandReset 1 = 0 ∧ t.tab Tab.islandReset 0 = q.session * 4096 + q.tag + 3)
      ∧ t.answers q Zop.write q.session e.code e.data)
  ∧ (∀ (s : State) (q : Request) (o : Obj) (r : Sub), s.admits Zop.blockWrite q = true → isDiagnostic q.index = false →
    let u := (s.taken Zop.blockWrite q).holdSetting q.index q.sub
    u.checkObject (askerOf q) Zop.blockWrite q.index q.sub = .pass o r → u.blockRefuses r q.arg q.length = none →
    u.blockInReset Zop.blockWrite q.index q.sub = false → (u.saving && r.saved) = false →
    let e := fullBlockEffect q.session q.index q.sub q.arg q.data r u
    let v := if e.code = Code.ok ∧ r.saved = true then e.st.configChanged else e.st
    ∃ t, exec (.blockWrite q) s = .next t ∧ t.answers q Zop.blockWrite q.session e.code e.data
      ∧ (∀ k, quietReg k = true → t.reg k = v.reg k)
      ∧ ∀ n i, i < 2 ^ 40 → quietTab n = true → t.tab n i = v.tab n i)
  ∧ (∀ (s : State) (q : Request) (o : Obj) (r : Sub) (posts : List (Nat × Nat)) (lost : List Nat),
    s.admits Zop.windowCommit q = true → isDiagnostic q.index = false →
    let u := s.taken Zop.windowCommit q
    u.checkObject (askerOf q) Zop.windowCommit q.index q.sub = .pass o r → o.win.isSome = true → q.sub = 0 → q.length = 0 →
    q.arg = 0 → u.blockInReset Zop.windowCommit q.index q.sub = false →
    let e := windowCommitEffect q.session q.index posts lost u
    ∃ t, exec (.windowCommit q posts lost) s = .next t ∧ t.answers q Zop.windowCommit q.session e.code e.data
      ∧ (∀ k, quietReg k = true → t.reg k = e.st.reg k)
      ∧ ∀ n i, i < 2 ^ 40 → quietTab n = true → t.tab n i = e.st.tab n i)

/-- An admitted PARKED_WATCH that step 7 permits parks without a reply when its observed sequence number equals ATTN_SEQ and fewer
than 64 watches are parked, is answered BUSY_RETRY when 64 are, and is answered OK at once when ATTN_SEQ differs. A PING of a
session, or one without a session while fewer than 16 such requests are in hand, is answered OK with no data. A parked watch with
a TIMEOUT_MS that is not 0 is answered OK and leaves the list when its time has passed. An ARP request or neighbour solicitation
for the device's own address of the UDP carriage, on a host port that is UP, is answered on that port. The last two change no
register but the count of parked watches and what interrupts write. An admitted RELEASE whose job record is COMPLETE under the
given handle releases it and is answered OK: the job's slot is FREE and its record 0. One whose handle's record is not there is
answered OK too and releases nothing; one whose job has not completed is answered NOT_READY. (R58, R63, R70, R87, R89, R92, R405) -/
def Obligations.OtherRequestsAnswered : Prop :=
  (∀ (s : State) (q : Request), s.admits Zop.parkedWatch q = true → (s.taken Zop.parkedWatch q).serves Zop.parkedWatch q = true →
    (s.taken Zop.parkedWatch q).nothingDue = true →
    (q.arg % 65536 = s.attn.seq → s.zdp.watches.length < 64 →
      ∃ t, exec (.parkedWatch q) s = .next t ∧ t.zdp.watches = s.zdp.watches ++ [⟨q, q.arg % 65536, q.arg / 65536⟩]
        ∧ t.reg Reg.ZDP_STATISTICS.WATCHES_PARKED = (s.reg Reg.ZDP_STATISTICS.WATCHES_PARKED + 1) % 256
        ∧ t.waitingReplies = s.waitingReplies ∧ t.attn = s.attn)
    ∧ (q.arg % 65536 = s.attn.seq → 64 ≤ s.zdp.watches.length →
      ∃ t, exec (.parkedWatch q) s = .next t ∧ t.answers q Zop.parkedWatch q.session Code.busyRetry [] ∧ t.zdp.watches = s.zdp.watches)
    ∧ (q.arg % 65536 ≠ s.attn.seq →
      ∃ t, exec (.parkedWatch q) s = .next t ∧ t.answers q Zop.parkedWatch q.session Code.ok [] ∧ t.zdp.watches = s.zdp.watches))
  ∧ (∀ (s : State) (q : Request), s.admits Zop.ping q = true → q.session ≠ 0xFFFF → (s.taken Zop.ping q).serves Zop.ping q = true → q.arg = 0 →
    ∃ t, exec (.ping q) s = .next t ∧ t.answers q Zop.ping q.session Code.ok []
      ∧ t.mem = s.mem ∧ t.out = s.out ∧ t.stagings = s.stagings
      ∧ ∀ k, quietReg k = true → k ≠ Reg.ZDP_STATISTICS.RX_ACCEPTED → k ≠ Reg.ZDP_STATISTICS.RETRY_FLAGGED → t.reg k = s.reg k)
  ∧ (∀ (s : State) (q : Request), s.admitsBare Zop.ping q = true → q.session = 0xFFFF → (s.accepted Zop.ping q).serves Zop.ping q = true → q.arg = 0 →
    ∃ t, exec (.ping q) s = .next t ∧ t.answers q Zop.ping q.session Code.ok [] ∧ t.zdp.sessionless = s.zdp.sessionless + 1)
  ∧ (∀ (s : State) (n : SessionNo) (tag : Nat) (w : Watch), s.nothingDue = true →
    s.zdp.watches.find? (fun w => w.q.session == n.val && w.q.tag == tag && w.timeoutMs != 0) = some w →
    ∃ t, exec (.watchTimeout n tag) s = .next t ∧ t.answers w.q Zop.parkedWatch n Code.ok [] ∧ t.zdp.watches = s.zdp.watches.erase w
      ∧ Only [] [] s t)
  ∧ (∀ (s : State) (h : HostNo) (v6 : Bool) (target mac sender : Nat), s.portUp (512 + h) = true →
    (s.macReceived (512 + h) (if !v6 then 64 else if sender = 0 then 82 else 90)).nothingDue = true → s.zdpSetting 0x02 = 1 → target ≠ 0 →
    target = s.zdpSetting (if v6 then 0x05 else 0x04) →
    ∃ t, exec (.zdpArpRequest h v6 target ⟨mac, sender⟩) s = .next t
      ∧ t.zdp.bypass0 = (if h.val = 0 then s.zdp.bypass0 ++ [.arp v6 target mac sender] else s.zdp.bypass0)
      ∧ t.zdp.bypass1 = (if h.val = 0 then s.zdp.bypass1 else s.zdp.bypass1 ++ [.arp v6 target mac sender]) ∧ Only [] [] s t)
  ∧ (∀ (s : State) (q : Request), s.admits Zop.release q = true → (s.taken Zop.release q).serves Zop.release q = true →
      (s.taken Zop.release q).blockInReset Zop.release 0 0 = false →
      let k := q.arg % 4096
      (jobSeq (s.tab Tab.jobDesc k) = q.arg → s.tab Tab.jobState k = 3 →
        ∃ t, exec (.release q) s = .next t ∧ t.answers q Zop.release q.session Code.ok [] ∧ t.tab Tab.jobState k = 0 ∧ t.tab Tab.jobRecord k = 0
          ∧ ∀ j, j < 4096 → j ≠ k → t.tab Tab.jobState j = s.tab Tab.jobState j ∧ t.tab Tab.jobRecord j = s.tab Tab.jobRecord j)
      ∧ (jobSeq (s.tab Tab.jobDesc k) ≠ q.arg ∨ s.tab Tab.jobState k = 0 →
        ∃ t, exec (.release q) s = .next t ∧ t.answers q Zop.release q.session Code.ok []
          ∧ ∀ j, j < 4096 → t.tab Tab.jobState j = s.tab Tab.jobState j ∧ t.tab Tab.jobRecord j = s.tab Tab.jobRecord j)
      ∧ (jobSeq (s.tab Tab.jobDesc k) = q.arg → s.tab Tab.jobState k ≠ 0 → s.tab Tab.jobState k ≠ 3 →
        ∃ t, exec (.release q) s = .next t ∧ t.answers q Zop.release q.session Code.notReady []
          ∧ ∀ j, j < 4096 → t.tab Tab.jobState j = s.tab Tab.jobState j ∧ t.tab Tab.jobRecord j = s.tab Tab.jobRecord j))

/-- An OPEN of a host that has no session opened by the same SEQ, with a valid number of tags, a free run of tag blocks and a closed
session, opens one: which of the closed ones is left open. The session is bound to the sender; TAG_BASE and TAG_COUNT are the
longest run of free blocks of at most the tags asked for; the reply carries the session, TAG_BASE and TAG_COUNT; the registers of
the other sessions are as they were. An OPEN that repeats the SEQ of the host's session, with a valid number of tags, is answered
with that session's grant and changes no session. (R67, R68, R70, R92) -/
def Obligations.SessionsOpen : Prop :=
  (∀ (s : State) (q : Request) (first count : Nat), s.admitsBare Zop.openOp q = true → q.session = 0xFFFF →
    (s.accepted Zop.openOp q).serves Zop.openOp q = true → s.sameOpen q = none → q.arg % 64 = 0 → 0 < q.arg → q.arg ≤ 4096 →
    s.grantRun (q.arg / 64) = some (first, count) → s.closedSessions ≠ [] →
    ∃ n t, n < 16 ∧ s.reg (Reg.SESSION.STATE n) = 0 ∧ exec (.openSession q) s = .next t ∧ t.reg (Reg.SESSION.STATE n) = 1
      ∧ t.reg (Reg.SESSION.PORT n) = q.port.val ∧ t.reg (Reg.SESSION.ADDR_KIND n) = q.addrKind ∧ t.reg (Reg.SESSION.HOST_ADDR n) = q.addr
      ∧ t.reg (Reg.SESSION.TAG_BASE n) = 64 * first ∧ t.reg (Reg.SESSION.TAG_COUNT n) = 64 * count ∧ t.reg (Reg.SESSION.OPEN_SEQ n) = q.seq
      ∧ t.answers q Zop.openOp n Code.ok (toBE 2 n ++ toBE 2 (64 * first) ++ toBE 2 (64 * count) ++ [0, 0])
      ∧ count ≤ q.arg / 64 ∧ (∀ i, i < count → s.blockFree (first + i) = true)
      ∧ ∀ m, m < 16 → m ≠ n → ∀ j, 1 ≤ j → j ≤ 8 → t.reg (regKey (0x0110 + m) j) = s.reg (regKey (0x0110 + m) j))
  ∧ (∀ (s : State) (q : Request) (n : Nat), s.admitsBare Zop.openOp q = true → q.session = 0xFFFF →
    (s.accepted Zop.openOp q).serves Zop.openOp q = true → q.arg % 64 = 0 → 0 < q.arg → q.arg ≤ 4096 →
    s.sameOpen q = some n →
    ∃ t, exec (.openSession q) s = .next t ∧ t.answers q Zop.openOp n Code.ok (s.grantData n)
      ∧ ∀ m, m < 16 → ∀ j, 1 ≤ j → j ≤ 8 → t.reg (regKey (0x0110 + m) j) = s.reg (regKey (0x0110 + m) j))

/-- An admitted CLOSE, a permitted FORCE_CLOSE of an open session and the idle time of an open session leave its STATE at 2 and change
no other register. Once its operations have completed, SESSION_CLOSE_COMPLETE leaves its registers at their defaults, none of its
tags in the replay cache, none of its windows staged, no CLOSE of it waiting, and each CLOSE answered OK. (R71, R72, R87, R112) -/
def Obligations.SessionsClose : Prop :=
  (∀ (s : State) (q : Request), s.admits Zop.close q = true → (s.taken Zop.close q).serves Zop.close q = true → q.arg = 0 →
    ∃ t, exec (.close q) s = .next t ∧ t.reg (Reg.SESSION.STATE q.session) = 2 ∧ t.zdp.closes = s.zdp.closes ++ [q]
      ∧ ∀ k, quietReg k = true → k ≠ Reg.SESSION.STATE q.session → k ≠ Reg.ZDP_STATISTICS.RX_ACCEPTED →
          k ≠ Reg.ZDP_STATISTICS.RETRY_FLAGGED → t.reg k = s.reg k)
  ∧ (∀ (s : State) (w n : SessionNo), s.permits w 0x0102 0x01 n.val = true → s.reg (Reg.SESSION.STATE n) = 1 →
    ∃ t, exec (.forceClose w n) s = .next t ∧ t.reg (Reg.SESSION.STATE n) = 2 ∧ Only [Reg.SESSION.STATE n] [] s t)
  ∧ (∀ (s : State) (n : SessionNo), s.reg (Reg.SESSION.STATE n) = 1 →
    ∃ t, exec (.sessionIdleTimeout n) s = .next t ∧ t.reg (Reg.SESSION.STATE n) = 2 ∧ Only [Reg.SESSION.STATE n] [] s t)
  ∧ (∀ (s : State) (n : SessionNo), s.reg (Reg.SESSION.STATE n) = 2 → s.sessionQuiet n = true →
    ∃ t, exec (.sessionCloseComplete n) s = .next t ∧ (∀ j, 1 ≤ j → j ≤ 8 → t.reg (regKey (0x0110 + n) j) = Dict.dflt (regKey (0x0110 + n) j))
      ∧ (∀ e ∈ t.zdp.cache, e.session ≠ n.val) ∧ (∀ g ∈ t.stagings, g.owner = n.val → g.state ≠ 1) ∧ (∀ q ∈ t.zdp.closes, q.session ≠ n.val)
      ∧ ∀ q ∈ s.zdp.closes, q.session = n.val → t.answers q Zop.close n Code.ok [])

/-- A permitted REGISTER_WRITE by a host, of a value whose size the host may send, has the effect of its object's write, and advances
CONFIG_GEN on a saved sub-index. One by the runtime of the management controller writes a peer delay. (R8, R79, R104, R299, R308) -/
def Obligations.RegisterWritten : Prop :=
  (∀ (s : State) (w : SessionNo) (idx sub v sets : Nat) (o : Obj) (r : Sub), s.permits w idx sub v = true → isDiagnostic idx = false →
    s.checkObject (s.asker w) Zop.write idx sub = .pass o r → r.ty.size ≤ s.reg Reg.ZDP_CONFIG.MAX_DATA →
    let e := fullEffect w idx sub v sets s
    let u := if e.code = Code.ok ∧ savedSub idx sub = true then e.st.configChanged else e.st
    ∃ t, exec (.registerWrite (some w) idx sub v sets) s = .next t ∧ Only [] [] u t)
  ∧ (∀ (s : State) (p : Nat) (v sets : Nat), p < 514 → v < 2 ^ 32 →
    ∃ t, exec (.registerWrite none (0x6100 + p) 0x03 v sets) s = .next t ∧ t.reg (regKey (0x6100 + p) 0x03) = v
      ∧ Only [regKey (0x6100 + p) 0x03] [] s t)

/-- A permitted COMMAND while no store command runs: SAVE captures the image, invalidates the slot that does not hold the newest image
and leaves STATE 1, writing only that slot's bytes; RESTORE starts with a warm reset and leaves STATE 2; CLEAR_SAVED leaves STATE
3; APPLY_DEFAULTS has the effect of the reset that clears configuration and completes with STATE 0 and LAST_RESULT OK;
ACCEPT_IMPORT, also while a partial import waits, leaves STATE 5. An IMPORT write at the next expected offset stores its octets
there, advances the offset and leaves STATE 4; one that is not the first may find flash programming behind, which is free (log
entry 70), and then changes nothing. (R106, R107, R109, R553) -/
def Obligations.ConfigCommandsStart : Prop :=
  (∀ (s : State) (w : SessionNo), s.permits w 0x0020 0x01 1 = true → s.storeState = 0 →
    ∃ t, exec (.save w) s = .next t ∧ t.reg Reg.CONFIG_STORE.STATE = 1 ∧ t.slotGen s.otherSlot = 0
      ∧ OnlyMem [Reg.CONFIG_STORE.STATE, slotGenKey s.otherSlot, Reg.CONFIG_STORE.SAVED_GEN, Reg.CONFIG_STORE.IMAGE_BYTES] [Tab.store]
          (configSlot s.otherSlot) (configSlot s.otherSlot + s.discardImport.capture.length) s t)
  ∧ (∀ (s : State) (w : SessionNo), s.permits w 0x0020 0x01 2 = true → s.storeState = 0 →
    ∃ t, exec (.restore w) s = .next t ∧ t.reg Reg.CONFIG_STORE.STATE = 2
      ∧ Only [Reg.CONFIG_STORE.STATE] [] (s.discardImport.warmReset 3 5) t)
  ∧ (∀ (s : State) (w : SessionNo), s.permits w 0x0020 0x01 3 = true → s.storeState = 0 →
    ∃ t, exec (.clearSaved w) s = .next t ∧ t.reg Reg.CONFIG_STORE.STATE = 3 ∧ Only [Reg.CONFIG_STORE.STATE] [Tab.store] s t)
  ∧ (∀ (s : State) (w : SessionNo), s.permits w 0x0020 0x01 4 = true → s.storeState = 0 →
    ∃ t, exec (.applyDefaults w) s = .next t ∧ t.reg Reg.CONFIG_STORE.STATE = 0 ∧ t.reg Reg.CONFIG_STORE.LAST_RESULT = Code.ok
      ∧ Only [Reg.CONFIG_STORE.STATE, Reg.CONFIG_STORE.LAST_RESULT, Reg.CONFIG_STORE.LAST_DETAIL] [] s.clearConfig t)
  ∧ (∀ (s : State) (w : SessionNo), s.permits w 0x0020 0x01 5 = true → (s.storeState = 0 ∨ s.storeState = 4) →
    ∃ t, exec (.acceptImport w) s = .next t ∧ t.reg Reg.CONFIG_STORE.STATE = 5 ∧ Only [Reg.CONFIG_STORE.STATE] [Tab.store] s t)
  ∧ (∀ (s : State) (w : SessionNo) (off : Nat) (data : Bytes), s.permitsBlock w 0x0020 0x0D off data.length = true →
    (s.storeState = 0 ∨ s.storeState = 4) → off = s.tab Tab.store 0 → data ≠ [] →
    ∃ t, exec (.importBlock w off data) s = .next t
      ∧ ((t.reg Reg.CONFIG_STORE.STATE = 4 ∧ t.tab Tab.store 0 = off + data.length
        ∧ (∀ i, i < data.length → t.byte (configSlot s.otherSlot + off + i) = (data.getD i 0) % 256)
        ∧ OnlyMem [Reg.CONFIG_STORE.STATE, slotGenKey s.otherSlot, Reg.CONFIG_STORE.SAVED_GEN, Reg.CONFIG_STORE.IMAGE_BYTES] [Tab.store]
            (configSlot s.otherSlot + off) (configSlot s.otherSlot + off + data.length) { s with freeCtr := s.freeCtr + 1 } t)
      ∨ off ≠ 0 ∧ Only [] [] { s with freeCtr := s.freeCtr + 1 } t))

/-- SAVE that has been verified leaves STATE 0, LAST_RESULT OK and its slot valid with the captured GEN; one that has not leaves
LAST_RESULT INTERNAL. CLEAR_SAVED leaves both slots invalid, SAVED_GEN 0 and LAST_RESULT OK. The check of an import leaves
LAST_RESULT as its verdict: with OK its slot holds a valid image, which is the newest; otherwise the slot is invalid; and the next
expected offset is 0. RESTORE leaves STATE 0; where the image is applied whole LAST_RESULT is OK. (R106, R108, R109, R133, R135) -/
def Obligations.ConfigCommandsEnd : Prop :=
  (∀ (s : State), s.saving = true →
    (∃ t, exec (.saveDone true) s = .next t ∧ t.reg Reg.CONFIG_STORE.STATE = 0 ∧ t.reg Reg.CONFIG_STORE.LAST_RESULT = Code.ok
      ∧ (s.tab Tab.store 6 = 0 ∨ s.tab Tab.store 6 = 1 → t.slotGen (s.tab Tab.store 6) = max 1 (s.tab Tab.store 5)))
    ∧ ∃ t, exec (.saveDone false) s = .next t ∧ t.reg Reg.CONFIG_STORE.LAST_RESULT = Code.internal
        ∧ Only [Reg.CONFIG_STORE.STATE, Reg.CONFIG_STORE.LAST_RESULT, Reg.CONFIG_STORE.LAST_DETAIL] [] s t)
  ∧ (∀ (s : State), s.storeState = 3 →
    ∃ t, exec .clearSavedDone s = .next t ∧ t.reg Reg.CONFIG_STORE.STATE = 0 ∧ t.reg Reg.CONFIG_STORE.LAST_RESULT = Code.ok
      ∧ t.slotGen 0 = 0 ∧ t.slotGen 1 = 0 ∧ t.reg Reg.CONFIG_STORE.SAVED_GEN = 0 ∧ t.newestImage = none)
  ∧ (∀ (s : State), s.storeState = 5 → s.tab Tab.store 6 = 0 ∨ s.tab Tab.store 6 = 1 →
    let k := s.tab Tab.store 6
    let c := s.importVerdict (s.dump (configSlot k) (s.tab Tab.store 0))
    ∃ t, exec .importCheckDone s = .next t ∧ t.reg Reg.CONFIG_STORE.STATE = 0 ∧ t.reg Reg.CONFIG_STORE.LAST_RESULT = c
      ∧ t.tab Tab.store 0 = 0 ∧ (c = Code.ok → t.newestSlot = some k) ∧ (c ≠ Code.ok → t.slotGen k = 0))
  ∧ (∀ (s : State), s.storeState = 2 →
    ∃ t, exec .restoreDone s = .next t ∧ t.reg Reg.CONFIG_STORE.STATE = 0
      ∧ ∀ b, s.newestImage = some b → ((s.setTab Tab.sticky 10 (s.reg Reg.DOVETAIL.ROLE)).applyImage b).bad = none →
          t.reg Reg.CONFIG_STORE.LAST_RESULT = Code.ok)

/-- A permitted write of TARGET, BASE or COUNT whose range lies in the window sets it, and restarts the session's own staging. A
permitted STAGE write of whole elements inside the range, that no other staging or target forbids, puts its elements into the
window's staging: element BASE + offset/ELEM_BYTES + i holds the i-th group of octets. ABORT of the session's own STAGING window
leaves it IDLE. None of them changes a register, a table other than the range's and the latches', or memory. (R111, R112, R113,
R126) -/
def Obligations.WindowsStage : Prop :=
  (∀ (s : State) (w : SessionNo) (idx which v : Nat) (o : Obj), Dict.lookup idx = some o → o.win.isSome = true → 1 ≤ which → which ≤ 3 →
    s.permits w idx which v = true → (rangeEffect w idx which v s).code = Code.ok →
    ∃ t, exec (.windowRangeWrite w idx which v) s = .next t ∧ (idx < 65536 → t.tab (rangeTab which) (w * 65536 + idx) = v)
      ∧ t.mem = s.mem ∧ ∀ k, quietReg k = true → t.reg k = s.reg k)
  ∧ (∀ (s : State) (w : SessionNo) (idx off : Nat) (data : Bytes) (o : Obj), Dict.lookup idx = some o → o.win.isSome = true →
    s.permitsBlock w idx 0x09 off data.length = true → s.stagingRefuses w idx = none →
    s.stageTargetRefuses idx (s.stagingFor w idx).target = none → off % elemBytes idx = 0 → data.length % elemBytes idx = 0 →
    off + data.length ≤ (s.stagingFor w idx).count * elemBytes idx →
    ∃ t g, exec (.stage w idx off data) s = .next t ∧ t.staging? idx = some g ∧ g.owner = (s.stagingFor w idx).owner
      ∧ g.target = (s.stagingFor w idx).target
      ∧ (∀ i, i < data.length / elemBytes idx →
          g.elems.get (fun _ => 0) ((s.stagingFor w idx).base + off / elemBytes idx + i) = ofBE ((data.drop (i * elemBytes idx)).take (elemBytes idx)))
      ∧ t.mem = s.mem ∧ (∀ k, quietReg k = true → t.reg k = s.reg k) ∧ ∀ n i, i < 2 ^ 40 → quietTab n = true → t.tab n i = s.tab n i)
  ∧ (∀ (s : State) (w : SessionNo) (idx : Nat) (o : Obj) (g : Staging), Dict.lookup idx = some o → o.win.isSome = true →
    s.permits w idx 0x0A 1 = true → s.staging? idx = some g → g.state ≠ 3 → g.owner = w.val →
    ∃ t, exec (.abort w idx) s = .next t ∧ t.staging? idx = none
      ∧ t.mem = s.mem ∧ (∀ k, quietReg k = true → t.reg k = s.reg k) ∧ ∀ n i, i < 2 ^ 40 → quietTab n = true → t.tab n i = s.tab n i)

/-- An assertion of the key opens a closed window: WINDOW_OPEN 1, WINDOW_SEQ one higher, REMAINING_MS loaded; in an open one it
reloads REMAINING_MS where KEY_MODE is 1. A release closes the window where KEY_MODE is 0 and else leaves it. The expiry, which
comes with the end of the last millisecond of REMAINING_MS, and a permitted CLOSE close it. A window that closes has WINDOW_OPEN
and REMAINING_MS 0, and every STAGING of a protected window lapsed. (R121, R122, R123, R127) -/
def Obligations.PresenceWindowMoves : Prop :=
  (∀ s : State, s.reg Reg.PRESENCE.KEY_ASSERTED = 0 → s.reg Reg.PRESENCE.WINDOW_OPEN = 0 →
    ∃ t, exec .keyAsserted s = .next t ∧ t.reg Reg.PRESENCE.KEY_ASSERTED = 1 ∧ t.reg Reg.PRESENCE.WINDOW_OPEN = 1
      ∧ t.reg Reg.PRESENCE.WINDOW_SEQ = (s.reg Reg.PRESENCE.WINDOW_SEQ + 1) % 2 ^ 32
      ∧ t.reg Reg.PRESENCE.REMAINING_MS = s.reg Reg.PRESENCE.DURATION_S * 1000
      ∧ Only [Reg.PRESENCE.KEY_ASSERTED, Reg.PRESENCE.WINDOW_OPEN, Reg.PRESENCE.WINDOW_SEQ, Reg.PRESENCE.REMAINING_MS,
          Reg.SECURITY_EVENTS.FLAGS, Reg.SECURITY_EVENTS.FLAGS + 1] [Tab.presence] s t)
  ∧ (∀ s : State, s.reg Reg.PRESENCE.KEY_ASSERTED = 0 → s.reg Reg.PRESENCE.WINDOW_OPEN = 1 →
    ∃ t, exec .keyAsserted s = .next t ∧ t.reg Reg.PRESENCE.KEY_ASSERTED = 1
      ∧ t.reg Reg.PRESENCE.REMAINING_MS
          = (if s.reg Reg.PRESENCE.KEY_MODE = 1 then s.reg Reg.PRESENCE.DURATION_S * 1000 else s.reg Reg.PRESENCE.REMAINING_MS)
      ∧ Only [Reg.PRESENCE.KEY_ASSERTED, Reg.PRESENCE.REMAINING_MS] [] s t)
  ∧ (∀ s : State, s.reg Reg.PRESENCE.KEY_ASSERTED = 1 →
    (s.reg Reg.PRESENCE.KEY_MODE ≠ 0 →
      ∃ t, exec .keyReleased s = .next t ∧ t.reg Reg.PRESENCE.KEY_ASSERTED = 0 ∧ Only [Reg.PRESENCE.KEY_ASSERTED] [] s t)
    ∧ (s.reg Reg.PRESENCE.KEY_MODE = 0 → s.reg Reg.PRESENCE.WINDOW_OPEN = 1 →
      ∃ t, exec .keyReleased s = .next t ∧ t.reg Reg.PRESENCE.KEY_ASSERTED = 0 ∧ t.presenceClosedFrom s))
  ∧ (∀ s : State, s.reg Reg.PRESENCE.WINDOW_OPEN = 1 →
    (s.reg Reg.PRESENCE.REMAINING_MS ≤ 1 → ∃ t, exec .presenceWindowExpiry s = .next t ∧ t.reg Reg.PRESENCE.KEY_ASSERTED = s.reg Reg.PRESENCE.KEY_ASSERTED ∧ t.presenceClosedFrom s)
    ∧ ∀ w : SessionNo, s.permits w 0x0200 0x08 1 = true →
      ∃ t, exec (.presenceClose w) s = .next t ∧ t.reg Reg.PRESENCE.KEY_ASSERTED = s.reg Reg.PRESENCE.KEY_ASSERTED ∧ t.presenceClosedFrom s)

/-- A permitted ENROL in FACTORY with the seal intact and a key of each role, REARM in TAMPERED with the seal intact and closed in
this presence window after a wipe, and RETURN_TO_FACTORY in DECOMMISSIONED with no key, leave STATE at ENROLLED, ENROLLED and
FACTORY, count a transition and stamp it; nothing else changes but the security event. DECOMMISSION in ENROLLED or TAMPERED makes
the state DECOMMISSIONED, empties the four key slots, asks for the wipe, clears the configuration, and starts CLEAR_SAVED. (R135,
R136, R137) -/
def Obligations.LifeCycleMoves : Prop :=
  (∀ (s : State) (w : SessionNo) (c : Instr) (v new : Nat),
    ((c = .enrol w ∧ v = 1 ∧ new = 1 ∧ s.reg Reg.LIFECYCLE.STATE = 0 ∧ s.reg Reg.SEAL.INTACT = 1
        ∧ (s.keyEnrolled 0 || s.keyEnrolled 1) = true ∧ (s.keyEnrolled 2 || s.keyEnrolled 3) = true)
      ∨ (c = .rearm w ∧ v = 2 ∧ new = 1 ∧ s.reg Reg.LIFECYCLE.STATE = 2 ∧ s.reg Reg.SEAL.INTACT = 1
        ∧ s.reg Reg.PRESENCE.WINDOW_OPEN = 1 ∧ s.tab Tab.presence 11 = 0 ∧ s.reg Reg.SEAL.WIPE_STATE = 3)
      ∨ (c = .returnToFactory w ∧ v = 4 ∧ new = 0 ∧ s.reg Reg.LIFECYCLE.STATE = 3 ∧ (∀ k, k < 4 → s.keyEnrolled k = false))) →
    s.permits w 0x0210 0x02 v = true →
    ∃ t, exec c s = .next t ∧ t.reg Reg.LIFECYCLE.STATE = new ∧ t.reg Reg.LIFECYCLE.TRANSITIONS = (s.reg Reg.LIFECYCLE.TRANSITIONS + 1) % 2 ^ 32
      ∧ t.reg Reg.LIFECYCLE.LAST_TRANSITION = s.stamp
      ∧ Only [Reg.LIFECYCLE.STATE, Reg.LIFECYCLE.TRANSITIONS, Reg.LIFECYCLE.LAST_TRANSITION, Reg.SECURITY_EVENTS.FLAGS,
          Reg.SECURITY_EVENTS.FLAGS + 7] [] s t)
  ∧ (∀ (s : State) (w : SessionNo), s.permits w 0x0210 0x02 3 = true → (s.reg Reg.LIFECYCLE.STATE = 1 ∨ s.reg Reg.LIFECYCLE.STATE = 2) →
    ∃ t, ∃ u : State, exec (.decommission w) s = .next t ∧ t.reg Reg.CONFIG_STORE.STATE = 3
      ∧ u.reg Reg.LIFECYCLE.STATE = 3 ∧ u.tab Tab.presence 7 = 1
      ∧ (∀ k, k < 4 → u.reg (Reg.KEY_SLOT.STATE k) = Dict.dflt (Reg.KEY_SLOT.STATE k) ∧ u.reg (Reg.KEY_SLOT.PUBLIC k) = Dict.dflt (Reg.KEY_SLOT.PUBLIC k))
      ∧ Only [Reg.CONFIG_STORE.STATE] [Tab.store] u.clearConfig t)

/-- A permitted write of a point of the curve to PUBLIC of an empty slot leaves the slot ENROLLED with that key and its SHA-384
digest, stamped. A permitted REVOKE, unless the life cycle is ENROLLED and the other slot of the role is empty, leaves the slot's
registers at their defaults. Nothing else changes. (R137, R8) -/
def Obligations.KeySlotsChange : Prop :=
  (∀ (s : State) (w : SessionNo) (k : Fin 4) (key : Nat), s.permits w (0x0220 + k) 0x03 key = true → s.keyEnrolled k = false →
    P384.onCurve (key / 2 ^ 384) (key % 2 ^ 384) = true →
    ∃ t, exec (.publicKey w k key) s = .next t ∧ t.reg (Reg.KEY_SLOT.STATE k) = 1 ∧ t.reg (Reg.KEY_SLOT.PUBLIC k) = key
      ∧ t.reg (Reg.KEY_SLOT.KEY_DIGEST k) = sha384 (toBE 96 key) ∧ t.reg (Reg.KEY_SLOT.ENROLLED_AT k) = s.stamp
      ∧ Only [Reg.KEY_SLOT.STATE k, Reg.KEY_SLOT.PUBLIC k, Reg.KEY_SLOT.KEY_DIGEST k, Reg.KEY_SLOT.ENROLLED_AT k] [] s t)
  ∧ (∀ (s : State) (w : SessionNo) (k : Fin 4), s.permits w (0x0220 + k) 0x05 1 = true →
    (s.reg Reg.LIFECYCLE.STATE = 1 → s.keyEnrolled (otherKey k) = true) →
    ∃ t, exec (.revoke w k) s = .next t ∧ t.reg (Reg.KEY_SLOT.STATE k) = Dict.dflt (Reg.KEY_SLOT.STATE k)
      ∧ t.reg (Reg.KEY_SLOT.PUBLIC k) = Dict.dflt (Reg.KEY_SLOT.PUBLIC k)
      ∧ Only [Reg.KEY_SLOT.STATE k, Reg.KEY_SLOT.PUBLIC k, Reg.KEY_SLOT.KEY_DIGEST k, Reg.KEY_SLOT.ENROLLED_AT k] [] s t)

/-- A sample of the seal counts where it mismatches the driven level and leaves INTACT as it was. A declared opening leaves INTACT 0
and the presence window closed, ENROLLED turned into TAMPERED, and in TAMPERED a wipe asked for; a declared closing leaves INTACT
1 and LOOP_STATE 0. A permitted WIPE asks for the wipe. A wipe that starts leaves WIPE_STATE 2 and no staging of the sealed
window; one that is done leaves every byte of the sealed bank 0, POLICY 0 and WIPE_STATE 3; with bytes that failed WIPE_STATE is 4
and the bank FAILED. (R129, R130, R131, R133, R134, R471) -/
def Obligations.SealAndWipe : Prop :=
  (∀ (s : State) (level : Bool),
    ∃ t, exec (.sealSample level) s = .next t
      ∧ t.reg Reg.SEAL.MISMATCH_SAMPLES = (if level ≠ (bit (s.seal Seal.lfsr) 30 != (s.seal Seal.second == 1))
          then (s.reg Reg.SEAL.MISMATCH_SAMPLES + 1) % 2 ^ 32 else s.reg Reg.SEAL.MISMATCH_SAMPLES)
      ∧ Only [Reg.SEAL.MISMATCH_SAMPLES] [Tab.presence] s t)
  ∧ (∀ s : State, s.seal Seal.due = 1 →
    ∃ t, exec .sealOpened s = .next t ∧ t.reg Reg.SEAL.INTACT = 0 ∧ t.reg Reg.PRESENCE.WINDOW_OPEN = 0 ∧ t.reg Reg.SEAL.LAST_OPEN = s.stamp
      ∧ (s.reg Reg.LIFECYCLE.STATE = 1 → t.reg Reg.LIFECYCLE.STATE = 2)
      ∧ (s.reg Reg.LIFECYCLE.STATE ≠ 1 → t.reg Reg.LIFECYCLE.STATE = s.reg Reg.LIFECYCLE.STATE)
      ∧ (s.reg Reg.LIFECYCLE.STATE = 1 ∨ s.reg Reg.LIFECYCLE.STATE = 2 → t.tab Tab.presence 7 = 1))
  ∧ (∀ s : State, s.seal Seal.due = 2 →
    ∃ t, exec .sealClosed s = .next t ∧ t.reg Reg.SEAL.INTACT = 1 ∧ t.reg Reg.SEAL.LOOP_STATE = 0 ∧ t.reg Reg.SEAL.LAST_CLOSE = s.stamp
      ∧ Only [Reg.SEAL.INTACT, Reg.SEAL.LOOP_STATE, Reg.SEAL.LAST_CLOSE, Reg.SECURITY_EVENTS.FLAGS, Reg.SECURITY_EVENTS.FLAGS + 4] [Tab.presence] s t)
  ∧ (∀ (s : State) (w : SessionNo), s.permits w 0x9400 0x02 1 = true →
    ∃ t, exec (.wipe w) s = .next t ∧ t.tab Tab.presence 7 = 1 ∧ Only [] [Tab.presence] s t)
  ∧ (∀ s : State, s.seal Seal.asked ≠ 0 → s.reg Reg.SEAL.WIPE_STATE ≠ 2 → (s.seal Seal.commanded ≠ 0 ∨ s.wipeDeferred = false) →
    ∃ t, exec .wipeStart s = .next t ∧ t.reg Reg.SEAL.WIPE_STATE = 2 ∧ t.staging? 0x9401 = none
      ∧ Only [Reg.SEAL.WIPE_STATE] [Tab.presence] { s with stagings := t.stagings } t)
  ∧ (∀ (s : State) (bad : List Nat), s.reg Reg.SEAL.WIPE_STATE = 2 →
    ∃ t, exec (.wipeDone bad) s = .next t ∧ t.reg Reg.SEALED_BANK.POLICY = 0
      ∧ (bad.filter (· < 65536) = [] → t.reg Reg.SEAL.WIPE_STATE = 3 ∧ (∀ a, a < 65536 → t.byte a = 0)
          ∧ ∀ a, 65536 ≤ a → t.byte a = s.byte a)
      ∧ (bad.filter (· < 65536) ≠ [] → t.reg Reg.SEAL.WIPE_STATE = 4 ∧ t.reg Reg.SEALED_BANK.STATE = 2))

/-- In WAIT_SIGNAL a detected signal leads to CDR_LOCK; from CDR_LOCK a locked clock leads to TRAINING, or to ADAPTING where the lane
does not train; training that completes to ADAPTING, with the taps that the far end has asked for at the driver, and that fails to
WAIT_SIGNAL with TRAINING_FAILED; convergence from ADAPTING to ALIGNING with the receiver's values, those the mode does not use 0.
A signal lost in bring-up, a fast retrain that times out and an unlocked transmit PLL lead to WAIT_SIGNAL. Only the lane's own
registers change. DATA_ENTERED in ALIGNING or RETRAIN leads to DATA and sets its flag; then only the port and what forwards its
frames follow. (R151, R153, R154, R157, R165, R166) -/
def Obligations.LaneBringsUp : Prop :=
  ∀ (s : State) (n : LaneNo),
    (∀ (c : Instr) (old new detect : Nat),
      ((c = .signalDetected n ∧ old = 1 ∧ new = 2 ∧ detect = 1)
        ∨ (c = .cdrLocked n ∧ old = 2 ∧ new = (if s.trains n then 3 else 4) ∧ detect = s.lane n 0x13)
        ∨ ((∃ taps precode, c = .trainingComplete ⟨n, taps, precode⟩) ∧ old = 3 ∧ new = 4 ∧ detect = s.lane n 0x13)
        ∨ (c = .trainingFailed n ∧ old = 3 ∧ new = 1 ∧ detect = s.lane n 0x13)
        ∨ (c = .bringupSignalLost n ∧ 2 ≤ old ∧ old ≤ 5 ∧ new = 1 ∧ detect = 0)
        ∨ (c = .fastRetrainTimeout n ∧ old = 7 ∧ new = 1 ∧ detect = s.lane n 0x13)
        ∨ (c = .txPllUnlock n ∧ old ≠ 0 ∧ old ≠ 6 ∧ old ≠ 8 ∧ new = 1 ∧ detect = s.lane n 0x13)) →
      s.laneState n = old →
      ∃ t, exec c s = .next t ∧ t.laneState n = new ∧ t.lane n 0x13 = detect
        ∧ (c = .trainingFailed n → bit (t.lane n 0x2F) 8 = true)
        ∧ (if c = .trainingFailed n then Only [laneKey n 0x01, laneKey n 0x2F, laneKey n 0x2F + 9] [Tab.laneForce] s t
            else Only [laneKey n 0x01, laneKey n 0x13] [Tab.laneForce, Tab.driverTap, Tab.precoded] s t)
        ∧ (∀ taps precode, c = .trainingComplete ⟨n, taps, precode⟩ → s.standbySlice n = false →
            t.driverTaps n = (List.range 5).map (fun i => if i < 2 ∧ s.lane n 0x02 ≤ 2 then 0 else toInt 32 (taps.getD i 0 % 2 ^ 32).toNat)))
    ∧ (∀ ctle ffe dfe ppm, s.laneState n = 4 →
      ∃ t, exec (.adaptationConverged n ctle ffe dfe ppm) s = .next t ∧ t.laneState n = 5
        ∧ t.lane n 0x10 = ctle % 32 ∧ t.lane n 0x14 = ppm % 2 ^ 32
        ∧ t.lane n 0x11 = (if s.standbySlice n then 0 else if s.lane n 0x02 ≤ 2 then ffe % 2 ^ 512 / 2 ^ 384 * 2 ^ 384 else ffe % 2 ^ 512)
        ∧ (s.lane n 0x02 ≤ 2 → t.lane n 0x12 = (if s.standbySlice n then dfe % 2 ^ 256 / 2 ^ 96 * 2 ^ 96 else dfe % 2 ^ 256))
        ∧ (3 ≤ s.lane n 0x02 → t.lane n 0x12 = dfe % 2 ^ 256 / 2 ^ 224 * 2 ^ 224)
        ∧ Only [laneKey n 0x01, laneKey n 0x10, laneKey n 0x11, laneKey n 0x12, laneKey n 0x14] [Tab.laneForce] s t)
    ∧ (s.laneState n = 5 ∨ s.laneState n = 7 →
      ∃ t u, exec (.dataEntered n) s = .next t ∧ t.laneState n = 6 ∧ bit (t.lane n 0x2F) 4 = true
        ∧ Only [laneKey n 0x01, laneKey n 0x2F, laneKey n 0x2F + 5] [Tab.laneForce] s u ∧ Fwd 0x140000 u t)

/-- In DATA, a lost signal, an unlocked clock, lost alignment, as many uncorrected codewords in the millisecond as UCW_RETRAIN_LIMIT
with AUTO_RETRAIN true, and a permitted RETRAIN lead to RETRAIN with causes 1 to 5; training frames from the far end lead to
CDR_LOCK with cause 6. LAST_RETRAIN_CAUSE is the cause, RETRAINS is one higher, and the flag of the cause is set; beyond the
lane's own registers only the port and what forwards its frames follow. A RETRAIN in any other state but DATA changes nothing.
(R155, R156, R157) -/
def Obligations.LaneLeavesData : Prop :=
  (∀ (s : State) (n : LaneNo) (c : Instr) (cause new : Nat), s.laneState n = 6 →
    ((c = .signalLost n ∧ cause = 1 ∧ new = 7) ∨ (c = .cdrUnlock n ∧ cause = 2 ∧ new = 7) ∨ (c = .lockLost n ∧ cause = 3 ∧ new = 7)
      ∨ (c = .ucwRetrain n ∧ s.lane n 0x16 = 1 ∧ s.lane n 0x17 ≤ s.uncorrectedNow n ∧ cause = 4 ∧ new = 7)
      ∨ ((∃ w, c = .retrain w n ∧ s.permits w (laneIdx n) 0x19 1 = true) ∧ cause = 5 ∧ new = 7)
      ∨ (c = .farEndTraining n ∧ cause = 6 ∧ new = 2)) →
    ∃ t u, exec c s = .next t ∧ t.laneState n = new ∧ t.lane n 0x1B = cause ∧ t.lane n 0x1A = (s.lane n 0x1A + 1) % 2 ^ 32
      ∧ (cause ≤ 3 → bit (t.lane n 0x2F) (cause - 1) = true) ∧ bit (t.lane n 0x2F) 3 = true
      ∧ (c = .signalLost n → t.lane n 0x13 = 0)
      ∧ Only [laneKey n 0x01, laneKey n 0x13, laneKey n 0x1A, laneKey n 0x1B, laneKey n 0x24, laneKey n 0x25, laneKey n 0x26, laneKey n 0x27,
          laneKey n 0x2F, laneKey n 0x2F + cause, laneKey n 0x2F + 4] [Tab.laneForce] { s with freeCtr := u.freeCtr } u ∧ Fwd 0x140000 u t)
  ∧ (∀ (s : State) (w : SessionNo) (n : LaneNo), s.laneState n ≠ 6 → s.permits w (laneIdx n) 0x19 1 = true →
    ∃ t, exec (.retrain w n) s = .next t ∧ Only [] [] s t)

/-- In DATA, SER_ALARM counts what the millisecond held and, above SER_ALARM_LIMIT, sets its flag; an uncorrected codeword sets its
own and counts in the millisecond; neither moves the lane. A gap at an elastic buffer holds the fill within R148, at the port's
lowest lane, and changes nothing else but its count. An elastic fault sets its flag and re-centres that buffer. A permitted write
of a tap that keeps the limits of R150 is held, one that breaks them is not, nor one while STATE is TRAINING. (R143, R148, R149,
R150, R156, R166) -/
def Obligations.LaneCountsAndTaps : Prop :=
  (∀ (s : State) (n : LaneNo) (errors blocks : Nat) (codewords : List Nat), s.laneState n = 6 →
    (s.lane n 0x03 ≠ 0 →
      ∃ t, exec (.serAlarm n ⟨errors, blocks, codewords⟩) s = .next t
        ∧ t.lane n 0x2F = (if s.lane n 0x18 < errors then setBit (s.lane n 0x2F) 5 true else s.lane n 0x2F)
        ∧ Only [laneKey n 0x2F, laneKey n 0x2F + 6] [] s t)
    ∧ (s.lane n 0x03 = 0 → ∃ t, exec (.serAlarm n ⟨errors, blocks, codewords⟩) s = .next t ∧ Only [] [] s t))
  ∧ (∀ (s : State) (n : LaneNo) (p : Nat), s.portOfLane n = some p → s.lane n 0x03 ≠ 0 → s.laneState n = 6 →
    ∃ t u, exec (.uncorrectedCw n) s = .next t ∧ t.laneState n = 6 ∧ bit (t.lane n 0x2F) 6 = true
      ∧ u.uncorrectedNow n = min (s.uncorrectedNow n + 1) (2 ^ 32 - 1)
      ∧ Only [laneKey n 0x2F, laneKey n 0x2F + 7] [Tab.uncorrected] s u ∧ Fwd 0x140000 u t)
  ∧ (∀ (s : State) (n : LaneNo) (tx : Bool) (fill : Fin 65) (gap : Nat), s.laneState n = 6 →
    let l := s.lowLane n
    (∃ t, exec (.shimDelete n tx fill gap) s = .next t
      ∧ (if tx then t.tab Tab.elasticTx l else t.lane l 0x15) = (if 40 ≤ fill.val ∧ 12 ≤ gap then fill.val - 1 else fill.val)
      ∧ (if tx then Only [] [Tab.elasticTx] s t else Only [laneKey l 0x15] [] s t))
    ∧ ∃ t, exec (.shimInsert n tx fill) s = .next t
      ∧ (if tx then t.tab Tab.elasticTx l else t.lane l 0x15) = (if fill.val ≤ 24 then fill.val + 1 else fill.val)
      ∧ (if tx then Only [] [Tab.elasticTx] s t else Only [laneKey l 0x15] [] s t))
  ∧ (∀ (s : State) (n : LaneNo) (p : Nat) (tx : Bool), s.portOfLane n = some p → s.laneState n = 6 →
    ∃ t u, exec (.elasticFault n tx) s = .next t ∧ bit (t.lane (s.lowLane n) 0x2F) 7 = true
      ∧ (if tx then t.tab Tab.elasticTx (s.lowLane n) else t.lane (s.lowLane n) 0x15) = 32
      ∧ Fwd 0x140000 s u
      ∧ Only [laneKey (s.lowLane n) 0x15, laneKey (s.lowLane n) 0x2F, laneKey (s.lowLane n) 0x2F + 8] [Tab.elasticTx] u t)
  ∧ (∀ (s : State) (w : SessionNo) (n : LaneNo) (tap : Fin 5) (value : Nat), s.permits w (laneIdx n) (0x09 + tap) value = true →
    let taps := (List.range 5).map (fun k => toInt 32 (if k = tap.val then value else s.lane n (0x09 + k)))
    (tapsOk taps = true → s.laneState n ≠ 3 →
      ∃ t, exec (.txTapWrite w n tap value) s = .next t ∧ t.lane n (0x09 + tap) = value
        ∧ Only [laneKey n (0x09 + tap), Reg.CONFIG_STORE.CONFIG_GEN] [Tab.driverTap] s t)
    ∧ (tapsOk taps = false ∨ s.laneState n = 3 → ∃ t, exec (.txTapWrite w n tap value) s = .next t ∧ Only [] [] s t))

/-- A permitted write of a non-zero LOOPBACK, or of a pattern of the lane's mode, is held and puts the lane into TEST. In TEST the
checker locks after matching bits; when it loses lock, what it compared while locked has been counted and it is unlocked; a
permitted PRBS_CLEAR zeroes both counters. EYE_START of an eye of the mode, with no scan running, starts one; a scan that is done
leaves the map, its height and EYE_STATE 2. (R158, R159, R160, R161, R162) -/
def Obligations.LaneTests : Prop :=
  (∀ (s : State) (w : SessionNo) (n : LaneNo) (c : Instr) (sub v : Nat), v ≠ 0 → s.laneState n ≠ 6 → s.laneState n ≠ 8 → s.lane n 0x1F = 0 →
    s.permits w (laneIdx n) sub v = true →
    ((c = .loopback w n v ∧ sub = 0x1C) ∨ (c = .prbsTx w n v ∧ sub = 0x1D ∧ patternOk (s.lane n 0x02) v false = true)
      ∨ (c = .prbsRx w n v ∧ sub = 0x1E ∧ patternOk (s.lane n 0x02) v true = true)) →
    ∃ t, exec c s = .next t ∧ t.lane n sub = v ∧ t.laneState n = 8
      ∧ Only [laneKey n 0x01, laneKey n sub, laneKey n 0x1F] [Tab.laneForce] s t)
  ∧ (∀ (s : State) (n : LaneNo),
    (s.laneState n = 8 → s.lane n 0x1E ≠ 0 →
      ∃ t, exec (.prbsLock n) s = .next t ∧ t.lane n 0x1F = 1 ∧ Only [laneKey n 0x1F] [] s t)
    ∧ (∀ counted errors, s.lane n 0x1F ≠ 0 →
      ∃ t, exec (.prbsLockLost n counted errors) s = .next t ∧ t.lane n 0x1F = 0
        ∧ t.lane n 0x20 = (s.lane n 0x20 + counted) % 2 ^ 64 ∧ t.lane n 0x21 = (s.lane n 0x21 + errors) % 2 ^ 64
        ∧ Only [laneKey n 0x1F, laneKey n 0x20, laneKey n 0x21] [] s t)
    ∧ (∀ w : SessionNo, s.permits w (laneIdx n) 0x22 1 = true →
      ∃ t, exec (.prbsClear w n) s = .next t ∧ t.lane n 0x20 = 0 ∧ t.lane n 0x21 = 0 ∧ Only [laneKey n 0x20, laneKey n 0x21] [] s t)
    ∧ (∀ (w : SessionNo) (eye : Nat), s.permits w (laneIdx n) 0x23 eye = true → (s.lane n 0x02 = 1 ∨ s.lane n 0x02 = 2 → eye = 1) →
      s.lane n 0x24 ≠ 1 →
      ∃ t, exec (.eyeStart w n eye) s = .next t ∧ t.lane n 0x24 = 1
        ∧ Only [laneKey n 0x24, laneKey n 0x27] [] { s with freeCtr := s.freeCtr + 1 } t)
    ∧ (∀ map : Bytes, s.lane n 0x24 = 1 → map.length = 2048 →
      ∃ t, exec (.eyeScanDone n map) s = .next t ∧ t.lane n 0x24 = 2 ∧ t.lane n 0x27 = ofBE map
        ∧ t.lane n 0x25 = 4 * zeroRun ((map.drop 1024).take 64) 32
        ∧ Only [laneKey n 0x24, laneKey n 0x25, laneKey n 0x26, laneKey n 0x27] [] { s with freeCtr := t.freeCtr } t))

/-- A port in COMING_UP whose delay has passed becomes UP: counted, stamped, LINK_UP set. Local fault on an enabled Ethernet or host
port, or remote fault where its lanes are in DATA, without that fault until then, sets its flag and leaves the port DOWN; when the
fault signals end, a port that is DOWN for them alone waits in COMING_UP. Beyond the port's link registers only what forwards its
frames follows. (R157, R174, R175) -/
def Obligations.LinkStateMoves : Prop :=
  (∀ (s : State) (p : Fin 514), s.reg (Reg.PORT.LINK_STATE p) = 2 →
    ∃ t u, exec (.linkUp p) s = .next t ∧ t.reg (Reg.PORT.LINK_STATE p) = 3
      ∧ t.reg (Reg.PORT.LINK_CHANGES p) = (s.reg (Reg.PORT.LINK_CHANGES p) + 1) % 2 ^ 32 ∧ t.reg (Reg.PORT.LAST_CHANGE p) = s.stamp
      ∧ bit (t.reg (Reg.PORT.EVENTS p)) 0 = true
      ∧ Only [Reg.PORT.LINK_STATE p, Reg.PORT.LINK_CHANGES p, Reg.PORT.LAST_CHANGE p, Reg.PORT.EVENTS p, Reg.PORT.EVENTS p + 1] [] s u
      ∧ Fwd 0x300000 u t)
  ∧ (∀ (s : State) (p : Fin 514) (c : Instr) (i : Nat), (c = .localFault p ∧ i = 0) ∨ (c = .remoteFault p ∧ i = 1) →
    bit (s.tab Tab.portFault p) i = false → (i = 1 → s.lanesUp p = true) → s.portKind p ≠ 2 → s.linkDisabled p = false →
    ∃ t u, exec c s = .next t ∧ t.reg (Reg.PORT.LINK_STATE p) = 1 ∧ bit (t.reg (Reg.PORT.EVENTS p)) (2 + i) = true
      ∧ Only [Reg.PORT.LINK_STATE p, Reg.PORT.LINK_CHANGES p, Reg.PORT.LAST_CHANGE p, Reg.PORT.EVENTS p, Reg.PORT.EVENTS p + 2,
          Reg.PORT.EVENTS p + (3 + i)] [Tab.portFault] s u ∧ Fwd 0x300000 u t)
  ∧ (∀ (s : State) (p : Fin 514), s.lanesUp p = true → s.portKind p ≠ 2 → s.linkDisabled p = false → s.reg (Reg.PORT.LINK_STATE p) = 1 →
    ∃ t, exec (.linkFaultCleared p) s = .next t ∧ t.reg (Reg.PORT.LINK_STATE p) = 2
      ∧ Only [Reg.PORT.LINK_STATE p, Reg.PORT.LINK_CHANGES p, Reg.PORT.LAST_CHANGE p] [Tab.portFault] s t)

/-- On a port whose lanes run, a PAUSE sets the pause timer of a host port with PAUSE_RX_ENABLE, and a PFC on an Ethernet fabric port
those of the classes enabled in it and in RX_ENABLE; each expiry leaves its timer 0. A host port that is UP and stopped by its
FIFO repeats its PAUSE while the fill stays at or above 128 KiB. The oldest bypass frame of a host port that is UP and not paused,
with no frame on the wire, no copy to send, more than one gate open or none, and time before the next edge, leaves and no other.
No register but counters changes. (R173, R177, R288, R593) -/
def Obligations.FlowControlFrames : Prop :=
  (∀ (s : State) (p : Fin 514) (quanta : Nat), 2 ≤ s.reg (Reg.PORT.LINK_STATE p) →
    ∃ t, exec (.pause p quanta) s = .next t ∧ Only [] [Tab.hostPause] s t
      ∧ (512 ≤ p.val → s.reg (Reg.PORT.PAUSE_RX_ENABLE p) = 1 → t.tab Tab.hostPause (p - 512) = quanta % 65536)
      ∧ (p.val < 512 ∨ s.reg (Reg.PORT.PAUSE_RX_ENABLE p) ≠ 1 → ∀ h, h < 2 → t.tab Tab.hostPause h = s.tab Tab.hostPause h))
  ∧ (∀ (s : State) (p : Fin 514) (enable : Nat) (times : List Nat), 2 ≤ s.reg (Reg.PORT.LINK_STATE p) → s.portKind p = 1 →
    ∃ t, exec (.pfc p enable times) s = .next t ∧ Only [] [Tab.pfcTimer] s t
      ∧ ∀ i, i < 8 → t.tab Tab.pfcTimer (8 * p + i)
          = (if bit enable i && bit (s.reg (Reg.PORT_PFC.RX_ENABLE p)) i then times.getD i 0 % 65536 else s.tab Tab.pfcTimer (8 * p + i)))
  ∧ (∀ (s : State) (h : HostNo), ∃ t, exec (.pauseTimerExpiry h) s = .next t ∧ t.tab Tab.hostPause h = 0 ∧ Only [] [Tab.hostPause] s t)
  ∧ (∀ (s : State) (p : FabricNo) (cls : Fin 8),
    ∃ t, exec (.pfcPauseExpiry p cls) s = .next t ∧ t.tab Tab.pfcTimer (8 * p + cls) = 0
      ∧ (∀ i, i ≠ 8 * p.val + cls.val → i < 2 ^ 40 → t.tab Tab.pfcTimer i = s.tab Tab.pfcTimer i) ∧ Only [] [Tab.pfcTimer] s t)
  ∧ (∀ (s : State) (h : HostNo), s.portUp (512 + h) = true → s.tab Tab.hostXoff h = 1 → 131072 ≤ s.hostFill h →
    ∃ t f, exec (.pauseRepeat h) s = .next t ∧ t.out = s.out ++ [.control (512 + h) f] ∧ Only [] [] { s with out := t.out } t)
  ∧ (∀ (s : State) (h : HostNo) (f : BypassFrame) (rest : List BypassFrame) (b : Bytes),
    b = s.bypassOctets (512 + h) f (s.freeBelow (2 ^ 40)) →
    (if h = 0 then s.zdp.bypass0 else s.zdp.bypass1) = f :: rest →
    s.portUp (512 + h) = true → s.tab Tab.hostPause h = 0 → s.bypassOnWire (512 + h) = false → s.noCopy (512 + h) = true →
    popCount 16 (s.gateMask (512 + h) s.clock.ptp) ≠ 1 →
    s.endsByEdge (512 + h) (b.length + 24) = true →
    ∃ t, exec (.bypassFrameStart h) s = .next t ∧ t.out = s.out ++ [.bypass (512 + h) b]
      ∧ List.IsPrefix rest (if h = 0 then t.zdp.bypass0 else t.zdp.bypass1)
      ∧ List.IsPrefix (if h = 0 then s.zdp.bypass1 else s.zdp.bypass0) (if h = 0 then t.zdp.bypass1 else t.zdp.bypass0)
      ∧ Only [] [Tab.zdpHeld, Tab.bypassEnd, Tab.islandReset] { s with zdp := t.zdp, out := t.out, freeCtr := s.freeCtr + 1 } t)

/-- While a Dalzan link is not RUNNING its end sends INIT with its number, grants and ACK. A valid INIT with ACK, on a link that
starts, gives the partner's grants and makes it RUNNING; a block that is not valid counts in DCB_ERRORS and changes nothing else.
A RUNNING link sends the next group's CREDIT; a valid CREDIT whose counts keep every queue's credits between 0 and its grant gives
the partner's counts; a time-out sets the fault of the group and its flag. A permitted LINK_RESET of a started link stops it and,
its lanes in DATA and no fence on it, starts it again. (R180, R181, R182, R183) -/
def Obligations.DalzanLinkRuns : Prop :=
  (∀ (s : State) (p : FabricNo), s.portKind p = 2 → s.reg (Reg.PORT.DALZAN_STATE p) = 1 →
    ∃ t f, exec (.dcbInitSend p) s = .next t ∧ t.out = s.out ++ [.control p (dcb f)] ∧ f.length = 28 ∧ f.headD 0 = 0x11
      ∧ f.getD 1 0 = s.tab Tab.dzSeq p ∧ Only [] [Tab.dzFlags] { s with out := t.out } t)
  ∧ (∀ (s : State) (p : FabricNo) (octets : Bytes), s.portKind p = 2 → s.reg (Reg.PORT.DALZAN_STATE p) ≠ 0 →
    (dcbValid 1 octets = false →
      ∃ t, exec (.dcbInitReceived p octets) s = .next t ∧ t.reg (Reg.PORT.DCB_ERRORS p) = (s.reg (Reg.PORT.DCB_ERRORS p) + 1) % 2 ^ 64
        ∧ Only [Reg.PORT.DCB_ERRORS p] [] s t)
    ∧ (dcbValid 0 octets = false →
      ∃ t, exec (.dcbCreditReceived p octets) s = .next t ∧ t.reg (Reg.PORT.DCB_ERRORS p) = (s.reg (Reg.PORT.DCB_ERRORS p) + 1) % 2 ^ 64
        ∧ Only [Reg.PORT.DCB_ERRORS p] [] s t))
  ∧ (∀ (s : State) (p : FabricNo) (octets : Bytes), s.portKind p = 2 → s.reg (Reg.PORT.DALZAN_STATE p) = 1 → dcbValid 1 octets = true →
    ofBE ((octets.drop 26).take 2) = 1 →
    ∃ t u, exec (.dcbInitReceived p octets) s = .next t ∧ t.reg (Reg.PORT.DALZAN_STATE p) = 2
      ∧ (∀ q, q < 16 → entryAt 16 2 (t.reg (Reg.PORT.PARTNER_GRANT p)) q = (ofBE ((octets.drop 2).take 24) >>> (12 * (15 - q))) % 4096 * 16)
      ∧ Only [Reg.PORT.DALZAN_STATE p, Reg.PORT.PARTNER_GRANT p, Reg.PORT.LINK_STATE p, Reg.PORT.LINK_CHANGES p, Reg.PORT.LAST_CHANGE p,
          Reg.PORT.EVENTS p, Reg.PORT.EVENTS p + 2] [Tab.dzFlags] s u ∧ Fwd 0x300000 u t)
  ∧ (∀ (s : State) (p : FabricNo), s.portKind p = 2 → s.reg (Reg.PORT.DALZAN_STATE p) = 2 →
    (∃ t f, exec (.dcbCreditSend p) s = .next t ∧ t.out = s.out ++ [.control p (dcb f)] ∧ f.length = 28 ∧ f.headD 0 = 0x10
      ∧ f.getD 1 0 = s.tab Tab.dzGroup p ∧ t.tab Tab.dzGroup p = (s.tab Tab.dzGroup p + 1) % 4
      ∧ Only [] [Tab.dzGroup] { s with out := t.out } t)
    ∧ (∀ group : Fin 4, ∃ t u, exec (.creditTimeout p group) s = .next t ∧ bit (t.reg (Reg.PORT.EVENTS p)) 4 = true
      ∧ u.tab Tab.creditFault (4 * p + group) = 1
      ∧ Only [Reg.PORT.EVENTS p, Reg.PORT.EVENTS p + 5] [Tab.creditFault] s u ∧ Fwd 0x300000 u t)
    ∧ (∀ octets : Bytes, dcbValid 0 octets = true →
      (∀ i, i < 4 → subMod 24 (if s.tab Tab.dzArrived (4 * p + octets.getD 1 0) = 0 then ofBE ((octets.drop (2 + 6 * i)).take 3)
          else s.sentNow p (4 * octets.getD 1 0 + i)) (ofBE ((octets.drop (5 + 6 * i)).take 3)) ≤ s.grant p (4 * octets.getD 1 0 + i)) →
      ∃ t u, exec (.dcbCreditReceived p octets) s = .next t
        ∧ (∀ i, i < 4 → u.tab Tab.dzPartnerReceived (16 * p + 4 * octets.getD 1 0 + i) = ofBE ((octets.drop (2 + 6 * i)).take 3)
            ∧ u.tab Tab.dzPartnerReturned (16 * p + 4 * octets.getD 1 0 + i) = ofBE ((octets.drop (5 + 6 * i)).take 3))
        ∧ Only [Reg.PORT.CELLS_LOST p, Reg.TALLY_CONTROL.UNITS_RECLAIMED, Reg.PORT.EVENTS p, Reg.PORT.EVENTS p + 6]
            [Tab.dzPartnerReceived, Tab.dzPartnerReturned, Tab.dzSent, Tab.dzArrived, Tab.creditFault] s u ∧ Fwd 0x300000 u t))
  ∧ (∀ (s : State) (w : SessionNo) (p : FabricNo), s.portKind p = 2 → s.reg (Reg.PORT.DALZAN_STATE p) ≠ 0 → s.lanesUp p = true →
    s.permits w (0x1400 + p) 0x14 1 = true →
    ∃ t, exec (.linkReset w p) s = .next t ∧ Only [] [] (s.dzReset p true) t ∧ Fwd 0x140000 s t)

/-- A permitted APPLY of an octet whose written values are valid and differ from those in effect reconfigures its ports and lanes,
leaves every register of the island as it was but for the lanes, the ports and what follows them, and counts one APPLY. With
values that fail R169 it is refused, and with none that differ it changes nothing. (R169, R170, R184) -/
def Obligations.OctetApplied : Prop :=
  ∀ (s : State) (w : SessionNo) (o : Fin 64), s.permits w (0x1800 + o) 0x0B 1 = true →
    (s.octetOk o = true → s.octetPending o = true →
      ∃ t, exec (.apply w o) s = .next t ∧ Only [regKey (0x1800 + o) 0x0D] [] (s.reconfigure o (s.octetWritten o)) t
        ∧ t.reg (regKey (0x1800 + o) 0x0D) = ((s.reconfigure o (s.octetWritten o)).reg (regKey (0x1800 + o) 0x0D) + 1) % 2 ^ 32
        ∧ Fwd 0x100000 s t)
    ∧ (s.octetOk o = false ∨ s.octetPending o = false → ∃ t, exec (.apply w o) s = .next t ∧ Only [] [] s t)

/-- On a port that is COMING_UP or UP of an operational device, a frame that is neither PAUSE nor PFC, nor ZDP or an address request
of a host, is held with its octets, port, partition and PTP time when nothing is fenced, the host FIFO has room and a Dalzan queue
has grant; a PAUSE or PFC frame is held until its FCS, and never accepted; a host's ZDP frame changes RX_MALFORMED at most; on
another port nothing happens. A frame built inside the device, of the runtime, or a reply that waits, is presented complete in the
same way. What has left, memory, gates and every register below PORT stay as they were. (R16, R19, R47, R171, R177, R244, R305,
R594) -/
def Obligations.FrameArrives : Prop :=
  (∀ (s : State) (p : Fin 514) (queue : QueueNo) (octets : FrameOctets),
    ((512 ≤ p.val → s.isZdpFrame octets = false ∧ s.isAddressRequest octets = false) → octets ≠ [] → s.coreOn = true →
      2 ≤ s.reg (Reg.PORT.LINK_STATE p) →
      (isPauseOrPfc octets = false → s.mode ≠ 4 →
        s.frameFenced p (if 512 ≤ p.val then hostPipe (p - 512) octets else pipeOf p 0) = false →
        (512 ≤ p.val → s.maxFrame p ≤ 262144 - s.hostFill (p - 512)) →
        (s.portKind p = 2 → s.dalzanUsed p queue + ceilDiv octets.length 256 ≤ s.tab Tab.dzGrant (16 * p + queue)) →
        octets.length ≤ s.maxFrame p →
        ∃ t f, exec (.frameStart p queue octets) s = .next t ∧ f ∈ t.frames ∧ f.id = s.nextFrame ∧ f.srcPort = p.val ∧ f.octets = octets
          ∧ f.ts = s.clock.ptp ∧ f.part = s.portPart p ∧ f.stage = 0 ∧ f.tailed = false ∧ t.copies = s.copies ∧ Fwd 0x140000 s t)
      ∧ (isPauseOrPfc octets = true →
        ∃ t f, exec (.frameStart p queue octets) s = .next t ∧ f ∈ t.frames ∧ f.id = s.nextFrame ∧ f.srcPort = p.val ∧ f.octets = octets
          ∧ f.stage = 3 ∧ t.copies = s.copies ∧ Fwd 0x140000 s t))
    ∧ ((512 ≤ p.val → s.isZdpFrame octets = false) →
      s.coreOn = false ∨ s.reg (Reg.PORT.LINK_STATE p) < 2 ∨ octets = [] ∨ (512 ≤ p.val ∧ s.isAddressRequest octets = true) →
      exec (.frameStart p queue octets) s = .next s)
    ∧ (512 ≤ p.val → s.isZdpFrame octets = true →
      ∃ t, exec (.frameStart p queue octets) s = .next t ∧ Only [Reg.ZDP_STATISTICS.RX_MALFORMED] [] s t))
  ∧ (∀ (s : State) (p : PortNo) (b : Built), s.coreOn = true → s.built.find? (fun b => b.port == p.val && b.kind != 0) = some b →
    s.mode ≠ 4 → 60 ≤ b.octets.length → b.octets.length + 4 ≤ s.maxFrame p → s.frameFenced p (pipeOf p 0) = false →
    ∃ t f, exec (.injectPresent p) s = .next t ∧ f ∈ t.frames ∧ f.id = s.nextFrame ∧ f.srcPort = p.val ∧ f.octets = b.octets
      ∧ f.tailed = true ∧ f.len = b.octets.length + 4 ∧ f.part = b.part
      ∧ f.mirror = b.mirror ∧ t.built = s.built.erase b ∧ t.copies = s.copies ∧ Fwd 0x300000 s t)
  ∧ (∀ (s : State) (octets : FrameOctets), s.coreOn = true → s.mgmtTags < 256 → s.mode ≠ 4 → s.frameFenced 642 (pipeOf 642 0) = false →
    (60 ≤ octets.length → octets.length + 4 ≤ s.maxFrame 642 →
      ∃ t f, exec (.mgmtFrameSend octets) s = .next t ∧ f ∈ t.frames ∧ f.id = s.nextFrame ∧ f.srcPort = 642 ∧ f.octets = octets
        ∧ f.part = noPart ∧ f.mgmtTag = true ∧ f.reply = 0 ∧ t.copies = s.copies ∧ Fwd 0x300000 s t)
    ∧ ∀ (r : Reply) (rest : List Reply) (b : Bytes), octets = [] → s.zdp.mgmt = r :: rest → b = s.replyFrame r (s.freeBelow (2 ^ 40)) →
      60 ≤ b.length → b.length + 4 ≤ s.maxFrame 642 →
      ∃ t f, exec (.mgmtFrameSend octets) s = .next t ∧ f ∈ t.frames ∧ f.id = s.nextFrame ∧ f.srcPort = 642 ∧ f.octets = b
        ∧ f.part = noPart ∧ f.mgmtTag = true ∧ f.reply = r.tagCode ∧ t.copies = s.copies ∧ Fwd 0x300000 s t)

/-- The tail of a frame that waits for its parser, of no Dalzan link and no MAC control frame, with at most MAX_FRAME octets in all,
leaves it held with those octets, its length with the FCS that it has, and the reason the tail gives it; one beyond MAX_FRAME with
its FCS is oversize. PARSER_START of such a frame, complete and the oldest of its port and pipeline, with room in its admission
queue, puts the frame that the ingress stages decide at the end of the line, to be admitted. No copy is made or ended. (R149,
R171, R188, R201, R245, R246, R259) -/
def Obligations.FrameEnds : Prop :=
  (∀ (s : State) (frame : Nat) (f : Frame) (octets : FrameOctets) (tail : TailEnd), s.frame? frame = some f → f.tailed = false →
    f.stage = 0 → f.pool ≠ Pool.dalzan → isMacControl (f.octets ++ octets) = false → (f.octets ++ octets).length ≤ s.maxFrame f.srcPort →
    f.octets = [] ∨ octets = [] ∨ startOctets f.srcPort ≤ f.octets.length →
    ∃ t g, exec (.frameTail frame octets tail) s = .next t ∧ g ∈ t.frames ∧ g.id = frame ∧ g.octets = f.octets ++ octets ∧ g.tailed = true
      ∧ g.len = f.octets.length + octets.length + (if delimited tail then 4 else 0) ∧ g.stage = 0
      ∧ g.tailReason = (if s.maxFrame f.srcPort < f.octets.length + octets.length + (if delimited tail then 4 else 0) then Drop.rxOversize
          else tailReason (f.octets ++ octets) tail)
      ∧ t.copies = s.copies ∧ Fwd 0x140000 s t)
  ∧ (∀ (s : State) (frame : Nat) (f : Frame) (octets : FrameOctets), s.frame? frame = some f → f.tailed = true → f.stage = 0 →
    s.parsesNext f = true → isMacControl f.octets = false → ((s.ingress f).1.waiting (s.ingress f).2.pipe).length < 64 →
    ∃ t, exec (.parserStart frame octets) s = .next t ∧ (s.ingress f).2.stage = 1
      ∧ t.frames = (s.ingress f).1.frames.filter (fun h => h.id != (s.ingress f).2.id) ++ [(s.ingress f).2] ∧ Fwd 0x140000 s t)
  ∧ (∀ (s : State) (frame : Nat) (f : Frame) (octets : FrameOctets), s.frame? frame = none ∨ (s.frame? frame = some f ∧ (f.stage ≠ 0 ∨ s.parsesNext f = false)) →
    exec (.parserStart frame octets) s = .next s)

/-- A decided frame first in line that carries a drop, or has no destination, is dropped whole and, its tail here, is held no more;
one still arriving with one destination that passes every check is charged and gains a copy queued for that port. A selection with
none before it, and no bypass frame on the wire, takes the head of the highest-numbered eligible strict queue, charging the
shapers its length and overhead. (R246, R250, R251, R252, R263, R265, R266, R272, R273, R274, R277) -/
def Obligations.AdmissionAndSelection : Prop :=
  (∀ (s : State) (frame : Nat) (f : Frame), s.frame? frame = some f → f.stage = 1 →
    (let w := s.waiting f.pipe
     let resv := fun (g : Frame) => s.poolOf g == Pool.resv
     ∃ g, (w.filter resv ++ w.filter (fun g => !resv g)).head? = some g ∧ g.id = f.id) →
    (f.tailed = true → f.drop ≠ 0 ∨ (f.dests = [] ∧ f.group = none) →
      ∃ t, exec (.bufferAdmission frame) s = .next t ∧ t.frames = s.frames.filter (fun g => g.id != f.id) ∧ Fwd 0x300000 s t)
    ∧ (∀ (e own shared : Nat), f.tailed = false → f.drop = 0 → f.group = none → f.dests = [e] →
      0 < s.ledgerFree Term.descQueued →
      s.cellsCheck { f with pool := s.poolOf f } (ceilDiv (if f.lenKnown then f.len else s.maxFrame f.srcPort) 256) = .ok (own, shared) →
      (s.putFrame { f with charge := ceilDiv (if f.lenKnown then f.len else s.maxFrame f.srcPort) 256 }).copyCheck
        { f with pool := s.poolOf f, charge := ceilDiv (if f.lenKnown then f.len else s.maxFrame f.srcPort) 256, resCells := own,
                 shCells := shared, stage := 2 } (ceilDiv (if f.lenKnown then f.len else s.maxFrame f.srcPort) 256) e = none →
      s.copiesOf f.id = [] → s.fenced 2 (16 * e + f.queue) = false → s.fenced 3 e = false →
      (514 ≤ e → e ≤ 641 → s.fenced 5 (e - 514) = false) → s.inRecovery e f.queue = false →
      ∃ t c g, exec (.bufferAdmission frame) s = .next t ∧ c ∈ t.copies ∧ c.id = s.nextCopy ∧ c.frame = f.id ∧ c.port = e
        ∧ c.queue = f.queue ∧ c.phase = 0 ∧ g ∈ t.frames ∧ g.id = f.id ∧ g.stage = 2 ∧ g.refs = f.refs + 1
        ∧ g.charge = ceilDiv (if f.lenKnown then f.len else s.maxFrame f.srcPort) 256 ∧ Fwd 0x300000 s t))
  ∧ (∀ (s : State) (p : PortNo) (c : Copy), (∀ d ∈ s.copies, d.port = p.val → d.phase ≠ 1) → s.bypassOnWire p = false → s.strictHead p = some c →
    s.isStrict p c.queue = true ∧ s.eligibleHead p c.queue = some c
    ∧ (∀ q, c.queue < q → q < 16 → s.isStrict p q = true → s.eligibleHead p q = none)
    ∧ ∃ t d, exec (.schedulerSelection p) s = .next t ∧ d ∈ t.copies ∧ d.id = c.id ∧ d.port = p.val ∧ d.phase = 1 ∧ d.start = s.clock.ptp
      ∧ t.frames = s.frames
      ∧ (s.qShaped p c.queue = true → t.reg (Reg.PORT_QSTATE.QSHAPE_LEVEL p) = setEntry 16 8 (s.reg (Reg.PORT_QSTATE.QSHAPE_LEVEL p)) c.queue
          (ofInt 64 (s.qLevel p c.queue - ((s.chargeOf c + s.reg (Reg.PORT_SCHED.OVERHEAD p)) * 10 ^ 6 : Nat))))
      ∧ Fwd 0x300000 s t)

/-- The selected copy of a port that is UP and transmits nothing, which no egress stage drops, is in transmission from now on with the
start instant of its selection and what the egress stages made of it. When its frame is complete it leaves with the octets that
remain of it, padded, and is a copy no more. A queued copy older than the port's age limit is a copy no more. What has left before
stays sent. (R172, R246, R257, R261, R264, R274, R307, R315) -/
def Obligations.CopiesLeave : Prop :=
  (∀ (s : State) (p : PortNo) (c : Copy) (f : Frame), s.copies.find? (fun c => c.port == p.val && c.phase == 1) = some c →
    s.frame? c.frame = some f → (∀ d ∈ s.copies, d.port = p.val → d.phase ≠ 2) → s.portUp p = true →
    (s.egress f c (pipeOf p (hvGet f.hv 10))).drop = 0 →
    ∃ t d, exec (.copyTxStart p) s = .next t ∧ d ∈ t.copies ∧ d.id = c.id ∧ d.phase = 2 ∧ d.start = c.start ∧ d.frame = c.frame
      ∧ (s.ptpMessage f = none → d.sent = (s.egress f c (pipeOf p (hvGet f.hv 10))).octets) ∧ Fwd 0x300000 s t)
  ∧ (∀ (s : State) (p : PortNo) (c : Copy) (f : Frame), s.copies.find? (fun c => c.port == p.val && c.phase == 2) = some c →
    s.frame? c.frame = some f → f.tailed = true →
    (p.val < 514 ∨ 641 < p.val ∨ s.ringRoom (p - 514) (c.octets f).length = true) →
    ∃ t, exec (.copyTxEnd p) s = .next t ∧ Out.frame p (c.octets f) false ∈ t.out ∧ (∀ d ∈ t.copies, d.id ≠ c.id)
      ∧ (∀ k, k < 0x300000 → quietReg k = true → faultReg k = false → k ≠ Reg.ZDP_STATISTICS.FABRIC_DISCARDED →
        k ≠ Reg.ZDP_STATISTICS.RX_MALFORMED → t.reg k = s.reg k)
      ∧ (p.val < 514 ∨ 641 < p.val → t.mem = s.mem) ∧ t.clock = s.clock)
  ∧ (∀ (s : State) (copy : Nat) (c : Copy) (f : Frame), s.copies.find? (fun c => c.id == copy && c.phase == 0) = some c →
    s.frame? c.frame = some f → s.reg (Reg.PORT_BUFFER.AGE_LIMIT_US c.port) ≠ 0 →
    f.ts + s.reg (Reg.PORT_BUFFER.AGE_LIMIT_US c.port) * 1000 * nsUnit < s.clock.ptp →
    ∃ t, exec (.aged copy) s = .next t ∧ (∀ d ∈ t.copies, d.id ≠ copy) ∧ Fwd 0x300000 s t)

/-- Whatever the frames are, no command of a frame's way through the device (arrival, parse, admission, tail, injection, selection,
start of transmission, ageing, a management frame) changes a register of the island, the lanes, sessions or ZDP, but for those of
interrupts, hardware counters and the faults found, and of a host's ZDP frame RX_MALFORMED; nor any byte of memory, a staging, the
time, or a gate list; and it takes back nothing that has left. Admission, selection, transmission and ageing change none of the
ports' registers either. (R15, R16) -/
def Obligations.ForwardingLeavesIsland : Prop :=
  ∀ (c : Instr) (s t : State), exec c s = .next t →
    ((∃ p q b, c = .frameStart p q b ∧ (512 ≤ p.val → s.isZdpFrame b = false)) ∨ (∃ f b, c = .parserStart f b) ∨ (∃ f b e, c = .frameTail f b e) → Fwd 0x140000 s t)
    ∧ ((∃ p q b, c = .frameStart p q b ∧ 512 ≤ p.val ∧ s.isZdpFrame b = true) → Only [Reg.ZDP_STATISTICS.RX_MALFORMED] [] s t)
    ∧ ((∃ f, c = .bufferAdmission f) ∨ (∃ p, c = .injectPresent p) ∨ (∃ p, c = .schedulerSelection p) ∨ (∃ p, c = .copyTxStart p)
      ∨ (∃ i, c = .aged i) ∨ (∃ b, c = .mgmtFrameSend b) → Fwd 0x300000 s t)

/-- A refill tick raises every enabled shaper's level by 5 micro-octets per kbit/s, and every valid policer's buckets likewise, each
capped at its burst, and changes no other level or bucket. A permitted write of PORT_SCHED on a port without reservations takes
its value, holds the levels, and clips them to a new burst; one that would run a shaper at rate 0 changes nothing; on a port with
reservations one that passes the evaluation takes its value, and one that fails it changes only the calculator's record. UNBLOCK
clears BLOCKED of its policer. HWM_CLEAR zeroes both marks of the selected queues. (R277, R280, R281, R283, R287, R292) -/
def Obligations.ShapersAndPolicers : Prop :=
  (∀ s : State, s.wf = true →
    ∃ t, exec .refillTick s = .next t
      ∧ (∀ p q, p < 643 → q < 16 → t.qLevel p q
          = if s.qShaped p q then refilled (s.qLevel p q) (s.qRate p q * 5) (s.qBurst p q) else s.qLevel p q)
      ∧ (∀ p, p < 643 → s.reg (Reg.PORT_SCHED.PSHAPE_BURST p) < 2 ^ 32 → t.pLevel p
          = if s.pShaped p then refilled (s.pLevel p) (s.reg (Reg.PORT_SCHED.PSHAPE_RATE p) * 5) (s.reg (Reg.PORT_SCHED.PSHAPE_BURST p))
            else s.pLevel p)
      ∧ (∀ i, i < 131072 → t.tab Tab.polC i
            = (if polValid (s.policerElem i) then min (polCbs (s.policerElem i) * 10 ^ 6) (s.tab Tab.polC i + polCir (s.policerElem i) * 5)
              else s.tab Tab.polC i)
          ∧ t.tab Tab.polE i
            = (if polValid (s.policerElem i) then min (polEbs (s.policerElem i) * 10 ^ 6) (s.tab Tab.polE i + polEir (s.policerElem i) * 5)
              else s.tab Tab.polE i))
      ∧ Only ((List.range 643).flatMap (fun p => [Reg.PORT_QSTATE.QSHAPE_LEVEL p, Reg.PORT_QSTATE.PSHAPE_LEVEL p])) [Tab.polC, Tab.polE] s t)
  ∧ (∀ (s : State) (w : SessionNo) (p : PortNo) (sub v : Nat), 1 ≤ sub → sub ≤ 9 → s.permits w (0x5000 + p) sub v = true →
    (s.zeroRate p sub v = true → exec (.portSchedWrite w p sub v) s = .next s.deliverDue)
    ∧ (s.zeroRate p sub v = false → s.carriesResv p = false →
      ∃ t, exec (.portSchedWrite w p sub v) s = .next t ∧ t.reg (regKey (0x5000 + p) sub) = v
        ∧ (∀ q, q < 16 → t.qLevel p q = if sub = 5 then clipLevel (s.qLevel p q) (entryAt 16 4 v q) else s.qLevel p q)
        ∧ t.pLevel p = (if sub = 8 then clipLevel (s.pLevel p) v else s.pLevel p)
        ∧ (sub ≠ 1 → Only [regKey (0x5000 + p) sub, Reg.PORT_QSTATE.QSHAPE_LEVEL p, Reg.PORT_QSTATE.PSHAPE_LEVEL p,
            Reg.CONFIG_STORE.CONFIG_GEN] [] s t)
        ∧ Only [regKey (0x5000 + p) sub, Reg.PORT_QSTATE.QSHAPE_LEVEL p, Reg.PORT_QSTATE.PSHAPE_LEVEL p, Reg.PORT_QSTATE.DEFICIT p,
            Reg.CONFIG_STORE.CONFIG_GEN] [Tab.drrCur, Tab.drrVisited] { s with drr := t.drr, copies := t.copies } t)
    ∧ (∀ fs, s.zeroRate p sub v = false → s.carriesResv p = true → (s.applySched p sub v).evaluate [] = .ok fs →
      ∃ t, exec (.portSchedWrite w p sub v) s = .next t ∧ t.reg (regKey (0x5000 + p) sub) = v
        ∧ t.reg Reg.ADMISSION_CONTROL.EVALUATIONS = (s.reg Reg.ADMISSION_CONTROL.EVALUATIONS + 1) % 2 ^ 64)
    ∧ (∀ x, s.zeroRate p sub v = false → s.carriesResv p = true → (s.applySched p sub v).evaluate [] = .error x →
      ∃ t, exec (.portSchedWrite w p sub v) s = .next t ∧ t.reg Reg.ADMISSION_CONTROL.REJECT_CAUSE = x.cause
        ∧ Only [Reg.ADMISSION_CONTROL.EVALUATIONS, Reg.ADMISSION_CONTROL.REJECT_CAUSE, Reg.ADMISSION_CONTROL.REJECT_PORT] []
            { s with freeCtr := t.freeCtr } t))
  ∧ (∀ (s : State) (w : SessionNo) (i : Nat), s.permits w 0x5602 0x01 i = true → i < 131072 →
    ∃ t, exec (.unblock w i) s = .next t ∧ t.tab Tab.polBlocked i = 0
      ∧ (∀ j, j < 131072 → j ≠ i → t.tab Tab.polBlocked j = s.tab Tab.polBlocked j) ∧ Only [] [Tab.polBlocked] s t)
  ∧ (∀ (s : State) (w : SessionNo) (p : PortNo) (mask : Nat), s.permits w (0x5300 + p) 0x07 mask = true →
    ∃ t, exec (.hwmClear w p mask) s = .next t
      ∧ (∀ q, q < 16 → entryAt 16 4 (t.reg (Reg.PORT_QSTATE.DEPTH_HWM p)) q
            = (if bit mask q then 0 else entryAt 16 4 (s.reg (Reg.PORT_QSTATE.DEPTH_HWM p)) q)
          ∧ entryAt 16 4 (t.reg (Reg.PORT_QSTATE.RESIDENCE_HWM p)) q
            = (if bit mask q then 0 else entryAt 16 4 (s.reg (Reg.PORT_QSTATE.RESIDENCE_HWM p)) q))
      ∧ Only [Reg.PORT_QSTATE.DEPTH_HWM p, Reg.PORT_QSTATE.RESIDENCE_HWM p] [] s t)

/-- A class in XOFF of an Ethernet port that is UP, whose usage is still at XON_CELLS or above, sends its PFC frame with time 0xFFFF
again and changes nothing else. The watchdog fires on a paused queue that holds a copy: its bit of IN_RECOVERY, the fault of the
queue and WATCHDOG_FIRED are set, and unless the action is DROP no copy is touched. The end of recovery clears both and sets
WATCHDOG_RECOVERED. A pause found on a queue that no enabled class maps to sets PAUSE_FAULT; on a queue that one maps to nothing
happens. (R289, R290, R291) -/
def Obligations.FlowWatchdog : Prop :=
  (∀ (s : State) (p : FabricNo) (cls : Fin 8), bit (s.reg (Reg.PORT_PFC.XOFF_STATE p)) cls = true →
    s.reg (Reg.PORT_PFC.XON_CELLS p) ≤ s.ingressUsage p cls →
    s.portKind p = 1 → s.portUp p = true →
    ∃ t, exec (.pfcRefresh p cls) s = .next t
      ∧ t.out = s.out ++ [.control p (macControl (s.reg Reg.IDENTITY.BASE_MAC) 0x0101
          (toBE 2 (2 ^ cls.val) ++ (List.range 8).flatMap (fun k => toBE 2 (if k = cls.val then 0xFFFF else 0))))]
      ∧ Only [] [] { s with out := t.out } t)
  ∧ (∀ (s : State) (p : FabricNo) (q : QueueNo), s.pfcPaused p q = true → s.inRecovery p q = false → s.queued p q ≠ [] →
    ∃ t u, exec (.watchdogFired p q) s = .next t
      ∧ u.reg (Reg.PORT_PFC.IN_RECOVERY p) = setBit (s.reg (Reg.PORT_PFC.IN_RECOVERY p)) q true
      ∧ bit (u.reg (Reg.PORT_PFC.EVENTS p)) 0 = true ∧ u.tab Tab.queueFault (16 * p + q) = setBit (s.tab Tab.queueFault (16 * p + q)) 0 true
      ∧ Only [Reg.PORT_PFC.IN_RECOVERY p, Reg.PORT_PFC.EVENTS p, Reg.PORT_PFC.EVENTS p + 1, Reg.FAULT_LOG.LOG_HEAD,
          Reg.FAULT_LOG.PERSISTED_HEAD] [Tab.queueFault, Tab.faultLog, Tab.faultPersisted] s u
      ∧ Fwd 0x300000 u t
      ∧ (s.reg (Reg.PORT_PFC.WATCHDOG_ACTION p) ≠ 2 → Only [] [Tab.resvClear, Tab.resvCause, Tab.resvState, Tab.resvDrained] u t))
  ∧ (∀ (s : State) (p : FabricNo) (q : QueueNo), s.inRecovery p q = true →
    ∃ t, exec (.watchdogRecovered p q) s = .next t
      ∧ t.reg (Reg.PORT_PFC.IN_RECOVERY p) = setBit (s.reg (Reg.PORT_PFC.IN_RECOVERY p)) q false
      ∧ bit (t.reg (Reg.PORT_PFC.EVENTS p)) 1 = true ∧ t.tab Tab.queueFault (16 * p + q) = setBit (s.tab Tab.queueFault (16 * p + q)) 0 false
      ∧ Only [Reg.PORT_PFC.IN_RECOVERY p, Reg.PORT_PFC.EVENTS p, Reg.PORT_PFC.EVENTS p + 2]
          [Tab.queueFault, Tab.resvClear, Tab.resvCause, Tab.resvState, Tab.resvDrained] s t)
  ∧ (∀ (s : State) (p : FabricNo) (q : QueueNo),
    (s.classMaps p q = true → exec (.pauseFault p q) s = .next s)
    ∧ (s.classMaps p q = false → ∃ t, exec (.pauseFault p q) s = .next t ∧ bit (t.reg (Reg.PORT_PFC.EVENTS p)) 2 = true
        ∧ t.reg Reg.FAULT_LOG.LOG_HEAD = (s.reg Reg.FAULT_LOG.LOG_HEAD + 1) % 2 ^ 16
        ∧ Only [Reg.PORT_PFC.EVENTS p, Reg.PORT_PFC.EVENTS p + 3, Reg.FAULT_LOG.LOG_HEAD, Reg.FAULT_LOG.PERSISTED_HEAD]
            [Tab.faultLog, Tab.faultPersisted, Tab.resvClear, Tab.resvCause, Tab.resvState, Tab.resvDrained] s t))

/-- At its instant, outside SETTLING, a scheduled commit of reservations is gone from the stagings and LOOKUP_EPOCH has advanced; each
staged VALID record of a pending or live reservation is its record, and the reservation is ACTIVE or SUSPENDED; one whose instant
has not come changes nothing. A SUSPENDED reservation without causes whose return instant has come returns to ACTIVE. A permitted
query shows D of each port for the reservation asked about. (R41, R334, R335, R342) -/
def Obligations.ReservationsRun : Prop :=
  (∀ (s : State) (g : Staging), s.coreOn = true → s.stagings.find? (fun h => h.window == 0x6810 && h.state == 3) = some g →
    (s.reg Reg.TIME_UNIT.STATE = 4 ∨ s.clock.ptp < g.instant → exec .resvCommitApply s = .next s.deliverDue)
    ∧ (s.reg Reg.TIME_UNIT.STATE ≠ 4 → g.instant ≤ s.clock.ptp → (g.elems.map (·.1)).Nodup → (∀ x ∈ g.elems, x.1 < 65536) →
      (∀ n ∈ s.resvList, n < 65536) → (∀ o ∈ s.oldResv, o.n < 65536) →
      ∃ t, exec .resvCommitApply s = .next t ∧ t.stagings = s.stagings.filter (fun h => h.window != 0x6810)
        ∧ t.reg Reg.LOOKUP_CONTROL.LOOKUP_EPOCH = (s.reg Reg.LOOKUP_CONTROL.LOOKUP_EPOCH + 1) % 2 ^ 32
        ∧ (∀ x ∈ g.elems, resvValid x.2 = true → (s.resvSt x.1 = 1 ∨ s.resvLive x.1 = true) →
          t.resvRecord x.1 = x.2 ∧ t.resvLive x.1 = true)
        ∧ t.mem = s.mem ∧ t.clock = s.clock ∧ t.copies = s.copies ∧ t.frames = s.frames ∧ t.out = s.out))
  ∧ (∀ (s : State) (n : ResvNo) (r : Nat), s.resvSt n = 3 → s.tab Tab.resvCause n = 0 → s.returnInstant n = some r → r ≤ s.clock.ptp →
    ∃ t, exec (.resvReturnActive n) s = .next t ∧ t.resvSt n = 2 ∧ t.tab Tab.resvReturn n = s.clock.ptp
      ∧ (∀ m, m < 65536 → m ≠ n.val → t.resvSt m = s.resvSt m ∧ t.tab Tab.resvReturn m = s.tab Tab.resvReturn m)
      ∧ Only [] [Tab.resvState, Tab.resvReturn] s t)
  ∧ (∀ (s : State) (w : SessionNo) (n : ResvNo), s.permits w 0x6801 0x01 n = true →
    ∃ t, exec (.boundQuery w n) s = .next t ∧ t.reg Reg.BOUND_QUERY.RESV = n
      ∧ (∀ p, p < 643 → entryAt 643 4 (t.reg Reg.BOUND_QUERY.D_BY_PORT) p = s.tab Tab.resvD (n * 1024 + p) % 2 ^ 32
          ∧ entryAt 643 4 (t.reg Reg.BOUND_QUERY.DMIN_BY_PORT) p = s.tab Tab.resvDminPort (n * 1024 + p) % 2 ^ 32)
      ∧ Only [Reg.BOUND_QUERY.RESV, Reg.BOUND_QUERY.D_BY_PORT, Reg.BOUND_QUERY.DMIN_BY_PORT] [] s t)

/-- A heartbeat renews and its time-out withdraws health. A debounced level of the partner, once evaluated, gives PARTNER_STATE, and
entering LOST makes a SECONDARY active; ISOLATED never does. The wait's end makes a SECONDARY active, REVERT makes it passive
while the partner is OK, and ROLE sets ACTIVE. A period takes the range's written values; of an enabled range with at most 32
dirty slots and room it sends one frame of 32-octet records, at least 60 octets long, for its queue and reservation, and clears
their marks; one without dirty slots sends none. A stream's history reset clears it and counts. (R336, R339, R340, R341) -/
def Obligations.DovetailPair : Prop :=
  (∀ (s : State) (w : SessionNo), s.permits w 0x6E00 0x04 1 = true →
    ∃ t, exec (.heartbeat w) s = .next t ∧ t.tab Tab.sticky 8 = 1 ∧ (∀ i, i < 64 → i ≠ 8 → t.tab Tab.sticky i = s.tab Tab.sticky i)
      ∧ Only [] [Tab.sticky] s t)
  ∧ (∀ s : State, (s.reg Reg.DOVETAIL.HEARTBEAT_MS = 0 → exec .heartbeatTimeout s = .next s)
    ∧ (s.reg Reg.DOVETAIL.HEARTBEAT_MS ≠ 0 → ∃ t, exec .heartbeatTimeout s = .next t ∧ t.healthy = false
        ∧ (∀ i, i < 64 → i ≠ 8 → t.tab Tab.sticky i = s.tab Tab.sticky i) ∧ Only [] [Tab.sticky] s t))
  ∧ (∀ (s : State) (level : SenseLevel),
    ∃ t, exec (.peerHealthyChange level) s = .next t ∧ (t.peerLow = true ↔ level = .low)
      ∧ t.reg Reg.DOVETAIL.PARTNER_STATE = (if s.tab Tab.sticky 6 = 0 then s.reg Reg.DOVETAIL.PARTNER_STATE
          else if level = .high then 2 else if s.partnerLink then 0 else s.reg Reg.DOVETAIL.PARTNER_STATE)
      ∧ t.reg Reg.DOVETAIL.ACTIVE = (if t.reg Reg.DOVETAIL.PARTNER_STATE = 2 ∧ s.reg Reg.DOVETAIL.PARTNER_STATE ≠ 2 ∧ s.secondary = true
          then 1 else s.reg Reg.DOVETAIL.ACTIVE)
      ∧ Only [Reg.DOVETAIL.PARTNER_STATE, Reg.DOVETAIL.ACTIVE, Reg.DOVETAIL.EVENTS, Reg.DOVETAIL.EVENTS + 1] [Tab.sticky] s t)
  ∧ (∀ s : State, s.tab Tab.sticky 6 = 1 → s.peerLow = true → s.partnerLink = false →
    ∃ t, exec .lossHoldExpiry s = .next t ∧ t.reg Reg.DOVETAIL.PARTNER_STATE = 1
      ∧ Only [Reg.DOVETAIL.PARTNER_STATE, Reg.DOVETAIL.EVENTS, Reg.DOVETAIL.EVENTS + 1] [Tab.sticky] s t)
  ∧ (∀ s : State, s.tab Tab.sticky 7 = 1 → s.secondary = true →
    ∃ t, exec .partnerWaitExpiry s = .next t ∧ t.reg Reg.DOVETAIL.ACTIVE = 1 ∧ t.tab Tab.sticky 7 = 0
      ∧ Only [Reg.DOVETAIL.ACTIVE] [Tab.sticky] s t)
  ∧ (∀ (s : State) (w : SessionNo), s.permits w 0x6E00 0x08 1 = true →
    ∃ t, exec (.revert w) s = .next t ∧ t.reg Reg.DOVETAIL.ACTIVE
        = (if s.reg Reg.DOVETAIL.ROLE = 1 ∧ s.reg Reg.DOVETAIL.PARTNER_STATE = 0 then 0 else s.reg Reg.DOVETAIL.ACTIVE)
      ∧ Only [Reg.DOVETAIL.ACTIVE] [] s t)
  ∧ (∀ (s : State) (w : SessionNo) (v : Nat), s.permits w 0x6E00 0x01 v = true →
    ∃ t, exec (.role w v) s = .next t ∧ t.reg Reg.DOVETAIL.ROLE = v ∧ t.reg Reg.DOVETAIL.ACTIVE = (if v = 0 then 1 else 0)
      ∧ Only [Reg.DOVETAIL.ROLE, Reg.DOVETAIL.ACTIVE, Reg.CONFIG_STORE.CONFIG_GEN] [Tab.sticky] s t)
  ∧ (∀ (s : State) (m : Fin 16), s.coreOn = true →
    (∃ t, exec (.mirrorPeriod m) s = .next t
      ∧ ∀ sub ∈ [0x01, 0x02, 0x03, 0x04, 0x05, 0x06, 0x07, 0x08, 0x0A, 0x0B, 0x0C], t.mirrorValue m sub = s.reg (regKey (0x6E10 + m) sub))
    ∧ (s.reg (Reg.MIRROR_RANGE.ENABLE m) ≠ 1 ∨ (s.adoptMirror m).dirtySlots m = [] →
      ∃ t, exec (.mirrorPeriod m) s = .next t ∧ Only [] [Tab.mirrorRange, Tab.mirrorDirty, Tab.win 0x7010] s t)
    ∧ (s.wf = true → s.reg (Reg.MIRROR_RANGE.ENABLE m) = 1 → (s.adoptMirror m).dirtySlots m ≠ [] →
      ((s.adoptMirror m).dirtySlots m).length ≤ 32 → s.reg (Reg.MIRROR_RANGE.FRAMES_MAX m) ≠ 0 →
      s.injectFull (s.reg (Reg.MIRROR_RANGE.INJECT_PORT m)) = false →
      ∃ t b, exec (.mirrorPeriod m) s = .next t ∧ t.built = s.built ++ [b] ∧ b.port = s.reg (Reg.MIRROR_RANGE.INJECT_PORT m)
        ∧ b.part = s.reg (Reg.MIRROR_RANGE.PARTITION m)
        ∧ b.mirror = some ⟨s.reg (Reg.MIRROR_RANGE.PORT m), s.reg (Reg.MIRROR_RANGE.QUEUE m), s.reg (Reg.MIRROR_RANGE.RESV m)⟩
        ∧ b.octets.length = max 60 (30 + 32 * ((s.adoptMirror m).dirtySlots m).length)
        ∧ t.dirtySlots m = [] ∧ t.tab Tab.mirrorSeq m = (s.tab Tab.mirrorSeq m + 1) % 65536
        ∧ Only [] [Tab.mirrorRange, Tab.mirrorDirty, Tab.mirrorSeq, Tab.win 0x7010] { s with built := t.built } t))
  ∧ (∀ (s : State) (stream : Fin 4096), bit (s.tab (Tab.win 0x6C00) stream) 63 = true → bit (s.tab Tab.cbHistory stream) 63 = true →
    ∃ t, exec (.cbHistoryReset stream) s = .next t ∧ t.tab Tab.cbHistory stream = 0
      ∧ bits (t.tab (Tab.win 0x6C01) stream) 95 64 = (bits (s.tab (Tab.win 0x6C01) stream) 95 64 + 1) % 2 ^ 32
      ∧ Only [] [Tab.cbHistory, Tab.win 0x6C01] s t)

/-- A port-A write whose checks pass stores the value in the type of the slot's attribute (free where a BOOL is neither 0 nor 1), with
quality, source sequence, producer and timestamp of the writer, increments the slot's SEQ, clears STALE, keeps WRITE_LOST and
FORCED, copies TYPE and counts one record written; no other slot changes. A write that fails a check is counted once where R359
says and changes no slot. (R358, R359) -/
def Obligations.SlotWritten : Prop :=
  ∀ (s : State) (port : Nat) (x : PortAWrite), x.w.slot < 131072 →
    let n := x.w.slot
    let a := s.slotAttr n
    let t := s.writeA port x
    let bad := bit a x.need = false ∨ (attrPort a ≠ 0xFFFF ∧ attrPort a ≠ port) ∨ (x.type ≠ 0 ∧ attrType a ≠ 0 ∧ x.type ≠ attrType a)
    let late := attrOrder a = true ∧ x.w.stamp < slotStamp (s.slot n)
    (bad → t.reg Reg.SIGNAL_CONTROL.RECORDS_REJECTED = (s.reg Reg.SIGNAL_CONTROL.RECORDS_REJECTED + 1) % 2 ^ 64
      ∧ Only [Reg.SIGNAL_CONTROL.RECORDS_REJECTED] [] s t)
    ∧ (¬bad → attrForce a = true → t.reg Reg.SIGNAL_CONTROL.FORCE_DISCARDS = (s.reg Reg.SIGNAL_CONTROL.FORCE_DISCARDS + 1) % 2 ^ 64
      ∧ Only [Reg.SIGNAL_CONTROL.FORCE_DISCARDS] [] s t)
    ∧ (¬bad → attrForce a = false → late → t.reg Reg.SIGNAL_CONTROL.OUT_OF_ORDER = (s.reg Reg.SIGNAL_CONTROL.OUT_OF_ORDER + 1) % 2 ^ 64
      ∧ Only [Reg.SIGNAL_CONTROL.OUT_OF_ORDER] [] s t)
    ∧ (¬bad → attrForce a = false → ¬late →
      (attrType a ≠ 1 → slotValue (t.slot n) = x.w.value % 2 ^ (if is32 (attrType a) then 32 else 64))
      ∧ (attrType a = 1 → slotValue (t.slot n) ≤ 1 ∧ (x.w.value ≤ 1 → slotValue (t.slot n) = x.w.value))
      ∧ slotQuality (t.slot n) = x.w.quality % 2 ^ 16 ∧ slotStamp (t.slot n) = x.w.stamp % 2 ^ 96
      ∧ leAt (t.slot n) 22 2 = x.w.srcSeq % 2 ^ 16 ∧ leAt (t.slot n) 24 2 = x.w.producer % 2 ^ 16
      ∧ slotType (t.slot n) = attrType a ∧ slotSeq (t.slot n) = (slotSeq (s.slot n) + 1) % 2 ^ 16
      ∧ bit (slotFlags (t.slot n)) 2 = false ∧ (∀ i, i < 2 → bit (slotFlags (t.slot n)) i = bit (slotFlags (s.slot n)) i)
      ∧ (∀ m, m < 131072 → m ≠ n → t.slot m = s.slot m)
      ∧ t.reg Reg.SIGNAL_CONTROL.RECORDS_WRITTEN = (s.reg Reg.SIGNAL_CONTROL.RECORDS_WRITTEN + 1) % 2 ^ 64
      ∧ Only [Reg.SIGNAL_CONTROL.RECORDS_WRITTEN] [Tab.win 0x7010, Tab.slotWritten, Tab.mirrorDirty] { s with freeCtr := t.freeCtr } t)

/-- The oldest handoff of a pipeline is taken and decoded, and each of its writes, or of the two handoffs', is counted once as
written, rejected, discarded, late or superseded; a pipeline without a handoff changes nothing. Beside any number of other
pipelines only slots and counts change. A stale check sets STALE of exactly the slots that are stale now. A permitted
CLEAR_WRITE_LOST clears the flag of its slot, or leaves it set by a loss of the same clock. A permitted SNAPSHOT latches the
session's range. (R360, R362, R371, R380) -/
def Obligations.SignalsServed : Prop :=
  let sum := fun (s : State) => s.reg Reg.SIGNAL_CONTROL.RECORDS_WRITTEN + s.reg Reg.SIGNAL_CONTROL.RECORDS_REJECTED
    + s.reg Reg.SIGNAL_CONTROL.FORCE_DISCARDS + s.reg Reg.SIGNAL_CONTROL.OUT_OF_ORDER + s.reg Reg.SIGNAL_CONTROL.SUPERSEDED
  let counts := [Reg.SIGNAL_CONTROL.RECORDS_WRITTEN, Reg.SIGNAL_CONTROL.RECORDS_REJECTED, Reg.SIGNAL_CONTROL.FORCE_DISCARDS,
    Reg.SIGNAL_CONTROL.OUT_OF_ORDER, Reg.SIGNAL_CONTROL.SUPERSEDED, Reg.SIGNAL_CONTROL.MALFORMED_USF, Reg.SIGNAL_CONTROL.CE_RECEIVED,
    Reg.SIGNAL_CONTROL.SHORT_ENTRIES]
  let tabs := [Tab.win 0x7010, Tab.slotWritten, Tab.mirrorDirty]
  (∀ (s : State) (pipe : Fin 64), s.handoffs.find? (fun x => x.pipe == pipe.val) = none → ∀ others, exec (.signalEngineWrite pipe others) s = .next s)
  ∧ (∀ (s : State) (pipe : Fin 64) (h : Handoff), s.handoffs.find? (fun x => x.pipe == pipe.val) = some h →
    let d := ({ s with handoffs := s.handoffs.erase h } : State).decodeHandoff h
    (∃ t, exec (.signalEngineWrite pipe []) s = .next t ∧ t.handoffs = s.handoffs.erase h
      ∧ sum t % 2 ^ 64 = (sum d.st + d.writes.length) % 2 ^ 64 ∧ Only counts tabs { s with handoffs := t.handoffs, freeCtr := t.freeCtr } t)
    ∧ (∀ (other : Fin 64) (g : Handoff), other ≠ pipe → (s.handoffs.erase h).find? (fun x => x.pipe == other.val) = some g →
      let d := ({ s with handoffs := (s.handoffs.erase h).erase g } : State).decodeHandoff h
      let e := d.st.decodeHandoff g
      ∃ t, exec (.signalEngineWrite pipe [other]) s = .next t ∧ t.handoffs = (s.handoffs.erase h).erase g
        ∧ sum t % 2 ^ 64 = (sum e.st + d.writes.length + e.writes.length) % 2 ^ 64
        ∧ Only counts tabs { s with handoffs := t.handoffs, freeCtr := t.freeCtr } t)
    ∧ ∀ others : List (Fin 64), ∃ t, exec (.signalEngineWrite pipe others) s = .next t
        ∧ Only counts tabs { s with handoffs := t.handoffs, freeCtr := t.freeCtr } t)
  ∧ (∀ s : State, s.wf = true → s.coreOn = true →
    ∃ t, exec .staleCheck s = .next t
      ∧ (∀ n, n < 131072 → (s.staleNow n (s.slotAttr n) = true → bit (slotFlags (t.slot n)) 2 = true)
          ∧ (s.staleNow n (s.slotAttr n) = false → t.slot n = s.slot n))
      ∧ Only [Reg.SIGNAL_CONTROL.STALE_TRANSITIONS, Reg.SIGNAL_CONTROL.EVENTS, Reg.SIGNAL_CONTROL.EVENTS + 2] [Tab.win 0x7010] s t)
  ∧ (∀ (s : State) (w : SessionNo) (n : Nat), n < 131072 → s.permits w 0x7000 0x08 n = true →
    (∃ t, exec (.clearWriteLost w n false) s = .next t ∧ bit (slotFlags (t.slot n)) 0 = false
      ∧ (∀ m, m < 131072 → m ≠ n → t.slot m = s.slot m) ∧ Only [] [Tab.win 0x7010] s t)
    ∧ (∃ t, exec (.clearWriteLost w n true) s = .next t ∧ bit (slotFlags (t.slot n)) 0 = true
      ∧ t.reg Reg.SIGNAL_CONTROL.LAST_WRITE_LOST_SLOT = n
      ∧ t.reg Reg.SIGNAL_CONTROL.WRITE_LOST_COUNT = (s.reg Reg.SIGNAL_CONTROL.WRITE_LOST_COUNT + 1) % 2 ^ 64
      ∧ bit (t.reg Reg.SIGNAL_CONTROL.EVENTS) 0 = true
      ∧ Only [Reg.SIGNAL_CONTROL.LAST_WRITE_LOST_SLOT, Reg.SIGNAL_CONTROL.WRITE_LOST_COUNT, Reg.SIGNAL_CONTROL.EVENTS,
          Reg.SIGNAL_CONTROL.EVENTS + 1] [Tab.win 0x7010] s t))
  ∧ (∀ (s : State) (w : SessionNo), s.permits w 0x7010 0x20 1 = true → s.rangeBase w 0x7010 + s.rangeCount w 0x7010 ≤ 131072 →
    ∃ t, exec (.signalSnapshot w) s = .next t ∧ t.tab Tab.signalLatched w = 1
      ∧ (∀ n, s.rangeBase w 0x7010 ≤ n → n < s.rangeBase w 0x7010 + s.rangeCount w 0x7010 → t.tab Tab.signalLatch (w * 2 ^ 17 + n) = s.slot n)
      ∧ Only [] [Tab.signalLatched, Tab.signalLatch] s t)

/-- The first instant of a timing at or after a time lies within one period of it and differs from the base by whole periods. ENABLE
starts a stopped group at its first instant at or after 100 µs from now with CYCLE_NUMBER 0; APPLY_TIMING schedules the written
timing unless an offset reaches the period. A cycle start that has come finishes what is due of the cycle before, advances
CYCLE_NUMBER, sets the next and latches the snapshot groups it triggers. A trigger is raised once a cycle and starts an idle bench
at its entry. A list runs once: it builds one frame for its port unless the group stands by or the port's queue is full. (R372,
R373, R377, R379, R400, R509) -/
def Obligations.CyclesRun : Prop :=
  (∀ base period x : Nat, 0 < period → x ≤ firstStart base period x ∧ firstStart base period x < x + period
    ∧ ∃ k : Int, (firstStart base period x : Int) = base + k * period)
  ∧ (∀ (s : State) (w : SessionNo) (g : GroupNo), s.permits w (0x7100 + g) 0x01 1 = true → s.reg (Reg.CYCLE_GROUP.ENABLE g) ≠ 1 →
    ∃ t, exec (.cycleGroupEnable w g) s = .next t ∧ t.reg (Reg.CYCLE_GROUP.ENABLE g) = 1 ∧ t.reg (Reg.CYCLE_GROUP.CYCLE_NUMBER g) = 0
      ∧ t.tab Tab.cycNext g = firstStart (s.groupBase g) (s.groupPeriod g) (nsCeil s.clock.ptp + 100000) + 1
      ∧ Only [Reg.CYCLE_GROUP.ENABLE g, Reg.CYCLE_GROUP.CYCLE_NUMBER g, Reg.CYCLE_GROUP.NEXT_START g, Reg.CONFIG_STORE.CONFIG_GEN]
          [Tab.cycTriggered, Tab.cycStart, Tab.cycNext, Tab.listRan] s t)
  ∧ (∀ (s : State) (w : SessionNo) (g : GroupNo), s.permits w (0x7100 + g) 0x05 1 = true →
    let period := s.reg (Reg.CYCLE_GROUP.PERIOD_NS g)
    let fits := s.reg (Reg.CYCLE_GROUP.TRIGGER_OFFSET g) * 5 < period * 4 ∧ ∀ e ∈ s.listsOf g, listOffset e.2 * 5 < period * 4
    (¬fits → exec (.applyTiming w g) s = .next s.deliverDue)
    ∧ (fits → ∃ t, exec (.applyTiming w g) s = .next t ∧ t.reg (Reg.CYCLE_GROUP.TIMING_PENDING g) = 1
        ∧ t.tab Tab.cycSwitch g = firstStart (time80Ns (s.reg (Reg.CYCLE_GROUP.BASE_TIME g))) period
            (max (s.tab Tab.cycNext g - 1) (nsCeil s.clock.ptp + 100000)) + 1
        ∧ Only [Reg.CYCLE_GROUP.TIMING_PENDING g, Reg.CYCLE_GROUP.NEXT_START g] [Tab.cycPending, Tab.cycSwitch, Tab.cycWritten] s t))
  ∧ (∀ (s : State) (g : GroupNo) (n : Nat), s.groupsAct = true → s.nextStart g = some n →
    let snaps := fun (k : Fin 16) => s.reg (Reg.SNAPSHOT_GROUP.TRIGGER k) = 1 ∧ s.reg (Reg.SNAPSHOT_GROUP.CYCLE_GROUP k) = g
    (∀ k, snaps k → s.reg (Reg.SNAPSHOT_GROUP.COUNT k) ≤ 8192) →
    (s.clock.ptp < n * nsUnit → exec (.cycleStart g) s = .next s.deliverDue)
    ∧ (n * nsUnit ≤ s.clock.ptp → ∃ t, exec (.cycleStart g) s = .next t
        ∧ t.reg (Reg.CYCLE_GROUP.CYCLE_NUMBER g) = (s.reg (Reg.CYCLE_GROUP.CYCLE_NUMBER g) + 1) % 2 ^ 64
        ∧ t.tab Tab.cycStart g = n + 1 ∧ t.tab Tab.cycNext g = n + t.groupPeriod g + 1
        ∧ (∀ k, snaps k → t.reg (Reg.SNAPSHOT_GROUP.SNAPS k) = (s.reg (Reg.SNAPSHOT_GROUP.SNAPS k) + 1) % 2 ^ 32)
        ∧ (s.triggerDue g = false → (∀ e ∈ s.listsOf g, s.listDue e.1 e.2 = false) → s.finishCycle g = s)
        ∧ ((∀ k, ¬snaps k) →
          Only [Reg.CYCLE_GROUP.CYCLE_NUMBER g, Reg.CYCLE_GROUP.NEXT_START g, Reg.CYCLE_GROUP.TIMING_PENDING g]
            [Tab.cycBase, Tab.cycPeriod, Tab.cycTrigger, Tab.cycSwitch, Tab.cycStart, Tab.cycNext] (s.finishCycle g) t)))
  ∧ (∀ (s : State) (g : GroupNo), s.groupsAct = true → s.reg (Reg.CYCLE_GROUP.ENABLE g) = 1 → s.offsetReached g (s.groupTrigger g) = true →
    (s.tab Tab.cycTriggered g = s.reg (Reg.CYCLE_GROUP.CYCLE_NUMBER g) + 1 → exec (.benchTrigger g) s = .next s)
    ∧ (s.tab Tab.cycTriggered g ≠ s.reg (Reg.CYCLE_GROUP.CYCLE_NUMBER g) + 1 → ∃ t, exec (.benchTrigger g) s = .next t
        ∧ t.tab Tab.cycTriggered g = s.reg (Reg.CYCLE_GROUP.CYCLE_NUMBER g) + 1
        ∧ (s.benchesOf g = [] ∨ (s.reg (Reg.CYCLE_GROUP.DOVETAIL g) = 2 ∧ s.dovetailActive = false) → Only [] [Tab.cycTriggered] s t)
        ∧ (∀ b : Fin 128, s.benchesOf g = [b.val] → s.reg (Reg.CYCLE_GROUP.DOVETAIL g) ≠ 2 ∨ s.dovetailActive = true → s.benchState b = 0 → s.benchHeld b = false →
          t.benchState b = 1 ∧ t.reg (Reg.BENCH.PC b) = s.reg (Reg.BENCH.TRIGGER_ENTRY b) ∧ t.cw b Cw.cause = 1
          ∧ t.cw b Cw.cycleNo = s.reg (Reg.CYCLE_GROUP.CYCLE_NUMBER g)
          ∧ Only ([Reg.BENCH.STATE b, Reg.BENCH.PC b, Reg.BENCH.CURRENT_JOB b] ++ modeRegs)
              [Tab.cycTriggered, Tab.benchRet, Tab.benchLoop, Tab.benchMisc, Tab.benchCw] s t)))
  ∧ (∀ (s : State) (l : Fin 4096), s.groupsAct = true →
    let v := s.listElem l
    let g := listGroup v
    let due := s.listDue l v = true
    let standby := 1 ≤ s.reg (Reg.CYCLE_GROUP.DOVETAIL g) ∧ s.dovetailActive = false
    (¬due → exec (.publicationRun l) s = .next s)
    ∧ (due → standby → ∃ t, exec (.publicationRun l) s = .next t ∧ t.tab Tab.listRan l = s.runMark g
        ∧ bits (t.elem 0x7033 0 l) 191 160 = (bits (s.elem 0x7033 0 l) 191 160 + 1) % 2 ^ 32 ∧ Only [] [Tab.listRan, Tab.win 0x7033] s t)
    ∧ (due → ¬standby → s.injectFull (listPort v) = true → ∃ t, exec (.publicationRun l) s = .next t
        ∧ bits (t.elem 0x7033 0 l) 223 192 = (bits (s.elem 0x7033 0 l) 223 192 + 1) % 2 ^ 32
        ∧ bit (t.reg (Reg.CYCLE_GROUP.EVENTS g)) 1 = true
        ∧ Only [Reg.CYCLE_GROUP.EVENTS g, Reg.CYCLE_GROUP.EVENTS g + 2] [Tab.listRan, Tab.win 0x7033] s t)
    ∧ (due → ¬standby → s.injectFull (listPort v) = false → ∃ t, exec (.publicationRun l) s = .next t
        ∧ t.built = s.built ++ [{ port := listPort v, part := listPart v, kind := 1, num := l, octets := s.buildList l v, mirror := none }]
        ∧ t.tab Tab.listSeq l = (s.tab Tab.listSeq l + 1) % 65536
        ∧ Only [] [Tab.listRan, Tab.listSeq, Tab.win 0x7033] { s with built := t.built } t))

/-- A descriptor without reserved bits on a free slot is QUEUED there, unless the job queue is fenced; another is refused and changes
nothing. A dispatch starts the oldest job that a bench may take, on the lowest such bench, at its ENTRY with its arguments in s0
to s5. A pending interrupt starts an idle bench at INT_ENTRY, RUN one at START_ENTRY and is refused otherwise. At most 128 tile
starts of a step are admitted, one at a time. A dictionary write of a bench completes, stored only where R398 allows it. The
oldest frame of a bench's send queue is presented. (R388, R395, R398, R400, R401, R402) -/
def Obligations.BenchesStart : Prop :=
  let regs := fun (b : Nat) => [Reg.BENCH.STATE b, Reg.BENCH.PC b, Reg.BENCH.CURRENT_JOB b] ++ modeRegs
  let tabs := [Tab.benchRet, Tab.benchLoop, Tab.benchMisc, Tab.benchCw]
  (∀ (s : State) (w : SessionNo) (d : Bytes), d.length = 64 → s.permits w 0x8000 0x01 (ofBE d) = true →
    let v := ofBE d
    let slot := jobSeq v % 4096
    let bad := bits v 475 470 ≠ 0 ∨ bits v 455 384 ≠ 0 ∨ s.jobSt slot ≠ 0 ∨ s.isFenced (holder 9 0) = true
    (bad → exec (.submit w d) s = .next s.deliverDue)
    ∧ (¬bad → ∃ t, exec (.submit w d) s = .next t ∧ t.jobSt slot = 1 ∧ t.tab Tab.jobDesc slot = v ∧ t.tab Tab.jobRecord slot = 0
        ∧ t.reg Reg.BENCH_DEVICE.SUBMITTED = (s.reg Reg.BENCH_DEVICE.SUBMITTED + 1) % 2 ^ 64
        ∧ (∀ k, k < 4096 → k ≠ slot → t.jobSt k = s.jobSt k ∧ t.tab Tab.jobDesc k = s.tab Tab.jobDesc k ∧ t.tab Tab.jobRecord k = s.tab Tab.jobRecord k)
        ∧ Only [Reg.BENCH_DEVICE.SUBMITTED] [Tab.jobState, Tab.jobDesc, Tab.jobOrder, Tab.jobRecord] s t))
  ∧ (∀ s : State, (s.nextDispatch = none → exec .jobDispatch s = .next s)
    ∧ ∀ k b, s.nextDispatch = some (k, b) →
      let d := s.tab Tab.jobDesc k
      ∃ t, exec .jobDispatch s = .next t ∧ t.benchState b = 1 ∧ t.reg (Reg.BENCH.PC b) = jobEntry d ∧ t.cw b Cw.cause = 2
        ∧ t.cw b Cw.jobSeq = jobSeq d ∧ t.reg (Reg.BENCH.CURRENT_JOB b) = jobSeq d ∧ t.misc b 4 = k + 1 ∧ t.jobSt k = 2
        ∧ (∀ i, i < 6 → t.sReg b i = bits d (383 - 64 * i) (320 - 64 * i))
        ∧ Only (regs b) (tabs ++ [Tab.benchS, Tab.jobState, Tab.jobRecord]) s t)
  ∧ (∀ (s : State) (b : BenchNo), s.mayStartProgram b = true → s.tab Tab.benchTrigger b = 0 → s.interruptReady b = true →
    ∃ t, exec (.benchIntStart b) s = .next t ∧ t.benchState b = 1 ∧ t.reg (Reg.BENCH.PC b) = s.reg (Reg.BENCH.INT_ENTRY b)
      ∧ t.cw b Cw.cause = 3 ∧ Only (regs b) tabs s t)
  ∧ (∀ (s : State) (w : SessionNo) (b : BenchNo), s.permits w (0x8100 + b) 0x02 1 = true →
    (s.mayStartProgram b = false → exec (.run w b) s = .next s.deliverDue)
    ∧ (s.mayStartProgram b = true → ∃ t, exec (.run w b) s = .next t ∧ t.benchState b = 1
        ∧ t.reg (Reg.BENCH.PC b) = s.reg (Reg.BENCH.START_ENTRY b) ∧ t.cw b Cw.cause = 0 ∧ Only (regs b) tabs s t))
  ∧ (∀ s : State, (s.clampNext = none ∨ 128 ≤ s.clampUsed → exec .tileStartAdmitted s = .next s)
    ∧ ∀ i, s.clampNext = some i → s.clampUsed < 128 →
      ∃ t, exec .tileStartAdmitted s = .next t ∧ t.tab Tab.tileWait i = 0 ∧ t.clampUsed = s.clampUsed + 1
        ∧ ((∀ j, j / 16 = i / 16 → j ≠ i → s.tab Tab.tileWait j = 0) → t.misc (i / 16) 5 = 1)
        ∧ (∀ j, j / 16 = i / 16 → j ≠ i → s.tab Tab.tileWait j ≠ 0 → t.misc (i / 16) 5 = s.misc (i / 16) 5)
        ∧ Only [] [Tab.tileWait, Tab.clamp, Tab.benchMisc] s t)
  ∧ (∀ (s : State) (b : BenchNo) (lost : Bool), s.misc b 1 = 0 → exec (.dictDone b lost) s = .next s)
  ∧ (∀ (s : State) (b : BenchNo) (lost : Bool) (p : Nat), s.misc b 1 = p + 1 →
    let idx := bits p 95 80
    let sub := bits p 79 72
    ∃ t, exec (.dictDone b lost) s = .next t ∧ t.misc b 1 = 0 ∧ bit (t.cw b Cw.status) 3 = true
      ∧ (idx = 0x8100 + b ∧ sub = 0x10 → t.cw b Cw.dictResult = Code.ok ∧ t.reg (Reg.BENCH.USER_STATUS b) = bits p 63 0
          ∧ Only [Reg.BENCH.USER_STATUS b] [Tab.benchMisc, Tab.benchCw] s t)
      ∧ (idx = 0x6E00 ∧ sub = 0x04 ∧ bits p 63 0 = 1 → t.cw b Cw.dictResult = Code.ok ∧ t.tab Tab.sticky 8 = 1
          ∧ Only [] [Tab.benchMisc, Tab.benchCw, Tab.sticky] s t)
      ∧ (¬(idx = 0x8100 + b ∧ sub = 0x10) → ¬(idx = 0x7000 ∧ sub = 0x08) → ¬(idx = 0x6E00 ∧ sub = 0x04) →
          t.cw b Cw.dictResult = Code.hostNotAllowed ∧ Only [] [Tab.benchMisc, Tab.benchCw] s t))
  ∧ (∀ (s : State) (b : BenchNo), s.sendQueue b = [] → exec (.benchFramePresent b) s = .next s)
  ∧ (∀ (s : State) (b : BenchNo) (x : Nat) (rest : List Nat), s.sendQueue b = x :: rest → s.coreOn = true →
    ∃ t u, exec (.benchFramePresent b) s = .next t ∧ u.sendQueue b = rest
      ∧ bits (u.cw b Cw.status) 31 16 = (bits (s.cw b Cw.status) 31 16 + 1) % 2 ^ 16
      ∧ Only [] [Tab.benchSend, Tab.benchCw] s u ∧ Fwd 0x140000 u t)

/-- A permitted CANCEL_CLASS completes every queued job of its class as CANCELLED and no other. HALT of a program, and its run limit,
leave the bench HALTED with its flag, its job completed under HALTED or TRAP, its send queue empty, and banks that return on end
with the host. RESET and RESET_CLEAR put a bench that is not FENCED into RESETTING with its registers and pc 0; at its end scratch
is 0 where asked, and the bench idle or started by a pending trigger. A barrier's time-out releases its benches with their flags.
No other bench changes state. (R402, R403, R407, R408, R409, R410) -/
def Obligations.BenchesEnd : Prop :=
  let others := fun (b : Nat) (s t : State) => ∀ c, c < 128 → c ≠ b → t.benchState c = s.benchState c
    ∧ t.reg (Reg.BENCH.PC c) = s.reg (Reg.BENCH.PC c) ∧ ∀ i, i < 64 → t.sReg c i = s.sReg c i
  let ended := fun (b status : Nat) (s t : State) => t.benchState b = 3 ∧ t.reg (Reg.BENCH.CURRENT_JOB b) = 0 ∧ t.sendQueue b = []
    ∧ (∀ slot, slot < 4096 → s.misc b 4 = slot + 1 → t.jobSt slot = 3 ∧ octetsAt 256 (t.tab Tab.jobRecord slot) 4 1 = status)
    ∧ (∀ k, k ∈ s.banksOf b → s.reg (Reg.POOL_BANK.RETURN_ON_END k) = 1 → t.bankOwner k = ownerHost) ∧ t.mem = s.mem
  (∀ (s : State) (w : SessionNo) (c : Nat), s.permits w 0x8000 0x07 c = true → s.wf = true →
    (15 < c → exec (.cancelClass w c) s = .next s.deliverDue)
    ∧ (c ≤ 15 → ∃ t, exec (.cancelClass w c) s = .next t
        ∧ (∀ k, k < 4096 → (s.jobSt k = 1 ∧ jobClass (s.tab Tab.jobDesc k) = c →
              t.jobSt k = 3 ∧ octetsAt 256 (t.tab Tab.jobRecord k) 4 1 = 4 ∧ octetsAt 256 (t.tab Tab.jobRecord k) 5 1 = 0xFF)
            ∧ (¬(s.jobSt k = 1 ∧ jobClass (s.tab Tab.jobDesc k) = c) →
              t.jobSt k = s.jobSt k ∧ t.tab Tab.jobRecord k = s.tab Tab.jobRecord k))
        ∧ Only [Reg.BENCH_DEVICE.RING_HEAD] [Tab.jobState, Tab.jobRecord, Tab.jobRing] s t))
  ∧ (∀ (s : State) (w : SessionNo) (b : BenchNo), s.permits w (0x8100 + b) 0x02 2 = true →
    (s.benchActive b = false → exec (.halt w b) s = .next s.deliverDue)
    ∧ (s.benchActive b = true → ∃ t, exec (.halt w b) s = .next t ∧ ended b 2 s t ∧ bit (t.reg (Reg.BENCH.EVENTS b)) 1 = true ∧ others b s t))
  ∧ (∀ (s : State) (b : BenchNo), s.coreOn = true → s.benchActive b = true → s.misc b 0 ≠ 0 →
    ∃ t, exec (.runLimit b) s = .next t ∧ ended b 1 s t ∧ t.reg (Reg.BENCH.TRAP_CAUSE b) = 5
      ∧ t.reg (Reg.BENCH.TRAP_PC b) = s.reg (Reg.BENCH.PC b) ∧ bit (t.reg (Reg.BENCH.EVENTS b)) 0 = true ∧ others b s t)
  ∧ (∀ (s : State) (w : SessionNo) (b : BenchNo) (c : Instr) (v : Nat), (c = .benchReset w b ∧ v = 3) ∨ (c = .benchResetClear w b ∧ v = 4) →
    s.permits w (0x8100 + b) 0x02 v = true →
    (s.benchState b = 4 → exec c s = .next s.deliverDue)
    ∧ (s.benchState b ≠ 4 → ∃ t, exec c s = .next t ∧ t.benchState b = 5 ∧ t.reg (Reg.BENCH.PC b) = 0
        ∧ (∀ i, i < 64 → t.sReg b i = 0) ∧ (∀ i, i < 32 → t.vReg b i = 0) ∧ (∀ i, i < 16 → t.tReg b i = 0)
        ∧ t.tab Tab.benchTrigger b = 0 ∧ t.misc b 2 = (if v = 4 ∨ s.misc b 2 = 1 then 1 else 0) ∧ t.mem = s.mem ∧ others b s t))
  ∧ (∀ (s : State) (b : BenchNo), (s.benchState b ≠ 5 → exec (.benchResetDone b) s = .next s)
    ∧ (s.benchState b = 5 → ∃ t, exec (.benchResetDone b) s = .next t ∧ t.misc b 2 = 0
        ∧ (s.misc b 2 = 1 → ∀ a, a < scratchSize → t.byte (scratchAddr b a) = 0) ∧ (s.misc b 2 ≠ 1 → t.mem = s.mem)
        ∧ (s.tab Tab.benchTrigger b = 0 → t.benchState b = 0
            ∧ OnlyMem ([Reg.BENCH.STATE b, Reg.BENCH.CURRENT_JOB b] ++ modeRegs) [Tab.benchMisc] (scratchAddr b 0) (scratchAddr b scratchSize) s t)
        ∧ (s.tab Tab.benchTrigger b ≠ 0 → t.benchState b = 1 ∧ t.reg (Reg.BENCH.PC b) = s.reg (Reg.BENCH.TRIGGER_ENTRY b))
        ∧ others b s t))
  ∧ (∀ (s : State) (k : Fin 32), s.wf = true → s.reg (Reg.BARRIER.TIMEOUT_US k) ≠ 0 → s.reg (Reg.BARRIER.ARRIVED k) ≠ 0 →
    ∃ t, exec (.barrierTimeout k) s = .next t ∧ t.reg (Reg.BARRIER.ARRIVED k) = 0
      ∧ t.reg (Reg.BARRIER.GENERATION k) = (s.reg (Reg.BARRIER.GENERATION k) + 1) % 2 ^ 32
      ∧ t.reg (Reg.BARRIER.TIMEOUTS k) = (s.reg (Reg.BARRIER.TIMEOUTS k) + 1) % 2 ^ 32
      ∧ (∀ b, b < 128 → s.misc b 6 = k + 1 → t.benchState b = 1 ∧ t.misc b 6 = 0 ∧ bit (t.cw b Cw.status) 2 = true
          ∧ bit (t.reg (Reg.BENCH.EVENTS b)) 3 = true)
      ∧ (∀ b, b < 128 → s.misc b 6 ≠ k + 1 → t.benchState b = s.benchState b ∧ t.misc b 6 = s.misc b 6))

/-- A permitted TEST_RAISE of a source that is not reserved applies one trigger to it, as its input would: TRIGGERS goes up by one, an
ACTIVE source becomes ACTIVE_PENDING, whatever SENSE is, and no register (so no flag of the owning object), table or memory
changes beyond those of interrupts. Of a reserved source it is answered RANGE and changes nothing. (R494) -/
def Obligations.TestRaiseTriggers : Prop :=
  ∀ (s : State) (w : SessionNo) (n : Nat), s.permits w 0x0800 0x02 n = true →
    (IntCat.reserved n = true → (s.hostWrite w 0x0800 0x02 n (testRaiseEffect n)).code = Code.range
      ∧ exec (.testRaise w n) s = .next s.deliverDue)
    ∧ (IntCat.reserved n = false → exec (.testRaise w n) s = .next (s.trigger n).deliverDue
      ∧ (s.trigger n).reg Reg.INT_CONTROL.TRIGGERS = (s.reg Reg.INT_CONTROL.TRIGGERS + 1) % 2 ^ 64
      ∧ (s.srcState n = 2 → (s.trigger n).srcState n = 3)
      ∧ Only [] [] s (s.trigger n).deliverDue)

/-- When the timer of an attention class expires, every enabled source of the class pending at the host is delivered: ATTN_SEQ
advances by their number, and one batch is counted. A timer that does not run expires without effect. MGMT_CLAIM claims and
completes what pends at target 128. Neither changes a register, table or byte beyond those of interrupts. (R86, R119, R492, R495) -/
def Obligations.InterruptsAreServed : Prop :=
  (∀ (s : State) (c : Fin 8), bit (s.reg Reg.ATTN_MODERATION.TIMERS_RUNNING) c = true →
    ∃ u : State, exec (.attnBatch c) s = .next u.deliverDue
      ∧ u.attn.seq % 2 ^ 16 = (s.attn.seq + (s.claimable 129 (fun n => s.srcClass n == c.val)).length) % 2 ^ 16
      ∧ u.reg Reg.ATTN_MODERATION.BATCHES = (s.reg Reg.ATTN_MODERATION.BATCHES + 1) % 2 ^ 64 ∧ Only [] [] s u.deliverDue)
  ∧ (∀ (s : State) (c : Fin 8), bit (s.reg Reg.ATTN_MODERATION.TIMERS_RUNNING) c = false → exec (.attnBatch c) s = .next s)
  ∧ (∀ s : State, ∃ t, exec .mgmtClaim s = .next t ∧ Only [] [] s t)

/-- In SERVO_MODE 0 a host's write of MEASURED_OFFSET, FREQ_ADJ, OFFSET_ADJ or SET_TIME is answered RESOURCE_OWNED and changes
nothing, and in SERVO_MODE 1 the runtime's is and the host's is not; the commands change nothing then. A permitted write of
SERVO_MODE takes its value and leaves the unit in FREE_RUN with no good reports. (R299) -/
def Obligations.ServoOwnsTime : Prop :=
  (∀ (s : State) (runtime : Bool) (sub v : Nat), sub ∈ [0x08, 0x09, 0x0A, 0x0B] →
    (s.reg Reg.TIME_UNIT.SERVO_MODE ≠ (if runtime then 0 else 1) →
      (timeEffect runtime sub v s).code = Code.resourceOwned ∧ (timeEffect runtime sub v s).st = s)
    ∧ (s.reg Reg.TIME_UNIT.SERVO_MODE = (if runtime then 0 else 1) → (timeEffect runtime sub v s).code ≠ Code.resourceOwned))
  ∧ (∀ (s : State) (w : SessionNo) (v : Nat), s.reg Reg.TIME_UNIT.SERVO_MODE = 0 →
    (s.permits w 0x6000 0x08 v = true → exec (.measuredOffset false w v) s = .next s.deliverDue)
    ∧ (s.permits w 0x6000 0x0A v = true → exec (.offsetAdj false w v) s = .next s.deliverDue)
    ∧ (s.permits w 0x6000 0x0B v = true → exec (.setTime false w v) s = .next s.deliverDue))
  ∧ (∀ (s : State) (w : SessionNo) (v : Nat), s.reg Reg.TIME_UNIT.SERVO_MODE ≠ 0 →
    exec (.measuredOffset true w v) s = .next s ∧ exec (.offsetAdj true w v) s = .next s ∧ exec (.setTime true w v) s = .next s)
  ∧ (∀ (s : State) (w : SessionNo) (v : Nat), s.permits w 0x6000 0x04 v = true →
    ∃ t, exec (.servoMode w v) s = .next t ∧ t.reg Reg.TIME_UNIT.SERVO_MODE = v ∧ t.reg Reg.TIME_UNIT.STATE = 0
      ∧ t.reg Reg.TIME_UNIT.GOOD_REPORTS = 0
      ∧ Only [Reg.TIME_UNIT.SERVO_MODE, Reg.TIME_UNIT.STATE, Reg.TIME_UNIT.GOOD_REPORTS, Reg.TIME_UNIT.EVENTS, Reg.TIME_UNIT.EVENTS + 2,
          Reg.CONFIG_STORE.CONFIG_GEN] [Tab.resvClear, Tab.resvCause, Tab.resvState, Tab.resvDrained]
          (if s.timeState = 4 then s.holdSwaps else s) t)

/-- A tick of the running core without a slew adds 1.25 ns times 1 + FREQ_ADJ, to within one unit of 2^-48 ns, exactly where that is
whole. OFFSET_ADJ within the threshold joins the slew and moves nothing at once; beyond it, and SET_TIME of a valid time, step the
counter and leave the unit SETTLING with no good report and its flag set. A report counts as good within the threshold; the first
one leaves FREE_RUN for ACQUIRING; a missing report leaves LOCKED for HOLDOVER, which ends in FREE_RUN. (R297, R300, R302, R303,
R592) -/
def Obligations.TimeRunsAndSteps : Prop :=
  (∀ s : State, s.coreOn = true → s.clock.slew = 0 →
    ∃ t n, exec .timeClockTick s = .next t ∧ t.clock = { s.clock with ptp := s.clock.ptp + n }
      ∧ n * 10 ^ 12 ≤ tickUnits * (10 ^ 12 + toInt 32 (s.reg Reg.TIME_UNIT.FREQ_ADJ)).toNat + 10 ^ 12
      ∧ tickUnits * (10 ^ 12 + toInt 32 (s.reg Reg.TIME_UNIT.FREQ_ADJ)).toNat < (n + 1) * 10 ^ 12
      ∧ (s.reg Reg.TIME_UNIT.FREQ_ADJ = 0 → n = tickUnits) ∧ Only [] [] { s with clock := t.clock, freeCtr := t.freeCtr } t)
  ∧ (∀ (s : State) (w : SessionNo) (v : Nat), s.coreOn = true → s.reg Reg.TIME_UNIT.SERVO_MODE = 0 →
    ((s.clock.slew + toInt 64 v * (2 : Int) ^ 32).natAbs ≤ s.reg Reg.TIME_UNIT.STEP_THRESHOLD_NS * nsUnit →
      ∃ t, exec (.offsetAdj true w v) s = .next t ∧ t.clock = { s.clock with slew := s.clock.slew + toInt 64 v * (2 : Int) ^ 32 }
        ∧ Only [] [] { s with clock := t.clock } t)
    ∧ (s.reg Reg.TIME_UNIT.STEP_THRESHOLD_NS * nsUnit < (s.clock.slew + toInt 64 v * (2 : Int) ^ 32).natAbs →
      0 ≤ (s.clock.ptp : Int) + (s.clock.slew + toInt 64 v * (2 : Int) ^ 32) →
      (s.clock.ptp : Int) + (s.clock.slew + toInt 64 v * (2 : Int) ^ 32) < (ptpEnd : Int) →
      ∃ t, exec (.offsetAdj true w v) s = .next t ∧ t.reg Reg.TIME_UNIT.STATE = 4 ∧ t.reg Reg.TIME_UNIT.GOOD_REPORTS = 0
        ∧ bit (t.reg Reg.TIME_UNIT.EVENTS) 2 = true)
    ∧ (v % 2 ^ 32 < 1000000000 → v / 2 ^ 32 < 2 ^ 47 →
      ∃ t, exec (.setTime true w v) s = .next t ∧ t.reg Reg.TIME_UNIT.STATE = 4 ∧ t.reg Reg.TIME_UNIT.GOOD_REPORTS = 0
        ∧ bit (t.reg Reg.TIME_UNIT.EVENTS) 2 = true)
    ∧ (s.timeState = 0 → ∃ t, exec (.measuredOffset true w v) s = .next t ∧ t.reg Reg.TIME_UNIT.STATE = 1
        ∧ t.reg Reg.TIME_UNIT.GOOD_REPORTS = (if (toInt 64 v).natAbs ≤ s.reg Reg.TIME_UNIT.LOCK_THRESHOLD_NS * 2 ^ 16
            then min 255 (s.reg Reg.TIME_UNIT.GOOD_REPORTS + 1) else 0)
        ∧ Only [Reg.TIME_UNIT.STATE, Reg.TIME_UNIT.GOOD_REPORTS] [] s t))
  ∧ (∀ s : State, s.timeState = 2 → ∃ t, exec .reportTimeout s = .next t ∧ t.timeState = 3 ∧ bit (t.reg Reg.TIME_UNIT.EVENTS) 3 = true
      ∧ Only [Reg.TIME_UNIT.STATE, Reg.TIME_UNIT.EVENTS, Reg.TIME_UNIT.EVENTS + 4] [] s t)
  ∧ (∀ s : State, s.timeState = 3 → ∃ t, exec .holdoverTimeout s = .next t ∧ t.timeState = 0 ∧ t.reg Reg.TIME_UNIT.GOOD_REPORTS = 0
      ∧ Only [Reg.TIME_UNIT.STATE, Reg.TIME_UNIT.GOOD_REPORTS, Reg.TIME_UNIT.EVENTS, Reg.TIME_UNIT.EVENTS + 2]
          [Tab.resvClear, Tab.resvCause, Tab.resvState, Tab.resvDrained] s t)

/-- GATE_EDGE shows the gates open now. A pending list whose instant has come, outside the safe state and SETTLING, becomes the active
one, counted and flagged, and the bounds found under it come into force from that instant. In the safe state the list resumes at
its first boundary after the entry to LOCKED. A permitted CANCEL_PENDING of a port without a pending list changes nothing, and a
pending list whose swap is not near is dropped. A REMOVE_LIST of a port without a list changes nothing; one that passes the
evaluation, outside a SAVE, is pending for the list's next boundary at or after 100 µs. (R304, R309, R310, R311, R312) -/
def Obligations.GateListsRun : Prop :=
  (∀ (s : State) (p : PortNo), ∃ t, exec (.gateEdge p) s = .next t ∧ t.reg (Reg.GATE_PORT.GATE_STATE p) = s.gateMask p s.clock.ptp
      ∧ Only [Reg.GATE_PORT.GATE_STATE p] [] s t)
  ∧ (∀ (s : State) (p : PortNo) (nl : Option GateList) (swap at' : Nat), (s.gate p).pending = some (nl, swap) → s.swapInstant p = some at' →
    s.timeState ≠ 4 → s.reg (Reg.GATE_PORT.IN_SAFE_STATE p) = 0 → at' * nsUnit ≤ s.clock.ptp →
    ∃ t u, exec (.listSwapped p) s = .next t ∧ u.gate p = { active := nl, pending := none }
      ∧ (∀ q, q ≠ p.val → u.gate q = s.gate q) ∧ u.tab Tab.gateWaits p = 0
      ∧ u.reg (Reg.GATE_PORT.SWAPS p) = (s.reg (Reg.GATE_PORT.SWAPS p) + 1) % 2 ^ 32 ∧ bit (u.reg (Reg.GATE_PORT.EVENTS p)) 0 = true
      ∧ Only [Reg.GATE_PORT.GATE_STATE p, Reg.GATE_PORT.SWAPS p, Reg.GATE_PORT.EVENTS p, Reg.GATE_PORT.EVENTS p + 1, regKey 0x5F00 0x0D,
          Reg.CONFIG_STORE.CONFIG_GEN] [Tab.gateWaits] { s with gates := u.gates } u
      ∧ t = (u.refreshBounds (at' * nsUnit)).deliverDue)
  ∧ (∀ (s : State) (p : PortNo) (l : GateList) (e : Nat), (s.gate p).active = some l → s.tab Tab.sticky 9 = e + 1 →
    s.reg (Reg.GATE_PORT.IN_SAFE_STATE p) = 1 → l.boundary e * nsUnit ≤ s.clock.ptp →
    ∃ t, exec (.gateListResume p) s = .next t ∧ t.reg (Reg.GATE_PORT.IN_SAFE_STATE p) = 0
      ∧ t.reg (Reg.GATE_PORT.GATE_STATE p) = l.maskAt s.clock.ptp ∧ t.tab Tab.gateResume p = l.boundary e * nsUnit
      ∧ Only [Reg.GATE_PORT.IN_SAFE_STATE p, Reg.GATE_PORT.GATE_STATE p] [Tab.gateResume] s t)
  ∧ (∀ (s : State) (w : SessionNo) (p : PortNo), s.permits w (0x5C00 + p) 0x07 1 = true →
    ((s.gate p).pending = none → exec (.cancelPending w p) s = .next s.deliverDue)
    ∧ (∀ nl swap, (s.gate p).pending = some (nl, swap) → s.clock.ptp + 100000 * nsUnit ≤ swap * nsUnit →
      ∃ t, exec (.cancelPending w p) s = .next t ∧ t.gate p = { s.gate p with pending := none }
        ∧ Only [] [Tab.gateWaits] { s with gates := t.gates } t))
  ∧ (∀ (s : State) (w : SessionNo) (p : PortNo), s.permits w (0x5C00 + p) 0x08 1 = true →
    ((s.gate p).active = none → exec (.removeList w p) s = .next s.deliverDue)
    ∧ ∀ l fs, (s.gate p).active = some l → (s.gate p).pending = none → s.saving = false →
      let swap := l.boundary (nsCeil s.clock.ptp + 100000)
      ((s.setGate p { s.gate p with pending := some (none, swap) }).setReg (Reg.GATE_PORT.SWAP_TIME p) (time80 swap)).evaluate [] = .ok fs →
      ∃ t, exec (.removeList w p) s = .next t ∧ t.gate p = { active := some l, pending := some (none, swap) }
        ∧ t.reg (Reg.GATE_PORT.SWAP_TIME p) = time80 swap ∧ t.reg (Reg.GATE_PORT.COMMIT_CAUSE p) = 0)

/-- A permitted write of CHAIN_MAP whose changes are of pairs of free counters takes effect in one step: every counter keeps its
48-bit value and is chained as its bit says. The count of a chained pair is the 96-bit value with the odd counter as its upper
half, and a post to a counter that is not chained leaves every other counter as it was. (R506) -/
def Obligations.ChainChange : Prop :=
  (∀ (s : State) (w : SessionNo) (value : Nat), s.permits w 0xA000 0x02 value = true → s.nothingDue = true →
    (∀ e, e < 131072 → bit ((toBE 16384 value).getD (e / 8) 0) (e % 8) ≠ s.isChained (2 * e) →
      ctrClass (2 * e) = .free ∧ ctrClass (2 * e + 1) = .free) →
    ∃ t, exec (.chainMap w value) s = .next t
      ∧ (∀ n, n < 262144 → t.counter n = s.counter n ∧ t.isChained n = bit ((toBE 16384 value).getD (n / 2 / 8) 0) (n / 2 % 8))
      ∧ Only [Reg.CONFIG_STORE.CONFIG_GEN] [Tab.chained] s t)
  ∧ (∀ (t : State) (e : Nat), e < 131072 →
    (t.isChained (2 * e) = true → t.fullCount (2 * e) = t.counter (2 * e + 1) * 2 ^ 48 + t.counter (2 * e)
      ∧ t.fullCount (2 * e + 1) = t.fullCount (2 * e))
    ∧ (t.isChained (2 * e) = false → t.fullCount (2 * e) = t.counter (2 * e) ∧ t.fullCount (2 * e + 1) = t.counter (2 * e + 1)
      ∧ ∀ n m amt, n / 2 = e → m ≠ n → m < 262144 → (t.count n amt).counter m = t.counter m))

/-- A permitted SNAP latches every counter of its group, stamps and counts it, and sets its flag. A permitted CLEAR of an element
zeroes its bins and no other. A permitted HIST_SNAPSHOT latches the session's range of elements as they stand. A watch period that
ends records the increase of its counter. Counters themselves keep their values. (R509, R510, R512, R519) -/
def Obligations.CountersAreLatched : Prop :=
  (∀ (s : State) (w : SessionNo) (g : Fin 16), s.permits w (0xA200 + g) 0x05 1 = true → s.reg (Reg.SNAPSHOT_GROUP.COUNT g) ≤ 8192 →
    4 ≤ s.reg (Reg.SNAPSHOT_GROUP.EXPORT_STREAM g) →
    ∃ t, exec (.snap w g) s = .next t
      ∧ (∀ i, i < s.reg (Reg.SNAPSHOT_GROUP.COUNT g) →
          t.tab Tab.snapLatch (g * 8192 + i) = s.counterElem (s.reg (Reg.SNAPSHOT_GROUP.BASE g) + i))
      ∧ t.reg (Reg.SNAPSHOT_GROUP.SNAP_TIME g) = s.stamp
      ∧ t.reg (Reg.SNAPSHOT_GROUP.SNAPS g) = (s.reg (Reg.SNAPSHOT_GROUP.SNAPS g) + 1) % 2 ^ 32
      ∧ bit (t.reg (Reg.SNAPSHOT_GROUP.EVENTS g)) 0 = true
      ∧ Only [Reg.SNAPSHOT_GROUP.SNAP_TIME g, Reg.SNAPSHOT_GROUP.SNAPS g, Reg.SNAPSHOT_GROUP.EVENTS g, Reg.SNAPSHOT_GROUP.EVENTS g + 1]
          [Tab.snapLatch] s t)
  ∧ (∀ (s : State) (w : SessionNo) (x : Nat),
    (s.permits w 0xA300 0x21 x = true → x < 10288 →
      ∃ t, exec (.clear w 0xA300 x) s = .next t
        ∧ (∀ k, k < 32 → t.tab Tab.queueHist (x * 32 + k) = 0)
        ∧ (∀ i, i < 10288 * 32 → i / 32 ≠ x → t.tab Tab.queueHist i = s.tab Tab.queueHist i) ∧ Only [] [Tab.queueHist] s t)
    ∧ (s.permits w 0xA310 0x21 x = true → x < 65536 →
      ∃ t, exec (.clear w 0xA310 x) s = .next t
        ∧ (∀ k, k < 32 → t.tab Tab.resvHist (x * 32 + k) = 0) ∧ (∀ k, k < 4 → t.tab Tab.resvCount (4 * x + k) = 0)
        ∧ (∀ i, i < 65536 * 32 → i / 32 ≠ x → t.tab Tab.resvHist i = s.tab Tab.resvHist i)
        ∧ (∀ i, i < 65536 * 4 → i / 4 ≠ x → t.tab Tab.resvCount i = s.tab Tab.resvCount i)
        ∧ Only [] [Tab.resvHist, Tab.resvCount] s t)
    ∧ (∀ window, window = 0xA300 ∨ window = 0xA310 → s.permits w window 0x20 1 = true →
      s.rangeBase w window + s.rangeCount w window ≤ 65536 →
      ∃ t, exec (.histSnapshot w window) s = .next t ∧ t.tab Tab.histLatched (histNo w window) = 1
        ∧ (∀ x, s.rangeBase w window ≤ x → x < s.rangeBase w window + s.rangeCount w window →
          t.tab Tab.histLatch (histNo w window * 2 ^ 16 + x) = s.histElem window x)
        ∧ Only [] [Tab.histLatched, Tab.histLatch] s t))
  ∧ (∀ (s : State) (w : Fin 64), s.coreOn = true →
    ∃ t, exec (.watchPeriodEnd w) s = .next t
      ∧ t.reg (Reg.COUNTER_WATCH.LAST_INCREASE w) =
        subMod (s.countWidth (s.reg (Reg.COUNTER_WATCH.COUNTER w))) (s.fullCount (s.reg (Reg.COUNTER_WATCH.COUNTER w))) (s.tab Tab.watchStart w) % 2 ^ 64
      ∧ t.tab Tab.watchStart w = s.fullCount (s.reg (Reg.COUNTER_WATCH.COUNTER w))
      ∧ Only [Reg.COUNTER_WATCH.LAST_INCREASE w] [Tab.watchStart] s t)

/-- A stream that may build and carries an export builds its next frame, and one without builds a frame of waiting postcards when a
frame's worth waits, or what waits at FLUSH_TIMEOUT: one frame is added to those waiting for its port, and the stream counts it.
ENERGY_INTERVAL of a running core counts an interval, shows its energy, and starts the next with no weight; it changes no other
register. (R513, R515, R516, R517) -/
def Obligations.TelemetryLeaves : Prop :=
  (∀ (s : State) (t : Fin 4), s.streamBuilds t = true →
    (∀ g, s.nextExport t = some g → s.recordsFit t 8 ≠ 0 →
      ∃ u b, exec (.telemetryBuild t) s = .next u ∧ u.built = s.built ++ [b] ∧ b.port = s.reg (Reg.TELEMETRY_STREAM.INJECT_PORT t) ∧ b.kind = 3
        ∧ u.reg (Reg.TELEMETRY_STREAM.FRAMES t) = (s.reg (Reg.TELEMETRY_STREAM.FRAMES t) + 1) % 2 ^ 64
        ∧ Only [Reg.TELEMETRY_STREAM.FRAMES t, Reg.TELEMETRY_STREAM.RECORDS t] [Tab.streamLost, Tab.exporting, Tab.exportData]
            { s with built := u.built } u)
    ∧ (s.nextExport t = none → s.recordsFit t 48 ≠ 0 →
      (s.recordsFit t 48 ≤ (s.fifo (128 + t)).length →
        ∃ u b, exec (.telemetryBuild t) s = .next u ∧ u.built = s.built ++ [b] ∧ b.port = s.reg (Reg.TELEMETRY_STREAM.INJECT_PORT t) ∧ b.kind = 3
          ∧ u.reg (Reg.TELEMETRY_STREAM.FRAMES t) = (s.reg (Reg.TELEMETRY_STREAM.FRAMES t) + 1) % 2 ^ 64
          ∧ Only [Reg.TELEMETRY_STREAM.FRAMES t, Reg.TELEMETRY_STREAM.RECORDS t] [Tab.streamLost, Tab.streamNext]
              { s with built := u.built, postcards := u.postcards } u)
      ∧ (s.fifo (128 + t) ≠ [] →
        ∃ u b, exec (.flushTimeout t) s = .next u ∧ u.built = s.built ++ [b] ∧ b.port = s.reg (Reg.TELEMETRY_STREAM.INJECT_PORT t) ∧ b.kind = 3
          ∧ u.reg (Reg.TELEMETRY_STREAM.FRAMES t) = (s.reg (Reg.TELEMETRY_STREAM.FRAMES t) + 1) % 2 ^ 64
          ∧ Only [Reg.TELEMETRY_STREAM.FRAMES t, Reg.TELEMETRY_STREAM.RECORDS t] [Tab.streamLost, Tab.streamNext]
              { s with built := u.built, postcards := u.postcards } u)))
  ∧ (∀ s : State, s.coreOn = true →
    ∃ t, exec .energyInterval s = .next t
      ∧ t.reg Reg.ENERGY_CONTROL.INTERVALS = (s.reg Reg.ENERGY_CONTROL.INTERVALS + 1) % 2 ^ 64
      ∧ t.reg Reg.ENERGY_CONTROL.LAST_DE_UJ = (s.tab Tab.power 8 / 10000 + s.reg Reg.PMBUS_CONTROL.FIXED_MW) % 2 ^ 32
      ∧ (∀ i, i < 10288 → t.tab Tab.wireOctets i = 0) ∧ (∀ k, k < 256 → t.tab Tab.interval k = 0)
      ∧ Only [Reg.ENERGY_CONTROL.INTERVALS, Reg.ENERGY_CONTROL.LAST_DE_UJ] [Tab.power, Tab.interval, Tab.wireOctets] s t)

/-- A pass without difference only counts, the core's alone; one that equals its orphans is held; another is logged once and its
holder fenced. FENCE of a holder takes effect at once; a code that names none is refused. One reclaim runs at a time, and its end
counts its units and leaves a port, bench or partition HELD, which UNFENCE ends. An expired lease is logged, and by its action
fences. A confirmed orphan is counted and leaves its term. An epoch starts from what is in the device. SNAPSHOT latches every
term. (R343, R345, R346, R347, R348, R349, R350, R351, R353, R355, R356) -/
def Obligations.TallyServed : Prop :=
  let calm := fun (s : State) => s.tab Tab.fatal 0 = 0 ∧ s.tab Tab.fatal 1 ≠ 1 ∧ ∀ f ∈ s.fences, f.state ≠ 1
  (∀ (s : State) (island : Bool) (findings : List SweepFinding) (env : StartEnv), island = true ∨ s.coreOn = true → calm s →
    (∀ k, k < 16 → s.tab Tab.sweepWait k = 0) →
    let passes := if island then s.reg Reg.TALLY_CONTROL.SWEEP_PASSES else (s.reg Reg.TALLY_CONTROL.SWEEP_PASSES + 1) % 2 ^ 64
    (s.sweep island findings = [] → ∃ t, exec (.sweepPassEnd ⟨island, findings⟩ env) s = .next t ∧ t.reg Reg.TALLY_CONTROL.SWEEP_PASSES = passes
      ∧ Only [Reg.TALLY_CONTROL.SWEEP_PASSES] [Tab.orphanHeld] s t)
    ∧ ∀ r, s.sweep island findings = [r] →
      (r.held = true → ∃ t, exec (.sweepPassEnd ⟨island, findings⟩ env) s = .next t ∧ t.reg Reg.TALLY_CONTROL.SWEEP_PASSES = passes
        ∧ (∀ u ∈ r.orphans, t.tab Tab.orphanHeld (r.quantity * 2 ^ 32 + u % 2 ^ 32) ≠ 0)
        ∧ Only [Reg.TALLY_CONTROL.SWEEP_PASSES] [Tab.orphanHeld] s t)
      ∧ (r.held = false →
        let h := namedHolder r.quantity (shownPart r.partition) r.holder
        (holderKind h ≠ 15 → s.isFenced h = true →
          ∃ t, exec (.sweepPassEnd ⟨island, findings⟩ env) s = .next t ∧ t.reg Reg.TALLY_CONTROL.SWEEP_PASSES = passes
            ∧ t.reg Reg.TALLY_CONTROL.DISCREPANCIES = (s.reg Reg.TALLY_CONTROL.DISCREPANCIES + 1) % 2 ^ 64
            ∧ bit (t.reg Reg.TALLY_CONTROL.EVENTS) 0 = true ∧ t.fences = s.fences
            ∧ Only [Reg.TALLY_CONTROL.SWEEP_PASSES, Reg.TALLY_CONTROL.DISCREPANCIES, Reg.TALLY_LOG.LOG_HEAD, Reg.TALLY_CONTROL.EVENTS,
                Reg.TALLY_CONTROL.EVENTS + 1, Reg.FAULT_LOG.LOG_HEAD]
                [Tab.orphanHeld, Tab.tallyLog, Tab.ledger, Tab.faultLog, Tab.sweepWait] s t)
        ∧ (holderKind h ≠ 15 → holderKind h ≠ 6 → s.isFenced h = false →
          ∃ t, exec (.sweepPassEnd ⟨island, findings⟩ env) s = .next t
            ∧ ∃ f ∈ t.fences, f.holder = h ∧ f.state = 4 ∧ f.log = some (s.reg Reg.TALLY_CONTROL.DISCREPANCIES))))
  ∧ (∀ (s : State) (w : SessionNo) (h : Nat), s.permits w 0x4840 0x01 h = true →
    (holderOk h = false → exec (.fence w h) s = .next s.deliverDue)
    ∧ (holderOk h = true → s.isFenced h = false → calm s →
      ∃ t, exec (.fence w h) s = .next t ∧ bit (t.reg Reg.TALLY_CONTROL.EVENTS) 1 = true
        ∧ (holderKind h ≠ 6 → ∃ f ∈ t.fences, f.holder = h ∧ f.state = 4 ∧ f.log = none)
        ∧ (holderKind h = 6 → s.reg (Reg.SESSION.STATE (holderInst h)) = 1 →
          t.reg (Reg.SESSION.STATE (holderInst h)) = 2 ∧ bit (t.reg Reg.TALLY_CONTROL.EVENTS) 2 = true ∧ t.fences = s.fences)
        ∧ (∀ p : Fin 514, h = holder 3 p → t.reg (Reg.PORT.LINK_STATE p) = 0)
        ∧ (∀ b : BenchNo, h = holder 5 b → t.benchState b = 4)
        ∧ (h = holder 9 0 → s.wf = true → ∀ k, k < 4096 → t.jobSt k ≠ 1)))
  ∧ (∀ s : State, (∀ f ∈ s.fences, f.state ≠ 1) →
    (s.tab Tab.fatal 1 = 1 ∨ (∃ f ∈ s.fences, f.state = 2) ∨ (∀ f ∈ s.fences, f.state ≠ 4) → exec .reclaimStart s = .next s.deliverDue)
    ∧ ∀ f, s.tab Tab.fatal 1 ≠ 1 → (∀ g ∈ s.fences, g.state ≠ 2) → s.fences.find? (fun g => g.state == 4) = some f →
      ∃ t g, exec .reclaimStart s = .next t ∧ g ∈ t.fences ∧ g.holder = f.holder ∧ g.state = 2 ∧ f.units ≤ g.units)
  ∧ (∀ s : State, ((∀ f ∈ s.fences, f.state ≠ 2) → exec .reclaimDone s = .next s)
    ∧ ∀ f, s.fences.find? (fun g => g.state == 2) = some f →
      ∃ t, exec .reclaimDone s = .next t ∧ bit (t.reg Reg.TALLY_CONTROL.EVENTS) 2 = true
        ∧ t.reg Reg.TALLY_CONTROL.UNITS_RECLAIMED = (s.reg Reg.TALLY_CONTROL.UNITS_RECLAIMED + f.units) % 2 ^ 64
        ∧ (holderKind f.holder ∈ [3, 5, 8] → ∃ g ∈ t.fences, g.holder = f.holder ∧ g.state = 3)
        ∧ (holderKind f.holder ∉ [3, 5, 8] → ∀ g ∈ t.fences, g.holder = f.holder → g.state = 1))
  ∧ (∀ (s : State) (w : SessionNo) (h : Nat), s.permits w 0x4840 0x02 h = true →
    (holderOk h = false ∨ (∀ f ∈ s.fences, f.holder = h → f.state ≠ 3) → exec (.unfence w h) s = .next s.deliverDue)
    ∧ (holderOk h = true → (∃ f ∈ s.fences, f.holder = h ∧ f.state = 3) →
      ∃ t, exec (.unfence w h) s = .next t ∧ (∀ g ∈ t.fences, g.holder = h → g.state = 1)
        ∧ ∀ b : BenchNo, h = holder 5 b → (∀ g ∈ s.fences, holderKind g.holder ≠ 8) → t.benchState b = 0 ∧ t.reg (Reg.BENCH.PC b) = 0))
  ∧ (∀ (s : State) (h : Nat), (s.leaseOf h = none ∨ (∃ a, s.leaseOf h = some (0, a)) → exec (.leaseExpired h) s = .next s)
    ∧ ∀ ms a, s.leaseOf h = some (ms, a) → ms ≠ 0 →
      (a ≠ 1 → ∃ t, exec (.leaseExpired h) s = .next t ∧ bit (t.reg Reg.TALLY_CONTROL.EVENTS) 3 = true
        ∧ t.reg Reg.TALLY_CONTROL.DISCREPANCIES = (s.reg Reg.TALLY_CONTROL.DISCREPANCIES + 1) % 2 ^ 64
        ∧ Only [Reg.TALLY_CONTROL.DISCREPANCIES, Reg.TALLY_LOG.LOG_HEAD, Reg.TALLY_CONTROL.EVENTS, Reg.TALLY_CONTROL.EVENTS + 4]
            [Tab.tallyLog, Tab.ledger] { s with freeCtr := t.freeCtr } t)
      ∧ (a = 1 → s.isFenced h = false → calm s → ∃ t, exec (.leaseExpired h) s = .next t ∧ bit (t.reg Reg.TALLY_CONTROL.EVENTS) 3 = true
        ∧ ∃ f ∈ t.fences, f.holder = h ∧ f.state = 4 ∧ f.log = some (s.reg Reg.TALLY_CONTROL.DISCREPANCIES)))
  ∧ (∀ (s : State) (quantity unit : Nat) (env : StartEnv), quantity < 9 →
    let e := s.tab Tab.orphanHeld (quantity * 2 ^ 32 + unit)
    (e = 0 → exec (.orphanConfirmed quantity unit env) s = .next s)
    ∧ (e ≠ 0 → unit < 2 ^ 28 → calm s →
      ∃ t, exec (.orphanConfirmed quantity unit env) s = .next t ∧ t.tab Tab.orphanHeld (quantity * 2 ^ 32 + unit) = 0
        ∧ t.reg Reg.TALLY_CONTROL.DISCREPANCIES = (s.reg Reg.TALLY_CONTROL.DISCREPANCIES + 1) % 2 ^ 64
        ∧ t.reg Reg.TALLY_CONTROL.ORPHANS_RECLAIMED = (s.reg Reg.TALLY_CONTROL.ORPHANS_RECLAIMED + 1) % 2 ^ 64
        ∧ t.reg Reg.TALLY_CONTROL.UNITS_RECLAIMED = (s.reg Reg.TALLY_CONTROL.UNITS_RECLAIMED + 1) % 2 ^ 64
        ∧ (e % 2 ^ 16 - 1 ≤ noPart → bits e 47 16 < 13 → t.term (e % 2 ^ 16 - 1) (bits e 47 16) = s.term (e % 2 ^ 16 - 1) (bits e 47 16) - 1)
        ∧ Only [Reg.TALLY_CONTROL.DISCREPANCIES, Reg.TALLY_CONTROL.ORPHANS_RECLAIMED, Reg.TALLY_CONTROL.UNITS_RECLAIMED, Reg.TALLY_LOG.LOG_HEAD,
            Reg.TALLY_CONTROL.EVENTS, Reg.TALLY_CONTROL.EVENTS + 1, Reg.TALLY_CONTROL.EVENTS + 2, Reg.TALLY_CONTROL.EVENTS + 3,
            Reg.FAULT_LOG.LOG_HEAD] [Tab.orphanHeld, Tab.tallyLog, Tab.ledger, Tab.faultLog, Tab.sweepWait, Tab.jobState] s t))
  ∧ (∀ (s : State) (w : SessionNo), s.permits w 0x4800 0x03 1 = true →
    ∃ t, exec (.epochStart w) s = .next t ∧ t.reg Reg.TALLY_CONTROL.EPOCH_TIME = s.stamp
      ∧ (∀ p, p < 17 → t.term p Term.accepted = s.term p Term.inPipeline ∧ t.term p Term.admittedCopies = s.term p Term.residentCopies
          ∧ (∀ k ∈ [Term.wholeDrops, Term.admittedFrames, Term.transmitted, Term.lateDrops], t.term p k = 0)
          ∧ ∀ k ∈ [Term.cellsHeld, Term.descQueued, Term.descInTx, Term.mcRefs, Term.inPipeline, Term.residentCopies], t.term p k = s.term p k)
      ∧ Only [Reg.TALLY_CONTROL.EPOCH_TIME] [Tab.ledger] s t)
  ∧ (∀ (s : State) (w : SessionNo), s.permits w 0x4800 0x04 1 = true →
    ∃ t, exec (.snapshot w) s = .next t ∧ t.reg Reg.TALLY_CONTROL.SNAP_TIME = s.stamp
      ∧ (∀ p k, p < 16 → k < 13 → t.tab Tab.ledgerSnap (p * 32 + k) = s.term p k)
      ∧ (∀ k, k < 14 → t.tab Tab.ledgerSnap (17 * 32 + k) = s.deviceLedger.getD k 0)
      ∧ Only [Reg.TALLY_CONTROL.SNAP_TIME] [Tab.ledgerSnap] s t)

/-- APPLY_STAGES requests a switch; a requested switch makes every pending stage write take effect, toggles ACTIVE_BANK, counts and
stamps it, and keeps the old bank as the inactive one. A package octet arrives in order while the loader is IDLE or RECEIVING;
LOAD begins a verification, whose end refuses and discards the package with its result, waits PENDING, or writes it and counts a
load; ABORT discards it; PERSIST_DONE ends persisting. A scrub counts its corrections. A repaired word is no longer lost, and one
without a clean copy is UNLOADED in every pipeline. (R209, R210, R215, R446, R447, R449, R450, R451, R452, R454, R456) -/
def Obligations.LoadersServed : Prop :=
  (∀ (s : State) (w : SessionNo), s.permits w 0x2000 0x04 1 = true →
    ∃ t, exec (.applyStages w) s = .next t ∧ t.tab Tab.bankRequests 0 = s.tab Tab.bankRequests 0 + 1 ∧ Only [] [Tab.bankRequests] s t)
  ∧ (∀ s : State, (s.tab Tab.bankRequests 0 = 0 ∨ s.coreOn = false → exec .bankSwitch s = .next s)
    ∧ (s.tab Tab.bankRequests 0 ≠ 0 → s.coreOn = true → s.wf = true → s.loaderState 0 ≠ 4 →
      ∃ t, exec .bankSwitch s = .next t ∧ t.tab Tab.bankRequests 0 = s.tab Tab.bankRequests 0 - 1
        ∧ t.reg Reg.PIPELINE_CONFIG.ACTIVE_BANK = 1 - s.reg Reg.PIPELINE_CONFIG.ACTIVE_BANK
        ∧ t.reg Reg.PIPELINE_CONFIG.BANK_SWITCHES = (s.reg Reg.PIPELINE_CONFIG.BANK_SWITCHES + 1) % 2 ^ 32
        ∧ t.reg Reg.PIPELINE_CONFIG.LAST_SWITCH = s.stamp ∧ t.reg Reg.PIPELINE_CONFIG.STAGES_PENDING = 0 ∧ t.inactive = s.activeBank
        ∧ (∀ k, isStageKey k = true → t.reg k = s.stageValue k ∧ t.tab Tab.stagePending k = 0)
        ∧ ∀ k, isStageKey k = false → quietReg k = true → k ∉ [Reg.PIPELINE_CONFIG.ACTIVE_BANK, Reg.PIPELINE_CONFIG.BANK_SWITCHES,
            Reg.PIPELINE_CONFIG.LAST_SWITCH, Reg.PIPELINE_CONFIG.STAGES_PENDING] → t.reg k = s.reg k))
  ∧ (∀ (s : State) (w : SessionNo) (pipe : Bool) (off : Nat) (data : Bytes),
    let l := loaderOf pipe
    s.permitsBlock w (loaderIndex pipe) 0x01 off data.length = true →
    (2 ≤ s.loaderState l ∨ off ≠ s.reg (loaderKey l LoaderSub.received) → exec (.package w pipe off data) s = .next s.deliverDue)
    ∧ (s.loaderState l < 2 → off = s.reg (loaderKey l LoaderSub.received) →
      ∃ t, exec (.package w pipe off data) s = .next t ∧ t.loaderState l = 1
        ∧ t.reg (loaderKey l LoaderSub.received) = off + data.length
        ∧ (∀ i, i < data.length → t.byte (packageAddr l + off + i) = data.getD i 0 % 256)
        ∧ OnlyMem [loaderKey l LoaderSub.received, loaderKey l LoaderSub.state] [] (packageAddr l + off) (packageAddr l + off + data.length) s t))
  ∧ (∀ (s : State) (w : SessionNo) (pipe : Bool),
    let l := loaderOf pipe
    (s.permits w (loaderIndex pipe) 0x02 1 = true →
      (2 ≤ s.loaderState l → exec (.load w pipe) s = .next s.deliverDue)
      ∧ (s.loaderState l < 2 → ∃ t, exec (.load w pipe) s = .next t ∧ t.loaderState l = 2
          ∧ t.loaderTab l 0 = s.reg Reg.LIFECYCLE.STATE + 1 ∧ t.loaderTab l 4 = s.tab Tab.loader 64
          ∧ Only [loaderKey l LoaderSub.state] [Tab.loader] s t))
    ∧ (s.permits w (loaderIndex pipe) 0x02 2 = true →
      (s.loaderState l = 2 ∨ s.loaderState l = 3 ∨ s.loaderState l = 5 → exec (.loadAbort w pipe) s = .next s.deliverDue)
      ∧ (s.loaderState l ≠ 2 → s.loaderState l ≠ 3 → s.loaderState l ≠ 5 →
        ∃ t, exec (.loadAbort w pipe) s = .next t ∧ t.loaderState l = 0 ∧ t.reg (loaderKey l LoaderSub.received) = 0
          ∧ OnlyMem [loaderKey l LoaderSub.received, loaderKey l LoaderSub.state] [] (packageAddr l) (packageAddr (l + 1)) s t)))
  ∧ (∀ (s : State) (pipe : Bool),
    let l := loaderOf pipe
    (s.verifiesNext l = false ∨ s.coreOn = false → exec (.loadVerified pipe) s = .next s)
    ∧ (s.verifiesNext l = true → s.coreOn = true →
      (∀ code detail, s.checkPackage (s.packageOf l) l (s.loadTerms l) = .refused code detail →
        ∃ t, exec (.loadVerified pipe) s = .next t ∧ t.loaderState l = 0 ∧ t.reg (loaderKey l LoaderSub.received) = 0
          ∧ t.reg (loaderKey l LoaderSub.lastResult) = code ∧ t.reg (loaderKey l LoaderSub.lastDetail) = detail
          ∧ bit (t.reg (loaderKey l LoaderSub.events)) 1 = true)
      ∧ ∀ slot, s.checkPackage (s.packageOf l) l (s.loadTerms l) = .passed slot →
        (pipe = true → s.reg Reg.PIPE_UCODE.LOAD_MODE = 1 →
          ∃ t, exec (.loadVerified pipe) s = .next t ∧ t.loaderState 0 = 4 ∧ t.loaderTab 0 6 = slot
            ∧ Only [loaderKey 0 LoaderSub.state] [Tab.loader] s t)
        ∧ (pipe = false ∨ s.reg Reg.PIPE_UCODE.LOAD_MODE ≠ 1 →
          ∃ t, exec (.loadVerified pipe) s = .next t ∧ bit (t.reg (loaderKey l LoaderSub.events)) 0 = true
            ∧ t.loaderState l = (if s.reg (loaderKey l LoaderSub.persist) = 1 then 5 else 0)
            ∧ t.reg (loaderKey l LoaderSub.loads) = (s.reg (loaderKey l LoaderSub.loads) + 1) % 2 ^ 32)))
  ∧ (∀ (s : State) (pipe : Bool),
    let l := loaderOf pipe
    (s.loaderState l ≠ 5 → exec (.persistDone pipe) s = .next s)
    ∧ (s.loaderState l = 5 → ∃ t, exec (.persistDone pipe) s = .next t ∧ t.loaderState l = 0
        ∧ (∀ i ∈ Pack.records (s.packageOf l) l, t.tab Tab.ucodeRecord i = s.freePackageSlot + 1)
        ∧ t.reg (loaderKey l LoaderSub.loads) = s.reg (loaderKey l LoaderSub.loads)))
  ∧ (∀ (s : State) (pipes : Nat) (bays : List (Fin 16)), s.coreOn = true →
    ∃ t, exec (.storeScrub pipes bays) s = .next t ∧ Only [] [] s t
      ∧ (bays = [] → s.isChained (Ctr.pipeLoader 0) = false →
        t.counter (Ctr.pipeLoader 0) = (s.counter (Ctr.pipeLoader 0) + pipes) % 2 ^ 48))
  ∧ (∀ (s : State) (pipe : Fin 128) (nano : Bool) (addr : Fin 16384) (clean : Bool), s.coreOn = true → nano = false ∨ addr.val < 4096 →
    ∃ t, exec (.pipeWordRepair pipe nano addr clean) s = .next t
      ∧ (clean = true → t.tab Tab.ucodeLost (lostPipeWord pipe nano addr) = 0)
      ∧ (clean = false → bit (t.reg Reg.STARTUP.DEGRADED_CAUSES) 4 = true ∧ ∀ p, p < 128 → t.tab Tab.ucodeLost (lostPipeWord p nano addr) = 1)
      ∧ Only (modeRegs ++ [loaderKey 0 LoaderSub.events, loaderKey 0 LoaderSub.events + 3, Reg.FAULT_LOG.LOG_HEAD]) [Tab.ucodeLost, Tab.faultLog] s t)

/-- A HANDOVER that names the present owner and a permitted step gives its bank the new state and owner, counting a change; another
changes nothing. A clearing that ends leaves the bank zero, FREE and without owner. SERVICE takes an idle bank of the host out of
service and back. A jig started on permitted banks begins with its first segment, or is DONE with none. STOP marks a running jig.
A segment that ends is counted with its errors; with STOP asked the run is STOPPED, and a destructive one leaves the bank zero and
OUT_OF_SERVICE, or FAULTY. (R463, R464, R474, R475, R476, R477) -/
def Obligations.PoolServed : Prop :=
  (∀ (s : State) (w : SessionNo) (k : Fin 512) (v : Nat), s.permits w (0x9200 + k) 0x03 v = true → k.val < 510 →
    let new := bits v 7 0
    let expected := bits v 15 8
    let mine := s.portPart (514 + new) = s.bankPart k
    let busy := s.benchActive (s.bankOwner k) = true
    (expected ≠ s.bankOwner k → exec (.handover w k v) s = .next s.deliverDue)
    ∧ (expected = s.bankOwner k → ∀ st owner : Nat,
      (s.bankState k = 0 ∧ new < 0x80 ∧ mine ∧ st = 1 ∧ owner = new)
        ∨ (s.bankState k = 0 ∧ new = ownerHost ∧ st = 1 ∧ owner = ownerHost)
        ∨ (s.bankState k = 1 ∧ s.bankOwner k < 0x80 ∧ ¬busy ∧ new = ownerHost ∧ st = 1 ∧ owner = ownerHost)
        ∨ (s.bankState k = 1 ∧ s.bankOwner k < 0x80 ∧ ¬busy ∧ new ≠ s.bankOwner k ∧ new < 0x80 ∧ mine ∧ st = 1 ∧ owner = new)
        ∨ (s.bankState k = 1 ∧ s.bankOwner k < 0x80 ∧ ¬busy ∧ new = ownerNone ∧ st = 2 ∧ owner = ownerNone)
        ∨ (s.bankState k = 1 ∧ s.bankOwner k = ownerHost ∧ new < 0x80 ∧ mine ∧ st = 1 ∧ owner = new)
        ∨ (s.bankState k = 1 ∧ s.bankOwner k = ownerHost ∧ new = ownerNone ∧ st = 2 ∧ owner = ownerNone)
        ∨ (s.bankState k = 3 ∧ s.bankOwner k = ownerHost ∧ new = ownerNone ∧ st = 2 ∧ owner = ownerNone)
        ∨ (s.bankState k = 5 ∧ s.bankOwner k = ownerNone ∧ new = ownerHost ∧ st = 3 ∧ owner = ownerHost) →
      ∃ t, exec (.handover w k v) s = .next t ∧ t.bankState k = st ∧ t.bankOwner k = owner
        ∧ t.reg (Reg.POOL_BANK.HANDOVERS k)
          = (if owner = s.bankOwner k then s.reg (Reg.POOL_BANK.HANDOVERS k) else (s.reg (Reg.POOL_BANK.HANDOVERS k) + 1) % 2 ^ 32)
        ∧ (st ≠ 2 → Only ([Reg.POOL_BANK.STATE k, Reg.POOL_BANK.OWNER k, Reg.POOL_BANK.HANDOVERS k] ++ modeRegs) [] s t)))
  ∧ (∀ (s : State) (k : Fin 512), (s.bankState k ≠ 2 → exec (.bankCleared k) s = .next s)
    ∧ (s.bankState k = 2 → ∃ t, exec (.bankCleared k) s = .next t ∧ t.bankState k = 0 ∧ t.bankOwner k = ownerNone
        ∧ (∀ a, poolAddr (k * bankSize) ≤ a → a < poolAddr ((k + 1) * bankSize) → t.byte a = 0)
        ∧ OnlyMem ([Reg.POOL_BANK.STATE k, Reg.POOL_BANK.OWNER k, Reg.POOL_BANK.HANDOVERS k] ++ modeRegs) []
            (poolAddr (k * bankSize)) (poolAddr ((k + 1) * bankSize)) s t))
  ∧ (∀ (s : State) (w : SessionNo) (k : Fin 512) (v : Nat), s.permits w (0x9200 + k) 0x07 v = true → k.val < 510 →
    let out := v = 1 ∧ s.bankState k = 1 ∧ s.bankOwner k = ownerHost
    let back := v = 0 ∧ s.bankState k = 3
    (¬out → ¬back → exec (.service w k v) s = .next s.deliverDue)
    ∧ (out ∨ back → ∃ t, exec (.service w k v) s = .next t ∧ t.bankState k = (if v = 1 then 3 else 1) ∧ t.bankOwner k = ownerHost
        ∧ Only ([Reg.POOL_BANK.STATE k, Reg.POOL_BANK.OWNER k, Reg.POOL_BANK.HANDOVERS k] ++ modeRegs) [] s t))
  ∧ (∀ (s : State) (w : SessionNo), s.permits w 0x9500 0x01 1 = true →
    let first := s.reg Reg.JIG.BANK_FIRST
    let n := s.reg Reg.JIG.BANK_COUNT
    let tests := fun (g : Nat) => s.bankState (g / 32) = 0 ∨ s.bankState (g / 32) = 1 ∨ s.bankState (g / 32) = 3
    (s.reg Reg.JIG.STATE = 1 ∨ 510 < first + n ∨ (s.reg Reg.JIG.MODE = 1 ∧ ∃ k, k < n ∧ s.bankState (first + k) ≠ 3) →
      exec (.jigStart w) s = .next s.deliverDue)
    ∧ (s.reg Reg.JIG.STATE ≠ 1 → first + n ≤ 510 →
      (s.reg Reg.JIG.MODE = 0 → (∀ g, 32 * first ≤ g → g < 32 * (first + n) → ¬tests g) →
        ∃ t, exec (.jigStart w) s = .next t ∧ t.reg Reg.JIG.STATE = 2 ∧ bit (t.reg Reg.JIG.EVENTS) 0 = true)
      ∧ (∀ g, s.reg Reg.JIG.MODE = 0 → 32 * first ≤ g → g < 32 * (first + n) → tests g → (∀ h, 32 * first ≤ h → h < g → ¬tests h) →
        ∃ t, exec (.jigStart w) s = .next t ∧ t.reg Reg.JIG.STATE = 1 ∧ t.jigSegment = some g ∧ t.reg Reg.JIG.SEGMENTS_TESTED = 0
          ∧ t.reg Reg.JIG.ERRORS = 0
          ∧ Only [Reg.JIG.STATE, Reg.JIG.PROGRESS, Reg.JIG.SEGMENTS_TESTED, Reg.JIG.SEGMENTS_INCOMPLETE, Reg.JIG.ERRORS, Reg.JIG.FIRST_ERROR,
              Reg.JIG.INCOMPLETE_MAP] [Tab.jig, Tab.jigYielded, Tab.jigYields] s t)
      ∧ (s.reg Reg.JIG.MODE = 1 → 0 < n → (∀ k, k < n → s.bankState (first + k) = 3) →
        ∃ t, exec (.jigStart w) s = .next t ∧ t.jigSegment = some (32 * first) ∧ t.bankState first = 4)))
  ∧ (∀ (s : State) (w : SessionNo), s.permits w 0x9500 0x01 2 = true →
    (s.reg Reg.JIG.STATE ≠ 1 → exec (.jigStop w) s = .next s.deliverDue)
    ∧ (s.reg Reg.JIG.STATE = 1 → ∃ t, exec (.jigStop w) s = .next t ∧ t.jig JigTab.stopping = 1 ∧ Only [] [Tab.jig] s t))
  ∧ (∀ (s : State) (errors : List JigError), (s.jigSegment = none → exec (.jigSegmentDone errors) s = .next s)
    ∧ ∀ g, s.jigSegment = some g → g < 16320 →
      ∃ t, exec (.jigSegmentDone errors) s = .next t
        ∧ t.reg Reg.JIG.SEGMENTS_TESTED = (s.reg Reg.JIG.SEGMENTS_TESTED + 1) % 2 ^ 32
        ∧ t.reg Reg.JIG.ERRORS % 2 ^ 32 = (s.reg Reg.JIG.ERRORS + errors.length) % 2 ^ 32
        ∧ (s.jig JigTab.destructive = 0 → t.mem = s.mem ∧ (errors ≠ [] → t.reg (Reg.POOL_BANK.SUSPECT (g / 32)) = 1))
        ∧ (s.jig JigTab.stopping = 1 → t.reg Reg.JIG.STATE = 3 ∧ bit (t.reg Reg.JIG.EVENTS) 0 = true
          ∧ (s.jig JigTab.destructive = 1 → errors = [] → s.jig JigTab.failed = 0 → t.bankState (g / 32) = 3
              ∧ t.reg (Reg.POOL_BANK.SUSPECT (g / 32)) = 0
              ∧ ∀ a, poolAddr (g / 32 * bankSize) ≤ a → a < poolAddr ((g / 32 + 1) * bankSize) → t.byte a = 0)
          ∧ (s.jig JigTab.destructive = 1 → errors ≠ [] ∨ s.jig JigTab.failed ≠ 0 → t.bankState (g / 32) = 5
              ∧ t.bankOwner (g / 32) = ownerNone)))

/-- Monitors set and clear RATINGS, HOLD and the crystal cause. A live rail's status and samples are shown and failures counted; a
voltage step moves each rail of VDD_CORE at most 5 mV. PREPARE, COMMIT and LOCKSTEP_ABORT move the lockstep where the rules admit
them, and its events move it on: PREPARED, failure, lapse, the switch at T, the end of the window, a reversal. Droop and heat set
their flags and states; a throttle step prepares the next divider. THERMTRIP, a rail's timeout and a withheld reset turn every
rail off into STANDBY; another loss of lock is a cold reset. An arrived supply lets its sequence go on. (R522, R523, R526, R527,
R529, R530, R531, R532, R533, R534, R536, R539) -/
def Obligations.PowerServed : Prop :=
  let resvTabs := [Tab.resvState, Tab.resvCause, Tab.resvClear, Tab.resvDrained]
  let off := fun (t : State) => t.reg Reg.POWER_STATE.STATE = 0 ∧ t.mode = 0 ∧ ∀ r, r < 8 → t.tab Tab.railCommand r = 0
  (∀ (s : State) (x : Fin 6) (b : Bool) (c : Instr), (c = .supplyOutOfRange x ∧ b = true) ∨ (c = .supplyBackInRange x ∧ b = false) →
    ∃ t, exec c s = .next t ∧ (∀ i, bit (t.reg Reg.POWER_STATE.RATINGS) i = if i = x.val then b else bit (s.reg Reg.POWER_STATE.RATINGS) i)
      ∧ Only [Reg.POWER_STATE.RATINGS] resvTabs s t)
  ∧ (∀ (s : State) (ppm : Nat) (lost settled : Bool),
    let out := lost = true ∨ 20000 < (toInt 32 ppm).natAbs
    ∃ t, exec (.refOutOfRange ppm lost settled) s = .next t ∧ t.reg Reg.CLOCKS.REF_PPM = ppm % 2 ^ 32
      ∧ t.reg Reg.CLOCKS.ROOT_STATE = (if lost = false ∧ s.reg Reg.CLOCKS.ROOT_STATE = 3 then 2 else s.reg Reg.CLOCKS.ROOT_STATE)
      ∧ (out → bit (t.reg Reg.CLOCKS.EVENTS) 0 = true)
      ∧ (bit (t.reg Reg.POWER_STATE.RATINGS) 6 = true ↔ out ∨ (settled = false ∧ bit (s.reg Reg.POWER_STATE.RATINGS) 6 = true))
      ∧ Only ([Reg.CLOCKS.REF_PPM, Reg.CLOCKS.ROOT_STATE, Reg.CLOCKS.EVENTS, Reg.CLOCKS.EVENTS + 1, Reg.POWER_STATE.RATINGS] ++ modeRegs)
          (Tab.power :: resvTabs) s t)
  ∧ (∀ s : State, (s.reg Reg.CLOCKS.ROOT_STATE ≠ 2 → exec .rootHold s = .next s)
    ∧ (s.reg Reg.CLOCKS.ROOT_STATE = 2 → ∃ t, exec .rootHold s = .next t ∧ t.reg Reg.CLOCKS.ROOT_STATE = 3
        ∧ bit (t.reg Reg.CLOCKS.EVENTS) 1 = true ∧ bit (t.reg Reg.STARTUP.DEGRADED_CAUSES) 6 = true
        ∧ Only ([Reg.CLOCKS.ROOT_STATE, Reg.CLOCKS.EVENTS, Reg.CLOCKS.EVENTS + 2] ++ modeRegs) [Tab.power] s t)
    ∧ (s.reg Reg.CLOCKS.ISLAND_SOURCE ≠ 0 → exec .crystalLost s = .next s)
    ∧ (s.reg Reg.CLOCKS.ISLAND_SOURCE = 0 → ∃ t, exec .crystalLost s = .next t ∧ t.reg Reg.CLOCKS.ISLAND_SOURCE = 1
        ∧ bit (t.reg Reg.CLOCKS.EVENTS) 2 = true ∧ bit (t.reg Reg.STARTUP.DEGRADED_CAUSES) 6 = true
        ∧ Only ([Reg.CLOCKS.ISLAND_SOURCE, Reg.CLOCKS.EVENTS, Reg.CLOCKS.EVENTS + 3] ++ modeRegs) [] s t))
  ∧ (∀ (s : State) (r : Fin 8) (ok : Bool) (status : Nat), (s.railLive r = false → exec (.pmbAlert r ok status) s = .next s)
    ∧ (s.railLive r = true → ∃ t, exec (.pmbAlert r ok status) s = .next t ∧ t.tab Tab.railFault r = ofBool (!ok)
        ∧ (ok = true → t.reg (Reg.PMBUS_RAIL.STATUS_WORD r) = status % 2 ^ 16
          ∧ (statusFaults status = true → bit (t.reg (Reg.PMBUS_RAIL.EVENTS r)) 1 = true ∧ bit (t.reg Reg.STARTUP.DEGRADED_CAUSES) 7 = true))
        ∧ (ok = false → t.reg (Reg.PMBUS_RAIL.COMM_ERRORS r) = (s.reg (Reg.PMBUS_RAIL.COMM_ERRORS r) + 1) % 2 ^ 64
          ∧ bit (t.reg (Reg.PMBUS_RAIL.EVENTS r)) 0 = true ∧ bit (t.reg Reg.STARTUP.DEGRADED_CAUSES) 7 = true
          ∧ (r.val ∈ s.railsOf 0 → s.avsHeld = false → bit (t.reg Reg.VOLTAGE.EVENTS) 1 = true))
        ∧ Only ([Reg.PMBUS_RAIL.STATUS_WORD r, Reg.PMBUS_RAIL.COMM_ERRORS r, Reg.PMBUS_RAIL.EVENTS r, Reg.PMBUS_RAIL.EVENTS r + 1,
            Reg.PMBUS_RAIL.EVENTS r + 2, Reg.VOLTAGE.EVENTS, Reg.VOLTAGE.EVENTS + 2] ++ modeRegs) [Tab.railFault] s t))
  ∧ (∀ (s : State) (reads : List RailRead), (reads.map (·.rail)).Nodup → ∃ t, exec (.railSample reads) s = .next t
      ∧ (∀ x ∈ reads, s.railLive x.rail = true → t.tab Tab.railFault x.rail = ofBool (!x.ok)
        ∧ (x.ok = true → t.reg (Reg.PMBUS_RAIL.VOUT_MV x.rail) = x.voutMv % 2 ^ 16 ∧ t.reg (Reg.PMBUS_RAIL.IOUT_MA x.rail) = x.ioutMa % 2 ^ 32
          ∧ t.reg (Reg.PMBUS_RAIL.POWER_MW x.rail) = x.voutMv % 2 ^ 16 * (x.ioutMa % 2 ^ 32) / 1000 % 2 ^ 32
          ∧ t.reg (Reg.PMBUS_RAIL.TEMP_C x.rail) = x.tempC % 2 ^ 32)
        ∧ (x.ok = false → t.reg (Reg.PMBUS_RAIL.VOUT_MV x.rail) = s.reg (Reg.PMBUS_RAIL.VOUT_MV x.rail)
          ∧ t.reg (Reg.PMBUS_RAIL.COMM_ERRORS x.rail) = (s.reg (Reg.PMBUS_RAIL.COMM_ERRORS x.rail) + 1) % 2 ^ 64))
      ∧ ∀ r, r < 8 → (∀ x ∈ reads, x.rail.val = r → s.railLive r = false) → t.tab Tab.railFault r = s.tab Tab.railFault r
        ∧ t.reg (Reg.PMBUS_RAIL.VOUT_MV r) = s.reg (Reg.PMBUS_RAIL.VOUT_MV r) ∧ t.reg (Reg.PMBUS_RAIL.IOUT_MA r) = s.reg (Reg.PMBUS_RAIL.IOUT_MA r))
  ∧ (∀ (s : State) (failed : List (Fin 8)), (s.avsHeld = true ∨ s.coreOn = false → exec (.avsStep failed) s = .next s)
    ∧ (s.avsHeld = false → s.coreOn = true → ∃ t, exec (.avsStep failed) s = .next t ∧ ∀ r : Fin 8,
        let v := s.tab Tab.railCommand r
        let moved := if v < s.targetMv then min s.targetMv (v + 5)
          else if s.targetMv < v ∧ s.lockState = 0 then max s.targetMv (v - 5) else v
        t.tab Tab.railCommand r = (if r.val ∈ s.railsOf 0 ∧ r ∉ failed then moved else v)
          ∧ (r.val ∈ s.railsOf 0 → moved ≠ v → r ∈ failed → t.tab Tab.railFault r = 1 ∧ bit (t.reg (Reg.PMBUS_RAIL.EVENTS r)) 0 = true)))
  ∧ (∀ (s : State) (w : SessionNo) (v : Nat), s.permits w 0x0440 0x02 v = true →
    let txn := bits v 31 16
    let d := bits v 3 0
    let good := txn ≠ 0 ∧ bits v 15 4 = 0 ∧ d ∈ [4, 5, 6, 8]
    let again := s.lockState ≠ 0 ∧ s.reg Reg.LOCKSTEP.TXN = txn ∧ s.reg Reg.LOCKSTEP.TARGET_DIVIDER = d
    (¬good ∨ s.selfRun = true ∨ 3 ≤ s.lockState ∨ again → exec (.prepare w v) s = .next s.deliverDue)
    ∧ (good → s.selfRun = false → s.lockState < 3 → ¬again → ∃ t, exec (.prepare w v) s = .next t
        ∧ t.reg Reg.LOCKSTEP.TXN = txn ∧ t.reg Reg.LOCKSTEP.TARGET_DIVIDER = d
        ∧ (s.divider ≤ d → t.lockState = 2 ∧ bit (t.reg Reg.LOCKSTEP.EVENTS) 0 = true)
        ∧ (d < s.divider → s.avsHeld = true → t.lockState = 0 ∧ bit (t.reg Reg.LOCKSTEP.EVENTS) 1 = true)
        ∧ (d < s.divider → s.avsHeld = false → t.lockState = 1 ∧ t.reg Reg.LOCKSTEP.EVENTS = s.reg Reg.LOCKSTEP.EVENTS)
        ∧ Only [Reg.LOCKSTEP.TXN, Reg.LOCKSTEP.TARGET_DIVIDER, Reg.LOCKSTEP.STATE, Reg.LOCKSTEP.EVENTS, Reg.LOCKSTEP.EVENTS + 1,
            Reg.LOCKSTEP.EVENTS + 2] [Tab.power] s t))
  ∧ (∀ s : State,
    let there := ∀ r ∈ s.railsOf 0, s.targetMv ≤ s.reg (Reg.PMBUS_RAIL.VOUT_MV r)
    (s.lockState ≠ 1 ∨ ¬there → exec .prepared s = .next s)
    ∧ (s.lockState = 1 → there → ∃ t, exec .prepared s = .next t ∧ bit (t.reg Reg.LOCKSTEP.EVENTS) 0 = true
        ∧ (s.selfRun = false → t.lockState = 2) ∧ (s.selfRun = true → t.lockState = 3 ∧ t.reg Reg.LOCKSTEP.COMMIT_TIME = s.selfInstant)
        ∧ Only [Reg.LOCKSTEP.STATE, Reg.LOCKSTEP.COMMIT_TIME, Reg.LOCKSTEP.EVENTS, Reg.LOCKSTEP.EVENTS + 1] [] s t)
    ∧ (s.lockState ≠ 1 → exec .prepareFailed s = .next s)
    ∧ (s.lockState = 1 → ∃ t, exec .prepareFailed s = .next t ∧ t.lockState = 0 ∧ bit (t.reg Reg.LOCKSTEP.EVENTS) 1 = true
        ∧ Only [Reg.LOCKSTEP.STATE, Reg.LOCKSTEP.EVENTS, Reg.LOCKSTEP.EVENTS + 2] [Tab.power] s t)
    ∧ (s.lockState ≠ 2 → exec .prepareLapsed s = .next s)
    ∧ (s.lockState = 2 → ∃ t, exec .prepareLapsed s = .next t ∧ t.lockState = 0 ∧ bit (t.reg Reg.LOCKSTEP.EVENTS) 4 = true
        ∧ Only [Reg.LOCKSTEP.STATE, Reg.LOCKSTEP.EVENTS, Reg.LOCKSTEP.EVENTS + 5] [Tab.power] s t))
  ∧ (∀ (s : State) (w : SessionNo) (v : Nat), s.permits w 0x0440 0x03 v = true →
    let ns := time80Ns (v % 2 ^ 80)
    let good := v % 2 ^ 80 % 2 ^ 32 < 1000000000 ∧ ns % 1000 = 0 ∧ s.clock.ptp + 500000 * nsUnit ≤ ns * nsUnit
      ∧ ns * nsUnit ≤ s.clock.ptp + s.reg Reg.LOCKSTEP.PREPARE_HOLD_MS * 1000000 * nsUnit
    let ready := s.selfRun = false ∧ s.lockState = 2 ∧ s.reg Reg.LOCKSTEP.TXN = v / 2 ^ 80 ∧ s.timeLocked = true
    (s.tab Tab.power 2 = v + 1 ∨ ¬good ∨ ¬ready → exec (.commit w v) s = .next s.deliverDue)
    ∧ (s.tab Tab.power 2 ≠ v + 1 → good → ready → ∃ t, exec (.commit w v) s = .next t ∧ t.lockState = 3
        ∧ t.reg Reg.LOCKSTEP.COMMIT_TIME = v % 2 ^ 80 ∧ Only [Reg.LOCKSTEP.STATE, Reg.LOCKSTEP.COMMIT_TIME] [] s t))
  ∧ (∀ (s : State) (w : SessionNo) (txn : Nat), s.permits w 0x0440 0x04 txn = true →
    let open_ := txn ≠ 0 ∧ s.lockState ≠ 0 ∧ s.lockState ≠ 4 ∧ s.reg Reg.LOCKSTEP.TXN = txn
      ∧ (s.lockState = 3 → s.clock.ptp + 100000 * nsUnit < time80Ns (s.reg Reg.LOCKSTEP.COMMIT_TIME) * nsUnit)
    (¬open_ → exec (.lockstepAbort w txn) s = .next s.deliverDue)
    ∧ (open_ → ∃ t, exec (.lockstepAbort w txn) s = .next t ∧ t.lockState = 0 ∧ t.selfRun = false ∧ Only [Reg.LOCKSTEP.STATE] [Tab.power] s t))
  ∧ (∀ s : State,
    let reached := s.lockState = 3 ∧ time80Ns (s.reg Reg.LOCKSTEP.COMMIT_TIME) * nsUnit ≤ s.clock.ptp
    let d := s.reg Reg.LOCKSTEP.TARGET_DIVIDER
    (¬reached → exec .applied s = .next s.deliverDue)
    ∧ (reached → ∃ t, exec .applied s = .next t ∧ t.divider = d ∧ t.reg Reg.LOCKSTEP.LAST_APPLIED = s.reg Reg.LOCKSTEP.COMMIT_TIME
        ∧ t.reg Reg.LOCKSTEP.IN_STEP = 1 ∧ bit (t.reg Reg.LOCKSTEP.EVENTS) 2 = true ∧ t.lockState = (if d < s.divider then 4 else 0)
        ∧ (d < s.divider → t.tab Tab.power 0 = s.divider)
        ∧ Only ([Reg.CLOCKS.BENCH_DIVIDER, Reg.LOCKSTEP.LAST_APPLIED, Reg.LOCKSTEP.STATE, Reg.LOCKSTEP.IN_STEP, Reg.LOCKSTEP.EVENTS,
            Reg.LOCKSTEP.EVENTS + 3, Reg.THERMAL.THROTTLE_STATE] ++ modeRegs) [Tab.power] s t)
    ∧ (s.lockState ≠ 4 → exec .raiseWindowEnd s = .next s)
    ∧ (s.lockState = 4 → ∃ t, exec .raiseWindowEnd s = .next t ∧ t.lockState = 0 ∧ t.tab Tab.power 0 = 0
        ∧ Only [Reg.LOCKSTEP.STATE] [Tab.power] s t))
  ∧ (∀ (s : State) (mv : Nat), ∃ t, exec (.reverted mv) s = .next t ∧ t.reg Reg.VOLTAGE.DIE_MV = mv % 2 ^ 16
      ∧ (s.lockState = 4 → s.tab Tab.power 0 ≠ 0 → mv < s.vmin →
        t.divider = s.tab Tab.power 0 ∧ t.reg Reg.LOCKSTEP.IN_STEP = 0 ∧ bit (t.reg Reg.LOCKSTEP.EVENTS) 3 = true)
      ∧ (s.lockState ≠ 4 ∨ s.tab Tab.power 0 = 0 ∨ s.vmin ≤ mv → Only [Reg.VOLTAGE.DIE_MV] [] s t)
      ∧ Only ([Reg.VOLTAGE.DIE_MV, Reg.CLOCKS.BENCH_DIVIDER, Reg.LOCKSTEP.IN_STEP, Reg.LOCKSTEP.EVENTS, Reg.LOCKSTEP.EVENTS + 4] ++ modeRegs)
          [Tab.power] s t)
  ∧ (∀ (s : State) (mv edges : Nat),
    let droops := mv + s.reg Reg.VOLTAGE.DROOP_MV < s.targetMv ∧ s.tab Tab.power 3 = 0
    let ends := s.targetMv + 10 ≤ mv + s.reg Reg.VOLTAGE.DROOP_MV ∧ s.tab Tab.power 3 = 1
    let low := mv < s.vmin ∧ s.lockState ≠ 4
    (s.coreOn = false → exec (.clockStretch mv) s = .next s ∧ exec (.stretchEnd mv edges) s = .next s ∧ exec (.undervolt mv) s = .next s)
    ∧ (s.coreOn = true →
      (∃ t, exec (.clockStretch mv) s = .next t ∧ t.reg Reg.VOLTAGE.DIE_MV = mv % 2 ^ 16
        ∧ (droops → t.tab Tab.power 3 = 1 ∧ t.reg Reg.VOLTAGE.STRETCH_EVENTS = (s.reg Reg.VOLTAGE.STRETCH_EVENTS + 1) % 2 ^ 64)
        ∧ (¬droops → Only [Reg.VOLTAGE.DIE_MV] [] s t) ∧ Only [Reg.VOLTAGE.DIE_MV, Reg.VOLTAGE.STRETCH_EVENTS] [Tab.power] s t)
      ∧ (∃ t, exec (.stretchEnd mv edges) s = .next t ∧ t.reg Reg.VOLTAGE.DIE_MV = mv % 2 ^ 16
        ∧ (ends → t.tab Tab.power 3 = 0 ∧ t.reg Reg.VOLTAGE.STRETCHED_BC = (s.reg Reg.VOLTAGE.STRETCHED_BC + edges) % 2 ^ 64)
        ∧ (¬ends → Only [Reg.VOLTAGE.DIE_MV] [] s t) ∧ Only [Reg.VOLTAGE.DIE_MV, Reg.VOLTAGE.STRETCHED_BC] [Tab.power] s t)
      ∧ ∃ t, exec (.undervolt mv) s = .next t ∧ t.reg Reg.VOLTAGE.DIE_MV = mv % 2 ^ 16
        ∧ (low → bit (t.reg Reg.VOLTAGE.EVENTS) 0 = true) ∧ (¬low → Only [Reg.VOLTAGE.DIE_MV] [] s t)
        ∧ Only [Reg.VOLTAGE.DIE_MV, Reg.VOLTAGE.EVENTS, Reg.VOLTAGE.EVENTS + 1] [] s t))
  ∧ (∀ (s : State) (temps : List Nat) (calm cool : Bool) (lost : Nat), s.tab Tab.power 6 ≤ 1 →
    let out := ∃ i, i < 24 ∧ (s.coreOn = true ∨ i = 0) ∧ (11000 < toInt 32 (temps.getD i 0) ∨ toInt 32 (temps.getD i 0) < -4000)
    ∃ t, exec (.thermalSample temps calm cool lost) s = .next t
      ∧ (s.coreOn = true → t.reg Reg.THERMAL.SENSORS = ofBE (((List.range 24).map (fun i => temps.getD i 0 % 2 ^ 32)).flatMap (toBE 4))
        ∧ (∀ i, i < 24 → toInt 32 (temps.getD i 0) ≤ t.hottest) ∧ t.hottest = toInt 32 (temps.getD (t.reg Reg.THERMAL.HOTTEST_SENSOR) 0))
      ∧ (s.coreOn = false → t.hottest = toInt 32 (temps.getD 0 0) ∧ t.reg Reg.THERMAL.SENSORS = 0)
      ∧ t.reg Reg.VOLTAGE.BAND = nextBand (s.reg Reg.VOLTAGE.BAND) t.hottest
      ∧ (bit (t.reg Reg.POWER_STATE.RATINGS) 7 = true ↔ out ∨ (calm = false ∧ bit (s.reg Reg.POWER_STATE.RATINGS) 7 = true))
      ∧ (out → bit (t.reg Reg.THERMAL.EVENTS) 4 = true)
      ∧ (11000 ≤ t.hottest → t.reg Reg.THERMAL.THROTTLE_STATE = 3) ∧ (t.hottest < 10700 → t.reg Reg.THERMAL.THROTTLE_STATE ≠ 3)
      ∧ (s.hottest < 10500 → 10500 ≤ t.hottest → bit (t.reg Reg.THERMAL.EVENTS) 0 = true
        ∧ (s.mayThrottle = true → s.divider ∈ [4, 5, 6] → t.lockState = 3
          ∧ t.reg Reg.LOCKSTEP.TARGET_DIVIDER = indexDivider (dividerIndex s.divider + 1)))
      ∧ (t.hottest < 10500 → cool = true → s.tab Tab.power 5 = 1 → s.throttleGroup = true → bit (t.reg Reg.THERMAL.EVENTS) 1 = true))
  ∧ (∀ s : State, s.divider ∈ [4, 5, 6, 8] →
    let down := 10500 ≤ s.hottest ∧ s.mayThrottle = true ∧ s.divider < 8
    let up := s.hottest < 10500 ∧ s.tab Tab.power 4 = 1 ∧ s.mayThrottle = true ∧ s.tab Tab.power 7 = 1
      ∧ s.reg Reg.CLOCKS.BASE_DIVIDER < s.divider ∧ 4 < s.divider
    ∃ t, exec .throttleStep s = .next t
      ∧ (down → t.reg Reg.LOCKSTEP.TARGET_DIVIDER = indexDivider (dividerIndex s.divider + 1) ∧ t.lockState = 3 ∧ t.selfRun = true
        ∧ t.reg Reg.LOCKSTEP.COMMIT_TIME = s.selfInstant)
      ∧ (up → t.reg Reg.LOCKSTEP.TARGET_DIVIDER = indexDivider (dividerIndex s.divider - 1)
        ∧ (s.avsHeld = false → t.lockState = 1 ∧ t.selfRun = true) ∧ (s.avsHeld = true → t.lockState = 0 ∧ bit (t.reg Reg.LOCKSTEP.EVENTS) 1 = true))
      ∧ (s.mayThrottle = false → Only [Reg.THERMAL.THROTTLE_STATE] [] s t)
      ∧ Only [Reg.LOCKSTEP.TXN, Reg.LOCKSTEP.TARGET_DIVIDER, Reg.LOCKSTEP.STATE, Reg.LOCKSTEP.COMMIT_TIME, Reg.LOCKSTEP.EVENTS,
          Reg.LOCKSTEP.EVENTS + 1, Reg.LOCKSTEP.EVENTS + 2, Reg.THERMAL.THROTTLE_STATE] [Tab.power] s t)
  ∧ (∀ (s : State) (x : Fin 24) (reading : Nat),
    (toInt 32 reading < 11500 ∨ s.reg Reg.THERMAL.THERMTRIP = 1 → exec (.thermtrip x reading) s = .next s)
    ∧ (11500 ≤ toInt 32 reading → s.reg Reg.THERMAL.THERMTRIP ≠ 1 → ∃ t, exec (.thermtrip x reading) s = .next t
        ∧ t.reg Reg.THERMAL.THERMTRIP = 1 ∧ bit (t.reg Reg.THERMAL.EVENTS) 3 = true ∧ off t))
  ∧ (∀ (s : State) (w : SessionNo), s.permits w 0x0450 0x08 1 = true →
    let hot := if s.coreOn then ∃ i, i < 24 ∧ 10000 ≤ toInt 32 (entryAt 24 4 (s.reg Reg.THERMAL.SENSORS) i) else 10000 ≤ s.hottest
    (hot → exec (.thermtripClear w) s = .next s.deliverDue)
    ∧ (¬hot → ∃ t, exec (.thermtripClear w) s = .next t ∧ t.reg Reg.THERMAL.THERMTRIP = 0 ∧ Only [Reg.THERMAL.THERMTRIP] [] s t))
  ∧ (∀ (s : State) (x : Fin 6) (env : StartEnv),
    let arrives := bit s.awaited x = true ∧ s.supplyThere x = true
    (¬arrives → exec (.railArrived x env) s = .next s)
    ∧ (arrives → setBit s.awaited x false ≠ 0 → ∃ t, exec (.railArrived x env) s = .next t ∧ bit t.awaited x = false ∧ Only [] [Tab.power] s t)
    ∧ (arrives → setBit s.awaited x false = 0 →
      (∀ y, s.sequence = 1 ∨ s.sequence = 2 → nextSupply x = some y →
        ∃ t, exec (.railArrived x env) s = .next t ∧ t.awaited = 2 ^ y ∧ (∀ r ∈ s.railsOf y, t.tab Tab.railCommand r = s.setting y)
          ∧ Only [] [Tab.power, Tab.railCommand] s t)
      ∧ (s.sequence = 1 → nextSupply x = none → s.tab Tab.power 9 ≠ 1 → ∃ t, exec (.railArrived x env) s = .next t
          ∧ t.reg Reg.STARTUP.STEP = 3 ∧ t.reg Reg.POWER_STATE.STATE = 3 ∧ t.reg Reg.CLOCKS.ROOT_STATE = 2 ∧ t.sequence = 1)
      ∧ (s.sequence = 1 ∨ s.sequence = 2 → nextSupply x = none → s.tab Tab.power 9 = 1 → ∃ t, exec (.railArrived x env) s = .next t ∧ off t)
      ∧ (s.sequence = 2 → nextSupply x = none → s.tab Tab.power 9 ≠ 1 → env.imageBad = false → ∃ t, exec (.railArrived x env) s = .next t
          ∧ t.sequence = 0 ∧ t.reg Reg.POWER_STATE.STATE = 3 ∧ t.reg Reg.CLOCKS.ROOT_STATE = 2 ∧ (t.mode = 2 ∨ t.mode = 3))
      ∧ (s.sequence = 3 ∨ s.sequence = 4 → x.val ≠ 1 → ∃ t, exec (.railArrived x env) s = .next t ∧ t.awaited = 2
          ∧ (∀ r ∈ s.railsOf 1, t.tab Tab.railCommand r = if s.sequence = 3 then 0 else 550) ∧ Only [] [Tab.power, Tab.railCommand] s t)
      ∧ (s.sequence = 3 → x.val = 1 → ∃ t, exec (.railArrived x env) s = .next t ∧ t.sequence = 0 ∧ t.reg Reg.POWER_STATE.STATE = 0 ∧ t.mode = 0)
      ∧ (s.sequence = 4 → x.val = 1 → ∃ t, exec (.railArrived x env) s = .next t ∧ t.sequence = 0 ∧ t.reg Reg.POWER_STATE.STATE = 1
          ∧ t.mode = 0 ∧ t.mem = s.mem)))
  ∧ (∀ (s : State) (x : Fin 6),
    let there := s.supplyThere x = true ∧ ∃ r ∈ s.railsOf x, s.tab Tab.railCommand r ≠ 0
    (bit s.awaited x = false ∨ there → exec (.railTimeout x) s = .next s)
    ∧ (bit s.awaited x = true → ¬there → ∃ t, exec (.railTimeout x) s = .next t ∧ off t ∧ t.sequence = 0
        ∧ (s.sequence = 1 → bit (t.reg Reg.STARTUP.EVENTS) 2 = true)))
  ∧ (∀ (s : State) (env : StartEnv),
    let unlocks := s.reg Reg.CLOCKS.ROOT_STATE = 2 ∧ s.tab Tab.power 9 = 0 ∧ s.coreOn = true
    (¬unlocks → exec (.rootUnlock env) s = .next s)
    ∧ (unlocks → s.resetWithheld = true → ∃ t, exec (.rootUnlock env) s = .next t ∧ off t)
    ∧ (unlocks → s.resetWithheld = false → ∃ t, exec (.rootUnlock env) s = .next t ∧ t.reg Reg.STARTUP.LAST_RESET = 2
        ∧ t.reg Reg.STARTUP.LAST_RESET_CAUSE = 4 ∧ t.reg Reg.STARTUP.STEP = 3 ∧ t.reg Reg.POWER_STATE.STATE = 3
        ∧ t.reg Reg.CLOCKS.ROOT_STATE = 2))

/-- START, WAKE, WARM_RESET, STANDBY, RETAIN and COLD_RESET act in the states R550 permits, and in no other: a sequence begins with
its rails commanded, or the reset is taken. An island reset by command, pin, power or watchdog, and the loss of VAUX, leave the
flash, the life cycle and nothing of sessions, frames, stagings, the presence window or the sealed bank; AUTOSTART begins start-
up. CLEAR_BREACH and CLEAR_PERSISTED clear what they name. A firmware import stores its octets in the slot that is not running,
ACCEPT starts its check, and the check validates or invalidates that slot. A core supply lost turns every rail off. (R50, R72,
R546, R549, R550, R551, R552, R553, R555, R557, R562, R566) -/
def Obligations.StartupServed : Prop :=
  let off := fun (t : State) => t.reg Reg.POWER_STATE.STATE = 0 ∧ t.mode = 0 ∧ ∀ r, r < 8 → t.tab Tab.railCommand r = 0
  let sequenceRegs := [Reg.STARTUP.LAST_RESET, Reg.STARTUP.LAST_RESET_CAUSE, Reg.STARTUP.RESETS, Reg.STARTUP.STEP, Reg.POWER_STATE.STATE]
  let cold := fun (t : State) (cause : Nat) => t.reg Reg.STARTUP.LAST_RESET = 2 ∧ t.reg Reg.STARTUP.LAST_RESET_CAUSE = cause
    ∧ t.reg Reg.STARTUP.STEP = 3 ∧ t.reg Reg.POWER_STATE.STATE = 3 ∧ t.reg Reg.CLOCKS.ROOT_STATE = 2
  let gone := fun (s t : State) => t.frames = [] ∧ t.copies = [] ∧ t.stagings = [] ∧ (∀ w : SessionNo, t.reg (Reg.SESSION.STATE w) = 0)
    ∧ t.reg Reg.PRESENCE.WINDOW_OPEN = 0 ∧ t.reg Reg.LIFECYCLE.STATE = s.reg Reg.LIFECYCLE.STATE
    ∧ (s.wf = true → ∀ a, t.byte a = if 2 ^ 36 ≤ a ∧ a < 2 ^ 37 then s.byte a else 0)
  let closed := fun (s t : State) => s.reg Reg.PRESENCE.WINDOW_OPEN = 1 → bit (t.reg Reg.SECURITY_EVENTS.FLAGS) 1 = true
  let begun := fun (t : State) (straps cause : Nat) =>
    (bit straps 2 = false → t.reg Reg.STARTUP.LAST_RESET = 1 ∧ t.reg Reg.STARTUP.LAST_RESET_CAUSE = cause ∧ t.mode = 0
      ∧ t.reg Reg.POWER_STATE.STATE = 0)
    ∧ (bit straps 2 = true → bits straps 1 0 ∈ [0, 3] → t.tab Tab.store 12 = 0 → t.reg Reg.STARTUP.LAST_RESET = 2
      ∧ t.reg Reg.STARTUP.LAST_RESET_CAUSE = cause ∧ t.mode = 1 ∧ t.reg Reg.STARTUP.STEP = 1 ∧ t.sequence = 1)
    ∧ (t.tab Tab.store 12 ≠ 0 → t.mode = 0 ∧ t.reg Reg.POWER_STATE.STATE = 0)
  (∀ (s : State) (w : SessionNo), s.permits w 0x0500 0x01 1 = true →
    let may := s.resetting = false ∧ s.mode = 0 ∧ s.reg Reg.POWER_STATE.STATE = 0 ∧ s.reg Reg.THERMAL.THERMTRIP = 0
    (¬may → exec (.start w) s = .next s.deliverDue)
    ∧ (may → ∃ t, exec (.start w) s = .next t ∧ t.mode = 1 ∧ t.reg Reg.STARTUP.LAST_RESET = 2 ∧ t.reg Reg.STARTUP.LAST_RESET_CAUSE = 3
        ∧ t.reg Reg.STARTUP.STEP = 1 ∧ t.reg Reg.POWER_STATE.STATE = 2 ∧ t.sequence = 1 ∧ t.awaited = 2
        ∧ t.reg Reg.STARTUP.RESETS = (s.reg Reg.STARTUP.RESETS + 1) % 2 ^ 32
        ∧ (∀ r ∈ s.railsOf 1, t.tab Tab.railCommand r = 800)
        ∧ Only (sequenceRegs ++ modeRegs) [Tab.marks, Tab.power, Tab.railCommand] s t))
  ∧ (∀ (s : State) (w : SessionNo), s.permits w 0x0500 0x01 2 = true →
    let may := s.resetting = false ∧ s.operating = false ∧ s.reg Reg.POWER_STATE.STATE = 1
    (¬may → exec (.wake w) s = .next s.deliverDue)
    ∧ (may → ∃ t, exec (.wake w) s = .next t ∧ t.mode = 1 ∧ t.reg Reg.STARTUP.LAST_RESET = 5 ∧ t.reg Reg.STARTUP.LAST_RESET_CAUSE = 3
        ∧ t.reg Reg.POWER_STATE.STATE = 2 ∧ t.sequence = 2 ∧ t.awaited = 2 ∧ (∀ r ∈ s.railsOf 1, t.tab Tab.railCommand r = 800)
        ∧ Only (sequenceRegs ++ modeRegs) [Tab.marks, Tab.power, Tab.railCommand] s t))
  ∧ (∀ (s : State) (w : SessionNo), s.permits w 0x0500 0x01 3 = true →
    (s.resetting = true ∨ s.operating = false → exec (.warmReset w) s = .next s.deliverDue)
    ∧ (s.resetting = false → s.operating = true → ∃ t, exec (.warmReset w) s = .next t ∧ t.mode = 4 ∧ t.reg Reg.STARTUP.LAST_RESET = 3
        ∧ t.reg Reg.STARTUP.LAST_RESET_CAUSE = 3 ∧ t.saving = false))
  ∧ (∀ (s : State) (w : SessionNo) (c : Instr) (v seq : Nat), (c = .standby w ∧ v = 1 ∧ seq = 3) ∨ (c = .retain w ∧ v = 2 ∧ seq = 4) →
    s.permits w 0x0500 0x02 v = true →
    (s.resetting = true ∨ s.operating = false → exec c s = .next s.deliverDue)
    ∧ (s.resetting = false → s.operating = true → ∃ t, exec c s = .next t ∧ t.sequence = seq ∧ t.reg Reg.POWER_STATE.STATE = 2
        ∧ t.awaited = 29 ∧ (∀ x ∈ [0, 2, 3, 4], ∀ r ∈ s.railsOf x, t.tab Tab.railCommand r = 0)
        ∧ (∀ p, p < 512 → t.reg (Reg.PORT.LINK_STATE p) = 0) ∧ (∀ n, n < 512 → t.laneState n = 0)))
  ∧ (∀ (s : State) (w : SessionNo) (env : StartEnv), s.permits w 0x0500 0x02 3 = true →
    (s.resetting = true ∨ s.operating = false → exec (.coldReset w env) s = .next s.deliverDue)
    ∧ (s.resetting = false → s.operating = true → ∃ t, exec (.coldReset w env) s = .next t
        ∧ (s.tab Tab.power 9 ≠ 1 → cold t 3 ∧ t.sequence = 1) ∧ (s.tab Tab.power 9 = 1 → off t)))
  ∧ (∀ (s : State) (w : SessionNo), s.permits w 0x0500 0x02 4 = true →
    ∃ t, exec (.islandReset w) s = .next t ∧ gone s t ∧ closed s t ∧ begun t (s.reg Reg.STARTUP.STRAPS) 3
      ∧ t.reg Reg.STARTUP.STRAPS = s.reg Reg.STARTUP.STRAPS)
  ∧ (∀ (s : State) (byPin : Bool) (straps : Fin 8) (keyHeld firmwareOk : Bool),
    ∃ t, exec (.islandStart byPin straps keyHeld firmwareOk) s = .next t ∧ gone s t ∧ closed s t ∧ begun t straps (if byPin then 1 else 0)
      ∧ t.reg Reg.STARTUP.STRAPS = straps.val ∧ t.tab Tab.store 12 = ofBool (!firmwareOk)
      ∧ t.reg Reg.PRESENCE.KEY_ASSERTED = ofBool keyHeld)
  ∧ (∀ (s : State) (pc : Nat), ∃ t, exec (.islandWatchdog pc) s = .next t ∧ gone s t ∧ closed s t ∧ begun t (s.reg Reg.STARTUP.STRAPS) 2
      ∧ t.reg Reg.FAULT_LOG.LOG_HEAD = 1 ∧ t.reg Reg.FAULT_LOG.PERSISTED_HEAD = (s.reg Reg.FAULT_LOG.PERSISTED_HEAD + 1) % 2 ^ 32
      ∧ t.tab Tab.faultPersisted (s.reg Reg.FAULT_LOG.PERSISTED_HEAD % 16) = t.tab Tab.faultLog 0
      ∧ t.tab Tab.faultLog 0 % 2 ^ 320 = faultData 4 (pc % 2 ^ 32) % 2 ^ 320)
  ∧ (∀ s : State, ∃ t, exec .vauxLost s = .next t ∧ gone s t ∧ t.mode = 0 ∧ t.reg Reg.POWER_STATE.STATE = 0)
  ∧ (∀ s : State, (s.reg Reg.POWER_STATE.STATE = 0 → exec .coreSupplyLost s = .next s)
    ∧ (s.reg Reg.POWER_STATE.STATE ≠ 0 → ∃ t, exec .coreSupplyLost s = .next t ∧ off t ∧ t.sequence = 0))
  ∧ (∀ (s : State) (w : SessionNo),
    (s.permits w 0x0500 0x0D 1 = true → ∃ t, exec (.clearBreach w) s = .next t ∧ bit (t.reg Reg.STARTUP.DEGRADED_CAUSES) 10 = false
      ∧ Only modeRegs [] s t)
    ∧ (s.permits w 0x0510 0x05 1 = true → ∃ t, exec (.clearPersisted w) s = .next t ∧ t.reg Reg.FAULT_LOG.PERSISTED_HEAD = 0
      ∧ (∀ i, i < 16 → t.tab Tab.faultPersisted i = 0) ∧ Only [Reg.FAULT_LOG.PERSISTED_HEAD] [Tab.faultPersisted] s t))
  ∧ (∀ (s : State) (w : SessionNo) (o : Nat) (data : Bytes), s.permitsBlock w 0x0520 0x04 o data.length = true →
    let slot := if s.firmwareSlot = 0 then Reg.FIRMWARE.SLOT_A_VERSION else Reg.FIRMWARE.SLOT_B_VERSION
    let a := firmwareAddr s.firmwareSlot + o
    (o ≠ s.tab Tab.store 1 ∨ s.reg Reg.FIRMWARE.STATE = 5 ∨ data = [] → exec (.firmwareImport w o data) s = .next s.deliverDue)
    ∧ (o = s.tab Tab.store 1 → s.reg Reg.FIRMWARE.STATE ≠ 5 → data ≠ [] → ∃ t, exec (.firmwareImport w o data) s = .next t
        ∧ ((t.reg Reg.FIRMWARE.STATE = 4 ∧ t.tab Tab.store 1 = o + data.length ∧ t.reg slot = 0
          ∧ (∀ i, i < data.length → t.byte (a + i) = data.getD i 0 % 256)
          ∧ OnlyMem [Reg.FIRMWARE.STATE, slot] [Tab.store] a (a + data.length) { s with freeCtr := s.freeCtr + 1 } t)
        ∨ o ≠ 0 ∧ Only [] [] { s with freeCtr := s.freeCtr + 1 } t)))
  ∧ (∀ (s : State) (w : SessionNo), s.permits w 0x0520 0x05 1 = true →
    (s.reg Reg.FIRMWARE.STATE = 5 → exec (.accept w) s = .next s.deliverDue)
    ∧ (s.reg Reg.FIRMWARE.STATE ≠ 5 → ∃ t, exec (.accept w) s = .next t ∧ t.reg Reg.FIRMWARE.STATE = 5 ∧ Only [Reg.FIRMWARE.STATE] [] s t))
  ∧ (∀ (s : State) (result : Fin 4) (version : Nat),
    let slot := if s.firmwareSlot = 0 then Reg.FIRMWARE.SLOT_A_VERSION else Reg.FIRMWARE.SLOT_B_VERSION
    let code := if s.tab Tab.store 1 = 0 then Code.length
      else if result.val = 0 then Code.ok else if result.val = 1 then Code.signatureFail else if result.val = 2 then Code.length else Code.range
    (s.reg Reg.FIRMWARE.STATE ≠ 5 → exec (.firmwareCheckDone result version) s = .next s)
    ∧ (s.reg Reg.FIRMWARE.STATE = 5 → ∃ t, exec (.firmwareCheckDone result version) s = .next t ∧ t.reg Reg.FIRMWARE.STATE = 0
        ∧ t.tab Tab.store 1 = 0 ∧ t.reg Reg.FIRMWARE.LAST_RESULT = code
        ∧ (code = Code.ok → t.reg slot = max 1 (version % 2 ^ 32) ∧ t.tab Tab.store 11 = s.firmwareSlot + 1)
        ∧ (code ≠ Code.ok → t.reg slot = 0) ∧ (code = Code.signatureFail → bit (t.reg Reg.SECURITY_EVENTS.FLAGS) 7 = true)
        ∧ Only [Reg.FIRMWARE.STATE, Reg.FIRMWARE.LAST_RESULT, slot, Reg.SECURITY_EVENTS.FLAGS, Reg.SECURITY_EVENTS.FLAGS + 8] [Tab.store] s t))

/-- On a running bench with a slot that names no unused field, each of the 27 scalar operations puts its result into DST: the 64-bit
sum, difference, product, shift, logic; a quotient truncated and a remainder with the dividend's sign, 0 where B is 0; the
binary64 results; CMP and FCMP write flags alone. With SETF, Z, N, C and V are written as a 64-bit subtraction or result gives
them, so that LT, LTU and EQ compare A with B after CMP or SUB. The quotient that 64 bits do not hold is open, and then alone a
free value is drawn (log: the model's choice); its V is set. Nothing else changes; a bench that does not run, or another slot,
changes nothing. (R386, R387, R421, R426) -/
def Obligations.ScalarUnit : Prop :=
  ∀ (s : State) (o : ScalarOp) (b : BenchNo) (x : ScalarSlot) (imm : Fin 262144),
    (¬(s.benchRuns b = true ∧ scalarOk o x = true) → exec (o.command b x imm) s = .next s.deliverDue)
    ∧ (s.benchRuns b = true → scalarOk o x = true → (∀ i, i < 64 → s.sReg b i < 2 ^ 64) →
      let a := s.sReg b x.a
      let y := if x.immB then signExtend 18 64 imm else s.sReg b x.b
      let open' := o = .divs ∧ i64 a = -(2 ^ 63) ∧ i64 y = -1
      ∃ t r, exec (o.command b x imm) s = .next t ∧ r < 2 ^ 64 ∧ o.means a y (s.sReg b x.c) (s.vReg b x.a) r
        ∧ (o.isCmp = false → t.sReg b x.dst = r)
        ∧ (∀ c i, c < 128 → i < 64 → o.isCmp = true ∨ c ≠ b.val ∨ i ≠ x.dst.val → t.sReg c i = s.sReg c i)
        ∧ (∀ c, c < 128 → x.setF = false ∨ c ≠ b.val → t.flagsOf c = s.flagsOf c)
        ∧ (x.setF = true →
          (o = .cmp ∨ o = .sub → (t.condHolds b 0 = true ↔ a = y) ∧ (t.condHolds b 2 = true ↔ i64 a < i64 y)
            ∧ (t.condHolds b 4 = true ↔ a < y) ∧ (t.condHolds b 6 = true ↔ i64 a ≤ i64 y))
          ∧ (o = .fcmp → t.condHolds b 0 = f64.equal a y ∧ t.condHolds b 2 = f64.less a y
            ∧ t.condHolds b 4 = (f64.isNan a || f64.isNan y))
          ∧ (o.isCmp = false → o ≠ .sub → bit (t.flagsOf b) 0 = decide (r = 0) ∧ bit (t.flagsOf b) 1 = bit r 63 ∧ bit (t.flagsOf b) 2 = false
            ∧ (bit (t.flagsOf b) 3 = true ↔ (o = .add ∧ i64 a + i64 y ≠ i64 r) ∨ (o = .mul ∧ i64 a * i64 y ≠ i64 r) ∨ open')))
        ∧ (¬open' → t.freeCtr = s.freeCtr)
        ∧ Only [] [Tab.benchS, Tab.benchFlags] { s with freeCtr := t.freeCtr } t)

/-- On a running bench with a slot that names no unused field, each lane-wise vector operation writes the lanes of VD whose MASK bit
is 1 with the FP32 result of the lanes of its sources, the comparison, selection, conversion, broadcast of s[SREG] or lane that
s[SREG] selects, and keeps the other lanes; VHSUM writes the widened sum of the eight lanes, in the manual's order, into s[SREG].
Which operand VMIN and VMAX give where neither is less is open, but for two equal numbers and two NaNs (the model's choice).
Nothing else changes; a bench that does not run, or another slot, changes nothing. (R386, R387, R427) -/
def Obligations.VectorUnit : Prop :=
  ∀ (s : State) (o : VectorOp) (b : BenchNo) (x : VectorSlot),
    (¬(s.benchRuns b = true ∧ vectorOk o x = true) → exec (o.command b x) s = .next s.deliverDue)
    ∧ (s.benchRuns b = true → vectorOk o x = true →
      let va := s.vReg b x.va
      let vb := s.vReg b x.vb
      let vc := s.vReg b x.vc
      let sum := fun i j => f32.add i j
      ∃ t, exec (o.command b x) s = .next t
        ∧ (o = .vhsum →
          t.sReg b x.sreg = f32.convert f64 (sum (sum (sum (lane32 va 0) (lane32 va 1)) (sum (lane32 va 2) (lane32 va 3)))
            (sum (sum (lane32 va 4) (lane32 va 5)) (sum (lane32 va 6) (lane32 va 7)))) % 2 ^ 64
          ∧ (∀ c i, c < 128 → i < 64 → c ≠ b.val ∨ i ≠ x.sreg.val → t.sReg c i = s.sReg c i) ∧ Only [] [Tab.benchS] s t)
        ∧ (o ≠ .vhsum →
          (∀ i, i < 8 →
            (bit x.mask i = true → o.means (lane32 va i) (lane32 vb i) (lane32 vc i) va (s.sReg b x.sreg) i (lane32 (t.vReg b x.vd) i))
            ∧ (bit x.mask i = false → lane32 (t.vReg b x.vd) i = lane32 (s.vReg b x.vd) i))
          ∧ t.vReg b x.vd < 2 ^ 256
          ∧ (∀ c i, c < 128 → i < 32 → c ≠ b.val ∨ i ≠ x.vd.val → t.vReg c i = s.vReg c i)
          ∧ (o ≠ .vmin → o ≠ .vmax → t.freeCtr = s.freeCtr)
          ∧ Only [] [Tab.benchV] { s with freeCtr := t.freeCtr } t))

/-- NOP, SYNC and LOADIMM go to the next address, or round the innermost loop that has iterations left; JUMP goes to TARGET and out of
a loop that it leaves; CALL and RETURN push and pop return addresses, LOOP pushes a loop or skips its body; a seventeenth address,
a fifth loop, an empty stack, TRAP, an undefined or unloaded word and a word lost to errors trap. EXEC and BRANCH issue their
nanoword, whose scalar and vector operations read the state at issue, and BRANCH takes TARGET where its condition holds. The
vendor routines copy, fill and check scratch and return; what GEMV stores as y is open, since the order of its sums is not given.
A command on a bench that does not run, or of another microword's form, changes nothing. (R384, R408, R420, R421, R422, R423,
R424, R431, R442, R455) -/
def Obligations.MicrowordsRun : Prop :=
  let pc := fun (s : State) (b : BenchNo) => s.reg (Reg.BENCH.PC b)
  let moves := fun (b : BenchNo) (s t : State) => loopsMove (pc s b) (s.loopStack b) (t.loopStack b) (pc t b)
  (∀ (s : State) (b : BenchNo) (e : BenchEnv) (m : Micro), s.benchRuns b = false → exec (m.command b e) s = .next s)
  ∧ (∀ (s : State) (b : BenchNo) (e : BenchEnv) (m m' : Micro), s.fetches b e m → m'.command b e ≠ m.command b e →
    exec (m'.command b e) s = .next s)
  ∧ (∀ (s : State) (b : BenchNo) (e : BenchEnv) (m : Micro), m = .nop ∨ m = .sync → s.fetches b e m →
    ∃ t, exec (m.command b e) s = .next t ∧ moves b s t ∧ Only [Reg.BENCH.PC b] [Tab.benchLoop] s t)
  ∧ (∀ (s : State) (b : BenchNo) (e : BenchEnv) (dst imm : Nat) (m : Micro), m = .set dst imm ∨ m = .shift dst imm → s.fetches b e m →
    ∃ t, exec (m.command b e) s = .next t ∧ moves b s t
      ∧ t.sReg b dst = (if m = .set dst imm then signExtend 22 64 imm else (s.sReg b dst * 2 ^ 22 + imm) % 2 ^ 64)
      ∧ (∀ c i, c < 128 → i < 64 → c ≠ b.val ∨ i ≠ dst → t.sReg c i = s.sReg c i)
      ∧ Only [Reg.BENCH.PC b] [Tab.benchLoop, Tab.benchS] s t)
  ∧ (∀ (s : State) (b : BenchNo) (e : BenchEnv) (target : Nat), s.fetches b e (.jump target) →
    ∃ t, exec (.jump b e) s = .next t ∧ pc t b = target ∧ loopsJump target (s.loopStack b) (t.loopStack b)
      ∧ Only [Reg.BENCH.PC b] [Tab.benchLoop] s t)
  ∧ (∀ (s : State) (b : BenchNo) (e : BenchEnv) (target : Nat), s.fetches b e (.call target) →
    ((s.retStack b).length < 16 → ∃ t, exec (.call b e) s = .next t ∧ pc t b = target ∧ t.retStack b = s.retStack b ++ [pc s b + 1]
        ∧ Only [Reg.BENCH.PC b] [Tab.benchRet] s t)
    ∧ ((s.retStack b).length = 16 → ∃ t, exec (.call b e) s = .next t ∧ t.trapped s b 1))
  ∧ (∀ (s : State) (b : BenchNo) (e : BenchEnv), s.fetches b e .ret →
    (s.retStack b = [] → ∃ t, exec (.ret b e) s = .next t ∧ t.trapped s b 1)
    ∧ ∀ l a, s.retStack b = l ++ [a] → ∃ t, exec (.ret b e) s = .next t ∧ pc t b = a ∧ t.retStack b = l
        ∧ Only [Reg.BENCH.PC b] [Tab.benchRet] s t)
  ∧ (∀ (s : State) (b : BenchNo) (e : BenchEnv) (target reg : Nat), s.fetches b e (.loop target reg) →
    (s.sReg b reg = 0 → ∃ t, exec (.loop b e) s = .next t ∧ pc t b = target + 1 ∧ Only [Reg.BENCH.PC b] [] s t)
    ∧ (s.sReg b reg ≠ 0 → (s.loopStack b).length < 4 → ∃ t, exec (.loop b e) s = .next t ∧ pc t b = pc s b + 1
        ∧ t.loopStack b = s.loopStack b ++ [packLoop (s.sReg b reg) (pc s b + 1) target]
        ∧ Only [Reg.BENCH.PC b] [Tab.benchLoop] s t)
    ∧ (s.sReg b reg ≠ 0 → (s.loopStack b).length = 4 → ∃ t, exec (.loop b e) s = .next t ∧ t.trapped s b 1))
  ∧ (∀ (s : State) (b : BenchNo) (e : BenchEnv), s.fetches b e .trap → ∃ t, exec (.trap b e) s = .next t ∧ t.trapped s b 6)
  ∧ (∀ (s : State) (b : BenchNo) (e : BenchEnv) (m : Micro) (nano imm : Nat) (n : Nano), s.fetches b e m →
    m = .exec nano imm ∨ (imm = 0 ∧ ∃ cond target, m = .branch nano cond target) → s.fetchesNano b nano e n →
    (s.nanoStalls b n = true → ∃ t, exec (m.command b e) s = .next t ∧ Only [] [] s t)
    ∧ (e.fetch = 0 → s.nanoStalls b n = false → s.nanoTrap b n imm e = none → n.tiles = [] → ∀ next,
      (m = .exec nano imm ∧ next = s.advance b) ∨ (∃ cond target, m = .branch nano cond target
        ∧ next = if s.condHolds b cond then s.jumpTo b target else s.advance b) → s.misc b 5 = 0 → s.tilesWait b = false →
      exec (m.command b e) s = .next (s.runNano next b n imm e).deliverDue)
    ∧ (n.memory = none → n.cword = none → n.tiles = [] → s.misc b 5 = 0 → s.tilesWait b = false → (∀ i, i < 64 → s.sReg b i < 2 ^ 64) →
      ∃ t, exec (m.command b e) s = .next t
        ∧ (m = .exec nano imm → moves b s t)
        ∧ (∀ cond target, m = .branch nano cond target → if s.condHolds b cond = true
            then pc t b = target ∧ loopsJump target (s.loopStack b) (t.loopStack b) else moves b s t)
        ∧ (∀ o x, n.scalar = some (o, x) → o.isCmp = false → ∃ r, r < 2 ^ 64 ∧ t.sReg b x.dst = r
            ∧ o.means (s.sReg b x.a) (if x.immB then signExtend 18 64 imm else s.sReg b x.b) (s.sReg b x.c) (s.vReg b x.a) r)
        ∧ (∀ o x, n.vector = some (o, x) → o ≠ .vhsum → ∀ i, i < 8 → bit x.mask i = true →
            o.means (lane32 (s.vReg b x.va) i) (lane32 (s.vReg b x.vb) i) (lane32 (s.vReg b x.vc) i) (s.vReg b x.va) (s.sReg b x.sreg) i
              (lane32 (t.vReg b x.vd) i))
        ∧ (∀ i, i < 64 → i ∉ n.writesS → t.sReg b i = s.sReg b i) ∧ (∀ i, i < 32 → i ∉ n.writesV → t.vReg b i = s.vReg b i)
        ∧ (∀ c i, c < 128 → c ≠ b.val → (i < 64 → t.sReg c i = s.sReg c i) ∧ (i < 32 → t.vReg c i = s.vReg c i))
        ∧ Only [Reg.BENCH.PC b] [Tab.benchLoop, Tab.benchS, Tab.benchV, Tab.benchFlags] { s with freeCtr := t.freeCtr } t))
  ∧ (∀ (s : State) (b : BenchNo) (e : BenchEnv), s.benchRuns b = true → s.atRoutine b = false →
    (16384 ≤ pc s b → ∃ t, exec (.execMicroword b e) s = .next t ∧ t.trapped s b 1)
    ∧ (pc s b < 16384 → s.tab Tab.ucodeLost (lostBenchWord b (pc s b)) = 1 ∨ e.fetch = 2 →
      ∃ t, exec (.execMicroword b e) s = .next t ∧ t.trapped s b 8 ∧ t.tab Tab.ucodeLost (lostBenchWord b (pc s b)) = 1)
    ∧ (pc s b < 16384 → s.tab Tab.ucodeLost (lostBenchWord b (pc s b)) ≠ 1 → e.fetch.val ≠ 2 →
      (∀ w, s.benchWord b (pc s b) = some w → decodeMicro w = none) → ∃ t, exec (.execMicroword b e) s = .next t ∧ t.trapped s b 1))
  ∧ (∀ (s : State) (b : BenchNo) (e : BenchEnv) (m : Micro) (nano : Nat), s.fetches b e m →
    (∃ imm, m = .exec nano imm) ∨ (∃ cond target, m = .branch nano cond target) →
    (s.tab Tab.ucodeLost (lostBayWord (b / 8) nano) = 1 ∨ e.fetch = 4 → ∃ t, exec (m.command b e) s = .next t ∧ t.trapped s b 8)
    ∧ (s.tab Tab.ucodeLost (lostBayWord (b / 8) nano) ≠ 1 → e.fetch.val ≠ 4 →
      (∀ w, s.bayWord (b / 8) nano = some w → decodeNano w = none) → ∃ t, exec (m.command b e) s = .next t ∧ t.trapped s b 1))
  ∧ (∀ (s : State) (b : BenchNo) (e : BenchEnv), s.benchRuns b = true → s.atRoutine b = true → pc s b ≠ 0x3880 →
    let r := s.sReg b
    (¬(r 32 + r 34 ≤ 262144 ∧ (pc s b = 0x3800 → r 33 + r 34 ≤ 262144)) → ∃ t, exec (.execMicroword b e) s = .next t ∧ t.trapped s b 2)
    ∧ (r 32 + r 34 ≤ 262144 → (pc s b = 0x3800 → r 33 + r 34 ≤ 262144) →
      (s.retStack b = [] → ∃ t, exec (.execMicroword b e) s = .next t ∧ t.trapped s b 1)
      ∧ ∀ l a, s.retStack b = l ++ [a] → ∃ t, exec (.execMicroword b e) s = .next t ∧ pc t b = a ∧ t.retStack b = l
        ∧ (pc s b = 0x3800 → (∀ k, k < r 34 → t.byte (scratchAddr b (r 33 + k)) = s.byte (scratchAddr b (r 32 + k)))
          ∧ ∀ x, x < scratchAddr b (r 33) ∨ scratchAddr b (r 33 + r 34) ≤ x → t.byte x = s.byte x)
        ∧ (pc s b = 0x3840 → (∀ k, k < r 34 → t.byte (scratchAddr b (r 32 + k)) = r 35 % 256)
          ∧ ∀ x, x < scratchAddr b (r 32) ∨ scratchAddr b (r 32 + r 34) ≤ x → t.byte x = s.byte x)
        ∧ (pc s b = 0x38C0 → t.sReg b 63 = crc32c (s.scratch b (r 32) (r 34)) % 2 ^ 64 ∧ t.mem = s.mem)
        ∧ (∀ i, (i < 32 → t.sReg b i = s.sReg b i) ∧ (i < 24 → t.vReg b i = s.vReg b i) ∧ (i < 12 → t.tReg b i = s.tReg b i))
        ∧ Only [Reg.BENCH.PC b] [Tab.benchRet, Tab.benchS, Tab.benchV, Tab.benchT, Tab.benchFlags]
            { s with mem := t.mem, freeCtr := t.freeCtr } t))
  ∧ (∀ (s : State) (b : BenchNo) (e : BenchEnv) (l : List Nat) (a : Nat), s.benchRuns b = true → s.atRoutine b = true → pc s b = 0x3880 →
    let r := s.sReg b
    r 32 + 4 * r 34 * r 35 ≤ 262144 → r 36 + 4 * r 35 ≤ 262144 → r 33 + 4 * r 34 ≤ 262144 → s.retStack b = l ++ [a] →
    ∃ t, exec (.execMicroword b e) s = .next t ∧ pc t b = a ∧ t.retStack b = l
      ∧ (∀ x, x < scratchAddr b (r 33) ∨ scratchAddr b (r 33 + 4 * r 34) ≤ x → t.byte x = s.byte x)
      ∧ (∀ i, (i < 32 → t.sReg b i = s.sReg b i) ∧ (i < 24 → t.vReg b i = s.vReg b i) ∧ (i < 12 → t.tReg b i = s.tReg b i)))

/-- On a running bench, LD and ST move SIZE octets between scratch and a register, little-endian and sign-extended where SIGNED; PLD,
PST and PMOVE do so with a pool bank the bench owns; SREAD and SGATHER read slots; SWRITE and SSCATTER write slots that R359
allows, count the others and flag SIGNAL_DISCARDED; FSEND queues a frame, or stalls while 16 wait. An access outside scratch, of a
bank not owned or with an uncorrectable error, or of a slot above 131,071 traps with its cause. No other register, octet or slot
changes. Any other slot, or a bench that does not run, changes nothing. PMOVE moves s[RC] octets also where that is no multiple of
8, for which the manual names no effect. (R358, R359, R360, R385, R390, R391, R392, R394, R395, R408, R428, R467) -/
def Obligations.MemoryUnit : Prop :=
  let addr := fun (s : State) (b : BenchNo) (x : MemSlot) (imm : Fin 262144) =>
    (s.sReg b x.ra + (if x.immO then imm.val else x.offset.val)) % 2 ^ 64
  let len := fun (x : MemSlot) => if x.size.val = 4 then 32 else 2 ^ x.size.val
  let loaded := fun (b : BenchNo) (x : MemSlot) (v : Nat) (t : State) =>
    if x.size.val = 4 then t.vReg b x.rd = v else t.sReg b x.rd = if x.signed then signExtend (8 * len x) 64 v else v
  let ld := fun (x : MemSlot) => if x.size.val = 4 then ([], [x.rd.val]) else ([x.rd.val], [])
  let octet := fun (s : State) (b : BenchNo) (x : MemSlot) (k : Nat) =>
    bits (if x.size.val = 4 then s.vReg b x.rd else s.sReg b x.rd) (8 * k + 7) (8 * k)
  (∀ (s : State) (o : MemOp) (b : BenchNo) (x : MemSlot) (imm : Fin 262144) (e : BenchEnv),
    (¬s.issues b o x → exec (o.command b x imm e) s = .next s.deliverDue)
    ∧ (s.issues b o x → (o = .ld ∨ o = .st) → 262144 < addr s b x imm + len x → ∃ t, exec (o.command b x imm e) s = .next t ∧ t.trapped s b 2)
    ∧ (s.issues b .ld x → addr s b x imm + len x ≤ 262144 → e.scratchBad = true → ∃ t, exec (.ld b x imm e) s = .next t ∧ t.trapped s b 8)
    ∧ (s.issues b o x → (o = .pld ∨ o = .pst) → s.mayAccess b (addr s b x imm) (len x) = false →
      ∃ t, exec (o.command b x imm e) s = .next t ∧ t.trapped s b 3)
    ∧ (s.issues b o x → (o = .pld ∨ o = .pst) → s.mayAccess b (addr s b x imm) (len x) = true →
      ∀ w, e.poolBad = w + 1 → addr s b x imm / 8 * 8 ≤ w → w < addr s b x imm + len x →
      ∃ t, exec (o.command b x imm e) s = .next t ∧ t.trapped s b 3 ∧ t.bankState (w / 131072) = 5 ∧ t.bankOwner (w / 131072) = 0xFF)
    ∧ (s.issues b .sscatter x → s.sReg b x.ra + 16 * s.sReg b x.rb ≤ 262144 → e.scratchBad = true →
      ∃ t, exec (.sscatter b x imm e) s = .next t ∧ t.trapped s b 8)
    ∧ (s.issues b o x → (o = .sread ∨ o = .swrite) → 131071 < s.sReg b x.ra → ∃ t, exec (o.command b x imm e) s = .next t ∧ t.trapped s b 4))
  ∧ (∀ (s : State) (b : BenchNo) (x : MemSlot) (imm : Fin 262144) (e : BenchEnv), s.issues b .ld x → addr s b x imm + len x ≤ 262144 →
    e.scratchBad = false → ∃ t, exec (.ld b x imm e) s = .next t ∧ loaded b x (ofLE (s.scratch b (addr s b x imm) (len x))) t
      ∧ t.keepsRegs s b (ld x).1 (ld x).2 ∧ Only [] [Tab.benchS, Tab.benchV] s t)
  ∧ (∀ (s : State) (b : BenchNo) (x : MemSlot) (imm : Fin 262144) (e : BenchEnv), s.issues b .st x → addr s b x imm + len x ≤ 262144 →
    let lo := scratchAddr b (addr s b x imm)
    ∃ t, exec (.st b x imm e) s = .next t ∧ (∀ k, k < len x → t.byte (lo + k) = octet s b x k) ∧ OnlyMem [] [] lo (lo + len x) s t)
  ∧ (∀ (s : State) (b : BenchNo) (x : MemSlot) (imm : Fin 262144) (e : BenchEnv), e.poolBad = 0 →
    s.mayAccess b (addr s b x imm) (len x) = true →
    let lo := poolAddr (addr s b x imm)
    (s.issues b .pld x → ∃ t, exec (.pld b x imm e) s = .next t ∧ loaded b x (ofLE (s.bytesFrom lo (len x))) t
      ∧ t.keepsRegs s b (ld x).1 (ld x).2 ∧ t.mem = s.mem
      ∧ (s.jigKeepsOff (addr s b x imm) (len x) → Only [] [Tab.benchS, Tab.benchV] s t))
    ∧ (s.issues b .pst x → ∃ t, exec (.pst b x imm e) s = .next t ∧ (∀ k, k < len x → t.byte (lo + k) = octet s b x k)
      ∧ (∀ a, a < lo ∨ lo + len x ≤ a → t.byte a = s.byte a) ∧ t.keepsRegs s b [] []
      ∧ (e.busy ≠ 0 → bit (t.cw b Cw.status) 1 = true) ∧ (e.busy = 0 → t.cw b Cw.status = s.cw b Cw.status)
      ∧ (s.jigKeepsOff (addr s b x imm) (len x) → OnlyMem [] [Tab.benchCw] lo (lo + len x) s t)))
  ∧ (∀ (s : State) (b : BenchNo) (x : MemSlot) (imm : Fin 262144) (e : BenchEnv) (o : MemOp), o = .pmoveIn ∨ o = .pmoveOut → s.issues b o x →
    let a := s.sReg b x.ra
    let p := s.sReg b x.rb
    let n := s.sReg b x.rc
    let src := if o = .pmoveIn then poolAddr p else scratchAddr b a
    let dst := if o = .pmoveIn then scratchAddr b a else poolAddr p
    (262144 < a + n → ∃ t, exec (o.command b x imm e) s = .next t ∧ t.trapped s b 2)
    ∧ (a + n ≤ 262144 → o = .pmoveOut → e.scratchBad = true → ∃ t, exec (o.command b x imm e) s = .next t ∧ t.trapped s b 8)
    ∧ (a + n ≤ 262144 → (o = .pmoveOut → e.scratchBad = false) → s.mayAccess b p n = false →
      ∃ t, exec (o.command b x imm e) s = .next t ∧ t.trapped s b 3)
    ∧ (a + n ≤ 262144 → (o = .pmoveOut → e.scratchBad = false) → s.mayAccess b p n = true → e.poolBad = 0 →
      ∃ t, exec (o.command b x imm e) s = .next t ∧ (∀ k, k < n → t.byte (dst + k) = s.byte (src + k))
        ∧ (∀ k, k < dst ∨ dst + n ≤ k → t.byte k = s.byte k) ∧ t.keepsRegs s b [] []
        ∧ (s.jigKeepsOff p n → OnlyMem [] [Tab.benchCw] dst (dst + n) s t)))
  ∧ (∀ (s : State) (b : BenchNo) (x : MemSlot) (imm : Fin 262144) (e : BenchEnv), s.issues b .sread x → s.sReg b x.ra ≤ 131071 →
    let v := s.slot (s.sReg b x.ra)
    ∃ t, exec (.sread b x imm e) s = .next t
      ∧ (if x.size.val = 4 then (∀ i, i < 4 → t.sReg b (x.rd + i) = leAt v (8 * i) 8) ∧ t.keepsRegs s b [x.rd, x.rd + 1, x.rd + 2, x.rd + 3] []
        else t.sReg b x.rd = leAt v 0 8 ∧ t.keepsRegs s b [x.rd] []) ∧ Only [] [Tab.benchS] s t)
  ∧ (∀ (s : State) (b : BenchNo) (x : MemSlot) (imm : Fin 262144) (e : BenchEnv), s.issues b .sgather x →
    let a := s.sReg b x.ra
    let l := s.sReg b x.rb
    let n := s.sReg b x.rc
    let q := s.sReg b x.rd
    let w := 2 ^ x.size.val
    let slot := fun (k : Nat) => ofLE (s.scratch b (l + 4 * k) 4)
    let fits := a + n * w ≤ 262144 ∧ l + 4 * n ≤ 262144 ∧ (q = 0xFFFFFFFF ∨ q + 2 * n ≤ 262144)
    (¬fits → e.scratchBad = false → ∃ t, exec (.sgather b x imm e) s = .next t ∧ t.trapped s b 2)
    ∧ (fits → e.scratchBad = true → ∃ t, exec (.sgather b x imm e) s = .next t ∧ t.trapped s b 8)
    ∧ (fits → e.scratchBad = false → (∃ k, k < n ∧ 131071 < slot k) → ∃ t, exec (.sgather b x imm e) s = .next t ∧ t.trapped s b 4)
    ∧ (fits → e.scratchBad = false → (∀ k, k < n → slot k ≤ 131071) → (q = 0xFFFFFFFF ∨ a + n * w ≤ q ∨ q + 2 * n ≤ a) →
      ∃ t, exec (.sgather b x imm e) s = .next t
        ∧ (∀ k j, k < n → j < w → t.byte (scratchAddr b (a + k * w + j)) = leAt (s.slot (slot k)) j 1)
        ∧ (q ≠ 0xFFFFFFFF → ∀ k j, k < n → j < 2 → t.byte (scratchAddr b (q + 2 * k + j)) = leAt (s.slot (slot k)) (20 + j) 1)
        ∧ (∀ y, (y < scratchAddr b a ∨ scratchAddr b (a + n * w) ≤ y) → (q = 0xFFFFFFFF ∨ y < scratchAddr b q ∨ scratchAddr b (q + 2 * n) ≤ y) →
            t.byte y = s.byte y) ∧ Only [] [] { s with mem := t.mem } t))
  ∧ (∀ (s : State) (b : BenchNo) (x : MemSlot) (imm : Fin 262144) (e : BenchEnv), s.issues b .swrite x → s.sReg b x.ra ≤ 131071 →
    let n := s.sReg b x.ra
    let value := if x.size.val = 2 then s.sReg b x.rb % 2 ^ 32 else s.sReg b x.rb
    let discarded := fun (k : Nat) => ∃ t, exec (.swrite b x imm e) s = .next t ∧ t.reg k = (s.reg k + 1) % 2 ^ 64
      ∧ bit (t.cw b Cw.status) 0 = true ∧ Only [k] [Tab.benchCw] s t
    (bit (s.slotAttr n) 125 = false → discarded Reg.SIGNAL_CONTROL.RECORDS_REJECTED)
    ∧ (bit (s.slotAttr n) 125 = true → attrForce (s.slotAttr n) = true → discarded Reg.SIGNAL_CONTROL.FORCE_DISCARDS)
    ∧ (bit (s.slotAttr n) 125 = true → attrForce (s.slotAttr n) = false → n ∈ e.lost → ∃ t, exec (.swrite b x imm e) s = .next t
        ∧ bit (slotFlags (t.slot n)) 0 = true ∧ slotValue (t.slot n) = slotValue (s.slot n)
        ∧ t.reg Reg.SIGNAL_CONTROL.WRITE_LOST_COUNT = (s.reg Reg.SIGNAL_CONTROL.WRITE_LOST_COUNT + 1) % 2 ^ 64
        ∧ t.reg Reg.SIGNAL_CONTROL.LAST_WRITE_LOST_SLOT = n ∧ bit (t.reg Reg.SIGNAL_CONTROL.EVENTS) 0 = true
        ∧ Only [Reg.SIGNAL_CONTROL.WRITE_LOST_COUNT, Reg.SIGNAL_CONTROL.LAST_WRITE_LOST_SLOT, Reg.SIGNAL_CONTROL.EVENTS,
            Reg.SIGNAL_CONTROL.EVENTS + 1] [Tab.win 0x7010] s t)
    ∧ (bit (s.slotAttr n) 125 = true → attrForce (s.slotAttr n) = false → n ∉ e.lost → ∃ t, exec (.swrite b x imm e) s = .next t
        ∧ t.slotTakes s b n value (s.sReg b x.rc % 65536) (s.sReg b x.rd % 65536) ∧ (∀ m, m < 131072 → m ≠ n → t.slot m = s.slot m)
        ∧ Only [] [Tab.win 0x7010, Tab.slotWritten, Tab.mirrorDirty] { s with freeCtr := t.freeCtr } t))
  ∧ (∀ (s : State) (b : BenchNo) (x : MemSlot) (imm : Fin 262144) (e : BenchEnv), s.issues b .sscatter x → e.scratchBad = false →
    let l := s.sReg b x.ra
    let n := s.sReg b x.rb
    let field := fun (k off len : Nat) => ofLE (s.scratch b (l + 16 * k + off) len)
    let slot := fun (k : Nat) => field k 0 4
    let allowed := fun (m : Nat) => bit (s.slotAttr m) 125 = true ∧ attrForce (s.slotAttr m) = false
    (262144 < l + 16 * n → ∃ t, exec (.sscatter b x imm e) s = .next t ∧ t.trapped s b 2)
    ∧ (l + 16 * n ≤ 262144 → (∃ k, k < n ∧ 131071 < slot k) → ∃ t, exec (.sscatter b x imm e) s = .next t ∧ t.trapped s b 4)
    ∧ (l + 16 * n ≤ 262144 → (∀ k, k < n → slot k ≤ 131071) → (∀ j k, j < k → k < n → slot j ≠ slot k) → e.lost = [] →
      ∃ t, exec (.sscatter b x imm e) s = .next t
        ∧ (∀ k, k < n → allowed (slot k) → t.slotTakes s b (slot k) (field k 8 8) (field k 4 2) (field k 6 2))
        ∧ (∀ m, m < 131072 → (∀ k, k < n → slot k = m → ¬allowed m) → t.slot m = s.slot m)
        ∧ ((∃ k, k < n ∧ ¬allowed (slot k)) → bit (t.cw b Cw.status) 0 = true)
        ∧ Only [Reg.SIGNAL_CONTROL.RECORDS_REJECTED, Reg.SIGNAL_CONTROL.FORCE_DISCARDS]
            [Tab.win 0x7010, Tab.slotWritten, Tab.mirrorDirty, Tab.benchCw] { s with freeCtr := t.freeCtr } t))
  ∧ (∀ (s : State) (b : BenchNo) (x : MemSlot) (imm : Fin 262144) (e : BenchEnv), s.issues b .fsend x →
    let a := s.sReg b x.ra
    let n := s.sReg b x.rb
    ((s.sendQueue b).length = 16 → exec (.fsend b x imm e) s = .next s.deliverDue)
    ∧ ((s.sendQueue b).length < 16 → 262144 < a + n → ∃ t, exec (.fsend b x imm e) s = .next t ∧ t.trapped s b 2)
    ∧ ((s.sendQueue b).length < 16 → a + n ≤ 262144 → ∃ t, exec (.fsend b x imm e) s = .next t
        ∧ t.sendQueue b = s.sendQueue b ++ [a * 2 ^ 32 + n] ∧ Only [] [Tab.benchSend] s t))

/-- On a running bench, TZERO clears the accumulator of its tile, TOUTER adds the outer product of two vectors, TMMA the product of an
8 by k and a k by 8 matrix of scratch, step by step along k, each with one rounding and subnormal numbers flushed; TREAD copies a
row into a vector register and TSTORE the 256 octets into scratch. Operands that leave scratch trap with SCRATCH_RANGE, an
uncorrectable error with MEMORY_ERROR. No other tile, register or octet changes; a bench that does not run changes nothing. (R386,
R387, R390, R408, R430) -/
def Obligations.TilesRun : Prop :=
  let others := fun (b : BenchNo) (t : TReg) (s u : State) => ∀ c i, c < 128 → i < 16 → c ≠ b.val ∨ i ≠ t.val → u.tReg c i = s.tReg c i
  let counted := fun (b : BenchNo) (n : Nat) (s u : State) => u.tab Tab.interval (128 + b) = s.tab Tab.interval (128 + b) + n
  (∀ (s : State) (b : BenchNo) (t : TReg) (va vb vd : VReg) (ra rb rk : SReg) (row : Fin 8) (e : BenchEnv) (c : Instr),
    c ∈ [Instr.tzero b t, .touter b t va vb, .tmma b t ra rb rk e, .tread b t row vd, .tstore b t ra e] → s.benchRuns b = false →
    exec c s = .next s.deliverDue)
  ∧ (∀ (s : State) (b : BenchNo) (t : TReg), s.benchRuns b = true →
    ∃ u, exec (.tzero b t) s = .next u ∧ u.tReg b t = 0 ∧ others b t s u ∧ counted b 1 s u ∧ Only [] [Tab.benchT, Tab.interval] s u)
  ∧ (∀ (s : State) (b : BenchNo) (t : TReg) (va vb : VReg), s.benchRuns b = true →
    ∃ u, exec (.touter b t va vb) s = .next u
      ∧ (∀ i j, i < 8 → j < 8 →
          tileAt (u.tReg b t) i j = tileFma (lane32 (s.vReg b va) i) (lane32 (s.vReg b vb) j) (tileAt (s.tReg b t) i j) % 2 ^ 32)
      ∧ others b t s u ∧ counted b 8 s u ∧ Only [] [Tab.benchT, Tab.interval] s u)
  ∧ (∀ (s : State) (b : BenchNo) (t : TReg) (ra rb rk : SReg) (e : BenchEnv), s.benchRuns b = true →
    let a := s.sReg b ra
    let d := s.sReg b rb
    let k := s.sReg b rk
    let word := fun (x : Nat) => ofLE (s.scratch b x 4)
    (262144 < a + 32 * k ∨ 262144 < d + 32 * k → e.scratchBad = false → ∃ u, exec (.tmma b t ra rb rk e) s = .next u ∧ u.trapped s b 2)
    ∧ (a + 32 * k ≤ 262144 → d + 32 * k ≤ 262144 → e.scratchBad = true → ∃ u, exec (.tmma b t ra rb rk e) s = .next u ∧ u.trapped s b 8)
    ∧ (a + 32 * k ≤ 262144 → d + 32 * k ≤ 262144 → e.scratchBad = false → ∃ u, exec (.tmma b t ra rb rk e) s = .next u
      ∧ (∀ i j, i < 8 → j < 8 → tileAt (u.tReg b t) i j = (List.range k).foldl
          (fun acc l => tileFma (word (a + 4 * (i * k + l))) (word (d + 4 * (l * 8 + j))) acc % 2 ^ 32) (tileAt (s.tReg b t) i j))
      ∧ others b t s u ∧ counted b (8 * k) s u ∧ Only [] [Tab.benchT, Tab.interval] s u))
  ∧ (∀ (s : State) (b : BenchNo) (t : TReg) (row : Fin 8) (vd : VReg), s.benchRuns b = true →
    ∃ u, exec (.tread b t row vd) s = .next u ∧ (∀ c, c < 8 → lane32 (u.vReg b vd) c = tileAt (s.tReg b t) row c)
      ∧ u.keepsRegs s b [] [vd.val] ∧ counted b 1 s u ∧ Only [] [Tab.benchV, Tab.interval] s u)
  ∧ (∀ (s : State) (b : BenchNo) (t : TReg) (ra : SReg) (e : BenchEnv), s.benchRuns b = true →
    let lo := scratchAddr b (s.sReg b ra)
    (262144 < s.sReg b ra + 256 → ∃ u, exec (.tstore b t ra e) s = .next u ∧ u.trapped s b 2)
    ∧ (s.sReg b ra + 256 ≤ 262144 → ∃ u, exec (.tstore b t ra e) s = .next u
      ∧ (∀ k, k < 256 → u.byte (lo + k) = bits (s.tReg b t) (8 * k + 7) (8 * k)) ∧ counted b 2 s u
      ∧ OnlyMem [] [Tab.interval] lo (lo + 256) s u))

/-- A running bench reads BENCH_ID, its cause, job, cycle and times, the PTP time, the divider, STATUS, DICT_RESULT and RX_TAIL, and
by INT_CLAIM claims the first pending source of its own. It writes STATUS to clear flags, USER_CODE, DICT_TARGET, DICT_VALUE,
which starts a dictionary write or stalls behind one, RX_RING and RX_HEAD; RAISE triggers its software source; INT_COMPLETE
completes a source that it claimed or counts an error; BARRIER makes it wait or releases all; COMPLETE ends the program and its
job. Any other access traps with CW_INVALID, COMPLETE data outside scratch with SCRATCH_RANGE. (R396, R397, R398, R400, R403,
R406, R429, R465, R491) -/
def Obligations.ControlWords : Prop :=
  let writes := fun (b : BenchNo) (k v : Nat) (c : Instr) => (∃ cw : Fin 32, cw.val = k ∧ c = .cwordWrite b cw v)
    ∨ (k = 9 ∧ c = .complete b v) ∨ (k = 11 ∧ c = .barrier b v) ∨ (k = 12 ∧ v = 0 ∧ c = .raise b) ∨ (k = 14 ∧ c = .intComplete b v)
    ∨ (k = 16 ∧ c = .dictValue b v) ∨ (k = 18 ∧ c = .rxRing b v) ∨ (k = 20 ∧ c = .rxHead b v)
  let reads := fun (b : BenchNo) (k : Nat) (r : SReg) (c : Instr) => (∃ cw : Fin 32, cw.val = k ∧ c = .cwordRead b cw r)
    ∨ (k = 13 ∧ c = .intClaim b r)
  let pends := fun (s : State) (b n : Nat) => s.srcState n = 1 ∧ s.srcEnabled n = true ∧ s.srcTarget n = b
  (∀ (s : State) (b : BenchNo) (k v : Nat) (r : SReg) (c : Instr), writes b k v c ∨ reads b k r c → s.benchRuns b = false →
    exec c s = .next s.deliverDue)
  ∧ (∀ (s : State) (b : BenchNo) (k : Nat) (r : SReg) (c : Instr), reads b k r c → s.benchRuns b = true →
    (k ∈ [9, 10, 11, 12, 14, 15, 16, 18] ∨ 20 ≤ k → ∃ t, exec c s = .next t ∧ t.trapped s b 7)
    ∧ (k ≤ 8 ∨ k = 17 ∨ k = 19 → ∃ t, exec c s = .next t
        ∧ t.sReg b r = (if k = 0 then b.val else if k = 6 then packTime s.ptpNs else if k = 7 then s.divider else s.cw b k) % 2 ^ 64
        ∧ t.keepsRegs s b [r.val] [] ∧ Only [] [Tab.benchS] s t)
    ∧ (k = 13 → s.wf = true → s.nothingDue = true →
      ((∀ n, n < 2 ^ 40 → ¬pends s b n) → ∃ t, exec c s = .next t ∧ t.sReg b r = 2 ^ 63 ∧ t.keepsRegs s b [r.val] []
          ∧ Only [] [Tab.benchS] s t)
      ∧ ∀ n, n < 2 ^ 40 → pends s b n →
        (∀ m, m < 2 ^ 40 → pends s b m → s.srcPriority n < s.srcPriority m ∨ (s.srcPriority n = s.srcPriority m ∧ n ≤ m)) →
        ∃ t, exec c s = .next t ∧ t.sReg b r = (s.srcPriority n * 2 ^ 24 + n) % 2 ^ 64 ∧ t.srcState n = 2 ∧ bits (t.intElem n) 27 20 = b.val
          ∧ (∀ m, m < 2 ^ 40 → m ≠ n → t.srcState m = s.srcState m) ∧ t.keepsRegs s b [r.val] [] ∧ Only [] [Tab.benchS] s t))
  ∧ (∀ (s : State) (b : BenchNo) (k v : Nat) (c : Instr), writes b k v c → s.benchRuns b = true → v < 2 ^ 64 →
    (k < 8 ∨ k ∈ [13, 17, 19] ∨ 20 < k → ∃ t, exec c s = .next t ∧ t.trapped s b 7)
    ∧ (k = 8 → ∃ t, exec c s = .next t ∧ (∀ i, bit (t.cw b 8) i = (bit (s.cw b 8) i && !(decide (i < 4) && bit v i))) ∧ Only [] [Tab.benchCw] s t)
    ∧ (k = 10 → ∃ t, exec c s = .next t ∧ t.cw b 10 = v % 2 ^ 32 ∧ Only [] [Tab.benchCw] s t)
    ∧ (k = 15 → ∃ t, exec c s = .next t ∧ t.cw b 15 = bits v 31 8 ∧ Only [] [Tab.benchCw] s t)
    ∧ (k = 16 → s.misc b 1 ≠ 0 → exec c s = .next s.deliverDue)
    ∧ (k = 16 → s.misc b 1 = 0 → ∃ t, exec c s = .next t ∧ t.misc b 1 = s.cw b 15 * 2 ^ 72 + v + 1 ∧ bit (t.cw b 17) 8 = true
        ∧ Only [] [Tab.benchMisc, Tab.benchCw] s t)
    ∧ (k = 18 → ∃ t, exec c s = .next t ∧ t.ringBase b = bits v 17 0 ∧ t.ringSize b = bits v 35 18 ∧ Only [] [Tab.benchCw] s t)
    ∧ (k = 20 → ∃ t, exec c s = .next t ∧ t.cw b 20 = v ∧ Only [] [Tab.benchCw] s t)
    ∧ (k = 12 → ∃ t, exec c s = .next t ∧ Only [] [] s t
        ∧ (s.nothingDue = true → s.srcTarget (0x1900 + b) ≠ 129 →
          t.srcState (0x1900 + b) = (if s.srcState (0x1900 + b) = 0 then 1 else if s.srcState (0x1900 + b) = 2 then 3 else s.srcState (0x1900 + b))
          ∧ t.reg Reg.INT_CONTROL.TRIGGERS = (s.reg Reg.INT_CONTROL.TRIGGERS + 1) % 2 ^ 64))
    ∧ (k = 14 → s.nothingDue = true →
      let n := bits v 12 0
      let mine := 2 ≤ s.srcState n ∧ bits (s.intElem n) 27 20 = b
      (¬mine → ∃ t, exec c s = .next t ∧ t.counter (Ctr.intTarget b 1) = (s.counter (Ctr.intTarget b 1) + 1) % 2 ^ 48
          ∧ (∀ m, m < 2 ^ 40 → t.intElem m = s.intElem m) ∧ Only [] [] s t)
      ∧ (mine → s.srcTarget n = b → ∃ t, exec c s = .next t
          ∧ t.srcState n = (if s.srcState n = 3 ∨ (s.srcSense n = 0 ∧ bit (s.intElem n) 29 = true) then 1 else 0) ∧ Only [] [] s t))
    ∧ (k = 11 → 31 < v ∨ s.reg (Reg.BARRIER.PARTICIPANTS v) = 0 → ∃ t, exec c s = .next t ∧ t.trapped s b 7)
    ∧ (k = 11 → v ≤ 31 → s.wf = true → s.reg (Reg.BARRIER.PARTICIPANTS v) ≠ 0 → s.reg (Reg.BARRIER.ARRIVED v) < 128 →
      (s.reg (Reg.BARRIER.ARRIVED v) + 1 < s.reg (Reg.BARRIER.PARTICIPANTS v) → ∃ t, exec c s = .next t ∧ t.benchState b = 2
          ∧ t.misc b 6 = v + 1 ∧ t.reg (Reg.BARRIER.ARRIVED v) = s.reg (Reg.BARRIER.ARRIVED v) + 1
          ∧ Only ([Reg.BENCH.STATE b, Reg.BARRIER.ARRIVED v] ++ modeRegs) [Tab.benchMisc] s t)
      ∧ (s.reg (Reg.BARRIER.PARTICIPANTS v) ≤ s.reg (Reg.BARRIER.ARRIVED v) + 1 → ∃ t, exec c s = .next t ∧ t.benchState b = 1
          ∧ t.misc b 6 = 0 ∧ (∀ d, d < 128 → s.misc d 6 = v + 1 → t.benchState d = 1 ∧ t.misc d 6 = 0)
          ∧ (∀ d, d < 128 → d ≠ b.val → s.misc d 6 ≠ v + 1 → t.benchState d = s.benchState d ∧ t.misc d 6 = s.misc d 6)
          ∧ t.reg (Reg.BARRIER.ARRIVED v) = 0
          ∧ t.reg (Reg.BARRIER.GENERATION v) = (s.reg (Reg.BARRIER.GENERATION v) + 1) % 2 ^ 32
          ∧ t.reg Reg.BENCH_DEVICE.RAMP_ROTATION = (s.reg Reg.BENCH_DEVICE.RAMP_ROTATION + 1) % 16))
    ∧ (k = 9 → 224 < bits v 33 26 → ∃ t, exec c s = .next t ∧ t.trapped s b 7)
    ∧ (k = 9 → bits v 33 26 ≤ 224 → 262144 < bits v 17 0 + bits v 33 26 → ∃ t, exec c s = .next t ∧ t.trapped s b 2)
    ∧ (k = 9 → bits v 33 26 ≤ 224 → bits v 17 0 + bits v 33 26 ≤ 262144 → ∃ t, exec c s = .next t
        ∧ (s.tab Tab.benchTrigger b = 0 → t.benchState b = 0 ∧ t.reg (Reg.BENCH.CURRENT_JOB b) = 0)
        ∧ (s.tab Tab.benchTrigger b ≠ 0 → t.benchState b = 1 ∧ t.reg (Reg.BENCH.PC b) = s.reg (Reg.BENCH.TRIGGER_ENTRY b) ∧ t.cw b 1 = 1)
        ∧ (∀ slot, slot < 4096 → s.misc b 4 = slot + 1 → t.jobSt slot = 3 ∧ octetsAt 256 (t.tab Tab.jobRecord slot) 4 1 = 0
          ∧ octetsAt 256 (t.tab Tab.jobRecord slot) 28 4 = s.cw b 10 % 2 ^ 32
          ∧ octetsAt 256 (t.tab Tab.jobRecord slot) 32 (bits v 33 26) = ofBE (s.scratch b (bits v 17 0) (bits v 33 26)))
        ∧ (∀ k, k ∈ s.banksOf b → s.reg (Reg.POOL_BANK.RETURN_ON_END k) = 1 → t.bankOwner k = ownerHost)
        ∧ (∀ d, d < 128 → d ≠ b.val → t.benchState d = s.benchState d) ∧ t.mem = s.mem))
end

