-- ==== Sys2Proof/Laws/Store.lean ====
section
/-!
SUPPORT. The laws of the sparse maps: a read after a write gives what was written and every other key reads as
before, and every operation keeps the canonical form.
-/
namespace Sys2Proof.Machine

theorem SMap.get_unlist {α : Type} (d : Nat → α) (m : SMap α) (k k' : Nat) :
    (m.unlist k).get d k' = if k' = k then d k' else m.get d k' := by
  induction m with
  | nil => simp [SMap.unlist, SMap.get]
  | cons e t ih =>
    obtain ⟨a, v⟩ := e
    simp only [SMap.unlist] at ih ⊢
    by_cases h : a = k
    · subst h
      by_cases h' : k' = a <;> simp_all [SMap.get]
    · by_cases h' : k' = a <;> simp_all [SMap.get]

theorem SMap.get_list {α : Type} (d : Nat → α) (m : SMap α) (k k' : Nat) (v : α) (h : ∀ e ∈ m, e.1 ≠ k) :
    (SMap.list k v m).get d k' = if k' = k then v else m.get d k' := by
  induction m with
  | nil => simp [SMap.list, SMap.get]
  | cons e t ih =>
    obtain ⟨a, w⟩ := e
    have ha : a ≠ k := h (a, w) (by simp)
    have ih := ih (fun e he => h e (by simp [he]))
    by_cases hk : k < a
    · simp [SMap.list, hk, SMap.get]
    · by_cases h' : k' = a
      · subst h'; simp [SMap.list, hk, SMap.get, ha]
      · simp [SMap.list, hk, SMap.get, h', ih]

theorem SMap.mem_unlist {α : Type} {m : SMap α} {k : Nat} : ∀ e ∈ m.unlist k, e.1 ≠ k := by
  intro e he
  simpa using (List.mem_filter.mp he).2

/-- A read after a write gives what was written, and every other key reads as before. -/
theorem SMap.get_set {α : Type} [DecidableEq α] (d : Nat → α) (m : SMap α) (k k' : Nat) (v : α) :
    (m.set d k v).get d k' = if k' = k then v else m.get d k' := by
  unfold SMap.set
  by_cases hv : v = d k
  · rw [if_pos hv, SMap.get_unlist]; split <;> simp_all
  · rw [if_neg hv, SMap.get_list _ _ _ _ _ SMap.mem_unlist, SMap.get_unlist]
    split <;> simp_all

theorem SMap.get_filter {α : Type} (d : Nat → α) (m : SMap α) (p : Nat → Bool) (k : Nat) :
    SMap.get d (m.filter (fun e => p e.1)) k = if p k then m.get d k else d k := by
  induction m with
  | nil => simp [SMap.get]
  | cons e t ih =>
    obtain ⟨a, v⟩ := e
    by_cases ha : p a
    · by_cases hk : k = a
      · subst hk; simp [ha, SMap.get]
      · simp [ha, SMap.get, hk, ih]
    · by_cases hk : k = a
      · subst hk; simp [ha, ih]
      · simp [ha, SMap.get, hk, ih]

/-- A cleared range reads as unlisted, every other key as before. -/
theorem SMap.get_clearRange {α : Type} (d : Nat → α) (m : SMap α) (lo hi k : Nat) :
    SMap.get d (SMap.clearRange lo hi m) k = if lo ≤ k ∧ k < hi then d k else m.get d k := by
  have := SMap.get_filter d m (fun k => decide (k < lo) || decide (hi ≤ k)) k
  rw [SMap.clearRange, this]
  by_cases h : lo ≤ k ∧ k < hi
  · rw [if_neg (by simp; omega), if_pos h]
  · rw [if_pos (by simp; omega), if_neg h]

/-! ### The canonical form -/

theorem SMap.above_trans {α : Type} [DecidableEq α] {d : Nat → α} {m : SMap α} {n : Nat} (hm : m.wf d = true)
    (h : SMap.above n m = true) : ∀ e ∈ m, n < e.1 := by
  induction m generalizing n with
  | nil => simp
  | cons e t ih =>
    obtain ⟨a, v⟩ := e
    simp [SMap.wf, SMap.above] at hm h
    intro x hx
    rcases List.mem_cons.mp hx with rfl | hx
    · exact h
    · exact Nat.lt_trans h (ih hm.2 hm.1.2 x hx)

theorem SMap.above_of {α : Type} {m : SMap α} {n : Nat} (h : ∀ e ∈ m, n < e.1) : SMap.above n m = true := by
  cases m with
  | nil => rfl
  | cons e t => simp [SMap.above, h]

theorem SMap.wf_filter {α : Type} [DecidableEq α] {d : Nat → α} {m : SMap α} (p : Nat × α → Bool)
    (h : m.wf d = true) : SMap.wf d (m.filter p) = true := by
  induction m with
  | nil => exact h
  | cons e t ih =>
    obtain ⟨a, v⟩ := e
    have h' := h
    simp [SMap.wf] at h
    by_cases hp : p (a, v)
    · simp only [List.filter_cons, hp, if_true, SMap.wf, Bool.and_eq_true, decide_eq_true_eq]
      exact ⟨⟨h.1.1, SMap.above_of fun e he => SMap.above_trans h.2 h.1.2 e (List.mem_filter.mp he).1⟩, ih h.2⟩
    · simp only [List.filter_cons, hp]
      exact ih h.2

theorem SMap.wf_list {α : Type} [DecidableEq α] {d : Nat → α} {m : SMap α} {k : Nat} {v : α} (h : m.wf d = true)
    (hk : ∀ e ∈ m, e.1 ≠ k) (hv : v ≠ d k) : SMap.wf d (SMap.list k v m) = true := by
  induction m with
  | nil => simp [SMap.list, SMap.wf, SMap.above, hv]
  | cons e t ih =>
    obtain ⟨a, w⟩ := e
    have h' := h
    simp [SMap.wf] at h
    by_cases hka : k < a
    · have ht := h.1.2
      simp [SMap.list, hka, SMap.wf, SMap.above, hv, h] at ht ⊢
      exact ht
    · have hne : a ≠ k := hk (a, w) (by simp)
      have ih := ih h.2 (fun e he => hk e (by simp [he]))
      simp only [SMap.list, hka, if_false, SMap.wf, Bool.and_eq_true, decide_eq_true_eq]
      refine ⟨⟨h.1.1, ?_⟩, ih⟩
      cases t with
      | nil => simp [SMap.list, SMap.above]; omega
      | cons f u =>
        have hf : a < f.1 := by simpa [SMap.above] using h.1.2
        by_cases hkf : k < f.1
        · simp [SMap.list, hkf, SMap.above]; omega
        · simp [SMap.list, hkf, SMap.above, hf]

/-- A write keeps the canonical form. -/
theorem SMap.wf_set {α : Type} [DecidableEq α] {d : Nat → α} {m : SMap α} (k : Nat) (v : α) (h : m.wf d = true) :
    (m.set d k v).wf d = true := by
  unfold SMap.set
  by_cases hv : v = d k
  · rw [if_pos hv]; exact SMap.wf_filter _ h
  · rw [if_neg hv]; exact SMap.wf_list (SMap.wf_filter _ h) SMap.mem_unlist hv

/-- Clearing a range keeps the canonical form. -/
theorem SMap.wf_clearRange {α : Type} [DecidableEq α] {d : Nat → α} {m : SMap α} (lo hi : Nat) (h : m.wf d = true) :
    SMap.wf d (SMap.clearRange lo hi m) = true := SMap.wf_filter _ h

end Sys2Proof.Machine
end

