-- ==== Sys2Proof/Laws/State.lean ====
section
/-!
SUPPORT. One lemma for each field under each of the plain updates, and what a register, a table element and a byte
read as after each: no proof needs to unfold a record update.
-/
namespace Sys2Proof.Machine

/-! ### setReg -/
@[simp] theorem State.setReg_tabs (s : State) (k v : Nat) : (s.setReg k v).tabs = s.tabs := (rfl)
@[simp] theorem State.setReg_mem (s : State) (k v : Nat) : (s.setReg k v).mem = s.mem := (rfl)
@[simp] theorem State.setReg_attn (s : State) (k v : Nat) : (s.setReg k v).attn = s.attn := (rfl)
@[simp] theorem State.setReg_zdp (s : State) (k v : Nat) : (s.setReg k v).zdp = s.zdp := (rfl)
@[simp] theorem State.setReg_stagings (s : State) (k v : Nat) : (s.setReg k v).stagings = s.stagings := (rfl)
@[simp] theorem State.setReg_clock (s : State) (k v : Nat) : (s.setReg k v).clock = s.clock := (rfl)
@[simp] theorem State.setReg_frames (s : State) (k v : Nat) : (s.setReg k v).frames = s.frames := (rfl)
@[simp] theorem State.setReg_copies (s : State) (k v : Nat) : (s.setReg k v).copies = s.copies := (rfl)
@[simp] theorem State.setReg_nextFrame (s : State) (k v : Nat) : (s.setReg k v).nextFrame = s.nextFrame := (rfl)
@[simp] theorem State.setReg_nextCopy (s : State) (k v : Nat) : (s.setReg k v).nextCopy = s.nextCopy := (rfl)
@[simp] theorem State.setReg_drr (s : State) (k v : Nat) : (s.setReg k v).drr = s.drr := (rfl)
@[simp] theorem State.setReg_fences (s : State) (k v : Nat) : (s.setReg k v).fences = s.fences := (rfl)
@[simp] theorem State.setReg_oldResv (s : State) (k v : Nat) : (s.setReg k v).oldResv = s.oldResv := (rfl)
@[simp] theorem State.setReg_oldBounds (s : State) (k v : Nat) : (s.setReg k v).oldBounds = s.oldBounds := (rfl)
@[simp] theorem State.setReg_gates (s : State) (k v : Nat) : (s.setReg k v).gates = s.gates := (rfl)
@[simp] theorem State.setReg_handoffs (s : State) (k v : Nat) : (s.setReg k v).handoffs = s.handoffs := (rfl)
@[simp] theorem State.setReg_built (s : State) (k v : Nat) : (s.setReg k v).built = s.built := (rfl)
@[simp] theorem State.setReg_inactive (s : State) (k v : Nat) : (s.setReg k v).inactive = s.inactive := (rfl)
@[simp] theorem State.setReg_postcards (s : State) (k v : Nat) : (s.setReg k v).postcards = s.postcards := (rfl)
@[simp] theorem State.setReg_out (s : State) (k v : Nat) : (s.setReg k v).out = s.out := (rfl)
@[simp] theorem State.setReg_tap (s : State) (k v : Nat) : (s.setReg k v).tap = s.tap := (rfl)
@[simp] theorem State.setReg_freeCtr (s : State) (k v : Nat) : (s.setReg k v).freeCtr = s.freeCtr := (rfl)
@[simp] theorem State.setReg_pending (s : State) (k v : Nat) : (s.setReg k v).pending = s.pending := (rfl)
/-! ### setTab -/
@[simp] theorem State.setTab_regs (s : State) (t i v : Nat) : (s.setTab t i v).regs = s.regs := (rfl)
@[simp] theorem State.setTab_mem (s : State) (t i v : Nat) : (s.setTab t i v).mem = s.mem := (rfl)
@[simp] theorem State.setTab_attn (s : State) (t i v : Nat) : (s.setTab t i v).attn = s.attn := (rfl)
@[simp] theorem State.setTab_zdp (s : State) (t i v : Nat) : (s.setTab t i v).zdp = s.zdp := (rfl)
@[simp] theorem State.setTab_stagings (s : State) (t i v : Nat) : (s.setTab t i v).stagings = s.stagings := (rfl)
@[simp] theorem State.setTab_clock (s : State) (t i v : Nat) : (s.setTab t i v).clock = s.clock := (rfl)
@[simp] theorem State.setTab_frames (s : State) (t i v : Nat) : (s.setTab t i v).frames = s.frames := (rfl)
@[simp] theorem State.setTab_copies (s : State) (t i v : Nat) : (s.setTab t i v).copies = s.copies := (rfl)
@[simp] theorem State.setTab_nextFrame (s : State) (t i v : Nat) : (s.setTab t i v).nextFrame = s.nextFrame := (rfl)
@[simp] theorem State.setTab_nextCopy (s : State) (t i v : Nat) : (s.setTab t i v).nextCopy = s.nextCopy := (rfl)
@[simp] theorem State.setTab_drr (s : State) (t i v : Nat) : (s.setTab t i v).drr = s.drr := (rfl)
@[simp] theorem State.setTab_fences (s : State) (t i v : Nat) : (s.setTab t i v).fences = s.fences := (rfl)
@[simp] theorem State.setTab_oldResv (s : State) (t i v : Nat) : (s.setTab t i v).oldResv = s.oldResv := (rfl)
@[simp] theorem State.setTab_oldBounds (s : State) (t i v : Nat) : (s.setTab t i v).oldBounds = s.oldBounds := (rfl)
@[simp] theorem State.setTab_gates (s : State) (t i v : Nat) : (s.setTab t i v).gates = s.gates := (rfl)
@[simp] theorem State.setTab_handoffs (s : State) (t i v : Nat) : (s.setTab t i v).handoffs = s.handoffs := (rfl)
@[simp] theorem State.setTab_built (s : State) (t i v : Nat) : (s.setTab t i v).built = s.built := (rfl)
@[simp] theorem State.setTab_inactive (s : State) (t i v : Nat) : (s.setTab t i v).inactive = s.inactive := (rfl)
@[simp] theorem State.setTab_postcards (s : State) (t i v : Nat) : (s.setTab t i v).postcards = s.postcards := (rfl)
@[simp] theorem State.setTab_out (s : State) (t i v : Nat) : (s.setTab t i v).out = s.out := (rfl)
@[simp] theorem State.setTab_tap (s : State) (t i v : Nat) : (s.setTab t i v).tap = s.tap := (rfl)
@[simp] theorem State.setTab_freeCtr (s : State) (t i v : Nat) : (s.setTab t i v).freeCtr = s.freeCtr := (rfl)
@[simp] theorem State.setTab_pending (s : State) (t i v : Nat) : (s.setTab t i v).pending = s.pending := (rfl)
/-! ### setByte -/
@[simp] theorem State.setByte_regs (s : State) (a v : Nat) : (s.setByte a v).regs = s.regs := (rfl)
@[simp] theorem State.setByte_tabs (s : State) (a v : Nat) : (s.setByte a v).tabs = s.tabs := (rfl)
@[simp] theorem State.setByte_attn (s : State) (a v : Nat) : (s.setByte a v).attn = s.attn := (rfl)
@[simp] theorem State.setByte_zdp (s : State) (a v : Nat) : (s.setByte a v).zdp = s.zdp := (rfl)
@[simp] theorem State.setByte_stagings (s : State) (a v : Nat) : (s.setByte a v).stagings = s.stagings := (rfl)
@[simp] theorem State.setByte_clock (s : State) (a v : Nat) : (s.setByte a v).clock = s.clock := (rfl)
@[simp] theorem State.setByte_frames (s : State) (a v : Nat) : (s.setByte a v).frames = s.frames := (rfl)
@[simp] theorem State.setByte_copies (s : State) (a v : Nat) : (s.setByte a v).copies = s.copies := (rfl)
@[simp] theorem State.setByte_nextFrame (s : State) (a v : Nat) : (s.setByte a v).nextFrame = s.nextFrame := (rfl)
@[simp] theorem State.setByte_nextCopy (s : State) (a v : Nat) : (s.setByte a v).nextCopy = s.nextCopy := (rfl)
@[simp] theorem State.setByte_drr (s : State) (a v : Nat) : (s.setByte a v).drr = s.drr := (rfl)
@[simp] theorem State.setByte_fences (s : State) (a v : Nat) : (s.setByte a v).fences = s.fences := (rfl)
@[simp] theorem State.setByte_oldResv (s : State) (a v : Nat) : (s.setByte a v).oldResv = s.oldResv := (rfl)
@[simp] theorem State.setByte_oldBounds (s : State) (a v : Nat) : (s.setByte a v).oldBounds = s.oldBounds := (rfl)
@[simp] theorem State.setByte_gates (s : State) (a v : Nat) : (s.setByte a v).gates = s.gates := (rfl)
@[simp] theorem State.setByte_handoffs (s : State) (a v : Nat) : (s.setByte a v).handoffs = s.handoffs := (rfl)
@[simp] theorem State.setByte_built (s : State) (a v : Nat) : (s.setByte a v).built = s.built := (rfl)
@[simp] theorem State.setByte_inactive (s : State) (a v : Nat) : (s.setByte a v).inactive = s.inactive := (rfl)
@[simp] theorem State.setByte_postcards (s : State) (a v : Nat) : (s.setByte a v).postcards = s.postcards := (rfl)
@[simp] theorem State.setByte_out (s : State) (a v : Nat) : (s.setByte a v).out = s.out := (rfl)
@[simp] theorem State.setByte_tap (s : State) (a v : Nat) : (s.setByte a v).tap = s.tap := (rfl)
@[simp] theorem State.setByte_freeCtr (s : State) (a v : Nat) : (s.setByte a v).freeCtr = s.freeCtr := (rfl)
@[simp] theorem State.setByte_pending (s : State) (a v : Nat) : (s.setByte a v).pending = s.pending := (rfl)
/-! ### clearTab -/
@[simp] theorem State.clearTab_regs (s : State) (t : Nat) : (s.clearTab t).regs = s.regs := (rfl)
@[simp] theorem State.clearTab_mem (s : State) (t : Nat) : (s.clearTab t).mem = s.mem := (rfl)
@[simp] theorem State.clearTab_attn (s : State) (t : Nat) : (s.clearTab t).attn = s.attn := (rfl)
@[simp] theorem State.clearTab_zdp (s : State) (t : Nat) : (s.clearTab t).zdp = s.zdp := (rfl)
@[simp] theorem State.clearTab_stagings (s : State) (t : Nat) : (s.clearTab t).stagings = s.stagings := (rfl)
@[simp] theorem State.clearTab_clock (s : State) (t : Nat) : (s.clearTab t).clock = s.clock := (rfl)
@[simp] theorem State.clearTab_frames (s : State) (t : Nat) : (s.clearTab t).frames = s.frames := (rfl)
@[simp] theorem State.clearTab_copies (s : State) (t : Nat) : (s.clearTab t).copies = s.copies := (rfl)
@[simp] theorem State.clearTab_nextFrame (s : State) (t : Nat) : (s.clearTab t).nextFrame = s.nextFrame := (rfl)
@[simp] theorem State.clearTab_nextCopy (s : State) (t : Nat) : (s.clearTab t).nextCopy = s.nextCopy := (rfl)
@[simp] theorem State.clearTab_drr (s : State) (t : Nat) : (s.clearTab t).drr = s.drr := (rfl)
@[simp] theorem State.clearTab_fences (s : State) (t : Nat) : (s.clearTab t).fences = s.fences := (rfl)
@[simp] theorem State.clearTab_oldResv (s : State) (t : Nat) : (s.clearTab t).oldResv = s.oldResv := (rfl)
@[simp] theorem State.clearTab_oldBounds (s : State) (t : Nat) : (s.clearTab t).oldBounds = s.oldBounds := (rfl)
@[simp] theorem State.clearTab_gates (s : State) (t : Nat) : (s.clearTab t).gates = s.gates := (rfl)
@[simp] theorem State.clearTab_handoffs (s : State) (t : Nat) : (s.clearTab t).handoffs = s.handoffs := (rfl)
@[simp] theorem State.clearTab_built (s : State) (t : Nat) : (s.clearTab t).built = s.built := (rfl)
@[simp] theorem State.clearTab_inactive (s : State) (t : Nat) : (s.clearTab t).inactive = s.inactive := (rfl)
@[simp] theorem State.clearTab_postcards (s : State) (t : Nat) : (s.clearTab t).postcards = s.postcards := (rfl)
@[simp] theorem State.clearTab_out (s : State) (t : Nat) : (s.clearTab t).out = s.out := (rfl)
@[simp] theorem State.clearTab_tap (s : State) (t : Nat) : (s.clearTab t).tap = s.tap := (rfl)
@[simp] theorem State.clearTab_freeCtr (s : State) (t : Nat) : (s.clearTab t).freeCtr = s.freeCtr := (rfl)
@[simp] theorem State.clearTab_pending (s : State) (t : Nat) : (s.clearTab t).pending = s.pending := (rfl)
/-! ### clearTabRange -/
@[simp] theorem State.clearTabRange_regs (s : State) (t lo hi : Nat) : (s.clearTabRange t lo hi).regs = s.regs := (rfl)
@[simp] theorem State.clearTabRange_mem (s : State) (t lo hi : Nat) : (s.clearTabRange t lo hi).mem = s.mem := (rfl)
@[simp] theorem State.clearTabRange_attn (s : State) (t lo hi : Nat) : (s.clearTabRange t lo hi).attn = s.attn := (rfl)
@[simp] theorem State.clearTabRange_zdp (s : State) (t lo hi : Nat) : (s.clearTabRange t lo hi).zdp = s.zdp := (rfl)
@[simp] theorem State.clearTabRange_stagings (s : State) (t lo hi : Nat) : (s.clearTabRange t lo hi).stagings = s.stagings := (rfl)
@[simp] theorem State.clearTabRange_clock (s : State) (t lo hi : Nat) : (s.clearTabRange t lo hi).clock = s.clock := (rfl)
@[simp] theorem State.clearTabRange_frames (s : State) (t lo hi : Nat) : (s.clearTabRange t lo hi).frames = s.frames := (rfl)
@[simp] theorem State.clearTabRange_copies (s : State) (t lo hi : Nat) : (s.clearTabRange t lo hi).copies = s.copies := (rfl)
@[simp] theorem State.clearTabRange_nextFrame (s : State) (t lo hi : Nat) : (s.clearTabRange t lo hi).nextFrame = s.nextFrame := (rfl)
@[simp] theorem State.clearTabRange_nextCopy (s : State) (t lo hi : Nat) : (s.clearTabRange t lo hi).nextCopy = s.nextCopy := (rfl)
@[simp] theorem State.clearTabRange_drr (s : State) (t lo hi : Nat) : (s.clearTabRange t lo hi).drr = s.drr := (rfl)
@[simp] theorem State.clearTabRange_fences (s : State) (t lo hi : Nat) : (s.clearTabRange t lo hi).fences = s.fences := (rfl)
@[simp] theorem State.clearTabRange_oldResv (s : State) (t lo hi : Nat) : (s.clearTabRange t lo hi).oldResv = s.oldResv := (rfl)
@[simp] theorem State.clearTabRange_oldBounds (s : State) (t lo hi : Nat) : (s.clearTabRange t lo hi).oldBounds = s.oldBounds := (rfl)
@[simp] theorem State.clearTabRange_gates (s : State) (t lo hi : Nat) : (s.clearTabRange t lo hi).gates = s.gates := (rfl)
@[simp] theorem State.clearTabRange_handoffs (s : State) (t lo hi : Nat) : (s.clearTabRange t lo hi).handoffs = s.handoffs := (rfl)
@[simp] theorem State.clearTabRange_built (s : State) (t lo hi : Nat) : (s.clearTabRange t lo hi).built = s.built := (rfl)
@[simp] theorem State.clearTabRange_inactive (s : State) (t lo hi : Nat) : (s.clearTabRange t lo hi).inactive = s.inactive := (rfl)
@[simp] theorem State.clearTabRange_postcards (s : State) (t lo hi : Nat) : (s.clearTabRange t lo hi).postcards = s.postcards := (rfl)
@[simp] theorem State.clearTabRange_out (s : State) (t lo hi : Nat) : (s.clearTabRange t lo hi).out = s.out := (rfl)
@[simp] theorem State.clearTabRange_tap (s : State) (t lo hi : Nat) : (s.clearTabRange t lo hi).tap = s.tap := (rfl)
@[simp] theorem State.clearTabRange_freeCtr (s : State) (t lo hi : Nat) : (s.clearTabRange t lo hi).freeCtr = s.freeCtr := (rfl)
@[simp] theorem State.clearTabRange_pending (s : State) (t lo hi : Nat) : (s.clearTabRange t lo hi).pending = s.pending := (rfl)
/-! ### zeroBytes -/
@[simp] theorem State.zeroBytes_regs (s : State) (lo hi : Nat) : (s.zeroBytes lo hi).regs = s.regs := (rfl)
@[simp] theorem State.zeroBytes_tabs (s : State) (lo hi : Nat) : (s.zeroBytes lo hi).tabs = s.tabs := (rfl)
@[simp] theorem State.zeroBytes_attn (s : State) (lo hi : Nat) : (s.zeroBytes lo hi).attn = s.attn := (rfl)
@[simp] theorem State.zeroBytes_zdp (s : State) (lo hi : Nat) : (s.zeroBytes lo hi).zdp = s.zdp := (rfl)
@[simp] theorem State.zeroBytes_stagings (s : State) (lo hi : Nat) : (s.zeroBytes lo hi).stagings = s.stagings := (rfl)
@[simp] theorem State.zeroBytes_clock (s : State) (lo hi : Nat) : (s.zeroBytes lo hi).clock = s.clock := (rfl)
@[simp] theorem State.zeroBytes_frames (s : State) (lo hi : Nat) : (s.zeroBytes lo hi).frames = s.frames := (rfl)
@[simp] theorem State.zeroBytes_copies (s : State) (lo hi : Nat) : (s.zeroBytes lo hi).copies = s.copies := (rfl)
@[simp] theorem State.zeroBytes_nextFrame (s : State) (lo hi : Nat) : (s.zeroBytes lo hi).nextFrame = s.nextFrame := (rfl)
@[simp] theorem State.zeroBytes_nextCopy (s : State) (lo hi : Nat) : (s.zeroBytes lo hi).nextCopy = s.nextCopy := (rfl)
@[simp] theorem State.zeroBytes_drr (s : State) (lo hi : Nat) : (s.zeroBytes lo hi).drr = s.drr := (rfl)
@[simp] theorem State.zeroBytes_fences (s : State) (lo hi : Nat) : (s.zeroBytes lo hi).fences = s.fences := (rfl)
@[simp] theorem State.zeroBytes_oldResv (s : State) (lo hi : Nat) : (s.zeroBytes lo hi).oldResv = s.oldResv := (rfl)
@[simp] theorem State.zeroBytes_oldBounds (s : State) (lo hi : Nat) : (s.zeroBytes lo hi).oldBounds = s.oldBounds := (rfl)
@[simp] theorem State.zeroBytes_gates (s : State) (lo hi : Nat) : (s.zeroBytes lo hi).gates = s.gates := (rfl)
@[simp] theorem State.zeroBytes_handoffs (s : State) (lo hi : Nat) : (s.zeroBytes lo hi).handoffs = s.handoffs := (rfl)
@[simp] theorem State.zeroBytes_built (s : State) (lo hi : Nat) : (s.zeroBytes lo hi).built = s.built := (rfl)
@[simp] theorem State.zeroBytes_inactive (s : State) (lo hi : Nat) : (s.zeroBytes lo hi).inactive = s.inactive := (rfl)
@[simp] theorem State.zeroBytes_postcards (s : State) (lo hi : Nat) : (s.zeroBytes lo hi).postcards = s.postcards := (rfl)
@[simp] theorem State.zeroBytes_out (s : State) (lo hi : Nat) : (s.zeroBytes lo hi).out = s.out := (rfl)
@[simp] theorem State.zeroBytes_tap (s : State) (lo hi : Nat) : (s.zeroBytes lo hi).tap = s.tap := (rfl)
@[simp] theorem State.zeroBytes_freeCtr (s : State) (lo hi : Nat) : (s.zeroBytes lo hi).freeCtr = s.freeCtr := (rfl)
@[simp] theorem State.zeroBytes_pending (s : State) (lo hi : Nat) : (s.zeroBytes lo hi).pending = s.pending := (rfl)
/-! ### emit -/
@[simp] theorem State.emit_regs (s : State) (o : Out) : (s.emit o).regs = s.regs := (rfl)
@[simp] theorem State.emit_tabs (s : State) (o : Out) : (s.emit o).tabs = s.tabs := (rfl)
@[simp] theorem State.emit_mem (s : State) (o : Out) : (s.emit o).mem = s.mem := (rfl)
@[simp] theorem State.emit_attn (s : State) (o : Out) : (s.emit o).attn = s.attn := (rfl)
@[simp] theorem State.emit_zdp (s : State) (o : Out) : (s.emit o).zdp = s.zdp := (rfl)
@[simp] theorem State.emit_stagings (s : State) (o : Out) : (s.emit o).stagings = s.stagings := (rfl)
@[simp] theorem State.emit_clock (s : State) (o : Out) : (s.emit o).clock = s.clock := (rfl)
@[simp] theorem State.emit_frames (s : State) (o : Out) : (s.emit o).frames = s.frames := (rfl)
@[simp] theorem State.emit_copies (s : State) (o : Out) : (s.emit o).copies = s.copies := (rfl)
@[simp] theorem State.emit_nextFrame (s : State) (o : Out) : (s.emit o).nextFrame = s.nextFrame := (rfl)
@[simp] theorem State.emit_nextCopy (s : State) (o : Out) : (s.emit o).nextCopy = s.nextCopy := (rfl)
@[simp] theorem State.emit_drr (s : State) (o : Out) : (s.emit o).drr = s.drr := (rfl)
@[simp] theorem State.emit_fences (s : State) (o : Out) : (s.emit o).fences = s.fences := (rfl)
@[simp] theorem State.emit_oldResv (s : State) (o : Out) : (s.emit o).oldResv = s.oldResv := (rfl)
@[simp] theorem State.emit_oldBounds (s : State) (o : Out) : (s.emit o).oldBounds = s.oldBounds := (rfl)
@[simp] theorem State.emit_gates (s : State) (o : Out) : (s.emit o).gates = s.gates := (rfl)
@[simp] theorem State.emit_handoffs (s : State) (o : Out) : (s.emit o).handoffs = s.handoffs := (rfl)
@[simp] theorem State.emit_built (s : State) (o : Out) : (s.emit o).built = s.built := (rfl)
@[simp] theorem State.emit_inactive (s : State) (o : Out) : (s.emit o).inactive = s.inactive := (rfl)
@[simp] theorem State.emit_postcards (s : State) (o : Out) : (s.emit o).postcards = s.postcards := (rfl)
@[simp] theorem State.emit_tap (s : State) (o : Out) : (s.emit o).tap = s.tap := (rfl)
@[simp] theorem State.emit_freeCtr (s : State) (o : Out) : (s.emit o).freeCtr = s.freeCtr := (rfl)
@[simp] theorem State.emit_pending (s : State) (o : Out) : (s.emit o).pending = s.pending := (rfl)
/-! ### drew -/
@[simp] theorem State.drew_regs (s : State) : (s.drew).regs = s.regs := (rfl)
@[simp] theorem State.drew_tabs (s : State) : (s.drew).tabs = s.tabs := (rfl)
@[simp] theorem State.drew_mem (s : State) : (s.drew).mem = s.mem := (rfl)
@[simp] theorem State.drew_attn (s : State) : (s.drew).attn = s.attn := (rfl)
@[simp] theorem State.drew_zdp (s : State) : (s.drew).zdp = s.zdp := (rfl)
@[simp] theorem State.drew_stagings (s : State) : (s.drew).stagings = s.stagings := (rfl)
@[simp] theorem State.drew_clock (s : State) : (s.drew).clock = s.clock := (rfl)
@[simp] theorem State.drew_frames (s : State) : (s.drew).frames = s.frames := (rfl)
@[simp] theorem State.drew_copies (s : State) : (s.drew).copies = s.copies := (rfl)
@[simp] theorem State.drew_nextFrame (s : State) : (s.drew).nextFrame = s.nextFrame := (rfl)
@[simp] theorem State.drew_nextCopy (s : State) : (s.drew).nextCopy = s.nextCopy := (rfl)
@[simp] theorem State.drew_drr (s : State) : (s.drew).drr = s.drr := (rfl)
@[simp] theorem State.drew_fences (s : State) : (s.drew).fences = s.fences := (rfl)
@[simp] theorem State.drew_oldResv (s : State) : (s.drew).oldResv = s.oldResv := (rfl)
@[simp] theorem State.drew_oldBounds (s : State) : (s.drew).oldBounds = s.oldBounds := (rfl)
@[simp] theorem State.drew_gates (s : State) : (s.drew).gates = s.gates := (rfl)
@[simp] theorem State.drew_handoffs (s : State) : (s.drew).handoffs = s.handoffs := (rfl)
@[simp] theorem State.drew_built (s : State) : (s.drew).built = s.built := (rfl)
@[simp] theorem State.drew_inactive (s : State) : (s.drew).inactive = s.inactive := (rfl)
@[simp] theorem State.drew_postcards (s : State) : (s.drew).postcards = s.postcards := (rfl)
@[simp] theorem State.drew_out (s : State) : (s.drew).out = s.out := (rfl)
@[simp] theorem State.drew_tap (s : State) : (s.drew).tap = s.tap := (rfl)
@[simp] theorem State.drew_pending (s : State) : (s.drew).pending = s.pending := (rfl)
/-! ### bump -/
@[simp] theorem State.bump_tabs (s : State) (k w n : Nat) : (s.bump k w n).tabs = s.tabs := by simp [State.bump]
@[simp] theorem State.bump_mem (s : State) (k w n : Nat) : (s.bump k w n).mem = s.mem := by simp [State.bump]
@[simp] theorem State.bump_attn (s : State) (k w n : Nat) : (s.bump k w n).attn = s.attn := by simp [State.bump]
@[simp] theorem State.bump_zdp (s : State) (k w n : Nat) : (s.bump k w n).zdp = s.zdp := by simp [State.bump]
@[simp] theorem State.bump_stagings (s : State) (k w n : Nat) : (s.bump k w n).stagings = s.stagings := by simp [State.bump]
@[simp] theorem State.bump_clock (s : State) (k w n : Nat) : (s.bump k w n).clock = s.clock := by simp [State.bump]
@[simp] theorem State.bump_frames (s : State) (k w n : Nat) : (s.bump k w n).frames = s.frames := by simp [State.bump]
@[simp] theorem State.bump_copies (s : State) (k w n : Nat) : (s.bump k w n).copies = s.copies := by simp [State.bump]
@[simp] theorem State.bump_nextFrame (s : State) (k w n : Nat) : (s.bump k w n).nextFrame = s.nextFrame := by simp [State.bump]
@[simp] theorem State.bump_nextCopy (s : State) (k w n : Nat) : (s.bump k w n).nextCopy = s.nextCopy := by simp [State.bump]
@[simp] theorem State.bump_drr (s : State) (k w n : Nat) : (s.bump k w n).drr = s.drr := by simp [State.bump]
@[simp] theorem State.bump_fences (s : State) (k w n : Nat) : (s.bump k w n).fences = s.fences := by simp [State.bump]
@[simp] theorem State.bump_oldResv (s : State) (k w n : Nat) : (s.bump k w n).oldResv = s.oldResv := by simp [State.bump]
@[simp] theorem State.bump_oldBounds (s : State) (k w n : Nat) : (s.bump k w n).oldBounds = s.oldBounds := by simp [State.bump]
@[simp] theorem State.bump_gates (s : State) (k w n : Nat) : (s.bump k w n).gates = s.gates := by simp [State.bump]
@[simp] theorem State.bump_handoffs (s : State) (k w n : Nat) : (s.bump k w n).handoffs = s.handoffs := by simp [State.bump]
@[simp] theorem State.bump_built (s : State) (k w n : Nat) : (s.bump k w n).built = s.built := by simp [State.bump]
@[simp] theorem State.bump_inactive (s : State) (k w n : Nat) : (s.bump k w n).inactive = s.inactive := by simp [State.bump]
@[simp] theorem State.bump_postcards (s : State) (k w n : Nat) : (s.bump k w n).postcards = s.postcards := by simp [State.bump]
@[simp] theorem State.bump_out (s : State) (k w n : Nat) : (s.bump k w n).out = s.out := by simp [State.bump]
@[simp] theorem State.bump_tap (s : State) (k w n : Nat) : (s.bump k w n).tap = s.tap := by simp [State.bump]
@[simp] theorem State.bump_freeCtr (s : State) (k w n : Nat) : (s.bump k w n).freeCtr = s.freeCtr := by simp [State.bump]
@[simp] theorem State.bump_pending (s : State) (k w n : Nat) : (s.bump k w n).pending = s.pending := by simp [State.bump]
/-! ### bumpSat -/
@[simp] theorem State.bumpSat_tabs (s : State) (k w n : Nat) : (s.bumpSat k w n).tabs = s.tabs := by simp [State.bumpSat]
@[simp] theorem State.bumpSat_mem (s : State) (k w n : Nat) : (s.bumpSat k w n).mem = s.mem := by simp [State.bumpSat]
@[simp] theorem State.bumpSat_attn (s : State) (k w n : Nat) : (s.bumpSat k w n).attn = s.attn := by simp [State.bumpSat]
@[simp] theorem State.bumpSat_zdp (s : State) (k w n : Nat) : (s.bumpSat k w n).zdp = s.zdp := by simp [State.bumpSat]
@[simp] theorem State.bumpSat_stagings (s : State) (k w n : Nat) : (s.bumpSat k w n).stagings = s.stagings := by simp [State.bumpSat]
@[simp] theorem State.bumpSat_clock (s : State) (k w n : Nat) : (s.bumpSat k w n).clock = s.clock := by simp [State.bumpSat]
@[simp] theorem State.bumpSat_frames (s : State) (k w n : Nat) : (s.bumpSat k w n).frames = s.frames := by simp [State.bumpSat]
@[simp] theorem State.bumpSat_copies (s : State) (k w n : Nat) : (s.bumpSat k w n).copies = s.copies := by simp [State.bumpSat]
@[simp] theorem State.bumpSat_nextFrame (s : State) (k w n : Nat) : (s.bumpSat k w n).nextFrame = s.nextFrame := by simp [State.bumpSat]
@[simp] theorem State.bumpSat_nextCopy (s : State) (k w n : Nat) : (s.bumpSat k w n).nextCopy = s.nextCopy := by simp [State.bumpSat]
@[simp] theorem State.bumpSat_drr (s : State) (k w n : Nat) : (s.bumpSat k w n).drr = s.drr := by simp [State.bumpSat]
@[simp] theorem State.bumpSat_fences (s : State) (k w n : Nat) : (s.bumpSat k w n).fences = s.fences := by simp [State.bumpSat]
@[simp] theorem State.bumpSat_oldResv (s : State) (k w n : Nat) : (s.bumpSat k w n).oldResv = s.oldResv := by simp [State.bumpSat]
@[simp] theorem State.bumpSat_oldBounds (s : State) (k w n : Nat) : (s.bumpSat k w n).oldBounds = s.oldBounds := by simp [State.bumpSat]
@[simp] theorem State.bumpSat_gates (s : State) (k w n : Nat) : (s.bumpSat k w n).gates = s.gates := by simp [State.bumpSat]
@[simp] theorem State.bumpSat_handoffs (s : State) (k w n : Nat) : (s.bumpSat k w n).handoffs = s.handoffs := by simp [State.bumpSat]
@[simp] theorem State.bumpSat_built (s : State) (k w n : Nat) : (s.bumpSat k w n).built = s.built := by simp [State.bumpSat]
@[simp] theorem State.bumpSat_inactive (s : State) (k w n : Nat) : (s.bumpSat k w n).inactive = s.inactive := by simp [State.bumpSat]
@[simp] theorem State.bumpSat_postcards (s : State) (k w n : Nat) : (s.bumpSat k w n).postcards = s.postcards := by simp [State.bumpSat]
@[simp] theorem State.bumpSat_out (s : State) (k w n : Nat) : (s.bumpSat k w n).out = s.out := by simp [State.bumpSat]
@[simp] theorem State.bumpSat_tap (s : State) (k w n : Nat) : (s.bumpSat k w n).tap = s.tap := by simp [State.bumpSat]
@[simp] theorem State.bumpSat_freeCtr (s : State) (k w n : Nat) : (s.bumpSat k w n).freeCtr = s.freeCtr := by simp [State.bumpSat]
@[simp] theorem State.bumpSat_pending (s : State) (k w n : Nat) : (s.bumpSat k w n).pending = s.pending := by simp [State.bumpSat]
/-! ### drop -/
@[simp] theorem State.drop_tabs (s : State) (k n : Nat) : (s.drop k n).tabs = s.tabs := by simp [State.drop]
@[simp] theorem State.drop_mem (s : State) (k n : Nat) : (s.drop k n).mem = s.mem := by simp [State.drop]
@[simp] theorem State.drop_attn (s : State) (k n : Nat) : (s.drop k n).attn = s.attn := by simp [State.drop]
@[simp] theorem State.drop_zdp (s : State) (k n : Nat) : (s.drop k n).zdp = s.zdp := by simp [State.drop]
@[simp] theorem State.drop_stagings (s : State) (k n : Nat) : (s.drop k n).stagings = s.stagings := by simp [State.drop]
@[simp] theorem State.drop_clock (s : State) (k n : Nat) : (s.drop k n).clock = s.clock := by simp [State.drop]
@[simp] theorem State.drop_frames (s : State) (k n : Nat) : (s.drop k n).frames = s.frames := by simp [State.drop]
@[simp] theorem State.drop_copies (s : State) (k n : Nat) : (s.drop k n).copies = s.copies := by simp [State.drop]
@[simp] theorem State.drop_nextFrame (s : State) (k n : Nat) : (s.drop k n).nextFrame = s.nextFrame := by simp [State.drop]
@[simp] theorem State.drop_nextCopy (s : State) (k n : Nat) : (s.drop k n).nextCopy = s.nextCopy := by simp [State.drop]
@[simp] theorem State.drop_drr (s : State) (k n : Nat) : (s.drop k n).drr = s.drr := by simp [State.drop]
@[simp] theorem State.drop_fences (s : State) (k n : Nat) : (s.drop k n).fences = s.fences := by simp [State.drop]
@[simp] theorem State.drop_oldResv (s : State) (k n : Nat) : (s.drop k n).oldResv = s.oldResv := by simp [State.drop]
@[simp] theorem State.drop_oldBounds (s : State) (k n : Nat) : (s.drop k n).oldBounds = s.oldBounds := by simp [State.drop]
@[simp] theorem State.drop_gates (s : State) (k n : Nat) : (s.drop k n).gates = s.gates := by simp [State.drop]
@[simp] theorem State.drop_handoffs (s : State) (k n : Nat) : (s.drop k n).handoffs = s.handoffs := by simp [State.drop]
@[simp] theorem State.drop_built (s : State) (k n : Nat) : (s.drop k n).built = s.built := by simp [State.drop]
@[simp] theorem State.drop_inactive (s : State) (k n : Nat) : (s.drop k n).inactive = s.inactive := by simp [State.drop]
@[simp] theorem State.drop_postcards (s : State) (k n : Nat) : (s.drop k n).postcards = s.postcards := by simp [State.drop]
@[simp] theorem State.drop_out (s : State) (k n : Nat) : (s.drop k n).out = s.out := by simp [State.drop]
@[simp] theorem State.drop_tap (s : State) (k n : Nat) : (s.drop k n).tap = s.tap := by simp [State.drop]
@[simp] theorem State.drop_freeCtr (s : State) (k n : Nat) : (s.drop k n).freeCtr = s.freeCtr := by simp [State.drop]
@[simp] theorem State.drop_pending (s : State) (k n : Nat) : (s.drop k n).pending = s.pending := by simp [State.drop]
/-! ### resetReg -/
@[simp] theorem State.resetReg_tabs (s : State) (k : Nat) : (s.resetReg k).tabs = s.tabs := by simp [State.resetReg]
@[simp] theorem State.resetReg_mem (s : State) (k : Nat) : (s.resetReg k).mem = s.mem := by simp [State.resetReg]
@[simp] theorem State.resetReg_attn (s : State) (k : Nat) : (s.resetReg k).attn = s.attn := by simp [State.resetReg]
@[simp] theorem State.resetReg_zdp (s : State) (k : Nat) : (s.resetReg k).zdp = s.zdp := by simp [State.resetReg]
@[simp] theorem State.resetReg_stagings (s : State) (k : Nat) : (s.resetReg k).stagings = s.stagings := by simp [State.resetReg]
@[simp] theorem State.resetReg_clock (s : State) (k : Nat) : (s.resetReg k).clock = s.clock := by simp [State.resetReg]
@[simp] theorem State.resetReg_frames (s : State) (k : Nat) : (s.resetReg k).frames = s.frames := by simp [State.resetReg]
@[simp] theorem State.resetReg_copies (s : State) (k : Nat) : (s.resetReg k).copies = s.copies := by simp [State.resetReg]
@[simp] theorem State.resetReg_nextFrame (s : State) (k : Nat) : (s.resetReg k).nextFrame = s.nextFrame := by simp [State.resetReg]
@[simp] theorem State.resetReg_nextCopy (s : State) (k : Nat) : (s.resetReg k).nextCopy = s.nextCopy := by simp [State.resetReg]
@[simp] theorem State.resetReg_drr (s : State) (k : Nat) : (s.resetReg k).drr = s.drr := by simp [State.resetReg]
@[simp] theorem State.resetReg_fences (s : State) (k : Nat) : (s.resetReg k).fences = s.fences := by simp [State.resetReg]
@[simp] theorem State.resetReg_oldResv (s : State) (k : Nat) : (s.resetReg k).oldResv = s.oldResv := by simp [State.resetReg]
@[simp] theorem State.resetReg_oldBounds (s : State) (k : Nat) : (s.resetReg k).oldBounds = s.oldBounds := by simp [State.resetReg]
@[simp] theorem State.resetReg_gates (s : State) (k : Nat) : (s.resetReg k).gates = s.gates := by simp [State.resetReg]
@[simp] theorem State.resetReg_handoffs (s : State) (k : Nat) : (s.resetReg k).handoffs = s.handoffs := by simp [State.resetReg]
@[simp] theorem State.resetReg_built (s : State) (k : Nat) : (s.resetReg k).built = s.built := by simp [State.resetReg]
@[simp] theorem State.resetReg_inactive (s : State) (k : Nat) : (s.resetReg k).inactive = s.inactive := by simp [State.resetReg]
@[simp] theorem State.resetReg_postcards (s : State) (k : Nat) : (s.resetReg k).postcards = s.postcards := by simp [State.resetReg]
@[simp] theorem State.resetReg_out (s : State) (k : Nat) : (s.resetReg k).out = s.out := by simp [State.resetReg]
@[simp] theorem State.resetReg_tap (s : State) (k : Nat) : (s.resetReg k).tap = s.tap := by simp [State.resetReg]
@[simp] theorem State.resetReg_freeCtr (s : State) (k : Nat) : (s.resetReg k).freeCtr = s.freeCtr := by simp [State.resetReg]
@[simp] theorem State.resetReg_pending (s : State) (k : Nat) : (s.resetReg k).pending = s.pending := by simp [State.resetReg]
/-! ### setSrcState -/
@[simp] theorem State.setSrcState_regs (s : State) (n st : Nat) : (s.setSrcState n st).regs = s.regs := by simp [State.setSrcState]
@[simp] theorem State.setSrcState_mem (s : State) (n st : Nat) : (s.setSrcState n st).mem = s.mem := by simp [State.setSrcState]
@[simp] theorem State.setSrcState_attn (s : State) (n st : Nat) : (s.setSrcState n st).attn = s.attn := by simp [State.setSrcState]
@[simp] theorem State.setSrcState_zdp (s : State) (n st : Nat) : (s.setSrcState n st).zdp = s.zdp := by simp [State.setSrcState]
@[simp] theorem State.setSrcState_stagings (s : State) (n st : Nat) : (s.setSrcState n st).stagings = s.stagings := by simp [State.setSrcState]
@[simp] theorem State.setSrcState_clock (s : State) (n st : Nat) : (s.setSrcState n st).clock = s.clock := by simp [State.setSrcState]
@[simp] theorem State.setSrcState_frames (s : State) (n st : Nat) : (s.setSrcState n st).frames = s.frames := by simp [State.setSrcState]
@[simp] theorem State.setSrcState_copies (s : State) (n st : Nat) : (s.setSrcState n st).copies = s.copies := by simp [State.setSrcState]
@[simp] theorem State.setSrcState_nextFrame (s : State) (n st : Nat) : (s.setSrcState n st).nextFrame = s.nextFrame := by simp [State.setSrcState]
@[simp] theorem State.setSrcState_nextCopy (s : State) (n st : Nat) : (s.setSrcState n st).nextCopy = s.nextCopy := by simp [State.setSrcState]
@[simp] theorem State.setSrcState_drr (s : State) (n st : Nat) : (s.setSrcState n st).drr = s.drr := by simp [State.setSrcState]
@[simp] theorem State.setSrcState_fences (s : State) (n st : Nat) : (s.setSrcState n st).fences = s.fences := by simp [State.setSrcState]
@[simp] theorem State.setSrcState_oldResv (s : State) (n st : Nat) : (s.setSrcState n st).oldResv = s.oldResv := by simp [State.setSrcState]
@[simp] theorem State.setSrcState_oldBounds (s : State) (n st : Nat) : (s.setSrcState n st).oldBounds = s.oldBounds := by simp [State.setSrcState]
@[simp] theorem State.setSrcState_gates (s : State) (n st : Nat) : (s.setSrcState n st).gates = s.gates := by simp [State.setSrcState]
@[simp] theorem State.setSrcState_handoffs (s : State) (n st : Nat) : (s.setSrcState n st).handoffs = s.handoffs := by simp [State.setSrcState]
@[simp] theorem State.setSrcState_built (s : State) (n st : Nat) : (s.setSrcState n st).built = s.built := by simp [State.setSrcState]
@[simp] theorem State.setSrcState_inactive (s : State) (n st : Nat) : (s.setSrcState n st).inactive = s.inactive := by simp [State.setSrcState]
@[simp] theorem State.setSrcState_postcards (s : State) (n st : Nat) : (s.setSrcState n st).postcards = s.postcards := by simp [State.setSrcState]
@[simp] theorem State.setSrcState_out (s : State) (n st : Nat) : (s.setSrcState n st).out = s.out := by simp [State.setSrcState]
@[simp] theorem State.setSrcState_tap (s : State) (n st : Nat) : (s.setSrcState n st).tap = s.tap := by simp [State.setSrcState]
@[simp] theorem State.setSrcState_freeCtr (s : State) (n st : Nat) : (s.setSrcState n st).freeCtr = s.freeCtr := by simp [State.setSrcState]
@[simp] theorem State.setSrcState_pending (s : State) (n st : Nat) : (s.setSrcState n st).pending = s.pending := by simp [State.setSrcState]
/-! ### setClaimedBy -/
@[simp] theorem State.setClaimedBy_regs (s : State) (n t : Nat) : (s.setClaimedBy n t).regs = s.regs := by simp [State.setClaimedBy]
@[simp] theorem State.setClaimedBy_mem (s : State) (n t : Nat) : (s.setClaimedBy n t).mem = s.mem := by simp [State.setClaimedBy]
@[simp] theorem State.setClaimedBy_attn (s : State) (n t : Nat) : (s.setClaimedBy n t).attn = s.attn := by simp [State.setClaimedBy]
@[simp] theorem State.setClaimedBy_zdp (s : State) (n t : Nat) : (s.setClaimedBy n t).zdp = s.zdp := by simp [State.setClaimedBy]
@[simp] theorem State.setClaimedBy_stagings (s : State) (n t : Nat) : (s.setClaimedBy n t).stagings = s.stagings := by simp [State.setClaimedBy]
@[simp] theorem State.setClaimedBy_clock (s : State) (n t : Nat) : (s.setClaimedBy n t).clock = s.clock := by simp [State.setClaimedBy]
@[simp] theorem State.setClaimedBy_frames (s : State) (n t : Nat) : (s.setClaimedBy n t).frames = s.frames := by simp [State.setClaimedBy]
@[simp] theorem State.setClaimedBy_copies (s : State) (n t : Nat) : (s.setClaimedBy n t).copies = s.copies := by simp [State.setClaimedBy]
@[simp] theorem State.setClaimedBy_nextFrame (s : State) (n t : Nat) : (s.setClaimedBy n t).nextFrame = s.nextFrame := by simp [State.setClaimedBy]
@[simp] theorem State.setClaimedBy_nextCopy (s : State) (n t : Nat) : (s.setClaimedBy n t).nextCopy = s.nextCopy := by simp [State.setClaimedBy]
@[simp] theorem State.setClaimedBy_drr (s : State) (n t : Nat) : (s.setClaimedBy n t).drr = s.drr := by simp [State.setClaimedBy]
@[simp] theorem State.setClaimedBy_fences (s : State) (n t : Nat) : (s.setClaimedBy n t).fences = s.fences := by simp [State.setClaimedBy]
@[simp] theorem State.setClaimedBy_oldResv (s : State) (n t : Nat) : (s.setClaimedBy n t).oldResv = s.oldResv := by simp [State.setClaimedBy]
@[simp] theorem State.setClaimedBy_oldBounds (s : State) (n t : Nat) : (s.setClaimedBy n t).oldBounds = s.oldBounds := by simp [State.setClaimedBy]
@[simp] theorem State.setClaimedBy_gates (s : State) (n t : Nat) : (s.setClaimedBy n t).gates = s.gates := by simp [State.setClaimedBy]
@[simp] theorem State.setClaimedBy_handoffs (s : State) (n t : Nat) : (s.setClaimedBy n t).handoffs = s.handoffs := by simp [State.setClaimedBy]
@[simp] theorem State.setClaimedBy_built (s : State) (n t : Nat) : (s.setClaimedBy n t).built = s.built := by simp [State.setClaimedBy]
@[simp] theorem State.setClaimedBy_inactive (s : State) (n t : Nat) : (s.setClaimedBy n t).inactive = s.inactive := by simp [State.setClaimedBy]
@[simp] theorem State.setClaimedBy_postcards (s : State) (n t : Nat) : (s.setClaimedBy n t).postcards = s.postcards := by simp [State.setClaimedBy]
@[simp] theorem State.setClaimedBy_out (s : State) (n t : Nat) : (s.setClaimedBy n t).out = s.out := by simp [State.setClaimedBy]
@[simp] theorem State.setClaimedBy_tap (s : State) (n t : Nat) : (s.setClaimedBy n t).tap = s.tap := by simp [State.setClaimedBy]
@[simp] theorem State.setClaimedBy_freeCtr (s : State) (n t : Nat) : (s.setClaimedBy n t).freeCtr = s.freeCtr := by simp [State.setClaimedBy]
@[simp] theorem State.setClaimedBy_pending (s : State) (n t : Nat) : (s.setClaimedBy n t).pending = s.pending := by simp [State.setClaimedBy]
/-! ### setCounter -/
@[simp] theorem State.setCounter_regs (s : State) (n v : Nat) : (s.setCounter n v).regs = s.regs := by simp [State.setCounter]
@[simp] theorem State.setCounter_mem (s : State) (n v : Nat) : (s.setCounter n v).mem = s.mem := by simp [State.setCounter]
@[simp] theorem State.setCounter_attn (s : State) (n v : Nat) : (s.setCounter n v).attn = s.attn := by simp [State.setCounter]
@[simp] theorem State.setCounter_zdp (s : State) (n v : Nat) : (s.setCounter n v).zdp = s.zdp := by simp [State.setCounter]
@[simp] theorem State.setCounter_stagings (s : State) (n v : Nat) : (s.setCounter n v).stagings = s.stagings := by simp [State.setCounter]
@[simp] theorem State.setCounter_clock (s : State) (n v : Nat) : (s.setCounter n v).clock = s.clock := by simp [State.setCounter]
@[simp] theorem State.setCounter_frames (s : State) (n v : Nat) : (s.setCounter n v).frames = s.frames := by simp [State.setCounter]
@[simp] theorem State.setCounter_copies (s : State) (n v : Nat) : (s.setCounter n v).copies = s.copies := by simp [State.setCounter]
@[simp] theorem State.setCounter_nextFrame (s : State) (n v : Nat) : (s.setCounter n v).nextFrame = s.nextFrame := by simp [State.setCounter]
@[simp] theorem State.setCounter_nextCopy (s : State) (n v : Nat) : (s.setCounter n v).nextCopy = s.nextCopy := by simp [State.setCounter]
@[simp] theorem State.setCounter_drr (s : State) (n v : Nat) : (s.setCounter n v).drr = s.drr := by simp [State.setCounter]
@[simp] theorem State.setCounter_fences (s : State) (n v : Nat) : (s.setCounter n v).fences = s.fences := by simp [State.setCounter]
@[simp] theorem State.setCounter_oldResv (s : State) (n v : Nat) : (s.setCounter n v).oldResv = s.oldResv := by simp [State.setCounter]
@[simp] theorem State.setCounter_oldBounds (s : State) (n v : Nat) : (s.setCounter n v).oldBounds = s.oldBounds := by simp [State.setCounter]
@[simp] theorem State.setCounter_gates (s : State) (n v : Nat) : (s.setCounter n v).gates = s.gates := by simp [State.setCounter]
@[simp] theorem State.setCounter_handoffs (s : State) (n v : Nat) : (s.setCounter n v).handoffs = s.handoffs := by simp [State.setCounter]
@[simp] theorem State.setCounter_built (s : State) (n v : Nat) : (s.setCounter n v).built = s.built := by simp [State.setCounter]
@[simp] theorem State.setCounter_inactive (s : State) (n v : Nat) : (s.setCounter n v).inactive = s.inactive := by simp [State.setCounter]
@[simp] theorem State.setCounter_postcards (s : State) (n v : Nat) : (s.setCounter n v).postcards = s.postcards := by simp [State.setCounter]
@[simp] theorem State.setCounter_out (s : State) (n v : Nat) : (s.setCounter n v).out = s.out := by simp [State.setCounter]
@[simp] theorem State.setCounter_tap (s : State) (n v : Nat) : (s.setCounter n v).tap = s.tap := by simp [State.setCounter]
@[simp] theorem State.setCounter_freeCtr (s : State) (n v : Nat) : (s.setCounter n v).freeCtr = s.freeCtr := by simp [State.setCounter]
@[simp] theorem State.setCounter_pending (s : State) (n v : Nat) : (s.setCounter n v).pending = s.pending := by simp [State.setCounter]
/-! ### startTimer -/
@[simp] theorem State.startTimer_tabs (s : State) (c : Nat) : (s.startTimer c).tabs = s.tabs := by simp [State.startTimer]
@[simp] theorem State.startTimer_mem (s : State) (c : Nat) : (s.startTimer c).mem = s.mem := by simp [State.startTimer]
@[simp] theorem State.startTimer_attn (s : State) (c : Nat) : (s.startTimer c).attn = s.attn := by simp [State.startTimer]
@[simp] theorem State.startTimer_zdp (s : State) (c : Nat) : (s.startTimer c).zdp = s.zdp := by simp [State.startTimer]
@[simp] theorem State.startTimer_stagings (s : State) (c : Nat) : (s.startTimer c).stagings = s.stagings := by simp [State.startTimer]
@[simp] theorem State.startTimer_clock (s : State) (c : Nat) : (s.startTimer c).clock = s.clock := by simp [State.startTimer]
@[simp] theorem State.startTimer_frames (s : State) (c : Nat) : (s.startTimer c).frames = s.frames := by simp [State.startTimer]
@[simp] theorem State.startTimer_copies (s : State) (c : Nat) : (s.startTimer c).copies = s.copies := by simp [State.startTimer]
@[simp] theorem State.startTimer_nextFrame (s : State) (c : Nat) : (s.startTimer c).nextFrame = s.nextFrame := by simp [State.startTimer]
@[simp] theorem State.startTimer_nextCopy (s : State) (c : Nat) : (s.startTimer c).nextCopy = s.nextCopy := by simp [State.startTimer]
@[simp] theorem State.startTimer_drr (s : State) (c : Nat) : (s.startTimer c).drr = s.drr := by simp [State.startTimer]
@[simp] theorem State.startTimer_fences (s : State) (c : Nat) : (s.startTimer c).fences = s.fences := by simp [State.startTimer]
@[simp] theorem State.startTimer_oldResv (s : State) (c : Nat) : (s.startTimer c).oldResv = s.oldResv := by simp [State.startTimer]
@[simp] theorem State.startTimer_oldBounds (s : State) (c : Nat) : (s.startTimer c).oldBounds = s.oldBounds := by simp [State.startTimer]
@[simp] theorem State.startTimer_gates (s : State) (c : Nat) : (s.startTimer c).gates = s.gates := by simp [State.startTimer]
@[simp] theorem State.startTimer_handoffs (s : State) (c : Nat) : (s.startTimer c).handoffs = s.handoffs := by simp [State.startTimer]
@[simp] theorem State.startTimer_built (s : State) (c : Nat) : (s.startTimer c).built = s.built := by simp [State.startTimer]
@[simp] theorem State.startTimer_inactive (s : State) (c : Nat) : (s.startTimer c).inactive = s.inactive := by simp [State.startTimer]
@[simp] theorem State.startTimer_postcards (s : State) (c : Nat) : (s.startTimer c).postcards = s.postcards := by simp [State.startTimer]
@[simp] theorem State.startTimer_out (s : State) (c : Nat) : (s.startTimer c).out = s.out := by simp [State.startTimer]
@[simp] theorem State.startTimer_tap (s : State) (c : Nat) : (s.startTimer c).tap = s.tap := by simp [State.startTimer]
@[simp] theorem State.startTimer_freeCtr (s : State) (c : Nat) : (s.startTimer c).freeCtr = s.freeCtr := by simp [State.startTimer]
@[simp] theorem State.startTimer_pending (s : State) (c : Nat) : (s.startTimer c).pending = s.pending := by simp [State.startTimer]
/-! ### flag -/
@[simp] theorem State.flag_tabs (s : State) (k i : Nat) : (s.flag k i).tabs = s.tabs := by simp [State.flag]
@[simp] theorem State.flag_mem (s : State) (k i : Nat) : (s.flag k i).mem = s.mem := by simp [State.flag]
@[simp] theorem State.flag_attn (s : State) (k i : Nat) : (s.flag k i).attn = s.attn := by simp [State.flag]
@[simp] theorem State.flag_zdp (s : State) (k i : Nat) : (s.flag k i).zdp = s.zdp := by simp [State.flag]
@[simp] theorem State.flag_stagings (s : State) (k i : Nat) : (s.flag k i).stagings = s.stagings := by simp [State.flag]
@[simp] theorem State.flag_clock (s : State) (k i : Nat) : (s.flag k i).clock = s.clock := by simp [State.flag]
@[simp] theorem State.flag_frames (s : State) (k i : Nat) : (s.flag k i).frames = s.frames := by simp [State.flag]
@[simp] theorem State.flag_copies (s : State) (k i : Nat) : (s.flag k i).copies = s.copies := by simp [State.flag]
@[simp] theorem State.flag_nextFrame (s : State) (k i : Nat) : (s.flag k i).nextFrame = s.nextFrame := by simp [State.flag]
@[simp] theorem State.flag_nextCopy (s : State) (k i : Nat) : (s.flag k i).nextCopy = s.nextCopy := by simp [State.flag]
@[simp] theorem State.flag_drr (s : State) (k i : Nat) : (s.flag k i).drr = s.drr := by simp [State.flag]
@[simp] theorem State.flag_fences (s : State) (k i : Nat) : (s.flag k i).fences = s.fences := by simp [State.flag]
@[simp] theorem State.flag_oldResv (s : State) (k i : Nat) : (s.flag k i).oldResv = s.oldResv := by simp [State.flag]
@[simp] theorem State.flag_oldBounds (s : State) (k i : Nat) : (s.flag k i).oldBounds = s.oldBounds := by simp [State.flag]
@[simp] theorem State.flag_gates (s : State) (k i : Nat) : (s.flag k i).gates = s.gates := by simp [State.flag]
@[simp] theorem State.flag_handoffs (s : State) (k i : Nat) : (s.flag k i).handoffs = s.handoffs := by simp [State.flag]
@[simp] theorem State.flag_built (s : State) (k i : Nat) : (s.flag k i).built = s.built := by simp [State.flag]
@[simp] theorem State.flag_inactive (s : State) (k i : Nat) : (s.flag k i).inactive = s.inactive := by simp [State.flag]
@[simp] theorem State.flag_postcards (s : State) (k i : Nat) : (s.flag k i).postcards = s.postcards := by simp [State.flag]
@[simp] theorem State.flag_out (s : State) (k i : Nat) : (s.flag k i).out = s.out := by simp [State.flag]
@[simp] theorem State.flag_tap (s : State) (k i : Nat) : (s.flag k i).tap = s.tap := by simp [State.flag]
@[simp] theorem State.flag_freeCtr (s : State) (k i : Nat) : (s.flag k i).freeCtr = s.freeCtr := by simp [State.flag]
@[simp] theorem State.flag_pending (s : State) (k i : Nat) : (s.flag k i).pending = s.pending := by simp [State.flag]
/-! ### makeDue -/
@[simp] theorem State.makeDue_regs (s : State) (c : Nat) : (s.makeDue c).regs = s.regs := by
  unfold State.makeDue State.when; dsimp only; split <;> simp
@[simp] theorem State.makeDue_mem (s : State) (c : Nat) : (s.makeDue c).mem = s.mem := by
  unfold State.makeDue State.when; dsimp only; split <;> simp
@[simp] theorem State.makeDue_attn (s : State) (c : Nat) : (s.makeDue c).attn = s.attn := by
  unfold State.makeDue State.when; dsimp only; split <;> simp
@[simp] theorem State.makeDue_zdp (s : State) (c : Nat) : (s.makeDue c).zdp = s.zdp := by
  unfold State.makeDue State.when; dsimp only; split <;> simp
@[simp] theorem State.makeDue_stagings (s : State) (c : Nat) : (s.makeDue c).stagings = s.stagings := by
  unfold State.makeDue State.when; dsimp only; split <;> simp
@[simp] theorem State.makeDue_clock (s : State) (c : Nat) : (s.makeDue c).clock = s.clock := by
  unfold State.makeDue State.when; dsimp only; split <;> simp
@[simp] theorem State.makeDue_frames (s : State) (c : Nat) : (s.makeDue c).frames = s.frames := by
  unfold State.makeDue State.when; dsimp only; split <;> simp
@[simp] theorem State.makeDue_copies (s : State) (c : Nat) : (s.makeDue c).copies = s.copies := by
  unfold State.makeDue State.when; dsimp only; split <;> simp
@[simp] theorem State.makeDue_nextFrame (s : State) (c : Nat) : (s.makeDue c).nextFrame = s.nextFrame := by
  unfold State.makeDue State.when; dsimp only; split <;> simp
@[simp] theorem State.makeDue_nextCopy (s : State) (c : Nat) : (s.makeDue c).nextCopy = s.nextCopy := by
  unfold State.makeDue State.when; dsimp only; split <;> simp
@[simp] theorem State.makeDue_drr (s : State) (c : Nat) : (s.makeDue c).drr = s.drr := by
  unfold State.makeDue State.when; dsimp only; split <;> simp
@[simp] theorem State.makeDue_fences (s : State) (c : Nat) : (s.makeDue c).fences = s.fences := by
  unfold State.makeDue State.when; dsimp only; split <;> simp
@[simp] theorem State.makeDue_oldResv (s : State) (c : Nat) : (s.makeDue c).oldResv = s.oldResv := by
  unfold State.makeDue State.when; dsimp only; split <;> simp
@[simp] theorem State.makeDue_oldBounds (s : State) (c : Nat) : (s.makeDue c).oldBounds = s.oldBounds := by
  unfold State.makeDue State.when; dsimp only; split <;> simp
@[simp] theorem State.makeDue_gates (s : State) (c : Nat) : (s.makeDue c).gates = s.gates := by
  unfold State.makeDue State.when; dsimp only; split <;> simp
@[simp] theorem State.makeDue_handoffs (s : State) (c : Nat) : (s.makeDue c).handoffs = s.handoffs := by
  unfold State.makeDue State.when; dsimp only; split <;> simp
@[simp] theorem State.makeDue_built (s : State) (c : Nat) : (s.makeDue c).built = s.built := by
  unfold State.makeDue State.when; dsimp only; split <;> simp
@[simp] theorem State.makeDue_inactive (s : State) (c : Nat) : (s.makeDue c).inactive = s.inactive := by
  unfold State.makeDue State.when; dsimp only; split <;> simp
@[simp] theorem State.makeDue_postcards (s : State) (c : Nat) : (s.makeDue c).postcards = s.postcards := by
  unfold State.makeDue State.when; dsimp only; split <;> simp
@[simp] theorem State.makeDue_out (s : State) (c : Nat) : (s.makeDue c).out = s.out := by
  unfold State.makeDue State.when; dsimp only; split <;> simp
@[simp] theorem State.makeDue_tap (s : State) (c : Nat) : (s.makeDue c).tap = s.tap := by
  unfold State.makeDue State.when; dsimp only; split <;> simp
@[simp] theorem State.makeDue_freeCtr (s : State) (c : Nat) : (s.makeDue c).freeCtr = s.freeCtr := by
  unfold State.makeDue State.when; dsimp only; split <;> simp
@[simp] theorem State.makeDue_pending (s : State) (c : Nat) : (s.makeDue c).pending = s.pending := by
  unfold State.makeDue State.when; dsimp only; split <;> simp

/-! ### Reads after the updates -/

theorem State.reg_setReg (s : State) (k v k' : Nat) : (s.setReg k v).reg k' = if k' = k then v else s.reg k' :=
  SMap.get_set _ _ _ _ _

@[simp] theorem State.reg_setReg_same (s : State) (k v : Nat) : (s.setReg k v).reg k = v := by
  simp [State.reg_setReg]

theorem State.reg_setReg_other (s : State) {k k' : Nat} (v : Nat) (h : k' ≠ k) : (s.setReg k v).reg k' = s.reg k' := by
  simp [State.reg_setReg, h]

theorem State.tab_setTab (s : State) (t i v t' i' : Nat) :
    (s.setTab t i v).tab t' i' = if tabKey t' i' = tabKey t i then v else s.tab t' i' :=
  SMap.get_set _ _ _ _ _

@[simp] theorem State.tab_setTab_same (s : State) (t i v : Nat) : (s.setTab t i v).tab t i = v := by
  simp [State.tab_setTab]

theorem State.byte_setByte (s : State) (a v a' : Nat) :
    (s.setByte a v).byte a' = if a' = a then v % 256 else s.byte a' := by
  unfold State.byte State.setByte
  simp only [SMap.get_set]
  split <;> simp [BitVec.toNat_ofNat]

theorem State.reg_bump (s : State) (k w n k' : Nat) :
    (s.bump k w n).reg k' = if k' = k then (s.reg k + n) % 2 ^ w else s.reg k' := State.reg_setReg _ _ _ _

theorem State.reg_bumpSat (s : State) (k w n k' : Nat) :
    (s.bumpSat k w n).reg k' = if k' = k then min (s.reg k + n) (2 ^ w - 1) else s.reg k' := State.reg_setReg _ _ _ _

theorem State.reg_drop (s : State) (k n k' : Nat) :
    (s.drop k n).reg k' = if k' = k then s.reg k - n else s.reg k' := State.reg_setReg _ _ _ _

/-- A flag set by hardware: the flag, its event count, nothing else (R101). -/
theorem State.reg_flag (s : State) (k i k' : Nat) :
    (s.flag k i).reg k' = if k' = k + 1 + i then ((if k' = k then setBit (s.reg k) i true else s.reg k') + 1) % 2 ^ 32
      else if k' = k then setBit (s.reg k) i true else s.reg k' := by
  unfold State.flag
  rw [State.reg_bump]
  split
  · next h => subst h; simp [State.reg_setReg]
  · simp [State.reg_setReg]

@[simp] theorem State.tab_setReg (s : State) (k v : Nat) (t' i' : Nat) : (s.setReg k v).tab t' i' = s.tab t' i' := by simp [State.tab]
@[simp] theorem State.byte_setReg (s : State) (k v : Nat) (a' : Nat) : (s.setReg k v).byte a' = s.byte a' := by simp [State.byte]
@[simp] theorem State.reg_setTab (s : State) (t i v : Nat) (k' : Nat) : (s.setTab t i v).reg k' = s.reg k' := by simp [State.reg]
@[simp] theorem State.byte_setTab (s : State) (t i v : Nat) (a' : Nat) : (s.setTab t i v).byte a' = s.byte a' := by simp [State.byte]
@[simp] theorem State.reg_setByte (s : State) (a v : Nat) (k' : Nat) : (s.setByte a v).reg k' = s.reg k' := by simp [State.reg]
@[simp] theorem State.tab_setByte (s : State) (a v : Nat) (t' i' : Nat) : (s.setByte a v).tab t' i' = s.tab t' i' := by simp [State.tab]
@[simp] theorem State.reg_clearTab (s : State) (t : Nat) (k' : Nat) : (s.clearTab t).reg k' = s.reg k' := by simp [State.reg]
@[simp] theorem State.byte_clearTab (s : State) (t : Nat) (a' : Nat) : (s.clearTab t).byte a' = s.byte a' := by simp [State.byte]
@[simp] theorem State.reg_clearTabRange (s : State) (t lo hi : Nat) (k' : Nat) : (s.clearTabRange t lo hi).reg k' = s.reg k' := by simp [State.reg]
@[simp] theorem State.byte_clearTabRange (s : State) (t lo hi : Nat) (a' : Nat) : (s.clearTabRange t lo hi).byte a' = s.byte a' := by simp [State.byte]
@[simp] theorem State.reg_zeroBytes (s : State) (lo hi : Nat) (k' : Nat) : (s.zeroBytes lo hi).reg k' = s.reg k' := by simp [State.reg]
@[simp] theorem State.tab_zeroBytes (s : State) (lo hi : Nat) (t' i' : Nat) : (s.zeroBytes lo hi).tab t' i' = s.tab t' i' := by simp [State.tab]
@[simp] theorem State.reg_emit (s : State) (o : Out) (k' : Nat) : (s.emit o).reg k' = s.reg k' := by simp [State.reg]
@[simp] theorem State.tab_emit (s : State) (o : Out) (t' i' : Nat) : (s.emit o).tab t' i' = s.tab t' i' := by simp [State.tab]
@[simp] theorem State.byte_emit (s : State) (o : Out) (a' : Nat) : (s.emit o).byte a' = s.byte a' := by simp [State.byte]
@[simp] theorem State.reg_drew (s : State) (k' : Nat) : (s.drew).reg k' = s.reg k' := by simp [State.reg]
@[simp] theorem State.tab_drew (s : State) (t' i' : Nat) : (s.drew).tab t' i' = s.tab t' i' := by simp [State.tab]
@[simp] theorem State.byte_drew (s : State) (a' : Nat) : (s.drew).byte a' = s.byte a' := by simp [State.byte]
@[simp] theorem State.tab_bump (s : State) (k w n : Nat) (t' i' : Nat) : (s.bump k w n).tab t' i' = s.tab t' i' := by simp [State.tab]
@[simp] theorem State.byte_bump (s : State) (k w n : Nat) (a' : Nat) : (s.bump k w n).byte a' = s.byte a' := by simp [State.byte]
@[simp] theorem State.tab_bumpSat (s : State) (k w n : Nat) (t' i' : Nat) : (s.bumpSat k w n).tab t' i' = s.tab t' i' := by simp [State.tab]
@[simp] theorem State.byte_bumpSat (s : State) (k w n : Nat) (a' : Nat) : (s.bumpSat k w n).byte a' = s.byte a' := by simp [State.byte]
@[simp] theorem State.tab_drop (s : State) (k n : Nat) (t' i' : Nat) : (s.drop k n).tab t' i' = s.tab t' i' := by simp [State.tab]
@[simp] theorem State.byte_drop (s : State) (k n : Nat) (a' : Nat) : (s.drop k n).byte a' = s.byte a' := by simp [State.byte]
@[simp] theorem State.tab_resetReg (s : State) (k : Nat) (t' i' : Nat) : (s.resetReg k).tab t' i' = s.tab t' i' := by simp [State.tab]
@[simp] theorem State.byte_resetReg (s : State) (k : Nat) (a' : Nat) : (s.resetReg k).byte a' = s.byte a' := by simp [State.byte]
@[simp] theorem State.reg_setSrcState (s : State) (n st : Nat) (k' : Nat) : (s.setSrcState n st).reg k' = s.reg k' := by simp [State.reg]
@[simp] theorem State.byte_setSrcState (s : State) (n st : Nat) (a' : Nat) : (s.setSrcState n st).byte a' = s.byte a' := by simp [State.byte]
@[simp] theorem State.reg_setClaimedBy (s : State) (n t : Nat) (k' : Nat) : (s.setClaimedBy n t).reg k' = s.reg k' := by simp [State.reg]
@[simp] theorem State.byte_setClaimedBy (s : State) (n t : Nat) (a' : Nat) : (s.setClaimedBy n t).byte a' = s.byte a' := by simp [State.byte]
@[simp] theorem State.reg_setCounter (s : State) (n v : Nat) (k' : Nat) : (s.setCounter n v).reg k' = s.reg k' := by simp [State.reg]
@[simp] theorem State.byte_setCounter (s : State) (n v : Nat) (a' : Nat) : (s.setCounter n v).byte a' = s.byte a' := by simp [State.byte]
@[simp] theorem State.tab_startTimer (s : State) (c : Nat) (t' i' : Nat) : (s.startTimer c).tab t' i' = s.tab t' i' := by simp [State.tab]
@[simp] theorem State.byte_startTimer (s : State) (c : Nat) (a' : Nat) : (s.startTimer c).byte a' = s.byte a' := by simp [State.byte]
@[simp] theorem State.tab_flag (s : State) (k i : Nat) (t' i' : Nat) : (s.flag k i).tab t' i' = s.tab t' i' := by simp [State.tab]
@[simp] theorem State.byte_flag (s : State) (k i : Nat) (a' : Nat) : (s.flag k i).byte a' = s.byte a' := by simp [State.byte]
@[simp] theorem State.reg_makeDue (s : State) (c : Nat) (k' : Nat) : (s.makeDue c).reg k' = s.reg k' := by simp [State.reg]
@[simp] theorem State.byte_makeDue (s : State) (c : Nat) (a' : Nat) : (s.makeDue c).byte a' = s.byte a' := by simp [State.byte]

end Sys2Proof.Machine
end

