-- ==== Sys2Proof/Laws/Ops.lean ====
section
/-!
SUPPORT. What the shared operations can do, said once: raising an interrupt, delivering it to the host, forming a
reply and ending a command touch only the interrupt registers, the interrupt tables, the attention and the ZDP
engine.
-/
namespace Sys2Proof.Machine

namespace Only

variable {R T : List Nat}

theorem refl (s : State) : Only R T s s := by
  constructor
  case watches => exact List.Sublist.refl _
  case bypass0 => exact List.prefix_rfl
  case bypass1 => exact List.prefix_rfl
  case mgmt => exact List.prefix_rfl
  all_goals intros; rfl

theorem trans {s t u : State} (h : Only R T s t) (g : Only R T t u) : Only R T s u := by
  constructor
  · intro k hk hq; rw [g.regs k hk hq, h.regs k hk hq]
  · intro n i hi hn hq; rw [g.tabs n i hi hn hq, h.tabs n i hi hn hq]
  case watches => exact g.watches.trans h.watches
  case bypass0 => exact h.bypass0.trans g.bypass0
  case bypass1 => exact h.bypass1.trans g.bypass1
  case mgmt => exact h.mgmt.trans g.mgmt
  all_goals simp [h.mem, h.stagings, h.clock, h.frames, h.copies, h.nextFrame, h.nextCopy, h.drr, h.fences, h.oldResv, h.oldBounds,
    h.gates, h.handoffs, h.built, h.inactive, h.postcards, h.out, h.tap, h.freeCtr, h.pending, g.mem, g.stagings, g.clock, g.frames,
    g.copies, g.nextFrame, g.nextCopy, g.drr, g.fences, g.oldResv, g.oldBounds, g.gates, g.handoffs, g.built, g.inactive, g.postcards,
    g.out, g.tap, g.freeCtr, g.pending, h.cache, h.closes, h.sessionless, h.arrived, g.cache, g.closes, g.sessionless, g.arrived]

/-- A frame that allows more. -/
theorem mono {s t : State} {R' T' : List Nat} (h : Only R T s t) (hR : ∀ k ∈ R, k ∈ R') (hT : ∀ n ∈ T, n ∈ T') :
    Only R' T' s t :=
  { h with
    regs := fun k hk => h.regs k fun hr => hk (hR k hr)
    tabs := fun n i hi hn => h.tabs n i hi fun ht => hn (hT n ht) }

theorem byte {s t : State} (h : Only R T s t) (a : Nat) : t.byte a = s.byte a := by
  unfold State.byte; rw [h.mem]

/-- A write of a register that is named, or that interrupts write. -/
theorem setReg (s : State) (k v : Nat) (hk : k ∈ R ∨ quietReg k = false) : Only R T s (s.setReg k v) := by
  constructor
  case regs =>
    intro k' hn h'
    rw [State.reg_setReg, if_neg]
    rintro rfl
    rcases hk with hk | hk
    · exact hn hk
    · rw [hk] at h'; cases h'
  all_goals simp

/-- A write of a table that is named, or that interrupts write. -/
theorem setTab (s : State) (t i v : Nat) (hi : i < 2 ^ 40) (ht : t ∈ T ∨ quietTab t = false) :
    Only R T s (s.setTab t i v) := by
  constructor
  case tabs =>
    intro n j hj hn h'
    rw [State.tab_setTab, if_neg]
    intro e
    have : n = t := by unfold tabKey at e; omega
    subst this
    rcases ht with ht | ht
    · exact hn ht
    · rw [ht] at h'; cases h'
  all_goals simp

theorem attn (s : State) (a : Attention) : Only R T s { s with attn := a } := by
  constructor
  case watches => exact List.Sublist.refl _
  case bypass0 => exact List.prefix_rfl
  case bypass1 => exact List.prefix_rfl
  case mgmt => exact List.prefix_rfl
  all_goals intros; rfl

/-- Replies queued, and watches that leave. -/
theorem zdp (s : State) (w : List Watch) (a b : List BypassFrame) (m : List Reply) (hw : w.Sublist s.zdp.watches) :
    Only R T s { s with zdp := { s.zdp with watches := w, bypass0 := s.zdp.bypass0 ++ a, bypass1 := s.zdp.bypass1 ++ b,
                                            mgmt := s.zdp.mgmt ++ m } } := by
  constructor
  case watches => exact hw
  case bypass0 => exact List.prefix_append _ _
  case bypass1 => exact List.prefix_append _ _
  case mgmt => exact List.prefix_append _ _
  all_goals intros; rfl

theorem when (s : State) (c : Bool) (f : State → State) (h : ∀ u, Only R T u (f u)) : Only R T s (s.when c f) := by
  unfold State.when; split
  · exact h s
  · exact refl s

theorem forAll {α : Type} (s : State) (l : List α) (f : State → α → State) (h : ∀ u, ∀ a ∈ l, Only R T u (f u a)) :
    Only R T s (s.forAll l f) := by
  induction l generalizing s with
  | nil => exact refl s
  | cons a l ih =>
    exact (h s a (by simp)).trans (ih (f s a) (fun u b hb => h u b (by simp [hb])))

/-! ### The interrupt operations -/

theorem not_reserved_lt {n : Nat} (h : IntCat.reserved n = false) : n < 2 ^ 40 := by
  apply Classical.byContradiction
  intro hn
  have : IntCat.groups.find? (fun g => g.lo ≤ n && n < g.lo + g.count) = none := by
    rw [List.find?_eq_none]
    have key : ∀ g ∈ IntCat.groups, g.lo + g.count ≤ 0x2000 := by decide
    intro g hg
    have := key g hg
    simp; omega
  rw [IntCat.reserved, IntCat.groupOf, this] at h
  cases h

theorem setSrcState (s : State) (n st : Nat) (h : n < 2 ^ 40) : Only R T s (s.setSrcState n st) :=
  setTab _ _ _ _ h (.inr (by decide))

theorem setClaimedBy (s : State) (n t : Nat) (h : n < 2 ^ 40) : Only R T s (s.setClaimedBy n t) :=
  setTab _ _ _ _ h (.inr (by decide))

theorem startTimer (s : State) (c : Nat) : Only R T s (s.startTimer c) := setReg _ _ _ (.inr (by decide))

theorem makeDue (s : State) (c : Nat) : Only R T s (s.makeDue c) := by
  unfold State.makeDue
  exact when _ _ _ fun _ => setTab _ _ _ _ (by decide) (.inr (by decide))

theorem offer (s : State) (n : Nat) : Only R T s (s.offer n) := by
  unfold State.offer; dsimp only
  split
  · split
    · exact makeDue _ _
    · exact startTimer _ _
  · exact refl _

/-- A trigger touches only interrupt state (R489). -/
theorem trigger (s : State) (n : Nat) : Only R T s (s.trigger n) := by
  unfold State.trigger
  split
  · exact refl _
  · next h =>
    have hn := not_reserved_lt (by simpa using h)
    have hb : Only R T s (s.bump Reg.INT_CONTROL.TRIGGERS 64) := setReg _ _ _ (.inr (by decide))
    dsimp only
    refine hb.trans ?_
    split
    · exact (setSrcState _ _ _ hn).trans (offer _ _)
    · split
      · exact setSrcState _ _ _ hn
      · exact (setTab _ _ _ _ hn (.inr (by decide))).trans (setReg _ _ _ (.inr (by decide)))

theorem setInput (s : State) (n : Nat) (b : Bool) (hn : n < 2 ^ 40) : Only R T s (s.setInput n b) := by
  unfold State.setInput; dsimp only
  refine (setTab s Tab.intState n (setBit (s.intElem n) 29 b) hn (.inr (by decide))).trans ?_
  split
  · split
    · exact trigger _ _
    · split
      · exact setSrcState _ _ _ hn
      · exact refl _
  · split
    · exact trigger _ _
    · exact refl _

theorem enqueueReply (s : State) (r : Reply) : Only R T s (s.enqueueReply r) := by
  unfold State.enqueueReply; split
  · simpa using zdp s s.zdp.watches [.zdp r] [] [] (List.Sublist.refl _)
  · split
    · simpa using zdp s s.zdp.watches [] [.zdp r] [] (List.Sublist.refl _)
    · simpa using zdp s s.zdp.watches [] [] [r] (List.Sublist.refl _)

/-- A reply is formed and queued, and nothing but the ZDP engine changes (R57). -/
theorem reply (s : State) (q : Request) (op result rflags detail : Nat) (data : Bytes) (session : Nat) (frees : Bool) :
    Only R T s (s.reply q op result rflags detail data session frees) := by
  unfold State.reply; dsimp only
  exact (when _ _ _ fun _ => setReg _ _ _ (.inr (by decide))).trans (enqueueReply _ _)

theorem answerWatch (s : State) (w : Watch) (f : Nat) : Only R T s (s.answerWatch w f) := by
  unfold State.answerWatch; dsimp only
  have h := zdp (R := R) (T := T) s (s.zdp.watches.erase w) [] [] [] (List.erase_sublist)
  simp only [List.append_nil] at h
  exact h.trans ((setReg _ _ _ (.inr (by decide))).trans (reply _ _ _ _ _ _ _ _ _))

theorem answerWatches (s : State) : Only R T s s.answerWatches := by
  unfold State.answerWatches
  refine forAll _ _ _ fun u n _ => ?_
  split
  · exact refl _
  · exact answerWatch _ _ _

theorem attend (s : State) (c source : Nat) : Only R T s (s.attend c source) := by
  unfold State.attend; dsimp only
  refine (attn s _).trans ((setTab _ _ _ _ ?_ (.inr (by decide))).trans (answerWatches _))
  omega

theorem countPlain (s : State) (n : Nat) (hn : n < 2 ^ 40) : Only R T s (s.countPlain n) := by
  unfold State.countPlain
  exact when _ _ _ fun _ => setTab _ _ _ _ hn (.inr (by decide))

theorem claimSrc (s : State) (n t : Nat) (hn : n < 2 ^ 40) (ht : Ctr.intTarget t 0 < 2 ^ 40) : Only R T s (s.claimSrc n t) := by
  unfold State.claimSrc
  exact (setSrcState _ _ _ hn).trans ((setClaimedBy _ _ _ hn).trans (countPlain _ _ ht))

theorem completeAtHost (s : State) (n : Nat) (hn : n < 2 ^ 40) : Only R T s (s.completeAtHost n) := by
  unfold State.completeAtHost; dsimp only
  exact (setSrcState _ _ _ hn).trans ((setClaimedBy _ _ _ hn).trans (when _ _ _ fun _ => startTimer _ _))

theorem deliver (s : State) (n : Nat) (hn : n < 2 ^ 40) : Only R T s (s.deliver n) := by
  unfold State.deliver
  exact (claimSrc _ _ _ hn (by decide)).trans ((attend _ _ _).trans (completeAtHost _ _ hn))

theorem claimable_lt {s : State} {t : Nat} {p : Nat → Bool} : ∀ n ∈ s.claimable t p, n < 2 ^ 40 := by
  intro n hn
  simp only [State.claimable, List.mem_flatMap, List.mem_filter, List.mem_map, State.tabList, SMap.between] at hn
  obtain ⟨_, _, ⟨⟨e, ⟨⟨f, ⟨_, hf⟩, rfl⟩, _⟩, rfl⟩, _⟩⟩ := hn
  simp [tabKey] at hf ⊢
  omega

theorem takeBatch (s : State) (c : Nat) : Only R T s (s.takeBatch c) := by
  unfold State.takeBatch; dsimp only
  refine (setReg s Reg.ATTN_MODERATION.TIMERS_RUNNING _ (.inr (by decide))).trans
    ((setReg _ Reg.ATTN_MODERATION.BATCHES _ (.inr (by decide))).trans (forAll _ _ _ fun u n hn => deliver u n (claimable_lt n hn)))

/-- What is due at the end of a command is delivered, and nothing else changes (R490, R495). -/
theorem deliverDue (s : State) : Only R T s s.deliverDue := by
  unfold State.deliverDue; dsimp only
  split
  · exact refl _
  · exact (setTab s Tab.attnDue 0 0 (by decide) (.inr (by decide))).trans
      (forAll _ _ _ fun _ _ _ => when _ _ _ fun _ => takeBatch _ _)

end Only

/-- A flag set by hardware with its trigger: registers other than the flag and its event count keep their values. -/
theorem State.reg_event (s : State) (k i n k' : Nat) (h : quietReg k' = true) :
    (s.event k i n).reg k' = (s.flag k i).reg k' :=
  (Only.trigger (R := []) (T := []) _ _).regs k' (by simp) h

/-- A command that ends answers the state with what was due delivered. -/
theorem State.done_eq (s : State) : s.done = .next s.deliverDue := rfl

end Sys2Proof.Machine
end

