-- ==== Sys2Proof/Laws/Quiet.lean ====
section
/-!
SUPPORT. What raising an interrupt, delivering it and forming a reply leave as it was, field by field, so that no proof opens them.
-/
namespace Sys2Proof.Machine

/-! ### trigger -/
@[simp] theorem State.trigger_mem (s : State) (n : Nat) : (s.trigger n).mem = s.mem :=
  (Only.trigger _ _ : Only [] [] s _).mem
@[simp] theorem State.trigger_stagings (s : State) (n : Nat) : (s.trigger n).stagings = s.stagings :=
  (Only.trigger _ _ : Only [] [] s _).stagings
@[simp] theorem State.trigger_clock (s : State) (n : Nat) : (s.trigger n).clock = s.clock :=
  (Only.trigger _ _ : Only [] [] s _).clock
@[simp] theorem State.trigger_frames (s : State) (n : Nat) : (s.trigger n).frames = s.frames :=
  (Only.trigger _ _ : Only [] [] s _).frames
@[simp] theorem State.trigger_copies (s : State) (n : Nat) : (s.trigger n).copies = s.copies :=
  (Only.trigger _ _ : Only [] [] s _).copies
@[simp] theorem State.trigger_nextFrame (s : State) (n : Nat) : (s.trigger n).nextFrame = s.nextFrame :=
  (Only.trigger _ _ : Only [] [] s _).nextFrame
@[simp] theorem State.trigger_nextCopy (s : State) (n : Nat) : (s.trigger n).nextCopy = s.nextCopy :=
  (Only.trigger _ _ : Only [] [] s _).nextCopy
@[simp] theorem State.trigger_drr (s : State) (n : Nat) : (s.trigger n).drr = s.drr :=
  (Only.trigger _ _ : Only [] [] s _).drr
@[simp] theorem State.trigger_fences (s : State) (n : Nat) : (s.trigger n).fences = s.fences :=
  (Only.trigger _ _ : Only [] [] s _).fences
@[simp] theorem State.trigger_oldResv (s : State) (n : Nat) : (s.trigger n).oldResv = s.oldResv :=
  (Only.trigger _ _ : Only [] [] s _).oldResv
@[simp] theorem State.trigger_gates (s : State) (n : Nat) : (s.trigger n).gates = s.gates :=
  (Only.trigger _ _ : Only [] [] s _).gates
@[simp] theorem State.trigger_handoffs (s : State) (n : Nat) : (s.trigger n).handoffs = s.handoffs :=
  (Only.trigger _ _ : Only [] [] s _).handoffs
@[simp] theorem State.trigger_built (s : State) (n : Nat) : (s.trigger n).built = s.built :=
  (Only.trigger _ _ : Only [] [] s _).built
@[simp] theorem State.trigger_inactive (s : State) (n : Nat) : (s.trigger n).inactive = s.inactive :=
  (Only.trigger _ _ : Only [] [] s _).inactive
@[simp] theorem State.trigger_postcards (s : State) (n : Nat) : (s.trigger n).postcards = s.postcards :=
  (Only.trigger _ _ : Only [] [] s _).postcards
@[simp] theorem State.trigger_out (s : State) (n : Nat) : (s.trigger n).out = s.out :=
  (Only.trigger _ _ : Only [] [] s _).out
@[simp] theorem State.trigger_freeCtr (s : State) (n : Nat) : (s.trigger n).freeCtr = s.freeCtr :=
  (Only.trigger _ _ : Only [] [] s _).freeCtr
@[simp] theorem State.trigger_pending (s : State) (n : Nat) : (s.trigger n).pending = s.pending :=
  (Only.trigger _ _ : Only [] [] s _).pending
theorem State.reg_trigger (s : State) (n : Nat) {k : Nat} (h : quietReg k = true) : (s.trigger n).reg k = s.reg k :=
  (Only.trigger _ _ : Only [] [] s _).regs k (by simp) h
theorem State.tab_trigger (s : State) (n : Nat) {t i : Nat} (hi : i < 2 ^ 40) (h : quietTab t = true) : (s.trigger n).tab t i = s.tab t i :=
  (Only.trigger _ _ : Only [] [] s _).tabs t i hi (by simp) h
@[simp] theorem State.byte_trigger (s : State) (n : Nat) (x : Nat) : (s.trigger n).byte x = s.byte x :=
  (Only.trigger _ _ : Only [] [] s _).byte x
/-! ### deliverDue -/
@[simp] theorem State.deliverDue_mem (s : State) : (s.deliverDue).mem = s.mem :=
  (Only.deliverDue _ : Only [] [] s _).mem
@[simp] theorem State.deliverDue_stagings (s : State) : (s.deliverDue).stagings = s.stagings :=
  (Only.deliverDue _ : Only [] [] s _).stagings
@[simp] theorem State.deliverDue_clock (s : State) : (s.deliverDue).clock = s.clock :=
  (Only.deliverDue _ : Only [] [] s _).clock
@[simp] theorem State.deliverDue_frames (s : State) : (s.deliverDue).frames = s.frames :=
  (Only.deliverDue _ : Only [] [] s _).frames
@[simp] theorem State.deliverDue_copies (s : State) : (s.deliverDue).copies = s.copies :=
  (Only.deliverDue _ : Only [] [] s _).copies
@[simp] theorem State.deliverDue_nextFrame (s : State) : (s.deliverDue).nextFrame = s.nextFrame :=
  (Only.deliverDue _ : Only [] [] s _).nextFrame
@[simp] theorem State.deliverDue_nextCopy (s : State) : (s.deliverDue).nextCopy = s.nextCopy :=
  (Only.deliverDue _ : Only [] [] s _).nextCopy
@[simp] theorem State.deliverDue_drr (s : State) : (s.deliverDue).drr = s.drr :=
  (Only.deliverDue _ : Only [] [] s _).drr
@[simp] theorem State.deliverDue_fences (s : State) : (s.deliverDue).fences = s.fences :=
  (Only.deliverDue _ : Only [] [] s _).fences
@[simp] theorem State.deliverDue_oldResv (s : State) : (s.deliverDue).oldResv = s.oldResv :=
  (Only.deliverDue _ : Only [] [] s _).oldResv
@[simp] theorem State.deliverDue_gates (s : State) : (s.deliverDue).gates = s.gates :=
  (Only.deliverDue _ : Only [] [] s _).gates
@[simp] theorem State.deliverDue_handoffs (s : State) : (s.deliverDue).handoffs = s.handoffs :=
  (Only.deliverDue _ : Only [] [] s _).handoffs
@[simp] theorem State.deliverDue_built (s : State) : (s.deliverDue).built = s.built :=
  (Only.deliverDue _ : Only [] [] s _).built
@[simp] theorem State.deliverDue_inactive (s : State) : (s.deliverDue).inactive = s.inactive :=
  (Only.deliverDue _ : Only [] [] s _).inactive
@[simp] theorem State.deliverDue_postcards (s : State) : (s.deliverDue).postcards = s.postcards :=
  (Only.deliverDue _ : Only [] [] s _).postcards
@[simp] theorem State.deliverDue_out (s : State) : (s.deliverDue).out = s.out :=
  (Only.deliverDue _ : Only [] [] s _).out
@[simp] theorem State.deliverDue_freeCtr (s : State) : (s.deliverDue).freeCtr = s.freeCtr :=
  (Only.deliverDue _ : Only [] [] s _).freeCtr
@[simp] theorem State.deliverDue_pending (s : State) : (s.deliverDue).pending = s.pending :=
  (Only.deliverDue _ : Only [] [] s _).pending
theorem State.reg_deliverDue (s : State) {k : Nat} (h : quietReg k = true) : (s.deliverDue).reg k = s.reg k :=
  (Only.deliverDue _ : Only [] [] s _).regs k (by simp) h
theorem State.tab_deliverDue (s : State) {t i : Nat} (hi : i < 2 ^ 40) (h : quietTab t = true) : (s.deliverDue).tab t i = s.tab t i :=
  (Only.deliverDue _ : Only [] [] s _).tabs t i hi (by simp) h
@[simp] theorem State.byte_deliverDue (s : State) (x : Nat) : (s.deliverDue).byte x = s.byte x :=
  (Only.deliverDue _ : Only [] [] s _).byte x
/-! ### attend -/
@[simp] theorem State.attend_mem (s : State) (c n : Nat) : (s.attend c n).mem = s.mem :=
  (Only.attend _ _ _ : Only [] [] s _).mem
@[simp] theorem State.attend_stagings (s : State) (c n : Nat) : (s.attend c n).stagings = s.stagings :=
  (Only.attend _ _ _ : Only [] [] s _).stagings
@[simp] theorem State.attend_clock (s : State) (c n : Nat) : (s.attend c n).clock = s.clock :=
  (Only.attend _ _ _ : Only [] [] s _).clock
@[simp] theorem State.attend_frames (s : State) (c n : Nat) : (s.attend c n).frames = s.frames :=
  (Only.attend _ _ _ : Only [] [] s _).frames
@[simp] theorem State.attend_copies (s : State) (c n : Nat) : (s.attend c n).copies = s.copies :=
  (Only.attend _ _ _ : Only [] [] s _).copies
@[simp] theorem State.attend_nextFrame (s : State) (c n : Nat) : (s.attend c n).nextFrame = s.nextFrame :=
  (Only.attend _ _ _ : Only [] [] s _).nextFrame
@[simp] theorem State.attend_nextCopy (s : State) (c n : Nat) : (s.attend c n).nextCopy = s.nextCopy :=
  (Only.attend _ _ _ : Only [] [] s _).nextCopy
@[simp] theorem State.attend_drr (s : State) (c n : Nat) : (s.attend c n).drr = s.drr :=
  (Only.attend _ _ _ : Only [] [] s _).drr
@[simp] theorem State.attend_fences (s : State) (c n : Nat) : (s.attend c n).fences = s.fences :=
  (Only.attend _ _ _ : Only [] [] s _).fences
@[simp] theorem State.attend_oldResv (s : State) (c n : Nat) : (s.attend c n).oldResv = s.oldResv :=
  (Only.attend _ _ _ : Only [] [] s _).oldResv
@[simp] theorem State.attend_gates (s : State) (c n : Nat) : (s.attend c n).gates = s.gates :=
  (Only.attend _ _ _ : Only [] [] s _).gates
@[simp] theorem State.attend_handoffs (s : State) (c n : Nat) : (s.attend c n).handoffs = s.handoffs :=
  (Only.attend _ _ _ : Only [] [] s _).handoffs
@[simp] theorem State.attend_built (s : State) (c n : Nat) : (s.attend c n).built = s.built :=
  (Only.attend _ _ _ : Only [] [] s _).built
@[simp] theorem State.attend_inactive (s : State) (c n : Nat) : (s.attend c n).inactive = s.inactive :=
  (Only.attend _ _ _ : Only [] [] s _).inactive
@[simp] theorem State.attend_postcards (s : State) (c n : Nat) : (s.attend c n).postcards = s.postcards :=
  (Only.attend _ _ _ : Only [] [] s _).postcards
@[simp] theorem State.attend_out (s : State) (c n : Nat) : (s.attend c n).out = s.out :=
  (Only.attend _ _ _ : Only [] [] s _).out
@[simp] theorem State.attend_freeCtr (s : State) (c n : Nat) : (s.attend c n).freeCtr = s.freeCtr :=
  (Only.attend _ _ _ : Only [] [] s _).freeCtr
@[simp] theorem State.attend_pending (s : State) (c n : Nat) : (s.attend c n).pending = s.pending :=
  (Only.attend _ _ _ : Only [] [] s _).pending
theorem State.reg_attend (s : State) (c n : Nat) {k : Nat} (h : quietReg k = true) : (s.attend c n).reg k = s.reg k :=
  (Only.attend _ _ _ : Only [] [] s _).regs k (by simp) h
theorem State.tab_attend (s : State) (c n : Nat) {t i : Nat} (hi : i < 2 ^ 40) (h : quietTab t = true) : (s.attend c n).tab t i = s.tab t i :=
  (Only.attend _ _ _ : Only [] [] s _).tabs t i hi (by simp) h
@[simp] theorem State.byte_attend (s : State) (c n : Nat) (x : Nat) : (s.attend c n).byte x = s.byte x :=
  (Only.attend _ _ _ : Only [] [] s _).byte x
/-! ### takeBatch -/
@[simp] theorem State.takeBatch_mem (s : State) (c : Nat) : (s.takeBatch c).mem = s.mem :=
  (Only.takeBatch _ _ : Only [] [] s _).mem
@[simp] theorem State.takeBatch_stagings (s : State) (c : Nat) : (s.takeBatch c).stagings = s.stagings :=
  (Only.takeBatch _ _ : Only [] [] s _).stagings
@[simp] theorem State.takeBatch_clock (s : State) (c : Nat) : (s.takeBatch c).clock = s.clock :=
  (Only.takeBatch _ _ : Only [] [] s _).clock
@[simp] theorem State.takeBatch_frames (s : State) (c : Nat) : (s.takeBatch c).frames = s.frames :=
  (Only.takeBatch _ _ : Only [] [] s _).frames
@[simp] theorem State.takeBatch_copies (s : State) (c : Nat) : (s.takeBatch c).copies = s.copies :=
  (Only.takeBatch _ _ : Only [] [] s _).copies
@[simp] theorem State.takeBatch_nextFrame (s : State) (c : Nat) : (s.takeBatch c).nextFrame = s.nextFrame :=
  (Only.takeBatch _ _ : Only [] [] s _).nextFrame
@[simp] theorem State.takeBatch_nextCopy (s : State) (c : Nat) : (s.takeBatch c).nextCopy = s.nextCopy :=
  (Only.takeBatch _ _ : Only [] [] s _).nextCopy
@[simp] theorem State.takeBatch_drr (s : State) (c : Nat) : (s.takeBatch c).drr = s.drr :=
  (Only.takeBatch _ _ : Only [] [] s _).drr
@[simp] theorem State.takeBatch_fences (s : State) (c : Nat) : (s.takeBatch c).fences = s.fences :=
  (Only.takeBatch _ _ : Only [] [] s _).fences
@[simp] theorem State.takeBatch_oldResv (s : State) (c : Nat) : (s.takeBatch c).oldResv = s.oldResv :=
  (Only.takeBatch _ _ : Only [] [] s _).oldResv
@[simp] theorem State.takeBatch_gates (s : State) (c : Nat) : (s.takeBatch c).gates = s.gates :=
  (Only.takeBatch _ _ : Only [] [] s _).gates
@[simp] theorem State.takeBatch_handoffs (s : State) (c : Nat) : (s.takeBatch c).handoffs = s.handoffs :=
  (Only.takeBatch _ _ : Only [] [] s _).handoffs
@[simp] theorem State.takeBatch_built (s : State) (c : Nat) : (s.takeBatch c).built = s.built :=
  (Only.takeBatch _ _ : Only [] [] s _).built
@[simp] theorem State.takeBatch_inactive (s : State) (c : Nat) : (s.takeBatch c).inactive = s.inactive :=
  (Only.takeBatch _ _ : Only [] [] s _).inactive
@[simp] theorem State.takeBatch_postcards (s : State) (c : Nat) : (s.takeBatch c).postcards = s.postcards :=
  (Only.takeBatch _ _ : Only [] [] s _).postcards
@[simp] theorem State.takeBatch_out (s : State) (c : Nat) : (s.takeBatch c).out = s.out :=
  (Only.takeBatch _ _ : Only [] [] s _).out
@[simp] theorem State.takeBatch_freeCtr (s : State) (c : Nat) : (s.takeBatch c).freeCtr = s.freeCtr :=
  (Only.takeBatch _ _ : Only [] [] s _).freeCtr
@[simp] theorem State.takeBatch_pending (s : State) (c : Nat) : (s.takeBatch c).pending = s.pending :=
  (Only.takeBatch _ _ : Only [] [] s _).pending
theorem State.reg_takeBatch (s : State) (c : Nat) {k : Nat} (h : quietReg k = true) : (s.takeBatch c).reg k = s.reg k :=
  (Only.takeBatch _ _ : Only [] [] s _).regs k (by simp) h
theorem State.tab_takeBatch (s : State) (c : Nat) {t i : Nat} (hi : i < 2 ^ 40) (h : quietTab t = true) : (s.takeBatch c).tab t i = s.tab t i :=
  (Only.takeBatch _ _ : Only [] [] s _).tabs t i hi (by simp) h
@[simp] theorem State.byte_takeBatch (s : State) (c : Nat) (x : Nat) : (s.takeBatch c).byte x = s.byte x :=
  (Only.takeBatch _ _ : Only [] [] s _).byte x
/-! ### reply -/
@[simp] theorem State.reply_mem (s : State) (q : Request) (a b c d : Nat) (e : Bytes) (f : Nat) (g : Bool) : (s.reply q a b c d e f g).mem = s.mem :=
  (Only.reply _ _ _ _ _ _ _ _ _ : Only [] [] s _).mem
@[simp] theorem State.reply_stagings (s : State) (q : Request) (a b c d : Nat) (e : Bytes) (f : Nat) (g : Bool) : (s.reply q a b c d e f g).stagings = s.stagings :=
  (Only.reply _ _ _ _ _ _ _ _ _ : Only [] [] s _).stagings
@[simp] theorem State.reply_clock (s : State) (q : Request) (a b c d : Nat) (e : Bytes) (f : Nat) (g : Bool) : (s.reply q a b c d e f g).clock = s.clock :=
  (Only.reply _ _ _ _ _ _ _ _ _ : Only [] [] s _).clock
@[simp] theorem State.reply_frames (s : State) (q : Request) (a b c d : Nat) (e : Bytes) (f : Nat) (g : Bool) : (s.reply q a b c d e f g).frames = s.frames :=
  (Only.reply _ _ _ _ _ _ _ _ _ : Only [] [] s _).frames
@[simp] theorem State.reply_copies (s : State) (q : Request) (a b c d : Nat) (e : Bytes) (f : Nat) (g : Bool) : (s.reply q a b c d e f g).copies = s.copies :=
  (Only.reply _ _ _ _ _ _ _ _ _ : Only [] [] s _).copies
@[simp] theorem State.reply_nextFrame (s : State) (q : Request) (a b c d : Nat) (e : Bytes) (f : Nat) (g : Bool) : (s.reply q a b c d e f g).nextFrame = s.nextFrame :=
  (Only.reply _ _ _ _ _ _ _ _ _ : Only [] [] s _).nextFrame
@[simp] theorem State.reply_nextCopy (s : State) (q : Request) (a b c d : Nat) (e : Bytes) (f : Nat) (g : Bool) : (s.reply q a b c d e f g).nextCopy = s.nextCopy :=
  (Only.reply _ _ _ _ _ _ _ _ _ : Only [] [] s _).nextCopy
@[simp] theorem State.reply_drr (s : State) (q : Request) (a b c d : Nat) (e : Bytes) (f : Nat) (g : Bool) : (s.reply q a b c d e f g).drr = s.drr :=
  (Only.reply _ _ _ _ _ _ _ _ _ : Only [] [] s _).drr
@[simp] theorem State.reply_fences (s : State) (q : Request) (a b c d : Nat) (e : Bytes) (f : Nat) (g : Bool) : (s.reply q a b c d e f g).fences = s.fences :=
  (Only.reply _ _ _ _ _ _ _ _ _ : Only [] [] s _).fences
@[simp] theorem State.reply_oldResv (s : State) (q : Request) (a b c d : Nat) (e : Bytes) (f : Nat) (g : Bool) : (s.reply q a b c d e f g).oldResv = s.oldResv :=
  (Only.reply _ _ _ _ _ _ _ _ _ : Only [] [] s _).oldResv
@[simp] theorem State.reply_gates (s : State) (q : Request) (a b c d : Nat) (e : Bytes) (f : Nat) (g : Bool) : (s.reply q a b c d e f g).gates = s.gates :=
  (Only.reply _ _ _ _ _ _ _ _ _ : Only [] [] s _).gates
@[simp] theorem State.reply_handoffs (s : State) (q : Request) (a b c d : Nat) (e : Bytes) (f : Nat) (g : Bool) : (s.reply q a b c d e f g).handoffs = s.handoffs :=
  (Only.reply _ _ _ _ _ _ _ _ _ : Only [] [] s _).handoffs
@[simp] theorem State.reply_built (s : State) (q : Request) (a b c d : Nat) (e : Bytes) (f : Nat) (g : Bool) : (s.reply q a b c d e f g).built = s.built :=
  (Only.reply _ _ _ _ _ _ _ _ _ : Only [] [] s _).built
@[simp] theorem State.reply_inactive (s : State) (q : Request) (a b c d : Nat) (e : Bytes) (f : Nat) (g : Bool) : (s.reply q a b c d e f g).inactive = s.inactive :=
  (Only.reply _ _ _ _ _ _ _ _ _ : Only [] [] s _).inactive
@[simp] theorem State.reply_postcards (s : State) (q : Request) (a b c d : Nat) (e : Bytes) (f : Nat) (g : Bool) : (s.reply q a b c d e f g).postcards = s.postcards :=
  (Only.reply _ _ _ _ _ _ _ _ _ : Only [] [] s _).postcards
@[simp] theorem State.reply_out (s : State) (q : Request) (a b c d : Nat) (e : Bytes) (f : Nat) (g : Bool) : (s.reply q a b c d e f g).out = s.out :=
  (Only.reply _ _ _ _ _ _ _ _ _ : Only [] [] s _).out
@[simp] theorem State.reply_freeCtr (s : State) (q : Request) (a b c d : Nat) (e : Bytes) (f : Nat) (g : Bool) : (s.reply q a b c d e f g).freeCtr = s.freeCtr :=
  (Only.reply _ _ _ _ _ _ _ _ _ : Only [] [] s _).freeCtr
@[simp] theorem State.reply_pending (s : State) (q : Request) (a b c d : Nat) (e : Bytes) (f : Nat) (g : Bool) : (s.reply q a b c d e f g).pending = s.pending :=
  (Only.reply _ _ _ _ _ _ _ _ _ : Only [] [] s _).pending
theorem State.reg_reply (s : State) (q : Request) (a b c d : Nat) (e : Bytes) (f : Nat) (g : Bool) {k : Nat} (h : quietReg k = true) : (s.reply q a b c d e f g).reg k = s.reg k :=
  (Only.reply _ _ _ _ _ _ _ _ _ : Only [] [] s _).regs k (by simp) h
theorem State.tab_reply (s : State) (q : Request) (a b c d : Nat) (e : Bytes) (f : Nat) (g : Bool) {t i : Nat} (hi : i < 2 ^ 40) (h : quietTab t = true) : (s.reply q a b c d e f g).tab t i = s.tab t i :=
  (Only.reply _ _ _ _ _ _ _ _ _ : Only [] [] s _).tabs t i hi (by simp) h
@[simp] theorem State.byte_reply (s : State) (q : Request) (a b c d : Nat) (e : Bytes) (f : Nat) (g : Bool) (x : Nat) : (s.reply q a b c d e f g).byte x = s.byte x :=
  (Only.reply _ _ _ _ _ _ _ _ _ : Only [] [] s _).byte x
/-! ### answerWatch -/
@[simp] theorem State.answerWatch_mem (s : State) (w : Watch) (f : Nat) : (s.answerWatch w f).mem = s.mem :=
  (Only.answerWatch _ _ _ : Only [] [] s _).mem
@[simp] theorem State.answerWatch_stagings (s : State) (w : Watch) (f : Nat) : (s.answerWatch w f).stagings = s.stagings :=
  (Only.answerWatch _ _ _ : Only [] [] s _).stagings
@[simp] theorem State.answerWatch_clock (s : State) (w : Watch) (f : Nat) : (s.answerWatch w f).clock = s.clock :=
  (Only.answerWatch _ _ _ : Only [] [] s _).clock
@[simp] theorem State.answerWatch_frames (s : State) (w : Watch) (f : Nat) : (s.answerWatch w f).frames = s.frames :=
  (Only.answerWatch _ _ _ : Only [] [] s _).frames
@[simp] theorem State.answerWatch_copies (s : State) (w : Watch) (f : Nat) : (s.answerWatch w f).copies = s.copies :=
  (Only.answerWatch _ _ _ : Only [] [] s _).copies
@[simp] theorem State.answerWatch_nextFrame (s : State) (w : Watch) (f : Nat) : (s.answerWatch w f).nextFrame = s.nextFrame :=
  (Only.answerWatch _ _ _ : Only [] [] s _).nextFrame
@[simp] theorem State.answerWatch_nextCopy (s : State) (w : Watch) (f : Nat) : (s.answerWatch w f).nextCopy = s.nextCopy :=
  (Only.answerWatch _ _ _ : Only [] [] s _).nextCopy
@[simp] theorem State.answerWatch_drr (s : State) (w : Watch) (f : Nat) : (s.answerWatch w f).drr = s.drr :=
  (Only.answerWatch _ _ _ : Only [] [] s _).drr
@[simp] theorem State.answerWatch_fences (s : State) (w : Watch) (f : Nat) : (s.answerWatch w f).fences = s.fences :=
  (Only.answerWatch _ _ _ : Only [] [] s _).fences
@[simp] theorem State.answerWatch_oldResv (s : State) (w : Watch) (f : Nat) : (s.answerWatch w f).oldResv = s.oldResv :=
  (Only.answerWatch _ _ _ : Only [] [] s _).oldResv
@[simp] theorem State.answerWatch_gates (s : State) (w : Watch) (f : Nat) : (s.answerWatch w f).gates = s.gates :=
  (Only.answerWatch _ _ _ : Only [] [] s _).gates
@[simp] theorem State.answerWatch_handoffs (s : State) (w : Watch) (f : Nat) : (s.answerWatch w f).handoffs = s.handoffs :=
  (Only.answerWatch _ _ _ : Only [] [] s _).handoffs
@[simp] theorem State.answerWatch_built (s : State) (w : Watch) (f : Nat) : (s.answerWatch w f).built = s.built :=
  (Only.answerWatch _ _ _ : Only [] [] s _).built
@[simp] theorem State.answerWatch_inactive (s : State) (w : Watch) (f : Nat) : (s.answerWatch w f).inactive = s.inactive :=
  (Only.answerWatch _ _ _ : Only [] [] s _).inactive
@[simp] theorem State.answerWatch_postcards (s : State) (w : Watch) (f : Nat) : (s.answerWatch w f).postcards = s.postcards :=
  (Only.answerWatch _ _ _ : Only [] [] s _).postcards
@[simp] theorem State.answerWatch_out (s : State) (w : Watch) (f : Nat) : (s.answerWatch w f).out = s.out :=
  (Only.answerWatch _ _ _ : Only [] [] s _).out
@[simp] theorem State.answerWatch_freeCtr (s : State) (w : Watch) (f : Nat) : (s.answerWatch w f).freeCtr = s.freeCtr :=
  (Only.answerWatch _ _ _ : Only [] [] s _).freeCtr
@[simp] theorem State.answerWatch_pending (s : State) (w : Watch) (f : Nat) : (s.answerWatch w f).pending = s.pending :=
  (Only.answerWatch _ _ _ : Only [] [] s _).pending
theorem State.reg_answerWatch (s : State) (w : Watch) (f : Nat) {k : Nat} (h : quietReg k = true) : (s.answerWatch w f).reg k = s.reg k :=
  (Only.answerWatch _ _ _ : Only [] [] s _).regs k (by simp) h
theorem State.tab_answerWatch (s : State) (w : Watch) (f : Nat) {t i : Nat} (hi : i < 2 ^ 40) (h : quietTab t = true) : (s.answerWatch w f).tab t i = s.tab t i :=
  (Only.answerWatch _ _ _ : Only [] [] s _).tabs t i hi (by simp) h
@[simp] theorem State.byte_answerWatch (s : State) (w : Watch) (f : Nat) (x : Nat) : (s.answerWatch w f).byte x = s.byte x :=
  (Only.answerWatch _ _ _ : Only [] [] s _).byte x

/-- The registers that interrupts write, by number. -/
theorem quietReg_iff (k : Nat) : quietReg k = true ↔
    k ≠ 0x080003 ∧ k ≠ 0x080004 ∧ k ≠ 0x08A009 ∧ k ≠ 0x08A00A ∧ k ≠ 0x010104 ∧ k ≠ 0x01010A
    ∧ k ≠ 0xA00003 ∧ k ≠ 0xA00005 ∧ k ≠ 0xA00006 := by
  simp [quietReg, and_assoc]

theorem State.tab_setTab_table (s : State) {t t' i i' : Nat} (v : Nat) (h : t' ≠ t) (hi : i < 2 ^ 40) (hi' : i' < 2 ^ 40) :
    (s.setTab t i v).tab t' i' = s.tab t' i' := by
  rw [State.tab_setTab, if_neg]
  unfold tabKey; omega

theorem State.tab_clearTabRange_table (s : State) {t t' lo hi i' : Nat} (h : t' ≠ t) (hi' : i' < 2 ^ 40) :
    (s.clearTabRange t lo hi).tab t' i' = s.tab t' i' := by
  unfold State.tab State.clearTabRange
  dsimp only
  rw [SMap.get_clearRange, if_neg]
  rintro ⟨h1, h2⟩
  exact h (by unfold tabKey at h1 h2; omega)

/-- A range of a table cleared changes that table only. -/
theorem Only.clearTabRange {R T : List Nat} (s : State) (t lo hi : Nat) (h : t ∈ T) : Only R T s (s.clearTabRange t lo hi) where
  regs _ _ _ := rfl
  tabs n i hi' hn _ := State.tab_clearTabRange_table s (fun e => hn (e ▸ h)) hi'
  mem := rfl
  stagings := rfl
  clock := rfl
  frames := rfl
  copies := rfl
  nextFrame := rfl
  nextCopy := rfl
  drr := rfl
  fences := rfl
  oldResv := rfl
  oldBounds := rfl
  gates := rfl
  handoffs := rfl
  built := rfl
  inactive := rfl
  postcards := rfl
  out := rfl
  tap := rfl
  freeCtr := rfl
  pending := rfl
  cache := rfl
  closes := rfl
  sessionless := rfl
  arrived := rfl
  watches := List.Sublist.refl _
  bypass0 := List.prefix_refl _
  bypass1 := List.prefix_refl _
  mgmt := List.prefix_refl _

theorem State.tab_setTab_index (s : State) {t i i' : Nat} (v : Nat) (h : i' ≠ i) : (s.setTab t i v).tab t i' = s.tab t i' := by
  rw [State.tab_setTab, if_neg]
  unfold tabKey; omega

end Sys2Proof.Machine
end

