-- ==== Sys2Proof/Laws/Image.lean ====
section
/-!
SUPPORT. Octets written all at once read back, and every other byte of memory reads as before.
-/
namespace Sys2Proof.Machine

theorem byteCells_get (b : Bytes) (a k : Nat) :
    SMap.get memDflt (byteCells a b) k = if a ≤ k ∧ k < a + b.length then BitVec.ofNat 8 (b.getD (k - a) 0) else memDflt k := by
  induction b generalizing a with
  | nil => simp only [byteCells, SMap.get, List.length_nil]; rw [if_neg (by omega)]
  | cons x t ih =>
    have key : SMap.get memDflt (byteCells (a + 1) t) k
        = if a + 1 ≤ k ∧ k < a + 1 + t.length then BitVec.ofNat 8 (t.getD (k - (a + 1)) 0) else memDflt k := ih (a + 1)
    by_cases hk : k = a
    · subst hk
      rw [if_pos (by simp)]
      rw [byteCells]
      split
      · next h => rw [key, if_neg (by omega)]; simpa [memDflt] using h.symm
      · simp [SMap.get]
    · have hl : (x :: t).length = t.length + 1 := rfl
      have : SMap.get memDflt (byteCells a (x :: t)) k = SMap.get memDflt (byteCells (a + 1) t) k := by
        rw [byteCells]
        split
        · rfl
        · simp [SMap.get, hk]
      rw [this, key, hl]
      by_cases hin : a + 1 ≤ k ∧ k < a + 1 + t.length
      · rw [if_pos hin, if_pos (by omega)]
        have : k - a = (k - (a + 1)) + 1 := by omega
        rw [this, List.getD_cons_succ]
      · rw [if_neg hin, if_neg (by omega)]

theorem SMap.get_append {α : Type} (d : Nat → α) (m n : SMap α) (k : Nat) (h : ∀ e ∈ m, e.1 ≠ k) :
    SMap.get d (m ++ n) k = SMap.get d n k := by
  induction m with
  | nil => rfl
  | cons e t ih =>
    obtain ⟨a, v⟩ := e
    have : k ≠ a := fun e => h (a, v) (by simp) e.symm
    simp only [List.cons_append, SMap.get, this, if_false]
    exact ih fun e he => h e (by simp [he])

theorem SMap.get_append_right {α : Type} (d : Nat → α) (m n : SMap α) (k : Nat) (h : ∀ e ∈ n, e.1 ≠ k) :
    SMap.get d (m ++ n) k = SMap.get d m k := by
  induction m with
  | nil =>
    induction n with
    | nil => rfl
    | cons e t ih =>
      obtain ⟨a, v⟩ := e
      have : k ≠ a := fun e => h (a, v) (by simp) e.symm
      simp only [List.nil_append, SMap.get, this, if_false]
      exact ih fun e he => h e (by simp [he])
  | cons e t ih =>
    obtain ⟨a, v⟩ := e
    simp only [List.cons_append, SMap.get]
    split
    · rfl
    · exact ih

theorem byteCells_keys (b : Bytes) (a : Nat) : ∀ e ∈ byteCells a b, a ≤ e.1 ∧ e.1 < a + b.length := by
  induction b generalizing a with
  | nil => simp [byteCells]
  | cons x t ih =>
    intro e he
    have hl : (x :: t).length = t.length + 1 := rfl
    rw [byteCells] at he
    split at he
    · have := ih (a + 1) e he; omega
    · rcases List.mem_cons.mp he with rfl | he
      · dsimp only; omega
      · have := ih (a + 1) e he; omega

/-- A byte after octets were written. -/
theorem State.byte_putBytes (s : State) (a : Nat) (b : Bytes) (k : Nat) :
    (s.putBytes a b).byte k = if a ≤ k ∧ k < a + b.length then b.getD (k - a) 0 % 256 else s.byte k := by
  unfold State.byte State.putBytes SMap.splice
  dsimp only
  have f1 := SMap.get_filter memDflt s.mem (fun e => decide (e < a)) k
  have f2 := SMap.get_filter memDflt s.mem (fun e => decide (a + b.length ≤ e)) k
  by_cases h : a ≤ k ∧ k < a + b.length
  · rw [if_pos h, SMap.get_append_right, SMap.get_append, byteCells_get, if_pos h, BitVec.toNat_ofNat]
    · intro e he; simp at he; omega
    · intro e he; simp at he; omega
  · rw [if_neg h]
    have hc : ∀ e ∈ byteCells a b, e.1 ≠ k := by
      intro e he e'; have := byteCells_keys b a e he; omega
    by_cases hl : k < a
    · rw [SMap.get_append_right _ _ _ _ (by intro e he; simp at he; omega), SMap.get_append_right _ _ _ _ hc, f1, if_pos (by simpa using hl)]
    · rw [List.append_assoc, SMap.get_append _ _ _ _ (by intro e he; simp at he; omega), SMap.get_append _ _ _ _ hc, f2, if_pos (by simp; omega)]

@[simp] theorem State.reg_putBytes (s : State) (a : Nat) (b : Bytes) (k : Nat) : (s.putBytes a b).reg k = s.reg k := (rfl)
@[simp] theorem State.tab_putBytes (s : State) (a : Nat) (b : Bytes) (t i : Nat) : (s.putBytes a b).tab t i = s.tab t i := (rfl)

/-! ### Frames of commands that store to memory -/

theorem Only.withMem {R T : List Nat} {s t : State} (h : Only R T s t) (m : SMap (BitVec 8)) :
    Only R T { s with mem := m } { t with mem := m } :=
  { h with regs := h.regs, tabs := h.tabs, mem := rfl }

theorem OnlyMem.of {R T : List Nat} {s t : State} (h : Only R T s t) (lo hi : Nat) : OnlyMem R T lo hi s t :=
  ⟨fun a _ => h.byte a, h.withMem t.mem⟩

theorem OnlyMem.trans {R T : List Nat} {lo hi : Nat} {s t u : State} (h : OnlyMem R T lo hi s t) (g : OnlyMem R T lo hi t u) :
    OnlyMem R T lo hi s u :=
  ⟨fun a ha => (g.1 a ha).trans (h.1 a ha), (h.2.withMem u.mem).trans g.2⟩

theorem OnlyMem.putBytes {R T : List Nat} {lo hi : Nat} (s : State) (a : Nat) (b : Bytes) (h1 : lo ≤ a) (h2 : a + b.length ≤ hi) :
    OnlyMem R T lo hi s (s.putBytes a b) :=
  ⟨fun k hk => by rw [State.byte_putBytes, if_neg (by omega)], Only.refl _⟩

theorem OnlyMem.setByte {R T : List Nat} {lo hi : Nat} (s : State) (a v : Nat) (h1 : lo ≤ a) (h2 : a < hi) :
    OnlyMem R T lo hi s (s.setByte a v) :=
  ⟨fun k hk => by rw [State.byte_setByte, if_neg (by omega)], Only.refl _⟩

end Sys2Proof.Machine
end

