-- ==== Sys2Proof/Laws/Frames.lean ====
section
/-!
SUPPORT. The frames of the operations that every chapter shares: events, counters, the mode, the degraded causes and the fault log.
-/
namespace Sys2Proof.Machine

namespace Only

variable {R T : List Nat}

theorem bump (s : State) (k w n : Nat) (hk : k ∈ R ∨ quietReg k = false) : Only R T s (s.bump k w n) := setReg _ _ _ hk
theorem bumpSat (s : State) (k w n : Nat) (hk : k ∈ R ∨ quietReg k = false) : Only R T s (s.bumpSat k w n) := setReg _ _ _ hk
theorem drop (s : State) (k n : Nat) (hk : k ∈ R ∨ quietReg k = false) : Only R T s (s.drop k n) := setReg _ _ _ hk
theorem resetReg (s : State) (k : Nat) (hk : k ∈ R ∨ quietReg k = false) : Only R T s (s.resetReg k) := setReg _ _ _ hk

theorem flag (s : State) (k i : Nat) (hk : k ∈ R ∨ quietReg k = false) (hi : k + 1 + i ∈ R ∨ quietReg (k + 1 + i) = false) :
    Only R T s (s.flag k i) := (setReg _ _ _ hk).trans (bump _ _ _ _ hi)

theorem event (s : State) (k i n : Nat) (hk : k ∈ R ∨ quietReg k = false) (hi : k + 1 + i ∈ R ∨ quietReg (k + 1 + i) = false) :
    Only R T s (s.event k i n) := (flag _ _ _ hk hi).trans (trigger _ _)

theorem setCounter (s : State) (n v : Nat) (hn : n < 2 ^ 40) : Only R T s (s.setCounter n v) :=
  setTab _ _ _ _ hn (.inr (by decide))

theorem overflowed (s : State) (n : Nat) (hn : n < 2 ^ 40) : Only R T s (s.overflowed n) := by
  unfold State.overflowed; dsimp only
  exact ((setTab _ _ _ _ hn (.inr (by decide))).trans (bump _ _ _ _ (.inr (by decide)))).trans
    (event _ _ _ _ (.inr (by decide)) (.inr (by decide)))

/-- Counting touches only the counters and the interrupt state (R504, R505). -/
theorem count (s : State) (n amt : Nat) (hn : n < 2 ^ 39) : Only R T s (s.count n amt) := by
  unfold State.count
  split
  · exact refl _
  · split
    · dsimp only
      exact ((setCounter _ _ _ (by omega)).trans (setCounter _ _ _ (by omega))).trans (when _ _ _ fun _ => overflowed _ _ (by omega))
    · dsimp only
      exact (setCounter _ _ _ (by omega)).trans (when _ _ _ fun _ => overflowed _ _ (by omega))

/-- A change of mode touches the mode's own registers (R118, R568). -/
theorem setMode (s : State) (m : Nat) (h1 : Reg.DEVICE_STATUS.MODE ∈ R) (h2 : Reg.DEVICE_STATUS.MODE_CHANGES ∈ R)
    (h3 : Reg.DEVICE_STATUS.LAST_MODE_CHANGE ∈ R) (h4 : Reg.DEVICE_STATUS.LAST_TIME_KIND ∈ R) (h5 : Reg.STARTUP.EVENTS ∈ R)
    (h6 : Reg.STARTUP.EVENTS + 1 ∈ R) : Only R T s (s.setMode m) := by
  unfold State.setMode; split
  · exact refl _
  · dsimp only
    exact ((setReg _ _ _ (.inl h1)).trans (bump _ _ _ _ (.inl h2))).trans
      (((setReg _ _ _ (.inl h3)).trans (setReg _ _ _ (.inl h4))).trans (event _ _ _ _ (.inl h5) (.inl h6)))

/-- A degraded cause touches DEGRADED_CAUSES and the mode's own registers (R563, R564). -/
theorem setCause (s : State) (i : Nat) (b : Bool) (h0 : Reg.STARTUP.DEGRADED_CAUSES ∈ R) (h1 : Reg.DEVICE_STATUS.MODE ∈ R)
    (h2 : Reg.DEVICE_STATUS.MODE_CHANGES ∈ R) (h3 : Reg.DEVICE_STATUS.LAST_MODE_CHANGE ∈ R)
    (h4 : Reg.DEVICE_STATUS.LAST_TIME_KIND ∈ R) (h5 : Reg.STARTUP.EVENTS ∈ R) (h6 : Reg.STARTUP.EVENTS + 1 ∈ R) :
    Only R T s (s.setCause i b) := by
  have hm : ∀ u : State, Only R T u u.refreshMode := by
    intro u; unfold State.refreshMode; split
    · exact setMode _ _ h1 h2 h3 h4 h5 h6
    · exact refl _
  unfold State.setCause
  exact trans (setReg s _ _ (.inl h0)) (hm _)

/-- A fault that is logged touches the fault log (R558, R561, R562). -/
theorem logFault (s : State) (code cls action source part data : Nat) (h1 : Reg.FAULT_LOG.LOG_HEAD ∈ R)
    (h2 : Reg.FAULT_LOG.PERSISTED_HEAD ∈ R) (t1 : Tab.faultLog ∈ T) (t2 : Tab.faultPersisted ∈ T) :
    Only R T s (s.logFault code cls action source part data) := by
  unfold State.logFault; dsimp only
  split
  · refine trans ?_ (trigger _ _)
    refine trans ?_ (setReg _ _ _ (.inl h2))
    refine trans ?_ (setTab _ _ _ _ (by omega) (.inl t2))
    refine trans ?_ (setReg _ _ _ (.inl h1))
    exact setTab _ _ _ _ (by omega) (.inl t1)
  · refine trans ?_ (trigger _ _)
    refine trans ?_ (setReg _ _ _ (.inl h1))
    exact setTab _ _ _ _ (by omega) (.inl t1)

/-- The same of two states whose ZDP engine is put to one and the same. -/
theorem withZdp {s t : State} (h : Only R T s t) (w : Zdp) : Only R T { s with zdp := w } { t with zdp := w } := by
  constructor
  case regs => exact h.regs
  case tabs => exact h.tabs
  case watches => exact List.Sublist.refl _
  case bypass0 => exact List.prefix_rfl
  case bypass1 => exact List.prefix_rfl
  case mgmt => exact List.prefix_rfl
  all_goals simp [h.mem, h.stagings, h.clock, h.frames, h.copies, h.nextFrame, h.nextCopy, h.drr, h.fences, h.oldResv, h.oldBounds, h.tap,
    h.gates, h.handoffs, h.built, h.inactive, h.postcards, h.out, h.freeCtr, h.pending]

/-- A frame that names fewer registers, where the others are as they were. -/
theorem shrink {R' : List Nat} {s t : State} (h : Only R T s t) (hs : ∀ k ∈ R, k ∉ R' → t.reg k = s.reg k) : Only R' T s t := by
  refine { h with regs := ?_ }
  intro k hk hq
  by_cases hr : k ∈ R
  · exact hs k hr hk
  · exact h.regs k hr hq

theorem ite {s a b : State} {c : Prop} [Decidable c] (ha : c → Only R T s a) (hb : ¬c → Only R T s b) :
    Only R T s (if c then a else b) := by
  split
  · exact ha ‹_›
  · exact hb ‹_›

end Only

/-! ### Reads after them -/

theorem State.reg_event_other (s : State) (k i n k' : Nat) (h : quietReg k' = true) (h1 : k' ≠ k) (h2 : k' ≠ k + 1 + i) :
    (s.event k i n).reg k' = s.reg k' := by
  rw [State.reg_event _ _ _ _ _ h, State.reg_flag]; simp [h1, h2]

theorem State.reg_event_flag (s : State) (k i n : Nat) (h : quietReg k = true) : (s.event k i n).reg k = setBit (s.reg k) i true := by
  rw [State.reg_event _ _ _ _ _ h, State.reg_flag, if_neg (by omega), if_pos rfl]

theorem State.reg_event_count (s : State) (k i n : Nat) (h : quietReg (k + 1 + i) = true) :
    (s.event k i n).reg (k + 1 + i) = (s.reg (k + 1 + i) + 1) % 2 ^ 32 := by
  rw [State.reg_event _ _ _ _ _ h, State.reg_flag, if_pos rfl, if_neg (by omega)]

theorem State.reg_setMode (s : State) (m k : Nat) (hq : quietReg k = true) (h : k ∉ modeRegs) : (s.setMode m).reg k = s.reg k :=
  (Only.setMode (R := modeRegs) (T := []) s m (by simp) (by simp) (by simp) (by simp) (by simp) (by simp)).regs k h hq

theorem State.reg_setCause (s : State) (i : Nat) (b : Bool) (k : Nat) (hq : quietReg k = true) (h : k ∉ modeRegs) :
    (s.setCause i b).reg k = s.reg k :=
  (Only.setCause (R := modeRegs) (T := []) s i b (by simp) (by simp) (by simp) (by simp) (by simp) (by simp) (by simp)).regs k h hq

/-- A change of mode leaves MODE at the mode. -/
@[simp] theorem State.mode_setMode (s : State) (m : Nat) : (s.setMode m).mode = m := by
  unfold State.setMode State.mode
  split
  · assumption
  · dsimp only
    rw [State.reg_event_other _ _ _ _ _ (by decide) (by decide) (by decide)]
    simp +decide [State.reg_setReg, State.reg_bump]

theorem State.reg_logFault (s : State) (code cls action source part data k : Nat) (hq : quietReg k = true)
    (h1 : k ≠ Reg.FAULT_LOG.LOG_HEAD) (h2 : k ≠ Reg.FAULT_LOG.PERSISTED_HEAD) :
    (s.logFault code cls action source part data).reg k = s.reg k :=
  (Only.logFault (R := [Reg.FAULT_LOG.LOG_HEAD, Reg.FAULT_LOG.PERSISTED_HEAD]) (T := [Tab.faultLog, Tab.faultPersisted])
    s code cls action source part data (by simp) (by simp) (by simp) (by simp)).regs k (by simp [h1, h2]) hq

theorem State.reg_count (s : State) (n amt k : Nat) (hn : n < 2 ^ 39) (h : quietReg k = true) : (s.count n amt).reg k = s.reg k :=
  (Only.count (R := []) (T := []) s n amt hn).regs k (by simp) h
theorem State.tab_count (s : State) (n amt : Nat) {t i : Nat} (hn : n < 2 ^ 39) (hi : i < 2 ^ 40) (h : quietTab t = true) :
    (s.count n amt).tab t i = s.tab t i :=
  (Only.count (R := []) (T := []) s n amt hn).tabs t i hi (by simp) h

end Sys2Proof.Machine
end

