-- ==== Sys2Proof/Laws/Hosts.lean ====
section
/-!
SUPPORT. What a write of a host that passes the checks of R79 does, and what a request that passes them does: the object's own
effect, said once for every command that a host gives.
-/
namespace Sys2Proof.Machine

theorem State.checkObject_pass {s : State} {a : Asker} {op idx sub : Nat} {o : Obj} {r : Sub} (hop : op ≠ Zop.windowCommit)
    (h : s.checkObject a op idx sub = .pass o r) : Dict.lookup idx = some o ∧ o.anyRow sub = some r := by
  unfold State.checkObject at h
  repeat' first
    | (split at h)
    | (cases h; done)
    | (simp only [hop, if_false] at h)
    | (cases h; exact ⟨by assumption, by assumption⟩)
    | contradiction

theorem State.savedSub_of_pass {s : State} {a : Asker} {op idx sub : Nat} {o : Obj} {r : Sub} (hop : op ≠ Zop.windowCommit)
    (h : s.checkObject a op idx sub = .pass o r) : savedSub idx sub = r.saved := by
  obtain ⟨h1, h2⟩ := State.checkObject_pass hop h
  simp [savedSub, h1, h2]

/-- A permitted write has its object's effect; on a saved sub-index CONFIG_GEN advances too (R104). -/
theorem State.hostWrite_permits {s : State} {w idx sub v : Nat} {eff : State → Res} (h : s.permits w idx sub v = true)
    (hc : (eff s).code = Code.ok) :
    (s.hostWrite w idx sub v eff).st = if savedSub idx sub then (eff s).st.configChanged else (eff s).st := by
  unfold State.permits at h
  simp only [Bool.and_eq_true, beq_iff_eq, Bool.not_eq_true'] at h
  obtain ⟨⟨h1, h2⟩, h3⟩ := h
  unfold State.hostWrite
  rw [if_neg (by simp [h1])]
  split at h3
  · cases h3
  · next o r hp =>
    simp only [Bool.and_eq_true, Bool.not_eq_true'] at h3
    rw [State.savedSub_of_pass (by decide) hp]
    simp only [hp, h3.1, State.performWrite, hc, h2, h3.2, Bool.false_eq_true, if_false, true_and]
    rw [if_neg (by decide)]
    cases r.saved <;> simp

/-- A permitted write whose object's own rule refuses it changes what that refusal changes. -/
theorem State.hostWrite_refused {s : State} {w idx sub v : Nat} {eff : State → Res} (h : s.permits w idx sub v = true)
    (hc : (eff s).code ≠ Code.ok) : (s.hostWrite w idx sub v eff).st = (eff s).st := by
  unfold State.permits at h
  simp only [Bool.and_eq_true, beq_iff_eq, Bool.not_eq_true'] at h
  obtain ⟨⟨h1, h2⟩, h3⟩ := h
  unfold State.hostWrite
  rw [if_neg (by simp [h1])]
  split at h3
  · cases h3
  · next o r hp =>
    simp only [Bool.and_eq_true, Bool.not_eq_true'] at h3
    simp only [hp, h3.1, State.performWrite, hc, h2, h3.2, Bool.false_eq_true, if_false, false_and]
    split <;> rfl

/-- A permitted BLOCK_WRITE has its object's effect. -/
theorem State.hostBlockWrite_permits {s : State} {w idx sub off : Nat} {data : Bytes} {eff : State → Res}
    (h : s.permitsBlock w idx sub off data.length = true) (hc : (eff s).code = Code.ok) :
    (s.hostBlockWrite w idx sub off data eff).st = if savedSub idx sub then (eff s).st.configChanged else (eff s).st := by
  unfold State.permitsBlock at h
  simp only [Bool.and_eq_true, beq_iff_eq, Bool.not_eq_true'] at h
  obtain ⟨⟨h1, h2⟩, h3⟩ := h
  unfold State.hostBlockWrite
  rw [if_neg (by simp [h1])]
  split at h3
  · cases h3
  · next o r hp =>
    simp only [Bool.and_eq_true, Option.isNone_iff_eq_none, Bool.not_eq_true'] at h3
    rw [State.savedSub_of_pass (by decide) hp]
    simp only [hp, h3.1, State.performWrite, hc, h2, h3.2, Bool.false_eq_true, if_false, true_and]
    rw [if_neg (by decide)]
    cases r.saved <;> simp

/-- With nothing due, the end of a command changes nothing. -/
theorem State.deliverDue_nothing {s : State} (h : s.nothingDue = true) : s.deliverDue = s := by
  unfold State.nothingDue at h
  unfold State.deliverDue
  simp [h]

/-- The frames of the fabric carriage that still wait after `q` has been received. -/
def State.left (s : State) (op : Nat) (q : Request) : Zdp :=
  if fabricRequest q then { s.zdp with arrived := s.zdp.arrived.erase (waitingRequest op q) } else s.zdp

/-- A request that is received has left the frames that waited, and counts in its port. -/
theorem State.received_only (s : State) (op : Nat) (q : Request) : Only [] [] ({ s with zdp := s.left op q } : State) (s.received op q) := by
  unfold State.received State.left
  split
  · exact Only.refl _
  · unfold State.macReceived
    exact (Only.count _ _ _ (by unfold Ctr.port; have := q.port.isLt; omega)).trans
      (Only.count _ _ _ (by unfold Ctr.port; have := q.port.isLt; omega))

/-- Step 1 leaves the rest as it was. -/
theorem State.accepted_only (s : State) (op : Nat) (q : Request) :
    Only [Reg.ZDP_STATISTICS.RX_ACCEPTED, Reg.ZDP_STATISTICS.RETRY_FLAGGED] [] ({ s with zdp := s.left op q } : State) (s.accepted op q) := by
  unfold State.accepted
  have h : Only [Reg.ZDP_STATISTICS.RX_ACCEPTED, Reg.ZDP_STATISTICS.RETRY_FLAGGED] [] ({ s with zdp := s.left op q } : State) (s.received op q) :=
    (State.received_only s op q).mono (by simp) (by simp)
  have g := h.trans (Only.bump (R := [Reg.ZDP_STATISTICS.RX_ACCEPTED, Reg.ZDP_STATISTICS.RETRY_FLAGGED]) (T := []) _ Reg.ZDP_STATISTICS.RX_ACCEPTED 64 1 (.inl (by simp)))
  exact g.trans (Only.when _ _ _ fun u => Only.bump _ _ _ _ (.inl (by simp)))

theorem State.accepted_reg (s : State) (op : Nat) (q : Request) {k : Nat} (hq : quietReg k = true) (h1 : k ≠ Reg.ZDP_STATISTICS.RX_ACCEPTED)
    (h2 : k ≠ Reg.ZDP_STATISTICS.RETRY_FLAGGED) : (s.accepted op q).reg k = s.reg k :=
  (State.accepted_only s op q).regs k (by simp [h1, h2]) hq
theorem State.accepted_cache (s : State) (op : Nat) (q : Request) : (s.accepted op q).zdp.cache = s.zdp.cache := by
  rw [(State.accepted_only s op q).cache]; unfold State.left; dsimp only; split <;> rfl
theorem State.accepted_sessionless (s : State) (op : Nat) (q : Request) : (s.accepted op q).zdp.sessionless = s.zdp.sessionless := by
  rw [(State.accepted_only s op q).sessionless]; unfold State.left; dsimp only; split <;> rfl

/-- Steps 1 to 4 of an admitted request. -/
theorem State.request_admits {s : State} {op : Nat} {q : Request} {run : State → State} (h : s.admits op q = true) :
    s.request op q run = State.done (run (s.taken op q)) := by
  unfold State.admits at h
  simp only [Bool.and_eq_true, decide_eq_true_eq, Option.isNone_iff_eq_none, Bool.not_eq_true'] at h
  obtain ⟨⟨⟨⟨⟨⟨h1, h2⟩, h3⟩, h4⟩, h5⟩, h6⟩, h7⟩ := h
  have e1 : s.stepOne op q = .go (s.accepted op q) := by
    unfold State.stepOne; simp [h1, h2]
  have hlt : q.session < 16 := by
    unfold State.sessionOf at h4; simp only [Bool.and_eq_true, decide_eq_true_eq] at h4; omega
  have hr : ∀ j, 1 ≤ j → j ≤ 8 → (s.accepted op q).reg (regKey (0x0110 + q.session) j) = s.reg (regKey (0x0110 + q.session) j) := by
    intro j a b
    refine State.accepted_reg s op q ?_ ?_ ?_
    · rw [quietReg_iff]; unfold regKey; omega
    · unfold regKey Reg.ZDP_STATISTICS.RX_ACCEPTED; omega
    · unfold regKey Reg.ZDP_STATISTICS.RETRY_FLAGGED; omega
  have hs : (s.accepted op q).sessionOf q = true := by
    unfold State.sessionOf at h4 ⊢
    rw [hr 1 (by omega) (by omega), hr 2 (by omega) (by omega), hr 3 (by omega) (by omega), hr 4 (by omega) (by omega)]
    exact h4
  have e2 : (s.accepted op q).takeTag op q = .go (s.taken op q) := by
    unfold State.takeTag
    have hck : (s.accepted op q).clock = s.clock := (State.accepted_only s op q).clock
    simp only [hs, Bool.not_true, Bool.false_eq_true, if_false, hck]
    have hb : ∀ k, ((s.accepted op q).setTab Tab.marks q.session s.clock.island).reg k = (s.accepted op q).reg k := fun k => State.reg_setTab _ _ _ _ _
    rw [hb, hb, hr 5 (by omega) (by omega), hr 6 (by omega) (by omega)]
    rw [if_neg (by simp only [Reg.SESSION.TAG_BASE, Reg.SESSION.TAG_COUNT, regKey] at *; omega)]
    have hcache : ((s.accepted op q).setTab Tab.marks q.session s.clock.island).cacheEntry q.session q.tag = none := by
      unfold State.cacheEntry at h7 ⊢
      rw [State.setTab_zdp, State.accepted_cache]; exact h7
    rw [hcache]
    rfl
  unfold State.request
  rw [e1]
  dsimp only
  rw [e2]
  simp [h3]

/-- A reply that is formed waits. -/
theorem State.answers_reply (s : State) (q : Request) (op result rflags detail : Nat) (data : Bytes) (session : Nat) (frees : Bool) :
    (s.reply q op result rflags detail data session frees).answers q op session result data := by
  unfold State.reply State.enqueueReply State.answers State.waitingReplies
  dsimp only
  refine ⟨(s.when (result == 0x02) (·.bump Reg.ZDP_STATISTICS.BUSY_REPLIES 64)).formReply q op result rflags detail data session frees, ?_, rfl, rfl, rfl, rfl, rfl, rfl⟩
  split
  · simp
  · split <;> simp

/-- A reply that waits still waits after an operation that only interrupts. -/
theorem Only.answers {R T : List Nat} {s t : State} (h : Only R T s t) {q : Request} {op session result : Nat} {data : Bytes}
    (g : s.answers q op session result data) : t.answers q op session result data := by
  obtain ⟨r, hr, g⟩ := g
  refine ⟨r, ?_, g⟩
  obtain ⟨a, ha⟩ := h.bypass0
  obtain ⟨b, hb⟩ := h.bypass1
  obtain ⟨c, hc⟩ := h.mgmt
  unfold State.waitingReplies at hr ⊢
  rw [← ha, ← hb, ← hc]
  simp only [List.mem_append, List.mem_filterMap] at hr ⊢
  rcases hr with ⟨x, hx | hx, he⟩ | hr
  · exact .inl ⟨x, .inl (.inl hx), he⟩
  · exact .inl ⟨x, .inr (.inl hx), he⟩
  · exact .inr (.inl hr)

end Sys2Proof.Machine
end

