-- ==== Sys2Proof/Laws/Answers.lean ====
section
/-!
SUPPORT. What the ZDP engine leaves as it was when it takes a request and when it completes one.
-/
namespace Sys2Proof.Machine

theorem State.taken_mem (s : State) (op q) : (s.taken op q).mem = s.mem := (State.accepted_only s op q).mem
theorem State.taken_out (s : State) (op q) : (s.taken op q).out = s.out := (State.accepted_only s op q).out
theorem State.taken_stagings (s : State) (op q) : (s.taken op q).stagings = s.stagings := (State.accepted_only s op q).stagings
theorem State.taken_clock (s : State) (op q) : (s.taken op q).clock = s.clock := (State.accepted_only s op q).clock
theorem State.taken_reg (s : State) (op q) (k) (hq : quietReg k = true) (h1 : k ≠ Reg.ZDP_STATISTICS.RX_ACCEPTED)
    (h2 : k ≠ Reg.ZDP_STATISTICS.RETRY_FLAGGED) : (s.taken op q).reg k = s.reg k := State.accepted_reg s op q hq h1 h2
theorem State.taken_tab (s : State) (op q) {n i : Nat} (hs : q.session < 2 ^ 40) (hi : i < 2 ^ 40) (hn : n ≠ Tab.marks) (hq : quietTab n = true) :
    (s.taken op q).tab n i = s.tab n i := by
  unfold State.taken State.putEntry
  have h := State.tab_setTab_table (s.accepted op q) s.clock.island hn hs hi
  exact h.trans ((State.accepted_only s op q).tabs n i hi (by simp) hq)

theorem State.forAll_drew {α} (l : List α) (s : State) : (s.forAll l (fun s _ => s.drew)) = { s with freeCtr := s.freeCtr + l.length } := by
  induction l generalizing s with
  | nil => rfl
  | cons a l ih => show State.forAll s.drew l _ = _; rw [ih]; simp [State.drew, Nat.add_comm, Nat.add_left_comm]
theorem State.valueDrawn_mem (s : State) (i j) : (s.valueDrawn i j).mem = s.mem := by
  unfold State.valueDrawn; split; · rw [State.forAll_drew]
  rfl
theorem State.valueDrawn_out (s : State) (i j) : (s.valueDrawn i j).out = s.out := by
  unfold State.valueDrawn; split; · rw [State.forAll_drew]
  rfl
theorem State.valueDrawn_stagings (s : State) (i j) : (s.valueDrawn i j).stagings = s.stagings := by
  unfold State.valueDrawn; split; · rw [State.forAll_drew]
  rfl
theorem State.valueDrawn_reg (s : State) (i j k) : (s.valueDrawn i j).reg k = s.reg k := by
  unfold State.valueDrawn; split; · rw [State.forAll_drew]; rfl
  rfl

theorem State.finish_answers (op q r) : ((State.finish op q r).deliverDue).answers q op q.session r.code r.data :=
  (Only.deliverDue (R := []) (T := []) _).answers (State.answers_reply ..)
theorem State.finish_mem (op q r) : (State.finish op q r).mem = r.st.mem := by
  unfold State.finish; simp [State.putEntry]
theorem State.finish_out (op q r) : (State.finish op q r).out = r.st.out := by
  unfold State.finish; simp [State.putEntry]
theorem State.finish_stagings (op q r) : (State.finish op q r).stagings = r.st.stagings := by
  unfold State.finish; simp [State.putEntry]
theorem State.finish_reg (op q r k) (h : quietReg k = true) : (State.finish op q r).reg k = r.st.reg k := by
  unfold State.finish; rw [State.reg_reply _ _ _ _ _ _ _ _ _ h]; simp [State.putEntry, State.reg]
theorem State.finish_tab (op q r n i) (hi : i < 2^40) (h : quietTab n = true) : (State.finish op q r).tab n i = r.st.tab n i := by
  unfold State.finish; rw [State.tab_reply _ _ _ _ _ _ _ _ _ hi h]; simp [State.putEntry, State.tab]

/-- A permitted write whose object accepts it: the command answers the effect's state. -/
theorem State.hostWrite_next {s : State} {w idx sub v : Nat} {eff : State → Res} (h : s.permits w idx sub v = true)
    (hc : (eff s).code = Code.ok) :
    (s.hostWrite w idx sub v eff).next = .next (if savedSub idx sub then (eff s).st.configChanged else (eff s).st).deliverDue := by
  unfold Res.next State.done; rw [State.hostWrite_permits h hc]

/-- A permitted write that its object's own rule refuses. -/
theorem State.hostWrite_next_refused {s : State} {w idx sub v : Nat} {eff : State → Res} (h : s.permits w idx sub v = true)
    (hc : (eff s).code ≠ Code.ok) : (s.hostWrite w idx sub v eff).next = .next ((eff s).st).deliverDue := by
  unfold Res.next State.done; rw [State.hostWrite_refused h hc]

/-- A permitted BLOCK_WRITE whose object accepts it. -/
theorem State.hostBlockWrite_next {s : State} {w idx sub off : Nat} {data : Bytes} {eff : State → Res}
    (h : s.permitsBlock w idx sub off data.length = true) (hc : (eff s).code = Code.ok) :
    (s.hostBlockWrite w idx sub off data eff).next
      = .next (if savedSub idx sub then (eff s).st.configChanged else (eff s).st).deliverDue := by
  unfold Res.next State.done; rw [State.hostBlockWrite_permits h hc]

end Sys2Proof.Machine
end

