-- ==== Sys2Proof/Laws/Bits.lean ====
section
/-!
SUPPORT. Reading a bit of a value one of whose bits has been written.
-/
namespace Sys2Proof.Machine

theorem setBit_eq (v i : Nat) (b : Bool) : setBit v i b = 2 ^ i * (2 * (v / 2 ^ i / 2) + (if b then 1 else 0)) + v % 2 ^ i := by
  unfold setBit setBits bits
  have h1 : i + 1 - i = 1 := by omega
  rw [h1, Nat.shiftRight_eq_div_pow, Nat.pow_one]
  have h2 := Nat.div_add_mod v (2 ^ i)
  have h3 := Nat.div_add_mod (v / 2 ^ i) 2
  have h6 : (if b = true then 1 else 0) % 2 = (if b then 1 else 0) := by cases b <;> rfl
  rw [h6, Nat.mul_add, Nat.mul_comm (if b = true then 1 else 0)]
  have h4 : 2 ^ i * (2 * (v / 2 ^ i / 2)) + v / 2 ^ i % 2 * 2 ^ i = 2 ^ i * (v / 2 ^ i) := by
    rw [Nat.mul_comm (v / 2 ^ i % 2), ← Nat.mul_add, h3]
  generalize 2 ^ i * (v / 2 ^ i) = a at *
  generalize 2 ^ i * (2 * (v / 2 ^ i / 2)) = c at *
  generalize v / 2 ^ i % 2 * 2 ^ i = d at *
  generalize (2 ^ i * if b = true then 1 else 0) = e at *
  omega

/-- The bit written is read back. -/
theorem bit_setBit (v i : Nat) (b : Bool) : bit (setBit v i b) i = b := by
  unfold bit
  rw [setBit_eq, Nat.testBit_two_pow_mul_add _ (Nat.mod_lt _ (Nat.two_pow_pos _))]
  simp; cases b <;> simp

/-- The other bits are as they were. -/
theorem bit_setBit_other (v : Nat) {i j : Nat} (b : Bool) (h : j ≠ i) : bit (setBit v i b) j = bit v j := by
  unfold bit
  rw [setBit_eq, Nat.testBit_two_pow_mul_add _ (Nat.mod_lt _ (Nat.two_pow_pos _))]
  have hv : (2 ^ i * (v / 2 ^ i) + v % 2 ^ i).testBit j = v.testBit j := by rw [Nat.div_add_mod]
  rw [← hv, Nat.testBit_two_pow_mul_add _ (Nat.mod_lt _ (Nat.two_pow_pos _))]
  split
  · rfl
  · obtain ⟨k, hk⟩ : ∃ k, j - i = k + 1 := ⟨j - i - 1, by omega⟩
    rw [hk, Nat.testBit_succ, Nat.testBit_succ]
    congr 1
    cases b <;> simp <;> omega

end Sys2Proof.Machine
end

