-- ==== Sys2Proof/Laws/Evolve.lean ====
section
/-!
SUPPORT. What every command keeps: the queue of the commands that wait, the canonical form of the stores, and the
agreement of the attention counts with the attention sequence. Here for the plain updates; Laws/Ev*.lean say it
once for every operation of the model.
-/
namespace Sys2Proof.Machine

/-- `t` keeps what `s` had of the invariants. -/
structure Ev (s t : State) : Prop where
  pending : t.pending = s.pending
  regs : SMap.wf Dict.dflt s.regs = true → SMap.wf Dict.dflt t.regs = true
  tabs : SMap.wf Tab.dflt s.tabs = true → SMap.wf Tab.dflt t.tabs = true
  mem : SMap.wf memDflt s.mem = true → SMap.wf memDflt t.mem = true
  attn : s.attnAgrees = true → t.attnAgrees = true

/-- Every next state of an outcome keeps them. -/
structure EvN (s : State) (o : Host.Outcome State Fault Refusal) : Prop where
  out : ∀ t, o = .next t → Ev s t

theorem Ev.refl (s : State) : Ev s s := ⟨rfl, id, id, id, id⟩

theorem Ev.trans {s t u : State} (h : Ev s t) (g : Ev t u) : Ev s u :=
  ⟨g.pending.trans h.pending, g.regs ∘ h.regs, g.tabs ∘ h.tabs, g.mem ∘ h.mem, g.attn ∘ h.attn⟩

theorem Ev.same {z s t : State} (h : Ev z s) (hp : t.pending = s.pending) (hr : t.regs = s.regs)
    (ht : t.tabs = s.tabs) (hm : t.mem = s.mem) (ha : t.attn = s.attn) : Ev z t := by
  refine ⟨hp.trans h.pending, ?_, ?_, ?_, ?_⟩
  · rw [hr]; exact h.regs
  · rw [ht]; exact h.tabs
  · rw [hm]; exact h.mem
  · intro g; unfold State.attnAgrees; rw [ha]; exact h.attn g

/-- Whatever becomes of the other parts of the state. -/
theorem Ev.upd {z s : State} {zdp : Zdp} {stagings : List Staging} {clock : Clock} {frames : List Frame} {copies : List Copy} {nextFrame : Nat} {nextCopy : Nat} {drr : SMap (List Nat)} {fences : List Fence} {oldResv : List OldResv} {oldBounds : List OldBound} {gates : SMap GatePort} {handoffs : List Handoff} {built : List Built} {inactive : SMap Nat} {postcards : SMap (List Nat)} {out : List Out} {tap : Tap} {freeCtr : Nat}
    (h : Ev z s) : Ev z ⟨s.regs, s.tabs, s.mem, s.attn, zdp, stagings, clock, frames, copies, nextFrame, nextCopy, drr, fences, oldResv, oldBounds, gates, handoffs, built, inactive, postcards, out, tap, freeCtr, s.pending⟩ :=
  Ev.same h rfl rfl rfl rfl rfl

/-- The same, where a table's elements go back to what they read as unlisted. -/
theorem Ev.filtTabs {z s : State} (p : Nat × Nat → Bool) {zdp : Zdp} {stagings : List Staging} {clock : Clock} {frames : List Frame} {copies : List Copy} {nextFrame : Nat} {nextCopy : Nat} {drr : SMap (List Nat)} {fences : List Fence} {oldResv : List OldResv} {oldBounds : List OldBound} {gates : SMap GatePort} {handoffs : List Handoff} {built : List Built} {inactive : SMap Nat} {postcards : SMap (List Nat)} {out : List Out} {tap : Tap} {freeCtr : Nat}
    (h : Ev z s) : Ev z ⟨s.regs, s.tabs.filter p, s.mem, s.attn, zdp, stagings, clock, frames, copies, nextFrame, nextCopy, drr, fences, oldResv, oldBounds, gates, handoffs, built, inactive, postcards, out, tap, freeCtr, s.pending⟩ :=
  ⟨h.pending, h.regs, fun w => SMap.wf_filter p (h.tabs w), h.mem, h.attn⟩

/-- The same, where registers go back to what they read as unlisted. -/
theorem Ev.filtRegs {z s : State} (p : Nat × Nat → Bool) {zdp : Zdp} {stagings : List Staging} {clock : Clock} {frames : List Frame} {copies : List Copy} {nextFrame : Nat} {nextCopy : Nat} {drr : SMap (List Nat)} {fences : List Fence} {oldResv : List OldResv} {oldBounds : List OldBound} {gates : SMap GatePort} {handoffs : List Handoff} {built : List Built} {inactive : SMap Nat} {postcards : SMap (List Nat)} {out : List Out} {tap : Tap} {freeCtr : Nat}
    (h : Ev z s) : Ev z ⟨s.regs.filter p, s.tabs, s.mem, s.attn, zdp, stagings, clock, frames, copies, nextFrame, nextCopy, drr, fences, oldResv, oldBounds, gates, handoffs, built, inactive, postcards, out, tap, freeCtr, s.pending⟩ :=
  ⟨h.pending, fun w => SMap.wf_filter p (h.regs w), h.tabs, h.mem, h.attn⟩

theorem Ev.ite {z a b : State} {c : Prop} [Decidable c] (ha : c → Ev z a) (hb : ¬c → Ev z b) :
    Ev z (if c then a else b) := by split <;> simp_all

theorem Ev.ite_fst {α : Type} {z : State} {a b : State × α} {c : Prop} [Decidable c] (ha : c → Ev z a.1)
    (hb : ¬c → Ev z b.1) : Ev z (if c then a else b).1 := by split <;> simp_all

theorem Ev.id {z s : State} (h : Ev z s) : Ev z (id s) := h

theorem Ev.cut {z : State} {P : Prop} (u : State) (h : Ev z u) (k : Ev z u → P) : P := k h

theorem Ev.fst {α : Type} {z a : State} {b : α} {p : State × α} (e : p = (a, b)) (h : Ev z p.1) : Ev z a := by
  subst e; exact h

theorem EvN.ite {z : State} {a b : Host.Outcome State Fault Refusal} {c : Prop} [Decidable c] (ha : c → EvN z a)
    (hb : ¬c → EvN z b) : EvN z (if c then a else b) := by split <;> simp_all

theorem EvN.next {z s : State} (h : Ev z s) : EvN z (.next s) := ⟨by rintro t ⟨⟩; exact h⟩

theorem State.when_ev {z s : State} {c : Bool} {f : State → State} (h : Ev z s) (g : ∀ u, Ev z u → Ev z (f u)) :
    Ev z (s.when c f) := by
  unfold State.when; split
  · exact g s h
  · exact h

theorem State.forAll_ev {α : Type} {z s : State} {l : List α} {f : State → α → State} (h : Ev z s)
    (g : ∀ u a, Ev z u → Ev z (f u a)) : Ev z (s.forAll l f) := by
  induction l generalizing s with
  | nil => exact h
  | cons a l ih => exact ih (g s a h)

theorem State.setReg_ev {z s : State} {k v : Nat} (h : Ev z s) : Ev z (s.setReg k v) :=
  ⟨h.pending, fun w => SMap.wf_set k v (h.regs w), h.tabs, h.mem, h.attn⟩

theorem State.setTab_ev {z s : State} {t i v : Nat} (h : Ev z s) : Ev z (s.setTab t i v) :=
  ⟨h.pending, h.regs, fun w => SMap.wf_set _ v (h.tabs w), h.mem, h.attn⟩

theorem State.setByte_ev {z s : State} {a v : Nat} (h : Ev z s) : Ev z (s.setByte a v) :=
  ⟨h.pending, h.regs, h.tabs, fun w => SMap.wf_set a _ (h.mem w), h.attn⟩

theorem State.setBytes_ev {z s : State} {a : Nat} {b : Bytes} (h : Ev z s) : Ev z (s.setBytes a b) := by
  induction b generalizing s a with
  | nil => exact h
  | cons x b ih => exact ih (State.setByte_ev h)

theorem State.clearTab_ev {z s : State} {t : Nat} (h : Ev z s) : Ev z (s.clearTab t) :=
  ⟨h.pending, h.regs, fun w => SMap.wf_clearRange _ _ (h.tabs w), h.mem, h.attn⟩

theorem State.clearTabRange_ev {z s : State} {t lo hi : Nat} (h : Ev z s) : Ev z (s.clearTabRange t lo hi) :=
  ⟨h.pending, h.regs, fun w => SMap.wf_clearRange _ _ (h.tabs w), h.mem, h.attn⟩

theorem State.zeroBytes_ev {z s : State} {lo hi : Nat} (h : Ev z s) : Ev z (s.zeroBytes lo hi) :=
  ⟨h.pending, h.regs, h.tabs, fun w => SMap.wf_clearRange _ _ (h.mem w), h.attn⟩

theorem State.emit_ev {z s : State} {o : Out} (h : Ev z s) : Ev z (s.emit o) :=
  ⟨h.pending, h.regs, h.tabs, h.mem, h.attn⟩

theorem State.drew_ev {z s : State} (h : Ev z s) : Ev z s.drew := ⟨h.pending, h.regs, h.tabs, h.mem, h.attn⟩

end Sys2Proof.Machine
end

