-- ==== Sys2Proof/Laws/EvOps.lean ====
section
/-!
SUPPORT. The commands keep the invariants (Laws/Evolve.lean): the operations of Machine/Ops.lean.
-/
namespace Sys2Proof.Machine

theorem State.resetReg_ev {z : State} (s : State) (k : Nat) (hs : Ev z s) : Ev z (State.resetReg s k) := by
  unfold State.resetReg
  repeat' first
    | with_reducible first | assumption | apply State.setReg_ev

theorem State.bump_ev {z : State} (s : State) (k w : Nat) (n : Nat) (hs : Ev z s) : Ev z (State.bump s k w n) := by
  unfold State.bump
  repeat' first
    | with_reducible first | assumption | apply State.setReg_ev

theorem State.bumpSat_ev {z : State} (s : State) (k w : Nat) (n : Nat) (hs : Ev z s) : Ev z (State.bumpSat s k w n) := by
  unfold State.bumpSat
  repeat' first
    | with_reducible first | assumption | apply State.setReg_ev

theorem State.drop_ev {z : State} (s : State) (k : Nat) (n : Nat) (hs : Ev z s) : Ev z (State.drop s k n) := by
  unfold State.drop
  repeat' first
    | with_reducible first | assumption | apply State.setReg_ev

theorem State.flag_ev {z : State} (s : State) (k i : Nat) (hs : Ev z s) : Ev z (State.flag s k i) := by
  unfold State.flag
  repeat' first
    | with_reducible first | assumption | apply State.bump_ev | apply State.setReg_ev

theorem State.enqueueReply_ev {z : State} (s : State) (r : Reply) (hs : Ev z s) : Ev z (State.enqueueReply s r) := by
  unfold State.enqueueReply
  repeat' first
    | with_reducible first | assumption | apply Ev.ite
    | refine fun _ => ?_
    | dsimp only
    | with_reducible apply Ev.upd

theorem State.reply_ev {z : State} (s : State) (q : Request) (op result rflags detail : Nat) (data : Bytes) (session : Nat) (frees : Bool) (hs : Ev z s) : Ev z (State.reply s q op result rflags detail data session frees) := by
  unfold State.reply
  repeat' first
    | with_reducible first | assumption | apply State.when_ev | apply State.bump_ev | apply State.enqueueReply_ev
    | refine fun _ => ?_
    | ((try lift_lets); intro u; first | (refine Ev.cut (z := z) u ?_ ?_; (subst u); rotate_left; clear_value u; intro _) | (refine Ev.cut (z := z) u.st ?_ ?_; (subst u); rotate_left; clear_value u; intro _) | (refine Ev.cut (z := z) u.1 ?_ ?_; (subst u); rotate_left; clear_value u; intro _) | ((have _ := fun x => u x); subst u) | clear_value u)
    | dsimp only

theorem State.freeTag_ev {z : State} (s : State) (code : Nat) (hs : Ev z s) : Ev z (State.freeTag s code) := by
  unfold State.freeTag
  split
  · exact hs
  · split
    · exact Ev.upd hs
    · exact State.when_ev (Ev.upd hs) fun u hu => State.setTab_ev hu

theorem State.replySent_ev {z : State} (s : State) (r : Reply) (hs : Ev z s) : Ev z (State.replySent s r) := by
  unfold State.replySent
  repeat' first
    | with_reducible first | assumption | apply State.when_ev | apply State.setTab_ev
    | refine fun _ => ?_
    | dsimp only

theorem State.answerWatch_ev {z : State} (s : State) (w : Watch) (rflags : Nat) (hs : Ev z s) : Ev z (State.answerWatch s w rflags) := by
  unfold State.answerWatch
  repeat' first
    | with_reducible first | assumption | apply State.drop_ev | apply State.reply_ev
    | ((try lift_lets); intro u; first | (refine Ev.cut (z := z) u ?_ ?_; (subst u); rotate_left; clear_value u; intro _) | (refine Ev.cut (z := z) u.st ?_ ?_; (subst u); rotate_left; clear_value u; intro _) | (refine Ev.cut (z := z) u.1 ?_ ?_; (subst u); rotate_left; clear_value u; intro _) | ((have _ := fun x => u x); subst u) | clear_value u)
    | dsimp only
    | with_reducible apply Ev.upd

theorem State.answerWatches_ev {z : State} (s : State) (hs : Ev z s) : Ev z (State.answerWatches s) := by
  unfold State.answerWatches
  repeat' first
    | with_reducible first | assumption | apply State.forAll_ev | apply State.answerWatch_ev
    | refine fun _ => ?_
    | dsimp only
    | (with_reducible apply Ev.fst; assumption)
    | split

theorem sum_set (l : List Nat) (c v : Nat) (h : c < l.length) : (l.set c v).sum + l.getD c 0 = l.sum + v := by
  induction l generalizing c with
  | nil => simp at h
  | cons a l ih =>
    cases c with
    | zero => simp; omega
    | succ c =>
      have := ih c (by simpa using h)
      simp at this ⊢
      omega

theorem State.attend_ev {z : State} (s : State) (c source : Nat) (hc : c < 8) (hs : Ev z s) : Ev z (State.attend s c source) := by
  unfold State.attend
  apply State.answerWatches_ev
  apply State.setTab_ev
  refine ⟨hs.pending, hs.regs, hs.tabs, hs.mem, fun h => ?_⟩
  have h := hs.attn h
  unfold State.attnAgrees bumpCount at *
  simp only [Bool.and_eq_true, beq_iff_eq] at h ⊢
  obtain ⟨hl, hq⟩ := h
  refine ⟨by simp [hl], ?_⟩
  have := sum_set s.attn.counts c ((s.attn.counts.getD c 0 + 1) % 2 ^ 32) (by omega)
  omega

theorem State.setCounter_ev {z : State} (s : State) (n v : Nat) (hs : Ev z s) : Ev z (State.setCounter s n v) := by
  unfold State.setCounter
  repeat' first
    | with_reducible first | assumption | apply State.setTab_ev

theorem State.setSrcState_ev {z : State} (s : State) (n st : Nat) (hs : Ev z s) : Ev z (State.setSrcState s n st) := by
  unfold State.setSrcState
  repeat' first
    | with_reducible first | assumption | apply State.setTab_ev

theorem State.setClaimedBy_ev {z : State} (s : State) (n t : Nat) (hs : Ev z s) : Ev z (State.setClaimedBy s n t) := by
  unfold State.setClaimedBy
  repeat' first
    | with_reducible first | assumption | apply State.setTab_ev

theorem State.countPlain_ev {z : State} (s : State) (n : Nat) (hs : Ev z s) : Ev z (State.countPlain s n) := by
  unfold State.countPlain
  repeat' first
    | with_reducible first | assumption | apply State.when_ev | apply State.setCounter_ev
    | refine fun _ => ?_
    | dsimp only

theorem State.claimSrc_ev {z : State} (s : State) (n t : Nat) (hs : Ev z s) : Ev z (State.claimSrc s n t) := by
  unfold State.claimSrc
  repeat' first
    | with_reducible first | assumption | apply State.countPlain_ev | apply State.setClaimedBy_ev | apply State.setSrcState_ev

theorem State.startTimer_ev {z : State} (s : State) (c : Nat) (hs : Ev z s) : Ev z (State.startTimer s c) := by
  unfold State.startTimer
  repeat' first
    | with_reducible first | assumption | apply State.setReg_ev

theorem State.completeAtHost_ev {z : State} (s : State) (n : Nat) (hs : Ev z s) : Ev z (State.completeAtHost s n) := by
  unfold State.completeAtHost
  repeat' first
    | with_reducible first | assumption | apply Ev.ite | apply State.when_ev | apply State.setClaimedBy_ev | apply State.setSrcState_ev | apply State.startTimer_ev
    | refine fun _ => ?_
    | ((try lift_lets); intro u; first | (refine Ev.cut (z := z) u ?_ ?_; (subst u); rotate_left; clear_value u; intro _) | (refine Ev.cut (z := z) u.st ?_ ?_; (subst u); rotate_left; clear_value u; intro _) | (refine Ev.cut (z := z) u.1 ?_ ?_; (subst u); rotate_left; clear_value u; intro _) | ((have _ := fun x => u x); subst u) | clear_value u)
    | dsimp only

theorem State.srcClass_lt (s : State) (n : Nat) : s.srcClass n < 8 := by
  unfold State.srcClass bits; exact Nat.mod_lt _ (by decide)

theorem State.deliver_ev {z : State} (s : State) (n : Nat) (hs : Ev z s) : Ev z (State.deliver s n) := by
  unfold State.deliver
  exact State.completeAtHost_ev _ _ (State.attend_ev _ _ _ (State.srcClass_lt _ _) (State.claimSrc_ev _ _ _ hs))

theorem State.takeBatch_ev {z : State} (s : State) (c : Nat) (hs : Ev z s) : Ev z (State.takeBatch s c) := by
  unfold State.takeBatch
  repeat' first
    | with_reducible first | assumption | apply State.forAll_ev | apply State.bump_ev | apply State.deliver_ev | apply State.setReg_ev
    | refine fun _ => ?_
    | ((try lift_lets); intro u; first | (refine Ev.cut (z := z) u ?_ ?_; (subst u); rotate_left; clear_value u; intro _) | (refine Ev.cut (z := z) u.st ?_ ?_; (subst u); rotate_left; clear_value u; intro _) | (refine Ev.cut (z := z) u.1 ?_ ?_; (subst u); rotate_left; clear_value u; intro _) | ((have _ := fun x => u x); subst u) | clear_value u)
    | dsimp only

theorem State.makeDue_ev {z : State} (s : State) (c : Nat) (hs : Ev z s) : Ev z (State.makeDue s c) := by
  unfold State.makeDue
  repeat' first
    | with_reducible first | assumption | apply State.when_ev | apply State.setTab_ev
    | refine fun _ => ?_
    | ((try lift_lets); intro u; first | (refine Ev.cut (z := z) u ?_ ?_; (subst u); rotate_left; clear_value u; intro _) | (refine Ev.cut (z := z) u.st ?_ ?_; (subst u); rotate_left; clear_value u; intro _) | (refine Ev.cut (z := z) u.1 ?_ ?_; (subst u); rotate_left; clear_value u; intro _) | ((have _ := fun x => u x); subst u) | clear_value u)
    | dsimp only

theorem State.deliverDue_ev {z : State} (s : State) (hs : Ev z s) : Ev z (State.deliverDue s) := by
  unfold State.deliverDue
  repeat' first
    | with_reducible first | assumption | apply Ev.ite | apply State.when_ev | apply State.forAll_ev | apply State.setTab_ev | apply State.takeBatch_ev
    | refine fun _ => ?_
    | ((try lift_lets); intro u; first | (refine Ev.cut (z := z) u ?_ ?_; (subst u); rotate_left; clear_value u; intro _) | (refine Ev.cut (z := z) u.st ?_ ?_; (subst u); rotate_left; clear_value u; intro _) | (refine Ev.cut (z := z) u.1 ?_ ?_; (subst u); rotate_left; clear_value u; intro _) | ((have _ := fun x => u x); subst u) | clear_value u)
    | dsimp only

theorem State.offer_ev {z : State} (s : State) (n : Nat) (hs : Ev z s) : Ev z (State.offer s n) := by
  unfold State.offer
  repeat' first
    | with_reducible first | assumption | apply Ev.ite | apply State.makeDue_ev | apply State.startTimer_ev
    | refine fun _ => ?_
    | ((try lift_lets); intro u; first | (refine Ev.cut (z := z) u ?_ ?_; (subst u); rotate_left; clear_value u; intro _) | (refine Ev.cut (z := z) u.st ?_ ?_; (subst u); rotate_left; clear_value u; intro _) | (refine Ev.cut (z := z) u.1 ?_ ?_; (subst u); rotate_left; clear_value u; intro _) | ((have _ := fun x => u x); subst u) | clear_value u)

theorem State.completeSrc_ev {z : State} (s : State) (n : Nat) (hs : Ev z s) : Ev z (State.completeSrc s n) := by
  unfold State.completeSrc
  repeat' first
    | with_reducible first | assumption | apply Ev.ite | apply State.when_ev | apply State.offer_ev | apply State.setClaimedBy_ev | apply State.setSrcState_ev | apply State.startTimer_ev
    | refine fun _ => ?_
    | ((try lift_lets); intro u; first | (refine Ev.cut (z := z) u ?_ ?_; (subst u); rotate_left; clear_value u; intro _) | (refine Ev.cut (z := z) u.st ?_ ?_; (subst u); rotate_left; clear_value u; intro _) | (refine Ev.cut (z := z) u.1 ?_ ?_; (subst u); rotate_left; clear_value u; intro _) | ((have _ := fun x => u x); subst u) | clear_value u)
    | dsimp only

theorem State.completeAllOf_ev {z : State} (s : State) (t : Nat) (hs : Ev z s) : Ev z (State.completeAllOf s t) := by
  unfold State.completeAllOf
  repeat' first
    | with_reducible first | assumption | apply State.forAll_ev | apply State.completeSrc_ev
    | refine fun _ => ?_
    | ((try lift_lets); intro u; first | (refine Ev.cut (z := z) u ?_ ?_; (subst u); rotate_left; clear_value u; intro _) | (refine Ev.cut (z := z) u.st ?_ ?_; (subst u); rotate_left; clear_value u; intro _) | (refine Ev.cut (z := z) u.1 ?_ ?_; (subst u); rotate_left; clear_value u; intro _) | ((have _ := fun x => u x); subst u) | clear_value u)
    | dsimp only

theorem State.mergeSrc_ev {z : State} (s : State) (n : Nat) (hs : Ev z s) : Ev z (State.mergeSrc s n) := by
  unfold State.mergeSrc
  repeat' first
    | with_reducible first | assumption | apply State.bump_ev | apply State.setTab_ev

theorem State.trigger_ev {z : State} (s : State) (n : Nat) (hs : Ev z s) : Ev z (State.trigger s n) := by
  unfold State.trigger
  repeat' first
    | with_reducible first | assumption | apply Ev.ite | apply State.bump_ev | apply State.mergeSrc_ev | apply State.offer_ev | apply State.setSrcState_ev
    | refine fun _ => ?_
    | ((try lift_lets); intro u; first | (refine Ev.cut (z := z) u ?_ ?_; (subst u); rotate_left; clear_value u; intro _) | (refine Ev.cut (z := z) u.st ?_ ?_; (subst u); rotate_left; clear_value u; intro _) | (refine Ev.cut (z := z) u.1 ?_ ?_; (subst u); rotate_left; clear_value u; intro _) | ((have _ := fun x => u x); subst u) | clear_value u)

theorem State.setInput_ev {z : State} (s : State) (n : Nat) (high : Bool) (hs : Ev z s) : Ev z (State.setInput s n high) := by
  unfold State.setInput
  repeat' first
    | with_reducible first | assumption | apply Ev.ite | apply State.setSrcState_ev | apply State.setTab_ev | apply State.trigger_ev
    | refine fun _ => ?_
    | ((try lift_lets); intro u; first | (refine Ev.cut (z := z) u ?_ ?_; (subst u); rotate_left; clear_value u; intro _) | (refine Ev.cut (z := z) u.st ?_ ?_; (subst u); rotate_left; clear_value u; intro _) | (refine Ev.cut (z := z) u.1 ?_ ?_; (subst u); rotate_left; clear_value u; intro _) | ((have _ := fun x => u x); subst u) | clear_value u)

theorem State.event_ev {z : State} (s : State) (k i n : Nat) (hs : Ev z s) : Ev z (State.event s k i n) := by
  unfold State.event
  repeat' first
    | with_reducible first | assumption | apply State.flag_ev | apply State.trigger_ev

theorem State.overflowed_ev {z : State} (s : State) (n : Nat) (hs : Ev z s) : Ev z (State.overflowed s n) := by
  unfold State.overflowed
  repeat' first
    | with_reducible first | assumption | apply State.bump_ev | apply State.event_ev | apply State.setTab_ev
    | ((try lift_lets); intro u; first | (refine Ev.cut (z := z) u ?_ ?_; (subst u); rotate_left; clear_value u; intro _) | (refine Ev.cut (z := z) u.st ?_ ?_; (subst u); rotate_left; clear_value u; intro _) | (refine Ev.cut (z := z) u.1 ?_ ?_; (subst u); rotate_left; clear_value u; intro _) | ((have _ := fun x => u x); subst u) | clear_value u)

theorem State.count_ev {z : State} (s : State) (n : Nat) (amt : Nat) (hs : Ev z s) : Ev z (State.count s n amt) := by
  unfold State.count
  repeat' first
    | with_reducible first | assumption | apply Ev.ite | apply State.when_ev | apply State.overflowed_ev | apply State.setCounter_ev
    | refine fun _ => ?_
    | ((try lift_lets); intro u; first | (refine Ev.cut (z := z) u ?_ ?_; (subst u); rotate_left; clear_value u; intro _) | (refine Ev.cut (z := z) u.st ?_ ?_; (subst u); rotate_left; clear_value u; intro _) | (refine Ev.cut (z := z) u.1 ?_ ?_; (subst u); rotate_left; clear_value u; intro _) | ((have _ := fun x => u x); subst u) | clear_value u)
    | dsimp only

theorem State.setMode_ev {z : State} (s : State) (m : Nat) (hs : Ev z s) : Ev z (State.setMode s m) := by
  unfold State.setMode
  repeat' first
    | with_reducible first | assumption | apply Ev.ite | apply State.bump_ev | apply State.event_ev | apply State.setReg_ev
    | refine fun _ => ?_
    | ((try lift_lets); intro u; first | (refine Ev.cut (z := z) u ?_ ?_; (subst u); rotate_left; clear_value u; intro _) | (refine Ev.cut (z := z) u.st ?_ ?_; (subst u); rotate_left; clear_value u; intro _) | (refine Ev.cut (z := z) u.1 ?_ ?_; (subst u); rotate_left; clear_value u; intro _) | ((have _ := fun x => u x); subst u) | clear_value u)

theorem State.refreshMode_ev {z : State} (s : State) (hs : Ev z s) : Ev z (State.refreshMode s) := by
  unfold State.refreshMode
  repeat' first
    | with_reducible first | assumption | apply Ev.ite | apply State.setMode_ev
    | refine fun _ => ?_

theorem State.setCause_ev {z : State} (s : State) (i : Nat) (b : Bool) (hs : Ev z s) : Ev z (State.setCause s i b) := by
  unfold State.setCause
  repeat' first
    | with_reducible first | assumption | apply State.refreshMode_ev | apply State.setReg_ev

theorem State.logFault_ev {z : State} (s : State) (code cls action source partition data : Nat) (hs : Ev z s) : Ev z (State.logFault s code cls action source partition data) := by
  unfold State.logFault
  repeat' first
    | with_reducible first | assumption | apply Ev.ite | apply State.setReg_ev | apply State.setTab_ev | apply State.trigger_ev
    | refine fun _ => ?_
    | ((try lift_lets); intro u; first | (refine Ev.cut (z := z) u ?_ ?_; (subst u); rotate_left; clear_value u; intro _) | (refine Ev.cut (z := z) u.st ?_ ?_; (subst u); rotate_left; clear_value u; intro _) | (refine Ev.cut (z := z) u.1 ?_ ?_; (subst u); rotate_left; clear_value u; intro _) | ((have _ := fun x => u x); subst u) | clear_value u)

theorem State.fatalFault_ev {z : State} (s : State) (kind code source partition data : Nat) (hs : Ev z s) : Ev z (State.fatalFault s kind code source partition data) := by
  unfold State.fatalFault
  repeat' first
    | with_reducible first | assumption | apply Ev.ite | apply State.logFault_ev | apply State.setCause_ev | apply State.setTab_ev
    | refine fun _ => ?_
    | ((try lift_lets); intro u; first | (refine Ev.cut (z := z) u ?_ ?_; (subst u); rotate_left; clear_value u; intro _) | (refine Ev.cut (z := z) u.st ?_ ?_; (subst u); rotate_left; clear_value u; intro _) | (refine Ev.cut (z := z) u.1 ?_ ?_; (subst u); rotate_left; clear_value u; intro _) | ((have _ := fun x => u x); subst u) | clear_value u)

theorem EvN.done {z s : State} (h : Ev z s) : EvN z s.done := EvN.next (State.deliverDue_ev s h)

end Sys2Proof.Machine
end

