-- ==== Sys2Proof/Laws/EvAccess.lean ====
section
/-!
SUPPORT. The commands keep the invariants (Laws/Evolve.lean): the operations of Machine/Access.lean.
-/
namespace Sys2Proof.Machine

theorem Ev.done {z s : State} (h : Ev z s) : Ev z (Res.done s).st := h
theorem Ev.fail {z s : State} {c d : Nat} (h : Ev z s) : Ev z (Res.fail s c d).st := h
theorem Ev.failResv {z s : State} {c n : Nat} (h : Ev z s) : Ev z (Res.failResv s c n).st := h
theorem Ev.ite_st {z : State} {a b : Res} {c : Prop} [Decidable c] (ha : c → Ev z a.st) (hb : ¬c → Ev z b.st) :
    Ev z (if c then a else b).st := by split <;> simp_all
theorem EvN.res {z : State} {r : Res} (h : Ev z r.st) : EvN z r.next := EvN.done h

theorem State.checkObject_ev {z s : State} {a : Asker} {op idx sub : Nat} {res : Res} (h : Ev z s)
    (e : s.checkObject a op idx sub = .refuse res) : Ev z res.st := by
  have hd : Ev z (s.denied a idx) := by
    unfold State.denied; exact State.setReg_ev (State.setReg_ev (State.bump_ev _ _ _ _ h))
  unfold State.checkObject at e
  repeat' first
    | split at e
    | (cases e <;> first | exact h | exact hd)
    | (dsimp only at e; split at e)

theorem Res.done_ev {z : State} (s : State) (hs : Ev z s) : Ev z (Res.done s).st := by
  unfold Res.done
  repeat' first
    | with_reducible first | assumption
    | dsimp only

theorem Res.fail_ev {z : State} (s : State) (code : Nat) (detail : Nat) (hs : Ev z s) : Ev z (Res.fail s code detail).st := by
  unfold Res.fail
  repeat' first
    | with_reducible first | assumption
    | dsimp only

theorem Res.failResv_ev {z : State} (s : State) (code n : Nat) (hs : Ev z s) : Ev z (Res.failResv s code n).st := by
  unfold Res.failResv
  repeat' first
    | with_reducible first | assumption
    | dsimp only

theorem State.denied_ev {z : State} (s : State) (a : Asker) (idx : Nat) (hs : Ev z s) : Ev z (State.denied s a idx) := by
  unfold State.denied
  repeat' first
    | with_reducible first | assumption | apply State.bump_ev | apply State.setReg_ev

theorem State.configChanged_ev {z : State} (s : State) (hs : Ev z s) : Ev z (State.configChanged s) := by
  unfold State.configChanged
  repeat' first
    | with_reducible first | assumption | apply State.bump_ev

theorem State.performWrite_ev {z : State} (s : State) (op idx sub : Nat) (r : Sub) (eff : State → Res) (hs : Ev z s) (heff : ∀ u, Ev z u → Ev z (eff u).st) : Ev z (State.performWrite s op idx sub r eff).st := by
  unfold State.performWrite
  repeat' first
    | with_reducible first | assumption | apply Ev.ite | apply Ev.ite_st | apply Ev.fail | apply Res.fail_ev | apply State.configChanged_ev | apply heff
    | refine fun _ => ?_
    | ((try lift_lets); intro u; first | (refine Ev.cut (z := z) u ?_ ?_; (subst u); rotate_left; clear_value u; intro _) | (refine Ev.cut (z := z) u.st ?_ ?_; (subst u); rotate_left; clear_value u; intro _) | (refine Ev.cut (z := z) u.1 ?_ ?_; (subst u); rotate_left; clear_value u; intro _) | ((have _ := fun x => u x); subst u) | clear_value u)
    | dsimp only

theorem State.hostWrite_ev {z : State} (s : State) (w idx sub v : Nat) (eff : State → Res) (hs : Ev z s)
    (heff : ∀ u, Ev z u → Ev z (eff u).st) : Ev z (State.hostWrite s w idx sub v eff).st := by
  unfold State.hostWrite
  repeat' first
    | with_reducible first | assumption | apply Ev.ite_st | apply Ev.fail | apply State.performWrite_ev | apply heff
    | intro _
    | exact State.checkObject_ev hs (by assumption)
    | split

theorem State.hostBlockWrite_ev {z : State} (s : State) (w idx sub off : Nat) (data : Bytes) (eff : State → Res) (hs : Ev z s)
    (heff : ∀ u, Ev z u → Ev z (eff u).st) : Ev z (State.hostBlockWrite s w idx sub off data eff).st := by
  unfold State.hostBlockWrite
  repeat' first
    | with_reducible first | assumption | apply Ev.ite_st | apply Ev.fail | apply State.performWrite_ev | apply heff
    | intro _
    | exact State.checkObject_ev hs (by assumption)
    | split

theorem State.store_ev {z : State} (s : State) (k v : Nat) (hs : Ev z s) : Ev z (State.store s k v).st := by
  unfold State.store
  repeat' first
    | with_reducible first | assumption | apply Ev.done | apply Res.done_ev | apply State.setReg_ev

end Sys2Proof.Machine
end

