-- ==== Sys2Proof/Laws/EvBenchRegs.lean ====
section
/-!
SUPPORT. The commands keep the invariants (Laws/Evolve.lean): the operations of Machine/BenchRegs.lean.
-/
namespace Sys2Proof.Machine

theorem State.setS_ev {z : State} (s : State) (b i v : Nat) (hs : Ev z s) : Ev z (State.setS s b i v) := by
  unfold State.setS
  repeat' first
    | with_reducible first | assumption | apply State.setTab_ev

theorem State.setV_ev {z : State} (s : State) (b i v : Nat) (hs : Ev z s) : Ev z (State.setV s b i v) := by
  unfold State.setV
  repeat' first
    | with_reducible first | assumption | apply State.setTab_ev

theorem State.setT_ev {z : State} (s : State) (b i v : Nat) (hs : Ev z s) : Ev z (State.setT s b i v) := by
  unfold State.setT
  repeat' first
    | with_reducible first | assumption | apply State.setTab_ev

theorem State.setCw_ev {z : State} (s : State) (b k v : Nat) (hs : Ev z s) : Ev z (State.setCw s b k v) := by
  unfold State.setCw
  repeat' first
    | with_reducible first | assumption | apply State.setTab_ev

theorem State.setMisc_ev {z : State} (s : State) (b k v : Nat) (hs : Ev z s) : Ev z (State.setMisc s b k v) := by
  unfold State.setMisc
  repeat' first
    | with_reducible first | assumption | apply State.setTab_ev

theorem State.setStatus_ev {z : State} (s : State) (b i : Nat) (hs : Ev z s) : Ev z (State.setStatus s b i) := by
  unfold State.setStatus
  repeat' first
    | with_reducible first | assumption | apply State.setCw_ev

theorem State.setEntries_ev {z : State} (s : State) (t base n : Nat) (l : List Nat) (hs : Ev z s) : Ev z (State.setEntries s t base n l) := by
  unfold State.setEntries
  repeat' first
    | with_reducible first | assumption | apply State.forAll_ev | apply State.setTab_ev
    | refine fun _ => ?_
    | dsimp only
    | (with_reducible apply Ev.fst; assumption)
    | split

theorem State.setRetStack_ev {z : State} (s : State) (b : Nat) (l : List Nat) (hs : Ev z s) : Ev z (State.setRetStack s b l) := by
  unfold State.setRetStack
  repeat' first
    | with_reducible first | assumption | apply State.setEntries_ev

theorem State.setLoopStack_ev {z : State} (s : State) (b : Nat) (l : List Nat) (hs : Ev z s) : Ev z (State.setLoopStack s b l) := by
  unfold State.setLoopStack
  repeat' first
    | with_reducible first | assumption | apply State.setEntries_ev

theorem State.setSendQueue_ev {z : State} (s : State) (b : Nat) (l : List Nat) (hs : Ev z s) : Ev z (State.setSendQueue s b l) := by
  unfold State.setSendQueue
  repeat' first
    | with_reducible first | assumption | apply State.setEntries_ev

theorem State.setScratch_ev {z : State} (s : State) (b a : Nat) (x : Bytes) (hs : Ev z s) : Ev z (State.setScratch s b a x) := by
  unfold State.setScratch
  repeat' first
    | with_reducible first | assumption | apply State.setBytes_ev

theorem State.ringWrite_ev {z : State} (s : State) (b off : Nat) (x : Bytes) (hs : Ev z s) : Ev z (State.ringWrite s b off x) := by
  induction x generalizing s off with
  | nil => exact hs
  | cons x t ih =>
    unfold State.ringWrite
    apply ih
    exact State.when_ev hs fun u hu => State.setByte_ev hu

theorem State.ringReceive_ev {z : State} (s : State) (b : Nat) (srcPort ts : Nat) (x : Bytes) (hs : Ev z s) : Ev z (State.ringReceive s b srcPort ts x) := by
  unfold State.ringReceive
  repeat' first
    | with_reducible first | assumption | apply State.drew_ev | apply State.ringWrite_ev | apply State.setCw_ev
    | ((try lift_lets); intro u; first | (refine Ev.cut (z := z) u ?_ ?_; (subst u); rotate_left; clear_value u; intro _) | (refine Ev.cut (z := z) u.st ?_ ?_; (subst u); rotate_left; clear_value u; intro _) | (refine Ev.cut (z := z) u.1 ?_ ?_; (subst u); rotate_left; clear_value u; intro _) | ((have _ := fun x => u x); subst u) | clear_value u)

end Sys2Proof.Machine
end

