-- ==== Sys2Proof/Laws/EvOperands.lean ====
section
/-!
SUPPORT. The commands keep the invariants (Laws/Evolve.lean): the operations of Machine/Operands.lean.
-/
namespace Sys2Proof.Machine

theorem State.putLoad_ev {z : State} (s : State) (b : Nat) (x : MemSlot) (d : Bytes) (hs : Ev z s) : Ev z (State.putLoad s b x d) := by
  unfold State.putLoad
  repeat' first
    | with_reducible first | assumption | apply Ev.ite | apply State.setS_ev | apply State.setV_ev
    | refine fun _ => ?_

end Sys2Proof.Machine
end

