-- ==== Sys2Proof/Laws/EvArith.lean ====
section
/-!
SUPPORT. The commands keep the invariants (Laws/Evolve.lean): the operations of Machine/Arith.lean.
-/
namespace Sys2Proof.Machine

theorem State.runScalar_ev {z : State} (s0 s : State) (b : Nat) (o : ScalarOp) (x : ScalarSlot) (imm : Nat) (hs0 : Ev z s0) (hs : Ev z s) : Ev z (State.runScalar s0 s b o x imm) := by
  unfold State.runScalar
  repeat' first
    | with_reducible first | assumption | apply Ev.ite | apply State.when_ev | apply State.drew_ev | apply State.setS_ev | apply State.setTab_ev
    | refine fun _ => ?_
    | ((try lift_lets); intro u; first | (refine Ev.cut (z := z) u ?_ ?_; (subst u); rotate_left; clear_value u; intro _) | (refine Ev.cut (z := z) u.st ?_ ?_; (subst u); rotate_left; clear_value u; intro _) | (refine Ev.cut (z := z) u.1 ?_ ?_; (subst u); rotate_left; clear_value u; intro _) | ((have _ := fun x => u x); subst u) | clear_value u)
    | dsimp only

theorem State.unitScalar_ev {z : State} (s : State) (b : Nat) (o : ScalarOp) (x : ScalarSlot) (imm : Nat) (hs : Ev z s) : Ev z (State.unitScalar s b o x imm) := by
  unfold State.unitScalar
  repeat' first
    | with_reducible first | assumption | apply Ev.ite | apply State.runScalar_ev
    | refine fun _ => ?_

theorem execAdd_ev {z : State} (b : BenchNo) (x : ScalarSlot) (imm : Fin 262144) (s : State) (hs : Ev z s) : EvN z (execAdd b x imm s) := by
  unfold execAdd
  repeat' first
    | with_reducible first | assumption | apply EvN.done | apply Res.done_ev | apply State.unitScalar_ev

theorem execSub_ev {z : State} (b : BenchNo) (x : ScalarSlot) (imm : Fin 262144) (s : State) (hs : Ev z s) : EvN z (execSub b x imm s) := by
  unfold execSub
  repeat' first
    | with_reducible first | assumption | apply EvN.done | apply Res.done_ev | apply State.unitScalar_ev

theorem execAnd_ev {z : State} (b : BenchNo) (x : ScalarSlot) (imm : Fin 262144) (s : State) (hs : Ev z s) : EvN z (execAnd b x imm s) := by
  unfold execAnd
  repeat' first
    | with_reducible first | assumption | apply EvN.done | apply Res.done_ev | apply State.unitScalar_ev

theorem execOr_ev {z : State} (b : BenchNo) (x : ScalarSlot) (imm : Fin 262144) (s : State) (hs : Ev z s) : EvN z (execOr b x imm s) := by
  unfold execOr
  repeat' first
    | with_reducible first | assumption | apply EvN.done | apply Res.done_ev | apply State.unitScalar_ev

theorem execXor_ev {z : State} (b : BenchNo) (x : ScalarSlot) (imm : Fin 262144) (s : State) (hs : Ev z s) : EvN z (execXor b x imm s) := by
  unfold execXor
  repeat' first
    | with_reducible first | assumption | apply EvN.done | apply Res.done_ev | apply State.unitScalar_ev

theorem execShl_ev {z : State} (b : BenchNo) (x : ScalarSlot) (imm : Fin 262144) (s : State) (hs : Ev z s) : EvN z (execShl b x imm s) := by
  unfold execShl
  repeat' first
    | with_reducible first | assumption | apply EvN.done | apply Res.done_ev | apply State.unitScalar_ev

theorem execShr_ev {z : State} (b : BenchNo) (x : ScalarSlot) (imm : Fin 262144) (s : State) (hs : Ev z s) : EvN z (execShr b x imm s) := by
  unfold execShr
  repeat' first
    | with_reducible first | assumption | apply EvN.done | apply Res.done_ev | apply State.unitScalar_ev

theorem execSar_ev {z : State} (b : BenchNo) (x : ScalarSlot) (imm : Fin 262144) (s : State) (hs : Ev z s) : EvN z (execSar b x imm s) := by
  unfold execSar
  repeat' first
    | with_reducible first | assumption | apply EvN.done | apply Res.done_ev | apply State.unitScalar_ev

theorem execCmp_ev {z : State} (b : BenchNo) (x : ScalarSlot) (imm : Fin 262144) (s : State) (hs : Ev z s) : EvN z (execCmp b x imm s) := by
  unfold execCmp
  repeat' first
    | with_reducible first | assumption | apply EvN.done | apply Res.done_ev | apply State.unitScalar_ev

theorem execMov_ev {z : State} (b : BenchNo) (x : ScalarSlot) (imm : Fin 262144) (s : State) (hs : Ev z s) : EvN z (execMov b x imm s) := by
  unfold execMov
  repeat' first
    | with_reducible first | assumption | apply EvN.done | apply Res.done_ev | apply State.unitScalar_ev

theorem execMul_ev {z : State} (b : BenchNo) (x : ScalarSlot) (imm : Fin 262144) (s : State) (hs : Ev z s) : EvN z (execMul b x imm s) := by
  unfold execMul
  repeat' first
    | with_reducible first | assumption | apply EvN.done | apply Res.done_ev | apply State.unitScalar_ev

theorem execDivu_ev {z : State} (b : BenchNo) (x : ScalarSlot) (imm : Fin 262144) (s : State) (hs : Ev z s) : EvN z (execDivu b x imm s) := by
  unfold execDivu
  repeat' first
    | with_reducible first | assumption | apply EvN.done | apply Res.done_ev | apply State.unitScalar_ev

theorem execDivs_ev {z : State} (b : BenchNo) (x : ScalarSlot) (imm : Fin 262144) (s : State) (hs : Ev z s) : EvN z (execDivs b x imm s) := by
  unfold execDivs
  repeat' first
    | with_reducible first | assumption | apply EvN.done | apply Res.done_ev | apply State.unitScalar_ev

theorem execRemu_ev {z : State} (b : BenchNo) (x : ScalarSlot) (imm : Fin 262144) (s : State) (hs : Ev z s) : EvN z (execRemu b x imm s) := by
  unfold execRemu
  repeat' first
    | with_reducible first | assumption | apply EvN.done | apply Res.done_ev | apply State.unitScalar_ev

theorem execRems_ev {z : State} (b : BenchNo) (x : ScalarSlot) (imm : Fin 262144) (s : State) (hs : Ev z s) : EvN z (execRems b x imm s) := by
  unfold execRems
  repeat' first
    | with_reducible first | assumption | apply EvN.done | apply Res.done_ev | apply State.unitScalar_ev

theorem execMins_ev {z : State} (b : BenchNo) (x : ScalarSlot) (imm : Fin 262144) (s : State) (hs : Ev z s) : EvN z (execMins b x imm s) := by
  unfold execMins
  repeat' first
    | with_reducible first | assumption | apply EvN.done | apply Res.done_ev | apply State.unitScalar_ev

theorem execMaxs_ev {z : State} (b : BenchNo) (x : ScalarSlot) (imm : Fin 262144) (s : State) (hs : Ev z s) : EvN z (execMaxs b x imm s) := by
  unfold execMaxs
  repeat' first
    | with_reducible first | assumption | apply EvN.done | apply Res.done_ev | apply State.unitScalar_ev

theorem execFadd_ev {z : State} (b : BenchNo) (x : ScalarSlot) (imm : Fin 262144) (s : State) (hs : Ev z s) : EvN z (execFadd b x imm s) := by
  unfold execFadd
  repeat' first
    | with_reducible first | assumption | apply EvN.done | apply Res.done_ev | apply State.unitScalar_ev

theorem execFsub_ev {z : State} (b : BenchNo) (x : ScalarSlot) (imm : Fin 262144) (s : State) (hs : Ev z s) : EvN z (execFsub b x imm s) := by
  unfold execFsub
  repeat' first
    | with_reducible first | assumption | apply EvN.done | apply Res.done_ev | apply State.unitScalar_ev

theorem execFmul_ev {z : State} (b : BenchNo) (x : ScalarSlot) (imm : Fin 262144) (s : State) (hs : Ev z s) : EvN z (execFmul b x imm s) := by
  unfold execFmul
  repeat' first
    | with_reducible first | assumption | apply EvN.done | apply Res.done_ev | apply State.unitScalar_ev

theorem execFma_ev {z : State} (b : BenchNo) (x : ScalarSlot) (imm : Fin 262144) (s : State) (hs : Ev z s) : EvN z (execFma b x imm s) := by
  unfold execFma
  repeat' first
    | with_reducible first | assumption | apply EvN.done | apply Res.done_ev | apply State.unitScalar_ev

theorem execFdiv_ev {z : State} (b : BenchNo) (x : ScalarSlot) (imm : Fin 262144) (s : State) (hs : Ev z s) : EvN z (execFdiv b x imm s) := by
  unfold execFdiv
  repeat' first
    | with_reducible first | assumption | apply EvN.done | apply Res.done_ev | apply State.unitScalar_ev

theorem execFsqrt_ev {z : State} (b : BenchNo) (x : ScalarSlot) (imm : Fin 262144) (s : State) (hs : Ev z s) : EvN z (execFsqrt b x imm s) := by
  unfold execFsqrt
  repeat' first
    | with_reducible first | assumption | apply EvN.done | apply Res.done_ev | apply State.unitScalar_ev

theorem execFcmp_ev {z : State} (b : BenchNo) (x : ScalarSlot) (imm : Fin 262144) (s : State) (hs : Ev z s) : EvN z (execFcmp b x imm s) := by
  unfold execFcmp
  repeat' first
    | with_reducible first | assumption | apply EvN.done | apply Res.done_ev | apply State.unitScalar_ev

theorem execItof_ev {z : State} (b : BenchNo) (x : ScalarSlot) (imm : Fin 262144) (s : State) (hs : Ev z s) : EvN z (execItof b x imm s) := by
  unfold execItof
  repeat' first
    | with_reducible first | assumption | apply EvN.done | apply Res.done_ev | apply State.unitScalar_ev

theorem execFtoi_ev {z : State} (b : BenchNo) (x : ScalarSlot) (imm : Fin 262144) (s : State) (hs : Ev z s) : EvN z (execFtoi b x imm s) := by
  unfold execFtoi
  repeat' first
    | with_reducible first | assumption | apply EvN.done | apply Res.done_ev | apply State.unitScalar_ev

theorem execVget_ev {z : State} (b : BenchNo) (x : ScalarSlot) (imm : Fin 262144) (s : State) (hs : Ev z s) : EvN z (execVget b x imm s) := by
  unfold execVget
  repeat' first
    | with_reducible first | assumption | apply EvN.done | apply Res.done_ev | apply State.unitScalar_ev

theorem State.runVector_ev {z : State} (s0 s : State) (b : Nat) (o : VectorOp) (x : VectorSlot) (hs0 : Ev z s0) (hs : Ev z s) : Ev z (State.runVector s0 s b o x) := by
  unfold State.runVector
  repeat' first
    | with_reducible first | assumption | apply Ev.ite | apply State.when_ev | apply State.setS_ev | apply State.setV_ev
    | refine fun _ => ?_
    | ((try lift_lets); intro u; first | (refine Ev.cut (z := z) u ?_ ?_; (subst u); rotate_left; clear_value u; intro _) | (refine Ev.cut (z := z) u.st ?_ ?_; (subst u); rotate_left; clear_value u; intro _) | (refine Ev.cut (z := z) u.1 ?_ ?_; (subst u); rotate_left; clear_value u; intro _) | ((have _ := fun x => u x); subst u) | clear_value u)
    | dsimp only
    | with_reducible apply Ev.upd

theorem State.unitVector_ev {z : State} (s : State) (b : Nat) (o : VectorOp) (x : VectorSlot) (hs : Ev z s) : Ev z (State.unitVector s b o x) := by
  unfold State.unitVector
  repeat' first
    | with_reducible first | assumption | apply Ev.ite | apply State.runVector_ev
    | refine fun _ => ?_

theorem execVadd_ev {z : State} (b : BenchNo) (x : VectorSlot) (s : State) (hs : Ev z s) : EvN z (execVadd b x s) := by
  unfold execVadd
  repeat' first
    | with_reducible first | assumption | apply EvN.done | apply Res.done_ev | apply State.unitVector_ev

theorem execVsub_ev {z : State} (b : BenchNo) (x : VectorSlot) (s : State) (hs : Ev z s) : EvN z (execVsub b x s) := by
  unfold execVsub
  repeat' first
    | with_reducible first | assumption | apply EvN.done | apply Res.done_ev | apply State.unitVector_ev

theorem execVmul_ev {z : State} (b : BenchNo) (x : VectorSlot) (s : State) (hs : Ev z s) : EvN z (execVmul b x s) := by
  unfold execVmul
  repeat' first
    | with_reducible first | assumption | apply EvN.done | apply Res.done_ev | apply State.unitVector_ev

theorem execVfma_ev {z : State} (b : BenchNo) (x : VectorSlot) (s : State) (hs : Ev z s) : EvN z (execVfma b x s) := by
  unfold execVfma
  repeat' first
    | with_reducible first | assumption | apply EvN.done | apply Res.done_ev | apply State.unitVector_ev

theorem execVmin_ev {z : State} (b : BenchNo) (x : VectorSlot) (s : State) (hs : Ev z s) : EvN z (execVmin b x s) := by
  unfold execVmin
  repeat' first
    | with_reducible first | assumption | apply EvN.done | apply Res.done_ev | apply State.unitVector_ev

theorem execVmax_ev {z : State} (b : BenchNo) (x : VectorSlot) (s : State) (hs : Ev z s) : EvN z (execVmax b x s) := by
  unfold execVmax
  repeat' first
    | with_reducible first | assumption | apply EvN.done | apply Res.done_ev | apply State.unitVector_ev

theorem execVcmplt_ev {z : State} (b : BenchNo) (x : VectorSlot) (s : State) (hs : Ev z s) : EvN z (execVcmplt b x s) := by
  unfold execVcmplt
  repeat' first
    | with_reducible first | assumption | apply EvN.done | apply Res.done_ev | apply State.unitVector_ev

theorem execVsel_ev {z : State} (b : BenchNo) (x : VectorSlot) (s : State) (hs : Ev z s) : EvN z (execVsel b x s) := by
  unfold execVsel
  repeat' first
    | with_reducible first | assumption | apply EvN.done | apply Res.done_ev | apply State.unitVector_ev

theorem execVdiv_ev {z : State} (b : BenchNo) (x : VectorSlot) (s : State) (hs : Ev z s) : EvN z (execVdiv b x s) := by
  unfold execVdiv
  repeat' first
    | with_reducible first | assumption | apply EvN.done | apply Res.done_ev | apply State.unitVector_ev

theorem execVsqrt_ev {z : State} (b : BenchNo) (x : VectorSlot) (s : State) (hs : Ev z s) : EvN z (execVsqrt b x s) := by
  unfold execVsqrt
  repeat' first
    | with_reducible first | assumption | apply EvN.done | apply Res.done_ev | apply State.unitVector_ev

theorem execVhsum_ev {z : State} (b : BenchNo) (x : VectorSlot) (s : State) (hs : Ev z s) : EvN z (execVhsum b x s) := by
  unfold execVhsum
  repeat' first
    | with_reducible first | assumption | apply EvN.done | apply Res.done_ev | apply State.unitVector_ev

theorem execVbcast_ev {z : State} (b : BenchNo) (x : VectorSlot) (s : State) (hs : Ev z s) : EvN z (execVbcast b x s) := by
  unfold execVbcast
  repeat' first
    | with_reducible first | assumption | apply EvN.done | apply Res.done_ev | apply State.unitVector_ev

theorem execVshuf_ev {z : State} (b : BenchNo) (x : VectorSlot) (s : State) (hs : Ev z s) : EvN z (execVshuf b x s) := by
  unfold execVshuf
  repeat' first
    | with_reducible first | assumption | apply EvN.done | apply Res.done_ev | apply State.unitVector_ev

theorem execVcvti_ev {z : State} (b : BenchNo) (x : VectorSlot) (s : State) (hs : Ev z s) : EvN z (execVcvti b x s) := by
  unfold execVcvti
  repeat' first
    | with_reducible first | assumption | apply EvN.done | apply Res.done_ev | apply State.unitVector_ev

theorem execVcvtf_ev {z : State} (b : BenchNo) (x : VectorSlot) (s : State) (hs : Ev z s) : EvN z (execVcvtf b x s) := by
  unfold execVcvtf
  repeat' first
    | with_reducible first | assumption | apply EvN.done | apply Res.done_ev | apply State.unitVector_ev

end Sys2Proof.Machine
end

