-- ==== Sys2Proof/Laws/EvLedger.lean ====
section
/-!
SUPPORT. The commands keep the invariants (Laws/Evolve.lean): the operations of Machine/Ledger.lean.
-/
namespace Sys2Proof.Machine

theorem State.logTally_ev {z : State} (s : State) (quantity part h ledger found by_ outcome : Nat) (hs : Ev z s) : Ev z (State.logTally s quantity part h ledger found by_ outcome) := by
  unfold State.logTally
  repeat' first
    | with_reducible first | assumption | apply State.when_ev | apply State.setReg_ev | apply State.setTab_ev
    | refine fun _ => ?_
    | ((try lift_lets); intro u; first | (refine Ev.cut (z := z) u ?_ ?_; (subst u); rotate_left; clear_value u; intro _) | (refine Ev.cut (z := z) u.st ?_ ?_; (subst u); rotate_left; clear_value u; intro _) | (refine Ev.cut (z := z) u.1 ?_ ?_; (subst u); rotate_left; clear_value u; intro _) | ((have _ := fun x => u x); subst u) | clear_value u)
    | dsimp only

theorem State.awaitSweep_ev {z : State} (s : State) (n : Nat) (hs : Ev z s) : Ev z (State.awaitSweep s n) := by
  unfold State.awaitSweep
  repeat' first
    | with_reducible first | assumption | apply State.setTab_ev

theorem State.queueFence_ev {z : State} (s : State) (h : Nat) (log : Option Nat) (hs : Ev z s) : Ev z (State.queueFence s h log) := by
  unfold State.queueFence
  repeat' first
    | with_reducible first | assumption | apply Ev.ite | apply State.awaitSweep_ev
    | refine fun _ => ?_
    | dsimp only
    | (with_reducible apply Ev.fst; assumption)
    | split
    | with_reducible apply Ev.upd

theorem State.discrepancy_ev {z : State} (s : State) (quantity part h ledger found by_ : Nat) (hs : Ev z s) : Ev z (State.discrepancy s quantity part h ledger found by_) := by
  unfold State.discrepancy
  repeat' first
    | with_reducible first | assumption | apply Ev.ite | apply State.when_ev | apply State.event_ev | apply State.fatalFault_ev | apply State.logFault_ev | apply State.logTally_ev | apply State.queueFence_ev | apply State.setTab_ev
    | refine fun _ => ?_
    | ((try lift_lets); intro u; first | (refine Ev.cut (z := z) u ?_ ?_; (subst u); rotate_left; clear_value u; intro _) | (refine Ev.cut (z := z) u.st ?_ ?_; (subst u); rotate_left; clear_value u; intro _) | (refine Ev.cut (z := z) u.1 ?_ ?_; (subst u); rotate_left; clear_value u; intro _) | ((have _ := fun x => u x); subst u) | clear_value u)
    | dsimp only

theorem State.report_ev {z : State} (s : State) (p k n : Nat) (hs : Ev z s) : Ev z (State.report s p k n) := by
  unfold State.report
  repeat' first
    | with_reducible first | assumption | apply State.setTab_ev

theorem State.allocate_ev {z : State} (s : State) (p k n h : Nat) (hs : Ev z s) : Ev z (State.allocate s p k n h) := by
  unfold State.allocate
  repeat' first
    | with_reducible first | assumption | apply Ev.ite | apply State.discrepancy_ev | apply State.report_ev
    | refine fun _ => ?_

theorem State.unreport_ev {z : State} (s : State) (p k n h quantity : Nat) (hs : Ev z s) : Ev z (State.unreport s p k n h quantity) := by
  unfold State.unreport
  repeat' first
    | with_reducible first | assumption | apply Ev.ite | apply State.discrepancy_ev | apply State.setTab_ev
    | refine fun _ => ?_

theorem State.countDrop_ev {z : State} (s : State) (outcome port reason : Nat) (hs : Ev z s) : Ev z (State.countDrop s outcome port reason) := by
  unfold State.countDrop
  repeat' first
    | with_reducible first | assumption | apply Ev.ite | apply State.count_ev | apply State.drop_ev | apply State.setTab_ev
    | refine fun _ => ?_
    | ((try lift_lets); intro u; first | (refine Ev.cut (z := z) u ?_ ?_; (subst u); rotate_left; clear_value u; intro _) | (refine Ev.cut (z := z) u.st ?_ ?_; (subst u); rotate_left; clear_value u; intro _) | (refine Ev.cut (z := z) u.1 ?_ ?_; (subst u); rotate_left; clear_value u; intro _) | ((have _ := fun x => u x); subst u) | clear_value u)
    | dsimp only
    | (with_reducible apply Ev.fst; assumption)
    | split

theorem State.countCopyDrop_ev {z : State} (s : State) (outcome port q reason : Nat) (hs : Ev z s) : Ev z (State.countCopyDrop s outcome port q reason) := by
  unfold State.countCopyDrop
  repeat' first
    | with_reducible first | assumption | apply State.count_ev | apply State.countDrop_ev

end Sys2Proof.Machine
end

