-- ==== Sys2Proof/Laws/EvPorts.lean ====
section
/-!
SUPPORT. The commands keep the invariants (Laws/Evolve.lean): the operations of Machine/Ports.lean.
-/
namespace Sys2Proof.Machine

theorem State.setGate_ev {z : State} (s : State) (p : Nat) (g : GatePort) (hs : Ev z s) : Ev z (State.setGate s p g) := by
  unfold State.setGate
  repeat' first
    | with_reducible first | assumption
    | refine fun _ => ?_
    | dsimp only
    | with_reducible apply Ev.upd

end Sys2Proof.Machine
end

