-- ==== Sys2Proof/Laws/EvResv.lean ====
section
/-!
SUPPORT. The commands keep the invariants (Laws/Evolve.lean): the operations of Machine/Resv.lean.
-/
namespace Sys2Proof.Machine

theorem State.setCauses_ev {z : State} (s : State) (n c : Nat) (hs : Ev z s) : Ev z (State.setCauses s n c) := by
  unfold State.setCauses
  repeat' first
    | with_reducible first | assumption | apply State.when_ev | apply State.clearTabRange_ev | apply State.setTab_ev | apply State.trigger_ev
    | refine fun _ => ?_
    | ((try lift_lets); intro u; first | (refine Ev.cut (z := z) u ?_ ?_; (subst u); rotate_left; clear_value u; intro _) | (refine Ev.cut (z := z) u.st ?_ ?_; (subst u); rotate_left; clear_value u; intro _) | (refine Ev.cut (z := z) u.1 ?_ ?_; (subst u); rotate_left; clear_value u; intro _) | ((have _ := fun x => u x); subst u) | clear_value u)
    | dsimp only

theorem State.refreshResvs_ev {z : State} (s : State) (hs : Ev z s) : Ev z (State.refreshResvs s) := by
  unfold State.refreshResvs
  repeat' first
    | with_reducible first | assumption | apply State.forAll_ev | apply State.setCauses_ev
    | refine fun _ => ?_
    | dsimp only

theorem State.suspendAll_ev {z : State} (s : State) (c : Nat) (hs : Ev z s) : Ev z (State.suspendAll s c) := by
  unfold State.suspendAll
  repeat' first
    | with_reducible first | assumption | apply State.forAll_ev | apply State.refreshResvs_ev | apply State.setCauses_ev
    | refine fun _ => ?_
    | dsimp only

theorem State.refreshResvPort_ev {z : State} (s : State) (p : Nat) (hs : Ev z s) : Ev z (State.refreshResvPort s p) := by
  unfold State.refreshResvPort
  repeat' first
    | with_reducible first | assumption | apply State.when_ev | apply State.resetReg_ev | apply State.setReg_ev | apply State.setTab_ev
    | refine fun _ => ?_
    | ((try lift_lets); intro u; first | (refine Ev.cut (z := z) u ?_ ?_; (subst u); rotate_left; clear_value u; intro _) | (refine Ev.cut (z := z) u.st ?_ ?_; (subst u); rotate_left; clear_value u; intro _) | (refine Ev.cut (z := z) u.1 ?_ ?_; (subst u); rotate_left; clear_value u; intro _) | ((have _ := fun x => u x); subst u) | clear_value u)
    | dsimp only

theorem State.refreshResvTotals_ev {z : State} (s : State) (hs : Ev z s) : Ev z (State.refreshResvTotals s) := by
  unfold State.refreshResvTotals
  repeat' first
    | with_reducible first | assumption | apply State.forAll_ev | apply State.refreshResvPort_ev | apply State.setReg_ev
    | refine fun _ => ?_
    | ((try lift_lets); intro u; first | (refine Ev.cut (z := z) u ?_ ?_; (subst u); rotate_left; clear_value u; intro _) | (refine Ev.cut (z := z) u.st ?_ ?_; (subst u); rotate_left; clear_value u; intro _) | (refine Ev.cut (z := z) u.1 ?_ ?_; (subst u); rotate_left; clear_value u; intro _) | ((have _ := fun x => u x); subst u) | clear_value u)
    | dsimp only

theorem State.freeResv_ev {z : State} (s : State) (n : Nat) (hs : Ev z s) : Ev z (State.freeResv s n) := by
  unfold State.freeResv
  repeat' first
    | with_reducible first | assumption | apply State.forAll_ev | apply State.clearTabRange_ev | apply State.setTab_ev
    | refine fun _ => ?_
    | ((try lift_lets); intro u; first | (refine Ev.cut (z := z) u ?_ ?_; (subst u); rotate_left; clear_value u; intro _) | (refine Ev.cut (z := z) u.st ?_ ?_; (subst u); rotate_left; clear_value u; intro _) | (refine Ev.cut (z := z) u.1 ?_ ?_; (subst u); rotate_left; clear_value u; intro _) | ((have _ := fun x => u x); subst u) | clear_value u)
    | dsimp only
    | with_reducible apply Ev.upd

theorem State.keepOld_ev {z : State} (s : State) (n v cells desc : Nat) (e : Option Nat) (hs : Ev z s) : Ev z (State.keepOld s n v cells desc e) := by
  unfold State.keepOld
  repeat' first
    | with_reducible first | assumption
    | dsimp only
    | with_reducible apply Ev.upd

theorem State.withdraw_ev {z : State} (s : State) (n : Nat) (e : Option Nat) (byHost : Bool) (hs : Ev z s) : Ev z (State.withdraw s n e byHost) := by
  unfold State.withdraw
  repeat' first
    | with_reducible first | assumption | apply Ev.ite | apply State.when_ev | apply State.keepOld_ev | apply State.setTab_ev | apply State.trigger_ev
    | refine fun _ => ?_
    | ((try lift_lets); intro u; first | (refine Ev.cut (z := z) u ?_ ?_; (subst u); rotate_left; clear_value u; intro _) | (refine Ev.cut (z := z) u.st ?_ ?_; (subst u); rotate_left; clear_value u; intro _) | (refine Ev.cut (z := z) u.1 ?_ ?_; (subst u); rotate_left; clear_value u; intro _) | ((have _ := fun x => u x); subst u) | clear_value u)
    | dsimp only

theorem State.resetHistory_ev {z : State} (s : State) (i : Nat) (hs : Ev z s) : Ev z (State.resetHistory s i) := by
  unfold State.resetHistory
  repeat' first
    | with_reducible first | assumption | apply State.setTab_ev
    | ((try lift_lets); intro u; first | (refine Ev.cut (z := z) u ?_ ?_; (subst u); rotate_left; clear_value u; intro _) | (refine Ev.cut (z := z) u.st ?_ ?_; (subst u); rotate_left; clear_value u; intro _) | (refine Ev.cut (z := z) u.1 ?_ ?_; (subst u); rotate_left; clear_value u; intro _) | ((have _ := fun x => u x); subst u) | clear_value u)

theorem State.copyLeft_ev {z : State} (s : State) (e q ts : Nat) (hs : Ev z s) : Ev z (State.copyLeft s e q ts) := by
  unfold State.copyLeft
  repeat' first
    | with_reducible first | assumption | apply State.forAll_ev | apply State.setTab_ev
    | refine fun _ => ?_
    | dsimp only

end Sys2Proof.Machine
end

