-- ==== Sys2Proof/Laws/EvCalculator.lean ====
section
/-!
SUPPORT. The commands keep the invariants (Laws/Evolve.lean): the operations of Machine/Calculator.lean.
-/
namespace Sys2Proof.Machine

theorem State.storeHeld_ev {z : State} (s : State) (f : Finding) (hs : Ev z s) : Ev z (State.storeHeld s f) := by
  unfold State.storeHeld
  repeat' first
    | with_reducible first | assumption | apply State.setTab_ev

theorem State.storeBounds_ev {z : State} (s : State) (from' : Nat) (f : Finding) (hs : Ev z s) : Ev z (State.storeBounds s from' f) := by
  unfold State.storeBounds
  repeat' first
    | with_reducible first | assumption | apply State.when_ev | apply State.forAll_ev | apply State.clearTabRange_ev | apply State.setTab_ev
    | refine fun _ => ?_
    | ((try lift_lets); intro u; first | (refine Ev.cut (z := z) u ?_ ?_; (subst u); rotate_left; clear_value u; intro _) | (refine Ev.cut (z := z) u.st ?_ ?_; (subst u); rotate_left; clear_value u; intro _) | (refine Ev.cut (z := z) u.1 ?_ ?_; (subst u); rotate_left; clear_value u; intro _) | ((have _ := fun x => u x); subst u) | clear_value u)
    | dsimp only
    | with_reducible apply Ev.upd

theorem State.storeWorstQ_ev {z : State} (s : State) (fs : List Finding) (hs : Ev z s) : Ev z (State.storeWorstQ s fs) := by
  unfold State.storeWorstQ
  repeat' first
    | with_reducible first | assumption | apply State.forAll_ev | apply State.setReg_ev
    | refine fun _ => ?_
    | ((try lift_lets); intro u; first | (refine Ev.cut (z := z) u ?_ ?_; (subst u); rotate_left; clear_value u; intro _) | (refine Ev.cut (z := z) u.st ?_ ?_; (subst u); rotate_left; clear_value u; intro _) | (refine Ev.cut (z := z) u.1 ?_ ?_; (subst u); rotate_left; clear_value u; intro _) | ((have _ := fun x => u x); subst u) | clear_value u)
    | dsimp only

theorem State.refreshBounds_ev {z : State} (s : State) (from' : Nat) (hs : Ev z s) : Ev z (State.refreshBounds s from') := by
  unfold State.refreshBounds
  repeat' first
    | with_reducible first | assumption | apply State.when_ev | apply State.forAll_ev | apply State.refreshResvTotals_ev | apply State.storeBounds_ev | apply State.storeHeld_ev | apply State.storeWorstQ_ev
    | refine fun _ => ?_
    | dsimp only
    | (with_reducible apply Ev.fst; assumption)
    | split

theorem State.refreshHeld_ev {z : State} (s : State) (hs : Ev z s) : Ev z (State.refreshHeld s) := by
  unfold State.refreshHeld
  repeat' first
    | with_reducible first | assumption | apply State.when_ev | apply State.forAll_ev | apply State.refreshResvTotals_ev | apply State.storeBounds_ev | apply State.storeHeld_ev
    | refine fun _ => ?_
    | dsimp only
    | (with_reducible apply Ev.fst; assumption)
    | split

theorem State.drainResvs_ev {z : State} (s : State) (hs : Ev z s) : Ev z (State.drainResvs s) := by
  unfold State.drainResvs
  repeat' first
    | with_reducible first | assumption | apply Ev.ite | apply State.forAll_ev | apply State.freeResv_ev | apply State.refreshBounds_ev | apply State.refreshResvTotals_ev
    | refine fun _ => ?_
    | ((try lift_lets); intro u; first | (refine Ev.cut (z := z) u ?_ ?_; (subst u); rotate_left; clear_value u; intro _) | (refine Ev.cut (z := z) u.st ?_ ?_; (subst u); rotate_left; clear_value u; intro _) | (refine Ev.cut (z := z) u.1 ?_ ?_; (subst u); rotate_left; clear_value u; intro _) | ((have _ := fun x => u x); subst u) | clear_value u)
    | dsimp only
    | with_reducible apply Ev.upd

theorem State.rejected_ev {z : State} (s : State) (code : Nat) (x : Reject) (hs : Ev z s) : Ev z (State.rejected s code x).st := by
  unfold State.rejected
  repeat' first
    | with_reducible first | assumption | apply Ev.fail | apply Ev.failResv | apply Res.fail_ev | apply Res.failResv_ev | apply State.drew_ev | apply State.setReg_ev
    | ((try lift_lets); intro u; first | (refine Ev.cut (z := z) u ?_ ?_; (subst u); rotate_left; clear_value u; intro _) | (refine Ev.cut (z := z) u.st ?_ ?_; (subst u); rotate_left; clear_value u; intro _) | (refine Ev.cut (z := z) u.1 ?_ ?_; (subst u); rotate_left; clear_value u; intro _) | ((have _ := fun x => u x); subst u) | clear_value u)
    | dsimp only
    | (with_reducible apply Ev.fst; assumption)
    | split

theorem State.evaluated_ev {z : State} (s s' : State) (code : Nat) (own : List Nat) (waits : Bool) (apply : State → State) (hs : Ev z s) (hs' : Ev z s') (happly : ∀ u , Ev z u → Ev z (apply u )) : Ev z (State.evaluated s s' code own waits apply).st := by
  unfold State.evaluated
  repeat' first
    | with_reducible first | assumption | apply Ev.ite | apply Ev.ite_st | apply Ev.done | apply Res.done_ev | apply State.bump_ev | apply State.refreshBounds_ev | apply State.refreshHeld_ev | apply State.rejected_ev | apply happly
    | refine fun _ => ?_
    | ((try lift_lets); intro u; first | (refine Ev.cut (z := z) u ?_ ?_; (subst u); rotate_left; clear_value u; intro _) | (refine Ev.cut (z := z) u.st ?_ ?_; (subst u); rotate_left; clear_value u; intro _) | (refine Ev.cut (z := z) u.1 ?_ ?_; (subst u); rotate_left; clear_value u; intro _) | ((have _ := fun x => u x); subst u) | clear_value u)
    | dsimp only
    | (with_reducible apply Ev.fst; assumption)
    | split

theorem State.evaluatedFit_ev {z : State} (s s' : State) (apply : State → State) (hs : Ev z s) (hs' : Ev z s') (happly : ∀ u , Ev z u → Ev z (apply u )) : Ev z (State.evaluatedFit s s' apply).st := by
  unfold State.evaluatedFit
  repeat' first
    | with_reducible first | assumption | apply State.bump_ev | apply State.evaluated_ev | apply State.rejected_ev | apply happly
    | refine fun _ => ?_
    | dsimp only
    | (with_reducible apply Ev.fst; assumption)
    | split

end Sys2Proof.Machine
end

