-- ==== Sys2Proof/Laws/EvZdpFrame.lean ====
section
/-!
SUPPORT. The commands keep the invariants (Laws/Evolve.lean): the operations of Machine/ZdpFrame.lean.
-/
namespace Sys2Proof.Machine

theorem State.macReceived_ev {z : State} (s : State) (p n : Nat) (hs : Ev z s) : Ev z (State.macReceived s p n) := by
  unfold State.macReceived
  repeat' first
    | with_reducible first | assumption | apply State.count_ev

theorem State.macSent_ev {z : State} (s : State) (p n : Nat) (hs : Ev z s) : Ev z (State.macSent s p n) := by
  unfold State.macSent
  repeat' first
    | with_reducible first | assumption | apply State.count_ev

end Sys2Proof.Machine
end

