-- ==== Sys2Proof/Laws/EvBuffer.lean ====
section
/-!
SUPPORT. The commands keep the invariants (Laws/Evolve.lean): the operations of Machine/Buffer.lean.
-/
namespace Sys2Proof.Machine

theorem State.putFrame_ev {z : State} (s : State) (f : Frame) (hs : Ev z s) : Ev z (State.putFrame s f) := by
  unfold State.putFrame
  repeat' first
    | with_reducible first | assumption | apply Ev.ite | apply Ev.id
    | refine fun _ => ?_
    | dsimp only
    | with_reducible apply Ev.upd

theorem State.putCopy_ev {z : State} (s : State) (c : Copy) (hs : Ev z s) : Ev z (State.putCopy s c) := by
  unfold State.putCopy
  repeat' first
    | with_reducible first | assumption | apply Ev.ite | apply Ev.id
    | refine fun _ => ?_
    | dsimp only
    | with_reducible apply Ev.upd

theorem State.removeCopy_ev {z : State} (s : State) (c : Copy) (hs : Ev z s) : Ev z (State.removeCopy s c) := by
  unfold State.removeCopy
  repeat' first
    | with_reducible first | assumption | apply Ev.id | apply State.copyLeft_ev
    | refine fun _ => ?_
    | ((try lift_lets); intro u; first | (refine Ev.cut (z := z) u ?_ ?_; (subst u); rotate_left; clear_value u; intro _) | (refine Ev.cut (z := z) u.st ?_ ?_; (subst u); rotate_left; clear_value u; intro _) | (refine Ev.cut (z := z) u.1 ?_ ?_; (subst u); rotate_left; clear_value u; intro _) | ((have _ := fun x => u x); subst u) | clear_value u)
    | dsimp only
    | (with_reducible apply Ev.fst; assumption)
    | split
    | with_reducible apply Ev.upd

theorem State.setDrrActive_ev {z : State} (s : State) (p : Nat) (l : List Nat) (hs : Ev z s) : Ev z (State.setDrrActive s p l) := by
  unfold State.setDrrActive
  repeat' first
    | with_reducible first | assumption
    | refine fun _ => ?_
    | dsimp only
    | with_reducible apply Ev.upd

theorem State.setDeficit_ev {z : State} (s : State) (p q v : Nat) (hs : Ev z s) : Ev z (State.setDeficit s p q v) := by
  unfold State.setDeficit
  repeat' first
    | with_reducible first | assumption | apply State.setReg_ev

theorem State.leaveDrr_ev {z : State} (s : State) (p q : Nat) (hs : Ev z s) : Ev z (State.leaveDrr s p q) := by
  unfold State.leaveDrr
  repeat' first
    | with_reducible first | assumption | apply Ev.ite | apply State.when_ev | apply State.setDeficit_ev | apply State.setDrrActive_ev | apply State.setTab_ev
    | refine fun _ => ?_
    | ((try lift_lets); intro u; first | (refine Ev.cut (z := z) u ?_ ?_; (subst u); rotate_left; clear_value u; intro _) | (refine Ev.cut (z := z) u.st ?_ ?_; (subst u); rotate_left; clear_value u; intro _) | (refine Ev.cut (z := z) u.1 ?_ ?_; (subst u); rotate_left; clear_value u; intro _) | ((have _ := fun x => u x); subst u) | clear_value u)
    | dsimp only
    | with_reducible apply Ev.upd

theorem State.enterDrr_ev {z : State} (s : State) (p q : Nat) (hs : Ev z s) : Ev z (State.enterDrr s p q) := by
  unfold State.enterDrr
  repeat' first
    | with_reducible first | assumption | apply Ev.ite | apply State.when_ev | apply State.setDrrActive_ev | apply State.setTab_ev
    | refine fun _ => ?_
    | ((try lift_lets); intro u; first | (refine Ev.cut (z := z) u ?_ ?_; (subst u); rotate_left; clear_value u; intro _) | (refine Ev.cut (z := z) u.st ?_ ?_; (subst u); rotate_left; clear_value u; intro _) | (refine Ev.cut (z := z) u.1 ?_ ?_; (subst u); rotate_left; clear_value u; intro _) | ((have _ := fun x => u x); subst u) | clear_value u)
    | dsimp only

theorem State.settleQueue_ev {z : State} (s : State) (p q : Nat) (hs : Ev z s) : Ev z (State.settleQueue s p q) := by
  unfold State.settleQueue
  repeat' first
    | with_reducible first | assumption | apply Ev.ite | apply State.leaveDrr_ev
    | refine fun _ => ?_

theorem State.setFifo_ev {z : State} (s : State) (i : Nat) (l : List Nat) (hs : Ev z s) : Ev z (State.setFifo s i l) := by
  unfold State.setFifo
  repeat' first
    | with_reducible first | assumption
    | refine fun _ => ?_
    | dsimp only
    | with_reducible apply Ev.upd

theorem State.pullStream_ev {z : State} (s : State) (t n : Nat) (hs : Ev z s) : Ev z (State.pullStream s t n) := by
  induction n generalizing s with
  | zero => exact hs
  | succ n ih =>
    unfold State.pullStream
    repeat' first
      | with_reducible first | assumption | apply Ev.ite | apply ih | apply State.setTab_ev | apply State.setFifo_ev
      | refine fun _ => ?_
      | ((try lift_lets); intro u; first | (refine Ev.cut (z := z) u ?_ ?_; (subst u); rotate_left; clear_value u; intro _) | (refine Ev.cut (z := z) u.st ?_ ?_; (subst u); rotate_left; clear_value u; intro _) | (refine Ev.cut (z := z) u.1 ?_ ?_; (subst u); rotate_left; clear_value u; intro _) | ((have _ := fun x => u x); subst u) | clear_value u)
      | dsimp only
      | (with_reducible apply Ev.fst; assumption)
      | split

theorem State.pushPostcard_ev {z : State} (s : State) (i rec : Nat) (hs : Ev z s) : Ev z (State.pushPostcard s i rec) := by
  unfold State.pushPostcard
  repeat' first
    | with_reducible first | assumption | apply Ev.ite | apply State.bump_ev | apply State.count_ev | apply State.event_ev | apply State.pullStream_ev | apply State.setFifo_ev | apply State.setTab_ev
    | refine fun _ => ?_
    | ((try lift_lets); intro u; first | (refine Ev.cut (z := z) u ?_ ?_; (subst u); rotate_left; clear_value u; intro _) | (refine Ev.cut (z := z) u.st ?_ ?_; (subst u); rotate_left; clear_value u; intro _) | (refine Ev.cut (z := z) u.1 ?_ ?_; (subst u); rotate_left; clear_value u; intro _) | ((have _ := fun x => u x); subst u) | clear_value u)

theorem State.framePostcard_ev {z : State} (s : State) (f : Frame) (port outcome reason : Nat) (hs : Ev z s) : Ev z (State.framePostcard s f port outcome reason) := by
  unfold State.framePostcard
  repeat' first
    | with_reducible first | assumption | apply State.when_ev | apply State.pushPostcard_ev
    | refine fun _ => ?_
    | dsimp only

theorem State.copyPostcard_ev {z : State} (s : State) (f : Frame) (c : Copy) (outcome reason ts : Nat) (stomped covered : Bool) (hs : Ev z s) : Ev z (State.copyPostcard s f c outcome reason ts stomped covered) := by
  unfold State.copyPostcard
  repeat' first
    | with_reducible first | assumption | apply State.when_ev | apply State.pushPostcard_ev
    | refine fun _ => ?_
    | ((try lift_lets); intro u; first | (refine Ev.cut (z := z) u ?_ ?_; (subst u); rotate_left; clear_value u; intro _) | (refine Ev.cut (z := z) u.st ?_ ?_; (subst u); rotate_left; clear_value u; intro _) | (refine Ev.cut (z := z) u.1 ?_ ?_; (subst u); rotate_left; clear_value u; intro _) | ((have _ := fun x => u x); subst u) | clear_value u)
    | dsimp only

theorem State.resvCounted_ev {z : State} (s : State) (n k amt : Nat) (hs : Ev z s) : Ev z (State.resvCounted s n k amt) := by
  unfold State.resvCounted
  repeat' first
    | with_reducible first | assumption | apply State.setTab_ev

theorem State.uncovered_ev {z : State} (s : State) (f : Frame) (copies : Nat) (hs : Ev z s) : Ev z (State.uncovered s f copies) := by
  unfold State.uncovered
  repeat' first
    | with_reducible first | assumption | apply State.resvCounted_ev
    | dsimp only
    | (with_reducible apply Ev.fst; assumption)
    | split

theorem State.breach_ev {z : State} (s : State) (f : Frame) (n port ts d : Nat) (hs : Ev z s) : Ev z (State.breach s f n port ts d) := by
  unfold State.breach
  repeat' first
    | with_reducible first | assumption | apply State.logFault_ev | apply State.resvCounted_ev | apply State.setCause_ev | apply State.trigger_ev
    | ((try lift_lets); intro u; first | (refine Ev.cut (z := z) u ?_ ?_; (subst u); rotate_left; clear_value u; intro _) | (refine Ev.cut (z := z) u.st ?_ ?_; (subst u); rotate_left; clear_value u; intro _) | (refine Ev.cut (z := z) u.1 ?_ ?_; (subst u); rotate_left; clear_value u; intro _) | ((have _ := fun x => u x); subst u) | clear_value u)

theorem State.dropInResv_ev {z : State} (s : State) (f : Frame) (reason : Nat) (hs : Ev z s) : Ev z (State.dropInResv s f reason) := by
  unfold State.dropInResv
  repeat' first
    | with_reducible first | assumption | apply Ev.ite | apply State.forAll_ev | apply State.breach_ev | apply State.resvCounted_ev | apply State.uncovered_ev
    | refine fun _ => ?_
    | dsimp only
    | (with_reducible apply Ev.fst; assumption)
    | split

theorem State.sendPfc_ev {z : State} (s : State) (p i time : Nat) (hs : Ev z s) : Ev z (State.sendPfc s p i time) := by
  unfold State.sendPfc
  repeat' first
    | with_reducible first | assumption | apply Ev.ite | apply State.count_ev | apply State.emit_ev | apply State.macSent_ev
    | refine fun _ => ?_
    | ((try lift_lets); intro u; first | (refine Ev.cut (z := z) u ?_ ?_; (subst u); rotate_left; clear_value u; intro _) | (refine Ev.cut (z := z) u.st ?_ ?_; (subst u); rotate_left; clear_value u; intro _) | (refine Ev.cut (z := z) u.1 ?_ ?_; (subst u); rotate_left; clear_value u; intro _) | ((have _ := fun x => u x); subst u) | clear_value u)
    | dsimp only

theorem State.pfcCheck_ev {z : State} (s : State) (p : Nat) (hs : Ev z s) : Ev z (State.pfcCheck s p) := by
  unfold State.pfcCheck
  repeat' first
    | with_reducible first | assumption | apply Ev.ite | apply State.forAll_ev | apply State.sendPfc_ev | apply State.setReg_ev
    | refine fun _ => ?_
    | ((try lift_lets); intro u; first | (refine Ev.cut (z := z) u ?_ ?_; (subst u); rotate_left; clear_value u; intro _) | (refine Ev.cut (z := z) u.st ?_ ?_; (subst u); rotate_left; clear_value u; intro _) | (refine Ev.cut (z := z) u.1 ?_ ?_; (subst u); rotate_left; clear_value u; intro _) | ((have _ := fun x => u x); subst u) | clear_value u)
    | dsimp only

theorem State.drained_ev {z : State} (s : State) (hs : Ev z s) : Ev z (State.drained s) := by
  unfold State.drained
  repeat' first
    | with_reducible first | assumption | apply Ev.ite | apply State.forAll_ev | apply Res.done_ev | apply State.bump_ev | apply State.drainResvs_ev | apply State.setTab_ev
    | refine fun _ => ?_
    | ((try lift_lets); intro u; first | (refine Ev.cut (z := z) u ?_ ?_; (subst u); rotate_left; clear_value u; intro _) | (refine Ev.cut (z := z) u.st ?_ ?_; (subst u); rotate_left; clear_value u; intro _) | (refine Ev.cut (z := z) u.1 ?_ ?_; (subst u); rotate_left; clear_value u; intro _) | ((have _ := fun x => u x); subst u) | clear_value u)
    | dsimp only

theorem State.dzCount_ev {z : State} (s : State) (t : Nat) (f : Frame) (n : Nat) (hs : Ev z s) : Ev z (State.dzCount s t f n) := by
  unfold State.dzCount
  repeat' first
    | with_reducible first | assumption | apply State.setTab_ev

theorem State.closeFrame_ev {z : State} (s : State) (f : Frame) (hs : Ev z s) : Ev z (State.closeFrame s f) := by
  unfold State.closeFrame
  repeat' first
    | with_reducible first | assumption | apply Ev.ite | apply Ev.id | apply State.when_ev | apply State.drained_ev | apply State.dzCount_ev | apply State.pfcCheck_ev | apply State.putFrame_ev | apply State.unreport_ev
    | refine fun _ => ?_
    | ((try lift_lets); intro u; first | (refine Ev.cut (z := z) u ?_ ?_; (subst u); rotate_left; clear_value u; intro _) | (refine Ev.cut (z := z) u.st ?_ ?_; (subst u); rotate_left; clear_value u; intro _) | (refine Ev.cut (z := z) u.1 ?_ ?_; (subst u); rotate_left; clear_value u; intro _) | ((have _ := fun x => u x); subst u) | clear_value u)
    | dsimp only
    | with_reducible apply Ev.upd

theorem State.withdrawCbSeq_ev {z : State} (s : State) (f : Frame) (hs : Ev z s) : Ev z (State.withdrawCbSeq s f) := by
  unfold State.withdrawCbSeq
  repeat' first
    | with_reducible first | assumption | apply State.when_ev | apply State.setTab_ev
    | refine fun _ => ?_
    | ((try lift_lets); intro u; first | (refine Ev.cut (z := z) u ?_ ?_; (subst u); rotate_left; clear_value u; intro _) | (refine Ev.cut (z := z) u.st ?_ ?_; (subst u); rotate_left; clear_value u; intro _) | (refine Ev.cut (z := z) u.1 ?_ ?_; (subst u); rotate_left; clear_value u; intro _) | ((have _ := fun x => u x); subst u) | clear_value u)
    | dsimp only
    | (with_reducible apply Ev.fst; assumption)
    | split

theorem State.dropWhole_ev {z : State} (s : State) (f : Frame) (reason : Nat) (hs : Ev z s) : Ev z (State.dropWhole s f reason) := by
  unfold State.dropWhole
  repeat' first
    | with_reducible first | assumption | apply Ev.id | apply State.forAll_ev | apply State.closeFrame_ev | apply State.copyLeft_ev | apply State.countDrop_ev | apply State.dropInResv_ev | apply State.framePostcard_ev | apply State.freeTag_ev | apply State.reply_ev | apply State.report_ev | apply State.settleQueue_ev | apply State.unreport_ev | apply State.withdrawCbSeq_ev
    | refine fun _ => ?_
    | ((try lift_lets); intro u; first | (refine Ev.cut (z := z) u ?_ ?_; (subst u); rotate_left; clear_value u; intro _) | (refine Ev.cut (z := z) u.st ?_ ?_; (subst u); rotate_left; clear_value u; intro _) | (refine Ev.cut (z := z) u.1 ?_ ?_; (subst u); rotate_left; clear_value u; intro _) | ((have _ := fun x => u x); subst u) | clear_value u)
    | dsimp only
    | with_reducible apply Ev.upd

theorem State.finalize_ev {z : State} (s : State) (f : Frame) (hs : Ev z s) : Ev z (State.finalize s f) := by
  unfold State.finalize
  repeat' first
    | with_reducible first | assumption | apply Ev.ite | apply State.forAll_ev | apply State.countCopyDrop_ev | apply State.framePostcard_ev | apply State.putFrame_ev | apply State.report_ev | apply State.uncovered_ev | apply State.unreport_ev
    | refine fun _ => ?_
    | ((try lift_lets); intro u; first | (refine Ev.cut (z := z) u ?_ ?_; (subst u); rotate_left; clear_value u; intro _) | (refine Ev.cut (z := z) u.st ?_ ?_; (subst u); rotate_left; clear_value u; intro _) | (refine Ev.cut (z := z) u.1 ?_ ?_; (subst u); rotate_left; clear_value u; intro _) | ((have _ := fun x => u x); subst u) | clear_value u)
    | dsimp only

theorem State.dropRef_ev {z : State} (s : State) (f : Frame) (hs : Ev z s) : Ev z (State.dropRef s f) := by
  unfold State.dropRef
  repeat' first
    | with_reducible first | assumption | apply Ev.ite | apply Ev.id | apply State.closeFrame_ev | apply State.putFrame_ev | apply State.unreport_ev
    | refine fun _ => ?_
    | ((try lift_lets); intro u; first | (refine Ev.cut (z := z) u ?_ ?_; (subst u); rotate_left; clear_value u; intro _) | (refine Ev.cut (z := z) u.st ?_ ?_; (subst u); rotate_left; clear_value u; intro _) | (refine Ev.cut (z := z) u.1 ?_ ?_; (subst u); rotate_left; clear_value u; intro _) | ((have _ := fun x => u x); subst u) | clear_value u)
    | dsimp only

theorem State.dropCopy_ev {z : State} (s : State) (c : Copy) (reason : Nat) (hs : Ev z s) : Ev z (State.dropCopy s c reason) := by
  unfold State.dropCopy
  repeat' first
    | with_reducible first | assumption | apply Ev.ite | apply Ev.id | apply State.copyPostcard_ev | apply State.countCopyDrop_ev | apply State.dropRef_ev | apply State.dropWhole_ev | apply State.putFrame_ev | apply State.removeCopy_ev | apply State.report_ev | apply State.settleQueue_ev | apply State.uncovered_ev | apply State.unreport_ev
    | refine fun _ => ?_
    | ((try lift_lets); intro u; first | (refine Ev.cut (z := z) u ?_ ?_; (subst u); rotate_left; clear_value u; intro _) | (refine Ev.cut (z := z) u.st ?_ ?_; (subst u); rotate_left; clear_value u; intro _) | (refine Ev.cut (z := z) u.1 ?_ ?_; (subst u); rotate_left; clear_value u; intro _) | ((have _ := fun x => u x); subst u) | clear_value u)
    | dsimp only
    | (with_reducible apply Ev.fst; assumption)
    | split

theorem State.abortTx_ev {z : State} (s : State) (c : Copy) (reason : Nat) (stomp : Bool) (hs : Ev z s) : Ev z (State.abortTx s c reason stomp) := by
  unfold State.abortTx
  repeat' first
    | with_reducible first | assumption | apply Ev.ite | apply State.when_ev | apply State.copyPostcard_ev | apply State.count_ev | apply State.countCopyDrop_ev | apply State.drop_ev | apply State.dropRef_ev | apply State.emit_ev | apply State.removeCopy_ev | apply State.report_ev | apply State.setTab_ev | apply State.uncovered_ev | apply State.unreport_ev
    | refine fun _ => ?_
    | ((try lift_lets); intro u; first | (refine Ev.cut (z := z) u ?_ ?_; (subst u); rotate_left; clear_value u; intro _) | (refine Ev.cut (z := z) u.st ?_ ?_; (subst u); rotate_left; clear_value u; intro _) | (refine Ev.cut (z := z) u.1 ?_ ?_; (subst u); rotate_left; clear_value u; intro _) | ((have _ := fun x => u x); subst u) | clear_value u)
    | dsimp only
    | (with_reducible apply Ev.fst; assumption)
    | split

theorem State.endCopy_ev {z : State} (s : State) (c : Copy) (reason : Nat) (stomp : Bool) (hs : Ev z s) : Ev z (State.endCopy s c reason stomp) := by
  unfold State.endCopy
  repeat' first
    | with_reducible first | assumption | apply Ev.ite | apply State.abortTx_ev | apply State.dropCopy_ev
    | refine fun _ => ?_

theorem State.endCopies_ev {z : State} (s : State) (p : Copy → Bool) (reason : Nat) (stomp : Bool) (hs : Ev z s) : Ev z (State.endCopies s p reason stomp) := by
  unfold State.endCopies
  repeat' first
    | with_reducible first | assumption | apply Ev.ite | apply State.forAll_ev | apply State.endCopy_ev
    | refine fun _ => ?_
    | dsimp only

theorem State.endFrames_ev {z : State} (s : State) (p : Frame → Bool) (reason : Nat) (stomp : Bool) (hs : Ev z s) : Ev z (State.endFrames s p reason stomp) := by
  unfold State.endFrames
  repeat' first
    | with_reducible first | assumption | apply Ev.ite | apply Ev.id | apply State.forAll_ev | apply State.dropWhole_ev | apply State.endCopies_ev
    | refine fun _ => ?_
    | dsimp only
    | (with_reducible apply Ev.fst; assumption)
    | split

theorem State.downCopies_ev {z : State} (s : State) (p : Nat) (stomp : Bool) (hs : Ev z s) : Ev z (State.downCopies s p stomp) := by
  unfold State.downCopies
  repeat' first
    | with_reducible first | assumption | apply Ev.ite | apply State.endCopies_ev
    | refine fun _ => ?_
    | ((try lift_lets); intro u; first | (refine Ev.cut (z := z) u ?_ ?_; (subst u); rotate_left; clear_value u; intro _) | (refine Ev.cut (z := z) u.st ?_ ?_; (subst u); rotate_left; clear_value u; intro _) | (refine Ev.cut (z := z) u.1 ?_ ?_; (subst u); rotate_left; clear_value u; intro _) | ((have _ := fun x => u x); subst u) | clear_value u)
    | dsimp only

end Sys2Proof.Machine
end

