-- ==== Sys2Proof/Laws/EvQueues.lean ====
section
/-!
SUPPORT. The commands keep the invariants (Laws/Evolve.lean): the operations of Machine/Queues.lean.
-/
namespace Sys2Proof.Machine

theorem State.setQLevel_ev {z : State} (s : State) (p q : Nat) (v : Int) (hs : Ev z s) : Ev z (State.setQLevel s p q v) := by
  unfold State.setQLevel
  repeat' first
    | with_reducible first | assumption | apply State.setReg_ev

theorem State.setPLevel_ev {z : State} (s : State) (p : Nat) (v : Int) (hs : Ev z s) : Ev z (State.setPLevel s p v) := by
  unfold State.setPLevel
  repeat' first
    | with_reducible first | assumption | apply State.setReg_ev

theorem State.refillPort_ev {z : State} (s : State) (p : Nat) (hs : Ev z s) : Ev z (State.refillPort s p) := by
  unfold State.refillPort
  repeat' first
    | with_reducible first | assumption | apply Ev.ite | apply State.when_ev | apply State.forAll_ev | apply State.setPLevel_ev | apply State.setQLevel_ev
    | refine fun _ => ?_
    | ((try lift_lets); intro u; first | (refine Ev.cut (z := z) u ?_ ?_; (subst u); rotate_left; clear_value u; intro _) | (refine Ev.cut (z := z) u.st ?_ ?_; (subst u); rotate_left; clear_value u; intro _) | (refine Ev.cut (z := z) u.1 ?_ ?_; (subst u); rotate_left; clear_value u; intro _) | ((have _ := fun x => u x); subst u) | clear_value u)
    | dsimp only

theorem State.refillPolicer_ev {z : State} (s : State) (i : Nat) (hs : Ev z s) : Ev z (State.refillPolicer s i) := by
  unfold State.refillPolicer
  repeat' first
    | with_reducible first | assumption | apply Ev.ite | apply State.setTab_ev
    | refine fun _ => ?_
    | ((try lift_lets); intro u; first | (refine Ev.cut (z := z) u ?_ ?_; (subst u); rotate_left; clear_value u; intro _) | (refine Ev.cut (z := z) u.st ?_ ?_; (subst u); rotate_left; clear_value u; intro _) | (refine Ev.cut (z := z) u.1 ?_ ?_; (subst u); rotate_left; clear_value u; intro _) | ((have _ := fun x => u x); subst u) | clear_value u)

theorem State.repayPolicer_ev {z : State} (s : State) (i bucket octets : Nat) (hs : Ev z s) : Ev z (State.repayPolicer s i bucket octets) := by
  unfold State.repayPolicer
  repeat' first
    | with_reducible first | assumption | apply Ev.ite | apply State.setTab_ev
    | refine fun _ => ?_
    | ((try lift_lets); intro u; first | (refine Ev.cut (z := z) u ?_ ?_; (subst u); rotate_left; clear_value u; intro _) | (refine Ev.cut (z := z) u.st ?_ ?_; (subst u); rotate_left; clear_value u; intro _) | (refine Ev.cut (z := z) u.1 ?_ ?_; (subst u); rotate_left; clear_value u; intro _) | ((have _ := fun x => u x); subst u) | clear_value u)

theorem State.blockPolicer_ev {z : State} (s : State) (i : Nat) (hs : Ev z s) : Ev z (State.blockPolicer s i) := by
  unfold State.blockPolicer
  repeat' first
    | with_reducible first | assumption | apply State.when_ev | apply State.bump_ev | apply State.setTab_ev
    | refine fun _ => ?_
    | dsimp only

theorem State.polCount_ev {z : State} (s : State) (t i : Nat) (hs : Ev z s) : Ev z (State.polCount s t i) := by
  unfold State.polCount
  repeat' first
    | with_reducible first | assumption | apply State.setTab_ev

theorem State.meter_ev {z : State} (s : State) (i octets : Nat) (hs : Ev z s) : Ev z (State.meter s i octets).1 := by
  unfold State.meter
  repeat' first
    | with_reducible first | assumption | apply Ev.ite | apply Ev.ite_fst | apply State.polCount_ev | apply State.setTab_ev
    | refine fun _ => ?_
    | ((try lift_lets); intro u; first | (refine Ev.cut (z := z) u ?_ ?_; (subst u); rotate_left; clear_value u; intro _) | (refine Ev.cut (z := z) u.st ?_ ?_; (subst u); rotate_left; clear_value u; intro _) | (refine Ev.cut (z := z) u.1 ?_ ?_; (subst u); rotate_left; clear_value u; intro _) | ((have _ := fun x => u x); subst u) | clear_value u)
    | dsimp only

theorem State.police_ev {z : State} (s : State) (i : Nat) (lenKnown : Bool) (len maxFrame : Nat) (gateOpen : Nat → Bool) (hs : Ev z s) : Ev z (State.police s i lenKnown len maxFrame gateOpen).1 := by
  unfold State.police
  repeat' first
    | with_reducible first | assumption | apply Ev.ite | apply Ev.ite_fst | apply State.when_ev | apply State.blockPolicer_ev | apply State.bump_ev | apply State.meter_ev | apply State.polCount_ev
    | refine fun _ => ?_
    | ((try lift_lets); intro u; first | (refine Ev.cut (z := z) u ?_ ?_; (subst u); rotate_left; clear_value u; intro _) | (refine Ev.cut (z := z) u.st ?_ ?_; (subst u); rotate_left; clear_value u; intro _) | (refine Ev.cut (z := z) u.1 ?_ ?_; (subst u); rotate_left; clear_value u; intro _) | ((have _ := fun x => u x); subst u) | clear_value u)
    | dsimp only

theorem State.occupyWire_ev {z : State} (s : State) (h n : Nat) (hs : Ev z s) : Ev z (State.occupyWire s h n) := by
  unfold State.occupyWire
  repeat' first
    | with_reducible first | assumption | apply State.setTab_ev

theorem State.drrPass_ev {z : State} (s : State) (p : Nat) (l : List Nat) (hs : Ev z s) : Ev z (State.drrPass s p l).1 := by
  induction l generalizing s with
  | nil => exact hs
  | cons q t ih =>
    unfold State.drrPass
    repeat' first
      | with_reducible first | assumption | apply Ev.ite | apply Ev.ite_fst | apply ih | apply State.setTab_ev | apply State.setDeficit_ev
      | refine fun _ => ?_
      | ((try lift_lets); intro u; first | (refine Ev.cut (z := z) u ?_ ?_; (subst u); rotate_left; clear_value u; intro _) | (refine Ev.cut (z := z) u.st ?_ ?_; (subst u); rotate_left; clear_value u; intro _) | (refine Ev.cut (z := z) u.1 ?_ ?_; (subst u); rotate_left; clear_value u; intro _) | ((have _ := fun x => u x); subst u) | clear_value u)
      | dsimp only
      | (with_reducible apply Ev.fst; assumption)
      | split

theorem State.drrSelect_ev {z : State} (s : State) (p n : Nat) (hs : Ev z s) : Ev z (State.drrSelect s p n).1 := by
  induction n generalizing s with
  | zero => exact hs
  | succ n ih =>
    unfold State.drrSelect
    have h := State.drrPass_ev s p (s.drrOrder p) hs
    split
    · next e => rw [e] at h; exact h
    · next e => rw [e] at h; exact ih _ h

theorem State.select_ev {z : State} (s : State) (c : Copy) (drrCharge : Nat) (hs : Ev z s) : Ev z (State.select s c drrCharge) := by
  unfold State.select
  repeat' first
    | with_reducible first | assumption | apply Ev.ite | apply Ev.id | apply State.when_ev | apply State.putCopy_ev | apply State.setPLevel_ev | apply State.setQLevel_ev | apply State.settleQueue_ev
    | refine fun _ => ?_
    | ((try lift_lets); intro u; first | (refine Ev.cut (z := z) u ?_ ?_; (subst u); rotate_left; clear_value u; intro _) | (refine Ev.cut (z := z) u.st ?_ ?_; (subst u); rotate_left; clear_value u; intro _) | (refine Ev.cut (z := z) u.1 ?_ ?_; (subst u); rotate_left; clear_value u; intro _) | ((have _ := fun x => u x); subst u) | clear_value u)
    | dsimp only
    | (with_reducible apply Ev.fst; assumption)
    | split
    | with_reducible apply Ev.upd

theorem State.selection_ev {z : State} (s : State) (p : Nat) (hs : Ev z s) : Ev z (State.selection s p) := by
  unfold State.selection
  repeat' first
    | with_reducible first | assumption | apply Ev.ite | apply State.drrSelect_ev | apply State.select_ev
    | refine fun _ => ?_
    | dsimp only
    | (with_reducible apply Ev.fst; assumption)
    | split

theorem State.recall_ev {z : State} (s : State) (c : Copy) (hs : Ev z s) : Ev z (State.recall s c) := by
  unfold State.recall
  repeat' first
    | with_reducible first | assumption | apply Ev.id | apply State.when_ev | apply State.enterDrr_ev | apply State.setDeficit_ev | apply State.setPLevel_ev | apply State.setQLevel_ev
    | refine fun _ => ?_
    | ((try lift_lets); intro u; first | (refine Ev.cut (z := z) u ?_ ?_; (subst u); rotate_left; clear_value u; intro _) | (refine Ev.cut (z := z) u.st ?_ ?_; (subst u); rotate_left; clear_value u; intro _) | (refine Ev.cut (z := z) u.1 ?_ ?_; (subst u); rotate_left; clear_value u; intro _) | ((have _ := fun x => u x); subst u) | clear_value u)
    | dsimp only
    | with_reducible apply Ev.upd

theorem State.refund_ev {z : State} (s : State) (c : Copy) (len : Nat) (hs : Ev z s) : Ev z (State.refund s c len) := by
  unfold State.refund
  repeat' first
    | with_reducible first | assumption | apply State.when_ev | apply State.putCopy_ev | apply State.setDeficit_ev | apply State.setPLevel_ev | apply State.setQLevel_ev
    | refine fun _ => ?_
    | ((try lift_lets); intro u; first | (refine Ev.cut (z := z) u ?_ ?_; (subst u); rotate_left; clear_value u; intro _) | (refine Ev.cut (z := z) u.st ?_ ?_; (subst u); rotate_left; clear_value u; intro _) | (refine Ev.cut (z := z) u.1 ?_ ?_; (subst u); rotate_left; clear_value u; intro _) | ((have _ := fun x => u x); subst u) | clear_value u)
    | dsimp only

theorem State.portLeavesUp_ev {z : State} (s : State) (p : Nat) (stomp : Bool) (hs : Ev z s) : Ev z (State.portLeavesUp s p stomp) := by
  unfold State.portLeavesUp
  repeat' first
    | with_reducible first | assumption | apply State.when_ev | apply State.forAll_ev | apply State.downCopies_ev | apply State.recall_ev
    | refine fun _ => ?_
    | ((try lift_lets); intro u; first | (refine Ev.cut (z := z) u ?_ ?_; (subst u); rotate_left; clear_value u; intro _) | (refine Ev.cut (z := z) u.st ?_ ?_; (subst u); rotate_left; clear_value u; intro _) | (refine Ev.cut (z := z) u.1 ?_ ?_; (subst u); rotate_left; clear_value u; intro _) | ((have _ := fun x => u x); subst u) | clear_value u)
    | dsimp only

theorem State.raiseMark_ev {z : State} (s : State) (k q v : Nat) (hs : Ev z s) : Ev z (State.raiseMark s k q v) := by
  unfold State.raiseMark
  repeat' first
    | with_reducible first | assumption | apply State.when_ev | apply State.setReg_ev
    | refine fun _ => ?_
    | dsimp only

theorem State.watchdogFire_ev {z : State} (s : State) (p q : Nat) (hs : Ev z s) : Ev z (State.watchdogFire s p q) := by
  unfold State.watchdogFire
  repeat' first
    | with_reducible first | assumption | apply State.when_ev | apply State.endCopies_ev | apply State.event_ev | apply State.logFault_ev | apply State.refreshResvs_ev | apply State.setReg_ev | apply State.setTab_ev
    | refine fun _ => ?_
    | ((try lift_lets); intro u; first | (refine Ev.cut (z := z) u ?_ ?_; (subst u); rotate_left; clear_value u; intro _) | (refine Ev.cut (z := z) u.st ?_ ?_; (subst u); rotate_left; clear_value u; intro _) | (refine Ev.cut (z := z) u.1 ?_ ?_; (subst u); rotate_left; clear_value u; intro _) | ((have _ := fun x => u x); subst u) | clear_value u)
    | dsimp only

theorem execSchedulerSelection_ev {z : State} (p : PortNo) (s : State) (hs : Ev z s) : EvN z (execSchedulerSelection p s) := by
  unfold execSchedulerSelection
  repeat' first
    | with_reducible first | assumption | apply EvN.done | apply Res.done_ev | apply State.selection_ev

theorem execRefillTick_ev {z : State} (s : State) (hs : Ev z s) : EvN z (execRefillTick s) := by
  unfold execRefillTick
  repeat' first
    | with_reducible first | assumption | apply EvN.done | apply State.forAll_ev | apply Res.done_ev | apply State.refillPolicer_ev | apply State.refillPort_ev
    | refine fun _ => ?_

theorem State.writeStrictMask_ev {z : State} (s : State) (p v : Nat) (hs : Ev z s) : Ev z (State.writeStrictMask s p v) := by
  unfold State.writeStrictMask
  repeat' first
    | with_reducible first | assumption | apply Ev.ite | apply State.forAll_ev | apply State.enterDrr_ev | apply State.leaveDrr_ev | apply State.setReg_ev
    | refine fun _ => ?_
    | ((try lift_lets); intro u; first | (refine Ev.cut (z := z) u ?_ ?_; (subst u); rotate_left; clear_value u; intro _) | (refine Ev.cut (z := z) u.st ?_ ?_; (subst u); rotate_left; clear_value u; intro _) | (refine Ev.cut (z := z) u.1 ?_ ?_; (subst u); rotate_left; clear_value u; intro _) | ((have _ := fun x => u x); subst u) | clear_value u)
    | dsimp only

theorem State.applySched_ev {z : State} (s : State) (p sub v : Nat) (hs : Ev z s) : Ev z (State.applySched s p sub v) := by
  unfold State.applySched
  repeat' first
    | with_reducible first | assumption | apply Ev.ite | apply State.forAll_ev | apply State.setPLevel_ev | apply State.setQLevel_ev | apply State.setReg_ev | apply State.writeStrictMask_ev
    | refine fun _ => ?_
    | dsimp only

theorem schedEffect_ev {z : State} (p sub v : Nat) (s : State) (hs : Ev z s) : Ev z (schedEffect p sub v s).st := by
  unfold schedEffect
  repeat' first
    | with_reducible first | assumption | apply Ev.ite | apply Ev.ite_st | apply Ev.done | apply Ev.fail | apply Res.done_ev | apply Res.fail_ev | apply State.applySched_ev | apply State.evaluated_ev
    | refine fun _ => ?_
    | dsimp only

theorem execPortSchedWrite_ev {z : State} (w : SessionNo) (p : PortNo) (sub value : Nat) (s : State) (hs : Ev z s) : EvN z (execPortSchedWrite w p sub value s) := by
  unfold execPortSchedWrite
  repeat' first
    | with_reducible first | assumption | apply EvN.next | apply EvN.res | apply State.hostWrite_ev | apply schedEffect_ev

theorem unblockEffect_ev {z : State} (i : Nat) (s : State) (hs : Ev z s) : Ev z (unblockEffect i s).st := by
  unfold unblockEffect
  repeat' first
    | with_reducible first | assumption | apply Ev.done | apply Res.done_ev | apply State.setTab_ev

theorem execUnblock_ev {z : State} (w : SessionNo) (policer : Nat) (s : State) (hs : Ev z s) : EvN z (execUnblock w policer s) := by
  unfold execUnblock
  repeat' first
    | with_reducible first | assumption | apply EvN.next | apply EvN.res | apply State.hostWrite_ev | apply unblockEffect_ev

theorem execPfcRefresh_ev {z : State} (p : FabricNo) (cls : Fin 8) (s : State) (hs : Ev z s) : EvN z (execPfcRefresh p cls s) := by
  unfold execPfcRefresh
  repeat' first
    | with_reducible first | assumption | apply Ev.ite | apply Ev.ite_st | apply EvN.ite | apply EvN.done | apply EvN.next | apply EvN.res | apply Res.done_ev | apply State.sendPfc_ev
    | refine fun _ => ?_

theorem execWatchdogFired_ev {z : State} (p : FabricNo) (q : QueueNo) (s : State) (hs : Ev z s) : EvN z (execWatchdogFired p q s) := by
  unfold execWatchdogFired
  repeat' first
    | with_reducible first | assumption | apply Ev.ite | apply Ev.ite_st | apply EvN.ite | apply EvN.done | apply EvN.next | apply EvN.res | apply Res.done_ev | apply State.watchdogFire_ev
    | refine fun _ => ?_

theorem execWatchdogRecovered_ev {z : State} (p : FabricNo) (q : QueueNo) (s : State) (hs : Ev z s) : EvN z (execWatchdogRecovered p q s) := by
  unfold execWatchdogRecovered
  repeat' first
    | with_reducible first | assumption | apply Ev.ite | apply Ev.ite_st | apply EvN.ite | apply EvN.done | apply EvN.next | apply EvN.res | apply Res.done_ev | apply State.event_ev | apply State.refreshResvs_ev | apply State.setReg_ev | apply State.setTab_ev
    | refine fun _ => ?_
    | ((try lift_lets); intro u; first | (refine Ev.cut (z := z) u ?_ ?_; (subst u); rotate_left; clear_value u; intro _) | (refine Ev.cut (z := z) u.st ?_ ?_; (subst u); rotate_left; clear_value u; intro _) | (refine Ev.cut (z := z) u.1 ?_ ?_; (subst u); rotate_left; clear_value u; intro _) | ((have _ := fun x => u x); subst u) | clear_value u)

theorem execPauseFault_ev {z : State} (p : FabricNo) (q : QueueNo) (s : State) (hs : Ev z s) : EvN z (execPauseFault p q s) := by
  unfold execPauseFault
  repeat' first
    | with_reducible first | assumption | apply Ev.ite | apply Ev.ite_st | apply EvN.ite | apply EvN.done | apply EvN.next | apply EvN.res | apply State.forAll_ev | apply Res.done_ev | apply State.event_ev | apply State.logFault_ev | apply State.refreshResvs_ev | apply State.setCauses_ev
    | refine fun _ => ?_
    | ((try lift_lets); intro u; first | (refine Ev.cut (z := z) u ?_ ?_; (subst u); rotate_left; clear_value u; intro _) | (refine Ev.cut (z := z) u.st ?_ ?_; (subst u); rotate_left; clear_value u; intro _) | (refine Ev.cut (z := z) u.1 ?_ ?_; (subst u); rotate_left; clear_value u; intro _) | ((have _ := fun x => u x); subst u) | clear_value u)
    | dsimp only

theorem hwmEffect_ev {z : State} (p mask : Nat) (s : State) (hs : Ev z s) : Ev z (hwmEffect p mask s).st := by
  unfold hwmEffect
  repeat' first
    | with_reducible first | assumption | apply Ev.done | apply State.forAll_ev | apply Res.done_ev | apply State.setReg_ev
    | refine fun _ => ?_
    | dsimp only

theorem execHwmClear_ev {z : State} (w : SessionNo) (p : PortNo) (mask : Nat) (s : State) (hs : Ev z s) : EvN z (execHwmClear w p mask s) := by
  unfold execHwmClear
  repeat' first
    | with_reducible first | assumption | apply EvN.next | apply EvN.res | apply State.hostWrite_ev | apply hwmEffect_ev

end Sys2Proof.Machine
end

