-- ==== Sys2Proof/Laws/EvCatalogue.lean ====
section
/-!
SUPPORT. The commands keep the invariants (Laws/Evolve.lean): the operations of Machine/Catalogue.lean.
-/
namespace Sys2Proof.Machine

theorem State.postCount_ev {z : State} (s : State) (n : Nat) (hs : Ev z s) : Ev z (State.postCount s n) := by
  unfold State.postCount
  repeat' first
    | with_reducible first | assumption | apply State.when_ev | apply State.count_ev
    | refine fun _ => ?_
    | dsimp only

end Sys2Proof.Machine
end

