-- ==== Sys2Proof/Laws/EvStages.lean ====
section
/-!
SUPPORT. The commands keep the invariants (Laws/Evolve.lean): the operations of Machine/Stages.lean.
-/
namespace Sys2Proof.Machine

theorem State.runMicro_ev {z : State} (s : State) (pipe st : Nat) (entry hv : SMap Nat) (hs : Ev z s) : Ev z (State.runMicro s pipe st entry hv).1 := by
  unfold State.runMicro
  repeat' first
    | with_reducible first | assumption | apply Ev.ite | apply Ev.ite_fst | apply State.when_ev | apply State.forAll_ev | apply State.count_ev | apply State.postCount_ev
    | refine fun _ => ?_
    | ((try lift_lets); intro u; first | (refine Ev.cut (z := z) u ?_ ?_; (subst u); rotate_left; clear_value u; intro _) | (refine Ev.cut (z := z) u.st ?_ ?_; (subst u); rotate_left; clear_value u; intro _) | (refine Ev.cut (z := z) u.1 ?_ ?_; (subst u); rotate_left; clear_value u; intro _) | ((have _ := fun x => u x); subst u) | clear_value u)
    | dsimp only
    | (with_reducible apply Ev.fst; assumption)
    | split

end Sys2Proof.Machine
end

