-- ==== Sys2Proof/Laws/EvLookup.lean ====
section
/-!
SUPPORT. The commands keep the invariants (Laws/Evolve.lean): the operations of Machine/Lookup.lean.
-/
namespace Sys2Proof.Machine

theorem State.classify_ev {z : State} (s : State) (t : Nat) (hv : SMap Nat) (hs : Ev z s) : Ev z (State.classify s t hv).1 := by
  unfold State.classify
  repeat' first
    | with_reducible first | assumption | apply Ev.ite | apply Ev.ite_fst | apply State.when_ev | apply State.bump_ev
    | refine fun _ => ?_
    | ((try lift_lets); intro u; first | (refine Ev.cut (z := z) u ?_ ?_; (subst u); rotate_left; clear_value u; intro _) | (refine Ev.cut (z := z) u.st ?_ ?_; (subst u); rotate_left; clear_value u; intro _) | (refine Ev.cut (z := z) u.1 ?_ ?_; (subst u); rotate_left; clear_value u; intro _) | ((have _ := fun x => u x); subst u) | clear_value u)
    | dsimp only
    | (with_reducible apply Ev.fst; assumption)
    | split

end Sys2Proof.Machine
end

