-- ==== Sys2Proof/Laws/EvIngress.lean ====
section
/-!
SUPPORT. The commands keep the invariants (Laws/Evolve.lean): the operations of Machine/Ingress.lean.
-/
namespace Sys2Proof.Machine

theorem Pass.put_ev {z : State} (p : Pass) (w msb lsb v : Nat)  (hp : Ev z p.st) : Ev z (Pass.put p w msb lsb v).st := by
  unfold Pass.put
  repeat' first
    | with_reducible first | assumption
    | dsimp only

theorem Pass.drop_ev {z : State} (p : Pass) (reason : Nat)  (hp : Ev z p.st) : Ev z (Pass.drop p reason).st := by
  unfold Pass.drop
  repeat' first
    | with_reducible first | assumption
    | dsimp only

theorem Pass.stage_ev {z : State} (p : Pass) (st : Nat) (fixed : Pass → Pass)  (hp : Ev z p.st) (hfixed : ∀ u, Ev z u.st → Ev z (fixed u).st) : Ev z (Pass.stage p st fixed).st := by
  unfold Pass.stage
  repeat' first
    | with_reducible first | assumption | apply State.runMicro_ev | apply hfixed
    | refine fun _ => ?_
    | ((try lift_lets); intro u; first | (refine Ev.cut (z := z) u ?_ ?_; (subst u); rotate_left; clear_value u; intro _) | (refine Ev.cut (z := z) u.st ?_ ?_; (subst u); rotate_left; clear_value u; intro _) | (refine Ev.cut (z := z) u.1 ?_ ?_; (subst u); rotate_left; clear_value u; intro _) | ((have _ := fun x => u x); subst u) | clear_value u)
    | dsimp only
    | (with_reducible apply Ev.fst; assumption)
    | split

theorem Pass.stage0_ev {z : State} (p : Pass) (hp : Ev z p.st) : Ev z (Pass.stage0 p).st := by
  unfold Pass.stage0
  extract_lets f sec ns known p1 p2 p3 p4 p5 p6
  have h1 : Ev z p1.st := Pass.put_ev _ _ _ _ _ hp
  clear_value p1
  have h2 : Ev z p2.st := Pass.put_ev _ _ _ _ _ (Pass.put_ev _ _ _ _ _ h1)
  clear_value p2
  have h3 : Ev z p3.st := Pass.put_ev _ _ _ _ _ (Pass.put_ev _ _ _ _ _ h2)
  clear_value p3
  have h4 : Ev z p4.st := Pass.put_ev _ _ _ _ _ (Pass.put_ev _ _ _ _ _ (Pass.put_ev _ _ _ _ _ h3))
  clear_value p4
  have h5 : Ev z p5.st := Pass.put_ev _ _ _ _ _ (Pass.put_ev _ _ _ _ _ h4)
  clear_value p5
  have h6 : Ev z p6.st := by
    unfold p6; split
    · exact h5
    · exact Pass.put_ev _ _ _ _ _ (Pass.put_ev _ _ _ _ _ h5)
  clear_value p6
  split
  · exact Pass.drop_ev _ _ h6
  · exact h6

theorem Pass.stage1_ev {z : State} (p : Pass)  (hp : Ev z p.st) : Ev z (Pass.stage1 p).st := by
  unfold Pass.stage1
  repeat' first
    | with_reducible first | assumption | apply Pass.put_ev

theorem Pass.lookups_ev {z : State} (p : Pass) (entry : SMap Nat)  (hp : Ev z p.st) : Ev z (Pass.lookups p entry).st := by
  unfold Pass.lookups
  repeat' first
    | with_reducible first | assumption | apply Ev.ite | apply Ev.ite_fst | apply State.classify_ev
    | refine fun _ => ?_
    | ((try lift_lets); intro u; first | (refine Ev.cut (z := z) u ?_ ?_; (subst u); rotate_left; clear_value u; intro _) | (refine Ev.cut (z := z) u.st ?_ ?_; (subst u); rotate_left; clear_value u; intro _) | (refine Ev.cut (z := z) u.1 ?_ ?_; (subst u); rotate_left; clear_value u; intro _) | ((have _ := fun x => u x); subst u) | clear_value u)
    | dsimp only
    | split
    | (with_reducible apply Ev.fst; assumption)
    | split

theorem Pass.action_ev {z : State} (p : Pass) (a : Nat)  (hp : Ev z p.st) : Ev z (Pass.action p a).st := by
  unfold Pass.action
  repeat' first
    | with_reducible first | assumption | apply State.postCount_ev
    | ((try lift_lets); intro u; first | (refine Ev.cut (z := z) u ?_ ?_; (subst u); rotate_left; clear_value u; intro _) | (refine Ev.cut (z := z) u.st ?_ ?_; (subst u); rotate_left; clear_value u; intro _) | (refine Ev.cut (z := z) u.1 ?_ ?_; (subst u); rotate_left; clear_value u; intro _) | ((have _ := fun x => u x); subst u) | clear_value u)
    | dsimp only
    | (with_reducible apply Ev.fst; assumption)
    | split

theorem Pass.mirrorAction_ev {z : State} (p : Pass) (m : Mirror)  (hp : Ev z p.st) : Ev z (Pass.mirrorAction p m).st := by
  unfold Pass.mirrorAction
  repeat' first
    | with_reducible first | assumption | apply Pass.put_ev
    | ((try lift_lets); intro u; first | (refine Ev.cut (z := z) u ?_ ?_; (subst u); rotate_left; clear_value u; intro _) | (refine Ev.cut (z := z) u.st ?_ ?_; (subst u); rotate_left; clear_value u; intro _) | (refine Ev.cut (z := z) u.1 ?_ ?_; (subst u); rotate_left; clear_value u; intro _) | ((have _ := fun x => u x); subst u) | clear_value u)

theorem Pass.resvRule_ev {z : State} (p : Pass)  (hp : Ev z p.st) : Ev z (Pass.resvRule p).st := by
  unfold Pass.resvRule
  repeat' first
    | with_reducible first | assumption | apply Ev.ite | apply Ev.ite_fst | apply Pass.put_ev | apply State.bump_ev
    | refine fun _ => ?_
    | ((try lift_lets); intro u; first | (refine Ev.cut (z := z) u ?_ ?_; (subst u); rotate_left; clear_value u; intro _) | (refine Ev.cut (z := z) u.st ?_ ?_; (subst u); rotate_left; clear_value u; intro _) | (refine Ev.cut (z := z) u.1 ?_ ?_; (subst u); rotate_left; clear_value u; intro _) | ((have _ := fun x => u x); subst u) | clear_value u)
    | dsimp only
    | split

theorem Pass.stage6_ev {z : State} (p : Pass)  (hp : Ev z p.st) : Ev z (Pass.stage6 p).st := by
  unfold Pass.stage6
  repeat' first
    | with_reducible first | assumption | apply Pass.action_ev | apply Pass.mirrorAction_ev | apply Pass.put_ev | apply Pass.resvRule_ev
    | ((try lift_lets); intro u; first | (refine Ev.cut (z := z) u ?_ ?_; (subst u); rotate_left; clear_value u; intro _) | (refine Ev.cut (z := z) u.st ?_ ?_; (subst u); rotate_left; clear_value u; intro _) | (refine Ev.cut (z := z) u.1 ?_ ?_; (subst u); rotate_left; clear_value u; intro _) | ((have _ := fun x => u x); subst u) | clear_value u)
    | dsimp only
    | (with_reducible apply Ev.fst; assumption)
    | split

theorem Pass.stage7_ev {z : State} (p : Pass)  (hp : Ev z p.st) : Ev z (Pass.stage7 p).st := by
  unfold Pass.stage7
  repeat' first
    | with_reducible first | assumption | apply Ev.ite | apply Ev.ite_fst | apply Pass.drop_ev | apply State.drop_ev | apply State.police_ev
    | refine fun _ => ?_
    | ((try lift_lets); intro u; first | (refine Ev.cut (z := z) u ?_ ?_; (subst u); rotate_left; clear_value u; intro _) | (refine Ev.cut (z := z) u.st ?_ ?_; (subst u); rotate_left; clear_value u; intro _) | (refine Ev.cut (z := z) u.1 ?_ ?_; (subst u); rotate_left; clear_value u; intro _) | ((have _ := fun x => u x); subst u) | clear_value u)
    | dsimp only
    | split
    | (with_reducible apply Ev.fst; assumption)
    | split

theorem Pass.stage8_ev {z : State} (p : Pass)  (hp : Ev z p.st) : Ev z (Pass.stage8 p).st := by
  unfold Pass.stage8
  repeat' first
    | with_reducible first | assumption | apply Ev.ite | apply Ev.ite_fst | apply State.count_ev
    | refine fun _ => ?_
    | dsimp only
    | split

theorem State.cbAdd_ev {z : State} (s : State) (i msb lsb : Nat) (hs : Ev z s) : Ev z (State.cbAdd s i msb lsb) := by
  unfold State.cbAdd
  repeat' first
    | with_reducible first | assumption | apply State.setTab_ev
    | ((try lift_lets); intro u; first | (refine Ev.cut (z := z) u ?_ ?_; (subst u); rotate_left; clear_value u; intro _) | (refine Ev.cut (z := z) u.st ?_ ?_; (subst u); rotate_left; clear_value u; intro _) | (refine Ev.cut (z := z) u.1 ?_ ?_; (subst u); rotate_left; clear_value u; intro _) | ((have _ := fun x => u x); subst u) | clear_value u)

theorem Pass.replicate_ev {z : State} (p : Pass) (i : Nat)  (hp : Ev z p.st) : Ev z (Pass.replicate p i).st := by
  unfold Pass.replicate
  repeat' first
    | with_reducible first | assumption | apply Ev.ite | apply Ev.ite_fst | apply Pass.put_ev | apply State.cbAdd_ev
    | refine fun _ => ?_
    | ((try lift_lets); intro u; first | (refine Ev.cut (z := z) u ?_ ?_; (subst u); rotate_left; clear_value u; intro _) | (refine Ev.cut (z := z) u.st ?_ ?_; (subst u); rotate_left; clear_value u; intro _) | (refine Ev.cut (z := z) u.1 ?_ ?_; (subst u); rotate_left; clear_value u; intro _) | ((have _ := fun x => u x); subst u) | clear_value u)
    | dsimp only
    | split

theorem Pass.eliminate_ev {z : State} (p : Pass) (i : Nat) (tagged : Bool)  (hp : Ev z p.st) : Ev z (Pass.eliminate p i tagged).st := by
  unfold Pass.eliminate
  repeat' first
    | with_reducible first | assumption | apply Ev.ite | apply Ev.ite_fst | apply Pass.drop_ev | apply State.cbAdd_ev | apply State.drop_ev | apply State.setTab_ev
    | refine fun _ => ?_
    | ((try lift_lets); intro u; first | (refine Ev.cut (z := z) u ?_ ?_; (subst u); rotate_left; clear_value u; intro _) | (refine Ev.cut (z := z) u.st ?_ ?_; (subst u); rotate_left; clear_value u; intro _) | (refine Ev.cut (z := z) u.1 ?_ ?_; (subst u); rotate_left; clear_value u; intro _) | ((have _ := fun x => u x); subst u) | clear_value u)
    | dsimp only
    | split

theorem Pass.stage9_ev {z : State} (p : Pass)  (hp : Ev z p.st) : Ev z (Pass.stage9 p).st := by
  unfold Pass.stage9
  repeat' first
    | with_reducible first | assumption | apply Ev.ite | apply Ev.ite_fst | apply Pass.eliminate_ev | apply Pass.replicate_ev | apply State.bump_ev
    | refine fun _ => ?_
    | ((try lift_lets); intro u; first | (refine Ev.cut (z := z) u ?_ ?_; (subst u); rotate_left; clear_value u; intro _) | (refine Ev.cut (z := z) u.st ?_ ?_; (subst u); rotate_left; clear_value u; intro _) | (refine Ev.cut (z := z) u.1 ?_ ?_; (subst u); rotate_left; clear_value u; intro _) | ((have _ := fun x => u x); subst u) | clear_value u)
    | dsimp only
    | split
    | (with_reducible apply Ev.fst; assumption)
    | split

theorem Pass.stage10_ev {z : State} (p : Pass) (hp : Ev z p.st) : Ev z (Pass.stage10 p).st := by
  unfold Pass.stage10
  dsimp only
  split
  · exact hp
  · exact hp
  · exact hp
  · split
    · apply Pass.drop_ev; exact hp
    · exact hp

theorem Pass.stage11_ev {z : State} (p : Pass)  (hp : Ev z p.st) : Ev z (Pass.stage11 p).st := by
  unfold Pass.stage11
  repeat' first
    | with_reducible first | assumption | apply State.when_ev | apply State.count_ev
    | refine fun _ => ?_
    | ((try lift_lets); intro u; first | (refine Ev.cut (z := z) u ?_ ?_; (subst u); rotate_left; clear_value u; intro _) | (refine Ev.cut (z := z) u.st ?_ ?_; (subst u); rotate_left; clear_value u; intro _) | (refine Ev.cut (z := z) u.1 ?_ ?_; (subst u); rotate_left; clear_value u; intro _) | ((have _ := fun x => u x); subst u) | clear_value u)
    | dsimp only

theorem State.ingress_ev {z : State} (s : State) (f : Frame) (hs : Ev z s) : Ev z (State.ingress s f).1 := by
  unfold State.ingress
  extract_lets f w s2 p p1 keys p2 p3 p4 p5 p6 p7
  have h2 : Ev z s2 := State.when_ev hs fun u hu => State.count_ev _ _ _ hu
  clear_value s2
  have hp : Ev z p.st := h2
  clear_value p
  have h1 : Ev z p1.st := Pass.stage_ev _ _ _ hp (fun u hu => Pass.stage0_ev u hu)
  clear_value p1
  have h2 : Ev z p2.st := Pass.stage_ev _ _ _ h1 (fun u hu => Pass.stage1_ev u hu)
  clear_value p2
  have h3 : Ev z p3.st := Pass.stage_ev _ _ _ h2 (fun u hu => Pass.lookups_ev u _ hu)
  clear_value p3
  have h4 : Ev z p4.st :=
    Pass.stage_ev _ _ _ (Pass.stage_ev _ _ _ (Pass.stage_ev _ _ _ h3 fun _ hu => hu) fun _ hu => hu) fun _ hu => hu
  clear_value p4
  have h5 : Ev z p5.st :=
    Pass.stage_ev _ _ _ (Pass.stage_ev _ _ _ h4 fun u hu => Pass.stage6_ev u hu) fun u hu => Pass.stage7_ev u hu
  clear_value p5
  have h6 : Ev z p6.st :=
    Pass.stage_ev _ _ _ (Pass.stage_ev _ _ _ h5 fun u hu => Pass.stage8_ev u hu) fun u hu => Pass.stage9_ev u hu
  clear_value p6
  have h7 : Ev z p7.st :=
    Pass.stage_ev _ _ _ (Pass.stage_ev _ _ _ h6 fun u hu => Pass.stage10_ev u hu) fun u hu => Pass.stage11_ev u hu
  clear_value p7
  exact h7

end Sys2Proof.Machine
end

