-- ==== Sys2Proof/Laws/EvEgress.lean ====
section
/-!
SUPPORT. The commands keep the invariants (Laws/Evolve.lean): the operations of Machine/Egress.lean.
-/
namespace Sys2Proof.Machine

theorem State.logTxTs_ev {z : State} (s : State) (f : Frame) (e ts : Nat) (hs : Ev z s) : Ev z (State.logTxTs s f e ts) := by
  unfold State.logTxTs
  repeat' first
    | with_reducible first | assumption | apply Ev.ite | apply State.setReg_ev
    | refine fun _ => ?_
    | ((try lift_lets); intro u; first | (refine Ev.cut (z := z) u ?_ ?_; (subst u); rotate_left; clear_value u; intro _) | (refine Ev.cut (z := z) u.st ?_ ?_; (subst u); rotate_left; clear_value u; intro _) | (refine Ev.cut (z := z) u.1 ?_ ?_; (subst u); rotate_left; clear_value u; intro _) | ((have _ := fun x => u x); subst u) | clear_value u)
    | dsimp only
    | (with_reducible apply Ev.fst; assumption)
    | split

theorem egressStage_ev {z : State} (x : State × SMap Nat) (e st : Nat) (fixed : SMap Nat → SMap Nat) (hs : Ev z x.1) :
    Ev z (egressStage x e st fixed).1 := State.runMicro_ev _ _ _ _ _ hs

theorem State.egress_ev {z : State} (s : State) (f : Frame) (c : Copy) (e : Nat) (hs : Ev z s) : Ev z (State.egress s f c e).st := by
  unfold State.egress
  repeat' first
    | with_reducible first | assumption | apply Ev.ite | apply Ev.ite_fst | apply Ev.id | apply State.when_ev | apply State.count_ev | apply egressStage_ev
    | refine fun _ => ?_
    | ((try lift_lets); intro u; first | (refine Ev.cut (z := z) u ?_ ?_; (subst u); rotate_left; clear_value u; intro _) | (refine Ev.cut (z := z) u.st ?_ ?_; (subst u); rotate_left; clear_value u; intro _) | (refine Ev.cut (z := z) u.1 ?_ ?_; (subst u); rotate_left; clear_value u; intro _) | ((have _ := fun x => u x); subst u) | clear_value u)
    | dsimp only
    | split

end Sys2Proof.Machine
end

