-- ==== Sys2Proof/Laws/EvFramePath.lean ====
section
/-!
SUPPORT. The commands keep the invariants (Laws/Evolve.lean): the operations of Machine/FramePath.lean.
-/
namespace Sys2Proof.Machine

theorem State.updateFrame_ev {z : State} (s : State) (f g : Frame) (hs : Ev z s) : Ev z (State.updateFrame s f g) := by
  unfold State.updateFrame
  repeat' first
    | with_reducible first | assumption | apply Ev.ite | apply State.allocate_ev | apply State.putFrame_ev | apply State.unreport_ev
    | refine fun _ => ?_
    | ((try lift_lets); intro u; first | (refine Ev.cut (z := z) u ?_ ?_; (subst u); rotate_left; clear_value u; intro _) | (refine Ev.cut (z := z) u.st ?_ ?_; (subst u); rotate_left; clear_value u; intro _) | (refine Ev.cut (z := z) u.1 ?_ ?_; (subst u); rotate_left; clear_value u; intro _) | ((have _ := fun x => u x); subst u) | clear_value u)

theorem State.sample_ev {z : State} (s : State) (p : Nat) (hs : Ev z s) : Ev z (State.sample s p).1 := by
  unfold State.sample
  repeat' first
    | with_reducible first | assumption | apply Ev.ite | apply Ev.ite_fst | apply State.setTab_ev
    | refine fun _ => ?_
    | ((try lift_lets); intro u; first | (refine Ev.cut (z := z) u ?_ ?_; (subst u); rotate_left; clear_value u; intro _) | (refine Ev.cut (z := z) u.st ?_ ?_; (subst u); rotate_left; clear_value u; intro _) | (refine Ev.cut (z := z) u.1 ?_ ?_; (subst u); rotate_left; clear_value u; intro _) | ((have _ := fun x => u x); subst u) | clear_value u)

theorem State.accept_ev {z : State} (s : State) (p part : Nat) (hs : Ev z s) : Ev z (State.accept s p part).1 := by
  unfold State.accept
  repeat' first
    | with_reducible first | assumption | apply State.report_ev | apply State.sample_ev
    | ((try lift_lets); intro u; first | (refine Ev.cut (z := z) u ?_ ?_; (subst u); rotate_left; clear_value u; intro _) | (refine Ev.cut (z := z) u.st ?_ ?_; (subst u); rotate_left; clear_value u; intro _) | (refine Ev.cut (z := z) u.1 ?_ ?_; (subst u); rotate_left; clear_value u; intro _) | ((have _ := fun x => u x); subst u) | clear_value u)
    | dsimp only
    | (with_reducible apply Ev.fst; assumption)
    | split
    | with_reducible apply Ev.upd

theorem State.sendPause_ev {z : State} (s : State) (h quanta : Nat) (hs : Ev z s) : Ev z (State.sendPause s h quanta) := by
  unfold State.sendPause
  repeat' first
    | with_reducible first | assumption | apply State.when_ev | apply State.emit_ev | apply State.macSent_ev
    | refine fun _ => ?_
    | dsimp only

theorem State.hostFifoCheck_ev {z : State} (s : State) (h : Nat) (hs : Ev z s) : Ev z (State.hostFifoCheck s h) := by
  unfold State.hostFifoCheck
  repeat' first
    | with_reducible first | assumption | apply Ev.ite | apply State.event_ev | apply State.sendPause_ev | apply State.setTab_ev
    | refine fun _ => ?_
    | ((try lift_lets); intro u; first | (refine Ev.cut (z := z) u ?_ ?_; (subst u); rotate_left; clear_value u; intro _) | (refine Ev.cut (z := z) u.st ?_ ?_; (subst u); rotate_left; clear_value u; intro _) | (refine Ev.cut (z := z) u.1 ?_ ?_; (subst u); rotate_left; clear_value u; intro _) | ((have _ := fun x => u x); subst u) | clear_value u)

theorem State.fifoCheckOf_ev {z : State} (s : State) (p : Nat) (hs : Ev z s) : Ev z (State.fifoCheckOf s p) := by
  unfold State.fifoCheckOf
  repeat' first
    | with_reducible first | assumption | apply State.when_ev | apply State.hostFifoCheck_ev
    | refine fun _ => ?_
    | dsimp only

theorem State.handoffTail_ev {z : State} (s : State) (f : Frame) (good : Bool) (hs : Ev z s) : Ev z (State.handoffTail s f good) := by
  unfold State.handoffTail
  repeat' first
    | with_reducible first | assumption | apply Ev.ite | apply State.bump_ev | apply State.count_ev
    | refine fun _ => ?_
    | dsimp only
    | with_reducible apply Ev.upd

theorem State.repayTail_ev {z : State} (s : State) (f : Frame) (hs : Ev z s) : Ev z (State.repayTail s f).1 := by
  unfold State.repayTail
  repeat' first
    | with_reducible first | assumption | apply Ev.ite | apply Ev.ite_fst | apply State.when_ev | apply State.blockPolicer_ev | apply State.polCount_ev | apply State.repayPolicer_ev
    | refine fun _ => ?_
    | ((try lift_lets); intro u; first | (refine Ev.cut (z := z) u ?_ ?_; (subst u); rotate_left; clear_value u; intro _) | (refine Ev.cut (z := z) u.st ?_ ?_; (subst u); rotate_left; clear_value u; intro _) | (refine Ev.cut (z := z) u.1 ?_ ?_; (subst u); rotate_left; clear_value u; intro _) | ((have _ := fun x => u x); subst u) | clear_value u)
    | dsimp only
    | (with_reducible apply Ev.fst; assumption)
    | split

theorem State.stopLong_ev {z : State} (s : State) (f : Frame) (hs : Ev z s) : Ev z (State.stopLong s f) := by
  unfold State.stopLong
  repeat' first
    | with_reducible first | assumption | apply Ev.ite | apply Ev.id | apply State.endCopies_ev
    | refine fun _ => ?_
    | dsimp only

theorem State.refundAll_ev {z : State} (s : State) (f : Frame) (hs : Ev z s) : Ev z (State.refundAll s f) := by
  unfold State.refundAll
  repeat' first
    | with_reducible first | assumption | apply Ev.id | apply State.forAll_ev | apply State.refund_ev
    | refine fun _ => ?_
    | dsimp only

theorem State.tailAdmitted_ev {z : State} (s : State) (f : Frame) (reason : Nat) (hs : Ev z s) : Ev z (State.tailAdmitted s f reason) := by
  unfold State.tailAdmitted
  repeat' first
    | with_reducible first | assumption | apply Ev.ite | apply Ev.id | apply Pass.stage_ev | apply State.dropWhole_ev | apply State.endCopies_ev | apply State.finalize_ev | apply State.pfcCheck_ev | apply State.refundAll_ev | apply State.stopLong_ev | apply State.updateFrame_ev
    | refine fun _ => ?_
    | ((try lift_lets); intro u; first | (refine Ev.cut (z := z) u ?_ ?_; (subst u); rotate_left; clear_value u; intro _) | (refine Ev.cut (z := z) u.st ?_ ?_; (subst u); rotate_left; clear_value u; intro _) | (refine Ev.cut (z := z) u.1 ?_ ?_; (subst u); rotate_left; clear_value u; intro _) | ((have _ := fun x => u x); subst u) | clear_value u)
    | dsimp only
    | (with_reducible apply Ev.fst; assumption)
    | split

theorem State.endArrival_ev {z : State} (s : State) (f : Frame) (reason len : Nat) (hs : Ev z s) : Ev z (State.endArrival s f reason len) := by
  unfold State.endArrival
  repeat' first
    | with_reducible first | assumption | apply Ev.ite | apply Ev.id | apply Pass.stage_ev | apply State.drained_ev | apply State.dropWhole_ev | apply State.handoffTail_ev | apply State.repayTail_ev | apply State.tailAdmitted_ev | apply State.updateFrame_ev
    | refine fun _ => ?_
    | ((try lift_lets); intro u; first | (refine Ev.cut (z := z) u ?_ ?_; (subst u); rotate_left; clear_value u; intro _) | (refine Ev.cut (z := z) u.st ?_ ?_; (subst u); rotate_left; clear_value u; intro _) | (refine Ev.cut (z := z) u.1 ?_ ?_; (subst u); rotate_left; clear_value u; intro _) | ((have _ := fun x => u x); subst u) | clear_value u)
    | dsimp only
    | (with_reducible apply Ev.fst; assumption)
    | split
    | with_reducible apply Ev.upd

theorem State.countRx_ev {z : State} (s : State) (p len reason : Nat) (hs : Ev z s) : Ev z (State.countRx s p len reason) := by
  unfold State.countRx
  repeat' first
    | with_reducible first | assumption | apply State.when_ev | apply State.count_ev
    | refine fun _ => ?_
    | ((try lift_lets); intro u; first | (refine Ev.cut (z := z) u ?_ ?_; (subst u); rotate_left; clear_value u; intro _) | (refine Ev.cut (z := z) u.st ?_ ?_; (subst u); rotate_left; clear_value u; intro _) | (refine Ev.cut (z := z) u.1 ?_ ?_; (subst u); rotate_left; clear_value u; intro _) | ((have _ := fun x => u x); subst u) | clear_value u)
    | dsimp only

theorem State.overrun_ev {z : State} (s : State) (f : Frame) (hs : Ev z s) : Ev z (State.overrun s f) := by
  unfold State.overrun
  repeat' first
    | with_reducible first | assumption | apply Ev.ite | apply Ev.id | apply State.dropWhole_ev | apply State.endCopies_ev | apply State.putFrame_ev
    | refine fun _ => ?_
    | ((try lift_lets); intro u; first | (refine Ev.cut (z := z) u ?_ ?_; (subst u); rotate_left; clear_value u; intro _) | (refine Ev.cut (z := z) u.st ?_ ?_; (subst u); rotate_left; clear_value u; intro _) | (refine Ev.cut (z := z) u.1 ?_ ?_; (subst u); rotate_left; clear_value u; intro _) | ((have _ := fun x => u x); subst u) | clear_value u)
    | dsimp only

theorem State.arrive_ev {z : State} (s : State) (f : Frame) (more : Bytes) (fcs : Nat) (hs : Ev z s) : Ev z (State.arrive s f more fcs).1 := by
  unfold State.arrive
  repeat' first
    | with_reducible first | assumption | apply Ev.ite | apply Ev.ite_fst | apply Ev.id | apply State.when_ev | apply Pass.stage_ev | apply State.countRx_ev | apply State.dzCount_ev | apply State.endArrival_ev | apply State.overrun_ev | apply State.pfcCheck_ev | apply State.putFrame_ev | apply State.stopLong_ev | apply State.updateFrame_ev
    | refine fun _ => ?_
    | ((try lift_lets); intro u; first | (refine Ev.cut (z := z) u ?_ ?_; (subst u); rotate_left; clear_value u; intro _) | (refine Ev.cut (z := z) u.st ?_ ?_; (subst u); rotate_left; clear_value u; intro _) | (refine Ev.cut (z := z) u.1 ?_ ?_; (subst u); rotate_left; clear_value u; intro _) | ((have _ := fun x => u x); subst u) | clear_value u)
    | dsimp only
    | (with_reducible apply Ev.fst; assumption)
    | split

theorem State.zdpFrameIn_ev {z : State} (s : State) (p : Nat) (b : Bytes) (hs : Ev z s) : Ev z (State.zdpFrameIn s p b) := by
  unfold State.zdpFrameIn
  repeat' first
    | with_reducible first | assumption | apply State.when_ev | apply State.bump_ev | apply State.macReceived_ev
    | refine fun _ => ?_
    | dsimp only
    | (with_reducible apply Ev.fst; assumption)
    | split

theorem State.controlFrameIn_ev {z : State} (s : State) (p : Nat) (b : Bytes) (hs : Ev z s) : Ev z (State.controlFrameIn s p b) := by
  unfold State.controlFrameIn
  repeat' first
    | with_reducible first | assumption | apply Pass.stage_ev
    | dsimp only
    | with_reducible apply Ev.upd

theorem State.dropArriving_ev {z : State} (s : State) (f : Frame) (b : Bytes) (reason : Nat) (hs : Ev z s) : Ev z (State.dropArriving s f b reason) := by
  unfold State.dropArriving
  repeat' first
    | with_reducible first | assumption | apply Ev.id | apply State.arrive_ev | apply State.dropWhole_ev
    | ((try lift_lets); intro u; first | (refine Ev.cut (z := z) u ?_ ?_; (subst u); rotate_left; clear_value u; intro _) | (refine Ev.cut (z := z) u.st ?_ ?_; (subst u); rotate_left; clear_value u; intro _) | (refine Ev.cut (z := z) u.1 ?_ ?_; (subst u); rotate_left; clear_value u; intro _) | ((have _ := fun x => u x); subst u) | clear_value u)
    | dsimp only
    | (with_reducible apply Ev.fst; assumption)
    | split

theorem execFrameStart_ev {z : State} (p : Fin 514) (queue : QueueNo) (octets : FrameOctets) (s : State) (hs : Ev z s) : EvN z (execFrameStart p queue octets s) := by
  unfold execFrameStart
  repeat' first
    | with_reducible first | assumption | apply Ev.ite | apply Ev.ite_st | apply EvN.ite | apply EvN.done | apply EvN.next | apply EvN.res | apply Res.done_ev | apply State.accept_ev | apply State.arrive_ev | apply State.controlFrameIn_ev | apply State.dropArriving_ev | apply State.fifoCheckOf_ev | apply State.putFrame_ev | apply State.zdpFrameIn_ev
    | refine fun _ => ?_
    | ((try lift_lets); intro u; first | (refine Ev.cut (z := z) u ?_ ?_; (subst u); rotate_left; clear_value u; intro _) | (refine Ev.cut (z := z) u.st ?_ ?_; (subst u); rotate_left; clear_value u; intro _) | (refine Ev.cut (z := z) u.1 ?_ ?_; (subst u); rotate_left; clear_value u; intro _) | ((have _ := fun x => u x); subst u) | clear_value u)
    | dsimp only
    | (with_reducible apply Ev.fst; assumption)
    | split

theorem execFrameTail_ev {z : State} (frame : Nat) (octets : FrameOctets) (tail : TailEnd) (s : State) (hs : Ev z s) : EvN z (execFrameTail frame octets tail s) := by
  unfold execFrameTail
  repeat' first
    | with_reducible first | assumption | apply Ev.ite | apply Ev.ite_st | apply EvN.ite | apply Ev.id | apply EvN.done | apply EvN.next | apply EvN.res | apply Pass.stage_ev | apply Res.done_ev | apply State.arrive_ev | apply State.countRx_ev | apply State.drained_ev | apply State.dropWhole_ev | apply State.endArrival_ev | apply State.fifoCheckOf_ev | apply State.updateFrame_ev
    | refine fun _ => ?_
    | ((try lift_lets); intro u; first | (refine Ev.cut (z := z) u ?_ ?_; (subst u); rotate_left; clear_value u; intro _) | (refine Ev.cut (z := z) u.st ?_ ?_; (subst u); rotate_left; clear_value u; intro _) | (refine Ev.cut (z := z) u.1 ?_ ?_; (subst u); rotate_left; clear_value u; intro _) | ((have _ := fun x => u x); subst u) | clear_value u)
    | dsimp only
    | (with_reducible apply Ev.fst; assumption)
    | split
    | with_reducible apply Ev.upd

theorem State.decided_ev {z : State} (s : State) (f g : Frame) (hs : Ev z s) : Ev z (State.decided s f g) := by
  unfold State.decided
  repeat' first
    | with_reducible first | assumption | apply Ev.id | apply State.pfcCheck_ev | apply State.updateFrame_ev
    | refine fun _ => ?_
    | ((try lift_lets); intro u; first | (refine Ev.cut (z := z) u ?_ ?_; (subst u); rotate_left; clear_value u; intro _) | (refine Ev.cut (z := z) u.st ?_ ?_; (subst u); rotate_left; clear_value u; intro _) | (refine Ev.cut (z := z) u.1 ?_ ?_; (subst u); rotate_left; clear_value u; intro _) | ((have _ := fun x => u x); subst u) | clear_value u)
    | dsimp only
    | with_reducible apply Ev.upd

theorem execParserStart_ev {z : State} (frame : Nat) (octets : FrameOctets) (s : State) (hs : Ev z s) : EvN z (execParserStart frame octets s) := by
  unfold execParserStart
  repeat' first
    | with_reducible first | assumption | apply Ev.ite | apply Ev.ite_st | apply EvN.ite | apply EvN.done | apply EvN.next | apply EvN.res | apply Pass.stage_ev | apply Res.done_ev | apply State.arrive_ev | apply State.decided_ev | apply State.dropWhole_ev | apply State.fifoCheckOf_ev | apply State.handoffTail_ev | apply State.ingress_ev
    | refine fun _ => ?_
    | ((try lift_lets); intro u; first | (refine Ev.cut (z := z) u ?_ ?_; (subst u); rotate_left; clear_value u; intro _) | (refine Ev.cut (z := z) u.st ?_ ?_; (subst u); rotate_left; clear_value u; intro _) | (refine Ev.cut (z := z) u.1 ?_ ?_; (subst u); rotate_left; clear_value u; intro _) | ((have _ := fun x => u x); subst u) | clear_value u)
    | dsimp only
    | (with_reducible apply Ev.fst; assumption)
    | split

theorem State.makeCopy_ev {z : State} (s : State) (f : Frame) (e : Nat) (hs : Ev z s) : Ev z (State.makeCopy s f e) := by
  unfold State.makeCopy
  repeat' first
    | with_reducible first | assumption | apply Ev.id | apply State.when_ev | apply State.allocate_ev | apply State.count_ev | apply State.enterDrr_ev | apply State.raiseMark_ev | apply State.report_ev
    | refine fun _ => ?_
    | ((try lift_lets); intro u; first | (refine Ev.cut (z := z) u ?_ ?_; (subst u); rotate_left; clear_value u; intro _) | (refine Ev.cut (z := z) u.st ?_ ?_; (subst u); rotate_left; clear_value u; intro _) | (refine Ev.cut (z := z) u.1 ?_ ?_; (subst u); rotate_left; clear_value u; intro _) | ((have _ := fun x => u x); subst u) | clear_value u)
    | dsimp only
    | with_reducible apply Ev.upd

theorem State.admitCopies_ev {z : State} (s : State) (f : Frame) (n : Nat) (l : List Nat) (hs : Ev z s) :
    Ev z (State.admitCopies s f n l).1 := by
  induction l generalizing s f with
  | nil => exact hs
  | cons e t ih =>
    unfold State.admitCopies
    split
    · exact ih _ _ hs
    · exact ih _ _ (State.makeCopy_ev _ _ _ hs)

theorem State.admitted_ev {z : State} (s : State) (f g : Frame) (hs : Ev z s) : Ev z (State.admitted s f g) := by
  unfold State.admitted
  repeat' first
    | with_reducible first | assumption | apply Ev.ite | apply Ev.id | apply State.forAll_ev | apply Pass.stage_ev | apply State.endCopy_ev | apply State.freeTag_ev | apply State.pfcCheck_ev | apply State.reply_ev | apply State.tailAdmitted_ev | apply State.updateFrame_ev
    | refine fun _ => ?_
    | ((try lift_lets); intro u; first | (refine Ev.cut (z := z) u ?_ ?_; (subst u); rotate_left; clear_value u; intro _) | (refine Ev.cut (z := z) u.st ?_ ?_; (subst u); rotate_left; clear_value u; intro _) | (refine Ev.cut (z := z) u.1 ?_ ?_; (subst u); rotate_left; clear_value u; intro _) | ((have _ := fun x => u x); subst u) | clear_value u)
    | dsimp only
    | (with_reducible apply Ev.fst; assumption)
    | split

theorem State.takeAdmission_ev {z : State} (s : State) (f : Frame) (hs : Ev z s) : Ev z (State.takeAdmission s f) := by
  unfold State.takeAdmission
  repeat' first
    | with_reducible first | assumption | apply Ev.ite | apply Pass.drop_ev | apply Pass.stage_ev | apply State.admitCopies_ev | apply State.admitted_ev | apply State.drop_ev | apply State.dropWhole_ev | apply State.putFrame_ev
    | refine fun _ => ?_
    | ((try lift_lets); intro u; first | (refine Ev.cut (z := z) u ?_ ?_; (subst u); rotate_left; clear_value u; intro _) | (refine Ev.cut (z := z) u.st ?_ ?_; (subst u); rotate_left; clear_value u; intro _) | (refine Ev.cut (z := z) u.1 ?_ ?_; (subst u); rotate_left; clear_value u; intro _) | ((have _ := fun x => u x); subst u) | clear_value u)
    | dsimp only
    | (with_reducible apply Ev.fst; assumption)
    | split

theorem execBufferAdmission_ev {z : State} (frame : Nat) (s : State) (hs : Ev z s) : EvN z (execBufferAdmission frame s) := by
  unfold execBufferAdmission
  repeat' first
    | with_reducible first | assumption | apply Ev.ite | apply Ev.ite_st | apply EvN.ite | apply Ev.id | apply EvN.done | apply EvN.next | apply EvN.res | apply Pass.stage_ev | apply Res.done_ev | apply State.takeAdmission_ev
    | refine fun _ => ?_
    | ((try lift_lets); intro u; first | (refine Ev.cut (z := z) u ?_ ?_; (subst u); rotate_left; clear_value u; intro _) | (refine Ev.cut (z := z) u.st ?_ ?_; (subst u); rotate_left; clear_value u; intro _) | (refine Ev.cut (z := z) u.1 ?_ ?_; (subst u); rotate_left; clear_value u; intro _) | ((have _ := fun x => u x); subst u) | clear_value u)
    | dsimp only
    | (with_reducible apply Ev.fst; assumption)
    | split

theorem State.present_ev {z : State} (s : State) (p part : Nat) (octets : Bytes) (mirror : Option Mirror) (mgmtTag : Bool) (reply : Nat) (hs : Ev z s) : Ev z (State.present s p part octets mirror mgmtTag reply) := by
  unfold State.present
  repeat' first
    | with_reducible first | assumption | apply Ev.ite | apply State.accept_ev | apply State.countRx_ev | apply State.dropWhole_ev | apply State.putFrame_ev | apply State.reply_ev
    | refine fun _ => ?_
    | ((try lift_lets); intro u; first | (refine Ev.cut (z := z) u ?_ ?_; (subst u); rotate_left; clear_value u; intro _) | (refine Ev.cut (z := z) u.st ?_ ?_; (subst u); rotate_left; clear_value u; intro _) | (refine Ev.cut (z := z) u.1 ?_ ?_; (subst u); rotate_left; clear_value u; intro _) | ((have _ := fun x => u x); subst u) | clear_value u)
    | dsimp only
    | (with_reducible apply Ev.fst; assumption)
    | split

theorem execInjectPresent_ev {z : State} (p : PortNo) (s : State) (hs : Ev z s) : EvN z (execInjectPresent p s) := by
  unfold execInjectPresent
  repeat' first
    | with_reducible first | assumption | apply Ev.ite | apply Ev.ite_st | apply EvN.ite | apply EvN.done | apply EvN.next | apply EvN.res | apply State.when_ev | apply Res.done_ev | apply State.present_ev | apply State.setTab_ev
    | refine fun _ => ?_
    | ((try lift_lets); intro u; first | (refine Ev.cut (z := z) u ?_ ?_; (subst u); rotate_left; clear_value u; intro _) | (refine Ev.cut (z := z) u.st ?_ ?_; (subst u); rotate_left; clear_value u; intro _) | (refine Ev.cut (z := z) u.1 ?_ ?_; (subst u); rotate_left; clear_value u; intro _) | ((have _ := fun x => u x); subst u) | clear_value u)
    | dsimp only
    | (with_reducible apply Ev.fst; assumption)
    | split
    | with_reducible apply Ev.upd

theorem execCopyTxStart_ev {z : State} (p : PortNo) (s : State) (hs : Ev z s) : EvN z (execCopyTxStart p s) := by
  unfold execCopyTxStart
  repeat' first
    | with_reducible first | assumption | apply Ev.ite | apply Ev.ite_st | apply EvN.ite | apply EvN.done | apply EvN.next | apply EvN.res | apply State.when_ev | apply Pass.drop_ev | apply Res.done_ev | apply State.drop_ev | apply State.dropCopy_ev | apply State.egress_ev | apply State.finalize_ev | apply State.putCopy_ev | apply State.report_ev | apply State.setTab_ev | apply State.unreport_ev
    | refine fun _ => ?_
    | ((try lift_lets); intro u; first | (refine Ev.cut (z := z) u ?_ ?_; (subst u); rotate_left; clear_value u; intro _) | (refine Ev.cut (z := z) u.st ?_ ?_; (subst u); rotate_left; clear_value u; intro _) | (refine Ev.cut (z := z) u.1 ?_ ?_; (subst u); rotate_left; clear_value u; intro _) | ((have _ := fun x => u x); subst u) | clear_value u)
    | dsimp only
    | (with_reducible apply Ev.fst; assumption)
    | split

theorem State.histAdd_ev {z : State} (s : State) (t element ns : Nat) (hs : Ev z s) : Ev z (State.histAdd s t element ns) := by
  unfold State.histAdd
  repeat' first
    | with_reducible first | assumption | apply State.setTab_ev
    | ((try lift_lets); intro u; first | (refine Ev.cut (z := z) u ?_ ?_; (subst u); rotate_left; clear_value u; intro _) | (refine Ev.cut (z := z) u.st ?_ ?_; (subst u); rotate_left; clear_value u; intro _) | (refine Ev.cut (z := z) u.1 ?_ ?_; (subst u); rotate_left; clear_value u; intro _) | ((have _ := fun x => u x); subst u) | clear_value u)

theorem State.countSent_ev {z : State} (s : State) (f : Frame) (c : Copy) (covered : Bool) (r : Nat) (hs : Ev z s) : Ev z (State.countSent s f c covered r) := by
  unfold State.countSent
  repeat' first
    | with_reducible first | assumption | apply Ev.ite | apply State.when_ev | apply State.breach_ev | apply State.histAdd_ev | apply State.resvCounted_ev
    | refine fun _ => ?_
    | ((try lift_lets); intro u; first | (refine Ev.cut (z := z) u ?_ ?_; (subst u); rotate_left; clear_value u; intro _) | (refine Ev.cut (z := z) u.st ?_ ?_; (subst u); rotate_left; clear_value u; intro _) | (refine Ev.cut (z := z) u.1 ?_ ?_; (subst u); rotate_left; clear_value u; intro _) | ((have _ := fun x => u x); subst u) | clear_value u)
    | dsimp only
    | (with_reducible apply Ev.fst; assumption)
    | split

theorem State.zdpArrived_ev {z : State} (s : State) (p : Nat) (b : Bytes) (hs : Ev z s) : Ev z (State.zdpArrived s p b) := by
  unfold State.zdpArrived
  repeat' first
    | with_reducible first | assumption | apply Ev.ite | apply State.bump_ev
    | refine fun _ => ?_
    | ((try lift_lets); intro u; first | (refine Ev.cut (z := z) u ?_ ?_; (subst u); rotate_left; clear_value u; intro _) | (refine Ev.cut (z := z) u.st ?_ ?_; (subst u); rotate_left; clear_value u; intro _) | (refine Ev.cut (z := z) u.1 ?_ ?_; (subst u); rotate_left; clear_value u; intro _) | ((have _ := fun x => u x); subst u) | clear_value u)
    | dsimp only
    | (with_reducible apply Ev.fst; assumption)
    | split
    | with_reducible apply Ev.upd

theorem State.copySent_ev {z : State} (s : State) (f : Frame) (c : Copy) (hs : Ev z s) : Ev z (State.copySent s f c) := by
  unfold State.copySent
  repeat' first
    | with_reducible first | assumption | apply State.when_ev | apply State.copyPostcard_ev | apply State.count_ev | apply State.countSent_ev | apply State.dropRef_ev | apply State.emit_ev | apply State.histAdd_ev | apply State.logTxTs_ev | apply State.raiseMark_ev | apply State.removeCopy_ev | apply State.report_ev | apply State.ringReceive_ev | apply State.setTab_ev | apply State.unreport_ev | apply State.zdpArrived_ev
    | refine fun _ => ?_
    | ((try lift_lets); intro u; first | (refine Ev.cut (z := z) u ?_ ?_; (subst u); rotate_left; clear_value u; intro _) | (refine Ev.cut (z := z) u.st ?_ ?_; (subst u); rotate_left; clear_value u; intro _) | (refine Ev.cut (z := z) u.1 ?_ ?_; (subst u); rotate_left; clear_value u; intro _) | ((have _ := fun x => u x); subst u) | clear_value u)
    | dsimp only
    | (with_reducible apply Ev.fst; assumption)
    | split

theorem execCopyTxEnd_ev {z : State} (p : PortNo) (s : State) (hs : Ev z s) : EvN z (execCopyTxEnd p s) := by
  unfold execCopyTxEnd
  repeat' first
    | with_reducible first | assumption | apply Ev.ite | apply Ev.ite_st | apply EvN.ite | apply EvN.done | apply EvN.next | apply EvN.res | apply Res.done_ev | apply State.copySent_ev
    | refine fun _ => ?_
    | dsimp only
    | (with_reducible apply Ev.fst; assumption)
    | split

theorem execAged_ev {z : State} (copy : Nat) (s : State) (hs : Ev z s) : EvN z (execAged copy s) := by
  unfold execAged
  repeat' first
    | with_reducible first | assumption | apply Ev.ite | apply Ev.ite_st | apply EvN.ite | apply Ev.id | apply EvN.done | apply EvN.next | apply EvN.res | apply Res.done_ev | apply State.dropCopy_ev
    | refine fun _ => ?_
    | ((try lift_lets); intro u; first | (refine Ev.cut (z := z) u ?_ ?_; (subst u); rotate_left; clear_value u; intro _) | (refine Ev.cut (z := z) u.st ?_ ?_; (subst u); rotate_left; clear_value u; intro _) | (refine Ev.cut (z := z) u.1 ?_ ?_; (subst u); rotate_left; clear_value u; intro _) | ((have _ := fun x => u x); subst u) | clear_value u)
    | dsimp only
    | (with_reducible apply Ev.fst; assumption)
    | split

end Sys2Proof.Machine
end

