-- ==== Sys2Proof/Laws/EvPackage.lean ====
section
/-!
SUPPORT. The commands keep the invariants (Laws/Evolve.lean): the operations of Machine/Package.lean.
-/
namespace Sys2Proof.Machine

theorem State.setLoaderState_ev {z : State} (s : State) (l st : Nat) (hs : Ev z s) : Ev z (State.setLoaderState s l st) := by
  unfold State.setLoaderState
  repeat' first
    | with_reducible first | assumption | apply State.setReg_ev

theorem State.loaderEvent_ev {z : State} (s : State) (l i : Nat) (hs : Ev z s) : Ev z (State.loaderEvent s l i) := by
  unfold State.loaderEvent
  repeat' first
    | with_reducible first | assumption | apply Ev.ite | apply State.event_ev
    | refine fun _ => ?_

theorem State.setLoaderTab_ev {z : State} (s : State) (l k v : Nat) (hs : Ev z s) : Ev z (State.setLoaderTab s l k v) := by
  unfold State.setLoaderTab
  repeat' first
    | with_reducible first | assumption | apply State.setTab_ev

theorem State.discardPackage_ev {z : State} (s : State) (l : Nat) (hs : Ev z s) : Ev z (State.discardPackage s l) := by
  unfold State.discardPackage
  repeat' first
    | with_reducible first | assumption | apply State.setLoaderState_ev | apply State.setReg_ev | apply State.zeroBytes_ev
    | ((try lift_lets); intro u; first | (refine Ev.cut (z := z) u ?_ ?_; (subst u); rotate_left; clear_value u; intro _) | (refine Ev.cut (z := z) u.st ?_ ?_; (subst u); rotate_left; clear_value u; intro _) | (refine Ev.cut (z := z) u.1 ?_ ?_; (subst u); rotate_left; clear_value u; intro _) | ((have _ := fun x => u x); subst u) | clear_value u)

theorem State.writeWords_ev {z : State} (s : State) (b : Bytes) (store t base : Nat) (hs : Ev z s) : Ev z (State.writeWords s b store t base) := by
  unfold State.writeWords
  repeat' first
    | with_reducible first | assumption | apply State.store_ev | apply State.forAll_ev | apply State.setTab_ev
    | refine fun _ => ?_
    | dsimp only

theorem State.writePipeStores_ev {z : State} (s : State) (b : Bytes) (hs : Ev z s) : Ev z (State.writePipeStores s b) := by
  unfold State.writePipeStores
  dsimp only
  apply State.writeWords_ev
  apply State.writeWords_ev
  exact Ev.filtTabs _ (State.clearTab_ev (State.clearTab_ev hs))

theorem State.writeBayStores_ev {z : State} (s : State) (b : Bytes) (y : Nat) (hs : Ev z s) : Ev z (State.writeBayStores s b y) := by
  unfold State.writeBayStores
  repeat' first
    | with_reducible first | assumption | apply State.forAll_ev | apply State.clearTabRange_ev | apply State.writeWords_ev
    | refine fun _ => ?_
    | ((try lift_lets); intro u; first | (refine Ev.cut (z := z) u ?_ ?_; (subst u); rotate_left; clear_value u; intro _) | (refine Ev.cut (z := z) u.st ?_ ?_; (subst u); rotate_left; clear_value u; intro _) | (refine Ev.cut (z := z) u.1 ?_ ?_; (subst u); rotate_left; clear_value u; intro _) | ((have _ := fun x => u x); subst u) | clear_value u)
    | dsimp only

theorem State.installPackage_ev {z : State} (s : State) (b : Bytes) (l slot : Nat) (hs : Ev z s) : Ev z (State.installPackage s b l slot) := by
  unfold State.installPackage
  repeat' first
    | with_reducible first | assumption | apply Ev.ite | apply State.forAll_ev | apply State.setReg_ev | apply State.setTab_ev | apply State.writeBayStores_ev | apply State.writePipeStores_ev
    | refine fun _ => ?_
    | ((try lift_lets); intro u; first | (refine Ev.cut (z := z) u ?_ ?_; (subst u); rotate_left; clear_value u; intro _) | (refine Ev.cut (z := z) u.st ?_ ?_; (subst u); rotate_left; clear_value u; intro _) | (refine Ev.cut (z := z) u.1 ?_ ?_; (subst u); rotate_left; clear_value u; intro _) | ((have _ := fun x => u x); subst u) | clear_value u)
    | dsimp only

theorem State.refreshMicrocode_ev {z : State} (s : State) (hs : Ev z s) : Ev z (State.refreshMicrocode s) := by
  unfold State.refreshMicrocode
  repeat' first
    | with_reducible first | assumption | apply State.setCause_ev

theorem State.setRecord_ev {z : State} (s : State) (i v : Nat) (hs : Ev z s) : Ev z (State.setRecord s i v) := by
  unfold State.setRecord
  repeat' first
    | with_reducible first | assumption | apply Ev.ite | apply State.when_ev | apply State.setReg_ev | apply State.setTab_ev
    | refine fun _ => ?_
    | dsimp only

theorem State.applyPackage_ev {z : State} (s : State) (l : Nat) (hs : Ev z s) : Ev z (State.applyPackage s l) := by
  unfold State.applyPackage
  repeat' first
    | with_reducible first | assumption | apply Ev.ite | apply State.forAll_ev | apply State.bump_ev | apply State.discardPackage_ev | apply State.installPackage_ev | apply State.loaderEvent_ev | apply State.refreshMicrocode_ev | apply State.setLoaderState_ev | apply State.setRecord_ev | apply State.setReg_ev
    | refine fun _ => ?_
    | ((try lift_lets); intro u; first | (refine Ev.cut (z := z) u ?_ ?_; (subst u); rotate_left; clear_value u; intro _) | (refine Ev.cut (z := z) u.st ?_ ?_; (subst u); rotate_left; clear_value u; intro _) | (refine Ev.cut (z := z) u.1 ?_ ?_; (subst u); rotate_left; clear_value u; intro _) | ((have _ := fun x => u x); subst u) | clear_value u)
    | dsimp only

theorem State.failPackage_ev {z : State} (s : State) (l code detail : Nat) (hs : Ev z s) : Ev z (State.failPackage s l code detail) := by
  unfold State.failPackage
  repeat' first
    | with_reducible first | assumption | apply State.when_ev | apply State.discardPackage_ev | apply State.event_ev | apply State.loaderEvent_ev | apply State.setReg_ev
    | refine fun _ => ?_
    | ((try lift_lets); intro u; first | (refine Ev.cut (z := z) u ?_ ?_; (subst u); rotate_left; clear_value u; intro _) | (refine Ev.cut (z := z) u.st ?_ ?_; (subst u); rotate_left; clear_value u; intro _) | (refine Ev.cut (z := z) u.1 ?_ ?_; (subst u); rotate_left; clear_value u; intro _) | ((have _ := fun x => u x); subst u) | clear_value u)
    | dsimp only

theorem State.joinPending_ev {z : State} (s : State) (hs : Ev z s) : Ev z (State.joinPending s) := by
  unfold State.joinPending
  repeat' first
    | with_reducible first | assumption | apply Ev.ite | apply State.applyPackage_ev | apply State.setLoaderTab_ev
    | refine fun _ => ?_

theorem State.persistPackage_ev {z : State} (s : State) (l : Nat) (hs : Ev z s) : Ev z (State.persistPackage s l) := by
  unfold State.persistPackage
  repeat' first
    | with_reducible first | assumption | apply State.forAll_ev | apply State.discardPackage_ev | apply State.setBytes_ev | apply State.setRecord_ev | apply State.zeroBytes_ev
    | refine fun _ => ?_
    | ((try lift_lets); intro u; first | (refine Ev.cut (z := z) u ?_ ?_; (subst u); rotate_left; clear_value u; intro _) | (refine Ev.cut (z := z) u.st ?_ ?_; (subst u); rotate_left; clear_value u; intro _) | (refine Ev.cut (z := z) u.1 ?_ ?_; (subst u); rotate_left; clear_value u; intro _) | ((have _ := fun x => u x); subst u) | clear_value u)
    | dsimp only

end Sys2Proof.Machine
end

