-- ==== Sys2Proof/Laws/EvBanks.lean ====
section
/-!
SUPPORT. The commands keep the invariants (Laws/Evolve.lean): the operations of Machine/Banks.lean.
-/
namespace Sys2Proof.Machine

theorem stageObjectEffect_ev {z : State} (idx sub v : Nat) (s : State) (hs : Ev z s) : Ev z (stageObjectEffect idx sub v s).st := by
  unfold stageObjectEffect
  repeat' first
    | with_reducible first | assumption | apply Ev.ite | apply Ev.ite_st | apply Ev.done | apply Ev.fail | apply Res.done_ev | apply Res.fail_ev | apply State.setReg_ev | apply State.setTab_ev
    | refine fun _ => ?_
    | ((try lift_lets); intro u; first | (refine Ev.cut (z := z) u ?_ ?_; (subst u); rotate_left; clear_value u; intro _) | (refine Ev.cut (z := z) u.st ?_ ?_; (subst u); rotate_left; clear_value u; intro _) | (refine Ev.cut (z := z) u.1 ?_ ?_; (subst u); rotate_left; clear_value u; intro _) | ((have _ := fun x => u x); subst u) | clear_value u)
    | dsimp only

theorem State.switchBank_ev {z : State} (s : State) (window target : Nat) (elems : SMap Nat) (hs : Ev z s) : Ev z (State.switchBank s window target elems) := by
  unfold State.switchBank
  repeat' first
    | with_reducible first | assumption | apply State.when_ev | apply State.forAll_ev | apply State.bump_ev | apply State.clearTab_ev | apply State.joinPending_ev | apply State.setReg_ev | apply State.setTab_ev
    | refine fun _ => ?_
    | ((try lift_lets); intro u; first | (refine Ev.cut (z := z) u ?_ ?_; (subst u); rotate_left; clear_value u; intro _) | (refine Ev.cut (z := z) u.st ?_ ?_; (subst u); rotate_left; clear_value u; intro _) | (refine Ev.cut (z := z) u.1 ?_ ?_; (subst u); rotate_left; clear_value u; intro _) | ((have _ := fun x => u x); subst u) | clear_value u)
    | dsimp only
    | with_reducible apply Ev.upd

theorem State.requestedSwitches_ev {z : State} (s : State) (hs : Ev z s) : Ev z (State.requestedSwitches s) := by
  unfold State.requestedSwitches
  repeat' first
    | with_reducible first | assumption | apply State.forAll_ev | apply State.setTab_ev | apply State.switchBank_ev
    | refine fun _ => ?_
    | dsimp only

theorem applyStagesEffect_ev {z : State} (v : Nat) (s : State) (hs : Ev z s) : Ev z (applyStagesEffect v s).st := by
  unfold applyStagesEffect
  repeat' first
    | with_reducible first | assumption | apply Ev.ite | apply Ev.ite_st | apply Ev.done | apply Res.done_ev | apply State.setTab_ev
    | refine fun _ => ?_

theorem execApplyStages_ev {z : State} (w : SessionNo) (s : State) (hs : Ev z s) : EvN z (execApplyStages w s) := by
  unfold execApplyStages
  repeat' first
    | with_reducible first | assumption | apply EvN.next | apply EvN.res | apply State.hostWrite_ev | apply applyStagesEffect_ev

theorem execBankSwitch_ev {z : State} (s : State) (hs : Ev z s) : EvN z (execBankSwitch s) := by
  unfold execBankSwitch
  repeat' first
    | with_reducible first | assumption | apply Ev.ite | apply Ev.ite_st | apply EvN.ite | apply EvN.done | apply EvN.next | apply EvN.res | apply Res.done_ev | apply State.setTab_ev | apply State.switchBank_ev
    | refine fun _ => ?_

end Sys2Proof.Machine
end

