-- ==== Sys2Proof/Laws/EvStaging.lean ====
section
/-!
SUPPORT. The commands keep the invariants (Laws/Evolve.lean): the operations of Machine/Staging.lean.
-/
namespace Sys2Proof.Machine

theorem State.clearRanges_ev {z : State} (s : State) (session : Nat) (hs : Ev z s) : Ev z (State.clearRanges s session) := by
  unfold State.clearRanges
  repeat' first
    | with_reducible first | assumption | apply State.forAll_ev | apply State.clearTabRange_ev
    | refine fun _ => ?_
    | dsimp only

theorem State.putStaging_ev {z : State} (s : State) (g : Staging) (hs : Ev z s) : Ev z (State.putStaging s g) := by
  unfold State.putStaging
  repeat' first
    | with_reducible first | assumption
    | refine fun _ => ?_
    | dsimp only
    | with_reducible apply Ev.upd

theorem State.dropStaging_ev {z : State} (s : State) (idx : Nat) (hs : Ev z s) : Ev z (State.dropStaging s idx) := by
  unfold State.dropStaging
  repeat' first
    | with_reducible first | assumption
    | refine fun _ => ?_
    | dsimp only
    | with_reducible apply Ev.upd

theorem State.commitApplied_ev {z : State} (s : State) (idx : Nat) (hs : Ev z s) : Ev z (State.commitApplied s idx) := by
  unfold State.commitApplied
  repeat' first
    | with_reducible first | assumption | apply State.when_ev | apply State.bump_ev | apply State.configChanged_ev
    | refine fun _ => ?_

theorem State.setElem_ev {z : State} (s : State) (idx t e v : Nat) (hs : Ev z s) : Ev z (State.setElem s idx t e v) := by
  unfold State.setElem
  repeat' first
    | with_reducible first | assumption | apply State.setTab_ev

theorem State.applyElems_ev {z : State} (s : State) (idx t : Nat) (elems : SMap Nat) (hs : Ev z s) : Ev z (State.applyElems s idx t elems) := by
  unfold State.applyElems
  repeat' first
    | with_reducible first | assumption | apply State.forAll_ev | apply State.setElem_ev
    | refine fun _ => ?_
    | dsimp only

end Sys2Proof.Machine
end

