-- ==== Sys2Proof/Laws/EvSignal.lean ====
section
/-!
SUPPORT. The commands keep the invariants (Laws/Evolve.lean): the operations of Machine/Signal.lean.
-/
namespace Sys2Proof.Machine

theorem State.setSlot_ev {z : State} (s : State) (n v : Nat) (hs : Ev z s) : Ev z (State.setSlot s n v) := by
  unfold State.setSlot
  repeat' first
    | with_reducible first | assumption | apply State.setElem_ev

theorem State.storedValue_ev {z : State} (s : State) (type v : Nat) (hs : Ev z s) : Ev z (State.storedValue s type v).1 := by
  unfold State.storedValue
  repeat' first
    | with_reducible first | assumption | apply Ev.ite | apply Ev.ite_fst | apply State.drew_ev
    | refine fun _ => ?_

theorem State.markDirty_ev {z : State} (s : State) (n : Nat) (port : Option Nat) (hs : Ev z s) : Ev z (State.markDirty s n port) := by
  unfold State.markDirty
  repeat' first
    | with_reducible first | assumption | apply Ev.ite | apply State.setSlot_ev | apply State.setTab_ev
    | refine fun _ => ?_
    | ((try lift_lets); intro u; first | (refine Ev.cut (z := z) u ?_ ?_; (subst u); rotate_left; clear_value u; intro _) | (refine Ev.cut (z := z) u.st ?_ ?_; (subst u); rotate_left; clear_value u; intro _) | (refine Ev.cut (z := z) u.1 ?_ ?_; (subst u); rotate_left; clear_value u; intro _) | ((have _ := fun x => u x); subst u) | clear_value u)

theorem State.putSlot_ev {z : State} (s : State) (w : SlotWrite) (port : Option Nat) (hs : Ev z s) : Ev z (State.putSlot s w port) := by
  unfold State.putSlot
  repeat' first
    | with_reducible first | assumption | apply State.markDirty_ev | apply State.setSlot_ev | apply State.setTab_ev | apply State.storedValue_ev
    | ((try lift_lets); intro u; first | (refine Ev.cut (z := z) u ?_ ?_; (subst u); rotate_left; clear_value u; intro _) | (refine Ev.cut (z := z) u.st ?_ ?_; (subst u); rotate_left; clear_value u; intro _) | (refine Ev.cut (z := z) u.1 ?_ ?_; (subst u); rotate_left; clear_value u; intro _) | ((have _ := fun x => u x); subst u) | clear_value u)
    | (with_reducible apply Ev.fst; assumption)
    | split

theorem State.writeA_ev {z : State} (s : State) (port : Nat) (x : PortAWrite) (hs : Ev z s) : Ev z (State.writeA s port x) := by
  unfold State.writeA
  repeat' first
    | with_reducible first | assumption | apply Ev.ite | apply State.bump_ev | apply State.putSlot_ev
    | refine fun _ => ?_
    | ((try lift_lets); intro u; first | (refine Ev.cut (z := z) u ?_ ?_; (subst u); rotate_left; clear_value u; intro _) | (refine Ev.cut (z := z) u.st ?_ ?_; (subst u); rotate_left; clear_value u; intro _) | (refine Ev.cut (z := z) u.1 ?_ ?_; (subst u); rotate_left; clear_value u; intro _) | ((have _ := fun x => u x); subst u) | clear_value u)

theorem State.loseWrite_ev {z : State} (s : State) (n : Nat) (hs : Ev z s) : Ev z (State.loseWrite s n) := by
  unfold State.loseWrite
  repeat' first
    | with_reducible first | assumption | apply State.bump_ev | apply State.event_ev | apply State.setReg_ev | apply State.setSlot_ev
    | ((try lift_lets); intro u; first | (refine Ev.cut (z := z) u ?_ ?_; (subst u); rotate_left; clear_value u; intro _) | (refine Ev.cut (z := z) u.st ?_ ?_; (subst u); rotate_left; clear_value u; intro _) | (refine Ev.cut (z := z) u.1 ?_ ?_; (subst u); rotate_left; clear_value u; intro _) | ((have _ := fun x => u x); subst u) | clear_value u)

theorem State.writeBench_ev {z : State} (s : State) (b : Nat) (n value quality srcSeq : Nat) (lost : Bool) (hs : Ev z s) : Ev z (State.writeBench s b n value quality srcSeq lost).1 := by
  unfold State.writeBench
  repeat' first
    | with_reducible first | assumption | apply Ev.ite | apply Ev.ite_fst | apply State.bump_ev | apply State.loseWrite_ev | apply State.putSlot_ev
    | refine fun _ => ?_
    | ((try lift_lets); intro u; first | (refine Ev.cut (z := z) u ?_ ?_; (subst u); rotate_left; clear_value u; intro _) | (refine Ev.cut (z := z) u.st ?_ ?_; (subst u); rotate_left; clear_value u; intro _) | (refine Ev.cut (z := z) u.1 ?_ ?_; (subst u); rotate_left; clear_value u; intro _) | ((have _ := fun x => u x); subst u) | clear_value u)
    | dsimp only

theorem State.commitSlots_ev {z : State} (s : State) (elems : SMap Nat) (lost : List Nat) (hs : Ev z s) : Ev z (State.commitSlots s elems lost) := by
  unfold State.commitSlots
  repeat' first
    | with_reducible first | assumption | apply Ev.ite | apply State.forAll_ev | apply State.loseWrite_ev | apply State.putSlot_ev
    | refine fun _ => ?_
    | dsimp only

theorem State.clearLost_ev {z : State} (s : State) (n : Nat) (lost : Bool) (hs : Ev z s) : Ev z (State.clearLost s n lost) := by
  unfold State.clearLost
  repeat' first
    | with_reducible first | assumption | apply State.when_ev | apply State.loseWrite_ev | apply State.setSlot_ev
    | refine fun _ => ?_
    | ((try lift_lets); intro u; first | (refine Ev.cut (z := z) u ?_ ?_; (subst u); rotate_left; clear_value u; intro _) | (refine Ev.cut (z := z) u.st ?_ ?_; (subst u); rotate_left; clear_value u; intro _) | (refine Ev.cut (z := z) u.1 ?_ ?_; (subst u); rotate_left; clear_value u; intro _) | ((have _ := fun x => u x); subst u) | clear_value u)
    | dsimp only

theorem State.forceSlot_ev {z : State} (s : State) (n value : Nat) (hs : Ev z s) : Ev z (State.forceSlot s n value) := by
  unfold State.forceSlot
  repeat' first
    | with_reducible first | assumption | apply State.markDirty_ev | apply State.setSlot_ev | apply State.storedValue_ev
    | ((try lift_lets); intro u; first | (refine Ev.cut (z := z) u ?_ ?_; (subst u); rotate_left; clear_value u; intro _) | (refine Ev.cut (z := z) u.st ?_ ?_; (subst u); rotate_left; clear_value u; intro _) | (refine Ev.cut (z := z) u.1 ?_ ?_; (subst u); rotate_left; clear_value u; intro _) | ((have _ := fun x => u x); subst u) | clear_value u)
    | (with_reducible apply Ev.fst; assumption)
    | split

theorem State.commitAttr_ev {z : State} (s : State) (n a : Nat) (hs : Ev z s) : Ev z (State.commitAttr s n a) := by
  unfold State.commitAttr
  repeat' first
    | with_reducible first | assumption | apply Ev.ite | apply State.forceSlot_ev | apply State.setElem_ev | apply State.setSlot_ev
    | refine fun _ => ?_
    | ((try lift_lets); intro u; first | (refine Ev.cut (z := z) u ?_ ?_; (subst u); rotate_left; clear_value u; intro _) | (refine Ev.cut (z := z) u.st ?_ ?_; (subst u); rotate_left; clear_value u; intro _) | (refine Ev.cut (z := z) u.1 ?_ ?_; (subst u); rotate_left; clear_value u; intro _) | ((have _ := fun x => u x); subst u) | clear_value u)

theorem State.decodeUsf_ev {z : State} (s : State) (h : Handoff) (hs : Ev z s) : Ev z (State.decodeUsf s h).st := by
  unfold State.decodeUsf
  repeat' first
    | with_reducible first | assumption | apply Ev.ite | apply Ev.ite_fst | apply Ev.id | apply State.when_ev | apply Pass.drop_ev | apply State.bump_ev | apply State.drop_ev
    | refine fun _ => ?_
    | ((try lift_lets); intro u; first | (refine Ev.cut (z := z) u ?_ ?_; (subst u); rotate_left; clear_value u; intro _) | (refine Ev.cut (z := z) u.st ?_ ?_; (subst u); rotate_left; clear_value u; intro _) | (refine Ev.cut (z := z) u.1 ?_ ?_; (subst u); rotate_left; clear_value u; intro _) | ((have _ := fun x => u x); subst u) | clear_value u)
    | dsimp only
    | split
    | with_reducible apply Ev.upd

theorem State.decodeMap_ev {z : State} (s : State) (h : Handoff) (hs : Ev z s) : Ev z (State.decodeMap s h).st := by
  unfold State.decodeMap
  repeat' first
    | with_reducible first | assumption | apply Ev.ite | apply Ev.ite_fst | apply State.bump_ev
    | refine fun _ => ?_
    | ((try lift_lets); intro u; first | (refine Ev.cut (z := z) u ?_ ?_; (subst u); rotate_left; clear_value u; intro _) | (refine Ev.cut (z := z) u.st ?_ ?_; (subst u); rotate_left; clear_value u; intro _) | (refine Ev.cut (z := z) u.1 ?_ ?_; (subst u); rotate_left; clear_value u; intro _) | ((have _ := fun x => u x); subst u) | clear_value u)
    | dsimp only
    | split
    | with_reducible apply Ev.upd

theorem State.decodeHandoff_ev {z : State} (s : State) (h : Handoff) (hs : Ev z s) : Ev z (State.decodeHandoff s h).st := by
  unfold State.decodeHandoff
  repeat' first
    | with_reducible first | assumption | apply Ev.ite | apply Ev.ite_fst | apply State.decodeMap_ev | apply State.decodeUsf_ev
    | refine fun _ => ?_
    | split

theorem State.takeHandoff_ev {z : State} (s : State) (pipe : Nat) (hs : Ev z s) : Ev z (State.takeHandoff s pipe).1 := by
  unfold State.takeHandoff
  repeat' first
    | with_reducible first | assumption
    | dsimp only
    | (with_reducible apply Ev.fst; assumption)
    | split
    | with_reducible apply Ev.upd

theorem State.takeHandoffs_ev {z : State} (s : State) (l : List Nat) (hs : Ev z s) : Ev z (State.takeHandoffs s l).1 := by
  induction l generalizing s with
  | nil => exact hs
  | cons p l ih =>
    unfold State.takeHandoffs
    exact ih _ (State.takeHandoff_ev _ _ hs)

theorem State.decodeHandoffs_ev {z : State} (s : State) (l : List Handoff) (hs : Ev z s) : Ev z (State.decodeHandoffs s l).1 := by
  induction l generalizing s with
  | nil => exact hs
  | cons p l ih =>
    unfold State.decodeHandoffs
    exact ih _ (State.decodeHandoff_ev _ _ hs)

theorem execSignalEngineWrite_ev {z : State} (pipe : Fin 64) (others : List (Fin 64)) (s : State) (hs : Ev z s) :
    EvN z (execSignalEngineWrite pipe others s) := by
  unfold execSignalEngineWrite
  extract_lets pipes
  have h := State.takeHandoff_ev s pipe hs
  split
  · next g => rw [g] at h; exact EvN.next h
  · next g =>
    rw [g] at h
    exact EvN.done (State.forAll_ev (State.bump_ev _ _ _ _ (State.decodeHandoffs_ev _ (_ :: _) (State.takeHandoffs_ev _ _ h)))
      fun u x hu => State.writeA_ev _ _ _ hu)

theorem execStaleCheck_ev {z : State} (s : State) (hs : Ev z s) : EvN z (execStaleCheck s) := by
  unfold execStaleCheck
  repeat' first
    | with_reducible first | assumption | apply Ev.ite | apply Ev.ite_st | apply EvN.ite | apply EvN.done | apply EvN.next | apply EvN.res | apply State.forAll_ev | apply Res.done_ev | apply State.bump_ev | apply State.event_ev | apply State.setSlot_ev
    | refine fun _ => ?_
    | dsimp only

theorem clearLostEffect_ev {z : State} (n : Nat) (lost : Bool) (s : State) (hs : Ev z s) : Ev z (clearLostEffect n lost s).st := by
  unfold clearLostEffect
  repeat' first
    | with_reducible first | assumption | apply Ev.ite | apply Ev.ite_st | apply Ev.done | apply Ev.fail | apply Res.done_ev | apply Res.fail_ev | apply State.clearLost_ev
    | refine fun _ => ?_

theorem execClearWriteLost_ev {z : State} (w : SessionNo) (slot : Nat) (lost : Bool) (s : State) (hs : Ev z s) : EvN z (execClearWriteLost w slot lost s) := by
  unfold execClearWriteLost
  repeat' first
    | with_reducible first | assumption | apply EvN.next | apply EvN.res | apply State.hostWrite_ev | apply clearLostEffect_ev

theorem State.dropLatch_ev {z : State} (s : State) (session : Nat) (hs : Ev z s) : Ev z (State.dropLatch s session) := by
  unfold State.dropLatch
  repeat' first
    | with_reducible first | assumption | apply State.clearTabRange_ev | apply State.setTab_ev

theorem signalSnapshotEffect_ev {z : State} (session v : Nat) (s : State) (hs : Ev z s) : Ev z (signalSnapshotEffect session v s).st := by
  unfold signalSnapshotEffect
  repeat' first
    | with_reducible first | assumption | apply Ev.ite | apply Ev.ite_st | apply Ev.done | apply State.forAll_ev | apply Res.done_ev | apply State.dropLatch_ev | apply State.setTab_ev
    | refine fun _ => ?_
    | ((try lift_lets); intro u; first | (refine Ev.cut (z := z) u ?_ ?_; (subst u); rotate_left; clear_value u; intro _) | (refine Ev.cut (z := z) u.st ?_ ?_; (subst u); rotate_left; clear_value u; intro _) | (refine Ev.cut (z := z) u.1 ?_ ?_; (subst u); rotate_left; clear_value u; intro _) | ((have _ := fun x => u x); subst u) | clear_value u)
    | dsimp only

theorem execSignalSnapshot_ev {z : State} (w : SessionNo) (s : State) (hs : Ev z s) : EvN z (execSignalSnapshot w s) := by
  unfold execSignalSnapshot
  repeat' first
    | with_reducible first | assumption | apply EvN.next | apply EvN.res | apply State.hostWrite_ev | apply signalSnapshotEffect_ev

end Sys2Proof.Machine
end

