-- ==== Sys2Proof/Laws/EvCycles.lean ====
section
/-!
SUPPORT. The commands keep the invariants (Laws/Evolve.lean): the operations of Machine/Cycles.lean.
-/
namespace Sys2Proof.Machine

theorem State.showNext_ev {z : State} (s : State) (g : Nat) (hs : Ev z s) : Ev z (State.showNext s g) := by
  unfold State.showNext
  repeat' first
    | with_reducible first | assumption | apply State.setReg_ev
    | dsimp only
    | (with_reducible apply Ev.fst; assumption)
    | split

theorem State.showPending_ev {z : State} (s : State) (g : Nat) (hs : Ev z s) : Ev z (State.showPending s g) := by
  unfold State.showPending
  repeat' first
    | with_reducible first | assumption | apply State.setReg_ev

theorem State.adoptTiming_ev {z : State} (s : State) (g : Nat) (hs : Ev z s) : Ev z (State.adoptTiming s g) := by
  unfold State.adoptTiming
  repeat' first
    | with_reducible first | assumption | apply State.setTab_ev | apply State.showPending_ev
    | ((try lift_lets); intro u; first | (refine Ev.cut (z := z) u ?_ ?_; (subst u); rotate_left; clear_value u; intro _) | (refine Ev.cut (z := z) u.st ?_ ?_; (subst u); rotate_left; clear_value u; intro _) | (refine Ev.cut (z := z) u.1 ?_ ?_; (subst u); rotate_left; clear_value u; intro _) | ((have _ := fun x => u x); subst u) | clear_value u)

theorem State.forgetRuns_ev {z : State} (s : State) (g : Nat) (hs : Ev z s) : Ev z (State.forgetRuns s g) := by
  unfold State.forgetRuns
  repeat' first
    | with_reducible first | assumption | apply State.forAll_ev | apply State.setTab_ev
    | refine fun _ => ?_
    | dsimp only

theorem enableGroupEffect_ev {z : State} (g v : Nat) (s : State) (hs : Ev z s) : Ev z (enableGroupEffect g v s).st := by
  unfold enableGroupEffect
  repeat' first
    | with_reducible first | assumption | apply Ev.ite | apply Ev.ite_st | apply Ev.done | apply Res.done_ev | apply State.forgetRuns_ev | apply State.setReg_ev | apply State.setTab_ev | apply State.showNext_ev
    | refine fun _ => ?_
    | ((try lift_lets); intro u; first | (refine Ev.cut (z := z) u ?_ ?_; (subst u); rotate_left; clear_value u; intro _) | (refine Ev.cut (z := z) u.st ?_ ?_; (subst u); rotate_left; clear_value u; intro _) | (refine Ev.cut (z := z) u.1 ?_ ?_; (subst u); rotate_left; clear_value u; intro _) | ((have _ := fun x => u x); subst u) | clear_value u)

theorem groupTimingEffect_ev {z : State} (g sub v : Nat) (s : State) (hs : Ev z s) : Ev z (groupTimingEffect g sub v s).st := by
  unfold groupTimingEffect
  repeat' first
    | with_reducible first | assumption | apply Ev.done | apply Res.done_ev | apply State.setReg_ev | apply State.setTab_ev | apply State.showPending_ev

theorem applyTimingEffect_ev {z : State} (g v : Nat) (s : State) (hs : Ev z s) : Ev z (applyTimingEffect g v s).st := by
  unfold applyTimingEffect
  repeat' first
    | with_reducible first | assumption | apply Ev.ite | apply Ev.ite_st | apply Ev.done | apply Ev.fail | apply Res.done_ev | apply Res.fail_ev | apply State.setTab_ev | apply State.showNext_ev | apply State.showPending_ev
    | refine fun _ => ?_
    | ((try lift_lets); intro u; first | (refine Ev.cut (z := z) u ?_ ?_; (subst u); rotate_left; clear_value u; intro _) | (refine Ev.cut (z := z) u.st ?_ ?_; (subst u); rotate_left; clear_value u; intro _) | (refine Ev.cut (z := z) u.1 ?_ ?_; (subst u); rotate_left; clear_value u; intro _) | ((have _ := fun x => u x); subst u) | clear_value u)
    | dsimp only
    | (with_reducible apply Ev.fst; assumption)
    | split

theorem execCycleGroupEnable_ev {z : State} (w : SessionNo) (g : GroupNo) (s : State) (hs : Ev z s) : EvN z (execCycleGroupEnable w g s) := by
  unfold execCycleGroupEnable
  repeat' first
    | with_reducible first | assumption | apply EvN.next | apply EvN.res | apply State.hostWrite_ev | apply enableGroupEffect_ev

theorem execApplyTiming_ev {z : State} (w : SessionNo) (g : GroupNo) (s : State) (hs : Ev z s) : EvN z (execApplyTiming w g s) := by
  unfold execApplyTiming
  repeat' first
    | with_reducible first | assumption | apply EvN.next | apply EvN.res | apply State.hostWrite_ev | apply applyTimingEffect_ev

theorem State.runCycle_ev {z : State} (s : State) (g n : Nat) (hs : Ev z s) : Ev z (State.runCycle s g n) := by
  unfold State.runCycle
  repeat' first
    | with_reducible first | assumption | apply State.when_ev | apply State.adoptTiming_ev | apply State.bump_ev | apply State.setTab_ev | apply State.showNext_ev
    | refine fun _ => ?_
    | ((try lift_lets); intro u; first | (refine Ev.cut (z := z) u ?_ ?_; (subst u); rotate_left; clear_value u; intro _) | (refine Ev.cut (z := z) u.st ?_ ?_; (subst u); rotate_left; clear_value u; intro _) | (refine Ev.cut (z := z) u.1 ?_ ?_; (subst u); rotate_left; clear_value u; intro _) | ((have _ := fun x => u x); subst u) | clear_value u)
    | dsimp only

theorem State.passOver_ev {z : State} (s : State) (g old new : Nat) (hs : Ev z s) : Ev z (State.passOver s g old new) := by
  unfold State.passOver
  repeat' first
    | with_reducible first | assumption | apply State.when_ev | apply State.forAll_ev | apply State.setTab_ev
    | refine fun _ => ?_
    | ((try lift_lets); intro u; first | (refine Ev.cut (z := z) u ?_ ?_; (subst u); rotate_left; clear_value u; intro _) | (refine Ev.cut (z := z) u.st ?_ ?_; (subst u); rotate_left; clear_value u; intro _) | (refine Ev.cut (z := z) u.1 ?_ ?_; (subst u); rotate_left; clear_value u; intro _) | ((have _ := fun x => u x); subst u) | clear_value u)
    | dsimp only
    | (with_reducible apply Ev.fst; assumption)
    | split

theorem State.skipStarts_ev {z : State} (s : State) (g t : Nat) (hs : Ev z s) : Ev z (State.skipStarts s g t).1 := by
  unfold State.skipStarts
  repeat' first
    | with_reducible first | assumption | apply Ev.ite | apply Ev.ite_fst | apply State.when_ev | apply State.adoptTiming_ev | apply State.bump_ev | apply State.setTab_ev | apply State.showNext_ev
    | refine fun _ => ?_
    | ((try lift_lets); intro u; first | (refine Ev.cut (z := z) u ?_ ?_; (subst u); rotate_left; clear_value u; intro _) | (refine Ev.cut (z := z) u.st ?_ ?_; (subst u); rotate_left; clear_value u; intro _) | (refine Ev.cut (z := z) u.1 ?_ ?_; (subst u); rotate_left; clear_value u; intro _) | ((have _ := fun x => u x); subst u) | clear_value u)
    | dsimp only
    | (with_reducible apply Ev.fst; assumption)
    | split

theorem State.stepForward_ev {z : State} (s : State) (g old new : Nat) (hs : Ev z s) : Ev z (State.stepForward s g old new) := by
  unfold State.stepForward
  repeat' first
    | with_reducible first | assumption | apply State.when_ev | apply State.event_ev | apply State.passOver_ev | apply State.skipStarts_ev
    | refine fun _ => ?_
    | ((try lift_lets); intro u; first | (refine Ev.cut (z := z) u ?_ ?_; (subst u); rotate_left; clear_value u; intro _) | (refine Ev.cut (z := z) u.st ?_ ?_; (subst u); rotate_left; clear_value u; intro _) | (refine Ev.cut (z := z) u.1 ?_ ?_; (subst u); rotate_left; clear_value u; intro _) | ((have _ := fun x => u x); subst u) | clear_value u)
    | dsimp only
    | (with_reducible apply Ev.fst; assumption)
    | split

theorem State.stopGroups_ev {z : State} (s : State) (hs : Ev z s) : Ev z (State.stopGroups s) := by
  unfold State.stopGroups
  repeat' first
    | with_reducible first | assumption | apply State.forAll_ev | apply State.setTab_ev
    | refine fun _ => ?_
    | dsimp only

theorem State.resumeGroups_ev {z : State} (s : State) (hs : Ev z s) : Ev z (State.resumeGroups s) := by
  unfold State.resumeGroups
  repeat' first
    | with_reducible first | assumption | apply State.forAll_ev | apply State.skipStarts_ev
    | refine fun _ => ?_
    | dsimp only

theorem State.stepBack_ev {z : State} (s : State) (g new : Nat) (hs : Ev z s) : Ev z (State.stepBack s g new) := by
  unfold State.stepBack
  repeat' first
    | with_reducible first | assumption | apply Ev.ite | apply State.setTab_ev | apply State.showNext_ev
    | refine fun _ => ?_
    | ((try lift_lets); intro u; first | (refine Ev.cut (z := z) u ?_ ?_; (subst u); rotate_left; clear_value u; intro _) | (refine Ev.cut (z := z) u.st ?_ ?_; (subst u); rotate_left; clear_value u; intro _) | (refine Ev.cut (z := z) u.1 ?_ ?_; (subst u); rotate_left; clear_value u; intro _) | ((have _ := fun x => u x); subst u) | clear_value u)

theorem State.stepGroups_ev {z : State} (s : State) (old new : Nat) (hs : Ev z s) : Ev z (State.stepGroups s old new) := by
  unfold State.stepGroups
  repeat' first
    | with_reducible first | assumption | apply Ev.ite | apply State.forAll_ev | apply State.stepBack_ev | apply State.stepForward_ev
    | refine fun _ => ?_
    | dsimp only

theorem State.listCountUp_ev {z : State} (s : State) (l lsb : Nat) (hs : Ev z s) : Ev z (State.listCountUp s l lsb) := by
  unfold State.listCountUp
  repeat' first
    | with_reducible first | assumption | apply State.setElem_ev
    | ((try lift_lets); intro u; first | (refine Ev.cut (z := z) u ?_ ?_; (subst u); rotate_left; clear_value u; intro _) | (refine Ev.cut (z := z) u.st ?_ ?_; (subst u); rotate_left; clear_value u; intro _) | (refine Ev.cut (z := z) u.1 ?_ ?_; (subst u); rotate_left; clear_value u; intro _) | ((have _ := fun x => u x); subst u) | clear_value u)

theorem State.runList_ev {z : State} (s : State) (l v : Nat) (hs : Ev z s) : Ev z (State.runList s l v) := by
  unfold State.runList
  repeat' first
    | with_reducible first | assumption | apply Ev.ite | apply State.event_ev | apply State.listCountUp_ev | apply State.setElem_ev | apply State.setTab_ev
    | refine fun _ => ?_
    | ((try lift_lets); intro u; first | (refine Ev.cut (z := z) u ?_ ?_; (subst u); rotate_left; clear_value u; intro _) | (refine Ev.cut (z := z) u.st ?_ ?_; (subst u); rotate_left; clear_value u; intro _) | (refine Ev.cut (z := z) u.1 ?_ ?_; (subst u); rotate_left; clear_value u; intro _) | ((have _ := fun x => u x); subst u) | clear_value u)
    | dsimp only
    | with_reducible apply Ev.upd

theorem execPublicationRun_ev {z : State} (l : Fin 4096) (s : State) (hs : Ev z s) : EvN z (execPublicationRun l s) := by
  unfold execPublicationRun
  repeat' first
    | with_reducible first | assumption | apply Ev.ite | apply Ev.ite_st | apply EvN.ite | apply EvN.done | apply EvN.next | apply EvN.res | apply Res.done_ev | apply State.runList_ev
    | refine fun _ => ?_
    | ((try lift_lets); intro u; first | (refine Ev.cut (z := z) u ?_ ?_; (subst u); rotate_left; clear_value u; intro _) | (refine Ev.cut (z := z) u.st ?_ ?_; (subst u); rotate_left; clear_value u; intro _) | (refine Ev.cut (z := z) u.1 ?_ ?_; (subst u); rotate_left; clear_value u; intro _) | ((have _ := fun x => u x); subst u) | clear_value u)

theorem State.unmark_ev {z : State} (s : State) (m n : Nat) (hs : Ev z s) : Ev z (State.unmark s m n) := by
  unfold State.unmark
  repeat' first
    | with_reducible first | assumption | apply State.when_ev | apply State.setSlot_ev | apply State.setTab_ev
    | refine fun _ => ?_
    | ((try lift_lets); intro u; first | (refine Ev.cut (z := z) u ?_ ?_; (subst u); rotate_left; clear_value u; intro _) | (refine Ev.cut (z := z) u.st ?_ ?_; (subst u); rotate_left; clear_value u; intro _) | (refine Ev.cut (z := z) u.1 ?_ ?_; (subst u); rotate_left; clear_value u; intro _) | ((have _ := fun x => u x); subst u) | clear_value u)
    | dsimp only

theorem State.mirrorBuild_ev {z : State} (s : State) (m n : Nat) (hs : Ev z s) : Ev z (State.mirrorBuild s m n) := by
  induction n generalizing s with
  | zero =>
    unfold State.mirrorBuild
    exact Ev.ite (fun _ => hs) (fun _ => State.bump_ev _ _ _ _ hs)
  | succ n ih =>
    unfold State.mirrorBuild
    split
    · exact hs
    · split
      · exact State.bump_ev _ _ _ _ hs
      · apply ih
        apply Ev.upd
        exact State.setTab_ev (State.forAll_ev hs fun u k hu => State.unmark_ev _ _ _ hu)

theorem State.adoptMirror_ev {z : State} (s : State) (m : Nat) (hs : Ev z s) : Ev z (State.adoptMirror s m) := by
  unfold State.adoptMirror
  repeat' first
    | with_reducible first | assumption | apply State.forAll_ev | apply State.setTab_ev | apply State.unmark_ev
    | refine fun _ => ?_
    | ((try lift_lets); intro u; first | (refine Ev.cut (z := z) u ?_ ?_; (subst u); rotate_left; clear_value u; intro _) | (refine Ev.cut (z := z) u.st ?_ ?_; (subst u); rotate_left; clear_value u; intro _) | (refine Ev.cut (z := z) u.1 ?_ ?_; (subst u); rotate_left; clear_value u; intro _) | ((have _ := fun x => u x); subst u) | clear_value u)
    | dsimp only

theorem execMirrorPeriod_ev {z : State} (m : Fin 16) (s : State) (hs : Ev z s) : EvN z (execMirrorPeriod m s) := by
  unfold execMirrorPeriod
  repeat' first
    | with_reducible first | assumption | apply Ev.ite | apply Ev.ite_st | apply EvN.ite | apply EvN.done | apply EvN.next | apply EvN.res | apply State.when_ev | apply Res.done_ev | apply State.adoptMirror_ev | apply State.mirrorBuild_ev
    | refine fun _ => ?_
    | ((try lift_lets); intro u; first | (refine Ev.cut (z := z) u ?_ ?_; (subst u); rotate_left; clear_value u; intro _) | (refine Ev.cut (z := z) u.st ?_ ?_; (subst u); rotate_left; clear_value u; intro _) | (refine Ev.cut (z := z) u.1 ?_ ?_; (subst u); rotate_left; clear_value u; intro _) | ((have _ := fun x => u x); subst u) | clear_value u)
    | dsimp only

end Sys2Proof.Machine
end

