-- ==== Sys2Proof/Laws/EvDovetail.lean ====
section
/-!
SUPPORT. The commands keep the invariants (Laws/Evolve.lean): the operations of Machine/Dovetail.lean.
-/
namespace Sys2Proof.Machine

theorem heartbeatEffect_ev {z : State} (v : Nat) (s : State) (hs : Ev z s) : Ev z (heartbeatEffect v s).st := by
  unfold heartbeatEffect
  repeat' first
    | with_reducible first | assumption | apply Ev.ite | apply Ev.ite_st | apply Ev.done | apply Res.done_ev | apply State.setTab_ev
    | refine fun _ => ?_

theorem execHeartbeat_ev {z : State} (w : SessionNo) (s : State) (hs : Ev z s) : EvN z (execHeartbeat w s) := by
  unfold execHeartbeat
  repeat' first
    | with_reducible first | assumption | apply EvN.next | apply EvN.res | apply State.hostWrite_ev | apply heartbeatEffect_ev

theorem execHeartbeatTimeout_ev {z : State} (s : State) (hs : Ev z s) : EvN z (execHeartbeatTimeout s) := by
  unfold execHeartbeatTimeout
  repeat' first
    | with_reducible first | assumption | apply Ev.ite | apply Ev.ite_st | apply EvN.ite | apply EvN.done | apply EvN.next | apply EvN.res | apply Res.done_ev | apply State.setTab_ev
    | refine fun _ => ?_

theorem State.setPartner_ev {z : State} (s : State) (v : Nat) (hs : Ev z s) : Ev z (State.setPartner s v) := by
  unfold State.setPartner
  repeat' first
    | with_reducible first | assumption | apply Ev.ite | apply State.when_ev | apply State.event_ev | apply State.setReg_ev | apply State.setTab_ev
    | refine fun _ => ?_
    | ((try lift_lets); intro u; first | (refine Ev.cut (z := z) u ?_ ?_; (subst u); rotate_left; clear_value u; intro _) | (refine Ev.cut (z := z) u.st ?_ ?_; (subst u); rotate_left; clear_value u; intro _) | (refine Ev.cut (z := z) u.1 ?_ ?_; (subst u); rotate_left; clear_value u; intro _) | ((have _ := fun x => u x); subst u) | clear_value u)
    | dsimp only

theorem State.refreshPartner_ev {z : State} (s : State) (hs : Ev z s) : Ev z (State.refreshPartner s) := by
  unfold State.refreshPartner
  repeat' first
    | with_reducible first | assumption | apply Ev.ite | apply State.setPartner_ev
    | refine fun _ => ?_

theorem State.firstPartner_ev {z : State} (s : State) (hs : Ev z s) : Ev z (State.firstPartner s) := by
  unfold State.firstPartner
  repeat' first
    | with_reducible first | assumption | apply Ev.ite | apply State.when_ev | apply State.refreshPartner_ev | apply State.setTab_ev
    | refine fun _ => ?_
    | ((try lift_lets); intro u; first | (refine Ev.cut (z := z) u ?_ ?_; (subst u); rotate_left; clear_value u; intro _) | (refine Ev.cut (z := z) u.st ?_ ?_; (subst u); rotate_left; clear_value u; intro _) | (refine Ev.cut (z := z) u.1 ?_ ?_; (subst u); rotate_left; clear_value u; intro _) | ((have _ := fun x => u x); subst u) | clear_value u)
    | dsimp only

theorem State.peerWait_ev {z : State} (s : State) (hs : Ev z s) : Ev z (State.peerWait s) := by
  unfold State.peerWait
  repeat' first
    | with_reducible first | assumption | apply Ev.ite | apply State.when_ev | apply State.setTab_ev
    | refine fun _ => ?_
    | dsimp only

theorem execPeerHealthyChange_ev {z : State} (level : SenseLevel) (s : State) (hs : Ev z s) : EvN z (execPeerHealthyChange level s) := by
  unfold execPeerHealthyChange
  repeat' first
    | with_reducible first | assumption | apply EvN.done | apply Res.done_ev | apply State.peerWait_ev | apply State.refreshPartner_ev | apply State.setTab_ev
    | dsimp only
    | (with_reducible apply Ev.fst; assumption)
    | split

theorem execLossHoldExpiry_ev {z : State} (s : State) (hs : Ev z s) : EvN z (execLossHoldExpiry s) := by
  unfold execLossHoldExpiry
  repeat' first
    | with_reducible first | assumption | apply Ev.ite | apply Ev.ite_st | apply EvN.ite | apply EvN.done | apply EvN.next | apply EvN.res | apply Res.done_ev | apply State.setPartner_ev
    | refine fun _ => ?_

theorem execPartnerWaitExpiry_ev {z : State} (s : State) (hs : Ev z s) : EvN z (execPartnerWaitExpiry s) := by
  unfold execPartnerWaitExpiry
  repeat' first
    | with_reducible first | assumption | apply Ev.ite | apply Ev.ite_st | apply EvN.ite | apply EvN.done | apply EvN.next | apply EvN.res | apply Res.done_ev | apply State.setReg_ev | apply State.setTab_ev
    | refine fun _ => ?_

theorem revertEffect_ev {z : State} (v : Nat) (s : State) (hs : Ev z s) : Ev z (revertEffect v s).st := by
  unfold revertEffect
  repeat' first
    | with_reducible first | assumption | apply Ev.ite | apply Ev.ite_st | apply Ev.done | apply Res.done_ev | apply State.setReg_ev
    | refine fun _ => ?_

theorem execRevert_ev {z : State} (w : SessionNo) (s : State) (hs : Ev z s) : EvN z (execRevert w s) := by
  unfold execRevert
  repeat' first
    | with_reducible first | assumption | apply EvN.next | apply EvN.res | apply State.hostWrite_ev | apply revertEffect_ev

theorem roleEffect_ev {z : State} (v : Nat) (s : State) (hs : Ev z s) : Ev z (roleEffect v s).st := by
  unfold roleEffect
  repeat' first
    | with_reducible first | assumption | apply Ev.ite | apply Ev.ite_st | apply Ev.done | apply State.when_ev | apply Res.done_ev | apply State.setReg_ev | apply State.setTab_ev
    | refine fun _ => ?_
    | ((try lift_lets); intro u; first | (refine Ev.cut (z := z) u ?_ ?_; (subst u); rotate_left; clear_value u; intro _) | (refine Ev.cut (z := z) u.st ?_ ?_; (subst u); rotate_left; clear_value u; intro _) | (refine Ev.cut (z := z) u.1 ?_ ?_; (subst u); rotate_left; clear_value u; intro _) | ((have _ := fun x => u x); subst u) | clear_value u)
    | dsimp only

theorem execRole_ev {z : State} (w : SessionNo) (value : Nat) (s : State) (hs : Ev z s) : EvN z (execRole w value s) := by
  unfold execRole
  repeat' first
    | with_reducible first | assumption | apply EvN.next | apply EvN.res | apply State.hostWrite_ev | apply roleEffect_ev

theorem dovetailPortsEffect_ev {z : State} (v : Nat) (s : State) (hs : Ev z s) : Ev z (dovetailPortsEffect v s).st := by
  unfold dovetailPortsEffect
  repeat' first
    | with_reducible first | assumption | apply Ev.done | apply Res.done_ev | apply State.refreshPartner_ev | apply State.setReg_ev

theorem execCbHistoryReset_ev {z : State} (stream : Fin 4096) (s : State) (hs : Ev z s) : EvN z (execCbHistoryReset stream s) := by
  unfold execCbHistoryReset
  repeat' first
    | with_reducible first | assumption | apply Ev.ite | apply Ev.ite_st | apply EvN.ite | apply EvN.done | apply EvN.next | apply EvN.res | apply Res.done_ev | apply State.resetHistory_ev
    | refine fun _ => ?_

end Sys2Proof.Machine
end

