-- ==== Sys2Proof/Laws/EvLockstep.lean ====
section
/-!
SUPPORT. The commands keep the invariants (Laws/Evolve.lean): the operations of Machine/Lockstep.lean.
-/
namespace Sys2Proof.Machine

theorem State.refreshVoltage_ev {z : State} (s : State) (hs : Ev z s) : Ev z (State.refreshVoltage s) := by
  unfold State.refreshVoltage
  repeat' first
    | with_reducible first | assumption | apply State.setCause_ev
    | refine fun _ => ?_
    | dsimp only

theorem State.commFailed_ev {z : State} (s : State) (r : Nat) (hs : Ev z s) : Ev z (State.commFailed s r) := by
  unfold State.commFailed
  repeat' first
    | with_reducible first | assumption | apply State.when_ev | apply State.bump_ev | apply State.event_ev | apply State.refreshVoltage_ev | apply State.setTab_ev
    | refine fun _ => ?_
    | ((try lift_lets); intro u; first | (refine Ev.cut (z := z) u ?_ ?_; (subst u); rotate_left; clear_value u; intro _) | (refine Ev.cut (z := z) u.st ?_ ?_; (subst u); rotate_left; clear_value u; intro _) | (refine Ev.cut (z := z) u.1 ?_ ?_; (subst u); rotate_left; clear_value u; intro _) | ((have _ := fun x => u x); subst u) | clear_value u)
    | dsimp only

theorem State.commOk_ev {z : State} (s : State) (r : Nat) (hs : Ev z s) : Ev z (State.commOk s r) := by
  unfold State.commOk
  repeat' first
    | with_reducible first | assumption | apply State.refreshVoltage_ev | apply State.setTab_ev

theorem State.avsMove_ev {z : State} (s : State) (t r : Nat) (hs : Ev z s) : Ev z (State.avsMove s t r) := by
  unfold State.avsMove
  repeat' first
    | with_reducible first | assumption | apply Ev.ite | apply State.commOk_ev | apply State.setTab_ev
    | refine fun _ => ?_
    | ((try lift_lets); intro u; first | (refine Ev.cut (z := z) u ?_ ?_; (subst u); rotate_left; clear_value u; intro _) | (refine Ev.cut (z := z) u.st ?_ ?_; (subst u); rotate_left; clear_value u; intro _) | (refine Ev.cut (z := z) u.1 ?_ ?_; (subst u); rotate_left; clear_value u; intro _) | ((have _ := fun x => u x); subst u) | clear_value u)

theorem execAvsStep_ev {z : State} (failed : List (Fin 8)) (s : State) (hs : Ev z s) : EvN z (execAvsStep failed s) := by
  unfold execAvsStep
  repeat' first
    | with_reducible first | assumption | apply Ev.ite | apply Ev.ite_st | apply EvN.ite | apply EvN.done | apply EvN.next | apply EvN.res | apply State.forAll_ev | apply Res.done_ev | apply State.avsMove_ev | apply State.commFailed_ev
    | refine fun _ => ?_
    | ((try lift_lets); intro u; first | (refine Ev.cut (z := z) u ?_ ?_; (subst u); rotate_left; clear_value u; intro _) | (refine Ev.cut (z := z) u.st ?_ ?_; (subst u); rotate_left; clear_value u; intro _) | (refine Ev.cut (z := z) u.1 ?_ ?_; (subst u); rotate_left; clear_value u; intro _) | ((have _ := fun x => u x); subst u) | clear_value u)
    | dsimp only

theorem State.lockEvent_ev {z : State} (s : State) (i : Nat) (hs : Ev z s) : Ev z (State.lockEvent s i) := by
  unfold State.lockEvent
  repeat' first
    | with_reducible first | assumption | apply State.event_ev

theorem State.lockIdle_ev {z : State} (s : State) (hs : Ev z s) : Ev z (State.lockIdle s) := by
  unfold State.lockIdle
  repeat' first
    | with_reducible first | assumption | apply State.setReg_ev | apply State.setTab_ev

theorem State.prepareFails_ev {z : State} (s : State) (hs : Ev z s) : Ev z (State.prepareFails s) := by
  unfold State.prepareFails
  repeat' first
    | with_reducible first | assumption | apply State.lockEvent_ev | apply State.lockIdle_ev

theorem State.lockCommit_ev {z : State} (s : State) (t : Nat) (hs : Ev z s) : Ev z (State.lockCommit s t) := by
  unfold State.lockCommit
  repeat' first
    | with_reducible first | assumption | apply State.setReg_ev

theorem State.enterPrepared_ev {z : State} (s : State) (hs : Ev z s) : Ev z (State.enterPrepared s) := by
  unfold State.enterPrepared
  repeat' first
    | with_reducible first | assumption | apply Ev.ite | apply State.lockCommit_ev | apply State.lockEvent_ev | apply State.setReg_ev
    | refine fun _ => ?_
    | ((try lift_lets); intro u; first | (refine Ev.cut (z := z) u ?_ ?_; (subst u); rotate_left; clear_value u; intro _) | (refine Ev.cut (z := z) u.st ?_ ?_; (subst u); rotate_left; clear_value u; intro _) | (refine Ev.cut (z := z) u.1 ?_ ?_; (subst u); rotate_left; clear_value u; intro _) | ((have _ := fun x => u x); subst u) | clear_value u)

theorem State.lockPrepare_ev {z : State} (s : State) (txn d : Nat) (hs : Ev z s) : Ev z (State.lockPrepare s txn d) := by
  unfold State.lockPrepare
  repeat' first
    | with_reducible first | assumption | apply Ev.ite | apply State.enterPrepared_ev | apply State.prepareFails_ev | apply State.setReg_ev
    | refine fun _ => ?_
    | ((try lift_lets); intro u; first | (refine Ev.cut (z := z) u ?_ ?_; (subst u); rotate_left; clear_value u; intro _) | (refine Ev.cut (z := z) u.st ?_ ?_; (subst u); rotate_left; clear_value u; intro _) | (refine Ev.cut (z := z) u.1 ?_ ?_; (subst u); rotate_left; clear_value u; intro _) | ((have _ := fun x => u x); subst u) | clear_value u)

theorem prepareEffect_ev {z : State} (v : Nat) (s : State) (hs : Ev z s) : Ev z (prepareEffect v s).st := by
  unfold prepareEffect
  repeat' first
    | with_reducible first | assumption | apply Ev.ite | apply Ev.ite_st | apply Ev.done | apply Ev.fail | apply Res.done_ev | apply Res.fail_ev | apply State.lockPrepare_ev
    | refine fun _ => ?_
    | ((try lift_lets); intro u; first | (refine Ev.cut (z := z) u ?_ ?_; (subst u); rotate_left; clear_value u; intro _) | (refine Ev.cut (z := z) u.st ?_ ?_; (subst u); rotate_left; clear_value u; intro _) | (refine Ev.cut (z := z) u.1 ?_ ?_; (subst u); rotate_left; clear_value u; intro _) | ((have _ := fun x => u x); subst u) | clear_value u)

theorem execPrepare_ev {z : State} (w : SessionNo) (value : Nat) (s : State) (hs : Ev z s) : EvN z (execPrepare w value s) := by
  unfold execPrepare
  repeat' first
    | with_reducible first | assumption | apply EvN.next | apply EvN.res | apply State.hostWrite_ev | apply prepareEffect_ev

theorem execPrepared_ev {z : State} (s : State) (hs : Ev z s) : EvN z (execPrepared s) := by
  unfold execPrepared
  repeat' first
    | with_reducible first | assumption | apply Ev.ite | apply Ev.ite_st | apply EvN.ite | apply EvN.done | apply EvN.next | apply EvN.res | apply Res.done_ev | apply State.enterPrepared_ev
    | refine fun _ => ?_
    | dsimp only

theorem execPrepareFailed_ev {z : State} (s : State) (hs : Ev z s) : EvN z (execPrepareFailed s) := by
  unfold execPrepareFailed
  repeat' first
    | with_reducible first | assumption | apply Ev.ite | apply Ev.ite_st | apply EvN.ite | apply EvN.done | apply EvN.next | apply EvN.res | apply Res.done_ev | apply State.prepareFails_ev
    | refine fun _ => ?_

theorem execPrepareLapsed_ev {z : State} (s : State) (hs : Ev z s) : EvN z (execPrepareLapsed s) := by
  unfold execPrepareLapsed
  repeat' first
    | with_reducible first | assumption | apply Ev.ite | apply Ev.ite_st | apply EvN.ite | apply EvN.done | apply EvN.next | apply EvN.res | apply Res.done_ev | apply State.lockEvent_ev | apply State.lockIdle_ev
    | refine fun _ => ?_

theorem commitEffect_ev {z : State} (v : Nat) (s : State) (hs : Ev z s) : Ev z (commitEffect v s).st := by
  unfold commitEffect
  repeat' first
    | with_reducible first | assumption | apply Ev.ite | apply Ev.ite_st | apply Ev.done | apply Ev.fail | apply Res.done_ev | apply Res.fail_ev | apply State.lockCommit_ev
    | refine fun _ => ?_
    | ((try lift_lets); intro u; first | (refine Ev.cut (z := z) u ?_ ?_; (subst u); rotate_left; clear_value u; intro _) | (refine Ev.cut (z := z) u.st ?_ ?_; (subst u); rotate_left; clear_value u; intro _) | (refine Ev.cut (z := z) u.1 ?_ ?_; (subst u); rotate_left; clear_value u; intro _) | ((have _ := fun x => u x); subst u) | clear_value u)

theorem execCommit_ev {z : State} (w : SessionNo) (value : Nat) (s : State) (hs : Ev z s) : EvN z (execCommit w value s) := by
  unfold execCommit
  repeat' first
    | with_reducible first | assumption | apply EvN.next | apply EvN.res | apply State.hostWrite_ev | apply commitEffect_ev

theorem lockAbortEffect_ev {z : State} (txn : Nat) (s : State) (hs : Ev z s) : Ev z (lockAbortEffect txn s).st := by
  unfold lockAbortEffect
  repeat' first
    | with_reducible first | assumption | apply Ev.ite | apply Ev.ite_st | apply Ev.done | apply Ev.fail | apply Res.done_ev | apply Res.fail_ev | apply State.lockIdle_ev
    | refine fun _ => ?_
    | ((try lift_lets); intro u; first | (refine Ev.cut (z := z) u ?_ ?_; (subst u); rotate_left; clear_value u; intro _) | (refine Ev.cut (z := z) u.st ?_ ?_; (subst u); rotate_left; clear_value u; intro _) | (refine Ev.cut (z := z) u.1 ?_ ?_; (subst u); rotate_left; clear_value u; intro _) | ((have _ := fun x => u x); subst u) | clear_value u)

theorem execLockstepAbort_ev {z : State} (w : SessionNo) (txn : Nat) (s : State) (hs : Ev z s) : EvN z (execLockstepAbort w txn s) := by
  unfold execLockstepAbort
  repeat' first
    | with_reducible first | assumption | apply EvN.next | apply EvN.res | apply State.hostWrite_ev | apply lockAbortEffect_ev

theorem State.refreshThrottle_ev {z : State} (s : State) (hs : Ev z s) : Ev z (State.refreshThrottle s) := by
  unfold State.refreshThrottle
  repeat' first
    | with_reducible first | assumption | apply Ev.ite | apply State.setReg_ev
    | refine fun _ => ?_

theorem State.refreshInStep_ev {z : State} (s : State) (hs : Ev z s) : Ev z (State.refreshInStep s) := by
  unfold State.refreshInStep
  repeat' first
    | with_reducible first | assumption | apply State.setCause_ev

theorem groupIdEffect_ev {z : State} (v : Nat) (s : State) (hs : Ev z s) : Ev z (groupIdEffect v s).st := by
  unfold groupIdEffect
  repeat' first
    | with_reducible first | assumption | apply Ev.done | apply Res.done_ev | apply State.refreshInStep_ev | apply State.setReg_ev

theorem State.lockSwitch_ev {z : State} (s : State) (hs : Ev z s) : Ev z (State.lockSwitch s) := by
  unfold State.lockSwitch
  repeat' first
    | with_reducible first | assumption | apply Ev.ite | apply State.lockEvent_ev | apply State.lockIdle_ev | apply State.refreshInStep_ev | apply State.refreshThrottle_ev | apply State.setReg_ev | apply State.setTab_ev
    | refine fun _ => ?_
    | ((try lift_lets); intro u; first | (refine Ev.cut (z := z) u ?_ ?_; (subst u); rotate_left; clear_value u; intro _) | (refine Ev.cut (z := z) u.st ?_ ?_; (subst u); rotate_left; clear_value u; intro _) | (refine Ev.cut (z := z) u.1 ?_ ?_; (subst u); rotate_left; clear_value u; intro _) | ((have _ := fun x => u x); subst u) | clear_value u)

theorem State.lockDue_ev {z : State} (s : State) (hs : Ev z s) : Ev z (State.lockDue s) := by
  unfold State.lockDue
  repeat' first
    | with_reducible first | assumption | apply Ev.ite | apply State.lockSwitch_ev
    | refine fun _ => ?_

theorem execApplied_ev {z : State} (s : State) (hs : Ev z s) : EvN z (execApplied s) := by
  unfold execApplied
  repeat' first
    | with_reducible first | assumption | apply EvN.done | apply Res.done_ev | apply State.lockDue_ev

theorem execRaiseWindowEnd_ev {z : State} (s : State) (hs : Ev z s) : EvN z (execRaiseWindowEnd s) := by
  unfold execRaiseWindowEnd
  repeat' first
    | with_reducible first | assumption | apply Ev.ite | apply Ev.ite_st | apply EvN.ite | apply EvN.done | apply EvN.next | apply EvN.res | apply Res.done_ev | apply State.lockIdle_ev | apply State.setTab_ev
    | refine fun _ => ?_

theorem execReverted_ev {z : State} (mv : Nat) (s : State) (hs : Ev z s) : EvN z (execReverted mv s) := by
  unfold execReverted
  repeat' first
    | with_reducible first | assumption | apply Ev.ite | apply Ev.ite_st | apply EvN.ite | apply EvN.done | apply EvN.next | apply EvN.res | apply Res.done_ev | apply State.lockEvent_ev | apply State.refreshInStep_ev | apply State.setReg_ev | apply State.setTab_ev
    | refine fun _ => ?_
    | ((try lift_lets); intro u; first | (refine Ev.cut (z := z) u ?_ ?_; (subst u); rotate_left; clear_value u; intro _) | (refine Ev.cut (z := z) u.st ?_ ?_; (subst u); rotate_left; clear_value u; intro _) | (refine Ev.cut (z := z) u.1 ?_ ?_; (subst u); rotate_left; clear_value u; intro _) | ((have _ := fun x => u x); subst u) | clear_value u)

end Sys2Proof.Machine
end

