-- ==== Sys2Proof/Laws/EvMemory.lean ====
section
/-!
SUPPORT. The commands keep the invariants (Laws/Evolve.lean): the operations of Machine/Memory.lean.
-/
namespace Sys2Proof.Machine

theorem State.refreshFaulty_ev {z : State} (s : State) (hs : Ev z s) : Ev z (State.refreshFaulty s) := by
  unfold State.refreshFaulty
  repeat' first
    | with_reducible first | assumption | apply State.setCause_ev

theorem State.setBank_ev {z : State} (s : State) (k st owner : Nat) (hs : Ev z s) : Ev z (State.setBank s k st owner) := by
  unfold State.setBank
  repeat' first
    | with_reducible first | assumption | apply State.when_ev | apply State.bump_ev | apply State.refreshFaulty_ev | apply State.setReg_ev
    | refine fun _ => ?_
    | ((try lift_lets); intro u; first | (refine Ev.cut (z := z) u ?_ ?_; (subst u); rotate_left; clear_value u; intro _) | (refine Ev.cut (z := z) u.st ?_ ?_; (subst u); rotate_left; clear_value u; intro _) | (refine Ev.cut (z := z) u.1 ?_ ?_; (subst u); rotate_left; clear_value u; intro _) | ((have _ := fun x => u x); subst u) | clear_value u)
    | dsimp only

theorem State.bankEvent_ev {z : State} (s : State) (k i : Nat) (hs : Ev z s) : Ev z (State.bankEvent s k i) := by
  unfold State.bankEvent
  repeat' first
    | with_reducible first | assumption | apply State.event_ev

theorem State.faultBank_ev {z : State} (s : State) (k word : Nat) (hs : Ev z s) : Ev z (State.faultBank s k word) := by
  unfold State.faultBank
  repeat' first
    | with_reducible first | assumption | apply State.bankEvent_ev | apply State.count_ev | apply State.logFault_ev | apply State.setBank_ev
    | ((try lift_lets); intro u; first | (refine Ev.cut (z := z) u ?_ ?_; (subst u); rotate_left; clear_value u; intro _) | (refine Ev.cut (z := z) u.st ?_ ?_; (subst u); rotate_left; clear_value u; intro _) | (refine Ev.cut (z := z) u.1 ?_ ?_; (subst u); rotate_left; clear_value u; intro _) | ((have _ := fun x => u x); subst u) | clear_value u)

theorem State.returnBank_ev {z : State} (s : State) (k : Nat) (hs : Ev z s) : Ev z (State.returnBank s k) := by
  unfold State.returnBank
  repeat' first
    | with_reducible first | assumption | apply State.bankEvent_ev | apply State.setBank_ev

theorem State.returnAtEnd_ev {z : State} (s : State) (b : Nat) (hs : Ev z s) : Ev z (State.returnAtEnd s b) := by
  unfold State.returnAtEnd
  repeat' first
    | with_reducible first | assumption | apply State.forAll_ev | apply State.returnBank_ev
    | refine fun _ => ?_
    | dsimp only

theorem State.returnAtFence_ev {z : State} (s : State) (b : Nat) (hs : Ev z s) : Ev z (State.returnAtFence s b) := by
  unfold State.returnAtFence
  repeat' first
    | with_reducible first | assumption | apply State.forAll_ev | apply State.returnBank_ev
    | refine fun _ => ?_

theorem State.setJig_ev {z : State} (s : State) (k v : Nat) (hs : Ev z s) : Ev z (State.setJig s k v) := by
  unfold State.setJig
  repeat' first
    | with_reducible first | assumption | apply State.setTab_ev

theorem State.jigEnd_ev {z : State} (s : State) (st : Nat) (hs : Ev z s) : Ev z (State.jigEnd s st) := by
  unfold State.jigEnd
  repeat' first
    | with_reducible first | assumption | apply State.clearTab_ev | apply State.event_ev | apply State.setJig_ev | apply State.setReg_ev
    | ((try lift_lets); intro u; first | (refine Ev.cut (z := z) u ?_ ?_; (subst u); rotate_left; clear_value u; intro _) | (refine Ev.cut (z := z) u.st ?_ ?_; (subst u); rotate_left; clear_value u; intro _) | (refine Ev.cut (z := z) u.1 ?_ ?_; (subst u); rotate_left; clear_value u; intro _) | ((have _ := fun x => u x); subst u) | clear_value u)

theorem State.jigTake_ev {z : State} (s : State) (g : Nat) (hs : Ev z s) : Ev z (State.jigTake s g) := by
  unfold State.jigTake
  repeat' first
    | with_reducible first | assumption | apply State.when_ev | apply State.setJig_ev | apply State.setReg_ev | apply State.setTab_ev
    | refine fun _ => ?_
    | ((try lift_lets); intro u; first | (refine Ev.cut (z := z) u ?_ ?_; (subst u); rotate_left; clear_value u; intro _) | (refine Ev.cut (z := z) u.st ?_ ?_; (subst u); rotate_left; clear_value u; intro _) | (refine Ev.cut (z := z) u.1 ?_ ?_; (subst u); rotate_left; clear_value u; intro _) | ((have _ := fun x => u x); subst u) | clear_value u)
    | dsimp only

theorem State.jigAdvance_ev {z : State} (s : State) (hs : Ev z s) : Ev z (State.jigAdvance s) := by
  unfold State.jigAdvance
  repeat' first
    | with_reducible first | assumption | apply State.jigEnd_ev | apply State.jigTake_ev | apply State.setJig_ev
    | dsimp only
    | (with_reducible apply Ev.fst; assumption)
    | split

theorem State.jigContinue_ev {z : State} (s : State) (retried : Bool) (hs : Ev z s) : Ev z (State.jigContinue s retried) := by
  unfold State.jigContinue
  repeat' first
    | with_reducible first | assumption | apply Ev.ite | apply State.jigAdvance_ev | apply State.jigTake_ev
    | refine fun _ => ?_
    | dsimp only
    | (with_reducible apply Ev.fst; assumption)
    | split

theorem State.jigProgress_ev {z : State} (s : State) (hs : Ev z s) : Ev z (State.jigProgress s) := by
  unfold State.jigProgress
  repeat' first
    | with_reducible first | assumption | apply Ev.ite | apply Res.done_ev | apply State.setReg_ev
    | refine fun _ => ?_
    | ((try lift_lets); intro u; first | (refine Ev.cut (z := z) u ?_ ?_; (subst u); rotate_left; clear_value u; intro _) | (refine Ev.cut (z := z) u.st ?_ ?_; (subst u); rotate_left; clear_value u; intro _) | (refine Ev.cut (z := z) u.1 ?_ ?_; (subst u); rotate_left; clear_value u; intro _) | ((have _ := fun x => u x); subst u) | clear_value u)

theorem State.jigYield_ev {z : State} (s : State) (g : Nat) (hs : Ev z s) : Ev z (State.jigYield s g) := by
  unfold State.jigYield
  repeat' first
    | with_reducible first | assumption | apply Ev.ite | apply State.bump_ev | apply State.event_ev | apply State.jigAdvance_ev | apply State.jigContinue_ev | apply State.jigEnd_ev | apply State.jigProgress_ev | apply State.setJig_ev | apply State.setReg_ev | apply State.setTab_ev
    | refine fun _ => ?_
    | ((try lift_lets); intro u; first | (refine Ev.cut (z := z) u ?_ ?_; (subst u); rotate_left; clear_value u; intro _) | (refine Ev.cut (z := z) u.st ?_ ?_; (subst u); rotate_left; clear_value u; intro _) | (refine Ev.cut (z := z) u.1 ?_ ?_; (subst u); rotate_left; clear_value u; intro _) | ((have _ := fun x => u x); subst u) | clear_value u)

theorem State.ownerAccess_ev {z : State} (s : State) (p n : Nat) (hs : Ev z s) : Ev z (State.ownerAccess s p n) := by
  unfold State.ownerAccess
  repeat' first
    | with_reducible first | assumption | apply Ev.ite | apply State.jigYield_ev
    | refine fun _ => ?_
    | dsimp only
    | (with_reducible apply Ev.fst; assumption)
    | split

theorem handoverEffect_ev {z : State} (k v : Nat) (s : State) (hs : Ev z s) : Ev z (handoverEffect k v s).st := by
  unfold handoverEffect
  repeat' first
    | with_reducible first | assumption | apply Ev.ite | apply Ev.ite_st | apply Ev.done | apply Ev.fail | apply State.when_ev | apply Res.done_ev | apply Res.fail_ev | apply State.ownerAccess_ev | apply State.setBank_ev
    | refine fun _ => ?_
    | ((try lift_lets); intro u; first | (refine Ev.cut (z := z) u ?_ ?_; (subst u); rotate_left; clear_value u; intro _) | (refine Ev.cut (z := z) u.st ?_ ?_; (subst u); rotate_left; clear_value u; intro _) | (refine Ev.cut (z := z) u.1 ?_ ?_; (subst u); rotate_left; clear_value u; intro _) | ((have _ := fun x => u x); subst u) | clear_value u)
    | dsimp only
    | (with_reducible apply Ev.fst; assumption)
    | split

theorem execHandover_ev {z : State} (w : SessionNo) (bank : Fin 512) (owner : Nat) (s : State) (hs : Ev z s) : EvN z (execHandover w bank owner s) := by
  unfold execHandover
  repeat' first
    | with_reducible first | assumption | apply EvN.next | apply EvN.res | apply State.hostWrite_ev | apply handoverEffect_ev

theorem execBankCleared_ev {z : State} (bank : Fin 512) (s : State) (hs : Ev z s) : EvN z (execBankCleared bank s) := by
  unfold execBankCleared
  repeat' first
    | with_reducible first | assumption | apply Ev.ite | apply Ev.ite_st | apply EvN.ite | apply EvN.done | apply EvN.next | apply EvN.res | apply Res.done_ev | apply State.setBank_ev | apply State.zeroBytes_ev
    | refine fun _ => ?_

theorem serviceEffect_ev {z : State} (k v : Nat) (s : State) (hs : Ev z s) : Ev z (serviceEffect k v s).st := by
  unfold serviceEffect
  repeat' first
    | with_reducible first | assumption | apply Ev.ite | apply Ev.ite_st | apply Ev.done | apply Ev.fail | apply Res.done_ev | apply Res.fail_ev | apply State.setBank_ev
    | refine fun _ => ?_

theorem execService_ev {z : State} (w : SessionNo) (bank : Fin 512) (value : Nat) (s : State) (hs : Ev z s) : EvN z (execService w bank value s) := by
  unfold execService
  repeat' first
    | with_reducible first | assumption | apply EvN.next | apply EvN.res | apply State.hostWrite_ev | apply serviceEffect_ev

theorem bankPartEffect_ev {z : State} (k v : Nat) (s : State) (hs : Ev z s) : Ev z (bankPartEffect k v s).st := by
  unfold bankPartEffect
  repeat' first
    | with_reducible first | assumption | apply Ev.ite | apply Ev.ite_st | apply Ev.fail | apply State.store_ev | apply Res.fail_ev
    | refine fun _ => ?_

theorem State.poolCounts_ev {z : State} (s : State) (b p n corrected busy : Nat) (hs : Ev z s) : Ev z (State.poolCounts s b p n corrected busy) := by
  unfold State.poolCounts
  repeat' first
    | with_reducible first | assumption | apply State.when_ev | apply State.count_ev | apply State.ownerAccess_ev | apply State.setStatus_ev
    | refine fun _ => ?_
    | ((try lift_lets); intro u; first | (refine Ev.cut (z := z) u ?_ ?_; (subst u); rotate_left; clear_value u; intro _) | (refine Ev.cut (z := z) u.st ?_ ?_; (subst u); rotate_left; clear_value u; intro _) | (refine Ev.cut (z := z) u.1 ?_ ?_; (subst u); rotate_left; clear_value u; intro _) | ((have _ := fun x => u x); subst u) | clear_value u)
    | dsimp only

theorem jigEffect_ev {z : State} (v : Nat) (s : State) (hs : Ev z s) : Ev z (jigEffect v s).st := by
  unfold jigEffect
  repeat' first
    | with_reducible first | assumption | apply Ev.ite | apply Ev.ite_st | apply Ev.done | apply Ev.fail | apply State.when_ev | apply State.forAll_ev | apply Res.done_ev | apply Res.fail_ev | apply State.clearTab_ev | apply State.jigAdvance_ev | apply State.jigProgress_ev | apply State.resetReg_ev | apply State.setJig_ev | apply State.setReg_ev
    | refine fun _ => ?_
    | ((try lift_lets); intro u; first | (refine Ev.cut (z := z) u ?_ ?_; (subst u); rotate_left; clear_value u; intro _) | (refine Ev.cut (z := z) u.st ?_ ?_; (subst u); rotate_left; clear_value u; intro _) | (refine Ev.cut (z := z) u.1 ?_ ?_; (subst u); rotate_left; clear_value u; intro _) | ((have _ := fun x => u x); subst u) | clear_value u)
    | dsimp only

theorem execJigStart_ev {z : State} (w : SessionNo) (s : State) (hs : Ev z s) : EvN z (execJigStart w s) := by
  unfold execJigStart
  repeat' first
    | with_reducible first | assumption | apply EvN.next | apply EvN.res | apply State.hostWrite_ev | apply jigEffect_ev

theorem execJigStop_ev {z : State} (w : SessionNo) (s : State) (hs : Ev z s) : EvN z (execJigStop w s) := by
  unfold execJigStop
  repeat' first
    | with_reducible first | assumption | apply EvN.next | apply EvN.res | apply State.hostWrite_ev | apply jigEffect_ev

theorem State.jigError_ev {z : State} (s : State) (g : Nat) (e : JigError) (hs : Ev z s) : Ev z (State.jigError s g e) := by
  unfold State.jigError
  repeat' first
    | with_reducible first | assumption | apply Ev.ite | apply State.when_ev | apply State.bump_ev | apply State.event_ev | apply State.setJig_ev | apply State.setReg_ev
    | refine fun _ => ?_
    | ((try lift_lets); intro u; first | (refine Ev.cut (z := z) u ?_ ?_; (subst u); rotate_left; clear_value u; intro _) | (refine Ev.cut (z := z) u.st ?_ ?_; (subst u); rotate_left; clear_value u; intro _) | (refine Ev.cut (z := z) u.1 ?_ ?_; (subst u); rotate_left; clear_value u; intro _) | ((have _ := fun x => u x); subst u) | clear_value u)
    | dsimp only

theorem State.jigBankDone_ev {z : State} (s : State) (k : Nat) (hs : Ev z s) : Ev z (State.jigBankDone s k) := by
  unfold State.jigBankDone
  repeat' first
    | with_reducible first | assumption | apply State.faultBank_ev | apply State.setJig_ev | apply State.setReg_ev | apply State.zeroBytes_ev
    | ((try lift_lets); intro u; first | (refine Ev.cut (z := z) u ?_ ?_; (subst u); rotate_left; clear_value u; intro _) | (refine Ev.cut (z := z) u.st ?_ ?_; (subst u); rotate_left; clear_value u; intro _) | (refine Ev.cut (z := z) u.1 ?_ ?_; (subst u); rotate_left; clear_value u; intro _) | ((have _ := fun x => u x); subst u) | clear_value u)
    | dsimp only
    | (with_reducible apply Ev.fst; assumption)
    | split

theorem execJigSegmentDone_ev {z : State} (errors : List JigError) (s : State) (hs : Ev z s) : EvN z (execJigSegmentDone errors s) := by
  unfold execJigSegmentDone
  repeat' first
    | with_reducible first | assumption | apply Ev.ite | apply Ev.ite_st | apply EvN.ite | apply EvN.done | apply EvN.next | apply EvN.res | apply State.when_ev | apply State.forAll_ev | apply Res.done_ev | apply State.bump_ev | apply State.jigBankDone_ev | apply State.jigContinue_ev | apply State.jigEnd_ev | apply State.jigError_ev | apply State.jigProgress_ev | apply State.setJig_ev | apply State.setTab_ev
    | refine fun _ => ?_
    | ((try lift_lets); intro u; first | (refine Ev.cut (z := z) u ?_ ?_; (subst u); rotate_left; clear_value u; intro _) | (refine Ev.cut (z := z) u.st ?_ ?_; (subst u); rotate_left; clear_value u; intro _) | (refine Ev.cut (z := z) u.1 ?_ ?_; (subst u); rotate_left; clear_value u; intro _) | ((have _ := fun x => u x); subst u) | clear_value u)
    | dsimp only
    | (with_reducible apply Ev.fst; assumption)
    | split

end Sys2Proof.Machine
end

