-- ==== Sys2Proof/Laws/EvBenches.lean ====
section
/-!
SUPPORT. The commands keep the invariants (Laws/Evolve.lean): the operations of Machine/Benches.lean.
-/
namespace Sys2Proof.Machine

theorem State.benchEvent_ev {z : State} (s : State) (b i : Nat) (hs : Ev z s) : Ev z (State.benchEvent s b i) := by
  unfold State.benchEvent
  repeat' first
    | with_reducible first | assumption | apply Ev.ite | apply State.event_ev
    | refine fun _ => ?_

theorem State.refreshFenced_ev {z : State} (s : State) (hs : Ev z s) : Ev z (State.refreshFenced s) := by
  unfold State.refreshFenced
  repeat' first
    | with_reducible first | assumption | apply State.setCause_ev
    | refine fun _ => ?_
    | dsimp only

theorem State.setBench_ev {z : State} (s : State) (b st : Nat) (hs : Ev z s) : Ev z (State.setBench s b st) := by
  unfold State.setBench
  repeat' first
    | with_reducible first | assumption | apply State.refreshFenced_ev | apply State.setReg_ev

theorem State.startProgram_ev {z : State} (s : State) (b cause entry ns : Nat) (hs : Ev z s) : Ev z (State.startProgram s b cause entry ns) := by
  unfold State.startProgram
  repeat' first
    | with_reducible first | assumption | apply State.setBench_ev | apply State.setCw_ev | apply State.setLoopStack_ev | apply State.setMisc_ev | apply State.setReg_ev | apply State.setRetStack_ev
    | ((try lift_lets); intro u; first | (refine Ev.cut (z := z) u ?_ ?_; (subst u); rotate_left; clear_value u; intro _) | (refine Ev.cut (z := z) u.st ?_ ?_; (subst u); rotate_left; clear_value u; intro _) | (refine Ev.cut (z := z) u.1 ?_ ?_; (subst u); rotate_left; clear_value u; intro _) | ((have _ := fun x => u x); subst u) | clear_value u)

theorem State.startTrigger_ev {z : State} (s : State) (b cycle ns : Nat) (hs : Ev z s) : Ev z (State.startTrigger s b cycle ns) := by
  unfold State.startTrigger
  repeat' first
    | with_reducible first | assumption | apply State.count_ev | apply State.setCw_ev | apply State.startProgram_ev

theorem State.missTrigger_ev {z : State} (s : State) (b : Nat) (hs : Ev z s) : Ev z (State.missTrigger s b) := by
  unfold State.missTrigger
  repeat' first
    | with_reducible first | assumption | apply State.benchEvent_ev | apply State.count_ev

theorem State.triggerBench_ev {z : State} (s : State) (b cycle ns : Nat) (hs : Ev z s) : Ev z (State.triggerBench s b cycle ns) := by
  unfold State.triggerBench
  repeat' first
    | with_reducible first | assumption | apply Ev.ite | apply State.missTrigger_ev | apply State.setTab_ev | apply State.startTrigger_ev
    | refine fun _ => ?_

theorem State.becomeIdle_ev {z : State} (s : State) (b : Nat) (hs : Ev z s) : Ev z (State.becomeIdle s b) := by
  unfold State.becomeIdle
  repeat' first
    | with_reducible first | assumption | apply State.setBench_ev | apply State.setReg_ev | apply State.setTab_ev | apply State.startTrigger_ev
    | ((try lift_lets); intro u; first | (refine Ev.cut (z := z) u ?_ ?_; (subst u); rotate_left; clear_value u; intro _) | (refine Ev.cut (z := z) u.st ?_ ?_; (subst u); rotate_left; clear_value u; intro _) | (refine Ev.cut (z := z) u.1 ?_ ?_; (subst u); rotate_left; clear_value u; intro _) | ((have _ := fun x => u x); subst u) | clear_value u)
    | dsimp only
    | (with_reducible apply Ev.fst; assumption)
    | split

theorem State.raiseTrigger_ev {z : State} (s : State) (g : Nat) (hs : Ev z s) : Ev z (State.raiseTrigger s g) := by
  unfold State.raiseTrigger
  repeat' first
    | with_reducible first | assumption | apply State.when_ev | apply State.forAll_ev | apply State.setTab_ev | apply State.triggerBench_ev
    | refine fun _ => ?_
    | ((try lift_lets); intro u; first | (refine Ev.cut (z := z) u ?_ ?_; (subst u); rotate_left; clear_value u; intro _) | (refine Ev.cut (z := z) u.st ?_ ?_; (subst u); rotate_left; clear_value u; intro _) | (refine Ev.cut (z := z) u.1 ?_ ?_; (subst u); rotate_left; clear_value u; intro _) | ((have _ := fun x => u x); subst u) | clear_value u)
    | dsimp only

theorem execBenchTrigger_ev {z : State} (g : GroupNo) (s : State) (hs : Ev z s) : EvN z (execBenchTrigger g s) := by
  unfold execBenchTrigger
  repeat' first
    | with_reducible first | assumption | apply Ev.ite | apply Ev.ite_st | apply EvN.ite | apply EvN.done | apply EvN.next | apply EvN.res | apply Res.done_ev | apply State.raiseTrigger_ev
    | refine fun _ => ?_

theorem State.finishCycle_ev {z : State} (s : State) (g : Nat) (hs : Ev z s) : Ev z (State.finishCycle s g) := by
  unfold State.finishCycle
  repeat' first
    | with_reducible first | assumption | apply Ev.ite | apply State.forAll_ev | apply State.raiseTrigger_ev | apply State.runList_ev
    | refine fun _ => ?_
    | ((try lift_lets); intro u; first | (refine Ev.cut (z := z) u ?_ ?_; (subst u); rotate_left; clear_value u; intro _) | (refine Ev.cut (z := z) u.st ?_ ?_; (subst u); rotate_left; clear_value u; intro _) | (refine Ev.cut (z := z) u.1 ?_ ?_; (subst u); rotate_left; clear_value u; intro _) | ((have _ := fun x => u x); subst u) | clear_value u)
    | dsimp only
    | (with_reducible apply Ev.fst; assumption)
    | split

theorem State.cycleStart_ev {z : State} (s : State) (g : Nat) (hs : Ev z s) : Ev z (State.cycleStart s g) := by
  unfold State.cycleStart
  repeat' first
    | with_reducible first | assumption | apply Ev.ite | apply State.adoptTiming_ev | apply State.finishCycle_ev | apply State.runCycle_ev
    | refine fun _ => ?_
    | dsimp only
    | (with_reducible apply Ev.fst; assumption)
    | split

theorem execBenchIntStart_ev {z : State} (b : BenchNo) (s : State) (hs : Ev z s) : EvN z (execBenchIntStart b s) := by
  unfold execBenchIntStart
  repeat' first
    | with_reducible first | assumption | apply Ev.ite | apply Ev.ite_st | apply EvN.ite | apply EvN.done | apply EvN.next | apply EvN.res | apply Res.done_ev | apply State.startProgram_ev
    | refine fun _ => ?_

theorem submitEffect_ev {z : State} (d : Nat) (s : State) (hs : Ev z s) : Ev z (submitEffect d s).st := by
  unfold submitEffect
  repeat' first
    | with_reducible first | assumption | apply Ev.ite | apply Ev.ite_st | apply Ev.done | apply Ev.fail | apply Res.done_ev | apply Res.fail_ev | apply State.bump_ev | apply State.setTab_ev
    | refine fun _ => ?_
    | ((try lift_lets); intro u; first | (refine Ev.cut (z := z) u ?_ ?_; (subst u); rotate_left; clear_value u; intro _) | (refine Ev.cut (z := z) u.st ?_ ?_; (subst u); rotate_left; clear_value u; intro _) | (refine Ev.cut (z := z) u.1 ?_ ?_; (subst u); rotate_left; clear_value u; intro _) | ((have _ := fun x => u x); subst u) | clear_value u)

theorem execSubmit_ev {z : State} (w : SessionNo) (descriptor : Bytes) (s : State) (hs : Ev z s) : EvN z (execSubmit w descriptor s) := by
  unfold execSubmit
  repeat' first
    | with_reducible first | assumption | apply Ev.ite | apply Ev.ite_st | apply EvN.ite | apply EvN.next | apply EvN.res | apply State.hostWrite_ev | apply submitEffect_ev
    | refine fun _ => ?_

theorem State.completeJob_ev {z : State} (s : State) (slot status bench userCode : Nat) (data : Bytes) (hs : Ev z s) : Ev z (State.completeJob s slot status bench userCode data) := by
  unfold State.completeJob
  repeat' first
    | with_reducible first | assumption | apply State.bump_ev | apply State.setTab_ev | apply State.trigger_ev
    | ((try lift_lets); intro u; first | (refine Ev.cut (z := z) u ?_ ?_; (subst u); rotate_left; clear_value u; intro _) | (refine Ev.cut (z := z) u.st ?_ ?_; (subst u); rotate_left; clear_value u; intro _) | (refine Ev.cut (z := z) u.1 ?_ ?_; (subst u); rotate_left; clear_value u; intro _) | ((have _ := fun x => u x); subst u) | clear_value u)

theorem cancelEffect_ev {z : State} (c : Nat) (s : State) (hs : Ev z s) : Ev z (cancelEffect c s).st := by
  unfold cancelEffect
  repeat' first
    | with_reducible first | assumption | apply Ev.ite | apply Ev.ite_st | apply Ev.done | apply Ev.fail | apply State.forAll_ev | apply Res.done_ev | apply Res.fail_ev | apply State.completeJob_ev
    | refine fun _ => ?_
    | ((try lift_lets); intro u; first | (refine Ev.cut (z := z) u ?_ ?_; (subst u); rotate_left; clear_value u; intro _) | (refine Ev.cut (z := z) u.st ?_ ?_; (subst u); rotate_left; clear_value u; intro _) | (refine Ev.cut (z := z) u.1 ?_ ?_; (subst u); rotate_left; clear_value u; intro _) | ((have _ := fun x => u x); subst u) | clear_value u)
    | dsimp only

theorem execCancelClass_ev {z : State} (w : SessionNo) (c : Nat) (s : State) (hs : Ev z s) : EvN z (execCancelClass w c s) := by
  unfold execCancelClass
  repeat' first
    | with_reducible first | assumption | apply EvN.next | apply EvN.res | apply State.hostWrite_ev | apply cancelEffect_ev

theorem execJobDispatch_ev {z : State} (s : State) (hs : Ev z s) : EvN z (execJobDispatch s) := by
  unfold execJobDispatch
  repeat' first
    | with_reducible first | assumption | apply EvN.done | apply EvN.next | apply EvN.res | apply State.forAll_ev | apply Res.done_ev | apply State.setCw_ev | apply State.setMisc_ev | apply State.setReg_ev | apply State.setS_ev | apply State.setTab_ev | apply State.startProgram_ev
    | refine fun _ => ?_
    | ((try lift_lets); intro u; first | (refine Ev.cut (z := z) u ?_ ?_; (subst u); rotate_left; clear_value u; intro _) | (refine Ev.cut (z := z) u.st ?_ ?_; (subst u); rotate_left; clear_value u; intro _) | (refine Ev.cut (z := z) u.1 ?_ ?_; (subst u); rotate_left; clear_value u; intro _) | ((have _ := fun x => u x); subst u) | clear_value u)
    | dsimp only
    | (with_reducible apply Ev.fst; assumption)
    | split

theorem State.endJob_ev {z : State} (s : State) (b status userCode : Nat) (data : Bytes) (hs : Ev z s) : Ev z (State.endJob s b status userCode data) := by
  unfold State.endJob
  repeat' first
    | with_reducible first | assumption | apply State.completeJob_ev | apply State.count_ev | apply State.setMisc_ev
    | ((try lift_lets); intro u; first | (refine Ev.cut (z := z) u ?_ ?_; (subst u); rotate_left; clear_value u; intro _) | (refine Ev.cut (z := z) u.st ?_ ?_; (subst u); rotate_left; clear_value u; intro _) | (refine Ev.cut (z := z) u.1 ?_ ?_; (subst u); rotate_left; clear_value u; intro _) | ((have _ := fun x => u x); subst u) | clear_value u)
    | dsimp only
    | (with_reducible apply Ev.fst; assumption)
    | split

theorem State.releaseBarrier_ev {z : State} (s : State) (k : Nat) (f : Nat → State → State) (hs : Ev z s) (hf : ∀ x u, Ev z u → Ev z (f x u)) : Ev z (State.releaseBarrier s k f) := by
  unfold State.releaseBarrier
  repeat' first
    | with_reducible first | assumption | apply State.forAll_ev | apply State.bump_ev | apply State.setBench_ev | apply State.setMisc_ev | apply State.setReg_ev | apply hf
    | refine fun _ => ?_
    | ((try lift_lets); intro u; first | (refine Ev.cut (z := z) u ?_ ?_; (subst u); rotate_left; clear_value u; intro _) | (refine Ev.cut (z := z) u.st ?_ ?_; (subst u); rotate_left; clear_value u; intro _) | (refine Ev.cut (z := z) u.1 ?_ ?_; (subst u); rotate_left; clear_value u; intro _) | ((have _ := fun x => u x); subst u) | clear_value u)
    | dsimp only

theorem State.arriveBarrier_ev {z : State} (s : State) (b k : Nat) (hs : Ev z s) : Ev z (State.arriveBarrier s b k) := by
  unfold State.arriveBarrier
  repeat' first
    | with_reducible first | assumption | apply Ev.ite | apply State.bump_ev | apply State.releaseBarrier_ev | apply State.setBench_ev | apply State.setMisc_ev
    | refine fun _ => ?_
    | ((try lift_lets); intro u; first | (refine Ev.cut (z := z) u ?_ ?_; (subst u); rotate_left; clear_value u; intro _) | (refine Ev.cut (z := z) u.st ?_ ?_; (subst u); rotate_left; clear_value u; intro _) | (refine Ev.cut (z := z) u.1 ?_ ?_; (subst u); rotate_left; clear_value u; intro _) | ((have _ := fun x => u x); subst u) | clear_value u)
    | dsimp only

theorem State.withdrawArrival_ev {z : State} (s : State) (b : Nat) (hs : Ev z s) : Ev z (State.withdrawArrival s b) := by
  unfold State.withdrawArrival
  repeat' first
    | with_reducible first | assumption | apply Pass.drop_ev | apply State.drop_ev | apply State.setMisc_ev
    | dsimp only
    | (with_reducible apply Ev.fst; assumption)
    | split

theorem participantsEffect_ev {z : State} (k v : Nat) (s : State) (hs : Ev z s) : Ev z (participantsEffect k v s).st := by
  unfold participantsEffect
  repeat' first
    | with_reducible first | assumption | apply Ev.ite | apply Ev.ite_st | apply Ev.fail | apply State.store_ev | apply Res.fail_ev
    | refine fun _ => ?_

theorem execBarrierTimeout_ev {z : State} (k : Fin 32) (s : State) (hs : Ev z s) : EvN z (execBarrierTimeout k s) := by
  unfold execBarrierTimeout
  repeat' first
    | with_reducible first | assumption | apply Ev.ite | apply Ev.ite_st | apply EvN.ite | apply EvN.done | apply EvN.next | apply EvN.res | apply Res.done_ev | apply State.benchEvent_ev | apply State.bump_ev | apply State.releaseBarrier_ev | apply State.setStatus_ev
    | refine fun _ => ?_
    | dsimp only

theorem State.clearTileWaits_ev {z : State} (s : State) (b : Nat) (hs : Ev z s) : Ev z (State.clearTileWaits s b) := by
  unfold State.clearTileWaits
  repeat' first
    | with_reducible first | assumption | apply State.clearTabRange_ev | apply State.setMisc_ev

theorem State.depart_ev {z : State} (s : State) (b status userCode : Nat) (hs : Ev z s) : Ev z (State.depart s b status userCode) := by
  unfold State.depart
  repeat' first
    | with_reducible first | assumption | apply State.clearTileWaits_ev | apply State.completeAllOf_ev | apply State.endJob_ev | apply State.setSendQueue_ev | apply State.withdrawArrival_ev
    | ((try lift_lets); intro u; first | (refine Ev.cut (z := z) u ?_ ?_; (subst u); rotate_left; clear_value u; intro _) | (refine Ev.cut (z := z) u.st ?_ ?_; (subst u); rotate_left; clear_value u; intro _) | (refine Ev.cut (z := z) u.1 ?_ ?_; (subst u); rotate_left; clear_value u; intro _) | ((have _ := fun x => u x); subst u) | clear_value u)
    | dsimp only

theorem State.trapBench_ev {z : State} (s : State) (b cause : Nat) (hs : Ev z s) : Ev z (State.trapBench s b cause) := by
  unfold State.trapBench
  repeat' first
    | with_reducible first | assumption | apply State.benchEvent_ev | apply State.depart_ev | apply State.returnAtEnd_ev | apply State.setBench_ev | apply State.setReg_ev
    | ((try lift_lets); intro u; first | (refine Ev.cut (z := z) u ?_ ?_; (subst u); rotate_left; clear_value u; intro _) | (refine Ev.cut (z := z) u.st ?_ ?_; (subst u); rotate_left; clear_value u; intro _) | (refine Ev.cut (z := z) u.1 ?_ ?_; (subst u); rotate_left; clear_value u; intro _) | ((have _ := fun x => u x); subst u) | clear_value u)

theorem execRunLimit_ev {z : State} (b : BenchNo) (s : State) (hs : Ev z s) : EvN z (execRunLimit b s) := by
  unfold execRunLimit
  repeat' first
    | with_reducible first | assumption | apply Ev.ite | apply Ev.ite_st | apply EvN.ite | apply EvN.done | apply EvN.next | apply EvN.res | apply Res.done_ev | apply State.trapBench_ev
    | refine fun _ => ?_

theorem State.haltBench_ev {z : State} (s : State) (b : Nat) (hs : Ev z s) : Ev z (State.haltBench s b) := by
  unfold State.haltBench
  repeat' first
    | with_reducible first | assumption | apply Ev.ite | apply State.benchEvent_ev | apply State.depart_ev | apply State.returnAtEnd_ev | apply State.setBench_ev | apply State.setReg_ev
    | refine fun _ => ?_

theorem State.resetBench_ev {z : State} (s : State) (b : Nat) (clear : Bool) (hs : Ev z s) : Ev z (State.resetBench s b clear) := by
  unfold State.resetBench
  repeat' first
    | with_reducible first | assumption | apply State.when_ev | apply State.clearTabRange_ev | apply State.depart_ev | apply State.returnAtEnd_ev | apply State.setBench_ev | apply State.setCw_ev | apply State.setMisc_ev | apply State.setReg_ev | apply State.setTab_ev
    | refine fun _ => ?_
    | ((try lift_lets); intro u; first | (refine Ev.cut (z := z) u ?_ ?_; (subst u); rotate_left; clear_value u; intro _) | (refine Ev.cut (z := z) u.st ?_ ?_; (subst u); rotate_left; clear_value u; intro _) | (refine Ev.cut (z := z) u.1 ?_ ?_; (subst u); rotate_left; clear_value u; intro _) | ((have _ := fun x => u x); subst u) | clear_value u)
    | dsimp only

theorem execBenchResetDone_ev {z : State} (b : BenchNo) (s : State) (hs : Ev z s) : EvN z (execBenchResetDone b s) := by
  unfold execBenchResetDone
  repeat' first
    | with_reducible first | assumption | apply Ev.ite | apply Ev.ite_st | apply EvN.ite | apply EvN.done | apply EvN.next | apply EvN.res | apply State.when_ev | apply Res.done_ev | apply State.becomeIdle_ev | apply State.setMisc_ev | apply State.zeroBytes_ev
    | refine fun _ => ?_
    | ((try lift_lets); intro u; first | (refine Ev.cut (z := z) u ?_ ?_; (subst u); rotate_left; clear_value u; intro _) | (refine Ev.cut (z := z) u.st ?_ ?_; (subst u); rotate_left; clear_value u; intro _) | (refine Ev.cut (z := z) u.1 ?_ ?_; (subst u); rotate_left; clear_value u; intro _) | ((have _ := fun x => u x); subst u) | clear_value u)
    | dsimp only

theorem State.fenceBench_ev {z : State} (s : State) (b : Nat) (hs : Ev z s) : Ev z (State.fenceBench s b) := by
  unfold State.fenceBench
  repeat' first
    | with_reducible first | assumption | apply State.benchEvent_ev | apply State.depart_ev | apply State.endCopies_ev | apply State.returnAtFence_ev | apply State.setBench_ev | apply State.setReg_ev | apply State.setTab_ev
    | refine fun _ => ?_
    | ((try lift_lets); intro u; first | (refine Ev.cut (z := z) u ?_ ?_; (subst u); rotate_left; clear_value u; intro _) | (refine Ev.cut (z := z) u.st ?_ ?_; (subst u); rotate_left; clear_value u; intro _) | (refine Ev.cut (z := z) u.1 ?_ ?_; (subst u); rotate_left; clear_value u; intro _) | ((have _ := fun x => u x); subst u) | clear_value u)
    | dsimp only

theorem State.unfenceBench_ev {z : State} (s : State) (b : Nat) (hs : Ev z s) : Ev z (State.unfenceBench s b) := by
  unfold State.unfenceBench
  repeat' first
    | with_reducible first | assumption | apply State.becomeIdle_ev | apply State.resetBench_ev | apply State.setMisc_ev

theorem benchCommandEffect_ev {z : State} (b v : Nat) (s : State) (hs : Ev z s) : Ev z (benchCommandEffect b v s).st := by
  unfold benchCommandEffect
  repeat' first
    | with_reducible first | assumption | apply Ev.ite | apply Ev.ite_st | apply Ev.done | apply Ev.fail | apply Res.done_ev | apply Res.fail_ev | apply State.haltBench_ev | apply State.resetBench_ev | apply State.startProgram_ev
    | refine fun _ => ?_

theorem execRun_ev {z : State} (w : SessionNo) (b : BenchNo) (s : State) (hs : Ev z s) : EvN z (execRun w b s) := by
  unfold execRun
  repeat' first
    | with_reducible first | assumption | apply EvN.next | apply EvN.res | apply State.hostWrite_ev | apply benchCommandEffect_ev

theorem execHalt_ev {z : State} (w : SessionNo) (b : BenchNo) (s : State) (hs : Ev z s) : EvN z (execHalt w b s) := by
  unfold execHalt
  repeat' first
    | with_reducible first | assumption | apply EvN.next | apply EvN.res | apply State.hostWrite_ev | apply benchCommandEffect_ev

theorem execBenchReset_ev {z : State} (w : SessionNo) (b : BenchNo) (s : State) (hs : Ev z s) : EvN z (execBenchReset w b s) := by
  unfold execBenchReset
  repeat' first
    | with_reducible first | assumption | apply EvN.next | apply EvN.res | apply State.hostWrite_ev | apply benchCommandEffect_ev

theorem execBenchResetClear_ev {z : State} (w : SessionNo) (b : BenchNo) (s : State) (hs : Ev z s) : EvN z (execBenchResetClear w b s) := by
  unfold execBenchResetClear
  repeat' first
    | with_reducible first | assumption | apply EvN.next | apply EvN.res | apply State.hostWrite_ev | apply benchCommandEffect_ev

theorem State.clampAdmit_ev {z : State} (s : State) (hs : Ev z s) : Ev z (State.clampAdmit s) := by
  unfold State.clampAdmit
  repeat' first
    | with_reducible first | assumption | apply State.setTab_ev

theorem State.askTile_ev {z : State} (s : State) (i : Nat) (hs : Ev z s) : Ev z (State.askTile s i) := by
  unfold State.askTile
  repeat' first
    | with_reducible first | assumption | apply Ev.ite | apply State.bump_ev | apply State.clampAdmit_ev | apply State.setTab_ev
    | refine fun _ => ?_

theorem State.askTiles_ev {z : State} (s : State) (b : Nat) (tiles : List Nat) (hs : Ev z s) : Ev z (State.askTiles s b tiles).1 := by
  unfold State.askTiles
  repeat' first
    | with_reducible first | assumption | apply Ev.ite | apply Ev.ite_fst | apply State.forAll_ev | apply State.askTile_ev | apply State.setMisc_ev
    | refine fun _ => ?_
    | ((try lift_lets); intro u; first | (refine Ev.cut (z := z) u ?_ ?_; (subst u); rotate_left; clear_value u; intro _) | (refine Ev.cut (z := z) u.st ?_ ?_; (subst u); rotate_left; clear_value u; intro _) | (refine Ev.cut (z := z) u.1 ?_ ?_; (subst u); rotate_left; clear_value u; intro _) | ((have _ := fun x => u x); subst u) | clear_value u)
    | dsimp only

theorem execTileStartAdmitted_ev {z : State} (s : State) (hs : Ev z s) : EvN z (execTileStartAdmitted s) := by
  unfold execTileStartAdmitted
  repeat' first
    | with_reducible first | assumption | apply Ev.ite | apply Ev.ite_st | apply EvN.ite | apply EvN.done | apply EvN.next | apply EvN.res | apply State.when_ev | apply Res.done_ev | apply State.clampAdmit_ev | apply State.setMisc_ev | apply State.setTab_ev
    | refine fun _ => ?_
    | ((try lift_lets); intro u; first | (refine Ev.cut (z := z) u ?_ ?_; (subst u); rotate_left; clear_value u; intro _) | (refine Ev.cut (z := z) u.st ?_ ?_; (subst u); rotate_left; clear_value u; intro _) | (refine Ev.cut (z := z) u.1 ?_ ?_; (subst u); rotate_left; clear_value u; intro _) | ((have _ := fun x => u x); subst u) | clear_value u)
    | dsimp only
    | (with_reducible apply Ev.fst; assumption)
    | split

theorem State.benchDictWrite_ev {z : State} (s : State) (b idx sub v : Nat) (lost : Bool) (hs : Ev z s) : Ev z (State.benchDictWrite s b idx sub v lost).st := by
  unfold State.benchDictWrite
  repeat' first
    | with_reducible first | assumption | apply Ev.ite | apply Ev.ite_st | apply Ev.done | apply Ev.fail | apply State.store_ev | apply Res.done_ev | apply Res.fail_ev | apply State.clearLost_ev | apply heartbeatEffect_ev
    | refine fun _ => ?_

theorem execDictDone_ev {z : State} (b : BenchNo) (lost : Bool) (s : State) (hs : Ev z s) : EvN z (execDictDone b lost s) := by
  unfold execDictDone
  repeat' first
    | with_reducible first | assumption | apply EvN.done | apply EvN.next | apply EvN.res | apply Res.done_ev | apply State.benchDictWrite_ev | apply State.setCw_ev | apply State.setMisc_ev | apply State.setStatus_ev
    | ((try lift_lets); intro u; first | (refine Ev.cut (z := z) u ?_ ?_; (subst u); rotate_left; clear_value u; intro _) | (refine Ev.cut (z := z) u.st ?_ ?_; (subst u); rotate_left; clear_value u; intro _) | (refine Ev.cut (z := z) u.1 ?_ ?_; (subst u); rotate_left; clear_value u; intro _) | ((have _ := fun x => u x); subst u) | clear_value u)
    | dsimp only
    | (with_reducible apply Ev.fst; assumption)
    | split

theorem execBenchFramePresent_ev {z : State} (b : BenchNo) (s : State) (hs : Ev z s) : EvN z (execBenchFramePresent b s) := by
  unfold execBenchFramePresent
  repeat' first
    | with_reducible first | assumption | apply Ev.ite | apply Ev.ite_st | apply EvN.ite | apply EvN.done | apply EvN.next | apply EvN.res | apply Res.done_ev | apply State.present_ev | apply State.setCw_ev | apply State.setSendQueue_ev
    | refine fun _ => ?_
    | ((try lift_lets); intro u; first | (refine Ev.cut (z := z) u ?_ ?_; (subst u); rotate_left; clear_value u; intro _) | (refine Ev.cut (z := z) u.st ?_ ?_; (subst u); rotate_left; clear_value u; intro _) | (refine Ev.cut (z := z) u.1 ?_ ?_; (subst u); rotate_left; clear_value u; intro _) | ((have _ := fun x => u x); subst u) | clear_value u)
    | dsimp only
    | (with_reducible apply Ev.fst; assumption)
    | split

end Sys2Proof.Machine
end

