-- ==== Sys2Proof/Laws/EvLinks.lean ====
section
/-!
SUPPORT. The commands keep the invariants (Laws/Evolve.lean): the operations of Machine/Links.lean.
-/
namespace Sys2Proof.Machine

theorem State.cutArrivals_ev {z : State} (s : State) (p : Nat) (hs : Ev z s) : Ev z (State.cutArrivals s p) := by
  unfold State.cutArrivals
  repeat' first
    | with_reducible first | assumption | apply Ev.ite | apply Ev.id | apply State.forAll_ev | apply Pass.stage_ev | apply State.countRx_ev | apply State.dropWhole_ev | apply State.endArrival_ev
    | refine fun _ => ?_
    | ((try lift_lets); intro u; first | (refine Ev.cut (z := z) u ?_ ?_; (subst u); rotate_left; clear_value u; intro _) | (refine Ev.cut (z := z) u.st ?_ ?_; (subst u); rotate_left; clear_value u; intro _) | (refine Ev.cut (z := z) u.1 ?_ ?_; (subst u); rotate_left; clear_value u; intro _) | ((have _ := fun x => u x); subst u) | clear_value u)
    | dsimp only
    | (with_reducible apply Ev.fst; assumption)
    | split

theorem State.setLink_ev {z : State} (s : State) (p v : Nat) (stomp : Bool) (hs : Ev z s) : Ev z (State.setLink s p v stomp) := by
  unfold State.setLink
  repeat' first
    | with_reducible first | assumption | apply Ev.ite | apply State.bump_ev | apply State.event_ev | apply State.portLeavesUp_ev | apply State.refreshResvs_ev | apply State.setReg_ev
    | refine fun _ => ?_
    | ((try lift_lets); intro u; first | (refine Ev.cut (z := z) u ?_ ?_; (subst u); rotate_left; clear_value u; intro _) | (refine Ev.cut (z := z) u.st ?_ ?_; (subst u); rotate_left; clear_value u; intro _) | (refine Ev.cut (z := z) u.1 ?_ ?_; (subst u); rotate_left; clear_value u; intro _) | ((have _ := fun x => u x); subst u) | clear_value u)

theorem State.refreshLink_ev {z : State} (s : State) (p : Nat) (stomp : Bool) (hs : Ev z s) : Ev z (State.refreshLink s p stomp) := by
  unfold State.refreshLink
  repeat' first
    | with_reducible first | assumption | apply Ev.ite | apply State.setLink_ev
    | refine fun _ => ?_

theorem execLinkUp_ev {z : State} (p : Fin 514) (s : State) (hs : Ev z s) : EvN z (execLinkUp p s) := by
  unfold execLinkUp
  repeat' first
    | with_reducible first | assumption | apply Ev.ite | apply Ev.ite_st | apply EvN.ite | apply EvN.done | apply EvN.next | apply EvN.res | apply Res.done_ev | apply State.setLink_ev
    | refine fun _ => ?_

theorem State.faultSignal_ev {z : State} (s : State) (p i : Nat) (hs : Ev z s) : Ev z (State.faultSignal s p i) := by
  unfold State.faultSignal
  repeat' first
    | with_reducible first | assumption | apply Ev.ite | apply State.event_ev | apply State.refreshLink_ev | apply State.setTab_ev
    | refine fun _ => ?_
    | ((try lift_lets); intro u; first | (refine Ev.cut (z := z) u ?_ ?_; (subst u); rotate_left; clear_value u; intro _) | (refine Ev.cut (z := z) u.st ?_ ?_; (subst u); rotate_left; clear_value u; intro _) | (refine Ev.cut (z := z) u.1 ?_ ?_; (subst u); rotate_left; clear_value u; intro _) | ((have _ := fun x => u x); subst u) | clear_value u)

theorem execLocalFault_ev {z : State} (p : Fin 514) (s : State) (hs : Ev z s) : EvN z (execLocalFault p s) := by
  unfold execLocalFault
  repeat' first
    | with_reducible first | assumption | apply EvN.done | apply Res.done_ev | apply State.faultSignal_ev

theorem execRemoteFault_ev {z : State} (p : Fin 514) (s : State) (hs : Ev z s) : EvN z (execRemoteFault p s) := by
  unfold execRemoteFault
  repeat' first
    | with_reducible first | assumption | apply EvN.done | apply Res.done_ev | apply State.faultSignal_ev

theorem execLinkFaultCleared_ev {z : State} (p : Fin 514) (s : State) (hs : Ev z s) : EvN z (execLinkFaultCleared p s) := by
  unfold execLinkFaultCleared
  repeat' first
    | with_reducible first | assumption | apply EvN.done | apply Res.done_ev | apply State.refreshLink_ev | apply State.setTab_ev

theorem State.dcbError_ev {z : State} (s : State) (p : Nat) (hs : Ev z s) : Ev z (State.dcbError s p) := by
  unfold State.dcbError
  repeat' first
    | with_reducible first | assumption | apply State.bump_ev

theorem State.dzStart_ev {z : State} (s : State) (p : Nat) (hs : Ev z s) : Ev z (State.dzStart s p) := by
  unfold State.dzStart
  repeat' first
    | with_reducible first | assumption | apply State.forAll_ev | apply State.setReg_ev | apply State.setTab_ev
    | refine fun _ => ?_
    | ((try lift_lets); intro u; first | (refine Ev.cut (z := z) u ?_ ?_; (subst u); rotate_left; clear_value u; intro _) | (refine Ev.cut (z := z) u.st ?_ ?_; (subst u); rotate_left; clear_value u; intro _) | (refine Ev.cut (z := z) u.1 ?_ ?_; (subst u); rotate_left; clear_value u; intro _) | ((have _ := fun x => u x); subst u) | clear_value u)
    | dsimp only

theorem State.dzReset_ev {z : State} (s : State) (p : Nat) (stomp : Bool) (hs : Ev z s) : Ev z (State.dzReset s p stomp) := by
  unfold State.dzReset
  repeat' first
    | with_reducible first | assumption | apply State.when_ev | apply State.dzStart_ev | apply State.refreshLink_ev | apply State.refreshPartner_ev | apply State.setReg_ev
    | refine fun _ => ?_
    | ((try lift_lets); intro u; first | (refine Ev.cut (z := z) u ?_ ?_; (subst u); rotate_left; clear_value u; intro _) | (refine Ev.cut (z := z) u.st ?_ ?_; (subst u); rotate_left; clear_value u; intro _) | (refine Ev.cut (z := z) u.1 ?_ ?_; (subst u); rotate_left; clear_value u; intro _) | ((have _ := fun x => u x); subst u) | clear_value u)
    | dsimp only

theorem State.lanesChanged_ev {z : State} (s : State) (p : Nat) (stomp : Bool) (hs : Ev z s) : Ev z (State.lanesChanged s p stomp) := by
  unfold State.lanesChanged
  repeat' first
    | with_reducible first | assumption | apply Ev.ite | apply State.when_ev | apply State.dzReset_ev | apply State.dzStart_ev | apply State.refreshLink_ev
    | refine fun _ => ?_
    | ((try lift_lets); intro u; first | (refine Ev.cut (z := z) u ?_ ?_; (subst u); rotate_left; clear_value u; intro _) | (refine Ev.cut (z := z) u.st ?_ ?_; (subst u); rotate_left; clear_value u; intro _) | (refine Ev.cut (z := z) u.1 ?_ ?_; (subst u); rotate_left; clear_value u; intro _) | ((have _ := fun x => u x); subst u) | clear_value u)
    | dsimp only

theorem execDcbInitSend_ev {z : State} (p : FabricNo) (s : State) (hs : Ev z s) : EvN z (execDcbInitSend p s) := by
  unfold execDcbInitSend
  repeat' first
    | with_reducible first | assumption | apply Ev.ite | apply Ev.ite_st | apply EvN.ite | apply EvN.done | apply EvN.next | apply EvN.res | apply Res.done_ev | apply State.emit_ev | apply State.setTab_ev
    | refine fun _ => ?_
    | ((try lift_lets); intro u; first | (refine Ev.cut (z := z) u ?_ ?_; (subst u); rotate_left; clear_value u; intro _) | (refine Ev.cut (z := z) u.st ?_ ?_; (subst u); rotate_left; clear_value u; intro _) | (refine Ev.cut (z := z) u.1 ?_ ?_; (subst u); rotate_left; clear_value u; intro _) | ((have _ := fun x => u x); subst u) | clear_value u)
    | dsimp only

theorem State.takeInit_ev {z : State} (s : State) (p : Nat) (b : Bytes) (hs : Ev z s) : Ev z (State.takeInit s p b) := by
  unfold State.takeInit
  repeat' first
    | with_reducible first | assumption | apply Ev.ite | apply Pass.drop_ev | apply State.drop_ev | apply State.refreshLink_ev | apply State.refreshPartner_ev | apply State.setReg_ev | apply State.setTab_ev
    | refine fun _ => ?_
    | ((try lift_lets); intro u; first | (refine Ev.cut (z := z) u ?_ ?_; (subst u); rotate_left; clear_value u; intro _) | (refine Ev.cut (z := z) u.st ?_ ?_; (subst u); rotate_left; clear_value u; intro _) | (refine Ev.cut (z := z) u.1 ?_ ?_; (subst u); rotate_left; clear_value u; intro _) | ((have _ := fun x => u x); subst u) | clear_value u)
    | dsimp only

theorem execDcbInitReceived_ev {z : State} (p : FabricNo) (octets : Bytes) (s : State) (hs : Ev z s) : EvN z (execDcbInitReceived p octets s) := by
  unfold execDcbInitReceived
  repeat' first
    | with_reducible first | assumption | apply Ev.ite | apply Ev.ite_st | apply EvN.ite | apply EvN.done | apply EvN.next | apply EvN.res | apply State.when_ev | apply Res.done_ev | apply State.dcbError_ev | apply State.dzReset_ev | apply State.takeInit_ev
    | refine fun _ => ?_
    | ((try lift_lets); intro u; first | (refine Ev.cut (z := z) u ?_ ?_; (subst u); rotate_left; clear_value u; intro _) | (refine Ev.cut (z := z) u.st ?_ ?_; (subst u); rotate_left; clear_value u; intro _) | (refine Ev.cut (z := z) u.1 ?_ ?_; (subst u); rotate_left; clear_value u; intro _) | ((have _ := fun x => u x); subst u) | clear_value u)
    | dsimp only

theorem execDcbCreditSend_ev {z : State} (p : FabricNo) (s : State) (hs : Ev z s) : EvN z (execDcbCreditSend p s) := by
  unfold execDcbCreditSend
  repeat' first
    | with_reducible first | assumption | apply Ev.ite | apply Ev.ite_st | apply EvN.ite | apply EvN.done | apply EvN.next | apply EvN.res | apply Res.done_ev | apply State.emit_ev | apply State.setTab_ev
    | refine fun _ => ?_
    | ((try lift_lets); intro u; first | (refine Ev.cut (z := z) u ?_ ?_; (subst u); rotate_left; clear_value u; intro _) | (refine Ev.cut (z := z) u.st ?_ ?_; (subst u); rotate_left; clear_value u; intro _) | (refine Ev.cut (z := z) u.1 ?_ ?_; (subst u); rotate_left; clear_value u; intro _) | ((have _ := fun x => u x); subst u) | clear_value u)
    | dsimp only

theorem State.reclaimLost_ev {z : State} (s : State) (p q : Nat) (hs : Ev z s) : Ev z (State.reclaimLost s p q) := by
  unfold State.reclaimLost
  repeat' first
    | with_reducible first | assumption | apply Ev.ite | apply State.bump_ev | apply State.event_ev | apply State.setTab_ev
    | refine fun _ => ?_
    | ((try lift_lets); intro u; first | (refine Ev.cut (z := z) u ?_ ?_; (subst u); rotate_left; clear_value u; intro _) | (refine Ev.cut (z := z) u.st ?_ ?_; (subst u); rotate_left; clear_value u; intro _) | (refine Ev.cut (z := z) u.1 ?_ ?_; (subst u); rotate_left; clear_value u; intro _) | ((have _ := fun x => u x); subst u) | clear_value u)

theorem State.creditReport_ev {z : State} (s : State) (p q received returned : Nat) (first : Bool) (hs : Ev z s) : Ev z (State.creditReport s p q received returned first) := by
  unfold State.creditReport
  repeat' first
    | with_reducible first | assumption | apply Ev.ite | apply State.when_ev | apply State.discrepancy_ev | apply State.reclaimLost_ev | apply State.setTab_ev
    | refine fun _ => ?_
    | ((try lift_lets); intro u; first | (refine Ev.cut (z := z) u ?_ ?_; (subst u); rotate_left; clear_value u; intro _) | (refine Ev.cut (z := z) u.st ?_ ?_; (subst u); rotate_left; clear_value u; intro _) | (refine Ev.cut (z := z) u.1 ?_ ?_; (subst u); rotate_left; clear_value u; intro _) | ((have _ := fun x => u x); subst u) | clear_value u)
    | dsimp only

theorem State.takeCredit_ev {z : State} (s : State) (p g : Nat) (b : Bytes) (hs : Ev z s) : Ev z (State.takeCredit s p g b) := by
  unfold State.takeCredit
  repeat' first
    | with_reducible first | assumption | apply Ev.ite | apply State.forAll_ev | apply Pass.drop_ev | apply State.creditReport_ev | apply State.drop_ev | apply State.refreshResvs_ev | apply State.setTab_ev
    | refine fun _ => ?_
    | ((try lift_lets); intro u; first | (refine Ev.cut (z := z) u ?_ ?_; (subst u); rotate_left; clear_value u; intro _) | (refine Ev.cut (z := z) u.st ?_ ?_; (subst u); rotate_left; clear_value u; intro _) | (refine Ev.cut (z := z) u.1 ?_ ?_; (subst u); rotate_left; clear_value u; intro _) | ((have _ := fun x => u x); subst u) | clear_value u)
    | dsimp only

theorem execDcbCreditReceived_ev {z : State} (p : FabricNo) (octets : Bytes) (s : State) (hs : Ev z s) : EvN z (execDcbCreditReceived p octets s) := by
  unfold execDcbCreditReceived
  repeat' first
    | with_reducible first | assumption | apply Ev.ite | apply Ev.ite_st | apply EvN.ite | apply EvN.done | apply EvN.next | apply EvN.res | apply Res.done_ev | apply State.dcbError_ev | apply State.takeCredit_ev
    | refine fun _ => ?_

theorem execCreditTimeout_ev {z : State} (p : FabricNo) (group : Fin 4) (s : State) (hs : Ev z s) : EvN z (execCreditTimeout p group s) := by
  unfold execCreditTimeout
  repeat' first
    | with_reducible first | assumption | apply Ev.ite | apply Ev.ite_st | apply EvN.ite | apply EvN.done | apply EvN.next | apply EvN.res | apply Res.done_ev | apply State.event_ev | apply State.refreshResvs_ev | apply State.setTab_ev
    | refine fun _ => ?_

theorem linkResetEffect_ev {z : State} (p v : Nat) (s : State) (hs : Ev z s) : Ev z (linkResetEffect p v s).st := by
  unfold linkResetEffect
  repeat' first
    | with_reducible first | assumption | apply Ev.ite | apply Ev.ite_st | apply Ev.done | apply Ev.fail | apply State.when_ev | apply Res.done_ev | apply Res.fail_ev | apply State.dzReset_ev
    | refine fun _ => ?_
    | dsimp only

theorem execLinkReset_ev {z : State} (w : SessionNo) (p : FabricNo) (s : State) (hs : Ev z s) : EvN z (execLinkReset w p s) := by
  unfold execLinkReset
  repeat' first
    | with_reducible first | assumption | apply EvN.next | apply EvN.res | apply State.hostWrite_ev | apply linkResetEffect_ev

theorem execPause_ev {z : State} (p : Fin 514) (quanta : Nat) (s : State) (hs : Ev z s) : EvN z (execPause p quanta s) := by
  unfold execPause
  repeat' first
    | with_reducible first | assumption | apply Ev.ite | apply Ev.ite_st | apply EvN.ite | apply EvN.done | apply EvN.next | apply EvN.res | apply State.when_ev | apply Res.done_ev | apply State.count_ev | apply State.macReceived_ev | apply State.setTab_ev
    | refine fun _ => ?_
    | ((try lift_lets); intro u; first | (refine Ev.cut (z := z) u ?_ ?_; (subst u); rotate_left; clear_value u; intro _) | (refine Ev.cut (z := z) u.st ?_ ?_; (subst u); rotate_left; clear_value u; intro _) | (refine Ev.cut (z := z) u.1 ?_ ?_; (subst u); rotate_left; clear_value u; intro _) | ((have _ := fun x => u x); subst u) | clear_value u)
    | dsimp only

theorem execPauseTimerExpiry_ev {z : State} (h : HostNo) (s : State) (hs : Ev z s) : EvN z (execPauseTimerExpiry h s) := by
  unfold execPauseTimerExpiry
  repeat' first
    | with_reducible first | assumption | apply EvN.done | apply Res.done_ev | apply State.setTab_ev

theorem execPfc_ev {z : State} (p : Fin 514) (enable : Nat) (times : List Nat) (s : State) (hs : Ev z s) : EvN z (execPfc p enable times s) := by
  unfold execPfc
  repeat' first
    | with_reducible first | assumption | apply Ev.ite | apply Ev.ite_st | apply EvN.ite | apply EvN.done | apply EvN.next | apply EvN.res | apply State.forAll_ev | apply Res.done_ev | apply State.count_ev | apply State.macReceived_ev | apply State.setTab_ev
    | refine fun _ => ?_
    | ((try lift_lets); intro u; first | (refine Ev.cut (z := z) u ?_ ?_; (subst u); rotate_left; clear_value u; intro _) | (refine Ev.cut (z := z) u.st ?_ ?_; (subst u); rotate_left; clear_value u; intro _) | (refine Ev.cut (z := z) u.1 ?_ ?_; (subst u); rotate_left; clear_value u; intro _) | ((have _ := fun x => u x); subst u) | clear_value u)
    | dsimp only

theorem execPfcPauseExpiry_ev {z : State} (p : FabricNo) (cls : Fin 8) (s : State) (hs : Ev z s) : EvN z (execPfcPauseExpiry p cls s) := by
  unfold execPfcPauseExpiry
  repeat' first
    | with_reducible first | assumption | apply EvN.done | apply Res.done_ev | apply State.setTab_ev

theorem execPauseRepeat_ev {z : State} (h : HostNo) (s : State) (hs : Ev z s) : EvN z (execPauseRepeat h s) := by
  unfold execPauseRepeat
  repeat' first
    | with_reducible first | assumption | apply Ev.ite | apply Ev.ite_st | apply EvN.ite | apply EvN.done | apply EvN.next | apply EvN.res | apply Res.done_ev | apply State.sendPause_ev
    | refine fun _ => ?_

theorem execBypassFrameStart_ev {z : State} (h : HostNo) (s : State) (hs : Ev z s) : EvN z (execBypassFrameStart h s) := by
  have hsent : ∀ (u : State) (b : Bytes) (w : Zdp) (p m n : Nat), Ev z u →
      Ev z (((({ u with zdp := w } : State).emit (.bypass p b)).macSent p m).occupyWire h n) :=
    fun u b w p m n hu => State.occupyWire_ev _ _ _ (State.macSent_ev _ _ _ (State.emit_ev (Ev.upd hu)))
  unfold execBypassFrameStart
  dsimp only
  split
  · exact EvN.next hs
  · split
    · refine EvN.done ?_
      split
      · exact State.replySent_ev _ _ (State.freeTag_ev _ _ (hsent _ _ _ _ _ _ (State.drew_ev hs)))
      · exact hsent _ _ _ _ _ _ (State.drew_ev hs)
    · exact EvN.next hs

end Sys2Proof.Machine
end

