-- ==== Sys2Proof/Laws/EvResvCommit.lean ====
section
/-!
SUPPORT. The commands keep the invariants (Laws/Evolve.lean): the operations of Machine/ResvCommit.lean.
-/
namespace Sys2Proof.Machine

theorem State.admitPending_ev {z : State} (s : State) (elems : SMap Nat) (hs : Ev z s) : Ev z (State.admitPending s elems) := by
  unfold State.admitPending
  repeat' first
    | with_reducible first | assumption | apply State.forAll_ev | apply State.setTab_ev
    | refine fun _ => ?_
    | dsimp only

theorem State.commitResv_ev {z : State} (s : State) (g : Staging) (hs : Ev z s) : Ev z (State.commitResv s g).st := by
  unfold State.commitResv
  repeat' first
    | with_reducible first | assumption | apply Ev.ite | apply Ev.ite_st | apply Ev.fail | apply Res.fail_ev | apply State.accept_ev | apply State.admitPending_ev | apply State.bump_ev | apply State.evaluated_ev | apply State.putStaging_ev | apply State.rejected_ev
    | refine fun _ => ?_
    | ((try lift_lets); intro u; first | (refine Ev.cut (z := z) u ?_ ?_; (subst u); rotate_left; clear_value u; intro _) | (refine Ev.cut (z := z) u.st ?_ ?_; (subst u); rotate_left; clear_value u; intro _) | (refine Ev.cut (z := z) u.1 ?_ ?_; (subst u); rotate_left; clear_value u; intro _) | ((have _ := fun x => u x); subst u) | clear_value u)
    | dsimp only
    | (with_reducible apply Ev.fst; assumption)
    | split

theorem State.applyResv_ev {z : State} (s : State) (e : Nat) (x : Nat × Nat) (hs : Ev z s) : Ev z (State.applyResv s e x) := by
  unfold State.applyResv
  repeat' first
    | with_reducible first | assumption | apply Ev.ite | apply State.when_ev | apply State.keepOld_ev | apply State.setCauses_ev | apply State.setElem_ev | apply State.setTab_ev | apply State.withdraw_ev
    | refine fun _ => ?_
    | ((try lift_lets); intro u; first | (refine Ev.cut (z := z) u ?_ ?_; (subst u); rotate_left; clear_value u; intro _) | (refine Ev.cut (z := z) u.st ?_ ?_; (subst u); rotate_left; clear_value u; intro _) | (refine Ev.cut (z := z) u.1 ?_ ?_; (subst u); rotate_left; clear_value u; intro _) | ((have _ := fun x => u x); subst u) | clear_value u)
    | dsimp only
    | (with_reducible apply Ev.fst; assumption)
    | split

theorem State.resvCommitNow_ev {z : State} (s : State) (g : Staging) (hs : Ev z s) : Ev z (State.resvCommitNow s g) := by
  unfold State.resvCommitNow
  repeat' first
    | with_reducible first | assumption | apply State.forAll_ev | apply State.applyResv_ev | apply State.bump_ev | apply State.commitApplied_ev | apply State.drained_ev | apply State.dropStaging_ev | apply State.refreshBounds_ev | apply State.refreshResvTotals_ev
    | refine fun _ => ?_
    | ((try lift_lets); intro u; first | (refine Ev.cut (z := z) u ?_ ?_; (subst u); rotate_left; clear_value u; intro _) | (refine Ev.cut (z := z) u.st ?_ ?_; (subst u); rotate_left; clear_value u; intro _) | (refine Ev.cut (z := z) u.1 ?_ ?_; (subst u); rotate_left; clear_value u; intro _) | ((have _ := fun x => u x); subst u) | clear_value u)
    | dsimp only

theorem State.resvCommitDue_ev {z : State} (s : State) (hs : Ev z s) : Ev z (State.resvCommitDue s) := by
  unfold State.resvCommitDue
  repeat' first
    | with_reducible first | assumption | apply Ev.ite | apply State.resvCommitNow_ev
    | refine fun _ => ?_
    | dsimp only
    | (with_reducible apply Ev.fst; assumption)
    | split

theorem execResvCommitApply_ev {z : State} (s : State) (hs : Ev z s) : EvN z (execResvCommitApply s) := by
  unfold execResvCommitApply
  repeat' first
    | with_reducible first | assumption | apply Ev.ite | apply Ev.ite_st | apply EvN.ite | apply EvN.done | apply EvN.next | apply EvN.res | apply Res.done_ev | apply State.resvCommitDue_ev
    | refine fun _ => ?_

theorem execResvReturnActive_ev {z : State} (n : ResvNo) (s : State) (hs : Ev z s) : EvN z (execResvReturnActive n s) := by
  unfold execResvReturnActive
  repeat' first
    | with_reducible first | assumption | apply Ev.ite | apply Ev.ite_st | apply EvN.ite | apply EvN.done | apply EvN.next | apply EvN.res | apply Res.done_ev | apply State.setTab_ev
    | refine fun _ => ?_
    | dsimp only
    | (with_reducible apply Ev.fst; assumption)
    | split

theorem boundQueryEffect_ev {z : State} (n : Nat) (s : State) (hs : Ev z s) : Ev z (boundQueryEffect n s).st := by
  unfold boundQueryEffect
  repeat' first
    | with_reducible first | assumption | apply Ev.done | apply Res.done_ev | apply State.setReg_ev
    | refine fun _ => ?_
    | ((try lift_lets); intro u; first | (refine Ev.cut (z := z) u ?_ ?_; (subst u); rotate_left; clear_value u; intro _) | (refine Ev.cut (z := z) u.st ?_ ?_; (subst u); rotate_left; clear_value u; intro _) | (refine Ev.cut (z := z) u.1 ?_ ?_; (subst u); rotate_left; clear_value u; intro _) | ((have _ := fun x => u x); subst u) | clear_value u)
    | dsimp only

theorem execBoundQuery_ev {z : State} (w : SessionNo) (n : ResvNo) (s : State) (hs : Ev z s) : EvN z (execBoundQuery w n s) := by
  unfold execBoundQuery
  repeat' first
    | with_reducible first | assumption | apply EvN.next | apply EvN.res | apply State.hostWrite_ev | apply boundQueryEffect_ev

end Sys2Proof.Machine
end

