-- ==== Sys2Proof/Laws/EvLanes.lean ====
section
/-!
SUPPORT. The commands keep the invariants (Laws/Evolve.lean): the operations of Machine/Lanes.lean.
-/
namespace Sys2Proof.Machine

theorem State.setLane_ev {z : State} (s : State) (n sub v : Nat) (hs : Ev z s) : Ev z (State.setLane s n sub v) := by
  unfold State.setLane
  repeat' first
    | with_reducible first | assumption | apply State.setReg_ev

theorem State.laneEvent_ev {z : State} (s : State) (n i : Nat) (hs : Ev z s) : Ev z (State.laneEvent s n i) := by
  unfold State.laneEvent
  repeat' first
    | with_reducible first | assumption | apply State.event_ev

theorem State.stopEye_ev {z : State} (s : State) (n : Nat) (hs : Ev z s) : Ev z (State.stopEye s n) := by
  unfold State.stopEye
  repeat' first
    | with_reducible first | assumption | apply Ev.ite | apply State.drew_ev | apply State.setLane_ev
    | refine fun _ => ?_
    | ((try lift_lets); intro u; first | (refine Ev.cut (z := z) u ?_ ?_; (subst u); rotate_left; clear_value u; intro _) | (refine Ev.cut (z := z) u.st ?_ ?_; (subst u); rotate_left; clear_value u; intro _) | (refine Ev.cut (z := z) u.1 ?_ ?_; (subst u); rotate_left; clear_value u; intro _) | ((have _ := fun x => u x); subst u) | clear_value u)
    | dsimp only

theorem State.endCheck_ev {z : State} (s : State) (n : Nat) (hs : Ev z s) : Ev z (State.endCheck s n) := by
  unfold State.endCheck
  repeat' first
    | with_reducible first | assumption | apply Ev.ite | apply State.bump_ev | apply State.drew_ev | apply State.setLane_ev
    | refine fun _ => ?_
    | ((try lift_lets); intro u; first | (refine Ev.cut (z := z) u ?_ ?_; (subst u); rotate_left; clear_value u; intro _) | (refine Ev.cut (z := z) u.st ?_ ?_; (subst u); rotate_left; clear_value u; intro _) | (refine Ev.cut (z := z) u.1 ?_ ?_; (subst u); rotate_left; clear_value u; intro _) | ((have _ := fun x => u x); subst u) | clear_value u)

theorem State.portFollows_ev {z : State} (s : State) (n : Nat) (left stomp : Bool) (hs : Ev z s) : Ev z (State.portFollows s n left stomp) := by
  unfold State.portFollows
  repeat' first
    | with_reducible first | assumption | apply State.when_ev | apply State.cutArrivals_ev | apply State.lanesChanged_ev
    | refine fun _ => ?_
    | dsimp only
    | (with_reducible apply Ev.fst; assumption)
    | split

theorem State.laneTo_ev {z : State} (s : State) (n st : Nat) (stomp : Bool) (hs : Ev z s) : Ev z (State.laneTo s n st stomp) := by
  unfold State.laneTo
  repeat' first
    | with_reducible first | assumption | apply Ev.ite | apply State.when_ev | apply State.endCheck_ev | apply State.laneEvent_ev | apply State.portFollows_ev | apply State.setLane_ev | apply State.setTab_ev | apply State.stopEye_ev
    | refine fun _ => ?_
    | ((try lift_lets); intro u; first | (refine Ev.cut (z := z) u ?_ ?_; (subst u); rotate_left; clear_value u; intro _) | (refine Ev.cut (z := z) u.st ?_ ?_; (subst u); rotate_left; clear_value u; intro _) | (refine Ev.cut (z := z) u.1 ?_ ?_; (subst u); rotate_left; clear_value u; intro _) | ((have _ := fun x => u x); subst u) | clear_value u)
    | dsimp only

theorem State.laneRestart_ev {z : State} (s : State) (n : Nat) (stomp : Bool) (hs : Ev z s) : Ev z (State.laneRestart s n stomp) := by
  unfold State.laneRestart
  repeat' first
    | with_reducible first | assumption | apply Ev.ite | apply State.laneTo_ev
    | refine fun _ => ?_

theorem State.requestTaps_ev {z : State} (s : State) (n : Nat) (taps : List Int) (hs : Ev z s) : Ev z (State.requestTaps s n taps) := by
  unfold State.requestTaps
  repeat' first
    | with_reducible first | assumption | apply State.forAll_ev | apply State.setTab_ev
    | refine fun _ => ?_
    | dsimp only

theorem State.writtenTaps_ev {z : State} (s : State) (n : Nat) (hs : Ev z s) : Ev z (State.writtenTaps s n) := by
  unfold State.writtenTaps
  repeat' first
    | with_reducible first | assumption | apply State.forAll_ev | apply State.setTab_ev
    | refine fun _ => ?_
    | dsimp only

theorem execSignalDetected_ev {z : State} (n : LaneNo) (s : State) (hs : Ev z s) : EvN z (execSignalDetected n s) := by
  unfold execSignalDetected
  repeat' first
    | with_reducible first | assumption | apply Ev.ite | apply Ev.ite_st | apply EvN.ite | apply EvN.done | apply EvN.next | apply EvN.res | apply Res.done_ev | apply State.laneTo_ev | apply State.setLane_ev
    | refine fun _ => ?_
    | ((try lift_lets); intro u; first | (refine Ev.cut (z := z) u ?_ ?_; (subst u); rotate_left; clear_value u; intro _) | (refine Ev.cut (z := z) u.st ?_ ?_; (subst u); rotate_left; clear_value u; intro _) | (refine Ev.cut (z := z) u.1 ?_ ?_; (subst u); rotate_left; clear_value u; intro _) | ((have _ := fun x => u x); subst u) | clear_value u)

theorem execCdrLocked_ev {z : State} (n : LaneNo) (s : State) (hs : Ev z s) : EvN z (execCdrLocked n s) := by
  unfold execCdrLocked
  repeat' first
    | with_reducible first | assumption | apply Ev.ite | apply Ev.ite_st | apply EvN.ite | apply EvN.done | apply EvN.next | apply EvN.res | apply Res.done_ev | apply State.laneTo_ev | apply State.setTab_ev | apply State.writtenTaps_ev
    | refine fun _ => ?_

theorem execTrainingComplete_ev {z : State} (trained : TrainedLane) (s : State) (hs : Ev z s) : EvN z (execTrainingComplete trained s) := by
  unfold execTrainingComplete
  repeat' first
    | with_reducible first | assumption | apply Ev.ite | apply Ev.ite_st | apply EvN.ite | apply EvN.done | apply EvN.next | apply EvN.res | apply Res.done_ev | apply State.laneTo_ev | apply State.requestTaps_ev | apply State.setTab_ev
    | refine fun _ => ?_

theorem State.adapted_ev {z : State} (s : State) (n ctle ffe dfe ppm : Nat) (hs : Ev z s) : Ev z (State.adapted s n ctle ffe dfe ppm) := by
  unfold State.adapted
  repeat' first
    | with_reducible first | assumption | apply Ev.ite | apply State.setLane_ev
    | refine fun _ => ?_
    | ((try lift_lets); intro u; first | (refine Ev.cut (z := z) u ?_ ?_; (subst u); rotate_left; clear_value u; intro _) | (refine Ev.cut (z := z) u.st ?_ ?_; (subst u); rotate_left; clear_value u; intro _) | (refine Ev.cut (z := z) u.1 ?_ ?_; (subst u); rotate_left; clear_value u; intro _) | ((have _ := fun x => u x); subst u) | clear_value u)

theorem execAdaptationConverged_ev {z : State} (n : LaneNo) (ctle ffe dfe ppm : Nat) (s : State) (hs : Ev z s) : EvN z (execAdaptationConverged n ctle ffe dfe ppm s) := by
  unfold execAdaptationConverged
  repeat' first
    | with_reducible first | assumption | apply Ev.ite | apply Ev.ite_st | apply EvN.ite | apply EvN.done | apply EvN.next | apply EvN.res | apply Res.done_ev | apply State.adapted_ev | apply State.laneTo_ev
    | refine fun _ => ?_
    | ((try lift_lets); intro u; first | (refine Ev.cut (z := z) u ?_ ?_; (subst u); rotate_left; clear_value u; intro _) | (refine Ev.cut (z := z) u.st ?_ ?_; (subst u); rotate_left; clear_value u; intro _) | (refine Ev.cut (z := z) u.1 ?_ ?_; (subst u); rotate_left; clear_value u; intro _) | ((have _ := fun x => u x); subst u) | clear_value u)

theorem execDataEntered_ev {z : State} (n : LaneNo) (s : State) (hs : Ev z s) : EvN z (execDataEntered n s) := by
  unfold execDataEntered
  repeat' first
    | with_reducible first | assumption | apply Ev.ite | apply Ev.ite_st | apply EvN.ite | apply EvN.done | apply EvN.next | apply EvN.res | apply Res.done_ev | apply State.laneEvent_ev | apply State.laneTo_ev
    | refine fun _ => ?_

theorem execTrainingFailed_ev {z : State} (n : LaneNo) (s : State) (hs : Ev z s) : EvN z (execTrainingFailed n s) := by
  unfold execTrainingFailed
  repeat' first
    | with_reducible first | assumption | apply Ev.ite | apply Ev.ite_st | apply EvN.ite | apply EvN.done | apply EvN.next | apply EvN.res | apply Res.done_ev | apply State.laneEvent_ev | apply State.laneTo_ev
    | refine fun _ => ?_

theorem execBringupSignalLost_ev {z : State} (n : LaneNo) (s : State) (hs : Ev z s) : EvN z (execBringupSignalLost n s) := by
  unfold execBringupSignalLost
  repeat' first
    | with_reducible first | assumption | apply Ev.ite | apply Ev.ite_st | apply EvN.ite | apply EvN.done | apply EvN.next | apply EvN.res | apply Res.done_ev | apply State.laneTo_ev | apply State.setLane_ev
    | refine fun _ => ?_

theorem State.leaveData_ev {z : State} (s : State) (n cause : Nat) (hs : Ev z s) : Ev z (State.leaveData s n cause) := by
  unfold State.leaveData
  repeat' first
    | with_reducible first | assumption | apply Ev.ite | apply State.when_ev | apply State.bump_ev | apply State.laneEvent_ev | apply State.laneTo_ev | apply State.setLane_ev | apply State.setTab_ev
    | refine fun _ => ?_
    | ((try lift_lets); intro u; first | (refine Ev.cut (z := z) u ?_ ?_; (subst u); rotate_left; clear_value u; intro _) | (refine Ev.cut (z := z) u.st ?_ ?_; (subst u); rotate_left; clear_value u; intro _) | (refine Ev.cut (z := z) u.1 ?_ ?_; (subst u); rotate_left; clear_value u; intro _) | ((have _ := fun x => u x); subst u) | clear_value u)
    | dsimp only

theorem execSignalLost_ev {z : State} (n : LaneNo) (s : State) (hs : Ev z s) : EvN z (execSignalLost n s) := by
  unfold execSignalLost
  repeat' first
    | with_reducible first | assumption | apply Ev.ite | apply Ev.ite_st | apply EvN.ite | apply EvN.done | apply EvN.next | apply EvN.res | apply Res.done_ev | apply State.leaveData_ev | apply State.setLane_ev
    | refine fun _ => ?_

theorem execCdrUnlock_ev {z : State} (n : LaneNo) (s : State) (hs : Ev z s) : EvN z (execCdrUnlock n s) := by
  unfold execCdrUnlock
  repeat' first
    | with_reducible first | assumption | apply EvN.done | apply Res.done_ev | apply State.leaveData_ev

theorem execLockLost_ev {z : State} (n : LaneNo) (s : State) (hs : Ev z s) : EvN z (execLockLost n s) := by
  unfold execLockLost
  repeat' first
    | with_reducible first | assumption | apply EvN.done | apply Res.done_ev | apply State.leaveData_ev

theorem execUcwRetrain_ev {z : State} (n : LaneNo) (s : State) (hs : Ev z s) : EvN z (execUcwRetrain n s) := by
  unfold execUcwRetrain
  repeat' first
    | with_reducible first | assumption | apply Ev.ite | apply Ev.ite_st | apply EvN.ite | apply EvN.done | apply EvN.next | apply EvN.res | apply Res.done_ev | apply State.leaveData_ev
    | refine fun _ => ?_

theorem retrainEffect_ev {z : State} (n v : Nat) (s : State) (hs : Ev z s) : Ev z (retrainEffect n v s).st := by
  unfold retrainEffect
  repeat' first
    | with_reducible first | assumption | apply Ev.ite | apply Ev.ite_st | apply Ev.done | apply Res.done_ev | apply State.leaveData_ev
    | refine fun _ => ?_

theorem execRetrain_ev {z : State} (w : SessionNo) (n : LaneNo) (s : State) (hs : Ev z s) : EvN z (execRetrain w n s) := by
  unfold execRetrain
  repeat' first
    | with_reducible first | assumption | apply EvN.next | apply EvN.res | apply State.hostWrite_ev | apply retrainEffect_ev

theorem execFarEndTraining_ev {z : State} (n : LaneNo) (s : State) (hs : Ev z s) : EvN z (execFarEndTraining n s) := by
  unfold execFarEndTraining
  repeat' first
    | with_reducible first | assumption | apply EvN.done | apply Res.done_ev | apply State.leaveData_ev

theorem execFastRetrainTimeout_ev {z : State} (n : LaneNo) (s : State) (hs : Ev z s) : EvN z (execFastRetrainTimeout n s) := by
  unfold execFastRetrainTimeout
  repeat' first
    | with_reducible first | assumption | apply Ev.ite | apply Ev.ite_st | apply EvN.ite | apply EvN.done | apply EvN.next | apply EvN.res | apply Res.done_ev | apply State.laneTo_ev
    | refine fun _ => ?_

theorem execTxPllUnlock_ev {z : State} (n : LaneNo) (s : State) (hs : Ev z s) : EvN z (execTxPllUnlock n s) := by
  unfold execTxPllUnlock
  repeat' first
    | with_reducible first | assumption | apply Ev.ite | apply Ev.ite_st | apply EvN.ite | apply EvN.done | apply EvN.next | apply EvN.res | apply Res.done_ev | apply State.laneTo_ev
    | refine fun _ => ?_

theorem execSerAlarm_ev {z : State} (n : LaneNo) (errors : LaneErrors) (s : State) (hs : Ev z s) : EvN z (execSerAlarm n errors s) := by
  unfold execSerAlarm
  repeat' first
    | with_reducible first | assumption | apply Ev.ite | apply Ev.ite_st | apply EvN.ite | apply EvN.done | apply EvN.next | apply EvN.res | apply State.when_ev | apply State.forAll_ev | apply Pass.drop_ev | apply Res.done_ev | apply State.count_ev | apply State.drop_ev | apply State.laneEvent_ev
    | refine fun _ => ?_
    | ((try lift_lets); intro u; first | (refine Ev.cut (z := z) u ?_ ?_; (subst u); rotate_left; clear_value u; intro _) | (refine Ev.cut (z := z) u.st ?_ ?_; (subst u); rotate_left; clear_value u; intro _) | (refine Ev.cut (z := z) u.1 ?_ ?_; (subst u); rotate_left; clear_value u; intro _) | ((have _ := fun x => u x); subst u) | clear_value u)
    | dsimp only

theorem execUncorrectedCw_ev {z : State} (n : LaneNo) (s : State) (hs : Ev z s) : EvN z (execUncorrectedCw n s) := by
  unfold execUncorrectedCw
  repeat' first
    | with_reducible first | assumption | apply Ev.ite | apply Ev.ite_st | apply EvN.ite | apply EvN.done | apply EvN.next | apply EvN.res | apply Res.done_ev | apply State.count_ev | apply State.cutArrivals_ev | apply State.laneEvent_ev | apply State.setTab_ev
    | refine fun _ => ?_
    | ((try lift_lets); intro u; first | (refine Ev.cut (z := z) u ?_ ?_; (subst u); rotate_left; clear_value u; intro _) | (refine Ev.cut (z := z) u.st ?_ ?_; (subst u); rotate_left; clear_value u; intro _) | (refine Ev.cut (z := z) u.1 ?_ ?_; (subst u); rotate_left; clear_value u; intro _) | ((have _ := fun x => u x); subst u) | clear_value u)
    | dsimp only
    | (with_reducible apply Ev.fst; assumption)
    | split

theorem State.setFill_ev {z : State} (s : State) (l : Nat) (tx : Bool) (fill : Nat) (hs : Ev z s) : Ev z (State.setFill s l tx fill) := by
  unfold State.setFill
  repeat' first
    | with_reducible first | assumption | apply Ev.ite | apply State.setLane_ev | apply State.setTab_ev
    | refine fun _ => ?_

theorem State.shim_ev {z : State} (s : State) (n : Nat) (tx act : Bool) (fill fill' k : Nat) (hs : Ev z s) : Ev z (State.shim s n tx act fill fill' k) := by
  unfold State.shim
  repeat' first
    | with_reducible first | assumption | apply Ev.ite | apply State.when_ev | apply State.count_ev | apply State.setFill_ev
    | refine fun _ => ?_
    | ((try lift_lets); intro u; first | (refine Ev.cut (z := z) u ?_ ?_; (subst u); rotate_left; clear_value u; intro _) | (refine Ev.cut (z := z) u.st ?_ ?_; (subst u); rotate_left; clear_value u; intro _) | (refine Ev.cut (z := z) u.1 ?_ ?_; (subst u); rotate_left; clear_value u; intro _) | ((have _ := fun x => u x); subst u) | clear_value u)
    | dsimp only

theorem execShimDelete_ev {z : State} (n : LaneNo) (tx : Bool) (fill : Fin 65) (gap : Nat) (s : State) (hs : Ev z s) : EvN z (execShimDelete n tx fill gap s) := by
  unfold execShimDelete
  repeat' first
    | with_reducible first | assumption | apply Ev.ite | apply Ev.ite_st | apply EvN.ite | apply EvN.done | apply EvN.next | apply EvN.res | apply Res.done_ev | apply State.shim_ev
    | refine fun _ => ?_

theorem execShimInsert_ev {z : State} (n : LaneNo) (tx : Bool) (fill : Fin 65) (s : State) (hs : Ev z s) : EvN z (execShimInsert n tx fill s) := by
  unfold execShimInsert
  repeat' first
    | with_reducible first | assumption | apply Ev.ite | apply Ev.ite_st | apply EvN.ite | apply EvN.done | apply EvN.next | apply EvN.res | apply Res.done_ev | apply State.shim_ev
    | refine fun _ => ?_

theorem State.elasticRx_ev {z : State} (s : State) (p : Nat) (hs : Ev z s) : Ev z (State.elasticRx s p) := by
  unfold State.elasticRx
  repeat' first
    | with_reducible first | assumption | apply Ev.ite | apply Ev.id | apply State.forAll_ev | apply Pass.stage_ev | apply State.countRx_ev | apply State.dropWhole_ev | apply State.endArrival_ev
    | refine fun _ => ?_
    | ((try lift_lets); intro u; first | (refine Ev.cut (z := z) u ?_ ?_; (subst u); rotate_left; clear_value u; intro _) | (refine Ev.cut (z := z) u.st ?_ ?_; (subst u); rotate_left; clear_value u; intro _) | (refine Ev.cut (z := z) u.1 ?_ ?_; (subst u); rotate_left; clear_value u; intro _) | ((have _ := fun x => u x); subst u) | clear_value u)
    | dsimp only
    | (with_reducible apply Ev.fst; assumption)
    | split

theorem execElasticFault_ev {z : State} (n : LaneNo) (tx : Bool) (s : State) (hs : Ev z s) : EvN z (execElasticFault n tx s) := by
  unfold execElasticFault
  repeat' first
    | with_reducible first | assumption | apply Ev.ite | apply Ev.ite_st | apply EvN.ite | apply EvN.done | apply EvN.next | apply EvN.res | apply Res.done_ev | apply State.elasticRx_ev | apply State.endCopies_ev | apply State.laneEvent_ev | apply State.setFill_ev
    | refine fun _ => ?_
    | ((try lift_lets); intro u; first | (refine Ev.cut (z := z) u ?_ ?_; (subst u); rotate_left; clear_value u; intro _) | (refine Ev.cut (z := z) u.st ?_ ?_; (subst u); rotate_left; clear_value u; intro _) | (refine Ev.cut (z := z) u.1 ?_ ?_; (subst u); rotate_left; clear_value u; intro _) | ((have _ := fun x => u x); subst u) | clear_value u)
    | dsimp only
    | (with_reducible apply Ev.fst; assumption)
    | split

theorem tapEffect_ev {z : State} (n i v : Nat) (s : State) (hs : Ev z s) : Ev z (tapEffect n i v s).st := by
  unfold tapEffect
  repeat' first
    | with_reducible first | assumption | apply Ev.ite | apply Ev.ite_st | apply Ev.done | apply Ev.fail | apply Res.done_ev | apply Res.fail_ev | apply State.setLane_ev | apply State.setTab_ev
    | refine fun _ => ?_
    | ((try lift_lets); intro u; first | (refine Ev.cut (z := z) u ?_ ?_; (subst u); rotate_left; clear_value u; intro _) | (refine Ev.cut (z := z) u.st ?_ ?_; (subst u); rotate_left; clear_value u; intro _) | (refine Ev.cut (z := z) u.1 ?_ ?_; (subst u); rotate_left; clear_value u; intro _) | ((have _ := fun x => u x); subst u) | clear_value u)
    | dsimp only

theorem execTxTapWrite_ev {z : State} (w : SessionNo) (n : LaneNo) (tap : Fin 5) (value : Nat) (s : State) (hs : Ev z s) : EvN z (execTxTapWrite w n tap value s) := by
  unfold execTxTapWrite
  repeat' first
    | with_reducible first | assumption | apply EvN.next | apply EvN.res | apply State.hostWrite_ev | apply tapEffect_ev

theorem State.followTest_ev {z : State} (s : State) (n : Nat) (hs : Ev z s) : Ev z (State.followTest s n) := by
  unfold State.followTest
  repeat' first
    | with_reducible first | assumption | apply Ev.ite | apply State.laneRestart_ev | apply State.laneTo_ev
    | refine fun _ => ?_

theorem loopbackEffect_ev {z : State} (n v : Nat) (s : State) (hs : Ev z s) : Ev z (loopbackEffect n v s).st := by
  unfold loopbackEffect
  repeat' first
    | with_reducible first | assumption | apply Ev.done | apply Res.done_ev | apply State.followTest_ev | apply State.setLane_ev

theorem prbsTxEffect_ev {z : State} (n v : Nat) (s : State) (hs : Ev z s) : Ev z (prbsTxEffect n v s).st := by
  unfold prbsTxEffect
  repeat' first
    | with_reducible first | assumption | apply Ev.ite | apply Ev.ite_st | apply Ev.done | apply Ev.fail | apply Res.done_ev | apply Res.fail_ev | apply State.followTest_ev | apply State.setLane_ev
    | refine fun _ => ?_

theorem prbsRxEffect_ev {z : State} (n v : Nat) (s : State) (hs : Ev z s) : Ev z (prbsRxEffect n v s).st := by
  unfold prbsRxEffect
  repeat' first
    | with_reducible first | assumption | apply Ev.ite | apply Ev.ite_st | apply Ev.done | apply Ev.fail | apply Res.done_ev | apply Res.fail_ev | apply State.endCheck_ev | apply State.followTest_ev | apply State.setLane_ev
    | refine fun _ => ?_

theorem execLoopback_ev {z : State} (w : SessionNo) (n : LaneNo) (value : Nat) (s : State) (hs : Ev z s) : EvN z (execLoopback w n value s) := by
  unfold execLoopback
  repeat' first
    | with_reducible first | assumption | apply EvN.next | apply EvN.res | apply State.hostWrite_ev | apply loopbackEffect_ev

theorem execPrbsTx_ev {z : State} (w : SessionNo) (n : LaneNo) (value : Nat) (s : State) (hs : Ev z s) : EvN z (execPrbsTx w n value s) := by
  unfold execPrbsTx
  repeat' first
    | with_reducible first | assumption | apply EvN.next | apply EvN.res | apply State.hostWrite_ev | apply prbsTxEffect_ev

theorem execPrbsRx_ev {z : State} (w : SessionNo) (n : LaneNo) (value : Nat) (s : State) (hs : Ev z s) : EvN z (execPrbsRx w n value s) := by
  unfold execPrbsRx
  repeat' first
    | with_reducible first | assumption | apply EvN.next | apply EvN.res | apply State.hostWrite_ev | apply prbsRxEffect_ev

theorem execPrbsLock_ev {z : State} (n : LaneNo) (s : State) (hs : Ev z s) : EvN z (execPrbsLock n s) := by
  unfold execPrbsLock
  repeat' first
    | with_reducible first | assumption | apply Ev.ite | apply Ev.ite_st | apply EvN.ite | apply EvN.done | apply EvN.next | apply EvN.res | apply Res.done_ev | apply State.setLane_ev
    | refine fun _ => ?_

theorem execPrbsLockLost_ev {z : State} (n : LaneNo) (counted errors : Nat) (s : State) (hs : Ev z s) : EvN z (execPrbsLockLost n counted errors s) := by
  unfold execPrbsLockLost
  repeat' first
    | with_reducible first | assumption | apply Ev.ite | apply Ev.ite_st | apply EvN.ite | apply EvN.done | apply EvN.next | apply EvN.res | apply Res.done_ev | apply State.bump_ev | apply State.setLane_ev
    | refine fun _ => ?_

theorem prbsClearEffect_ev {z : State} (n v : Nat) (s : State) (hs : Ev z s) : Ev z (prbsClearEffect n v s).st := by
  unfold prbsClearEffect
  repeat' first
    | with_reducible first | assumption | apply Ev.ite | apply Ev.ite_st | apply Ev.done | apply Res.done_ev | apply State.setLane_ev
    | refine fun _ => ?_

theorem execPrbsClear_ev {z : State} (w : SessionNo) (n : LaneNo) (s : State) (hs : Ev z s) : EvN z (execPrbsClear w n s) := by
  unfold execPrbsClear
  repeat' first
    | with_reducible first | assumption | apply EvN.next | apply EvN.res | apply State.hostWrite_ev | apply prbsClearEffect_ev

theorem eyeStartEffect_ev {z : State} (n v : Nat) (s : State) (hs : Ev z s) : Ev z (eyeStartEffect n v s).st := by
  unfold eyeStartEffect
  repeat' first
    | with_reducible first | assumption | apply Ev.ite | apply Ev.ite_st | apply Ev.done | apply Ev.fail | apply Res.done_ev | apply Res.fail_ev | apply State.drew_ev | apply State.setLane_ev
    | refine fun _ => ?_

theorem execEyeStart_ev {z : State} (w : SessionNo) (n : LaneNo) (eye : Nat) (s : State) (hs : Ev z s) : EvN z (execEyeStart w n eye s) := by
  unfold execEyeStart
  repeat' first
    | with_reducible first | assumption | apply EvN.next | apply EvN.res | apply State.hostWrite_ev | apply eyeStartEffect_ev

theorem execEyeScanDone_ev {z : State} (n : LaneNo) (map : Bytes) (s : State) (hs : Ev z s) : EvN z (execEyeScanDone n map s) := by
  unfold execEyeScanDone
  repeat' first
    | with_reducible first | assumption | apply Ev.ite | apply Ev.ite_st | apply EvN.ite | apply EvN.done | apply EvN.next | apply EvN.res | apply State.when_ev | apply Pass.drop_ev | apply Pass.replicate_ev | apply Res.done_ev | apply State.drew_ev | apply State.drop_ev | apply State.setLane_ev
    | refine fun _ => ?_
    | ((try lift_lets); intro u; first | (refine Ev.cut (z := z) u ?_ ?_; (subst u); rotate_left; clear_value u; intro _) | (refine Ev.cut (z := z) u.st ?_ ?_; (subst u); rotate_left; clear_value u; intro _) | (refine Ev.cut (z := z) u.1 ?_ ?_; (subst u); rotate_left; clear_value u; intro _) | ((have _ := fun x => u x); subst u) | clear_value u)
    | dsimp only

theorem txEnableEffect_ev {z : State} (n v : Nat) (s : State) (hs : Ev z s) : Ev z (txEnableEffect n v s).st := by
  unfold txEnableEffect
  repeat' first
    | with_reducible first | assumption | apply Ev.ite | apply Ev.ite_st | apply Ev.done | apply Res.done_ev | apply State.laneRestart_ev | apply State.laneTo_ev | apply State.setLane_ev
    | refine fun _ => ?_
    | ((try lift_lets); intro u; first | (refine Ev.cut (z := z) u ?_ ?_; (subst u); rotate_left; clear_value u; intro _) | (refine Ev.cut (z := z) u.st ?_ ?_; (subst u); rotate_left; clear_value u; intro _) | (refine Ev.cut (z := z) u.1 ?_ ?_; (subst u); rotate_left; clear_value u; intro _) | ((have _ := fun x => u x); subst u) | clear_value u)

theorem State.withdrawWhere_ev {z : State} (s : State) (f : Nat → Bool) (hs : Ev z s) : Ev z (State.withdrawWhere s f) := by
  unfold State.withdrawWhere
  repeat' first
    | with_reducible first | assumption | apply Ev.ite | apply State.forAll_ev | apply State.drained_ev | apply State.refreshResvTotals_ev | apply State.withdraw_ev
    | refine fun _ => ?_
    | ((try lift_lets); intro u; first | (refine Ev.cut (z := z) u ?_ ?_; (subst u); rotate_left; clear_value u; intro _) | (refine Ev.cut (z := z) u.st ?_ ?_; (subst u); rotate_left; clear_value u; intro _) | (refine Ev.cut (z := z) u.1 ?_ ?_; (subst u); rotate_left; clear_value u; intro _) | ((have _ := fun x => u x); subst u) | clear_value u)
    | dsimp only

theorem State.setForm_ev {z : State} (s : State) (p : Nat) (form : Option (Nat × Nat)) (fec25 : Bool) (hs : Ev z s) : Ev z (State.setForm s p form fec25) := by
  unfold State.setForm
  repeat' first
    | with_reducible first | assumption | apply Ev.ite | apply State.setReg_ev | apply State.setTab_ev
    | refine fun _ => ?_
    | ((try lift_lets); intro u; first | (refine Ev.cut (z := z) u ?_ ?_; (subst u); rotate_left; clear_value u; intro _) | (refine Ev.cut (z := z) u.st ?_ ?_; (subst u); rotate_left; clear_value u; intro _) | (refine Ev.cut (z := z) u.1 ?_ ?_; (subst u); rotate_left; clear_value u; intro _) | ((have _ := fun x => u x); subst u) | clear_value u)
    | dsimp only
    | (with_reducible apply Ev.fst; assumption)
    | split

theorem State.reconfigure_ev {z : State} (s : State) (o : Nat) (val : Nat → Nat) (hs : Ev z s) : Ev z (State.reconfigure s o val) := by
  unfold State.reconfigure
  repeat' first
    | with_reducible first | assumption | apply Ev.ite | apply State.forAll_ev | apply State.cutArrivals_ev | apply State.endCopies_ev | apply State.laneRestart_ev | apply State.laneTo_ev | apply State.reclaimLost_ev | apply State.refreshLink_ev | apply State.refreshPartner_ev | apply State.setForm_ev | apply State.setLane_ev | apply State.setLink_ev | apply State.setTab_ev | apply State.withdrawWhere_ev
    | refine fun _ => ?_
    | ((try lift_lets); intro u; first | (refine Ev.cut (z := z) u ?_ ?_; (subst u); rotate_left; clear_value u; intro _) | (refine Ev.cut (z := z) u.st ?_ ?_; (subst u); rotate_left; clear_value u; intro _) | (refine Ev.cut (z := z) u.1 ?_ ?_; (subst u); rotate_left; clear_value u; intro _) | ((have _ := fun x => u x); subst u) | clear_value u)
    | dsimp only
    | (with_reducible apply Ev.fst; assumption)
    | split

theorem octetApplyEffect_ev {z : State} (o v : Nat) (s : State) (hs : Ev z s) : Ev z (octetApplyEffect o v s).st := by
  unfold octetApplyEffect
  repeat' first
    | with_reducible first | assumption | apply Ev.ite | apply Ev.ite_st | apply Ev.done | apply Ev.fail | apply Res.done_ev | apply Res.fail_ev | apply State.bump_ev | apply State.reconfigure_ev
    | refine fun _ => ?_

theorem execApply_ev {z : State} (w : SessionNo) (octet : Fin 64) (s : State) (hs : Ev z s) : EvN z (execApply w octet s) := by
  unfold execApply
  repeat' first
    | with_reducible first | assumption | apply EvN.next | apply EvN.res | apply State.hostWrite_ev | apply octetApplyEffect_ev

end Sys2Proof.Machine
end

