-- ==== Sys2Proof/Laws/EvCounters.lean ====
section
/-!
SUPPORT. The commands keep the invariants (Laws/Evolve.lean): the operations of Machine/Counters.lean.
-/
namespace Sys2Proof.Machine

theorem State.startExport_ev {z : State} (s : State) (g t : Nat) (hs : Ev z s) : Ev z (State.startExport s g t) := by
  unfold State.startExport
  repeat' first
    | with_reducible first | assumption | apply Ev.ite | apply State.forAll_ev | apply State.bump_ev | apply State.setTab_ev
    | refine fun _ => ?_
    | ((try lift_lets); intro u; first | (refine Ev.cut (z := z) u ?_ ?_; (subst u); rotate_left; clear_value u; intro _) | (refine Ev.cut (z := z) u.st ?_ ?_; (subst u); rotate_left; clear_value u; intro _) | (refine Ev.cut (z := z) u.1 ?_ ?_; (subst u); rotate_left; clear_value u; intro _) | ((have _ := fun x => u x); subst u) | clear_value u)
    | dsimp only

theorem State.latchGroup_ev {z : State} (s : State) (g : Nat) (hs : Ev z s) : Ev z (State.latchGroup s g) := by
  unfold State.latchGroup
  repeat' first
    | with_reducible first | assumption | apply State.when_ev | apply State.forAll_ev | apply State.bump_ev | apply State.clearTabRange_ev | apply State.event_ev | apply State.setReg_ev | apply State.setTab_ev | apply State.startExport_ev
    | refine fun _ => ?_
    | ((try lift_lets); intro u; first | (refine Ev.cut (z := z) u ?_ ?_; (subst u); rotate_left; clear_value u; intro _) | (refine Ev.cut (z := z) u.st ?_ ?_; (subst u); rotate_left; clear_value u; intro _) | (refine Ev.cut (z := z) u.1 ?_ ?_; (subst u); rotate_left; clear_value u; intro _) | ((have _ := fun x => u x); subst u) | clear_value u)
    | dsimp only

theorem snapEffect_ev {z : State} (g v : Nat) (s : State) (hs : Ev z s) : Ev z (snapEffect g v s).st := by
  unfold snapEffect
  repeat' first
    | with_reducible first | assumption | apply Ev.done | apply State.when_ev | apply Res.done_ev | apply State.latchGroup_ev
    | refine fun _ => ?_
    | dsimp only

theorem execSnap_ev {z : State} (w : SessionNo) (g : Fin 16) (s : State) (hs : Ev z s) : EvN z (execSnap w g s) := by
  unfold execSnap
  repeat' first
    | with_reducible first | assumption | apply EvN.next | apply EvN.res | apply State.hostWrite_ev | apply snapEffect_ev

theorem execCycleStart_ev {z : State} (g : GroupNo) (s : State) (hs : Ev z s) : EvN z (execCycleStart g s) := by
  unfold execCycleStart
  repeat' first
    | with_reducible first | assumption | apply Ev.ite | apply Ev.ite_st | apply EvN.ite | apply EvN.done | apply EvN.next | apply EvN.res | apply State.when_ev | apply State.forAll_ev | apply Res.done_ev | apply State.cycleStart_ev | apply State.latchGroup_ev
    | refine fun _ => ?_
    | ((try lift_lets); intro u; first | (refine Ev.cut (z := z) u ?_ ?_; (subst u); rotate_left; clear_value u; intro _) | (refine Ev.cut (z := z) u.st ?_ ?_; (subst u); rotate_left; clear_value u; intro _) | (refine Ev.cut (z := z) u.1 ?_ ?_; (subst u); rotate_left; clear_value u; intro _) | ((have _ := fun x => u x); subst u) | clear_value u)
    | dsimp only

theorem chainMapEffect_ev {z : State} (off : Nat) (data : Bytes) (s : State) (hs : Ev z s) : Ev z (chainMapEffect off data s).st := by
  unfold chainMapEffect
  repeat' first
    | with_reducible first | assumption | apply Ev.ite | apply Ev.ite_st | apply Ev.done | apply Ev.fail | apply State.forAll_ev | apply Res.done_ev | apply Res.fail_ev | apply State.setTab_ev
    | refine fun _ => ?_
    | ((try lift_lets); intro u; first | (refine Ev.cut (z := z) u ?_ ?_; (subst u); rotate_left; clear_value u; intro _) | (refine Ev.cut (z := z) u.st ?_ ?_; (subst u); rotate_left; clear_value u; intro _) | (refine Ev.cut (z := z) u.1 ?_ ?_; (subst u); rotate_left; clear_value u; intro _) | ((have _ := fun x => u x); subst u) | clear_value u)
    | dsimp only

theorem execChainMap_ev {z : State} (w : SessionNo) (value : Nat) (s : State) (hs : Ev z s) : EvN z (execChainMap w value s) := by
  unfold execChainMap
  repeat' first
    | with_reducible first | assumption | apply EvN.next | apply EvN.res | apply State.hostWrite_ev | apply chainMapEffect_ev

theorem State.carryDuringWrite_ev {z : State} (s : State) (e : Nat) (hs : Ev z s) : Ev z (State.carryDuringWrite s e) := by
  unfold State.carryDuringWrite
  repeat' first
    | with_reducible first | assumption | apply State.bump_ev | apply State.event_ev | apply State.setTab_ev
    | ((try lift_lets); intro u; first | (refine Ev.cut (z := z) u ?_ ?_; (subst u); rotate_left; clear_value u; intro _) | (refine Ev.cut (z := z) u.st ?_ ?_; (subst u); rotate_left; clear_value u; intro _) | (refine Ev.cut (z := z) u.1 ?_ ?_; (subst u); rotate_left; clear_value u; intro _) | ((have _ := fun x => u x); subst u) | clear_value u)

theorem State.writeCounter_ev {z : State} (s : State) (n amt : Nat) (w : Option Nat) (hs : Ev z s) : Ev z (State.writeCounter s n amt w) := by
  unfold State.writeCounter
  repeat' first
    | with_reducible first | assumption | apply State.when_ev | apply State.count_ev | apply State.overflowed_ev | apply State.setCounter_ev
    | refine fun _ => ?_
    | ((try lift_lets); intro u; first | (refine Ev.cut (z := z) u ?_ ?_; (subst u); rotate_left; clear_value u; intro _) | (refine Ev.cut (z := z) u.st ?_ ?_; (subst u); rotate_left; clear_value u; intro _) | (refine Ev.cut (z := z) u.1 ?_ ?_; (subst u); rotate_left; clear_value u; intro _) | ((have _ := fun x => u x); subst u) | clear_value u)
    | dsimp only
    | (with_reducible apply Ev.fst; assumption)
    | split

theorem State.writePair_ev {z : State} (s : State) (e amt : Nat) (w0 w1 : Option Nat) (hs : Ev z s) : Ev z (State.writePair s e amt w0 w1) := by
  unfold State.writePair
  repeat' first
    | with_reducible first | assumption | apply State.when_ev | apply State.carryDuringWrite_ev | apply State.overflowed_ev | apply State.setCounter_ev
    | refine fun _ => ?_
    | ((try lift_lets); intro u; first | (refine Ev.cut (z := z) u ?_ ?_; (subst u); rotate_left; clear_value u; intro _) | (refine Ev.cut (z := z) u.st ?_ ?_; (subst u); rotate_left; clear_value u; intro _) | (refine Ev.cut (z := z) u.1 ?_ ?_; (subst u); rotate_left; clear_value u; intro _) | ((have _ := fun x => u x); subst u) | clear_value u)
    | dsimp only

theorem State.applyCounters_ev {z : State} (s : State) (elems : SMap Nat) (posts : List (Nat × Nat)) (hs : Ev z s) : Ev z (State.applyCounters s elems posts) := by
  unfold State.applyCounters
  repeat' first
    | with_reducible first | assumption | apply Ev.ite | apply State.forAll_ev | apply State.setTab_ev | apply State.writeCounter_ev | apply State.writePair_ev
    | refine fun _ => ?_
    | ((try lift_lets); intro u; first | (refine Ev.cut (z := z) u ?_ ?_; (subst u); rotate_left; clear_value u; intro _) | (refine Ev.cut (z := z) u.st ?_ ?_; (subst u); rotate_left; clear_value u; intro _) | (refine Ev.cut (z := z) u.1 ?_ ?_; (subst u); rotate_left; clear_value u; intro _) | ((have _ := fun x => u x); subst u) | clear_value u)
    | dsimp only

theorem commitCounters_ev {z : State} (elems : SMap Nat) (posts : List (Nat × Nat)) (s : State) (hs : Ev z s) : Ev z (commitCounters elems posts s).st := by
  unfold commitCounters
  repeat' first
    | with_reducible first | assumption | apply Ev.ite | apply Ev.ite_st | apply Ev.done | apply Ev.fail | apply Res.done_ev | apply Res.fail_ev | apply State.applyCounters_ev
    | refine fun _ => ?_
    | dsimp only

theorem clearHistEffect_ev {z : State} (window x : Nat) (s : State) (hs : Ev z s) : Ev z (clearHistEffect window x s).st := by
  unfold clearHistEffect
  repeat' first
    | with_reducible first | assumption | apply Ev.ite | apply Ev.ite_st | apply Ev.done | apply Ev.fail | apply Res.done_ev | apply Res.fail_ev | apply State.clearTabRange_ev
    | refine fun _ => ?_

theorem execClear_ev {z : State} (w : SessionNo) (window : Nat) (element : Nat) (s : State) (hs : Ev z s) : EvN z (execClear w window element s) := by
  unfold execClear
  repeat' first
    | with_reducible first | assumption | apply Ev.ite | apply Ev.ite_st | apply EvN.ite | apply EvN.next | apply EvN.res | apply State.hostWrite_ev | apply clearHistEffect_ev
    | refine fun _ => ?_

theorem State.dropHistLatch_ev {z : State} (s : State) (session window : Nat) (hs : Ev z s) : Ev z (State.dropHistLatch s session window) := by
  unfold State.dropHistLatch
  repeat' first
    | with_reducible first | assumption | apply State.clearTabRange_ev | apply State.setTab_ev
    | ((try lift_lets); intro u; first | (refine Ev.cut (z := z) u ?_ ?_; (subst u); rotate_left; clear_value u; intro _) | (refine Ev.cut (z := z) u.st ?_ ?_; (subst u); rotate_left; clear_value u; intro _) | (refine Ev.cut (z := z) u.1 ?_ ?_; (subst u); rotate_left; clear_value u; intro _) | ((have _ := fun x => u x); subst u) | clear_value u)

theorem histSnapshotEffect_ev {z : State} (session window v : Nat) (s : State) (hs : Ev z s) : Ev z (histSnapshotEffect session window v s).st := by
  unfold histSnapshotEffect
  repeat' first
    | with_reducible first | assumption | apply Ev.ite | apply Ev.ite_st | apply Ev.done | apply State.forAll_ev | apply Res.done_ev | apply State.dropHistLatch_ev | apply State.setTab_ev
    | refine fun _ => ?_
    | ((try lift_lets); intro u; first | (refine Ev.cut (z := z) u ?_ ?_; (subst u); rotate_left; clear_value u; intro _) | (refine Ev.cut (z := z) u.st ?_ ?_; (subst u); rotate_left; clear_value u; intro _) | (refine Ev.cut (z := z) u.1 ?_ ?_; (subst u); rotate_left; clear_value u; intro _) | ((have _ := fun x => u x); subst u) | clear_value u)
    | dsimp only

theorem execHistSnapshot_ev {z : State} (w : SessionNo) (window : Nat) (s : State) (hs : Ev z s) : EvN z (execHistSnapshot w window s) := by
  unfold execHistSnapshot
  repeat' first
    | with_reducible first | assumption | apply Ev.ite | apply Ev.ite_st | apply EvN.ite | apply EvN.next | apply EvN.res | apply State.hostWrite_ev | apply histSnapshotEffect_ev
    | refine fun _ => ?_

theorem State.addQueueEnergy_ev {z : State} (s : State) (p q e : Nat) (hs : Ev z s) : Ev z (State.addQueueEnergy s p q e) := by
  unfold State.addQueueEnergy
  repeat' first
    | with_reducible first | assumption | apply State.when_ev | apply State.count_ev
    | refine fun _ => ?_
    | ((try lift_lets); intro u; first | (refine Ev.cut (z := z) u ?_ ?_; (subst u); rotate_left; clear_value u; intro _) | (refine Ev.cut (z := z) u.st ?_ ?_; (subst u); rotate_left; clear_value u; intro _) | (refine Ev.cut (z := z) u.1 ?_ ?_; (subst u); rotate_left; clear_value u; intro _) | ((have _ := fun x => u x); subst u) | clear_value u)
    | dsimp only

theorem State.addBenchEnergy_ev {z : State} (s : State) (b e : Nat) (hs : Ev z s) : Ev z (State.addBenchEnergy s b e) := by
  unfold State.addBenchEnergy
  repeat' first
    | with_reducible first | assumption | apply State.count_ev
    | ((try lift_lets); intro u; first | (refine Ev.cut (z := z) u ?_ ?_; (subst u); rotate_left; clear_value u; intro _) | (refine Ev.cut (z := z) u.st ?_ ?_; (subst u); rotate_left; clear_value u; intro _) | (refine Ev.cut (z := z) u.1 ?_ ?_; (subst u); rotate_left; clear_value u; intro _) | ((have _ := fun x => u x); subst u) | clear_value u)

theorem State.attribute_ev {z : State} (s : State) (de : Nat) (hs : Ev z s) : Ev z (State.attribute s de) := by
  unfold State.attribute
  repeat' first
    | with_reducible first | assumption | apply State.forAll_ev | apply State.addBenchEnergy_ev | apply State.addQueueEnergy_ev | apply State.count_ev | apply State.setTab_ev
    | refine fun _ => ?_
    | ((try lift_lets); intro u; first | (refine Ev.cut (z := z) u ?_ ?_; (subst u); rotate_left; clear_value u; intro _) | (refine Ev.cut (z := z) u.st ?_ ?_; (subst u); rotate_left; clear_value u; intro _) | (refine Ev.cut (z := z) u.1 ?_ ?_; (subst u); rotate_left; clear_value u; intro _) | ((have _ := fun x => u x); subst u) | clear_value u)
    | dsimp only

theorem execEnergyInterval_ev {z : State} (s : State) (hs : Ev z s) : EvN z (execEnergyInterval s) := by
  unfold execEnergyInterval
  repeat' first
    | with_reducible first | assumption | apply Ev.ite | apply Ev.ite_st | apply EvN.ite | apply EvN.done | apply EvN.next | apply EvN.res | apply State.forAll_ev | apply Res.done_ev | apply State.attribute_ev | apply State.bump_ev | apply State.clearTab_ev | apply State.clearTabRange_ev | apply State.setReg_ev | apply State.setTab_ev
    | refine fun _ => ?_
    | ((try lift_lets); intro u; first | (refine Ev.cut (z := z) u ?_ ?_; (subst u); rotate_left; clear_value u; intro _) | (refine Ev.cut (z := z) u.st ?_ ?_; (subst u); rotate_left; clear_value u; intro _) | (refine Ev.cut (z := z) u.1 ?_ ?_; (subst u); rotate_left; clear_value u; intro _) | ((have _ := fun x => u x); subst u) | clear_value u)
    | dsimp only

theorem State.buildStream_ev {z : State} (s : State) (t kind base : Nat) (records : List Nat) (hs : Ev z s) : Ev z (State.buildStream s t kind base records) := by
  unfold State.buildStream
  repeat' first
    | with_reducible first | assumption | apply Ev.ite | apply Pass.replicate_ev | apply State.bump_ev | apply State.setTab_ev
    | refine fun _ => ?_
    | ((try lift_lets); intro u; first | (refine Ev.cut (z := z) u ?_ ?_; (subst u); rotate_left; clear_value u; intro _) | (refine Ev.cut (z := z) u.st ?_ ?_; (subst u); rotate_left; clear_value u; intro _) | (refine Ev.cut (z := z) u.1 ?_ ?_; (subst u); rotate_left; clear_value u; intro _) | ((have _ := fun x => u x); subst u) | clear_value u)
    | dsimp only
    | with_reducible apply Ev.upd

theorem State.buildExport_ev {z : State} (s : State) (t g : Nat) (hs : Ev z s) : Ev z (State.buildExport s t g) := by
  unfold State.buildExport
  repeat' first
    | with_reducible first | assumption | apply Ev.ite | apply Res.done_ev | apply State.buildStream_ev | apply State.clearTabRange_ev | apply State.setTab_ev
    | refine fun _ => ?_
    | ((try lift_lets); intro u; first | (refine Ev.cut (z := z) u ?_ ?_; (subst u); rotate_left; clear_value u; intro _) | (refine Ev.cut (z := z) u.st ?_ ?_; (subst u); rotate_left; clear_value u; intro _) | (refine Ev.cut (z := z) u.1 ?_ ?_; (subst u); rotate_left; clear_value u; intro _) | ((have _ := fun x => u x); subst u) | clear_value u)
    | dsimp only

theorem State.buildPostcards_ev {z : State} (s : State) (t n : Nat) (hs : Ev z s) : Ev z (State.buildPostcards s t n) := by
  unfold State.buildPostcards
  repeat' first
    | with_reducible first | assumption | apply Pass.drop_ev | apply State.buildStream_ev | apply State.drop_ev | apply State.pullStream_ev | apply State.setFifo_ev
    | ((try lift_lets); intro u; first | (refine Ev.cut (z := z) u ?_ ?_; (subst u); rotate_left; clear_value u; intro _) | (refine Ev.cut (z := z) u.st ?_ ?_; (subst u); rotate_left; clear_value u; intro _) | (refine Ev.cut (z := z) u.1 ?_ ?_; (subst u); rotate_left; clear_value u; intro _) | ((have _ := fun x => u x); subst u) | clear_value u)

theorem execTelemetryBuild_ev {z : State} (t : Fin 4) (s : State) (hs : Ev z s) : EvN z (execTelemetryBuild t s) := by
  unfold execTelemetryBuild
  repeat' first
    | with_reducible first | assumption | apply Ev.ite | apply Ev.ite_st | apply EvN.ite | apply EvN.done | apply EvN.next | apply EvN.res | apply Res.done_ev | apply State.buildExport_ev | apply State.buildPostcards_ev
    | refine fun _ => ?_
    | ((try lift_lets); intro u; first | (refine Ev.cut (z := z) u ?_ ?_; (subst u); rotate_left; clear_value u; intro _) | (refine Ev.cut (z := z) u.st ?_ ?_; (subst u); rotate_left; clear_value u; intro _) | (refine Ev.cut (z := z) u.1 ?_ ?_; (subst u); rotate_left; clear_value u; intro _) | ((have _ := fun x => u x); subst u) | clear_value u)
    | dsimp only
    | (with_reducible apply Ev.fst; assumption)
    | split

theorem execFlushTimeout_ev {z : State} (t : Fin 4) (s : State) (hs : Ev z s) : EvN z (execFlushTimeout t s) := by
  unfold execFlushTimeout
  repeat' first
    | with_reducible first | assumption | apply Ev.ite | apply Ev.ite_st | apply EvN.ite | apply EvN.done | apply EvN.next | apply EvN.res | apply Res.done_ev | apply State.buildPostcards_ev
    | refine fun _ => ?_
    | ((try lift_lets); intro u; first | (refine Ev.cut (z := z) u ?_ ?_; (subst u); rotate_left; clear_value u; intro _) | (refine Ev.cut (z := z) u.st ?_ ?_; (subst u); rotate_left; clear_value u; intro _) | (refine Ev.cut (z := z) u.1 ?_ ?_; (subst u); rotate_left; clear_value u; intro _) | ((have _ := fun x => u x); subst u) | clear_value u)

theorem streamEnableEffect_ev {z : State} (t v : Nat) (s : State) (hs : Ev z s) : Ev z (streamEnableEffect t v s).st := by
  unfold streamEnableEffect
  repeat' first
    | with_reducible first | assumption | apply Ev.ite | apply Ev.ite_st | apply Ev.fail | apply State.store_ev | apply Res.fail_ev
    | refine fun _ => ?_

theorem streamMapEffect_ev {z : State} (v : Nat) (s : State) (hs : Ev z s) : Ev z (streamMapEffect v s).st := by
  unfold streamMapEffect
  repeat' first
    | with_reducible first | assumption | apply Ev.ite | apply Ev.ite_st | apply Ev.done | apply State.forAll_ev | apply Res.done_ev | apply State.count_ev | apply State.pullStream_ev | apply State.setFifo_ev | apply State.setReg_ev
    | refine fun _ => ?_
    | ((try lift_lets); intro u; first | (refine Ev.cut (z := z) u ?_ ?_; (subst u); rotate_left; clear_value u; intro _) | (refine Ev.cut (z := z) u.st ?_ ?_; (subst u); rotate_left; clear_value u; intro _) | (refine Ev.cut (z := z) u.1 ?_ ?_; (subst u); rotate_left; clear_value u; intro _) | ((have _ := fun x => u x); subst u) | clear_value u)
    | dsimp only

theorem State.restartWatch_ev {z : State} (s : State) (w : Nat) (hs : Ev z s) : Ev z (State.restartWatch s w) := by
  unfold State.restartWatch
  repeat' first
    | with_reducible first | assumption | apply State.setTab_ev

theorem watchEffect_ev {z : State} (w sub v : Nat) (s : State) (hs : Ev z s) : Ev z (watchEffect w sub v s).st := by
  unfold watchEffect
  repeat' first
    | with_reducible first | assumption | apply Ev.done | apply Res.done_ev | apply State.restartWatch_ev | apply State.setReg_ev

theorem execWatchPeriodEnd_ev {z : State} (w : Fin 64) (s : State) (hs : Ev z s) : EvN z (execWatchPeriodEnd w s) := by
  unfold execWatchPeriodEnd
  repeat' first
    | with_reducible first | assumption | apply Ev.ite | apply Ev.ite_st | apply EvN.ite | apply EvN.done | apply EvN.next | apply EvN.res | apply Res.done_ev | apply State.restartWatch_ev | apply State.setInput_ev | apply State.setReg_ev
    | refine fun _ => ?_
    | ((try lift_lets); intro u; first | (refine Ev.cut (z := z) u ?_ ?_; (subst u); rotate_left; clear_value u; intro _) | (refine Ev.cut (z := z) u.st ?_ ?_; (subst u); rotate_left; clear_value u; intro _) | (refine Ev.cut (z := z) u.1 ?_ ?_; (subst u); rotate_left; clear_value u; intro _) | ((have _ := fun x => u x); subst u) | clear_value u)

end Sys2Proof.Machine
end

