-- ==== Sys2Proof/Laws/EvInterrupts.lean ====
section
/-!
SUPPORT. The commands keep the invariants (Laws/Evolve.lean): the operations of Machine/Interrupts.lean.
-/
namespace Sys2Proof.Machine

theorem execMgmtClaim_ev {z : State} (s : State) (hs : Ev z s) : EvN z (execMgmtClaim s) := by
  unfold execMgmtClaim
  repeat' first
    | with_reducible first | assumption | apply EvN.done | apply State.forAll_ev | apply Res.done_ev | apply State.claimSrc_ev | apply State.completeSrc_ev
    | refine fun _ => ?_
    | ((try lift_lets); intro u; first | (refine Ev.cut (z := z) u ?_ ?_; (subst u); rotate_left; clear_value u; intro _) | (refine Ev.cut (z := z) u.st ?_ ?_; (subst u); rotate_left; clear_value u; intro _) | (refine Ev.cut (z := z) u.1 ?_ ?_; (subst u); rotate_left; clear_value u; intro _) | ((have _ := fun x => u x); subst u) | clear_value u)
    | dsimp only

theorem testRaiseEffect_ev {z : State} (n : Nat) (s : State) (hs : Ev z s) : Ev z (testRaiseEffect n s).st := by
  unfold testRaiseEffect
  repeat' first
    | with_reducible first | assumption | apply Ev.ite | apply Ev.ite_st | apply Ev.done | apply Ev.fail | apply Res.done_ev | apply Res.fail_ev | apply State.trigger_ev
    | refine fun _ => ?_

theorem execTestRaise_ev {z : State} (w : SessionNo) (source : Nat) (s : State) (hs : Ev z s) : EvN z (execTestRaise w source s) := by
  unfold execTestRaise
  repeat' first
    | with_reducible first | assumption | apply EvN.next | apply EvN.res | apply State.hostWrite_ev | apply testRaiseEffect_ev

theorem execAttnBatch_ev {z : State} (c : Fin 8) (s : State) (hs : Ev z s) : EvN z (execAttnBatch c s) := by
  unfold execAttnBatch
  repeat' first
    | with_reducible first | assumption | apply Ev.ite | apply Ev.ite_st | apply EvN.ite | apply EvN.done | apply EvN.next | apply EvN.res | apply Res.done_ev | apply State.takeBatch_ev
    | refine fun _ => ?_

theorem State.applyIntConf_ev {z : State} (s : State) (n v : Nat) (hs : Ev z s) : Ev z (State.applyIntConf s n v) := by
  unfold State.applyIntConf
  repeat' first
    | with_reducible first | assumption | apply Ev.ite | apply State.offer_ev | apply State.setTab_ev | apply State.trigger_ev
    | refine fun _ => ?_
    | ((try lift_lets); intro u; first | (refine Ev.cut (z := z) u ?_ ?_; (subst u); rotate_left; clear_value u; intro _) | (refine Ev.cut (z := z) u.st ?_ ?_; (subst u); rotate_left; clear_value u; intro _) | (refine Ev.cut (z := z) u.1 ?_ ?_; (subst u); rotate_left; clear_value u; intro _) | ((have _ := fun x => u x); subst u) | clear_value u)

theorem commitIntConfig_ev {z : State} (elems : SMap Nat) (s : State) (hs : Ev z s) : Ev z (commitIntConfig elems s).st := by
  unfold commitIntConfig
  repeat' first
    | with_reducible first | assumption | apply Ev.ite | apply Ev.ite_st | apply Ev.done | apply Ev.fail | apply State.forAll_ev | apply Res.done_ev | apply Res.fail_ev | apply State.applyIntConf_ev
    | refine fun _ => ?_
    | dsimp only

end Sys2Proof.Machine
end

