-- ==== Sys2Proof/Laws/EvLookupCommit.lean ====
section
/-!
SUPPORT. The commands keep the invariants (Laws/Evolve.lean): the operations of Machine/LookupCommit.lean.
-/
namespace Sys2Proof.Machine

theorem State.setFail_ev {z : State} (s : State) (window : Nat) (element : Option Nat) (cause : Nat) (hs : Ev z s) : Ev z (State.setFail s window element cause) := by
  unfold State.setFail
  repeat' first
    | with_reducible first | assumption | apply State.drew_ev | apply State.setReg_ev
    | ((try lift_lets); intro u; first | (refine Ev.cut (z := z) u ?_ ?_; (subst u); rotate_left; clear_value u; intro _) | (refine Ev.cut (z := z) u.st ?_ ?_; (subst u); rotate_left; clear_value u; intro _) | (refine Ev.cut (z := z) u.1 ?_ ?_; (subst u); rotate_left; clear_value u; intro _) | ((have _ := fun x => u x); subst u) | clear_value u)
    | dsimp only
    | (with_reducible apply Ev.fst; assumption)
    | split

theorem State.lookupRefused_ev {z : State} (s : State) (window : Nat) (element : Option Nat) (cause : Nat) (hs : Ev z s) : Ev z (State.lookupRefused s window element cause).st := by
  unfold State.lookupRefused
  repeat' first
    | with_reducible first | assumption | apply Ev.fail | apply Res.fail_ev | apply State.setFail_ev

theorem State.lookupCommit_ev {z : State} (s : State) (window : Nat) (apply : State → State) (hs : Ev z s) (happly : ∀ u , Ev z u → Ev z (apply u )) : Ev z (State.lookupCommit s window apply).st := by
  unfold State.lookupCommit
  repeat' first
    | with_reducible first | assumption | apply Ev.ite | apply Ev.ite_st | apply Ev.done | apply Ev.fail | apply Res.done_ev | apply Res.fail_ev | apply State.bump_ev | apply State.drained_ev | apply State.setFail_ev | apply State.setReg_ev | apply happly
    | refine fun _ => ?_

theorem State.retireAt_ev {z : State} (s : State) (kind i : Nat) (hs : Ev z s) : Ev z (State.retireAt s kind i) := by
  unfold State.retireAt
  repeat' first
    | with_reducible first | assumption | apply State.setTab_ev

theorem State.emMove_ev {z : State} (s : State) (l : List Nat) (hs : Ev z s) : Ev z (State.emMove s l) := by
  induction l with
  | nil => exact hs
  | cons i l ih =>
    cases l with
    | nil => exact hs
    | cons j t =>
      unfold State.emMove
      exact State.bump_ev _ _ _ _ (State.setElem_ev _ _ _ _ _ (State.setElem_ev _ _ _ _ _ ih))

theorem EmPlan.apply_ev {z : State} (w : EmPlan) (s : State) (hs : Ev z s) : Ev z (EmPlan.apply w s) := by
  unfold EmPlan.apply
  repeat' first
    | with_reducible first | assumption | apply State.forAll_ev | apply State.setElem_ev | apply State.retireAt_ev
    | refine fun _ => ?_
    | ((try lift_lets); intro u; first | (refine Ev.cut (z := z) u ?_ ?_; (subst u); rotate_left; clear_value u; intro _) | (refine Ev.cut (z := z) u.st ?_ ?_; (subst u); rotate_left; clear_value u; intro _) | (refine Ev.cut (z := z) u.1 ?_ ?_; (subst u); rotate_left; clear_value u; intro _) | ((have _ := fun x => u x); subst u) | clear_value u)
    | dsimp only
    | (with_reducible apply Ev.fst; assumption)
    | split

theorem EmPlan.place_ev {z : State} {w x : EmPlan} {v : Nat} (hw : Ev z w.st) (e : w.place v = some x) : Ev z x.st := by
  unfold EmPlan.place at e
  dsimp only at e
  split at e
  · cases e
  · cases e
    exact State.setElem_ev _ _ _ _ _ (State.emMove_ev _ _ (State.drew_ev hw))

theorem EmPlan.op_ev {z : State} {w x : EmPlan} {v : Nat} (hw : Ev z w.st) (e : w.op v = .ok x) : Ev z x.st := by
  unfold EmPlan.op at e
  dsimp only at e
  repeat' first
    | (cases e <;> first | exact hw | (apply EmPlan.place_ev (w := _) _ (by assumption); exact hw))
    | split at e
    | (cases e; apply EmPlan.place_ev (w := _) _ (by assumption); exact hw)

theorem EmPlan.run_ev {z : State} {w x : EmPlan} {l : SMap Nat} (hw : Ev z w.st) (e : w.run l = .ok x) : Ev z x.st := by
  induction l generalizing w with
  | nil => cases e; exact hw
  | cons a l ih =>
    unfold EmPlan.run at e
    split at e
    · cases e
    · next h => exact ih (EmPlan.op_ev hw h) e

theorem State.commitEm_ev {z : State} (s : State) (elems : SMap Nat) (hs : Ev z s) : Ev z (State.commitEm s elems).st := by
  unfold State.commitEm
  split
  · exact State.lookupRefused_ev _ _ _ _ hs
  · next w h =>
    have hw : Ev z w.st := EmPlan.run_ev (w := ⟨s, [], [], []⟩) hs h
    split
    · exact State.lookupCommit_ev _ _ _ hs fun u hu => hu
    · exact State.lookupCommit_ev _ _ _ hw fun u hu => EmPlan.apply_ev _ _ hu

theorem State.applyNode_ev {z : State} (s : State) (n v : Nat) (hs : Ev z s) : Ev z (State.applyNode s n v) := by
  unfold State.applyNode
  repeat' first
    | with_reducible first | assumption | apply Ev.ite | apply State.retireAt_ev | apply State.setElem_ev
    | refine fun _ => ?_

theorem State.switchRoot_ev {z : State} (s : State) (root : Nat) (hs : Ev z s) : Ev z (State.switchRoot s root) := by
  unfold State.switchRoot
  repeat' first
    | with_reducible first | assumption | apply Ev.ite | apply State.setReg_ev
    | refine fun _ => ?_

theorem State.commitNodes_ev {z : State} (s : State) (elems : SMap Nat) (root : Nat) (hs : Ev z s) : Ev z (State.commitNodes s elems root).st := by
  unfold State.commitNodes
  repeat' first
    | with_reducible first | assumption | apply State.forAll_ev | apply State.applyNode_ev | apply State.lookupCommit_ev | apply State.lookupRefused_ev | apply State.switchRoot_ev
    | refine fun _ => ?_
    | dsimp only
    | (with_reducible apply Ev.fst; assumption)
    | split

theorem State.applyRule_ev {z : State} (s : State) (n v : Nat) (hs : Ev z s) : Ev z (State.applyRule s n v) := by
  unfold State.applyRule
  repeat' first
    | with_reducible first | assumption | apply Ev.ite | apply State.retireAt_ev | apply State.setElem_ev
    | refine fun _ => ?_

theorem State.commitRules_ev {z : State} (s : State) (elems : SMap Nat) (hs : Ev z s) : Ev z (State.commitRules s elems).st := by
  unfold State.commitRules
  repeat' first
    | with_reducible first | assumption | apply State.forAll_ev | apply State.applyRule_ev | apply State.lookupCommit_ev | apply State.lookupRefused_ev
    | refine fun _ => ?_
    | dsimp only
    | (with_reducible apply Ev.fst; assumption)
    | split

theorem State.commitSpread_ev {z : State} (s : State) (t : Nat) (elems : SMap Nat) (hs : Ev z s) : Ev z (State.commitSpread s t elems).st := by
  unfold State.commitSpread
  repeat' first
    | with_reducible first | assumption | apply State.when_ev | apply State.applyElems_ev | apply State.lookupCommit_ev | apply State.lookupRefused_ev | apply State.setReg_ev
    | refine fun _ => ?_
    | ((try lift_lets); intro u; first | (refine Ev.cut (z := z) u ?_ ?_; (subst u); rotate_left; clear_value u; intro _) | (refine Ev.cut (z := z) u.st ?_ ?_; (subst u); rotate_left; clear_value u; intro _) | (refine Ev.cut (z := z) u.1 ?_ ?_; (subst u); rotate_left; clear_value u; intro _) | ((have _ := fun x => u x); subst u) | clear_value u)
    | dsimp only
    | (with_reducible apply Ev.fst; assumption)
    | split

end Sys2Proof.Machine
end

