-- ==== Sys2Proof/Laws/EvTime.lean ====
section
/-!
SUPPORT. The commands keep the invariants (Laws/Evolve.lean): the operations of Machine/Time.lean.
-/
namespace Sys2Proof.Machine

theorem State.freeRound_ev {z : State} (s : State) (a b : Nat) (hs : Ev z s) : Ev z (State.freeRound s a b).1 := by
  unfold State.freeRound
  repeat' first
    | with_reducible first | assumption | apply Ev.ite | apply Ev.ite_fst | apply State.drew_ev
    | refine fun _ => ?_

theorem State.timeTick_ev {z : State} (s : State) (hs : Ev z s) : Ev z (State.timeTick s) := by
  unfold State.timeTick
  repeat' first
    | with_reducible first | assumption | apply Ev.ite | apply State.freeRound_ev
    | refine fun _ => ?_
    | ((try lift_lets); intro u; first | (refine Ev.cut (z := z) u ?_ ?_; (subst u); rotate_left; clear_value u; intro _) | (refine Ev.cut (z := z) u.st ?_ ?_; (subst u); rotate_left; clear_value u; intro _) | (refine Ev.cut (z := z) u.1 ?_ ?_; (subst u); rotate_left; clear_value u; intro _) | ((have _ := fun x => u x); subst u) | clear_value u)
    | dsimp only
    | (with_reducible apply Ev.fst; assumption)
    | split
    | with_reducible apply Ev.upd

theorem execTimeClockTick_ev {z : State} (s : State) (hs : Ev z s) : EvN z (execTimeClockTick s) := by
  unfold execTimeClockTick
  repeat' first
    | with_reducible first | assumption | apply Ev.ite | apply Ev.ite_st | apply EvN.ite | apply EvN.done | apply EvN.next | apply EvN.res | apply Res.done_ev | apply State.timeTick_ev
    | refine fun _ => ?_

theorem State.timeEvent_ev {z : State} (s : State) (i : Nat) (hs : Ev z s) : Ev z (State.timeEvent s i) := by
  unfold State.timeEvent
  repeat' first
    | with_reducible first | assumption | apply State.event_ev

theorem State.timeLost_ev {z : State} (s s' : State) (hs : Ev z s) (hs' : Ev z s') : Ev z (State.timeLost s s') := by
  unfold State.timeLost
  repeat' first
    | with_reducible first | assumption | apply Ev.ite | apply State.refreshResvs_ev | apply State.timeEvent_ev
    | refine fun _ => ?_

theorem State.holdSwaps_ev {z : State} (s : State) (hs : Ev z s) : Ev z (State.holdSwaps s) := by
  unfold State.holdSwaps
  repeat' first
    | with_reducible first | assumption | apply State.forAll_ev | apply State.setTab_ev
    | refine fun _ => ?_
    | dsimp only
    | (with_reducible apply Ev.fst; assumption)
    | split

theorem State.enterFreeRun_ev {z : State} (s : State) (hs : Ev z s) : Ev z (State.enterFreeRun s) := by
  unfold State.enterFreeRun
  repeat' first
    | with_reducible first | assumption | apply State.when_ev | apply State.holdSwaps_ev | apply State.setReg_ev | apply State.timeLost_ev
    | refine fun _ => ?_
    | ((try lift_lets); intro u; first | (refine Ev.cut (z := z) u ?_ ?_; (subst u); rotate_left; clear_value u; intro _) | (refine Ev.cut (z := z) u.st ?_ ?_; (subst u); rotate_left; clear_value u; intro _) | (refine Ev.cut (z := z) u.1 ?_ ?_; (subst u); rotate_left; clear_value u; intro _) | ((have _ := fun x => u x); subst u) | clear_value u)

theorem State.takeSafeGates_ev {z : State} (s : State) (hs : Ev z s) : Ev z (State.takeSafeGates s) := by
  unfold State.takeSafeGates
  repeat' first
    | with_reducible first | assumption | apply State.forAll_ev | apply State.setReg_ev
    | refine fun _ => ?_
    | dsimp only

theorem State.enterSettling_ev {z : State} (s : State) (hs : Ev z s) : Ev z (State.enterSettling s) := by
  unfold State.enterSettling
  repeat' first
    | with_reducible first | assumption | apply State.refreshResvs_ev | apply State.setReg_ev | apply State.setTab_ev | apply State.takeSafeGates_ev | apply State.timeLost_ev
    | ((try lift_lets); intro u; first | (refine Ev.cut (z := z) u ?_ ?_; (subst u); rotate_left; clear_value u; intro _) | (refine Ev.cut (z := z) u.st ?_ ?_; (subst u); rotate_left; clear_value u; intro _) | (refine Ev.cut (z := z) u.1 ?_ ?_; (subst u); rotate_left; clear_value u; intro _) | ((have _ := fun x => u x); subst u) | clear_value u)

theorem State.enterLocked_ev {z : State} (s : State) (hs : Ev z s) : Ev z (State.enterLocked s) := by
  unfold State.enterLocked
  repeat' first
    | with_reducible first | assumption | apply State.when_ev | apply State.refreshResvs_ev | apply State.resvCommitDue_ev | apply State.setReg_ev | apply State.setTab_ev | apply State.timeEvent_ev
    | refine fun _ => ?_
    | ((try lift_lets); intro u; first | (refine Ev.cut (z := z) u ?_ ?_; (subst u); rotate_left; clear_value u; intro _) | (refine Ev.cut (z := z) u.st ?_ ?_; (subst u); rotate_left; clear_value u; intro _) | (refine Ev.cut (z := z) u.1 ?_ ?_; (subst u); rotate_left; clear_value u; intro _) | ((have _ := fun x => u x); subst u) | clear_value u)
    | dsimp only

theorem State.report16_ev {z : State} (s : State) (off : Int) (hs : Ev z s) : Ev z (State.report16 s off) := by
  unfold State.report16
  repeat' first
    | with_reducible first | assumption | apply Ev.ite | apply State.enterLocked_ev | apply State.setReg_ev | apply State.setTab_ev | apply State.timeLost_ev
    | refine fun _ => ?_
    | ((try lift_lets); intro u; first | (refine Ev.cut (z := z) u ?_ ?_; (subst u); rotate_left; clear_value u; intro _) | (refine Ev.cut (z := z) u.st ?_ ?_; (subst u); rotate_left; clear_value u; intro _) | (refine Ev.cut (z := z) u.1 ?_ ?_; (subst u); rotate_left; clear_value u; intro _) | ((have _ := fun x => u x); subst u) | clear_value u)
    | dsimp only
    | (with_reducible apply Ev.fst; assumption)
    | split

theorem State.servoWrite_ev {z : State} (s : State) (runtime : Bool) (w sub v : Nat) (eff : State → Res) (hs : Ev z s) (heff : ∀ u, Ev z u → Ev z (eff u).st) : EvN z (State.servoWrite s runtime w sub v eff) := by
  unfold State.servoWrite
  repeat' first
    | with_reducible first | assumption | apply Ev.ite | apply Ev.ite_st | apply EvN.ite | apply EvN.next | apply EvN.res | apply Ev.fail | apply Res.fail_ev | apply State.hostWrite_ev | apply heff
    | refine fun _ => ?_
    | dsimp only

theorem measuredOffsetEffect_ev {z : State} (v : Nat) (s : State) (hs : Ev z s) : Ev z (measuredOffsetEffect v s).st := by
  unfold measuredOffsetEffect
  repeat' first
    | with_reducible first | assumption | apply Ev.done | apply Res.done_ev | apply State.report16_ev

theorem execMeasuredOffset_ev {z : State} (runtime : Bool) (w : SessionNo) (offset : Nat) (s : State) (hs : Ev z s) : EvN z (execMeasuredOffset runtime w offset s) := by
  unfold execMeasuredOffset
  repeat' first
    | with_reducible first | assumption | apply State.servoWrite_ev | apply measuredOffsetEffect_ev

theorem execReportTimeout_ev {z : State} (s : State) (hs : Ev z s) : EvN z (execReportTimeout s) := by
  unfold execReportTimeout
  repeat' first
    | with_reducible first | assumption | apply Ev.ite | apply Ev.ite_st | apply EvN.ite | apply EvN.done | apply EvN.next | apply EvN.res | apply Res.done_ev | apply State.setReg_ev | apply State.timeEvent_ev
    | refine fun _ => ?_

theorem execHoldoverTimeout_ev {z : State} (s : State) (hs : Ev z s) : EvN z (execHoldoverTimeout s) := by
  unfold execHoldoverTimeout
  repeat' first
    | with_reducible first | assumption | apply Ev.ite | apply Ev.ite_st | apply EvN.ite | apply EvN.done | apply EvN.next | apply EvN.res | apply Res.done_ev | apply State.enterFreeRun_ev
    | refine fun _ => ?_

theorem servoModeEffect_ev {z : State} (v : Nat) (s : State) (hs : Ev z s) : Ev z (servoModeEffect v s).st := by
  unfold servoModeEffect
  repeat' first
    | with_reducible first | assumption | apply Ev.done | apply Res.done_ev | apply State.enterFreeRun_ev | apply State.setReg_ev

theorem execServoMode_ev {z : State} (w : SessionNo) (mode : Nat) (s : State) (hs : Ev z s) : EvN z (execServoMode w mode s) := by
  unfold execServoMode
  repeat' first
    | with_reducible first | assumption | apply EvN.next | apply EvN.res | apply State.hostWrite_ev | apply servoModeEffect_ev

theorem State.recordStep_ev {z : State} (s : State) (d : Int) (hs : Ev z s) : Ev z (State.recordStep s d) := by
  unfold State.recordStep
  repeat' first
    | with_reducible first | assumption | apply Ev.ite | apply State.drew_ev | apply State.setReg_ev
    | refine fun _ => ?_
    | ((try lift_lets); intro u; first | (refine Ev.cut (z := z) u ?_ ?_; (subst u); rotate_left; clear_value u; intro _) | (refine Ev.cut (z := z) u.st ?_ ?_; (subst u); rotate_left; clear_value u; intro _) | (refine Ev.cut (z := z) u.1 ?_ ?_; (subst u); rotate_left; clear_value u; intro _) | ((have _ := fun x => u x); subst u) | clear_value u)

theorem State.stepTime_ev {z : State} (s : State) (new : Nat) (hs : Ev z s) : Ev z (State.stepTime s new) := by
  unfold State.stepTime
  repeat' first
    | with_reducible first | assumption | apply State.when_ev | apply State.bump_ev | apply State.enterSettling_ev | apply State.lockDue_ev | apply State.recordStep_ev | apply State.resvCommitDue_ev | apply State.setTab_ev | apply State.stepGroups_ev | apply State.timeEvent_ev
    | refine fun _ => ?_
    | ((try lift_lets); intro u; first | (refine Ev.cut (z := z) u ?_ ?_; (subst u); rotate_left; clear_value u; intro _) | (refine Ev.cut (z := z) u.st ?_ ?_; (subst u); rotate_left; clear_value u; intro _) | (refine Ev.cut (z := z) u.1 ?_ ?_; (subst u); rotate_left; clear_value u; intro _) | ((have _ := fun x => u x); subst u) | clear_value u)
    | dsimp only
    | with_reducible apply Ev.upd

theorem offsetAdjEffect_ev {z : State} (v : Nat) (s : State) (hs : Ev z s) : Ev z (offsetAdjEffect v s).st := by
  unfold offsetAdjEffect
  repeat' first
    | with_reducible first | assumption | apply Ev.ite | apply Ev.ite_st | apply Ev.done | apply Ev.fail | apply Res.done_ev | apply Res.fail_ev | apply State.stepTime_ev
    | refine fun _ => ?_
    | ((try lift_lets); intro u; first | (refine Ev.cut (z := z) u ?_ ?_; (subst u); rotate_left; clear_value u; intro _) | (refine Ev.cut (z := z) u.st ?_ ?_; (subst u); rotate_left; clear_value u; intro _) | (refine Ev.cut (z := z) u.1 ?_ ?_; (subst u); rotate_left; clear_value u; intro _) | ((have _ := fun x => u x); subst u) | clear_value u)
    | dsimp only
    | with_reducible apply Ev.upd

theorem execOffsetAdj_ev {z : State} (runtime : Bool) (w : SessionNo) (amount : Nat) (s : State) (hs : Ev z s) : EvN z (execOffsetAdj runtime w amount s) := by
  unfold execOffsetAdj
  repeat' first
    | with_reducible first | assumption | apply State.servoWrite_ev | apply offsetAdjEffect_ev

theorem setTimeEffect_ev {z : State} (v : Nat) (s : State) (hs : Ev z s) : Ev z (setTimeEffect v s).st := by
  unfold setTimeEffect
  repeat' first
    | with_reducible first | assumption | apply Ev.ite | apply Ev.ite_st | apply Ev.done | apply Ev.fail | apply Res.done_ev | apply Res.fail_ev | apply State.stepTime_ev
    | refine fun _ => ?_

theorem execSetTime_ev {z : State} (runtime : Bool) (w : SessionNo) (time : Nat) (s : State) (hs : Ev z s) : EvN z (execSetTime runtime w time s) := by
  unfold execSetTime
  repeat' first
    | with_reducible first | assumption | apply State.servoWrite_ev | apply setTimeEffect_ev

theorem State.showGates_ev {z : State} (s : State) (p : Nat) (hs : Ev z s) : Ev z (State.showGates s p) := by
  unfold State.showGates
  repeat' first
    | with_reducible first | assumption | apply State.setReg_ev

theorem execGateEdge_ev {z : State} (p : PortNo) (s : State) (hs : Ev z s) : EvN z (execGateEdge p s) := by
  unfold execGateEdge
  repeat' first
    | with_reducible first | assumption | apply EvN.done | apply Res.done_ev | apply State.showGates_ev

theorem State.swapList_ev {z : State} (s : State) (p : Nat) (nl : Option GateList) (swap : Nat) (hs : Ev z s) : Ev z (State.swapList s p nl swap) := by
  unfold State.swapList
  repeat' first
    | with_reducible first | assumption | apply State.bump_ev | apply State.commitApplied_ev | apply State.event_ev | apply State.refreshBounds_ev | apply State.setGate_ev | apply State.setTab_ev | apply State.showGates_ev
    | ((try lift_lets); intro u; first | (refine Ev.cut (z := z) u ?_ ?_; (subst u); rotate_left; clear_value u; intro _) | (refine Ev.cut (z := z) u.st ?_ ?_; (subst u); rotate_left; clear_value u; intro _) | (refine Ev.cut (z := z) u.1 ?_ ?_; (subst u); rotate_left; clear_value u; intro _) | ((have _ := fun x => u x); subst u) | clear_value u)

theorem execListSwapped_ev {z : State} (p : PortNo) (s : State) (hs : Ev z s) : EvN z (execListSwapped p s) := by
  unfold execListSwapped
  repeat' first
    | with_reducible first | assumption | apply Ev.ite | apply Ev.ite_st | apply EvN.ite | apply EvN.done | apply EvN.next | apply EvN.res | apply Res.done_ev | apply State.swapList_ev
    | refine fun _ => ?_
    | dsimp only
    | (with_reducible apply Ev.fst; assumption)
    | split

theorem execGateListResume_ev {z : State} (p : PortNo) (s : State) (hs : Ev z s) : EvN z (execGateListResume p s) := by
  unfold execGateListResume
  repeat' first
    | with_reducible first | assumption | apply Ev.ite | apply Ev.ite_st | apply EvN.ite | apply EvN.done | apply EvN.next | apply EvN.res | apply Res.done_ev | apply State.setReg_ev | apply State.setTab_ev | apply State.showGates_ev
    | refine fun _ => ?_
    | dsimp only
    | (with_reducible apply Ev.fst; assumption)
    | split

theorem cancelPendingEffect_ev {z : State} (p v : Nat) (s : State) (hs : Ev z s) : Ev z (cancelPendingEffect p v s).st := by
  unfold cancelPendingEffect
  repeat' first
    | with_reducible first | assumption | apply Ev.ite | apply Ev.ite_st | apply Ev.done | apply Ev.fail | apply Res.done_ev | apply Res.fail_ev | apply State.setGate_ev | apply State.setTab_ev
    | refine fun _ => ?_
    | ((try lift_lets); intro u; first | (refine Ev.cut (z := z) u ?_ ?_; (subst u); rotate_left; clear_value u; intro _) | (refine Ev.cut (z := z) u.st ?_ ?_; (subst u); rotate_left; clear_value u; intro _) | (refine Ev.cut (z := z) u.1 ?_ ?_; (subst u); rotate_left; clear_value u; intro _) | ((have _ := fun x => u x); subst u) | clear_value u)
    | dsimp only
    | (with_reducible apply Ev.fst; assumption)
    | split

theorem execCancelPending_ev {z : State} (w : SessionNo) (p : PortNo) (s : State) (hs : Ev z s) : EvN z (execCancelPending w p s) := by
  unfold execCancelPending
  repeat' first
    | with_reducible first | assumption | apply EvN.next | apply EvN.res | apply State.hostWrite_ev | apply cancelPendingEffect_ev

theorem State.pendList_ev {z : State} (s : State) (p : Nat) (nl : Option GateList) (swap : Nat) (done : State → State) (hs : Ev z s) (hdone : ∀ u , Ev z u → Ev z (done u )) : Ev z (State.pendList s p nl swap done).st := by
  unfold State.pendList
  repeat' first
    | with_reducible first | assumption | apply Ev.ite | apply Ev.ite_st | apply Ev.fail | apply Res.done_ev | apply Res.fail_ev | apply State.evaluated_ev | apply State.setGate_ev | apply State.setReg_ev | apply hdone
    | refine fun _ => ?_
    | ((try lift_lets); intro u; first | (refine Ev.cut (z := z) u ?_ ?_; (subst u); rotate_left; clear_value u; intro _) | (refine Ev.cut (z := z) u.st ?_ ?_; (subst u); rotate_left; clear_value u; intro _) | (refine Ev.cut (z := z) u.1 ?_ ?_; (subst u); rotate_left; clear_value u; intro _) | ((have _ := fun x => u x); subst u) | clear_value u)
    | dsimp only

theorem removeListEffect_ev {z : State} (p v : Nat) (s : State) (hs : Ev z s) : Ev z (removeListEffect p v s).st := by
  unfold removeListEffect
  repeat' first
    | with_reducible first | assumption | apply Ev.ite | apply Ev.ite_st | apply Ev.id | apply Ev.done | apply Ev.fail | apply Res.done_ev | apply Res.fail_ev | apply State.pendList_ev
    | refine fun _ => ?_
    | dsimp only
    | (with_reducible apply Ev.fst; assumption)
    | split

theorem execRemoveList_ev {z : State} (w : SessionNo) (p : PortNo) (s : State) (hs : Ev z s) : EvN z (execRemoveList w p s) := by
  unfold execRemoveList
  repeat' first
    | with_reducible first | assumption | apply EvN.next | apply EvN.res | apply State.hostWrite_ev | apply removeListEffect_ev

theorem State.commitGateList_ev {z : State} (s : State) (g : Staging) (hs : Ev z s) : Ev z (State.commitGateList s g).st := by
  unfold State.commitGateList
  repeat' first
    | with_reducible first | assumption | apply Ev.ite | apply Ev.ite_st | apply Ev.fail | apply Res.fail_ev | apply State.count_ev | apply State.dropStaging_ev | apply State.pendList_ev
    | refine fun _ => ?_
    | ((try lift_lets); intro u; first | (refine Ev.cut (z := z) u ?_ ?_; (subst u); rotate_left; clear_value u; intro _) | (refine Ev.cut (z := z) u.st ?_ ?_; (subst u); rotate_left; clear_value u; intro _) | (refine Ev.cut (z := z) u.1 ?_ ?_; (subst u); rotate_left; clear_value u; intro _) | ((have _ := fun x => u x); subst u) | clear_value u)
    | dsimp only
    | (with_reducible apply Ev.fst; assumption)
    | split

theorem safeGatesEffect_ev {z : State} (p v : Nat) (s : State) (hs : Ev z s) : Ev z (safeGatesEffect p v s).st := by
  unfold safeGatesEffect
  repeat' first
    | with_reducible first | assumption | apply Ev.done | apply State.when_ev | apply Res.done_ev | apply State.setReg_ev
    | refine fun _ => ?_
    | ((try lift_lets); intro u; first | (refine Ev.cut (z := z) u ?_ ?_; (subst u); rotate_left; clear_value u; intro _) | (refine Ev.cut (z := z) u.st ?_ ?_; (subst u); rotate_left; clear_value u; intro _) | (refine Ev.cut (z := z) u.1 ?_ ?_; (subst u); rotate_left; clear_value u; intro _) | ((have _ := fun x => u x); subst u) | clear_value u)
    | dsimp only

end Sys2Proof.Machine
end

