-- ==== Sys2Proof/Laws/EvWindowCommit.lean ====
section
/-!
SUPPORT. The commands keep the invariants (Laws/Evolve.lean): the operations of Machine/WindowCommit.lean.
-/
namespace Sys2Proof.Machine

theorem State.commitGroups_ev {z : State} (s : State) (elems : SMap Nat) (hs : Ev z s) : Ev z (State.commitGroups s elems).st := by
  unfold State.commitGroups
  repeat' first
    | with_reducible first | assumption | apply Ev.ite | apply Ev.ite_st | apply Ev.done | apply Ev.fail | apply EmPlan.apply_ev | apply Res.done_ev | apply Res.fail_ev | apply State.applyElems_ev | apply State.evaluatedFit_ev | apply State.refreshResvs_ev
    | refine fun _ => ?_
    | ((try lift_lets); intro u; first | (refine Ev.cut (z := z) u ?_ ?_; (subst u); rotate_left; clear_value u; intro _) | (refine Ev.cut (z := z) u.st ?_ ?_; (subst u); rotate_left; clear_value u; intro _) | (refine Ev.cut (z := z) u.1 ?_ ?_; (subst u); rotate_left; clear_value u; intro _) | ((have _ := fun x => u x); subst u) | clear_value u)
    | dsimp only

theorem State.applyPolicer_ev {z : State} (s : State) (i v : Nat) (hs : Ev z s) : Ev z (State.applyPolicer s i v) := by
  unfold State.applyPolicer
  repeat' first
    | with_reducible first | assumption | apply Ev.ite | apply State.setElem_ev | apply State.setTab_ev
    | refine fun _ => ?_
    | ((try lift_lets); intro u; first | (refine Ev.cut (z := z) u ?_ ?_; (subst u); rotate_left; clear_value u; intro _) | (refine Ev.cut (z := z) u.st ?_ ?_; (subst u); rotate_left; clear_value u; intro _) | (refine Ev.cut (z := z) u.1 ?_ ?_; (subst u); rotate_left; clear_value u; intro _) | ((have _ := fun x => u x); subst u) | clear_value u)

theorem State.commitPolicers_ev {z : State} (s : State) (elems : SMap Nat) (hs : Ev z s) : Ev z (State.commitPolicers s elems).st := by
  unfold State.commitPolicers
  repeat' first
    | with_reducible first | assumption | apply Ev.ite | apply Ev.ite_st | apply Ev.done | apply Ev.fail | apply State.forAll_ev | apply Res.done_ev | apply Res.fail_ev | apply State.applyPolicer_ev | apply State.bump_ev | apply State.rejected_ev
    | refine fun _ => ?_
    | dsimp only
    | (with_reducible apply Ev.fst; assumption)
    | split

theorem State.applyCb_ev {z : State} (s : State) (i v : Nat) (hs : Ev z s) : Ev z (State.applyCb s i v) := by
  unfold State.applyCb
  repeat' first
    | with_reducible first | assumption | apply Ev.ite | apply State.when_ev | apply State.resetHistory_ev | apply State.setElem_ev
    | refine fun _ => ?_
    | ((try lift_lets); intro u; first | (refine Ev.cut (z := z) u ?_ ?_; (subst u); rotate_left; clear_value u; intro _) | (refine Ev.cut (z := z) u.st ?_ ?_; (subst u); rotate_left; clear_value u; intro _) | (refine Ev.cut (z := z) u.1 ?_ ?_; (subst u); rotate_left; clear_value u; intro _) | ((have _ := fun x => u x); subst u) | clear_value u)
    | dsimp only

theorem State.writeWords4_ev {z : State} (s : State) (base : Nat) (elems : SMap Nat) (hs : Ev z s) : Ev z (State.writeWords4 s base elems) := by
  unfold State.writeWords4
  repeat' first
    | with_reducible first | assumption | apply State.forAll_ev | apply State.setBytes_ev
    | refine fun _ => ?_
    | dsimp only

theorem State.commitPool_ev {z : State} (s : State) (p k : Nat) (elems : SMap Nat) (lost : List Nat) (hs : Ev z s) : Ev z (State.commitPool s p k elems lost).st := by
  unfold State.commitPool
  repeat' first
    | with_reducible first | assumption | apply Ev.ite | apply Ev.ite_st | apply Ev.done | apply Ev.fail | apply State.forAll_ev | apply Res.done_ev | apply Res.fail_ev | apply State.count_ev | apply State.ownerAccess_ev | apply State.writeWords4_ev
    | refine fun _ => ?_
    | ((try lift_lets); intro u; first | (refine Ev.cut (z := z) u ?_ ?_; (subst u); rotate_left; clear_value u; intro _) | (refine Ev.cut (z := z) u.st ?_ ?_; (subst u); rotate_left; clear_value u; intro _) | (refine Ev.cut (z := z) u.1 ?_ ?_; (subst u); rotate_left; clear_value u; intro _) | ((have _ := fun x => u x); subst u) | clear_value u)
    | dsimp only
    | (with_reducible apply Ev.fst; assumption)
    | split

theorem State.commitPlain_ev {z : State} (s : State) (g : Staging) (bad : Nat → Bool) (hs : Ev z s) : Ev z (State.commitPlain s g bad).st := by
  unfold State.commitPlain
  repeat' first
    | with_reducible first | assumption | apply Ev.ite | apply Ev.ite_st | apply Ev.done | apply Ev.fail | apply Res.done_ev | apply Res.fail_ev | apply State.applyElems_ev
    | refine fun _ => ?_
    | dsimp only

theorem State.commitChapter_ev {z : State} (s : State) (g : Staging) (posts : List (Nat × Nat)) (lost : List Nat) (hs : Ev z s) : Ev z (State.commitChapter s g posts lost).st := by
  unfold State.commitChapter
  repeat' first
    | with_reducible first | assumption | apply Ev.ite | apply Ev.ite_st | apply Ev.done | apply Ev.fail | apply State.forAll_ev | apply Res.done_ev | apply Res.fail_ev | apply State.applyCb_ev | apply State.applyElems_ev | apply State.bump_ev | apply State.commitAttr_ev | apply State.commitEm_ev | apply State.commitGateList_ev | apply State.commitGroups_ev | apply State.commitNodes_ev | apply State.commitPlain_ev | apply State.commitPolicers_ev | apply State.commitPool_ev | apply State.commitResv_ev | apply State.commitRules_ev | apply State.commitSlots_ev | apply State.commitSpread_ev | apply State.requestedSwitches_ev | apply State.switchBank_ev | apply State.writeWords4_ev | apply commitCounters_ev | apply commitIntConfig_ev
    | refine fun _ => ?_
    | ((try lift_lets); intro u; first | (refine Ev.cut (z := z) u ?_ ?_; (subst u); rotate_left; clear_value u; intro _) | (refine Ev.cut (z := z) u.st ?_ ?_; (subst u); rotate_left; clear_value u; intro _) | (refine Ev.cut (z := z) u.1 ?_ ?_; (subst u); rotate_left; clear_value u; intro _) | ((have _ := fun x => u x); subst u) | clear_value u)
    | dsimp only

theorem State.commitStaging_ev {z : State} (s : State) (g : Staging) (posts : List (Nat × Nat)) (lost : List Nat) (hs : Ev z s) : Ev z (State.commitStaging s g posts lost).st := by
  unfold State.commitStaging
  repeat' first
    | with_reducible first | assumption | apply Ev.ite | apply Ev.ite_st | apply State.commitApplied_ev | apply State.commitChapter_ev | apply State.dropStaging_ev | apply State.setReg_ev
    | refine fun _ => ?_
    | ((try lift_lets); intro u; first | (refine Ev.cut (z := z) u ?_ ?_; (subst u); rotate_left; clear_value u; intro _) | (refine Ev.cut (z := z) u.st ?_ ?_; (subst u); rotate_left; clear_value u; intro _) | (refine Ev.cut (z := z) u.1 ?_ ?_; (subst u); rotate_left; clear_value u; intro _) | ((have _ := fun x => u x); subst u) | clear_value u)
    | dsimp only

end Sys2Proof.Machine
end

