-- ==== Sys2Proof/Laws/EvWindows.lean ====
section
/-!
SUPPORT. The commands keep the invariants (Laws/Evolve.lean): the operations of Machine/Windows.lean.
-/
namespace Sys2Proof.Machine

theorem State.endLatch_ev {z : State} (s : State) (session idx : Nat) (hs : Ev z s) : Ev z (State.endLatch s session idx) := by
  unfold State.endLatch
  repeat' first
    | with_reducible first | assumption | apply Ev.ite | apply State.dropHistLatch_ev | apply State.dropLatch_ev
    | refine fun _ => ?_

theorem rangeEffect_ev {z : State} (session idx which v : Nat) (s : State) (hs : Ev z s) : Ev z (rangeEffect session idx which v s).st := by
  unfold rangeEffect
  repeat' first
    | with_reducible first | assumption | apply Ev.ite | apply Ev.ite_st | apply Ev.done | apply Ev.fail | apply Res.done_ev | apply Res.fail_ev | apply State.endLatch_ev | apply State.putStaging_ev | apply State.setTab_ev
    | refine fun _ => ?_
    | ((try lift_lets); intro u; first | (refine Ev.cut (z := z) u ?_ ?_; (subst u); rotate_left; clear_value u; intro _) | (refine Ev.cut (z := z) u.st ?_ ?_; (subst u); rotate_left; clear_value u; intro _) | (refine Ev.cut (z := z) u.1 ?_ ?_; (subst u); rotate_left; clear_value u; intro _) | ((have _ := fun x => u x); subst u) | clear_value u)
    | dsimp only
    | (with_reducible apply Ev.fst; assumption)
    | split

theorem stageEffect_ev {z : State} (session idx off : Nat) (data : Bytes) (s : State) (hs : Ev z s) : Ev z (stageEffect session idx off data s).st := by
  unfold stageEffect
  repeat' first
    | with_reducible first | assumption | apply Ev.ite | apply Ev.ite_st | apply Ev.done | apply Ev.fail | apply Pass.drop_ev | apply Pass.put_ev | apply Res.done_ev | apply Res.fail_ev | apply State.count_ev | apply State.drop_ev | apply State.putStaging_ev
    | refine fun _ => ?_
    | ((try lift_lets); intro u; first | (refine Ev.cut (z := z) u ?_ ?_; (subst u); rotate_left; clear_value u; intro _) | (refine Ev.cut (z := z) u.st ?_ ?_; (subst u); rotate_left; clear_value u; intro _) | (refine Ev.cut (z := z) u.1 ?_ ?_; (subst u); rotate_left; clear_value u; intro _) | ((have _ := fun x => u x); subst u) | clear_value u)
    | dsimp only
    | (with_reducible apply Ev.fst; assumption)
    | split

theorem stageOwnEffect_ev {z : State} (session idx sub v : Nat) (s : State) (hs : Ev z s) : Ev z (stageOwnEffect session idx sub v s).st := by
  unfold stageOwnEffect
  repeat' first
    | with_reducible first | assumption | apply Ev.ite | apply Ev.ite_st | apply Ev.done | apply Ev.fail | apply Res.done_ev | apply Res.fail_ev | apply State.putStaging_ev
    | refine fun _ => ?_
    | ((try lift_lets); intro u; first | (refine Ev.cut (z := z) u ?_ ?_; (subst u); rotate_left; clear_value u; intro _) | (refine Ev.cut (z := z) u.st ?_ ?_; (subst u); rotate_left; clear_value u; intro _) | (refine Ev.cut (z := z) u.1 ?_ ?_; (subst u); rotate_left; clear_value u; intro _) | ((have _ := fun x => u x); subst u) | clear_value u)
    | dsimp only
    | (with_reducible apply Ev.fst; assumption)
    | split

theorem abortEffect_ev {z : State} (session idx v : Nat) (s : State) (hs : Ev z s) : Ev z (abortEffect session idx v s).st := by
  unfold abortEffect
  repeat' first
    | with_reducible first | assumption | apply Ev.ite | apply Ev.ite_st | apply Ev.done | apply Ev.fail | apply State.when_ev | apply Res.done_ev | apply Res.fail_ev | apply State.dropStaging_ev
    | refine fun _ => ?_
    | dsimp only
    | (with_reducible apply Ev.fst; assumption)
    | split

theorem windowCommitEffect_ev {z : State} (session idx : Nat) (posts : List (Nat × Nat)) (lost : List Nat) (s : State) (hs : Ev z s) : Ev z (windowCommitEffect session idx posts lost s).st := by
  unfold windowCommitEffect
  repeat' first
    | with_reducible first | assumption | apply Ev.ite | apply Ev.ite_st | apply Ev.done | apply Ev.fail | apply Res.done_ev | apply Res.fail_ev | apply State.commitStaging_ev | apply State.dropStaging_ev | apply State.setReg_ev
    | refine fun _ => ?_
    | dsimp only
    | (with_reducible apply Ev.fst; assumption)
    | split

theorem execStage_ev {z : State} (w : SessionNo) (window : Nat) (offset : Nat) (data : Bytes) (s : State) (hs : Ev z s) : EvN z (execStage w window offset data s) := by
  unfold execStage
  repeat' first
    | with_reducible first | assumption | apply Ev.ite | apply Ev.ite_st | apply EvN.ite | apply EvN.next | apply EvN.res | apply State.hostBlockWrite_ev | apply stageEffect_ev
    | refine fun _ => ?_
    | dsimp only
    | (with_reducible apply Ev.fst; assumption)
    | split

theorem execWindowRangeWrite_ev {z : State} (w : SessionNo) (window : Nat) (which : Nat) (value : Nat) (s : State) (hs : Ev z s) : EvN z (execWindowRangeWrite w window which value s) := by
  unfold execWindowRangeWrite
  repeat' first
    | with_reducible first | assumption | apply Ev.ite | apply Ev.ite_st | apply EvN.ite | apply EvN.next | apply EvN.res | apply State.hostWrite_ev | apply rangeEffect_ev
    | refine fun _ => ?_
    | dsimp only
    | (with_reducible apply Ev.fst; assumption)
    | split

theorem execAbort_ev {z : State} (w : SessionNo) (window : Nat) (s : State) (hs : Ev z s) : EvN z (execAbort w window s) := by
  unfold execAbort
  repeat' first
    | with_reducible first | assumption | apply Ev.ite | apply Ev.ite_st | apply EvN.ite | apply EvN.next | apply EvN.res | apply State.hostWrite_ev | apply abortEffect_ev
    | refine fun _ => ?_
    | dsimp only
    | (with_reducible apply Ev.fst; assumption)
    | split

end Sys2Proof.Machine
end

