-- ==== Sys2Proof/Laws/EvReads.lean ====
section
/-!
SUPPORT. The commands keep the invariants (Laws/Evolve.lean): the operations of Machine/Reads.lean.
-/
namespace Sys2Proof.Machine


theorem State.liveTouched_ev {z : State} (s : State) (idx t : Nat) (elems : List Nat) (hs : Ev z s) : Ev z (State.liveTouched s idx t elems) := by
  unfold State.liveTouched
  repeat' first
    | with_reducible first | assumption | apply Ev.ite | apply State.forAll_ev | apply State.drew_ev | apply State.ownerAccess_ev
    | refine fun _ => ?_
    | dsimp only

theorem windowReadEffect_ev {z : State} (session idx off len : Nat) (live : Bool) (s : State) (hs : Ev z s) : Ev z (windowReadEffect session idx off len live s).st := by
  unfold windowReadEffect
  repeat' first
    | with_reducible first | assumption | apply Ev.ite | apply Ev.ite_st | apply Ev.done | apply Ev.fail | apply Res.done_ev | apply Res.fail_ev | apply State.liveTouched_ev
    | refine fun _ => ?_
    | ((try lift_lets); intro u; first | (refine Ev.cut (z := z) u ?_ ?_; (subst u); rotate_left; clear_value u; intro _) | (refine Ev.cut (z := z) u.st ?_ ?_; (subst u); rotate_left; clear_value u; intro _) | (refine Ev.cut (z := z) u.1 ?_ ?_; (subst u); rotate_left; clear_value u; intro _) | ((have _ := fun x => u x); subst u) | clear_value u)
    | dsimp only
    | (with_reducible apply Ev.fst; assumption)
    | split

theorem State.valueDrawn_ev {z : State} (s : State) (idx sub : Nat) (hs : Ev z s) : Ev z (State.valueDrawn s idx sub) := by
  unfold State.valueDrawn
  repeat' first
    | with_reducible first | assumption | apply Ev.ite | apply State.forAll_ev | apply State.drew_ev
    | refine fun _ => ?_
    | dsimp only

end Sys2Proof.Machine
end

