-- ==== Sys2Proof/Laws/EvCwords.lean ====
section
/-!
SUPPORT. The commands keep the invariants (Laws/Evolve.lean): the operations of Machine/Cwords.lean.
-/
namespace Sys2Proof.Machine

theorem State.completeProgram_ev {z : State} (s : State) (b v : Nat) (hs : Ev z s) : Ev z (State.completeProgram s b v) := by
  unfold State.completeProgram
  repeat' first
    | with_reducible first | assumption | apply State.becomeIdle_ev | apply State.endJob_ev | apply State.returnAtEnd_ev
    | ((try lift_lets); intro u; first | (refine Ev.cut (z := z) u ?_ ?_; (subst u); rotate_left; clear_value u; intro _) | (refine Ev.cut (z := z) u.st ?_ ?_; (subst u); rotate_left; clear_value u; intro _) | (refine Ev.cut (z := z) u.1 ?_ ?_; (subst u); rotate_left; clear_value u; intro _) | ((have _ := fun x => u x); subst u) | clear_value u)

theorem State.claimBench_ev {z : State} (s : State) (b : Nat) (hs : Ev z s) : Ev z (State.claimBench s b).1 := by
  unfold State.claimBench
  repeat' first
    | with_reducible first | assumption | apply State.claimSrc_ev
    | refine fun _ => ?_
    | dsimp only
    | (with_reducible apply Ev.fst; assumption)
    | split

theorem State.completeBy_ev {z : State} (s : State) (t v : Nat) (hs : Ev z s) : Ev z (State.completeBy s t v) := by
  unfold State.completeBy
  repeat' first
    | with_reducible first | assumption | apply Ev.ite | apply State.completeSrc_ev | apply State.countPlain_ev
    | refine fun _ => ?_
    | ((try lift_lets); intro u; first | (refine Ev.cut (z := z) u ?_ ?_; (subst u); rotate_left; clear_value u; intro _) | (refine Ev.cut (z := z) u.st ?_ ?_; (subst u); rotate_left; clear_value u; intro _) | (refine Ev.cut (z := z) u.1 ?_ ?_; (subst u); rotate_left; clear_value u; intro _) | ((have _ := fun x => u x); subst u) | clear_value u)

theorem State.cwValue_ev {z : State} (s0 s : State) (b k : Nat) (hs0 : Ev z s0) (hs : Ev z s) : Ev z (State.cwValue s0 s b k).1 := by
  unfold State.cwValue
  repeat' first
    | with_reducible first | assumption | apply Ev.ite | apply Ev.ite_fst | apply State.claimBench_ev
    | refine fun _ => ?_

theorem State.runCwRead_ev {z : State} (s0 s : State) (b k reg : Nat) (hs0 : Ev z s0) (hs : Ev z s) : Ev z (State.runCwRead s0 s b k reg) := by
  unfold State.runCwRead
  repeat' first
    | with_reducible first | assumption | apply State.cwValue_ev | apply State.setS_ev
    | ((try lift_lets); intro u; first | (refine Ev.cut (z := z) u ?_ ?_; (subst u); rotate_left; clear_value u; intro _) | (refine Ev.cut (z := z) u.st ?_ ?_; (subst u); rotate_left; clear_value u; intro _) | (refine Ev.cut (z := z) u.1 ?_ ?_; (subst u); rotate_left; clear_value u; intro _) | ((have _ := fun x => u x); subst u) | clear_value u)
    | (with_reducible apply Ev.fst; assumption)
    | split

theorem State.runCwWrite_ev {z : State} (s : State) (b k v : Nat) (hs : Ev z s) : Ev z (State.runCwWrite s b k v) := by
  unfold State.runCwWrite
  repeat' first
    | with_reducible first | assumption | apply State.arriveBarrier_ev | apply State.completeBy_ev | apply State.completeProgram_ev | apply State.setCw_ev | apply State.setMisc_ev | apply State.trigger_ev
    | ((try lift_lets); intro u; first | (refine Ev.cut (z := z) u ?_ ?_; (subst u); rotate_left; clear_value u; intro _) | (refine Ev.cut (z := z) u.st ?_ ?_; (subst u); rotate_left; clear_value u; intro _) | (refine Ev.cut (z := z) u.1 ?_ ?_; (subst u); rotate_left; clear_value u; intro _) | ((have _ := fun x => u x); subst u) | clear_value u)
    | dsimp only
    | (with_reducible apply Ev.fst; assumption)
    | split

theorem State.unitCwWrite_ev {z : State} (s : State) (b k v : Nat) (hs : Ev z s) : Ev z (State.unitCwWrite s b k v) := by
  unfold State.unitCwWrite
  repeat' first
    | with_reducible first | assumption | apply Ev.ite | apply State.runCwWrite_ev | apply State.trapBench_ev
    | refine fun _ => ?_
    | dsimp only
    | (with_reducible apply Ev.fst; assumption)
    | split

theorem State.unitCwRead_ev {z : State} (s : State) (b k reg : Nat) (hs : Ev z s) : Ev z (State.unitCwRead s b k reg) := by
  unfold State.unitCwRead
  repeat' first
    | with_reducible first | assumption | apply Ev.ite | apply State.runCwRead_ev | apply State.trapBench_ev
    | refine fun _ => ?_

theorem execCwordRead_ev {z : State} (b : BenchNo) (cw : Fin 32) (reg : SReg) (s : State) (hs : Ev z s) : EvN z (execCwordRead b cw reg s) := by
  unfold execCwordRead
  repeat' first
    | with_reducible first | assumption | apply EvN.done | apply Res.done_ev | apply State.unitCwRead_ev

theorem execCwordWrite_ev {z : State} (b : BenchNo) (cw : Fin 32) (value : Nat) (s : State) (hs : Ev z s) : EvN z (execCwordWrite b cw value s) := by
  unfold execCwordWrite
  repeat' first
    | with_reducible first | assumption | apply EvN.done | apply Res.done_ev | apply State.unitCwWrite_ev

theorem execComplete_ev {z : State} (b : BenchNo) (value : Nat) (s : State) (hs : Ev z s) : EvN z (execComplete b value s) := by
  unfold execComplete
  repeat' first
    | with_reducible first | assumption | apply EvN.done | apply Res.done_ev | apply State.unitCwWrite_ev
    | ((try lift_lets); intro u; first | (refine Ev.cut (z := z) u ?_ ?_; (subst u); rotate_left; clear_value u; intro _) | (refine Ev.cut (z := z) u.st ?_ ?_; (subst u); rotate_left; clear_value u; intro _) | (refine Ev.cut (z := z) u.1 ?_ ?_; (subst u); rotate_left; clear_value u; intro _) | ((have _ := fun x => u x); subst u) | clear_value u)

theorem execBarrier_ev {z : State} (b : BenchNo) (value : Nat) (s : State) (hs : Ev z s) : EvN z (execBarrier b value s) := by
  unfold execBarrier
  repeat' first
    | with_reducible first | assumption | apply EvN.done | apply Res.done_ev | apply State.unitCwWrite_ev

theorem execRaise_ev {z : State} (b : BenchNo) (s : State) (hs : Ev z s) : EvN z (execRaise b s) := by
  unfold execRaise
  repeat' first
    | with_reducible first | assumption | apply EvN.done | apply Res.done_ev | apply State.unitCwWrite_ev

theorem execIntClaim_ev {z : State} (b : BenchNo) (reg : SReg) (s : State) (hs : Ev z s) : EvN z (execIntClaim b reg s) := by
  unfold execIntClaim
  repeat' first
    | with_reducible first | assumption | apply EvN.done | apply Res.done_ev | apply State.unitCwRead_ev

theorem execIntComplete_ev {z : State} (b : BenchNo) (value : Nat) (s : State) (hs : Ev z s) : EvN z (execIntComplete b value s) := by
  unfold execIntComplete
  repeat' first
    | with_reducible first | assumption | apply EvN.done | apply Res.done_ev | apply State.unitCwWrite_ev
    | ((try lift_lets); intro u; first | (refine Ev.cut (z := z) u ?_ ?_; (subst u); rotate_left; clear_value u; intro _) | (refine Ev.cut (z := z) u.st ?_ ?_; (subst u); rotate_left; clear_value u; intro _) | (refine Ev.cut (z := z) u.1 ?_ ?_; (subst u); rotate_left; clear_value u; intro _) | ((have _ := fun x => u x); subst u) | clear_value u)

theorem execDictValue_ev {z : State} (b : BenchNo) (value : Nat) (s : State) (hs : Ev z s) : EvN z (execDictValue b value s) := by
  unfold execDictValue
  repeat' first
    | with_reducible first | assumption | apply EvN.done | apply Res.done_ev | apply State.unitCwWrite_ev

theorem execRxRing_ev {z : State} (b : BenchNo) (value : Nat) (s : State) (hs : Ev z s) : EvN z (execRxRing b value s) := by
  unfold execRxRing
  repeat' first
    | with_reducible first | assumption | apply EvN.done | apply Res.done_ev | apply State.unitCwWrite_ev

theorem execRxHead_ev {z : State} (b : BenchNo) (value : Nat) (s : State) (hs : Ev z s) : EvN z (execRxHead b value s) := by
  unfold execRxHead
  repeat' first
    | with_reducible first | assumption | apply EvN.done | apply Res.done_ev | apply State.unitCwWrite_ev

end Sys2Proof.Machine
end

