-- ==== Sys2Proof/Laws/EvMemUnit.lean ====
section
/-!
SUPPORT. The commands keep the invariants (Laws/Evolve.lean): the operations of Machine/MemUnit.lean.
-/
namespace Sys2Proof.Machine

/-- A state that is answered beside a value keeps them. -/
structure EvO (z : State) (o : Option (State × Nat)) : Prop where
  out : ∀ p, o = some p → Ev z p.1

theorem EvO.none {z : State} : EvO z .none := ⟨by rintro p ⟨⟩⟩
theorem EvO.some {z s : State} {n : Nat} (h : Ev z s) : EvO z (.some (s, n)) := ⟨by rintro p ⟨⟩; exact h⟩
theorem EvO.map {z s : State} {c : Option Nat} (h : Ev z s) : EvO z (c.map (fun c => (s, c))) := by
  cases c
  · exact EvO.none
  · exact EvO.some h

theorem State.poolError_ev {z s t : State} {b p n bad : Nat} (h : Ev z s) (e : s.poolError b p n bad = some t) : Ev z t := by
  unfold State.poolError at e
  split at e
  · cases e
  · cases e; exact State.faultBank_ev _ _ _ h

theorem State.poolTrap_ev {z : State} (s : State) (b p n : Nat) (e : BenchEnv) (hs : Ev z s) : EvO z (State.poolTrap s b p n e) := by
  unfold State.poolTrap
  split
  · exact EvO.some hs
  · split
    · next h => exact EvO.some (State.poolError_ev hs h)
    · exact EvO.none

theorem State.memTrap_ev {z : State} (s : State) (b : Nat) (o : MemOp) (x : MemSlot) (imm : Nat) (e : BenchEnv) (hs : Ev z s) :
    EvO z (State.memTrap s b o x imm e) := by
  unfold State.memTrap
  dsimp only
  repeat' first
    | with_reducible first | assumption | apply EvO.some | apply EvO.map | apply State.poolTrap_ev
    | split

theorem State.benchSlotWrite_ev {z : State} (s : State) (b n value quality srcSeq : Nat) (e : BenchEnv) (hs : Ev z s) : Ev z (State.benchSlotWrite s b n value quality srcSeq e) := by
  unfold State.benchSlotWrite
  repeat' first
    | with_reducible first | assumption | apply Ev.ite | apply State.count_ev | apply State.setStatus_ev | apply State.writeBench_ev
    | refine fun _ => ?_
    | ((try lift_lets); intro u; first | (refine Ev.cut (z := z) u ?_ ?_; (subst u); rotate_left; clear_value u; intro _) | (refine Ev.cut (z := z) u.st ?_ ?_; (subst u); rotate_left; clear_value u; intro _) | (refine Ev.cut (z := z) u.1 ?_ ?_; (subst u); rotate_left; clear_value u; intro _) | ((have _ := fun x => u x); subst u) | clear_value u)
    | (with_reducible apply Ev.fst; assumption)
    | split

theorem State.gatherEntry_ev {z : State} (s0 s : State) (b dst qdst w k slot : Nat) (hs0 : Ev z s0) (hs : Ev z s) : Ev z (State.gatherEntry s0 s b dst qdst w k slot) := by
  unfold State.gatherEntry
  repeat' first
    | with_reducible first | assumption | apply Ev.ite | apply State.setScratch_ev
    | refine fun _ => ?_
    | ((try lift_lets); intro u; first | (refine Ev.cut (z := z) u ?_ ?_; (subst u); rotate_left; clear_value u; intro _) | (refine Ev.cut (z := z) u.st ?_ ?_; (subst u); rotate_left; clear_value u; intro _) | (refine Ev.cut (z := z) u.1 ?_ ?_; (subst u); rotate_left; clear_value u; intro _) | ((have _ := fun x => u x); subst u) | clear_value u)

theorem State.runMem_ev {z : State} (s0 s : State) (b : Nat) (o : MemOp) (x : MemSlot) (imm : Nat) (e : BenchEnv) (hs0 : Ev z s0) (hs : Ev z s) : Ev z (State.runMem s0 s b o x imm e) := by
  unfold State.runMem
  repeat' first
    | with_reducible first | assumption | apply Ev.ite | apply State.forAll_ev | apply Pass.drop_ev | apply State.benchSlotWrite_ev | apply State.drop_ev | apply State.gatherEntry_ev | apply State.poolCounts_ev | apply State.putLoad_ev | apply State.setBytes_ev | apply State.setS_ev | apply State.setScratch_ev | apply State.setSendQueue_ev
    | refine fun _ => ?_
    | ((try lift_lets); intro u; first | (refine Ev.cut (z := z) u ?_ ?_; (subst u); rotate_left; clear_value u; intro _) | (refine Ev.cut (z := z) u.st ?_ ?_; (subst u); rotate_left; clear_value u; intro _) | (refine Ev.cut (z := z) u.1 ?_ ?_; (subst u); rotate_left; clear_value u; intro _) | ((have _ := fun x => u x); subst u) | clear_value u)
    | dsimp only
    | (with_reducible apply Ev.fst; assumption)
    | split

theorem State.unitMem_ev {z : State} (s : State) (b : Nat) (o : MemOp) (x : MemSlot) (imm : Nat) (e : BenchEnv) (hs : Ev z s) :
    Ev z (State.unitMem s b o x imm e) := by
  unfold State.unitMem
  split
  · exact hs
  · split
    · next h => exact State.trapBench_ev _ _ _ ((State.memTrap_ev s b o x imm e hs).out _ h)
    · exact State.runMem_ev _ _ _ _ _ _ _ hs hs

theorem execLd_ev {z : State} (b : BenchNo) (x : MemSlot) (imm : Fin 262144) (e : BenchEnv) (s : State) (hs : Ev z s) : EvN z (execLd b x imm e s) := by
  unfold execLd
  repeat' first
    | with_reducible first | assumption | apply EvN.done | apply Res.done_ev | apply State.unitMem_ev

theorem execSt_ev {z : State} (b : BenchNo) (x : MemSlot) (imm : Fin 262144) (e : BenchEnv) (s : State) (hs : Ev z s) : EvN z (execSt b x imm e s) := by
  unfold execSt
  repeat' first
    | with_reducible first | assumption | apply EvN.done | apply Res.done_ev | apply State.unitMem_ev

theorem execPld_ev {z : State} (b : BenchNo) (x : MemSlot) (imm : Fin 262144) (e : BenchEnv) (s : State) (hs : Ev z s) : EvN z (execPld b x imm e s) := by
  unfold execPld
  repeat' first
    | with_reducible first | assumption | apply EvN.done | apply Res.done_ev | apply State.unitMem_ev

theorem execPst_ev {z : State} (b : BenchNo) (x : MemSlot) (imm : Fin 262144) (e : BenchEnv) (s : State) (hs : Ev z s) : EvN z (execPst b x imm e s) := by
  unfold execPst
  repeat' first
    | with_reducible first | assumption | apply EvN.done | apply Res.done_ev | apply State.unitMem_ev

theorem execPmoveIn_ev {z : State} (b : BenchNo) (x : MemSlot) (imm : Fin 262144) (e : BenchEnv) (s : State) (hs : Ev z s) : EvN z (execPmoveIn b x imm e s) := by
  unfold execPmoveIn
  repeat' first
    | with_reducible first | assumption | apply EvN.done | apply Res.done_ev | apply State.unitMem_ev

theorem execPmoveOut_ev {z : State} (b : BenchNo) (x : MemSlot) (imm : Fin 262144) (e : BenchEnv) (s : State) (hs : Ev z s) : EvN z (execPmoveOut b x imm e s) := by
  unfold execPmoveOut
  repeat' first
    | with_reducible first | assumption | apply EvN.done | apply Res.done_ev | apply State.unitMem_ev

theorem execSread_ev {z : State} (b : BenchNo) (x : MemSlot) (imm : Fin 262144) (e : BenchEnv) (s : State) (hs : Ev z s) : EvN z (execSread b x imm e s) := by
  unfold execSread
  repeat' first
    | with_reducible first | assumption | apply EvN.done | apply Res.done_ev | apply State.unitMem_ev

theorem execSgather_ev {z : State} (b : BenchNo) (x : MemSlot) (imm : Fin 262144) (e : BenchEnv) (s : State) (hs : Ev z s) : EvN z (execSgather b x imm e s) := by
  unfold execSgather
  repeat' first
    | with_reducible first | assumption | apply EvN.done | apply Res.done_ev | apply State.unitMem_ev

theorem execSwrite_ev {z : State} (b : BenchNo) (x : MemSlot) (imm : Fin 262144) (e : BenchEnv) (s : State) (hs : Ev z s) : EvN z (execSwrite b x imm e s) := by
  unfold execSwrite
  repeat' first
    | with_reducible first | assumption | apply EvN.done | apply Res.done_ev | apply State.unitMem_ev

theorem execSscatter_ev {z : State} (b : BenchNo) (x : MemSlot) (imm : Fin 262144) (e : BenchEnv) (s : State) (hs : Ev z s) : EvN z (execSscatter b x imm e s) := by
  unfold execSscatter
  repeat' first
    | with_reducible first | assumption | apply EvN.done | apply Res.done_ev | apply State.unitMem_ev

theorem execFsend_ev {z : State} (b : BenchNo) (x : MemSlot) (imm : Fin 262144) (e : BenchEnv) (s : State) (hs : Ev z s) : EvN z (execFsend b x imm e s) := by
  unfold execFsend
  repeat' first
    | with_reducible first | assumption | apply EvN.done | apply Res.done_ev | apply State.unitMem_ev

theorem State.runTile_ev {z : State} (s0 s : State) (b t : Nat) (o : TileOp) (hs0 : Ev z s0) (hs : Ev z s) : Ev z (State.runTile s0 s b t o) := by
  unfold State.runTile
  repeat' first
    | with_reducible first | assumption | apply State.setScratch_ev | apply State.setT_ev | apply State.setTab_ev | apply State.setV_ev
    | refine fun _ => ?_
    | ((try lift_lets); intro u; first | (refine Ev.cut (z := z) u ?_ ?_; (subst u); rotate_left; clear_value u; intro _) | (refine Ev.cut (z := z) u.st ?_ ?_; (subst u); rotate_left; clear_value u; intro _) | (refine Ev.cut (z := z) u.1 ?_ ?_; (subst u); rotate_left; clear_value u; intro _) | ((have _ := fun x => u x); subst u) | clear_value u)
    | dsimp only
    | (with_reducible apply Ev.fst; assumption)
    | split

theorem State.unitTile_ev {z : State} (s : State) (b t : Nat) (o : TileOp) (e : BenchEnv) (hs : Ev z s) : Ev z (State.unitTile s b t o e) := by
  unfold State.unitTile
  repeat' first
    | with_reducible first | assumption | apply Ev.ite | apply State.runTile_ev | apply State.trapBench_ev
    | refine fun _ => ?_
    | dsimp only
    | (with_reducible apply Ev.fst; assumption)
    | split

theorem execTzero_ev {z : State} (b : BenchNo) (t : TReg) (s : State) (hs : Ev z s) : EvN z (execTzero b t s) := by
  unfold execTzero
  repeat' first
    | with_reducible first | assumption | apply EvN.done | apply Res.done_ev | apply State.unitTile_ev

theorem execTouter_ev {z : State} (b : BenchNo) (t : TReg) (va vb : VReg) (s : State) (hs : Ev z s) : EvN z (execTouter b t va vb s) := by
  unfold execTouter
  repeat' first
    | with_reducible first | assumption | apply EvN.done | apply Res.done_ev | apply State.unitTile_ev

theorem execTmma_ev {z : State} (b : BenchNo) (t : TReg) (ra rb rk : SReg) (e : BenchEnv) (s : State) (hs : Ev z s) : EvN z (execTmma b t ra rb rk e s) := by
  unfold execTmma
  repeat' first
    | with_reducible first | assumption | apply EvN.done | apply Res.done_ev | apply State.unitTile_ev

theorem execTread_ev {z : State} (b : BenchNo) (t : TReg) (row : Fin 8) (vd : VReg) (s : State) (hs : Ev z s) : EvN z (execTread b t row vd s) := by
  unfold execTread
  repeat' first
    | with_reducible first | assumption | apply EvN.done | apply Res.done_ev | apply State.unitTile_ev

theorem execTstore_ev {z : State} (b : BenchNo) (t : TReg) (ra : SReg) (e : BenchEnv) (s : State) (hs : Ev z s) : EvN z (execTstore b t ra e s) := by
  unfold execTstore
  repeat' first
    | with_reducible first | assumption | apply EvN.done | apply Res.done_ev | apply State.unitTile_ev

end Sys2Proof.Machine
end

