-- ==== Sys2Proof/Laws/EvMicro.lean ====
section
/-!
SUPPORT. The commands keep the invariants (Laws/Evolve.lean): the operations of Machine/Micro.lean.
-/
namespace Sys2Proof.Machine

theorem State.correctBench_ev {z : State} (s : State) (b : Nat) (hs : Ev z s) : Ev z (State.correctBench s b) := by
  unfold State.correctBench
  repeat' first
    | with_reducible first | assumption | apply State.count_ev

theorem State.loseBenchWord_ev {z : State} (s : State) (b i : Nat) (hs : Ev z s) : Ev z (State.loseBenchWord s b i) := by
  unfold State.loseBenchWord
  repeat' first
    | with_reducible first | assumption | apply State.count_ev | apply State.event_ev | apply State.refreshMicrocode_ev | apply State.setTab_ev
    | ((try lift_lets); intro u; first | (refine Ev.cut (z := z) u ?_ ?_; (subst u); rotate_left; clear_value u; intro _) | (refine Ev.cut (z := z) u.st ?_ ?_; (subst u); rotate_left; clear_value u; intro _) | (refine Ev.cut (z := z) u.1 ?_ ?_; (subst u); rotate_left; clear_value u; intro _) | ((have _ := fun x => u x); subst u) | clear_value u)

theorem State.fetchMicro_ev {z : State} (s : State) (b : Nat) (e : BenchEnv) (hs : Ev z s) : Ev z (State.fetchMicro s b e).1 := by
  unfold State.fetchMicro
  repeat' first
    | with_reducible first | assumption | apply Ev.ite | apply Ev.ite_fst | apply State.when_ev | apply State.correctBench_ev | apply State.loseBenchWord_ev
    | refine fun _ => ?_
    | ((try lift_lets); intro u; first | (refine Ev.cut (z := z) u ?_ ?_; (subst u); rotate_left; clear_value u; intro _) | (refine Ev.cut (z := z) u.st ?_ ?_; (subst u); rotate_left; clear_value u; intro _) | (refine Ev.cut (z := z) u.1 ?_ ?_; (subst u); rotate_left; clear_value u; intro _) | ((have _ := fun x => u x); subst u) | clear_value u)
    | dsimp only
    | (with_reducible apply Ev.fst; assumption)
    | split

theorem State.fetchNano_ev {z : State} (s : State) (b a : Nat) (e : BenchEnv) (hs : Ev z s) : Ev z (State.fetchNano s b a e).1 := by
  unfold State.fetchNano
  repeat' first
    | with_reducible first | assumption | apply Ev.ite | apply Ev.ite_fst | apply State.when_ev | apply State.correctBench_ev | apply State.loseBenchWord_ev
    | refine fun _ => ?_
    | ((try lift_lets); intro u; first | (refine Ev.cut (z := z) u ?_ ?_; (subst u); rotate_left; clear_value u; intro _) | (refine Ev.cut (z := z) u.st ?_ ?_; (subst u); rotate_left; clear_value u; intro _) | (refine Ev.cut (z := z) u.1 ?_ ?_; (subst u); rotate_left; clear_value u; intro _) | ((have _ := fun x => u x); subst u) | clear_value u)
    | dsimp only
    | (with_reducible apply Ev.fst; assumption)
    | split

theorem State.advance_ev {z : State} (s : State) (b : Nat) (hs : Ev z s) : Ev z (State.advance s b) := by
  unfold State.advance
  repeat' first
    | with_reducible first | assumption | apply State.setLoopStack_ev | apply State.setReg_ev
    | ((try lift_lets); intro u; first | (refine Ev.cut (z := z) u ?_ ?_; (subst u); rotate_left; clear_value u; intro _) | (refine Ev.cut (z := z) u.st ?_ ?_; (subst u); rotate_left; clear_value u; intro _) | (refine Ev.cut (z := z) u.1 ?_ ?_; (subst u); rotate_left; clear_value u; intro _) | ((have _ := fun x => u x); subst u) | clear_value u)

theorem State.jumpTo_ev {z : State} (s : State) (b target : Nat) (hs : Ev z s) : Ev z (State.jumpTo s b target) := by
  unfold State.jumpTo
  repeat' first
    | with_reducible first | assumption | apply Ev.ite | apply State.setLoopStack_ev | apply State.setReg_ev
    | refine fun _ => ?_
    | ((try lift_lets); intro u; first | (refine Ev.cut (z := z) u ?_ ?_; (subst u); rotate_left; clear_value u; intro _) | (refine Ev.cut (z := z) u.st ?_ ?_; (subst u); rotate_left; clear_value u; intro _) | (refine Ev.cut (z := z) u.1 ?_ ?_; (subst u); rotate_left; clear_value u; intro _) | ((have _ := fun x => u x); subst u) | clear_value u)
    | dsimp only
    | (with_reducible apply Ev.fst; assumption)
    | split

theorem State.nanoTrap_ev {z : State} (s : State) (b : Nat) (n : Nano) (imm : Nat) (e : BenchEnv) (hs : Ev z s) :
    EvO z (State.nanoTrap s b n imm e) := by
  unfold State.nanoTrap
  have hm : EvO z (match n.memory with | some (o, x) => s.memTrap b o x imm e | none => none) := by
    split
    · exact State.memTrap_ev _ _ _ _ _ _ hs
    · exact EvO.none
  refine ⟨fun p hp => ?_⟩
  split at hp
  · next h => cases hp; exact hm.out _ h
  · split at hp
    · cases hp; exact hs
    · split at hp
      · exact (EvO.map hs).out _ hp
      · cases hp

theorem State.runNano_ev {z : State} (s0 s : State) (b : Nat) (n : Nano) (imm : Nat) (e : BenchEnv) (hs0 : Ev z s0) (hs : Ev z s) : Ev z (State.runNano s0 s b n imm e) := by
  unfold State.runNano
  repeat' first
    | with_reducible first | assumption | apply State.forAll_ev | apply State.runCwRead_ev | apply State.runCwWrite_ev | apply State.runMem_ev | apply State.runScalar_ev | apply State.runTile_ev | apply State.runVector_ev
    | refine fun _ => ?_
    | ((try lift_lets); intro u; first | (refine Ev.cut (z := z) u ?_ ?_; (subst u); rotate_left; clear_value u; intro _) | (refine Ev.cut (z := z) u.st ?_ ?_; (subst u); rotate_left; clear_value u; intro _) | (refine Ev.cut (z := z) u.1 ?_ ?_; (subst u); rotate_left; clear_value u; intro _) | ((have _ := fun x => u x); subst u) | clear_value u)
    | dsimp only
    | (with_reducible apply Ev.fst; assumption)
    | split

theorem State.issue_ev {z : State} (s : State) (b nano imm : Nat) (e : BenchEnv) (next : State → State) (hs : Ev z s)
    (hnext : ∀ u, Ev z u → Ev z (next u)) : Ev z (State.issue s b nano imm e next) := by
  unfold State.issue
  have hf := State.fetchNano_ev s b nano e hs
  split
  · next h => rw [h] at hf; exact State.trapBench_ev _ _ _ hf
  · next h =>
    rw [h] at hf
    dsimp only at hf
    split
    · exact hf
    · split
      · next h => exact State.trapBench_ev _ _ _ ((State.nanoTrap_ev _ _ _ _ _ hf).out _ h)
      · split
        · next h => exact Ev.fst h (State.askTiles_ev _ _ _ hf)
        · next h => have ha := Ev.fst h (State.askTiles_ev _ _ _ hf); exact State.runNano_ev _ _ _ _ _ _ ha (hnext _ ha)

theorem State.scrubRegs_ev {z : State} (s : State) (b : Nat) (hs : Ev z s) : Ev z (State.scrubRegs s b) := by
  unfold State.scrubRegs
  repeat' first
    | with_reducible first | assumption | apply State.forAll_ev | apply State.drew_ev | apply State.setS_ev | apply State.setT_ev | apply State.setTab_ev | apply State.setV_ev
    | refine fun _ => ?_
    | ((try lift_lets); intro u; first | (refine Ev.cut (z := z) u ?_ ?_; (subst u); rotate_left; clear_value u; intro _) | (refine Ev.cut (z := z) u.st ?_ ?_; (subst u); rotate_left; clear_value u; intro _) | (refine Ev.cut (z := z) u.1 ?_ ?_; (subst u); rotate_left; clear_value u; intro _) | ((have _ := fun x => u x); subst u) | clear_value u)
    | dsimp only

theorem State.routineEffect_ev {z : State} (s0 s : State) (b pc : Nat) (hs0 : Ev z s0) (hs : Ev z s) : Ev z (State.routineEffect s0 s b pc) := by
  unfold State.routineEffect
  repeat' first
    | with_reducible first | assumption | apply Ev.ite | apply Pass.replicate_ev | apply State.drew_ev | apply State.setS_ev | apply State.setScratch_ev
    | refine fun _ => ?_
    | ((try lift_lets); intro u; first | (refine Ev.cut (z := z) u ?_ ?_; (subst u); rotate_left; clear_value u; intro _) | (refine Ev.cut (z := z) u.st ?_ ?_; (subst u); rotate_left; clear_value u; intro _) | (refine Ev.cut (z := z) u.1 ?_ ?_; (subst u); rotate_left; clear_value u; intro _) | ((have _ := fun x => u x); subst u) | clear_value u)

theorem State.runRoutine_ev {z : State} (s : State) (b : Nat) (hs : Ev z s) : Ev z (State.runRoutine s b) := by
  unfold State.runRoutine
  repeat' first
    | with_reducible first | assumption | apply State.routineEffect_ev | apply State.scrubRegs_ev | apply State.setReg_ev | apply State.setRetStack_ev | apply State.trapBench_ev
    | ((try lift_lets); intro u; first | (refine Ev.cut (z := z) u ?_ ?_; (subst u); rotate_left; clear_value u; intro _) | (refine Ev.cut (z := z) u.st ?_ ?_; (subst u); rotate_left; clear_value u; intro _) | (refine Ev.cut (z := z) u.1 ?_ ?_; (subst u); rotate_left; clear_value u; intro _) | ((have _ := fun x => u x); subst u) | clear_value u)
    | dsimp only
    | (with_reducible apply Ev.fst; assumption)
    | split

theorem State.onMicro_ev {z : State} (s : State) (b : Nat) (e : BenchEnv) (f : State → Micro → Option State) (hs : Ev z s)
    (hf : ∀ u m t, Ev z u → f u m = some t → Ev z t) : EvN z (State.onMicro s b e f) := by
  unfold State.onMicro
  have h := State.fetchMicro_ev s b e hs
  split
  · exact EvN.next hs
  · split
    · exact EvN.next hs
    · next g =>
      rw [g] at h
      split
      · exact EvN.next hs
      · next g => exact EvN.done (hf _ _ _ h g)

theorem execExecMicroword_ev {z : State} (b : BenchNo) (e : BenchEnv) (s : State) (hs : Ev z s) : EvN z (execExecMicroword b e s) := by
  unfold execExecMicroword
  repeat' first
    | with_reducible first | assumption | apply Ev.ite | apply Ev.ite_st | apply EvN.ite | apply EvN.done | apply EvN.next | apply EvN.res | apply Res.done_ev | apply State.advance_ev | apply State.fetchMicro_ev | apply State.issue_ev | apply State.runRoutine_ev | apply State.trapBench_ev
    | refine fun _ => ?_
    | dsimp only
    | (with_reducible apply Ev.fst; assumption)
    | split

theorem execBranch_ev {z : State} (b : BenchNo) (e : BenchEnv) (s : State) (hs : Ev z s) : EvN z (execBranch b e s) := by
  unfold execBranch
  refine State.onMicro_ev _ _ _ _ hs fun u m t hu g => ?_
  try dsimp only at g
  repeat' first
    | with_reducible first | assumption | apply Ev.ite | apply State.advance_ev | apply State.jumpTo_ev | apply State.issue_ev | apply State.setReg_ev | apply State.trapBench_ev | apply State.setLoopStack_ev | apply State.setRetStack_ev | apply State.setSReg_ev
    | refine fun _ => ?_
    | (split at g)
    | (cases g; done)
    | (cases g)
    | split

theorem execNop_ev {z : State} (b : BenchNo) (e : BenchEnv) (s : State) (hs : Ev z s) : EvN z (execNop b e s) := by
  unfold execNop
  refine State.onMicro_ev _ _ _ _ hs fun u m t hu g => ?_
  try dsimp only at g
  repeat' first
    | with_reducible first | assumption | apply Ev.ite | apply State.advance_ev | apply State.jumpTo_ev | apply State.issue_ev | apply State.setReg_ev | apply State.trapBench_ev | apply State.setLoopStack_ev | apply State.setRetStack_ev | apply State.setSReg_ev
    | refine fun _ => ?_
    | (split at g)
    | (cases g; done)
    | (cases g)
    | split

theorem execJump_ev {z : State} (b : BenchNo) (e : BenchEnv) (s : State) (hs : Ev z s) : EvN z (execJump b e s) := by
  unfold execJump
  refine State.onMicro_ev _ _ _ _ hs fun u m t hu g => ?_
  try dsimp only at g
  repeat' first
    | with_reducible first | assumption | apply Ev.ite | apply State.advance_ev | apply State.jumpTo_ev | apply State.issue_ev | apply State.setReg_ev | apply State.trapBench_ev | apply State.setLoopStack_ev | apply State.setRetStack_ev | apply State.setSReg_ev
    | refine fun _ => ?_
    | (split at g)
    | (cases g; done)
    | (cases g)
    | split

theorem execCall_ev {z : State} (b : BenchNo) (e : BenchEnv) (s : State) (hs : Ev z s) : EvN z (execCall b e s) := by
  unfold execCall
  refine State.onMicro_ev _ _ _ _ hs fun u m t hu g => ?_
  try dsimp only at g
  repeat' first
    | with_reducible first | assumption | apply Ev.ite | apply State.advance_ev | apply State.jumpTo_ev | apply State.issue_ev | apply State.setReg_ev | apply State.trapBench_ev | apply State.setLoopStack_ev | apply State.setRetStack_ev | apply State.setSReg_ev
    | refine fun _ => ?_
    | (split at g)
    | (cases g; done)
    | (cases g)
    | split

theorem execRet_ev {z : State} (b : BenchNo) (e : BenchEnv) (s : State) (hs : Ev z s) : EvN z (execRet b e s) := by
  unfold execRet
  refine State.onMicro_ev _ _ _ _ hs fun u m t hu g => ?_
  try dsimp only at g
  repeat' first
    | with_reducible first | assumption | apply Ev.ite | apply State.advance_ev | apply State.jumpTo_ev | apply State.issue_ev | apply State.setReg_ev | apply State.trapBench_ev | apply State.setLoopStack_ev | apply State.setRetStack_ev | apply State.setSReg_ev
    | refine fun _ => ?_
    | (split at g)
    | (cases g; done)
    | (cases g)
    | split

theorem execLoop_ev {z : State} (b : BenchNo) (e : BenchEnv) (s : State) (hs : Ev z s) : EvN z (execLoop b e s) := by
  unfold execLoop
  refine State.onMicro_ev _ _ _ _ hs fun u m t hu g => ?_
  try dsimp only at g
  repeat' first
    | with_reducible first | assumption | apply Ev.ite | apply State.advance_ev | apply State.jumpTo_ev | apply State.issue_ev | apply State.setReg_ev | apply State.trapBench_ev | apply State.setLoopStack_ev | apply State.setRetStack_ev | apply State.setSReg_ev
    | refine fun _ => ?_
    | (split at g)
    | (cases g; done)
    | (cases g)
    | split

theorem execSync_ev {z : State} (b : BenchNo) (e : BenchEnv) (s : State) (hs : Ev z s) : EvN z (execSync b e s) := by
  unfold execSync
  refine State.onMicro_ev _ _ _ _ hs fun u m t hu g => ?_
  try dsimp only at g
  repeat' first
    | with_reducible first | assumption | apply Ev.ite | apply State.advance_ev | apply State.jumpTo_ev | apply State.issue_ev | apply State.setReg_ev | apply State.trapBench_ev | apply State.setLoopStack_ev | apply State.setRetStack_ev | apply State.setSReg_ev
    | refine fun _ => ?_
    | (split at g)
    | (cases g; done)
    | (cases g)
    | split

theorem execTrap_ev {z : State} (b : BenchNo) (e : BenchEnv) (s : State) (hs : Ev z s) : EvN z (execTrap b e s) := by
  unfold execTrap
  refine State.onMicro_ev _ _ _ _ hs fun u m t hu g => ?_
  try dsimp only at g
  repeat' first
    | with_reducible first | assumption | apply Ev.ite | apply State.advance_ev | apply State.jumpTo_ev | apply State.issue_ev | apply State.setReg_ev | apply State.trapBench_ev | apply State.setLoopStack_ev | apply State.setRetStack_ev | apply State.setSReg_ev
    | refine fun _ => ?_
    | (split at g)
    | (cases g; done)
    | (cases g)
    | split

theorem execLoadimmSet_ev {z : State} (b : BenchNo) (e : BenchEnv) (s : State) (hs : Ev z s) : EvN z (execLoadimmSet b e s) := by
  unfold execLoadimmSet
  refine State.onMicro_ev _ _ _ _ hs fun u m t hu g => ?_
  try dsimp only at g
  repeat' first
    | with_reducible first | assumption | apply Ev.ite | apply State.advance_ev | apply State.jumpTo_ev | apply State.issue_ev | apply State.setReg_ev | apply State.trapBench_ev | apply State.setLoopStack_ev | apply State.setRetStack_ev | apply State.setSReg_ev | apply State.setS_ev
    | refine fun _ => ?_
    | (split at g)
    | (cases g; done)
    | (cases g)
    | split

theorem execLoadimmShift_ev {z : State} (b : BenchNo) (e : BenchEnv) (s : State) (hs : Ev z s) : EvN z (execLoadimmShift b e s) := by
  unfold execLoadimmShift
  refine State.onMicro_ev _ _ _ _ hs fun u m t hu g => ?_
  try dsimp only at g
  repeat' first
    | with_reducible first | assumption | apply Ev.ite | apply State.advance_ev | apply State.jumpTo_ev | apply State.issue_ev | apply State.setReg_ev | apply State.trapBench_ev | apply State.setLoopStack_ev | apply State.setRetStack_ev | apply State.setSReg_ev | apply State.setS_ev
    | refine fun _ => ?_
    | (split at g)
    | (cases g; done)
    | (cases g)
    | split

end Sys2Proof.Machine
end

