-- ==== Sys2Proof/Laws/EvLoader.lean ====
section
/-!
SUPPORT. The commands keep the invariants (Laws/Evolve.lean): the operations of Machine/Loader.lean.
-/
namespace Sys2Proof.Machine

theorem packageEffect_ev {z : State} (l off : Nat) (data : Bytes) (s : State) (hs : Ev z s) : Ev z (packageEffect l off data s).st := by
  unfold packageEffect
  repeat' first
    | with_reducible first | assumption | apply Ev.ite | apply Ev.ite_st | apply Ev.done | apply Ev.fail | apply Res.done_ev | apply Res.fail_ev | apply State.setBytes_ev | apply State.setLoaderState_ev | apply State.setReg_ev
    | refine fun _ => ?_

theorem execPackage_ev {z : State} (w : SessionNo) (pipe : Bool) (offset : Nat) (data : Bytes) (s : State) (hs : Ev z s) : EvN z (execPackage w pipe offset data s) := by
  unfold execPackage
  repeat' first
    | with_reducible first | assumption | apply EvN.next | apply EvN.res | apply State.hostBlockWrite_ev | apply packageEffect_ev

theorem loaderCommandEffect_ev {z : State} (l v : Nat) (s : State) (hs : Ev z s) : Ev z (loaderCommandEffect l v s).st := by
  unfold loaderCommandEffect
  repeat' first
    | with_reducible first | assumption | apply Ev.ite | apply Ev.ite_st | apply Ev.done | apply Ev.fail | apply Res.done_ev | apply Res.fail_ev | apply State.discardPackage_ev | apply State.setLoaderState_ev | apply State.setLoaderTab_ev | apply State.setTab_ev
    | refine fun _ => ?_
    | ((try lift_lets); intro u; first | (refine Ev.cut (z := z) u ?_ ?_; (subst u); rotate_left; clear_value u; intro _) | (refine Ev.cut (z := z) u.st ?_ ?_; (subst u); rotate_left; clear_value u; intro _) | (refine Ev.cut (z := z) u.1 ?_ ?_; (subst u); rotate_left; clear_value u; intro _) | ((have _ := fun x => u x); subst u) | clear_value u)
    | dsimp only

theorem execLoad_ev {z : State} (w : SessionNo) (pipe : Bool) (s : State) (hs : Ev z s) : EvN z (execLoad w pipe s) := by
  unfold execLoad
  repeat' first
    | with_reducible first | assumption | apply EvN.next | apply EvN.res | apply State.hostWrite_ev | apply loaderCommandEffect_ev

theorem execLoadAbort_ev {z : State} (w : SessionNo) (pipe : Bool) (s : State) (hs : Ev z s) : EvN z (execLoadAbort w pipe s) := by
  unfold execLoadAbort
  repeat' first
    | with_reducible first | assumption | apply EvN.next | apply EvN.res | apply State.hostWrite_ev | apply loaderCommandEffect_ev

theorem State.holding_ev {z : State} (s : State) (b : Bytes) (f : State → State) (hs : Ev z s) (hf : ∀ u , Ev z u → Ev z (f u )) : Ev z (State.holding s b f) := by
  unfold State.holding
  repeat' first
    | with_reducible first | assumption | apply State.forAll_ev | apply State.setMisc_ev | apply hf
    | refine fun _ => ?_
    | ((try lift_lets); intro u; first | (refine Ev.cut (z := z) u ?_ ?_; (subst u); rotate_left; clear_value u; intro _) | (refine Ev.cut (z := z) u.st ?_ ?_; (subst u); rotate_left; clear_value u; intro _) | (refine Ev.cut (z := z) u.1 ?_ ?_; (subst u); rotate_left; clear_value u; intro _) | ((have _ := fun x => u x); subst u) | clear_value u)
    | dsimp only

theorem execLoadVerified_ev {z : State} (pipe : Bool) (s : State) (hs : Ev z s) : EvN z (execLoadVerified pipe s) := by
  unfold execLoadVerified
  repeat' first
    | with_reducible first | assumption | apply Ev.ite | apply Ev.ite_st | apply EvN.ite | apply EvN.done | apply EvN.next | apply EvN.res | apply Res.done_ev | apply State.applyPackage_ev | apply State.failPackage_ev | apply State.holding_ev | apply State.requestedSwitches_ev | apply State.setLoaderState_ev | apply State.setLoaderTab_ev | apply State.switchBank_ev
    | refine fun _ => ?_
    | ((try lift_lets); intro u; first | (refine Ev.cut (z := z) u ?_ ?_; (subst u); rotate_left; clear_value u; intro _) | (refine Ev.cut (z := z) u.st ?_ ?_; (subst u); rotate_left; clear_value u; intro _) | (refine Ev.cut (z := z) u.1 ?_ ?_; (subst u); rotate_left; clear_value u; intro _) | ((have _ := fun x => u x); subst u) | clear_value u)
    | dsimp only
    | (with_reducible apply Ev.fst; assumption)
    | split

theorem execPersistDone_ev {z : State} (pipe : Bool) (s : State) (hs : Ev z s) : EvN z (execPersistDone pipe s) := by
  unfold execPersistDone
  repeat' first
    | with_reducible first | assumption | apply Ev.ite | apply Ev.ite_st | apply EvN.ite | apply EvN.done | apply EvN.next | apply EvN.res | apply Res.done_ev | apply State.persistPackage_ev
    | refine fun _ => ?_

theorem execStoreScrub_ev {z : State} (pipes : Nat) (bays : List (Fin 16)) (s : State) (hs : Ev z s) : EvN z (execStoreScrub pipes bays s) := by
  unfold execStoreScrub
  repeat' first
    | with_reducible first | assumption | apply Ev.ite | apply Ev.ite_st | apply EvN.ite | apply EvN.done | apply EvN.next | apply EvN.res | apply State.forAll_ev | apply Res.done_ev | apply State.count_ev
    | refine fun _ => ?_
    | dsimp only

theorem execPipeWordRepair_ev {z : State} (pipe : Fin 128) (nano : Bool) (addr : Fin 16384) (clean : Bool) (s : State) (hs : Ev z s) : EvN z (execPipeWordRepair pipe nano addr clean s) := by
  unfold execPipeWordRepair
  repeat' first
    | with_reducible first | assumption | apply Ev.ite | apply Ev.ite_st | apply EvN.ite | apply EvN.done | apply EvN.next | apply EvN.res | apply State.forAll_ev | apply Res.done_ev | apply State.count_ev | apply State.loaderEvent_ev | apply State.logFault_ev | apply State.refreshMicrocode_ev | apply State.setTab_ev
    | refine fun _ => ?_
    | ((try lift_lets); intro u; first | (refine Ev.cut (z := z) u ?_ ?_; (subst u); rotate_left; clear_value u; intro _) | (refine Ev.cut (z := z) u.st ?_ ?_; (subst u); rotate_left; clear_value u; intro _) | (refine Ev.cut (z := z) u.1 ?_ ?_; (subst u); rotate_left; clear_value u; intro _) | ((have _ := fun x => u x); subst u) | clear_value u)
    | dsimp only

end Sys2Proof.Machine
end

