-- ==== Sys2Proof/Laws/EvPower.lean ====
section
/-!
SUPPORT. The commands keep the invariants (Laws/Evolve.lean): the operations of Machine/Power.lean.
-/
namespace Sys2Proof.Machine

theorem State.setRating_ev {z : State} (s : State) (i : Nat) (b : Bool) (hs : Ev z s) : Ev z (State.setRating s i b) := by
  unfold State.setRating
  repeat' first
    | with_reducible first | assumption | apply State.refreshResvs_ev | apply State.setInput_ev | apply State.setReg_ev
    | ((try lift_lets); intro u; first | (refine Ev.cut (z := z) u ?_ ?_; (subst u); rotate_left; clear_value u; intro _) | (refine Ev.cut (z := z) u.st ?_ ?_; (subst u); rotate_left; clear_value u; intro _) | (refine Ev.cut (z := z) u.1 ?_ ?_; (subst u); rotate_left; clear_value u; intro _) | ((have _ := fun x => u x); subst u) | clear_value u)

theorem execSupplyOutOfRange_ev {z : State} (supply : Fin 6) (s : State) (hs : Ev z s) : EvN z (execSupplyOutOfRange supply s) := by
  unfold execSupplyOutOfRange
  repeat' first
    | with_reducible first | assumption | apply EvN.done | apply Res.done_ev | apply State.setRating_ev

theorem execSupplyBackInRange_ev {z : State} (supply : Fin 6) (s : State) (hs : Ev z s) : EvN z (execSupplyBackInRange supply s) := by
  unfold execSupplyBackInRange
  repeat' first
    | with_reducible first | assumption | apply EvN.done | apply Res.done_ev | apply State.setRating_ev

theorem State.refreshClock_ev {z : State} (s : State) (hs : Ev z s) : Ev z (State.refreshClock s) := by
  unfold State.refreshClock
  repeat' first
    | with_reducible first | assumption | apply State.setCause_ev

theorem State.refCheck_ev {z : State} (s : State) (ppm : Nat) (lost settled : Bool) (hs : Ev z s) : Ev z (State.refCheck s ppm lost settled) := by
  unfold State.refCheck
  repeat' first
    | with_reducible first | assumption | apply Ev.ite | apply State.event_ev | apply State.refreshClock_ev | apply State.setRating_ev | apply State.setReg_ev | apply State.setTab_ev
    | refine fun _ => ?_
    | ((try lift_lets); intro u; first | (refine Ev.cut (z := z) u ?_ ?_; (subst u); rotate_left; clear_value u; intro _) | (refine Ev.cut (z := z) u.st ?_ ?_; (subst u); rotate_left; clear_value u; intro _) | (refine Ev.cut (z := z) u.1 ?_ ?_; (subst u); rotate_left; clear_value u; intro _) | ((have _ := fun x => u x); subst u) | clear_value u)

theorem execRootHold_ev {z : State} (s : State) (hs : Ev z s) : EvN z (execRootHold s) := by
  unfold execRootHold
  repeat' first
    | with_reducible first | assumption | apply Ev.ite | apply Ev.ite_st | apply EvN.ite | apply EvN.done | apply EvN.next | apply EvN.res | apply Res.done_ev | apply State.event_ev | apply State.refreshClock_ev | apply State.setReg_ev | apply State.setTab_ev
    | refine fun _ => ?_
    | ((try lift_lets); intro u; first | (refine Ev.cut (z := z) u ?_ ?_; (subst u); rotate_left; clear_value u; intro _) | (refine Ev.cut (z := z) u.st ?_ ?_; (subst u); rotate_left; clear_value u; intro _) | (refine Ev.cut (z := z) u.1 ?_ ?_; (subst u); rotate_left; clear_value u; intro _) | ((have _ := fun x => u x); subst u) | clear_value u)

theorem execCrystalLost_ev {z : State} (s : State) (hs : Ev z s) : EvN z (execCrystalLost s) := by
  unfold execCrystalLost
  repeat' first
    | with_reducible first | assumption | apply Ev.ite | apply Ev.ite_st | apply EvN.ite | apply EvN.done | apply EvN.next | apply EvN.res | apply Res.done_ev | apply State.event_ev | apply State.refreshClock_ev | apply State.setReg_ev
    | refine fun _ => ?_

theorem execPmbAlert_ev {z : State} (rail : Fin 8) (ok : Bool) (status : Nat) (s : State) (hs : Ev z s) : EvN z (execPmbAlert rail ok status s) := by
  unfold execPmbAlert
  repeat' first
    | with_reducible first | assumption | apply Ev.ite | apply Ev.ite_st | apply EvN.ite | apply EvN.done | apply EvN.next | apply EvN.res | apply State.when_ev | apply Res.done_ev | apply State.commFailed_ev | apply State.commOk_ev | apply State.event_ev | apply State.setReg_ev
    | refine fun _ => ?_
    | ((try lift_lets); intro u; first | (refine Ev.cut (z := z) u ?_ ?_; (subst u); rotate_left; clear_value u; intro _) | (refine Ev.cut (z := z) u.st ?_ ?_; (subst u); rotate_left; clear_value u; intro _) | (refine Ev.cut (z := z) u.1 ?_ ?_; (subst u); rotate_left; clear_value u; intro _) | ((have _ := fun x => u x); subst u) | clear_value u)
    | dsimp only

theorem State.sampleRail_ev {z : State} (s : State) (x : RailRead) (hs : Ev z s) : Ev z (State.sampleRail s x) := by
  unfold State.sampleRail
  repeat' first
    | with_reducible first | assumption | apply Ev.ite | apply State.commFailed_ev | apply State.commOk_ev | apply State.setReg_ev | apply State.setTab_ev
    | refine fun _ => ?_
    | ((try lift_lets); intro u; first | (refine Ev.cut (z := z) u ?_ ?_; (subst u); rotate_left; clear_value u; intro _) | (refine Ev.cut (z := z) u.st ?_ ?_; (subst u); rotate_left; clear_value u; intro _) | (refine Ev.cut (z := z) u.1 ?_ ?_; (subst u); rotate_left; clear_value u; intro _) | ((have _ := fun x => u x); subst u) | clear_value u)

theorem execRailSample_ev {z : State} (reads : List RailRead) (s : State) (hs : Ev z s) : EvN z (execRailSample reads s) := by
  unfold execRailSample
  repeat' first
    | with_reducible first | assumption | apply EvN.done | apply State.forAll_ev | apply Res.done_ev | apply State.sampleRail_ev
    | refine fun _ => ?_

theorem State.setDie_ev {z : State} (s : State) (mv : Nat) (hs : Ev z s) : Ev z (State.setDie s mv) := by
  unfold State.setDie
  repeat' first
    | with_reducible first | assumption | apply State.setReg_ev

theorem execClockStretch_ev {z : State} (mv : Nat) (s : State) (hs : Ev z s) : EvN z (execClockStretch mv s) := by
  unfold execClockStretch
  repeat' first
    | with_reducible first | assumption | apply Ev.ite | apply Ev.ite_st | apply EvN.ite | apply EvN.done | apply EvN.next | apply EvN.res | apply Res.done_ev | apply State.bump_ev | apply State.setDie_ev | apply State.setTab_ev
    | refine fun _ => ?_
    | ((try lift_lets); intro u; first | (refine Ev.cut (z := z) u ?_ ?_; (subst u); rotate_left; clear_value u; intro _) | (refine Ev.cut (z := z) u.st ?_ ?_; (subst u); rotate_left; clear_value u; intro _) | (refine Ev.cut (z := z) u.1 ?_ ?_; (subst u); rotate_left; clear_value u; intro _) | ((have _ := fun x => u x); subst u) | clear_value u)

theorem execStretchEnd_ev {z : State} (mv edges : Nat) (s : State) (hs : Ev z s) : EvN z (execStretchEnd mv edges s) := by
  unfold execStretchEnd
  repeat' first
    | with_reducible first | assumption | apply Ev.ite | apply Ev.ite_st | apply EvN.ite | apply EvN.done | apply EvN.next | apply EvN.res | apply Res.done_ev | apply State.bump_ev | apply State.setDie_ev | apply State.setTab_ev
    | refine fun _ => ?_
    | ((try lift_lets); intro u; first | (refine Ev.cut (z := z) u ?_ ?_; (subst u); rotate_left; clear_value u; intro _) | (refine Ev.cut (z := z) u.st ?_ ?_; (subst u); rotate_left; clear_value u; intro _) | (refine Ev.cut (z := z) u.1 ?_ ?_; (subst u); rotate_left; clear_value u; intro _) | ((have _ := fun x => u x); subst u) | clear_value u)

theorem execUndervolt_ev {z : State} (mv : Nat) (s : State) (hs : Ev z s) : EvN z (execUndervolt mv s) := by
  unfold execUndervolt
  repeat' first
    | with_reducible first | assumption | apply Ev.ite | apply Ev.ite_st | apply EvN.ite | apply EvN.done | apply EvN.next | apply EvN.res | apply Res.done_ev | apply State.event_ev | apply State.setDie_ev
    | refine fun _ => ?_
    | ((try lift_lets); intro u; first | (refine Ev.cut (z := z) u ?_ ?_; (subst u); rotate_left; clear_value u; intro _) | (refine Ev.cut (z := z) u.st ?_ ?_; (subst u); rotate_left; clear_value u; intro _) | (refine Ev.cut (z := z) u.1 ?_ ?_; (subst u); rotate_left; clear_value u; intro _) | ((have _ := fun x => u x); subst u) | clear_value u)

theorem State.selfPrepare_ev {z : State} (s : State) (d : Nat) (hs : Ev z s) : Ev z (State.selfPrepare s d) := by
  unfold State.selfPrepare
  repeat' first
    | with_reducible first | assumption | apply State.lockPrepare_ev | apply State.setTab_ev

theorem State.throttleDown_ev {z : State} (s : State) (hs : Ev z s) : Ev z (State.throttleDown s) := by
  unfold State.throttleDown
  repeat' first
    | with_reducible first | assumption | apply Ev.ite | apply State.selfPrepare_ev
    | refine fun _ => ?_

theorem State.throttleUp_ev {z : State} (s : State) (hs : Ev z s) : Ev z (State.throttleUp s) := by
  unfold State.throttleUp
  repeat' first
    | with_reducible first | assumption | apply Ev.ite | apply State.selfPrepare_ev
    | refine fun _ => ?_

theorem State.readSensors_ev {z : State} (s : State) (temps : List Nat) (hs : Ev z s) : Ev z (State.readSensors s temps) := by
  unfold State.readSensors
  repeat' first
    | with_reducible first | assumption | apply Ev.ite | apply State.drew_ev | apply State.setReg_ev
    | refine fun _ => ?_
    | ((try lift_lets); intro u; first | (refine Ev.cut (z := z) u ?_ ?_; (subst u); rotate_left; clear_value u; intro _) | (refine Ev.cut (z := z) u.st ?_ ?_; (subst u); rotate_left; clear_value u; intro _) | (refine Ev.cut (z := z) u.1 ?_ ?_; (subst u); rotate_left; clear_value u; intro _) | ((have _ := fun x => u x); subst u) | clear_value u)
    | dsimp only

theorem State.judgeStall_ev {z : State} (s : State) (hs : Ev z s) : Ev z (State.judgeStall s) := by
  unfold State.judgeStall
  repeat' first
    | with_reducible first | assumption | apply Ev.ite | apply State.event_ev | apply State.setTab_ev
    | refine fun _ => ?_

theorem State.judgeThrottle_ev {z : State} (s : State) (before : Int) (cool : Bool) (hs : Ev z s) : Ev z (State.judgeThrottle s before cool) := by
  unfold State.judgeThrottle
  repeat' first
    | with_reducible first | assumption | apply Ev.ite | apply State.when_ev | apply State.event_ev | apply State.setTab_ev | apply State.throttleDown_ev
    | refine fun _ => ?_
    | ((try lift_lets); intro u; first | (refine Ev.cut (z := z) u ?_ ?_; (subst u); rotate_left; clear_value u; intro _) | (refine Ev.cut (z := z) u.st ?_ ?_; (subst u); rotate_left; clear_value u; intro _) | (refine Ev.cut (z := z) u.1 ?_ ?_; (subst u); rotate_left; clear_value u; intro _) | ((have _ := fun x => u x); subst u) | clear_value u)
    | dsimp only

theorem execThermalSample_ev {z : State} (temps : List Nat) (calm cool : Bool) (lost : Nat) (s : State) (hs : Ev z s) : EvN z (execThermalSample temps calm cool lost s) := by
  unfold execThermalSample
  repeat' first
    | with_reducible first | assumption | apply Ev.ite | apply Ev.ite_st | apply EvN.ite | apply EvN.done | apply State.when_ev | apply Res.done_ev | apply State.bump_ev | apply State.event_ev | apply State.judgeStall_ev | apply State.judgeThrottle_ev | apply State.readSensors_ev | apply State.refreshThrottle_ev | apply State.setInput_ev | apply State.setRating_ev | apply State.setReg_ev
    | refine fun _ => ?_
    | ((try lift_lets); intro u; first | (refine Ev.cut (z := z) u ?_ ?_; (subst u); rotate_left; clear_value u; intro _) | (refine Ev.cut (z := z) u.st ?_ ?_; (subst u); rotate_left; clear_value u; intro _) | (refine Ev.cut (z := z) u.1 ?_ ?_; (subst u); rotate_left; clear_value u; intro _) | ((have _ := fun x => u x); subst u) | clear_value u)
    | dsimp only

theorem execThrottleStep_ev {z : State} (s : State) (hs : Ev z s) : EvN z (execThrottleStep s) := by
  unfold execThrottleStep
  repeat' first
    | with_reducible first | assumption | apply Ev.ite | apply Ev.ite_st | apply EvN.ite | apply EvN.done | apply EvN.next | apply EvN.res | apply Res.done_ev | apply State.refreshThrottle_ev | apply State.throttleDown_ev | apply State.throttleUp_ev
    | refine fun _ => ?_

end Sys2Proof.Machine
end

