-- ==== Sys2Proof/Laws/EvSessions.lean ====
section
/-!
SUPPORT. The commands keep the invariants (Laws/Evolve.lean): the operations of Machine/Sessions.lean.
-/
namespace Sys2Proof.Machine

theorem State.beginClose_ev {z : State} (s : State) (n : Nat) (hs : Ev z s) : Ev z (State.beginClose s n) := by
  unfold State.beginClose
  repeat' first
    | with_reducible first | assumption | apply Ev.ite | apply State.setReg_ev
    | refine fun _ => ?_

theorem forceCloseEffect_ev {z : State} (v : Nat) (s : State) (hs : Ev z s) : Ev z (forceCloseEffect v s).st := by
  unfold forceCloseEffect
  repeat' first
    | with_reducible first | assumption | apply Ev.done | apply Res.done_ev | apply State.beginClose_ev

theorem execForceClose_ev {z : State} (w : SessionNo) (n : SessionNo) (s : State) (hs : Ev z s) : EvN z (execForceClose w n s) := by
  unfold execForceClose
  repeat' first
    | with_reducible first | assumption | apply EvN.next | apply EvN.res | apply State.hostWrite_ev | apply forceCloseEffect_ev

theorem execSessionIdleTimeout_ev {z : State} (n : SessionNo) (s : State) (hs : Ev z s) : EvN z (execSessionIdleTimeout n s) := by
  unfold execSessionIdleTimeout
  repeat' first
    | with_reducible first | assumption | apply EvN.done | apply Res.done_ev | apply State.beginClose_ev

theorem State.dropStagingsOf_ev {z : State} (s : State) (n : Nat) (hs : Ev z s) : Ev z (State.dropStagingsOf s n) := by
  unfold State.dropStagingsOf
  repeat' first
    | with_reducible first | assumption
    | refine fun _ => ?_
    | dsimp only
    | with_reducible apply Ev.upd

theorem State.freeSession_ev {z : State} (s : State) (n : Nat) (hs : Ev z s) : Ev z (State.freeSession s n) := by
  unfold State.freeSession
  repeat' first
    | with_reducible first | assumption | apply State.forAll_ev | apply State.dropStagingsOf_ev | apply State.resetReg_ev
    | refine fun _ => ?_
    | ((try lift_lets); intro u; first | (refine Ev.cut (z := z) u ?_ ?_; (subst u); rotate_left; clear_value u; intro _) | (refine Ev.cut (z := z) u.st ?_ ?_; (subst u); rotate_left; clear_value u; intro _) | (refine Ev.cut (z := z) u.1 ?_ ?_; (subst u); rotate_left; clear_value u; intro _) | ((have _ := fun x => u x); subst u) | clear_value u)
    | dsimp only
    | with_reducible apply Ev.upd

theorem execSessionCloseComplete_ev {z : State} (n : SessionNo) (s : State) (hs : Ev z s) : EvN z (execSessionCloseComplete n s) := by
  unfold execSessionCloseComplete
  repeat' first
    | with_reducible first | assumption | apply Ev.ite | apply Ev.ite_st | apply EvN.ite | apply EvN.done | apply EvN.next | apply EvN.res | apply State.forAll_ev | apply Res.done_ev | apply State.answerWatch_ev | apply State.freeSession_ev | apply State.reply_ev
    | refine fun _ => ?_
    | ((try lift_lets); intro u; first | (refine Ev.cut (z := z) u ?_ ?_; (subst u); rotate_left; clear_value u; intro _) | (refine Ev.cut (z := z) u.st ?_ ?_; (subst u); rotate_left; clear_value u; intro _) | (refine Ev.cut (z := z) u.1 ?_ ?_; (subst u); rotate_left; clear_value u; intro _) | ((have _ := fun x => u x); subst u) | clear_value u)
    | dsimp only
    | with_reducible apply Ev.upd

theorem execWatchTimeout_ev {z : State} (n : SessionNo) (tag : Nat) (s : State) (hs : Ev z s) : EvN z (execWatchTimeout n tag s) := by
  unfold execWatchTimeout
  repeat' first
    | with_reducible first | assumption | apply EvN.done | apply EvN.next | apply EvN.res | apply Res.done_ev | apply State.answerWatch_ev
    | refine fun _ => ?_
    | dsimp only
    | (with_reducible apply Ev.fst; assumption)
    | split

end Sys2Proof.Machine
end

