-- ==== Sys2Proof/Laws/EvWrites.lean ====
section
/-!
SUPPORT. The commands keep the invariants (Laws/Evolve.lean): the operations of Machine/Writes.lean.
-/
namespace Sys2Proof.Machine

theorem State.clearFlags_ev {z : State} (s : State) (idx sub v sets : Nat) (hs : Ev z s) : Ev z (State.clearFlags s idx sub v sets) := by
  unfold State.clearFlags
  repeat' first
    | with_reducible first | assumption | apply State.forAll_ev | apply State.event_ev | apply State.setReg_ev
    | refine fun _ => ?_
    | ((try lift_lets); intro u; first | (refine Ev.cut (z := z) u ?_ ?_; (subst u); rotate_left; clear_value u; intro _) | (refine Ev.cut (z := z) u.st ?_ ?_; (subst u); rotate_left; clear_value u; intro _) | (refine Ev.cut (z := z) u.1 ?_ ?_; (subst u); rotate_left; clear_value u; intro _) | ((have _ := fun x => u x); subst u) | clear_value u)
    | dsimp only
    | (with_reducible apply Ev.fst; assumption)
    | split

theorem State.clearAttention_ev {z : State} (s : State) (v : Nat) (hs : Ev z s) : Ev z (State.clearAttention s v) :=
  ⟨hs.pending, hs.regs, hs.tabs, hs.mem, fun h => hs.attn h⟩

theorem State.resized_ev {z : State} (s s' : State) (hs : Ev z s) (hs' : Ev z s') : Ev z (State.resized s s').st := by
  unfold State.resized
  repeat' first
    | with_reducible first | assumption | apply Ev.ite | apply Ev.ite_st | apply Ev.done | apply Ev.fail | apply Res.done_ev | apply Res.fail_ev
    | refine fun _ => ?_
    | ((try lift_lets); intro u; first | (refine Ev.cut (z := z) u ?_ ?_; (subst u); rotate_left; clear_value u; intro _) | (refine Ev.cut (z := z) u.st ?_ ?_; (subst u); rotate_left; clear_value u; intro _) | (refine Ev.cut (z := z) u.1 ?_ ?_; (subst u); rotate_left; clear_value u; intro _) | ((have _ := fun x => u x); subst u) | clear_value u)
    | dsimp only

theorem resvPoolEffect_ev {z : State} (v : Nat) (s : State) (hs : Ev z s) : Ev z (resvPoolEffect v s).st := by
  unfold resvPoolEffect
  repeat' first
    | with_reducible first | assumption | apply Ev.ite | apply Ev.ite_st | apply State.evaluated_ev | apply State.resized_ev | apply State.setReg_ev
    | refine fun _ => ?_
    | ((try lift_lets); intro u; first | (refine Ev.cut (z := z) u ?_ ?_; (subst u); rotate_left; clear_value u; intro _) | (refine Ev.cut (z := z) u.st ?_ ?_; (subst u); rotate_left; clear_value u; intro _) | (refine Ev.cut (z := z) u.1 ?_ ?_; (subst u); rotate_left; clear_value u; intro _) | ((have _ := fun x => u x); subst u) | clear_value u)
    | dsimp only

theorem State.judged_ev {z : State} (s : State) (c : Bool) (k v : Nat) (hs : Ev z s) : Ev z (State.judged s c k v).st := by
  unfold State.judged
  repeat' first
    | with_reducible first | assumption | apply Ev.ite | apply Ev.ite_st | apply State.store_ev | apply State.evaluated_ev | apply State.setReg_ev
    | refine fun _ => ?_
    | dsimp only

theorem portEffect_ev {z : State} (p sub v : Nat) (s : State) (hs : Ev z s) : Ev z (portEffect p sub v s).st := by
  unfold portEffect
  repeat' first
    | with_reducible first | assumption | apply Ev.ite | apply Ev.ite_st | apply Ev.done | apply Ev.fail | apply State.store_ev | apply Res.done_ev | apply Res.fail_ev | apply State.evaluatedFit_ev | apply State.judged_ev | apply State.refreshLink_ev | apply State.resized_ev | apply State.setReg_ev | apply linkResetEffect_ev
    | refine fun _ => ?_
    | ((try lift_lets); intro u; first | (refine Ev.cut (z := z) u ?_ ?_; (subst u); rotate_left; clear_value u; intro _) | (refine Ev.cut (z := z) u.st ?_ ?_; (subst u); rotate_left; clear_value u; intro _) | (refine Ev.cut (z := z) u.1 ?_ ?_; (subst u); rotate_left; clear_value u; intro _) | ((have _ := fun x => u x); subst u) | clear_value u)
    | dsimp only

theorem portBufferEffect_ev {z : State} (p sub v : Nat) (s : State) (hs : Ev z s) : Ev z (portBufferEffect p sub v s).st := by
  unfold portBufferEffect
  repeat' first
    | with_reducible first | assumption | apply Ev.ite | apply Ev.ite_st | apply Ev.done | apply State.store_ev | apply State.when_ev | apply Res.done_ev | apply State.downCopies_ev | apply State.judged_ev | apply State.setReg_ev
    | refine fun _ => ?_
    | ((try lift_lets); intro u; first | (refine Ev.cut (z := z) u ?_ ?_; (subst u); rotate_left; clear_value u; intro _) | (refine Ev.cut (z := z) u.st ?_ ?_; (subst u); rotate_left; clear_value u; intro _) | (refine Ev.cut (z := z) u.1 ?_ ?_; (subst u); rotate_left; clear_value u; intro _) | ((have _ := fun x => u x); subst u) | clear_value u)
    | dsimp only

theorem pfcEffect_ev {z : State} (p sub v : Nat) (s : State) (hs : Ev z s) : Ev z (pfcEffect p sub v s).st := by
  unfold pfcEffect
  repeat' first
    | with_reducible first | assumption | apply Ev.ite | apply Ev.ite_st | apply Ev.fail | apply State.store_ev | apply Res.fail_ev | apply State.judged_ev
    | refine fun _ => ?_
    | ((try lift_lets); intro u; first | (refine Ev.cut (z := z) u ?_ ?_; (subst u); rotate_left; clear_value u; intro _) | (refine Ev.cut (z := z) u.st ?_ ?_; (subst u); rotate_left; clear_value u; intro _) | (refine Ev.cut (z := z) u.1 ?_ ?_; (subst u); rotate_left; clear_value u; intro _) | ((have _ := fun x => u x); subst u) | clear_value u)

theorem hashEffect_ev {z : State} (h sub v : Nat) (s : State) (hs : Ev z s) : Ev z (hashEffect h sub v s).st := by
  unfold hashEffect
  repeat' first
    | with_reducible first | assumption | apply Ev.ite | apply Ev.ite_st | apply Ev.fail | apply State.store_ev | apply Res.fail_ev
    | refine fun _ => ?_
    | ((try lift_lets); intro u; first | (refine Ev.cut (z := z) u ?_ ?_; (subst u); rotate_left; clear_value u; intro _) | (refine Ev.cut (z := z) u.st ?_ ?_; (subst u); rotate_left; clear_value u; intro _) | (refine Ev.cut (z := z) u.1 ?_ ?_; (subst u); rotate_left; clear_value u; intro _) | ((have _ := fun x => u x); subst u) | clear_value u)

theorem treeEffect_ev {z : State} (t sub v : Nat) (s : State) (hs : Ev z s) : Ev z (treeEffect t sub v s).st := by
  unfold treeEffect
  repeat' first
    | with_reducible first | assumption | apply Ev.ite | apply Ev.ite_st | apply Ev.fail | apply State.store_ev | apply Res.fail_ev
    | refine fun _ => ?_

theorem timeEffect_ev {z : State} (runtime : Bool) (sub v : Nat) (s : State) (hs : Ev z s) : Ev z (timeEffect runtime sub v s).st := by
  unfold timeEffect
  repeat' first
    | with_reducible first | assumption | apply Ev.ite | apply Ev.ite_st | apply Ev.fail | apply State.store_ev | apply Res.fail_ev | apply State.judged_ev | apply measuredOffsetEffect_ev | apply offsetAdjEffect_ev | apply servoModeEffect_ev | apply setTimeEffect_ev
    | refine fun _ => ?_
    | ((try lift_lets); intro u; first | (refine Ev.cut (z := z) u ?_ ?_; (subst u); rotate_left; clear_value u; intro _) | (refine Ev.cut (z := z) u.st ?_ ?_; (subst u); rotate_left; clear_value u; intro _) | (refine Ev.cut (z := z) u.1 ?_ ?_; (subst u); rotate_left; clear_value u; intro _) | ((have _ := fun x => u x); subst u) | clear_value u)
    | dsimp only

theorem laneEffect_ev {z : State} (n sub v : Nat) (s : State) (hs : Ev z s) : Ev z (laneEffect n sub v s).st := by
  unfold laneEffect
  repeat' first
    | with_reducible first | assumption | apply Ev.ite | apply Ev.ite_st | apply Ev.done | apply Res.done_ev | apply State.setLane_ev | apply eyeStartEffect_ev | apply loopbackEffect_ev | apply prbsClearEffect_ev | apply prbsRxEffect_ev | apply prbsTxEffect_ev | apply retrainEffect_ev | apply tapEffect_ev | apply txEnableEffect_ev
    | refine fun _ => ?_

theorem mirrorEffect_ev {z : State} (m sub v : Nat) (s : State) (hs : Ev z s) : Ev z (mirrorEffect m sub v s).st := by
  unfold mirrorEffect
  repeat' first
    | with_reducible first | assumption | apply Ev.ite | apply Ev.ite_st | apply Ev.fail | apply State.store_ev | apply Res.fail_ev | apply State.count_ev
    | refine fun _ => ?_
    | ((try lift_lets); intro u; first | (refine Ev.cut (z := z) u ?_ ?_; (subst u); rotate_left; clear_value u; intro _) | (refine Ev.cut (z := z) u.st ?_ ?_; (subst u); rotate_left; clear_value u; intro _) | (refine Ev.cut (z := z) u.1 ?_ ?_; (subst u); rotate_left; clear_value u; intro _) | ((have _ := fun x => u x); subst u) | clear_value u)

theorem bankEffect_ev {z : State} (k sub v : Nat) (s : State) (hs : Ev z s) : Ev z (bankEffect k sub v s).st := by
  unfold bankEffect
  repeat' first
    | with_reducible first | assumption | apply Ev.ite | apply Ev.ite_st | apply Ev.fail | apply State.store_ev | apply Res.fail_ev | apply bankPartEffect_ev | apply handoverEffect_ev | apply serviceEffect_ev
    | refine fun _ => ?_

theorem loaderEffect_ev {z : State} (l sub v : Nat) (s : State) (hs : Ev z s) : Ev z (loaderEffect l sub v s).st := by
  unfold loaderEffect
  repeat' first
    | with_reducible first | assumption | apply Ev.ite | apply Ev.ite_st | apply Ev.fail | apply State.store_ev | apply Res.fail_ev | apply loaderCommandEffect_ev
    | refine fun _ => ?_

theorem dovetailEffect_ev {z : State} (sub v : Nat) (s : State) (hs : Ev z s) : Ev z (dovetailEffect sub v s).st := by
  unfold dovetailEffect
  repeat' first
    | with_reducible first | assumption | apply Ev.ite | apply Ev.ite_st | apply State.store_ev | apply dovetailPortsEffect_ev | apply heartbeatEffect_ev | apply revertEffect_ev | apply roleEffect_ev
    | refine fun _ => ?_

theorem lockstepEffect_ev {z : State} (sub v : Nat) (s : State) (hs : Ev z s) : Ev z (lockstepEffect sub v s).st := by
  unfold lockstepEffect
  repeat' first
    | with_reducible first | assumption | apply Ev.ite | apply Ev.ite_st | apply State.store_ev | apply commitEffect_ev | apply groupIdEffect_ev | apply lockAbortEffect_ev | apply prepareEffect_ev
    | refine fun _ => ?_

theorem cycleEffect_ev {z : State} (g sub v : Nat) (s : State) (hs : Ev z s) : Ev z (cycleEffect g sub v s).st := by
  unfold cycleEffect
  repeat' first
    | with_reducible first | assumption | apply Ev.ite | apply Ev.ite_st | apply State.store_ev | apply applyTimingEffect_ev | apply enableGroupEffect_ev | apply groupTimingEffect_ev
    | refine fun _ => ?_

theorem gatePortEffect_ev {z : State} (p sub v : Nat) (s : State) (hs : Ev z s) : Ev z (gatePortEffect p sub v s).st := by
  unfold gatePortEffect
  repeat' first
    | with_reducible first | assumption | apply Ev.ite | apply Ev.ite_st | apply State.store_ev | apply cancelPendingEffect_ev | apply removeListEffect_ev | apply safeGatesEffect_ev
    | refine fun _ => ?_

theorem windowEffect_ev {z : State} (session idx sub v : Nat) (s : State) (hs : Ev z s) : Ev z (windowEffect session idx sub v s).st := by
  unfold windowEffect
  repeat' first
    | with_reducible first | assumption | apply Ev.ite | apply Ev.ite_st | apply Ev.fail | apply Res.fail_ev | apply abortEffect_ev | apply clearHistEffect_ev | apply histSnapshotEffect_ev | apply rangeEffect_ev | apply signalSnapshotEffect_ev | apply stageOwnEffect_ev
    | refine fun _ => ?_

theorem regEffect_ev {z : State} (runtime : Bool) (session idx sub v sets : Nat) (s : State) (hs : Ev z s) : Ev z (regEffect runtime session idx sub v sets s).st := by
  unfold regEffect
  repeat' first
    | with_reducible first | assumption | apply Ev.ite | apply Ev.ite_st | apply Ev.done | apply Ev.fail | apply State.store_ev | apply Res.done_ev | apply Res.fail_ev | apply State.clearAttention_ev | apply State.clearFlags_ev | apply State.judged_ev | apply State.refreshMode_ev | apply State.refreshVoltage_ev | apply State.resized_ev | apply State.setReg_ev | apply applyStagesEffect_ev | apply bankEffect_ev | apply benchCommandEffect_ev | apply boundQueryEffect_ev | apply cancelEffect_ev | apply clearLostEffect_ev | apply cycleEffect_ev | apply dovetailEffect_ev | apply forceCloseEffect_ev | apply gatePortEffect_ev | apply hashEffect_ev | apply hwmEffect_ev | apply jigEffect_ev | apply laneEffect_ev | apply loaderEffect_ev | apply lockstepEffect_ev | apply mirrorEffect_ev | apply octetApplyEffect_ev | apply participantsEffect_ev | apply pfcEffect_ev | apply portBufferEffect_ev | apply portEffect_ev | apply resvPoolEffect_ev | apply schedEffect_ev | apply snapEffect_ev | apply stageObjectEffect_ev | apply streamEnableEffect_ev | apply streamMapEffect_ev | apply submitEffect_ev | apply testRaiseEffect_ev | apply timeEffect_ev | apply treeEffect_ev | apply unblockEffect_ev | apply watchEffect_ev | apply windowEffect_ev
    | refine fun _ => ?_
    | ((try lift_lets); intro u; first | (refine Ev.cut (z := z) u ?_ ?_; (subst u); rotate_left; clear_value u; intro _) | (refine Ev.cut (z := z) u.st ?_ ?_; (subst u); rotate_left; clear_value u; intro _) | (refine Ev.cut (z := z) u.1 ?_ ?_; (subst u); rotate_left; clear_value u; intro _) | ((have _ := fun x => u x); subst u) | clear_value u)
    | dsimp only
    | (with_reducible apply Ev.fst; assumption)
    | split

theorem mergeEffect_ev {z : State} (r : Sub) (k off : Nat) (data : Bytes) (whole : Nat → State → Res) (s : State) (hs : Ev z s) (hwhole : ∀ x u, Ev z u → Ev z (whole x u).st) : Ev z (mergeEffect r k off data whole s).st := by
  unfold mergeEffect
  repeat' first
    | with_reducible first | assumption | apply Ev.ite | apply Ev.ite_st | apply Ev.done | apply Ev.fail | apply Res.done_ev | apply Res.fail_ev | apply State.drew_ev | apply State.trigger_ev | apply hwhole
    | refine fun _ => ?_
    | ((try lift_lets); intro u; first | (refine Ev.cut (z := z) u ?_ ?_; (subst u); rotate_left; clear_value u; intro _) | (refine Ev.cut (z := z) u.st ?_ ?_; (subst u); rotate_left; clear_value u; intro _) | (refine Ev.cut (z := z) u.1 ?_ ?_; (subst u); rotate_left; clear_value u; intro _) | ((have _ := fun x => u x); subst u) | clear_value u)

theorem blockEffect_ev {z : State} (session idx sub off : Nat) (data : Bytes) (r : Sub) (whole : Nat → State → Res) (s : State) (hs : Ev z s) (hwhole : ∀ x u, Ev z u → Ev z (whole x u).st) : Ev z (blockEffect session idx sub off data r whole s).st := by
  unfold blockEffect
  repeat' first
    | with_reducible first | assumption | apply Ev.ite | apply Ev.ite_st | apply Pass.stage_ev | apply chainMapEffect_ev | apply mergeEffect_ev | apply packageEffect_ev | apply stageEffect_ev | apply hwhole
    | refine fun _ => ?_
    | ((try lift_lets); intro u; first | (refine Ev.cut (z := z) u ?_ ?_; (subst u); rotate_left; clear_value u; intro _) | (refine Ev.cut (z := z) u.st ?_ ?_; (subst u); rotate_left; clear_value u; intro _) | (refine Ev.cut (z := z) u.1 ?_ ?_; (subst u); rotate_left; clear_value u; intro _) | ((have _ := fun x => u x); subst u) | clear_value u)
    | dsimp only
    | (with_reducible apply Ev.fst; assumption)
    | split

end Sys2Proof.Machine
end

