-- ==== Sys2Proof/Laws/EvResets.lean ====
section
/-!
SUPPORT. The commands keep the invariants (Laws/Evolve.lean): the operations of Machine/Resets.lean.
-/
namespace Sys2Proof.Machine

theorem State.resetTaken_ev {z : State} (s : State) (code cause : Nat) (hs : Ev z s) : Ev z (State.resetTaken s code cause) := by
  unfold State.resetTaken
  repeat' first
    | with_reducible first | assumption | apply State.bump_ev | apply State.setReg_ev

theorem State.abandonSave_ev {z : State} (s : State) (hs : Ev z s) : Ev z (State.abandonSave s) := by
  unfold State.abandonSave
  repeat' first
    | with_reducible first | assumption | apply State.when_ev | apply State.setReg_ev
    | refine fun _ => ?_
    | dsimp only

theorem State.flushCore_ev {z : State} (s : State) (hs : Ev z s) : Ev z (State.flushCore s) := by
  unfold State.flushCore
  repeat' first
    | with_reducible first | assumption | apply State.forAll_ev | apply State.deliver_ev | apply State.setClaimedBy_ev | apply State.setReg_ev | apply State.setSrcState_ev | apply State.trigger_ev
    | refine fun _ => ?_
    | ((try lift_lets); intro u; first | (refine Ev.cut (z := z) u ?_ ?_; (subst u); rotate_left; clear_value u; intro _) | (refine Ev.cut (z := z) u.st ?_ ?_; (subst u); rotate_left; clear_value u; intro _) | (refine Ev.cut (z := z) u.1 ?_ ?_; (subst u); rotate_left; clear_value u; intro _) | ((have _ := fun x => u x); subst u) | clear_value u)
    | dsimp only

theorem State.endResident_ev {z : State} (s : State) (hs : Ev z s) : Ev z (State.endResident s) := by
  unfold State.endResident
  repeat' first
    | with_reducible first | assumption | apply State.endFrames_ev
    | refine fun _ => ?_
    | ((try lift_lets); intro u; first | (refine Ev.cut (z := z) u ?_ ?_; (subst u); rotate_left; clear_value u; intro _) | (refine Ev.cut (z := z) u.st ?_ ?_; (subst u); rotate_left; clear_value u; intro _) | (refine Ev.cut (z := z) u.1 ?_ ?_; (subst u); rotate_left; clear_value u; intro _) | ((have _ := fun x => u x); subst u) | clear_value u)
    | dsimp only
    | with_reducible apply Ev.upd

theorem State.restartQueues_ev {z : State} (s : State) (hs : Ev z s) : Ev z (State.restartQueues s) := by
  unfold State.restartQueues
  repeat' first
    | with_reducible first | assumption | apply State.forAll_ev | apply State.clearTab_ev | apply State.resetReg_ev | apply State.setTab_ev
    | refine fun _ => ?_
    | ((try lift_lets); intro u; first | (refine Ev.cut (z := z) u ?_ ?_; (subst u); rotate_left; clear_value u; intro _) | (refine Ev.cut (z := z) u.st ?_ ?_; (subst u); rotate_left; clear_value u; intro _) | (refine Ev.cut (z := z) u.1 ?_ ?_; (subst u); rotate_left; clear_value u; intro _) | ((have _ := fun x => u x); subst u) | clear_value u)
    | dsimp only

theorem State.restartBench_ev {z : State} (s : State) (b : Nat) (hs : Ev z s) : Ev z (State.restartBench s b) := by
  unfold State.restartBench
  repeat' first
    | with_reducible first | assumption | apply Ev.ite | apply State.when_ev | apply State.unfenceBench_ev | apply State.zeroBytes_ev
    | refine fun _ => ?_
    | ((try lift_lets); intro u; first | (refine Ev.cut (z := z) u ?_ ?_; (subst u); rotate_left; clear_value u; intro _) | (refine Ev.cut (z := z) u.st ?_ ?_; (subst u); rotate_left; clear_value u; intro _) | (refine Ev.cut (z := z) u.1 ?_ ?_; (subst u); rotate_left; clear_value u; intro _) | ((have _ := fun x => u x); subst u) | clear_value u)
    | dsimp only

theorem State.endTests_ev {z : State} (s : State) (hs : Ev z s) : Ev z (State.endTests s) := by
  unfold State.endTests
  repeat' first
    | with_reducible first | assumption | apply State.forAll_ev | apply State.followTest_ev | apply State.setLane_ev
    | refine fun _ => ?_
    | dsimp only

theorem State.restartCore_ev {z : State} (s : State) (code cause : Nat) (hs : Ev z s) : Ev z (State.restartCore s code cause) := by
  unfold State.restartCore
  repeat' first
    | with_reducible first | assumption | apply State.forAll_ev | apply State.abandonSave_ev | apply State.endResident_ev | apply State.endTests_ev | apply State.enterSettling_ev | apply State.flushCore_ev | apply State.haltBench_ev | apply State.refreshResvs_ev | apply State.resetTaken_ev | apply State.restartBench_ev | apply State.restartQueues_ev | apply State.setMode_ev | apply State.setTab_ev | apply State.stopGroups_ev
    | refine fun _ => ?_
    | ((try lift_lets); intro u; first | (refine Ev.cut (z := z) u ?_ ?_; (subst u); rotate_left; clear_value u; intro _) | (refine Ev.cut (z := z) u.st ?_ ?_; (subst u); rotate_left; clear_value u; intro _) | (refine Ev.cut (z := z) u.1 ?_ ?_; (subst u); rotate_left; clear_value u; intro _) | ((have _ := fun x => u x); subst u) | clear_value u)

theorem State.warmReset_ev {z : State} (s : State) (code cause : Nat) (hs : Ev z s) : Ev z (State.warmReset s code cause) := by
  unfold State.warmReset
  repeat' first
    | with_reducible first | assumption | apply State.restartCore_ev

theorem State.withdrawAll_ev {z : State} (s : State) (hs : Ev z s) : Ev z (State.withdrawAll s) := by
  unfold State.withdrawAll
  repeat' first
    | with_reducible first | assumption | apply State.forAll_ev | apply State.drained_ev | apply State.refreshResvTotals_ev | apply State.withdraw_ev
    | refine fun _ => ?_
    | dsimp only

theorem State.freeBanks_ev {z : State} (s : State) (hs : Ev z s) : Ev z (State.freeBanks s) := by
  unfold State.freeBanks
  repeat' first
    | with_reducible first | assumption | apply State.when_ev | apply State.forAll_ev | apply State.jigEnd_ev | apply State.setBank_ev | apply State.zeroBytes_ev
    | refine fun _ => ?_
    | ((try lift_lets); intro u; first | (refine Ev.cut (z := z) u ?_ ?_; (subst u); rotate_left; clear_value u; intro _) | (refine Ev.cut (z := z) u.st ?_ ?_; (subst u); rotate_left; clear_value u; intro _) | (refine Ev.cut (z := z) u.1 ?_ ?_; (subst u); rotate_left; clear_value u; intro _) | ((have _ := fun x => u x); subst u) | clear_value u)
    | dsimp only

theorem State.resetImage_ev {z : State} (s : State) (hs : Ev z s) : Ev z (State.resetImage s) := by
  unfold State.resetImage
  repeat' first
    | with_reducible first | assumption | apply State.clearTab_ev

theorem State.configReset_ev {z : State} (s : State) (hs : Ev z s) : Ev z (State.configReset s) := by
  unfold State.configReset
  repeat' first
    | with_reducible first | assumption | apply Ev.filtRegs | apply State.restartCore_ev | apply State.withdrawAll_ev | apply State.forAll_ev | apply State.reconfigure_ev | apply streamEnableEffect_ev | apply streamMapEffect_ev | apply State.when_ev | apply roleEffect_ev | apply State.clearTab_ev | apply State.resetReg_ev | apply State.resetImage_ev | apply State.freeBanks_ev | apply State.restartWatch_ev | apply State.refreshLink_ev | apply State.refreshInStep_ev | apply State.refreshVoltage_ev | apply State.refreshPartner_ev | apply State.setMode_ev | apply State.setCause_ev
    | refine fun _ => ?_
    | ((try lift_lets); intro u; first | (refine Ev.cut (z := z) u ?_ ?_; (subst u); rotate_left; clear_value u; intro _) | (refine Ev.cut (z := z) u.st ?_ ?_; (subst u); rotate_left; clear_value u; intro _) | (refine Ev.cut (z := z) u.1 ?_ ?_; (subst u); rotate_left; clear_value u; intro _) | ((have _ := fun x => u x); subst u) | clear_value u)
    | dsimp only
    | (with_reducible apply Ev.fst; assumption)
    | split
    | with_reducible apply Ev.upd

theorem State.configResetOff_ev {z : State} (s : State) (hs : Ev z s) : Ev z (State.configResetOff s) := by
  unfold State.configResetOff
  repeat' first
    | with_reducible first | assumption | apply Ev.filtRegs | apply State.resetTaken_ev | apply State.withdrawAll_ev | apply State.forAll_ev | apply State.reconfigure_ev | apply streamEnableEffect_ev | apply streamMapEffect_ev | apply State.when_ev | apply roleEffect_ev | apply State.clearTab_ev | apply State.resetReg_ev | apply State.resetImage_ev | apply State.freeBanks_ev | apply State.restartWatch_ev | apply State.refreshLink_ev | apply State.refreshInStep_ev | apply State.refreshVoltage_ev | apply State.refreshPartner_ev | apply State.setMode_ev | apply State.setCause_ev
    | refine fun _ => ?_
    | ((try lift_lets); intro u; first | (refine Ev.cut (z := z) u ?_ ?_; (subst u); rotate_left; clear_value u; intro _) | (refine Ev.cut (z := z) u.st ?_ ?_; (subst u); rotate_left; clear_value u; intro _) | (refine Ev.cut (z := z) u.1 ?_ ?_; (subst u); rotate_left; clear_value u; intro _) | ((have _ := fun x => u x); subst u) | clear_value u)
    | dsimp only
    | (with_reducible apply Ev.fst; assumption)
    | split
    | with_reducible apply Ev.upd

theorem State.clearConfig_ev {z : State} (s : State) (hs : Ev z s) : Ev z (State.clearConfig s) := by
  unfold State.clearConfig
  repeat' first
    | with_reducible first | assumption | apply Ev.ite | apply State.configReset_ev | apply State.configResetOff_ev
    | refine fun _ => ?_

theorem State.hostForm_ev {z : State} (s : State) (h : Nat) (standby : Bool) (hs : Ev z s) : Ev z (State.hostForm s h standby) := by
  unfold State.hostForm
  repeat' first
    | with_reducible first | assumption | apply Ev.ite | apply State.forAll_ev | apply State.laneRestart_ev | apply State.laneTo_ev | apply State.refreshLink_ev | apply State.setLane_ev | apply State.setReg_ev
    | refine fun _ => ?_
    | ((try lift_lets); intro u; first | (refine Ev.cut (z := z) u ?_ ?_; (subst u); rotate_left; clear_value u; intro _) | (refine Ev.cut (z := z) u.st ?_ ?_; (subst u); rotate_left; clear_value u; intro _) | (refine Ev.cut (z := z) u.1 ?_ ?_; (subst u); rotate_left; clear_value u; intro _) | ((have _ := fun x => u x); subst u) | clear_value u)
    | dsimp only

theorem State.stopCore_ev {z : State} (s : State) (hs : Ev z s) : Ev z (State.stopCore s) := by
  unfold State.stopCore
  repeat' first
    | with_reducible first | assumption | apply State.forAll_ev | apply State.abandonSave_ev | apply State.endResident_ev | apply State.endTests_ev | apply State.flushCore_ev | apply State.haltBench_ev | apply State.laneTo_ev | apply State.setLink_ev | apply State.setTab_ev
    | refine fun _ => ?_
    | ((try lift_lets); intro u; first | (refine Ev.cut (z := z) u ?_ ?_; (subst u); rotate_left; clear_value u; intro _) | (refine Ev.cut (z := z) u.st ?_ ?_; (subst u); rotate_left; clear_value u; intro _) | (refine Ev.cut (z := z) u.1 ?_ ?_; (subst u); rotate_left; clear_value u; intro _) | ((have _ := fun x => u x); subst u) | clear_value u)
    | dsimp only

theorem State.loseCore_ev {z : State} (s : State) (keepReg keepTab keepByte : Nat → Bool) (hs : Ev z s) :
    Ev z (State.loseCore s keepReg keepTab keepByte) := by
  unfold State.loseCore
  extract_lets t
  have h : Ev z t := State.forAll_ev hs fun u f hu => State.freeTag_ev _ _ hu
  clear_value t
  exact ⟨h.pending, fun w => SMap.wf_filter _ (h.regs w), fun w => SMap.wf_filter _ (h.tabs w), fun w => SMap.wf_filter _ (h.mem w), h.attn⟩

theorem State.endCauses_ev {z : State} (s : State) (mask : Nat) (hs : Ev z s) : Ev z (State.endCauses s mask) := by
  unfold State.endCauses
  repeat' first
    | with_reducible first | assumption | apply State.lockIdle_ev | apply State.setReg_ev

theorem State.coldClear_ev {z : State} (s : State) (hs : Ev z s) : Ev z (State.coldClear s) := by
  unfold State.coldClear
  repeat' first
    | with_reducible first | assumption | apply State.endCauses_ev | apply State.endTests_ev | apply State.loseCore_ev | apply State.resetReg_ev | apply State.setTab_ev
    | refine fun _ => ?_
    | ((try lift_lets); intro u; first | (refine Ev.cut (z := z) u ?_ ?_; (subst u); rotate_left; clear_value u; intro _) | (refine Ev.cut (z := z) u.st ?_ ?_; (subst u); rotate_left; clear_value u; intro _) | (refine Ev.cut (z := z) u.1 ?_ ?_; (subst u); rotate_left; clear_value u; intro _) | ((have _ := fun x => u x); subst u) | clear_value u)
    | dsimp only

theorem State.coreLost_ev {z : State} (s : State) (hs : Ev z s) : Ev z (State.coreLost s) := by
  unfold State.coreLost
  repeat' first
    | with_reducible first | assumption | apply State.endCauses_ev | apply State.loseCore_ev
    | refine fun _ => ?_
    | dsimp only

theorem State.wakeClear_ev {z : State} (s : State) (hs : Ev z s) : Ev z (State.wakeClear s) := by
  unfold State.wakeClear
  extract_lets g t t1 t2 t3 t4
  have h : Ev z t := State.loseCore_ev _ _ _ _ hs
  clear_value t
  have h1 : Ev z t1 := Ev.upd h
  clear_value t1
  have h2 : Ev z t2 := State.forAll_ev h1 fun u i hu => State.setTab_ev (State.setTab_ev hu)
  clear_value t2
  have h3 : Ev z t3 := State.refreshFaulty_ev _ (State.endCauses_ev _ _ h2)
  clear_value t3
  have h4 : Ev z t4 := State.forAll_ev h3 fun u i hu => State.freeResv_ev _ _ hu
  clear_value t4
  exact State.drained_ev _ (State.refreshResvTotals_ev _ (State.setTab_ev h4))

end Sys2Proof.Machine
end

