-- ==== Sys2Proof/Laws/EvImage.lean ====
section
/-!
SUPPORT. The commands keep the invariants (Laws/Evolve.lean): the operations of Machine/Image.lean.
-/
namespace Sys2Proof.Machine

theorem byteCells_above {a : Nat} {b : Bytes} : ∀ e ∈ byteCells a b, a ≤ e.1 ∧ e.1 < a + b.length := by
  induction b generalizing a with
  | nil => simp [byteCells]
  | cons x b ih =>
    intro e he
    unfold byteCells at he
    split at he
    · have := ih e he; simp; omega
    · rcases List.mem_cons.mp he with rfl | he
      · simp
      · have := ih e he; simp; omega

theorem byteCells_wf {a : Nat} {b : Bytes} : SMap.wf memDflt (byteCells a b) = true := by
  induction b generalizing a with
  | nil => rfl
  | cons x b ih =>
    unfold byteCells
    split
    · exact ih
    · next h =>
      simp only [SMap.wf, Bool.and_eq_true, decide_eq_true_eq]
      exact ⟨⟨h, SMap.above_of fun e he => by have := byteCells_above e he; omega⟩, ih⟩

theorem SMap.wf_append {α : Type} [DecidableEq α] {d : Nat → α} {m n : SMap α} (hm : m.wf d = true) (hn : n.wf d = true)
    (h : ∀ e ∈ m, ∀ f ∈ n, e.1 < f.1) : SMap.wf d (m ++ n) = true := by
  induction m with
  | nil => exact hn
  | cons e t ih =>
    obtain ⟨a, v⟩ := e
    simp [SMap.wf] at hm
    simp only [List.cons_append, SMap.wf, Bool.and_eq_true, decide_eq_true_eq]
    refine ⟨⟨hm.1.1, SMap.above_of fun e he => ?_⟩, ih hm.2 fun e he => h e (by simp [he])⟩
    rcases List.mem_append.mp he with he | he
    · exact SMap.above_trans hm.2 hm.1.2 e he
    · exact h (a, v) (by simp) e he

theorem State.putBytes_ev {z : State} (s : State) (a : Nat) (b : Bytes) (hs : Ev z s) : Ev z (State.putBytes s a b) := by
  refine ⟨hs.pending, hs.regs, hs.tabs, fun h => ?_, hs.attn⟩
  unfold State.putBytes SMap.splice
  dsimp only
  have h := hs.mem h
  refine SMap.wf_append (SMap.wf_append (SMap.wf_filter _ h) byteCells_wf ?_) (SMap.wf_filter _ h) ?_
  · intro e he f hf
    have := (List.mem_filter.mp he).2
    have := byteCells_above f hf
    simp at *; omega
  · intro e he f hf
    have hf := (List.mem_filter.mp hf).2
    rcases List.mem_append.mp he with he | he
    · have := (List.mem_filter.mp he).2; simp at *; omega
    · have := byteCells_above e he; simp at *; omega

theorem State.configRefused_ev {z : State} (s : State) (code detail idx : Nat) (hs : Ev z s) : Ev z (State.configRefused s code detail idx) := by
  unfold State.configRefused
  repeat' first
    | with_reducible first | assumption | apply State.logFault_ev | apply State.setCause_ev

theorem Restoring.note_ev {z : State} (r : Restoring) (idx : Nat) (x : Res)  (hr : Ev z r.st) (hx : Ev z x.st) : Ev z (Restoring.note r idx x).st := by
  unfold Restoring.note
  repeat' first
    | with_reducible first | assumption | apply Ev.ite | apply Ev.ite_rst | apply State.configRefused_ev
    | refine fun _ => ?_
    | dsimp only
    | split

theorem State.restoreReg_ev {z : State} (s : State) (r : ImgRecord) (hs : Ev z s) : Ev z (State.restoreReg s r).st := by
  unfold State.restoreReg
  repeat' first
    | with_reducible first | assumption | apply Ev.ite | apply Ev.ite_st | apply Ev.done | apply Ev.fail | apply State.store_ev | apply Res.done_ev | apply Res.fail_ev | apply State.setReg_ev | apply State.setTab_ev | apply bankPartEffect_ev | apply chainMapEffect_ev
    | refine fun _ => ?_
    | ((try lift_lets); intro u; first | (refine Ev.cut (z := z) u ?_ ?_; (subst u); rotate_left; clear_value u; intro _) | (refine Ev.cut (z := z) u.st ?_ ?_; (subst u); rotate_left; clear_value u; intro _) | (refine Ev.cut (z := z) u.1 ?_ ?_; (subst u); rotate_left; clear_value u; intro _) | ((have _ := fun x => u x); subst u) | clear_value u)
    | dsimp only
    | (with_reducible apply Ev.fst; assumption)
    | split

theorem Restoring.octet_ev {z : State} (r : Restoring) (o : Nat)  (hr : Ev z r.st) : Ev z (Restoring.octet r o).st := by
  unfold Restoring.octet
  repeat' first
    | with_reducible first | assumption | apply Ev.ite | apply Ev.ite_rst | apply Ev.fail | apply Res.fail_ev | apply Restoring.note_ev | apply State.reconfigure_ev
    | refine fun _ => ?_
    | ((try lift_lets); intro u; first | (refine Ev.cut (z := z) u ?_ ?_; (subst u); rotate_left; clear_value u; intro _) | (refine Ev.cut (z := z) u.st ?_ ?_; (subst u); rotate_left; clear_value u; intro _) | (refine Ev.cut (z := z) u.1 ?_ ?_; (subst u); rotate_left; clear_value u; intro _) | ((have _ := fun x => u x); subst u) | clear_value u)
    | dsimp only
    | split

theorem State.restoreEm_ev {z : State} (s : State) (l : SMap Nat) (hs : Ev z s) : Ev z (State.restoreEm s l).st := by
  unfold State.restoreEm
  repeat' first
    | with_reducible first | assumption | apply State.forAll_ev | apply State.lookupCommit_ev | apply State.lookupRefused_ev | apply State.retireAt_ev | apply State.setElem_ev | apply State.setTab_ev
    | refine fun _ => ?_
    | ((try lift_lets); intro u; first | (refine Ev.cut (z := z) u ?_ ?_; (subst u); rotate_left; clear_value u; intro _) | (refine Ev.cut (z := z) u.st ?_ ?_; (subst u); rotate_left; clear_value u; intro _) | (refine Ev.cut (z := z) u.1 ?_ ?_; (subst u); rotate_left; clear_value u; intro _) | ((have _ := fun x => u x); subst u) | clear_value u)
    | dsimp only
    | (with_reducible apply Ev.fst; assumption)
    | split

theorem State.restoreNodes_ev {z : State} (s : State) (l : SMap Nat) (hs : Ev z s) : Ev z (State.restoreNodes s l).st := by
  unfold State.restoreNodes
  repeat' first
    | with_reducible first | assumption | apply Ev.ite | apply Ev.ite_st | apply State.forAll_ev | apply State.clearTab_ev | apply State.drained_ev | apply State.lookupCommit_ev | apply State.lookupRefused_ev | apply State.retireAt_ev | apply State.setElem_ev | apply State.setReg_ev
    | refine fun _ => ?_
    | ((try lift_lets); intro u; first | (refine Ev.cut (z := z) u ?_ ?_; (subst u); rotate_left; clear_value u; intro _) | (refine Ev.cut (z := z) u.st ?_ ?_; (subst u); rotate_left; clear_value u; intro _) | (refine Ev.cut (z := z) u.1 ?_ ?_; (subst u); rotate_left; clear_value u; intro _) | ((have _ := fun x => u x); subst u) | clear_value u)
    | dsimp only
    | (with_reducible apply Ev.fst; assumption)
    | split

theorem State.restoreBank_ev {z : State} (s : State) (w : Nat) (l : SMap Nat) (hs : Ev z s) : Ev z (State.restoreBank s w l).st := by
  unfold State.restoreBank
  extract_lets t
  have ht : Ev z t := State.when_ev (State.clearTab_ev hs) fun u hu => State.clearTab_ev hu
  clear_value t
  split
  · exact Ev.upd (State.switchBank_ev _ _ _ _ ht)
  · exact ht

theorem State.restoreSpread_ev {z : State} (s : State) (l : SMap Nat) (hs : Ev z s) : Ev z (State.restoreSpread s l).st := by
  unfold State.restoreSpread
  repeat' first
    | with_reducible first | assumption | apply State.forAll_ev | apply State.lookupCommit_ev | apply State.lookupRefused_ev | apply State.setReg_ev | apply State.setTab_ev
    | refine fun _ => ?_
    | ((try lift_lets); intro u; first | (refine Ev.cut (z := z) u ?_ ?_; (subst u); rotate_left; clear_value u; intro _) | (refine Ev.cut (z := z) u.st ?_ ?_; (subst u); rotate_left; clear_value u; intro _) | (refine Ev.cut (z := z) u.1 ?_ ?_; (subst u); rotate_left; clear_value u; intro _) | ((have _ := fun x => u x); subst u) | clear_value u)
    | dsimp only
    | (with_reducible apply Ev.fst; assumption)
    | split

theorem State.restoreGate_ev {z : State} (s : State) (p : Nat) (l : SMap Nat) (hs : Ev z s) : Ev z (State.restoreGate s p l).st := by
  unfold State.restoreGate
  extract_lets a header own r
  have hr : Ev z r.st := State.commitGateList_ev _ _ hs
  clear_value r
  split
  · exact hs
  · exact Ev.upd hr

theorem Restoring.foldl_ev {α : Type} {z : State} {r : Restoring} {l : List α} {f : Restoring → α → Restoring} (h : Ev z r.st)
    (g : ∀ u a, Ev z u.st → Ev z (f u a).st) : Ev z (l.foldl f r).st := by
  induction l generalizing r with
  | nil => exact h
  | cons a l ih => exact ih (g r a h)

theorem Restoring.gates_ev {z : State} (r : Restoring) (l : SMap Nat) (hr : Ev z r.st) : Ev z (Restoring.gates r l).st := by
  unfold Restoring.gates
  dsimp only
  refine Restoring.foldl_ev (Restoring.foldl_ev hr fun u p hu => Restoring.note_ev _ _ _ hu (removeListEffect_ev _ _ _ hu)) fun u p hu => ?_
  refine Restoring.note_ev _ _ _ hu ?_
  split
  · exact hu
  · exact State.restoreGate_ev _ _ _ hu

theorem State.restoreResv_ev {z : State} (s : State) (l : SMap Nat) (hs : Ev z s) : Ev z (State.restoreResv s l).st := by
  unfold State.restoreResv
  repeat' first
    | with_reducible first | assumption | apply Ev.ite | apply Ev.ite_st | apply Ev.done | apply Res.done_ev | apply State.commitResv_ev | apply State.dropStaging_ev
    | refine fun _ => ?_
    | ((try lift_lets); intro u; first | (refine Ev.cut (z := z) u ?_ ?_; (subst u); rotate_left; clear_value u; intro _) | (refine Ev.cut (z := z) u.st ?_ ?_; (subst u); rotate_left; clear_value u; intro _) | (refine Ev.cut (z := z) u.1 ?_ ?_; (subst u); rotate_left; clear_value u; intro _) | ((have _ := fun x => u x); subst u) | clear_value u)
    | dsimp only

theorem State.defaultWindow_ev {z : State} (s : State) (w : Nat) (hs : Ev z s) : Ev z (State.defaultWindow s w) := by
  unfold State.defaultWindow
  repeat' first
    | with_reducible first | assumption | apply Ev.ite | apply State.forAll_ev | apply State.clearTab_ev | apply State.clearTabRange_ev | apply State.setReg_ev | apply State.withdrawAll_ev
    | refine fun _ => ?_
    | dsimp only

theorem Restoring.window_ev {z : State} (r : Restoring) (w : Nat) (l : SMap Nat) (hr : Ev z r.st) : Ev z (Restoring.window r w l).st := by
  unfold Restoring.window
  extract_lets s size apply
  have ha : Ev z apply.st := by
    unfold apply
    repeat' first
      | with_reducible first | assumption | apply Ev.ite_st | apply State.restoreBank_ev | apply State.restoreEm_ev | apply State.restoreNodes_ev | apply State.restoreSpread_ev | apply State.restoreResv_ev | apply State.commitChapter_ev | apply Ev.fail
      | refine fun _ => ?_
  clear_value apply
  split
  · exact Restoring.gates_ev _ _ hr
  · split
    · exact Ev.ite (fun _ => ha) fun _ => State.commitApplied_ev _ _ ha
    · exact Restoring.note_ev _ _ _ hr (State.defaultWindow_ev _ _ ha)

theorem Restoring.records_ev {z : State} (n : Nat) (r : Restoring) (l : List ImgRecord) (hr : Ev z r.st) :
    Ev z (Restoring.records n r l).st := by
  induction n generalizing r l with
  | zero => unfold Restoring.records; exact hr
  | succ n ih =>
    cases l with
    | nil => unfold Restoring.records; exact hr
    | cons x t =>
      unfold Restoring.records
      split
      · exact ih _ _ (Restoring.note_ev _ _ _ hr (State.restoreReg_ev _ _ hr))
      · split
        · dsimp only
          apply ih
          split
          · exact Restoring.note_ev _ _ _ hr hr
          · exact Restoring.window_ev _ _ _ hr
        · exact ih _ _ (Restoring.note_ev _ _ _ hr hr)

theorem State.restoreGroup_ev {z : State} (s : State) (g : Nat) (hs : Ev z s) : Ev z (State.restoreGroup s g) := by
  unfold State.restoreGroup
  repeat' first
    | with_reducible first | assumption | apply Ev.ite | apply State.setReg_ev | apply State.setTab_ev | apply State.showNext_ev | apply State.showPending_ev | apply enableGroupEffect_ev
    | refine fun _ => ?_
    | ((try lift_lets); intro u; first | (refine Ev.cut (z := z) u ?_ ?_; (subst u); rotate_left; clear_value u; intro _) | (refine Ev.cut (z := z) u.st ?_ ?_; (subst u); rotate_left; clear_value u; intro _) | (refine Ev.cut (z := z) u.1 ?_ ?_; (subst u); rotate_left; clear_value u; intro _) | ((have _ := fun x => u x); subst u) | clear_value u)

theorem State.restoreLane_ev {z : State} (s : State) (n : Nat) (hs : Ev z s) : Ev z (State.restoreLane s n) := by
  unfold State.restoreLane
  repeat' first
    | with_reducible first | assumption | apply Ev.ite | apply State.when_ev | apply State.laneRestart_ev | apply State.laneTo_ev
    | refine fun _ => ?_
    | dsimp only

theorem State.restoreRole_ev {z : State} (s : State) (hs : Ev z s) : Ev z (State.restoreRole s) := by
  unfold State.restoreRole
  repeat' first
    | with_reducible first | assumption | apply Ev.ite | apply State.when_ev | apply State.setReg_ev | apply State.setTab_ev
    | refine fun _ => ?_
    | dsimp only

theorem State.configInPlace_ev {z : State} (s : State) (hs : Ev z s) : Ev z (State.configInPlace s) := by
  unfold State.configInPlace
  repeat' first
    | with_reducible first | assumption | apply State.forAll_ev | apply State.refreshInStep_ev | apply State.refreshLink_ev | apply State.refreshPartner_ev | apply State.refreshResvTotals_ev | apply State.refreshResvs_ev | apply State.refreshVoltage_ev | apply State.restartWatch_ev | apply State.restoreGroup_ev | apply State.restoreLane_ev | apply State.restoreRole_ev | apply State.setReg_ev | apply streamMapEffect_ev
    | refine fun _ => ?_
    | ((try lift_lets); intro u; first | (refine Ev.cut (z := z) u ?_ ?_; (subst u); rotate_left; clear_value u; intro _) | (refine Ev.cut (z := z) u.st ?_ ?_; (subst u); rotate_left; clear_value u; intro _) | (refine Ev.cut (z := z) u.1 ?_ ?_; (subst u); rotate_left; clear_value u; intro _) | ((have _ := fun x => u x); subst u) | clear_value u)
    | dsimp only

theorem State.applyImage_ev {z : State} (s : State) (b : Bytes) (hs : Ev z s) : Ev z (State.applyImage s b).st := by
  unfold State.applyImage
  split
  · exact Restoring.note_ev _ _ _ hs hs
  · dsimp only
    have h : Ev z (Restoring.records (imgRecords (Img.body b).length (Img.body b)).1.length
      ((List.range 64).foldl Restoring.octet (Restoring.records (imgRecords (Img.body b).length (Img.body b)).1.length ⟨s, none⟩
        ((imgRecords (Img.body b).length (Img.body b)).1.filter (fun x => isOctetIndex x.idx))))
      ((imgRecords (Img.body b).length (Img.body b)).1.filter (fun x => !isOctetIndex x.idx))).st :=
      Restoring.records_ev _ _ _ (Restoring.foldl_ev (Restoring.records_ev _ _ _ hs) fun u a hu => Restoring.octet_ev _ _ hu)
    split
    · exact h
    · exact Restoring.note_ev _ _ _ h h

end Sys2Proof.Machine
end

