-- ==== Sys2Proof/Laws/EvConfigStore.lean ====
section
/-!
SUPPORT. The commands keep the invariants (Laws/Evolve.lean): the operations of Machine/ConfigStore.lean.
-/
namespace Sys2Proof.Machine

theorem State.refreshNewest_ev {z : State} (s : State) (hs : Ev z s) : Ev z (State.refreshNewest s) := by
  unfold State.refreshNewest
  repeat' first
    | with_reducible first | assumption | apply State.store_ev | apply State.setReg_ev
    | dsimp only
    | (with_reducible apply Ev.fst; assumption)
    | split

theorem State.invalidateSlot_ev {z : State} (s : State) (k : Nat) (hs : Ev z s) : Ev z (State.invalidateSlot s k) := by
  unfold State.invalidateSlot
  repeat' first
    | with_reducible first | assumption | apply State.store_ev | apply State.when_ev | apply State.refreshNewest_ev | apply State.setReg_ev | apply State.setTab_ev
    | refine fun _ => ?_
    | dsimp only

theorem State.validateSlot_ev {z : State} (s : State) (k len gen : Nat) (hs : Ev z s) : Ev z (State.validateSlot s k len gen) := by
  unfold State.validateSlot
  repeat' first
    | with_reducible first | assumption | apply State.store_ev | apply State.refreshNewest_ev | apply State.setReg_ev | apply State.setTab_ev

theorem State.storeDone_ev {z : State} (s : State) (code detail : Nat) (hs : Ev z s) : Ev z (State.storeDone s code detail) := by
  unfold State.storeDone
  repeat' first
    | with_reducible first | assumption | apply State.setReg_ev

theorem State.discardImport_ev {z : State} (s : State) (hs : Ev z s) : Ev z (State.discardImport s) := by
  unfold State.discardImport
  repeat' first
    | with_reducible first | assumption | apply State.store_ev | apply State.when_ev | apply State.setReg_ev | apply State.setTab_ev
    | refine fun _ => ?_
    | dsimp only

theorem State.saveStart_ev {z : State} (s : State) (hs : Ev z s) : Ev z (State.saveStart s) := by
  unfold State.saveStart
  repeat' first
    | with_reducible first | assumption | apply State.store_ev | apply State.discardImport_ev | apply State.invalidateSlot_ev | apply State.putBytes_ev | apply State.setReg_ev | apply State.setTab_ev
    | ((try lift_lets); intro u; first | (refine Ev.cut (z := z) u ?_ ?_; (subst u); rotate_left; clear_value u; intro _) | (refine Ev.cut (z := z) u.st ?_ ?_; (subst u); rotate_left; clear_value u; intro _) | (refine Ev.cut (z := z) u.1 ?_ ?_; (subst u); rotate_left; clear_value u; intro _) | ((have _ := fun x => u x); subst u) | clear_value u)

theorem State.restoreStart_ev {z : State} (s : State) (hs : Ev z s) : Ev z (State.restoreStart s) := by
  unfold State.restoreStart
  repeat' first
    | with_reducible first | assumption | apply State.discardImport_ev | apply State.setReg_ev | apply State.warmReset_ev

theorem State.clearSavedStart_ev {z : State} (s : State) (hs : Ev z s) : Ev z (State.clearSavedStart s) := by
  unfold State.clearSavedStart
  repeat' first
    | with_reducible first | assumption | apply State.store_ev | apply State.setReg_ev | apply State.setTab_ev

theorem State.acceptStart_ev {z : State} (s : State) (hs : Ev z s) : Ev z (State.acceptStart s) := by
  unfold State.acceptStart
  repeat' first
    | with_reducible first | assumption | apply Ev.ite | apply State.store_ev | apply State.setReg_ev | apply State.setTab_ev
    | refine fun _ => ?_
    | ((try lift_lets); intro u; first | (refine Ev.cut (z := z) u ?_ ?_; (subst u); rotate_left; clear_value u; intro _) | (refine Ev.cut (z := z) u.st ?_ ?_; (subst u); rotate_left; clear_value u; intro _) | (refine Ev.cut (z := z) u.1 ?_ ?_; (subst u); rotate_left; clear_value u; intro _) | ((have _ := fun x => u x); subst u) | clear_value u)
    | dsimp only

theorem configCommandEffect_ev {z : State} (v : Nat) (s : State) (hs : Ev z s) : Ev z (configCommandEffect v s).st := by
  unfold configCommandEffect
  repeat' first
    | with_reducible first | assumption | apply Ev.ite | apply Ev.ite_st | apply Ev.done | apply Ev.fail | apply Res.done_ev | apply Res.fail_ev | apply State.acceptStart_ev | apply State.clearConfig_ev | apply State.clearSavedStart_ev | apply State.restoreStart_ev | apply State.saveStart_ev | apply State.storeDone_ev
    | refine fun _ => ?_
    | ((try lift_lets); intro u; first | (refine Ev.cut (z := z) u ?_ ?_; (subst u); rotate_left; clear_value u; intro _) | (refine Ev.cut (z := z) u.st ?_ ?_; (subst u); rotate_left; clear_value u; intro _) | (refine Ev.cut (z := z) u.1 ?_ ?_; (subst u); rotate_left; clear_value u; intro _) | ((have _ := fun x => u x); subst u) | clear_value u)

theorem importEffect_ev {z : State} (off : Nat) (data : Bytes) (s : State) (hs : Ev z s) : Ev z (importEffect off data s).st := by
  unfold importEffect
  repeat' first
    | with_reducible first | assumption | apply Ev.ite | apply Ev.ite_st | apply Ev.done | apply Ev.fail | apply State.store_ev | apply Res.done_ev | apply Res.fail_ev | apply State.drew_ev | apply State.invalidateSlot_ev | apply State.putBytes_ev | apply State.setReg_ev | apply State.setTab_ev
    | refine fun _ => ?_
    | ((try lift_lets); intro u; first | (refine Ev.cut (z := z) u ?_ ?_; (subst u); rotate_left; clear_value u; intro _) | (refine Ev.cut (z := z) u.st ?_ ?_; (subst u); rotate_left; clear_value u; intro _) | (refine Ev.cut (z := z) u.1 ?_ ?_; (subst u); rotate_left; clear_value u; intro _) | ((have _ := fun x => u x); subst u) | clear_value u)

theorem State.importChecked_ev {z : State} (s : State) (hs : Ev z s) : Ev z (State.importChecked s) := by
  unfold State.importChecked
  repeat' first
    | with_reducible first | assumption | apply Ev.ite | apply State.store_ev | apply State.when_ev | apply State.event_ev | apply State.invalidateSlot_ev | apply State.refreshNewest_ev | apply State.setTab_ev | apply State.storeDone_ev | apply State.validateSlot_ev
    | refine fun _ => ?_
    | ((try lift_lets); intro u; first | (refine Ev.cut (z := z) u ?_ ?_; (subst u); rotate_left; clear_value u; intro _) | (refine Ev.cut (z := z) u.st ?_ ?_; (subst u); rotate_left; clear_value u; intro _) | (refine Ev.cut (z := z) u.1 ?_ ?_; (subst u); rotate_left; clear_value u; intro _) | ((have _ := fun x => u x); subst u) | clear_value u)
    | dsimp only

theorem State.restored_ev {z : State} (s : State) (hs : Ev z s) : Ev z (State.restored s) := by
  unfold State.restored
  repeat' first
    | with_reducible first | assumption | apply State.when_ev | apply State.applyImage_ev | apply State.configInPlace_ev | apply State.drew_ev | apply State.setCause_ev | apply State.setTab_ev | apply State.storeDone_ev
    | refine fun _ => ?_
    | ((try lift_lets); intro u; first | (refine Ev.cut (z := z) u ?_ ?_; (subst u); rotate_left; clear_value u; intro _) | (refine Ev.cut (z := z) u.st ?_ ?_; (subst u); rotate_left; clear_value u; intro _) | (refine Ev.cut (z := z) u.1 ?_ ?_; (subst u); rotate_left; clear_value u; intro _) | ((have _ := fun x => u x); subst u) | clear_value u)
    | dsimp only
    | (with_reducible apply Ev.fst; assumption)
    | split

theorem execSave_ev {z : State} (w : SessionNo) (s : State) (hs : Ev z s) : EvN z (execSave w s) := by
  unfold execSave
  repeat' first
    | with_reducible first | assumption | apply EvN.next | apply EvN.res | apply State.hostWrite_ev | apply configCommandEffect_ev

theorem execSaveDone_ev {z : State} (verified : Bool) (s : State) (hs : Ev z s) : EvN z (execSaveDone verified s) := by
  unfold execSaveDone
  repeat' first
    | with_reducible first | assumption | apply Ev.ite | apply Ev.ite_st | apply EvN.ite | apply EvN.done | apply EvN.next | apply EvN.res | apply State.store_ev | apply Res.done_ev | apply State.setCause_ev | apply State.setTab_ev | apply State.storeDone_ev | apply State.validateSlot_ev
    | refine fun _ => ?_
    | ((try lift_lets); intro u; first | (refine Ev.cut (z := z) u ?_ ?_; (subst u); rotate_left; clear_value u; intro _) | (refine Ev.cut (z := z) u.st ?_ ?_; (subst u); rotate_left; clear_value u; intro _) | (refine Ev.cut (z := z) u.1 ?_ ?_; (subst u); rotate_left; clear_value u; intro _) | ((have _ := fun x => u x); subst u) | clear_value u)

theorem execRestore_ev {z : State} (w : SessionNo) (s : State) (hs : Ev z s) : EvN z (execRestore w s) := by
  unfold execRestore
  repeat' first
    | with_reducible first | assumption | apply EvN.next | apply EvN.res | apply State.hostWrite_ev | apply configCommandEffect_ev

theorem execRestoreDone_ev {z : State} (s : State) (hs : Ev z s) : EvN z (execRestoreDone s) := by
  unfold execRestoreDone
  repeat' first
    | with_reducible first | assumption | apply Ev.ite | apply Ev.ite_st | apply EvN.ite | apply EvN.done | apply EvN.next | apply EvN.res | apply Res.done_ev | apply State.restored_ev
    | refine fun _ => ?_

theorem execClearSaved_ev {z : State} (w : SessionNo) (s : State) (hs : Ev z s) : EvN z (execClearSaved w s) := by
  unfold execClearSaved
  repeat' first
    | with_reducible first | assumption | apply EvN.next | apply EvN.res | apply State.hostWrite_ev | apply configCommandEffect_ev

theorem execClearSavedDone_ev {z : State} (s : State) (hs : Ev z s) : EvN z (execClearSavedDone s) := by
  unfold execClearSavedDone
  repeat' first
    | with_reducible first | assumption | apply Ev.ite | apply Ev.ite_st | apply EvN.ite | apply EvN.done | apply EvN.next | apply EvN.res | apply Res.done_ev | apply State.invalidateSlot_ev | apply State.storeDone_ev
    | refine fun _ => ?_

theorem execApplyDefaults_ev {z : State} (w : SessionNo) (s : State) (hs : Ev z s) : EvN z (execApplyDefaults w s) := by
  unfold execApplyDefaults
  repeat' first
    | with_reducible first | assumption | apply EvN.next | apply EvN.res | apply State.hostWrite_ev | apply configCommandEffect_ev

theorem execAcceptImport_ev {z : State} (w : SessionNo) (s : State) (hs : Ev z s) : EvN z (execAcceptImport w s) := by
  unfold execAcceptImport
  repeat' first
    | with_reducible first | assumption | apply EvN.next | apply EvN.res | apply State.hostWrite_ev | apply configCommandEffect_ev

theorem execImportCheckDone_ev {z : State} (s : State) (hs : Ev z s) : EvN z (execImportCheckDone s) := by
  unfold execImportCheckDone
  repeat' first
    | with_reducible first | assumption | apply Ev.ite | apply Ev.ite_st | apply EvN.ite | apply EvN.done | apply EvN.next | apply EvN.res | apply Res.done_ev | apply State.importChecked_ev
    | refine fun _ => ?_

theorem execImportBlock_ev {z : State} (w : SessionNo) (offset : Nat) (data : Bytes) (s : State) (hs : Ev z s) : EvN z (execImportBlock w offset data s) := by
  unfold execImportBlock
  repeat' first
    | with_reducible first | assumption | apply EvN.next | apply EvN.res | apply State.hostBlockWrite_ev | apply importEffect_ev

end Sys2Proof.Machine
end

