-- ==== Sys2Proof/Laws/EvStartup.lean ====
section
/-!
SUPPORT. The commands keep the invariants (Laws/Evolve.lean): the operations of Machine/Startup.lean.
-/
namespace Sys2Proof.Machine

theorem State.commandSupplies_ev {z : State} (s : State) (l : List Nat) (mv : Nat → Nat) (hs : Ev z s) : Ev z (State.commandSupplies s l mv) := by
  unfold State.commandSupplies
  repeat' first
    | with_reducible first | assumption | apply State.forAll_ev | apply State.setTab_ev
    | refine fun _ => ?_
    | ((try lift_lets); intro u; first | (refine Ev.cut (z := z) u ?_ ?_; (subst u); rotate_left; clear_value u; intro _) | (refine Ev.cut (z := z) u.st ?_ ?_; (subst u); rotate_left; clear_value u; intro _) | (refine Ev.cut (z := z) u.1 ?_ ?_; (subst u); rotate_left; clear_value u; intro _) | ((have _ := fun x => u x); subst u) | clear_value u)
    | dsimp only

theorem State.hostForms_ev {z : State} (s : State) (standby : Bool) (hs : Ev z s) : Ev z (State.hostForms s standby) := by
  unfold State.hostForms
  repeat' first
    | with_reducible first | assumption | apply State.hostForm_ev

theorem State.endSequence_ev {z : State} (s : State) (hs : Ev z s) : Ev z (State.endSequence s) := by
  unfold State.endSequence
  repeat' first
    | with_reducible first | assumption | apply State.setReg_ev | apply State.setTab_ev

theorem State.enterStandby_ev {z : State} (s : State) (hs : Ev z s) : Ev z (State.enterStandby s) := by
  unfold State.enterStandby
  repeat' first
    | with_reducible first | assumption | apply State.coreLost_ev | apply State.endSequence_ev | apply State.hostForms_ev | apply State.setMode_ev | apply State.setReg_ev

theorem State.railsOff_ev {z : State} (s : State) (hs : Ev z s) : Ev z (State.railsOff s) := by
  unfold State.railsOff
  repeat' first
    | with_reducible first | assumption | apply State.when_ev | apply State.forAll_ev | apply State.abandonSave_ev | apply State.enterStandby_ev | apply State.setTab_ev
    | refine fun _ => ?_
    | ((try lift_lets); intro u; first | (refine Ev.cut (z := z) u ?_ ?_; (subst u); rotate_left; clear_value u; intro _) | (refine Ev.cut (z := z) u.st ?_ ?_; (subst u); rotate_left; clear_value u; intro _) | (refine Ev.cut (z := z) u.1 ?_ ?_; (subst u); rotate_left; clear_value u; intro _) | ((have _ := fun x => u x); subst u) | clear_value u)
    | dsimp only

theorem State.startBegin_ev {z : State} (s : State) (cause : Nat) (hs : Ev z s) : Ev z (State.startBegin s cause) := by
  unfold State.startBegin
  repeat' first
    | with_reducible first | assumption | apply State.commandSupplies_ev | apply State.resetTaken_ev | apply State.setMode_ev | apply State.setReg_ev | apply State.setTab_ev
    | ((try lift_lets); intro u; first | (refine Ev.cut (z := z) u ?_ ?_; (subst u); rotate_left; clear_value u; intro _) | (refine Ev.cut (z := z) u.st ?_ ?_; (subst u); rotate_left; clear_value u; intro _) | (refine Ev.cut (z := z) u.1 ?_ ?_; (subst u); rotate_left; clear_value u; intro _) | ((have _ := fun x => u x); subst u) | clear_value u)

theorem State.startFailed_ev {z : State} (s : State) (startup : Bool) (hs : Ev z s) : Ev z (State.startFailed s startup) := by
  unfold State.startFailed
  repeat' first
    | with_reducible first | assumption | apply State.when_ev | apply State.event_ev | apply State.railsOff_ev
    | refine fun _ => ?_
    | ((try lift_lets); intro u; first | (refine Ev.cut (z := z) u ?_ ?_; (subst u); rotate_left; clear_value u; intro _) | (refine Ev.cut (z := z) u.st ?_ ?_; (subst u); rotate_left; clear_value u; intro _) | (refine Ev.cut (z := z) u.1 ?_ ?_; (subst u); rotate_left; clear_value u; intro _) | ((have _ := fun x => u x); subst u) | clear_value u)
    | dsimp only

theorem State.rootFails_ev {z : State} (s : State) (startup : Bool) (hs : Ev z s) : Ev z (State.rootFails s startup) := by
  unfold State.rootFails
  repeat' first
    | with_reducible first | assumption | apply State.logFault_ev | apply State.startFailed_ev

theorem State.startupFault_ev {z : State} (s : State) (f : StartFault) (hs : Ev z s) : Ev z (State.startupFault s f) := by
  unfold State.startupFault
  repeat' first
    | with_reducible first | assumption | apply Ev.ite | apply State.bankEvent_ev | apply State.fenceBench_ev | apply State.logFault_ev | apply State.setBank_ev | apply State.setCause_ev | apply State.setTab_ev
    | refine fun _ => ?_
    | ((try lift_lets); intro u; first | (refine Ev.cut (z := z) u ?_ ?_; (subst u); rotate_left; clear_value u; intro _) | (refine Ev.cut (z := z) u.st ?_ ?_; (subst u); rotate_left; clear_value u; intro _) | (refine Ev.cut (z := z) u.1 ?_ ?_; (subst u); rotate_left; clear_value u; intro _) | ((have _ := fun x => u x); subst u) | clear_value u)
    | dsimp only
    | with_reducible apply Ev.upd

theorem State.startMemories_ev {z : State} (s : State) (enabled : Bool) (bad : List StartFault) (hs : Ev z s) : Ev z (State.startMemories s enabled bad) := by
  unfold State.startMemories
  repeat' first
    | with_reducible first | assumption | apply Ev.ite | apply State.forAll_ev | apply State.clearTab_ev | apply State.setReg_ev | apply State.startupFault_ev
    | refine fun _ => ?_
    | ((try lift_lets); intro u; first | (refine Ev.cut (z := z) u ?_ ?_; (subst u); rotate_left; clear_value u; intro _) | (refine Ev.cut (z := z) u.st ?_ ?_; (subst u); rotate_left; clear_value u; intro _) | (refine Ev.cut (z := z) u.1 ?_ ?_; (subst u); rotate_left; clear_value u; intro _) | ((have _ := fun x => u x); subst u) | clear_value u)

theorem State.reloadFails_ev {z : State} (s : State) (target code detail : Nat) (hs : Ev z s) : Ev z (State.reloadFails s target code detail) := by
  unfold State.reloadFails
  repeat' first
    | with_reducible first | assumption | apply Ev.ite | apply State.logFault_ev | apply State.refreshMicrocode_ev | apply State.setTab_ev
    | refine fun _ => ?_
    | ((try lift_lets); intro u; first | (refine Ev.cut (z := z) u ?_ ?_; (subst u); rotate_left; clear_value u; intro _) | (refine Ev.cut (z := z) u.st ?_ ?_; (subst u); rotate_left; clear_value u; intro _) | (refine Ev.cut (z := z) u.1 ?_ ?_; (subst u); rotate_left; clear_value u; intro _) | ((have _ := fun x => u x); subst u) | clear_value u)

theorem State.loadVendor_ev {z : State} (s : State) (hs : Ev z s) : Ev z (State.loadVendor s) := by
  unfold State.loadVendor
  repeat' first
    | with_reducible first | assumption | apply Ev.ite | apply State.store_ev | apply State.forAll_ev | apply State.reloadFails_ev | apply State.setReg_ev | apply State.setTab_ev
    | refine fun _ => ?_
    | ((try lift_lets); intro u; first | (refine Ev.cut (z := z) u ?_ ?_; (subst u); rotate_left; clear_value u; intro _) | (refine Ev.cut (z := z) u.st ?_ ?_; (subst u); rotate_left; clear_value u; intro _) | (refine Ev.cut (z := z) u.1 ?_ ?_; (subst u); rotate_left; clear_value u; intro _) | ((have _ := fun x => u x); subst u) | clear_value u)
    | dsimp only
    | (with_reducible apply Ev.fst; assumption)
    | split

theorem State.reloadRecord_ev {z : State} (s : State) (i : Nat) (hs : Ev z s) : Ev z (State.reloadRecord s i) := by
  unfold State.reloadRecord
  repeat' first
    | with_reducible first | assumption | apply Ev.ite | apply State.when_ev | apply State.event_ev | apply State.installPackage_ev | apply State.loaderEvent_ev | apply State.reloadFails_ev | apply State.setReg_ev | apply State.writeBayStores_ev
    | refine fun _ => ?_
    | ((try lift_lets); intro u; first | (refine Ev.cut (z := z) u ?_ ?_; (subst u); rotate_left; clear_value u; intro _) | (refine Ev.cut (z := z) u.st ?_ ?_; (subst u); rotate_left; clear_value u; intro _) | (refine Ev.cut (z := z) u.1 ?_ ?_; (subst u); rotate_left; clear_value u; intro _) | ((have _ := fun x => u x); subst u) | clear_value u)
    | dsimp only
    | (with_reducible apply Ev.fst; assumption)
    | split
    | with_reducible apply Ev.upd

theorem State.reloadMicrocode_ev {z : State} (s : State) (hs : Ev z s) : Ev z (State.reloadMicrocode s) := by
  unfold State.reloadMicrocode
  repeat' first
    | with_reducible first | assumption | apply State.when_ev | apply State.forAll_ev | apply State.bump_ev | apply State.loaderEvent_ev | apply State.reloadRecord_ev
    | refine fun _ => ?_
    | ((try lift_lets); intro u; first | (refine Ev.cut (z := z) u ?_ ?_; (subst u); rotate_left; clear_value u; intro _) | (refine Ev.cut (z := z) u.st ?_ ?_; (subst u); rotate_left; clear_value u; intro _) | (refine Ev.cut (z := z) u.1 ?_ ?_; (subst u); rotate_left; clear_value u; intro _) | ((have _ := fun x => u x); subst u) | clear_value u)
    | dsimp only

theorem State.startConfig_ev {z : State} (s : State) (hs : Ev z s) : Ev z (State.startConfig s) := by
  unfold State.startConfig
  repeat' first
    | with_reducible first | assumption | apply Ev.ite | apply State.applyImage_ev | apply State.configInPlace_ev | apply State.setReg_ev
    | refine fun _ => ?_
    | ((try lift_lets); intro u; first | (refine Ev.cut (z := z) u ?_ ?_; (subst u); rotate_left; clear_value u; intro _) | (refine Ev.cut (z := z) u.st ?_ ?_; (subst u); rotate_left; clear_value u; intro _) | (refine Ev.cut (z := z) u.1 ?_ ?_; (subst u); rotate_left; clear_value u; intro _) | ((have _ := fun x => u x); subst u) | clear_value u)
    | dsimp only
    | (with_reducible apply Ev.fst; assumption)
    | split

theorem State.enterOperation_ev {z : State} (s : State) (hs : Ev z s) : Ev z (State.enterOperation s) := by
  unfold State.enterOperation
  repeat' first
    | with_reducible first | assumption | apply State.firstPartner_ev | apply State.hostForms_ev | apply State.setMode_ev

theorem State.coldSteps_ev {z : State} (s : State) (startup : Bool) (env : StartEnv) (hs : Ev z s) : Ev z (State.coldSteps s startup env) := by
  unfold State.coldSteps
  repeat' first
    | with_reducible first | assumption | apply Ev.ite | apply State.coldClear_ev | apply State.endSequence_ev | apply State.refreshClock_ev | apply State.refreshThrottle_ev | apply State.rootFails_ev | apply State.setReg_ev | apply State.setTab_ev | apply State.startMemories_ev
    | refine fun _ => ?_
    | ((try lift_lets); intro u; first | (refine Ev.cut (z := z) u ?_ ?_; (subst u); rotate_left; clear_value u; intro _) | (refine Ev.cut (z := z) u.st ?_ ?_; (subst u); rotate_left; clear_value u; intro _) | (refine Ev.cut (z := z) u.1 ?_ ?_; (subst u); rotate_left; clear_value u; intro _) | ((have _ := fun x => u x); subst u) | clear_value u)

theorem State.startStep_ev {z : State} (s : State) (hs : Ev z s) : Ev z (State.startStep s) := by
  unfold State.startStep
  repeat' first
    | with_reducible first | assumption | apply Ev.ite | apply State.endSequence_ev | apply State.event_ev | apply State.firstPartner_ev | apply State.hostForms_ev | apply State.loadVendor_ev | apply State.reloadMicrocode_ev | apply State.setMode_ev | apply State.setReg_ev | apply State.startConfig_ev
    | refine fun _ => ?_
    | ((try lift_lets); intro u; first | (refine Ev.cut (z := z) u ?_ ?_; (subst u); rotate_left; clear_value u; intro _) | (refine Ev.cut (z := z) u.st ?_ ?_; (subst u); rotate_left; clear_value u; intro _) | (refine Ev.cut (z := z) u.1 ?_ ?_; (subst u); rotate_left; clear_value u; intro _) | ((have _ := fun x => u x); subst u) | clear_value u)

theorem State.resume_ev {z : State} (s : State) (hs : Ev z s) : Ev z (State.resume s) := by
  unfold State.resume
  repeat' first
    | with_reducible first | assumption | apply Ev.ite | apply State.when_ev | apply State.resumeGroups_ev | apply State.setMode_ev | apply State.startStep_ev
    | refine fun _ => ?_
    | dsimp only

theorem State.coldReset_ev {z : State} (s : State) (cause : Nat) (env : StartEnv) (hs : Ev z s) : Ev z (State.coldReset s cause env) := by
  unfold State.coldReset
  repeat' first
    | with_reducible first | assumption | apply State.coldSteps_ev | apply State.hostForms_ev | apply State.resetTaken_ev | apply State.setMode_ev | apply State.setTab_ev | apply State.stopCore_ev
    | ((try lift_lets); intro u; first | (refine Ev.cut (z := z) u ?_ ?_; (subst u); rotate_left; clear_value u; intro _) | (refine Ev.cut (z := z) u.st ?_ ?_; (subst u); rotate_left; clear_value u; intro _) | (refine Ev.cut (z := z) u.1 ?_ ?_; (subst u); rotate_left; clear_value u; intro _) | ((have _ := fun x => u x); subst u) | clear_value u)

theorem State.wakeSteps_ev {z : State} (s : State) (env : StartEnv) (hs : Ev z s) : Ev z (State.wakeSteps s env) := by
  unfold State.wakeSteps
  repeat' first
    | with_reducible first | assumption | apply Ev.ite | apply State.coldSteps_ev | apply State.configInPlace_ev | apply State.drew_ev | apply State.endSequence_ev | apply State.enterOperation_ev | apply State.logFault_ev | apply State.refreshClock_ev | apply State.refreshMicrocode_ev | apply State.resetTaken_ev | apply State.rootFails_ev | apply State.setCause_ev | apply State.setReg_ev | apply State.wakeClear_ev
    | refine fun _ => ?_
    | ((try lift_lets); intro u; first | (refine Ev.cut (z := z) u ?_ ?_; (subst u); rotate_left; clear_value u; intro _) | (refine Ev.cut (z := z) u.st ?_ ?_; (subst u); rotate_left; clear_value u; intro _) | (refine Ev.cut (z := z) u.1 ?_ ?_; (subst u); rotate_left; clear_value u; intro _) | ((have _ := fun x => u x); subst u) | clear_value u)

theorem State.wakeBegin_ev {z : State} (s : State) (hs : Ev z s) : Ev z (State.wakeBegin s) := by
  unfold State.wakeBegin
  repeat' first
    | with_reducible first | assumption | apply State.commandSupplies_ev | apply State.resetTaken_ev | apply State.setMode_ev | apply State.setReg_ev | apply State.setTab_ev
    | ((try lift_lets); intro u; first | (refine Ev.cut (z := z) u ?_ ?_; (subst u); rotate_left; clear_value u; intro _) | (refine Ev.cut (z := z) u.st ?_ ?_; (subst u); rotate_left; clear_value u; intro _) | (refine Ev.cut (z := z) u.1 ?_ ?_; (subst u); rotate_left; clear_value u; intro _) | ((have _ := fun x => u x); subst u) | clear_value u)

theorem State.stepDown_ev {z : State} (s : State) (seq : Nat) (hs : Ev z s) : Ev z (State.stepDown s seq) := by
  unfold State.stepDown
  repeat' first
    | with_reducible first | assumption | apply State.commandSupplies_ev | apply State.hostForms_ev | apply State.setReg_ev | apply State.setTab_ev | apply State.stopCore_ev
    | refine fun _ => ?_
    | ((try lift_lets); intro u; first | (refine Ev.cut (z := z) u ?_ ?_; (subst u); rotate_left; clear_value u; intro _) | (refine Ev.cut (z := z) u.st ?_ ?_; (subst u); rotate_left; clear_value u; intro _) | (refine Ev.cut (z := z) u.1 ?_ ?_; (subst u); rotate_left; clear_value u; intro _) | ((have _ := fun x => u x); subst u) | clear_value u)
    | dsimp only

theorem State.nextRail_ev {z : State} (s : State) (x : Nat) (env : StartEnv) (hs : Ev z s) : Ev z (State.nextRail s x env) := by
  unfold State.nextRail
  repeat' first
    | with_reducible first | assumption | apply Ev.ite | apply State.coldSteps_ev | apply State.commandSupplies_ev | apply State.endSequence_ev | apply State.enterStandby_ev | apply State.setMode_ev | apply State.setReg_ev | apply State.wakeSteps_ev
    | refine fun _ => ?_
    | ((try lift_lets); intro u; first | (refine Ev.cut (z := z) u ?_ ?_; (subst u); rotate_left; clear_value u; intro _) | (refine Ev.cut (z := z) u.st ?_ ?_; (subst u); rotate_left; clear_value u; intro _) | (refine Ev.cut (z := z) u.1 ?_ ?_; (subst u); rotate_left; clear_value u; intro _) | ((have _ := fun x => u x); subst u) | clear_value u)
    | dsimp only
    | (with_reducible apply Ev.fst; assumption)
    | split

theorem execRailArrived_ev {z : State} (supply : Fin 6) (env : StartEnv) (s : State) (hs : Ev z s) : EvN z (execRailArrived supply env s) := by
  unfold execRailArrived
  repeat' first
    | with_reducible first | assumption | apply Ev.ite | apply Ev.ite_st | apply EvN.ite | apply EvN.done | apply EvN.next | apply EvN.res | apply Res.done_ev | apply State.nextRail_ev | apply State.setTab_ev
    | refine fun _ => ?_
    | ((try lift_lets); intro u; first | (refine Ev.cut (z := z) u ?_ ?_; (subst u); rotate_left; clear_value u; intro _) | (refine Ev.cut (z := z) u.st ?_ ?_; (subst u); rotate_left; clear_value u; intro _) | (refine Ev.cut (z := z) u.1 ?_ ?_; (subst u); rotate_left; clear_value u; intro _) | ((have _ := fun x => u x); subst u) | clear_value u)

theorem execRailTimeout_ev {z : State} (supply : Fin 6) (s : State) (hs : Ev z s) : EvN z (execRailTimeout supply s) := by
  unfold execRailTimeout
  repeat' first
    | with_reducible first | assumption | apply Ev.ite | apply Ev.ite_st | apply EvN.ite | apply EvN.done | apply EvN.next | apply EvN.res | apply Res.done_ev | apply State.logFault_ev | apply State.startFailed_ev
    | refine fun _ => ?_
    | ((try lift_lets); intro u; first | (refine Ev.cut (z := z) u ?_ ?_; (subst u); rotate_left; clear_value u; intro _) | (refine Ev.cut (z := z) u.st ?_ ?_; (subst u); rotate_left; clear_value u; intro _) | (refine Ev.cut (z := z) u.1 ?_ ?_; (subst u); rotate_left; clear_value u; intro _) | ((have _ := fun x => u x); subst u) | clear_value u)
    | dsimp only
    | (with_reducible apply Ev.fst; assumption)
    | split

theorem State.settleFatal_ev {z : State} (s : State) (env : StartEnv) (hs : Ev z s) : Ev z (State.settleFatal s env) := by
  unfold State.settleFatal
  repeat' first
    | with_reducible first | assumption | apply Ev.ite | apply State.coldReset_ev | apply State.railsOff_ev | apply State.setTab_ev | apply State.warmReset_ev
    | refine fun _ => ?_
    | ((try lift_lets); intro u; first | (refine Ev.cut (z := z) u ?_ ?_; (subst u); rotate_left; clear_value u; intro _) | (refine Ev.cut (z := z) u.st ?_ ?_; (subst u); rotate_left; clear_value u; intro _) | (refine Ev.cut (z := z) u.1 ?_ ?_; (subst u); rotate_left; clear_value u; intro _) | ((have _ := fun x => u x); subst u) | clear_value u)

theorem execRefOutOfRange_ev {z : State} (ppm : Nat) (lost settled : Bool) (s : State) (hs : Ev z s) : EvN z (execRefOutOfRange ppm lost settled s) := by
  unfold execRefOutOfRange
  repeat' first
    | with_reducible first | assumption | apply EvN.done | apply Res.done_ev | apply State.refCheck_ev

theorem execRootUnlock_ev {z : State} (env : StartEnv) (s : State) (hs : Ev z s) : EvN z (execRootUnlock env s) := by
  unfold execRootUnlock
  repeat' first
    | with_reducible first | assumption | apply Ev.ite | apply Ev.ite_st | apply EvN.ite | apply EvN.done | apply EvN.next | apply EvN.res | apply Res.done_ev | apply State.fatalFault_ev | apply State.settleFatal_ev
    | refine fun _ => ?_

theorem execThermtrip_ev {z : State} (sensor : Fin 24) (reading : Nat) (s : State) (hs : Ev z s) : EvN z (execThermtrip sensor reading s) := by
  unfold execThermtrip
  repeat' first
    | with_reducible first | assumption | apply Ev.ite | apply Ev.ite_st | apply EvN.ite | apply EvN.done | apply EvN.next | apply EvN.res | apply Res.done_ev | apply State.event_ev | apply State.logFault_ev | apply State.railsOff_ev | apply State.setReg_ev
    | refine fun _ => ?_
    | ((try lift_lets); intro u; first | (refine Ev.cut (z := z) u ?_ ?_; (subst u); rotate_left; clear_value u; intro _) | (refine Ev.cut (z := z) u.st ?_ ?_; (subst u); rotate_left; clear_value u; intro _) | (refine Ev.cut (z := z) u.1 ?_ ?_; (subst u); rotate_left; clear_value u; intro _) | ((have _ := fun x => u x); subst u) | clear_value u)

theorem thermtripClearEffect_ev {z : State} (v : Nat) (s : State) (hs : Ev z s) : Ev z (thermtripClearEffect v s).st := by
  unfold thermtripClearEffect
  repeat' first
    | with_reducible first | assumption | apply Ev.ite | apply Ev.ite_st | apply Ev.done | apply Ev.fail | apply Res.done_ev | apply Res.fail_ev | apply State.setReg_ev
    | refine fun _ => ?_
    | ((try lift_lets); intro u; first | (refine Ev.cut (z := z) u ?_ ?_; (subst u); rotate_left; clear_value u; intro _) | (refine Ev.cut (z := z) u.st ?_ ?_; (subst u); rotate_left; clear_value u; intro _) | (refine Ev.cut (z := z) u.1 ?_ ?_; (subst u); rotate_left; clear_value u; intro _) | ((have _ := fun x => u x); subst u) | clear_value u)
    | dsimp only

theorem execThermtripClear_ev {z : State} (w : SessionNo) (s : State) (hs : Ev z s) : EvN z (execThermtripClear w s) := by
  unfold execThermtripClear
  repeat' first
    | with_reducible first | assumption | apply EvN.next | apply EvN.res | apply State.hostWrite_ev | apply thermtripClearEffect_ev

theorem execCoreSupplyLost_ev {z : State} (s : State) (hs : Ev z s) : EvN z (execCoreSupplyLost s) := by
  unfold execCoreSupplyLost
  repeat' first
    | with_reducible first | assumption | apply Ev.ite | apply Ev.ite_st | apply EvN.ite | apply EvN.done | apply EvN.next | apply EvN.res | apply Res.done_ev | apply State.railsOff_ev
    | refine fun _ => ?_

theorem State.islandCleared_ev {z : State} (s : State) (hs : Ev z s) : Ev z (State.islandCleared s) :=
  ⟨hs.pending, fun h => SMap.wf_filter _ (hs.regs h), fun h => SMap.wf_filter _ (hs.tabs h), fun h => SMap.wf_filter _ (hs.mem h),
    fun _ => rfl⟩

theorem State.islandBegin_ev {z : State} (s : State) (cause : Nat) (keyHeld : Bool) (hs : Ev z s) : Ev z (State.islandBegin s cause keyHeld) := by
  unfold State.islandBegin
  repeat' first
    | with_reducible first | assumption | apply Ev.ite | apply State.store_ev | apply State.when_ev | apply State.drew_ev | apply State.hostForms_ev | apply State.refreshNewest_ev | apply State.setReg_ev | apply State.setTab_ev | apply State.startBegin_ev
    | refine fun _ => ?_
    | ((try lift_lets); intro u; first | (refine Ev.cut (z := z) u ?_ ?_; (subst u); rotate_left; clear_value u; intro _) | (refine Ev.cut (z := z) u.st ?_ ?_; (subst u); rotate_left; clear_value u; intro _) | (refine Ev.cut (z := z) u.1 ?_ ?_; (subst u); rotate_left; clear_value u; intro _) | ((have _ := fun x => u x); subst u) | clear_value u)
    | dsimp only

theorem State.windowClosed_ev {z : State} (s old : State) (hs : Ev z s) (hold : Ev z old) : Ev z (State.windowClosed s old) := by
  unfold State.windowClosed
  repeat' first
    | with_reducible first | assumption | apply State.when_ev | apply State.event_ev
    | refine fun _ => ?_
    | dsimp only

theorem State.islandReset_ev {z : State} (s : State) (cause : Nat) (hs : Ev z s) : Ev z (State.islandReset s cause) := by
  unfold State.islandReset
  repeat' first
    | with_reducible first | assumption | apply State.islandBegin_ev | apply State.islandCleared_ev | apply State.windowClosed_ev

theorem execIslandStart_ev {z : State} (byPin : Bool) (straps : Fin 8) (keyHeld firmwareOk : Bool) (s : State) (hs : Ev z s) : EvN z (execIslandStart byPin straps keyHeld firmwareOk s) := by
  unfold execIslandStart
  repeat' first
    | with_reducible first | assumption | apply Ev.ite | apply Ev.ite_st | apply EvN.ite | apply EvN.done | apply State.store_ev | apply Res.done_ev | apply State.islandBegin_ev | apply State.islandCleared_ev | apply State.setReg_ev | apply State.setTab_ev | apply State.windowClosed_ev
    | refine fun _ => ?_
    | ((try lift_lets); intro u; first | (refine Ev.cut (z := z) u ?_ ?_; (subst u); rotate_left; clear_value u; intro _) | (refine Ev.cut (z := z) u.st ?_ ?_; (subst u); rotate_left; clear_value u; intro _) | (refine Ev.cut (z := z) u.1 ?_ ?_; (subst u); rotate_left; clear_value u; intro _) | ((have _ := fun x => u x); subst u) | clear_value u)

theorem execIslandWatchdog_ev {z : State} (pc : Nat) (s : State) (hs : Ev z s) : EvN z (execIslandWatchdog pc s) := by
  unfold execIslandWatchdog
  repeat' first
    | with_reducible first | assumption | apply EvN.done | apply Res.done_ev | apply State.islandReset_ev | apply State.logFault_ev

theorem execVauxLost_ev {z : State} (s : State) (hs : Ev z s) : EvN z (execVauxLost s) := by
  unfold execVauxLost
  repeat' first
    | with_reducible first | assumption | apply EvN.done | apply Res.done_ev | apply State.islandCleared_ev

theorem startupCommandEffect_ev {z : State} (v : Nat) (s : State) (hs : Ev z s) : Ev z (startupCommandEffect v s).st := by
  unfold startupCommandEffect
  repeat' first
    | with_reducible first | assumption | apply Ev.ite | apply Ev.ite_st | apply Ev.done | apply Ev.fail | apply Res.done_ev | apply Res.fail_ev | apply State.startBegin_ev | apply State.wakeBegin_ev | apply State.warmReset_ev
    | refine fun _ => ?_

theorem protectedCommandEffect_ev {z : State} (v : Nat) (env : StartEnv) (s : State) (hs : Ev z s) : Ev z (protectedCommandEffect v env s).st := by
  unfold protectedCommandEffect
  repeat' first
    | with_reducible first | assumption | apply Ev.ite | apply Ev.ite_st | apply Ev.done | apply Ev.fail | apply Res.done_ev | apply Res.fail_ev | apply State.coldReset_ev | apply State.islandReset_ev | apply State.stepDown_ev
    | refine fun _ => ?_

theorem protectedWriteEffect_ev {z : State} (v : Nat) (s : State) (hs : Ev z s) : Ev z (protectedWriteEffect v s).st := by
  unfold protectedWriteEffect
  repeat' first
    | with_reducible first | assumption | apply Ev.ite | apply Ev.ite_st | apply Ev.done | apply Res.done_ev | apply State.islandReset_ev | apply State.setTab_ev | apply protectedCommandEffect_ev
    | refine fun _ => ?_
    | dsimp only

theorem execStart_ev {z : State} (w : SessionNo) (s : State) (hs : Ev z s) : EvN z (execStart w s) := by
  unfold execStart
  repeat' first
    | with_reducible first | assumption | apply EvN.next | apply EvN.res | apply State.hostWrite_ev | apply startupCommandEffect_ev

theorem execWake_ev {z : State} (w : SessionNo) (s : State) (hs : Ev z s) : EvN z (execWake w s) := by
  unfold execWake
  repeat' first
    | with_reducible first | assumption | apply EvN.next | apply EvN.res | apply State.hostWrite_ev | apply startupCommandEffect_ev

theorem execWarmReset_ev {z : State} (w : SessionNo) (s : State) (hs : Ev z s) : EvN z (execWarmReset w s) := by
  unfold execWarmReset
  repeat' first
    | with_reducible first | assumption | apply EvN.next | apply EvN.res | apply State.hostWrite_ev | apply startupCommandEffect_ev

theorem execStandby_ev {z : State} (w : SessionNo) (s : State) (hs : Ev z s) : EvN z (execStandby w s) := by
  unfold execStandby
  repeat' first
    | with_reducible first | assumption | apply EvN.next | apply EvN.res | apply State.hostWrite_ev | apply protectedCommandEffect_ev
    | dsimp only

theorem execRetain_ev {z : State} (w : SessionNo) (s : State) (hs : Ev z s) : EvN z (execRetain w s) := by
  unfold execRetain
  repeat' first
    | with_reducible first | assumption | apply EvN.next | apply EvN.res | apply State.hostWrite_ev | apply protectedCommandEffect_ev
    | dsimp only

theorem execColdReset_ev {z : State} (w : SessionNo) (env : StartEnv) (s : State) (hs : Ev z s) : EvN z (execColdReset w env s) := by
  unfold execColdReset
  repeat' first
    | with_reducible first | assumption | apply EvN.next | apply EvN.res | apply State.hostWrite_ev | apply protectedCommandEffect_ev

theorem execIslandReset_ev {z : State} (w : SessionNo) (s : State) (hs : Ev z s) : EvN z (execIslandReset w s) := by
  unfold execIslandReset
  repeat' first
    | with_reducible first | assumption | apply EvN.next | apply EvN.res | apply State.hostWrite_ev | apply protectedCommandEffect_ev
    | dsimp only

theorem clearBreachEffect_ev {z : State} (v : Nat) (s : State) (hs : Ev z s) : Ev z (clearBreachEffect v s).st := by
  unfold clearBreachEffect
  repeat' first
    | with_reducible first | assumption | apply Ev.done | apply State.when_ev | apply Res.done_ev | apply State.setCause_ev
    | refine fun _ => ?_
    | dsimp only

theorem execClearBreach_ev {z : State} (w : SessionNo) (s : State) (hs : Ev z s) : EvN z (execClearBreach w s) := by
  unfold execClearBreach
  repeat' first
    | with_reducible first | assumption | apply EvN.next | apply EvN.res | apply State.hostWrite_ev | apply clearBreachEffect_ev

theorem clearPersistedEffect_ev {z : State} (v : Nat) (s : State) (hs : Ev z s) : Ev z (clearPersistedEffect v s).st := by
  unfold clearPersistedEffect
  repeat' first
    | with_reducible first | assumption | apply Ev.done | apply State.when_ev | apply Res.done_ev | apply State.clearTab_ev | apply State.setReg_ev
    | refine fun _ => ?_
    | dsimp only

theorem execClearPersisted_ev {z : State} (w : SessionNo) (s : State) (hs : Ev z s) : EvN z (execClearPersisted w s) := by
  unfold execClearPersisted
  repeat' first
    | with_reducible first | assumption | apply EvN.next | apply EvN.res | apply State.hostWrite_ev | apply clearPersistedEffect_ev

theorem State.setFirmware_ev {z : State} (s : State) (k v : Nat) (hs : Ev z s) : Ev z (State.setFirmware s k v) := by
  unfold State.setFirmware
  repeat' first
    | with_reducible first | assumption | apply Ev.ite | apply State.setReg_ev
    | refine fun _ => ?_

theorem State.discardFirmware_ev {z : State} (s : State) (hs : Ev z s) : Ev z (State.discardFirmware s) := by
  unfold State.discardFirmware
  repeat' first
    | with_reducible first | assumption | apply State.store_ev | apply State.when_ev | apply State.setReg_ev | apply State.setTab_ev
    | refine fun _ => ?_
    | dsimp only

theorem firmwareImportEffect_ev {z : State} (off : Nat) (data : Bytes) (s : State) (hs : Ev z s) : Ev z (firmwareImportEffect off data s).st := by
  unfold firmwareImportEffect
  repeat' first
    | with_reducible first | assumption | apply Ev.ite | apply Ev.ite_st | apply Ev.done | apply Ev.fail | apply State.store_ev | apply Res.done_ev | apply Res.fail_ev | apply State.drew_ev | apply State.putBytes_ev | apply State.setFirmware_ev | apply State.setReg_ev | apply State.setTab_ev
    | refine fun _ => ?_
    | ((try lift_lets); intro u; first | (refine Ev.cut (z := z) u ?_ ?_; (subst u); rotate_left; clear_value u; intro _) | (refine Ev.cut (z := z) u.st ?_ ?_; (subst u); rotate_left; clear_value u; intro _) | (refine Ev.cut (z := z) u.1 ?_ ?_; (subst u); rotate_left; clear_value u; intro _) | ((have _ := fun x => u x); subst u) | clear_value u)

theorem execFirmwareImport_ev {z : State} (w : SessionNo) (offset : Nat) (data : Bytes) (s : State) (hs : Ev z s) : EvN z (execFirmwareImport w offset data s) := by
  unfold execFirmwareImport
  repeat' first
    | with_reducible first | assumption | apply EvN.next | apply EvN.res | apply State.hostBlockWrite_ev | apply firmwareImportEffect_ev

theorem firmwareCommandEffect_ev {z : State} (v : Nat) (s : State) (hs : Ev z s) : Ev z (firmwareCommandEffect v s).st := by
  unfold firmwareCommandEffect
  repeat' first
    | with_reducible first | assumption | apply Ev.ite | apply Ev.ite_st | apply Ev.done | apply Ev.fail | apply Res.done_ev | apply Res.fail_ev | apply State.setReg_ev
    | refine fun _ => ?_

theorem execAccept_ev {z : State} (w : SessionNo) (s : State) (hs : Ev z s) : EvN z (execAccept w s) := by
  unfold execAccept
  repeat' first
    | with_reducible first | assumption | apply EvN.next | apply EvN.res | apply State.hostWrite_ev | apply firmwareCommandEffect_ev

theorem execFirmwareCheckDone_ev {z : State} (result : Fin 4) (version : Nat) (s : State) (hs : Ev z s) : EvN z (execFirmwareCheckDone result version s) := by
  unfold execFirmwareCheckDone
  repeat' first
    | with_reducible first | assumption | apply Ev.ite | apply Ev.ite_st | apply EvN.ite | apply EvN.done | apply EvN.next | apply EvN.res | apply State.store_ev | apply State.when_ev | apply Res.done_ev | apply State.event_ev | apply State.setFirmware_ev | apply State.setReg_ev | apply State.setTab_ev
    | refine fun _ => ?_
    | ((try lift_lets); intro u; first | (refine Ev.cut (z := z) u ?_ ?_; (subst u); rotate_left; clear_value u; intro _) | (refine Ev.cut (z := z) u.st ?_ ?_; (subst u); rotate_left; clear_value u; intro _) | (refine Ev.cut (z := z) u.1 ?_ ?_; (subst u); rotate_left; clear_value u; intro _) | ((have _ := fun x => u x); subst u) | clear_value u)
    | dsimp only
    | (with_reducible apply Ev.fst; assumption)
    | split

end Sys2Proof.Machine
end

