-- ==== Sys2Proof/Laws/EvPresence.lean ====
section
/-!
SUPPORT. The commands keep the invariants (Laws/Evolve.lean): the operations of Machine/Presence.lean.
-/
namespace Sys2Proof.Machine

theorem State.securityEvent_ev {z : State} (s : State) (i : Nat) (hs : Ev z s) : Ev z (State.securityEvent s i) := by
  unfold State.securityEvent
  repeat' first
    | with_reducible first | assumption | apply State.event_ev

theorem State.loadRemaining_ev {z : State} (s : State) (hs : Ev z s) : Ev z (State.loadRemaining s) := by
  unfold State.loadRemaining
  repeat' first
    | with_reducible first | assumption | apply State.setReg_ev

theorem State.openPresence_ev {z : State} (s : State) (hs : Ev z s) : Ev z (State.openPresence s) := by
  unfold State.openPresence
  repeat' first
    | with_reducible first | assumption | apply State.bump_ev | apply State.loadRemaining_ev | apply State.securityEvent_ev | apply State.setReg_ev | apply State.setTab_ev
    | ((try lift_lets); intro u; first | (refine Ev.cut (z := z) u ?_ ?_; (subst u); rotate_left; clear_value u; intro _) | (refine Ev.cut (z := z) u.st ?_ ?_; (subst u); rotate_left; clear_value u; intro _) | (refine Ev.cut (z := z) u.1 ?_ ?_; (subst u); rotate_left; clear_value u; intro _) | ((have _ := fun x => u x); subst u) | clear_value u)

theorem State.lapse_ev {z : State} (s : State) (hs : Ev z s) : Ev z (State.lapse s) := by
  unfold State.lapse
  repeat' first
    | with_reducible first | assumption | apply State.when_ev | apply State.forAll_ev | apply State.discardFirmware_ev | apply State.discardImport_ev | apply State.discardPackage_ev
    | refine fun _ => ?_
    | ((try lift_lets); intro u; first | (refine Ev.cut (z := z) u ?_ ?_; (subst u); rotate_left; clear_value u; intro _) | (refine Ev.cut (z := z) u.st ?_ ?_; (subst u); rotate_left; clear_value u; intro _) | (refine Ev.cut (z := z) u.1 ?_ ?_; (subst u); rotate_left; clear_value u; intro _) | ((have _ := fun x => u x); subst u) | clear_value u)
    | dsimp only
    | with_reducible apply Ev.upd

theorem State.closePresence_ev {z : State} (s : State) (hs : Ev z s) : Ev z (State.closePresence s) := by
  unfold State.closePresence
  repeat' first
    | with_reducible first | assumption | apply Ev.ite | apply State.lapse_ev | apply State.securityEvent_ev | apply State.setReg_ev
    | refine fun _ => ?_

theorem execKeyAsserted_ev {z : State} (s : State) (hs : Ev z s) : EvN z (execKeyAsserted s) := by
  unfold execKeyAsserted
  repeat' first
    | with_reducible first | assumption | apply Ev.ite | apply Ev.ite_st | apply EvN.ite | apply EvN.done | apply EvN.next | apply EvN.res | apply State.when_ev | apply Res.done_ev | apply State.loadRemaining_ev | apply State.openPresence_ev | apply State.setReg_ev
    | refine fun _ => ?_
    | ((try lift_lets); intro u; first | (refine Ev.cut (z := z) u ?_ ?_; (subst u); rotate_left; clear_value u; intro _) | (refine Ev.cut (z := z) u.st ?_ ?_; (subst u); rotate_left; clear_value u; intro _) | (refine Ev.cut (z := z) u.1 ?_ ?_; (subst u); rotate_left; clear_value u; intro _) | ((have _ := fun x => u x); subst u) | clear_value u)
    | dsimp only

theorem execKeyReleased_ev {z : State} (s : State) (hs : Ev z s) : EvN z (execKeyReleased s) := by
  unfold execKeyReleased
  repeat' first
    | with_reducible first | assumption | apply Ev.ite | apply Ev.ite_st | apply EvN.ite | apply EvN.done | apply EvN.next | apply EvN.res | apply State.when_ev | apply Res.done_ev | apply State.closePresence_ev | apply State.setReg_ev
    | refine fun _ => ?_
    | ((try lift_lets); intro u; first | (refine Ev.cut (z := z) u ?_ ?_; (subst u); rotate_left; clear_value u; intro _) | (refine Ev.cut (z := z) u.st ?_ ?_; (subst u); rotate_left; clear_value u; intro _) | (refine Ev.cut (z := z) u.1 ?_ ?_; (subst u); rotate_left; clear_value u; intro _) | ((have _ := fun x => u x); subst u) | clear_value u)
    | dsimp only

theorem execPresenceWindowExpiry_ev {z : State} (s : State) (hs : Ev z s) : EvN z (execPresenceWindowExpiry s) := by
  unfold execPresenceWindowExpiry
  repeat' first
    | with_reducible first | assumption | apply Ev.ite | apply Ev.ite_st | apply EvN.ite | apply EvN.done | apply EvN.next | apply EvN.res | apply Res.done_ev | apply State.closePresence_ev
    | refine fun _ => ?_

theorem presenceCloseEffect_ev {z : State} (v : Nat) (s : State) (hs : Ev z s) : Ev z (presenceCloseEffect v s).st := by
  unfold presenceCloseEffect
  repeat' first
    | with_reducible first | assumption | apply Ev.done | apply State.when_ev | apply Res.done_ev | apply State.closePresence_ev
    | refine fun _ => ?_
    | dsimp only

theorem execPresenceClose_ev {z : State} (w : SessionNo) (s : State) (hs : Ev z s) : EvN z (execPresenceClose w s) := by
  unfold execPresenceClose
  repeat' first
    | with_reducible first | assumption | apply EvN.next | apply EvN.res | apply State.hostWrite_ev | apply presenceCloseEffect_ev

theorem State.setLife_ev {z : State} (s : State) (v : Nat) (hs : Ev z s) : Ev z (State.setLife s v) := by
  unfold State.setLife
  repeat' first
    | with_reducible first | assumption | apply State.bump_ev | apply State.securityEvent_ev | apply State.setReg_ev
    | ((try lift_lets); intro u; first | (refine Ev.cut (z := z) u ?_ ?_; (subst u); rotate_left; clear_value u; intro _) | (refine Ev.cut (z := z) u.st ?_ ?_; (subst u); rotate_left; clear_value u; intro _) | (refine Ev.cut (z := z) u.1 ?_ ?_; (subst u); rotate_left; clear_value u; intro _) | ((have _ := fun x => u x); subst u) | clear_value u)

theorem State.emptyKey_ev {z : State} (s : State) (k : Nat) (hs : Ev z s) : Ev z (State.emptyKey s k) := by
  unfold State.emptyKey
  repeat' first
    | with_reducible first | assumption | apply State.forAll_ev | apply State.resetReg_ev
    | refine fun _ => ?_

theorem State.askWipe_ev {z : State} (s : State) (commanded : Bool) (hs : Ev z s) : Ev z (State.askWipe s commanded) := by
  unfold State.askWipe
  repeat' first
    | with_reducible first | assumption | apply State.when_ev | apply State.setTab_ev
    | refine fun _ => ?_
    | dsimp only

theorem State.decommission_ev {z : State} (s : State) (hs : Ev z s) : Ev z (State.decommission s) := by
  unfold State.decommission
  repeat' first
    | with_reducible first | assumption | apply State.forAll_ev | apply State.askWipe_ev | apply State.clearConfig_ev | apply State.clearSavedStart_ev | apply State.emptyKey_ev | apply State.setLife_ev
    | refine fun _ => ?_
    | ((try lift_lets); intro u; first | (refine Ev.cut (z := z) u ?_ ?_; (subst u); rotate_left; clear_value u; intro _) | (refine Ev.cut (z := z) u.st ?_ ?_; (subst u); rotate_left; clear_value u; intro _) | (refine Ev.cut (z := z) u.1 ?_ ?_; (subst u); rotate_left; clear_value u; intro _) | ((have _ := fun x => u x); subst u) | clear_value u)

theorem lifecycleEffect_ev {z : State} (v : Nat) (s : State) (hs : Ev z s) : Ev z (lifecycleEffect v s).st := by
  unfold lifecycleEffect
  repeat' first
    | with_reducible first | assumption | apply Ev.ite | apply Ev.ite_st | apply Ev.done | apply Ev.fail | apply Res.done_ev | apply Res.fail_ev | apply State.decommission_ev | apply State.setLife_ev
    | refine fun _ => ?_
    | ((try lift_lets); intro u; first | (refine Ev.cut (z := z) u ?_ ?_; (subst u); rotate_left; clear_value u; intro _) | (refine Ev.cut (z := z) u.st ?_ ?_; (subst u); rotate_left; clear_value u; intro _) | (refine Ev.cut (z := z) u.1 ?_ ?_; (subst u); rotate_left; clear_value u; intro _) | ((have _ := fun x => u x); subst u) | clear_value u)
    | dsimp only

theorem execEnrol_ev {z : State} (w : SessionNo) (s : State) (hs : Ev z s) : EvN z (execEnrol w s) := by
  unfold execEnrol
  repeat' first
    | with_reducible first | assumption | apply EvN.next | apply EvN.res | apply State.hostWrite_ev | apply lifecycleEffect_ev

theorem execRearm_ev {z : State} (w : SessionNo) (s : State) (hs : Ev z s) : EvN z (execRearm w s) := by
  unfold execRearm
  repeat' first
    | with_reducible first | assumption | apply EvN.next | apply EvN.res | apply State.hostWrite_ev | apply lifecycleEffect_ev

theorem execDecommission_ev {z : State} (w : SessionNo) (s : State) (hs : Ev z s) : EvN z (execDecommission w s) := by
  unfold execDecommission
  repeat' first
    | with_reducible first | assumption | apply EvN.next | apply EvN.res | apply State.hostWrite_ev | apply lifecycleEffect_ev

theorem execReturnToFactory_ev {z : State} (w : SessionNo) (s : State) (hs : Ev z s) : EvN z (execReturnToFactory w s) := by
  unfold execReturnToFactory
  repeat' first
    | with_reducible first | assumption | apply EvN.next | apply EvN.res | apply State.hostWrite_ev | apply lifecycleEffect_ev

theorem publicEffect_ev {z : State} (k key : Nat) (s : State) (hs : Ev z s) : Ev z (publicEffect k key s).st := by
  unfold publicEffect
  repeat' first
    | with_reducible first | assumption | apply Ev.ite | apply Ev.ite_st | apply Ev.done | apply Ev.fail | apply Res.done_ev | apply Res.fail_ev | apply State.setReg_ev
    | refine fun _ => ?_
    | ((try lift_lets); intro u; first | (refine Ev.cut (z := z) u ?_ ?_; (subst u); rotate_left; clear_value u; intro _) | (refine Ev.cut (z := z) u.st ?_ ?_; (subst u); rotate_left; clear_value u; intro _) | (refine Ev.cut (z := z) u.1 ?_ ?_; (subst u); rotate_left; clear_value u; intro _) | ((have _ := fun x => u x); subst u) | clear_value u)

theorem execPublicKey_ev {z : State} (w : SessionNo) (slot : Fin 4) (key : Nat) (s : State) (hs : Ev z s) : EvN z (execPublicKey w slot key s) := by
  unfold execPublicKey
  repeat' first
    | with_reducible first | assumption | apply EvN.next | apply EvN.res | apply State.hostWrite_ev | apply publicEffect_ev

theorem revokeEffect_ev {z : State} (k v : Nat) (s : State) (hs : Ev z s) : Ev z (revokeEffect k v s).st := by
  unfold revokeEffect
  repeat' first
    | with_reducible first | assumption | apply Ev.ite | apply Ev.ite_st | apply Ev.done | apply Ev.fail | apply Res.done_ev | apply Res.fail_ev | apply State.emptyKey_ev
    | refine fun _ => ?_

theorem execRevoke_ev {z : State} (w : SessionNo) (slot : Fin 4) (s : State) (hs : Ev z s) : EvN z (execRevoke w slot s) := by
  unfold execRevoke
  repeat' first
    | with_reducible first | assumption | apply EvN.next | apply EvN.res | apply State.hostWrite_ev | apply revokeEffect_ev

theorem State.setSeal_ev {z : State} (s : State) (k v : Nat) (hs : Ev z s) : Ev z (State.setSeal s k v) := by
  unfold State.setSeal
  repeat' first
    | with_reducible first | assumption | apply State.setTab_ev

theorem State.pairMismatch_ev {z : State} (s : State) (hs : Ev z s) : Ev z (State.pairMismatch s) := by
  unfold State.pairMismatch
  repeat' first
    | with_reducible first | assumption | apply Ev.ite | apply State.when_ev | apply State.setSeal_ev
    | refine fun _ => ?_
    | ((try lift_lets); intro u; first | (refine Ev.cut (z := z) u ?_ ?_; (subst u); rotate_left; clear_value u; intro _) | (refine Ev.cut (z := z) u.st ?_ ?_; (subst u); rotate_left; clear_value u; intro _) | (refine Ev.cut (z := z) u.1 ?_ ?_; (subst u); rotate_left; clear_value u; intro _) | ((have _ := fun x => u x); subst u) | clear_value u)
    | dsimp only

theorem State.pairDone_ev {z : State} (s : State) (hs : Ev z s) : Ev z (State.pairDone s) := by
  unfold State.pairDone
  repeat' first
    | with_reducible first | assumption | apply Ev.ite | apply State.when_ev | apply State.setSeal_ev
    | refine fun _ => ?_
    | ((try lift_lets); intro u; first | (refine Ev.cut (z := z) u ?_ ?_; (subst u); rotate_left; clear_value u; intro _) | (refine Ev.cut (z := z) u.st ?_ ?_; (subst u); rotate_left; clear_value u; intro _) | (refine Ev.cut (z := z) u.1 ?_ ?_; (subst u); rotate_left; clear_value u; intro _) | ((have _ := fun x => u x); subst u) | clear_value u)
    | dsimp only
    | (with_reducible apply Ev.fst; assumption)
    | split

theorem execSealSample_ev {z : State} (level : Bool) (s : State) (hs : Ev z s) : EvN z (execSealSample level s) := by
  unfold execSealSample
  repeat' first
    | with_reducible first | assumption | apply Ev.ite | apply Ev.ite_st | apply EvN.ite | apply EvN.done | apply State.when_ev | apply Res.done_ev | apply State.bump_ev | apply State.pairDone_ev | apply State.pairMismatch_ev | apply State.setSeal_ev
    | refine fun _ => ?_
    | ((try lift_lets); intro u; first | (refine Ev.cut (z := z) u ?_ ?_; (subst u); rotate_left; clear_value u; intro _) | (refine Ev.cut (z := z) u.st ?_ ?_; (subst u); rotate_left; clear_value u; intro _) | (refine Ev.cut (z := z) u.1 ?_ ?_; (subst u); rotate_left; clear_value u; intro _) | ((have _ := fun x => u x); subst u) | clear_value u)
    | dsimp only
    | (with_reducible apply Ev.fst; assumption)
    | split

theorem State.declareOpen_ev {z : State} (s : State) (hs : Ev z s) : Ev z (State.declareOpen s) := by
  unfold State.declareOpen
  repeat' first
    | with_reducible first | assumption | apply Ev.ite | apply State.when_ev | apply State.askWipe_ev | apply State.closePresence_ev | apply State.securityEvent_ev | apply State.setLife_ev | apply State.setReg_ev | apply State.setSeal_ev
    | refine fun _ => ?_
    | ((try lift_lets); intro u; first | (refine Ev.cut (z := z) u ?_ ?_; (subst u); rotate_left; clear_value u; intro _) | (refine Ev.cut (z := z) u.st ?_ ?_; (subst u); rotate_left; clear_value u; intro _) | (refine Ev.cut (z := z) u.1 ?_ ?_; (subst u); rotate_left; clear_value u; intro _) | ((have _ := fun x => u x); subst u) | clear_value u)
    | dsimp only

theorem State.declareClosed_ev {z : State} (s : State) (hs : Ev z s) : Ev z (State.declareClosed s) := by
  unfold State.declareClosed
  repeat' first
    | with_reducible first | assumption | apply State.securityEvent_ev | apply State.setReg_ev | apply State.setSeal_ev
    | ((try lift_lets); intro u; first | (refine Ev.cut (z := z) u ?_ ?_; (subst u); rotate_left; clear_value u; intro _) | (refine Ev.cut (z := z) u.st ?_ ?_; (subst u); rotate_left; clear_value u; intro _) | (refine Ev.cut (z := z) u.1 ?_ ?_; (subst u); rotate_left; clear_value u; intro _) | ((have _ := fun x => u x); subst u) | clear_value u)

theorem execSealOpened_ev {z : State} (s : State) (hs : Ev z s) : EvN z (execSealOpened s) := by
  unfold execSealOpened
  repeat' first
    | with_reducible first | assumption | apply Ev.ite | apply Ev.ite_st | apply EvN.ite | apply EvN.done | apply EvN.next | apply EvN.res | apply Res.done_ev | apply State.declareOpen_ev
    | refine fun _ => ?_

theorem execSealClosed_ev {z : State} (s : State) (hs : Ev z s) : EvN z (execSealClosed s) := by
  unfold execSealClosed
  repeat' first
    | with_reducible first | assumption | apply Ev.ite | apply Ev.ite_st | apply EvN.ite | apply EvN.done | apply EvN.next | apply EvN.res | apply Res.done_ev | apply State.declareClosed_ev
    | refine fun _ => ?_

theorem execWipeStart_ev {z : State} (s : State) (hs : Ev z s) : EvN z (execWipeStart s) := by
  unfold execWipeStart
  repeat' first
    | with_reducible first | assumption | apply Ev.ite | apply Ev.ite_st | apply EvN.ite | apply EvN.done | apply EvN.next | apply EvN.res | apply Res.done_ev | apply State.dropStaging_ev | apply State.setReg_ev | apply State.setSeal_ev
    | refine fun _ => ?_

theorem State.wipeFailed_ev {z : State} (s : State) (bad : List Nat) (hs : Ev z s) : Ev z (State.wipeFailed s bad) := by
  unfold State.wipeFailed
  repeat' first
    | with_reducible first | assumption | apply State.forAll_ev | apply State.drew_ev | apply State.logFault_ev | apply State.securityEvent_ev | apply State.setByte_ev | apply State.setCause_ev | apply State.setReg_ev
    | refine fun _ => ?_
    | ((try lift_lets); intro u; first | (refine Ev.cut (z := z) u ?_ ?_; (subst u); rotate_left; clear_value u; intro _) | (refine Ev.cut (z := z) u.st ?_ ?_; (subst u); rotate_left; clear_value u; intro _) | (refine Ev.cut (z := z) u.1 ?_ ?_; (subst u); rotate_left; clear_value u; intro _) | ((have _ := fun x => u x); subst u) | clear_value u)
    | dsimp only

theorem execWipeDone_ev {z : State} (bad : List Nat) (s : State) (hs : Ev z s) : EvN z (execWipeDone bad s) := by
  unfold execWipeDone
  repeat' first
    | with_reducible first | assumption | apply Ev.ite | apply Ev.ite_st | apply EvN.ite | apply EvN.done | apply EvN.next | apply EvN.res | apply Res.done_ev | apply State.bump_ev | apply State.securityEvent_ev | apply State.setReg_ev | apply State.wipeFailed_ev | apply State.zeroBytes_ev
    | refine fun _ => ?_
    | ((try lift_lets); intro u; first | (refine Ev.cut (z := z) u ?_ ?_; (subst u); rotate_left; clear_value u; intro _) | (refine Ev.cut (z := z) u.st ?_ ?_; (subst u); rotate_left; clear_value u; intro _) | (refine Ev.cut (z := z) u.1 ?_ ?_; (subst u); rotate_left; clear_value u; intro _) | ((have _ := fun x => u x); subst u) | clear_value u)
    | dsimp only
    | (with_reducible apply Ev.fst; assumption)
    | split

theorem wipeEffect_ev {z : State} (v : Nat) (s : State) (hs : Ev z s) : Ev z (wipeEffect v s).st := by
  unfold wipeEffect
  repeat' first
    | with_reducible first | assumption | apply Ev.done | apply State.when_ev | apply Res.done_ev | apply State.askWipe_ev
    | refine fun _ => ?_
    | dsimp only

theorem execWipe_ev {z : State} (w : SessionNo) (s : State) (hs : Ev z s) : EvN z (execWipe w s) := by
  unfold execWipe
  repeat' first
    | with_reducible first | assumption | apply EvN.next | apply EvN.res | apply State.hostWrite_ev | apply wipeEffect_ev

end Sys2Proof.Machine
end

