-- ==== Sys2Proof/Laws/EvTally.lean ====
section
/-!
SUPPORT. The commands keep the invariants (Laws/Evolve.lean): the operations of Machine/Tally.lean.
-/
namespace Sys2Proof.Machine

theorem State.setOutcome_ev {z : State} (s : State) (n v : Nat) (hs : Ev z s) : Ev z (State.setOutcome s n v) := by
  unfold State.setOutcome
  repeat' first
    | with_reducible first | assumption | apply State.setTab_ev

theorem State.setUnits_ev {z : State} (s : State) (n units : Nat) (hs : Ev z s) : Ev z (State.setUnits s n units) := by
  unfold State.setUnits
  repeat' first
    | with_reducible first | assumption | apply State.awaitSweep_ev | apply State.setTab_ev

theorem State.fenceQueue_ev {z : State} (s : State) (p q : Nat) (hs : Ev z s) : Ev z (State.fenceQueue s p q) := by
  unfold State.fenceQueue
  repeat' first
    | with_reducible first | assumption | apply State.when_ev | apply State.endCopies_ev | apply State.refreshResvs_ev | apply State.setTab_ev | apply State.watchdogFire_ev
    | refine fun _ => ?_
    | ((try lift_lets); intro u; first | (refine Ev.cut (z := z) u ?_ ?_; (subst u); rotate_left; clear_value u; intro _) | (refine Ev.cut (z := z) u.st ?_ ?_; (subst u); rotate_left; clear_value u; intro _) | (refine Ev.cut (z := z) u.1 ?_ ?_; (subst u); rotate_left; clear_value u; intro _) | ((have _ := fun x => u x); subst u) | clear_value u)
    | dsimp only

theorem State.freeQueue_ev {z : State} (s : State) (p q : Nat) (hs : Ev z s) : Ev z (State.freeQueue s p q) := by
  unfold State.freeQueue
  repeat' first
    | with_reducible first | assumption | apply State.refreshResvs_ev | apply State.setTab_ev

theorem State.fencePort_ev {z : State} (s : State) (p : Nat) (hs : Ev z s) : Ev z (State.fencePort s p) := by
  unfold State.fencePort
  repeat' first
    | with_reducible first | assumption | apply State.endCopies_ev | apply State.refreshLink_ev | apply State.refreshResvs_ev
    | refine fun _ => ?_
    | ((try lift_lets); intro u; first | (refine Ev.cut (z := z) u ?_ ?_; (subst u); rotate_left; clear_value u; intro _) | (refine Ev.cut (z := z) u.st ?_ ?_; (subst u); rotate_left; clear_value u; intro _) | (refine Ev.cut (z := z) u.1 ?_ ?_; (subst u); rotate_left; clear_value u; intro _) | ((have _ := fun x => u x); subst u) | clear_value u)
    | dsimp only

theorem State.fenceArrivals_ev {z : State} (s : State) (f : Frame → Bool) (hs : Ev z s) : Ev z (State.fenceArrivals s f) := by
  unfold State.fenceArrivals
  repeat' first
    | with_reducible first | assumption | apply State.endFrames_ev
    | refine fun _ => ?_
    | dsimp only

theorem State.fencePartition_ev {z : State} (s : State) (p : Nat) (hs : Ev z s) : Ev z (State.fencePartition s p) := by
  unfold State.fencePartition
  repeat' first
    | with_reducible first | assumption | apply State.forAll_ev | apply State.fenceArrivals_ev | apply State.fenceBench_ev | apply State.fencePort_ev | apply State.fenceQueue_ev | apply State.refreshResvs_ev | apply State.withdrawWhere_ev
    | refine fun _ => ?_
    | ((try lift_lets); intro u; first | (refine Ev.cut (z := z) u ?_ ?_; (subst u); rotate_left; clear_value u; intro _) | (refine Ev.cut (z := z) u.st ?_ ?_; (subst u); rotate_left; clear_value u; intro _) | (refine Ev.cut (z := z) u.1 ?_ ?_; (subst u); rotate_left; clear_value u; intro _) | ((have _ := fun x => u x); subst u) | clear_value u)
    | dsimp only

theorem State.applyFence_ev {z : State} (s : State) (h : Nat) (hs : Ev z s) : Ev z (State.applyFence s h) := by
  unfold State.applyFence
  repeat' first
    | with_reducible first | assumption | apply Ev.id | apply State.when_ev | apply State.forAll_ev | apply State.beginClose_ev | apply State.completeJob_ev | apply State.dzReset_ev | apply State.endFrames_ev | apply State.fenceArrivals_ev | apply State.fenceBench_ev | apply State.fencePartition_ev | apply State.fencePort_ev | apply State.fenceQueue_ev | apply State.refreshResvs_ev
    | refine fun _ => ?_
    | ((try lift_lets); intro u; first | (refine Ev.cut (z := z) u ?_ ?_; (subst u); rotate_left; clear_value u; intro _) | (refine Ev.cut (z := z) u.st ?_ ?_; (subst u); rotate_left; clear_value u; intro _) | (refine Ev.cut (z := z) u.1 ?_ ?_; (subst u); rotate_left; clear_value u; intro _) | ((have _ := fun x => u x); subst u) | clear_value u)
    | dsimp only
    | (with_reducible apply Ev.fst; assumption)
    | split

theorem State.putFence_ev {z : State} (s : State) (f : Fence) (hs : Ev z s) : Ev z (State.putFence s f) := by
  unfold State.putFence
  repeat' first
    | with_reducible first | assumption | apply Ev.ite
    | refine fun _ => ?_
    | dsimp only
    | with_reducible apply Ev.upd

theorem State.startFence_ev {z : State} (s : State) (f : Fence) (hs : Ev z s) : Ev z (State.startFence s f) := by
  unfold State.startFence
  repeat' first
    | with_reducible first | assumption | apply Ev.ite | apply State.applyFence_ev | apply State.event_ev | apply State.putFence_ev | apply State.setUnits_ev
    | refine fun _ => ?_
    | ((try lift_lets); intro u; first | (refine Ev.cut (z := z) u ?_ ?_; (subst u); rotate_left; clear_value u; intro _) | (refine Ev.cut (z := z) u.st ?_ ?_; (subst u); rotate_left; clear_value u; intro _) | (refine Ev.cut (z := z) u.1 ?_ ?_; (subst u); rotate_left; clear_value u; intro _) | ((have _ := fun x => u x); subst u) | clear_value u)
    | dsimp only
    | (with_reducible apply Ev.fst; assumption)
    | split
    | with_reducible apply Ev.upd

theorem State.applyFences_ev {z : State} (s : State) (hs : Ev z s) : Ev z (State.applyFences s) := by
  unfold State.applyFences
  repeat' first
    | with_reducible first | assumption | apply State.forAll_ev | apply State.startFence_ev
    | refine fun _ => ?_
    | dsimp only

theorem State.freeHolder_ev {z : State} (s : State) (h : Nat) (hs : Ev z s) : Ev z (State.freeHolder s h) := by
  unfold State.freeHolder
  repeat' first
    | with_reducible first | assumption | apply State.when_ev | apply State.forAll_ev | apply State.freeQueue_ev | apply State.lanesChanged_ev | apply State.refreshLink_ev | apply State.refreshResvs_ev | apply State.setCause_ev | apply State.unfenceBench_ev
    | refine fun _ => ?_
    | ((try lift_lets); intro u; first | (refine Ev.cut (z := z) u ?_ ?_; (subst u); rotate_left; clear_value u; intro _) | (refine Ev.cut (z := z) u.st ?_ ?_; (subst u); rotate_left; clear_value u; intro _) | (refine Ev.cut (z := z) u.1 ?_ ?_; (subst u); rotate_left; clear_value u; intro _) | ((have _ := fun x => u x); subst u) | clear_value u)
    | dsimp only
    | (with_reducible apply Ev.fst; assumption)
    | split
    | with_reducible apply Ev.upd

theorem fenceEffect_ev {z : State} (h : Nat) (s : State) (hs : Ev z s) : Ev z (fenceEffect h s).st := by
  unfold fenceEffect
  repeat' first
    | with_reducible first | assumption | apply Ev.ite | apply Ev.ite_st | apply Ev.done | apply Ev.fail | apply Res.done_ev | apply Res.fail_ev | apply State.applyFences_ev | apply State.queueFence_ev
    | refine fun _ => ?_

theorem execFence_ev {z : State} (w : SessionNo) (holder : Nat) (s : State) (hs : Ev z s) : EvN z (execFence w holder s) := by
  unfold execFence
  repeat' first
    | with_reducible first | assumption | apply EvN.next | apply EvN.res | apply State.hostWrite_ev | apply fenceEffect_ev

theorem unfenceEffect_ev {z : State} (h : Nat) (s : State) (hs : Ev z s) : Ev z (unfenceEffect h s).st := by
  unfold unfenceEffect
  repeat' first
    | with_reducible first | assumption | apply Ev.ite | apply Ev.ite_st | apply Ev.done | apply Ev.fail | apply State.when_ev | apply Res.done_ev | apply Res.fail_ev | apply State.freeHolder_ev
    | refine fun _ => ?_
    | dsimp only

theorem execUnfence_ev {z : State} (w : SessionNo) (holder : Nat) (s : State) (hs : Ev z s) : EvN z (execUnfence w holder s) := by
  unfold execUnfence
  repeat' first
    | with_reducible first | assumption | apply EvN.next | apply EvN.res | apply State.hostWrite_ev | apply unfenceEffect_ev

theorem queryEffect_ev {z : State} (h : Nat) (s : State) (hs : Ev z s) : Ev z (queryEffect h s).st := by
  unfold queryEffect
  repeat' first
    | with_reducible first | assumption | apply Ev.ite | apply Ev.ite_st | apply Ev.fail | apply State.store_ev | apply Res.fail_ev
    | refine fun _ => ?_

theorem execReclaimStart_ev {z : State} (s : State) (hs : Ev z s) : EvN z (execReclaimStart s) := by
  unfold execReclaimStart
  repeat' first
    | with_reducible first | assumption | apply Ev.ite | apply Ev.ite_st | apply EvN.ite | apply Ev.id | apply EvN.done | apply EvN.next | apply EvN.res | apply Res.done_ev | apply State.applyFences_ev | apply State.endFrames_ev | apply State.fenceArrivals_ev | apply State.putFence_ev
    | refine fun _ => ?_
    | ((try lift_lets); intro u; first | (refine Ev.cut (z := z) u ?_ ?_; (subst u); rotate_left; clear_value u; intro _) | (refine Ev.cut (z := z) u.st ?_ ?_; (subst u); rotate_left; clear_value u; intro _) | (refine Ev.cut (z := z) u.1 ?_ ?_; (subst u); rotate_left; clear_value u; intro _) | ((have _ := fun x => u x); subst u) | clear_value u)
    | dsimp only
    | (with_reducible apply Ev.fst; assumption)
    | split

theorem execReclaimDone_ev {z : State} (s : State) (hs : Ev z s) : EvN z (execReclaimDone s) := by
  unfold execReclaimDone
  repeat' first
    | with_reducible first | assumption | apply Ev.ite | apply Ev.ite_st | apply EvN.ite | apply EvN.done | apply EvN.next | apply EvN.res | apply State.when_ev | apply Res.done_ev | apply State.bump_ev | apply State.event_ev | apply State.freeHolder_ev | apply State.putFence_ev | apply State.setCause_ev | apply State.setUnits_ev
    | refine fun _ => ?_
    | ((try lift_lets); intro u; first | (refine Ev.cut (z := z) u ?_ ?_; (subst u); rotate_left; clear_value u; intro _) | (refine Ev.cut (z := z) u.st ?_ ?_; (subst u); rotate_left; clear_value u; intro _) | (refine Ev.cut (z := z) u.1 ?_ ?_; (subst u); rotate_left; clear_value u; intro _) | ((have _ := fun x => u x); subst u) | clear_value u)
    | dsimp only
    | (with_reducible apply Ev.fst; assumption)
    | split

theorem State.recheck_ev {z : State} (s : State) (island : Bool) (results : List SweepResult) (k : Nat) (hs : Ev z s) : Ev z (State.recheck s island results k) := by
  unfold State.recheck
  repeat' first
    | with_reducible first | assumption | apply Ev.ite | apply State.when_ev | apply State.event_ev | apply State.queueFence_ev | apply State.setOutcome_ev | apply State.setTab_ev
    | refine fun _ => ?_
    | ((try lift_lets); intro u; first | (refine Ev.cut (z := z) u ?_ ?_; (subst u); rotate_left; clear_value u; intro _) | (refine Ev.cut (z := z) u.st ?_ ?_; (subst u); rotate_left; clear_value u; intro _) | (refine Ev.cut (z := z) u.1 ?_ ?_; (subst u); rotate_left; clear_value u; intro _) | ((have _ := fun x => u x); subst u) | clear_value u)
    | dsimp only
    | (with_reducible apply Ev.fst; assumption)
    | split

theorem State.takeResult_ev {z : State} (s : State) (r : SweepResult) (hs : Ev z s) : Ev z (State.takeResult s r) := by
  unfold State.takeResult
  repeat' first
    | with_reducible first | assumption | apply Ev.ite | apply State.forAll_ev | apply State.discrepancy_ev | apply State.setTab_ev
    | refine fun _ => ?_
    | dsimp only

theorem execSweepPassEnd_ev {z : State} (report : SweepReport) (env : StartEnv) (s : State) (hs : Ev z s) : EvN z (execSweepPassEnd report env s) := by
  unfold execSweepPassEnd
  repeat' first
    | with_reducible first | assumption | apply Ev.ite | apply Ev.ite_st | apply EvN.ite | apply EvN.done | apply EvN.next | apply EvN.res | apply State.when_ev | apply State.forAll_ev | apply Res.done_ev | apply State.applyFences_ev | apply State.bump_ev | apply State.clearTab_ev | apply State.recheck_ev | apply State.settleFatal_ev | apply State.takeResult_ev
    | refine fun _ => ?_
    | ((try lift_lets); intro u; first | (refine Ev.cut (z := z) u ?_ ?_; (subst u); rotate_left; clear_value u; intro _) | (refine Ev.cut (z := z) u.st ?_ ?_; (subst u); rotate_left; clear_value u; intro _) | (refine Ev.cut (z := z) u.1 ?_ ?_; (subst u); rotate_left; clear_value u; intro _) | ((have _ := fun x => u x); subst u) | clear_value u)
    | dsimp only

theorem State.reclaimOrphan_ev {z : State} (s : State) (quantity part k unit : Nat) (hs : Ev z s) : Ev z (State.reclaimOrphan s quantity part k unit) := by
  unfold State.reclaimOrphan
  repeat' first
    | with_reducible first | assumption | apply Ev.ite | apply State.setTab_ev
    | refine fun _ => ?_

theorem execOrphanConfirmed_ev {z : State} (quantity unit : Nat) (env : StartEnv) (s : State) (hs : Ev z s) : EvN z (execOrphanConfirmed quantity unit env s) := by
  unfold execOrphanConfirmed
  repeat' first
    | with_reducible first | assumption | apply Ev.ite | apply Ev.ite_st | apply EvN.ite | apply EvN.done | apply EvN.next | apply EvN.res | apply Res.done_ev | apply State.bump_ev | apply State.discrepancy_ev | apply State.event_ev | apply State.reclaimOrphan_ev | apply State.setTab_ev | apply State.setUnits_ev | apply State.settleFatal_ev
    | refine fun _ => ?_
    | ((try lift_lets); intro u; first | (refine Ev.cut (z := z) u ?_ ?_; (subst u); rotate_left; clear_value u; intro _) | (refine Ev.cut (z := z) u.st ?_ ?_; (subst u); rotate_left; clear_value u; intro _) | (refine Ev.cut (z := z) u.1 ?_ ?_; (subst u); rotate_left; clear_value u; intro _) | ((have _ := fun x => u x); subst u) | clear_value u)

theorem execLeaseExpired_ev {z : State} (holder : Nat) (s : State) (hs : Ev z s) : EvN z (execLeaseExpired holder s) := by
  unfold execLeaseExpired
  repeat' first
    | with_reducible first | assumption | apply EvN.done | apply EvN.next | apply EvN.res | apply State.when_ev | apply Pass.action_ev | apply Res.done_ev | apply State.applyFences_ev | apply State.drew_ev | apply State.event_ev | apply State.logTally_ev | apply State.queueFence_ev
    | refine fun _ => ?_
    | ((try lift_lets); intro u; first | (refine Ev.cut (z := z) u ?_ ?_; (subst u); rotate_left; clear_value u; intro _) | (refine Ev.cut (z := z) u.st ?_ ?_; (subst u); rotate_left; clear_value u; intro _) | (refine Ev.cut (z := z) u.1 ?_ ?_; (subst u); rotate_left; clear_value u; intro _) | ((have _ := fun x => u x); subst u) | clear_value u)
    | dsimp only
    | (with_reducible apply Ev.fst; assumption)
    | split

theorem State.beginEpoch_ev {z : State} (s : State) (hs : Ev z s) : Ev z (State.beginEpoch s) := by
  unfold State.beginEpoch
  repeat' first
    | with_reducible first | assumption | apply State.forAll_ev | apply State.setReg_ev | apply State.setTab_ev
    | refine fun _ => ?_
    | ((try lift_lets); intro u; first | (refine Ev.cut (z := z) u ?_ ?_; (subst u); rotate_left; clear_value u; intro _) | (refine Ev.cut (z := z) u.st ?_ ?_; (subst u); rotate_left; clear_value u; intro _) | (refine Ev.cut (z := z) u.1 ?_ ?_; (subst u); rotate_left; clear_value u; intro _) | ((have _ := fun x => u x); subst u) | clear_value u)
    | dsimp only

theorem epochEffect_ev {z : State} (v : Nat) (s : State) (hs : Ev z s) : Ev z (epochEffect v s).st := by
  unfold epochEffect
  repeat' first
    | with_reducible first | assumption | apply Ev.done | apply State.when_ev | apply Res.done_ev | apply State.beginEpoch_ev
    | refine fun _ => ?_
    | dsimp only

theorem execEpochStart_ev {z : State} (w : SessionNo) (s : State) (hs : Ev z s) : EvN z (execEpochStart w s) := by
  unfold execEpochStart
  repeat' first
    | with_reducible first | assumption | apply EvN.next | apply EvN.res | apply State.hostWrite_ev | apply epochEffect_ev

theorem State.latchLedgers_ev {z : State} (s : State) (hs : Ev z s) : Ev z (State.latchLedgers s) := by
  unfold State.latchLedgers
  repeat' first
    | with_reducible first | assumption | apply State.forAll_ev | apply State.setReg_ev | apply State.setTab_ev
    | refine fun _ => ?_
    | ((try lift_lets); intro u; first | (refine Ev.cut (z := z) u ?_ ?_; (subst u); rotate_left; clear_value u; intro _) | (refine Ev.cut (z := z) u.st ?_ ?_; (subst u); rotate_left; clear_value u; intro _) | (refine Ev.cut (z := z) u.1 ?_ ?_; (subst u); rotate_left; clear_value u; intro _) | ((have _ := fun x => u x); subst u) | clear_value u)
    | dsimp only

theorem snapshotEffect_ev {z : State} (v : Nat) (s : State) (hs : Ev z s) : Ev z (snapshotEffect v s).st := by
  unfold snapshotEffect
  repeat' first
    | with_reducible first | assumption | apply Ev.done | apply State.when_ev | apply Res.done_ev | apply State.latchLedgers_ev
    | refine fun _ => ?_
    | dsimp only

theorem execSnapshot_ev {z : State} (w : SessionNo) (s : State) (hs : Ev z s) : EvN z (execSnapshot w s) := by
  unfold execSnapshot
  repeat' first
    | with_reducible first | assumption | apply EvN.next | apply EvN.res | apply State.hostWrite_ev | apply snapshotEffect_ev

end Sys2Proof.Machine
end

