-- ==== Sys2Proof/Laws/EvZdp.lean ====
section
/-!
SUPPORT. The commands keep the invariants (Laws/Evolve.lean): the operations of Machine/Zdp.lean.
-/
namespace Sys2Proof.Machine

/-- Where a request stops, and where it goes on. -/
structure EvE (z : State) (o : Entry) : Prop where
  stop : ∀ t, o = .stop t → Ev z t
  go : ∀ t, o = .go t → Ev z t

theorem EvE.ofStop {z s : State} (h : Ev z s) : EvE z (.stop s) := ⟨by rintro t ⟨⟩; exact h, by rintro t ⟨⟩⟩
theorem EvE.ofGo {z s : State} (h : Ev z s) : EvE z (.go s) := ⟨by rintro t ⟨⟩, by rintro t ⟨⟩; exact h⟩

theorem fullEffect_ev {z : State} (session idx sub v sets : Nat) (s : State) (hs : Ev z s) : Ev z (fullEffect session idx sub v sets s).st := by
  unfold fullEffect
  repeat' first
    | with_reducible first | assumption | apply Ev.ite | apply Ev.ite_st | apply clearBreachEffect_ev | apply clearPersistedEffect_ev | apply configCommandEffect_ev | apply epochEffect_ev | apply fenceEffect_ev | apply firmwareCommandEffect_ev | apply lifecycleEffect_ev | apply presenceCloseEffect_ev | apply protectedWriteEffect_ev | apply publicEffect_ev | apply queryEffect_ev | apply regEffect_ev | apply revokeEffect_ev | apply snapshotEffect_ev | apply startupCommandEffect_ev | apply thermtripClearEffect_ev | apply unfenceEffect_ev | apply wipeEffect_ev
    | refine fun _ => ?_

theorem fullBlockEffect_ev {z : State} (session idx sub off : Nat) (data : Bytes) (r : Sub) (s : State) (hs : Ev z s) : Ev z (fullBlockEffect session idx sub off data r s).st := by
  unfold fullBlockEffect
  repeat' first
    | with_reducible first | assumption | apply Ev.ite | apply Ev.ite_st | apply blockEffect_ev | apply firmwareImportEffect_ev | apply fullEffect_ev | apply importEffect_ev
    | refine fun _ => ?_
    | dsimp only

theorem State.diagnosticAnswer_ev {z : State} (s : State) (a : Asker) (op idx sub : Nat) (hs : Ev z s) : Ev z (State.diagnosticAnswer s a op idx sub).st := by
  unfold State.diagnosticAnswer
  repeat' first
    | with_reducible first | assumption | apply Ev.ite | apply Ev.ite_st | apply Ev.fail | apply Res.fail_ev | apply State.denied_ev | apply State.drew_ev
    | refine fun _ => ?_
    | ((try lift_lets); intro u; first | (refine Ev.cut (z := z) u ?_ ?_; (subst u); rotate_left; clear_value u; intro _) | (refine Ev.cut (z := z) u.st ?_ ?_; (subst u); rotate_left; clear_value u; intro _) | (refine Ev.cut (z := z) u.1 ?_ ?_; (subst u); rotate_left; clear_value u; intro _) | ((have _ := fun x => u x); subst u) | clear_value u)
    | dsimp only
    | (with_reducible apply Ev.fst; assumption)
    | split

theorem State.onObject_ev {z : State} (s : State) (a : Asker) (op idx sub : Nat) (f : Obj → Sub → Res) (hs : Ev z s)
    (hf : ∀ x0 x1, Ev z (f x0 x1).st) : Ev z (State.onObject s a op idx sub f).st := by
  unfold State.onObject
  split
  · exact State.diagnosticAnswer_ev _ _ _ _ _ hs
  · split
    · next h => exact State.checkObject_ev hs h
    · exact hf _ _

theorem State.badField_ev {z : State} (s : State) (hs : Ev z s) : Ev z (State.badField s).st := by
  unfold State.badField
  repeat' first
    | with_reducible first | assumption | apply Ev.fail | apply Res.fail_ev

theorem State.performRead_ev {z : State} (s : State) (op idx sub : Nat) (f : Res) (hs : Ev z s) (hf : Ev z f.st) : Ev z (State.performRead s op idx sub f).st := by
  unfold State.performRead
  repeat' first
    | with_reducible first | assumption | apply Ev.ite | apply Ev.ite_st | apply Ev.fail | apply Res.fail_ev
    | refine fun _ => ?_
    | dsimp only
    | (with_reducible apply Ev.fst; assumption)
    | split

theorem State.readObject_ev {z : State} (s : State) (a : Asker) (q : Request) (hs : Ev z s) : Ev z (State.readObject s a q).st := by
  unfold State.readObject
  repeat' first
    | with_reducible first | assumption | apply Ev.ite | apply Ev.ite_st | apply Ev.done | apply Ev.fail | apply Res.done_ev | apply Res.fail_ev | apply State.badField_ev | apply State.onObject_ev | apply State.performRead_ev | apply State.valueDrawn_ev
    | refine fun _ => ?_
    | dsimp only

theorem State.blockReadObject_ev {z : State} (s : State) (a : Asker) (q : Request) (hs : Ev z s) : Ev z (State.blockReadObject s a q).st := by
  unfold State.blockReadObject
  repeat' first
    | with_reducible first | assumption | apply Ev.ite | apply Ev.ite_st | apply Ev.done | apply Ev.fail | apply Res.done_ev | apply Res.fail_ev | apply State.onObject_ev | apply State.performRead_ev | apply State.valueDrawn_ev | apply windowReadEffect_ev
    | refine fun _ => ?_
    | dsimp only
    | (with_reducible apply Ev.fst; assumption)
    | split

theorem State.writeValue_ev {z : State} (s : State) (session idx sub v sets : Nat) (r : Sub) (hs : Ev z s) : Ev z (State.writeValue s session idx sub v sets r).st := by
  unfold State.writeValue
  repeat' first
    | with_reducible first | assumption | apply Ev.ite | apply Ev.ite_st | apply Ev.fail | apply Res.fail_ev | apply State.performWrite_ev | apply fullEffect_ev
    | refine fun _ => ?_

theorem State.writeObject_ev {z : State} (s : State) (a : Asker) (q : Request) (hs : Ev z s) : Ev z (State.writeObject s a q).st := by
  unfold State.writeObject
  repeat' first
    | with_reducible first | assumption | apply Ev.ite | apply Ev.ite_st | apply Ev.fail | apply Res.fail_ev | apply State.badField_ev | apply State.onObject_ev | apply State.writeValue_ev
    | refine fun _ => ?_
    | dsimp only

theorem State.blockWriteObject_ev {z : State} (s : State) (a : Asker) (q : Request) (hs : Ev z s) : Ev z (State.blockWriteObject s a q).st := by
  unfold State.blockWriteObject
  repeat' first
    | with_reducible first | assumption | apply Ev.fail | apply Res.fail_ev | apply State.onObject_ev | apply State.performWrite_ev | apply fullBlockEffect_ev
    | refine fun _ => ?_
    | dsimp only
    | (with_reducible apply Ev.fst; assumption)
    | split

theorem State.commitObject_ev {z : State} (s : State) (a : Asker) (q : Request) (posts : List (Nat × Nat)) (lost : List Nat) (hs : Ev z s) : Ev z (State.commitObject s a q posts lost).st := by
  unfold State.commitObject
  repeat' first
    | with_reducible first | assumption | apply Ev.ite | apply Ev.ite_st | apply Ev.fail | apply Res.fail_ev | apply State.badField_ev | apply State.onObject_ev | apply windowCommitEffect_ev
    | refine fun _ => ?_
    | ((try lift_lets); intro u; first | (refine Ev.cut (z := z) u ?_ ?_; (subst u); rotate_left; clear_value u; intro _) | (refine Ev.cut (z := z) u.st ?_ ?_; (subst u); rotate_left; clear_value u; intro _) | (refine Ev.cut (z := z) u.1 ?_ ?_; (subst u); rotate_left; clear_value u; intro _) | ((have _ := fun x => u x); subst u) | clear_value u)
    | dsimp only
    | (with_reducible apply Ev.fst; assumption)
    | split

theorem State.onNone_ev {z : State} (s : State) (a : Asker) (op : Nat) (q : Request) (f : Res) (hs : Ev z s) (hf : Ev z f.st) : Ev z (State.onNone s a op q f).st := by
  unfold State.onNone
  repeat' first
    | with_reducible first | assumption | apply Ev.ite | apply Ev.ite_st | apply Ev.fail | apply Res.fail_ev | apply State.badField_ev | apply State.denied_ev
    | refine fun _ => ?_

theorem State.releaseJob_ev {z : State} (s : State) (a : Asker) (q : Request) (hs : Ev z s) : Ev z (State.releaseJob s a q).st := by
  unfold State.releaseJob
  repeat' first
    | with_reducible first | assumption | apply Ev.ite | apply Ev.ite_st | apply Ev.done | apply Ev.fail | apply State.forAll_ev | apply Res.done_ev | apply Res.fail_ev | apply State.onNone_ev | apply State.setTab_ev
    | refine fun _ => ?_
    | ((try lift_lets); intro u; first | (refine Ev.cut (z := z) u ?_ ?_; (subst u); rotate_left; clear_value u; intro _) | (refine Ev.cut (z := z) u.st ?_ ?_; (subst u); rotate_left; clear_value u; intro _) | (refine Ev.cut (z := z) u.1 ?_ ?_; (subst u); rotate_left; clear_value u; intro _) | ((have _ := fun x => u x); subst u) | clear_value u)
    | dsimp only

theorem State.ping_ev {z : State} (s : State) (a : Asker) (q : Request) (hs : Ev z s) : Ev z (State.ping s a q).st := by
  unfold State.ping
  repeat' first
    | with_reducible first | assumption | apply Ev.ite | apply Ev.ite_st | apply Ev.done | apply Res.done_ev | apply State.badField_ev | apply State.onNone_ev
    | refine fun _ => ?_

theorem State.putEntry_ev {z : State} (s : State) (e : CacheEntry) (hs : Ev z s) : Ev z (State.putEntry s e) := by
  unfold State.putEntry
  repeat' first
    | with_reducible first | assumption
    | refine fun _ => ?_
    | dsimp only
    | with_reducible apply Ev.upd

theorem State.received_ev {z : State} (s : State) (op : Nat) (q : Request) (hs : Ev z s) : Ev z (State.received s op q) := by
  unfold State.received
  repeat' first
    | with_reducible first | assumption | apply Ev.ite | apply State.macReceived_ev
    | refine fun _ => ?_
    | dsimp only
    | with_reducible apply Ev.upd

theorem State.accepted_ev {z : State} (s : State) (op : Nat) (q : Request) (hs : Ev z s) : Ev z (State.accepted s op q) := by
  unfold State.accepted
  repeat' first
    | with_reducible first | assumption | apply State.when_ev | apply State.bump_ev | apply State.received_ev
    | refine fun _ => ?_
    | dsimp only

theorem State.stepOne_ev {z : State} (s : State) (op : Nat) (q : Request) (hs : Ev z s) : EvE z (State.stepOne s op q) := by
  unfold State.stepOne
  repeat' first
    | with_reducible first | assumption | apply EvE.ofStop | apply EvE.ofGo | apply State.bump_ev | apply State.received_ev | apply State.accepted_ev
    | split

theorem State.takeTag_ev {z : State} (s : State) (op : Nat) (q : Request) (hs : Ev z s) : EvE z (State.takeTag s op q) := by
  unfold State.takeTag
  dsimp only
  repeat' first
    | with_reducible first | assumption | apply EvE.ofStop | apply EvE.ofGo | apply State.bump_ev | apply State.reply_ev | apply State.putEntry_ev | apply State.setTab_ev
    | split

theorem State.finish_ev {z : State} (op : Nat) (q : Request) (r : Res)  (hr : Ev z r.st) : Ev z (State.finish op q r) := by
  unfold State.finish
  repeat' first
    | with_reducible first | assumption | apply State.putEntry_ev | apply State.reply_ev
    | ((try lift_lets); intro u; first | (refine Ev.cut (z := z) u ?_ ?_; (subst u); rotate_left; clear_value u; intro _) | (refine Ev.cut (z := z) u.st ?_ ?_; (subst u); rotate_left; clear_value u; intro _) | (refine Ev.cut (z := z) u.1 ?_ ?_; (subst u); rotate_left; clear_value u; intro _) | ((have _ := fun x => u x); subst u) | clear_value u)
    | dsimp only

theorem State.internalFault_ev {z : State} (s : State) (op : Nat) (q : Request) (hs : Ev z s) : Ev z (State.internalFault s op q).st := by
  unfold State.internalFault
  repeat' first
    | with_reducible first | assumption | apply Ev.fail | apply Res.fail_ev | apply State.logFault_ev

theorem State.unlessInternal_ev {z : State} (s : State) (op : Nat) (q : Request) (r : Res) (hs : Ev z s) (hr : Ev z r.st) : Ev z (State.unlessInternal s op q r).st := by
  unfold State.unlessInternal
  repeat' first
    | with_reducible first | assumption | apply Ev.ite | apply Ev.ite_st | apply State.internalFault_ev
    | refine fun _ => ?_

theorem State.request_ev {z : State} (s : State) (op : Nat) (q : Request) (run : State → State) (hs : Ev z s)
    (hrun : ∀ u, Ev z u → Ev z (run u)) : EvN z (State.request s op q run) := by
  unfold State.request
  have h := State.stepOne_ev s op q hs
  split
  · next g => exact EvN.done (h.stop _ g)
  · next g =>
    have h := State.takeTag_ev _ op q (h.go _ g)
    split
    · next g => exact EvN.done (h.stop _ g)
    · next g =>
      have h := h.go _ g
      refine EvN.done ?_
      split
      · exact State.finish_ev _ _ _ (State.internalFault_ev _ _ _ h)
      · exact hrun _ h

theorem State.sessionlessRequest_ev {z : State} (s : State) (op : Nat) (q : Request) (run : State → State) (hs : Ev z s)
    (hrun : ∀ u, Ev z u → Ev z (run u)) : EvN z (State.sessionlessRequest s op q run) := by
  unfold State.sessionlessRequest
  have h := State.stepOne_ev s op q hs
  split
  · next g => exact EvN.done (h.stop _ g)
  · next g =>
    split
    · exact EvN.done (State.bump_ev _ _ _ _ (h.go _ g))
    · exact EvN.done (hrun _ (Ev.upd (h.go _ g)))

theorem execRead_ev {z : State} (q : Request) (s : State) (hs : Ev z s) : EvN z (execRead q s) := by
  unfold execRead
  repeat' first
    | with_reducible first | assumption | apply State.finish_ev | apply State.readObject_ev | apply State.request_ev
    | refine fun _ => ?_
    | dsimp only

theorem State.holdSetting_ev {z : State} (s : State) (idx sub : Nat) (hs : Ev z s) : Ev z (State.holdSetting s idx sub) := by
  unfold State.holdSetting
  repeat' first
    | with_reducible first | assumption | apply State.when_ev | apply State.setTab_ev
    | refine fun _ => ?_
    | dsimp only

theorem State.afterReply_ev {z : State} (s : State) (q : Request) (hs : Ev z s) : Ev z (State.afterReply s q) := by
  unfold State.afterReply
  repeat' first
    | with_reducible first | assumption | apply State.when_ev | apply State.islandReset_ev | apply State.setTab_ev
    | refine fun _ => ?_
    | dsimp only

theorem execWrite_ev {z : State} (q : Request) (s : State) (hs : Ev z s) : EvN z (execWrite q s) := by
  unfold execWrite
  repeat' first
    | with_reducible first | assumption | apply State.afterReply_ev | apply State.finish_ev | apply State.holdSetting_ev | apply State.request_ev | apply State.writeObject_ev
    | refine fun _ => ?_
    | dsimp only

theorem execBlockRead_ev {z : State} (q : Request) (s : State) (hs : Ev z s) : EvN z (execBlockRead q s) := by
  unfold execBlockRead
  repeat' first
    | with_reducible first | assumption | apply State.blockReadObject_ev | apply State.finish_ev | apply State.request_ev
    | refine fun _ => ?_
    | dsimp only

theorem execBlockWrite_ev {z : State} (q : Request) (s : State) (hs : Ev z s) : EvN z (execBlockWrite q s) := by
  unfold execBlockWrite
  repeat' first
    | with_reducible first | assumption | apply State.blockWriteObject_ev | apply State.finish_ev | apply State.holdSetting_ev | apply State.request_ev
    | refine fun _ => ?_
    | dsimp only

theorem execWindowCommit_ev {z : State} (q : Request) (posts : List (Nat × Nat)) (lost : List Nat) (s : State) (hs : Ev z s) : EvN z (execWindowCommit q posts lost s) := by
  unfold execWindowCommit
  repeat' first
    | with_reducible first | assumption | apply State.commitObject_ev | apply State.finish_ev | apply State.request_ev
    | refine fun _ => ?_
    | dsimp only

theorem State.park_ev {z : State} (s : State) (q : Request) (hs : Ev z s) : Ev z (State.park s q) := by
  unfold State.park
  repeat' first
    | with_reducible first | assumption | apply State.bump_ev
    | ((try lift_lets); intro u; first | (refine Ev.cut (z := z) u ?_ ?_; (subst u); rotate_left; clear_value u; intro _) | (refine Ev.cut (z := z) u.st ?_ ?_; (subst u); rotate_left; clear_value u; intro _) | (refine Ev.cut (z := z) u.1 ?_ ?_; (subst u); rotate_left; clear_value u; intro _) | ((have _ := fun x => u x); subst u) | clear_value u)
    | dsimp only
    | with_reducible apply Ev.upd

theorem execParkedWatch_ev {z : State} (q : Request) (s : State) (hs : Ev z s) : EvN z (execParkedWatch q s) := by
  unfold execParkedWatch
  repeat' first
    | with_reducible first | assumption | apply Ev.ite | apply Ev.ite_st | apply EvN.ite | apply Ev.done | apply Ev.fail | apply Res.done_ev | apply Res.fail_ev | apply State.finish_ev | apply State.onNone_ev | apply State.park_ev | apply State.request_ev
    | refine fun _ => ?_
    | ((try lift_lets); intro u; first | (refine Ev.cut (z := z) u ?_ ?_; (subst u); rotate_left; clear_value u; intro _) | (refine Ev.cut (z := z) u.st ?_ ?_; (subst u); rotate_left; clear_value u; intro _) | (refine Ev.cut (z := z) u.1 ?_ ?_; (subst u); rotate_left; clear_value u; intro _) | ((have _ := fun x => u x); subst u) | clear_value u)
    | dsimp only

theorem execRelease_ev {z : State} (q : Request) (s : State) (hs : Ev z s) : EvN z (execRelease q s) := by
  unfold execRelease
  repeat' first
    | with_reducible first | assumption | apply State.finish_ev | apply State.releaseJob_ev | apply State.request_ev
    | refine fun _ => ?_
    | dsimp only

theorem execPing_ev {z : State} (q : Request) (s : State) (hs : Ev z s) : EvN z (execPing q s) := by
  unfold execPing
  repeat' first
    | with_reducible first | assumption | apply Ev.ite | apply Ev.ite_st | apply EvN.ite | apply State.finish_ev | apply State.ping_ev | apply State.reply_ev | apply State.request_ev | apply State.sessionlessRequest_ev | apply State.unlessInternal_ev
    | refine fun _ => ?_
    | ((try lift_lets); intro u; first | (refine Ev.cut (z := z) u ?_ ?_; (subst u); rotate_left; clear_value u; intro _) | (refine Ev.cut (z := z) u.st ?_ ?_; (subst u); rotate_left; clear_value u; intro _) | (refine Ev.cut (z := z) u.1 ?_ ?_; (subst u); rotate_left; clear_value u; intro _) | ((have _ := fun x => u x); subst u) | clear_value u)
    | dsimp only

theorem State.openAs_ev {z : State} (s : State) (q : Request) (n first count : Nat) (hs : Ev z s) : Ev z (State.openAs s q n first count) := by
  unfold State.openAs
  repeat' first
    | with_reducible first | assumption | apply State.clearRanges_ev | apply State.count_ev | apply State.dropHistLatch_ev | apply State.dropLatch_ev | apply State.setReg_ev | apply State.setTab_ev
    | ((try lift_lets); intro u; first | (refine Ev.cut (z := z) u ?_ ?_; (subst u); rotate_left; clear_value u; intro _) | (refine Ev.cut (z := z) u.st ?_ ?_; (subst u); rotate_left; clear_value u; intro _) | (refine Ev.cut (z := z) u.1 ?_ ?_; (subst u); rotate_left; clear_value u; intro _) | ((have _ := fun x => u x); subst u) | clear_value u)

theorem State.openResult_ev {z : State} (s : State) (q : Request) (hs : Ev z s) : Ev z (State.openResult s q).1.st := by
  unfold State.openResult
  repeat' first
    | with_reducible first | assumption | apply Ev.ite | apply Ev.ite_fst | apply Ev.done | apply Ev.fail | apply Res.done_ev | apply Res.fail_ev | apply State.count_ev | apply State.drew_ev | apply State.openAs_ev
    | refine fun _ => ?_
    | ((try lift_lets); intro u; first | (refine Ev.cut (z := z) u ?_ ?_; (subst u); rotate_left; clear_value u; intro _) | (refine Ev.cut (z := z) u.st ?_ ?_; (subst u); rotate_left; clear_value u; intro _) | (refine Ev.cut (z := z) u.1 ?_ ?_; (subst u); rotate_left; clear_value u; intro _) | ((have _ := fun x => u x); subst u) | clear_value u)
    | dsimp only
    | (with_reducible apply Ev.fst; assumption)
    | split

theorem execOpenSession_ev {z : State} (q : Request) (s : State) (hs : Ev z s) : EvN z (execOpenSession q s) := by
  unfold execOpenSession
  split
  · have h := State.stepOne_ev s Zop.openOp q hs
    split
    · next g => exact EvN.done (h.stop _ g)
    · next g => exact EvN.done (State.reply_ev _ _ _ _ _ _ _ _ _ (h.go _ g))
  · refine State.sessionlessRequest_ev _ _ _ _ hs fun u hu => ?_
    dsimp only
    split
    · exact State.reply_ev _ _ _ _ _ _ _ _ _ (State.openResult_ev _ _ hu)
    · exact State.reply_ev _ _ _ _ _ _ _ _ _ (State.unlessInternal_ev _ _ _ _ hu (State.onNone_ev _ _ _ _ _ hu hu))

theorem execClose_ev {z : State} (q : Request) (s : State) (hs : Ev z s) : EvN z (execClose q s) := by
  unfold execClose
  repeat' first
    | with_reducible first | assumption | apply Ev.ite | apply Ev.ite_st | apply EvN.ite | apply Ev.done | apply Res.done_ev | apply State.badField_ev | apply State.beginClose_ev | apply State.finish_ev | apply State.onNone_ev | apply State.request_ev
    | refine fun _ => ?_
    | ((try lift_lets); intro u; first | (refine Ev.cut (z := z) u ?_ ?_; (subst u); rotate_left; clear_value u; intro _) | (refine Ev.cut (z := z) u.st ?_ ?_; (subst u); rotate_left; clear_value u; intro _) | (refine Ev.cut (z := z) u.1 ?_ ?_; (subst u); rotate_left; clear_value u; intro _) | ((have _ := fun x => u x); subst u) | clear_value u)
    | dsimp only
    | with_reducible apply Ev.upd

theorem State.runtimeWrite_ev {z : State} (s : State) (idx sub v : Nat) (hs : Ev z s) : Ev z (State.runtimeWrite s idx sub v) := by
  unfold State.runtimeWrite
  repeat' first
    | with_reducible first | assumption | apply Ev.ite | apply State.setReg_ev | apply regEffect_ev
    | refine fun _ => ?_
    | dsimp only
    | (with_reducible apply Ev.fst; assumption)
    | split

theorem execRegisterWrite_ev {z : State} (w : Option SessionNo) (index sub value : Nat) (sets : Nat) (s : State) (hs : Ev z s) : EvN z (execRegisterWrite w index sub value sets s) := by
  unfold execRegisterWrite
  repeat' first
    | with_reducible first | assumption | apply Ev.ite | apply Ev.ite_st | apply EvN.ite | apply EvN.done | apply EvN.next | apply EvN.res | apply Ev.fail | apply Res.done_ev | apply Res.fail_ev | apply State.onObject_ev | apply State.runtimeWrite_ev | apply State.writeValue_ev
    | refine fun _ => ?_
    | dsimp only
    | (with_reducible apply Ev.fst; assumption)
    | split

end Sys2Proof.Machine
end

