-- ==== Sys2Proof/Laws/EvDispatch.lean ====
section
/-!
SUPPORT. The commands keep the invariants (Laws/Evolve.lean): the operations of Machine/Dispatch.lean.
-/
namespace Sys2Proof.Machine


end Sys2Proof.Machine
end

