-- ==== Sys2Proof/Laws/EvTick.lean ====
section
/-!
SUPPORT. The commands keep the invariants (Laws/Evolve.lean): the operations of Machine/Tick.lean.
-/
namespace Sys2Proof.Machine

theorem State.presenceMs_ev {z : State} (s : State) (hs : Ev z s) : Ev z (State.presenceMs s) := by
  unfold State.presenceMs
  repeat' first
    | with_reducible first | assumption | apply Ev.ite | apply State.closePresence_ev | apply State.setReg_ev
    | refine fun _ => ?_
    | ((try lift_lets); intro u; first | (refine Ev.cut (z := z) u ?_ ?_; (subst u); rotate_left; clear_value u; intro _) | (refine Ev.cut (z := z) u.st ?_ ?_; (subst u); rotate_left; clear_value u; intro _) | (refine Ev.cut (z := z) u.1 ?_ ?_; (subst u); rotate_left; clear_value u; intro _) | ((have _ := fun x => u x); subst u) | clear_value u)

theorem State.benchTick_ev {z : State} (s : State) (b : Nat) (hs : Ev z s) : Ev z (State.benchTick s b) := by
  unfold State.benchTick
  repeat' first
    | with_reducible first | assumption | apply State.count_ev | apply State.setMisc_ev | apply State.setTab_ev
    | ((try lift_lets); intro u; first | (refine Ev.cut (z := z) u ?_ ?_; (subst u); rotate_left; clear_value u; intro _) | (refine Ev.cut (z := z) u.st ?_ ?_; (subst u); rotate_left; clear_value u; intro _) | (refine Ev.cut (z := z) u.1 ?_ ?_; (subst u); rotate_left; clear_value u; intro _) | ((have _ := fun x => u x); subst u) | clear_value u)

theorem State.settle_ev {z : State} (s : State) (hs : Ev z s) : Ev z (State.settle s) := by
  unfold State.settle
  repeat' first
    | with_reducible first | assumption | apply Ev.ite | apply State.applyFences_ev | apply State.declareClosed_ev | apply State.declareOpen_ev | apply State.resume_ev | apply State.settleFatal_ev
    | refine fun _ => ?_
    | ((try lift_lets); intro u; first | (refine Ev.cut (z := z) u ?_ ?_; (subst u); rotate_left; clear_value u; intro _) | (refine Ev.cut (z := z) u.st ?_ ?_; (subst u); rotate_left; clear_value u; intro _) | (refine Ev.cut (z := z) u.1 ?_ ?_; (subst u); rotate_left; clear_value u; intro _) | ((have _ := fun x => u x); subst u) | clear_value u)
    | dsimp only

theorem State.tick_ev {z : State} (s : State) (hs : Ev z s) : Ev z (State.tick s) := by
  unfold State.tick
  repeat' first
    | with_reducible first | assumption | apply Ev.ite | apply State.when_ev | apply State.forAll_ev | apply State.benchTick_ev | apply State.islandReset_ev | apply State.presenceMs_ev | apply State.settle_ev
    | refine fun _ => ?_
    | ((try lift_lets); intro u; first | (refine Ev.cut (z := z) u ?_ ?_; (subst u); rotate_left; clear_value u; intro _) | (refine Ev.cut (z := z) u.st ?_ ?_; (subst u); rotate_left; clear_value u; intro _) | (refine Ev.cut (z := z) u.1 ?_ ?_; (subst u); rotate_left; clear_value u; intro _) | ((have _ := fun x => u x); subst u) | clear_value u)
    | dsimp only
    | with_reducible apply Ev.upd

end Sys2Proof.Machine
end

