-- ==== Sys2Proof/Laws/EvStep.lean ====
section
/-!
SUPPORT. The commands keep the invariants (Laws/Evolve.lean): the operations of Machine/Step.lean.
-/
namespace Sys2Proof.Machine



end Sys2Proof.Machine
end

