-- ==== Sys2Proof/Laws/Forward.lean ====
section
/-!
SUPPORT. The path of frames, the buffer and the links leave the island as it is: what each of their operations keeps, said once.
-/
namespace Sys2Proof.Machine

set_option linter.unusedSimpArgs false

theorem Fwd.refl {T : Nat} (s : State) : Fwd T s s := ⟨fun _ _ _ _ => rfl, rfl, rfl, rfl, rfl, rfl, rfl, List.prefix_refl _⟩

theorem Fwd.trans {T : Nat} {s t u : State} (h : Fwd T s t) (g : Fwd T t u) : Fwd T s u :=
  ⟨fun k a b c => (g.regs k a b c).trans (h.regs k a b c), g.mem.trans h.mem, g.stagings.trans h.stagings,
    g.clock.trans h.clock, g.gates.trans h.gates, g.inactive.trans h.inactive, g.pending.trans h.pending,
    h.out.trans g.out⟩

/-- What `Only` leaves as it was. -/
theorem Fwd.ofOnly {T : Nat} {R U : List Nat} {s t : State} (h : Only R U s t) (hR : ∀ k ∈ R, T ≤ k ∨ quietReg k = false ∨ faultReg k = true) :
    Fwd T s t :=
  ⟨fun k a b c => h.regs k (fun hk => by rcases hR k hk with g | g | g; · omega
                                         · rw [g] at b; cases b
                                         · rw [g] at c; cases c) b, h.mem, h.stagings, h.clock, h.gates, h.inactive, h.pending, h.out ▸ List.prefix_refl _⟩

/-- `Fwd` behind what was already kept. -/
abbrev Fw (T : Nat) (z s : State) : Prop := Fwd T z s

theorem Fw.upd {T : Nat} {z s : State} {attn : Attention} {zdp : Zdp} {frames : List Frame} {copies : List Copy} {nextFrame : Nat} {nextCopy : Nat} {drr : SMap (List Nat)} {fences : List Fence} {oldResv : List OldResv} {oldBounds : List OldBound} {handoffs : List Handoff} {built : List Built} {postcards : SMap (List Nat)} {tap : Tap} {freeCtr : Nat}
    (h : Fw T z s) : Fw T z ⟨s.regs, s.tabs, s.mem, attn, zdp, s.stagings, s.clock, frames, copies, nextFrame, nextCopy, drr, fences, oldResv, oldBounds, s.gates, handoffs, built, s.inactive, postcards, s.out, tap, freeCtr, s.pending⟩ :=
  ⟨h.regs, h.mem, h.stagings, h.clock, h.gates, h.inactive, h.pending, h.out⟩

theorem Fw.ite {T : Nat} {z a b : State} {c : Prop} [Decidable c] (ha : c → Fw T z a) (hb : ¬c → Fw T z b) :
    Fw T z (if c then a else b) := by split <;> simp_all
theorem Fw.ite_fst {α : Type} {T : Nat} {z : State} {a b : State × α} {c : Prop} [Decidable c] (ha : c → Fw T z a.1)
    (hb : ¬c → Fw T z b.1) : Fw T z (if c then a else b).1 := by split <;> simp_all
theorem Fw.ite_st {T : Nat} {z : State} {a b : Res} {c : Prop} [Decidable c] (ha : c → Fw T z a.st) (hb : ¬c → Fw T z b.st) :
    Fw T z (if c then a else b).st := by split <;> simp_all
theorem Fw.id {T : Nat} {z s : State} (h : Fw T z s) : Fw T z (id s) := h
theorem Fw.done {T : Nat} {z s : State} (h : Fw T z s) : Fw T z (Res.done s).st := h
theorem Fw.fail {T : Nat} {z s : State} {c d : Nat} (h : Fw T z s) : Fw T z (Res.fail s c d).st := h
theorem Res.done_fw {T : Nat} {z s : State} (h : Fw T z s) : Fw T z (Res.done s).st := h
theorem Res.fail_fw {T : Nat} {z s : State} {c d : Nat} (h : Fw T z s) : Fw T z (Res.fail s c d).st := h
theorem Fw.cut {T : Nat} {z : State} {P : Prop} (u : State) (h : Fw T z u) (k : Fw T z u → P) : P := k h
theorem Fw.fst {α : Type} {T : Nat} {z a : State} {b : α} {p : State × α} (e : p = (a, b)) (h : Fw T z p.1) : Fw T z a := by
  subst e; exact h

theorem State.when_fw {T : Nat} {z s : State} {c : Bool} {f : State → State} (h : Fw T z s) (g : ∀ u, Fw T z u → Fw T z (f u)) :
    Fw T z (s.when c f) := by
  unfold State.when; split
  · exact g s h
  · exact h
theorem State.forAll_fw {α : Type} {T : Nat} {z s : State} {l : List α} {f : State → α → State} (h : Fw T z s)
    (g : ∀ u a, Fw T z u → Fw T z (f u a)) : Fw T z (s.forAll l f) := by
  induction l generalizing s with
  | nil => exact h
  | cons a l ih => exact ih (g s a h)
theorem State.setReg_fw {T : Nat} {z : State} {s : State} {k v : Nat} (hk : T ≤ k) (h : Fw T z s) : Fw T z (s.setReg k v) :=
  ⟨fun k' a b c => by rw [State.reg_setReg, if_neg (by omega)]; exact h.regs k' a b c, h.mem, h.stagings, h.clock, h.gates, h.inactive, h.pending, h.out⟩
theorem State.bump_fw {T : Nat} {z : State} (s : State) (k w n : Nat) (hk : T ≤ k) (h : Fw T z s) : Fw T z (s.bump k w n) := State.setReg_fw hk h
theorem State.bumpSat_fw {T : Nat} {z : State} (s : State) (k w n : Nat) (hk : T ≤ k) (h : Fw T z s) : Fw T z (s.bumpSat k w n) := State.setReg_fw hk h
theorem State.drop_fw {T : Nat} {z : State} (s : State) (k n : Nat) (hk : T ≤ k) (h : Fw T z s) : Fw T z (s.drop k n) := State.setReg_fw hk h
theorem State.resetReg_fw {T : Nat} {z : State} (s : State) (k : Nat) (hk : T ≤ k) (h : Fw T z s) : Fw T z (s.resetReg k) := State.setReg_fw hk h
theorem State.setTab_fw {T : Nat} {z s : State} {t i v : Nat} (h : Fw T z s) : Fw T z (s.setTab t i v) :=
  ⟨fun k' a b c => h.regs k' a b c, h.mem, h.stagings, h.clock, h.gates, h.inactive, h.pending, h.out⟩
theorem State.clearTabRange_fw {T : Nat} {z s : State} {t lo hi : Nat} (h : Fw T z s) : Fw T z (s.clearTabRange t lo hi) :=
  ⟨fun k' a b c => h.regs k' a b c, h.mem, h.stagings, h.clock, h.gates, h.inactive, h.pending, h.out⟩
theorem State.clearTab_fw {T : Nat} {z s : State} {t : Nat} (h : Fw T z s) : Fw T z (s.clearTab t) :=
  ⟨fun k' a b c => h.regs k' a b c, h.mem, h.stagings, h.clock, h.gates, h.inactive, h.pending, h.out⟩
theorem State.emit_fw {T : Nat} {z s : State} {o : Out} (h : Fw T z s) : Fw T z (s.emit o) :=
  ⟨h.regs, h.mem, h.stagings, h.clock, h.gates, h.inactive, h.pending, h.out.trans (List.prefix_append _ _)⟩
theorem State.drew_fw {T : Nat} {z s : State} (h : Fw T z s) : Fw T z s.drew := Fw.upd h
theorem State.trigger_fw {T : Nat} {z : State} (s : State) (n : Nat) (h : Fw T z s) : Fw T z (s.trigger n) :=
  h.trans (Fwd.ofOnly (Only.trigger (R := []) (T := []) s n) (by simp))
theorem State.flag_fw {T : Nat} {z : State} (s : State) (k i : Nat) (hk : T ≤ k) (h : Fw T z s) : Fw T z (s.flag k i) :=
  State.bump_fw _ _ _ _ (by omega) (State.setReg_fw hk h)
theorem State.event_fw {T : Nat} {z : State} (s : State) (k i n : Nat) (hk : T ≤ k) (h : Fw T z s) : Fw T z (s.event k i n) :=
  State.trigger_fw _ _ (State.flag_fw _ _ _ hk h)
theorem State.deliverDue_fw {T : Nat} {z s : State} (h : Fw T z s) : Fw T z s.deliverDue :=
  h.trans (Fwd.ofOnly (Only.deliverDue (R := []) (T := []) s) (by simp))
theorem modeRegs_fault : ∀ k ∈ modeRegs, faultReg k = true := by decide
theorem logRegs_fault : ∀ k ∈ [Reg.FAULT_LOG.LOG_HEAD, Reg.FAULT_LOG.PERSISTED_HEAD], faultReg k = true := by decide
theorem State.setMode_fw {T : Nat} {z : State} (s : State) (m : Nat) (h : Fw T z s) : Fw T z (s.setMode m) :=
  h.trans (Fwd.ofOnly (Only.setMode (R := modeRegs) (T := []) s m (by simp) (by simp) (by simp) (by simp) (by simp) (by simp)) fun k hk => .inr (.inr (modeRegs_fault k hk)))
theorem State.refreshMode_fw {T : Nat} {z : State} (s : State) (h : Fw T z s) : Fw T z s.refreshMode := by
  unfold State.refreshMode; split
  · exact State.setMode_fw _ _ h
  · exact h
theorem State.setCause_fw {T : Nat} {z : State} (s : State) (i : Nat) (b : Bool) (h : Fw T z s) : Fw T z (s.setCause i b) :=
  h.trans (Fwd.ofOnly (Only.setCause (R := modeRegs) (T := []) s i b (by simp) (by simp) (by simp) (by simp) (by simp) (by simp) (by simp)) fun k hk => .inr (.inr (modeRegs_fault k hk)))
theorem State.logFault_fw {T : Nat} {z : State} (s : State) (code cls action source part data : Nat) (h : Fw T z s) :
    Fw T z (s.logFault code cls action source part data) :=
  h.trans (Fwd.ofOnly (Only.logFault (R := [Reg.FAULT_LOG.LOG_HEAD, Reg.FAULT_LOG.PERSISTED_HEAD]) (T := [Tab.faultLog, Tab.faultPersisted])
    s code cls action source part data (by simp) (by simp) (by simp) (by simp)) fun k hk => .inr (.inr (logRegs_fault k hk)))
theorem laneKey_ge (n sub : Nat) : 0x100000 ≤ laneKey n sub := by unfold laneKey; split <;> simp only [regKey] <;> omega
theorem State.overflowed_fw {T : Nat} {z : State} (s : State) (n : Nat) (h : Fw T z s) : Fw T z (s.overflowed n) := by
  have q1 : quietReg Reg.COUNTER_CONTROL.OVERFLOWS = false := by decide
  have q2 : quietReg Reg.COUNTER_CONTROL.EVENTS = false := by decide
  have q3 : quietReg (Reg.COUNTER_CONTROL.EVENTS + 1 + 0) = false := by decide
  unfold State.overflowed
  exact ((State.setTab_fw h).trans (Fwd.ofOnly (Only.bump (R := []) (T := []) _ _ _ _ (.inr q1)) (by simp))).trans
    (Fwd.ofOnly (Only.event (R := []) (T := []) _ _ _ _ (.inr q2) (.inr q3)) (by simp))
theorem State.setCounter_fw {T : Nat} {z : State} (s : State) (n v : Nat) (h : Fw T z s) : Fw T z (s.setCounter n v) := State.setTab_fw h
theorem State.count_fw {T : Nat} {z : State} (s : State) (n amt : Nat) (h : Fw T z s) : Fw T z (s.count n amt) := by
  unfold State.count
  split
  · exact h
  · split
    · dsimp only
      exact State.when_fw (State.setCounter_fw _ _ _ (State.setCounter_fw _ _ _ h)) fun u hu => State.overflowed_fw _ _ hu
    · dsimp only
      exact State.when_fw (State.setCounter_fw _ _ _ h) fun u hu => State.overflowed_fw _ _ hu
theorem State.raiseMark_fw {T : Nat} {z : State} (s : State) (k q v : Nat) (hk : T ≤ k) (h : Fw T z s) : Fw T z (s.raiseMark k q v) := by
  unfold State.raiseMark; exact State.when_fw h fun _ hu => State.setReg_fw hk hu

theorem State.freeTag_fw {z : State} {T : Nat} (hT : T ≤ 0x300000) (s : State) (code : Nat) (hs : Fw T z s) : Fw T z (State.freeTag s code) := by
  unfold State.freeTag
  split
  · exact hs
  · split
    · exact Fw.upd hs
    · exact State.when_fw (Fw.upd hs) fun u hu => State.setTab_fw hu

theorem State.replySent_fw {z : State} {T : Nat} (hT : T ≤ 0x300000) (s : State) (r : Reply) (hs : Fw T z s) : Fw T z (State.replySent s r) := by
  unfold State.replySent
  repeat' first
    | with_reducible first | assumption | apply State.when_fw | apply State.setTab_fw
    | refine fun _ => ?_
    | dsimp only
    | (first | with_reducible exact Nat.le_trans hT (by decide) | (left; (try unfold laneKey); (try split) <;> simp only [regKey] <;> omega) | ((try unfold laneKey); (try split) <;> simp only [regKey] <;> omega) | omega | decide)

theorem State.fatalFault_fw {z : State} {T : Nat} (hT : T ≤ 0x300000) (s : State) (kind code source partition data : Nat) (hs : Fw T z s) : Fw T z (State.fatalFault s kind code source partition data) := by
  unfold State.fatalFault
  repeat' first
    | with_reducible first | assumption | apply Fw.ite | apply State.logFault_fw | apply State.setCause_fw | apply State.setTab_fw
    | refine fun _ => ?_
    | ((try lift_lets); intro u; first | (refine Fw.cut (T := T) (z := z) u ?_ ?_; (subst u); rotate_left; clear_value u; intro _) | (refine Fw.cut (T := T) (z := z) u.st ?_ ?_; (subst u); rotate_left; clear_value u; intro _) | (refine Fw.cut (T := T) (z := z) u.1 ?_ ?_; (subst u); rotate_left; clear_value u; intro _) | ((have _ := fun x => u x); subst u) | clear_value u)
    | (first | with_reducible exact Nat.le_trans hT (by decide) | (left; (try unfold laneKey); (try split) <;> simp only [regKey] <;> omega) | ((try unfold laneKey); (try split) <;> simp only [regKey] <;> omega) | omega | decide)

theorem State.setCw_fw {z : State} {T : Nat} (hT : T ≤ 0x300000) (s : State) (b k v : Nat) (hs : Fw T z s) : Fw T z (State.setCw s b k v) := by
  unfold State.setCw
  repeat' first
    | with_reducible first | assumption | apply State.setTab_fw
    | (first | with_reducible exact Nat.le_trans hT (by decide) | (left; (try unfold laneKey); (try split) <;> simp only [regKey] <;> omega) | ((try unfold laneKey); (try split) <;> simp only [regKey] <;> omega) | omega | decide)

theorem State.setEntries_fw {z : State} {T : Nat} (hT : T ≤ 0x300000) (s : State) (t base n : Nat) (l : List Nat) (hs : Fw T z s) : Fw T z (State.setEntries s t base n l) := by
  unfold State.setEntries
  repeat' first
    | with_reducible first | assumption | apply State.forAll_fw | apply State.setTab_fw
    | refine fun _ => ?_
    | dsimp only
    | (with_reducible apply Fw.fst; assumption)
    | split
    | (first | with_reducible exact Nat.le_trans hT (by decide) | (left; (try unfold laneKey); (try split) <;> simp only [regKey] <;> omega) | ((try unfold laneKey); (try split) <;> simp only [regKey] <;> omega) | omega | decide)

theorem State.setSendQueue_fw {z : State} {T : Nat} (hT : T ≤ 0x300000) (s : State) (b : Nat) (l : List Nat) (hs : Fw T z s) : Fw T z (State.setSendQueue s b l) := by
  unfold State.setSendQueue
  repeat' first
    | with_reducible first | assumption | apply State.setEntries_fw
    | (first | with_reducible exact Nat.le_trans hT (by decide) | (left; (try unfold laneKey); (try split) <;> simp only [regKey] <;> omega) | ((try unfold laneKey); (try split) <;> simp only [regKey] <;> omega) | omega | decide)

theorem State.logTally_fw {z : State} {T : Nat} (hT : T ≤ 0x300000) (s : State) (quantity part h ledger found by_ outcome : Nat) (hs : Fw T z s) : Fw T z (State.logTally s quantity part h ledger found by_ outcome) := by
  unfold State.logTally
  repeat' first
    | with_reducible first | assumption | apply State.when_fw | apply State.setReg_fw | apply State.setTab_fw
    | refine fun _ => ?_
    | ((try lift_lets); intro u; first | (refine Fw.cut (T := T) (z := z) u ?_ ?_; (subst u); rotate_left; clear_value u; intro _) | (refine Fw.cut (T := T) (z := z) u.st ?_ ?_; (subst u); rotate_left; clear_value u; intro _) | (refine Fw.cut (T := T) (z := z) u.1 ?_ ?_; (subst u); rotate_left; clear_value u; intro _) | ((have _ := fun x => u x); subst u) | clear_value u)
    | dsimp only
    | (first | with_reducible exact Nat.le_trans hT (by decide) | (left; (try unfold laneKey); (try split) <;> simp only [Reg.TALLY_CONTROL.DISCREPANCIES, Reg.TALLY_LOG.LOG_HEAD, regKey] <;> omega) | ((try unfold laneKey); (try split) <;> simp only [Reg.TALLY_CONTROL.DISCREPANCIES, Reg.TALLY_LOG.LOG_HEAD, regKey] <;> omega) | omega | decide)

theorem State.awaitSweep_fw {z : State} {T : Nat} (hT : T ≤ 0x300000) (s : State) (n : Nat) (hs : Fw T z s) : Fw T z (State.awaitSweep s n) := by
  unfold State.awaitSweep
  repeat' first
    | with_reducible first | assumption | apply State.setTab_fw
    | (first | with_reducible exact Nat.le_trans hT (by decide) | (left; (try unfold laneKey); (try split) <;> simp only [regKey] <;> omega) | ((try unfold laneKey); (try split) <;> simp only [regKey] <;> omega) | omega | decide)

theorem State.queueFence_fw {z : State} {T : Nat} (hT : T ≤ 0x300000) (s : State) (h : Nat) (log : Option Nat) (hs : Fw T z s) : Fw T z (State.queueFence s h log) := by
  unfold State.queueFence
  repeat' first
    | with_reducible first | assumption | apply Fw.ite | apply State.awaitSweep_fw
    | refine fun _ => ?_
    | dsimp only
    | (with_reducible apply Fw.fst; assumption)
    | split
    | with_reducible apply Fw.upd
    | (first | with_reducible exact Nat.le_trans hT (by decide) | (left; (try unfold laneKey); (try split) <;> simp only [regKey] <;> omega) | ((try unfold laneKey); (try split) <;> simp only [regKey] <;> omega) | omega | decide)

theorem State.discrepancy_fw {z : State} {T : Nat} (hT : T ≤ 0x300000) (s : State) (quantity part h ledger found by_ : Nat) (hs : Fw T z s) : Fw T z (State.discrepancy s quantity part h ledger found by_) := by
  unfold State.discrepancy
  repeat' first
    | with_reducible first | assumption | apply Fw.ite | apply State.when_fw | apply State.event_fw | apply State.fatalFault_fw | apply State.logFault_fw | apply State.logTally_fw | apply State.queueFence_fw | apply State.setTab_fw
    | refine fun _ => ?_
    | ((try lift_lets); intro u; first | (refine Fw.cut (T := T) (z := z) u ?_ ?_; (subst u); rotate_left; clear_value u; intro _) | (refine Fw.cut (T := T) (z := z) u.st ?_ ?_; (subst u); rotate_left; clear_value u; intro _) | (refine Fw.cut (T := T) (z := z) u.1 ?_ ?_; (subst u); rotate_left; clear_value u; intro _) | ((have _ := fun x => u x); subst u) | clear_value u)
    | dsimp only
    | (first | with_reducible exact Nat.le_trans hT (by decide) | (left; (try unfold laneKey); (try split) <;> simp only [Reg.STARTUP.FATAL_ACTION, Reg.TALLY_CONTROL.DISCREPANCIES, Reg.TALLY_CONTROL.EVENTS, regKey] <;> omega) | ((try unfold laneKey); (try split) <;> simp only [Reg.STARTUP.FATAL_ACTION, Reg.TALLY_CONTROL.DISCREPANCIES, Reg.TALLY_CONTROL.EVENTS, regKey] <;> omega) | omega | decide)

theorem State.report_fw {z : State} {T : Nat} (hT : T ≤ 0x300000) (s : State) (p k n : Nat) (hs : Fw T z s) : Fw T z (State.report s p k n) := by
  unfold State.report
  repeat' first
    | with_reducible first | assumption | apply State.setTab_fw
    | (first | with_reducible exact Nat.le_trans hT (by decide) | (left; (try unfold laneKey); (try split) <;> simp only [regKey] <;> omega) | ((try unfold laneKey); (try split) <;> simp only [regKey] <;> omega) | omega | decide)

theorem State.allocate_fw {z : State} {T : Nat} (hT : T ≤ 0x300000) (s : State) (p k n h : Nat) (hs : Fw T z s) : Fw T z (State.allocate s p k n h) := by
  unfold State.allocate
  repeat' first
    | with_reducible first | assumption | apply Fw.ite | apply State.discrepancy_fw | apply State.report_fw
    | refine fun _ => ?_
    | (first | with_reducible exact Nat.le_trans hT (by decide) | (left; (try unfold laneKey); (try split) <;> simp only [regKey] <;> omega) | ((try unfold laneKey); (try split) <;> simp only [regKey] <;> omega) | omega | decide)

theorem State.unreport_fw {z : State} {T : Nat} (hT : T ≤ 0x300000) (s : State) (p k n h quantity : Nat) (hs : Fw T z s) : Fw T z (State.unreport s p k n h quantity) := by
  unfold State.unreport
  repeat' first
    | with_reducible first | assumption | apply Fw.ite | apply State.discrepancy_fw | apply State.setTab_fw
    | refine fun _ => ?_
    | (first | with_reducible exact Nat.le_trans hT (by decide) | (left; (try unfold laneKey); (try split) <;> simp only [regKey] <;> omega) | ((try unfold laneKey); (try split) <;> simp only [regKey] <;> omega) | omega | decide)

theorem State.countDrop_fw {z : State} {T : Nat} (hT : T ≤ 0x300000) (s : State) (outcome port reason : Nat) (hs : Fw T z s) : Fw T z (State.countDrop s outcome port reason) := by
  unfold State.countDrop
  repeat' first
    | with_reducible first | assumption | apply Fw.ite | apply State.count_fw | apply State.drop_fw | apply State.setTab_fw
    | refine fun _ => ?_
    | ((try lift_lets); intro u; first | (refine Fw.cut (T := T) (z := z) u ?_ ?_; (subst u); rotate_left; clear_value u; intro _) | (refine Fw.cut (T := T) (z := z) u.st ?_ ?_; (subst u); rotate_left; clear_value u; intro _) | (refine Fw.cut (T := T) (z := z) u.1 ?_ ?_; (subst u); rotate_left; clear_value u; intro _) | ((have _ := fun x => u x); subst u) | clear_value u)
    | dsimp only
    | (with_reducible apply Fw.fst; assumption)
    | split
    | (first | with_reducible exact Nat.le_trans hT (by decide) | (left; (try unfold laneKey); (try split) <;> simp only [regKey] <;> omega) | ((try unfold laneKey); (try split) <;> simp only [regKey] <;> omega) | omega | decide)

theorem State.countCopyDrop_fw {z : State} {T : Nat} (hT : T ≤ 0x300000) (s : State) (outcome port q reason : Nat) (hs : Fw T z s) : Fw T z (State.countCopyDrop s outcome port q reason) := by
  unfold State.countCopyDrop
  repeat' first
    | with_reducible first | assumption | apply State.count_fw | apply State.countDrop_fw
    | (first | with_reducible exact Nat.le_trans hT (by decide) | (left; (try unfold laneKey); (try split) <;> simp only [regKey] <;> omega) | ((try unfold laneKey); (try split) <;> simp only [regKey] <;> omega) | omega | decide)

theorem State.setCauses_fw {z : State} {T : Nat} (hT : T ≤ 0x300000) (s : State) (n c : Nat) (hs : Fw T z s) : Fw T z (State.setCauses s n c) := by
  unfold State.setCauses
  repeat' first
    | with_reducible first | assumption | apply State.when_fw | apply State.clearTabRange_fw | apply State.setTab_fw | apply State.trigger_fw
    | refine fun _ => ?_
    | ((try lift_lets); intro u; first | (refine Fw.cut (T := T) (z := z) u ?_ ?_; (subst u); rotate_left; clear_value u; intro _) | (refine Fw.cut (T := T) (z := z) u.st ?_ ?_; (subst u); rotate_left; clear_value u; intro _) | (refine Fw.cut (T := T) (z := z) u.1 ?_ ?_; (subst u); rotate_left; clear_value u; intro _) | ((have _ := fun x => u x); subst u) | clear_value u)
    | dsimp only
    | (first | with_reducible exact Nat.le_trans hT (by decide) | (left; (try unfold laneKey); (try split) <;> simp only [regKey] <;> omega) | ((try unfold laneKey); (try split) <;> simp only [regKey] <;> omega) | omega | decide)

theorem State.refreshResvs_fw {z : State} {T : Nat} (hT : T ≤ 0x300000) (s : State) (hs : Fw T z s) : Fw T z (State.refreshResvs s) := by
  unfold State.refreshResvs
  repeat' first
    | with_reducible first | assumption | apply State.forAll_fw | apply State.setCauses_fw
    | refine fun _ => ?_
    | dsimp only
    | (first | with_reducible exact Nat.le_trans hT (by decide) | (left; (try unfold laneKey); (try split) <;> simp only [regKey] <;> omega) | ((try unfold laneKey); (try split) <;> simp only [regKey] <;> omega) | omega | decide)

theorem State.refreshResvPort_fw {z : State} {T : Nat} (hT : T ≤ 0x300000) (s : State) (p : Nat) (hs : Fw T z s) : Fw T z (State.refreshResvPort s p) := by
  unfold State.refreshResvPort
  repeat' first
    | with_reducible first | assumption | apply State.when_fw | apply State.resetReg_fw | apply State.setReg_fw | apply State.setTab_fw
    | refine fun _ => ?_
    | ((try lift_lets); intro u; first | (refine Fw.cut (T := T) (z := z) u ?_ ?_; (subst u); rotate_left; clear_value u; intro _) | (refine Fw.cut (T := T) (z := z) u.st ?_ ?_; (subst u); rotate_left; clear_value u; intro _) | (refine Fw.cut (T := T) (z := z) u.1 ?_ ?_; (subst u); rotate_left; clear_value u; intro _) | ((have _ := fun x => u x); subst u) | clear_value u)
    | dsimp only
    | (first | with_reducible exact Nat.le_trans hT (by decide) | (left; (try unfold laneKey); (try split) <;> simp only [Reg.PORT.FEC_MODE, Reg.PORT.PORT_SPEED, Reg.RESV_PORT.ADMITTED_FEC, Reg.RESV_PORT.ADMITTED_SPEED, Reg.RESV_PORT.RESV_COUNT, Reg.RESV_PORT.WORST_Q_NS, regKey] <;> omega) | ((try unfold laneKey); (try split) <;> simp only [Reg.PORT.FEC_MODE, Reg.PORT.PORT_SPEED, Reg.RESV_PORT.ADMITTED_FEC, Reg.RESV_PORT.ADMITTED_SPEED, Reg.RESV_PORT.RESV_COUNT, Reg.RESV_PORT.WORST_Q_NS, regKey] <;> omega) | omega | decide)

theorem State.refreshResvTotals_fw {z : State} {T : Nat} (hT : T ≤ 0x300000) (s : State) (hs : Fw T z s) : Fw T z (State.refreshResvTotals s) := by
  unfold State.refreshResvTotals
  repeat' first
    | with_reducible first | assumption | apply State.forAll_fw | apply State.refreshResvPort_fw | apply State.setReg_fw
    | refine fun _ => ?_
    | ((try lift_lets); intro u; first | (refine Fw.cut (T := T) (z := z) u ?_ ?_; (subst u); rotate_left; clear_value u; intro _) | (refine Fw.cut (T := T) (z := z) u.st ?_ ?_; (subst u); rotate_left; clear_value u; intro _) | (refine Fw.cut (T := T) (z := z) u.1 ?_ ?_; (subst u); rotate_left; clear_value u; intro _) | ((have _ := fun x => u x); subst u) | clear_value u)
    | dsimp only
    | (first | with_reducible exact Nat.le_trans hT (by decide) | (left; (try unfold laneKey); (try split) <;> simp only [Reg.ADMISSION_CONTROL.CELLS_HELD, Reg.ADMISSION_CONTROL.DESC_HELD, Reg.ADMISSION_CONTROL.RESV_ADMITTED, regKey] <;> omega) | ((try unfold laneKey); (try split) <;> simp only [Reg.ADMISSION_CONTROL.CELLS_HELD, Reg.ADMISSION_CONTROL.DESC_HELD, Reg.ADMISSION_CONTROL.RESV_ADMITTED, regKey] <;> omega) | omega | decide)

theorem State.freeResv_fw {z : State} {T : Nat} (hT : T ≤ 0x300000) (s : State) (n : Nat) (hs : Fw T z s) : Fw T z (State.freeResv s n) := by
  unfold State.freeResv
  repeat' first
    | with_reducible first | assumption | apply State.forAll_fw | apply State.clearTabRange_fw | apply State.setTab_fw
    | refine fun _ => ?_
    | ((try lift_lets); intro u; first | (refine Fw.cut (T := T) (z := z) u ?_ ?_; (subst u); rotate_left; clear_value u; intro _) | (refine Fw.cut (T := T) (z := z) u.st ?_ ?_; (subst u); rotate_left; clear_value u; intro _) | (refine Fw.cut (T := T) (z := z) u.1 ?_ ?_; (subst u); rotate_left; clear_value u; intro _) | ((have _ := fun x => u x); subst u) | clear_value u)
    | dsimp only
    | with_reducible apply Fw.upd
    | (first | with_reducible exact Nat.le_trans hT (by decide) | (left; (try unfold laneKey); (try split) <;> simp only [regKey] <;> omega) | ((try unfold laneKey); (try split) <;> simp only [regKey] <;> omega) | omega | decide)

theorem State.keepOld_fw {z : State} {T : Nat} (hT : T ≤ 0x300000) (s : State) (n v cells desc : Nat) (e : Option Nat) (hs : Fw T z s) : Fw T z (State.keepOld s n v cells desc e) := by
  unfold State.keepOld
  repeat' first
    | with_reducible first | assumption
    | dsimp only
    | with_reducible apply Fw.upd
    | (first | with_reducible exact Nat.le_trans hT (by decide) | (left; (try unfold laneKey); (try split) <;> simp only [regKey] <;> omega) | ((try unfold laneKey); (try split) <;> simp only [regKey] <;> omega) | omega | decide)

theorem State.withdraw_fw {z : State} {T : Nat} (hT : T ≤ 0x300000) (s : State) (n : Nat) (e : Option Nat) (byHost : Bool) (hs : Fw T z s) : Fw T z (State.withdraw s n e byHost) := by
  unfold State.withdraw
  repeat' first
    | with_reducible first | assumption | apply Fw.ite | apply State.when_fw | apply State.keepOld_fw | apply State.setTab_fw | apply State.trigger_fw
    | refine fun _ => ?_
    | ((try lift_lets); intro u; first | (refine Fw.cut (T := T) (z := z) u ?_ ?_; (subst u); rotate_left; clear_value u; intro _) | (refine Fw.cut (T := T) (z := z) u.st ?_ ?_; (subst u); rotate_left; clear_value u; intro _) | (refine Fw.cut (T := T) (z := z) u.1 ?_ ?_; (subst u); rotate_left; clear_value u; intro _) | ((have _ := fun x => u x); subst u) | clear_value u)
    | dsimp only
    | (first | with_reducible exact Nat.le_trans hT (by decide) | (left; (try unfold laneKey); (try split) <;> simp only [regKey] <;> omega) | ((try unfold laneKey); (try split) <;> simp only [regKey] <;> omega) | omega | decide)

theorem State.copyLeft_fw {z : State} {T : Nat} (hT : T ≤ 0x300000) (s : State) (e q ts : Nat) (hs : Fw T z s) : Fw T z (State.copyLeft s e q ts) := by
  unfold State.copyLeft
  repeat' first
    | with_reducible first | assumption | apply State.forAll_fw | apply State.setTab_fw
    | refine fun _ => ?_
    | dsimp only
    | (first | with_reducible exact Nat.le_trans hT (by decide) | (left; (try unfold laneKey); (try split) <;> simp only [regKey] <;> omega) | ((try unfold laneKey); (try split) <;> simp only [regKey] <;> omega) | omega | decide)

theorem State.storeHeld_fw {z : State} {T : Nat} (hT : T ≤ 0x300000) (s : State) (f : Finding) (hs : Fw T z s) : Fw T z (State.storeHeld s f) := by
  unfold State.storeHeld
  repeat' first
    | with_reducible first | assumption | apply State.setTab_fw
    | (first | with_reducible exact Nat.le_trans hT (by decide) | (left; (try unfold laneKey); (try split) <;> simp only [regKey] <;> omega) | ((try unfold laneKey); (try split) <;> simp only [regKey] <;> omega) | omega | decide)

theorem State.storeBounds_fw {z : State} {T : Nat} (hT : T ≤ 0x300000) (s : State) (from' : Nat) (f : Finding) (hs : Fw T z s) : Fw T z (State.storeBounds s from' f) := by
  unfold State.storeBounds
  repeat' first
    | with_reducible first | assumption | apply State.when_fw | apply State.forAll_fw | apply State.clearTabRange_fw | apply State.setTab_fw
    | refine fun _ => ?_
    | ((try lift_lets); intro u; first | (refine Fw.cut (T := T) (z := z) u ?_ ?_; (subst u); rotate_left; clear_value u; intro _) | (refine Fw.cut (T := T) (z := z) u.st ?_ ?_; (subst u); rotate_left; clear_value u; intro _) | (refine Fw.cut (T := T) (z := z) u.1 ?_ ?_; (subst u); rotate_left; clear_value u; intro _) | ((have _ := fun x => u x); subst u) | clear_value u)
    | dsimp only
    | with_reducible apply Fw.upd
    | (first | with_reducible exact Nat.le_trans hT (by decide) | (left; (try unfold laneKey); (try split) <;> simp only [regKey] <;> omega) | ((try unfold laneKey); (try split) <;> simp only [regKey] <;> omega) | omega | decide)

theorem State.storeWorstQ_fw {z : State} {T : Nat} (hT : T ≤ 0x300000) (s : State) (fs : List Finding) (hs : Fw T z s) : Fw T z (State.storeWorstQ s fs) := by
  unfold State.storeWorstQ
  repeat' first
    | with_reducible first | assumption | apply State.forAll_fw | apply State.setReg_fw
    | refine fun _ => ?_
    | ((try lift_lets); intro u; first | (refine Fw.cut (T := T) (z := z) u ?_ ?_; (subst u); rotate_left; clear_value u; intro _) | (refine Fw.cut (T := T) (z := z) u.st ?_ ?_; (subst u); rotate_left; clear_value u; intro _) | (refine Fw.cut (T := T) (z := z) u.1 ?_ ?_; (subst u); rotate_left; clear_value u; intro _) | ((have _ := fun x => u x); subst u) | clear_value u)
    | dsimp only
    | (first | with_reducible exact Nat.le_trans hT (by decide) | (left; (try unfold laneKey); (try split) <;> simp only [Reg.RESV_PORT.WORST_Q_NS, regKey] <;> omega) | ((try unfold laneKey); (try split) <;> simp only [Reg.RESV_PORT.WORST_Q_NS, regKey] <;> omega) | omega | decide)

theorem State.refreshBounds_fw {z : State} {T : Nat} (hT : T ≤ 0x300000) (s : State) (from' : Nat) (hs : Fw T z s) : Fw T z (State.refreshBounds s from') := by
  unfold State.refreshBounds
  repeat' first
    | with_reducible first | assumption | apply State.when_fw | apply State.forAll_fw | apply State.refreshResvTotals_fw | apply State.storeBounds_fw | apply State.storeHeld_fw | apply State.storeWorstQ_fw
    | refine fun _ => ?_
    | dsimp only
    | (with_reducible apply Fw.fst; assumption)
    | split
    | (first | with_reducible exact Nat.le_trans hT (by decide) | (left; (try unfold laneKey); (try split) <;> simp only [regKey] <;> omega) | ((try unfold laneKey); (try split) <;> simp only [regKey] <;> omega) | omega | decide)

theorem State.drainResvs_fw {z : State} {T : Nat} (hT : T ≤ 0x300000) (s : State) (hs : Fw T z s) : Fw T z (State.drainResvs s) := by
  unfold State.drainResvs
  repeat' first
    | with_reducible first | assumption | apply Fw.ite | apply State.forAll_fw | apply State.freeResv_fw | apply State.refreshBounds_fw | apply State.refreshResvTotals_fw
    | refine fun _ => ?_
    | ((try lift_lets); intro u; first | (refine Fw.cut (T := T) (z := z) u ?_ ?_; (subst u); rotate_left; clear_value u; intro _) | (refine Fw.cut (T := T) (z := z) u.st ?_ ?_; (subst u); rotate_left; clear_value u; intro _) | (refine Fw.cut (T := T) (z := z) u.1 ?_ ?_; (subst u); rotate_left; clear_value u; intro _) | ((have _ := fun x => u x); subst u) | clear_value u)
    | dsimp only
    | with_reducible apply Fw.upd
    | (first | with_reducible exact Nat.le_trans hT (by decide) | (left; (try unfold laneKey); (try split) <;> simp only [regKey] <;> omega) | ((try unfold laneKey); (try split) <;> simp only [regKey] <;> omega) | omega | decide)

theorem State.macReceived_fw {z : State} {T : Nat} (hT : T ≤ 0x300000) (s : State) (p n : Nat) (hs : Fw T z s) : Fw T z (State.macReceived s p n) := by
  unfold State.macReceived
  repeat' first
    | with_reducible first | assumption | apply State.count_fw
    | (first | with_reducible exact Nat.le_trans hT (by decide) | (left; (try unfold laneKey); (try split) <;> simp only [regKey] <;> omega) | ((try unfold laneKey); (try split) <;> simp only [regKey] <;> omega) | omega | decide)

theorem State.macSent_fw {z : State} {T : Nat} (hT : T ≤ 0x300000) (s : State) (p n : Nat) (hs : Fw T z s) : Fw T z (State.macSent s p n) := by
  unfold State.macSent
  repeat' first
    | with_reducible first | assumption | apply State.count_fw
    | (first | with_reducible exact Nat.le_trans hT (by decide) | (left; (try unfold laneKey); (try split) <;> simp only [regKey] <;> omega) | ((try unfold laneKey); (try split) <;> simp only [regKey] <;> omega) | omega | decide)

theorem State.putFrame_fw {z : State} {T : Nat} (hT : T ≤ 0x300000) (s : State) (f : Frame) (hs : Fw T z s) : Fw T z (State.putFrame s f) := by
  unfold State.putFrame
  repeat' first
    | with_reducible first | assumption | apply Fw.ite | apply Fw.id
    | refine fun _ => ?_
    | dsimp only
    | with_reducible apply Fw.upd
    | (first | with_reducible exact Nat.le_trans hT (by decide) | (left; (try unfold laneKey); (try split) <;> simp only [regKey] <;> omega) | ((try unfold laneKey); (try split) <;> simp only [regKey] <;> omega) | omega | decide)

theorem State.putCopy_fw {z : State} {T : Nat} (hT : T ≤ 0x300000) (s : State) (c : Copy) (hs : Fw T z s) : Fw T z (State.putCopy s c) := by
  unfold State.putCopy
  repeat' first
    | with_reducible first | assumption | apply Fw.ite | apply Fw.id
    | refine fun _ => ?_
    | dsimp only
    | with_reducible apply Fw.upd
    | (first | with_reducible exact Nat.le_trans hT (by decide) | (left; (try unfold laneKey); (try split) <;> simp only [regKey] <;> omega) | ((try unfold laneKey); (try split) <;> simp only [regKey] <;> omega) | omega | decide)

theorem State.removeCopy_fw {z : State} {T : Nat} (hT : T ≤ 0x300000) (s : State) (c : Copy) (hs : Fw T z s) : Fw T z (State.removeCopy s c) := by
  unfold State.removeCopy
  repeat' first
    | with_reducible first | assumption | apply Fw.id | apply State.copyLeft_fw
    | refine fun _ => ?_
    | ((try lift_lets); intro u; first | (refine Fw.cut (T := T) (z := z) u ?_ ?_; (subst u); rotate_left; clear_value u; intro _) | (refine Fw.cut (T := T) (z := z) u.st ?_ ?_; (subst u); rotate_left; clear_value u; intro _) | (refine Fw.cut (T := T) (z := z) u.1 ?_ ?_; (subst u); rotate_left; clear_value u; intro _) | ((have _ := fun x => u x); subst u) | clear_value u)
    | dsimp only
    | (with_reducible apply Fw.fst; assumption)
    | split
    | with_reducible apply Fw.upd
    | (first | with_reducible exact Nat.le_trans hT (by decide) | (left; (try unfold laneKey); (try split) <;> simp only [regKey] <;> omega) | ((try unfold laneKey); (try split) <;> simp only [regKey] <;> omega) | omega | decide)

theorem State.setDrrActive_fw {z : State} {T : Nat} (hT : T ≤ 0x300000) (s : State) (p : Nat) (l : List Nat) (hs : Fw T z s) : Fw T z (State.setDrrActive s p l) := by
  unfold State.setDrrActive
  repeat' first
    | with_reducible first | assumption
    | refine fun _ => ?_
    | dsimp only
    | with_reducible apply Fw.upd
    | (first | with_reducible exact Nat.le_trans hT (by decide) | (left; (try unfold laneKey); (try split) <;> simp only [regKey] <;> omega) | ((try unfold laneKey); (try split) <;> simp only [regKey] <;> omega) | omega | decide)

theorem State.setDeficit_fw {z : State} {T : Nat} (hT : T ≤ 0x300000) (s : State) (p q v : Nat) (hs : Fw T z s) : Fw T z (State.setDeficit s p q v) := by
  unfold State.setDeficit
  repeat' first
    | with_reducible first | assumption | apply State.setReg_fw
    | (first | with_reducible exact Nat.le_trans hT (by decide) | (left; (try unfold laneKey); (try split) <;> simp only [Reg.PORT_QSTATE.DEFICIT, regKey] <;> omega) | ((try unfold laneKey); (try split) <;> simp only [Reg.PORT_QSTATE.DEFICIT, regKey] <;> omega) | omega | decide)

theorem State.leaveDrr_fw {z : State} {T : Nat} (hT : T ≤ 0x300000) (s : State) (p q : Nat) (hs : Fw T z s) : Fw T z (State.leaveDrr s p q) := by
  unfold State.leaveDrr
  repeat' first
    | with_reducible first | assumption | apply Fw.ite | apply State.when_fw | apply State.setDeficit_fw | apply State.setDrrActive_fw | apply State.setTab_fw
    | refine fun _ => ?_
    | ((try lift_lets); intro u; first | (refine Fw.cut (T := T) (z := z) u ?_ ?_; (subst u); rotate_left; clear_value u; intro _) | (refine Fw.cut (T := T) (z := z) u.st ?_ ?_; (subst u); rotate_left; clear_value u; intro _) | (refine Fw.cut (T := T) (z := z) u.1 ?_ ?_; (subst u); rotate_left; clear_value u; intro _) | ((have _ := fun x => u x); subst u) | clear_value u)
    | dsimp only
    | with_reducible apply Fw.upd
    | (first | with_reducible exact Nat.le_trans hT (by decide) | (left; (try unfold laneKey); (try split) <;> simp only [regKey] <;> omega) | ((try unfold laneKey); (try split) <;> simp only [regKey] <;> omega) | omega | decide)

theorem State.enterDrr_fw {z : State} {T : Nat} (hT : T ≤ 0x300000) (s : State) (p q : Nat) (hs : Fw T z s) : Fw T z (State.enterDrr s p q) := by
  unfold State.enterDrr
  repeat' first
    | with_reducible first | assumption | apply Fw.ite | apply State.when_fw | apply State.setDrrActive_fw | apply State.setTab_fw
    | refine fun _ => ?_
    | ((try lift_lets); intro u; first | (refine Fw.cut (T := T) (z := z) u ?_ ?_; (subst u); rotate_left; clear_value u; intro _) | (refine Fw.cut (T := T) (z := z) u.st ?_ ?_; (subst u); rotate_left; clear_value u; intro _) | (refine Fw.cut (T := T) (z := z) u.1 ?_ ?_; (subst u); rotate_left; clear_value u; intro _) | ((have _ := fun x => u x); subst u) | clear_value u)
    | dsimp only
    | (first | with_reducible exact Nat.le_trans hT (by decide) | (left; (try unfold laneKey); (try split) <;> simp only [Reg.PORT_SCHED.STRICT_MASK, regKey] <;> omega) | ((try unfold laneKey); (try split) <;> simp only [Reg.PORT_SCHED.STRICT_MASK, regKey] <;> omega) | omega | decide)

theorem State.settleQueue_fw {z : State} {T : Nat} (hT : T ≤ 0x300000) (s : State) (p q : Nat) (hs : Fw T z s) : Fw T z (State.settleQueue s p q) := by
  unfold State.settleQueue
  repeat' first
    | with_reducible first | assumption | apply Fw.ite | apply State.leaveDrr_fw
    | refine fun _ => ?_
    | (first | with_reducible exact Nat.le_trans hT (by decide) | (left; (try unfold laneKey); (try split) <;> simp only [regKey] <;> omega) | ((try unfold laneKey); (try split) <;> simp only [regKey] <;> omega) | omega | decide)

theorem State.setFifo_fw {z : State} {T : Nat} (hT : T ≤ 0x300000) (s : State) (i : Nat) (l : List Nat) (hs : Fw T z s) : Fw T z (State.setFifo s i l) := by
  unfold State.setFifo
  repeat' first
    | with_reducible first | assumption
    | refine fun _ => ?_
    | dsimp only
    | with_reducible apply Fw.upd
    | (first | with_reducible exact Nat.le_trans hT (by decide) | (left; (try unfold laneKey); (try split) <;> simp only [regKey] <;> omega) | ((try unfold laneKey); (try split) <;> simp only [regKey] <;> omega) | omega | decide)

theorem State.pullStream_fw {z : State} {T : Nat} (hT : T ≤ 0x300000) (s : State) (t n : Nat) (hs : Fw T z s) : Fw T z (State.pullStream s t n) := by
  induction n generalizing s with
  | zero => exact hs
  | succ n ih =>
    unfold State.pullStream
    repeat' first
      | with_reducible first | assumption | apply Fw.ite | apply ih | apply State.setTab_fw | apply State.setFifo_fw
      | refine fun _ => ?_
      | ((try lift_lets); intro u; first | (refine Fw.cut (T := T) (z := z) u ?_ ?_; (subst u); rotate_left; clear_value u; intro _) | (refine Fw.cut (T := T) (z := z) u.st ?_ ?_; (subst u); rotate_left; clear_value u; intro _) | (refine Fw.cut (T := T) (z := z) u.1 ?_ ?_; (subst u); rotate_left; clear_value u; intro _) | ((have _ := fun x => u x); subst u) | clear_value u)
      | dsimp only
      | (with_reducible apply Fw.fst; assumption)
      | split

theorem State.pushPostcard_fw {z : State} {T : Nat} (hT : T ≤ 0x300000) (s : State) (i rec : Nat) (hs : Fw T z s) : Fw T z (State.pushPostcard s i rec) := by
  unfold State.pushPostcard
  repeat' first
    | with_reducible first | assumption | apply Fw.ite | apply State.bump_fw | apply State.count_fw | apply State.event_fw | apply State.pullStream_fw | apply State.setFifo_fw | apply State.setTab_fw
    | refine fun _ => ?_
    | ((try lift_lets); intro u; first | (refine Fw.cut (T := T) (z := z) u ?_ ?_; (subst u); rotate_left; clear_value u; intro _) | (refine Fw.cut (T := T) (z := z) u.st ?_ ?_; (subst u); rotate_left; clear_value u; intro _) | (refine Fw.cut (T := T) (z := z) u.1 ?_ ?_; (subst u); rotate_left; clear_value u; intro _) | ((have _ := fun x => u x); subst u) | clear_value u)
    | (first | with_reducible exact Nat.le_trans hT (by decide) | (left; (try unfold laneKey); (try split) <;> simp only [Reg.COUNTER_CONTROL.EVENTS, Reg.TELEMETRY_STREAM.LOST, regKey] <;> omega) | ((try unfold laneKey); (try split) <;> simp only [Reg.COUNTER_CONTROL.EVENTS, Reg.TELEMETRY_STREAM.LOST, regKey] <;> omega) | omega | decide)

theorem State.framePostcard_fw {z : State} {T : Nat} (hT : T ≤ 0x300000) (s : State) (f : Frame) (port outcome reason : Nat) (hs : Fw T z s) : Fw T z (State.framePostcard s f port outcome reason) := by
  unfold State.framePostcard
  repeat' first
    | with_reducible first | assumption | apply State.when_fw | apply State.pushPostcard_fw
    | refine fun _ => ?_
    | dsimp only
    | (first | with_reducible exact Nat.le_trans hT (by decide) | (left; (try unfold laneKey); (try split) <;> simp only [regKey] <;> omega) | ((try unfold laneKey); (try split) <;> simp only [regKey] <;> omega) | omega | decide)

theorem State.copyPostcard_fw {z : State} {T : Nat} (hT : T ≤ 0x300000) (s : State) (f : Frame) (c : Copy) (outcome reason ts : Nat) (stomped covered : Bool) (hs : Fw T z s) : Fw T z (State.copyPostcard s f c outcome reason ts stomped covered) := by
  unfold State.copyPostcard
  repeat' first
    | with_reducible first | assumption | apply State.when_fw | apply State.pushPostcard_fw
    | refine fun _ => ?_
    | ((try lift_lets); intro u; first | (refine Fw.cut (T := T) (z := z) u ?_ ?_; (subst u); rotate_left; clear_value u; intro _) | (refine Fw.cut (T := T) (z := z) u.st ?_ ?_; (subst u); rotate_left; clear_value u; intro _) | (refine Fw.cut (T := T) (z := z) u.1 ?_ ?_; (subst u); rotate_left; clear_value u; intro _) | ((have _ := fun x => u x); subst u) | clear_value u)
    | dsimp only
    | (first | with_reducible exact Nat.le_trans hT (by decide) | (left; (try unfold laneKey); (try split) <;> simp only [regKey] <;> omega) | ((try unfold laneKey); (try split) <;> simp only [regKey] <;> omega) | omega | decide)

theorem State.resvCounted_fw {z : State} {T : Nat} (hT : T ≤ 0x300000) (s : State) (n k amt : Nat) (hs : Fw T z s) : Fw T z (State.resvCounted s n k amt) := by
  unfold State.resvCounted
  repeat' first
    | with_reducible first | assumption | apply State.setTab_fw
    | (first | with_reducible exact Nat.le_trans hT (by decide) | (left; (try unfold laneKey); (try split) <;> simp only [regKey] <;> omega) | ((try unfold laneKey); (try split) <;> simp only [regKey] <;> omega) | omega | decide)

theorem State.uncovered_fw {z : State} {T : Nat} (hT : T ≤ 0x300000) (s : State) (f : Frame) (copies : Nat) (hs : Fw T z s) : Fw T z (State.uncovered s f copies) := by
  unfold State.uncovered
  repeat' first
    | with_reducible first | assumption | apply State.resvCounted_fw
    | dsimp only
    | (with_reducible apply Fw.fst; assumption)
    | split
    | (first | with_reducible exact Nat.le_trans hT (by decide) | (left; (try unfold laneKey); (try split) <;> simp only [regKey] <;> omega) | ((try unfold laneKey); (try split) <;> simp only [regKey] <;> omega) | omega | decide)

theorem State.breach_fw {z : State} {T : Nat} (hT : T ≤ 0x300000) (s : State) (f : Frame) (n port ts d : Nat) (hs : Fw T z s) : Fw T z (State.breach s f n port ts d) := by
  unfold State.breach
  repeat' first
    | with_reducible first | assumption | apply State.logFault_fw | apply State.resvCounted_fw | apply State.setCause_fw | apply State.trigger_fw
    | ((try lift_lets); intro u; first | (refine Fw.cut (T := T) (z := z) u ?_ ?_; (subst u); rotate_left; clear_value u; intro _) | (refine Fw.cut (T := T) (z := z) u.st ?_ ?_; (subst u); rotate_left; clear_value u; intro _) | (refine Fw.cut (T := T) (z := z) u.1 ?_ ?_; (subst u); rotate_left; clear_value u; intro _) | ((have _ := fun x => u x); subst u) | clear_value u)
    | (first | with_reducible exact Nat.le_trans hT (by decide) | (left; (try unfold laneKey); (try split) <;> simp only [regKey] <;> omega) | ((try unfold laneKey); (try split) <;> simp only [regKey] <;> omega) | omega | decide)

theorem State.dropInResv_fw {z : State} {T : Nat} (hT : T ≤ 0x300000) (s : State) (f : Frame) (reason : Nat) (hs : Fw T z s) : Fw T z (State.dropInResv s f reason) := by
  unfold State.dropInResv
  repeat' first
    | with_reducible first | assumption | apply Fw.ite | apply State.forAll_fw | apply State.breach_fw | apply State.resvCounted_fw | apply State.uncovered_fw
    | refine fun _ => ?_
    | dsimp only
    | (with_reducible apply Fw.fst; assumption)
    | split
    | (first | with_reducible exact Nat.le_trans hT (by decide) | (left; (try unfold laneKey); (try split) <;> simp only [regKey] <;> omega) | ((try unfold laneKey); (try split) <;> simp only [regKey] <;> omega) | omega | decide)

theorem State.sendPfc_fw {z : State} {T : Nat} (hT : T ≤ 0x300000) (s : State) (p i time : Nat) (hs : Fw T z s) : Fw T z (State.sendPfc s p i time) := by
  unfold State.sendPfc
  repeat' first
    | with_reducible first | assumption | apply Fw.ite | apply State.count_fw | apply State.emit_fw | apply State.macSent_fw
    | refine fun _ => ?_
    | ((try lift_lets); intro u; first | (refine Fw.cut (T := T) (z := z) u ?_ ?_; (subst u); rotate_left; clear_value u; intro _) | (refine Fw.cut (T := T) (z := z) u.st ?_ ?_; (subst u); rotate_left; clear_value u; intro _) | (refine Fw.cut (T := T) (z := z) u.1 ?_ ?_; (subst u); rotate_left; clear_value u; intro _) | ((have _ := fun x => u x); subst u) | clear_value u)
    | dsimp only
    | (first | with_reducible exact Nat.le_trans hT (by decide) | (left; (try unfold laneKey); (try split) <;> simp only [Reg.IDENTITY.BASE_MAC, regKey] <;> omega) | ((try unfold laneKey); (try split) <;> simp only [Reg.IDENTITY.BASE_MAC, regKey] <;> omega) | omega | decide)

theorem State.pfcCheck_fw {z : State} {T : Nat} (hT : T ≤ 0x300000) (s : State) (p : Nat) (hs : Fw T z s) : Fw T z (State.pfcCheck s p) := by
  unfold State.pfcCheck
  repeat' first
    | with_reducible first | assumption | apply Fw.ite | apply State.forAll_fw | apply State.sendPfc_fw | apply State.setReg_fw
    | refine fun _ => ?_
    | ((try lift_lets); intro u; first | (refine Fw.cut (T := T) (z := z) u ?_ ?_; (subst u); rotate_left; clear_value u; intro _) | (refine Fw.cut (T := T) (z := z) u.st ?_ ?_; (subst u); rotate_left; clear_value u; intro _) | (refine Fw.cut (T := T) (z := z) u.1 ?_ ?_; (subst u); rotate_left; clear_value u; intro _) | ((have _ := fun x => u x); subst u) | clear_value u)
    | dsimp only
    | (first | with_reducible exact Nat.le_trans hT (by decide) | (left; (try unfold laneKey); (try split) <;> simp only [Reg.PORT_PFC.TX_ENABLE, Reg.PORT_PFC.XOFF_CELLS, Reg.PORT_PFC.XOFF_STATE, Reg.PORT_PFC.XON_CELLS, regKey] <;> omega) | ((try unfold laneKey); (try split) <;> simp only [Reg.PORT_PFC.TX_ENABLE, Reg.PORT_PFC.XOFF_CELLS, Reg.PORT_PFC.XOFF_STATE, Reg.PORT_PFC.XON_CELLS, regKey] <;> omega) | omega | decide)

theorem State.drained_fw {z : State} {T : Nat} (hT : T ≤ 0x300000) (s : State) (hs : Fw T z s) : Fw T z (State.drained s) := by
  unfold State.drained
  repeat' first
    | with_reducible first | assumption | apply Fw.ite | apply State.forAll_fw | apply Res.done_fw | apply State.bump_fw | apply State.drainResvs_fw | apply State.setTab_fw
    | refine fun _ => ?_
    | ((try lift_lets); intro u; first | (refine Fw.cut (T := T) (z := z) u ?_ ?_; (subst u); rotate_left; clear_value u; intro _) | (refine Fw.cut (T := T) (z := z) u.st ?_ ?_; (subst u); rotate_left; clear_value u; intro _) | (refine Fw.cut (T := T) (z := z) u.1 ?_ ?_; (subst u); rotate_left; clear_value u; intro _) | ((have _ := fun x => u x); subst u) | clear_value u)
    | dsimp only
    | (first | with_reducible exact Nat.le_trans hT (by decide) | (left; (try unfold laneKey); (try split) <;> simp only [Reg.LOOKUP_CONTROL.RECLAIMED, regKey] <;> omega) | ((try unfold laneKey); (try split) <;> simp only [Reg.LOOKUP_CONTROL.RECLAIMED, regKey] <;> omega) | omega | decide)

theorem State.dzCount_fw {z : State} {T : Nat} (hT : T ≤ 0x300000) (s : State) (t : Nat) (f : Frame) (n : Nat) (hs : Fw T z s) : Fw T z (State.dzCount s t f n) := by
  unfold State.dzCount
  repeat' first
    | with_reducible first | assumption | apply State.setTab_fw
    | (first | with_reducible exact Nat.le_trans hT (by decide) | (left; (try unfold laneKey); (try split) <;> simp only [regKey] <;> omega) | ((try unfold laneKey); (try split) <;> simp only [regKey] <;> omega) | omega | decide)

theorem State.closeFrame_fw {z : State} {T : Nat} (hT : T ≤ 0x300000) (s : State) (f : Frame) (hs : Fw T z s) : Fw T z (State.closeFrame s f) := by
  unfold State.closeFrame
  repeat' first
    | with_reducible first | assumption | apply Fw.ite | apply Fw.id | apply State.when_fw | apply State.drained_fw | apply State.dzCount_fw | apply State.pfcCheck_fw | apply State.putFrame_fw | apply State.unreport_fw
    | refine fun _ => ?_
    | ((try lift_lets); intro u; first | (refine Fw.cut (T := T) (z := z) u ?_ ?_; (subst u); rotate_left; clear_value u; intro _) | (refine Fw.cut (T := T) (z := z) u.st ?_ ?_; (subst u); rotate_left; clear_value u; intro _) | (refine Fw.cut (T := T) (z := z) u.1 ?_ ?_; (subst u); rotate_left; clear_value u; intro _) | ((have _ := fun x => u x); subst u) | clear_value u)
    | dsimp only
    | with_reducible apply Fw.upd
    | (first | with_reducible exact Nat.le_trans hT (by decide) | (left; (try unfold laneKey); (try split) <;> simp only [regKey] <;> omega) | ((try unfold laneKey); (try split) <;> simp only [regKey] <;> omega) | omega | decide)

theorem State.withdrawCbSeq_fw {z : State} {T : Nat} (hT : T ≤ 0x300000) (s : State) (f : Frame) (hs : Fw T z s) : Fw T z (State.withdrawCbSeq s f) := by
  unfold State.withdrawCbSeq
  repeat' first
    | with_reducible first | assumption | apply State.when_fw | apply State.setTab_fw
    | refine fun _ => ?_
    | ((try lift_lets); intro u; first | (refine Fw.cut (T := T) (z := z) u ?_ ?_; (subst u); rotate_left; clear_value u; intro _) | (refine Fw.cut (T := T) (z := z) u.st ?_ ?_; (subst u); rotate_left; clear_value u; intro _) | (refine Fw.cut (T := T) (z := z) u.1 ?_ ?_; (subst u); rotate_left; clear_value u; intro _) | ((have _ := fun x => u x); subst u) | clear_value u)
    | dsimp only
    | (with_reducible apply Fw.fst; assumption)
    | split
    | (first | with_reducible exact Nat.le_trans hT (by decide) | (left; (try unfold laneKey); (try split) <;> simp only [regKey] <;> omega) | ((try unfold laneKey); (try split) <;> simp only [regKey] <;> omega) | omega | decide)

theorem State.dropWhole_fw {z : State} {T : Nat} (hT : T ≤ 0x300000) (s : State) (f : Frame) (reason : Nat) (hs : Fw T z s) : Fw T z (State.dropWhole s f reason) := by
  unfold State.dropWhole
  repeat' first
    | with_reducible first | assumption | apply Fw.id | apply State.forAll_fw | apply State.closeFrame_fw | apply State.copyLeft_fw | apply State.countDrop_fw | apply State.dropInResv_fw | apply State.framePostcard_fw | apply State.freeTag_fw | apply State.reply_fw | apply State.report_fw | apply State.settleQueue_fw | apply State.unreport_fw | apply State.withdrawCbSeq_fw
    | refine fun _ => ?_
    | ((try lift_lets); intro u; first | (refine Fw.cut (T := T) (z := z) u ?_ ?_; (subst u); rotate_left; clear_value u; intro _) | (refine Fw.cut (T := T) (z := z) u.st ?_ ?_; (subst u); rotate_left; clear_value u; intro _) | (refine Fw.cut (T := T) (z := z) u.1 ?_ ?_; (subst u); rotate_left; clear_value u; intro _) | ((have _ := fun x => u x); subst u) | clear_value u)
    | dsimp only
    | with_reducible apply Fw.upd
    | (first | with_reducible exact Nat.le_trans hT (by decide) | (left; (try unfold laneKey); (try split) <;> simp only [regKey] <;> omega) | ((try unfold laneKey); (try split) <;> simp only [regKey] <;> omega) | omega | decide)

theorem State.finalize_fw {z : State} {T : Nat} (hT : T ≤ 0x300000) (s : State) (f : Frame) (hs : Fw T z s) : Fw T z (State.finalize s f) := by
  unfold State.finalize
  repeat' first
    | with_reducible first | assumption | apply Fw.ite | apply State.forAll_fw | apply State.countCopyDrop_fw | apply State.framePostcard_fw | apply State.putFrame_fw | apply State.report_fw | apply State.uncovered_fw | apply State.unreport_fw
    | refine fun _ => ?_
    | ((try lift_lets); intro u; first | (refine Fw.cut (T := T) (z := z) u ?_ ?_; (subst u); rotate_left; clear_value u; intro _) | (refine Fw.cut (T := T) (z := z) u.st ?_ ?_; (subst u); rotate_left; clear_value u; intro _) | (refine Fw.cut (T := T) (z := z) u.1 ?_ ?_; (subst u); rotate_left; clear_value u; intro _) | ((have _ := fun x => u x); subst u) | clear_value u)
    | dsimp only
    | (first | with_reducible exact Nat.le_trans hT (by decide) | (left; (try unfold laneKey); (try split) <;> simp only [regKey] <;> omega) | ((try unfold laneKey); (try split) <;> simp only [regKey] <;> omega) | omega | decide)

theorem State.dropRef_fw {z : State} {T : Nat} (hT : T ≤ 0x300000) (s : State) (f : Frame) (hs : Fw T z s) : Fw T z (State.dropRef s f) := by
  unfold State.dropRef
  repeat' first
    | with_reducible first | assumption | apply Fw.ite | apply Fw.id | apply State.closeFrame_fw | apply State.putFrame_fw | apply State.unreport_fw
    | refine fun _ => ?_
    | ((try lift_lets); intro u; first | (refine Fw.cut (T := T) (z := z) u ?_ ?_; (subst u); rotate_left; clear_value u; intro _) | (refine Fw.cut (T := T) (z := z) u.st ?_ ?_; (subst u); rotate_left; clear_value u; intro _) | (refine Fw.cut (T := T) (z := z) u.1 ?_ ?_; (subst u); rotate_left; clear_value u; intro _) | ((have _ := fun x => u x); subst u) | clear_value u)
    | dsimp only
    | (first | with_reducible exact Nat.le_trans hT (by decide) | (left; (try unfold laneKey); (try split) <;> simp only [regKey] <;> omega) | ((try unfold laneKey); (try split) <;> simp only [regKey] <;> omega) | omega | decide)

theorem State.dropCopy_fw {z : State} {T : Nat} (hT : T ≤ 0x300000) (s : State) (c : Copy) (reason : Nat) (hs : Fw T z s) : Fw T z (State.dropCopy s c reason) := by
  unfold State.dropCopy
  repeat' first
    | with_reducible first | assumption | apply Fw.ite | apply Fw.id | apply State.copyPostcard_fw | apply State.countCopyDrop_fw | apply State.dropRef_fw | apply State.dropWhole_fw | apply State.putFrame_fw | apply State.removeCopy_fw | apply State.report_fw | apply State.settleQueue_fw | apply State.uncovered_fw | apply State.unreport_fw
    | refine fun _ => ?_
    | ((try lift_lets); intro u; first | (refine Fw.cut (T := T) (z := z) u ?_ ?_; (subst u); rotate_left; clear_value u; intro _) | (refine Fw.cut (T := T) (z := z) u.st ?_ ?_; (subst u); rotate_left; clear_value u; intro _) | (refine Fw.cut (T := T) (z := z) u.1 ?_ ?_; (subst u); rotate_left; clear_value u; intro _) | ((have _ := fun x => u x); subst u) | clear_value u)
    | dsimp only
    | (with_reducible apply Fw.fst; assumption)
    | split
    | (first | with_reducible exact Nat.le_trans hT (by decide) | (left; (try unfold laneKey); (try split) <;> simp only [regKey] <;> omega) | ((try unfold laneKey); (try split) <;> simp only [regKey] <;> omega) | omega | decide)

theorem State.abortTx_fw {z : State} {T : Nat} (hT : T ≤ 0x300000) (s : State) (c : Copy) (reason : Nat) (stomp : Bool) (hs : Fw T z s) : Fw T z (State.abortTx s c reason stomp) := by
  unfold State.abortTx
  repeat' first
    | with_reducible first | assumption | apply Fw.ite | apply State.when_fw | apply State.copyPostcard_fw | apply State.count_fw | apply State.countCopyDrop_fw | apply State.drop_fw | apply State.dropRef_fw | apply State.emit_fw | apply State.removeCopy_fw | apply State.report_fw | apply State.setTab_fw | apply State.uncovered_fw | apply State.unreport_fw
    | refine fun _ => ?_
    | ((try lift_lets); intro u; first | (refine Fw.cut (T := T) (z := z) u ?_ ?_; (subst u); rotate_left; clear_value u; intro _) | (refine Fw.cut (T := T) (z := z) u.st ?_ ?_; (subst u); rotate_left; clear_value u; intro _) | (refine Fw.cut (T := T) (z := z) u.1 ?_ ?_; (subst u); rotate_left; clear_value u; intro _) | ((have _ := fun x => u x); subst u) | clear_value u)
    | dsimp only
    | (with_reducible apply Fw.fst; assumption)
    | split
    | (first | with_reducible exact Nat.le_trans hT (by decide) | (left; (try unfold laneKey); (try split) <;> simp only [regKey] <;> omega) | ((try unfold laneKey); (try split) <;> simp only [regKey] <;> omega) | omega | decide)

theorem State.endCopy_fw {z : State} {T : Nat} (hT : T ≤ 0x300000) (s : State) (c : Copy) (reason : Nat) (stomp : Bool) (hs : Fw T z s) : Fw T z (State.endCopy s c reason stomp) := by
  unfold State.endCopy
  repeat' first
    | with_reducible first | assumption | apply Fw.ite | apply State.abortTx_fw | apply State.dropCopy_fw
    | refine fun _ => ?_
    | (first | with_reducible exact Nat.le_trans hT (by decide) | (left; (try unfold laneKey); (try split) <;> simp only [regKey] <;> omega) | ((try unfold laneKey); (try split) <;> simp only [regKey] <;> omega) | omega | decide)

theorem State.endCopies_fw {z : State} {T : Nat} (hT : T ≤ 0x300000) (s : State) (p : Copy → Bool) (reason : Nat) (stomp : Bool) (hs : Fw T z s) : Fw T z (State.endCopies s p reason stomp) := by
  unfold State.endCopies
  repeat' first
    | with_reducible first | assumption | apply Fw.ite | apply State.forAll_fw | apply State.endCopy_fw
    | refine fun _ => ?_
    | dsimp only
    | (first | with_reducible exact Nat.le_trans hT (by decide) | (left; (try unfold laneKey); (try split) <;> simp only [regKey] <;> omega) | ((try unfold laneKey); (try split) <;> simp only [regKey] <;> omega) | omega | decide)

theorem State.downCopies_fw {z : State} {T : Nat} (hT : T ≤ 0x300000) (s : State) (p : Nat) (stomp : Bool) (hs : Fw T z s) : Fw T z (State.downCopies s p stomp) := by
  unfold State.downCopies
  repeat' first
    | with_reducible first | assumption | apply Fw.ite | apply State.endCopies_fw
    | refine fun _ => ?_
    | ((try lift_lets); intro u; first | (refine Fw.cut (T := T) (z := z) u ?_ ?_; (subst u); rotate_left; clear_value u; intro _) | (refine Fw.cut (T := T) (z := z) u.st ?_ ?_; (subst u); rotate_left; clear_value u; intro _) | (refine Fw.cut (T := T) (z := z) u.1 ?_ ?_; (subst u); rotate_left; clear_value u; intro _) | ((have _ := fun x => u x); subst u) | clear_value u)
    | dsimp only
    | (first | with_reducible exact Nat.le_trans hT (by decide) | (left; (try unfold laneKey); (try split) <;> simp only [Reg.PORT_BUFFER.DOWN_ACTION, regKey] <;> omega) | ((try unfold laneKey); (try split) <;> simp only [Reg.PORT_BUFFER.DOWN_ACTION, regKey] <;> omega) | omega | decide)

theorem State.setQLevel_fw {z : State} {T : Nat} (hT : T ≤ 0x300000) (s : State) (p q : Nat) (v : Int) (hs : Fw T z s) : Fw T z (State.setQLevel s p q v) := by
  unfold State.setQLevel
  repeat' first
    | with_reducible first | assumption | apply State.setReg_fw
    | (first | with_reducible exact Nat.le_trans hT (by decide) | (left; (try unfold laneKey); (try split) <;> simp only [Reg.PORT_QSTATE.QSHAPE_LEVEL, regKey] <;> omega) | ((try unfold laneKey); (try split) <;> simp only [Reg.PORT_QSTATE.QSHAPE_LEVEL, regKey] <;> omega) | omega | decide)

theorem State.setPLevel_fw {z : State} {T : Nat} (hT : T ≤ 0x300000) (s : State) (p : Nat) (v : Int) (hs : Fw T z s) : Fw T z (State.setPLevel s p v) := by
  unfold State.setPLevel
  repeat' first
    | with_reducible first | assumption | apply State.setReg_fw
    | (first | with_reducible exact Nat.le_trans hT (by decide) | (left; (try unfold laneKey); (try split) <;> simp only [Reg.PORT_QSTATE.PSHAPE_LEVEL, regKey] <;> omega) | ((try unfold laneKey); (try split) <;> simp only [Reg.PORT_QSTATE.PSHAPE_LEVEL, regKey] <;> omega) | omega | decide)

theorem State.repayPolicer_fw {z : State} {T : Nat} (hT : T ≤ 0x300000) (s : State) (i bucket octets : Nat) (hs : Fw T z s) : Fw T z (State.repayPolicer s i bucket octets) := by
  unfold State.repayPolicer
  repeat' first
    | with_reducible first | assumption | apply Fw.ite | apply State.setTab_fw
    | refine fun _ => ?_
    | ((try lift_lets); intro u; first | (refine Fw.cut (T := T) (z := z) u ?_ ?_; (subst u); rotate_left; clear_value u; intro _) | (refine Fw.cut (T := T) (z := z) u.st ?_ ?_; (subst u); rotate_left; clear_value u; intro _) | (refine Fw.cut (T := T) (z := z) u.1 ?_ ?_; (subst u); rotate_left; clear_value u; intro _) | ((have _ := fun x => u x); subst u) | clear_value u)
    | (first | with_reducible exact Nat.le_trans hT (by decide) | (left; (try unfold laneKey); (try split) <;> simp only [regKey] <;> omega) | ((try unfold laneKey); (try split) <;> simp only [regKey] <;> omega) | omega | decide)

theorem State.blockPolicer_fw {z : State} {T : Nat} (hT : T ≤ 0x300000) (s : State) (i : Nat) (hs : Fw T z s) : Fw T z (State.blockPolicer s i) := by
  unfold State.blockPolicer
  repeat' first
    | with_reducible first | assumption | apply State.when_fw | apply State.bump_fw | apply State.setTab_fw
    | refine fun _ => ?_
    | dsimp only
    | (first | with_reducible exact Nat.le_trans hT (by decide) | (left; (try unfold laneKey); (try split) <;> simp only [Reg.POLICER_CONTROL.OVERSIZE_BLOCKS, regKey] <;> omega) | ((try unfold laneKey); (try split) <;> simp only [Reg.POLICER_CONTROL.OVERSIZE_BLOCKS, regKey] <;> omega) | omega | decide)

theorem State.polCount_fw {z : State} {T : Nat} (hT : T ≤ 0x300000) (s : State) (t i : Nat) (hs : Fw T z s) : Fw T z (State.polCount s t i) := by
  unfold State.polCount
  repeat' first
    | with_reducible first | assumption | apply State.setTab_fw
    | (first | with_reducible exact Nat.le_trans hT (by decide) | (left; (try unfold laneKey); (try split) <;> simp only [regKey] <;> omega) | ((try unfold laneKey); (try split) <;> simp only [regKey] <;> omega) | omega | decide)

theorem State.meter_fw {z : State} {T : Nat} (hT : T ≤ 0x300000) (s : State) (i octets : Nat) (hs : Fw T z s) : Fw T z (State.meter s i octets).1 := by
  unfold State.meter
  repeat' first
    | with_reducible first | assumption | apply Fw.ite | apply Fw.ite_fst | apply State.polCount_fw | apply State.setTab_fw
    | refine fun _ => ?_
    | ((try lift_lets); intro u; first | (refine Fw.cut (T := T) (z := z) u ?_ ?_; (subst u); rotate_left; clear_value u; intro _) | (refine Fw.cut (T := T) (z := z) u.st ?_ ?_; (subst u); rotate_left; clear_value u; intro _) | (refine Fw.cut (T := T) (z := z) u.1 ?_ ?_; (subst u); rotate_left; clear_value u; intro _) | ((have _ := fun x => u x); subst u) | clear_value u)
    | dsimp only
    | (first | with_reducible exact Nat.le_trans hT (by decide) | (left; (try unfold laneKey); (try split) <;> simp only [regKey] <;> omega) | ((try unfold laneKey); (try split) <;> simp only [regKey] <;> omega) | omega | decide)

theorem State.police_fw {z : State} {T : Nat} (hT : T ≤ 0x300000) (s : State) (i : Nat) (lenKnown : Bool) (len maxFrame : Nat) (gateOpen : Nat → Bool) (hs : Fw T z s) : Fw T z (State.police s i lenKnown len maxFrame gateOpen).1 := by
  unfold State.police
  repeat' first
    | with_reducible first | assumption | apply Fw.ite | apply Fw.ite_fst | apply State.when_fw | apply State.blockPolicer_fw | apply State.bump_fw | apply State.meter_fw | apply State.polCount_fw
    | refine fun _ => ?_
    | ((try lift_lets); intro u; first | (refine Fw.cut (T := T) (z := z) u ?_ ?_; (subst u); rotate_left; clear_value u; intro _) | (refine Fw.cut (T := T) (z := z) u.st ?_ ?_; (subst u); rotate_left; clear_value u; intro _) | (refine Fw.cut (T := T) (z := z) u.1 ?_ ?_; (subst u); rotate_left; clear_value u; intro _) | ((have _ := fun x => u x); subst u) | clear_value u)
    | dsimp only
    | (first | with_reducible exact Nat.le_trans hT (by decide) | (left; (try unfold laneKey); (try split) <;> simp only [Reg.POLICER_CONTROL.INVALID_HITS, regKey] <;> omega) | ((try unfold laneKey); (try split) <;> simp only [Reg.POLICER_CONTROL.INVALID_HITS, regKey] <;> omega) | omega | decide)

theorem State.occupyWire_fw {z : State} {T : Nat} (hT : T ≤ 0x300000) (s : State) (h n : Nat) (hs : Fw T z s) : Fw T z (State.occupyWire s h n) := by
  unfold State.occupyWire
  repeat' first
    | with_reducible first | assumption | apply State.setTab_fw
    | (first | with_reducible exact Nat.le_trans hT (by decide) | (left; (try unfold laneKey); (try split) <;> simp only [regKey] <;> omega) | ((try unfold laneKey); (try split) <;> simp only [regKey] <;> omega) | omega | decide)

theorem State.drrPass_fw {z : State} {T : Nat} (hT : T ≤ 0x300000) (s : State) (p : Nat) (l : List Nat) (hs : Fw T z s) : Fw T z (State.drrPass s p l).1 := by
  induction l generalizing s with
  | nil => exact hs
  | cons q t ih =>
    unfold State.drrPass
    repeat' first
      | with_reducible first | assumption | apply Fw.ite | apply Fw.ite_fst | apply ih | apply State.setTab_fw | apply State.setDeficit_fw
      | refine fun _ => ?_
      | ((try lift_lets); intro u; first | (refine Fw.cut (T := T) (z := z) u ?_ ?_; (subst u); rotate_left; clear_value u; intro _) | (refine Fw.cut (T := T) (z := z) u.st ?_ ?_; (subst u); rotate_left; clear_value u; intro _) | (refine Fw.cut (T := T) (z := z) u.1 ?_ ?_; (subst u); rotate_left; clear_value u; intro _) | ((have _ := fun x => u x); subst u) | clear_value u)
      | dsimp only
      | (with_reducible apply Fw.fst; assumption)
      | split

theorem State.drrSelect_fw {z : State} {T : Nat} (hT : T ≤ 0x300000) (s : State) (p n : Nat) (hs : Fw T z s) : Fw T z (State.drrSelect s p n).1 := by
  induction n generalizing s with
  | zero => exact hs
  | succ n ih =>
    unfold State.drrSelect
    have h := State.drrPass_fw (Nat.le_trans hT (by decide)) s p (s.drrOrder p) hs
    split
    · next e => rw [e] at h; exact h
    · next e => rw [e] at h; exact ih _ h

theorem State.select_fw {z : State} {T : Nat} (hT : T ≤ 0x300000) (s : State) (c : Copy) (drrCharge : Nat) (hs : Fw T z s) : Fw T z (State.select s c drrCharge) := by
  unfold State.select
  repeat' first
    | with_reducible first | assumption | apply Fw.ite | apply Fw.id | apply State.when_fw | apply State.putCopy_fw | apply State.setPLevel_fw | apply State.setQLevel_fw | apply State.settleQueue_fw
    | refine fun _ => ?_
    | ((try lift_lets); intro u; first | (refine Fw.cut (T := T) (z := z) u ?_ ?_; (subst u); rotate_left; clear_value u; intro _) | (refine Fw.cut (T := T) (z := z) u.st ?_ ?_; (subst u); rotate_left; clear_value u; intro _) | (refine Fw.cut (T := T) (z := z) u.1 ?_ ?_; (subst u); rotate_left; clear_value u; intro _) | ((have _ := fun x => u x); subst u) | clear_value u)
    | dsimp only
    | (with_reducible apply Fw.fst; assumption)
    | split
    | with_reducible apply Fw.upd
    | (first | with_reducible exact Nat.le_trans hT (by decide) | (left; (try unfold laneKey); (try split) <;> simp only [Reg.PORT_SCHED.OVERHEAD, regKey] <;> omega) | ((try unfold laneKey); (try split) <;> simp only [Reg.PORT_SCHED.OVERHEAD, regKey] <;> omega) | omega | decide)

theorem State.selection_fw {z : State} {T : Nat} (hT : T ≤ 0x300000) (s : State) (p : Nat) (hs : Fw T z s) : Fw T z (State.selection s p) := by
  unfold State.selection
  repeat' first
    | with_reducible first | assumption | apply Fw.ite | apply State.drrSelect_fw | apply State.select_fw
    | refine fun _ => ?_
    | dsimp only
    | (with_reducible apply Fw.fst; assumption)
    | split
    | (first | with_reducible exact Nat.le_trans hT (by decide) | (left; (try unfold laneKey); (try split) <;> simp only [regKey] <;> omega) | ((try unfold laneKey); (try split) <;> simp only [regKey] <;> omega) | omega | decide)

theorem State.recall_fw {z : State} {T : Nat} (hT : T ≤ 0x300000) (s : State) (c : Copy) (hs : Fw T z s) : Fw T z (State.recall s c) := by
  unfold State.recall
  repeat' first
    | with_reducible first | assumption | apply Fw.id | apply State.when_fw | apply State.enterDrr_fw | apply State.setDeficit_fw | apply State.setPLevel_fw | apply State.setQLevel_fw
    | refine fun _ => ?_
    | ((try lift_lets); intro u; first | (refine Fw.cut (T := T) (z := z) u ?_ ?_; (subst u); rotate_left; clear_value u; intro _) | (refine Fw.cut (T := T) (z := z) u.st ?_ ?_; (subst u); rotate_left; clear_value u; intro _) | (refine Fw.cut (T := T) (z := z) u.1 ?_ ?_; (subst u); rotate_left; clear_value u; intro _) | ((have _ := fun x => u x); subst u) | clear_value u)
    | dsimp only
    | with_reducible apply Fw.upd
    | (first | with_reducible exact Nat.le_trans hT (by decide) | (left; (try unfold laneKey); (try split) <;> simp only [regKey] <;> omega) | ((try unfold laneKey); (try split) <;> simp only [regKey] <;> omega) | omega | decide)

theorem State.refund_fw {z : State} {T : Nat} (hT : T ≤ 0x300000) (s : State) (c : Copy) (len : Nat) (hs : Fw T z s) : Fw T z (State.refund s c len) := by
  unfold State.refund
  repeat' first
    | with_reducible first | assumption | apply State.when_fw | apply State.putCopy_fw | apply State.setDeficit_fw | apply State.setPLevel_fw | apply State.setQLevel_fw
    | refine fun _ => ?_
    | ((try lift_lets); intro u; first | (refine Fw.cut (T := T) (z := z) u ?_ ?_; (subst u); rotate_left; clear_value u; intro _) | (refine Fw.cut (T := T) (z := z) u.st ?_ ?_; (subst u); rotate_left; clear_value u; intro _) | (refine Fw.cut (T := T) (z := z) u.1 ?_ ?_; (subst u); rotate_left; clear_value u; intro _) | ((have _ := fun x => u x); subst u) | clear_value u)
    | dsimp only
    | (first | with_reducible exact Nat.le_trans hT (by decide) | (left; (try unfold laneKey); (try split) <;> simp only [Reg.PORT_SCHED.PSHAPE_BURST, regKey] <;> omega) | ((try unfold laneKey); (try split) <;> simp only [Reg.PORT_SCHED.PSHAPE_BURST, regKey] <;> omega) | omega | decide)

theorem State.portLeavesUp_fw {z : State} {T : Nat} (hT : T ≤ 0x300000) (s : State) (p : Nat) (stomp : Bool) (hs : Fw T z s) : Fw T z (State.portLeavesUp s p stomp) := by
  unfold State.portLeavesUp
  repeat' first
    | with_reducible first | assumption | apply State.when_fw | apply State.forAll_fw | apply State.downCopies_fw | apply State.recall_fw
    | refine fun _ => ?_
    | ((try lift_lets); intro u; first | (refine Fw.cut (T := T) (z := z) u ?_ ?_; (subst u); rotate_left; clear_value u; intro _) | (refine Fw.cut (T := T) (z := z) u.st ?_ ?_; (subst u); rotate_left; clear_value u; intro _) | (refine Fw.cut (T := T) (z := z) u.1 ?_ ?_; (subst u); rotate_left; clear_value u; intro _) | ((have _ := fun x => u x); subst u) | clear_value u)
    | dsimp only
    | (first | with_reducible exact Nat.le_trans hT (by decide) | (left; (try unfold laneKey); (try split) <;> simp only [Reg.PORT_BUFFER.DOWN_ACTION, regKey] <;> omega) | ((try unfold laneKey); (try split) <;> simp only [Reg.PORT_BUFFER.DOWN_ACTION, regKey] <;> omega) | omega | decide)

theorem State.postCount_fw {z : State} {T : Nat} (hT : T ≤ 0x300000) (s : State) (n : Nat) (hs : Fw T z s) : Fw T z (State.postCount s n) := by
  unfold State.postCount
  repeat' first
    | with_reducible first | assumption | apply State.when_fw | apply State.count_fw
    | refine fun _ => ?_
    | dsimp only
    | (first | with_reducible exact Nat.le_trans hT (by decide) | (left; (try unfold laneKey); (try split) <;> simp only [regKey] <;> omega) | ((try unfold laneKey); (try split) <;> simp only [regKey] <;> omega) | omega | decide)

theorem State.runMicro_fw {z : State} {T : Nat} (hT : T ≤ 0x300000) (s : State) (pipe st : Nat) (entry hv : SMap Nat) (hs : Fw T z s) : Fw T z (State.runMicro s pipe st entry hv).1 := by
  unfold State.runMicro
  repeat' first
    | with_reducible first | assumption | apply Fw.ite | apply Fw.ite_fst | apply State.when_fw | apply State.forAll_fw | apply State.count_fw | apply State.postCount_fw
    | refine fun _ => ?_
    | ((try lift_lets); intro u; first | (refine Fw.cut (T := T) (z := z) u ?_ ?_; (subst u); rotate_left; clear_value u; intro _) | (refine Fw.cut (T := T) (z := z) u.st ?_ ?_; (subst u); rotate_left; clear_value u; intro _) | (refine Fw.cut (T := T) (z := z) u.1 ?_ ?_; (subst u); rotate_left; clear_value u; intro _) | ((have _ := fun x => u x); subst u) | clear_value u)
    | dsimp only
    | (with_reducible apply Fw.fst; assumption)
    | split
    | (first | with_reducible exact Nat.le_trans hT (by decide) | (left; (try unfold laneKey); (try split) <;> simp only [regKey] <;> omega) | ((try unfold laneKey); (try split) <;> simp only [regKey] <;> omega) | omega | decide)

theorem State.classify_fw {z : State} {T : Nat} (hT : T ≤ 0x300000) (s : State) (t : Nat) (hv : SMap Nat) (hs : Fw T z s) : Fw T z (State.classify s t hv).1 := by
  unfold State.classify
  repeat' first
    | with_reducible first | assumption | apply Fw.ite | apply Fw.ite_fst | apply State.when_fw | apply State.bump_fw
    | refine fun _ => ?_
    | ((try lift_lets); intro u; first | (refine Fw.cut (T := T) (z := z) u ?_ ?_; (subst u); rotate_left; clear_value u; intro _) | (refine Fw.cut (T := T) (z := z) u.st ?_ ?_; (subst u); rotate_left; clear_value u; intro _) | (refine Fw.cut (T := T) (z := z) u.1 ?_ ?_; (subst u); rotate_left; clear_value u; intro _) | ((have _ := fun x => u x); subst u) | clear_value u)
    | dsimp only
    | (with_reducible apply Fw.fst; assumption)
    | split
    | (first | with_reducible exact Nat.le_trans hT (by decide) | (left; (try unfold laneKey); (try split) <;> simp only [Reg.CLS_TREE.FIELD_MODES, Reg.CLS_TREE.ROOT, Reg.CLS_TREE.SELECTORS, Reg.LOOKUP_CONTROL.CLS_BAD_NODES, Reg.LOOKUP_CONTROL.CLS_DEPTH_ERRORS, Reg.LOOKUP_CONTROL.LOOKUP_EPOCH, regKey] <;> omega) | ((try unfold laneKey); (try split) <;> simp only [Reg.CLS_TREE.FIELD_MODES, Reg.CLS_TREE.ROOT, Reg.CLS_TREE.SELECTORS, Reg.LOOKUP_CONTROL.CLS_BAD_NODES, Reg.LOOKUP_CONTROL.CLS_DEPTH_ERRORS, Reg.LOOKUP_CONTROL.LOOKUP_EPOCH, regKey] <;> omega) | omega | decide)

theorem Pass.put_fw {z : State} {T : Nat} (hT : T ≤ 0x300000) (p : Pass) (w msb lsb v : Nat)  (hp : Fw T z p.st) : Fw T z (Pass.put p w msb lsb v).st := by
  unfold Pass.put
  repeat' first
    | with_reducible first | assumption
    | dsimp only
    | (first | with_reducible exact Nat.le_trans hT (by decide) | (left; (try unfold laneKey); (try split) <;> simp only [regKey] <;> omega) | ((try unfold laneKey); (try split) <;> simp only [regKey] <;> omega) | omega | decide)

theorem Pass.drop_fw {z : State} {T : Nat} (hT : T ≤ 0x300000) (p : Pass) (reason : Nat)  (hp : Fw T z p.st) : Fw T z (Pass.drop p reason).st := by
  unfold Pass.drop
  repeat' first
    | with_reducible first | assumption
    | dsimp only
    | (first | with_reducible exact Nat.le_trans hT (by decide) | (left; (try unfold laneKey); (try split) <;> simp only [regKey] <;> omega) | ((try unfold laneKey); (try split) <;> simp only [regKey] <;> omega) | omega | decide)

theorem Pass.stage_fw {z : State} {T : Nat} (hT : T ≤ 0x300000) (p : Pass) (st : Nat) (fixed : Pass → Pass)  (hp : Fw T z p.st) (hfixed : ∀ u, Fw T z u.st → Fw T z (fixed u).st) : Fw T z (Pass.stage p st fixed).st := by
  unfold Pass.stage
  repeat' first
    | with_reducible first | assumption | apply State.runMicro_fw | apply hfixed
    | refine fun _ => ?_
    | ((try lift_lets); intro u; first | (refine Fw.cut (T := T) (z := z) u ?_ ?_; (subst u); rotate_left; clear_value u; intro _) | (refine Fw.cut (T := T) (z := z) u.st ?_ ?_; (subst u); rotate_left; clear_value u; intro _) | (refine Fw.cut (T := T) (z := z) u.1 ?_ ?_; (subst u); rotate_left; clear_value u; intro _) | ((have _ := fun x => u x); subst u) | clear_value u)
    | dsimp only
    | (with_reducible apply Fw.fst; assumption)
    | split
    | (first | with_reducible exact Nat.le_trans hT (by decide) | (left; (try unfold laneKey); (try split) <;> simp only [regKey] <;> omega) | ((try unfold laneKey); (try split) <;> simp only [regKey] <;> omega) | omega | decide)

theorem Pass.stage0_fw {z : State} {T : Nat} (hT : T ≤ 0x300000) (p : Pass) (hp : Fw T z p.st) : Fw T z (Pass.stage0 p).st := by
  unfold Pass.stage0
  extract_lets f sec ns known p1 p2 p3 p4 p5 p6
  have h1 : Fw T z p1.st := Pass.put_fw (Nat.le_trans hT (by decide)) _ _ _ _ _ hp
  clear_value p1
  have h2 : Fw T z p2.st := Pass.put_fw (Nat.le_trans hT (by decide)) _ _ _ _ _ (Pass.put_fw (Nat.le_trans hT (by decide)) _ _ _ _ _ h1)
  clear_value p2
  have h3 : Fw T z p3.st := Pass.put_fw (Nat.le_trans hT (by decide)) _ _ _ _ _ (Pass.put_fw (Nat.le_trans hT (by decide)) _ _ _ _ _ h2)
  clear_value p3
  have h4 : Fw T z p4.st := Pass.put_fw (Nat.le_trans hT (by decide)) _ _ _ _ _ (Pass.put_fw (Nat.le_trans hT (by decide)) _ _ _ _ _ (Pass.put_fw (Nat.le_trans hT (by decide)) _ _ _ _ _ h3))
  clear_value p4
  have h5 : Fw T z p5.st := Pass.put_fw (Nat.le_trans hT (by decide)) _ _ _ _ _ (Pass.put_fw (Nat.le_trans hT (by decide)) _ _ _ _ _ h4)
  clear_value p5
  have h6 : Fw T z p6.st := by
    unfold p6; split
    · exact h5
    · exact Pass.put_fw (Nat.le_trans hT (by decide)) _ _ _ _ _ (Pass.put_fw (Nat.le_trans hT (by decide)) _ _ _ _ _ h5)
  clear_value p6
  split
  · exact Pass.drop_fw (Nat.le_trans hT (by decide)) _ _ h6
  · exact h6

theorem Pass.stage1_fw {z : State} {T : Nat} (hT : T ≤ 0x300000) (p : Pass)  (hp : Fw T z p.st) : Fw T z (Pass.stage1 p).st := by
  unfold Pass.stage1
  repeat' first
    | with_reducible first | assumption | apply Pass.put_fw
    | (first | with_reducible exact Nat.le_trans hT (by decide) | (left; (try unfold laneKey); (try split) <;> simp only [Reg.PORT_LOOKUP.HASH_PROFILE, regKey] <;> omega) | ((try unfold laneKey); (try split) <;> simp only [Reg.PORT_LOOKUP.HASH_PROFILE, regKey] <;> omega) | omega | decide)

theorem Pass.lookups_fw {z : State} {T : Nat} (hT : T ≤ 0x300000) (p : Pass) (entry : SMap Nat)  (hp : Fw T z p.st) : Fw T z (Pass.lookups p entry).st := by
  unfold Pass.lookups
  repeat' first
    | with_reducible first | assumption | apply Fw.ite | apply Fw.ite_fst | apply State.classify_fw
    | refine fun _ => ?_
    | ((try lift_lets); intro u; first | (refine Fw.cut (T := T) (z := z) u ?_ ?_; (subst u); rotate_left; clear_value u; intro _) | (refine Fw.cut (T := T) (z := z) u.st ?_ ?_; (subst u); rotate_left; clear_value u; intro _) | (refine Fw.cut (T := T) (z := z) u.1 ?_ ?_; (subst u); rotate_left; clear_value u; intro _) | ((have _ := fun x => u x); subst u) | clear_value u)
    | dsimp only
    | split
    | (with_reducible apply Fw.fst; assumption)
    | split
    | (first | with_reducible exact Nat.le_trans hT (by decide) | (left; (try unfold laneKey); (try split) <;> simp only [Reg.LOOKUP_CONTROL.LOOKUP_EPOCH, Reg.PORT_LOOKUP.CLS_TREE, Reg.PORT_LOOKUP.EM_ENABLE, Reg.PORT_LOOKUP.EM_PROFILE, regKey] <;> omega) | ((try unfold laneKey); (try split) <;> simp only [Reg.LOOKUP_CONTROL.LOOKUP_EPOCH, Reg.PORT_LOOKUP.CLS_TREE, Reg.PORT_LOOKUP.EM_ENABLE, Reg.PORT_LOOKUP.EM_PROFILE, regKey] <;> omega) | omega | decide)

theorem Pass.action_fw {z : State} {T : Nat} (hT : T ≤ 0x300000) (p : Pass) (a : Nat)  (hp : Fw T z p.st) : Fw T z (Pass.action p a).st := by
  unfold Pass.action
  repeat' first
    | with_reducible first | assumption | apply State.postCount_fw
    | ((try lift_lets); intro u; first | (refine Fw.cut (T := T) (z := z) u ?_ ?_; (subst u); rotate_left; clear_value u; intro _) | (refine Fw.cut (T := T) (z := z) u.st ?_ ?_; (subst u); rotate_left; clear_value u; intro _) | (refine Fw.cut (T := T) (z := z) u.1 ?_ ?_; (subst u); rotate_left; clear_value u; intro _) | ((have _ := fun x => u x); subst u) | clear_value u)
    | dsimp only
    | (with_reducible apply Fw.fst; assumption)
    | split
    | (first | with_reducible exact Nat.le_trans hT (by decide) | (left; (try unfold laneKey); (try split) <;> simp only [regKey] <;> omega) | ((try unfold laneKey); (try split) <;> simp only [regKey] <;> omega) | omega | decide)

theorem Pass.mirrorAction_fw {z : State} {T : Nat} (hT : T ≤ 0x300000) (p : Pass) (m : Mirror)  (hp : Fw T z p.st) : Fw T z (Pass.mirrorAction p m).st := by
  unfold Pass.mirrorAction
  repeat' first
    | with_reducible first | assumption | apply Pass.put_fw
    | ((try lift_lets); intro u; first | (refine Fw.cut (T := T) (z := z) u ?_ ?_; (subst u); rotate_left; clear_value u; intro _) | (refine Fw.cut (T := T) (z := z) u.st ?_ ?_; (subst u); rotate_left; clear_value u; intro _) | (refine Fw.cut (T := T) (z := z) u.1 ?_ ?_; (subst u); rotate_left; clear_value u; intro _) | ((have _ := fun x => u x); subst u) | clear_value u)
    | (first | with_reducible exact Nat.le_trans hT (by decide) | (left; (try unfold laneKey); (try split) <;> simp only [regKey] <;> omega) | ((try unfold laneKey); (try split) <;> simp only [regKey] <;> omega) | omega | decide)

theorem Pass.resvRule_fw {z : State} {T : Nat} (hT : T ≤ 0x300000) (p : Pass)  (hp : Fw T z p.st) : Fw T z (Pass.resvRule p).st := by
  unfold Pass.resvRule
  repeat' first
    | with_reducible first | assumption | apply Fw.ite | apply Fw.ite_fst | apply Pass.put_fw | apply State.bump_fw
    | refine fun _ => ?_
    | ((try lift_lets); intro u; first | (refine Fw.cut (T := T) (z := z) u ?_ ?_; (subst u); rotate_left; clear_value u; intro _) | (refine Fw.cut (T := T) (z := z) u.st ?_ ?_; (subst u); rotate_left; clear_value u; intro _) | (refine Fw.cut (T := T) (z := z) u.1 ?_ ?_; (subst u); rotate_left; clear_value u; intro _) | ((have _ := fun x => u x); subst u) | clear_value u)
    | dsimp only
    | split
    | (first | with_reducible exact Nat.le_trans hT (by decide) | (left; (try unfold laneKey); (try split) <;> simp only [Reg.ADMISSION_CONTROL.INACTIVE_HITS, regKey] <;> omega) | ((try unfold laneKey); (try split) <;> simp only [Reg.ADMISSION_CONTROL.INACTIVE_HITS, regKey] <;> omega) | omega | decide)

theorem Pass.stage6_fw {z : State} {T : Nat} (hT : T ≤ 0x300000) (p : Pass)  (hp : Fw T z p.st) : Fw T z (Pass.stage6 p).st := by
  unfold Pass.stage6
  repeat' first
    | with_reducible first | assumption | apply Pass.action_fw | apply Pass.mirrorAction_fw | apply Pass.put_fw | apply Pass.resvRule_fw
    | ((try lift_lets); intro u; first | (refine Fw.cut (T := T) (z := z) u ?_ ?_; (subst u); rotate_left; clear_value u; intro _) | (refine Fw.cut (T := T) (z := z) u.st ?_ ?_; (subst u); rotate_left; clear_value u; intro _) | (refine Fw.cut (T := T) (z := z) u.1 ?_ ?_; (subst u); rotate_left; clear_value u; intro _) | ((have _ := fun x => u x); subst u) | clear_value u)
    | dsimp only
    | (with_reducible apply Fw.fst; assumption)
    | split
    | (first | with_reducible exact Nat.le_trans hT (by decide) | (left; (try unfold laneKey); (try split) <;> simp only [regKey] <;> omega) | ((try unfold laneKey); (try split) <;> simp only [regKey] <;> omega) | omega | decide)

theorem Pass.stage7_fw {z : State} {T : Nat} (hT : T ≤ 0x300000) (p : Pass)  (hp : Fw T z p.st) : Fw T z (Pass.stage7 p).st := by
  unfold Pass.stage7
  repeat' first
    | with_reducible first | assumption | apply Fw.ite | apply Fw.ite_fst | apply Pass.drop_fw | apply State.drop_fw | apply State.police_fw
    | refine fun _ => ?_
    | ((try lift_lets); intro u; first | (refine Fw.cut (T := T) (z := z) u ?_ ?_; (subst u); rotate_left; clear_value u; intro _) | (refine Fw.cut (T := T) (z := z) u.st ?_ ?_; (subst u); rotate_left; clear_value u; intro _) | (refine Fw.cut (T := T) (z := z) u.1 ?_ ?_; (subst u); rotate_left; clear_value u; intro _) | ((have _ := fun x => u x); subst u) | clear_value u)
    | dsimp only
    | split
    | (with_reducible apply Fw.fst; assumption)
    | split
    | (first | with_reducible exact Nat.le_trans hT (by decide) | (left; (try unfold laneKey); (try split) <;> simp only [regKey] <;> omega) | ((try unfold laneKey); (try split) <;> simp only [regKey] <;> omega) | omega | decide)

theorem Pass.stage8_fw {z : State} {T : Nat} (hT : T ≤ 0x300000) (p : Pass)  (hp : Fw T z p.st) : Fw T z (Pass.stage8 p).st := by
  unfold Pass.stage8
  repeat' first
    | with_reducible first | assumption | apply Fw.ite | apply Fw.ite_fst | apply State.count_fw
    | refine fun _ => ?_
    | dsimp only
    | split
    | (first | with_reducible exact Nat.le_trans hT (by decide) | (left; (try unfold laneKey); (try split) <;> simp only [regKey] <;> omega) | ((try unfold laneKey); (try split) <;> simp only [regKey] <;> omega) | omega | decide)

theorem State.cbAdd_fw {z : State} {T : Nat} (hT : T ≤ 0x300000) (s : State) (i msb lsb : Nat) (hs : Fw T z s) : Fw T z (State.cbAdd s i msb lsb) := by
  unfold State.cbAdd
  repeat' first
    | with_reducible first | assumption | apply State.setTab_fw
    | ((try lift_lets); intro u; first | (refine Fw.cut (T := T) (z := z) u ?_ ?_; (subst u); rotate_left; clear_value u; intro _) | (refine Fw.cut (T := T) (z := z) u.st ?_ ?_; (subst u); rotate_left; clear_value u; intro _) | (refine Fw.cut (T := T) (z := z) u.1 ?_ ?_; (subst u); rotate_left; clear_value u; intro _) | ((have _ := fun x => u x); subst u) | clear_value u)
    | (first | with_reducible exact Nat.le_trans hT (by decide) | (left; (try unfold laneKey); (try split) <;> simp only [regKey] <;> omega) | ((try unfold laneKey); (try split) <;> simp only [regKey] <;> omega) | omega | decide)

theorem Pass.replicate_fw {z : State} {T : Nat} (hT : T ≤ 0x300000) (p : Pass) (i : Nat)  (hp : Fw T z p.st) : Fw T z (Pass.replicate p i).st := by
  unfold Pass.replicate
  repeat' first
    | with_reducible first | assumption | apply Fw.ite | apply Fw.ite_fst | apply Pass.put_fw | apply State.cbAdd_fw
    | refine fun _ => ?_
    | ((try lift_lets); intro u; first | (refine Fw.cut (T := T) (z := z) u ?_ ?_; (subst u); rotate_left; clear_value u; intro _) | (refine Fw.cut (T := T) (z := z) u.st ?_ ?_; (subst u); rotate_left; clear_value u; intro _) | (refine Fw.cut (T := T) (z := z) u.1 ?_ ?_; (subst u); rotate_left; clear_value u; intro _) | ((have _ := fun x => u x); subst u) | clear_value u)
    | dsimp only
    | split
    | (first | with_reducible exact Nat.le_trans hT (by decide) | (left; (try unfold laneKey); (try split) <;> simp only [regKey] <;> omega) | ((try unfold laneKey); (try split) <;> simp only [regKey] <;> omega) | omega | decide)

theorem Pass.eliminate_fw {z : State} {T : Nat} (hT : T ≤ 0x300000) (p : Pass) (i : Nat) (tagged : Bool)  (hp : Fw T z p.st) : Fw T z (Pass.eliminate p i tagged).st := by
  unfold Pass.eliminate
  repeat' first
    | with_reducible first | assumption | apply Fw.ite | apply Fw.ite_fst | apply Pass.drop_fw | apply State.cbAdd_fw | apply State.drop_fw | apply State.setTab_fw
    | refine fun _ => ?_
    | ((try lift_lets); intro u; first | (refine Fw.cut (T := T) (z := z) u ?_ ?_; (subst u); rotate_left; clear_value u; intro _) | (refine Fw.cut (T := T) (z := z) u.st ?_ ?_; (subst u); rotate_left; clear_value u; intro _) | (refine Fw.cut (T := T) (z := z) u.1 ?_ ?_; (subst u); rotate_left; clear_value u; intro _) | ((have _ := fun x => u x); subst u) | clear_value u)
    | dsimp only
    | split
    | (first | with_reducible exact Nat.le_trans hT (by decide) | (left; (try unfold laneKey); (try split) <;> simp only [regKey] <;> omega) | ((try unfold laneKey); (try split) <;> simp only [regKey] <;> omega) | omega | decide)

theorem Pass.stage9_fw {z : State} {T : Nat} (hT : T ≤ 0x300000) (p : Pass)  (hp : Fw T z p.st) : Fw T z (Pass.stage9 p).st := by
  unfold Pass.stage9
  repeat' first
    | with_reducible first | assumption | apply Fw.ite | apply Fw.ite_fst | apply Pass.eliminate_fw | apply Pass.replicate_fw | apply State.bump_fw
    | refine fun _ => ?_
    | ((try lift_lets); intro u; first | (refine Fw.cut (T := T) (z := z) u ?_ ?_; (subst u); rotate_left; clear_value u; intro _) | (refine Fw.cut (T := T) (z := z) u.st ?_ ?_; (subst u); rotate_left; clear_value u; intro _) | (refine Fw.cut (T := T) (z := z) u.1 ?_ ?_; (subst u); rotate_left; clear_value u; intro _) | ((have _ := fun x => u x); subst u) | clear_value u)
    | dsimp only
    | split
    | (with_reducible apply Fw.fst; assumption)
    | split
    | (first | with_reducible exact Nat.le_trans hT (by decide) | (left; (try unfold laneKey); (try split) <;> simp only [Reg.ADMISSION_CONTROL.CB_IGNORED, regKey] <;> omega) | ((try unfold laneKey); (try split) <;> simp only [Reg.ADMISSION_CONTROL.CB_IGNORED, regKey] <;> omega) | omega | decide)

theorem Pass.stage10_fw {z : State} {T : Nat} (hT : T ≤ 0x300000) (p : Pass) (hp : Fw T z p.st) : Fw T z (Pass.stage10 p).st := by
  unfold Pass.stage10
  dsimp only
  split
  · exact hp
  · exact hp
  · exact hp
  · split
    · apply Pass.drop_fw (Nat.le_trans hT (by decide)); exact hp
    · exact hp

theorem Pass.stage11_fw {z : State} {T : Nat} (hT : T ≤ 0x300000) (p : Pass)  (hp : Fw T z p.st) : Fw T z (Pass.stage11 p).st := by
  unfold Pass.stage11
  repeat' first
    | with_reducible first | assumption | apply State.when_fw | apply State.count_fw
    | refine fun _ => ?_
    | ((try lift_lets); intro u; first | (refine Fw.cut (T := T) (z := z) u ?_ ?_; (subst u); rotate_left; clear_value u; intro _) | (refine Fw.cut (T := T) (z := z) u.st ?_ ?_; (subst u); rotate_left; clear_value u; intro _) | (refine Fw.cut (T := T) (z := z) u.1 ?_ ?_; (subst u); rotate_left; clear_value u; intro _) | ((have _ := fun x => u x); subst u) | clear_value u)
    | dsimp only
    | (first | with_reducible exact Nat.le_trans hT (by decide) | (left; (try unfold laneKey); (try split) <;> simp only [regKey] <;> omega) | ((try unfold laneKey); (try split) <;> simp only [regKey] <;> omega) | omega | decide)

theorem State.ingress_fw {z : State} {T : Nat} (hT : T ≤ 0x300000) (s : State) (f : Frame) (hs : Fw T z s) : Fw T z (State.ingress s f).1 := by
  unfold State.ingress
  extract_lets f w s2 p p1 keys p2 p3 p4 p5 p6 p7
  have h2 : Fw T z s2 := State.when_fw hs fun u hu => State.count_fw _ _ _ hu
  clear_value s2
  have hp : Fw T z p.st := h2
  clear_value p
  have h1 : Fw T z p1.st := Pass.stage_fw (Nat.le_trans hT (by decide)) _ _ _ hp (fun u hu => Pass.stage0_fw (Nat.le_trans hT (by decide)) u hu)
  clear_value p1
  have h2 : Fw T z p2.st := Pass.stage_fw (Nat.le_trans hT (by decide)) _ _ _ h1 (fun u hu => Pass.stage1_fw (Nat.le_trans hT (by decide)) u hu)
  clear_value p2
  have h3 : Fw T z p3.st := Pass.stage_fw (Nat.le_trans hT (by decide)) _ _ _ h2 (fun u hu => Pass.lookups_fw (Nat.le_trans hT (by decide)) u _ hu)
  clear_value p3
  have h4 : Fw T z p4.st :=
    Pass.stage_fw (Nat.le_trans hT (by decide)) _ _ _ (Pass.stage_fw (Nat.le_trans hT (by decide)) _ _ _ (Pass.stage_fw (Nat.le_trans hT (by decide)) _ _ _ h3 fun _ hu => hu) fun _ hu => hu) fun _ hu => hu
  clear_value p4
  have h5 : Fw T z p5.st :=
    Pass.stage_fw (Nat.le_trans hT (by decide)) _ _ _ (Pass.stage_fw (Nat.le_trans hT (by decide)) _ _ _ h4 fun u hu => Pass.stage6_fw (Nat.le_trans hT (by decide)) u hu) fun u hu => Pass.stage7_fw (Nat.le_trans hT (by decide)) u hu
  clear_value p5
  have h6 : Fw T z p6.st :=
    Pass.stage_fw (Nat.le_trans hT (by decide)) _ _ _ (Pass.stage_fw (Nat.le_trans hT (by decide)) _ _ _ h5 fun u hu => Pass.stage8_fw (Nat.le_trans hT (by decide)) u hu) fun u hu => Pass.stage9_fw (Nat.le_trans hT (by decide)) u hu
  clear_value p6
  have h7 : Fw T z p7.st :=
    Pass.stage_fw (Nat.le_trans hT (by decide)) _ _ _ (Pass.stage_fw (Nat.le_trans hT (by decide)) _ _ _ h6 fun u hu => Pass.stage10_fw (Nat.le_trans hT (by decide)) u hu) fun u hu => Pass.stage11_fw (Nat.le_trans hT (by decide)) u hu
  clear_value p7
  exact h7

theorem State.logTxTs_fw {z : State} {T : Nat} (hT : T ≤ 0x300000) (s : State) (f : Frame) (e ts : Nat) (hs : Fw T z s) : Fw T z (State.logTxTs s f e ts) := by
  unfold State.logTxTs
  repeat' first
    | with_reducible first | assumption | apply Fw.ite | apply State.setReg_fw
    | refine fun _ => ?_
    | ((try lift_lets); intro u; first | (refine Fw.cut (T := T) (z := z) u ?_ ?_; (subst u); rotate_left; clear_value u; intro _) | (refine Fw.cut (T := T) (z := z) u.st ?_ ?_; (subst u); rotate_left; clear_value u; intro _) | (refine Fw.cut (T := T) (z := z) u.1 ?_ ?_; (subst u); rotate_left; clear_value u; intro _) | ((have _ := fun x => u x); subst u) | clear_value u)
    | dsimp only
    | (with_reducible apply Fw.fst; assumption)
    | split
    | (first | with_reducible exact Nat.le_trans hT (by decide) | (left; (try unfold laneKey); (try split) <;> simp only [Reg.PORT_TIME.ONE_STEP_TX, Reg.PORT_TIME.TX_TS_HEAD, Reg.PORT_TIME.TX_TS_LOG, regKey] <;> omega) | ((try unfold laneKey); (try split) <;> simp only [Reg.PORT_TIME.ONE_STEP_TX, Reg.PORT_TIME.TX_TS_HEAD, Reg.PORT_TIME.TX_TS_LOG, regKey] <;> omega) | omega | decide)

theorem egressStage_fw {z : State} {T : Nat} (hT : T ≤ 0x300000) (x : State × SMap Nat) (e st : Nat) (fixed : SMap Nat → SMap Nat) (hs : Fw T z x.1) :
    Fw T z (egressStage x e st fixed).1 := State.runMicro_fw (Nat.le_trans hT (by decide)) _ _ _ _ _ hs

theorem State.updateFrame_fw {z : State} {T : Nat} (hT : T ≤ 0x300000) (s : State) (f g : Frame) (hs : Fw T z s) : Fw T z (State.updateFrame s f g) := by
  unfold State.updateFrame
  repeat' first
    | with_reducible first | assumption | apply Fw.ite | apply State.allocate_fw | apply State.putFrame_fw | apply State.unreport_fw
    | refine fun _ => ?_
    | ((try lift_lets); intro u; first | (refine Fw.cut (T := T) (z := z) u ?_ ?_; (subst u); rotate_left; clear_value u; intro _) | (refine Fw.cut (T := T) (z := z) u.st ?_ ?_; (subst u); rotate_left; clear_value u; intro _) | (refine Fw.cut (T := T) (z := z) u.1 ?_ ?_; (subst u); rotate_left; clear_value u; intro _) | ((have _ := fun x => u x); subst u) | clear_value u)
    | (first | with_reducible exact Nat.le_trans hT (by decide) | (left; (try unfold laneKey); (try split) <;> simp only [regKey] <;> omega) | ((try unfold laneKey); (try split) <;> simp only [regKey] <;> omega) | omega | decide)

theorem State.sample_fw {z : State} {T : Nat} (hT : T ≤ 0x300000) (s : State) (p : Nat) (hs : Fw T z s) : Fw T z (State.sample s p).1 := by
  unfold State.sample
  repeat' first
    | with_reducible first | assumption | apply Fw.ite | apply Fw.ite_fst | apply State.setTab_fw
    | refine fun _ => ?_
    | ((try lift_lets); intro u; first | (refine Fw.cut (T := T) (z := z) u ?_ ?_; (subst u); rotate_left; clear_value u; intro _) | (refine Fw.cut (T := T) (z := z) u.st ?_ ?_; (subst u); rotate_left; clear_value u; intro _) | (refine Fw.cut (T := T) (z := z) u.1 ?_ ?_; (subst u); rotate_left; clear_value u; intro _) | ((have _ := fun x => u x); subst u) | clear_value u)
    | (first | with_reducible exact Nat.le_trans hT (by decide) | (left; (try unfold laneKey); (try split) <;> simp only [Reg.PORT_PARSE.POSTCARD_SAMPLE, regKey] <;> omega) | ((try unfold laneKey); (try split) <;> simp only [Reg.PORT_PARSE.POSTCARD_SAMPLE, regKey] <;> omega) | omega | decide)

theorem State.accept_fw {z : State} {T : Nat} (hT : T ≤ 0x300000) (s : State) (p part : Nat) (hs : Fw T z s) : Fw T z (State.accept s p part).1 := by
  unfold State.accept
  repeat' first
    | with_reducible first | assumption | apply State.report_fw | apply State.sample_fw
    | ((try lift_lets); intro u; first | (refine Fw.cut (T := T) (z := z) u ?_ ?_; (subst u); rotate_left; clear_value u; intro _) | (refine Fw.cut (T := T) (z := z) u.st ?_ ?_; (subst u); rotate_left; clear_value u; intro _) | (refine Fw.cut (T := T) (z := z) u.1 ?_ ?_; (subst u); rotate_left; clear_value u; intro _) | ((have _ := fun x => u x); subst u) | clear_value u)
    | dsimp only
    | (with_reducible apply Fw.fst; assumption)
    | split
    | with_reducible apply Fw.upd
    | (first | with_reducible exact Nat.le_trans hT (by decide) | (left; (try unfold laneKey); (try split) <;> simp only [regKey] <;> omega) | ((try unfold laneKey); (try split) <;> simp only [regKey] <;> omega) | omega | decide)

theorem State.sendPause_fw {z : State} {T : Nat} (hT : T ≤ 0x300000) (s : State) (h quanta : Nat) (hs : Fw T z s) : Fw T z (State.sendPause s h quanta) := by
  unfold State.sendPause
  repeat' first
    | with_reducible first | assumption | apply State.when_fw | apply State.emit_fw | apply State.macSent_fw
    | refine fun _ => ?_
    | dsimp only
    | (first | with_reducible exact Nat.le_trans hT (by decide) | (left; (try unfold laneKey); (try split) <;> simp only [regKey] <;> omega) | ((try unfold laneKey); (try split) <;> simp only [regKey] <;> omega) | omega | decide)

theorem State.hostFifoCheck_fw {z : State} {T : Nat} (hT : T ≤ 0x140000) (s : State) (h : Nat) (hs : Fw T z s) : Fw T z (State.hostFifoCheck s h) := by
  unfold State.hostFifoCheck
  repeat' first
    | with_reducible first | assumption | apply Fw.ite | apply State.event_fw | apply State.sendPause_fw | apply State.setTab_fw
    | refine fun _ => ?_
    | ((try lift_lets); intro u; first | (refine Fw.cut (T := T) (z := z) u ?_ ?_; (subst u); rotate_left; clear_value u; intro _) | (refine Fw.cut (T := T) (z := z) u.st ?_ ?_; (subst u); rotate_left; clear_value u; intro _) | (refine Fw.cut (T := T) (z := z) u.1 ?_ ?_; (subst u); rotate_left; clear_value u; intro _) | ((have _ := fun x => u x); subst u) | clear_value u)
    | (first | with_reducible exact Nat.le_trans hT (by decide) | (left; (try unfold laneKey); (try split) <;> simp only [Reg.PORT.EVENTS, Reg.PORT.PAUSE_TX_ENABLE, regKey] <;> omega) | ((try unfold laneKey); (try split) <;> simp only [Reg.PORT.EVENTS, Reg.PORT.PAUSE_TX_ENABLE, regKey] <;> omega) | omega | decide)

theorem State.fifoCheckOf_fw {z : State} {T : Nat} (hT : T ≤ 0x140000) (s : State) (p : Nat) (hs : Fw T z s) : Fw T z (State.fifoCheckOf s p) := by
  unfold State.fifoCheckOf
  repeat' first
    | with_reducible first | assumption | apply State.when_fw | apply State.hostFifoCheck_fw
    | refine fun _ => ?_
    | dsimp only
    | (first | with_reducible exact Nat.le_trans hT (by decide) | (left; (try unfold laneKey); (try split) <;> simp only [regKey] <;> omega) | ((try unfold laneKey); (try split) <;> simp only [regKey] <;> omega) | omega | decide)

theorem State.handoffTail_fw {z : State} {T : Nat} (hT : T ≤ 0x300000) (s : State) (f : Frame) (good : Bool) (hs : Fw T z s) : Fw T z (State.handoffTail s f good) := by
  unfold State.handoffTail
  repeat' first
    | with_reducible first | assumption | apply Fw.ite | apply State.bump_fw | apply State.count_fw
    | refine fun _ => ?_
    | dsimp only
    | with_reducible apply Fw.upd
    | (first | with_reducible exact Nat.le_trans hT (by decide) | (left; (try unfold laneKey); (try split) <;> simp only [Reg.SIGNAL_CONTROL.ENGINE_OVERFLOW, regKey] <;> omega) | ((try unfold laneKey); (try split) <;> simp only [Reg.SIGNAL_CONTROL.ENGINE_OVERFLOW, regKey] <;> omega) | omega | decide)

theorem State.repayTail_fw {z : State} {T : Nat} (hT : T ≤ 0x300000) (s : State) (f : Frame) (hs : Fw T z s) : Fw T z (State.repayTail s f).1 := by
  unfold State.repayTail
  repeat' first
    | with_reducible first | assumption | apply Fw.ite | apply Fw.ite_fst | apply State.when_fw | apply State.blockPolicer_fw | apply State.polCount_fw | apply State.repayPolicer_fw
    | refine fun _ => ?_
    | ((try lift_lets); intro u; first | (refine Fw.cut (T := T) (z := z) u ?_ ?_; (subst u); rotate_left; clear_value u; intro _) | (refine Fw.cut (T := T) (z := z) u.st ?_ ?_; (subst u); rotate_left; clear_value u; intro _) | (refine Fw.cut (T := T) (z := z) u.1 ?_ ?_; (subst u); rotate_left; clear_value u; intro _) | ((have _ := fun x => u x); subst u) | clear_value u)
    | dsimp only
    | (with_reducible apply Fw.fst; assumption)
    | split
    | (first | with_reducible exact Nat.le_trans hT (by decide) | (left; (try unfold laneKey); (try split) <;> simp only [regKey] <;> omega) | ((try unfold laneKey); (try split) <;> simp only [regKey] <;> omega) | omega | decide)

theorem State.stopLong_fw {z : State} {T : Nat} (hT : T ≤ 0x300000) (s : State) (f : Frame) (hs : Fw T z s) : Fw T z (State.stopLong s f) := by
  unfold State.stopLong
  repeat' first
    | with_reducible first | assumption | apply Fw.ite | apply Fw.id | apply State.endCopies_fw
    | refine fun _ => ?_
    | dsimp only
    | (first | with_reducible exact Nat.le_trans hT (by decide) | (left; (try unfold laneKey); (try split) <;> simp only [regKey] <;> omega) | ((try unfold laneKey); (try split) <;> simp only [regKey] <;> omega) | omega | decide)

theorem State.refundAll_fw {z : State} {T : Nat} (hT : T ≤ 0x300000) (s : State) (f : Frame) (hs : Fw T z s) : Fw T z (State.refundAll s f) := by
  unfold State.refundAll
  repeat' first
    | with_reducible first | assumption | apply Fw.id | apply State.forAll_fw | apply State.refund_fw
    | refine fun _ => ?_
    | dsimp only
    | (first | with_reducible exact Nat.le_trans hT (by decide) | (left; (try unfold laneKey); (try split) <;> simp only [regKey] <;> omega) | ((try unfold laneKey); (try split) <;> simp only [regKey] <;> omega) | omega | decide)

theorem State.tailAdmitted_fw {z : State} {T : Nat} (hT : T ≤ 0x300000) (s : State) (f : Frame) (reason : Nat) (hs : Fw T z s) : Fw T z (State.tailAdmitted s f reason) := by
  unfold State.tailAdmitted
  repeat' first
    | with_reducible first | assumption | apply Fw.ite | apply Fw.id | apply Pass.stage_fw | apply State.dropWhole_fw | apply State.endCopies_fw | apply State.finalize_fw | apply State.pfcCheck_fw | apply State.refundAll_fw | apply State.stopLong_fw | apply State.updateFrame_fw
    | refine fun _ => ?_
    | ((try lift_lets); intro u; first | (refine Fw.cut (T := T) (z := z) u ?_ ?_; (subst u); rotate_left; clear_value u; intro _) | (refine Fw.cut (T := T) (z := z) u.st ?_ ?_; (subst u); rotate_left; clear_value u; intro _) | (refine Fw.cut (T := T) (z := z) u.1 ?_ ?_; (subst u); rotate_left; clear_value u; intro _) | ((have _ := fun x => u x); subst u) | clear_value u)
    | dsimp only
    | (with_reducible apply Fw.fst; assumption)
    | split
    | (first | with_reducible exact Nat.le_trans hT (by decide) | (left; (try unfold laneKey); (try split) <;> simp only [regKey] <;> omega) | ((try unfold laneKey); (try split) <;> simp only [regKey] <;> omega) | omega | decide)

theorem State.endArrival_fw {z : State} {T : Nat} (hT : T ≤ 0x300000) (s : State) (f : Frame) (reason len : Nat) (hs : Fw T z s) : Fw T z (State.endArrival s f reason len) := by
  unfold State.endArrival
  repeat' first
    | with_reducible first | assumption | apply Fw.ite | apply Fw.id | apply Pass.stage_fw | apply State.drained_fw | apply State.dropWhole_fw | apply State.handoffTail_fw | apply State.repayTail_fw | apply State.tailAdmitted_fw | apply State.updateFrame_fw
    | refine fun _ => ?_
    | ((try lift_lets); intro u; first | (refine Fw.cut (T := T) (z := z) u ?_ ?_; (subst u); rotate_left; clear_value u; intro _) | (refine Fw.cut (T := T) (z := z) u.st ?_ ?_; (subst u); rotate_left; clear_value u; intro _) | (refine Fw.cut (T := T) (z := z) u.1 ?_ ?_; (subst u); rotate_left; clear_value u; intro _) | ((have _ := fun x => u x); subst u) | clear_value u)
    | dsimp only
    | (with_reducible apply Fw.fst; assumption)
    | split
    | with_reducible apply Fw.upd
    | (first | with_reducible exact Nat.le_trans hT (by decide) | (left; (try unfold laneKey); (try split) <;> simp only [regKey] <;> omega) | ((try unfold laneKey); (try split) <;> simp only [regKey] <;> omega) | omega | decide)

theorem State.countRx_fw {z : State} {T : Nat} (hT : T ≤ 0x300000) (s : State) (p len reason : Nat) (hs : Fw T z s) : Fw T z (State.countRx s p len reason) := by
  unfold State.countRx
  repeat' first
    | with_reducible first | assumption | apply State.when_fw | apply State.count_fw
    | refine fun _ => ?_
    | ((try lift_lets); intro u; first | (refine Fw.cut (T := T) (z := z) u ?_ ?_; (subst u); rotate_left; clear_value u; intro _) | (refine Fw.cut (T := T) (z := z) u.st ?_ ?_; (subst u); rotate_left; clear_value u; intro _) | (refine Fw.cut (T := T) (z := z) u.1 ?_ ?_; (subst u); rotate_left; clear_value u; intro _) | ((have _ := fun x => u x); subst u) | clear_value u)
    | dsimp only
    | (first | with_reducible exact Nat.le_trans hT (by decide) | (left; (try unfold laneKey); (try split) <;> simp only [regKey] <;> omega) | ((try unfold laneKey); (try split) <;> simp only [regKey] <;> omega) | omega | decide)

theorem State.overrun_fw {z : State} {T : Nat} (hT : T ≤ 0x300000) (s : State) (f : Frame) (hs : Fw T z s) : Fw T z (State.overrun s f) := by
  unfold State.overrun
  repeat' first
    | with_reducible first | assumption | apply Fw.ite | apply Fw.id | apply State.dropWhole_fw | apply State.endCopies_fw | apply State.putFrame_fw
    | refine fun _ => ?_
    | ((try lift_lets); intro u; first | (refine Fw.cut (T := T) (z := z) u ?_ ?_; (subst u); rotate_left; clear_value u; intro _) | (refine Fw.cut (T := T) (z := z) u.st ?_ ?_; (subst u); rotate_left; clear_value u; intro _) | (refine Fw.cut (T := T) (z := z) u.1 ?_ ?_; (subst u); rotate_left; clear_value u; intro _) | ((have _ := fun x => u x); subst u) | clear_value u)
    | dsimp only
    | (first | with_reducible exact Nat.le_trans hT (by decide) | (left; (try unfold laneKey); (try split) <;> simp only [regKey] <;> omega) | ((try unfold laneKey); (try split) <;> simp only [regKey] <;> omega) | omega | decide)

theorem State.arrive_fw {z : State} {T : Nat} (hT : T ≤ 0x300000) (s : State) (f : Frame) (more : Bytes) (fcs : Nat) (hs : Fw T z s) : Fw T z (State.arrive s f more fcs).1 := by
  unfold State.arrive
  repeat' first
    | with_reducible first | assumption | apply Fw.ite | apply Fw.ite_fst | apply Fw.id | apply State.when_fw | apply Pass.stage_fw | apply State.countRx_fw | apply State.dzCount_fw | apply State.endArrival_fw | apply State.overrun_fw | apply State.pfcCheck_fw | apply State.putFrame_fw | apply State.stopLong_fw | apply State.updateFrame_fw
    | refine fun _ => ?_
    | ((try lift_lets); intro u; first | (refine Fw.cut (T := T) (z := z) u ?_ ?_; (subst u); rotate_left; clear_value u; intro _) | (refine Fw.cut (T := T) (z := z) u.st ?_ ?_; (subst u); rotate_left; clear_value u; intro _) | (refine Fw.cut (T := T) (z := z) u.1 ?_ ?_; (subst u); rotate_left; clear_value u; intro _) | ((have _ := fun x => u x); subst u) | clear_value u)
    | dsimp only
    | (with_reducible apply Fw.fst; assumption)
    | split
    | (first | with_reducible exact Nat.le_trans hT (by decide) | (left; (try unfold laneKey); (try split) <;> simp only [regKey] <;> omega) | ((try unfold laneKey); (try split) <;> simp only [regKey] <;> omega) | omega | decide)

theorem State.zdpFrameIn_fw {z : State} {T : Nat} (hT : T ≤ 0x10100) (s : State) (p : Nat) (b : Bytes) (hs : Fw T z s) : Fw T z (State.zdpFrameIn s p b) := by
  unfold State.zdpFrameIn
  repeat' first
    | with_reducible first | assumption | apply State.when_fw | apply State.bump_fw | apply State.macReceived_fw
    | refine fun _ => ?_
    | dsimp only
    | (with_reducible apply Fw.fst; assumption)
    | split
    | (first | with_reducible exact Nat.le_trans hT (by decide) | (left; (try unfold laneKey); (try split) <;> simp only [Reg.ZDP_STATISTICS.RX_MALFORMED, regKey] <;> omega) | ((try unfold laneKey); (try split) <;> simp only [Reg.ZDP_STATISTICS.RX_MALFORMED, regKey] <;> omega) | omega | decide)

theorem State.controlFrameIn_fw {z : State} {T : Nat} (hT : T ≤ 0x300000) (s : State) (p : Nat) (b : Bytes) (hs : Fw T z s) : Fw T z (State.controlFrameIn s p b) := by
  unfold State.controlFrameIn
  repeat' first
    | with_reducible first | assumption | apply Pass.stage_fw
    | dsimp only
    | with_reducible apply Fw.upd
    | (first | with_reducible exact Nat.le_trans hT (by decide) | (left; (try unfold laneKey); (try split) <;> simp only [regKey] <;> omega) | ((try unfold laneKey); (try split) <;> simp only [regKey] <;> omega) | omega | decide)

theorem State.dropArriving_fw {z : State} {T : Nat} (hT : T ≤ 0x300000) (s : State) (f : Frame) (b : Bytes) (reason : Nat) (hs : Fw T z s) : Fw T z (State.dropArriving s f b reason) := by
  unfold State.dropArriving
  repeat' first
    | with_reducible first | assumption | apply Fw.id | apply State.arrive_fw | apply State.dropWhole_fw
    | ((try lift_lets); intro u; first | (refine Fw.cut (T := T) (z := z) u ?_ ?_; (subst u); rotate_left; clear_value u; intro _) | (refine Fw.cut (T := T) (z := z) u.st ?_ ?_; (subst u); rotate_left; clear_value u; intro _) | (refine Fw.cut (T := T) (z := z) u.1 ?_ ?_; (subst u); rotate_left; clear_value u; intro _) | ((have _ := fun x => u x); subst u) | clear_value u)
    | dsimp only
    | (with_reducible apply Fw.fst; assumption)
    | split
    | (first | with_reducible exact Nat.le_trans hT (by decide) | (left; (try unfold laneKey); (try split) <;> simp only [regKey] <;> omega) | ((try unfold laneKey); (try split) <;> simp only [regKey] <;> omega) | omega | decide)

theorem State.decided_fw {z : State} {T : Nat} (hT : T ≤ 0x300000) (s : State) (f g : Frame) (hs : Fw T z s) : Fw T z (State.decided s f g) := by
  unfold State.decided
  repeat' first
    | with_reducible first | assumption | apply Fw.id | apply State.pfcCheck_fw | apply State.updateFrame_fw
    | refine fun _ => ?_
    | ((try lift_lets); intro u; first | (refine Fw.cut (T := T) (z := z) u ?_ ?_; (subst u); rotate_left; clear_value u; intro _) | (refine Fw.cut (T := T) (z := z) u.st ?_ ?_; (subst u); rotate_left; clear_value u; intro _) | (refine Fw.cut (T := T) (z := z) u.1 ?_ ?_; (subst u); rotate_left; clear_value u; intro _) | ((have _ := fun x => u x); subst u) | clear_value u)
    | dsimp only
    | with_reducible apply Fw.upd
    | (first | with_reducible exact Nat.le_trans hT (by decide) | (left; (try unfold laneKey); (try split) <;> simp only [regKey] <;> omega) | ((try unfold laneKey); (try split) <;> simp only [regKey] <;> omega) | omega | decide)

theorem State.makeCopy_fw {z : State} {T : Nat} (hT : T ≤ 0x300000) (s : State) (f : Frame) (e : Nat) (hs : Fw T z s) : Fw T z (State.makeCopy s f e) := by
  unfold State.makeCopy
  repeat' first
    | with_reducible first | assumption | apply Fw.id | apply State.when_fw | apply State.allocate_fw | apply State.count_fw | apply State.enterDrr_fw | apply State.raiseMark_fw | apply State.report_fw
    | refine fun _ => ?_
    | ((try lift_lets); intro u; first | (refine Fw.cut (T := T) (z := z) u ?_ ?_; (subst u); rotate_left; clear_value u; intro _) | (refine Fw.cut (T := T) (z := z) u.st ?_ ?_; (subst u); rotate_left; clear_value u; intro _) | (refine Fw.cut (T := T) (z := z) u.1 ?_ ?_; (subst u); rotate_left; clear_value u; intro _) | ((have _ := fun x => u x); subst u) | clear_value u)
    | dsimp only
    | with_reducible apply Fw.upd
    | (first | with_reducible exact Nat.le_trans hT (by decide) | (left; (try unfold laneKey); (try split) <;> simp only [Reg.PORT_BUFFER.CT_INGRESS, Reg.PORT_BUFFER.CT_QUEUES, Reg.PORT_BUFFER.ECN_ENABLE, Reg.PORT_BUFFER.ECN_THRESHOLD, Reg.PORT_QSTATE.DEPTH_HWM, regKey] <;> omega) | ((try unfold laneKey); (try split) <;> simp only [Reg.PORT_BUFFER.CT_INGRESS, Reg.PORT_BUFFER.CT_QUEUES, Reg.PORT_BUFFER.ECN_ENABLE, Reg.PORT_BUFFER.ECN_THRESHOLD, Reg.PORT_QSTATE.DEPTH_HWM, regKey] <;> omega) | omega | decide)

theorem State.admitCopies_fw {z : State} {T : Nat} (hT : T ≤ 0x300000) (s : State) (f : Frame) (n : Nat) (l : List Nat) (hs : Fw T z s) :
    Fw T z (State.admitCopies s f n l).1 := by
  induction l generalizing s f with
  | nil => exact hs
  | cons e t ih =>
    unfold State.admitCopies
    split
    · exact ih _ _ hs
    · exact ih _ _ (State.makeCopy_fw (Nat.le_trans hT (by decide)) _ _ _ hs)

theorem State.admitted_fw {z : State} {T : Nat} (hT : T ≤ 0x300000) (s : State) (f g : Frame) (hs : Fw T z s) : Fw T z (State.admitted s f g) := by
  unfold State.admitted
  repeat' first
    | with_reducible first | assumption | apply Fw.ite | apply Fw.id | apply State.forAll_fw | apply Pass.stage_fw | apply State.endCopy_fw | apply State.freeTag_fw | apply State.pfcCheck_fw | apply State.reply_fw | apply State.tailAdmitted_fw | apply State.updateFrame_fw
    | refine fun _ => ?_
    | ((try lift_lets); intro u; first | (refine Fw.cut (T := T) (z := z) u ?_ ?_; (subst u); rotate_left; clear_value u; intro _) | (refine Fw.cut (T := T) (z := z) u.st ?_ ?_; (subst u); rotate_left; clear_value u; intro _) | (refine Fw.cut (T := T) (z := z) u.1 ?_ ?_; (subst u); rotate_left; clear_value u; intro _) | ((have _ := fun x => u x); subst u) | clear_value u)
    | dsimp only
    | (with_reducible apply Fw.fst; assumption)
    | split
    | (first | with_reducible exact Nat.le_trans hT (by decide) | (left; (try unfold laneKey); (try split) <;> simp only [regKey] <;> omega) | ((try unfold laneKey); (try split) <;> simp only [regKey] <;> omega) | omega | decide)

theorem State.takeAdmission_fw {z : State} {T : Nat} (hT : T ≤ 0x300000) (s : State) (f : Frame) (hs : Fw T z s) : Fw T z (State.takeAdmission s f) := by
  unfold State.takeAdmission
  repeat' first
    | with_reducible first | assumption | apply Fw.ite | apply Pass.drop_fw | apply Pass.stage_fw | apply State.admitCopies_fw | apply State.admitted_fw | apply State.drop_fw | apply State.dropWhole_fw | apply State.putFrame_fw
    | refine fun _ => ?_
    | ((try lift_lets); intro u; first | (refine Fw.cut (T := T) (z := z) u ?_ ?_; (subst u); rotate_left; clear_value u; intro _) | (refine Fw.cut (T := T) (z := z) u.st ?_ ?_; (subst u); rotate_left; clear_value u; intro _) | (refine Fw.cut (T := T) (z := z) u.1 ?_ ?_; (subst u); rotate_left; clear_value u; intro _) | ((have _ := fun x => u x); subst u) | clear_value u)
    | dsimp only
    | (with_reducible apply Fw.fst; assumption)
    | split
    | (first | with_reducible exact Nat.le_trans hT (by decide) | (left; (try unfold laneKey); (try split) <;> simp only [regKey] <;> omega) | ((try unfold laneKey); (try split) <;> simp only [regKey] <;> omega) | omega | decide)

theorem State.present_fw {z : State} {T : Nat} (hT : T ≤ 0x300000) (s : State) (p part : Nat) (octets : Bytes) (mirror : Option Mirror) (mgmtTag : Bool) (reply : Nat) (hs : Fw T z s) : Fw T z (State.present s p part octets mirror mgmtTag reply) := by
  unfold State.present
  repeat' first
    | with_reducible first | assumption | apply Fw.ite | apply State.accept_fw | apply State.countRx_fw | apply State.dropWhole_fw | apply State.putFrame_fw | apply State.reply_fw
    | refine fun _ => ?_
    | ((try lift_lets); intro u; first | (refine Fw.cut (T := T) (z := z) u ?_ ?_; (subst u); rotate_left; clear_value u; intro _) | (refine Fw.cut (T := T) (z := z) u.st ?_ ?_; (subst u); rotate_left; clear_value u; intro _) | (refine Fw.cut (T := T) (z := z) u.1 ?_ ?_; (subst u); rotate_left; clear_value u; intro _) | ((have _ := fun x => u x); subst u) | clear_value u)
    | dsimp only
    | (with_reducible apply Fw.fst; assumption)
    | split
    | (first | with_reducible exact Nat.le_trans hT (by decide) | (left; (try unfold laneKey); (try split) <;> simp only [regKey] <;> omega) | ((try unfold laneKey); (try split) <;> simp only [regKey] <;> omega) | omega | decide)

theorem State.histAdd_fw {z : State} {T : Nat} (hT : T ≤ 0x300000) (s : State) (t element ns : Nat) (hs : Fw T z s) : Fw T z (State.histAdd s t element ns) := by
  unfold State.histAdd
  repeat' first
    | with_reducible first | assumption | apply State.setTab_fw
    | ((try lift_lets); intro u; first | (refine Fw.cut (T := T) (z := z) u ?_ ?_; (subst u); rotate_left; clear_value u; intro _) | (refine Fw.cut (T := T) (z := z) u.st ?_ ?_; (subst u); rotate_left; clear_value u; intro _) | (refine Fw.cut (T := T) (z := z) u.1 ?_ ?_; (subst u); rotate_left; clear_value u; intro _) | ((have _ := fun x => u x); subst u) | clear_value u)
    | (first | with_reducible exact Nat.le_trans hT (by decide) | (left; (try unfold laneKey); (try split) <;> simp only [regKey] <;> omega) | ((try unfold laneKey); (try split) <;> simp only [regKey] <;> omega) | omega | decide)

theorem State.countSent_fw {z : State} {T : Nat} (hT : T ≤ 0x300000) (s : State) (f : Frame) (c : Copy) (covered : Bool) (r : Nat) (hs : Fw T z s) : Fw T z (State.countSent s f c covered r) := by
  unfold State.countSent
  repeat' first
    | with_reducible first | assumption | apply Fw.ite | apply State.when_fw | apply State.breach_fw | apply State.histAdd_fw | apply State.resvCounted_fw
    | refine fun _ => ?_
    | ((try lift_lets); intro u; first | (refine Fw.cut (T := T) (z := z) u ?_ ?_; (subst u); rotate_left; clear_value u; intro _) | (refine Fw.cut (T := T) (z := z) u.st ?_ ?_; (subst u); rotate_left; clear_value u; intro _) | (refine Fw.cut (T := T) (z := z) u.1 ?_ ?_; (subst u); rotate_left; clear_value u; intro _) | ((have _ := fun x => u x); subst u) | clear_value u)
    | dsimp only
    | (with_reducible apply Fw.fst; assumption)
    | split
    | (first | with_reducible exact Nat.le_trans hT (by decide) | (left; (try unfold laneKey); (try split) <;> simp only [regKey] <;> omega) | ((try unfold laneKey); (try split) <;> simp only [regKey] <;> omega) | omega | decide)

theorem State.zdpArrived_fw {z : State} {T : Nat} (hT : T ≤ 0x10100) (s : State) (p : Nat) (b : Bytes) (hs : Fw T z s) : Fw T z (State.zdpArrived s p b) := by
  unfold State.zdpArrived
  repeat' first
    | with_reducible first | assumption | apply Fw.ite | apply State.bump_fw
    | refine fun _ => ?_
    | ((try lift_lets); intro u; first | (refine Fw.cut (T := T) (z := z) u ?_ ?_; (subst u); rotate_left; clear_value u; intro _) | (refine Fw.cut (T := T) (z := z) u.st ?_ ?_; (subst u); rotate_left; clear_value u; intro _) | (refine Fw.cut (T := T) (z := z) u.1 ?_ ?_; (subst u); rotate_left; clear_value u; intro _) | ((have _ := fun x => u x); subst u) | clear_value u)
    | dsimp only
    | (with_reducible apply Fw.fst; assumption)
    | split
    | with_reducible apply Fw.upd
    | (first | with_reducible exact Nat.le_trans hT (by decide) | (left; (try unfold laneKey); (try split) <;> simp only [Reg.ZDP_STATISTICS.FABRIC_DISCARDED, Reg.ZDP_STATISTICS.RX_MALFORMED, regKey] <;> omega) | ((try unfold laneKey); (try split) <;> simp only [Reg.ZDP_STATISTICS.FABRIC_DISCARDED, Reg.ZDP_STATISTICS.RX_MALFORMED, regKey] <;> omega) | omega | decide)

theorem State.setPartner_fw {z : State} {T : Nat} (hT : T ≤ 0x300000) (s : State) (v : Nat) (hs : Fw T z s) : Fw T z (State.setPartner s v) := by
  unfold State.setPartner
  repeat' first
    | with_reducible first | assumption | apply Fw.ite | apply State.when_fw | apply State.event_fw | apply State.setReg_fw | apply State.setTab_fw
    | refine fun _ => ?_
    | ((try lift_lets); intro u; first | (refine Fw.cut (T := T) (z := z) u ?_ ?_; (subst u); rotate_left; clear_value u; intro _) | (refine Fw.cut (T := T) (z := z) u.st ?_ ?_; (subst u); rotate_left; clear_value u; intro _) | (refine Fw.cut (T := T) (z := z) u.1 ?_ ?_; (subst u); rotate_left; clear_value u; intro _) | ((have _ := fun x => u x); subst u) | clear_value u)
    | dsimp only
    | (first | with_reducible exact Nat.le_trans hT (by decide) | (left; (try unfold laneKey); (try split) <;> simp only [Reg.DOVETAIL.ACTIVE, Reg.DOVETAIL.EVENTS, Reg.DOVETAIL.PARTNER_STATE, regKey] <;> omega) | ((try unfold laneKey); (try split) <;> simp only [Reg.DOVETAIL.ACTIVE, Reg.DOVETAIL.EVENTS, Reg.DOVETAIL.PARTNER_STATE, regKey] <;> omega) | omega | decide)

theorem State.refreshPartner_fw {z : State} {T : Nat} (hT : T ≤ 0x300000) (s : State) (hs : Fw T z s) : Fw T z (State.refreshPartner s) := by
  unfold State.refreshPartner
  repeat' first
    | with_reducible first | assumption | apply Fw.ite | apply State.setPartner_fw
    | refine fun _ => ?_
    | (first | with_reducible exact Nat.le_trans hT (by decide) | (left; (try unfold laneKey); (try split) <;> simp only [regKey] <;> omega) | ((try unfold laneKey); (try split) <;> simp only [regKey] <;> omega) | omega | decide)

theorem State.cutArrivals_fw {z : State} {T : Nat} (hT : T ≤ 0x300000) (s : State) (p : Nat) (hs : Fw T z s) : Fw T z (State.cutArrivals s p) := by
  unfold State.cutArrivals
  repeat' first
    | with_reducible first | assumption | apply Fw.ite | apply Fw.id | apply State.forAll_fw | apply Pass.stage_fw | apply State.countRx_fw | apply State.dropWhole_fw | apply State.endArrival_fw
    | refine fun _ => ?_
    | ((try lift_lets); intro u; first | (refine Fw.cut (T := T) (z := z) u ?_ ?_; (subst u); rotate_left; clear_value u; intro _) | (refine Fw.cut (T := T) (z := z) u.st ?_ ?_; (subst u); rotate_left; clear_value u; intro _) | (refine Fw.cut (T := T) (z := z) u.1 ?_ ?_; (subst u); rotate_left; clear_value u; intro _) | ((have _ := fun x => u x); subst u) | clear_value u)
    | dsimp only
    | (with_reducible apply Fw.fst; assumption)
    | split
    | (first | with_reducible exact Nat.le_trans hT (by decide) | (left; (try unfold laneKey); (try split) <;> simp only [regKey] <;> omega) | ((try unfold laneKey); (try split) <;> simp only [regKey] <;> omega) | omega | decide)

theorem State.setLink_fw {z : State} {T : Nat} (hT : T ≤ 0x140000) (s : State) (p v : Nat) (stomp : Bool) (hs : Fw T z s) : Fw T z (State.setLink s p v stomp) := by
  unfold State.setLink
  repeat' first
    | with_reducible first | assumption | apply Fw.ite | apply State.bump_fw | apply State.event_fw | apply State.portLeavesUp_fw | apply State.refreshResvs_fw | apply State.setReg_fw
    | refine fun _ => ?_
    | ((try lift_lets); intro u; first | (refine Fw.cut (T := T) (z := z) u ?_ ?_; (subst u); rotate_left; clear_value u; intro _) | (refine Fw.cut (T := T) (z := z) u.st ?_ ?_; (subst u); rotate_left; clear_value u; intro _) | (refine Fw.cut (T := T) (z := z) u.1 ?_ ?_; (subst u); rotate_left; clear_value u; intro _) | ((have _ := fun x => u x); subst u) | clear_value u)
    | (first | with_reducible exact Nat.le_trans hT (by decide) | (left; (try unfold laneKey); (try split) <;> simp only [Reg.PORT.EVENTS, Reg.PORT.LAST_CHANGE, Reg.PORT.LINK_CHANGES, Reg.PORT.LINK_STATE, regKey] <;> omega) | ((try unfold laneKey); (try split) <;> simp only [Reg.PORT.EVENTS, Reg.PORT.LAST_CHANGE, Reg.PORT.LINK_CHANGES, Reg.PORT.LINK_STATE, regKey] <;> omega) | omega | decide)

theorem State.refreshLink_fw {z : State} {T : Nat} (hT : T ≤ 0x140000) (s : State) (p : Nat) (stomp : Bool) (hs : Fw T z s) : Fw T z (State.refreshLink s p stomp) := by
  unfold State.refreshLink
  repeat' first
    | with_reducible first | assumption | apply Fw.ite | apply State.setLink_fw
    | refine fun _ => ?_
    | (first | with_reducible exact Nat.le_trans hT (by decide) | (left; (try unfold laneKey); (try split) <;> simp only [Reg.PORT.LINK_STATE, regKey] <;> omega) | ((try unfold laneKey); (try split) <;> simp only [Reg.PORT.LINK_STATE, regKey] <;> omega) | omega | decide)

theorem State.faultSignal_fw {z : State} {T : Nat} (hT : T ≤ 0x140000) (s : State) (p i : Nat) (hs : Fw T z s) : Fw T z (State.faultSignal s p i) := by
  unfold State.faultSignal
  repeat' first
    | with_reducible first | assumption | apply Fw.ite | apply State.event_fw | apply State.refreshLink_fw | apply State.setTab_fw
    | refine fun _ => ?_
    | ((try lift_lets); intro u; first | (refine Fw.cut (T := T) (z := z) u ?_ ?_; (subst u); rotate_left; clear_value u; intro _) | (refine Fw.cut (T := T) (z := z) u.st ?_ ?_; (subst u); rotate_left; clear_value u; intro _) | (refine Fw.cut (T := T) (z := z) u.1 ?_ ?_; (subst u); rotate_left; clear_value u; intro _) | ((have _ := fun x => u x); subst u) | clear_value u)
    | (first | with_reducible exact Nat.le_trans hT (by decide) | (left; (try unfold laneKey); (try split) <;> simp only [Reg.PORT.EVENTS, regKey] <;> omega) | ((try unfold laneKey); (try split) <;> simp only [Reg.PORT.EVENTS, regKey] <;> omega) | omega | decide)

theorem State.dcbError_fw {z : State} {T : Nat} (hT : T ≤ 0x140000) (s : State) (p : Nat) (hs : Fw T z s) : Fw T z (State.dcbError s p) := by
  unfold State.dcbError
  repeat' first
    | with_reducible first | assumption | apply State.bump_fw
    | (first | with_reducible exact Nat.le_trans hT (by decide) | (left; (try unfold laneKey); (try split) <;> simp only [Reg.PORT.DCB_ERRORS, regKey] <;> omega) | ((try unfold laneKey); (try split) <;> simp only [Reg.PORT.DCB_ERRORS, regKey] <;> omega) | omega | decide)

theorem State.dzStart_fw {z : State} {T : Nat} (hT : T ≤ 0x140000) (s : State) (p : Nat) (hs : Fw T z s) : Fw T z (State.dzStart s p) := by
  unfold State.dzStart
  repeat' first
    | with_reducible first | assumption | apply State.forAll_fw | apply State.setReg_fw | apply State.setTab_fw
    | refine fun _ => ?_
    | ((try lift_lets); intro u; first | (refine Fw.cut (T := T) (z := z) u ?_ ?_; (subst u); rotate_left; clear_value u; intro _) | (refine Fw.cut (T := T) (z := z) u.st ?_ ?_; (subst u); rotate_left; clear_value u; intro _) | (refine Fw.cut (T := T) (z := z) u.1 ?_ ?_; (subst u); rotate_left; clear_value u; intro _) | ((have _ := fun x => u x); subst u) | clear_value u)
    | dsimp only
    | (first | with_reducible exact Nat.le_trans hT (by decide) | (left; (try unfold laneKey); (try split) <;> simp only [Reg.PORT.DALZAN_STATE, Reg.PORT.RX_RESERVE, regKey] <;> omega) | ((try unfold laneKey); (try split) <;> simp only [Reg.PORT.DALZAN_STATE, Reg.PORT.RX_RESERVE, regKey] <;> omega) | omega | decide)

theorem State.dzReset_fw {z : State} {T : Nat} (hT : T ≤ 0x140000) (s : State) (p : Nat) (stomp : Bool) (hs : Fw T z s) : Fw T z (State.dzReset s p stomp) := by
  unfold State.dzReset
  repeat' first
    | with_reducible first | assumption | apply State.when_fw | apply State.dzStart_fw | apply State.refreshLink_fw | apply State.refreshPartner_fw | apply State.setReg_fw
    | refine fun _ => ?_
    | ((try lift_lets); intro u; first | (refine Fw.cut (T := T) (z := z) u ?_ ?_; (subst u); rotate_left; clear_value u; intro _) | (refine Fw.cut (T := T) (z := z) u.st ?_ ?_; (subst u); rotate_left; clear_value u; intro _) | (refine Fw.cut (T := T) (z := z) u.1 ?_ ?_; (subst u); rotate_left; clear_value u; intro _) | ((have _ := fun x => u x); subst u) | clear_value u)
    | dsimp only
    | (first | with_reducible exact Nat.le_trans hT (by decide) | (left; (try unfold laneKey); (try split) <;> simp only [Reg.PORT.DALZAN_STATE, regKey] <;> omega) | ((try unfold laneKey); (try split) <;> simp only [Reg.PORT.DALZAN_STATE, regKey] <;> omega) | omega | decide)

theorem State.lanesChanged_fw {z : State} {T : Nat} (hT : T ≤ 0x140000) (s : State) (p : Nat) (stomp : Bool) (hs : Fw T z s) : Fw T z (State.lanesChanged s p stomp) := by
  unfold State.lanesChanged
  repeat' first
    | with_reducible first | assumption | apply Fw.ite | apply State.when_fw | apply State.dzReset_fw | apply State.dzStart_fw | apply State.refreshLink_fw
    | refine fun _ => ?_
    | ((try lift_lets); intro u; first | (refine Fw.cut (T := T) (z := z) u ?_ ?_; (subst u); rotate_left; clear_value u; intro _) | (refine Fw.cut (T := T) (z := z) u.st ?_ ?_; (subst u); rotate_left; clear_value u; intro _) | (refine Fw.cut (T := T) (z := z) u.1 ?_ ?_; (subst u); rotate_left; clear_value u; intro _) | ((have _ := fun x => u x); subst u) | clear_value u)
    | dsimp only
    | (first | with_reducible exact Nat.le_trans hT (by decide) | (left; (try unfold laneKey); (try split) <;> simp only [Reg.PORT.DALZAN_STATE, regKey] <;> omega) | ((try unfold laneKey); (try split) <;> simp only [Reg.PORT.DALZAN_STATE, regKey] <;> omega) | omega | decide)

theorem State.takeInit_fw {z : State} {T : Nat} (hT : T ≤ 0x140000) (s : State) (p : Nat) (b : Bytes) (hs : Fw T z s) : Fw T z (State.takeInit s p b) := by
  unfold State.takeInit
  repeat' first
    | with_reducible first | assumption | apply Fw.ite | apply Pass.drop_fw | apply State.drop_fw | apply State.refreshLink_fw | apply State.refreshPartner_fw | apply State.setReg_fw | apply State.setTab_fw
    | refine fun _ => ?_
    | ((try lift_lets); intro u; first | (refine Fw.cut (T := T) (z := z) u ?_ ?_; (subst u); rotate_left; clear_value u; intro _) | (refine Fw.cut (T := T) (z := z) u.st ?_ ?_; (subst u); rotate_left; clear_value u; intro _) | (refine Fw.cut (T := T) (z := z) u.1 ?_ ?_; (subst u); rotate_left; clear_value u; intro _) | ((have _ := fun x => u x); subst u) | clear_value u)
    | dsimp only
    | (first | with_reducible exact Nat.le_trans hT (by decide) | (left; (try unfold laneKey); (try split) <;> simp only [Reg.PORT.DALZAN_STATE, Reg.PORT.PARTNER_GRANT, regKey] <;> omega) | ((try unfold laneKey); (try split) <;> simp only [Reg.PORT.DALZAN_STATE, Reg.PORT.PARTNER_GRANT, regKey] <;> omega) | omega | decide)

theorem State.reclaimLost_fw {z : State} {T : Nat} (hT : T ≤ 0x140000) (s : State) (p q : Nat) (hs : Fw T z s) : Fw T z (State.reclaimLost s p q) := by
  unfold State.reclaimLost
  repeat' first
    | with_reducible first | assumption | apply Fw.ite | apply State.bump_fw | apply State.event_fw | apply State.setTab_fw
    | refine fun _ => ?_
    | ((try lift_lets); intro u; first | (refine Fw.cut (T := T) (z := z) u ?_ ?_; (subst u); rotate_left; clear_value u; intro _) | (refine Fw.cut (T := T) (z := z) u.st ?_ ?_; (subst u); rotate_left; clear_value u; intro _) | (refine Fw.cut (T := T) (z := z) u.1 ?_ ?_; (subst u); rotate_left; clear_value u; intro _) | ((have _ := fun x => u x); subst u) | clear_value u)
    | (first | with_reducible exact Nat.le_trans hT (by decide) | (left; (try unfold laneKey); (try split) <;> simp only [Reg.PORT.CELLS_LOST, Reg.PORT.EVENTS, Reg.TALLY_CONTROL.UNITS_RECLAIMED, regKey] <;> omega) | ((try unfold laneKey); (try split) <;> simp only [Reg.PORT.CELLS_LOST, Reg.PORT.EVENTS, Reg.TALLY_CONTROL.UNITS_RECLAIMED, regKey] <;> omega) | omega | decide)

theorem State.creditReport_fw {z : State} {T : Nat} (hT : T ≤ 0x140000) (s : State) (p q received returned : Nat) (first : Bool) (hs : Fw T z s) : Fw T z (State.creditReport s p q received returned first) := by
  unfold State.creditReport
  repeat' first
    | with_reducible first | assumption | apply Fw.ite | apply State.when_fw | apply State.discrepancy_fw | apply State.reclaimLost_fw | apply State.setTab_fw
    | refine fun _ => ?_
    | ((try lift_lets); intro u; first | (refine Fw.cut (T := T) (z := z) u ?_ ?_; (subst u); rotate_left; clear_value u; intro _) | (refine Fw.cut (T := T) (z := z) u.st ?_ ?_; (subst u); rotate_left; clear_value u; intro _) | (refine Fw.cut (T := T) (z := z) u.1 ?_ ?_; (subst u); rotate_left; clear_value u; intro _) | ((have _ := fun x => u x); subst u) | clear_value u)
    | dsimp only
    | (first | with_reducible exact Nat.le_trans hT (by decide) | (left; (try unfold laneKey); (try split) <;> simp only [regKey] <;> omega) | ((try unfold laneKey); (try split) <;> simp only [regKey] <;> omega) | omega | decide)

theorem State.takeCredit_fw {z : State} {T : Nat} (hT : T ≤ 0x140000) (s : State) (p g : Nat) (b : Bytes) (hs : Fw T z s) : Fw T z (State.takeCredit s p g b) := by
  unfold State.takeCredit
  repeat' first
    | with_reducible first | assumption | apply Fw.ite | apply State.forAll_fw | apply Pass.drop_fw | apply State.creditReport_fw | apply State.drop_fw | apply State.refreshResvs_fw | apply State.setTab_fw
    | refine fun _ => ?_
    | ((try lift_lets); intro u; first | (refine Fw.cut (T := T) (z := z) u ?_ ?_; (subst u); rotate_left; clear_value u; intro _) | (refine Fw.cut (T := T) (z := z) u.st ?_ ?_; (subst u); rotate_left; clear_value u; intro _) | (refine Fw.cut (T := T) (z := z) u.1 ?_ ?_; (subst u); rotate_left; clear_value u; intro _) | ((have _ := fun x => u x); subst u) | clear_value u)
    | dsimp only
    | (first | with_reducible exact Nat.le_trans hT (by decide) | (left; (try unfold laneKey); (try split) <;> simp only [regKey] <;> omega) | ((try unfold laneKey); (try split) <;> simp only [regKey] <;> omega) | omega | decide)

theorem linkResetEffect_fw {z : State} {T : Nat} (hT : T ≤ 0x140000) (p v : Nat) (s : State) (hs : Fw T z s) : Fw T z (linkResetEffect p v s).st := by
  unfold linkResetEffect
  repeat' first
    | with_reducible first | assumption | apply Fw.ite | apply Fw.ite_st | apply Fw.done | apply Fw.fail | apply State.when_fw | apply Res.done_fw | apply Res.fail_fw | apply State.dzReset_fw
    | refine fun _ => ?_
    | dsimp only
    | (first | with_reducible exact Nat.le_trans hT (by decide) | (left; (try unfold laneKey); (try split) <;> simp only [Reg.PORT.DALZAN_STATE, regKey] <;> omega) | ((try unfold laneKey); (try split) <;> simp only [Reg.PORT.DALZAN_STATE, regKey] <;> omega) | omega | decide)

theorem State.setLane_fw {z : State} {T : Nat} (hT : T ≤ 0x100000) (s : State) (n sub v : Nat) (hs : Fw T z s) : Fw T z (State.setLane s n sub v) := by
  unfold State.setLane
  repeat' first
    | with_reducible first | assumption | apply State.setReg_fw
    | (first | with_reducible exact Nat.le_trans hT (by decide) | (left; (try unfold laneKey); (try split) <;> simp only [regKey] <;> omega) | ((try unfold laneKey); (try split) <;> simp only [regKey] <;> omega) | omega | decide)

theorem State.laneEvent_fw {z : State} {T : Nat} (hT : T ≤ 0x100000) (s : State) (n i : Nat) (hs : Fw T z s) : Fw T z (State.laneEvent s n i) := by
  unfold State.laneEvent
  repeat' first
    | with_reducible first | assumption | apply State.event_fw
    | (first | with_reducible exact Nat.le_trans hT (by decide) | (left; (try unfold laneKey); (try split) <;> simp only [regKey] <;> omega) | ((try unfold laneKey); (try split) <;> simp only [regKey] <;> omega) | omega | decide)

theorem State.stopEye_fw {z : State} {T : Nat} (hT : T ≤ 0x100000) (s : State) (n : Nat) (hs : Fw T z s) : Fw T z (State.stopEye s n) := by
  unfold State.stopEye
  repeat' first
    | with_reducible first | assumption | apply Fw.ite | apply State.drew_fw | apply State.setLane_fw
    | refine fun _ => ?_
    | ((try lift_lets); intro u; first | (refine Fw.cut (T := T) (z := z) u ?_ ?_; (subst u); rotate_left; clear_value u; intro _) | (refine Fw.cut (T := T) (z := z) u.st ?_ ?_; (subst u); rotate_left; clear_value u; intro _) | (refine Fw.cut (T := T) (z := z) u.1 ?_ ?_; (subst u); rotate_left; clear_value u; intro _) | ((have _ := fun x => u x); subst u) | clear_value u)
    | dsimp only
    | (first | with_reducible exact Nat.le_trans hT (by decide) | (left; (try unfold laneKey); (try split) <;> simp only [regKey] <;> omega) | ((try unfold laneKey); (try split) <;> simp only [regKey] <;> omega) | omega | decide)

theorem State.endCheck_fw {z : State} {T : Nat} (hT : T ≤ 0x100000) (s : State) (n : Nat) (hs : Fw T z s) : Fw T z (State.endCheck s n) := by
  unfold State.endCheck
  repeat' first
    | with_reducible first | assumption | apply Fw.ite | apply State.bump_fw | apply State.drew_fw | apply State.setLane_fw
    | refine fun _ => ?_
    | ((try lift_lets); intro u; first | (refine Fw.cut (T := T) (z := z) u ?_ ?_; (subst u); rotate_left; clear_value u; intro _) | (refine Fw.cut (T := T) (z := z) u.st ?_ ?_; (subst u); rotate_left; clear_value u; intro _) | (refine Fw.cut (T := T) (z := z) u.1 ?_ ?_; (subst u); rotate_left; clear_value u; intro _) | ((have _ := fun x => u x); subst u) | clear_value u)
    | (first | with_reducible exact Nat.le_trans hT (by decide) | (left; (try unfold laneKey); (try split) <;> simp only [regKey] <;> omega) | ((try unfold laneKey); (try split) <;> simp only [regKey] <;> omega) | omega | decide)

theorem State.portFollows_fw {z : State} {T : Nat} (hT : T ≤ 0x140000) (s : State) (n : Nat) (left stomp : Bool) (hs : Fw T z s) : Fw T z (State.portFollows s n left stomp) := by
  unfold State.portFollows
  repeat' first
    | with_reducible first | assumption | apply State.when_fw | apply State.cutArrivals_fw | apply State.lanesChanged_fw
    | refine fun _ => ?_
    | dsimp only
    | (with_reducible apply Fw.fst; assumption)
    | split
    | (first | with_reducible exact Nat.le_trans hT (by decide) | (left; (try unfold laneKey); (try split) <;> simp only [regKey] <;> omega) | ((try unfold laneKey); (try split) <;> simp only [regKey] <;> omega) | omega | decide)

theorem State.laneTo_fw {z : State} {T : Nat} (hT : T ≤ 0x100000) (s : State) (n st : Nat) (stomp : Bool) (hs : Fw T z s) : Fw T z (State.laneTo s n st stomp) := by
  unfold State.laneTo
  repeat' first
    | with_reducible first | assumption | apply Fw.ite | apply State.when_fw | apply State.endCheck_fw | apply State.laneEvent_fw | apply State.portFollows_fw | apply State.setLane_fw | apply State.setTab_fw | apply State.stopEye_fw
    | refine fun _ => ?_
    | ((try lift_lets); intro u; first | (refine Fw.cut (T := T) (z := z) u ?_ ?_; (subst u); rotate_left; clear_value u; intro _) | (refine Fw.cut (T := T) (z := z) u.st ?_ ?_; (subst u); rotate_left; clear_value u; intro _) | (refine Fw.cut (T := T) (z := z) u.1 ?_ ?_; (subst u); rotate_left; clear_value u; intro _) | ((have _ := fun x => u x); subst u) | clear_value u)
    | dsimp only
    | (first | with_reducible exact Nat.le_trans hT (by decide) | (left; (try unfold laneKey); (try split) <;> simp only [regKey] <;> omega) | ((try unfold laneKey); (try split) <;> simp only [regKey] <;> omega) | omega | decide)

theorem State.laneRestart_fw {z : State} {T : Nat} (hT : T ≤ 0x100000) (s : State) (n : Nat) (stomp : Bool) (hs : Fw T z s) : Fw T z (State.laneRestart s n stomp) := by
  unfold State.laneRestart
  repeat' first
    | with_reducible first | assumption | apply Fw.ite | apply State.laneTo_fw
    | refine fun _ => ?_
    | (first | with_reducible exact Nat.le_trans hT (by decide) | (left; (try unfold laneKey); (try split) <;> simp only [regKey] <;> omega) | ((try unfold laneKey); (try split) <;> simp only [regKey] <;> omega) | omega | decide)

theorem State.requestTaps_fw {z : State} {T : Nat} (hT : T ≤ 0x300000) (s : State) (n : Nat) (taps : List Int) (hs : Fw T z s) : Fw T z (State.requestTaps s n taps) := by
  unfold State.requestTaps
  repeat' first
    | with_reducible first | assumption | apply State.forAll_fw | apply State.setTab_fw
    | refine fun _ => ?_
    | dsimp only
    | (first | with_reducible exact Nat.le_trans hT (by decide) | (left; (try unfold laneKey); (try split) <;> simp only [regKey] <;> omega) | ((try unfold laneKey); (try split) <;> simp only [regKey] <;> omega) | omega | decide)

theorem State.writtenTaps_fw {z : State} {T : Nat} (hT : T ≤ 0x300000) (s : State) (n : Nat) (hs : Fw T z s) : Fw T z (State.writtenTaps s n) := by
  unfold State.writtenTaps
  repeat' first
    | with_reducible first | assumption | apply State.forAll_fw | apply State.setTab_fw
    | refine fun _ => ?_
    | dsimp only
    | (first | with_reducible exact Nat.le_trans hT (by decide) | (left; (try unfold laneKey); (try split) <;> simp only [regKey] <;> omega) | ((try unfold laneKey); (try split) <;> simp only [regKey] <;> omega) | omega | decide)

theorem State.adapted_fw {z : State} {T : Nat} (hT : T ≤ 0x100000) (s : State) (n ctle ffe dfe ppm : Nat) (hs : Fw T z s) : Fw T z (State.adapted s n ctle ffe dfe ppm) := by
  unfold State.adapted
  repeat' first
    | with_reducible first | assumption | apply Fw.ite | apply State.setLane_fw
    | refine fun _ => ?_
    | ((try lift_lets); intro u; first | (refine Fw.cut (T := T) (z := z) u ?_ ?_; (subst u); rotate_left; clear_value u; intro _) | (refine Fw.cut (T := T) (z := z) u.st ?_ ?_; (subst u); rotate_left; clear_value u; intro _) | (refine Fw.cut (T := T) (z := z) u.1 ?_ ?_; (subst u); rotate_left; clear_value u; intro _) | ((have _ := fun x => u x); subst u) | clear_value u)
    | (first | with_reducible exact Nat.le_trans hT (by decide) | (left; (try unfold laneKey); (try split) <;> simp only [regKey] <;> omega) | ((try unfold laneKey); (try split) <;> simp only [regKey] <;> omega) | omega | decide)

theorem State.leaveData_fw {z : State} {T : Nat} (hT : T ≤ 0x100000) (s : State) (n cause : Nat) (hs : Fw T z s) : Fw T z (State.leaveData s n cause) := by
  unfold State.leaveData
  repeat' first
    | with_reducible first | assumption | apply Fw.ite | apply State.when_fw | apply State.bump_fw | apply State.laneEvent_fw | apply State.laneTo_fw | apply State.setLane_fw | apply State.setTab_fw
    | refine fun _ => ?_
    | ((try lift_lets); intro u; first | (refine Fw.cut (T := T) (z := z) u ?_ ?_; (subst u); rotate_left; clear_value u; intro _) | (refine Fw.cut (T := T) (z := z) u.st ?_ ?_; (subst u); rotate_left; clear_value u; intro _) | (refine Fw.cut (T := T) (z := z) u.1 ?_ ?_; (subst u); rotate_left; clear_value u; intro _) | ((have _ := fun x => u x); subst u) | clear_value u)
    | dsimp only
    | (first | with_reducible exact Nat.le_trans hT (by decide) | (left; (try unfold laneKey); (try split) <;> simp only [regKey] <;> omega) | ((try unfold laneKey); (try split) <;> simp only [regKey] <;> omega) | omega | decide)

theorem retrainEffect_fw {z : State} {T : Nat} (hT : T ≤ 0x100000) (n v : Nat) (s : State) (hs : Fw T z s) : Fw T z (retrainEffect n v s).st := by
  unfold retrainEffect
  repeat' first
    | with_reducible first | assumption | apply Fw.ite | apply Fw.ite_st | apply Fw.done | apply Res.done_fw | apply State.leaveData_fw
    | refine fun _ => ?_
    | (first | with_reducible exact Nat.le_trans hT (by decide) | (left; (try unfold laneKey); (try split) <;> simp only [regKey] <;> omega) | ((try unfold laneKey); (try split) <;> simp only [regKey] <;> omega) | omega | decide)

theorem State.setFill_fw {z : State} {T : Nat} (hT : T ≤ 0x100000) (s : State) (l : Nat) (tx : Bool) (fill : Nat) (hs : Fw T z s) : Fw T z (State.setFill s l tx fill) := by
  unfold State.setFill
  repeat' first
    | with_reducible first | assumption | apply Fw.ite | apply State.setLane_fw | apply State.setTab_fw
    | refine fun _ => ?_
    | (first | with_reducible exact Nat.le_trans hT (by decide) | (left; (try unfold laneKey); (try split) <;> simp only [regKey] <;> omega) | ((try unfold laneKey); (try split) <;> simp only [regKey] <;> omega) | omega | decide)

theorem State.shim_fw {z : State} {T : Nat} (hT : T ≤ 0x100000) (s : State) (n : Nat) (tx act : Bool) (fill fill' k : Nat) (hs : Fw T z s) : Fw T z (State.shim s n tx act fill fill' k) := by
  unfold State.shim
  repeat' first
    | with_reducible first | assumption | apply Fw.ite | apply State.when_fw | apply State.count_fw | apply State.setFill_fw
    | refine fun _ => ?_
    | ((try lift_lets); intro u; first | (refine Fw.cut (T := T) (z := z) u ?_ ?_; (subst u); rotate_left; clear_value u; intro _) | (refine Fw.cut (T := T) (z := z) u.st ?_ ?_; (subst u); rotate_left; clear_value u; intro _) | (refine Fw.cut (T := T) (z := z) u.1 ?_ ?_; (subst u); rotate_left; clear_value u; intro _) | ((have _ := fun x => u x); subst u) | clear_value u)
    | dsimp only
    | (first | with_reducible exact Nat.le_trans hT (by decide) | (left; (try unfold laneKey); (try split) <;> simp only [regKey] <;> omega) | ((try unfold laneKey); (try split) <;> simp only [regKey] <;> omega) | omega | decide)

theorem State.elasticRx_fw {z : State} {T : Nat} (hT : T ≤ 0x300000) (s : State) (p : Nat) (hs : Fw T z s) : Fw T z (State.elasticRx s p) := by
  unfold State.elasticRx
  repeat' first
    | with_reducible first | assumption | apply Fw.ite | apply Fw.id | apply State.forAll_fw | apply Pass.stage_fw | apply State.countRx_fw | apply State.dropWhole_fw | apply State.endArrival_fw
    | refine fun _ => ?_
    | ((try lift_lets); intro u; first | (refine Fw.cut (T := T) (z := z) u ?_ ?_; (subst u); rotate_left; clear_value u; intro _) | (refine Fw.cut (T := T) (z := z) u.st ?_ ?_; (subst u); rotate_left; clear_value u; intro _) | (refine Fw.cut (T := T) (z := z) u.1 ?_ ?_; (subst u); rotate_left; clear_value u; intro _) | ((have _ := fun x => u x); subst u) | clear_value u)
    | dsimp only
    | (with_reducible apply Fw.fst; assumption)
    | split
    | (first | with_reducible exact Nat.le_trans hT (by decide) | (left; (try unfold laneKey); (try split) <;> simp only [regKey] <;> omega) | ((try unfold laneKey); (try split) <;> simp only [regKey] <;> omega) | omega | decide)

theorem tapEffect_fw {z : State} {T : Nat} (hT : T ≤ 0x100000) (n i v : Nat) (s : State) (hs : Fw T z s) : Fw T z (tapEffect n i v s).st := by
  unfold tapEffect
  repeat' first
    | with_reducible first | assumption | apply Fw.ite | apply Fw.ite_st | apply Fw.done | apply Fw.fail | apply Res.done_fw | apply Res.fail_fw | apply State.setLane_fw | apply State.setTab_fw
    | refine fun _ => ?_
    | ((try lift_lets); intro u; first | (refine Fw.cut (T := T) (z := z) u ?_ ?_; (subst u); rotate_left; clear_value u; intro _) | (refine Fw.cut (T := T) (z := z) u.st ?_ ?_; (subst u); rotate_left; clear_value u; intro _) | (refine Fw.cut (T := T) (z := z) u.1 ?_ ?_; (subst u); rotate_left; clear_value u; intro _) | ((have _ := fun x => u x); subst u) | clear_value u)
    | dsimp only
    | (first | with_reducible exact Nat.le_trans hT (by decide) | (left; (try unfold laneKey); (try split) <;> simp only [regKey] <;> omega) | ((try unfold laneKey); (try split) <;> simp only [regKey] <;> omega) | omega | decide)

theorem State.followTest_fw {z : State} {T : Nat} (hT : T ≤ 0x100000) (s : State) (n : Nat) (hs : Fw T z s) : Fw T z (State.followTest s n) := by
  unfold State.followTest
  repeat' first
    | with_reducible first | assumption | apply Fw.ite | apply State.laneRestart_fw | apply State.laneTo_fw
    | refine fun _ => ?_
    | (first | with_reducible exact Nat.le_trans hT (by decide) | (left; (try unfold laneKey); (try split) <;> simp only [regKey] <;> omega) | ((try unfold laneKey); (try split) <;> simp only [regKey] <;> omega) | omega | decide)

theorem loopbackEffect_fw {z : State} {T : Nat} (hT : T ≤ 0x100000) (n v : Nat) (s : State) (hs : Fw T z s) : Fw T z (loopbackEffect n v s).st := by
  unfold loopbackEffect
  repeat' first
    | with_reducible first | assumption | apply Fw.done | apply Res.done_fw | apply State.followTest_fw | apply State.setLane_fw
    | (first | with_reducible exact Nat.le_trans hT (by decide) | (left; (try unfold laneKey); (try split) <;> simp only [regKey] <;> omega) | ((try unfold laneKey); (try split) <;> simp only [regKey] <;> omega) | omega | decide)

theorem prbsTxEffect_fw {z : State} {T : Nat} (hT : T ≤ 0x100000) (n v : Nat) (s : State) (hs : Fw T z s) : Fw T z (prbsTxEffect n v s).st := by
  unfold prbsTxEffect
  repeat' first
    | with_reducible first | assumption | apply Fw.ite | apply Fw.ite_st | apply Fw.done | apply Fw.fail | apply Res.done_fw | apply Res.fail_fw | apply State.followTest_fw | apply State.setLane_fw
    | refine fun _ => ?_
    | (first | with_reducible exact Nat.le_trans hT (by decide) | (left; (try unfold laneKey); (try split) <;> simp only [regKey] <;> omega) | ((try unfold laneKey); (try split) <;> simp only [regKey] <;> omega) | omega | decide)

theorem prbsRxEffect_fw {z : State} {T : Nat} (hT : T ≤ 0x100000) (n v : Nat) (s : State) (hs : Fw T z s) : Fw T z (prbsRxEffect n v s).st := by
  unfold prbsRxEffect
  repeat' first
    | with_reducible first | assumption | apply Fw.ite | apply Fw.ite_st | apply Fw.done | apply Fw.fail | apply Res.done_fw | apply Res.fail_fw | apply State.endCheck_fw | apply State.followTest_fw | apply State.setLane_fw
    | refine fun _ => ?_
    | (first | with_reducible exact Nat.le_trans hT (by decide) | (left; (try unfold laneKey); (try split) <;> simp only [regKey] <;> omega) | ((try unfold laneKey); (try split) <;> simp only [regKey] <;> omega) | omega | decide)

theorem prbsClearEffect_fw {z : State} {T : Nat} (hT : T ≤ 0x100000) (n v : Nat) (s : State) (hs : Fw T z s) : Fw T z (prbsClearEffect n v s).st := by
  unfold prbsClearEffect
  repeat' first
    | with_reducible first | assumption | apply Fw.ite | apply Fw.ite_st | apply Fw.done | apply Res.done_fw | apply State.setLane_fw
    | refine fun _ => ?_
    | (first | with_reducible exact Nat.le_trans hT (by decide) | (left; (try unfold laneKey); (try split) <;> simp only [regKey] <;> omega) | ((try unfold laneKey); (try split) <;> simp only [regKey] <;> omega) | omega | decide)

theorem eyeStartEffect_fw {z : State} {T : Nat} (hT : T ≤ 0x100000) (n v : Nat) (s : State) (hs : Fw T z s) : Fw T z (eyeStartEffect n v s).st := by
  unfold eyeStartEffect
  repeat' first
    | with_reducible first | assumption | apply Fw.ite | apply Fw.ite_st | apply Fw.done | apply Fw.fail | apply Res.done_fw | apply Res.fail_fw | apply State.drew_fw | apply State.setLane_fw
    | refine fun _ => ?_
    | (first | with_reducible exact Nat.le_trans hT (by decide) | (left; (try unfold laneKey); (try split) <;> simp only [regKey] <;> omega) | ((try unfold laneKey); (try split) <;> simp only [regKey] <;> omega) | omega | decide)

theorem State.withdrawWhere_fw {z : State} {T : Nat} (hT : T ≤ 0x300000) (s : State) (f : Nat → Bool) (hs : Fw T z s) : Fw T z (State.withdrawWhere s f) := by
  unfold State.withdrawWhere
  repeat' first
    | with_reducible first | assumption | apply Fw.ite | apply State.forAll_fw | apply State.drained_fw | apply State.refreshResvTotals_fw | apply State.withdraw_fw
    | refine fun _ => ?_
    | ((try lift_lets); intro u; first | (refine Fw.cut (T := T) (z := z) u ?_ ?_; (subst u); rotate_left; clear_value u; intro _) | (refine Fw.cut (T := T) (z := z) u.st ?_ ?_; (subst u); rotate_left; clear_value u; intro _) | (refine Fw.cut (T := T) (z := z) u.1 ?_ ?_; (subst u); rotate_left; clear_value u; intro _) | ((have _ := fun x => u x); subst u) | clear_value u)
    | dsimp only
    | (first | with_reducible exact Nat.le_trans hT (by decide) | (left; (try unfold laneKey); (try split) <;> simp only [regKey] <;> omega) | ((try unfold laneKey); (try split) <;> simp only [regKey] <;> omega) | omega | decide)

theorem State.setForm_fw {z : State} {T : Nat} (hT : T ≤ 0x140000) (s : State) (p : Nat) (form : Option (Nat × Nat)) (fec25 : Bool) (hs : Fw T z s) : Fw T z (State.setForm s p form fec25) := by
  unfold State.setForm
  repeat' first
    | with_reducible first | assumption | apply Fw.ite | apply State.setReg_fw | apply State.setTab_fw
    | refine fun _ => ?_
    | ((try lift_lets); intro u; first | (refine Fw.cut (T := T) (z := z) u ?_ ?_; (subst u); rotate_left; clear_value u; intro _) | (refine Fw.cut (T := T) (z := z) u.st ?_ ?_; (subst u); rotate_left; clear_value u; intro _) | (refine Fw.cut (T := T) (z := z) u.1 ?_ ?_; (subst u); rotate_left; clear_value u; intro _) | ((have _ := fun x => u x); subst u) | clear_value u)
    | dsimp only
    | (with_reducible apply Fw.fst; assumption)
    | split
    | (first | with_reducible exact Nat.le_trans hT (by decide) | (left; (try unfold laneKey); (try split) <;> simp only [Reg.PORT.DALZAN_STATE, Reg.PORT.FEC_MODE, Reg.PORT.KIND, Reg.PORT.PORT_SPEED, Reg.PORT.WIDTH, regKey] <;> omega) | ((try unfold laneKey); (try split) <;> simp only [Reg.PORT.DALZAN_STATE, Reg.PORT.FEC_MODE, Reg.PORT.KIND, Reg.PORT.PORT_SPEED, Reg.PORT.WIDTH, regKey] <;> omega) | omega | decide)

theorem State.reconfigure_fw {z : State} {T : Nat} (hT : T ≤ 0x100000) (s : State) (o : Nat) (val : Nat → Nat) (hs : Fw T z s) : Fw T z (State.reconfigure s o val) := by
  unfold State.reconfigure
  repeat' first
    | with_reducible first | assumption | apply Fw.ite | apply State.forAll_fw | apply State.cutArrivals_fw | apply State.endCopies_fw | apply State.laneRestart_fw | apply State.laneTo_fw | apply State.reclaimLost_fw | apply State.refreshLink_fw | apply State.refreshPartner_fw | apply State.setForm_fw | apply State.setLane_fw | apply State.setLink_fw | apply State.setTab_fw | apply State.withdrawWhere_fw
    | refine fun _ => ?_
    | ((try lift_lets); intro u; first | (refine Fw.cut (T := T) (z := z) u ?_ ?_; (subst u); rotate_left; clear_value u; intro _) | (refine Fw.cut (T := T) (z := z) u.st ?_ ?_; (subst u); rotate_left; clear_value u; intro _) | (refine Fw.cut (T := T) (z := z) u.1 ?_ ?_; (subst u); rotate_left; clear_value u; intro _) | ((have _ := fun x => u x); subst u) | clear_value u)
    | dsimp only
    | (with_reducible apply Fw.fst; assumption)
    | split
    | (first | with_reducible exact Nat.le_trans hT (by decide) | (left; (try unfold laneKey); (try split) <;> simp only [regKey] <;> omega) | ((try unfold laneKey); (try split) <;> simp only [regKey] <;> omega) | omega | decide)

theorem octetApplyEffect_fw {z : State} {T : Nat} (hT : T ≤ 0x100000) (o v : Nat) (s : State) (hs : Fw T z s) : Fw T z (octetApplyEffect o v s).st := by
  unfold octetApplyEffect
  repeat' first
    | with_reducible first | assumption | apply Fw.ite | apply Fw.ite_st | apply Fw.done | apply Fw.fail | apply Res.done_fw | apply Res.fail_fw | apply State.bump_fw | apply State.reconfigure_fw
    | refine fun _ => ?_
    | (first | with_reducible exact Nat.le_trans hT (by decide) | (left; (try unfold laneKey); (try split) <;> simp only [regKey] <;> omega) | ((try unfold laneKey); (try split) <;> simp only [regKey] <;> omega) | omega | decide)

end Sys2Proof.Machine
end

