-- ==== Sys2Proof/Laws/Lanes.lean ====
section
/-!
SUPPORT. Lanes: their registers, and what a change of a lane's state does (R153 to R159).
-/
namespace Sys2Proof.Machine

theorem laneKey_inj (n a b : Nat) : laneKey n a = laneKey n b ↔ a = b := by
  unfold laneKey; split <;> simp only [regKey] <;> omega
theorem laneKey_inj_add (n a b c : Nat) : laneKey n a = laneKey n b + c ↔ a = b + c := by
  unfold laneKey; split <;> simp only [regKey] <;> omega

theorem laneKey_lt (n : LaneNo) (a : Nat) (h : a < 256) : laneKey n a < 0x140000 := by
  have := n.isLt
  unfold laneKey; split <;> simp only [regKey] <;> omega

theorem quietReg_of_mid {k : Nat} (h1 : 0x100000 ≤ k) (h2 : k < 0xA00000) : quietReg k = true := by
  rw [quietReg_iff]; omega
theorem faultReg_of_mid {k : Nat} (h1 : 0x100000 ≤ k) : faultReg k = false := by
  unfold faultReg
  simp only [Bool.or_eq_false_iff, beq_eq_false_iff_ne, ne_eq, Reg.STARTUP.DEGRADED_CAUSES, Reg.DEVICE_STATUS.MODE, Reg.DEVICE_STATUS.MODE_CHANGES,
    Reg.DEVICE_STATUS.LAST_MODE_CHANGE, Reg.DEVICE_STATUS.LAST_TIME_KIND, Reg.STARTUP.EVENTS, Reg.FAULT_LOG.LOG_HEAD, Reg.FAULT_LOG.PERSISTED_HEAD]
  omega

theorem quietReg_laneKey (n : LaneNo) (a : Nat) (h : a < 256) : quietReg (laneKey n a) = true :=
  quietReg_of_mid (laneKey_ge _ _) (Nat.lt_trans (laneKey_lt _ _ h) (by decide))

/-- Forwarding leaves the registers of every lane as they were. -/
theorem Fwd.lane {s t : State} (h : Fwd 0x140000 s t) (n : LaneNo) (a : Nat) (ha : a < 256) : t.lane n a = s.lane n a :=
  h.regs _ (laneKey_lt _ _ ha) (quietReg_laneKey _ _ ha) (faultReg_of_mid (laneKey_ge _ _))

theorem State.reg_laneEvent (s : State) (n : LaneNo) (i a : Nat) (ha : a < 256) (h1 : a ≠ 0x2F) (h2 : a ≠ 0x2F + (1 + i)) :
    (s.laneEvent n i).reg (laneKey n a) = s.reg (laneKey n a) := by
  unfold State.laneEvent
  refine State.reg_event_other _ _ _ _ _ (quietReg_laneKey _ _ ha) ?_ ?_
  · rw [ne_eq, laneKey_inj]; exact h1
  · rw [ne_eq, Nat.add_assoc, laneKey_inj_add]; exact h2
theorem State.reg_laneEvent_flag (s : State) (n : LaneNo) (i : Nat) :
    (s.laneEvent n i).reg (laneKey n 0x2F) = setBit (s.reg (laneKey n 0x2F)) i true :=
  State.reg_event_flag _ _ _ _ (quietReg_laneKey _ _ (by decide))

/-- A change of state that neither enters nor leaves DATA, TEST or OFF touches the lane's state and the forced training. -/
theorem State.laneTo_plain {s : State} {n st : Nat} {b : Bool} (h6 : s.laneState n ≠ 6) (h8 : s.laneState n ≠ 8) (g6 : st ≠ 6) (g0 : st ≠ 0)
    (hne : s.laneState n ≠ st) :
    s.laneTo n st b = (s.setLane n 0x01 st).when (st != 2) (·.setTab Tab.laneForce n 0) := by
  unfold State.laneTo
  simp [hne, h6, h8, g6, g0, State.when]

/-- What a change of a lane's state touches before its port follows: what leaving TEST counts, and the flag of leaving DATA, among them. -/
abbrev laneRegs (n : Nat) : List Nat :=
  [laneKey n 0x01, laneKey n 0x13, laneKey n 0x1F, laneKey n 0x20, laneKey n 0x21, laneKey n 0x24, laneKey n 0x25, laneKey n 0x26, laneKey n 0x27,
    laneKey n 0x2F, laneKey n 0x2F + 1 + 3]

theorem Only.setLane {R T : List Nat} (s : State) (n a v : Nat) (h : laneKey n a ∈ R) : Only R T s (s.setLane n a v) := Only.setReg _ _ _ (.inl h)

theorem State.stopEye_only (s : State) (n : Nat) : Only (laneRegs n) [Tab.laneForce] { s with freeCtr := (s.stopEye n).freeCtr } (s.stopEye n) := by
  unfold State.stopEye
  split
  · exact Only.refl _
  · dsimp only
    refine Only.trans (t := s.drew) ?_ ?_
    · exact Only.refl _
    · exact (((Only.setLane _ _ _ _ (by simp)).trans (Only.setLane _ _ _ _ (by simp))).trans (Only.setLane _ _ _ _ (by simp))).trans
        (Only.setLane _ _ _ _ (by simp))

theorem State.reg_when (s : State) (c : Bool) (f : State → State) (k : Nat) : (s.when c f).reg k = if c then (f s).reg k else s.reg k := by
  unfold State.when; split <;> rfl

theorem State.reg_stopEye (s : State) (n k : Nat) (h : k ≠ laneKey n 0x24 ∧ k ≠ laneKey n 0x25 ∧ k ≠ laneKey n 0x26 ∧ k ≠ laneKey n 0x27) :
    (s.stopEye n).reg k = s.reg k := by
  unfold State.stopEye State.setLane
  split
  · rfl
  · simp [State.reg_setReg, h]

theorem State.endCheck_only (s : State) (n : Nat) : Only (laneRegs n) [Tab.laneForce] { s with freeCtr := (s.endCheck n).freeCtr } (s.endCheck n) := by
  unfold State.endCheck
  split
  · exact Only.refl _
  · dsimp only
    refine Only.trans (t := s.drew.drew) ?_ ?_
    · exact Only.refl _
    · exact ((Only.bump _ _ _ _ (.inl (by simp))).trans (Only.bump _ _ _ _ (.inl (by simp)))).trans (Only.setLane _ _ _ _ (by simp))

theorem Only.laneEvent {R T : List Nat} (s : State) (n i : Nat) (h1 : laneKey n 0x2F ∈ R) (h2 : laneKey n 0x2F + 1 + i ∈ R) :
    Only R T s (s.laneEvent n i) := Only.event _ _ _ _ (.inl h1) (.inl h2)

/-- Free values drawn apart, two frames follow one another. -/
theorem Only.drawn {R T : List Nat} {s t u : State} (h : Only R T { s with freeCtr := t.freeCtr } t) (g : Only R T { t with freeCtr := u.freeCtr } u) :
    Only R T { s with freeCtr := u.freeCtr } u := by
  refine Only.trans (t := ({ t with freeCtr := u.freeCtr } : State)) ?_ g
  exact { h with freeCtr := rfl }

/-- What a change of state does to the lane before its state is written: an eye scan and a checker that run stop, and RETRAIN_STARTED is
set where DATA is left (R155, R161, R162, R166). -/
def State.laneStops (s : State) (n : Nat) : State :=
  ((s.when (s.laneState n == 6 || s.laneState n == 8) (·.stopEye n)).when (s.laneState n == 8) (·.endCheck n)).when (s.laneState n == 6)
    (·.laneEvent n 3)

theorem State.laneStops_only (s : State) (n : Nat) : Only (laneRegs n) [Tab.laneForce] { s with freeCtr := (s.laneStops n).freeCtr } (s.laneStops n) := by
  have h1 : ∀ (u : State) (c : Bool), Only (laneRegs n) [Tab.laneForce] { u with freeCtr := (u.when c (·.stopEye n)).freeCtr } (u.when c (·.stopEye n)) := by
    intro u c; unfold State.when; split
    · exact State.stopEye_only _ _
    · exact Only.refl _
  have h2 : ∀ (u : State) (c : Bool), Only (laneRegs n) [Tab.laneForce] { u with freeCtr := (u.when c (·.endCheck n)).freeCtr } (u.when c (·.endCheck n)) := by
    intro u c; unfold State.when; split
    · exact State.endCheck_only _ _
    · exact Only.refl _
  have h3 : ∀ (u : State) (c : Bool), Only (laneRegs n) [Tab.laneForce] { u with freeCtr := (u.when c (·.laneEvent n 3)).freeCtr } (u.when c (·.laneEvent n 3)) := by
    intro u c
    have h := Only.when (R := laneRegs n) (T := [Tab.laneForce]) u c (·.laneEvent n 3) fun _ => Only.laneEvent _ _ _ (by simp) (by simp)
    rw [h.freeCtr]; exact h
  exact Only.drawn (Only.drawn (h1 _ _) (h2 _ _)) (h3 _ _)

theorem State.laneStops_idle {s : State} {n : Nat} (h6 : s.laneState n ≠ 6) (h8 : s.laneState n ≠ 8) : s.laneStops n = s := by
  unfold State.laneStops State.when; simp [h6, h8]

theorem State.laneStops_data {s : State} {n : Nat} (h6 : s.laneState n = 6) : s.laneStops n = (s.stopEye n).laneEvent n 3 := by
  unfold State.laneStops State.when; simp [h6]

theorem State.laneStops_test {s : State} {n : Nat} (h8 : s.laneState n = 8) : s.laneStops n = (s.stopEye n).endCheck n := by
  unfold State.laneStops State.when; simp [h8]

/-- Every change of state of a lane: its own registers, then what follows on its port. -/
theorem State.laneTo_forward (s : State) (n : LaneNo) (st : Nat) (b : Bool) :
    ∃ u, Only (laneRegs n) [Tab.laneForce] { s with freeCtr := u.freeCtr } u ∧ Fwd 0x140000 u (s.laneTo n st b)
      ∧ u.laneState n = st
      ∧ (s.laneState n ≠ st → (st ≠ 0 → u.lane n 0x13 = (s.laneStops n).lane n 0x13) ∧ u.freeCtr = (s.laneStops n).freeCtr
        ∧ ∀ a, a ≠ 0x01 → a ≠ 0x13 → u.lane n a = (s.laneStops n).lane n a)
      ∧ (s.laneState n = st → u = s) := by
  by_cases he : s.laneState n = st
  · refine ⟨s, Only.refl _, ?_, he, fun h => absurd he h, fun _ => rfl⟩
    unfold State.laneTo; rw [if_pos he]; exact Fwd.refl _
  · let s2 := (s.laneStops n).setLane n 0x01 st
    let s3 := s2.when (st != 2) (·.setTab Tab.laneForce n 0)
    let s4 := s3.when (st == 0) (·.setLane n 0x13 0)
    have h2 : Only (laneRegs n) [Tab.laneForce] (s.laneStops n) s2 := Only.setLane _ _ _ _ (by simp)
    have h3 : Only (laneRegs n) [Tab.laneForce] s2 s3 := Only.when _ _ _ fun _ => Only.setTab _ _ _ _ (by omega) (.inl (by simp))
    have h4 : Only (laneRegs n) [Tab.laneForce] s3 s4 := Only.when _ _ _ fun _ => Only.setLane _ _ _ _ (by simp)
    have h14 := (h2.trans h3).trans h4
    refine ⟨s4, ?_, ?_, ?_, fun _ => ⟨?_, h14.freeCtr, ?_⟩, fun h => absurd h he⟩
    · rw [h14.freeCtr]; exact (State.laneStops_only s n).trans h14
    · show Fwd _ s4 (s.laneTo n st b)
      unfold State.laneTo; rw [if_neg he]
      exact State.when_fw (Fwd.refl s4) fun u hu => State.portFollows_fw (by decide) _ _ _ _ hu
    · show (State.when (State.when _ _ _) _ _).reg _ = st
      simp only [s2, State.reg_when, State.setLane, State.reg_setReg, State.reg_setTab, laneKey_inj]
      repeat' split
      all_goals first | rfl | simp_all
    · intro h0
      show (State.when (State.when _ _ _) _ _).reg _ = (s.laneStops n).reg _
      simp only [s2, State.reg_when, State.setLane, State.reg_setReg, State.reg_setTab, laneKey_inj]
      simp [h0]
    · intro a a1 a2
      show (State.when (State.when _ _ _) _ _).reg _ = (s.laneStops n).reg _
      simp only [s2, State.reg_when, State.setLane, State.reg_setReg, State.reg_setTab, laneKey_inj]
      simp [a1, a2]

end Sys2Proof.Machine
end

