-- ==== Sys2Proof/Machine/LineCode.lean ====
section
/-!
DEFINITION. Line coding (R142, R179): the scrambler, Gray mapping and precoding of a lane, the alignment blocks of mode 5 and the blocks
of a frame on a Dalzan link. No command moves single blocks, so State holds none of them in flight: these are the functions that every
block and symbol between the PCS and the balls goes through (log entry 73).
-/
namespace Sys2Proof.Machine

/-! ### The scrambler (R142) -/

/-- The taps of x^58 + x^39 + 1 on the last 58 scrambled bits, the latest at bit 0. -/
def scrambleTap (reg : Nat) : Bool := bit reg 38 ^^ bit reg 57

/-- One scrambled bit enters the register. -/
def scrambleShift (reg : Nat) (b : Bool) : Nat := (reg * 2 + ofBool b) % 2 ^ 58

/-- The payload bits scrambled, in the order of transmission, and the register after them. -/
def scramble : Nat → List Bool → List Bool × Nat
  | reg, [] => ([], reg)
  | reg, b :: l =>
    let c := b ^^ scrambleTap reg
    let (out, reg) := scramble (scrambleShift reg c) l
    (c :: out, reg)

/-- The receiver's descrambler, whose register holds the last 58 received bits. -/
def descramble : Nat → List Bool → List Bool × Nat
  | reg, [] => ([], reg)
  | reg, c :: l =>
    let (out, reg') := descramble (scrambleShift reg c) l
    ((c ^^ scrambleTap reg) :: out, reg')

/-! ### PAM4 symbols (R142) -/

/-- A bit pair, first bit first, as a level in Gray code. -/
def grayLevel (a b : Bool) : Fin 4 :=
  match a, b with | false, false => 0 | false, true => 1 | true, true => 2 | true, false => 3

/-- The bit pair of a level. -/
def grayBits (l : Fin 4) : Bool × Bool :=
  match l with | 0 => (false, false) | 1 => (false, true) | 2 => (true, true) | 3 => (true, false)

/-- Levels of a run of bits, two bits each; an odd last bit waits for its pair. -/
def grayLevels : List Bool → List (Fin 4)
  | a :: b :: l => grayLevel a b :: grayLevels l
  | _ => []

/-- The bits of a run of levels. -/
def grayBitsOf (l : List (Fin 4)) : List Bool := l.flatMap (fun x => [(grayBits x).1, (grayBits x).2])

/-- 1/(1+D) mod 4 precoding after symbol `prev`: each symbol sent and the one before it sum to the level. -/
def precode : Fin 4 → List (Fin 4) → List (Fin 4)
  | _, [] => []
  | prev, g :: l => (g - prev) :: precode (g - prev) l

/-- The receiver's inverse, 1 + D. -/
def unprecode : Fin 4 → List (Fin 4) → List (Fin 4)
  | _, [] => []
  | prev, p :: l => (p + prev) :: unprecode p l

/-- The levels that the transmitter of PAM4 lane `n` sends for a run of coded bits: precoded in mode 4 where training negotiated it, and
never otherwise. -/
def State.pam4Levels (s : State) (n : Nat) (prev : Fin 4) (bits : List Bool) : List (Fin 4) :=
  if s.lane n 0x02 = 4 ∧ s.tab Tab.precoded n = 1 then precode prev (grayLevels bits) else grayLevels bits

/-- The bits that its receiver makes of them. -/
def State.pam4Bits (s : State) (n : Nat) (prev : Fin 4) (levels : List (Fin 4)) : List Bool :=
  grayBitsOf (if s.lane n 0x02 = 4 ∧ s.tab Tab.precoded n = 1 then unprecode prev levels else levels)

/-! ### Direct mode (R142, R179) -/

/-- A 66-bit block of a lane in mode 5. -/
inductive LineBlock where
  /-- A data block's payload. -/
  | data (payload : Bytes)
  /-- A start block, type 0x78, with the first seven octets of a frame. -/
  | start (octets : Bytes)
  /-- A terminate block with the octets of a frame that are left, fewer than eight. -/
  | terminate (octets : Bytes)
  /-- Idle between frames. -/
  | idle
  /-- A Dalzan control block. -/
  | control (octets : Bytes)
  /-- An alignment block of the lane. -/
  | align (lane : Nat)
deriving DecidableEq, Repr

/-- The block type octet of a start block. -/
abbrev startType : Nat := 0x78

/-- The octets of a frame after its first seven, in data blocks, and what is left in a terminate block; `fuel` bounds the blocks. -/
def frameBlocks : Nat → Bytes → List LineBlock
  | 0, b => [.terminate b]
  | n + 1, b => if b.length < 8 then [.terminate b] else .data (b.take 8) :: frameBlocks n (b.drop 8)

/-- A frame on a Dalzan link: no preamble and no delimiter. -/
def directFrame (b : Bytes) : List LineBlock := .start (b.take 7) :: frameBlocks b.length (b.drop 7)

/-- The frame octets that the receiver takes from a run of blocks: control and alignment blocks are removed from within it. -/
def frameOctets (l : List LineBlock) : Bytes :=
  l.flatMap (fun x => match x with | .data b => b | .start b => b | .terminate b => b | _ => [])

/-- Alignment blocks in a lane's run of blocks: one after every 16,384 data blocks. `since`: the blocks since the last one. -/
def insertAlign (lane : Nat) : Nat → List LineBlock → List LineBlock
  | _, [] => []
  | since, b :: l => if since + 1 = 16384 then b :: .align lane :: insertAlign lane 0 l else b :: insertAlign lane (since + 1) l

/-- The lane number that a received run of blocks carries. -/
def alignedLane (l : List LineBlock) : Option Nat := l.findSome? (fun x => match x with | .align n => some n | _ => none)

/-- The receiver orders the lanes of a Dalzan link by the lane numbers in their alignment blocks: the run of blocks of lane `n`. -/
def orderedLane (lanes : List (List LineBlock)) (n : Nat) : Option (List LineBlock) := lanes.find? (fun l => alignedLane l == some n)

/-- The run of blocks without its alignment blocks. -/
def withoutAlign (l : List LineBlock) : List LineBlock := l.filter (fun x => match x with | .align _ => false | _ => true)

end Sys2Proof.Machine
end

