-- ==== Sys2Proof/Laws/LineCode.lean ====
section
/-!
SUPPORT. What the line coding gives back: the receiver's half of each function undoes the transmitter's.
-/
namespace Sys2Proof.Machine

/-- A receiver in step with the transmitter descrambles what it scrambled. -/
theorem descramble_scramble (reg : Nat) (l : List Bool) : (descramble reg (scramble reg l).1).1 = l := by
  induction l generalizing reg with
  | nil => rfl
  | cons b l ih =>
    show _ :: _ = b :: l
    rw [ih]
    cases b <;> cases scrambleTap reg <;> rfl

/-- 1 + D undoes the precoding. -/
theorem unprecode_precode (prev : Fin 4) (l : List (Fin 4)) : unprecode prev (precode prev l) = l := by
  induction l generalizing prev with
  | nil => rfl
  | cons g l ih =>
    show (g - prev + prev) :: unprecode (g - prev) (precode (g - prev) l) = g :: l
    rw [ih, (by decide : ∀ x y : Fin 4, x - y + y = x) g prev]

/-- The levels of whole bit pairs give back the bits. -/
theorem grayBitsOf_grayLevels : ∀ l : List Bool, l.length % 2 = 0 → grayBitsOf (grayLevels l) = l
  | [], _ => rfl
  | [_], h => absurd h (fun h => by cases h)
  | a :: b :: l, h => by
    have e := grayBitsOf_grayLevels l (by simp only [List.length_cons] at h; omega)
    simp only [grayBitsOf] at e
    simp only [grayBitsOf, grayLevels, List.flatMap_cons, e]
    cases a <;> cases b <;> rfl

/-- A run of alignment blocks inserted and removed again is the run. -/
theorem withoutAlign_insertAlign (lane since : Nat) (l : List LineBlock) (h : ∀ b ∈ l, ∀ n, b ≠ .align n) :
    withoutAlign (insertAlign lane since l) = l := by
  induction l generalizing since with
  | nil => rfl
  | cons b l ih =>
    have e := fun k => ih k (fun x hx => h x (List.mem_cons_of_mem b hx))
    have hb := h b (List.mem_cons_self ..)
    simp only [withoutAlign] at e
    simp only [insertAlign]
    split <;> (cases b <;> simp_all [withoutAlign])

end Sys2Proof.Machine
end

