-- ==== Sys2Proof/Laws/Links.lean ====
section
/-!
SUPPORT. Ports: what a change of LINK_STATE does (R174, R175).
-/
namespace Sys2Proof.Machine

/-- LINK_STATE, its count and its stamp, before events and reservations follow. -/
def State.linked (s : State) (p v : Nat) : State :=
  ((s.setReg (Reg.PORT.LINK_STATE p) v).bump (Reg.PORT.LINK_CHANGES p) 32).setReg (Reg.PORT.LAST_CHANGE p)
    s.stamp

theorem State.setLink_eq (s : State) (p v : Nat) (b : Bool) :
    s.setLink p v b = if s.reg (Reg.PORT.LINK_STATE p) = v then s
      else if v = 3 then ((s.linked p v).event (Reg.PORT.EVENTS p) 0 (0x0400 + p)).refreshResvs
      else if s.reg (Reg.PORT.LINK_STATE p) = 3 then (((s.linked p v).event (Reg.PORT.EVENTS p) 1 (0x0400 + p)).portLeavesUp p b).refreshResvs
      else s.linked p v := by
  unfold State.setLink State.linked; dsimp only

/-- The registers of a port that a change of its link writes. -/
abbrev linkRegs (p : Nat) : List Nat := [Reg.PORT.LINK_STATE p, Reg.PORT.LINK_CHANGES p, Reg.PORT.LAST_CHANGE p]

theorem State.linked_only {R T : List Nat} (s : State) (p v : Nat) (h : ∀ k ∈ linkRegs p, k ∈ R) : Only R T s (s.linked p v) :=
  ((Only.setReg _ _ _ (.inl (h _ (by simp)))).trans (Only.bump _ _ _ _ (.inl (h _ (by simp))))).trans (Only.setReg _ _ _ (.inl (h _ (by simp))))

theorem State.linked_state (s : State) (p v : Nat) : (s.linked p v).reg (Reg.PORT.LINK_STATE p) = v := by
  unfold State.linked; simp [State.reg_setReg, State.reg_bump]

/-- A change of LINK_STATE: the port's link registers and events, then what follows the link. -/
theorem State.setLink_forward (s : State) (p v : Nat) (b : Bool) (hp : p < 643) :
    ∃ u, Only (Reg.PORT.EVENTS p :: (Reg.PORT.EVENTS p + 1) :: (Reg.PORT.EVENTS p + 2) :: linkRegs p) [] s u ∧ Fwd 0x300000 u (s.setLink p v b)
      ∧ u.reg (Reg.PORT.LINK_STATE p) = v
      ∧ (v ≠ 3 → (∀ k ∈ [Reg.PORT.EVENTS p + 1], u.reg k = s.reg k)
          ∧ ∀ i, i ≠ 1 → bit (u.reg (Reg.PORT.EVENTS p)) i = bit (s.reg (Reg.PORT.EVENTS p)) i) := by
  have he : Reg.PORT.EVENTS p ≠ Reg.PORT.LINK_STATE p ∧ Reg.PORT.EVENTS p ≠ Reg.PORT.LINK_CHANGES p ∧ Reg.PORT.EVENTS p ≠ Reg.PORT.LAST_CHANGE p := by
    unfold Reg.PORT.EVENTS Reg.PORT.LINK_STATE Reg.PORT.LINK_CHANGES Reg.PORT.LAST_CHANGE; omega
  have he' : Reg.PORT.EVENTS p + 1 ≠ Reg.PORT.LINK_STATE p ∧ Reg.PORT.EVENTS p + 1 ≠ Reg.PORT.LINK_CHANGES p ∧ Reg.PORT.EVENTS p + 1 ≠ Reg.PORT.LAST_CHANGE p := by
    unfold Reg.PORT.EVENTS Reg.PORT.LINK_STATE Reg.PORT.LINK_CHANGES Reg.PORT.LAST_CHANGE
    generalize (0x1400 + p) * 256 = x; omega
  have hl : Reg.PORT.LINK_STATE p ≠ Reg.PORT.EVENTS p + 1 + 0 ∧ Reg.PORT.LINK_STATE p ≠ Reg.PORT.EVENTS p + 1 + 1 := by
    unfold Reg.PORT.EVENTS Reg.PORT.LINK_STATE
    generalize (0x1400 + p) * 256 = x; omega
  have q1 : quietReg (Reg.PORT.LINK_STATE p) = true :=
    quietReg_of_mid (by unfold Reg.PORT.LINK_STATE; omega) (by unfold Reg.PORT.LINK_STATE; omega)
  have q2 : quietReg (Reg.PORT.EVENTS p) = true := quietReg_of_mid (by unfold Reg.PORT.EVENTS; omega) (by unfold Reg.PORT.EVENTS; omega)
  have q3 : quietReg (Reg.PORT.EVENTS p + 1) = true := quietReg_of_mid (by unfold Reg.PORT.EVENTS; omega) (by unfold Reg.PORT.EVENTS; omega)
  have hL := State.linked_only (R := Reg.PORT.EVENTS p :: (Reg.PORT.EVENTS p + 1) :: (Reg.PORT.EVENTS p + 2) :: linkRegs p) (T := []) s p v (by simp)
  have hev : ∀ k, k = Reg.PORT.EVENTS p ∨ k = Reg.PORT.EVENTS p + 1 → (s.linked p v).reg k = s.reg k := by
    rintro k (rfl | rfl)
    · unfold State.linked; simp only [State.reg_setReg, State.reg_bump, he.1, he.2.1, he.2.2, if_false]
    · unfold State.linked; simp only [State.reg_setReg, State.reg_bump, he'.1, he'.2.1, he'.2.2, if_false]
  rw [State.setLink_eq]
  by_cases h1 : s.reg (Reg.PORT.LINK_STATE p) = v
  · rw [if_pos h1]
    refine ⟨s, Only.refl _, Fwd.refl _, h1, ?_⟩
    intro _
    refine ⟨?_, ?_⟩
    · intro _ _; rfl
    · intro _ _; rfl
  · rw [if_neg h1]
    by_cases h2 : v = 3
    · refine ⟨(s.linked p v).event (Reg.PORT.EVENTS p) 0 (0x0400 + p), ?_, ?_, ?_, ?_⟩
      · exact hL.trans (Only.event _ _ _ _ (.inl (by simp)) (.inl (by simp)))
      · rw [if_pos h2]; exact State.refreshResvs_fw (by decide) _ (Fwd.refl _)
      · rw [State.reg_event_other _ _ _ _ _ q1 (Ne.symm he.1) hl.1]; exact State.linked_state _ _ _
      · intro h; exact absurd h2 h
    · rw [if_neg h2]
      by_cases h3 : s.reg (Reg.PORT.LINK_STATE p) = 3
      · refine ⟨(s.linked p v).event (Reg.PORT.EVENTS p) 1 (0x0400 + p), ?_, ?_, ?_, fun _ => ⟨?_, ?_⟩⟩
        · exact hL.trans (Only.event _ _ _ _ (.inl (by simp)) (.inl (by simp)))
        · rw [if_pos h3]; exact State.refreshResvs_fw (by decide) _ (State.portLeavesUp_fw (by decide) _ _ _ (Fwd.refl _))
        · rw [State.reg_event_other _ _ _ _ _ q1 (Ne.symm he.1) hl.2]; exact State.linked_state _ _ _
        · intro k hk
          simp only [List.mem_singleton] at hk; subst hk
          rw [State.reg_event_other _ _ _ _ _ q3 (by omega) (by omega)]; exact hev _ (Or.inr (Eq.refl _))
        · intro i hi
          rw [State.reg_event_flag _ _ _ _ q2, bit_setBit_other _ _ hi, hev _ (Or.inl (Eq.refl _))]
      · refine ⟨s.linked p v, hL, by rw [if_neg h3]; exact Fwd.refl _, State.linked_state _ _ _, fun _ => ⟨?_, ?_⟩⟩
        · intro k hk
          simp only [List.mem_singleton] at hk; subst hk; exact hev _ (Or.inr (Eq.refl _))
        · intro i _; rw [hev _ (Or.inl (Eq.refl _))]

theorem Fwd.port {s t : State} (h : Fwd 0x300000 s t) {k : Nat} (h1 : 0x100000 ≤ k) (h2 : k < 0x300000) : t.reg k = s.reg k :=
  h.regs _ h2 (quietReg_of_mid h1 (by omega)) (faultReg_of_mid h1)

theorem State.reg_delivered (s : State) {k : Nat} (h1 : 0x100000 ≤ k) (h2 : k < 0xA00000) : (State.deliverDue s).reg k = s.reg k :=
  State.reg_deliverDue _ (quietReg_of_mid h1 h2)

/-! What LINK_STATE is computed from. -/

theorem State.lanesUp_congr {s t : State} {p : Nat} (hk : t.reg (Reg.PORT.KIND p) = s.reg (Reg.PORT.KIND p))
    (hw : t.reg (Reg.PORT.WIDTH p) = s.reg (Reg.PORT.WIDTH p)) (hl : ∀ n, t.reg (laneKey n 0x01) = s.reg (laneKey n 0x01)) :
    t.lanesUp p = s.lanesUp p := by
  unfold State.lanesUp State.lanesOf State.portKind State.laneState; simp only [hk, hw, hl]

theorem State.linkDisabled_congr {s t : State} {p : Nat} (hk : t.reg (Reg.PORT.KIND p) = s.reg (Reg.PORT.KIND p))
    (ha : t.reg (Reg.PORT.ADMIN_ENABLE p) = s.reg (Reg.PORT.ADMIN_ENABLE p)) (hp : t.reg (Reg.PORT.PARTITION p) = s.reg (Reg.PORT.PARTITION p))
    (hf : t.fences = s.fences) : t.linkDisabled p = s.linkDisabled p := by
  unfold State.linkDisabled State.fenced State.partHolder State.portPart State.isFenced State.portKind; simp only [hk, ha, hp, hf]
  rfl

end Sys2Proof.Machine
end

