-- ==== Sys2Proof/Laws/Path.lean ====
section
/-!
SUPPORT. Which operations of the path of frames leave the copies, and which leave the frames, as they are.
-/
namespace Sys2Proof.Machine

set_option linter.unusedSimpArgs false

/-- `s` has the copies of `z`. -/
structure Kc (z s : State) : Prop where
  eq : s.copies = z.copies
theorem Kc.upd {z s : State} {attn : Attention} {zdp : Zdp} {frames : List Frame} {nextFrame : Nat} {nextCopy : Nat} {drr : SMap (List Nat)} {fences : List Fence} {oldResv : List OldResv} {oldBounds : List OldBound} {handoffs : List Handoff} {built : List Built} {postcards : SMap (List Nat)} {out : List Out} {tap : Tap} {freeCtr : Nat}
    (h : Kc z s) : Kc z ⟨s.regs, s.tabs, s.mem, attn, zdp, s.stagings, s.clock, frames, s.copies, nextFrame, nextCopy, drr, fences, oldResv, oldBounds, s.gates, handoffs, built, s.inactive, postcards, out, tap, freeCtr, s.pending⟩ := ⟨h.eq⟩
theorem Kc.ite {z a b : State} {c : Prop} [Decidable c] (ha : c → Kc z a) (hb : ¬c → Kc z b) : Kc z (if c then a else b) := by
  split
  · exact ha ‹_›
  · exact hb ‹_›
theorem Kc.ite_fst {α : Type} {z : State} {a b : State × α} {c : Prop} [Decidable c] (ha : c → Kc z a.1)
    (hb : ¬c → Kc z b.1) : Kc z (if c then a else b).1 := by
  split
  · exact ha ‹_›
  · exact hb ‹_›
theorem Kc.id {z s : State} (h : Kc z s) : Kc z (id s) := h
theorem Kc.cut {z : State} {P : Prop} (u : State) (h : Kc z u) (k : Kc z u → P) : P := k h
theorem Kc.fst {α : Type} {z a : State} {b : α} {p : State × α} (e : p = (a, b)) (h : Kc z p.1) : Kc z a := by subst e; exact h
theorem State.when_kc {z s : State} {c : Bool} {f : State → State} (h : Kc z s) (g : ∀ u, Kc z u → Kc z (f u)) : Kc z (s.when c f) := by
  unfold State.when; split
  · exact g s h
  · exact h
theorem State.forAll_kc {α : Type} {z s : State} {l : List α} {f : State → α → State} (h : Kc z s)
    (g : ∀ u a, Kc z u → Kc z (f u a)) : Kc z (s.forAll l f) := by
  induction l generalizing s with
  | nil => exact h
  | cons a l ih => exact ih (g s a h)
theorem State.setReg_kc {z s : State} {k v : Nat} (h : Kc z s) : Kc z (s.setReg k v) := ⟨h.eq⟩
theorem State.bump_kc {z : State} (s : State) (k w n : Nat) (h : Kc z s) : Kc z (s.bump k w n) := ⟨h.eq⟩
theorem State.bumpSat_kc {z : State} (s : State) (k w n : Nat) (h : Kc z s) : Kc z (s.bumpSat k w n) := ⟨h.eq⟩
theorem State.drop_kc {z : State} (s : State) (k n : Nat) (h : Kc z s) : Kc z (s.drop k n) := ⟨h.eq⟩
theorem State.resetReg_kc {z : State} (s : State) (k : Nat) (h : Kc z s) : Kc z (s.resetReg k) := ⟨h.eq⟩
theorem State.setTab_kc {z s : State} {t i v : Nat} (h : Kc z s) : Kc z (s.setTab t i v) := ⟨h.eq⟩
theorem State.clearTabRange_kc {z s : State} {t lo hi : Nat} (h : Kc z s) : Kc z (s.clearTabRange t lo hi) := ⟨h.eq⟩
theorem State.clearTab_kc {z s : State} {t : Nat} (h : Kc z s) : Kc z (s.clearTab t) := ⟨h.eq⟩
theorem State.emit_kc {z s : State} {o : Out} (h : Kc z s) : Kc z (s.emit o) := ⟨h.eq⟩
theorem State.drew_kc {z s : State} (h : Kc z s) : Kc z s.drew := ⟨h.eq⟩
theorem State.trigger_kc {z : State} (s : State) (n : Nat) (h : Kc z s) : Kc z (s.trigger n) :=
  ⟨(Only.trigger (R := []) (T := []) s n).copies.trans h.eq⟩
theorem State.flag_kc {z : State} (s : State) (k i : Nat) (h : Kc z s) : Kc z (s.flag k i) := ⟨h.eq⟩
theorem State.event_kc {z : State} (s : State) (k i n : Nat) (h : Kc z s) : Kc z (s.event k i n) := State.trigger_kc _ _ (State.flag_kc _ _ _ h)
theorem State.deliverDue_kc {z s : State} (h : Kc z s) : Kc z s.deliverDue := ⟨(Only.deliverDue (R := []) (T := []) s).copies.trans h.eq⟩
theorem State.setCause_kc {z : State} (s : State) (i : Nat) (b : Bool) (h : Kc z s) : Kc z (s.setCause i b) :=
  ⟨(Only.setCause (R := modeRegs) (T := []) s i b (by simp) (by simp) (by simp) (by simp) (by simp) (by simp) (by simp)).copies.trans h.eq⟩
theorem State.logFault_kc {z : State} (s : State) (code cls action source part data : Nat) (h : Kc z s) :
    Kc z (s.logFault code cls action source part data) :=
  ⟨(Only.logFault (R := [Reg.FAULT_LOG.LOG_HEAD, Reg.FAULT_LOG.PERSISTED_HEAD]) (T := [Tab.faultLog, Tab.faultPersisted])
    s code cls action source part data (by simp) (by simp) (by simp) (by simp)).copies.trans h.eq⟩
theorem State.setCounter_kc {z : State} (s : State) (n v : Nat) (h : Kc z s) : Kc z (s.setCounter n v) := ⟨h.eq⟩
theorem State.overflowed_kc {z : State} (s : State) (n : Nat) (h : Kc z s) : Kc z (s.overflowed n) := by
  unfold State.overflowed
  exact State.event_kc _ _ _ _ (State.bump_kc _ _ _ _ (State.setTab_kc h))
theorem State.count_kc {z : State} (s : State) (n amt : Nat) (h : Kc z s) : Kc z (s.count n amt) := by
  unfold State.count
  split
  · exact h
  · split
    · dsimp only
      exact State.when_kc (State.setCounter_kc _ _ _ (State.setCounter_kc _ _ _ h)) fun u hu => State.overflowed_kc _ _ hu
    · dsimp only
      exact State.when_kc (State.setCounter_kc _ _ _ h) fun u hu => State.overflowed_kc _ _ hu
theorem State.raiseMark_kc {z : State} (s : State) (k q v : Nat) (h : Kc z s) : Kc z (s.raiseMark k q v) := by
  unfold State.raiseMark; exact State.when_kc h fun _ hu => State.setReg_kc hu

theorem State.freeTag_kc {z : State} (s : State) (code : Nat) (hs : Kc z s) : Kc z (State.freeTag s code) := by
  unfold State.freeTag
  split
  · exact hs
  · split
    · exact Kc.upd hs
    · exact State.when_kc (Kc.upd hs) fun u hu => State.setTab_kc hu

theorem State.replySent_kc {z : State} (s : State) (r : Reply) (hs : Kc z s) : Kc z (State.replySent s r) := by
  unfold State.replySent
  repeat' first
    | with_reducible first | assumption | apply State.when_kc | apply State.setTab_kc
    | refine fun _ => ?_
    | dsimp only

theorem State.fatalFault_kc {z : State} (s : State) (kind code source partition data : Nat) (hs : Kc z s) : Kc z (State.fatalFault s kind code source partition data) := by
  unfold State.fatalFault
  repeat' first
    | with_reducible first | assumption | apply Kc.ite | apply State.logFault_kc | apply State.setCause_kc | apply State.setTab_kc
    | refine fun _ => ?_
    | ((try lift_lets); intro u; first | (refine Kc.cut (z := z) u ?_ ?_; (subst u); rotate_left; clear_value u; intro _) | (refine Kc.cut (z := z) u.st ?_ ?_; (subst u); rotate_left; clear_value u; intro _) | (refine Kc.cut (z := z) u.1 ?_ ?_; (subst u); rotate_left; clear_value u; intro _) | ((have _ := fun x => u x); subst u) | clear_value u)

theorem State.logTally_kc {z : State} (s : State) (quantity part h ledger found by_ outcome : Nat) (hs : Kc z s) : Kc z (State.logTally s quantity part h ledger found by_ outcome) := by
  unfold State.logTally
  repeat' first
    | with_reducible first | assumption | apply State.when_kc | apply State.setReg_kc | apply State.setTab_kc
    | refine fun _ => ?_
    | ((try lift_lets); intro u; first | (refine Kc.cut (z := z) u ?_ ?_; (subst u); rotate_left; clear_value u; intro _) | (refine Kc.cut (z := z) u.st ?_ ?_; (subst u); rotate_left; clear_value u; intro _) | (refine Kc.cut (z := z) u.1 ?_ ?_; (subst u); rotate_left; clear_value u; intro _) | ((have _ := fun x => u x); subst u) | clear_value u)
    | dsimp only

theorem State.awaitSweep_kc {z : State} (s : State) (n : Nat) (hs : Kc z s) : Kc z (State.awaitSweep s n) := by
  unfold State.awaitSweep
  repeat' first
    | with_reducible first | assumption | apply State.setTab_kc

theorem State.queueFence_kc {z : State} (s : State) (h : Nat) (log : Option Nat) (hs : Kc z s) : Kc z (State.queueFence s h log) := by
  unfold State.queueFence
  repeat' first
    | with_reducible first | assumption | apply Kc.ite | apply State.awaitSweep_kc
    | refine fun _ => ?_
    | dsimp only
    | (with_reducible apply Kc.fst; assumption)
    | split
    | with_reducible apply Kc.upd

theorem State.discrepancy_kc {z : State} (s : State) (quantity part h ledger found by_ : Nat) (hs : Kc z s) : Kc z (State.discrepancy s quantity part h ledger found by_) := by
  unfold State.discrepancy
  repeat' first
    | with_reducible first | assumption | apply Kc.ite | apply State.when_kc | apply State.event_kc | apply State.fatalFault_kc | apply State.logFault_kc | apply State.logTally_kc | apply State.queueFence_kc | apply State.setTab_kc
    | refine fun _ => ?_
    | ((try lift_lets); intro u; first | (refine Kc.cut (z := z) u ?_ ?_; (subst u); rotate_left; clear_value u; intro _) | (refine Kc.cut (z := z) u.st ?_ ?_; (subst u); rotate_left; clear_value u; intro _) | (refine Kc.cut (z := z) u.1 ?_ ?_; (subst u); rotate_left; clear_value u; intro _) | ((have _ := fun x => u x); subst u) | clear_value u)
    | dsimp only

theorem State.report_kc {z : State} (s : State) (p k n : Nat) (hs : Kc z s) : Kc z (State.report s p k n) := by
  unfold State.report
  repeat' first
    | with_reducible first | assumption | apply State.setTab_kc

theorem State.allocate_kc {z : State} (s : State) (p k n h : Nat) (hs : Kc z s) : Kc z (State.allocate s p k n h) := by
  unfold State.allocate
  repeat' first
    | with_reducible first | assumption | apply Kc.ite | apply State.discrepancy_kc | apply State.report_kc
    | refine fun _ => ?_

theorem State.unreport_kc {z : State} (s : State) (p k n h quantity : Nat) (hs : Kc z s) : Kc z (State.unreport s p k n h quantity) := by
  unfold State.unreport
  repeat' first
    | with_reducible first | assumption | apply Kc.ite | apply State.discrepancy_kc | apply State.setTab_kc
    | refine fun _ => ?_

theorem State.countDrop_kc {z : State} (s : State) (outcome port reason : Nat) (hs : Kc z s) : Kc z (State.countDrop s outcome port reason) := by
  unfold State.countDrop
  repeat' first
    | with_reducible first | assumption | apply Kc.ite | apply State.count_kc | apply State.drop_kc | apply State.setTab_kc
    | refine fun _ => ?_
    | ((try lift_lets); intro u; first | (refine Kc.cut (z := z) u ?_ ?_; (subst u); rotate_left; clear_value u; intro _) | (refine Kc.cut (z := z) u.st ?_ ?_; (subst u); rotate_left; clear_value u; intro _) | (refine Kc.cut (z := z) u.1 ?_ ?_; (subst u); rotate_left; clear_value u; intro _) | ((have _ := fun x => u x); subst u) | clear_value u)
    | dsimp only
    | (with_reducible apply Kc.fst; assumption)
    | split

theorem State.countCopyDrop_kc {z : State} (s : State) (outcome port q reason : Nat) (hs : Kc z s) : Kc z (State.countCopyDrop s outcome port q reason) := by
  unfold State.countCopyDrop
  repeat' first
    | with_reducible first | assumption | apply State.count_kc | apply State.countDrop_kc

theorem State.refreshResvPort_kc {z : State} (s : State) (p : Nat) (hs : Kc z s) : Kc z (State.refreshResvPort s p) := by
  unfold State.refreshResvPort
  repeat' first
    | with_reducible first | assumption | apply State.when_kc | apply State.resetReg_kc | apply State.setReg_kc | apply State.setTab_kc
    | refine fun _ => ?_
    | ((try lift_lets); intro u; first | (refine Kc.cut (z := z) u ?_ ?_; (subst u); rotate_left; clear_value u; intro _) | (refine Kc.cut (z := z) u.st ?_ ?_; (subst u); rotate_left; clear_value u; intro _) | (refine Kc.cut (z := z) u.1 ?_ ?_; (subst u); rotate_left; clear_value u; intro _) | ((have _ := fun x => u x); subst u) | clear_value u)
    | dsimp only

theorem State.refreshResvTotals_kc {z : State} (s : State) (hs : Kc z s) : Kc z (State.refreshResvTotals s) := by
  unfold State.refreshResvTotals
  repeat' first
    | with_reducible first | assumption | apply State.forAll_kc | apply State.refreshResvPort_kc | apply State.setReg_kc
    | refine fun _ => ?_
    | ((try lift_lets); intro u; first | (refine Kc.cut (z := z) u ?_ ?_; (subst u); rotate_left; clear_value u; intro _) | (refine Kc.cut (z := z) u.st ?_ ?_; (subst u); rotate_left; clear_value u; intro _) | (refine Kc.cut (z := z) u.1 ?_ ?_; (subst u); rotate_left; clear_value u; intro _) | ((have _ := fun x => u x); subst u) | clear_value u)
    | dsimp only

theorem State.freeResv_kc {z : State} (s : State) (n : Nat) (hs : Kc z s) : Kc z (State.freeResv s n) := by
  unfold State.freeResv
  repeat' first
    | with_reducible first | assumption | apply State.forAll_kc | apply State.clearTabRange_kc | apply State.setTab_kc
    | refine fun _ => ?_
    | ((try lift_lets); intro u; first | (refine Kc.cut (z := z) u ?_ ?_; (subst u); rotate_left; clear_value u; intro _) | (refine Kc.cut (z := z) u.st ?_ ?_; (subst u); rotate_left; clear_value u; intro _) | (refine Kc.cut (z := z) u.1 ?_ ?_; (subst u); rotate_left; clear_value u; intro _) | ((have _ := fun x => u x); subst u) | clear_value u)
    | dsimp only
    | with_reducible apply Kc.upd

theorem State.storeHeld_kc {z : State} (s : State) (f : Finding) (hs : Kc z s) : Kc z (State.storeHeld s f) := by
  unfold State.storeHeld
  repeat' first
    | with_reducible first | assumption | apply State.setTab_kc

theorem State.storeBounds_kc {z : State} (s : State) (from' : Nat) (f : Finding) (hs : Kc z s) : Kc z (State.storeBounds s from' f) := by
  unfold State.storeBounds
  repeat' first
    | with_reducible first | assumption | apply State.when_kc | apply State.forAll_kc | apply State.clearTabRange_kc | apply State.setTab_kc
    | refine fun _ => ?_
    | ((try lift_lets); intro u; first | (refine Kc.cut (z := z) u ?_ ?_; (subst u); rotate_left; clear_value u; intro _) | (refine Kc.cut (z := z) u.st ?_ ?_; (subst u); rotate_left; clear_value u; intro _) | (refine Kc.cut (z := z) u.1 ?_ ?_; (subst u); rotate_left; clear_value u; intro _) | ((have _ := fun x => u x); subst u) | clear_value u)
    | dsimp only
    | with_reducible apply Kc.upd

theorem State.storeWorstQ_kc {z : State} (s : State) (fs : List Finding) (hs : Kc z s) : Kc z (State.storeWorstQ s fs) := by
  unfold State.storeWorstQ
  repeat' first
    | with_reducible first | assumption | apply State.forAll_kc | apply State.setReg_kc
    | refine fun _ => ?_
    | ((try lift_lets); intro u; first | (refine Kc.cut (z := z) u ?_ ?_; (subst u); rotate_left; clear_value u; intro _) | (refine Kc.cut (z := z) u.st ?_ ?_; (subst u); rotate_left; clear_value u; intro _) | (refine Kc.cut (z := z) u.1 ?_ ?_; (subst u); rotate_left; clear_value u; intro _) | ((have _ := fun x => u x); subst u) | clear_value u)
    | dsimp only

theorem State.refreshBounds_kc {z : State} (s : State) (from' : Nat) (hs : Kc z s) : Kc z (State.refreshBounds s from') := by
  unfold State.refreshBounds
  repeat' first
    | with_reducible first | assumption | apply State.when_kc | apply State.forAll_kc | apply State.refreshResvTotals_kc | apply State.storeBounds_kc | apply State.storeHeld_kc | apply State.storeWorstQ_kc
    | refine fun _ => ?_
    | dsimp only
    | (with_reducible apply Kc.fst; assumption)
    | split

theorem State.drainResvs_kc {z : State} (s : State) (hs : Kc z s) : Kc z (State.drainResvs s) := by
  unfold State.drainResvs
  repeat' first
    | with_reducible first | assumption | apply Kc.ite | apply State.forAll_kc | apply State.freeResv_kc | apply State.refreshBounds_kc | apply State.refreshResvTotals_kc
    | refine fun _ => ?_
    | ((try lift_lets); intro u; first | (refine Kc.cut (z := z) u ?_ ?_; (subst u); rotate_left; clear_value u; intro _) | (refine Kc.cut (z := z) u.st ?_ ?_; (subst u); rotate_left; clear_value u; intro _) | (refine Kc.cut (z := z) u.1 ?_ ?_; (subst u); rotate_left; clear_value u; intro _) | ((have _ := fun x => u x); subst u) | clear_value u)
    | dsimp only
    | with_reducible apply Kc.upd

theorem State.macSent_kc {z : State} (s : State) (p n : Nat) (hs : Kc z s) : Kc z (State.macSent s p n) := by
  unfold State.macSent
  repeat' first
    | with_reducible first | assumption | apply State.count_kc

theorem State.putFrame_kc {z : State} (s : State) (f : Frame) (hs : Kc z s) : Kc z (State.putFrame s f) := by
  unfold State.putFrame
  repeat' first
    | with_reducible first | assumption | apply Kc.ite | apply Kc.id
    | refine fun _ => ?_
    | dsimp only
    | with_reducible apply Kc.upd

theorem State.setFifo_kc {z : State} (s : State) (i : Nat) (l : List Nat) (hs : Kc z s) : Kc z (State.setFifo s i l) := by
  unfold State.setFifo
  repeat' first
    | with_reducible first | assumption
    | refine fun _ => ?_
    | dsimp only
    | with_reducible apply Kc.upd

theorem State.pullStream_kc {z : State} (s : State) (t n : Nat) (hs : Kc z s) : Kc z (State.pullStream s t n) := by
  induction n generalizing s with
  | zero => exact hs
  | succ n ih =>
    unfold State.pullStream
    repeat' first
      | with_reducible first | assumption | apply Kc.ite | apply ih | apply State.setTab_kc | apply State.setFifo_kc
      | refine fun _ => ?_
      | ((try lift_lets); intro u; first | (refine Kc.cut (z := z) u ?_ ?_; (subst u); rotate_left; clear_value u; intro _) | (refine Kc.cut (z := z) u.st ?_ ?_; (subst u); rotate_left; clear_value u; intro _) | (refine Kc.cut (z := z) u.1 ?_ ?_; (subst u); rotate_left; clear_value u; intro _) | ((have _ := fun x => u x); subst u) | clear_value u)
      | dsimp only
      | (with_reducible apply Kc.fst; assumption)
      | split

theorem State.pushPostcard_kc {z : State} (s : State) (i rec : Nat) (hs : Kc z s) : Kc z (State.pushPostcard s i rec) := by
  unfold State.pushPostcard
  repeat' first
    | with_reducible first | assumption | apply Kc.ite | apply State.bump_kc | apply State.count_kc | apply State.event_kc | apply State.pullStream_kc | apply State.setFifo_kc | apply State.setTab_kc
    | refine fun _ => ?_
    | ((try lift_lets); intro u; first | (refine Kc.cut (z := z) u ?_ ?_; (subst u); rotate_left; clear_value u; intro _) | (refine Kc.cut (z := z) u.st ?_ ?_; (subst u); rotate_left; clear_value u; intro _) | (refine Kc.cut (z := z) u.1 ?_ ?_; (subst u); rotate_left; clear_value u; intro _) | ((have _ := fun x => u x); subst u) | clear_value u)

theorem State.framePostcard_kc {z : State} (s : State) (f : Frame) (port outcome reason : Nat) (hs : Kc z s) : Kc z (State.framePostcard s f port outcome reason) := by
  unfold State.framePostcard
  repeat' first
    | with_reducible first | assumption | apply State.when_kc | apply State.pushPostcard_kc
    | refine fun _ => ?_
    | dsimp only

theorem State.copyPostcard_kc {z : State} (s : State) (f : Frame) (c : Copy) (outcome reason ts : Nat) (stomped covered : Bool) (hs : Kc z s) : Kc z (State.copyPostcard s f c outcome reason ts stomped covered) := by
  unfold State.copyPostcard
  repeat' first
    | with_reducible first | assumption | apply State.when_kc | apply State.pushPostcard_kc
    | refine fun _ => ?_
    | ((try lift_lets); intro u; first | (refine Kc.cut (z := z) u ?_ ?_; (subst u); rotate_left; clear_value u; intro _) | (refine Kc.cut (z := z) u.st ?_ ?_; (subst u); rotate_left; clear_value u; intro _) | (refine Kc.cut (z := z) u.1 ?_ ?_; (subst u); rotate_left; clear_value u; intro _) | ((have _ := fun x => u x); subst u) | clear_value u)
    | dsimp only

theorem State.resvCounted_kc {z : State} (s : State) (n k amt : Nat) (hs : Kc z s) : Kc z (State.resvCounted s n k amt) := by
  unfold State.resvCounted
  repeat' first
    | with_reducible first | assumption | apply State.setTab_kc

theorem State.uncovered_kc {z : State} (s : State) (f : Frame) (copies : Nat) (hs : Kc z s) : Kc z (State.uncovered s f copies) := by
  unfold State.uncovered
  repeat' first
    | with_reducible first | assumption | apply State.resvCounted_kc
    | dsimp only
    | (with_reducible apply Kc.fst; assumption)
    | split

theorem State.breach_kc {z : State} (s : State) (f : Frame) (n port ts d : Nat) (hs : Kc z s) : Kc z (State.breach s f n port ts d) := by
  unfold State.breach
  repeat' first
    | with_reducible first | assumption | apply State.logFault_kc | apply State.resvCounted_kc | apply State.setCause_kc | apply State.trigger_kc
    | ((try lift_lets); intro u; first | (refine Kc.cut (z := z) u ?_ ?_; (subst u); rotate_left; clear_value u; intro _) | (refine Kc.cut (z := z) u.st ?_ ?_; (subst u); rotate_left; clear_value u; intro _) | (refine Kc.cut (z := z) u.1 ?_ ?_; (subst u); rotate_left; clear_value u; intro _) | ((have _ := fun x => u x); subst u) | clear_value u)

theorem State.dropInResv_kc {z : State} (s : State) (f : Frame) (reason : Nat) (hs : Kc z s) : Kc z (State.dropInResv s f reason) := by
  unfold State.dropInResv
  repeat' first
    | with_reducible first | assumption | apply Kc.ite | apply State.forAll_kc | apply State.breach_kc | apply State.resvCounted_kc | apply State.uncovered_kc
    | refine fun _ => ?_
    | dsimp only
    | (with_reducible apply Kc.fst; assumption)
    | split

theorem State.sendPfc_kc {z : State} (s : State) (p i time : Nat) (hs : Kc z s) : Kc z (State.sendPfc s p i time) := by
  unfold State.sendPfc
  repeat' first
    | with_reducible first | assumption | apply Kc.ite | apply State.count_kc | apply State.emit_kc | apply State.macSent_kc
    | refine fun _ => ?_
    | ((try lift_lets); intro u; first | (refine Kc.cut (z := z) u ?_ ?_; (subst u); rotate_left; clear_value u; intro _) | (refine Kc.cut (z := z) u.st ?_ ?_; (subst u); rotate_left; clear_value u; intro _) | (refine Kc.cut (z := z) u.1 ?_ ?_; (subst u); rotate_left; clear_value u; intro _) | ((have _ := fun x => u x); subst u) | clear_value u)
    | dsimp only

theorem State.pfcCheck_kc {z : State} (s : State) (p : Nat) (hs : Kc z s) : Kc z (State.pfcCheck s p) := by
  unfold State.pfcCheck
  repeat' first
    | with_reducible first | assumption | apply Kc.ite | apply State.forAll_kc | apply State.sendPfc_kc | apply State.setReg_kc
    | refine fun _ => ?_
    | ((try lift_lets); intro u; first | (refine Kc.cut (z := z) u ?_ ?_; (subst u); rotate_left; clear_value u; intro _) | (refine Kc.cut (z := z) u.st ?_ ?_; (subst u); rotate_left; clear_value u; intro _) | (refine Kc.cut (z := z) u.1 ?_ ?_; (subst u); rotate_left; clear_value u; intro _) | ((have _ := fun x => u x); subst u) | clear_value u)
    | dsimp only

theorem State.drained_kc {z : State} (s : State) (hs : Kc z s) : Kc z (State.drained s) := by
  unfold State.drained
  repeat' first
    | with_reducible first | assumption | apply Kc.ite | apply State.forAll_kc | apply Res.done_kc | apply State.bump_kc | apply State.drainResvs_kc | apply State.setTab_kc
    | refine fun _ => ?_
    | ((try lift_lets); intro u; first | (refine Kc.cut (z := z) u ?_ ?_; (subst u); rotate_left; clear_value u; intro _) | (refine Kc.cut (z := z) u.st ?_ ?_; (subst u); rotate_left; clear_value u; intro _) | (refine Kc.cut (z := z) u.1 ?_ ?_; (subst u); rotate_left; clear_value u; intro _) | ((have _ := fun x => u x); subst u) | clear_value u)
    | dsimp only

theorem State.withdrawCbSeq_kc {z : State} (s : State) (f : Frame) (hs : Kc z s) : Kc z (State.withdrawCbSeq s f) := by
  unfold State.withdrawCbSeq
  repeat' first
    | with_reducible first | assumption | apply State.when_kc | apply State.setTab_kc
    | refine fun _ => ?_
    | ((try lift_lets); intro u; first | (refine Kc.cut (z := z) u ?_ ?_; (subst u); rotate_left; clear_value u; intro _) | (refine Kc.cut (z := z) u.st ?_ ?_; (subst u); rotate_left; clear_value u; intro _) | (refine Kc.cut (z := z) u.1 ?_ ?_; (subst u); rotate_left; clear_value u; intro _) | ((have _ := fun x => u x); subst u) | clear_value u)
    | dsimp only
    | (with_reducible apply Kc.fst; assumption)
    | split

theorem State.finalize_kc {z : State} (s : State) (f : Frame) (hs : Kc z s) : Kc z (State.finalize s f) := by
  unfold State.finalize
  repeat' first
    | with_reducible first | assumption | apply Kc.ite | apply State.forAll_kc | apply State.countCopyDrop_kc | apply State.framePostcard_kc | apply State.putFrame_kc | apply State.report_kc | apply State.uncovered_kc | apply State.unreport_kc
    | refine fun _ => ?_
    | ((try lift_lets); intro u; first | (refine Kc.cut (z := z) u ?_ ?_; (subst u); rotate_left; clear_value u; intro _) | (refine Kc.cut (z := z) u.st ?_ ?_; (subst u); rotate_left; clear_value u; intro _) | (refine Kc.cut (z := z) u.1 ?_ ?_; (subst u); rotate_left; clear_value u; intro _) | ((have _ := fun x => u x); subst u) | clear_value u)
    | dsimp only

theorem State.setQLevel_kc {z : State} (s : State) (p q : Nat) (v : Int) (hs : Kc z s) : Kc z (State.setQLevel s p q v) := by
  unfold State.setQLevel
  repeat' first
    | with_reducible first | assumption | apply State.setReg_kc

theorem State.setPLevel_kc {z : State} (s : State) (p : Nat) (v : Int) (hs : Kc z s) : Kc z (State.setPLevel s p v) := by
  unfold State.setPLevel
  repeat' first
    | with_reducible first | assumption | apply State.setReg_kc

theorem State.repayPolicer_kc {z : State} (s : State) (i bucket octets : Nat) (hs : Kc z s) : Kc z (State.repayPolicer s i bucket octets) := by
  unfold State.repayPolicer
  repeat' first
    | with_reducible first | assumption | apply Kc.ite | apply State.setTab_kc
    | refine fun _ => ?_
    | ((try lift_lets); intro u; first | (refine Kc.cut (z := z) u ?_ ?_; (subst u); rotate_left; clear_value u; intro _) | (refine Kc.cut (z := z) u.st ?_ ?_; (subst u); rotate_left; clear_value u; intro _) | (refine Kc.cut (z := z) u.1 ?_ ?_; (subst u); rotate_left; clear_value u; intro _) | ((have _ := fun x => u x); subst u) | clear_value u)

theorem State.blockPolicer_kc {z : State} (s : State) (i : Nat) (hs : Kc z s) : Kc z (State.blockPolicer s i) := by
  unfold State.blockPolicer
  repeat' first
    | with_reducible first | assumption | apply State.when_kc | apply State.bump_kc | apply State.setTab_kc
    | refine fun _ => ?_
    | dsimp only

theorem State.polCount_kc {z : State} (s : State) (t i : Nat) (hs : Kc z s) : Kc z (State.polCount s t i) := by
  unfold State.polCount
  repeat' first
    | with_reducible first | assumption | apply State.setTab_kc

theorem State.postCount_kc {z : State} (s : State) (n : Nat) (hs : Kc z s) : Kc z (State.postCount s n) := by
  unfold State.postCount
  repeat' first
    | with_reducible first | assumption | apply State.when_kc | apply State.count_kc
    | refine fun _ => ?_
    | dsimp only

theorem State.runMicro_kc {z : State} (s : State) (pipe st : Nat) (entry hv : SMap Nat) (hs : Kc z s) : Kc z (State.runMicro s pipe st entry hv).1 := by
  unfold State.runMicro
  repeat' first
    | with_reducible first | assumption | apply Kc.ite | apply Kc.ite_fst | apply State.when_kc | apply State.forAll_kc | apply State.count_kc | apply State.postCount_kc
    | refine fun _ => ?_
    | ((try lift_lets); intro u; first | (refine Kc.cut (z := z) u ?_ ?_; (subst u); rotate_left; clear_value u; intro _) | (refine Kc.cut (z := z) u.st ?_ ?_; (subst u); rotate_left; clear_value u; intro _) | (refine Kc.cut (z := z) u.1 ?_ ?_; (subst u); rotate_left; clear_value u; intro _) | ((have _ := fun x => u x); subst u) | clear_value u)
    | dsimp only
    | (with_reducible apply Kc.fst; assumption)
    | split

theorem State.logTxTs_kc {z : State} (s : State) (f : Frame) (e ts : Nat) (hs : Kc z s) : Kc z (State.logTxTs s f e ts) := by
  unfold State.logTxTs
  repeat' first
    | with_reducible first | assumption | apply Kc.ite | apply State.setReg_kc
    | refine fun _ => ?_
    | ((try lift_lets); intro u; first | (refine Kc.cut (z := z) u ?_ ?_; (subst u); rotate_left; clear_value u; intro _) | (refine Kc.cut (z := z) u.st ?_ ?_; (subst u); rotate_left; clear_value u; intro _) | (refine Kc.cut (z := z) u.1 ?_ ?_; (subst u); rotate_left; clear_value u; intro _) | ((have _ := fun x => u x); subst u) | clear_value u)
    | dsimp only
    | (with_reducible apply Kc.fst; assumption)
    | split

theorem egressStage_kc {z : State} (x : State × SMap Nat) (e st : Nat) (fixed : SMap Nat → SMap Nat) (hs : Kc z x.1) :
    Kc z (egressStage x e st fixed).1 := State.runMicro_kc _ _ _ _ _ hs

theorem State.updateFrame_kc {z : State} (s : State) (f g : Frame) (hs : Kc z s) : Kc z (State.updateFrame s f g) := by
  unfold State.updateFrame
  repeat' first
    | with_reducible first | assumption | apply Kc.ite | apply State.allocate_kc | apply State.putFrame_kc | apply State.unreport_kc
    | refine fun _ => ?_
    | ((try lift_lets); intro u; first | (refine Kc.cut (z := z) u ?_ ?_; (subst u); rotate_left; clear_value u; intro _) | (refine Kc.cut (z := z) u.st ?_ ?_; (subst u); rotate_left; clear_value u; intro _) | (refine Kc.cut (z := z) u.1 ?_ ?_; (subst u); rotate_left; clear_value u; intro _) | ((have _ := fun x => u x); subst u) | clear_value u)

theorem State.sample_kc {z : State} (s : State) (p : Nat) (hs : Kc z s) : Kc z (State.sample s p).1 := by
  unfold State.sample
  repeat' first
    | with_reducible first | assumption | apply Kc.ite | apply Kc.ite_fst | apply State.setTab_kc
    | refine fun _ => ?_
    | ((try lift_lets); intro u; first | (refine Kc.cut (z := z) u ?_ ?_; (subst u); rotate_left; clear_value u; intro _) | (refine Kc.cut (z := z) u.st ?_ ?_; (subst u); rotate_left; clear_value u; intro _) | (refine Kc.cut (z := z) u.1 ?_ ?_; (subst u); rotate_left; clear_value u; intro _) | ((have _ := fun x => u x); subst u) | clear_value u)

theorem State.sendPause_kc {z : State} (s : State) (h quanta : Nat) (hs : Kc z s) : Kc z (State.sendPause s h quanta) := by
  unfold State.sendPause
  repeat' first
    | with_reducible first | assumption | apply State.when_kc | apply State.emit_kc | apply State.macSent_kc
    | refine fun _ => ?_
    | dsimp only

theorem State.hostFifoCheck_kc {z : State} (s : State) (h : Nat) (hs : Kc z s) : Kc z (State.hostFifoCheck s h) := by
  unfold State.hostFifoCheck
  repeat' first
    | with_reducible first | assumption | apply Kc.ite | apply State.event_kc | apply State.sendPause_kc | apply State.setTab_kc
    | refine fun _ => ?_
    | ((try lift_lets); intro u; first | (refine Kc.cut (z := z) u ?_ ?_; (subst u); rotate_left; clear_value u; intro _) | (refine Kc.cut (z := z) u.st ?_ ?_; (subst u); rotate_left; clear_value u; intro _) | (refine Kc.cut (z := z) u.1 ?_ ?_; (subst u); rotate_left; clear_value u; intro _) | ((have _ := fun x => u x); subst u) | clear_value u)

theorem State.fifoCheckOf_kc {z : State} (s : State) (p : Nat) (hs : Kc z s) : Kc z (State.fifoCheckOf s p) := by
  unfold State.fifoCheckOf
  repeat' first
    | with_reducible first | assumption | apply State.when_kc | apply State.hostFifoCheck_kc
    | refine fun _ => ?_
    | dsimp only

theorem State.handoffTail_kc {z : State} (s : State) (f : Frame) (good : Bool) (hs : Kc z s) : Kc z (State.handoffTail s f good) := by
  unfold State.handoffTail
  repeat' first
    | with_reducible first | assumption | apply Kc.ite | apply State.bump_kc | apply State.count_kc
    | refine fun _ => ?_
    | dsimp only
    | with_reducible apply Kc.upd

theorem State.repayTail_kc {z : State} (s : State) (f : Frame) (hs : Kc z s) : Kc z (State.repayTail s f).1 := by
  unfold State.repayTail
  repeat' first
    | with_reducible first | assumption | apply Kc.ite | apply Kc.ite_fst | apply State.when_kc | apply State.blockPolicer_kc | apply State.polCount_kc | apply State.repayPolicer_kc
    | refine fun _ => ?_
    | ((try lift_lets); intro u; first | (refine Kc.cut (z := z) u ?_ ?_; (subst u); rotate_left; clear_value u; intro _) | (refine Kc.cut (z := z) u.st ?_ ?_; (subst u); rotate_left; clear_value u; intro _) | (refine Kc.cut (z := z) u.1 ?_ ?_; (subst u); rotate_left; clear_value u; intro _) | ((have _ := fun x => u x); subst u) | clear_value u)
    | dsimp only
    | (with_reducible apply Kc.fst; assumption)
    | split

theorem State.countRx_kc {z : State} (s : State) (p len reason : Nat) (hs : Kc z s) : Kc z (State.countRx s p len reason) := by
  unfold State.countRx
  repeat' first
    | with_reducible first | assumption | apply State.when_kc | apply State.count_kc
    | refine fun _ => ?_
    | ((try lift_lets); intro u; first | (refine Kc.cut (z := z) u ?_ ?_; (subst u); rotate_left; clear_value u; intro _) | (refine Kc.cut (z := z) u.st ?_ ?_; (subst u); rotate_left; clear_value u; intro _) | (refine Kc.cut (z := z) u.1 ?_ ?_; (subst u); rotate_left; clear_value u; intro _) | ((have _ := fun x => u x); subst u) | clear_value u)
    | dsimp only

theorem State.histAdd_kc {z : State} (s : State) (t element ns : Nat) (hs : Kc z s) : Kc z (State.histAdd s t element ns) := by
  unfold State.histAdd
  repeat' first
    | with_reducible first | assumption | apply State.setTab_kc
    | ((try lift_lets); intro u; first | (refine Kc.cut (z := z) u ?_ ?_; (subst u); rotate_left; clear_value u; intro _) | (refine Kc.cut (z := z) u.st ?_ ?_; (subst u); rotate_left; clear_value u; intro _) | (refine Kc.cut (z := z) u.1 ?_ ?_; (subst u); rotate_left; clear_value u; intro _) | ((have _ := fun x => u x); subst u) | clear_value u)

theorem State.countSent_kc {z : State} (s : State) (f : Frame) (c : Copy) (covered : Bool) (r : Nat) (hs : Kc z s) : Kc z (State.countSent s f c covered r) := by
  unfold State.countSent
  repeat' first
    | with_reducible first | assumption | apply Kc.ite | apply State.when_kc | apply State.breach_kc | apply State.histAdd_kc | apply State.resvCounted_kc
    | refine fun _ => ?_
    | ((try lift_lets); intro u; first | (refine Kc.cut (z := z) u ?_ ?_; (subst u); rotate_left; clear_value u; intro _) | (refine Kc.cut (z := z) u.st ?_ ?_; (subst u); rotate_left; clear_value u; intro _) | (refine Kc.cut (z := z) u.1 ?_ ?_; (subst u); rotate_left; clear_value u; intro _) | ((have _ := fun x => u x); subst u) | clear_value u)
    | dsimp only
    | (with_reducible apply Kc.fst; assumption)
    | split

/-- `s` has the frames of `z`. -/
structure Kf (z s : State) : Prop where
  eq : s.frames = z.frames
theorem Kf.upd {z s : State} {attn : Attention} {zdp : Zdp} {copies : List Copy} {nextFrame : Nat} {nextCopy : Nat} {drr : SMap (List Nat)} {fences : List Fence} {oldResv : List OldResv} {oldBounds : List OldBound} {handoffs : List Handoff} {built : List Built} {postcards : SMap (List Nat)} {out : List Out} {tap : Tap} {freeCtr : Nat}
    (h : Kf z s) : Kf z ⟨s.regs, s.tabs, s.mem, attn, zdp, s.stagings, s.clock, s.frames, copies, nextFrame, nextCopy, drr, fences, oldResv, oldBounds, s.gates, handoffs, built, s.inactive, postcards, out, tap, freeCtr, s.pending⟩ := ⟨h.eq⟩
theorem Kf.ite {z a b : State} {c : Prop} [Decidable c] (ha : c → Kf z a) (hb : ¬c → Kf z b) : Kf z (if c then a else b) := by
  split
  · exact ha ‹_›
  · exact hb ‹_›
theorem Kf.ite_fst {α : Type} {z : State} {a b : State × α} {c : Prop} [Decidable c] (ha : c → Kf z a.1)
    (hb : ¬c → Kf z b.1) : Kf z (if c then a else b).1 := by
  split
  · exact ha ‹_›
  · exact hb ‹_›
theorem Kf.id {z s : State} (h : Kf z s) : Kf z (id s) := h
theorem Kf.cut {z : State} {P : Prop} (u : State) (h : Kf z u) (k : Kf z u → P) : P := k h
theorem Kf.fst {α : Type} {z a : State} {b : α} {p : State × α} (e : p = (a, b)) (h : Kf z p.1) : Kf z a := by subst e; exact h
theorem State.when_kf {z s : State} {c : Bool} {f : State → State} (h : Kf z s) (g : ∀ u, Kf z u → Kf z (f u)) : Kf z (s.when c f) := by
  unfold State.when; split
  · exact g s h
  · exact h
theorem State.forAll_kf {α : Type} {z s : State} {l : List α} {f : State → α → State} (h : Kf z s)
    (g : ∀ u a, Kf z u → Kf z (f u a)) : Kf z (s.forAll l f) := by
  induction l generalizing s with
  | nil => exact h
  | cons a l ih => exact ih (g s a h)
theorem State.setReg_kf {z s : State} {k v : Nat} (h : Kf z s) : Kf z (s.setReg k v) := ⟨h.eq⟩
theorem State.bump_kf {z : State} (s : State) (k w n : Nat) (h : Kf z s) : Kf z (s.bump k w n) := ⟨h.eq⟩
theorem State.bumpSat_kf {z : State} (s : State) (k w n : Nat) (h : Kf z s) : Kf z (s.bumpSat k w n) := ⟨h.eq⟩
theorem State.drop_kf {z : State} (s : State) (k n : Nat) (h : Kf z s) : Kf z (s.drop k n) := ⟨h.eq⟩
theorem State.resetReg_kf {z : State} (s : State) (k : Nat) (h : Kf z s) : Kf z (s.resetReg k) := ⟨h.eq⟩
theorem State.setTab_kf {z s : State} {t i v : Nat} (h : Kf z s) : Kf z (s.setTab t i v) := ⟨h.eq⟩
theorem State.clearTabRange_kf {z s : State} {t lo hi : Nat} (h : Kf z s) : Kf z (s.clearTabRange t lo hi) := ⟨h.eq⟩
theorem State.clearTab_kf {z s : State} {t : Nat} (h : Kf z s) : Kf z (s.clearTab t) := ⟨h.eq⟩
theorem State.emit_kf {z s : State} {o : Out} (h : Kf z s) : Kf z (s.emit o) := ⟨h.eq⟩
theorem State.drew_kf {z s : State} (h : Kf z s) : Kf z s.drew := ⟨h.eq⟩
theorem State.trigger_kf {z : State} (s : State) (n : Nat) (h : Kf z s) : Kf z (s.trigger n) :=
  ⟨(Only.trigger (R := []) (T := []) s n).frames.trans h.eq⟩
theorem State.flag_kf {z : State} (s : State) (k i : Nat) (h : Kf z s) : Kf z (s.flag k i) := ⟨h.eq⟩
theorem State.event_kf {z : State} (s : State) (k i n : Nat) (h : Kf z s) : Kf z (s.event k i n) := State.trigger_kf _ _ (State.flag_kf _ _ _ h)
theorem State.deliverDue_kf {z s : State} (h : Kf z s) : Kf z s.deliverDue := ⟨(Only.deliverDue (R := []) (T := []) s).frames.trans h.eq⟩
theorem State.setCause_kf {z : State} (s : State) (i : Nat) (b : Bool) (h : Kf z s) : Kf z (s.setCause i b) :=
  ⟨(Only.setCause (R := modeRegs) (T := []) s i b (by simp) (by simp) (by simp) (by simp) (by simp) (by simp) (by simp)).frames.trans h.eq⟩
theorem State.logFault_kf {z : State} (s : State) (code cls action source part data : Nat) (h : Kf z s) :
    Kf z (s.logFault code cls action source part data) :=
  ⟨(Only.logFault (R := [Reg.FAULT_LOG.LOG_HEAD, Reg.FAULT_LOG.PERSISTED_HEAD]) (T := [Tab.faultLog, Tab.faultPersisted])
    s code cls action source part data (by simp) (by simp) (by simp) (by simp)).frames.trans h.eq⟩
theorem State.setCounter_kf {z : State} (s : State) (n v : Nat) (h : Kf z s) : Kf z (s.setCounter n v) := ⟨h.eq⟩
theorem State.overflowed_kf {z : State} (s : State) (n : Nat) (h : Kf z s) : Kf z (s.overflowed n) := by
  unfold State.overflowed
  exact State.event_kf _ _ _ _ (State.bump_kf _ _ _ _ (State.setTab_kf h))
theorem State.count_kf {z : State} (s : State) (n amt : Nat) (h : Kf z s) : Kf z (s.count n amt) := by
  unfold State.count
  split
  · exact h
  · split
    · dsimp only
      exact State.when_kf (State.setCounter_kf _ _ _ (State.setCounter_kf _ _ _ h)) fun u hu => State.overflowed_kf _ _ hu
    · dsimp only
      exact State.when_kf (State.setCounter_kf _ _ _ h) fun u hu => State.overflowed_kf _ _ hu
theorem State.raiseMark_kf {z : State} (s : State) (k q v : Nat) (h : Kf z s) : Kf z (s.raiseMark k q v) := by
  unfold State.raiseMark; exact State.when_kf h fun _ hu => State.setReg_kf hu

theorem State.freeTag_kf {z : State} (s : State) (code : Nat) (hs : Kf z s) : Kf z (State.freeTag s code) := by
  unfold State.freeTag
  split
  · exact hs
  · split
    · exact Kf.upd hs
    · exact State.when_kf (Kf.upd hs) fun u hu => State.setTab_kf hu

theorem State.replySent_kf {z : State} (s : State) (r : Reply) (hs : Kf z s) : Kf z (State.replySent s r) := by
  unfold State.replySent
  repeat' first
    | with_reducible first | assumption | apply State.when_kf | apply State.setTab_kf
    | refine fun _ => ?_
    | dsimp only

theorem State.fatalFault_kf {z : State} (s : State) (kind code source partition data : Nat) (hs : Kf z s) : Kf z (State.fatalFault s kind code source partition data) := by
  unfold State.fatalFault
  repeat' first
    | with_reducible first | assumption | apply Kf.ite | apply State.logFault_kf | apply State.setCause_kf | apply State.setTab_kf
    | refine fun _ => ?_
    | ((try lift_lets); intro u; first | (refine Kf.cut (z := z) u ?_ ?_; (subst u); rotate_left; clear_value u; intro _) | (refine Kf.cut (z := z) u.st ?_ ?_; (subst u); rotate_left; clear_value u; intro _) | (refine Kf.cut (z := z) u.1 ?_ ?_; (subst u); rotate_left; clear_value u; intro _) | ((have _ := fun x => u x); subst u) | clear_value u)

theorem State.logTally_kf {z : State} (s : State) (quantity part h ledger found by_ outcome : Nat) (hs : Kf z s) : Kf z (State.logTally s quantity part h ledger found by_ outcome) := by
  unfold State.logTally
  repeat' first
    | with_reducible first | assumption | apply State.when_kf | apply State.setReg_kf | apply State.setTab_kf
    | refine fun _ => ?_
    | ((try lift_lets); intro u; first | (refine Kf.cut (z := z) u ?_ ?_; (subst u); rotate_left; clear_value u; intro _) | (refine Kf.cut (z := z) u.st ?_ ?_; (subst u); rotate_left; clear_value u; intro _) | (refine Kf.cut (z := z) u.1 ?_ ?_; (subst u); rotate_left; clear_value u; intro _) | ((have _ := fun x => u x); subst u) | clear_value u)
    | dsimp only

theorem State.awaitSweep_kf {z : State} (s : State) (n : Nat) (hs : Kf z s) : Kf z (State.awaitSweep s n) := by
  unfold State.awaitSweep
  repeat' first
    | with_reducible first | assumption | apply State.setTab_kf

theorem State.queueFence_kf {z : State} (s : State) (h : Nat) (log : Option Nat) (hs : Kf z s) : Kf z (State.queueFence s h log) := by
  unfold State.queueFence
  repeat' first
    | with_reducible first | assumption | apply Kf.ite | apply State.awaitSweep_kf
    | refine fun _ => ?_
    | dsimp only
    | (with_reducible apply Kf.fst; assumption)
    | split
    | with_reducible apply Kf.upd

theorem State.discrepancy_kf {z : State} (s : State) (quantity part h ledger found by_ : Nat) (hs : Kf z s) : Kf z (State.discrepancy s quantity part h ledger found by_) := by
  unfold State.discrepancy
  repeat' first
    | with_reducible first | assumption | apply Kf.ite | apply State.when_kf | apply State.event_kf | apply State.fatalFault_kf | apply State.logFault_kf | apply State.logTally_kf | apply State.queueFence_kf | apply State.setTab_kf
    | refine fun _ => ?_
    | ((try lift_lets); intro u; first | (refine Kf.cut (z := z) u ?_ ?_; (subst u); rotate_left; clear_value u; intro _) | (refine Kf.cut (z := z) u.st ?_ ?_; (subst u); rotate_left; clear_value u; intro _) | (refine Kf.cut (z := z) u.1 ?_ ?_; (subst u); rotate_left; clear_value u; intro _) | ((have _ := fun x => u x); subst u) | clear_value u)
    | dsimp only

theorem State.report_kf {z : State} (s : State) (p k n : Nat) (hs : Kf z s) : Kf z (State.report s p k n) := by
  unfold State.report
  repeat' first
    | with_reducible first | assumption | apply State.setTab_kf

theorem State.allocate_kf {z : State} (s : State) (p k n h : Nat) (hs : Kf z s) : Kf z (State.allocate s p k n h) := by
  unfold State.allocate
  repeat' first
    | with_reducible first | assumption | apply Kf.ite | apply State.discrepancy_kf | apply State.report_kf
    | refine fun _ => ?_

theorem State.unreport_kf {z : State} (s : State) (p k n h quantity : Nat) (hs : Kf z s) : Kf z (State.unreport s p k n h quantity) := by
  unfold State.unreport
  repeat' first
    | with_reducible first | assumption | apply Kf.ite | apply State.discrepancy_kf | apply State.setTab_kf
    | refine fun _ => ?_

theorem State.countDrop_kf {z : State} (s : State) (outcome port reason : Nat) (hs : Kf z s) : Kf z (State.countDrop s outcome port reason) := by
  unfold State.countDrop
  repeat' first
    | with_reducible first | assumption | apply Kf.ite | apply State.count_kf | apply State.drop_kf | apply State.setTab_kf
    | refine fun _ => ?_
    | ((try lift_lets); intro u; first | (refine Kf.cut (z := z) u ?_ ?_; (subst u); rotate_left; clear_value u; intro _) | (refine Kf.cut (z := z) u.st ?_ ?_; (subst u); rotate_left; clear_value u; intro _) | (refine Kf.cut (z := z) u.1 ?_ ?_; (subst u); rotate_left; clear_value u; intro _) | ((have _ := fun x => u x); subst u) | clear_value u)
    | dsimp only
    | (with_reducible apply Kf.fst; assumption)
    | split

theorem State.refreshResvPort_kf {z : State} (s : State) (p : Nat) (hs : Kf z s) : Kf z (State.refreshResvPort s p) := by
  unfold State.refreshResvPort
  repeat' first
    | with_reducible first | assumption | apply State.when_kf | apply State.resetReg_kf | apply State.setReg_kf | apply State.setTab_kf
    | refine fun _ => ?_
    | ((try lift_lets); intro u; first | (refine Kf.cut (z := z) u ?_ ?_; (subst u); rotate_left; clear_value u; intro _) | (refine Kf.cut (z := z) u.st ?_ ?_; (subst u); rotate_left; clear_value u; intro _) | (refine Kf.cut (z := z) u.1 ?_ ?_; (subst u); rotate_left; clear_value u; intro _) | ((have _ := fun x => u x); subst u) | clear_value u)
    | dsimp only

theorem State.refreshResvTotals_kf {z : State} (s : State) (hs : Kf z s) : Kf z (State.refreshResvTotals s) := by
  unfold State.refreshResvTotals
  repeat' first
    | with_reducible first | assumption | apply State.forAll_kf | apply State.refreshResvPort_kf | apply State.setReg_kf
    | refine fun _ => ?_
    | ((try lift_lets); intro u; first | (refine Kf.cut (z := z) u ?_ ?_; (subst u); rotate_left; clear_value u; intro _) | (refine Kf.cut (z := z) u.st ?_ ?_; (subst u); rotate_left; clear_value u; intro _) | (refine Kf.cut (z := z) u.1 ?_ ?_; (subst u); rotate_left; clear_value u; intro _) | ((have _ := fun x => u x); subst u) | clear_value u)
    | dsimp only

theorem State.freeResv_kf {z : State} (s : State) (n : Nat) (hs : Kf z s) : Kf z (State.freeResv s n) := by
  unfold State.freeResv
  repeat' first
    | with_reducible first | assumption | apply State.forAll_kf | apply State.clearTabRange_kf | apply State.setTab_kf
    | refine fun _ => ?_
    | ((try lift_lets); intro u; first | (refine Kf.cut (z := z) u ?_ ?_; (subst u); rotate_left; clear_value u; intro _) | (refine Kf.cut (z := z) u.st ?_ ?_; (subst u); rotate_left; clear_value u; intro _) | (refine Kf.cut (z := z) u.1 ?_ ?_; (subst u); rotate_left; clear_value u; intro _) | ((have _ := fun x => u x); subst u) | clear_value u)
    | dsimp only
    | with_reducible apply Kf.upd

theorem State.storeHeld_kf {z : State} (s : State) (f : Finding) (hs : Kf z s) : Kf z (State.storeHeld s f) := by
  unfold State.storeHeld
  repeat' first
    | with_reducible first | assumption | apply State.setTab_kf

theorem State.storeBounds_kf {z : State} (s : State) (from' : Nat) (f : Finding) (hs : Kf z s) : Kf z (State.storeBounds s from' f) := by
  unfold State.storeBounds
  repeat' first
    | with_reducible first | assumption | apply State.when_kf | apply State.forAll_kf | apply State.clearTabRange_kf | apply State.setTab_kf
    | refine fun _ => ?_
    | ((try lift_lets); intro u; first | (refine Kf.cut (z := z) u ?_ ?_; (subst u); rotate_left; clear_value u; intro _) | (refine Kf.cut (z := z) u.st ?_ ?_; (subst u); rotate_left; clear_value u; intro _) | (refine Kf.cut (z := z) u.1 ?_ ?_; (subst u); rotate_left; clear_value u; intro _) | ((have _ := fun x => u x); subst u) | clear_value u)
    | dsimp only
    | with_reducible apply Kf.upd

theorem State.storeWorstQ_kf {z : State} (s : State) (fs : List Finding) (hs : Kf z s) : Kf z (State.storeWorstQ s fs) := by
  unfold State.storeWorstQ
  repeat' first
    | with_reducible first | assumption | apply State.forAll_kf | apply State.setReg_kf
    | refine fun _ => ?_
    | ((try lift_lets); intro u; first | (refine Kf.cut (z := z) u ?_ ?_; (subst u); rotate_left; clear_value u; intro _) | (refine Kf.cut (z := z) u.st ?_ ?_; (subst u); rotate_left; clear_value u; intro _) | (refine Kf.cut (z := z) u.1 ?_ ?_; (subst u); rotate_left; clear_value u; intro _) | ((have _ := fun x => u x); subst u) | clear_value u)
    | dsimp only

theorem State.refreshBounds_kf {z : State} (s : State) (from' : Nat) (hs : Kf z s) : Kf z (State.refreshBounds s from') := by
  unfold State.refreshBounds
  repeat' first
    | with_reducible first | assumption | apply State.when_kf | apply State.forAll_kf | apply State.refreshResvTotals_kf | apply State.storeBounds_kf | apply State.storeHeld_kf | apply State.storeWorstQ_kf
    | refine fun _ => ?_
    | dsimp only
    | (with_reducible apply Kf.fst; assumption)
    | split

theorem State.drainResvs_kf {z : State} (s : State) (hs : Kf z s) : Kf z (State.drainResvs s) := by
  unfold State.drainResvs
  repeat' first
    | with_reducible first | assumption | apply Kf.ite | apply State.forAll_kf | apply State.freeResv_kf | apply State.refreshBounds_kf | apply State.refreshResvTotals_kf
    | refine fun _ => ?_
    | ((try lift_lets); intro u; first | (refine Kf.cut (z := z) u ?_ ?_; (subst u); rotate_left; clear_value u; intro _) | (refine Kf.cut (z := z) u.st ?_ ?_; (subst u); rotate_left; clear_value u; intro _) | (refine Kf.cut (z := z) u.1 ?_ ?_; (subst u); rotate_left; clear_value u; intro _) | ((have _ := fun x => u x); subst u) | clear_value u)
    | dsimp only
    | with_reducible apply Kf.upd

theorem State.macSent_kf {z : State} (s : State) (p n : Nat) (hs : Kf z s) : Kf z (State.macSent s p n) := by
  unfold State.macSent
  repeat' first
    | with_reducible first | assumption | apply State.count_kf

theorem State.setDrrActive_kf {z : State} (s : State) (p : Nat) (l : List Nat) (hs : Kf z s) : Kf z (State.setDrrActive s p l) := by
  unfold State.setDrrActive
  repeat' first
    | with_reducible first | assumption
    | refine fun _ => ?_
    | dsimp only
    | with_reducible apply Kf.upd

theorem State.setDeficit_kf {z : State} (s : State) (p q v : Nat) (hs : Kf z s) : Kf z (State.setDeficit s p q v) := by
  unfold State.setDeficit
  repeat' first
    | with_reducible first | assumption | apply State.setReg_kf

theorem State.leaveDrr_kf {z : State} (s : State) (p q : Nat) (hs : Kf z s) : Kf z (State.leaveDrr s p q) := by
  unfold State.leaveDrr
  repeat' first
    | with_reducible first | assumption | apply Kf.ite | apply State.when_kf | apply State.setDeficit_kf | apply State.setDrrActive_kf | apply State.setTab_kf
    | refine fun _ => ?_
    | ((try lift_lets); intro u; first | (refine Kf.cut (z := z) u ?_ ?_; (subst u); rotate_left; clear_value u; intro _) | (refine Kf.cut (z := z) u.st ?_ ?_; (subst u); rotate_left; clear_value u; intro _) | (refine Kf.cut (z := z) u.1 ?_ ?_; (subst u); rotate_left; clear_value u; intro _) | ((have _ := fun x => u x); subst u) | clear_value u)
    | dsimp only
    | with_reducible apply Kf.upd

theorem State.enterDrr_kf {z : State} (s : State) (p q : Nat) (hs : Kf z s) : Kf z (State.enterDrr s p q) := by
  unfold State.enterDrr
  repeat' first
    | with_reducible first | assumption | apply Kf.ite | apply State.when_kf | apply State.setDrrActive_kf | apply State.setTab_kf
    | refine fun _ => ?_
    | ((try lift_lets); intro u; first | (refine Kf.cut (z := z) u ?_ ?_; (subst u); rotate_left; clear_value u; intro _) | (refine Kf.cut (z := z) u.st ?_ ?_; (subst u); rotate_left; clear_value u; intro _) | (refine Kf.cut (z := z) u.1 ?_ ?_; (subst u); rotate_left; clear_value u; intro _) | ((have _ := fun x => u x); subst u) | clear_value u)
    | dsimp only

theorem State.settleQueue_kf {z : State} (s : State) (p q : Nat) (hs : Kf z s) : Kf z (State.settleQueue s p q) := by
  unfold State.settleQueue
  repeat' first
    | with_reducible first | assumption | apply Kf.ite | apply State.leaveDrr_kf
    | refine fun _ => ?_

theorem State.setFifo_kf {z : State} (s : State) (i : Nat) (l : List Nat) (hs : Kf z s) : Kf z (State.setFifo s i l) := by
  unfold State.setFifo
  repeat' first
    | with_reducible first | assumption
    | refine fun _ => ?_
    | dsimp only
    | with_reducible apply Kf.upd

theorem State.pullStream_kf {z : State} (s : State) (t n : Nat) (hs : Kf z s) : Kf z (State.pullStream s t n) := by
  induction n generalizing s with
  | zero => exact hs
  | succ n ih =>
    unfold State.pullStream
    repeat' first
      | with_reducible first | assumption | apply Kf.ite | apply ih | apply State.setTab_kf | apply State.setFifo_kf
      | refine fun _ => ?_
      | ((try lift_lets); intro u; first | (refine Kf.cut (z := z) u ?_ ?_; (subst u); rotate_left; clear_value u; intro _) | (refine Kf.cut (z := z) u.st ?_ ?_; (subst u); rotate_left; clear_value u; intro _) | (refine Kf.cut (z := z) u.1 ?_ ?_; (subst u); rotate_left; clear_value u; intro _) | ((have _ := fun x => u x); subst u) | clear_value u)
      | dsimp only
      | (with_reducible apply Kf.fst; assumption)
      | split

theorem State.pushPostcard_kf {z : State} (s : State) (i rec : Nat) (hs : Kf z s) : Kf z (State.pushPostcard s i rec) := by
  unfold State.pushPostcard
  repeat' first
    | with_reducible first | assumption | apply Kf.ite | apply State.bump_kf | apply State.count_kf | apply State.event_kf | apply State.pullStream_kf | apply State.setFifo_kf | apply State.setTab_kf
    | refine fun _ => ?_
    | ((try lift_lets); intro u; first | (refine Kf.cut (z := z) u ?_ ?_; (subst u); rotate_left; clear_value u; intro _) | (refine Kf.cut (z := z) u.st ?_ ?_; (subst u); rotate_left; clear_value u; intro _) | (refine Kf.cut (z := z) u.1 ?_ ?_; (subst u); rotate_left; clear_value u; intro _) | ((have _ := fun x => u x); subst u) | clear_value u)

theorem State.framePostcard_kf {z : State} (s : State) (f : Frame) (port outcome reason : Nat) (hs : Kf z s) : Kf z (State.framePostcard s f port outcome reason) := by
  unfold State.framePostcard
  repeat' first
    | with_reducible first | assumption | apply State.when_kf | apply State.pushPostcard_kf
    | refine fun _ => ?_
    | dsimp only

theorem State.resvCounted_kf {z : State} (s : State) (n k amt : Nat) (hs : Kf z s) : Kf z (State.resvCounted s n k amt) := by
  unfold State.resvCounted
  repeat' first
    | with_reducible first | assumption | apply State.setTab_kf

theorem State.uncovered_kf {z : State} (s : State) (f : Frame) (copies : Nat) (hs : Kf z s) : Kf z (State.uncovered s f copies) := by
  unfold State.uncovered
  repeat' first
    | with_reducible first | assumption | apply State.resvCounted_kf
    | dsimp only
    | (with_reducible apply Kf.fst; assumption)
    | split

theorem State.breach_kf {z : State} (s : State) (f : Frame) (n port ts d : Nat) (hs : Kf z s) : Kf z (State.breach s f n port ts d) := by
  unfold State.breach
  repeat' first
    | with_reducible first | assumption | apply State.logFault_kf | apply State.resvCounted_kf | apply State.setCause_kf | apply State.trigger_kf
    | ((try lift_lets); intro u; first | (refine Kf.cut (z := z) u ?_ ?_; (subst u); rotate_left; clear_value u; intro _) | (refine Kf.cut (z := z) u.st ?_ ?_; (subst u); rotate_left; clear_value u; intro _) | (refine Kf.cut (z := z) u.1 ?_ ?_; (subst u); rotate_left; clear_value u; intro _) | ((have _ := fun x => u x); subst u) | clear_value u)

theorem State.dropInResv_kf {z : State} (s : State) (f : Frame) (reason : Nat) (hs : Kf z s) : Kf z (State.dropInResv s f reason) := by
  unfold State.dropInResv
  repeat' first
    | with_reducible first | assumption | apply Kf.ite | apply State.forAll_kf | apply State.breach_kf | apply State.resvCounted_kf | apply State.uncovered_kf
    | refine fun _ => ?_
    | dsimp only
    | (with_reducible apply Kf.fst; assumption)
    | split

theorem State.sendPfc_kf {z : State} (s : State) (p i time : Nat) (hs : Kf z s) : Kf z (State.sendPfc s p i time) := by
  unfold State.sendPfc
  repeat' first
    | with_reducible first | assumption | apply Kf.ite | apply State.count_kf | apply State.emit_kf | apply State.macSent_kf
    | refine fun _ => ?_
    | ((try lift_lets); intro u; first | (refine Kf.cut (z := z) u ?_ ?_; (subst u); rotate_left; clear_value u; intro _) | (refine Kf.cut (z := z) u.st ?_ ?_; (subst u); rotate_left; clear_value u; intro _) | (refine Kf.cut (z := z) u.1 ?_ ?_; (subst u); rotate_left; clear_value u; intro _) | ((have _ := fun x => u x); subst u) | clear_value u)
    | dsimp only

theorem State.pfcCheck_kf {z : State} (s : State) (p : Nat) (hs : Kf z s) : Kf z (State.pfcCheck s p) := by
  unfold State.pfcCheck
  repeat' first
    | with_reducible first | assumption | apply Kf.ite | apply State.forAll_kf | apply State.sendPfc_kf | apply State.setReg_kf
    | refine fun _ => ?_
    | ((try lift_lets); intro u; first | (refine Kf.cut (z := z) u ?_ ?_; (subst u); rotate_left; clear_value u; intro _) | (refine Kf.cut (z := z) u.st ?_ ?_; (subst u); rotate_left; clear_value u; intro _) | (refine Kf.cut (z := z) u.1 ?_ ?_; (subst u); rotate_left; clear_value u; intro _) | ((have _ := fun x => u x); subst u) | clear_value u)
    | dsimp only

theorem State.drained_kf {z : State} (s : State) (hs : Kf z s) : Kf z (State.drained s) := by
  unfold State.drained
  repeat' first
    | with_reducible first | assumption | apply Kf.ite | apply State.forAll_kf | apply Res.done_kf | apply State.bump_kf | apply State.drainResvs_kf | apply State.setTab_kf
    | refine fun _ => ?_
    | ((try lift_lets); intro u; first | (refine Kf.cut (z := z) u ?_ ?_; (subst u); rotate_left; clear_value u; intro _) | (refine Kf.cut (z := z) u.st ?_ ?_; (subst u); rotate_left; clear_value u; intro _) | (refine Kf.cut (z := z) u.1 ?_ ?_; (subst u); rotate_left; clear_value u; intro _) | ((have _ := fun x => u x); subst u) | clear_value u)
    | dsimp only

theorem State.withdrawCbSeq_kf {z : State} (s : State) (f : Frame) (hs : Kf z s) : Kf z (State.withdrawCbSeq s f) := by
  unfold State.withdrawCbSeq
  repeat' first
    | with_reducible first | assumption | apply State.when_kf | apply State.setTab_kf
    | refine fun _ => ?_
    | ((try lift_lets); intro u; first | (refine Kf.cut (z := z) u ?_ ?_; (subst u); rotate_left; clear_value u; intro _) | (refine Kf.cut (z := z) u.st ?_ ?_; (subst u); rotate_left; clear_value u; intro _) | (refine Kf.cut (z := z) u.1 ?_ ?_; (subst u); rotate_left; clear_value u; intro _) | ((have _ := fun x => u x); subst u) | clear_value u)
    | dsimp only
    | (with_reducible apply Kf.fst; assumption)
    | split

theorem State.setQLevel_kf {z : State} (s : State) (p q : Nat) (v : Int) (hs : Kf z s) : Kf z (State.setQLevel s p q v) := by
  unfold State.setQLevel
  repeat' first
    | with_reducible first | assumption | apply State.setReg_kf

theorem State.setPLevel_kf {z : State} (s : State) (p : Nat) (v : Int) (hs : Kf z s) : Kf z (State.setPLevel s p v) := by
  unfold State.setPLevel
  repeat' first
    | with_reducible first | assumption | apply State.setReg_kf

theorem State.repayPolicer_kf {z : State} (s : State) (i bucket octets : Nat) (hs : Kf z s) : Kf z (State.repayPolicer s i bucket octets) := by
  unfold State.repayPolicer
  repeat' first
    | with_reducible first | assumption | apply Kf.ite | apply State.setTab_kf
    | refine fun _ => ?_
    | ((try lift_lets); intro u; first | (refine Kf.cut (z := z) u ?_ ?_; (subst u); rotate_left; clear_value u; intro _) | (refine Kf.cut (z := z) u.st ?_ ?_; (subst u); rotate_left; clear_value u; intro _) | (refine Kf.cut (z := z) u.1 ?_ ?_; (subst u); rotate_left; clear_value u; intro _) | ((have _ := fun x => u x); subst u) | clear_value u)

theorem State.blockPolicer_kf {z : State} (s : State) (i : Nat) (hs : Kf z s) : Kf z (State.blockPolicer s i) := by
  unfold State.blockPolicer
  repeat' first
    | with_reducible first | assumption | apply State.when_kf | apply State.bump_kf | apply State.setTab_kf
    | refine fun _ => ?_
    | dsimp only

theorem State.polCount_kf {z : State} (s : State) (t i : Nat) (hs : Kf z s) : Kf z (State.polCount s t i) := by
  unfold State.polCount
  repeat' first
    | with_reducible first | assumption | apply State.setTab_kf

theorem State.sample_kf {z : State} (s : State) (p : Nat) (hs : Kf z s) : Kf z (State.sample s p).1 := by
  unfold State.sample
  repeat' first
    | with_reducible first | assumption | apply Kf.ite | apply Kf.ite_fst | apply State.setTab_kf
    | refine fun _ => ?_
    | ((try lift_lets); intro u; first | (refine Kf.cut (z := z) u ?_ ?_; (subst u); rotate_left; clear_value u; intro _) | (refine Kf.cut (z := z) u.st ?_ ?_; (subst u); rotate_left; clear_value u; intro _) | (refine Kf.cut (z := z) u.1 ?_ ?_; (subst u); rotate_left; clear_value u; intro _) | ((have _ := fun x => u x); subst u) | clear_value u)

theorem State.sendPause_kf {z : State} (s : State) (h quanta : Nat) (hs : Kf z s) : Kf z (State.sendPause s h quanta) := by
  unfold State.sendPause
  repeat' first
    | with_reducible first | assumption | apply State.when_kf | apply State.emit_kf | apply State.macSent_kf
    | refine fun _ => ?_
    | dsimp only

theorem State.hostFifoCheck_kf {z : State} (s : State) (h : Nat) (hs : Kf z s) : Kf z (State.hostFifoCheck s h) := by
  unfold State.hostFifoCheck
  repeat' first
    | with_reducible first | assumption | apply Kf.ite | apply State.event_kf | apply State.sendPause_kf | apply State.setTab_kf
    | refine fun _ => ?_
    | ((try lift_lets); intro u; first | (refine Kf.cut (z := z) u ?_ ?_; (subst u); rotate_left; clear_value u; intro _) | (refine Kf.cut (z := z) u.st ?_ ?_; (subst u); rotate_left; clear_value u; intro _) | (refine Kf.cut (z := z) u.1 ?_ ?_; (subst u); rotate_left; clear_value u; intro _) | ((have _ := fun x => u x); subst u) | clear_value u)

theorem State.fifoCheckOf_kf {z : State} (s : State) (p : Nat) (hs : Kf z s) : Kf z (State.fifoCheckOf s p) := by
  unfold State.fifoCheckOf
  repeat' first
    | with_reducible first | assumption | apply State.when_kf | apply State.hostFifoCheck_kf
    | refine fun _ => ?_
    | dsimp only

theorem State.handoffTail_kf {z : State} (s : State) (f : Frame) (good : Bool) (hs : Kf z s) : Kf z (State.handoffTail s f good) := by
  unfold State.handoffTail
  repeat' first
    | with_reducible first | assumption | apply Kf.ite | apply State.bump_kf | apply State.count_kf
    | refine fun _ => ?_
    | dsimp only
    | with_reducible apply Kf.upd

theorem State.repayTail_kf {z : State} (s : State) (f : Frame) (hs : Kf z s) : Kf z (State.repayTail s f).1 := by
  unfold State.repayTail
  repeat' first
    | with_reducible first | assumption | apply Kf.ite | apply Kf.ite_fst | apply State.when_kf | apply State.blockPolicer_kf | apply State.polCount_kf | apply State.repayPolicer_kf
    | refine fun _ => ?_
    | ((try lift_lets); intro u; first | (refine Kf.cut (z := z) u ?_ ?_; (subst u); rotate_left; clear_value u; intro _) | (refine Kf.cut (z := z) u.st ?_ ?_; (subst u); rotate_left; clear_value u; intro _) | (refine Kf.cut (z := z) u.1 ?_ ?_; (subst u); rotate_left; clear_value u; intro _) | ((have _ := fun x => u x); subst u) | clear_value u)
    | dsimp only
    | (with_reducible apply Kf.fst; assumption)
    | split

theorem State.countRx_kf {z : State} (s : State) (p len reason : Nat) (hs : Kf z s) : Kf z (State.countRx s p len reason) := by
  unfold State.countRx
  repeat' first
    | with_reducible first | assumption | apply State.when_kf | apply State.count_kf
    | refine fun _ => ?_
    | ((try lift_lets); intro u; first | (refine Kf.cut (z := z) u ?_ ?_; (subst u); rotate_left; clear_value u; intro _) | (refine Kf.cut (z := z) u.st ?_ ?_; (subst u); rotate_left; clear_value u; intro _) | (refine Kf.cut (z := z) u.1 ?_ ?_; (subst u); rotate_left; clear_value u; intro _) | ((have _ := fun x => u x); subst u) | clear_value u)
    | dsimp only

theorem State.makeCopy_kf {z : State} (s : State) (f : Frame) (e : Nat) (hs : Kf z s) : Kf z (State.makeCopy s f e) := by
  unfold State.makeCopy
  repeat' first
    | with_reducible first | assumption | apply Kf.id | apply State.when_kf | apply State.allocate_kf | apply State.count_kf | apply State.enterDrr_kf | apply State.raiseMark_kf | apply State.report_kf
    | refine fun _ => ?_
    | ((try lift_lets); intro u; first | (refine Kf.cut (z := z) u ?_ ?_; (subst u); rotate_left; clear_value u; intro _) | (refine Kf.cut (z := z) u.st ?_ ?_; (subst u); rotate_left; clear_value u; intro _) | (refine Kf.cut (z := z) u.1 ?_ ?_; (subst u); rotate_left; clear_value u; intro _) | ((have _ := fun x => u x); subst u) | clear_value u)
    | dsimp only
    | with_reducible apply Kf.upd

/-- `s` has the built of `z`. -/
structure Kb (z s : State) : Prop where
  eq : s.built = z.built
theorem Kb.upd {z s : State} {attn : Attention} {zdp : Zdp} {frames : List Frame} {copies : List Copy} {nextFrame : Nat} {nextCopy : Nat} {drr : SMap (List Nat)} {fences : List Fence} {oldResv : List OldResv} {oldBounds : List OldBound} {handoffs : List Handoff} {postcards : SMap (List Nat)} {out : List Out} {tap : Tap} {freeCtr : Nat}
    (h : Kb z s) : Kb z ⟨s.regs, s.tabs, s.mem, attn, zdp, s.stagings, s.clock, frames, copies, nextFrame, nextCopy, drr, fences, oldResv, oldBounds, s.gates, handoffs, s.built, s.inactive, postcards, out, tap, freeCtr, s.pending⟩ := ⟨h.eq⟩
theorem Kb.ite {z a b : State} {c : Prop} [Decidable c] (ha : c → Kb z a) (hb : ¬c → Kb z b) : Kb z (if c then a else b) := by
  split
  · exact ha ‹_›
  · exact hb ‹_›
theorem Kb.ite_fst {α : Type} {z : State} {a b : State × α} {c : Prop} [Decidable c] (ha : c → Kb z a.1)
    (hb : ¬c → Kb z b.1) : Kb z (if c then a else b).1 := by
  split
  · exact ha ‹_›
  · exact hb ‹_›
theorem Kb.id {z s : State} (h : Kb z s) : Kb z (id s) := h
theorem Kb.cut {z : State} {P : Prop} (u : State) (h : Kb z u) (k : Kb z u → P) : P := k h
theorem Kb.fst {α : Type} {z a : State} {b : α} {p : State × α} (e : p = (a, b)) (h : Kb z p.1) : Kb z a := by subst e; exact h
theorem State.when_kb {z s : State} {c : Bool} {f : State → State} (h : Kb z s) (g : ∀ u, Kb z u → Kb z (f u)) : Kb z (s.when c f) := by
  unfold State.when; split
  · exact g s h
  · exact h
theorem State.forAll_kb {α : Type} {z s : State} {l : List α} {f : State → α → State} (h : Kb z s)
    (g : ∀ u a, Kb z u → Kb z (f u a)) : Kb z (s.forAll l f) := by
  induction l generalizing s with
  | nil => exact h
  | cons a l ih => exact ih (g s a h)
theorem State.setReg_kb {z s : State} {k v : Nat} (h : Kb z s) : Kb z (s.setReg k v) := ⟨h.eq⟩
theorem State.bump_kb {z : State} (s : State) (k w n : Nat) (h : Kb z s) : Kb z (s.bump k w n) := ⟨h.eq⟩
theorem State.bumpSat_kb {z : State} (s : State) (k w n : Nat) (h : Kb z s) : Kb z (s.bumpSat k w n) := ⟨h.eq⟩
theorem State.drop_kb {z : State} (s : State) (k n : Nat) (h : Kb z s) : Kb z (s.drop k n) := ⟨h.eq⟩
theorem State.resetReg_kb {z : State} (s : State) (k : Nat) (h : Kb z s) : Kb z (s.resetReg k) := ⟨h.eq⟩
theorem State.setTab_kb {z s : State} {t i v : Nat} (h : Kb z s) : Kb z (s.setTab t i v) := ⟨h.eq⟩
theorem State.clearTabRange_kb {z s : State} {t lo hi : Nat} (h : Kb z s) : Kb z (s.clearTabRange t lo hi) := ⟨h.eq⟩
theorem State.clearTab_kb {z s : State} {t : Nat} (h : Kb z s) : Kb z (s.clearTab t) := ⟨h.eq⟩
theorem State.emit_kb {z s : State} {o : Out} (h : Kb z s) : Kb z (s.emit o) := ⟨h.eq⟩
theorem State.drew_kb {z s : State} (h : Kb z s) : Kb z s.drew := ⟨h.eq⟩
theorem State.trigger_kb {z : State} (s : State) (n : Nat) (h : Kb z s) : Kb z (s.trigger n) :=
  ⟨(Only.trigger (R := []) (T := []) s n).built.trans h.eq⟩
theorem State.flag_kb {z : State} (s : State) (k i : Nat) (h : Kb z s) : Kb z (s.flag k i) := ⟨h.eq⟩
theorem State.event_kb {z : State} (s : State) (k i n : Nat) (h : Kb z s) : Kb z (s.event k i n) := State.trigger_kb _ _ (State.flag_kb _ _ _ h)
theorem State.deliverDue_kb {z s : State} (h : Kb z s) : Kb z s.deliverDue := ⟨(Only.deliverDue (R := []) (T := []) s).built.trans h.eq⟩
theorem State.setCause_kb {z : State} (s : State) (i : Nat) (b : Bool) (h : Kb z s) : Kb z (s.setCause i b) :=
  ⟨(Only.setCause (R := modeRegs) (T := []) s i b (by simp) (by simp) (by simp) (by simp) (by simp) (by simp) (by simp)).built.trans h.eq⟩
theorem State.logFault_kb {z : State} (s : State) (code cls action source part data : Nat) (h : Kb z s) :
    Kb z (s.logFault code cls action source part data) :=
  ⟨(Only.logFault (R := [Reg.FAULT_LOG.LOG_HEAD, Reg.FAULT_LOG.PERSISTED_HEAD]) (T := [Tab.faultLog, Tab.faultPersisted])
    s code cls action source part data (by simp) (by simp) (by simp) (by simp)).built.trans h.eq⟩
theorem State.setCounter_kb {z : State} (s : State) (n v : Nat) (h : Kb z s) : Kb z (s.setCounter n v) := ⟨h.eq⟩
theorem State.overflowed_kb {z : State} (s : State) (n : Nat) (h : Kb z s) : Kb z (s.overflowed n) := by
  unfold State.overflowed
  exact State.event_kb _ _ _ _ (State.bump_kb _ _ _ _ (State.setTab_kb h))
theorem State.count_kb {z : State} (s : State) (n amt : Nat) (h : Kb z s) : Kb z (s.count n amt) := by
  unfold State.count
  split
  · exact h
  · split
    · dsimp only
      exact State.when_kb (State.setCounter_kb _ _ _ (State.setCounter_kb _ _ _ h)) fun u hu => State.overflowed_kb _ _ hu
    · dsimp only
      exact State.when_kb (State.setCounter_kb _ _ _ h) fun u hu => State.overflowed_kb _ _ hu
theorem State.raiseMark_kb {z : State} (s : State) (k q v : Nat) (h : Kb z s) : Kb z (s.raiseMark k q v) := by
  unfold State.raiseMark; exact State.when_kb h fun _ hu => State.setReg_kb hu

theorem State.report_kb {z : State} (s : State) (p k n : Nat) (hs : Kb z s) : Kb z (State.report s p k n) := by
  unfold State.report
  repeat' first
    | with_reducible first | assumption | apply State.setTab_kb

theorem State.putFrame_kb {z : State} (s : State) (f : Frame) (hs : Kb z s) : Kb z (State.putFrame s f) := by
  unfold State.putFrame
  repeat' first
    | with_reducible first | assumption | apply Kb.ite | apply Kb.id
    | refine fun _ => ?_
    | dsimp only
    | with_reducible apply Kb.upd

theorem State.sample_kb {z : State} (s : State) (p : Nat) (hs : Kb z s) : Kb z (State.sample s p).1 := by
  unfold State.sample
  repeat' first
    | with_reducible first | assumption | apply Kb.ite | apply Kb.ite_fst | apply State.setTab_kb
    | refine fun _ => ?_
    | ((try lift_lets); intro u; first | (refine Kb.cut (z := z) u ?_ ?_; (subst u); rotate_left; clear_value u; intro _) | (refine Kb.cut (z := z) u.st ?_ ?_; (subst u); rotate_left; clear_value u; intro _) | (refine Kb.cut (z := z) u.1 ?_ ?_; (subst u); rotate_left; clear_value u; intro _) | ((have _ := fun x => u x); subst u) | clear_value u)

theorem State.accept_kb {z : State} (s : State) (p part : Nat) (hs : Kb z s) : Kb z (State.accept s p part).1 := by
  unfold State.accept
  repeat' first
    | with_reducible first | assumption | apply State.report_kb | apply State.sample_kb
    | ((try lift_lets); intro u; first | (refine Kb.cut (z := z) u ?_ ?_; (subst u); rotate_left; clear_value u; intro _) | (refine Kb.cut (z := z) u.st ?_ ?_; (subst u); rotate_left; clear_value u; intro _) | (refine Kb.cut (z := z) u.1 ?_ ?_; (subst u); rotate_left; clear_value u; intro _) | ((have _ := fun x => u x); subst u) | clear_value u)
    | dsimp only
    | (with_reducible apply Kb.fst; assumption)
    | split
    | with_reducible apply Kb.upd

theorem State.countRx_kb {z : State} (s : State) (p len reason : Nat) (hs : Kb z s) : Kb z (State.countRx s p len reason) := by
  unfold State.countRx
  repeat' first
    | with_reducible first | assumption | apply State.when_kb | apply State.count_kb
    | refine fun _ => ?_
    | ((try lift_lets); intro u; first | (refine Kb.cut (z := z) u ?_ ?_; (subst u); rotate_left; clear_value u; intro _) | (refine Kb.cut (z := z) u.st ?_ ?_; (subst u); rotate_left; clear_value u; intro _) | (refine Kb.cut (z := z) u.1 ?_ ?_; (subst u); rotate_left; clear_value u; intro _) | ((have _ := fun x => u x); subst u) | clear_value u)
    | dsimp only

end Sys2Proof.Machine
end

