-- ==== Sys2Proof/Machine/TestPort.lean ====
section
/-!
DEFINITION. The test access port (R586): the controller of IEEE 1149.1, IDCODE, the boundary register, EXTEST and AC EXTEST. No command of
the table clocks it and none of its effects reaches the block's other state, so a step leaves it as it is (log entry 74).
-/
namespace Sys2Proof.Machine

/-- IDCODE: version 0x1 for B0, part 0x5120, and bit 0 set. -/
abbrev idcode : Nat := 0x15120BBB

/-- The port is available: VDD_CORE is on, and the device is neither in STANDBY nor in RETENTION. -/
def State.tapAvailable (s : State) : Bool := s.coreOn

/-- The controller at a rising edge of TCK. -/
def TapState.next (c : TapState) (tms : Bool) : TapState :=
  match c with
  | .testLogicReset => if tms then .testLogicReset else .runTestIdle
  | .runTestIdle => if tms then .selectDr else .runTestIdle
  | .selectDr => if tms then .selectIr else .captureDr
  | .captureDr => if tms then .exit1Dr else .shiftDr
  | .shiftDr => if tms then .exit1Dr else .shiftDr
  | .exit1Dr => if tms then .updateDr else .pauseDr
  | .pauseDr => if tms then .exit2Dr else .pauseDr
  | .exit2Dr => if tms then .updateDr else .shiftDr
  | .updateDr => if tms then .selectDr else .runTestIdle
  | .selectIr => if tms then .testLogicReset else .captureIr
  | .captureIr => if tms then .exit1Ir else .shiftIr
  | .shiftIr => if tms then .exit1Ir else .shiftIr
  | .exit1Ir => if tms then .updateIr else .pauseIr
  | .pauseIr => if tms then .exit2Ir else .pauseIr
  | .exit2Ir => if tms then .updateIr else .shiftIr
  | .updateIr => if tms then .selectDr else .runTestIdle

/-- The instruction of a code: all ones is BYPASS (IEEE 1149.1); the other codes are not given. -/
def tapInstr (ir : Nat) : TapInstr :=
  if ir + 1 = 2 ^ Config.tapIrLength then .bypass
  else match Config.tapCode ir with | 1 => .idcode | 2 => .sample | 3 => .extest | 4 => .acExtest | _ => .bypass

/-- Bits of the data register that an instruction selects. -/
def TapInstr.length (i : TapInstr) : Nat :=
  match i with | .bypass => 1 | .idcode => 32 | _ => Config.boundaryLength

/-- A bit is shifted into a register of `n` bits. -/
def shiftIn (n r : Nat) (tdi : Bool) : Nat := r / 2 + (if n = 0 then 0 else ofBool tdi * 2 ^ (n - 1))

/-- A clock of the test access port with the levels of TMS and TDI; `pins`: what the boundary cells capture. -/
def Tap.clock (t : Tap) (tms tdi : Bool) (pins : Nat) : Tap :=
  let t := match t.ctl with
    | .captureDr => { t with dr := match t.instr with | .bypass => 0 | .idcode => idcode | _ => pins % 2 ^ Config.boundaryLength }
    | .shiftDr => { t with dr := shiftIn t.instr.length t.dr tdi }
    | .captureIr => { t with ir := 1 }
    | .shiftIr => { t with ir := shiftIn Config.tapIrLength t.ir tdi }
    | _ => t
  let c := t.ctl.next tms
  let t := { t with ctl := c }
  match c with
  | .testLogicReset => { t with instr := .idcode }
  | .updateIr => { t with instr := tapInstr t.ir }
  | .updateDr => (match t.instr with | .bypass | .idcode => t | _ => { t with boundary := t.dr })
  | _ => t

/-- TDO while a register shifts. -/
def Tap.tdo (t : Tap) : Option Bool :=
  match t.ctl with | .shiftDr => some (bit t.dr 0) | .shiftIr => some (bit t.ir 0) | _ => none

/-- What the port drives onto the pins in place of the device: the boundary latches under EXTEST and AC EXTEST, nothing else, and nothing
in reset. -/
def Tap.drives (t : Tap) : Option Nat :=
  match t.instr with | .extest | .acExtest => some t.boundary | _ => none

/-- A rising edge of TCK. -/
def State.tapClock (s : State) (tms tdi : Bool) : State :=
  if s.tapAvailable then { s.drew with tap := s.tap.clock tms tdi (s.freeBelow (2 ^ Config.boundaryLength)) } else s

/-- TRST_N low holds the port in reset. -/
def State.tapReset (s : State) : State := { s with tap := Tap.idle }

end Sys2Proof.Machine
end

