-- ==== Sys2Proof/WellFormed.lean ====
section
/-!
DEFINITION. The commands that can be given: every operand fits the field that carries it. exec gives every command
a meaning, well formed or not; statements that need it name it.
-/
namespace Sys2Proof

/-- The list holds octets. -/
def octetsOk (b : Bytes) : Bool := b.all (· < 256)

/-- The header fields fit their widths (R61). -/
def Request.wellFormed (q : Request) : Bool :=
  q.addrKind < 3 && q.addr < 2 ^ 144 && q.mac < 2 ^ 48 && q.vlans.all (· < 2 ^ 32) && q.service < 65536 && q.device < 2 ^ 128 && q.verFlags < 256 && q.tag < 2 ^ 16
    && q.seq < 2 ^ 32 && q.session < 2 ^ 16 && q.index < 2 ^ 16 && q.sub < 256 && q.reserved < 256 && q.length < 2 ^ 16
    && q.arg < 2 ^ 32 && octetsOk q.data

end Sys2Proof
end

