-- ==== Sys2Proof/Tests/Slice0.lean ====
section
/-!
SUPPORT. The model's own tests: an ill-formed term for each check of WellFormed, numbers that the spec works out, and, for each statement
with hypotheses, states and operands that meet them.
-/
namespace Sys2Proof.Tests
open Sys2Proof.Machine
set_option Elab.async false

/-! ### Helpers -/

/-- Registers set. -/
def regs (s : State) (l : List (Nat × Nat)) : State := l.foldl (fun s e => s.setReg e.1 e.2) s
/-- Elements of a table set. -/
def tabs (s : State) (t : Nat) (l : List (Nat × Nat)) : State := l.foldl (fun s e => s.setTab t e.1 e.2) s

/-- The core runs in OPERATIONAL, host port 0 is UP, session 0 is open for a host on it with 64 tags, and the presence window is open. -/
def host : State := regs State.reset [(Reg.SESSION.STATE 0, 1), (Reg.SESSION.PORT 0, 512), (Reg.SESSION.HOST_ADDR 0, 7),
  (Reg.SESSION.TAG_COUNT 0, 64), (Reg.DEVICE_STATUS.MODE, 2), (Reg.POWER_STATE.STATE, 3), (Reg.PRESENCE.WINDOW_OPEN, 1),
  (Reg.PRESENCE.REMAINING_MS, 1000), (Reg.PORT.LINK_STATE 512, 3)]

/-- A request of that host: index, sub-index, LENGTH, ARG and DATA. -/
def ask (idx sub len arg : Nat) (data : Bytes) : Request :=
  ⟨512, 0, 7, 0, [], 0x88B5, 0, true, 0x10, 3, 5, 0, idx, sub, 0, len, arg, data, 20 + data.length, false⟩
/-- One without a session. -/
def askBare (arg : Nat) : Request := { ask 0 0 0 arg [] with session := 0xFFFF }
/-- What a check of an object passes. -/
def passes : Checked → Option Sub
  | .pass _ r => some r
  | .refuse _ => none

/-! ### Ill-formed requests -/

theorem smoke_request_ok : (ask 0x0400 1 0 0 []).wellFormed = true := by decide
theorem smoke_request_bad :
    { ask 0 0 0 0 [] with addrKind := 3 }.wellFormed = false ∧ { ask 0 0 0 0 [] with addr := 2 ^ 144 }.wellFormed = false
    ∧ { ask 0 0 0 0 [] with mac := 2 ^ 48 }.wellFormed = false ∧ { ask 0 0 0 0 [] with vlans := [2 ^ 32] }.wellFormed = false
    ∧ { ask 0 0 0 0 [] with service := 65536 }.wellFormed = false ∧ { ask 0 0 0 0 [] with device := 2 ^ 128 }.wellFormed = false
    ∧ { ask 0 0 0 0 [] with verFlags := 256 }.wellFormed = false ∧ { ask 0 0 0 0 [] with tag := 65536 }.wellFormed = false
    ∧ { ask 0 0 0 0 [] with seq := 2 ^ 32 }.wellFormed = false ∧ { ask 0 0 0 0 [] with session := 65536 }.wellFormed = false
    ∧ { ask 0 0 0 0 [] with index := 65536 }.wellFormed = false ∧ { ask 0 0 0 0 [] with sub := 256 }.wellFormed = false
    ∧ { ask 0 0 0 0 [] with reserved := 256 }.wellFormed = false ∧ { ask 0 0 0 0 [] with length := 65536 }.wellFormed = false
    ∧ { ask 0 0 0 0 [] with arg := 2 ^ 32 }.wellFormed = false ∧ { ask 0 0 0 0 [] with data := [256] }.wellFormed = false := by decide

/-- No row of the command table gives bits, so no word spells a command. -/
theorem test_no_word_spells : decodeTableWord 32 0xC1002EE0 = none := by decide

/-! ### The block as a whole -/

theorem witness_invariants : State.reset.wf = true ∧ State.reset.attnAgrees = true ∧ State.reset.nothingDue = true
    ∧ host.wf = true ∧ host.attnAgrees = true ∧ host.nothingDue = true := by decide +kernel
/-- The state after a step. -/
def after : Next → State
  | .next s => s
  | _ => State.reset
theorem test_empty_queue_ticks : (after (step State.reset)).clock.island = 1 := by decide +kernel
theorem test_reset_mode : State.reset.mode = 0 ∧ State.reset.coreOn = false := by decide +kernel

/-! ### Requests -/

/-- READ of MAX_DATA. -/
theorem witness_read : let q := ask 0x0100 7 0 0 []
    let u := host.taken Zop.read q
    host.admits Zop.read q = true ∧ isDiagnostic 0x0100 = false
    ∧ (passes (u.checkObject (askerOf q) Zop.read 0x0100 7)).isSome = true
    ∧ u.blockInReset Zop.read 0x0100 7 = false ∧ u.jobRefuses 0x0100 7 = none := by decide +kernel
/-- BLOCK_READ of the last octets of the fault log. -/
theorem witness_blockRead : let q := ask 0x0510 1 64 4032 []
    let u := host.taken Zop.blockRead q
    host.admits Zop.blockRead q = true
    ∧ ((passes (u.checkObject (askerOf q) Zop.blockRead 0x0510 1)).map (fun r => u.blockRefuses r 4032 64)) = some none
    ∧ u.blockInReset Zop.blockRead 0x0510 1 = false ∧ u.jobRefuses 0x0510 1 = none := by decide +kernel
/-- WRITE of BASE_DIVIDER, a saved sub-index. -/
theorem witness_write : let q := ask 0x0400 4 1 0 [6]
    let u := (host.taken Zop.write q).holdSetting 0x0400 4
    host.admits Zop.write q = true
    ∧ ((passes (u.checkObject (askerOf q) Zop.write 0x0400 4)).map (fun r => (r.ty.size, valueRefuses r 6, u.saving && r.saved)))
        = some (1, false, false)
    ∧ u.blockInReset Zop.write 0x0400 4 = false := by decide +kernel
/-- BLOCK_WRITE of the last deficit quantum of port 642. -/
theorem witness_blockWrite : let q := ask 0x5282 2 4 60 [0, 0, 2, 0]
    let u := (host.taken Zop.blockWrite q).holdSetting 0x5282 2
    host.admits Zop.blockWrite q = true
    ∧ ((passes (u.checkObject (askerOf q) Zop.blockWrite 0x5282 2)).map (fun r => (u.blockRefuses r 60 4, u.saving && r.saved)))
        = some (none, false)
    ∧ u.blockInReset Zop.blockWrite 0x5282 2 = false := by decide +kernel
/-- WINDOW_COMMIT of the exact-match window. -/
theorem witness_windowCommit : let q := ask 0x3020 0 0 0 []
    let u := host.taken Zop.windowCommit q
    host.admits Zop.windowCommit q = true ∧ (passes (u.checkObject (askerOf q) Zop.windowCommit 0x3020 0)).isSome = true
    ∧ ((Dict.lookup 0x3020).map (fun o => o.win.isSome)) = some true
    ∧ u.blockInReset Zop.windowCommit 0x3020 0 = false := by decide +kernel
/-- PARKED_WATCH with ATTN_SEQ seen and with another, PING with a session, RELEASE. -/
theorem witness_sessionRequests : host.admits Zop.parkedWatch (ask 0 0 0 65536 []) = true
    ∧ (host.taken Zop.parkedWatch (ask 0 0 0 65536 [])).serves Zop.parkedWatch (ask 0 0 0 65536 []) = true
    ∧ (host.taken Zop.parkedWatch (ask 0 0 0 65536 [])).nothingDue = true ∧ 65536 % 65536 = host.attn.seq ∧ 1 % 65536 ≠ host.attn.seq
    ∧ host.admits Zop.ping (ask 0 0 0 0 []) = true ∧ (host.taken Zop.ping (ask 0 0 0 0 [])).serves Zop.ping (ask 0 0 0 0 []) = true
    ∧ host.admits Zop.release (ask 0 0 0 4095 []) = true ∧ (host.taken Zop.release (ask 0 0 0 4095 [])).serves Zop.release (ask 0 0 0 4095 []) = true
    ∧ (host.taken Zop.release (ask 0 0 0 4095 [])).blockInReset Zop.release 0 0 = false := by decide +kernel
/-- RELEASE of slot 4095 where its record is complete, free, and running. -/
theorem witness_release : (∀ st ∈ [3, 2], let s := (host.setTab Tab.jobDesc 4095 (4095 * 2 ^ 480)).setTab Tab.jobState 4095 st
    jobSeq (s.tab Tab.jobDesc 4095) = 4095 ∧ s.tab Tab.jobState 4095 = st)
    ∧ host.tab Tab.jobState 4095 = 0 := by decide +kernel
/-- A 65th watch. -/
theorem witness_watchesFull : let w : Watch := ⟨ask 0 0 0 0 [], 0, 0⟩
    let s : State := { host with zdp := { host.zdp with watches := List.replicate 64 w } }
    s.admits Zop.parkedWatch (ask 0 0 0 0 []) = true ∧ 64 ≤ s.zdp.watches.length := by decide +kernel
theorem witness_bare : host.admitsBare Zop.ping (askBare 0) = true ∧ (host.accepted Zop.ping (askBare 0)).serves Zop.ping (askBare 0) = true
    ∧ (askBare 0).session = 0xFFFF := by decide +kernel
/-- A watch with a TIMEOUT times out; an address request for the device's IPv4 address is heard. -/
theorem witness_watchTimeout : let w : Watch := ⟨ask 0 0 0 (5 * 65536) [], 0, 5⟩
    let s : State := { host with zdp := { host.zdp with watches := [w] } }
    s.nothingDue = true ∧ s.zdp.watches.find? (fun w => w.q.session == 0 && w.q.tag == 3 && w.timeoutMs != 0) = some w := by
  decide +kernel
theorem witness_addressRequest : let s := regs host [(Reg.ZDP_CONFIG.UDP_ENABLE, 1), (Reg.ZDP_CONFIG.IPV4_ADDR, 0x0A000001)]
    s.portUp 512 = true ∧ (s.macReceived 512 64).nothingDue = true ∧ s.zdpSetting 0x02 = 1 ∧ 0x0A000001 = s.zdpSetting 0x04 := by
  decide +kernel
/-- OPEN of 128 tags by another host, the fewest and the most tags, and a repeated OPEN. -/
theorem witness_open : ∀ n ∈ [64, 128, 4096], let q := { askBare n with addr := 8 }
    host.admitsBare Zop.openOp q = true ∧ (host.accepted Zop.openOp q).serves Zop.openOp q = true ∧ host.sameOpen q = none
    ∧ (host.grantRun (n / 64)).isSome = true ∧ host.closedSessions ≠ [] := by decide +kernel
theorem witness_openAgain : (regs host [(Reg.SESSION.OPEN_SEQ 0, 5)]).sameOpen (askBare 64) = some 0
    ∧ (regs host [(Reg.SESSION.OPEN_SEQ 0, 5)]).admitsBare Zop.openOp (askBare 64) = true := by decide +kernel
theorem witness_close : host.admits Zop.close (ask 0 0 0 0 []) = true
    ∧ (host.taken Zop.close (ask 0 0 0 0 [])).serves Zop.close (ask 0 0 0 0 []) = true
    ∧ host.permits 0 0x0102 0x01 0 = true ∧ host.reg (Reg.SESSION.STATE 0) = 1
    ∧ (regs host [(Reg.SESSION.STATE 0, 2)]).sessionQuiet 0 = true := by decide +kernel
theorem witness_registerWrite : host.permits 0 0x0400 4 8 = true ∧ isDiagnostic 0x0400 = false
    ∧ (passes (host.checkObject (host.asker 0) Zop.write 0x0400 4)).isSome = true := by decide +kernel

/-! ### The configuration store and windows -/

theorem witness_storeCommands : (∀ v ∈ [1, 2, 3, 4, 5], host.permits 0 0x0020 0x01 v = true) ∧ host.storeState = 0
    ∧ host.permitsBlock 0 0x0020 0x0D 0 4 = true ∧ host.tab Tab.store 0 = 0 := by decide +kernel
/-- States in which a command of the store runs, and an empty image that one restores. -/
theorem witness_storeEnds : (regs host [(Reg.CONFIG_STORE.STATE, 1)]).saving = true
    ∧ (∀ v ∈ [2, 3, 4, 5], (regs host [(Reg.CONFIG_STORE.STATE, v)]).storeState = v) ∧ (host.tab Tab.store 6 = 0 ∨ host.tab Tab.store 6 = 1) := by
  decide +kernel
/-- A range that ends at the window's end, for each of TARGET, BASE and COUNT; an element staged; and a staging to abort. -/
theorem witness_windows : (∀ e ∈ [(1, 0), (2, 16383), (3, 1)], host.permits 0 0x3020 e.1 e.2 = true ∧ (rangeEffect 0 0x3020 e.1 e.2 host).code = Code.ok)
    ∧ ((Dict.lookup 0x3020).map (fun o => o.win.isSome)) = some true := by decide +kernel
theorem witness_stage : let s := (host.setTab Tab.winCount 0x3020 2)
    s.permitsBlock 0 0x3020 0x09 (elemBytes 0x3020) (elemBytes 0x3020) = true ∧ s.stagingRefuses 0 0x3020 = none
    ∧ s.stageTargetRefuses 0x3020 (s.stagingFor 0 0x3020).target = none
    ∧ elemBytes 0x3020 + elemBytes 0x3020 ≤ (s.stagingFor 0 0x3020).count * elemBytes 0x3020 := by decide +kernel
theorem witness_abort : let s := host.putStaging (host.newStaging 0 0x3020)
    s.permits 0 0x3020 0x0A 1 = true ∧ ((s.staging? 0x3020).map (fun g => (g.state, g.owner))) = some (1, 0) := by decide +kernel

/-! ### Presence, life cycle, keys and the seal -/

theorem witness_key : State.reset.reg Reg.PRESENCE.KEY_ASSERTED = 0 ∧ State.reset.reg Reg.PRESENCE.WINDOW_OPEN = 0
    ∧ host.reg Reg.PRESENCE.KEY_ASSERTED = 0 ∧ host.reg Reg.PRESENCE.WINDOW_OPEN = 1
    ∧ (∀ m ∈ [0, 1], (regs host [(Reg.PRESENCE.KEY_ASSERTED, 1), (Reg.PRESENCE.KEY_MODE, m)]).reg Reg.PRESENCE.KEY_MODE = m)
    ∧ (regs host [(Reg.PRESENCE.REMAINING_MS, 1)]).reg Reg.PRESENCE.REMAINING_MS ≤ 1 ∧ host.permits 0 0x0200 0x08 1 = true := by decide +kernel
theorem witness_enrol : let s := regs host [(Reg.KEY_SLOT.STATE 1, 1), (Reg.KEY_SLOT.STATE 2, 1)]
    s.reg Reg.LIFECYCLE.STATE = 0 ∧ s.reg Reg.SEAL.INTACT = 1 ∧ (s.keyEnrolled 0 || s.keyEnrolled 1) = true
    ∧ (s.keyEnrolled 2 || s.keyEnrolled 3) = true ∧ s.permits 0 0x0210 0x02 1 = true := by decide +kernel
theorem witness_lifeCycle :
    (let s := regs host [(Reg.LIFECYCLE.STATE, 2), (Reg.SEAL.WIPE_STATE, 3)];
      s.reg Reg.SEAL.INTACT = 1 ∧ s.reg Reg.PRESENCE.WINDOW_OPEN = 1 ∧ s.tab Tab.presence 11 = 0 ∧ s.permits 0 0x0210 0x02 2 = true)
    ∧ (let s := regs host [(Reg.LIFECYCLE.STATE, 3)];
      (∀ k, k < 4 → s.keyEnrolled k = false) ∧ s.permits 0 0x0210 0x02 4 = true)
    ∧ ∀ v ∈ [1, 2], (regs host [(Reg.LIFECYCLE.STATE, v)]).permits 0 0x0210 0x02 3 = true := by decide +kernel
/-- The base point of the curve as a key, and a slot revoked in FACTORY and, the other being enrolled, in ENROLLED. -/
theorem witness_keys :
    P384.onCurve 0xaa87ca22be8b05378eb1c71ef320ad746e1d3b628ba79b9859f741e082542a385502f25dbf55296c3a545e3872760ab7
      0x3617de4a96262c6f5d9e98bf9292dc29f8f41dbd289a147ce9da3113b5f0b8c00a60b1ce1d7e819d7a431d7c90ea0e5f = true
    ∧ host.permits 0 0x0223 0x03 5 = true ∧ host.keyEnrolled 3 = false ∧ host.permits 0 0x0223 0x05 1 = true
    ∧ (let s := regs host [(Reg.LIFECYCLE.STATE, 1), (Reg.KEY_SLOT.STATE 2, 1)];
      s.permits 0 0x0223 0x05 1 = true ∧ s.keyEnrolled (otherKey 3) = true) := by decide +kernel
theorem witness_seal : (∀ v ∈ [1, 2], (host.setSeal Seal.due v).seal Seal.due = v) ∧ host.permits 0 0x9400 0x02 1 = true
    ∧ (host.setSeal Seal.asked 1).seal Seal.asked ≠ 0 ∧ host.reg Reg.SEAL.WIPE_STATE ≠ 2 ∧ host.wipeDeferred = false
    ∧ ((host.setSeal Seal.asked 1).setSeal Seal.commanded 1).seal Seal.commanded ≠ 0
    ∧ [70000].filter (· < 65536) = [] ∧ [65535].filter (· < 65536) ≠ [] := by decide +kernel

/-! ### Lanes and links -/

/-- Port 0 of a kind (1 Ethernet, 2 Dalzan) is UP on lane 0, at 100 Gb/s. -/
def line (kind : Nat) : State := regs host [(Reg.PORT.KIND 0, kind), (Reg.PORT.WIDTH 0, 1), (Reg.PORT.PORT_SPEED 0, 4), (Reg.PORT.LINK_STATE 0, 3),
  (laneKey 0 0x01, 6), (laneKey 0 0x02, 4), (laneKey 0 0x03, 2), (laneKey 0 0x04, 1)]

theorem witness_laneStates : ∀ st, st < 9 → (regs host [(laneKey 519 0x01, st)]).laneState 519 = st := by decide +kernel
theorem witness_laneForms : (line 1).standbySlice 0 = false ∧ (regs host [(laneKey 512 0x02, 1)]).standbySlice 512 = true
    ∧ (line 1).trains 0 = true ∧ (regs host [(laneKey 512 0x02, 1)]).trains 512 = false := by decide +kernel
theorem witness_laneLeaves : (line 1).laneState 0 = 6
    ∧ (let s := (regs (line 1) [(laneKey 0 0x16, 1), (laneKey 0 0x17, 1)]).setTab Tab.uncorrected 0 (2 ^ 32 + 1);
      s.lane 0 0x16 = 1 ∧ s.lane 0 0x17 ≤ s.uncorrectedNow 0)
    ∧ (line 1).permits 0 (laneIdx 0) 0x19 1 = true ∧ host.permits 0 (laneIdx 519) 0x19 1 = true ∧ host.laneState 519 ≠ 6 := by decide +kernel
theorem witness_laneCounts : (line 1).lane 0 0x03 ≠ 0 ∧ (regs (line 1) [(laneKey 0 0x03, 0)]).lane 0 0x03 = 0
    ∧ (line 1).portOfLane 0 = some 0 ∧ (line 1).lowLane 0 = 0 := by decide +kernel
/-- A tap at the limit of R150 and one over it; TRAINING. -/
theorem witness_taps : (∀ v ∈ [4, 5], host.permits 0 (laneIdx 0) 0x09 v = true)
    ∧ tapsOk [4, 0, 0, 60, 0] = true ∧ tapsOk [5, 0, 0, 59, 0] = false ∧ (regs host [(laneKey 0 0x01, 3)]).laneState 0 = 3 := by decide +kernel
theorem witness_tests : (∀ sub ∈ [0x1C, 0x1D, 0x1E], host.permits 0 (laneIdx 0) sub 3 = true) ∧ host.laneState 0 ≠ 6 ∧ host.laneState 0 ≠ 8
    ∧ host.lane 0 0x1F = 0 ∧ patternOk 4 9 true = true ∧ patternOk 1 6 false = true
    ∧ host.permits 0 (laneIdx 0) 0x22 1 = true ∧ host.permits 0 (laneIdx 0) 0x23 1 = true ∧ host.lane 0 0x24 ≠ 1
    ∧ (regs host [(laneKey 0 0x1F, 1), (laneKey 0 0x1E, 3), (laneKey 0 0x24, 1)]).lane 0 0x1F ≠ 0 := by decide +kernel
theorem witness_linkStates : (regs host [(Reg.PORT.LINK_STATE 513, 2)]).reg (Reg.PORT.LINK_STATE 513) = 2
    ∧ bit ((line 1).tab Tab.portFault 0) 1 = false ∧ (line 1).lanesUp 0 = true ∧ (line 1).portKind 0 ≠ 2 ∧ (line 1).linkDisabled 0 = false
    ∧ (regs (line 1) [(Reg.PORT.LINK_STATE 0, 1)]).reg (Reg.PORT.LINK_STATE 0) = 1 := by decide +kernel
theorem witness_pause : 2 ≤ host.reg (Reg.PORT.LINK_STATE 512)
    ∧ (regs host [(Reg.PORT.PAUSE_RX_ENABLE 512, 1)]).reg (Reg.PORT.PAUSE_RX_ENABLE 512) = 1
    ∧ 2 ≤ (line 1).reg (Reg.PORT.LINK_STATE 0) ∧ (line 1).portKind 0 = 1 := by decide +kernel
theorem witness_bypass : let s : State := { host with zdp := { host.zdp with bypass0 := [.arp false 1 2 3] } };
    s.portUp 512 = true ∧ s.tab Tab.hostPause 0 = 0 ∧ s.bypassOnWire 512 = false ∧ s.noCopy 512 = true
    ∧ popCount 16 (s.gateMask 512 s.clock.ptp) ≠ 1 ∧ s.endsByEdge 512 2000 = true := by decide +kernel
/-- A Dalzan link that starts and one that runs, and the control blocks of both kinds: an INIT with grants and ACK, and a CREDIT. -/
theorem witness_dalzan : (line 2).portKind 0 = 2 ∧ (∀ v ∈ [1, 2], (regs (line 2) [(Reg.PORT.DALZAN_STATE 0, v)]).reg (Reg.PORT.DALZAN_STATE 0) = v)
    ∧ (let b := dcb ([0x11, 5] ++ List.replicate 24 0xFF ++ [0, 1]); dcbValid 1 b = true ∧ ofBE ((b.drop 26).take 2) = 1 ∧ dcbValid 0 b = false)
    ∧ (let b := dcb ([0x10, 3] ++ List.replicate 26 0); dcbValid 0 b = true ∧ dcbValid 1 b = false
      ∧ ∀ i, i < 4 → subMod 24 (ofBE ((b.drop (2 + 6 * i)).take 3)) (ofBE ((b.drop (5 + 6 * i)).take 3)) ≤ (line 2).grant 0 (12 + i)) := by
  decide +kernel
theorem witness_linkReset : let s := regs (line 2) [(Reg.PORT.DALZAN_STATE 0, 2)];
    s.reg (Reg.PORT.DALZAN_STATE 0) ≠ 0 ∧ s.lanesUp 0 = true ∧ s.permits 0 0x1400 0x14 1 = true := by decide +kernel
/-- A quad of four ports, the first at 25 Gb/s, is valid; a layout above 0x1F is not. -/
theorem witness_octet : host.permits 0 0x183F 0x0B 1 = true
    ∧ (let s := regs host [(regKey 0x183F 1, 1), (regKey 0x183F 2, 2)]; s.octetOk 63 = true ∧ s.octetPending 63 = true)
    ∧ (regs host [(regKey 0x183F 1, 0x20)]).octetOk 63 = false ∧ host.octetPending 63 = false := by decide +kernel

/-! ### Frames and queues -/

/-- 60 octets from one MAC address to another. -/
def octets60 : Bytes := [2, 0, 0, 0, 0, 1, 2, 0, 0, 0, 0, 2, 0x08, 0x00] ++ List.replicate 46 0x45
/-- That frame begins at port 0, and ends. -/
def started : State := after (execFrameStart 0 0 octets60 (line 1))
def ended : State := { started with frames := started.frames.map (fun f => { f with tailed := true, len := 64 }) }

theorem witness_frameStart : let s := line 1;
    octets60 ≠ [] ∧ s.coreOn = true ∧ 2 ≤ s.reg (Reg.PORT.LINK_STATE 0) ∧ isPauseOrPfc octets60 = false ∧ s.mode ≠ 4
    ∧ s.frameFenced 0 (pipeOf 0 0) = false ∧ octets60.length ≤ s.maxFrame 0 := by decide +kernel
theorem witness_hostFrame : host.isZdpFrame octets60 = false ∧ host.isAddressRequest octets60 = false
    ∧ host.frameFenced 512 (hostPipe 0 octets60) = false ∧ host.maxFrame 512 ≤ 262144 - host.hostFill 0
    ∧ host.isZdpFrame ([2, 0, 0, 0, 0, 1, 2, 0, 0, 0, 0, 2] ++ toBE 2 (host.zdpSetting 1) ++ List.replicate 46 0) = true
    ∧ isPauseOrPfc ([1, 0x80, 0xC2, 0, 0, 1, 2, 0, 0, 0, 0, 2, 0x88, 0x08, 0, 1] ++ List.replicate 44 0) = true
    ∧ State.reset.coreOn = false := by decide +kernel
theorem witness_frameTail : ((started.frame? 0).map (fun f => (f.tailed, f.stage, f.pool == Pool.dalzan, isMacControl f.octets, f.srcPort)))
    = some (false, 0, false, false, 0) := by decide +kernel

/-- The frame has been decided: it goes to port 1, whose queue 0 is strict. -/
def decided : State :=
  let s := regs ended [(Reg.PORT.KIND 1, 1), (Reg.PORT.WIDTH 1, 1), (Reg.PORT.PORT_SPEED 1, 4), (Reg.PORT.LINK_STATE 1, 3), (Reg.PORT_SCHED.STRICT_MASK 1, 1)]
  { s with frames := s.frames.map (fun f => { f with stage := 1, dests := [1], lenKnown := true }) }
/-- Its copy for port 1: queued (0), selected (1) or in transmission (2). -/
def copied (phase : Nat) : State :=
  { decided with
    frames := decided.frames.map (fun f => { f with stage := 2, refs := 1, final := true }),
    copies := [⟨0, 0, 1, 0, 4, false, false, false, phase, 0, 0, 0, 0, 0, true, 0, octets60, 60, false, false, false⟩] }

theorem witness_parserStart : ((ended.frame? 0).map (fun f => (f.tailed, f.stage, ended.parsesNext f, isMacControl f.octets,
    decide (((ended.ingress f).1.waiting (ended.ingress f).2.pipe).length < 64)))) = some (true, 0, true, false, true)
    ∧ ended.frame? 1 = none := by decide +kernel
/-- The frame is first in line; with a drop it goes whole, and still arriving it is (copied 0). -/
theorem witness_admission : ((decided.frame? 0).map (fun f => (f.stage, decide (decided.poolOf f = Pool.resv)))) = some (1, false)
    ∧ (((decided.waiting 0).map (·.id)) = [0])
    ∧ ((decided.frame? 0).map (fun f => (decided.cellsCheck { f with pool := decided.poolOf f } 1).toBool)) = some true
    ∧ decided.copiesOf 0 = [] ∧ decided.fenced 2 16 = false ∧ decided.fenced 3 1 = false ∧ decided.inRecovery 1 0 = false
    ∧ 0 < decided.ledgerFree Term.descQueued := by decide +kernel
theorem witness_selection : (∀ d ∈ (copied 0).copies, d.port = 1 → d.phase ≠ 1) ∧ (copied 0).bypassOnWire 1 = false
    ∧ (((copied 0).strictHead 1).map (·.queue)) = some 0 := by decide +kernel
theorem witness_copyStart : (((copied 1).copies.find? (fun c => c.port == 1 && c.phase == 1)).map (·.frame)) = some 0
    ∧ (∀ d ∈ (copied 1).copies, d.port = 1 → d.phase ≠ 2) ∧ (copied 1).portUp 1 = true
    ∧ (((copied 2).copies.find? (fun c => c.port == 1 && c.phase == 2)).map (·.frame)) = some 0
    ∧ (((copied 2).frame? 0).map (·.tailed)) = some true := by decide +kernel
theorem witness_aged : let s := { (regs (copied 0) [(Reg.PORT_BUFFER.AGE_LIMIT_US 1, 1)]) with clock := { (copied 0).clock with ptp := 1001 * nsUnit } };
    ((s.copies.find? (fun c => c.id == 0 && c.phase == 0)).map (·.port)) = some 1 ∧ s.reg (Reg.PORT_BUFFER.AGE_LIMIT_US 1) = 1
    ∧ ((s.frame? 0).map (fun f => decide (f.ts + 1000 * nsUnit < s.clock.ptp))) = some true := by decide +kernel
theorem witness_inject : let b : Built := ⟨514, 0, 1, 0, octets60, none⟩
    let s : State := { host with built := [b] };
    s.built.find? (fun b => b.port == 514 && b.kind != 0) = some b ∧ 60 ≤ b.octets.length ∧ b.octets.length + 4 ≤ s.maxFrame 514
    ∧ s.frameFenced 514 (pipeOf 514 0) = false := by decide +kernel
theorem witness_management : host.mgmtTags < 256 ∧ host.mode ≠ 4 ∧ host.frameFenced 642 (pipeOf 642 0) = false
    ∧ octets60.length + 4 ≤ host.maxFrame 642 := by decide +kernel

/-! ### Queues, reservations and the dovetail -/

theorem witness_portSched : host.wf = true ∧ host.permits 0 0x5282 8 64 = true ∧ host.zeroRate 642 8 64 = false ∧ host.carriesResv 642 = false
    ∧ (regs host [(Reg.PORT_SCHED.PSHAPE_RATE 642, 0)]).permits 0 0x5282 6 1 = true
    ∧ (regs host [(Reg.PORT_SCHED.PSHAPE_RATE 642, 0)]).zeroRate 642 6 1 = true ∧ host.permits 0 0x5602 0x01 131071 = true
    ∧ host.permits 0 0x5582 0x07 0xFFFF = true := by decide +kernel
/-- Port 642 is the egress of a live reservation, and the calculator rejects it there: 642 is no port of the fabric. -/
theorem witness_portSchedResv : let v := 2 ^ 255 + 642 * 2 ^ 216;
    let s := (host.setTab (Tab.win 0x6810) 65535 v).setTab Tab.resvState 65535 2
    s.carriesResv 642 = true ∧ s.resvLive 65535 = true ∧ ((s.applySched 642 8 64).evaluate []).toBool = false := by decide +kernel
theorem witness_pfc : let s := regs (line 1) [(Reg.PORT_PFC.XOFF_STATE 0, 0x80), (Reg.PORT_PFC.XON_CELLS 0, 0), (Reg.PORT_PFC.RX_ENABLE 0, 1),
      (Reg.PORT_PFC.PAUSE_MAP 0, 2 ^ 112), (Reg.PORT_PFC.IN_RECOVERY 0, 0x8000)];
    bit (s.reg (Reg.PORT_PFC.XOFF_STATE 0)) 7 = true ∧ s.reg (Reg.PORT_PFC.XON_CELLS 0) ≤ s.ingressUsage 0 7 ∧ s.portKind 0 = 1
    ∧ s.portUp 0 = true ∧ (s.setTab Tab.pfcTimer 0 5).pfcPaused 0 0 = true ∧ s.inRecovery 0 0 = false ∧ s.inRecovery 0 15 = true
    ∧ s.classMaps 0 0 = true ∧ s.classMaps 0 15 = false
    ∧ ({ s with copies := [⟨0, 0, 0, 0, 4, false, false, false, 0, 0, 0, 0, 0, 0, true, 0, [], 0, false, false, false⟩] } : State).queued 0 0 ≠ [] := by
  decide +kernel
/-- A scheduled commit of one record before and at its instant. -/
theorem witness_resvCommit : let g : Staging := { (host.newStaging 0 0x6810) with state := 3, instant := 5, elems := [(65535, 2 ^ 255)] }
    let s := host.putStaging g
    s.coreOn = true ∧ s.stagings.find? (fun h => h.window == 0x6810 && h.state == 3) = some g ∧ s.clock.ptp < g.instant
    ∧ s.reg Reg.TIME_UNIT.STATE ≠ 4 ∧ g.instant ≤ ({ s with clock := { s.clock with ptp := 5 } } : State).clock.ptp
    ∧ (g.elems.map (·.1)).Nodup ∧ (∀ x ∈ g.elems, x.1 < 65536) ∧ (∀ n ∈ s.resvList, n < 65536) ∧ (∀ o ∈ s.oldResv, o.n < 65536)
    ∧ (s.setTab Tab.resvState 65535 1).resvSt 65535 = 1 ∧ resvValid (2 ^ 255) = true := by decide +kernel
theorem witness_resvReturn : let s := host.setTab Tab.resvState 65535 3
    s.resvSt 65535 = 3 ∧ s.tab Tab.resvCause 65535 = 0 ∧ s.returnInstant 65535 = some 0 ∧ 0 ≤ s.clock.ptp
    ∧ s.permits 0 0x6801 0x01 65535 = true := by decide +kernel
theorem witness_dovetail : host.permits 0 0x6E00 0x04 1 = true ∧ host.permits 0 0x6E00 0x08 1 = true ∧ (∀ v ∈ [0, 1], host.permits 0 0x6E00 0x01 v = true)
    ∧ host.reg Reg.DOVETAIL.HEARTBEAT_MS = 0 ∧ (regs host [(Reg.DOVETAIL.HEARTBEAT_MS, 10)]).reg Reg.DOVETAIL.HEARTBEAT_MS ≠ 0
    ∧ (let s := tabs host Tab.sticky [(5, 1), (6, 1)]; s.tab Tab.sticky 6 = 1 ∧ s.peerLow = true ∧ s.partnerLink = false)
    ∧ (let s := (regs host [(Reg.DOVETAIL.ROLE, 1)]).setTab Tab.sticky 7 1; s.tab Tab.sticky 7 = 1 ∧ s.secondary = true) := by decide +kernel
theorem witness_mirror : let s := (regs host [(Reg.MIRROR_RANGE.ENABLE 15, 1), (Reg.MIRROR_RANGE.BASE 15, 131071), (Reg.MIRROR_RANGE.COUNT 15, 1),
      (Reg.MIRROR_RANGE.FRAMES_MAX 15, 1)]).setTab Tab.mirrorDirty 131071 0x8000;
    host.reg (Reg.MIRROR_RANGE.ENABLE 15) ≠ 1 ∧ s.wf = true ∧ (s.adoptMirror 15).dirtySlots 15 = [131071] ∧ s.reg (Reg.MIRROR_RANGE.FRAMES_MAX 15) ≠ 0
    ∧ s.injectFull (s.reg (Reg.MIRROR_RANGE.INJECT_PORT 15)) = false := by decide +kernel
theorem witness_history : let s := (host.setTab (Tab.win 0x6C00) 4095 (2 ^ 63)).setTab Tab.cbHistory 4095 (2 ^ 63);
    bit (s.tab (Tab.win 0x6C00) 4095) 63 = true ∧ bit (s.tab Tab.cbHistory 4095) 63 = true := by decide +kernel

/-! ### Signals, cycles and benches -/

/-- Slot 131071 writable by port A, with a type and order; a write of the wrong type, a forced slot, a write that is late, one that passes. -/
theorem witness_slot : let a := 1 * 2 ^ 120 + 0xFFFF * 2 ^ 96 + 2 ^ 127;
    let put := fun (x : Nat) => host.setTab (Tab.win 0x7011) 131071 x
    bit ((put a).slotAttr 131071) 127 = true ∧ attrType a = 1 ∧ attrPort a = 0xFFFF ∧ attrForce a = false ∧ attrOrder a = false
    ∧ attrForce (a + 2 ^ 119) = true ∧ attrOrder (a + 2 ^ 118) = true ∧ (0 : Nat) < 1 ∧ attrType a ≠ 2 := by decide +kernel
theorem witness_handoffs : let h : Handoff := ⟨63, true, 0, 512, 0, octets60, 14⟩
    let g : Handoff := ⟨0, false, 1, 512, 0, octets60, 0⟩
    let s : State := { host with handoffs := [g, h] };
    host.handoffs.find? (fun x => x.pipe == 63) = none ∧ s.handoffs.find? (fun x => x.pipe == 63) = some h
    ∧ (s.handoffs.erase h).find? (fun x => x.pipe == 0) = some g := by decide +kernel
theorem witness_stale : let s := ({ (host.setTab (Tab.win 0x7011) 131071 (2 ^ 64)) with clock := { ptp := 0, slew := 0, island := 400 } } : State);
    s.wf = true ∧ s.coreOn = true ∧ s.staleNow 131071 (s.slotAttr 131071) = true ∧ s.staleNow 0 (s.slotAttr 0) = false
    ∧ s.permits 0 0x7000 0x08 131071 = true ∧ s.permits 0 0x7010 0x20 1 = true
    ∧ s.rangeBase 0 0x7010 + s.rangeCount 0 0x7010 ≤ 131072 := by decide +kernel
/-- Group 63, enabled, whose cycle has reached its trigger and the last list's offset. -/
def cycling : State :=
  let s := tabs (regs host [(Reg.CYCLE_GROUP.ENABLE 63, 1)]) Tab.cycNext [(63, 1001)]
  { ((s.setTab Tab.cycStart 63 1).setTab (Tab.win 0x7030) 4095 (2 ^ 255 + 63 * 2 ^ 246)) with clock := { ptp := 1000 * nsUnit, slew := 0, island := 0 } }
theorem witness_cycles : host.permits 0 0x713F 0x01 1 = true ∧ host.reg (Reg.CYCLE_GROUP.ENABLE 63) ≠ 1 ∧ host.permits 0 0x713F 0x05 1 = true
    ∧ host.reg (Reg.CYCLE_GROUP.TRIGGER_OFFSET 63) * 5 < host.reg (Reg.CYCLE_GROUP.PERIOD_NS 63) * 4
    ∧ cycling.groupsAct = true ∧ cycling.nextStart 63 = some 1000 ∧ 1000 * nsUnit ≤ cycling.clock.ptp
    ∧ cycling.reg (Reg.CYCLE_GROUP.ENABLE 63) = 1 ∧ cycling.offsetReached 63 (cycling.groupTrigger 63) = true
    ∧ cycling.tab Tab.cycTriggered 63 ≠ cycling.reg (Reg.CYCLE_GROUP.CYCLE_NUMBER 63) + 1
    ∧ (cycling.setTab Tab.cycTriggered 63 1).tab Tab.cycTriggered 63 = 1 := by decide +kernel
theorem witness_publication : cycling.listDue 4095 (cycling.listElem 4095) = true ∧ host.listDue 0 (host.listElem 0) = false
    ∧ cycling.injectFull (listPort (cycling.listElem 4095)) = false
    ∧ (regs cycling [(Reg.CYCLE_GROUP.DOVETAIL 63, 1), (Reg.DOVETAIL.ACTIVE, 0)]).dovetailActive = false
    ∧ ({ cycling with built := List.replicate 64 ⟨0, 0, 1, 0, [], none⟩ } : State).injectFull 0 = true := by decide +kernel
theorem witness_trigger : let s := regs cycling [(Reg.BENCH.TRIGGER_GROUP 127, 63)]
    s.benchesOf 63 = [127] ∧ s.reg (Reg.CYCLE_GROUP.DOVETAIL 63) ≠ 2 ∧ s.benchState 127 = 0 ∧ s.benchHeld 127 = false ∧ cycling.benchesOf 63 = [] := by
  decide +kernel
/-- A descriptor for slot 4095, class 15; the job queued, and the bench that may take it. -/
def job : Nat := 4095 * 2 ^ 480 + 15 * 2 ^ 476
theorem witness_submit : host.permits 0 0x8000 0x01 job = true ∧ bits job 475 470 = 0 ∧ bits job 455 384 = 0 ∧ jobSeq job % 4096 = 4095
    ∧ host.jobSt 4095 = 0 ∧ host.isFenced (holder 9 0) = false ∧ (host.setTab Tab.jobState 4095 1).jobSt 4095 ≠ 0 := by decide +kernel
theorem witness_dispatch : host.nextDispatch = none
    ∧ ((regs ((host.setTab Tab.jobState 4095 1).setTab Tab.jobDesc 4095 job) [(Reg.BENCH.JOB_CLASSES 127, 0x8000)]).nextDispatch) = some (4095, 127) := by
  decide +kernel
theorem witness_run : host.mayStartProgram 127 = true ∧ host.permits 0 0x817F 0x02 1 = true ∧ host.permits 0 0x817F 0x02 2 = true
    ∧ host.tab Tab.benchTrigger 127 = 0 ∧ (regs host [(Reg.BENCH.STATE 127, 1)]).mayStartProgram 127 = false
    ∧ (regs host [(Reg.BENCH.STATE 127, 1)]).benchActive 127 = true ∧ host.benchActive 127 = false
    ∧ (host.setMisc 127 0 1).misc 127 0 ≠ 0 ∧ (∀ v ∈ [3, 4], host.permits 0 0x817F 0x02 v = true)
    ∧ (regs host [(Reg.BENCH.STATE 127, 4)]).benchState 127 = 4 ∧ (regs host [(Reg.BENCH.STATE 127, 5)]).benchState 127 = 5 := by decide +kernel
theorem witness_tileStart : let s := host.setTab Tab.tileWait 2047 1
    s.clampNext = some 2047 ∧ s.clampUsed < 128 ∧ host.clampNext = none := by decide +kernel
theorem witness_dictWrites : host.misc 127 1 = 0 ∧ (host.setMisc 127 1 (0x817F * 2 ^ 80 + 0x10 * 2 ^ 72 + 5 + 1)).misc 127 1 = 0x817F * 2 ^ 80 + 0x10 * 2 ^ 72 + 5 + 1
    ∧ bits (0x817F * 2 ^ 80 + 0x10 * 2 ^ 72 + 5) 95 80 = 0x817F ∧ host.sendQueue 127 = []
    ∧ (host.setSendQueue 127 [64]).sendQueue 127 = [64] := by decide +kernel
theorem witness_cancelAndBarrier : host.permits 0 0x8000 0x07 15 = true ∧ host.wf = true
    ∧ (let s := regs host [(Reg.BARRIER.TIMEOUT_US 31, 1), (Reg.BARRIER.ARRIVED 31, 1)];
      s.wf = true ∧ s.reg (Reg.BARRIER.TIMEOUT_US 31) ≠ 0 ∧ s.reg (Reg.BARRIER.ARRIVED 31) ≠ 0) := by decide +kernel

/-! ### Interrupts, time, gates and counters -/

theorem witness_testRaise : (∀ n ∈ [0, 8191], host.permits 0 0x0800 0x02 n = true) ∧ IntCat.reserved 0x1D00 = false ∧ IntCat.reserved 8191 = true
    ∧ (host.setSrcState 0x1D00 2).srcState 0x1D00 = 2 := by decide +kernel
theorem witness_attention : bit ((regs host [(Reg.ATTN_MODERATION.TIMERS_RUNNING, 0x80)]).reg Reg.ATTN_MODERATION.TIMERS_RUNNING) 7 = true
    ∧ bit (host.reg Reg.ATTN_MODERATION.TIMERS_RUNNING) 7 = false := by decide +kernel
theorem witness_servo : (∀ m ∈ [0, 1], (regs host [(Reg.TIME_UNIT.SERVO_MODE, m)]).reg Reg.TIME_UNIT.SERVO_MODE = m)
    ∧ (regs host [(Reg.TIME_UNIT.SERVO_MODE, 0)]).permits 0 0x6000 0x08 1 = true ∧ host.permits 0 0x6000 0x0A 1 = true
    ∧ host.permits 0 0x6000 0x0B 1 = true ∧ host.permits 0 0x6000 0x04 1 = true := by decide +kernel
/-- OFFSET_ADJ at the threshold and one above it; the last nanosecond of a second; every state of the unit. -/
theorem witness_timeSteps : host.coreOn = true ∧ host.clock.slew = 0
    ∧ (∀ d ∈ [0, 1], let v := host.reg Reg.TIME_UNIT.STEP_THRESHOLD_NS * 65536 + d;
      decide ((host.clock.slew + toInt 64 v * (2 : Int) ^ 32).natAbs ≤ host.reg Reg.TIME_UNIT.STEP_THRESHOLD_NS * nsUnit) = (d == 0))
    ∧ (host.clock.ptp : Int) + (host.reg Reg.TIME_UNIT.STEP_THRESHOLD_NS * 65536 + 1) * (2 : Int) ^ 32 < (ptpEnd : Int)
    ∧ 999999999 % 2 ^ 32 < 1000000000 ∧ (2 ^ 79 - 1) / 2 ^ 32 < 2 ^ 47
    ∧ ∀ st ∈ [0, 2, 3, 4], (regs host [(Reg.TIME_UNIT.STATE, st)]).timeState = st := by decide +kernel
/-- Port 642 with a pending list whose instant has come, with an active list in the safe state, and with one pending far ahead. -/
theorem witness_gates : let l : GateList := ⟨0, 1000, [(0xFFFF, 1000)]⟩
    let s := host.setGate 642 ⟨none, some (some l, 5)⟩
    let r := (regs (host.setGate 642 ⟨some l, none⟩) [(Reg.GATE_PORT.IN_SAFE_STATE 642, 1)]).setTab Tab.sticky 9 1
    (s.gate 642).pending = some (some l, 5) ∧ s.swapInstant 642 = some 5 ∧ s.timeState ≠ 4 ∧ s.reg (Reg.GATE_PORT.IN_SAFE_STATE 642) = 0
    ∧ (r.gate 642).active = some l ∧ r.tab Tab.sticky 9 = 0 + 1 ∧ r.reg (Reg.GATE_PORT.IN_SAFE_STATE 642) = 1 ∧ l.boundary 0 * nsUnit ≤ r.clock.ptp
    ∧ s.permits 0 0x5E82 0x07 1 = true ∧ host.clock.ptp + 100000 * nsUnit ≤ 100000 * nsUnit ∧ (host.gate 642).pending = none
    ∧ host.permits 0 0x5E82 0x08 1 = true ∧ (host.gate 642).active = none ∧ host.saving = false := by decide +kernel
/-- A permitted removal of the list of a port that carries no reservation is one that the calculator accepts. -/
theorem witness_removeList : let l : GateList := ⟨0, 1000, [(0xFFFF, 1000)]⟩
    let s := host.setGate 642 ⟨some l, none⟩
    let swap := l.boundary (nsCeil s.clock.ptp + 100000);
    (((s.setGate 642 { s.gate 642 with pending := some (none, swap) }).setReg (Reg.GATE_PORT.SWAP_TIME 642) (time80 swap)).evaluate []).toBool = true := by
  decide +kernel
/-- SNAP of the largest group, the last elements cleared and latched. -/
theorem witness_latches : let s := regs host [(Reg.SNAPSHOT_GROUP.COUNT 15, 8192)];
    s.permits 0 0xA20F 0x05 1 = true ∧ s.reg (Reg.SNAPSHOT_GROUP.COUNT 15) ≤ 8192 ∧ 4 ≤ s.reg (Reg.SNAPSHOT_GROUP.EXPORT_STREAM 15)
    ∧ s.permits 0 0xA300 0x21 10287 = true ∧ s.permits 0 0xA310 0x21 65535 = true ∧ s.permits 0 0xA300 0x20 1 = true ∧ s.permits 0 0xA310 0x20 1 = true
    ∧ s.rangeBase 0 0xA310 + s.rangeCount 0 0xA310 ≤ 65536 := by decide +kernel
theorem witness_streams : let s := regs host [(Reg.TELEMETRY_STREAM.ENABLE 3, 1)]
    let x := (tabs s Tab.exporting [(8 * 15, 1), (8 * 15 + 3, 3)]);
    s.streamBuilds 3 = true ∧ s.nextExport 3 = none ∧ s.recordsFit 3 48 ≠ 0 ∧ (s.setFifo 131 [1]).fifo 131 ≠ []
    ∧ s.recordsFit 3 48 ≤ ((s.setFifo 131 (List.replicate 400 1)).fifo 131).length ∧ x.nextExport 3 = some 15 ∧ x.recordsFit 3 8 ≠ 0 := by
  decide +kernel

/-! ### The tally, microcode and the pool -/

/-- A pass without difference, and one that finds a cell of partition 15 missing, of a holder that is fenced and one that is not. -/
theorem witness_sweep : let f : SweepFinding := ⟨1, 15, Term.cellsHeld, 0, 1, [], holder 1 63⟩
    host.sweep false [] = [] ∧ (host.sweep false [f]).length = 1 ∧ host.tab Tab.fatal 0 = 0 ∧ host.tab Tab.fatal 1 ≠ 1
    ∧ (∀ g ∈ host.fences, g.state ≠ 1) ∧ (∀ k, k < 16 → host.tab Tab.sweepWait k = 0)
    ∧ host.isFenced (holder 1 63) = false ∧ ({ host with fences := [⟨holder 1 63, 4, none, 0⟩] } : State).isFenced (holder 1 63) = true := by decide +kernel
theorem witness_fence : host.permits 0 0x4840 0x01 (holder 3 513) = true ∧ holderOk (holder 3 513) = true ∧ holderOk (holder 3 514) = false
    ∧ host.isFenced (holder 3 513) = false ∧ host.permits 0 0x4840 0x02 (holder 5 127) = true ∧ holderOk (holder 5 127) = true := by decide +kernel
theorem witness_reclaim : let w : Fence := ⟨holder 3 513, 4, none, 0⟩
    let r : Fence := ⟨holder 5 127, 2, none, 7⟩
    ({ host with fences := [w] } : State).fences.find? (fun g => g.state == 4) = some w
    ∧ ({ host with fences := [r] } : State).fences.find? (fun g => g.state == 2) = some r ∧ (∀ g ∈ host.fences, g.state ≠ 2) := by decide +kernel
theorem witness_lease : let s := (regs host [(Reg.LEASES.BENCH_LEASE_MS, 1), (Reg.LEASES.BENCH_ACTION, 1)]).setMisc 127 4 1;
    s.leaseOf (holder 5 127) = some (1, 1) ∧ host.leaseOf (holder 5 127) = none ∧ s.isFenced (holder 5 127) = false := by decide +kernel
theorem witness_orphan : let s := host.setTab Tab.orphanHeld (2 ^ 32 + 5) 1;
    s.tab Tab.orphanHeld (2 ^ 32 + 5) ≠ 0 ∧ host.tab Tab.orphanHeld (2 ^ 32 + 5) = 0
    ∧ host.permits 0 0x4800 0x03 1 = true ∧ host.permits 0 0x4800 0x04 1 = true := by decide +kernel
theorem witness_banks : host.permits 0 0x2000 0x04 1 = true
    ∧ (let s := host.setTab Tab.bankRequests 0 1;
      s.tab Tab.bankRequests 0 ≠ 0 ∧ s.coreOn = true ∧ s.wf = true ∧ s.loaderState 0 ≠ 4) := by decide +kernel
theorem witness_loads : (∀ x ∈ [(true, loaderIndex true), (false, loaderIndex false)],
      host.permitsBlock 0 x.2 0x01 0 4 = true ∧ host.permits 0 x.2 0x02 1 = true ∧ host.permits 0 x.2 0x02 2 = true)
    ∧ host.loaderState 0 < 2 ∧ host.reg (loaderKey 0 LoaderSub.received) = 0
    ∧ (∀ v ∈ [2, 3, 4, 5], (regs host [(loaderKey 1 LoaderSub.state, v)]).loaderState 1 = v)
    ∧ (regs host [(loaderKey 0 LoaderSub.state, 2)]).verifiesNext 0 = true ∧ host.verifiesNext 0 = false
    ∧ (match host.checkPackage (host.packageOf 0) 0 (host.loadTerms 0) with | .refused c _ => c != 0 | .passed _ => false) = true
    ∧ (regs host [(Reg.PIPE_UCODE.LOAD_MODE, 1)]).reg Reg.PIPE_UCODE.LOAD_MODE = 1 ∧ host.reg Reg.PIPE_UCODE.LOAD_MODE ≠ 1
    ∧ host.isChained (Ctr.pipeLoader 0) = false := by decide +kernel
/-- HANDOVER of bank 509 from free to the host, to bench 127, and from the host to none; SERVICE of a bank of the host; a bank that is cleared. -/
theorem witness_handover : host.permits 0 0x93FD 0x03 (ownerNone * 256 + ownerHost) = true ∧ host.bankOwner 509 = ownerNone ∧ host.bankState 509 = 0
    ∧ host.portPart 641 = host.bankPart 509 ∧ host.permits 0 0x93FD 0x07 1 = true
    ∧ (let s := host.setBank 509 1 ownerHost; s.bankState 509 = 1 ∧ s.bankOwner 509 = ownerHost)
    ∧ (let s := host.setBank 509 3 ownerHost; s.bankState 509 = 3 ∧ s.bankOwner 509 = ownerHost)
    ∧ (let s := host.setBank 509 5 ownerNone; s.bankState 509 = 5 ∧ s.bankOwner 509 = ownerNone)
    ∧ (let s := host.setBank 509 1 127; s.bankState 509 = 1 ∧ s.bankOwner 509 = 127 ∧ s.benchActive 127 = false)
    ∧ (host.setBank 509 2 ownerNone).bankState 509 = 2 := by decide +kernel
/-- The jig on the last bank: with a segment to test, with none, and destructively. -/
theorem witness_jig : let s := regs host [(Reg.JIG.BANK_FIRST, 509), (Reg.JIG.BANK_COUNT, 1)]
    let d := regs (s.setBank 509 3 ownerHost) [(Reg.JIG.MODE, 1)];
    s.permits 0 0x9500 0x01 1 = true ∧ s.permits 0 0x9500 0x01 2 = true ∧ s.reg Reg.JIG.STATE ≠ 1 ∧ s.reg Reg.JIG.MODE = 0
    ∧ s.reg Reg.JIG.BANK_FIRST + s.reg Reg.JIG.BANK_COUNT ≤ 510 ∧ s.bankState (32 * 509 / 32) = 0
    ∧ (s.setBank 509 2 ownerNone).bankState 509 = 2
    ∧ d.reg Reg.JIG.MODE = 1 ∧ (∀ k, k < 1 → d.bankState (509 + k) = 3)
    ∧ ((regs s [(Reg.JIG.STATE, 1)]).setTab Tab.jig (JigTab.current) 16320).jigSegment = some 16319 ∧ s.jigSegment = none := by decide +kernel


/-! ### Power and start-up -/

/-- The core is on; rail 7 feeds supply `x`, stands at `mv` and is commanded to 800 mV. -/
def rail (x mv : Nat) : State :=
  (regs host [(Reg.PMBUS_RAIL.ENABLE 7, 1), (Reg.PMBUS_RAIL.SUPPLY 7, x), (Reg.PMBUS_RAIL.VOUT_MV 7, mv)]).setTab Tab.railCommand 7 800
/-- The lockstep in STATE `st`, from divider 8 to 4. -/
def stepping (st : Nat) : State :=
  regs (rail 0 800) [(Reg.LOCKSTEP.STATE, st), (Reg.LOCKSTEP.TXN, 9), (Reg.LOCKSTEP.TARGET_DIVIDER, 4), (Reg.CLOCKS.BENCH_DIVIDER, 8),
    (Reg.LOCKSTEP.PREPARE_HOLD_MS, 1000), (Reg.TIME_UNIT.STATE, 2)]
theorem witness_monitors : (regs host [(Reg.CLOCKS.ROOT_STATE, 2)]).reg Reg.CLOCKS.ROOT_STATE = 2 ∧ (20000 : Nat) < (toInt 32 20001).natAbs
    ∧ (regs host [(Reg.CLOCKS.ROOT_STATE, 3)]).reg Reg.CLOCKS.ROOT_STATE = 3 ∧ (regs host [(Reg.CLOCKS.ISLAND_SOURCE, 1)]).reg Reg.CLOCKS.ISLAND_SOURCE ≠ 0
    ∧ host.reg Reg.CLOCKS.ISLAND_SOURCE = 0 := by decide +kernel
theorem witness_rails : host.railLive 0 = false ∧ (rail 0 800).railLive 7 = true ∧ (rail 0 800).railsOf 0 = [7] ∧ (rail 0 800).avsHeld = false
    ∧ ([⟨7, true, 800, 1, 0⟩, ⟨0, false, 0, 0, 0⟩] : List RailRead).map (·.rail) = [7, 0] ∧ statusFaults 0x8000 = true ∧ (rail 0 800).coreOn = true := by
  decide +kernel
theorem witness_prepare : host.permits 0 0x0440 0x02 (9 * 65536 + 4) = true ∧ bits (9 * 65536 + 4) 31 16 ≠ 0 ∧ bits (9 * 65536 + 4) 15 4 = 0
    ∧ (stepping 0).selfRun = false ∧ (stepping 0).lockState < 3 ∧ (stepping 1).lockState = 1 ∧ (stepping 2).lockState = 2 ∧ (stepping 4).lockState = 4
    ∧ (∀ r ∈ (stepping 1).railsOf 0, (stepping 1).targetMv ≤ (stepping 1).reg (Reg.PMBUS_RAIL.VOUT_MV r)) ∧ 4 < (stepping 0).divider := by decide +kernel
/-- COMMIT at 500 microseconds from now, the earliest. -/
theorem witness_commit : let v := 9 * 2 ^ 80 + 500000;
    (stepping 2).permits 0 0x0440 0x03 v = true ∧ time80Ns (v % 2 ^ 80) = 500000 ∧ (stepping 2).clock.ptp + 500000 * nsUnit ≤ 500000 * nsUnit
    ∧ 500000 * nsUnit ≤ (stepping 2).clock.ptp + (stepping 2).reg Reg.LOCKSTEP.PREPARE_HOLD_MS * 1000000 * nsUnit
    ∧ (stepping 2).reg Reg.LOCKSTEP.TXN = v / 2 ^ 80 ∧ (stepping 2).timeLocked = true ∧ (stepping 2).tab Tab.power 2 ≠ v + 1
    ∧ ((stepping 2).setTab Tab.power 2 (v + 1)).tab Tab.power 2 = v + 1 := by decide +kernel
theorem witness_lockAbort : host.permits 0 0x0440 0x04 9 = true ∧ (stepping 1).lockState ≠ 0 ∧ (stepping 1).reg Reg.LOCKSTEP.TXN = 9
    ∧ (let s := regs (stepping 3) [(Reg.LOCKSTEP.COMMIT_TIME, 100001)];
      s.clock.ptp + 100000 * nsUnit < time80Ns (s.reg Reg.LOCKSTEP.COMMIT_TIME) * nsUnit)
    ∧ time80Ns ((stepping 3).reg Reg.LOCKSTEP.COMMIT_TIME) * nsUnit ≤ (stepping 3).clock.ptp := by decide +kernel
theorem witness_droop : let s := (stepping 4).setTab Tab.power 0 6;
    s.lockState = 4 ∧ s.tab Tab.power 0 ≠ 0 ∧ (0 : Nat) < s.vmin ∧ (stepping 0).lockState ≠ 4
    ∧ (0 : Nat) + s.reg Reg.VOLTAGE.DROOP_MV < s.targetMv ∧ s.tab Tab.power 3 = 0 ∧ (s.setTab Tab.power 3 1).tab Tab.power 3 = 1
    ∧ host.coreOn = true ∧ State.reset.coreOn = false := by decide +kernel
theorem witness_heat : host.tab Tab.power 6 ≤ 1 ∧ host.divider ∈ [4, 5, 6, 8] ∧ host.mayThrottle = true ∧ host.throttleGroup = false
    ∧ (regs host [(Reg.LOCKSTEP.GROUP_ID, 1)]).throttleGroup = true ∧ (host.setTab Tab.power 5 1).tab Tab.power 5 = 1
    ∧ (regs host [(Reg.THERMAL.HOTTEST, 10500)]).hottest = 10500 ∧ (stepping 0).divider = 8
    ∧ (let s := ((stepping 0).setTab Tab.power 4 1).setTab Tab.power 7 1;
      s.hottest < 10500 ∧ s.tab Tab.power 4 = 1 ∧ s.mayThrottle = true ∧ s.tab Tab.power 7 = 1
      ∧ s.reg Reg.CLOCKS.BASE_DIVIDER < s.divider ∧ 4 < s.divider) := by decide +kernel
theorem witness_thermtrip : 11500 ≤ toInt 32 11500 ∧ toInt 32 11499 < 11500 ∧ host.reg Reg.THERMAL.THERMTRIP ≠ 1 ∧ host.permits 0 0x0450 0x08 1 = true
    ∧ (∀ i, i < 24 → ¬10000 ≤ toInt 32 (entryAt 24 4 (host.reg Reg.THERMAL.SENSORS) i))
    ∧ (let s := regs host [(Reg.THERMAL.SENSORS, 10000)]; 10000 ≤ toInt 32 (entryAt 24 4 (s.reg Reg.THERMAL.SENSORS) 23)) := by decide +kernel
/-- Supply `x` of sequence `q` has come, and is the last awaited. -/
def arriving (q x : Nat) : State := tabs (rail x 800) Tab.power [(10, q), (11, 2 ^ x)]
theorem witness_arrivals : (∀ q, q < 5 → ∀ x, x < 5 → bit (arriving q x).awaited x = true ∧ (arriving q x).supplyThere x = true
      ∧ setBit (arriving q x).awaited x false = 0 ∧ (arriving q x).sequence = q)
    ∧ nextSupply 1 = some 0 ∧ ((List.range 6).filter (fun x => nextSupply x == none)).length = 2
    ∧ (let s := tabs (rail 1 800) Tab.power [(10, 3), (11, 6)]; setBit s.awaited 1 false ≠ 0)
    ∧ (arriving 1 1).tab Tab.power 9 ≠ 1 ∧ ((arriving 1 1).setTab Tab.power 9 1).tab Tab.power 9 = 1 := by decide +kernel
theorem witness_timeoutAndUnlock : bit (tabs (rail 1 500) Tab.power [(10, 1), (11, 2)]).awaited 1 = true ∧ (rail 1 500).supplyThere 1 = false
    ∧ (let s := regs host [(Reg.CLOCKS.ROOT_STATE, 2)]; s.tab Tab.power 9 = 0 ∧ s.coreOn = true ∧ s.resetWithheld = false
      ∧ (regs s [(Reg.STARTUP.RESET_LIMIT_COUNT, 0)]).resetWithheld = true) := by decide +kernel
/-- The island alone, with session 0 open for the host and the presence window open. -/
def idle (power : Nat) : State := regs host [(Reg.DEVICE_STATUS.MODE, 0), (Reg.POWER_STATE.STATE, power)]
theorem witness_startup : (idle 0).permits 0 0x0500 0x01 1 = true ∧ (idle 0).resetting = false ∧ (idle 0).reg Reg.THERMAL.THERMTRIP = 0
    ∧ (idle 1).permits 0 0x0500 0x01 2 = true ∧ (idle 1).operating = false ∧ host.permits 0 0x0500 0x01 3 = true ∧ host.operating = true
    ∧ (∀ v ∈ [1, 2, 3, 4], host.permits 0 0x0500 0x02 v = true) ∧ host.resetting = false ∧ host.permits 0 0x0500 0x0D 1 = true
    ∧ host.permits 0 0x0510 0x05 1 = true ∧ (host.setTab Tab.power 10 1).resetting = true := by decide +kernel
theorem witness_firmware : host.permitsBlock 0 0x0520 0x04 0 4 = true ∧ host.permitsBlock 0 0x0520 0x04 16777212 4 = true
    ∧ host.tab Tab.store 1 = 0 ∧ host.permits 0 0x0520 0x05 1 = true
    ∧ (regs host [(Reg.FIRMWARE.STATE, 5)]).reg Reg.FIRMWARE.STATE = 5 ∧ bits 4 1 0 = 0 ∧ bit 4 2 = true
    ∧ bit 0 2 = false := by decide +kernel

/-! ### Bench units -/

/-- Bench 127 runs. -/
def running : State := regs host [(Reg.BENCH.STATE 127, 1)]
/-- Clean memories. -/
def clean : BenchEnv := ⟨0, [], 0, 0, 0, false⟩
/-- Microword `w` stands at address 0x0100 of bay 15, and nanoword `v` at 0x400; bench 127 has reached it. -/
def fetching (w v : Nat) : State :=
  ((regs running [(Reg.BENCH.PC 127, 0x0100)]).setTab Tab.bayMicro (15 * 2 ^ 14 + 0x0100) (w + 1)).setTab Tab.bayNano (15 * 2 ^ 12 + 0x400) (v + 1)

/-- The microwords of the assembled example (17_microcode.md, An assembled example). -/
theorem test_example_microwords : decodeMicro 0xC1002EE0 = some (.set 1 12000) ∧ decodeMicro 0xC9002EE1 = some (.set 9 12001)
    ∧ decodeMicro 0x10000001 = some (.exec 0x400 1) ∧ decodeMicro 0x10040000 = some (.exec 0x401 0)
    ∧ decodeMicro 0x00500000 = some (.exec 0x014 0) := by decide
/-- Its scalar slots: ADD s11, s11, IMM with SETF 0, FSUB s3, s4, s2 and FMA s5, s3, s6, s5. -/
theorem test_example_scalar : decodeScalar 0x012CB0008000 = some (some (.add, ⟨11, 11, 0, 0, true, false⟩))
    ∧ decodeScalar 0x210C40800000 = some (some (.fsub, ⟨3, 4, 2, 0, false, false⟩))
    ∧ decodeScalar 0x231431850000 = some (some (.fma, ⟨5, 3, 6, 5, false, false⟩)) := by decide
/-- Its memory slots SREAD s2, slot s1 and SWRITE s9, s7, s10, s11, and the control word COMPLETE s31. -/
theorem test_example_memory : decodeMem 0x2004000260000000 = some (some (.sread, ⟨1, 0, 0, 2, 3, false, false, 0⟩))
    ∧ decodeMem 0x2224728B60000000 = some (some (.swrite, ⟨9, 7, 10, 11, 3, false, false, 0⟩))
    ∧ decodeCw 0x92F8 = some (some (.write 9 31)) := by decide
/-- FMA of the example in binary64: 1.5 x 2 + 0.25 = 3.25. -/
theorem test_fma : after (execFma 127 ⟨5, 3, 6, 5, false, false⟩ 0 (tabs running Tab.benchS
      [(64 * 127 + 3, 0x3FF8000000000000), (64 * 127 + 6, 0x4000000000000000), (64 * 127 + 5, 0x3FD0000000000000)]))
      |>.sReg 127 5 |> (· = 0x400A000000000000) := by decide +kernel

theorem witness_units : running.benchRuns 127 = true ∧ host.benchRuns 127 = false ∧ scalarOk .fma ⟨5, 3, 6, 5, false, false⟩ = true
    ∧ scalarOk .vget ⟨1, 32, 0, 0, false, false⟩ = false ∧ vectorOk .vfma ⟨31, 1, 2, 3, 255, 0⟩ = true ∧ vectorOk .vhsum ⟨1, 0, 0, 0, 0, 0⟩ = false
    ∧ (∀ i, i < 64 → running.sReg 127 i < 2 ^ 64)
    ∧ (let s := tabs running Tab.benchS [(64 * 127 + 1, 2 ^ 63), (64 * 127 + 2, 2 ^ 64 - 1)];
      i64 (s.sReg 127 1) = -(2 ^ 63) ∧ i64 (s.sReg 127 2) = -1) := by decide +kernel

/-- What `fetches` asks, for the word `w` at 0x0100. -/
theorem fetches_of (w v : Nat) (m : Micro) (hm : decodeMicro w = some m) (hr : (fetching w v).benchRuns 127 = true)
    (ha : (fetching w v).atRoutine 127 = false) (hp : (fetching w v).reg (Reg.BENCH.PC 127) < 16384)
    (hl : (fetching w v).tab Tab.ucodeLost (lostBenchWord 127 ((fetching w v).reg (Reg.BENCH.PC 127))) ≠ 1)
    (hw : (fetching w v).benchWord 127 ((fetching w v).reg (Reg.BENCH.PC 127)) = some w) : (fetching w v).fetches 127 clean m :=
  ⟨hr, ha, hp, by decide, hl, w, hw, hm⟩
theorem witness_fetches : (fetching 0xC1002EE0 0).fetches 127 clean (.set 1 12000) ∧ (fetching 0x10000001 0).fetches 127 clean (.exec 0x400 1) :=
  ⟨fetches_of _ _ _ (by decide) (by decide +kernel) (by decide +kernel) (by decide +kernel) (by decide +kernel) (by decide +kernel),
   fetches_of _ _ _ (by decide) (by decide +kernel) (by decide +kernel) (by decide +kernel) (by decide +kernel) (by decide +kernel)⟩
/-- Words of the other forms: NOP, SYNC, TRAP, JUMP, CALL, RETURN, LOOP, SHIFTI and BRANCH. -/
theorem witness_micros : ([Micro.nop, .sync, .trap, .jump 5, .call 5, .ret, .loop 9 1, .shift 63 1, .branch 0x400 12 9].all (fun m => decodeMicro (encodeMicro m) == some m)) = true := by decide +kernel
theorem witness_nano : (fetching 0x10000001 0).fetchesNano 127 0x400 clean (⟨none, none, none, none, []⟩ : Nano) :=
  ⟨by decide, by decide +kernel, 0, by decide +kernel, by decide +kernel⟩
theorem witness_nanoHyps : let s := fetching 0x10000001 0
    let n : Nano := ⟨none, none, none, none, []⟩
    s.nanoStalls 127 n = false ∧ s.nanoTrap 127 n 1 clean = none ∧ s.misc 127 5 = 0 ∧ s.tilesWait 127 = false
    ∧ (s.setSendQueue 127 (List.replicate 16 64)).nanoStalls 127 ⟨none, none, some (.fsend, ⟨0, 0, 0, 0, 0, false, false, 0⟩), none, []⟩ = true := by
  decide +kernel
theorem witness_stacks : (running.setRetStack 127 [7]).retStack 127 = [] ++ [7] ∧ running.retStack 127 = []
    ∧ ((running.setRetStack 127 (List.replicate 16 7)).retStack 127).length = 16 ∧ (running.loopStack 127).length < 4
    ∧ ((running.setLoopStack 127 (List.replicate 4 (packLoop 1 1 2))).loopStack 127).length = 4
    ∧ ((running.setTab Tab.benchS (64 * 127 + 9) 3).sReg 127 9 ≠ 0) := by decide +kernel
theorem witness_unloaded : running.atRoutine 127 = false ∧ running.reg (Reg.BENCH.PC 127) < 16384 ∧ running.benchWord 127 0 = none
    ∧ (regs running [(Reg.BENCH.PC 127, 16384)]).atRoutine 127 = false ∧ running.bayWord 15 0x400 = none
    ∧ (running.setTab Tab.ucodeLost (lostBenchWord 127 0) 1).tab Tab.ucodeLost (lostBenchWord 127 0) = 1
    ∧ (running.setTab Tab.ucodeLost (lostBayWord 15 0x400) 1).tab Tab.ucodeLost (lostBayWord 15 0x400) = 1 := by decide +kernel
/-- The vendor routines of bay 15, on lengths of 0 and on a length that leaves scratch. -/
theorem witness_routines : (∀ a ∈ [0x3800, 0x3840, 0x3880, 0x38C0],
    let s := ((regs running [(Reg.BENCH.PC 127, a)]).setTab Tab.vendorLoaded 16 1).setRetStack 127 [7];
    s.atRoutine 127 = true ∧ s.benchRuns 127 = true ∧ s.retStack 127 = [] ++ [7]
    ∧ s.sReg 127 32 + s.sReg 127 34 ≤ 262144 ∧ s.sReg 127 33 + s.sReg 127 34 ≤ 262144
    ∧ s.sReg 127 32 + 4 * s.sReg 127 34 * s.sReg 127 35 ≤ 262144 ∧ s.sReg 127 36 + 4 * s.sReg 127 35 ≤ 262144
    ∧ s.sReg 127 33 + 4 * s.sReg 127 34 ≤ 262144 ∧ ¬(s.setTab Tab.benchS (64 * 127 + 34) 262145).sReg 127 34 ≤ 262144) := by decide +kernel
/-- The memory unit: every operation, an access at the end of scratch, of a pool bank owned and not, of slots at the limit. -/
theorem witness_memory : (∀ x ∈ [(MemOp.ld, 4), (.st, 4), (.pld, 3), (.pst, 0), (.sread, 4), (.swrite, 2), (.fsend, 0), (.pmoveIn, 0), (.pmoveOut, 0),
      (.sgather, 3), (.sscatter, 0)], memOk x.1 ⟨1, 0, 0, 0, Fin.ofNat 5 x.2, false, false, 0⟩ = true)
    ∧ memOk .ld ⟨1, 1, 0, 0, 0, false, false, 0⟩ = false
    ∧ (let s := (running.setBank 509 1 127).setTab Tab.benchS (64 * 127 + 1) 262143;
      s.sReg 127 1 + 1 ≤ 262144 ∧ 262144 < s.sReg 127 1 + 2 ∧ s.mayAccess 127 (509 * 131072) 8 = true ∧ s.mayAccess 127 (508 * 131072) 8 = false
      ∧ s.jigSegment = none ∧ 131071 < s.sReg 127 1 ∧ (s.setTab Tab.benchS (64 * 127 + 1) 131071).sReg 127 1 ≤ 131071)
    ∧ (let s := running.setTab (Tab.win 0x7011) 131071 (2 ^ 125);
      bit (s.slotAttr 131071) 125 = true ∧ attrForce (s.slotAttr 131071) = false ∧ bit ((s.setTab (Tab.win 0x7011) 0 (2 ^ 124)).slotAttr 0) 125 = false
      ∧ attrForce (2 ^ 125 + 2 ^ 119) = true)
    ∧ (running.setSendQueue 127 (List.replicate 16 64)).sendQueue 127 = List.replicate 16 64 := by decide +kernel
/-- SGATHER and SSCATTER over one entry of scratch: slot 0 as scratch stands, and a slot beyond the last. -/
theorem witness_scatter : let s := running.setTab Tab.benchS (64 * 127 + 3) 1;
    ofLE (s.scratch 127 0 4) = 0 ∧ s.sReg 127 3 = 1 ∧ ofLE ((s.setScratch 127 0 (toLE 4 131072)).scratch 127 0 4) = 131072 := by
  decide +kernel
theorem witness_cwords : running.nothingDue = true ∧ running.wf = true ∧ running.misc 127 1 = 0 ∧ (running.setMisc 127 1 1).misc 127 1 ≠ 0
    ∧ (running.setSrcState 0x1900 1).srcState 0x1900 = 1 ∧ running.srcTarget (0x1900 + 127) ≠ 129
    ∧ (let s := regs running [(Reg.BARRIER.PARTICIPANTS 31, 2)];
      s.wf = true ∧ s.reg (Reg.BARRIER.PARTICIPANTS 31) ≠ 0 ∧ s.reg (Reg.BARRIER.ARRIVED 31) + 1 < s.reg (Reg.BARRIER.PARTICIPANTS 31)
      ∧ (regs s [(Reg.BARRIER.ARRIVED 31, 1)]).reg (Reg.BARRIER.PARTICIPANTS 31) ≤ (regs s [(Reg.BARRIER.ARRIVED 31, 1)]).reg (Reg.BARRIER.ARRIVED 31) + 1)
    ∧ bits (225 * 2 ^ 26) 33 26 = 225 ∧ bits (224 * 2 ^ 26 + 262143) 33 26 = 224 ∧ bits (224 * 2 ^ 26 + 262143) 17 0 = 262143
    ∧ (running.setTab Tab.benchTrigger 127 1).tab Tab.benchTrigger 127 ≠ 0 ∧ (running.setMisc 127 4 1).misc 127 4 = 0 + 1 := by decide +kernel

/-! ### Octets, line coding and the test access port -/

/-- The request of the worked exchange (03_zilmor_protocol.md, Worked exchange), in its octets. -/
theorem test_example_request :
    let b : Bytes := [0x02, 0xB0, 0xDD, 0x00, 0x12, 0x00, 0x02, 0x00, 0x5E, 0x10, 0x00, 0x01, 0x88, 0xB5, 0x10, 0x02, 0x01, 0x07, 0x00, 0x00,
      0x2A, 0x41, 0x00, 0x03, 0x00, 0x11, 0x02, 0x00, 0x00, 0x04, 0, 0, 0, 0, 4, 0, 0, 0] ++ List.replicate 22 0;
    ((host.carriage b).map (fun c => c.request 512 b)).any (fun x => validRequest x.2 x.1 && decide (x.1 = 2 ∧ x.2.tag = 0x107 ∧ x.2.seq = 0x2A41
      ∧ x.2.session = 3 ∧ x.2.index = 0x11 ∧ x.2.sub = 2 ∧ x.2.data = [4, 0, 0, 0])) = true := by decide +kernel
/-- R586: IDCODE shifted out, least significant bit first, after the port's reset: run, select, capture, then 32 clocks of Shift-DR. -/
theorem test_idcode :
    let t := [false, true, false, false].foldl (fun (t : Tap) tms => t.clock tms false 0) Tap.idle;
    ((List.range 32).foldl (fun (a : Tap × Nat) i => (a.1.clock false false 0, a.2 + (if a.1.tdo = some true then 2 ^ i else 0))) (t, 0)).2
      = 0x15120BBB := by decide +kernel
/-- R142: Gray levels, and the precoding of a level after symbol 3: 1 - 3 modulo 4. -/
theorem test_pam4 : grayLevels [false, true, true, true, true, false] = [1, 2, 3] ∧ precode 3 [1] = [2] := by decide
/-- R179: a start block of seven octets, then eights, then a terminate block. -/
theorem test_blocks : directFrame (List.range 20) = [.start (List.range 7), .data [7, 8, 9, 10, 11, 12, 13, 14], .terminate [15, 16, 17, 18, 19]] := by
  decide

end Sys2Proof.Tests
end

section
/-!
SUPPORT. What every command and every step keeps (Laws/Evolve.lean), from the law of each command.
-/
namespace Sys2Proof.Machine

/-- Every command keeps what its state had of the invariants. -/
theorem exec_ev {z s : State} (hs : Ev z s) : ∀ c : Instr, EvN z (exec c s)
  | .read q => execRead_ev q s hs
  | .write q => execWrite_ev q s hs
  | .blockRead q => execBlockRead_ev q s hs
  | .blockWrite q => execBlockWrite_ev q s hs
  | .windowCommit q posts lost => execWindowCommit_ev q posts lost s hs
  | .parkedWatch q => execParkedWatch_ev q s hs
  | .release q => execRelease_ev q s hs
  | .ping q => execPing_ev q s hs
  | .openSession q => execOpenSession_ev q s hs
  | .close q => execClose_ev q s hs
  | .sessionCloseComplete n => execSessionCloseComplete_ev n s hs
  | .sessionIdleTimeout n => execSessionIdleTimeout_ev n s hs
  | .watchTimeout n tag => execWatchTimeout_ev n tag s hs
  | .forceClose w n => execForceClose_ev w n s hs
  | .zdpArpRequest h v6 target who => execZdpArpRequest_ev h v6 target who s hs
  | .registerWrite w index sub value sets => execRegisterWrite_ev w index sub value sets s hs
  | .save w => execSave_ev w s hs
  | .saveDone verified => execSaveDone_ev verified s hs
  | .restore w => execRestore_ev w s hs
  | .restoreDone => execRestoreDone_ev s hs
  | .clearSaved w => execClearSaved_ev w s hs
  | .clearSavedDone => execClearSavedDone_ev s hs
  | .applyDefaults w => execApplyDefaults_ev w s hs
  | .acceptImport w => execAcceptImport_ev w s hs
  | .importCheckDone => execImportCheckDone_ev s hs
  | .importBlock w offset data => execImportBlock_ev w offset data s hs
  | .stage w window offset data => execStage_ev w window offset data s hs
  | .windowRangeWrite w window which value => execWindowRangeWrite_ev w window which value s hs
  | .abort w window => execAbort_ev w window s hs
  | .keyAsserted => execKeyAsserted_ev s hs
  | .keyReleased => execKeyReleased_ev s hs
  | .presenceWindowExpiry => execPresenceWindowExpiry_ev s hs
  | .presenceClose w => execPresenceClose_ev w s hs
  | .sealOpened => execSealOpened_ev s hs
  | .sealClosed => execSealClosed_ev s hs
  | .wipeStart => execWipeStart_ev s hs
  | .wipeDone bad => execWipeDone_ev bad s hs
  | .enrol w => execEnrol_ev w s hs
  | .rearm w => execRearm_ev w s hs
  | .decommission w => execDecommission_ev w s hs
  | .returnToFactory w => execReturnToFactory_ev w s hs
  | .publicKey w slot key => execPublicKey_ev w slot key s hs
  | .revoke w slot => execRevoke_ev w slot s hs
  | .signalDetected n => execSignalDetected_ev n s hs
  | .cdrLocked n => execCdrLocked_ev n s hs
  | .trainingComplete trained => execTrainingComplete_ev trained s hs
  | .adaptationConverged n ctle ffe dfe ppm => execAdaptationConverged_ev n ctle ffe dfe ppm s hs
  | .dataEntered n => execDataEntered_ev n s hs
  | .trainingFailed n => execTrainingFailed_ev n s hs
  | .bringupSignalLost n => execBringupSignalLost_ev n s hs
  | .signalLost n => execSignalLost_ev n s hs
  | .cdrUnlock n => execCdrUnlock_ev n s hs
  | .lockLost n => execLockLost_ev n s hs
  | .ucwRetrain n => execUcwRetrain_ev n s hs
  | .retrain w n => execRetrain_ev w n s hs
  | .farEndTraining n => execFarEndTraining_ev n s hs
  | .fastRetrainTimeout n => execFastRetrainTimeout_ev n s hs
  | .serAlarm n errors => execSerAlarm_ev n errors s hs
  | .uncorrectedCw n => execUncorrectedCw_ev n s hs
  | .shimDelete n tx fill gap => execShimDelete_ev n tx fill gap s hs
  | .shimInsert n tx fill => execShimInsert_ev n tx fill s hs
  | .elasticFault n tx => execElasticFault_ev n tx s hs
  | .txTapWrite w n tap value => execTxTapWrite_ev w n tap value s hs
  | .loopback w n value => execLoopback_ev w n value s hs
  | .prbsTx w n value => execPrbsTx_ev w n value s hs
  | .prbsRx w n value => execPrbsRx_ev w n value s hs
  | .prbsLock n => execPrbsLock_ev n s hs
  | .prbsLockLost n counted errors => execPrbsLockLost_ev n counted errors s hs
  | .prbsClear w n => execPrbsClear_ev w n s hs
  | .eyeStart w n eye => execEyeStart_ev w n eye s hs
  | .eyeScanDone n map => execEyeScanDone_ev n map s hs
  | .apply w octet => execApply_ev w octet s hs
  | .linkUp p => execLinkUp_ev p s hs
  | .localFault p => execLocalFault_ev p s hs
  | .remoteFault p => execRemoteFault_ev p s hs
  | .pause p quanta => execPause_ev p quanta s hs
  | .pfc p enable times => execPfc_ev p enable times s hs
  | .pfcPauseExpiry p cls => execPfcPauseExpiry_ev p cls s hs
  | .pauseRepeat h => execPauseRepeat_ev h s hs
  | .bypassFrameStart h => execBypassFrameStart_ev h s hs
  | .dcbInitSend p => execDcbInitSend_ev p s hs
  | .dcbInitReceived p octets => execDcbInitReceived_ev p octets s hs
  | .dcbCreditSend p => execDcbCreditSend_ev p s hs
  | .dcbCreditReceived p octets => execDcbCreditReceived_ev p octets s hs
  | .creditTimeout p group => execCreditTimeout_ev p group s hs
  | .linkReset w p => execLinkReset_ev w p s hs
  | .frameStart p queue octets => execFrameStart_ev p queue octets s hs
  | .parserStart frame octets => execParserStart_ev frame octets s hs
  | .bufferAdmission frame => execBufferAdmission_ev frame s hs
  | .frameTail frame octets tail => execFrameTail_ev frame octets tail s hs
  | .injectPresent p => execInjectPresent_ev p s hs
  | .schedulerSelection p => execSchedulerSelection_ev p s hs
  | .copyTxStart p => execCopyTxStart_ev p s hs
  | .copyTxEnd p => execCopyTxEnd_ev p s hs
  | .aged copy => execAged_ev copy s hs
  | .bankSwitch => execBankSwitch_ev s hs
  | .applyStages w => execApplyStages_ev w s hs
  | .refillTick => execRefillTick_ev s hs
  | .portSchedWrite w p sub value => execPortSchedWrite_ev w p sub value s hs
  | .unblock w policer => execUnblock_ev w policer s hs
  | .pfcRefresh p cls => execPfcRefresh_ev p cls s hs
  | .watchdogFired p q => execWatchdogFired_ev p q s hs
  | .watchdogRecovered p q => execWatchdogRecovered_ev p q s hs
  | .pauseFault p q => execPauseFault_ev p q s hs
  | .hwmClear w p mask => execHwmClear_ev w p mask s hs
  | .measuredOffset runtime w offset => execMeasuredOffset_ev runtime w offset s hs
  | .reportTimeout => execReportTimeout_ev s hs
  | .holdoverTimeout => execHoldoverTimeout_ev s hs
  | .offsetAdj runtime w amount => execOffsetAdj_ev runtime w amount s hs
  | .setTime runtime w time => execSetTime_ev runtime w time s hs
  | .servoMode w mode => execServoMode_ev w mode s hs
  | .gateListResume p => execGateListResume_ev p s hs
  | .gateEdge p => execGateEdge_ev p s hs
  | .listSwapped p => execListSwapped_ev p s hs
  | .cancelPending w p => execCancelPending_ev w p s hs
  | .removeList w p => execRemoveList_ev w p s hs
  | .resvCommitApply => execResvCommitApply_ev s hs
  | .resvReturnActive n => execResvReturnActive_ev n s hs
  | .boundQuery w n => execBoundQuery_ev w n s hs
  | .heartbeat w => execHeartbeat_ev w s hs
  | .heartbeatTimeout => execHeartbeatTimeout_ev s hs
  | .peerHealthyChange level => execPeerHealthyChange_ev level s hs
  | .lossHoldExpiry => execLossHoldExpiry_ev s hs
  | .partnerWaitExpiry => execPartnerWaitExpiry_ev s hs
  | .revert w => execRevert_ev w s hs
  | .role w value => execRole_ev w value s hs
  | .mirrorPeriod m => execMirrorPeriod_ev m s hs
  | .cbHistoryReset stream => execCbHistoryReset_ev stream s hs
  | .sweepPassEnd report env => execSweepPassEnd_ev report env s hs
  | .fence w holder => execFence_ev w holder s hs
  | .reclaimStart => execReclaimStart_ev s hs
  | .reclaimDone => execReclaimDone_ev s hs
  | .unfence w holder => execUnfence_ev w holder s hs
  | .leaseExpired holder => execLeaseExpired_ev holder s hs
  | .epochStart w => execEpochStart_ev w s hs
  | .snapshot w => execSnapshot_ev w s hs
  | .signalEngineWrite pipe others => execSignalEngineWrite_ev pipe others s hs
  | .staleCheck => execStaleCheck_ev s hs
  | .clearWriteLost w slot lost => execClearWriteLost_ev w slot lost s hs
  | .cycleGroupEnable w g => execCycleGroupEnable_ev w g s hs
  | .applyTiming w g => execApplyTiming_ev w g s hs
  | .cycleStart g => execCycleStart_ev g s hs
  | .benchTrigger g => execBenchTrigger_ev g s hs
  | .publicationRun l => execPublicationRun_ev l s hs
  | .signalSnapshot w => execSignalSnapshot_ev w s hs
  | .submit w descriptor => execSubmit_ev w descriptor s hs
  | .cancelClass w c => execCancelClass_ev w c s hs
  | .jobDispatch => execJobDispatch_ev s hs
  | .benchIntStart b => execBenchIntStart_ev b s hs
  | .run w b => execRun_ev w b s hs
  | .halt w b => execHalt_ev w b s hs
  | .benchReset w b => execBenchReset_ev w b s hs
  | .benchResetClear w b => execBenchResetClear_ev w b s hs
  | .runLimit b => execRunLimit_ev b s hs
  | .barrierTimeout k => execBarrierTimeout_ev k s hs
  | .tileStartAdmitted => execTileStartAdmitted_ev s hs
  | .dictDone b lost => execDictDone_ev b lost s hs
  | .benchFramePresent b => execBenchFramePresent_ev b s hs
  | .execMicroword b e => execExecMicroword_ev b e s hs
  | .branch b e => execBranch_ev b e s hs
  | .nop b e => execNop_ev b e s hs
  | .jump b e => execJump_ev b e s hs
  | .call b e => execCall_ev b e s hs
  | .ret b e => execRet_ev b e s hs
  | .loop b e => execLoop_ev b e s hs
  | .sync b e => execSync_ev b e s hs
  | .trap b e => execTrap_ev b e s hs
  | .loadimmSet b e => execLoadimmSet_ev b e s hs
  | .loadimmShift b e => execLoadimmShift_ev b e s hs
  | .add b x imm => execAdd_ev b x imm s hs
  | .sub b x imm => execSub_ev b x imm s hs
  | .and b x imm => execAnd_ev b x imm s hs
  | .or b x imm => execOr_ev b x imm s hs
  | .xor b x imm => execXor_ev b x imm s hs
  | .shl b x imm => execShl_ev b x imm s hs
  | .shr b x imm => execShr_ev b x imm s hs
  | .sar b x imm => execSar_ev b x imm s hs
  | .cmp b x imm => execCmp_ev b x imm s hs
  | .mov b x imm => execMov_ev b x imm s hs
  | .mul b x imm => execMul_ev b x imm s hs
  | .divu b x imm => execDivu_ev b x imm s hs
  | .divs b x imm => execDivs_ev b x imm s hs
  | .remu b x imm => execRemu_ev b x imm s hs
  | .rems b x imm => execRems_ev b x imm s hs
  | .mins b x imm => execMins_ev b x imm s hs
  | .maxs b x imm => execMaxs_ev b x imm s hs
  | .fadd b x imm => execFadd_ev b x imm s hs
  | .fsub b x imm => execFsub_ev b x imm s hs
  | .fmul b x imm => execFmul_ev b x imm s hs
  | .fma b x imm => execFma_ev b x imm s hs
  | .fdiv b x imm => execFdiv_ev b x imm s hs
  | .fsqrt b x imm => execFsqrt_ev b x imm s hs
  | .fcmp b x imm => execFcmp_ev b x imm s hs
  | .itof b x imm => execItof_ev b x imm s hs
  | .ftoi b x imm => execFtoi_ev b x imm s hs
  | .vget b x imm => execVget_ev b x imm s hs
  | .vadd b x => execVadd_ev b x s hs
  | .vsub b x => execVsub_ev b x s hs
  | .vmul b x => execVmul_ev b x s hs
  | .vfma b x => execVfma_ev b x s hs
  | .vmin b x => execVmin_ev b x s hs
  | .vmax b x => execVmax_ev b x s hs
  | .vcmplt b x => execVcmplt_ev b x s hs
  | .vsel b x => execVsel_ev b x s hs
  | .vdiv b x => execVdiv_ev b x s hs
  | .vsqrt b x => execVsqrt_ev b x s hs
  | .vhsum b x => execVhsum_ev b x s hs
  | .vbcast b x => execVbcast_ev b x s hs
  | .vshuf b x => execVshuf_ev b x s hs
  | .vcvti b x => execVcvti_ev b x s hs
  | .vcvtf b x => execVcvtf_ev b x s hs
  | .ld b x imm e => execLd_ev b x imm e s hs
  | .st b x imm e => execSt_ev b x imm e s hs
  | .pld b x imm e => execPld_ev b x imm e s hs
  | .pst b x imm e => execPst_ev b x imm e s hs
  | .pmoveIn b x imm e => execPmoveIn_ev b x imm e s hs
  | .pmoveOut b x imm e => execPmoveOut_ev b x imm e s hs
  | .sread b x imm e => execSread_ev b x imm e s hs
  | .sgather b x imm e => execSgather_ev b x imm e s hs
  | .swrite b x imm e => execSwrite_ev b x imm e s hs
  | .sscatter b x imm e => execSscatter_ev b x imm e s hs
  | .fsend b x imm e => execFsend_ev b x imm e s hs
  | .tzero b t => execTzero_ev b t s hs
  | .touter b t va vb => execTouter_ev b t va vb s hs
  | .tmma b t ra rb rk e => execTmma_ev b t ra rb rk e s hs
  | .tread b t row vd => execTread_ev b t row vd s hs
  | .tstore b t ra e => execTstore_ev b t ra e s hs
  | .cwordRead b cw reg => execCwordRead_ev b cw reg s hs
  | .cwordWrite b cw value => execCwordWrite_ev b cw value s hs
  | .complete b value => execComplete_ev b value s hs
  | .barrier b value => execBarrier_ev b value s hs
  | .raise b => execRaise_ev b s hs
  | .intClaim b reg => execIntClaim_ev b reg s hs
  | .intComplete b value => execIntComplete_ev b value s hs
  | .dictValue b value => execDictValue_ev b value s hs
  | .rxRing b value => execRxRing_ev b value s hs
  | .rxHead b value => execRxHead_ev b value s hs
  | .package w pipe offset data => execPackage_ev w pipe offset data s hs
  | .load w pipe => execLoad_ev w pipe s hs
  | .loadAbort w pipe => execLoadAbort_ev w pipe s hs
  | .loadVerified pipe => execLoadVerified_ev pipe s hs
  | .persistDone pipe => execPersistDone_ev pipe s hs
  | .pipeWordRepair pipe nano addr clean => execPipeWordRepair_ev pipe nano addr clean s hs
  | .handover w bank owner => execHandover_ev w bank owner s hs
  | .bankCleared bank => execBankCleared_ev bank s hs
  | .service w bank value => execService_ev w bank value s hs
  | .wipe w => execWipe_ev w s hs
  | .jigStart w => execJigStart_ev w s hs
  | .jigStop w => execJigStop_ev w s hs
  | .jigSegmentDone errors => execJigSegmentDone_ev errors s hs
  | .mgmtClaim => execMgmtClaim_ev s hs
  | .testRaise w source => execTestRaise_ev w source s hs
  | .attnBatch c => execAttnBatch_ev c s hs
  | .snap w g => execSnap_ev w g s hs
  | .chainMap w value => execChainMap_ev w value s hs
  | .clear w window element => execClear_ev w window element s hs
  | .histSnapshot w window => execHistSnapshot_ev w window s hs
  | .energyInterval => execEnergyInterval_ev s hs
  | .telemetryBuild t => execTelemetryBuild_ev t s hs
  | .flushTimeout t => execFlushTimeout_ev t s hs
  | .watchPeriodEnd w => execWatchPeriodEnd_ev w s hs
  | .refOutOfRange ppm lost settled => execRefOutOfRange_ev ppm lost settled s hs
  | .rootHold => execRootHold_ev s hs
  | .rootUnlock env => execRootUnlock_ev env s hs
  | .crystalLost => execCrystalLost_ev s hs
  | .avsStep failed => execAvsStep_ev failed s hs
  | .pmbAlert rail ok status => execPmbAlert_ev rail ok status s hs
  | .railSample reads => execRailSample_ev reads s hs
  | .prepare w value => execPrepare_ev w value s hs
  | .prepared => execPrepared_ev s hs
  | .prepareFailed => execPrepareFailed_ev s hs
  | .prepareLapsed => execPrepareLapsed_ev s hs
  | .commit w value => execCommit_ev w value s hs
  | .lockstepAbort w txn => execLockstepAbort_ev w txn s hs
  | .applied => execApplied_ev s hs
  | .raiseWindowEnd => execRaiseWindowEnd_ev s hs
  | .reverted mv => execReverted_ev mv s hs
  | .clockStretch mv => execClockStretch_ev mv s hs
  | .stretchEnd mv edges => execStretchEnd_ev mv edges s hs
  | .undervolt mv => execUndervolt_ev mv s hs
  | .thermalSample temps calm cool lost => execThermalSample_ev temps calm cool lost s hs
  | .throttleStep => execThrottleStep_ev s hs
  | .thermtrip sensor reading => execThermtrip_ev sensor reading s hs
  | .thermtripClear w => execThermtripClear_ev w s hs
  | .railArrived supply env => execRailArrived_ev supply env s hs
  | .railTimeout supply => execRailTimeout_ev supply s hs
  | .islandStart byPin straps keyHeld firmwareOk => execIslandStart_ev byPin straps keyHeld firmwareOk s hs
  | .islandWatchdog pc => execIslandWatchdog_ev pc s hs
  | .start w => execStart_ev w s hs
  | .wake w => execWake_ev w s hs
  | .warmReset w => execWarmReset_ev w s hs
  | .standby w => execStandby_ev w s hs
  | .retain w => execRetain_ev w s hs
  | .coldReset w env => execColdReset_ev w env s hs
  | .islandReset w => execIslandReset_ev w s hs
  | .clearBreach w => execClearBreach_ev w s hs
  | .clearPersisted w => execClearPersisted_ev w s hs
  | .firmwareImport w offset data => execFirmwareImport_ev w offset data s hs
  | .accept w => execAccept_ev w s hs
  | .firmwareCheckDone result version => execFirmwareCheckDone_ev result version s hs
  | .timeClockTick => execTimeClockTick_ev s hs
  | .txPllUnlock n => execTxPllUnlock_ev n s hs
  | .linkFaultCleared p => execLinkFaultCleared_ev p s hs
  | .pauseTimerExpiry h => execPauseTimerExpiry_ev h s hs
  | .supplyOutOfRange supply => execSupplyOutOfRange_ev supply s hs
  | .supplyBackInRange supply => execSupplyBackInRange_ev supply s hs
  | .vauxLost => execVauxLost_ev s hs
  | .coreSupplyLost => execCoreSupplyLost_ev s hs
  | .orphanConfirmed quantity unit env => execOrphanConfirmed_ev quantity unit env s hs
  | .benchResetDone b => execBenchResetDone_ev b s hs
  | .storeScrub pipes bays => execStoreScrub_ev pipes bays s hs
  | .sealSample level => execSealSample_ev level s hs
  | .mgmtFrameSend octets => execMgmtFrameSend_ev octets s hs

/-- So does every step, but for the command that it takes from the queue. -/
theorem step_ev (s : State) : EvN { s with pending := s.pending.tail } (step s) := by
  unfold step
  split
  · next hp => exact .done (State.tick_ev s (Ev.same (Ev.refl _) (by simp [hp]) rfl rfl rfl rfl))
  · next c rest hp => rw [hp]; exact exec_ev (Ev.refl _) c

theorem Ev.wf {s t : State} (h : Ev s t) (hs : s.wf = true) : t.wf = true := by
  simp only [State.wf, Bool.and_eq_true] at hs ⊢
  obtain ⟨⟨hr, ht⟩, hm⟩ := hs
  exact ⟨⟨h.regs hr, h.tabs ht⟩, h.mem hm⟩

end Sys2Proof.Machine
end

section
/-!
SUPPORT. Every command answers a next state: no outcome of a command is a fault or a refusal. The branches of each command are
taken apart along its definition; the ends are State.done and the state as it was.
-/
namespace Sys2Proof.Machine

/-- The outcome is a next state, neither a fault nor a refusal. -/
def Proceeds (o : Next) : Prop := ∃ t, o = .next t

theorem Proceeds.next (s : State) : Proceeds (.next s) := ⟨s, rfl⟩

theorem Proceeds.done (s : State) : Proceeds s.done := ⟨_, rfl⟩

theorem Proceeds.ite {c : Prop} [Decidable c] {a b : Next} (ha : Proceeds a) (hb : Proceeds b) :
    Proceeds (if c then a else b) := by
  split
  · exact ha
  · exact hb

/-! ### The frames of requests, of writes of the time servo and of microwords -/

theorem State.request_proceeds (s : State) (op : Nat) (q : Request) (run : State → State) : Proceeds (s.request op q run) := by
  unfold State.request
  split
  · exact .done _
  · split
    · exact .done _
    · exact .done _

theorem State.sessionlessRequest_proceeds (s : State) (op : Nat) (q : Request) (run : State → State) :
    Proceeds (s.sessionlessRequest op q run) := by
  unfold State.sessionlessRequest
  split
  · exact .done _
  · exact .ite (.done _) (.done _)

theorem State.servoWrite_proceeds (s : State) (runtime : Bool) (w sub v : Nat) (eff : State → Res) :
    Proceeds (s.servoWrite runtime w sub v eff) :=
  .ite (.ite (.done _) (.next _)) (.done _)

theorem State.onMicro_proceeds (s : State) (b : Nat) (e : BenchEnv) (f : State → Micro → Option State) :
    Proceeds (s.onMicro b e f) := by
  unfold State.onMicro
  refine .ite (.next _) ?_
  split
  · exact .next _
  · split
    · exact .next _
    · exact .done _

/-! ### All commands, by the shape of their branches -/

theorem exec_proceeds (c : Instr) (s : State) : Proceeds (exec c s) := by
  cases c with
  | sessionCloseComplete | keyReleased | signalDetected | trainingComplete | shimDelete | shimInsert | prbsLockLost | eyeScanDone
  | pause | dcbInitSend | dcbCreditSend | creditTimeout | bankSwitch | pauseFault | heartbeatTimeout | mirrorPeriod | sweepPassEnd
  | staleCheck | cycleStart | barrierTimeout | persistDone | energyInterval | flushTimeout | watchPeriodEnd | avsStep | thermtrip
  | txPllUnlock | coreSupplyLost | storeScrub =>
    exact .ite (.next _) (.done _)
  | zdpArpRequest =>
    exact .ite (.ite (.done _) (.done _)) (.next _)
  | saveDone | keyAsserted | wipeStart | cdrLocked | serAlarm | pfc | dcbInitReceived | pipeWordRepair | pmbAlert | firmwareCheckDone
  | orphanConfirmed =>
    exact .ite (.next _) (.ite (.done _) (.done _))
  | restoreDone | clearSavedDone | importCheckDone | presenceWindowExpiry | sealOpened | sealClosed | dataEntered | trainingFailed
  | bringupSignalLost | signalLost | ucwRetrain | fastRetrainTimeout | prbsLock | linkUp | pauseRepeat | pfcRefresh | watchdogFired
  | watchdogRecovered | reportTimeout | holdoverTimeout | resvCommitApply | lossHoldExpiry | partnerWaitExpiry | cbHistoryReset
  | benchTrigger | publicationRun | submit | benchIntStart | runLimit | bankCleared | attnBatch | clear | histSnapshot | rootHold
  | rootUnlock | crystalLost | prepared | prepareFailed | prepareLapsed | raiseWindowEnd | reverted | railTimeout | timeClockTick
  | benchResetDone =>
    exact .ite (.done _) (.next _)
  | adaptationConverged | throttleStep =>
    exact .ite (.done _) (.ite (.done _) (.next _))
  | dcbCreditReceived =>
    exact .ite (.next _) (.ite (.done _) (.ite (.next _) (.done _)))
  | frameStart =>
    exact .ite (.done _) (.ite (.next _) (.ite (.done _) (.ite (.done _) (.ite (.done _) (.ite (.done _) (.done _))))))
  | clockStretch | stretchEnd | undervolt =>
    exact .ite (.next _) (.ite (.done _) (.next _))
  | railArrived =>
    exact .ite (.ite (.done _) (.next _)) (.next _)
  | read | write | blockRead | blockWrite | windowCommit | parkedWatch | release | close =>
    exact State.request_proceeds ..
  | measuredOffset | offsetAdj | setTime =>
    exact State.servoWrite_proceeds ..
  | branch | nop | jump | call | ret | loop | sync | trap | loadimmSet | loadimmShift =>
    exact State.onMicro_proceeds ..
  | ping =>
    exact .ite (State.sessionlessRequest_proceeds ..) (State.request_proceeds ..)
  | openSession =>
    simp only [exec, execOpenSession]
    refine .ite ?_ (State.sessionlessRequest_proceeds ..)
    split
    · exact .done _
    · exact .done _
  | watchTimeout | signalEngineWrite | jobDispatch | dictDone | jigSegmentDone =>
    simp only [exec, execWatchTimeout, execSignalEngineWrite, execJobDispatch, execDictDone, execJigSegmentDone]
    split
    · exact .next _
    · exact .done _
  | registerWrite =>
    simp only [exec, execRegisterWrite]
    split
    · exact .done _
    · exact .ite (.next _) (.done _)
  | stage | windowRangeWrite | abort | uncorrectedCw | elasticFault | tileStartAdmitted | benchFramePresent =>
    simp only [exec, execStage, execWindowRangeWrite, execAbort, execUncorrectedCw, execElasticFault, execTileStartAdmitted,
      execBenchFramePresent]
    split
    · exact .next _
    · exact .ite (.next _) (.done _)
  | wipeDone =>
    simp only [exec, execWipeDone]
    refine .ite (.next _) ?_
    split
    · exact .done _
    · exact .done _
  | bypassFrameStart | aged | resvReturnActive =>
    simp only [exec, execBypassFrameStart, execAged, execResvReturnActive]
    split
    · exact .next _
    · exact .ite (.done _) (.next _)
  | parserStart | frameTail =>
    simp only [exec, execParserStart, execFrameTail]
    split
    · exact .next _
    · refine .ite (.next _) ?_
      split
      · exact .done _
      · exact .ite (.done _) (.ite (.done _) (.done _))
  | bufferAdmission =>
    simp only [exec, execBufferAdmission]
    split
    · exact .next _
    · refine .ite (.next _) ?_
      split
      · exact .next _
      · exact .ite (.done _) (.next _)
  | injectPresent =>
    simp only [exec, execInjectPresent]
    refine .ite (.next _) ?_
    split
    · exact .next _
    · exact .done _
  | copyTxStart =>
    simp only [exec, execCopyTxStart]
    split
    · exact .next _
    · split
      · exact .next _
      · exact .ite (.next _) (.ite (.done _) (.done _))
  | copyTxEnd =>
    simp only [exec, execCopyTxEnd]
    split
    · exact .next _
    · split
      · exact .next _
      · exact .ite (.done _) (.next _)
  | gateListResume | listSwapped =>
    simp only [exec, execGateListResume, execListSwapped]
    split
    · exact .ite (.done _) (.next _)
    · exact .next _
  | reclaimStart =>
    simp only [exec, execReclaimStart]
    refine .ite (.done _) ?_
    split
    · exact .done _
    · exact .done _
  | reclaimDone =>
    simp only [exec, execReclaimDone]
    split
    · exact .next _
    · exact .ite (.done _) (.done _)
  | leaseExpired =>
    simp only [exec, execLeaseExpired]
    split
    · exact .next _
    · exact .next _
    · exact .done _
  | execMicroword =>
    simp only [exec, execExecMicroword]
    refine .ite (.next _) (.ite (.done _) ?_)
    split
    · exact .done _
    · exact .done _
    · exact .next _
  | loadVerified =>
    simp only [exec, execLoadVerified]
    refine .ite (.next _) ?_
    split
    · exact .done _
    · exact .ite (.done _) (.ite (.done _) (.done _))
  | telemetryBuild =>
    simp only [exec, execTelemetryBuild]
    refine .ite (.next _) ?_
    split
    · exact .ite (.next _) (.done _)
    · exact .ite (.done _) (.next _)
  | mgmtFrameSend =>
    simp only [exec, execMgmtFrameSend]
    refine .ite (.next _) (.ite (.done _) ?_)
    split
    · exact .next _
    · exact .done _
  -- every other command ends in State.done without a branch
  | _ => exact .done _

end Sys2Proof.Machine
end

section
/-!
SUPPORT. REGISTER_WRITE: a write of a host that passes the checks of R79, and the runtime's write of a peer delay (R308).
-/
namespace Sys2Proof.Machine

theorem State.performWrite_permitted {s : State} {op idx sub : Nat} {r : Sub} {eff : State → Res}
    (hb : s.blockInReset op idx sub = false) (hs : (s.saving && r.saved) = false) :
    (s.performWrite op idx sub r eff).st
      = if (eff s).code = Code.ok ∧ r.saved = true then (eff s).st.configChanged else (eff s).st := by
  unfold State.performWrite
  simp only [hb, hs, Bool.false_eq_true, if_false]
  by_cases hr : (eff s).code = Code.range
  · rw [if_pos hr, if_neg (by rw [hr]; rintro ⟨h, -⟩; exact absurd h (by decide))]
  · rw [if_neg hr]; split <;> rfl

theorem State.permits_pass {s : State} {w idx sub v : Nat} {o : Obj} {r : Sub} (h : s.permits w idx sub v = true)
    (hp : s.checkObject (s.asker w) Zop.write idx sub = .pass o r) :
    s.reg (Reg.SESSION.STATE w) = 1 ∧ s.blockInReset Zop.write idx sub = false ∧ valueRefuses r v = false
      ∧ (s.saving && r.saved) = false := by
  unfold State.permits at h
  simp only [hp, Bool.and_eq_true, beq_iff_eq, Bool.not_eq_true'] at h
  obtain ⟨⟨ho, hb⟩, hv, hs⟩ := h
  exact ⟨ho, hb, hv, hs⟩

theorem execRegisterWrite_host {s : State} {w : SessionNo} {idx sub v : Nat} (sets : Nat) {o : Obj} {r : Sub}
    (h : s.permits w idx sub v = true) (hd : isDiagnostic idx = false)
    (hp : s.checkObject (s.asker w) Zop.write idx sub = .pass o r) (hm : r.ty.size ≤ s.reg Reg.ZDP_CONFIG.MAX_DATA) :
    execRegisterWrite (some w) idx sub v sets s
      = State.done (s.performWrite Zop.write idx sub r (fullEffect w idx sub v sets)).st := by
  obtain ⟨ho, -, hv, -⟩ := State.permits_pass h hp
  simp [execRegisterWrite, ho, State.onObject, hd, hp, Nat.not_lt.mpr hm, State.writeValue, hv, Res.next]

/-- The first object that meets the run of indices from `lo` covers it, so each index of the run finds it. -/
theorem Dict.lookup_of_run {lo n i : Nat} {o : Obj}
    (h : Dict.objects.find? (fun x => decide (x.idx < lo + n) && decide (lo < x.idx + x.count)) = some o)
    (hlo : o.idx ≤ lo) (hhi : lo + n ≤ o.idx + o.count) (h1 : lo ≤ i) (h2 : i < lo + n) : Dict.lookup i = some o := by
  obtain ⟨-, before, after, hl, hn⟩ := List.find?_eq_some_iff_append.mp h
  refine List.find?_eq_some_iff_append.mpr ⟨by simp; omega, before, after, hl, fun x hx => ?_⟩
  have := hn x hx
  simp at this ⊢
  omega

theorem Dict.lookup_portTime {p : Nat} (h : p < 514) : Dict.lookup (0x6100 + p) = some Dict.obj6100 :=
  Dict.lookup_of_run (lo := 0x6100) (n := 514) rfl (by decide) (by decide) (by omega) (by omega)

theorem State.runtimeWrite_peerDelay {s : State} {p v : Nat} (hp : p < 514) (hv : v < 2 ^ 32) :
    s.runtimeWrite (0x6100 + p) 0x03 v = s.setReg (regKey (0x6100 + p) 0x03) v := by
  have hrow : Dict.obj6100.row 0x03 = some ⟨0x03, .u32, .ro, 0, .any, false⟩ := rfl
  have hok : valueRefuses ⟨0x03, .u32, .ro, 0, .any, false⟩ v = false := by
    have hlt : v < 2 ^ (8 * Ty.u32.size) := hv
    simp [valueRefuses, Ty.valid, Range.holds, hlt]
  unfold State.runtimeWrite
  simp only [Dict.lookup_portTime hp, hrow, hok]
  simp [Dict.obj6100]

end Sys2Proof.Machine
end

section
/-!
The statements of 00_scope.md settled.
-/
open Sys2Proof Sys2Proof.Machine

/-- Settles O1: a step unfolds to exec of the front command. -/
theorem stepRunsFront : Obligations.StepRunsFront := fun _ _ _ => rfl

/-- Settles O2: no branch of a command ends in a fault or a refusal, and every operation keeps the queue. -/
theorem everyCommandAnswers : Obligations.EveryCommandAnswers := by
  intro c s
  obtain ⟨t, ht⟩ := exec_proceeds c s
  exact ⟨t, ht, ((exec_ev (Ev.refl s) c).out t ht).pending⟩

/-- Settles O3: every operation keeps each of the three stores in canonical form. -/
theorem storesStayCanonical : Obligations.StoresStayCanonical :=
  fun s t hs ht => ((step_ev s).out t ht).wf hs

/-- Settles O12: a host's write by the checks of R79 that it passes, the runtime's by the row of PEER_DELAY_PS. -/
theorem registerWritten : Obligations.RegisterWritten := by
  unfold Obligations.RegisterWritten
  refine ⟨fun s w idx sub v sets o r h hd hp hm => ?_, fun s p v sets hlt hv => ?_⟩
  · obtain ⟨-, hb, -, hs⟩ := State.permits_pass h hp
    refine ⟨_, execRegisterWrite_host sets h hd hp hm, ?_⟩
    rw [State.performWrite_permitted hb hs, State.savedSub_of_pass (by decide) hp]
    exact Only.deliverDue _
  · have hq : quietReg (regKey (0x6100 + p) 0x03) = true := by
      rw [quietReg_iff]; unfold regKey; omega
    refine ⟨_, congrArg State.done (State.runtimeWrite_peerDelay hlt hv), ?_, ?_⟩
    · rw [(Only.deliverDue (R := []) (T := []) _).regs _ (by simp) hq, State.reg_setReg, if_pos rfl]
    · exact (Only.setReg _ _ _ (.inl (by simp))).trans (Only.deliverDue _)
end

section
/-!
SUPPORT. The commands of the path of frames leave the island as it is: each command's branches, from the laws of the operations
that they end in (Laws/Forward.lean).
-/
namespace Sys2Proof.Machine

/-- The outcome, where it is a next state, keeps what forwarding leaves as it was. -/
def FwdN (T : Nat) (z : State) (o : Next) : Prop := ∀ t, o = .next t → Fwd T z t

theorem FwdN.next {T : Nat} {z s : State} (h : Fwd T z s) : FwdN T z (.next s) := by rintro t ⟨⟩; exact h

theorem FwdN.done {T : Nat} {z s : State} (h : Fwd T z s) : FwdN T z s.done := FwdN.next (State.deliverDue_fw h)

theorem FwdN.same {T : Nat} {s : State} : FwdN T s (.next s) := FwdN.next (Fwd.refl s)

theorem FwdN.ite {T : Nat} {z : State} {c : Prop} [Decidable c] {a b : Next} (ha : FwdN T z a) (hb : FwdN T z b) :
    FwdN T z (if c then a else b) := by
  split
  · exact ha
  · exact hb

/-- No ZDP frame of a host port: any frame of another port, and one of its own in no carriage. -/
theorem State.not_hostZdp {s : State} {p : Fin 514} {b : Bytes} (hz : 512 ≤ p.val → s.isZdpFrame b = false) :
    ¬(decide (512 ≤ p.val) && s.isZdpFrame b) = true := by
  simpa using hz

/-- The frame of a port begins: a host's ZDP frame apart, no branch writes a register below those of the ports (R244). -/
theorem execFrameStart_fw (p : Fin 514) (queue : QueueNo) (octets : FrameOctets) (s : State)
    (hz : 512 ≤ p.val → s.isZdpFrame octets = false) : FwdN 0x140000 s (execFrameStart p queue octets s) := by
  have hT : 0x140000 ≤ 0x300000 := by decide
  have hput : ∀ f : Frame, Fwd 0x140000 s ((s.accept p (s.portPart p)).1.putFrame f) := fun f =>
    State.putFrame_fw hT _ f (State.accept_fw hT s _ _ (Fwd.refl s))
  have hdrop : ∀ (f : Frame) (r : Nat), FwdN 0x140000 s
      (State.done (((s.accept p (s.portPart p)).1.putFrame f).dropArriving f octets r)) := fun f r =>
    .done (State.dropArriving_fw hT _ _ _ _ (hput f))
  unfold execFrameStart
  dsimp only
  rw [if_neg (State.not_hostZdp hz)]
  refine .ite .same (.ite (.done (State.controlFrameIn_fw hT _ _ _ (Fwd.refl s))) ?_)
  exact .ite (hdrop _ _) (.ite (hdrop _ _) (.ite (hdrop _ _)
    (.done (State.fifoCheckOf_fw (Nat.le_refl _) _ _ (State.arrive_fw hT _ _ _ _ (hput _))))))

/-- The last octets and the end of a frame write no register below those of the ports (R246). -/
theorem execFrameTail_fw (frame : Nat) (octets : FrameOctets) (tail : TailEnd) (s : State) :
    FwdN 0x140000 s (execFrameTail frame octets tail s) := by
  have hT : 0x140000 ≤ 0x300000 := by decide
  unfold execFrameTail
  split
  · exact .same
  · next f _ =>
    refine .ite .same ?_
    dsimp only
    have ha : Fwd 0x140000 s (s.arrive f octets (if delimited tail then 4 else 0)).1 := State.arrive_fw hT s _ _ _ (Fwd.refl s)
    split
    · next u h => exact .done (Fw.fst h ha)
    · next u g h =>
      have hu : Fwd 0x140000 s u := Fw.fst h ha
      refine .ite (.done (State.drained_fw hT _ (Fw.upd hu))) (.ite (.done ?_) (.done ?_))
      · exact State.fifoCheckOf_fw (Nat.le_refl _) _ _ (State.dropWhole_fw hT _ _ _
          (State.updateFrame_fw hT _ _ _ (State.countRx_fw hT _ _ _ _ hu)))
      · exact State.fifoCheckOf_fw (Nat.le_refl _) _ _ (State.endArrival_fw hT _ _ _ _ (State.countRx_fw hT _ _ _ _ hu))

/-- The parse of a frame and its ingress stages write no register below those of the ports (R188). -/
theorem execParserStart_fw (frame : Nat) (octets : FrameOctets) (s : State) : FwdN 0x140000 s (execParserStart frame octets s) := by
  have hT : 0x140000 ≤ 0x300000 := by decide
  unfold execParserStart
  split
  · exact .same
  · next f _ =>
    refine .ite .same ?_
    have ha : Fwd 0x140000 s (if f.tailed then (s, some f) else s.arrive f octets 0).1 :=
      Fw.ite_fst (fun _ => Fwd.refl s) fun _ => State.arrive_fw hT s _ _ _ (Fwd.refl s)
    split
    · next u h => exact .done (Fw.fst h ha)
    · next u g h =>
      have hu : Fwd 0x140000 s u := Fw.fst h ha
      refine .ite (.done hu) (.ite (.done hu) (.done ?_))
      have hd := State.decided_fw hT (u.ingress g).1 g (u.ingress g).2 (State.ingress_fw hT u g hu)
      refine State.fifoCheckOf_fw (Nat.le_refl _) _ _ (Fw.ite (fun _ => State.dropWhole_fw hT _ _ _ ?_) fun _ => ?_)
      · exact Fw.ite (fun _ => State.handoffTail_fw hT _ _ _ hd) fun _ => hd
      · exact Fw.ite (fun _ => State.handoffTail_fw hT _ _ _ hd) fun _ => hd

theorem execBufferAdmission_fw (frame : Nat) (s : State) : FwdN 0x300000 s (execBufferAdmission frame s) := by
  unfold execBufferAdmission
  split
  · exact .same
  · refine .ite .same ?_
    dsimp only
    split
    · exact .same
    · exact .ite (.done (State.takeAdmission_fw (Nat.le_refl _) _ _ (Fwd.refl s))) .same

theorem execInjectPresent_fw (p : PortNo) (s : State) : FwdN 0x300000 s (execInjectPresent p s) := by
  unfold execInjectPresent
  refine .ite .same ?_
  split
  · exact .same
  · next b _ =>
    have hb : Fwd 0x300000 s { s with built := s.built.erase b } := Fw.upd (Fwd.refl s)
    exact .done (State.present_fw (Nat.le_refl _) _ _ _ _ _ _ _ (State.when_fw hb fun _ hu => State.setTab_fw hu))

theorem execSchedulerSelection_fw (p : PortNo) (s : State) : FwdN 0x300000 s (execSchedulerSelection p s) :=
  .done (State.selection_fw (Nat.le_refl _) _ _ (Fwd.refl s))

/-- The egress stages and their counting keep what each stage's microword keeps (R202, R203). -/
theorem State.egress_fw {z : State} {T : Nat} (hT : T ≤ 0x300000) (s : State) (f : Frame) (c : Copy) (e : Nat) (hs : Fw T z s) :
    Fw T z (s.egress f c e).st := by
  unfold State.egress
  exact State.when_fw (State.when_fw (State.count_fw _ _ _ (egressStage_fw hT _ _ _ _ (egressStage_fw hT _ _ _ _ (egressStage_fw hT _ _ _ _
    (egressStage_fw hT _ _ _ _ (egressStage_fw hT _ _ _ _ (egressStage_fw hT _ _ _ _ hs)))))))
    fun _ hu => State.count_fw _ _ _ hu) fun _ hu => State.count_fw _ _ _ hu

theorem execCopyTxStart_fw (p : PortNo) (s : State) : FwdN 0x300000 s (execCopyTxStart p s) := by
  have hT : 0x300000 ≤ 0x300000 := Nat.le_refl _
  unfold execCopyTxStart
  split
  · exact .same
  · next c _ =>
    split
    · exact .same
    · next f _ =>
      refine .ite .same ?_
      have hf : Fwd 0x300000 s ((s.egress f c (pipeOf p (hvGet f.hv 10))).st.finalize f) :=
        State.finalize_fw hT _ _ (State.egress_fw hT _ _ _ _ (Fwd.refl s))
      refine .ite (.done (State.dropCopy_fw hT _ _ _ hf)) (.done ?_)
      exact State.putCopy_fw hT _ _ (State.report_fw hT _ _ _ _ (State.unreport_fw hT _ _ _ _ _ _
        (State.when_fw hf fun _ hu => State.setTab_fw hu)))

theorem execAged_fw (copy : Nat) (s : State) : FwdN 0x300000 s (execAged copy s) := by
  unfold execAged
  split
  · exact .same
  · exact .ite (.done (State.dropCopy_fw (Nat.le_refl _) _ _ _ (Fwd.refl s))) .same

theorem execMgmtFrameSend_fw (octets : FrameOctets) (s : State) : FwdN 0x300000 s (execMgmtFrameSend octets s) := by
  have hT : 0x300000 ≤ 0x300000 := Nat.le_refl _
  unfold execMgmtFrameSend
  refine .ite .same (.ite (.done (State.present_fw hT _ _ _ _ _ _ _ (Fwd.refl s))) ?_)
  split
  · exact .same
  · exact .done (State.present_fw hT _ _ _ _ _ _ _ (State.replySent_fw hT _ _ (Fw.upd (State.drew_fw (Fwd.refl s)))))

/-- Counting of a received frame touches only the hardware counters. -/
theorem Only.macReceived {R T : List Nat} (s : State) (p n : Nat) (hp : p < 514) : Only R T s (s.macReceived p n) := by
  have h0 : Ctr.port p 0 < 2 ^ 39 := by unfold Ctr.port; omega
  have h1 : Ctr.port p 1 < 2 ^ 39 := by unfold Ctr.port; omega
  unfold State.macReceived
  exact (Only.count _ _ _ h0).trans (Only.count _ _ _ h1)

/-- Of a host's ZDP frame whose operation no row knows RX_MALFORMED counts, and of any other nothing at all (R62, R185). -/
theorem Only.zdpFrameIn (s : State) (p : Nat) (b : Bytes) (hp : p < 514) :
    Only [Reg.ZDP_STATISTICS.RX_MALFORMED] [] s (s.zdpFrameIn p b) := by
  unfold State.zdpFrameIn
  split
  · exact Only.refl s
  · refine Only.when _ _ _ fun u => ?_
    exact (Only.macReceived u _ _ hp).trans (Only.bump _ _ _ _ (.inl (List.mem_singleton.mpr rfl)))

theorem execFrameStart_zdp {p : Fin 514} {octets : FrameOctets} {s : State} (queue : QueueNo) (hp : 512 ≤ p.val)
    (hz : s.isZdpFrame octets = true) : execFrameStart p queue octets s = State.done (s.zdpFrameIn p octets) :=
  if_pos (by simp [hp, hz])

end Sys2Proof.Machine
end

section
/-!
SUPPORT. How a frame comes to be held: its acceptance (R47, R49), the octets that its MAC hands over with its start (R171, R244), and
the presentation of a frame that is complete (R245, R594).
-/
namespace Sys2Proof.Machine

/-- A new frame of port `p`: chosen by the port's sampler or not, with the gates that stand at its timestamp (R207, R305, R318). -/
def State.newFrame (s : State) (p part : Nat) (hit : Bool) (gates : SMap Nat) : Frame :=
  { Frame.blank s.nextFrame p part with ts := s.clock.ptp, sampled := hit, gateAt := gates }

/-- The state with the new frame `f` held and the tables `m`. -/
def State.withNew (s : State) (m : SMap Nat) (f : Frame) : State :=
  { s with tabs := m, frames := s.frames ++ [f], nextFrame := s.nextFrame + 1 }

/-- A report of units adds to one element of one table: none goes down. -/
theorem State.tab_le_report (s : State) (p k n t i : Nat) : s.tab t i ≤ (s.report p k n).tab t i := by
  unfold State.report State.term
  rw [State.tab_setTab]
  split
  · next h => unfold State.tab; rw [h]; omega
  · exact Nat.le_refl _

/-- The sampler writes its own table and nothing else (R207). -/
theorem State.sample_eq (s : State) (p : Nat) (hp : p < 2 ^ 40) :
    ∃ m, (s.sample p).1 = { s with tabs := m }
      ∧ ∀ i, i < 2 ^ 40 → ({ s with tabs := m } : State).tab Tab.dzGrant i = s.tab Tab.dzGrant i := by
  have hset : ∀ v i, i < 2 ^ 40 → (s.setTab Tab.sampler p v).tab Tab.dzGrant i = s.tab Tab.dzGrant i := fun v i hi => by
    rw [State.tab_setTab, if_neg (by unfold tabKey Tab.dzGrant Tab.sampler; omega)]
  unfold State.sample
  dsimp only
  split
  · exact ⟨s.tabs, rfl, fun _ _ => rfl⟩
  · split
    · exact ⟨_, rfl, hset 0⟩
    · exact ⟨_, rfl, hset _⟩

/-- Acceptance holds one frame more, and lowers the grant of no Dalzan queue (R47, R49, R305). -/
theorem State.accept_eq (s : State) (p part : Nat) (hp : p < 2 ^ 40) :
    ∃ m hit gates, s.accept p part = (s.withNew m (s.newFrame p part hit gates), s.newFrame p part hit gates)
      ∧ ∀ f i, i < 2 ^ 40 → s.tab Tab.dzGrant i ≤ (s.withNew m f).tab Tab.dzGrant i := by
  obtain ⟨m, hm, hg⟩ := s.sample_eq p hp
  have e : s.sample p = ({ s with tabs := m }, (s.sample p).2) := Prod.ext hm rfl
  unfold State.accept
  rw [e]
  refine ⟨_, _, _, rfl, fun f i hi => ?_⟩
  rw [← hg i hi]
  exact Nat.le_trans (State.tab_le_report ({ s with tabs := m } : State) _ _ _ _ _) (State.tab_le_report _ _ _ _ _ _)

theorem State.mem_putFrame {s : State} {f g : Frame} (hf : f ∈ s.frames) (hi : f.id = g.id) : g ∈ (s.putFrame g).frames :=
  List.mem_map.mpr ⟨f, hf, if_pos hi⟩

theorem State.updateFrame_frames (s : State) (f g : Frame) : (s.updateFrame f g).frames = (s.putFrame g).frames := by
  unfold State.updateFrame
  split
  · exact (State.allocate_kf _ _ _ _ _ ⟨rfl⟩).eq
  · exact (State.unreport_kf _ _ _ _ _ _ ⟨rfl⟩).eq

theorem State.sumFrames_eq (s : State) (p : Frame → Bool) (v : Frame → Nat) :
    s.sumFrames p v = (s.frames.map (fun f => if p f then v f else 0)).sum := by
  unfold State.sumFrames
  induction s.frames with
  | nil => rfl
  | cons f l ih =>
    rw [List.filter_cons, List.map_cons, List.sum_cons, ← ih]
    split
    · rfl
    · exact (Nat.zero_add _).symm

/-- A frame that contributes nothing, put in the place of others, makes no sum over the frames larger. -/
theorem State.sumFrames_putFrame_le (s : State) (g : Frame) (p : Frame → Bool) (v : Frame → Nat) (hg : v g = 0) :
    (s.putFrame g).sumFrames p v ≤ s.sumFrames p v := by
  rw [State.sumFrames_eq, State.sumFrames_eq, State.putFrame]
  dsimp only
  induction s.frames with
  | nil => exact Nat.le_refl _
  | cons f l ih =>
    simp only [List.map_cons, List.sum_cons]
    have h0 : (if p g then v g else 0) = 0 := by rw [hg, ite_self]
    have hle : (if p (if f.id = g.id then g else f) then v (if f.id = g.id then g else f) else 0) ≤ (if p f then v f else 0) := by
      split
      · exact Nat.le_trans (Nat.le_of_eq h0) (Nat.zero_le _)
      · exact Nat.le_refl _
    exact Nat.add_le_add hle ih

/-- A new frame that contributes nothing where it counts leaves a sum over the frames as it was. -/
theorem State.sumFrames_withNew (s : State) (m : SMap Nat) (f : Frame) (p : Frame → Bool) (v : Frame → Nat)
    (hf : p f = true → v f = 0) : (s.withNew m f).sumFrames p v = s.sumFrames p v := by
  rw [State.sumFrames_eq, State.sumFrames_eq, State.withNew]
  simpa using hf

theorem Frame.cells_begun {g : Frame} (ho : g.octets = []) (ht : g.tailed = false) (hs : g.stage = 0) (hd : g.pool = Pool.dalzan) :
    g.cells = 0 := by
  simp [Frame.cells, hs, hd, Frame.occupied, Frame.written, ht, ho, ceilDiv]

theorem State.tab_dzCount (s : State) (t : Nat) (f : Frame) (n : Nat) {i : Nat} (ht : t ≠ Tab.dzGrant)
    (hi : 16 * f.srcPort + f.creditQueue < 2 ^ 40) (hj : i < 2 ^ 40) : (s.dzCount t f n).tab Tab.dzGrant i = s.tab Tab.dzGrant i := by
  unfold State.dzCount
  rw [State.tab_setTab, if_neg (by unfold tabKey; omega)]

theorem State.dalzanUsed_dzCount (s : State) (t : Nat) (f : Frame) (n p q : Nat) : (s.dzCount t f n).dalzanUsed p q = s.dalzanUsed p q := rfl

/-- The octets that come with the start of a frame, of at most MAX_FRAME and within the grant of its queue, are written (R171, R244,
R251). -/
theorem State.arrive_begun (s : State) (g : Frame) (b : Bytes) (ho : g.octets = []) (ht : g.tailed = false) (hs : g.stage = 0)
    (hmax : b.length ≤ s.maxFrame g.srcPort) (hi : 16 * g.srcPort + g.creditQueue < 2 ^ 40)
    (hgrant : g.pool = Pool.dalzan → s.dalzanUsed g.srcPort g.creditQueue + ceilDiv b.length 256
      ≤ s.tab Tab.dzGrant (16 * g.srcPort + g.creditQueue)) :
    (s.arrive g b 0).1 = (s.when (g.pool == Pool.dalzan) (·.dzCount Tab.dzReceived g (ceilDiv b.length 256))).updateFrame g
      { g with octets := b } := by
  unfold State.arrive
  extract_lets max more all h dz fresh u _ w x
  have hmore : more = b := if_neg fun h => h.1 (congrArg List.length ho)
  have hall : all = b := by
    unfold all
    rw [ho, hmore, List.nil_append]
    exact List.take_of_length_le (Nat.le_succ_of_le hmax)
  have hh : h = { g with octets := b } := by simp only [h, hall]
  have hfresh : fresh = ceilDiv b.length 256 := by simp [fresh, hall, Frame.occupied, Frame.written, ht, ho, ceilDiv]
  have hended : ¬(dz && g.stage == 3) = true := by simp [hs]
  have hover : ¬(dz && decide (u.tab Tab.dzGrant (16 * g.srcPort + g.creditQueue) < u.dalzanUsed g.srcPort g.creditQueue + fresh)) = true := by
    by_cases hd : g.pool = Pool.dalzan
    · have hu : u = s.dzCount Tab.dzReceived g fresh := by simp [u, dz, hd, State.when]
      rw [hu, hfresh, State.tab_dzCount _ _ _ _ (by decide) hi hi, State.dalzanUsed_dzCount]
      simpa using fun _ => hgrant hd
    · simp [dz, hd]
  rw [if_neg hended, if_neg hover]
  have hlong : ¬max < all.length := by rw [hall]; exact Nat.not_lt.mpr hmax
  have hx : x = w := by simp [x, hs, State.when]
  rw [if_neg hlong]
  have hw : w = (s.when (g.pool == Pool.dalzan) (·.dzCount Tab.dzReceived g (ceilDiv b.length 256))).updateFrame g { g with octets := b } := by
    rw [← hh, ← hfresh]
  split
  · exact hx.trans hw
  · exact hx.trans hw

/-- Then the frame is held with those octets, and no copy is made or ended. -/
theorem State.arrive_begun_holds {s : State} {g f : Frame} {b : Bytes} (ho : g.octets = []) (ht : g.tailed = false) (hs : g.stage = 0)
    (hmax : b.length ≤ s.maxFrame g.srcPort) (hi : 16 * g.srcPort + g.creditQueue < 2 ^ 40)
    (hgrant : g.pool = Pool.dalzan → s.dalzanUsed g.srcPort g.creditQueue + ceilDiv b.length 256
      ≤ s.tab Tab.dzGrant (16 * g.srcPort + g.creditQueue)) (hf : f ∈ s.frames) (hfg : f.id = g.id) :
    { g with octets := b } ∈ (s.arrive g b 0).1.frames ∧ (s.arrive g b 0).1.copies = s.copies := by
  rw [s.arrive_begun g b ho ht hs hmax hi hgrant]
  constructor
  · have hk : Kf s (s.when (g.pool == Pool.dalzan) (·.dzCount Tab.dzReceived g (ceilDiv b.length 256))) :=
      State.when_kf ⟨rfl⟩ fun _ hu => State.setTab_kf hu
    rw [State.updateFrame_frames]
    exact State.mem_putFrame (hk.eq ▸ hf) hfg
  · exact (State.updateFrame_kc _ _ _ (State.when_kc ⟨rfl⟩ fun _ hu => State.setTab_kc hu)).eq

/-- The frame with which FRAME_START of a port begins: its pool, its credit queue and its pipeline known (R17, R180, R247). -/
def State.startedFrame (s : State) (p queue : Nat) (octets : Bytes) (hit : Bool) (gates : SMap Nat) : Frame :=
  { s.newFrame p (s.portPart p) hit gates with
    pool := if s.portKind p == 2 then Pool.dalzan else 0
    creditQueue := if s.portKind p == 2 then queue else 0
    pipe := if decide (512 ≤ p) then hostPipe (p - 512) octets else pipeOf p 0 }

/-- Used cells of a credit queue are no more for a frame that begins. -/
theorem State.dalzanUsed_started (s : State) (m : SMap Nat) (f : Frame) (p queue : Nat) (octets : Bytes) (hit : Bool) (gates : SMap Nat)
    (hf : f.pool ≠ Pool.dalzan) (hd : s.portKind p = 2) (i q : Nat) :
    ((s.withNew m f).putFrame (s.startedFrame p queue octets hit gates)).dalzanUsed i q ≤ s.dalzanUsed i q := by
  have hnew : (s.withNew m f).dalzanUsed i q = s.dalzanUsed i q :=
    s.sumFrames_withNew m f _ _ fun h => absurd h (by simp [hf])
  rw [← hnew]
  exact State.sumFrames_putFrame_le _ _ _ _ (Frame.cells_begun rfl rfl rfl (if_pos (by simp [hd])))

/-- The port's MAC delimits the frame, and does not consume it as an address request. -/
theorem State.takesIn {s : State} {p : Fin 514} {b : Bytes} (hz : 512 ≤ p.val → s.isAddressRequest b = false) (hne : b ≠ [])
    (hon : s.coreOn = true) (hlink : 2 ≤ s.reg (Reg.PORT.LINK_STATE p)) :
    ¬(!s.coreOn || decide (s.reg (Reg.PORT.LINK_STATE p) < 2) || b.isEmpty || (decide (512 ≤ p.val) && s.isAddressRequest b)) = true := by
  simpa [hon, hne, Nat.not_lt.mpr hlink] using hz

/-- A frame that nothing refuses is held with the octets of its start (R47, R171, R244). -/
theorem execFrameStart_accepted {s : State} {p : Fin 514} {queue : QueueNo} {octets : FrameOctets}
    (hz : 512 ≤ p.val → s.isZdpFrame octets = false ∧ s.isAddressRequest octets = false) (hne : octets ≠ []) (hon : s.coreOn = true)
    (hlink : 2 ≤ s.reg (Reg.PORT.LINK_STATE p)) (hpause : isPauseOrPfc octets = false) (hmode : s.mode ≠ 4)
    (hfence : s.frameFenced p (if 512 ≤ p.val then hostPipe (p - 512) octets else pipeOf p 0) = false)
    (hfifo : 512 ≤ p.val → s.maxFrame p ≤ 262144 - s.hostFill (p - 512)) :
    ∃ m hit gates, execFrameStart p queue octets s = State.done (((((s.withNew m (s.newFrame p (s.portPart p) hit gates)).putFrame
        (s.startedFrame p queue octets hit gates)).arrive (s.startedFrame p queue octets hit gates) octets 0).1).fifoCheckOf p)
      ∧ ∀ f i, i < 2 ^ 40 → s.tab Tab.dzGrant i ≤ (s.withNew m f).tab Tab.dzGrant i := by
  obtain ⟨m, hit, gates, hacc, hg⟩ := s.accept_eq p (s.portPart p) (by omega)
  refine ⟨m, hit, gates, ?_, hg⟩
  have hfill : (s.withNew m (s.newFrame p (s.portPart p) hit gates)).hostFill (p - 512) = s.hostFill (p - 512) :=
    s.sumFrames_withNew m _ _ _ fun _ => rfl
  have hfull : ¬(decide (512 ≤ p.val) && decide (262144 - (s.withNew m (s.newFrame p (s.portPart p) hit gates)).hostFill (p - 512)
      < s.maxFrame p)) = true := by
    rw [hfill]
    by_cases h : 512 ≤ p.val
    · have := hfifo h; simp; omega
    · simp [h]
  have hpipe : ¬(s.frameFenced p (if decide (512 ≤ p.val) then hostPipe (p - 512) octets else pipeOf p 0)) = true := by
    simp [hfence]
  unfold execFrameStart
  dsimp only
  rw [if_neg (State.not_hostZdp fun h => (hz h).1), if_neg (State.takesIn (fun h => (hz h).2) hne hon hlink), if_neg (by simp [hpause]), hacc]
  exact (if_neg hmode).trans ((if_neg hpipe).trans (if_neg hfull))

/-- So it is held with its octets, its port, its partition and its time, and no copy is made or ended. -/
theorem execFrameStart_holds {s : State} {p : Fin 514} {queue : QueueNo} {octets : FrameOctets}
    (hz : 512 ≤ p.val → s.isZdpFrame octets = false ∧ s.isAddressRequest octets = false) (hne : octets ≠ []) (hon : s.coreOn = true)
    (hlink : 2 ≤ s.reg (Reg.PORT.LINK_STATE p)) (hpause : isPauseOrPfc octets = false) (hmode : s.mode ≠ 4)
    (hfence : s.frameFenced p (if 512 ≤ p.val then hostPipe (p - 512) octets else pipeOf p 0) = false)
    (hfifo : 512 ≤ p.val → s.maxFrame p ≤ 262144 - s.hostFill (p - 512))
    (hgrant : s.portKind p = 2 → s.dalzanUsed p queue + ceilDiv octets.length 256 ≤ s.tab Tab.dzGrant (16 * p + queue))
    (hmax : octets.length ≤ s.maxFrame p) :
    ∃ t hit gates, execFrameStart p queue octets s = .next t
      ∧ { s.startedFrame p queue octets hit gates with octets := octets } ∈ t.frames ∧ t.copies = s.copies := by
  obtain ⟨m, hit, gates, he, hg⟩ := execFrameStart_accepted hz hne hon hlink hpause hmode hfence hfifo
  let f := s.newFrame p (s.portPart p) hit gates
  let g := s.startedFrame p queue octets hit gates
  let u := (s.withNew m f).putFrame g
  have hi : 16 * g.srcPort + g.creditQueue < 2 ^ 40 := by
    have : g.creditQueue ≤ queue.val := by unfold g State.startedFrame; dsimp only; split <;> omega
    have : g.srcPort = p.val := rfl
    omega
  have hfits : g.pool = Pool.dalzan → u.dalzanUsed g.srcPort g.creditQueue + ceilDiv octets.length 256
      ≤ u.tab Tab.dzGrant (16 * g.srcPort + g.creditQueue) := fun hd => by
    have hk : s.portKind p = 2 := by
      by_cases hk : s.portKind p = 2
      · exact hk
      · have h0 : g.pool = 0 := if_neg (by rw [beq_iff_eq]; exact hk)
        exact absurd (h0.symm.trans hd) (by decide)
    have hq : g.creditQueue = queue.val := if_pos (by simp [hk])
    have hused := s.dalzanUsed_started m f p queue octets hit gates (show (0 : Nat) ≠ 2 by decide) hk p queue
    have hgr : s.tab Tab.dzGrant (16 * p + queue) ≤ u.tab Tab.dzGrant (16 * p + queue) := hg f _ (by omega)
    rw [hq]
    exact Nat.le_trans (Nat.add_le_add_right hused _) (Nat.le_trans (hgrant hk) hgr)
  have hu : g ∈ u.frames := State.mem_putFrame (f := f) (List.mem_append_right _ (List.mem_singleton.mpr rfl)) rfl
  obtain ⟨hf, hc⟩ := State.arrive_begun_holds (s := u) (g := g) (b := octets) rfl rfl rfl hmax hi hfits hu rfl
  refine ⟨_, hit, gates, he, ?_, ?_⟩
  · rw [(State.deliverDue_kf (State.fifoCheckOf_kf _ _ ⟨rfl⟩)).eq]
    exact hf
  · rw [(State.deliverDue_kc (State.fifoCheckOf_kc _ _ ⟨rfl⟩)).eq]
    exact hc

/-- A PAUSE or PFC frame is held until its FCS has come, and no copy is made or ended (R171, R173). -/
theorem execFrameStart_control {s : State} {p : Fin 514} {octets : FrameOctets} (queue : QueueNo)
    (hz : 512 ≤ p.val → s.isZdpFrame octets = false ∧ s.isAddressRequest octets = false) (hne : octets ≠ []) (hon : s.coreOn = true)
    (hlink : 2 ≤ s.reg (Reg.PORT.LINK_STATE p)) (hpause : isPauseOrPfc octets = true) :
    ∃ t, execFrameStart p queue octets s = .next t
      ∧ { Frame.blank s.nextFrame p (s.portPart p) with stage := 3, octets := octets } ∈ t.frames ∧ t.copies = s.copies := by
  have he : execFrameStart p queue octets s = State.done (s.controlFrameIn p octets) :=
    (if_neg (State.not_hostZdp fun h => (hz h).1)).trans
      ((if_neg (State.takesIn (fun h => (hz h).2) hne hon hlink)).trans (if_pos hpause))
  refine ⟨_, he, ?_, State.deliverDue_copies _⟩
  rw [State.deliverDue_frames]
  exact List.mem_append_right _ (List.mem_singleton.mpr rfl)

/-- On a port whose MAC delimits no frames, or of a frame that the host port consumes, nothing comes in (R19, R174). -/
theorem execFrameStart_nothing {s : State} {p : Fin 514} {octets : FrameOctets} (queue : QueueNo)
    (hz : 512 ≤ p.val → s.isZdpFrame octets = false)
    (hnot : s.coreOn = false ∨ s.reg (Reg.PORT.LINK_STATE p) < 2 ∨ octets = [] ∨ (512 ≤ p.val ∧ s.isAddressRequest octets = true)) :
    execFrameStart p queue octets s = .next s := by
  refine (if_neg (State.not_hostZdp hz)).trans (if_pos ?_)
  rcases hnot with h | h | h | ⟨hp, h⟩
  · simp [h]
  · simp [h]
  · simp [h]
  · simp [hp, h]

/-- Counting of a frame that a MAC has delimited touches only the hardware counters. -/
theorem Only.countRx {R T : List Nat} (s : State) (p len reason : Nat) (hp : p < 2 ^ 32) : Only R T s (s.countRx p len reason) := by
  have hc : ∀ k, k < 16 → Ctr.port p k < 2 ^ 39 := fun k hk => by unfold Ctr.port; omega
  unfold State.countRx
  dsimp only
  have h01 : Only R T s ((s.count (Ctr.port p 0)).count (Ctr.port p 1) len) :=
    (Only.count _ _ _ (hc 0 (by decide))).trans (Only.count _ _ _ (hc 1 (by decide)))
  have hw : ∀ (u : State) (c : Bool) (k : Nat), k < 16 → Only R T u (u.when c (·.count (Ctr.port p k))) := fun u c k hk =>
    Only.when u c _ fun v => Only.count v _ _ (hc k hk)
  exact ((h01.trans (hw _ _ 4 (by decide))).trans (hw _ _ 5 (by decide))).trans (hw _ _ 6 (by decide))

/-- A port's register is none that interrupts or counters write. -/
theorem quietReg_port {p a : Nat} (hp : p < 643) (ha : a < 256) : quietReg ((0x1400 + p) * 256 + a) = true := by
  rw [quietReg_iff]; omega

/-- What refuses frames because of a fence reads the fences and the partition of the port alone (R350). -/
theorem Only.frameFenced {T : List Nat} {s t : State} (h : Only [] T s t) {p : Nat} (hp : p < 643) (i : Nat) :
    t.frameFenced p i = s.frameFenced p i := by
  have hpart : ∀ q, q < 643 → t.portPart q = s.portPart q := fun q hq => by
    unfold State.portPart; rw [h.regs _ (by simp) (quietReg_port hq (by decide))]
  have hf : ∀ k, t.isFenced k = s.isFenced k := fun k => by unfold State.isFenced; rw [h.fences]
  have h3 : t.fenced 3 p = s.fenced 3 p := by simp [State.fenced, State.partHolder, hf, hpart p hp]
  have h1 : t.fenced 1 i = s.fenced 1 i := by simp [State.fenced, State.partHolder, hf]
  unfold State.frameFenced
  rw [h3, h1]
  by_cases hb : 514 ≤ p ∧ p ≤ 641
  · have h5 : t.fenced 5 (p - 514) = s.fenced 5 (p - 514) := by
      simp [State.fenced, State.partHolder, hf, hpart (514 + (p - 514)) (by omega)]
    rw [h5]
  · have : (decide (514 ≤ p) && decide (p ≤ 641)) = false := by simpa using hb
    simp [this]

/-- A complete frame as it is presented on port `p` (R245). -/
def State.presentedFrame (s : State) (p part : Nat) (octets : Bytes) (mirror : Option Mirror) (mgmtTag : Bool) (reply : Nat) (hit : Bool)
    (gates : SMap Nat) : Frame :=
  { s.newFrame p part hit gates with
    octets := octets, tailed := true, len := octets.length + 4, mirror := mirror, mgmtTag := mgmtTag, reply := reply }

/-- A complete frame that neither its size nor a fence refuses is held; no copy is made, and what else was built still waits (R245,
R594). -/
theorem State.present_holds {s : State} {p part : Nat} {octets : Bytes} (mirror : Option Mirror) (mgmtTag : Bool) (reply : Nat)
    (hp : p < 643) (hmode : s.mode ≠ 4) (hmin : 60 ≤ octets.length) (hmax : octets.length + 4 ≤ s.maxFrame p)
    (hfence : s.frameFenced p (pipeOf p 0) = false) :
    ∃ hit gates, s.presentedFrame p part octets mirror mgmtTag reply hit gates ∈ (s.present p part octets mirror mgmtTag reply).frames
      ∧ (s.present p part octets mirror mgmtTag reply).copies = s.copies
      ∧ (s.present p part octets mirror mgmtTag reply).built = s.built := by
  obtain ⟨m, hit, gates, hacc, -⟩ := s.accept_eq p part (by omega)
  let f := s.newFrame p part hit gates
  let g := s.presentedFrame p part octets mirror mgmtTag reply hit gates
  let u := (s.withNew m f).putFrame g
  have hc : Only [] [] u (u.countRx p (octets.length + 4) 0) := Only.countRx u p _ _ (by omega)
  have hmode' : ¬(u.countRx p (octets.length + 4) 0).mode = 4 := by
    unfold State.mode; rw [hc.regs _ (by simp) (by decide)]; exact hmode
  have hsize : ¬(octets.length < 60 ∨ (u.countRx p (octets.length + 4) 0).maxFrame p < octets.length + 4) := by
    unfold State.maxFrame
    rw [hc.regs _ (by simp) (quietReg_port hp (by decide))]
    exact not_or.mpr ⟨Nat.not_lt.mpr hmin, Nat.not_lt.mpr hmax⟩
  have hfence' : ¬(u.countRx p (octets.length + 4) 0).frameFenced p g.pipe = true := by
    rw [hc.frameFenced hp]
    have : u.frameFenced p g.pipe = false := hfence
    simp [this]
  have e : s.present p part octets mirror mgmtTag reply = u.countRx p (octets.length + 4) 0 := by
    unfold State.present
    rw [hacc]
    exact (if_neg hmode').trans ((if_neg hsize).trans (if_neg hfence'))
  rw [e]
  refine ⟨hit, gates, ?_, hc.copies, hc.built⟩
  rw [hc.frames]
  exact State.mem_putFrame (f := f) (List.mem_append_right _ (List.mem_singleton.mpr rfl)) rfl

/-- A change of the tables alone, where a condition holds, leaves every other part of the state. -/
theorem State.when_tabs {s : State} {f : State → State} (c : Bool) (hf : ∃ m, f s = { s with tabs := m }) :
    ∃ m, s.when c f = { s with tabs := m } := by
  unfold State.when
  split
  · exact hf
  · exact ⟨s.tabs, rfl⟩

/-- A frame presented at the end of a command is held after it. -/
theorem State.present_done {s u : State} {p part : Nat} {octets : Bytes} (mirror : Option Mirror) (mgmtTag : Bool) (reply : Nat)
    (hu : ∃ m w c b, u = { s with tabs := m, zdp := w, freeCtr := c, built := b }) (hp : p < 643) (hmode : s.mode ≠ 4)
    (hmin : 60 ≤ octets.length) (hmax : octets.length + 4 ≤ s.maxFrame p) (hfence : s.frameFenced p (pipeOf p 0) = false) :
    ∃ t hit gates, (u.present p part octets mirror mgmtTag reply).done = .next t
      ∧ s.presentedFrame p part octets mirror mgmtTag reply hit gates ∈ t.frames ∧ t.copies = s.copies ∧ t.built = u.built := by
  obtain ⟨m, w, c, b, rfl⟩ := hu
  obtain ⟨hit, gates, hf, hc, hb⟩ := State.present_holds (s := { s with tabs := m, zdp := w, freeCtr := c, built := b }) (part := part)
    mirror mgmtTag reply hp hmode hmin hmax hfence
  refine ⟨_, hit, gates, rfl, ?_, (State.deliverDue_copies _).trans hc, (State.deliverDue_built _).trans hb⟩
  rw [State.deliverDue_frames]
  exact hf

/-- The oldest frame built for an internal port is held, and waits no more (R378, R395). -/
theorem execInjectPresent_holds {s : State} {p : PortNo} {b : Built} (hon : s.coreOn = true)
    (hb : s.built.find? (fun b => b.port == p.val && b.kind != 0) = some b) (hmode : s.mode ≠ 4) (hmin : 60 ≤ b.octets.length)
    (hmax : b.octets.length + 4 ≤ s.maxFrame p) (hfence : s.frameFenced p (pipeOf p 0) = false) :
    ∃ t hit gates, execInjectPresent p s = .next t
      ∧ s.presentedFrame p b.part b.octets b.mirror false 0 hit gates ∈ t.frames ∧ t.copies = s.copies ∧ t.built = s.built.erase b := by
  let u : State := ({ s with built := s.built.erase b } : State).when (b.kind == 1) (fun s =>
    let v := s.tab (Tab.win 0x7033) b.num
    s.setTab (Tab.win 0x7033) b.num (setBits v 255 224 (bits v 255 224 + 1)))
  obtain ⟨m, hm⟩ : ∃ m, u = { s with built := s.built.erase b, tabs := m } := State.when_tabs _ ⟨_, rfl⟩
  obtain ⟨t, hit, gates, ht, hf, hc, hbuilt⟩ := State.present_done (part := b.part) b.mirror false 0 ⟨m, s.zdp, s.freeCtr, _, hm⟩ p.isLt
    hmode hmin hmax hfence
  refine ⟨t, hit, gates, ?_, hf, hc, ?_⟩
  · unfold execInjectPresent
    rw [if_neg (by simp [hon]), hb]
    exact ht
  · rw [hbuilt, hm]

/-- The command has a tag to give: the core runs, and fewer than 256 management tags are in flight (R354). -/
theorem State.tagFree {s : State} (hon : s.coreOn = true) (htags : s.mgmtTags < 256) : ¬(s.coreOn = false ∨ 256 ≤ s.mgmtTags) := by
  simp [hon]; omega

/-- A frame of the runtime is held with a management tag (R20, R354). -/
theorem execMgmtFrameSend_runtime {s : State} {octets : FrameOctets} (hon : s.coreOn = true) (htags : s.mgmtTags < 256) (hmode : s.mode ≠ 4)
    (hmin : 60 ≤ octets.length) (hmax : octets.length + 4 ≤ s.maxFrame 642) (hfence : s.frameFenced 642 (pipeOf 642 0) = false) :
    ∃ t hit gates, execMgmtFrameSend octets s = .next t
      ∧ s.presentedFrame 642 noPart octets none true 0 hit gates ∈ t.frames ∧ t.copies = s.copies := by
  obtain ⟨t, hit, gates, ht, hf, hc, -⟩ := State.present_done (part := noPart) none true 0 ⟨s.tabs, s.zdp, s.freeCtr, s.built, rfl⟩
    (by decide) hmode hmin hmax hfence
  refine ⟨t, hit, gates, ?_, hf, hc⟩
  have hne : (!octets.isEmpty) = true := by cases octets with
    | nil => exact absurd hmin (by decide)
    | cons => rfl
  exact (if_neg (State.tagFree hon htags)).trans ((if_pos hne).trans ht)

/-- The oldest reply that waits is held with a management tag, and frees its own when it is admitted (R57, R70). -/
theorem execMgmtFrameSend_reply {s : State} {r : Reply} {rest : List Reply} (hon : s.coreOn = true) (htags : s.mgmtTags < 256)
    (hr : s.zdp.mgmt = r :: rest) (hmode : s.mode ≠ 4) (hmin : 60 ≤ (s.replyFrame r (s.freeBelow (2 ^ 40))).length)
    (hmax : (s.replyFrame r (s.freeBelow (2 ^ 40))).length + 4 ≤ s.maxFrame 642) (hfence : s.frameFenced 642 (pipeOf 642 0) = false) :
    ∃ t hit gates, execMgmtFrameSend [] s = .next t
      ∧ s.presentedFrame 642 noPart (s.replyFrame r (s.freeBelow (2 ^ 40))) none true r.tagCode hit gates ∈ t.frames
      ∧ t.copies = s.copies := by
  let u : State := { s.drew with zdp := { s.zdp with mgmt := rest } }
  obtain ⟨m, hm⟩ : ∃ m, u.replySent r = { u with tabs := m } := State.when_tabs _ ⟨_, rfl⟩
  obtain ⟨t, hit, gates, ht, hf, hc, -⟩ := State.present_done (part := noPart) none true r.tagCode ⟨m, u.zdp, u.freeCtr, s.built, hm⟩
    (by decide) hmode hmin hmax hfence
  refine ⟨t, hit, gates, ?_, hf, hc⟩
  unfold execMgmtFrameSend
  rw [if_neg (State.tagFree hon htags), if_neg (by decide), hr]
  exact ht

end Sys2Proof.Machine
end

section
/-!
The statements of 01_architecture.md settled.
-/
open Sys2Proof Sys2Proof.Machine

/-- Settles O32: each command of a frame's way, from what its operations leave as it was. -/
theorem forwardingLeavesIsland : Obligations.ForwardingLeavesIsland := by
  unfold Obligations.ForwardingLeavesIsland
  intro c s t ht
  refine ⟨?_, ?_, ?_⟩
  · rintro (⟨p, q, b, rfl, hz⟩ | ⟨f, b, rfl⟩ | ⟨f, b, e, rfl⟩)
    · exact execFrameStart_fw p q b s hz t ht
    · exact execParserStart_fw f b s t ht
    · exact execFrameTail_fw f b e s t ht
  · rintro ⟨p, q, b, rfl, hp, hz⟩
    cases (execFrameStart_zdp q hp hz).symm.trans ht
    exact (Only.zdpFrameIn s p b p.isLt).trans (Only.deliverDue _)
  · rintro (⟨f, rfl⟩ | ⟨p, rfl⟩ | ⟨p, rfl⟩ | ⟨p, rfl⟩ | ⟨i, rfl⟩ | ⟨b, rfl⟩)
    · exact execBufferAdmission_fw f s t ht
    · exact execInjectPresent_fw p s t ht
    · exact execSchedulerSelection_fw p s t ht
    · exact execCopyTxStart_fw p s t ht
    · exact execAged_fw i s t ht
    · exact execMgmtFrameSend_fw b s t ht

/-- Settles O28: what each branch of FRAME_START holds, and what a presentation holds. -/
theorem frameArrives : Obligations.FrameArrives := by
  unfold Obligations.FrameArrives
  refine ⟨fun s p queue octets => ⟨fun hz hne hon hlink => ⟨?_, fun hpause => ?_⟩, ?_, ?_⟩, ?_, ?_⟩
  · intro hpause hmode hfence hfifo hgrant hmax
    obtain ⟨t, hit, gates, ht, hf, hc⟩ := execFrameStart_holds hz hne hon hlink hpause hmode hfence hfifo hgrant hmax
    exact ⟨t, _, ht, hf, rfl, rfl, rfl, rfl, rfl, rfl, rfl, hc, execFrameStart_fw p queue octets s (fun h => (hz h).1) t ht⟩
  · obtain ⟨t, ht, hf, hc⟩ := execFrameStart_control queue hz hne hon hlink hpause
    exact ⟨t, _, ht, hf, rfl, rfl, rfl, rfl, hc, execFrameStart_fw p queue octets s (fun h => (hz h).1) t ht⟩
  · exact fun hz hnot => execFrameStart_nothing queue hz hnot
  · exact fun hp hz => ⟨_, execFrameStart_zdp queue hp hz, (Only.zdpFrameIn s p octets p.isLt).trans (Only.deliverDue _)⟩
  · intro s p b hon hb hmode hmin hmax hfence
    obtain ⟨t, hit, gates, ht, hf, hc, hbuilt⟩ := execInjectPresent_holds hon hb hmode hmin hmax hfence
    exact ⟨t, _, ht, hf, rfl, rfl, rfl, rfl, rfl, rfl, rfl, hbuilt, hc, execInjectPresent_fw p s t ht⟩
  · intro s octets hon htags hmode hfence
    refine ⟨fun hmin hmax => ?_, fun r rest b ho hr hb hmin hmax => ?_⟩
    · obtain ⟨t, hit, gates, ht, hf, hc⟩ := execMgmtFrameSend_runtime hon htags hmode hmin hmax hfence
      exact ⟨t, _, ht, hf, rfl, rfl, rfl, rfl, rfl, rfl, hc, execMgmtFrameSend_fw octets s t ht⟩
    · subst ho hb
      obtain ⟨t, hit, gates, ht, hf, hc⟩ := execMgmtFrameSend_reply hon htags hr hmode hmin hmax hfence
      exact ⟨t, _, ht, hf, rfl, rfl, rfl, rfl, rfl, rfl, hc, execMgmtFrameSend_fw [] s t ht⟩
end

section
/-!
SUPPORT. Requests of the Zilmor Dictionary Protocol: what counting and taking a request leave of the ZDP engine, and what the
operations answer once the checks of R79 have passed.
-/
namespace Sys2Proof.Machine

/-- `t` has the ZDP engine of `s`, its attention and its count of parked watches, which raising interrupts and counting leave alone. -/
structure SameEngine (s t : State) : Prop where
  zdp : t.zdp = s.zdp
  attn : t.attn = s.attn
  parked : t.reg Reg.ZDP_STATISTICS.WATCHES_PARKED = s.reg Reg.ZDP_STATISTICS.WATCHES_PARKED

namespace SameEngine

theorem refl (s : State) : SameEngine s s := ⟨rfl, rfl, rfl⟩

theorem trans {s t u : State} (h : SameEngine s t) (g : SameEngine t u) : SameEngine s u :=
  ⟨g.zdp.trans h.zdp, g.attn.trans h.attn, g.parked.trans h.parked⟩

theorem setTab (s : State) (t i v : Nat) : SameEngine s (s.setTab t i v) := ⟨rfl, rfl, rfl⟩

theorem setReg (s : State) {k : Nat} (v : Nat) (hk : Reg.ZDP_STATISTICS.WATCHES_PARKED ≠ k) : SameEngine s (s.setReg k v) :=
  ⟨rfl, rfl, State.reg_setReg_other _ _ hk⟩

theorem bump (s : State) {k : Nat} (w n : Nat) (hk : Reg.ZDP_STATISTICS.WATCHES_PARKED ≠ k) : SameEngine s (s.bump k w n) :=
  setReg _ _ hk

theorem when (s : State) (c : Bool) (f : State → State) (h : ∀ u, SameEngine u (f u)) : SameEngine s (s.when c f) := by
  unfold State.when
  split
  · exact h s
  · exact refl s

theorem offer (s : State) (n : Nat) : SameEngine s (s.offer n) := by
  unfold State.offer
  dsimp only
  split
  · split
    · exact when _ _ _ fun _ => setTab _ _ _ _
    · exact setReg _ _ (by decide)
  · exact refl s

theorem trigger (s : State) (n : Nat) : SameEngine s (s.trigger n) := by
  unfold State.trigger
  split
  · exact refl s
  · dsimp only
    refine (bump s (k := Reg.INT_CONTROL.TRIGGERS) 64 1 (by decide)).trans ?_
    split
    · exact (setTab _ _ _ _).trans (offer _ _)
    · split
      · exact setTab _ _ _ _
      · exact (setTab _ _ _ _).trans (bump _ _ _ (by decide))

theorem overflowed (s : State) (n : Nat) : SameEngine s (s.overflowed n) := by
  unfold State.overflowed State.event State.flag
  exact ((setTab _ _ _ _).trans (bump _ _ _ (by decide))).trans
    (((setReg _ _ (by decide)).trans (bump _ _ _ (by decide))).trans (trigger _ _))

theorem count (s : State) (n amt : Nat) : SameEngine s (s.count n amt) := by
  unfold State.count
  split
  · exact refl s
  · split
    · exact ((setTab _ _ _ _).trans (setTab _ _ _ _)).trans (when _ _ _ fun _ => overflowed _ _)
    · exact (setTab _ _ _ _).trans (when _ _ _ fun _ => overflowed _ _)

theorem macReceived (s : State) (p n : Nat) : SameEngine s (s.macReceived p n) := (count _ _ _).trans (count _ _ _)

/-- Step 1 of R79 takes a request from the frames that waited, and leaves the rest of the engine. -/
theorem accepted (s : State) (op : Nat) (q : Request) : SameEngine ({ s with zdp := s.left op q } : State) (s.accepted op q) := by
  have hr : SameEngine ({ s with zdp := s.left op q } : State) (s.received op q) := by
    unfold State.received State.left
    split
    · exact refl _
    · exact macReceived s _ _
  unfold State.accepted
  exact (hr.trans (bump _ _ _ (by decide))).trans (when _ _ _ fun _ => bump _ _ _ (by decide))

end SameEngine

/-! ### The state in which an admitted request is performed -/

theorem State.left_eq (s : State) (op : Nat) (q : Request) : ∃ a, s.left op q = { s.zdp with arrived := a } := by
  unfold State.left
  split
  · exact ⟨_, rfl⟩
  · exact ⟨s.zdp.arrived, rfl⟩

theorem State.accepted_zdp (s : State) (op : Nat) (q : Request) : ∃ a, (s.accepted op q).zdp = { s.zdp with arrived := a } := by
  obtain ⟨a, ha⟩ := s.left_eq op q
  exact ⟨a, (SameEngine.accepted s op q).zdp.trans ha⟩

/-- An admitted request changes the engine by the frames that wait and the replay cache alone. -/
theorem State.taken_zdp (s : State) (op : Nat) (q : Request) :
    ∃ a c, (s.taken op q).zdp = { s.zdp with arrived := a, cache := c } := by
  obtain ⟨a, ha⟩ := s.accepted_zdp op q
  refine ⟨a, (s.taken op q).zdp.cache, ?_⟩
  unfold State.taken State.putEntry
  simp [ha]

theorem State.taken_watches (s : State) (op : Nat) (q : Request) : (s.taken op q).zdp.watches = s.zdp.watches := by
  obtain ⟨a, c, h⟩ := s.taken_zdp op q
  rw [h]

theorem State.taken_closes (s : State) (op : Nat) (q : Request) : (s.taken op q).zdp.closes = s.zdp.closes := by
  obtain ⟨a, c, h⟩ := s.taken_zdp op q
  rw [h]

theorem State.taken_waitingReplies (s : State) (op : Nat) (q : Request) : (s.taken op q).waitingReplies = s.waitingReplies := by
  obtain ⟨a, c, h⟩ := s.taken_zdp op q
  unfold State.waitingReplies
  rw [h]

theorem State.taken_attn (s : State) (op : Nat) (q : Request) : (s.taken op q).attn = s.attn := (SameEngine.accepted s op q).attn

theorem State.taken_parked (s : State) (op : Nat) (q : Request) :
    (s.taken op q).reg Reg.ZDP_STATISTICS.WATCHES_PARKED = s.reg Reg.ZDP_STATISTICS.WATCHES_PARKED :=
  (SameEngine.accepted s op q).parked

/-- An admitted request is one of an open session of the sixteen. -/
theorem State.admits_session {s : State} {op : Nat} {q : Request} (h : s.admits op q = true) :
    q.session < 16 ∧ s.reg (Reg.SESSION.STATE q.session) = 1 := by
  unfold State.admits State.sessionOf at h
  simp only [Bool.and_eq_true, decide_eq_true_eq, beq_iff_eq] at h
  obtain ⟨⟨⟨⟨-, ⟨⟨⟨⟨hn, ho⟩, -⟩, -⟩, -⟩⟩, -⟩, -⟩, -⟩ := h
  exact ⟨hn, ho⟩

theorem State.admits_tab {s : State} {op : Nat} {q : Request} (h : s.admits op q = true) {n i : Nat} (hi : i < 2 ^ 40)
    (hn : n ≠ Tab.marks) (hq : quietTab n = true) : (s.taken op q).tab n i = s.tab n i :=
  s.taken_tab op q (Nat.lt_trans (State.admits_session h).1 (by decide)) hi hn hq

/-! ### Checks of R79 that pass -/

theorem State.onObject_pass {s : State} {a : Asker} {op idx sub : Nat} {o : Obj} {r : Sub} (f : Obj → Sub → Res)
    (hd : isDiagnostic idx = false) (hc : s.checkObject a op idx sub = .pass o r) : s.onObject a op idx sub f = f o r := by
  simp [State.onObject, hd, hc]

theorem State.onNone_serves {s : State} {op : Nat} {q : Request} (f : Res) (h : s.serves op q = true) :
    s.onNone (askerOf q) op q f = f := by
  unfold State.serves at h
  simp only [Bool.and_eq_true, beq_iff_eq, Bool.not_eq_true'] at h
  obtain ⟨⟨⟨⟨hi, hs⟩, hl⟩, hm⟩, ha⟩ := h
  have h0 : inRanges 0 = true := by decide
  simp [State.onNone, hi, hs, hl, hm, ha, h0]

theorem State.performRead_free {s : State} {op idx sub : Nat} (f : Res) (hb : s.blockInReset op idx sub = false)
    (hj : s.jobRefuses idx sub = none) : s.performRead op idx sub f = f := by
  simp [State.performRead, hb, hj]

/-- A write over which neither a reset of its block nor a SAVE stands answers what its effect answers. -/
theorem State.performWrite_answer {s : State} {op idx sub : Nat} {r : Sub} {eff : State → Res}
    (hb : s.blockInReset op idx sub = false) (hs : (s.saving && r.saved) = false) :
    (s.performWrite op idx sub r eff).code = (eff s).code ∧ (s.performWrite op idx sub r eff).data = (eff s).data := by
  unfold State.performWrite
  simp only [hb, hs, Bool.false_eq_true, if_false]
  split
  · exact ⟨rfl, rfl⟩
  · split <;> exact ⟨rfl, rfl⟩

/-! ### Reads (R66, R99, R111) -/

theorem State.readObject_pass {s : State} {q : Request} {o : Obj} {r : Sub} (hd : isDiagnostic q.index = false)
    (hc : s.checkObject (askerOf q) Zop.read q.index q.sub = .pass o r) (hl : q.length = 0) (harg : q.arg = 0)
    (hm : r.ty.size ≤ s.reg Reg.ZDP_CONFIG.MAX_DATA) (hb : s.blockInReset Zop.read q.index q.sub = false)
    (hj : s.jobRefuses q.index q.sub = none) :
    s.readObject (askerOf q) q
      = { Res.done (s.valueDrawn q.index q.sub) with data := toBE r.ty.size (s.readValue q.session q.index q.sub r) } := by
  unfold State.readObject
  rw [State.onObject_pass _ hd hc, if_neg (by simp [hl, harg]), if_neg (Nat.not_lt.mpr hm), State.performRead_free _ hb hj]
  rfl

theorem State.blockReadObject_pass {s : State} {q : Request} {o : Obj} {r : Sub} (hd : isDiagnostic q.index = false)
    (hc : s.checkObject (askerOf q) Zop.blockRead q.index q.sub = .pass o r) (hr : s.blockRefuses r q.arg q.length = none)
    (hb : s.blockInReset Zop.blockRead q.index q.sub = false) (hj : s.jobRefuses q.index q.sub = none) :
    s.blockReadObject (askerOf q) q
      = if o.win.isSome = true ∧ (q.sub = 0x08 ∨ q.sub = 0x09) then windowReadEffect q.session q.index q.arg q.length (q.sub == 0x08) s
        else { Res.done (s.valueDrawn q.index q.sub) with data := s.readBlock q.session q.index q.sub q.arg q.length r } := by
  unfold State.blockReadObject
  rw [State.onObject_pass _ hd hc, hr]
  exact State.performRead_free _ hb hj

theorem execRead_admits {s : State} {q : Request} (h : s.admits Zop.read q = true) :
    exec (.read q) s = State.done (State.finish Zop.read q ((s.taken Zop.read q).readObject (askerOf q) q)) :=
  State.request_admits h

theorem execBlockRead_admits {s : State} {q : Request} (h : s.admits Zop.blockRead q = true) :
    exec (.blockRead q) s = State.done (State.finish Zop.blockRead q ((s.taken Zop.blockRead q).blockReadObject (askerOf q) q)) :=
  State.request_admits h

/-! ### Writes (R65, R66, R99, R104) -/

theorem State.writeObject_pass {s : State} {q : Request} {o : Obj} {r : Sub} (hd : isDiagnostic q.index = false)
    (hc : s.checkObject (askerOf q) Zop.write q.index q.sub = .pass o r) (harg : q.arg = 0)
    (hm : r.ty.size ≤ s.reg Reg.ZDP_CONFIG.MAX_DATA) (hl : q.length = r.ty.size) (hv : valueRefuses r (ofBE q.data) = false) :
    s.writeObject (askerOf q) q
      = s.performWrite Zop.write q.index q.sub r (fullEffect q.session q.index q.sub (ofBE q.data) 0) := by
  unfold State.writeObject
  rw [State.onObject_pass _ hd hc, if_neg (by simp [harg]), if_neg (Nat.not_lt.mpr hm), if_neg (by simp [hl])]
  simp [State.writeValue, hv, askerOf]

theorem State.blockWriteObject_pass {s : State} {q : Request} {o : Obj} {r : Sub} (hd : isDiagnostic q.index = false)
    (hc : s.checkObject (askerOf q) Zop.blockWrite q.index q.sub = .pass o r) (hr : s.blockRefuses r q.arg q.length = none) :
    s.blockWriteObject (askerOf q) q
      = s.performWrite Zop.blockWrite q.index q.sub r (fullBlockEffect q.session q.index q.sub q.arg q.data r) := by
  unfold State.blockWriteObject
  rw [State.onObject_pass _ hd hc, hr]
  rfl

theorem State.commitObject_pass {s : State} {q : Request} {o : Obj} {r : Sub} (posts : List (Nat × Nat)) (lost : List Nat)
    (hd : isDiagnostic q.index = false) (hc : s.checkObject (askerOf q) Zop.windowCommit q.index q.sub = .pass o r)
    (hw : o.win.isSome = true) (hs : q.sub = 0) (hl : q.length = 0) (harg : q.arg = 0)
    (hb : s.blockInReset Zop.windowCommit q.index q.sub = false) :
    s.commitObject (askerOf q) q posts lost = windowCommitEffect q.session q.index posts lost s := by
  have hn : o.win.isNone = false := by simp [Option.isNone_eq_false_iff, hw]
  unfold State.commitObject
  rw [State.onObject_pass _ hd hc, hn, if_neg (by decide), if_neg (by simp [hs, hl, harg])]
  simp [hb, askerOf]

/-- What waits for the reply of an accepted ISLAND_RESET is of one table (R550). -/
theorem State.afterReply_only (s : State) (q : Request) : Only [] [Tab.islandReset] s (s.afterReply q) := by
  unfold State.afterReply
  exact Only.when _ _ _ fun u => (Only.setTab u _ 1 _ (by decide) (.inl (by simp))).trans
    (Only.setTab _ _ 0 _ (by decide) (.inl (by simp)))

/-- An accepted ISLAND_RESET waits for the reply on its tag (R550). -/
theorem State.afterReply_due {s : State} {q : Request} (hi : q.index = 0x0500) (hs : q.sub = 0x02) (hd : s.tab Tab.islandReset 1 = 1) :
    (s.afterReply q).tab Tab.islandReset 1 = 0 ∧ (s.afterReply q).tab Tab.islandReset 0 = q.session * 4096 + q.tag + 3 := by
  have e : s.afterReply q = (s.setTab Tab.islandReset 1 0).setTab Tab.islandReset 0 (q.session * 4096 + q.tag + 3) := by
    simp [State.afterReply, State.when, hi, hs, hd]
  rw [e]
  exact ⟨(State.tab_setTab_index _ _ (by decide)).trans (State.tab_setTab_same _ _ _ _), State.tab_setTab_same _ _ _ _⟩

theorem State.afterReply_other {s : State} {q : Request} (h : ¬(q.index = 0x0500 ∧ q.sub = 0x02)) : s.afterReply q = s := by
  have hc : (q.index == 0x0500 && q.sub == 0x02) = false := by simpa using h
  simp [State.afterReply, State.when, hc]

theorem execWrite_admits {s : State} {q : Request} (h : s.admits Zop.write q = true) :
    exec (.write q) s = State.done ((State.finish Zop.write q
      (((s.taken Zop.write q).holdSetting q.index q.sub).writeObject (askerOf q) q)).afterReply q) :=
  State.request_admits h

theorem execBlockWrite_admits {s : State} {q : Request} (h : s.admits Zop.blockWrite q = true) :
    exec (.blockWrite q) s = State.done (State.finish Zop.blockWrite q
      (((s.taken Zop.blockWrite q).holdSetting q.index q.sub).blockWriteObject (askerOf q) q)) :=
  State.request_admits h

theorem execWindowCommit_admits {s : State} {q : Request} (posts : List (Nat × Nat)) (lost : List Nat)
    (h : s.admits Zop.windowCommit q = true) :
    exec (.windowCommit q posts lost) s = State.done (State.finish Zop.windowCommit q
      ((s.taken Zop.windowCommit q).commitObject (askerOf q) q posts lost)) :=
  State.request_admits h

/-! ### Completion: the reply is formed, and what is due is delivered -/

theorem State.finish_done_reg (op : Nat) (q : Request) (r : Res) {k : Nat} (h : quietReg k = true) :
    ((State.finish op q r).deliverDue).reg k = r.st.reg k :=
  (State.reg_deliverDue _ h).trans (State.finish_reg op q r k h)

theorem State.finish_done_tab (op : Nat) (q : Request) (r : Res) {n i : Nat} (hi : i < 2 ^ 40) (h : quietTab n = true) :
    ((State.finish op q r).deliverDue).tab n i = r.st.tab n i :=
  (State.tab_deliverDue _ hi h).trans (State.finish_tab op q r n i hi h)

theorem State.enqueueReply_tabs (s : State) (r : Reply) : (s.enqueueReply r).tabs = s.tabs := by
  unfold State.enqueueReply
  split
  · rfl
  · split <;> rfl

theorem State.enqueueReply_watches (s : State) (r : Reply) : (s.enqueueReply r).zdp.watches = s.zdp.watches := by
  unfold State.enqueueReply
  split
  · rfl
  · split <;> rfl

theorem State.reply_tabs (s : State) (q : Request) (op result rflags detail : Nat) (data : Bytes) (session : Nat) (frees : Bool) :
    (s.reply q op result rflags detail data session frees).tabs = s.tabs := by
  unfold State.reply
  rw [State.enqueueReply_tabs]
  unfold State.when
  split <;> rfl

theorem State.reply_watches (s : State) (q : Request) (op result rflags detail : Nat) (data : Bytes) (session : Nat) (frees : Bool) :
    (s.reply q op result rflags detail data session frees).zdp.watches = s.zdp.watches := by
  unfold State.reply
  rw [State.enqueueReply_watches]
  unfold State.when
  split <;> rfl

/-- Whether something is due is a matter of the tables. -/
theorem State.nothingDue_of_tabs {s t : State} (h : t.tabs = s.tabs) (hs : s.nothingDue = true) : t.nothingDue = true := by
  unfold State.nothingDue State.tab at hs ⊢
  rw [h]
  exact hs

theorem State.done_nothing {s : State} (h : s.nothingDue = true) : s.done = .next s :=
  congrArg Host.Outcome.next (State.deliverDue_nothing h)

/-- With nothing due, no parked watch is answered as an operation completes. -/
theorem State.finish_done_watches (op : Nat) (q : Request) (r : Res) (h : r.st.nothingDue = true) :
    ((State.finish op q r).deliverDue).zdp.watches = r.st.zdp.watches := by
  have hn : (State.finish op q r).nothingDue = true := State.nothingDue_of_tabs (State.reply_tabs ..) h
  rw [State.deliverDue_nothing hn]
  exact State.reply_watches ..

end Sys2Proof.Machine
end

section
/-!
SUPPORT. Parked watches, PING, address requests and the release of a job's record (R58, R70, R87, R89, R405).
-/
namespace Sys2Proof.Machine

/-! ### Parked watches (R87) -/

/-- The three answers of a PARKED_WATCH that steps 5 to 7 permit. -/
theorem execParkedWatch_serves {s : State} {q : Request} (h : s.admits Zop.parkedWatch q = true)
    (hs : (s.taken Zop.parkedWatch q).serves Zop.parkedWatch q = true) :
    exec (.parkedWatch q) s = State.done (
      if q.arg % 65536 = s.attn.seq then
        (if 64 ≤ s.zdp.watches.length then
          State.finish Zop.parkedWatch q (Res.fail (s.taken Zop.parkedWatch q) Code.busyRetry Detail.watchesFull)
         else (s.taken Zop.parkedWatch q).park q)
      else State.finish Zop.parkedWatch q (Res.done (s.taken Zop.parkedWatch q))) := by
  refine (State.request_admits h).trans ?_
  simp only [State.onNone_serves _ hs, State.taken_attn, State.taken_watches, Res.done, true_and]

theorem State.park_watches (s : State) (q : Request) :
    (s.park q).zdp.watches = s.zdp.watches ++ [⟨q, q.arg % 65536, q.arg / 65536⟩] := rfl

theorem State.park_parked (s : State) (q : Request) :
    (s.park q).reg Reg.ZDP_STATISTICS.WATCHES_PARKED = (s.reg Reg.ZDP_STATISTICS.WATCHES_PARKED + 1) % 256 :=
  State.reg_setReg_same _ _ _

theorem State.answerWatch_watches (s : State) (w : Watch) (f : Nat) : (s.answerWatch w f).zdp.watches = s.zdp.watches.erase w :=
  State.reply_watches ..

theorem State.answerWatch_answers (s : State) (w : Watch) (f : Nat) :
    (s.answerWatch w f).answers w.q Zop.parkedWatch w.q.session Code.ok [] :=
  State.answers_reply ..

theorem State.answerWatch_nothingDue {s : State} (w : Watch) (f : Nat) (h : s.nothingDue = true) :
    (s.answerWatch w f).nothingDue = true :=
  State.nothingDue_of_tabs (State.reply_tabs ..) h

theorem execWatchTimeout_found {s : State} {n : SessionNo} {tag : Nat} {w : Watch}
    (hw : s.zdp.watches.find? (fun w => w.q.session == n.val && w.q.tag == tag && w.timeoutMs != 0) = some w) :
    exec (.watchTimeout n tag) s = State.done (s.answerWatch w 2) ∧ w.q.session = n.val := by
  constructor
  · show execWatchTimeout n tag s = _
    unfold execWatchTimeout
    rw [hw]
  · have hp := List.find?_some hw
    simp only [Bool.and_eq_true, beq_iff_eq] at hp
    obtain ⟨⟨hn, -⟩, -⟩ := hp
    exact hn

/-! ### PING (R63, R70) -/

theorem State.ping_serves {s : State} {q : Request} (hs : s.serves Zop.ping q = true) (harg : q.arg = 0) :
    s.ping (askerOf q) q = Res.done s := by
  unfold State.ping
  rw [State.onNone_serves _ hs, if_neg (by simp [harg])]

theorem execPing_session {s : State} {q : Request} (h : s.admits Zop.ping q = true) (hq : q.session ≠ 0xFFFF)
    (hs : (s.taken Zop.ping q).serves Zop.ping q = true) (harg : q.arg = 0) :
    exec (.ping q) s = State.done (State.finish Zop.ping q (Res.done (s.taken Zop.ping q))) := by
  refine (if_neg hq).trans ((State.request_admits h).trans ?_)
  rw [State.ping_serves hs harg]

/-- A request without a session is in hand (R70). -/
def State.inHand (s : State) : State := { s with zdp := { s.zdp with sessionless := s.zdp.sessionless + 1 } }

theorem State.inHand_sessionless (s : State) : s.inHand.zdp.sessionless = s.zdp.sessionless + 1 := rfl

/-- Steps 1 and 2 of a request without a session. -/
theorem State.sessionlessRequest_admits {s : State} {op : Nat} {q : Request} (run : State → State) (h : s.admitsBare op q = true) :
    s.sessionlessRequest op q run = State.done (run (s.accepted op q).inHand) := by
  unfold State.admitsBare at h
  simp only [Bool.and_eq_true, Bool.not_eq_true', decide_eq_true_eq] at h
  obtain ⟨⟨⟨hh, hv⟩, -⟩, hl⟩ := h
  have h1 : s.stepOne op q = .go (s.accepted op q) := by simp [State.stepOne, hh, hv]
  have h2 : ¬16 ≤ (s.accepted op q).zdp.sessionless := by rw [State.accepted_sessionless]; omega
  unfold State.sessionlessRequest
  rw [h1]
  exact if_neg h2

theorem execPing_bare {s : State} {q : Request} (h : s.admitsBare Zop.ping q = true) (hq : q.session = 0xFFFF)
    (hs : (s.accepted Zop.ping q).serves Zop.ping q = true) (harg : q.arg = 0) :
    exec (.ping q) s
      = State.done ((s.accepted Zop.ping q).inHand.reply q Zop.ping Code.ok 0 0 [] q.session true) := by
  have hi : q.internal = false := by
    unfold State.admitsBare at h
    simp only [Bool.and_eq_true, Bool.not_eq_true'] at h
    obtain ⟨⟨-, hi⟩, -⟩ := h
    exact hi
  have hp : (s.accepted Zop.ping q).inHand.ping (askerOf q) q = Res.done (s.accepted Zop.ping q).inHand :=
    State.ping_serves hs harg
  refine (if_pos hq).trans ((State.sessionlessRequest_admits _ h).trans ?_)
  simp only [State.unlessInternal, hi, hp, Res.done, Bool.false_eq_true, if_false]

/-! ### Address requests (R58) -/

/-- The answer to an address request waits in the bypass queue of its port. -/
def State.queueAddress (s : State) (h : HostNo) (f : BypassFrame) : State :=
  if h.val = 0 then { s with zdp := { s.zdp with bypass0 := s.zdp.bypass0 ++ [f] } }
  else { s with zdp := { s.zdp with bypass1 := s.zdp.bypass1 ++ [f] } }

theorem Only.queueAddress {R T : List Nat} (s : State) (h : HostNo) (f : BypassFrame) : Only R T s (s.queueAddress h f) := by
  unfold State.queueAddress
  split
  · simpa using Only.zdp (R := R) (T := T) s s.zdp.watches [f] [] [] (List.Sublist.refl _)
  · simpa using Only.zdp (R := R) (T := T) s s.zdp.watches [] [f] [] (List.Sublist.refl _)

theorem State.queueAddress_bypass0 (s : State) (h : HostNo) (f : BypassFrame) :
    (s.queueAddress h f).zdp.bypass0 = if h.val = 0 then s.zdp.bypass0 ++ [f] else s.zdp.bypass0 := by
  unfold State.queueAddress; split <;> rfl

theorem State.queueAddress_bypass1 (s : State) (h : HostNo) (f : BypassFrame) :
    (s.queueAddress h f).zdp.bypass1 = if h.val = 0 then s.zdp.bypass1 else s.zdp.bypass1 ++ [f] := by
  unfold State.queueAddress; split <;> rfl

theorem State.queueAddress_tabs (s : State) (h : HostNo) (f : BypassFrame) : (s.queueAddress h f).tabs = s.tabs := by
  unfold State.queueAddress; split <;> rfl

theorem execZdpArpRequest_own {s : State} {h : HostNo} {v6 : Bool} {target : Nat} (who : AddressAsker)
    (hup : s.portUp (512 + h) = true) (hudp : s.zdpSetting 0x02 = 1) (h0 : target ≠ 0)
    (hown : target = s.zdpSetting (if v6 then 0x05 else 0x04)) :
    exec (.zdpArpRequest h v6 target who) s
      = State.done ((s.macReceived (512 + h) (if !v6 then 64 else if who.sender = 0 then 82 else 90)).queueAddress h
          (.arp v6 target who.mac who.sender)) := by
  refine (if_pos ⟨hup, hudp, h0, hown⟩).trans ?_
  unfold State.queueAddress
  dsimp only
  split <;> rfl

/-! ### RELEASE (R89, R405) -/

theorem State.releaseJob_serves {s : State} {q : Request} (hs : s.serves Zop.release q = true)
    (hb : s.blockInReset Zop.release 0 0 = false) :
    s.releaseJob (askerOf q) q
      = if jobSeq (s.tab Tab.jobDesc (q.arg % 4096)) ≠ q.arg ∨ s.tab Tab.jobState (q.arg % 4096) = 0 then
          Res.fail s Code.ok Detail.alreadyReleased
        else if s.tab Tab.jobState (q.arg % 4096) = 3 then Res.done (s.forAll [Tab.jobState, Tab.jobDesc, Tab.jobOrder, Tab.jobRecord]
          (fun s t => s.setTab t (q.arg % 4096) 0))
        else Res.fail s Code.notReady := by
  unfold State.releaseJob
  rw [State.onNone_serves _ hs]
  simp only [hb, Bool.false_eq_true, if_false]

theorem execRelease_serves {s : State} {q : Request} (h : s.admits Zop.release q = true)
    (hs : (s.taken Zop.release q).serves Zop.release q = true) (hb : (s.taken Zop.release q).blockInReset Zop.release 0 0 = false) :
    exec (.release q) s = State.done (State.finish Zop.release q (
      if jobSeq (s.tab Tab.jobDesc (q.arg % 4096)) ≠ q.arg ∨ s.tab Tab.jobState (q.arg % 4096) = 0 then
        Res.fail (s.taken Zop.release q) Code.ok Detail.alreadyReleased
      else if s.tab Tab.jobState (q.arg % 4096) = 3 then Res.done ((s.taken Zop.release q).forAll
        [Tab.jobState, Tab.jobDesc, Tab.jobOrder, Tab.jobRecord] (fun s t => s.setTab t (q.arg % 4096) 0))
      else Res.fail (s.taken Zop.release q) Code.notReady)) := by
  have hk : q.arg % 4096 < 2 ^ 40 := by omega
  refine (State.request_admits h).trans ?_
  rw [State.releaseJob_serves hs hb, State.admits_tab h hk (by decide) (by decide), State.admits_tab h hk (by decide) (by decide)]

theorem State.tab_setTab_element (s : State) (t i v j : Nat) : (s.setTab t i v).tab t j = if j = i then v else s.tab t j := by
  split
  · next h => rw [h, State.tab_setTab_same]
  · next h => exact State.tab_setTab_index s v h

/-- A job's slot that is freed is FREE and its record 0; the other slots are as they were. -/
theorem State.tab_jobFreed (s : State) {k j t : Nat} (hk : k < 4096) (hj : j < 4096) (ht : t = Tab.jobState ∨ t = Tab.jobRecord) :
    (s.forAll [Tab.jobState, Tab.jobDesc, Tab.jobOrder, Tab.jobRecord] (fun s t => s.setTab t k 0)).tab t j
      = if j = k then 0 else s.tab t j := by
  have hother : ∀ (u : State) (n : Nat), t ≠ n → (u.setTab n k 0).tab t j = u.tab t j := fun u n hn =>
    State.tab_setTab_table u 0 hn (by omega) (by omega)
  simp only [State.forAll, List.foldl]
  rcases ht with rfl | rfl
  · rw [hother _ _ (by decide), hother _ _ (by decide), hother _ _ (by decide), State.tab_setTab_element]
  · rw [State.tab_setTab_element, hother _ _ (by decide), hother _ _ (by decide), hother _ _ (by decide)]

/-- The answer to a RELEASE shows the slots of jobs as its operation leaves them. -/
theorem State.release_done_tab {q : Request} (r : Res) {t j : Nat} (ht : t = Tab.jobState ∨ t = Tab.jobRecord) (hj : j < 4096) :
    (State.finish Zop.release q r).deliverDue.tab t j = r.st.tab t j := by
  rcases ht with rfl | rfl
  · exact State.finish_done_tab _ _ _ (by omega) (by decide)
  · exact State.finish_done_tab _ _ _ (by omega) (by decide)

/-- A RELEASE that is taken has not changed the slots of jobs yet. -/
theorem State.release_taken_tab {s : State} {q : Request} (h : s.admits Zop.release q = true) {t j : Nat}
    (ht : t = Tab.jobState ∨ t = Tab.jobRecord) (hj : j < 4096) : (s.taken Zop.release q).tab t j = s.tab t j := by
  rcases ht with rfl | rfl
  · exact State.admits_tab h (by omega) (by decide) (by decide)
  · exact State.admits_tab h (by omega) (by decide) (by decide)

/-- A RELEASE that releases nothing leaves every slot as it was. -/
theorem State.release_left_tab {s : State} {q : Request} (h : s.admits Zop.release q = true) (code detail : Nat) {t j : Nat}
    (ht : t = Tab.jobState ∨ t = Tab.jobRecord) (hj : j < 4096) :
    (State.finish Zop.release q (Res.fail (s.taken Zop.release q) code detail)).deliverDue.tab t j = s.tab t j :=
  (State.release_done_tab _ ht hj).trans (State.release_taken_tab h ht hj)

/-- One that releases slot `k` leaves that slot 0 and the others as they were. -/
theorem State.release_freed_tab {s : State} {q : Request} (h : s.admits Zop.release q = true) {k t j : Nat} (hk : k < 4096)
    (ht : t = Tab.jobState ∨ t = Tab.jobRecord) (hj : j < 4096) :
    (State.finish Zop.release q (Res.done ((s.taken Zop.release q).forAll [Tab.jobState, Tab.jobDesc, Tab.jobOrder, Tab.jobRecord]
      (fun s t => s.setTab t k 0)))).deliverDue.tab t j = if j = k then 0 else s.tab t j := by
  rw [State.release_done_tab _ ht hj, ← State.release_taken_tab h ht hj]
  exact State.tab_jobFreed _ hk hj ht

end Sys2Proof.Machine
end

section
/-!
SUPPORT. The ends of sessions: what starts the closing of one, and what its completion leaves (R71, R72, R112).
-/
namespace Sys2Proof.Machine

/-- A register of a session is none that interrupts or counters write. -/
theorem quietReg_session {n j : Nat} (hn : n < 16) (hj : j < 256) : quietReg ((0x0110 + n) * 256 + j) = true := by
  rw [quietReg_iff]; omega

theorem sessionReg_ne {n j k : Nat} (hk : k < 0x011000) : (0x0110 + n) * 256 + j ≠ k := by omega

theorem State.beginClose_open {s : State} {n : Nat} (h : s.reg (Reg.SESSION.STATE n) = 1) :
    s.beginClose n = s.setReg (Reg.SESSION.STATE n) 2 := if_pos h

/-- The closing of an open session changes its STATE alone, interrupts and replies apart. -/
theorem State.beginClose_done {s : State} {n : Nat} (hn : n < 16) (h : s.reg (Reg.SESSION.STATE n) = 1) :
    (s.beginClose n).deliverDue.reg (Reg.SESSION.STATE n) = 2 ∧ Only [Reg.SESSION.STATE n] [] s (s.beginClose n).deliverDue := by
  rw [State.beginClose_open h]
  refine ⟨?_, (Only.setReg s _ 2 (.inl (by simp))).trans (Only.deliverDue _)⟩
  rw [State.reg_deliverDue _ (quietReg_session hn (by decide)), State.reg_setReg_same]

/-- A CLOSE waits for the end of its session. -/
def State.closeWaits (s : State) (q : Request) : State := { s with zdp := { s.zdp with closes := s.zdp.closes ++ [q] } }

theorem execClose_serves {s : State} {q : Request} (h : s.admits Zop.close q = true)
    (hs : (s.taken Zop.close q).serves Zop.close q = true) (harg : q.arg = 0) :
    exec (.close q) s = State.done (((s.taken Zop.close q).closeWaits q).beginClose q.session) := by
  refine (State.request_admits h).trans ?_
  have hz : ¬q.arg ≠ 0 := fun hne => hne harg
  simp only [State.onNone_serves _ hs, if_neg hz]
  rfl

/-- The parked watches of session `n` are answered with SESSION_ENDING (R71). -/
def State.endWatches (s : State) (n : Nat) : State :=
  s.forAll (s.zdp.watches.filter (fun w => w.q.session == n)) (fun s w => s.answerWatch w 4)

/-- Session `n` is closed, and no CLOSE of it waits any more (R71). -/
def State.endSession (s : State) (n : Nat) : State :=
  let u := (s.endWatches n).freeSession n
  { u with zdp := { u.zdp with closes := u.zdp.closes.filter (fun q => q.session != n) } }

/-- Each of the CLOSE requests `l` is answered OK (R71). -/
def State.answerCloses (s : State) (l : List Request) : State :=
  s.forAll l (fun s q => s.reply q Zop.close Code.ok 0 0 [] q.session false)

theorem Only.endWatches (s : State) (n : Nat) : Only [] [] s (s.endWatches n) :=
  Only.forAll _ _ _ fun u w _ => Only.answerWatch u w 4

theorem Only.answerCloses (s : State) (l : List Request) : Only [] [] s (s.answerCloses l) :=
  Only.forAll _ _ _ fun _ _ _ => Only.reply _ _ _ _ _ _ _ _ _

theorem State.answerCloses_answers (l : List Request) (s : State) {q : Request} (hq : q ∈ l) :
    (s.answerCloses l).answers q Zop.close q.session Code.ok [] := by
  induction l generalizing s with
  | nil => cases hq
  | cons x l ih =>
    rcases List.mem_cons.mp hq with rfl | hq
    · exact (Only.answerCloses _ l).answers (State.answers_reply s q Zop.close Code.ok 0 0 [] q.session false)
    · exact ih _ hq

theorem execSessionCloseComplete_closing {s : State} {n : SessionNo} (h : s.reg (Reg.SESSION.STATE n) = 2) (hq : s.sessionQuiet n = true) :
    exec (.sessionCloseComplete n) s
      = State.done ((s.endSession n).answerCloses (s.zdp.closes.filter (fun q => q.session == n.val))) := by
  rw [← (Only.endWatches s n).closes]
  exact if_neg (by simp [h, hq])

/-- Registers put back to their defaults, one after another. -/
theorem State.reg_forAll_resetReg (l : List Nat) (key : Nat → Nat) (s : State) {j : Nat} (hj : j ∈ l) :
    (s.forAll l (fun s i => s.resetReg (key i))).reg (key j) = Dict.dflt (key j) := by
  have hkeep : ∀ (l : List Nat) (s : State) (k : Nat), s.reg k = Dict.dflt k →
      (s.forAll l (fun s i => s.resetReg (key i))).reg k = Dict.dflt k := by
    intro l
    induction l with
    | nil => exact fun s k h => h
    | cons i l ih =>
      intro s k h
      refine ih _ k ?_
      unfold State.resetReg
      rw [State.reg_setReg]
      split
      · next e => rw [e]
      · exact h
  induction l generalizing s with
  | nil => cases hj
  | cons i l ih =>
    rcases List.mem_cons.mp hj with rfl | hj
    · exact hkeep l _ _ (State.reg_setReg_same _ _ _)
    · exact ih _ hj

theorem State.reg_dropStagingsOf (s : State) (n k : Nat) : (s.dropStagingsOf n).reg k = s.reg k := rfl

theorem State.freeSession_reg (s : State) (n : Nat) {j : Nat} (h1 : 1 ≤ j) (h8 : j ≤ 8) :
    (s.freeSession n).reg (regKey (0x0110 + n) j) = Dict.dflt (regKey (0x0110 + n) j) := by
  obtain ⟨k, rfl⟩ : ∃ k, j = k + 1 := ⟨j - 1, by omega⟩
  have hk : k ∈ List.range 8 := List.mem_range.mpr (by omega)
  unfold State.freeSession
  rw [State.reg_dropStagingsOf]
  exact State.reg_forAll_resetReg _ (fun k => regKey (0x0110 + n) (k + 1)) _ hk

theorem State.endSession_reg (s : State) (n k : Nat) : (s.endSession n).reg k = ((s.endWatches n).freeSession n).reg k := by
  unfold State.endSession State.reg
  rfl

theorem State.endSession_cache (s : State) (n : Nat) : ∀ e ∈ (s.endSession n).zdp.cache, e.session ≠ n := by
  intro e he
  have h : e ∈ (s.endWatches n).zdp.cache.filter (fun e => e.session != n) := he
  simpa using (List.mem_filter.mp h).2

theorem State.endSession_stagings (s : State) (n : Nat) : ∀ g ∈ (s.endSession n).stagings, g.owner = n → g.state ≠ 1 := by
  intro g hg ho
  have h : g ∈ (s.endWatches n).stagings.filter (fun g => g.owner != n || g.state != 1) := hg
  simpa [ho] using (List.mem_filter.mp h).2

theorem State.endSession_closes (s : State) (n : Nat) : ∀ q ∈ (s.endSession n).zdp.closes, q.session ≠ n := by
  intro q hq
  have h : q ∈ (s.endWatches n).zdp.closes.filter (fun q => q.session != n) := hq
  simpa using (List.mem_filter.mp h).2

end Sys2Proof.Machine
end

section
/-!
The statements of 03_zilmor_protocol.md settled.
-/
open Sys2Proof Sys2Proof.Machine

/-- Settles O7: the checks that pass leave the read's own answer, and a completed request changes nothing that a read leaves. -/
theorem readsAnswered : Obligations.ReadsAnswered := by
  unfold Obligations.ReadsAnswered
  constructor
  · intro s q o r ha hd hc hl harg hm hb hj
    have hmax : r.ty.size ≤ (s.taken Zop.read q).reg Reg.ZDP_CONFIG.MAX_DATA := by
      rw [State.taken_reg s _ q _ (by decide) (by decide) (by decide)]
      exact hm
    refine ⟨_, execRead_admits ha, ?_⟩
    rw [State.readObject_pass hd hc hl harg hmax hb hj]
    refine ⟨State.finish_answers .., ?_, ?_, ?_, fun k hk h1 h2 => ?_⟩
    · rw [State.deliverDue_mem, State.finish_mem]
      exact (State.valueDrawn_mem _ _ _).trans (State.taken_mem _ _ _)
    · rw [State.deliverDue_out, State.finish_out]
      exact (State.valueDrawn_out _ _ _).trans (State.taken_out _ _ _)
    · rw [State.deliverDue_stagings, State.finish_stagings]
      exact (State.valueDrawn_stagings _ _ _).trans (State.taken_stagings _ _ _)
    · rw [State.finish_done_reg _ _ _ hk]
      exact (State.valueDrawn_reg _ _ _ _).trans (State.taken_reg _ _ _ _ hk h1 h2)
  · intro s q o r ha hd hc hr hb hj
    dsimp only
    refine ⟨_, execBlockRead_admits ha, ?_⟩
    rw [State.blockReadObject_pass hd hc hr hb hj]
    exact ⟨State.finish_answers .., (State.deliverDue_mem _).trans (State.finish_mem ..),
      (State.deliverDue_out _).trans (State.finish_out ..), (State.deliverDue_stagings _).trans (State.finish_stagings ..),
      fun k hk => State.finish_done_reg _ _ _ hk⟩

/-- Settles O8: the checks that pass leave the effect's own answer, and what follows it writes what interrupts write, and for an
ISLAND_RESET the tag that it waits for. -/
theorem writesAnswered : Obligations.WritesAnswered := by
  unfold Obligations.WritesAnswered
  refine ⟨?_, ?_, ?_⟩
  · intro s q o r ha hd
    dsimp only
    intro hc harg hm hl hv hb hs
    have he := State.writeObject_pass hd hc harg hm hl hv
    have hst := State.performWrite_permitted (eff := fullEffect q.session q.index q.sub (ofBE q.data) 0) hb hs
    obtain ⟨hcode, hdata⟩ := State.performWrite_answer (eff := fullEffect q.session q.index q.sub (ofBE q.data) 0) hb hs
    refine ⟨_, execWrite_admits ha, ?_⟩
    rw [he, ← hst, ← hcode, ← hdata]
    have hafter : ∀ u : State, Only [] [Tab.islandReset] u (u.afterReply q).deliverDue := fun u =>
      (State.afterReply_only u q).trans (Only.deliverDue _)
    refine ⟨fun k hk => ?_, fun n i hi hn hreset => ?_, fun hi hsub hdue => ?_, ?_⟩
    · rw [(hafter _).regs k (by simp) hk, State.finish_reg _ _ _ _ hk]
    · by_cases hq : q.index = 0x0500 ∧ q.sub = 0x02
      · obtain ⟨hi5, hs2⟩ := hq
        rw [(hafter _).tabs n i hi (by simpa using hreset hi5 hs2) hn, State.finish_tab _ _ _ _ _ hi hn]
      · rw [State.afterReply_other hq, State.finish_done_tab _ _ _ hi hn]
    · rw [← State.finish_tab Zop.write q _ Tab.islandReset 1 (by decide) (by decide)] at hdue
      obtain ⟨h1, h0⟩ := State.afterReply_due hi hsub hdue
      exact ⟨(State.tab_deliverDue _ (by decide) (by decide)).trans h1, (State.tab_deliverDue _ (by decide) (by decide)).trans h0⟩
    · exact (hafter _).answers (State.answers_reply ..)
  · intro s q o r ha hd
    dsimp only
    intro hc hr hb hs
    have he := State.blockWriteObject_pass hd hc hr
    have hst := State.performWrite_permitted (eff := fullBlockEffect q.session q.index q.sub q.arg q.data r) hb hs
    obtain ⟨hcode, hdata⟩ := State.performWrite_answer (eff := fullBlockEffect q.session q.index q.sub q.arg q.data r) hb hs
    refine ⟨_, execBlockWrite_admits ha, ?_⟩
    rw [he, ← hst, ← hcode, ← hdata]
    exact ⟨State.finish_answers .., fun k hk => State.finish_done_reg _ _ _ hk, fun n i hi hn => State.finish_done_tab _ _ _ hi hn⟩
  · intro s q o r posts lost ha hd
    dsimp only
    intro hc hw hsub hl harg hb
    refine ⟨_, execWindowCommit_admits posts lost ha, ?_⟩
    rw [State.commitObject_pass posts lost hd hc hw hsub hl harg hb]
    exact ⟨State.finish_answers .., fun k hk => State.finish_done_reg _ _ _ hk, fun n i hi hn => State.finish_done_tab _ _ _ hi hn⟩

/-- Settles O9: each request's outcome is the one of its branches that the hypotheses choose. -/
theorem otherRequestsAnswered : Obligations.OtherRequestsAnswered := by
  unfold Obligations.OtherRequestsAnswered
  refine ⟨fun s q ha hs hn => ?_, ?_, ?_, ?_, ?_, ?_⟩
  · have he := execParkedWatch_serves ha hs
    have hkeep : ∀ code detail : Nat, (State.finish Zop.parkedWatch q (Res.fail (s.taken Zop.parkedWatch q) code detail)).deliverDue.zdp.watches
        = s.zdp.watches := fun code detail =>
      (State.finish_done_watches _ q (Res.fail (s.taken Zop.parkedWatch q) code detail) hn).trans (State.taken_watches s Zop.parkedWatch q)
    refine ⟨fun hseq hroom => ?_, fun hseq hfull => ?_, fun hseq => ?_⟩
    · rw [if_pos hseq, if_neg (Nat.not_le.mpr hroom)] at he
      refine ⟨_, he.trans (State.done_nothing (s := (s.taken Zop.parkedWatch q).park q) hn), ?_, ?_, ?_, ?_⟩
      · rw [State.park_watches, State.taken_watches]
      · rw [State.park_parked, State.taken_parked]
      · exact State.taken_waitingReplies s Zop.parkedWatch q
      · exact State.taken_attn s Zop.parkedWatch q
    · rw [if_pos hseq, if_pos hfull] at he
      exact ⟨_, he, State.finish_answers .., hkeep _ _⟩
    · rw [if_neg hseq] at he
      exact ⟨_, he, State.finish_answers .., hkeep _ _⟩
  · intro s q ha hq hs harg
    refine ⟨_, execPing_session ha hq hs harg, State.finish_answers .., ?_, ?_, ?_, fun k hk h1 h2 => ?_⟩
    · exact (State.deliverDue_mem _).trans ((State.finish_mem ..).trans (State.taken_mem s _ q))
    · exact (State.deliverDue_out _).trans ((State.finish_out ..).trans (State.taken_out s _ q))
    · exact (State.deliverDue_stagings _).trans ((State.finish_stagings ..).trans (State.taken_stagings s _ q))
    · exact (State.finish_done_reg _ _ _ hk).trans (State.taken_reg s _ q k hk h1 h2)
  · intro s q ha hq hs harg
    refine ⟨_, execPing_bare ha hq hs harg, ?_, ?_⟩
    · exact (Only.deliverDue (R := []) (T := []) _).answers (State.answers_reply ..)
    · rw [(Only.deliverDue (R := []) (T := []) _).sessionless, (Only.reply (R := []) (T := []) _ _ _ _ _ _ _ _ _).sessionless,
        State.inHand_sessionless, State.accepted_sessionless]
  · intro s n tag w hn hw
    obtain ⟨he, hsess⟩ := execWatchTimeout_found hw
    refine ⟨_, he.trans (State.done_nothing (State.answerWatch_nothingDue w 2 hn)), ?_, ?_, Only.answerWatch s w 2⟩
    · rw [← hsess]
      exact State.answerWatch_answers s w 2
    · exact State.answerWatch_watches s w 2
  · intro s h v6 target mac sender hup hn hudp h0 hown
    have he := execZdpArpRequest_own ⟨mac, sender⟩ hup hudp h0 hown
    have hz := (SameEngine.macReceived s (512 + h) (if !v6 then 64 else if sender = 0 then 82 else 90)).zdp
    refine ⟨_, he.trans (State.done_nothing (State.nothingDue_of_tabs (State.queueAddress_tabs ..) hn)), ?_, ?_, ?_⟩
    · rw [State.queueAddress_bypass0, hz]
    · rw [State.queueAddress_bypass1, hz]
    · exact (Only.macReceived s _ _ (by omega)).trans (Only.queueAddress _ _ _)
  · intro s q ha hs hb
    have he := execRelease_serves ha hs hb
    have hk : q.arg % 4096 < 4096 := Nat.mod_lt _ (by decide)
    dsimp only
    refine ⟨fun hseq hst => ?_, fun hgone => ?_, fun hseq hfree hst => ?_⟩
    · rw [if_neg (by simp [hseq, hst]), if_pos hst] at he
      refine ⟨_, he, State.finish_answers .., ?_, ?_, fun j hj hne => ⟨?_, ?_⟩⟩
      · exact (State.release_freed_tab ha hk (.inl rfl) hk).trans (if_pos rfl)
      · exact (State.release_freed_tab ha hk (.inr rfl) hk).trans (if_pos rfl)
      · exact (State.release_freed_tab ha hk (.inl rfl) hj).trans (if_neg hne)
      · exact (State.release_freed_tab ha hk (.inr rfl) hj).trans (if_neg hne)
    · rw [if_pos hgone] at he
      exact ⟨_, he, State.finish_answers .., fun j hj =>
        ⟨State.release_left_tab ha _ _ (.inl rfl) hj, State.release_left_tab ha _ _ (.inr rfl) hj⟩⟩
    · rw [if_neg (by simp [hseq, hfree]), if_neg hst] at he
      exact ⟨_, he, State.finish_answers .., fun j hj =>
        ⟨State.release_left_tab ha _ _ (.inl rfl) hj, State.release_left_tab ha _ _ (.inr rfl) hj⟩⟩

/-- Settles O11: each start of a closing writes STATE alone, and its completion is the session's end followed by the replies to its
CLOSE requests. -/
theorem sessionsClose : Obligations.SessionsClose := by
  unfold Obligations.SessionsClose
  refine ⟨?_, ?_, ?_, ?_⟩
  · intro s q ha hs harg
    obtain ⟨hlt, hopen⟩ := State.admits_session ha
    have hstate : ((s.taken Zop.close q).closeWaits q).reg (Reg.SESSION.STATE q.session) = 1 :=
      (State.taken_reg s _ q _ (quietReg_session hlt (by decide)) (sessionReg_ne (by decide)) (sessionReg_ne (by decide))).trans hopen
    obtain ⟨h2, ho⟩ := State.beginClose_done hlt hstate
    refine ⟨_, execClose_serves ha hs harg, h2, ?_, fun k hk hne h1 h3 => ?_⟩
    · exact ho.closes.trans (congrArg (· ++ [q]) (State.taken_closes s Zop.close q))
    · exact (ho.regs k (by simpa using hne) hk).trans (State.taken_reg s _ q k hk h1 h3)
  · intro s w n hp hopen
    have hsaved : savedSub 0x0102 0x01 = false := by decide
    have he : exec (.forceClose w n) s = .next (s.beginClose n).deliverDue := by
      have h := State.hostWrite_next (eff := forceCloseEffect n) hp rfl
      rw [hsaved] at h
      exact h
    obtain ⟨h2, ho⟩ := State.beginClose_done n.isLt hopen
    exact ⟨_, he, h2, ho⟩
  · intro s n hopen
    obtain ⟨h2, ho⟩ := State.beginClose_done n.isLt hopen
    exact ⟨_, rfl, h2, ho⟩
  · intro s n hst hq
    let l := s.zdp.closes.filter (fun q => q.session == n.val)
    have ho : Only [] [] (s.endSession n) ((s.endSession n).answerCloses l).deliverDue :=
      (Only.answerCloses _ l).trans (Only.deliverDue _)
    refine ⟨_, execSessionCloseComplete_closing hst hq, fun j h1 h8 => ?_, ?_, ?_, ?_, fun q hmem hsess => ?_⟩
    · have hquiet : quietReg (regKey (0x0110 + n) j) = true := quietReg_session n.isLt (by omega)
      exact (ho.regs _ (by simp) hquiet).trans ((s.endSession_reg n _).trans (State.freeSession_reg _ n h1 h8))
    · rw [ho.cache]
      exact s.endSession_cache n
    · rw [ho.stagings]
      exact s.endSession_stagings n
    · rw [ho.closes]
      exact s.endSession_closes n
    · have hl : q ∈ l := List.mem_filter.mpr ⟨hmem, by simpa using hsess⟩
      have h := State.answerCloses_answers l (s.endSession n) hl
      rw [hsess] at h
      exact (Only.deliverDue (R := []) (T := []) _).answers h
end

section
/-!
SUPPORT. The configuration store: its slots and the newest image, and the frames of what its commands do (R104 to R109, R135).
-/
namespace Sys2Proof.Machine

/-! ### Slots (R105, R108) -/

theorem slotGenKey_cases (k : Nat) :
    slotGenKey k = Reg.CONFIG_STORE.SLOT_A_GEN ∨ slotGenKey k = Reg.CONFIG_STORE.SLOT_B_GEN := by
  unfold slotGenKey
  split
  · exact .inl rfl
  · exact .inr rfl

theorem quietReg_slotGenKey (k : Nat) : quietReg (slotGenKey k) = true := by
  rcases slotGenKey_cases k with h | h
  · rw [h]; decide
  · rw [h]; decide

theorem slotGenKey_not_mem {R : List Nat} (k : Nat) (ha : Reg.CONFIG_STORE.SLOT_A_GEN ∉ R) (hb : Reg.CONFIG_STORE.SLOT_B_GEN ∉ R) :
    slotGenKey k ∉ R := by
  rcases slotGenKey_cases k with h | h
  · rwa [h]
  · rwa [h]

theorem slotGenKey_ne {j : Nat} (k : Nat) (ha : Reg.CONFIG_STORE.SLOT_A_GEN ≠ j) (hb : Reg.CONFIG_STORE.SLOT_B_GEN ≠ j) :
    slotGenKey k ≠ j := by
  simpa using slotGenKey_not_mem (R := [j]) k (by simpa using ha) (by simpa using hb)

/-- What leaves the GEN registers alone leaves each slot's GEN. -/
theorem Only.slotGen {R T : List Nat} {s t : State} (h : Only R T s t) (k : Nat) (ha : Reg.CONFIG_STORE.SLOT_A_GEN ∉ R)
    (hb : Reg.CONFIG_STORE.SLOT_B_GEN ∉ R) : t.slotGen k = s.slotGen k :=
  h.regs _ (slotGenKey_not_mem k ha hb) (quietReg_slotGenKey k)

theorem State.otherSlot_le (s : State) : s.otherSlot ≤ 1 := by
  unfold State.otherSlot
  split
  · exact Nat.le_refl 1
  · exact Nat.zero_le 1

/-- No slot holds a valid image. -/
theorem State.newestSlot_none {s : State} (h0 : s.slotGen 0 = 0) (h1 : s.slotGen 1 = 0) : s.newestSlot = none :=
  if_pos ⟨h0, h1⟩

/-- The slot that ACCEPT_IMPORT made the newest is the newest while it is valid. -/
theorem State.newestSlot_accepted {s : State} {k : Nat} (hk : k = 0 ∨ k = 1) (hv : s.slotGen k ≠ 0)
    (ha : s.tab Tab.store 2 = k + 1) : s.newestSlot = some k := by
  unfold State.newestSlot
  rcases hk with rfl | rfl
  · simp [hv, ha]
  · simp [hv, ha]

/-- SAVED_GEN and IMAGE_BYTES are all that follows the newest slot; with none SAVED_GEN is 0. -/
theorem State.refreshNewest_writes (s : State) : ∃ g n,
    s.refreshNewest = (s.setReg Reg.CONFIG_STORE.SAVED_GEN g).setReg Reg.CONFIG_STORE.IMAGE_BYTES n
      ∧ (s.newestSlot = none → g = 0) := by
  unfold State.refreshNewest
  split
  · exact ⟨0, 0, rfl, fun _ => rfl⟩
  · next k hk => exact ⟨_, _, rfl, fun hn => nomatch hk.symm.trans hn⟩

namespace Only

variable {R T : List Nat}

theorem refreshNewest (s : State) (h1 : Reg.CONFIG_STORE.SAVED_GEN ∈ R) (h2 : Reg.CONFIG_STORE.IMAGE_BYTES ∈ R) :
    Only R T s s.refreshNewest := by
  obtain ⟨g, n, he, -⟩ := s.refreshNewest_writes
  rw [he]
  exact (setReg _ _ _ (.inl h1)).trans (setReg _ _ _ (.inl h2))

theorem invalidateSlot (s : State) (k : Nat) (h0 : slotGenKey k ∈ R) (h1 : Reg.CONFIG_STORE.SAVED_GEN ∈ R)
    (h2 : Reg.CONFIG_STORE.IMAGE_BYTES ∈ R) (ht : Tab.store ∈ T) : Only R T s (s.invalidateSlot k) :=
  ((setReg s _ _ (.inl h0)).trans (when _ _ _ fun _ => setTab _ _ _ _ (by decide) (.inl ht))).trans (refreshNewest _ h1 h2)

theorem storeDone (s : State) (code detail : Nat) (h1 : Reg.CONFIG_STORE.STATE ∈ R) (h2 : Reg.CONFIG_STORE.LAST_RESULT ∈ R)
    (h3 : Reg.CONFIG_STORE.LAST_DETAIL ∈ R) : Only R T s (s.storeDone code detail) :=
  ((setReg s _ _ (.inl h1)).trans (setReg _ _ _ (.inl h2))).trans (setReg _ _ _ (.inl h3))

end Only

@[simp] theorem State.slotGen_refreshNewest (s : State) (k : Nat) : s.refreshNewest.slotGen k = s.slotGen k :=
  (Only.refreshNewest (R := [Reg.CONFIG_STORE.SAVED_GEN, Reg.CONFIG_STORE.IMAGE_BYTES]) (T := []) s (by simp) (by simp)).slotGen k
    (by decide) (by decide)

@[simp] theorem State.tab_refreshNewest (s : State) (t i : Nat) : s.refreshNewest.tab t i = s.tab t i := by
  obtain ⟨g, n, he, -⟩ := s.refreshNewest_writes
  simp [he]

theorem State.savedGen_refreshNewest {s : State} (h : s.newestSlot = none) : s.refreshNewest.reg Reg.CONFIG_STORE.SAVED_GEN = 0 := by
  obtain ⟨g, n, he, hg⟩ := s.refreshNewest_writes
  rw [he, State.reg_setReg_other _ _ (by decide), State.reg_setReg_same, hg h]

@[simp] theorem State.slotGen_setTab (s : State) (t i v k : Nat) : (s.setTab t i v).slotGen k = s.slotGen k := State.reg_setTab _ _ _ _ _

theorem State.reg_when_setTab (s : State) (c : Bool) (t i v k : Nat) : (s.when c (·.setTab t i v)).reg k = s.reg k := by
  unfold State.when
  split
  · exact State.reg_setTab _ _ _ _ _
  · rfl

theorem State.slotGen_invalidateSlot (s : State) (k : Nat) : (s.invalidateSlot k).slotGen k = 0 := by
  unfold State.invalidateSlot
  rw [State.slotGen_refreshNewest]
  exact (State.reg_when_setTab _ _ _ _ _ _).trans (State.reg_setReg_same _ _ _)

/-- The other slot is as valid as it was. -/
theorem State.slotGen_invalidateSlot_other (s : State) {j k : Nat} (h : slotGenKey j ≠ slotGenKey k) :
    (s.invalidateSlot k).slotGen j = s.slotGen j := by
  unfold State.invalidateSlot
  rw [State.slotGen_refreshNewest]
  exact (State.reg_when_setTab _ _ _ _ _ _).trans (State.reg_setReg_other _ _ h)

theorem State.slotGen_validateSlot (s : State) (k len gen : Nat) : (s.validateSlot k len gen).slotGen k = max 1 gen := by
  unfold State.validateSlot
  rw [State.slotGen_refreshNewest, State.slotGen_setTab]
  exact State.reg_setReg_same _ _ _

/-! ### The end of a command (R106) -/

theorem State.state_storeDone (s : State) (code detail : Nat) : (s.storeDone code detail).reg Reg.CONFIG_STORE.STATE = 0 := by
  unfold State.storeDone
  rw [State.reg_setReg_other _ _ (by decide), State.reg_setReg_other _ _ (by decide), State.reg_setReg_same]

theorem State.result_storeDone (s : State) (code detail : Nat) :
    (s.storeDone code detail).reg Reg.CONFIG_STORE.LAST_RESULT = code := by
  unfold State.storeDone
  rw [State.reg_setReg_other _ _ (by decide), State.reg_setReg_same]


theorem State.slotGen_storeDone (s : State) (code detail k : Nat) : (s.storeDone code detail).slotGen k = s.slotGen k :=
  (Only.storeDone (R := [Reg.CONFIG_STORE.STATE, Reg.CONFIG_STORE.LAST_RESULT, Reg.CONFIG_STORE.LAST_DETAIL]) (T := []) s code detail
    (by simp) (by simp) (by simp)).slotGen k (by decide) (by decide)

/-- A register that a command writes last stands in its next state. -/
theorem State.reg_setReg_deliverDue (s : State) {k : Nat} (v : Nat) (hq : quietReg k = true) : (s.setReg k v).deliverDue.reg k = v :=
  (State.reg_deliverDue _ hq).trans (State.reg_setReg_same _ _ _)

/-! ### The start of a command (R106, R107, R109) -/

theorem State.discardImport_none {s : State} (h : s.storeState ≠ 4) : s.discardImport = s := by
  unfold State.discardImport State.when
  rw [if_neg (by simpa using h)]

/-- A permitted COMMAND that the store takes: the command's effect, and what is due with it. -/
theorem State.storeCommand_next {s u : State} {w : SessionNo} {v : Nat} (hp : s.permits w 0x0020 0x01 v = true)
    (h : configCommandEffect v s = Res.done u) :
    (s.hostWrite w 0x0020 0x01 v (configCommandEffect v)).next = .next u.deliverDue := by
  have hsaved : savedSub 0x0020 0x01 = false := by decide
  rw [State.hostWrite_next hp (by rw [h]; rfl), hsaved, h]
  rfl

/-- Each COMMAND while the store is idle. -/
theorem configCommandEffect_idle {s : State} (h : s.storeState = 0) :
    configCommandEffect 1 s = Res.done s.saveStart ∧ configCommandEffect 2 s = Res.done s.restoreStart
      ∧ configCommandEffect 3 s = Res.done s.clearSavedStart
      ∧ configCommandEffect 4 s = Res.done (s.clearConfig.storeDone Code.ok 0) := by
  simp [configCommandEffect, h]

theorem configCommandEffect_accept {s : State} (h : s.storeState = 0 ∨ s.storeState = 4) :
    configCommandEffect 5 s = Res.done s.acceptStart := by
  rcases h with h | h
  · simp [configCommandEffect, h]
  · simp [configCommandEffect, h]

/-- SAVE writes its slot: GEN, with SAVED_GEN and IMAGE_BYTES after it, the store's own table, and the bytes of the image. -/
theorem State.saveStart_onlyMem {s : State} (h : s.storeState ≠ 4) :
    OnlyMem [Reg.CONFIG_STORE.STATE, slotGenKey s.otherSlot, Reg.CONFIG_STORE.SAVED_GEN, Reg.CONFIG_STORE.IMAGE_BYTES] [Tab.store]
      (configSlot s.otherSlot) (configSlot s.otherSlot + s.capture.length) s s.saveStart := by
  have hk := s.otherSlot_le
  unfold State.saveStart
  rw [State.discardImport_none h]
  have hinv := OnlyMem.of (Only.invalidateSlot (R := [Reg.CONFIG_STORE.STATE, slotGenKey s.otherSlot, Reg.CONFIG_STORE.SAVED_GEN,
    Reg.CONFIG_STORE.IMAGE_BYTES]) (T := [Tab.store]) s s.otherSlot (by simp) (by simp) (by simp) (by simp))
    (configSlot s.otherSlot) (configSlot s.otherSlot + s.capture.length)
  refine (hinv.trans (OnlyMem.putBytes _ _ _ (Nat.le_refl _) (Nat.le_refl _))).trans (OnlyMem.of ?_ _ _)
  exact (((Only.setTab _ _ _ _ (by decide) (.inl (by simp))).trans (Only.setTab _ _ _ _ (by decide) (.inl (by simp)))).trans
    (Only.setTab _ _ _ _ (by omega) (.inl (by simp)))).trans (Only.setReg _ _ _ (.inl (by simp)))

theorem State.slotGen_saveStart {s : State} (h : s.storeState ≠ 4) : s.saveStart.slotGen s.otherSlot = 0 := by
  unfold State.saveStart
  rw [State.discardImport_none h]
  refine (State.reg_setReg_other _ _ (slotGenKey_ne _ (by decide) (by decide))).trans ?_
  simp only [State.reg_setTab, State.reg_putBytes]
  exact State.slotGen_invalidateSlot s s.otherSlot

theorem Only.acceptStart {R T : List Nat} (s : State) (h : Reg.CONFIG_STORE.STATE ∈ R) (ht : Tab.store ∈ T) :
    Only R T s s.acceptStart :=
  (((Only.setTab s _ _ _ (by decide) (.inl ht)).trans (Only.setTab _ _ _ _ (by decide) (.inl ht))).trans
    (Only.setReg _ _ _ (.inl h))).trans ((Only.setTab _ _ _ _ (by decide) (.inl ht)).trans (Only.setTab _ _ _ _ (by decide) (.inl ht)))

theorem State.state_acceptStart (s : State) : s.acceptStart.reg Reg.CONFIG_STORE.STATE = 5 := by
  unfold State.acceptStart
  simp only [State.reg_setTab, State.reg_setReg_same]

/-! ### IMPORT (R109) -/

/-- The octets of an import stored at their offset: the slot they go to is invalid, and the next expected offset lies behind them. -/
def State.importStored (s : State) (off : Nat) (data : Bytes) : State :=
  (((s.invalidateSlot s.otherSlot).putBytes (configSlot s.otherSlot + off) data).setTab Tab.store 0 (off + data.length)).setReg
    Reg.CONFIG_STORE.STATE 4

/-- A block at the next expected offset is stored, or waits for the flash. -/
theorem importEffect_next {s : State} {off : Nat} {data : Bytes} (hs : s.storeState = 0 ∨ s.storeState = 4)
    (ho : off = s.tab Tab.store 0) (hd : data ≠ []) :
    importEffect off data s
      = if s.flashBehind off then Res.fail s.drew Code.busyRetry else Res.done (s.drew.importStored off data) := by
  unfold importEffect
  rw [if_neg (by simpa using ho), if_neg (by omega), if_neg (by simpa using hd)]
  rfl

theorem State.importStored_onlyMem (s : State) (off : Nat) (data : Bytes) :
    OnlyMem [Reg.CONFIG_STORE.STATE, slotGenKey s.otherSlot, Reg.CONFIG_STORE.SAVED_GEN, Reg.CONFIG_STORE.IMAGE_BYTES] [Tab.store]
      (configSlot s.otherSlot + off) (configSlot s.otherSlot + off + data.length) s (s.importStored off data) := by
  have hinv := OnlyMem.of (Only.invalidateSlot (R := [Reg.CONFIG_STORE.STATE, slotGenKey s.otherSlot, Reg.CONFIG_STORE.SAVED_GEN,
    Reg.CONFIG_STORE.IMAGE_BYTES]) (T := [Tab.store]) s s.otherSlot (by simp) (by simp) (by simp) (by simp))
    (configSlot s.otherSlot + off) (configSlot s.otherSlot + off + data.length)
  refine (hinv.trans (OnlyMem.putBytes _ _ _ (Nat.le_refl _) (Nat.le_refl _))).trans (OnlyMem.of ?_ _ _)
  exact (Only.setTab _ _ _ _ (by decide) (.inl (by simp))).trans (Only.setReg _ _ _ (.inl (by simp)))

theorem State.offset_importStored (s : State) (off : Nat) (data : Bytes) :
    (s.importStored off data).tab Tab.store 0 = off + data.length := by
  unfold State.importStored
  rw [State.tab_setReg, State.tab_setTab_same]

theorem State.byte_importStored (s : State) (off : Nat) (data : Bytes) {i : Nat} (hi : i < data.length) :
    (s.importStored off data).byte (configSlot s.otherSlot + off + i) = data.getD i 0 % 256 := by
  unfold State.importStored
  rw [State.byte_setReg, State.byte_setTab, State.byte_putBytes, if_pos (by omega), Nat.add_sub_cancel_left]

/-- What a permitted BLOCK_WRITE has passed of R79. -/
theorem State.permitsBlock_pass {s : State} {w idx sub off n : Nat} (h : s.permitsBlock w idx sub off n = true) :
    ∃ o r, s.checkObject (s.asker w) Zop.blockWrite idx sub = .pass o r ∧ s.reg (Reg.SESSION.STATE w) = 1
      ∧ s.blockInReset Zop.blockWrite idx sub = false ∧ s.blockRefuses r off n = none ∧ (s.saving && r.saved) = false := by
  unfold State.permitsBlock at h
  rw [Bool.and_eq_true, Bool.and_eq_true, beq_iff_eq, Bool.not_eq_true'] at h
  obtain ⟨⟨ho, hb⟩, hpass⟩ := h
  cases hp : s.checkObject (s.asker w) Zop.blockWrite idx sub with
  | refuse res =>
    rw [hp] at hpass
    cases hpass
  | pass o r =>
    rw [hp] at hpass
    obtain ⟨hr, hs⟩ := (Bool.and_eq_true _ _).mp hpass
    exact ⟨o, r, rfl, ho, hb, Option.isNone_iff_eq_none.mp hr, (Bool.not_eq_true' _).mp hs⟩

/-- A permitted BLOCK_WRITE that its object's own rule refuses changes what that refusal changes. -/
theorem State.hostBlockWrite_next_refused {s : State} {w idx sub off : Nat} {data : Bytes} {eff : State → Res}
    (h : s.permitsBlock w idx sub off data.length = true) (hc : (eff s).code ≠ Code.ok) :
    (s.hostBlockWrite w idx sub off data eff).next = .next (eff s).st.deliverDue := by
  obtain ⟨o, r, hp, ho, hb, hr, hs⟩ := State.permitsBlock_pass h
  have he : s.hostBlockWrite w idx sub off data eff = s.performWrite Zop.blockWrite idx sub r eff := by
    unfold State.hostBlockWrite
    rw [if_neg (not_not_intro ho), hp]
    dsimp only
    rw [hr]
  unfold Res.next
  rw [he, State.performWrite_permitted hb hs, if_neg fun hok => hc hok.1]
  rfl

/-! ### SAVE_DONE, CLEAR_SAVED_DONE, IMPORT_CHECK_DONE and RESTORE_DONE (R106, R108, R135) -/

/-- Slot `k` of a verified SAVE is valid, before the command ends. -/
def State.saveVerified (s : State) : State :=
  (s.setTab Tab.store 2 0).validateSlot (s.tab Tab.store 6) (s.tab Tab.store (3 + s.tab Tab.store 6)) (s.tab Tab.store 5)

theorem State.slotGen_saveVerified (s : State) : s.saveVerified.slotGen (s.tab Tab.store 6) = max 1 (s.tab Tab.store 5) :=
  State.slotGen_validateSlot _ _ _ _

theorem execSaveDone_verified {s : State} (h : s.saving = true) :
    exec (.saveDone true) s = .next ((s.saveVerified.storeDone Code.ok 0).setCause 5 false).deliverDue := by
  show execSaveDone true s = _
  unfold execSaveDone
  rw [if_neg (by simp [h]), if_pos rfl]
  rfl

theorem execSaveDone_unverified {s : State} (h : s.saving = true) :
    exec (.saveDone false) s = .next (s.storeDone Code.internal 0).deliverDue := by
  show execSaveDone false s = _
  unfold execSaveDone
  rw [if_neg (by simp [h]), if_neg (by decide)]
  rfl

theorem State.ended_state (u : State) (code detail : Nat) :
    (u.storeDone code detail).deliverDue.reg Reg.CONFIG_STORE.STATE = 0 :=
  (State.reg_deliverDue _ (by decide)).trans (u.state_storeDone code detail)

theorem State.ended_result (u : State) (code detail : Nat) :
    (u.storeDone code detail).deliverDue.reg Reg.CONFIG_STORE.LAST_RESULT = code :=
  (State.reg_deliverDue _ (by decide)).trans (u.result_storeDone code detail)

theorem Only.storeEnded (u : State) (code detail : Nat) :
    Only [Reg.CONFIG_STORE.STATE, Reg.CONFIG_STORE.LAST_RESULT, Reg.CONFIG_STORE.LAST_DETAIL] [] u
      (u.storeDone code detail).deliverDue :=
  (Only.storeDone u code detail (by simp) (by simp) (by simp)).trans (Only.deliverDue _)

theorem State.ended_slotGen (u : State) (code detail k : Nat) : (u.storeDone code detail).deliverDue.slotGen k = u.slotGen k :=
  (Only.storeEnded u code detail).slotGen k (by decide) (by decide)

theorem State.ended_tab (u : State) (code detail : Nat) {i : Nat} (hi : i < 2 ^ 40) :
    (u.storeDone code detail).deliverDue.tab Tab.store i = u.tab Tab.store i :=
  (Only.storeEnded u code detail).tabs _ _ hi (by simp) (by decide)

/-- A degraded cause that ends with the command leaves the store as it is. -/
theorem State.reg_setCause_deliverDue (u : State) (i : Nat) (b : Bool) {k : Nat} (hq : quietReg k = true) (h : k ∉ modeRegs) :
    (u.setCause i b).deliverDue.reg k = u.reg k :=
  (State.reg_deliverDue _ hq).trans (State.reg_setCause _ _ _ _ hq h)

theorem execClearSavedDone_running {s : State} (h : s.storeState = 3) :
    exec .clearSavedDone s = .next (((s.invalidateSlot 0).invalidateSlot 1).storeDone Code.ok 0).deliverDue := if_pos h

/-- With both slots invalid no image is saved, which SAVED_GEN says. -/
theorem State.bothInvalid (s : State) :
    ((s.invalidateSlot 0).invalidateSlot 1).slotGen 0 = 0 ∧ ((s.invalidateSlot 0).invalidateSlot 1).slotGen 1 = 0
      ∧ ((s.invalidateSlot 0).invalidateSlot 1).reg Reg.CONFIG_STORE.SAVED_GEN = 0 := by
  have h0 : ((s.invalidateSlot 0).invalidateSlot 1).slotGen 0 = 0 :=
    (State.slotGen_invalidateSlot_other _ (by decide)).trans (State.slotGen_invalidateSlot s 0)
  have h1 := State.slotGen_invalidateSlot (s.invalidateSlot 0) 1
  refine ⟨h0, h1, ?_⟩
  unfold State.invalidateSlot at h0 h1 ⊢
  rw [State.slotGen_refreshNewest] at h0 h1
  exact State.savedGen_refreshNewest (State.newestSlot_none h0 h1)

theorem execImportCheckDone_checking {s : State} (h : s.storeState = 5) :
    exec .importCheckDone s = .next s.importChecked.deliverDue := if_pos h

theorem execRestoreDone_restoring {s : State} (h : s.storeState = 2) :
    exec .restoreDone s = .next s.restored.deliverDue := if_pos h

/-- An accepted image makes its slot valid and the newest. -/
def State.importAccepted (s : State) (k len gen : Nat) : State :=
  (((s.setTab Tab.store 0 0).validateSlot k len gen).setTab Tab.store 2 (k + 1)).refreshNewest

/-- A refused one leaves its slot invalid; SIGNATURE_FAIL is an event of security too. -/
def State.importRefused (s : State) (k c : Nat) : State :=
  ((s.setTab Tab.store 0 0).when (c == Code.signatureFail) (·.event Reg.SECURITY_EVENTS.FLAGS 7 0x1C87)).invalidateSlot k

theorem State.importChecked_eq (s : State) :
    let k := s.tab Tab.store 6
    let b := s.dump (configSlot k) (s.tab Tab.store 0)
    let c := s.importVerdict b
    s.importChecked = (if c = Code.ok then s.importAccepted k b.length (Img.gen b) else s.importRefused k c).storeDone c 0 := by
  dsimp only
  unfold State.importChecked
  dsimp only
  split
  · next h => rw [h]; rfl
  · rfl

theorem State.tab_validateSlot (s : State) {k i : Nat} (len gen : Nat) (h : i ≠ 3 + k) :
    (s.validateSlot k len gen).tab Tab.store i = s.tab Tab.store i := by
  unfold State.validateSlot
  rw [State.tab_refreshNewest, State.tab_setTab_element, if_neg h, State.tab_setReg]

theorem State.tab_invalidateSlot (s : State) (k : Nat) {i : Nat} (h : i ≠ 2) :
    (s.invalidateSlot k).tab Tab.store i = s.tab Tab.store i := by
  unfold State.invalidateSlot State.when
  rw [State.tab_refreshNewest]
  split
  · rw [State.tab_setTab_element, if_neg h, State.tab_setReg]
  · exact State.tab_setReg _ _ _ _ _

theorem State.slotGen_importAccepted (s : State) (k len gen : Nat) : (s.importAccepted k len gen).slotGen k = max 1 gen := by
  unfold State.importAccepted
  rw [State.slotGen_refreshNewest, State.slotGen_setTab, State.slotGen_validateSlot]

theorem State.newest_importAccepted (s : State) (k len gen : Nat) : (s.importAccepted k len gen).tab Tab.store 2 = k + 1 := by
  unfold State.importAccepted
  rw [State.tab_refreshNewest, State.tab_setTab_same]

theorem State.offset_importAccepted (s : State) (k len gen : Nat) : (s.importAccepted k len gen).tab Tab.store 0 = 0 := by
  unfold State.importAccepted
  rw [State.tab_refreshNewest, State.tab_setTab_element, if_neg (by decide), State.tab_validateSlot _ _ _ (by omega),
    State.tab_setTab_same]

theorem State.slotGen_importRefused (s : State) (k c : Nat) : (s.importRefused k c).slotGen k = 0 :=
  State.slotGen_invalidateSlot _ k

theorem State.offset_importRefused (s : State) (k c : Nat) : (s.importRefused k c).tab Tab.store 0 = 0 := by
  have hev : Only [Reg.SECURITY_EVENTS.FLAGS, Reg.SECURITY_EVENTS.FLAGS + 1 + 7] [] (s.setTab Tab.store 0 0)
      ((s.setTab Tab.store 0 0).when (c == Code.signatureFail) (·.event Reg.SECURITY_EVENTS.FLAGS 7 0x1C87)) :=
    Only.when _ _ _ fun _ => Only.event _ _ _ _ (.inl (by simp)) (.inl (by simp))
  unfold State.importRefused
  rw [State.tab_invalidateSlot _ _ (by decide), hev.tabs _ _ (by decide) (by simp) (by decide), State.tab_setTab_same]

/-- RESTORE ends also where there is no image, and where a part of it is refused. -/
theorem State.state_restored (s : State) : s.restored.deliverDue.reg Reg.CONFIG_STORE.STATE = 0 := by
  unfold State.restored
  split
  · unfold State.when
    split
    · rw [State.reg_setCause_deliverDue _ _ _ (by decide) (by decide), State.reg_drew, State.state_storeDone]
    · rw [State.reg_deliverDue _ (by decide), State.reg_drew, State.state_storeDone]
  · dsimp only
    split
    · rw [State.reg_setCause_deliverDue _ _ _ (by decide) (by decide), State.state_storeDone]
    · exact State.ended_state _ _ _

theorem State.result_restored {s : State} {b : Bytes} (hb : s.newestImage = some b)
    (hok : ((s.setTab Tab.sticky 10 (s.reg Reg.DOVETAIL.ROLE)).applyImage b).bad = none) :
    s.restored.deliverDue.reg Reg.CONFIG_STORE.LAST_RESULT = Code.ok := by
  unfold State.restored
  rw [hb]
  dsimp only
  rw [hok]
  dsimp only
  rw [State.reg_setCause_deliverDue _ _ _ (by decide) (by decide), State.result_storeDone]

end Sys2Proof.Machine
end

section
/-!
SUPPORT. STAGE of a window or target whose STAGE is never written (R112, R223).
-/
namespace Sys2Proof.Machine

/-- A permitted STAGE write where STAGE is read-only is refused: no staging begins. -/
theorem execStage_closed {s : State} {w : SessionNo} {idx off : Nat} {data : Bytes} {o : Obj} (hl : Dict.lookup idx = some o)
    (hw : o.win.isSome = true) (hp : s.permitsBlock w idx 0x09 off data.length = true)
    (hc : stageClosed idx (s.stagingFor w idx).target = true) : exec (.stage w idx off data) s = .next s.deliverDue := by
  have he : stageEffect w idx off data s = Res.fail s Code.range := if_pos (by simp [hc])
  have hne : (stageEffect w idx off data s).code ≠ Code.ok := by rw [he]; exact (by decide : Code.range ≠ Code.ok)
  show execStage w idx off data s = _
  unfold execStage
  rw [hl]
  dsimp only
  rw [if_neg (by simpa using Option.isSome_iff_ne_none.mp hw), State.hostBlockWrite_next_refused hp hne, he]
  rfl

end Sys2Proof.Machine
end

section
/-!
The statements of 04_object_dictionary.md settled.
-/
open Sys2Proof Sys2Proof.Machine

/-- Settles O4: every operation keeps the event counts agreeing with the sequence, which only a class event advances. -/
theorem attentionCountsAgree : Obligations.AttentionCountsAgree :=
  fun s t hs ht => ((step_ev s).out t ht).attn hs

/-- Settles O5: the stores list nothing, and no class event has been counted. -/
theorem invariantsAtReset : Obligations.InvariantsAtReset := by
  unfold Obligations.InvariantsAtReset
  decide

/-- Settles O13: each COMMAND has its effect on the idle store, and an import's block is stored unless the flash is behind. -/
theorem configCommandsStart : Obligations.ConfigCommandsStart := by
  unfold Obligations.ConfigCommandsStart
  refine ⟨?_, ?_, ?_, ?_, ?_, ?_⟩
  · intro s w hp hs
    have hne : s.storeState ≠ 4 := by omega
    obtain ⟨hsave, -⟩ := configCommandEffect_idle hs
    refine ⟨_, State.storeCommand_next hp hsave, State.reg_setReg_deliverDue _ _ (by decide), ?_, ?_⟩
    · exact ((Only.deliverDue (R := []) (T := []) _).slotGen _ (by simp) (by simp)).trans (State.slotGen_saveStart hne)
    · rw [State.discardImport_none hne]
      exact (State.saveStart_onlyMem hne).trans (OnlyMem.of (Only.deliverDue _) _ _)
  · intro s w hp hs
    obtain ⟨-, hrestore, -⟩ := configCommandEffect_idle hs
    exact ⟨_, State.storeCommand_next hp hrestore, State.reg_setReg_deliverDue _ _ (by decide),
      (Only.setReg _ _ _ (.inl (by simp))).trans (Only.deliverDue _)⟩
  · intro s w hp hs
    obtain ⟨-, -, hclear, -⟩ := configCommandEffect_idle hs
    exact ⟨_, State.storeCommand_next hp hclear, State.reg_setReg_deliverDue _ _ (by decide),
      ((Only.setTab _ _ _ _ (by decide) (.inl (by simp))).trans (Only.setReg _ _ _ (.inl (by simp)))).trans (Only.deliverDue _)⟩
  · intro s w hp hs
    obtain ⟨-, -, -, hdefaults⟩ := configCommandEffect_idle hs
    exact ⟨_, State.storeCommand_next hp hdefaults, State.ended_state _ _ _, State.ended_result _ _ _,
      Only.storeEnded _ _ _⟩
  · intro s w hp hs
    refine ⟨_, State.storeCommand_next hp (configCommandEffect_accept hs), ?_, ?_⟩
    · rw [State.reg_deliverDue _ (by decide), State.state_acceptStart]
    · exact (Only.acceptStart s (by simp) (by simp)).trans (Only.deliverDue _)
  · intro s w off data hp hs ho hd
    have heff := importEffect_next hs ho hd
    have hsaved : savedSub 0x0020 0x0D = false := by decide
    by_cases hb : s.flashBehind off = true
    · rw [if_pos hb] at heff
      have h := State.hostBlockWrite_next_refused (eff := importEffect off data) hp
        (by rw [heff]; exact (by decide : Code.busyRetry ≠ Code.ok))
      rw [heff] at h
      have hne : off ≠ 0 := by
        rintro rfl
        simp [State.flashBehind] at hb
      exact ⟨_, h, .inr ⟨hne, Only.deliverDue _⟩⟩
    · rw [if_neg hb] at heff
      have h := State.hostBlockWrite_next (eff := importEffect off data) hp (by rw [heff]; rfl)
      rw [heff, hsaved] at h
      refine ⟨_, h, .inl ⟨State.reg_setReg_deliverDue _ _ (by decide), ?_, fun i hi => ?_, ?_⟩⟩
      · rw [State.tab_deliverDue _ (by decide) (by decide)]
        exact State.offset_importStored _ _ _
      · rw [State.byte_deliverDue]
        exact State.byte_importStored s.drew off data hi
      · exact (State.importStored_onlyMem s.drew off data).trans (OnlyMem.of (Only.deliverDue _) _ _)

/-- Settles O14: the end of each command, from what it leaves of the slots. -/
theorem configCommandsEnd : Obligations.ConfigCommandsEnd := by
  unfold Obligations.ConfigCommandsEnd
  refine ⟨?_, ?_, ?_, ?_⟩
  · intro s hs
    refine ⟨⟨_, execSaveDone_verified hs, ?_, ?_, fun _ => ?_⟩, ⟨_, execSaveDone_unverified hs, State.ended_result _ _ _, Only.storeEnded _ _ _⟩⟩
    · rw [State.reg_setCause_deliverDue _ _ _ (by decide) (by decide), State.state_storeDone]
    · rw [State.reg_setCause_deliverDue _ _ _ (by decide) (by decide), State.result_storeDone]
    · refine (State.reg_setCause_deliverDue _ _ _ (quietReg_slotGenKey _) (slotGenKey_not_mem _ (by decide) (by decide))).trans ?_
      exact (State.slotGen_storeDone _ _ _ _).trans s.slotGen_saveVerified
  · intro s hs
    obtain ⟨h0, h1, hg⟩ := s.bothInvalid
    have e0 := State.ended_slotGen ((s.invalidateSlot 0).invalidateSlot 1) Code.ok 0 0
    have e1 := State.ended_slotGen ((s.invalidateSlot 0).invalidateSlot 1) Code.ok 0 1
    rw [h0] at e0
    rw [h1] at e1
    refine ⟨_, execClearSavedDone_running hs, State.ended_state _ _ _, State.ended_result _ _ _, e0, e1, ?_, ?_⟩
    · exact ((Only.storeEnded _ _ _).regs _ (by decide) (by decide)).trans hg
    · unfold State.newestImage
      rw [State.newestSlot_none e0 e1]
      rfl
  · intro s hs hk
    refine ⟨_, execImportCheckDone_checking hs, ?_⟩
    rw [State.importChecked_eq]
    split
    · next hc =>
      refine ⟨State.ended_state _ _ _, State.ended_result _ _ _, ?_, fun _ => State.newestSlot_accepted hk ?_ ?_, fun h => absurd hc h⟩
      · rw [State.ended_tab _ _ _ (by decide), State.offset_importAccepted]
      · rw [State.ended_slotGen, State.slotGen_importAccepted]
        omega
      · rw [State.ended_tab _ _ _ (by decide), State.newest_importAccepted]
    · next hc =>
      refine ⟨State.ended_state _ _ _, State.ended_result _ _ _, ?_, fun h => absurd h hc, fun _ => ?_⟩
      · rw [State.ended_tab _ _ _ (by decide), State.offset_importRefused]
      · rw [State.ended_slotGen, State.slotGen_importRefused]
  · intro s hs
    exact ⟨_, execRestoreDone_restoring hs, s.state_restored, fun b hb hok => State.result_restored hb hok⟩

/-- Refutes O15: its hypotheses do not say that STAGE of the window is written at all. STAGE of 0x0901 is read-only, every write to it is
answered RANGE and starts nothing (R112), so that no staging stands in the next state. -/
theorem not_windowsStage : ¬ Obligations.WindowsStage := by
  unfold Obligations.WindowsStage
  rintro ⟨-, hstage, -⟩
  obtain ⟨t, g, ht, hg, -⟩ := hstage
    ((((State.reset.setReg (Reg.SESSION.STATE 0) 1).setReg Reg.DEVICE_STATUS.MODE 2).setReg Reg.POWER_STATE.STATE 3).setTab
      Tab.winCount 0x0901 1) 0 0x0901 0 [1, 2, 3, 4] Dict.obj0901 rfl rfl (by decide +kernel) (by decide +kernel) (by decide +kernel)
    (by decide +kernel) (by decide +kernel) (by decide +kernel)
  rw [execStage_closed rfl rfl (by decide +kernel) (by decide +kernel)] at ht
  cases ht
  simp [State.staging?, State.reset] at hg
end

section
/-!
SUPPORT. The presence window: its opening, and what its closing leaves of the registers, of memory and of what is staged (R121, R122,
R127).
-/
namespace Sys2Proof.Machine

/-! ### Frames used by every chapter of presence, seal and keys -/

/-- The same of two states whose stagings are put to one and the same. -/
theorem Only.withStagings {R T : List Nat} {s t : State} (h : Only R T s t) (l : List Staging) :
    Only R T { s with stagings := l } { t with stagings := l } :=
  { h with regs := h.regs, tabs := h.tabs, stagings := rfl }

/-- Where the time and the lock of the time unit are as they were, so is the TIME80 of an event (R98). -/
theorem Only.stamp {R T : List Nat} {s t : State} (h : Only R T s t) (hl : Reg.TIME_UNIT.STATE ∉ R) : t.stamp = s.stamp := by
  unfold State.stamp State.timeLocked State.ptpNs State.islandNs
  rw [h.regs _ hl (by decide), h.clock]

theorem Only.securityEvent {R T : List Nat} (s : State) (i : Nat) (h : Reg.SECURITY_EVENTS.FLAGS ∈ R)
    (hi : Reg.SECURITY_EVENTS.FLAGS + 1 + i ∈ R) : Only R T s (s.securityEvent i) :=
  event _ _ _ _ (.inl h) (.inl hi)

theorem OnlyMem.reg {R T : List Nat} {lo hi : Nat} {s t : State} (h : OnlyMem R T lo hi s t) {k : Nat} (hq : quietReg k = true)
    (hk : k ∉ R) : t.reg k = s.reg k :=
  h.2.regs k hk hq

theorem OnlyMem.when {R T : List Nat} {lo hi : Nat} (s : State) (c : Bool) (f : State → State) (h : OnlyMem R T lo hi s (f s)) :
    OnlyMem R T lo hi s (s.when c f) := by
  unfold State.when
  split
  · exact h
  · exact .of (Only.refl s) _ _

theorem State.byte_zeroBytes (s : State) (lo hi a : Nat) : (s.zeroBytes lo hi).byte a = if lo ≤ a ∧ a < hi then 0 else s.byte a := by
  unfold State.byte State.zeroBytes
  dsimp only
  rw [SMap.get_clearRange]
  split <;> rfl

theorem OnlyMem.zeroBytes {R T : List Nat} {lo hi : Nat} (s : State) {a b : Nat} (h1 : lo ≤ a) (h2 : b ≤ hi) :
    OnlyMem R T lo hi s (s.zeroBytes a b) :=
  ⟨fun k hk => by rw [State.byte_zeroBytes, if_neg (by omega)], Only.refl _⟩

/-! ### The window opens (R121) -/

theorem State.loadRemaining_done (s : State) : s.loadRemaining.reg Reg.PRESENCE.REMAINING_MS = s.reg Reg.PRESENCE.DURATION_S * 1000 :=
  State.reg_setReg_same _ _ _

theorem Only.openPresence {R T : List Nat} (s : State) (h1 : Reg.PRESENCE.WINDOW_OPEN ∈ R) (h2 : Reg.PRESENCE.WINDOW_SEQ ∈ R)
    (h3 : Reg.PRESENCE.REMAINING_MS ∈ R) (h4 : Reg.SECURITY_EVENTS.FLAGS ∈ R) (h5 : Reg.SECURITY_EVENTS.FLAGS + 1 ∈ R)
    (ht : Tab.presence ∈ T) : Only R T s s.openPresence :=
  ((((setReg s _ _ (.inl h1)).trans (bump _ _ _ _ (.inl h2))).trans (setReg _ _ _ (.inl h3))).trans
    (setTab _ _ _ _ (by decide) (.inl ht))).trans (securityEvent _ 0 h4 h5)

/-- Its security event apart, an opening writes three registers. -/
theorem State.reg_openPresence (s : State) {k : Nat} (hq : quietReg k = true) (h1 : k ≠ Reg.SECURITY_EVENTS.FLAGS)
    (h2 : k ≠ Reg.SECURITY_EVENTS.FLAGS + 1) :
    s.openPresence.reg k = ((s.setReg Reg.PRESENCE.WINDOW_OPEN 1).bump Reg.PRESENCE.WINDOW_SEQ 32).loadRemaining.reg k := by
  unfold State.openPresence State.securityEvent
  rw [State.reg_event_other _ _ _ _ _ hq h1 h2, State.reg_setTab]

theorem State.key_openPresence (s : State) : s.openPresence.reg Reg.PRESENCE.KEY_ASSERTED = s.reg Reg.PRESENCE.KEY_ASSERTED := by
  rw [State.reg_openPresence s (by decide) (by decide) (by decide)]
  unfold State.loadRemaining State.bump
  rw [State.reg_setReg_other _ _ (by decide), State.reg_setReg_other _ _ (by decide), State.reg_setReg_other _ _ (by decide)]

theorem State.windowOpen_openPresence (s : State) : s.openPresence.reg Reg.PRESENCE.WINDOW_OPEN = 1 := by
  rw [State.reg_openPresence s (by decide) (by decide) (by decide)]
  unfold State.loadRemaining State.bump
  rw [State.reg_setReg_other _ _ (by decide), State.reg_setReg_other _ _ (by decide), State.reg_setReg_same]

theorem State.windowSeq_openPresence (s : State) :
    s.openPresence.reg Reg.PRESENCE.WINDOW_SEQ = (s.reg Reg.PRESENCE.WINDOW_SEQ + 1) % 2 ^ 32 := by
  rw [State.reg_openPresence s (by decide) (by decide) (by decide)]
  unfold State.loadRemaining State.bump
  rw [State.reg_setReg_other _ _ (by decide), State.reg_setReg_same, State.reg_setReg_other _ _ (by decide)]

theorem State.remaining_openPresence (s : State) :
    s.openPresence.reg Reg.PRESENCE.REMAINING_MS = s.reg Reg.PRESENCE.DURATION_S * 1000 := by
  rw [State.reg_openPresence s (by decide) (by decide) (by decide), State.loadRemaining_done]
  unfold State.bump
  rw [State.reg_setReg_other _ _ (by decide), State.reg_setReg_other _ _ (by decide)]

/-! ### The window closes (R122, R127) -/

/-- The registers of the sequences that lapse with the window: packages being received, and partial imports (R127). -/
abbrev lapseRegs : List Nat := [loaderKey 0 LoaderSub.received, loaderKey 0 LoaderSub.state, loaderKey 1 LoaderSub.received,
  loaderKey 1 LoaderSub.state, Reg.CONFIG_STORE.STATE, Reg.FIRMWARE.STATE]

/-- The registers that a closing of the window writes. -/
abbrev closeRegs : List Nat := [Reg.PRESENCE.WINDOW_OPEN, Reg.PRESENCE.REMAINING_MS, Reg.SECURITY_EVENTS.FLAGS,
  Reg.SECURITY_EVENTS.FLAGS + 2] ++ lapseRegs

/-- A package being received leaves its loader's registers and its own bytes. -/
theorem OnlyMem.discardPackage {R T : List Nat} {lo hi : Nat} (s : State) (l : Nat) (h1 : loaderKey l LoaderSub.received ∈ R)
    (h2 : loaderKey l LoaderSub.state ∈ R) (hlo : lo ≤ packageAddr l) (hhi : packageAddr (l + 1) ≤ hi) :
    OnlyMem R T lo hi s (s.discardPackage l) :=
  (zeroBytes s hlo hhi).trans (.of ((Only.setReg _ _ _ (.inl h1)).trans (Only.setReg _ _ _ (.inl h2))) _ _)

theorem Only.discardImport {R T : List Nat} (s : State) (h : Reg.CONFIG_STORE.STATE ∈ R) (ht : Tab.store ∈ T) :
    Only R T s s.discardImport :=
  when _ _ _ fun _ => (setTab _ _ _ _ (by decide) (.inl ht)).trans (setReg _ _ _ (.inl h))

theorem Only.discardFirmware {R T : List Nat} (s : State) (h : Reg.FIRMWARE.STATE ∈ R) (ht : Tab.store ∈ T) :
    Only R T s s.discardFirmware :=
  when _ _ _ fun _ => (setTab _ _ _ _ (by decide) (.inl ht)).trans (setReg _ _ _ (.inl h))

/-- Every protected staging lapsed, and nothing else changed. -/
def State.lapseStagings (s : State) : State := { s with stagings := s.stagings.map Staging.lapse }

theorem State.reg_lapseStagings (s : State) (k : Nat) : s.lapseStagings.reg k = s.reg k := rfl

/-- What lapses with the window, beside stagings: the bytes of packages, and registers of loaders and stores. -/
theorem State.lapse_onlyMem (s : State) :
    OnlyMem lapseRegs [Tab.store] (packageAddr 0) (packageAddr 2) s.lapseStagings s.lapse := by
  have hpackage : ∀ (u : State) (l : Nat), l = 0 ∨ l = 1 → OnlyMem lapseRegs [Tab.store] (packageAddr 0) (packageAddr 2) u
      (u.when (u.loaderState l == 1) (·.discardPackage l)) := by
    rintro u l (rfl | rfl)
    · exact .when _ _ _ (.discardPackage _ _ (by decide) (by decide) (by decide) (by decide))
    · exact .when _ _ _ (.discardPackage _ _ (by decide) (by decide) (by decide) (by decide))
  exact ((hpackage _ 0 (.inl rfl)).trans (hpackage _ 1 (.inr rfl))).trans
    (.of ((Only.discardImport _ (by decide) (by decide)).trans (Only.discardFirmware _ (by decide) (by decide))) _ _)

theorem State.closePresence_closed {s : State} (h : s.reg Reg.PRESENCE.WINDOW_OPEN = 0) : s.closePresence = s := if_pos h

theorem State.closePresence_open {s : State} (h : s.reg Reg.PRESENCE.WINDOW_OPEN ≠ 0) : s.closePresence
    = ((s.setReg Reg.PRESENCE.WINDOW_OPEN 0).setReg Reg.PRESENCE.REMAINING_MS 0).lapse.securityEvent 1 := if_neg h

/-- The closing of an open window: its registers, its event and what lapses. -/
theorem State.closePresence_onlyMem {s : State} (h : s.reg Reg.PRESENCE.WINDOW_OPEN ≠ 0) :
    OnlyMem closeRegs [Tab.store] (packageAddr 0) (packageAddr 2) s.lapseStagings s.closePresence := by
  rw [State.closePresence_open h]
  obtain ⟨hbytes, hlapse⟩ := State.lapse_onlyMem ((s.setReg Reg.PRESENCE.WINDOW_OPEN 0).setReg Reg.PRESENCE.REMAINING_MS 0)
  have hopen : Only closeRegs [Tab.store] s ((s.setReg Reg.PRESENCE.WINDOW_OPEN 0).setReg Reg.PRESENCE.REMAINING_MS 0) :=
    (Only.setReg _ _ _ (.inl (by decide))).trans (Only.setReg _ _ _ (.inl (by decide)))
  have hevent : Only closeRegs [Tab.store] _ _ := Only.securityEvent ((s.setReg Reg.PRESENCE.WINDOW_OPEN 0).setReg
    Reg.PRESENCE.REMAINING_MS 0).lapse 1 (by decide) (by decide)
  refine (OnlyMem.of (hopen.withStagings (s.stagings.map Staging.lapse)) _ _).trans (.trans ⟨hbytes, ?_⟩ (.of hevent _ _))
  exact hlapse.mono (fun _ => List.mem_append_right _) fun _ => id

/-- A register that a closing does not write, of a window open or closed. -/
theorem State.reg_closePresence (s : State) {k : Nat} (hq : quietReg k = true) (hk : k ∉ closeRegs) :
    s.closePresence.reg k = s.reg k := by
  by_cases h : s.reg Reg.PRESENCE.WINDOW_OPEN = 0
  · rw [State.closePresence_closed h]
  · rw [(State.closePresence_onlyMem h).reg hq hk, State.reg_lapseStagings]

/-- A closing writes the window's own registers first; what lapses and the event leave them. -/
theorem State.reg_closePresence_window {s : State} {k : Nat} (h : s.reg Reg.PRESENCE.WINDOW_OPEN ≠ 0) (hq : quietReg k = true)
    (hl : k ∉ lapseRegs) (h1 : k ≠ Reg.SECURITY_EVENTS.FLAGS) (h2 : k ≠ Reg.SECURITY_EVENTS.FLAGS + 2) :
    s.closePresence.reg k = ((s.setReg Reg.PRESENCE.WINDOW_OPEN 0).setReg Reg.PRESENCE.REMAINING_MS 0).reg k := by
  rw [State.closePresence_open h]
  unfold State.securityEvent
  rw [State.reg_event_other _ _ _ _ _ hq h1 h2, (State.lapse_onlyMem _).reg hq hl, State.reg_lapseStagings]

theorem State.windowOpen_closePresence (s : State) : s.closePresence.reg Reg.PRESENCE.WINDOW_OPEN = 0 := by
  by_cases h : s.reg Reg.PRESENCE.WINDOW_OPEN = 0
  · rw [State.closePresence_closed h, h]
  · rw [State.reg_closePresence_window h (by decide) (by decide) (by decide) (by decide), State.reg_setReg_other _ _ (by decide),
      State.reg_setReg_same]

/-- A command that closes an open window: nothing remains of it as the command ends, and protected stagings have lapsed. -/
theorem State.closePresence_done {s : State} (h : s.reg Reg.PRESENCE.WINDOW_OPEN ≠ 0) :
    s.closePresence.deliverDue.reg Reg.PRESENCE.KEY_ASSERTED = s.reg Reg.PRESENCE.KEY_ASSERTED
      ∧ s.closePresence.deliverDue.presenceClosedFrom s := by
  refine ⟨?_, ?_, ?_, ?_⟩
  · rw [State.reg_deliverDue _ (by decide), State.reg_closePresence _ (by decide) (by decide)]
  · rw [State.reg_deliverDue _ (by decide), State.windowOpen_closePresence]
  · rw [State.reg_deliverDue _ (by decide), State.reg_closePresence_window h (by decide) (by decide) (by decide) (by decide),
      State.reg_setReg_same]
  · exact (State.deliverDue_stagings _).trans (State.closePresence_onlyMem h).2.stagings

/-! ### The commands of the window (R121 to R123) -/

theorem execKeyAsserted_closed {s : State} (hk : s.reg Reg.PRESENCE.KEY_ASSERTED = 0) (hw : s.reg Reg.PRESENCE.WINDOW_OPEN = 0) :
    exec .keyAsserted s = .next (s.setReg Reg.PRESENCE.KEY_ASSERTED 1).openPresence.deliverDue := by
  show execKeyAsserted s = _
  unfold execKeyAsserted
  rw [if_neg (by omega)]
  dsimp only
  rw [if_pos (by rw [State.reg_setReg_other _ _ (by decide), hw])]
  rfl

theorem execKeyAsserted_open {s : State} (hk : s.reg Reg.PRESENCE.KEY_ASSERTED = 0) (hw : s.reg Reg.PRESENCE.WINDOW_OPEN ≠ 0) :
    exec .keyAsserted s = .next ((s.setReg Reg.PRESENCE.KEY_ASSERTED 1).when (s.reg Reg.PRESENCE.KEY_MODE == 1)
      (·.loadRemaining)).deliverDue := by
  show execKeyAsserted s = _
  unfold execKeyAsserted
  rw [if_neg (by omega)]
  dsimp only
  rw [if_neg (by rwa [State.reg_setReg_other _ _ (by decide)]), State.reg_setReg_other _ _ (by decide)]
  rfl

theorem execKeyReleased_asserted {s : State} (hk : s.reg Reg.PRESENCE.KEY_ASSERTED = 1) :
    exec .keyReleased s = .next ((s.setReg Reg.PRESENCE.KEY_ASSERTED 0).when (s.reg Reg.PRESENCE.KEY_MODE == 0)
      (·.closePresence)).deliverDue := by
  show execKeyReleased s = _
  unfold execKeyReleased
  rw [if_neg (by omega)]
  dsimp only
  rw [State.reg_setReg_other _ _ (by decide)]
  rfl

theorem execPresenceWindowExpiry_last {s : State} (h : s.reg Reg.PRESENCE.REMAINING_MS ≤ 1) :
    exec .presenceWindowExpiry s = .next s.closePresence.deliverDue := if_pos h

theorem execPresenceClose_permitted {s : State} {w : SessionNo} (h : s.permits w 0x0200 0x08 1 = true) :
    exec (.presenceClose w) s = .next s.closePresence.deliverDue := by
  have hsaved : savedSub 0x0200 0x08 = false := by decide
  have hn := State.hostWrite_next (eff := presenceCloseEffect 1) h rfl
  rw [hsaved] at hn
  exact hn

end Sys2Proof.Machine
end

section
/-!
SUPPORT. Key slots (R137).
-/
namespace Sys2Proof.Machine

theorem quietReg_keySlot (k : Fin 4) {j : Nat} (hj : j < 256) : quietReg ((0x0220 + k.val) * 256 + j) = true := by
  rw [quietReg_iff]
  omega

theorem keySlot_ne (k i j : Nat) (h : i ≠ j) : (0x0220 + k) * 256 + i ≠ (0x0220 + k) * 256 + j := by omega

/-- No sub-index of a key slot that a host writes is part of the saved configuration. -/
theorem savedSub_keySlot (k : Fin 4) : savedSub (0x0220 + k) 0x03 = false ∧ savedSub (0x0220 + k) 0x05 = false := by
  revert k
  decide

/-- Slot `k` enrolled with a key. -/
def State.enrolKey (s : State) (k key : Nat) : State :=
  (((s.setReg (Reg.KEY_SLOT.PUBLIC k) key).setReg (Reg.KEY_SLOT.STATE k) 1).setReg (Reg.KEY_SLOT.KEY_DIGEST k)
    (sha384 (toBE 96 key))).setReg (Reg.KEY_SLOT.ENROLLED_AT k) s.stamp

theorem Only.enrolKey (s : State) (k key : Nat) : Only [Reg.KEY_SLOT.STATE k, Reg.KEY_SLOT.PUBLIC k, Reg.KEY_SLOT.KEY_DIGEST k,
    Reg.KEY_SLOT.ENROLLED_AT k] [] s (s.enrolKey k key) :=
  (((setReg s _ _ (.inl (by simp))).trans (setReg _ _ _ (.inl (by simp)))).trans (setReg _ _ _ (.inl (by simp)))).trans
    (setReg _ _ _ (.inl (by simp)))

theorem Only.emptyKey (s : State) (k : Nat) : Only [Reg.KEY_SLOT.STATE k, Reg.KEY_SLOT.PUBLIC k, Reg.KEY_SLOT.KEY_DIGEST k,
    Reg.KEY_SLOT.ENROLLED_AT k] [] s (s.emptyKey k) :=
  forAll _ _ _ fun _ _ ha => resetReg _ _ (.inl ha)

/-- The registers of a slot after its enrolment. -/
theorem State.reg_enrolKey (s : State) (k key : Nat) :
    (s.enrolKey k key).reg (Reg.KEY_SLOT.STATE k) = 1 ∧ (s.enrolKey k key).reg (Reg.KEY_SLOT.PUBLIC k) = key
      ∧ (s.enrolKey k key).reg (Reg.KEY_SLOT.KEY_DIGEST k) = sha384 (toBE 96 key)
      ∧ (s.enrolKey k key).reg (Reg.KEY_SLOT.ENROLLED_AT k) = s.stamp := by
  unfold State.enrolKey
  refine ⟨?_, ?_, ?_, State.reg_setReg_same _ _ _⟩
  · rw [State.reg_setReg_other _ _ (keySlot_ne k _ _ (by decide)), State.reg_setReg_other _ _ (keySlot_ne k _ _ (by decide)),
      State.reg_setReg_same]
  · rw [State.reg_setReg_other _ _ (keySlot_ne k _ _ (by decide)), State.reg_setReg_other _ _ (keySlot_ne k _ _ (by decide)),
      State.reg_setReg_other _ _ (keySlot_ne k _ _ (by decide)), State.reg_setReg_same]
  · rw [State.reg_setReg_other _ _ (keySlot_ne k _ _ (by decide)), State.reg_setReg_same]

theorem State.reg_emptyKey (s : State) (k : Nat) {j : Nat} (hj : j ∈ [Reg.KEY_SLOT.STATE k, Reg.KEY_SLOT.PUBLIC k,
    Reg.KEY_SLOT.KEY_DIGEST k, Reg.KEY_SLOT.ENROLLED_AT k]) : (s.emptyKey k).reg j = Dict.dflt j :=
  State.reg_forAll_resetReg _ (fun i => i) s hj

/-- A point of the curve enrols an empty slot: the stamp is the same before and after the key is written. -/
theorem publicEffect_enrols {s : State} {k : Fin 4} {key : Nat} (he : s.keyEnrolled k = false)
    (hc : P384.onCurve (key / 2 ^ 384) (key % 2 ^ 384) = true) : publicEffect k key s = Res.done (s.enrolKey k key) := by
  have hstamp : (((s.setReg (Reg.KEY_SLOT.PUBLIC k) key).setReg (Reg.KEY_SLOT.STATE k) 1).setReg (Reg.KEY_SLOT.KEY_DIGEST k)
      (sha384 (toBE 96 key))).stamp = s.stamp :=
    Only.stamp (R := [Reg.KEY_SLOT.STATE k, Reg.KEY_SLOT.PUBLIC k, Reg.KEY_SLOT.KEY_DIGEST k]) (T := [])
      (((Only.setReg s _ _ (.inl (by simp))).trans (Only.setReg _ _ _ (.inl (by simp)))).trans (Only.setReg _ _ _ (.inl (by simp))))
      (by clear he; revert k; decide)
  unfold publicEffect
  rw [he, hc, if_neg (by decide), if_neg (by decide)]
  dsimp only
  rw [hstamp]
  rfl

theorem revokeEffect_empties {s : State} {k : Nat} (h : s.reg Reg.LIFECYCLE.STATE = 1 → s.keyEnrolled (otherKey k) = true) :
    revokeEffect k 1 s = Res.done (s.emptyKey k) := by
  unfold revokeEffect
  rw [if_neg (by decide), if_neg]
  rintro ⟨hl, hf⟩
  rw [h hl] at hf
  cases hf

theorem execPublicKey_enrols {s : State} {w : SessionNo} {k : Fin 4} {key : Nat} (hp : s.permits w (0x0220 + k) 0x03 key = true)
    (he : s.keyEnrolled k = false) (hc : P384.onCurve (key / 2 ^ 384) (key % 2 ^ 384) = true) :
    exec (.publicKey w k key) s = .next (s.enrolKey k key).deliverDue := by
  have heff := publicEffect_enrols he hc
  have hn := State.hostWrite_next (eff := publicEffect k key) hp (by rw [heff]; rfl)
  rw [heff, (savedSub_keySlot k).1] at hn
  exact hn

theorem execRevoke_empties {s : State} {w : SessionNo} {k : Fin 4} (hp : s.permits w (0x0220 + k) 0x05 1 = true)
    (h : s.reg Reg.LIFECYCLE.STATE = 1 → s.keyEnrolled (otherKey k) = true) :
    exec (.revoke w k) s = .next (s.emptyKey k).deliverDue := by
  have heff := revokeEffect_empties h
  have hn := State.hostWrite_next (eff := revokeEffect k 1) hp (by rw [heff]; rfl)
  rw [heff, (savedSub_keySlot k).2] at hn
  exact hn

end Sys2Proof.Machine
end

section
/-!
SUPPORT. The seal loop and the wipe of the sealed bank (R129 to R134, R471).
-/
namespace Sys2Proof.Machine

theorem Only.setSeal {R T : List Nat} (s : State) {k : Nat} (v : Nat) (hk : k < 2 ^ 40) (ht : Tab.presence ∈ T) :
    Only R T s (s.setSeal k v) :=
  setTab _ _ _ _ hk (.inl ht)

/-! ### Samples (R129, R130) -/

/-- The first mismatched sample of a pair, and the opening that it makes due, are in the seal's own table. -/
theorem Only.pairMismatch (s : State) : Only [] [Tab.presence] s s.pairMismatch := by
  unfold State.pairMismatch
  refine (((setSeal s _ (by decide) (by simp)).trans ((setSeal _ _ (by decide) (by simp)).trans (setSeal _ _ (by decide) (by simp)))).trans
    (when _ _ _ fun _ => setSeal _ _ (by decide) (by simp))).trans (ite (fun _ => ?_) fun _ => refl _)
  exact (setSeal _ _ (by decide) (by simp)).trans (setSeal _ _ (by decide) (by simp))

/-- A complete pair, counted, and the LFSR advanced. -/
def State.pairCounted (s : State) : State :=
  let u := s.when (s.seal Seal.pairBad == 0) (fun s => (s.setSeal Seal.bad 0).setSeal Seal.good (s.seal Seal.good + 1))
  (u.setSeal Seal.pairBad 0).setSeal Seal.lfsr (lfsrNext (u.seal Seal.lfsr))

/-- What a counted pair makes due: the end of the start's pairs, or a closing. -/
def State.pairJudged (s : State) : State :=
  if s.seal Seal.start ≠ 0 then
    let u := s.setSeal Seal.start (s.seal Seal.start - 1)
    u.when (u.seal Seal.start == 0) (·.setSeal Seal.due (if u.seal Seal.startBad = 0 then 2 else 1))
  else s.when (s.reg Reg.SEAL.INTACT == 0 && s.seal Seal.due == 0 && 2000 ≤ s.seal Seal.good) (·.setSeal Seal.due 2)

theorem State.pairDone_eq (s : State) : s.pairDone = s.pairCounted.pairJudged := rfl

/-- A complete pair, and what it makes due, are in the seal's own table. -/
theorem Only.pairDone (s : State) : Only [] [Tab.presence] s s.pairDone := by
  rw [State.pairDone_eq]
  refine trans (t := s.pairCounted) ?_ (ite (fun _ => ?_) fun _ => ?_)
  · exact (when _ _ _ fun _ => (setSeal _ _ (by decide) (by simp)).trans (setSeal _ _ (by decide) (by simp))).trans
      ((setSeal _ _ (by decide) (by simp)).trans (setSeal _ _ (by decide) (by simp)))
  · exact (setSeal _ _ (by decide) (by simp)).trans (when _ _ _ fun _ => setSeal _ _ (by decide) (by simp))
  · exact when _ _ _ fun _ => setSeal _ _ (by decide) (by simp)

/-- A sample whose level is recorded and whose mismatch is counted. -/
def State.sampleCounted (s : State) (level mismatch : Bool) : State :=
  (s.setSeal Seal.levels ((s.seal Seal.levels * 2 + ofBool level) % 16)).when mismatch (·.bump Reg.SEAL.MISMATCH_SAMPLES 32)

/-- Beyond the count, a sample changes the seal's own table alone. -/
theorem execSealSample_counted (s : State) (level : Bool) : ∃ t, exec (.sealSample level) s = .next t
    ∧ Only [] [Tab.presence] (s.sampleCounted level (level != (bit (s.seal Seal.lfsr) 30 != (s.seal Seal.second == 1)))) t := by
  have hpair : ∀ (u : State) (c : Prop) [Decidable c], Only [] [Tab.presence] u (if c then u.pairMismatch else u) := fun u _ _ =>
    .ite (fun _ => Only.pairMismatch u) fun _ => Only.refl u
  have hsecond : ∀ (u : State) (c : Prop) [Decidable c],
      Only [] [Tab.presence] u (if c then (u.setSeal Seal.second 0).pairDone else u.setSeal Seal.second 1) := fun u _ _ =>
    .ite (fun _ => (Only.setSeal _ _ (by decide) (by simp)).trans (Only.pairDone _)) fun _ => Only.setSeal _ _ (by decide) (by simp)
  exact ⟨_, rfl, ((hpair _ _).trans (hsecond _ _)).trans (Only.deliverDue _)⟩

theorem Only.sampleCounted (s : State) (level mismatch : Bool) :
    Only [Reg.SEAL.MISMATCH_SAMPLES] [Tab.presence] s (s.sampleCounted level mismatch) :=
  (setSeal _ _ (by decide) (by simp)).trans (when _ _ _ fun _ => bump _ _ _ _ (.inl (by simp)))

theorem State.mismatch_sampleCounted (s : State) (level mismatch : Bool) :
    (s.sampleCounted level mismatch).reg Reg.SEAL.MISMATCH_SAMPLES
      = if mismatch then (s.reg Reg.SEAL.MISMATCH_SAMPLES + 1) % 2 ^ 32 else s.reg Reg.SEAL.MISMATCH_SAMPLES := by
  unfold State.sampleCounted State.setSeal
  rw [State.reg_when, State.reg_bump, if_pos rfl, State.reg_setTab]

/-! ### An opening (R130, R131) -/

/-- The seal's own part of a declared opening. -/
def State.sealOpened (s : State) : State :=
  let n := if s.seal Seal.second = 1 then 3 else 4
  let u := ((s.setSeal Seal.due 0).setSeal Seal.good 0).setReg Reg.SEAL.INTACT 0
  ((u.setReg Reg.SEAL.LOOP_STATE (loopState (u.seal Seal.levels) n)).setReg Reg.SEAL.LAST_OPEN u.stamp).securityEvent 2

/-- The life cycle's part, with the wipe that TAMPERED asks for. -/
def State.tampered (s : State) : State :=
  let s := s.when (s.reg Reg.LIFECYCLE.STATE == Life.enrolled) (·.setLife Life.tampered)
  let tampered := s.reg Reg.LIFECYCLE.STATE == Life.tampered
  (s.when tampered (·.askWipe false)).when (tampered && s.wipeDeferred && s.reg Reg.SEAL.WIPE_STATE != 2) (·.setReg Reg.SEAL.WIPE_STATE 1)

/-- A declared opening in the order of R131: the seal, the presence window, the life cycle with the wipe. -/
theorem State.declareOpen_eq (s : State) : s.declareOpen = s.sealOpened.closePresence.tampered := rfl

theorem execSealOpened_due {s : State} (h : s.seal Seal.due = 1) :
    exec .sealOpened s = .next s.sealOpened.closePresence.tampered.deliverDue := by
  show execSealOpened s = _
  unfold execSealOpened
  rw [if_pos h, State.declareOpen_eq, State.done_eq]

theorem Only.sealOpened (s : State) : Only [Reg.SEAL.INTACT, Reg.SEAL.LOOP_STATE, Reg.SEAL.LAST_OPEN, Reg.SECURITY_EVENTS.FLAGS,
    Reg.SECURITY_EVENTS.FLAGS + 3] [Tab.presence] s s.sealOpened :=
  ((((setSeal s _ (by decide) (by simp)).trans (setSeal _ _ (by decide) (by simp))).trans (setReg _ _ _ (.inl (by simp)))).trans
    ((setReg _ _ _ (.inl (by simp))).trans (setReg _ _ _ (.inl (by simp))))).trans (securityEvent _ 2 (by simp) (by simp))

theorem State.reg_sealOpened (s : State) : s.sealOpened.reg Reg.SEAL.INTACT = 0 ∧ s.sealOpened.reg Reg.SEAL.LAST_OPEN = s.stamp := by
  unfold State.sealOpened State.securityEvent
  dsimp only
  constructor
  · rw [State.reg_event_other _ _ _ _ _ (by decide) (by decide) (by decide), State.reg_setReg_other _ _ (by decide),
      State.reg_setReg_other _ _ (by decide), State.reg_setReg_same]
  · rw [State.reg_event_other _ _ _ _ _ (by decide) (by decide) (by decide), State.reg_setReg_same]
    exact Only.stamp (R := [Reg.SEAL.INTACT]) (T := [Tab.presence]) (((Only.setSeal s _ (by decide) (by simp)).trans
      (Only.setSeal _ _ (by decide) (by simp))).trans (Only.setReg _ _ _ (.inl (by simp)))) (by decide)

theorem Only.setLife {R T : List Nat} (s : State) (v : Nat) (h1 : Reg.LIFECYCLE.STATE ∈ R) (h2 : Reg.LIFECYCLE.TRANSITIONS ∈ R)
    (h3 : Reg.LIFECYCLE.LAST_TRANSITION ∈ R) (h4 : Reg.SECURITY_EVENTS.FLAGS ∈ R) (h5 : Reg.SECURITY_EVENTS.FLAGS + 7 ∈ R) :
    Only R T s (s.setLife v) :=
  (((setReg s _ _ (.inl h1)).trans (bump _ _ _ _ (.inl h2))).trans (setReg _ _ _ (.inl h3))).trans (securityEvent _ 6 h4 h5)

theorem State.life_setLife (s : State) (v : Nat) : (s.setLife v).reg Reg.LIFECYCLE.STATE = v := by
  unfold State.setLife State.securityEvent State.bump
  rw [State.reg_event_other _ _ _ _ _ (by decide) (by decide) (by decide), State.reg_setReg_other _ _ (by decide),
    State.reg_setReg_other _ _ (by decide), State.reg_setReg_same]

theorem Only.askWipe {R T : List Nat} (s : State) (commanded : Bool) (ht : Tab.presence ∈ T) : Only R T s (s.askWipe commanded) :=
  (setTab s _ _ _ (by decide) (.inl ht)).trans (when _ _ _ fun _ => setTab _ _ _ _ (by decide) (.inl ht))

theorem State.asked_askWipe (s : State) (commanded : Bool) : (s.askWipe commanded).tab Tab.presence 7 = 1 := by
  unfold State.askWipe State.when
  split
  · rw [State.tab_setTab_index _ _ (by decide), State.tab_setTab_same]
  · exact State.tab_setTab_same _ _ _ _

/-- The registers of the life cycle's part of an opening. -/
abbrev tamperRegs : List Nat := [Reg.LIFECYCLE.STATE, Reg.LIFECYCLE.TRANSITIONS, Reg.LIFECYCLE.LAST_TRANSITION,
  Reg.SECURITY_EVENTS.FLAGS, Reg.SECURITY_EVENTS.FLAGS + 7, Reg.SEAL.WIPE_STATE]

theorem Only.tampered (s : State) : Only tamperRegs [Tab.presence] s s.tampered :=
  ((when _ _ _ fun _ => setLife _ _ (by simp) (by simp) (by simp) (by simp) (by simp)).trans
    (when _ _ _ fun _ => askWipe _ _ (by simp))).trans (when _ _ _ fun _ => setReg _ _ _ (.inl (by simp)))

/-- A seal opening leaves ENROLLED at TAMPERED, and every other state as it was. -/
theorem State.life_tampered (s : State) :
    s.tampered.reg Reg.LIFECYCLE.STATE = if s.reg Reg.LIFECYCLE.STATE = 1 then 2 else s.reg Reg.LIFECYCLE.STATE := by
  have hlater : ∀ (u : State) (c d : Bool), ((u.when c (·.askWipe false)).when d (·.setReg Reg.SEAL.WIPE_STATE 1)).reg
      Reg.LIFECYCLE.STATE = u.reg Reg.LIFECYCLE.STATE := fun u c d =>
    Only.regs (R := [Reg.SEAL.WIPE_STATE]) (T := [Tab.presence]) ((Only.when _ _ _ fun _ => Only.askWipe _ _ (by simp)).trans
      (Only.when _ _ _ fun _ => Only.setReg _ _ _ (.inl (by simp)))) _ (by decide) (by decide)
  unfold State.tampered
  rw [hlater, State.reg_when, State.life_setLife]
  simp only [beq_iff_eq]

/-- In TAMPERED, entered now or before, a wipe is asked for. -/
theorem State.asked_tampered {s : State} (h : s.reg Reg.LIFECYCLE.STATE = 1 ∨ s.reg Reg.LIFECYCLE.STATE = 2) :
    s.tampered.tab Tab.presence 7 = 1 := by
  have hlife : ((s.when (s.reg Reg.LIFECYCLE.STATE == Life.enrolled) (·.setLife Life.tampered)).reg Reg.LIFECYCLE.STATE == Life.tampered)
      = true := by
    rw [State.reg_when, State.life_setLife]
    rcases h with h | h
    · simp [h]
    · simp [h]
  have hwait : ∀ (u : State) (c : Bool), (u.when c (·.setReg Reg.SEAL.WIPE_STATE 1)).tab Tab.presence 7 = u.tab Tab.presence 7 :=
    fun u c => Only.tabs (R := [Reg.SEAL.WIPE_STATE]) (T := []) (Only.when _ _ _ fun _ => Only.setReg _ _ _ (.inl (by simp))) _ _
      (by decide) (by simp) (by decide)
  unfold State.tampered
  rw [hwait, hlife, State.when, if_pos rfl]
  exact State.asked_askWipe _ _

/-! ### A closing (R130) -/

theorem execSealClosed_due {s : State} (h : s.seal Seal.due = 2) : exec .sealClosed s = .next s.declareClosed.deliverDue := by
  show execSealClosed s = _
  unfold execSealClosed
  rw [if_pos h]
  rfl

theorem Only.declareClosed (s : State) : Only [Reg.SEAL.INTACT, Reg.SEAL.LOOP_STATE, Reg.SEAL.LAST_CLOSE, Reg.SECURITY_EVENTS.FLAGS,
    Reg.SECURITY_EVENTS.FLAGS + 4] [Tab.presence] s s.declareClosed :=
  ((((setSeal s _ (by decide) (by simp)).trans (setReg _ _ _ (.inl (by simp)))).trans (setReg _ _ _ (.inl (by simp)))).trans
    ((setReg _ _ _ (.inl (by simp))).trans (setSeal _ _ (by decide) (by simp)))).trans (securityEvent _ 3 (by simp) (by simp))

theorem State.reg_declareClosed (s : State) : s.declareClosed.reg Reg.SEAL.INTACT = 1 ∧ s.declareClosed.reg Reg.SEAL.LOOP_STATE = 0
    ∧ s.declareClosed.reg Reg.SEAL.LAST_CLOSE = s.stamp := by
  unfold State.declareClosed State.securityEvent State.setSeal
  dsimp only
  refine ⟨?_, ?_, ?_⟩
  · rw [State.reg_event_other _ _ _ _ _ (by decide) (by decide) (by decide), State.reg_setTab, State.reg_setReg_other _ _ (by decide),
      State.reg_setReg_other _ _ (by decide), State.reg_setReg_same]
  · rw [State.reg_event_other _ _ _ _ _ (by decide) (by decide) (by decide), State.reg_setTab, State.reg_setReg_other _ _ (by decide),
      State.reg_setReg_same]
  · rw [State.reg_event_other _ _ _ _ _ (by decide) (by decide) (by decide), State.reg_setTab, State.reg_setReg_same]
    exact Only.stamp (R := [Reg.SEAL.INTACT, Reg.SEAL.LOOP_STATE]) (T := [Tab.presence]) (((Only.setSeal s 0 (by decide)
      (by simp)).trans (Only.setReg _ _ _ (.inl (by simp)))).trans (Only.setReg _ _ _ (.inl (by simp)))) (by decide)

/-! ### The wipe (R131, R133, R134, R471) -/

theorem execWipe_permitted {s : State} {w : SessionNo} (h : s.permits w 0x9400 0x02 1 = true) :
    exec (.wipe w) s = .next (s.askWipe true).deliverDue := by
  have hsaved : savedSub 0x9400 0x02 = false := by decide
  have hn := State.hostWrite_next (eff := wipeEffect 1) h rfl
  rw [hsaved] at hn
  exact hn

/-- The wipe that was asked for is taken. -/
def State.wipeTaken (s : State) : State := (s.setSeal Seal.asked 0).setSeal Seal.commanded 0

theorem execWipeStart_starts {s : State} (ha : s.seal Seal.asked ≠ 0) (hr : s.reg Reg.SEAL.WIPE_STATE ≠ 2)
    (hd : s.seal Seal.commanded ≠ 0 ∨ s.wipeDeferred = false) :
    exec .wipeStart s = .next ((s.wipeTaken.dropStaging 0x9401).setReg Reg.SEAL.WIPE_STATE 2).deliverDue := by
  have hnot : ¬(s.seal Seal.commanded = 0 ∧ s.wipeDeferred = true) := by
    rintro ⟨hc, hw⟩
    rcases hd with hd | hd
    · exact hd hc
    · rw [hd] at hw
      cases hw
  show execWipeStart s = _
  unfold execWipeStart
  rw [if_neg (not_or.mpr ⟨ha, hr⟩), if_neg hnot]
  rfl

theorem State.staging?_dropStaging (s : State) (idx : Nat) : (s.dropStaging idx).staging? idx = none := by
  unfold State.staging? State.dropStaging
  rw [List.find?_eq_none]
  intro g hg
  simpa using (List.mem_filter.mp hg).2

/-- A staging discarded, and what the wipe's start writes. -/
theorem State.wipeStart_only (s : State) :
    let t := ((s.wipeTaken.dropStaging 0x9401).setReg Reg.SEAL.WIPE_STATE 2).deliverDue
    Only [Reg.SEAL.WIPE_STATE] [Tab.presence] { s with stagings := t.stagings } t := by
  have htaken : Only [Reg.SEAL.WIPE_STATE] [Tab.presence] s s.wipeTaken :=
    (Only.setSeal _ _ (by decide) (by simp)).trans (Only.setSeal _ _ (by decide) (by simp))
  dsimp only
  rw [State.deliverDue_stagings, State.setReg_stagings]
  exact (htaken.withStagings (s.wipeTaken.dropStaging 0x9401).stagings).trans
    ((Only.setReg (s.wipeTaken.dropStaging 0x9401) _ _ (.inl (by simp))).trans (Only.deliverDue _))

/-- The sealed bank written with 0, its policy cleared, and no commit made since. -/
def State.bankZeroed (s : State) : State := ((s.zeroBytes 0 65536).setReg Reg.SEALED_BANK.POLICY 0).setReg Reg.SEALED_BANK.COMMITS 0

theorem State.policy_bankZeroed (s : State) : s.bankZeroed.reg Reg.SEALED_BANK.POLICY = 0 := by
  unfold State.bankZeroed
  rw [State.reg_setReg_other _ _ (by decide), State.reg_setReg_same]

theorem State.byte_bankZeroed (s : State) (a : Nat) : s.bankZeroed.byte a = if a < 65536 then 0 else s.byte a := by
  unfold State.bankZeroed
  rw [State.byte_setReg, State.byte_setReg, State.byte_zeroBytes]
  simp only [Nat.zero_le, true_and]

/-- The wipe has ended with every byte read back as 0. -/
def State.wipeVerified (s : State) : State := ((s.setReg Reg.SEAL.WIPE_STATE 3).bump Reg.SEAL.WIPES 32).securityEvent 4

theorem Only.wipeVerified (s : State) : Only [Reg.SEAL.WIPE_STATE, Reg.SEAL.WIPES, Reg.SECURITY_EVENTS.FLAGS,
    Reg.SECURITY_EVENTS.FLAGS + 5] [] s s.wipeVerified :=
  ((setReg s _ _ (.inl (by simp))).trans (bump _ _ _ _ (.inl (by simp)))).trans (securityEvent _ 4 (by simp) (by simp))

theorem State.wipeState_wipeVerified (s : State) : s.wipeVerified.reg Reg.SEAL.WIPE_STATE = 3 := by
  unfold State.wipeVerified State.securityEvent State.bump
  rw [State.reg_event_other _ _ _ _ _ (by decide) (by decide) (by decide), State.reg_setReg_other _ _ (by decide),
    State.reg_setReg_same]

/-- Bytes that failed are in memory only. -/
theorem State.reg_forAll_failedByte (l : List Nat) (s : State) (k : Nat) :
    (s.forAll l (fun s a => (s.setByte a (s.freeBelow 255 + 1)).drew)).reg k = s.reg k := by
  induction l generalizing s with
  | nil => rfl
  | cons a l ih => exact (ih _).trans ((State.reg_drew _ _).trans (State.reg_setByte _ _ _ _))

/-- The fault log and the degraded cause apart, a failed wipe writes WIPE_STATE, the bank's STATE and the event. -/
theorem State.reg_wipeFailed (s : State) (bad : List Nat) {k : Nat} (hq : quietReg k = true) (hm : k ∉ modeRegs)
    (hl : k ∉ [Reg.FAULT_LOG.LOG_HEAD, Reg.FAULT_LOG.PERSISTED_HEAD, Reg.SECURITY_EVENTS.FLAGS, Reg.SECURITY_EVENTS.FLAGS + 6]) :
    (s.wipeFailed bad).reg k = if k = Reg.SEALED_BANK.STATE then 2 else if k = Reg.SEAL.WIPE_STATE then 4 else s.reg k := by
  obtain ⟨h1, h2, h3, h4⟩ : k ≠ Reg.FAULT_LOG.LOG_HEAD ∧ k ≠ Reg.FAULT_LOG.PERSISTED_HEAD ∧ k ≠ Reg.SECURITY_EVENTS.FLAGS
      ∧ k ≠ Reg.SECURITY_EVENTS.FLAGS + 6 := by
    simpa only [List.mem_cons, List.not_mem_nil, or_false, not_or] using hl
  unfold State.wipeFailed State.securityEvent
  rw [State.reg_setCause _ _ _ _ hq hm, State.reg_logFault _ _ _ _ _ _ _ _ hq h1 h2, State.reg_event_other _ _ _ _ _ hq h3 h4,
    State.reg_setReg, State.reg_setReg, State.reg_forAll_failedByte]

theorem execWipeDone_verified {s : State} {bad : List Nat} (h : s.reg Reg.SEAL.WIPE_STATE = 2) (hb : bad.filter (· < 65536) = []) :
    exec (.wipeDone bad) s = .next s.bankZeroed.wipeVerified.deliverDue := by
  show execWipeDone bad s = _
  unfold execWipeDone
  rw [if_neg (not_not_intro h), hb]
  rfl

theorem execWipeDone_failed {s : State} {bad : List Nat} (h : s.reg Reg.SEAL.WIPE_STATE = 2) (hb : bad.filter (· < 65536) ≠ []) :
    exec (.wipeDone bad) s = .next (s.bankZeroed.wipeFailed (bad.filter (· < 65536))).deliverDue := by
  show execWipeDone bad s = _
  unfold execWipeDone
  rw [if_neg (not_not_intro h)]
  dsimp only
  split
  · next he => exact absurd he hb
  · rfl

end Sys2Proof.Machine
end

section
/-!
The statements of 05_presence_lifecycle.md settled.
-/
open Sys2Proof Sys2Proof.Machine

/-- Settles O16: each command opens the window, reloads it, leaves it, or ends in the one closing of R122 and R127. -/
theorem presenceWindowMoves : Obligations.PresenceWindowMoves := by
  unfold Obligations.PresenceWindowMoves
  refine ⟨fun s hk hw => ?_, fun s hk hw => ?_, fun s hk => ⟨fun hm => ?_, fun hm hw => ?_⟩,
    fun s hw => ⟨fun hr => ?_, fun w hp => ?_⟩⟩
  · refine ⟨_, execKeyAsserted_closed hk hw, ?_, ?_, ?_, ?_, ?_⟩
    · rw [State.reg_deliverDue _ (by decide), State.key_openPresence, State.reg_setReg_same]
    · rw [State.reg_deliverDue _ (by decide), State.windowOpen_openPresence]
    · rw [State.reg_deliverDue _ (by decide), State.windowSeq_openPresence, State.reg_setReg_other _ _ (by decide)]
    · rw [State.reg_deliverDue _ (by decide), State.remaining_openPresence, State.reg_setReg_other _ _ (by decide)]
    · exact ((Only.setReg _ _ _ (.inl (by simp))).trans (Only.openPresence _ (by simp) (by simp) (by simp) (by simp) (by simp)
        (by simp))).trans (Only.deliverDue _)
  · refine ⟨_, execKeyAsserted_open hk (by rw [hw]; decide), ?_, ?_, ?_⟩
    · rw [State.reg_deliverDue _ (by decide), State.reg_when, State.loadRemaining, State.reg_setReg_other _ _ (by decide),
        State.reg_setReg_same, ite_self]
    · rw [State.reg_deliverDue _ (by decide), State.reg_when, State.loadRemaining_done, State.reg_setReg_other _ _ (by decide),
        State.reg_setReg_other _ _ (by decide)]
      simp only [beq_iff_eq]
    · exact ((Only.setReg _ _ _ (.inl (by simp))).trans (Only.when _ _ _ fun _ => Only.setReg _ _ _ (.inl (by simp)))).trans
        (Only.deliverDue _)
  · have he := execKeyReleased_asserted hk
    rw [beq_false_of_ne hm] at he
    exact ⟨_, he, State.reg_setReg_deliverDue _ _ (by decide), (Only.setReg _ _ _ (.inl (by simp))).trans (Only.deliverDue _)⟩
  · have he := execKeyReleased_asserted hk
    rw [hm] at he
    obtain ⟨hkey, hclosed⟩ := State.closePresence_done (s := s.setReg Reg.PRESENCE.KEY_ASSERTED 0)
      (by rw [State.reg_setReg_other _ _ (by decide), hw]; decide)
    exact ⟨_, he, hkey.trans (State.reg_setReg_same _ _ _), hclosed⟩
  · exact ⟨_, execPresenceWindowExpiry_last hr, State.closePresence_done (by rw [hw]; decide)⟩
  · exact ⟨_, execPresenceClose_permitted hp, State.closePresence_done (by rw [hw]; decide)⟩

/-- Settles O18: each write writes the slot's four registers and nothing else. -/
theorem keySlotsChange : Obligations.KeySlotsChange := by
  unfold Obligations.KeySlotsChange
  refine ⟨fun s w k key hp he hc => ?_, fun s w k hp hl => ?_⟩
  · obtain ⟨hstate, hpublic, hdigest, hstamp⟩ := s.reg_enrolKey k key
    refine ⟨_, execPublicKey_enrols hp he hc, ?_, ?_, ?_, ?_, (Only.enrolKey s k key).trans (Only.deliverDue _)⟩
    · exact (State.reg_deliverDue _ (quietReg_keySlot k (by decide))).trans hstate
    · exact (State.reg_deliverDue _ (quietReg_keySlot k (by decide))).trans hpublic
    · exact (State.reg_deliverDue _ (quietReg_keySlot k (by decide))).trans hdigest
    · exact (State.reg_deliverDue _ (quietReg_keySlot k (by decide))).trans hstamp
  · refine ⟨_, execRevoke_empties hp hl, ?_, ?_, (Only.emptyKey s k).trans (Only.deliverDue _)⟩
    · exact (State.reg_deliverDue _ (quietReg_keySlot k (by decide))).trans (s.reg_emptyKey k (by simp))
    · exact (State.reg_deliverDue _ (quietReg_keySlot k (by decide))).trans (s.reg_emptyKey k (by simp))

/-- Settles O19: a sample counts, a declaration is its parts one after another, and a wipe is its three stages. -/
theorem sealAndWipe : Obligations.SealAndWipe := by
  unfold Obligations.SealAndWipe
  refine ⟨?_, ?_, ?_, ?_, ?_, ?_⟩
  · intro s level
    obtain ⟨t, ht, hrest⟩ := execSealSample_counted s level
    refine ⟨t, ht, ?_, (Only.sampleCounted s _ _).trans (hrest.mono (fun _ h => nomatch h) fun _ => id)⟩
    rw [hrest.regs _ (by simp) (by decide), State.mismatch_sampleCounted]
    simp only [bne_iff_ne]
  · intro s hd
    obtain ⟨hintact, hopen⟩ := s.reg_sealOpened
    have hlife : s.sealOpened.closePresence.reg Reg.LIFECYCLE.STATE = s.reg Reg.LIFECYCLE.STATE := by
      rw [State.reg_closePresence _ (by decide) (by decide), (Only.sealOpened s).regs _ (by decide) (by decide)]
    have hkeep : ∀ k, quietReg k = true → k ∉ closeRegs → k ∉ tamperRegs →
        s.sealOpened.closePresence.tampered.deliverDue.reg k = s.sealOpened.reg k := fun k hq hc hk => by
      rw [State.reg_deliverDue _ hq, (Only.tampered _).regs k hk hq, State.reg_closePresence _ hq hc]
    have hafter : s.sealOpened.closePresence.tampered.deliverDue.reg Reg.LIFECYCLE.STATE
        = if s.reg Reg.LIFECYCLE.STATE = 1 then 2 else s.reg Reg.LIFECYCLE.STATE := by
      rw [State.reg_deliverDue _ (by decide), State.life_tampered, hlife]
    refine ⟨_, execSealOpened_due hd, ?_, ?_, ?_, fun h => ?_, fun h => ?_, fun h => ?_⟩
    · rw [hkeep _ (by decide) (by decide) (by decide), hintact]
    · rw [State.reg_deliverDue _ (by decide), (Only.tampered _).regs _ (by decide) (by decide), State.windowOpen_closePresence]
    · rw [hkeep _ (by decide) (by decide) (by decide), hopen]
    · rw [hafter, if_pos h]
    · rw [hafter, if_neg h]
    · rw [State.tab_deliverDue _ (by decide) (by decide), State.asked_tampered (by rwa [hlife])]
  · intro s hd
    obtain ⟨hintact, hloop, hclose⟩ := s.reg_declareClosed
    refine ⟨_, execSealClosed_due hd, ?_, ?_, ?_, (Only.declareClosed s).trans (Only.deliverDue _)⟩
    · rw [State.reg_deliverDue _ (by decide), hintact]
    · rw [State.reg_deliverDue _ (by decide), hloop]
    · rw [State.reg_deliverDue _ (by decide), hclose]
  · intro s w hp
    refine ⟨_, execWipe_permitted hp, ?_, (Only.askWipe s true (by simp)).trans (Only.deliverDue _)⟩
    rw [State.tab_deliverDue _ (by decide) (by decide), State.asked_askWipe]
  · intro s ha hr hd
    refine ⟨_, execWipeStart_starts ha hr hd, State.reg_setReg_deliverDue _ _ (by decide), ?_, s.wipeStart_only⟩
    unfold State.staging?
    rw [State.deliverDue_stagings, State.setReg_stagings]
    exact State.staging?_dropStaging _ _
  · intro s bad h
    by_cases hb : bad.filter (· < 65536) = []
    · refine ⟨_, execWipeDone_verified h hb, ?_, fun _ => ⟨?_, fun a ha => ?_, fun a ha => ?_⟩, fun hne => absurd hb hne⟩
      · rw [State.reg_deliverDue _ (by decide), (Only.wipeVerified _).regs _ (by decide) (by decide), State.policy_bankZeroed]
      · rw [State.reg_deliverDue _ (by decide), State.wipeState_wipeVerified]
      · rw [State.byte_deliverDue, (Only.wipeVerified _).byte, State.byte_bankZeroed, if_pos ha]
      · rw [State.byte_deliverDue, (Only.wipeVerified _).byte, State.byte_bankZeroed, if_neg (Nat.not_lt.mpr ha)]
    · refine ⟨_, execWipeDone_failed h hb, ?_, fun he => absurd he hb, fun _ => ⟨?_, ?_⟩⟩
      · rw [State.reg_deliverDue _ (by decide), State.reg_wipeFailed _ _ (by decide) (by decide) (by decide), if_neg (by decide),
          if_neg (by decide), State.policy_bankZeroed]
      · rw [State.reg_deliverDue _ (by decide), State.reg_wipeFailed _ _ (by decide) (by decide) (by decide), if_neg (by decide),
          if_pos rfl]
      · rw [State.reg_deliverDue _ (by decide), State.reg_wipeFailed _ _ (by decide) (by decide) (by decide), if_pos rfl]
end

section
/-!
SUPPORT. Registers of a lane after the operations that write them, and writes of a host to a lane.
-/
namespace Sys2Proof.Machine

theorem State.lane_setLane (s : State) (n a b v : Nat) : (s.setLane n a v).lane n b = if b = a then v else s.lane n b := by
  unfold State.lane State.setLane
  rw [State.reg_setReg]
  simp only [laneKey_inj]

theorem State.lane_setLane_same (s : State) (n a v : Nat) : (s.setLane n a v).lane n a = v := State.reg_setReg_same _ _ _

theorem State.lane_setLane_other (s : State) (n : Nat) {a b : Nat} (v : Nat) (h : b ≠ a) : (s.setLane n a v).lane n b = s.lane n b := by
  rw [State.lane_setLane, if_neg h]

theorem State.lane_setTab (s : State) (t i v n b : Nat) : (s.setTab t i v).lane n b = s.lane n b := rfl

theorem State.lane_bump (s : State) (n a w k b : Nat) :
    (s.bump (laneKey n a) w k).lane n b = if b = a then (s.lane n a + k) % 2 ^ w else s.lane n b := by
  unfold State.lane
  rw [State.reg_bump]
  simp only [laneKey_inj]

theorem State.lane_when_setTab (s : State) (c : Bool) (t i v n b : Nat) : (s.when c (·.setTab t i v)).lane n b = s.lane n b := by
  unfold State.when
  split
  · rfl
  · rfl

theorem State.lane_deliverDue (s : State) (n : LaneNo) {a : Nat} (ha : a < 256) : s.deliverDue.lane n a = s.lane n a :=
  State.reg_deliverDue _ (quietReg_laneKey n a ha)

theorem State.lane_laneEvent (s : State) (n : LaneNo) (i : Nat) {a : Nat} (ha : a < 0x2F) : (s.laneEvent n i).lane n a = s.lane n a :=
  State.reg_laneEvent _ _ _ _ (by omega) (by omega) (by omega)

/-- What a lane's register holds, a frame that does not name it leaves. -/
theorem Only.lane {R T : List Nat} {s t : State} (h : Only R T s t) (n : LaneNo) {a : Nat} (ha : a < 256) (hk : laneKey n a ∉ R) :
    t.lane n a = s.lane n a :=
  h.regs _ hk (quietReg_laneKey n a ha)

/-! ### Writes of a host -/

theorem Dict.lookup_laneIdx (n : LaneNo) : Dict.lookup (laneIdx n) = some Dict.obj1000 ∨ Dict.lookup (laneIdx n) = some Dict.obj1200 := by
  unfold laneIdx
  split
  · exact .inl (Dict.lookup_of_run (lo := 0x1000) (n := 512) rfl (by decide) (by decide) (by omega) (by omega))
  · exact .inr (Dict.lookup_of_run (lo := 0x1200) (n := 8) rfl (by decide) (by decide) (by omega) (by omega))

/-- The sub-indices of a lane that start something or test it are not saved (R157 to R162, R165). -/
theorem savedSub_lane (n : LaneNo) : ∀ sub ∈ [0x19, 0x1C, 0x1D, 0x1E, 0x22, 0x23], savedSub (laneIdx n) sub = false := by
  have h1 : ∀ sub ∈ [0x19, 0x1C, 0x1D, 0x1E, 0x22, 0x23], ((Dict.obj1000.anyRow sub).all fun r => !r.saved) = true := by decide
  have h2 : ∀ sub ∈ [0x19, 0x1C, 0x1D, 0x1E, 0x22, 0x23], ((Dict.obj1200.anyRow sub).all fun r => !r.saved) = true := by decide
  intro sub hs
  have hrow : ∀ o : Obj, Dict.lookup (laneIdx n) = some o → ((o.anyRow sub).all fun r => !r.saved) = true →
      savedSub (laneIdx n) sub = false := fun o ho hr => by
    unfold savedSub
    simp only [ho]
    cases h : o.anyRow sub with
    | none => rfl
    | some r => simpa [h] using hr
  rcases Dict.lookup_laneIdx n with h | h
  · exact hrow _ h (h1 sub hs)
  · exact hrow _ h (h2 sub hs)

/-- A permitted write to such a sub-index ends in its effect's state. -/
theorem State.laneWrite_next {s u : State} {w : SessionNo} {n : LaneNo} {sub v : Nat} {eff : State → Res}
    (hp : s.permits w (laneIdx n) sub v = true) (hs : sub ∈ [0x19, 0x1C, 0x1D, 0x1E, 0x22, 0x23]) (he : eff s = Res.done u) :
    (s.hostWrite w (laneIdx n) sub v eff).next = .next u.deliverDue := by
  rw [State.hostWrite_next hp (by rw [he]; rfl), savedSub_lane n sub hs, he]
  rfl

end Sys2Proof.Machine
end

section
/-!
SUPPORT. Tests of a lane: TEST, the pattern checker and the eye monitor (R159 to R162).
-/
namespace Sys2Proof.Machine

/-- The lane in TEST after a write of `v` to `sub`, which is LOOPBACK, PRBS_TX or PRBS_RX. -/
def State.testEntered (s : State) (n sub v : Nat) : State := ((s.setLane n sub v).setLane n 0x01 8).setTab Tab.laneForce n 0

theorem State.lane_testEntered (s : State) (n sub v a : Nat) :
    (s.testEntered n sub v).lane n a = if a = 0x01 then 8 else if a = sub then v else s.lane n a := by
  unfold State.testEntered
  rw [State.lane_setTab, State.lane_setLane, State.lane_setLane]

theorem Only.testEntered (s : State) (n : LaneNo) (sub v : Nat) :
    Only [laneKey n 0x01, laneKey n sub, laneKey n 0x1F] [Tab.laneForce] s (s.testEntered n sub v) :=
  ((Only.setLane _ _ _ _ (by simp)).trans (Only.setLane _ _ _ _ (by simp))).trans (Only.setTab _ _ _ _ (by omega) (.inl (by simp)))

theorem State.testing_setLane {s : State} {n sub v : Nat} (hs : sub = 0x1C ∨ sub = 0x1D ∨ sub = 0x1E) (hv : v ≠ 0) :
    (s.setLane n sub v).testing n = true := by
  unfold State.testing
  simp only [State.lane_setLane, Bool.or_eq_true, bne_iff_ne]
  rcases hs with rfl | rfl | rfl
  · exact .inl (.inl hv)
  · exact .inl (.inr hv)
  · exact .inr hv

/-- With a test chosen, a lane neither in DATA nor in TEST enters TEST, and its port has nothing to follow (R159). -/
theorem State.followTest_enters {s : State} {n sub v : Nat} (hs : sub = 0x1C ∨ sub = 0x1D ∨ sub = 0x1E) (hv : v ≠ 0)
    (h6 : s.laneState n ≠ 6) (h8 : s.laneState n ≠ 8) : (s.setLane n sub v).followTest n = s.testEntered n sub v := by
  have hst : (s.setLane n sub v).laneState n = s.laneState n := State.lane_setLane_other _ _ _ (by omega)
  unfold State.followTest
  rw [if_pos (State.testing_setLane hs hv), State.laneTo_plain (by rwa [hst]) (by rwa [hst]) (by decide) (by decide) (by rwa [hst])]
  rfl

theorem execTest_enters {s : State} {w : SessionNo} {n : LaneNo} {c : Instr} {sub v : Nat} (hv : v ≠ 0) (h6 : s.laneState n ≠ 6)
    (h8 : s.laneState n ≠ 8) (hlock : s.lane n 0x1F = 0) (hp : s.permits w (laneIdx n) sub v = true)
    (hc : (c = .loopback w n v ∧ sub = 0x1C) ∨ (c = .prbsTx w n v ∧ sub = 0x1D ∧ patternOk (s.lane n 0x02) v false = true)
      ∨ (c = .prbsRx w n v ∧ sub = 0x1E ∧ patternOk (s.lane n 0x02) v true = true)) :
    exec c s = .next (s.testEntered n sub v).deliverDue := by
  rcases hc with ⟨rfl, rfl⟩ | ⟨rfl, rfl, hok⟩ | ⟨rfl, rfl, hok⟩
  · refine State.laneWrite_next hp (by decide) ?_
    unfold loopbackEffect
    rw [State.followTest_enters (by decide) hv h6 h8]
  · refine State.laneWrite_next hp (by decide) ?_
    unfold prbsTxEffect
    rw [if_pos hok, State.followTest_enters (by decide) hv h6 h8]
  · refine State.laneWrite_next hp (by decide) ?_
    have hidle : s.endCheck n = s := if_pos hlock
    unfold prbsRxEffect
    rw [if_pos hok, hidle, State.followTest_enters (by decide) hv h6 h8]

/-! ### The checker (R161) -/

theorem execPrbsLock_locks {s : State} {n : LaneNo} (h8 : s.laneState n = 8) (hrx : s.lane n 0x1E ≠ 0) :
    exec (.prbsLock n) s = .next (s.setLane n 0x1F 1).deliverDue := if_pos ⟨h8, hrx⟩

/-- The checker unlocked, with what it compared while it was locked. -/
def State.checkEnded (s : State) (n counted errors : Nat) : State :=
  ((s.bump (laneKey n 0x20) 64 counted).bump (laneKey n 0x21) 64 errors).setLane n 0x1F 0

theorem State.lane_checkEnded (s : State) (n counted errors : Nat) :
    (s.checkEnded n counted errors).lane n 0x1F = 0
      ∧ (s.checkEnded n counted errors).lane n 0x20 = (s.lane n 0x20 + counted) % 2 ^ 64
      ∧ (s.checkEnded n counted errors).lane n 0x21 = (s.lane n 0x21 + errors) % 2 ^ 64 := by
  unfold State.checkEnded
  simp [State.lane_setLane, State.lane_bump]

theorem Only.checkEnded (s : State) (n counted errors : Nat) :
    Only [laneKey n 0x1F, laneKey n 0x20, laneKey n 0x21] [] s (s.checkEnded n counted errors) :=
  ((Only.bump _ _ _ _ (.inl (by simp))).trans (Only.bump _ _ _ _ (.inl (by simp)))).trans (Only.setLane _ _ _ _ (by simp))

theorem execPrbsLockLost_locked {s : State} {n : LaneNo} (counted errors : Nat) (h : s.lane n 0x1F ≠ 0) :
    exec (.prbsLockLost n counted errors) s = .next (s.checkEnded n counted errors).deliverDue := if_neg h

theorem execPrbsClear_permitted {s : State} {w : SessionNo} {n : LaneNo} (hp : s.permits w (laneIdx n) 0x22 1 = true) :
    exec (.prbsClear w n) s = .next ((s.setLane n 0x20 0).setLane n 0x21 0).deliverDue :=
  State.laneWrite_next hp (by decide) rfl

/-! ### The eye monitor (R162) -/

/-- A scan runs: what the map reads meanwhile is free. -/
def State.scanStarted (s : State) (n : Nat) : State := (s.drew.setLane n 0x27 (s.freeBelow (256 ^ 2048))).setLane n 0x24 1

theorem Only.scanStarted (s : State) (n : Nat) :
    Only [laneKey n 0x24, laneKey n 0x27] [] { s with freeCtr := s.freeCtr + 1 } (s.scanStarted n) :=
  (Only.setLane s.drew _ _ _ (by simp)).trans (Only.setLane _ _ _ _ (by simp))

theorem execEyeStart_starts {s : State} {w : SessionNo} {n : LaneNo} {eye : Nat} (hp : s.permits w (laneIdx n) 0x23 eye = true)
    (heye : s.lane n 0x02 = 1 ∨ s.lane n 0x02 = 2 → eye = 1) (hidle : s.lane n 0x24 ≠ 1) :
    exec (.eyeStart w n eye) s = .next (s.scanStarted n).deliverDue := by
  refine State.laneWrite_next hp (by decide) ?_
  unfold eyeStartEffect
  rw [if_neg fun h => h.2 (heye h.1), if_neg hidle]
  rfl

/-- A scan is done, with its map, its height and its width. -/
def State.scanDone (s : State) (n : Nat) (map : Bytes) (height width : Nat) : State :=
  (((s.setLane n 0x27 (ofBE map)).setLane n 0x25 height).setLane n 0x26 width).setLane n 0x24 2

theorem State.lane_scanDone (s : State) (n : Nat) (map : Bytes) (height width : Nat) :
    (s.scanDone n map height width).lane n 0x24 = 2 ∧ (s.scanDone n map height width).lane n 0x27 = ofBE map
      ∧ (s.scanDone n map height width).lane n 0x25 = height := by
  unfold State.scanDone
  simp [State.lane_setLane]

theorem Only.scanDone (s : State) (n : Nat) (map : Bytes) (height width : Nat) :
    Only [laneKey n 0x24, laneKey n 0x25, laneKey n 0x26, laneKey n 0x27] [] s (s.scanDone n map height width) :=
  (((Only.setLane _ _ _ _ (by simp)).trans (Only.setLane _ _ _ _ (by simp))).trans (Only.setLane _ _ _ _ (by simp))).trans
    (Only.setLane _ _ _ _ (by simp))

/-- A scan with a whole map is done; a width that is no whole number draws how it is rounded. -/
theorem execEyeScanDone_whole {s : State} {n : LaneNo} {map : Bytes} (hrun : s.lane n 0x24 = 1) (hlen : map.length = 2048) :
    ∃ (c : Bool) (width : Nat), exec (.eyeScanDone n map) s
      = .next ((s.when c State.drew).scanDone n map (4 * zeroRun ((map.drop 1024).take 64) 32) width).deliverDue := by
  have hmap : (map ++ List.replicate (2048 - map.length) 0xFF).take 2048 = map := by
    rw [hlen, Nat.sub_self, List.replicate_zero, List.append_nil]
    exact List.take_of_length_le (Nat.le_of_eq hlen)
  have hx : exec (.eyeScanDone n map) s = execEyeScanDone n map s := rfl
  unfold execEyeScanDone at hx
  rw [if_neg (by simp [hrun]), hmap] at hx
  exact ⟨_, _, hx⟩

end Sys2Proof.Machine
end

section
/-!
SUPPORT. Bring-up of a lane (R153, R154, R157): each event's change of state where neither DATA, TEST nor OFF is entered or left, and the
entry to DATA.
-/
namespace Sys2Proof.Machine

/-- A change of state that neither enters nor leaves DATA, TEST or OFF, to the state that the lane has or to another: the lane's STATE, and
at most its forced training. -/
theorem State.laneTo_quiet {s : State} {n : LaneNo} {st : Nat} {b : Bool} (h6 : s.laneState n ≠ 6) (h8 : s.laneState n ≠ 8) (g6 : st ≠ 6)
    (g0 : st ≠ 0) : (s.laneTo n st b).laneState n = st ∧ (∀ a, a ≠ 0x01 → (s.laneTo n st b).lane n a = s.lane n a)
      ∧ Only [laneKey n 0x01] [Tab.laneForce] s (s.laneTo n st b) := by
  by_cases he : s.laneState n = st
  · have hsame : s.laneTo n st b = s := if_pos he
    rw [hsame]
    exact ⟨he, fun _ _ => rfl, Only.refl s⟩
  · rw [State.laneTo_plain h6 h8 g6 g0 he]
    refine ⟨?_, fun a ha => ?_, ?_⟩
    · exact (State.lane_when_setTab _ _ _ _ _ _ _).trans (State.lane_setLane_same _ _ _ _)
    · rw [State.lane_when_setTab, State.lane_setLane_other _ _ _ ha]
    · exact (Only.setLane _ _ _ _ (by simp)).trans (Only.when _ _ _ fun _ => Only.setTab _ _ _ _ (by omega) (.inl (by simp)))

/-- So an event of bring-up ends: `p` is the state that the event itself leaves before the lane moves. -/
theorem State.laneTo_done {p : State} {n : LaneNo} {st : Nat} (b : Bool) (h6 : p.laneState n ≠ 6) (h8 : p.laneState n ≠ 8) (g6 : st ≠ 6)
    (g0 : st ≠ 0) : (p.laneTo n st b).deliverDue.laneState n = st
      ∧ (∀ a, a < 256 → a ≠ 0x01 → (p.laneTo n st b).deliverDue.lane n a = p.lane n a)
      ∧ Only [laneKey n 0x01] [Tab.laneForce] p (p.laneTo n st b).deliverDue := by
  obtain ⟨hstate, hlane, honly⟩ := State.laneTo_quiet (b := b) h6 h8 g6 g0
  refine ⟨?_, fun a ha h1 => ?_, honly.trans (Only.deliverDue _)⟩
  · exact (State.lane_deliverDue _ _ (by decide)).trans hstate
  · rw [State.lane_deliverDue _ _ ha, hlane a h1]

/-! ### The events (R154, R157) -/

theorem execSignalDetected_waiting {s : State} {n : LaneNo} (h : s.laneState n = 1) :
    exec (.signalDetected n) s = .next ((s.setLane n 0x13 1).laneTo n 2 true).deliverDue := by
  have hst : (s.setLane n 0x13 1).laneState n = 1 := (State.lane_setLane_other _ _ _ (by decide)).trans h
  show execSignalDetected n s = _
  unfold execSignalDetected
  rw [if_neg (by omega)]
  dsimp only
  rw [if_pos hst]
  rfl

/-- The state from which a lane whose clock has locked leaves CDR_LOCK: the driver uses the written taps where no training follows. -/
def State.cdrReady (s : State) (n : Nat) : State := if s.trains n then s else (s.writtenTaps n).setTab Tab.precoded n 0

theorem execCdrLocked_locked {s : State} {n : LaneNo} (h : s.laneState n = 2) :
    exec (.cdrLocked n) s = .next ((s.cdrReady n).laneTo n (if s.trains n then 3 else 4) true).deliverDue := by
  show execCdrLocked n s = _
  unfold execCdrLocked State.cdrReady
  rw [if_neg (by omega)]
  split
  · rfl
  · rfl

/-- The state from which a trained lane leaves TRAINING: the driver has the far end's taps, and mode 4 precodes where that was negotiated. -/
def State.trained (s : State) (n : Nat) (taps : List Int) (precode : Bool) : State :=
  (s.requestTaps n taps).setTab Tab.precoded n (ofBool (precode && s.lane n 0x02 == 4))

theorem execTrainingComplete_training {s : State} {n : LaneNo} (taps : List Int) (precode : Bool) (h : s.laneState n = 3) :
    exec (.trainingComplete ⟨n, taps, precode⟩) s = .next ((s.trained n taps precode).laneTo n 4 true).deliverDue :=
  if_neg (by simpa using h)

theorem execTrainingFailed_training {s : State} {n : LaneNo} (h : s.laneState n = 3) :
    exec (.trainingFailed n) s = .next ((s.laneEvent n 8).laneTo n 1 true).deliverDue := if_pos h

theorem execBringupSignalLost_bringup {s : State} {n : LaneNo} (h2 : 2 ≤ s.laneState n) (h5 : s.laneState n ≤ 5) :
    exec (.bringupSignalLost n) s = .next ((s.setLane n 0x13 0).laneTo n 1 true).deliverDue := if_pos ⟨h2, h5⟩

theorem execFastRetrainTimeout_retrain {s : State} {n : LaneNo} (h : s.laneState n = 7) :
    exec (.fastRetrainTimeout n) s = .next (s.laneTo n 1 true).deliverDue := if_pos h

theorem execTxPllUnlock_running {s : State} {n : LaneNo} (h0 : s.laneState n ≠ 0) (h8 : s.laneState n ≠ 8) :
    exec (.txPllUnlock n) s = .next (s.laneTo n 1 false).deliverDue := if_neg (by simp [h0, h8])

theorem execAdaptationConverged_adapting {s : State} {n : LaneNo} (ctle ffe dfe ppm : Nat) (h : s.laneState n = 4) :
    exec (.adaptationConverged n ctle ffe dfe ppm) s = .next ((s.adapted n ctle ffe dfe ppm).laneTo n 5 true).deliverDue := if_pos h

/-! ### The driver's taps (R150, R154) -/

theorem Only.setDriverTaps {R T : List Nat} (s : State) (n : LaneNo) (v : Nat → Nat) (hT : Tab.driverTap ∈ T) :
    Only R T s (s.forAll (List.range 5) (fun s i => s.setTab Tab.driverTap (8 * n + i) (v i))) :=
  Only.forAll _ _ _ fun _ i hi => Only.setTab _ _ _ _ (by have := List.mem_range.mp hi; omega) (.inl hT)

theorem Only.cdrReady {R : List Nat} (s : State) (n : LaneNo) :
    Only R [Tab.laneForce, Tab.driverTap, Tab.precoded] s (s.cdrReady n) := by
  unfold State.cdrReady State.writtenTaps
  exact Only.ite (fun _ => Only.refl s) fun _ =>
    (Only.setDriverTaps s n _ (by simp)).trans (Only.setTab _ _ _ _ (by omega) (.inl (by simp)))

theorem Only.trained {R : List Nat} (s : State) (n : LaneNo) (taps : List Int) (precode : Bool) :
    Only R [Tab.laneForce, Tab.driverTap, Tab.precoded] s (s.trained n taps precode) := by
  unfold State.trained State.requestTaps
  exact (Only.setDriverTaps s n _ (by simp)).trans (Only.setTab _ _ _ _ (by omega) (.inl (by simp)))

/-- Taps that the far end asks for are kept apart from the written ones, as values that are never 0. -/
theorem State.tab_requestTaps (s : State) (n : Nat) (taps : List Int) {i : Nat} (hi : i < 5) :
    (s.requestTaps n taps).tab Tab.driverTap (8 * n + i) = (taps.getD i 0 % 2 ^ 32).toNat + 1 := by
  have hrun : s.requestTaps n taps = ([0, 1, 2, 3, 4] : List Nat).foldl (fun s i =>
      s.setTab Tab.driverTap (8 * n + i) ((taps.getD i 0 % 2 ^ 32).toNat + 1)) s := rfl
  rw [hrun]
  simp only [List.foldl_cons, List.foldl_nil, State.tab_setTab_element, Nat.add_left_cancel_iff]
  match i, hi with
  | 0, _ | 1, _ | 2, _ | 3, _ | 4, _ => rfl

theorem State.tab_trained (s : State) (n : LaneNo) (taps : List Int) (precode : Bool) {i : Nat} (hi : i < 5) :
    (s.trained n taps precode).tab Tab.driverTap (8 * n + i) = (taps.getD i 0 % 2 ^ 32).toNat + 1 := by
  unfold State.trained
  rw [State.tab_setTab_table _ _ (by decide) (by omega) (by omega), s.tab_requestTaps n taps hi]

/-- The driver uses the taps that the far end has asked for, of those that the mode has. -/
theorem State.driverTaps_requested {s t : State} {n : Nat} {taps : List Int} (hmode : t.lane n 0x02 = s.lane n 0x02)
    (hs : s.standbySlice n = false)
    (htab : ∀ i, i < 5 → t.tab Tab.driverTap (8 * n + i) = (taps.getD i 0 % 2 ^ 32).toNat + 1) :
    t.driverTaps n = (List.range 5).map (fun i => if i < 2 ∧ s.lane n 0x02 ≤ 2 then 0 else toInt 32 (taps.getD i 0 % 2 ^ 32).toNat) := by
  have hslice : t.standbySlice n = false := by rw [← hs]; unfold State.standbySlice; rw [hmode]
  unfold State.driverTaps
  rw [if_neg (by simp [hslice])]
  refine List.map_congr_left fun i hi => ?_
  rw [hmode, htab i (List.mem_range.mp hi)]

/-! ### Where an event of bring-up leaves the lane -/

/-- `t` is `s` after event `c` of bring-up: the lane in state `new` with SIGNAL_DETECT `detect`, the flag of a training that failed and the
taps of one that completed, and nothing else changed (R154, R157). -/
def State.broughtUp (t s : State) (n : LaneNo) (c : Instr) (new detect : Nat) : Prop :=
  t.laneState n = new ∧ t.lane n 0x13 = detect ∧ (c = .trainingFailed n → bit (t.lane n 0x2F) 8 = true)
    ∧ (if c = .trainingFailed n then Only [laneKey n 0x01, laneKey n 0x2F, laneKey n 0x2F + 9] [Tab.laneForce] s t
        else Only [laneKey n 0x01, laneKey n 0x13] [Tab.laneForce, Tab.driverTap, Tab.precoded] s t)
    ∧ ∀ taps precode, c = .trainingComplete ⟨n, taps, precode⟩ → s.standbySlice n = false →
      t.driverTaps n = (List.range 5).map (fun i => if i < 2 ∧ s.lane n 0x02 ≤ 2 then 0 else toInt 32 (taps.getD i 0 % 2 ^ 32).toNat)

/-- Every event but a failed training: `p` is the state that it leaves before the lane moves, with the taps asked for where a training
completed. -/
theorem State.broughtUp_of {s p : State} {n : LaneNo} {c : Instr} {new : Nat} {b : Bool} (hf : c ≠ .trainingFailed n)
    (hp : Only [laneKey n 0x01, laneKey n 0x13] [Tab.laneForce, Tab.driverTap, Tab.precoded] s p)
    (h6 : p.laneState n ≠ 6) (h8 : p.laneState n ≠ 8) (g6 : new ≠ 6) (g0 : new ≠ 0)
    (htaps : ∀ taps precode, c = .trainingComplete ⟨n, taps, precode⟩ →
      ∀ i, i < 5 → p.tab Tab.driverTap (8 * n + i) = (taps.getD i 0 % 2 ^ 32).toNat + 1) :
    (p.laneTo n new b).deliverDue.broughtUp s n c new (p.lane n 0x13) := by
  obtain ⟨hstate, hlane, honly⟩ := State.laneTo_done b h6 h8 g6 g0
  refine ⟨hstate, hlane _ (by decide) (by decide), fun h => absurd h hf, ?_, fun taps precode hc hs => ?_⟩
  · rw [if_neg hf]
    exact hp.trans (honly.mono (by simp) (by simp))
  · refine State.driverTaps_requested ?_ hs fun i hi => ?_
    · rw [hlane _ (by decide) (by decide), hp.lane n (by decide) (by simp [laneKey_inj])]
    · rw [honly.tabs _ _ (by omega) (by decide) (by decide), htaps taps precode hc i hi]

/-- A training that failed sets its flag (R154). -/
theorem State.broughtUp_failed {s : State} {n : LaneNo} (h : s.laneState n = 3) :
    ((s.laneEvent n 8).laneTo n 1 true).deliverDue.broughtUp s n (.trainingFailed n) 1 (s.lane n 0x13) := by
  have hst : (s.laneEvent n 8).laneState n = 3 := (State.lane_laneEvent _ _ _ (by decide)).trans h
  obtain ⟨hstate, hlane, honly⟩ := State.laneTo_done (st := 1) true (by omega : (s.laneEvent n 8).laneState n ≠ 6) (by omega) (by decide)
    (by decide)
  refine ⟨hstate, ?_, fun _ => ?_, ?_, fun _ _ hc => nomatch hc⟩
  · rw [hlane _ (by decide) (by decide), State.lane_laneEvent _ _ _ (by decide)]
  · rw [hlane _ (by decide) (by decide)]
    exact (congrArg (bit · 8) (s.reg_laneEvent_flag n 8)).trans (bit_setBit _ _ _)
  · rw [if_pos rfl]
    exact (Only.laneEvent s n 8 (by simp) (by simp)).trans (honly.mono (by simp) (by simp))

/-! ### Convergence (R151) -/

theorem State.lane_adapted (s : State) (n ctle ffe dfe ppm : Nat) :
    (s.adapted n ctle ffe dfe ppm).lane n 0x10 = ctle % 32 ∧ (s.adapted n ctle ffe dfe ppm).lane n 0x14 = ppm % 2 ^ 32
      ∧ (s.adapted n ctle ffe dfe ppm).lane n 0x11
          = (if s.standbySlice n then 0 else if s.lane n 0x02 ≤ 2 then ffe % 2 ^ 512 / 2 ^ 384 * 2 ^ 384 else ffe % 2 ^ 512)
      ∧ (s.adapted n ctle ffe dfe ppm).lane n 0x12 = (if 3 ≤ s.lane n 0x02 then dfe % 2 ^ 256 / 2 ^ 224 * 2 ^ 224
          else if s.standbySlice n then dfe % 2 ^ 256 / 2 ^ 96 * 2 ^ 96 else dfe % 2 ^ 256) := by
  unfold State.adapted
  dsimp only
  refine ⟨?_, ?_, ?_, ?_⟩
  · rw [State.lane_setLane_other _ _ _ (by decide), State.lane_setLane_other _ _ _ (by decide), State.lane_setLane_other _ _ _ (by decide),
      State.lane_setLane_same]
  · rw [State.lane_setLane_same]
  · rw [State.lane_setLane_other _ _ _ (by decide), State.lane_setLane_other _ _ _ (by decide), State.lane_setLane_same]
  · rw [State.lane_setLane_other _ _ _ (by decide), State.lane_setLane_same]

theorem State.laneState_adapted (s : State) (n ctle ffe dfe ppm : Nat) : (s.adapted n ctle ffe dfe ppm).laneState n = s.laneState n := by
  unfold State.adapted
  dsimp only
  show State.lane _ n 0x01 = s.lane n 0x01
  simp only [State.lane_setLane]
  rfl

theorem Only.adapted {T : List Nat} (s : State) (n ctle ffe dfe ppm : Nat) :
    Only [laneKey n 0x01, laneKey n 0x10, laneKey n 0x11, laneKey n 0x12, laneKey n 0x14] T s (s.adapted n ctle ffe dfe ppm) :=
  (((Only.setLane _ _ _ _ (by simp)).trans (Only.setLane _ _ _ _ (by simp))).trans (Only.setLane _ _ _ _ (by simp))).trans
    (Only.setLane _ _ _ _ (by simp))

/-! ### Entry to DATA (R157) -/

/-- The lane in DATA with its flag, before its port follows. -/
def State.dataReached (s : State) (n : Nat) : State := ((s.laneEvent n 4).setLane n 0x01 6).setTab Tab.laneForce n 0

theorem State.lane_dataReached (s : State) (n : LaneNo) :
    (s.dataReached n).laneState n = 6 ∧ bit ((s.dataReached n).lane n 0x2F) 4 = true := by
  refine ⟨State.lane_setLane_same _ _ _ _, ?_⟩
  unfold State.dataReached
  rw [State.lane_setTab, State.lane_setLane_other _ _ _ (by decide)]
  show bit ((s.laneEvent n 4).reg _) 4 = true
  rw [State.reg_laneEvent_flag, bit_setBit]

theorem Only.dataReached (s : State) (n : LaneNo) :
    Only [laneKey n 0x01, laneKey n 0x2F, laneKey n 0x2F + 5] [Tab.laneForce] s (s.dataReached n) :=
  ((Only.laneEvent s n 4 (by simp) (by simp)).trans (Only.setLane _ _ _ _ (by simp))).trans (Only.setTab _ _ _ _ (by omega) (.inl (by simp)))

theorem execDataEntered_aligned {s : State} {n : LaneNo} (h : s.laneState n = 5 ∨ s.laneState n = 7) :
    exec (.dataEntered n) s = .next ((s.dataReached n).portFollows n false true).deliverDue := by
  have hst : (s.laneEvent n 4).laneState n = s.laneState n := State.lane_laneEvent _ _ _ (by decide)
  have h6 : (s.laneEvent n 4).laneState n ≠ 6 := by omega
  have h8 : (s.laneEvent n 4).laneState n ≠ 8 := by omega
  have hleft : ((s.laneEvent n 4).laneState n == 6) = false := beq_eq_false_iff_ne.mpr h6
  show execDataEntered n s = _
  unfold execDataEntered State.laneTo
  rw [if_pos h, if_neg h6]
  simp [hleft, h8, State.when, State.dataReached, State.done_eq]

end Sys2Proof.Machine
end

section
/-!
SUPPORT. A lane leaves DATA under a cause (R155, R157): what it writes of its own before its port follows.
-/
namespace Sys2Proof.Machine

/-- The cause noted and counted, its flag set where it has one, and training forced where the far end trains. -/
def State.caused (s : State) (n cause : Nat) : State :=
  (((s.setLane n 0x1B cause).bump (laneKey n 0x1A) 32).when (decide (cause ≤ 3)) (·.laneEvent n (cause - 1))).when (cause == 6)
    (·.setTab Tab.laneForce n 1)

/-- The state in which a lane goes on: fast retrain, or bring-up at CDR_LOCK. -/
def leftState (cause : Nat) : Nat := if cause = 6 then 2 else 7

/-- The lane out of DATA: an eye scan stopped, RETRAIN_STARTED set, in its new state. -/
def State.leftData (s : State) (n st : Nat) : State :=
  (((s.stopEye n).laneEvent n 3).setLane n 0x01 st).when (st != 2) (·.setTab Tab.laneForce n 0)

theorem State.laneTo_leaves {s : State} {n st : Nat} {b : Bool} (h : s.laneState n = 6) (g6 : st ≠ 6) (g0 : st ≠ 0) :
    s.laneTo n st b = (s.leftData n st).portFollows n true b := by
  unfold State.laneTo
  rw [if_neg (by omega)]
  simp [h, g0, State.when, State.leftData]

theorem State.lane_caused (s : State) (n : LaneNo) (cause : Nat) {a : Nat} (ha : a < 0x2F) :
    (s.caused n cause).lane n a = if a = 0x1A then (s.lane n 0x1A + 1) % 2 ^ 32 else if a = 0x1B then cause else s.lane n a := by
  have hset : ((s.setLane n 0x1B cause).bump (laneKey n 0x1A) 32).lane n a
      = if a = 0x1A then (s.lane n 0x1A + 1) % 2 ^ 32 else if a = 0x1B then cause else s.lane n a := by
    rw [State.lane_bump, State.lane_setLane_other (a := 0x1B) (b := 0x1A) _ _ _ (by decide), State.lane_setLane]
  unfold State.caused
  rw [State.lane_when_setTab, ← hset]
  unfold State.when
  split
  · exact State.lane_laneEvent _ _ _ ha
  · rfl

/-- The flag of a cause from 1 to 3 is set. -/
theorem State.caused_flag (s : State) (n : LaneNo) {cause : Nat} (h : cause ≤ 3) :
    bit ((s.caused n cause).lane n 0x2F) (cause - 1) = true := by
  unfold State.caused
  rw [State.lane_when_setTab]
  unfold State.when
  rw [if_pos (by simpa using h)]
  exact (congrArg (bit · (cause - 1)) (State.reg_laneEvent_flag _ n _)).trans (bit_setBit _ _ _)

/-- An eye scan that stops writes the eye monitor's registers alone (R162). -/
theorem State.lane_stopEye (s : State) (n : Nat) {a : Nat} (ha : a < 0x24 ∨ 0x27 < a) : (s.stopEye n).lane n a = s.lane n a := by
  refine State.reg_stopEye s n _ ?_
  simp only [ne_eq, laneKey_inj]
  omega

/-- Apart from STATE, from what an eye scan that stops writes and from RETRAIN_STARTED, a lane that leaves DATA has the registers that it
had. -/
theorem State.lane_leftData (s : State) (n : LaneNo) (st : Nat) {a : Nat} (ha : a < 0x24) :
    (s.leftData n st).lane n a = if a = 0x01 then st else s.lane n a := by
  unfold State.leftData
  rw [State.lane_when_setTab, State.lane_setLane, State.lane_laneEvent _ _ _ (by omega), State.lane_stopEye _ _ (.inl ha)]

theorem State.events_leftData (s : State) (n : LaneNo) (st : Nat) : (s.leftData n st).lane n 0x2F = setBit (s.lane n 0x2F) 3 true := by
  have hflag : ((s.stopEye n).laneEvent n 3).lane n 0x2F = setBit ((s.stopEye n).lane n 0x2F) 3 true := State.reg_laneEvent_flag _ n 3
  unfold State.leftData
  rw [State.lane_when_setTab, State.lane_setLane_other _ _ _ (by decide), hflag, State.lane_stopEye _ _ (.inr (by decide))]

/-! ### What is touched -/

/-- The registers of a lane that a departure from DATA under a cause writes. -/
abbrev leaveRegs (n cause : Nat) : List Nat :=
  [laneKey n 0x01, laneKey n 0x13, laneKey n 0x1A, laneKey n 0x1B, laneKey n 0x24, laneKey n 0x25, laneKey n 0x26, laneKey n 0x27,
    laneKey n 0x2F, laneKey n 0x2F + cause, laneKey n 0x2F + 4]

theorem Only.caused (s : State) (n : LaneNo) {cause : Nat} (h : 1 ≤ cause) : Only (leaveRegs n cause) [Tab.laneForce] s (s.caused n cause) := by
  have hflag : laneKey n 0x2F + 1 + (cause - 1) = laneKey n 0x2F + cause := by omega
  have hset : Only (leaveRegs n cause) [Tab.laneForce] s ((s.setLane n 0x1B cause).bump (laneKey n 0x1A) 32) :=
    (Only.setLane _ _ _ _ (by simp)).trans (Only.bump _ _ _ _ (.inl (by simp)))
  exact (hset.trans (Only.when _ _ _ fun _ => Only.laneEvent _ _ _ (by simp) (by rw [hflag]; simp))).trans
    (Only.when _ _ _ fun _ => Only.setTab _ _ _ _ (by omega) (.inl (by simp)))

/-- A frame between states that have drawn as many free values holds as well where the first is put to that number. -/
theorem Only.withDrawn {R T : List Nat} {s t : State} (h : Only R T s t) : Only R T { s with freeCtr := t.freeCtr } t := by
  rw [h.freeCtr]; exact h

theorem Only.stopEye (s : State) (n cause : Nat) :
    Only (leaveRegs n cause) [Tab.laneForce] { s with freeCtr := (s.stopEye n).freeCtr } (s.stopEye n) :=
  (s.stopEye_only n).shrink fun k _ hk =>
    s.reg_stopEye n k ⟨fun h => hk (by simp [h]), fun h => hk (by simp [h]), fun h => hk (by simp [h]), fun h => hk (by simp [h])⟩

theorem Only.leftData (s : State) (n : LaneNo) (cause st : Nat) :
    Only (leaveRegs n cause) [Tab.laneForce] { s with freeCtr := (s.leftData n st).freeCtr } (s.leftData n st) := by
  have hflag : Only (leaveRegs n cause) [Tab.laneForce] (s.stopEye n) (s.leftData n st) :=
    ((Only.laneEvent _ _ _ (by simp) (by simp)).trans (Only.setLane _ _ _ _ (by simp))).trans
      (Only.when _ _ _ fun _ => Only.setTab _ _ _ _ (by omega) (.inl (by simp)))
  exact Only.drawn (Only.stopEye s n cause) hflag.withDrawn

/-! ### The departure -/

/-- The lane's own registers after a departure from DATA, where `s` is the state in which the cause is met. -/
abbrev State.departed (s : State) (n cause : Nat) : State := (s.caused n cause).leftData n (leftState cause)

theorem State.leaveData_inData {s : State} {n : LaneNo} {cause : Nat} (h : s.laneState n = 6) :
    s.leaveData n cause = (s.departed n cause).portFollows n true true := by
  have hst : (s.caused n cause).laneState n = 6 := (State.lane_caused s n cause (by decide)).trans h
  unfold State.leaveData State.departed leftState
  rw [if_neg (by omega)]
  dsimp only
  by_cases h6 : cause = 6
  · rw [if_pos h6, if_pos h6, ← State.laneTo_leaves hst (by decide) (by decide)]
    simp [State.caused, State.when, h6]
  · rw [if_neg h6, if_neg h6, ← State.laneTo_leaves hst (by decide) (by decide)]
    simp [State.caused, State.when, h6]

theorem State.leaveData_other {s : State} {n cause : Nat} (h : s.laneState n ≠ 6) : s.leaveData n cause = s := if_pos h

theorem State.lane_departed (s : State) (n : LaneNo) (cause : Nat) :
    (s.departed n cause).laneState n = leftState cause ∧ (s.departed n cause).lane n 0x1B = cause
      ∧ (s.departed n cause).lane n 0x1A = (s.lane n 0x1A + 1) % 2 ^ 32 ∧ (s.departed n cause).lane n 0x13 = s.lane n 0x13 := by
  refine ⟨State.lane_leftData _ _ _ (by decide), ?_, ?_, ?_⟩
  · rw [State.lane_leftData _ _ _ (by decide), if_neg (by decide), State.lane_caused _ _ _ (by decide), if_neg (by decide), if_pos rfl]
  · rw [State.lane_leftData _ _ _ (by decide), if_neg (by decide), State.lane_caused _ _ _ (by decide), if_pos rfl]
  · rw [State.lane_leftData _ _ _ (by decide), if_neg (by decide), State.lane_caused _ _ _ (by decide), if_neg (by decide),
      if_neg (by decide)]

theorem State.events_departed (s : State) (n : LaneNo) (cause : Nat) :
    (cause ≤ 3 → bit ((s.departed n cause).lane n 0x2F) (cause - 1) = true) ∧ bit ((s.departed n cause).lane n 0x2F) 3 = true := by
  rw [State.events_leftData]
  refine ⟨fun h => ?_, bit_setBit _ _ _⟩
  rw [bit_setBit_other _ _ (by omega), s.caused_flag n h]

theorem Only.departed (s : State) (n : LaneNo) {cause : Nat} (h : 1 ≤ cause) :
    Only (leaveRegs n cause) [Tab.laneForce] { s with freeCtr := (s.departed n cause).freeCtr } (s.departed n cause) :=
  Only.drawn (Only.caused s n h).withDrawn (Only.leftData _ n cause _)

/-! ### The commands -/

/-- The state in which a departure begins: without a signal where that is its cause (R155). -/
def State.unsignalled (s : State) (n cause : Nat) : State := s.when (cause == 1) (·.setLane n 0x13 0)

theorem State.lane_unsignalled (s : State) (n cause a : Nat) :
    (s.unsignalled n cause).lane n a = if cause = 1 ∧ a = 0x13 then 0 else s.lane n a := by
  unfold State.unsignalled State.when
  by_cases h : cause = 1
  · simp [h, State.lane_setLane]
  · simp [h]

theorem Only.unsignalled (s : State) (n cause : Nat) : Only (leaveRegs n cause) [Tab.laneForce] s (s.unsignalled n cause) :=
  Only.when _ _ _ fun _ => Only.setLane _ _ _ _ (by simp)

theorem execRetrain_permitted {s : State} {w : SessionNo} {n : LaneNo} (hp : s.permits w (laneIdx n) 0x19 1 = true) :
    exec (.retrain w n) s = .next (s.leaveData n 5).deliverDue :=
  State.laneWrite_next hp (by decide) rfl

theorem execSignalLost_inData {s : State} {n : LaneNo} (h : s.laneState n = 6) :
    exec (.signalLost n) s = .next ((s.setLane n 0x13 0).leaveData n 1).deliverDue :=
  if_pos (by omega)

theorem execUcwRetrain_reached {s : State} {n : LaneNo} (h1 : s.lane n 0x16 = 1) (h2 : s.lane n 0x17 ≤ s.uncorrectedNow n) :
    exec (.ucwRetrain n) s = .next (s.leaveData n 4).deliverDue :=
  if_pos ⟨h1, h2⟩

end Sys2Proof.Machine
end

section
/-!
SUPPORT. The commands that move LINK_STATE (R174, R175): which registers of the port they leave where, and what else follows.
-/
namespace Sys2Proof.Machine

theorem State.reg_linked (s : State) (p v : Nat) :
    (s.linked p v).reg (Reg.PORT.LINK_STATE p) = v
      ∧ (s.linked p v).reg (Reg.PORT.LINK_CHANGES p) = (s.reg (Reg.PORT.LINK_CHANGES p) + 1) % 2 ^ 32
      ∧ (s.linked p v).reg (Reg.PORT.LAST_CHANGE p) = s.stamp := by
  refine ⟨s.linked_state p v, ?_, ?_⟩
  · unfold State.linked; simp [State.reg_setReg, State.reg_bump]
  · unfold State.linked; simp

/-- A flag of EVENTS of a port writes none of the registers before EVENTS. -/
theorem State.reg_portEvent (s : State) {p a : Nat} (i n : Nat) (hp : p < 643) (ha : a < 0x20) :
    (s.event (Reg.PORT.EVENTS p) i n).reg ((0x1400 + p) * 256 + a) = s.reg ((0x1400 + p) * 256 + a) :=
  State.reg_event_other _ _ _ _ _ (quietReg_port hp (by omega)) (by simp only [Reg.PORT.EVENTS]; omega)
    (by simp only [Reg.PORT.EVENTS]; omega)

theorem Fwd.portReg {s t : State} (h : Fwd 0x300000 s t) {p a : Nat} (hp : p < 643) (ha : a < 256) :
    t.reg ((0x1400 + p) * 256 + a) = s.reg ((0x1400 + p) * 256 + a) :=
  h.port (by omega) (by omega)

/-- An enabled port with a cause of DOWN is DOWN. -/
theorem State.refreshLink_down {s : State} {p : Nat} {b : Bool} (he : s.linkDisabled p = false) (hd : s.linkDown p = true) :
    s.refreshLink p b = s.setLink p 1 b := by
  unfold State.refreshLink
  rw [if_neg (by simp [he]), if_pos hd]

/-- An enabled port that is DOWN and whose causes have ended comes up. -/
theorem State.refreshLink_comesUp {s : State} {p : Nat} {b : Bool} (he : s.linkDisabled p = false) (hd : s.linkDown p = false)
    (h : s.reg (Reg.PORT.LINK_STATE p) = 1) : s.refreshLink p b = s.linked p 2 := by
  unfold State.refreshLink
  rw [if_neg (by simp [he]), if_neg (by simp [hd]), if_neg (by omega), State.setLink_eq, if_neg (by omega), if_neg (by decide),
    if_neg (by omega)]

/-! ### LINK_UP (R174) -/

/-- The link registers of a port that becomes UP, and LINK_UP, before its reservations follow. -/
def State.linkedUp (s : State) (p : Nat) : State := (s.linked p 3).event (Reg.PORT.EVENTS p) 0 (0x0400 + p)

theorem State.reg_linkedUp (s : State) {p a : Nat} (hp : p < 643) (ha : a < 0x20) :
    (s.linkedUp p).reg ((0x1400 + p) * 256 + a) = (s.linked p 3).reg ((0x1400 + p) * 256 + a) := State.reg_portEvent _ _ _ hp ha

theorem State.linkUp_flag (s : State) {p : Nat} (hp : p < 643) : bit ((s.linkedUp p).reg (Reg.PORT.EVENTS p)) 0 = true := by
  unfold State.linkedUp
  rw [State.reg_event_flag _ _ _ _ (quietReg_port hp (by decide)), bit_setBit]

theorem Only.linkedUp (s : State) (p : Nat) : Only [Reg.PORT.LINK_STATE p, Reg.PORT.LINK_CHANGES p, Reg.PORT.LAST_CHANGE p,
    Reg.PORT.EVENTS p, Reg.PORT.EVENTS p + 1] [] s (s.linkedUp p) :=
  (State.linked_only s p 3 (by simp)).trans (Only.event _ _ _ _ (.inl (by simp)) (.inl (by simp)))

theorem execLinkUp_comingUp {s : State} {p : Fin 514} (h : s.reg (Reg.PORT.LINK_STATE p) = 2) :
    exec (.linkUp p) s = .next (s.linkedUp p).refreshResvs.deliverDue := by
  show execLinkUp p s = _
  unfold execLinkUp
  rw [if_pos h, State.setLink_eq, if_neg (by omega), if_pos rfl]
  rfl

/-! ### LOCAL_FAULT and REMOTE_FAULT (R174) -/

/-- The fault of kind `i` stands, and its flag is set, before LINK_STATE follows. -/
def State.faulted (s : State) (p i : Nat) : State :=
  (s.setTab Tab.portFault p (setBit (s.tab Tab.portFault p) i true)).event (Reg.PORT.EVENTS p) (2 + i) (0x0800 + p)

theorem Only.faulted (s : State) {p : Nat} (i : Nat) (hp : p < 643) :
    Only [Reg.PORT.EVENTS p, Reg.PORT.EVENTS p + (3 + i)] [Tab.portFault] s (s.faulted p i) := by
  have hc : Reg.PORT.EVENTS p + 1 + (2 + i) = Reg.PORT.EVENTS p + (3 + i) := by omega
  exact (Only.setTab _ _ _ _ (by omega) (.inl (by simp))).trans (Only.event _ _ _ _ (.inl (by simp)) (.inl (by rw [hc]; simp)))

theorem State.faulted_flag (s : State) {p : Nat} (i : Nat) (hp : p < 643) :
    bit ((s.faulted p i).reg (Reg.PORT.EVENTS p)) (2 + i) = true := by
  unfold State.faulted
  rw [State.reg_event_flag _ _ _ _ (quietReg_port hp (by decide)), bit_setBit]

theorem State.faulted_disabled (s : State) {p : Nat} (i : Nat) (hp : p < 643) : (s.faulted p i).linkDisabled p = s.linkDisabled p :=
  State.linkDisabled_congr (State.reg_portEvent _ _ _ hp (by decide)) (State.reg_portEvent _ _ _ hp (by decide))
    (State.reg_portEvent _ _ _ hp (by decide)) (Only.faulted s i hp).fences

theorem setBit_ne_zero (v i : Nat) : setBit v i true ≠ 0 := by
  intro h
  have := bit_setBit v i true
  rw [h] at this
  simp [bit] at this

/-- A fault that stands is a cause of DOWN. -/
theorem State.faulted_down (s : State) {p : Nat} (i : Nat) (hp : p < 643) : (s.faulted p i).linkDown p = true := by
  have ht : (s.faulted p i).tab Tab.portFault p = setBit (s.tab Tab.portFault p) i true := by
    unfold State.faulted State.event
    rw [State.tab_trigger _ _ (by omega) (by decide)]
    exact s.tab_setTab_same _ _ _
  unfold State.linkDown
  rw [ht]
  simp [setBit_ne_zero]

theorem State.faultSignal_begins {s : State} {p i : Nat} (hp : p < 643) (hb : bit (s.tab Tab.portFault p) i = false)
    (hl : i = 1 → s.lanesUp p = true) (hk : s.portKind p ≠ 2) (he : s.linkDisabled p = false) :
    s.faultSignal p i = (s.faulted p i).setLink p 1 true := by
  have hused : s.portKind p ≠ 0 := fun h => by simp [State.linkDisabled, h] at he
  have hheard : (i == 1 && !s.lanesUp p) = false := by
    by_cases h : i = 1
    · simp [hl h]
    · simp [h]
  unfold State.faultSignal
  dsimp only
  rw [if_neg (by simp [hb, hheard, hk, hused])]
  exact State.refreshLink_down ((s.faulted_disabled i hp).trans he) (s.faulted_down i hp)

/-! ### LINK_FAULT_CLEARED (R174) -/

theorem execLinkFaultCleared_down {s : State} {p : Fin 514} (hu : s.lanesUp p = true) (hk : s.portKind p ≠ 2)
    (he : s.linkDisabled p = false) (h : s.reg (Reg.PORT.LINK_STATE p) = 1) :
    exec (.linkFaultCleared p) s = .next ((s.setTab Tab.portFault p 0).linked p 2).deliverDue := by
  have hup : (s.setTab Tab.portFault p 0).linkDown p = false := by
    have hc : (s.setTab Tab.portFault p 0).tab Tab.portFault p = 0 := by rw [State.tab_setTab, if_pos rfl]
    have hl : (s.setTab Tab.portFault p 0).lanesUp p = true := hu
    have hn : (s.setTab Tab.portFault p 0).portKind p ≠ 2 := hk
    unfold State.linkDown
    simp [hc, hl, hn]
  exact congrArg State.done (State.refreshLink_comesUp he hup h)

end Sys2Proof.Machine
end

section
/-!
SUPPORT. What the ledgers' checks leave of the registers (R344, R349, R356): a frame's port keeps its MAX_FRAME, whatever its number.
-/
namespace Sys2Proof.Machine

/-- The registers in which a discrepancy is logged, counted and raised. -/
abbrev tallyRegs : List Nat :=
  [Reg.TALLY_CONTROL.DISCREPANCIES, Reg.TALLY_LOG.LOG_HEAD, Reg.TALLY_CONTROL.EVENTS, Reg.TALLY_CONTROL.EVENTS + 1]

section
variable {k : Nat} (hq : quietReg k = true) (hf : faultReg k = false)
include hq hf

theorem State.reg_logFault_other (s : State) (code cls action source part data : Nat) :
    (s.logFault code cls action source part data).reg k = s.reg k := by
  have hne : ∀ j ∈ [Reg.FAULT_LOG.LOG_HEAD, Reg.FAULT_LOG.PERSISTED_HEAD], k ≠ j := fun j hj h => by
    rw [h, logRegs_fault j hj] at hf; cases hf
  exact State.reg_logFault _ _ _ _ _ _ _ _ hq (hne _ (by simp)) (hne _ (by simp))

theorem State.reg_setCause_other (s : State) (i : Nat) (b : Bool) : (s.setCause i b).reg k = s.reg k :=
  State.reg_setCause _ _ _ _ hq fun h => by rw [modeRegs_fault k h] at hf; cases hf

theorem State.reg_fatalFault (s : State) (kind code source part data : Nat) : (s.fatalFault kind code source part data).reg k = s.reg k := by
  unfold State.fatalFault
  split
  · rw [State.reg_setCause_other hq hf, State.reg_logFault_other hq hf]
  · split
    · dsimp only
      split
      · rw [State.reg_setCause_other hq hf, State.reg_logFault_other hq hf, State.reg_logFault_other hq hf]
      · rw [State.reg_setTab, State.reg_logFault_other hq hf, State.reg_logFault_other hq hf]
    · dsimp only
      rw [State.reg_setTab, State.reg_setTab, State.reg_setTab, State.reg_logFault_other hq hf]

omit hq hf in
theorem State.reg_queueFence (s : State) (h : Nat) (log : Option Nat) : (s.queueFence h log).reg k = s.reg k := by
  unfold State.queueFence
  split
  · rfl
  · split
    · cases log
      · rfl
      · rfl
    · rfl

omit hq hf in
theorem State.reg_logTally (s : State) (quantity part h ledger found by_ outcome : Nat) (hk : k ∉ tallyRegs) :
    (s.logTally quantity part h ledger found by_ outcome).reg k = s.reg k := by
  simp only [List.mem_cons, not_or] at hk
  obtain ⟨hcount, hhead, -, -⟩ := hk
  unfold State.logTally State.when
  dsimp only
  split
  · rw [State.reg_setTab, State.reg_setReg_other _ _ hhead, State.reg_setReg_other _ _ hcount, State.reg_setTab]
  · rw [State.reg_setReg_other _ _ hhead, State.reg_setReg_other _ _ hcount, State.reg_setTab]

theorem State.reg_discrepancy (s : State) (quantity part h ledger found by_ : Nat) (hk : k ∉ tallyRegs) :
    (s.discrepancy quantity part h ledger found by_).reg k = s.reg k := by
  have hev : k ≠ Reg.TALLY_CONTROL.EVENTS ∧ k ≠ Reg.TALLY_CONTROL.EVENTS + 1 + 0 :=
    ⟨fun e => hk (by simp [e]), fun e => hk (by simp [e])⟩
  unfold State.discrepancy
  dsimp only
  split
  · rw [State.reg_when_setTab, State.reg_fatalFault hq hf, State.reg_event_other _ _ _ _ _ hq hev.1 hev.2, State.reg_logTally _ _ _ _ _ _ _ _ hk]
  · rw [State.reg_queueFence, State.reg_logFault_other hq hf, State.reg_event_other _ _ _ _ _ hq hev.1 hev.2,
      State.reg_logTally _ _ _ _ _ _ _ _ hk]

theorem State.reg_updateFrame (s : State) (f g : Frame) (hk : k ∉ tallyRegs) : (s.updateFrame f g).reg k = s.reg k := by
  unfold State.updateFrame State.allocate State.unreport State.report
  dsimp only
  split
  · split
    · exact State.reg_discrepancy hq hf _ _ _ _ _ _ _ hk
    · rfl
  · split
    · exact State.reg_discrepancy hq hf _ _ _ _ _ _ _ hk
    · rfl

end

theorem State.maxFrame_updateFrame (s : State) (f g : Frame) (p : Nat) : (s.updateFrame f g).maxFrame p = s.maxFrame p := by
  refine State.reg_updateFrame ?_ (faultReg_of_mid (by unfold Reg.PORT.MAX_FRAME; omega)) s f g ?_
  · rw [quietReg_iff]; unfold Reg.PORT.MAX_FRAME; omega
  · simp only [List.mem_cons, List.not_mem_nil, or_false]
    unfold Reg.PORT.MAX_FRAME Reg.TALLY_CONTROL.DISCREPANCIES Reg.TALLY_LOG.LOG_HEAD Reg.TALLY_CONTROL.EVENTS
    omega

end Sys2Proof.Machine
end

section
/-!
SUPPORT. The end of a frame that waits for its parser, and the parse of one that is complete (R171, R188, R201, R246, R259).
-/
namespace Sys2Proof.Machine

theorem State.frame?_id {s : State} {i : Nat} {f : Frame} (h : s.frame? i = some f) : f ∈ s.frames ∧ f.id = i :=
  ⟨List.mem_of_find?_eq_some h, by simpa using List.find?_some h⟩

/-- A frame put in the place of the one with its number is the one found under it. -/
theorem State.frame?_putFrame {s : State} {f g : Frame} (h : s.frame? g.id = some f) : (s.putFrame g).frame? g.id = some g := by
  unfold State.frame? at h ⊢
  unfold State.putFrame
  dsimp only
  generalize s.frames = l at h ⊢
  induction l with
  | nil => cases h
  | cons x l ih =>
    by_cases hx : x.id = g.id
    · simp [hx]
    · rw [List.find?_cons_of_neg (by simpa using hx)] at h
      rw [List.map_cons, if_neg hx, List.find?_cons_of_neg (by simpa using hx)]
      exact ih h

theorem State.frame?_updateFrame {s : State} {f g : Frame} (h : s.frame? g.id = some f) : (s.updateFrame f g).frame? g.id = some g := by
  have hput := State.frame?_putFrame h
  unfold State.frame? at hput ⊢
  rw [State.updateFrame_frames, hput]

/-- The last octets of a frame that waits for its parser, on no Dalzan link and within MAX_FRAME, are written (R171). -/
theorem State.arrive_waiting {s : State} {f : Frame} {more : Bytes} (fcs : Nat) (hf : s.frame? f.id = some f) (hs : f.stage = 0)
    (hd : f.pool ≠ Pool.dalzan) (hmax : (f.octets ++ more).length ≤ s.maxFrame f.srcPort)
    (hmore : f.octets = [] ∨ more = [] ∨ startOctets f.srcPort ≤ f.octets.length) :
    s.arrive f more fcs = (s.updateFrame f { f with octets := f.octets ++ more }, some { f with octets := f.octets ++ more }) := by
  have htaken : (if f.octets.length ≠ 0 ∧ f.octets.length < startOctets f.srcPort then [] else more) = more := by
    rcases hmore with h | h | h
    · exact if_neg (by simp [h])
    · rw [h, ite_self]
    · exact if_neg (by omega)
  have hall : (f.octets ++ more).take (s.maxFrame f.srcPort + 1) = f.octets ++ more := List.take_of_length_le (by omega)
  have hdz : (f.pool == Pool.dalzan) = false := by simpa using hd
  have hfound : (s.updateFrame f { f with octets := f.octets ++ more }).frame? f.id = some { f with octets := f.octets ++ more } :=
    State.frame?_updateFrame (g := { f with octets := f.octets ++ more }) hf
  have hlong : (f.stage == 2) = false := by simp [hs]
  have hwait : (f.stage != 0) = false := by simp [hs]
  unfold State.arrive
  simp only [htaken, hall, hdz, hlong, hwait, State.when, Bool.false_and, Bool.false_eq_true, if_false, if_neg (Nat.not_lt.mpr hmax), hfound]

/-- A frame with its tail, as it waits for its parser: `reason` is what the tail gives it, 0 for a correct FCS. -/
def Frame.ended (f : Frame) (octets : Bytes) (len reason : Nat) : Frame :=
  { f with octets := octets, tailed := true, len := len, tailReason := reason }

/-- A frame that waits for its parser ends: it is held with its length and its reason (R246). -/
theorem State.endArrival_waiting {s : State} {f : Frame} (reason len : Nat) (hs : f.stage = 0) :
    s.endArrival f reason len = (s.handoffTail (f.ended f.octets len reason) (reason == 0)).updateFrame f (f.ended f.octets len reason) := by
  have hthird : f.stage ≠ 3 := by omega
  have hreason : (if reason = 0 then 0 else reason) = reason := by
    split
    · exact Eq.symm ‹_›
    · rfl
  unfold State.endArrival
  simp only [if_pos hs, if_neg hthird, if_neg fun h : f.stage = 3 ∧ f.tailReason ≠ 0 => hthird h.1, hreason]
  rfl

/-- The length with which FRAME_TAIL ends a frame of `b` octets: the FCS counts where it is delimited (R171). -/
def tailLen (b : Bytes) (tail : TailEnd) : Nat := b.length + (if delimited tail then 4 else 0)

/-- The reason with which FRAME_TAIL ends a frame of `b` octets of port `p` (R171, R259). -/
def State.endReason (s : State) (p : Nat) (b : Bytes) (tail : TailEnd) : Nat :=
  if s.maxFrame p < tailLen b tail then Drop.rxOversize else tailReason b tail

theorem execFrameTail_waiting {s : State} {f : Frame} {octets : FrameOctets} (tail : TailEnd) (hf : s.frame? f.id = some f)
    (ht : f.tailed = false) (hs : f.stage = 0) (hd : f.pool ≠ Pool.dalzan) (hm : isMacControl (f.octets ++ octets) = false)
    (hmax : (f.octets ++ octets).length ≤ s.maxFrame f.srcPort)
    (hmore : f.octets = [] ∨ octets = [] ∨ startOctets f.srcPort ≤ f.octets.length) :
    exec (.frameTail f.id octets tail) s
      = State.done ((((s.updateFrame f { f with octets := f.octets ++ octets }).countRx f.srcPort (tailLen (f.octets ++ octets) tail)
          (s.endReason f.srcPort (f.octets ++ octets) tail)).endArrival { f with octets := f.octets ++ octets }
          (s.endReason f.srcPort (f.octets ++ octets) tail) (tailLen (f.octets ++ octets) tail)).fifoCheckOf f.srcPort) := by
  show execFrameTail f.id octets tail s = _
  unfold execFrameTail State.endReason tailLen
  simp only [hf, ht, State.arrive_waiting _ hf hs hd hmax hmore, State.maxFrame_updateFrame, hs, hm]
  simp

/-- So it is held with its tail, and no copy is made or ended. -/
theorem execFrameTail_holds {s : State} {f : Frame} {octets : FrameOctets} (tail : TailEnd) (hf : s.frame? f.id = some f)
    (ht : f.tailed = false) (hs : f.stage = 0) (hd : f.pool ≠ Pool.dalzan) (hm : isMacControl (f.octets ++ octets) = false)
    (hmax : (f.octets ++ octets).length ≤ s.maxFrame f.srcPort)
    (hmore : f.octets = [] ∨ octets = [] ∨ startOctets f.srcPort ≤ f.octets.length) :
    ∃ t, exec (.frameTail f.id octets tail) s = .next t ∧ t.copies = s.copies
      ∧ f.ended (f.octets ++ octets) (tailLen (f.octets ++ octets) tail) (s.endReason f.srcPort (f.octets ++ octets) tail) ∈ t.frames := by
  obtain ⟨hmem, -⟩ := State.frame?_id hf
  have hx := execFrameTail_waiting tail hf ht hs hd hm hmax hmore
  rw [State.endArrival_waiting (f := { f with octets := f.octets ++ octets }) _ _ hs] at hx
  refine ⟨_, hx, ?_, ?_⟩
  · have hc := State.countRx_kc _ f.srcPort (tailLen (f.octets ++ octets) tail) (s.endReason f.srcPort (f.octets ++ octets) tail)
      (State.updateFrame_kc s f { f with octets := f.octets ++ octets } ⟨rfl⟩)
    exact (State.deliverDue_kc (State.fifoCheckOf_kc _ _ (State.updateFrame_kc _ _ _ (State.handoffTail_kc _ _ _ hc)))).eq
  · rw [(State.deliverDue_kf (State.fifoCheckOf_kf _ _ ⟨rfl⟩)).eq, State.updateFrame_frames]
    refine State.mem_putFrame (f := { f with octets := f.octets ++ octets }) ?_ rfl
    rw [(State.handoffTail_kf _ _ _ (State.countRx_kf _ _ _ _ ⟨rfl⟩)).eq, State.updateFrame_frames]
    exact State.mem_putFrame hmem rfl

/-! ### The parse (R188) -/

/-- A frame that the ingress stages decide stands at the end of the line, and the others as they stood. -/
theorem State.decided_frames (s : State) (f g : Frame) : (s.decided f g).frames = s.frames.filter (fun h => h.id != g.id) ++ [g] := by
  have hrest : ∀ l : List Frame, (l.map (fun h => if h.id = g.id then g else h)).filter (fun h => h.id != g.id)
      = l.filter (fun h => h.id != g.id) := fun l => by
    induction l with
    | nil => rfl
    | cons x l ih =>
      by_cases hx : x.id = g.id
      · simpa [hx] using ih
      · simpa [hx] using ih
  unfold State.decided
  rw [(State.pfcCheck_kf _ _ ⟨rfl⟩).eq, State.updateFrame_frames]
  exact congrArg (· ++ [g]) (hrest s.frames)

/-- What PARSER_START makes of a complete frame: decided, and its handoff handed over where it is requested (R201). -/
def State.parsed (s : State) (f : Frame) : State :=
  let (s, g) := s.ingress f
  let s := s.decided f g
  if g.tailed then s.handoffTail g (g.tailReason == 0) else s

theorem State.parsed_frames (s : State) (f : Frame) :
    (s.parsed f).frames = (s.ingress f).1.frames.filter (fun h => h.id != (s.ingress f).2.id) ++ [(s.ingress f).2] := by
  rw [← State.decided_frames _ f]
  exact (Kf.ite (fun _ => State.handoffTail_kf _ _ _ ⟨rfl⟩) fun _ => ⟨rfl⟩).eq

theorem execParserStart_complete {s : State} {frame : Nat} {f : Frame} (octets : FrameOctets) (hf : s.frame? frame = some f)
    (ht : f.tailed = true) (hs : f.stage = 0) (hn : s.parsesNext f = true) (hm : isMacControl f.octets = false)
    (hroom : ((s.ingress f).1.waiting (s.ingress f).2.pipe).length < 64) :
    exec (.parserStart frame octets) s = .next ((s.parsed f).fifoCheckOf f.srcPort).deliverDue := by
  show execParserStart frame octets s = _
  unfold execParserStart State.parsed
  have hparse : ¬(f.stage ≠ 0 ∨ s.parsesNext f = false) := by simp [hs, hn]
  have hread : (isMacControl f.octets || (!f.tailed && decide (f.octets.length < s.reg (Reg.PORT_PARSE.PARSE_DEPTH f.srcPort)))) = false := by
    simp [hm, ht]
  simp only [hf, if_neg hparse, if_pos ht, if_neg fun h : f.stage ≠ 0 => h hs, hread, Bool.false_eq_true, if_false,
    if_neg (Nat.not_le.mpr hroom), State.done_eq]

theorem execParserStart_nothing {s : State} {frame : Nat} {f : Frame} (octets : FrameOctets)
    (h : s.frame? frame = none ∨ (s.frame? frame = some f ∧ (f.stage ≠ 0 ∨ s.parsesNext f = false))) :
    exec (.parserStart frame octets) s = .next s := by
  show execParserStart frame octets s = _
  unfold execParserStart
  rcases h with h | ⟨h, hwait⟩
  · simp only [h]
  · simp only [h]
    exact if_pos hwait

end Sys2Proof.Machine
end

section
/-!
The statements of 06_lanes.md settled.
-/
open Sys2Proof Sys2Proof.Machine

/-- Settles O20: every event leaves its own state first, and the change of the lane's state then writes STATE and the forced training. -/
theorem laneBringsUp : Obligations.LaneBringsUp := by
  unfold Obligations.LaneBringsUp
  refine fun s n => ⟨fun c old new detect hc hold => ?_, fun ctle ffe dfe ppm h4 => ?_, fun h => ?_⟩
  · rcases hc with ⟨rfl, rfl, rfl, rfl⟩ | ⟨rfl, rfl, rfl, rfl⟩ | ⟨⟨taps, precode, rfl⟩, rfl, rfl, rfl⟩ | ⟨rfl, rfl, rfl, rfl⟩
      | ⟨rfl, h2, h5, rfl, rfl⟩ | ⟨rfl, rfl, rfl, rfl⟩ | ⟨rfl, h0, h6, h8, rfl, rfl⟩
    · have hst : (s.setLane n 0x13 1).laneState n = 1 := (State.lane_setLane_other _ _ _ (by decide)).trans hold
      have h := State.broughtUp_of (n := n) (b := true) (c := .signalDetected n) (new := 2) nofun (Only.setLane s n 0x13 1 (by simp)) (by omega)
        (by omega) (by decide) (by decide) nofun
      rw [State.lane_setLane_same] at h
      exact ⟨_, execSignalDetected_waiting hold, h⟩
    · have hst : (s.cdrReady n).laneState n = 2 := ((Only.cdrReady (R := []) s n).lane n (by decide) (by simp)).trans hold
      have hdetect : (s.cdrReady n).lane n 0x13 = s.lane n 0x13 := (Only.cdrReady (R := []) s n).lane n (by decide) (by simp)
      have h := State.broughtUp_of (n := n) (b := true) (c := .cdrLocked n) (new := if s.trains n then 3 else 4)
        nofun (Only.cdrReady s n) (by omega)
        (by omega) (by split <;> decide) (by split <;> decide) nofun
      rw [hdetect] at h
      exact ⟨_, execCdrLocked_locked hold, h⟩
    · have hst : (s.trained n taps precode).laneState n = 3 :=
        ((Only.trained (R := []) s n taps precode).lane n (by decide) (by simp)).trans hold
      have hdetect : (s.trained n taps precode).lane n 0x13 = s.lane n 0x13 :=
        (Only.trained (R := []) s n taps precode).lane n (by decide) (by simp)
      have h := State.broughtUp_of (n := n) (b := true) (c := .trainingComplete ⟨n, taps, precode⟩) (new := 4) nofun (Only.trained s n taps precode)
        (by omega) (by omega) (by decide) (by decide) (fun _ _ hc i hi => by cases hc; exact State.tab_trained _ _ _ _ hi)
      rw [hdetect] at h
      exact ⟨_, execTrainingComplete_training taps precode hold, h⟩
    · exact ⟨_, execTrainingFailed_training hold, State.broughtUp_failed hold⟩
    · have hst : (s.setLane n 0x13 0).laneState n = s.laneState n := State.lane_setLane_other _ _ _ (by decide)
      have h := State.broughtUp_of (n := n) (b := true) (c := .bringupSignalLost n) (new := 1) nofun (Only.setLane s n 0x13 0 (by simp)) (by omega)
        (by omega) (by decide) (by decide) nofun
      rw [State.lane_setLane_same] at h
      exact ⟨_, execBringupSignalLost_bringup (by omega) (by omega), h⟩
    · exact ⟨_, execFastRetrainTimeout_retrain hold,
        State.broughtUp_of nofun (Only.refl s) (by omega) (by omega) (by decide) (by decide) nofun⟩
    · exact ⟨_, execTxPllUnlock_running (by omega) (by omega),
        State.broughtUp_of nofun (Only.refl s) (by omega) (by omega) (by decide) (by decide) nofun⟩
  · have hst := s.laneState_adapted n ctle ffe dfe ppm
    obtain ⟨hstate, hlane, honly⟩ := State.laneTo_done (st := 5) true (by omega : (s.adapted n ctle ffe dfe ppm).laneState n ≠ 6)
      (by omega) (by decide) (by decide)
    obtain ⟨hctle, hppm, hffe, hdfe⟩ := s.lane_adapted n ctle ffe dfe ppm
    refine ⟨_, execAdaptationConverged_adapting ctle ffe dfe ppm h4, hstate, ?_, ?_, ?_, fun hm => ?_, fun hm => ?_,
      (Only.adapted s n ctle ffe dfe ppm).trans (honly.mono (by simp) (by simp))⟩
    · rw [hlane _ (by decide) (by decide), hctle]
    · rw [hlane _ (by decide) (by decide), hppm]
    · rw [hlane _ (by decide) (by decide), hffe]
    · rw [hlane _ (by decide) (by decide), hdfe, if_neg (by omega)]
    · rw [hlane _ (by decide) (by decide), hdfe, if_pos hm]
  · have hf : Fwd 0x140000 (s.dataReached n) ((s.dataReached n).portFollows n false true).deliverDue :=
      State.deliverDue_fw (State.portFollows_fw (by decide) _ _ _ _ (Fwd.refl _))
    obtain ⟨hstate, hflag⟩ := s.lane_dataReached n
    refine ⟨_, _, execDataEntered_aligned h, ?_, ?_, Only.dataReached s n, hf⟩
    · exact (hf.lane n _ (by decide)).trans hstate
    · rw [hf.lane n _ (by decide), hflag]

/-- Settles O21: each event is a departure under its cause, the lane's own registers first and then what follows on its port. -/
theorem laneLeavesData : Obligations.LaneLeavesData := by
  unfold Obligations.LaneLeavesData
  refine ⟨fun s n c cause new h6 hc => ?_, fun s w n h6 hp => ?_⟩
  · have hx : exec c s = .next ((s.unsignalled n cause).leaveData n cause).deliverDue ∧ 1 ≤ cause ∧ new = leftState cause
        ∧ (c = .signalLost n → cause = 1) := by
      rcases hc with ⟨rfl, rfl, rfl⟩ | ⟨rfl, rfl, rfl⟩ | ⟨rfl, rfl, rfl⟩ | ⟨rfl, h1, h2, rfl, rfl⟩
        | ⟨⟨w, rfl, hp⟩, rfl, rfl⟩ | ⟨rfl, rfl, rfl⟩
      · exact ⟨execSignalLost_inData h6, by decide, rfl, fun _ => rfl⟩
      · exact ⟨rfl, by decide, rfl, nofun⟩
      · exact ⟨rfl, by decide, rfl, nofun⟩
      · exact ⟨execUcwRetrain_reached h1 h2, by decide, rfl, nofun⟩
      · exact ⟨execRetrain_permitted hp, by decide, rfl, nofun⟩
      · exact ⟨rfl, by decide, rfl, nofun⟩
    obtain ⟨hexec, hcause, rfl, hlost⟩ := hx
    have hin : (s.unsignalled n cause).laneState n = 6 := by
      refine (State.lane_unsignalled s n cause 0x01).trans ?_
      rw [if_neg (by simp)]
      exact h6
    have hf : Fwd 0x140000 ((s.unsignalled n cause).departed n cause) ((s.unsignalled n cause).leaveData n cause).deliverDue := by
      rw [State.leaveData_inData hin]
      exact State.deliverDue_fw (State.portFollows_fw (by decide) _ _ _ _ (Fwd.refl _))
    obtain ⟨hstate, hlast, hcount, hsignal⟩ := (s.unsignalled n cause).lane_departed n cause
    obtain ⟨hown, hstarted⟩ := (s.unsignalled n cause).events_departed n cause
    have hlane : ∀ a, a < 256 → ((s.unsignalled n cause).leaveData n cause).deliverDue.lane n a
        = ((s.unsignalled n cause).departed n cause).lane n a := fun a ha => hf.lane n a ha
    refine ⟨_, (s.unsignalled n cause).departed n cause, hexec, ?_, ?_, ?_, fun h => ?_, ?_, fun h => ?_, ?_, hf⟩
    · exact (hlane _ (by decide)).trans hstate
    · rw [hlane _ (by decide), hlast]
    · rw [hlane _ (by decide), hcount, State.lane_unsignalled, if_neg (by simp)]
    · rw [hlane _ (by decide), hown h]
    · rw [hlane _ (by decide), hstarted]
    · rw [hlane _ (by decide), hsignal, State.lane_unsignalled, if_pos ⟨hlost h, rfl⟩]
    · exact Only.drawn (Only.unsignalled s n cause).withDrawn (Only.departed _ n hcause)
  · refine ⟨_, execRetrain_permitted hp, ?_⟩
    rw [State.leaveData_other h6]
    exact Only.deliverDue s

/-- Settles O23: a write that chooses a test enters TEST, and the checker and the eye monitor write registers of their own. -/
theorem laneTests : Obligations.LaneTests := by
  unfold Obligations.LaneTests
  refine ⟨fun s w n c sub v hv h6 h8 hlock hp hc => ?_, fun s n => ⟨fun h8 hrx => ?_, fun counted errors h => ?_, fun w hp => ?_,
    fun w eye hp heye hidle => ?_, fun map hrun hlen => ?_⟩⟩
  · have hsub : sub < 256 ∧ sub ≠ 0x01 := by
      rcases hc with ⟨-, rfl⟩ | ⟨-, rfl, -⟩ | ⟨-, rfl, -⟩ <;> decide
    refine ⟨_, execTest_enters hv h6 h8 hlock hp hc, ?_, ?_, (Only.testEntered s n sub v).trans (Only.deliverDue _)⟩
    · rw [State.lane_deliverDue _ _ hsub.1, State.lane_testEntered, if_neg hsub.2, if_pos rfl]
    · exact (State.lane_deliverDue _ _ (by decide)).trans (State.lane_testEntered _ _ _ _ _)
  · refine ⟨_, execPrbsLock_locks h8 hrx, ?_, (Only.setLane _ _ _ _ (by simp)).trans (Only.deliverDue _)⟩
    rw [State.lane_deliverDue _ _ (by decide), State.lane_setLane_same]
  · obtain ⟨hlock, hbits, herrors⟩ := s.lane_checkEnded n counted errors
    refine ⟨_, execPrbsLockLost_locked counted errors h, ?_, ?_, ?_, (Only.checkEnded s n counted errors).trans (Only.deliverDue _)⟩
    · rw [State.lane_deliverDue _ _ (by decide), hlock]
    · rw [State.lane_deliverDue _ _ (by decide), hbits]
    · rw [State.lane_deliverDue _ _ (by decide), herrors]
  · refine ⟨_, execPrbsClear_permitted hp, ?_, ?_,
      ((Only.setLane _ _ _ _ (by simp)).trans (Only.setLane _ _ _ _ (by simp))).trans (Only.deliverDue _)⟩
    · rw [State.lane_deliverDue _ _ (by decide), State.lane_setLane_other _ _ _ (by decide), State.lane_setLane_same]
    · rw [State.lane_deliverDue _ _ (by decide), State.lane_setLane_same]
  · refine ⟨_, execEyeStart_starts hp heye hidle, ?_, (Only.scanStarted s n).trans (Only.deliverDue _)⟩
    exact (State.lane_deliverDue _ _ (by decide)).trans (State.lane_setLane_same _ _ _ _)
  · obtain ⟨c, width, hx⟩ := execEyeScanDone_whole hrun hlen
    have hdrew : ∃ k, s.when c State.drew = { s with freeCtr := k } := by
      cases c
      · exact ⟨s.freeCtr, rfl⟩
      · exact ⟨s.freeCtr + 1, rfl⟩
    obtain ⟨k, hk⟩ := hdrew
    rw [hk] at hx
    have ho := (Only.scanDone { s with freeCtr := k } n map (4 * zeroRun ((map.drop 1024).take 64) 32) width).trans (Only.deliverDue _)
    obtain ⟨hstate, hmap, hheight⟩ := State.lane_scanDone { s with freeCtr := k } n map (4 * zeroRun ((map.drop 1024).take 64) 32) width
    refine ⟨_, hx, ?_, ?_, ?_, ?_⟩
    · rw [State.lane_deliverDue _ _ (by decide), hstate]
    · rw [State.lane_deliverDue _ _ (by decide), hmap]
    · rw [State.lane_deliverDue _ _ (by decide), hheight]
    · rw [ho.freeCtr]; exact ho

/-- Settles O24: each command is the port's link registers first, then a change of LINK_STATE or what follows it. -/
theorem linkStateMoves : Obligations.LinkStateMoves := by
  unfold Obligations.LinkStateMoves
  refine ⟨fun s p h => ?_, fun s p c i hc hb hl hk he => ?_, fun s p hu hk he h => ?_⟩
  · have hp : p.val < 643 := by omega
    have hf : Fwd 0x300000 (s.linkedUp p) (s.linkedUp p).refreshResvs.deliverDue :=
      State.deliverDue_fw (State.refreshResvs_fw (by decide) _ (Fwd.refl _))
    obtain ⟨hstate, hchanges, hlast⟩ := s.reg_linked p 3
    refine ⟨_, s.linkedUp p, execLinkUp_comingUp h, ?_, ?_, ?_, ?_, Only.linkedUp s p, hf⟩
    · rw [hf.portReg hp (by decide), s.reg_linkedUp hp (by decide), hstate]
    · rw [hf.portReg hp (by decide), s.reg_linkedUp hp (by decide), hchanges]
    · rw [hf.portReg hp (by decide), s.reg_linkedUp hp (by decide), hlast]
    · rw [hf.portReg hp (by decide), s.linkUp_flag hp]
  · have hp : p.val < 643 := by omega
    have hi : i = 0 ∨ i = 1 := hc.imp And.right And.right
    have hx : exec c s = .next ((s.faulted p i).setLink p 1 true).deliverDue := by
      rw [← State.faultSignal_begins hp hb hl hk he]
      rcases hc with ⟨rfl, rfl⟩ | ⟨rfl, rfl⟩
      · rfl
      · rfl
    obtain ⟨u, hu, hf, hstate, hrest⟩ := (s.faulted p i).setLink_forward p 1 true hp
    obtain ⟨hkept, hbits⟩ := hrest (by decide)
    have hf' : Fwd 0x300000 u ((s.faulted p i).setLink p 1 true).deliverDue := State.deliverDue_fw hf
    refine ⟨_, u, hx, ?_, ?_, ?_, hf'⟩
    · rw [hf'.portReg hp (by decide), hstate]
    · rw [hf'.portReg hp (by decide), hbits _ (by omega), s.faulted_flag i hp]
    · refine ((Only.faulted s i hp).mono (by simp) (by simp)).trans ((hu.shrink fun k hk hn => hkept k ?_).mono (fun _ => id) (by simp))
      simp only [List.mem_cons, List.not_mem_nil, or_false] at hk hn ⊢
      omega
  · obtain ⟨hstate, -, -⟩ := (s.setTab Tab.portFault p 0).reg_linked p 2
    refine ⟨_, execLinkFaultCleared_down hu hk he h, ?_, ?_⟩
    · rw [State.reg_deliverDue _ (quietReg_port (by omega) (by decide)), hstate]
    · exact ((Only.setTab _ _ _ _ (by omega) (.inl (by simp))).trans (State.linked_only _ _ _ (by simp))).trans (Only.deliverDue _)

/-- Settles O29: the tail of a waiting frame writes the frame itself, and a complete frame is parsed and takes its place in the line. -/
theorem frameEnds : Obligations.FrameEnds := by
  unfold Obligations.FrameEnds
  refine ⟨fun s frame f octets tail hf ht hs hd hm hmax hmore => ?_, fun s frame f octets hf ht hs hn hm hroom => ?_,
    fun s frame f octets h => execParserStart_nothing octets h⟩
  · obtain ⟨-, rfl⟩ := State.frame?_id hf
    obtain ⟨t, hx, hcopies, hheld⟩ := execFrameTail_holds tail hf ht hs hd hm hmax hmore
    have hlen : tailLen (f.octets ++ octets) tail = f.octets.length + octets.length + (if delimited tail then 4 else 0) := by
      unfold tailLen; rw [List.length_append]
    refine ⟨t, _, hx, hheld, rfl, rfl, rfl, hlen, hs, ?_, hcopies, execFrameTail_fw _ _ _ s t hx⟩
    rw [← hlen]
    rfl
  · have hx := execParserStart_complete octets hf ht hs hn hm hroom
    refine ⟨_, hx, rfl, ?_, execParserStart_fw _ _ s _ hx⟩
    rw [← s.parsed_frames f]
    exact (State.deliverDue_kf (State.fifoCheckOf_kf _ _ ⟨rfl⟩)).eq
end

section
/-!
SUPPORT. PAUSE, PFC and bypass frames (R173, R177, R288, R593): what each command that is not turned away makes of the state, and its
frame.
-/
namespace Sys2Proof.Machine

theorem Ctr.port_lt {p k : Nat} (hp : p < 643) (hk : k < 16) : Ctr.port p k < 2 ^ 39 := by unfold Ctr.port; omega

/-! ### PAUSE and PFC (R173, R288) -/

/-- A MAC control frame of 64 octets received, and counted under `k` of its port's counters. -/
def State.controlCounted (s : State) (p k : Nat) : State := (s.macReceived p 64).count (Ctr.port p k)

theorem Only.controlCounted {R T : List Nat} (s : State) {p k : Nat} (hp : p < 514) (hk : k < 16) : Only R T s (s.controlCounted p k) :=
  (Only.macReceived s p 64 hp).trans (Only.count _ _ _ (Ctr.port_lt (by omega) hk))

theorem State.reg_macReceived_port (s : State) {p a : Nat} (hp : p < 514) (n : Nat) (ha : a < 256) :
    (s.macReceived p n).reg ((0x1400 + p) * 256 + a) = s.reg ((0x1400 + p) * 256 + a) :=
  (Only.macReceived (R := []) (T := []) s p n hp).regs _ (by simp) (quietReg_port (by omega) ha)

theorem execPause_running {s : State} {p : Fin 514} (quanta : Nat) (h : 2 ≤ s.reg (Reg.PORT.LINK_STATE p)) :
    exec (.pause p quanta) s = .next ((s.controlCounted p 7).when (decide (512 ≤ p.val) && s.reg (Reg.PORT.PAUSE_RX_ENABLE p) == 1)
      (·.setTab Tab.hostPause (p - 512) (quanta % 65536))).deliverDue := by
  have hreg : (s.controlCounted p 7).reg (Reg.PORT.PAUSE_RX_ENABLE p) = s.reg (Reg.PORT.PAUSE_RX_ENABLE p) :=
    (Only.controlCounted (R := []) (T := []) s p.isLt (by decide)).regs _ (by simp) (quietReg_port (by omega) (by decide))
  rw [← hreg]
  exact if_neg (Nat.not_lt.mpr h)

/-- The elements written in turn hold their values, and the others of the table are as they were. -/
theorem State.tab_forAll_setTab (s : State) (t base : Nat) (v : Nat → Nat) (l : List Nat) (j : Nat) :
    (s.forAll l (fun s i => s.setTab t (base + i) (v i))).tab t (base + j) = if j ∈ l then v j else s.tab t (base + j) := by
  induction l generalizing s with
  | nil => rfl
  | cons i l ih =>
    refine (ih (s.setTab t (base + i) (v i))).trans ?_
    rw [State.tab_setTab_element]
    by_cases hj : j = i
    · simp [hj]
    · simp [hj]

/-- The timers of the enabled classes `l` hold the times of a PFC frame. -/
def State.pfcTimed (s : State) (p : Nat) (times l : List Nat) : State :=
  s.forAll l (fun s i => s.setTab Tab.pfcTimer (8 * p + i) (times.getD i 0 % 65536))

theorem execPfc_ethernet {s : State} {p : Fin 514} (enable : Nat) (times : List Nat) (h : 2 ≤ s.reg (Reg.PORT.LINK_STATE p))
    (hk : s.portKind p = 1) :
    exec (.pfc p enable times) s = .next ((s.controlCounted p 10).pfcTimed p times
      ((List.range 8).filter (fun i => bit enable i && bit (s.reg (Reg.PORT_PFC.RX_ENABLE p)) i))).deliverDue := by
  have hkind : (s.macReceived p 64).portKind p = 1 := (s.reg_macReceived_port p.isLt 64 (by decide)).trans hk
  have hrx : (s.macReceived p 64).reg (Reg.PORT_PFC.RX_ENABLE p) = s.reg (Reg.PORT_PFC.RX_ENABLE p) :=
    (Only.macReceived (R := []) (T := []) s p 64 p.isLt).regs _ (by simp)
      (quietReg_of_mid (by unfold Reg.PORT_PFC.RX_ENABLE; omega) (by unfold Reg.PORT_PFC.RX_ENABLE; omega))
  rw [← hrx]
  exact (if_neg (Nat.not_lt.mpr h)).trans (if_neg fun hne => hne hkind)

theorem Only.pfcTimed {R : List Nat} (s : State) {p : Nat} (times : List Nat) {l : List Nat} (hp : p < 643) (hl : ∀ i ∈ l, i < 8) :
    Only R [Tab.pfcTimer] s (s.pfcTimed p times l) :=
  Only.forAll _ _ _ fun _ i hi => Only.setTab _ _ _ _ (by have := hl i hi; omega) (.inl (by simp))

/-- A table element that is written, the command then ending, holds its value, and nothing else changes. -/
theorem Only.setTab_done (s : State) {t i : Nat} (v : Nat) (hi : i < 2 ^ 40) (hq : quietTab t = true) :
    (s.setTab t i v).deliverDue.tab t i = v ∧ Only [] [t] s (s.setTab t i v).deliverDue := by
  refine ⟨?_, (Only.setTab _ _ _ _ hi (.inl (by simp))).trans (Only.deliverDue _)⟩
  rw [State.tab_deliverDue _ hi hq, State.tab_setTab_same]

/-! ### Frames that the device sends (R177, R593) -/

theorem Only.macSent {R T : List Nat} (s : State) {p : Nat} (n : Nat) (hp : p < 643) : Only R T s (s.macSent p n) :=
  (Only.count _ _ _ (Ctr.port_lt hp (by decide))).trans (Only.count _ _ _ (Ctr.port_lt hp (by decide)))

/-- The octets of a PAUSE frame of host port `h` with time `quanta`. -/
def State.pauseFrame (s : State) (h quanta : Nat) : Bytes := macControl (s.ownMac (512 + h)) 1 (toBE 2 quanta)

theorem State.sendPause_up {s : State} {h : Nat} (quanta : Nat) (hup : s.portUp (512 + h) = true) :
    s.sendPause h quanta = (s.emit (.control (512 + h) (s.pauseFrame h quanta))).macSent (512 + h) 64 := if_pos hup

theorem Only.sendPause {R T : List Nat} {s : State} {h : Nat} (quanta : Nat) (hh : h < 2) (hup : s.portUp (512 + h) = true) :
    Only R T (s.emit (.control (512 + h) (s.pauseFrame h quanta))) (s.sendPause h quanta) :=
  State.sendPause_up quanta hup ▸ Only.macSent _ _ (by omega)

theorem execPauseRepeat_stopped {s : State} {h : HostNo} (hoff : s.tab Tab.hostXoff h = 1) (hfill : 131072 ≤ s.hostFill h) :
    exec (.pauseRepeat h) s = .next (s.sendPause h 0xFFFF).deliverDue := if_pos ⟨hoff, hfill⟩

/-- What has been sent is the one thing that differs from the state before it left. -/
theorem Only.emitted {R T : List Nat} {s t : State} {o : Out} (h : Only R T (s.emit o) t) :
    t.out = s.out ++ [o] ∧ Only R T { s with out := t.out } t := by
  have hout : t.out = s.out ++ [o] := h.out
  exact ⟨hout, hout ▸ h⟩

/-- A bypass frame of octets `b` leaves host port `h`, the engine being `z` then, and takes its wire (R593). -/
def State.bypassSent (s : State) (h : HostNo) (z : Zdp) (b : Bytes) : State :=
  ((({ s.drew with zdp := z } : State).emit (.bypass (512 + h.val) b)).macSent (512 + h.val) (b.length + 4)).occupyWire h (b.length + 24)

/-- What follows for the request that a bypass frame answers (R57, R70). -/
def State.bypassAnswered (s : State) : BypassFrame → State
  | .zdp r => (s.freeTag r.tagCode).replySent r
  | .arp .. => s

/-- The engine with host port `h`'s bypass queue put to `l`. -/
def Zdp.withBypass (z : Zdp) (h : HostNo) (l : List BypassFrame) : Zdp :=
  if h = 0 then { z with bypass0 := l } else { z with bypass1 := l }

theorem isPrefix_ite {α : Type} (p : Prop) [Decidable p] {a a' b b' : List α} (h : a <+: a') (g : b <+: b') :
    (if p then a else b) <+: (if p then a' else b') := by
  split
  · exact h
  · exact g

theorem Zdp.withBypass_queues (z : Zdp) (h : HostNo) (l : List BypassFrame) :
    (if h = 0 then (z.withBypass h l).bypass0 else (z.withBypass h l).bypass1) = l
      ∧ (if h = 0 then (z.withBypass h l).bypass1 else (z.withBypass h l).bypass0) = (if h = 0 then z.bypass1 else z.bypass0) := by
  unfold Zdp.withBypass
  by_cases hh : h = 0
  · simp [hh]
  · simp [hh]

theorem execBypassFrameStart_starts {s : State} {h : HostNo} {f : BypassFrame} {rest : List BypassFrame} {b : Bytes}
    (hb : b = s.bypassOctets (512 + h) f (s.freeBelow (2 ^ 40))) (hq : (if h = 0 then s.zdp.bypass0 else s.zdp.bypass1) = f :: rest)
    (hmay : s.bypassMayStart h b.length = true) :
    exec (.bypassFrameStart h) s = .next ((s.bypassSent h (s.zdp.withBypass h rest) b).bypassAnswered f).deliverDue := by
  subst hb
  change execBypassFrameStart h s = _
  unfold execBypassFrameStart
  simp only [hq, hmay, if_true]
  cases f with
  | zdp r => rfl
  | arp v6 target mac sender => rfl

theorem Only.bypassSent {R : List Nat} (s : State) (h : HostNo) (z : Zdp) (b : Bytes) :
    Only R [Tab.bypassEnd] (({ s.drew with zdp := z } : State).emit (.bypass (512 + h.val) b)) (s.bypassSent h z b) :=
  (Only.macSent _ _ (by omega)).trans (Only.setTab _ _ _ _ (by omega) (.inl (by simp)))

/-- A tag that comes back is taken off the engine's lists, and a reset that waited for it is due. -/
theorem State.freeTag_engine (s : State) (code : Nat) :
    Only [] [Tab.islandReset] { s with zdp := (s.freeTag code).zdp } (s.freeTag code)
      ∧ (s.freeTag code).zdp.bypass0 = s.zdp.bypass0 ∧ (s.freeTag code).zdp.bypass1 = s.zdp.bypass1 := by
  unfold State.freeTag
  split
  · exact ⟨Only.refl s, rfl, rfl⟩
  · split
    · exact ⟨Only.refl _, rfl, rfl⟩
    · unfold State.when
      split
      · exact ⟨Only.setTab _ _ _ _ (by decide) (.inl (by simp)), rfl, rfl⟩
      · exact ⟨Only.refl _, rfl, rfl⟩

theorem Only.replySent {R : List Nat} (s : State) (r : Reply) : Only R [Tab.zdpHeld] s (s.replySent r) :=
  Only.when _ _ _ fun _ => Only.setTab _ _ _ _ (by omega) (.inl (by simp))

theorem State.replySent_zdp (s : State) (r : Reply) : (s.replySent r).zdp = s.zdp := by
  unfold State.replySent State.when
  split
  · rfl
  · rfl

theorem State.bypassAnswered_engine (s : State) (f : BypassFrame) :
    Only [] [Tab.zdpHeld, Tab.islandReset] { s with zdp := (s.bypassAnswered f).zdp } (s.bypassAnswered f)
      ∧ (s.bypassAnswered f).zdp.bypass0 = s.zdp.bypass0 ∧ (s.bypassAnswered f).zdp.bypass1 = s.zdp.bypass1 := by
  cases f with
  | zdp r =>
    obtain ⟨hfree, h0, h1⟩ := s.freeTag_engine r.tagCode
    have hz : (s.bypassAnswered (.zdp r)).zdp = (s.freeTag r.tagCode).zdp := State.replySent_zdp _ _
    rw [hz]
    exact ⟨(hfree.mono (fun _ => id) (by simp)).trans ((Only.replySent _ _).mono (fun _ => id) (by simp)), h0, h1⟩
  | arp v6 target mac sender => exact ⟨Only.refl s, rfl, rfl⟩

/-- After a bypass frame has left, replies may have joined the queues of the engine that it left behind, and nothing else of the
state but the octets sent, the free value drawn and the tables of the wire and of what waits for a reply has changed. -/
theorem State.bypassSent_done (s : State) (h : HostNo) (z : Zdp) (f : BypassFrame) (b : Bytes) :
    let t := ((s.bypassSent h z b).bypassAnswered f).deliverDue
    t.out = s.out ++ [.bypass (512 + h.val) b] ∧ List.IsPrefix z.bypass0 t.zdp.bypass0 ∧ List.IsPrefix z.bypass1 t.zdp.bypass1
      ∧ Only [] [Tab.zdpHeld, Tab.bypassEnd, Tab.islandReset] { s with zdp := t.zdp, out := t.out, freeCtr := s.freeCtr + 1 } t := by
  intro t
  have hsent := Only.bypassSent (R := []) s h z b
  obtain ⟨hans, h0, h1⟩ := (s.bypassSent h z b).bypassAnswered_engine f
  have hdue := Only.deliverDue (R := []) (T := []) ((s.bypassSent h z b).bypassAnswered f)
  have hout : t.out = s.out ++ [.bypass (512 + h.val) b] := (hdue.out.trans hans.out).trans hsent.out
  refine ⟨hout, hsent.bypass0.trans (h0 ▸ hdue.bypass0), hsent.bypass1.trans (h1 ▸ hdue.bypass1), ?_⟩
  rw [hout]
  exact ((hsent.withZdp t.zdp).mono (by simp) (by simp)).trans (((hans.withZdp t.zdp).mono (by simp) (by simp)).trans
    ((hdue.withZdp t.zdp).mono (by simp) (by simp)))

end Sys2Proof.Machine
end

section
/-!
SUPPORT. The DOMAIN of the time unit, by which the egress MAC knows a PTP message (R306), through what a starting copy does.
-/
namespace Sys2Proof.Machine

/-- DOMAIN of the time unit. -/
def State.ptpDomain (s : State) : Nat := s.reg Reg.TIME_UNIT.DOMAIN

theorem State.ptpMessage_congr {s t : State} (h : t.ptpDomain = s.ptpDomain) (f : Frame) : t.ptpMessage f = s.ptpMessage f := by
  unfold State.ptpDomain at h
  unfold State.ptpMessage
  rw [h]

theorem State.ptpDomain_when (s : State) (c : Bool) (f : State → State) (h : ∀ u, (f u).ptpDomain = u.ptpDomain) :
    (s.when c f).ptpDomain = s.ptpDomain := by
  unfold State.when
  split
  · exact h s
  · rfl

theorem State.ptpDomain_forAll {α : Type} (s : State) (l : List α) (f : State → α → State) (h : ∀ u a, (f u a).ptpDomain = u.ptpDomain) :
    (s.forAll l f).ptpDomain = s.ptpDomain := by
  induction l generalizing s with
  | nil => rfl
  | cons a l ih => exact (ih (f s a)).trans (h s a)

theorem State.ptpDomain_setTab (s : State) (t i v : Nat) : (s.setTab t i v).ptpDomain = s.ptpDomain := State.reg_setTab _ _ _ _ _

theorem State.ptpDomain_overflowed (s : State) (n : Nat) : (s.overflowed n).ptpDomain = s.ptpDomain := by
  unfold State.overflowed State.ptpDomain
  dsimp only
  rw [State.reg_event_other _ _ _ _ _ (by decide) (by decide) (by decide), State.reg_bump, if_neg (by decide), State.reg_setTab]

theorem State.ptpDomain_count (s : State) (n amt : Nat) : (s.count n amt).ptpDomain = s.ptpDomain := by
  unfold State.count
  split
  · rfl
  · split
    · refine (State.ptpDomain_when _ _ _ fun u => u.ptpDomain_overflowed _).trans ?_
      exact (State.ptpDomain_setTab _ _ _ _).trans (State.ptpDomain_setTab _ _ _ _)
    · exact (State.ptpDomain_when _ _ _ fun u => u.ptpDomain_overflowed _).trans (State.ptpDomain_setTab _ _ _ _)

/-! ### The egress stages (R202, R203) -/

theorem State.ptpDomain_postCount (s : State) (n : Nat) : (s.postCount n).ptpDomain = s.ptpDomain :=
  State.ptpDomain_when _ _ _ fun u => u.ptpDomain_count _ _

theorem State.ptpDomain_runMicro (s : State) (pipe st : Nat) (entry hv : SMap Nat) :
    (s.runMicro pipe st entry hv).1.ptpDomain = s.ptpDomain := by
  unfold State.runMicro
  dsimp only
  split
  · exact s.ptpDomain_count _ _
  · exact (State.ptpDomain_when _ _ _ fun u => u.ptpDomain_count _ _).trans (State.ptpDomain_forAll _ _ _ State.ptpDomain_postCount)

theorem ptpDomain_egressStage (x : State × SMap Nat) (e st : Nat) (fixed : SMap Nat → SMap Nat) :
    (egressStage x e st fixed).1.ptpDomain = x.1.ptpDomain := x.1.ptpDomain_runMicro _ _ _ _

theorem State.ptpDomain_egress (s : State) (f : Frame) (c : Copy) (e : Nat) : (s.egress f c e).st.ptpDomain = s.ptpDomain := by
  have hcount : ∀ (u : State) (b : Bool) (n : Nat), (u.when b (·.count n)).ptpDomain = u.ptpDomain := fun u b n =>
    State.ptpDomain_when u b _ fun v => v.ptpDomain_count n 1
  unfold State.egress
  dsimp only
  rw [hcount, hcount, State.ptpDomain_count]
  simp only [ptpDomain_egressStage]

/-! ### The end of a frame's admission (R246) -/

theorem State.ptpDomain_unreport (s : State) (p k n h quantity : Nat) : (s.unreport p k n h quantity).ptpDomain = s.ptpDomain := by
  unfold State.unreport
  split
  · exact State.reg_discrepancy (k := Reg.TIME_UNIT.DOMAIN) (by decide) (by decide) _ _ _ _ _ _ _ (by decide)
  · rfl

theorem State.ptpDomain_countDrop (s : State) (outcome port reason : Nat) : (s.countDrop outcome port reason).ptpDomain = s.ptpDomain := by
  unfold State.countDrop
  split
  · rfl
  · dsimp only
    split
    · rfl
    · exact State.ptpDomain_count _ _ _

theorem State.ptpDomain_countCopyDrop (s : State) (outcome port q reason : Nat) :
    (s.countCopyDrop outcome port q reason).ptpDomain = s.ptpDomain :=
  (State.ptpDomain_count _ _ _).trans (s.ptpDomain_countDrop _ _ _)

theorem State.ptpDomain_pullStream (s : State) (t n : Nat) : (s.pullStream t n).ptpDomain = s.ptpDomain := by
  induction n generalizing s with
  | zero => rfl
  | succ n ih =>
    unfold State.pullStream
    split
    · rfl
    · dsimp only
      split
      · rfl
      · exact ih _

theorem State.ptpDomain_pushPostcard (s : State) (i rec : Nat) : (s.pushPostcard i rec).ptpDomain = s.ptpDomain := by
  unfold State.pushPostcard
  dsimp only
  split
  · exact s.ptpDomain_count _ _
  · split
    · have hlost : Reg.TIME_UNIT.DOMAIN ≠ Reg.TELEMETRY_STREAM.LOST (s.streamOf i) := by
        unfold Reg.TELEMETRY_STREAM.LOST Reg.TIME_UNIT.DOMAIN; omega
      unfold State.ptpDomain
      rw [State.reg_event_other _ _ _ _ _ (by decide) (by decide) (by decide), State.reg_bump, if_neg hlost, State.reg_setTab]
      exact s.ptpDomain_count _ _
    · exact (State.ptpDomain_pullStream _ _ _).trans (State.ptpDomain_count _ _ _)

theorem State.ptpDomain_uncovered (s : State) (f : Frame) (copies : Nat) : (s.uncovered f copies).ptpDomain = s.ptpDomain := by
  unfold State.uncovered
  split
  · rfl
  · rfl

theorem State.ptpDomain_finalize (s : State) (f : Frame) : (s.finalize f).ptpDomain = s.ptpDomain := by
  have hrefused : ∀ (u : State) (r : Nat × Nat),
      ((u.countCopyDrop Outcome.refused r.1 f.queue r.2).framePostcard f r.1 2 r.2).ptpDomain = u.ptpDomain := fun u r =>
    (State.ptpDomain_when _ _ _ fun v => v.ptpDomain_pushPostcard _ _).trans (u.ptpDomain_countCopyDrop _ _ _ _)
  unfold State.finalize
  split
  · rfl
  · refine (State.ptpDomain_uncovered _ _ _).trans ?_
    exact (State.ptpDomain_forAll _ _ _ hrefused).trans (State.ptpDomain_unreport _ _ _ _ _ _)

end Sys2Proof.Machine
end

section
/-!
SUPPORT. A copy's start, its end and its ageing (R246, R261, R264): what each makes of the copies and of the octets that leave.
-/
namespace Sys2Proof.Machine

/-! ### COPY_TX_START (R246, R315) -/

theorem State.egress_kc {z : State} (s : State) (f : Frame) (c : Copy) (e : Nat) (hs : Kc z s) : Kc z (s.egress f c e).st := by
  unfold State.egress
  exact State.when_kc (State.when_kc (State.count_kc _ _ _ (egressStage_kc _ _ _ _ (egressStage_kc _ _ _ _ (egressStage_kc _ _ _ _
    (egressStage_kc _ _ _ _ (egressStage_kc _ _ _ _ (egressStage_kc _ _ _ _ hs)))))))
    fun _ hu => State.count_kc _ _ _ hu) fun _ hu => State.count_kc _ _ _ hu

theorem State.ptpWrite_none {s : State} {f : Frame} (h : s.ptpMessage f = none) (e ts grown cut : Nat) (b : Bytes) :
    s.ptpWrite f e ts grown cut b = b := by
  unfold State.ptpWrite
  rw [h]

/-- The copy put in the place of those with its number is among the copies, where there was one. -/
theorem State.mem_putCopy {s : State} {c d : Copy} (hc : c ∈ s.copies) (h : c.id = d.id) : d ∈ (s.putCopy d).copies :=
  List.mem_map.mpr ⟨c, hc, if_pos h⟩

/-- The state in which a copy of frame `f` starts: the egress stages have run and the frame's admission is final (R203, R246), the
release number of a host port's queue has advanced, and the descriptor counts as in transmission. -/
def State.txReady (s : State) (p : PortNo) (c : Copy) (f : Frame) : State :=
  let u := (s.egress f c (pipeOf p (hvGet f.hv 10))).st.finalize f
  ((u.when (p == 512 || p == 513) (fun u => u.setTab Tab.releaseSeq (16 * p + c.queue) ((u.releaseSeq c + 1) % 2 ^ 32))).unreport
    f.part Term.descQueued 1 (holder 2 (16 * p + c.queue)) 2).report f.part Term.descInTx 1

theorem State.txReady_kc (s : State) (p : PortNo) (c : Copy) (f : Frame) : Kc s (s.txReady p c f) :=
  State.report_kc _ _ _ _ (State.unreport_kc _ _ _ _ _ _ (State.when_kc (State.finalize_kc _ _ (State.egress_kc _ _ _ _ ⟨rfl⟩))
    fun _ hu => State.setTab_kc hu))

theorem State.ptpDomain_txReady (s : State) (p : PortNo) (c : Copy) (f : Frame) : (s.txReady p c f).ptpDomain = s.ptpDomain := by
  refine (State.ptpDomain_unreport _ _ _ _ _ _).trans (Eq.trans (State.ptpDomain_when _ _ _ ?_) ?_)
  · exact fun u => u.ptpDomain_setTab _ _ _
  · exact (State.ptpDomain_finalize _ _).trans (s.ptpDomain_egress _ _ _)

/-- The copy as it is sent from now on: what the egress stages and the MAC made of the octets that are there (R307). -/
def State.txCopy (s : State) (p : PortNo) (c : Copy) (f : Frame) : Copy :=
  let o := s.egress f c (pipeOf p (hvGet f.hv 10))
  let u := s.txReady p c f
  { c with phase := 2, sent := u.ptpWrite f p c.start o.octets.length f.octets.length o.octets, used := f.octets.length,
           covered := u.copyCovered f c }

theorem execCopyTxStart_starts {s : State} {p : PortNo} {c : Copy} {f : Frame}
    (hc : s.copies.find? (fun c => c.port == p.val && c.phase == 1) = some c) (hf : s.frame? c.frame = some f)
    (hidle : ∀ d ∈ s.copies, d.port = p.val → d.phase ≠ 2) (hup : s.portUp p = true)
    (hdrop : (s.egress f c (pipeOf p (hvGet f.hv 10))).drop = 0) :
    exec (.copyTxStart p) s = .next ((s.txReady p c f).putCopy (s.txCopy p c f)).deliverDue := by
  have hfree : (s.copies.any (fun d => d.port == p && d.phase == 2) || !s.portUp p) = false := by
    rw [hup, Bool.not_true, Bool.or_false, List.any_eq_false]
    intro d hd
    simpa using hidle d hd
  change execCopyTxStart p s = _
  unfold execCopyTxStart
  simp only [hc, hf, hfree, hdrop, ne_eq, not_true_eq_false, Bool.false_eq_true, if_false]
  rfl

/-! ### Copies that are no more -/

/-- No copy of number `i` is held. -/
def State.lacksCopy (s : State) (i : Nat) : Prop := ∀ d ∈ s.copies, d.id ≠ i

theorem Kc.lacksCopy {z s : State} (h : Kc z s) {i : Nat} (hz : z.lacksCopy i) : s.lacksCopy i := by
  unfold State.lacksCopy
  rw [h.eq]
  exact hz

theorem State.copyLeft_kc {z : State} (s : State) (e q ts : Nat) (hs : Kc z s) : Kc z (s.copyLeft e q ts) :=
  State.forAll_kc hs fun _ _ hu => State.setTab_kc hu

theorem State.removeCopy_lacks (s : State) (c : Copy) : (s.removeCopy c).lacksCopy c.id := by
  intro d hd
  simpa using (List.mem_filter.mp hd).2

theorem State.leaveDrr_lacks {s : State} (p q : Nat) {i : Nat} (h : s.lacksCopy i) : (s.leaveDrr p q).lacksCopy i := by
  unfold State.leaveDrr
  split
  · have hmark : ({ s with copies := s.copies.map (Copy.markEmptied p q) } : State).lacksCopy i := by
      intro d hd
      obtain ⟨c, hc, rfl⟩ := List.mem_map.mp hd
      have hid : (Copy.markEmptied p q c).id = c.id := by unfold Copy.markEmptied; split <;> rfl
      rw [hid]
      exact h c hc
    refine Kc.lacksCopy ?_ hmark
    exact State.setTab_kc (State.setReg_kc (Kc.upd (State.when_kc ⟨rfl⟩ fun _ hu => State.setTab_kc hu)))
  · exact h

theorem State.settleQueue_lacks {s : State} (p q : Nat) {i : Nat} (h : s.lacksCopy i) : (s.settleQueue p q).lacksCopy i := by
  unfold State.settleQueue
  split
  · exact State.leaveDrr_lacks _ _ h
  · exact h

theorem State.forAll_lacks {α : Type} {s : State} {i : Nat} (l : List α) (f : State → α → State) (h : s.lacksCopy i)
    (hf : ∀ u a, u.lacksCopy i → (f u a).lacksCopy i) : (s.forAll l f).lacksCopy i := by
  induction l generalizing s with
  | nil => exact h
  | cons a l ih => exact ih (hf s a h)

theorem State.closeFrame_kc {z : State} (s : State) (f : Frame) (hs : Kc z s) : Kc z (s.closeFrame f) := by
  have hcount : Kc z ((s.unreport f.part Term.cellsHeld f.cells f.cellHolder 1).when (f.pool == Pool.dalzan)
      (·.dzCount Tab.dzReturned f f.occupied)) :=
    State.when_kc (State.unreport_kc _ _ _ _ _ _ hs) fun _ hu => State.setTab_kc hu
  unfold State.closeFrame
  exact State.drained_kc _ (State.pfcCheck_kc _ _ (Kc.ite (fun _ => ⟨hcount.eq⟩) fun _ => State.putFrame_kc _ _ hcount))

theorem State.dropRef_kc {z : State} (s : State) (f : Frame) (hs : Kc z s) : Kc z (s.dropRef f) := by
  unfold State.dropRef
  exact Kc.ite (fun _ => State.closeFrame_kc _ _ (State.unreport_kc _ _ _ _ _ _ hs))
    fun _ => State.putFrame_kc _ _ (State.unreport_kc _ _ _ _ _ _ hs)

/-- A whole drop ends copies and makes none (R246). -/
theorem State.dropWhole_lacks {s : State} (f : Frame) (reason : Nat) {i : Nat} (h : s.lacksCopy i) : (s.dropWhole f reason).lacksCopy i := by
  unfold State.dropWhole
  refine (State.closeFrame_kc _ _ ⟨rfl⟩).lacksCopy (State.forAll_lacks _ _ ?_ fun _ _ hu => State.settleQueue_lacks _ _ hu)
  intro d hd
  refine Kc.lacksCopy ?_ h d (List.mem_filter.mp hd).1
  refine State.forAll_kc (State.withdrawCbSeq_kc _ _ (State.framePostcard_kc _ _ _ _ _ (State.dropInResv_kc _ _ _ (State.report_kc _ _ _ _
    (State.unreport_kc _ _ _ _ _ _ (State.unreport_kc _ _ _ _ _ _ (State.forAll_kc (State.countDrop_kc _ _ _ _
      (State.freeTag_kc _ _ ⟨rfl⟩)) fun _ _ hu => State.unreport_kc _ _ _ _ _ _ hu))))))) fun _ _ hu => State.copyLeft_kc _ _ _ _ hu

/-- A copy that is dropped is held no more (R246). -/
theorem State.dropCopy_lacks (s : State) (c : Copy) (reason : Nat) : (s.dropCopy c reason).lacksCopy c.id := by
  unfold State.dropCopy
  split
  · exact s.removeCopy_lacks c
  · next f _ =>
    have hleft : (((s.removeCopy c).settleQueue c.port c.queue).unreport f.part Term.descQueued 1
        (holder 2 (16 * c.port + c.queue)) 2).lacksCopy c.id :=
      (State.unreport_kc _ _ _ _ _ _ ⟨rfl⟩).lacksCopy (State.settleQueue_lacks _ _ (s.removeCopy_lacks c))
    dsimp only
    split
    · refine (State.dropRef_kc _ _ (State.copyPostcard_kc _ _ _ _ _ _ _ _ (State.uncovered_kc _ _ _ (State.report_kc _ _ _ _
        (State.unreport_kc _ _ _ _ _ _ (State.countCopyDrop_kc _ _ _ _ _ ⟨rfl⟩)))))).lacksCopy hleft
    · have hrefs := (State.unreport_kc (z := ((s.removeCopy c).settleQueue c.port c.queue).unreport f.part Term.descQueued 1
        (holder 2 (16 * c.port + c.queue)) 2) _ f.part Term.mcRefs 1 (holder 7 f.id) 3 ⟨rfl⟩).lacksCopy hleft
      split
      · exact State.dropWhole_lacks _ _ hrefs
      · exact (State.putFrame_kc _ _ ⟨rfl⟩).lacksCopy hrefs

theorem execAged_expired {s : State} {copy : Nat} {c : Copy} {f : Frame}
    (hc : s.copies.find? (fun c => c.id == copy && c.phase == 0) = some c) (hf : s.frame? c.frame = some f)
    (hlimit : s.reg (Reg.PORT_BUFFER.AGE_LIMIT_US c.port) ≠ 0)
    (hold : f.ts + s.reg (Reg.PORT_BUFFER.AGE_LIMIT_US c.port) * 1000 * nsUnit < s.clock.ptp) :
    exec (.aged copy) s = .next (s.dropCopy c Drop.aged).deliverDue := by
  change execAged copy s = _
  unfold execAged
  simp only [hc, hf]
  exact if_pos ⟨hlimit, hold⟩

/-! ### COPY_TX_END (R261) -/

/-- What a frame handed to the receive ring or to the management controller leaves: the registers but two of ZDP's statistics, the time,
the copies, and what has been sent. -/
structure HandedOn (s t : State) : Prop where
  regs : ∀ k, k ≠ Reg.ZDP_STATISTICS.FABRIC_DISCARDED → k ≠ Reg.ZDP_STATISTICS.RX_MALFORMED → t.reg k = s.reg k
  clock : t.clock = s.clock
  copies : t.copies = s.copies
  out : t.out = s.out

namespace HandedOn

theorem refl (s : State) : HandedOn s s := ⟨fun _ _ _ => rfl, rfl, rfl, rfl⟩

theorem trans {s t u : State} (h : HandedOn s t) (g : HandedOn t u) : HandedOn s u :=
  ⟨fun k h1 h2 => (g.regs k h1 h2).trans (h.regs k h1 h2), g.clock.trans h.clock, g.copies.trans h.copies, g.out.trans h.out⟩

theorem when (s : State) (c : Bool) (f : State → State) (h : ∀ u, HandedOn u (f u)) : HandedOn s (s.when c f) := by
  unfold State.when
  split
  · exact h s
  · exact refl s

theorem ringWrite (s : State) (b off : Nat) (x : Bytes) : HandedOn s (s.ringWrite b off x) := by
  induction x generalizing s off with
  | nil => exact refl s
  | cons y x ih =>
    refine HandedOn.trans ?_ (ih _ _)
    exact when _ _ _ fun u => ⟨fun _ _ _ => rfl, rfl, rfl, rfl⟩

theorem setTab (s : State) (t i v : Nat) : HandedOn s (s.setTab t i v) :=
  ⟨fun _ _ _ => State.reg_setTab _ _ _ _ _, State.setTab_clock _ _ _ _, State.setTab_copies _ _ _ _, State.setTab_out _ _ _ _⟩

theorem ringReceive (s : State) (b srcPort ts : Nat) (x : Bytes) : HandedOn s (s.ringReceive b srcPort ts x) := by
  have hdrew : HandedOn s s.drew := ⟨fun _ _ _ => rfl, rfl, rfl, rfl⟩
  unfold State.ringReceive State.setCw
  exact hdrew.trans ((ringWrite _ _ _ _).trans (setTab _ _ _ _))

theorem bump (s : State) {k : Nat} (w n : Nat) (hk : k = Reg.ZDP_STATISTICS.FABRIC_DISCARDED ∨ k = Reg.ZDP_STATISTICS.RX_MALFORMED) :
    HandedOn s (s.bump k w n) := by
  refine ⟨fun j h1 h2 => State.reg_setReg_other _ _ ?_, rfl, rfl, rfl⟩
  rcases hk with rfl | rfl
  · exact h1
  · exact h2

theorem zdpArrived (s : State) (p : Nat) (b : Bytes) : HandedOn s (s.zdpArrived p b) := by
  unfold State.zdpArrived
  split
  · exact refl s
  · dsimp only
    split
    · exact bump _ _ _ (.inl rfl)
    · split
      · exact refl s
      · split
        · exact bump _ _ _ (.inr rfl)
        · exact ⟨fun _ _ _ => rfl, rfl, rfl, rfl⟩

end HandedOn

theorem State.zdpArrived_mem (s : State) (p : Nat) (b : Bytes) : (s.zdpArrived p b).mem = s.mem :=
  (State.zdpArrived_fw (T := 0) (by omega) s p b (Fwd.refl s)).mem

/-- The copy is no more and its octets have left the device. -/
def State.copyOut (s : State) (f : Frame) (c : Copy) : State := (s.removeCopy c).emit (.frame c.port (c.octets f) false)

/-- A copy for a bench is then in its receive ring, one for port 642 with the management controller. -/
def State.copyHanded (s : State) (f : Frame) (c : Copy) : State :=
  ((s.copyOut f c).when (decide (514 ≤ c.port) && decide (c.port ≤ 641)) (·.ringReceive (c.port - 514) f.srcPort f.ts (c.octets f))).when
    (c.port == 642) (·.zdpArrived f.srcPort (c.octets f))

theorem State.copyHanded_handedOn (s : State) (f : Frame) (c : Copy) : HandedOn (s.copyOut f c) (s.copyHanded f c) :=
  (HandedOn.when _ _ _ fun u => HandedOn.ringReceive u _ _ _ _).trans (HandedOn.when _ _ _ fun u => HandedOn.zdpArrived u _ _)

theorem State.copyHanded_mem (s : State) (f : Frame) {c : Copy} (h : c.port < 514 ∨ 641 < c.port) :
    (s.copyHanded f c).mem = (s.copyOut f c).mem := by
  have hring : (decide (514 ≤ c.port) && decide (c.port ≤ 641)) = false := by simp; omega
  unfold State.copyHanded State.when
  rw [hring]
  split
  · exact State.zdpArrived_mem _ _ _
  · rfl

/-- The counts, records and releases behind a copy that has left are those of forwarding. -/
theorem State.copySent_fw (s : State) (f : Frame) (c : Copy) : Fwd 0x300000 (s.copyHanded f c) (s.copySent f c) := by
  have hT : 0x300000 ≤ 0x300000 := Nat.le_refl _
  have hhwm : 0x300000 ≤ Reg.PORT_QSTATE.RESIDENCE_HWM c.port := by unfold Reg.PORT_QSTATE.RESIDENCE_HWM; omega
  unfold State.copySent
  refine State.dropRef_fw hT _ _ (State.copyPostcard_fw hT _ _ _ _ _ _ _ _ (State.countSent_fw hT _ _ _ _ _ ?_))
  refine State.report_fw hT _ _ _ _ (State.unreport_fw hT _ _ _ _ _ _ (State.unreport_fw hT _ _ _ _ _ _ ?_))
  refine State.when_fw (State.setTab_fw (State.raiseMark_fw _ _ _ _ hhwm (State.histAdd_fw hT _ _ _ _ ?_))) fun _ hu => State.setTab_fw hu
  refine State.logTxTs_fw hT _ _ _ _ (State.when_fw ?_ fun _ hu => State.count_fw _ _ _ hu)
  exact State.count_fw _ _ _ (State.count_fw _ _ _ (State.count_fw _ _ _ (State.count_fw _ _ _ (Fwd.refl _))))

theorem State.copySent_kc (s : State) (f : Frame) (c : Copy) : Kc (s.copyHanded f c) (s.copySent f c) := by
  unfold State.copySent
  refine State.dropRef_kc _ _ (State.copyPostcard_kc _ _ _ _ _ _ _ _ (State.countSent_kc _ _ _ _ _ ?_))
  refine State.report_kc _ _ _ _ (State.unreport_kc _ _ _ _ _ _ (State.unreport_kc _ _ _ _ _ _ ?_))
  refine State.when_kc (State.setTab_kc (State.raiseMark_kc _ _ _ _ (State.histAdd_kc _ _ _ _ ?_))) fun _ hu => State.setTab_kc hu
  refine State.logTxTs_kc _ _ _ _ (State.when_kc ?_ fun _ hu => State.count_kc _ _ _ hu)
  exact State.count_kc _ _ _ (State.count_kc _ _ _ (State.count_kc _ _ _ (State.count_kc _ _ _ ⟨rfl⟩)))

theorem State.copyOut_fw (s : State) (f : Frame) (c : Copy) : Fwd 0x300000 s (s.copyOut f c) :=
  State.emit_fw (State.removeCopy_fw (Nat.le_refl _) _ _ (Fwd.refl s))

theorem execCopyTxEnd_whole {s : State} {p : PortNo} {c : Copy} {f : Frame}
    (hc : s.copies.find? (fun c => c.port == p.val && c.phase == 2) = some c) (hf : s.frame? c.frame = some f) (ht : f.tailed = true)
    (hp : c.port = p.val) (hroom : p.val < 514 ∨ 641 < p.val ∨ s.ringRoom (p - 514) (c.octets f).length = true) :
    exec (.copyTxEnd p) s = .next (s.copySent f c).deliverDue := by
  have hgo : (f.tailed && (decide (c.port < 514) || decide (641 < c.port) || s.ringRoom (c.port - 514) (c.octets f).length)) = true := by
    rw [ht, hp]
    simpa [or_assoc] using hroom
  change execCopyTxEnd p s = _
  unfold execCopyTxEnd
  simp only [hc, hf]
  exact if_pos hgo

end Sys2Proof.Machine
end

section
/-!
The statements of 07_ports.md about flow control and departing copies settled.
-/
open Sys2Proof Sys2Proof.Machine

/-- Settles O25: each frame and each expiry writes the timers or sends the frame that it is about. -/
theorem flowControlFrames : Obligations.FlowControlFrames := by
  unfold Obligations.FlowControlFrames
  refine ⟨fun s p quanta h => ?_, fun s p enable times h hk => ?_, fun s h => ?_, fun s p cls => ?_, fun s h hup hoff hfill => ?_,
    fun s h f rest b hb hq hup hpause hwire hcopy hgate hedge => ?_⟩
  · have hcount : Only [] [Tab.hostPause] s (s.controlCounted p 7) := Only.controlCounted s p.isLt (by decide)
    refine ⟨_, execPause_running quanta h, ?_, fun hp hrx => ?_, fun hno i hi => ?_⟩
    · exact (hcount.trans (Only.when _ _ _ fun _ => Only.setTab _ _ _ _ (by omega) (.inl (by simp)))).trans (Only.deliverDue _)
    · rw [State.tab_deliverDue _ (by omega) (by decide), State.when, if_pos (by simp [hp, hrx]), State.tab_setTab_same]
    · rw [State.tab_deliverDue _ (by omega) (by decide), State.when, if_neg (by simp; omega)]
      exact (Only.controlCounted (R := []) (T := []) s p.isLt (by decide)).tabs _ _ (by omega) (by simp) (by decide)
  · have hcount : Only [] [] s (s.controlCounted p 10) := Only.controlCounted s p.isLt (by decide)
    refine ⟨_, execPfc_ethernet enable times h hk, ?_, fun i hi => ?_⟩
    · refine ((hcount.mono (by simp) (by simp)).trans (Only.pfcTimed _ _ (by omega) fun i hi => ?_)).trans (Only.deliverDue _)
      exact List.mem_range.mp (List.mem_filter.mp hi).1
    · rw [State.tab_deliverDue _ (by omega) (by decide), State.pfcTimed,
        State.tab_forAll_setTab _ _ _ (fun i => times.getD i 0 % 65536), hcount.tabs _ _ (by omega) (by simp) (by decide)]
      simp [List.mem_filter, hi]
  · obtain ⟨htimer, honly⟩ := Only.setTab_done s (t := Tab.hostPause) (i := h) 0 (by omega) (by decide)
    exact ⟨_, rfl, htimer, honly⟩
  · obtain ⟨htimer, honly⟩ := Only.setTab_done s (t := Tab.pfcTimer) (i := 8 * p + cls) 0 (by omega) (by decide)
    refine ⟨_, rfl, htimer, fun i hne hi => ?_, honly⟩
    rw [State.tab_deliverDue _ hi (by decide), State.tab_setTab_index _ _ hne]
  · obtain ⟨hout, honly⟩ := ((Only.sendPause (R := []) (T := []) 0xFFFF h.isLt hup).trans (Only.deliverDue _)).emitted
    exact ⟨_, _, execPauseRepeat_stopped hoff hfill, hout, honly⟩
  · have hmay : s.bypassMayStart h b.length = true := by
      unfold State.bypassMayStart
      simp [hup, hpause, hwire, hcopy, hgate, hedge]
    obtain ⟨hout, h0, h1, honly⟩ := s.bypassSent_done h (s.zdp.withBypass h rest) f b
    obtain ⟨hown, hother⟩ := s.zdp.withBypass_queues h rest
    have hown' := isPrefix_ite (h = 0) h0 h1
    have hother' := isPrefix_ite (h = 0) h1 h0
    rw [hown] at hown'
    rw [hother] at hother'
    exact ⟨_, execBypassFrameStart_starts hb hq hmay, hout, hown', hother', honly⟩

/-- Settles O31: a starting copy is put back with what the egress stages made of it; one that ends or ages is taken off the copies. -/
theorem copiesLeave : Obligations.CopiesLeave := by
  unfold Obligations.CopiesLeave
  refine ⟨fun s p c f hc hf hidle hup hdrop => ?_, fun s p c f hc hf ht hroom => ?_, fun s copy c f hc hf hlimit hold => ?_⟩
  · have hx := execCopyTxStart_starts hc hf hidle hup hdrop
    have hmem : c ∈ (s.txReady p c f).copies := (s.txReady_kc p c f).eq ▸ List.mem_of_find?_eq_some hc
    refine ⟨_, s.txCopy p c f, hx, ?_, rfl, rfl, rfl, rfl, fun hno => ?_, execCopyTxStart_fw p s _ hx⟩
    · rw [State.deliverDue_copies]
      exact State.mem_putCopy hmem rfl
    · exact State.ptpWrite_none ((State.ptpMessage_congr (s.ptpDomain_txReady p c f) f).trans hno) _ _ _ _ _
  · have hp : c.port = p.val := by
      have h := List.find?_some hc
      simp only [Bool.and_eq_true, beq_iff_eq] at h
      exact h.1
    have hout := s.copyOut_fw f c
    have hhand := s.copyHanded_handedOn f c
    have hsent : Fwd 0x300000 (s.copyHanded f c) (s.copySent f c).deliverDue := State.deliverDue_fw (s.copySent_fw f c)
    refine ⟨_, execCopyTxEnd_whole hc hf ht hp hroom, ?_, ?_, fun k hk hq hfault h1 h2 => ?_, fun hport => ?_, ?_⟩
    · refine hsent.out.subset ?_
      rw [hhand.out, ← hp]
      exact List.mem_append_right _ (List.mem_singleton.mpr rfl)
    · have hlacks : (s.copyHanded f c).lacksCopy c.id := Kc.lacksCopy ⟨hhand.copies⟩ (s.removeCopy_lacks c)
      exact (State.deliverDue_kc (s.copySent_kc f c)).lacksCopy hlacks
    · rw [hsent.regs k hk hq hfault, hhand.regs k h1 h2, hout.regs k hk hq hfault]
    · rw [hsent.mem, s.copyHanded_mem f (hp ▸ hport), hout.mem]
    · rw [hsent.clock, hhand.clock, hout.clock]
  · have hx := execAged_expired hc hf hlimit hold
    have hid : c.id = copy := by
      have h := List.find?_some hc
      simp only [Bool.and_eq_true, beq_iff_eq] at h
      exact h.1
    refine ⟨_, hx, ?_, execAged_fw copy s _ hx⟩
    exact hid ▸ (State.deliverDue_kc ⟨rfl⟩).lacksCopy (s.dropCopy_lacks c Drop.aged)
end

section
/-!
SUPPORT. Admission (R246, R250, R263): the frame that BUFFER_ADMISSION takes, the end of one that is dropped whole, and the copy made.
-/
namespace Sys2Proof.Machine

/-- The frame is the one of its pipeline that waits first: those of the reservation pool before the others, each kind in order (R263). -/
def State.admitsNext (s : State) (f : Frame) : Prop :=
  let w := s.waiting f.pipe
  let resv := fun (g : Frame) => s.poolOf g == Pool.resv
  ∃ g, (w.filter resv ++ w.filter (fun g => !resv g)).head? = some g ∧ g.id = f.id

theorem execBufferAdmission_first {s : State} {frame : Nat} {f : Frame} (hf : s.frame? frame = some f) (hs : f.stage = 1)
    (hn : s.admitsNext f) : exec (.bufferAdmission frame) s = .next (s.takeAdmission f).deliverDue := by
  obtain ⟨g, hg, hid⟩ := hn
  change execBufferAdmission frame s = _
  unfold execBufferAdmission
  simp only [hf, if_neg fun h : f.stage ≠ 1 => h hs, hg, if_pos hid, State.done_eq]

/-! ### A frame dropped whole (R246) -/

theorem State.closeFrame_frames (s : State) {f : Frame} (ht : f.tailed = true) :
    (s.closeFrame f).frames = s.frames.filter (fun g => g.id != f.id) := by
  have hcount : Kf s ((s.unreport f.part Term.cellsHeld f.cells f.cellHolder 1).when (f.pool == Pool.dalzan)
      (·.dzCount Tab.dzReturned f f.occupied)) :=
    State.when_kf (State.unreport_kf _ _ _ _ _ _ ⟨rfl⟩) fun _ hu => State.setTab_kf hu
  unfold State.closeFrame
  dsimp only
  rw [if_pos ht, (State.drained_kf _ (State.pfcCheck_kf _ _ ⟨rfl⟩)).eq, hcount.eq]

theorem State.copyLeft_kf {z : State} (s : State) (e q ts : Nat) (hs : Kf z s) : Kf z (s.copyLeft e q ts) :=
  State.forAll_kf hs fun _ _ hu => State.setTab_kf hu

/-- Of a frame that has its tail nothing is held once it is dropped whole, and the others are held as they were. -/
theorem State.dropWhole_frames (s : State) {f : Frame} (reason : Nat) (ht : f.tailed = true) :
    (s.dropWhole f reason).frames = s.frames.filter (fun g => g.id != f.id) := by
  unfold State.dropWhole
  dsimp only
  rw [State.closeFrame_frames _ (f := { f with refs := 0, cbSeq := (0, 0) }) ht]
  refine congrArg (List.filter _) (Kf.eq (z := s) (State.forAll_kf (Kf.upd ?_) fun _ _ hu => State.settleQueue_kf _ _ _ hu))
  refine State.forAll_kf (State.withdrawCbSeq_kf _ _ (State.framePostcard_kf _ _ _ _ _ (State.dropInResv_kf _ _ _ ?_)))
    fun _ _ hu => State.copyLeft_kf _ _ _ _ hu
  refine State.report_kf _ _ _ _ (State.unreport_kf _ _ _ _ _ _ (State.unreport_kf _ _ _ _ _ _ (State.forAll_kf ?_
    fun _ _ hu => State.unreport_kf _ _ _ _ _ _ hu)))
  exact State.countDrop_kf _ _ _ _ (State.freeTag_kf _ _ ⟨rfl⟩)

theorem State.takeAdmission_drops {s : State} {f : Frame} (h : f.drop ≠ 0 ∨ (f.dests = [] ∧ f.group = none)) :
    ∃ reason, s.takeAdmission f = s.dropWhole f reason := by
  unfold State.takeAdmission
  by_cases hd : f.drop ≠ 0
  · exact ⟨_, if_pos hd⟩
  · obtain ⟨hdests, hgroup⟩ := h.resolve_left hd
    have hself : ({ f with dests := [] } : Frame) = f := by rw [← hdests]
    refine ⟨if f.handoff.1 ≠ 0 then Drop.signalConsumed else Drop.noDestination, ?_⟩
    have hnow : s.destsNow f = some [] := by rw [← hdests]; unfold State.destsNow; rw [hgroup]
    rw [if_neg hd, hnow]
    simp only [hself]

/-- A first frame that carries a drop, or goes nowhere, is dropped whole; with its tail here it is held no more (R246, R250). -/
theorem execBufferAdmission_drops {s : State} {frame : Nat} {f : Frame} (hf : s.frame? frame = some f) (hs : f.stage = 1)
    (hn : s.admitsNext f) (ht : f.tailed = true) (h : f.drop ≠ 0 ∨ (f.dests = [] ∧ f.group = none)) :
    ∃ t, exec (.bufferAdmission frame) s = .next t ∧ t.frames = s.frames.filter (fun g => g.id != f.id) ∧ Fwd 0x300000 s t := by
  have hx := execBufferAdmission_first hf hs hn
  refine ⟨_, hx, ?_, execBufferAdmission_fw frame s _ hx⟩
  obtain ⟨reason, hdrop⟩ := State.takeAdmission_drops (s := s) h
  rw [State.deliverDue_frames, hdrop, s.dropWhole_frames reason ht]

/-! ### The copy made (R250) -/

theorem State.setDrrActive_kc {z : State} (s : State) (p : Nat) (l : List Nat) (hs : Kc z s) : Kc z (s.setDrrActive p l) := ⟨hs.eq⟩

theorem State.enterDrr_kc {z : State} (s : State) (p q : Nat) (hs : Kc z s) : Kc z (s.enterDrr p q) := by
  unfold State.enterDrr
  exact Kc.ite (fun _ => hs) fun _ => State.setDrrActive_kc _ _ _ (State.when_kc hs fun _ hu => State.setTab_kc hu)

/-- One copy more stands behind the others: queued, with the next number, on the frame's queue of the port. -/
theorem State.makeCopy_copies (s : State) (f : Frame) (e : Nat) :
    ∃ c, (s.makeCopy f e).copies = s.copies ++ [c] ∧ c.id = s.nextCopy ∧ c.frame = f.id ∧ c.port = e ∧ c.queue = f.queue ∧ c.phase = 0 := by
  unfold State.makeCopy
  refine ⟨_, Kc.eq (State.raiseMark_kc _ _ _ _ (State.enterDrr_kc _ _ _ (State.when_kc (State.when_kc (State.report_kc _ _ _ _
    (State.allocate_kc _ _ _ _ _ ⟨rfl⟩)) fun _ hu => State.count_kc _ _ _ hu) fun _ hu => State.count_kc _ _ _ hu))), rfl, rfl, rfl, rfl, rfl⟩

end Sys2Proof.Machine
end

section
/-!
SUPPORT. What a new copy may be turned away for (R290, R350): the fences and the watchdog's recovery, through what its admission does.
-/
namespace Sys2Proof.Machine

/-- The holders that are fenced are the same, pipelines (kind 1) and frames (kind 7) apart, and so are the queues in watchdog recovery. -/
structure SameHolds (s t : State) : Prop where
  fenced : ∀ k i, k ≠ 1 → k ≠ 7 → t.isFenced (holder k i) = s.isFenced (holder k i)
  recovery : ∀ p, p < 512 → t.reg (Reg.PORT_PFC.IN_RECOVERY p) = s.reg (Reg.PORT_PFC.IN_RECOVERY p)

theorem quietReg_inRecovery {p : Nat} (hp : p < 512) : quietReg (Reg.PORT_PFC.IN_RECOVERY p) = true :=
  quietReg_of_mid (by unfold Reg.PORT_PFC.IN_RECOVERY; omega) (by unfold Reg.PORT_PFC.IN_RECOVERY; omega)

namespace SameHolds

theorem refl (s : State) : SameHolds s s := ⟨fun _ _ _ _ => rfl, fun _ _ => rfl⟩

theorem trans {s t u : State} (h : SameHolds s t) (g : SameHolds t u) : SameHolds s u :=
  ⟨fun k i h1 h7 => (g.fenced k i h1 h7).trans (h.fenced k i h1 h7), fun p hp => (g.recovery p hp).trans (h.recovery p hp)⟩

/-- The fences are the same, and so are the registers of IN_RECOVERY. -/
theorem of_fences {s t : State} (hf : t.fences = s.fences)
    (hr : ∀ p, p < 512 → t.reg (Reg.PORT_PFC.IN_RECOVERY p) = s.reg (Reg.PORT_PFC.IN_RECOVERY p)) : SameHolds s t :=
  ⟨fun _ _ _ _ => by unfold State.isFenced; rw [hf], hr⟩

theorem of_only {T : List Nat} {s t : State} (h : Only [] T s t) : SameHolds s t :=
  of_fences h.fences fun _ hp => h.regs _ (by simp) (quietReg_inRecovery hp)

theorem setTab (s : State) (t i v : Nat) : SameHolds s (s.setTab t i v) := of_fences rfl fun _ _ => State.reg_setTab _ _ _ _ _

theorem setReg (s : State) {k : Nat} (v : Nat) (hk : k % 256 ≠ 0x0D) : SameHolds s (s.setReg k v) :=
  of_fences rfl fun _ _ => State.reg_setReg_other _ _ (by unfold Reg.PORT_PFC.IN_RECOVERY; omega)

theorem when (s : State) (c : Bool) (f : State → State) (h : ∀ u, SameHolds u (f u)) : SameHolds s (s.when c f) := by
  unfold State.when
  split
  · exact h s
  · exact refl s

theorem forAll {α : Type} (s : State) (l : List α) (f : State → α → State) (h : ∀ u a, SameHolds u (f u a)) :
    SameHolds s (s.forAll l f) := by
  induction l generalizing s with
  | nil => exact refl s
  | cons a l ih => exact (h s a).trans (ih (f s a))

theorem count (s : State) {n : Nat} (amt : Nat) (hn : n < 2 ^ 39) : SameHolds s (s.count n amt) :=
  of_only (T := []) (Only.count s n amt hn)

theorem report (s : State) (p k n : Nat) : SameHolds s (s.report p k n) := setTab _ _ _ _

theorem raiseMark (s : State) (p q v : Nat) : SameHolds s (s.raiseMark (Reg.PORT_QSTATE.DEPTH_HWM p) q v) :=
  when _ _ _ fun u => setReg u _ (by unfold Reg.PORT_QSTATE.DEPTH_HWM; omega)

theorem enterDrr (s : State) (p q : Nat) : SameHolds s (s.enterDrr p q) := by
  unfold State.enterDrr
  split
  · exact refl s
  · exact (when s _ _ fun u => setTab u _ _ _).trans (of_fences rfl fun _ _ => rfl)

/-- While a descriptor is free, a copy made calls for no fence. -/
theorem makeCopy {s : State} {f : Frame} {e : Nat} (he : e < 643) (hq : f.queue < 16) (hfree : 0 < s.ledgerFree Term.descQueued) :
    SameHolds s (s.makeCopy f e) := by
  have halloc : ∀ u : State, u.tabs = s.tabs →
      SameHolds u (u.allocate f.part Term.descQueued 1 (holder 2 (16 * e + f.queue))) := fun u hu => by
    have hsame : u.ledgerFree Term.descQueued = s.ledgerFree Term.descQueued := by
      unfold State.ledgerFree State.termSum State.term State.tab; rw [hu]
    rw [State.allocate, if_neg (by omega)]
    exact report _ _ _ _
  unfold State.makeCopy
  dsimp only
  refine SameHolds.trans ?_ (raiseMark _ _ _ _)
  refine SameHolds.trans ?_ (enterDrr _ _ _)
  refine SameHolds.trans ?_ (when _ _ _ fun u => count u _ (by unfold Ctr.queue; omega))
  refine SameHolds.trans ?_ (when _ _ _ fun u => count u _ (Ctr.port_lt he (by decide)))
  refine SameHolds.trans ?_ (report _ _ _ _)
  refine SameHolds.trans ?_ (halloc _ ?_)
  · exact of_fences rfl fun _ _ => rfl
  · rfl

theorem freeTag (s : State) (code : Nat) : SameHolds s (s.freeTag code) := by
  unfold State.freeTag
  split
  · exact refl s
  · split
    · exact of_fences rfl fun _ _ => rfl
    · refine SameHolds.trans ?_ (when _ _ _ fun u => setTab u _ _ _)
      exact of_fences rfl fun _ _ => rfl

theorem emit (s : State) (o : Out) : SameHolds s (s.emit o) := of_fences rfl fun _ _ => rfl

theorem sendPfc (s : State) {p : Nat} (i time : Nat) (hp : p < 643) : SameHolds s (s.sendPfc p i time) := by
  unfold State.sendPfc
  exact ((emit _ _).trans (count _ _ (Ctr.port_lt hp (by decide)))).trans (of_only (T := []) (Only.macSent _ _ hp))

theorem pfcCheck (s : State) (p : Nat) : SameHolds s (s.pfcCheck p) := by
  unfold State.pfcCheck
  split
  · exact refl s
  · next h =>
    have hp : p < 643 := by omega
    have hsent : ∀ (u : State) (i time v : Nat), SameHolds u ((u.sendPfc p i time).setReg (Reg.PORT_PFC.XOFF_STATE p) v) :=
      fun u i time v => (sendPfc u i time hp).trans (setReg _ _ (by unfold Reg.PORT_PFC.XOFF_STATE; omega))
    refine forAll _ _ _ fun u i => ?_
    dsimp only
    split
    · exact hsent _ _ _ _
    · split
      · exact hsent _ _ _ _
      · exact refl u

end SameHolds

section
variable (s : State)

theorem State.logFault_fences (code cls action source part data : Nat) :
    (s.logFault code cls action source part data).fences = s.fences :=
  (Only.logFault (R := [Reg.FAULT_LOG.LOG_HEAD, Reg.FAULT_LOG.PERSISTED_HEAD]) (T := [Tab.faultLog, Tab.faultPersisted]) s
    code cls action source part data (by simp) (by simp) (by simp) (by simp)).fences

theorem State.setCause_fences (i : Nat) (b : Bool) : (s.setCause i b).fences = s.fences :=
  (Only.setCause (R := modeRegs) (T := []) s i b (by simp) (by simp) (by simp) (by simp) (by simp) (by simp) (by simp)).fences

theorem State.fatalFault_fences (kind code source part data : Nat) : (s.fatalFault kind code source part data).fences = s.fences := by
  unfold State.fatalFault
  dsimp only
  split
  · rw [State.setCause_fences, State.logFault_fences]
  · split
    · split
      · rw [State.setCause_fences, State.logFault_fences, State.logFault_fences]
      · rw [State.setTab_fences, State.logFault_fences, State.logFault_fences]
    · rw [State.setTab_fences, State.setTab_fences, State.setTab_fences, State.logFault_fences]

theorem State.logTally_fences (quantity part h ledger found by_ outcome : Nat) :
    (s.logTally quantity part h ledger found by_ outcome).fences = s.fences := by
  unfold State.logTally State.when
  dsimp only
  split
  · rw [State.setTab_fences, State.setReg_fences, State.setReg_fences, State.setTab_fences]
  · rw [State.setReg_fences, State.setReg_fences, State.setTab_fences]

/-- A discrepancy asks for the fence of the holder that it names, and of no other (R51, R351). -/
theorem State.isFenced_queueFence {h j : Nat} (log : Option Nat) (hj : j ≠ h) : (s.queueFence h log).isFenced j = s.isFenced j := by
  unfold State.queueFence
  split
  · rfl
  · split
    · cases log
      · rfl
      · rfl
    · simp [State.isFenced, hj.symm]

theorem State.isFenced_discrepancy (quantity part : Nat) {h j : Nat} (ledger found by_ : Nat) (hj : j ≠ h) :
    (s.discrepancy quantity part h ledger found by_).isFenced j = s.isFenced j := by
  have hsame : ∀ u : State, u.fences = s.fences → u.isFenced j = s.isFenced j := fun u hu => by unfold State.isFenced; rw [hu]
  unfold State.discrepancy
  dsimp only
  split
  · refine hsame _ ?_
    unfold State.when
    split
    · rw [State.setTab_fences, State.fatalFault_fences, State.event, State.trigger_fences, State.flag_fences, State.logTally_fences]
    · rw [State.fatalFault_fences, State.event, State.trigger_fences, State.flag_fences, State.logTally_fences]
  · rw [State.isFenced_queueFence _ _ hj]
    exact hsame _ (by rw [State.logFault_fences, State.event, State.trigger_fences, State.flag_fences, State.logTally_fences])

end

/-- A change of a frame's cells can ask for a fence of its pipeline or of the frame itself, and of nothing else (R349). -/
theorem SameHolds.updateFrame (s : State) (f g : Frame) : SameHolds s (s.updateFrame f g) := by
  have hother : ∀ (x : Frame) (k i : Nat), k ≠ 1 → k ≠ 7 → holder k i ≠ x.cellHolder := fun x k i h1 h7 => by
    unfold Frame.cellHolder holder
    split
    · omega
    · omega
  constructor
  · intro k i h1 h7
    unfold State.updateFrame
    dsimp only
    split
    · unfold State.allocate
      split
      · exact State.isFenced_discrepancy _ _ _ _ _ _ (hother g k i h1 h7)
      · rfl
    · unfold State.unreport
      split
      · exact State.isFenced_discrepancy _ _ _ _ _ _ (hother f k i h1 h7)
      · rfl
  · intro p hp
    refine State.reg_updateFrame (quietReg_inRecovery hp) (faultReg_of_mid ?_) s f g ?_
    · unfold Reg.PORT_PFC.IN_RECOVERY; omega
    · simp only [List.mem_cons, List.not_mem_nil, or_false]
      unfold Reg.PORT_PFC.IN_RECOVERY Reg.TALLY_CONTROL.DISCREPANCIES Reg.TALLY_LOG.LOG_HEAD Reg.TALLY_CONTROL.EVENTS
      omega

/-- A copy in one of its port's 16 queues stays where neither its queue, its port, its bench nor their partition is fenced, and its
queue is not in watchdog recovery. -/
theorem State.turnedAway_none {s t : State} {c : Copy} (hF : Fwd 0x300000 s t) (hH : SameHolds s t) (hp : c.port < 643) (hq : c.queue < 16)
    (h2 : s.fenced 2 (16 * c.port + c.queue) = false) (h3 : s.fenced 3 c.port = false)
    (h5 : 514 ≤ c.port → c.port ≤ 641 → s.fenced 5 (c.port - 514) = false) (hr : s.inRecovery c.port c.queue = false) :
    t.turnedAway c = none := by
  have hpart : t.portPart c.port = s.portPart c.port := by
    unfold State.portPart; rw [hF.portReg hp (by decide)]
  have hport : (16 * c.port + c.queue) / 16 = c.port := by omega
  have g2 : t.fenced 2 (16 * c.port + c.queue) = false := by
    rw [← h2]; simp [State.fenced, State.partHolder, hport, hpart, hH.fenced]
  have g3 : t.fenced 3 c.port = false := by
    rw [← h3]; simp [State.fenced, State.partHolder, hpart, hH.fenced]
  have g5 : (decide (514 ≤ c.port) && decide (c.port ≤ 641) && t.fenced 5 (c.port - 514)) = false := by
    by_cases hb : 514 ≤ c.port ∧ c.port ≤ 641
    · have hbench : 514 + (c.port - 514) = c.port := by omega
      have hsame : t.fenced 5 (c.port - 514) = s.fenced 5 (c.port - 514) := by
        simp [State.fenced, State.partHolder, hbench, hpart, hH.fenced]
      rw [hsame, h5 hb.1 hb.2, Bool.and_false]
    · have hno : (decide (514 ≤ c.port) && decide (c.port ≤ 641)) = false := by simpa using hb
      rw [hno, Bool.false_and]
  have gr : t.inRecovery c.port c.queue = false := by
    unfold State.inRecovery at hr ⊢
    by_cases hf : c.port < 512
    · rw [hH.recovery _ hf, hr]
    · simp [hf]
  unfold State.turnedAway
  simp [g2, g3, g5, gr]

end Sys2Proof.Machine
end

section
/-!
SUPPORT. Admission of a frame with one destination (R250 to R252): its charge, its copy, and that the copy stays.
-/
namespace Sys2Proof.Machine

/-- An admitted frame `g` is charged (R250), and its tag is free (R70). -/
def State.charged (s : State) (f g : Frame) : State :=
  ((s.freeTag g.reply).updateFrame f { g with reply := 0 }).pfcCheck g.srcPort

theorem State.charged_kc (s : State) (f g : Frame) : Kc s (s.charged f g) :=
  State.pfcCheck_kc _ _ (State.updateFrame_kc _ _ _ (State.freeTag_kc _ _ ⟨rfl⟩))

theorem State.charged_frames (s : State) (f g : Frame) : (s.charged f g).frames = (s.putFrame { g with reply := 0 }).frames := by
  unfold State.charged
  rw [(State.pfcCheck_kf _ _ ⟨rfl⟩).eq, State.updateFrame_frames]
  unfold State.putFrame
  dsimp only
  rw [(State.freeTag_kf _ _ ⟨rfl⟩ : Kf s _).eq]

theorem State.charged_sameHolds (s : State) (f g : Frame) : SameHolds s (s.charged f g) :=
  ((SameHolds.freeTag _ _).trans (SameHolds.updateFrame _ _ _)).trans (SameHolds.pfcCheck _ _)

theorem State.charged_fwd (s : State) (f g : Frame) : Fwd 0x300000 s (s.charged f g) :=
  State.pfcCheck_fw (Nat.le_refl _) _ _ (State.updateFrame_fw (Nat.le_refl _) _ _ _ (State.freeTag_fw (Nat.le_refl _) _ _ (Fwd.refl s)))

theorem State.forAll_fixed {α : Type} {s : State} {l : List α} {f : State → α → State} (h : ∀ a ∈ l, f s a = s) : s.forAll l f = s := by
  induction l with
  | nil => rfl
  | cons a l ih =>
    change (f s a).forAll l f = s
    rw [h a List.mem_cons_self]
    exact ih fun b hb => h b (List.mem_cons_of_mem _ hb)

/-- Where none of its copies is turned away and its tail is still to come, that is all that admission makes of it. -/
theorem State.admitted_stays {s : State} {f g x : Frame} (hstay : ∀ c ∈ s.copies, c.frame = g.id → (s.charged f g).turnedAway c = none)
    (hg : s.frame? g.id = some x) (ht : g.tailed = false) : s.admitted f g = s.charged f g := by
  have hfound : (s.charged f g).frame? g.id = some { g with reply := 0 } := by
    have hput := State.frame?_putFrame (g := { g with reply := 0 }) hg
    unfold State.frame? at hput ⊢
    rw [State.charged_frames, hput]
  have hkept : ∀ c ∈ (s.charged f g).copies.filter (fun c => c.frame == g.id), (s.charged f g).turnedAway c = none := fun c hc => by
    rw [(s.charged_kc f g).eq] at hc
    obtain ⟨hmem, hframe⟩ := List.mem_filter.mp hc
    exact hstay c hmem (by simpa using hframe)
  unfold State.admitted
  dsimp only
  rw [show ((s.freeTag g.reply).updateFrame f { g with reply := 0 }).pfcCheck g.srcPort = s.charged f g from rfl,
    State.forAll_fixed fun c hc => by rw [hkept c hc], hfound]
  exact if_neg fun h => by rw [ht] at h; exact absurd h.1 Bool.false_ne_true

/-- The charge of a frame: the cells of its length where that is known, else of the longest frame of its port (R250). -/
def State.chargeCells (s : State) (f : Frame) : Nat := ceilDiv (if f.lenKnown then f.len else s.maxFrame f.srcPort) 256

/-- The frame with its charge, of which its own pool gives `own` cells and the shared pool `shared` (R251). -/
def State.chargedFrame (s : State) (f : Frame) (own shared : Nat) : Frame :=
  { f with pool := s.poolOf f, charge := s.chargeCells f, resCells := own, shCells := shared, stage := 2 }

/-- A charged frame with one copy. -/
def State.chargedOnce (s : State) (f : Frame) (own shared : Nat) : Frame := { s.chargedFrame f own shared with refs := f.refs + 1 }

/-- The copy for port `e` of a frame that gets its charge (R250). -/
def State.copyMade (s : State) (f : Frame) (e own shared : Nat) : State :=
  (s.putFrame { f with charge := s.chargeCells f }).makeCopy (s.chargedFrame f own shared) e

/-- A frame with one destination that passes every check is admitted with the copy made for it. -/
theorem State.takeAdmission_copies {s : State} {f : Frame} {e own shared : Nat} (hdrop : f.drop = 0) (hgroup : f.group = none)
    (hdests : f.dests = [e]) (hcells : s.cellsCheck { f with pool := s.poolOf f } (s.chargeCells f) = .ok (own, shared))
    (hcopy : (s.putFrame { f with charge := s.chargeCells f }).copyCheck (s.chargedFrame f own shared) (s.chargeCells f) e = none) :
    s.takeAdmission f = (s.copyMade f e own shared).admitted f (s.chargedOnce f own shared) := by
  have hself : ({ f with dests := [e] } : Frame) = f := by rw [← hdests]
  have hnow : s.destsNow f = some [e] := by rw [← hdests]; unfold State.destsNow; rw [hgroup]
  unfold State.copyMade State.chargedOnce
  unfold State.chargedFrame State.chargeCells at *
  unfold State.takeAdmission
  rw [if_neg (by simp [hdrop]), hnow]
  simp only [hself]
  rw [hdests] at hcells hcopy
  simp only [hcells, State.admitCopies, hcopy, hdests, Nat.add_one_ne_zero, if_false]

theorem State.copyCheck_port {s : State} {f : Frame} {n e : Nat} (h : s.copyCheck f n e = none) : e < 643 := by
  by_cases he : 642 < e
  · unfold State.copyCheck at h
    rw [if_pos (.inl he)] at h
    cases h
  · omega

theorem State.copyMade_frame? {s : State} {f : Frame} (e own shared : Nat) (hf : s.frame? f.id = some f) :
    (s.copyMade f e own shared).frame? f.id = some { f with charge := s.chargeCells f } := by
  have h := State.frame?_putFrame (g := { f with charge := s.chargeCells f }) hf
  unfold State.frame? at h ⊢
  unfold State.copyMade
  rw [(State.makeCopy_kf _ _ _ ⟨rfl⟩).eq]
  exact h

theorem State.copyMade_fwd (s : State) (f : Frame) (e own shared : Nat) : Fwd 0x300000 s (s.copyMade f e own shared) :=
  State.makeCopy_fw (Nat.le_refl _) _ _ _ (State.putFrame_fw (Nat.le_refl _) _ _ (Fwd.refl s))

theorem State.putFrame_sameHolds (s : State) (g : Frame) : SameHolds s (s.putFrame g) := SameHolds.of_fences rfl fun _ _ => rfl

theorem State.ledgerFree_putFrame (s : State) (g : Frame) (k : Nat) : (s.putFrame g).ledgerFree k = s.ledgerFree k := rfl

theorem State.copyMade_sameHolds {s : State} {f : Frame} {e : Nat} (own shared : Nat) (he : e < 643) (hq : f.queue < 16)
    (hfree : 0 < s.ledgerFree Term.descQueued) : SameHolds s (s.copyMade f e own shared) := by
  refine (s.putFrame_sameHolds _).trans (SameHolds.makeCopy he hq ?_)
  rw [State.ledgerFree_putFrame]
  exact hfree

theorem State.copyMade_copies (s : State) (f : Frame) (e own shared : Nat) :
    ∃ c, (s.copyMade f e own shared).copies = s.copies ++ [c] ∧ c.id = s.nextCopy ∧ c.frame = f.id ∧ c.port = e ∧ c.queue = f.queue
      ∧ c.phase = 0 :=
  State.makeCopy_copies _ _ _

/-- A first frame that still arrives, with one destination, that passes every check and is for one of the 16 queues of its port, is
charged and gains a copy queued there (R250 to R252). -/
theorem execBufferAdmission_copies {s : State} {frame : Nat} {f : Frame} {e own shared : Nat} (hf : s.frame? frame = some f)
    (hs : f.stage = 1) (hn : s.admitsNext f) (ht : f.tailed = false) (hdrop : f.drop = 0) (hgroup : f.group = none)
    (hdests : f.dests = [e]) (hq : f.queue < 16) (hfree : 0 < s.ledgerFree Term.descQueued)
    (hcells : s.cellsCheck { f with pool := s.poolOf f } (s.chargeCells f) = .ok (own, shared))
    (hcopy : (s.putFrame { f with charge := s.chargeCells f }).copyCheck (s.chargedFrame f own shared) (s.chargeCells f) e = none)
    (hnone : s.copiesOf f.id = []) (h2 : s.fenced 2 (16 * e + f.queue) = false) (h3 : s.fenced 3 e = false)
    (h5 : 514 ≤ e → e ≤ 641 → s.fenced 5 (e - 514) = false) (hr : s.inRecovery e f.queue = false) :
    ∃ t c g, exec (.bufferAdmission frame) s = .next t ∧ c ∈ t.copies ∧ c.id = s.nextCopy ∧ c.frame = f.id ∧ c.port = e
      ∧ c.queue = f.queue ∧ c.phase = 0 ∧ g ∈ t.frames ∧ g.id = f.id ∧ g.stage = 2 ∧ g.refs = f.refs + 1
      ∧ g.charge = s.chargeCells f ∧ Fwd 0x300000 s t := by
  obtain ⟨-, rfl⟩ := State.frame?_id hf
  have hx := execBufferAdmission_first hf hs hn
  have he : e < 643 := State.copyCheck_port hcopy
  obtain ⟨c, hcopies, hid, hframe, hport, hqueue, hphase⟩ := s.copyMade_copies f e own shared
  have hheld := State.copyMade_frame? e own shared hf
  have hstay : ∀ d ∈ (s.copyMade f e own shared).copies, d.frame = f.id →
      ((s.copyMade f e own shared).charged f (s.chargedOnce f own shared)).turnedAway d = none := fun d hd hdf => by
    rw [hcopies, List.mem_append, List.mem_singleton] at hd
    rcases hd with hd | rfl
    · have hin : d ∈ s.copiesOf f.id := List.mem_filter.mpr ⟨hd, by simpa using hdf⟩
      rw [hnone] at hin
      cases hin
    · rw [← hport, ← hqueue] at h2
      rw [← hport] at he h3 h5
      rw [← hport, ← hqueue] at hr
      exact State.turnedAway_none ((s.copyMade_fwd f e own shared).trans (State.charged_fwd _ _ _))
        ((State.copyMade_sameHolds own shared (hport ▸ he) hq hfree).trans (State.charged_sameHolds _ _ _)) he (hqueue ▸ hq) h2 h3 h5 hr
  have hstate := (State.takeAdmission_copies hdrop hgroup hdests hcells hcopy).trans
    (State.admitted_stays (f := f) (g := s.chargedOnce f own shared) hstay hheld ht)
  refine ⟨_, c, { s.chargedOnce f own shared with reply := 0 }, hx, ?_, hid, hframe, hport, hqueue, hphase, ?_, rfl, rfl, rfl, rfl,
    execBufferAdmission_fw _ s _ hx⟩
  · rw [State.deliverDue_copies, hstate, (State.charged_kc _ _ _).eq, hcopies]
    exact List.mem_append_right _ (List.mem_singleton.mpr rfl)
  · rw [State.deliverDue_frames, hstate, State.charged_frames]
    obtain ⟨hmem, hsame⟩ := State.frame?_id hheld
    exact State.mem_putFrame hmem hsame

end Sys2Proof.Machine
end

section
/-!
SUPPORT. A selection (R272, R274, R277): the strict queue that it takes, and what the copy selected makes of the state.
-/
namespace Sys2Proof.Machine

/-- The head of an eligible queue is a copy queued there (R273). -/
theorem State.eligibleHead_queued {s : State} {p q : Nat} {c : Copy} (h : s.eligibleHead p q = some c) :
    c ∈ s.copies ∧ c.port = p ∧ c.queue = q := by
  unfold State.eligibleHead at h
  split at h
  · cases h
  · next d l hd =>
    split at h
    · obtain rfl := Option.some.inj h
      have hmem : d ∈ s.queued p q := hd ▸ List.mem_cons_self
      simp only [State.queued, List.mem_append, List.mem_filter, Bool.and_eq_true, beq_iff_eq] at hmem
      obtain ⟨⟨hin, ⟨hp, hq⟩, -⟩, -⟩ | ⟨⟨hin, ⟨hp, hq⟩, -⟩, -⟩ := hmem
      · exact ⟨hin, hp, hq⟩
      · exact ⟨hin, hp, hq⟩
    · cases h

/-- The strict queue taken is eligible, and none of a higher number is (R272). -/
theorem State.strictHead_highest {s : State} {p : Nat} {c : Copy} (h : s.strictHead p = some c) :
    s.isStrict p c.queue = true ∧ s.eligibleHead p c.queue = some c
      ∧ ∀ q, c.queue < q → q < 16 → s.isStrict p q = true → s.eligibleHead p q = none := by
  unfold State.strictHead at h
  obtain ⟨above, q, below, hlist, hq, habove⟩ := List.findSome?_eq_some_iff.mp h
  obtain ⟨-, -, rfl⟩ := State.eligibleHead_queued hq
  have hstrict : c.queue ∈ (List.range 16).reverse.filter (fun q => s.isStrict p q) := by rw [hlist]; simp
  refine ⟨(List.mem_filter.mp hstrict).2, hq, fun r hlt hr hrs => habove r ?_⟩
  have hin : r ∈ above ++ c.queue :: below := hlist ▸ List.mem_filter.mpr ⟨by simpa using hr, hrs⟩
  have hfalling : (above ++ c.queue :: below).Pairwise (· > ·) :=
    hlist ▸ List.Pairwise.filter _ (List.pairwise_reverse.mpr List.pairwise_lt_range)
  have hbelow := (List.pairwise_cons.mp (List.pairwise_append.mp hfalling).2.1).1
  rcases List.mem_append.mp hin with h | h
  · exact h
  · rcases List.mem_cons.mp h with h | h
    · omega
    · exact absurd (hbelow r h) (by omega)

theorem execSchedulerSelection_strict {s : State} {p : PortNo} {c : Copy} (hidle : ∀ d ∈ s.copies, d.port = p.val → d.phase ≠ 1)
    (hwire : s.bypassOnWire p = false) (h : s.strictHead p = some c) :
    exec (.schedulerSelection p) s = .next (s.select c 0).deliverDue := by
  have hfree : (s.copies.any (fun d => d.port == p && d.phase == 1) || s.bypassOnWire p) = false := by
    rw [hwire, Bool.or_false, List.any_eq_false]
    intro d hd
    simpa using hidle d hd
  change State.done (s.selection p) = _
  unfold State.selection
  simp only [hfree, h, Bool.false_eq_true, if_false, State.done_eq]

/-- The shapers that are enabled are charged `x` octets for a copy of queue `q` of port `p` (R277). -/
def State.shapersCharged (s : State) (p q x : Nat) : State :=
  let u := s.when (s.qShaped p q) (fun s => s.setQLevel p q (s.qLevel p q - (x * 10 ^ 6 : Nat)))
  u.when (u.pShaped p) (fun s => s.setPLevel p (s.pLevel p - (x * 10 ^ 6 : Nat)))

theorem State.shapersCharged_kf (s : State) (p q x : Nat) : Kf s (s.shapersCharged p q x) := by
  unfold State.shapersCharged
  refine State.when_kf (State.when_kf ⟨rfl⟩ ?_) ?_
  · exact fun u hu => State.setQLevel_kf u p q _ hu
  · exact fun u hu => State.setPLevel_kf u p _ hu

theorem State.shapersCharged_kc (s : State) (p q x : Nat) : Kc s (s.shapersCharged p q x) := by
  unfold State.shapersCharged
  refine State.when_kc (State.when_kc ⟨rfl⟩ ?_) ?_
  · exact fun u hu => State.setQLevel_kc u p q _ hu
  · exact fun u hu => State.setPLevel_kc u p _ hu

theorem State.shapersCharged_clock (s : State) (p q x : Nat) : (s.shapersCharged p q x).clock = s.clock := by
  have hfw : Fwd 0x300000 s (s.shapersCharged p q x) := by
    unfold State.shapersCharged
    refine State.when_fw (State.when_fw (Fwd.refl s) ?_) ?_
    · exact fun u hu => State.setQLevel_fw (Nat.le_refl _) u p q _ hu
    · exact fun u hu => State.setPLevel_fw (Nat.le_refl _) u p _ hu
  exact hfw.clock

theorem State.shapersCharged_level {s : State} {p q : Nat} (x : Nat) (h : s.qShaped p q = true) :
    (s.shapersCharged p q x).reg (Reg.PORT_QSTATE.QSHAPE_LEVEL p)
      = setEntry 16 8 (s.reg (Reg.PORT_QSTATE.QSHAPE_LEVEL p)) q (ofInt 64 (s.qLevel p q - (x * 10 ^ 6 : Nat))) := by
  have hport : ∀ (u : State) (b : Bool) (v : State → Int), (u.when b (fun s => s.setPLevel p (v s))).reg (Reg.PORT_QSTATE.QSHAPE_LEVEL p)
      = u.reg (Reg.PORT_QSTATE.QSHAPE_LEVEL p) := fun u b v => by
    unfold State.when
    split
    · exact State.reg_setReg_other _ _ (by unfold Reg.PORT_QSTATE.QSHAPE_LEVEL Reg.PORT_QSTATE.PSHAPE_LEVEL; omega)
    · rfl
  unfold State.shapersCharged
  dsimp only
  rw [hport, State.when, if_pos h]
  exact State.reg_setReg_same _ _ _

/-- The copy selected, and what it is charged, in octets, where the shapers are enabled (R274, R277). -/
def State.selectedCopy (s : State) (c : Copy) : Copy :=
  let x := s.chargeOf c + s.reg (Reg.PORT_SCHED.OVERHEAD c.port)
  { c with phase := 1, drrCharge := 0, qCharge := if s.qShaped c.port c.queue then x else 0, pCharge := if s.pShaped c.port then x else 0,
           lenKnown := match s.frame? c.frame with | none => false | some f => f.tailed || f.lenKnown,
           start := s.clock.ptp }

theorem State.select_strict (s : State) (c : Copy) :
    s.select c 0 = ((s.shapersCharged c.port c.queue (s.chargeOf c + s.reg (Reg.PORT_SCHED.OVERHEAD c.port))).putCopy
      (s.selectedCopy c)).settleQueue c.port c.queue := by
  unfold State.selectedCopy
  rw [← s.shapersCharged_clock c.port c.queue (s.chargeOf c + s.reg (Reg.PORT_SCHED.OVERHEAD c.port))]
  rfl

theorem State.leaveDrr_copies {s : State} {p q : Nat} (h : (s.drrActive p).contains q = true) :
    (s.leaveDrr p q).copies = s.copies.map (Copy.markEmptied p q) := by
  rw [State.leaveDrr, if_pos h]
  refine Kc.eq (z := { s with copies := s.copies.map (Copy.markEmptied p q) }) ?_
  exact State.setTab_kc (State.setReg_kc (Kc.upd (State.when_kc ⟨rfl⟩ fun _ hu => State.setTab_kc hu)))

theorem Copy.markEmptied_eq (p q : Nat) (c : Copy) :
    (c.markEmptied p q).id = c.id ∧ (c.markEmptied p q).port = c.port ∧ (c.markEmptied p q).phase = c.phase
      ∧ (c.markEmptied p q).start = c.start := by
  unfold Copy.markEmptied
  split
  · exact ⟨rfl, rfl, rfl, rfl⟩
  · exact ⟨rfl, rfl, rfl, rfl⟩

/-- A copy stays among the copies when a queue settles, with its number, port, phase and start instant. -/
theorem State.settleQueue_keeps {s : State} (p q : Nat) {c : Copy} (h : c ∈ s.copies) :
    ∃ d ∈ (s.settleQueue p q).copies, d.id = c.id ∧ d.port = c.port ∧ d.phase = c.phase ∧ d.start = c.start := by
  unfold State.settleQueue
  split
  · by_cases hin : (s.drrActive p).contains q = true
    · exact ⟨c.markEmptied p q, State.leaveDrr_copies hin ▸ List.mem_map_of_mem h, Copy.markEmptied_eq p q c⟩
    · rw [State.leaveDrr, if_neg hin]
      exact ⟨c, h, rfl, rfl, rfl, rfl⟩
  · exact ⟨c, h, rfl, rfl, rfl, rfl⟩

theorem State.settleQueue_reg (s : State) (p q : Nat) {k : Nat} (hk : k ≠ Reg.PORT_QSTATE.DEFICIT p) :
    (s.settleQueue p q).reg k = s.reg k := by
  unfold State.settleQueue
  split
  · unfold State.leaveDrr
    split
    · dsimp only
      rw [State.reg_setTab, State.setDeficit, State.reg_setReg_other _ _ hk]
      exact State.reg_when_setTab _ _ _ _ _ _
    · rfl
  · rfl

theorem State.putCopy_kf {z s : State} (c : Copy) (hs : Kf z s) : Kf z (s.putCopy c) := ⟨hs.eq⟩

theorem State.reg_putCopy (s : State) (c : Copy) (k : Nat) : (s.putCopy c).reg k = s.reg k := rfl

/-- A selection with none before it takes the head of the highest-numbered eligible strict queue, which starts now, and charges the
queue's shaper its length and OVERHEAD (R272, R274, R277). -/
theorem execSchedulerSelection_takes {s : State} {p : PortNo} {c : Copy} (hidle : ∀ d ∈ s.copies, d.port = p.val → d.phase ≠ 1)
    (hwire : s.bypassOnWire p = false) (h : s.strictHead p = some c) :
    ∃ t d, exec (.schedulerSelection p) s = .next t ∧ d ∈ t.copies ∧ d.id = c.id ∧ d.port = p.val ∧ d.phase = 1 ∧ d.start = s.clock.ptp
      ∧ t.frames = s.frames
      ∧ (s.qShaped p c.queue = true → t.reg (Reg.PORT_QSTATE.QSHAPE_LEVEL p) = setEntry 16 8 (s.reg (Reg.PORT_QSTATE.QSHAPE_LEVEL p)) c.queue
          (ofInt 64 (s.qLevel p c.queue - ((s.chargeOf c + s.reg (Reg.PORT_SCHED.OVERHEAD p)) * 10 ^ 6 : Nat))))
      ∧ Fwd 0x300000 s t := by
  have hx := execSchedulerSelection_strict hidle hwire h
  obtain ⟨-, hhead, -⟩ := State.strictHead_highest h
  obtain ⟨hmem, hport, -⟩ := State.eligibleHead_queued hhead
  rw [State.select_strict, hport] at hx
  have hput : s.selectedCopy c ∈ ((s.shapersCharged p c.queue (s.chargeOf c + s.reg (Reg.PORT_SCHED.OVERHEAD p))).putCopy
      (s.selectedCopy c)).copies := State.mem_putCopy (c := c) ((s.shapersCharged_kc _ _ _).eq ▸ hmem) rfl
  obtain ⟨d, hd, hid, hdport, hphase, hstart⟩ := State.settleQueue_keeps p c.queue hput
  refine ⟨_, d, hx, ?_, hid, hdport.trans hport, hphase, hstart, ?_, fun hq => ?_, execSchedulerSelection_fw p s _ hx⟩
  · rw [State.deliverDue_copies]
    exact hd
  · rw [State.deliverDue_frames]
    exact (State.settleQueue_kf _ _ _ (State.putCopy_kf _ (s.shapersCharged_kf _ _ _))).eq
  · have hkey : Reg.PORT_QSTATE.QSHAPE_LEVEL p ≠ Reg.PORT_QSTATE.DEFICIT p := by
      unfold Reg.PORT_QSTATE.QSHAPE_LEVEL Reg.PORT_QSTATE.DEFICIT; omega
    rw [State.reg_delivered _ (by unfold Reg.PORT_QSTATE.QSHAPE_LEVEL; omega) (by unfold Reg.PORT_QSTATE.QSHAPE_LEVEL; omega),
      State.settleQueue_reg _ _ _ hkey, State.reg_putCopy]
    exact State.shapersCharged_level (s.chargeOf c + s.reg (Reg.PORT_SCHED.OVERHEAD p)) hq

end Sys2Proof.Machine
end

section
/-!
SUPPORT. A state in which a frame that passes every check keeps no copy: nothing bounds the number of its queue. The holder of queue
573,440 of port 0 lies, by its number, on port 35,840, and what stands for PARTITION of that port is the event count of
COUNTER_CONTROL. The PFC frame that the charge calls for overflows its counter, the event count becomes 1, and partition 1 is fenced.
-/
namespace Sys2Proof.Machine

/-- A decided frame of port 0 whose one destination is queue 573,440 of port 0. -/
def farQueueFrame : Frame := { Frame.blank 0 0 0 with stage := 1, dests := [0], queue := 573440 }

/-- Port 0 is an Ethernet port that is UP, sends PFC for class 0 at any usage, and has sent 2^48 - 1 PFC frames; partition 1 is fenced. -/
def farQueueState : State :=
  { ((((((State.reset.setReg Reg.POWER_STATE.STATE 3).setReg (Reg.PORT.KIND 0) 1).setReg (Reg.PORT.LINK_STATE 0) 3).setReg
      (Reg.PORT.MAX_FRAME 0) 0).setReg (Reg.PORT_PFC.TX_ENABLE 0) 1).setReg (Reg.PORT_PFC.XOFF_CELLS 0) 0).setTab Tab.counter
      (Ctr.port 0 11) (2 ^ 48 - 1) with
    frames := [farQueueFrame], fences := [{ holder := holder 8 1, state := 1, log := none, units := 0 }] }

/-- The PFC frame is sent when the frame is charged (R289); with it the queue counts as fenced. -/
theorem farQueueState_fencedOnceCharged :
    farQueueState.fenced 2 farQueueFrame.queue = false
      ∧ ((farQueueState.makeCopy { farQueueFrame with stage := 2 } 0).pfcCheck 0).fenced 2 farQueueFrame.queue = true := by
  decide +kernel

theorem State.cellsCheck_nothing {s : State} {f : Frame} (h : f.pool = Pool.part) : s.cellsCheck f 0 = .ok (0, 0) := by
  have hm : f.pool ≠ Pool.mgmt := by rw [h]; decide
  have hd : f.pool ≠ Pool.dalzan := by rw [h]; decide
  have hr : f.pool ≠ Pool.resv := by rw [h]; decide
  unfold State.cellsCheck
  rw [if_neg hm, if_neg hd, if_neg hr]
  exact if_pos (Nat.zero_sub _)

theorem farQueueState_charge : farQueueState.chargeCells farQueueFrame = 0 := by decide +kernel

theorem farQueueState_pool : farQueueState.poolOf farQueueFrame = Pool.part := by decide +kernel

/-- A frame of no known length, on a port with no room for a longer one, needs no cell, and so passes the check (R250, R251). -/
theorem farQueueState_cells : farQueueState.cellsCheck { farQueueFrame with pool := farQueueState.poolOf farQueueFrame }
    (farQueueState.chargeCells farQueueFrame) = .ok (0, 0) := by
  rw [farQueueState_charge]
  exact State.cellsCheck_nothing farQueueState_pool

/-- So the copy is turned away in the admission that made it (R350). -/
theorem farQueueState_noCopy : (farQueueState.takeAdmission farQueueFrame).copies = [] := by decide +kernel

end Sys2Proof.Machine
end

section
/-!
The statement of 10_switch_core_buffer.md settled.
-/
open Sys2Proof Sys2Proof.Machine

/-- Refutes O30: it does not bound the number of the frame's queue, and the partition of a queue numbered 16 or above is read from a
register of another port, or of none. In `farQueueState` that register counts on when the frame is charged, so that a queue which is
not fenced before is fenced then, and the copy ends in the command that made it. For the 16 queues of a port every clause holds:
`execBufferAdmission_drops`, `execBufferAdmission_copies`, `State.strictHead_highest` and `execSchedulerSelection_takes`. -/
theorem not_admissionAndSelection : ¬ Obligations.AdmissionAndSelection := by
  unfold Obligations.AdmissionAndSelection
  rintro ⟨hadmission, -⟩
  have hf : farQueueState.frame? 0 = some farQueueFrame := rfl
  have hn : farQueueState.admitsNext farQueueFrame := ⟨farQueueFrame, by decide +kernel, rfl⟩
  obtain ⟨-, hcopied⟩ := hadmission farQueueState 0 farQueueFrame hf rfl hn
  obtain ⟨t, c, -, ht, hc, -⟩ := hcopied 0 0 0 rfl rfl rfl rfl (by decide +kernel) farQueueState_cells (by decide +kernel) rfl
    (by decide +kernel) (by decide +kernel) (by decide) (by decide +kernel)
  rw [execBufferAdmission_first hf rfl hn] at ht
  rw [← Host.Outcome.next.inj ht, State.deliverDue_copies, farQueueState_noCopy] at hc
  exact List.not_mem_nil hc
end

section
/-!
SUPPORT. An octet string of equal entries reads back the entry that was written, and its other entries as before; a two's complement
number in range is read back.
-/
namespace Sys2Proof.Machine

theorem setOctets_eq (n v off len x : Nat) :
    setOctets n v off len x
      = 2 ^ (8 * (n - off - len)) * (2 ^ (8 * len) * (v / 2 ^ (8 * (n - off - len)) / 2 ^ (8 * len)) + x % 2 ^ (8 * len))
        + v % 2 ^ (8 * (n - off - len)) := by
  unfold setOctets octetsAt
  generalize 8 * (n - off - len) = a
  rw [Nat.shiftRight_eq_div_pow]
  have hlow := Nat.div_add_mod v (2 ^ a)
  have hhigh : 2 ^ a * (v / 2 ^ a) = 2 ^ a * (2 ^ (8 * len) * (v / 2 ^ a / 2 ^ (8 * len))) + 2 ^ a * (v / 2 ^ a % 2 ^ (8 * len)) := by
    rw [← Nat.mul_add, Nat.div_add_mod]
  rw [Nat.mul_comm _ (2 ^ a), Nat.mul_comm _ (2 ^ a), Nat.mul_add]
  omega

/-- Bit by bit: the octets written, and around them what was there. -/
theorem testBit_setOctets (n v off len x k : Nat) :
    (setOctets n v off len x).testBit k
      = if 8 * (n - off - len) ≤ k ∧ k < 8 * (n - off - len) + 8 * len then x.testBit (k - 8 * (n - off - len)) else v.testBit k := by
  rw [setOctets_eq]
  generalize 8 * (n - off - len) = a
  rw [Nat.testBit_two_pow_mul_add _ (Nat.mod_lt _ (Nat.two_pow_pos a)),
    Nat.testBit_two_pow_mul_add _ (Nat.mod_lt _ (Nat.two_pow_pos (8 * len)))]
  simp only [Nat.testBit_mod_two_pow, Nat.testBit_div_two_pow]
  by_cases hlow : k < a
  · rw [if_pos hlow, if_neg (by omega), decide_eq_true hlow, Bool.true_and]
  · by_cases hin : k - a < 8 * len
    · rw [if_neg hlow, if_pos hin, if_pos (by omega), decide_eq_true hin, Bool.true_and]
    · rw [if_neg hlow, if_neg hin, if_neg (by omega), show k - a - 8 * len + 8 * len + a = k by omega]

theorem testBit_octetsAt (n v off len k : Nat) :
    (octetsAt n v off len).testBit k = (decide (k < 8 * len) && v.testBit (8 * (n - off - len) + k)) := by
  unfold octetsAt
  rw [Nat.testBit_mod_two_pow, Nat.testBit_shiftRight]

theorem entryAt_lt (n w v i : Nat) : entryAt n w v i < 2 ^ (8 * w) := Nat.mod_lt _ (Nat.two_pow_pos _)

theorem entryAt_setEntry_same (n w v i x : Nat) : entryAt n w (setEntry n w v i x) i = x % 2 ^ (8 * w) := by
  refine Nat.eq_of_testBit_eq fun k => ?_
  unfold entryAt setEntry
  rw [testBit_octetsAt, testBit_setOctets, Nat.testBit_mod_two_pow]
  by_cases hk : k < 8 * w
  · rw [if_pos (by omega), Nat.add_sub_cancel_left]
  · rw [decide_eq_false hk, Bool.false_and, Bool.false_and]

/-- Two entries of an octet string have no bit in common. -/
theorem entries_disjoint {n w i j : Nat} (hi : i < n) (hj : j < n) (h : j ≠ i) :
    n * w - i * w - w + w ≤ n * w - j * w - w ∨ n * w - j * w - w + w ≤ n * w - i * w - w := by
  have room : ∀ {a b : Nat}, a < b → a * w + w ≤ b * w := fun {a b} hab => by
    rw [← Nat.succ_mul]; exact Nat.mul_le_mul_right w hab
  have hin := room hi
  have hjn := room hj
  rcases Nat.lt_or_gt_of_ne h with h | h
  · have := room h; omega
  · have := room h; omega

theorem entryAt_setEntry_other {n w i j : Nat} (v x : Nat) (hi : i < n) (hj : j < n) (h : j ≠ i) :
    entryAt n w (setEntry n w v i x) j = entryAt n w v j := by
  have hdisjoint := entries_disjoint (w := w) hi hj h
  refine Nat.eq_of_testBit_eq fun k => ?_
  unfold entryAt setEntry
  rw [testBit_octetsAt, testBit_octetsAt, testBit_setOctets]
  by_cases hk : k < 8 * w
  · rw [if_neg (by omega)]
  · rw [decide_eq_false hk, Bool.false_and, Bool.false_and]

theorem ofInt_lt (i : Int) : ofInt 64 i < 2 ^ (8 * 8) := by
  unfold ofInt
  omega

theorem toInt_ofInt {i : Int} (hlo : -(2 ^ 63) ≤ i) (hhi : i < 2 ^ 63) : toInt 64 (ofInt 64 i) = i := by
  unfold toInt ofInt
  split <;> omega

theorem toInt_ge (v : Nat) : -(2 ^ 63) ≤ toInt 64 v := by
  unfold toInt
  split <;> omega

theorem toInt_lt (v : Nat) : toInt 64 v < 2 ^ 63 := by
  unfold toInt
  split <;> omega

end Sys2Proof.Machine
end

section
/-!
SUPPORT. A state changed in turn for the elements of a list without repetition: what each element's own step sees and changes.
-/
namespace Sys2Proof.Machine

/-- What the steps of a list leave, all of them together leave. -/
theorem State.view_forAll {α β : Type} {g : State → β} {f : State → α → State} {l : List α} (h : ∀ u, ∀ a ∈ l, g (f u a) = g u)
    (s : State) : g (s.forAll l f) = g s := by
  induction l generalizing s with
  | nil => rfl
  | cons a l ih =>
    exact (ih (fun u b hb => h u b (List.mem_cons_of_mem _ hb)) (f s a)).trans (h s a List.mem_cons_self)

/-- What the step of `a` sees, `g`, the other steps leave; the step of `a` takes it from `x` to `y`, and so do all of them together. -/
theorem State.view_forAll_once {α β : Type} {g : State → β} {x y : β} {f : State → α → State} {a : α} {l : List α} {s : State}
    (ha : a ∈ l) (hl : l.Nodup) (hother : ∀ u, ∀ b ∈ l, b ≠ a → g (f u b) = g u) (hstep : ∀ u, g u = x → g (f u a) = y) (hs : g s = x) :
    g (s.forAll l f) = y := by
  obtain ⟨before, after, rfl⟩ := List.append_of_mem ha
  have hout : a ∉ before ++ after := (List.nodup_cons.mp (List.perm_middle.nodup hl)).1
  have hrest : ∀ u, ∀ b ∈ before ++ after, g (f u b) = g u := fun u b hb =>
    hother u b (List.perm_middle.mem_iff.mpr (List.mem_cons_of_mem _ hb)) fun h => hout (h ▸ hb)
  have hsplit : s.forAll (before ++ a :: after) f = (f (s.forAll before f) a).forAll after f := List.foldl_append
  rw [hsplit, State.view_forAll fun u b hb => hrest u b (List.mem_append_right _ hb)]
  exact hstep _ ((State.view_forAll (fun u b hb => hrest u b (List.mem_append_left _ hb)) s).trans hs)

end Sys2Proof.Machine
end

section
/-!
SUPPORT. The shapers' levels (R277 to R280): the level written reads back, and what a refill tick makes of a port's levels.
-/
namespace Sys2Proof.Machine

/-! No register of PORT_SCHED or PORT_QSTATE is one that interrupts write. -/
theorem quietReg_portSched {p a : Nat} (hp : p < 643) (ha : a < 256) : quietReg ((0x5000 + p) * 256 + a) = true :=
  quietReg_of_mid (by omega) (by omega)
theorem quietReg_portQstate {p a : Nat} (hp : p < 643) (ha : a < 256) : quietReg ((0x5300 + p) * 256 + a) = true :=
  quietReg_of_mid (by omega) (by omega)

/-- A level in the range of I64 (R294). -/
def levelFits (i : Int) : Prop := -(2 ^ 63) ≤ i ∧ i < 2 ^ 63

theorem State.levelFits_qLevel (s : State) (p q : Nat) : levelFits (s.qLevel p q) := ⟨toInt_ge _, toInt_lt _⟩
theorem State.levelFits_pLevel (s : State) (p : Nat) : levelFits (s.pLevel p) := ⟨toInt_ge _, toInt_lt _⟩

theorem levelFits_refilled {level : Int} {add burst : Nat} (h : levelFits level) (hb : burst < 2 ^ 32) :
    levelFits (refilled level add burst) := by
  unfold levelFits refilled at *
  omega

theorem levelFits_clipLevel {level : Int} (burst : Nat) (h : levelFits level) : levelFits (clipLevel level burst) := by
  unfold levelFits clipLevel at *
  omega

theorem State.qLevel_setQLevel_same (s : State) {p q : Nat} {i : Int} (h : levelFits i) : (s.setQLevel p q i).qLevel p q = i := by
  unfold State.qLevel State.setQLevel
  rw [State.reg_setReg_same, entryAt_setEntry_same, Nat.mod_eq_of_lt (ofInt_lt i), toInt_ofInt h.1 h.2]

theorem State.qLevel_setQLevel_other (s : State) {p q r : Nat} (i : Int) (hq : q < 16) (hr : r < 16) (h : q ≠ r) :
    (s.setQLevel p r i).qLevel p q = s.qLevel p q := by
  unfold State.qLevel State.setQLevel
  rw [State.reg_setReg_same, entryAt_setEntry_other _ _ hr hq h]

theorem State.pLevel_setPLevel (s : State) {p : Nat} {i : Int} (h : levelFits i) : (s.setPLevel p i).pLevel p = i := by
  unfold State.pLevel State.setPLevel
  rw [State.reg_setReg_same, toInt_ofInt h.1 h.2]

theorem Only.setQLevel {R T : List Nat} (s : State) (p q : Nat) (i : Int) (h : Reg.PORT_QSTATE.QSHAPE_LEVEL p ∈ R) :
    Only R T s (s.setQLevel p q i) := Only.setReg _ _ _ (.inl h)
theorem Only.setPLevel {R T : List Nat} (s : State) (p : Nat) (i : Int) (h : Reg.PORT_QSTATE.PSHAPE_LEVEL p ∈ R) :
    Only R T s (s.setPLevel p i) := Only.setReg _ _ _ (.inl h)

/-- What a level of a queue is read from stays where its register does. -/
theorem Only.qLevel {R T : List Nat} {s t : State} (h : Only R T s t) {p : Nat} (q : Nat) (hp : p < 643)
    (hk : Reg.PORT_QSTATE.QSHAPE_LEVEL p ∉ R) : t.qLevel p q = s.qLevel p q := by
  unfold State.qLevel
  rw [h.regs _ hk (quietReg_portQstate hp (by decide))]

theorem Only.pLevel {R T : List Nat} {s t : State} (h : Only R T s t) {p : Nat} (hp : p < 643)
    (hk : Reg.PORT_QSTATE.PSHAPE_LEVEL p ∉ R) : t.pLevel p = s.pLevel p := by
  unfold State.pLevel
  rw [h.regs _ hk (quietReg_portQstate hp (by decide))]

/-- The registers in which the settings of the shapers of port `p` stand (R293). -/
def shaperKeys (p : Nat) : List Nat :=
  [Reg.PORT_SCHED.QSHAPE_ENABLE p, Reg.PORT_SCHED.QSHAPE_RATE p, Reg.PORT_SCHED.QSHAPE_BURST p, Reg.PORT_SCHED.PSHAPE_ENABLE p,
    Reg.PORT_SCHED.PSHAPE_RATE p, Reg.PORT_SCHED.PSHAPE_BURST p]

/-- The settings of the shapers of port `p`. -/
def State.shaperSettings (s : State) (p : Nat) : List Nat := (shaperKeys p).map s.reg

theorem State.queueSettings_congr {s t : State} {p : Nat} (h : t.shaperSettings p = s.shaperSettings p) (q : Nat) :
    t.qShaped p q = s.qShaped p q ∧ t.qRate p q = s.qRate p q ∧ t.qBurst p q = s.qBurst p q := by
  have hreg := List.map_inj_left.mp h
  unfold State.qShaped State.qRate State.qBurst State.u32At
  rw [hreg _ (by simp [shaperKeys]), hreg (Reg.PORT_SCHED.QSHAPE_RATE p) (by simp [shaperKeys]),
    hreg (Reg.PORT_SCHED.QSHAPE_BURST p) (by simp [shaperKeys])]
  exact ⟨rfl, rfl, rfl⟩

theorem State.portSettings_congr {s t : State} {p : Nat} (h : t.shaperSettings p = s.shaperSettings p) :
    t.pShaped p = s.pShaped p ∧ t.reg (Reg.PORT_SCHED.PSHAPE_RATE p) = s.reg (Reg.PORT_SCHED.PSHAPE_RATE p)
      ∧ t.reg (Reg.PORT_SCHED.PSHAPE_BURST p) = s.reg (Reg.PORT_SCHED.PSHAPE_BURST p) := by
  have hreg := List.map_inj_left.mp h
  unfold State.pShaped
  rw [hreg _ (by simp [shaperKeys])]
  exact ⟨rfl, hreg _ (by simp [shaperKeys]), hreg _ (by simp [shaperKeys])⟩

theorem shaperKeys_range {p : Nat} (hp : p < 643) : ∀ k ∈ shaperKeys p, 0x500000 ≤ k ∧ k < 0x530000 := by
  simp only [shaperKeys, List.mem_cons, List.not_mem_nil, or_false, Reg.PORT_SCHED.QSHAPE_ENABLE, Reg.PORT_SCHED.QSHAPE_RATE,
    Reg.PORT_SCHED.QSHAPE_BURST, Reg.PORT_SCHED.PSHAPE_ENABLE, Reg.PORT_SCHED.PSHAPE_RATE, Reg.PORT_SCHED.PSHAPE_BURST]
  omega

/-- The registers of the levels of port `p`. -/
abbrev levelKeys (p : Nat) : List Nat := [Reg.PORT_QSTATE.QSHAPE_LEVEL p, Reg.PORT_QSTATE.PSHAPE_LEVEL p]

theorem mem_levelKeys {p k : Nat} : k ∈ levelKeys p ↔ k = (0x5300 + p) * 256 + 2 ∨ k = (0x5300 + p) * 256 + 3 := by
  simp [Reg.PORT_QSTATE.QSHAPE_LEVEL, Reg.PORT_QSTATE.PSHAPE_LEVEL]

/-- A change of the levels of a port leaves every port's settings. -/
theorem Only.shaperSettings {T : List Nat} {s t : State} {b : Nat} (h : Only (levelKeys b) T s t) {p : Nat} (hp : p < 643) :
    t.shaperSettings p = s.shaperSettings p := by
  refine List.map_inj_left.mpr fun k hk => ?_
  obtain ⟨hlo, hhi⟩ := shaperKeys_range hp k hk
  exact h.regs k (by rw [mem_levelKeys]; omega) (quietReg_of_mid (by omega) (by omega))

/-- The level of queue `q` of port `p` after a refill tick, and the port's (R277). -/
def State.qLevelRefilled (s : State) (p q : Nat) : Int :=
  if s.qShaped p q then refilled (s.qLevel p q) (s.qRate p q * 5) (s.qBurst p q) else s.qLevel p q
def State.pLevelRefilled (s : State) (p : Nat) : Int :=
  if s.pShaped p then refilled (s.pLevel p) (s.reg (Reg.PORT_SCHED.PSHAPE_RATE p) * 5) (s.reg (Reg.PORT_SCHED.PSHAPE_BURST p))
  else s.pLevel p

/-- The shaper of queue `q` of port `p` takes one refill tick (R277). -/
def State.refillQueue (p : Nat) (s : State) (q : Nat) : State :=
  s.setQLevel p q (refilled (s.qLevel p q) (s.qRate p q * 5) (s.qBurst p q))

/-- The shaper of port `p` takes one. -/
def State.refillPortLevel (s : State) (p : Nat) : State :=
  s.when (s.pShaped p) (fun s => s.setPLevel p
    (refilled (s.pLevel p) (s.reg (Reg.PORT_SCHED.PSHAPE_RATE p) * 5) (s.reg (Reg.PORT_SCHED.PSHAPE_BURST p))))

/-- The enabled shapers of the queues of port `p` take one. -/
def State.refillQueues (s : State) (p : Nat) : State := s.forAll ((List.range 16).filter (s.qShaped p)) (State.refillQueue p)

/-- With no queue shaper enabled none is raised, so QSHAPE_ENABLE 0 is no case of its own. -/
theorem State.refillPort_eq (s : State) (p : Nat) : s.refillPort p = (s.refillQueues p).refillPortLevel p := by
  unfold State.refillPort State.refillPortLevel State.refillQueues
  by_cases h : s.reg (Reg.PORT_SCHED.QSHAPE_ENABLE p) = 0
  · have hnone : (List.range 16).filter (s.qShaped p) = [] := by
      refine List.filter_eq_nil_iff.mpr fun q _ => ?_
      unfold State.qShaped bit
      rw [h, Nat.zero_testBit]
      exact Bool.false_ne_true
    rw [if_pos h, hnone]
    rfl
  · rw [if_neg h]
    rfl

theorem Only.refillQueue {T : List Nat} (s : State) (p q : Nat) : Only [Reg.PORT_QSTATE.QSHAPE_LEVEL p] T s (s.refillQueue p q) :=
  Only.setQLevel _ _ _ _ (by simp)

theorem Only.refillQueues {T : List Nat} (s : State) (p : Nat) : Only [Reg.PORT_QSTATE.QSHAPE_LEVEL p] T s (s.refillQueues p) :=
  Only.forAll _ _ _ fun _ _ _ => Only.refillQueue _ _ _

theorem Only.refillPortLevel {T : List Nat} (s : State) (p : Nat) : Only [Reg.PORT_QSTATE.PSHAPE_LEVEL p] T s (s.refillPortLevel p) :=
  Only.when _ _ _ fun _ => Only.setPLevel _ _ _ (by simp)

theorem Only.refillPort {T : List Nat} (s : State) (p : Nat) :
    Only (levelKeys p) T s (s.refillPort p) := by
  rw [State.refillPort_eq]
  exact ((Only.refillQueues s p).mono (by simp) fun _ h => h).trans ((Only.refillPortLevel _ p).mono (by simp) fun _ h => h)

/-- A queue's level, and the settings that a refill of it goes by; the port's likewise. -/
def State.queueShaper (p q : Nat) (s : State) : Int × List Nat := (s.qLevel p q, s.shaperSettings p)
def State.portShaper (p : Nat) (s : State) : Int × List Nat := (s.pLevel p, s.shaperSettings p)

theorem State.qLevelRefilled_congr {s t : State} {p q : Nat} (h : t.queueShaper p q = s.queueShaper p q) :
    t.qLevelRefilled p q = s.qLevelRefilled p q := by
  obtain ⟨hlevel, hset⟩ := Prod.mk.inj h
  obtain ⟨hen, hrate, hburst⟩ := State.queueSettings_congr hset q
  unfold State.qLevelRefilled
  rw [hlevel, hen, hrate, hburst]

theorem State.pLevelRefilled_congr {s t : State} {p : Nat} (h : t.portShaper p = s.portShaper p) :
    t.pLevelRefilled p = s.pLevelRefilled p := by
  obtain ⟨hlevel, hset⟩ := Prod.mk.inj h
  obtain ⟨hen, hrate, hburst⟩ := State.portSettings_congr hset
  unfold State.pLevelRefilled
  rw [hlevel, hen, hrate, hburst]

theorem State.refillQueues_level (s : State) {p q : Nat} (hp : p < 643) (hq : q < 16) :
    (s.refillQueues p).qLevel p q = s.qLevelRefilled p q := by
  have hset : ∀ (u : State) (r : Nat), (u.refillQueue p r).shaperSettings p = u.shaperSettings p := fun u r =>
    ((Only.refillQueue (T := []) u p r).mono (R' := levelKeys p) (by simp) fun _ h => h).shaperSettings hp
  have hother : ∀ (u : State), ∀ r ∈ (List.range 16).filter (s.qShaped p), r ≠ q → (u.refillQueue p r).queueShaper p q = u.queueShaper p q :=
    fun u r hr hne => Prod.ext
      (State.qLevel_setQLevel_other u _ hq (List.mem_range.mp (List.mem_filter.mp hr).1) hne.symm) (hset u r)
  unfold State.refillQueues State.qLevelRefilled
  split
  · next hen =>
    refine congrArg Prod.fst (State.view_forAll_once (g := State.queueShaper p q) (x := s.queueShaper p q) (y := (_, s.shaperSettings p))
      (List.mem_filter.mpr ⟨List.mem_range.mpr hq, hen⟩) (List.nodup_range.sublist List.filter_sublist) hother (fun u hu => ?_) rfl)
    obtain ⟨hlevel, husets⟩ := Prod.mk.inj hu
    obtain ⟨-, hrate, hburst⟩ := State.queueSettings_congr husets q
    refine Prod.ext ?_ ((hset u q).trans husets)
    change (u.refillQueue p q).qLevel p q = _
    unfold State.refillQueue
    rw [hlevel, hrate, hburst]
    exact State.qLevel_setQLevel_same _ (levelFits_refilled (s.levelFits_qLevel p q) (entryAt_lt 16 4 _ _))
  · next hen =>
    exact congrArg Prod.fst (State.view_forAll (g := State.queueShaper p q)
      (fun u r hr => hother u r hr fun h => hen (h ▸ (List.mem_filter.mp hr).2)) s)

theorem State.refillPortLevel_level (s : State) {p : Nat} (hb : s.reg (Reg.PORT_SCHED.PSHAPE_BURST p) < 2 ^ 32) :
    (s.refillPortLevel p).pLevel p = s.pLevelRefilled p := by
  unfold State.refillPortLevel State.pLevelRefilled State.when
  split
  · exact State.pLevel_setPLevel _ (levelFits_refilled (s.levelFits_pLevel p) hb)
  · rfl

/-- A refill tick of a port raises its queues' levels. -/
theorem State.refillPort_qLevel (s : State) {p q : Nat} (hp : p < 643) (hq : q < 16) :
    (s.refillPort p).qLevel p q = s.qLevelRefilled p q := by
  rw [State.refillPort_eq, (Only.refillPortLevel (T := []) _ p).qLevel q hp (by simp)]
  exact s.refillQueues_level hp hq

/-- And the port's own. -/
theorem State.refillPort_pLevel (s : State) {p : Nat} (hp : p < 643) (hb : s.reg (Reg.PORT_SCHED.PSHAPE_BURST p) < 2 ^ 32) :
    (s.refillPort p).pLevel p = s.pLevelRefilled p := by
  have honly := Only.refillQueues (T := []) s p
  have hset := (honly.mono (R' := levelKeys p) (by simp) fun _ h => h).shaperSettings hp
  obtain ⟨-, -, hburst⟩ := State.portSettings_congr hset
  rw [State.refillPort_eq, State.refillPortLevel_level _ (hburst ▸ hb)]
  exact State.pLevelRefilled_congr (Prod.ext (honly.pLevel hp (by simp)) hset)

/-- The ports listed take a refill tick. -/
def State.refillPorts (s : State) (l : List Nat) : State := s.forAll l State.refillPort

/-- The tick of one port is nothing to another. -/
theorem State.refillPort_other (s : State) {p b : Nat} (hp : p < 643) (h : b ≠ p) :
    (∀ q, (s.refillPort b).queueShaper p q = s.queueShaper p q) ∧ (s.refillPort b).portShaper p = s.portShaper p := by
  have honly := Only.refillPort (T := []) s b
  have hset := honly.shaperSettings hp
  have hq : Reg.PORT_QSTATE.QSHAPE_LEVEL p ∉ levelKeys b := by rw [mem_levelKeys]; unfold Reg.PORT_QSTATE.QSHAPE_LEVEL; omega
  have hl : Reg.PORT_QSTATE.PSHAPE_LEVEL p ∉ levelKeys b := by rw [mem_levelKeys]; unfold Reg.PORT_QSTATE.PSHAPE_LEVEL; omega
  exact ⟨fun q => Prod.ext (honly.qLevel q hp hq) hset, Prod.ext (honly.pLevel hp hl) hset⟩

theorem State.refillPorts_qLevel (s : State) {p q : Nat} {l : List Nat} (hp : p < 643) (hq : q < 16) (hl : l.Nodup) (hin : p ∈ l) :
    (s.refillPorts l).qLevel p q = s.qLevelRefilled p q := by
  refine congrArg Prod.fst (State.view_forAll_once (g := State.queueShaper p q) (x := s.queueShaper p q) (y := (_, s.shaperSettings p))
    hin hl (fun u b _ hne => (u.refillPort_other hp hne).1 q) (fun u hu => Prod.ext ?_ ?_) rfl)
  · exact (u.refillPort_qLevel hp hq).trans (State.qLevelRefilled_congr hu)
  · exact ((Only.refillPort (T := []) u p).shaperSettings hp).trans (congrArg Prod.snd hu)

theorem State.refillPorts_pLevel (s : State) {p : Nat} {l : List Nat} (hp : p < 643)
    (hb : s.reg (Reg.PORT_SCHED.PSHAPE_BURST p) < 2 ^ 32) (hl : l.Nodup) (hin : p ∈ l) : (s.refillPorts l).pLevel p = s.pLevelRefilled p := by
  refine congrArg Prod.fst (State.view_forAll_once (g := State.portShaper p) (x := s.portShaper p) (y := (_, s.shaperSettings p))
    hin hl (fun u b _ hne => (u.refillPort_other hp hne).2) (fun u hu => Prod.ext ?_ ?_) rfl)
  · have hset : u.shaperSettings p = s.shaperSettings p := congrArg Prod.snd hu
    obtain ⟨-, -, hburst⟩ := State.portSettings_congr hset
    exact (u.refillPort_pLevel hp (hburst ▸ hb)).trans (State.pLevelRefilled_congr hu)
  · exact ((Only.refillPort (T := []) u p).shaperSettings hp).trans (congrArg Prod.snd hu)

theorem Only.refillPorts {T : List Nat} (s : State) (l : List Nat) : Only (l.flatMap levelKeys) T s (s.refillPorts l) :=
  Only.forAll _ _ _ fun u _ hb => (Only.refillPort u _).mono (fun _ hk => List.mem_flatMap.mpr ⟨_, hb, hk⟩) fun _ h => h

end Sys2Proof.Machine
end

section
/-!
SUPPORT. The policers' buckets (R283): what a refill tick makes of each, the listed policers being each one once.
-/
namespace Sys2Proof.Machine

/-- A canonical store lists its keys rising. -/
theorem SMap.rising {α : Type} [DecidableEq α] {d : Nat → α} {m : SMap α} (h : m.wf d = true) : m.Pairwise (fun a b => a.1 < b.1) := by
  induction m with
  | nil => exact List.Pairwise.nil
  | cons e m ih =>
    obtain ⟨k, v⟩ := e
    simp only [SMap.wf, Bool.and_eq_true] at h
    obtain ⟨⟨-, habove⟩, hm⟩ := h
    exact List.pairwise_cons.mpr ⟨SMap.above_trans hm habove, ih hm⟩

/-- A key that does not read as unlisted is listed. -/
theorem SMap.mem_of_get {α : Type} {d : Nat → α} {m : SMap α} {k : Nat} (h : m.get d k ≠ d k) : ∃ e ∈ m, e.1 = k := by
  induction m with
  | nil => exact absurd rfl h
  | cons e m ih =>
    by_cases hk : k = e.1
    · exact ⟨e, List.mem_cons_self, hk.symm⟩
    · obtain ⟨e', he', hk'⟩ := ih (by rwa [SMap.get, if_neg hk] at h)
      exact ⟨e', List.mem_cons_of_mem _ he', hk'⟩

theorem State.mem_tabList {s : State} {t : Nat} {e : Nat × Nat} (h : e ∈ s.tabList t) : e.1 < 2 ^ 40 := by
  obtain ⟨x, hx, rfl⟩ := List.mem_map.mp h
  have hrange := (List.mem_filter.mp hx).2
  simp only [tabKey, Bool.and_eq_true, decide_eq_true_eq] at hrange ⊢
  omega

theorem State.mem_tabList_of_tab {s : State} {t i : Nat} (hi : i < 2 ^ 40) (h : s.tab t i ≠ Tab.dflt (tabKey t i)) :
    i ∈ (s.tabList t).map (·.1) := by
  obtain ⟨e, he, hk⟩ := SMap.mem_of_get h
  have hbase : tabKey t i = tabKey t 0 + i := by simp only [tabKey, Nat.add_zero]
  have hend : tabKey (t + 1) 0 = tabKey t 0 + 2 ^ 40 := by simp only [tabKey, Nat.succ_mul, Nat.add_zero]
  have hin : e ∈ SMap.between (tabKey t 0) (tabKey (t + 1) 0) s.tabs := by
    refine List.mem_filter.mpr ⟨he, ?_⟩
    rw [hk, hend, hbase]
    generalize tabKey t 0 = base
    simp only [Bool.and_eq_true, decide_eq_true_eq]
    omega
  refine List.mem_map.mpr ⟨(e.1 - tabKey t 0, e.2), List.mem_map_of_mem hin, ?_⟩
  dsimp only
  rw [hk, hbase, Nat.add_sub_cancel_left]

/-- The keys of a range, counted from its first, are listed once each. -/
theorem SMap.between_nodup {α : Type} [DecidableEq α] {d : Nat → α} {m : SMap α} (h : m.wf d = true) (lo hi : Nat) :
    ((SMap.between lo hi m).map (fun e => e.1 - lo)).Nodup := by
  refine List.pairwise_map.mpr (((SMap.rising h).filter _).imp_of_mem fun ha _ hlt => ?_)
  have hlo := (List.mem_filter.mp ha).2
  simp only [Bool.and_eq_true, decide_eq_true_eq] at hlo
  omega

theorem State.tabList_nodup {s : State} (h : s.wf = true) (t : Nat) : ((s.tabList t).map (·.1)).Nodup := by
  simp only [State.wf, Bool.and_eq_true] at h
  obtain ⟨⟨-, htabs⟩, -⟩ := h
  unfold State.tabList
  rw [List.map_map]
  exact SMap.between_nodup htabs _ _

/-- A VALID policer is listed: an unlisted one reads as not VALID. -/
theorem State.mem_policerList {s : State} {i : Nat} (hi : i < 2 ^ 40) (h : polValid (s.policerElem i) = true) : i ∈ s.policerList := by
  refine State.mem_tabList_of_tab hi fun hd => ?_
  have hdflt : Tab.dflt (tabKey (Tab.win 0x5600) i) = 0 := by
    have hdiv : tabKey (Tab.win 0x5600) i / 2 ^ 40 = 0x15600 := by unfold tabKey Tab.win; omega
    unfold Tab.dflt
    dsimp only
    rw [hdiv, if_neg (by decide), if_neg (by decide), if_neg (by decide), if_neg (by decide), if_pos (by decide)]
    rfl
  unfold State.policerElem at h
  rw [hd, hdflt] at h
  exact absurd h (by decide)

theorem State.policerList_lt {s : State} {i : Nat} (h : i ∈ s.policerList) : i < 2 ^ 40 := by
  obtain ⟨e, he, rfl⟩ := List.mem_map.mp h
  exact State.mem_tabList he

/-- A policer's element and its two buckets. -/
def State.policer (i : Nat) (s : State) : Nat × Nat × Nat := (s.policerElem i, s.tab Tab.polC i, s.tab Tab.polE i)

/-- The same after a refill tick (R283). -/
def State.policerRefilled (s : State) (i : Nat) : Nat × Nat × Nat :=
  (s.policerElem i,
    if polValid (s.policerElem i) then min (polCbs (s.policerElem i) * 10 ^ 6) (s.tab Tab.polC i + polCir (s.policerElem i) * 5)
    else s.tab Tab.polC i,
    if polValid (s.policerElem i) then min (polEbs (s.policerElem i) * 10 ^ 6) (s.tab Tab.polE i + polEir (s.policerElem i) * 5)
    else s.tab Tab.polE i)

theorem State.policerRefilled_congr {s t : State} {i : Nat} (h : t.policer i = s.policer i) : t.policerRefilled i = s.policerRefilled i := by
  obtain ⟨helem, hbuckets⟩ := Prod.mk.inj h
  obtain ⟨hc, he⟩ := Prod.mk.inj hbuckets
  unfold State.policerRefilled
  rw [helem, hc, he]

theorem State.refillPolicer_same (s : State) {i : Nat} (hi : i < 2 ^ 40) : (s.refillPolicer i).policer i = s.policerRefilled i := by
  have hC : Tab.polC ≠ Tab.polE := by decide
  have hwC : Tab.win 0x5600 ≠ Tab.polC := by decide
  have hwE : Tab.win 0x5600 ≠ Tab.polE := by decide
  unfold State.refillPolicer State.policer State.policerRefilled State.policerElem
  dsimp only
  split
  · rw [State.tab_setTab_same, State.tab_setTab_table _ _ hwE hi hi, State.tab_setTab_table _ _ hwC hi hi,
      State.tab_setTab_table _ _ hC hi hi, State.tab_setTab_same]
  · rfl

theorem State.refillPolicer_other (s : State) {i j : Nat} (hi : i < 2 ^ 40) (hj : j < 2 ^ 40) (h : j ≠ i) :
    (s.refillPolicer j).policer i = s.policer i := by
  unfold State.refillPolicer State.policer State.policerElem
  dsimp only
  split
  · simp only [State.tab_setTab_index _ _ h.symm, State.tab_setTab_table _ _ (show Tab.win 0x5600 ≠ Tab.polC by decide) hj hi,
      State.tab_setTab_table _ _ (show Tab.win 0x5600 ≠ Tab.polE by decide) hj hi,
      State.tab_setTab_table _ _ (show Tab.polC ≠ Tab.polE by decide) hj hi,
      State.tab_setTab_table _ _ (show Tab.polE ≠ Tab.polC by decide) hj hi]
  · rfl

/-- The listed policers take a refill tick. -/
def State.refillPolicers (s : State) (l : List Nat) : State := s.forAll l State.refillPolicer

theorem State.refillPolicers_policer {s : State} {l : List Nat} (hl : l.Nodup) (hlt : ∀ j ∈ l, j < 2 ^ 40) {i : Nat} (hi : i < 2 ^ 40)
    (hin : polValid (s.policerElem i) = true → i ∈ l) : (s.refillPolicers l).policer i = s.policerRefilled i := by
  have hother : ∀ (u : State), ∀ j ∈ l, j ≠ i → (u.refillPolicer j).policer i = u.policer i :=
    fun u _ hj hne => u.refillPolicer_other hi (hlt _ hj) hne
  by_cases hmem : i ∈ l
  · exact State.view_forAll_once (x := s.policer i) hmem hl hother
      (fun u hu => (u.refillPolicer_same hi).trans (State.policerRefilled_congr hu)) rfl
  · have hinvalid : polValid (s.policerElem i) = false := Bool.eq_false_iff.mpr fun h => hmem (hin h)
    refine (State.view_forAll (g := State.policer i) (fun u j hj => hother u j hj fun h => hmem (h ▸ hj)) s).trans ?_
    unfold State.policerRefilled
    rw [hinvalid]
    rfl

theorem Only.refillPolicer {R : List Nat} (s : State) {i : Nat} (hi : i < 2 ^ 40) : Only R [Tab.polC, Tab.polE] s (s.refillPolicer i) := by
  unfold State.refillPolicer
  dsimp only
  split
  · exact (Only.setTab _ _ _ _ hi (.inl (by simp))).trans (Only.setTab _ _ _ _ hi (.inl (by simp)))
  · exact Only.refl _

theorem Only.refillPolicers {R : List Nat} (s : State) {l : List Nat} (h : ∀ i ∈ l, i < 2 ^ 40) :
    Only R [Tab.polC, Tab.polE] s (s.refillPolicers l) :=
  Only.forAll _ _ _ fun _ i hi => Only.refillPolicer _ (h i hi)

/-- A frame that names no table of the policers leaves them. -/
theorem Only.policer {R : List Nat} {s t : State} (h : Only R [] s t) {i : Nat} (hi : i < 2 ^ 40) : t.policer i = s.policer i := by
  unfold State.policer State.policerElem
  rw [h.tabs (Tab.win 0x5600) i hi (by simp) (by decide), h.tabs Tab.polC i hi (by simp) (by decide),
    h.tabs Tab.polE i hi (by simp) (by decide)]

/-- The state after a refill tick, but for what waits to be delivered (R277, R283). -/
def State.refilledAll (s : State) : State := (s.refillPorts (List.range 643)).refillPolicers s.policerList

theorem execRefillTick_refills (s : State) : exec .refillTick s = .next s.refilledAll.deliverDue := rfl

/-- What it writes of the ports, and then of the policers. -/
theorem Only.refilledAll (s : State) :
    Only ((List.range 643).flatMap levelKeys) [] s (s.refillPorts (List.range 643))
      ∧ Only [] [Tab.polC, Tab.polE] (s.refillPorts (List.range 643)) s.refilledAll.deliverDue :=
  ⟨Only.refillPorts s _, (Only.refillPolicers _ fun _ => State.policerList_lt).trans (Only.deliverDue _)⟩

theorem State.refilledAll_qLevel (s : State) {p q : Nat} (hp : p < 643) (hq : q < 16) :
    s.refilledAll.deliverDue.qLevel p q = s.qLevelRefilled p q := by
  rw [(Only.refilledAll s).2.qLevel q hp List.not_mem_nil]
  exact s.refillPorts_qLevel hp hq List.nodup_range (List.mem_range.mpr hp)

theorem State.refilledAll_pLevel (s : State) {p : Nat} (hp : p < 643) (hb : s.reg (Reg.PORT_SCHED.PSHAPE_BURST p) < 2 ^ 32) :
    s.refilledAll.deliverDue.pLevel p = s.pLevelRefilled p := by
  rw [(Only.refilledAll s).2.pLevel hp List.not_mem_nil]
  exact s.refillPorts_pLevel hp hb List.nodup_range (List.mem_range.mpr hp)

theorem State.refilledAll_policer {s : State} (hs : s.wf = true) {i : Nat} (hi : i < 2 ^ 40) :
    s.refilledAll.deliverDue.policer i = s.policerRefilled i := by
  have hports : (s.refillPorts (List.range 643)).policer i = s.policer i := (Only.refilledAll s).1.policer hi
  have helem : (s.refillPorts (List.range 643)).policerElem i = s.policerElem i := (Prod.mk.inj hports).1
  rw [(Only.deliverDue s.refilledAll : Only [] [] _ _).policer hi, ← State.policerRefilled_congr hports]
  exact State.refillPolicers_policer (State.tabList_nodup hs _) (fun _ => State.policerList_lt) hi
    fun h => State.mem_policerList hi (helem ▸ h)

end Sys2Proof.Machine
end

section
/-!
SUPPORT. A write of PORT_SCHED (R272, R280, R281): the register and the clipped levels, and what the calculator makes of it.
-/
namespace Sys2Proof.Machine

theorem Dict.lookup_portSched (p : PortNo) : Dict.lookup (0x5000 + p) = some Dict.obj5000 :=
  Dict.lookup_of_run (lo := 0x5000) (n := 643) rfl (by decide) (by decide) (by omega) (by omega)

theorem Dict.lookup_portQstate (p : PortNo) : Dict.lookup (0x5300 + p) = some Dict.obj5300 :=
  Dict.lookup_of_run (lo := 0x5300) (n := 643) rfl (by decide) (by decide) (by omega) (by omega)

/-- Every sub-index of PORT_SCHED is part of the saved configuration (R293). -/
theorem savedSub_portSched (p : PortNo) {sub : Nat} (h1 : 1 ≤ sub) (h9 : sub ≤ 9) : savedSub (0x5000 + p) sub = true := by
  unfold savedSub
  rw [Dict.lookup_portSched]
  have hsub : sub = 1 ∨ sub = 2 ∨ sub = 3 ∨ sub = 4 ∨ sub = 5 ∨ sub = 6 ∨ sub = 7 ∨ sub = 8 ∨ sub = 9 := by omega
  rcases hsub with rfl | rfl | rfl | rfl | rfl | rfl | rfl | rfl | rfl <;> rfl

/-- HWM_CLEAR is not (R294). -/
theorem savedSub_hwmClear (p : PortNo) : savedSub (0x5300 + p) 0x07 = false := by
  unfold savedSub
  rw [Dict.lookup_portQstate]
  rfl

/-! ### What the schedule's own operations change -/

/-- `t` differs from `s` likewise, and in the DRR lists and the copies. -/
def OnlyDrr (R T : List Nat) (s t : State) : Prop := Only R T { s with drr := t.drr, copies := t.copies } t

theorem OnlyDrr.of_only {R T : List Nat} {s t : State} (h : Only R T s t) : OnlyDrr R T s t := by
  unfold OnlyDrr
  rw [h.drr, h.copies]
  exact h

theorem OnlyDrr.trans {R T : List Nat} {s t u : State} (h : OnlyDrr R T s t) (g : OnlyDrr R T t u) : OnlyDrr R T s u := by
  refine Only.trans (t := ({ t with drr := u.drr, copies := u.copies } : State)) ?_ g
  exact { h with drr := rfl, copies := rfl }

theorem OnlyDrr.forAll {α : Type} {R T : List Nat} {f : State → α → State} {l : List α} (h : ∀ u, ∀ a ∈ l, OnlyDrr R T u (f u a))
    (s : State) : OnlyDrr R T s (s.forAll l f) := by
  induction l generalizing s with
  | nil => exact .of_only (Only.refl s)
  | cons a l ih => exact (h s a List.mem_cons_self).trans (ih (fun u b hb => h u b (List.mem_cons_of_mem _ hb)) (f s a))

theorem OnlyDrr.reg {R T : List Nat} {s t : State} (h : OnlyDrr R T s t) {k : Nat} (hk : k ∉ R) (hq : quietReg k = true) :
    t.reg k = s.reg k := h.regs k hk hq

/-- What entering and leaving the active list writes: the deficit, and whose turn it is (R275). -/
abbrev drrTables : List Nat := [Tab.drrCur, Tab.drrVisited]

theorem OnlyDrr.setDrrActive {R T : List Nat} (s : State) (p : Nat) (l : List Nat) : OnlyDrr R T s (s.setDrrActive p l) := Only.refl _

theorem OnlyDrr.setCopies {R T : List Nat} (s : State) (l : List Copy) : OnlyDrr R T s { s with copies := l } := Only.refl _

theorem OnlyDrr.setTab {R T : List Nat} (s : State) {t i : Nat} (v : Nat) (hi : i < 2 ^ 40) (ht : t ∈ T) : OnlyDrr R T s (s.setTab t i v) :=
  .of_only (Only.setTab s t i v hi (.inl ht))

theorem State.leaveDrr_only (s : State) {p q : Nat} (hp : p < 643) (hq : q < 16) :
    OnlyDrr [Reg.PORT_QSTATE.DEFICIT p] drrTables s (s.leaveDrr p q) := by
  unfold State.leaveDrr
  split
  · refine .trans ?_ (.setTab _ _ (by omega) (by simp))
    refine .trans ?_ (.of_only (Only.setReg _ _ _ (.inl (by simp))))
    refine .trans ?_ (.setDrrActive _ _ _)
    exact .trans (.setCopies _ _) (.of_only (Only.when _ _ _ fun u => Only.setTab u Tab.drrCur p _ (by omega) (.inl (by simp))))
  · exact .of_only (Only.refl s)

theorem State.enterDrr_only (s : State) {p : Nat} (q : Nat) (hp : p < 643) :
    OnlyDrr [Reg.PORT_QSTATE.DEFICIT p] drrTables s (s.enterDrr p q) := by
  unfold State.enterDrr
  split
  · exact .of_only (Only.refl s)
  · exact .trans (.of_only (Only.when _ _ _ fun u => Only.setTab u Tab.drrCur p _ (by omega) (.inl (by simp)))) (.setDrrActive _ _ _)

/-- A write of STRICT_MASK is the register first, and then the active list. -/
theorem State.writeStrictMask_only (s : State) {p : Nat} (v : Nat) (hp : p < 643) :
    OnlyDrr [Reg.PORT_QSTATE.DEFICIT p] drrTables (s.setReg (Reg.PORT_SCHED.STRICT_MASK p) v) (s.writeStrictMask p v) := by
  unfold State.writeStrictMask
  dsimp only
  refine OnlyDrr.forAll (fun u q hq => ?_) _
  have hq16 := List.mem_range.mp hq
  split
  · exact u.leaveDrr_only hp hq16
  · split
    · exact u.enterDrr_only q hp
    · exact .of_only (Only.refl u)

/-- A write of QSHAPE_BURST clips the levels of the queues (R280). -/
def State.clipQueues (s : State) (p v : Nat) : State :=
  s.forAll (List.range 16) (fun s q => s.setQLevel p q (clipLevel (s.qLevel p q) (entryAt 16 4 v q)))

theorem Only.clipQueues {T : List Nat} (s : State) (p v : Nat) : Only [Reg.PORT_QSTATE.QSHAPE_LEVEL p] T s (s.clipQueues p v) :=
  Only.forAll _ _ _ fun _ _ _ => Only.setQLevel _ _ _ _ (by simp)

theorem State.clipQueues_qLevel (s : State) (p v : Nat) {q : Nat} (hq : q < 16) :
    (s.clipQueues p v).qLevel p q = clipLevel (s.qLevel p q) (entryAt 16 4 v q) := by
  refine State.view_forAll_once (g := fun u => u.qLevel p q) (List.mem_range.mpr hq) List.nodup_range
    (fun u r hr hne => State.qLevel_setQLevel_other u _ hq (List.mem_range.mp hr) hne.symm) (fun u hu => ?_) rfl
  rw [hu]
  exact State.qLevel_setQLevel_same u (levelFits_clipLevel _ (s.levelFits_qLevel p q))

/-- The cases of a write of PORT_SCHED: STRICT_MASK, the two bursts, and the registers that only hold their value. -/
theorem State.applySched_cases (s : State) (p v : Nat) {sub : Nat} :
    (sub = 1 ∧ s.applySched p sub v = s.writeStrictMask p v)
      ∨ (sub = 5 ∧ s.applySched p sub v = (s.setReg (regKey (0x5000 + p) sub) v).clipQueues p v)
      ∨ (sub = 8 ∧ s.applySched p sub v = (s.setReg (regKey (0x5000 + p) sub) v).setPLevel p (clipLevel (s.pLevel p) v))
      ∨ (sub ≠ 1 ∧ sub ≠ 5 ∧ sub ≠ 8 ∧ s.applySched p sub v = s.setReg (regKey (0x5000 + p) sub) v) := by
  by_cases h1 : sub = 1
  · subst h1; exact .inl ⟨rfl, rfl⟩
  by_cases h5 : sub = 5
  · subst h5; exact .inr (.inl ⟨rfl, rfl⟩)
  by_cases h8 : sub = 8
  · subst h8; exact .inr (.inr (.inl ⟨rfl, rfl⟩))
  refine .inr (.inr (.inr ⟨h1, h5, h8, ?_⟩))
  unfold State.applySched
  rw [if_neg h1, if_neg h5, if_neg h8]

/-- A write of the register itself, then at most the levels; of STRICT_MASK, then at most the deficits and the active list. -/
theorem State.applySched_only (s : State) {p sub : Nat} (v : Nat) (hp : p < 643) :
    (sub ≠ 1 → Only (levelKeys p) [] (s.setReg (regKey (0x5000 + p) sub) v) (s.applySched p sub v))
      ∧ (sub = 1 → OnlyDrr [Reg.PORT_QSTATE.DEFICIT p] drrTables (s.setReg (regKey (0x5000 + p) sub) v) (s.applySched p sub v)) := by
  rcases s.applySched_cases p v (sub := sub) with ⟨rfl, h⟩ | ⟨rfl, h⟩ | ⟨rfl, h⟩ | ⟨h1, -, -, h⟩
  · exact ⟨fun h1 => absurd rfl h1, fun _ => h ▸ s.writeStrictMask_only v hp⟩
  · exact ⟨fun _ => h ▸ (Only.clipQueues _ p v).mono (by simp) fun _ ht => ht, fun h => absurd h (by decide)⟩
  · exact ⟨fun _ => h ▸ Only.setPLevel _ _ _ (by simp), fun h => absurd h (by decide)⟩
  · exact ⟨fun _ => h ▸ Only.refl _, fun h => absurd h h1⟩

/-- So in all it is one frame. -/
theorem State.applySched_onlyDrr (s : State) {p sub : Nat} (v : Nat) (hp : p < 643) :
    OnlyDrr (Reg.PORT_QSTATE.DEFICIT p :: levelKeys p) drrTables (s.setReg (regKey (0x5000 + p) sub) v) (s.applySched p sub v) := by
  by_cases h : sub = 1
  · exact ((s.applySched_only v hp).2 h).mono (by simp) fun _ ht => ht
  · exact .of_only (((s.applySched_only v hp).1 h).mono (by simp) (by simp))

theorem State.applySched_reg (s : State) {p sub : Nat} (v : Nat) (hp : p < 643) {k : Nat} (hk : k ∉ Reg.PORT_QSTATE.DEFICIT p :: levelKeys p)
    (hq : quietReg k = true) : (s.applySched p sub v).reg k = if k = regKey (0x5000 + p) sub then v else s.reg k := by
  rw [(s.applySched_onlyDrr v hp).reg hk hq, State.reg_setReg]

/-- A register of PORT_SCHED is no level. -/
theorem schedKey_not_level {p sub : Nat} (hsub : sub < 256) :
    regKey (0x5000 + p) sub ∉ Reg.PORT_QSTATE.DEFICIT p :: levelKeys p := by
  rw [List.mem_cons, mem_levelKeys]
  unfold regKey Reg.PORT_QSTATE.DEFICIT
  omega

theorem State.applySched_same (s : State) {p sub : Nat} (v : Nat) (hp : p < 643) (hsub : sub < 256) :
    (s.applySched p sub v).reg (regKey (0x5000 + p) sub) = v :=
  (s.applySched_reg v hp (schedKey_not_level hsub) (quietReg_portSched hp hsub)).trans (if_pos rfl)

/-- The levels of the port after a write of PORT_SCHED (R280). -/
theorem State.applySched_levels (s : State) {p sub : Nat} (v : Nat) (hp : p < 643) (hsub : sub < 256) :
    (∀ q, q < 16 → (s.applySched p sub v).qLevel p q = if sub = 5 then clipLevel (s.qLevel p q) (entryAt 16 4 v q) else s.qLevel p q)
      ∧ (s.applySched p sub v).pLevel p = if sub = 8 then clipLevel (s.pLevel p) v else s.pLevel p := by
  have hset : Only [regKey (0x5000 + p) sub] [] s (s.setReg (regKey (0x5000 + p) sub) v) := Only.setReg _ _ _ (.inl (by simp))
  have hqset : ∀ q, (s.setReg (regKey (0x5000 + p) sub) v).qLevel p q = s.qLevel p q := fun q => hset.qLevel q hp (by
    rw [List.mem_singleton]; unfold Reg.PORT_QSTATE.QSHAPE_LEVEL regKey; omega)
  have hlset : (s.setReg (regKey (0x5000 + p) sub) v).pLevel p = s.pLevel p := hset.pLevel hp (by
    rw [List.mem_singleton]; unfold Reg.PORT_QSTATE.PSHAPE_LEVEL regKey; omega)
  rcases s.applySched_cases p v (sub := sub) with ⟨rfl, h⟩ | ⟨rfl, h⟩ | ⟨rfl, h⟩ | ⟨-, h5, h8, h⟩
  · have honly : OnlyDrr _ _ _ _ := s.writeStrictMask_only v hp
    rw [h]
    exact ⟨fun q _ => (honly.qLevel q hp (by simp)).trans (hqset q), (honly.pLevel hp (by simp)).trans hlset⟩
  · rw [h]
    refine ⟨fun q hq => ?_, ((Only.clipQueues (T := []) _ p v).pLevel hp (by simp)).trans hlset⟩
    rw [State.clipQueues_qLevel _ p v hq, hqset, if_pos rfl]
  · rw [h]
    refine ⟨fun q _ => ?_, State.pLevel_setPLevel _ (levelFits_clipLevel v (s.levelFits_pLevel p))⟩
    exact ((Only.setPLevel (R := [Reg.PORT_QSTATE.PSHAPE_LEVEL p]) (T := []) _ p _ (by simp)).qLevel q hp (by simp)).trans (hqset q)
  · rw [h, if_neg h8]
    exact ⟨fun q _ => by rw [if_neg h5, hqset], hlset⟩

/-! ### The calculator -/

/-- A register that holds no bound in force: those stand in 0x6900 and above, and the totals of what is held in 0x6800 (R328, R342). -/
structure BoundsFree (k : Nat) : Prop where
  below : k < 0x690000
  admitted : k ≠ Reg.ADMISSION_CONTROL.RESV_ADMITTED
  cells : k ≠ Reg.ADMISSION_CONTROL.CELLS_HELD
  desc : k ≠ Reg.ADMISSION_CONTROL.DESC_HELD

theorem State.reg_forAll {α : Type} {f : State → α → State} {l : List α} {k : Nat} (h : ∀ u, ∀ a ∈ l, (f u a).reg k = u.reg k)
    (s : State) : (s.forAll l f).reg k = s.reg k := State.view_forAll (g := fun u => u.reg k) h s

theorem State.reg_when_same {s : State} {c : Bool} {f : State → State} {k : Nat} (h : (f s).reg k = s.reg k) :
    (s.when c f).reg k = s.reg k := by
  rw [State.reg_when, h, ite_self]

theorem State.reg_storeBounds (s : State) (from' : Nat) (f : Finding) (k : Nat) : (s.storeBounds from' f).reg k = s.reg k := by
  unfold State.storeBounds
  dsimp only
  rw [State.reg_forAll, State.reg_when_same]
  · rfl
  · rw [State.reg_forAll, State.reg_forAll]
    · rfl
    · exact fun _ _ _ => rfl
    · exact fun _ _ _ => rfl
  · exact fun _ _ _ => rfl

theorem BoundsFree.ne_port {k : Nat} (h : BoundsFree k) (p sub : Nat) : k ≠ (0x6900 + p) * 256 + sub := by
  have hbelow := h.below
  omega

theorem State.reg_storeWorstQ (s : State) (fs : List Finding) {k : Nat} (h : BoundsFree k) : (s.storeWorstQ fs).reg k = s.reg k :=
  State.reg_forAll (fun _ e _ => State.reg_setReg_other _ _ (h.ne_port e 4)) _

theorem State.reg_refreshResvPort (s : State) (p : Nat) {k : Nat} (h : BoundsFree k) : (s.refreshResvPort p).reg k = s.reg k := by
  unfold State.refreshResvPort
  dsimp only
  refine (State.reg_setReg_other _ _ (h.ne_port p _)).trans ((State.reg_setTab _ _ _ _ _).trans ?_)
  refine (State.reg_when_same ?_).trans (State.reg_when_same ?_)
  · exact (State.reg_setReg_other _ _ (h.ne_port p _)).trans ((State.reg_setReg_other _ _ (h.ne_port p _)).trans
      (State.reg_setReg_other _ _ (h.ne_port p _)))
  · exact (State.reg_setReg_other _ _ (h.ne_port p _)).trans (State.reg_setReg_other _ _ (h.ne_port p _))

theorem State.reg_refreshResvTotals (s : State) {k : Nat} (h : BoundsFree k) : s.refreshResvTotals.reg k = s.reg k := by
  unfold State.refreshResvTotals
  dsimp only
  refine (State.reg_forAll (fun u p _ => u.reg_refreshResvPort p h) _).trans ?_
  rw [State.reg_setReg_other _ _ h.desc, State.reg_setReg_other _ _ h.cells, State.reg_setReg_other _ _ h.admitted]

theorem State.reg_refreshBounds (s : State) (from' : Nat) {k : Nat} (h : BoundsFree k) : (s.refreshBounds from').reg k = s.reg k := by
  unfold State.refreshBounds
  split
  · exact State.reg_when_same (s.reg_refreshResvTotals h)
  · rw [State.reg_refreshResvTotals _ h, State.reg_storeWorstQ _ _ h]
    exact State.reg_forAll (fun u f _ => (u.storeHeld f).reg_storeBounds from' f k) s

/-- A refusal is recorded: its cause, and its port or a free value (R329). -/
theorem State.rejected_records (s : State) (code : Nat) (x : Reject) :
    (s.rejected code x).code = code ∧ (s.rejected code x).st.reg Reg.ADMISSION_CONTROL.REJECT_CAUSE = x.cause
      ∧ Only [Reg.ADMISSION_CONTROL.REJECT_CAUSE, Reg.ADMISSION_CONTROL.REJECT_PORT] []
          { s with freeCtr := (s.rejected code x).st.freeCtr } (s.rejected code x).st := by
  have hcause : Reg.ADMISSION_CONTROL.REJECT_CAUSE ≠ Reg.ADMISSION_CONTROL.REJECT_PORT := by decide
  obtain ⟨cause, port, resv⟩ := x
  have hport : ∀ v, Only [Reg.ADMISSION_CONTROL.REJECT_CAUSE, Reg.ADMISSION_CONTROL.REJECT_PORT] [] s
      ((s.setReg Reg.ADMISSION_CONTROL.REJECT_CAUSE cause).setReg Reg.ADMISSION_CONTROL.REJECT_PORT v) := fun v =>
    (Only.setReg _ _ _ (.inl (by simp))).trans (Only.setReg _ _ _ (.inl (by simp)))
  have hreg : ∀ v, ((s.setReg Reg.ADMISSION_CONTROL.REJECT_CAUSE cause).setReg Reg.ADMISSION_CONTROL.REJECT_PORT v).reg
      Reg.ADMISSION_CONTROL.REJECT_CAUSE = cause := fun v => by
    rw [State.reg_setReg_other _ _ hcause, State.reg_setReg_same]
  cases port with
  | some p => cases resv <;> exact ⟨rfl, hreg p, (hport p).withDrawn⟩
  | none => cases resv <;> exact ⟨rfl, hreg _, Only.drawn (hport _).withDrawn (Only.refl _)⟩

end Sys2Proof.Machine
end

section
/-!
SUPPORT. The commands of 11_queues_shaping_policing.md that this family speaks of: PORT_SCHED_WRITE, UNBLOCK and HWM_CLEAR.
-/
namespace Sys2Proof.Machine

/-- A write that would run a shaper at rate 0 is refused as it stands (R280). -/
theorem execPortSchedWrite_zeroRate {s : State} {w : SessionNo} {p : PortNo} {sub v : Nat} (hp : s.permits w (0x5000 + p) sub v = true)
    (hz : s.zeroRate p sub v = true) : exec (.portSchedWrite w p sub v) s = .next s.deliverDue := by
  have heff : schedEffect p sub v s = Res.fail s Code.range := if_pos hz
  have hcode : Code.range ≠ Code.ok := by decide
  have hn := State.hostWrite_next_refused (eff := schedEffect p sub v) hp (by rw [heff]; exact hcode)
  rw [heff] at hn
  exact hn

/-- A write that its object accepts ends in its effect's state, CONFIG_GEN advanced (R104). -/
theorem execPortSchedWrite_done {s u : State} {w : SessionNo} {p : PortNo} {sub v : Nat} (h1 : 1 ≤ sub) (h9 : sub ≤ 9)
    (hp : s.permits w (0x5000 + p) sub v = true) (heff : schedEffect p sub v s = Res.done u) :
    exec (.portSchedWrite w p sub v) s = .next u.configChanged.deliverDue := by
  refine (State.hostWrite_next (eff := schedEffect p sub v) hp (by rw [heff]; rfl)).trans ?_
  rw [savedSub_portSched p h1 h9, heff]
  rfl

/-- The write evaluated and found admissible: it is applied, and the bounds are computed again (R281, R329). -/
def State.schedAdmitted (s : State) (p sub v : Nat) : State :=
  let t := (s.bump Reg.ADMISSION_CONTROL.EVALUATIONS 64).applySched p sub v
  t.refreshBounds t.clock.ptp

theorem schedEffect_free {s : State} {p sub v : Nat} (hz : s.zeroRate p sub v = false) (hc : s.carriesResv p = false) :
    schedEffect p sub v s = Res.done (s.applySched p sub v) := by
  unfold schedEffect
  rw [hz, hc]
  rfl

theorem schedEffect_admitted {s : State} {p sub v : Nat} {fs : List Finding} (hz : s.zeroRate p sub v = false)
    (hc : s.carriesResv p = true) (he : (s.applySched p sub v).evaluate [] = .ok fs) :
    schedEffect p sub v s = Res.done (s.schedAdmitted p sub v) := by
  unfold schedEffect State.evaluated
  rw [hz, hc, he]
  rfl

theorem schedEffect_rejected {s : State} {p sub v : Nat} {x : Reject} (hz : s.zeroRate p sub v = false)
    (hc : s.carriesResv p = true) (he : (s.applySched p sub v).evaluate [] = .error x) :
    schedEffect p sub v s = (s.bump Reg.ADMISSION_CONTROL.EVALUATIONS 64).rejected Code.admissionRejected x := by
  unfold schedEffect State.evaluated
  rw [hz, hc, he]
  rfl

theorem schedKey_ne_configGen {p sub : Nat} (hsub : sub < 256) : regKey (0x5000 + p) sub ≠ Reg.CONFIG_STORE.CONFIG_GEN := by
  unfold regKey Reg.CONFIG_STORE.CONFIG_GEN
  omega

theorem schedKey_boundsFree {p sub : Nat} (hp : p < 643) (hsub : sub < 256) : BoundsFree (regKey (0x5000 + p) sub) := by
  have hbelow : regKey (0x5000 + p) sub < 0x530000 := by unfold regKey; omega
  exact ⟨Nat.lt_trans hbelow (by decide), Nat.ne_of_lt (Nat.lt_trans hbelow (by decide)), Nat.ne_of_lt (Nat.lt_trans hbelow (by decide)),
    Nat.ne_of_lt (Nat.lt_trans hbelow (by decide))⟩

/-- What ends an accepted write changes, apart from interrupts, CONFIG_GEN alone (R104). -/
theorem Only.configEnds (s : State) : Only [Reg.CONFIG_STORE.CONFIG_GEN] [] s s.configChanged.deliverDue :=
  (Only.bump _ _ _ _ (.inl (by simp))).trans (Only.deliverDue _)

/-- A permitted write on a port without reservations takes its value, and a new burst clips the levels (R280). -/
theorem execPortSchedWrite_free {s : State} {w : SessionNo} {p : PortNo} {sub v : Nat} (h1 : 1 ≤ sub) (h9 : sub ≤ 9)
    (hp : s.permits w (0x5000 + p) sub v = true) (hz : s.zeroRate p sub v = false) (hc : s.carriesResv p = false) :
    ∃ t, exec (.portSchedWrite w p sub v) s = .next t ∧ t.reg (regKey (0x5000 + p) sub) = v
      ∧ (∀ q, q < 16 → t.qLevel p q = if sub = 5 then clipLevel (s.qLevel p q) (entryAt 16 4 v q) else s.qLevel p q)
      ∧ t.pLevel p = (if sub = 8 then clipLevel (s.pLevel p) v else s.pLevel p)
      ∧ (sub ≠ 1 → Only [regKey (0x5000 + p) sub, Reg.PORT_QSTATE.QSHAPE_LEVEL p, Reg.PORT_QSTATE.PSHAPE_LEVEL p,
          Reg.CONFIG_STORE.CONFIG_GEN] [] s t)
      ∧ Only [regKey (0x5000 + p) sub, Reg.PORT_QSTATE.QSHAPE_LEVEL p, Reg.PORT_QSTATE.PSHAPE_LEVEL p, Reg.PORT_QSTATE.DEFICIT p,
          Reg.CONFIG_STORE.CONFIG_GEN] [Tab.drrCur, Tab.drrVisited] { s with drr := t.drr, copies := t.copies } t := by
  have hsub : sub < 256 := by omega
  have hend := Only.configEnds (s.applySched p sub v)
  obtain ⟨hqueues, hport⟩ := s.applySched_levels v p.isLt hsub
  have hqkey : Reg.PORT_QSTATE.QSHAPE_LEVEL p ∉ [Reg.CONFIG_STORE.CONFIG_GEN] := by
    rw [List.mem_singleton]; unfold Reg.PORT_QSTATE.QSHAPE_LEVEL Reg.CONFIG_STORE.CONFIG_GEN; omega
  have hlkey : Reg.PORT_QSTATE.PSHAPE_LEVEL p ∉ [Reg.CONFIG_STORE.CONFIG_GEN] := by
    rw [List.mem_singleton]; unfold Reg.PORT_QSTATE.PSHAPE_LEVEL Reg.CONFIG_STORE.CONFIG_GEN; omega
  refine ⟨_, execPortSchedWrite_done h1 h9 hp (schedEffect_free hz hc), ?_, fun q hq => ?_, ?_, fun hne => ?_, ?_⟩
  · rw [hend.regs _ (by simpa using schedKey_ne_configGen hsub) (quietReg_portSched p.isLt hsub)]
    exact s.applySched_same v p.isLt hsub
  · exact (hend.qLevel q p.isLt hqkey).trans (hqueues q hq)
  · exact (hend.pLevel p.isLt hlkey).trans hport
  · refine (Only.setReg s _ v (.inl List.mem_cons_self)).trans ?_
    exact (((s.applySched_only v p.isLt).1 hne).mono (by simp) (by simp)).trans (hend.mono (by simp) (by simp))
  · refine OnlyDrr.trans (.of_only (Only.setReg s _ v (.inl List.mem_cons_self))) ?_
    exact .trans ((s.applySched_onlyDrr v p.isLt).mono (by simp) (by simp)) (.of_only (hend.mono (by simp) (by simp)))

/-- On a port with reservations one that passes the evaluation takes its value, and the evaluation is counted (R281, R329). -/
theorem execPortSchedWrite_admitted {s : State} {w : SessionNo} {p : PortNo} {sub v : Nat} {fs : List Finding} (h1 : 1 ≤ sub)
    (h9 : sub ≤ 9) (hp : s.permits w (0x5000 + p) sub v = true) (hz : s.zeroRate p sub v = false) (hc : s.carriesResv p = true)
    (he : (s.applySched p sub v).evaluate [] = .ok fs) :
    ∃ t, exec (.portSchedWrite w p sub v) s = .next t ∧ t.reg (regKey (0x5000 + p) sub) = v
      ∧ t.reg Reg.ADMISSION_CONTROL.EVALUATIONS = (s.reg Reg.ADMISSION_CONTROL.EVALUATIONS + 1) % 2 ^ 64 := by
  have hsub : sub < 256 := by omega
  have hend := Only.configEnds (s.schedAdmitted p sub v)
  refine ⟨_, execPortSchedWrite_done h1 h9 hp (schedEffect_admitted hz hc he), ?_, ?_⟩
  · rw [hend.regs _ (by simpa using schedKey_ne_configGen hsub) (quietReg_portSched p.isLt hsub)]
    exact (State.reg_refreshBounds _ _ (schedKey_boundsFree p.isLt hsub)).trans (State.applySched_same _ v p.isLt hsub)
  · have hlevel : Reg.ADMISSION_CONTROL.EVALUATIONS ∉ Reg.PORT_QSTATE.DEFICIT p :: levelKeys p := by
      rw [List.mem_cons, mem_levelKeys]; unfold Reg.PORT_QSTATE.DEFICIT Reg.ADMISSION_CONTROL.EVALUATIONS; omega
    have hother : Reg.ADMISSION_CONTROL.EVALUATIONS ≠ regKey (0x5000 + p) sub := by
      unfold regKey Reg.ADMISSION_CONTROL.EVALUATIONS; omega
    rw [hend.regs _ (by decide) (by decide)]
    refine (State.reg_refreshBounds _ _ ⟨by decide, by decide, by decide, by decide⟩).trans ?_
    rw [State.applySched_reg _ v p.isLt hlevel (by decide), if_neg hother]
    exact State.reg_setReg_same _ _ _

/-- One that fails it leaves its record alone (R281, R329). -/
theorem execPortSchedWrite_rejected {s : State} {w : SessionNo} {p : PortNo} {sub v : Nat} {x : Reject}
    (hp : s.permits w (0x5000 + p) sub v = true) (hz : s.zeroRate p sub v = false) (hc : s.carriesResv p = true)
    (he : (s.applySched p sub v).evaluate [] = .error x) :
    ∃ t, exec (.portSchedWrite w p sub v) s = .next t ∧ t.reg Reg.ADMISSION_CONTROL.REJECT_CAUSE = x.cause
      ∧ Only [Reg.ADMISSION_CONTROL.EVALUATIONS, Reg.ADMISSION_CONTROL.REJECT_CAUSE, Reg.ADMISSION_CONTROL.REJECT_PORT] []
          { s with freeCtr := t.freeCtr } t := by
  have heff := schedEffect_rejected hz hc he
  obtain ⟨hcode, hcause, honly⟩ := (s.bump Reg.ADMISSION_CONTROL.EVALUATIONS 64).rejected_records Code.admissionRejected x
  refine ⟨_, State.hostWrite_next_refused (eff := schedEffect p sub v) hp ?_, ?_, ?_⟩
  · rw [heff, hcode]
    decide
  · rw [State.reg_deliverDue _ (by decide), heff]
    exact hcause
  · rw [heff]
    refine Only.drawn (Only.drawn (Only.bump s _ _ _ (.inl (by simp))).withDrawn (honly.mono (by simp) fun _ h => h)) ?_
    exact (Only.deliverDue _).withDrawn

/-- UNBLOCK of a policer clears its BLOCKED and no other's (R287). -/
theorem execUnblock_permitted {s : State} {w : SessionNo} {i : Nat} (hp : s.permits w 0x5602 0x01 i = true) :
    exec (.unblock w i) s = .next (s.setTab Tab.polBlocked i 0).deliverDue := by
  have hsaved : savedSub 0x5602 0x01 = false := by decide
  have hn := State.hostWrite_next (eff := unblockEffect i) hp rfl
  rw [hsaved] at hn
  exact hn

/-- Both marks of queue `q` of port `p` go to 0 (R292). -/
def State.clearMarks (p : Nat) (s : State) (q : Nat) : State :=
  (s.setReg (Reg.PORT_QSTATE.DEPTH_HWM p) (setEntry 16 4 (s.reg (Reg.PORT_QSTATE.DEPTH_HWM p)) q 0)).setReg
    (Reg.PORT_QSTATE.RESIDENCE_HWM p) (setEntry 16 4 (s.reg (Reg.PORT_QSTATE.RESIDENCE_HWM p)) q 0)

/-- The marks of queue `q` of port `p`: depth and residence. -/
def State.marks (p q : Nat) (s : State) : Nat × Nat :=
  (entryAt 16 4 (s.reg (Reg.PORT_QSTATE.DEPTH_HWM p)) q, entryAt 16 4 (s.reg (Reg.PORT_QSTATE.RESIDENCE_HWM p)) q)

theorem State.marks_clearMarks (s : State) (p r q : Nat) :
    (s.clearMarks p r).marks p q = (entryAt 16 4 (setEntry 16 4 (s.reg (Reg.PORT_QSTATE.DEPTH_HWM p)) r 0) q,
      entryAt 16 4 (setEntry 16 4 (s.reg (Reg.PORT_QSTATE.RESIDENCE_HWM p)) r 0) q) := by
  have hne : Reg.PORT_QSTATE.DEPTH_HWM p ≠ Reg.PORT_QSTATE.RESIDENCE_HWM p := by
    unfold Reg.PORT_QSTATE.DEPTH_HWM Reg.PORT_QSTATE.RESIDENCE_HWM; omega
  unfold State.marks State.clearMarks
  rw [State.reg_setReg_same, State.reg_setReg_other _ _ hne, State.reg_setReg_same]

/-- The marks of the queues that a mask selects go to 0. -/
def State.clearMarksOf (s : State) (p mask : Nat) : State := s.forAll ((List.range 16).filter (bit mask)) (State.clearMarks p)

theorem Only.clearMarksOf (s : State) (p mask : Nat) :
    Only [Reg.PORT_QSTATE.DEPTH_HWM p, Reg.PORT_QSTATE.RESIDENCE_HWM p] [] s (s.clearMarksOf p mask) :=
  Only.forAll _ _ _ fun _ _ _ => (Only.setReg _ _ _ (.inl (by simp))).trans (Only.setReg _ _ _ (.inl (by simp)))

theorem State.marks_clearMarksOf (s : State) (p mask : Nat) {q : Nat} (hq : q < 16) :
    (s.clearMarksOf p mask).marks p q = if bit mask q then (0, 0) else s.marks p q := by
  have hother : ∀ (u : State), ∀ r ∈ (List.range 16).filter (bit mask), r ≠ q → (u.clearMarks p r).marks p q = u.marks p q :=
    fun u r hr hne => by
      have hr16 : r < 16 := List.mem_range.mp (List.mem_filter.mp hr).1
      exact (u.marks_clearMarks p r q).trans
        (Prod.ext (entryAt_setEntry_other _ _ hr16 hq hne.symm) (entryAt_setEntry_other _ _ hr16 hq hne.symm))
  split
  · next hbit =>
    refine State.view_forAll_once (x := s.marks p q) (List.mem_filter.mpr ⟨List.mem_range.mpr hq, hbit⟩)
      (List.nodup_range.sublist List.filter_sublist) hother
      (fun u _ => (u.marks_clearMarks p q q).trans (Prod.ext (entryAt_setEntry_same _ _ _ _ _) (entryAt_setEntry_same _ _ _ _ _))) rfl
  · next hbit =>
    exact State.view_forAll (g := State.marks p q) (fun u r hr => hother u r hr fun h => hbit (h ▸ (List.mem_filter.mp hr).2)) s

theorem execHwmClear_permitted {s : State} {w : SessionNo} {p : PortNo} {mask : Nat} (hp : s.permits w (0x5300 + p) 0x07 mask = true) :
    exec (.hwmClear w p mask) s = .next (s.clearMarksOf p mask).deliverDue := by
  have hn := State.hostWrite_next (eff := hwmEffect p mask) hp rfl
  rw [savedSub_hwmClear] at hn
  exact hn

end Sys2Proof.Machine
end

section
/-!
The statement of 11_queues_shaping_policing.md settled.
-/
open Sys2Proof Sys2Proof.Machine

/-- Settles O33: a tick is each shaper and each policer once, a write of PORT_SCHED is its register and then the levels, and the
calculator's own registers are apart from both. -/
theorem shapersAndPolicers : Obligations.ShapersAndPolicers := by
  unfold Obligations.ShapersAndPolicers
  refine ⟨fun s hs => ?_, fun s w p sub v h1 h9 hp => ⟨?_, ?_, ?_, ?_⟩, fun s w i hp hi => ?_, fun s w p mask hp => ?_⟩
  · refine ⟨_, execRefillTick_refills s, fun p q hp hq => s.refilledAll_qLevel hp hq, fun p hp hb => s.refilledAll_pLevel hp hb,
      fun i hi => ?_, ?_⟩
    · obtain ⟨-, hbuckets⟩ := Prod.mk.inj (State.refilledAll_policer hs (i := i) (by omega))
      exact Prod.mk.inj hbuckets
    · obtain ⟨hports, hpolicers⟩ := Only.refilledAll s
      exact (hports.mono (fun _ h => h) (by simp)).trans (hpolicers.mono (by simp) fun _ h => h)
  · exact execPortSchedWrite_zeroRate hp
  · exact execPortSchedWrite_free h1 h9 hp
  · exact fun fs => execPortSchedWrite_admitted h1 h9 hp
  · exact fun x => execPortSchedWrite_rejected hp
  · have honly : Only [] [Tab.polBlocked] s (s.setTab Tab.polBlocked i 0).deliverDue :=
      (Only.setTab _ _ _ _ (by omega) (.inl (by simp))).trans (Only.deliverDue _)
    refine ⟨_, execUnblock_permitted hp, ?_, fun j hj hne => ?_, honly⟩
    · rw [State.tab_deliverDue _ (by omega) (by decide), State.tab_setTab_same]
    · rw [State.tab_deliverDue _ (by omega) (by decide), State.tab_setTab_index _ _ hne]
  · have hend := Only.deliverDue (R := []) (T := []) (s.clearMarksOf p mask)
    refine ⟨_, execHwmClear_permitted hp, fun q hq => ?_, (Only.clearMarksOf s p mask).trans (hend.mono (by simp) (by simp))⟩
    have hmarks := s.marks_clearMarksOf p mask hq
    rw [hend.regs _ (by simp) (quietReg_portQstate p.isLt (by decide)),
      hend.regs (Reg.PORT_QSTATE.RESIDENCE_HWM p) (by simp) (quietReg_portQstate p.isLt (by decide))]
    split at hmarks
    · next hbit => simpa [hbit] using Prod.mk.inj hmarks
    · next hbit => simpa [hbit] using Prod.mk.inj hmarks
end

section
/-!
SUPPORT. The causes of the reservations (R39), the entry to FREE_RUN (R300, R301, R304), and who writes the objects of the servo (R299).
-/
namespace Sys2Proof.Machine

/-! ### The causes of the reservations (R39) -/

/-- The tables that hold what is known of a reservation's causes. -/
abbrev causeTabs : List Nat := [Tab.resvClear, Tab.resvCause, Tab.resvState, Tab.resvDrained]

theorem State.resvList_lt {s : State} {n : Nat} (h : n ∈ s.resvList) : n < 2 ^ 40 := by
  obtain ⟨e, he, rfl⟩ := List.mem_map.mp h
  exact State.mem_tabList he

theorem Only.setCauses {R : List Nat} (s : State) {n : Nat} (c : Nat) (hn : n < 2 ^ 40) : Only R causeTabs s (s.setCauses n c) := by
  have hset : ∀ (u : State) (t v : Nat), t ∈ causeTabs → Only R causeTabs u (u.setTab t n v) := fun u t v ht =>
    Only.setTab u t n v hn (.inl ht)
  unfold State.setCauses
  dsimp only
  refine (Only.when _ _ _ fun u => ?cleared).trans ((hset _ Tab.resvCause c (by simp)).trans
    ((Only.when _ _ _ fun u => ?suspended).trans ((Only.when _ _ _ fun u => ?link).trans (Only.when _ _ _ fun u => ?power))))
  case cleared => exact (hset u Tab.resvClear _ (by simp)).trans (Only.clearTabRange _ _ _ _ (by simp))
  case suspended => exact (hset u Tab.resvState 3 (by simp)).trans (Only.trigger _ _)
  case link => exact Only.trigger _ _
  case power => exact Only.trigger _ _

theorem Only.refreshResvs {R : List Nat} (s : State) : Only R causeTabs s s.refreshResvs :=
  Only.forAll _ _ _ fun u _ hn => Only.setCauses u _ (State.resvList_lt (List.mem_filter.mp hn).1)

/-! ### The entry to FREE_RUN (R299, R300, R304) -/

/-- LOCK_LOST and its count. -/
abbrev lockLostRegs : List Nat := [Reg.TIME_UNIT.EVENTS, Reg.TIME_UNIT.EVENTS + 2]

theorem Only.timeLost (s s' : State) : Only lockLostRegs causeTabs s' (s.timeLost s') :=
  Only.ite (fun _ => (Only.event _ _ _ _ (.inl (by simp)) (.inl (by simp))).trans (Only.refreshResvs _)) fun _ => Only.refl _

/-- Where the unit is SETTLING, the lists that have reached their instant are held. -/
def State.swapsHeld (s : State) : State := if s.timeState = 4 then s.holdSwaps else s

/-- The unit stands in FREE_RUN with no good reports. -/
def State.unlocked (s : State) : State := (s.setReg Reg.TIME_UNIT.STATE 0).setReg Reg.TIME_UNIT.GOOD_REPORTS 0

theorem State.enterFreeRun_eq (s : State) : s.enterFreeRun = s.swapsHeld.timeLost s.swapsHeld.unlocked := by
  unfold State.enterFreeRun State.swapsHeld State.when State.unlocked
  simp only [beq_iff_eq]

theorem Only.unlocked {T : List Nat} (s : State) : Only [Reg.TIME_UNIT.STATE, Reg.TIME_UNIT.GOOD_REPORTS] T s s.unlocked :=
  (Only.setReg _ _ _ (.inl (by simp))).trans (Only.setReg _ _ _ (.inl (by simp)))

theorem Only.enterFreeRun (s : State) :
    Only ([Reg.TIME_UNIT.STATE, Reg.TIME_UNIT.GOOD_REPORTS] ++ lockLostRegs) causeTabs s.swapsHeld s.enterFreeRun := by
  rw [State.enterFreeRun_eq]
  exact ((Only.unlocked (T := causeTabs) _).mono (by simp) fun _ h => h).trans ((Only.timeLost _ _).mono (by simp) fun _ h => h)

theorem State.reg_enterFreeRun (s : State) :
    s.enterFreeRun.reg Reg.TIME_UNIT.STATE = 0 ∧ s.enterFreeRun.reg Reg.TIME_UNIT.GOOD_REPORTS = 0 := by
  have hlost := Only.timeLost s.swapsHeld s.swapsHeld.unlocked
  rw [State.enterFreeRun_eq, hlost.regs _ (by decide) (by decide), hlost.regs Reg.TIME_UNIT.GOOD_REPORTS (by decide) (by decide)]
  exact ⟨(State.reg_setReg_other _ _ (by decide)).trans (State.reg_setReg_same _ _ _), State.reg_setReg_same _ _ _⟩

theorem State.forAll_setReg {α : Type} {f : State → α → State} {k v : Nat} (h : ∀ u a, f (u.setReg k v) a = (f u a).setReg k v)
    (l : List α) (s : State) : (s.setReg k v).forAll l f = (s.forAll l f).setReg k v := by
  induction l generalizing s with
  | nil => rfl
  | cons a l ih => exact (congrArg (fun u => State.forAll u l f) (h s a)).trans (ih (f s a))

/-- The lists are held alike whatever a register apart from STATE holds. -/
theorem State.swapsHeld_setReg (s : State) {k : Nat} (v : Nat) (hk : Reg.TIME_UNIT.STATE ≠ k) :
    (s.setReg k v).swapsHeld = s.swapsHeld.setReg k v := by
  have hstate : (s.setReg k v).timeState = s.timeState := State.reg_setReg_other _ _ hk
  have hheld : (s.setReg k v).holdSwaps = s.holdSwaps.setReg k v := State.forAll_setReg (fun _ _ => rfl) _ s
  unfold State.swapsHeld
  rw [hstate, hheld]
  split <;> rfl

/-! ### SERVO_MODE (R299) -/

/-- SERVO_MODE written, and FREE_RUN entered. -/
def State.servoSet (s : State) (v : Nat) : State := (s.setReg Reg.TIME_UNIT.SERVO_MODE v).enterFreeRun

theorem Only.servoSet (s : State) (v : Nat) :
    Only (Reg.TIME_UNIT.SERVO_MODE :: [Reg.TIME_UNIT.STATE, Reg.TIME_UNIT.GOOD_REPORTS] ++ lockLostRegs) causeTabs s.swapsHeld
      (s.servoSet v) := by
  have hheld := s.swapsHeld_setReg v (k := Reg.TIME_UNIT.SERVO_MODE) (by decide)
  have hfree := Only.enterFreeRun (s.setReg Reg.TIME_UNIT.SERVO_MODE v)
  rw [hheld] at hfree
  exact (Only.setReg _ _ _ (.inl (by simp))).trans (hfree.mono (by simp) fun _ h => h)

theorem State.servoMode_servoSet (s : State) (v : Nat) : (s.servoSet v).reg Reg.TIME_UNIT.SERVO_MODE = v := by
  have hheld := s.swapsHeld_setReg v (k := Reg.TIME_UNIT.SERVO_MODE) (by decide)
  refine ((Only.enterFreeRun _).regs _ (by decide) (by decide)).trans ?_
  rw [hheld, State.reg_setReg_same]

theorem execServoMode_permitted {s : State} {w : SessionNo} {v : Nat} (hp : s.permits w 0x6000 0x04 v = true) :
    exec (.servoMode w v) s = .next (s.servoSet v).configChanged.deliverDue := by
  have hsaved : savedSub 0x6000 0x04 = true := by decide
  have hn := State.hostWrite_next (eff := servoModeEffect v) hp rfl
  rw [hsaved] at hn
  exact hn

/-! ### The objects of the servo (R299) -/

/-- What a write of an object of the servo does where its writer owns it. -/
def servoEffect (sub v : Nat) (s : State) : Res :=
  if sub = 0x08 then measuredOffsetEffect v s
  else if sub = 0x09 then s.store Reg.TIME_UNIT.FREQ_ADJ v
  else if sub = 0x0A then offsetAdjEffect v s
  else setTimeEffect v s

theorem timeEffect_servo (runtime : Bool) {sub : Nat} (v : Nat) (s : State) (h : sub ∈ [0x08, 0x09, 0x0A, 0x0B]) :
    timeEffect runtime sub v s
      = if s.reg Reg.TIME_UNIT.SERVO_MODE = (if runtime then 0 else 1) then servoEffect sub v s else Res.fail s Code.resourceOwned := by
  simp only [List.mem_cons, List.not_mem_nil, or_false] at h
  rcases h with rfl | rfl | rfl | rfl <;> rfl

theorem offsetAdjEffect_code (v : Nat) (s : State) : (offsetAdjEffect v s).code = Code.ok ∨ (offsetAdjEffect v s).code = Code.range := by
  unfold offsetAdjEffect
  dsimp only
  split
  · exact .inl rfl
  · split
    · exact .inr rfl
    · exact .inl rfl

theorem setTimeEffect_code (v : Nat) (s : State) : (setTimeEffect v s).code = Code.ok ∨ (setTimeEffect v s).code = Code.range := by
  unfold setTimeEffect
  split
  · exact .inr rfl
  · exact .inl rfl

theorem servoEffect_code (sub v : Nat) (s : State) : (servoEffect sub v s).code = Code.ok ∨ (servoEffect sub v s).code = Code.range := by
  unfold servoEffect
  split
  · exact .inl rfl
  · split
    · exact .inl rfl
    · split
      · exact offsetAdjEffect_code v s
      · exact setTimeEffect_code v s

/-- In SERVO_MODE 0 a host does not own an object of the servo. -/
theorem State.servoWrite_host {s : State} {w sub v : Nat} {eff : State → Res} (hm : s.reg Reg.TIME_UNIT.SERVO_MODE = 0)
    (hp : s.permits w 0x6000 sub v = true) : s.servoWrite false w sub v eff = .next s.deliverDue := by
  have hcode : Code.resourceOwned ≠ Code.ok := by decide
  have hrefused : (if s.reg Reg.TIME_UNIT.SERVO_MODE = 0 then Res.fail s Code.resourceOwned else eff s)
      = Res.fail s Code.resourceOwned := if_pos hm
  refine (State.hostWrite_next_refused hp ?_).trans ?_
  · rw [hrefused]
    exact hcode
  · rw [hrefused]
    rfl

/-- Outside it the runtime does not. -/
theorem State.servoWrite_runtime {s : State} (w sub v : Nat) (eff : State → Res) (hm : s.reg Reg.TIME_UNIT.SERVO_MODE ≠ 0) :
    s.servoWrite true w sub v eff = .next s := by
  unfold State.servoWrite
  simp [hm]

end Sys2Proof.Machine
end

section
/-!
A statement of 12_time_and_gates.md settled.
-/
open Sys2Proof Sys2Proof.Machine

/-- Settles O44: a writer that does not own an object of the servo is refused before the object's own effect, and a write of
SERVO_MODE is its register and then the entry to FREE_RUN. -/
theorem servoOwnsTime : Obligations.ServoOwnsTime := by
  unfold Obligations.ServoOwnsTime
  refine ⟨fun s runtime sub v hsub => ?_, fun s w v hm => ?_, fun s w v hm => ?_, fun s w v hp => ?_⟩
  · rw [timeEffect_servo runtime v s hsub]
    refine ⟨fun hother => ?_, fun howner => ?_⟩
    · rw [if_neg hother]
      exact ⟨rfl, rfl⟩
    · rw [if_pos howner]
      rcases servoEffect_code sub v s with hcode | hcode <;> rw [hcode] <;> decide
  · exact ⟨fun hp => State.servoWrite_host hm hp, fun hp => State.servoWrite_host hm hp, fun hp => State.servoWrite_host hm hp⟩
  · have hleft := fun sub eff => State.servoWrite_runtime w sub v eff hm
    exact ⟨hleft 0x08 _, hleft 0x0A _, hleft 0x0B _⟩
  · have hend := Only.configEnds (s.servoSet v)
    have hkeep : ∀ k ∈ [Reg.TIME_UNIT.SERVO_MODE, Reg.TIME_UNIT.STATE, Reg.TIME_UNIT.GOOD_REPORTS],
        (s.servoSet v).configChanged.deliverDue.reg k = (s.servoSet v).reg k := fun k hk =>
      hend.regs k (by revert k; decide) (by revert k; decide)
    obtain ⟨hfree, hnone⟩ := (s.setReg Reg.TIME_UNIT.SERVO_MODE v).reg_enterFreeRun
    refine ⟨_, execServoMode_permitted hp, ?_, ?_, ?_, ?_⟩
    · exact (hkeep _ (by simp)).trans (s.servoMode_servoSet v)
    · exact (hkeep _ (by simp)).trans hfree
    · exact (hkeep _ (by simp)).trans hnone
    · exact ((Only.servoSet s v).mono (by simp) fun _ h => h).trans (hend.mono (by simp) (by simp))
end

section
/-!
SUPPORT. The gate lists in force (R304, R309, R311): what GATE_EDGE, LIST_SWAPPED and GATE_LIST_RESUME make of a port's gates.
-/
namespace Sys2Proof.Machine

/-! ### Gate engines -/

/-- No register of GATE_PORT is one that interrupts write. -/
theorem quietReg_gatePort {p a : Nat} (hp : p < 643) (ha : a < 256) : quietReg ((0x5C00 + p) * 256 + a) = true :=
  quietReg_of_mid (by omega) (by omega)

theorem State.gate_setGate_same (s : State) (p : Nat) (g : GatePort) : (s.setGate p g).gate p = g :=
  (SMap.get_set _ _ _ _ _).trans (if_pos rfl)

theorem State.gate_setGate_other (s : State) {p q : Nat} (g : GatePort) (h : q ≠ p) : (s.setGate p g).gate q = s.gate q :=
  (SMap.get_set _ _ _ _ _).trans (if_neg h)

theorem State.gate_of_gates {s t : State} (h : t.gates = s.gates) (p : Nat) : t.gate p = s.gate p := by
  unfold State.gate
  rw [h]

/-- A gate engine replaced, and then what a frame names. -/
theorem Only.afterGate {R T : List Nat} {s u : State} {p : Nat} {g : GatePort} (h : Only R T (s.setGate p g) u) :
    Only R T { s with gates := u.gates } u := by
  rw [h.gates]
  exact h

/-! ### GATE_EDGE and GATE_LIST_RESUME (R304, R309) -/

theorem Only.showGates {R T : List Nat} (s : State) (p : Nat) (h : Reg.GATE_PORT.GATE_STATE p ∈ R) : Only R T s (s.showGates p) :=
  Only.setReg _ _ _ (.inl h)

theorem State.gateMask_active {s : State} {p : Nat} {l : GateList} (t : Nat) (hsafe : s.reg (Reg.GATE_PORT.IN_SAFE_STATE p) ≠ 1)
    (hl : (s.gate p).active = some l) : s.gateMask p t = l.maskAt t := by
  unfold State.gateMask
  rw [if_neg hsafe, hl]

/-- The safe state is left at instant `at'`. -/
def State.safeLeft (s : State) (p at' : Nat) : State := (s.setReg (Reg.GATE_PORT.IN_SAFE_STATE p) 0).setTab Tab.gateResume p at'

theorem Only.safeLeft (s : State) {p : Nat} (at' : Nat) (hp : p < 643) :
    Only [Reg.GATE_PORT.IN_SAFE_STATE p] [Tab.gateResume] s (s.safeLeft p at') :=
  (Only.setReg _ _ _ (.inl (by simp))).trans (Only.setTab _ _ _ _ (by omega) (.inl (by simp)))

theorem State.safe_safeLeft (s : State) (p at' : Nat) : (s.safeLeft p at').reg (Reg.GATE_PORT.IN_SAFE_STATE p) = 0 :=
  (State.reg_setTab _ _ _ _ _).trans (State.reg_setReg_same _ _ _)

theorem State.resume_safeLeft (s : State) (p at' : Nat) : (s.safeLeft p at').tab Tab.gateResume p = at' := State.tab_setTab_same _ _ _ _

theorem execGateListResume_due {s : State} {p : PortNo} {l : GateList} {e : Nat} (hl : (s.gate p).active = some l)
    (he : s.tab Tab.sticky 9 = e + 1) (hsafe : s.reg (Reg.GATE_PORT.IN_SAFE_STATE p) = 1) (hdue : l.boundary e * nsUnit ≤ s.clock.ptp) :
    exec (.gateListResume p) s = .next ((s.safeLeft p (l.boundary e * nsUnit)).showGates p).deliverDue := by
  change execGateListResume p s = _
  unfold execGateListResume
  rw [hl, he]
  exact if_pos ⟨hsafe, hdue⟩

theorem execGateListResume_resumes {s : State} {p : PortNo} {l : GateList} {e : Nat} (hl : (s.gate p).active = some l)
    (he : s.tab Tab.sticky 9 = e + 1) (hsafe : s.reg (Reg.GATE_PORT.IN_SAFE_STATE p) = 1) (hdue : l.boundary e * nsUnit ≤ s.clock.ptp) :
    ∃ t, exec (.gateListResume p) s = .next t ∧ t.reg (Reg.GATE_PORT.IN_SAFE_STATE p) = 0
      ∧ t.reg (Reg.GATE_PORT.GATE_STATE p) = l.maskAt s.clock.ptp ∧ t.tab Tab.gateResume p = l.boundary e * nsUnit
      ∧ Only [Reg.GATE_PORT.IN_SAFE_STATE p, Reg.GATE_PORT.GATE_STATE p] [Tab.gateResume] s t := by
  have hleft := s.safe_safeLeft p (l.boundary e * nsUnit)
  have hother : Reg.GATE_PORT.IN_SAFE_STATE p ≠ Reg.GATE_PORT.GATE_STATE p := by
    unfold Reg.GATE_PORT.IN_SAFE_STATE Reg.GATE_PORT.GATE_STATE; omega
  refine ⟨_, execGateListResume_due hl he hsafe hdue, ?_, ?_, ?_, ?_⟩
  · rw [State.reg_deliverDue _ (quietReg_gatePort p.isLt (by decide))]
    exact (State.reg_setReg_other _ _ hother).trans hleft
  · rw [State.reg_deliverDue _ (quietReg_gatePort p.isLt (by decide))]
    refine (State.reg_setReg_same _ _ _).trans (State.gateMask_active _ ?_ hl)
    rw [hleft]
    decide
  · rw [State.tab_deliverDue _ (by omega) (by decide)]
    exact (State.tab_setReg _ _ _ _ _).trans (s.resume_safeLeft p _)
  · exact ((Only.safeLeft s _ p.isLt).mono (by simp) (by simp)).trans ((Only.showGates _ _ (by simp)).trans (Only.deliverDue _))

theorem execGateEdge_shows (s : State) (p : PortNo) : ∃ t, exec (.gateEdge p) s = .next t
    ∧ t.reg (Reg.GATE_PORT.GATE_STATE p) = s.gateMask p s.clock.ptp ∧ Only [Reg.GATE_PORT.GATE_STATE p] [] s t := by
  refine ⟨(s.showGates p).deliverDue, rfl, ?_, (Only.showGates _ _ (by simp)).trans (Only.deliverDue _)⟩
  rw [State.reg_deliverDue _ (quietReg_gatePort p.isLt (by decide))]
  exact State.reg_setReg_same _ _ _

/-! ### LIST_SWAPPED (R311) -/

theorem Only.commitApplied {R T : List Nat} (s : State) (idx : Nat) (h1 : regKey idx 0x0D ∈ R) (h2 : Reg.CONFIG_STORE.CONFIG_GEN ∈ R) :
    Only R T s (s.commitApplied idx) :=
  (Only.bump _ _ _ _ (.inl h1)).trans (Only.when _ _ _ fun _ => Only.bump _ _ _ _ (.inl h2))

/-- The list `nl` is the active one, and none is pending. -/
def State.listTaken (s : State) (p : Nat) (nl : Option GateList) : State :=
  (s.setGate p { active := nl, pending := none }).setTab Tab.gateWaits p 0

/-- The swap shows in the gates, is counted, and is flagged. -/
def State.swapShown (s : State) (p : Nat) : State :=
  (((s.showGates p).bump (Reg.GATE_PORT.SWAPS p) 32).commitApplied 0x5F00).event (Reg.GATE_PORT.EVENTS p) 0 (0x1000 + p)

theorem State.swapList_eq (s : State) (p : Nat) (nl : Option GateList) (swap : Nat) :
    s.swapList p nl swap = ((s.listTaken p nl).swapShown p).refreshBounds (swap * nsUnit) := rfl

/-- The registers that a swap writes before the bounds. -/
abbrev swapRegs (p : Nat) : List Nat := [Reg.GATE_PORT.GATE_STATE p, Reg.GATE_PORT.SWAPS p, Reg.GATE_PORT.EVENTS p,
  Reg.GATE_PORT.EVENTS p + 1, regKey 0x5F00 0x0D, Reg.CONFIG_STORE.CONFIG_GEN]

theorem Only.listTaken {R : List Nat} (s : State) {p : Nat} (nl : Option GateList) (hp : p < 643) :
    Only R [Tab.gateWaits] (s.setGate p { active := nl, pending := none }) (s.listTaken p nl) :=
  Only.setTab _ _ _ _ (by omega) (.inl (by simp))

theorem Only.swapShown {T : List Nat} (s : State) (p : Nat) : Only (swapRegs p) T s (s.swapShown p) :=
  (Only.showGates _ _ (by simp)).trans ((Only.bump _ _ _ _ (.inl (by simp))).trans
    ((Only.commitApplied _ _ (by simp) (by simp)).trans (Only.event _ _ _ _ (.inl (by simp)) (.inl (by simp)))))

/-- The registers of a gate port lie below the windows' and above the configuration store's. -/
theorem gatePort_notCommit {p a : Nat} (hp : p < 643) (ha : a < 256) :
    (0x5C00 + p) * 256 + a ∉ [regKey 0x5F00 0x0D, Reg.CONFIG_STORE.CONFIG_GEN] := by
  simp only [List.mem_cons, List.not_mem_nil, or_false, regKey, Reg.CONFIG_STORE.CONFIG_GEN]
  omega

theorem State.reg_commitApplied {s : State} {p a : Nat} (hp : p < 643) (ha : a < 256) :
    (s.commitApplied 0x5F00).reg ((0x5C00 + p) * 256 + a) = s.reg ((0x5C00 + p) * 256 + a) :=
  (Only.commitApplied (R := [regKey 0x5F00 0x0D, Reg.CONFIG_STORE.CONFIG_GEN]) (T := []) s 0x5F00 (by simp) (by simp)).regs _
    (gatePort_notCommit hp ha) (quietReg_gatePort hp ha)

theorem State.swaps_swapShown (s : State) {p : Nat} (hp : p < 643) :
    (s.swapShown p).reg (Reg.GATE_PORT.SWAPS p) = (s.reg (Reg.GATE_PORT.SWAPS p) + 1) % 2 ^ 32 := by
  have hshown : (s.showGates p).reg (Reg.GATE_PORT.SWAPS p) = s.reg (Reg.GATE_PORT.SWAPS p) :=
    State.reg_setReg_other _ _ (by unfold Reg.GATE_PORT.SWAPS Reg.GATE_PORT.GATE_STATE; omega)
  unfold State.swapShown
  rw [State.reg_event_other _ _ _ _ _ (quietReg_gatePort hp (by decide)), State.reg_commitApplied hp (by decide), State.reg_bump, if_pos rfl,
    hshown]
  · unfold Reg.GATE_PORT.EVENTS; omega
  · unfold Reg.GATE_PORT.EVENTS; omega

theorem State.flag_swapShown (s : State) {p : Nat} (hp : p < 643) : bit ((s.swapShown p).reg (Reg.GATE_PORT.EVENTS p)) 0 = true := by
  unfold State.swapShown
  rw [State.reg_event_flag _ _ _ _ (quietReg_gatePort hp (by decide))]
  exact bit_setBit _ _ _

theorem execListSwapped_due {s : State} {p : PortNo} {nl : Option GateList} {swap at' : Nat}
    (hpending : (s.gate p).pending = some (nl, swap)) (hat : s.swapInstant p = some at') (hsettled : s.timeState ≠ 4)
    (hsafe : s.reg (Reg.GATE_PORT.IN_SAFE_STATE p) = 0) (hdue : at' * nsUnit ≤ s.clock.ptp) :
    exec (.listSwapped p) s = .next (((s.listTaken p nl).swapShown p).refreshBounds (at' * nsUnit)).deliverDue := by
  change execListSwapped p s = _
  unfold execListSwapped
  rw [hpending, hat]
  exact if_pos ⟨hsettled, hsafe, hdue⟩

/-- What a swap leaves before the bounds are computed (R311). -/
theorem State.listSwapped_done (s : State) {p : Nat} (nl : Option GateList) (hp : p < 643) :
    let u := (s.listTaken p nl).swapShown p
    u.gate p = { active := nl, pending := none } ∧ (∀ q, q ≠ p → u.gate q = s.gate q) ∧ u.tab Tab.gateWaits p = 0
      ∧ u.reg (Reg.GATE_PORT.SWAPS p) = (s.reg (Reg.GATE_PORT.SWAPS p) + 1) % 2 ^ 32 ∧ bit (u.reg (Reg.GATE_PORT.EVENTS p)) 0 = true
      ∧ Only (swapRegs p) [Tab.gateWaits] { s with gates := u.gates } u := by
  have hshown := Only.swapShown (T := []) (s.listTaken p nl) p
  have hgate : ∀ q, ((s.listTaken p nl).swapShown p).gate q = (s.setGate p { active := nl, pending := none }).gate q := fun q =>
    State.gate_of_gates hshown.gates q
  refine ⟨?_, fun q hq => ?_, ?_, State.swaps_swapShown _ hp, State.flag_swapShown _ hp, ?_⟩
  · rw [hgate, State.gate_setGate_same]
  · rw [hgate, State.gate_setGate_other _ _ hq]
  · exact (hshown.tabs _ _ (by omega) (by simp) (by decide)).trans (State.tab_setTab_same _ _ _ _)
  · exact Only.afterGate ((Only.listTaken s nl hp).trans (hshown.mono (fun _ h => h) (by simp)))

end Sys2Proof.Machine
end

section
/-!
SUPPORT. CANCEL_PENDING and REMOVE_LIST (R310, R312), and the calculator's verdict on a change that waits for its instant (R42).
-/
namespace Sys2Proof.Machine

theorem Dict.lookup_gatePort (p : PortNo) : Dict.lookup (0x5C00 + p) = some Dict.obj5C00 :=
  Dict.lookup_of_run (lo := 0x5C00) (n := 643) rfl (by decide) (by decide) (by omega) (by omega)

/-- Neither command of a gate port is part of the saved configuration (R320). -/
theorem savedSub_gatePort (p : PortNo) : savedSub (0x5C00 + p) 0x07 = false ∧ savedSub (0x5C00 + p) 0x08 = false := by
  unfold savedSub
  rw [Dict.lookup_gatePort]
  exact ⟨rfl, rfl⟩

/-! ### CANCEL_PENDING (R312) -/

theorem execCancelPending_done {s u : State} {w : SessionNo} {p : PortNo} (hp : s.permits w (0x5C00 + p) 0x07 1 = true)
    (heff : cancelPendingEffect p 1 s = Res.done u) : exec (.cancelPending w p) s = .next u.deliverDue := by
  obtain ⟨hsaved, -⟩ := savedSub_gatePort p
  refine (State.hostWrite_next (eff := cancelPendingEffect p 1) hp (by rw [heff]; rfl)).trans ?_
  rw [hsaved, heff]
  rfl

theorem cancelPendingEffect_none {s : State} {p : Nat} (h : (s.gate p).pending = none) : cancelPendingEffect p 1 s = Res.done s := by
  unfold cancelPendingEffect
  rw [h]

/-- The pending list is dropped. -/
def State.pendingDropped (s : State) (p : Nat) : State := (s.setGate p { s.gate p with pending := none }).setTab Tab.gateWaits p 0

/-- A list whose swap lies 100 µs or more ahead is dropped (R312). -/
theorem cancelPendingEffect_far {s : State} {p swap : Nat} {nl : Option GateList} (h : (s.gate p).pending = some (nl, swap))
    (hfar : s.clock.ptp + 100000 * nsUnit ≤ swap * nsUnit) : cancelPendingEffect p 1 s = Res.done (s.pendingDropped p) := by
  have hns : 0 < nsUnit := by decide
  have hahead : ¬swap * nsUnit ≤ s.clock.ptp := by omega
  unfold cancelPendingEffect
  rw [h]
  simp [Nat.not_lt.mpr hfar, hahead, State.pendingDropped]

theorem execCancelPending_drops {s : State} {w : SessionNo} {p : PortNo} {swap : Nat} {nl : Option GateList}
    (hp : s.permits w (0x5C00 + p) 0x07 1 = true) (h : (s.gate p).pending = some (nl, swap))
    (hfar : s.clock.ptp + 100000 * nsUnit ≤ swap * nsUnit) :
    ∃ t, exec (.cancelPending w p) s = .next t ∧ t.gate p = { s.gate p with pending := none }
      ∧ Only [] [Tab.gateWaits] { s with gates := t.gates } t := by
  have hdropped : Only [] [Tab.gateWaits] (s.setGate p { s.gate p with pending := none }) (s.pendingDropped p).deliverDue :=
    (Only.setTab _ _ _ _ (by omega) (.inl (by simp))).trans (Only.deliverDue _)
  exact ⟨_, execCancelPending_done hp (cancelPendingEffect_far h hfar),
    (State.gate_of_gates hdropped.gates p).trans (State.gate_setGate_same _ _ _), hdropped.afterGate⟩

/-! ### What is held for a change that waits (R42, R333) -/

theorem State.reg_refreshHeld (s : State) {k : Nat} (h : BoundsFree k) : s.refreshHeld.reg k = s.reg k := by
  unfold State.refreshHeld
  split
  · exact State.reg_when_same (s.reg_refreshResvTotals h)
  · refine (State.reg_refreshResvTotals _ h).trans (State.reg_forAll (fun u f _ => ?_) s)
    exact State.reg_when_same (State.reg_storeBounds _ _ f k)

theorem State.refreshHeld_fwd (s : State) : Fwd 0x300000 s s.refreshHeld := by
  have hlow : 0x300000 ≤ 0x300000 := Nat.le_refl _
  unfold State.refreshHeld
  split
  · exact State.when_fw (Fwd.refl s) fun u hu => State.refreshResvTotals_fw hlow u hu
  · exact State.refreshResvTotals_fw hlow _ (State.forAll_fw (Fwd.refl s) fun u f hu =>
      State.when_fw (State.storeHeld_fw hlow u f hu) fun v hv => State.storeBounds_fw hlow v _ f hv)

theorem boundsFree_gatePort {p a : Nat} (hp : p < 643) (ha : a < 256) : BoundsFree ((0x5C00 + p) * 256 + a) := by
  have hbelow : (0x5C00 + p) * 256 + a < 0x600000 := by omega
  exact ⟨Nat.lt_trans hbelow (by decide), Nat.ne_of_lt (Nat.lt_trans hbelow (by decide)), Nat.ne_of_lt (Nat.lt_trans hbelow (by decide)),
    Nat.ne_of_lt (Nat.lt_trans hbelow (by decide))⟩

/-! ### REMOVE_LIST (R310, R312) -/

theorem execRemoveList_done {s u : State} {w : SessionNo} {p : PortNo} (hp : s.permits w (0x5C00 + p) 0x08 1 = true)
    (heff : removeListEffect p 1 s = Res.done u) : exec (.removeList w p) s = .next u.deliverDue := by
  obtain ⟨-, hsaved⟩ := savedSub_gatePort p
  refine (State.hostWrite_next (eff := removeListEffect p 1) hp (by rw [heff]; rfl)).trans ?_
  rw [hsaved, heff]
  rfl

theorem removeListEffect_none {s : State} {p : Nat} (h : (s.gate p).active = none) : removeListEffect p 1 s = Res.done s := by
  unfold removeListEffect
  rw [h]

theorem removeListEffect_some {s : State} {p : Nat} {l : GateList} (h : (s.gate p).active = some l) (hsave : s.saving = false) :
    removeListEffect p 1 s = s.pendList p none (l.boundary (nsCeil s.clock.ptp + 100000)) id := by
  unfold removeListEffect
  rw [h, hsave]
  rfl

/-- The change `nl` of gate engine `g` is pending for `swap`, in ns. -/
def State.pendingSet (s : State) (p : Nat) (g : GatePort) (nl : Option GateList) (swap : Nat) : State :=
  (s.setGate p { g with pending := some (nl, swap) }).setReg (Reg.GATE_PORT.SWAP_TIME p) (time80 swap)

/-- The change evaluated and found admissible: it is pending, and COMMIT_CAUSE is 0 (R310). -/
def State.pendAdmitted (s : State) (p : Nat) (nl : Option GateList) (swap : Nat) : State :=
  ((s.bump Reg.ADMISSION_CONTROL.EVALUATIONS 64).pendingSet p (s.gate p) nl swap).setReg (Reg.GATE_PORT.COMMIT_CAUSE p) 0

theorem State.pendList_admitted {s : State} {p swap : Nat} {nl : Option GateList} {fs : List Finding}
    (hp : (s.gate p).pending = none) (he : (s.pendingSet p (s.gate p) nl swap).evaluate [] = .ok fs) :
    s.pendList p nl swap id = Res.done (s.pendAdmitted p nl swap).refreshHeld := by
  unfold State.pendingSet at he
  unfold State.pendList State.evaluated
  dsimp only
  rw [hp, he]
  rfl

theorem State.pendAdmitted_shows (s : State) {p : Nat} (nl : Option GateList) (swap : Nat) :
    (s.pendAdmitted p nl swap).gate p = { s.gate p with pending := some (nl, swap) }
      ∧ (s.pendAdmitted p nl swap).reg (Reg.GATE_PORT.SWAP_TIME p) = time80 swap
      ∧ (s.pendAdmitted p nl swap).reg (Reg.GATE_PORT.COMMIT_CAUSE p) = 0 := by
  have hother : Reg.GATE_PORT.SWAP_TIME p ≠ Reg.GATE_PORT.COMMIT_CAUSE p := by
    unfold Reg.GATE_PORT.SWAP_TIME Reg.GATE_PORT.COMMIT_CAUSE; omega
  unfold State.pendAdmitted State.pendingSet
  refine ⟨?_, ?_, State.reg_setReg_same _ _ _⟩
  · exact (State.gate_of_gates ((State.setReg_gates _ _ _).trans (State.setReg_gates _ _ _)) p).trans (State.gate_setGate_same _ _ _)
  · exact (State.reg_setReg_other _ _ hother).trans (State.reg_setReg_same _ _ _)

theorem execRemoveList_pends {s : State} {w : SessionNo} {p : PortNo} {l : GateList} {swap : Nat} {fs : List Finding}
    (hp : s.permits w (0x5C00 + p) 0x08 1 = true) (hl : (s.gate p).active = some l) (hnone : (s.gate p).pending = none)
    (hsave : s.saving = false) (hswap : swap = l.boundary (nsCeil s.clock.ptp + 100000))
    (he : (s.pendingSet p (s.gate p) none swap).evaluate [] = .ok fs) :
    ∃ t, exec (.removeList w p) s = .next t ∧ t.gate p = { active := some l, pending := some (none, swap) }
      ∧ t.reg (Reg.GATE_PORT.SWAP_TIME p) = time80 swap ∧ t.reg (Reg.GATE_PORT.COMMIT_CAUSE p) = 0 := by
  subst hswap
  obtain ⟨hgate, htime, hcause⟩ := s.pendAdmitted_shows (p := p) none (l.boundary (nsCeil s.clock.ptp + 100000))
  have hkeep : ∀ (u : State) (a : Nat), a < 256 →
      u.refreshHeld.deliverDue.reg ((0x5C00 + p) * 256 + a) = u.reg ((0x5C00 + p) * 256 + a) := fun u a ha =>
    (State.reg_deliverDue _ (quietReg_gatePort p.isLt ha)).trans (u.reg_refreshHeld (boundsFree_gatePort p.isLt ha))
  refine ⟨_, execRemoveList_done hp ((removeListEffect_some hl hsave).trans (State.pendList_admitted hnone he)), ?_,
    (hkeep _ 0x06 (by decide)).trans htime, (hkeep _ 0x10 (by decide)).trans hcause⟩
  refine (State.gate_of_gates ((State.deliverDue_gates _).trans (State.refreshHeld_fwd _).gates) p).trans (hgate.trans ?_)
  dsimp only
  rw [hl]

end Sys2Proof.Machine
end

section
/-!
A statement of 12_time_and_gates.md settled.
-/
open Sys2Proof Sys2Proof.Machine

/-- Settles O46: each command of the gate lists is one of the port's own operations, and what follows it, the bounds and what is
delivered, leaves the gate engines and their registers. -/
theorem gateListsRun : Obligations.GateListsRun := by
  unfold Obligations.GateListsRun
  refine ⟨execGateEdge_shows, fun s p nl swap at' hpending hat hsettled hsafe hdue => ?_,
    fun s p l e => execGateListResume_resumes, fun s w p hp => ⟨fun hnone => ?_, fun nl swap => execCancelPending_drops hp⟩,
    fun s w p hp => ⟨fun hnone => ?_, fun l fs hl hnone hsave he =>
      execRemoveList_pends hp hl hnone hsave rfl he⟩⟩
  · obtain ⟨hgate, hothers, hwaits, hswaps, hflag, honly⟩ := s.listSwapped_done nl p.isLt
    exact ⟨_, _, execListSwapped_due hpending hat hsettled hsafe hdue, hgate, hothers, hwaits, hswaps, hflag, honly, rfl⟩
  · exact execCancelPending_done hp (cancelPendingEffect_none hnone)
  · exact execRemoveList_done hp (removeListEffect_none hnone)
end

section
/-!
SUPPORT. The end of a command: what is due is delivered, delivering makes nothing due again, and every command either delivers or
leaves the state as it was (R490, R495).
-/
namespace Sys2Proof.Machine

/-! ### Delivering makes nothing due -/

/-- What is due is the same in both. -/
def SameDue (s t : State) : Prop := t.tab Tab.attnDue 0 = s.tab Tab.attnDue 0

namespace SameDue

theorem refl (s : State) : SameDue s s := rfl

theorem trans {s t u : State} (h : SameDue s t) (g : SameDue t u) : SameDue s u := Eq.trans g h

theorem of_tabs {s t : State} (h : t.tabs = s.tabs) : SameDue s t := by unfold SameDue State.tab; rw [h]

theorem setReg (s : State) (k v : Nat) : SameDue s (s.setReg k v) := rfl

theorem setTab (s : State) {t i : Nat} (v : Nat) (h : Tab.attnDue ≠ t) (hi : i < 2 ^ 40) : SameDue s (s.setTab t i v) :=
  State.tab_setTab_table s v h hi (by decide)

theorem when (s : State) (c : Bool) (f : State → State) (h : ∀ u, SameDue u (f u)) : SameDue s (s.when c f) := by
  unfold State.when; split
  · exact h s
  · exact refl s

theorem forAll {α : Type} (s : State) (l : List α) (f : State → α → State) (h : ∀ u, ∀ a ∈ l, SameDue u (f u a)) :
    SameDue s (s.forAll l f) := by
  induction l generalizing s with
  | nil => exact refl s
  | cons a l ih => exact (h s a (by simp)).trans (ih (f s a) fun u b hb => h u b (by simp [hb]))

theorem answerWatches (s : State) : SameDue s s.answerWatches := by
  unfold State.answerWatches
  refine forAll _ _ _ fun u n _ => ?_
  split
  · exact refl u
  · exact of_tabs (State.reply_tabs ..)

theorem attend (s : State) (c n : Nat) : SameDue s (s.attend c n) := by
  have hi (x : Nat) : x % 64 < 2 ^ 40 := by omega
  unfold State.attend
  dsimp only
  refine SameDue.trans ?_ (answerWatches _)
  unfold SameDue
  rw [setTab _ _ (by decide) (hi _)]
  rfl

theorem claimSrc (s : State) {n : Nat} (hn : n < 2 ^ 40) : SameDue s (s.claimSrc n 129) :=
  ((setTab s _ (by decide) hn).trans (setTab _ _ (by decide) hn)).trans
    (when _ _ _ fun _ => setTab _ _ (by decide) (by decide))

theorem completeAtHost (s : State) {n : Nat} (hn : n < 2 ^ 40) : SameDue s (s.completeAtHost n) :=
  ((setTab s _ (by decide) hn).trans (setTab _ _ (by decide) hn)).trans (when _ _ _ fun _ => setReg _ _ _)

theorem takeBatch (s : State) (c : Nat) : SameDue s (s.takeBatch c) :=
  forAll _ _ _ fun u n hn =>
    have hlt : n < 2 ^ 40 := Only.claimable_lt n hn
    ((claimSrc u hlt).trans (attend _ _ _)).trans (completeAtHost _ hlt)

end SameDue

/-- Once what is due has been delivered, nothing is due. -/
theorem State.nothingDue_deliverDue (s : State) : s.deliverDue.nothingDue = true := by
  unfold State.deliverDue
  dsimp only
  split
  · next h => exact h
  · have hs : SameDue (s.setTab Tab.attnDue 0 0) ((s.setTab Tab.attnDue 0 0).forAll (dueClasses (s.tab Tab.attnDue 0)) fun s c =>
        s.when (!(s.claimable 129 (fun n => s.srcClass n == c - 1)).isEmpty) (·.takeBatch (c - 1))) :=
      SameDue.forAll _ _ _ fun u _ _ => SameDue.when _ _ _ fun _ => SameDue.takeBatch _ _
    unfold SameDue at hs
    rw [State.tab_setTab_same] at hs
    unfold State.nothingDue
    rw [hs]
    decide

/-! ### How a command ends -/

/-- The outcome delivers what is due, or answers a state in which the same is due. -/
inductive Ends (s : State) : Next → Prop where
  | done (u : State) : Ends s u.done
  | next {u : State} (h : SameDue s u) : Ends s (.next u)

theorem Ends.same {s : State} : Ends s (.next s) := .next (.refl s)

theorem Ends.ite {s : State} {c : Prop} [Decidable c] {a b : Next} (ha : Ends s a) (hb : Ends s b) : Ends s (if c then a else b) := by
  split
  · exact ha
  · exact hb

theorem Ends.nothingDue {s t : State} (h : Ends s (.next t)) (hs : s.nothingDue = true) : t.nothingDue = true := by
  generalize ho : Host.Outcome.next t = o at h
  cases h with
  | done u => cases ho; exact u.nothingDue_deliverDue
  | next h => cases ho; unfold State.nothingDue; rw [h]; exact hs

theorem State.request_ends (s : State) (op : Nat) (q : Request) (run : State → State) : Ends s (s.request op q run) := by
  unfold State.request
  split
  · exact .done _
  · split
    · exact .done _
    · exact .done _

theorem State.sessionlessRequest_ends (s : State) (op : Nat) (q : Request) (run : State → State) :
    Ends s (s.sessionlessRequest op q run) := by
  unfold State.sessionlessRequest
  split
  · exact .done _
  · exact .ite (.done _) (.done _)

theorem State.onMicro_ends (s : State) (b : Nat) (e : BenchEnv) (f : State → Micro → Option State) : Ends s (s.onMicro b e f) := by
  unfold State.onMicro
  refine .ite .same ?_
  split
  · exact .same
  · split
    · exact .same
    · exact .done _

theorem State.takeHandoff_none {s t : State} {pipe : Nat} (h : s.takeHandoff pipe = (t, none)) : t = s := by
  unfold State.takeHandoff at h
  split at h
  · cases h; rfl
  · cases h

theorem exec_ends (c : Instr) (s : State) : Ends s (exec c s) := by
  cases c with
  | read | write | blockRead | blockWrite | windowCommit | parkedWatch | release | close => exact State.request_ends ..
  | ping => exact .ite (State.sessionlessRequest_ends ..) (State.request_ends ..)
  | branch | nop | jump | call | ret | loop | sync | trap | loadimmSet | loadimmShift => exact State.onMicro_ends ..
  | openSession | watchTimeout | jobDispatch | dictDone | jigSegmentDone | registerWrite | stage
  | windowRangeWrite | abort | uncorrectedCw | elasticFault | tileStartAdmitted | benchFramePresent | wipeDone | bypassFrameStart
  | aged | resvReturnActive | parserStart | frameTail | bufferAdmission | injectPresent | copyTxStart | copyTxEnd | gateListResume
  | listSwapped | reclaimStart | reclaimDone | leaseExpired | execMicroword | loadVerified | telemetryBuild | mgmtFrameSend =>
    simp only [exec, execOpenSession, execWatchTimeout, execJobDispatch, execDictDone, execJigSegmentDone,
      execRegisterWrite, execStage, execWindowRangeWrite, execAbort, execUncorrectedCw, execElasticFault, execTileStartAdmitted,
      execBenchFramePresent, execWipeDone, execBypassFrameStart, execAged, execResvReturnActive, execParserStart, execFrameTail,
      execBufferAdmission, execInjectPresent, execCopyTxStart, execCopyTxEnd, execGateListResume, execListSwapped, execReclaimStart,
      execReclaimDone, execLeaseExpired, execExecMicroword, execLoadVerified, execTelemetryBuild, execMgmtFrameSend]
    repeat' first | exact .done _ | exact .same | exact State.sessionlessRequest_ends .. | refine .ite ?_ ?_ | split
  | signalEngineWrite pipe =>
    simp only [exec, execSignalEngineWrite]
    split
    · next he => rw [State.takeHandoff_none he]; exact .same
    · exact .done _
  | reverted | clockStretch | stretchEnd | undervolt =>
    repeat' first | exact .done _ | exact .same | refine .ite ?_ ?_
    exact .next (.setReg _ _ _)
  | railArrived =>
    exact .ite (.ite (.done _) (.next (.setTab _ _ (by decide) (by decide)))) .same
  | _ => repeat' first | exact .done _ | exact .same | refine .ite ?_ ?_

/-- A step with nothing due before it leaves nothing due. -/
theorem step_nothingDue {s t : State} (hs : s.nothingDue = true) (ht : step s = .next t) : t.nothingDue = true := by
  unfold step at ht
  split at ht
  · cases ht; exact State.nothingDue_deliverDue _
  · next c rest _ =>
    have h := exec_ends c { s with pending := rest }
    rw [ht] at h
    exact h.nothingDue hs

end Sys2Proof.Machine
end

section
/-!
The statements of 19_interrupts_attention.md settled.
-/
open Sys2Proof Sys2Proof.Machine

/-- Settles O6: a command ends by delivering what is due, or leaves the state as it was, and delivering makes nothing due. -/
theorem nothingDueBetweenCommands : Obligations.NothingDueBetweenCommands :=
  fun _ _ hs ht => step_nothingDue hs ht
end

section
/-!
SUPPORT. What a trigger does to the interrupt tables, and what it leaves of every other table, the counters among them (R489, R494).
-/
namespace Sys2Proof.Machine

/-! ### Bit fields -/

/-- A field written keeps the bits around it. -/
theorem setBits_eq (v msb lsb x : Nat) : setBits v msb lsb x
    = 2 ^ lsb * (2 ^ (msb + 1 - lsb) * (v / 2 ^ lsb / 2 ^ (msb + 1 - lsb)) + x % 2 ^ (msb + 1 - lsb)) + v % 2 ^ lsb := by
  unfold setBits bits
  rw [Nat.shiftRight_eq_div_pow]
  have hlow := Nat.div_add_mod v (2 ^ lsb)
  have hhigh : 2 ^ lsb * (v / 2 ^ lsb) = 2 ^ lsb * (2 ^ (msb + 1 - lsb) * (v / 2 ^ lsb / 2 ^ (msb + 1 - lsb)))
      + 2 ^ lsb * (v / 2 ^ lsb % 2 ^ (msb + 1 - lsb)) := by rw [← Nat.mul_add, Nat.div_add_mod]
  rw [Nat.mul_comm _ (2 ^ lsb), Nat.mul_comm _ (2 ^ lsb), Nat.mul_add]
  omega

theorem testBit_bits (v msb lsb k : Nat) : (bits v msb lsb).testBit k = (decide (k < msb + 1 - lsb) && v.testBit (lsb + k)) := by
  unfold bits
  rw [Nat.testBit_mod_two_pow, Nat.testBit_shiftRight]

theorem testBit_setBits (v msb lsb x k : Nat) : (setBits v msb lsb x).testBit k
    = if lsb ≤ k ∧ k < lsb + (msb + 1 - lsb) then x.testBit (k - lsb) else v.testBit k := by
  rw [setBits_eq]
  generalize msb + 1 - lsb = w
  rw [Nat.testBit_two_pow_mul_add _ (Nat.mod_lt _ (Nat.two_pow_pos lsb)),
    Nat.testBit_two_pow_mul_add _ (Nat.mod_lt _ (Nat.two_pow_pos w))]
  simp only [Nat.testBit_mod_two_pow, Nat.testBit_div_two_pow]
  by_cases hlow : k < lsb
  · rw [if_pos hlow, if_neg (by omega), decide_eq_true hlow, Bool.true_and]
  · by_cases hin : k - lsb < w
    · rw [if_neg hlow, if_pos hin, if_pos (by omega), decide_eq_true hin, Bool.true_and]
    · rw [if_neg hlow, if_neg hin, if_neg (by omega), show k - lsb - w + w + lsb = k by omega]

theorem bits_setBits_same (v msb lsb x : Nat) : bits (setBits v msb lsb x) msb lsb = x % 2 ^ (msb + 1 - lsb) := by
  refine Nat.eq_of_testBit_eq fun k => ?_
  rw [testBit_bits, testBit_setBits, Nat.testBit_mod_two_pow]
  by_cases hk : k < msb + 1 - lsb
  · rw [if_pos (by omega), Nat.add_sub_cancel_left]
  · rw [decide_eq_false hk, Bool.false_and, Bool.false_and]

/-- Fields that lie apart do not disturb each other. -/
theorem bits_setBits_other (v x : Nat) {msb lsb m l : Nat} (h : m < lsb ∨ msb < l) :
    bits (setBits v msb lsb x) m l = bits v m l := by
  refine Nat.eq_of_testBit_eq fun k => ?_
  rw [testBit_bits, testBit_bits, testBit_setBits]
  by_cases hk : k < m + 1 - l
  · rw [if_neg (by omega)]
  · rw [decide_eq_false hk, Bool.false_and, Bool.false_and]

theorem bits_lt (v msb lsb : Nat) : bits v msb lsb < 2 ^ (msb + 1 - lsb) := Nat.mod_lt _ (Nat.two_pow_pos _)

/-! ### Refused writes -/

/-- A permitted write whose object's own rule refuses it is answered the object's code. -/
theorem State.hostWrite_code {s : State} {w idx sub v : Nat} {eff : State → Res} (h : s.permits w idx sub v = true)
    (hc : (eff s).code ≠ Code.ok) : (s.hostWrite w idx sub v eff).code = (eff s).code := by
  unfold State.permits at h
  simp only [Bool.and_eq_true, beq_iff_eq, Bool.not_eq_true'] at h
  obtain ⟨⟨hsession, hreset⟩, hchecks⟩ := h
  unfold State.hostWrite
  rw [if_neg (by simp [hsession])]
  split at hchecks
  · cases hchecks
  · next o r hpass =>
    simp only [Bool.and_eq_true, Bool.not_eq_true'] at hchecks
    simp only [hchecks.1, State.performWrite, hc, hreset, hchecks.2, Bool.false_eq_true, if_false, false_and]
    split <;> rfl

/-! ### Triggers -/

/-- An offer to host attention changes no table but what is due. -/
theorem State.tab_offer (s : State) (n : Nat) {t i : Nat} (hi : i < 2 ^ 40) (ht : t ≠ Tab.attnDue) : (s.offer n).tab t i = s.tab t i := by
  unfold State.offer
  dsimp only
  split
  · split
    · unfold State.makeDue State.when
      dsimp only
      split
      · exact State.tab_setTab_table _ _ ht (by decide) hi
      · rfl
    · rfl
  · rfl

/-- A trigger changes no table but the states of the sources and what is due. -/
theorem State.tab_trigger_other (s : State) (n : Nat) {t i : Nat} (hi : i < 2 ^ 40) (ht : t ≠ Tab.intState) (hd : t ≠ Tab.attnDue) :
    (s.trigger n).tab t i = s.tab t i := by
  unfold State.trigger
  split
  · rfl
  next hr =>
    have hn := Only.not_reserved_lt (by simpa using hr)
    have hset (u : State) (v : Nat) : (u.setTab Tab.intState n v).tab t i = u.tab t i := State.tab_setTab_table _ _ ht hn hi
    dsimp only
    split
    · exact (State.tab_offer _ _ hi hd).trans (hset _ _)
    · split
      · exact hset _ _
      · exact hset _ _

theorem State.tab_event_other (s : State) (k i n : Nat) {t j : Nat} (hj : j < 2 ^ 40) (ht : t ≠ Tab.intState) (hd : t ≠ Tab.attnDue) :
    (s.event k i n).tab t j = s.tab t j := State.tab_trigger_other (s.flag k i) n hj ht hd

/-- An offer counts no trigger. -/
theorem State.triggers_offer (s : State) (n : Nat) :
    (s.offer n).reg Reg.INT_CONTROL.TRIGGERS = s.reg Reg.INT_CONTROL.TRIGGERS := by
  unfold State.offer
  dsimp only
  split
  · split
    · unfold State.makeDue State.when
      dsimp only
      split <;> rfl
    · exact State.reg_setReg_other _ _ (by decide)
  · rfl

/-- A trigger of a source counts (R498). -/
theorem State.triggers_trigger (s : State) {n : Nat} (h : IntCat.reserved n = false) :
    (s.trigger n).reg Reg.INT_CONTROL.TRIGGERS = (s.reg Reg.INT_CONTROL.TRIGGERS + 1) % 2 ^ 64 := by
  have hset (u : State) (v : Nat) : (u.setSrcState n v).reg Reg.INT_CONTROL.TRIGGERS = u.reg Reg.INT_CONTROL.TRIGGERS :=
    State.reg_setTab _ _ _ _ _
  unfold State.trigger
  rw [h, if_neg (by decide)]
  dsimp only
  split
  · rw [State.triggers_offer, hset, State.reg_bump, if_pos rfl]
  · split
    · rw [hset, State.reg_bump, if_pos rfl]
    · rw [State.mergeSrc, State.reg_bump, if_neg (by decide), State.reg_setTab, State.reg_bump, if_pos rfl]

theorem State.srcState_setSrcState (s : State) (n st : Nat) : (s.setSrcState n st).srcState n = st % 4 := by
  unfold State.srcState State.setSrcState State.intElem
  rw [State.tab_setTab_same]
  exact bits_setBits_same _ _ _ _

/-- An ACTIVE source that is triggered pends again (R489). -/
theorem State.srcState_trigger_active (s : State) {n : Nat} (h : IntCat.reserved n = false) (hs : s.srcState n = 2) :
    (s.trigger n).srcState n = 3 := by
  have hb : (s.bump Reg.INT_CONTROL.TRIGGERS 64).srcState n = 2 := hs
  unfold State.trigger
  rw [h, if_neg (by decide)]
  dsimp only
  rw [hb, if_neg (by decide), if_pos rfl]
  exact State.srcState_setSrcState _ _ _

end Sys2Proof.Machine
end

section
/-!
SUPPORT. Counters (R505, R506): what a list of stores to one table leaves, what counting changes, and the chaining map.
-/
namespace Sys2Proof.Machine

/-! ### Stores of a list -/

/-- Stores to one table, each of the value that `f` gives its index. -/
theorem State.tab_forAll_store {α : Type} (t : Nat) (k v : α → Nat) (f : Nat → Nat) {l : List α} (h : ∀ a ∈ l, v a = f (k a)) (s : State)
    (i : Nat) : (s.forAll l (fun s a => s.setTab t (k a) (v a))).tab t i = if i ∈ l.map k then f i else s.tab t i := by
  induction l generalizing s with
  | nil => rfl
  | cons a l ih =>
    have hrec := ih (fun b hb => h b (List.mem_cons_of_mem _ hb)) (s.setTab t (k a) (v a))
    refine Eq.trans hrec ?_
    by_cases hl : i ∈ l.map k
    · rw [if_pos hl, if_pos (by simp only [List.map_cons, List.mem_cons, hl, or_true])]
    · rw [if_neg hl]
      by_cases hi : i = k a
      · rw [hi, State.tab_setTab_same, if_pos (by simp), h a List.mem_cons_self]
      · rw [State.tab_setTab_index _ _ hi, if_neg (by simp only [List.map_cons, List.mem_cons, hi, hl, or_false, not_false_iff])]

theorem length_toBE (n v : Nat) : (toBE n v).length = n := by
  induction n with
  | zero => rfl
  | succ n ih => rw [toBE, List.length_cons, ih]

theorem ofBool_beq_one (b : Bool) : (ofBool b == 1) = b := by cases b <;> rfl

/-! ### What counting leaves -/

theorem State.tab_overflowed_index (s : State) {n m : Nat} (hm : m < 2 ^ 40) (h : m ≠ n) :
    (s.overflowed n).tab Tab.counter m = s.tab Tab.counter m := by
  unfold State.overflowed
  rw [State.tab_event_other _ _ _ _ hm (by decide) (by decide), State.tab_bump, State.tab_setTab_index _ _ h]

/-- A counter that is not chained counts by itself. -/
theorem State.counter_count_other (s : State) {n m : Nat} (amt : Nat) (hm : m < 2 ^ 40) (h : m ≠ n)
    (hc : s.isChained n = false) : (s.count n amt).counter m = s.counter m := by
  have hset (u : State) (v : Nat) : (u.setCounter n v).tab Tab.counter m = u.tab Tab.counter m := State.tab_setTab_index _ _ h
  unfold State.count State.counter
  split
  · rfl
  · rw [hc, if_neg (by decide)]
    dsimp only
    unfold State.when
    split
    · rw [State.tab_overflowed_index _ hm h, hset]
    · rw [hset]

/-! ### The chaining map -/

/-- The pairs whose bit a write of `data` at octet `off` of CHAIN_MAP changes, with the bit written. -/
def State.chainChanges (s : State) (off : Nat) (data : Bytes) : List (Nat × Bool) :=
  data.zipIdx.flatMap (fun p => ((List.range 8).map (fun k => (8 * (off + p.2) + k, bit p.1 k))).filter
    (fun c => c.2 != s.isChained (2 * c.1)))

/-- The bit that a whole map gives pair `e`. -/
def chainBit (data : Bytes) (e : Nat) : Bool := bit (data.getD (e / 8) 0) (e % 8)

theorem State.mem_chainChanges (s : State) (data : Bytes) (e : Nat) (b : Bool) :
    (e, b) ∈ s.chainChanges 0 data ↔ e < 8 * data.length ∧ b = chainBit data e ∧ b ≠ s.isChained (2 * e) := by
  unfold State.chainChanges chainBit
  simp only [List.mem_flatMap, List.mem_filter, List.mem_map, List.mem_range, Prod.mk.injEq, bne_iff_ne, Nat.zero_add]
  constructor
  · rintro ⟨⟨x, i⟩, hx, ⟨k, hk, rfl, rfl⟩, hne⟩
    obtain ⟨hi, hat⟩ := List.mem_zipIdx' hx
    dsimp only at hne ⊢
    refine ⟨by omega, ?_, hne⟩
    rw [show (8 * i + k) / 8 = i by omega, show (8 * i + k) % 8 = k by omega, List.getD_eq_getElem _ _ hi, hat]
  · rintro ⟨hlt, rfl, hne⟩
    have hi : e / 8 < data.length := by omega
    refine ⟨(data[e / 8], e / 8), ?_, ⟨e % 8, Nat.mod_lt _ (by decide), Nat.div_add_mod e 8, ?_⟩, hne⟩
    · exact List.mem_zipIdx_iff_getElem?.mpr (List.getElem?_eq_getElem hi)
    · rw [List.getD_eq_getElem _ _ hi]

theorem chainMapEffect_free {s : State} {off : Nat} {data : Bytes}
    (h : ∀ e b, (e, b) ∈ s.chainChanges off data → ctrClass (2 * e) = .free ∧ ctrClass (2 * e + 1) = .free) :
    chainMapEffect off data s
      = Res.done (s.forAll (s.chainChanges off data) (fun s c => s.setTab Tab.chained c.1 (ofBool c.2))) := by
  unfold chainMapEffect
  dsimp only
  rw [if_pos]
  · rfl
  · refine List.all_eq_true.mpr fun c hc => ?_
    obtain ⟨he, ho⟩ := h c.1 c.2 hc
    rw [he, ho]
    rfl

/-- The map as its changes leave it. -/
theorem State.isChained_chainChanges (s : State) {data : Bytes} {n : Nat} (hn : n / 2 < 8 * data.length) :
    (s.forAll (s.chainChanges 0 data) (fun s c => s.setTab Tab.chained c.1 (ofBool c.2))).isChained n = chainBit data (n / 2) := by
  have htab := State.tab_forAll_store Tab.chained (fun c : Nat × Bool => c.1) (fun c => ofBool c.2) (fun e => ofBool (chainBit data e))
    (l := s.chainChanges 0 data) (fun c hc => by rw [((s.mem_chainChanges data c.1 c.2).mp hc).2.1]) s (n / 2)
  unfold State.isChained
  rw [htab]
  split
  · exact ofBool_beq_one _
  next hout =>
    by_contra hne
    refine hout (List.mem_map.mpr ⟨(n / 2, chainBit data (n / 2)), (s.mem_chainChanges data _ _).mpr ⟨hn, rfl, fun heq => hne ?_⟩, rfl⟩)
    rw [heq]
    unfold State.isChained
    rw [show 2 * (n / 2) / 2 = n / 2 by omega]

/-- A whole map that changes pairs of free counters. -/
theorem chainMapEffect_shows {s : State} {data : Bytes} (hlen : data.length = 16384) (hd : s.nothingDue = true)
    (hfree : ∀ e, e < 131072 → bit (data.getD (e / 8) 0) (e % 8) ≠ s.isChained (2 * e) →
      ctrClass (2 * e) = .free ∧ ctrClass (2 * e + 1) = .free) :
    ∃ u, chainMapEffect 0 data s = Res.done u ∧ u.configChanged.nothingDue = true
      ∧ (∀ n, n < 262144 → u.configChanged.counter n = s.counter n ∧ u.configChanged.isChained n = bit (data.getD (n / 2 / 8) 0) (n / 2 % 8))
      ∧ Only [Reg.CONFIG_STORE.CONFIG_GEN] [Tab.chained] s u.configChanged := by
  have hmem := s.mem_chainChanges data
  have heff := chainMapEffect_free (s := s) (off := 0) (data := data) fun e b hc => by
    obtain ⟨he, hb, hne⟩ := (hmem e b).mp hc
    exact hfree e (by omega) fun h => hne (hb.trans h)
  let u := s.forAll (s.chainChanges 0 data) (fun s c => s.setTab Tab.chained c.1 (ofBool c.2))
  have hlt : ∀ c ∈ s.chainChanges 0 data, c.1 < 2 ^ 40 := fun c hc => by
    obtain ⟨he, -⟩ := (hmem c.1 c.2).mp hc
    omega
  have honly : Only [Reg.CONFIG_STORE.CONFIG_GEN] [Tab.chained] s u :=
    Only.forAll _ _ _ fun v c hc => Only.setTab _ _ _ _ (hlt c hc) (.inl (by simp))
  have hother {t i : Nat} (hi : i < 2 ^ 40) (ht : t ≠ Tab.chained) : u.tab t i = s.tab t i :=
    State.view_forAll (g := fun v => v.tab t i) (fun v c hc => State.tab_setTab_table _ _ ht (hlt c hc) hi) s
  refine ⟨u, heff, ?_, fun n hn => ⟨?_, ?_⟩, honly.trans (Only.bump _ _ _ _ (.inl (by simp)))⟩
  · unfold State.nothingDue State.configChanged at *
    rw [State.tab_bump, hother (by decide) (by decide)]
    exact hd
  · unfold State.counter State.configChanged
    rw [State.tab_bump, hother (by omega) (by decide)]
  · exact s.isChained_chainChanges (by omega)

/-- A whole map that changes pairs of free counters is taken over. -/
theorem execChainMap_taken {s : State} {w : SessionNo} {value : Nat} (hp : s.permits w 0xA000 0x02 value = true) (hd : s.nothingDue = true)
    (hfree : ∀ e, e < 131072 → bit ((toBE 16384 value).getD (e / 8) 0) (e % 8) ≠ s.isChained (2 * e) →
      ctrClass (2 * e) = .free ∧ ctrClass (2 * e + 1) = .free) :
    ∃ t, exec (.chainMap w value) s = .next t
      ∧ (∀ n, n < 262144 → t.counter n = s.counter n ∧ t.isChained n = bit ((toBE 16384 value).getD (n / 2 / 8) 0) (n / 2 % 8))
      ∧ Only [Reg.CONFIG_STORE.CONFIG_GEN] [Tab.chained] s t := by
  change ∃ t, execChainMap w value s = .next t ∧ _
  unfold execChainMap
  have hlen := length_toBE 16384 value
  generalize toBE 16384 value = data at hlen hfree ⊢
  obtain ⟨u, heff, hdue, hshows⟩ := chainMapEffect_shows hlen hd hfree
  have hsaved : savedSub 0xA000 0x02 = true := by decide
  have hn := State.hostWrite_next (eff := chainMapEffect 0 data) hp (by rw [heff]; rfl)
  rw [heff, hsaved, if_pos rfl] at hn
  exact ⟨u.configChanged, hn.trans (congrArg _ (State.deliverDue_nothing hdue)), hshows⟩

/-- What a pair counts (R505). -/
theorem State.fullCount_pair (t : State) (e : Nat) :
    t.fullCount (2 * e) = (if t.isChained (2 * e) then t.counter (2 * e + 1) * 2 ^ 48 + t.counter (2 * e) else t.counter (2 * e))
      ∧ t.fullCount (2 * e + 1)
        = (if t.isChained (2 * e) then t.counter (2 * e + 1) * 2 ^ 48 + t.counter (2 * e) else t.counter (2 * e + 1)) := by
  have hodd : t.isChained (2 * e + 1) = t.isChained (2 * e) := by
    unfold State.isChained
    rw [show (2 * e + 1) / 2 = 2 * e / 2 by omega]
  unfold State.fullCount
  rw [hodd, show 2 * e / 2 * 2 = 2 * e by omega, show (2 * e + 1) / 2 * 2 = 2 * e by omega]
  exact ⟨rfl, rfl⟩

theorem State.isChained_half (t : State) {n e : Nat} (h : n / 2 = e) : t.isChained n = t.isChained (2 * e) := by
  unfold State.isChained
  rw [h, show 2 * e / 2 = e by omega]

end Sys2Proof.Machine
end

section
/-!
Statements of 19_interrupts_attention.md and 20_counters_telemetry.md settled.
-/
open Sys2Proof Sys2Proof.Machine

/-- Settles O47: the map's changes are stores to one table, and what a pair counts follows from its bit. -/
theorem chainChange : Obligations.ChainChange := by
  unfold Obligations.ChainChange
  refine ⟨fun s w value => execChainMap_taken, fun t e he => ?_⟩
  obtain ⟨heven, hodd⟩ := t.fullCount_pair e
  refine ⟨fun hc => ?_, fun hc => ⟨?_, ?_, fun n m amt hn hm hlt => ?_⟩⟩
  · rw [heven, hodd, if_pos hc, if_pos hc]
    exact ⟨rfl, rfl⟩
  · rw [heven, hc, if_neg (by decide)]
  · rw [hodd, hc, if_neg (by decide)]
  · exact t.counter_count_other amt (by omega) hm ((t.isChained_half hn).trans hc)

/-- Settles O42: a trigger writes the interrupt controller's tables and count alone, and a reserved source is refused. -/
theorem testRaiseTriggers : Obligations.TestRaiseTriggers := by
  unfold Obligations.TestRaiseTriggers
  refine fun s w n hp => ⟨fun hr => ?_, fun hr => ⟨?_, s.triggers_trigger hr, s.srcState_trigger_active hr,
    (Only.trigger _ _).trans (Only.deliverDue _)⟩⟩
  · have heff : testRaiseEffect n s = Res.fail s Code.range := if_pos hr
    have hrange : (testRaiseEffect n s).code ≠ Code.ok := by rw [heff]; exact (by decide : Code.range ≠ Code.ok)
    refine ⟨?_, (State.hostWrite_next_refused hp hrange).trans (by rw [heff]; rfl)⟩
    rw [State.hostWrite_code hp hrange, heff]
    rfl
  · have heff : testRaiseEffect n s = Res.done (s.trigger n) := if_neg (by rw [hr]; decide)
    have hsaved : savedSub 0x0800 0x02 = false := by decide
    have hn := State.hostWrite_next (eff := testRaiseEffect n) hp (by rw [heff]; rfl)
    rw [heff, hsaved] at hn
    exact hn
end

section
/-!
SUPPORT. Two states for refutations: registers that the spec bounds are unbounded in the model's state, so that a counter numbered from
one of them lies beyond the counters' table (R502, R509, R513).
-/
namespace Sys2Proof.Machine

/-- A device that runs, with session 0 open. -/
def runningHost : State :=
  ((State.reset.setReg (Reg.SESSION.STATE 0) 1).setReg Reg.DEVICE_STATUS.MODE 2).setReg Reg.POWER_STATE.STATE 3

/-- An element of a table in the state that a command answers. -/
def tabAfter (o : Next) (n i : Nat) : Option Nat :=
  match o with
  | .next t => some (t.tab n i)
  | _ => none

/-- Snapshot group 0 has one counter, numbered so that it is element 0 of the latch itself, which holds 5. -/
def farGroupState : State :=
  (((runningHost.setReg (Reg.SNAPSHOT_GROUP.BASE 0) (2 ^ 41)).setReg (Reg.SNAPSHOT_GROUP.COUNT 0) 1).setReg
    (Reg.SNAPSHOT_GROUP.EXPORT_STREAM 0) 4).setTab Tab.snapLatch 0 5

theorem farGroupState_latches : tabAfter (exec (.snap 0 0) farGroupState) Tab.snapLatch 0 = some 0 := by decide +kernel

theorem farGroupState_elem : farGroupState.counterElem (2 ^ 41) = 5 := by decide +kernel

/-- Bench 0 has weight in an interval with energy, and its port a partition so high that the partition's energy counter is an
element of the snapshot latch. -/
def farPartitionState : State :=
  ((runningHost.setReg (Reg.PORT.PARTITION 514) ((2 ^ 41 - Ctr.partEnergy 0 0) / 8)).setTab Tab.interval 0 1).setTab Tab.power 8 50000

theorem farPartitionState_counts : tabAfter (exec .energyInterval farPartitionState) Tab.snapLatch 4 ≠ some 0 := by decide +kernel

theorem farPartitionState_before : farPartitionState.tab Tab.snapLatch 4 = 0 := by decide +kernel

end Sys2Proof.Machine
end

section
/-!
Statements of 20_counters_telemetry.md settled.
-/
open Sys2Proof Sys2Proof.Machine

/-- Refutes O48: BASE of a snapshot group is unbounded in a state. In `farGroupState` the group's counter, numbered from it, is the
element of the latch that SNAP clears before it latches, so that 0 is latched where the counter's element read 5. -/
theorem not_countersAreLatched : ¬ Obligations.CountersAreLatched := by
  intro h
  obtain ⟨hsnap, -⟩ := h
  obtain ⟨t, ht, hlatched, -⟩ := hsnap farGroupState 0 0 (by decide +kernel) (by decide +kernel) (by decide +kernel)
  have hwas : t.tab Tab.snapLatch 0 = 5 := (hlatched 0 (by decide +kernel)).trans farGroupState_elem
  have hnow := farGroupState_latches
  rw [ht] at hnow
  exact absurd (hwas.symm.trans (Option.some.inj hnow)) (by decide)

/-- Refutes O49: PARTITION of a bench's port is unbounded in a state. In `farPartitionState` the energy of bench 0 is counted in an
element of the snapshot latch, a table that the interval's end is said to leave. -/
theorem not_telemetryLeaves : ¬ Obligations.TelemetryLeaves := by
  intro h
  obtain ⟨-, henergy⟩ := h
  obtain ⟨t, ht, -, -, -, -, honly⟩ := henergy farPartitionState (by decide +kernel)
  have hkept : t.tab Tab.snapLatch 4 = 0 :=
    (honly.tabs Tab.snapLatch 4 (by decide) (by decide) (by decide)).trans farPartitionState_before
  have hnow := farPartitionState_counts
  rw [ht] at hnow
  exact hnow (congrArg some hkept)
end

section
/-!
SUPPORT. Octets of a value: strings of octets in either order, and the fields of a signal slot read back as they were written (R9, R357).
-/
namespace Sys2Proof.Machine

/-! ### Octet strings -/

theorem foldl_octets (b : Bytes) (a : Nat) :
    b.foldl (fun a x => a * 256 + x % 256) a = a * 2 ^ (8 * b.length) + ofBE b := by
  unfold ofBE
  induction b generalizing a with
  | nil => simp
  | cons x t ih =>
    rw [List.foldl_cons, List.foldl_cons, ih, ih (0 * 256 + x % 256), List.length_cons, Nat.mul_succ 8, Nat.pow_add]
    ring

theorem ofBE_cons (x : Nat) (t : Bytes) : ofBE (x :: t) = x % 256 * 2 ^ (8 * t.length) + ofBE t := by
  rw [ofBE, List.foldl_cons, foldl_octets, Nat.zero_mul, Nat.zero_add]

theorem ofBE_lt (b : Bytes) : ofBE b < 2 ^ (8 * b.length) := by
  induction b with
  | nil => exact Nat.one_pos
  | cons x t ih =>
    rw [ofBE_cons, List.length_cons, Nat.mul_succ 8, Nat.pow_add]
    have hx : x % 256 < 256 := Nat.mod_lt _ (by decide)
    calc x % 256 * 2 ^ (8 * t.length) + ofBE t < (x % 256 + 1) * 2 ^ (8 * t.length) :=
        (Nat.add_lt_add_left ih _).trans_eq (Nat.succ_mul _ _).symm
      _ ≤ 256 * 2 ^ (8 * t.length) := Nat.mul_le_mul_right _ hx
      _ = 2 ^ (8 * t.length) * 2 ^ 8 := Nat.mul_comm _ _

theorem toBE_add_mul (n a v : Nat) : toBE n (a * 2 ^ (8 * n) + v) = toBE n v := by
  induction n generalizing a with
  | zero => rfl
  | succ n ih =>
    have hsplit : a * 2 ^ (8 * (n + 1)) = a * 256 * 2 ^ (8 * n) := by rw [Nat.mul_succ, Nat.pow_add]; ring
    rw [toBE, toBE, hsplit, ih, Nat.shiftRight_eq_div_pow, Nat.shiftRight_eq_div_pow, Nat.add_comm,
      Nat.add_mul_div_right _ _ (Nat.two_pow_pos _), Nat.add_mul_mod_self_right]

/-- Octets spelled most significant first read back. -/
theorem toBE_ofBE {b : Bytes} (h : ∀ x ∈ b, x < 256) : toBE b.length (ofBE b) = b := by
  induction b with
  | nil => rfl
  | cons x t ih =>
    have hx : x % 256 = x := Nat.mod_eq_of_lt (h x List.mem_cons_self)
    rw [List.length_cons, toBE, ofBE_cons, toBE_add_mul, ih fun y hy => h y (List.mem_cons_of_mem _ hy), Nat.shiftRight_eq_div_pow,
      Nat.add_comm, Nat.add_mul_div_right _ _ (Nat.two_pow_pos _), Nat.div_eq_of_lt (ofBE_lt t), Nat.zero_add, hx, hx]

theorem length_toLE (n v : Nat) : (toLE n v).length = n := by
  induction n generalizing v with
  | zero => rfl
  | succ n ih => rw [toLE, List.length_cons, ih]

theorem toLE_lt {n v : Nat} : ∀ x ∈ toLE n v, x < 256 := by
  induction n generalizing v with
  | zero => intro x hx; cases hx
  | succ n ih =>
    intro x hx
    rcases List.mem_cons.mp hx with rfl | hx
    · exact Nat.mod_lt _ (by decide)
    · exact ih x hx

theorem ofLE_toLE (n v : Nat) : ofLE (toLE n v) = v % 2 ^ (8 * n) := by
  induction n generalizing v with
  | zero => rw [toLE, ofLE, Nat.mul_zero, Nat.pow_zero, Nat.mod_one]
  | succ n ih =>
    rw [toLE, ofLE, ih, Nat.mul_succ, Nat.add_comm (8 * n), Nat.pow_add, Nat.mod_mul, Nat.mod_mod]

/-! ### Fields of an octet string -/

theorem octetsAt_setOctets_same (n v off len x : Nat) : octetsAt n (setOctets n v off len x) off len = x % 2 ^ (8 * len) := by
  refine Nat.eq_of_testBit_eq fun k => ?_
  rw [testBit_octetsAt, testBit_setOctets, Nat.testBit_mod_two_pow]
  by_cases hk : k < 8 * len
  · rw [if_pos (by omega), Nat.add_sub_cancel_left]
  · rw [decide_eq_false hk, Bool.false_and, Bool.false_and]

theorem octetsAt_setOctets_other {n off len off' len' : Nat} (v x : Nat) (hn : off + len ≤ n) (hn' : off' + len' ≤ n)
    (h : off' + len' ≤ off ∨ off + len ≤ off') : octetsAt n (setOctets n v off len x) off' len' = octetsAt n v off' len' := by
  refine Nat.eq_of_testBit_eq fun k => ?_
  rw [testBit_octetsAt, testBit_octetsAt, testBit_setOctets]
  by_cases hk : k < 8 * len'
  · rw [if_neg (by omega)]
  · rw [decide_eq_false hk, Bool.false_and, Bool.false_and]

/-! ### Fields of a slot -/

theorem leAt_setLe_same (v off len x : Nat) : leAt (setLe v off len x) off len = x % 2 ^ (8 * len) := by
  have hlen := length_toLE len x
  have hlt := ofBE_lt (toLE len x)
  have hback := toBE_ofBE (b := toLE len x) toLE_lt
  rw [hlen] at hlt hback
  unfold leAt setLe
  rw [octetsAt_setOctets_same, Nat.mod_eq_of_lt hlt, hback, ofLE_toLE]

theorem leAt_setLe_other {off len off' len' : Nat} (v x : Nat) (hn : off + len ≤ 32) (hn' : off' + len' ≤ 32)
    (h : off' + len' ≤ off ∨ off + len ≤ off') : leAt (setLe v off len x) off' len' = leAt v off' len' := by
  unfold leAt setLe
  rw [octetsAt_setOctets_other _ _ hn hn' h]

/-- The timestamp written leaves every field that is not its own. -/
theorem leAt_setSlotStamp {off len : Nat} (v t : Nat) (hn : off + len ≤ 32) (h : off + len ≤ 8 ∨ 20 ≤ off) :
    leAt (setSlotStamp v t) off len = leAt v off len := by
  unfold setSlotStamp
  rw [leAt_setLe_other _ _ (by decide) hn (by omega), leAt_setLe_other _ _ (by decide) hn (by omega),
    leAt_setLe_other _ _ (by decide) hn (by omega)]

theorem stamp_fields (t : Nat) : bits t 95 48 * 2 ^ 48 + bits t 47 16 * 2 ^ 16 + bits t 15 0 = t % 2 ^ 96 := by
  simp only [bits, Nat.shiftRight_eq_div_pow]
  omega

/-- A timestamp of 96 bits reads back. -/
theorem slotStamp_setSlotStamp (v t : Nat) : slotStamp (setSlotStamp v t) = t % 2 ^ 96 := by
  have h48 : bits t 95 48 % 2 ^ (8 * 6) = bits t 95 48 := Nat.mod_eq_of_lt (bits_lt _ _ _)
  have h16 : bits t 47 16 % 2 ^ (8 * 4) = bits t 47 16 := Nat.mod_eq_of_lt (bits_lt _ _ _)
  have h0 : bits t 15 0 % 2 ^ (8 * 2) = bits t 15 0 := Nat.mod_eq_of_lt (bits_lt _ _ _)
  unfold slotStamp setSlotStamp
  rw [leAt_setLe_other (off := 18) (off' := 12) _ _ (by decide) (by decide) (by decide),
    leAt_setLe_other (off := 18) (off' := 8) _ _ (by decide) (by decide) (by decide),
    leAt_setLe_other (off := 12) (off' := 8) _ _ (by decide) (by decide) (by decide),
    leAt_setLe_same, leAt_setLe_same, leAt_setLe_same, h48, h16, h0, stamp_fields]

/-- A flag of a slot written, the others kept. -/
theorem slotFlags_setFlag (v : Nat) {i : Nat} (b : Bool) (hi : i < 8) :
    bit (slotFlags (setLe v 27 1 (setBit (slotFlags v) i b))) i = b := by
  unfold slotFlags
  rw [leAt_setLe_same]
  unfold bit
  rw [Nat.testBit_mod_two_pow, decide_eq_true hi, Bool.true_and]
  exact bit_setBit _ _ _

theorem slotFlags_setFlag_other (v : Nat) {i j : Nat} (b : Bool) (hj : j < 8) (h : j ≠ i) :
    bit (slotFlags (setLe v 27 1 (setBit (slotFlags v) i b))) j = bit (slotFlags v) j := by
  unfold slotFlags
  rw [leAt_setLe_same]
  unfold bit
  rw [Nat.testBit_mod_two_pow, decide_eq_true hj, Bool.true_and]
  exact bit_setBit_other _ _ h

end Sys2Proof.Machine
end

section
/-!
SUPPORT. The signal image's writes (R357 to R360, R362): what an accepted write leaves in its slot, and what it and its refusals change
besides.
-/
namespace Sys2Proof.Machine

/-! ### Slots of the image -/

/-- The tables that a write to the image changes: the slots, when they were written, and the mirrors' marks. -/
def imageTabs : List Nat := [Tab.win 0x7010, Tab.slotWritten, Tab.mirrorDirty]

theorem State.slot_setSlot_same (s : State) (n v : Nat) : (s.setSlot n v).slot n = v := State.tab_setTab_same _ _ _ _

theorem State.slot_setSlot_other (s : State) {n m : Nat} (v : Nat) (h : m ≠ n) : (s.setSlot n v).slot m = s.slot m :=
  State.tab_setTab_index _ _ (by omega)

theorem Only.setSlot {R T : List Nat} (s : State) {n : Nat} (v : Nat) (hn : n < 2 ^ 40) (ht : Tab.win 0x7010 ∈ T) :
    Only R T s (s.setSlot n v) := Only.setTab _ _ _ _ (by omega) (.inl ht)

/-- What leaves the image's tables leaves a slot. -/
theorem Only.slot {R T : List Nat} {s t : State} (h : Only R T s t) {n : Nat} (hn : n < 2 ^ 40) (ht : Tab.win 0x7010 ∉ T) :
    t.slot n = s.slot n := h.tabs _ _ (by omega) ht (by decide)

theorem Only.slotAttr {R T : List Nat} {s t : State} (h : Only R T s t) {n : Nat} (hn : n < 2 ^ 40) (ht : Tab.win 0x7011 ∉ T) :
    t.slotAttr n = s.slotAttr n := h.tabs _ _ (by omega) ht (by decide)

/-! ### Values stored -/

theorem State.storedValue_state (s : State) (type v : Nat) :
    (s.storedValue type v).1 = { s with freeCtr := (s.storedValue type v).1.freeCtr } := by
  unfold State.storedValue
  split
  · split <;> rfl
  · split <;> rfl

/-- A type other than BOOL keeps the value's bits. -/
theorem State.storedValue_bits (s : State) {type : Nat} (v : Nat) (h : type ≠ 1) :
    (s.storedValue type v).2 = v % 2 ^ (if is32 type then 32 else 64) := by
  unfold State.storedValue
  rw [if_neg h]
  split <;> rfl

/-- A BOOL is 0 or 1, and the value where that is 0 or 1. -/
theorem State.storedValue_bool (s : State) (v : Nat) : (s.storedValue 1 v).2 ≤ 1 ∧ (v ≤ 1 → (s.storedValue 1 v).2 = v) := by
  unfold State.storedValue
  rw [if_pos rfl]
  split
  next hv => exact ⟨hv, fun _ => rfl⟩
  next hv => exact ⟨Nat.le_of_lt_succ (Nat.mod_lt _ (by decide)), fun h => absurd h hv⟩

theorem State.storedValue_lt (s : State) (type v : Nat) : (s.storedValue type v).2 < 2 ^ 64 := by
  by_cases h : type = 1
  · obtain ⟨hle, -⟩ := s.storedValue_bool v
    rw [h]
    omega
  · rw [s.storedValue_bits v h]
    refine Nat.lt_of_lt_of_le (Nat.mod_lt _ (Nat.two_pow_pos _)) (Nat.pow_le_pow_right (by decide) ?_)
    split <;> decide

/-! ### What an accepted write stores (R358) -/

/-- `r` is what slot `v` has become under the write `w` of a value stored as `value` in type `type`. -/
structure SlotTaken (r v : Nat) (w : SlotWrite) (type value : Nat) : Prop where
  value : slotValue r = value % 2 ^ 64
  quality : slotQuality r = w.quality % 2 ^ 16
  stamp : slotStamp r = w.stamp % 2 ^ 96
  srcSeq : leAt r 22 2 = w.srcSeq % 2 ^ 16
  producer : leAt r 24 2 = w.producer % 2 ^ 16
  type : slotType r = type % 256
  seq : slotSeq r = (slotSeq v + 1) % 2 ^ 16
  stale : bit (slotFlags r) 2 = false
  kept : ∀ i, i < 2 → bit (slotFlags r) i = bit (slotFlags v) i

/-- Slot `v` with the fields of a write. -/
def slotWith (v : Nat) (w : SlotWrite) (type value : Nat) : Nat :=
  let v := setSlotStamp (setLe v 0 8 value) w.stamp
  let v := setLe (setLe (setLe (setLe v 20 2 w.quality) 22 2 w.srcSeq) 24 2 w.producer) 26 1 type
  setLe (setLe v 27 1 (setBit (slotFlags v) 2 false)) 28 2 ((slotSeq v + 1) % 65536)

/-- The fields before the flags stay when flags and SEQ are written. -/
theorem slotStamp_setLe {off len : Nat} (v x : Nat) (hn : off + len ≤ 32) (h : 20 ≤ off) :
    slotStamp (setLe v off len x) = slotStamp v := by
  unfold slotStamp
  rw [leAt_setLe_other _ _ hn (by decide) (by omega), leAt_setLe_other _ _ hn (by decide) (by omega),
    leAt_setLe_other _ _ hn (by decide) (by omega)]

theorem slotWith_taken (v : Nat) (w : SlotWrite) (type value : Nat) : SlotTaken (slotWith v w type value) v w type value := by
  have hseq (x : Nat) : slotSeq (setLe (setLe (setLe (setLe (setSlotStamp (setLe v 0 8 value) w.stamp) 20 2 w.quality) 22 2 w.srcSeq)
      24 2 w.producer) 26 1 x) = slotSeq v := by
    unfold slotSeq
    simp (disch := decide) only [leAt_setLe_other, leAt_setSlotStamp]
  have hflags (x : Nat) : slotFlags (setLe (setLe (setLe (setLe (setSlotStamp (setLe v 0 8 value) w.stamp) 20 2 w.quality) 22 2 w.srcSeq)
      24 2 w.producer) 26 1 x) = slotFlags v := by
    unfold slotFlags
    simp (disch := decide) only [leAt_setLe_other, leAt_setSlotStamp]
  have hlast (x y : Nat) : slotFlags (setLe x 28 2 y) = slotFlags x := leAt_setLe_other _ _ (by decide) (by decide) (by decide)
  unfold slotWith
  dsimp only
  constructor
  case value => unfold slotValue; simp (disch := decide) only [leAt_setLe_other, leAt_setSlotStamp, leAt_setLe_same]
  case quality => unfold slotQuality; simp (disch := decide) only [leAt_setLe_other, leAt_setLe_same]
  case stamp => simp (disch := decide) only [slotStamp_setLe, slotStamp_setSlotStamp]
  case srcSeq => simp (disch := decide) only [leAt_setLe_other, leAt_setLe_same]
  case producer => simp (disch := decide) only [leAt_setLe_other, leAt_setLe_same]
  case type => unfold slotType; simp (disch := decide) only [leAt_setLe_other, leAt_setLe_same]; rfl
  case seq => rw [hseq]; unfold slotSeq; rw [leAt_setLe_same]; exact Nat.mod_mod _ _
  case stale => rw [hlast, slotFlags_setFlag _ _ (by decide)]
  case kept => intro i hi; rw [hlast, slotFlags_setFlag_other _ _ (by omega) (by omega), hflags]

/-- The mirror's flag disturbs no other field. -/
theorem SlotTaken.marked {r v : Nat} {w : SlotWrite} {type value : Nat} (h : SlotTaken r v w type value) (b : Bool) :
    SlotTaken (setLe r 27 1 (setBit (slotFlags r) 3 b)) v w type value where
  value := (leAt_setLe_other _ _ (by decide) (by decide) (by decide)).trans h.value
  quality := (leAt_setLe_other _ _ (by decide) (by decide) (by decide)).trans h.quality
  stamp := (slotStamp_setLe _ _ (by decide) (by decide)).trans h.stamp
  srcSeq := (leAt_setLe_other _ _ (by decide) (by decide) (by decide)).trans h.srcSeq
  producer := (leAt_setLe_other _ _ (by decide) (by decide) (by decide)).trans h.producer
  type := (leAt_setLe_other _ _ (by decide) (by decide) (by decide)).trans h.type
  seq := (leAt_setLe_other _ _ (by decide) (by decide) (by decide)).trans h.seq
  stale := (slotFlags_setFlag_other _ _ (by decide) (by decide)).trans h.stale
  kept i hi := (slotFlags_setFlag_other _ _ (by omega) (by omega)).trans (h.kept i hi)

/-! ### An accepted write -/

theorem State.putSlot_eq (s : State) (w : SlotWrite) (port : Option Nat) :
    s.putSlot w port = ((((s.storedValue (attrType (s.slotAttr w.slot)) w.value).1.setSlot w.slot
      (slotWith (s.slot w.slot) w (attrType (s.slotAttr w.slot)) (s.storedValue (attrType (s.slotAttr w.slot)) w.value).2)).setTab
        Tab.slotWritten w.slot s.clock.island).markDirty w.slot port) := by
  have hslot : (s.storedValue (attrType (s.slotAttr w.slot)) w.value).1.slot w.slot = s.slot w.slot := by
    rw [State.storedValue_state]; rfl
  have hclock : (s.storedValue (attrType (s.slotAttr w.slot)) w.value).1.clock = s.clock := by rw [State.storedValue_state]
  unfold State.putSlot slotWith
  dsimp only
  rw [hslot, hclock]

/-- Marking a slot sets its flag alone. -/
theorem State.slot_markDirty (s : State) (n : Nat) (port : Option Nat) :
    (s.markDirty n port).slot n = s.slot n
      ∨ (s.markDirty n port).slot n = setLe (s.slot n) 27 1 (setBit (slotFlags (s.slot n)) 3 true) := by
  unfold State.markDirty
  dsimp only
  split
  · exact .inl rfl
  · exact .inr (State.slot_setSlot_same _ _ _)

theorem State.slot_markDirty_other (s : State) {n m : Nat} (port : Option Nat) (hn : n < 2 ^ 40) (hm : m < 2 ^ 40) (h : m ≠ n) :
    (s.markDirty n port).slot m = s.slot m := by
  unfold State.markDirty
  dsimp only
  split
  · rfl
  · rw [State.slot_setSlot_other _ _ h]
    exact State.tab_setTab_table _ _ (by decide) hn (by omega)

theorem Only.markDirty {R : List Nat} (s : State) {n : Nat} (port : Option Nat) (hn : n < 2 ^ 40) :
    Only R imageTabs s (s.markDirty n port) := by
  unfold State.markDirty
  dsimp only
  split
  · exact Only.refl _
  · exact (Only.setTab _ _ _ _ hn (.inl (by decide))).trans (Only.setSlot _ _ hn (by decide))

/-- A write that is accepted fills its slot, and leaves every other (R358). -/
theorem State.putSlot_taken (s : State) (w : SlotWrite) (port : Option Nat) (hn : w.slot < 2 ^ 40) :
    SlotTaken ((s.putSlot w port).slot w.slot) (s.slot w.slot) w (attrType (s.slotAttr w.slot))
      (s.storedValue (attrType (s.slotAttr w.slot)) w.value).2 := by
  have hfill := slotWith_taken (s.slot w.slot) w (attrType (s.slotAttr w.slot)) (s.storedValue (attrType (s.slotAttr w.slot)) w.value).2
  rw [State.putSlot_eq]
  generalize s.storedValue (attrType (s.slotAttr w.slot)) w.value = p at *
  have hslot : ((p.1.setSlot w.slot (slotWith (s.slot w.slot) w (attrType (s.slotAttr w.slot)) p.2)).setTab Tab.slotWritten w.slot
      s.clock.island).slot w.slot = slotWith (s.slot w.slot) w (attrType (s.slotAttr w.slot)) p.2 :=
    (State.tab_setTab_table _ _ (by decide) hn (by omega)).trans (State.slot_setSlot_same _ _ _)
  obtain h | h := State.slot_markDirty ((p.1.setSlot w.slot (slotWith (s.slot w.slot) w (attrType (s.slotAttr w.slot)) p.2)).setTab
    Tab.slotWritten w.slot s.clock.island) w.slot port
  · rw [h, hslot]
    exact hfill
  · rw [h, hslot]
    exact hfill.marked true

theorem State.slot_putSlot_other (s : State) (w : SlotWrite) (port : Option Nat) {m : Nat} (hn : w.slot < 2 ^ 40) (hm : m < 2 ^ 40)
    (h : m ≠ w.slot) : (s.putSlot w port).slot m = s.slot m := by
  rw [State.putSlot_eq, State.slot_markDirty_other _ _ hn hm h]
  refine (State.tab_setTab_table _ _ (by decide) hn (by omega)).trans ((State.slot_setSlot_other _ _ h).trans ?_)
  rw [State.storedValue_state]
  rfl

/-- An accepted write changes the image alone, and may draw a free value. -/
theorem Only.putSlot {R : List Nat} (s : State) (w : SlotWrite) (port : Option Nat) (hn : w.slot < 2 ^ 40) :
    Only R imageTabs { s with freeCtr := (s.putSlot w port).freeCtr } (s.putSlot w port) := by
  have hdrawn : Only R imageTabs (s.storedValue (attrType (s.slotAttr w.slot)) w.value).1 (s.putSlot w port) := by
    rw [State.putSlot_eq]
    exact ((Only.setSlot _ _ hn (by decide)).trans (Only.setTab _ _ _ _ hn (.inl (by decide)))).trans (Only.markDirty _ _ hn)
  have hctr := hdrawn.freeCtr
  rw [State.storedValue_state] at hdrawn
  rw [hctr]
  exact hdrawn

/-! ### Port A (R359) -/

/-- The checks of R359 in the order in which they count. -/
theorem State.writeA_rejected {s : State} {port : Nat} {x : PortAWrite}
    (h : bit (s.slotAttr x.w.slot) x.need = false ∨ (attrPort (s.slotAttr x.w.slot) ≠ 0xFFFF ∧ attrPort (s.slotAttr x.w.slot) ≠ port)
      ∨ (x.type ≠ 0 ∧ attrType (s.slotAttr x.w.slot) ≠ 0 ∧ x.type ≠ attrType (s.slotAttr x.w.slot))) :
    s.writeA port x = s.bump Reg.SIGNAL_CONTROL.RECORDS_REJECTED 64 := by
  unfold State.writeA
  exact if_pos (by simpa [or_assoc, and_assoc] using h)

theorem State.writeA_checked {s : State} {port : Nat} {x : PortAWrite}
    (h : ¬(bit (s.slotAttr x.w.slot) x.need = false ∨ (attrPort (s.slotAttr x.w.slot) ≠ 0xFFFF ∧ attrPort (s.slotAttr x.w.slot) ≠ port)
      ∨ (x.type ≠ 0 ∧ attrType (s.slotAttr x.w.slot) ≠ 0 ∧ x.type ≠ attrType (s.slotAttr x.w.slot)))) :
    s.writeA port x = if attrForce (s.slotAttr x.w.slot) then s.bump Reg.SIGNAL_CONTROL.FORCE_DISCARDS 64
      else if attrOrder (s.slotAttr x.w.slot) = true ∧ x.w.stamp < slotStamp (s.slot x.w.slot) then
        s.bump Reg.SIGNAL_CONTROL.OUT_OF_ORDER 64
      else (s.putSlot x.w (some port)).bump Reg.SIGNAL_CONTROL.RECORDS_WRITTEN 64 := by
  unfold State.writeA
  dsimp only
  rw [if_neg (by simpa [or_assoc, and_assoc] using h)]
  simp only [Bool.and_eq_true, decide_eq_true_eq]

end Sys2Proof.Machine
end

section
/-!
A statement of 15_signal_image.md settled.
-/
open Sys2Proof Sys2Proof.Machine

/-- Settles O37: the checks count in their order, and a write that passes them fills its slot. -/
theorem slotWritten : Obligations.SlotWritten := by
  unfold Obligations.SlotWritten
  intro s port x hn n a t bad late
  have hlt : x.w.slot < 2 ^ 40 := Nat.lt_trans hn (by decide)
  have hcounted (k : Nat) (hk : t = s.bump k 64) : t.reg k = (s.reg k + 1) % 2 ^ 64 ∧ Only [k] [] s t := by
    rw [hk]
    exact ⟨(State.reg_bump _ _ _ _ _).trans (if_pos rfl), Only.bump _ _ _ _ (.inl (by simp))⟩
  refine ⟨fun hbad => hcounted _ (State.writeA_rejected hbad), fun hok hf => hcounted _ ?_, fun hok hf hl => hcounted _ ?_,
    fun hok hf hl => ?_⟩
  · exact (State.writeA_checked hok).trans (if_pos hf)
  · exact (State.writeA_checked hok).trans ((if_neg (ne_true_of_eq_false hf)).trans (if_pos hl))
  · have ht : t = (s.putSlot x.w (some port)).bump Reg.SIGNAL_CONTROL.RECORDS_WRITTEN 64 :=
      (State.writeA_checked hok).trans ((if_neg (ne_true_of_eq_false hf)).trans (if_neg hl))
    have hfill := s.putSlot_taken x.w (some port) hlt
    have honly := Only.putSlot (R := [Reg.SIGNAL_CONTROL.RECORDS_WRITTEN]) s x.w (some port) hlt
    have hvalue := Nat.mod_eq_of_lt (s.storedValue_lt (attrType a) x.w.value)
    have hslots (m : Nat) : t.slot m = (s.putSlot x.w (some port)).slot m := by rw [ht]; rfl
    rw [hslots n]
    refine ⟨fun h1 => ?_, fun h1 => ?_, hfill.quality, hfill.stamp, hfill.srcSeq, hfill.producer, hfill.type.trans ?_, hfill.seq,
      hfill.stale, hfill.kept, fun m hm hne => (hslots m).trans (s.slot_putSlot_other x.w _ hlt (by omega) hne), ?_, ?_⟩
    · exact hfill.value.trans (hvalue.trans (s.storedValue_bits _ h1))
    · obtain ⟨hle, heq⟩ := s.storedValue_bool x.w.value
      have hv : slotValue ((s.putSlot x.w (some port)).slot n) = (s.storedValue (attrType a) x.w.value).2 := hfill.value.trans hvalue
      rw [h1] at hv
      exact ⟨hv.trans_le hle, fun h => hv.trans (heq h)⟩
    · exact Nat.mod_eq_of_lt (Nat.lt_trans (bits_lt _ _ _) (by decide))
    · have hcount := (Only.putSlot (R := []) s x.w (some port) hlt).regs Reg.SIGNAL_CONTROL.RECORDS_WRITTEN (by decide) (by decide)
      rw [ht, State.reg_bump, if_pos rfl, hcount]
      rfl
    · rw [ht]
      exact honly.trans (Only.bump _ _ _ _ (.inl (by simp)))
end

section
/-!
SUPPORT. The commands of the signal engine (R359, R360, R362, R367 to R371, R380): every record of a handoff counted once, staleness, losses
and snapshots.
-/
namespace Sys2Proof.Machine

/-! ### Counts of records -/

/-- The records that port A has accounted for (R359, R360). -/
def State.recordSum (s : State) : Nat :=
  s.reg Reg.SIGNAL_CONTROL.RECORDS_WRITTEN + s.reg Reg.SIGNAL_CONTROL.RECORDS_REJECTED + s.reg Reg.SIGNAL_CONTROL.FORCE_DISCARDS
    + s.reg Reg.SIGNAL_CONTROL.OUT_OF_ORDER + s.reg Reg.SIGNAL_CONTROL.SUPERSEDED

/-- The counts of `recordSum`. -/
def recordCounts : List Nat := [Reg.SIGNAL_CONTROL.RECORDS_WRITTEN, Reg.SIGNAL_CONTROL.RECORDS_REJECTED,
  Reg.SIGNAL_CONTROL.FORCE_DISCARDS, Reg.SIGNAL_CONTROL.OUT_OF_ORDER, Reg.SIGNAL_CONTROL.SUPERSEDED]

/-- The counts of the signal engine. -/
def engineCounts : List Nat := recordCounts ++ [Reg.SIGNAL_CONTROL.MALFORMED_USF, Reg.SIGNAL_CONTROL.CE_RECEIVED,
  Reg.SIGNAL_CONTROL.SHORT_ENTRIES]

theorem State.recordSum_bump (s : State) {k : Nat} (n : Nat) (h : k ∈ recordCounts) :
    (s.bump k 64 n).recordSum % 2 ^ 64 = (s.recordSum + n) % 2 ^ 64 := by
  simp only [recordCounts, List.mem_cons, List.not_mem_nil, or_false] at h
  unfold State.recordSum
  simp only [State.reg_bump]
  obtain rfl | rfl | rfl | rfl | rfl := h <;> (simp +decide only [if_true, if_false]; omega)

theorem Only.recordSum {T : List Nat} {s t : State} (h : Only [] T s t) : t.recordSum = s.recordSum := by
  unfold State.recordSum
  rw [h.regs _ (by decide) (by decide), h.regs _ (by decide) (by decide), h.regs _ (by decide) (by decide),
    h.regs _ (by decide) (by decide), h.regs _ (by decide) (by decide)]

theorem Only.recordBump {T : List Nat} (s : State) {k : Nat} (n : Nat) (h : k ∈ recordCounts) : Only engineCounts T s (s.bump k 64 n) :=
  Only.bump _ _ _ _ (.inl (List.mem_append_left _ h))

/-! ### Writes of port A -/

/-- Every write is counted once, whether it is stored or not. -/
theorem State.recordSum_writeA (s : State) (port : Nat) (x : PortAWrite) (hn : x.w.slot < 2 ^ 40) :
    (s.writeA port x).recordSum % 2 ^ 64 = (s.recordSum + 1) % 2 ^ 64 := by
  have hput : (s.putSlot x.w (some port)).recordSum = s.recordSum := (Only.putSlot (R := []) s x.w (some port) hn).recordSum
  unfold State.writeA
  dsimp only
  split
  · exact s.recordSum_bump 1 (by decide)
  · split
    · exact s.recordSum_bump 1 (by decide)
    · split
      · exact s.recordSum_bump 1 (by decide)
      · rw [State.recordSum_bump _ 1 (by decide), hput]

theorem Only.writeA (s : State) (port : Nat) (x : PortAWrite) (hn : x.w.slot < 2 ^ 40) :
    Only engineCounts imageTabs { s with freeCtr := (s.writeA port x).freeCtr } (s.writeA port x) := by
  unfold State.writeA
  dsimp only
  split
  · exact (Only.recordBump s 1 (by decide)).withDrawn
  · split
    · exact (Only.recordBump s 1 (by decide)).withDrawn
    · split
      · exact (Only.recordBump s 1 (by decide)).withDrawn
      · exact (Only.putSlot s x.w (some port) hn).trans (Only.recordBump _ 1 (by decide))

/-- The writes of a list, each counted once. -/
theorem State.writesA (s : State) {l : List (Handoff × PortAWrite)} (h : ∀ x ∈ l, x.2.w.slot < 2 ^ 40) :
    (s.forAll l (fun s x => s.writeA x.1.srcPort x.2)).recordSum % 2 ^ 64 = (s.recordSum + l.length) % 2 ^ 64
      ∧ Only engineCounts imageTabs { s with freeCtr := (s.forAll l (fun s x => s.writeA x.1.srcPort x.2)).freeCtr }
          (s.forAll l (fun s x => s.writeA x.1.srcPort x.2)) := by
  induction l generalizing s with
  | nil => exact ⟨rfl, Only.refl _⟩
  | cons x l ih =>
    have hx := h x List.mem_cons_self
    have hone := s.recordSum_writeA x.1.srcPort x.2 hx
    obtain ⟨hsum, honly⟩ := ih (s.writeA x.1.srcPort x.2) fun y hy => h y (List.mem_cons_of_mem _ hy)
    refine ⟨hsum.trans ?_, Only.drawn (Only.writeA s x.1.srcPort x.2 hx) honly⟩
    rw [List.length_cons]
    omega

/-! ### Decoding -/

theorem usfRecord_slot {full : Bool} {b : Bytes} {stamp producer clock : Nat} {x : PortAWrite}
    (h : usfRecord full b stamp producer clock = some x) : x.w.slot < 2 ^ 17 := by
  unfold usfRecord at h
  dsimp only at h
  split at h
  · cases h
  · split at h
    all_goals obtain rfl := Option.some.inj h; exact bits_lt _ 16 0

theorem State.decodeUsf_slots (s : State) (h : Handoff) : ∀ x ∈ (s.decodeUsf h).writes, x.w.slot < 2 ^ 17 := by
  intro x hx
  unfold State.decodeUsf at hx
  dsimp only at hx
  split at hx
  · cases hx
  · obtain ⟨r, hr, hrx⟩ := List.mem_filterMap.mp hx
    obtain ⟨k, -, hk⟩ := List.mem_map.mp hr
    exact usfRecord_slot (hk.trans hrx)

theorem State.decodeMap_slots (s : State) (h : Handoff) : ∀ x ∈ (s.decodeMap h).writes, x.w.slot < 2 ^ 17 := by
  intro x hx
  unfold State.decodeMap at hx
  dsimp only at hx
  split at hx
  · cases hx
  · split at hx
    · cases hx
    · obtain ⟨e, -, rfl⟩ := List.mem_map.mp hx
      exact bits_lt _ 127 111

theorem State.decodeHandoff_slots (s : State) (h : Handoff) : ∀ x ∈ (s.decodeHandoff h).writes, x.w.slot < 2 ^ 17 := by
  unfold State.decodeHandoff
  split
  · exact s.decodeUsf_slots h
  · exact s.decodeMap_slots h

theorem Only.decodeHandoff {T : List Nat} (s : State) (h : Handoff) : Only engineCounts T s (s.decodeHandoff h).st := by
  unfold State.decodeHandoff
  split
  · unfold State.decodeUsf
    dsimp only
    split
    · exact Only.bump _ _ _ _ (.inl (by decide))
    · exact (Only.when _ _ _ fun _ => Only.bump _ _ _ _ (.inl (by decide))).trans (Only.recordBump _ _ (by decide))
  · unfold State.decodeMap
    dsimp only
    split
    · exact Only.refl _
    · split
      · exact Only.bump _ _ _ _ (.inl (by decide))
      · exact Only.bump _ _ _ _ (.inl (by decide))

theorem State.decodeHandoffs_one (s : State) (h : Handoff) :
    s.decodeHandoffs [h] = ((s.decodeHandoff h).st, (s.decodeHandoff h).writes.map (fun x => (h, x)) ++ []) := rfl

theorem State.decodeHandoffs_two (s : State) (h g : Handoff) :
    s.decodeHandoffs [h, g] = (((s.decodeHandoff h).st.decodeHandoff g).st, (s.decodeHandoff h).writes.map (fun x => (h, x))
      ++ (((s.decodeHandoff h).st.decodeHandoff g).writes.map (fun x => (g, x)) ++ [])) := rfl

theorem State.decodeHandoffs_only {T : List Nat} (hs : List Handoff) (s : State) : Only engineCounts T s (s.decodeHandoffs hs).1 := by
  induction hs generalizing s with
  | nil => exact Only.refl _
  | cons h t ih => exact (Only.decodeHandoff s h).trans (ih _)

theorem State.decodeHandoffs_slots (hs : List Handoff) (s : State) : ∀ x ∈ (s.decodeHandoffs hs).2, x.2.w.slot < 2 ^ 17 := by
  induction hs generalizing s with
  | nil => intro x hx; cases hx
  | cons h t ih =>
    intro x hx
    obtain hx | hx := List.mem_append.mp hx
    · obtain ⟨y, hy, rfl⟩ := List.mem_map.mp hx
      exact s.decodeHandoff_slots h y hy
    · exact ih _ x hx

/-! ### The order of the core clocks -/

theorem insertClock_perm (x : Handoff × PortAWrite) (l : List (Handoff × PortAWrite)) : (insertClock x l).Perm (x :: l) := by
  induction l with
  | nil => exact .refl _
  | cons y t ih =>
    unfold insertClock
    split
    · exact .refl _
    · exact (ih.cons y).trans (.swap x y t)

theorem byClock_perm (l : List (Handoff × PortAWrite)) : (byClock l).Perm l := by
  have hfold (l acc : List (Handoff × PortAWrite)) : (l.foldl (fun acc x => insertClock x acc) acc).Perm (l ++ acc) := by
    induction l generalizing acc with
    | nil => exact .refl _
    | cons x t ih =>
      exact (ih (insertClock x acc)).trans (((insertClock_perm x acc).append_left t).trans List.perm_middle)
  exact (hfold l []).trans (by rw [List.append_nil])

/-! ### SIGNAL_ENGINE_WRITE -/

/-- Handoffs decoded, and their writes stored. -/
def State.storeHandoffs (s : State) (hs : List Handoff) : State :=
  let d := s.decodeHandoffs hs
  let keep := d.2.filter (fun x => !superseded d.2 x)
  (d.1.bump Reg.SIGNAL_CONTROL.SUPERSEDED 64 (d.2.length - keep.length)).forAll (byClock keep) (fun s x => s.writeA x.1.srcPort x.2)

theorem State.storeHandoffs_counted (s : State) (hs : List Handoff) :
    (s.storeHandoffs hs).recordSum % 2 ^ 64 = ((s.decodeHandoffs hs).1.recordSum + (s.decodeHandoffs hs).2.length) % 2 ^ 64
      ∧ Only engineCounts imageTabs { s with freeCtr := (s.storeHandoffs hs).freeCtr } (s.storeHandoffs hs) := by
  have hdecode := State.decodeHandoffs_only (T := imageTabs) hs s
  have hslots := State.decodeHandoffs_slots hs s
  unfold State.storeHandoffs
  dsimp only
  generalize s.decodeHandoffs hs = d at hdecode hslots ⊢
  have hkeep : (d.2.filter (fun x => !superseded d.2 x)).length ≤ d.2.length := List.length_filter_le _ _
  generalize hk : d.2.filter (fun x => !superseded d.2 x) = keep at hkeep ⊢
  have hperm := byClock_perm keep
  have hlt : ∀ x ∈ byClock keep, x.2.w.slot < 2 ^ 40 := fun x hx => by
    have hmem : x ∈ d.2 := List.mem_of_mem_filter (hk ▸ hperm.mem_iff.mp hx)
    exact Nat.lt_trans (hslots x hmem) (by decide)
  obtain ⟨hsum, honly⟩ := (d.1.bump Reg.SIGNAL_CONTROL.SUPERSEDED 64 (d.2.length - keep.length)).writesA hlt
  have hbump := d.1.recordSum_bump (d.2.length - keep.length) (k := Reg.SIGNAL_CONTROL.SUPERSEDED) (by decide)
  rw [hperm.length_eq] at hsum
  exact ⟨by omega, Only.drawn (hdecode.trans (Only.recordBump _ _ (by decide))).withDrawn honly⟩

theorem execSignalEngineWrite_none {s : State} {pipe : Fin 64} (others : List (Fin 64))
    (h : s.handoffs.find? (fun x => x.pipe == pipe.val) = none) : exec (.signalEngineWrite pipe others) s = .next s := by
  have htake : s.takeHandoff pipe = (s, none) := by unfold State.takeHandoff; rw [h]
  change execSignalEngineWrite pipe others s = _
  unfold execSignalEngineWrite
  rw [htake]

/-- The other pipelines of a command, in their order. -/
def otherPipes (pipe : Fin 64) (others : List (Fin 64)) : List Nat := ((others.map (·.val)).eraseDups).filter (· != pipe.val)

theorem execSignalEngineWrite_stores {s : State} {pipe : Fin 64} {h : Handoff} (others : List (Fin 64))
    (hf : s.handoffs.find? (fun x => x.pipe == pipe.val) = some h) :
    exec (.signalEngineWrite pipe others) s
      = .next ((({ s with handoffs := s.handoffs.erase h } : State).takeHandoffs (otherPipes pipe others)).1.storeHandoffs
          (h :: (({ s with handoffs := s.handoffs.erase h } : State).takeHandoffs (otherPipes pipe others)).2)).deliverDue := by
  have htake : s.takeHandoff pipe = ({ s with handoffs := s.handoffs.erase h }, some h) := by unfold State.takeHandoff; rw [hf]
  change execSignalEngineWrite pipe others s = _
  unfold execSignalEngineWrite
  rw [htake]
  rfl

theorem State.takeHandoffs_state (l : List Nat) (s : State) : ∃ hs, (s.takeHandoffs l).1 = { s with handoffs := hs } := by
  induction l generalizing s with
  | nil => exact ⟨s.handoffs, rfl⟩
  | cons p t ih =>
    obtain ⟨one, hone⟩ : ∃ hs, (s.takeHandoff p).1 = { s with handoffs := hs } := by
      unfold State.takeHandoff
      split
      · exact ⟨s.handoffs, rfl⟩
      · exact ⟨_, rfl⟩
    obtain ⟨rest, hrest⟩ := ih (s.takeHandoff p).1
    exact ⟨rest, hrest.trans (by rw [hone])⟩

/-- The handoffs taken are gone; beside them only slots and counts change. -/
theorem State.storeHandoffs_done {s t : State} (left hs : List Handoff)
    (ht : t = (({ s with handoffs := left } : State).storeHandoffs hs).deliverDue) :
    t.handoffs = left
      ∧ t.recordSum % 2 ^ 64 = ((({ s with handoffs := left } : State).decodeHandoffs hs).1.recordSum
          + (({ s with handoffs := left } : State).decodeHandoffs hs).2.length) % 2 ^ 64
      ∧ Only engineCounts imageTabs { s with handoffs := t.handoffs, freeCtr := t.freeCtr } t := by
  obtain ⟨hsum, honly⟩ := ({ s with handoffs := left } : State).storeHandoffs_counted hs
  have hend := Only.deliverDue (R := []) (T := []) (({ s with handoffs := left } : State).storeHandoffs hs)
  rw [← ht] at hend
  have hall := Only.drawn honly (hend.mono (R' := engineCounts) (T' := imageTabs) (by simp) (by simp)).withDrawn
  have hleft : t.handoffs = left := hall.handoffs
  refine ⟨hleft, by rw [hend.recordSum, hsum], ?_⟩
  rw [hleft]
  exact hall

end Sys2Proof.Machine
end

section
/-!
SUPPORT. Staleness, losses and snapshots of the signal image (R360, R362, R380).
-/
namespace Sys2Proof.Machine

/-! ### Listed elements -/

/-- A listed key reads as its entry says. -/
theorem SMap.get_of_mem {α : Type} {d : Nat → α} {m : SMap α} (h : m.Pairwise (fun a b => a.1 < b.1)) {e : Nat × α} (he : e ∈ m) :
    m.get d e.1 = e.2 := by
  induction m with
  | nil => cases he
  | cons a m ih =>
    obtain ⟨hlt, hrest⟩ := List.pairwise_cons.mp h
    obtain rfl | he := List.mem_cons.mp he
    · rw [SMap.get, if_pos rfl]
    · rw [SMap.get, if_neg (Nat.ne_of_gt (hlt e he)), ih hrest he]

theorem State.tab_of_mem_tabList {s : State} (h : s.wf = true) {t : Nat} {e : Nat × Nat} (he : e ∈ s.tabList t) : s.tab t e.1 = e.2 := by
  simp only [State.wf, Bool.and_eq_true] at h
  obtain ⟨⟨-, htabs⟩, -⟩ := h
  obtain ⟨x, hx, rfl⟩ := List.mem_map.mp he
  obtain ⟨hmem, hrange⟩ := List.mem_filter.mp hx
  simp only [Bool.and_eq_true, decide_eq_true_eq] at hrange
  have hkey : tabKey t (x.1 - tabKey t 0) = x.1 := by
    have hbase : tabKey t (x.1 - tabKey t 0) = tabKey t 0 + (x.1 - tabKey t 0) := by simp only [tabKey, Nat.add_zero]
    omega
  unfold State.tab
  dsimp only
  rw [hkey]
  exact SMap.get_of_mem (SMap.rising htabs) hmem

/-! ### Staleness (R362) -/

/-- STALE of slot `n` set, counted and flagged, where the slot is stale by `a`, its ATTR. -/
def State.markStale (s : State) (n a : Nat) : State :=
  if s.staleNow n a then
    ((s.setSlot n (setLe (s.slot n) 27 1 (setBit (slotFlags (s.slot n)) 2 true))).bump
      Reg.SIGNAL_CONTROL.STALE_TRANSITIONS 64).event Reg.SIGNAL_CONTROL.EVENTS 1 0x1A00
  else s

/-- What staleness is judged by. -/
def State.staleView (s : State) (n : Nat) : Nat × Clock × Nat := (s.slot n, s.clock, s.tab Tab.slotWritten n)

theorem State.staleNow_view {s u : State} {n : Nat} (a : Nat) (h : u.staleView n = s.staleView n) : u.staleNow n a = s.staleNow n a := by
  simp only [State.staleView, Prod.mk.injEq] at h
  obtain ⟨hslot, hclock, hwritten⟩ := h
  unfold State.staleNow
  rw [hslot, hclock, hwritten]

theorem State.slot_event (s : State) (k i n : Nat) {m : Nat} (hm : m < 2 ^ 40) : (s.event k i n).slot m = s.slot m :=
  State.tab_event_other _ _ _ _ (by omega) (by decide) (by decide)

theorem State.slot_markStale (s : State) {n : Nat} (a : Nat) (hn : n < 2 ^ 40) :
    (s.markStale n a).slot n = if s.staleNow n a then setLe (s.slot n) 27 1 (setBit (slotFlags (s.slot n)) 2 true) else s.slot n := by
  unfold State.markStale
  split
  · rw [State.slot_event _ _ _ _ hn]
    exact State.slot_setSlot_same _ _ _
  · rfl

theorem Only.markStale (s : State) {n : Nat} (a : Nat) (hn : n < 2 ^ 40) :
    Only [Reg.SIGNAL_CONTROL.STALE_TRANSITIONS, Reg.SIGNAL_CONTROL.EVENTS, Reg.SIGNAL_CONTROL.EVENTS + 2] [Tab.win 0x7010] s
      (s.markStale n a) := by
  unfold State.markStale
  split
  · exact ((Only.setSlot _ _ hn (by decide)).trans (Only.bump _ _ _ _ (.inl (by decide)))).trans
      (Only.event _ _ _ _ (.inl (by decide)) (.inl (by decide)))
  · exact Only.refl _

theorem State.staleView_markStale_other (s : State) {n m : Nat} (a : Nat) (hn : n < 2 ^ 40) (hm : m < 2 ^ 40) (h : n ≠ m) :
    (s.markStale n a).staleView m = s.staleView m := by
  have honly := Only.markStale s a hn
  have hslot : (s.markStale n a).slot m = s.slot m := by
    unfold State.markStale
    split
    · rw [State.slot_event _ _ _ _ hm]
      exact State.slot_setSlot_other _ _ (Ne.symm h)
    · rfl
  unfold State.staleView
  rw [hslot, honly.clock, honly.tabs _ _ hm (by decide) (by decide)]

/-- A slot that nothing lists has no staleness. -/
theorem State.listed_of_stale {s : State} {n : Nat} (hn : n < 2 ^ 24) (h : s.staleNow n (s.slotAttr n) = true) :
    n ∈ (s.tabList (Tab.win 0x7011)).map (·.1) := by
  refine State.mem_tabList_of_tab (by omega) fun hd => ?_
  have hdflt : Tab.dflt (tabKey (Tab.win 0x7011) n) = 0xF * 2 ^ 124 + 0xFFFF * 2 ^ 96 := by
    have hdiv : tabKey (Tab.win 0x7011) n / 2 ^ 40 = 0x17011 := by unfold tabKey Tab.win; omega
    unfold Tab.dflt
    dsimp only
    rw [hdiv, if_neg (by decide), if_neg (by decide), if_neg (by decide), if_neg (by decide), if_pos (by decide)]
    rfl
  have hattr : s.slotAttr n = 0xF * 2 ^ 124 + 0xFFFF * 2 ^ 96 := by
    unfold State.slotAttr State.elem
    rw [Nat.zero_mul, Nat.zero_add, hd, hdflt]
  unfold State.staleNow at h
  rw [hattr, show (attrStale (0xF * 2 ^ 124 + 0xFFFF * 2 ^ 96) != 0) = false by decide] at h
  cases h

/-- The slots of a list of attributes that are stale. -/
def State.staleSlots (s : State) (l : List (Nat × Nat)) : List Nat := (l.filter (fun e => s.staleNow e.1 e.2)).map (·.1)

theorem State.mem_staleSlots {s : State} {l : List (Nat × Nat)} {n : Nat} :
    n ∈ s.staleSlots l ↔ ∃ a, (n, a) ∈ l ∧ s.staleNow n a = true := by
  simp only [State.staleSlots, List.mem_map, List.mem_filter]
  exact ⟨fun ⟨e, he, hn⟩ => ⟨e.2, hn ▸ he⟩, fun ⟨a, ha⟩ => ⟨(n, a), ha, rfl⟩⟩

/-- Every listed slot in turn: each is judged as it stood. -/
theorem State.slot_staleAll {s : State} (l : List (Nat × Nat)) (hl : (l.map (·.1)).Nodup) (hlt : ∀ e ∈ l, e.1 < 2 ^ 40) {n : Nat}
    (hn : n < 2 ^ 40) (u : State) (hu : u.staleView n = s.staleView n) :
    (u.forAll l (fun s e => s.markStale e.1 e.2)).slot n
      = if n ∈ s.staleSlots l then setLe (s.slot n) 27 1 (setBit (slotFlags (s.slot n)) 2 true) else s.slot n := by
  have hslot : u.slot n = s.slot n := congrArg Prod.fst hu
  induction l generalizing u with
  | nil => exact hslot
  | cons e l ih =>
    obtain ⟨hout, hnodup⟩ := List.nodup_cons.mp hl
    have hlt' : ∀ x ∈ l, x.1 < 2 ^ 40 := fun x hx => hlt x (List.mem_cons_of_mem _ hx)
    have he := hlt e List.mem_cons_self
    by_cases hen : e.1 = n
    · have hrest (v : State) : ∀ x ∈ l, (v.markStale x.1 x.2).slot n = v.slot n := fun x hx =>
        congrArg Prod.fst (v.staleView_markStale_other x.2 (hlt' x hx) hn fun h => hout (List.mem_map.mpr ⟨x, hx, h.trans hen.symm⟩))
      refine (State.view_forAll (g := fun v => v.slot n) hrest _).trans ?_
      subst hen
      dsimp only
      rw [State.slot_markStale _ _ he, State.staleNow_view e.2 hu, hslot]
      refine if_congr (Iff.trans ⟨fun h => ⟨e.2, List.mem_cons_self, h⟩, fun ⟨a, ha, h⟩ => ?_⟩ State.mem_staleSlots.symm) rfl rfl
      obtain heq | hmem := List.mem_cons.mp ha
      · rwa [← heq]
      · exact absurd (List.mem_map.mpr ⟨_, hmem, rfl⟩) hout
    · have hstep := u.staleView_markStale_other e.2 he hn hen
      refine (ih hnodup hlt' (u.markStale e.1 e.2) (hstep.trans hu) ((congrArg Prod.fst hstep).trans hslot)).trans ?_
      refine if_congr (State.mem_staleSlots.trans (Iff.trans ⟨fun ⟨a, ha, h⟩ => ⟨a, List.mem_cons_of_mem _ ha, h⟩, fun ⟨a, ha, h⟩ => ?_⟩
        State.mem_staleSlots.symm)) rfl rfl
      obtain heq | hmem := List.mem_cons.mp ha
      · exact absurd (congrArg Prod.fst heq).symm hen
      · exact ⟨a, hmem, h⟩

theorem execStaleCheck_marks {s : State} (hwf : s.wf = true) (hon : s.coreOn = true) :
    ∃ t, exec .staleCheck s = .next t
      ∧ (∀ n, n < 131072 → (s.staleNow n (s.slotAttr n) = true → bit (slotFlags (t.slot n)) 2 = true)
          ∧ (s.staleNow n (s.slotAttr n) = false → t.slot n = s.slot n))
      ∧ Only [Reg.SIGNAL_CONTROL.STALE_TRANSITIONS, Reg.SIGNAL_CONTROL.EVENTS, Reg.SIGNAL_CONTROL.EVENTS + 2] [Tab.win 0x7010] s t := by
  have hexec : exec .staleCheck s = .next (s.forAll (s.tabList (Tab.win 0x7011)) (fun s e => s.markStale e.1 e.2)).deliverDue := by
    change execStaleCheck s = _
    unfold execStaleCheck
    rw [hon]
    rfl
  have hlt : ∀ e ∈ s.tabList (Tab.win 0x7011), e.1 < 2 ^ 40 := fun e he => State.mem_tabList he
  refine ⟨_, hexec, fun n hn => ?_, (Only.forAll _ _ _ fun u e he => Only.markStale u e.2 (hlt e he)).trans (Only.deliverDue _)⟩
  have hslot := State.slot_staleAll (s := s) _ (State.tabList_nodup hwf (Tab.win 0x7011)) hlt (n := n) (by omega) s rfl
  have hattr : ∀ a, (n, a) ∈ s.tabList (Tab.win 0x7011) → a = s.slotAttr n := fun a ha => by
    unfold State.slotAttr State.elem
    rw [Nat.zero_mul, Nat.zero_add]
    exact (State.tab_of_mem_tabList hwf ha).symm
  have hend : ∀ u : State, u.deliverDue.slot n = u.slot n := fun u => State.tab_deliverDue _ (by omega) (by decide)
  rw [hend, hslot]
  refine ⟨fun hstale => ?_, fun hfresh => if_neg fun hin => ?_⟩
  · obtain ⟨e, he, rfl⟩ := List.mem_map.mp (State.listed_of_stale (by omega) hstale)
    rw [if_pos (State.mem_staleSlots.mpr ⟨e.2, he, by rwa [hattr e.2 he]⟩)]
    exact slotFlags_setFlag _ _ (by decide)
  · obtain ⟨a, ha, h⟩ := State.mem_staleSlots.mp hin
    rw [hattr a ha, hfresh] at h
    cases h

/-! ### CLEAR_WRITE_LOST (R360) -/

theorem clearLostEffect_lt {s : State} {n : Nat} (lost : Bool) (h : n < 131072) : clearLostEffect n lost s = Res.done (s.clearLost n lost) :=
  if_neg (by omega)

theorem execClearWriteLost_ends {s : State} {w : SessionNo} {n : Nat} (lost : Bool) (hn : n < 131072)
    (hp : s.permits w 0x7000 0x08 n = true) : exec (.clearWriteLost w n lost) s = .next (s.clearLost n lost).deliverDue := by
  have heff := clearLostEffect_lt (s := s) lost hn
  have hsaved : savedSub 0x7000 0x08 = false := by decide
  have hn := State.hostWrite_next (eff := clearLostEffect n lost) hp (by rw [heff]; rfl)
  rw [heff, hsaved] at hn
  exact hn

/-- WRITE_LOST of slot `n` written. -/
def State.setLost (s : State) (n : Nat) (b : Bool) : State := s.setSlot n (setLe (s.slot n) 27 1 (setBit (slotFlags (s.slot n)) 0 b))

theorem State.slot_setLost (s : State) (n : Nat) (b : Bool) : bit (slotFlags ((s.setLost n b).slot n)) 0 = b := by
  unfold State.setLost
  rw [State.slot_setSlot_same]
  exact slotFlags_setFlag _ _ (by decide)

theorem State.slot_setLost_other (s : State) {n m : Nat} (b : Bool) (h : m ≠ n) : (s.setLost n b).slot m = s.slot m :=
  State.slot_setSlot_other _ _ h

theorem State.reg_setLost (s : State) (n : Nat) (b : Bool) (k : Nat) : (s.setLost n b).reg k = s.reg k := State.reg_setTab _ _ _ _ _

/-- The registers that a loss of a write writes (R360). -/
def lossRegs : List Nat := [Reg.SIGNAL_CONTROL.LAST_WRITE_LOST_SLOT, Reg.SIGNAL_CONTROL.WRITE_LOST_COUNT, Reg.SIGNAL_CONTROL.EVENTS,
  Reg.SIGNAL_CONTROL.EVENTS + 1]

/-- A loss is flagged in its slot, counted, named and raised. -/
theorem State.loseWrite_shows (s : State) {n : Nat} (hn : n < 2 ^ 40) :
    bit (slotFlags ((s.loseWrite n).slot n)) 0 = true ∧ (∀ m, m < 2 ^ 40 → m ≠ n → (s.loseWrite n).slot m = s.slot m)
      ∧ (s.loseWrite n).reg Reg.SIGNAL_CONTROL.LAST_WRITE_LOST_SLOT = n
      ∧ (s.loseWrite n).reg Reg.SIGNAL_CONTROL.WRITE_LOST_COUNT = (s.reg Reg.SIGNAL_CONTROL.WRITE_LOST_COUNT + 1) % 2 ^ 64
      ∧ bit ((s.loseWrite n).reg Reg.SIGNAL_CONTROL.EVENTS) 0 = true ∧ Only lossRegs [Tab.win 0x7010] s (s.loseWrite n) := by
  have heq : s.loseWrite n = (((s.setLost n true).bump Reg.SIGNAL_CONTROL.WRITE_LOST_COUNT 64).setReg
      Reg.SIGNAL_CONTROL.LAST_WRITE_LOST_SLOT n).event Reg.SIGNAL_CONTROL.EVENTS 0 0x1A00 := rfl
  rw [heq]
  refine ⟨?_, fun m hm hne => ?_, ?_, ?_, ?_, ?_⟩
  · rw [State.slot_event _ _ _ _ hn]
    exact s.slot_setLost n true
  · rw [State.slot_event _ _ _ _ hm]
    exact s.slot_setLost_other true hne
  · rw [State.reg_event_other _ _ _ _ _ (by decide) (by decide) (by decide), State.reg_setReg_same]
  · rw [State.reg_event_other _ _ _ _ _ (by decide) (by decide) (by decide), State.reg_setReg_other _ _ (by decide), State.reg_bump,
      if_pos rfl, State.reg_setLost]
  · rw [State.reg_event_flag _ _ _ _ (by decide), bit_setBit]
  · exact (((Only.setSlot _ _ hn (by simp)).trans (Only.bump _ _ _ _ (.inl (by decide)))).trans
      (Only.setReg _ _ _ (.inl (by decide)))).trans (Only.event _ _ _ _ (.inl (by decide)) (.inl (by decide)))

theorem State.clearLost_lost (s : State) (n : Nat) : s.clearLost n true = (s.setLost n false).loseWrite n := by
  unfold State.clearLost State.when State.setLost
  exact if_pos rfl

/-- A flag cleared without a loss of the same clock stays cleared. -/
theorem execClearWriteLost_clears {s : State} {w : SessionNo} {n : Nat} (hn : n < 131072) (hp : s.permits w 0x7000 0x08 n = true) :
    ∃ t, exec (.clearWriteLost w n false) s = .next t ∧ bit (slotFlags (t.slot n)) 0 = false
      ∧ (∀ m, m < 131072 → m ≠ n → t.slot m = s.slot m) ∧ Only [] [Tab.win 0x7010] s t := by
  have hend : ∀ m, m < 131072 → (s.clearLost n false).deliverDue.slot m = (s.setLost n false).slot m := fun m hm =>
    State.tab_deliverDue (s.setLost n false) (by omega) (by decide)
  refine ⟨_, execClearWriteLost_ends false hn hp, ?_, fun m hm hne => (hend m hm).trans (s.slot_setLost_other false hne),
    (Only.setSlot _ _ (by omega) (by simp)).trans (Only.deliverDue _)⟩
  rw [hend n hn]
  exact s.slot_setLost n false

/-- A loss of the same clock is kept (R360). -/
theorem execClearWriteLost_keeps {s : State} {w : SessionNo} {n : Nat} (hn : n < 131072) (hp : s.permits w 0x7000 0x08 n = true) :
    ∃ t, exec (.clearWriteLost w n true) s = .next t ∧ bit (slotFlags (t.slot n)) 0 = true
      ∧ t.reg Reg.SIGNAL_CONTROL.LAST_WRITE_LOST_SLOT = n
      ∧ t.reg Reg.SIGNAL_CONTROL.WRITE_LOST_COUNT = (s.reg Reg.SIGNAL_CONTROL.WRITE_LOST_COUNT + 1) % 2 ^ 64
      ∧ bit (t.reg Reg.SIGNAL_CONTROL.EVENTS) 0 = true ∧ Only lossRegs [Tab.win 0x7010] s t := by
  obtain ⟨hflag, -, hlast, hcount, hevent, honly⟩ := (s.setLost n false).loseWrite_shows (n := n) (by omega)
  have hexec := execClearWriteLost_ends true hn hp
  rw [State.clearLost_lost] at hexec
  rw [State.reg_setLost] at hcount
  refine ⟨_, hexec, ?_, ?_, ?_, ?_, ((Only.setSlot _ _ (by omega) (by simp)).trans honly).trans (Only.deliverDue _)⟩
  · exact (congrArg (fun v => bit (slotFlags v) 0) (State.tab_deliverDue _ (by omega) (by decide))).trans hflag
  · rw [State.reg_deliverDue _ (by decide), hlast]
  · rw [State.reg_deliverDue _ (by decide), hcount]
  · rw [State.reg_deliverDue _ (by decide), hevent]

/-! ### SIGNAL_SNAPSHOT (R380) -/

theorem Only.dropLatch {R : List Nat} (s : State) {w : Nat} (hw : w < 64) : Only R [Tab.signalLatched, Tab.signalLatch] s (s.dropLatch w) :=
  (Only.setTab _ _ _ _ (by omega) (.inl (by simp))).trans (Only.clearTabRange _ _ _ _ (by simp))

/-- The slots of session `w`'s range latched. -/
def State.latchSlots (s : State) (w : Nat) (l : List Nat) : State :=
  (s.forAll l (fun s n => s.setTab Tab.signalLatch (w * 2 ^ 17 + n) (s.slot n))).setTab Tab.signalLatched w 1

/-- Each slot of the range is latched as it stands. -/
theorem State.latchSlots_shows (s : State) {w : Nat} (hw : w < 64) {l : List Nat} (hl : ∀ n ∈ l, n < 2 ^ 17) :
    (s.latchSlots w l).tab Tab.signalLatched w = 1
      ∧ (∀ n ∈ l, (s.latchSlots w l).tab Tab.signalLatch (w * 2 ^ 17 + n) = s.slot n)
      ∧ Only [] [Tab.signalLatched, Tab.signalLatch] s (s.latchSlots w l) := by
  refine ⟨State.tab_setTab_same _ _ _ _, fun n hn => ?_, ?_⟩
  · refine (State.tab_setTab_table _ _ (by decide) (by omega) ?_).trans ?_
    · have := hl n hn
      omega
    · have hread : ∀ (u : State), ∀ a ∈ l, (u.setTab Tab.signalLatch (w * 2 ^ 17 + a) (u.slot a)).slot n = u.slot n := fun u a ha =>
        State.tab_setTab_table _ _ (by decide) (by have := hl a ha; omega) (by have := hl n hn; omega)
      induction l generalizing s with
      | nil => cases hn
      | cons a l ih =>
        by_cases hin : n ∈ l
        · refine (ih (s.setTab Tab.signalLatch (w * 2 ^ 17 + a) (s.slot a)) (fun b hb => hl b (List.mem_cons_of_mem _ hb)) hin
            fun u b hb => hread u b (List.mem_cons_of_mem _ hb)).trans ?_
          exact hread s a List.mem_cons_self
        · obtain rfl : n = a := (List.mem_cons.mp hn).resolve_right hin
          refine (State.view_forAll (g := fun u => u.tab Tab.signalLatch (w * 2 ^ 17 + n)) (l := l) (fun u b hb => ?_)
            (s.setTab Tab.signalLatch (w * 2 ^ 17 + n) (s.slot n))).trans (State.tab_setTab_same _ _ _ _)
          exact State.tab_setTab_index _ _ fun h => hin (by rwa [show n = b by omega])
  · refine Only.trans (Only.forAll _ _ _ fun u a ha => Only.setTab _ _ _ _ ?_ (.inl (by simp))) (Only.setTab _ _ _ _ (by omega) (.inl (by simp)))
    have := hl a ha
    omega

theorem execSignalSnapshot_latches {s : State} {w : SessionNo} (hp : s.permits w 0x7010 0x20 1 = true)
    (hr : s.rangeBase w 0x7010 + s.rangeCount w 0x7010 ≤ 131072) :
    ∃ t, exec (.signalSnapshot w) s = .next t ∧ t.tab Tab.signalLatched w = 1
      ∧ (∀ n, s.rangeBase w 0x7010 ≤ n → n < s.rangeBase w 0x7010 + s.rangeCount w 0x7010 →
          t.tab Tab.signalLatch (w * 2 ^ 17 + n) = s.slot n)
      ∧ Only [] [Tab.signalLatched, Tab.signalLatch] s t := by
  have hdrop := Only.dropLatch (R := []) s (w := w) (by omega)
  have hbase : (s.dropLatch w).rangeBase w 0x7010 = s.rangeBase w 0x7010 := hdrop.tabs _ _ (by omega) (by decide) (by decide)
  have hcount : (s.dropLatch w).rangeCount w 0x7010 = s.rangeCount w 0x7010 := hdrop.tabs _ _ (by omega) (by decide) (by decide)
  have heff : signalSnapshotEffect w 1 s = Res.done ((s.dropLatch w).latchSlots w
      ((List.range (s.rangeCount w 0x7010)).map (s.rangeBase w 0x7010 + ·))) := by
    unfold signalSnapshotEffect
    dsimp only
    rw [if_neg (by decide), hbase, hcount]
    rfl
  generalize hl : (List.range (s.rangeCount w 0x7010)).map (s.rangeBase w 0x7010 + ·) = l at heff
  have hmem : ∀ n, n ∈ l ↔ s.rangeBase w 0x7010 ≤ n ∧ n < s.rangeBase w 0x7010 + s.rangeCount w 0x7010 := fun n => by
    rw [← hl]
    simp only [List.mem_map, List.mem_range]
    exact ⟨fun ⟨a, ha, h⟩ => by omega, fun h => ⟨n - s.rangeBase w 0x7010, by omega, by omega⟩⟩
  obtain ⟨hon, hlatched, honly⟩ := (s.dropLatch w).latchSlots_shows (w := w) (by omega) (l := l) fun n hn => by
    have := (hmem n).mp hn
    omega
  have hn := State.hostWrite_next hp (eff := signalSnapshotEffect w 1) (by rw [heff]; rfl)
  rw [heff, if_neg (by decide +kernel)] at hn
  refine ⟨_, hn, (State.tab_deliverDue _ (by omega) (by decide)).trans hon, fun n hge hlt => ?_,
    (hdrop.trans honly).trans (Only.deliverDue _)⟩
  refine (State.tab_deliverDue _ (by omega) (by decide)).trans ((hlatched n ((hmem n).mpr ⟨hge, hlt⟩)).trans ?_)
  exact hdrop.slot (by omega) (by decide)

end Sys2Proof.Machine
end

section
/-!
A statement of 15_signal_image.md settled.
-/
open Sys2Proof Sys2Proof.Machine

/-- Settles O38: what is taken from the queues is decoded, stored in the order of its core clocks and counted once; the other commands
of the image each write their own slots. -/
theorem signalsServed : Obligations.SignalsServed := by
  unfold Obligations.SignalsServed
  refine ⟨fun s pipe hnone others => execSignalEngineWrite_none others hnone, fun s pipe h hfind => ⟨?_, fun other g hne hg => ?_,
    fun others => ?_⟩, fun s hwf hon => execStaleCheck_marks hwf hon,
    fun s w n hn hp => ⟨execClearWriteLost_clears hn hp, execClearWriteLost_keeps hn hp⟩, fun s w => execSignalSnapshot_latches⟩
  · obtain ⟨hleft, hsum, honly⟩ := State.storeHandoffs_done (s := s) (s.handoffs.erase h) [h] rfl
    refine ⟨_, execSignalEngineWrite_stores [] hfind, hleft, ?_, honly⟩
    rw [State.decodeHandoffs_one, List.length_append, List.length_map] at hsum
    exact hsum
  · have hpipes : otherPipes pipe [other] = [other.val] := by
      have hval : other.val ≠ pipe.val := fun h => hne (Fin.ext h)
      simp [otherPipes, List.eraseDups_cons, hval]
    have htake : ({ s with handoffs := s.handoffs.erase h } : State).takeHandoffs [other.val]
        = ({ s with handoffs := (s.handoffs.erase h).erase g }, [g]) := by
      unfold State.takeHandoffs State.takeHandoff
      dsimp only
      rw [hg]
      rfl
    obtain ⟨hleft, hsum, honly⟩ := State.storeHandoffs_done (s := s) ((s.handoffs.erase h).erase g) [h, g] rfl
    have hexec := execSignalEngineWrite_stores [other] hfind
    rw [hpipes, htake] at hexec
    refine ⟨_, hexec, hleft, ?_, honly⟩
    rw [State.decodeHandoffs_two, List.length_append, List.length_append, List.length_map, List.length_map, ← Nat.add_assoc] at hsum
    exact hsum
  · obtain ⟨left, hleft⟩ := State.takeHandoffs_state (otherPipes pipe others) { s with handoffs := s.handoffs.erase h }
    have hexec := execSignalEngineWrite_stores others hfind
    rw [hleft] at hexec
    obtain ⟨-, -, honly⟩ := State.storeHandoffs_done (s := s) left _ rfl
    exact ⟨_, hexec, honly⟩
end

section
/-!
SUPPORT. Mirror ranges (R341, R342): what is marked, the values in effect, and the one frame of a period with at most 32 marks.
-/
namespace Sys2Proof.Machine

/-! ### Marks -/

theorem State.tab_setSlot (s : State) {n t i : Nat} (v : Nat) (hn : n < 2 ^ 40) (hi : i < 2 ^ 40) (ht : t ≠ Tab.win 0x7010) :
    (s.setSlot n v).tab t i = s.tab t i := State.tab_setTab_table _ _ ht (by omega) hi

theorem Only.unmark {R T : List Nat} (s : State) (m : Nat) {n : Nat} (hn : n < 2 ^ 40) (hd : Tab.mirrorDirty ∈ T)
    (hw : Tab.win 0x7010 ∈ T) : Only R T s (s.unmark m n) := by
  unfold State.unmark
  exact (Only.setTab _ _ _ _ hn (.inl hd)).trans (Only.when _ _ _ fun _ => Only.setSlot _ _ hn hw)

/-- The mark that is cleared, and no other. -/
theorem State.mark_unmark (s : State) (m : Nat) {n k : Nat} (hn : n < 2 ^ 40) (hk : k < 2 ^ 40) :
    (s.unmark m n).tab Tab.mirrorDirty k
      = if k = n then setBit (s.tab Tab.mirrorDirty n) m false else s.tab Tab.mirrorDirty k := by
  have hslot (u : State) (c : Bool) (v : State → Nat) : (u.when c (fun s => s.setSlot n (v s))).tab Tab.mirrorDirty k
      = u.tab Tab.mirrorDirty k := by
    unfold State.when
    split
    · exact State.tab_setSlot _ _ hn hk (by decide)
    · rfl
  unfold State.unmark
  dsimp only
  rw [hslot]
  split
  next h => rw [h, State.tab_setTab_same]
  next h => rw [State.tab_setTab_index _ _ h]

theorem State.mem_dirtySlots {s : State} (h : s.wf = true) (m n : Nat) :
    n ∈ s.dirtySlots m ↔ n < 2 ^ 40 ∧ bit (s.tab Tab.mirrorDirty n) m = true := by
  unfold State.dirtySlots
  simp only [List.mem_map, List.mem_filter]
  constructor
  · rintro ⟨e, ⟨he, hbit⟩, rfl⟩
    exact ⟨State.mem_tabList he, by rw [State.tab_of_mem_tabList h he]; exact hbit⟩
  · rintro ⟨hn, hbit⟩
    have hdflt : Tab.dflt (tabKey Tab.mirrorDirty n) = 0 := by
      have hdiv : tabKey Tab.mirrorDirty n / 2 ^ 40 = Tab.mirrorDirty := by unfold tabKey; omega
      unfold Tab.dflt
      dsimp only
      rw [hdiv, if_neg (by decide), if_neg (by decide), if_neg (by decide), if_neg (by decide), if_neg (by decide)]
    have hne : s.tab Tab.mirrorDirty n ≠ Tab.dflt (tabKey Tab.mirrorDirty n) := fun h0 => by
      rw [h0, hdflt] at hbit
      simp [bit] at hbit
    obtain ⟨e, he, rfl⟩ := List.mem_map.mp (State.mem_tabList_of_tab hn hne)
    exact ⟨e, ⟨he, by rw [← State.tab_of_mem_tabList h he]; exact hbit⟩, rfl⟩

theorem State.dirtySlots_lt {s : State} {m n : Nat} (h : n ∈ s.dirtySlots m) : n < 2 ^ 40 := by
  obtain ⟨e, he, rfl⟩ := List.mem_map.mp h
  exact State.mem_tabList (List.mem_of_mem_filter he)

/-- The marks of a list cleared. -/
theorem State.bit_unmarkAll (s : State) (m : Nat) {l : List Nat} (hl : ∀ n ∈ l, n < 2 ^ 40) {k : Nat} (hk : k < 2 ^ 40) :
    bit ((s.forAll l (fun s n => s.unmark m n)).tab Tab.mirrorDirty k) m = (bit (s.tab Tab.mirrorDirty k) m && !(l.contains k)) := by
  induction l generalizing s with
  | nil => simp [State.forAll]
  | cons n l ih =>
    refine (ih (s.unmark m n) fun a ha => hl a (List.mem_cons_of_mem _ ha)).trans ?_
    rw [State.mark_unmark s m (hl n List.mem_cons_self) hk, List.contains_cons]
    by_cases h : k = n
    · rw [if_pos h, bit_setBit, h, beq_self_eq_true, Bool.true_or, Bool.not_true, Bool.and_false, Bool.false_and]
    · rw [if_neg h, beq_eq_false_iff_ne.mpr h, Bool.false_or]

theorem Only.unmarkAll {R T : List Nat} (s : State) (m : Nat) {l : List Nat} (hl : ∀ n ∈ l, n < 2 ^ 40) (hd : Tab.mirrorDirty ∈ T)
    (hw : Tab.win 0x7010 ∈ T) : Only R T s (s.forAll l (fun s n => s.unmark m n)) :=
  Only.forAll _ _ _ fun u n hn => Only.unmark u m (hl n hn) hd hw

/-! ### Values in effect -/

/-- The sub-indices whose values a period takes over. -/
def mirrorSubs : List Nat := [0x01, 0x02, 0x03, 0x04, 0x05, 0x06, 0x07, 0x08, 0x0A, 0x0B, 0x0C]

/-- The values written to range `m` taken over. -/
def State.takeMirror (s : State) (m : Nat) : State :=
  s.forAll mirrorSubs (fun s sub => s.setTab Tab.mirrorRange (16 * m + sub) (s.reg (regKey (0x6E10 + m) sub) + 1))

theorem State.adoptMirror_eq (s : State) (m : Nat) : s.adoptMirror m
    = (s.takeMirror m).forAll (((s.takeMirror m).dirtySlots m).filter (fun n => (s.takeMirror m).mirrorValue m 0x01 == 0
        || !(s.takeMirror m).inMirror m n)) (fun s n => s.unmark m n) := rfl

theorem mirrorSubs_lt {sub : Nat} (h : sub ∈ mirrorSubs) : sub < 16 := by
  simp only [mirrorSubs, List.mem_cons, List.not_mem_nil, or_false] at h
  omega

theorem Only.takeMirror {R T : List Nat} (s : State) {m : Nat} (hm : m < 16) (ht : Tab.mirrorRange ∈ T) :
    Only R T s (s.takeMirror m) :=
  Only.forAll _ _ _ fun u sub hs => Only.setTab _ _ _ _ (by have := mirrorSubs_lt hs; omega) (.inl ht)

theorem State.mirrorValue_takeMirror (s : State) (m : Nat) {sub : Nat} (h : sub ∈ mirrorSubs) :
    (s.takeMirror m).mirrorValue m sub = s.reg (regKey (0x6E10 + m) sub) := by
  have hview := State.view_forAll_once (g := fun u : State => (u.tab Tab.mirrorRange (16 * m + sub), u.regs))
    (x := (s.tab Tab.mirrorRange (16 * m + sub), s.regs)) (y := (s.reg (regKey (0x6E10 + m) sub) + 1, s.regs))
    (f := fun s sub => s.setTab Tab.mirrorRange (16 * m + sub) (s.reg (regKey (0x6E10 + m) sub) + 1)) (s := s) h (by decide)
    (fun u b _ hne => Prod.ext (State.tab_setTab_index _ _ (by omega)) rfl)
    (fun u hu => by
      have hregs : u.regs = s.regs := congrArg Prod.snd hu
      refine Prod.ext ((State.tab_setTab_same _ _ _ _).trans ?_) hregs
      unfold State.reg
      rw [hregs]) rfl
  have htab : (s.takeMirror m).tab Tab.mirrorRange (16 * m + sub) = s.reg (regKey (0x6E10 + m) sub) + 1 := congrArg Prod.fst hview
  unfold State.mirrorValue
  rw [htab]

/-- What leaves the values in effect leaves each of them. -/
theorem Only.mirrorValue {R T : List Nat} {s t : State} (h : Only R T s t) {m sub : Nat} (hm : m < 16) (hs : sub < 16)
    (ht : Tab.mirrorRange ∉ T) : t.mirrorValue m sub = s.mirrorValue m sub := by
  unfold State.mirrorValue
  rw [h.tabs _ _ (by omega) ht (by decide)]

theorem Only.adoptMirror {R : List Nat} (s : State) {m : Nat} (hm : m < 16) :
    Only R [Tab.mirrorRange, Tab.mirrorDirty, Tab.win 0x7010] s (s.adoptMirror m) := by
  rw [State.adoptMirror_eq]
  exact (Only.takeMirror s hm (by simp)).trans
    (Only.unmarkAll _ m (fun n hn => State.dirtySlots_lt (List.mem_of_mem_filter hn)) (by simp) (by simp))

theorem State.mirrorValue_adoptMirror (s : State) {m sub : Nat} (hm : m < 16) (h : sub ∈ mirrorSubs) :
    (s.adoptMirror m).mirrorValue m sub = s.reg (regKey (0x6E10 + m) sub) := by
  rw [State.adoptMirror_eq, (Only.unmarkAll (R := []) (T := [Tab.mirrorDirty, Tab.win 0x7010]) (s.takeMirror m) m
    (fun n hn => State.dirtySlots_lt (List.mem_of_mem_filter hn)) (by simp) (by simp)).mirrorValue hm (mirrorSubs_lt h) (by decide)]
  exact s.mirrorValue_takeMirror m h

/-! ### A frame of a mirror range -/

theorem length_usfHeader (ver flags producer seq count cycle : Nat) (tail : Bytes) :
    (usfHeader ver flags producer seq count cycle tail).length = 12 + tail.length := by
  simp only [usfHeader, List.length_append, List.length_cons, List.length_nil, length_toBE]

theorem length_fullRecord (v wire : Nat) : (fullRecord v wire).length = 32 := by
  simp only [fullRecord, List.length_append, List.length_cons, List.length_nil, length_toBE]

theorem State.length_mirrorFrame (s : State) (m : Nat) (l : List Nat) : (s.mirrorFrame m l).length = max 60 (30 + 32 * l.length) := by
  have hrecords : (l.flatMap (fun n => fullRecord (s.slot n) n)).length = 32 * l.length := by
    induction l with
    | nil => rfl
    | cons n l ih => rw [List.flatMap_cons, List.length_append, ih, length_fullRecord, List.length_cons]; omega
  simp only [State.mirrorFrame, List.length_append, List.length_replicate, length_toBE, length_usfHeader, hrecords, List.length_cons,
    List.length_nil]
  omega

/-! ### A period -/

/-- The frame that range `m` sends of the slots `l`, for its port, queue and reservation. -/
def State.mirrorBuilt (s : State) (m : Nat) (l : List Nat) : Built :=
  ⟨s.mirrorValue m 0x0A, s.mirrorValue m 0x06, 2, m, s.mirrorFrame m l,
    some ⟨s.mirrorValue m 0x04, s.mirrorValue m 0x05, s.mirrorValue m 0x07⟩⟩

/-- The state after that frame is built: marks cleared, and the sequence number advanced. -/
def State.mirrorSent (s : State) (m : Nat) (l : List Nat) : State :=
  { (s.forAll l (fun s k => s.unmark m k)).setTab Tab.mirrorSeq m ((s.tab Tab.mirrorSeq m + 1) % 65536) with
    built := s.built ++ [s.mirrorBuilt m l] }

/-- The frames of a period, one after another. -/
theorem State.mirrorBuild_succ (s : State) {m : Nat} (hm : m < 16) (n : Nat) : s.mirrorBuild m (n + 1)
    = if s.dirtySlots m = [] then s
      else if s.injectFull (s.mirrorValue m 0x0A) then s.bump (Reg.MIRROR_RANGE.OVERRUNS m) 64
      else (s.mirrorSent m ((s.dirtySlots m).take 32)).mirrorBuild m n := by
  have honly : Only [] [Tab.mirrorDirty, Tab.win 0x7010, Tab.mirrorSeq] s ((s.forAll ((s.dirtySlots m).take 32) (fun s k => s.unmark m k)).setTab
      Tab.mirrorSeq m ((s.tab Tab.mirrorSeq m + 1) % 65536)) :=
    (Only.unmarkAll s m (fun n hn => State.dirtySlots_lt (List.mem_of_mem_take hn)) (by simp) (by simp)).trans
      (Only.setTab _ _ _ _ (by omega) (.inl (by simp)))
  rw [State.mirrorBuild]
  split
  next h => rw [if_pos ((List.take_eq_nil_iff.mp h).resolve_left (by decide))]
  next h =>
    have hne : s.dirtySlots m ≠ [] := fun hnil => h (by rw [hnil]; rfl)
    rw [if_neg hne]
    unfold State.mirrorSent State.mirrorBuilt
    dsimp only
    rw [honly.mirrorValue hm (by decide) (by decide), honly.mirrorValue hm (by decide) (by decide),
      honly.mirrorValue hm (by decide) (by decide), honly.mirrorValue hm (by decide) (by decide),
      honly.mirrorValue hm (by decide) (by decide), honly.built]

/-- A period without marks builds nothing. -/
theorem State.mirrorBuild_clean {s : State} {m : Nat} (hm : m < 16) (h : s.dirtySlots m = []) (n : Nat) : s.mirrorBuild m n = s := by
  cases n with
  | zero => unfold State.mirrorBuild; rw [h]; rfl
  | succ n => rw [State.mirrorBuild_succ s hm, if_pos h]

/-- At most 32 marks with room: one frame, and what follows it. -/
theorem State.mirrorBuild_frame {s : State} {m : Nat} (n : Nat) (hm : m < 16) (hne : s.dirtySlots m ≠ [])
    (hle : (s.dirtySlots m).length ≤ 32) (hroom : s.injectFull (s.mirrorValue m 0x0A) = false) :
    s.mirrorBuild m (n + 1) = (s.mirrorSent m (s.dirtySlots m)).mirrorBuild m n := by
  rw [State.mirrorBuild_succ s hm, if_neg hne, hroom, if_neg (by decide), List.take_of_length_le hle]

/-- A frame between states that wait with the same built frames. -/
theorem Only.withBuilt {R T : List Nat} {s t : State} (h : Only R T s t) (l : List Built) :
    Only R T { s with built := l } { t with built := l } :=
  { h with regs := h.regs, tabs := h.tabs, built := rfl }

theorem Only.mirrorSent {R : List Nat} (s : State) {m : Nat} (hm : m < 16) {l : List Nat} (hl : ∀ n ∈ l, n < 2 ^ 40) :
    Only R [Tab.mirrorRange, Tab.mirrorDirty, Tab.mirrorSeq, Tab.win 0x7010] { s with built := (s.mirrorSent m l).built } (s.mirrorSent m l) := by
  have honly : Only R [Tab.mirrorRange, Tab.mirrorDirty, Tab.mirrorSeq, Tab.win 0x7010] s ((s.forAll l (fun s k => s.unmark m k)).setTab
      Tab.mirrorSeq m ((s.tab Tab.mirrorSeq m + 1) % 65536)) :=
    (Only.unmarkAll s m hl (by simp) (by simp)).trans (Only.setTab _ _ _ _ (by omega) (.inl (by simp)))
  exact { honly with regs := honly.regs, tabs := honly.tabs, built := rfl }

theorem State.mirrorValue_mirrorBuild (n : Nat) (s : State) {m sub : Nat} (hm : m < 16) (hs : sub < 16) :
    (s.mirrorBuild m n).mirrorValue m sub = s.mirrorValue m sub := by
  induction n generalizing s with
  | zero =>
    unfold State.mirrorBuild
    split <;> rfl
  | succ n ih =>
    rw [State.mirrorBuild_succ s hm]
    split
    · rfl
    · split
      · rfl
      · have honly : Only [] [Tab.mirrorDirty, Tab.win 0x7010] s (s.forAll ((s.dirtySlots m).take 32) (fun s k => s.unmark m k)) :=
          Only.unmarkAll s m (fun n hn => State.dirtySlots_lt (List.mem_of_mem_take hn)) (by simp) (by simp)
        have hset (u : State) (v : Nat) : (u.setTab Tab.mirrorSeq m v).mirrorValue m sub = u.mirrorValue m sub :=
          (Only.setTab (R := []) (T := [Tab.mirrorSeq]) u _ _ _ (by omega) (.inl (by simp))).mirrorValue hm hs (by decide)
        exact (ih _).trans ((hset _ _).trans (honly.mirrorValue hm hs (by decide)))

/-! ### MIRROR_PERIOD -/

theorem execMirrorPeriod_builds {s : State} {m : Fin 16} (hon : s.coreOn = true) :
    exec (.mirrorPeriod m) s = .next ((s.adoptMirror m).when ((s.adoptMirror m).mirrorValue m 0x01 == 1)
      (fun s => s.mirrorBuild m (s.mirrorValue m 0x0C))).deliverDue := by
  change execMirrorPeriod m s = _
  unfold execMirrorPeriod
  rw [hon, if_neg (by decide)]
  rfl

theorem execMirrorPeriod_takes {s : State} {m : Fin 16} (hon : s.coreOn = true) :
    ∃ t, exec (.mirrorPeriod m) s = .next t
      ∧ ∀ sub ∈ [0x01, 0x02, 0x03, 0x04, 0x05, 0x06, 0x07, 0x08, 0x0A, 0x0B, 0x0C], t.mirrorValue m sub = s.reg (regKey (0x6E10 + m) sub) := by
  refine ⟨_, execMirrorPeriod_builds hon, fun sub hsub => ?_⟩
  have hlt : sub < 16 := mirrorSubs_lt hsub
  have hend := (Only.deliverDue (R := []) (T := []) ((s.adoptMirror m).when ((s.adoptMirror m).mirrorValue m 0x01 == 1)
    (fun s => s.mirrorBuild m (s.mirrorValue m 0x0C)))).mirrorValue m.isLt hlt (by decide)
  rw [hend]
  unfold State.when
  split
  · rw [State.mirrorValue_mirrorBuild _ _ m.isLt hlt, State.mirrorValue_adoptMirror s m.isLt hsub]
  · exact State.mirrorValue_adoptMirror s m.isLt hsub

/-- A range that is not enabled, or has no mark, sends nothing. -/
theorem execMirrorPeriod_silent {s : State} {m : Fin 16} (hon : s.coreOn = true)
    (h : s.reg (Reg.MIRROR_RANGE.ENABLE m) ≠ 1 ∨ (s.adoptMirror m).dirtySlots m = []) :
    ∃ t, exec (.mirrorPeriod m) s = .next t ∧ Only [] [Tab.mirrorRange, Tab.mirrorDirty, Tab.win 0x7010] s t := by
  have hexec := execMirrorPeriod_builds (m := m) hon
  have hnone : (s.adoptMirror m).when ((s.adoptMirror m).mirrorValue m 0x01 == 1) (fun s => s.mirrorBuild m (s.mirrorValue m 0x0C))
      = s.adoptMirror m := by
    unfold State.when
    split
    next hon' =>
      have hen : s.reg (Reg.MIRROR_RANGE.ENABLE m) = 1 :=
        (State.mirrorValue_adoptMirror s m.isLt (by decide)).symm.trans (beq_iff_eq.mp hon')
      exact State.mirrorBuild_clean m.isLt (h.resolve_left fun hne => hne hen) _
    · rfl
  rw [hnone] at hexec
  exact ⟨_, hexec, (Only.adoptMirror s m.isLt).trans (Only.deliverDue _)⟩

/-- A range with at most 32 marks and room sends them in one frame, and has none left. -/
theorem execMirrorPeriod_sends {s : State} {m : Fin 16} (hon : s.coreOn = true) (hwf : s.wf = true)
    (hen : s.reg (Reg.MIRROR_RANGE.ENABLE m) = 1) (hne : (s.adoptMirror m).dirtySlots m ≠ [])
    (hle : ((s.adoptMirror m).dirtySlots m).length ≤ 32) (hmax : s.reg (Reg.MIRROR_RANGE.FRAMES_MAX m) ≠ 0)
    (hroom : s.injectFull (s.reg (Reg.MIRROR_RANGE.INJECT_PORT m)) = false) :
    ∃ t, exec (.mirrorPeriod m) s = .next t
      ∧ t.built = s.built ++ [(s.adoptMirror m).mirrorBuilt m ((s.adoptMirror m).dirtySlots m)]
      ∧ t.dirtySlots m = [] ∧ t.tab Tab.mirrorSeq m = (s.tab Tab.mirrorSeq m + 1) % 65536
      ∧ Only [] [Tab.mirrorRange, Tab.mirrorDirty, Tab.mirrorSeq, Tab.win 0x7010] { s with built := t.built } t := by
  have hexec := execMirrorPeriod_builds (m := m) hon
  have hadopt := Only.adoptMirror (R := []) s m.isLt
  have hvalue {sub : Nat} (h : sub ∈ mirrorSubs) := State.mirrorValue_adoptMirror s m.isLt h
  have hwfu : (s.adoptMirror m).wf = true := (State.adoptMirror_ev s m (Ev.refl s)).wf hwf
  generalize s.adoptMirror m = u at *
  obtain ⟨frames, hframes⟩ := Nat.exists_eq_succ_of_ne_zero hmax
  have hmarks : ∀ n ∈ u.dirtySlots m, n < 2 ^ 40 := fun n hn => State.dirtySlots_lt hn
  have hsent := Only.mirrorSent (R := []) u m.isLt hmarks
  have hlen : (u.mirrorValue m 0x0C) = frames + 1 := (hvalue (by decide)).trans hframes
  have hfull : u.injectFull (u.mirrorValue m 0x0A) = false := by
    rw [hvalue (by decide)]
    unfold State.injectFull
    rw [hadopt.built]
    exact hroom
  have hclean : ∀ v : State, v.wf = true → (∀ n, n < 2 ^ 40 → v.tab Tab.mirrorDirty n = (u.mirrorSent m (u.dirtySlots m)).tab
      Tab.mirrorDirty n) → v.dirtySlots m = [] := fun v hv hsame => by
    refine List.eq_nil_iff_forall_not_mem.mpr fun n hn => ?_
    obtain ⟨hlt, hbit⟩ := (State.mem_dirtySlots hv m n).mp hn
    have hkept : (u.mirrorSent m (u.dirtySlots m)).tab Tab.mirrorDirty n
        = (u.forAll (u.dirtySlots m) (fun s k => s.unmark m k)).tab Tab.mirrorDirty n :=
      State.tab_setTab_table _ _ (by decide) (by omega) hlt
    rw [hsame n hlt, hkept, State.bit_unmarkAll u m hmarks hlt, Bool.and_eq_true, Bool.not_eq_true'] at hbit
    obtain ⟨hwas, hout⟩ := hbit
    exact absurd (List.contains_iff_mem.mpr ((State.mem_dirtySlots hwfu m n).mpr ⟨hlt, hwas⟩)) (by rw [hout]; decide)
  have hwfs : (u.mirrorSent m (u.dirtySlots m)).wf = true :=
    (State.setTab_ev (State.forAll_ev (Ev.refl u) fun v n hv => State.unmark_ev v m n hv)).wf hwfu
  have hbuild : u.when (u.mirrorValue m 0x01 == 1) (fun s => s.mirrorBuild m (s.mirrorValue m 0x0C)) = u.mirrorSent m (u.dirtySlots m) := by
    unfold State.when
    rw [hvalue (by decide), if_pos (beq_iff_eq.mpr hen)]
    dsimp only
    rw [hlen, State.mirrorBuild_frame frames m.isLt hne hle hfull,
      State.mirrorBuild_clean m.isLt (hclean _ hwfs fun n _ => rfl)]
  rw [hbuild] at hexec
  have hend := Only.deliverDue (R := []) (T := [Tab.mirrorRange, Tab.mirrorDirty, Tab.mirrorSeq, Tab.win 0x7010])
    (u.mirrorSent m (u.dirtySlots m))
  have hbuilt : (u.mirrorSent m (u.dirtySlots m)).deliverDue.built = s.built ++ [u.mirrorBuilt m (u.dirtySlots m)] := by
    rw [hend.built, ← hadopt.built]
    rfl
  refine ⟨_, hexec, hbuilt, hclean _ (((exec_ev (Ev.refl s) (.mirrorPeriod m)).out _ hexec).wf hwf) fun n hn =>
    State.tab_deliverDue _ hn (by decide), ?_, ?_⟩
  · rw [State.tab_deliverDue _ (by omega) (by decide), ← hadopt.tabs Tab.mirrorSeq m (by omega) (by decide) (by decide)]
    exact State.tab_setTab_same _ _ _ _
  · have hfirst : Only [] [Tab.mirrorRange, Tab.mirrorDirty, Tab.mirrorSeq, Tab.win 0x7010] s u := hadopt.mono (by simp) (by simp)
    have hall := ((hfirst.withBuilt _).trans hsent).trans hend
    rw [hend.built]
    exact hall

end Sys2Proof.Machine
end

section
/-!
SUPPORT. Dovetail pairs (R336, R339, R340): the partner's state, the active half, and the reset of a stream's history.
-/
namespace Sys2Proof.Machine

/-! ### The role in effect -/

/-- What the role in effect is read from. -/
theorem State.secondary_congr {s t : State} (hpower : t.reg Reg.POWER_STATE.STATE = s.reg Reg.POWER_STATE.STATE)
    (hrole : t.reg Reg.DOVETAIL.ROLE = s.reg Reg.DOVETAIL.ROLE) (hkept : t.tab Tab.sticky 10 = s.tab Tab.sticky 10) :
    t.secondary = s.secondary := by
  unfold State.secondary State.coreOn
  rw [hpower, hrole, hkept]

/-- The registers that the partner's state writes. -/
def partnerRegs : List Nat := [Reg.DOVETAIL.PARTNER_STATE, Reg.DOVETAIL.ACTIVE, Reg.DOVETAIL.EVENTS, Reg.DOVETAIL.EVENTS + 1]

/-! ### PARTNER_STATE takes a value -/

/-- PARTNER_STATE has taken another value: what follows it. -/
def State.partnerTaken (s : State) (v : Nat) : State :=
  (((s.setReg Reg.DOVETAIL.PARTNER_STATE v).when (v != 2) (·.setTab Tab.sticky 7 0)).when (v == 2 && s.secondary)
    (·.setReg Reg.DOVETAIL.ACTIVE 1)).event Reg.DOVETAIL.EVENTS 0 0x1301

theorem State.setPartner_eq (s : State) (v : Nat) :
    s.setPartner v = if s.reg Reg.DOVETAIL.PARTNER_STATE = v then s else s.partnerTaken v := by
  have hsec : ((s.setReg Reg.DOVETAIL.PARTNER_STATE v).when (v != 2) (·.setTab Tab.sticky 7 0)).secondary = s.secondary := by
    unfold State.when
    split
    · exact State.secondary_congr (State.reg_setReg_other _ _ (by decide)) (State.reg_setReg_other _ _ (by decide))
        (State.tab_setTab_index _ _ (by decide))
    · exact State.secondary_congr (State.reg_setReg_other _ _ (by decide)) (State.reg_setReg_other _ _ (by decide)) rfl
  unfold State.setPartner State.partnerTaken
  dsimp only
  rw [hsec]

theorem State.partnerTaken_partner (s : State) (v : Nat) : (s.partnerTaken v).reg Reg.DOVETAIL.PARTNER_STATE = v := by
  unfold State.partnerTaken State.when
  rw [State.reg_event_other _ _ _ _ _ (by decide) (by decide) (by decide)]
  split <;> split <;> simp +decide [State.reg_setReg]

theorem State.partnerTaken_active (s : State) (v : Nat) :
    (s.partnerTaken v).reg Reg.DOVETAIL.ACTIVE = if v = 2 ∧ s.secondary = true then 1 else s.reg Reg.DOVETAIL.ACTIVE := by
  unfold State.partnerTaken State.when
  rw [State.reg_event_other _ _ _ _ _ (by decide) (by decide) (by decide)]
  simp only [Bool.and_eq_true, beq_iff_eq]
  split <;> split <;> simp +decide [State.reg_setReg]

theorem State.partnerTaken_sticky (s : State) (v : Nat) {i : Nat} (hi : i < 64) (h : i ≠ 7) :
    (s.partnerTaken v).tab Tab.sticky i = s.tab Tab.sticky i := by
  unfold State.partnerTaken
  rw [State.tab_event_other _ _ _ _ (by omega) (by decide) (by decide)]
  unfold State.when
  split <;> split <;> simp [State.tab_setTab_index _ _ h]

theorem Only.partnerTaken {R : List Nat} (s : State) (v : Nat) (hp : Reg.DOVETAIL.PARTNER_STATE ∈ R)
    (ha : v = 2 → Reg.DOVETAIL.ACTIVE ∈ R) (he : Reg.DOVETAIL.EVENTS ∈ R) (hc : Reg.DOVETAIL.EVENTS + 1 ∈ R) :
    Only R [Tab.sticky] s (s.partnerTaken v) := by
  have hactive (u : State) : Only R [Tab.sticky] u (u.when (v == 2 && s.secondary) (·.setReg Reg.DOVETAIL.ACTIVE 1)) := by
    unfold State.when
    split
    next h =>
      simp only [Bool.and_eq_true, beq_iff_eq] at h
      exact Only.setReg _ _ _ (.inl (ha h.1))
    · exact Only.refl _
  exact (((Only.setReg _ _ _ (.inl hp)).trans (Only.when _ _ _ fun _ => Only.setTab _ _ _ _ (by decide) (.inl (by simp)))).trans
    (hactive _)).trans (Only.event _ _ _ _ (.inl he) (.inl hc))

theorem State.setPartner_partner (s : State) (v : Nat) : (s.setPartner v).reg Reg.DOVETAIL.PARTNER_STATE = v := by
  rw [State.setPartner_eq]
  split
  · assumption
  · exact s.partnerTaken_partner v

theorem State.setPartner_active (s : State) (v : Nat) : (s.setPartner v).reg Reg.DOVETAIL.ACTIVE
    = if v = 2 ∧ s.reg Reg.DOVETAIL.PARTNER_STATE ≠ 2 ∧ s.secondary = true then 1 else s.reg Reg.DOVETAIL.ACTIVE := by
  rw [State.setPartner_eq]
  split
  next h => rw [if_neg fun hc => hc.2.1 (h.trans hc.1)]
  next h =>
    rw [State.partnerTaken_active]
    exact if_congr ⟨fun ⟨h2, hs⟩ => ⟨h2, h2 ▸ h, hs⟩, fun ⟨h2, _, hs⟩ => ⟨h2, hs⟩⟩ rfl rfl

theorem State.setPartner_sticky (s : State) (v : Nat) {i : Nat} (hi : i < 64) (h : i ≠ 7) :
    (s.setPartner v).tab Tab.sticky i = s.tab Tab.sticky i := by
  rw [State.setPartner_eq]
  split
  · rfl
  · exact s.partnerTaken_sticky v hi h

theorem Only.setPartner {R : List Nat} (s : State) (v : Nat) (hp : Reg.DOVETAIL.PARTNER_STATE ∈ R)
    (ha : v = 2 → Reg.DOVETAIL.ACTIVE ∈ R) (he : Reg.DOVETAIL.EVENTS ∈ R) (hc : Reg.DOVETAIL.EVENTS + 1 ∈ R) :
    Only R [Tab.sticky] s (s.setPartner v) := by
  rw [State.setPartner_eq]
  split
  · exact Only.refl _
  · exact Only.partnerTaken s v hp ha he hc

/-! ### The level of PEER_HEALTHY_N -/

/-- The level's value in the sticky table. -/
def levelMark : SenseLevel → Nat
  | .low => 1
  | .high => 0

/-- The debounced level taken, the first evaluation's wait following it. -/
def State.peerLevel (s : State) (level : SenseLevel) : State := (s.setTab Tab.sticky 5 (levelMark level)).peerWait

theorem execPeerHealthyChange_eq (s : State) (level : SenseLevel) :
    exec (.peerHealthyChange level) s = .next (s.peerLevel level).refreshPartner.deliverDue := by
  cases level <;> rfl

theorem State.peerLevel_sticky (s : State) (level : SenseLevel) {i : Nat} (h5 : i ≠ 5) (h7 : i ≠ 7) :
    (s.peerLevel level).tab Tab.sticky i = s.tab Tab.sticky i := by
  unfold State.peerLevel State.peerWait State.when
  split
  · rw [State.tab_setTab_index _ _ h7, State.tab_setTab_index _ _ h5]
  · rw [State.tab_setTab_index _ _ h5]

theorem State.peerLevel_low (s : State) (level : SenseLevel) : (s.peerLevel level).tab Tab.sticky 5 = levelMark level := by
  unfold State.peerLevel State.peerWait State.when
  split
  · rw [State.tab_setTab_index _ _ (by decide), State.tab_setTab_same]
  · rw [State.tab_setTab_same]

theorem State.peerLevel_regs (s : State) (level : SenseLevel) : (s.peerLevel level).regs = s.regs := by
  unfold State.peerLevel State.peerWait State.when
  split <;> rfl

theorem Only.peerLevel {R : List Nat} (s : State) (level : SenseLevel) : Only R [Tab.sticky] s (s.peerLevel level) :=
  (Only.setTab _ _ _ _ (by decide) (.inl (by simp))).trans (Only.when _ _ _ fun _ => Only.setTab _ _ _ _ (by decide) (.inl (by simp)))

theorem State.partnerLink_congr {s t : State} (h : t.regs = s.regs) : t.partnerLink = s.partnerLink := by
  unfold State.partnerLink State.portKind State.reg
  simp only [h]

theorem levelMark_low (level : SenseLevel) : levelMark level = 1 ↔ level = .low := by cases level <;> simp [levelMark]

/-- What an evaluation makes of PARTNER_STATE. -/
def State.partnerNext (s : State) : Nat :=
  if s.tab Tab.sticky 6 = 0 then s.reg Reg.DOVETAIL.PARTNER_STATE
  else if s.peerLow = false then 2 else if s.partnerLink then 0 else s.reg Reg.DOVETAIL.PARTNER_STATE

/-- An evaluation either leaves the state, or PARTNER_STATE takes its value. -/
theorem State.refreshPartner_eq (s : State) : s.refreshPartner = s.setPartner s.partnerNext := by
  have hkept : s.setPartner (s.reg Reg.DOVETAIL.PARTNER_STATE) = s := by rw [State.setPartner_eq, if_pos rfl]
  unfold State.refreshPartner State.partnerNext
  simp only [Bool.not_eq_true']
  split
  · exact hkept.symm
  · split
    · rfl
    · split
      · rfl
      · exact hkept.symm

/-- A debounced level, evaluated. -/
theorem execPeerHealthyChange_shows (s : State) (level : SenseLevel) :
    ∃ t, exec (.peerHealthyChange level) s = .next t ∧ (t.peerLow = true ↔ level = .low)
      ∧ t.reg Reg.DOVETAIL.PARTNER_STATE = (if s.tab Tab.sticky 6 = 0 then s.reg Reg.DOVETAIL.PARTNER_STATE
          else if level = .high then 2 else if s.partnerLink then 0 else s.reg Reg.DOVETAIL.PARTNER_STATE)
      ∧ t.reg Reg.DOVETAIL.ACTIVE = (if t.reg Reg.DOVETAIL.PARTNER_STATE = 2 ∧ s.reg Reg.DOVETAIL.PARTNER_STATE ≠ 2 ∧ s.secondary = true
          then 1 else s.reg Reg.DOVETAIL.ACTIVE)
      ∧ Only partnerRegs [Tab.sticky] s t := by
  have hregs := s.peerLevel_regs level
  have hreg (k : Nat) : (s.peerLevel level).reg k = s.reg k := congrArg (SMap.get Dict.dflt · k) hregs
  have hsec : (s.peerLevel level).secondary = s.secondary :=
    State.secondary_congr (hreg _) (hreg _) (s.peerLevel_sticky level (by decide) (by decide))
  have hlow : (s.peerLevel level).peerLow = true ↔ level = .low := by
    unfold State.peerLow
    rw [s.peerLevel_low level, beq_iff_eq]
    exact levelMark_low level
  have hnext : (s.peerLevel level).partnerNext = if s.tab Tab.sticky 6 = 0 then s.reg Reg.DOVETAIL.PARTNER_STATE
      else if level = .high then 2 else if s.partnerLink then 0 else s.reg Reg.DOVETAIL.PARTNER_STATE := by
    have hhigh : (s.peerLevel level).peerLow = false ↔ level = .high := by
      rw [← Bool.not_eq_true, hlow]
      cases level <;> decide
    unfold State.partnerNext
    rw [s.peerLevel_sticky level (by decide) (by decide), hreg, State.partnerLink_congr hregs]
    simp only [hhigh]
  have honly := Only.peerLevel (R := partnerRegs) s level
  have hexec := execPeerHealthyChange_eq s level
  rw [State.refreshPartner_eq, hnext] at hexec
  generalize s.peerLevel level = u at *
  generalize (if s.tab Tab.sticky 6 = 0 then s.reg Reg.DOVETAIL.PARTNER_STATE
      else if level = .high then 2 else if s.partnerLink then 0 else s.reg Reg.DOVETAIL.PARTNER_STATE) = v at *
  have hpartner : (u.setPartner v).deliverDue.reg Reg.DOVETAIL.PARTNER_STATE = v :=
    (State.reg_deliverDue _ (by decide)).trans (u.setPartner_partner v)
  refine ⟨_, hexec, ?_, hpartner, ?_, (honly.trans (Only.setPartner u v (by decide) (fun _ => by decide) (by decide) (by decide))).trans
    (Only.deliverDue _)⟩
  · rw [← hlow]
    unfold State.peerLow
    rw [State.tab_deliverDue _ (by decide) (by decide), u.setPartner_sticky v (by decide) (by decide)]
  · rw [hpartner, State.reg_deliverDue _ (by decide), u.setPartner_active v, hreg, hsec, hreg]

/-! ### The other commands of the pair -/

theorem execHeartbeat_renews {s : State} {w : SessionNo} (hp : s.permits w 0x6E00 0x04 1 = true) :
    ∃ t, exec (.heartbeat w) s = .next t ∧ t.tab Tab.sticky 8 = 1 ∧ (∀ i, i < 64 → i ≠ 8 → t.tab Tab.sticky i = s.tab Tab.sticky i)
      ∧ Only [] [Tab.sticky] s t := by
  have hn := State.hostWrite_next hp (eff := heartbeatEffect 1) rfl
  rw [if_neg (by decide +kernel)] at hn
  refine ⟨_, hn, (State.tab_deliverDue _ (by decide) (by decide)).trans (State.tab_setTab_same _ _ _ _), fun i hi hne => ?_,
    (Only.setTab _ _ _ _ (by decide) (.inl (by simp))).trans (Only.deliverDue _)⟩
  exact (State.tab_deliverDue _ (by omega) (by decide)).trans (State.tab_setTab_index _ _ hne)

theorem execHeartbeatTimeout_withdraws {s : State} (h : s.reg Reg.DOVETAIL.HEARTBEAT_MS ≠ 0) :
    ∃ t, exec .heartbeatTimeout s = .next t ∧ t.healthy = false
      ∧ (∀ i, i < 64 → i ≠ 8 → t.tab Tab.sticky i = s.tab Tab.sticky i) ∧ Only [] [Tab.sticky] s t := by
  have hexec : exec .heartbeatTimeout s = .next (s.setTab Tab.sticky 8 0).deliverDue := by
    change execHeartbeatTimeout s = _
    unfold execHeartbeatTimeout
    rw [if_neg h]
    rfl
  refine ⟨_, hexec, ?_, fun i hi hne => ?_, (Only.setTab _ _ _ _ (by decide) (.inl (by simp))).trans (Only.deliverDue _)⟩
  · unfold State.healthy
    rw [State.reg_deliverDue _ (by decide), State.reg_setTab, beq_eq_false_iff_ne.mpr h, State.tab_deliverDue _ (by decide) (by decide),
      State.tab_setTab_same]
    simp
  · exact (State.tab_deliverDue _ (by omega) (by decide)).trans (State.tab_setTab_index _ _ hne)

theorem execLossHoldExpiry_isolates {s : State} (h6 : s.tab Tab.sticky 6 = 1) (hlow : s.peerLow = true) (hlink : s.partnerLink = false) :
    ∃ t, exec .lossHoldExpiry s = .next t ∧ t.reg Reg.DOVETAIL.PARTNER_STATE = 1
      ∧ Only [Reg.DOVETAIL.PARTNER_STATE, Reg.DOVETAIL.EVENTS, Reg.DOVETAIL.EVENTS + 1] [Tab.sticky] s t := by
  have hexec : exec .lossHoldExpiry s = .next (s.setPartner 1).deliverDue := by
    change execLossHoldExpiry s = _
    unfold execLossHoldExpiry
    rw [if_pos ⟨h6, hlow, hlink⟩]
    rfl
  refine ⟨_, hexec, (State.reg_deliverDue _ (by decide)).trans (s.setPartner_partner 1),
    (Only.setPartner s 1 (by decide) (fun h => absurd h (by decide)) (by decide) (by decide)).trans (Only.deliverDue _)⟩

theorem execPartnerWaitExpiry_activates {s : State} (h7 : s.tab Tab.sticky 7 = 1) (hsec : s.secondary = true) :
    ∃ t, exec .partnerWaitExpiry s = .next t ∧ t.reg Reg.DOVETAIL.ACTIVE = 1 ∧ t.tab Tab.sticky 7 = 0
      ∧ Only [Reg.DOVETAIL.ACTIVE] [Tab.sticky] s t := by
  have hexec : exec .partnerWaitExpiry s = .next ((s.setTab Tab.sticky 7 0).setReg Reg.DOVETAIL.ACTIVE 1).deliverDue := by
    change execPartnerWaitExpiry s = _
    unfold execPartnerWaitExpiry
    rw [if_pos ⟨h7, hsec⟩]
    rfl
  refine ⟨_, hexec, (State.reg_deliverDue _ (by decide)).trans (State.reg_setReg_same _ _ _),
    (State.tab_deliverDue _ (by decide) (by decide)).trans ((State.tab_setReg _ _ _ _ _).trans (State.tab_setTab_same s _ _ _)),
    ((Only.setTab _ _ _ _ (by decide) (.inl (by simp))).trans (Only.setReg _ _ _ (.inl (by simp)))).trans (Only.deliverDue _)⟩

theorem execRevert_shows {s : State} {w : SessionNo} (hp : s.permits w 0x6E00 0x08 1 = true) :
    ∃ t, exec (.revert w) s = .next t ∧ t.reg Reg.DOVETAIL.ACTIVE
        = (if s.reg Reg.DOVETAIL.ROLE = 1 ∧ s.reg Reg.DOVETAIL.PARTNER_STATE = 0 then 0 else s.reg Reg.DOVETAIL.ACTIVE)
      ∧ Only [Reg.DOVETAIL.ACTIVE] [] s t := by
  have hn := State.hostWrite_next hp (eff := revertEffect 1) rfl
  rw [if_neg (by decide +kernel)] at hn
  refine ⟨_, hn, (State.reg_deliverDue _ (by decide)).trans ?_, Only.trans (t := (revertEffect 1 s).st) ?_ (Only.deliverDue _)⟩
  all_goals simp only [revertEffect, Res.done, true_and]
  · split
    · exact State.reg_setReg_same _ _ _
    · rfl
  · split
    · exact Only.setReg _ _ _ (.inl (by simp))
    · exact Only.refl _

theorem execRole_shows {s : State} {w : SessionNo} {v : Nat} (hp : s.permits w 0x6E00 0x01 v = true) :
    ∃ t, exec (.role w v) s = .next t ∧ t.reg Reg.DOVETAIL.ROLE = v ∧ t.reg Reg.DOVETAIL.ACTIVE = (if v = 0 then 1 else 0)
      ∧ Only [Reg.DOVETAIL.ROLE, Reg.DOVETAIL.ACTIVE, Reg.CONFIG_STORE.CONFIG_GEN] [Tab.sticky] s t := by
  have hn := State.hostWrite_next hp (eff := roleEffect v) rfl
  have hregs : ((roleEffect v s).st).regs
      = ((s.setReg Reg.DOVETAIL.ROLE v).setReg Reg.DOVETAIL.ACTIVE (if v = 0 then 1 else 0)).regs := by
    unfold roleEffect State.when Res.done
    dsimp only
    split <;> rfl
  have hreg (k : Nat) : ((roleEffect v s).st).reg k
      = ((s.setReg Reg.DOVETAIL.ROLE v).setReg Reg.DOVETAIL.ACTIVE (if v = 0 then 1 else 0)).reg k :=
    congrArg (SMap.get Dict.dflt · k) hregs
  have honly : Only [Reg.DOVETAIL.ROLE, Reg.DOVETAIL.ACTIVE, Reg.CONFIG_STORE.CONFIG_GEN] [Tab.sticky] s (roleEffect v s).st :=
    ((Only.setReg _ _ _ (.inl (by simp))).trans (Only.setReg _ _ _ (.inl (by simp)))).trans
      (Only.when _ _ _ fun _ => Only.setTab _ _ _ _ (by decide) (.inl (by simp)))
  rw [if_pos (by decide +kernel)] at hn
  have hend := Only.configEnds (roleEffect v s).st
  refine ⟨_, hn, ?_, ?_, honly.trans (hend.mono (by simp) (by simp))⟩
  · rw [hend.regs _ (by decide) (by decide), hreg, State.reg_setReg_other _ _ (by decide), State.reg_setReg_same]
  · rw [hend.regs _ (by decide) (by decide), hreg, State.reg_setReg_same]

/-! ### Recovery history (R336) -/

theorem execCbHistoryReset_clears {s : State} {stream : Fin 4096} (hv : bit (s.tab (Tab.win 0x6C00) stream) 63 = true)
    (hh : bit (s.tab Tab.cbHistory stream) 63 = true) :
    ∃ t, exec (.cbHistoryReset stream) s = .next t ∧ t.tab Tab.cbHistory stream = 0
      ∧ bits (t.tab (Tab.win 0x6C01) stream) 95 64 = (bits (s.tab (Tab.win 0x6C01) stream) 95 64 + 1) % 2 ^ 32
      ∧ Only [] [Tab.cbHistory, Tab.win 0x6C01] s t := by
  have hexec : exec (.cbHistoryReset stream) s = .next (s.resetHistory stream).deliverDue := by
    change execCbHistoryReset stream s = _
    unfold execCbHistoryReset
    rw [hv, hh]
    rfl
  refine ⟨_, hexec, ?_, ?_, ((Only.setTab _ _ _ _ (by omega) (.inl (by simp))).trans
    (Only.setTab _ _ _ _ (by omega) (.inl (by simp)))).trans (Only.deliverDue _)⟩
  · rw [State.tab_deliverDue _ (by omega) (by decide)]
    exact (State.tab_setTab_table _ _ (by decide) (by omega) (by omega)).trans (State.tab_setTab_same _ _ _ _)
  · rw [State.tab_deliverDue _ (by omega) (by decide)]
    unfold State.resetHistory
    rw [State.tab_setTab_same]
    exact bits_setBits_same _ _ _ _

end Sys2Proof.Machine
end

section
/-!
A statement of 13_admission_redundancy.md settled.
-/
open Sys2Proof Sys2Proof.Machine

/-- Settles O36: each event of the pair writes its own marks and registers, and a mirror period with few marks is one frame. -/
theorem dovetailPair : Obligations.DovetailPair := by
  unfold Obligations.DovetailPair
  refine ⟨fun s w => execHeartbeat_renews, fun s => ⟨fun h => ?_, execHeartbeatTimeout_withdraws⟩, execPeerHealthyChange_shows,
    fun s => execLossHoldExpiry_isolates, fun s => execPartnerWaitExpiry_activates, fun s w => execRevert_shows,
    fun s w v => execRole_shows, fun s m hon => ⟨execMirrorPeriod_takes hon, execMirrorPeriod_silent hon,
      fun hwf hen hne hle hmax hroom => ?_⟩, fun s stream => execCbHistoryReset_clears⟩
  · exact if_pos h
  · obtain ⟨t, ht, hbuilt, hclean, hseq, honly⟩ := execMirrorPeriod_sends hon hwf hen hne hle hmax hroom
    exact ⟨t, _, ht, hbuilt, State.mirrorValue_adoptMirror s m.isLt (by decide), State.mirrorValue_adoptMirror s m.isLt (by decide),
      by unfold State.mirrorBuilt; dsimp only; rw [State.mirrorValue_adoptMirror s m.isLt (by decide),
        State.mirrorValue_adoptMirror s m.isLt (by decide), State.mirrorValue_adoptMirror s m.isLt (by decide)],
      State.length_mirrorFrame _ _ _, hclean, hseq, honly⟩
end

section
/-!
SUPPORT. The state of a bench (R385, R397, R400): what each of its stores changes and leaves, and how a program starts.
-/
namespace Sys2Proof.Machine

/-! ### Frames of the stores of a bench -/

/-- Registers of different sub-indices differ. -/
theorem regSub_ne {x i y j a b : Nat} (ha : a < 256) (hb : b < 256) (h : a ≠ b) : (x + i) * 256 + a ≠ (y + j) * 256 + b := by omega

theorem quietReg_bench {b a : Nat} (hb : b < 128) (ha : a < 256) : quietReg ((0x8100 + b) * 256 + a) = true :=
  quietReg_of_mid (by omega) (by omega)

theorem Only.setMisc {R T : List Nat} (s : State) {b k : Nat} (v : Nat) (hb : b < 128) (hk : k < 16) (ht : Tab.benchMisc ∈ T) :
    Only R T s (s.setMisc b k v) := Only.setTab _ _ _ _ (by omega) (.inl ht)

theorem Only.setCw {R T : List Nat} (s : State) {b k : Nat} (v : Nat) (hb : b < 128) (hk : k < 32) (ht : Tab.benchCw ∈ T) :
    Only R T s (s.setCw b k v) := Only.setTab _ _ _ _ (by omega) (.inl ht)

theorem Only.setEntries {R T : List Nat} (s : State) {t base n : Nat} (l : List Nat) (h : base + n < 2 ^ 40) (ht : t ∈ T) :
    Only R T s (s.setEntries t base n l) :=
  Only.forAll _ _ _ fun u i hi => Only.setTab _ _ _ _ (by have := List.mem_range.mp hi; omega) (.inl ht)

theorem Only.setRetStack {R T : List Nat} (s : State) {b : Nat} (l : List Nat) (hb : b < 128) (ht : Tab.benchRet ∈ T) :
    Only R T s (s.setRetStack b l) := Only.setEntries _ _ (by omega) ht

theorem Only.setLoopStack {R T : List Nat} (s : State) {b : Nat} (l : List Nat) (hb : b < 128) (ht : Tab.benchLoop ∈ T) :
    Only R T s (s.setLoopStack b l) := Only.setEntries _ _ (by omega) ht

theorem Only.setSendQueue {R T : List Nat} (s : State) {b : Nat} (l : List Nat) (hb : b < 128) (ht : Tab.benchSend ∈ T) :
    Only R T s (s.setSendQueue b l) := Only.setEntries _ _ (by omega) ht

theorem Only.setBench {R T : List Nat} (s : State) (b st : Nat) (hs : Reg.BENCH.STATE b ∈ R) (hm : ∀ k ∈ modeRegs, k ∈ R) :
    Only R T s (s.setBench b st) :=
  (Only.setReg _ _ _ (.inl hs)).trans (Only.setCause _ _ _ (hm _ (by simp)) (hm _ (by simp)) (hm _ (by simp)) (hm _ (by simp))
    (hm _ (by simp)) (hm _ (by simp)) (hm _ (by simp)))

/-! ### Reads after the stores of a bench -/

theorem State.misc_setMisc_same (s : State) (b k v : Nat) : (s.setMisc b k v).misc b k = v := State.tab_setTab_same _ _ _ _

theorem State.misc_setMisc_other (s : State) {b k c j : Nat} (v : Nat) (hk : k < 16) (hj : j < 16) (h : c ≠ b ∨ j ≠ k) :
    (s.setMisc b k v).misc c j = s.misc c j := State.tab_setTab_index _ _ (by omega)

theorem State.cw_setCw_same (s : State) (b k v : Nat) : (s.setCw b k v).cw b k = v := State.tab_setTab_same _ _ _ _

theorem State.cw_setCw_other (s : State) {b k c j : Nat} (v : Nat) (hk : k < 32) (hj : j < 32) (h : c ≠ b ∨ j ≠ k) :
    (s.setCw b k v).cw c j = s.cw c j := State.tab_setTab_index _ _ (by omega)

theorem benchReg_notMode {b a : Nat} (ha : a < 256) : (0x8100 + b) * 256 + a ∉ modeRegs := by
  have hlow : ∀ k ∈ modeRegs, k < 0x810000 := by decide
  exact fun h => absurd (hlow _ h) (by omega)

theorem State.benchState_setBench (s : State) {b : Nat} (st : Nat) (hb : b < 128) : (s.setBench b st).benchState b = st := by
  unfold State.setBench State.refreshFenced
  exact (State.reg_setCause _ _ _ _ (quietReg_bench hb (by decide)) (benchReg_notMode (by decide))).trans (State.reg_setReg_same _ _ _)

/-- What leaves the tables of the benches leaves their words. -/
theorem Only.cw {R T : List Nat} {s t : State} (h : Only R T s t) {b k : Nat} (hb : b < 128) (hk : k < 32) (ht : Tab.benchCw ∉ T) :
    t.cw b k = s.cw b k := h.tabs _ _ (by omega) ht (by decide)

theorem Only.misc {R T : List Nat} {s t : State} (h : Only R T s t) {b k : Nat} (hb : b < 128) (hk : k < 16) (ht : Tab.benchMisc ∉ T) :
    t.misc b k = s.misc b k := h.tabs _ _ (by omega) ht (by decide)

/-- What leaves a bench's own registers leaves each of them. -/
theorem Only.benchReg {R T : List Nat} {s t : State} (h : Only R T s t) {b a : Nat} (hb : b < 128) (ha : a < 256)
    (hr : (0x8100 + b) * 256 + a ∉ R) : t.reg ((0x8100 + b) * 256 + a) = s.reg ((0x8100 + b) * 256 + a) :=
  h.regs _ hr (quietReg_bench hb ha)

/-! ### Starts of programs (R400) -/

/-- The registers and tables that a start writes. -/
def startRegs (b : Nat) : List Nat := [Reg.BENCH.STATE b, Reg.BENCH.PC b, Reg.BENCH.CURRENT_JOB b] ++ modeRegs
def startTabs : List Nat := [Tab.benchRet, Tab.benchLoop, Tab.benchMisc, Tab.benchCw]

theorem Only.benchCounted {R T : List Nat} (s : State) {b : Nat} (k amt : Nat) (hb : b < 128) (hk : k < 8) : Only R T s (s.count (Ctr.bench b k) amt) :=
  Only.count _ _ _ (by unfold Ctr.bench; omega)

/-- The state before the bench runs: stacks, pc, limit and control words. -/
def State.programSet (s : State) (b cause entry ns : Nat) : State :=
  let s := (s.setRetStack b []).setLoopStack b []
  let s := (s.setReg (Reg.BENCH.PC b) entry).setMisc b 0 (s.reg (Reg.BENCH.RUN_LIMIT_BC b))
  let s := (s.setCw b Cw.cause cause).setCw b Cw.startTime (packTime ns)
  (s.setCw b Cw.jobSeq 0).setReg (Reg.BENCH.CURRENT_JOB b) 0

theorem State.startProgram_eq (s : State) (b cause entry ns : Nat) :
    s.startProgram b cause entry ns = (s.programSet b cause entry ns).setBench b 1 := rfl

theorem Only.programSet {R T : List Nat} (s : State) {b : Nat} (cause entry ns : Nat) (hb : b < 128) (hR : ∀ k ∈ startRegs b, k ∈ R)
    (hT : ∀ t ∈ startTabs, t ∈ T) : Only R T s (s.programSet b cause entry ns) :=
  (((((((Only.setRetStack s [] hb (hT _ (by decide))).trans (Only.setLoopStack _ [] hb (hT _ (by decide)))).trans
    (Only.setReg _ _ _ (.inl (hR _ (by simp [startRegs]))))).trans (Only.setMisc _ _ hb (by decide) (hT _ (by decide)))).trans
    (Only.setCw _ _ hb (by decide) (hT _ (by decide)))).trans (Only.setCw _ _ hb (by decide) (hT _ (by decide)))).trans
    (Only.setCw _ _ hb (by decide) (hT _ (by decide)))).trans (Only.setReg _ _ _ (.inl (hR _ (by simp [startRegs]))))

theorem State.reg_setCw (s : State) (b k v j : Nat) : (s.setCw b k v).reg j = s.reg j := State.reg_setTab _ _ _ _ _
theorem State.reg_setMisc (s : State) (b k v j : Nat) : (s.setMisc b k v).reg j = s.reg j := State.reg_setTab _ _ _ _ _
theorem State.cw_setReg (s : State) (r v b k : Nat) : (s.setReg r v).cw b k = s.cw b k := State.tab_setReg _ _ _ _ _
theorem State.misc_setReg (s : State) (r v b k : Nat) : (s.setReg r v).misc b k = s.misc b k := State.tab_setReg _ _ _ _ _

theorem State.programSet_pc (s : State) (b cause entry ns : Nat) : (s.programSet b cause entry ns).reg (Reg.BENCH.PC b) = entry := by
  unfold State.programSet
  dsimp only
  rw [State.reg_setReg_other _ _ (by unfold Reg.BENCH.PC Reg.BENCH.CURRENT_JOB; omega), State.reg_setCw, State.reg_setCw, State.reg_setCw,
    State.reg_setMisc, State.reg_setReg_same]

theorem State.programSet_cause (s : State) (b cause entry ns : Nat) : (s.programSet b cause entry ns).cw b Cw.cause = cause := by
  unfold State.programSet
  dsimp only
  rw [State.cw_setReg, State.cw_setCw_other _ _ (by decide) (by decide) (.inr (by decide)),
    State.cw_setCw_other _ _ (by decide) (by decide) (.inr (by decide)), State.cw_setCw_same]

/-- Setting a bench's state leaves every register but it and those of the mode, and every table. -/
theorem State.reg_setBench_other (s : State) {b st k : Nat} (hq : quietReg k = true) (hs : k ≠ Reg.BENCH.STATE b) (hm : k ∉ modeRegs) :
    (s.setBench b st).reg k = s.reg k := by
  refine (Only.setBench (R := Reg.BENCH.STATE b :: modeRegs) (T := []) s b st (by simp) (by simp)).regs k ?_ hq
  exact fun h => (List.mem_cons.mp h).elim hs hm

theorem State.tab_setBench (s : State) (b st : Nat) {t i : Nat} (hi : i < 2 ^ 40) (ht : quietTab t = true) :
    (s.setBench b st).tab t i = s.tab t i :=
  (Only.setBench (R := Reg.BENCH.STATE b :: modeRegs) (T := []) s b st (by simp) (by simp)).tabs t i hi (by simp) ht

theorem State.cw_setBench (s : State) {c k : Nat} (b st : Nat) (hc : c < 128) (hk : k < 32) :
    (s.setBench b st).cw c k = s.cw c k := State.tab_setBench _ _ _ (by omega) (by decide)

/-- A program that starts runs from its entry, its cause shown. -/
theorem State.startProgram_shows (s : State) {b : Nat} (cause entry ns : Nat) (hb : b < 128) :
    (s.startProgram b cause entry ns).benchState b = 1 ∧ (s.startProgram b cause entry ns).reg (Reg.BENCH.PC b) = entry
      ∧ (s.startProgram b cause entry ns).cw b Cw.cause = cause ∧ Only (startRegs b) startTabs s (s.startProgram b cause entry ns) := by
  rw [State.startProgram_eq]
  refine ⟨State.benchState_setBench _ _ hb, ?_, ?_, (Only.programSet s cause entry ns hb (by simp) (by simp)).trans
    (Only.setBench _ _ _ (by simp [startRegs]) fun k hk => List.mem_append_right _ hk)⟩
  · rw [State.reg_setBench_other _ (quietReg_bench hb (by decide)) (by unfold Reg.BENCH.STATE; omega)
      (benchReg_notMode (by decide)), State.programSet_pc]
  · refine (State.cw_setBench _ _ _ hb (by decide)).trans (s.programSet_cause b cause entry ns)

/-- A bench that a trigger starts: also its cycle is shown. -/
theorem State.startTrigger_shows (s : State) {b : Nat} (cycle ns : Nat) (hb : b < 128) :
    (s.startTrigger b cycle ns).benchState b = 1
      ∧ (s.startTrigger b cycle ns).reg (Reg.BENCH.PC b) = s.reg (Reg.BENCH.TRIGGER_ENTRY b)
      ∧ (s.startTrigger b cycle ns).cw b Cw.cause = 1 ∧ (s.startTrigger b cycle ns).cw b Cw.cycleNo = cycle
      ∧ Only (startRegs b) startTabs s (s.startTrigger b cycle ns) := by
  obtain ⟨hstate, hpc, hcause, honly⟩ := s.startProgram_shows 1 (s.reg (Reg.BENCH.TRIGGER_ENTRY b)) ns hb
  have hcount (u : State) : Only (startRegs b) startTabs u (u.count (Ctr.bench b 0)) := Only.benchCounted _ _ _ hb (by decide)
  have hcounted (u : State) : Only [] [] u (u.count (Ctr.bench b 0)) := Only.benchCounted _ _ _ hb (by decide)
  unfold State.startTrigger
  refine ⟨((hcounted _).benchReg hb (by decide) (by simp)).trans ((State.reg_setCw _ _ _ _ _).trans hstate),
    ((hcounted _).benchReg hb (by decide) (by simp)).trans ((State.reg_setCw _ _ _ _ _).trans hpc),
    ((hcounted _).cw hb (by decide) (by simp)).trans ((State.cw_setCw_other _ _ (by decide) (by decide) (.inr (by decide))).trans hcause),
    ((hcounted _).cw hb (by decide) (by simp)).trans (State.cw_setCw_same _ _ _ _),
    (honly.trans (Only.setCw _ _ hb (by decide) (by decide))).trans (hcount _)⟩

end Sys2Proof.Machine
end

section
/-!
SUPPORT. Cycle groups (R372 to R374, R509): their timing, and the registers that what is due of a cycle leaves.
-/
namespace Sys2Proof.Machine

/-! ### Timing -/

/-- The first instant at or after `x`. -/
theorem firstStart_spec (base x : Nat) {period : Nat} (h : 0 < period) :
    x ≤ firstStart base period x ∧ firstStart base period x < x + period ∧ ∃ k : Int, (firstStart base period x : Int) = base + k * period := by
  have hpos : (0 : Int) < period := by exact_mod_cast h
  have hge := Int.emod_nonneg ((base : Int) - x) (ne_of_gt hpos)
  have hlt := Int.emod_lt_of_pos ((base : Int) - x) hpos
  have hdiv := Int.emod_def ((base : Int) - x) period
  unfold firstStart
  refine ⟨Nat.le_add_right _ _, by omega, -(((base : Int) - x) / period), ?_⟩
  rw [Nat.cast_add, Int.toNat_of_nonneg hge, hdiv]
  ring

theorem quietReg_cycleGroup {g a : Nat} (hg : g < 64) (ha : a < 256) : quietReg ((0x7100 + g) * 256 + a) = true :=
  quietReg_of_mid (by omega) (by omega)

theorem savedSub_cycleGroup (g : GroupNo) : savedSub (0x7100 + g) 0x05 = false := by
  revert g
  decide +kernel

/-! ### ENABLE and APPLY_TIMING (R373) -/

theorem Only.forgetRuns {R T : List Nat} (s : State) (g : Nat) (ht : Tab.listRan ∈ T) : Only R T s (s.forgetRuns g) :=
  Only.forAll _ _ _ fun _ _ he => Only.setTab _ _ _ _ (State.mem_tabList (List.mem_of_mem_filter he)) (.inl ht)

/-- A group starts: the state before NEXT_START shows it. -/
def State.groupEnabled (s : State) (g : Nat) : State :=
  let s := (s.setReg (Reg.CYCLE_GROUP.ENABLE g) 1).setReg (Reg.CYCLE_GROUP.CYCLE_NUMBER g) 0
  ((s.setTab Tab.cycTriggered g 0).setTab Tab.cycStart g 0).forgetRuns g

theorem execCycleGroupEnable_starts {s : State} {w : SessionNo} {g : GroupNo} (hp : s.permits w (0x7100 + g) 0x01 1 = true)
    (hoff : s.reg (Reg.CYCLE_GROUP.ENABLE g) ≠ 1) :
    ∃ t, exec (.cycleGroupEnable w g) s = .next t ∧ t.reg (Reg.CYCLE_GROUP.ENABLE g) = 1 ∧ t.reg (Reg.CYCLE_GROUP.CYCLE_NUMBER g) = 0
      ∧ t.tab Tab.cycNext g = firstStart (s.groupBase g) (s.groupPeriod g) (nsCeil s.clock.ptp + 100000) + 1
      ∧ Only [Reg.CYCLE_GROUP.ENABLE g, Reg.CYCLE_GROUP.CYCLE_NUMBER g, Reg.CYCLE_GROUP.NEXT_START g, Reg.CONFIG_STORE.CONFIG_GEN]
          [Tab.cycTriggered, Tab.cycStart, Tab.cycNext, Tab.listRan] s t := by
  have hg : (g : Nat) < 2 ^ 40 := by omega
  have hon : Only [Reg.CYCLE_GROUP.ENABLE g, Reg.CYCLE_GROUP.CYCLE_NUMBER g] [Tab.cycTriggered, Tab.cycStart, Tab.listRan] s (s.groupEnabled g) :=
    ((((Only.setReg _ _ _ (.inl (by simp))).trans (Only.setReg _ _ _ (.inl (by simp)))).trans (Only.setTab _ _ _ _ hg (.inl (by simp)))).trans
      (Only.setTab _ _ _ _ hg (.inl (by simp)))).trans (Only.forgetRuns _ _ (by simp))
  have hen : (s.groupEnabled g).reg (Reg.CYCLE_GROUP.ENABLE g) = 1 ∧ (s.groupEnabled g).reg (Reg.CYCLE_GROUP.CYCLE_NUMBER g) = 0 := by
    have hruns := Only.forgetRuns (R := []) (T := [Tab.listRan]) ((((s.setReg (Reg.CYCLE_GROUP.ENABLE g) 1).setReg
      (Reg.CYCLE_GROUP.CYCLE_NUMBER g) 0).setTab Tab.cycTriggered g 0).setTab Tab.cycStart g 0) g (by simp)
    unfold State.groupEnabled
    dsimp only
    rw [hruns.regs _ (by simp) (quietReg_cycleGroup g.isLt (by decide)), hruns.regs _ (by simp) (quietReg_cycleGroup g.isLt (by decide)),
      State.reg_setTab, State.reg_setTab, State.reg_setTab, State.reg_setTab, State.reg_setReg_same,
      State.reg_setReg_other _ _ (regSub_ne (by decide) (by decide) (by decide)), State.reg_setReg_same]
    exact ⟨rfl, rfl⟩
  have heff : enableGroupEffect g 1 s = Res.done (((s.groupEnabled g).setTab Tab.cycNext g
      (firstStart (s.groupBase g) (s.groupPeriod g) (nsCeil s.clock.ptp + 100000) + 1)).showNext g) := by
    have hbase : (s.groupEnabled g).groupBase g = s.groupBase g := hon.tabs _ _ hg (by decide) (by decide)
    have hperiod : (s.groupEnabled g).groupPeriod g = s.groupPeriod g := hon.tabs _ _ hg (by decide) (by decide)
    have heq : enableGroupEffect g 1 s = Res.done (((s.groupEnabled g).setTab Tab.cycNext g (firstStart ((s.groupEnabled g).groupBase g)
        ((s.groupEnabled g).groupPeriod g) (nsCeil (s.groupEnabled g).clock.ptp + 100000) + 1)).showNext g) := by
      unfold enableGroupEffect
      rw [if_neg (Ne.symm hoff), if_pos rfl]
      rfl
    rw [heq, hbase, hperiod, hon.clock]
  generalize firstStart (s.groupBase g) (s.groupPeriod g) (nsCeil s.clock.ptp + 100000) + 1 = v at heff ⊢
  have hn := State.hostWrite_next hp (eff := enableGroupEffect g 1) (by rw [heff]; rfl)
  rw [heff] at hn
  have hshow (u : State) : Only [Reg.CYCLE_GROUP.NEXT_START g] [] u (u.showNext g) := Only.setReg _ _ _ (.inl (by simp))
  have hend (u : State) : Only [Reg.CONFIG_STORE.CONFIG_GEN] [] u (if savedSub (0x7100 + g) 0x01 then u.configChanged else u).deliverDue := by
    split
    · exact Only.configEnds u
    · exact Only.deliverDue u
  have hrest := (hshow ((s.groupEnabled g).setTab Tab.cycNext g v)).mono (R' := [Reg.CYCLE_GROUP.NEXT_START g, Reg.CONFIG_STORE.CONFIG_GEN])
    (T' := []) (by simp) (by simp) |>.trans ((hend _).mono (by simp) (by simp))
  have hapart : ∀ k ∈ [Reg.CYCLE_GROUP.ENABLE g, Reg.CYCLE_GROUP.CYCLE_NUMBER g],
      k ∉ [Reg.CYCLE_GROUP.NEXT_START g, Reg.CONFIG_STORE.CONFIG_GEN] := by clear * -; revert g; decide
  refine ⟨_, hn, ?_, ?_, ?_, ((hon.mono (by simp) (by simp)).trans (Only.setTab _ _ _ _ hg (.inl (by simp)))).trans
    (hrest.mono (by simp) (by simp))⟩
  · exact (hrest.regs _ (hapart _ (by simp)) (quietReg_cycleGroup g.isLt (by decide))).trans ((State.reg_setTab _ _ _ _ _).trans hen.1)
  · exact (hrest.regs _ (hapart _ (by simp)) (quietReg_cycleGroup g.isLt (by decide))).trans ((State.reg_setTab _ _ _ _ _).trans hen.2)
  · exact (hrest.tabs _ _ hg (by simp) (by decide)).trans (State.tab_setTab_same _ _ _ _)

/-- The timing written is scheduled. -/
def State.timingScheduled (s : State) (g base period trig at' : Nat) : State :=
  let s := (s.setTab Tab.cycPending (4 * g) base).setTab Tab.cycPending (4 * g + 1) period
  let s := (s.setTab Tab.cycPending (4 * g + 2) trig).setTab Tab.cycSwitch g (at' + 1)
  ((s.setTab Tab.cycWritten g 0).showPending g).showNext g

theorem State.timingScheduled_shows (s : State) {g : Nat} (base period trig at' : Nat) (hg : g < 64) :
    (s.timingScheduled g base period trig at').reg (Reg.CYCLE_GROUP.TIMING_PENDING g) = 1
      ∧ (s.timingScheduled g base period trig at').tab Tab.cycSwitch g = at' + 1
      ∧ Only [Reg.CYCLE_GROUP.TIMING_PENDING g, Reg.CYCLE_GROUP.NEXT_START g] [Tab.cycPending, Tab.cycSwitch, Tab.cycWritten] s
          (s.timingScheduled g base period trig at') := by
  have hswitch (u : State) : ((u.setTab Tab.cycSwitch g (at' + 1)).setTab Tab.cycWritten g 0).tab Tab.cycSwitch g = at' + 1 :=
    (State.tab_setTab_table _ _ (by decide) (by omega) (by omega)).trans (State.tab_setTab_same _ _ _ _)
  unfold State.timingScheduled State.showNext State.showPending
  dsimp only
  refine ⟨?_, ?_, ?_⟩
  · rw [State.reg_setReg_other _ _ (regSub_ne (by decide) (by decide) (by decide)), State.reg_setReg_same, hswitch, show (at' + 1 != 0) = true from rfl, Bool.or_true]
    rfl
  · rw [State.tab_setReg, State.tab_setReg, hswitch]
  · exact ((((((Only.setTab _ _ _ _ (by omega) (.inl (by simp))).trans (Only.setTab _ _ _ _ (by omega) (.inl (by simp)))).trans
      (Only.setTab _ _ _ _ (by omega) (.inl (by simp)))).trans (Only.setTab _ _ _ _ (by omega) (.inl (by simp)))).trans
      (Only.setTab _ _ _ _ (by omega) (.inl (by simp)))).trans (Only.setReg _ _ _ (.inl (by simp)))).trans
      (Only.setReg _ _ _ (.inl (by simp)))

/-- Every offset of the group lies within its written period. -/
def State.timingFits (s : State) (g : Nat) : Prop :=
  s.reg (Reg.CYCLE_GROUP.TRIGGER_OFFSET g) * 5 < s.reg (Reg.CYCLE_GROUP.PERIOD_NS g) * 4
    ∧ ∀ e ∈ s.listsOf g, listOffset e.2 * 5 < s.reg (Reg.CYCLE_GROUP.PERIOD_NS g) * 4

theorem applyTimingEffect_eq (g : Nat) (s : State) [Decidable (s.timingFits g)] : applyTimingEffect g 1 s
    = if s.timingFits g then Res.done (s.timingScheduled g (time80Ns (s.reg (Reg.CYCLE_GROUP.BASE_TIME g)))
        (s.reg (Reg.CYCLE_GROUP.PERIOD_NS g)) (s.reg (Reg.CYCLE_GROUP.TRIGGER_OFFSET g))
        (firstStart (time80Ns (s.reg (Reg.CYCLE_GROUP.BASE_TIME g))) (s.reg (Reg.CYCLE_GROUP.PERIOD_NS g))
          (max (s.tab Tab.cycNext g - 1) (nsCeil s.clock.ptp + 100000))))
      else Res.fail s Code.range := by
  have hfits : (s.reg (Reg.CYCLE_GROUP.PERIOD_NS g) * 4 ≤ s.reg (Reg.CYCLE_GROUP.TRIGGER_OFFSET g) * 5
      ∨ (s.listsOf g).any (fun e => s.reg (Reg.CYCLE_GROUP.PERIOD_NS g) * 4 ≤ listOffset e.2 * 5) = true) ↔ ¬s.timingFits g := by
    simp only [State.timingFits, List.any_eq_true, decide_eq_true_eq, not_and_or, not_forall, not_lt, exists_prop]
  unfold applyTimingEffect
  dsimp only
  rw [if_neg (by decide)]
  by_cases h : s.timingFits g
  · rw [if_pos h, if_neg fun hc => hfits.mp hc h]
    cases hnext : s.tab Tab.cycNext g <;> rfl
  · rw [if_neg h, if_pos (hfits.mpr h)]

theorem execApplyTiming_refused {s : State} {w : SessionNo} {g : GroupNo} (hp : s.permits w (0x7100 + g) 0x05 1 = true)
    (h : ¬s.timingFits g) : exec (.applyTiming w g) s = .next s.deliverDue := by
  classical
  have heff := applyTimingEffect_eq g s
  rw [if_neg h] at heff
  refine (State.hostWrite_next_refused hp (by rw [heff]; exact (by decide : Code.range ≠ Code.ok))).trans ?_
  rw [heff]
  rfl

theorem execApplyTiming_schedules {s : State} {w : SessionNo} {g : GroupNo} (hp : s.permits w (0x7100 + g) 0x05 1 = true)
    (h : s.timingFits g) :
    ∃ t, exec (.applyTiming w g) s = .next t ∧ t.reg (Reg.CYCLE_GROUP.TIMING_PENDING g) = 1
      ∧ t.tab Tab.cycSwitch g = firstStart (time80Ns (s.reg (Reg.CYCLE_GROUP.BASE_TIME g))) (s.reg (Reg.CYCLE_GROUP.PERIOD_NS g))
          (max (s.tab Tab.cycNext g - 1) (nsCeil s.clock.ptp + 100000)) + 1
      ∧ Only [Reg.CYCLE_GROUP.TIMING_PENDING g, Reg.CYCLE_GROUP.NEXT_START g] [Tab.cycPending, Tab.cycSwitch, Tab.cycWritten] s t := by
  classical
  have heff := applyTimingEffect_eq g s
  rw [if_pos h] at heff
  have hn := State.hostWrite_next hp (eff := applyTimingEffect g 1) (by rw [heff]; rfl)
  rw [heff, savedSub_cycleGroup, if_neg (by decide)] at hn
  obtain ⟨hpending, hswitch, honly⟩ := s.timingScheduled_shows (time80Ns (s.reg (Reg.CYCLE_GROUP.BASE_TIME g)))
    (s.reg (Reg.CYCLE_GROUP.PERIOD_NS g)) (s.reg (Reg.CYCLE_GROUP.TRIGGER_OFFSET g))
    (firstStart (time80Ns (s.reg (Reg.CYCLE_GROUP.BASE_TIME g))) (s.reg (Reg.CYCLE_GROUP.PERIOD_NS g))
      (max (s.tab Tab.cycNext g - 1) (nsCeil s.clock.ptp + 100000))) g.isLt
  exact ⟨_, hn, (State.reg_deliverDue _ (quietReg_cycleGroup g.isLt (by decide))).trans hpending,
    (State.tab_deliverDue _ (by omega) (by decide)).trans hswitch, honly.trans (Only.deliverDue _)⟩

end Sys2Proof.Machine
end

section
/-!
SUPPORT. Cycle starts (R372, R374, R509): what is due of the cycle before, the new cycle, and the snapshot groups that it triggers.
-/
namespace Sys2Proof.Machine

/-! ### Registers that an action of a cycle leaves -/

/-- Every register that an action of a cycle does not write: not a bench's, not the mode's, and not a flag of a group. -/
structure CycleKept (k : Nat) : Prop where
  quiet : quietReg k = true
  mode : k ∉ modeRegs
  bench : ∀ b a, b < 128 → a < 256 → k ≠ (0x8100 + b) * 256 + a
  events : ∀ g a, g < 64 → a ∈ [0x0C, 0x0D, 0x0E] → k ≠ (0x7100 + g) * 256 + a

theorem modeRegs_lt : ∀ k ∈ modeRegs, k < 0x710000 := by decide

theorem CycleKept.cycleNumber {g : Nat} (hg : g < 64) : CycleKept ((0x7100 + g) * 256 + 0x08) where
  quiet := quietReg_cycleGroup hg (by decide)
  mode h := absurd (modeRegs_lt _ h) (by omega)
  bench _ _ _ _ := by omega
  events g' a _ ha := by
    have : a < 256 ∧ a ≠ 0x08 := by revert a; decide
    omega

theorem CycleKept.snapshot {k a : Nat} (hk : k < 16) (ha : a < 256) : CycleKept ((0xA200 + k) * 256 + a) where
  quiet := by rw [quietReg_iff]; omega
  mode h := absurd (modeRegs_lt _ h) (by omega)
  bench _ _ _ _ := by omega
  events g' a' _ ha' := by
    have : a' < 256 := by revert a'; decide
    omega

/-- Kept registers alike. -/
def CycleKeeps (s t : State) : Prop := ∀ k, CycleKept k → t.reg k = s.reg k

theorem CycleKeeps.refl (s : State) : CycleKeeps s s := fun _ _ => rfl

theorem CycleKeeps.trans {s t u : State} (h : CycleKeeps s t) (g : CycleKeeps t u) : CycleKeeps s u :=
  fun k hk => (g k hk).trans (h k hk)

theorem CycleKeeps.forAll {α : Type} (s : State) (l : List α) (f : State → α → State) (h : ∀ u, ∀ a ∈ l, CycleKeeps u (f u a)) :
    CycleKeeps s (s.forAll l f) :=
  fun k hk => State.view_forAll (g := fun u => u.reg k) (fun u a ha => h u a ha k hk) s

theorem CycleKeeps.of_only {R T : List Nat} {s t : State} (h : Only R T s t) (hR : ∀ k, CycleKept k → k ∉ R) : CycleKeeps s t :=
  fun k hk => h.regs k (hR k hk) hk.quiet

theorem CycleKeeps.setTab (s : State) (t i v : Nat) : CycleKeeps s (s.setTab t i v) := fun _ _ => State.reg_setTab _ _ _ _ _

theorem CycleKeeps.withBuilt (s : State) (l : List Built) : CycleKeeps s { s with built := l } := fun _ _ => rfl

/-! ### Triggers of benches -/

theorem CycleKeeps.missTrigger (s : State) {b : Nat} (hb : b < 128) : CycleKeeps s (s.missTrigger b) := by
  have honly : Only [Reg.BENCH.EVENTS b, Reg.BENCH.EVENTS b + 1 + 2] [] s (s.missTrigger b) := by
    unfold State.missTrigger State.benchEvent
    exact (Only.benchCounted _ _ _ hb (by decide)).trans (Only.event _ _ _ _ (.inl (by simp)) (.inl (by simp)))
  refine .of_only honly fun k hk hmem => ?_
  simp only [List.mem_cons, List.not_mem_nil, or_false] at hmem
  obtain rfl | rfl := hmem
  · exact hk.bench b 0x14 hb (by decide) rfl
  · exact hk.bench b 0x17 hb (by decide) rfl

theorem CycleKeeps.startTrigger (s : State) {b : Nat} (cycle ns : Nat) (hb : b < 128) : CycleKeeps s (s.startTrigger b cycle ns) := by
  obtain ⟨-, -, -, -, honly⟩ := s.startTrigger_shows cycle ns hb
  refine .of_only honly fun k hk hmem => ?_
  obtain hmem | hmem := List.mem_append.mp hmem
  · simp only [List.mem_cons, List.not_mem_nil, or_false] at hmem
    obtain rfl | rfl | rfl := hmem
    · exact hk.bench b 0x01 hb (by decide) rfl
    · exact hk.bench b 0x09 hb (by decide) rfl
    · exact hk.bench b 0x0C hb (by decide) rfl
  · exact hk.mode hmem

theorem CycleKeeps.triggerBench (s : State) {b : Nat} (cycle ns : Nat) (hb : b < 128) : CycleKeeps s (s.triggerBench b cycle ns) := by
  unfold State.triggerBench
  split
  · exact .missTrigger s hb
  · split
    · exact .startTrigger s cycle ns hb
    · split
      · exact .setTab _ _ _ _
      · exact .missTrigger s hb

theorem State.benchesOf_lt {s : State} {g b : Nat} (h : b ∈ s.benchesOf g) : b < 128 := by
  obtain ⟨e, he, rfl⟩ := List.mem_map.mp h
  have hrange := (List.mem_filter.mp (List.mem_of_mem_filter he)).2
  simp only [regKey, Bool.and_eq_true, decide_eq_true_eq] at hrange
  omega

theorem CycleKeeps.raiseTrigger (s : State) (g : Nat) : CycleKeeps s (s.raiseTrigger g) := by
  unfold State.raiseTrigger State.when
  dsimp only
  split
  · exact (CycleKeeps.setTab _ _ _ _).trans (.forAll _ _ _ fun u b hb => .triggerBench u _ _ (State.benchesOf_lt hb))
  · exact .setTab _ _ _ _

/-! ### Publication lists -/

theorem CycleKeeps.event (s : State) {g : Nat} (n : Nat) (hg : g < 64) : CycleKeeps s (s.event (Reg.CYCLE_GROUP.EVENTS g) 1 n) := by
  have honly : Only [Reg.CYCLE_GROUP.EVENTS g, Reg.CYCLE_GROUP.EVENTS g + 1 + 1] [] s (s.event (Reg.CYCLE_GROUP.EVENTS g) 1 n) :=
    Only.event _ _ _ _ (.inl (by simp)) (.inl (by simp))
  refine .of_only honly fun k hk hmem => ?_
  simp only [List.mem_cons, List.not_mem_nil, or_false] at hmem
  obtain rfl | rfl := hmem
  · exact hk.events g 0x0C hg (by decide) rfl
  · exact hk.events g 0x0E hg (by decide) rfl

theorem listGroup_lt (v : Nat) : listGroup v < 64 := bits_lt v 251 246

theorem CycleKeeps.runList (s : State) (l v : Nat) : CycleKeeps s (s.runList l v) := by
  have hup (u : State) (lsb : Nat) : CycleKeeps u (u.listCountUp l lsb) := .setTab u _ _ _
  unfold State.runList
  dsimp only
  split
  · exact (CycleKeeps.setTab _ _ _ _).trans (hup _ _)
  · split
    · exact ((CycleKeeps.setTab _ _ _ _).trans (hup _ _)).trans (.event _ _ (listGroup_lt v))
    · exact ((CycleKeeps.setTab _ _ _ _).trans (.setTab _ _ _ _)).trans ((CycleKeeps.setTab _ Tab.listSeq l _).trans (.withBuilt _ _))

/-- What is due of a cycle leaves the group's number and the snapshot groups' registers. -/
theorem CycleKeeps.finishCycle (s : State) (g : Nat) : CycleKeeps s (s.finishCycle g) := by
  unfold State.finishCycle
  refine .forAll _ _ _ fun u a _ => ?_
  split
  · exact .raiseTrigger u g
  · exact .runList u _ _

/-- Nothing due, nothing done. -/
theorem State.finishCycle_nothing {s : State} {g : Nat} (ht : s.triggerDue g = false) (hl : ∀ e ∈ s.listsOf g, s.listDue e.1 e.2 = false) :
    s.finishCycle g = s := by
  have hnone : (s.listsOf g).filter (fun e => s.listDue e.1 e.2) = [] := List.filter_eq_nil_iff.mpr fun e he => by rw [hl e he]; decide
  unfold State.finishCycle
  rw [hnone, ht]
  rfl

/-! ### The new cycle -/

/-- The registers and tables of a cycle that starts. -/
def runRegs (g : Nat) : List Nat := [Reg.CYCLE_GROUP.CYCLE_NUMBER g, Reg.CYCLE_GROUP.NEXT_START g, Reg.CYCLE_GROUP.TIMING_PENDING g]
def runTabs : List Nat := [Tab.cycBase, Tab.cycPeriod, Tab.cycTrigger, Tab.cycSwitch, Tab.cycStart, Tab.cycNext]

theorem Only.adoptTiming {R T : List Nat} (s : State) {g : Nat} (hg : g < 64) (hR : ∀ k ∈ runRegs g, k ∈ R) (hT : ∀ t ∈ runTabs, t ∈ T) :
    Only R T s (s.adoptTiming g) :=
  ((((Only.setTab _ _ _ _ (by omega) (.inl (hT _ (by decide)))).trans (Only.setTab _ _ _ _ (by omega) (.inl (hT _ (by decide))))).trans
    (Only.setTab _ _ _ _ (by omega) (.inl (hT _ (by decide))))).trans (Only.setTab _ _ _ _ (by omega) (.inl (hT _ (by decide))))).trans
    (Only.setReg _ _ _ (.inl (hR _ (by simp [runRegs]))))

theorem Only.runCycle (s : State) {g : Nat} (n : Nat) (hg : g < 64) : Only (runRegs g) runTabs s (s.runCycle g n) := by
  unfold State.runCycle
  exact ((((Only.when _ _ _ fun u => Only.adoptTiming u hg (by simp) (by simp)).trans (Only.bump _ _ _ _ (.inl (by simp [runRegs])))).trans
    (Only.setTab _ _ _ _ (by omega) (.inl (by decide)))).trans (Only.setTab _ _ _ _ (by omega) (.inl (by decide)))).trans
    (Only.setReg _ _ _ (.inl (by simp [runRegs])))

theorem State.runCycle_shows (s : State) {g : Nat} (n : Nat) (hg : g < 64) :
    (s.runCycle g n).reg (Reg.CYCLE_GROUP.CYCLE_NUMBER g) = (s.reg (Reg.CYCLE_GROUP.CYCLE_NUMBER g) + 1) % 2 ^ 64
      ∧ (s.runCycle g n).tab Tab.cycStart g = n + 1
      ∧ (s.runCycle g n).tab Tab.cycNext g = n + (s.runCycle g n).groupPeriod g + 1 := by
  have hadopt (u : State) (c : Bool) : (u.when c (·.adoptTiming g)).reg (Reg.CYCLE_GROUP.CYCLE_NUMBER g)
      = u.reg (Reg.CYCLE_GROUP.CYCLE_NUMBER g) := by
    unfold State.when
    split
    · exact State.reg_setReg_other _ _ (regSub_ne (by decide) (by decide) (by decide))
    · rfl
  unfold State.runCycle State.showNext State.groupPeriod
  dsimp only
  refine ⟨?_, ?_, ?_⟩
  · rw [State.reg_setReg_other _ _ (regSub_ne (by decide) (by decide) (by decide)), State.reg_setTab, State.reg_setTab, State.reg_bump,
      if_pos rfl, hadopt]
  · rw [State.tab_setReg, State.tab_setTab_table _ _ (by decide) (by omega) (by omega), State.tab_setTab_same]
  · rw [State.tab_setReg, State.tab_setTab_same, State.tab_setReg, State.tab_setTab_table _ _ (by decide) (by omega) (by omega),
      State.tab_setTab_table _ _ (by decide) (by omega) (by omega)]

/-! ### Snapshot groups (R509) -/

/-- The registers and tables of a latch. -/
def latchRegs (k : Nat) : List Nat := [Reg.SNAPSHOT_GROUP.SNAP_TIME k, Reg.SNAPSHOT_GROUP.SNAPS k, Reg.SNAPSHOT_GROUP.EVENTS k,
  Reg.SNAPSHOT_GROUP.EVENTS k + 1, Reg.SNAPSHOT_GROUP.EXPORT_SKIPPED k]
def latchTabs : List Nat := [Tab.snapLatch, Tab.exporting, Tab.exportData]

theorem quietReg_snapshot {k a : Nat} (hk : k < 16) (ha : a < 256) : quietReg ((0xA200 + k) * 256 + a) = true := by
  rw [quietReg_iff]
  omega

/-- The counters of group `g` as they stand, latched. -/
def State.countersLatched (s : State) (g : Nat) : State :=
  (s.clearTabRange Tab.snapLatch (g * 8192) ((g + 1) * 8192)).forAll (List.range (s.reg (Reg.SNAPSHOT_GROUP.COUNT g)))
    (fun u i => u.setTab Tab.snapLatch (g * 8192 + i) (u.counterElem (s.reg (Reg.SNAPSHOT_GROUP.BASE g) + i)))

/-- The latch is stamped, counted and flagged. -/
def State.latchShown (s : State) (g : Nat) : State :=
  ((s.setReg (Reg.SNAPSHOT_GROUP.SNAP_TIME g) s.stamp).bump (Reg.SNAPSHOT_GROUP.SNAPS g) 32).event (Reg.SNAPSHOT_GROUP.EVENTS g) 0 (0x1E10 + g)

theorem State.latchGroup_eq (s : State) (g : Nat) : s.latchGroup g = ((s.countersLatched g).latchShown g).when
    (decide (((s.countersLatched g).latchShown g).reg (Reg.SNAPSHOT_GROUP.EXPORT_STREAM g) < 4))
    (·.startExport g (((s.countersLatched g).latchShown g).reg (Reg.SNAPSHOT_GROUP.EXPORT_STREAM g))) := rfl

theorem State.reg_countersLatched (s : State) (g k : Nat) : (s.countersLatched g).reg k = s.reg k :=
  State.view_forAll (g := fun u => u.reg k) (fun _ _ _ => State.reg_setTab _ _ _ _ _) _

theorem State.reg_startExport (s : State) (g t : Nat) {k : Nat} (h : k ≠ Reg.SNAPSHOT_GROUP.EXPORT_SKIPPED g) :
    (s.startExport g t).reg k = s.reg k := by
  unfold State.startExport
  split
  · rw [State.reg_bump, if_neg h]
  · dsimp only
    rw [State.reg_setTab, State.reg_setTab, State.reg_setTab, State.reg_setTab, State.reg_setTab, State.reg_setTab]
    exact State.view_forAll (g := fun u => u.reg k) (fun _ _ _ => State.reg_setTab _ _ _ _ _) _

theorem State.reg_latchGroup_of_shown (s : State) (g : Nat) {k : Nat} (h : k ≠ Reg.SNAPSHOT_GROUP.EXPORT_SKIPPED g) :
    (s.latchGroup g).reg k = ((s.countersLatched g).latchShown g).reg k := by
  rw [State.latchGroup_eq]
  unfold State.when
  split
  · exact State.reg_startExport _ _ _ h
  · rfl

theorem State.reg_latchGroup_other (s : State) (g : Nat) {k : Nat} (hq : quietReg k = true) (h : k ∉ latchRegs g) :
    (s.latchGroup g).reg k = s.reg k := by
  simp only [latchRegs, List.mem_cons, List.not_mem_nil, or_false, not_or] at h
  obtain ⟨htime, hsnaps, hev, hev1, hskip⟩ := h
  rw [State.reg_latchGroup_of_shown _ _ hskip]
  have hcount : k ≠ Reg.SNAPSHOT_GROUP.EVENTS g + 1 + 0 := by rw [Nat.add_zero]; exact hev1
  unfold State.latchShown
  rw [State.reg_event_other _ _ 0 _ _ hq hev hcount, State.reg_bump, if_neg hsnaps, State.reg_setReg_other _ _ htime, State.reg_countersLatched]

theorem State.snaps_latchGroup (s : State) {g : Nat} (hg : g < 16) :
    (s.latchGroup g).reg (Reg.SNAPSHOT_GROUP.SNAPS g) = (s.reg (Reg.SNAPSHOT_GROUP.SNAPS g) + 1) % 2 ^ 32 := by
  have hflag : Reg.SNAPSHOT_GROUP.SNAPS g ≠ Reg.SNAPSHOT_GROUP.EVENTS g := regSub_ne (by decide) (by decide) (by decide)
  have hcount : Reg.SNAPSHOT_GROUP.SNAPS g ≠ Reg.SNAPSHOT_GROUP.EVENTS g + 1 + 0 :=
    (regSub_ne (by decide) (by decide) (by decide) : (0xA200 + g) * 256 + 0x07 ≠ (0xA200 + g) * 256 + 0x0B)
  rw [State.reg_latchGroup_of_shown _ _ (regSub_ne (by decide) (by decide) (by decide))]
  unfold State.latchShown
  rw [State.reg_event_other _ _ 0 _ _ (quietReg_snapshot hg (by decide)) hflag hcount, State.reg_bump, if_pos rfl,
    State.reg_setReg_other _ _ (regSub_ne (by decide) (by decide) (by decide)), State.reg_countersLatched]

theorem Only.startExport (s : State) {g : Nat} (t : Nat) (hg : g < 16) (hcount : s.reg (Reg.SNAPSHOT_GROUP.COUNT g) ≤ 8192) :
    Only (latchRegs g) latchTabs s (s.startExport g t) := by
  unfold State.startExport
  split
  · exact Only.bump _ _ _ _ (.inl (by simp [latchRegs]))
  · dsimp only
    refine ((((((Only.forAll _ _ _ fun u i hi => Only.setTab _ _ _ _ ?_ (.inl (by decide))).trans
      (Only.setTab _ _ _ _ (by omega) (.inl (by decide)))).trans (Only.setTab _ _ _ _ (by omega) (.inl (by decide)))).trans
      (Only.setTab _ _ _ _ (by omega) (.inl (by decide)))).trans (Only.setTab _ _ _ _ (by omega) (.inl (by decide)))).trans
      (Only.setTab _ _ _ _ (by omega) (.inl (by decide)))).trans (Only.setTab _ _ _ _ (by omega) (.inl (by decide)))
    have := List.mem_range.mp hi
    omega

theorem Only.latchGroup (s : State) {g : Nat} (hg : g < 16) (hcount : s.reg (Reg.SNAPSHOT_GROUP.COUNT g) ≤ 8192) :
    Only (latchRegs g) latchTabs s (s.latchGroup g) := by
  have hlatched : Only (latchRegs g) latchTabs s (s.countersLatched g) :=
    (Only.clearTabRange _ _ _ _ (by decide)).trans (Only.forAll _ _ _ fun u i hi => Only.setTab _ _ _ _
      (by have := List.mem_range.mp hi; omega) (.inl (by decide)))
  have hshown (u : State) : Only (latchRegs g) latchTabs u (u.latchShown g) :=
    ((Only.setReg _ _ _ (.inl (by simp [latchRegs]))).trans (Only.bump _ _ _ _ (.inl (by simp [latchRegs])))).trans
      (Only.event _ _ _ _ (.inl (by simp [latchRegs])) (.inl (by simp [latchRegs])))
  have hkept : Reg.SNAPSHOT_GROUP.COUNT g ∉ latchRegs g := by clear * - hg; interval_cases g <;> decide
  have hread := (hlatched.trans (hshown _)).regs _ hkept (quietReg_snapshot hg (by decide))
  rw [State.latchGroup_eq]
  unfold State.when
  split
  · exact (hlatched.trans (hshown _)).trans (Only.startExport _ _ hg (hread.symm ▸ hcount))
  · exact hlatched.trans (hshown _)

/-- The registers of every snapshot group that a latch writes. -/
def snapshotRegs : List Nat := (List.range 16).flatMap latchRegs

/-- Groups that latch, one after the other. -/
theorem Only.latchGroups {l : List Nat} (s : State) (hl : ∀ g ∈ l, g < 16) (hcount : ∀ g ∈ l, s.reg (Reg.SNAPSHOT_GROUP.COUNT g) ≤ 8192) :
    Only snapshotRegs latchTabs s (s.forAll l State.latchGroup) := by
  induction l generalizing s with
  | nil => exact Only.refl s
  | cons g l ih =>
    obtain ⟨hg, hrest⟩ := List.forall_mem_cons.mp hl
    obtain ⟨hfirst, hcounts⟩ := List.forall_mem_cons.mp hcount
    have honly : Only snapshotRegs latchTabs s (s.latchGroup g) := (Only.latchGroup s hg hfirst).mono
      (fun k hk => List.mem_flatMap.mpr ⟨g, List.mem_range.mpr hg, hk⟩) fun _ h => h
    have hcol : ∀ k < 16, Reg.SNAPSHOT_GROUP.COUNT k ∉ snapshotRegs := by decide
    refine honly.trans (ih _ hrest fun k hk => ?_)
    rw [honly.regs _ (hcol k (hrest k hk)) (quietReg_snapshot (hrest k hk) (by decide))]
    exact hcounts k hk

theorem latchRegs_range {g k : Nat} (h : k ∈ latchRegs g) : (0xA200 + g) * 256 ≤ k ∧ k < (0xA201 + g) * 256 := by
  simp only [latchRegs, List.mem_cons, List.not_mem_nil, or_false] at h
  obtain rfl | rfl | rfl | rfl | rfl := h <;>
    (simp only [Reg.SNAPSHOT_GROUP.SNAP_TIME, Reg.SNAPSHOT_GROUP.SNAPS, Reg.SNAPSHOT_GROUP.EVENTS, Reg.SNAPSHOT_GROUP.EXPORT_SKIPPED]; omega)

/-- A group in the list counts its snapshot once. -/
theorem State.snaps_latchGroups {l : List Nat} (s : State) {g : Nat} (hl : ∀ k ∈ l, k < 16) (hnd : l.Nodup) (hg : g ∈ l) :
    (s.forAll l State.latchGroup).reg (Reg.SNAPSHOT_GROUP.SNAPS g) = (s.reg (Reg.SNAPSHOT_GROUP.SNAPS g) + 1) % 2 ^ 32 := by
  have hq := quietReg_snapshot (hl g hg) (by decide : 0x07 < 256)
  refine State.view_forAll_once (g := fun u => u.reg (Reg.SNAPSHOT_GROUP.SNAPS g)) hg hnd (fun u k hk hne => ?_)
    (fun u hu => ?_) rfl
  · refine State.reg_latchGroup_other u k hq fun h => hne ?_
    have := latchRegs_range h
    simp only [Reg.SNAPSHOT_GROUP.SNAPS] at this
    omega
  · rw [← hu]
    exact State.snaps_latchGroup u (hl g hg)

/-! ### CYCLE_START -/

/-- Snapshot group `k` latches at the starts of group `g`. -/
def State.latchesWith (s : State) (g k : Nat) : Bool :=
  s.reg (Reg.SNAPSHOT_GROUP.TRIGGER k) == 1 && s.reg (Reg.SNAPSHOT_GROUP.CYCLE_GROUP k) == g

/-- The snapshot groups that latch. -/
def State.latching (s : State) (g : Nat) : List Nat := (List.range 16).filter (s.latchesWith g)

theorem State.mem_latching {s : State} {g k : Nat} : k ∈ s.latching g ↔ k < 16 ∧ s.latchesWith g k = true := by
  rw [State.latching, List.mem_filter, List.mem_range]

theorem Only.cycleKept {s t : State} {g : Nat} (h : Only (runRegs g) runTabs s t) (hg : g < 64) {k a : Nat} (hk : k < 16) (ha : a < 256) :
    t.reg ((0xA200 + k) * 256 + a) = s.reg ((0xA200 + k) * 256 + a) := by
  refine h.regs _ (fun hmem => ?_) (quietReg_snapshot hk ha)
  simp only [runRegs, List.mem_cons, List.not_mem_nil, or_false, Reg.CYCLE_GROUP.CYCLE_NUMBER, Reg.CYCLE_GROUP.NEXT_START,
    Reg.CYCLE_GROUP.TIMING_PENDING] at hmem
  omega

theorem execCycleStart_early {s : State} {g : GroupNo} {n : Nat} (ha : s.groupsAct = true) (hn : s.nextStart g = some n)
    (h : s.clock.ptp < n * nsUnit) : exec (.cycleStart g) s = .next s.deliverDue := by
  have hstay : s.cycleStart g = s := by
    unfold State.cycleStart
    rw [hn]
    exact if_neg (Nat.not_le.mpr h)
  change execCycleStart g s = _
  unfold execCycleStart
  rw [if_neg (by rw [ha]; decide), hstay]
  dsimp only
  rw [bne_self_eq_false]
  rfl

/-- A number that goes up by one has changed. -/
theorem succ_mod_ne (x : Nat) : (x + 1) % 2 ^ 64 ≠ x := by omega

theorem execCycleStart_runs {s : State} {g : GroupNo} {n : Nat} (ha : s.groupsAct = true) (hn : s.nextStart g = some n)
    (h : n * nsUnit ≤ s.clock.ptp) : exec (.cycleStart g) s = .next
      (((s.finishCycle g).runCycle g n).forAll (((s.finishCycle g).runCycle g n).latching g) State.latchGroup).deliverDue := by
  have hrun : s.cycleStart g = (s.finishCycle g).runCycle g n := by
    unfold State.cycleStart
    rw [hn]
    exact if_pos h
  have hnum : ((s.finishCycle g).runCycle g n).reg (Reg.CYCLE_GROUP.CYCLE_NUMBER g) ≠ s.reg (Reg.CYCLE_GROUP.CYCLE_NUMBER g) := by
    rw [((s.finishCycle g).runCycle_shows n g.isLt).1, CycleKeeps.finishCycle s g _ (.cycleNumber g.isLt)]
    exact succ_mod_ne _
  change execCycleStart g s = _
  unfold execCycleStart
  rw [if_neg (by rw [ha]; decide), hrun]
  dsimp only
  rw [bne_iff_ne.mpr hnum]
  rfl

/-- A start that has come. -/
theorem execCycleStart_starts {s : State} {g : GroupNo} {n : Nat} (ha : s.groupsAct = true) (hn : s.nextStart g = some n)
    (hcount : ∀ k : Fin 16, s.latchesWith g k = true → s.reg (Reg.SNAPSHOT_GROUP.COUNT k) ≤ 8192) (h : n * nsUnit ≤ s.clock.ptp) :
    ∃ t, exec (.cycleStart g) s = .next t
      ∧ t.reg (Reg.CYCLE_GROUP.CYCLE_NUMBER g) = (s.reg (Reg.CYCLE_GROUP.CYCLE_NUMBER g) + 1) % 2 ^ 64
      ∧ t.tab Tab.cycStart g = n + 1 ∧ t.tab Tab.cycNext g = n + t.groupPeriod g + 1
      ∧ (∀ k : Fin 16, s.latchesWith g k = true → t.reg (Reg.SNAPSHOT_GROUP.SNAPS k) = (s.reg (Reg.SNAPSHOT_GROUP.SNAPS k) + 1) % 2 ^ 32)
      ∧ ((∀ k : Fin 16, s.latchesWith g k = false) → Only (runRegs g) runTabs (s.finishCycle g) t) := by
  have hrun := Only.runCycle (s.finishCycle g) n g.isLt
  obtain ⟨hnumber, hstart, hnext⟩ := (s.finishCycle g).runCycle_shows n g.isLt
  rw [CycleKeeps.finishCycle s g _ (.cycleNumber g.isLt)] at hnumber
  have hshow {k a : Nat} (hk : k < 16) (hb : a < 256) :
      ((s.finishCycle g).runCycle g n).reg ((0xA200 + k) * 256 + a) = s.reg ((0xA200 + k) * 256 + a) :=
    (hrun.cycleKept g.isLt hk hb).trans (CycleKeeps.finishCycle s g _ (.snapshot hk hb))
  have hsame {k : Nat} (hk : k < 16) : ((s.finishCycle g).runCycle g n).latchesWith g k = s.latchesWith g k := by
    unfold State.latchesWith
    rw [hshow hk (by decide), hshow hk (by decide)]
  have hexec := execCycleStart_runs ha hn h
  generalize hu : (s.finishCycle g).runCycle g n = u at *
  have hlt : ∀ k ∈ u.latching g, k < 16 := fun k hk => (State.mem_latching.mp hk).1
  have hlatch : Only snapshotRegs latchTabs u (u.forAll (u.latching g) State.latchGroup) := by
    refine Only.latchGroups u hlt fun k hk => ?_
    obtain ⟨hk, hw⟩ := State.mem_latching.mp hk
    rw [hshow hk (by decide)]
    exact hcount ⟨k, hk⟩ (hsame hk ▸ hw)
  have hdone : Only [] [] (u.forAll (u.latching g) State.latchGroup) (u.forAll (u.latching g) State.latchGroup).deliverDue := Only.deliverDue _
  have hall := hlatch.trans (hdone.mono (by simp) (by simp))
  have hclear : Reg.CYCLE_GROUP.CYCLE_NUMBER g ∉ snapshotRegs := by
    intro hmem
    obtain ⟨k, -, hk⟩ := List.mem_flatMap.mp hmem
    have := latchRegs_range hk
    simp only [Reg.CYCLE_GROUP.CYCLE_NUMBER] at this
    omega
  refine ⟨_, hexec, ?_, ?_, ?_, fun k hk => ?_, fun hnone => ?_⟩
  · rw [hall.regs _ hclear (quietReg_cycleGroup g.isLt (by decide)), hnumber]
  · rw [hall.tabs _ _ (by omega) (by decide) (by decide), hstart]
  · unfold State.groupPeriod
    rw [hall.tabs _ _ (by omega) (by decide) (by decide), hall.tabs _ _ (by omega) (by decide) (by decide), hnext]
    rfl
  · rw [hdone.regs _ (by simp) (quietReg_snapshot k.isLt (by decide)),
      State.snaps_latchGroups u hlt (List.Nodup.filter _ List.nodup_range) (State.mem_latching.mpr ⟨k.isLt, (hsame k.isLt).trans hk⟩),
      hshow k.isLt (by decide)]
  · have hnil : u.latching g = [] := List.filter_eq_nil_iff.mpr fun k hk => by
      rw [hsame (List.mem_range.mp hk), hnone ⟨k, List.mem_range.mp hk⟩]
      decide
    rw [hnil]
    exact hrun.trans (Only.deliverDue u)

end Sys2Proof.Machine
end

section
/-!
SUPPORT. Cycle groups (R375, R377 to R379, R400): the bench trigger and the publication lists.
-/
namespace Sys2Proof.Machine

/-! ### BENCH_TRIGGER -/

/-- The registers and tables of a trigger of bench `b`. -/
def triggerRegs (b : Nat) : List Nat := Reg.BENCH.EVENTS b :: (Reg.BENCH.EVENTS b + 1 + 2) :: startRegs b
def triggerTabs : List Nat := Tab.benchTrigger :: startTabs

theorem Only.triggerBench (s : State) {b : Nat} (cycle ns : Nat) (hb : b < 128) :
    Only (triggerRegs b) triggerTabs s (s.triggerBench b cycle ns) := by
  have hmiss : Only (triggerRegs b) triggerTabs s (s.missTrigger b) := by
    unfold State.missTrigger State.benchEvent
    exact (Only.benchCounted _ _ _ hb (by decide)).trans (Only.event _ _ _ _ (.inl (by simp [triggerRegs])) (.inl (by simp [triggerRegs])))
  obtain ⟨-, -, -, -, hstart⟩ := s.startTrigger_shows cycle ns hb
  unfold State.triggerBench
  split
  · exact hmiss
  · split
    · exact hstart.mono (fun k hk => List.mem_cons_of_mem _ (List.mem_cons_of_mem _ hk)) (fun k hk => List.mem_cons_of_mem _ hk)
    · split
      · exact Only.setTab _ _ _ _ (by omega) (.inl (by decide))
      · exact hmiss

theorem State.tab_triggerBenches (s : State) {l : List Nat} (cycle ns : Nat) (hl : ∀ b ∈ l, b < 128) {t i : Nat} (hi : i < 2 ^ 40)
    (ht : t ∉ triggerTabs) (hq : quietTab t = true) :
    (s.forAll l (fun u b => u.triggerBench b cycle ns)).tab t i = s.tab t i :=
  State.view_forAll (g := fun u => u.tab t i) (fun u b hb => (Only.triggerBench u cycle ns (hl b hb)).tabs t i hi ht hq) s

/-- The group's trigger is marked as raised. -/
def State.triggerMarked (s : State) (g : Nat) : State := s.setTab Tab.cycTriggered g (s.reg (Reg.CYCLE_GROUP.CYCLE_NUMBER g) + 1)

theorem Only.triggerMarked {R T : List Nat} (s : State) {g : Nat} (hg : g < 64) (ht : Tab.cycTriggered ∈ T) : Only R T s (s.triggerMarked g) :=
  Only.setTab _ _ _ _ (by omega) (.inl ht)

theorem State.raiseTrigger_none {s : State} {g : Nat}
    (h : s.benchesOf g = [] ∨ (s.reg (Reg.CYCLE_GROUP.DOVETAIL g) = 2 ∧ s.dovetailActive = false)) : s.raiseTrigger g = s.triggerMarked g := by
  unfold State.raiseTrigger State.when
  obtain hnil | ⟨hd, ha⟩ := h
  · rw [hnil]
    exact ite_self _
  · rw [hd, ha]
    rfl

theorem State.raiseTrigger_single {s : State} {g b : Nat} (hb : s.benchesOf g = [b])
    (h : s.reg (Reg.CYCLE_GROUP.DOVETAIL g) ≠ 2 ∨ s.dovetailActive = true) :
    s.raiseTrigger g = (s.triggerMarked g).triggerBench b (s.reg (Reg.CYCLE_GROUP.CYCLE_NUMBER g))
      ((s.tab Tab.cycStart g - 1) + s.groupTrigger g * 5 / 4) := by
  have hon : (s.reg (Reg.CYCLE_GROUP.DOVETAIL g) != 2 || s.dovetailActive) = true := by
    rw [Bool.or_eq_true, bne_iff_ne]
    exact h
  unfold State.raiseTrigger State.when
  rw [hb, if_pos hon]
  rfl

theorem State.raiseTrigger_marks (s : State) {g : Nat} (hg : g < 64) :
    (s.raiseTrigger g).tab Tab.cycTriggered g = s.reg (Reg.CYCLE_GROUP.CYCLE_NUMBER g) + 1 := by
  unfold State.raiseTrigger State.when
  dsimp only
  split
  · rw [State.tab_triggerBenches _ _ _ (fun _ => State.benchesOf_lt) (by omega) (by decide) (by decide), State.tab_setTab_same]
  · exact State.tab_setTab_same _ _ _ _

theorem execBenchTrigger_eq {s : State} {g : GroupNo} (ha : s.groupsAct = true) (hen : s.reg (Reg.CYCLE_GROUP.ENABLE g) = 1)
    (ho : s.offsetReached g (s.groupTrigger g) = true) :
    exec (.benchTrigger g) s = if s.tab Tab.cycTriggered g = s.reg (Reg.CYCLE_GROUP.CYCLE_NUMBER g) + 1 then .next s
      else .next (s.raiseTrigger g).deliverDue := by
  change execBenchTrigger g s = _
  unfold execBenchTrigger State.triggerDue
  rw [ha, hen, ho]
  by_cases h : s.tab Tab.cycTriggered g = s.reg (Reg.CYCLE_GROUP.CYCLE_NUMBER g) + 1
  · rw [if_pos h, h, bne_self_eq_false]
    rfl
  · rw [if_neg h, bne_iff_ne.mpr h]
    rfl

/-- A group's trigger starts its one idle bench. -/
theorem State.raiseTrigger_starts {s : State} {g b : Nat} (hg : g < 64) (hlt : b < 128) (hb : s.benchesOf g = [b])
    (h : s.reg (Reg.CYCLE_GROUP.DOVETAIL g) ≠ 2 ∨ s.dovetailActive = true) (hidle : s.benchState b = 0) (hheld : s.benchHeld b = false) :
    (s.raiseTrigger g).benchState b = 1 ∧ (s.raiseTrigger g).reg (Reg.BENCH.PC b) = s.reg (Reg.BENCH.TRIGGER_ENTRY b)
      ∧ (s.raiseTrigger g).cw b Cw.cause = 1 ∧ (s.raiseTrigger g).cw b Cw.cycleNo = s.reg (Reg.CYCLE_GROUP.CYCLE_NUMBER g)
      ∧ Only (startRegs b) (Tab.cycTriggered :: startTabs) s (s.raiseTrigger g) := by
  have hmark : Only [] [Tab.cycTriggered] s (s.triggerMarked g) := Only.triggerMarked s hg (by simp)
  have hstate : (s.triggerMarked g).benchState b = 0 := (State.reg_setTab _ _ _ _ _).trans hidle
  have hfree : ¬(s.triggerMarked g).benchHeld b = true := by
    unfold State.benchHeld
    rw [hmark.misc hlt (by decide) (by decide)]
    exact Bool.not_eq_true _ ▸ hheld
  obtain ⟨hrun, hpc, hcause, hcycle, honly⟩ := (s.triggerMarked g).startTrigger_shows (s.reg (Reg.CYCLE_GROUP.CYCLE_NUMBER g))
    ((s.tab Tab.cycStart g - 1) + s.groupTrigger g * 5 / 4) hlt
  have heq := State.raiseTrigger_single hb h
  unfold State.triggerBench at heq
  rw [if_neg hfree, if_pos hstate] at heq
  rw [heq]
  exact ⟨hrun, hpc.trans (State.reg_setTab _ _ _ _ _), hcause, hcycle,
    (hmark.mono (by simp) (by simp)).trans (honly.mono (fun _ hk => hk) fun _ hk => List.mem_cons_of_mem _ hk)⟩

/-! ### PUBLICATION_RUN -/

/-- A list stands by: its group is of the dovetail, and the device is not active. -/
def State.standsBy (s : State) (g : Nat) : Prop := 1 ≤ s.reg (Reg.CYCLE_GROUP.DOVETAIL g) ∧ s.dovetailActive = false

/-- A list is marked as run. -/
def State.listMarked (s : State) (l v : Nat) : State := s.setTab Tab.listRan l (s.runMark (listGroup v))

theorem Only.listMarked {R T : List Nat} (s : State) {l : Nat} (v : Nat) (hl : l < 4096) (ht : Tab.listRan ∈ T) : Only R T s (s.listMarked l v) :=
  Only.setTab _ _ _ _ (by omega) (.inl ht)

theorem Only.listCountUp {R T : List Nat} (s : State) {l : Nat} (lsb : Nat) (hl : l < 4096) (ht : Tab.win 0x7033 ∈ T) :
    Only R T s (s.listCountUp l lsb) :=
  Only.setTab _ _ _ _ (by omega) (.inl ht)

theorem State.listCountUp_counts (s : State) (l lsb : Nat) : bits ((s.listCountUp l lsb).elem 0x7033 0 l) (lsb + 31) lsb
    = (bits (s.elem 0x7033 0 l) (lsb + 31) lsb + 1) % 2 ^ 32 := by
  unfold State.listCountUp State.setElem State.elem
  rw [State.tab_setTab_same, bits_setBits_same, show lsb + 31 + 1 - lsb = 32 by omega]

theorem State.elem_listMarked (s : State) {l e : Nat} (v : Nat) (hl : l < 4096) (he : e < 4096) :
    (s.listMarked l v).elem 0x7033 0 e = s.elem 0x7033 0 e :=
  (Only.listMarked (R := []) (T := [Tab.listRan]) s v hl (by simp)).tabs _ _ (by omega) (by decide) (by decide)

theorem State.runList_standby {s : State} {l v : Nat} (h : s.standsBy (listGroup v)) :
    s.runList l v = (s.listMarked l v).listCountUp l 160 := by
  unfold State.runList
  exact if_pos h

theorem State.runList_full {s : State} {l v : Nat} (h : ¬s.standsBy (listGroup v)) (hf : s.injectFull (listPort v) = true) :
    s.runList l v = ((s.listMarked l v).listCountUp l 192).event (Reg.CYCLE_GROUP.EVENTS (listGroup v)) 1 (0x1A40 + listGroup v) := by
  unfold State.runList
  exact (if_neg h).trans (if_pos hf)

theorem State.built_setTab (s : State) (t i v : Nat) : (s.setTab t i v).built = s.built := rfl

/-- The frame of list `l`. -/
def listFrame (l v : Nat) (octets : Bytes) : Built :=
  { port := listPort v, part := listPart v, kind := 1, num := l, octets, mirror := none }

/-- The list's frame is stamped and numbered. -/
def State.listSent (s : State) (l : Nat) : State :=
  let s := s.setElem 0x7033 0 l (setBits (s.elem 0x7033 0 l) 159 80 (time80 s.ptpNs))
  s.setTab Tab.listSeq l ((s.tab Tab.listSeq l + 1) % 65536)

theorem State.tab_withBuilt (s : State) (l : List Built) (t i : Nat) : { s with built := l }.tab t i = s.tab t i := rfl

theorem State.listSeq_listSent (s : State) {l : Nat} (hl : l < 4096) :
    (s.listSent l).tab Tab.listSeq l = (s.tab Tab.listSeq l + 1) % 65536 := by
  unfold State.listSent State.setElem
  dsimp only
  rw [State.tab_setTab_same, State.tab_setTab_table _ _ (by decide) (by omega) (by omega)]

theorem State.built_listSent (s : State) (l : Nat) : (s.listSent l).built = s.built := by
  unfold State.listSent
  dsimp only
  rw [State.built_setTab]
  exact State.built_setTab _ _ _ _

theorem State.runList_builds {s : State} {l v : Nat} (h : ¬s.standsBy (listGroup v)) (hf : s.injectFull (listPort v) = false) :
    s.runList l v = { (s.listMarked l v).listSent l with
      built := s.built ++ [listFrame l v ((s.listMarked l v).buildList l v)] } := by
  have hbuilt : ((s.listMarked l v).listSent l).built = s.built := (State.built_listSent _ _).trans (State.built_setTab _ _ _ _)
  rw [← hbuilt]
  unfold State.runList
  exact (if_neg h).trans (if_neg (by exact Bool.not_eq_true _ ▸ hf))

theorem Only.listSent {R T : List Nat} (s : State) {l : Nat} (hl : l < 4096) (hw : Tab.win 0x7033 ∈ T) (ht : Tab.listSeq ∈ T) :
    Only R T s (s.listSent l) :=
  (Only.setTab _ _ _ _ (by omega) (.inl hw)).trans (Only.setTab _ _ _ _ (by omega) (.inl ht))

theorem State.listEntries_slot_lt {s : State} {v : Nat} {e : Nat × Nat} (h : e ∈ s.listEntries v) : e.1 < 131072 := by
  obtain ⟨k, -, rfl⟩ := List.mem_map.mp h
  exact bits_lt _ 63 47

theorem Only.listEntries {R T : List Nat} {s t : State} (h : Only R T s t) (v : Nat) (ht : Tab.win 0x7032 ∉ T) : t.listEntries v = s.listEntries v := by
  refine List.map_congr_left fun k hk => ?_
  have hfirst : listFirst v < 2 ^ 18 := bits_lt v 175 158
  have hcount : listCount v < 2 ^ 11 := bits_lt v 157 147
  have := List.mem_range.mp hk
  have helem : t.elem 0x7032 0 (listFirst v + k) = s.elem 0x7032 0 (listFirst v + k) := h.tabs _ _ (by omega) ht (by decide)
  rw [helem]

/-- What leaves slots, entries, templates and the list's number leaves what the list would build. -/
theorem Only.buildList {R T : List Nat} {s t : State} (h : Only R T s t) {l : Nat} (v : Nat) (hl : l < 4096) 
    (hT : ∀ k ∈ [Tab.win 0x7010, Tab.win 0x7031, Tab.win 0x7032, Tab.listSeq], k ∉ T) (hn : Reg.CYCLE_GROUP.CYCLE_NUMBER (listGroup v) ∉ R) : t.buildList l v = s.buildList l v := by
  have htemplate : t.elem 0x7031 0 l = s.elem 0x7031 0 l := h.tabs _ _ (by omega) (hT _ (by simp)) (by decide)
  have hseq : t.tab Tab.listSeq l = s.tab Tab.listSeq l := h.tabs _ _ (by omega) (hT _ (by simp)) (by decide)
  have hnum := h.regs _ hn (quietReg_cycleGroup (listGroup_lt v) (by decide))
  have hslot : ∀ e ∈ s.listEntries v, t.slot e.1 = s.slot e.1 := fun e he =>
    h.slot (Nat.lt_trans (State.listEntries_slot_lt he) (by norm_num)) (hT _ (by simp))
  have hrecs : (s.listEntries v).flatMap (fun e => if listFormat v == 1 then fullRecord (t.slot e.1) e.2 else compactRecord (t.slot e.1) e.2)
      = (s.listEntries v).flatMap (fun e => if listFormat v == 1 then fullRecord (s.slot e.1) e.2 else compactRecord (s.slot e.1) e.2) :=
    List.flatMap_congr fun e he => by rw [hslot e he]
  unfold State.buildList
  rw [htemplate, hseq, hnum, h.listEntries v (hT _ (by simp))]
  dsimp only
  split
  · refine congrArg (ipCarriage (listL3 v)) (List.foldl_ext _ _ _ fun b e he => ?_)
    rw [hslot e he]
  · rw [hrecs]


theorem execPublicationRun_eq {s : State} {l : Fin 4096} (ha : s.groupsAct = true) : exec (.publicationRun l) s
    = if s.listDue l (s.listElem l) = true then .next (s.runList l (s.listElem l)).deliverDue else .next s := by
  change execPublicationRun l s = _
  unfold execPublicationRun
  dsimp only
  rw [ha, Bool.true_and]
  rfl

/-- A list that stands by is counted as suppressed. -/
theorem State.runList_suppressed {s : State} {l v : Nat} (hl : l < 4096) (h : s.standsBy (listGroup v)) :
    (s.runList l v).deliverDue.tab Tab.listRan l = s.runMark (listGroup v)
      ∧ bits ((s.runList l v).deliverDue.elem 0x7033 0 l) 191 160 = (bits (s.elem 0x7033 0 l) 191 160 + 1) % 2 ^ 32
      ∧ Only [] [Tab.listRan, Tab.win 0x7033] s (s.runList l v).deliverDue := by
  have hup : Only [] [Tab.win 0x7033] (s.listMarked l v) ((s.listMarked l v).listCountUp l 160) := Only.listCountUp _ _ hl (by simp)
  have hend (u : State) : Only [] [] u u.deliverDue := Only.deliverDue u
  rw [State.runList_standby h]
  refine ⟨?_, ?_, ((Only.listMarked s v hl (by simp)).trans (hup.mono (by simp) (by simp))).trans ((hend _).mono (by simp) (by simp))⟩
  · rw [(hend _).tabs _ _ (by omega) (by simp) (by decide), hup.tabs _ _ (by omega) (by decide) (by decide)]
    exact State.tab_setTab_same _ _ _ _
  · unfold State.elem
    rw [(hend _).tabs _ _ (by omega) (by simp) (by decide)]
    exact (State.listCountUp_counts _ _ 160).trans (by rw [State.elem_listMarked s v hl hl]; rfl)

/-- A list without room is counted as an overrun, and flagged. -/
theorem State.runList_overrun {s : State} {l v : Nat} (hl : l < 4096) (h : ¬s.standsBy (listGroup v)) (hf : s.injectFull (listPort v) = true) :
    bits ((s.runList l v).deliverDue.elem 0x7033 0 l) 223 192 = (bits (s.elem 0x7033 0 l) 223 192 + 1) % 2 ^ 32
      ∧ bit ((s.runList l v).deliverDue.reg (Reg.CYCLE_GROUP.EVENTS (listGroup v))) 1 = true
      ∧ Only [Reg.CYCLE_GROUP.EVENTS (listGroup v), Reg.CYCLE_GROUP.EVENTS (listGroup v) + 2] [Tab.listRan, Tab.win 0x7033] s
          (s.runList l v).deliverDue := by
  have hq := quietReg_cycleGroup (listGroup_lt v) (by decide : 0x0C < 256)
  have hev (u : State) : Only [Reg.CYCLE_GROUP.EVENTS (listGroup v), Reg.CYCLE_GROUP.EVENTS (listGroup v) + 2] []
      u (u.event (Reg.CYCLE_GROUP.EVENTS (listGroup v)) 1 (0x1A40 + listGroup v)) := Only.event _ _ _ _ (.inl (by simp)) (.inl (by simp))
  have hend (u : State) : Only [] [] u u.deliverDue := Only.deliverDue u
  rw [State.runList_full h hf]
  refine ⟨?_, ?_, (((Only.listMarked s v hl (by simp)).trans (Only.listCountUp _ _ hl (by simp))).trans ((hev _).mono (by simp) (by simp))).trans
    ((hend _).mono (by simp) (by simp))⟩
  · unfold State.elem
    rw [(hend _).tabs _ _ (by omega) (by simp) (by decide), (hev _).tabs _ _ (by omega) (by simp) (by decide)]
    exact (State.listCountUp_counts _ _ 192).trans (by rw [State.elem_listMarked s v hl hl]; rfl)
  · rw [(hend _).regs _ (by simp) hq, State.reg_event_flag _ _ _ _ hq]
    exact bit_setBit _ _ _

/-- Otherwise it builds its frame. -/
theorem State.runList_published {s : State} {l v : Nat} (hl : l < 4096) (h : ¬s.standsBy (listGroup v)) (hf : s.injectFull (listPort v) = false) :
    (s.runList l v).deliverDue.built = s.built ++ [listFrame l v (s.buildList l v)]
      ∧ (s.runList l v).deliverDue.tab Tab.listSeq l = (s.tab Tab.listSeq l + 1) % 65536
      ∧ Only [] [Tab.listRan, Tab.listSeq, Tab.win 0x7033] { s with built := (s.runList l v).deliverDue.built } (s.runList l v).deliverDue := by
  have hmark : Only [] [Tab.listRan] s (s.listMarked l v) := Only.listMarked s v hl (by simp)
  have hsent : Only [] [Tab.listSeq, Tab.win 0x7033] (s.listMarked l v) ((s.listMarked l v).listSent l) := Only.listSent _ hl (by simp) (by simp)
  have hend (u : State) : Only [] [] u u.deliverDue := Only.deliverDue u
  have hoctets : (s.listMarked l v).buildList l v = s.buildList l v := hmark.buildList v hl (by decide) (by simp)
  have hrun := State.runList_builds (l := l) h hf
  rw [hoctets] at hrun
  have hbuilt : (s.runList l v).deliverDue.built = s.built ++ [listFrame l v (s.buildList l v)] := by
    rw [(hend _).built, hrun]
  refine ⟨hbuilt, ?_, ?_⟩
  · rw [(hend _).tabs _ _ (by omega) (by simp) (by decide), hrun]
    exact ((State.tab_withBuilt _ _ _ _).trans (State.listSeq_listSent _ hl)).trans (by rw [hmark.tabs _ _ (by omega) (by decide) (by decide)])
  · rw [hbuilt, hrun]
    exact (((hmark.mono (by simp) (by simp)).trans (hsent.mono (by simp) (by simp))).withBuilt _).trans ((hend _).mono (by simp) (by simp))

end Sys2Proof.Machine
end

section
/-!
A statement of 15_signal_image.md settled.
-/
open Sys2Proof Sys2Proof.Machine

/-- Settles O39: the timing follows the written one, a start that has come finishes the cycle before and latches what it triggers, and
the bench trigger and the lists are taken once a cycle. -/
theorem cyclesRun : Obligations.CyclesRun := by
  unfold Obligations.CyclesRun
  refine ⟨fun base period x h => firstStart_spec base x h, fun s w g hp hoff => execCycleGroupEnable_starts hp hoff,
    fun s w g hp => ⟨execApplyTiming_refused hp, execApplyTiming_schedules hp⟩, fun s g n ha hn => ?_,
    fun s g ha hen ho => ?_, fun s l ha => ?_⟩
  · intro snaps hcount
    have hsnaps (k : Fin 16) : s.latchesWith g k = true ↔ snaps k := by
      unfold State.latchesWith
      rw [Bool.and_eq_true, beq_iff_eq, beq_iff_eq]
    refine ⟨execCycleStart_early ha hn, fun h => ?_⟩
    obtain ⟨t, hexec, hnum, hstart, hnext, hlatch, honly⟩ := execCycleStart_starts ha hn (fun k hk => hcount k ((hsnaps k).mp hk)) h
    refine ⟨t, hexec, hnum, hstart, hnext, fun k hk => hlatch k ((hsnaps k).mpr hk), State.finishCycle_nothing, fun hnone => honly fun k => ?_⟩
    exact Bool.not_eq_true _ ▸ fun hk => hnone k ((hsnaps k).mp hk)
  · have hexec := execBenchTrigger_eq ha hen ho
    have hend (u : State) : Only [] [] u u.deliverDue := Only.deliverDue u
    have hmarks := s.raiseTrigger_marks g.isLt
    refine ⟨fun h => hexec.trans (if_pos h), fun h => ⟨_, hexec.trans (if_neg h), ?_, fun hnone => ?_, fun b hb hd hidle hheld => ?_⟩⟩
    · rw [(hend _).tabs _ _ (by omega) (by simp) (by decide), hmarks]
    · rw [State.raiseTrigger_none hnone]
      exact (Only.triggerMarked s g.isLt (by simp)).trans ((hend _).mono (by simp) (by simp))
    · obtain ⟨hrun, hpc, hcause, hcycle, honly⟩ := State.raiseTrigger_starts g.isLt b.isLt hb hd hidle hheld
      exact ⟨((hend _).benchReg b.isLt (by decide) (by simp)).trans hrun, ((hend _).benchReg b.isLt (by decide) (by simp)).trans hpc,
        ((hend _).cw b.isLt (by decide) (by simp)).trans hcause, ((hend _).cw b.isLt (by decide) (by simp)).trans hcycle,
        honly.trans ((hend _).mono (by simp) (by simp))⟩
  · have hexec := execPublicationRun_eq (l := l) ha
    refine ⟨fun h => hexec.trans (if_neg h), fun h hs => ⟨_, hexec.trans (if_pos h), State.runList_suppressed l.isLt hs⟩,
      fun h hs hf => ⟨_, hexec.trans (if_pos h), State.runList_overrun l.isLt hs hf⟩,
      fun h hs hf => ⟨_, hexec.trans (if_pos h), State.runList_published l.isLt hs hf⟩⟩

end

section
/-!
SUPPORT. A state for a refutation: the holder code of a fence is unbounded in the model's state, so that the registers of the port that
it names lie among those of other objects (R348, R351).
-/
namespace Sys2Proof.Machine

/-- A register in the state that a command answers. -/
def regAfter (o : Next) (k : Nat) : Option Nat :=
  match o with
  | .next t => some (t.reg k)
  | _ => none

/-- The fence whose reclaim runs names credits of port 0x3400, whose LAST_CHANGE is at the place of EVENTS of the tally's control, and
whose LINK_STATE is at the place of SNAP_TIME. -/
def farFence : Fence := { holder := holder 4 0x3400, state := 2, log := none, units := 0 }

def farFenceState : State :=
  let s := runningHost.setReg Reg.TALLY_CONTROL.SNAP_TIME 1
  { s with fences := [farFence] }

theorem farFenceState_frees :
    (regAfter (exec .reclaimDone farFenceState) Reg.TALLY_CONTROL.EVENTS).map (bit · 2) = some false := by decide +kernel

end Sys2Proof.Machine
end

section
/-!
A statement of 14_tally.md settled.
-/
open Sys2Proof Sys2Proof.Machine

/-- Refutes O50: the number of a fenced holder is unbounded in a state. In `farFenceState` the end of the reclaim frees the credits of a
port beyond the device's, which ends the link that it names and writes the instant over the tally's EVENTS, where RECLAIMED had been set. -/
theorem not_tallyServed : ¬ Obligations.TallyServed := by
  intro h
  obtain ⟨-, -, -, hdone, -⟩ := h
  obtain ⟨t, ht, hflag, -⟩ := (hdone farFenceState).2 farFence (by decide +kernel)
  have hnow := farFenceState_frees
  rw [ht] at hnow
  exact absurd (hflag.symm.trans (Option.some.inj hnow)) (by decide)
end

section
/-!
SUPPORT. A state for a refutation: the port of a copy is unbounded in the model's state, so that the counters that are numbered from it
lie beyond the counters' table (R502, R522). The core's stop walks every port, lane and bench; where their registers are at their defaults,
it passes over all but the host ports.
-/
namespace Sys2Proof.Machine

/-- What every step keeps, the fold keeps. -/
theorem State.forAll_invariant {α : Type} {Q : State → Prop} {f : State → α → State} {l : List α} (h : ∀ u, ∀ a ∈ l, Q u → Q (f u a)) {s : State}
    (hs : Q s) : Q (s.forAll l f) := by
  induction l generalizing s with
  | nil => exact hs
  | cons a l ih => exact ih (fun u b hb => h u b (List.mem_cons_of_mem _ hb)) (h s a List.mem_cons_self hs)

/-! ### Defaults of fabric ports, lanes and benches -/

/-- Registers of lanes, fabric ports and benches. -/
def coreKey (k : Nat) : Bool := (0x100000 ≤ k && k < 0x160000) || (0x810000 ≤ k && k < 0x818000)

theorem Dict.special_core {k : Nat} (h : coreKey k = true) : Dict.special k = none := by
  have hk : (0x100000 ≤ k ∧ k < 0x160000) ∨ (0x810000 ≤ k ∧ k < 0x818000) := by simpa [coreKey] using h
  clear h
  unfold Dict.special
  simp only [Reg.ZDP_CONFIG.HP1_MAC, Reg.IDENTITY.ISLAND_FW_VERSION, Reg.FIRMWARE.SLOT_A_VERSION, Reg.HASH_PROFILE.SELECTORS,
    Reg.EM_PROFILE.SELECTORS, Reg.VOLTAGE.TABLE, Reg.VOLTAGE.VMIN]
  iterate 10 rw [if_neg (by omega)]

theorem Dict.dflt_core {i a : Nat} {o : Obj} (h : coreKey (i * 256 + a) = true) (ha : a < 256) (hl : Dict.lookup i = some o)
    (hr : ((o.row a).all fun r => r.dflt == 0) = true) : Dict.dflt (i * 256 + a) = 0 := by
  unfold Dict.dflt
  rw [Dict.special_core h, show (i * 256 + a) / 256 = i by omega, show (i * 256 + a) % 256 = a by omega, hl]
  dsimp only
  cases hrow : o.row a with
  | none => rfl
  | some r => simpa [hrow] using hr

/-- Every register of a lane, a fabric port or a bench is unlisted. -/
def State.coreUnlisted (s : State) : Bool := s.regs.all (fun e => !coreKey e.1)

theorem State.reg_coreUnlisted {s : State} (h : s.coreUnlisted = true) {k : Nat} (hk : coreKey k = true) : s.reg k = Dict.dflt k := by
  unfold State.coreUnlisted at h
  unfold State.reg
  generalize s.regs = m at h
  induction m with
  | nil => rfl
  | cons e m ih =>
    obtain ⟨he, hm⟩ := Bool.and_eq_true_iff.mp ((List.all_cons ..).symm.trans h)
    rw [SMap.get, if_neg (by rintro rfl; simp [hk] at he), ih hm]

section
variable {s : State} (h : s.coreUnlisted = true)
include h

theorem State.lane_unlisted {n a : Nat} (hn : n < 520) (ha : a ∈ [0x01, 0x1C, 0x1D, 0x1E]) : s.lane n a = 0 := by
  have ha' : a < 256 := by
    simp only [List.mem_cons, List.not_mem_nil, or_false] at ha
    omega
  have hrows : ∀ a ∈ [0x01, 0x1C, 0x1D, 0x1E], ((Dict.obj1000.row a).all fun r => r.dflt == 0) = true ∧ ((Dict.obj1200.row a).all fun r => r.dflt == 0) = true := by
    decide
  obtain ⟨hrow, hrow'⟩ := hrows a ha
  unfold State.lane laneKey
  split
  · have hkey : coreKey ((0x1000 + n) * 256 + a) = true := by simp [coreKey]; omega
    exact (State.reg_coreUnlisted h hkey).trans (Dict.dflt_core hkey ha'
      (Dict.lookup_of_run (lo := 0x1000) (n := 512) rfl (by decide) (by decide) (by omega) (by omega)) hrow)
  · have hkey : coreKey ((0x1200 + (n - 512)) * 256 + a) = true := by simp [coreKey]; omega
    exact (State.reg_coreUnlisted h hkey).trans (Dict.dflt_core hkey ha'
      (Dict.lookup_of_run (lo := 0x1200) (n := 8) rfl (by decide) (by decide) (by omega) (by omega)) hrow')

theorem State.link_unlisted {p : Nat} (hp : p < 512) : s.reg (Reg.PORT.LINK_STATE p) = 0 := by
  have hkey : coreKey (Reg.PORT.LINK_STATE p) = true := by simp [coreKey, Reg.PORT.LINK_STATE]; omega
  exact (State.reg_coreUnlisted h hkey).trans (Dict.dflt_core hkey (by decide)
    (Dict.lookup_of_run (lo := 0x1400) (n := 512) rfl (by decide) (by decide) (by omega) (by omega)) (by decide))

theorem State.benchActive_unlisted {b : Nat} (hb : b < 128) : s.benchActive b = false := by
  have hkey : coreKey (Reg.BENCH.STATE b) = true := by simp [coreKey, Reg.BENCH.STATE]; omega
  have hst : s.benchState b = 0 := (State.reg_coreUnlisted h hkey).trans (Dict.dflt_core hkey (by decide)
    (Dict.lookup_of_run (lo := 0x8100) (n := 128) rfl (by decide) (by decide) (by omega) (by omega)) (by decide))
  unfold State.benchActive
  rw [hst]
  rfl

/-! ### The core's stop over registers at their defaults -/

theorem State.haltBenches_unlisted : s.forAll (List.range 128) State.haltBench = s := by
  refine State.forAll_invariant (Q := (· = s)) ?_ rfl
  rintro u b hb rfl
  unfold State.haltBench
  rw [State.benchActive_unlisted h (List.mem_range.mp hb)]
  rfl

theorem State.endTests_unlisted : s.endTests = s := by
  have hnone : (List.range 520).filter s.testing = [] := List.filter_eq_nil_iff.mpr fun n hn => by
    have hn := List.mem_range.mp hn
    unfold State.testing
    rw [State.lane_unlisted h hn (by decide), State.lane_unlisted h hn (by decide), State.lane_unlisted h hn (by decide)]
    decide
  unfold State.endTests
  rw [hnone]
  rfl

theorem State.lanesLit_unlisted : (List.range 520).filter (fun n => s.laneState n != 0) = [] :=
  List.filter_eq_nil_iff.mpr fun n hn => by
    have hst : s.laneState n = 0 := State.lane_unlisted h (List.mem_range.mp hn) (by decide)
    rw [hst]
    decide

theorem State.portsLit_unlisted : (List.range 514).filter (fun p => s.reg (Reg.PORT.LINK_STATE p) != 0)
    = [512, 513].filter (fun p => s.reg (Reg.PORT.LINK_STATE p) != 0) := by
  have hfabric : (List.range 512).filter (fun p => s.reg (Reg.PORT.LINK_STATE p) != 0) = [] := List.filter_eq_nil_iff.mpr fun p hp => by
    rw [State.link_unlisted h (List.mem_range.mp hp)]
    decide
  rw [List.range_succ, List.range_succ, List.append_assoc, List.filter_append, hfabric]
  rfl

end

/-- The state that the core's stop makes of `s` before its sources end, where only the host ports have a link. -/
def State.hostsDown (s : State) : State :=
  (((s.setTab Tab.sticky 10 (s.reg Reg.DOVETAIL.ROLE)).endResident).setLink 512 0 false).setLink 513 0 false

theorem State.stopCore_unlisted {s r : State} (hs : s.coreUnlisted = true) (hsave : s.saving = false)
    (hr : r = (s.setTab Tab.sticky 10 (s.reg Reg.DOVETAIL.ROLE)).endResident) (hcore : r.coreUnlisted = true)
    (hlinks : [512, 513].filter (fun p => r.reg (Reg.PORT.LINK_STATE p) != 0) = [512, 513]) (hdown : s.hostsDown.coreUnlisted = true)
    (hnone : [512, 513].filter (fun p => s.hostsDown.reg (Reg.PORT.LINK_STATE p) != 0) = []) :
    s.stopCore = (s.hostsDown.setTab Tab.fatal 1 0).flushCore := by
  have habandon : (s.setTab Tab.sticky 10 (s.reg Reg.DOVETAIL.ROLE)).abandonSave = s.setTab Tab.sticky 10 (s.reg Reg.DOVETAIL.ROLE) := by
    unfold State.abandonSave State.when
    exact if_neg (by rw [show (s.setTab Tab.sticky 10 (s.reg Reg.DOVETAIL.ROLE)).saving = s.saving from rfl, hsave]; decide)
  have hports : r.forAll ((List.range 514).filter (fun p => r.reg (Reg.PORT.LINK_STATE p) != 0)) (fun s p => s.setLink p 0 false) = s.hostsDown := by
    rw [State.portsLit_unlisted hcore, hlinks, hr]
    rfl
  unfold State.stopCore
  dsimp only
  rw [habandon, State.haltBenches_unlisted (s := s.setTab Tab.sticky 10 (s.reg Reg.DOVETAIL.ROLE)) hs, ← hr, State.endTests_unlisted hcore, hports,
    State.lanesLit_unlisted hdown]
  rw [show s.hostsDown.forAll [] (fun s n => (s.laneTo n 0 false)) = s.hostsDown from rfl, State.portsLit_unlisted hdown, hnone]
  rfl

/-- The port whose counter of stomped frames is at the place of the lost reference. -/
def farPort : Nat := (91 * 2 ^ 40 - 0x8000) / 16

/-- A frame that is being sent. -/
def sentFrame : Frame := { Frame.blank 1 0 0 with final := true, refs := 1, stage := 2 }

/-- Its copy, in transmission by that port. -/
def farCopy : Copy where
  id := 1
  frame := 1
  port := farPort
  queue := 0
  pool := 0
  reserved := false
  ecn := false
  cutThrough := false
  phase := 2
  depth := 0
  drrCharge := 0
  drrLeft := 0
  qCharge := 0
  pCharge := 0
  lenKnown := true
  start := 0
  sent := []
  used := 0
  covered := false
  postcard := false
  emptied := false

/-- A device that runs with the root PLL locked, while the copy is sent. -/
def farPortState : State :=
  let s := runningHost.setReg Reg.CLOCKS.ROOT_STATE 2
  { s with frames := [sentFrame], copies := [farCopy] }

/-- The state in which the root's fault is settled. -/
def unlockedState : State :=
  (farPortState.fatalFault 2 0x10 0x1D00 0xFF (faultData 4 (farPortState.reg Reg.CLOCKS.REF_PPM))).setTab Tab.fatal 0 0

theorem unlockedState_stops : unlockedState.stopCore = (unlockedState.hostsDown.setTab Tab.fatal 1 0).flushCore :=
  State.stopCore_unlisted (by decide +kernel) (by decide +kernel) rfl (by decide +kernel) (by decide +kernel) (by decide +kernel) (by decide +kernel)

theorem farPortState_unlocks : exec (.rootUnlock ⟨[], false⟩) farPortState = State.done (unlockedState.coldReset 4 ⟨[], false⟩) := by
  have hexec : exec (.rootUnlock ⟨[], false⟩) farPortState = execRootUnlock ⟨[], false⟩ farPortState := rfl
  have hfatal : (farPortState.fatalFault 2 0x10 0x1D00 0xFF (faultData 4 (farPortState.reg Reg.CLOCKS.REF_PPM))).tab Tab.fatal 0 = 2 := by decide +kernel
  have hon : unlockedState.coreOn = true := by decide +kernel
  rw [hexec]
  unfold execRootUnlock State.settleFatal
  rw [if_pos (by decide +kernel), hfatal, if_neg (by decide), if_neg (by decide), if_neg, if_neg (by decide)]
  · rfl
  · unfold unlockedState at hon
    rw [hon]
    decide

theorem farPortState_stops : (((unlockedState.coldReset 4 ⟨[], false⟩)).deliverDue).reg Reg.CLOCKS.ROOT_STATE = 0 := by
  unfold State.coldReset
  rw [unlockedState_stops]
  decide +kernel

end Sys2Proof.Machine
end

section
/-!
A statement of 21_power_clocks_thermal.md settled.
-/
open Sys2Proof Sys2Proof.Machine

/-- Refutes O53: the port of a copy is unbounded in a state. In `farPortState` the core's stop counts the stomped frame in the mark of a
lost reference, so that the cold reset after an unlock finds no reference and turns the rails off. -/
theorem not_powerServed : ¬ Obligations.PowerServed := by
  intro h
  obtain ⟨-, -, -, -, -, -, -, -, -, -, -, -, -, -, -, -, -, -, -, hunlock⟩ := h
  obtain ⟨t, ht, -, -, -, -, hroot⟩ := (hunlock farPortState ⟨[], false⟩).2.2 (by decide +kernel) (by decide +kernel)
  have hnext := Host.Outcome.next.inj (farPortState_unlocks.symm.trans ht)
  rw [← hnext, farPortState_stops] at hroot
  exact absurd hroot (by decide)
end

section
/-!
SUPPORT. The scalar unit (R386, R426): integers of 64 bits, the meaning of each operation, and the flags.
-/
namespace Sys2Proof.Machine

/-! ### Integers of 64 bits -/

theorem i64_cases {a : Nat} (h : a < 2 ^ 64) : (a < 2 ^ 63 ∧ i64 a = a) ∨ (2 ^ 63 ≤ a ∧ i64 a = a - 2 ^ 64) := by
  unfold i64 toInt
  rw [Nat.mod_eq_of_lt h]
  split
  · exact .inl ⟨by assumption, rfl⟩
  · exact .inr ⟨by omega, rfl⟩

/-- The 64 bits of an integer stand for it unless it overflows. -/
theorem overflows64_iff {r : Nat} {i : Int} (hr : r < 2 ^ 64) (h : ∃ k : Int, i = r + k * 2 ^ 64) : overflows64 i = true ↔ i ≠ i64 r := by
  obtain ⟨k, rfl⟩ := h
  unfold overflows64
  rw [Bool.or_eq_true, decide_eq_true_eq, decide_eq_true_eq]
  obtain ⟨hlt, hi⟩ | ⟨hge, hi⟩ := i64_cases hr <;> rw [hi] <;> omega

theorem i64_congr {a : Nat} (h : a < 2 ^ 64) : ∃ k : Int, i64 a = a + k * 2 ^ 64 := by
  obtain ⟨-, hi⟩ | ⟨-, hi⟩ := i64_cases h
  · exact ⟨0, by rw [hi]; ring⟩
  · exact ⟨-1, by rw [hi]; ring⟩

theorem i64_eq_zero {a : Nat} (h : a < 2 ^ 64) : i64 a = 0 ↔ a = 0 := by
  obtain ⟨hlt, hi⟩ | ⟨hge, hi⟩ := i64_cases h <;> rw [hi] <;> omega

theorem i64_ofInt {i : Int} (hlo : -(2 ^ 63) ≤ i) (hhi : i < 2 ^ 63) : i64 (ofInt 64 i % 2 ^ 64) = i := by
  rw [Nat.mod_eq_of_lt (ofInt_lt i)]
  exact toInt_ofInt hlo hhi

theorem toInteger_bounds (f : Fmt) {lo hi : Int} (hlo : lo ≤ 0) (hhi : 0 ≤ hi) (a : Nat) :
    lo ≤ f.toInteger lo hi a ∧ f.toInteger lo hi a ≤ hi := by
  unfold Fmt.toInteger
  split
  · exact ⟨hlo, hhi⟩
  · split
    · exact ⟨le_refl lo, hlo.trans hhi⟩
    · exact ⟨hlo.trans hhi, le_refl hi⟩
  · exact ⟨le_max_left _ _, max_le (hlo.trans hhi) (min_le_left _ _)⟩

/-! ### Quotients -/

theorem tdiv_near (x : Int) {y : Int} (h : y ≠ 0) :
    (x - y * x.tdiv y).natAbs < y.natAbs ∧ (y * x.tdiv y).natAbs ≤ x.natAbs := by
  have hmod : x - y * x.tdiv y = x.tmod y := by rw [Int.tmod_def]
  rw [hmod, Int.natAbs_tmod, Int.natAbs_mul, Int.natAbs_tdiv]
  exact ⟨Nat.mod_lt _ (Int.natAbs_pos.mpr h), Nat.mul_div_le _ _⟩

theorem tmod_near (x : Int) {y : Int} (h : y ≠ 0) : (x.tmod y).natAbs < y.natAbs ∧ (∃ k, x = k * y + x.tmod y)
    ∧ (0 ≤ x → 0 ≤ x.tmod y) ∧ (x ≤ 0 → x.tmod y ≤ 0) := by
  refine ⟨?_, ⟨x.tdiv y, ?_⟩, fun hx => Int.tmod_nonneg _ hx, fun hx => ?_⟩
  · rw [Int.natAbs_tmod]
    exact Nat.mod_lt _ (Int.natAbs_pos.mpr h)
  · rw [mul_comm, Int.mul_tdiv_add_tmod]
  · have := Int.tmod_nonneg y (Int.neg_nonneg.mpr hx)
    rw [Int.neg_tmod] at this
    omega

theorem i64_natAbs_le (a : Nat) : (i64 a).natAbs ≤ 2 ^ 63 := by
  have hge : -(2 ^ 63) ≤ i64 a := toInt_ge a
  have hlt : i64 a < 2 ^ 63 := toInt_lt a
  omega

/-- A quotient that overflows is that of the least integer by -1. -/
theorem overflows64_tdiv {a y : Nat} (hy : y < 2 ^ 64) (h0 : y ≠ 0) :
    overflows64 (Int.tdiv (i64 a) (i64 y)) = true ↔ i64 a = -(2 ^ 63) ∧ i64 y = -1 := by
  have hy0 : i64 y ≠ 0 := fun h => h0 ((i64_eq_zero hy).mp h)
  have hle : (i64 a).natAbs ≤ 2 ^ 63 := i64_natAbs_le a
  unfold overflows64
  rw [Bool.or_eq_true, decide_eq_true_eq, decide_eq_true_eq]
  constructor
  · intro h
    obtain ⟨hnear, hsize⟩ := tdiv_near (i64 a) hy0
    rw [Int.natAbs_mul] at hsize
    have hone : (i64 y).natAbs = 1 := by
      by_contra hne
      have h2 : 2 * (Int.tdiv (i64 a) (i64 y)).natAbs ≤ (i64 y).natAbs * (Int.tdiv (i64 a) (i64 y)).natAbs :=
        Nat.mul_le_mul_right _ (by omega)
      omega
    obtain h1 | h1 : i64 y = 1 ∨ i64 y = -1 := by omega
    · rw [h1] at h hnear
      have hlt : i64 a < 2 ^ 63 := toInt_lt a
      omega
    · rw [h1] at h hnear
      omega
  · rintro ⟨ha, hy1⟩
    rw [ha, hy1]
    decide

theorem divOverflows_iff {o : ScalarOp} {a y : Nat} (hy : y < 2 ^ 64) :
    divOverflows o a y = true ↔ o = .divs ∧ i64 a = -(2 ^ 63) ∧ i64 y = -1 := by
  unfold divOverflows quotS
  rw [Bool.and_eq_true, beq_iff_eq]
  refine and_congr_right fun _ => ?_
  split
  · next h0 =>
    subst h0
    exact iff_of_false (by decide) fun ⟨_, h⟩ => absurd h (by decide)
  · next h0 => exact overflows64_tdiv hy h0

/-! ### What each operation gives -/

theorem subMod_of_lt {a y : Nat} (ha : a < 2 ^ 64) (hy : y < 2 ^ 64) :
    subMod 64 a y = if y ≤ a then a - y else a + 2 ^ 64 - y := by
  unfold subMod
  split <;> omega

theorem quotS_bounds {a y : Nat} (h : overflows64 (quotS a y) = false) :
    -(2 ^ 63) ≤ quotS a y ∧ quotS a y < 2 ^ 63 := by
  unfold overflows64 at h
  rw [Bool.or_eq_false_iff, decide_eq_false_iff_not, decide_eq_false_iff_not] at h
  omega

theorem remS_bounds {a y : Nat} (hy : y < 2 ^ 64) : -(2 ^ 63) ≤ remS a y ∧ remS a y < 2 ^ 63 := by
  unfold remS
  split
  · omega
  · next h0 =>
    have hnear := (tmod_near (i64 a) fun h => h0 ((i64_eq_zero hy).mp h)).1
    have hle := i64_natAbs_le y
    omega

theorem sar_bounds (a n : Nat) : -(2 ^ 63) ≤ i64 a / (2 : Int) ^ n ∧ i64 a / (2 : Int) ^ n < 2 ^ 63 := by
  have hge : -(2 ^ 63) ≤ i64 a := toInt_ge a
  have hlt : i64 a < 2 ^ 63 := toInt_lt a
  have hpos : (0 : Int) < 2 ^ n := by positivity
  constructor
  · rw [Int.le_ediv_iff_mul_le hpos]
    have : (1 : Int) ≤ 2 ^ n := hpos
    nlinarith
  · refine Int.ediv_lt_of_lt_mul hpos ?_
    have : (1 : Int) ≤ 2 ^ n := hpos
    nlinarith

/-- The result of an operation that 64 bits hold is what the operation means (R426). -/
theorem scalarResult_means {o : ScalarOp} {a y : Nat} (c v : Nat) (ha : a < 2 ^ 64) (hy : y < 2 ^ 64) (h : divOverflows o a y = false) :
    o.means a y c v (scalarResult o a y c v % 2 ^ 64) := by
  cases o with
  | add => exact Nat.mod_mod _ _
  | sub =>
    unfold scalarResult ScalarOp.means
    dsimp only
    rw [subMod_of_lt ha hy]
    split <;> omega
  | and =>
    intro i hi
    unfold scalarResult bit
    dsimp only
    rw [Nat.testBit_mod_two_pow, decide_eq_true hi, Bool.true_and, Nat.testBit_and]
  | or =>
    intro i hi
    unfold scalarResult bit
    dsimp only
    rw [Nat.testBit_mod_two_pow, decide_eq_true hi, Bool.true_and, Nat.testBit_or]
  | xor =>
    intro i hi
    unfold scalarResult bit
    dsimp only
    rw [Nat.testBit_mod_two_pow, decide_eq_true hi, Bool.true_and, Nat.testBit_xor]
  | shl =>
    unfold scalarResult ScalarOp.means
    dsimp only
    rw [Nat.mod_mod, Nat.shiftLeft_eq]
  | shr =>
    unfold scalarResult ScalarOp.means
    dsimp only
    rw [Nat.shiftRight_eq_div_pow, Nat.mod_eq_of_lt ((Nat.div_le_self _ _).trans_lt ha)]
  | sar =>
    obtain ⟨hlo, hhi⟩ := sar_bounds a (y % 64)
    exact i64_ofInt hlo hhi
  | mov => exact Nat.mod_eq_of_lt hy
  | mul => exact Nat.mod_mod _ _
  | divu =>
    unfold scalarResult ScalarOp.means
    dsimp only
    refine ⟨fun h0 => by rw [if_pos h0]; rfl, fun h0 => ?_⟩
    rw [if_neg h0, Nat.mod_eq_of_lt ((Nat.div_le_self _ _).trans_lt ha)]
    exact ⟨Nat.mul_div_le _ _, Nat.lt_mul_div_succ _ (Nat.pos_of_ne_zero h0)⟩
  | divs =>
    have hb : overflows64 (quotS a y) = false := by simpa [divOverflows] using h
    obtain ⟨hlo, hhi⟩ := quotS_bounds hb
    have hr := i64_ofInt hlo hhi
    unfold quotS at hr
    unfold scalarResult ScalarOp.means quotS
    dsimp only
    refine ⟨fun h0 => by rw [if_pos h0]; rfl, fun h0 _ => ?_⟩
    rw [if_neg h0] at hr ⊢
    rw [hr]
    exact tdiv_near _ fun h => h0 ((i64_eq_zero hy).mp h)
  | remu =>
    unfold scalarResult ScalarOp.means
    dsimp only
    refine ⟨fun h0 => by rw [if_pos h0]; rfl, fun h0 => ?_⟩
    rw [if_neg h0, Nat.mod_eq_of_lt ((Nat.mod_le _ _).trans_lt ha)]
    exact ⟨Nat.mod_lt _ (Nat.pos_of_ne_zero h0), a / y, (Nat.div_add_mod' a y).symm⟩
  | rems =>
    obtain ⟨hlo, hhi⟩ := remS_bounds (a := a) hy
    have hr := i64_ofInt hlo hhi
    unfold remS at hr
    unfold scalarResult ScalarOp.means remS
    dsimp only
    refine ⟨fun h0 => by rw [if_pos h0]; rfl, fun h0 => ?_⟩
    rw [if_neg h0] at hr ⊢
    rw [hr]
    exact tmod_near _ fun h => h0 ((i64_eq_zero hy).mp h)
  | mins =>
    unfold scalarResult ScalarOp.means
    dsimp only
    split
    · next hle => rw [Nat.mod_eq_of_lt ha, min_eq_left hle]
    · next hle => rw [Nat.mod_eq_of_lt hy, min_eq_right (not_le.mp hle).le]
  | maxs =>
    unfold scalarResult ScalarOp.means
    dsimp only
    split
    · next hle => rw [Nat.mod_eq_of_lt hy, max_eq_right hle]
    · next hle => rw [Nat.mod_eq_of_lt ha, max_eq_left (not_le.mp hle).le]
  | ftoi =>
    obtain ⟨hlo, hhi⟩ := toInteger_bounds f64 (lo := -(2 ^ 63)) (hi := 2 ^ 63 - 1) (by decide) (by decide) a
    exact i64_ofInt hlo (by omega)
  | cmp => trivial
  | fcmp => trivial
  | fadd => rfl
  | fsub => rfl
  | fmul => rfl
  | fma => rfl
  | fdiv => rfl
  | fsqrt => rfl
  | itof => rfl
  | vget => rfl

/-- Where 64 bits do not hold the quotient, any result is one that the operation may give (R386). -/
theorem ScalarOp.means_open {o : ScalarOp} {a y : Nat} (c v r : Nat) (hy : y < 2 ^ 64) (h : divOverflows o a y = true) : o.means a y c v r := by
  obtain ⟨rfl, ha, hy1⟩ := (divOverflows_iff hy).mp h
  refine ⟨fun h0 => ?_, fun _ hno => absurd ⟨ha, hy1⟩ hno⟩
  rw [h0] at hy1
  exact absurd hy1 (by decide)

/-! ### Flags (R421, R426) -/

theorem packFlags_bits (z n c v : Bool) :
    bit (packFlags z n c v) 0 = z ∧ bit (packFlags z n c v) 1 = n ∧ bit (packFlags z n c v) 2 = c ∧ bit (packFlags z n c v) 3 = v := by
  cases z <;> cases n <;> cases c <;> cases v <;> decide

theorem bit63_iff {r : Nat} (h : r < 2 ^ 64) : bit r 63 = true ↔ i64 r < 0 := by
  have hb : bit r 63 = decide (2 ^ 63 ≤ r) := by
    unfold bit
    rw [Nat.testBit_eq_decide_div_mod_eq]
    refine decide_eq_decide.mpr ?_
    omega
  rw [hb, decide_eq_true_eq]
  obtain ⟨hlt, hi⟩ | ⟨hge, hi⟩ := i64_cases h <;> rw [hi] <;> omega

/-- The flags of A - B show how A and B compare. -/
theorem subFlags_bits {a y : Nat} (ha : a < 2 ^ 64) (hy : y < 2 ^ 64) :
    (bit (subFlags a y) 0 = true ↔ a = y) ∧ (bit (subFlags a y) 2 = true ↔ a < y)
      ∧ ((bit (subFlags a y) 1 != bit (subFlags a y) 3) = true ↔ i64 a < i64 y) := by
  have hr : subMod 64 a y < 2 ^ 64 := Nat.mod_lt _ (by decide)
  have hsub := subMod_of_lt ha hy
  obtain ⟨hz, hn, hc, hv⟩ := packFlags_bits (subMod 64 a y == 0) (bit (subMod 64 a y) 63) (decide (a < y)) (overflows64 (i64 a - i64 y))
  unfold subFlags resultFlags
  rw [hz, hn, hc, hv]
  refine ⟨?_, decide_eq_true_iff, ?_⟩
  · rw [beq_iff_eq, hsub]
    split <;> omega
  · have hcong : ∃ k : Int, i64 a - i64 y = subMod 64 a y + k * 2 ^ 64 := by
      rw [hsub]
      obtain ⟨ka, hka⟩ := i64_congr ha
      obtain ⟨ky, hky⟩ := i64_congr hy
      split
      · exact ⟨ka - ky, by push_cast [*]; omega⟩
      · exact ⟨ka - ky - 1, by omega⟩
    rw [bne_iff_ne, ne_eq, Bool.eq_iff_iff, bit63_iff hr, overflows64_iff hr hcong]
    have hya : -(2 ^ 63) ≤ i64 y := toInt_ge y
    have hyl : i64 y < 2 ^ 63 := toInt_lt y
    have haa : -(2 ^ 63) ≤ i64 a := toInt_ge a
    have hal : i64 a < 2 ^ 63 := toInt_lt a
    have hra : -(2 ^ 63) ≤ i64 (subMod 64 a y) := toInt_ge _
    have hrl : i64 (subMod 64 a y) < 2 ^ 63 := toInt_lt _
    obtain ⟨k, hk⟩ := hcong
    obtain ⟨kr, hkr⟩ := i64_congr hr
    omega

/-- The conditions LT, LTU, EQ and LE after flags of A - B (R421). -/
theorem State.condHolds_subFlags {t : State} {b a y : Nat} (ha : a < 2 ^ 64) (hy : y < 2 ^ 64) (h : t.flagsOf b = subFlags a y) :
    (t.condHolds b 0 = true ↔ a = y) ∧ (t.condHolds b 2 = true ↔ i64 a < i64 y)
      ∧ (t.condHolds b 4 = true ↔ a < y) ∧ (t.condHolds b 6 = true ↔ i64 a ≤ i64 y) := by
  obtain ⟨hz, hc, hl⟩ := subFlags_bits ha hy
  unfold State.condHolds
  dsimp only
  rw [h]
  refine ⟨hz, hl, hc, ?_⟩
  change (bit (subFlags a y) 0 || (bit (subFlags a y) 1 != bit (subFlags a y) 3)) = true ↔ _
  rw [Bool.or_eq_true, hz, hl]
  obtain ⟨_, hia⟩ | ⟨_, hia⟩ := i64_cases ha <;> obtain ⟨_, hiy⟩ | ⟨_, hiy⟩ := i64_cases hy <;> rw [hia, hiy] <;> omega

/-- The conditions after FCMP (R421). -/
theorem State.condHolds_fcmpFlags {t : State} {b a y : Nat} (h : t.flagsOf b = fcmpFlags a y) :
    t.condHolds b 0 = f64.equal a y ∧ t.condHolds b 2 = f64.less a y ∧ t.condHolds b 4 = (f64.isNan a || f64.isNan y) := by
  obtain ⟨hz, hn, hc, hv⟩ := packFlags_bits (f64.equal a y) (f64.less a y) (f64.isNan a || f64.isNan y) false
  unfold State.condHolds
  dsimp only
  rw [h]
  unfold fcmpFlags
  rw [hz, hn, hc, hv, Bool.bne_false]
  exact ⟨rfl, rfl, rfl⟩

/-- V shows a sum, product or quotient that 64 bits do not hold. -/
theorem overflows_scalarExact {o : ScalarOp} {a y c v r : Nat} (ha : a < 2 ^ 64) (hy : y < 2 ^ 64) (hsub : o ≠ .sub)
    (hr : o = .divs ∨ r = scalarResult o a y c v % 2 ^ 64) :
    overflows64 (scalarExact o a y) = true ↔ (o = .add ∧ i64 a + i64 y ≠ i64 r) ∨ (o = .mul ∧ i64 a * i64 y ≠ i64 r)
      ∨ (o = .divs ∧ i64 a = -(2 ^ 63) ∧ i64 y = -1) := by
  obtain ⟨ka, hka⟩ := i64_congr ha
  obtain ⟨ky, hky⟩ := i64_congr hy
  by_cases hadd : o = .add
  · subst hadd
    obtain rfl := hr.resolve_left (by decide)
    have hcong : ∃ k : Int, i64 a + i64 y = (((a + y) % 2 ^ 64 : Nat) : Int) + k * 2 ^ 64 :=
      ⟨ka + ky + ((a + y) / 2 ^ 64 : Nat), by omega⟩
    simpa [scalarResult, scalarExact] using overflows64_iff (Nat.mod_lt _ (by decide)) hcong
  by_cases hmul : o = .mul
  · subst hmul
    obtain rfl := hr.resolve_left (by decide)
    have hcong : ∃ k : Int, i64 a * i64 y = ((a * y % 2 ^ 64 : Nat) : Int) + k * 2 ^ 64 :=
      ⟨a * ky + ka * y + ka * ky * 2 ^ 64 + ((a * y / 2 ^ 64 : Nat) : Int), by
        rw [hka, hky]
        have hdiv : (a : Int) * y = ((a * y % 2 ^ 64 : Nat) : Int) + ((a * y / 2 ^ 64 : Nat) : Int) * 2 ^ 64 := by
          have := Nat.mod_add_div (a * y) (2 ^ 64)
          exact_mod_cast by linarith
        linear_combination hdiv⟩
    simpa [scalarResult, scalarExact] using overflows64_iff (Nat.mod_lt _ (by decide)) hcong
  by_cases hdivs : o = .divs
  · have hopen := divOverflows_iff (o := o) (a := a) hy
    subst hdivs
    simpa [divOverflows, scalarExact] using hopen
  · have hzero : scalarExact o a y = 0 := by
      unfold scalarExact
      split
      · exact absurd rfl hadd
      · exact absurd rfl hsub
      · exact absurd rfl hmul
      · exact absurd rfl hdivs
      · rfl
    rw [hzero]
    simp only [hadd, hmul, hdivs, false_and, or_self, iff_false]
    decide

/-- What SETF shows of a result that is no comparison or difference (R426). -/
theorem scalarFlags_bits {o : ScalarOp} {a y r : Nat} (hcmp : o.isCmp = false) (hsub : o ≠ .sub) :
    bit (scalarFlags o a y r) 0 = decide (r = 0) ∧ bit (scalarFlags o a y r) 1 = bit r 63 ∧ bit (scalarFlags o a y r) 2 = false
      ∧ bit (scalarFlags o a y r) 3 = overflows64 (scalarExact o a y) := by
  have hflags : scalarFlags o a y r = resultFlags r false (scalarExact o a y) := by
    unfold scalarFlags
    split
    · exact absurd hcmp (by decide)
    · exact absurd rfl hsub
    · exact absurd hcmp (by decide)
    · rfl
  rw [hflags]
  exact packFlags_bits _ _ _ _

/-- An integer operation gives 64 bits. -/
theorem scalarResult_lt {o : ScalarOp} {a y c v : Nat} (hint : o.isInt = true) (ha : a < 2 ^ 64) (hy : y < 2 ^ 64) :
    scalarResult o a y c v < 2 ^ 64 := by
  cases o with
  | add => exact Nat.mod_lt _ (by decide)
  | sub => exact Nat.mod_lt _ (by decide)
  | cmp => exact Nat.mod_lt _ (by decide)
  | shl => exact Nat.mod_lt _ (by decide)
  | mul => exact Nat.mod_lt _ (by decide)
  | and => exact Nat.and_lt_two_pow _ hy
  | or => exact Nat.or_lt_two_pow ha hy
  | xor => exact Nat.xor_lt_two_pow ha hy
  | shr => exact (Nat.shiftRight_le _ _).trans_lt ha
  | sar => exact ofInt_lt _
  | divs => exact ofInt_lt _
  | rems => exact ofInt_lt _
  | mov => exact hy
  | divu =>
    unfold scalarResult
    dsimp only
    split
    · decide
    · exact (Nat.div_le_self _ _).trans_lt ha
  | remu =>
    unfold scalarResult
    dsimp only
    split
    · decide
    · exact (Nat.mod_le _ _).trans_lt ha
  | mins =>
    unfold scalarResult
    dsimp only
    split <;> assumption
  | maxs =>
    unfold scalarResult
    dsimp only
    split <;> assumption
  | fadd | fsub | fmul | fma | fdiv | fsqrt | fcmp | itof | ftoi | vget => exact absurd hint (by decide)

end Sys2Proof.Machine
end

section
/-!
SUPPORT. The registers of a bench: what each reads after a write, and the scalar unit (R426).
-/
namespace Sys2Proof.Machine

/-! ### Scalar and vector registers (R385) -/

theorem State.sReg_setS_same (s : State) (b i v : Nat) : (s.setS b i v).sReg b i = v % 2 ^ 64 := s.tab_setTab_same _ _ _

theorem State.sReg_setS_other (s : State) {b i c j : Nat} (v : Nat) (hi : i < 64) (hj : j < 64) (h : c ≠ b ∨ j ≠ i) :
    (s.setS b i v).sReg c j = s.sReg c j := State.tab_setTab_index s _ (by omega)

theorem State.vReg_setV_same (s : State) (b i v : Nat) : (s.setV b i v).vReg b i = v % 2 ^ 256 := s.tab_setTab_same _ _ _

theorem State.vReg_setV_other (s : State) {b i c j : Nat} (v : Nat) (hi : i < 32) (hj : j < 32) (h : c ≠ b ∨ j ≠ i) :
    (s.setV b i v).vReg c j = s.vReg c j := State.tab_setTab_index s _ (by omega)

theorem Only.setS (s : State) {b i : Nat} (v : Nat) (hb : b < 128) (hi : i < 64) : Only [] [Tab.benchS] s (s.setS b i v) :=
  Only.setTab _ _ _ _ (by omega) (.inl (by simp))

theorem Only.setV (s : State) {b i : Nat} (v : Nat) (hb : b < 128) (hi : i < 32) : Only [] [Tab.benchV] s (s.setV b i v) :=
  Only.setTab _ _ _ _ (by omega) (.inl (by simp))

section
variable {R T : List Nat} {s t : State} (h : Only R T s t)
include h

theorem Only.sReg (hT : Tab.benchS ∉ T) {b i : Nat} (hb : b < 128) (hi : i < 64) : t.sReg b i = s.sReg b i :=
  h.tabs _ _ (by omega) hT (by decide)

theorem Only.vReg (hT : Tab.benchV ∉ T) {b i : Nat} (hb : b < 128) (hi : i < 32) : t.vReg b i = s.vReg b i :=
  h.tabs _ _ (by omega) hT (by decide)

theorem Only.tReg (hT : Tab.benchT ∉ T) {b i : Nat} (hb : b < 128) (hi : i < 16) : t.tReg b i = s.tReg b i :=
  h.tabs _ _ (by omega) hT (by decide)

theorem Only.flagsOf (hT : Tab.benchFlags ∉ T) {b : Nat} (hb : b < 128) : t.flagsOf b = s.flagsOf b :=
  h.tabs _ _ (by omega) hT (by decide)

end

/-! ### A scalar operation -/

/-- What a scalar operation puts into DST. -/
def State.scalarValue (s : State) (b : Nat) (o : ScalarOp) (x : ScalarSlot) (imm : Nat) : Nat :=
  if divOverflows o (s.srcA b x) (s.srcB b x imm) then s.freeBelow (2 ^ 64)
  else scalarResult o (s.srcA b x) (s.srcB b x imm) (s.srcC b x) (s.vReg b x.a)

/-- The state after the register, before the flags. -/
def State.scalarPut (s : State) (b : Nat) (o : ScalarOp) (x : ScalarSlot) (imm : Nat) : State :=
  (s.when (divOverflows o (s.srcA b x) (s.srcB b x imm)) State.drew).when (!o.isCmp) (·.setS b x.dst (s.scalarValue b o x imm))

theorem State.runScalar_eq (s : State) (b : Nat) (o : ScalarOp) (x : ScalarSlot) (imm : Nat) :
    s.runScalar s b o x imm = (s.scalarPut b o x imm).when x.setF
      (·.setTab Tab.benchFlags b (scalarFlags o (s.srcA b x) (s.srcB b x imm) (s.scalarValue b o x imm))) := rfl

theorem State.srcB_lt {s : State} {b : BenchNo} (x : ScalarSlot) (imm : Nat) (h : ∀ i, i < 64 → s.sReg b i < 2 ^ 64) : s.srcB b x imm < 2 ^ 64 := by
  unfold State.srcB
  split
  · exact ofInt_lt _
  · exact h _ x.b.isLt

section
variable (s : State) (o : ScalarOp) (b : BenchNo) (x : ScalarSlot) (imm : Nat)

theorem Only.scalarDrew (c : Bool) : Only [] [] { s with freeCtr := (s.when c State.drew).freeCtr } (s.when c State.drew) := by
  cases c
  · exact Only.refl _
  · exact Only.refl _

theorem State.freeCtr_scalarPut : (s.scalarPut b o x imm).freeCtr = (s.when (divOverflows o (s.srcA b x) (s.srcB b x imm)) State.drew).freeCtr := by
  unfold State.scalarPut
  cases o.isCmp <;> rfl

theorem Only.scalarPut : Only [] [Tab.benchS] { s with freeCtr := (s.scalarPut b o x imm).freeCtr } (s.scalarPut b o x imm) := by
  rw [State.freeCtr_scalarPut]
  exact ((Only.scalarDrew s _).mono (by simp) (by simp)).trans (Only.when _ _ _ fun u => Only.setS u _ b.isLt x.dst.isLt)

theorem State.sReg_scalarPut_same (h : o.isCmp = false) : (s.scalarPut b o x imm).sReg b x.dst = s.scalarValue b o x imm % 2 ^ 64 := by
  unfold State.scalarPut
  rw [h]
  exact State.sReg_setS_same _ _ _ _

theorem State.sReg_scalarPut_other {c i : Nat} (hc : c < 128) (hi : i < 64) (h : o.isCmp = true ∨ c ≠ b.val ∨ i ≠ x.dst.val) :
    (s.scalarPut b o x imm).sReg c i = s.sReg c i := by
  have hdrew : (s.when (divOverflows o (s.srcA b x) (s.srcB b x imm)) State.drew).sReg c i = s.sReg c i :=
    (Only.scalarDrew s _).sReg (by simp) hc hi
  unfold State.scalarPut
  obtain hcmp | hother := h
  · rw [hcmp]
    exact hdrew
  · cases o.isCmp
    · exact (State.sReg_setS_other _ _ x.dst.isLt hi hother).trans hdrew
    · exact hdrew

theorem Only.runScalar : Only [] [Tab.benchS, Tab.benchFlags] { s with freeCtr := (s.scalarPut b o x imm).freeCtr } (s.runScalar s b o x imm) := by
  rw [State.runScalar_eq]
  refine ((Only.scalarPut s o b x imm).mono (by simp) (by simp)).trans (Only.when _ _ _ fun u => ?_)
  exact Only.setTab _ _ _ _ (by omega) (.inl (by simp))

theorem State.freeCtr_runScalar (h : divOverflows o (s.srcA b x) (s.srcB b x imm) = false) : (s.scalarPut b o x imm).freeCtr = s.freeCtr := by
  rw [State.freeCtr_scalarPut, h]
  rfl

theorem State.sReg_runScalar {c i : Nat} (hc : c < 128) (hi : i < 64) : (s.runScalar s b o x imm).sReg c i = (s.scalarPut b o x imm).sReg c i := by
  rw [State.runScalar_eq]
  refine (Only.when (R := []) (T := [Tab.benchFlags]) _ _ _ fun u => ?_).sReg (by decide) hc hi
  exact Only.setTab _ _ _ _ (by omega) (.inl (by simp))

theorem State.flagsOf_runScalar_same (h : x.setF = true) :
    (s.runScalar s b o x imm).flagsOf b = scalarFlags o (s.srcA b x) (s.srcB b x imm) (s.scalarValue b o x imm) := by
  rw [State.runScalar_eq, h]
  exact State.tab_setTab_same _ _ _ _

theorem State.flagsOf_runScalar_other {c : Nat} (hc : c < 128) (h : x.setF = false ∨ c ≠ b.val) :
    (s.runScalar s b o x imm).flagsOf c = s.flagsOf c := by
  have hput : (s.scalarPut b o x imm).flagsOf c = s.flagsOf c := (Only.scalarPut s o b x imm).flagsOf (by decide) hc
  rw [State.runScalar_eq]
  obtain hset | hother := h
  · rw [hset]
    exact hput
  · cases x.setF
    · exact hput
    · exact (State.tab_setTab_index _ _ hother).trans hput

/-! ### Its command -/

theorem exec_scalar (imm : Fin 262144) : exec (o.command b x imm) s = State.done (s.unitScalar b o x imm) := by
  cases o <;> rfl

end

theorem scalarOk_isInt {o : ScalarOp} {x : ScalarSlot} (h : scalarOk o x = true) (hset : x.setF = true) (hcmp : o.isCmp = false) : o.isInt = true := by
  unfold scalarOk at h
  simp only [Bool.and_eq_true, hset, hcmp] at h
  simpa using h.1.2

/-- The value is one that the operation may give. -/
theorem State.scalarValue_means {s : State} {o : ScalarOp} {b : BenchNo} (x : ScalarSlot) (imm : Nat) (hs : ∀ i, i < 64 → s.sReg b i < 2 ^ 64) :
    o.means (s.srcA b x) (s.srcB b x imm) (s.srcC b x) (s.vReg b x.a) (s.scalarValue b o x imm % 2 ^ 64) := by
  have ha : s.srcA b x < 2 ^ 64 := hs _ x.a.isLt
  have hy : s.srcB b x imm < 2 ^ 64 := State.srcB_lt x imm hs
  unfold State.scalarValue
  split
  · next hopen => exact ScalarOp.means_open _ _ _ hy hopen
  · next hopen => exact scalarResult_means _ _ ha hy (Bool.eq_false_iff.mpr hopen)

/-- The value of an integer operation has 64 bits. -/
theorem State.scalarValue_lt {s : State} {o : ScalarOp} {b : BenchNo} (x : ScalarSlot) (imm : Nat) (hs : ∀ i, i < 64 → s.sReg b i < 2 ^ 64)
    (hint : o.isInt = true) : s.scalarValue b o x imm < 2 ^ 64 := by
  unfold State.scalarValue
  split
  · exact Nat.mod_lt _ (by decide)
  · exact scalarResult_lt hint (hs _ x.a.isLt) (State.srcB_lt x imm hs)

/-- What the flags show after a scalar operation with SETF (R421, R426). -/
theorem State.scalarFlags_show {s t : State} {o : ScalarOp} {b : BenchNo} {x : ScalarSlot} {imm : Nat} (hs : ∀ i, i < 64 → s.sReg b i < 2 ^ 64)
    (hok : scalarOk o x = true) (hset : x.setF = true)
    (ht : t.flagsOf b = scalarFlags o (s.srcA b x) (s.srcB b x imm) (s.scalarValue b o x imm)) :
    let a := s.srcA b x
    let y := s.srcB b x imm
    let r := s.scalarValue b o x imm % 2 ^ 64
    (o = .cmp ∨ o = .sub → (t.condHolds b 0 = true ↔ a = y) ∧ (t.condHolds b 2 = true ↔ i64 a < i64 y)
      ∧ (t.condHolds b 4 = true ↔ a < y) ∧ (t.condHolds b 6 = true ↔ i64 a ≤ i64 y))
    ∧ (o = .fcmp → t.condHolds b 0 = f64.equal a y ∧ t.condHolds b 2 = f64.less a y
      ∧ t.condHolds b 4 = (f64.isNan a || f64.isNan y))
    ∧ (o.isCmp = false → o ≠ .sub → bit (t.flagsOf b) 0 = decide (r = 0) ∧ bit (t.flagsOf b) 1 = bit r 63 ∧ bit (t.flagsOf b) 2 = false
      ∧ (bit (t.flagsOf b) 3 = true ↔ (o = .add ∧ i64 a + i64 y ≠ i64 r) ∨ (o = .mul ∧ i64 a * i64 y ≠ i64 r)
        ∨ (o = .divs ∧ i64 a = -(2 ^ 63) ∧ i64 y = -1))) := by
  intro a y r
  have ha : a < 2 ^ 64 := hs _ x.a.isLt
  have hy : y < 2 ^ 64 := State.srcB_lt x imm hs
  refine ⟨?_, ?_, fun hcmp hsub => ?_⟩
  · rintro (rfl | rfl) <;> exact State.condHolds_subFlags ha hy ht
  · rintro rfl
    exact State.condHolds_fcmpFlags ht
  · have hr : r = s.scalarValue b o x imm := Nat.mod_eq_of_lt (State.scalarValue_lt x imm hs (scalarOk_isInt hok hset hcmp))
    obtain ⟨hz, hn, hc, hv⟩ := scalarFlags_bits (a := a) (y := y) (r := r) hcmp hsub
    have hflags : t.flagsOf b = scalarFlags o a y r := by rw [ht, ← hr]
    rw [hflags, hz, hn, hc, hv]
    refine ⟨rfl, rfl, rfl, overflows_scalarExact (c := s.srcC b x) (v := s.vReg b x.a) ha hy hsub ?_⟩
    by_cases hdivs : o = .divs
    · exact .inl hdivs
    · right
      have hopen : divOverflows o a y = false := by
        unfold divOverflows
        rw [beq_false_of_ne hdivs, Bool.false_and]
      change s.scalarValue b o x imm % 2 ^ 64 = _
      unfold State.scalarValue
      rw [if_neg (Bool.eq_false_iff.mp hopen)]

end Sys2Proof.Machine
end

section
/-! O55, settled. -/
open Sys2Proof Sys2Proof.Machine

/-- Settles O55: the unit's value is what the operation means, and the flags of a subtraction or result show it. -/
theorem scalarUnit : Obligations.ScalarUnit := by
  intro s o b x imm
  rw [exec_scalar]
  refine ⟨fun h => ?_, fun hrun hok hs => ?_⟩
  · rw [← Bool.and_eq_true] at h
    unfold State.unitScalar
    rw [if_neg h]
    rfl
  · intro a y open'
    have hunit : s.unitScalar b o x imm = s.runScalar s b o x imm := by
      unfold State.unitScalar
      rw [hrun, hok]
      rfl
    have hdue : Only [] [] (s.runScalar s b o x imm) (s.runScalar s b o x imm).deliverDue := Only.deliverDue _
    have hflags : ∀ c, c < 128 → (s.runScalar s b o x imm).deliverDue.flagsOf c = (s.runScalar s b o x imm).flagsOf c :=
      fun c hc => hdue.flagsOf (by simp) hc
    have hregs : ∀ c i, c < 128 → i < 64 → (s.runScalar s b o x imm).deliverDue.sReg c i = (s.scalarPut b o x imm).sReg c i :=
      fun c i hc hi => (hdue.sReg (by simp) hc hi).trans (State.sReg_runScalar _ _ _ _ _ hc hi)
    have hfree : (s.runScalar s b o x imm).deliverDue.freeCtr = (s.scalarPut b o x imm).freeCtr :=
      (State.deliverDue_freeCtr _).trans (Only.runScalar s o b x imm).freeCtr
    rw [hunit]
    refine ⟨_, s.scalarValue b o x imm % 2 ^ 64, rfl, Nat.mod_lt _ (by decide), State.scalarValue_means x imm hs, fun hcmp => ?_, fun c i hc hi h => ?_,
      fun c hc h => ?_, fun hset => ?_, fun hopen => ?_, ?_⟩
    · rw [hregs _ _ b.isLt x.dst.isLt, State.sReg_scalarPut_same _ _ _ _ _ hcmp]
    · rw [hregs c i hc hi, State.sReg_scalarPut_other _ _ _ _ _ hc hi h]
    · rw [hflags c hc, State.flagsOf_runScalar_other _ _ _ _ _ hc h]
    · refine State.scalarFlags_show hs hok hset ?_
      rw [hflags b b.isLt, State.flagsOf_runScalar_same _ _ _ _ _ hset]
    · rw [hfree, State.freeCtr_runScalar]
      exact Bool.eq_false_iff.mpr fun h => hopen ((divOverflows_iff (State.srcB_lt x imm hs)).mp h)
    · rw [hfree]
      exact (Only.runScalar s o b x imm).trans (hdue.mono (by simp) (by simp))

end

section
/-!
SUPPORT. The vector unit (R427): lanes, the order of FP32 and what each operation gives in a lane.
-/
namespace Sys2Proof.Machine

/-! ### Lanes -/

theorem lane32_lt (v i : Nat) : lane32 v i < 2 ^ 32 := by
  have h := bits_lt v (32 * i + 31) (32 * i)
  rwa [show 32 * i + 31 + 1 - 32 * i = 32 by omega] at h

/-- The sum of the first `n` lanes. -/
def laneSum (f : Nat → Nat) (n : Nat) : Nat := ((List.range n).map fun i => f i % 2 ^ 32 * 2 ^ (32 * i)).sum

theorem laneSum_succ (f : Nat → Nat) (n : Nat) : laneSum f (n + 1) = laneSum f n + f n % 2 ^ 32 * 2 ^ (32 * n) := by
  unfold laneSum
  rw [List.range_succ, List.map_append, List.sum_append, List.map_singleton, List.sum_singleton]

theorem laneSum_lt (f : Nat → Nat) (n : Nat) : laneSum f n < 2 ^ (32 * n) := by
  induction n with
  | zero => exact Nat.one_pos
  | succ n ih =>
    have hmod : f n % 2 ^ 32 < 2 ^ 32 := Nat.mod_lt _ (by decide)
    have hmul : (f n % 2 ^ 32 + 1) * 2 ^ (32 * n) ≤ 2 ^ 32 * 2 ^ (32 * n) := Nat.mul_le_mul_right _ hmod
    have hpow : 2 ^ (32 * (n + 1)) = 2 ^ 32 * 2 ^ (32 * n) := by rw [← Nat.pow_add]; congr 1; omega
    rw [laneSum_succ, hpow]
    rw [Nat.add_mul] at hmul
    omega

theorem laneSum_lane (f : Nat → Nat) {n i : Nat} (hi : i < n) : laneSum f n / 2 ^ (32 * i) % 2 ^ 32 = f i % 2 ^ 32 := by
  induction n with
  | zero => omega
  | succ n ih =>
    rw [laneSum_succ]
    obtain rfl | hlt := Nat.lt_succ_iff_lt_or_eq.mp hi |>.symm
    · rw [Nat.add_mul_div_right _ _ (Nat.two_pow_pos _), Nat.div_eq_of_lt (laneSum_lt f i), Nat.zero_add, Nat.mod_mod]
    · have hpow : 2 ^ (32 * n) = 2 ^ 32 * 2 ^ (32 * (n - i - 1)) * 2 ^ (32 * i) := by
        rw [← Nat.pow_add, ← Nat.pow_add]
        congr 1
        omega
      rw [hpow, ← Nat.mul_assoc, Nat.add_mul_div_right _ _ (Nat.two_pow_pos _), Nat.mul_left_comm, Nat.add_mul_mod_self_left]
      exact ih hlt

theorem lane32_laneSum (f : Nat → Nat) {n i : Nat} (hi : i < n) : lane32 (laneSum f n) i = f i % 2 ^ 32 := by
  unfold lane32 bits
  rw [Nat.shiftRight_eq_div_pow, show 32 * i + 31 + 1 - 32 * i = 32 by omega]
  exact laneSum_lane f hi

theorem lane32_lanes32 (f : Nat → Nat) {i : Nat} (hi : i < 8) : lane32 (lanes32 f) i = f i % 2 ^ 32 := lane32_laneSum f hi

theorem lanes32_lt (f : Nat → Nat) : lanes32 f < 2 ^ 256 := laneSum_lt f 8

theorem lane32_maskLanes (mask old new : Nat) {i : Nat} (hi : i < 8) :
    lane32 (maskLanes mask old new) i = if bit mask i then lane32 new i else lane32 old i := by
  unfold maskLanes
  rw [lane32_lanes32 _ hi]
  split <;> exact Nat.mod_eq_of_lt (lane32_lt _ _)

/-! ### The order of FP32 -/

theorem f32_less_asymm {a b : Nat} (h : f32.less a b = true) : f32.less b a = false := by
  unfold Fmt.less at h ⊢
  cases ha : f32.decode a with
  | nan => rw [ha] at h; exact absurd h Bool.false_ne_true
  | inf x => cases hb : f32.decode b <;> rw [ha, hb] at h <;> simp_all
  | fin n m e =>
    cases hb : f32.decode b with
    | nan => rw [ha, hb] at h
    | inf y => rw [ha, hb] at h; exact (Bool.not_eq_true' _).mp h
    | fin n' m' e' =>
      rw [ha, hb] at h
      dsimp only at h ⊢
      rw [decide_eq_true_eq] at h
      rw [min_comm e' e, decide_eq_false_iff_not]
      exact not_lt.mpr h.le

theorem f32_less_nan {a : Nat} (b : Nat) (h : f32.isNan a = true) : f32.less a b = false ∧ f32.less b a = false := by
  have ha : f32.decode a = .nan := by simpa [Fmt.isNan] using h
  unfold Fmt.less
  rw [ha]
  constructor
  · rfl
  · cases f32.decode b <;> rfl

/-- The lesser of two operands by an order. -/
theorem minLane_of_less {less : Nat → Nat → Bool} {a b : Nat} (free : Nat) (h : less a b = true) : minLane less a b free = a := by
  unfold minLane
  rw [if_pos h]

theorem minLane_of_greater {less : Nat → Nat → Bool} {a b : Nat} (free : Nat) (hn : less a b = false) (h : less b a = true) : minLane less a b free = b := by
  unfold minLane
  rw [if_neg (Bool.eq_false_iff.mp hn), if_pos h]

theorem minLane_self {less : Nat → Nat → Bool} {a : Nat} (free : Nat) (hn : f32.isNan a = false) : minLane less a a free = a := by
  unfold minLane
  simp [hn]

theorem minLane_nan {less : Nat → Nat → Bool} {a b : Nat} (free : Nat) (h1 : less a b = false) (h2 : less b a = false) (ha : f32.isNan a = true)
    (hb : f32.isNan b = true) : minLane less a b free = f32.nanBits := by
  unfold minLane
  simp [h1, h2, ha, hb]

/-! ### What each operation gives -/

theorem toInt32_ofInt {i : Int} (hlo : -(2 ^ 31) ≤ i) (hhi : i < 2 ^ 31) : toInt 32 (ofInt 32 i % 2 ^ 32) = i := by
  unfold toInt ofInt
  split <;> omega

/-- The lane of a lane-wise operation is what the operation means (R427). -/
theorem vectorLane_means (o : VectorOp) (va vb vc sv i free : Nat) :
    o.means (lane32 va i) (lane32 vb i) (lane32 vc i) va sv i (vectorLane o va vb vc sv i free % 2 ^ 32) := by
  have ha : lane32 va i % 2 ^ 32 = lane32 va i := Nat.mod_eq_of_lt (lane32_lt _ _)
  have hb : lane32 vb i % 2 ^ 32 = lane32 vb i := Nat.mod_eq_of_lt (lane32_lt _ _)
  cases o with
  | vmin =>
    unfold vectorLane
    refine ⟨fun h => ?_, fun h => ?_, fun h hn => ?_, fun h1 h2 => ?_⟩
    · exact (congrArg (· % 2 ^ 32) (minLane_of_less free h)).trans ha
    · exact (congrArg (· % 2 ^ 32) (minLane_of_greater free (f32_less_asymm h) h)).trans hb
    · dsimp only
      rw [← h]
      exact (congrArg (· % 2 ^ 32) (minLane_self free hn)).trans ha
    · exact congrArg (· % 2 ^ 32) (minLane_nan free (f32_less_nan _ h1).1 (f32_less_nan _ h1).2 h1 h2)
  | vmax =>
    unfold vectorLane
    refine ⟨fun h => ?_, fun h => ?_, fun h hn => ?_, fun h1 h2 => ?_⟩
    · exact (congrArg (· % 2 ^ 32) (minLane_of_greater (less := fun x y => f32.less y x) free (f32_less_asymm h) h)).trans hb
    · exact (congrArg (· % 2 ^ 32) (minLane_of_less (less := fun x y => f32.less y x) free h)).trans ha
    · dsimp only
      rw [← h]
      exact (congrArg (· % 2 ^ 32) (minLane_self free hn)).trans ha
    · exact congrArg (· % 2 ^ 32) (minLane_nan (less := fun x y => f32.less y x) free (f32_less_nan _ h1).2 (f32_less_nan _ h1).1 h1 h2)
  | vcmplt =>
    unfold vectorLane VectorOp.means
    dsimp only
    split <;> rfl
  | vsel =>
    unfold vectorLane VectorOp.means
    dsimp only
    by_cases h : lane32 vc i = 0
    · rw [if_neg (not_not.mpr h), if_pos h, hb]
    · rw [if_pos h, if_neg h, ha]
  | vshuf =>
    unfold vectorLane VectorOp.means bits
    dsimp only
    rw [Nat.mod_eq_of_lt (lane32_lt _ _), show 3 * i + 2 + 1 - 3 * i = 3 by omega, Nat.shiftRight_eq_div_pow, Nat.pow_mul]
    rfl
  | vcvti =>
    obtain ⟨hlo, hhi⟩ := toInteger_bounds f32 (lo := -(2 ^ 31)) (hi := 2 ^ 31 - 1) (by decide) (by decide) (lane32 va i)
    exact toInt32_ofInt hlo (by omega)
  | vadd | vsub | vmul | vfma | vdiv | vsqrt | vbcast | vcvtf => rfl
  | vhsum => trivial

/-! ### A vector operation of a bench -/

/-- The vector that a lane-wise operation gives, before the mask. -/
def State.vectorValue (s : State) (b : Nat) (o : VectorOp) (x : VectorSlot) : Nat :=
  lanes32 fun i => vectorLane o (s.vReg b x.va) (s.vReg b x.vb) (s.vReg b x.vc) (s.sReg b x.sreg) i
    (if o == .vmin || o == .vmax then Config.freeValue (s.freeCtr + i) else 0)

/-- The state after the open values of VMIN and VMAX. -/
def State.vectorDrew (s : State) (o : VectorOp) : State := s.when (o == .vmin || o == .vmax) fun s => { s with freeCtr := s.freeCtr + 8 }

section
variable (s : State) (o : VectorOp) (b : BenchNo) (x : VectorSlot)

theorem State.runVector_hsum : s.runVector s b .vhsum x = s.setS b x.sreg (horizontalSum (s.vReg b x.va)) := rfl

theorem State.runVector_lanes (h : o ≠ .vhsum) :
    s.runVector s b o x = (s.vectorDrew o).setV b x.vd (maskLanes x.mask (s.vReg b x.vd) (s.vectorValue b o x)) := by
  unfold State.runVector
  rw [if_neg h]
  rfl

theorem Only.vectorDrew : Only [] [] { s with freeCtr := (s.vectorDrew o).freeCtr } (s.vectorDrew o) := by
  unfold State.vectorDrew
  cases o == .vmin || o == .vmax <;> exact Only.refl _

theorem State.freeCtr_vectorDrew (h : o ≠ .vmin) (h' : o ≠ .vmax) : (s.vectorDrew o).freeCtr = s.freeCtr := by
  unfold State.vectorDrew
  rw [beq_false_of_ne h, beq_false_of_ne h']
  rfl

theorem Only.runVector (h : o ≠ .vhsum) : Only [] [Tab.benchV] { s with freeCtr := (s.vectorDrew o).freeCtr } (s.runVector s b o x) := by
  rw [State.runVector_lanes s o b x h]
  exact ((Only.vectorDrew s o).mono (by simp) (by simp)).trans (Only.setV _ _ b.isLt x.vd.isLt)

theorem State.vReg_runVector_same (h : o ≠ .vhsum) :
    (s.runVector s b o x).vReg b x.vd = maskLanes x.mask (s.vReg b x.vd) (s.vectorValue b o x) := by
  rw [State.runVector_lanes s o b x h, State.vReg_setV_same]
  exact Nat.mod_eq_of_lt (lanes32_lt _)

theorem State.vReg_runVector_other (h : o ≠ .vhsum) {c i : Nat} (hc : c < 128) (hi : i < 32) (hci : c ≠ b.val ∨ i ≠ x.vd.val) :
    (s.runVector s b o x).vReg c i = s.vReg c i := by
  rw [State.runVector_lanes s o b x h, State.vReg_setV_other _ _ x.vd.isLt hi hci]
  exact (Only.vectorDrew s o).vReg (by simp) hc hi

theorem exec_vector : exec (o.command b x) s = State.done (s.unitVector b o x) := by
  cases o <;> rfl

end

/-- A lane of VD after a lane-wise operation (R427). -/
theorem State.lane_runVector {s : State} {o : VectorOp} (b : BenchNo) (x : VectorSlot) (h : o ≠ .vhsum) {i : Nat} (hi : i < 8) :
    (bit x.mask i = true → o.means (lane32 (s.vReg b x.va) i) (lane32 (s.vReg b x.vb) i) (lane32 (s.vReg b x.vc) i) (s.vReg b x.va) (s.sReg b x.sreg) i
      (lane32 ((s.runVector s b o x).vReg b x.vd) i))
    ∧ (bit x.mask i = false → lane32 ((s.runVector s b o x).vReg b x.vd) i = lane32 (s.vReg b x.vd) i) := by
  rw [State.vReg_runVector_same s o b x h, lane32_maskLanes _ _ _ hi]
  refine ⟨fun hm => ?_, fun hm => if_neg (Bool.eq_false_iff.mp hm)⟩
  rw [if_pos hm]
  unfold State.vectorValue
  rw [lane32_lanes32 _ hi]
  exact vectorLane_means _ _ _ _ _ _ _

end Sys2Proof.Machine
end

section
/-! O56, settled. -/
open Sys2Proof Sys2Proof.Machine

/-- Settles O56: each lane of the mask is what the operation means, and a vector has no other lane. -/
theorem vectorUnit : Obligations.VectorUnit := by
  intro s o b x
  rw [exec_vector]
  refine ⟨fun h => ?_, fun hrun hok => ?_⟩
  · rw [← Bool.and_eq_true] at h
    unfold State.unitVector
    rw [if_neg h]
    rfl
  · intro va vb vc sum
    have hunit : s.unitVector b o x = s.runVector s b o x := by
      unfold State.unitVector
      rw [hrun, hok]
      rfl
    have hdue : Only [] [] (s.runVector s b o x) (s.runVector s b o x).deliverDue := Only.deliverDue _
    rw [hunit]
    refine ⟨_, rfl, ?_, fun h => ⟨fun i hi => ?_, ?_, fun c i hc hi hci => ?_, fun hmin hmax => ?_, ?_⟩⟩
    · rintro rfl
      rw [State.runVector_hsum] at hdue ⊢
      refine ⟨?_, fun c i hc hi hci => ?_, ?_⟩
      · exact (hdue.sReg (by simp) b.isLt x.sreg.isLt).trans (State.sReg_setS_same _ _ _ _)
      · exact (hdue.sReg (by simp) hc hi).trans (State.sReg_setS_other _ _ x.sreg.isLt hi hci)
      · exact (Only.setS _ _ b.isLt x.sreg.isLt).trans (hdue.mono (by simp) (by simp))
    · rw [hdue.vReg (by simp) b.isLt x.vd.isLt]
      exact State.lane_runVector b x h hi
    · rw [hdue.vReg (by simp) b.isLt x.vd.isLt, State.vReg_runVector_same s o b x h]
      exact lanes32_lt _
    · rw [hdue.vReg (by simp) hc hi, State.vReg_runVector_other s o b x h hc hi hci]
    · rw [State.deliverDue_freeCtr, (Only.runVector s o b x h).freeCtr]
      exact State.freeCtr_vectorDrew s o hmin hmax
    · rw [State.deliverDue_freeCtr, (Only.runVector s o b x h).freeCtr]
      exact (Only.runVector s o b x h).trans (hdue.mono (by simp) (by simp))

end

section
/-!
SUPPORT. How a program ends (R403, R408, R409, R465): what the departure of a bench leaves, and traps.

The job slot that a bench holds and the barrier at which it waits are unbounded in a state, so that the records of a job may lie in
any table past those of the benches, and an arrival in any register of sub-index 3. `Calm` is the frame that this leaves.
-/
namespace Sys2Proof.Machine

/-! ### The frame -/

/-- A register of a bench or of a bank, sub-index 3 apart. -/
def calmReg (k : Nat) : Prop := ((0x810000 ≤ k ∧ k < 0x818000) ∨ (0x920000 ≤ k ∧ k < 0x940000)) ∧ k % 256 ≠ 3

/-- Memory, the tables of the benches but `T`, and their registers and those of the banks but `R`, are as they were. -/
structure Calm (R T : List Nat) (s t : State) : Prop where
  mem : t.mem = s.mem
  regs : ∀ k, k ∉ R → calmReg k → t.reg k = s.reg k
  tabs : ∀ q i, 98 ≤ q → q < 110 → q ∉ T → i < 2 ^ 40 → t.tab q i = s.tab q i

theorem calmReg_bench {b a : Nat} (hb : b < 128) (ha : a < 256) (h3 : a ≠ 3) : calmReg ((0x8100 + b) * 256 + a) :=
  ⟨.inl (by omega), by omega⟩

theorem calmReg_bank {k a : Nat} (hk : k < 512) (ha : a < 256) (h3 : a ≠ 3) : calmReg ((0x9200 + k) * 256 + a) :=
  ⟨.inr (by omega), by omega⟩

theorem quietTab_bench {q : Nat} (h1 : 98 ≤ q) (h2 : q < 110) : quietTab q = true := by
  interval_cases q <;> decide

section
variable {R T : List Nat} {s t u : State}

theorem Calm.of (h : Only R T s t) : Calm R T s t where
  mem := h.mem
  regs k hk hc := h.regs k hk (quietReg_of_mid (by unfold calmReg at hc; omega) (by unfold calmReg at hc; omega))
  tabs q i h1 h2 hq hi := h.tabs q i hi hq (quietTab_bench h1 h2)

theorem Calm.refl : Calm R T s s := .of (Only.refl s)

theorem Calm.trans (h : Calm R T s t) (g : Calm R T t u) : Calm R T s u where
  mem := g.mem.trans h.mem
  regs k hk hc := (g.regs k hk hc).trans (h.regs k hk hc)
  tabs q i h1 h2 hq hi := (g.tabs q i h1 h2 hq hi).trans (h.tabs q i h1 h2 hq hi)

theorem Calm.mono {R' T' : List Nat} (h : Calm R T s t) (hR : R ⊆ R') (hT : T ⊆ T') : Calm R' T' s t where
  mem := h.mem
  regs k hk hc := h.regs k (fun h' => hk (hR h')) hc
  tabs q i h1 h2 hq hi := h.tabs q i h1 h2 (fun h' => hq (hT h')) hi

theorem Calm.when (c : Bool) (f : State → State) (h : Calm R T s (f s)) : Calm R T s (s.when c f) := by
  cases c
  · exact .refl
  · exact h

/-- A table past those of the benches. -/
theorem Calm.setTab_past (s : State) {q : Nat} (i v : Nat) (hq : 110 ≤ q) : Calm R T s (s.setTab q i v) where
  mem := rfl
  regs _ _ _ := State.reg_setTab _ _ _ _ _
  tabs q' i' _ h2 _ hi' := by
    rw [State.tab_setTab, if_neg]
    unfold tabKey
    omega

/-- A register of neither a bench nor a bank, or of sub-index 3. -/
theorem Calm.setReg_other (s : State) {k : Nat} (v : Nat) (hk : ¬calmReg k) : Calm R T s (s.setReg k v) where
  mem := rfl
  regs _ _ hc := State.reg_setReg_other _ _ fun h => hk (h ▸ hc)
  tabs _ _ _ _ _ _ := State.tab_setReg _ _ _ _ _

theorem Calm.benchReg (h : Calm R T s t) {b a : Nat} (hb : b < 128) (ha : a < 256) (h3 : a ≠ 3) (hr : (0x8100 + b) * 256 + a ∉ R) :
    t.reg ((0x8100 + b) * 256 + a) = s.reg ((0x8100 + b) * 256 + a) := h.regs _ hr (calmReg_bench hb ha h3)

theorem Calm.misc (h : Calm R T s t) {b k : Nat} (hb : b < 128) (hk : k < 16) (hT : Tab.benchMisc ∉ T) : t.misc b k = s.misc b k :=
  h.tabs _ _ (by decide) (by decide) hT (by omega)

theorem Calm.cw (h : Calm R T s t) {b k : Nat} (hb : b < 128) (hk : k < 32) (hT : Tab.benchCw ∉ T) : t.cw b k = s.cw b k :=
  h.tabs _ _ (by decide) (by decide) hT (by omega)

theorem Calm.sReg (h : Calm R T s t) {b i : Nat} (hb : b < 128) (hi : i < 64) (hT : Tab.benchS ∉ T) : t.sReg b i = s.sReg b i :=
  h.tabs _ _ (by decide) (by decide) hT (by omega)

theorem Calm.vReg (h : Calm R T s t) {b i : Nat} (hb : b < 128) (hi : i < 32) (hT : Tab.benchV ∉ T) : t.vReg b i = s.vReg b i :=
  h.tabs _ _ (by decide) (by decide) hT (by omega)

theorem Calm.tReg (h : Calm R T s t) {b i : Nat} (hb : b < 128) (hi : i < 16) (hT : Tab.benchT ∉ T) : t.tReg b i = s.tReg b i :=
  h.tabs _ _ (by decide) (by decide) hT (by omega)

theorem Calm.sendQueue (h : Calm R T s t) {b : Nat} (hb : b < 128) (hT : Tab.benchSend ∉ T) : t.sendQueue b = s.sendQueue b := by
  unfold State.sendQueue State.entries
  congr 1
  exact List.map_congr_left fun i hi => h.tabs _ _ (by decide) (by decide) hT (by have := List.mem_range.mp hi; omega)

end

/-! ### Stacks and queues -/

/-- An element of a stack that is set. -/
theorem State.tab_setEntries (s : State) (t base : Nat) (l : List Nat) {n i : Nat} (hi : i < n) :
    (s.setEntries t base n l).tab t (base + i) = match l[i]? with | none => 0 | some v => v + 1 := by
  induction n with
  | zero => omega
  | succ n ih =>
    have hsplit : s.setEntries t base (n + 1) l = (s.setEntries t base n l).setTab t (base + n) (match l[n]? with | none => 0 | some v => v + 1) := by
      unfold State.setEntries State.forAll
      rw [List.range_succ, List.foldl_append]
      rfl
    rw [hsplit]
    obtain hlt | rfl := Nat.lt_succ_iff_lt_or_eq.mp hi
    · rw [State.tab_setTab_index _ _ (by omega), ih hlt]
    · exact State.tab_setTab_same _ _ _ _

/-- The places of a stack, read in order, give its entries. -/
theorem filterMap_places (l : List Nat) (n : Nat) :
    ((List.range n).map (fun i => match l[i]? with | none => 0 | some v => v + 1)).filterMap
      (fun v => match v with | 0 => none | k + 1 => some k) = l.take n := by
  induction n with
  | zero => rfl
  | succ n ih =>
    rw [List.range_succ, List.map_append, List.filterMap_append, ih, List.take_add_one]
    congr 1
    cases h : l[n]? <;> simp [h]

theorem State.entries_setEntries (s : State) (t base : Nat) {n : Nat} {l : List Nat} (h : l.length ≤ n) :
    (s.setEntries t base n l).entries t base n = l := by
  have hmap : (List.range n).map (fun i => (s.setEntries t base n l).tab t (base + i))
      = (List.range n).map (fun i => match l[i]? with | none => 0 | some v => v + 1) :=
    List.map_congr_left fun i hi => State.tab_setEntries s t base l (List.mem_range.mp hi)
  unfold State.entries
  rw [hmap]
  exact (filterMap_places l n).trans (List.take_of_length_le h)

theorem State.sendQueue_setSendQueue (s : State) (b : Nat) {l : List Nat} (h : l.length ≤ 16) : (s.setSendQueue b l).sendQueue b = l :=
  State.entries_setEntries _ _ _ h

/-! ### Banks that return (R465) -/

/-- The registers of the banks. -/
def bankRegs : List Nat := (List.range 0x20000).map (0x920000 + ·)

theorem bankReg_mem {k a : Nat} (hk : k < 512) (ha : a < 256) : (0x9200 + k) * 256 + a ∈ bankRegs :=
  List.mem_map.mpr ⟨k * 256 + a, List.mem_range.mpr (by omega), by omega⟩

theorem bankRegs_ge {k : Nat} (h : k ∈ bankRegs) : 0x920000 ≤ k := by
  obtain ⟨i, -, rfl⟩ := List.mem_map.mp h
  omega

theorem benchReg_notBank {b a : Nat} (hb : b < 128) (ha : a < 256) : (0x8100 + b) * 256 + a ∉ bankRegs ++ modeRegs := by
  intro h
  obtain h | h := List.mem_append.mp h
  · have := bankRegs_ge h
    omega
  · exact benchReg_notMode ha h

theorem bankReg_notMode {k a : Nat} (ha : a < 256) : (0x9200 + k) * 256 + a ∉ modeRegs := by
  have hlow : ∀ k ∈ modeRegs, k < 0x810000 := by decide
  exact fun h => absurd (hlow _ h) (by omega)

theorem quietReg_bank {k a : Nat} (hk : k < 512) (ha : a < 256) : quietReg ((0x9200 + k) * 256 + a) = true :=
  quietReg_of_mid (by omega) (by omega)

theorem Only.setBank {T : List Nat} (s : State) {k : Nat} (st owner : Nat) (hk : k < 512) : Only (bankRegs ++ modeRegs) T s (s.setBank k st owner) := by
  have hreg : ∀ a, a < 256 → (0x9200 + k) * 256 + a ∈ bankRegs ++ modeRegs := fun a ha => List.mem_append_left _ (bankReg_mem hk ha)
  have hmode : ∀ m ∈ modeRegs, m ∈ bankRegs ++ modeRegs := fun m hm => List.mem_append_right _ hm
  unfold State.setBank State.refreshFaulty
  exact (((Only.when _ _ _ fun u => Only.bump _ _ _ _ (.inl (hreg 0x0C (by decide)))).trans (Only.setReg _ _ _ (.inl (hreg 1 (by decide))))).trans
    (Only.setReg _ _ _ (.inl (hreg 2 (by decide))))).trans
    (Only.setCause _ _ _ (hmode _ (by decide)) (hmode _ (by decide)) (hmode _ (by decide)) (hmode _ (by decide)) (hmode _ (by decide))
      (hmode _ (by decide)) (hmode _ (by decide)))

theorem Only.bankEvent {T : List Nat} (s : State) {k i : Nat} (hk : k < 512) (hi : i < 2) : Only (bankRegs ++ modeRegs) T s (s.bankEvent k i) := by
  have hreg : ∀ a, a < 256 → (0x9200 + k) * 256 + a ∈ bankRegs ++ modeRegs := fun a ha => List.mem_append_left _ (bankReg_mem hk ha)
  exact Only.event _ _ _ _ (.inl (hreg 0x0D (by decide))) (.inl (by have := hreg (0x0D + 1 + i) (by omega); rwa [← Nat.add_assoc, ← Nat.add_assoc] at this))

theorem Only.returnBank {T : List Nat} (s : State) {k : Nat} (hk : k < 512) : Only (bankRegs ++ modeRegs) T s (s.returnBank k) :=
  (Only.setBank s 1 ownerHost hk).trans (Only.bankEvent _ hk (by decide))

theorem State.banksOf_lt {s : State} {b k : Nat} (h : k ∈ s.banksOf b) : k < 512 := by
  obtain ⟨e, he, rfl⟩ := List.mem_map.mp (List.mem_of_mem_filter h)
  have hrange := (List.mem_filter.mp (List.mem_of_mem_filter he)).2
  simp only [regKey, Bool.and_eq_true, decide_eq_true_eq] at hrange
  omega

theorem Only.returnAtEnd {T : List Nat} (s : State) (b : Nat) : Only (bankRegs ++ modeRegs) T s (s.returnAtEnd b) :=
  Only.forAll _ _ _ fun u _ hk => Only.returnBank u (State.banksOf_lt (List.mem_of_mem_filter hk))

/-- The owner of a bank is no flag of one. -/
theorem bankOwner_ne_events (k j : Nat) : Reg.POOL_BANK.OWNER k ≠ Reg.POOL_BANK.EVENTS j ∧ Reg.POOL_BANK.OWNER k ≠ Reg.POOL_BANK.EVENTS j + 1 + 1 := by
  simp only [Reg.POOL_BANK.OWNER, Reg.POOL_BANK.EVENTS]
  omega

theorem bankOwner_ne {k j : Nat} (h : k ≠ j) : Reg.POOL_BANK.OWNER k ≠ Reg.POOL_BANK.OWNER j := by
  simp only [Reg.POOL_BANK.OWNER]
  omega

theorem State.bankOwner_returnBank_same (s : State) {k : Nat} (hk : k < 512) : (s.returnBank k).bankOwner k = ownerHost := by
  obtain ⟨h1, h2⟩ := bankOwner_ne_events k k
  unfold State.returnBank State.bankEvent State.bankOwner State.setBank State.refreshFaulty
  rw [State.reg_event_other _ _ _ _ _ (quietReg_bank hk (by decide)) h1 h2,
    State.reg_setCause _ _ _ _ (quietReg_bank hk (by decide)) (bankReg_notMode (by decide)), State.reg_setReg_same]

theorem State.bankOwner_returnBank (s : State) {j k : Nat} (hk : k < 512) (h : s.bankOwner k = ownerHost) :
    (s.returnBank j).bankOwner k = ownerHost := by
  by_cases hjk : k = j
  · subst hjk
    exact s.bankOwner_returnBank_same hk
  · refine Eq.trans ?_ h
    obtain ⟨h1, h2⟩ := bankOwner_ne_events k j
    have hstate : Reg.POOL_BANK.OWNER k ≠ Reg.POOL_BANK.STATE j := regSub_ne (by decide) (by decide) (by decide)
    have hcount : Reg.POOL_BANK.OWNER k ≠ Reg.POOL_BANK.HANDOVERS j := regSub_ne (by decide) (by decide) (by decide)
    unfold State.returnBank State.bankEvent State.bankOwner State.setBank State.refreshFaulty
    rw [State.reg_event_other _ _ _ _ _ (quietReg_bank hk (by decide)) h1 h2,
      State.reg_setCause _ _ _ _ (quietReg_bank hk (by decide)) (bankReg_notMode (by decide)), State.reg_setReg_other _ _ (bankOwner_ne hjk),
      State.reg_setReg_other _ _ hstate, State.reg_when]
    split
    · rw [State.reg_bump, if_neg hcount]
    · rfl

/-- Every bank of a list that returns is the host's. -/
theorem State.bankOwner_forAll_returnBank (s : State) (l : List Nat) {k : Nat} (hk : k < 512) (h : k ∈ l ∨ s.bankOwner k = ownerHost) :
    (s.forAll l State.returnBank).bankOwner k = ownerHost := by
  induction l generalizing s with
  | nil => exact h.resolve_left (by simp)
  | cons j l ih =>
    refine ih (s.returnBank j) ?_
    obtain h | h := h
    · obtain rfl | h := List.mem_cons.mp h
      · exact .inr (s.bankOwner_returnBank_same hk)
      · exact .inl h
    · exact .inr (s.bankOwner_returnBank hk h)

theorem State.bankOwner_returnAtEnd {s : State} {b k : Nat} (h : k ∈ s.banksOf b) (hr : s.reg (Reg.POOL_BANK.RETURN_ON_END k) = 1) :
    (s.returnAtEnd b).bankOwner k = ownerHost :=
  State.bankOwner_forAll_returnBank s _ (State.banksOf_lt h) (.inl (List.mem_filter.mpr ⟨h, beq_iff_eq.mpr hr⟩))

/-! ### The departure of a bench (R409, R493) -/

theorem Only.completeSrc {R T : List Nat} (s : State) {n : Nat} (hn : n < 2 ^ 40) : Only R T s (s.completeSrc n) := by
  have hset : ∀ (st : Nat) (u : State), Only R T u ((u.setSrcState n st).setClaimedBy n 0xFF) := fun st u =>
    (Only.setSrcState _ _ _ hn).trans (Only.setClaimedBy _ _ _ hn)
  unfold State.completeSrc
  dsimp only
  split
  · exact (hset 1 s).trans (Only.offer _ _)
  · split
    · exact (hset 1 s).trans (Only.when _ _ _ fun u => Only.startTimer _ _)
    · exact hset 0 s

theorem Only.completeAllOf {R T : List Nat} (s : State) (t : Nat) : Only R T s (s.completeAllOf t) := by
  refine Only.forAll _ _ _ fun u n hn => Only.completeSrc u ?_
  obtain ⟨e, he, rfl⟩ := List.mem_map.mp hn
  exact State.mem_tabList (List.mem_of_mem_filter he)

section
variable {R T : List Nat} (s : State)

theorem Calm.completeJob (slot status bench userCode : Nat) (data : Bytes) : Calm R T s (s.completeJob slot status bench userCode data) := by
  unfold State.completeJob
  dsimp only
  refine ((((Calm.setTab_past _ _ _ (by decide)).trans (.setTab_past _ _ _ (by decide))).trans (.setTab_past _ _ _ (by decide))).trans
    (.setReg_other _ _ ?_)).trans (.of (Only.trigger _ _))
  unfold calmReg
  decide

theorem Calm.endJob {b : Nat} (status userCode : Nat) (data : Bytes) (hb : b < 128) (ht : Tab.benchMisc ∈ T) :
    Calm R T s (s.endJob b status userCode data) := by
  unfold State.endJob
  split
  · exact .refl
  · exact ((Calm.of (Only.setMisc _ _ hb (by decide) ht)).trans (.completeJob _ _ _ _ _ _)).trans (.of (Only.benchCounted _ _ _ hb (by decide)))

theorem Calm.withdrawArrival {b : Nat} (hb : b < 128) (ht : Tab.benchMisc ∈ T) : Calm R T s (s.withdrawArrival b) := by
  unfold State.withdrawArrival
  split
  · exact .refl
  · exact (Calm.of (Only.setMisc _ _ hb (by decide) ht)).trans (.setReg_other _ _ fun h => h.2 (by simp only [Reg.BARRIER.ARRIVED]; omega))

theorem Calm.clearTileWaits {b : Nat} (hb : b < 128) (ht : Tab.benchMisc ∈ T) (hw : Tab.tileWait ∈ T) : Calm R T s (s.clearTileWaits b) :=
  .of ((Only.clearTabRange _ _ _ _ hw).trans (Only.setMisc _ _ hb (by decide) ht))

/-- The tables that a departure writes. -/
def departTabs : List Nat := [Tab.benchSend, Tab.benchMisc, Tab.tileWait]

/-- The state before a departing bench's job ends. -/
def State.departing (s : State) (b : Nat) : State := ((s.clearTileWaits b).setSendQueue b []).withdrawArrival b

theorem State.depart_eq (b status userCode : Nat) : s.depart b status userCode = ((s.departing b).endJob b status userCode []).completeAllOf b := rfl

theorem Calm.departing {b : Nat} (hb : b < 128) : Calm R departTabs s (s.departing b) :=
  ((Calm.clearTileWaits s hb (by decide) (by decide)).trans (.of (Only.setSendQueue _ _ hb (by decide)))).trans
    (.withdrawArrival _ hb (by decide))

theorem Calm.depart {b : Nat} (status userCode : Nat) (hb : b < 128) : Calm R departTabs s (s.depart b status userCode) :=
  ((Calm.departing s hb).trans (.endJob _ _ _ _ hb (by decide))).trans (.of (Only.completeAllOf _ _))

theorem State.sendQueue_depart {b : Nat} (status userCode : Nat) (hb : b < 128) : (s.depart b status userCode).sendQueue b = [] := by
  have hempty : ((s.clearTileWaits b).setSendQueue b []).sendQueue b = [] := State.sendQueue_setSendQueue _ _ (by simp)
  have hcalm : Calm [] [Tab.benchMisc] ((s.clearTileWaits b).setSendQueue b []) (s.depart b status userCode) :=
    ((Calm.withdrawArrival _ hb (by decide)).trans (.endJob _ _ _ _ hb (by decide))).trans (.of (Only.completeAllOf _ _))
  exact (hcalm.sendQueue hb (by decide)).trans hempty

/-! ### Traps (R408) -/

/-- The registers in which a trap or a halt of bench `b` shows. -/
def haltRegs (b : Nat) : List Nat :=
  [Reg.BENCH.STATE b, Reg.BENCH.TRAP_CAUSE b, Reg.BENCH.TRAP_PC b, Reg.BENCH.CURRENT_JOB b, Reg.BENCH.EVENTS b, Reg.BENCH.EVENTS b + 1,
   Reg.BENCH.EVENTS b + 1 + 1] ++ modeRegs

/-- The registers that a trap of bench `b` writes. -/
def trapRegs (b : Nat) : List Nat := haltRegs b ++ (bankRegs ++ modeRegs)

/-- The state in which a bench has departed from its program, its banks returned. -/
def State.progLeft (s : State) (b status userCode : Nat) : State := (s.returnAtEnd b).depart b status userCode

theorem Calm.progLeft {b : Nat} (status userCode : Nat) (hb : b < 128) : Calm (bankRegs ++ modeRegs) departTabs s (s.progLeft b status userCode) :=
  (Calm.of (Only.returnAtEnd s b)).trans (.depart _ _ _ hb)

theorem State.sendQueue_progLeft {b : Nat} (status userCode : Nat) (hb : b < 128) : (s.progLeft b status userCode).sendQueue b = [] :=
  State.sendQueue_depart _ _ _ hb

/-- A trap's own registers, after the departure. -/
def State.trapShown (s : State) (b cause : Nat) : State :=
  let s := s.setBench b 3
  let s := (s.setReg (Reg.BENCH.TRAP_CAUSE b) cause).setReg (Reg.BENCH.TRAP_PC b) (s.reg (Reg.BENCH.PC b))
  (s.setReg (Reg.BENCH.CURRENT_JOB b) 0).benchEvent b 0

theorem State.trapBench_eq (b cause : Nat) : s.trapBench b cause = (s.progLeft b 1 cause).trapShown b cause := rfl

theorem Only.benchEvent {R T : List Nat} (s : State) {b i : Nat} (hk : Reg.BENCH.EVENTS b ∈ R) (hi : Reg.BENCH.EVENTS b + 1 + i ∈ R) :
    Only R T s (s.benchEvent b i) := Only.event _ _ _ _ (.inl hk) (.inl hi)

theorem Only.trapShown (b cause : Nat) : Only (haltRegs b) [] s (s.trapShown b cause) := by
  unfold State.trapShown
  exact (((Only.setBench _ _ _ (by simp) fun m hm => List.mem_append_right _ hm).trans
    ((Only.setReg _ _ _ (.inl (by simp))).trans (Only.setReg _ _ _ (.inl (by simp))))).trans
    (Only.setReg _ _ _ (.inl (by simp)))).trans
    (Only.benchEvent _ (by simp) (by rw [Nat.add_zero]; simp))

/-- The registers of benches before their flags are no flags. -/
theorem benchReg_ne_event (b c : Nat) {a i : Nat} (ha : a < 0x14) (hi : i < 5) :
    (0x8100 + b) * 256 + a ≠ Reg.BENCH.EVENTS c ∧ (0x8100 + b) * 256 + a ≠ Reg.BENCH.EVENTS c + 1 + i := by
  simp only [Reg.BENCH.EVENTS]
  omega

theorem State.reg_benchEvent (s : State) {b c a i : Nat} (hc : c < 128) (ha : a < 0x14) (hi : i < 5) :
    (s.benchEvent b i).reg ((0x8100 + c) * 256 + a) = s.reg ((0x8100 + c) * 256 + a) :=
  State.reg_event_other _ _ _ _ _ (quietReg_bench hc (by omega)) (benchReg_ne_event c b ha hi).1 (benchReg_ne_event c b ha hi).2

theorem State.bit_benchEvent (s : State) {b : Nat} (i : Nat) (hb : b < 128) : bit ((s.benchEvent b i).reg (Reg.BENCH.EVENTS b)) i = true := by
  unfold State.benchEvent
  rw [State.reg_event_flag _ _ _ _ (quietReg_bench hb (by decide)), bit_setBit]

/-- A register of a bench after a store to one of another sub-index. -/
theorem State.reg_setReg_sub (s : State) {b c a a' : Nat} (v : Nat) (ha : a < 256) (ha' : a' < 256) (h : a ≠ a') :
    (s.setReg ((0x8100 + b) * 256 + a') v).reg ((0x8100 + c) * 256 + a) = s.reg ((0x8100 + c) * 256 + a) :=
  State.reg_setReg_other _ _ (regSub_ne ha ha' h)

theorem State.trapShown_shows {b : Nat} (cause : Nat) (hb : b < 128) :
    (s.trapShown b cause).benchState b = 3 ∧ (s.trapShown b cause).reg (Reg.BENCH.TRAP_CAUSE b) = cause
      ∧ (s.trapShown b cause).reg (Reg.BENCH.TRAP_PC b) = s.reg (Reg.BENCH.PC b) ∧ (s.trapShown b cause).reg (Reg.BENCH.CURRENT_JOB b) = 0
      ∧ bit ((s.trapShown b cause).reg (Reg.BENCH.EVENTS b)) 0 = true := by
  have hpc : (s.setBench b 3).reg (Reg.BENCH.PC b) = s.reg (Reg.BENCH.PC b) :=
    State.reg_setBench_other s (quietReg_bench hb (by decide)) (regSub_ne (by decide) (by decide) (by decide)) (benchReg_notMode (by decide))
  unfold State.trapShown State.benchState
  dsimp only
  refine ⟨?_, ?_, ?_, ?_, State.bit_benchEvent _ _ hb⟩
  · rw [State.reg_benchEvent _ hb (by decide) (by decide), State.reg_setReg_sub _ _ (by decide) (by decide) (by decide),
      State.reg_setReg_sub _ _ (by decide) (by decide) (by decide), State.reg_setReg_sub _ _ (by decide) (by decide) (by decide)]
    exact State.benchState_setBench s 3 hb
  · rw [State.reg_benchEvent _ hb (by decide) (by decide), State.reg_setReg_sub _ _ (by decide) (by decide) (by decide),
      State.reg_setReg_sub _ _ (by decide) (by decide) (by decide), State.reg_setReg_same]
  · rw [State.reg_benchEvent _ hb (by decide) (by decide), State.reg_setReg_sub _ _ (by decide) (by decide) (by decide),
      State.reg_setReg_same]
    exact hpc
  · rw [State.reg_benchEvent _ hb (by decide) (by decide), State.reg_setReg_same]

/-- The frame of a trap. -/
theorem Calm.trapBench {b : Nat} (cause : Nat) (hb : b < 128) : Calm (trapRegs b) departTabs s (s.trapBench b cause) :=
  ((Calm.progLeft s 1 cause hb).mono (List.subset_append_right _ _) (by simp)).trans ((Calm.of (Only.trapShown _ b cause)).mono (List.subset_append_left _ _) (by simp))

theorem haltRegs_not {b c a : Nat} (hcb : c ≠ b ∨ a = 9) (ha : a = 1 ∨ a = 9) : (0x8100 + c) * 256 + a ∉ haltRegs b := by
  intro h
  obtain h | h := List.mem_append.mp h
  · simp only [List.mem_cons, List.not_mem_nil, or_false, Reg.BENCH.STATE, Reg.BENCH.TRAP_CAUSE, Reg.BENCH.TRAP_PC, Reg.BENCH.CURRENT_JOB,
      Reg.BENCH.EVENTS] at h
    omega
  · exact benchReg_notMode (by omega) h

theorem trapRegs_not {b c a : Nat} (hc : c < 128) (hcb : c ≠ b ∨ a = 9) (ha : a = 1 ∨ a = 9) : (0x8100 + c) * 256 + a ∉ trapRegs b := by
  intro h
  obtain h | h := List.mem_append.mp h
  · exact haltRegs_not hcb ha h
  · exact benchReg_notBank hc (by omega) h

/-- A bench that traps has trapped (R408). -/
theorem State.trapBench_trapped {b : Nat} (cause : Nat) (hb : b < 128) : (s.trapBench b cause).deliverDue.trapped s b cause := by
  have hcalm : Calm (trapRegs b) departTabs s (s.trapBench b cause).deliverDue :=
    (Calm.trapBench s cause hb).trans (.of (Only.deliverDue _))
  obtain ⟨hst, hcause, hpc, hjob, hev⟩ := (s.progLeft b 1 cause).trapShown_shows cause hb
  have hdue : ∀ a, a < 256 → (s.trapBench b cause).deliverDue.reg ((0x8100 + b) * 256 + a) = (s.trapBench b cause).reg ((0x8100 + b) * 256 + a) :=
    fun a ha => State.reg_deliverDue _ (quietReg_bench hb ha)
  refine ⟨(hdue 1 (by decide)).trans hst, (hdue 0x0A (by decide)).trans hcause, ((hdue 0x0B (by decide)).trans hpc).trans ?_, ?_,
    (hdue 0x0C (by decide)).trans hjob, ?_, ?_, hcalm.mem, fun c i hc => ⟨fun hi => ?_, fun hi => ?_, fun hi => ?_⟩, fun c hc hcb => ⟨?_, ?_⟩⟩
  · exact (Calm.progLeft s 1 cause hb).benchReg hb (by decide) (by decide) (benchReg_notBank hb (by decide))
  · exact hcalm.benchReg hb (by decide) (by decide) (trapRegs_not hb (.inr rfl) (.inr rfl))
  · rw [hdue 0x14 (by decide)]
    exact hev
  · have hq : Calm (haltRegs b) [] (s.progLeft b 1 cause) (s.trapBench b cause).deliverDue :=
      (Calm.of (Only.trapShown _ b cause)).trans (.of (Only.deliverDue _))
    rw [hq.sendQueue hb (by simp), State.sendQueue_progLeft s _ _ hb]
  · exact hcalm.sReg hc hi (by decide)
  · exact hcalm.vReg hc hi (by decide)
  · exact hcalm.tReg hc hi (by decide)
  · exact hcalm.benchReg hc (by decide) (by decide) (trapRegs_not hc (.inl hcb) (.inl rfl))
  · exact hcalm.benchReg hc (by decide) (by decide) (trapRegs_not hc (.inl hcb) (.inr rfl))

end
end Sys2Proof.Machine
end

section
/-!
SUPPORT. Octets of memory and the tiles of a bench (R386, R387, R390, R430).
-/
namespace Sys2Proof.Machine

/-! ### Octets in memory -/

theorem State.byte_setBytes (s : State) (a : Nat) (x : Bytes) (k : Nat) :
    (s.setBytes a x).byte k = if a ≤ k ∧ k < a + x.length then x.getD (k - a) 0 % 256 else s.byte k := by
  induction x generalizing s a with
  | nil => rw [State.setBytes, if_neg (by simp)]
  | cons v x ih =>
    rw [State.setBytes, ih, State.byte_setByte, List.length_cons]
    by_cases hk : k = a
    · subst hk
      rw [if_neg (by omega), if_pos rfl, if_pos (by omega), Nat.sub_self, List.getD_cons_zero]
    · rw [if_neg hk]
      by_cases hin : a + 1 ≤ k ∧ k < a + 1 + x.length
      · rw [if_pos hin, if_pos (by omega), show k - a = k - (a + 1) + 1 by omega, List.getD_cons_succ]
      · rw [if_neg hin, if_neg (by omega)]

theorem OnlyMem.setBytes {R T : List Nat} {lo hi : Nat} (s : State) (a : Nat) (x : Bytes) (h1 : lo ≤ a) (h2 : a + x.length ≤ hi) :
    OnlyMem R T lo hi s (s.setBytes a x) := by
  refine ⟨fun k hk => by rw [State.byte_setBytes, if_neg (by omega)], ?_⟩
  have hframe : ∀ (x : Bytes) (u : State) (a : Nat), u.setBytes a x = { u with mem := (u.setBytes a x).mem } := by
    intro x
    induction x with
    | nil => exact fun _ _ => rfl
    | cons v x ih => exact fun u a => (ih (u.setByte a v) (a + 1)).trans rfl
  rw [hframe x s a]
  exact Only.refl _

theorem getD_toLE {n k : Nat} (v : Nat) (h : k < n) : (toLE n v).getD k 0 = bits v (8 * k + 7) (8 * k) := by
  induction n generalizing v k with
  | zero => omega
  | succ n ih =>
    rw [toLE]
    cases k with
    | zero => rfl
    | succ k =>
      rw [List.getD_cons_succ, ih (v / 256) (by omega)]
      unfold bits
      rw [Nat.shiftRight_eq_div_pow, Nat.shiftRight_eq_div_pow, show 8 * (k + 1) = 8 + 8 * k by omega, Nat.pow_add, Nat.div_div_eq_div_mul]
      congr 2
      omega

theorem bits_octet_lt (v k : Nat) : bits v (8 * k + 7) (8 * k) < 256 := by
  have h := bits_lt v (8 * k + 7) (8 * k)
  rwa [show 8 * k + 7 + 1 - 8 * k = 8 by omega] at h

/-- A number stored in scratch, octet by octet. -/
theorem State.byte_setScratch_toLE (s : State) (b a v : Nat) {n k : Nat} (h : k < n) :
    (s.setScratch b a (toLE n v)).byte (scratchAddr b a + k) = bits v (8 * k + 7) (8 * k) := by
  unfold State.setScratch
  rw [State.byte_setBytes, length_toLE, if_pos (by omega), Nat.add_sub_cancel_left, getD_toLE v h, Nat.mod_eq_of_lt (bits_octet_lt v k)]

/-! ### Accumulators -/

theorem tileAt_eq_lane32 (v r c : Nat) : tileAt v r c = lane32 v (8 * r + c) := rfl

theorem tileAt_tileOf (f : Nat → Nat → Nat) {i j : Nat} (hi : i < 8) (hj : j < 8) : tileAt (tileOf f) i j = f i j % 2 ^ 32 := by
  have h := lane32_laneSum (fun k => f (k / 8) (k % 8)) (n := 64) (i := 8 * i + j) (by omega)
  rw [tileAt_eq_lane32]
  refine h.trans ?_
  rw [show (8 * i + j) / 8 = i by omega, show (8 * i + j) % 8 = j by omega]

theorem tileAt_mod (v : Nat) {i j : Nat} (hi : i < 8) (hj : j < 8) : tileAt (v % 2 ^ 2048) i j = tileAt v i j := by
  unfold tileAt
  refine Nat.eq_of_testBit_eq fun k => ?_
  rw [testBit_bits, testBit_bits, Nat.testBit_mod_two_pow]
  by_cases hk : k < 32 * (8 * i + j) + 31 + 1 - 32 * (8 * i + j)
  · rw [decide_eq_true hk, decide_eq_true (by omega : 32 * (8 * i + j) + k < 2048), Bool.true_and]
  · rw [decide_eq_false hk, Bool.false_and, Bool.false_and]

/-- Each element of a product accumulates for itself. -/
theorem tileAt_foldl (g : Nat → Nat → Nat → Nat → Nat) (l : List Nat) (acc : Nat) {i j : Nat} (hi : i < 8) (hj : j < 8) :
    tileAt (l.foldl (fun acc n => tileOf fun i j => g n i j (tileAt acc i j)) acc) i j
      = l.foldl (fun a n => g n i j a % 2 ^ 32) (tileAt acc i j) := by
  induction l generalizing acc with
  | nil => rfl
  | cons n l ih => rw [List.foldl_cons, List.foldl_cons, ih, tileAt_tileOf _ hi hj]

/-! ### What a tile operation writes -/

theorem State.tReg_setT_same (s : State) (b i v : Nat) : (s.setT b i v).tReg b i = v % 2 ^ 2048 := s.tab_setTab_same _ _ _

theorem State.tReg_setT_other (s : State) {b i c j : Nat} (v : Nat) (hi : i < 16) (hj : j < 16) (h : c ≠ b ∨ j ≠ i) :
    (s.setT b i v).tReg c j = s.tReg c j := State.tab_setTab_index s _ (by omega)

theorem Only.setT (s : State) {b i : Nat} (v : Nat) (hb : b < 128) (hi : i < 16) : Only [] [Tab.benchT] s (s.setT b i v) :=
  Only.setTab _ _ _ _ (by omega) (.inl (by simp))

/-- The state after a tile's clocks have been counted. -/
def State.tileCounted (s : State) (b n : Nat) : State := s.setTab Tab.interval (128 + b) (s.tab Tab.interval (128 + b) + n)

theorem Only.tileCounted (s : State) {b : Nat} (n : Nat) (hb : b < 128) : Only [] [Tab.interval] s (s.tileCounted b n) :=
  Only.setTab _ _ _ _ (by omega) (.inl (by simp))

theorem State.interval_tileCounted (s : State) (b n : Nat) : (s.tileCounted b n).tab Tab.interval (128 + b) = s.tab Tab.interval (128 + b) + n :=
  State.tab_setTab_same _ _ _ _

/-- An accumulator written, its clocks counted. -/
theorem State.setT_tileCounted (s : State) (b : BenchNo) (t : TReg) (n v : Nat) :
    let u := ((s.tileCounted b n).setT b t v).deliverDue
    (∀ i j, i < 8 → j < 8 → tileAt (u.tReg b t) i j = tileAt v i j) ∧ (v = 0 → u.tReg b t = 0) ∧ (∀ c i, c < 128 → i < 16 → c ≠ b.val ∨ i ≠ t.val → u.tReg c i = s.tReg c i)
      ∧ u.tab Tab.interval (128 + b) = s.tab Tab.interval (128 + b) + n ∧ Only [] [Tab.benchT, Tab.interval] s u := by
  intro u
  have hcount := Only.tileCounted s n b.isLt
  have hset := Only.setT (s.tileCounted b n) v b.isLt t.isLt
  have hdue : Only [] [] ((s.tileCounted b n).setT b t v) u := Only.deliverDue _
  have hacc : u.tReg b t = v % 2 ^ 2048 := (hdue.tReg (by simp) b.isLt t.isLt).trans (State.tReg_setT_same _ _ _ _)
  refine ⟨fun i j hi hj => ?_, fun hv => ?_, fun c i hc hi h => ?_, ?_,
    ((hcount.mono (by simp) (by simp)).trans (hset.mono (by simp) (by simp))).trans (hdue.mono (by simp) (by simp))⟩
  · rw [hacc, tileAt_mod v hi hj]
  · rw [hacc, hv, Nat.zero_mod]
  · rw [hdue.tReg (by simp) hc hi, State.tReg_setT_other _ _ t.isLt hi h, hcount.tReg (by decide) hc hi]
  · rw [hdue.tabs _ _ (by omega) (by simp) (by decide), hset.tabs _ _ (by omega) (by decide) (by decide), State.interval_tileCounted]

theorem State.unitTile_stopped {s : State} {b : BenchNo} (t : Nat) (o : TileOp) (e : BenchEnv) (h : s.benchRuns b = false) :
    State.done (s.unitTile b t o e) = .next s.deliverDue := by
  unfold State.unitTile
  rw [h]
  rfl

theorem State.unitTile_runs {s u : State} {b : BenchNo} {t : Nat} {o : TileOp} {e : BenchEnv} (h : s.benchRuns b = true) (ht : s.tileTrap b o e = none)
    (hu : s.runTile s b t o = u) : State.done (s.unitTile b t o e) = .next u.deliverDue := by
  unfold State.unitTile
  rw [h, ht, ← hu]
  rfl

theorem State.unitTile_traps {s : State} {b : BenchNo} {t : Nat} {o : TileOp} {e : BenchEnv} {c : Nat} (h : s.benchRuns b = true)
    (ht : s.tileTrap b o e = some c) : ∃ u, State.done (s.unitTile b t o e) = .next u ∧ u.trapped s b c := by
  refine ⟨_, rfl, ?_⟩
  unfold State.unitTile
  rw [h, ht]
  exact State.trapBench_trapped s c b.isLt

/-! ### Accesses to scratch that trap -/

theorem scratchTrap_out {a n : Nat} (reads : Bool) (e : BenchEnv) (h : 262144 < a + n) : scratchTrap a n reads e = some 2 := by
  unfold scratchTrap inScratch
  rw [decide_eq_false (Nat.not_le.mpr h : ¬a + n ≤ scratchSize)]
  rfl

theorem scratchTrap_bad {a n : Nat} {e : BenchEnv} (h : a + n ≤ 262144) (he : e.scratchBad = true) : scratchTrap a n true e = some 8 := by
  unfold scratchTrap inScratch
  rw [decide_eq_true (h : a + n ≤ scratchSize), he]
  rfl

theorem scratchTrap_none {a n : Nat} {reads : Bool} {e : BenchEnv} (h : a + n ≤ 262144) (he : reads = false ∨ e.scratchBad = false) :
    scratchTrap a n reads e = none := by
  have hr : (reads && e.scratchBad) = false := by
    obtain h | h := he <;> rw [h]
    · rfl
    · exact Bool.and_false _
  unfold scratchTrap inScratch
  rw [decide_eq_true (h : a + n ≤ scratchSize), hr]
  rfl

section
variable {s : State} {b : BenchNo} {ra rb rk : SReg} {e : BenchEnv}

theorem tileTrap_tmma_out (h : 262144 < s.sReg b ra + 32 * s.sReg b rk ∨ 262144 < s.sReg b rb + 32 * s.sReg b rk) (he : e.scratchBad = false) :
    s.tileTrap b (.tmma ra rb rk) e = some 2 := by
  unfold State.tileTrap
  dsimp only
  obtain ha | ha := Nat.lt_or_ge 262144 (s.sReg b ra + 32 * s.sReg b rk)
  · rw [scratchTrap_out _ _ ha]
    rfl
  · rw [scratchTrap_none ha (.inr he), scratchTrap_out _ _ (h.resolve_left (Nat.not_lt.mpr ha))]
    rfl

theorem tileTrap_tmma_bad (ha : s.sReg b ra + 32 * s.sReg b rk ≤ 262144) (_hd : s.sReg b rb + 32 * s.sReg b rk ≤ 262144)
    (he : e.scratchBad = true) : s.tileTrap b (.tmma ra rb rk) e = some 8 := by
  unfold State.tileTrap
  dsimp only
  rw [scratchTrap_bad ha he]
  rfl

theorem tileTrap_tmma_none (ha : s.sReg b ra + 32 * s.sReg b rk ≤ 262144) (hd : s.sReg b rb + 32 * s.sReg b rk ≤ 262144)
    (he : e.scratchBad = false) : s.tileTrap b (.tmma ra rb rk) e = none := by
  unfold State.tileTrap
  dsimp only
  rw [scratchTrap_none ha (.inr he), scratchTrap_none hd (.inr he)]
  rfl

end

/-- Lanes put into a vector register, the tile's clocks counted. -/
theorem State.tileRead (s : State) (b : BenchNo) (vd : VReg) (n : Nat) (f : Nat → Nat) :
    let u := ((s.tileCounted b n).setV b vd (lanes32 f)).deliverDue
    u.vReg b vd = lanes32 f ∧ u.keepsRegs s b [] [vd.val]
      ∧ u.tab Tab.interval (128 + b) = s.tab Tab.interval (128 + b) + n ∧ Only [] [Tab.benchV, Tab.interval] s u := by
  intro u
  have hcount := Only.tileCounted s n b.isLt
  have hset := Only.setV (s.tileCounted b n) (lanes32 f) b.isLt vd.isLt
  have hdue : Only [] [] ((s.tileCounted b n).setV b vd (lanes32 f)) u := Only.deliverDue _
  have honly : Only [] [Tab.benchV, Tab.interval] s u :=
    ((hcount.mono (by simp) (by simp)).trans (hset.mono (by simp) (by simp))).trans (hdue.mono (by simp) (by simp))
  refine ⟨?_, fun c i hc => ⟨fun hi _ => honly.sReg (by decide) hc hi, fun hi h => ?_⟩, ?_, honly⟩
  · rw [hdue.vReg (by simp) b.isLt vd.isLt, State.vReg_setV_same, Nat.mod_eq_of_lt (lanes32_lt f)]
  · rw [hdue.vReg (by simp) hc hi, State.vReg_setV_other _ _ vd.isLt hi (by simpa using h), hcount.vReg (by decide) hc hi]
  · rw [hdue.tabs _ _ (by omega) (by simp) (by decide), hset.tabs _ _ (by omega) (by decide) (by decide), State.interval_tileCounted]

/-- Octets stored in scratch, the tile's clocks counted. -/
theorem State.tileStored (s : State) (b : BenchNo) (n a : Nat) (x : Bytes) :
    let u := ((s.tileCounted b n).setScratch b a x).deliverDue
    (∀ k, k < x.length → u.byte (scratchAddr b a + k) = x.getD k 0 % 256) ∧ u.tab Tab.interval (128 + b) = s.tab Tab.interval (128 + b) + n
      ∧ OnlyMem [] [Tab.interval] (scratchAddr b a) (scratchAddr b a + x.length) s u := by
  intro u
  have hcount := Only.tileCounted s n b.isLt
  have hset : OnlyMem [] [] (scratchAddr b a) (scratchAddr b a + x.length) (s.tileCounted b n) ((s.tileCounted b n).setScratch b a x) :=
    OnlyMem.setBytes _ _ _ (Nat.le_refl _) (Nat.le_refl _)
  have hdue : Only [] [] ((s.tileCounted b n).setScratch b a x) u := Only.deliverDue _
  refine ⟨fun k hk => ?_, ?_, ((OnlyMem.of hcount _ _).trans ⟨hset.1, hset.2.mono (by simp) (by simp)⟩).trans
    (OnlyMem.of (hdue.mono (by simp) (by simp)) _ _)⟩
  · rw [State.byte_deliverDue]
    unfold State.setScratch
    rw [State.byte_setBytes, if_pos (by omega), Nat.add_sub_cancel_left]
  · rw [hdue.tabs _ _ (by omega) (by simp) (by decide), hset.2.tabs _ _ (by omega) (by simp) (by decide)]
    exact State.interval_tileCounted _ _ _

end Sys2Proof.Machine
end

section
/-!
O59, settled.
-/
open Sys2Proof Sys2Proof.Machine

/-- Settles O59: an accumulator is a sum of lanes, of which each element accumulates for itself. -/
theorem tilesRun : Obligations.TilesRun := by
  unfold Obligations.TilesRun
  intro others counted
  refine ⟨fun s b t va vb vd ra rb rk row e c hc hrun => ?_, fun s b t hrun => ?_, fun s b t va vb hrun => ?_, fun s b t ra rb rk e hrun => ?_,
    fun s b t row vd hrun => ?_, fun s b t ra e hrun => ?_⟩
  · simp only [List.mem_cons, List.not_mem_nil, or_false] at hc
    obtain rfl | rfl | rfl | rfl | rfl := hc <;> exact State.unitTile_stopped _ _ _ hrun
  · obtain ⟨-, ht, hother, hcount, honly⟩ := s.setT_tileCounted b t 1 0
    exact ⟨_, State.unitTile_runs hrun rfl rfl, ht rfl, hother, hcount, honly⟩
  · obtain ⟨ht, -, hother, hcount, honly⟩ := s.setT_tileCounted b t 8 (outerTile (s.vReg b va) (s.vReg b vb) (s.tReg b t))
    refine ⟨_, State.unitTile_runs hrun rfl rfl, fun i j hi hj => ?_, hother, hcount, honly⟩
    exact (ht i j hi hj).trans (tileAt_tileOf _ hi hj)
  · intro a d k word
    refine ⟨fun hout he => State.unitTile_traps hrun (tileTrap_tmma_out hout he), fun ha hd he => State.unitTile_traps hrun (tileTrap_tmma_bad ha hd he),
      fun ha hd he => ?_⟩
    obtain ⟨ht, -, hother, hcount, honly⟩ := s.setT_tileCounted b t (8 * k) (s.mmaTile b a d k (s.tReg b t))
    refine ⟨_, State.unitTile_runs hrun (tileTrap_tmma_none ha hd he) rfl, fun i j hi hj => ?_, hother, hcount, honly⟩
    exact (ht i j hi hj).trans (tileAt_foldl _ _ _ hi hj)
  · obtain ⟨hv, hkeeps, hcount, honly⟩ := s.tileRead b vd 1 fun c => tileAt (s.tReg b t) row c
    refine ⟨_, State.unitTile_runs hrun rfl rfl, fun c hc => ?_, hkeeps, hcount, honly⟩
    exact (congrArg (lane32 · c) hv).trans ((lane32_lanes32 _ hc).trans (Nat.mod_eq_of_lt (lane32_lt _ _)))
  · intro lo
    refine ⟨fun hout => State.unitTile_traps hrun (scratchTrap_out false e hout), fun hin => ?_⟩
    obtain ⟨hbytes, hcount, honly⟩ := s.tileStored b 2 (s.sReg b ra) (toLE 256 (s.tReg b t))
    rw [length_toLE] at hbytes honly
    refine ⟨_, State.unitTile_runs hrun (scratchTrap_none hin (.inl rfl)) rfl, fun k hk => ?_, hcount, honly⟩
    exact (hbytes k hk).trans (by rw [getD_toLE _ hk, Nat.mod_eq_of_lt (bits_octet_lt _ k)])

end

section
/-!
SUPPORT. The interrupts of a bench (R489, R491, R397): the order of claims, a claim, a completion and a software trigger.
-/
namespace Sys2Proof.Machine

/-! ### The order of claims (R491) -/

/-- A source that is enabled, pending and of a target. -/
def State.pendsFor (s : State) (t n : Nat) : Prop := s.srcState n = 1 ∧ s.srcEnabled n = true ∧ s.srcTarget n = t

/-- Source `m` is claimed before source `n`. -/
def State.claimsBefore (s : State) (m n : Nat) : Prop := s.srcPriority m < s.srcPriority n ∨ (s.srcPriority m = s.srcPriority n ∧ m < n)

/-- The enabled pending sources of a target, by number. -/
def State.pendingList (s : State) (t : Nat) : List Nat :=
  ((s.tabList Tab.intState).filter (fun e => bits e.2 31 30 == 1 && s.srcEnabled e.1 && s.srcTarget e.1 == t && true)).map (·.1)

theorem State.claimable_eq (s : State) (t : Nat) :
    s.claimable t (fun _ => true) = (List.range 16).flatMap (fun pr => (s.pendingList t).filter (fun n => s.srcPriority n == pr)) := rfl

theorem State.mem_pendingList {s : State} (hwf : s.wf = true) {t n : Nat} : n ∈ s.pendingList t ↔ n < 2 ^ 40 ∧ s.pendsFor t n := by
  unfold State.pendingList State.pendsFor
  constructor
  · intro h
    obtain ⟨e, he, rfl⟩ := List.mem_map.mp h
    obtain ⟨hmem, hcond⟩ := List.mem_filter.mp he
    simp only [Bool.and_eq_true, beq_iff_eq, and_true] at hcond
    obtain ⟨⟨hst, hen⟩, ht⟩ := hcond
    refine ⟨State.mem_tabList hmem, ?_, hen, ht⟩
    unfold State.srcState State.intElem
    rw [State.tab_of_mem_tabList hwf hmem]
    exact hst
  · rintro ⟨hn, hst, hen, ht⟩
    have hlisted : n ∈ (s.tabList Tab.intState).map (·.1) := by
      refine State.mem_tabList_of_tab hn fun hd => ?_
      have hdflt : Tab.dflt (tabKey Tab.intState n) = 0x0FF00000 := by
        unfold Tab.dflt tabKey
        rw [show (Tab.intState * 2 ^ 40 + n) / 2 ^ 40 = Tab.intState by omega]
        rfl
      unfold State.srcState State.intElem at hst
      rw [hd, hdflt] at hst
      exact absurd hst (by decide)
    obtain ⟨e, he, rfl⟩ := List.mem_map.mp hlisted
    have hval := State.tab_of_mem_tabList hwf he
    refine List.mem_map.mpr ⟨e, List.mem_filter.mpr ⟨he, ?_⟩, rfl⟩
    unfold State.srcState State.intElem at hst
    rw [hval] at hst
    simp only [hst, hen, ht, beq_self_eq_true, Bool.and_self]

theorem SMap.between_rising {α : Type} [DecidableEq α] {d : Nat → α} {m : SMap α} (h : m.wf d = true) (lo hi : Nat) :
    ((SMap.between lo hi m).map (fun e => e.1 - lo)).Pairwise (· < ·) := by
  refine List.pairwise_map.mpr (((SMap.rising h).filter _).imp_of_mem fun ha _ hlt => ?_)
  have hlo := (List.mem_filter.mp ha).2
  simp only [Bool.and_eq_true, decide_eq_true_eq] at hlo
  omega

theorem State.tabList_rising {s : State} (h : s.wf = true) (t : Nat) : ((s.tabList t).map (·.1)).Pairwise (· < ·) := by
  simp only [State.wf, Bool.and_eq_true] at h
  obtain ⟨⟨-, htabs⟩, -⟩ := h
  unfold State.tabList
  rw [List.map_map]
  exact SMap.between_rising htabs _ _

theorem State.pendingList_rising {s : State} (h : s.wf = true) (t : Nat) : (s.pendingList t).Pairwise (· < ·) := by
  have hall := State.tabList_rising h Tab.intState
  unfold State.pendingList
  rw [List.pairwise_map] at hall ⊢
  exact hall.filter _

theorem State.srcPriority_lt (s : State) (n : Nat) : s.srcPriority n < 16 := bits_lt _ 27 24

theorem State.mem_claimable {s : State} (hwf : s.wf = true) {t n : Nat} : n ∈ s.claimable t (fun _ => true) ↔ n < 2 ^ 40 ∧ s.pendsFor t n := by
  rw [State.claimable_eq, List.mem_flatMap, ← State.mem_pendingList hwf]
  constructor
  · rintro ⟨pr, -, h⟩
    exact List.mem_of_mem_filter h
  · exact fun h => ⟨s.srcPriority n, List.mem_range.mpr (s.srcPriority_lt n), List.mem_filter.mpr ⟨h, beq_self_eq_true _⟩⟩

theorem State.claimable_ordered {s : State} (hwf : s.wf = true) (t : Nat) : (s.claimable t (fun _ => true)).Pairwise s.claimsBefore := by
  rw [State.claimable_eq]
  refine List.pairwise_flatMap.mpr ⟨fun pr _ => ?_, List.pairwise_lt_range.imp fun hlt m hm n hn => ?_⟩
  · refine ((State.pendingList_rising hwf t).filter _).imp_of_mem fun hm hn hlt => .inr ⟨?_, hlt⟩
    rw [beq_iff_eq.mp (List.mem_filter.mp hm).2, beq_iff_eq.mp (List.mem_filter.mp hn).2]
  · left
    rw [beq_iff_eq.mp (List.mem_filter.mp hm).2, beq_iff_eq.mp (List.mem_filter.mp hn).2]
    exact hlt

/-- The first claim is the source that no other precedes. -/
theorem State.claimable_first {s : State} (hwf : s.wf = true) {t n : Nat} (hn : n < 2 ^ 40) (hp : s.pendsFor t n)
    (hfirst : ∀ m, m < 2 ^ 40 → s.pendsFor t m → s.srcPriority n < s.srcPriority m ∨ (s.srcPriority n = s.srcPriority m ∧ n ≤ m)) :
    ∃ l, s.claimable t (fun _ => true) = n :: l := by
  have hmem := (State.mem_claimable hwf).mpr ⟨hn, hp⟩
  have hord := State.claimable_ordered hwf t
  have hall : ∀ m ∈ s.claimable t (fun _ => true), m < 2 ^ 40 ∧ s.pendsFor t m := fun m hm => (State.mem_claimable hwf).mp hm
  cases hl : s.claimable t (fun _ => true) with
  | nil => rw [hl] at hmem; cases hmem
  | cons m l =>
    rw [hl] at hmem hord hall
    obtain rfl | htail := List.mem_cons.mp hmem
    · exact ⟨l, rfl⟩
    · have hbefore := List.rel_of_pairwise_cons hord htail
      obtain ⟨hm, hpm⟩ := hall m List.mem_cons_self
      have := hfirst m hm hpm
      unfold State.claimsBefore at hbefore
      omega

theorem State.claimable_none {s : State} (hwf : s.wf = true) {t : Nat} (h : ∀ n, n < 2 ^ 40 → ¬s.pendsFor t n) :
    s.claimable t (fun _ => true) = [] :=
  List.eq_nil_iff_forall_not_mem.mpr fun n hn => h n ((State.mem_claimable hwf).mp hn).1 ((State.mem_claimable hwf).mp hn).2

/-! ### A claim and a completion (R489, R491) -/

theorem State.srcState_setClaimedBy (s : State) (n t m : Nat) : (s.setClaimedBy n t).srcState m = s.srcState m := by
  unfold State.srcState State.setClaimedBy State.intElem
  rw [State.tab_setTab_element]
  split
  · next h => subst h; exact bits_setBits_other _ _ (.inr (by decide))
  · rfl

theorem State.srcState_setSrcState_other (s : State) {n m : Nat} (st : Nat) (h : m ≠ n) : (s.setSrcState n st).srcState m = s.srcState m := by
  unfold State.srcState State.setSrcState State.intElem
  rw [State.tab_setTab_index _ _ h]

theorem State.claimedBy_setClaimedBy (s : State) (n : Nat) {t : Nat} (ht : t < 256) : bits ((s.setClaimedBy n t).intElem n) 27 20 = t := by
  unfold State.setClaimedBy State.intElem
  rw [State.tab_setTab_same, bits_setBits_same]
  exact Nat.mod_eq_of_lt ht

/-- Counting leaves the states of sources. -/
theorem State.intElem_countPlain (s : State) {c m : Nat} (hc : c < 2 ^ 40) (hm : m < 2 ^ 40) : (s.countPlain c).intElem m = s.intElem m := by
  unfold State.countPlain State.when State.intElem
  split
  · exact State.tab_setTab_table _ _ (by decide) hc hm
  · rfl

theorem intTarget_lt {b k : Nat} (hb : b < 256) (hk : k < 2) : Ctr.intTarget b k < 2 ^ 40 := by
  unfold Ctr.intTarget
  omega

/-- What a claim shows. -/
theorem State.claimSrc_shows (s : State) {n t : Nat} (hn : n < 2 ^ 40) (ht : t < 256) :
    (s.claimSrc n t).srcState n = 2 ∧ bits ((s.claimSrc n t).intElem n) 27 20 = t
      ∧ (∀ m, m < 2 ^ 40 → m ≠ n → (s.claimSrc n t).srcState m = s.srcState m)
      ∧ (s.claimSrc n t).tab Tab.attnDue 0 = s.tab Tab.attnDue 0 ∧ Only [] [] s (s.claimSrc n t) := by
  have hc := intTarget_lt ht (by decide : 0 < 2)
  have helem : ∀ m, m < 2 ^ 40 → (s.claimSrc n t).intElem m = ((s.setSrcState n 2).setClaimedBy n t).intElem m :=
    fun m hm => State.intElem_countPlain _ hc hm
  refine ⟨?_, ?_, fun m hm hne => ?_, ?_, ((Only.setSrcState _ _ _ hn).trans (Only.setClaimedBy _ _ _ hn)).trans (Only.countPlain _ _ hc)⟩
  · unfold State.srcState
    rw [helem n hn]
    exact (State.srcState_setClaimedBy _ _ _ _).trans (State.srcState_setSrcState _ _ _)
  · rw [helem n hn, State.claimedBy_setClaimedBy _ _ ht]
  · unfold State.srcState
    rw [helem m hm]
    exact (State.srcState_setClaimedBy _ _ _ _).trans (State.srcState_setSrcState_other _ _ hne)
  · unfold State.claimSrc State.countPlain State.when
    split
    · exact (State.tab_setTab_table _ _ (by decide) hc (by decide)).trans
        ((State.tab_setTab_table _ _ (by decide) hn (by decide)).trans (State.tab_setTab_table _ _ (by decide) hn (by decide)))
    · exact (State.tab_setTab_table _ _ (by decide) hn (by decide)).trans (State.tab_setTab_table _ _ (by decide) hn (by decide))

/-- A source that no host is offered makes nothing due. -/
theorem State.offer_elsewhere {s : State} {n : Nat} (h : s.srcTarget n ≠ 129) : s.offer n = s := by
  unfold State.offer
  rw [beq_false_of_ne h, Bool.and_false, Bool.false_and]
  rfl

/-- A completion at a target other than the host's (R489, R491). -/
theorem State.completeSrc_elsewhere {s : State} {n : Nat} (hn : n < 2 ^ 40) (ht : s.srcTarget n ≠ 129) :
    (s.completeSrc n).srcState n = (if s.srcState n = 3 ∨ (s.srcSense n = 0 ∧ bit (s.intElem n) 29 = true) then 1 else 0)
      ∧ (s.completeSrc n).tab Tab.attnDue 0 = s.tab Tab.attnDue 0 := by
  have hst : ∀ v, ((s.setSrcState n v).setClaimedBy n 0xFF).srcState n = v % 4 := fun v =>
    (State.srcState_setClaimedBy _ _ _ _).trans (State.srcState_setSrcState _ _ _)
  have hdue : ∀ v, ((s.setSrcState n v).setClaimedBy n 0xFF).tab Tab.attnDue 0 = s.tab Tab.attnDue 0 := fun v =>
    (State.tab_setTab_table _ _ (by decide) hn (by decide)).trans (State.tab_setTab_table _ _ (by decide) hn (by decide))
  have htarget : ∀ v, ((s.setSrcState n v).setClaimedBy n 0xFF).srcTarget n ≠ 129 := fun v => by
    have hconf : ((s.setSrcState n v).setClaimedBy n 0xFF).intConf n = s.intConf n :=
      (State.tab_setTab_table _ _ (by decide) hn hn).trans (State.tab_setTab_table _ _ (by decide) hn hn)
    unfold State.srcTarget
    rw [hconf]
    exact ht
  unfold State.completeSrc
  dsimp only
  by_cases h3 : bits (s.intElem n) 31 30 = 3
  · rw [if_pos h3, State.offer_elsewhere (htarget 1), if_pos (.inl h3)]
    exact ⟨hst 1, hdue 1⟩
  · rw [if_neg h3]
    by_cases hl : s.srcSense n = 0 ∧ bit (s.intElem n) 29 = true
    · have hno : (s.srcEnabled n && s.srcTarget n == 129) = false := by rw [beq_false_of_ne ht, Bool.and_false]
      have hcond : (s.srcSense n == 0 && bit (s.intElem n) 29) = true := by
        rw [hl.1, hl.2]
        rfl
      rw [if_pos hcond, hno, if_pos (.inr hl)]
      exact ⟨hst 1, hdue 1⟩
    · have hcond : ¬(s.srcSense n == 0 && bit (s.intElem n) 29) = true := by simpa using hl
      rw [if_neg hcond, if_neg (fun h => h.elim h3 hl)]
      exact ⟨hst 0, hdue 0⟩

/-! ### A software trigger (R397, R489) -/

theorem notReserved_software (b : BenchNo) : IntCat.reserved (0x1900 + b) = false := by
  revert b
  decide

/-- What a trigger of a source that no host is offered leaves. -/
theorem State.trigger_elsewhere {s : State} {n : Nat} (hr : IntCat.reserved n = false) (ht : s.srcTarget n ≠ 129) :
    (s.trigger n).srcState n = (if s.srcState n = 0 then 1 else if s.srcState n = 2 then 3 else s.srcState n)
      ∧ (s.trigger n).tab Tab.attnDue 0 = s.tab Tab.attnDue 0 := by
  have hn := Only.not_reserved_lt hr
  have hst : ∀ v, (((s.bump Reg.INT_CONTROL.TRIGGERS 64)).setSrcState n v).srcState n = v % 4 := fun v => State.srcState_setSrcState _ _ _
  have hdue : ∀ v, ((s.bump Reg.INT_CONTROL.TRIGGERS 64).setSrcState n v).tab Tab.attnDue 0 = s.tab Tab.attnDue 0 := fun v =>
    State.tab_setTab_table _ _ (by decide) hn (by decide)
  have htarget : ((s.bump Reg.INT_CONTROL.TRIGGERS 64).setSrcState n 1).srcTarget n ≠ 129 := by
    have hconf : ((s.bump Reg.INT_CONTROL.TRIGGERS 64).setSrcState n 1).intConf n = s.intConf n := State.tab_setTab_table _ _ (by decide) hn hn
    unfold State.srcTarget
    rw [hconf]
    exact ht
  have hsame : (s.bump Reg.INT_CONTROL.TRIGGERS 64).srcState n = s.srcState n := rfl
  unfold State.trigger
  rw [hr, if_neg (by decide)]
  dsimp only
  rw [hsame]
  by_cases h0 : s.srcState n = 0
  · rw [if_pos h0, if_pos h0, State.offer_elsewhere htarget]
    exact ⟨hst 1, hdue 1⟩
  · rw [if_neg h0, if_neg h0]
    by_cases h2 : s.srcState n = 2
    · rw [if_pos h2, if_pos h2]
      exact ⟨hst 3, hdue 3⟩
    · rw [if_neg h2, if_neg h2]
      refine ⟨?_, State.tab_setTab_table _ _ (by decide) hn (by decide)⟩
      unfold State.mergeSrc State.srcState State.intElem
      rw [State.tab_bump, State.tab_setTab_same, bits_setBits_other _ _ (.inr (by decide))]
      rfl

end Sys2Proof.Machine
end

section
/-!
SUPPORT. Barriers, jobs and the end of a program (R403, R406, R407).
-/
namespace Sys2Proof.Machine

/-! ### Lists of changes -/

/-- What one change of a list sets, and every change keeps, holds after them all. -/
theorem State.forAll_settles {α : Type} {Q : State → Prop} {f : State → α → State} {l : List α} {a : α} (ha : a ∈ l) (hset : ∀ u, Q (f u a))
    (hkeep : ∀ u, ∀ b ∈ l, Q u → Q (f u b)) (s : State) : Q (s.forAll l f) := by
  have hkeeps : ∀ (l : List α) (s : State), (∀ u, ∀ b ∈ l, Q u → Q (f u b)) → Q s → Q (s.forAll l f) := by
    intro l
    induction l with
    | nil => exact fun _ _ h => h
    | cons b l ih => exact fun s hk h => ih (f s b) (fun u c hc => hk u c (List.mem_cons_of_mem _ hc)) (hk s b List.mem_cons_self h)
  induction l generalizing s with
  | nil => cases ha
  | cons b l ih =>
    have htail : ∀ u, ∀ c ∈ l, Q u → Q (f u c) := fun u c hc => hkeep u c (List.mem_cons_of_mem _ hc)
    obtain rfl | ha := List.mem_cons.mp ha
    · exact hkeeps l _ htail (hset s)
    · exact ih ha htail (f s b)

/-! ### Benches that a barrier holds -/

/-- Bench `b` is released. -/
def State.released (s : State) (b : Nat) : State := (s.setMisc b 6 0).setBench b 1

/-- The barrier's own registers after a release. -/
def State.barrierPassed (s : State) (k : Nat) : State :=
  let s := (s.setReg (Reg.BARRIER.ARRIVED k) 0).bump (Reg.BARRIER.GENERATION k) 32
  let s := s.setReg (Reg.BARRIER.LAST_RELEASE k) s.stamp
  s.setReg Reg.BENCH_DEVICE.RAMP_ROTATION ((s.reg Reg.BENCH_DEVICE.RAMP_ROTATION + 1) % 16)

theorem State.releaseBarrier_eq (s : State) (k : Nat) (f : Nat → State → State) :
    s.releaseBarrier k f = (s.forAll (s.arrivedAt k) fun s b => f b (s.released b)).barrierPassed k := rfl

theorem State.arrivedAt_lt {s : State} {k b : Nat} (h : b ∈ s.arrivedAt k) : b < 2 ^ 36 := by
  obtain ⟨e, he, rfl⟩ := List.mem_map.mp h
  have := State.mem_tabList (List.mem_of_mem_filter he)
  omega

theorem State.mem_arrivedAt {s : State} (hwf : s.wf = true) {k d : Nat} (hd : d < 128) : d ∈ s.arrivedAt k ↔ s.misc d 6 = k + 1 := by
  unfold State.arrivedAt State.misc
  constructor
  · intro h
    obtain ⟨e, he, rfl⟩ := List.mem_map.mp h
    obtain ⟨hmem, hcond⟩ := List.mem_filter.mp he
    simp only [Bool.and_eq_true, beq_iff_eq] at hcond
    rw [show 16 * (e.1 / 16) + 6 = e.1 by omega, State.tab_of_mem_tabList hwf hmem]
    exact hcond.2
  · intro h
    have hlisted : 16 * d + 6 ∈ (s.tabList Tab.benchMisc).map (·.1) := by
      refine State.mem_tabList_of_tab (by omega) fun hdflt => ?_
      have hzero : Tab.dflt (tabKey Tab.benchMisc (16 * d + 6)) = 0 := by
        unfold Tab.dflt tabKey
        rw [show (Tab.benchMisc * 2 ^ 40 + (16 * d + 6)) / 2 ^ 40 = Tab.benchMisc by omega]
        rfl
      omega
    obtain ⟨e, he, hkey⟩ := List.mem_map.mp hlisted
    have hval := State.tab_of_mem_tabList hwf he
    rw [hkey, h] at hval
    refine List.mem_map.mpr ⟨e, List.mem_filter.mpr ⟨he, ?_⟩, by omega⟩
    rw [hkey, ← hval, Bool.and_eq_true, beq_iff_eq, beq_iff_eq]
    omega

section
variable (s : State) {b d : Nat}

theorem State.reg_released_other {q : Nat} (hq : quietReg q = true) (hm : q ∉ modeRegs) (h : q ≠ Reg.BENCH.STATE b) :
    (s.released b).reg q = s.reg q :=
  (State.reg_setBench_other _ hq h hm).trans (State.reg_setMisc _ _ _ _ _)

theorem State.misc_released (hd : d < 128) : (s.released b).misc d 6 = if d = b then 0 else s.misc d 6 := by
  have hbench : (s.released b).misc d 6 = (s.setMisc b 6 0).misc d 6 := State.tab_setBench _ _ _ (by omega) (by decide)
  rw [hbench]
  split
  · next h => subst h; exact State.misc_setMisc_same _ _ _ _
  · next h => exact State.misc_setMisc_other _ _ (by decide) (by decide) (.inl h)

theorem State.benchState_released_same (hd : d < 128) : (s.released d).benchState d = 1 := State.benchState_setBench _ _ hd

theorem State.benchState_released_other (hd : d < 128) (h : d ≠ b) : (s.released b).benchState d = s.benchState d :=
  s.reg_released_other (quietReg_bench hd (by decide)) (benchReg_notMode (by decide)) (by simp only [Reg.BENCH.STATE]; omega)

theorem Only.barrierPassed (k : Nat) :
    Only [Reg.BARRIER.ARRIVED k, Reg.BARRIER.GENERATION k, Reg.BARRIER.LAST_RELEASE k, Reg.BENCH_DEVICE.RAMP_ROTATION] [] s (s.barrierPassed k) :=
  (((Only.setReg _ _ _ (.inl (by simp))).trans (Only.bump _ _ _ _ (.inl (by simp)))).trans (Only.setReg _ _ _ (.inl (by simp)))).trans
    (Only.setReg _ _ _ (.inl (by simp)))

theorem State.barrierPassed_shows {k : Nat} (hk : k < 32) :
    (s.barrierPassed k).reg (Reg.BARRIER.ARRIVED k) = 0
      ∧ (s.barrierPassed k).reg (Reg.BARRIER.GENERATION k) = (s.reg (Reg.BARRIER.GENERATION k) + 1) % 2 ^ 32
      ∧ (s.barrierPassed k).reg Reg.BENCH_DEVICE.RAMP_ROTATION = (s.reg Reg.BENCH_DEVICE.RAMP_ROTATION + 1) % 16 := by
  have hne {a a' : Nat} (ha : a < 256) (ha' : a' < 256) (h : a ≠ a') : (0x8010 + k) * 256 + a ≠ (0x8010 + k) * 256 + a' := regSub_ne ha ha' h
  have hramp {a : Nat} : (0x8010 + k) * 256 + a ≠ Reg.BENCH_DEVICE.RAMP_ROTATION := by
    simp only [Reg.BENCH_DEVICE.RAMP_ROTATION]
    omega
  unfold State.barrierPassed
  dsimp only
  refine ⟨?_, ?_, ?_⟩
  · rw [State.reg_setReg_other _ _ hramp, State.reg_setReg_other _ _ (hne (by decide) (by decide) (by decide)), State.reg_bump,
      if_neg (hne (by decide) (by decide) (by decide)), State.reg_setReg_same]
  · rw [State.reg_setReg_other _ _ hramp, State.reg_setReg_other _ _ (hne (by decide) (by decide) (by decide)), State.reg_bump,
      if_pos rfl, State.reg_setReg_other _ _ (hne (by decide) (by decide) (by decide))]
  · rw [State.reg_setReg_same, State.reg_setReg_other _ _ hramp.symm, State.reg_bump, if_neg hramp.symm, State.reg_setReg_other _ _ hramp.symm]

end

/-- The barrier's registers are not those of the benches. -/
theorem State.bench_barrierPassed (u : State) (k : Nat) {d : Nat} (hd : d < 128) :
    (u.barrierPassed k).benchState d = u.benchState d ∧ (u.barrierPassed k).misc d 6 = u.misc d 6 := by
  have h := Only.barrierPassed u k
  refine ⟨h.benchReg hd (by decide) ?_, h.misc hd (by decide) (by simp)⟩
  simp only [List.mem_cons, List.not_mem_nil, or_false, Reg.BARRIER.ARRIVED, Reg.BARRIER.GENERATION, Reg.BARRIER.LAST_RELEASE,
    Reg.BENCH_DEVICE.RAMP_ROTATION]
  omega

/-- The benches that a barrier releases run, and no other changes. -/
theorem State.releaseBarrier_benches {s : State} (hwf : s.wf = true) {k d : Nat} (hd : d < 128) {f : Nat → State → State}
    (hf : ∀ b u, b < 2 ^ 36 → (f b u).benchState d = u.benchState d ∧ (f b u).misc d 6 = u.misc d 6) :
    (s.misc d 6 = k + 1 → (s.releaseBarrier k f).benchState d = 1 ∧ (s.releaseBarrier k f).misc d 6 = 0)
      ∧ (s.misc d 6 ≠ k + 1 → (s.releaseBarrier k f).benchState d = s.benchState d ∧ (s.releaseBarrier k f).misc d 6 = s.misc d 6) := by
  have hsame : ∀ u : State, (f d (u.released d)).benchState d = 1 ∧ (f d (u.released d)).misc d 6 = 0 := fun u =>
    ⟨(hf d _ (by omega)).1.trans (u.benchState_released_same hd), (hf d _ (by omega)).2.trans ((u.misc_released hd).trans (if_pos rfl))⟩
  have hother : ∀ (u : State) (b : Nat), b < 2 ^ 36 → d ≠ b → (f b (u.released b)).benchState d = u.benchState d ∧ (f b (u.released b)).misc d 6 = u.misc d 6 := fun u b hb h =>
    ⟨(hf b _ hb).1.trans (u.benchState_released_other hd h), (hf b _ hb).2.trans ((u.misc_released hd).trans (if_neg h))⟩
  rw [State.releaseBarrier_eq]
  obtain ⟨hst, hmisc⟩ := (s.forAll (s.arrivedAt k) fun s b => f b (s.released b)).bench_barrierPassed k hd
  refine ⟨fun h => ?_, fun h => ?_⟩
  · refine (State.forAll_settles (Q := fun u => u.benchState d = 1 ∧ u.misc d 6 = 0) ((State.mem_arrivedAt hwf hd).mpr h)
      hsame (fun u b hb hu => ?_) s).imp hst.trans hmisc.trans
    by_cases hdb : d = b
    · subst hdb
      exact hsame u
    · exact ⟨(hother u b (State.arrivedAt_lt hb) hdb).1.trans hu.1, (hother u b (State.arrivedAt_lt hb) hdb).2.trans hu.2⟩
  · have hout : ∀ b ∈ s.arrivedAt k, d ≠ b := fun b hb he => h ((State.mem_arrivedAt hwf hd).mp (he ▸ hb))
    exact ⟨hst.trans (State.view_forAll (g := fun u => u.benchState d) (fun u b hb => (hother u b (State.arrivedAt_lt hb) (hout b hb)).1) s),
      hmisc.trans (State.view_forAll (g := fun u => u.misc d 6) (fun u b hb => (hother u b (State.arrivedAt_lt hb) (hout b hb)).2) s)⟩

/-! ### Jobs (R403) -/

/-- The record of a job in `slot` that ends. -/
def State.endedRecord (s : State) (slot status bench userCode : Nat) (data : Bytes) : Nat :=
  let r := recordWith (recordWith (s.tab Tab.jobRecord slot) 0 4 (jobSeq (s.tab Tab.jobDesc slot))) 4 1 status
  let r := recordWith (recordWith r 5 1 bench) 6 2 data.length
  let r := recordWith (recordWith r 18 10 s.stamp) 28 4 userCode
  recordWith r 32 data.length (ofBE data)

theorem State.endedRecord_fields (s : State) (slot status bench userCode : Nat) {data : Bytes} (hlen : data.length ≤ 224) :
    octetsAt 256 (s.endedRecord slot status bench userCode data) 4 1 = status % 256
      ∧ octetsAt 256 (s.endedRecord slot status bench userCode data) 5 1 = bench % 256
      ∧ octetsAt 256 (s.endedRecord slot status bench userCode data) 28 4 = userCode % 2 ^ 32
      ∧ octetsAt 256 (s.endedRecord slot status bench userCode data) 32 data.length = ofBE data := by
  have hdata : 32 + data.length ≤ 256 := by omega
  unfold State.endedRecord recordWith
  dsimp only
  refine ⟨?_, ?_, ?_, ?_⟩
  · rw [octetsAt_setOctets_other _ _ hdata (by decide) (.inl (by decide)), octetsAt_setOctets_other _ _ (by decide) (by decide) (.inl (by decide)),
      octetsAt_setOctets_other _ _ (by decide) (by decide) (.inl (by decide)), octetsAt_setOctets_other _ _ (by decide) (by decide) (.inl (by decide)),
      octetsAt_setOctets_other _ _ (by decide) (by decide) (.inl (by decide)), octetsAt_setOctets_same]
    rfl
  · rw [octetsAt_setOctets_other _ _ hdata (by decide) (.inl (by decide)), octetsAt_setOctets_other _ _ (by decide) (by decide) (.inl (by decide)),
      octetsAt_setOctets_other _ _ (by decide) (by decide) (.inl (by decide)), octetsAt_setOctets_other _ _ (by decide) (by decide) (.inl (by decide)),
      octetsAt_setOctets_same]
    rfl
  · rw [octetsAt_setOctets_other _ _ hdata (by decide) (.inl (by decide)), octetsAt_setOctets_same]
  · rw [octetsAt_setOctets_same, Nat.mod_eq_of_lt (ofBE_lt data)]

/-- The tables of the jobs. -/
def jobTabs : List Nat := [Tab.jobState, Tab.jobRecord, Tab.jobRing]

theorem Only.completeJob (s : State) {slot : Nat} (status bench userCode : Nat) (data : Bytes) (hs : slot < 2 ^ 40) :
    Only [Reg.BENCH_DEVICE.RING_HEAD] jobTabs s (s.completeJob slot status bench userCode data) := by
  unfold State.completeJob
  dsimp only
  exact ((((Only.setTab _ _ _ _ hs (.inl (by decide))).trans (Only.setTab _ _ _ _ hs (.inl (by decide)))).trans
    (Only.setTab _ _ _ _ (by omega) (.inl (by decide)))).trans (Only.bump _ _ _ _ (.inl (by simp)))).trans (Only.trigger _ _)

/-- What the end of a job leaves in its place, and in the others. -/
theorem State.tab_completeJob (s : State) {slot j : Nat} (status bench userCode : Nat) (data : Bytes) (hs : slot < 2 ^ 40) (hj : j < 2 ^ 40) :
    (s.completeJob slot status bench userCode data).jobSt j = (if j = slot then 3 else s.jobSt j)
      ∧ (s.completeJob slot status bench userCode data).tab Tab.jobRecord j
        = if j = slot then s.endedRecord slot status bench userCode data else s.tab Tab.jobRecord j := by
  have hend : ∀ (u : State) (n v : Nat) (t : Nat), t = Tab.jobState ∨ t = Tab.jobRecord →
      (((u.setTab Tab.jobRing (n % 4096) v).bump Reg.BENCH_DEVICE.RING_HEAD 32).trigger 0x1980).tab t j = u.tab t j := by
    intro u n v t ht
    have hq : t ≠ Tab.intState ∧ t ≠ Tab.attnDue ∧ t ≠ Tab.jobRing := by obtain rfl | rfl := ht <;> decide
    obtain ⟨h1, h2, h3⟩ := hq
    rw [State.tab_trigger_other _ _ hj h1 h2, State.tab_bump, State.tab_setTab_table _ _ h3 (by omega) hj]
  unfold State.completeJob State.jobSt
  dsimp only
  constructor
  · rw [hend _ _ _ _ (.inl rfl), State.tab_setTab_element]
    split
    · rfl
    · rw [State.tab_setTab_table _ _ (by decide) hs hj]
  · rw [hend _ _ _ _ (.inr rfl), State.tab_setTab_table _ _ (by decide) hs hj, State.tab_setTab_element]
    rfl

/-- The job that a bench ran is completed. -/
theorem State.endJob_shows (s : State) {b slot : Nat} (status userCode : Nat) (data : Bytes) (hb : b < 128) (hs : slot < 2 ^ 40)
    (h : s.misc b 4 = slot + 1) :
    (s.endJob b status userCode data).jobSt slot = 3
      ∧ (s.endJob b status userCode data).tab Tab.jobRecord slot = (s.setMisc b 4 0).endedRecord slot status b userCode data := by
  have hend : s.endJob b status userCode data = ((s.setMisc b 4 0).completeJob slot status b userCode data).count (Ctr.bench b 2) := by
    unfold State.endJob
    rw [h]
  have hcount : Only [] [] ((s.setMisc b 4 0).completeJob slot status b userCode data) (s.endJob b status userCode data) := by
    rw [hend]
    exact Only.benchCounted _ _ _ hb (by decide)
  obtain ⟨hst, hrec⟩ := (s.setMisc b 4 0).tab_completeJob status b userCode data hs hs
  rw [if_pos rfl] at hst hrec
  exact ⟨(hcount.tabs _ _ hs (by simp) (by decide)).trans hst, (hcount.tabs _ _ hs (by simp) (by decide)).trans hrec⟩

/-! ### The end of a program (R403) -/

/-- A bench that becomes idle: at once, or as a pending trigger starts it. -/
theorem State.becomeIdle_shows (s : State) {b : Nat} (hb : b < 128) :
    (s.tab Tab.benchTrigger b = 0 → (s.becomeIdle b).benchState b = 0 ∧ (s.becomeIdle b).reg (Reg.BENCH.CURRENT_JOB b) = 0
      ∧ Only ([Reg.BENCH.STATE b, Reg.BENCH.CURRENT_JOB b] ++ modeRegs) [] s (s.becomeIdle b))
    ∧ (s.tab Tab.benchTrigger b ≠ 0 → (s.becomeIdle b).benchState b = 1 ∧ (s.becomeIdle b).reg (Reg.BENCH.PC b) = s.reg (Reg.BENCH.TRIGGER_ENTRY b)
      ∧ (s.becomeIdle b).cw b 1 = 1)
    ∧ Only (startRegs b) (Tab.benchTrigger :: startTabs) s (s.becomeIdle b) := by
  let u := (s.setBench b 0).setReg (Reg.BENCH.CURRENT_JOB b) 0
  have hu : Only ([Reg.BENCH.STATE b, Reg.BENCH.CURRENT_JOB b] ++ modeRegs) [] s u :=
    (Only.setBench _ _ _ (by simp) fun m hm => List.mem_append_right _ hm).trans (Only.setReg _ _ _ (.inl (by simp)))
  have hu' : Only (startRegs b) (Tab.benchTrigger :: startTabs) s u := hu.mono (by unfold startRegs; grind) (by simp)
  have htrig : u.tab Tab.benchTrigger b = s.tab Tab.benchTrigger b := hu.tabs _ _ (by omega) (by simp) (by decide)
  have hentry : u.reg (Reg.BENCH.TRIGGER_ENTRY b) = s.reg (Reg.BENCH.TRIGGER_ENTRY b) :=
    (State.reg_setReg_sub _ _ (by decide) (by decide) (by decide)).trans
      (State.reg_setBench_other _ (quietReg_bench hb (by decide)) (regSub_ne (by decide) (by decide) (by decide)) (benchReg_notMode (by decide)))
  by_cases h : s.tab Tab.benchTrigger b = 0
  · have hidle : s.becomeIdle b = u := by
      unfold State.becomeIdle
      dsimp only
      rw [htrig, h]
    rw [hidle]
    refine ⟨fun _ => ⟨?_, State.reg_setReg_same _ _ _, hu⟩, fun hn => absurd h hn, hu'⟩
    exact (State.reg_setReg_sub _ _ (by decide) (by decide) (by decide)).trans (State.benchState_setBench _ _ hb)
  · obtain ⟨v, hv⟩ := Nat.exists_eq_succ_of_ne_zero h
    have hstart : s.becomeIdle b = (u.setTab Tab.benchTrigger b 0).startTrigger b (v / 2 ^ 80) (v % 2 ^ 80) := by
      unfold State.becomeIdle
      dsimp only
      rw [htrig, hv]
    obtain ⟨hst, hpc, hcause, -, honly⟩ := (u.setTab Tab.benchTrigger b 0).startTrigger_shows (v / 2 ^ 80) (v % 2 ^ 80) hb
    rw [hstart]
    refine ⟨fun h0 => absurd h0 h, fun _ => ⟨hst, hpc.trans ((State.reg_setTab _ _ _ _ _).trans hentry), hcause⟩, ?_⟩
    exact (hu'.trans (Only.setTab _ _ _ _ (by omega) (.inl (by simp)))).trans (honly.mono (List.Subset.refl _) (List.subset_cons_self _ _))

end Sys2Proof.Machine
end

section
/-!
SUPPORT. The control words of a bench (R396 to R398, R403, R406, R491).
-/
namespace Sys2Proof.Machine

/-! ### A unit that reads or writes a control word -/

section
variable {s : State} {b : BenchNo} {k v : Nat}

theorem State.unitCwRead_stopped {r : Nat} (h : s.benchRuns b = false) : State.done (s.unitCwRead b k r) = .next s.deliverDue := by
  unfold State.unitCwRead
  rw [h]
  rfl

theorem State.unitCwWrite_stopped (h : s.benchRuns b = false) : State.done (s.unitCwWrite b k v) = .next s.deliverDue := by
  unfold State.unitCwWrite
  rw [h]
  rfl

theorem State.unitCwRead_traps {r : Nat} (h : s.benchRuns b = true) (hk : cwReadable k = false) :
    ∃ t, State.done (s.unitCwRead b k r) = .next t ∧ t.trapped s b 7 := by
  refine ⟨_, rfl, ?_⟩
  unfold State.unitCwRead
  rw [h, hk]
  exact State.trapBench_trapped s 7 b.isLt

theorem State.unitCwRead_reads {r : Nat} (h : s.benchRuns b = true) (hk : cwReadable k = true) :
    State.done (s.unitCwRead b k r) = .next (s.runCwRead s b k r).deliverDue := by
  unfold State.unitCwRead
  rw [h, hk]
  rfl

theorem State.unitCwWrite_traps {c : Nat} (h : s.benchRuns b = true) (hk : k ≠ Cw.dictValue) (ht : s.cwWriteTrap b k v = some c) :
    ∃ t, State.done (s.unitCwWrite b k v) = .next t ∧ t.trapped s b c := by
  refine ⟨_, rfl, ?_⟩
  unfold State.unitCwWrite State.cwStalls
  rw [h, beq_false_of_ne hk, ht]
  exact State.trapBench_trapped s c b.isLt

theorem State.unitCwWrite_writes (h : s.benchRuns b = true) (hk : s.cwStalls b k = false) (ht : s.cwWriteTrap b k v = none) :
    State.done (s.unitCwWrite b k v) = .next (s.runCwWrite b k v).deliverDue := by
  unfold State.unitCwWrite
  rw [h, hk, ht]
  rfl

/-- Of the writable words other than COMPLETE, BARRIER and DICT_VALUE no write traps or stalls. -/
theorem State.unitCwWrite_plain (h : s.benchRuns b = true) (hk : cwWritable k = true) (h9 : k ≠ 9) (h11 : k ≠ 11) (h16 : k ≠ 16) :
    State.done (s.unitCwWrite b k v) = .next (s.runCwWrite b k v).deliverDue := by
  refine State.unitCwWrite_writes h ?_ ?_
  · unfold State.cwStalls
    rw [beq_false_of_ne h16, Bool.false_and]
  · unfold State.cwWriteTrap
    rw [hk, if_neg (by decide), if_neg h9, if_neg h11]

/-- A store of a bench's own word. -/
theorem State.setCw_done (s : State) (b : BenchNo) (v : Nat) (hk : k < 32) :
    (s.setCw b k v).deliverDue.cw b k = v ∧ Only [] [Tab.benchCw] s (s.setCw b k v).deliverDue := by
  have hdue : Only [] [] (s.setCw b k v) (s.setCw b k v).deliverDue := Only.deliverDue _
  refine ⟨(hdue.cw b.isLt hk (by simp)).trans (State.cw_setCw_same _ _ _ _), (Only.setCw s v b.isLt hk (by simp)).trans (hdue.mono (by simp) (by simp))⟩

/-- A word read into a register. -/
theorem State.setS_done (s : State) (b : BenchNo) (r : SReg) (v : Nat) :
    (s.setS b r v).deliverDue.sReg b r = v % 2 ^ 64 ∧ (s.setS b r v).deliverDue.keepsRegs s b [r.val] [] ∧ Only [] [Tab.benchS] s (s.setS b r v).deliverDue := by
  have hdue : Only [] [] (s.setS b r v) (s.setS b r v).deliverDue := Only.deliverDue _
  have honly : Only [] [Tab.benchS] s (s.setS b r v).deliverDue := (Only.setS s v b.isLt r.isLt).trans (hdue.mono (by simp) (by simp))
  refine ⟨(hdue.sReg (by simp) b.isLt r.isLt).trans (State.sReg_setS_same _ _ _ _), fun c i hc => ⟨fun hi h => ?_, fun hi _ => honly.vReg (by decide) hc hi⟩, honly⟩
  exact (hdue.sReg (by simp) hc hi).trans (State.sReg_setS_other _ _ r.isLt hi (by simpa using h))

/-- A number is its part under a mask and the rest of it. -/
theorem and_add_xor_and (x m : Nat) : (x &&& m) + (x ^^^ (x &&& m)) = x := by
  induction x using Nat.strong_induction_on generalizing m with
  | _ x ih =>
    obtain rfl | hpos := Nat.eq_zero_or_pos x
    · simp
    · have hhalf := ih (x / 2) (by omega) (m / 2)
      have hand := Nat.and_div_two (a := x) (b := m)
      have hxor := Nat.xor_div_two (a := x) (b := x &&& m)
      have hlow := Nat.xor_mod_two_eq (m := x) (n := x &&& m)
      have hmask := Nat.and_mod_two_eq_one (a := x) (b := m)
      rw [hand] at hxor
      omega

theorem bit_clearBits (x m i : Nat) : bit (clearBits x m) i = (bit x i && !bit m i) := by
  have hsplit : clearBits x m = x ^^^ (x &&& m) := by
    have := and_add_xor_and x m
    unfold clearBits
    omega
  unfold bit
  rw [hsplit, Nat.testBit_xor, Nat.testBit_and]
  cases x.testBit i <;> cases m.testBit i <;> rfl

end

/-! ### INT_CLAIM, INT_COMPLETE and RAISE -/

theorem State.runCwRead_claim (s : State) (b r : Nat) : s.runCwRead s b 13 r = (s.claimBench b).1.setS b r (s.claimBench b).2 := rfl

theorem State.nothingDue_of_same {s t : State} (h : t.tab Tab.attnDue 0 = s.tab Tab.attnDue 0) (hd : s.nothingDue = true) : t.nothingDue = true := by
  unfold State.nothingDue at *
  rw [h]
  exact hd

theorem State.attnDue_setS (s : State) {b i : Nat} (v : Nat) (hb : b < 128) (hi : i < 64) : (s.setS b i v).tab Tab.attnDue 0 = s.tab Tab.attnDue 0 :=
  State.tab_setTab_table _ _ (by decide) (by omega) (by decide)

theorem State.intElem_setS (s : State) {b i m : Nat} (v : Nat) (hb : b < 128) (hi : i < 64) (hm : m < 2 ^ 40) : (s.setS b i v).intElem m = s.intElem m :=
  State.tab_setTab_table _ _ (by decide) (by omega) hm

/-- INT_CLAIM where nothing pends, and where a source precedes all others. -/
theorem State.claimRead (s : State) (b : BenchNo) (r : SReg) (hwf : s.wf = true) (hd : s.nothingDue = true) :
    let t := (s.runCwRead s b 13 r).deliverDue
    ((∀ n, n < 2 ^ 40 → ¬s.pendsFor b n) → t.sReg b r = 2 ^ 63 ∧ t.keepsRegs s b [r.val] [] ∧ Only [] [Tab.benchS] s t)
    ∧ ∀ n, n < 2 ^ 40 → s.pendsFor b n →
      (∀ m, m < 2 ^ 40 → s.pendsFor b m → s.srcPriority n < s.srcPriority m ∨ (s.srcPriority n = s.srcPriority m ∧ n ≤ m)) →
      t.sReg b r = (s.srcPriority n * 2 ^ 24 + n) % 2 ^ 64 ∧ t.srcState n = 2 ∧ bits (t.intElem n) 27 20 = b.val
        ∧ (∀ m, m < 2 ^ 40 → m ≠ n → t.srcState m = s.srcState m) ∧ t.keepsRegs s b [r.val] [] ∧ Only [] [Tab.benchS] s t := by
  intro t
  refine ⟨fun h => ?_, fun n hn hp hfirst => ?_⟩
  · have hread : s.runCwRead s b 13 r = s.setS b r (2 ^ 63) := by
      rw [State.runCwRead_claim]
      unfold State.claimBench
      rw [State.claimable_none hwf h]
    obtain ⟨hval, hkeeps, honly⟩ := s.setS_done b r (2 ^ 63)
    rw [← hread] at hval hkeeps honly
    exact ⟨hval, hkeeps, honly⟩
  · obtain ⟨l, hl⟩ := State.claimable_first hwf hn hp hfirst
    let u := s.claimSrc n b
    have hread : s.runCwRead s b 13 r = u.setS b r (s.srcPriority n * 2 ^ 24 + n) := by
      rw [State.runCwRead_claim]
      unfold State.claimBench
      rw [hl]
    obtain ⟨hst, hby, hother, hdue, honly⟩ := s.claimSrc_shows (t := b) hn (by omega)
    have hnone : t = u.setS b r (s.srcPriority n * 2 ^ 24 + n) := by
      change (s.runCwRead s b 13 r).deliverDue = _
      rw [hread]
      exact State.deliverDue_nothing (State.nothingDue_of_same ((State.attnDue_setS _ _ b.isLt r.isLt).trans hdue) hd)
    have helem : ∀ m, m < 2 ^ 40 → t.intElem m = u.intElem m := fun m hm => by
      rw [hnone]
      exact State.intElem_setS _ _ b.isLt r.isLt hm
    have hset := Only.setS u (s.srcPriority n * 2 ^ 24 + n) b.isLt r.isLt
    have hall : Only [] [Tab.benchS] s t := by
      rw [hnone]
      exact (honly.mono (by simp) (by simp)).trans hset
    refine ⟨?_, ?_, (helem n hn).symm ▸ hby, fun m hm hne => ?_, fun c i hc => ⟨fun hi h => ?_, fun hi _ => hall.vReg (by decide) hc hi⟩, hall⟩
    · rw [hnone]
      exact State.sReg_setS_same _ _ _ _
    · unfold State.srcState
      rw [helem n hn]
      exact hst
    · unfold State.srcState
      rw [helem m hm]
      exact hother m hm hne
    · rw [hnone, State.sReg_setS_other _ _ r.isLt hi (by simpa using h), honly.sReg (by simp) hc hi]

/-- A completion by a bench. -/
theorem State.completeBy_shows (s : State) (b : BenchNo) (v : Nat) (hd : s.nothingDue = true) (hon : s.coreOn = true) :
    let n := bits v 12 0
    let mine := 2 ≤ s.srcState n ∧ bits (s.intElem n) 27 20 = b
    let t := (s.completeBy b v).deliverDue
    (¬mine → t.counter (Ctr.intTarget b 1) = (s.counter (Ctr.intTarget b 1) + 1) % 2 ^ 48 ∧ (∀ m, m < 2 ^ 40 → t.intElem m = s.intElem m)
      ∧ Only [] [] s t)
    ∧ (mine → s.srcTarget n = b → t.srcState n = (if s.srcState n = 3 ∨ (s.srcSense n = 0 ∧ bit (s.intElem n) 29 = true) then 1 else 0)
      ∧ Only [] [] s t) := by
  intro n mine t
  have hn : n < 2 ^ 40 := (bits_lt v 12 0).trans (by decide)
  have hc : Ctr.intTarget b 1 < 2 ^ 40 := intTarget_lt (by omega) (by decide)
  refine ⟨fun hno => ?_, fun hyes ht => ?_⟩
  · have hcount : s.completeBy b v = s.setCounter (Ctr.intTarget b 1) ((s.counter (Ctr.intTarget b 1) + 1) % 2 ^ 48) := by
      unfold State.completeBy State.countPlain State.when
      dsimp only
      rw [if_neg hno, hon]
      rfl
    have hnone : t = s.setCounter (Ctr.intTarget b 1) ((s.counter (Ctr.intTarget b 1) + 1) % 2 ^ 48) := by
      change (s.completeBy b v).deliverDue = _
      rw [hcount]
      exact State.deliverDue_nothing (State.nothingDue_of_same (State.tab_setTab_table _ _ (by decide) hc (by decide)) hd)
    rw [hnone]
    refine ⟨?_, fun m hm => State.tab_setTab_table _ _ (by decide) hc hm, Only.setCounter _ _ _ hc⟩
    unfold State.setCounter State.counter
    rw [State.tab_setTab_same, bits_setBits_same]
    exact Nat.mod_mod _ _
  · have hne : s.srcTarget n ≠ 129 := by omega
    have hcomp : s.completeBy b v = s.completeSrc n := if_pos hyes
    obtain ⟨hst, hdue⟩ := State.completeSrc_elsewhere hn hne
    have hnone : t = s.completeSrc n := by
      change (s.completeBy b v).deliverDue = _
      rw [hcomp]
      exact State.deliverDue_nothing (State.nothingDue_of_same hdue hd)
    rw [hnone]
    exact ⟨hst, Only.completeSrc s hn⟩

theorem State.raised_shows (s : State) (b : BenchNo) :
    let t := (s.trigger (0x1900 + b)).deliverDue
    Only [] [] s t ∧ (s.nothingDue = true → s.srcTarget (0x1900 + b) ≠ 129 →
      t.srcState (0x1900 + b) = (if s.srcState (0x1900 + b) = 0 then 1 else if s.srcState (0x1900 + b) = 2 then 3 else s.srcState (0x1900 + b))
      ∧ t.reg Reg.INT_CONTROL.TRIGGERS = (s.reg Reg.INT_CONTROL.TRIGGERS + 1) % 2 ^ 64) := by
  intro t
  refine ⟨(Only.trigger _ _).trans (Only.deliverDue _), fun hd ht => ?_⟩
  obtain ⟨hst, hdue⟩ := State.trigger_elsewhere (notReserved_software b) ht
  have hnone : t = s.trigger (0x1900 + b) := State.deliverDue_nothing (State.nothingDue_of_same hdue hd)
  rw [hnone]
  exact ⟨hst, s.triggers_trigger (notReserved_software b)⟩

/-! ### BARRIER -/

/-- A bench waits at a barrier. -/
def State.atBarrier (s : State) (b k : Nat) : State := ((s.setMisc b 6 (k + 1)).setBench b 2).bump (Reg.BARRIER.ARRIVED k) 8

theorem quietReg_barrier {k a : Nat} (hk : k < 32) (ha : a < 256) : quietReg ((0x8010 + k) * 256 + a) = true :=
  quietReg_of_mid (by omega) (by omega)

theorem barrierReg_notMode {k a : Nat} (hk : k < 32) (ha : a < 256) : (0x8010 + k) * 256 + a ∉ modeRegs := by
  have hout : ∀ m ∈ modeRegs, m < 0x801000 := by decide
  exact fun h => absurd (hout _ h) (by omega)

section
variable (s : State) (b : BenchNo) {k : Nat}

theorem Only.atBarrier : Only ([Reg.BENCH.STATE b, Reg.BARRIER.ARRIVED k] ++ modeRegs) [Tab.benchMisc] s (s.atBarrier b k) :=
  ((Only.setMisc _ _ b.isLt (by decide) (by simp)).trans (Only.setBench _ _ _ (by simp) fun m hm => List.mem_append_right _ hm)).trans
    (Only.bump _ _ _ _ (.inl (by simp)))

/-- The barrier's registers as a bench arrives. -/
theorem State.reg_atBarrier (hk : k < 32) {a : Nat} (ha : a < 256) :
    (s.atBarrier b k).reg ((0x8010 + k) * 256 + a)
      = if a = 3 then (s.reg (Reg.BARRIER.ARRIVED k) + 1) % 2 ^ 8 else s.reg ((0x8010 + k) * 256 + a) := by
  have hset : ∀ a, a < 256 → ((s.setMisc b 6 (k + 1)).setBench b 2).reg ((0x8010 + k) * 256 + a) = s.reg ((0x8010 + k) * 256 + a) := fun a ha =>
    (State.reg_setBench_other _ (quietReg_barrier hk ha) (by simp only [Reg.BENCH.STATE]; omega) (barrierReg_notMode hk ha)).trans
      (State.reg_setMisc _ _ _ _ _)
  unfold State.atBarrier
  rw [State.reg_bump, hset 3 (by decide), hset a ha]
  by_cases h : a = 3
  · rw [if_pos h, h, if_pos rfl]
  · rw [if_neg h, if_neg (regSub_ne ha (by decide) h)]

theorem State.benchState_atBarrier : (s.atBarrier b k).benchState b = 2 := by
  unfold State.atBarrier State.benchState
  rw [State.reg_bump, if_neg (by simp only [Reg.BENCH.STATE, Reg.BARRIER.ARRIVED]; omega)]
  exact State.benchState_setBench _ _ b.isLt

theorem State.misc_atBarrier {d : Nat} (hd : d < 128) : (s.atBarrier b k).misc d 6 = if d = b then k + 1 else s.misc d 6 := by
  have hbench : (s.atBarrier b k).misc d 6 = (s.setMisc b 6 (k + 1)).misc d 6 :=
    (State.tab_bump _ _ _ _ _ _).trans (State.tab_setBench _ _ _ (by omega) (by decide))
  rw [hbench]
  split
  · next h => rw [h]; exact State.misc_setMisc_same _ _ _ _
  · next h => exact State.misc_setMisc_other _ _ (by decide) (by decide) (.inl h)

theorem State.benchState_atBarrier_other {d : Nat} (hd : d < 128) (h : d ≠ b) : (s.atBarrier b k).benchState d = s.benchState d := by
  refine (Only.atBarrier s b (k := k)).benchReg hd (by decide) fun hin => ?_
  obtain hin | hin := List.mem_append.mp hin
  · simp only [List.mem_cons, List.not_mem_nil, or_false, Reg.BENCH.STATE, Reg.BARRIER.ARRIVED] at hin
    omega
  · exact benchReg_notMode (by decide) hin

theorem State.wf_atBarrier (h : s.wf = true) : (s.atBarrier b k).wf = true :=
  (State.bump_ev _ _ _ _ (State.setBench_ev _ _ _ (State.setMisc_ev _ _ _ _ (Ev.refl s)))).wf h

end

theorem State.arriveBarrier_eq (s : State) (b k : Nat) : s.arriveBarrier b k
    = if (s.atBarrier b k).reg (Reg.BARRIER.PARTICIPANTS k) ≤ (s.atBarrier b k).reg (Reg.BARRIER.ARRIVED k)
      then (s.atBarrier b k).releaseBarrier k (fun _ s => s) else s.atBarrier b k := rfl

theorem State.arriveBarrier_waits {s : State} {b : BenchNo} {k : Nat} (hk : k < 32) (ha : s.reg (Reg.BARRIER.ARRIVED k) < 128)
    (h : s.reg (Reg.BARRIER.ARRIVED k) + 1 < s.reg (Reg.BARRIER.PARTICIPANTS k)) :
    let t := (s.arriveBarrier b k).deliverDue
    t.benchState b = 2 ∧ t.misc b 6 = k + 1 ∧ t.reg (Reg.BARRIER.ARRIVED k) = s.reg (Reg.BARRIER.ARRIVED k) + 1
      ∧ Only ([Reg.BENCH.STATE b, Reg.BARRIER.ARRIVED k] ++ modeRegs) [Tab.benchMisc] s t := by
  intro t
  have harr : (s.atBarrier b k).reg (Reg.BARRIER.ARRIVED k) = s.reg (Reg.BARRIER.ARRIVED k) + 1 :=
    (s.reg_atBarrier b hk (by decide : 3 < 256)).trans ((if_pos rfl).trans (Nat.mod_eq_of_lt (by omega)))
  have hpart : (s.atBarrier b k).reg (Reg.BARRIER.PARTICIPANTS k) = s.reg (Reg.BARRIER.PARTICIPANTS k) :=
    (s.reg_atBarrier b hk (by decide : 1 < 256)).trans (if_neg (by decide))
  have hwaits : s.arriveBarrier b k = s.atBarrier b k := by
    rw [State.arriveBarrier_eq, hpart, harr, if_neg (by omega)]
  have ht : t = (s.atBarrier b k).deliverDue := congrArg State.deliverDue hwaits
  clear_value t
  have hdue : Only [] [] (s.atBarrier b k) t := by
    rw [ht]
    exact Only.deliverDue _
  refine ⟨(hdue.benchReg b.isLt (by decide) (by simp)).trans (s.benchState_atBarrier b),
    (hdue.misc b.isLt (by decide) (by simp)).trans ((s.misc_atBarrier b b.isLt).trans (if_pos rfl)),
    (hdue.regs _ (by simp) (quietReg_barrier hk (by decide))).trans harr, (Only.atBarrier s b).trans (hdue.mono (by simp) (by simp))⟩

theorem State.arriveBarrier_releases {s : State} {b : BenchNo} {k : Nat} (hwf : s.wf = true) (hk : k < 32) (ha : s.reg (Reg.BARRIER.ARRIVED k) < 128)
    (h : s.reg (Reg.BARRIER.PARTICIPANTS k) ≤ s.reg (Reg.BARRIER.ARRIVED k) + 1) :
    let t := (s.arriveBarrier b k).deliverDue
    t.benchState b = 1 ∧ t.misc b 6 = 0 ∧ (∀ d, d < 128 → s.misc d 6 = k + 1 → t.benchState d = 1 ∧ t.misc d 6 = 0)
      ∧ (∀ d, d < 128 → d ≠ b.val → s.misc d 6 ≠ k + 1 → t.benchState d = s.benchState d ∧ t.misc d 6 = s.misc d 6)
      ∧ t.reg (Reg.BARRIER.ARRIVED k) = 0 ∧ t.reg (Reg.BARRIER.GENERATION k) = (s.reg (Reg.BARRIER.GENERATION k) + 1) % 2 ^ 32
      ∧ t.reg Reg.BENCH_DEVICE.RAMP_ROTATION = (s.reg Reg.BENCH_DEVICE.RAMP_ROTATION + 1) % 16 := by
  intro t
  have harr : (s.atBarrier b k).reg (Reg.BARRIER.ARRIVED k) = s.reg (Reg.BARRIER.ARRIVED k) + 1 :=
    (s.reg_atBarrier b hk (by decide : 3 < 256)).trans ((if_pos rfl).trans (Nat.mod_eq_of_lt (by omega)))
  have hpart : (s.atBarrier b k).reg (Reg.BARRIER.PARTICIPANTS k) = s.reg (Reg.BARRIER.PARTICIPANTS k) :=
    (s.reg_atBarrier b hk (by decide : 1 < 256)).trans (if_neg (by decide))
  have hgoes : s.arriveBarrier b k = (s.atBarrier b k).releaseBarrier k fun _ s => s := by
    rw [State.arriveBarrier_eq, hpart, harr, if_pos h]
  have ht : t = ((s.atBarrier b k).releaseBarrier k fun _ s => s).deliverDue := congrArg State.deliverDue hgoes
  clear_value t
  have hdue : Only [] [] ((s.atBarrier b k).releaseBarrier k fun _ s => s) t := by
    rw [ht]
    exact Only.deliverDue _
  have hbench : ∀ d, d < 128 → t.benchState d = ((s.atBarrier b k).releaseBarrier k fun _ s => s).benchState d
      ∧ t.misc d 6 = ((s.atBarrier b k).releaseBarrier k fun _ s => s).misc d 6 := fun d hd =>
    ⟨hdue.benchReg hd (by decide) (by simp), hdue.misc hd (by decide) (by simp)⟩
  have hrel : ∀ d, d < 128 → _ := fun d hd => State.releaseBarrier_benches (f := fun _ s => s) (k := k) (s.wf_atBarrier b (k := k) hwf) hd fun _ _ _ => ⟨rfl, rfl⟩
  have hruns : ∀ d, d < 128 → d = b.val ∨ s.misc d 6 = k + 1 → t.benchState d = 1 ∧ t.misc d 6 = 0 := fun d hd hor => by
    rw [(hbench d hd).1, (hbench d hd).2]
    refine (hrel d hd).1 ?_
    rw [s.misc_atBarrier b hd]
    split
    · rfl
    · next hne => exact hor.resolve_left hne
  have hq : ∀ {q : Nat}, quietReg q = true → q ∉ modeRegs → q < 0x810000 →
      ((s.atBarrier b k).forAll ((s.atBarrier b k).arrivedAt k) State.released).reg q = (s.atBarrier b k).reg q := fun hq hm hlt =>
    State.view_forAll (g := fun u => u.reg _) (fun u c _ => u.reg_released_other hq hm (by simp only [Reg.BENCH.STATE]; omega)) _
  obtain ⟨hzero, hgen, hramp⟩ := ((s.atBarrier b k).forAll ((s.atBarrier b k).arrivedAt k) State.released).barrierPassed_shows hk
  refine ⟨(hruns b b.isLt (.inl rfl)).1, (hruns b b.isLt (.inl rfl)).2, fun d hd hm => hruns d hd (.inr hm), fun d hd hne hm => ?_, ?_, ?_, ?_⟩
  · have hmisc : (s.atBarrier b k).misc d 6 = s.misc d 6 := (s.misc_atBarrier b hd).trans (if_neg hne)
    obtain ⟨hst, hmi⟩ := (hrel d hd).2 (by rw [hmisc]; exact hm)
    exact ⟨(hbench d hd).1.trans (hst.trans (s.benchState_atBarrier_other b hd hne)), (hbench d hd).2.trans (hmi.trans hmisc)⟩
  · exact (hdue.regs _ (by simp) (quietReg_barrier hk (by decide))).trans hzero
  · refine (hdue.regs _ (by simp) (quietReg_barrier hk (by decide))).trans (hgen.trans ?_)
    rw [hq (quietReg_barrier hk (by decide)) (barrierReg_notMode hk (by decide)) (by omega)]
    exact congrArg (fun n => (n + 1) % 2 ^ 32) ((s.reg_atBarrier b hk (by decide : 4 < 256)).trans (if_neg (by decide)))
  · refine (hdue.regs _ (by simp) (by decide)).trans (hramp.trans ?_)
    rw [hq (by decide) (by decide) (by decide)]
    refine congrArg (fun n => (n + 1) % 16) ((Only.atBarrier s b (k := k)).regs _ ?_ (by decide))
    intro hin
    obtain hin | hin := List.mem_append.mp hin
    · simp only [List.mem_cons, List.not_mem_nil, or_false, Reg.BENCH.STATE, Reg.BARRIER.ARRIVED, Reg.BENCH_DEVICE.RAMP_ROTATION] at hin
      omega
    · exact absurd hin (by decide)

/-! ### COMPLETE -/

/-- What is read from memory depends on memory alone. -/
theorem State.bytesFrom_congr {s t : State} (h : t.mem = s.mem) (a n : Nat) : t.bytesFrom a n = s.bytesFrom a n := by
  induction n generalizing a with
  | zero => rfl
  | succ n ih =>
    have hbyte : t.byte a = s.byte a := by
      unfold State.byte
      rw [h]
    rw [State.bytesFrom, State.bytesFrom, ih, hbyte]

theorem State.length_bytesFrom (s : State) (a n : Nat) : (s.bytesFrom a n).length = n := by
  induction n generalizing a with
  | zero => rfl
  | succ n ih => rw [State.bytesFrom, List.length_cons, ih]

theorem startRegs_bench {b c a : Nat} (hcb : c ≠ b) (ha : a < 256) : (0x8100 + c) * 256 + a ∉ startRegs b := by
  intro h
  obtain h | h := List.mem_append.mp h
  · simp only [List.mem_cons, List.not_mem_nil, or_false, Reg.BENCH.STATE, Reg.BENCH.PC, Reg.BENCH.CURRENT_JOB] at h
    omega
  · exact benchReg_notMode ha h

theorem startRegs_bank {b k a : Nat} (hb : b < 128) (ha : a < 256) : (0x9200 + k) * 256 + a ∉ startRegs b := by
  intro h
  obtain h | h := List.mem_append.mp h
  · simp only [List.mem_cons, List.not_mem_nil, or_false, Reg.BENCH.STATE, Reg.BENCH.PC, Reg.BENCH.CURRENT_JOB] at h
    omega
  · exact bankReg_notMode ha h

/-- A program that completes (R403, R465). -/
theorem State.completeProgram_shows (s : State) (b : BenchNo) {v : Nat} (hlen : bits v 33 26 ≤ 224) :
    let t := (s.completeProgram b v).deliverDue
    (s.tab Tab.benchTrigger b = 0 → t.benchState b = 0 ∧ t.reg (Reg.BENCH.CURRENT_JOB b) = 0)
    ∧ (s.tab Tab.benchTrigger b ≠ 0 → t.benchState b = 1 ∧ t.reg (Reg.BENCH.PC b) = s.reg (Reg.BENCH.TRIGGER_ENTRY b) ∧ t.cw b 1 = 1)
    ∧ (∀ slot, slot < 4096 → s.misc b 4 = slot + 1 → t.jobSt slot = 3 ∧ octetsAt 256 (t.tab Tab.jobRecord slot) 4 1 = 0
      ∧ octetsAt 256 (t.tab Tab.jobRecord slot) 28 4 = s.cw b 10 % 2 ^ 32
      ∧ octetsAt 256 (t.tab Tab.jobRecord slot) 32 (bits v 33 26) = ofBE (s.scratch b (bits v 17 0) (bits v 33 26)))
    ∧ (∀ k, k ∈ s.banksOf b → s.reg (Reg.POOL_BANK.RETURN_ON_END k) = 1 → t.bankOwner k = ownerHost)
    ∧ (∀ d, d < 128 → d ≠ b.val → t.benchState d = s.benchState d) ∧ t.mem = s.mem := by
  intro t
  let r := s.returnAtEnd b
  have hr : Only (bankRegs ++ modeRegs) [] s r := Only.returnAtEnd s b
  have hcode : r.cw b Cw.userCode = s.cw b 10 := hr.cw b.isLt (by decide) (by simp)
  have hdata : r.scratch b (bits v 17 0) (bits v 33 26) = s.scratch b (bits v 17 0) (bits v 33 26) := State.bytesFrom_congr hr.mem _ _
  have hlength : (s.scratch b (bits v 17 0) (bits v 33 26)).length = bits v 33 26 := State.length_bytesFrom _ _ _
  let x := s.scratch b (bits v 17 0) (bits v 33 26)
  let e := r.endJob b 0 (s.cw b 10) x
  have he : Calm [] [Tab.benchMisc] r e := .endJob _ _ _ _ b.isLt (by simp)
  have ht : t = (e.becomeIdle b).deliverDue := by
    change ((r.endJob b 0 (r.cw b Cw.userCode) (r.scratch b (bits v 17 0) (bits v 33 26))).becomeIdle b).deliverDue = _
    rw [hcode, hdata]
  clear_value t
  have hdue : Only [] [] (e.becomeIdle b) t := by
    rw [ht]
    exact Only.deliverDue _
  obtain ⟨hidle, hstart, honly⟩ := e.becomeIdle_shows b.isLt
  have htrig : e.tab Tab.benchTrigger b = s.tab Tab.benchTrigger b :=
    (he.tabs _ _ (by decide) (by decide) (by decide) (by omega)).trans (hr.tabs _ _ (by omega) (by simp) (by decide))
  have hreg : ∀ c a, c < 128 → a < 256 → a ≠ 3 → e.reg ((0x8100 + c) * 256 + a) = s.reg ((0x8100 + c) * 256 + a) := fun c a hc ha h3 =>
    (he.benchReg hc ha h3 (by simp)).trans (hr.benchReg hc ha (benchReg_notBank hc ha))
  rw [htrig] at hidle hstart
  have hrest : Only (startRegs b) (Tab.benchTrigger :: startTabs) e t := honly.trans (hdue.mono (by simp) (by simp))
  refine ⟨fun h => ?_, fun h => ?_, fun slot hs hm => ?_, fun k hk hret => ?_, fun d hd hne => ?_, ?_⟩
  · obtain ⟨hst, hjob, -⟩ := hidle h
    exact ⟨(hdue.benchReg b.isLt (by decide) (by simp)).trans hst, (hdue.benchReg b.isLt (by decide) (by simp)).trans hjob⟩
  · obtain ⟨hst, hpc, hcause⟩ := hstart h
    exact ⟨(hdue.benchReg b.isLt (by decide) (by simp)).trans hst,
      (hdue.benchReg b.isLt (by decide) (by simp)).trans (hpc.trans (hreg b 5 b.isLt (by decide) (by decide))),
      (hdue.cw b.isLt (by decide) (by simp)).trans hcause⟩
  · have hmisc : r.misc b 4 = slot + 1 := (hr.misc b.isLt (by decide) (by simp)).trans hm
    obtain ⟨hst, hrec⟩ := r.endJob_shows 0 (s.cw b 10) x b.isLt (by omega : slot < 2 ^ 40) hmisc
    obtain ⟨hstatus, -, hcode', hdata'⟩ := (r.setMisc b 4 0).endedRecord_fields slot 0 b (s.cw b 10) (data := x) (hlength.trans_le hlen)
    have hkept : ∀ q, q = Tab.jobState ∨ q = Tab.jobRecord → t.tab q slot = e.tab q slot := fun q hq =>
      hrest.tabs q slot (by omega) (by obtain rfl | rfl := hq <;> decide) (by obtain rfl | rfl := hq <;> decide)
    rw [hlength] at hdata'
    refine ⟨(hkept _ (.inl rfl)).trans hst, ?_⟩
    rw [hkept _ (.inr rfl), hrec]
    exact ⟨hstatus, hcode', hdata'⟩
  · have hlt := State.banksOf_lt hk
    have howner : t.bankOwner k = e.bankOwner k := hrest.regs _ (startRegs_bank b.isLt (by decide)) (quietReg_bank hlt (by decide))
    rw [howner]
    exact (he.regs _ (by simp) (calmReg_bank hlt (by decide) (by decide))).trans (State.bankOwner_returnAtEnd hk hret)
  · exact (hrest.benchReg hd (by decide) (startRegs_bench hne (by decide))).trans (hreg d 1 hd (by decide) (by decide))
  · exact hrest.mem.trans (he.mem.trans hr.mem)

end Sys2Proof.Machine
end

section
/-!
SUPPORT. The commands that read or write a control word.
-/
namespace Sys2Proof.Machine

/-- Command `c` is a write of `v` to control word `k` by bench `b`. -/
def writesCw (b : BenchNo) (k v : Nat) (c : Instr) : Prop := (∃ cw : Fin 32, cw.val = k ∧ c = .cwordWrite b cw v)
  ∨ (k = 9 ∧ c = .complete b v) ∨ (k = 11 ∧ c = .barrier b v) ∨ (k = 12 ∧ v = 0 ∧ c = .raise b) ∨ (k = 14 ∧ c = .intComplete b v)
  ∨ (k = 16 ∧ c = .dictValue b v) ∨ (k = 18 ∧ c = .rxRing b v) ∨ (k = 20 ∧ c = .rxHead b v)

/-- Command `c` is a read of control word `k` by bench `b`. -/
def readsCw (b : BenchNo) (k : Nat) (r : SReg) (c : Instr) : Prop := (∃ cw : Fin 32, cw.val = k ∧ c = .cwordRead b cw r)
  ∨ (k = 13 ∧ c = .intClaim b r)

theorem exec_writesCw {b : BenchNo} {k v : Nat} {c : Instr} (h : writesCw b k v c) (s : State) :
    exec c s = State.done (s.unitCwWrite b k (v % 2 ^ 64)) := by
  obtain ⟨cw, rfl, rfl⟩ | ⟨rfl, rfl⟩ | ⟨rfl, rfl⟩ | ⟨rfl, rfl, rfl⟩ | ⟨rfl, rfl⟩ | ⟨rfl, rfl⟩ | ⟨rfl, rfl⟩ | ⟨rfl, rfl⟩ := h <;> rfl

theorem exec_readsCw {b : BenchNo} {k : Nat} {r : SReg} {c : Instr} (h : readsCw b k r c) (s : State) :
    exec c s = State.done (s.unitCwRead b k r) := by
  obtain ⟨cw, rfl, rfl⟩ | ⟨rfl, rfl⟩ := h <;> rfl

theorem writesCw_lt {b : BenchNo} {k v : Nat} {c : Instr} (h : writesCw b k v c) : k < 32 := by
  obtain ⟨cw, rfl, -⟩ | ⟨rfl, -⟩ | ⟨rfl, -⟩ | ⟨rfl, -⟩ | ⟨rfl, -⟩ | ⟨rfl, -⟩ | ⟨rfl, -⟩ | ⟨rfl, -⟩ := h
  · exact cw.isLt
  all_goals decide

theorem readsCw_lt {b : BenchNo} {k : Nat} {r : SReg} {c : Instr} (h : readsCw b k r c) : k < 32 := by
  obtain ⟨cw, rfl, -⟩ | ⟨rfl, -⟩ := h
  · exact cw.isLt
  · decide

theorem cwReadable_false {k : Nat} (hk : k < 32) (h : k ∈ [9, 10, 11, 12, 14, 15, 16, 18] ∨ 20 ≤ k) : cwReadable k = false := by
  revert h
  decide +revert

theorem cwReadable_true {k : Nat} (hk : k < 32) (h : k ≤ 8 ∨ k = 17 ∨ k = 19) : cwReadable k = true := by
  revert h
  decide +revert

theorem cwWritable_false {k : Nat} (hk : k < 32) (h : k < 8 ∨ k ∈ [13, 17, 19] ∨ 20 < k) : cwWritable k = false ∧ k ≠ 16 := by
  revert h
  decide +revert

section
variable {s : State} {b : BenchNo}

/-- A word that is read as it stands. -/
theorem State.runCwRead_plain {k : Nat} (r : Nat) (hk : k ≠ 13) : s.runCwRead s b k r
    = s.setS b r (if k = 0 then b.val else if k = 6 then packTime s.ptpNs else if k = 7 then s.divider else s.cw b k) := by
  unfold State.runCwRead State.cwValue
  by_cases h0 : k = 0
  · rw [if_pos h0, if_pos h0]
  · rw [if_neg h0, if_neg h0]
    by_cases h6 : k = 6
    · rw [if_pos h6, if_pos h6]
    · rw [if_neg h6, if_neg h6]
      by_cases h7 : k = 7
      · rw [if_pos h7, if_pos h7]
      · rw [if_neg h7, if_neg h7, if_neg hk]

theorem cwWriteTrap_invalid {k v : Nat} (h : cwWritable k = false) : s.cwWriteTrap b k v = some 7 := by
  unfold State.cwWriteTrap
  rw [h]
  rfl

theorem cwWriteTrap_barrier {v : Nat} : s.cwWriteTrap b 11 v = if 31 < v ∨ s.reg (Reg.BARRIER.PARTICIPANTS v) = 0 then some 7 else none := rfl

theorem cwWriteTrap_complete {v : Nat} : s.cwWriteTrap b 9 v
    = if 224 < bits v 33 26 then some 7 else if !inScratch (bits v 17 0) (bits v 33 26) then some 2 else none := rfl

theorem State.unitCwWrite_stalls {v : Nat} (h : s.benchRuns b = true) (hbusy : s.misc b 1 ≠ 0) : s.unitCwWrite b 16 v = s := by
  unfold State.unitCwWrite State.cwStalls
  rw [h, bne_iff_ne.mpr hbusy]
  rfl

theorem State.runCwWrite_barrier (v : Nat) : s.runCwWrite b 11 v = s.arriveBarrier b v := rfl

theorem State.cwStalls_other {k : Nat} (h : k ≠ 16) : s.cwStalls b k = false := by
  unfold State.cwStalls
  rw [beq_false_of_ne h, Bool.false_and]

theorem State.cwStalls_free (h : s.misc b 1 = 0) : s.cwStalls b 16 = false := by
  unfold State.cwStalls
  rw [h]
  rfl

/-- A dictionary write that starts (R398). -/
theorem State.dictStarted (v : Nat) :
    let t := ((s.setMisc b 1 (s.cw b 15 * 2 ^ 72 + v + 1)).setCw b 17 0x100).deliverDue
    t.misc b 1 = s.cw b 15 * 2 ^ 72 + v + 1 ∧ bit (t.cw b 17) 8 = true ∧ Only [] [Tab.benchMisc, Tab.benchCw] s t := by
  intro t
  have hmisc := Only.setMisc (R := []) (T := [Tab.benchMisc, Tab.benchCw]) s (s.cw b 15 * 2 ^ 72 + v + 1) b.isLt (by decide : 1 < 16) (by simp)
  have hcw := Only.setCw (R := []) (T := [Tab.benchCw]) (s.setMisc b 1 (s.cw b 15 * 2 ^ 72 + v + 1)) 0x100 b.isLt (by decide : 17 < 32) (by simp)
  have hdue : Only [] [] ((s.setMisc b 1 (s.cw b 15 * 2 ^ 72 + v + 1)).setCw b 17 0x100) t := Only.deliverDue _
  refine ⟨?_, ?_, (hmisc.trans (hcw.mono (by simp) (by simp))).trans (hdue.mono (by simp) (by simp))⟩
  · rw [hdue.misc b.isLt (by decide) (by simp), hcw.misc b.isLt (by decide) (by decide), State.misc_setMisc_same]
  · rw [hdue.cw b.isLt (by decide) (by simp), State.cw_setCw_same]
    decide

theorem bits_mod_pow (v : Nat) {n msb lsb : Nat} (h : msb < n) : bits (v % 2 ^ n) msb lsb = bits v msb lsb := by
  refine Nat.eq_of_testBit_eq fun i => ?_
  rw [testBit_bits, testBit_bits, Nat.testBit_mod_two_pow]
  by_cases hi : i < msb + 1 - lsb
  · rw [decide_eq_true (by omega : lsb + i < n), Bool.true_and]
  · rw [decide_eq_false hi, Bool.false_and, Bool.false_and]

end
end Sys2Proof.Machine
end

section
/-!
O60, settled.
-/
open Sys2Proof Sys2Proof.Machine

/-- Settles O60: a word outside the rows of R397 traps, and each word within them is its own store. -/
theorem controlWords : Obligations.ControlWords := by
  unfold Obligations.ControlWords
  intro writes reads pends
  refine ⟨fun s b k v r c h hrun => ?_, fun s b k r c h hrun => ?_, fun s b k v c h hrun hv => ?_⟩
  · obtain h | h := h
    · exact (exec_writesCw h s).trans (State.unitCwWrite_stopped hrun)
    · exact (exec_readsCw h s).trans (State.unitCwRead_stopped hrun)
  · have hk := readsCw_lt h
    rw [exec_readsCw h s]
    refine ⟨fun hno => State.unitCwRead_traps hrun (cwReadable_false hk hno), fun hyes => ?_, fun h13 hwf hd => ?_⟩
    · rw [State.unitCwRead_reads hrun (cwReadable_true hk hyes), State.runCwRead_plain r (by omega)]
      obtain ⟨hval, hkeeps, honly⟩ := s.setS_done b r (if k = 0 then b.val else if k = 6 then packTime s.ptpNs else if k = 7 then s.divider else s.cw b k)
      exact ⟨_, rfl, hval, hkeeps, honly⟩
    · subst h13
      obtain ⟨hnone, hfirst⟩ := s.claimRead b r hwf hd
      rw [State.unitCwRead_reads hrun (by decide)]
      exact ⟨fun hno => ⟨_, rfl, hnone hno⟩, fun n hn hp hmin => ⟨_, rfl, hfirst n hn hp hmin⟩⟩
  · have hk := writesCw_lt h
    rw [exec_writesCw h s, Nat.mod_eq_of_lt hv]
    refine ⟨fun hno => ?_, ?_, ?_, ?_, ?_, ?_, ?_, ?_, ?_, ?_, ?_, ?_, ?_, ?_, ?_⟩
    · obtain ⟨hbad, h16⟩ := cwWritable_false hk hno
      exact State.unitCwWrite_traps hrun h16 (cwWriteTrap_invalid hbad)
    · rintro rfl
      obtain ⟨hcw, honly⟩ := s.setCw_done b (clearBits (s.cw b 8) (v % 16)) (by decide : 8 < 32)
      refine ⟨_, State.unitCwWrite_plain hrun (by decide) (by decide) (by decide) (by decide), fun i => ?_, honly⟩
      refine (congrArg (bit · i) hcw).trans ?_
      rw [bit_clearBits]
      congr 2
      exact Nat.testBit_mod_two_pow v 4 i
    · rintro rfl
      exact ⟨_, State.unitCwWrite_plain hrun (by decide) (by decide) (by decide) (by decide), s.setCw_done b _ (by decide : 10 < 32)⟩
    · rintro rfl
      exact ⟨_, State.unitCwWrite_plain hrun (by decide) (by decide) (by decide) (by decide), s.setCw_done b _ (by decide : 15 < 32)⟩
    · rintro rfl hbusy
      exact congrArg State.done (State.unitCwWrite_stalls hrun hbusy)
    · rintro rfl hfree
      obtain ⟨hmisc, hcw, honly⟩ := s.dictStarted (b := b) v
      refine ⟨_, State.unitCwWrite_writes hrun (State.cwStalls_free hfree) rfl, ?_⟩
      rw [show s.runCwWrite b 16 v = (s.setMisc b 1 (s.cw b 15 * 2 ^ 72 + v % 2 ^ 64 + 1)).setCw b 17 0x100 from rfl, Nat.mod_eq_of_lt hv]
      exact ⟨hmisc, hcw, honly⟩
    · rintro rfl
      obtain ⟨hcw, honly⟩ := s.setCw_done b (v % 2 ^ 36) (by decide : 18 < 32)
      refine ⟨_, State.unitCwWrite_plain hrun (by decide) (by decide) (by decide) (by decide), ?_, ?_, honly⟩
      · exact (congrArg (bits · 17 0) hcw).trans (bits_mod_pow v (by decide))
      · exact (congrArg (bits · 35 18) hcw).trans (bits_mod_pow v (by decide))
    · rintro rfl
      exact ⟨_, State.unitCwWrite_plain hrun (by decide) (by decide) (by decide) (by decide), s.setCw_done b _ (by decide : 20 < 32)⟩
    · rintro rfl
      exact ⟨_, State.unitCwWrite_plain hrun (by decide) (by decide) (by decide) (by decide), s.raised_shows b⟩
    · rintro rfl hd n mine
      obtain ⟨hno, hyes⟩ := s.completeBy_shows b v hd (Bool.and_eq_true_iff.mp hrun).1
      have hrun' := State.unitCwWrite_plain (v := v) hrun (by decide : cwWritable 14 = true) (by decide) (by decide) (by decide)
      exact ⟨fun h => ⟨_, hrun', hno h⟩, fun h ht => ⟨_, hrun', hyes h ht⟩⟩
    · rintro rfl hbad
      exact State.unitCwWrite_traps hrun (by decide) (cwWriteTrap_barrier.trans (if_pos hbad))
    · rintro rfl hle hwf hpart harr
      have hnot : ¬(31 < v ∨ s.reg (Reg.BARRIER.PARTICIPANTS v) = 0) := fun h => h.elim (by omega) hpart
      have hrun' := State.unitCwWrite_writes (k := 11) hrun (State.cwStalls_other (by decide)) (cwWriteTrap_barrier.trans (if_neg hnot))
      rw [State.runCwWrite_barrier] at hrun'
      exact ⟨fun h => ⟨_, hrun', State.arriveBarrier_waits (by omega) harr h⟩,
        fun h => ⟨_, hrun', State.arriveBarrier_releases hwf (by omega) harr h⟩⟩
    · rintro rfl hlong
      exact State.unitCwWrite_traps hrun (by decide) (cwWriteTrap_complete.trans (if_pos hlong))
    · rintro rfl hshort hout
      refine State.unitCwWrite_traps hrun (by decide) (cwWriteTrap_complete.trans ((if_neg (by omega)).trans (if_pos ?_)))
      unfold inScratch
      rw [decide_eq_false (Nat.not_le.mpr hout : ¬bits v 17 0 + bits v 33 26 ≤ scratchSize)]
      rfl
    · rintro rfl hshort hin
      refine ⟨_, State.unitCwWrite_writes (k := 9) hrun (State.cwStalls_other (by decide)) (cwWriteTrap_complete.trans ((if_neg (by omega)).trans (if_neg ?_))),
        s.completeProgram_shows b hshort⟩
      unfold inScratch
      rw [decide_eq_true (hin : bits v 17 0 + bits v 33 26 ≤ scratchSize)]
      decide

end

section
/-!
SUPPORT. Cancelled jobs, halts, resets and barrier time-outs (R402, R407 to R410).
-/
namespace Sys2Proof.Machine

/-! ### Cancelled jobs (R402) -/

theorem State.mem_insertJob (s : State) (j k : Nat) (l : List Nat) : j ∈ s.insertJob k l ↔ j = k ∨ j ∈ l := by
  induction l with
  | nil => simp [State.insertJob]
  | cons h t ih =>
    unfold State.insertJob
    split
    · simp
    · rw [List.mem_cons, ih, List.mem_cons]
      exact or_left_comm

theorem State.mem_foldr_insertJob (s : State) (j : Nat) (l : List Nat) : j ∈ l.foldr s.insertJob [] ↔ j ∈ l := by
  induction l with
  | nil => rfl
  | cons k l ih => rw [List.foldr_cons, State.mem_insertJob, ih, List.mem_cons]

theorem State.mem_queuedJobs {s : State} (hwf : s.wf = true) {k : Nat} : k ∈ s.queuedJobs ↔ k < 2 ^ 40 ∧ s.jobSt k = 1 := by
  unfold State.queuedJobs State.jobSt
  rw [State.mem_foldr_insertJob]
  constructor
  · intro h
    obtain ⟨e, he, rfl⟩ := List.mem_map.mp h
    obtain ⟨hmem, hst⟩ := List.mem_filter.mp he
    exact ⟨State.mem_tabList hmem, (State.tab_of_mem_tabList hwf hmem).trans (beq_iff_eq.mp hst)⟩
  · rintro ⟨hk, hst⟩
    have hlisted : k ∈ (s.tabList Tab.jobState).map (·.1) := by
      refine State.mem_tabList_of_tab hk fun hdflt => ?_
      have hzero : Tab.dflt (tabKey Tab.jobState k) = 0 := by
        unfold Tab.dflt tabKey
        rw [show (Tab.jobState * 2 ^ 40 + k) / 2 ^ 40 = Tab.jobState by omega]
        rfl
      omega
    obtain ⟨e, he, rfl⟩ := List.mem_map.mp hlisted
    exact List.mem_map.mpr ⟨e, List.mem_filter.mpr ⟨he, beq_iff_eq.mpr ((State.tab_of_mem_tabList hwf he).symm.trans hst)⟩, rfl⟩

/-- A job is completed as CANCELLED. -/
def State.cancelJob (s : State) (k : Nat) : State := s.completeJob k 4 0xFF 0 []

/-- A job has been cancelled. -/
def State.cancelled (s : State) (k : Nat) : Prop :=
  s.jobSt k = 3 ∧ octetsAt 256 (s.tab Tab.jobRecord k) 4 1 = 4 ∧ octetsAt 256 (s.tab Tab.jobRecord k) 5 1 = 0xFF

theorem State.cancelJob_same (s : State) {k : Nat} (hk : k < 2 ^ 40) : (s.cancelJob k).cancelled k := by
  obtain ⟨hst, hrec⟩ := s.tab_completeJob 4 0xFF 0 [] hk hk
  rw [if_pos rfl] at hst hrec
  obtain ⟨hstatus, hbench, -, -⟩ := s.endedRecord_fields k 4 0xFF 0 (data := []) (by decide)
  refine ⟨hst, ?_, ?_⟩
  · exact (congrArg (octetsAt 256 · 4 1) hrec).trans hstatus
  · exact (congrArg (octetsAt 256 · 5 1) hrec).trans hbench

theorem State.cancelJob_other (s : State) {j k : Nat} (hj : j < 2 ^ 40) (hk : k < 2 ^ 40) (h : k ≠ j) :
    (s.cancelJob j).jobSt k = s.jobSt k ∧ (s.cancelJob j).tab Tab.jobRecord k = s.tab Tab.jobRecord k := by
  obtain ⟨hst, hrec⟩ := s.tab_completeJob 4 0xFF 0 [] hj hk
  rw [if_neg h] at hst hrec
  exact ⟨hst, hrec⟩

/-- Every job of a list is cancelled, and no other. -/
theorem State.cancelJobs (s : State) {l : List Nat} (hl : ∀ j ∈ l, j < 2 ^ 40) {k : Nat} (hk : k < 2 ^ 40) :
    (k ∈ l → (s.forAll l State.cancelJob).cancelled k)
    ∧ (k ∉ l → (s.forAll l State.cancelJob).jobSt k = s.jobSt k ∧ (s.forAll l State.cancelJob).tab Tab.jobRecord k = s.tab Tab.jobRecord k) := by
  refine ⟨fun h => State.forAll_settles (f := State.cancelJob) (Q := fun u => u.cancelled k) h (fun u => u.cancelJob_same hk) (fun u j hj hu => ?_) s, fun h => ⟨?_, ?_⟩⟩
  · by_cases hjk : k = j
    · subst hjk
      exact u.cancelJob_same hk
    · obtain ⟨hst, hrec⟩ := u.cancelJob_other (hl j hj) hk hjk
      unfold State.cancelled
      rw [hst, hrec]
      exact hu
  · exact State.view_forAll (g := fun u => u.jobSt k) (fun u j hj => (u.cancelJob_other (hl j hj) hk fun h' => h (h' ▸ hj)).1) s
  · exact State.view_forAll (g := fun u => u.tab Tab.jobRecord k) (fun u j hj => (u.cancelJob_other (hl j hj) hk fun h' => h (h' ▸ hj)).2) s

/-- The jobs of class `c` that are queued. -/
def State.jobsOfClass (s : State) (c : Nat) : List Nat := s.queuedJobs.filter fun k => jobClass (s.tab Tab.jobDesc k) == c

theorem cancelEffect_high {s : State} {c : Nat} (h : 15 < c) : cancelEffect c s = Res.fail s Code.range := if_pos h

theorem cancelEffect_class {s : State} {c : Nat} (h : c ≤ 15) : cancelEffect c s = Res.done (s.forAll (s.jobsOfClass c) State.cancelJob) :=
  if_neg (by omega)

theorem execCancelClass_high {s : State} {w : SessionNo} {c : Nat} (hp : s.permits w 0x8000 0x07 c = true) (h : 15 < c) :
    exec (.cancelClass w c) s = .next s.deliverDue := by
  have heff := cancelEffect_high (s := s) h
  have hcode : (cancelEffect c s).code ≠ Code.ok := by rw [heff]; exact (by decide : Code.range ≠ Code.ok)
  have hn := State.hostWrite_next_refused hp hcode
  rw [heff] at hn
  exact hn

theorem execCancelClass_class {s : State} {w : SessionNo} {c : Nat} (hp : s.permits w 0x8000 0x07 c = true) (h : c ≤ 15) :
    exec (.cancelClass w c) s = .next (s.forAll (s.jobsOfClass c) State.cancelJob).deliverDue := by
  have heff := cancelEffect_class (s := s) h
  have hsaved : savedSub 0x8000 0x07 = false := by decide
  have hn := State.hostWrite_next (eff := cancelEffect c) hp (by rw [heff]; rfl)
  rw [heff, hsaved] at hn
  exact hn

/-- CANCEL_CLASS (R402). -/
theorem execCancelClass_shows {s : State} {w : SessionNo} {c : Nat} (hp : s.permits w 0x8000 0x07 c = true) (hwf : s.wf = true) (h : c ≤ 15) :
    ∃ t, exec (.cancelClass w c) s = .next t
      ∧ (∀ k, k < 4096 → (s.jobSt k = 1 ∧ jobClass (s.tab Tab.jobDesc k) = c →
            t.jobSt k = 3 ∧ octetsAt 256 (t.tab Tab.jobRecord k) 4 1 = 4 ∧ octetsAt 256 (t.tab Tab.jobRecord k) 5 1 = 0xFF)
          ∧ (¬(s.jobSt k = 1 ∧ jobClass (s.tab Tab.jobDesc k) = c) →
            t.jobSt k = s.jobSt k ∧ t.tab Tab.jobRecord k = s.tab Tab.jobRecord k))
      ∧ Only [Reg.BENCH_DEVICE.RING_HEAD] [Tab.jobState, Tab.jobRecord, Tab.jobRing] s t := by
  have hmem : ∀ k, k ∈ s.jobsOfClass c ↔ (k < 2 ^ 40 ∧ s.jobSt k = 1) ∧ jobClass (s.tab Tab.jobDesc k) = c := fun k => by
    unfold State.jobsOfClass
    rw [List.mem_filter, State.mem_queuedJobs hwf, beq_iff_eq]
  have hlt : ∀ j ∈ s.jobsOfClass c, j < 2 ^ 40 := fun j hj => ((hmem j).mp hj).1.1
  let u := s.forAll (s.jobsOfClass c) State.cancelJob
  have hall : Only [Reg.BENCH_DEVICE.RING_HEAD] [Tab.jobState, Tab.jobRecord, Tab.jobRing] s u :=
    Only.forAll _ _ _ fun v j hj => Only.completeJob v 4 0xFF 0 [] (hlt j hj)
  have hdue : Only [] [] u u.deliverDue := Only.deliverDue _
  have hst : ∀ k, k < 4096 → u.deliverDue.jobSt k = u.jobSt k := fun k hk => hdue.tabs _ _ (by omega) (by simp) (by decide)
  have hrec : ∀ k, k < 4096 → u.deliverDue.tab Tab.jobRecord k = u.tab Tab.jobRecord k := fun k hk => hdue.tabs _ _ (by omega) (by simp) (by decide)
  refine ⟨_, execCancelClass_class hp h, fun k hk => ?_, hall.trans (hdue.mono (by simp) (by simp))⟩
  obtain ⟨hin, hout⟩ := s.cancelJobs hlt (k := k) (by omega)
  rw [hst k hk, hrec k hk]
  exact ⟨fun hc => hin ((hmem k).mpr ⟨⟨by omega, hc.1⟩, hc.2⟩), fun hc => hout fun hk' => hc ⟨((hmem k).mp hk').1.2, ((hmem k).mp hk').2⟩⟩

/-! ### What a departed bench leaves (R403, R408, R409) -/

section
variable (s : State) {b : Nat}

/-- A departure writes words 4 to 6 of its own bench alone. -/
theorem State.misc_departing {k : Nat} (hb : b < 128) (hk : k < 16) (h5 : k ≠ 5) (h6 : k ≠ 6) : (s.departing b).misc b k = s.misc b k := by
  have hwait : (s.clearTileWaits b).misc b k = s.misc b k :=
    (State.misc_setMisc_other _ _ (by decide) hk (.inr h5)).trans (State.tab_clearTabRange_table _ (by decide) (by omega))
  have hsend : ((s.clearTileWaits b).setSendQueue b []).misc b k = (s.clearTileWaits b).misc b k :=
    (Only.setSendQueue (R := []) (T := [Tab.benchSend]) _ [] hb (by simp)).misc hb hk (by decide)
  unfold State.departing State.withdrawArrival
  split
  · exact hsend.trans hwait
  · exact (State.tab_drop _ _ _ _ _).trans ((State.misc_setMisc_other _ _ (by decide) hk (.inr h6)).trans (hsend.trans hwait))

theorem State.misc_depart {k status userCode : Nat} (hb : b < 128) (hk : k < 16) (h4 : k ≠ 4) (h5 : k ≠ 5) (h6 : k ≠ 6) :
    (s.depart b status userCode).misc b k = s.misc b k := by
  have hend : ((s.departing b).endJob b status userCode []).misc b k = (s.departing b).misc b k := by
    unfold State.endJob
    split
    · rfl
    · next slot _ =>
      exact ((Calm.of (Only.benchCounted (R := []) (T := []) _ _ _ hb (by decide))).misc hb hk (by simp)).trans
        (((Calm.completeJob (R := []) (T := []) _ slot status b userCode []).misc hb hk (by simp)).trans
          (State.misc_setMisc_other _ _ (by decide) hk (.inr h4)))
  rw [State.depart_eq, (Only.completeAllOf (R := []) (T := []) _ b).misc hb hk (by simp), hend, s.misc_departing hb hk h5 h6]

/-- The job of a bench that departs ends. -/
theorem State.progLeft_job {slot : Nat} (status userCode : Nat) (hb : b < 128) (hs : slot < 4096) (h : s.misc b 4 = slot + 1) :
    (s.progLeft b status userCode).jobSt slot = 3
      ∧ octetsAt 256 ((s.progLeft b status userCode).tab Tab.jobRecord slot) 4 1 = status % 256 := by
  let r := s.returnAtEnd b
  have hr : Only (bankRegs ++ modeRegs) [] s r := Only.returnAtEnd s b
  have hmisc : (r.departing b).misc b 4 = slot + 1 := by
    rw [r.misc_departing hb (by decide) (by decide) (by decide), hr.misc hb (by decide) (by simp), h]
  obtain ⟨hst, hrec⟩ := (r.departing b).endJob_shows status userCode [] hb (by omega : slot < 2 ^ 40) hmisc
  obtain ⟨hstatus, -⟩ := ((r.departing b).setMisc b 4 0).endedRecord_fields slot status b userCode (data := []) (by decide)
  have hdone : Only [] [] ((r.departing b).endJob b status userCode []) (s.progLeft b status userCode) := Only.completeAllOf _ _
  refine ⟨(hdone.tabs _ _ (by omega) (by simp) (by decide)).trans hst, ?_⟩
  rw [hdone.tabs _ _ (by omega) (by simp) (by decide), hrec]
  exact hstatus

end

/-- The end of a program other than by COMPLETE, shown in the bench's registers. -/
def State.endedAs (t s : State) (b status : Nat) : Prop :=
  t.benchState b = 3 ∧ t.reg (Reg.BENCH.CURRENT_JOB b) = 0 ∧ t.sendQueue b = []
    ∧ (∀ slot, slot < 4096 → s.misc b 4 = slot + 1 → t.jobSt slot = 3 ∧ octetsAt 256 (t.tab Tab.jobRecord slot) 4 1 = status)
    ∧ (∀ k, k ∈ s.banksOf b → s.reg (Reg.POOL_BANK.RETURN_ON_END k) = 1 → t.bankOwner k = ownerHost) ∧ t.mem = s.mem

/-- No other bench changes. -/
def State.othersKept (t s : State) (b : Nat) : Prop := ∀ c, c < 128 → c ≠ b → t.benchState c = s.benchState c
  ∧ t.reg (Reg.BENCH.PC c) = s.reg (Reg.BENCH.PC c) ∧ ∀ i, i < 64 → t.sReg c i = s.sReg c i

theorem haltRegs_bank {b k a : Nat} (hb : b < 128) (ha : a < 256) : (0x9200 + k) * 256 + a ∉ haltRegs b := by
  intro h
  obtain h | h := List.mem_append.mp h
  · simp only [List.mem_cons, List.not_mem_nil, or_false, Reg.BENCH.STATE, Reg.BENCH.TRAP_CAUSE, Reg.BENCH.TRAP_PC, Reg.BENCH.CURRENT_JOB,
      Reg.BENCH.EVENTS] at h
    omega
  · exact bankReg_notMode ha h

theorem State.endedAs_of_shown {s t : State} {b : BenchNo} {status userCode : Nat} (hstatus : status < 256)
    (h : Only (haltRegs b) [] (s.progLeft b status userCode) t) (hst : t.benchState b = 3) (hjob : t.reg (Reg.BENCH.CURRENT_JOB b) = 0) :
    t.endedAs s b status ∧ t.othersKept s b := by
  have hleft : Calm (bankRegs ++ modeRegs) departTabs s (s.progLeft b status userCode) := .progLeft s status userCode b.isLt
  have hc := Calm.of h
  refine ⟨⟨hst, hjob, ?_, fun slot hs hm => ?_, fun k hk hret => ?_, h.mem.trans hleft.mem⟩, fun c hcl hcb => ⟨?_, ?_, fun i hi => ?_⟩⟩
  · rw [hc.sendQueue b.isLt (by simp), State.sendQueue_progLeft s _ _ b.isLt]
  · obtain ⟨hst, hrec⟩ := s.progLeft_job status userCode b.isLt hs hm
    refine ⟨(h.tabs _ _ (by omega) (by simp) (by decide)).trans hst, ?_⟩
    rw [h.tabs _ _ (by omega) (by simp) (by decide), hrec, Nat.mod_eq_of_lt hstatus]
  · have hlt := State.banksOf_lt hk
    have hdep : Calm [] departTabs (s.returnAtEnd b) (s.progLeft b status userCode) := .depart _ _ _ b.isLt
    exact (h.regs _ (haltRegs_bank b.isLt (by decide)) (quietReg_bank hlt (by decide))).trans
      ((hdep.regs _ (by simp) (calmReg_bank hlt (by decide) (by decide))).trans (State.bankOwner_returnAtEnd hk hret))
  · exact (hc.benchReg hcl (by decide) (by decide) (haltRegs_not (.inl hcb) (.inl rfl))).trans
      (hleft.benchReg hcl (by decide) (by decide) (benchReg_notBank hcl (by decide)))
  · exact (hc.benchReg hcl (by decide) (by decide) (haltRegs_not (.inl hcb) (.inr rfl))).trans
      (hleft.benchReg hcl (by decide) (by decide) (benchReg_notBank hcl (by decide)))
  · exact (hc.sReg hcl hi (by simp)).trans (hleft.sReg hcl hi (by decide))

/-! ### Halts and the run limit (R408, R409) -/

/-- A halt's own registers, after the departure. -/
def State.haltShown (s : State) (b : Nat) : State := ((s.setBench b 3).setReg (Reg.BENCH.CURRENT_JOB b) 0).benchEvent b 1

theorem State.haltBench_active {s : State} {b : Nat} (h : s.benchActive b = true) : s.haltBench b = (s.progLeft b 2 0).haltShown b := if_pos h

theorem State.haltBench_inactive {s : State} {b : Nat} (h : s.benchActive b = false) : s.haltBench b = s := if_neg (by rw [h]; decide)

theorem Only.haltShown (s : State) (b : Nat) : Only (haltRegs b) [] s (s.haltShown b) :=
  ((Only.setBench _ _ _ (by simp) fun m hm => List.mem_append_right _ hm).trans (Only.setReg _ _ _ (.inl (by simp)))).trans
    (Only.benchEvent _ (by simp) (by simp))

theorem State.haltShown_shows (s : State) {b : Nat} (hb : b < 128) :
    (s.haltShown b).benchState b = 3 ∧ (s.haltShown b).reg (Reg.BENCH.CURRENT_JOB b) = 0 ∧ bit ((s.haltShown b).reg (Reg.BENCH.EVENTS b)) 1 = true := by
  unfold State.haltShown State.benchState
  refine ⟨?_, ?_, State.bit_benchEvent _ _ hb⟩
  · rw [State.reg_benchEvent _ hb (by decide) (by decide), State.reg_setReg_sub _ _ (by decide) (by decide) (by decide)]
    exact State.benchState_setBench s 3 hb
  · rw [State.reg_benchEvent _ hb (by decide) (by decide), State.reg_setReg_same]

theorem State.haltBench_ends {s : State} {b : BenchNo} (h : s.benchActive b = true) :
    (s.haltBench b).deliverDue.endedAs s b 2 ∧ bit ((s.haltBench b).deliverDue.reg (Reg.BENCH.EVENTS b)) 1 = true
      ∧ (s.haltBench b).deliverDue.othersKept s b := by
  rw [State.haltBench_active h]
  obtain ⟨hst, hjob, hev⟩ := (s.progLeft b 2 0).haltShown_shows b.isLt
  have hdue : Only [] [] ((s.progLeft b 2 0).haltShown b) ((s.progLeft b 2 0).haltShown b).deliverDue := Only.deliverDue _
  obtain ⟨hended, hothers⟩ := State.endedAs_of_shown (by decide : 2 < 256) ((Only.haltShown _ _).trans (hdue.mono (by simp) (by simp)))
    ((hdue.benchReg b.isLt (by decide) (by simp)).trans hst) ((hdue.benchReg b.isLt (by decide) (by simp)).trans hjob)
  exact ⟨hended, (congrArg (bit · 1) (hdue.benchReg b.isLt (by decide) (by simp))).trans hev, hothers⟩

theorem State.trapBench_ends {s : State} {b : BenchNo} (cause : Nat) :
    (s.trapBench b cause).deliverDue.endedAs s b 1 ∧ (s.trapBench b cause).deliverDue.othersKept s b := by
  rw [State.trapBench_eq]
  obtain ⟨hst, -, -, hjob, -⟩ := (s.progLeft b 1 cause).trapShown_shows cause b.isLt
  have hdue : Only [] [] ((s.progLeft b 1 cause).trapShown b cause) ((s.progLeft b 1 cause).trapShown b cause).deliverDue := Only.deliverDue _
  exact State.endedAs_of_shown (by decide : 1 < 256) ((Only.trapShown _ _ _).trans (hdue.mono (by simp) (by simp)))
    ((hdue.benchReg b.isLt (by decide) (by simp)).trans hst) ((hdue.benchReg b.isLt (by decide) (by simp)).trans hjob)

end Sys2Proof.Machine
end

section
/-!
SUPPORT and PROOF. Bench resets and barrier time-outs (R407, R410), and the end of what ran on a bench.
-/
namespace Sys2Proof.Machine

/-! ### A bench's registers are cleared -/

theorem Tab.dflt_bench {q i : Nat} (h1 : 98 ≤ q) (h2 : q < 110) (hi : i < 2 ^ 40) : Tab.dflt (tabKey q i) = 0 := by
  unfold Tab.dflt tabKey
  rw [show (q * 2 ^ 40 + i) / 2 ^ 40 = q by omega]
  interval_cases q <;> rfl

/-- A range of a bench table after it was cleared. -/
theorem State.tab_clearTabRange_bench (s : State) {q i lo hi : Nat} (h1 : 98 ≤ q) (h2 : q < 110) (hhi : hi < 2 ^ 40) (hi' : i < 2 ^ 40) :
    (s.clearTabRange q lo hi).tab q i = if lo ≤ i ∧ i < hi then 0 else s.tab q i := by
  unfold State.tab State.clearTabRange
  dsimp only
  rw [SMap.get_clearRange, Tab.dflt_bench h1 h2 hi']
  refine if_congr ?_ rfl rfl
  unfold tabKey
  omega

/-- The scalar, vector and tile registers of bench `b` cleared. -/
def State.clearBenchRegs (s : State) (b : Nat) : State :=
  ((s.clearTabRange Tab.benchS (64 * b) (64 * b + 64)).clearTabRange Tab.benchV (32 * b) (32 * b + 32)).clearTabRange Tab.benchT (16 * b)
    (16 * b + 16)

section
variable (s : State) {b c i : Nat}

theorem Only.clearBenchRegs : Only [] [Tab.benchS, Tab.benchV, Tab.benchT] s (s.clearBenchRegs b) :=
  ((Only.clearTabRange _ _ _ _ (by simp)).trans (Only.clearTabRange _ _ _ _ (by simp))).trans (Only.clearTabRange _ _ _ _ (by simp))

theorem State.sReg_clearBenchRegs (hc : c < 128) (hi : i < 64) (hb : b < 128) :
    (s.clearBenchRegs b).sReg c i = if c = b then 0 else s.sReg c i := by
  have hrest : (s.clearBenchRegs b).sReg c i = (s.clearTabRange Tab.benchS (64 * b) (64 * b + 64)).sReg c i :=
    (State.tab_clearTabRange_table _ (by decide) (by omega)).trans (State.tab_clearTabRange_table _ (by decide) (by omega))
  refine hrest.trans ((State.tab_clearTabRange_bench _ (by decide) (by decide) (by omega) (by omega)).trans ?_)
  exact if_congr (by omega) rfl rfl

theorem State.vReg_clearBenchRegs (hi : i < 32) (hb : b < 128) : (s.clearBenchRegs b).vReg b i = 0 := by
  have hrest : (s.clearBenchRegs b).vReg b i
      = ((s.clearTabRange Tab.benchS (64 * b) (64 * b + 64)).clearTabRange Tab.benchV (32 * b) (32 * b + 32)).vReg b i :=
    State.tab_clearTabRange_table _ (by decide) (by omega)
  refine hrest.trans ((State.tab_clearTabRange_bench _ (by decide) (by decide) (by omega) (by omega)).trans (if_pos (by omega)))

theorem State.tReg_clearBenchRegs (hi : i < 16) (hb : b < 128) : (s.clearBenchRegs b).tReg b i = 0 :=
  (State.tab_clearTabRange_bench _ (by decide) (by decide) (by omega) (by omega)).trans (if_pos (by omega))

end

/-! ### A reset begins (R410) -/

/-- What a reset ends: the program's banks go, and the bench departs. -/
def State.resetLeft (s : State) (b : Nat) : State := (s.when (s.benchActive b) (·.returnAtEnd b)).depart b 2 0

/-- What a reset writes beside the registers of the bench. -/
def State.resetWords (s : State) (b : Nat) : State :=
  (((s.setReg (Reg.BENCH.PC b) 0).setTab Tab.benchTrigger b 0).setCw b Cw.rxRing 0).setReg (Reg.BENCH.CURRENT_JOB b) 0

/-- What a reset shows: RESETTING, and whether scratch is cleared at its end. -/
def State.resetShown (s : State) (b : Nat) (clear : Bool) : State := (s.setMisc b 2 (ofBool (clear || s.misc b 2 == 1))).setBench b 5

theorem State.resetBench_eq (s : State) (b : Nat) (clear : Bool) :
    s.resetBench b clear = (((s.resetLeft b).clearBenchRegs b).resetWords b).resetShown b clear := rfl

def resetRegs (b : Nat) : List Nat := [Reg.BENCH.STATE b, Reg.BENCH.PC b, Reg.BENCH.CURRENT_JOB b] ++ modeRegs

theorem resetRegs_not {b c a : Nat} (hcb : c ≠ b) (ha : a = 1 ∨ a = 9) : (0x8100 + c) * 256 + a ∉ resetRegs b := by
  intro h
  obtain h | h := List.mem_append.mp h
  · simp only [List.mem_cons, List.not_mem_nil, or_false, Reg.BENCH.STATE, Reg.BENCH.PC, Reg.BENCH.CURRENT_JOB] at h
    omega
  · exact benchReg_notMode (by omega) h

section
variable (s : State) {b : Nat}

theorem Calm.resetLeft (hb : b < 128) : Calm (bankRegs ++ modeRegs) departTabs s (s.resetLeft b) :=
  (Calm.when _ _ (.of (Only.returnAtEnd s b |>.mono (List.Subset.refl _) (List.nil_subset _)))).trans (.depart _ _ _ hb)

theorem State.misc_resetLeft (hb : b < 128) : (s.resetLeft b).misc b 2 = s.misc b 2 := by
  refine (State.misc_depart _ hb (by decide) (by decide) (by decide) (by decide)).trans ?_
  exact (Calm.when (R := bankRegs ++ modeRegs) (T := []) _ _ (.of (Only.returnAtEnd s b))).misc hb (by decide) (by simp)

theorem Only.resetWords (hb : b < 128) : Only (resetRegs b) [Tab.benchTrigger, Tab.benchCw] s (s.resetWords b) :=
  (((Only.setReg _ _ _ (.inl (by simp [resetRegs]))).trans (Only.setTab _ _ _ _ (by omega) (.inl (by simp)))).trans
    (Only.setCw _ _ hb (by decide) (by simp))).trans (Only.setReg _ _ _ (.inl (by simp [resetRegs])))

theorem State.resetWords_shows (hb : b < 128) : (s.resetWords b).reg (Reg.BENCH.PC b) = 0 ∧ (s.resetWords b).tab Tab.benchTrigger b = 0 := by
  unfold State.resetWords
  refine ⟨?_, ?_⟩
  · rw [State.reg_setReg_sub _ _ (by decide) (by decide) (by decide), State.reg_setCw, State.reg_setTab, State.reg_setReg_same]
  · rw [State.tab_setReg]
    have hring : Cw.rxRing < 32 := by decide
    exact (State.tab_setTab_table (t' := Tab.benchTrigger) _ _ (by decide) (by omega) (by omega)).trans (State.tab_setTab_same _ _ _ _)

theorem Only.resetShown (clear : Bool) (hb : b < 128) : Only (resetRegs b) [Tab.benchMisc] s (s.resetShown b clear) :=
  (Only.setMisc _ _ hb (by decide) (by simp)).trans (Only.setBench _ _ _ (by simp [resetRegs]) fun _ hm => List.mem_append_right _ hm)

theorem State.resetShown_shows (clear : Bool) (hb : b < 128) :
    (s.resetShown b clear).benchState b = 5 ∧ (s.resetShown b clear).misc b 2 = ofBool (clear || s.misc b 2 == 1) :=
  ⟨State.benchState_setBench _ _ hb, (State.tab_setBench _ _ _ (by omega) (by decide)).trans (State.misc_setMisc_same _ _ _ _)⟩

end

/-- A reset of a bench begins (R410). -/
theorem State.resetBench_shows (s : State) (b : BenchNo) (clear : Bool) :
    (s.resetBench b clear).deliverDue.benchState b = 5 ∧ (s.resetBench b clear).deliverDue.reg (Reg.BENCH.PC b) = 0
      ∧ (∀ i, i < 64 → (s.resetBench b clear).deliverDue.sReg b i = 0) ∧ (∀ i, i < 32 → (s.resetBench b clear).deliverDue.vReg b i = 0)
      ∧ (∀ i, i < 16 → (s.resetBench b clear).deliverDue.tReg b i = 0) ∧ (s.resetBench b clear).deliverDue.tab Tab.benchTrigger b = 0
      ∧ (s.resetBench b clear).deliverDue.misc b 2 = ofBool (clear || s.misc b 2 == 1) ∧ (s.resetBench b clear).deliverDue.mem = s.mem
      ∧ (s.resetBench b clear).deliverDue.othersKept s b := by
  rw [State.resetBench_eq]
  let l := s.resetLeft b
  let k := l.clearBenchRegs b
  let w := k.resetWords b
  let v := w.resetShown b clear
  change v.deliverDue.benchState b = 5 ∧ v.deliverDue.reg (Reg.BENCH.PC b) = 0 ∧ (∀ i, i < 64 → v.deliverDue.sReg b i = 0)
    ∧ (∀ i, i < 32 → v.deliverDue.vReg b i = 0) ∧ (∀ i, i < 16 → v.deliverDue.tReg b i = 0) ∧ v.deliverDue.tab Tab.benchTrigger b = 0
    ∧ v.deliverDue.misc b 2 = ofBool (clear || s.misc b 2 == 1) ∧ v.deliverDue.mem = s.mem ∧ v.deliverDue.othersKept s b
  have hl : Calm (bankRegs ++ modeRegs) departTabs s l := .resetLeft s b.isLt
  have hk : Only [] [Tab.benchS, Tab.benchV, Tab.benchT] l k := Only.clearBenchRegs l
  have hw : Only (resetRegs b) [Tab.benchTrigger, Tab.benchCw] k w := Only.resetWords k b.isLt
  have hv : Only (resetRegs b) [Tab.benchMisc] w v := Only.resetShown w clear b.isLt
  have hdue : Only [] [] v v.deliverDue := Only.deliverDue _
  have hshown : Only (resetRegs b) [Tab.benchTrigger, Tab.benchCw, Tab.benchMisc] k v.deliverDue :=
    ((hw.mono (List.Subset.refl _) (by simp)).trans (hv.mono (List.Subset.refl _) (by simp))).trans (hdue.mono (List.nil_subset _) (List.nil_subset _))
  obtain ⟨hpc, htrig⟩ := k.resetWords_shows b.isLt
  obtain ⟨hst, hmisc⟩ := w.resetShown_shows clear b.isLt
  have hmiscw : w.misc b 2 = s.misc b 2 := (hw.misc b.isLt (by decide) (by decide)).trans
    ((hk.misc b.isLt (by decide) (by decide)).trans (s.misc_resetLeft b.isLt))
  have hpcv : v.reg (Reg.BENCH.PC b) = w.reg (Reg.BENCH.PC b) := (State.reg_setBench_other _ (quietReg_bench b.isLt (by decide))
    (regSub_ne (by decide) (by decide) (by decide)) (benchReg_notMode (by decide))).trans (State.reg_setMisc _ _ _ _ _)
  refine ⟨?_, ?_, fun i hi => ?_, fun i hi => ?_, fun i hi => ?_, ?_, ?_, ?_, fun c hc hcb => ⟨?_, ?_, fun i hi => ?_⟩⟩
  · exact (hdue.benchReg b.isLt (by decide) (by simp)).trans hst
  · exact (hdue.benchReg b.isLt (by decide) (by simp)).trans (hpcv.trans hpc)
  · exact (hshown.sReg (by decide) b.isLt hi).trans ((l.sReg_clearBenchRegs b.isLt hi b.isLt).trans (if_pos rfl))
  · exact (hshown.vReg (by decide) b.isLt hi).trans (l.vReg_clearBenchRegs hi b.isLt)
  · exact (hshown.tReg (by decide) b.isLt hi).trans (l.tReg_clearBenchRegs hi b.isLt)
  · exact (hdue.tabs _ _ (by omega) (by simp) (by decide)).trans ((hv.tabs _ _ (by omega) (by decide) (by decide)).trans htrig)
  · exact (hdue.misc b.isLt (by decide) (by simp)).trans (hmisc.trans (by rw [hmiscw]))
  · exact hshown.mem.trans (hk.mem.trans hl.mem)
  · exact (hshown.benchReg hc (by decide) (resetRegs_not hcb (.inl rfl))).trans ((hk.benchReg hc (by decide) (by simp)).trans
      (hl.benchReg hc (by decide) (by decide) (benchReg_notBank hc (by decide))))
  · exact (hshown.benchReg hc (by decide) (resetRegs_not hcb (.inr rfl))).trans ((hk.benchReg hc (by decide) (by simp)).trans
      (hl.benchReg hc (by decide) (by decide) (benchReg_notBank hc (by decide))))
  · exact (hshown.sReg (by decide) hc hi).trans ((l.sReg_clearBenchRegs hc hi b.isLt).trans ((if_neg hcb).trans (hl.sReg hc hi (by decide))))

/-! ### The commands of a bench (R409, R410) -/

theorem savedSub_benchCommand (b : BenchNo) : savedSub (0x8100 + b) 0x02 = false := by
  revert b
  decide +kernel

theorem benchCommand_halt (b : Nat) (s : State) : benchCommandEffect b 2 s = Res.done (s.haltBench b) := rfl

theorem benchCommand_fenced {b v : Nat} {s : State} (hv : v = 3 ∨ v = 4) (h : s.benchState b = 4) :
    benchCommandEffect b v s = Res.fail s Code.resourceOwned := by
  unfold benchCommandEffect
  rw [if_neg (by omega), if_neg (by omega), if_pos h]

theorem benchCommand_reset {b v : Nat} {s : State} (hv : v = 3 ∨ v = 4) (h : s.benchState b ≠ 4) :
    benchCommandEffect b v s = Res.done (s.resetBench b (v == 4)) := by
  unfold benchCommandEffect
  rw [if_neg (by omega), if_neg (by omega), if_neg h]

/-- A command of a bench that is carried out. -/
theorem benchCommand_next {s t : State} {w : SessionNo} {b : BenchNo} {v : Nat} (hp : s.permits w (0x8100 + b) 0x02 v = true)
    (heff : benchCommandEffect b v s = Res.done t) : (s.hostWrite w (0x8100 + b) 0x02 v (benchCommandEffect b v)).next = .next t.deliverDue := by
  have hn := State.hostWrite_next (eff := benchCommandEffect b v) hp (by rw [heff]; rfl)
  rw [heff, savedSub_benchCommand] at hn
  exact hn

/-- A reset that a fence refuses. -/
theorem benchCommand_refused {s : State} {w : SessionNo} {b : BenchNo} {v : Nat} (hp : s.permits w (0x8100 + b) 0x02 v = true)
    (heff : benchCommandEffect b v s = Res.fail s Code.resourceOwned) :
    (s.hostWrite w (0x8100 + b) 0x02 v (benchCommandEffect b v)).next = .next s.deliverDue := by
  have hcode : (benchCommandEffect b v s).code ≠ Code.ok := by rw [heff]; exact (by decide : Code.resourceOwned ≠ Code.ok)
  have hn := State.hostWrite_next_refused hp hcode
  rw [heff] at hn
  exact hn

/-- RESET and RESET_CLEAR write COMMAND of their bench. -/
theorem exec_benchReset {s : State} {w : SessionNo} {b : BenchNo} {c : Instr} {v : Nat}
    (h : (c = .benchReset w b ∧ v = 3) ∨ (c = .benchResetClear w b ∧ v = 4)) :
    exec c s = (s.hostWrite w (0x8100 + b) 0x02 v (benchCommandEffect b v)).next := by
  obtain ⟨rfl, rfl⟩ | ⟨rfl, rfl⟩ := h <;> rfl

theorem execRunLimit_traps {s : State} {b : BenchNo} (hon : s.coreOn = true) (hact : s.benchActive b = true) (hlim : s.misc b 0 ≠ 0) :
    exec (.runLimit b) s = .next (s.trapBench b 5).deliverDue :=
  if_pos (by rw [hon, hact]; simpa using hlim)

/-! ### The end of a reset (R410) -/

/-- Scratch of bench `b` is cleared where the reset asked for it. -/
def State.resetScratch (s : State) (b : Nat) : State := s.when (s.misc b 2 == 1) (·.zeroBytes (scratchAddr b 0) (scratchAddr b scratchSize))

theorem execBenchResetDone_other {s : State} {b : BenchNo} (h : s.benchState b ≠ 5) : exec (.benchResetDone b) s = .next s := if_neg h

theorem execBenchResetDone_resetting {s : State} {b : BenchNo} (h : s.benchState b = 5) :
    exec (.benchResetDone b) s = .next (((s.resetScratch b).setMisc b 2 0).becomeIdle b).deliverDue := if_pos h

section
variable (s : State) {b : Nat}

theorem OnlyMem.resetScratch {R T : List Nat} : OnlyMem R T (scratchAddr b 0) (scratchAddr b scratchSize) s (s.resetScratch b) :=
  OnlyMem.when _ _ _ (.zeroBytes s (Nat.le_refl _) (Nat.le_refl _))

theorem State.resetScratch_asked (h : s.misc b 2 = 1) {a : Nat} (ha : a < scratchSize) : (s.resetScratch b).byte (scratchAddr b a) = 0 := by
  unfold State.resetScratch
  rw [beq_iff_eq.mpr h]
  refine (State.byte_zeroBytes s _ _ _).trans (if_pos ?_)
  unfold scratchAddr
  omega

theorem State.resetScratch_kept (h : s.misc b 2 ≠ 1) : s.resetScratch b = s := by
  unfold State.resetScratch
  rw [beq_eq_false_iff_ne.mpr h]
  rfl

/-- A start writes word 0 of the bench alone. -/
theorem State.misc_programSet {k : Nat} (cause entry ns : Nat) (hb : b < 128) (hk : k < 16) (h0 : k ≠ 0) :
    (s.programSet b cause entry ns).misc b k = s.misc b k := by
  have hstacks : Only [] [Tab.benchRet, Tab.benchLoop] s ((s.setRetStack b []).setLoopStack b []) :=
    (Only.setRetStack _ _ hb (by simp)).trans (Only.setLoopStack _ _ hb (by simp))
  have hwords (u : State) : Only [] [Tab.benchCw] u (((u.setCw b Cw.cause cause).setCw b Cw.startTime (packTime ns)).setCw b Cw.jobSeq 0) :=
    ((Only.setCw _ _ hb (by decide) (by simp)).trans (Only.setCw _ _ hb (by decide) (by simp))).trans (Only.setCw _ _ hb (by decide) (by simp))
  unfold State.programSet
  dsimp only
  refine (State.misc_setReg _ _ _ _ _).trans (((hwords _).misc hb hk (by decide)).trans ?_)
  exact (State.misc_setMisc_other _ _ (by decide) hk (.inr h0)).trans ((State.misc_setReg _ _ _ _ _).trans (hstacks.misc hb hk (by decide)))

theorem State.misc_startTrigger {k : Nat} (cycle ns : Nat) (hb : b < 128) (hk : k < 16) (h0 : k ≠ 0) :
    (s.startTrigger b cycle ns).misc b k = s.misc b k := by
  have hcounted (u : State) : Only [] [Tab.benchCw] u ((u.setCw b Cw.cycleNo cycle).count (Ctr.bench b 0)) :=
    (Only.setCw _ _ hb (by decide) (by simp)).trans (Only.benchCounted _ _ _ hb (by decide))
  unfold State.startTrigger
  rw [State.startProgram_eq]
  exact ((hcounted _).misc hb hk (by decide)).trans ((State.tab_setBench _ _ _ (by omega) (by decide)).trans (s.misc_programSet 1 _ ns hb hk h0))

theorem State.misc_becomeIdle {k : Nat} (hb : b < 128) (hk : k < 16) (h0 : k ≠ 0) : (s.becomeIdle b).misc b k = s.misc b k := by
  have hidle : ((s.setBench b 0).setReg (Reg.BENCH.CURRENT_JOB b) 0).misc b k = s.misc b k :=
    (State.misc_setReg _ _ _ _ _).trans (State.tab_setBench _ _ _ (by omega) (by decide))
  unfold State.becomeIdle
  dsimp only
  split
  · exact hidle
  · exact (State.misc_startTrigger _ _ _ hb hk h0).trans ((State.tab_setTab_table _ _ (by decide) (by omega) (by omega)).trans hidle)

theorem startRegs_other {b c a : Nat} (hcb : c ≠ b) (ha : a = 1 ∨ a = 9) : (0x8100 + c) * 256 + a ∉ startRegs b := resetRegs_not hcb ha

end

/-- The end of a reset (R410). -/
theorem execBenchResetDone_shows {s : State} {b : BenchNo} (h : s.benchState b = 5) : ∃ t, exec (.benchResetDone b) s = .next t ∧ t.misc b 2 = 0
    ∧ (s.misc b 2 = 1 → ∀ a, a < scratchSize → t.byte (scratchAddr b a) = 0) ∧ (s.misc b 2 ≠ 1 → t.mem = s.mem)
    ∧ (s.tab Tab.benchTrigger b = 0 → t.benchState b = 0
        ∧ OnlyMem ([Reg.BENCH.STATE b, Reg.BENCH.CURRENT_JOB b] ++ modeRegs) [Tab.benchMisc] (scratchAddr b 0) (scratchAddr b scratchSize) s t)
    ∧ (s.tab Tab.benchTrigger b ≠ 0 → t.benchState b = 1 ∧ t.reg (Reg.BENCH.PC b) = s.reg (Reg.BENCH.TRIGGER_ENTRY b))
    ∧ t.othersKept s b := by
  let z := s.resetScratch b
  let u := z.setMisc b 2 0
  let v := u.becomeIdle b
  have hz : OnlyMem [] [] (scratchAddr b 0) (scratchAddr b scratchSize) s z := OnlyMem.resetScratch s
  have hu : Only [] [Tab.benchMisc] z u := Only.setMisc _ _ b.isLt (by decide) (by simp)
  have hdue : Only [] [] v v.deliverDue := Only.deliverDue _
  obtain ⟨hidle, hstart, honly⟩ := u.becomeIdle_shows b.isLt
  have hvis : ∀ k, quietReg k = true → u.reg k = s.reg k := fun k hq =>
    (hu.regs k (by simp) hq).trans (hz.reg hq (by simp))
  have htab : ∀ q i, i < 2 ^ 40 → q ≠ Tab.benchMisc → quietTab q = true → u.tab q i = s.tab q i := fun q i hi hq ht =>
    (hu.tabs q i hi (by simpa using hq) ht).trans (hz.2.tabs q i hi (by simp) ht)
  have htrig : u.tab Tab.benchTrigger b = s.tab Tab.benchTrigger b := htab _ _ (by omega) (by decide) (by decide)
  rw [htrig] at hidle hstart
  have hmem : v.deliverDue.mem = z.mem := hdue.mem.trans (honly.mem.trans hu.mem)
  refine ⟨v.deliverDue, execBenchResetDone_resetting h, ?_, fun h1 a ha => ?_, fun h1 => ?_, fun h0 => ?_, fun h0 => ?_, fun c hc hcb => ⟨?_, ?_, fun i hi => ?_⟩⟩
  · exact (hdue.misc b.isLt (by decide) (by simp)).trans ((u.misc_becomeIdle b.isLt (by decide) (by decide)).trans (State.misc_setMisc_same _ _ _ _))
  · unfold State.byte
    rw [hmem]
    exact s.resetScratch_asked h1 ha
  · exact hmem.trans (congrArg State.mem (s.resetScratch_kept h1))
  · obtain ⟨hst, -, hown⟩ := hidle h0
    refine ⟨(hdue.benchReg b.isLt (by decide) (by simp)).trans hst, ?_⟩
    exact (OnlyMem.resetScratch s).trans (OnlyMem.of ((hu.mono (List.nil_subset _) (List.Subset.refl _)).trans
      ((hown.mono (List.Subset.refl _) (List.nil_subset _)).trans (hdue.mono (List.nil_subset _) (List.nil_subset _)))) _ _)
  · obtain ⟨hst, hpc, -⟩ := hstart h0
    exact ⟨(hdue.benchReg b.isLt (by decide) (by simp)).trans hst,
      (hdue.benchReg b.isLt (by decide) (by simp)).trans (hpc.trans (hvis _ (quietReg_bench b.isLt (by decide))))⟩
  · exact (hdue.benchReg hc (by decide) (by simp)).trans ((honly.benchReg hc (by decide) (startRegs_other hcb (.inl rfl))).trans
      (hvis _ (quietReg_bench hc (by decide))))
  · exact (hdue.benchReg hc (by decide) (by simp)).trans ((honly.benchReg hc (by decide) (startRegs_other hcb (.inr rfl))).trans
      (hvis _ (quietReg_bench hc (by decide))))
  · exact (hdue.sReg (by simp) hc hi).trans ((honly.sReg (by decide) hc hi).trans (htab _ _ (by omega) (by decide) (by decide)))

/-! ### A barrier's time-out (R407) -/

/-- What a time-out shows of a released bench. -/
def State.shownTimedOut (b : Nat) (s : State) : State := (s.setStatus b 2).benchEvent b 3

/-- Barrier `k` released by its time-out. -/
def State.timedOut (s : State) (k : Nat) : State := (s.releaseBarrier k State.shownTimedOut).bump (Reg.BARRIER.TIMEOUTS k) 32

theorem execBarrierTimeout_eq (k : Fin 32) (s : State) : exec (.barrierTimeout k) s
    = if s.reg (Reg.BARRIER.TIMEOUT_US k) = 0 ∨ s.reg (Reg.BARRIER.ARRIVED k) = 0 then .next s else .next (s.timedOut k).deliverDue := rfl

section
variable (s : State) {b d : Nat}

/-- A register of neither the bench's state nor its flags. -/
theorem State.reg_shownTimedOut {q : Nat} (hq : quietReg q = true) (h : q ≠ Reg.BENCH.EVENTS b) (h3 : q ≠ Reg.BENCH.EVENTS b + 1 + 3) :
    (State.shownTimedOut b s).reg q = s.reg q :=
  (State.reg_event_other _ _ _ _ _ hq h h3).trans (State.reg_setCw _ _ _ _ _)

/-- A table element that is not the bench's status. -/
theorem State.tab_shownTimedOut {q i : Nat} (hi : i < 2 ^ 40) (h : tabKey q i ≠ tabKey Tab.benchCw (32 * b + Cw.status)) (hint : q ≠ Tab.intState)
    (hd : q ≠ Tab.attnDue) : (State.shownTimedOut b s).tab q i = s.tab q i :=
  (State.tab_event_other _ _ _ _ hi hint hd).trans ((State.tab_setTab _ _ _ _ _ _).trans (if_neg h))

/-- The registers of the barriers stay as a bench is released. -/
theorem State.barrierReg_timedOut {k a : Nat} (hk : k < 32) (ha : a < 256) :
    (State.shownTimedOut b (s.released b)).reg ((0x8010 + k) * 256 + a) = s.reg ((0x8010 + k) * 256 + a) :=
  (State.reg_shownTimedOut _ (quietReg_barrier hk ha) (by simp only [Reg.BENCH.EVENTS]; omega) (by simp only [Reg.BENCH.EVENTS]; omega)).trans
    (s.reg_released_other (quietReg_barrier hk ha) (barrierReg_notMode hk ha) (by simp only [Reg.BENCH.STATE]; omega))

/-- A bench shows that a time-out released it. -/
def State.showsTimeout (s : State) (b : Nat) : Prop := bit (s.cw b Cw.status) 2 = true ∧ bit (s.reg (Reg.BENCH.EVENTS b)) 3 = true

theorem State.showsTimeout_same (hd : d < 128) : (State.shownTimedOut d s).showsTimeout d := by
  refine ⟨?_, State.bit_benchEvent _ _ hd⟩
  have hcw : (State.shownTimedOut d s).cw d Cw.status = setBit (s.cw d Cw.status) 2 true := by
    have hst : Cw.status < 32 := by decide
    exact (State.tab_event_other _ _ _ _ (by omega) (by decide) (by decide)).trans (State.cw_setCw_same _ _ _ _)
  rw [hcw, bit_setBit]

theorem State.showsTimeout_other (hd : d < 128) (h : d ≠ b) (hs : s.showsTimeout d) : (State.shownTimedOut b (s.released b)).showsTimeout d := by
  have hst : Cw.status < 32 := by decide
  obtain ⟨hcw, hev⟩ := hs
  refine ⟨?_, ?_⟩
  · have hkeep : (State.shownTimedOut b (s.released b)).cw d Cw.status = s.cw d Cw.status :=
      (State.tab_shownTimedOut _ (by omega) (by unfold tabKey; omega) (by decide) (by decide)).trans
        ((State.cw_setBench _ _ _ hd hst).trans ((State.tab_setTab _ _ _ _ _ _).trans
          (if_neg (by simp only [tabKey, Tab.benchMisc, Tab.benchCw]; omega))))
    rw [hkeep, hcw]
  · have hkeep : (State.shownTimedOut b (s.released b)).reg (Reg.BENCH.EVENTS d) = s.reg (Reg.BENCH.EVENTS d) :=
      (State.reg_shownTimedOut _ (quietReg_bench hd (by decide)) (by simp only [Reg.BENCH.EVENTS]; omega) (by simp only [Reg.BENCH.EVENTS]; omega)).trans
        (s.reg_released_other (quietReg_bench hd (by decide)) (benchReg_notMode (by decide)) (by simp only [Reg.BENCH.STATE]; omega))
    rw [hkeep, hev]

/-- The state and the arrival of a bench stay as a time-out is shown. -/
theorem State.bench_shownTimedOut (hd : d < 128) (hb : b < 2 ^ 36) :
    (State.shownTimedOut b s).benchState d = s.benchState d ∧ (State.shownTimedOut b s).misc d 6 = s.misc d 6 := by
  have hst : Cw.status < 32 := by decide
  exact ⟨State.reg_shownTimedOut _ (quietReg_bench hd (by decide)) (by simp only [Reg.BENCH.EVENTS, Reg.BENCH.STATE]; omega) (by simp only [Reg.BENCH.EVENTS, Reg.BENCH.STATE]; omega),
    State.tab_shownTimedOut _ (by omega) (by simp only [tabKey, Tab.benchMisc, Tab.benchCw]; omega) (by decide) (by decide)⟩

end

/-- The registers of the benches are not those of the barriers. -/
theorem benchReg_notBarrier {k d a : Nat} (hd : d < 128) (ha : a < 256) (hk : k < 32) :
    (0x8100 + d) * 256 + a ∉ [Reg.BARRIER.ARRIVED k, Reg.BARRIER.GENERATION k, Reg.BARRIER.LAST_RELEASE k, Reg.BENCH_DEVICE.RAMP_ROTATION] := by
  simp only [List.mem_cons, List.not_mem_nil, or_false, Reg.BARRIER.ARRIVED, Reg.BARRIER.GENERATION, Reg.BARRIER.LAST_RELEASE,
    Reg.BENCH_DEVICE.RAMP_ROTATION]
  omega

theorem State.timedOut_eq (s : State) (k : Nat) : s.timedOut k
    = ((s.forAll (s.arrivedAt k) fun u b => State.shownTimedOut b (u.released b)).barrierPassed k).bump (Reg.BARRIER.TIMEOUTS k) 32 := rfl

/-- A barrier's time-out (R407). -/
theorem execBarrierTimeout_shows {s : State} {k : Fin 32} (hwf : s.wf = true) (ht : s.reg (Reg.BARRIER.TIMEOUT_US k) ≠ 0)
    (ha : s.reg (Reg.BARRIER.ARRIVED k) ≠ 0) : ∃ t, exec (.barrierTimeout k) s = .next t ∧ t.reg (Reg.BARRIER.ARRIVED k) = 0
      ∧ t.reg (Reg.BARRIER.GENERATION k) = (s.reg (Reg.BARRIER.GENERATION k) + 1) % 2 ^ 32
      ∧ t.reg (Reg.BARRIER.TIMEOUTS k) = (s.reg (Reg.BARRIER.TIMEOUTS k) + 1) % 2 ^ 32
      ∧ (∀ b, b < 128 → s.misc b 6 = k + 1 → t.benchState b = 1 ∧ t.misc b 6 = 0 ∧ bit (t.cw b Cw.status) 2 = true
          ∧ bit (t.reg (Reg.BENCH.EVENTS b)) 3 = true)
      ∧ (∀ b, b < 128 → s.misc b 6 ≠ k + 1 → t.benchState b = s.benchState b ∧ t.misc b 6 = s.misc b 6) := by
  let f : State → Nat → State := fun u b => State.shownTimedOut b (u.released b)
  let u := s.forAll (s.arrivedAt k) f
  let v := u.barrierPassed k
  have hv : s.releaseBarrier k State.shownTimedOut = v := s.releaseBarrier_eq k _
  have hpass := Only.barrierPassed u k
  have hbump : Only [Reg.BARRIER.TIMEOUTS k] [] v (s.timedOut k) := by
    rw [State.timedOut_eq]
    exact Only.bump _ _ _ _ (.inl (by simp))
  have hdue : Only [] [] (s.timedOut k) (s.timedOut k).deliverDue := Only.deliverDue _
  have hlast : Only [Reg.BARRIER.TIMEOUTS k] [] v (s.timedOut k).deliverDue := hbump.trans (hdue.mono (List.nil_subset _) (List.Subset.refl _))
  have hne {a a' : Nat} (ha : a < 256) (ha' : a' < 256) (h : a ≠ a') : (0x8010 + k.1) * 256 + a ≠ (0x8010 + k.1) * 256 + a' := regSub_ne ha ha' h
  have hbench {d a : Nat} (hd : d < 128) (ha : a < 256) : (s.timedOut k).deliverDue.reg ((0x8100 + d) * 256 + a) = v.reg ((0x8100 + d) * 256 + a) :=
    hlast.benchReg hd ha (by simp only [List.mem_singleton, Reg.BARRIER.TIMEOUTS]; omega)
  have hkeep {a : Nat} (ha : a < 256) : u.reg ((0x8010 + k.1) * 256 + a) = s.reg ((0x8010 + k.1) * 256 + a) :=
    State.view_forAll (g := fun u => u.reg ((0x8010 + k.1) * 256 + a)) (fun u b _ => State.barrierReg_timedOut u k.isLt ha) s
  have hbarrier {a : Nat} (ha : a < 256) (h5 : a ≠ 5) : (s.timedOut k).deliverDue.reg ((0x8010 + k.1) * 256 + a) = v.reg ((0x8010 + k.1) * 256 + a) :=
    hlast.regs _ (by simpa [Reg.BARRIER.TIMEOUTS] using h5) (quietReg_barrier k.isLt ha)
  obtain ⟨harr, hgen, -⟩ := u.barrierPassed_shows k.isLt
  refine ⟨(s.timedOut k).deliverDue, (execBarrierTimeout_eq k s).trans (if_neg (not_or.mpr ⟨ht, ha⟩)),
    (hbarrier (by decide) (by decide)).trans harr, ?_, ?_, fun b hb hm => ?_, fun b hb hm => ?_⟩
  · exact (hbarrier (by decide) (by decide)).trans (hgen.trans (by rw [hkeep (by decide)]))
  · have hcount : (s.timedOut k).reg (Reg.BARRIER.TIMEOUTS k) = (v.reg (Reg.BARRIER.TIMEOUTS k) + 1) % 2 ^ 32 := by
      rw [State.timedOut_eq, State.reg_bump, if_pos rfl]
    have hpassed : v.reg (Reg.BARRIER.TIMEOUTS k) = s.reg (Reg.BARRIER.TIMEOUTS k) :=
      (hpass.regs _ (by
        simp only [List.mem_cons, List.not_mem_nil, or_false, Reg.BARRIER.ARRIVED, Reg.BARRIER.GENERATION, Reg.BARRIER.LAST_RELEASE,
          Reg.BENCH_DEVICE.RAMP_ROTATION]
        omega) (quietReg_barrier k.isLt (by decide))).trans (hkeep (by decide))
    rw [hdue.regs _ (by simp) (quietReg_barrier k.isLt (by decide)), hcount, hpassed]
  · obtain ⟨hrel, -⟩ := State.releaseBarrier_benches (k := k.1) hwf hb (f := State.shownTimedOut) fun c u hc => u.bench_shownTimedOut hb hc
    rw [hv] at hrel
    obtain ⟨hst, hmisc⟩ := hrel hm
    obtain ⟨hcw, hev⟩ : u.showsTimeout b := by
      refine State.forAll_settles (f := f) (Q := fun u => u.showsTimeout b) ((State.mem_arrivedAt hwf hb).mpr hm)
        (fun u => (u.released b).showsTimeout_same hb) (fun u c _ hu => ?_) s
      by_cases hbc : b = c
      · subst hbc
        exact (u.released b).showsTimeout_same hb
      · exact u.showsTimeout_other hb hbc hu
    have hst8 : Cw.status < 32 := by decide
    refine ⟨(hbench hb (by decide)).trans hst, (hlast.misc hb (by decide) (by simp)).trans hmisc, ?_, ?_⟩
    · rw [hlast.cw hb hst8 (by simp), hpass.cw hb hst8 (by simp)]
      exact hcw
    · rw [hbench hb (by decide), hpass.benchReg hb (by decide) (benchReg_notBarrier hb (by decide) k.isLt)]
      exact hev
  · obtain ⟨-, hrest⟩ := State.releaseBarrier_benches (k := k.1) hwf hb (f := State.shownTimedOut) fun c u hc => u.bench_shownTimedOut hb hc
    rw [hv] at hrest
    obtain ⟨hst, hmisc⟩ := hrest hm
    exact ⟨(hbench hb (by decide)).trans hst, (hlast.misc hb (by decide) (by simp)).trans hmisc⟩

end Sys2Proof.Machine
end

section
/-! O41 settled. -/
open Sys2Proof Sys2Proof.Machine

/-- Settles O41, command by command: the departure, then what each end shows (R402, R403, R407 to R410). -/
theorem benchesEnd : Obligations.BenchesEnd := by
  unfold Obligations.BenchesEnd
  refine ⟨fun s w c hp hwf => ⟨execCancelClass_high hp, execCancelClass_shows hp hwf⟩, fun s w b hp => ⟨fun h => ?_, fun h => ?_⟩,
    fun s b hon hact hlim => ?_, fun s w b c v hc hp => ⟨fun h => ?_, fun h => ?_⟩, fun s b => ⟨execBenchResetDone_other, execBenchResetDone_shows⟩,
    fun s k hwf ht ha => execBarrierTimeout_shows hwf ht ha⟩
  · have hn := benchCommand_next hp (benchCommand_halt b s)
    rw [State.haltBench_inactive h] at hn
    exact hn
  · exact ⟨_, benchCommand_next hp (benchCommand_halt b s), State.haltBench_ends h⟩
  · obtain ⟨hended, hothers⟩ := s.trapBench_ends (b := b) 5
    obtain ⟨-, hcause, htpc, -, -, hev, -⟩ := s.trapBench_trapped 5 b.isLt
    exact ⟨_, execRunLimit_traps hon hact hlim, hended, hcause, htpc, hev, hothers⟩
  · exact (exec_benchReset hc).trans (benchCommand_refused hp (benchCommand_fenced (by omega) h))
  · obtain ⟨hst, hpc, hs, hv, ht, htrig, hmisc, hmem, hothers⟩ := s.resetBench_shows b (v == 4)
    refine ⟨_, (exec_benchReset hc).trans (benchCommand_next hp (benchCommand_reset (by omega) h)), hst, hpc, hs, hv, ht, htrig, ?_, hmem, hothers⟩
    rw [hmisc]
    simp [ofBool]

end

section
/-!
SUPPORT. The memory unit of a bench: its traps, and loads and stores (R390, R391, R428).
-/
namespace Sys2Proof.Machine

/-! ### The course of a memory operation -/

section
variable {s u : State} {o : MemOp} {b : BenchNo} {x : MemSlot} {imm : Fin 262144} {e : BenchEnv}

theorem exec_mem : exec (o.command b x imm e) s = State.done (s.unitMem b o x imm e) := by
  cases o <;> rfl

theorem State.issues_ok (h : s.issues b o x) : (!s.benchRuns b || !memOk o x) = false := by
  obtain ⟨hrun, hok⟩ := h
  rw [hrun, hok]
  rfl

theorem exec_mem_idle (h : ¬s.issues b o x) : exec (o.command b x imm e) s = .next s.deliverDue := by
  have hstop : (!s.benchRuns b || !memOk o x || s.memStalls b o) = true := by
    unfold State.issues at h
    cases hrun : s.benchRuns b
    · rfl
    · cases hok : memOk o x
      · rfl
      · exact absurd ⟨hrun, hok⟩ h
  rw [exec_mem]
  unfold State.unitMem
  rw [hstop]
  rfl

theorem exec_mem_stalls (hs : s.memStalls b o = true) : exec (o.command b x imm e) s = .next s.deliverDue := by
  rw [exec_mem]
  unfold State.unitMem
  rw [hs, Bool.or_true]
  rfl

/-- Only FSEND stalls. -/
theorem State.memStalls_other (h : o ≠ .fsend) : s.memStalls b o = false := by
  unfold State.memStalls
  rw [beq_eq_false_iff_ne.mpr h, Bool.false_and]

theorem exec_mem_runs (h : s.issues b o x) (hs : s.memStalls b o = false) (ht : s.memTrap b o x imm e = none) (hu : s.runMem s b o x imm e = u) :
    exec (o.command b x imm e) s = .next u.deliverDue := by
  rw [exec_mem]
  unfold State.unitMem
  rw [State.issues_ok h, hs, ht, ← hu]
  rfl

theorem exec_mem_trapState {c : Nat} (h : s.issues b o x) (hs : s.memStalls b o = false) (ht : s.memTrap b o x imm e = some (u, c)) :
    exec (o.command b x imm e) s = .next (u.trapBench b c).deliverDue := by
  rw [exec_mem]
  unfold State.unitMem
  rw [State.issues_ok h, hs, ht]
  rfl

theorem exec_mem_traps {c : Nat} (h : s.issues b o x) (hs : s.memStalls b o = false) (ht : s.memTrap b o x imm e = some (s, c)) :
    ∃ t, exec (o.command b x imm e) s = .next t ∧ t.trapped s b c :=
  ⟨_, exec_mem_trapState h hs ht, State.trapBench_trapped s c b.isLt⟩

/-! ### Errors of the pool -/

/-- The traps that `poolTrap` gives. -/
theorem State.poolTrap_refused {b p n : Nat} (h : s.mayAccess b p n = false) : s.poolTrap b p n e = some (s, 3) := by
  unfold State.poolTrap
  rw [h]
  rfl

theorem State.poolTrap_none {b p n : Nat} (h : s.mayAccess b p n = true) (he : e.poolBad = 0) : s.poolTrap b p n e = none := by
  unfold State.poolTrap State.poolError
  rw [h, he]
  rfl

theorem State.poolTrap_fault {b p n w : Nat} (h : s.mayAccess b p n = true) (he : e.poolBad = w + 1) (hlo : p / 8 * 8 ≤ w) (hhi : w < p + n) :
    s.poolTrap b p n e = some (s.faultBank (w / 131072) (w % 131072 / 8), 3) := by
  have hmet : ¬(w + 1 = 0 ∨ w + 1 - 1 < p / 8 * 8 ∨ p + n ≤ w + 1 - 1 ∨ (!s.mayAccess b p n) = true) := by
    rw [h]
    simp only [Bool.not_true, Bool.false_eq_true, or_false]
    omega
  unfold State.poolTrap State.poolError
  rw [he, if_neg hmet, h]
  rfl

/-- The tables and registers that a faulted bank writes beside those of the bank. -/
theorem Calm.faultBank (s : State) {k : Nat} (word : Nat) (hk : k < 512) : Calm (bankRegs ++ modeRegs) [] s (s.faultBank k word) := by
  have hcount (u : State) : Only (bankRegs ++ modeRegs) [] u (u.count (Ctr.poolBank k 1)) := Only.count _ _ _ (by unfold Ctr.poolBank; omega)
  have hlog (u : State) : Calm (bankRegs ++ modeRegs) [] u (u.logFault 0x0A 1 1 (0x1400 + k) 0xFF (faultData 6 (k * 2 ^ 32 + word))) := by
    have honly := Only.logFault (R := [Reg.FAULT_LOG.LOG_HEAD, Reg.FAULT_LOG.PERSISTED_HEAD]) (T := [Tab.faultLog, Tab.faultPersisted]) u 0x0A 1 1
      (0x1400 + k) 0xFF (faultData 6 (k * 2 ^ 32 + word)) (by simp) (by simp) (by simp) (by simp)
    have hcalm := Calm.of honly
    exact ⟨hcalm.mem, fun q _ hc => hcalm.regs q (by
      have := hc.1
      simp only [List.mem_cons, List.not_mem_nil, or_false, Reg.FAULT_LOG.LOG_HEAD, Reg.FAULT_LOG.PERSISTED_HEAD]
      omega) hc, fun q i h1 h2 _ hi => hcalm.tabs q i h1 h2 (by
      simp only [List.mem_cons, List.not_mem_nil, or_false, Tab.faultLog, Tab.faultPersisted]
      omega) hi⟩
  unfold State.faultBank
  exact ((Calm.of ((Only.setBank s 5 ownerNone hk).trans (hcount _))).trans (.of (Only.bankEvent _ hk (by decide)))).trans (hlog _)

/-- What has trapped after a calm change has trapped. -/
theorem State.trapped.of_calm {s u t : State} {b c : Nat} (h : t.trapped u b c) (hb : b < 128) (hu : Calm (bankRegs ++ modeRegs) [] s u) :
    t.trapped s b c := by
  obtain ⟨hst, hcause, htpc, hpc, hjob, hev, hsend, hmem, hregs, hothers⟩ := h
  have hbench {c a : Nat} (hc : c < 128) (ha : a < 256) (h3 : a ≠ 3) : u.reg ((0x8100 + c) * 256 + a) = s.reg ((0x8100 + c) * 256 + a) :=
    hu.benchReg hc ha h3 (benchReg_notBank hc ha)
  refine ⟨hst, hcause, htpc.trans (hbench hb (by decide) (by decide)), hpc.trans (hbench hb (by decide) (by decide)), hjob, hev, hsend, hmem.trans hu.mem,
    fun c i hc => ⟨fun hi => ?_, fun hi => ?_, fun hi => ?_⟩, fun c hc hcb => ?_⟩
  · exact ((hregs c i hc).1 hi).trans (hu.sReg hc hi (by simp))
  · exact ((hregs c i hc).2.1 hi).trans (hu.vReg hc hi (by simp))
  · exact ((hregs c i hc).2.2 hi).trans (hu.tReg hc hi (by simp))
  · exact ⟨((hothers c hc hcb).1).trans (hbench hc (by decide) (by decide)), ((hothers c hc hcb).2).trans (hbench hc (by decide) (by decide))⟩

end

/-! ### A bank that an error takes keeps its state through the trap -/

section
variable (s : State) {j k a st owner : Nat}

/-- State and owner of a bank after one was set. -/
theorem State.bankReg_setBank (hk : k < 512) (ha : a = 1 ∨ a = 2) :
    (s.setBank j st owner).reg ((0x9200 + k) * 256 + a) = if k = j then (if a = 1 then st else owner) else s.reg ((0x9200 + k) * 256 + a) := by
  have hcount : (0x9200 + k) * 256 + a ≠ Reg.POOL_BANK.HANDOVERS j := by
    simp only [Reg.POOL_BANK.HANDOVERS]
    omega
  unfold State.setBank State.refreshFaulty
  rw [State.reg_setCause _ _ _ _ (quietReg_bank hk (by omega)) (bankReg_notMode (by omega)), State.reg_setReg, State.reg_setReg, State.reg_when]
  have howner : (0x9200 + k) * 256 + a = Reg.POOL_BANK.OWNER j ↔ k = j ∧ a = 2 := by
    simp only [Reg.POOL_BANK.OWNER]
    omega
  have hstate : (0x9200 + k) * 256 + a = Reg.POOL_BANK.STATE j ↔ k = j ∧ a = 1 := by
    clear howner hcount
    simp only [Reg.POOL_BANK.STATE]
    omega
  by_cases hkj : k = j
  · obtain rfl | rfl := ha
    · rw [if_neg fun h => absurd (howner.mp h).2 (by decide), if_pos (hstate.mpr ⟨hkj, rfl⟩), if_pos hkj, if_pos rfl]
    · rw [if_pos (howner.mpr ⟨hkj, rfl⟩), if_pos hkj, if_neg (by decide)]
  · rw [if_neg fun h => hkj (howner.mp h).1, if_neg fun h => hkj (hstate.mp h).1, if_neg hkj, State.reg_bump, if_neg hcount, ite_self]

theorem State.bankReg_bankEvent {i : Nat} (hk : k < 512) (hi : i < 2) (ha : a = 1 ∨ a = 2) :
    (s.bankEvent j i).reg ((0x9200 + k) * 256 + a) = s.reg ((0x9200 + k) * 256 + a) :=
  State.reg_event_other _ _ _ _ _ (quietReg_bank hk (by omega)) (by simp only [Reg.POOL_BANK.EVENTS]; omega) (by simp only [Reg.POOL_BANK.EVENTS]; omega)

theorem State.bankReg_returnBank_other (hk : k < 512) (ha : a = 1 ∨ a = 2) (h : k ≠ j) :
    (s.returnBank j).reg ((0x9200 + k) * 256 + a) = s.reg ((0x9200 + k) * 256 + a) :=
  (State.bankReg_bankEvent _ hk (by decide) ha).trans ((s.bankReg_setBank hk ha).trans (if_neg h))

theorem State.bankReg_faultBank (word : Nat) (hk : k < 512) (ha : a = 1 ∨ a = 2) :
    (s.faultBank k word).reg ((0x9200 + k) * 256 + a) = if a = 1 then 5 else ownerNone := by
  unfold State.faultBank
  dsimp only
  rw [State.reg_logFault _ _ _ _ _ _ _ _ (quietReg_bank hk (by omega)) (by simp only [Reg.FAULT_LOG.LOG_HEAD]; omega)
    (by simp only [Reg.FAULT_LOG.PERSISTED_HEAD]; omega), State.bankReg_bankEvent _ hk (by decide) ha,
    State.reg_count _ _ _ _ (by unfold Ctr.poolBank; omega) (quietReg_bank hk (by omega)), State.bankReg_setBank _ hk ha, if_pos rfl]

/-- A bank that is not OWNED is none of those that a trap returns. -/
theorem State.bankReg_trapBench {b : Nat} (cause : Nat) (hb : b < 128) (hk : k < 512) (ha : a = 1 ∨ a = 2) (h : s.bankState k ≠ 1) :
    (s.trapBench b cause).deliverDue.reg ((0x9200 + k) * 256 + a) = s.reg ((0x9200 + k) * 256 + a) := by
  have hshown : Only (haltRegs b) [] (s.progLeft b 1 cause) (s.trapBench b cause).deliverDue :=
    (Only.trapShown _ b cause).trans ((Only.deliverDue _).mono (List.nil_subset _) (List.Subset.refl _))
  have hdepart : Calm [] departTabs (s.returnAtEnd b) (s.progLeft b 1 cause) := .depart _ _ _ hb
  rw [hshown.regs _ (haltRegs_bank hb (by omega)) (quietReg_bank hk (by omega)), hdepart.regs _ (by simp) (calmReg_bank hk (by omega) (by omega))]
  refine State.view_forAll (g := fun u => u.reg ((0x9200 + k) * 256 + a)) (fun u j hj => u.bankReg_returnBank_other hk ha ?_) s
  rintro rfl
  exact h (beq_iff_eq.mp (List.mem_filter.mp (List.mem_of_mem_filter hj)).2)

end

/-- An uncorrectable error in the pool: the bench traps and the bank is FAULTED, owned by none (R467). -/
theorem State.poolFault_traps (s : State) {b k : Nat} (word : Nat) (hb : b < 128) (hk : k < 512) :
    ((s.faultBank k word).trapBench b 3).deliverDue.trapped s b 3
      ∧ ((s.faultBank k word).trapBench b 3).deliverDue.bankState k = 5 ∧ ((s.faultBank k word).trapBench b 3).deliverDue.bankOwner k = 0xFF := by
  have hst : (s.faultBank k word).bankState k = 5 := s.bankReg_faultBank word hk (.inl rfl)
  have hne : (s.faultBank k word).bankState k ≠ 1 := by
    rw [hst]
    decide
  exact ⟨(State.trapBench_trapped _ 3 hb).of_calm hb (.faultBank s word hk), (State.bankReg_trapBench _ 3 hb hk (.inl rfl) hne).trans hst,
    (State.bankReg_trapBench _ 3 hb hk (.inr rfl) hne).trans (s.bankReg_faultBank word hk (.inr rfl))⟩

end Sys2Proof.Machine
end

section
/-!
SUPPORT. Loads and stores of scratch and of the pool (R390, R391, R428, R476).
-/
namespace Sys2Proof.Machine

/-! ### The jig yields to an owner (R476) -/

section
variable {R T : List Nat} (s : State)

theorem Calm.clearTab_past {q : Nat} (hq : 110 ≤ q) : Calm R T s (s.clearTab q) where
  mem := rfl
  regs _ _ _ := rfl
  tabs q' i _ h2 _ hi := by
    unfold State.tab State.clearTab
    dsimp only
    rw [SMap.get_clearRange, if_neg]
    unfold tabKey
    omega

theorem Calm.setJig (k v : Nat) : Calm R T s (s.setJig k v) := .setTab_past _ _ _ (by decide)

theorem Calm.jigReg {k : Nat} (v : Nat) (h1 : 0x950000 ≤ k) : Calm R T s (s.setReg k v) := .setReg_other _ _ fun h => by
  have := h.1
  omega

theorem Calm.jigEvent {i n : Nat} (hi : i < 8) : Calm R T s (s.event Reg.JIG.EVENTS i n) := by
  have h := Calm.of (Only.event (R := [Reg.JIG.EVENTS, Reg.JIG.EVENTS + 1 + i]) (T := []) s Reg.JIG.EVENTS i n (.inl (by simp)) (.inl (by simp)))
  refine ⟨h.mem, fun k _ hc => h.regs k ?_ hc, fun q j h1 h2 _ hj => h.tabs q j h1 h2 (by simp) hj⟩
  have := hc.1
  simp only [List.mem_cons, List.not_mem_nil, or_false, Reg.JIG.EVENTS]
  omega

theorem Calm.jigEnd (st : Nat) : Calm R T s (s.jigEnd st) := by
  unfold State.jigEnd
  exact ((((Calm.jigReg s st (by decide)).trans (.setJig _ _ _)).trans (.clearTab_past (q := Tab.jigYielded) _ (by decide))).trans (.clearTab_past (q := Tab.jigYields) _ (by decide))).trans
    (.jigEvent _ (by decide))

/-- The state of a bank, whatever its number. -/
theorem Calm.bankState (k v : Nat) : Calm (bankRegs ++ modeRegs) T s (s.setReg (Reg.POOL_BANK.STATE k) v) := by
  by_cases hk : k < 512
  · exact .of (Only.setReg _ _ _ (.inl (List.mem_append_left _ (bankReg_mem hk (by decide)))))
  · refine .setReg_other _ _ fun h => ?_
    have := h.1
    simp only [Reg.POOL_BANK.STATE] at this
    omega

theorem Calm.jigTake (g : Nat) : Calm (bankRegs ++ modeRegs) T s (s.jigTake g) := by
  unfold State.jigTake
  exact ((Calm.setJig s _ _).trans (.setTab_past (q := Tab.jigYielded) _ _ _ (by decide))).trans (.when _ _ ((Calm.bankState _ _ _).trans (.setJig _ _ _)))

theorem Calm.jigAdvance : Calm (bankRegs ++ modeRegs) T s s.jigAdvance := by
  unfold State.jigAdvance
  split
  · exact (Calm.setJig s _ _).trans (.jigTake _ _)
  · split
    · exact .jigTake _ _
    · exact .jigEnd _ _

theorem Calm.jigContinue (retried : Bool) : Calm (bankRegs ++ modeRegs) T s (s.jigContinue retried) := by
  unfold State.jigContinue
  split
  · split
    · exact .jigAdvance _
    · exact .jigTake _ _
  · exact .jigAdvance _

/-- A segment that has yielded eight times is left out of the run. -/
def State.jigSkip (s : State) (g : Nat) : State :=
  let s := (s.setTab Tab.jigYields g 0).bump Reg.JIG.SEGMENTS_INCOMPLETE 32
  let s := s.setReg Reg.JIG.INCOMPLETE_MAP (setBitmap 2048 (s.reg Reg.JIG.INCOMPLETE_MAP) g true)
  s.event Reg.JIG.EVENTS 2 0x1600

/-- A segment that has yielded waits for its turn. -/
def State.jigWait (s : State) (g n : Nat) : State :=
  let k := s.jig JigTab.order
  ((s.setTab Tab.jigYields g n).setTab Tab.jigYielded g (k + 1)).setJig JigTab.order (k + 1)

/-- What the jig tests after a segment that yielded. -/
def State.jigNext (s : State) (retried : Bool) (n : Nat) : State :=
  let stop := s.jig JigTab.stopping == 1
  (if stop then s.jigEnd 3 else if retried then s.jigContinue true else if n = 8 then s.jigContinue false else s.jigAdvance).jigProgress

theorem State.jigYield_eq (g : Nat) : s.jigYield g
    = ((if s.tab Tab.jigYields g + 1 = 8 then s.jigSkip g else s.jigWait g (s.tab Tab.jigYields g + 1)).setJig JigTab.current 0).jigNext (s.jigRetrying g)
      (s.tab Tab.jigYields g + 1) := rfl

theorem Calm.jigSkip (g : Nat) : Calm R T s (s.jigSkip g) :=
  (((Calm.setTab_past s _ _ (by decide)).trans (.jigReg _ _ (by decide))).trans (.jigReg _ _ (by decide))).trans (.jigEvent _ (by decide))

theorem Calm.jigWait (g n : Nat) : Calm R T s (s.jigWait g n) :=
  ((Calm.setTab_past s _ _ (by decide)).trans (.setTab_past _ _ _ (by decide))).trans (.setJig _ _ _)

theorem Calm.jigNext (retried : Bool) (n : Nat) : Calm (bankRegs ++ modeRegs) T s (s.jigNext retried n) := by
  unfold State.jigNext
  refine Calm.trans (t := _) ?_ (.jigReg _ _ (by decide))
  split
  · exact .jigEnd _ _
  · split
    · exact .jigContinue _ _
    · split
      · exact .jigContinue _ _
      · exact .jigAdvance _

theorem Calm.jigYield (g : Nat) : Calm (bankRegs ++ modeRegs) T s (s.jigYield g) := by
  rw [State.jigYield_eq]
  refine Calm.trans (Calm.trans ?_ (.setJig _ _ _)) (.jigNext _ _ _)
  split
  · exact .jigSkip _ _
  · exact .jigWait _ _ _

theorem Calm.ownerAccess (p n : Nat) : Calm (bankRegs ++ modeRegs) T s (s.ownerAccess p n) := by
  unfold State.ownerAccess
  split
  · exact .refl
  · split
    · exact .jigYield _ _
    · exact .refl

variable {s}

theorem State.ownerAccess_off {p n : Nat} (h : s.jigKeepsOff p n) : s.ownerAccess p n = s := by
  unfold State.ownerAccess
  split
  · rfl
  · next g hg =>
    refine if_neg fun hreach => ?_
    obtain ⟨hd, hlo, hhi⟩ := hreach
    obtain h | h | h := h g hg
    · exact h hd
    · omega
    · omega

end

/-! ### What a pool access counts -/

/-- Words corrected are counted, and the retries of a write counted and flagged. -/
def State.accessCounted (s : State) (b k corrected busy : Nat) : State :=
  let s := s.when (corrected != 0) (·.count (Ctr.poolBank k 0) corrected)
  s.when (busy != 0) (fun s => ((s.count (Ctr.poolBank k 2) busy).count (Ctr.bench b 5) busy).setStatus b 1)

theorem State.poolCounts_eq (s : State) (b p n corrected busy : Nat) :
    s.poolCounts b p n corrected busy = (s.ownerAccess p n).accessCounted b (p / bankSize) corrected busy := rfl

section
variable (s : State) {b k : Nat} (corrected busy : Nat)

theorem Only.setStatus {R T : List Nat} (i : Nat) (hb : b < 128) (ht : Tab.benchCw ∈ T) : Only R T s (s.setStatus b i) :=
  Only.setCw _ _ hb (by decide) ht

theorem Only.accessCounted (hb : b < 128) (hk : k < 2 ^ 30) : Only [] [Tab.benchCw] s (s.accessCounted b k corrected busy) := by
  have hctr (j amt : Nat) (hj : j < 4) (u : State) : Only [] [Tab.benchCw] u (u.count (Ctr.poolBank k j) amt) := Only.count _ _ _ (by unfold Ctr.poolBank; omega)
  unfold State.accessCounted
  exact (Only.when _ _ _ fun u => hctr 0 _ (by decide) u).trans (Only.when _ _ _ fun u =>
    ((hctr 2 _ (by decide) u).trans (Only.benchCounted _ _ _ hb (by decide))).trans (Only.setStatus _ _ hb (by simp)))

theorem Only.accessCounted_ready (hk : k < 2 ^ 30) : Only [] [] s (s.accessCounted b k corrected 0) :=
  Only.when _ _ _ fun u => Only.count _ _ _ (by unfold Ctr.poolBank; omega)

theorem State.status_accessCounted (hbusy : busy ≠ 0) : bit ((s.accessCounted b k corrected busy).cw b Cw.status) 1 = true := by
  unfold State.accessCounted
  rw [bne_iff_ne.mpr hbusy]
  refine (congrArg (bit · 1) (State.cw_setCw_same _ _ _ _)).trans (bit_setBit _ _ _)

end

theorem State.mayAccess_le {s : State} {b p n : Nat} (h : s.mayAccess b p n = true) : p + n ≤ 67108864 := by
  unfold State.mayAccess at h
  exact of_decide_eq_true (Bool.and_eq_true_iff.mp h).1

/-! ### Octets -/

theorem ofLE_lt (d : Bytes) : ofLE d < 2 ^ (8 * d.length) := by
  induction d with
  | nil => exact Nat.two_pow_pos _
  | cons v d ih =>
    rw [ofLE, List.length_cons, Nat.mul_succ, Nat.pow_add]
    have := Nat.mod_lt v (by decide : 0 < 256)
    omega

theorem getD_bytesFrom (s : State) (a : Nat) {n k : Nat} (h : k < n) : (s.bytesFrom a n).getD k 0 = s.byte (a + k) := by
  induction n generalizing a k with
  | zero => omega
  | succ n ih =>
    rw [State.bytesFrom]
    cases k with
    | zero => rfl
    | succ k => rw [List.getD_cons_succ, ih _ (by omega), show a + 1 + k = a + (k + 1) by omega]

theorem State.byte_mod (s : State) (a : Nat) : s.byte a % 256 = s.byte a := Nat.mod_eq_of_lt (BitVec.isLt _)

/-! ### Loads -/

theorem signExtend_lt (w v : Nat) : signExtend w 64 v < 2 ^ 64 := by
  unfold signExtend ofInt
  omega

section
variable {s u : State} {b : BenchNo} {x : MemSlot}

/-- Octets of SIZE of a slot. -/
theorem memOk_wide {o : MemOp} (h : memOk o x = true) (hacc : o.isAccess = true) (hwide : x.size.val = 4) : x.rd.val < 32 := by
  unfold memOk at h
  rw [hacc, hwide] at h
  rw [Bool.and_eq_true, Bool.and_eq_true] at h
  simpa using h.1.2

/-- The scalar and vector registers that a load writes. -/
def loadRegs (x : MemSlot) : List Nat × List Nat := if x.size.val = 4 then ([], [x.rd.val]) else ([x.rd.val], [])

/-- The value that a load leaves in its register. -/
def State.loads (t : State) (b : BenchNo) (x : MemSlot) (v : Nat) : Prop :=
  if x.size.val = 4 then t.vReg b x.rd = v else t.sReg b x.rd = if x.signed then signExtend (8 * sizeOctets x.size) 64 v else v

theorem Only.putLoad (u : State) (d : Bytes) (hrd : x.size.val = 4 → x.rd.val < 32) : Only [] [Tab.benchS, Tab.benchV] u (u.putLoad b x d) := by
  unfold State.putLoad
  split
  · next h => exact (Only.setV _ _ b.isLt (hrd h)).mono (by simp) (by simp)
  · exact (Only.setS _ _ b.isLt x.rd.isLt).mono (by simp) (by simp)

/-- A load puts its octets into its register and leaves every other. -/
theorem State.putLoad_loads (u : State) {d : Bytes} (hd : d.length = sizeOctets x.size) (hrd : x.size.val = 4 → x.rd.val < 32) :
    (u.putLoad b x d).loads b x (ofLE d) ∧ (u.putLoad b x d).keepsRegs u b (loadRegs x).1 (loadRegs x).2 := by
  have hlt := ofLE_lt d
  rw [hd] at hlt
  unfold State.putLoad State.loads loadRegs
  by_cases h : x.size.val = 4
  · rw [if_pos h, if_pos h, if_pos h]
    refine ⟨?_, fun c i hc => ⟨fun hi _ => (Only.setV u _ b.isLt (hrd h)).sReg (by decide) hc hi, fun hi hne => ?_⟩⟩
    · rw [State.vReg_setV_same, Nat.mod_eq_of_lt (by simpa [sizeOctets, h] using hlt)]
    · exact State.vReg_setV_other _ _ (hrd h) hi (by simpa using hne)
  · rw [if_neg h, if_neg h, if_neg h]
    refine ⟨?_, fun c i hc => ⟨fun hi hne => State.sReg_setS_other _ _ x.rd.isLt hi (by simpa using hne), fun hi _ =>
      (Only.setS u _ b.isLt x.rd.isLt).vReg (by decide) hc hi⟩⟩
    have hsmall : ofLE d < 2 ^ 64 := by
      refine Nat.lt_of_lt_of_le hlt (Nat.pow_le_pow_right (by decide) ?_)
      unfold sizeOctets
      rw [if_neg h]
      have hle : 2 ^ x.size.val ≤ 2 ^ 3 := Nat.pow_le_pow_right (by decide) (by omega)
      omega
    rw [State.sReg_setS_same]
    unfold loadValue
    rw [hd]
    split
    · exact Nat.mod_eq_of_lt (signExtend_lt _ _)
    · exact Nat.mod_eq_of_lt hsmall

/-- Registers kept across a calm change before, and one that leaves every register after. -/
theorem State.keepsRegs.around {R T : List Nat} {t v : State} {sr vr : List Nat} (h : v.keepsRegs u b sr vr) (hu : Calm R T s u)
    (hS : Tab.benchS ∉ T) (hV : Tab.benchV ∉ T) (ht : Only [] [] v t) : t.keepsRegs s b sr vr := by
  refine fun c i hc => ⟨fun hi hne => ?_, fun hi hne => ?_⟩
  · exact (ht.sReg (by simp) hc hi).trans (((h c i hc).1 hi hne).trans (hu.sReg hc hi hS))
  · exact (ht.vReg (by simp) hc hi).trans (((h c i hc).2 hi hne).trans (hu.vReg hc hi hV))

theorem State.loads.of_only {t v : State} {d : Nat} (h : v.loads b x d) (ht : Only [] [] v t) (hrd : x.size.val = 4 → x.rd.val < 32) : t.loads b x d := by
  unfold State.loads at *
  split
  · next hw =>
    rw [if_pos hw] at h
    exact (ht.vReg (by simp) b.isLt (hrd hw)).trans h
  · next hw =>
    rw [if_neg hw] at h
    exact (ht.sReg (by simp) b.isLt x.rd.isLt).trans h

/-- A load after a calm change: of octets of scratch or of the pool. -/
theorem State.loaded_shows {R : List Nat} (hu : Calm R [] s u) {d : Bytes} (hd : d.length = sizeOctets x.size) (hrd : x.size.val = 4 → x.rd.val < 32) :
    (u.putLoad b x d).deliverDue.loads b x (ofLE d) ∧ (u.putLoad b x d).deliverDue.keepsRegs s b (loadRegs x).1 (loadRegs x).2
      ∧ (u.putLoad b x d).deliverDue.mem = s.mem ∧ Only [] [Tab.benchS, Tab.benchV] u (u.putLoad b x d).deliverDue := by
  have hput : Only [] [Tab.benchS, Tab.benchV] u (u.putLoad b x d) := Only.putLoad u d hrd
  have hdue : Only [] [] (u.putLoad b x d) (u.putLoad b x d).deliverDue := Only.deliverDue _
  obtain ⟨hl, hk⟩ := u.putLoad_loads (b := b) hd hrd
  exact ⟨hl.of_only hdue hrd, hk.around hu (by simp) (by simp) hdue, hdue.mem.trans (hput.mem.trans hu.mem), hput.trans (hdue.mono (by simp) (by simp))⟩

/-! ### Stores -/

theorem length_storeOctets : (s.storeOctets b x).length = sizeOctets x.size := length_toLE _ _

theorem getD_storeOctets {k : Nat} (hk : k < sizeOctets x.size) :
    (s.storeOctets b x).getD k 0 = bits (if x.size.val = 4 then s.vReg b x.rd else s.sReg b x.rd) (8 * k + 7) (8 * k) := getD_toLE _ hk

/-- Octets stored after a calm change. -/
theorem State.stored_shows {R T : List Nat} (hu : Calm R T s u) (hS : Tab.benchS ∉ T) (hV : Tab.benchV ∉ T) (b : BenchNo) (a : Nat) (d : Bytes) :
    (∀ k, k < d.length → (u.setBytes a d).deliverDue.byte (a + k) = d.getD k 0 % 256)
      ∧ (∀ y, y < a ∨ a + d.length ≤ y → (u.setBytes a d).deliverDue.byte y = s.byte y) ∧ (u.setBytes a d).deliverDue.keepsRegs s b [] []
      ∧ (∀ k, k < 32 → (u.setBytes a d).deliverDue.cw b k = u.cw b k) ∧ OnlyMem [] [] a (a + d.length) u (u.setBytes a d).deliverDue := by
  have hset : OnlyMem [] [] a (a + d.length) u (u.setBytes a d) := .setBytes _ _ _ (Nat.le_refl _) (Nat.le_refl _)
  have hdue : Only [] [] (u.setBytes a d) (u.setBytes a d).deliverDue := Only.deliverDue _
  have hall : OnlyMem [] [] a (a + d.length) u (u.setBytes a d).deliverDue := hset.trans (.of hdue _ _)
  refine ⟨fun k hk => ?_, fun y hy => (hall.1 y hy).trans ?_, fun c i hc => ⟨fun hi _ => ?_, fun hi _ => ?_⟩,
    fun k hk => hall.2.cw b.isLt hk (by simp), hall⟩
  · rw [State.byte_deliverDue, State.byte_setBytes, if_pos (by omega), Nat.add_sub_cancel_left]
  · unfold State.byte
    rw [hu.mem]
  · exact (hall.2.sReg (by simp) hc hi).trans (hu.sReg hc hi hS)
  · exact (hall.2.vReg (by simp) hc hi).trans (hu.vReg hc hi hV)

end

end Sys2Proof.Machine
end

section
/-!
SUPPORT. What each load, store and move of the memory unit leaves, and what traps (R390, R391, R408, R428, R467).
-/
namespace Sys2Proof.Machine

section
variable {s : State} {o : MemOp} {b : BenchNo} {x : MemSlot} {imm : Fin 262144} {e : BenchEnv}

/-! ### Traps (R408) -/

/-- The traps of an operation that one check alone guards. -/
theorem exec_mem_checked {c : Nat} {k : Option Nat} (h : s.issues b o x) (ho : o ≠ .fsend) (ht : s.memTrap b o x imm e = k.map fun c => (s, c))
    (hk : k = some c) : ∃ t, exec (o.command b x imm e) s = .next t ∧ t.trapped s b c :=
  exec_mem_traps h (State.memStalls_other ho) (by rw [ht, hk]; rfl)

theorem exec_access_out (h : s.issues b o x) (ho : o = .ld ∨ o = .st) (hout : 262144 < s.memAddr b x imm + sizeOctets x.size) :
    ∃ t, exec (o.command b x imm e) s = .next t ∧ t.trapped s b 2 := by
  obtain rfl | rfl := ho
  · exact exec_mem_checked h (by decide) rfl (scratchTrap_out true e hout)
  · exact exec_mem_checked h (by decide) rfl (scratchTrap_out false e hout)

theorem exec_ld_bad (h : s.issues b .ld x) (hin : s.memAddr b x imm + sizeOctets x.size ≤ 262144) (he : e.scratchBad = true) :
    ∃ t, exec (.ld b x imm e) s = .next t ∧ t.trapped s b 8 :=
  exec_mem_checked (o := .ld) h (by decide) rfl (scratchTrap_bad hin he)

theorem exec_pool_refused (h : s.issues b o x) (ho : o = .pld ∨ o = .pst) (hno : s.mayAccess b (s.memAddr b x imm) (sizeOctets x.size) = false) :
    ∃ t, exec (o.command b x imm e) s = .next t ∧ t.trapped s b 3 := by
  obtain rfl | rfl := ho <;> exact exec_mem_traps h (State.memStalls_other (by decide)) (State.poolTrap_refused hno)

theorem exec_pool_fault {w : Nat} (h : s.issues b o x) (ho : o = .pld ∨ o = .pst) (hmay : s.mayAccess b (s.memAddr b x imm) (sizeOctets x.size) = true)
    (he : e.poolBad = w + 1) (hlo : s.memAddr b x imm / 8 * 8 ≤ w) (hhi : w < s.memAddr b x imm + sizeOctets x.size) :
    ∃ t, exec (o.command b x imm e) s = .next t ∧ t.trapped s b 3 ∧ t.bankState (w / 131072) = 5 ∧ t.bankOwner (w / 131072) = 0xFF := by
  have hle := State.mayAccess_le hmay
  have htrap : s.memTrap b o x imm e = some (s.faultBank (w / 131072) (w % 131072 / 8), 3) := by
    obtain rfl | rfl := ho <;> exact State.poolTrap_fault hmay he hlo hhi
  have hstall : s.memStalls b o = false := State.memStalls_other (by obtain rfl | rfl := ho <;> decide)
  exact ⟨_, exec_mem_trapState h hstall htrap, s.poolFault_traps _ b.isLt (by omega)⟩

theorem slotTrap_one {n : Nat} (h : 131071 < n) : slotTrap [n] = some 4 := by
  unfold slotTrap
  rw [if_pos (by simpa using h)]

theorem slotTrap_ok {n : Nat} (h : n ≤ 131071) : slotTrap [n] = none := by
  unfold slotTrap
  rw [if_neg (by simpa using h)]

theorem exec_slot_out (h : s.issues b o x) (ho : o = .sread ∨ o = .swrite) (hout : 131071 < s.sReg b x.ra) :
    ∃ t, exec (o.command b x imm e) s = .next t ∧ t.trapped s b 4 := by
  obtain rfl | rfl := ho
  · exact exec_mem_checked h (by decide) rfl (slotTrap_one hout)
  · exact exec_mem_checked h (by decide) rfl (slotTrap_one hout)

theorem exec_sscatter_bad (h : s.issues b .sscatter x) (hin : s.sReg b x.ra + 16 * s.sReg b x.rb ≤ 262144) (he : e.scratchBad = true) :
    ∃ t, exec (.sscatter b x imm e) s = .next t ∧ t.trapped s b 8 := by
  refine exec_mem_traps (o := .sscatter) h (State.memStalls_other (by decide)) ?_
  unfold State.memTrap
  dsimp only
  rw [scratchTrap_bad hin he]

/-! ### Loads and stores (R390, R391) -/

theorem State.issues.wide (h : s.issues b o x) (hacc : o.isAccess = true) : x.size.val = 4 → x.rd.val < 32 := memOk_wide h.2 hacc

theorem exec_ld_shows (h : s.issues b .ld x) (hin : s.memAddr b x imm + sizeOctets x.size ≤ 262144) (he : e.scratchBad = false) :
    ∃ t, exec (.ld b x imm e) s = .next t ∧ t.loads b x (ofLE (s.scratch b (s.memAddr b x imm) (sizeOctets x.size)))
      ∧ t.keepsRegs s b (loadRegs x).1 (loadRegs x).2 ∧ Only [] [Tab.benchS, Tab.benchV] s t := by
  have htrap : s.memTrap b .ld x imm e = none := congrArg (Option.map fun c => (s, c)) (scratchTrap_none hin (.inr he))
  obtain ⟨hl, hk, -, honly⟩ := State.loaded_shows (b := b) (Calm.refl (R := []) (s := s)) (s.length_bytesFrom _ _) (h.wide rfl)
  exact ⟨_, exec_mem_runs (o := .ld) h (State.memStalls_other (by decide)) htrap rfl, hl, hk, honly⟩

theorem storeOctets_octet {k : Nat} (hk : k < sizeOctets x.size) :
    (s.storeOctets b x).getD k 0 % 256 = bits (if x.size.val = 4 then s.vReg b x.rd else s.sReg b x.rd) (8 * k + 7) (8 * k) := by
  rw [getD_storeOctets hk, Nat.mod_eq_of_lt (bits_octet_lt _ k)]

theorem exec_st_shows (h : s.issues b .st x) (hin : s.memAddr b x imm + sizeOctets x.size ≤ 262144) :
    ∃ t, exec (.st b x imm e) s = .next t
      ∧ (∀ k, k < sizeOctets x.size → t.byte (scratchAddr b (s.memAddr b x imm) + k)
          = bits (if x.size.val = 4 then s.vReg b x.rd else s.sReg b x.rd) (8 * k + 7) (8 * k))
      ∧ OnlyMem [] [] (scratchAddr b (s.memAddr b x imm)) (scratchAddr b (s.memAddr b x imm) + sizeOctets x.size) s t := by
  have htrap : s.memTrap b .st x imm e = none := congrArg (Option.map fun c => (s, c)) (scratchTrap_none hin (.inl rfl))
  obtain ⟨hbytes, -, -, -, honly⟩ := State.stored_shows (Calm.refl (R := []) (T := []) (s := s)) (by simp) (by simp) b
    (scratchAddr b (s.memAddr b x imm)) (s.storeOctets b x)
  rw [length_storeOctets] at hbytes honly
  refine ⟨_, exec_mem_runs (o := .st) h (State.memStalls_other (by decide)) htrap rfl, fun k hk => ?_, honly⟩
  exact (hbytes k hk).trans (storeOctets_octet hk)

/-- The counts of a pool access that is performed. -/
theorem State.poolCounts_shows (s : State) (b : BenchNo) {p n : Nat} (corrected busy : Nat) (hmay : s.mayAccess b p n = true) :
    Calm (bankRegs ++ modeRegs) [Tab.benchCw] s (s.poolCounts b p n corrected busy)
      ∧ (busy ≠ 0 → bit ((s.poolCounts b p n corrected busy).cw b Cw.status) 1 = true)
      ∧ (s.jigKeepsOff p n → Only [] [Tab.benchCw] s (s.poolCounts b p n corrected busy)) := by
  have hle := State.mayAccess_le hmay
  have hcount (u : State) : Only [] [Tab.benchCw] u (u.accessCounted b (p / bankSize) corrected busy) :=
    Only.accessCounted u _ _ b.isLt (by unfold bankSize; omega)
  rw [State.poolCounts_eq]
  refine ⟨(Calm.ownerAccess s p n).trans (.of ((hcount _).mono (List.nil_subset _) (List.Subset.refl _))), State.status_accessCounted _ _ _, fun h => ?_⟩
  rw [State.ownerAccess_off h]
  exact hcount s

theorem State.poolCounts_ready (s : State) (b : BenchNo) {p n : Nat} (corrected : Nat) (hmay : s.mayAccess b p n = true) :
    Calm (bankRegs ++ modeRegs) [] s (s.poolCounts b p n corrected 0) ∧ (s.jigKeepsOff p n → Only [] [] s (s.poolCounts b p n corrected 0)) := by
  have hle := State.mayAccess_le hmay
  have hcount (u : State) : Only [] [] u (u.accessCounted b (p / bankSize) corrected 0) :=
    Only.accessCounted_ready u _ (by unfold bankSize; omega)
  rw [State.poolCounts_eq]
  refine ⟨(Calm.ownerAccess s p n).trans (.of ((hcount _).mono (List.nil_subset _) (List.Subset.refl _))), fun h => ?_⟩
  rw [State.ownerAccess_off h]
  exact hcount s

theorem exec_pld_shows (he : e.poolBad = 0) (hmay : s.mayAccess b (s.memAddr b x imm) (sizeOctets x.size) = true) (h : s.issues b .pld x) :
    ∃ t, exec (.pld b x imm e) s = .next t ∧ t.loads b x (ofLE (s.bytesFrom (poolAddr (s.memAddr b x imm)) (sizeOctets x.size)))
      ∧ t.keepsRegs s b (loadRegs x).1 (loadRegs x).2 ∧ t.mem = s.mem
      ∧ (s.jigKeepsOff (s.memAddr b x imm) (sizeOctets x.size) → Only [] [Tab.benchS, Tab.benchV] s t) := by
  obtain ⟨hcalm, honly⟩ := s.poolCounts_ready b e.corrected hmay
  obtain ⟨hl, hk, hmem, hput⟩ := State.loaded_shows (b := b) hcalm (s.length_bytesFrom (poolAddr (s.memAddr b x imm)) _) (h.wide rfl)
  exact ⟨_, exec_mem_runs (o := .pld) h (State.memStalls_other (by decide)) (State.poolTrap_none hmay he) rfl, hl, hk, hmem,
    fun hoff => ((honly hoff).mono (by simp) (by simp)).trans hput⟩

theorem exec_pst_shows (he : e.poolBad = 0) (hmay : s.mayAccess b (s.memAddr b x imm) (sizeOctets x.size) = true) (h : s.issues b .pst x) :
    ∃ t, exec (.pst b x imm e) s = .next t
      ∧ (∀ k, k < sizeOctets x.size → t.byte (poolAddr (s.memAddr b x imm) + k)
          = bits (if x.size.val = 4 then s.vReg b x.rd else s.sReg b x.rd) (8 * k + 7) (8 * k))
      ∧ (∀ a, a < poolAddr (s.memAddr b x imm) ∨ poolAddr (s.memAddr b x imm) + sizeOctets x.size ≤ a → t.byte a = s.byte a)
      ∧ t.keepsRegs s b [] [] ∧ (e.busy ≠ 0 → bit (t.cw b Cw.status) 1 = true) ∧ (e.busy = 0 → t.cw b Cw.status = s.cw b Cw.status)
      ∧ (s.jigKeepsOff (s.memAddr b x imm) (sizeOctets x.size)
        → OnlyMem [] [Tab.benchCw] (poolAddr (s.memAddr b x imm)) (poolAddr (s.memAddr b x imm) + sizeOctets x.size) s t) := by
  have hst : Cw.status < 32 := by decide
  obtain ⟨hcalm, hbusy, honly⟩ := s.poolCounts_shows b e.corrected e.busy hmay
  obtain ⟨hbytes, hrest, hkeeps, hcw, hmem⟩ := State.stored_shows hcalm (by decide) (by decide) b (poolAddr (s.memAddr b x imm)) (s.storeOctets b x)
  rw [length_storeOctets] at hbytes hrest hmem
  refine ⟨_, exec_mem_runs (o := .pst) h (State.memStalls_other (by decide)) (State.poolTrap_none hmay he) rfl, fun k hk => ?_, hrest, hkeeps, fun h0 => ?_,
    fun h0 => ?_, fun hoff => (OnlyMem.of (honly hoff) _ _).trans ⟨hmem.1, hmem.2.mono (by simp) (by simp)⟩⟩
  · exact (hbytes k hk).trans (storeOctets_octet hk)
  · exact (congrArg (bit · 1) (hcw _ hst)).trans (hbusy h0)
  · obtain ⟨hready, -⟩ := s.poolCounts_ready b e.corrected hmay
    rw [← h0] at hready
    exact (hcw _ hst).trans (hready.cw b.isLt hst (by simp))

/-! ### Moves (R391) -/

/-- Octets moved from one place of memory to another after a calm change. -/
theorem State.moved_shows {u : State} (hu : Calm (bankRegs ++ modeRegs) [Tab.benchCw] s u) (b : BenchNo) (src dst n : Nat) :
    (∀ k, k < n → (u.setBytes dst (s.bytesFrom src n)).deliverDue.byte (dst + k) = s.byte (src + k))
      ∧ (∀ k, k < dst ∨ dst + n ≤ k → (u.setBytes dst (s.bytesFrom src n)).deliverDue.byte k = s.byte k)
      ∧ (u.setBytes dst (s.bytesFrom src n)).deliverDue.keepsRegs s b [] []
      ∧ (Only [] [Tab.benchCw] s u → OnlyMem [] [Tab.benchCw] dst (dst + n) s (u.setBytes dst (s.bytesFrom src n)).deliverDue) := by
  obtain ⟨hbytes, hrest, hkeeps, -, hmem⟩ := State.stored_shows hu (by decide) (by decide) b dst (s.bytesFrom src n)
  rw [s.length_bytesFrom] at hbytes hrest hmem
  refine ⟨fun k hk => ?_, hrest, hkeeps, fun h => (OnlyMem.of h _ _).trans ⟨hmem.1, hmem.2.mono (by simp) (by simp)⟩⟩
  rw [hbytes k hk, getD_bytesFrom s _ hk, State.byte_mod]

theorem memTrap_pmove_scratch {c : Nat} (ho : o = .pmoveIn ∨ o = .pmoveOut)
    (hk : scratchTrap (s.sReg b x.ra) (s.sReg b x.rc) (o == .pmoveOut) e = some c) : s.memTrap b o x imm e = some (s, c) := by
  obtain rfl | rfl := ho
  all_goals
    unfold State.memTrap
    dsimp only
  · rw [show scratchTrap (s.sReg b x.ra) (s.sReg b x.rc) false e = some c from hk]
  · rw [show scratchTrap (s.sReg b x.ra) (s.sReg b x.rc) true e = some c from hk]

theorem memTrap_pmove_pool (ho : o = .pmoveIn ∨ o = .pmoveOut)
    (hk : scratchTrap (s.sReg b x.ra) (s.sReg b x.rc) (o == .pmoveOut) e = none) :
    s.memTrap b o x imm e = s.poolTrap b (s.sReg b x.rb) (s.sReg b x.rc) e := by
  obtain rfl | rfl := ho
  all_goals
    unfold State.memTrap
    dsimp only
  · rw [show scratchTrap (s.sReg b x.ra) (s.sReg b x.rc) false e = none from hk]
  · rw [show scratchTrap (s.sReg b x.ra) (s.sReg b x.rc) true e = none from hk]

theorem scratchTrap_pmove_none (hin : s.sReg b x.ra + s.sReg b x.rc ≤ 262144) (he : o = .pmoveOut → e.scratchBad = false) :
    scratchTrap (s.sReg b x.ra) (s.sReg b x.rc) (o == .pmoveOut) e = none := by
  refine scratchTrap_none hin ?_
  by_cases h : o = .pmoveOut
  · exact .inr (he h)
  · exact .inl (beq_eq_false_iff_ne.mpr h)

theorem exec_pmove_shows (ho : o = .pmoveIn ∨ o = .pmoveOut) (h : s.issues b o x) (hin : s.sReg b x.ra + s.sReg b x.rc ≤ 262144)
    (hsb : o = .pmoveOut → e.scratchBad = false) (hmay : s.mayAccess b (s.sReg b x.rb) (s.sReg b x.rc) = true) (he : e.poolBad = 0) :
    let src := if o = .pmoveIn then poolAddr (s.sReg b x.rb) else scratchAddr b (s.sReg b x.ra)
    let dst := if o = .pmoveIn then scratchAddr b (s.sReg b x.ra) else poolAddr (s.sReg b x.rb)
    let n := s.sReg b x.rc
    ∃ t, exec (o.command b x imm e) s = .next t ∧ (∀ k, k < n → t.byte (dst + k) = s.byte (src + k))
      ∧ (∀ k, k < dst ∨ dst + n ≤ k → t.byte k = s.byte k) ∧ t.keepsRegs s b [] []
      ∧ (s.jigKeepsOff (s.sReg b x.rb) n → OnlyMem [] [Tab.benchCw] dst (dst + n) s t) := by
  have hstall : s.memStalls b o = false := State.memStalls_other (by obtain rfl | rfl := ho <;> decide)
  have htrap : s.memTrap b o x imm e = none := (memTrap_pmove_pool ho (scratchTrap_pmove_none hin hsb)).trans (State.poolTrap_none hmay he)
  obtain rfl | rfl := ho
  · obtain ⟨hcalm, -, honly⟩ := s.poolCounts_shows b e.corrected 0 hmay
    obtain ⟨hb, hr, hk, hm⟩ := State.moved_shows hcalm b (poolAddr (s.sReg b x.rb)) (scratchAddr b (s.sReg b x.ra)) (s.sReg b x.rc)
    exact ⟨_, exec_mem_runs h hstall htrap rfl, hb, hr, hk, fun hoff => hm (honly hoff)⟩
  · obtain ⟨hcalm, -, honly⟩ := s.poolCounts_shows b e.corrected e.busy hmay
    obtain ⟨hb, hr, hk, hm⟩ := State.moved_shows hcalm b (scratchAddr b (s.sReg b x.ra)) (poolAddr (s.sReg b x.rb)) (s.sReg b x.rc)
    exact ⟨_, exec_mem_runs h hstall htrap rfl, hb, hr, hk, fun hoff => hm (honly hoff)⟩

end

end Sys2Proof.Machine
end

section
/-!
SUPPORT. Slots of the image that a bench reads and writes (R358 to R360, R392 to R394).
-/
namespace Sys2Proof.Machine

/-! ### Courses of a fold -/

/-- What one step makes of a part of the state that no other step touches stays. -/
theorem State.forAll_once {α β : Type} {Q : State → Prop} {f : State → α → State} {g : State → β} {l : List α} (hnd : l.Nodup) {a : α} (ha : a ∈ l) {s : State}
    (hkeep : ∀ u, ∀ b ∈ l, b ≠ a → g (f u b) = g u) (hset : ∀ u, g u = g s → Q (f u a)) (hstay : ∀ u, ∀ b ∈ l, b ≠ a → Q u → Q (f u b)) :
    Q (s.forAll l f) := by
  induction l generalizing s with
  | nil => cases ha
  | cons b l ih =>
    obtain ⟨hb, hnd⟩ := List.nodup_cons.mp hnd
    obtain rfl | ha := List.mem_cons.mp ha
    · exact State.forAll_invariant (fun u c hc => hstay u c (List.mem_cons_of_mem _ hc) fun h => hb (h ▸ hc)) (hset s rfl)
    · have hba : b ≠ a := fun h => hb (h ▸ ha)
      exact ih hnd ha (fun u c hc => hkeep u c (List.mem_cons_of_mem _ hc)) (fun u hu => hset u (hu.trans (hkeep s b List.mem_cons_self hba)))
        fun u c hc => hstay u c (List.mem_cons_of_mem _ hc)

/-! ### SREAD (R392) -/

theorem leAt_lt (v off len : Nat) : leAt v off len < 2 ^ (8 * len) := by
  have h := ofLE_lt (toBE len (octetsAt 32 v off len))
  rwa [length_toBE] at h

section
variable {s : State} {b : BenchNo} {x : MemSlot} {imm : Fin 262144} {e : BenchEnv}

/-- Scalar registers from `rd` on written, one each. -/
def State.setRun (s : State) (b rd : Nat) (f : Nat → Nat) (n : Nat) : State := s.forAll (List.range n) fun s i => s.setS b (rd + i) (f i)

theorem Only.setRun (s : State) {rd n : Nat} (f : Nat → Nat) (hrd : rd + n ≤ 64) : Only [] [Tab.benchS] s (s.setRun b rd f n) :=
  Only.forAll _ _ _ fun u i hi => Only.setS u _ b.isLt (by have := List.mem_range.mp hi; omega)

theorem State.sReg_setRun_same (s : State) {rd n i : Nat} (f : Nat → Nat) (hrd : rd + n ≤ 64) (hi : i < n) :
    (s.setRun b rd f n).sReg b (rd + i) = f i % 2 ^ 64 := by
  refine State.forAll_settles (Q := fun u => u.sReg b (rd + i) = f i % 2 ^ 64) (List.mem_range.mpr hi) (fun u => State.sReg_setS_same _ _ _ _)
    (fun u j hj hu => ?_) s
  have hjn := List.mem_range.mp hj
  by_cases hij : i = j
  · subst hij
    exact State.sReg_setS_same _ _ _ _
  · exact (State.sReg_setS_other _ _ (by omega) (by omega) (.inr (by omega))).trans hu

theorem State.sReg_setRun_other (s : State) {rd n c i : Nat} (f : Nat → Nat) (hrd : rd + n ≤ 64) (hi : i < 64) (h : c ≠ b ∨ i < rd ∨ rd + n ≤ i) :
    (s.setRun b rd f n).sReg c i = s.sReg c i := by
  refine State.view_forAll (g := fun u => u.sReg c i) (fun u j hj => State.sReg_setS_other _ _ ?_ hi ?_) s
  · have := List.mem_range.mp hj
    omega
  · have := List.mem_range.mp hj
    omega

theorem memOk_sread (h : memOk .sread x = true) (hwide : x.size.val = 4) : x.rd.val ≤ 60 := by
  unfold memOk at h
  rw [Bool.and_eq_true, hwide] at h
  simpa using h.2

theorem exec_sread_shows (h : s.issues b .sread x) (hslot : s.sReg b x.ra ≤ 131071) : ∃ t, exec (.sread b x imm e) s = .next t
    ∧ (if x.size.val = 4 then (∀ i, i < 4 → t.sReg b (x.rd + i) = leAt (s.slot (s.sReg b x.ra)) (8 * i) 8)
          ∧ t.keepsRegs s b [x.rd, x.rd + 1, x.rd + 2, x.rd + 3] []
      else t.sReg b x.rd = leAt (s.slot (s.sReg b x.ra)) 0 8 ∧ t.keepsRegs s b [x.rd] []) ∧ Only [] [Tab.benchS] s t := by
  have htrap : s.memTrap b .sread x imm e = none := congrArg (Option.map fun c => (s, c)) (slotTrap_ok hslot)
  let v := s.slot (s.sReg b x.ra)
  by_cases hwide : x.size.val = 4
  · have hrd := memOk_sread h.2 hwide
    have hrun : s.runMem s b .sread x imm e = s.setRun b x.rd (fun i => leAt v (8 * i) 8) 4 := if_pos hwide
    have honly : Only [] [Tab.benchS] s (s.setRun b x.rd (fun i => leAt v (8 * i) 8) 4) := Only.setRun s _ (by omega)
    have hdue : Only [] [] (s.setRun b x.rd (fun i => leAt v (8 * i) 8) 4) (s.setRun b x.rd (fun i => leAt v (8 * i) 8) 4).deliverDue := Only.deliverDue _
    refine ⟨_, exec_mem_runs (o := .sread) h (State.memStalls_other (by decide)) htrap hrun, ?_, honly.trans (hdue.mono (by simp) (by simp))⟩
    rw [if_pos hwide]
    refine ⟨fun i hi => ?_, fun c i hc => ⟨fun hi hne => ?_, fun hi _ => ?_⟩⟩
    · rw [hdue.sReg (by simp) b.isLt (by omega), State.sReg_setRun_same s _ (by omega) hi]
      exact Nat.mod_eq_of_lt (leAt_lt _ _ _)
    · refine (hdue.sReg (by simp) hc hi).trans (State.sReg_setRun_other s _ (by omega) hi ?_)
      simp only [List.mem_cons, List.not_mem_nil, or_false] at hne
      omega
    · exact (hdue.vReg (by simp) hc hi).trans (honly.vReg (by decide) hc hi)
  · have hrun : s.runMem s b .sread x imm e = s.setS b x.rd (leAt v 0 8) := if_neg hwide
    have honly : Only [] [Tab.benchS] s (s.setS b x.rd (leAt v 0 8)) := Only.setS s _ b.isLt x.rd.isLt
    have hdue : Only [] [] (s.setS b x.rd (leAt v 0 8)) (s.setS b x.rd (leAt v 0 8)).deliverDue := Only.deliverDue _
    refine ⟨_, exec_mem_runs (o := .sread) h (State.memStalls_other (by decide)) htrap hrun, ?_, honly.trans (hdue.mono (by simp) (by simp))⟩
    rw [if_neg hwide]
    refine ⟨?_, fun c i hc => ⟨fun hi hne => ?_, fun hi _ => ?_⟩⟩
    · rw [hdue.sReg (by simp) b.isLt x.rd.isLt, State.sReg_setS_same]
      exact Nat.mod_eq_of_lt (leAt_lt _ _ _)
    · exact (hdue.sReg (by simp) hc hi).trans (State.sReg_setS_other _ _ x.rd.isLt hi (by simpa using hne))
    · exact (hdue.vReg (by simp) hc hi).trans (honly.vReg (by decide) hc hi)

end

end Sys2Proof.Machine
end

section
/-!
SUPPORT. SGATHER: the octets of slots stored in scratch (R392, R393).
-/
namespace Sys2Proof.Machine

/-! ### Octets of a slot's field -/

theorem octet_octetsAt {n off len j : Nat} (v : Nat) (h : j < len) (hn : off + len ≤ n) :
    (octetsAt n v off len >>> (8 * (len - 1 - j))) % 256 = octetsAt n v (off + j) 1 := by
  refine Nat.eq_of_testBit_eq fun k => ?_
  rw [show 256 = 2 ^ 8 from rfl, Nat.testBit_mod_two_pow, Nat.testBit_shiftRight, testBit_octetsAt, testBit_octetsAt]
  by_cases hk : k < 8
  · rw [decide_eq_true hk, decide_eq_true (by omega : 8 * (len - 1 - j) + k < 8 * len), Bool.true_and, Bool.true_and, Bool.true_and]
    congr 1
    omega
  · rw [decide_eq_false hk, Bool.false_and, Bool.false_and]

theorem getD_toBE {n j : Nat} (v : Nat) (h : j < n) : (toBE n v).getD j 0 = (v >>> (8 * (n - 1 - j))) % 256 := by
  induction n generalizing j with
  | zero => omega
  | succ n ih =>
    rw [toBE]
    cases j with
    | zero => rfl
    | succ j => rw [List.getD_cons_succ, ih (by omega), show n + 1 - 1 - (j + 1) = n - 1 - j by omega]

theorem bits_ofLE (l : Bytes) (j : Nat) : bits (ofLE l) (8 * j + 7) (8 * j) = l.getD j 0 % 256 := by
  have hdiv (v : Nat) : bits v (8 * j + 7) (8 * j) = v / 2 ^ (8 * j) % 256 := by
    unfold bits
    rw [Nat.shiftRight_eq_div_pow, show 8 * j + 7 + 1 - 8 * j = 8 by omega, show 2 ^ 8 = 256 from rfl]
  rw [hdiv]
  clear hdiv
  induction l generalizing j with
  | nil => simp [ofLE]
  | cons x l ih =>
    rw [ofLE]
    cases j with
    | zero =>
      rw [Nat.mul_zero, Nat.pow_zero, Nat.div_one, List.getD_cons_zero, Nat.add_mul_mod_self_left, Nat.mod_mod]
    | succ j =>
      have hstep : (x % 256 + 256 * ofLE l) / 256 = ofLE l := by
        rw [Nat.add_mul_div_left _ _ (by decide), Nat.div_eq_of_lt (Nat.mod_lt _ (by decide)), Nat.zero_add]
      rw [List.getD_cons_succ, ← ih j, show 8 * (j + 1) = 8 + 8 * j by omega, Nat.pow_add, ← Nat.div_div_eq_div_mul, show 2 ^ 8 = 256 from rfl, hstep]

/-- An octet of a field is the field of one octet there. -/
theorem bits_leAt {off len j : Nat} (v : Nat) (h : j < len) (hn : off + len ≤ 32) : bits (leAt v off len) (8 * j + 7) (8 * j) = leAt v (off + j) 1 := by
  unfold leAt
  rw [bits_ofLE, getD_toBE _ h, octet_octetsAt v h hn, toBE, toBE, ofLE, ofLE, Nat.mul_zero, Nat.shiftRight_zero]
  omega

/-! ### One entry -/

/-- Two octets of quality follow the value where the bench asks for them. -/
def State.putQuality (s : State) (b q k v : Nat) : State := if q = 0xFFFFFFFF then s else s.setScratch b (q + 2 * k) (toLE 2 (slotQuality v))

theorem State.gatherEntry_eq (s0 s : State) (b a q w k n : Nat) :
    s0.gatherEntry s b a q w k n = (s.setScratch b (a + k * w) (toLE w (slotValue (s0.slot n)))).putQuality b q k (s0.slot n) := rfl

section
variable (s : State) (b : Nat)

theorem State.byte_setScratch_other {a y : Nat} (d : Bytes) (h : y < scratchAddr b a ∨ scratchAddr b a + d.length ≤ y) :
    (s.setScratch b a d).byte y = s.byte y := by
  unfold State.setScratch
  rw [State.byte_setBytes, if_neg (by omega)]

theorem State.byte_putQuality_other {q k v y : Nat} (h : q = 0xFFFFFFFF ∨ y < scratchAddr b (q + 2 * k) ∨ scratchAddr b (q + 2 * k) + 2 ≤ y) :
    (s.putQuality b q k v).byte y = s.byte y := by
  unfold State.putQuality
  split
  · rfl
  · next hq => exact s.byte_setScratch_other b _ (by rw [length_toLE]; exact h.resolve_left hq)

theorem State.byte_putQuality {q k v j : Nat} (hq : q ≠ 0xFFFFFFFF) (hj : j < 2) :
    (s.putQuality b q k v).byte (scratchAddr b (q + 2 * k) + j) = leAt v (20 + j) 1 := by
  unfold State.putQuality
  rw [if_neg hq, State.byte_setScratch_toLE _ _ _ _ hj]
  exact bits_leAt v hj (by decide)

theorem State.setBytes_mem (a : Nat) (d : Bytes) : s.setBytes a d = { s with mem := (s.setBytes a d).mem } := by
  induction d generalizing s a with
  | nil => rfl
  | cons v d ih => exact (ih (s.setByte a v) (a + 1)).trans rfl

theorem State.gatherEntry_mem (s0 : State) (a q w k n : Nat) : s0.gatherEntry s b a q w k n = { s with mem := (s0.gatherEntry s b a q w k n).mem } := by
  rw [State.gatherEntry_eq]
  unfold State.putQuality
  split
  · exact s.setBytes_mem _ _
  · refine (State.setBytes_mem _ _ _).trans ?_
    unfold State.setScratch
    rw [s.setBytes_mem]

theorem State.forAll_mem {α : Type} {f : State → α → State} (hf : ∀ u a, f u a = { u with mem := (f u a).mem }) (l : List α) :
    s.forAll l f = { s with mem := (s.forAll l f).mem } :=
  State.forAll_invariant (Q := fun u => u = { s with mem := u.mem }) (fun u a _ hu => by rw [hf u a, hu]) rfl

end

/-! ### All entries -/

/-- Entries `0` to `n - 1` gathered: slot `g k` is that of entry `k`. -/
def State.gathered (s : State) (b a q w n : Nat) (g : Nat → Nat) : State := s.forAll (List.range n) fun u k => s.gatherEntry u b a q w k (g k)

section
variable (s : State) {b a q w n : Nat} {g : Nat → Nat}

theorem State.byte_gathered_value (hw : w = 4 ∨ w = 8) (hapart : q = 0xFFFFFFFF ∨ a + n * w ≤ q ∨ q + 2 * n ≤ a) {k j : Nat} (hk : k < n) (hj : j < w) :
    (s.gathered b a q w n g).byte (scratchAddr b (a + k * w + j)) = leAt (s.slot (g k)) j 1 := by
  have hoff : scratchAddr b (a + k * w + j) = scratchAddr b (a + k * w) + j := by
    unfold scratchAddr
    omega
  refine State.forAll_settles (Q := fun u => u.byte (scratchAddr b (a + k * w + j)) = leAt (s.slot (g k)) j 1) (List.mem_range.mpr hk) (fun u => ?_)
    (fun u i hi hu => ?_) s
  · rw [State.gatherEntry_eq, State.byte_putQuality_other, hoff, State.byte_setScratch_toLE _ _ _ _ hj]
    · have h := bits_leAt (off := 0) (len := 8) (s.slot (g k)) (j := j) (by omega) (by decide)
      rwa [Nat.zero_add] at h
    · unfold scratchAddr
      obtain rfl | rfl := hw <;> omega
  · have hin := List.mem_range.mp hi
    by_cases hik : i = k
    · subst hik
      rw [State.gatherEntry_eq, State.byte_putQuality_other, hoff, State.byte_setScratch_toLE _ _ _ _ hj]
      · have h := bits_leAt (off := 0) (len := 8) (s.slot (g i)) (j := j) (by omega) (by decide)
        rwa [Nat.zero_add] at h
      · unfold scratchAddr
        obtain rfl | rfl := hw <;> omega
    · rw [State.gatherEntry_eq, State.byte_putQuality_other, State.byte_setScratch_other, hu]
      · rw [length_toLE]
        unfold scratchAddr
        obtain rfl | rfl := hw <;> omega
      · unfold scratchAddr
        obtain rfl | rfl := hw <;> omega

theorem State.byte_gathered_quality (hw : w = 4 ∨ w = 8) (hapart : q = 0xFFFFFFFF ∨ a + n * w ≤ q ∨ q + 2 * n ≤ a) (hq : q ≠ 0xFFFFFFFF) {k j : Nat}
    (hk : k < n) (hj : j < 2) : (s.gathered b a q w n g).byte (scratchAddr b (q + 2 * k + j)) = leAt (s.slot (g k)) (20 + j) 1 := by
  have hoff : scratchAddr b (q + 2 * k + j) = scratchAddr b (q + 2 * k) + j := by
    unfold scratchAddr
    omega
  have hset (u : State) : (s.gatherEntry u b a q w k (g k)).byte (scratchAddr b (q + 2 * k + j)) = leAt (s.slot (g k)) (20 + j) 1 := by
    rw [State.gatherEntry_eq, hoff, State.byte_putQuality _ _ hq hj]
  refine State.forAll_settles (Q := fun u => u.byte (scratchAddr b (q + 2 * k + j)) = leAt (s.slot (g k)) (20 + j) 1) (List.mem_range.mpr hk) hset
    (fun u i hi hu => ?_) s
  have hin := List.mem_range.mp hi
  by_cases hik : i = k
  · subst hik
    exact hset u
  · rw [State.gatherEntry_eq, State.byte_putQuality_other, State.byte_setScratch_other, hu]
    · rw [length_toLE]
      unfold scratchAddr
      obtain rfl | rfl := hw <;> omega
    · unfold scratchAddr
      omega

theorem State.byte_gathered_other (hw : w = 4 ∨ w = 8) {y : Nat} (hv : y < scratchAddr b a ∨ scratchAddr b (a + n * w) ≤ y)
    (hq : q = 0xFFFFFFFF ∨ y < scratchAddr b q ∨ scratchAddr b (q + 2 * n) ≤ y) : (s.gathered b a q w n g).byte y = s.byte y := by
  refine State.view_forAll (g := fun u => u.byte y) (fun u k hk => ?_) s
  have hin := List.mem_range.mp hk
  unfold scratchAddr at hv hq
  rw [State.gatherEntry_eq, State.byte_putQuality_other, State.byte_setScratch_other]
  · rw [length_toLE]
    unfold scratchAddr
    obtain rfl | rfl := hw <;> omega
  · unfold scratchAddr
    omega

theorem Only.gathered : Only [] [] { s with mem := (s.gathered b a q w n g).mem } (s.gathered b a q w n g) := by
  rw [State.gathered, s.forAll_mem (fun u k => u.gatherEntry_mem b s a q w k (g k))]
  exact Only.refl _

end

end Sys2Proof.Machine
end

section
/-!
SUPPORT. SGATHER, SWRITE, SSCATTER and FSEND (R359, R360, R392 to R395).
-/
namespace Sys2Proof.Machine

section
variable {s : State} {o : MemOp} {b : BenchNo} {x : MemSlot} {imm : Fin 262144} {e : BenchEnv}

/-! ### SGATHER -/

theorem memOk_narrow (h : memOk o x = true) (ho : o = .sgather ∨ o = .swrite) : x.size.val = 2 ∨ x.size.val = 3 := by
  have hsize : o.sizeOk x.size = true := by
    simp only [memOk, Bool.and_eq_true] at h
    obtain ⟨⟨⟨⟨⟨⟨-, hsize⟩, -⟩, -⟩, -⟩, -⟩, -⟩ := h
    exact hsize
  have hz : (x.size.val == 2 || x.size.val == 3) = true := by obtain rfl | rfl := ho <;> exact hsize
  simpa using hz

theorem sizeOctets_narrow (h : x.size.val = 2 ∨ x.size.val = 3) : sizeOctets x.size = 2 ^ x.size.val ∧ (sizeOctets x.size = 4 ∨ sizeOctets x.size = 8) := by
  unfold sizeOctets
  obtain h | h := h <;> rw [h] <;> decide

/-- The check of the areas of an SGATHER. -/
def State.gatherTrap (s : State) (b : Nat) (x : MemSlot) (e : BenchEnv) : Option Nat :=
  firstTrap [scratchTrap (s.sReg b x.ra) (s.sReg b x.rc * sizeOctets x.size) false e, scratchTrap (s.sReg b x.rb) (4 * s.sReg b x.rc) true e,
    if s.sReg b x.rd = 0xFFFFFFFF then none else scratchTrap (s.sReg b x.rd) (2 * s.sReg b x.rc) false e]

theorem memTrap_sgather_eq : s.memTrap b .sgather x imm e = match s.gatherTrap b x e with
    | some c => some (s, c)
    | none => (slotTrap (s.slotList b (s.sReg b x.rb) (s.sReg b x.rc) 4)).map fun c => (s, c) := rfl

/-- The areas of an SGATHER lie in scratch. -/
def State.gatherFits (s : State) (b : Nat) (x : MemSlot) : Prop :=
  s.sReg b x.ra + s.sReg b x.rc * sizeOctets x.size ≤ 262144 ∧ s.sReg b x.rb + 4 * s.sReg b x.rc ≤ 262144
    ∧ (s.sReg b x.rd = 0xFFFFFFFF ∨ s.sReg b x.rd + 2 * s.sReg b x.rc ≤ 262144)

theorem gatherTrap_out (h : ¬s.gatherFits b x) (he : e.scratchBad = false) : s.gatherTrap b x e = some 2 := by
  unfold State.gatherTrap
  obtain ha | ha := Nat.lt_or_ge 262144 (s.sReg b x.ra + s.sReg b x.rc * sizeOctets x.size)
  · rw [scratchTrap_out _ _ ha]
    rfl
  · rw [scratchTrap_none ha (.inl rfl)]
    obtain hl | hl := Nat.lt_or_ge 262144 (s.sReg b x.rb + 4 * s.sReg b x.rc)
    · rw [scratchTrap_out _ _ hl]
      rfl
    · rw [scratchTrap_none hl (.inr he)]
      have hq : ¬(s.sReg b x.rd = 0xFFFFFFFF ∨ s.sReg b x.rd + 2 * s.sReg b x.rc ≤ 262144) := fun hq => h ⟨ha, hl, hq⟩
      obtain ⟨hne, hout⟩ := not_or.mp hq
      rw [if_neg hne, scratchTrap_out _ _ (Nat.lt_of_not_le hout)]
      rfl

theorem gatherTrap_bad (h : s.gatherFits b x) (he : e.scratchBad = true) : s.gatherTrap b x e = some 8 := by
  obtain ⟨ha, hl, -⟩ := h
  unfold State.gatherTrap
  rw [scratchTrap_none ha (.inl rfl), scratchTrap_bad hl he]
  rfl

theorem gatherTrap_none (h : s.gatherFits b x) (he : e.scratchBad = false) : s.gatherTrap b x e = none := by
  obtain ⟨ha, hl, hq⟩ := h
  unfold State.gatherTrap
  rw [scratchTrap_none ha (.inl rfl), scratchTrap_none hl (.inr he)]
  split
  · rfl
  · next hne =>
    rw [scratchTrap_none (hq.resolve_left hne) (.inl rfl)]
    rfl

theorem slotTrap_slotList {a n w : Nat} :
    slotTrap (s.slotList b a n w) = if ∃ k, k < n ∧ 131071 < ofLE (s.scratch b (a + w * k) 4) then some 4 else none := by
  unfold slotTrap State.slotList
  refine if_congr ?_ rfl rfl
  simp

theorem slotTrap_above {a n w : Nat} (h : ∃ k, k < n ∧ 131071 < ofLE (s.scratch b (a + w * k) 4)) : slotTrap (s.slotList b a n w) = some 4 :=
  slotTrap_slotList.trans (if_pos h)

theorem slotTrap_none {a n w : Nat} (h : ∀ k, k < n → ofLE (s.scratch b (a + w * k) 4) ≤ 131071) : slotTrap (s.slotList b a n w) = none := by
  refine slotTrap_slotList.trans (if_neg ?_)
  rintro ⟨k, hk, hout⟩
  exact Nat.not_le.mpr hout (h k hk)

theorem zipIdx_map_range (f : Nat → Nat) (n : Nat) : ((List.range n).map f).zipIdx = (List.range n).map fun k => (f k, k) := by
  refine List.ext_getElem (by simp) fun i h1 h2 => ?_
  simp

/-- What SGATHER does, entry by entry. -/
theorem runMem_sgather : s.runMem s b .sgather x imm e = s.gathered b (s.sReg b x.ra) (s.sReg b x.rd) (sizeOctets x.size) (s.sReg b x.rc)
    fun k => ofLE (s.scratch b (s.sReg b x.rb + 4 * k) 4) := by
  have hrun : s.runMem s b .sgather x imm e = s.forAll (s.slotList b (s.sReg b x.rb) (s.sReg b x.rc) 4).zipIdx
      (fun u t => s.gatherEntry u b (s.sReg b x.ra) (s.sReg b x.rd) (sizeOctets x.size) t.2 t.1) := rfl
  rw [hrun]
  unfold State.slotList State.gathered State.forAll
  rw [zipIdx_map_range, List.foldl_map]

theorem exec_sgather_out (h : s.issues b .sgather x) (hf : ¬s.gatherFits b x) (he : e.scratchBad = false) :
    ∃ t, exec (.sgather b x imm e) s = .next t ∧ t.trapped s b 2 :=
  exec_mem_traps (o := .sgather) h (State.memStalls_other (by decide)) (by rw [memTrap_sgather_eq, gatherTrap_out hf he])

theorem exec_sgather_bad (h : s.issues b .sgather x) (hf : s.gatherFits b x) (he : e.scratchBad = true) :
    ∃ t, exec (.sgather b x imm e) s = .next t ∧ t.trapped s b 8 :=
  exec_mem_traps (o := .sgather) h (State.memStalls_other (by decide)) (by rw [memTrap_sgather_eq, gatherTrap_bad hf he])

theorem exec_sgather_above (h : s.issues b .sgather x) (hf : s.gatherFits b x) (he : e.scratchBad = false)
    (ha : ∃ k, k < s.sReg b x.rc ∧ 131071 < ofLE (s.scratch b (s.sReg b x.rb + 4 * k) 4)) :
    ∃ t, exec (.sgather b x imm e) s = .next t ∧ t.trapped s b 4 := by
  refine exec_mem_traps (o := .sgather) h (State.memStalls_other (by decide)) ?_
  rw [memTrap_sgather_eq, gatherTrap_none hf he, slotTrap_above ha]
  rfl

theorem exec_sgather_shows (h : s.issues b .sgather x) (hf : s.gatherFits b x) (he : e.scratchBad = false)
    (hslots : ∀ k, k < s.sReg b x.rc → ofLE (s.scratch b (s.sReg b x.rb + 4 * k) 4) ≤ 131071) :
    exec (.sgather b x imm e) s = .next (s.gathered b (s.sReg b x.ra) (s.sReg b x.rd) (sizeOctets x.size) (s.sReg b x.rc)
      fun k => ofLE (s.scratch b (s.sReg b x.rb + 4 * k) 4)).deliverDue := by
  have htrap : s.memTrap b .sgather x imm e = none := by
    rw [memTrap_sgather_eq, gatherTrap_none hf he, slotTrap_none hslots]
    rfl
  exact exec_mem_runs (o := .sgather) h (State.memStalls_other (by decide)) htrap runMem_sgather

/-! ### FSEND -/

theorem exec_fsend_full (hq : (s.sendQueue b).length = 16) : exec (.fsend b x imm e) s = .next s.deliverDue := by
  refine exec_mem_stalls (o := .fsend) ?_
  unfold State.memStalls
  rw [hq]
  rfl

theorem memStalls_fsend (hq : (s.sendQueue b).length < 16) : s.memStalls b .fsend = false := by
  unfold State.memStalls
  rw [decide_eq_false (by omega), Bool.and_false]

theorem exec_fsend_out (h : s.issues b .fsend x) (hq : (s.sendQueue b).length < 16) (hout : 262144 < s.sReg b x.ra + s.sReg b x.rb) :
    ∃ t, exec (.fsend b x imm e) s = .next t ∧ t.trapped s b 2 :=
  exec_mem_traps (o := .fsend) h (memStalls_fsend hq) (congrArg (Option.map fun c => (s, c)) (scratchTrap_out false e hout))

theorem exec_fsend_shows (h : s.issues b .fsend x) (hq : (s.sendQueue b).length < 16) (hin : s.sReg b x.ra + s.sReg b x.rb ≤ 262144) :
    ∃ t, exec (.fsend b x imm e) s = .next t ∧ t.sendQueue b = s.sendQueue b ++ [s.sReg b x.ra * 2 ^ 32 + s.sReg b x.rb]
      ∧ Only [] [Tab.benchSend] s t := by
  have htrap : s.memTrap b .fsend x imm e = none := congrArg (Option.map fun c => (s, c)) (scratchTrap_none hin (.inl rfl))
  let u := s.setSendQueue b (s.sendQueue b ++ [s.sReg b x.ra * 2 ^ 32 + s.sReg b x.rb])
  have hu : u.sendQueue b = s.sendQueue b ++ [s.sReg b x.ra * 2 ^ 32 + s.sReg b x.rb] := State.sendQueue_setSendQueue _ _ (by simpa using hq)
  have honly : Only [] [Tab.benchSend] s u := Only.setSendQueue _ _ b.isLt (by simp)
  have hdue : Only [] [] u u.deliverDue := Only.deliverDue _
  exact ⟨u.deliverDue, exec_mem_runs (o := .fsend) h (memStalls_fsend hq) htrap rfl, ((Calm.of hdue).sendQueue b.isLt (by simp)).trans hu,
    honly.trans (hdue.mono (by simp) (by simp))⟩

/-! ### Slot writes (R359, R360, R394) -/

/-- A bench may write slot `m`. -/
def State.slotAllowed (s : State) (m : Nat) : Prop := bit (s.slotAttr m) 125 = true ∧ attrForce (s.slotAttr m) = false

/-- A write that R359 discards is shown in STATUS, and counted. -/
def State.discardShown (s : State) (b : Nat) : State := (s.setStatus b 0).count (Ctr.bench b 6)

/-- What a bench writes to a slot. -/
def State.benchRecord (s : State) (b n value quality seq : Nat) : SlotWrite := ⟨n, value, quality, seq, stampOf s.clock.ptp, 0x8000 + b⟩

section
variable {n value quality seq : Nat}

theorem State.benchSlotWrite_rejected (h : bit (s.slotAttr n) 125 = false) :
    s.benchSlotWrite b n value quality seq e = (s.bump Reg.SIGNAL_CONTROL.RECORDS_REJECTED 64).discardShown b := by
  unfold State.benchSlotWrite State.writeBench
  dsimp only
  rw [h]
  rfl

theorem State.benchSlotWrite_forced (h : bit (s.slotAttr n) 125 = true) (hf : attrForce (s.slotAttr n) = true) :
    s.benchSlotWrite b n value quality seq e = (s.bump Reg.SIGNAL_CONTROL.FORCE_DISCARDS 64).discardShown b := by
  unfold State.benchSlotWrite State.writeBench
  dsimp only
  rw [h, hf]
  rfl

theorem State.benchSlotWrite_lost (h : s.slotAllowed n) (hl : e.lost.contains n = true) :
    s.benchSlotWrite b n value quality seq e = s.loseWrite n := by
  obtain ⟨h, hf⟩ := h
  unfold State.benchSlotWrite State.writeBench
  dsimp only
  rw [h, hf, hl]
  simp only [Bool.not_true, Bool.false_eq_true, if_false, if_true]

theorem State.benchSlotWrite_put (h : s.slotAllowed n) (hl : e.lost.contains n = false) :
    s.benchSlotWrite b n value quality seq e = s.putSlot (s.benchRecord b n value quality seq) none := by
  obtain ⟨h, hf⟩ := h
  unfold State.benchSlotWrite State.writeBench
  dsimp only
  rw [h, hf, hl]
  simp only [Bool.not_true, Bool.false_eq_true, if_false, if_true, State.benchRecord]

end

end

end Sys2Proof.Machine
end

section
/-!
SUPPORT and PROOF. SWRITE and SSCATTER, and the memory unit as a whole (R359, R360, R394, R428).
-/
namespace Sys2Proof.Machine

section
variable {s : State} {b : BenchNo} {x : MemSlot} {imm : Fin 262144} {e : BenchEnv} {n value quality seq : Nat}

/-! ### One write of a bench -/

/-- An accepted write of a bench fills its slot. -/
theorem State.putSlot_takes (hn : n < 2 ^ 40) (hq : quality < 65536) (hs : seq < 65536) :
    (s.putSlot (s.benchRecord b n value quality seq) none).slotTakes s b n value quality seq := by
  have hfill := s.putSlot_taken (s.benchRecord b n value quality seq) none hn
  have hvalue : slotValue ((s.putSlot (s.benchRecord b n value quality seq) none).slot n) = (s.storedValue (attrType (s.slotAttr n)) value).2 :=
    hfill.value.trans (Nat.mod_eq_of_lt (s.storedValue_lt _ _))
  refine ⟨fun h1 => hvalue.trans (s.storedValue_bits _ h1), fun h1 => ?_, hfill.quality.trans (Nat.mod_eq_of_lt hq), hfill.srcSeq.trans (Nat.mod_eq_of_lt hs),
    hfill.producer.trans (Nat.mod_eq_of_lt ?_), hfill.type.trans (Nat.mod_eq_of_lt (Nat.lt_trans (bits_lt _ _ _) (by decide))), hfill.stamp, hfill.seq,
    hfill.stale, hfill.kept⟩
  · obtain ⟨hle, heq⟩ := s.storedValue_bool value
    rw [h1] at hvalue
    exact ⟨hvalue.trans_le hle, fun h => hvalue.trans (heq h)⟩
  · change 0x8000 + b.val < 2 ^ 16
    omega

/-- What a write of a bench makes of its slot rests on that slot, its ATTR and the clock. -/
theorem State.slotTakes.congr {t u : State} (h : t.slotTakes u b n value quality seq) (hslot : u.slot n = s.slot n) (hattr : u.slotAttr n = s.slotAttr n)
    (hclock : u.clock = s.clock) : t.slotTakes s b n value quality seq := by
  unfold State.slotTakes at *
  rwa [hslot, hattr, hclock] at h

theorem State.slotTakes.of_slot {t u : State} (h : u.slotTakes s b n value quality seq) (hslot : t.slot n = u.slot n) :
    t.slotTakes s b n value quality seq := by
  unfold State.slotTakes at *
  rwa [hslot]

theorem Only.discardShown (s : State) : Only [] [Tab.benchCw] s (s.discardShown b) :=
  (Only.setStatus _ _ b.isLt (by simp)).trans (Only.benchCounted _ _ _ b.isLt (by decide))

theorem State.status_discardShown (s : State) : bit ((s.discardShown b).cw b Cw.status) 0 = true := by
  have hcounted : Only [] [] (s.setStatus b 0) (s.discardShown b) := Only.benchCounted _ _ _ b.isLt (by decide)
  rw [hcounted.cw b.isLt (by decide) (by simp)]
  exact (congrArg (bit · 0) (State.cw_setCw_same _ _ _ _)).trans (bit_setBit _ _ _)

/-- A discarded write is counted once and shown. -/
theorem State.discarded_shows (s : State) {k : Nat} (hq : quietReg k = true) :
    ((s.bump k 64).discardShown b).deliverDue.reg k = (s.reg k + 1) % 2 ^ 64
      ∧ bit (((s.bump k 64).discardShown b).deliverDue.cw b Cw.status) 0 = true
      ∧ Only [k] [Tab.benchCw] s ((s.bump k 64).discardShown b).deliverDue := by
  have hcount : Only [k] [] s (s.bump k 64) := Only.bump _ _ _ _ (.inl (by simp))
  have hshown : Only [] [Tab.benchCw] (s.bump k 64) ((s.bump k 64).discardShown b) := Only.discardShown _
  have hdue : Only [] [] ((s.bump k 64).discardShown b) ((s.bump k 64).discardShown b).deliverDue := Only.deliverDue _
  refine ⟨?_, ?_, ((hcount.mono (by simp) (by simp)).trans (hshown.mono (by simp) (by simp))).trans (hdue.mono (by simp) (by simp))⟩
  · rw [hdue.regs _ (by simp) hq, hshown.regs _ (by simp) hq, State.reg_bump, if_pos rfl]
  · rw [hdue.cw b.isLt (by decide) (by simp)]
    exact State.status_discardShown _

/-! ### SWRITE -/

theorem exec_swrite_eq (h : s.issues b .swrite x) (hslot : s.sReg b x.ra ≤ 131071) : exec (.swrite b x imm e) s
    = .next (s.benchSlotWrite b (s.sReg b x.ra) (if x.size.val = 2 then s.sReg b x.rb % 2 ^ 32 else s.sReg b x.rb) (s.sReg b x.rc % 65536)
      (s.sReg b x.rd % 65536) e).deliverDue :=
  exec_mem_runs (o := .swrite) h (State.memStalls_other (by decide)) (congrArg (Option.map fun c => (s, c)) (slotTrap_ok hslot)) rfl

/-- A loss sets a flag of its slot alone. -/
theorem State.slot_loseWrite (s : State) {n : Nat} (hn : n < 2 ^ 40) :
    (s.loseWrite n).slot n = setLe (s.slot n) 27 1 (setBit (slotFlags (s.slot n)) 0 true) := by
  have heq : s.loseWrite n = (((s.setLost n true).bump Reg.SIGNAL_CONTROL.WRITE_LOST_COUNT 64).setReg
      Reg.SIGNAL_CONTROL.LAST_WRITE_LOST_SLOT n).event Reg.SIGNAL_CONTROL.EVENTS 0 0x1A00 := rfl
  rw [heq, State.slot_event _ _ _ _ hn]
  exact State.slot_setSlot_same _ _ _

/-- A write that loses to port A. -/
theorem State.lost_shows (s : State) {n : Nat} (hn : n < 2 ^ 40) : bit (slotFlags ((s.loseWrite n).deliverDue.slot n)) 0 = true
    ∧ slotValue ((s.loseWrite n).deliverDue.slot n) = slotValue (s.slot n)
    ∧ (s.loseWrite n).deliverDue.reg Reg.SIGNAL_CONTROL.WRITE_LOST_COUNT = (s.reg Reg.SIGNAL_CONTROL.WRITE_LOST_COUNT + 1) % 2 ^ 64
    ∧ (s.loseWrite n).deliverDue.reg Reg.SIGNAL_CONTROL.LAST_WRITE_LOST_SLOT = n
    ∧ bit ((s.loseWrite n).deliverDue.reg Reg.SIGNAL_CONTROL.EVENTS) 0 = true
    ∧ Only [Reg.SIGNAL_CONTROL.WRITE_LOST_COUNT, Reg.SIGNAL_CONTROL.LAST_WRITE_LOST_SLOT, Reg.SIGNAL_CONTROL.EVENTS, Reg.SIGNAL_CONTROL.EVENTS + 1]
        [Tab.win 0x7010] s (s.loseWrite n).deliverDue := by
  obtain ⟨hlost, -, hlast, hcount, hev, honly⟩ := s.loseWrite_shows hn
  have hdue : Only [] [] (s.loseWrite n) (s.loseWrite n).deliverDue := Only.deliverDue _
  have hslot : (s.loseWrite n).deliverDue.slot n = (s.loseWrite n).slot n := hdue.slot hn (by simp)
  refine ⟨(congrArg (fun v => bit (slotFlags v) 0) hslot).trans hlost, ?_, (hdue.regs _ (by simp) (by decide)).trans hcount,
    (hdue.regs _ (by simp) (by decide)).trans hlast, (congrArg (bit · 0) (hdue.regs _ (by simp) (by decide))).trans hev,
    (honly.mono (by unfold lossRegs; simp) (List.Subset.refl _)).trans (hdue.mono (List.nil_subset _) (List.nil_subset _))⟩
  rw [hslot, s.slot_loseWrite hn]
  exact leAt_setLe_other _ _ (by decide) (by decide) (by decide)

/-- An accepted write leaves every other slot, and changes the image alone. -/
theorem State.put_shows (s : State) {w : SlotWrite} (hn : w.slot < 2 ^ 40) : (s.putSlot w none).deliverDue.slot w.slot = (s.putSlot w none).slot w.slot
    ∧ (∀ m, m < 131072 → m ≠ w.slot → (s.putSlot w none).deliverDue.slot m = s.slot m)
    ∧ Only [] [Tab.win 0x7010, Tab.slotWritten, Tab.mirrorDirty] { s with freeCtr := (s.putSlot w none).deliverDue.freeCtr } (s.putSlot w none).deliverDue := by
  have hdue : Only [] [] (s.putSlot w none) (s.putSlot w none).deliverDue := Only.deliverDue _
  refine ⟨hdue.slot hn (by simp), fun m hm hne => (hdue.slot (by omega) (by simp)).trans (s.slot_putSlot_other w none hn (by omega) hne), ?_⟩
  exact Only.drawn (Only.putSlot s w none hn) (hdue.mono (by simp) (by simp)).withDrawn

/-! ### SSCATTER -/

/-- The registers and tables of the writes of a bench. -/
def scatterRegs : List Nat := [Reg.SIGNAL_CONTROL.RECORDS_REJECTED, Reg.SIGNAL_CONTROL.FORCE_DISCARDS]
def scatterTabs : List Nat := [Tab.win 0x7010, Tab.slotWritten, Tab.mirrorDirty, Tab.benchCw]

/-- A write of a bench in a clock without one of port A: stored where the slot allows it, or else counted and shown. -/
theorem State.benchSlotWrite_cases (hl : e.lost = []) :
    (s.slotAllowed n ∧ s.benchSlotWrite b n value quality seq e = s.putSlot (s.benchRecord b n value quality seq) none)
      ∨ (¬s.slotAllowed n ∧ ∃ k ∈ scatterRegs, s.benchSlotWrite b n value quality seq e = (s.bump k 64).discardShown b) := by
  have hnone : e.lost.contains n = false := by
    rw [hl]
    rfl
  cases h : bit (s.slotAttr n) 125
  · exact .inr ⟨fun ha => absurd (ha.1.symm.trans h) (by decide), _, by simp [scatterRegs], State.benchSlotWrite_rejected h⟩
  · cases hf : attrForce (s.slotAttr n)
    · exact .inl ⟨⟨h, hf⟩, State.benchSlotWrite_put ⟨h, hf⟩ hnone⟩
    · exact .inr ⟨fun ha => absurd (ha.2.symm.trans hf) (by decide), _, by simp [scatterRegs], State.benchSlotWrite_forced h hf⟩

theorem Only.discarded (s : State) {k : Nat} (hk : k ∈ scatterRegs) : Only scatterRegs [Tab.benchCw] s ((s.bump k 64).discardShown b) :=
  (Only.bump _ _ _ _ (.inl hk)).trans ((Only.discardShown _).mono (List.nil_subset _) (List.Subset.refl _))

theorem Only.benchSlotWrite (hl : e.lost = []) (hn : n < 2 ^ 40) : Only scatterRegs scatterTabs
    { s with freeCtr := (s.benchSlotWrite b n value quality seq e).freeCtr } (s.benchSlotWrite b n value quality seq e) := by
  obtain ⟨-, heq⟩ | ⟨-, k, hk, heq⟩ := State.benchSlotWrite_cases (s := s) (b := b) (n := n) (value := value) (quality := quality) (seq := seq) hl
  all_goals rw [heq]
  · exact (Only.putSlot s _ none hn).mono (List.Subset.refl _) (by simp [imageTabs, scatterTabs])
  · exact ((Only.discarded s hk).mono (List.Subset.refl _) (by simp [scatterTabs])).withDrawn

/-- What a write of a bench keeps of every slot but an allowed one of its own. -/
theorem State.slot_benchSlotWrite (hl : e.lost = []) (hn : n < 2 ^ 40) {m : Nat} (hm : m < 2 ^ 40) (h : m ≠ n ∨ ¬s.slotAllowed m) :
    (s.benchSlotWrite b n value quality seq e).slot m = s.slot m := by
  obtain ⟨ha, heq⟩ | ⟨-, k, hk, heq⟩ := State.benchSlotWrite_cases (s := s) (b := b) (n := n) (value := value) (quality := quality) (seq := seq) hl
  all_goals rw [heq]
  · have hne : m ≠ n := h.elim id fun hno he => hno (he ▸ ha)
    exact s.slot_putSlot_other _ none hn hm hne
  · exact (Only.discarded s hk).slot hm (by decide)

theorem State.attr_benchSlotWrite (hl : e.lost = []) (hn : n < 2 ^ 40) {m : Nat} (hm : m < 2 ^ 40) :
    (s.benchSlotWrite b n value quality seq e).slotAttr m = s.slotAttr m ∧ (s.benchSlotWrite b n value quality seq e).clock = s.clock := by
  have honly := Only.benchSlotWrite (s := s) (b := b) (value := value) (quality := quality) (seq := seq) hl hn
  exact ⟨honly.slotAttr hm (by decide), honly.clock⟩

/-- STATUS shows a discarded write, and goes on showing it. -/
theorem State.status_benchSlotWrite (hl : e.lost = []) (hn : n < 2 ^ 40) (h : ¬s.slotAllowed n ∨ bit (s.cw b Cw.status) 0 = true) :
    bit ((s.benchSlotWrite b n value quality seq e).cw b Cw.status) 0 = true := by
  obtain ⟨ha, heq⟩ | ⟨-, k, hk, heq⟩ := State.benchSlotWrite_cases (s := s) (b := b) (n := n) (value := value) (quality := quality) (seq := seq) hl
  all_goals rw [heq]
  · have hkeep := (Only.putSlot (R := []) s (s.benchRecord b n value quality seq) none hn).cw b.isLt (k := Cw.status) (by decide) (by decide)
    rw [hkeep]
    exact h.resolve_left (not_not.mpr ha)
  · exact State.status_discardShown _

/-- The writes of a list of records: record `k` names slot `g k`. -/
def State.scattered (s : State) (b : Nat) (e : BenchEnv) (g v q r : Nat → Nat) (n : Nat) : State :=
  s.forAll (List.range n) fun u k => u.benchSlotWrite b (g k) (v k) (q k) (r k) e

section
variable {g v q r : Nat → Nat}

theorem Only.scattered (hl : e.lost = []) (hg : ∀ k, k < n → g k ≤ 131071) :
    Only scatterRegs scatterTabs { s with freeCtr := (s.scattered b e g v q r n).freeCtr } (s.scattered b e g v q r n) := by
  refine State.forAll_invariant (Q := fun u => Only scatterRegs scatterTabs { s with freeCtr := u.freeCtr } u) (fun u k hk hu => ?_) (Only.refl s)
  have hlt := hg k (List.mem_range.mp hk)
  exact Only.drawn hu (Only.benchSlotWrite hl (by omega))

/-- A slot that is allowed takes its record, where no two records name one slot. -/
theorem State.scattered_takes (hl : e.lost = []) (hg : ∀ k, k < n → g k ≤ 131071) (hdist : ∀ j k, j < k → k < n → g j ≠ g k)
    (hq : ∀ k, q k < 65536) (hr : ∀ k, r k < 65536) {k : Nat} (hk : k < n) (ha : s.slotAllowed (g k)) :
    (s.scattered b e g v q r n).slotTakes s b (g k) (v k) (q k) (r k) := by
  have hlt {j : Nat} (hj : j ∈ List.range n) : g j < 2 ^ 40 := by
    have := hg j (List.mem_range.mp hj)
    omega
  have hne {j : Nat} (hj : j ∈ List.range n) (hjk : j ≠ k) : g k ≠ g j := by
    obtain h | h := Nat.lt_or_gt_of_ne hjk
    · exact (hdist j k h hk).symm
    · exact hdist k j h (List.mem_range.mp hj)
  have hkin : k ∈ List.range n := List.mem_range.mpr hk
  refine State.forAll_once (Q := fun t => t.slotTakes s b (g k) (v k) (q k) (r k)) (g := fun u => (u.slot (g k), u.slotAttr (g k), u.clock)) List.nodup_range hkin (fun u j hj hjk => ?_) (fun u hu => ?_)
    fun u j hj hjk hu => ?_
  · obtain ⟨hattr, hclock⟩ := State.attr_benchSlotWrite (s := u) (b := b) (n := g j) (value := v j) (quality := q j) (seq := r j) hl (hlt hj) (hlt hkin)
    have hslot := State.slot_benchSlotWrite (s := u) (b := b) (value := v j) (quality := q j) (seq := r j) hl (hlt hj) (hlt hkin) (.inl (hne hj hjk))
    rw [hslot, hattr, hclock]
  · simp only [Prod.mk.injEq] at hu
    obtain ⟨hslot, hattr, hclock⟩ := hu
    have hallowed : u.slotAllowed (g k) := by
      unfold State.slotAllowed
      rwa [hattr]
    obtain ⟨-, heq⟩ | ⟨hno, -⟩ := State.benchSlotWrite_cases (s := u) (b := b) (n := g k) (value := v k) (quality := q k) (seq := r k) hl
    · rw [heq]
      exact (State.putSlot_takes (hlt hkin) (hq k) (hr k)).congr hslot hattr hclock
    · exact absurd hallowed hno
  · exact hu.of_slot (State.slot_benchSlotWrite hl (hlt hj) (hlt hkin) (.inl (hne hj hjk)))

/-- A slot that no record names, or that is not allowed, is as it was. -/
theorem State.slot_scattered_other (hl : e.lost = []) (hg : ∀ k, k < n → g k ≤ 131071) {m : Nat} (hm : m < 2 ^ 40)
    (h : ∀ k, k < n → g k = m → ¬s.slotAllowed m) : (s.scattered b e g v q r n).slot m = s.slot m := by
  have hkept : (s.scattered b e g v q r n).slot m = s.slot m ∧ (s.scattered b e g v q r n).slotAttr m = s.slotAttr m := by
    refine State.forAll_invariant (Q := fun u => u.slot m = s.slot m ∧ u.slotAttr m = s.slotAttr m) (fun u k hk hu => ?_) ⟨rfl, rfl⟩
    have hkn := List.mem_range.mp hk
    have hlt : g k < 2 ^ 40 := by
      have := hg k hkn
      omega
    obtain ⟨hslot, hattr⟩ := hu
    refine ⟨(State.slot_benchSlotWrite hl hlt hm ?_).trans hslot, (State.attr_benchSlotWrite hl hlt hm).1.trans hattr⟩
    by_cases hmk : m = g k
    · refine .inr fun ha => h k hkn hmk.symm ?_
      unfold State.slotAllowed at *
      rwa [hattr] at ha
    · exact .inl hmk
  exact hkept.1

/-- A discarded record is shown in STATUS. -/
theorem State.status_scattered (hl : e.lost = []) (hg : ∀ k, k < n → g k ≤ 131071) (h : ∃ k, k < n ∧ ¬s.slotAllowed (g k)) :
    bit ((s.scattered b e g v q r n).cw b Cw.status) 0 = true := by
  obtain ⟨k, hk, hno⟩ := h
  have hlt {j : Nat} (hj : j ∈ List.range n) : g j < 2 ^ 40 := by
    have := hg j (List.mem_range.mp hj)
    omega
  have hkin : k ∈ List.range n := List.mem_range.mpr hk
  refine State.forAll_once (Q := fun u => bit (u.cw b Cw.status) 0 = true) (g := fun u => u.slotAttr (g k)) List.nodup_range hkin
    (fun u j hj _ => (State.attr_benchSlotWrite hl (hlt hj) (hlt hkin)).1) (fun u hu => State.status_benchSlotWrite hl (hlt hkin) (.inl fun ha => hno ?_))
    fun u j hj _ hu => State.status_benchSlotWrite hl (hlt hj) (.inr hu)
  unfold State.slotAllowed at *
  rwa [hu] at ha

end

end

end Sys2Proof.Machine
end

section
/-!
SUPPORT and PROOF. SSCATTER's records, and the memory unit as a whole (R394, R428).
-/
namespace Sys2Proof.Machine

theorem State.bytesFrom_append (s : State) (a m n : Nat) : s.bytesFrom a (m + n) = s.bytesFrom a m ++ s.bytesFrom (a + m) n := by
  induction m generalizing a with
  | zero => rw [Nat.zero_add]; rfl
  | succ m ih =>
    rw [Nat.add_right_comm, State.bytesFrom, State.bytesFrom, ih, List.cons_append, Nat.add_assoc a 1 m, Nat.add_comm 1 m]

theorem State.drop_bytesFrom (s : State) (a m n : Nat) : (s.bytesFrom a (m + n)).drop m = s.bytesFrom (a + m) n := by
  rw [State.bytesFrom_append, List.drop_left' (State.length_bytesFrom _ _ _)]

theorem State.take_bytesFrom (s : State) (a m n : Nat) : (s.bytesFrom a (m + n)).take m = s.bytesFrom a m := by
  rw [State.bytesFrom_append, List.take_left' (State.length_bytesFrom _ _ _)]

section
variable {s : State} {b : BenchNo} {x : MemSlot} {imm : Fin 262144} {e : BenchEnv}

/-- Field `off` to `off + len - 1` of record `k` of a list at scratch address `l` (R394). -/
def State.scatterField (s : State) (b l k off len : Nat) : Nat := ofLE (s.scratch b (l + 16 * k + off) len)

theorem State.scatterRecord (s : State) (b l k : Nat) :
    ofLE ((s.scratch b (l + 16 * k) 16).take 4) = s.scatterField b l k 0 4 ∧ ofLE ((s.scratch b (l + 16 * k) 16).drop 8) = s.scatterField b l k 8 8
      ∧ ofLE (((s.scratch b (l + 16 * k) 16).drop 4).take 2) = s.scatterField b l k 4 2
      ∧ ofLE (((s.scratch b (l + 16 * k) 16).drop 6).take 2) = s.scatterField b l k 6 2 := by
  have haddr (off : Nat) : scratchAddr b (l + 16 * k) + off = scratchAddr b (l + 16 * k + off) := by
    unfold scratchAddr
    omega
  unfold State.scatterField State.scratch
  refine ⟨congrArg ofLE (s.take_bytesFrom _ 4 12), congrArg ofLE ?_, congrArg ofLE ?_, congrArg ofLE ?_⟩
  · exact (s.drop_bytesFrom _ 8 8).trans (by rw [haddr])
  · rw [s.drop_bytesFrom _ 4 12, haddr]
    exact s.take_bytesFrom _ 2 10
  · rw [s.drop_bytesFrom _ 6 10, haddr]
    exact s.take_bytesFrom _ 2 8

theorem State.scatterField_lt (s : State) (b l k off : Nat) : s.scatterField b l k off 2 < 65536 := by
  have h := ofLE_lt (s.scratch b (l + 16 * k + off) 2)
  rwa [show (s.scratch b (l + 16 * k + off) 2).length = 2 from State.length_bytesFrom _ _ _] at h

/-- What SSCATTER does, record by record. -/
def State.scatteredList (s : State) (b : Nat) (l n : Nat) (e : BenchEnv) : State :=
  s.scattered b e (s.scatterField b l · 0 4) (s.scatterField b l · 8 8) (s.scatterField b l · 4 2) (s.scatterField b l · 6 2) n

theorem runMem_sscatter : s.runMem s b .sscatter x imm e = s.scatteredList b (s.sReg b x.ra) (s.sReg b x.rb) e := by
  have hrun : s.runMem s b .sscatter x imm e = s.forAll (List.range (s.sReg b x.rb)) fun u k =>
      u.benchSlotWrite b (ofLE ((s.scratch b (s.sReg b x.ra + 16 * k) 16).take 4)) (ofLE ((s.scratch b (s.sReg b x.ra + 16 * k) 16).drop 8))
        (ofLE (((s.scratch b (s.sReg b x.ra + 16 * k) 16).drop 4).take 2)) (ofLE (((s.scratch b (s.sReg b x.ra + 16 * k) 16).drop 6).take 2)) e := rfl
  rw [hrun]
  unfold State.scatteredList State.scattered
  refine congrArg (s.forAll (List.range (s.sReg b x.rb))) (funext₂ fun u k => ?_)
  obtain ⟨hslot, hvalue, hquality, hseq⟩ := s.scatterRecord b (s.sReg b x.ra) k
  rw [hslot, hvalue, hquality, hseq]

theorem memTrap_sscatter {c : Option Nat} (hin : s.sReg b x.ra + 16 * s.sReg b x.rb ≤ 262144) (he : e.scratchBad = false)
    (hc : slotTrap (s.slotList b (s.sReg b x.ra) (s.sReg b x.rb) 16) = c) : s.memTrap b .sscatter x imm e = c.map fun c => (s, c) := by
  unfold State.memTrap
  dsimp only
  rw [scratchTrap_none hin (.inr he), hc]

theorem exec_sscatter_out (h : s.issues b .sscatter x) (hout : 262144 < s.sReg b x.ra + 16 * s.sReg b x.rb) :
    ∃ t, exec (.sscatter b x imm e) s = .next t ∧ t.trapped s b 2 := by
  refine exec_mem_traps (o := .sscatter) h (State.memStalls_other (by decide)) ?_
  unfold State.memTrap
  dsimp only
  rw [scratchTrap_out _ _ hout]

theorem exec_sscatter_above (h : s.issues b .sscatter x) (he : e.scratchBad = false) (hin : s.sReg b x.ra + 16 * s.sReg b x.rb ≤ 262144)
    (ha : ∃ k, k < s.sReg b x.rb ∧ 131071 < s.scatterField b (s.sReg b x.ra) k 0 4) :
    ∃ t, exec (.sscatter b x imm e) s = .next t ∧ t.trapped s b 4 :=
  exec_mem_traps (o := .sscatter) h (State.memStalls_other (by decide)) (memTrap_sscatter hin he (slotTrap_above ha))

theorem exec_sscatter_runs (h : s.issues b .sscatter x) (he : e.scratchBad = false) (hin : s.sReg b x.ra + 16 * s.sReg b x.rb ≤ 262144)
    (hslots : ∀ k, k < s.sReg b x.rb → s.scatterField b (s.sReg b x.ra) k 0 4 ≤ 131071) :
    exec (.sscatter b x imm e) s = .next (s.scatteredList b (s.sReg b x.ra) (s.sReg b x.rb) e).deliverDue :=
  exec_mem_runs (o := .sscatter) h (State.memStalls_other (by decide)) (memTrap_sscatter hin he (slotTrap_none hslots)) runMem_sscatter

/-- The records of an SSCATTER stored, in a clock in which port A writes no slot. -/
theorem State.scatteredList_shows (s : State) (b : BenchNo) {l n : Nat} (hl : e.lost = []) (hslots : ∀ k, k < n → s.scatterField b l k 0 4 ≤ 131071)
    (hdist : ∀ j k, j < k → k < n → s.scatterField b l j 0 4 ≠ s.scatterField b l k 0 4) :
    (∀ k, k < n → s.slotAllowed (s.scatterField b l k 0 4) → (s.scatteredList b l n e).deliverDue.slotTakes s b (s.scatterField b l k 0 4)
        (s.scatterField b l k 8 8) (s.scatterField b l k 4 2) (s.scatterField b l k 6 2))
      ∧ (∀ m, m < 131072 → (∀ k, k < n → s.scatterField b l k 0 4 = m → ¬s.slotAllowed m) → (s.scatteredList b l n e).deliverDue.slot m = s.slot m)
      ∧ ((∃ k, k < n ∧ ¬s.slotAllowed (s.scatterField b l k 0 4)) → bit ((s.scatteredList b l n e).deliverDue.cw b Cw.status) 0 = true)
      ∧ Only scatterRegs scatterTabs { s with freeCtr := (s.scatteredList b l n e).deliverDue.freeCtr } (s.scatteredList b l n e).deliverDue := by
  have hdue : Only [] [] (s.scatteredList b l n e) (s.scatteredList b l n e).deliverDue := Only.deliverDue _
  have hlist : s.scatteredList b l n e = s.scattered b e (s.scatterField b l · 0 4) (s.scatterField b l · 8 8) (s.scatterField b l · 4 2)
      (s.scatterField b l · 6 2) n := rfl
  refine ⟨fun k hk ha => ?_, fun m hm h => ?_, fun h => ?_, ?_⟩
  · have hlt : s.scatterField b l k 0 4 < 2 ^ 40 := by
      have := hslots k hk
      omega
    refine State.slotTakes.of_slot ?_ (hdue.slot hlt (by simp))
    exact State.scattered_takes (g := (s.scatterField b l · 0 4)) hl hslots hdist (fun j => s.scatterField_lt b l j 4) (fun j => s.scatterField_lt b l j 6) hk ha
  · exact (hdue.slot (by omega) (by simp)).trans (State.slot_scattered_other (g := (s.scatterField b l · 0 4)) hl hslots (by omega) h)
  · rw [hdue.cw b.isLt (by decide) (by simp)]
    exact State.status_scattered (g := (s.scatterField b l · 0 4)) hl hslots h
  · exact Only.drawn (Only.scattered (g := (s.scatterField b l · 0 4)) hl hslots) (hdue.mono (List.nil_subset _) (List.nil_subset _)).withDrawn

/-- SGATHER's octets, as the slots and the areas in scratch give them. -/
theorem State.gathered_shows (s : State) (b : BenchNo) {a q w n : Nat} {g : Nat → Nat} (hw : w = 4 ∨ w = 8)
    (hapart : q = 0xFFFFFFFF ∨ a + n * w ≤ q ∨ q + 2 * n ≤ a) :
    (∀ k j, k < n → j < w → (s.gathered b a q w n g).deliverDue.byte (scratchAddr b (a + k * w + j)) = leAt (s.slot (g k)) j 1)
      ∧ (q ≠ 0xFFFFFFFF → ∀ k j, k < n → j < 2 → (s.gathered b a q w n g).deliverDue.byte (scratchAddr b (q + 2 * k + j)) = leAt (s.slot (g k)) (20 + j) 1)
      ∧ (∀ y, (y < scratchAddr b a ∨ scratchAddr b (a + n * w) ≤ y) → (q = 0xFFFFFFFF ∨ y < scratchAddr b q ∨ scratchAddr b (q + 2 * n) ≤ y) →
          (s.gathered b a q w n g).deliverDue.byte y = s.byte y)
      ∧ Only [] [] { s with mem := (s.gathered b a q w n g).deliverDue.mem } (s.gathered b a q w n g).deliverDue := by
  have hdue : Only [] [] (s.gathered b a q w n g) (s.gathered b a q w n g).deliverDue := Only.deliverDue _
  refine ⟨fun k j hk hj => ?_, fun hq k j hk hj => ?_, fun y hv hq => ?_, ?_⟩
  · exact (hdue.byte _).trans (s.byte_gathered_value hw hapart hk hj)
  · exact (hdue.byte _).trans (s.byte_gathered_quality hw hapart hq hk hj)
  · exact (hdue.byte _).trans (s.byte_gathered_other hw hv hq)
  · rw [hdue.mem]
    exact (Only.gathered s).trans hdue

end

end Sys2Proof.Machine
end

section
/-! O58 settled. -/
open Sys2Proof Sys2Proof.Machine

/-- Settles O58, operation by operation: each traps as its checks say, or moves the octets that its slot names. -/
theorem memoryUnit : Obligations.MemoryUnit := by
  unfold Obligations.MemoryUnit
  intro addr len loaded ld octet
  refine ⟨fun s o b x imm e => ⟨exec_mem_idle, exec_access_out, exec_ld_bad, exec_pool_refused, fun h ho hm w => exec_pool_fault h ho hm, exec_sscatter_bad,
      exec_slot_out⟩, fun s b x imm e h hin he => exec_ld_shows h hin he, fun s b x imm e h hin => exec_st_shows h hin,
    fun s b x imm e he hmay => ⟨exec_pld_shows he hmay, exec_pst_shows he hmay⟩, fun s b x imm e o ho h => ?_,
    fun s b x imm e h hslot => exec_sread_shows h hslot, fun s b x imm e h => ?_, fun s b x imm e h hslot => ?_, fun s b x imm e h he => ?_,
    fun s b x imm e h => ⟨exec_fsend_full, exec_fsend_out h, exec_fsend_shows h⟩⟩
  · have hstall : s.memStalls b o = false := State.memStalls_other (by obtain rfl | rfl := ho <;> decide)
    refine ⟨fun hout => exec_mem_traps h hstall (memTrap_pmove_scratch ho (scratchTrap_out _ e hout)), fun hin hop hbad => ?_,
      fun hin hbad hno => exec_mem_traps h hstall ((memTrap_pmove_pool ho (scratchTrap_pmove_none hin hbad)).trans (State.poolTrap_refused hno)),
      fun hin hbad hmay he => exec_pmove_shows ho h hin hbad hmay he⟩
    subst hop
    exact exec_mem_traps h hstall (memTrap_pmove_scratch ho (scratchTrap_bad hin hbad))
  · obtain ⟨hw, hnarrow⟩ := sizeOctets_narrow (memOk_narrow h.2 (.inl rfl))
    intro a l n q w slot fits
    have hfits : fits ↔ s.gatherFits b x := by
      unfold State.gatherFits
      rw [hw]
    refine ⟨fun hf he => exec_sgather_out h (fun hf' => hf (hfits.mpr hf')) he, fun hf he => exec_sgather_bad h (hfits.mp hf) he,
      fun hf he ha => exec_sgather_above h (hfits.mp hf) he ha, fun hf he hslots hapart => ⟨_, exec_sgather_shows h (hfits.mp hf) he hslots, ?_⟩⟩
    rw [hw] at hnarrow ⊢
    exact s.gathered_shows b hnarrow hapart
  · intro n value discarded
    have hn : n < 2 ^ 40 := by omega
    have hdiscarded {k : Nat} (hq : quietReg k = true)
        (heq : s.benchSlotWrite b n value (s.sReg b x.rc % 65536) (s.sReg b x.rd % 65536) e = (s.bump k 64).discardShown b) : discarded k := by
      refine ⟨_, exec_swrite_eq h hslot, ?_⟩
      rw [heq]
      exact s.discarded_shows hq
    refine ⟨fun ha => hdiscarded (by decide) (State.benchSlotWrite_rejected ha), fun ha hf => hdiscarded (by decide) (State.benchSlotWrite_forced ha hf),
      fun ha hf hlost => ⟨_, exec_swrite_eq h hslot, ?_⟩, fun ha hf hlost => ⟨_, exec_swrite_eq h hslot, ?_⟩⟩
    · rw [State.benchSlotWrite_lost ⟨ha, hf⟩ (List.contains_iff_mem.mpr hlost)]
      exact s.lost_shows hn
    · rw [State.benchSlotWrite_put ⟨ha, hf⟩ (by simpa using hlost)]
      obtain ⟨hsame, hother, honly⟩ := s.put_shows (w := s.benchRecord b n value (s.sReg b x.rc % 65536) (s.sReg b x.rd % 65536)) hn
      exact ⟨(State.putSlot_takes hn (Nat.mod_lt _ (by decide)) (Nat.mod_lt _ (by decide))).of_slot hsame, hother, honly⟩
  · intro l n field slot allowed
    refine ⟨exec_sscatter_out h, fun hin ha => exec_sscatter_above h he hin ha, fun hin hslots hdist hl => ?_⟩
    exact ⟨_, exec_sscatter_runs h he hin hslots, s.scatteredList_shows b hl hslots hdist⟩

end

section
/-!
SUPPORT. The fetch of a microword, its traps, and the stacks of a bench (R420 to R424, R454, R455).
-/
namespace Sys2Proof.Machine

/-! ### Fields of a microword -/

/-- The fields of a decoded microword lie in their ranges. -/
def Micro.fits : Micro → Prop
  | .exec nano _ => nano < 4096
  | .branch nano _ _ => nano < 4096
  | .set dst imm => dst < 64 ∧ imm < 2 ^ 22
  | .shift dst imm => dst < 64 ∧ imm < 2 ^ 22
  | .loop _ reg => reg < 64
  | _ => True

theorem Micro.fits_of_ite {c : Prop} [Decidable c] {m m' : Micro} (h : (if c then some m else none) = some m') (hm : m.fits) : m'.fits := by
  split at h
  · cases h
    exact hm
  · cases h

theorem decodeMicro_fits {w : Nat} {m : Micro} (h : decodeMicro w = some m) : m.fits := by
  have hnano : bits w 29 18 < 4096 := bits_lt w 29 18
  have hdst : bits w 29 24 < 64 := bits_lt w 29 24
  have himm : bits w 21 0 < 2 ^ 22 := bits_lt w 21 0
  unfold decodeMicro at h
  dsimp only at h
  split at h
  · cases h
    exact hnano
  · split at h
    · cases h
    · cases h
      exact hnano
  · split at h
    case h_5 =>
      split at h
      · next hreg =>
        cases h
        exact hreg
      · cases h
    case h_8 => cases h
    all_goals exact Micro.fits_of_ite h trivial
  · split at h
    · cases h
      exact ⟨hdst, himm⟩
    · cases h
      exact ⟨hdst, himm⟩
    · cases h

/-! ### The fetch -/

/-- A word that is not lost, by a fetch that does not lose it. -/
theorem BenchEnv.fetch_clean {e : BenchEnv} {v : Nat} {k : Fin 5} (hv : v ≠ 1) (he : e.fetch.val ≠ k.val) : ¬(v = 1 ∨ e.fetch = k) := by
  rintro (h | h)
  · exact hv h
  · exact he (congrArg _ h)

/-- The state after a microword has been fetched. -/
def State.fetched (s : State) (b : Nat) (e : BenchEnv) : State := s.when (e.fetch == 1) (·.correctBench b)

section
variable {s : State} {b : BenchNo} {e : BenchEnv} {m : Micro}

theorem Only.correctBench (s : State) (b : BenchNo) : Only [] [] s (s.correctBench b) :=
  (Only.count _ _ _ (by decide)).trans (Only.count _ _ _ (by unfold Ctr.bay; omega))

theorem Only.fetched (s : State) (b : BenchNo) (e : BenchEnv) : Only [] [] s (s.fetched b e) := Only.when _ _ _ fun u => Only.correctBench u b

/-- The program counter and the tables of the stores as a fetch leaves them. -/
theorem State.fetchMicro_eq (s : State) (b : Nat) (e : BenchEnv) : s.fetchMicro b e
    = if 16384 ≤ s.reg (Reg.BENCH.PC b) then (s, .error Trap.illegalMicroword)
      else if s.tab Tab.ucodeLost (lostBenchWord b (s.reg (Reg.BENCH.PC b))) = 1 ∨ e.fetch = 2 then
        (s.loseBenchWord b (lostBenchWord b (s.reg (Reg.BENCH.PC b))), .error Trap.memoryError)
      else match (s.fetched b e).benchWord b (s.reg (Reg.BENCH.PC b)) with
        | none => (s.fetched b e, .error Trap.illegalMicroword)
        | some w => match decodeMicro w with
          | none => (s.fetched b e, .error Trap.illegalMicroword)
          | some m => (s.fetched b e, .ok m) := rfl

theorem Only.benchWord {t : State} (h : Only [] [] s t) {a : Nat} (ha : a < 16384) : t.benchWord b a = s.benchWord b a := by
  unfold State.benchWord
  rw [h.tabs _ _ (by omega) (by simp) (by decide), h.tabs _ _ (by omega) (by simp) (by decide)]

theorem Only.bayWord {t : State} (h : Only [] [] s t) {a : Nat} (ha : a < 4096) : t.bayWord (b.val / 8) a = s.bayWord (b.val / 8) a := by
  unfold State.bayWord
  rw [h.tabs _ _ (by omega) (by simp) (by decide), h.tabs _ _ (by omega) (by simp) (by decide)]

theorem State.fetches.fits (h : s.fetches b e m) : m.fits := by
  obtain ⟨-, -, -, -, -, w, -, hw⟩ := h
  exact decodeMicro_fits hw

theorem State.fetches.micro (h : s.fetches b e m) : s.fetchMicro b e = (s.fetched b e, .ok m) := by
  obtain ⟨-, -, hpc, he, hlost, w, hw, hm⟩ := h
  rw [State.fetchMicro_eq, if_neg (by omega), if_neg (BenchEnv.fetch_clean hlost he), (Only.fetched s b e).benchWord hpc, hw]
  dsimp only
  rw [hm]

/-- What microword `m` of bench `b` does once it is fetched. -/
def State.performs (s : State) (b : Nat) (e : BenchEnv) (m : Micro) : State :=
  match m with
  | .exec nano imm => s.issue b nano imm e (·.advance b)
  | .branch nano cond target => s.issue b nano 0 e (if s.condHolds b cond then (·.jumpTo b target) else (·.advance b))
  | .nop => s.advance b
  | .jump target => s.jumpTo b target
  | .call target =>
    if 16 ≤ (s.retStack b).length then s.trapBench b Trap.illegalMicroword
    else (s.setRetStack b (s.retStack b ++ [s.reg (Reg.BENCH.PC b) + 1])).setReg (Reg.BENCH.PC b) target
  | .ret => match (s.retStack b).getLast? with
    | none => s.trapBench b Trap.illegalMicroword
    | some a => (s.setRetStack b (s.retStack b).dropLast).setReg (Reg.BENCH.PC b) a
  | .loop target reg =>
    if s.sReg b reg = 0 then s.setReg (Reg.BENCH.PC b) (target + 1)
    else if 4 ≤ (s.loopStack b).length then s.trapBench b Trap.illegalMicroword
    else (s.setLoopStack b (s.loopStack b ++ [packLoop (s.sReg b reg) (s.reg (Reg.BENCH.PC b) + 1) target])).setReg (Reg.BENCH.PC b)
      (s.reg (Reg.BENCH.PC b) + 1)
  | .sync => s.advance b
  | .trap => s.trapBench b Trap.explicit
  | .set dst imm => (s.setS b dst (signExtend 22 64 imm)).advance b
  | .shift dst imm => (s.setS b dst (s.sReg b dst <<< 22 % 2 ^ 64 ||| imm)).advance b

theorem State.onMicro_runs {f : State → Micro → Option State} (h : s.fetches b e m) :
    s.onMicro b e f = match f (s.fetched b e) m with | none => .next s | some t => State.done t := by
  unfold State.onMicro
  rw [h.1, h.2.1, h.micro]
  rfl

theorem State.onMicro_misses {f : State → Micro → Option State} (h : s.fetches b e m) (hf : f (s.fetched b e) m = none) : s.onMicro b e f = .next s := by
  rw [State.onMicro_runs h, hf]

theorem State.onMicro_gives {f : State → Micro → Option State} {t : State} (h : s.fetches b e m) (hf : f (s.fetched b e) m = some t) :
    s.onMicro b e f = .next t.deliverDue := by
  rw [State.onMicro_runs h, hf]
  rfl

theorem exec_micro_runs (h : s.fetches b e m) : exec (m.command b e) s = .next ((s.fetched b e).performs b e m).deliverDue := by
  cases m with
  | exec nano imm =>
    have hexec : exec ((Micro.exec nano imm).command b e) s = execExecMicroword b e s := rfl
    rw [hexec]
    unfold execExecMicroword
    rw [h.1, h.2.1, h.micro]
    rfl
  | branch nano cond target => exact State.onMicro_runs h
  | nop => exact State.onMicro_runs h
  | jump target => exact State.onMicro_runs h
  | call target => exact State.onMicro_gives h (apply_ite some _ _ _).symm
  | ret =>
    refine State.onMicro_gives h ?_
    unfold State.performs
    dsimp only
    cases ((s.fetched b e).retStack b).getLast? <;> rfl
  | loop target reg => exact State.onMicro_gives h (((apply_ite some _ _ _).trans (congrArg _ (apply_ite some _ _ _))).symm)
  | sync => exact State.onMicro_runs h
  | trap => exact State.onMicro_runs h
  | set dst imm => exact State.onMicro_runs h
  | shift dst imm => exact State.onMicro_runs h

theorem exec_micro_idle (h : s.benchRuns b = false) : exec (m.command b e) s = .next s := by
  have hon (f : State → Micro → Option State) : s.onMicro b e f = .next s := by
    unfold State.onMicro
    rw [h]
    rfl
  cases m with
  | exec nano imm =>
    have hexec : exec ((Micro.exec nano imm).command b e) s = execExecMicroword b e s := rfl
    rw [hexec]
    unfold execExecMicroword
    rw [h]
    rfl
  | branch | nop | jump | call | ret | loop | sync | trap | set | shift => exact hon _

/-- The command of another microword's form does nothing. -/
theorem exec_micro_other {m' : Micro} (h : s.fetches b e m) (hne : m'.command b e ≠ m.command b e) : exec (m'.command b e) s = .next s := by
  cases m' with
  | exec nano imm =>
    have hexec : exec ((Micro.exec nano imm).command b e) s = execExecMicroword b e s := rfl
    rw [hexec]
    unfold execExecMicroword
    rw [h.1, h.2.1, h.micro]
    cases m with
    | exec => exact absurd rfl hne
    | branch | nop | jump | call | ret | loop | sync | trap | set | shift => rfl
  | branch => exact State.onMicro_misses h (by cases m with | branch => exact absurd rfl hne | _ => rfl)
  | nop => exact State.onMicro_misses h (by cases m with | nop => exact absurd rfl hne | _ => rfl)
  | jump => exact State.onMicro_misses h (by cases m with | jump => exact absurd rfl hne | _ => rfl)
  | call => exact State.onMicro_misses h (by cases m with | call => exact absurd rfl hne | _ => rfl)
  | ret => exact State.onMicro_misses h (by cases m with | ret => exact absurd rfl hne | _ => rfl)
  | loop => exact State.onMicro_misses h (by cases m with | loop => exact absurd rfl hne | _ => rfl)
  | sync => exact State.onMicro_misses h (by cases m with | sync => exact absurd rfl hne | _ => rfl)
  | trap => exact State.onMicro_misses h (by cases m with | trap => exact absurd rfl hne | _ => rfl)
  | set => exact State.onMicro_misses h (by cases m with | set => exact absurd rfl hne | _ => rfl)
  | shift => exact State.onMicro_misses h (by cases m with | shift => exact absurd rfl hne | _ => rfl)

end

end Sys2Proof.Machine
end

section
/-!
SUPPORT. Sequencing: loops, jumps, calls and returns (R421 to R424).
-/
namespace Sys2Proof.Machine

/-! ### Stacks of a bench -/

section
variable (s : State) (b : BenchNo)

theorem State.length_loopStack : (s.loopStack b).length ≤ 4 :=
  Nat.le_trans (List.length_filterMap_le _ _) (by simp)

theorem State.length_retStack : (s.retStack b).length ≤ 16 :=
  Nat.le_trans (List.length_filterMap_le _ _) (by simp)

theorem State.loopStack_setLoopStack {l : List Nat} (h : l.length ≤ 4) : (s.setLoopStack b l).loopStack b = l := State.entries_setEntries _ _ _ h

theorem State.retStack_setRetStack {l : List Nat} (h : l.length ≤ 16) : (s.setRetStack b l).retStack b = l := State.entries_setEntries _ _ _ h

theorem Only.setPc (v : Nat) : Only [Reg.BENCH.PC b] [] s (s.setReg (Reg.BENCH.PC b) v) := Only.setReg _ _ _ (.inl (by simp))

variable {s} {R T : List Nat} {t : State} (h : Only R T s t)
include h

theorem Only.loopStack (hT : Tab.benchLoop ∉ T) : t.loopStack b = s.loopStack b := by
  unfold State.loopStack State.entries
  congr 1
  exact List.map_congr_left fun i hi => h.tabs _ _ (by have := List.mem_range.mp hi; omega) hT (by decide)

theorem Only.retStack (hT : Tab.benchRet ∉ T) : t.retStack b = s.retStack b := by
  unfold State.retStack State.entries
  congr 1
  exact List.map_congr_left fun i hi => h.tabs _ _ (by have := List.mem_range.mp hi; omega) hT (by decide)

theorem Only.pc (hR : Reg.BENCH.PC b ∉ R) : t.reg (Reg.BENCH.PC b) = s.reg (Reg.BENCH.PC b) := h.benchReg b.isLt (by decide) hR

end

/-! ### Loops (R423) -/

/-- `loopNext`, innermost loop first, moves as the rule says. -/
theorem loopsMove_loopNext (pc : Nat) (r : List Nat) : loopsMove pc r.reverse (loopNext pc r).1.reverse (loopNext pc r).2 := by
  induction r with
  | nil => exact ⟨[], [], rfl, by simp, .inl ⟨by simp, rfl, rfl⟩⟩
  | cons k r ih =>
    rw [List.reverse_cons]
    unfold loopNext
    split
    · next ht =>
      split
      · next hleft => exact ⟨r.reverse ++ [k], [], (List.append_nil _).symm, by simp, .inr ⟨r.reverse, k, rfl, ht, hleft, by simp, rfl⟩⟩
      · next hleft =>
        obtain ⟨keep, ended, hsplit, hended, hkeep⟩ := ih
        refine ⟨keep, ended ++ [k], by rw [hsplit, List.append_assoc], fun j hj => ?_, hkeep⟩
        obtain hj | hj := List.mem_append.mp hj
        · exact hended j hj
        · rw [List.mem_singleton.mp hj]
          exact ⟨ht, Nat.not_lt.mp hleft⟩
    · next ht =>
      exact ⟨r.reverse ++ [k], [], (List.append_nil _).symm, by simp, .inl ⟨fun j hj => by simp_all, by simp, rfl⟩⟩

theorem length_loopNext (pc : Nat) (r : List Nat) : (loopNext pc r).1.length ≤ r.length := by
  induction r with
  | nil => exact Nat.le_refl _
  | cons k r ih =>
    unfold loopNext
    split
    · split
      · exact Nat.le_refl _
      · exact Nat.le_succ_of_le ih
    · exact Nat.le_refl _

section
variable (s : State) (b : BenchNo)

theorem Only.advance : Only [Reg.BENCH.PC b] [Tab.benchLoop] s (s.advance b) :=
  ((Only.setLoopStack _ _ b.isLt (by simp))).trans ((Only.setPc _ b _).mono (List.Subset.refl _) (List.nil_subset _))

/-- A microword that goes to its next address moves loops and program counter. -/
theorem State.advance_moves : loopsMove (s.reg (Reg.BENCH.PC b)) (s.loopStack b) ((s.advance b).loopStack b) ((s.advance b).reg (Reg.BENCH.PC b)) := by
  have hlen : (loopNext (s.reg (Reg.BENCH.PC b)) (s.loopStack b).reverse).1.reverse.length ≤ 4 := by
    have := length_loopNext (s.reg (Reg.BENCH.PC b)) (s.loopStack b).reverse
    have := s.length_loopStack b
    simp only [List.length_reverse] at *
    omega
  have hstack : (s.advance b).loopStack b = (loopNext (s.reg (Reg.BENCH.PC b)) (s.loopStack b).reverse).1.reverse :=
    ((Only.setPc _ b _).loopStack b (by simp)).trans (State.loopStack_setLoopStack _ b hlen)
  have hpc : (s.advance b).reg (Reg.BENCH.PC b) = (loopNext (s.reg (Reg.BENCH.PC b)) (s.loopStack b).reverse).2 := State.reg_setReg_same _ _ _
  have hmove := loopsMove_loopNext (s.reg (Reg.BENCH.PC b)) (s.loopStack b).reverse
  rw [List.reverse_reverse] at hmove
  rw [hstack, hpc]
  exact hmove

/-- What a jump leaves of the loops. -/
def State.jumpLoops (s : State) (b target : Nat) : State :=
  match (s.loopStack b).getLast? with
  | none => s
  | some k => if loopFirst k ≤ target ∧ target ≤ loopTarget k then s else s.setLoopStack b (s.loopStack b).dropLast

theorem State.jumpTo_eq (target : Nat) : s.jumpTo b target = (s.jumpLoops b target).setReg (Reg.BENCH.PC b) target := rfl

theorem Only.jumpLoops (target : Nat) : Only [] [Tab.benchLoop] s (s.jumpLoops b target) := by
  unfold State.jumpLoops
  split
  · exact Only.refl _
  · split
    · exact Only.refl _
    · exact Only.setLoopStack _ _ b.isLt (by simp)

theorem State.jumpLoops_jump (target : Nat) : loopsJump target (s.loopStack b) ((s.jumpLoops b target).loopStack b) := by
  unfold loopsJump State.jumpLoops
  cases (s.loopStack b).getLast? with
  | none => rfl
  | some k =>
    dsimp only
    split
    · rfl
    · refine State.loopStack_setLoopStack _ _ ?_
      have := s.length_loopStack b
      rw [List.length_dropLast]
      omega

theorem State.jumpTo_shows (target : Nat) : (s.jumpTo b target).reg (Reg.BENCH.PC b) = target
    ∧ loopsJump target (s.loopStack b) ((s.jumpTo b target).loopStack b) ∧ Only [Reg.BENCH.PC b] [Tab.benchLoop] s (s.jumpTo b target) := by
  rw [State.jumpTo_eq]
  refine ⟨State.reg_setReg_same _ _ _, ?_, ((Only.jumpLoops s b target).mono (List.nil_subset _) (List.Subset.refl _)).trans
    ((Only.setPc _ b _).mono (List.Subset.refl _) (List.nil_subset _))⟩
  rw [(Only.setPc _ b _).loopStack b (by simp)]
  exact s.jumpLoops_jump b target

end

/-! ### The microwords that name no nanoword -/

section
variable {s : State} {b : BenchNo} {e : BenchEnv} {m : Micro}

/-- What a microword shows after the fetch, it shows after the command. -/
theorem exec_micro_shows {R T : List Nat} {u : State} (h : s.fetches b e m) (hu : (s.fetched b e).performs b e m = u)
    (honly : Only R T (s.fetched b e) u) : ∃ t, exec (m.command b e) s = .next t ∧ Only [] [] u t ∧ Only R T s t := by
  refine ⟨u.deliverDue, ?_, Only.deliverDue _, ?_⟩
  · rw [exec_micro_runs h, hu]
  · exact (((Only.fetched s b e).mono (List.nil_subset _) (List.nil_subset _)).trans honly).trans ((Only.deliverDue u).mono (List.nil_subset _) (List.nil_subset _))

/-- A microword that traps. -/
theorem exec_micro_traps {c : Nat} (h : s.fetches b e m) (hu : (s.fetched b e).performs b e m = (s.fetched b e).trapBench b c) :
    ∃ t, exec (m.command b e) s = .next t ∧ t.trapped s b c := by
  refine ⟨_, by rw [exec_micro_runs h, hu], (State.trapBench_trapped _ c b.isLt).of_calm b.isLt (.of ?_)⟩
  exact (Only.fetched s b e).mono (List.nil_subset _) (List.nil_subset _)

theorem exec_next (hm : m = .nop ∨ m = .sync) (h : s.fetches b e m) : ∃ t, exec (m.command b e) s = .next t
    ∧ loopsMove (s.reg (Reg.BENCH.PC b)) (s.loopStack b) (t.loopStack b) (t.reg (Reg.BENCH.PC b)) ∧ Only [Reg.BENCH.PC b] [Tab.benchLoop] s t := by
  have hf := Only.fetched s b e
  have hmove := (s.fetched b e).advance_moves b
  have hu : (s.fetched b e).performs b e m = (s.fetched b e).advance b := by obtain rfl | rfl := hm <;> rfl
  obtain ⟨t, ht, hdue, honly⟩ := exec_micro_shows h hu (Only.advance _ b)
  refine ⟨t, ht, ?_, honly⟩
  rwa [hdue.loopStack b (by simp), hdue.pc b (by simp), ← hf.loopStack b (by simp), ← hf.pc b (by simp)]

theorem shiftImm_eq {a imm : Nat} (h : imm < 2 ^ 22) : (a <<< 22 % 2 ^ 64 ||| imm) % 2 ^ 64 = (a * 2 ^ 22 + imm) % 2 ^ 64 := by
  have hlow : a <<< 22 % 2 ^ 64 = (a % 2 ^ 42) <<< 22 := by
    rw [Nat.shiftLeft_eq, Nat.shiftLeft_eq]
    omega
  rw [hlow, ← Nat.shiftLeft_add_eq_or_of_lt h, Nat.shiftLeft_eq]
  omega

theorem exec_loadimm {dst imm : Nat} (hm : m = .set dst imm ∨ m = .shift dst imm) (h : s.fetches b e m) : ∃ t, exec (m.command b e) s = .next t
    ∧ loopsMove (s.reg (Reg.BENCH.PC b)) (s.loopStack b) (t.loopStack b) (t.reg (Reg.BENCH.PC b))
    ∧ t.sReg b dst = (if m = .set dst imm then signExtend 22 64 imm else (s.sReg b dst * 2 ^ 22 + imm) % 2 ^ 64)
    ∧ (∀ c i, c < 128 → i < 64 → c ≠ b.val ∨ i ≠ dst → t.sReg c i = s.sReg c i) ∧ Only [Reg.BENCH.PC b] [Tab.benchLoop, Tab.benchS] s t := by
  obtain ⟨hdst, himm⟩ : dst < 64 ∧ imm < 2 ^ 22 := by
    obtain rfl | rfl := hm <;> exact h.fits
  have hf := Only.fetched s b e
  obtain ⟨v, hu, hv⟩ : ∃ v, (s.fetched b e).performs b e m = ((s.fetched b e).setS b dst v).advance b
      ∧ v % 2 ^ 64 = if m = .set dst imm then signExtend 22 64 imm else (s.sReg b dst * 2 ^ 22 + imm) % 2 ^ 64 := by
    obtain rfl | rfl := hm
    · exact ⟨_, rfl, by rw [if_pos rfl]; exact Nat.mod_eq_of_lt (signExtend_lt _ _)⟩
    · refine ⟨_, rfl, ?_⟩
      rw [if_neg (by simp), shiftImm_eq himm, hf.sReg (by simp) b.isLt hdst]
  have hset := Only.setS (s.fetched b e) v b.isLt hdst
  have hadv := Only.advance ((s.fetched b e).setS b dst v) b
  have hmove := ((s.fetched b e).setS b dst v).advance_moves b
  obtain ⟨t, ht, hdue, honly⟩ := exec_micro_shows (R := [Reg.BENCH.PC b]) (T := [Tab.benchLoop, Tab.benchS]) h hu ((hset.mono (List.nil_subset _) (by simp)).trans (hadv.mono (List.Subset.refl _) (by simp)))
  refine ⟨t, ht, ?_, ?_, fun c i hc hi hne => ?_, honly⟩
  · rwa [hdue.loopStack b (by simp), hdue.pc b (by simp), ← hf.loopStack b (by simp), ← hf.pc b (by simp), ← hset.loopStack b (by decide), ← hset.pc b (by simp)]
  · rw [hdue.sReg (by simp) b.isLt hdst, hadv.sReg (by decide) b.isLt hdst, State.sReg_setS_same, hv]
  · rw [hdue.sReg (by simp) hc hi, hadv.sReg (by decide) hc hi, State.sReg_setS_other _ _ hdst hi hne, hf.sReg (by simp) hc hi]

theorem exec_jump_shows {target : Nat} (h : s.fetches b e (.jump target)) : ∃ t, exec (.jump b e) s = .next t ∧ t.reg (Reg.BENCH.PC b) = target
    ∧ loopsJump target (s.loopStack b) (t.loopStack b) ∧ Only [Reg.BENCH.PC b] [Tab.benchLoop] s t := by
  have hf := Only.fetched s b e
  obtain ⟨hpc, hloops, hjump⟩ := (s.fetched b e).jumpTo_shows b target
  obtain ⟨t, ht, hdue, honly⟩ := exec_micro_shows h rfl hjump
  refine ⟨t, ht, (hdue.pc b (by simp)).trans hpc, ?_, honly⟩
  rw [hf.loopStack b (by simp)] at hloops
  rwa [hdue.loopStack b (by simp)]

theorem exec_call_shows {target : Nat} (h : s.fetches b e (.call target)) (hl : (s.retStack b).length < 16) : ∃ t, exec (.call b e) s = .next t
    ∧ t.reg (Reg.BENCH.PC b) = target ∧ t.retStack b = s.retStack b ++ [s.reg (Reg.BENCH.PC b) + 1] ∧ Only [Reg.BENCH.PC b] [Tab.benchRet] s t := by
  have hf := Only.fetched s b e
  have hstack := hf.retStack b (by simp)
  have hpc := hf.pc b (by simp)
  let l := s.retStack b ++ [s.reg (Reg.BENCH.PC b) + 1]
  have hu : (s.fetched b e).performs b e (.call target) = ((s.fetched b e).setRetStack b l).setReg (Reg.BENCH.PC b) target := by
    unfold State.performs
    dsimp only
    rw [hstack, hpc, if_neg (by omega)]
  have hset : Only [] [Tab.benchRet] (s.fetched b e) ((s.fetched b e).setRetStack b l) := Only.setRetStack _ _ b.isLt (by simp)
  have hgo := Only.setPc ((s.fetched b e).setRetStack b l) b target
  obtain ⟨t, ht, hdue, honly⟩ := exec_micro_shows h hu ((hset.mono (List.nil_subset _) (List.Subset.refl _)).trans (hgo.mono (List.Subset.refl _) (List.nil_subset _)))
  refine ⟨t, ht, (hdue.pc b (by simp)).trans (State.reg_setReg_same _ _ _), ?_, honly⟩
  rw [hdue.retStack b (by simp), hgo.retStack b (by simp), State.retStack_setRetStack _ _ (by simpa [l] using hl)]

theorem exec_call_full {target : Nat} (h : s.fetches b e (.call target)) (hl : (s.retStack b).length = 16) :
    ∃ t, exec (.call b e) s = .next t ∧ t.trapped s b 1 := by
  refine exec_micro_traps h ?_
  unfold State.performs
  dsimp only
  rw [(Only.fetched s b e).retStack b (by simp), if_pos (by omega)]

theorem exec_ret_empty (h : s.fetches b e .ret) (hl : s.retStack b = []) : ∃ t, exec (.ret b e) s = .next t ∧ t.trapped s b 1 := by
  refine exec_micro_traps h ?_
  unfold State.performs
  dsimp only
  rw [(Only.fetched s b e).retStack b (by simp), hl]
  rfl

theorem exec_ret_shows (h : s.fetches b e .ret) (l : List Nat) (a : Nat) (hl : s.retStack b = l ++ [a]) : ∃ t, exec (.ret b e) s = .next t
    ∧ t.reg (Reg.BENCH.PC b) = a ∧ t.retStack b = l ∧ Only [Reg.BENCH.PC b] [Tab.benchRet] s t := by
  have hf := Only.fetched s b e
  have hstack := (hf.retStack b (by simp)).trans hl
  have hu : (s.fetched b e).performs b e .ret = ((s.fetched b e).setRetStack b l).setReg (Reg.BENCH.PC b) a := by
    unfold State.performs
    dsimp only
    rw [hstack, List.getLast?_concat, List.dropLast_concat]
  have hlen : l.length ≤ 16 := by
    have := s.length_retStack b
    rw [hl, List.length_append] at this
    omega
  have hset : Only [] [Tab.benchRet] (s.fetched b e) ((s.fetched b e).setRetStack b l) := Only.setRetStack _ _ b.isLt (by simp)
  have hgo := Only.setPc ((s.fetched b e).setRetStack b l) b a
  obtain ⟨t, ht, hdue, honly⟩ := exec_micro_shows h hu ((hset.mono (List.nil_subset _) (List.Subset.refl _)).trans (hgo.mono (List.Subset.refl _) (List.nil_subset _)))
  refine ⟨t, ht, (hdue.pc b (by simp)).trans (State.reg_setReg_same _ _ _), ?_, honly⟩
  rw [hdue.retStack b (by simp), hgo.retStack b (by simp), State.retStack_setRetStack _ _ hlen]

theorem exec_loop_skip {target reg : Nat} (h : s.fetches b e (.loop target reg)) (hn : s.sReg b reg = 0) : ∃ t, exec (.loop b e) s = .next t
    ∧ t.reg (Reg.BENCH.PC b) = target + 1 ∧ Only [Reg.BENCH.PC b] [] s t := by
  have hu : (s.fetched b e).performs b e (.loop target reg) = (s.fetched b e).setReg (Reg.BENCH.PC b) (target + 1) := by
    unfold State.performs
    dsimp only
    rw [(Only.fetched s b e).sReg (by simp) b.isLt h.fits, if_pos hn]
  obtain ⟨t, ht, hdue, honly⟩ := exec_micro_shows h hu (Only.setPc (s.fetched b e) b (target + 1))
  exact ⟨t, ht, (hdue.pc b (by simp)).trans (State.reg_setReg_same _ _ _), honly⟩

theorem exec_loop_enters {target reg : Nat} (h : s.fetches b e (.loop target reg)) (hn : s.sReg b reg ≠ 0) (hl : (s.loopStack b).length < 4) :
    ∃ t, exec (.loop b e) s = .next t ∧ t.reg (Reg.BENCH.PC b) = s.reg (Reg.BENCH.PC b) + 1
      ∧ t.loopStack b = s.loopStack b ++ [packLoop (s.sReg b reg) (s.reg (Reg.BENCH.PC b) + 1) target] ∧ Only [Reg.BENCH.PC b] [Tab.benchLoop] s t := by
  have hf := Only.fetched s b e
  let l := s.loopStack b ++ [packLoop (s.sReg b reg) (s.reg (Reg.BENCH.PC b) + 1) target]
  have hu : (s.fetched b e).performs b e (.loop target reg) = ((s.fetched b e).setLoopStack b l).setReg (Reg.BENCH.PC b) (s.reg (Reg.BENCH.PC b) + 1) := by
    unfold State.performs
    dsimp only
    rw [hf.sReg (by simp) b.isLt h.fits, if_neg hn, hf.loopStack b (by simp), if_neg (by omega), hf.pc b (by simp)]
  have hset : Only [] [Tab.benchLoop] (s.fetched b e) ((s.fetched b e).setLoopStack b l) := Only.setLoopStack _ _ b.isLt (by simp)
  have hgo := Only.setPc ((s.fetched b e).setLoopStack b l) b (s.reg (Reg.BENCH.PC b) + 1)
  obtain ⟨t, ht, hdue, honly⟩ := exec_micro_shows h hu ((hset.mono (List.nil_subset _) (List.Subset.refl _)).trans (hgo.mono (List.Subset.refl _) (List.nil_subset _)))
  refine ⟨t, ht, (hdue.pc b (by simp)).trans (State.reg_setReg_same _ _ _), ?_, honly⟩
  rw [hdue.loopStack b (by simp), hgo.loopStack b (by simp), State.loopStack_setLoopStack _ _ (by simpa [l] using hl)]

theorem exec_loop_full {target reg : Nat} (h : s.fetches b e (.loop target reg)) (hn : s.sReg b reg ≠ 0) (hl : (s.loopStack b).length = 4) :
    ∃ t, exec (.loop b e) s = .next t ∧ t.trapped s b 1 := by
  have hf := Only.fetched s b e
  refine exec_micro_traps h ?_
  unfold State.performs
  dsimp only
  rw [hf.sReg (by simp) b.isLt h.fits, if_neg hn, hf.loopStack b (by simp), if_pos (by omega)]

theorem exec_trap_traps (h : s.fetches b e .trap) : ∃ t, exec (.trap b e) s = .next t ∧ t.trapped s b 6 := exec_micro_traps h rfl

end

end Sys2Proof.Machine
end

section
/-!
SUPPORT. What traps at the fetch, and the issue of a nanoword (R384, R408, R424, R431, R454, R455).
-/
namespace Sys2Proof.Machine

/-! ### A trap leaves the tables before those of the benches -/

section
variable (s : State) {q i : Nat} (hq : q < 98) (hquiet : quietTab q = true) (hi : i < 2 ^ 40)
include hq hi

theorem State.tab_setTab_past {q' j : Nat} (v : Nat) (h : 98 ≤ q') : (s.setTab q' j v).tab q i = s.tab q i := by
  rw [State.tab_setTab, if_neg]
  unfold tabKey
  omega

include hquiet

theorem State.tab_completeJob_low (slot status bench userCode : Nat) (data : Bytes) : (s.completeJob slot status bench userCode data).tab q i = s.tab q i := by
  have htrigger (u : State) : (u.trigger 0x1980).tab q i = u.tab q i := (Only.trigger (R := []) (T := []) u 0x1980).tabs _ _ hi (by simp) hquiet
  unfold State.completeJob
  dsimp only
  rw [htrigger]
  refine (State.tab_setReg _ _ _ _ _).trans ?_
  rw [State.tab_setTab_past _ hq hi _ (by decide), State.tab_setTab_past _ hq hi _ (by decide), State.tab_setTab_past _ hq hi _ (by decide)]

theorem State.tab_endJob_low {b : Nat} (status userCode : Nat) (data : Bytes) (hb : b < 128) : (s.endJob b status userCode data).tab q i = s.tab q i := by
  have hcount (u : State) : (u.count (Ctr.bench b 2)).tab q i = u.tab q i :=
    (Only.benchCounted (R := []) (T := []) u 2 1 hb (by decide)).tabs _ _ hi (by simp) hquiet
  unfold State.endJob
  split
  · rfl
  · exact (hcount _).trans ((State.tab_completeJob_low _ hq hquiet hi _ _ _ _ _).trans (State.tab_setTab_past _ hq hi _ (by decide)))

theorem State.tab_departing_low {b : Nat} (hb : b < 128) : (s.departing b).tab q i = s.tab q i := by
  have hne {q' : Nat} (h : 98 ≤ q') : q ≠ q' := by omega
  have hwait : (s.clearTileWaits b).tab q i = s.tab q i :=
    (State.tab_setTab_past _ hq hi _ (by decide)).trans (State.tab_clearTabRange_table _ (hne (by decide)) hi)
  have hsend : ((s.clearTileWaits b).setSendQueue b []).tab q i = (s.clearTileWaits b).tab q i :=
    (Only.setSendQueue (R := []) (T := [Tab.benchSend]) _ [] hb (by simp)).tabs _ _ hi (by simpa using hne (by decide)) hquiet
  unfold State.departing State.withdrawArrival
  split
  · exact hsend.trans hwait
  · exact (State.tab_drop _ _ _ _ _).trans ((State.tab_setTab_past _ hq hi _ (by decide)).trans (hsend.trans hwait))

theorem State.tab_trapBench_low {b : Nat} (cause : Nat) (hb : b < 128) : (s.trapBench b cause).deliverDue.tab q i = s.tab q i := by
  have hdue : Only [] [] (s.trapBench b cause) (s.trapBench b cause).deliverDue := Only.deliverDue _
  have hshown : Only (haltRegs b) [] (s.progLeft b 1 cause) (s.trapBench b cause) := Only.trapShown _ b cause
  have hbanks : Only (bankRegs ++ modeRegs) [] s (s.returnAtEnd b) := Only.returnAtEnd s b
  have hdone : Only [] [] (((s.returnAtEnd b).departing b).endJob b 1 cause []) (s.progLeft b 1 cause) := Only.completeAllOf _ b
  rw [hdue.tabs _ _ hi (by simp) hquiet, hshown.tabs _ _ hi (by simp) hquiet, hdone.tabs _ _ hi (by simp) hquiet,
    State.tab_endJob_low _ hq hquiet hi _ _ _ hb, State.tab_departing_low _ hq hquiet hi hb, hbanks.tabs _ _ hi (by simp) hquiet]

end

/-! ### A word lost to errors -/

section
variable {s : State} {b : BenchNo} {e : BenchEnv} {m : Micro}

theorem Calm.loseBenchWord (s : State) (b : BenchNo) {i : Nat} (hi : i < 2 ^ 40) : Calm (bankRegs ++ modeRegs) [] s (s.loseBenchWord b i) := by
  have hcount (u : State) : Only [Reg.BENCH_UCODE.EVENTS, Reg.BENCH_UCODE.EVENTS + 1 + 2] [Tab.ucodeLost] u ((u.count (Ctr.benchLoader 1)).count (Ctr.bay (b / 8) 1)) :=
    (Only.count _ _ _ (by decide)).trans (Only.count _ _ _ (by unfold Ctr.bay; omega))
  have hmet : Only [Reg.BENCH_UCODE.EVENTS, Reg.BENCH_UCODE.EVENTS + 1 + 2] [Tab.ucodeLost] s
      ((((s.setTab Tab.ucodeLost i 1).count (Ctr.benchLoader 1)).count (Ctr.bay (b / 8) 1)).event Reg.BENCH_UCODE.EVENTS 2 0x1981) :=
    ((Only.setTab _ _ _ _ hi (.inl (by simp))).trans (hcount _)).trans (Only.event _ _ _ _ (.inl (by simp)) (.inl (by simp)))
  have hcalm : Calm (bankRegs ++ modeRegs) [] s
      ((((s.setTab Tab.ucodeLost i 1).count (Ctr.benchLoader 1)).count (Ctr.bay (b / 8) 1)).event Reg.BENCH_UCODE.EVENTS 2 0x1981) := by
    refine ⟨hmet.mem, fun k _ hc => (Calm.of hmet).regs k ?_ hc, fun q j h1 h2 _ hj => (Calm.of hmet).tabs q j h1 h2 ?_ hj⟩
    · have := hc.1
      simp only [List.mem_cons, List.not_mem_nil, or_false, Reg.BENCH_UCODE.EVENTS]
      omega
    · rw [List.mem_singleton]
      simp only [Tab.ucodeLost]
      omega
  have hmode : ∀ r ∈ modeRegs, r ∈ bankRegs ++ modeRegs := fun r hr => List.mem_append_right _ hr
  exact hcalm.trans (.of (Only.setCause _ _ _ (hmode _ (by decide)) (hmode _ (by decide)) (hmode _ (by decide)) (hmode _ (by decide)) (hmode _ (by decide))
    (hmode _ (by decide)) (hmode _ (by decide))))

theorem State.ucodeLost_loseBenchWord (s : State) (b : BenchNo) {i : Nat} (hi : i < 2 ^ 40) : (s.loseBenchWord b i).tab Tab.ucodeLost i = 1 := by
  have hset : (s.setTab Tab.ucodeLost i 1).tab Tab.ucodeLost i = 1 := State.tab_setTab_same _ _ _ _
  have hrest : Only ([Reg.BENCH_UCODE.EVENTS, Reg.BENCH_UCODE.EVENTS + 1 + 2] ++ modeRegs) [] (s.setTab Tab.ucodeLost i 1) (s.loseBenchWord b i) :=
    (((Only.count _ _ _ (by decide)).trans (Only.count _ _ _ (by unfold Ctr.bay; omega))).trans (Only.event _ _ _ _ (.inl (by simp)) (.inl (by simp)))).trans
      (Only.setCause _ _ _ (by decide) (by decide) (by decide) (by decide) (by decide) (by decide) (by decide))
  exact (hrest.tabs _ _ hi (by simp) (by decide)).trans hset

/-! ### Traps at the fetch of a microword (R408, R424, R455) -/

theorem exec_fetch_traps {u : State} {c : Nat} (hrun : s.benchRuns b = true) (hr : s.atRoutine b = false) (hf : s.fetchMicro b e = (u, .error c)) :
    exec (.execMicroword b e) s = .next (u.trapBench b c).deliverDue := by
  have hexec : exec (.execMicroword b e) s = execExecMicroword b e s := rfl
  rw [hexec]
  unfold execExecMicroword
  rw [hrun, hr, hf]
  rfl

theorem exec_fetch_past (hrun : s.benchRuns b = true) (hr : s.atRoutine b = false) (hpc : 16384 ≤ s.reg (Reg.BENCH.PC b)) :
    ∃ t, exec (.execMicroword b e) s = .next t ∧ t.trapped s b 1 :=
  ⟨_, exec_fetch_traps hrun hr (by rw [State.fetchMicro_eq, if_pos hpc]), State.trapBench_trapped s 1 b.isLt⟩

theorem exec_fetch_lost (hrun : s.benchRuns b = true) (hr : s.atRoutine b = false) (hpc : s.reg (Reg.BENCH.PC b) < 16384)
    (hlost : s.tab Tab.ucodeLost (lostBenchWord b (s.reg (Reg.BENCH.PC b))) = 1 ∨ e.fetch = 2) : ∃ t, exec (.execMicroword b e) s = .next t
      ∧ t.trapped s b 8 ∧ t.tab Tab.ucodeLost (lostBenchWord b (s.reg (Reg.BENCH.PC b))) = 1 := by
  have hi : lostBenchWord b (s.reg (Reg.BENCH.PC b)) < 2 ^ 40 := by
    unfold lostBenchWord
    omega
  refine ⟨_, exec_fetch_traps hrun hr (by rw [State.fetchMicro_eq, if_neg (by omega), if_pos hlost]),
    (State.trapBench_trapped _ 8 b.isLt).of_calm b.isLt (.loseBenchWord s b hi), ?_⟩
  exact (State.tab_trapBench_low _ (by decide) (by decide) hi 8 b.isLt).trans (s.ucodeLost_loseBenchWord b hi)

theorem exec_fetch_undefined (hrun : s.benchRuns b = true) (hr : s.atRoutine b = false) (hpc : s.reg (Reg.BENCH.PC b) < 16384)
    (hlost : s.tab Tab.ucodeLost (lostBenchWord b (s.reg (Reg.BENCH.PC b))) ≠ 1) (he : e.fetch.val ≠ 2)
    (hw : ∀ w, s.benchWord b (s.reg (Reg.BENCH.PC b)) = some w → decodeMicro w = none) :
    ∃ t, exec (.execMicroword b e) s = .next t ∧ t.trapped s b 1 := by
  have hfetch : s.fetchMicro b e = (s.fetched b e, .error 1) := by
    rw [State.fetchMicro_eq, if_neg (by omega), if_neg (BenchEnv.fetch_clean hlost he), (Only.fetched s b e).benchWord hpc]
    cases h : s.benchWord b (s.reg (Reg.BENCH.PC b)) with
    | none => rfl
    | some w =>
      dsimp only
      rw [hw w h]
  exact ⟨_, exec_fetch_traps hrun hr hfetch, (State.trapBench_trapped _ 1 b.isLt).of_calm b.isLt
    (.of ((Only.fetched s b e).mono (List.nil_subset _) (List.nil_subset _)))⟩

/-! ### The issue of a nanoword (R384, R431) -/

/-- The state after a nanoword has been fetched. -/
def State.fetchedNano (s : State) (b : Nat) (e : BenchEnv) : State := s.when (e.fetch == 3) (·.correctBench b)

theorem Only.fetchedNano (s : State) (b : BenchNo) (e : BenchEnv) : Only [] [] s (s.fetchedNano b e) := Only.when _ _ _ fun u => Only.correctBench u b

theorem State.fetchNano_eq (s : State) (b a : Nat) (e : BenchEnv) : s.fetchNano b a e
    = if s.tab Tab.ucodeLost (lostBayWord (b / 8) a) = 1 ∨ e.fetch = 4 then (s.loseBenchWord b (lostBayWord (b / 8) a), .error Trap.memoryError)
      else match (s.fetchedNano b e).bayWord (b / 8) a with
        | none => (s.fetchedNano b e, .error Trap.illegalMicroword)
        | some w => match decodeNano w with
          | none => (s.fetchedNano b e, .error Trap.illegalMicroword)
          | some n => (s.fetchedNano b e, .ok n) := rfl

theorem State.fetchesNano.nano {u : State} {a : Nat} {n : Nano} (h : s.fetchesNano b a e n) (hu : Only [] [] s u) (ha : a < 4096) :
    u.fetchNano b a e = (u.fetchedNano b e, .ok n) := by
  obtain ⟨he, hlost, w, hw, hn⟩ := h
  have hi : lostBayWord (b.val / 8) a < 2 ^ 40 := by
    unfold lostBayWord
    omega
  rw [State.fetchNano_eq, hu.tabs _ _ hi (by simp) (by decide), if_neg (BenchEnv.fetch_clean hlost he), (hu.trans (Only.fetchedNano u b e)).bayWord ha, hw]
  dsimp only
  rw [hn]

/-- Where microword `m`, which issues a nanoword, goes on. -/
def Micro.goesOn (m : Micro) (s : State) (b : Nat) : State → State :=
  match m with
  | .branch _ cond target => if s.condHolds b cond then (·.jumpTo b target) else (·.advance b)
  | _ => (·.advance b)

/-- Microword `m` issues the nanoword at `nano`, with immediate `imm`. -/
def Micro.issues (m : Micro) (nano imm : Nat) : Prop := m = .exec nano imm ∨ (imm = 0 ∧ ∃ cond target, m = .branch nano cond target)

theorem Micro.issues.performs {nano imm : Nat} (hm : m.issues nano imm) (u : State) : u.performs b e m = u.issue b nano imm e (m.goesOn u b) := by
  obtain rfl | ⟨rfl, cond, target, rfl⟩ := hm <;> rfl

theorem Micro.issues.nano_lt {nano imm : Nat} (hm : m.issues nano imm) (h : m.fits) : nano < 4096 := by
  obtain rfl | ⟨rfl, cond, target, rfl⟩ := hm <;> exact h

theorem exec_nano_lost {nano imm : Nat} (h : s.fetches b e m) (hm : m.issues nano imm)
    (hlost : s.tab Tab.ucodeLost (lostBayWord (b / 8) nano) = 1 ∨ e.fetch = 4) : ∃ t, exec (m.command b e) s = .next t ∧ t.trapped s b 8 := by
  have hnano := hm.nano_lt h.fits
  have hi : lostBayWord (b.val / 8) nano < 2 ^ 40 := by
    unfold lostBayWord
    omega
  have hf := Only.fetched s b e
  have hissue : (s.fetched b e).issue b nano imm e (m.goesOn (s.fetched b e) b) = ((s.fetched b e).loseBenchWord b (lostBayWord (b / 8) nano)).trapBench b 8 := by
    unfold State.issue
    rw [State.fetchNano_eq, hf.tabs _ _ hi (by simp) (by decide), if_pos hlost]
  refine ⟨_, by rw [exec_micro_runs h, hm.performs, hissue], (State.trapBench_trapped _ 8 b.isLt).of_calm b.isLt ?_⟩
  exact (Calm.of (hf.mono (List.nil_subset _) (List.nil_subset _))).trans (.loseBenchWord _ b hi)

theorem exec_nano_undefined {nano imm : Nat} (h : s.fetches b e m) (hm : m.issues nano imm)
    (hlost : s.tab Tab.ucodeLost (lostBayWord (b / 8) nano) ≠ 1) (he : e.fetch.val ≠ 4)
    (hw : ∀ w, s.bayWord (b / 8) nano = some w → decodeNano w = none) : ∃ t, exec (m.command b e) s = .next t ∧ t.trapped s b 1 := by
  have hnano := hm.nano_lt h.fits
  have hi : lostBayWord (b.val / 8) nano < 2 ^ 40 := by
    unfold lostBayWord
    omega
  have hf := Only.fetched s b e
  have hu := hf.trans (Only.fetchedNano (s.fetched b e) b e)
  have hissue : (s.fetched b e).issue b nano imm e (m.goesOn (s.fetched b e) b) = ((s.fetched b e).fetchedNano b e).trapBench b 1 := by
    have hfetch : (s.fetched b e).fetchNano b nano e = ((s.fetched b e).fetchedNano b e, .error 1) := by
      rw [State.fetchNano_eq, hf.tabs _ _ hi (by simp) (by decide), if_neg (BenchEnv.fetch_clean hlost he), hu.bayWord hnano]
      cases h : s.bayWord (b / 8) nano with
      | none => rfl
      | some w =>
        dsimp only
        rw [hw w h]
    unfold State.issue
    rw [hfetch]
  refine ⟨_, by rw [exec_micro_runs h, hm.performs, hissue], (State.trapBench_trapped _ 1 b.isLt).of_calm b.isLt (.of ?_)⟩
  exact hu.mono (List.nil_subset _) (List.nil_subset _)

end

end Sys2Proof.Machine
end

section
/-!
SUPPORT. What an issued nanoword leaves: the program counter, and the scalar and vector operations (R384, R421, R431).
-/
namespace Sys2Proof.Machine

section
variable {s u : State} {b : BenchNo} {e : BenchEnv} {m : Micro} {n : Nano} {nano imm : Nat}

/-! ### The course of an issue -/

/-- The state in which a nanoword is issued: microword and nanoword have been fetched. -/
def State.issuing (s : State) (b : Nat) (e : BenchEnv) : State := (s.fetched b e).fetchedNano b e

theorem Only.issuing (s : State) (b : BenchNo) (e : BenchEnv) : Only [] [] s (s.issuing b e) := (Only.fetched s b e).trans (Only.fetchedNano _ b e)

theorem Only.condHolds (h : Only [] [] s u) (cond : Nat) : u.condHolds b cond = s.condHolds b cond := by
  unfold State.condHolds
  rw [h.flagsOf (by simp) b.isLt, h.cw b.isLt (by decide) (by simp), h.cw b.isLt (by decide) (by simp), h.cw b.isLt (by decide) (by simp),
    (Calm.of h).sendQueue b.isLt (by simp), h.tabs Tab.benchTrigger _ (by omega) (by simp) (by decide)]

theorem Micro.goesOn_congr (h : Only [] [] s u) : m.goesOn u b = m.goesOn s b := by
  unfold Micro.goesOn
  split
  · rw [h.condHolds]
  · rfl

/-- A nanoword that has been fetched is issued, or stalls, traps or waits for its tiles. -/
def State.issueNano (s : State) (b : Nat) (n : Nano) (imm : Nat) (e : BenchEnv) (next : State → State) : State :=
  if s.nanoStalls b n then s
  else match s.nanoTrap b n imm e with
    | some (s, c) => s.trapBench b c
    | none =>
      match s.askTiles b (n.tiles.map (·.1.val)) with
      | (s, false) => s
      | (s, true) => s.runNano (next s) b n imm e

theorem State.issue_nano {next : State → State} (h : s.fetchNano b nano e = (u, .ok n)) : s.issue b nano imm e next = u.issueNano b n imm e next := by
  unfold State.issue
  rw [h]
  rfl

theorem exec_issue_eq (h : s.fetches b e m) (hm : m.issues nano imm) (hn : s.fetchesNano b nano e n) :
    exec (m.command b e) s = .next ((s.issuing b e).issueNano b n imm e (m.goesOn s b)).deliverDue := by
  rw [exec_micro_runs h, hm.performs, Micro.goesOn_congr (Only.fetched s b e), State.issue_nano (hn.nano (Only.fetched s b e) (hm.nano_lt h.fits))]
  rfl

theorem Only.nanoStalls (h : Only [] [] s u) : u.nanoStalls b n = s.nanoStalls b n := by
  have hmem (o : MemOp) : u.memStalls b o = s.memStalls b o := by
    unfold State.memStalls
    rw [(Calm.of h).sendQueue b.isLt (by simp)]
  have hcw (k : Nat) : u.cwStalls b k = s.cwStalls b k := by
    unfold State.cwStalls
    rw [h.misc b.isLt (by decide) (by simp)]
  unfold State.nanoStalls
  simp only [hmem, hcw]

theorem exec_issue_stalls (h : s.fetches b e m) (hm : m.issues nano imm) (hn : s.fetchesNano b nano e n) (hs : s.nanoStalls b n = true) :
    ∃ t, exec (m.command b e) s = .next t ∧ Only [] [] s t := by
  refine ⟨_, exec_issue_eq h hm hn, ?_⟩
  unfold State.issueNano
  rw [(Only.issuing s b e).nanoStalls, if_pos hs]
  exact (Only.issuing s b e).trans (Only.deliverDue _)

/-- No tile asks, and none waits. -/
theorem State.askTiles_none (h5 : u.misc b 5 = 0) (hw : u.tilesWait b = false) : u.askTiles b [] = (u, true) := by
  unfold State.askTiles
  rw [h5, if_neg (by decide), hw, if_neg (by decide)]
  exact Prod.ext rfl ((congrArg (!·) hw).trans rfl)

theorem exec_issue_runs (h : s.fetches b e m) (hm : m.issues nano imm) (hn : s.fetchesNano b nano e n) (hs : (s.issuing b e).nanoStalls b n = false)
    (ht : (s.issuing b e).nanoTrap b n imm e = none) (htiles : n.tiles = []) (h5 : (s.issuing b e).misc b 5 = 0)
    (hw : (s.issuing b e).tilesWait b = false) :
    exec (m.command b e) s = .next ((s.issuing b e).runNano (m.goesOn s b (s.issuing b e)) b n imm e).deliverDue := by
  rw [exec_issue_eq h hm hn]
  unfold State.issueNano
  rw [hs, ht, htiles, List.map_nil, State.askTiles_none h5 hw]
  rfl

theorem State.issuing_clean (he : e.fetch = 0) : s.issuing b e = s := by
  unfold State.issuing State.fetched State.fetchedNano
  rw [he]
  rfl

theorem Only.tilesWait (h : Only [] [] s u) : u.tilesWait b = s.tilesWait b := by
  unfold State.tilesWait
  rw [Bool.eq_iff_iff, List.any_eq_true, List.any_eq_true]
  refine exists_congr fun t => and_congr_right fun ht => ?_
  rw [h.tabs _ _ (by have := List.mem_range.mp ht; omega) (by simp) (by decide)]

/-! ### A scalar and a vector operation, from the state at issue -/

/-- The registers that the scalar and the vector operation of a nanoword write. -/
def Nano.scalarDst (n : Nano) : List Nat := match n.scalar with | some (o, x) => if o.isCmp then [] else [x.dst.val] | none => []
def Nano.sumDst (n : Nano) : List Nat := match n.vector with | some (.vhsum, x) => [x.sreg.val] | _ => []
def Nano.laneDst (n : Nano) : List Nat := match n.vector with | some (o, x) => if o.lanes then [x.vd.val] else [] | none => []

/-- The scalar operation of a nanoword, from `s0` into `s`. -/
def State.nanoScalar (s0 s : State) (b : Nat) (n : Nano) (imm : Nat) : State := match n.scalar with | some (o, x) => s0.runScalar s b o x imm | none => s

/-- The vector operation of a nanoword, from `s0` into `s`. -/
def State.nanoVector (s0 s : State) (b : Nat) (n : Nano) : State := match n.vector with | some (o, x) => s0.runVector s b o x | none => s

theorem State.runNano_units (hm : n.memory = none) (hc : n.cword = none) (ht : n.tiles = []) :
    s.runNano u b n imm e = s.nanoVector (s.nanoScalar u b n imm) b n := by
  unfold State.runNano
  dsimp only
  rw [hm, hc, ht]
  rfl

/-- A scalar operation reads the registers of its bench alone. -/
theorem State.runScalar_from {R T : List Nat} (h : Only R T s u) (hS : Tab.benchS ∉ T) (hV : Tab.benchV ∉ T) (o : ScalarOp) (x : ScalarSlot) :
    s.runScalar u b o x imm = u.runScalar u b o x imm := by
  have hs (i : SReg) : s.sReg b i = u.sReg b i := (h.sReg hS b.isLt i.isLt).symm
  have hv (i : SReg) : s.vReg b i = u.vReg b i := (h.tabs _ _ (by omega) hV (by decide)).symm
  unfold State.runScalar State.srcA State.srcB State.srcC
  rw [hs x.a, hs x.b, hs x.c, hv x.a]

/-- The scalar operation of a nanoword: its value in DST, and no other register of any bench. -/
theorem State.nanoScalar_shows {R T : List Nat} (h : Only R T s u) (hS : Tab.benchS ∉ T) (hV : Tab.benchV ∉ T) (hs : ∀ i, i < 64 → s.sReg b i < 2 ^ 64) :
    (∀ o x, n.scalar = some (o, x) → o.isCmp = false → ∃ r, r < 2 ^ 64 ∧ (s.nanoScalar u b n imm).sReg b x.dst = r
        ∧ o.means (s.sReg b x.a) (if x.immB then signExtend 18 64 imm else s.sReg b x.b) (s.sReg b x.c) (s.vReg b x.a) r)
      ∧ (∀ c i, c < 128 → i < 64 → c ≠ b.val ∨ i ∉ n.scalarDst → (s.nanoScalar u b n imm).sReg c i = u.sReg c i)
      ∧ Only [] [Tab.benchS, Tab.benchFlags] { u with freeCtr := (s.nanoScalar u b n imm).freeCtr } (s.nanoScalar u b n imm) := by
  have hreg {i : Nat} (hi : i < 64) : u.sReg b i = s.sReg b i := h.sReg hS b.isLt hi
  have hvec (i : SReg) : u.vReg b i = s.vReg b i := h.tabs _ _ (by omega) hV (by decide)
  unfold State.nanoScalar Nano.scalarDst
  cases hsc : n.scalar with
  | none => exact ⟨fun _ _ h => (by cases h), fun _ _ _ _ _ => rfl, Only.refl _⟩
  | some p =>
    obtain ⟨o, x⟩ := p
    dsimp only
    rw [State.runScalar_from h hS hV]
    refine ⟨fun o' x' hox hcmp => ?_, fun c i hc hi hne => ?_, ?_⟩
    · cases hox
      refine ⟨u.scalarValue b o x imm % 2 ^ 64, Nat.mod_lt _ (by decide), ?_, ?_⟩
      · rw [State.sReg_runScalar _ _ _ _ _ b.isLt x.dst.isLt, State.sReg_scalarPut_same _ _ _ _ _ hcmp]
      · have hmeans := State.scalarValue_means (s := u) (o := o) (b := b) x imm fun i hi => by rw [hreg hi]; exact hs i hi
        unfold State.srcA State.srcB State.srcC at hmeans
        rw [hreg x.a.isLt, hreg x.b.isLt, hreg x.c.isLt, hvec x.a] at hmeans
        exact hmeans
    · rw [State.sReg_runScalar _ _ _ _ _ hc hi]
      refine State.sReg_scalarPut_other _ _ _ _ _ hc hi ?_
      cases hcmp : o.isCmp
      · rw [hcmp] at hne
        exact .inr (by simpa using hne)
      · exact .inl rfl
    · have honly := Only.runScalar u o b x imm
      rw [← honly.freeCtr] at honly
      exact honly

theorem State.runVector_lanes_from (s u : State) (o : VectorOp) (b : BenchNo) (x : VectorSlot) (h : o ≠ .vhsum) : s.runVector u b o x
    = (u.vectorDrew o).setV b x.vd (maskLanes x.mask (s.vReg b x.vd) (lanes32 fun i =>
      vectorLane o (s.vReg b x.va) (s.vReg b x.vb) (s.vReg b x.vc) (s.sReg b x.sreg) i (if o == .vmin || o == .vmax then Config.freeValue (u.freeCtr + i) else 0))) := by
  unfold State.runVector
  rw [if_neg h]
  rfl

/-- The sum of lanes, from `s` into `u`. -/
theorem State.runVector_sum_from (s u : State) (b : BenchNo) (x : VectorSlot) : s.runVector u b .vhsum x = u.setS b x.sreg (horizontalSum (s.vReg b x.va)) :=
  if_pos rfl

/-- A lane-wise operation, from `s` into `u`. -/
theorem State.runVector_lanes_shows (s u : State) {o : VectorOp} (b : BenchNo) (x : VectorSlot) (h : o ≠ .vhsum) :
    (∀ i, i < 8 → bit x.mask i = true →
        o.means (lane32 (s.vReg b x.va) i) (lane32 (s.vReg b x.vb) i) (lane32 (s.vReg b x.vc) i) (s.vReg b x.va) (s.sReg b x.sreg) i
          (lane32 ((s.runVector u b o x).vReg b x.vd) i))
      ∧ (∀ c i, c < 128 → i < 32 → c ≠ b.val ∨ i ≠ x.vd.val → (s.runVector u b o x).vReg c i = u.vReg c i)
      ∧ Only [] [Tab.benchV] { u with freeCtr := (s.runVector u b o x).freeCtr } (s.runVector u b o x) := by
  have hdrew := Only.vectorDrew u o
  have hset (v : Nat) : Only [] [Tab.benchV] (u.vectorDrew o) ((u.vectorDrew o).setV b x.vd v) := Only.setV _ _ b.isLt x.vd.isLt
  rw [State.runVector_lanes_from s u o b x h]
  refine ⟨fun i hi hm => ?_, fun c i hc hi hne => ?_, ?_⟩
  · rw [State.vReg_setV_same, Nat.mod_eq_of_lt (show maskLanes x.mask _ _ < 2 ^ 256 from lanes32_lt _), lane32_maskLanes _ _ _ hi, if_pos hm, lane32_lanes32 _ hi]
    exact vectorLane_means _ _ _ _ _ _ _
  · rw [State.vReg_setV_other _ _ x.vd.isLt hi hne]
    exact hdrew.vReg (by simp) hc hi
  · rw [(hset _).freeCtr]
    exact (hdrew.mono (by simp) (by simp)).trans (hset _)

/-- The vector operation of a nanoword: the lanes of its mask, or the sum of lanes, and no other register of any bench. -/
theorem State.nanoVector_shows (s u : State) (b : BenchNo) (n : Nano) :
    (∀ o x, n.vector = some (o, x) → o ≠ .vhsum → ∀ i, i < 8 → bit x.mask i = true →
        o.means (lane32 (s.vReg b x.va) i) (lane32 (s.vReg b x.vb) i) (lane32 (s.vReg b x.vc) i) (s.vReg b x.va) (s.sReg b x.sreg) i
          (lane32 ((s.nanoVector u b n).vReg b x.vd) i))
      ∧ (∀ c i, c < 128 → i < 64 → c ≠ b.val ∨ i ∉ n.sumDst → (s.nanoVector u b n).sReg c i = u.sReg c i)
      ∧ (∀ c i, c < 128 → i < 32 → c ≠ b.val ∨ i ∉ n.laneDst → (s.nanoVector u b n).vReg c i = u.vReg c i)
      ∧ Only [] [Tab.benchS, Tab.benchV] { u with freeCtr := (s.nanoVector u b n).freeCtr } (s.nanoVector u b n) := by
  unfold State.nanoVector Nano.sumDst Nano.laneDst
  cases hve : n.vector with
  | none => exact ⟨fun _ _ h => (by cases h), fun _ _ _ _ _ => rfl, fun _ _ _ _ _ => rfl, Only.refl _⟩
  | some p =>
    obtain ⟨o, x⟩ := p
    dsimp only
    by_cases hsum : o = .vhsum
    · subst hsum
      have hset := Only.setS u (horizontalSum (s.vReg b x.va)) b.isLt x.sreg.isLt
      rw [State.runVector_sum_from]
      refine ⟨fun o' x' hox hne => ?_, fun c i hc hi hne => ?_, fun c i hc hi _ => hset.vReg (by decide) hc hi,
        (hset.mono (List.Subset.refl _) (by simp)).withDrawn⟩
      · cases hox
        exact absurd rfl hne
      · exact State.sReg_setS_other _ _ x.sreg.isLt hi (by simpa using hne)
    · have hlanes : o.lanes = true := bne_iff_ne.mpr hsum
      obtain ⟨hmeans, hother, honly⟩ := s.runVector_lanes_shows u b x hsum
      rw [hlanes]
      refine ⟨fun o' x' hox _ i hi hm => ?_, fun c i hc hi _ => honly.sReg (by decide) hc hi, fun c i hc hi hne => hother c i hc hi (by simpa using hne),
        honly.mono (List.Subset.refl _) (by simp)⟩
      cases hox
      exact hmeans i hi hm

end

end Sys2Proof.Machine
end

section
/-!
SUPPORT. EXEC and BRANCH as a whole (R384, R421, R431).
-/
namespace Sys2Proof.Machine

/-! ### No nanoword writes a register twice (R431) -/

theorem distinct_iff {l : List Nat} : distinct l = true ↔ l.Nodup := by
  induction l with
  | nil => simp [distinct]
  | cons x l ih => simp [distinct, ih]

theorem decodeNano_distinct {w : Nat} {n : Nano} (h : decodeNano w = some n) : distinct n.writesS = true := by
  unfold decodeNano at h
  split at h
  · dsimp only at h
    split at h
    · next hd =>
      cases h
      exact (Bool.and_eq_true_iff.mp hd).1
    · cases h
  · cases h

section
variable {n : Nano}

theorem Nano.writesS_eq : ∃ l, n.writesS = n.scalarDst ++ n.sumDst ++ l := ⟨_, List.append_assoc _ _ _⟩

theorem Nano.writesV_eq : ∃ l, n.writesV = n.laneDst ++ l := ⟨_, List.append_assoc _ _ _⟩

theorem Nano.not_writesS {i : Nat} (h : i ∉ n.writesS) : i ∉ n.scalarDst ∧ i ∉ n.sumDst := by
  obtain ⟨l, hl⟩ := n.writesS_eq
  rw [hl] at h
  exact ⟨fun hi => h (by simp [hi]), fun hi => h (by simp [hi])⟩

theorem Nano.not_writesV {i : Nat} (h : i ∉ n.writesV) : i ∉ n.laneDst := by
  obtain ⟨l, hl⟩ := n.writesV_eq
  rw [hl] at h
  exact fun hi => h (by simp [hi])

/-- DST of the scalar operation is no register of the vector operation. -/
theorem Nano.sumDst_of_scalar (hd : distinct n.writesS = true) {o : ScalarOp} {x : ScalarSlot} (hs : n.scalar = some (o, x)) (hcmp : o.isCmp = false) :
    x.dst.val ∉ n.sumDst := by
  obtain ⟨l, hl⟩ := n.writesS_eq
  have hin : x.dst.val ∈ n.scalarDst := by
    unfold Nano.scalarDst
    rw [hs]
    dsimp only
    rw [hcmp]
    simp
  rw [distinct_iff, hl] at hd
  exact fun h => (List.nodup_append.mp (List.nodup_append.mp hd).1).2.2 _ hin _ h rfl

end

/-! ### What goes on after an issue -/

section
variable {s u : State} {b : BenchNo} {e : BenchEnv} {m : Micro} {n : Nano} {nano imm : Nat}

theorem Only.goesOn (m : Micro) (s u : State) (b : BenchNo) : Only [Reg.BENCH.PC b] [Tab.benchLoop] u (m.goesOn s b u) := by
  unfold Micro.goesOn
  split
  · split
    · exact (u.jumpTo_shows b _).2.2
    · exact Only.advance u b
  · exact Only.advance u b

/-- The program counter and the loops after EXEC or BRANCH (R421, R423). -/
theorem Micro.goesOn_shows (hu : Only [] [] s u) :
    (m = .exec nano imm → loopsMove (s.reg (Reg.BENCH.PC b)) (s.loopStack b) ((m.goesOn s b u).loopStack b) ((m.goesOn s b u).reg (Reg.BENCH.PC b)))
      ∧ (∀ cond target, m = .branch nano cond target → if s.condHolds b cond = true
          then (m.goesOn s b u).reg (Reg.BENCH.PC b) = target ∧ loopsJump target (s.loopStack b) ((m.goesOn s b u).loopStack b)
          else loopsMove (s.reg (Reg.BENCH.PC b)) (s.loopStack b) ((m.goesOn s b u).loopStack b) ((m.goesOn s b u).reg (Reg.BENCH.PC b))) := by
  rw [← hu.loopStack b (by simp), ← hu.pc b (by simp)]
  refine ⟨?_, ?_⟩
  · rintro rfl
    exact u.advance_moves b
  · rintro cond target rfl
    unfold Micro.goesOn
    dsimp only
    split
    · obtain ⟨hpc, hloops, -⟩ := u.jumpTo_shows b target
      exact ⟨hpc, hloops⟩
    · exact u.advance_moves b

/-- An issue of a scalar and a vector operation (R384). -/
theorem exec_issue_shows (h : s.fetches b e m) (hm : m.issues nano imm) (hn : s.fetchesNano b nano e n) (hmem : n.memory = none) (hcw : n.cword = none)
    (htiles : n.tiles = []) (h5 : s.misc b 5 = 0) (hw : s.tilesWait b = false) (hs : ∀ i, i < 64 → s.sReg b i < 2 ^ 64) :
    ∃ t, exec (m.command b e) s = .next t
      ∧ (m = .exec nano imm → loopsMove (s.reg (Reg.BENCH.PC b)) (s.loopStack b) (t.loopStack b) (t.reg (Reg.BENCH.PC b)))
      ∧ (∀ cond target, m = .branch nano cond target → if s.condHolds b cond = true
          then t.reg (Reg.BENCH.PC b) = target ∧ loopsJump target (s.loopStack b) (t.loopStack b)
          else loopsMove (s.reg (Reg.BENCH.PC b)) (s.loopStack b) (t.loopStack b) (t.reg (Reg.BENCH.PC b)))
      ∧ (∀ o x, n.scalar = some (o, x) → o.isCmp = false → ∃ r, r < 2 ^ 64 ∧ t.sReg b x.dst = r
          ∧ o.means (s.sReg b x.a) (if x.immB then signExtend 18 64 imm else s.sReg b x.b) (s.sReg b x.c) (s.vReg b x.a) r)
      ∧ (∀ o x, n.vector = some (o, x) → o ≠ .vhsum → ∀ i, i < 8 → bit x.mask i = true →
          o.means (lane32 (s.vReg b x.va) i) (lane32 (s.vReg b x.vb) i) (lane32 (s.vReg b x.vc) i) (s.vReg b x.va) (s.sReg b x.sreg) i
            (lane32 (t.vReg b x.vd) i))
      ∧ (∀ i, i < 64 → i ∉ n.writesS → t.sReg b i = s.sReg b i) ∧ (∀ i, i < 32 → i ∉ n.writesV → t.vReg b i = s.vReg b i)
      ∧ (∀ c i, c < 128 → c ≠ b.val → (i < 64 → t.sReg c i = s.sReg c i) ∧ (i < 32 → t.vReg c i = s.vReg c i))
      ∧ Only [Reg.BENCH.PC b] [Tab.benchLoop, Tab.benchS, Tab.benchV, Tab.benchFlags] { s with freeCtr := t.freeCtr } t := by
  let z := s.issuing b e
  let u := m.goesOn s b z
  let v := z.nanoScalar u b n imm
  let w := z.nanoVector v b n
  have hz : Only [] [] s z := Only.issuing s b e
  have hu : Only [Reg.BENCH.PC b] [Tab.benchLoop] z u := Only.goesOn m s z b
  have hdue : Only [] [] w w.deliverDue := Only.deliverDue _
  have hsz (i : SReg) : z.sReg b i = s.sReg b i := hz.sReg (by simp) b.isLt i.isLt
  have hvz (i : Nat) (hi : i < 64) : z.vReg b i = s.vReg b i := hz.tabs _ _ (by omega) (by simp) (by decide)
  have hzu {c i : Nat} (hc : c < 128) (hi : i < 64) : u.sReg c i = s.sReg c i := (hu.sReg (by decide) hc hi).trans (hz.sReg (by simp) hc hi)
  have hzv {c i : Nat} (hc : c < 128) (hi : i < 32) : u.vReg c i = s.vReg c i := (hu.vReg (by decide) hc hi).trans (hz.vReg (by simp) hc hi)
  obtain ⟨hvalue, hsother, hvonly⟩ := State.nanoScalar_shows (n := n) (imm := imm) hu (by decide) (by decide)
    fun i hi => (hz.sReg (by simp) b.isLt hi).trans_lt (hs i hi)
  obtain ⟨hlanes, hwother, hlother, hwonly⟩ := z.nanoVector_shows v b n
  obtain ⟨hexec, hbranch⟩ := Micro.goesOn_shows (m := m) (b := b) (nano := nano) (imm := imm) hz
  have hstall : z.nanoStalls b n = false := by
    unfold State.nanoStalls
    rw [hmem, hcw]
    rfl
  have htrap : z.nanoTrap b n imm e = none := by
    unfold State.nanoTrap
    rw [hmem, hcw, htiles]
    rfl
  have hrun : exec (m.command b e) s = .next w.deliverDue := by
    have hissue := exec_issue_runs h hm hn hstall htrap htiles ((hz.misc b.isLt (by decide) (by simp)).trans h5) (hz.tilesWait.trans hw)
    rwa [State.runNano_units hmem hcw htiles] at hissue
  have hunits : Only [] [Tab.benchS, Tab.benchV, Tab.benchFlags] { u with freeCtr := w.deliverDue.freeCtr } w.deliverDue :=
    Only.drawn (Only.drawn (hvonly.mono (by simp) (by simp)) (hwonly.mono (by simp) (by simp))) (hdue.mono (by simp) (by simp)).withDrawn
  have hloops : w.deliverDue.loopStack b = u.loopStack b := hunits.loopStack b (by decide)
  have hpc : w.deliverDue.reg (Reg.BENCH.PC b) = u.reg (Reg.BENCH.PC b) := hunits.pc b (by simp)
  have hkeepS {c i : Nat} (hc : c < 128) (hi : i < 64) (hne : c ≠ b.val ∨ i ∉ n.scalarDst ∧ i ∉ n.sumDst) : w.deliverDue.sReg c i = s.sReg c i :=
    (hdue.sReg (by simp) hc hi).trans ((hwother c i hc hi (hne.imp id And.right)).trans ((hsother c i hc hi (hne.imp id And.left)).trans (hzu hc hi)))
  have hkeepV {c i : Nat} (hc : c < 128) (hi : i < 32) (hne : c ≠ b.val ∨ i ∉ n.laneDst) : w.deliverDue.vReg c i = s.vReg c i :=
    (hdue.vReg (by simp) hc hi).trans ((hlother c i hc hi hne).trans ((hvonly.vReg (by decide) hc hi).trans (hzv hc hi)))
  refine ⟨w.deliverDue, hrun, ?_, ?_, fun o x hx hcmp => ?_, fun o x hx hsum i hi hmask => ?_, fun i hi hni => hkeepS b.isLt hi (.inr (Nano.not_writesS hni)),
    fun i hi hni => hkeepV b.isLt hi (.inr (Nano.not_writesV hni)), fun c i hc hcb => ⟨fun hi => hkeepS hc hi (.inl hcb), fun hi => hkeepV hc hi (.inl hcb)⟩, ?_⟩
  · rw [hloops, hpc]
    exact hexec
  · rw [hloops, hpc]
    exact hbranch
  · obtain ⟨r, hr, hdst, hmeans⟩ := hvalue o x hx hcmp
    obtain ⟨-, -, wd, -, hwd⟩ := hn
    have hsum := Nano.sumDst_of_scalar (decodeNano_distinct hwd) hx hcmp
    rw [hsz x.a, hsz x.b, hsz x.c, hvz x.a x.a.isLt] at hmeans
    exact ⟨r, hr, (hdue.sReg (by simp) b.isLt x.dst.isLt).trans ((hwother b x.dst b.isLt x.dst.isLt (.inr hsum)).trans hdst), hmeans⟩
  · have hlane := hlanes o x hx hsum i hi hmask
    rw [hvz x.va (by omega), hvz x.vb (by omega), hvz x.vc (by omega), hsz x.sreg] at hlane
    rw [hdue.vReg (by simp) b.isLt x.vd.isLt]
    exact hlane
  · have hgo : Only [Reg.BENCH.PC b] [Tab.benchLoop] s u := (hz.mono (List.nil_subset _) (List.nil_subset _)).trans hu
    exact Only.drawn (hgo.mono (List.Subset.refl _) (by simp)).withDrawn (hunits.mono (List.nil_subset _) (by simp))

/-- An issue in which nothing stalls, traps or waits (R384). -/
theorem exec_issue_performs (h : s.fetches b e m) (hm : m.issues nano imm) (hn : s.fetchesNano b nano e n) (he : e.fetch = 0)
    (hs : s.nanoStalls b n = false) (ht : s.nanoTrap b n imm e = none) (htiles : n.tiles = []) (h5 : s.misc b 5 = 0) (hw : s.tilesWait b = false) :
    exec (m.command b e) s = .next (s.runNano (m.goesOn s b s) b n imm e).deliverDue := by
  have hclean := State.issuing_clean (s := s) (b := b) he
  have hrun := exec_issue_runs h hm hn (hclean.symm ▸ hs) (hclean.symm ▸ ht) htiles (hclean.symm ▸ h5) (hclean.symm ▸ hw)
  rwa [hclean] at hrun

theorem Micro.goesOn_next {next : State} (h : (m = .exec nano imm ∧ next = s.advance b) ∨ ∃ cond target, m = .branch nano cond target
    ∧ next = if s.condHolds b cond then s.jumpTo b target else s.advance b) : m.goesOn s b s = next := by
  obtain ⟨rfl, rfl⟩ | ⟨cond, target, rfl, rfl⟩ := h
  · rfl
  · unfold Micro.goesOn
    dsimp only
    split <;> rfl

end

end Sys2Proof.Machine
end

section
/-!
SUPPORT. The vendor routines (R442): what they leave open, and what they do to scratch.
-/
namespace Sys2Proof.Machine

/-- Tables of the registers that a routine may change. -/
abbrev routineTabs : List Nat := [Tab.benchS, Tab.benchV, Tab.benchT, Tab.benchFlags]

/-- `u` differs from `s` in memory and in the registers that a routine may change of bench `b` alone (R442). -/
structure RoutineOpen (b : Nat) (s u : State) : Prop where
  only : Only [] routineTabs { s with mem := u.mem, freeCtr := u.freeCtr } u
  sReg : ∀ i, i < 32 → u.sReg b i = s.sReg b i
  vReg : ∀ i, i < 24 → u.vReg b i = s.vReg b i
  tReg : ∀ i, i < 12 → u.tReg b i = s.tReg b i

section
variable {b : Nat} {s u v : State}

theorem RoutineOpen.refl (b : Nat) (s : State) : RoutineOpen b s s :=
  ⟨Only.refl _, fun _ _ => rfl, fun _ _ => rfl, fun _ _ => rfl⟩

theorem RoutineOpen.trans (h : RoutineOpen b s u) (g : RoutineOpen b u v) : RoutineOpen b s v where
  only := Only.trans (t := ({ u with mem := v.mem, freeCtr := v.freeCtr } : State)) { h.only with mem := rfl, freeCtr := rfl } g.only
  sReg i hi := (g.sReg i hi).trans (h.sReg i hi)
  vReg i hi := (g.vReg i hi).trans (h.vReg i hi)
  tReg i hi := (g.tReg i hi).trans (h.tReg i hi)

theorem RoutineOpen.drew (b : Nat) (s : State) : RoutineOpen b s s.drew :=
  ⟨Only.refl _, fun _ _ => rfl, fun _ _ => rfl, fun _ _ => rfl⟩

theorem RoutineOpen.setBytes (b : Nat) (s : State) (a : Nat) (d : Bytes) : RoutineOpen b s (s.setBytes a d) := by
  rw [State.setBytes_mem]
  exact ⟨Only.refl _, fun _ _ => rfl, fun _ _ => rfl, fun _ _ => rfl⟩

theorem RoutineOpen.of_only (h : Only [] routineTabs s u) (hs : ∀ i, i < 32 → u.sReg b i = s.sReg b i) (hv : ∀ i, i < 24 → u.vReg b i = s.vReg b i)
    (ht : ∀ i, i < 12 → u.tReg b i = s.tReg b i) : RoutineOpen b s u := by
  refine ⟨?_, hs, hv, ht⟩
  rw [h.mem, h.freeCtr]
  exact h

theorem RoutineOpen.setS (s : State) {i : Nat} (w : Nat) (hb : b < 128) (hi : 32 ≤ i ∧ i < 64) : RoutineOpen b s (s.setS b i w) :=
  have h := Only.setS s w hb hi.2
  .of_only (h.mono (by simp) (by simp)) (fun _ hj => s.sReg_setS_other w hi.2 (by omega) (.inr (by omega)))
    (fun _ hj => h.vReg (by decide) hb (by omega)) (fun _ hj => h.tReg (by decide) hb (by omega))

theorem RoutineOpen.setV (s : State) {i : Nat} (w : Nat) (hb : b < 128) (hi : 24 ≤ i ∧ i < 32) : RoutineOpen b s (s.setV b i w) :=
  have h := Only.setV s w hb hi.2
  .of_only (h.mono (by simp) (by simp)) (fun _ hj => h.sReg (by decide) hb (by omega))
    (fun _ hj => s.vReg_setV_other w hi.2 (by omega) (.inr (by omega))) (fun _ hj => h.tReg (by decide) hb (by omega))

theorem RoutineOpen.setT (s : State) {i : Nat} (w : Nat) (hb : b < 128) (hi : 12 ≤ i ∧ i < 16) : RoutineOpen b s (s.setT b i w) :=
  have h := Only.setT s w hb hi.2
  .of_only (h.mono (by simp) (by simp)) (fun _ hj => h.sReg (by decide) hb (by omega)) (fun _ hj => h.vReg (by decide) hb (by omega))
    (fun _ hj => s.tReg_setT_other w hi.2 (by omega) (.inr (by omega)))

theorem RoutineOpen.setFlags (s : State) (w : Nat) (hb : b < 128) : RoutineOpen b s (s.setTab Tab.benchFlags b w) :=
  have h : Only [] [Tab.benchFlags] s (s.setTab Tab.benchFlags b w) := Only.setTab _ _ _ _ (by omega) (.inl (by simp))
  .of_only (h.mono (by simp) (by simp)) (fun _ hj => h.sReg (by decide) hb (by omega)) (fun _ hj => h.vReg (by decide) hb (by omega))
    (fun _ hj => h.tReg (by decide) hb (by omega))

theorem RoutineOpen.forAll {f : State → Nat → State} {n : Nat} (hf : ∀ u i, i < n → RoutineOpen b u (f u i)) (s : State) :
    RoutineOpen b s (s.forAll (List.range n) f) :=
  State.forAll_invariant (Q := RoutineOpen b s) (fun u i hi hu => hu.trans (hf u i (List.mem_range.mp hi))) (.refl b s)

/-- Every register that a routine may change, and no other (R442). -/
theorem RoutineOpen.scrubRegs (s : State) (hb : b < 128) : RoutineOpen b s (s.scrubRegs b) := by
  unfold State.scrubRegs
  dsimp only
  refine (RoutineOpen.trans ?_ (.drew b _)).trans (.setFlags _ _ hb)
  refine RoutineOpen.trans (RoutineOpen.trans ?_ (.forAll (fun u i hi => ?_) _)) (.forAll (fun u i hi => ?_) _)
  · exact .forAll (fun u i hi => (RoutineOpen.drew b u).trans (.setS _ _ hb (by omega))) s
  · exact (RoutineOpen.drew b u).trans (.setV _ _ hb (by omega))
  · exact (RoutineOpen.drew b u).trans (.setT _ _ hb (by omega))

theorem State.scrubRegs_mem (s : State) (b : Nat) : (s.scrubRegs b).mem = s.mem := by
  unfold State.scrubRegs
  dsimp only
  rw [State.setTab_mem, State.drew_mem]
  have hstep (u : State) (t i v : Nat) : (u.drew.setTab t i v).mem = u.mem := (State.setTab_mem _ _ _ _).trans u.drew_mem
  exact (State.view_forAll (g := State.mem) (fun u i _ => hstep u _ _ _) _).trans
    ((State.view_forAll (g := State.mem) (fun u i _ => hstep u _ _ _) _).trans (State.view_forAll (g := State.mem) (fun u i _ => hstep u _ _ _) s))

end

/-! ### What a routine does to scratch -/

section
variable {s : State} {b : BenchNo}

theorem RoutineOpen.routineEffect (s0 u : State) (b : BenchNo) (pc : Nat) : RoutineOpen b u (s0.routineEffect u b pc) := by
  unfold State.routineEffect
  dsimp only
  split
  · exact .setBytes b u _ _
  · split
    · exact .setBytes b u _ _
    · split
      · exact (RoutineOpen.drew b u).trans (.setBytes b _ _ _)
      · exact .setS u _ b.isLt (by decide)

theorem scratchAddr_add (b a k : Nat) : scratchAddr b (a + k) = scratchAddr b a + k := (Nat.add_assoc _ _ _).symm

section
variable {u : State} (hmem : u.mem = s.mem)
include hmem

theorem State.byte_of_mem (x : Nat) : u.byte x = s.byte x := by
  unfold State.byte
  rw [hmem]

theorem State.routine_copies :
    (∀ k, k < s.sReg b 34 → (s.routineEffect u b 0x3800).byte (scratchAddr b (s.sReg b 33 + k)) = s.byte (scratchAddr b (s.sReg b 32 + k)))
      ∧ ∀ x, x < scratchAddr b (s.sReg b 33) ∨ scratchAddr b (s.sReg b 33 + s.sReg b 34) ≤ x → (s.routineEffect u b 0x3800).byte x = s.byte x := by
  have heffect : s.routineEffect u b 0x3800 = u.setScratch b (s.sReg b 33) (s.scratch b (s.sReg b 32) (s.sReg b 34)) := by
    unfold State.routineEffect
    dsimp only
    rw [if_pos rfl]
  refine ⟨fun k hk => ?_, fun x hx => ?_⟩
  · rw [heffect, State.setScratch, State.scratch, State.byte_setBytes, State.length_bytesFrom, scratchAddr_add, if_pos (by omega), Nat.add_sub_cancel_left, getD_bytesFrom _ _ hk, State.byte_mod, scratchAddr_add]
  · rw [scratchAddr_add] at hx
    rw [heffect, State.setScratch, State.scratch, State.byte_setBytes, State.length_bytesFrom, if_neg (by omega), State.byte_of_mem hmem]

theorem State.routine_fills :
    (∀ k, k < s.sReg b 34 → (s.routineEffect u b 0x3840).byte (scratchAddr b (s.sReg b 32 + k)) = s.sReg b 35 % 256)
      ∧ ∀ x, x < scratchAddr b (s.sReg b 32) ∨ scratchAddr b (s.sReg b 32 + s.sReg b 34) ≤ x → (s.routineEffect u b 0x3840).byte x = s.byte x := by
  have heffect : s.routineEffect u b 0x3840 = u.setScratch b (s.sReg b 32) (List.replicate (s.sReg b 34) (s.sReg b 35 % 256)) := by
    unfold State.routineEffect
    dsimp only
    rw [if_neg (by decide), if_pos rfl]
  refine ⟨fun k hk => ?_, fun x hx => ?_⟩
  · rw [heffect, State.setScratch, State.byte_setBytes, List.length_replicate, scratchAddr_add, if_pos (by omega), Nat.add_sub_cancel_left, List.getD_replicate _ hk, Nat.mod_mod]
  · rw [scratchAddr_add] at hx
    rw [heffect, State.setScratch, State.byte_setBytes, List.length_replicate, if_neg (by omega), State.byte_of_mem hmem]

/-- GEMV stores 4 octets of y for each row, whatever they are (R442). -/
theorem State.routine_stores (x : Nat) (hx : x < scratchAddr b (s.sReg b 33) ∨ scratchAddr b (s.sReg b 33 + 4 * s.sReg b 34) ≤ x) :
    (s.routineEffect u b 0x3880).byte x = s.byte x := by
  have heffect : s.routineEffect u b 0x3880
      = u.drew.setScratch b (s.sReg b 33) (toLE (4 * s.sReg b 34) (u.freeBelow (2 ^ (32 * s.sReg b 34)))) := by
    unfold State.routineEffect
    dsimp only
    rw [if_neg (by decide), if_neg (by decide), if_pos rfl]
  rw [heffect]
  rw [scratchAddr_add, ← length_toLE (4 * s.sReg b 34) (u.freeBelow (2 ^ (32 * s.sReg b 34)))] at hx
  exact (State.byte_setScratch_other _ _ _ hx).trans (State.byte_of_mem (u.drew_mem.trans hmem) x)

theorem State.routine_checks : (s.routineEffect u b 0x38C0).sReg b 63 = crc32c (s.scratch b (s.sReg b 32) (s.sReg b 34)) % 2 ^ 64
    ∧ (s.routineEffect u b 0x38C0).mem = s.mem := by
  have heffect : s.routineEffect u b 0x38C0 = u.setS b 63 (crc32c (s.scratch b (s.sReg b 32) (s.sReg b 34))) := by
    unfold State.routineEffect
    dsimp only
    rw [if_neg (by decide), if_neg (by decide), if_neg (by decide)]
  rw [heffect]
  exact ⟨u.sReg_setS_same _ _ _, (State.setTab_mem _ _ _ _).trans hmem⟩

end

end

/-! ### A routine's call -/

section
variable {s : State} {b : BenchNo} {e : BenchEnv}

theorem exec_routine_runs (hrun : s.benchRuns b = true) (hr : s.atRoutine b = true) : exec (.execMicroword b e) s = .next (s.runRoutine b).deliverDue := by
  have hexec : exec (.execMicroword b e) s = execExecMicroword b e s := rfl
  rw [hexec]
  unfold execExecMicroword
  rw [hrun, hr]
  rfl

theorem exec_routine_traps {c : Nat} (hrun : s.benchRuns b = true) (hr : s.atRoutine b = true) (hc : s.routineTrap b (s.reg (Reg.BENCH.PC b)) = some c) :
    ∃ t, exec (.execMicroword b e) s = .next t ∧ t.trapped s b c := by
  refine ⟨_, exec_routine_runs hrun hr, ?_⟩
  unfold State.runRoutine
  dsimp only
  rw [hc]
  exact s.trapBench_trapped c b.isLt

theorem exec_routine_uncalled (hrun : s.benchRuns b = true) (hr : s.atRoutine b = true) (hc : s.routineTrap b (s.reg (Reg.BENCH.PC b)) = none)
    (hl : s.retStack b = []) : ∃ t, exec (.execMicroword b e) s = .next t ∧ t.trapped s b 1 := by
  refine ⟨_, exec_routine_runs hrun hr, ?_⟩
  unfold State.runRoutine
  dsimp only
  rw [hc, hl]
  exact s.trapBench_trapped 1 b.isLt

/-- A routine returns with its effect on memory and on s63, and with the registers that it may not change (R442). -/
theorem exec_routine_returns {l : List Nat} {a : Nat} (hrun : s.benchRuns b = true) (hr : s.atRoutine b = true)
    (hc : s.routineTrap b (s.reg (Reg.BENCH.PC b)) = none) (hl : s.retStack b = l ++ [a]) :
    ∃ t, exec (.execMicroword b e) s = .next t ∧ t.reg (Reg.BENCH.PC b) = a ∧ t.retStack b = l
      ∧ t.mem = (s.routineEffect (s.scrubRegs b) b (s.reg (Reg.BENCH.PC b))).mem
      ∧ t.sReg b 63 = (s.routineEffect (s.scrubRegs b) b (s.reg (Reg.BENCH.PC b))).sReg b 63
      ∧ (∀ i, (i < 32 → t.sReg b i = s.sReg b i) ∧ (i < 24 → t.vReg b i = s.vReg b i) ∧ (i < 12 → t.tReg b i = s.tReg b i))
      ∧ Only [Reg.BENCH.PC b] [Tab.benchRet, Tab.benchS, Tab.benchV, Tab.benchT, Tab.benchFlags]
          { s with mem := t.mem, freeCtr := t.freeCtr } t := by
  let v := s.routineEffect (s.scrubRegs b) b (s.reg (Reg.BENCH.PC b))
  have hopen : RoutineOpen b s v := (RoutineOpen.scrubRegs s b.isLt).trans (.routineEffect s _ b _)
  have hlen : l.length ≤ 16 := by
    have := s.length_retStack b
    rw [hl, List.length_append] at this
    omega
  have hset : Only [] [Tab.benchRet] v (v.setRetStack b l) := Only.setRetStack _ _ b.isLt (by simp)
  have hgo := Only.setPc (v.setRetStack b l) b a
  have hdue : Only [] [] ((v.setRetStack b l).setReg (Reg.BENCH.PC b) a) ((v.setRetStack b l).setReg (Reg.BENCH.PC b) a).deliverDue := Only.deliverDue _
  have hafter : Only [Reg.BENCH.PC b] [Tab.benchRet] v ((v.setRetStack b l).setReg (Reg.BENCH.PC b) a).deliverDue :=
    ((hset.mono (by simp) (by simp)).trans (hgo.mono (by simp) (by simp))).trans (hdue.mono (by simp) (by simp))
  have hstate : s.runRoutine b = (v.setRetStack b l).setReg (Reg.BENCH.PC b) a := by
    unfold State.runRoutine
    dsimp only
    rw [hc, hl, List.getLast?_concat, List.dropLast_concat]
  rw [exec_routine_runs hrun hr, hstate]
  refine ⟨_, rfl, (hdue.pc b (by simp)).trans (State.reg_setReg_same _ _ _), ?_,
    hafter.mem, hafter.sReg (by decide) b.isLt (by decide), fun i => ⟨fun hi => ?_, fun hi => ?_, fun hi => ?_⟩, ?_⟩
  · rw [hdue.retStack b (by simp), hgo.retStack b (by simp), State.retStack_setRetStack _ _ hlen]
  · exact (hafter.sReg (by decide) b.isLt (by omega)).trans (hopen.sReg i hi)
  · exact (hafter.vReg (by decide) b.isLt (by omega)).trans (hopen.vReg i hi)
  · exact (hafter.tReg (by decide) b.isLt (by omega)).trans (hopen.tReg i hi)
  · rw [hafter.mem, hafter.freeCtr]
    exact (hopen.only.mono (by simp) (by simp)).trans (hafter.mono (by simp) (by simp))

/-! ### The scratch that a routine needs -/

theorem State.routineTrap_out (hpc : s.reg (Reg.BENCH.PC b) ≠ 0x3880) (hout : ¬(s.sReg b 32 + s.sReg b 34 ≤ 262144
    ∧ (s.reg (Reg.BENCH.PC b) = 0x3800 → s.sReg b 33 + s.sReg b 34 ≤ 262144))) : s.routineTrap b (s.reg (Reg.BENCH.PC b)) = some 2 := by
  unfold State.routineTrap
  dsimp only
  by_cases hsrc : s.sReg b 32 + s.sReg b 34 ≤ 262144
  · obtain ⟨hcopy, hdst⟩ : s.reg (Reg.BENCH.PC b) = 0x3800 ∧ ¬s.sReg b 33 + s.sReg b 34 ≤ 262144 := by
      simpa [hsrc] using hout
    rw [if_pos hcopy, scratchTrap_none hsrc (.inl rfl), scratchTrap_out false _ (by omega)]
    rfl
  · rw [scratchTrap_out (a := s.sReg b 32) (n := s.sReg b 34) false _ (by omega), if_neg hpc, ite_self]
    split <;> rfl

theorem State.routineTrap_none (hpc : s.reg (Reg.BENCH.PC b) ≠ 0x3880) (hsrc : s.sReg b 32 + s.sReg b 34 ≤ 262144)
    (hdst : s.reg (Reg.BENCH.PC b) = 0x3800 → s.sReg b 33 + s.sReg b 34 ≤ 262144) : s.routineTrap b (s.reg (Reg.BENCH.PC b)) = none := by
  unfold State.routineTrap
  dsimp only
  rw [scratchTrap_none (a := s.sReg b 32) (n := s.sReg b 34) hsrc (.inl rfl), if_neg hpc, ite_self]
  split
  · next h =>
    rw [scratchTrap_none (hdst h) (.inl rfl)]
    rfl
  · rfl

theorem State.routineTrap_gemv (hw : s.sReg b 32 + 4 * s.sReg b 34 * s.sReg b 35 ≤ 262144) (hx : s.sReg b 36 + 4 * s.sReg b 35 ≤ 262144)
    (hy : s.sReg b 33 + 4 * s.sReg b 34 ≤ 262144) : s.routineTrap b 0x3880 = none := by
  unfold State.routineTrap
  dsimp only
  rw [if_neg (by decide), if_neg (by decide), if_pos rfl, scratchTrap_none hw (.inl rfl), scratchTrap_none hx (.inl rfl), scratchTrap_none hy (.inl rfl)]
  rfl

end

end Sys2Proof.Machine
end

section
/-!
SUPPORT. What a fetched EXEC or BRANCH, and a vendor routine, make of a bench (R384, R431, R442, R455).
-/
namespace Sys2Proof.Machine

section
variable {s : State} {b : BenchNo} {e : BenchEnv} {m : Micro} {nano : Nat}

theorem Micro.issues_of (h : (∃ imm, m = .exec nano imm) ∨ ∃ cond target, m = .branch nano cond target) : ∃ imm, m.issues nano imm := by
  obtain ⟨imm, h⟩ | h := h
  · exact ⟨imm, .inl h⟩
  · exact ⟨0, .inr ⟨rfl, h⟩⟩

/-- A copy, a fill or a CRC that stays in scratch, called (R442). -/
theorem exec_routine_shows {l : List Nat} {a : Nat} (hrun : s.benchRuns b = true) (hr : s.atRoutine b = true) (hpc : s.reg (Reg.BENCH.PC b) ≠ 0x3880)
    (hsrc : s.sReg b 32 + s.sReg b 34 ≤ 262144) (hdst : s.reg (Reg.BENCH.PC b) = 0x3800 → s.sReg b 33 + s.sReg b 34 ≤ 262144) (hl : s.retStack b = l ++ [a]) :
    ∃ t, exec (.execMicroword b e) s = .next t ∧ t.reg (Reg.BENCH.PC b) = a ∧ t.retStack b = l
      ∧ (s.reg (Reg.BENCH.PC b) = 0x3800 →
          (∀ k, k < s.sReg b 34 → t.byte (scratchAddr b (s.sReg b 33 + k)) = s.byte (scratchAddr b (s.sReg b 32 + k)))
          ∧ ∀ x, x < scratchAddr b (s.sReg b 33) ∨ scratchAddr b (s.sReg b 33 + s.sReg b 34) ≤ x → t.byte x = s.byte x)
      ∧ (s.reg (Reg.BENCH.PC b) = 0x3840 → (∀ k, k < s.sReg b 34 → t.byte (scratchAddr b (s.sReg b 32 + k)) = s.sReg b 35 % 256)
          ∧ ∀ x, x < scratchAddr b (s.sReg b 32) ∨ scratchAddr b (s.sReg b 32 + s.sReg b 34) ≤ x → t.byte x = s.byte x)
      ∧ (s.reg (Reg.BENCH.PC b) = 0x38C0 → t.sReg b 63 = crc32c (s.scratch b (s.sReg b 32) (s.sReg b 34)) % 2 ^ 64 ∧ t.mem = s.mem)
      ∧ (∀ i, (i < 32 → t.sReg b i = s.sReg b i) ∧ (i < 24 → t.vReg b i = s.vReg b i) ∧ (i < 12 → t.tReg b i = s.tReg b i))
      ∧ Only [Reg.BENCH.PC b] [Tab.benchRet, Tab.benchS, Tab.benchV, Tab.benchT, Tab.benchFlags]
          { s with mem := t.mem, freeCtr := t.freeCtr } t := by
  obtain ⟨t, ht, hpct, hret, hmem, h63, hkept, honly⟩ := exec_routine_returns (e := e) hrun hr (State.routineTrap_none hpc hsrc hdst) hl
  have hscrub := s.scrubRegs_mem b
  refine ⟨t, ht, hpct, hret, fun hcopy => ?_, fun hfill => ?_, fun hcrc => ?_, hkept, honly⟩
  · rw [hcopy] at hmem
    simpa only [State.byte_of_mem hmem] using State.routine_copies hscrub
  · rw [hfill] at hmem
    simpa only [State.byte_of_mem hmem] using State.routine_fills hscrub
  · rw [hcrc] at hmem h63
    rw [hmem, h63]
    exact State.routine_checks hscrub

/-- GEMV over operands that lie in scratch, called (R442). -/
theorem exec_gemv_shows {l : List Nat} {a : Nat} (hrun : s.benchRuns b = true) (hr : s.atRoutine b = true) (hpc : s.reg (Reg.BENCH.PC b) = 0x3880)
    (hw : s.sReg b 32 + 4 * s.sReg b 34 * s.sReg b 35 ≤ 262144) (hx : s.sReg b 36 + 4 * s.sReg b 35 ≤ 262144)
    (hy : s.sReg b 33 + 4 * s.sReg b 34 ≤ 262144) (hl : s.retStack b = l ++ [a]) :
    ∃ t, exec (.execMicroword b e) s = .next t ∧ t.reg (Reg.BENCH.PC b) = a ∧ t.retStack b = l
      ∧ (∀ x, x < scratchAddr b (s.sReg b 33) ∨ scratchAddr b (s.sReg b 33 + 4 * s.sReg b 34) ≤ x → t.byte x = s.byte x)
      ∧ ∀ i, (i < 32 → t.sReg b i = s.sReg b i) ∧ (i < 24 → t.vReg b i = s.vReg b i) ∧ (i < 12 → t.tReg b i = s.tReg b i) := by
  obtain ⟨t, ht, hpct, hret, hmem, -, hkept, -⟩ := exec_routine_returns (e := e) hrun hr (hpc ▸ State.routineTrap_gemv hw hx hy) hl
  rw [hpc] at hmem
  exact ⟨t, ht, hpct, hret, fun x hx => (State.byte_of_mem hmem x).trans (State.routine_stores (s.scrubRegs_mem b) x hx), hkept⟩

end

end Sys2Proof.Machine
end

section
/-! O57 settled. -/
open Sys2Proof Sys2Proof.Machine

/-- Settles O57, a clause for each microword: the fetch leaves the bench's registers, stacks and program counter, so what follows acts on
the state before it; an issue, and a vendor routine, change what their operations name. -/
theorem microwordsRun : Obligations.MicrowordsRun := by
  unfold Obligations.MicrowordsRun
  intro pc moves
  refine ⟨fun s b e m => exec_micro_idle, fun s b e m m' => exec_micro_other, fun s b e m => exec_next, fun s b e dst imm m => exec_loadimm,
    fun s b e target => exec_jump_shows, fun s b e target h => ⟨exec_call_shows h, exec_call_full h⟩, fun s b e h => ⟨exec_ret_empty h, exec_ret_shows h⟩,
    fun s b e target reg h => ⟨exec_loop_skip h, exec_loop_enters h, exec_loop_full h⟩, fun s b e => exec_trap_traps,
    fun s b e m nano imm n h hm hn => ⟨exec_issue_stalls h hm hn, fun he hs ht htiles next hnext h5 hw => ?_,
      fun hmem hcw htiles h5 hw hs => exec_issue_shows h hm hn hmem hcw htiles h5 hw hs⟩,
    fun s b e hrun hr => ⟨exec_fetch_past hrun hr, exec_fetch_lost hrun hr, exec_fetch_undefined hrun hr⟩, fun s b e m nano h hm => ?_,
    fun s b e hrun hr hpc => ⟨fun hout => exec_routine_traps hrun hr (State.routineTrap_out hpc hout), fun hsrc hdst =>
      ⟨exec_routine_uncalled hrun hr (State.routineTrap_none hpc hsrc hdst), fun l a => exec_routine_shows hrun hr hpc hsrc hdst⟩⟩,
    fun s b e l a hrun hr hpc hw hx hy => exec_gemv_shows hrun hr hpc hw hx hy⟩
  · rw [← Micro.goesOn_next hnext]
    exact exec_issue_performs h hm hn he hs ht htiles h5 hw
  · obtain ⟨imm, hissues⟩ := Micro.issues_of hm
    exact ⟨exec_nano_lost h hissues, exec_nano_undefined h hissues⟩

end
